-- ==== Sys2Proof/Word.lean ====
section
/-! DEFINITION. The plain words of the model: bytes, sparse tables, and fixed-width arithmetic on natural numbers. -/

namespace Sys2Proof

/-- A byte of a wire value, a frame or a memory. -/
abbrev Byte := BitVec 8

/-- A sparse table: keys strictly rising. What an unlisted key reads as is said where the table is used. -/
abbrev Tbl (α : Type) := List (Nat × α)

/-- Two's complement of `x` in `w` bits. -/
def wrap (w : Nat) (x : Int) : Nat := (x % (2 ^ w : Nat)).toNat

/-- The signed value of the low `w` bits of `n`. -/
def signed (w n : Nat) : Int :=
  let m := n % 2 ^ w
  if 2 * m < 2 ^ w then (m : Int) else (m : Int) - (2 ^ w : Nat)

/-- Bits `hi` down to `lo` of `n`. -/
def bits (n hi lo : Nat) : Nat := n / 2 ^ lo % 2 ^ (hi + 1 - lo)

/-- Ceiling division. -/
def ceilDiv (a b : Nat) : Nat := (a + b - 1) / b

end Sys2Proof
end

