-- ==== Sys2Proof/Syntax.lean ====
section
/-! DEFINITION. The commands of the block (spec/opcode_table.json) and the operands they carry. -/

namespace Sys2Proof

/-- Who a write comes from (R28, R59, R81, R98, R266): an open session, a multicast group, a catalogue bridge client
port of a bolt, a SESSION 0 frame on the service port, or the MGC servo. -/
inductive Who where
  | session (n : Fin 8)
  | group (g : Fin 16)
  | client (b : Fin 4)
  | service
  | servo
  deriving DecidableEq, Repr

/-- A time of execution (R19). `time` is a TIME96 value in ns. -/
inductive Toe where
  | none
  | pick (n : Nat)
  | time (ns : Nat)
  deriving DecidableEq, Repr

/-- What surrounds an entry write: who writes, whether the frame was critical, the time of execution and the
transaction number (R53, R59). -/
structure Req where
  who : Who
  crit : Bool
  toe : Toe
  trans : Nat
  deriving DecidableEq, Repr

/-- The ports CAP frames come through (R50, R491). -/
inductive MgtPort where
  | mgtA
  | mgtB
  | svc
  deriving DecidableEq, Repr

/-- The ports a bitstream comes through (R140, R160). -/
inductive LoadPort where
  | slave
  | icp (b : Fin 4)
  deriving DecidableEq, Repr

/-- The value of a catalogue entry: a number (signed types in two's complement; TIME96 in ns) or bytes. -/
inductive Val where
  | num (n : Nat)
  | oct (b : List Byte)
  deriving DecidableEq, Repr

/-- The types of R41 (RECORD values are sequences of fields and are handled as bytes). -/
inductive Ty where
  | bool | u8 | u16 | u32 | u48 | u64 | i8 | i16 | i32 | i48 | i64 | time96 | string | octets | record
  deriving DecidableEq, Repr

/-- The access codes of R6 without their suffixes. -/
inductive Acc where
  | ro | rw | wo | w1c | const
  deriving DecidableEq, Repr

/-- A row of the design's user entry table (R40, R77). -/
structure UserEntry where
  key : Nat := 0
  ty : Ty := .u32
  acc : Acc := .ro
  crit : Bool := false
  pers : Bool := false
  priv : Bool := false
  timed : Bool := false
  gallery : Nat := 0
  dflt : Val := .num 0
  lo : Int := 0
  hi : Int := 0
  maxLen : Nat := 0
  deriving DecidableEq, Repr

/-- How a signal leaving a panel is held while the panel is isolated (R163): at its latched value, or at a constant. -/
inductive Hold where
  | latch
  | const (v : Bool)
  deriving DecidableEq, Repr

/-- A panel of a static design: its frames in ascending address order (R146, R160), the logic tiles, block memories and pins
inside it (R157, R163), the wires that leave it with how each is held, and the wires that enter it with their compiled
constants (R163). -/
structure PanelDef where
  frames : List Nat := []
  tiles : List Nat := []
  mems : List Nat := []
  drivers : List Nat := []
  pins : List Nat := []
  outs : Tbl Hold := []
  ins : Tbl Bool := []
  deriving DecidableEq, Repr

/-- What the LUT of a memory tile serves as (R196). -/
inductive LutUse where
  | logic
  | ram
  | shift
  deriving DecidableEq, Repr

/-- A flip-flop of a logic element (R195): what it takes (the 6-input output, the 5-input output or the carry sum), which tile
clock, its clock enable and set/reset wires, whether it sets, and INIT. -/
structure FfDef where
  from_ : Fin 3 := 0
  clk : Fin 2 := 0
  ce : Option Nat := none
  sr : Option Nat := none
  sets : Bool := false
  init : Bool := false
  deriving DecidableEq, Repr

/-- A logic element (R194 to R196): its LUT contents, whether it is two 5-input LUTs, its six input wires, its use as a memory
with data and write enable, and its two flip-flops. -/
structure Elem where
  lut : Nat := 0
  dual : Bool := false
  ins : List Nat := []
  use : LutUse := .logic
  din : Nat := 0
  we : Option Nat := none
  clk : Fin 2 := 0
  ffs : List FfDef := []
  deriving DecidableEq, Repr

/-- A logic tile (R194, R195): its two tile clocks as regional drivers, whether set/reset is synchronous, the tile below it on
the carry chain, and its elements. -/
structure Tile where
  clocks : List Nat := []
  sync : Bool := true
  below : Option Nat := none
  elems : List Elem := []
  deriving DecidableEq, Repr

/-- A bidirectional long wire with its one configured driver (R197). -/
structure LongDef where
  source : Nat := 0
  enable : Nat := 0
  deriving DecidableEq, Repr

/-- Read-during-write modes (R199). -/
inductive WriteMode where
  | writeFirst
  | readFirst
  | noChange
  deriving DecidableEq, Repr

/-- A port of a block memory (R198, R199): shape 0 to 6 (64K × 1 to 1K × 72), mode, optional output register, its regional
driver, and its wires: enable, write enables (one, or one per byte), address and data, lowest bit first. -/
structure PortDef where
  shape : Fin 7 := 6
  mode : WriteMode := .writeFirst
  reg : Bool := false
  clk : Nat := 0
  en : Nat := 0
  we : List Nat := []
  addr : List Nat := []
  din : List Nat := []
  deriving DecidableEq, Repr

/-- A block memory outside queue mode: COMMON, ECC mode, its ports A and B, and its loaded contents by word of 72 bits
(R198 to R202). -/
structure BramDef where
  common : Bool := false
  ecc : Bool := false
  a : PortDef := {}
  b : PortDef := {}
  words : Tbl Nat := []
  deriving DecidableEq, Repr

/-- A block memory that the design compiles in queue mode (R203 to R206): its shape, and the output register of R199. -/
structure QueueDef where
  shape : Fin 7 := 6
  ecc : Bool := false
  reg : Bool := false
  common : Bool := false
  fwft : Bool := false
  af : Nat := 1
  ae : Nat := 1
  deriving DecidableEq, Repr

/-- What a bolt-global line or a driver source carries (R207, R208): an output of a user loop, a clock-capable pair of a bank, a
recovered lane clock, a timing-loop tap in MHz, or a bolt-global line. -/
inductive ClkSrc where
  | uloop (l out : Nat)
  | pair (bank ball : Nat)
  | lane (code : Nat)
  | tap (mhz : Nat)
  | line (n : Nat)
  deriving DecidableEq, Repr

/-- A regional driver as compiled (R208 to R211): its sources, select, divider, gate state and the hard-unit port it clocks. -/
structure DrvDef where
  a : ClkSrc := .tap 125
  b : ClkSrc := .tap 125
  toB : Bool := false
  div : Nat := 1
  gated : Bool := false
  port : Option Nat := none
  deriving DecidableEq, Repr

/-- The pull of a pin in operation (R214). -/
inductive Pull where
  | none
  | up
  | down
  | keeper
  deriving DecidableEq, Repr

/-- The compiled settings of a general I/O pin or selvage pin (R158, R214): drive in mA, slew, pull, filter in ns, I/O
registers (0 none, 1 single, 2 double data rate), hem-safe state (0 high-Z, 1 low, 2 high), input constant, and the wires
that drive the pin and its output enable. -/
structure IoDef where
  drive : Nat := 8
  slew : Nat := 0
  pull : Pull := .none
  filter : Nat := 0
  reg : Nat := 0
  hemSafe : Nat := 0
  inConst : Bool := false
  out : Option Nat := none
  oe : Option Nat := none
  deriving DecidableEq, Repr

/-- A seam channel as the design uses it (R176): the wires it sends (512 signals, or the 496 bits of a bundle, lowest first), and
for a bundle the wire of its valid and, at the receiving side, of its ready. -/
structure SeamDef where
  data : List Nat := []
  valid : Nat := 0
  ready : Nat := 0
  deriving DecidableEq, Repr

/-- An output of a user loop (R245): its frequency in kHz and the divider N of its floor, 1.0 GHz / N. -/
structure LoopOut where
  khz : Nat := 0
  floor : Nat := 256
  deriving DecidableEq, Repr

/-- What a full bitstream compiles into the device (the default 'compiled' of the tables): panels, the user entry
table, values of catalogue entries (selvage pin modes, port clocks, user loop references, channel classes, data rates),
logic tiles, long wires, block memories and queues, clock lines and regional drivers, pins, and route tables carried in
hard-unit frames (R422). The spec leaves what frames mean to the toolchain (log entry 5). -/
structure Compiled where
  panels : Tbl PanelDef := []
  users : List UserEntry := []
  bridgeBolt : Nat := 0
  entries : Tbl Val := []
  tiles : Tbl Tile := []
  longs : Tbl LongDef := []
  brams : Tbl BramDef := []
  queues : Tbl QueueDef := []
  lines : Tbl ClkSrc := []
  drivers : Tbl DrvDef := []
  uloops : Tbl (List LoopOut) := []
  ios : Tbl IoDef := []
  selvage : Tbl IoDef := []
  seams : Tbl SeamDef := []
  routes : Option (List Byte) := none
  deriving DecidableEq, Repr

/-- A NoC packet (R417, R418). -/
structure NocPkt where
  kind : Nat := 0
  epoch : Nat := 0
  cls : Nat := 0
  panic : Bool := false
  target : Nat := 0
  init : Nat := 0
  tag : Nat := 0
  keepOpen : Bool := false
  granules : Nat := 1
  addr : Nat := 0
  status : Nat := 0
  mask : Nat := 0
  data : List Byte := []
  deriving DecidableEq, Repr

/-- Bits of a lane's transfer that changed on the way: payload 0 to 255, CHECK 256 to 287, control word 288 to 299 (R416). -/
abbrev Flips := List (Fin 300)

/-- A head that waits for the same router output: its input port, and its rank (0 real-time with PANIC, 1 real-time, 2 best effort,
3 bulk; R421). -/
structure Waiter where
  port : Fin 8
  rank : Fin 4
  deriving DecidableEq, Repr

/-- A router on a packet's way (R412): the port it comes in by, the output it takes, and the heads that wait for that output as it
does. -/
structure Hop where
  router : Fin 96
  inPort : Fin 8
  outPort : Fin 8
  others : List Waiter := []
  deriving DecidableEq, Repr

/-- The data set that an Announce message carries, as the best master clock algorithm of IEEE 1588 compares it (R266). -/
structure PtpData where
  prio1 : Byte := 0
  clkClass : Byte := 0
  accuracy : Byte := 0
  variance : BitVec 16 := 0
  prio2 : Byte := 0
  grandmaster : List Byte := []
  steps : BitVec 16 := 0
  deriving DecidableEq, Repr

/-- What the MGC servo takes from a PTP message (R266), times in ns. -/
inductive ServoMsg where
  | announce (d : PtpData)
  | sync (origin received : Nat)
  | delayReq (sent : Nat)
  | delayResp (received : Nat)
  deriving DecidableEq, Repr

/-- A 66-bit block as a receiver sees it at its present alignment (R275, R277): its sync header, and whether it carries a
low-power-idle code. -/
structure LineBlock where
  header : BitVec 2 := 1
  lpi : Bool := false
  deriving DecidableEq, Repr

/-- A gate that waits for an idle report (R211, R247). -/
inductive IdleGate where
  | driver (d : Fin 1536)
  | unit (u : Fin 72)
  deriving DecidableEq, Repr

/-- A single-operating-point loop (R233, R250). -/
inductive HoldLoop where
  | floor (d : Fin 8)
  | memory (b : Fin 4)
  | seam (s : Fin 4)
  | lane (code : Nat)
  deriving DecidableEq, Repr

/-- What a spread write changes (R248). -/
inductive SpreadOf where
  | domain (d : Fin 8)
  | user (l : Fin 32)
  | memory (b : Fin 4)
  deriving DecidableEq, Repr

/-- A UDP datagram as it reaches a management port: source and destination IP address (16 bytes, IPv4 as IPv4-mapped) and
UDP port, and the payload (R50, R52). On the service port only the payload counts. -/
structure Datagram where
  srcIp : List Byte
  srcUdp : Nat
  dstIp : List Byte
  dstUdp : Nat
  bytes : List Byte
  deriving DecidableEq, Repr

/-- A value on a bridge port (R78): LEN, and the 64-bit words, the last of them with LAST; the first byte of a word lies in
[63:56]. -/
structure PortValue where
  len : Nat
  words : List (BitVec 64)
  deriving DecidableEq, Repr

/-- The commands: one constructor per row of spec/opcode_table.json, in its order. Operands named `r` are what
surrounds an entry write; `v` is a numeric value written; `bytes` is a value in wire encoding. -/
inductive Instr where
  -- chapter 01
  | pickBoundary (t : Fin 8)
  | beatBoundary (t : Fin 8)
  | shuttleStartRelease
  | firmwareActivation
  | seamChannelReinstatement (c : Fin 256)
  | nocLinkReinstatement (l : Fin 160)
  | engineReinstatement (e : Fin 8)
  | clusterReinstatement (c : Fin 64)
  | plannedSeamMend (c : Fin 256)
  | hemRelease (p : Fin 64)
  | takeArming
  | selvageWindowClose
  | selvageStatusDrive
  | gpiSample (levels brief : BitVec 64)
  | selvageUserPhaseResume
  | rulingSelectionWrite (r : Req) (v : Nat)
  | windowLengthWrite (r : Req) (v : Nat)
  -- chapter 02
  | capFrame (port : MgtPort) (d : Datagram)
  | segWriteTimeout (who : Who) (key : Nat)
  | cacheEntryExpiry (sess : Option (Fin 8)) (trans : Nat)
  | mcastDuplicateWindowEnd (g : Fin 16) (trans : Nat)
  | mcastAnswerRelease (g : Fin 16) (trans : Nat)
  | bridgeResponse (late : Bool) (taken status : Nat) (v : PortValue)
  | bridgeTimeout (taken : Nat)
  | clientPortRequest (b : Fin 4) (key : Nat) (write : Bool) (v : PortValue)
  -- chapter 03
  | halfOpenExpiry (n : Fin 8)
  | sessionIdleTimeout (n : Fin 8)
  | forceClose (r : Req) (n : Fin 8) (v : Nat)
  | hostKeyWrite (r : Req) (k : Fin 16) (bytes : List Byte)
  | curatorKeyInstall (bytes : List Byte)
  | keySlotEnable (r : Req) (k : Fin 16) (v : Nat)
  | groupKeyWrite (r : Req) (g : Fin 16) (bytes : List Byte)
  | assignmentRangeWrite (r : Req) (q : Fin 256) (sub : Fin 5) (bytes : List Byte)
  | deviceCounterExhausted (n : Fin 8)
  | eventRecord
  | notificationSend (n : Fin 8)
  | fabricEventRaise (b : Fin 4) (num : BitVec 8) (xlen : BitVec 6) (data : List Byte)
  | fabricEventTake (b : Fin 4)
  | evtClr (b : Fin 4) (line : Fin 64) (raised : Bool)
  | longOpStart (r : Req) (k : Fin 64) (kind target : Nat) (params : List Byte)
  | longOpSuspend (r : Req) (k : Fin 64)
  | longOpResume (r : Req) (k : Fin 64)
  | longOpCancel (r : Req) (k : Fin 64)
  | longOpRelease (r : Req) (k : Fin 64)
  | longOpTargetAvailable (k : Fin 64)
  | longOpSafePoint (k : Fin 64)
  | longOpWorkComplete (k : Fin 64) (data : List Byte)
  | longOpUndoComplete (k : Fin 64)
  | longOpError (k : Fin 64) (status detail : Nat)
  -- chapter 04
  | powerGood (xoSel pullSel : Bool)
  | vccMgcLow
  | capServiceStart
  | vaultUnsealed
  | allAreasServed
  | regulatorSilent (b : Fin 4) (rail : Fin 3)
  | voltageReadback (d : Fin 8) (mv : Nat)
  | railOutOfTolerance (rail : Fin 146) (mv : Nat)
  | devReset (lowNs : Nat)
  | devResetRelease (pullSel : Bool)
  | thermalWarning (b : Fin 4) (sensor : Fin 16) (temp : Int)
  | thermalTrip (b : Fin 4) (sensor : Fin 16) (temp : Int)
  | thermalHoldEnd (temp : Int)
  -- chapter 05
  | clearWrite (r : Req) (v : Nat)
  | clearComplete (mode : Fin 4) (initHigh : Bool)
  | cfgSelNFall
  | syncWord (port : LoadPort)
  | bitstreamHeader (port : LoadPort) (ws : List Nat)
  | bitstreamFrame (port : LoadPort) (ws : List Nat) (contends : Bool)
  | endWord (port : LoadPort) (trailer : List Nat) (design : Compiled)
  | endChecksDone (port : LoadPort)
  | earlyEnd (port : LoadPort)
  | seamTrainingComplete (failed : List (Fin 256 × Fin 536))
  | startup
  | flipflopHoldLift
  | userIoRelease
  | cfgDoneRelease
  | icpLoadBegin (b : Fin 4)
  | icpIsolate (b : Fin 4) (mask : BitVec 16)
  | isolate (r : Req) (p : Fin 64) (v : Nat)
  | release (r : Req) (p : Fin 64) (v : Nat)
  -- chapter 06
  | checkWireMismatch (c : Fin 256) (cycle : Nat) (wires : BitVec 536)
  | wireFailureDeclared (c : Fin 256) (k : Fin 8)
  | failedWireLocalised (c : Fin 256) (wire : Fin 536) (last : Bool)
  | suddenMendComplete (c : Fin 256) (dur : Nat)
  | channelNarrowed (c : Fin 256) (dur : Nat)
  | wirePredicted (c : Fin 256) (wire : Fin 536) (margin : Nat)
  | darningShadowTrained (c : Fin 256) (wire : Fin 536)
  | seamRetrain (r : Req) (c : Fin 256) (v : Nat)
  | seamShadowReady (c : Fin 256) (passed : List (Fin 536 × Nat))
  | seamReinstate (r : Req) (c : Fin 256) (v : Nat)
  -- chapter 07
  | bramEccRead (b : Fin 4) (m : Fin 3072) (word : Fin 1024) (portB : Bool) (flips : BitVec 72)
  | qWrite (q : Fin 12288) (d : BitVec 72) (readToo : Bool)
  | qRead (q : Fin 12288) (flips : BitVec 72)
  | qRst (q : Fin 12288) (level : Bool)
  | qThrWe (q : Fin 12288) (d : BitVec 34)
  | clockMuxSwitch (drv : Fin 1536) (toB oldEdge newEdge : Bool)
  | muxSourceTimeout (drv : Fin 1536) (newSource : Bool)
  | dividerChange (drv : Fin 1536) (n : Fin 8)
  | ceFall (drv : Fin 1536)
  | ceRise (drv : Fin 1536)
  | portIdleReport (g : IdleGate)
  | gateIdleTimeout (drv : Fin 1536)
  | bankUnpowered (b : Fin 4) (k : Fin 24)
  | bankPowered (b : Fin 4) (k : Fin 24)
  | tally (r : Req) (p : Fin 64) (v : Nat)
  -- chapter 08
  | sourceLost (src : Fin 3)
  | sourceQualified (src : Fin 3)
  | refSel (r : Req) (v : Nat)
  | xoInLost
  | xoInReturned
  | timingLoopLocked (offset : Int)
  | tlRelock (r : Req) (v : Nat)
  | singleOpLoopUnlock (loop : HoldLoop)
  | loopAcquireRetry (loop : HoldLoop) (ok : Bool)
  | targetOp (r : Req) (d : Fin 8) (v : Nat)
  | raiseRampStart (d : Fin 8)
  | untimedRaiseAbandon (d : Fin 8)
  | lowerVoltageWrite (d : Fin 8)
  | mainLoopUnlock (d : Fin 8)
  | mainLoopRelock (d : Fin 8)
  | domainAutoRestore (d : Fin 8)
  | domainClockStart (d : Fin 8)
  | userLoopUnlock (l : Fin 32)
  | userLoopAutoRestore (l : Fin 32)
  | userLoopRestore (r : Req) (l : Fin 32) (v : Nat)
  | gate (r : Req) (u : Fin 72) (v : Nat)
  | gateRequestTimeout (u : Fin 72)
  | spreadWrite (r : Req) (target : SpreadOf) (v : Nat)
  -- chapter 09
  | increment (r : Req) (t : Fin 8) (v : Nat)
  | slew (r : Req) (t : Fin 8) (inc cycles : Nat)
  | slewEnd (t : Fin 8)
  | step (r : Req) (t : Fin 8) (ns : Int)
  | forceStep (r : Req) (t : Fin 8) (ns : Int)
  | stepApply (t : Fin 8)
  | setTime (r : Req) (t : Fin 8) (ns : Nat)
  | arm (r : Req) (t : Fin 8)
  | disarm (r : Req) (t : Fin 8)
  | snap (r : Req) (v : Nat)
  | pickGeneratorWrite (r : Req) (t : Fin 8) (sub : Fin 5) (bytes : List Byte)
  | ptpEventTimestamp (u : Fin 178) (egress : Bool) (frame : List Byte)
  | servoPtpMessage (t : Fin 8) (k : Fin 32) (domain : Byte) (source : List Byte) (m : ServoMsg)
  | servoMode (r : Req) (t : Fin 8) (v : Nat)
  | triggerUnitWrite (r : Req) (u : Fin 64) (sub : Fin 10) (bytes : List Byte)
  | compareInstant (u : Fin 64)
  | triggerWidthEnd (u : Fin 64)
  | captureEdge (u : Fin 64) (rising : Bool)
  -- chapter 10
  | blockLockGain (l : Nat) (blocks : List LineBlock)
  | blockLockLoss (l : Nat) (blocks : List LineBlock)
  | laneUnlockTimeout (l : Nat)
  | ladderWord (l : Nat) (w : BitVec 64)
  | rungStepTimeout (l : Nat)
  | standardBringupDone (l : Nat) (result : Fin 3)
  | laserLit (e : Fin 8) (power : Int)
  | laserDark (e : Fin 8) (power : Int)
  | engineFault (e : Fin 8) (cause : Fin 2) (enters : Bool) (temp : Int)
  | portMode (r : Req) (k : Fin 30) (sub : Fin 3) (v : Nat)
  | laneFailure (l : Nat) (cause : Fin 4)
  | reformComplete (sp : Fin 178) (dur : Nat)
  | reformPartnerTimeout (sp : Fin 178)
  | shadowLaneRetry (l : Nat)
  | laneShadowReady (l : Nat)
  | restore (r : Req) (sp : Fin 178) (v : Nat)
  | restoreComplete (sp : Fin 178)
  | restorePartnerTimeout (sp : Fin 178)
  | mgtLinkChange (m : Fin 2) (up : Bool) (speed : Nat)
  | laneGroupStart (i : Fin 30)
  -- chapter 11
  | subportBinding (r : Req) (u : Fin 178) (v : Nat)
  | rxFrame (u : Fin 178) (fcsOk : Bool) (bytes : List Byte)
  | rxFlowEnable (r : Req) (e : Fin 8) (f : Fin 4096)
  | rxFlowDisable (r : Req) (e : Fin 8) (f : Fin 4096)
  | packetRelease (e : Fin 8) (f : Fin 4096)
  | flowStarve (e : Fin 8) (f : Fin 4096)
  | legSilence (e : Fin 8) (f : Fin 4096) (legB : Bool)
  | legUp (e : Fin 8) (f : Fin 4096) (legB : Bool)
  | marginSecondEnd (e : Fin 8) (f : Fin 4096)
  | readAheadStart (e : Fin 8) (f : Fin 4096)
  | storeFrameWritten (e : Fin 8) (f : Fin 4096)
  | essenceWordTaken (e : Fin 8) (i : Fin 16)
  -- chapter 12
  | txFlowEnable (r : Req) (e : Fin 8) (f : Fin 4096)
  | txFlowDisable (r : Req) (e : Fin 8) (f : Fin 4096)
  | transmitEssenceWord (e : Fin 8) (i : Fin 16) (tag : BitVec 64) (data : BitVec 512)
  | ringSlotRead (e : Fin 8) (f : Fin 4096)
  | txDeparture (e : Fin 8) (f : Fin 4096)
  | class0DiscardTimeout (e : Fin 8) (f : Fin 4096)
  | take (r : Req) (e : Fin 8) (f : Fin 4096) (bytes : List Byte)
  | remove (r : Req) (e : Fin 8) (v : Nat)
  | engineInternalFault (e : Fin 8) (fault : Fin 4)
  | engineShadow (r : Req) (e : Fin 8) (v : Nat)
  | engineShadowReady (e : Fin 8)
  | engineReinstate (r : Req) (e : Fin 8) (v : Nat)
  -- chapter 14: the instruction the shuttle's program counter stands at
  | qMac (h : Fin 512)
  | aluNop (h : Fin 512)
  | add (h : Fin 512)
  | sub (h : Fin 512)
  | adds (h : Fin 512)
  | subs (h : Fin 512)
  | and (h : Fin 512)
  | or (h : Fin 512)
  | xor (h : Fin 512)
  | andn (h : Fin 512)
  | lsl (h : Fin 512)
  | lsr (h : Fin 512)
  | asr (h : Fin 512)
  | min (h : Fin 512)
  | max (h : Fin 512)
  | abs (h : Fin 512)
  | neg (h : Fin 512)
  | cmp (h : Fin 512)
  | tst (h : Fin 512)
  | mov (h : Fin 512)
  | padd24 (h : Fin 512)
  | psub24 (h : Fin 512)
  | padd12 (h : Fin 512)
  | psub12 (h : Fin 512)
  | mva (h : Fin 512)
  | ldaw (h : Fin 512)
  | clra (h : Fin 512)
  | mvco (h : Fin 512)
  | mvci (h : Fin 512)
  | addci (h : Fin 512)
  | ldi (h : Fin 512)
  | movr (h : Fin 512)
  | ldm (h : Fin 512)
  | stm (h : Fin 512)
  | ctrlNop (h : Fin 512)
  | br (h : Fin 512)
  | dbnz (h : Fin 512)
  | rpt (h : Fin 512)
  | rptr (h : Fin 512)
  | wait (h : Fin 512)
  | waitLimit (h : Fin 512)
  | endRun (h : Fin 512)
  | rti (h : Fin 512)
  | invalidInstruction (h : Fin 512)
  | instructionFetchDbe (h : Fin 512)
  | interruptTake (h : Fin 512)
  | runComplete (h : Fin 512)
  | shuttleEventInput (h : Fin 512) (i : Fin 4)
  | imageWrite (r : Req) (h : Fin 512) (bytes : List Byte)
  | dataMemoryWrite (r : Req) (h : Fin 512) (bytes : List Byte)
  | bindingEnable (r : Req) (h : Fin 512) (k : Fin 4) (v : Nat)
  | run (r : Req) (h : Fin 512) (v : Nat)
  | mapout (r : Req) (h : Fin 512) (v : Nat)
  | mailbox (r : Req) (h : Fin 512) (v : Nat)
  | rptCeiling (r : Req) (h : Fin 512) (v : Nat)
  | clusterReinstate (r : Req) (c : Fin 64) (v : Nat)
  | shsInWord (h : Fin 512) (port : Bool) (w : BitVec 48)
  | shsOutWord (h : Fin 512) (port : Bool)
  | fetchComplete (h : Fin 512) (failAt : Option Nat)
  -- chapter 15
  | nocRequestAtTarget (p : NocPkt) (way : List Hop) (flips : List (Nat × Nat))
  | nocResponseAtInitiator (p : NocPkt) (way : List Hop) (flips : List (Nat × Nat))
  | linkReplay (l : Fin 160) (back : Bool) (k : Option (Fin 32)) (lane0 lane1 : Flips)
  | nocLaneFailed (l : Fin 160) (lane : Fin 4) (transfers : List Flips)
  | linkNarrow (l : Fin 160) (dur : Nat)
  | nocTimeout (i : Fin 1024) (tag : Fin 4096)
  | swap (r : Req) (v : Nat)
  | routeTableSwap
  | oldEpochDrained
  | linkRetrain (r : Req) (l : Fin 160) (v : Nat)
  | linkShadowReady (l : Fin 160) (ok : Bool)
  | linkReinstate (r : Req) (l : Fin 160) (v : Nat)
  | targetNiDrained (t : Fin 96)
  | statsClear (r : Req) (v : Nat)
  | fabricPortRequest (b : Fin 4) (j : Fin 8) (p : NocPkt)
  -- chapter 16
  | refreshDue (c : Fin 32) (rank : Fin 2)
  | panicHoldEnd (c : Fin 32)
  | powerDownEntry (c : Fin 32) (rank : Fin 2)
  | channelTracking (c : Fin 32) (mr4 : BitVec 3) (mr4Ok patternOk : Bool)
  | channelTrainingEnd (c : Fin 32) (ranks : Fin 3) (density : Nat) (failedStep : Option (Fin 6))
  -- chapter 17
  | slotEnable (r : Req) (k : Fin 16)
  | slotDisable (r : Req) (k : Fin 16)
  | slotInitialised (k : Fin 16)
  | protectedReadChecked
  | haltRecordCommit
  | minorOverflowComplete (k : Fin 16)
  | counterNodeEviction (k : Fin 16) (level idx : Nat)
  | rekeyGroupConversion (k : Fin 16)
  | autoRekeyStart (k : Fin 16)
  -- chapter 18
  | svcSend (bytes : List Byte)
  | svcReceive
  | svcPoll
  | stagingOpen (r : Req) (n : Nat)
  | chunkWrite (r : Req) (idx : Nat) (data : List Byte) (crc : Nat)
  | packageVerification
  | stagingExpiry
  | activate (r : Req) (v : Nat)
  | activationPrepared (failed : Option (Fin 6))
  | mgcConfirm
  | confirmTimeout
  -- the rows at the end of the table
  | bringupRetry (sp : Fin 178)
  | userLoopRelock (l : Fin 32)
  | cfgInitNRise (mode : Fin 4)
  | railInTolerance (rail : Fin 146)
  | thermalWarningRearm (temp : Int)
  | builtInPatternTestDone (e : Fin 8)
  | memoryAccessComplete (target : Fin 64) (ix : Nat) (upsets : List (BitVec 26 × Bool))
  | fabricTargetResponse (b : Fin 4) (j : Fin 8) (p : NocPkt)
  | qFlagFall (q : Fin 12288) (readSide : Bool)
  deriving DecidableEq, Repr

end Sys2Proof
end

