-- ==== Sys2Proof/WellFormed.lean ====
section
/-! DEFINITION. Well-formed commands: operands that the interface they come by can carry. The meanings are total and do not
rely on it. -/

namespace Sys2Proof

/-- A client port's request is not critical and carries no time of execution (R81). -/
def Req.clientPlain (r : Req) : Bool :=
  match r.who with
  | .client _ => !r.crit && r.toe == .none
  | _ => true

/-- A datagram's addresses have 16 bytes, its ports 16 bits, and its payload fits IPv4 (R50, R51). -/
def Datagram.wf (d : Datagram) : Bool :=
  d.srcIp.length == 16 && d.dstIp.length == 16 && d.srcUdp < 2 ^ 16 && d.dstUdp < 2 ^ 16 && d.bytes.length ≤ 65507

/-- A port value has at most 4,096 bytes, the words that hold them, and zeros in the unused bytes of the last (R78). -/
def PortValue.wf (v : PortValue) : Bool :=
  v.len ≤ 4096 && v.words.length == (v.len + 7) / 8
    && (v.words.getLast?.map fun w => w.toNat % 256 ^ (8 * v.words.length - v.len) == 0).getD true

/-- A writer over the catalogue, a TIME96 or a 64-bit pick, a 32-bit transaction number (R41, R53). The servo writes by no
command. -/
def Req.wf (r : Req) : Bool :=
  r.who != .servo && decide (r.trans < 2 ^ 32) && r.clientPlain &&
    match r.toe with
    | .none => true
    | .pick n => n < 2 ^ 64
    | .time ns => ns < 2 ^ 64 * 1000000000

/-- The fields of a NoC packet (R417, R418). -/
def NocPkt.wf (p : NocPkt) : Bool :=
  p.kind < 16 && p.epoch < 2 && p.cls < 4 && p.target < 256 && p.init < 1024 && p.tag < 4096 && 1 ≤ p.granules
    && p.granules ≤ 16 && p.addr < 2 ^ 48 && p.status < 2 ^ 16 && p.mask < 2 ^ 64 && p.data.length ≤ 1024

/-- Codes of lanes: fast, general, optical, management (R274). -/
def laneCode (l : Nat) : Bool := l < 48 || (0x100 ≤ l && l < 0x140) || (0x200 ≤ l && l < 0x240) || l == 0x300 || l == 0x301

/-- Whether a command's operands fit their wires. -/
def WellFormed : Instr → Bool
  | .pickBoundary _ => true
  | .beatBoundary _ => true
  | .shuttleStartRelease => true
  | .firmwareActivation => true
  | .seamChannelReinstatement _ => true
  | .nocLinkReinstatement _ => true
  | .engineReinstatement _ => true
  | .clusterReinstatement _ => true
  | .plannedSeamMend _ => true
  | .hemRelease _ => true
  | .takeArming => true
  | .selvageWindowClose => true
  | .selvageStatusDrive => true
  | .gpiSample _ _ => true
  | .selvageUserPhaseResume => true
  | .rulingSelectionWrite r v => r.wf && decide (v < 2 ^ 64)
  | .windowLengthWrite r v => r.wf && decide (v < 2 ^ 64)
  | .capFrame _ d => d.wf
  | .segWriteTimeout _ key => decide (key < 2 ^ 32)
  | .cacheEntryExpiry _ tr => decide (tr < 2 ^ 32)
  | .mcastDuplicateWindowEnd _ tr => decide (tr < 2 ^ 32)
  | .mcastAnswerRelease _ tr => decide (tr < 2 ^ 32)
  | .bridgeResponse _ taken status v => decide (taken < 2 ^ 64) && decide (status < 2 ^ 16) && v.wf
  | .bridgeTimeout taken => decide (taken < 2 ^ 64)
  | .clientPortRequest _ key _ v => decide (key < 2 ^ 32) && v.wf
  | .halfOpenExpiry _ => true
  | .sessionIdleTimeout _ => true
  | .forceClose r _ v => r.wf && decide (v < 2 ^ 64)
  | .hostKeyWrite r _ bytes => r.wf && decide (bytes.length ≤ 4096)
  | .curatorKeyInstall bytes => decide (bytes.length ≤ 4096)
  | .keySlotEnable r _ v => r.wf && decide (v < 2 ^ 64)
  | .groupKeyWrite r _ bytes => r.wf && decide (bytes.length ≤ 4096)
  | .assignmentRangeWrite r _ _ bytes => r.wf && decide (bytes.length ≤ 4096)
  | .deviceCounterExhausted _ => true
  | .eventRecord => true
  | .notificationSend _ => true
  | .fabricEventRaise _ _ _ data => decide (data.length ≤ 4096)
  | .fabricEventTake _ => true
  | .evtClr _ _ _ => true
  | .longOpStart r _ kind target params => r.wf && decide (kind < 2 ^ 8) && decide (target < 2 ^ 32) && decide (params.length ≤ 4096)
  | .longOpSuspend r _ => r.wf
  | .longOpResume r _ => r.wf
  | .longOpCancel r _ => r.wf
  | .longOpRelease r _ => r.wf
  | .longOpTargetAvailable _ => true
  | .longOpSafePoint _ => true
  | .longOpWorkComplete _ data => decide (data.length ≤ 4096)
  | .longOpUndoComplete _ => true
  | .longOpError _ status detail => decide (status < 2 ^ 16) && decide (detail < 2 ^ 32)
  | .powerGood _ _ => true
  | .vccMgcLow => true
  | .capServiceStart => true
  | .vaultUnsealed => true
  | .allAreasServed => true
  | .regulatorSilent _ _ => true
  | .voltageReadback _ mv => decide (mv < 2 ^ 16)
  | .railOutOfTolerance _ mv => decide (mv < 2 ^ 16)
  | .devReset lowNs => decide (lowNs < 2 ^ 64)
  | .devResetRelease _ => true
  | .thermalWarning _ _ temp => -(2 ^ 31) ≤ temp && temp < 2 ^ 31
  | .thermalTrip _ _ temp => -(2 ^ 31) ≤ temp && temp < 2 ^ 31
  | .thermalHoldEnd temp => -(2 ^ 31) ≤ temp && temp < 2 ^ 31
  | .clearWrite r v => r.wf && decide (v < 2 ^ 64)
  | .clearComplete _ _ => true
  | .cfgSelNFall => true
  | .syncWord _ => true
  | .bitstreamHeader _ ws => ws.all (· < 2 ^ 32)
  | .bitstreamFrame _ ws _ => ws.all (· < 2 ^ 32)
  | .endWord _ trailer _ => trailer.all (· < 2 ^ 32)
  | .endChecksDone _ => true
  | .earlyEnd _ => true
  | .seamTrainingComplete _ => true
  | .startup => true
  | .flipflopHoldLift => true
  | .userIoRelease => true
  | .cfgDoneRelease => true
  | .icpLoadBegin _ => true
  | .icpIsolate _ _ => true
  | .isolate r _ v => r.wf && decide (v < 2 ^ 64)
  | .release r _ v => r.wf && decide (v < 2 ^ 64)
  | .checkWireMismatch _ cycle _ => decide (cycle < 2 ^ 64)
  | .wireFailureDeclared _ _ => true
  | .failedWireLocalised _ _ _ => true
  | .suddenMendComplete _ dur => decide (dur < 2 ^ 64)
  | .channelNarrowed _ dur => decide (dur < 2 ^ 64)
  | .wirePredicted _ _ margin => decide (margin < 2 ^ 8)
  | .darningShadowTrained _ _ => true
  | .seamRetrain r _ v => r.wf && decide (v < 2 ^ 64)
  | .seamShadowReady _ _ => true
  | .seamReinstate r _ v => r.wf && decide (v < 2 ^ 64)
  | .bramEccRead _ _ _ _ _ => true
  | .qWrite _ _ _ => true
  | .qRead _ _ => true
  | .qRst _ _ => true
  | .qThrWe _ _ => true
  | .clockMuxSwitch _ _ _ _ => true
  | .muxSourceTimeout _ _ => true
  | .dividerChange _ _ => true
  | .ceFall _ => true
  | .ceRise _ => true
  | .portIdleReport _ => true
  | .gateIdleTimeout _ => true
  | .bankUnpowered _ _ => true
  | .bankPowered _ _ => true
  | .tally r _ v => r.wf && decide (v < 2 ^ 64)
  | .sourceLost _ => true
  | .sourceQualified _ => true
  | .refSel r v => r.wf && decide (v < 2 ^ 64)
  | .xoInLost => true
  | .xoInReturned => true
  | .timingLoopLocked offset => -(2 ^ 31) ≤ offset && offset < 2 ^ 31
  | .tlRelock r v => r.wf && decide (v < 2 ^ 64)
  | .singleOpLoopUnlock _ => true
  | .loopAcquireRetry _ _ => true
  | .targetOp r _ v => r.wf && decide (v < 2 ^ 64)
  | .raiseRampStart _ => true
  | .untimedRaiseAbandon _ => true
  | .lowerVoltageWrite _ => true
  | .mainLoopUnlock _ => true
  | .mainLoopRelock _ => true
  | .domainAutoRestore _ => true
  | .domainClockStart _ => true
  | .userLoopUnlock _ => true
  | .userLoopAutoRestore _ => true
  | .userLoopRestore r _ v => r.wf && decide (v < 2 ^ 64)
  | .gate r _ v => r.wf && decide (v < 2 ^ 64)
  | .gateRequestTimeout _ => true
  | .spreadWrite r _ v => r.wf && decide (v < 2 ^ 64)
  | .increment r _ v => r.wf && decide (v < 2 ^ 64)
  | .slew r _ inc cycles => r.wf && decide (inc < 2 ^ 48) && decide (cycles < 2 ^ 32)
  | .slewEnd _ => true
  | .step r _ ns => r.wf && -(2 ^ 63) ≤ ns && ns < 2 ^ 63
  | .forceStep r _ ns => r.wf && -(2 ^ 63) ≤ ns && ns < 2 ^ 63
  | .stepApply _ => true
  | .setTime r _ ns => r.wf && decide (ns < 2 ^ 64)
  | .arm r _ => r.wf
  | .disarm r _ => r.wf
  | .snap r v => r.wf && decide (v < 2 ^ 64)
  | .pickGeneratorWrite r _ _ bytes => r.wf && decide (bytes.length ≤ 4096)
  | .ptpEventTimestamp _ _ frame => decide (frame.length ≤ 9216)
  | .servoPtpMessage _ _ _ source _ => source.length == 10
  | .servoMode r _ v => r.wf && decide (v < 2 ^ 64)
  | .triggerUnitWrite r _ _ bytes => r.wf && decide (bytes.length ≤ 4096)
  | .compareInstant _ => true
  | .triggerWidthEnd _ => true
  | .captureEdge _ _ => true
  | .blockLockGain l _ => laneCode l
  | .blockLockLoss l _ => laneCode l
  | .laneUnlockTimeout l => laneCode l
  | .ladderWord l _ => laneCode l
  | .rungStepTimeout l => laneCode l
  | .standardBringupDone l _ => laneCode l
  | .laserLit _ power => -(2 ^ 31) ≤ power && power < 2 ^ 31
  | .laserDark _ power => -(2 ^ 31) ≤ power && power < 2 ^ 31
  | .engineFault _ _ _ temp => -(2 ^ 31) ≤ temp && temp < 2 ^ 31
  | .portMode r _ _ v => r.wf && decide (v < 2 ^ 64)
  | .laneFailure l _ => laneCode l
  | .reformComplete _ dur => decide (dur < 2 ^ 64)
  | .reformPartnerTimeout _ => true
  | .shadowLaneRetry l => laneCode l
  | .laneShadowReady l => laneCode l
  | .restore r _ v => r.wf && decide (v < 2 ^ 64)
  | .restoreComplete _ => true
  | .restorePartnerTimeout _ => true
  | .mgtLinkChange _ _ speed => decide (speed < 2 ^ 32)
  | .laneGroupStart _ => true
  | .subportBinding r _ v => r.wf && decide (v < 2 ^ 64)
  | .rxFrame _ _ bytes => decide (bytes.length ≤ 9216)
  | .rxFlowEnable r _ _ => r.wf
  | .rxFlowDisable r _ _ => r.wf
  | .packetRelease _ _ => true
  | .flowStarve _ _ => true
  | .legSilence _ _ _ => true
  | .legUp _ _ _ => true
  | .marginSecondEnd _ _ => true
  | .readAheadStart _ _ => true
  | .storeFrameWritten _ _ => true
  | .essenceWordTaken _ _ => true
  | .txFlowEnable r _ _ => r.wf
  | .txFlowDisable r _ _ => r.wf
  | .transmitEssenceWord _ _ _ _ => true
  | .ringSlotRead _ _ => true
  | .txDeparture _ _ => true
  | .class0DiscardTimeout _ _ => true
  | .take r _ _ bytes => r.wf && decide (bytes.length ≤ 4096)
  | .remove r _ v => r.wf && decide (v < 2 ^ 64)
  | .engineInternalFault _ _ => true
  | .engineShadow r _ v => r.wf && decide (v < 2 ^ 64)
  | .engineShadowReady _ => true
  | .engineReinstate r _ v => r.wf && decide (v < 2 ^ 64)
  | .qMac _ => true
  | .aluNop _ => true
  | .add _ => true
  | .sub _ => true
  | .adds _ => true
  | .subs _ => true
  | .and _ => true
  | .or _ => true
  | .xor _ => true
  | .andn _ => true
  | .lsl _ => true
  | .lsr _ => true
  | .asr _ => true
  | .min _ => true
  | .max _ => true
  | .abs _ => true
  | .neg _ => true
  | .cmp _ => true
  | .tst _ => true
  | .mov _ => true
  | .padd24 _ => true
  | .psub24 _ => true
  | .padd12 _ => true
  | .psub12 _ => true
  | .mva _ => true
  | .ldaw _ => true
  | .clra _ => true
  | .mvco _ => true
  | .mvci _ => true
  | .addci _ => true
  | .ldi _ => true
  | .movr _ => true
  | .ldm _ => true
  | .stm _ => true
  | .ctrlNop _ => true
  | .br _ => true
  | .dbnz _ => true
  | .rpt _ => true
  | .rptr _ => true
  | .wait _ => true
  | .waitLimit _ => true
  | .endRun _ => true
  | .rti _ => true
  | .invalidInstruction _ => true
  | .instructionFetchDbe _ => true
  | .interruptTake _ => true
  | .runComplete _ => true
  | .shuttleEventInput _ _ => true
  | .imageWrite r _ bytes => r.wf && decide (bytes.length ≤ 32900)
  | .dataMemoryWrite r _ bytes => r.wf && decide (bytes.length ≤ 98304)
  | .bindingEnable r _ _ v => r.wf && decide (v < 2 ^ 64)
  | .run r _ v => r.wf && decide (v < 2 ^ 64)
  | .mapout r _ v => r.wf && decide (v < 2 ^ 64)
  | .mailbox r _ v => r.wf && decide (v < 2 ^ 64)
  | .rptCeiling r _ v => r.wf && decide (v < 2 ^ 64)
  | .clusterReinstate r _ v => r.wf && decide (v < 2 ^ 64)
  | .shsInWord _ _ _ => true
  | .shsOutWord _ _ => true
  | .fetchComplete _ _ => true
  | .nocRequestAtTarget p _ _ => p.wf
  | .nocResponseAtInitiator p _ _ => p.wf
  | .linkReplay _ _ _ _ _ => true
  | .nocLaneFailed _ _ _ => true
  | .linkNarrow _ dur => decide (dur < 2 ^ 64)
  | .nocTimeout _ _ => true
  | .swap r v => r.wf && decide (v < 2 ^ 64)
  | .routeTableSwap => true
  | .oldEpochDrained => true
  | .linkRetrain r _ v => r.wf && decide (v < 2 ^ 64)
  | .linkShadowReady _ _ => true
  | .linkReinstate r _ v => r.wf && decide (v < 2 ^ 64)
  | .targetNiDrained _ => true
  | .statsClear r v => r.wf && decide (v < 2 ^ 64)
  | .fabricPortRequest _ _ p => p.wf
  | .refreshDue _ _ => true
  | .panicHoldEnd _ => true
  | .powerDownEntry _ _ => true
  | .channelTracking _ _ _ _ => true
  | .channelTrainingEnd _ _ density _ => decide (density < 2 ^ 8)
  | .slotEnable r _ => r.wf
  | .slotDisable r _ => r.wf
  | .slotInitialised _ => true
  | .protectedReadChecked => true
  | .haltRecordCommit => true
  | .minorOverflowComplete _ => true
  | .counterNodeEviction _ level idx => decide (level < 2 ^ 8) && decide (idx < 2 ^ 48)
  | .rekeyGroupConversion _ => true
  | .autoRekeyStart _ => true
  | .svcSend bytes => decide (bytes.length ≤ 65535)
  | .svcReceive => true
  | .svcPoll => true
  | .stagingOpen r n => r.wf && decide (n < 2 ^ 64)
  | .chunkWrite r idx data crc => r.wf && decide (idx < 2 ^ 48) && decide (data.length ≤ 4096) && decide (crc < 2 ^ 32)
  | .packageVerification => true
  | .stagingExpiry => true
  | .activate r v => r.wf && decide (v < 2 ^ 64)
  | .activationPrepared _ => true
  | .mgcConfirm => true
  | .confirmTimeout => true
  | .bringupRetry _ => true
  | .userLoopRelock _ => true
  | .cfgInitNRise _ => true
  | .railInTolerance _ => true
  | .thermalWarningRearm temp => -(2 ^ 31) ≤ temp && temp < 2 ^ 31
  | .builtInPatternTestDone _ => true
  | .memoryAccessComplete _ ix _ => decide (ix < 2 ^ 64)
  | .fabricTargetResponse _ _ p => p.wf
  | .qFlagFall _ _ => true

end Sys2Proof
end

