-- ==== Sys2Proof/Config.lean ====
section
/-! DEFINITION. What an implementation fixes and the spec leaves open: the free values. -/

namespace Sys2Proof.Config

/-- FREE VALUE: the `n`-th value drawn where the spec says a value is random, undefined or not stated
(R85, R330, R467, R442; log entry 9). Nothing constrains it: a user takes it modulo its width. -/
opaque freeBits (n : Nat) : Nat

/-- FREE VALUE: the contents of the factory topology map and route table of the unit (R436 `090012h:00`, 'per unit'),
of which the spec gives the layout and no contents (log entry 4). -/
opaque factoryByte (i : Nat) : Byte

/-- FREE VALUE: the Jareri signing key in the fuses, of which the spec gives no value (R489, log entry 4). -/
opaque jareriByte (i : Nat) : Byte

/-- FREE VALUE: what a lane or engine measures for an entry in a cycle, of which the spec gives the unit and no value (R298: eye
height, optical powers; log entry 28). -/
opaque measured (key cycle : Nat) : Nat

/-- FREE VALUE: the whitening sequence of wire `wire` of seam channel `c`, `n` seam-clock cycles after training, of which the spec
says only that both ends run it in step (R178, log entry 24). -/
opaque whiten (c wire n : Nat) : Bool

/-- FREE VALUE: the 8 SECDED check bits of a 64-bit word, of which the spec gives no code (R201, log entry 25). -/
opaque eccCheck (data : Nat) : Nat

/-- FREE VALUE: the 8 SECDED bits over 64 payload bits of a NoC flit, of which the spec gives no code (R416, log entry 16). -/
opaque flitCheck (word : Nat) : Nat

/-- FREE VALUE: the whitened pattern that direction `d` of link `l` carries in its `n`-th cycle without a flit, of which the spec
says only that its checks are valid (R416, log entry 16). -/
opaque idlePattern (l d n : Nat) : Nat

end Sys2Proof.Config
end

