-- ==== Sys2Proof/Machine/State.lean ====
section
/-! DEFINITION. The state of the block: everything the spec gives the machine, as plain data, and its state at reset. -/

namespace Sys2Proof.Machine

/-- The kinds of selvage task that take a slot (R14, R15). -/
inductive TaskKind where
  | firmware
  | seamChan
  | nocLink
  | engine
  | cluster
  | mend
  | hem
  deriving DecidableEq, Repr

/-- Management start-up (R101): before power-good, booting, CAP answering, vault unsealed, every area served. -/
inductive MgcPhase where
  | off
  | booting
  | capUp
  | unsealed
  | served
  deriving DecidableEq, Repr

/-- Faults. No meaning of the model raises one: the spec lets no command stop the block. SAFE: a constructor that no step
uses allows no behaviour. -/
inductive Fault where
  /-- Raised by nothing: the block answers with a status, an event or a state of the spec. SAFE. -/
  | none
  deriving DecidableEq, Repr

/-- Refusals. -/
inductive Refusal where
  /-- Raised by an arm of Dispatch whose command has no meaning yet. SAFE: the model stops. -/
  | notModelled (mnemonic : String)
  deriving DecidableEq, Repr

/-- An accepted timed command waiting for its pick (R16, R19, R21, R27). -/
structure TimedCmd where
  /-- Issuing session or multicast group (8 bits; R28). -/
  who : Who := .service
  /-- Transaction number (32 bits; R63). -/
  trans : Nat := 0
  /-- Record position in its frame (8 bits; R65). -/
  pos : Nat := 0
  /-- Time base whose pick generator counts the pick (3 bits; R19). -/
  tb : Nat := 0
  /-- Target pick (64 bits; R19). -/
  pick : Nat := 0
  /-- Entry (index times 256 plus sub-index) the command writes (32 bits; R27). -/
  key : Nat := 0
  /-- Value the write carries (the entry's type; R65). -/
  val : Val := .num 0
  /-- Task cost reserved in ns (takes: 0, costed by count) (32 bits; R15). -/
  cost : Nat := 0
  /-- The issuing session has closed: its event 010h is not delivered (1 bit; R91). -/
  gone : Bool := false
  /-- Acceptance order (count; R14). -/
  order : Nat := 0
  /-- Timing-loop cycle of its evaluation (cycles; R28). -/
  cyc : Nat := 0
  deriving DecidableEq, Repr

/-- A scheduled selvage task of the window's frozen schedule (R14). -/
structure Task where
  /-- Kind of task (7 kinds; R14). -/
  kind : TaskKind := .firmware
  /-- Object: channel, link, engine, cluster or panel (16 bits; R14). -/
  obj : Nat := 0
  /-- The timed command that requested it, none for an untimed request (one command; R65). -/
  cmd : Option TimedCmd := none
  /-- Acceptance order (count; R14). -/
  order : Nat := 0
  deriving DecidableEq, Repr

/-- An untimed selvage task waiting for a window (R17). -/
structure Untimed where
  /-- Kind of task (7 kinds; R17). -/
  kind : TaskKind := .firmware
  /-- Object (16 bits; R17). -/
  obj : Nat := 0
  /-- Acceptance order (count; R17). -/
  order : Nat := 0
  /-- Times deferred (count; R17). -/
  deferred : Nat := 0
  /-- Window of the eighth deferral, counted from the first that opened (count; R17). -/
  starvedAt : Nat := 0
  deriving DecidableEq, Repr

/-- A shuttle start release due 128 ns after its boundary or trigger (R14, R382). -/
structure StartRel where
  /-- Timing-loop cycle of the release (cycles; R14). -/
  due : Nat := 0
  /-- Time base of the boundary (for a trigger: of the trigger unit) (3 bits; R382). -/
  tb : Nat := 0
  /-- Pick in which the start lies; for a trigger, its instant in units of 2^-32 ns (64 bits (96 for a trigger); R382). -/
  pick : Nat := 0
  /-- Beat, 0 for the pick boundary (12 bits; R382). -/
  beat : Nat := 0
  /-- Trigger unit whose instant released the start, none for a beat (6 bits; R268). -/
  trig : Option Nat := none
  deriving DecidableEq, Repr

/-- Scheduling on the ruling time base (the entries 030000h stand in cat). -/
structure Ruling where
  /-- Accepted timed commands (up to 4,096 commands; R21). -/
  timed : List TimedCmd := []
  /-- Untimed selvage tasks that wait for a window (list of tasks; R17). -/
  untimed : List Untimed := []
  /-- The frozen schedule of the open window, tasks not yet run (list of tasks; R14). -/
  sched : List Task := []
  /-- Selvage window open; TICK_SELVAGE (1 bit; R13). -/
  window : Bool := false
  /-- Selvage windows opened so far (count; R17). -/
  windows : Nat := 0
  /-- Timing-loop cycle of the ruling tick that opened the window (cycles; R14). -/
  windowAt : Nat := 0
  /-- Timing-loop cycle at which the next task slot begins (cycles; R14). -/
  taskAt : Nat := 0
  /-- Accepted ruling selection that waits for its boundary (3 bits; R23). -/
  newRuling : Option Nat := none
  /-- A bridge interval runs (1 bit; R23). -/
  bridge : Bool := false
  /-- Next acceptance order (count; R14). -/
  order : Nat := 0
  /-- Start releases due (list; R14). -/
  releases : List StartRel := []
  /-- Timing-loop cycle of the latest strobes (cycles; R36). -/
  strobeAt : Nat := 0
  /-- TICK_PICK strobes of that cycle (8 bits; R36). -/
  tickPick : Nat := 0
  /-- TICK_BEAT strobes of that cycle (8 bits; R36). -/
  tickBeat : Nat := 0
  /-- TICK_PNUM (16 bits; R36). -/
  tickPnum : Nat := 0
  deriving DecidableEq, Repr

/-- A response in a retransmission cache (R64). -/
structure CachedResp where
  /-- Transaction number (32 bits; R64). -/
  trans : Nat := 0
  /-- Source IP address (SESSION 0 cache) (16 bytes; R64). -/
  ip : List Byte := []
  /-- Source UDP port (SESSION 0 cache) (16 bits; R64). -/
  udp : Nat := 0
  /-- When the response was sent (cycles; R64). -/
  since : Nat := 0
  /-- The response frame (up to 8,192 bytes; R64). -/
  bytes : List Byte := []
  deriving DecidableEq, Repr

/-- A frame leaving a management or service port (R52). -/
structure TxFrame where
  /-- Port it leaves through (2 bits; R52). -/
  port : MgtPort := .mgtA
  /-- Destination address (16 bytes; R52). -/
  ip : List Byte := []
  /-- Destination port (16 bits; R52). -/
  udp : Nat := 0
  /-- CAP frame (up to 8,192 bytes; R56). -/
  bytes : List Byte := []
  deriving DecidableEq, Repr

/-- A staged segmented write (R67, R68). -/
structure Staged where
  /-- Stager (8 bits; R68). -/
  who : Who := .service
  /-- Entry (32 bits; R67). -/
  key : Nat := 0
  /-- Bytes staged so far (up to MAX_LEN; R67). -/
  bytes : List Byte := []
  /-- When the latest segment came (cycles; R67). -/
  since : Nat := 0
  deriving DecidableEq, Repr

/-- A multicast transaction within its 1 s duplicate window (R71). -/
structure DupMark where
  /-- Group (4 bits; R71). -/
  group : Nat := 0
  /-- Transaction number (32 bits; R71). -/
  trans : Nat := 0
  /-- When it arrived (cycles; R71). -/
  since : Nat := 0
  deriving DecidableEq, Repr

/-- A multicast answer waiting for its spread delay (R72). -/
structure McastAnswer where
  /-- Group (4 bits; R72). -/
  group : Nat := 0
  /-- Transaction number (32 bits; R72). -/
  trans : Nat := 0
  /-- Release time (cycles; R72). -/
  due : Nat := 0
  /-- The answer (one frame; R72). -/
  frame : TxFrame := {}
  deriving DecidableEq, Repr

/-- The request outstanding on the catalogue bridge server port (R79). -/
structure BridgeReq where
  /-- Requester (8 bits; R79). -/
  who : Who := .service
  /-- User entry (32 bits; R79). -/
  key : Nat := 0
  /-- CATS_REQ_OP: write (1 bit; R78). -/
  write : Bool := false
  /-- Write value (up to 4,096 bytes; R78). -/
  data : List Byte := []
  /-- When the server port presented it (cycles; R79). -/
  since : Nat := 0
  /-- The write restores a persistent user entry (1 bit; R80). -/
  restore : Bool := false
  /-- The timed command that it carries out (one command; R65). -/
  cmd : Option TimedCmd := none
  deriving DecidableEq, Repr

/-- A request of the design on a bolt's bridge client port that waits for the MGC (R81, R497). -/
structure ClientReq where
  /-- Bolt (2 bits; R81). -/
  bolt : Nat := 0
  /-- Entry (32 bits; R81). -/
  key : Nat := 0
  /-- Write (1 bit; R81). -/
  write : Bool := false
  /-- Write value (up to 4,096 bytes; R81). -/
  data : List Byte := []
  deriving DecidableEq, Repr

/-- A record's answer (R56). -/
structure Answer where
  /-- STATUS (16 bits; R56). -/
  status : Nat := 0
  /-- DETAIL (32 bits; R56). -/
  detail : Nat := 0
  /-- VALUE (bytes; R56). -/
  value : List Byte := []
  deriving DecidableEq, Repr

/-- The transaction whose records execute (R61, R100). -/
structure FrameWork where
  /-- The request with its port and source (one frame; R59). -/
  frame : TxFrame := {}
  /-- Session, group, or none (service) it acts for (8 bits; R59). -/
  who : Who := .service
  /-- Records answered (8 bits; R61). -/
  count : Nat := 0
  /-- Response records so far (up to 8,192 bytes; R56). -/
  out : List Byte := []
  /-- Key of the response's trailer (32 bytes; R57). -/
  key : List Byte := []
  /-- Device-to-host counter when the frame passed check 5 (64 bits; R93). -/
  ctr : Nat := 0
  /-- Opening time of the session, which tells it from a later one in its slot (cycles; R84). -/
  opened : Nat := 0
  /-- The response is not entered in the retransmission cache (1 bit; R94). -/
  uncached : Bool := false
  /-- A CLOSE record has executed (1 bit; R90). -/
  close : Bool := false
  /-- An ATOMIC frame that passed checks 6 to 11 as a whole (1 bit; R61). -/
  checked : Bool := false
  /-- The record under way waits for the bridge (1 bit; R79). -/
  waiting : Bool := false
  /-- The bridge's answer to the record under way (status, detail, value; R79). -/
  reply : Option Answer := none
  deriving DecidableEq, Repr

/-- An answer on a bridge client port (R81). -/
structure ClientAns where
  /-- Status (16 bits; R81). -/
  status : Nat := 0
  /-- Read value (up to 4,096 bytes; R81). -/
  data : List Byte := []
  deriving DecidableEq, Repr

/-- The catalogue service (the entries 010001h to 010004h stand in cat). -/
structure Cap where
  /-- UDP port in force: a new one applies after the response (16 bits; R75). -/
  listen : Nat := 50110
  /-- Management start-up phase (5 phases; R101). -/
  phase : MgcPhase := .off
  /-- Retransmission cache of SESSION 0 frames (up to 64 responses; R64). -/
  cache0 : List CachedResp := []
  /-- Multicast transactions within 1 s (list; R71). -/
  dups : List DupMark := []
  /-- Multicast answers waiting for release (list; R72). -/
  answers : List McastAnswer := []
  /-- Staged segmented writes (one per entry; R68). -/
  staged : List Staged := []
  /-- Request outstanding on the bridge server port (one request; R79). -/
  bridge : Option BridgeReq := none
  /-- Bridge requests not yet presented (one is outstanding at most) (list; R80). -/
  bridgeQueue : List BridgeReq := []
  /-- Persistent user entries are still being restored (1 bit; R80). -/
  restoring : Bool := false
  /-- Transaction under way that waits for the bridge (one transaction; R100). -/
  work : Option FrameWork := none
  /-- Frames that wait for the transaction under way (list of frames; R100). -/
  inbox : List TxFrame := []
  /-- Client requests that wait for the MGC (one per bolt; R497). -/
  clientWait : List ClientReq := []
  /-- User entry table of the running bitstream (the user entry table; R77). -/
  users : List UserEntry := []
  /-- Values last written to user entries of the running identity (value of each user entry; R46, R80). -/
  userVals : Tbl Val := []
  /-- Stored persistent user values of each bitstream identity (values per bitstream identity; R80). -/
  userStore : List (Nat × Tbl Val) := []
  /-- Latest answer on each bolt's bridge client port (one answer per bolt; R81). -/
  clients : List (Option ClientAns) := [none, none, none, none]
  /-- Frames sent out of the management and service ports, in order (list of frames; R52). -/
  sent : List TxFrame := []
  /-- Answer to the latest write command (status, detail, value; R56). -/
  answer : Answer := {}
  /-- SESSION 0 bucket (bucket level in 10^-9 frames; R103). -/
  tokens0 : Nat := 50000000000
  /-- Device bucket (bucket level in 10^-9 frames; R103). -/
  tokensDev : Nat := 1000000000000
  /-- When the two device-wide buckets were last refilled (cycles; R103). -/
  tokensAt : Nat := 0
  /-- Time of the next OPEN admission (cycles; R102). -/
  nextAdmission : Nat := 0
  /-- OPENs refused since the last admission (count; R102). -/
  refused : Nat := 0
  deriving DecidableEq, Repr

/-- An event record (R105). -/
structure EvRec where
  /-- EVENT (12 bits; R105). -/
  num : Nat := 0
  /-- SEVERITY (3 bits; R105). -/
  sev : Nat := 0
  /-- FLAGS LOST (1 bit; R105). -/
  lost : Bool := false
  /-- FLAGS UPTIME (1 bit; R105). -/
  uptime : Bool := false
  /-- FLAGS FABRIC (1 bit; R105). -/
  fabric : Bool := false
  /-- SEQUENCE (32 bits; R105). -/
  seq : Nat := 0
  /-- TIME in ns (96 bits; R105). -/
  time : Nat := 0
  /-- PICK (64 bits; R105). -/
  pick : Nat := 0
  /-- UNIT (16 bits; R105). -/
  unit : Nat := 0
  /-- REPEAT (8 bits; R105). -/
  rep : Nat := 0
  /-- EXTRA (its length is XLEN) (up to 32 bytes; R105). -/
  extra : List Byte := []
  /-- Cycle of the raising, by which records of one cycle are ordered (cycles; R106). -/
  cyc : Nat := 0
  deriving DecidableEq, Repr

/-- One of the 8 session slots beside its entries 010010h + s − 1 (R84). -/
structure Session where
  /-- HOST_NONCE of the OPEN (32 bytes; R86). -/
  hostNonce : List Byte := []
  /-- DEVICE_NONCE (32 bytes; R86). -/
  devNonce : List Byte := []
  /-- T (the transcript T; R86). -/
  transcript : List Byte := []
  /-- K_conf (32 bytes; R86). -/
  kConf : List Byte := []
  /-- K_h2d (32 bytes; R86). -/
  kH2d : List Byte := []
  /-- K_d2h (32 bytes; R86). -/
  kD2h : List Byte := []
  /-- Time of the OPEN (cycles; R87). -/
  openedAt : Nat := 0
  /-- Latest frame to pass check 5 (cycles; R90). -/
  heardAt : Nat := 0
  /-- SRC of the latest frame to pass check 4 (24 bits; R53). -/
  src : Nat := 0
  /-- Port of the latest frame to pass check 4 (2 bits; R89). -/
  port : MgtPort := .mgtA
  /-- Session bucket (bucket level in 10^-9 frames; R103). -/
  tokens : Nat := 200000000000
  /-- When it was last refilled (cycles; R103). -/
  tokensAt : Nat := 0
  /-- Retransmission cache (up to 64 responses; R64). -/
  cache : List CachedResp := []
  /-- Subscription mask, empty for none (512 bytes; R109). -/
  mask : List Byte := []
  /-- Minimum severity (8 bits; R109). -/
  minSev : Nat := 0
  /-- Notification queue (up to 256 records; R109). -/
  notes : List EvRec := []
  /-- Notification frames sent since open (32 bits; R109). -/
  noteNum : Nat := 0
  deriving DecidableEq, Repr

/-- A raising in a bolt's fabric event queue (R111). -/
structure FabRaise where
  /-- FEV_NUM (8 bits; R111). -/
  num : Nat := 0
  /-- EXTRA (up to 32 bytes; R111). -/
  extra : List Byte := []
  /-- TIME of acceptance in ns (96 bits; R111). -/
  time : Nat := 0
  /-- Ruling pick of acceptance (64 bits; R111). -/
  pick : Nat := 0
  /-- No ruling time base was armed (1 bit; R105). -/
  uptime : Bool := false
  deriving DecidableEq, Repr

/-- The raisings of a rate-limited event (R524). -/
structure RateMark where
  /-- Event (12 bits; R524). -/
  num : Nat := 0
  /-- Instance (16 bits; R524). -/
  unit : Nat := 0
  /-- Raisings within the last second (cycles; R524). -/
  times : List Nat := []
  /-- Occurrences within the last second (cycles; R524). -/
  occ : List Nat := []
  deriving DecidableEq, Repr

/-- A long operation slot beside its entries 0F0100h + k (R113). -/
structure LongOp where
  /-- Transaction of the START (32 bits; R65). -/
  trans : Nat := 0
  /-- Time of START (cycles; R493). -/
  startedAt : Nat := 0
  /-- Newest SEQUENCE raised before START (event-log export) (32 bits; R108). -/
  upTo : Nat := 0
  /-- An undo is in progress (1 bit; R115). -/
  undo : Bool := false
  /-- State of the unit before a self-test (32 bits; R117). -/
  saved : Nat := 0
  /-- When a SUSPEND or CANCEL of the running operation executed (cycles; R116). -/
  ctlAt : Option Nat := none
  /-- The operation has begun since START (1 bit; R115). -/
  begun : Bool := false
  /-- Records gathered for the snapshot of an event-log export (65,536 records; R108). -/
  snap : Tbl EvRec := []
  /-- Work done (bytes, lines, wires or frames) (64 bits; R116). -/
  pos : Nat := 0
  deriving DecidableEq, Repr

/-- The status bits of an entry that the device set in one timing-loop cycle (R6). -/
structure BitMark where
  /-- The cycle (cycles; R6). -/
  cyc : Nat := 0
  /-- The bits set in it (64 bits; R6). -/
  bits : Nat := 0
  deriving DecidableEq, Repr

/-- Sessions, groups, events and long operations (the entries stand in cat). -/
structure Mgmt where
  /-- Session slots (8 slots; R84). -/
  sessions : List Session := List.replicate 8 {}
  /-- Host keys in the vault (16 keys of 32 bytes; R84). -/
  hostKeys : List (List Byte) := List.replicate 16 []
  /-- Multicast group keys in the vault (16 keys of 32 bytes; R95). -/
  groupKeys : List (List Byte) := List.replicate 16 []
  /-- Event recording queue (up to 1,024 records; R107). -/
  queue : List EvRec := []
  /-- Records dropped or displaced in the open overflow episode (count; R107). -/
  episode : Nat := 0
  /-- An overflow episode is open (1 bit; R107). -/
  inEpisode : Bool := false
  /-- SEQUENCE of the next record (32 bits; R105). -/
  seq : Nat := 0
  /-- Bits the device set last, by entry (one mark per W1C entry; R6). -/
  marks : Tbl BitMark := []
  /-- Events on their way to shuttle inputs: shuttle and input (list; R112). -/
  toShuttles : List (Nat × Nat) := []
  /-- The next record written to the ring carries LOST (1 bit; R107). -/
  markLost : Bool := false
  /-- The ledger ring, by sequence modulo 65,536 (65,536 records of 64 bytes; R108). -/
  ring : Tbl EvRec := []
  /-- Fabric event queues (16 raisings per bolt; R111). -/
  fabQueues : List (List FabRaise) := [[], [], [], []]
  /-- Raisings of rate-limited events (list; R524). -/
  rates : List RateMark := []
  /-- Long operation slots (64 slots; R113). -/
  longOps : List LongOp := List.replicate 64 {}
  deriving DecidableEq, Repr

/-- The unit itself: fuses, measured constants and straps (the row 'per unit' of the tables). -/
structure Fuses where
  /-- Optics letter H (1 bit; R1). -/
  hPart : Bool := false
  /-- Speed grade (2 bits; R1). -/
  speed : Nat := 3
  /-- Temperature grade I (1 bit; R1). -/
  industrial : Bool := false
  /-- Unit serial number (64 bits; R69). -/
  serial : Nat := 1
  /-- Steppings of bolts 0 to 3 (4 × 8 bits; R133). -/
  step : List Nat := [0x20, 0x20, 0x20, 0x20]
  /-- Tick latency in ps (16 bits; R36). -/
  tickLat : Nat := 435
  /-- Shuttles mapped out at the factory (list of shuttles; R384). -/
  mappedOut : List Nat := []
  /-- Fused VCC_FAB trim (16 bits; R126). -/
  fabTrim : Nat := 750
  /-- MAC address of MGT_A; MGT_B's is one higher (48 bits; R50). -/
  macA : List Byte := [2, 0, 0, 0, 0, 1]
  /-- Version of every firmware part, PACKAGE_VERSION and SETTINGS_FORMAT as the unit left the factory (32 bits; R500). -/
  fwVersion : Nat := 1
  /-- Ranks fitted per channel (2 bits; R447). -/
  dramRanks : Nat := 2
  deriving DecidableEq, Repr

/-- Package pins, rails and temperature. -/
structure Power where
  /-- VCC_MGC is good (1 bit; R129). -/
  mgcOn : Bool := false
  /-- Timing-loop cycle of power-good (cycles; R129). -/
  poweredAt : Nat := 0
  /-- Rails outside tolerance (numbered as R126 lists them, see log entry 14) (rail numbers; R130). -/
  railBad : List Nat := []
  /-- Rails outside tolerance at power-good that have not reached it since (rail numbers; R130). -/
  late : List Nat := []
  /-- AVSBus rails whose regulator does not answer (rail numbers; R127). -/
  silent : List Nat := []
  /-- AVSBus set points: rail r of bolt b at 3b + r, in mV (12 × 16 bits; R127). -/
  railMv : List Nat := List.replicate 12 750
  /-- DEV_RESET_N held low (1 bit; R132). -/
  devReset : Bool := false
  /-- Junction sensor readings (64 × 0.1 °C; R137). -/
  sensors : List Int := List.replicate 64 0
  /-- Thermal warning raised, not yet re-armed (1 bit; R137). -/
  warned : Bool := false
  /-- No load starts after a trip (1 bit; R137). -/
  thermalHold : Bool := false
  /-- Halted state (1 bit; R481). -/
  halted : Bool := false
  /-- XO_IN absent (1 bit; R233). -/
  xoAbsent : Bool := false
  /-- XO_SEL strap as sampled (1 bit; R131). -/
  xoSel : Bool := false
  /-- PULL_SEL strap as sampled (1 bit; R131). -/
  pullSel : Bool := false
  deriving DecidableEq, Repr

/-- A load in progress on the slave port or an ICP (R143, R150, R151). -/
structure Load where
  /-- Header accepted: 1; sync seen only: 0 (count; R144). -/
  got : Nat := 0
  /-- LOAD_KIND 02h (1 bit; R144). -/
  isPartial : Bool := false
  /-- Header words taken (header words; R144). -/
  words : List Nat := []
  /-- LOAD_KIND (8 bits; R144). -/
  kind : Nat := 0
  /-- CHECK_MODE (8 bits; R144). -/
  checkMode : Nat := 0
  /-- SIG (8 bits; R144). -/
  sig : Nat := 0
  /-- Word 3 [15:0] (16 bits; R144). -/
  w3 : Nat := 0
  /-- FRAME_COUNT (32 bits; R144). -/
  frames : Nat := 0
  /-- BITSTREAM_ID (64 bits; R144). -/
  bsid : Nat := 0
  /-- PARENT_ID (64 bits; R144). -/
  parent : Nat := 0
  /-- PANEL (8 bits; R144). -/
  panel : Nat := 0
  /-- MCH_ENABLE (32 bits; R144). -/
  mch : Nat := 0
  /-- USER_TABLE_WORDS (32 bits; R144). -/
  tableWords : Nat := 0
  /-- KEY_SLOT (2 bits; R144). -/
  keySlot : Nat := 0
  /-- Frames written (32 bits; R170). -/
  written : Nat := 0
  /-- Address of the last frame written plus 1; 0 for none (32 bits; R146). -/
  lastAddr : Nat := 0
  /-- Running CRC-64 over the frame words (64 bits; R148). -/
  crc64 : Nat := 0xFFFFFFFFFFFFFFFF
  /-- Long operation slot of an MGC load (6 bits; R162). -/
  byMgc : Option Nat := none
  /-- When the load took the port (cycles; R161). -/
  since : Nat := 0
  /-- SOURCE of an MGC load (48 bits; R162). -/
  src : Nat := 0
  /-- LENGTH of an MGC load (32 bits; R162). -/
  len : Nat := 0
  /-- Bytes read from SOURCE (32 bits; R162). -/
  off : Nat := 0
  /-- What the load compiles (log entry 5) (the design; R147). -/
  design : Compiled := {}
  /-- When the end word was taken (cycles; R152). -/
  endAt : Option Nat := none
  deriving DecidableEq, Repr

/-- A configuration frame held in the fabric (R145). -/
structure FrameRec where
  /-- Frame data (4,096 bits; R145). -/
  data : Nat := 0
  deriving DecidableEq, Repr

/-- A panel's hem and contents beside its record 0C0100h + p. -/
structure PanelHid where
  /-- Hem latched: outputs held, inputs forced, clocks gated (1 bit; R163). -/
  isolated : Bool := false
  /-- Loaded since isolation (1 bit; R168). -/
  loaded : Bool := false
  /-- Values latched at isolation, by wire leaving the panel (hem cells; R163). -/
  latched : Tbl Bool := []
  deriving DecidableEq, Repr

/-- The configuration engine (the entries 0C0000h to 0C013Fh stand in cat). -/
structure CfgEngine where
  /-- Slave-port load in progress (one load; R143). -/
  load : Option Load := none
  /-- ICP load in progress on each bolt (one load per bolt; R160). -/
  icp : List (Option Load) := [none, none, none, none]
  /-- ICP_BUSY (4 bits; R160). -/
  icpBusy : List Bool := [false, false, false, false]
  /-- Cycle of the latest ICP_DONE pulse (4 × cycles; R160). -/
  icpDone : List (Option Nat) := [none, none, none, none]
  /-- ICP_STATUS (4 × 16 bits; R160). -/
  icpStatus : List Nat := [0, 0, 0, 0]
  /-- CFG_INIT_N driven or held low (1 bit; R140). -/
  initLow : Bool := true
  /-- CFG_INIT_N driven low by the device (1 bit; R140). -/
  initDriven : Bool := true
  /-- CFG_DONE released (high) (1 bit; R140). -/
  done : Bool := false
  /-- CFG_ERROR_N released (high) (1 bit; R140). -/
  errorN : Bool := true
  /-- CFG_SEL_N level (1 bit; R140). -/
  selN : Bool := true
  /-- The clear is complete; IDLE waits for CFG_INIT_N to read high (1 bit; R143). -/
  cleared : Bool := false
  /-- CFG_MODE pins (2 bits; R139). -/
  cfgMode : Nat := 0
  /-- Cause of the latest clear (8 bits; R172). -/
  clearCause : Nat := 0
  /-- Start of the latest clear (cycles; R143). -/
  clearAt : Nat := 0
  /-- Frames written (unlisted: cleared) (507,904 frames; R145). -/
  frames : Tbl FrameRec := []
  /-- Compiled contents of the running or loading full bitstream (the design; R46). -/
  compiled : Compiled := {}
  /-- Panel hems (64 panels; R163). -/
  panelHid : List PanelHid := List.replicate 64 {}
  /-- Start instant S of the start-up in progress (cycles; R156). -/
  startAt : Option Nat := none
  /-- Steps of the start-up sequence done: 1 clocks, 2 flip-flops, 3 I/O, 4 CFG_DONE (3 bits; R156). -/
  startPhase : Nat := 0
  /-- Seam training of the load is complete (1 bit; R154). -/
  seamTrained : Bool := false
  /-- End checks of the full load passed (1 bit; R152). -/
  endOk : Bool := false
  /-- When CHECKING ended (cycles; R155). -/
  checkedAt : Nat := 0
  /-- Ruling pick of S; none for IMMEDIATE (64 bits; R155). -/
  startTick : Option Nat := none
  /-- User flip-flops held at INIT (1 bit; R157). -/
  ffHeld : Bool := true
  /-- User I/O high-Z with the weak pull (1 bit; R157). -/
  ioHiZ : Bool := true
  /-- Every fabric clock gated (1 bit; R157). -/
  clocksGated : Bool := true
  /-- User I/O in their hem-safe state (1 bit; R158). -/
  hemSafe : Bool := false
  /-- CFG_D[31:0] are user I/O (1 bit; R156). -/
  parUser : Bool := false
  /-- MCH_ENABLE in effect (32 bits; R144). -/
  mch : Nat := 0
  deriving DecidableEq, Repr

/-- What travels on a seam: a word or signal set, or a shim's return, with the seam-clock cycle in which it arrives (R175, R177). -/
structure Cross where
  /-- Seam-clock cycle of its arrival (cycles; R175). -/
  due : Nat := 0
  /-- Word sequence number (5 bits; R176). -/
  seq : Nat := 0
  /-- The values; for a return 1 for a refusal (512 bits; R176). -/
  word : Nat := 0
  deriving DecidableEq, Repr

/-- The shims of a TOLERANT bundle, in its direction (R176, R177). -/
structure Shim where
  /-- Sequence number of the oldest unacknowledged word (5 bits; R177). -/
  base : Nat := 0
  /-- Unacknowledged words, oldest first (up to 32 words of 496 bits; R177). -/
  words : List Nat := []
  /-- How many of them are on their way (6 bits; R177). -/
  sent : Nat := 0
  /-- Sequence number that the receiving shim accepts next (5 bits; R177). -/
  expect : Nat := 0
  /-- A refused word has not arrived again: later words are discarded (1 bit; R177). -/
  refusing : Bool := false
  /-- An accepted word waits for its acknowledgement (1 bit; R177). -/
  unacked : Bool := false
  /-- Queue of the receiving shim (up to 32 words; R177). -/
  queue : List Nat := []
  /-- Return path: acknowledgements and refusals on their way (returns; R176). -/
  back : List Cross := []
  deriving DecidableEq, Repr

/-- A seam channel beside its record 0D0100h + s × 40h + d × 20h + c (R174). -/
structure Channel where
  /-- Full-width channel: failed wire and the darning wire that replaces it (wires in use; R180). -/
  use : Tbl Nat := []
  /-- Narrowed channel: the 16 wires of each group in use; empty at full width (16 × 16 wires; R183). -/
  lanes : List (List Nat) := []
  /-- Narrowed channel: check duties that have moved, with their wires (duties; R183). -/
  checkAt : Tbl Nat := []
  /-- Failed wires (the bitmap :04) (up to 536 wires; R180). -/
  failed : List Nat := []
  /-- Check wires that declared the present failure (8 check wires; R180). -/
  declared : List Nat := []
  /-- Wires localised in the present episode (wires; R180). -/
  pending : List Nat := []
  /-- Wires predicted to fail, not mended (wires; R186). -/
  predicted : List Nat := []
  /-- Worst margin of a wire in the second that began at marginAt, in 1/64 UI (8 bits per wire; R186). -/
  margins : Tbl Nat := []
  /-- When that second began (cycles; R186). -/
  marginAt : Tbl Nat := []
  /-- Weak wires whose darning wire is trained in shadow (mend requested) (wires; R186). -/
  darnShadow : List Nat := []
  /-- Mismatch marks: check wire × 2^64 + seam-clock cycle, last 64 cycles (cycles per check wire; R179). -/
  mismatches : List Nat := []
  /-- First wrong cycle of the present failure (cycles; R180). -/
  wrongAt : Nat := 0
  /-- Start of the shadow comparison (cycles; R189). -/
  shadowAt : Nat := 0
  /-- State before MENDING or NARROWING (3 bits; R187). -/
  prior : Nat := 0
  /-- Seam-clock cycle from which the whitening sequences run (cycles; R178). -/
  trainedAt : Nat := 0
  /-- FIXED signals as the receiving end presents them (512 bits; R181). -/
  fixed : Nat := 0
  /-- Words and signal sets between the ends (crossings; R175). -/
  fly : List Cross := []
  /-- Shims of a TOLERANT bundle (one bundle; R177). -/
  shim : Shim := {}
  deriving DecidableEq, Repr

/-- Seams between bolts (the entries 0D0000h to 0D01FFh stand in cat). -/
structure Seams where
  /-- Channels by s × 64 + d × 32 + c (256 channels; R174). -/
  chan : Tbl Channel := []
  deriving DecidableEq, Repr

/-- A block memory in queue mode (R203), by bolt × 3,072 + memory. -/
structure Queue where
  /-- Depth of its shape (17 bits; R203). -/
  depth : Nat := 1024
  /-- Width of its shape (7 bits; R203). -/
  width : Nat := 72
  /-- Compiled COMMON with one regional driver (1 bit; R204). -/
  common : Bool := false
  /-- FWFT read mode (1 bit; R206). -/
  fwft : Bool := false
  /-- Words held, oldest first (up to depth words; R204). -/
  words : List Nat := []
  /-- Q_RDATA (72 bits; R206). -/
  rdata : Nat := 0
  /-- Q_WCOUNT: fill level as the write side sees it (17 bits; R204). -/
  wseen : Nat := 0
  /-- Q_RCOUNT: fill level as the read side sees it (17 bits; R204). -/
  rseen : Nat := 0
  /-- Q_FULL (1 bit; R204). -/
  full : Bool := false
  /-- Q_EMPTY (1 bit; R204). -/
  empty : Bool := true
  /-- Read pointer: word address of the oldest word (16 bits; R203). -/
  rptr : Nat := 0
  /-- Compiled in ECC mode (1 bit; R201). -/
  ecc : Bool := false
  /-- Compiled with the output register (1 bit; R199). -/
  reg : Bool := false
  /-- Word that the output register takes on the next read edge (72 bits; R199). -/
  stage : Nat := 0
  /-- Q_SBE (1 bit; R203). -/
  sbe : Bool := false
  /-- Q_DBE (1 bit; R203). -/
  dbe : Bool := false
  /-- Q_OVERFLOW, sticky (1 bit; R204). -/
  overflow : Bool := false
  /-- Q_UNDERFLOW, sticky (1 bit; R204). -/
  underflow : Bool := false
  /-- Q_RST high (1 bit; R206). -/
  rst : Bool := false
  /-- AF threshold (17 bits; R205). -/
  af : Nat := 1
  /-- AE threshold (17 bits; R205). -/
  ae : Nat := 1
  deriving DecidableEq, Repr

/-- A regional driver's multiplexer, divider and gate (R208 to R211), by bolt × 384 + region × 24 + driver. -/
structure Mux where
  /-- Selected source: B (1 bit; R209). -/
  sel : Bool := false
  /-- Switch under way to this source (1 bit; R209). -/
  want : Option Bool := none
  /-- When the switch was requested (cycles; R209). -/
  wantAt : Nat := 0
  /-- Output held low by a switch (1 bit; R209). -/
  low : Bool := false
  /-- The new source of the switch gives edges (1 bit; R209). -/
  newEdge : Bool := false
  /-- Source A (a source; R208). -/
  a : ClkSrc := .tap 125
  /-- Source B (a source; R208). -/
  b : ClkSrc := .tap 125
  /-- Source edges since S, modulo the divider (count; R210). -/
  count : Nat := 0
  /-- Divider setting (4 bits; R210). -/
  div : Nat := 1
  /-- Gate closed (RCLK_GATED for a port clock) (1 bit; R211). -/
  gated : Bool := false
  /-- CE level (1 bit; R211). -/
  ce : Bool := true
  /-- Hard-unit interface port it clocks (8 bits; R211). -/
  port : Option Nat := none
  /-- Idle handshake requested at (cycles; R211). -/
  req : Option Nat := none
  deriving DecidableEq, Repr

/-- A selvage pin's phases and debounce run beside its record 110100h + p (R220, R223). -/
structure Gpi where
  /-- Debounce run (8 bits; R223). -/
  run : Nat := 0
  /-- Value D takes at the end of the window (1 bit; R223). -/
  next : Option Bool := none
  /-- Latched status bit (1 bit; R220). -/
  latched : Bool := false
  deriving DecidableEq, Repr

/-- A port of a block memory (R198 to R201), by memory × 2 + port. -/
structure BramPort where
  /-- Read output (72 bits; R199). -/
  out : Nat := 0
  /-- Word that the optional output register takes on the next edge (72 bits; R199). -/
  stage : Nat := 0
  /-- SBE of the latest read (1 bit; R201). -/
  sbe : Bool := false
  /-- DBE of the latest read (1 bit; R201). -/
  dbe : Bool := false
  deriving DecidableEq, Repr

/-- Fabric, block memories and I/O (the entries 110001h to 11013Fh stand in cat). -/
structure Fabric where
  /-- Queue-mode block memories (12,288 block memories; R203). -/
  queues : Tbl Queue := []
  /-- Block memory contents, by memory × 1,024 + word (words of 72 bits; R202). -/
  bram : Tbl Nat := []
  /-- Regional drivers (1,536 drivers; R208). -/
  drivers : Tbl Mux := []
  /-- Selvage pins (64 pins; R220). -/
  pins : Tbl Gpi := []
  /-- Selvage pins: 0 user phase, 1 high-Z after the tick, 2 status driven, 3 released (2 bits; R220). -/
  phase : Nat := 0
  /-- SELV_STATUS[15:0] of the four bolts, driven by the design (64 bits; R222). -/
  selvStatus : Nat := 0
  /-- SELV_GPI[15:0] of the four bolts (64 bits; R223). -/
  selvGpi : Nat := 0
  /-- When each bolt last raised D20h, plus 1 (4 × cycles; R201). -/
  dbeAt : List Nat := [0, 0, 0, 0]
  /-- Flip-flops that differ from INIT, by element × 2 + flip-flop (flip-flops; R195). -/
  ffs : Tbl Bool := []
  /-- LUT RAMs and shift registers whose contents differ from those loaded, by element (64 bits each; R196). -/
  luts : Tbl Nat := []
  /-- Values of the long wires (their keepers) (4,096 long wires; R197). -/
  longs : Tbl Bool := []
  /-- Values of the wires that elements drive (routing wires; R197). -/
  wires : Tbl Bool := []
  /-- Block memory ports (24,576 ports; R198). -/
  ports : Tbl BramPort := []
  /-- Levels on the user I/O balls behind their filters, set from outside (levels; R214). -/
  pads : Tbl Bool := []
  deriving DecidableEq, Repr

/-- A DVFS domain's sequencer beside its record 040100h + d (R239, R240). -/
structure Domain where
  /-- Operating point the domain is set for (3 bits; R239). -/
  setOp : Nat := 0
  /-- Domain clock started (1 bit; R244). -/
  started : Bool := false
  /-- Untimed change not yet stepped (3 bits; R239). -/
  pend : Option Nat := none
  /-- When its ramp began (cycles; R239). -/
  pendAt : Nat := 0
  /-- Targets of pending raises whose ramp has begun (3 bits each; R239). -/
  ramps : List Nat := []
  /-- Main loop locked (1 bit; R240). -/
  locked : Bool := true
  /-- When the main loop relocked (cycles; R240). -/
  relockAt : Nat := 0
  /-- A change executed since the coast (1 bit; R240). -/
  changed : Bool := false
  /-- Spread in effect (4 bits; R248). -/
  spread : Nat := 0
  /-- An automatic restore waits for the next ruling window (1 bit; R240). -/
  restore : Bool := false
  /-- Final target of the changes of the present tick (3 bits; R239). -/
  tick : Option Nat := none
  /-- Targets of raises that the present tick carries (3 bits each; R239). -/
  ticked : List Nat := []
  /-- Timed changes of a step under way (commands; R239). -/
  carried : List TimedCmd := []
  /-- Tick of a step under way, which lasts 100 ns (cycles; R241). -/
  stepAt : Option Nat := none
  /-- Operating point set for before it (3 bits; R241). -/
  stepFrom : Nat := 0
  /-- CURRENT_OP before it (3 bits; R241). -/
  stepOld : Nat := 0
  /-- Ruling pick of its tick (64 bits; R241). -/
  stepPick : Nat := 0
  /-- The lower voltage of a lowering is not yet written (1 bit; R239). -/
  lower : Bool := false
  deriving DecidableEq, Repr

/-- A user loop beside its record 040300h + 8b + l (R245). -/
structure ULoop where
  /-- When it relocked (cycles; R245). -/
  relockAt : Nat := 0
  /-- A restore waits for the next ruling window (1 bit; R245). -/
  request : Bool := false
  deriving DecidableEq, Repr

/-- A hard-domain clock gate beside its record 040200h + u (R247). -/
structure GateReq where
  /-- When idle was requested (cycles; R247). -/
  since : Nat := 0
  deriving DecidableEq, Repr

/-- Clock sources and operating points (the entries 040000h to 04040Ch stand in cat). -/
structure Clocks where
  /-- Domains (8 domains; R236). -/
  domains : List Domain := List.replicate 8 {}
  /-- User loops (32 loops; R245). -/
  uloops : List ULoop := List.replicate 32 {}
  /-- Gates (72 gates; R247). -/
  gates : List GateReq := List.replicate 72 {}
  /-- XO_IN (1 bit; R231). -/
  xoQualified : Bool := true
  /-- REF_IN qualified (1 bit; R230). -/
  refInQualified : Bool := false
  /-- The lane in REF_LANE is qualified (1 bit; R230). -/
  laneQualified : Bool := false
  /-- Single-operating-point loops holding (kind × 65,536 + number) (loop numbers; R233). -/
  holdLoops : List Nat := []
  /-- Source the timing loop acquires (2 bits; R235). -/
  tlTarget : Nat := 0
  /-- When the timing loop began to acquire (cycles; R235). -/
  acqAt : Nat := 0
  /-- Spread in effect on user and memory loops (by entry) (spread per loop; R248). -/
  spreadNow : Tbl Nat := []
  /-- Spread writes that wait for the next ruling window (by entry) (spread per loop; R248). -/
  spreadPend : Tbl Nat := []
  deriving DecidableEq, Repr

/-- Pick generator settings (R260). -/
structure PickSet where
  /-- RATE_NUM (32 bits; R260). -/
  num : Nat := 60000
  /-- RATE_DEN (32 bits; R260). -/
  den : Nat := 1001
  /-- INTERLACED (1 bit; R260). -/
  inter : Bool := false
  /-- BEATS (13 bits; R260). -/
  beats : Nat := 1
  deriving DecidableEq, Repr

/-- A step waiting to apply (R254, R255). -/
structure StepReq where
  /-- Step in ns (signed 64 bits; R254). -/
  ns : Int := 0
  /-- FORCE_STEP (1 bit; R255). -/
  force : Bool := false
  /-- Cycle in which it applies (cycles; R254). -/
  due : Nat := 0
  deriving DecidableEq, Repr

/-- A time base (R251) and its pick generator (R9). -/
structure TimeBase where
  /-- Count in units of 2^-32 ns (64-bit s, 32-bit ns, 32-bit fraction; R251). -/
  time : Nat := 0
  /-- Armed (1 bit; R258). -/
  armed : Bool := false
  /-- INCREMENT in force (40 bits; R252). -/
  inc : Nat := 4294967296
  /-- Increment of the running slew (40 bits; R253). -/
  slewInc : Nat := 0
  /-- Cycles of the slew left (32 bits; R253). -/
  slewLeft : Nat := 0
  /-- A slew has begun and its end has not been reported (1 bit; R253). -/
  slewing : Bool := false
  /-- Accepted steps not yet applied (list; R254). -/
  steps : List StepReq := []
  /-- Count from before the steps that applied in this cycle (units of 2^-32 ns; R256). -/
  was : Option Nat := none
  /-- Steps that applied in this cycle (count; R256). -/
  wasN : Nat := 0
  /-- SET to load in the next cycle, in ns (96 bits; R258). -/
  setPend : Option Nat := none
  /-- Pick settings in force (settings; R260). -/
  cur : PickSet := {}
  /-- Accepted change that waits for its boundary (settings; R260). -/
  want : Option PickSet := none
  /-- A pick has been opened since arming (1 bit; R9). -/
  opened : Bool := false
  /-- First pick after arming (64 bits; R258). -/
  first : Nat := 0
  /-- Current beat (12 bits; R11). -/
  beat : Nat := 0
  /-- Next pick to open: every lower number has begun (64 bits; R25). -/
  high : Nat := 0
  deriving DecidableEq, Repr

/-- A trigger and capture unit beside its record 030200h + u (R267). -/
structure TrigUnit where
  /-- Next compare instant (nominal, rounded up to 2^-32 ns) (units of 2^-32 ns; R267). -/
  next : Option Nat := none
  /-- Index of the next instant (k, or pick number) (64 bits; R267). -/
  k : Nat := 0
  /-- Output high until this count (units of 2^-32 ns; R267). -/
  high : Option Nat := none
  /-- Captures taken (16 bits; R271). -/
  seq : Nat := 0
  /-- CAPTURES, oldest first (16 records of 16 bytes; R271). -/
  caps : List (List Byte) := []
  /-- Latest edge plus 1 (cycles; R271). -/
  edgeAt : Nat := 0
  /-- Output level TRIG_OUT[u] (1 bit; R268). -/
  level : Bool := false
  deriving DecidableEq, Repr

/-- A port's timestamp ring (R263), beside its record 030300h + k. -/
structure TsRing where
  /-- Records by SEQ modulo 256 (256 records of 32 bytes; R263). -/
  recs : Tbl (List Byte) := []
  /-- Records ever taken (count; R263). -/
  count : Nat := 0
  deriving DecidableEq, Repr

/-- A PTP master that a servo hears (R266). -/
structure Foreign where
  /-- sourcePortIdentity (10 bytes; R266). -/
  source : List Byte := []
  /-- Data set of its latest Announce (data set; R266). -/
  data : PtpData := {}
  /-- Arrival of its latest Announce (cycles; R266). -/
  last : Nat := 0
  /-- Arrival of the Announce before it (cycles; R266). -/
  before : Option Nat := none
  deriving DecidableEq, Repr

/-- The MGC servo of a time base (R266), beside its record 030160h + t. -/
structure Servo where
  /-- Start of the run within ±50 ns (cycles; R266). -/
  lockedSince : Nat := 0
  /-- Masters heard (list; R266). -/
  masters : List Foreign := []
  /-- Origin time of the latest Sync (ns; R266). -/
  syncTx : Nat := 0
  /-- Receive time of the latest Sync (ns; R266). -/
  syncRx : Nat := 0
  /-- Transmit time of the latest Delay_Req (ns; R266). -/
  delayTx : Nat := 0
  deriving DecidableEq, Repr

/-- Time bases, triggers and timestamps (the entries 030001h and 030100h to 03031Fh stand in cat). -/
structure Times where
  /-- Time bases TB0 to TB7 (8 time bases; R251). -/
  tb : List TimeBase := List.replicate 8 {}
  /-- Trigger units (64 units; R267). -/
  trig : List TrigUnit := List.replicate 64 {}
  /-- Timestamp rings (32 ports; R263). -/
  rings : Tbl TsRing := []
  /-- MGC servos (8 servos; R266). -/
  servo : List Servo := List.replicate 8 {}
  deriving DecidableEq, Repr

/-- A lane beside its record (R274, R276), by lane code. -/
structure Lane where
  /-- 0 HELD, 1 BRINGUP, 2 LOCKED, 3 UNLOCKED (electrical lanes read it at entry :01) (2 bits; R276). -/
  state : Nat := 0
  /-- Rung (8 bits; R282). -/
  rung : Nat := 255
  /-- First rung that is no longer tried, 8 for none (4 bits; R282). -/
  ceiling : Nat := 8
  /-- Failed attempts at the next rung (4 bits; R282). -/
  attempts : Nat := 0
  /-- Rung proposed in the step under way (3 bits; R282). -/
  proposed : Option Nat := none
  /-- Exchange: 0 none, 1 OFFER sent, 2 ACCEPT sent, 3 SWITCH running, 4 seeking lock, 5 DONE sent (3 bits; R282). -/
  phase : Nat := 0
  /-- MAX_RUNG of the partner (8 bits; R281). -/
  partnerMax : Nat := 255
  /-- TARGET of the partner (8 bits; R281). -/
  partnerTarget : Nat := 255
  /-- DONE received (1 bit; R282). -/
  partnerDone : Bool := false
  /-- When lock was lost (cycles; R276). -/
  unlockedAt : Nat := 0
  /-- When the rate changed to the new rung (cycles; R282). -/
  stepAt : Nat := 0
  /-- Declared failed (1 bit; R289). -/
  failed : Bool := false
  /-- Start of the shadow lock (cycles; R293). -/
  shadowAt : Nat := 0
  /-- Retrying in shadow (1 bit; R293). -/
  shadow : Bool := false
  /-- Block lock (1 bit; R277). -/
  blockLock : Bool := false
  /-- Bit alignment tried (7 bits; R277). -/
  align : Nat := 0
  /-- Consecutive valid headers of the search (6 bits; R277). -/
  good : Nat := 0
  /-- Headers of the window since lock (6 bits; R277). -/
  window : Nat := 0
  /-- Invalid headers of the window (5 bits; R277). -/
  bad : Nat := 0
  deriving DecidableEq, Repr

/-- A sub-port beside its record 050800h + UNIT (R286 to R293). -/
structure SubPort where
  /-- Declaration of the failure, or execution of the RESTORE (cycles; R290). -/
  since : Nat := 0
  /-- Lanes in use before the re-form (8 bits; R290). -/
  oldSet : Nat := 0
  /-- Lanes healthy at both ends, once the partner's mask is in and the SWITCH words are sent (8 bits; R290). -/
  agreed : Option Nat := none
  /-- A RESTORE exchange runs (1 bit; R293). -/
  restoring : Bool := false
  /-- The timed RESTORE in progress (one command; R293). -/
  cmd : Option TimedCmd := none
  /-- Last bring-up retry (cycles; R292). -/
  retryAt : Nat := 0
  deriving DecidableEq, Repr

/-- An optical engine beside its record 050300h + e (R285). -/
structure OptEngine where
  /-- Laser power is at or above LASER_MIN (1 bit; R285). -/
  lightOk : Bool := false
  /-- Faults present: bit 0 temperature, bit 1 firmware (2 bits; R285). -/
  faults : Nat := 0
  deriving DecidableEq, Repr

/-- Lanes, ports and optics (the entries 050000h to 0508B1h stand in cat). -/
structure Lanes where
  /-- Lanes by lane code (178 lanes; R274). -/
  lanes : Tbl Lane := []
  /-- Sub-ports by UNIT (178 sub-ports; R286). -/
  subs : Tbl SubPort := []
  /-- Optical engines (8 engines; R285). -/
  engines : List OptEngine := List.replicate 8 {}
  /-- Origin of the start-up slots (cycles; R297). -/
  groupsAt : Nat := 0
  /-- Lane groups whose start-up slot has come (up to 30 groups; R297). -/
  groupsDone : List Nat := []
  deriving DecidableEq, Repr

/-- A packet in a playout buffer (R310). -/
structure RxPkt where
  /-- Extended sequence number (32 bits; R310). -/
  seq : Nat := 0
  /-- RTP timestamp (32 bits; R309). -/
  ts : Nat := 0
  /-- t(TS) (units of 2^-32 ns; R309). -/
  media : Nat := 0
  /-- Release time R (units of 2^-32 ns; R309). -/
  rel : Nat := 0
  /-- Leg of the first copy (1 bit; R310). -/
  leg : Nat := 0
  /-- Arrival (units of 2^-32 ns; R316). -/
  arrived : Nat := 0
  /-- RTP marker (1 bit; R337). -/
  marker : Bool := false
  /-- RTP payload (bytes; R337). -/
  payload : List Byte := []
  /-- Row of the first sample row (ST 2110-20) (13 bits; R309). -/
  line : Nat := 0
  /-- Pixel offset of the first sample row (15 bits; R309). -/
  pixel : Nat := 0
  /-- Second field (1 bit; R321). -/
  field : Bool := false
  /-- Data is in staging (archive buffer, or read back) (1 bit; R319). -/
  back : Bool := true
  deriving DecidableEq, Repr

/-- A leg of a receive flow (R315, R316). -/
structure Leg where
  /-- Last accepted packet (cycles; R315). -/
  lastAt : Nat := 0
  /-- Start of the run without a MAX_GAP silence (cycles; R315). -/
  upSince : Nat := 0
  /-- MAX_GAP in force (ns; R315). -/
  gap : Nat := 1000000
  /-- Longest interval of the present second (ns; R315). -/
  gapCur : Nat := 0
  /-- Start of the present second (cycles; R315). -/
  gapAt : Nat := 0
  /-- A packet has been accepted (1 bit; R315). -/
  heard : Bool := false
  /-- Smallest R minus arrival in the present second (units of 2^-32 ns; R316). -/
  least : Option Int := none
  deriving DecidableEq, Repr

/-- A receive flow's engine state beside its record 060000h + e × 2000h + f (R306, R313). -/
structure RxFlow where
  /-- Playout buffer (packets, ascending; R310). -/
  buf : List RxPkt := []
  /-- NEXT_SEQ (32 bits; R310). -/
  next : Nat := 0
  /-- NEXT_SEQ at the latest start: lower numbers were never buffered (32 bits; R310). -/
  relLow : Nat := 0
  /-- Consecutive packets refused outside the window (count; R312). -/
  refusedRun : Nat := 0
  /-- Last accepted packet (cycles; R313). -/
  lastAt : Nat := 0
  /-- Leg A (leg; R315). -/
  legA : Leg := {}
  /-- Leg B (leg; R315). -/
  legB : Leg := {}
  /-- Arrival differences of numbers received on both legs (1,024 pairs; R315). -/
  seen : List (Nat × Int) := []
  /-- Arrivals on leg A of numbers not yet heard on B (cycles; R315). -/
  arrA : Tbl Nat := []
  /-- Arrivals on leg B of numbers not yet heard on A (cycles; R315). -/
  arrB : Tbl Nat := []
  /-- Numbers within the window declared lost (sequence numbers; R310). -/
  missed : List Nat := []
  /-- The next word carries GAP_BEFORE (1 bit; R321). -/
  gapFlag : Bool := false
  /-- Timestamp of the latest packet released (32 bits; R321). -/
  lastTs : Option Nat := none
  /-- Numbers lost since the previous FRAME (count; R321). -/
  lostSince : Nat := 0
  /-- Buffer use (bytes; R317). -/
  used : Nat := 0
  /-- Bytes written to a byte-ring store (count; R324). -/
  stored : Nat := 0
  /-- The last packet with a TS has been written and NOTIFY has not been raised (1 bit; R324). -/
  noteDue : Bool := false
  /-- The latest packet written ended its TS (1 bit; R324). -/
  marked : Bool := true
  deriving DecidableEq, Repr

/-- A word on an essence port (R321). -/
structure EssWord where
  /-- ESS_TAG (64 bits; R321). -/
  tag : Nat := 0
  /-- ESS_DATA (512 bits; R321). -/
  data : Nat := 0
  deriving DecidableEq, Repr

/-- An essence port, by 16e + i (R321, R323); the words of its transmit side are held by flow. -/
structure EssPort where
  /-- Receive-side queue (up to 512 words; R323). -/
  out : List EssWord := []
  deriving DecidableEq, Repr

/-- Stream engines, receiving (the entries 060000h.. and 070100h.. stand in cat). -/
structure Rx where
  /-- Receive flows by e × 4,096 + f (32,768 flows; R306). -/
  flows : Tbl RxFlow := []
  /-- Essence ports (128 ports; R321). -/
  ports : Tbl EssPort := []
  /-- Packet staging in use (8 × bytes; R319). -/
  staging : List Nat := List.replicate 8 0
  /-- Exception copies of the last second (times; R305). -/
  excAt : List (List Nat) := List.replicate 8 []
  deriving DecidableEq, Repr

/-- A transmit flow's source fields (R333). -/
structure Source where
  /-- SRC_KIND (3 bits; R333). -/
  kind : Nat := 0
  /-- SRC_PORT (4 bits; R329). -/
  port : Nat := 0
  /-- SRC_ADDR (48 bits; R329). -/
  addr : Nat := 0
  /-- SRC_SIZE (32 bits; R329). -/
  size : Nat := 0
  /-- SRC_READY (48 bits; R329). -/
  ready : Nat := 0
  /-- SRC_FLOW (16 bits; R329). -/
  flow : Nat := 0
  /-- SRC_LAG (8 bits; R329). -/
  lag : Nat := 1
  /-- REPEAT (1 bit; R329). -/
  rep : Bool := true
  deriving DecidableEq, Repr

/-- A packet waiting to depart (R340, R341, R343). -/
structure TxPkt where
  /-- Slot or release time on the flow's time base (units of 2^-32 ns; R340). -/
  since : Nat := 0
  /-- Media time (units of 2^-32 ns; R348). -/
  media : Nat := 0
  /-- RTP timestamp (32 bits; R339). -/
  ts : Nat := 0
  /-- Marker bit (1 bit; R338). -/
  marker : Bool := false
  /-- RTP payload without the extended sequence number (bytes; R338). -/
  payload : List Byte := []
  /-- Source kind (3 bits; R348). -/
  src : Nat := 0
  deriving DecidableEq, Repr

/-- A packet on the line side. -/
structure SentPkt where
  /-- Sub-port (8 bits; R337). -/
  unit : Nat := 0
  /-- Ethernet frame without FCS (bytes; R337). -/
  bytes : List Byte := []
  deriving DecidableEq, Repr

/-- A transmit flow's engine state beside its record 061000h + e × 2000h + f. -/
structure TxFlow where
  /-- Extended sequence number of the next packet (32 bits; R339). -/
  next : Nat := 0
  /-- Packets waiting for departure (packets; R343). -/
  queue : List TxPkt := []
  /-- Armed sources with the pick boundary they begin at, latest first (list; R348). -/
  srcs : List (Nat × Source) := []
  /-- Slot last read whose ready word matched (index; R335). -/
  slot : Option Nat := none
  /-- Data of slots read, by pick or packet index; empty where nothing is sent (slots read; R335). -/
  ring : Tbl (List Byte) := []
  /-- Pick the latest FRAME word opened (64 bits; R334). -/
  pick : Option Nat := none
  /-- Words held for the open pick (up to 4,096 words a port; R334). -/
  words : List EssWord := []
  /-- Next row × 2^16 + pixel, sample index × 64 + channel, or 1 inside an opaque packet (position; R334). -/
  expect : Nat := 0
  /-- Least media time still sent; none until the first boundary is known (units of 2^-32 ns; R330, R349). -/
  low : Option Nat := none
  /-- Packets of the present frame handled (count; R340). -/
  k : Nat := 0
  /-- Pick of the present frame, or index of the next audio packet (64 bits; R340). -/
  frame : Nat := 0
  /-- Shaper: instant up to which DECLARED_RATE is used (units of 2^-32 ns; R341). -/
  tat : Nat := 0
  /-- Pick of the last packet sent (64 bits; R332). -/
  last : Nat := 0
  deriving DecidableEq, Repr

/-- An engine's service state beside its record 070010h + e (R355). -/
structure EngSvc where
  /-- Start of shadow training (cycles; R357). -/
  shadowAt : Nat := 0
  /-- The built-in pattern test after power-up has not completed (1 bit; R359). -/
  pattern : Bool := true
  deriving DecidableEq, Repr

/-- Stream engines, transmitting (the entries 061000h.., 070010h.., 070180h.., 074000h.. stand in cat). -/
structure Tx where
  /-- Transmit flows by e × 4,096 + f (32,768 flows; R329). -/
  flows : Tbl TxFlow := []
  /-- Engine service (8 engines; R355). -/
  svc : List EngSvc := List.replicate 8 {}
  /-- Packets sent on the line side, in order (packets; R337). -/
  sent : List SentPkt := []
  /-- Class-1 queue use of narrow sub-ports (bytes per sub-port; R343). -/
  class1 : Tbl Nat := []
  deriving DecidableEq, Repr

/-- A register or memory write in the pipeline (R371, R410). -/
structure Delayed where
  /-- Issues after which it is seen (1: the next instruction reads the old value) (issues; R371). -/
  wait : Nat := 0
  /-- Register code (R407), or 100h + 16,384-word address for a data memory word (register code; R407). -/
  reg : Nat := 0
  /-- Value (48 bits; R371). -/
  val : Nat := 0
  deriving DecidableEq, Repr

/-- A fetch descriptor (R388). -/
structure Desc where
  /-- Word 0 (48 bits; R388). -/
  w0 : Nat := 0
  /-- Word 1 (48 bits; R388). -/
  w1 : Nat := 0
  /-- Word 2 (48 bits; R388). -/
  w2 : Nat := 0
  /-- Word 3 (48 bits; R388). -/
  w3 : Nat := 0
  /-- Elements moved (24 bits; R390). -/
  moved : Nat := 0
  deriving DecidableEq, Repr

/-- A shuttle (R363 to R390) beside its record 080100h + s. -/
structure Shuttle where
  /-- Program memory; a word not listed is FFFF_FFFF_FFFF_FFFFh once an image is loaded (R398) (4,096 × 64 bits; R364). -/
  pm : Tbl Nat := []
  /-- WORDS of the loaded image (13 bits; R379). -/
  words : Nat := 0
  /-- The loaded image (up to 32,900 bytes; R379). -/
  image : List Byte := []
  /-- Data memory; a word not listed is 0 (16,384 × 48 bits; R364). -/
  dm : Tbl Nat := []
  /-- W0 to W15 (16 × 48 bits; R365). -/
  w : List Nat := List.replicate 16 0
  /-- A0 to A3 (4 × 112 bits; R365). -/
  a : List Nat := List.replicate 4 0
  /-- Accumulators as a move in the next instruction reads them (4 × 112 bits; R371). -/
  aPrev : List Nat := List.replicate 4 0
  /-- P0 to P7 (8 × 14 bits; R365). -/
  p : List Nat := List.replicate 8 0
  /-- M0 to M7 (two's complement) (8 × 15 bits; R365). -/
  m : List Nat := List.replicate 8 0
  /-- L0 to L7 (8 × 14 bits; R365). -/
  l : List Nat := List.replicate 8 0
  /-- Hidden two-dimensional counts (8 counts; R370). -/
  cnt : List Nat := List.replicate 8 0
  /-- SCL (48 bits; R368). -/
  scl : Nat := 0
  /-- ST (48 bits; R366). -/
  st : Nat := 0
  /-- RC (17 bits; R365). -/
  rc : Nat := 0
  /-- ST as left by instructions issued two or more before (48 bits; R410). -/
  st1 : Nat := 0
  /-- ST as left by instructions issued three or more before (seen by BR) (48 bits; R410). -/
  st2 : Nat := 0
  /-- W as left by instructions issued two or more before (16 × 48 bits; R410). -/
  wD1 : List Nat := List.replicate 16 0
  /-- W as left by instructions issued three or more before (seen by DBNZ) (16 × 48 bits; R410). -/
  wD2 : List Nat := List.replicate 16 0
  /-- Writes not yet seen (list; R371). -/
  delayed : List Delayed := []
  /-- Program counter of the next issue (12 bits; R365). -/
  pc : Nat := 0
  /-- Delay slots left before a redirection (2 bits; R371). -/
  slots : Nat := 0
  /-- Target of the redirection (12 bits; R371). -/
  target : Nat := 0
  /-- The redirection is an RTI (1 bit; R376). -/
  retSlots : Bool := false
  /-- A delay slot's redirection is taken (1 bit; R371). -/
  taken : Bool := false
  /-- Issues of the repeated instruction left (17 bits; R373). -/
  rpt : Nat := 0
  /-- Cycles of a WAIT left (16 bits; R378). -/
  waitLeft : Nat := 0
  /-- A WAIT holds issue (1 bit; R378). -/
  waiting : Bool := false
  /-- END issued; the pipeline drains (1 bit; R381). -/
  ended : Bool := false
  /-- Saved PC (12 bits; R376). -/
  savedPc : Nat := 0
  /-- Saved ST (48 bits; R376). -/
  savedSt : Nat := 0
  /-- Part of an interrupted WAIT's limit that remained (16 bits; R376). -/
  savedWait : Nat := 0
  /-- Times each source was taken in this run (16 × 8 bits; R376). -/
  irqTaken : List Nat := List.replicate 16 0
  /-- Cycles since the first issue (32 bits; R381). -/
  cycles : Nat := 0
  /-- Time base of the current run's binding (3 bits; R375). -/
  tb : Nat := 0
  /-- Stream input queues (2 × 32 words; R385). -/
  si : List (List Nat) := [[], []]
  /-- Stream output queues (2 × 32 words; R385). -/
  so : List (List Nat) := [[], []]
  /-- Cascade input (112 bits; R387). -/
  ci : Nat := 0
  /-- Cascade words on the way: cycles left and value (list; R371). -/
  ciDelayed : List (Nat × Nat) := []
  /-- Descriptor assembly register (up to 3 words; R389). -/
  fq : List Nat := []
  /-- Committed descriptors (up to 8 descriptors; R388). -/
  descs : List Desc := []
  /-- Completion words (up to 8 words; R390). -/
  fd : List Nat := []
  deriving DecidableEq, Repr

/-- The shuttle array (the entries 080000h to 0837FFh stand in cat). -/
structure Shuttles where
  /-- Shuttles (512 shuttles; R363). -/
  tab : Tbl Shuttle := []
  deriving DecidableEq, Repr

/-- A request outstanding at its initiator NI (R428). -/
structure Trans where
  /-- The request (packet; R428). -/
  pkt : NocPkt := {}
  /-- Injection of its head (cycles; R435). -/
  since : Nat := 0
  deriving DecidableEq, Repr

/-- A transfer on a link direction (R416): a flit, or half of one on a narrow link (R429). -/
structure Transfer where
  /-- Payload of the flit (512 bits; R416). -/
  payload : Nat := 0
  /-- CHECK of the flit (64 bits; R416). -/
  check : Nat := 0
  /-- Control word (12 bits; R416). -/
  ctl : Nat := 0
  /-- Half carried on the healthy lane: false the lower, true the upper; none both (none or one bit; R429). -/
  half : Option Bool := none
  deriving DecidableEq, Repr

/-- A direction of a NoC link at its sender (R416, R426). -/
structure LinkDir where
  /-- SEQ of the next transfer (6 bits; R416). -/
  seq : Nat := 0
  /-- The last transfers sent (up to 32 transfers; R426). -/
  sent : List Transfer := []
  deriving DecidableEq, Repr

/-- An output of a router (R421). -/
structure OutPort where
  /-- Input port last served, by rank (4 ports; R421). -/
  served : List Nat := List.replicate 4 7
  /-- Consecutive best-effort allocations while a bulk head waits (4 bits; R421). -/
  passed : Nat := 0
  deriving DecidableEq, Repr

/-- A NoC link beside its record 090200h + l (R426, R429). -/
structure LinkHid where
  /-- Direction 0, from end 0 to end 1 (record; R412). -/
  fwd : LinkDir := {}
  /-- Direction 1 (record; R412). -/
  rev : LinkDir := {}
  /-- Response heads absorbed before it (count; R430). -/
  absorbed : Nat := 0
  /-- Start of the shadow retest (cycles; R431). -/
  shadowAt : Nat := 0
  /-- First failed transfer (cycles; R429). -/
  failedAt : Nat := 0
  deriving DecidableEq, Repr

/-- A transaction that has completed (R435). -/
structure Moved where
  /-- When it completed (cycles; R435). -/
  at_ : Nat := 0
  /-- Initiator (10 bits; R435). -/
  init : Nat := 0
  /-- Bytes moved (count; R435). -/
  bytes : Nat := 0
  /-- Latency (ns; R435). -/
  lat : Nat := 0
  deriving DecidableEq, Repr

/-- Network on chip (the entries 090000h to 0908FFh stand in cat). -/
structure Noc where
  /-- Requests outstanding at their initiators (list; R428). -/
  outstanding : List Trans := []
  /-- Router outputs, router × 8 + port (768 outputs; R421). -/
  outs : Tbl OutPort := []
  /-- Transactions completed in the present cycle (list; R435). -/
  recent : List Moved := []
  /-- Links (160 links; R412). -/
  links : Tbl LinkHid := []
  /-- An untimed swap waits for the next window (1 bit; R424). -/
  swapPend : Bool := false
  /-- A swap begun at the tick of the open window has not switched yet (1 bit; R424). -/
  swapDue : Bool := false
  /-- Timed swap commands of the open window (list; R424). -/
  swapCmds : List TimedCmd := []
  /-- The table of the epoch that drains (122,880 bytes; R424). -/
  oldTable : List Byte := []
  /-- Sum of latencies behind the mean (ns per initiator; R435). -/
  latSum : Tbl Nat := []
  /-- Bytes in the present ruling pick (bytes per initiator; R435). -/
  pickBytes : Tbl Nat := []
  /-- Tick of the last swap (cycles; R424). -/
  swapAt : Nat := 0
  /-- Requests presented to the design's target ports: port 8b + j (list; R433). -/
  fabOut : List (Nat × NocPkt) := []
  /-- Responses presented to the design's initiator ports (port 8b + j), in order (list; R433). -/
  fabRsp : List (Nat × NocPkt) := []
  /-- Requests answered at once with ERROR_RESP, per fabric port (32 counts; R433). -/
  fabRefused : List Nat := List.replicate 32 0
  /-- Packets injected and not yet arrived (list; R415). -/
  flight : List NocPkt := []
  /-- Requests accepted at the target NIs and not yet answered (list; R432). -/
  accepted : List NocPkt := []
  deriving DecidableEq, Repr

/-- A rank of a channel (R451 to R453). -/
structure Rank where
  /-- Refresh debt D (4 bits; R452). -/
  debt : Nat := 0
  /-- In power-down (1 bit; R453). -/
  down : Bool := false
  /-- Last request or refresh (cycles; R453). -/
  idleAt : Nat := 0
  /-- In self-refresh (1 bit; R457). -/
  selfRef : Bool := false
  /-- Refresh multiplier in quarters: 4, 2 or 1 (3 bits; R451). -/
  mult : Nat := 4
  /-- Next refresh due (cycles; R451). -/
  dueAt : Nat := 0
  /-- Start of the catch-up refreshes under way (cycles; R452). -/
  catchAt : Option Nat := none
  /-- Open row of each bank (8 banks; R448). -/
  rows : Tbl Nat := []
  deriving DecidableEq, Repr

/-- A memory channel beside its record 0A0100h + c (R444). -/
structure Chan where
  /-- Requests queued, in order of arrival (up to 64 requests; R449). -/
  queue : List NocPkt := []
  /-- Their arrivals (cycles; R449). -/
  queuedAt : List Nat := []
  /-- Under panic until this cycle (cycles; R450). -/
  panicUntil : Nat := 0
  /-- Start of the present panic (cycles; R450). -/
  panicAt : Nat := 0
  /-- Ranks (two ranks; R444). -/
  ranks : List Rank := []
  /-- Next ZQ calibration, tracking and link check (cycles; R456). -/
  trackAt : Nat := 0
  /-- Consecutive link check failures (2 bits; R456). -/
  fails : Nat := 0
  deriving DecidableEq, Repr

/-- Archive and LPDDR4X memory (the entries 0A0000h to 0A02FFh stand in cat). -/
structure Mem where
  /-- Memory contents, by location: DRAM bits [36:0], the archive and staging at their map addresses (the device physical address space (canonical); R438). -/
  bytes : List Host.Cell := []
  /-- Channels (32 channels; R444). -/
  chans : List Chan := List.replicate 32 {}
  /-- Requests queued at the archive slices' NIs (list; R440). -/
  archQ : List NocPkt := []
  /-- Archive granules that hold a double-bit error (granule addresses; R441). -/
  archBad : List Nat := []
  /-- Archive granules that hold a single-bit error (granule addresses; R441). -/
  archOne : List Nat := []
  /-- Data rates in force at the last training (4 rates; R454). -/
  rates : List Nat := List.replicate 4 0
  deriving DecidableEq, Repr

/-- A slot's key set in the vault (R467). -/
structure KeySet where
  /-- Scramble key (128 bits; R467). -/
  scr : Nat := 0
  /-- Tag key (128 bits; R467). -/
  tag : Nat := 0
  deriving DecidableEq, Repr

/-- A key slot beside its record 0B0100h + k (R462). -/
structure Slot where
  /-- Key set in force (one set; R467). -/
  keys : Option KeySet := none
  /-- New set while REKEYING (one set; R477). -/
  newKeys : Option KeySet := none
  /-- Top node in the vault (major then 64 minors; R469). -/
  top : List Nat := []
  /-- MAX_OLD (64 bits; R479). -/
  maxOld : Nat := 0
  /-- Highest major written under the new set while REKEYING (64 bits; R478). -/
  maxNew : Nat := 0
  /-- The rekey runs back (1 bit; R479). -/
  back : Bool := false
  /-- The rekey is automatic (1 bit; R474). -/
  auto : Bool := false
  /-- Long operation slot of the rekey (6 bits; R477). -/
  op : Option Nat := none
  /-- Latest START, RESUME or CANCEL (cycles; R477). -/
  paceAt : Nat := 0
  /-- Group conversions since (count; R477). -/
  paceN : Nat := 0
  /-- RATE (16 bits; R477). -/
  rate : Nat := 0
  /-- Group of a minor overflow under way: the location of the write that caused it (48 bits; R473). -/
  overflow : Option Nat := none
  /-- Event C05h has been raised under the key set in force (1 bit; R474). -/
  told : Bool := false
  /-- A write is held for major exhaustion (1 bit; R474). -/
  held : Bool := false
  deriving DecidableEq, Repr

/-- A counter node in a bolt's cache (R471). -/
structure CacheNode where
  /-- Key slot (4 bits; R469). -/
  slot : Nat := 0
  /-- Level (8 bits; R469). -/
  level : Nat := 0
  /-- Node number (28 bits; R469). -/
  idx : Nat := 0
  /-- Major (64 bits; R469). -/
  major : Nat := 0
  /-- Minors (64 × 7 bits; R469). -/
  minors : List Nat := []
  /-- Dirty (1 bit; R471). -/
  dirty : Bool := false
  deriving DecidableEq, Repr

/-- Scrambling and integrity (the entries 0B0000h to 0B010Fh stand in cat). -/
structure Integ where
  /-- Key slots (16 slots; R462). -/
  slots : List Slot := List.replicate 16 {}
  /-- Counter caches (CTR_CACHE MiB per bolt; R471). -/
  cache : List CacheNode := []
  /-- Protected reads waiting for their checks, and requests held by an overflow or a group conversion (list; R470). -/
  waiting : List NocPkt := []
  /-- Requests refused per bolt (4 counts; R463). -/
  refused : List Nat := List.replicate 4 0
  /-- A halt record waits for its commit (1 bit; R481). -/
  haltLatched : Bool := false
  /-- Failed checks after the first (count; R481). -/
  checkFails : Nat := 0
  deriving DecidableEq, Repr

/-- Firmware update (the entries 100000h to 101FFFh and 020040h stand in cat). -/
structure Update where
  /-- Staged package in the inactive bank (up to 49,152 chunks of 1,024 bytes; R487). -/
  chunks : Tbl (List Byte) := []
  /-- STATE before ACTIVATE (3 bits; R498). -/
  armedFrom : Nat := 0
  /-- Acceptance of ACTIVATE (cycles; R495). -/
  armedAt : Nat := 0
  /-- The accepted activation (one command; R495). -/
  armedWho : Option TimedCmd := none
  /-- Shadow stores loaded (1 bit; R495). -/
  prepared : Bool := false
  /-- Versions, PACKAGE_VERSION and SETTINGS_FORMAT before the switch (8 versions; R497). -/
  prevVersions : List Nat := []
  /-- Those of the verified staging (0 for a part not carried) (8 versions; R490). -/
  newVersions : List Nat := []
  /-- Tick of the activation (cycles; R497). -/
  switchAt : Nat := 0
  /-- A revert waits for the next ruling window (1 bit; R497). -/
  revert : Bool := false
  /-- Route that opened the staging: 0 service port, 1 trickle (1 bit; R501). -/
  openRoute : Nat := 0
  /-- Persistent entries whose stored value a format change reset: at the next power-up or reset they take their defaults, unless written before (entries; R499). -/
  defaultsNext : List Nat := []
  /-- A service-port request is in progress (1 bit; R491). -/
  svcReq : Bool := false
  /-- Service-port response ready and unread (one frame; R491). -/
  svcRsp : Option (List Byte) := none
  /-- Bytes the latest RECEIVE or POLL shifted out (bytes; R491). -/
  svcOut : List Byte := []
  /-- Start of the powered seconds not yet counted in 100100h:0B (cycles; R494). -/
  openedAt : Nat := 0
  /-- Package of the active bank (up to 49,152 chunks; R487). -/
  running : Tbl (List Byte) := []
  /-- Chunks of the package of the active bank (32 bits; R487). -/
  runningN : Nat := 0
  /-- The new bank was booted at power-up before its confirmation (1 bit; R498). -/
  rebooted : Bool := false
  deriving DecidableEq, Repr

/-- The whole state of the block. -/
structure State where
  /-- Commands waiting, first in first out (the model's own). -/
  pending : List Instr := []
  /-- Timing-loop cycles since power-good (R251). -/
  now : Nat := 0
  /-- Free values drawn so far (the model's own; log entry 9). -/
  fresh : Nat := 0
  /-- Values of the catalogue entries written or changed (R39); an entry not listed holds its default. Keys are
  index × 256 + sub-index. -/
  cat : Tbl Val := []
  /-- GENERATION of each entry (R46); 0 where not listed. -/
  gen : Tbl Nat := []
  /-- Scheduling on the ruling time base (the entries 030000h stand in cat). -/
  ruling : Ruling := {}
  /-- The catalogue service (the entries 010001h to 010004h stand in cat). -/
  cap : Cap := {}
  /-- Sessions, groups, events and long operations (the entries stand in cat). -/
  mgmt : Mgmt := {}
  /-- The unit itself: fuses, measured constants and straps (the row 'per unit' of the tables). -/
  unit : Fuses := {}
  /-- Package pins, rails and temperature. -/
  pwr : Power := {}
  /-- The configuration engine (the entries 0C0000h to 0C013Fh stand in cat). -/
  cfg : CfgEngine := {}
  /-- Seams between bolts (the entries 0D0000h to 0D01FFh stand in cat). -/
  seams : Seams := {}
  /-- Fabric, block memories and I/O (the entries 110001h to 11013Fh stand in cat). -/
  fab : Fabric := {}
  /-- Clock sources and operating points (the entries 040000h to 04040Ch stand in cat). -/
  clk : Clocks := {}
  /-- Time bases, triggers and timestamps (the entries 030001h and 030100h to 03031Fh stand in cat). -/
  tim : Times := {}
  /-- Lanes, ports and optics (the entries 050000h to 0508B1h stand in cat). -/
  lan : Lanes := {}
  /-- Stream engines, receiving (the entries 060000h.. and 070100h.. stand in cat). -/
  rx : Rx := {}
  /-- Stream engines, transmitting (the entries 061000h.., 070010h.., 070180h.., 074000h.. stand in cat). -/
  tx : Tx := {}
  /-- The shuttle array (the entries 080000h to 0837FFh stand in cat). -/
  shu : Shuttles := {}
  /-- Network on chip (the entries 090000h to 0908FFh stand in cat). -/
  noc : Noc := {}
  /-- Archive and LPDDR4X memory (the entries 0A0000h to 0A02FFh stand in cat). -/
  mem : Mem := {}
  /-- Scrambling and integrity (the entries 0B0000h to 0B010Fh stand in cat). -/
  itg : Integ := {}
  /-- Firmware update (the entries 100000h to 101FFFh and 020040h stand in cat). -/
  upd : Update := {}
  deriving DecidableEq, Repr

/-- The block before power-good on VCC_MGC, every entry at its default and every field at the value INVENTORY.md lists
(log entries 1, 4, 5, 6, 8, 9, 13 and 14 name those the spec does not give). -/
def State.reset : State := {}

end Sys2Proof.Machine
end

