-- ==== Sys2Proof/Machine/Catalogue.lean ====
section
/-! DEFINITION. The catalogue's entry table, as the chapters' entry tables give it (R39, R40): of each index its fields,
of each field the type, access code, flags, default and range. -/

namespace Sys2Proof.Machine

/-- An entry: type, access code, flags (bit 0 critical, bit 1 persistent, bit 2 timed), default (a number, or for OCTETS
the length of its run of zero bytes), least and greatest value (for OCTETS and STRING: of the length). -/
structure Field where
  ty : Ty
  acc : Acc
  flags : Nat
  dflt : Nat
  lo : Int
  hi : Int
  deriving DecidableEq, Repr

/-- A run of indices with the same fields: `base + g × step + i` for `i` below `count` and `g` below `rep`. -/
structure CatRec where
  base : Nat
  count : Nat
  rep : Nat
  step : Nat
  fields : List Field
  deriving DecidableEq, Repr

/-- Index 000001h (1 indices). -/
def rec000001 : CatRec := ⟨0x000001, 1, 1, 0x1,
  [⟨.string, .const, 0, 0, 0, 255⟩]⟩

/-- Index 000002h (1 indices). -/
def rec000002 : CatRec := ⟨0x000002, 1, 1, 0x1,
  [⟨.u32, .const, 0, 0, 0, 4294967295⟩]⟩

/-- Index 000003h (1 indices). -/
def rec000003 : CatRec := ⟨0x000003, 1, 1, 0x1,
  [⟨.u32, .const, 0, 1247236916, 0, 4294967295⟩]⟩

/-- Index 000004h (1 indices). -/
def rec000004 : CatRec := ⟨0x000004, 1, 1, 0x1,
  [⟨.record, .ro, 0, 0, 0, 0⟩,
   ⟨.u8, .const, 0, 0, 0, 255⟩,
   ⟨.u8, .const, 0, 0, 0, 255⟩,
   ⟨.u8, .const, 0, 0, 0, 255⟩,
   ⟨.u8, .const, 0, 0, 0, 255⟩,
   ⟨.u8, .const, 0, 0, 0, 255⟩,
   ⟨.u32, .const, 0, 0, 0, 4294967295⟩]⟩

/-- Index 010001h (1 indices). -/
def rec010001 : CatRec := ⟨0x010001, 1, 1, 0x1,
  [⟨.record, .ro, 0, 0, 0, 0⟩,
   ⟨.u16, .rw, 3, 50110, 0, 65535⟩,
   ⟨.u32, .rw, 3, 0, 0, 262143⟩,
   ⟨.u16, .rw, 3, 0, 0, 65535⟩,
   ⟨.u16, .rw, 2, 0, 0, 1000⟩,
   ⟨.u16, .rw, 3, 100, 1, 10000⟩,
   ⟨.u8, .rw, 3, 0, 0, 7⟩]⟩

/-- Index 010002h (1 indices). -/
def rec010002 : CatRec := ⟨0x010002, 1, 1, 0x1,
  [⟨.record, .ro, 0, 0, 0, 0⟩,
   ⟨.octets, .rw, 3, 0, 0, 4⟩,
   ⟨.u8, .rw, 3, 24, 0, 32⟩,
   ⟨.octets, .rw, 3, 0, 0, 16⟩,
   ⟨.u8, .rw, 3, 64, 0, 128⟩,
   ⟨.octets, .rw, 3, 0, 0, 4⟩,
   ⟨.u8, .rw, 3, 24, 0, 32⟩,
   ⟨.octets, .rw, 3, 0, 0, 16⟩,
   ⟨.u8, .rw, 3, 64, 0, 128⟩]⟩

/-- Index 010003h (1 indices). -/
def rec010003 : CatRec := ⟨0x010003, 1, 1, 0x1,
  [⟨.record, .ro, 0, 0, 0, 0⟩,
   ⟨.octets, .rw, 3, 0, 0, 16⟩,
   ⟨.octets, .rw, 3, 0, 0, 16⟩,
   ⟨.octets, .rw, 3, 0, 0, 16⟩,
   ⟨.octets, .rw, 3, 0, 0, 16⟩,
   ⟨.octets, .rw, 3, 0, 0, 16⟩,
   ⟨.octets, .rw, 3, 0, 0, 16⟩,
   ⟨.octets, .rw, 3, 0, 0, 16⟩,
   ⟨.octets, .rw, 3, 0, 0, 16⟩,
   ⟨.octets, .rw, 3, 0, 0, 16⟩,
   ⟨.octets, .rw, 3, 0, 0, 16⟩,
   ⟨.octets, .rw, 3, 0, 0, 16⟩,
   ⟨.octets, .rw, 3, 0, 0, 16⟩,
   ⟨.octets, .rw, 3, 0, 0, 16⟩,
   ⟨.octets, .rw, 3, 0, 0, 16⟩,
   ⟨.octets, .rw, 3, 0, 0, 16⟩] ++
  [⟨.octets, .rw, 3, 0, 0, 16⟩]⟩

/-- Index 010004h (1 indices). -/
def rec010004 : CatRec := ⟨0x010004, 1, 1, 0x1,
  [⟨.record, .ro, 0, 0, 0, 0⟩,
   ⟨.u64, .ro, 0, 0, 0, 18446744073709551615⟩,
   ⟨.u64, .ro, 0, 0, 0, 18446744073709551615⟩,
   ⟨.u64, .ro, 0, 0, 0, 18446744073709551615⟩,
   ⟨.u64, .ro, 0, 0, 0, 18446744073709551615⟩,
   ⟨.u64, .ro, 0, 0, 0, 18446744073709551615⟩]⟩

/-- Index 010010h (8 indices). -/
def rec010010 : CatRec := ⟨0x010010, 8, 1, 0x1,
  [⟨.record, .ro, 0, 0, 0, 0⟩,
   ⟨.u8, .ro, 0, 0, 0, 255⟩,
   ⟨.u8, .ro, 0, 0, 0, 255⟩,
   ⟨.u8, .ro, 0, 0, 0, 255⟩,
   ⟨.u8, .ro, 0, 0, 0, 255⟩,
   ⟨.u64, .ro, 0, 0, 0, 18446744073709551615⟩,
   ⟨.u64, .ro, 0, 0, 0, 18446744073709551615⟩,
   ⟨.octets, .ro, 0, 0, 0, 18⟩,
   ⟨.u32, .ro, 0, 0, 0, 4294967295⟩,
   ⟨.bool, .wo, 1, 0, 0, 1⟩]⟩

/-- Index 010018h (1 indices). -/
def rec010018 : CatRec := ⟨0x010018, 1, 1, 0x1,
  [⟨.record, .ro, 0, 0, 0, 0⟩,
   ⟨.u16, .rw, 3, 30, 5, 3600⟩]⟩

/-- Index 011000h (256 indices). -/
def rec011000 : CatRec := ⟨0x011000, 256, 1, 0x1,
  [⟨.record, .rw, 3, 0, 0, 0⟩,
   ⟨.u32, .rw, 3, 0, 0, 16777215⟩,
   ⟨.u32, .rw, 3, 0, 0, 16777215⟩,
   ⟨.u8, .rw, 3, 0, 0, 7⟩,
   ⟨.bool, .rw, 3, 0, 0, 1⟩]⟩

/-- Index 020010h (16 indices). -/
def rec020010 : CatRec := ⟨0x020010, 16, 1, 0x1,
  [⟨.record, .ro, 0, 0, 0, 0⟩,
   ⟨.u8, .ro, 0, 0, 0, 255⟩,
   ⟨.u8, .rw, 3, 0, 0, 7⟩,
   ⟨.octets, .wo, 3, 0, 0, 40⟩,
   ⟨.u64, .ro, 2, 0, 0, 18446744073709551615⟩,
   ⟨.bool, .rw, 3, 1, 0, 1⟩]⟩

/-- Index 020030h (16 indices). -/
def rec020030 : CatRec := ⟨0x020030, 16, 1, 0x1,
  [⟨.record, .ro, 0, 0, 0, 0⟩,
   ⟨.u8, .ro, 0, 0, 0, 255⟩,
   ⟨.u8, .rw, 3, 0, 0, 7⟩,
   ⟨.octets, .wo, 3, 0, 0, 40⟩,
   ⟨.u64, .ro, 2, 0, 0, 18446744073709551615⟩,
   ⟨.u64, .ro, 2, 0, 0, 18446744073709551615⟩]⟩

/-- Index 020040h (1 indices). -/
def rec020040 : CatRec := ⟨0x020040, 1, 1, 0x1,
  [⟨.record, .ro, 0, 0, 0, 0⟩,
   ⟨.bool, .rw, 3, 0, 0, 1⟩]⟩

/-- Index 030000h (1 indices). -/
def rec030000 : CatRec := ⟨0x030000, 1, 1, 0x1,
  [⟨.record, .ro, 0, 0, 0, 0⟩,
   ⟨.u8, .rw, 3, 0, 0, 7⟩,
   ⟨.u8, .rw, 3, 8, 1, 64⟩,
   ⟨.u32, .rw, 2, 1000, 200, 100000⟩,
   ⟨.u8, .ro, 0, 0, 0, 255⟩,
   ⟨.u64, .ro, 0, 0, 0, 18446744073709551615⟩,
   ⟨.time96, .ro, 0, 0, 0, 79228162514264337593543950335⟩,
   ⟨.u32, .ro, 0, 0, 0, 4294967295⟩,
   ⟨.u16, .ro, 0, 0, 0, 65535⟩,
   ⟨.u16, .w1c, 0, 0, 0, 65535⟩]⟩

/-- Index 030001h (1 indices). -/
def rec030001 : CatRec := ⟨0x030001, 1, 1, 0x1,
  [⟨.record, .ro, 0, 0, 0, 0⟩,
   ⟨.bool, .wo, 0, 0, 0, 1⟩,
   ⟨.time96, .ro, 0, 0, 0, 79228162514264337593543950335⟩,
   ⟨.time96, .ro, 0, 0, 0, 79228162514264337593543950335⟩,
   ⟨.time96, .ro, 0, 0, 0, 79228162514264337593543950335⟩,
   ⟨.time96, .ro, 0, 0, 0, 79228162514264337593543950335⟩,
   ⟨.time96, .ro, 0, 0, 0, 79228162514264337593543950335⟩,
   ⟨.time96, .ro, 0, 0, 0, 79228162514264337593543950335⟩,
   ⟨.time96, .ro, 0, 0, 0, 79228162514264337593543950335⟩,
   ⟨.time96, .ro, 0, 0, 0, 79228162514264337593543950335⟩]⟩

/-- Index 030010h (1 indices). -/
def rec030010 : CatRec := ⟨0x030010, 1, 1, 0x1,
  [⟨.record, .ro, 0, 0, 0, 0⟩,
   ⟨.u16, .const, 0, 0, 0, 65535⟩,
   ⟨.u16, .const, 0, 0, 0, 65535⟩,
   ⟨.u16, .const, 0, 0, 0, 65535⟩,
   ⟨.u16, .const, 0, 0, 0, 65535⟩,
   ⟨.u16, .const, 0, 0, 0, 65535⟩,
   ⟨.u16, .const, 0, 0, 0, 65535⟩,
   ⟨.u16, .const, 0, 0, 0, 65535⟩,
   ⟨.u16, .const, 0, 0, 0, 65535⟩,
   ⟨.u16, .const, 0, 0, 0, 65535⟩,
   ⟨.u16, .const, 0, 0, 0, 65535⟩,
   ⟨.u16, .const, 0, 0, 0, 65535⟩,
   ⟨.u16, .const, 0, 0, 0, 65535⟩,
   ⟨.u16, .const, 0, 0, 0, 65535⟩,
   ⟨.u16, .const, 0, 0, 0, 65535⟩,
   ⟨.u16, .const, 0, 0, 0, 65535⟩] ++
  [⟨.u16, .const, 0, 0, 0, 65535⟩,
   ⟨.u16, .const, 0, 0, 0, 65535⟩,
   ⟨.u16, .const, 0, 0, 0, 65535⟩,
   ⟨.u16, .const, 0, 0, 0, 65535⟩,
   ⟨.u16, .const, 0, 0, 0, 65535⟩,
   ⟨.u16, .const, 0, 0, 0, 65535⟩,
   ⟨.u16, .const, 0, 0, 0, 65535⟩,
   ⟨.u16, .const, 0, 0, 0, 65535⟩,
   ⟨.u16, .const, 0, 0, 0, 65535⟩,
   ⟨.u16, .const, 0, 0, 0, 65535⟩,
   ⟨.u16, .const, 0, 0, 0, 65535⟩,
   ⟨.u16, .const, 0, 0, 0, 65535⟩,
   ⟨.u16, .const, 0, 0, 0, 65535⟩,
   ⟨.u16, .const, 0, 0, 0, 65535⟩,
   ⟨.u16, .const, 0, 0, 0, 65535⟩,
   ⟨.u16, .const, 0, 0, 0, 65535⟩] ++
  [⟨.u16, .const, 0, 0, 0, 65535⟩,
   ⟨.u16, .const, 0, 0, 0, 65535⟩,
   ⟨.u16, .const, 0, 0, 0, 65535⟩,
   ⟨.u16, .const, 0, 0, 0, 65535⟩,
   ⟨.u16, .const, 0, 0, 0, 65535⟩,
   ⟨.u16, .const, 0, 0, 0, 65535⟩,
   ⟨.u16, .const, 0, 0, 0, 65535⟩,
   ⟨.u16, .const, 0, 0, 0, 65535⟩,
   ⟨.u16, .const, 0, 0, 0, 65535⟩,
   ⟨.u16, .const, 0, 0, 0, 65535⟩,
   ⟨.u16, .const, 0, 0, 0, 65535⟩,
   ⟨.u16, .const, 0, 0, 0, 65535⟩,
   ⟨.u16, .const, 0, 0, 0, 65535⟩,
   ⟨.u16, .const, 0, 0, 0, 65535⟩,
   ⟨.u16, .const, 0, 0, 0, 65535⟩,
   ⟨.u16, .const, 0, 0, 0, 65535⟩] ++
  [⟨.u16, .const, 0, 0, 0, 65535⟩,
   ⟨.u16, .const, 0, 0, 0, 65535⟩,
   ⟨.u16, .const, 0, 0, 0, 65535⟩,
   ⟨.u16, .const, 0, 0, 0, 65535⟩,
   ⟨.u16, .const, 0, 0, 0, 65535⟩,
   ⟨.u16, .const, 0, 0, 0, 65535⟩,
   ⟨.u16, .const, 0, 0, 0, 65535⟩,
   ⟨.u16, .const, 0, 0, 0, 65535⟩,
   ⟨.u16, .const, 0, 0, 0, 65535⟩,
   ⟨.u16, .const, 0, 0, 0, 65535⟩,
   ⟨.u16, .const, 0, 0, 0, 65535⟩,
   ⟨.u16, .const, 0, 0, 0, 65535⟩,
   ⟨.u16, .const, 0, 0, 0, 65535⟩,
   ⟨.u16, .const, 0, 0, 0, 65535⟩,
   ⟨.u16, .const, 0, 0, 0, 65535⟩,
   ⟨.u16, .const, 0, 0, 0, 65535⟩] ++
  [⟨.u16, .const, 0, 0, 0, 65535⟩]⟩

/-- Index 030100h (8 indices). -/
def rec030100 : CatRec := ⟨0x030100, 8, 1, 0x1,
  [⟨.record, .ro, 0, 0, 0, 0⟩,
   ⟨.u8, .ro, 0, 0, 0, 255⟩,
   ⟨.bool, .wo, 1, 0, 0, 1⟩,
   ⟨.time96, .ro, 0, 0, 0, 79228162514264337593543950335⟩,
   ⟨.u32, .ro, 0, 0, 0, 4294967295⟩,
   ⟨.u48, .rw, 6, 4294967296, 4273492460, 4316442132⟩,
   ⟨.i64, .wo, 4, 0, (-9223372036854775808), 9223372036854775807⟩,
   ⟨.i64, .wo, 5, 0, (-9223372036854775808), 9223372036854775807⟩,
   ⟨.u64, .rw, 3, 1000, 1, 4294967296⟩,
   ⟨.time96, .wo, 1, 0, 0, 79228162514264337593543950335⟩,
   ⟨.u32, .ro, 0, 0, 0, 4294967295⟩,
   ⟨.i64, .ro, 0, 0, (-9223372036854775808), 9223372036854775807⟩,
   ⟨.time96, .ro, 0, 0, 0, 79228162514264337593543950335⟩,
   ⟨.u16, .w1c, 0, 0, 0, 65535⟩]⟩

/-- Index 030140h (8 indices). -/
def rec030140 : CatRec := ⟨0x030140, 8, 1, 0x1,
  [⟨.record, .rw, 0, 0, 0, 0⟩,
   ⟨.u48, .rw, 0, 4294967296, 3865470567, 4724464025⟩,
   ⟨.u32, .rw, 0, 1, 1, 4294967295⟩,
   ⟨.u32, .ro, 0, 0, 0, 4294967295⟩]⟩

/-- Index 030160h (8 indices). -/
def rec030160 : CatRec := ⟨0x030160, 8, 1, 0x1,
  [⟨.record, .ro, 0, 0, 0, 0⟩,
   ⟨.u8, .rw, 3, 0, 0, 1⟩,
   ⟨.u8, .rw, 3, 0, 0, 31⟩,
   ⟨.u8, .rw, 3, 127, 0, 255⟩,
   ⟨.u8, .ro, 0, 0, 0, 255⟩,
   ⟨.i64, .ro, 0, 0, (-9223372036854775808), 9223372036854775807⟩,
   ⟨.i64, .ro, 0, 0, (-9223372036854775808), 9223372036854775807⟩]⟩

/-- Index 030180h (8 indices). -/
def rec030180 : CatRec := ⟨0x030180, 8, 1, 0x1,
  [⟨.record, .rw, 1, 0, 0, 0⟩,
   ⟨.u32, .rw, 3, 60000, 1, 1000000⟩,
   ⟨.u32, .rw, 3, 1001, 1, 1000000⟩,
   ⟨.bool, .rw, 3, 0, 0, 1⟩,
   ⟨.u16, .rw, 3, 1, 1, 4096⟩,
   ⟨.u64, .ro, 0, 0, 0, 18446744073709551615⟩,
   ⟨.time96, .ro, 0, 0, 0, 79228162514264337593543950335⟩,
   ⟨.u16, .ro, 0, 0, 0, 65535⟩,
   ⟨.bool, .ro, 0, 0, 0, 1⟩]⟩

/-- Index 030200h (64 indices). -/
def rec030200 : CatRec := ⟨0x030200, 64, 1, 0x1,
  [⟨.record, .rw, 0, 0, 0, 0⟩,
   ⟨.u8, .rw, 0, 0, 0, 4⟩,
   ⟨.u8, .rw, 0, 0, 0, 7⟩,
   ⟨.time96, .rw, 0, 0, 0, 79228162514264337593543950335⟩,
   ⟨.u32, .rw, 0, 1, 1, 1000000⟩,
   ⟨.u32, .rw, 0, 1, 1, 1000000⟩,
   ⟨.i32, .rw, 0, 0, (-2147483648), 2147483647⟩,
   ⟨.u32, .rw, 0, 100, 4, 1000000000⟩,
   ⟨.u8, .rw, 0, 0, 0, 255⟩,
   ⟨.u8, .rw, 0, 1, 1, 3⟩,
   ⟨.u8, .ro, 0, 0, 0, 255⟩,
   ⟨.u32, .ro, 0, 0, 0, 4294967295⟩,
   ⟨.octets, .ro, 0, 0, 0, 256⟩]⟩

/-- Index 030300h (32 indices). -/
def rec030300 : CatRec := ⟨0x030300, 32, 1, 0x1,
  [⟨.record, .ro, 0, 0, 0, 0⟩,
   ⟨.u8, .rw, 2, 0, 0, 7⟩,
   ⟨.bool, .rw, 2, 0, 0, 1⟩,
   ⟨.i32, .const, 0, 0, (-2147483648), 2147483647⟩,
   ⟨.i32, .const, 0, 0, (-2147483648), 2147483647⟩,
   ⟨.i32, .const, 0, 0, (-2147483648), 2147483647⟩,
   ⟨.i32, .const, 0, 0, (-2147483648), 2147483647⟩,
   ⟨.i32, .const, 0, 0, (-2147483648), 2147483647⟩,
   ⟨.i32, .const, 0, 0, (-2147483648), 2147483647⟩,
   ⟨.i32, .const, 0, 0, (-2147483648), 2147483647⟩,
   ⟨.i32, .const, 0, 0, (-2147483648), 2147483647⟩,
   ⟨.i32, .const, 0, 0, (-2147483648), 2147483647⟩,
   ⟨.i32, .const, 0, 0, (-2147483648), 2147483647⟩,
   ⟨.i32, .const, 0, 0, (-2147483648), 2147483647⟩,
   ⟨.i32, .const, 0, 0, (-2147483648), 2147483647⟩,
   ⟨.i32, .rw, 2, 0, (-100000), 100000⟩] ++
  [⟨.i32, .rw, 2, 0, (-100000), 100000⟩,
   ⟨.i32, .rw, 2, 0, (-100000), 100000⟩,
   ⟨.i32, .rw, 2, 0, (-100000), 100000⟩,
   ⟨.i32, .rw, 2, 0, (-100000), 100000⟩,
   ⟨.i32, .rw, 2, 0, (-100000), 100000⟩,
   ⟨.i32, .rw, 2, 0, (-100000), 100000⟩,
   ⟨.i32, .rw, 2, 0, (-100000), 100000⟩,
   ⟨.i32, .rw, 2, 0, (-100000), 100000⟩,
   ⟨.i32, .rw, 2, 0, (-100000), 100000⟩,
   ⟨.i32, .rw, 2, 0, (-100000), 100000⟩,
   ⟨.i32, .rw, 2, 0, (-100000), 100000⟩,
   ⟨.octets, .ro, 0, 0, 0, 8192⟩,
   ⟨.u16, .ro, 0, 0, 0, 65535⟩,
   ⟨.u32, .ro, 0, 0, 0, 4294967295⟩]⟩

/-- Index 040000h (1 indices). -/
def rec040000 : CatRec := ⟨0x040000, 1, 1, 0x1,
  [⟨.record, .ro, 0, 0, 0, 0⟩,
   ⟨.u8, .rw, 3, 0, 0, 2⟩,
   ⟨.u32, .rw, 3, 0, 0, 800000000⟩,
   ⟨.u16, .rw, 3, 0, 0, 319⟩,
   ⟨.u8, .ro, 0, 0, 0, 255⟩,
   ⟨.u8, .ro, 0, 0, 0, 255⟩,
   ⟨.u32, .ro, 0, 0, 0, 4294967295⟩,
   ⟨.u16, .w1c, 0, 0, 0, 65535⟩]⟩

/-- Index 040010h (1 indices). -/
def rec040010 : CatRec := ⟨0x040010, 1, 1, 0x1,
  [⟨.record, .ro, 0, 0, 0, 0⟩,
   ⟨.u8, .ro, 0, 0, 0, 255⟩,
   ⟨.u16, .rw, 2, 100, 1, 10000⟩,
   ⟨.bool, .wo, 1, 0, 0, 1⟩,
   ⟨.i32, .ro, 0, 0, (-2147483648), 2147483647⟩,
   ⟨.time96, .ro, 0, 0, 0, 79228162514264337593543950335⟩]⟩

/-- Index 040100h (8 indices). -/
def rec040100 : CatRec := ⟨0x040100, 8, 1, 0x1,
  [⟨.record, .ro, 0, 0, 0, 0⟩,
   ⟨.u8, .rw, 4, 0, 0, 7⟩,
   ⟨.u8, .ro, 0, 0, 0, 255⟩,
   ⟨.u8, .ro, 0, 0, 0, 255⟩,
   ⟨.u8, .rw, 2, 0, 0, 7⟩,
   ⟨.bool, .rw, 2, 0, 0, 1⟩,
   ⟨.u32, .rw, 2, 1000, 100, 100000⟩,
   ⟨.u8, .rw, 2, 0, 0, 10⟩,
   ⟨.u16, .ro, 0, 0, 0, 65535⟩,
   ⟨.u8, .ro, 0, 0, 0, 255⟩,
   ⟨.u16, .w1c, 0, 0, 0, 65535⟩,
   ⟨.u32, .ro, 0, 0, 0, 4294967295⟩]⟩

/-- Index 040180h (8 indices). -/
def rec040180 : CatRec := ⟨0x040180, 8, 1, 0x1,
  [⟨.record, .ro, 0, 0, 0, 0⟩,
   ⟨.u32, .const, 0, 0, 0, 4294967295⟩,
   ⟨.u32, .const, 0, 0, 0, 4294967295⟩,
   ⟨.u32, .const, 0, 0, 0, 4294967295⟩,
   ⟨.u32, .const, 0, 0, 0, 4294967295⟩,
   ⟨.u32, .const, 0, 0, 0, 4294967295⟩,
   ⟨.u32, .const, 0, 0, 0, 4294967295⟩,
   ⟨.u32, .const, 0, 0, 0, 4294967295⟩,
   ⟨.u32, .const, 0, 0, 0, 4294967295⟩,
   ⟨.u16, .const, 0, 0, 0, 65535⟩,
   ⟨.u16, .const, 0, 0, 0, 65535⟩,
   ⟨.u16, .const, 0, 0, 0, 65535⟩,
   ⟨.u16, .const, 0, 0, 0, 65535⟩,
   ⟨.u16, .const, 0, 0, 0, 65535⟩,
   ⟨.u16, .const, 0, 0, 0, 65535⟩,
   ⟨.u16, .const, 0, 0, 0, 65535⟩] ++
  [⟨.u16, .const, 0, 0, 0, 65535⟩]⟩

/-- Index 040200h (72 indices). -/
def rec040200 : CatRec := ⟨0x040200, 72, 1, 0x1,
  [⟨.record, .ro, 0, 0, 0, 0⟩,
   ⟨.bool, .rw, 0, 0, 0, 1⟩,
   ⟨.u8, .ro, 0, 0, 0, 255⟩,
   ⟨.u32, .ro, 0, 0, 0, 4294967295⟩]⟩

/-- Index 040300h (32 indices). -/
def rec040300 : CatRec := ⟨0x040300, 32, 1, 0x1,
  [⟨.record, .ro, 0, 0, 0, 0⟩,
   ⟨.u8, .ro, 0, 0, 0, 255⟩,
   ⟨.u8, .ro, 0, 0, 0, 255⟩,
   ⟨.bool, .rw, 2, 0, 0, 1⟩,
   ⟨.bool, .wo, 0, 0, 0, 1⟩,
   ⟨.u8, .rw, 2, 0, 0, 10⟩]⟩

/-- Index 040400h (1 indices). -/
def rec040400 : CatRec := ⟨0x040400, 1, 1, 0x1,
  [⟨.record, .ro, 0, 0, 0, 0⟩,
   ⟨.u8, .ro, 0, 0, 0, 255⟩,
   ⟨.u8, .ro, 0, 0, 0, 255⟩,
   ⟨.u8, .ro, 0, 0, 0, 255⟩,
   ⟨.u8, .ro, 0, 0, 0, 255⟩,
   ⟨.u8, .ro, 0, 0, 0, 255⟩,
   ⟨.u8, .ro, 0, 0, 0, 255⟩,
   ⟨.u8, .ro, 0, 0, 0, 255⟩,
   ⟨.u8, .ro, 0, 0, 0, 255⟩,
   ⟨.u8, .rw, 2, 0, 0, 6⟩,
   ⟨.u8, .rw, 2, 0, 0, 6⟩,
   ⟨.u8, .rw, 2, 0, 0, 6⟩,
   ⟨.u8, .rw, 2, 0, 0, 6⟩]⟩

/-- Index 040800h (1 indices). -/
def rec040800 : CatRec := ⟨0x040800, 1, 1, 0x1,
  [⟨.record, .ro, 0, 0, 0, 0⟩,
   ⟨.i16, .ro, 0, 0, (-32768), 32767⟩,
   ⟨.i16, .ro, 0, 0, (-32768), 32767⟩,
   ⟨.i16, .ro, 0, 0, (-32768), 32767⟩,
   ⟨.i16, .ro, 0, 0, (-32768), 32767⟩,
   ⟨.u8, .rw, 2, 95, 60, 110⟩,
   ⟨.u8, .const, 0, 115, 0, 255⟩]⟩

/-- Index 050000h (1 indices). -/
def rec050000 : CatRec := ⟨0x050000, 1, 1, 0x1,
  [⟨.record, .ro, 0, 0, 0, 0⟩,
   ⟨.u8, .rw, 2, 3, 1, 15⟩,
   ⟨.u16, .ro, 0, 0, 0, 65535⟩,
   ⟨.u16, .ro, 0, 0, 0, 65535⟩]⟩

/-- Index 050100h (48 indices). -/
def rec050100 : CatRec := ⟨0x050100, 48, 1, 0x1,
  [⟨.record, .ro, 0, 0, 0, 0⟩,
   ⟨.u8, .ro, 0, 0, 0, 255⟩,
   ⟨.u32, .ro, 0, 0, 0, 4294967295⟩,
   ⟨.u8, .ro, 0, 255, 0, 255⟩,
   ⟨.u8, .ro, 0, 255, 0, 255⟩,
   ⟨.i8, .rw, 2, 0, (-128), 127⟩,
   ⟨.i8, .rw, 2, 252, (-128), 127⟩,
   ⟨.i8, .rw, 2, 52, (-128), 127⟩,
   ⟨.i8, .rw, 2, 249, (-128), 127⟩,
   ⟨.u8, .rw, 2, 2, 0, 3⟩,
   ⟨.bool, .rw, 2, 0, 0, 1⟩,
   ⟨.bool, .rw, 2, 0, 0, 1⟩,
   ⟨.u32, .rw, 2, 0, 10312500, 112500000⟩,
   ⟨.u32, .ro, 0, 0, 0, 4294967295⟩,
   ⟨.u64, .ro, 0, 0, 0, 18446744073709551615⟩,
   ⟨.u16, .ro, 0, 0, 0, 65535⟩]⟩

/-- Index 050200h (64 indices). -/
def rec050200 : CatRec := ⟨0x050200, 64, 1, 0x1,
  [⟨.record, .ro, 0, 0, 0, 0⟩,
   ⟨.u8, .ro, 0, 0, 0, 255⟩,
   ⟨.u32, .ro, 0, 0, 0, 4294967295⟩,
   ⟨.u8, .ro, 0, 255, 0, 255⟩,
   ⟨.u8, .ro, 0, 255, 0, 255⟩,
   ⟨.i8, .rw, 2, 0, (-128), 127⟩,
   ⟨.i8, .rw, 2, 252, (-128), 127⟩,
   ⟨.i8, .rw, 2, 52, (-128), 127⟩,
   ⟨.i8, .rw, 2, 249, (-128), 127⟩,
   ⟨.u8, .rw, 2, 2, 0, 3⟩,
   ⟨.bool, .rw, 2, 0, 0, 1⟩,
   ⟨.bool, .rw, 2, 0, 0, 1⟩,
   ⟨.u32, .rw, 2, 0, 1250000, 32750000⟩,
   ⟨.u32, .ro, 0, 0, 0, 4294967295⟩,
   ⟨.u64, .ro, 0, 0, 0, 18446744073709551615⟩,
   ⟨.u16, .ro, 0, 0, 0, 65535⟩]⟩

/-- Index 050300h (8 indices). -/
def rec050300 : CatRec := ⟨0x050300, 8, 1, 0x1,
  [⟨.record, .ro, 0, 0, 0, 0⟩,
   ⟨.u8, .ro, 0, 0, 0, 255⟩,
   ⟨.i16, .ro, 0, 0, (-32768), 32767⟩,
   ⟨.octets, .ro, 0, 16, 0, 16⟩,
   ⟨.octets, .ro, 0, 16, 0, 16⟩,
   ⟨.octets, .ro, 0, 8, 0, 8⟩,
   ⟨.i16, .ro, 0, 0, (-32768), 32767⟩,
   ⟨.i16, .rw, 2, 64336, (-2000), -500⟩,
   ⟨.i16, .rw, 2, 1000, 800, 1800⟩,
   ⟨.u32, .ro, 0, 0, 0, 4294967295⟩]⟩

/-- Index 050400h (14 indices). -/
def rec050400 : CatRec := ⟨0x050400, 14, 1, 0x1,
  [⟨.record, .ro, 0, 0, 0, 0⟩,
   ⟨.u8, .rw, 2, 0, 0, 11⟩,
   ⟨.u8, .rw, 2, 0, 0, 2⟩,
   ⟨.u8, .rw, 2, 1, 0, 1⟩,
   ⟨.bool, .rw, 2, 1, 0, 1⟩,
   ⟨.u8, .ro, 0, 0, 0, 255⟩,
   ⟨.u8, .ro, 0, 0, 0, 255⟩,
   ⟨.octets, .rw, 2, 0, 0, 6⟩,
   ⟨.u16, .rw, 2, 9216, 1518, 9216⟩]⟩

/-- Index 050500h (16 indices). -/
def rec050500 : CatRec := ⟨0x050500, 16, 1, 0x1,
  [⟨.record, .ro, 0, 0, 0, 0⟩,
   ⟨.u8, .rw, 2, 0, 0, 3⟩,
   ⟨.u8, .rw, 2, 0, 0, 2⟩,
   ⟨.u8, .rw, 2, 1, 0, 1⟩,
   ⟨.octets, .rw, 2, 0, 0, 6⟩,
   ⟨.u16, .rw, 2, 9216, 1518, 9216⟩]⟩

/-- Index 050600h (2 indices). -/
def rec050600 : CatRec := ⟨0x050600, 2, 1, 0x1,
  [⟨.record, .ro, 0, 0, 0, 0⟩,
   ⟨.u8, .rw, 3, 0, 0, 1⟩,
   ⟨.bool, .rw, 3, 1, 0, 1⟩,
   ⟨.u8, .ro, 0, 0, 0, 255⟩,
   ⟨.u16, .ro, 0, 0, 0, 65535⟩,
   ⟨.octets, .const, 0, 0, 0, 6⟩]⟩

/-- Index 050800h (178 indices). -/
def rec050800 : CatRec := ⟨0x050800, 178, 1, 0x1,
  [⟨.record, .ro, 0, 0, 0, 0⟩,
   ⟨.u8, .ro, 0, 0, 0, 255⟩,
   ⟨.u32, .ro, 0, 0, 0, 4294967295⟩,
   ⟨.u8, .ro, 0, 0, 0, 255⟩,
   ⟨.bool, .wo, 4, 0, 0, 1⟩,
   ⟨.bool, .ro, 0, 0, 0, 1⟩,
   ⟨.u64, .ro, 0, 0, 0, 18446744073709551615⟩,
   ⟨.u64, .ro, 0, 0, 0, 18446744073709551615⟩,
   ⟨.u64, .ro, 0, 0, 0, 18446744073709551615⟩,
   ⟨.u64, .ro, 0, 0, 0, 18446744073709551615⟩,
   ⟨.u64, .ro, 0, 0, 0, 18446744073709551615⟩,
   ⟨.u64, .ro, 0, 0, 0, 18446744073709551615⟩,
   ⟨.u64, .ro, 0, 0, 0, 18446744073709551615⟩,
   ⟨.u32, .ro, 0, 0, 0, 4294967295⟩,
   ⟨.u32, .ro, 0, 0, 0, 4294967295⟩,
   ⟨.u64, .ro, 0, 0, 0, 18446744073709551615⟩]⟩

/-- Index 060000h (32768 indices). -/
def rec060000 : CatRec := ⟨0x060000, 4096, 8, 0x2000,
  [⟨.record, .rw, 0, 0, 0, 0⟩,
   ⟨.bool, .rw, 0, 0, 0, 1⟩,
   ⟨.u8, .ro, 0, 0, 0, 255⟩,
   ⟨.u8, .rw, 0, 0, 0, 6⟩,
   ⟨.u8, .rw, 0, 0, 0, 7⟩,
   ⟨.u8, .rw, 0, 0, 0, 1⟩,
   ⟨.u8, .rw, 0, 255, 0, 255⟩,
   ⟨.u16, .rw, 0, 65535, 0, 65535⟩,
   ⟨.octets, .rw, 0, 0, 0, 16⟩,
   ⟨.u16, .rw, 0, 0, 0, 65535⟩,
   ⟨.u8, .rw, 0, 255, 0, 255⟩,
   ⟨.u16, .rw, 0, 65535, 0, 65535⟩,
   ⟨.octets, .rw, 0, 0, 0, 16⟩,
   ⟨.u16, .rw, 0, 0, 0, 65535⟩,
   ⟨.u32, .rw, 0, 0, 0, 4294967295⟩,
   ⟨.bool, .rw, 0, 0, 0, 1⟩] ++
  [⟨.u8, .rw, 0, 255, 0, 255⟩,
   ⟨.u32, .rw, 0, 2000, 0, 200000⟩,
   ⟨.u32, .rw, 0, 0, 0, 100000000⟩,
   ⟨.u48, .rw, 0, 0, 0, 281474976710655⟩,
   ⟨.u32, .rw, 0, 0, 0, 4294967295⟩,
   ⟨.u32, .rw, 0, 100000, 1000, 10000000⟩,
   ⟨.u8, .rw, 0, 0, 0, 7⟩,
   ⟨.u8, .rw, 0, 0, 0, 15⟩,
   ⟨.u48, .rw, 0, 0, 0, 281474976710655⟩,
   ⟨.u32, .rw, 0, 0, 0, 4294967295⟩,
   ⟨.u16, .rw, 0, 65535, 0, 65535⟩,
   ⟨.u16, .rw, 0, 0, 0, 4095⟩,
   ⟨.u16, .rw, 0, 1920, 2, 8192⟩,
   ⟨.u16, .rw, 0, 1080, 2, 8192⟩,
   ⟨.u8, .rw, 0, 0, 0, 3⟩,
   ⟨.u8, .rw, 0, 10, 0, 24⟩] ++
  [⟨.u8, .rw, 0, 2, 1, 64⟩,
   ⟨.u8, .rw, 0, 0, 0, 1⟩,
   ⟨.u8, .ro, 0, 0, 0, 255⟩,
   ⟨.u8, .ro, 0, 0, 0, 255⟩,
   ⟨.i32, .ro, 0, 0, (-2147483648), 2147483647⟩,
   ⟨.i32, .ro, 0, 2147483647, (-2147483648), 2147483647⟩,
   ⟨.i32, .ro, 0, 2147483647, (-2147483648), 2147483647⟩,
   ⟨.u64, .ro, 0, 0, 0, 18446744073709551615⟩,
   ⟨.u64, .ro, 0, 0, 0, 18446744073709551615⟩,
   ⟨.u64, .ro, 0, 0, 0, 18446744073709551615⟩,
   ⟨.u64, .ro, 0, 0, 0, 18446744073709551615⟩,
   ⟨.u64, .ro, 0, 0, 0, 18446744073709551615⟩,
   ⟨.u64, .ro, 0, 0, 0, 18446744073709551615⟩,
   ⟨.u64, .ro, 0, 0, 0, 18446744073709551615⟩,
   ⟨.u64, .ro, 0, 0, 0, 18446744073709551615⟩,
   ⟨.u64, .ro, 0, 0, 0, 18446744073709551615⟩] ++
  [⟨.u64, .ro, 0, 0, 0, 18446744073709551615⟩,
   ⟨.u32, .ro, 0, 0, 0, 4294967295⟩,
   ⟨.u32, .ro, 0, 0, 0, 4294967295⟩,
   ⟨.u32, .ro, 0, 0, 0, 4294967295⟩]⟩

/-- Index 061000h (32768 indices). -/
def rec061000 : CatRec := ⟨0x061000, 4096, 8, 0x2000,
  [⟨.record, .rw, 0, 0, 0, 0⟩,
   ⟨.bool, .rw, 0, 0, 0, 1⟩,
   ⟨.u8, .ro, 0, 0, 0, 255⟩,
   ⟨.u8, .rw, 0, 0, 0, 6⟩,
   ⟨.u8, .rw, 0, 0, 0, 7⟩,
   ⟨.u8, .rw, 0, 0, 0, 1⟩,
   ⟨.u8, .rw, 0, 255, 0, 255⟩,
   ⟨.u16, .rw, 0, 65535, 0, 65535⟩,
   ⟨.octets, .rw, 0, 0, 0, 6⟩,
   ⟨.octets, .rw, 0, 0, 0, 16⟩,
   ⟨.octets, .rw, 0, 0, 0, 16⟩,
   ⟨.u16, .rw, 0, 0, 0, 65535⟩,
   ⟨.u16, .rw, 0, 0, 0, 65535⟩,
   ⟨.u8, .rw, 0, 255, 0, 255⟩,
   ⟨.u16, .rw, 0, 65535, 0, 65535⟩,
   ⟨.octets, .rw, 0, 0, 0, 6⟩] ++
  [⟨.octets, .rw, 0, 0, 0, 16⟩,
   ⟨.octets, .rw, 0, 0, 0, 16⟩,
   ⟨.u16, .rw, 0, 0, 0, 65535⟩,
   ⟨.u16, .rw, 0, 0, 0, 65535⟩,
   ⟨.u16, .rw, 0, 8832, 0, 65535⟩,
   ⟨.u8, .rw, 0, 64, 1, 255⟩,
   ⟨.u32, .rw, 0, 0, 0, 4294967295⟩,
   ⟨.u8, .rw, 0, 96, 0, 127⟩,
   ⟨.u8, .rw, 0, 0, 0, 2⟩,
   ⟨.u32, .rw, 0, 0, 0, 4294967295⟩,
   ⟨.u16, .rw, 0, 1125, 0, 8192⟩,
   ⟨.u8, .rw, 0, 255, 0, 255⟩,
   ⟨.u16, .rw, 0, 1200, 200, 8900⟩,
   ⟨.u8, .rw, 0, 0, 0, 2⟩,
   ⟨.u16, .rw, 0, 1920, 2, 8192⟩,
   ⟨.u16, .rw, 0, 1080, 2, 8192⟩] ++
  [⟨.u8, .rw, 0, 0, 0, 3⟩,
   ⟨.u8, .rw, 0, 10, 0, 24⟩,
   ⟨.u8, .rw, 0, 2, 1, 64⟩,
   ⟨.u8, .rw, 0, 0, 0, 1⟩,
   ⟨.u8, .rw, 0, 0, 0, 5⟩,
   ⟨.u8, .rw, 0, 0, 0, 15⟩,
   ⟨.u48, .rw, 0, 0, 0, 281474976710655⟩,
   ⟨.u32, .rw, 0, 0, 0, 4294967295⟩,
   ⟨.u48, .rw, 0, 0, 0, 281474976710655⟩,
   ⟨.u16, .rw, 0, 0, 0, 65535⟩,
   ⟨.u8, .rw, 0, 1, 1, 255⟩,
   ⟨.bool, .rw, 0, 1, 0, 1⟩,
   ⟨.u32, .rw, 0, 0, 0, 100000000⟩,
   ⟨.u32, .ro, 0, 0, 0, 4294967295⟩,
   ⟨.u32, .ro, 0, 0, 0, 4294967295⟩,
   ⟨.u64, .ro, 0, 0, 0, 18446744073709551615⟩] ++
  [⟨.u64, .ro, 0, 0, 0, 18446744073709551615⟩,
   ⟨.u64, .ro, 0, 0, 0, 18446744073709551615⟩,
   ⟨.u64, .ro, 0, 0, 0, 18446744073709551615⟩,
   ⟨.u64, .ro, 0, 0, 0, 18446744073709551615⟩,
   ⟨.u64, .ro, 0, 0, 0, 18446744073709551615⟩,
   ⟨.u32, .ro, 0, 0, 0, 4294967295⟩,
   ⟨.u32, .ro, 0, 0, 0, 4294967295⟩,
   ⟨.u32, .ro, 0, 0, 0, 4294967295⟩]⟩

/-- Index 070010h (8 indices). -/
def rec070010 : CatRec := ⟨0x070010, 8, 1, 0x1,
  [⟨.record, .ro, 0, 0, 0, 0⟩,
   ⟨.u8, .ro, 0, 0, 0, 255⟩,
   ⟨.bool, .wo, 1, 0, 0, 1⟩,
   ⟨.bool, .wo, 0, 0, 0, 1⟩,
   ⟨.bool, .wo, 4, 0, 0, 1⟩,
   ⟨.u32, .ro, 0, 0, 0, 4294967295⟩,
   ⟨.u64, .ro, 0, 0, 0, 18446744073709551615⟩]⟩

/-- Index 070100h (8 indices). -/
def rec070100 : CatRec := ⟨0x070100, 8, 1, 0x1,
  [⟨.record, .ro, 0, 0, 0, 0⟩,
   ⟨.u8, .ro, 0, 0, 0, 255⟩,
   ⟨.u32, .ro, 0, 0, 0, 4294967295⟩,
   ⟨.u32, .ro, 0, 0, 0, 4294967295⟩,
   ⟨.u16, .ro, 0, 0, 0, 65535⟩,
   ⟨.u16, .ro, 0, 0, 0, 65535⟩,
   ⟨.u64, .ro, 0, 0, 0, 18446744073709551615⟩,
   ⟨.u64, .ro, 0, 0, 0, 18446744073709551615⟩,
   ⟨.u64, .ro, 0, 0, 0, 18446744073709551615⟩,
   ⟨.u8, .rw, 2, 0, 0, 1⟩,
   ⟨.u48, .rw, 2, 0, 0, 281474976710655⟩,
   ⟨.u32, .rw, 2, 0, 0, 4294967295⟩,
   ⟨.u64, .ro, 0, 0, 0, 18446744073709551615⟩,
   ⟨.u32, .ro, 0, 0, 0, 4294967295⟩,
   ⟨.bool, .ro, 0, 0, 0, 1⟩,
   ⟨.u32, .ro, 0, 0, 0, 4294967295⟩] ++
  [⟨.u64, .ro, 0, 0, 0, 18446744073709551615⟩,
   ⟨.u64, .ro, 0, 0, 0, 18446744073709551615⟩]⟩

/-- Index 070180h (8 indices). -/
def rec070180 : CatRec := ⟨0x070180, 8, 1, 0x1,
  [⟨.record, .ro, 0, 0, 0, 0⟩,
   ⟨.u16, .ro, 0, 0, 0, 65535⟩,
   ⟨.u16, .ro, 0, 0, 0, 65535⟩,
   ⟨.u64, .ro, 0, 0, 0, 18446744073709551615⟩,
   ⟨.u64, .ro, 0, 0, 0, 18446744073709551615⟩,
   ⟨.u64, .ro, 0, 0, 0, 18446744073709551615⟩]⟩

/-- Index 070200h (128 indices). -/
def rec070200 : CatRec := ⟨0x070200, 128, 1, 0x1,
  [⟨.record, .ro, 0, 0, 0, 0⟩,
   ⟨.u32, .ro, 0, 0, 0, 4294967295⟩,
   ⟨.u32, .ro, 0, 0, 0, 4294967295⟩,
   ⟨.u64, .ro, 0, 0, 0, 18446744073709551615⟩,
   ⟨.u64, .ro, 0, 0, 0, 18446744073709551615⟩,
   ⟨.u32, .ro, 0, 0, 0, 4294967295⟩,
   ⟨.u64, .ro, 0, 0, 0, 18446744073709551615⟩,
   ⟨.u64, .ro, 0, 0, 0, 18446744073709551615⟩]⟩

/-- Index 070300h (176 indices). -/
def rec070300 : CatRec := ⟨0x070300, 176, 1, 0x1,
  [⟨.record, .ro, 0, 0, 0, 0⟩,
   ⟨.u8, .rw, 2, 255, 0, 255⟩,
   ⟨.u64, .ro, 0, 0, 0, 18446744073709551615⟩,
   ⟨.u32, .ro, 0, 0, 0, 4294967295⟩]⟩

/-- Index 074000h (32768 indices). -/
def rec074000 : CatRec := ⟨0x074000, 4096, 8, 0x1000,
  [⟨.record, .rw, 4, 0, 0, 0⟩,
   ⟨.u8, .rw, 0, 0, 0, 5⟩,
   ⟨.u8, .rw, 0, 0, 0, 15⟩,
   ⟨.u48, .rw, 0, 0, 0, 281474976710655⟩,
   ⟨.u32, .rw, 0, 0, 0, 4294967295⟩,
   ⟨.u48, .rw, 0, 0, 0, 281474976710655⟩,
   ⟨.u16, .rw, 0, 0, 0, 65535⟩,
   ⟨.u8, .rw, 0, 1, 1, 255⟩,
   ⟨.bool, .rw, 0, 1, 0, 1⟩,
   ⟨.u64, .ro, 0, 0, 0, 18446744073709551615⟩,
   ⟨.u16, .ro, 0, 0, 0, 65535⟩,
   ⟨.u8, .ro, 0, 0, 0, 255⟩]⟩

/-- Index 080000h (1 indices). -/
def rec080000 : CatRec := ⟨0x080000, 1, 1, 0x1,
  [⟨.record, .ro, 0, 0, 0, 0⟩,
   ⟨.u16, .ro, 0, 0, 0, 65535⟩,
   ⟨.u16, .ro, 0, 0, 0, 65535⟩,
   ⟨.u16, .ro, 0, 0, 0, 65535⟩,
   ⟨.u16, .ro, 0, 0, 0, 65535⟩,
   ⟨.u16, .ro, 0, 0, 0, 65535⟩]⟩

/-- Index 080100h (512 indices). -/
def rec080100 : CatRec := ⟨0x080100, 512, 1, 0x1,
  [⟨.record, .ro, 0, 0, 0, 0⟩,
   ⟨.u8, .ro, 0, 0, 0, 255⟩,
   ⟨.u32, .rw, 2, 65536, 16, 65536⟩,
   ⟨.bool, .wo, 1, 0, 0, 1⟩,
   ⟨.u32, .ro, 0, 0, 0, 4294967295⟩,
   ⟨.u8, .ro, 0, 0, 0, 255⟩,
   ⟨.u16, .ro, 0, 0, 0, 65535⟩,
   ⟨.u32, .ro, 0, 0, 0, 4294967295⟩,
   ⟨.u32, .ro, 0, 0, 0, 4294967295⟩,
   ⟨.u32, .ro, 0, 0, 0, 4294967295⟩,
   ⟨.u32, .ro, 0, 0, 0, 4294967295⟩,
   ⟨.u32, .ro, 0, 0, 0, 4294967295⟩,
   ⟨.u32, .ro, 0, 0, 0, 4294967295⟩,
   ⟨.u32, .ro, 0, 0, 0, 4294967295⟩,
   ⟨.u32, .ro, 0, 0, 0, 4294967295⟩,
   ⟨.u48, .rw, 0, 0, 0, 281474976710655⟩] ++
  [⟨.u8, .rw, 0, 16, 1, 32⟩,
   ⟨.u8, .rw, 0, 16, 1, 32⟩,
   ⟨.u8, .wo, 4, 0, 0, 7⟩,
   ⟨.u8, .rw, 0, 0, 0, 7⟩,
   ⟨.u32, .ro, 0, 0, 0, 4294967295⟩,
   ⟨.u32, .ro, 0, 0, 0, 4294967295⟩,
   ⟨.bool, .ro, 0, 0, 0, 1⟩,
   ⟨.u32, .ro, 0, 0, 0, 4294967295⟩]⟩

/-- Index 080400h (64 indices). -/
def rec080400 : CatRec := ⟨0x080400, 64, 1, 0x1,
  [⟨.record, .ro, 0, 0, 0, 0⟩,
   ⟨.u8, .ro, 0, 0, 0, 255⟩,
   ⟨.u8, .ro, 0, 0, 0, 255⟩,
   ⟨.bool, .wo, 4, 0, 0, 1⟩,
   ⟨.u64, .ro, 0, 0, 0, 18446744073709551615⟩]⟩

/-- Index 081000h (512 indices). -/
def rec081000 : CatRec := ⟨0x081000, 512, 1, 0x1,
  [⟨.octets, .rw, 0, 0, 0, 32900⟩]⟩

/-- Index 082000h (512 indices). -/
def rec082000 : CatRec := ⟨0x082000, 512, 1, 0x1,
  [⟨.octets, .rw, 0, 98304, 0, 98304⟩]⟩

/-- Index 083000h (2048 indices). -/
def rec083000 : CatRec := ⟨0x083000, 2048, 1, 0x1,
  [⟨.record, .rw, 0, 0, 0, 0⟩,
   ⟨.bool, .rw, 0, 0, 0, 1⟩,
   ⟨.u8, .rw, 0, 0, 0, 1⟩,
   ⟨.u8, .rw, 0, 0, 0, 7⟩,
   ⟨.u16, .rw, 0, 0, 0, 4095⟩,
   ⟨.u16, .rw, 0, 1, 1, 1024⟩,
   ⟨.u16, .rw, 0, 0, 0, 1023⟩,
   ⟨.u8, .rw, 0, 0, 0, 63⟩,
   ⟨.u8, .rw, 0, 0, 0, 7⟩]⟩

/-- Index 090000h (1 indices). -/
def rec090000 : CatRec := ⟨0x090000, 1, 1, 0x1,
  [⟨.record, .ro, 0, 0, 0, 0⟩,
   ⟨.bool, .wo, 5, 0, 0, 1⟩,
   ⟨.u8, .ro, 0, 0, 0, 255⟩,
   ⟨.u8, .ro, 0, 0, 0, 255⟩,
   ⟨.u64, .ro, 0, 0, 0, 18446744073709551615⟩,
   ⟨.u32, .rw, 2, 1000, 10, 100000⟩,
   ⟨.u16, .rw, 2, 50, 10, 10000⟩,
   ⟨.bool, .wo, 0, 0, 0, 1⟩,
   ⟨.u64, .ro, 0, 0, 0, 18446744073709551615⟩,
   ⟨.u64, .ro, 0, 0, 0, 18446744073709551615⟩,
   ⟨.u64, .ro, 0, 0, 0, 18446744073709551615⟩]⟩

/-- Index 090010h (1 indices). -/
def rec090010 : CatRec := ⟨0x090010, 1, 1, 0x1,
  [⟨.octets, .rw, 1, 0, 0, 122880⟩]⟩

/-- Index 090011h (1 indices). -/
def rec090011 : CatRec := ⟨0x090011, 1, 1, 0x1,
  [⟨.octets, .ro, 0, 0, 0, 122880⟩]⟩

/-- Index 090012h (1 indices). -/
def rec090012 : CatRec := ⟨0x090012, 1, 1, 0x1,
  [⟨.octets, .const, 0, 0, 0, 123648⟩]⟩

/-- Index 090200h (160 indices). -/
def rec090200 : CatRec := ⟨0x090200, 160, 1, 0x1,
  [⟨.record, .ro, 0, 0, 0, 0⟩,
   ⟨.u16, .const, 0, 0, 0, 65535⟩,
   ⟨.u16, .const, 0, 0, 0, 65535⟩,
   ⟨.u8, .ro, 0, 0, 0, 255⟩,
   ⟨.u8, .ro, 0, 0, 0, 255⟩,
   ⟨.u8, .ro, 0, 0, 0, 255⟩,
   ⟨.u64, .ro, 0, 0, 0, 18446744073709551615⟩,
   ⟨.u64, .ro, 0, 0, 0, 18446744073709551615⟩,
   ⟨.bool, .wo, 0, 0, 0, 1⟩,
   ⟨.bool, .wo, 4, 0, 0, 1⟩]⟩

/-- Index 090300h (4 indices). -/
def rec090300 : CatRec := ⟨0x090300, 4, 1, 0x1,
  [⟨.record, .ro, 0, 0, 0, 0⟩,
   ⟨.u64, .ro, 0, 0, 0, 18446744073709551615⟩]⟩

/-- Index 090400h (1024 indices). -/
def rec090400 : CatRec := ⟨0x090400, 1024, 1, 0x1,
  [⟨.record, .ro, 0, 0, 0, 0⟩,
   ⟨.u8, .rw, 2, 0, 0, 2⟩,
   ⟨.u64, .ro, 0, 0, 0, 18446744073709551615⟩,
   ⟨.u64, .ro, 0, 0, 0, 18446744073709551615⟩,
   ⟨.u32, .ro, 0, 0, 0, 4294967295⟩,
   ⟨.u32, .ro, 0, 0, 0, 4294967295⟩,
   ⟨.u32, .ro, 0, 0, 0, 4294967295⟩,
   ⟨.octets, .ro, 0, 64, 0, 64⟩,
   ⟨.u64, .ro, 0, 0, 0, 18446744073709551615⟩,
   ⟨.u64, .ro, 0, 0, 0, 18446744073709551615⟩,
   ⟨.u32, .ro, 0, 0, 0, 4294967295⟩]⟩

/-- Index 090800h (96 indices). -/
def rec090800 : CatRec := ⟨0x090800, 96, 1, 0x1,
  [⟨.record, .ro, 0, 0, 0, 0⟩,
   ⟨.u8, .ro, 0, 0, 0, 255⟩,
   ⟨.u16, .ro, 0, 0, 0, 65535⟩,
   ⟨.u64, .ro, 0, 0, 0, 18446744073709551615⟩]⟩

/-- Index 0A0000h (1 indices). -/
def rec0A0000 : CatRec := ⟨0x0A0000, 1, 1, 0x1,
  [⟨.record, .ro, 0, 0, 0, 0⟩,
   ⟨.u32, .ro, 0, 0, 0, 4294967295⟩,
   ⟨.u64, .ro, 0, 0, 0, 18446744073709551615⟩,
   ⟨.u32, .rw, 2, 2000, 200, 100000⟩,
   ⟨.u16, .rw, 2, 500, 0, 65535⟩]⟩

/-- Index 0A0010h (4 indices). -/
def rec0A0010 : CatRec := ⟨0x0A0010, 4, 1, 0x1,
  [⟨.record, .ro, 0, 0, 0, 0⟩,
   ⟨.u16, .ro, 0, 0, 0, 65535⟩,
   ⟨.u8, .ro, 0, 0, 0, 255⟩,
   ⟨.u64, .ro, 0, 0, 0, 18446744073709551615⟩,
   ⟨.u64, .rw, 3, 2048, 0, 18446744073709551615⟩,
   ⟨.u64, .rw, 3, 4096, 0, 18446744073709551615⟩,
   ⟨.u64, .rw, 3, 8192, 0, 18446744073709551615⟩,
   ⟨.u64, .ro, 0, 2048, 0, 18446744073709551615⟩,
   ⟨.u64, .ro, 0, 4096, 0, 18446744073709551615⟩,
   ⟨.u64, .ro, 0, 8192, 0, 18446744073709551615⟩]⟩

/-- Index 0A0100h (32 indices). -/
def rec0A0100 : CatRec := ⟨0x0A0100, 32, 1, 0x1,
  [⟨.record, .ro, 0, 0, 0, 0⟩,
   ⟨.u8, .ro, 0, 0, 0, 255⟩,
   ⟨.u8, .ro, 0, 0, 0, 255⟩,
   ⟨.u8, .ro, 0, 0, 0, 255⟩,
   ⟨.u8, .ro, 0, 0, 0, 255⟩,
   ⟨.u16, .ro, 0, 0, 0, 65535⟩,
   ⟨.u8, .ro, 0, 0, 0, 255⟩,
   ⟨.u8, .ro, 0, 0, 0, 255⟩,
   ⟨.u32, .ro, 0, 0, 0, 4294967295⟩,
   ⟨.u32, .ro, 0, 0, 0, 4294967295⟩,
   ⟨.u64, .ro, 0, 0, 0, 18446744073709551615⟩,
   ⟨.u64, .ro, 0, 0, 0, 18446744073709551615⟩,
   ⟨.u64, .ro, 0, 0, 0, 18446744073709551615⟩,
   ⟨.u64, .ro, 0, 0, 0, 18446744073709551615⟩,
   ⟨.u64, .ro, 0, 0, 0, 18446744073709551615⟩,
   ⟨.u32, .ro, 0, 0, 0, 4294967295⟩] ++
  [⟨.u32, .ro, 0, 0, 0, 4294967295⟩,
   ⟨.u8, .ro, 0, 0, 0, 255⟩]⟩

/-- Index 0A0200h (4 indices). -/
def rec0A0200 : CatRec := ⟨0x0A0200, 4, 1, 0x1,
  [⟨.record, .ro, 0, 0, 0, 0⟩,
   ⟨.u64, .ro, 0, 0, 0, 18446744073709551615⟩,
   ⟨.u64, .ro, 0, 0, 0, 18446744073709551615⟩,
   ⟨.u32, .ro, 0, 0, 0, 4294967295⟩,
   ⟨.u64, .ro, 0, 0, 0, 18446744073709551615⟩,
   ⟨.u64, .ro, 0, 0, 0, 18446744073709551615⟩]⟩

/-- Index 0B0000h (1 indices). -/
def rec0B0000 : CatRec := ⟨0x0B0000, 1, 1, 0x1,
  [⟨.record, .ro, 0, 0, 0, 0⟩,
   ⟨.u8, .rw, 3, 4, 0, 8⟩,
   ⟨.u8, .rw, 3, 4, 0, 8⟩,
   ⟨.u8, .rw, 3, 4, 0, 8⟩,
   ⟨.u8, .rw, 3, 4, 0, 8⟩,
   ⟨.u8, .ro, 0, 4, 0, 255⟩,
   ⟨.u8, .ro, 0, 4, 0, 255⟩,
   ⟨.u8, .ro, 0, 4, 0, 255⟩,
   ⟨.u8, .ro, 0, 4, 0, 255⟩]⟩

/-- Index 0B0010h (1 indices). -/
def rec0B0010 : CatRec := ⟨0x0B0010, 1, 1, 0x1,
  [⟨.record, .ro, 0, 0, 0, 0⟩,
   ⟨.u8, .ro, 2, 255, 0, 255⟩,
   ⟨.u8, .ro, 2, 0, 0, 255⟩,
   ⟨.u48, .ro, 2, 0, 0, 281474976710655⟩,
   ⟨.u8, .ro, 2, 255, 0, 255⟩,
   ⟨.u64, .ro, 2, 0, 0, 18446744073709551615⟩,
   ⟨.time96, .ro, 2, 0, 0, 79228162514264337593543950335⟩,
   ⟨.u32, .ro, 2, 0, 0, 4294967295⟩]⟩

/-- Index 0B0100h (16 indices). -/
def rec0B0100 : CatRec := ⟨0x0B0100, 16, 1, 0x1,
  [⟨.record, .ro, 0, 0, 0, 0⟩,
   ⟨.u8, .ro, 0, 0, 0, 255⟩,
   ⟨.bool, .rw, 3, 0, 0, 1⟩,
   ⟨.bool, .rw, 3, 1, 0, 1⟩,
   ⟨.u48, .rw, 3, 0, 0, 137438953471⟩,
   ⟨.u64, .rw, 3, 0, 0, 18446744073709551615⟩,
   ⟨.u48, .rw, 3, 0, 0, 137438953471⟩,
   ⟨.u32, .ro, 0, 0, 0, 4294967295⟩,
   ⟨.u64, .ro, 0, 0, 0, 18446744073709551615⟩,
   ⟨.u48, .ro, 0, 0, 0, 281474976710655⟩,
   ⟨.u64, .ro, 0, 0, 0, 18446744073709551615⟩,
   ⟨.u64, .ro, 0, 0, 0, 18446744073709551615⟩,
   ⟨.u64, .ro, 0, 0, 0, 18446744073709551615⟩,
   ⟨.u32, .ro, 0, 0, 0, 4294967295⟩]⟩

/-- Index 0C0000h (1 indices). -/
def rec0C0000 : CatRec := ⟨0x0C0000, 1, 1, 0x1,
  [⟨.record, .ro, 0, 0, 0, 0⟩,
   ⟨.u8, .ro, 0, 0, 0, 255⟩,
   ⟨.u16, .ro, 0, 0, 0, 65535⟩,
   ⟨.u32, .ro, 0, 0, 0, 4294967295⟩,
   ⟨.u64, .ro, 0, 0, 0, 18446744073709551615⟩,
   ⟨.u32, .ro, 0, 0, 0, 4294967295⟩,
   ⟨.u8, .ro, 0, 0, 0, 255⟩,
   ⟨.u64, .ro, 0, 0, 0, 18446744073709551615⟩,
   ⟨.u16, .ro, 0, 0, 0, 65535⟩,
   ⟨.bool, .wo, 1, 0, 0, 1⟩,
   ⟨.bool, .rw, 3, 0, 0, 1⟩]⟩

/-- Index 0C0001h (1 indices). -/
def rec0C0001 : CatRec := ⟨0x0C0001, 1, 1, 0x1,
  [⟨.record, .ro, 0, 0, 0, 0⟩,
   ⟨.octets, .rw, 3, 0, 0, 48⟩,
   ⟨.octets, .rw, 3, 0, 0, 48⟩,
   ⟨.octets, .rw, 3, 0, 0, 48⟩,
   ⟨.octets, .rw, 3, 0, 0, 48⟩]⟩

/-- Index 0C0100h (64 indices). -/
def rec0C0100 : CatRec := ⟨0x0C0100, 64, 1, 0x1,
  [⟨.record, .ro, 0, 0, 0, 0⟩,
   ⟨.u8, .ro, 0, 0, 0, 255⟩,
   ⟨.u64, .ro, 0, 0, 0, 18446744073709551615⟩,
   ⟨.u32, .ro, 0, 0, 0, 4294967295⟩,
   ⟨.u8, .rw, 0, 0, 0, 1⟩,
   ⟨.bool, .wo, 4, 0, 0, 1⟩,
   ⟨.bool, .wo, 0, 0, 0, 1⟩,
   ⟨.u16, .ro, 0, 0, 0, 65535⟩,
   ⟨.u8, .ro, 0, 0, 0, 255⟩]⟩

/-- Index 0D0000h (1 indices). -/
def rec0D0000 : CatRec := ⟨0x0D0000, 1, 1, 0x1,
  [⟨.record, .ro, 0, 0, 0, 0⟩,
   ⟨.u32, .ro, 0, 0, 0, 4294967295⟩,
   ⟨.u32, .ro, 0, 0, 0, 4294967295⟩,
   ⟨.u32, .ro, 0, 0, 0, 4294967295⟩,
   ⟨.u32, .ro, 0, 0, 0, 4294967295⟩,
   ⟨.bool, .rw, 2, 1, 0, 1⟩,
   ⟨.u8, .rw, 2, 8, 2, 32⟩,
   ⟨.u8, .ro, 0, 0, 0, 255⟩,
   ⟨.u8, .ro, 0, 0, 0, 255⟩,
   ⟨.u64, .ro, 0, 0, 0, 18446744073709551615⟩]⟩

/-- Index 0D0100h (256 indices). -/
def rec0D0100 : CatRec := ⟨0x0D0100, 256, 1, 0x1,
  [⟨.record, .ro, 0, 0, 0, 0⟩,
   ⟨.u8, .ro, 0, 0, 0, 255⟩,
   ⟨.u8, .ro, 0, 0, 0, 255⟩,
   ⟨.u8, .ro, 0, 0, 0, 255⟩,
   ⟨.octets, .ro, 2, 67, 0, 67⟩,
   ⟨.u16, .ro, 0, 0, 0, 65535⟩,
   ⟨.u16, .ro, 0, 0, 0, 65535⟩,
   ⟨.bool, .ro, 0, 0, 0, 1⟩,
   ⟨.u32, .ro, 0, 0, 0, 4294967295⟩,
   ⟨.u32, .ro, 2, 0, 0, 4294967295⟩,
   ⟨.octets, .ro, 0, 0, 0, 1072⟩,
   ⟨.bool, .wo, 0, 0, 0, 1⟩,
   ⟨.bool, .wo, 4, 0, 0, 1⟩]⟩

/-- Index 0E0000h (1 indices). -/
def rec0E0000 : CatRec := ⟨0x0E0000, 1, 1, 0x1,
  [⟨.record, .ro, 0, 0, 0, 0⟩,
   ⟨.u32, .ro, 2, 0, 0, 4294967295⟩,
   ⟨.u32, .ro, 2, 0, 0, 4294967295⟩,
   ⟨.u32, .ro, 2, 0, 0, 4294967295⟩]⟩

/-- Index 0E0011h (1 indices). -/
def rec0E0011 : CatRec := ⟨0x0E0011, 1, 1, 0x1,
  [⟨.octets, .ro, 0, 0, 0, 4194304⟩]⟩

/-- Index 0E0012h (1 indices). -/
def rec0E0012 : CatRec := ⟨0x0E0012, 1, 1, 0x1,
  [⟨.octets, .ro, 0, 0, 0, 4194304⟩]⟩

/-- Index 0E0200h (4 indices). -/
def rec0E0200 : CatRec := ⟨0x0E0200, 4, 1, 0x1,
  [⟨.record, .ro, 0, 0, 0, 0⟩,
   ⟨.u64, .w1c, 0, 0, 0, 18446744073709551615⟩]⟩

/-- Index 0E1000h (4096 indices). -/
def rec0E1000 : CatRec := ⟨0x0E1000, 4096, 1, 0x1,
  [⟨.record, .ro, 0, 0, 0, 0⟩,
   ⟨.bool, .rw, 2, 1, 0, 1⟩,
   ⟨.u8, .rw, 2, 0, 0, 4⟩,
   ⟨.u8, .rw, 2, 255, 0, 255⟩,
   ⟨.u8, .rw, 2, 0, 0, 15⟩,
   ⟨.u64, .rw, 2, 0, 0, 18446744073709551615⟩,
   ⟨.u8, .rw, 2, 0, 0, 3⟩,
   ⟨.u32, .ro, 0, 0, 0, 4294967295⟩,
   ⟨.u64, .ro, 0, 0, 0, 18446744073709551615⟩]⟩

/-- Index 0F0000h (1 indices). -/
def rec0F0000 : CatRec := ⟨0x0F0000, 1, 1, 0x1,
  [⟨.record, .ro, 0, 0, 0, 0⟩,
   ⟨.u8, .ro, 0, 0, 0, 255⟩]⟩

/-- Index 0F0100h (64 indices). -/
def rec0F0100 : CatRec := ⟨0x0F0100, 64, 1, 0x1,
  [⟨.record, .rw, 0, 0, 0, 0⟩,
   ⟨.u8, .rw, 0, 0, 0, 255⟩,
   ⟨.u32, .rw, 0, 0, 0, 16777215⟩,
   ⟨.octets, .rw, 0, 0, 0, 256⟩,
   ⟨.u8, .wo, 0, 0, 0, 5⟩,
   ⟨.u8, .ro, 0, 0, 0, 255⟩,
   ⟨.u32, .ro, 0, 0, 0, 4294967295⟩,
   ⟨.u16, .ro, 0, 0, 0, 65535⟩,
   ⟨.u32, .ro, 0, 0, 0, 4294967295⟩,
   ⟨.u8, .ro, 0, 0, 0, 255⟩,
   ⟨.u64, .ro, 0, 0, 0, 18446744073709551615⟩]⟩

/-- Index 100000h (1 indices). -/
def rec100000 : CatRec := ⟨0x100000, 1, 1, 0x1,
  [⟨.record, .ro, 0, 0, 0, 0⟩,
   ⟨.u32, .ro, 0, 0, 0, 4294967295⟩,
   ⟨.u32, .ro, 0, 0, 0, 4294967295⟩,
   ⟨.u32, .ro, 0, 0, 0, 4294967295⟩,
   ⟨.u32, .ro, 0, 0, 0, 4294967295⟩,
   ⟨.u32, .ro, 0, 0, 0, 4294967295⟩,
   ⟨.u32, .ro, 0, 0, 0, 4294967295⟩,
   ⟨.u32, .ro, 0, 0, 0, 4294967295⟩,
   ⟨.u32, .ro, 0, 0, 0, 4294967295⟩,
   ⟨.u8, .ro, 0, 0, 0, 255⟩,
   ⟨.u8, .const, 0, 0, 0, 255⟩,
   ⟨.u64, .const, 0, 0, 0, 18446744073709551615⟩,
   ⟨.octets, .rw, 3, 0, 0, 97⟩,
   ⟨.u8, .ro, 0, 0, 0, 255⟩,
   ⟨.u32, .ro, 0, 0, 0, 4294967295⟩]⟩

/-- Index 100100h (1 indices). -/
def rec100100 : CatRec := ⟨0x100100, 1, 1, 0x1,
  [⟨.record, .ro, 0, 0, 0, 0⟩,
   ⟨.u8, .ro, 2, 0, 0, 255⟩,
   ⟨.u32, .wo, 0, 0, 0, 49152⟩,
   ⟨.u32, .ro, 2, 0, 0, 4294967295⟩,
   ⟨.u32, .ro, 2, 0, 0, 4294967295⟩,
   ⟨.octets, .ro, 2, 0, 0, 6144⟩,
   ⟨.u8, .ro, 2, 0, 0, 255⟩,
   ⟨.u8, .ro, 2, 255, 0, 255⟩,
   ⟨.u32, .ro, 2, 0, 0, 4294967295⟩,
   ⟨.u32, .ro, 2, 0, 0, 4294967295⟩,
   ⟨.bool, .wo, 5, 0, 0, 1⟩,
   ⟨.u32, .ro, 2, 0, 0, 4294967295⟩,
   ⟨.time96, .ro, 2, 0, 0, 79228162514264337593543950335⟩]⟩

/-- Index 100101h (1 indices). -/
def rec100101 : CatRec := ⟨0x100101, 1, 1, 0x1,
  [⟨.record, .wo, 0, 0, 0, 0⟩,
   ⟨.u32, .wo, 0, 0, 0, 4294967295⟩,
   ⟨.octets, .wo, 0, 0, 0, 1024⟩,
   ⟨.u32, .wo, 0, 0, 0, 4294967295⟩]⟩

/-- Index 110001h (1 indices). -/
def rec110001 : CatRec := ⟨0x110001, 1, 1, 0x1,
  [⟨.record, .ro, 0, 0, 0, 0⟩,
   ⟨.bool, .ro, 0, 0, 0, 1⟩,
   ⟨.bool, .ro, 0, 0, 0, 1⟩]⟩

/-- Index 110002h (1 indices). -/
def rec110002 : CatRec := ⟨0x110002, 1, 1, 0x1,
  [⟨.record, .ro, 0, 0, 0, 0⟩,
   ⟨.u32, .ro, 0, 0, 0, 4294967295⟩,
   ⟨.u32, .ro, 0, 0, 0, 4294967295⟩,
   ⟨.u32, .ro, 0, 0, 0, 4294967295⟩,
   ⟨.u32, .ro, 0, 0, 0, 4294967295⟩]⟩

/-- Index 110010h (4 indices). -/
def rec110010 : CatRec := ⟨0x110010, 4, 1, 0x1,
  [⟨.record, .ro, 0, 0, 0, 0⟩,
   ⟨.u32, .ro, 0, 0, 0, 4294967295⟩,
   ⟨.u32, .ro, 0, 0, 0, 4294967295⟩,
   ⟨.u32, .ro, 0, 0, 0, 4294967295⟩]⟩

/-- Index 110020h (4 indices). -/
def rec110020 : CatRec := ⟨0x110020, 4, 1, 0x1,
  [⟨.record, .ro, 0, 0, 0, 0⟩,
   ⟨.u32, .ro, 0, 0, 0, 4294967295⟩,
   ⟨.u32, .ro, 0, 0, 0, 4294967295⟩]⟩

/-- Index 110100h (64 indices). -/
def rec110100 : CatRec := ⟨0x110100, 64, 1, 0x1,
  [⟨.record, .ro, 0, 0, 0, 0⟩,
   ⟨.u8, .ro, 0, 0, 0, 255⟩,
   ⟨.u8, .ro, 0, 0, 0, 255⟩,
   ⟨.u8, .ro, 0, 0, 0, 255⟩,
   ⟨.u8, .rw, 0, 0, 0, 5⟩,
   ⟨.u8, .rw, 0, 0, 0, 63⟩,
   ⟨.bool, .rw, 4, 0, 0, 1⟩,
   ⟨.bool, .rw, 0, 0, 0, 1⟩,
   ⟨.u8, .rw, 2, 2, 1, 255⟩,
   ⟨.bool, .ro, 0, 0, 0, 1⟩,
   ⟨.bool, .ro, 0, 0, 0, 1⟩]⟩

/-- The device's own part of the catalogue (R47), 000000h to 11FFFFh. -/
def catalogue : List CatRec :=
  [rec000001, rec000002, rec000003, rec000004, rec010001, rec010002, rec010003, rec010004, rec010010, rec010018, rec011000, rec020010] ++
  [rec020030, rec020040, rec030000, rec030001, rec030010, rec030100, rec030140, rec030160, rec030180, rec030200, rec030300, rec040000] ++
  [rec040010, rec040100, rec040180, rec040200, rec040300, rec040400, rec040800, rec050000, rec050100, rec050200, rec050300, rec050400] ++
  [rec050500, rec050600, rec050800, rec060000, rec061000, rec070010, rec070100, rec070180, rec070200, rec070300, rec074000, rec080000] ++
  [rec080100, rec080400, rec081000, rec082000, rec083000, rec090000, rec090010, rec090011, rec090012, rec090200, rec090300, rec090400] ++
  [rec090800, rec0A0000, rec0A0010, rec0A0100, rec0A0200, rec0B0000, rec0B0010, rec0B0100, rec0C0000, rec0C0001, rec0C0100, rec0D0000] ++
  [rec0D0100, rec0E0000, rec0E0011, rec0E0012, rec0E0200, rec0E1000, rec0F0000, rec0F0100, rec100000, rec100100, rec100101, rec110001] ++
  [rec110002, rec110010, rec110020, rec110100]

end Sys2Proof.Machine
end

