-- ==== Sys2Proof/Machine/Ops.lean ====
section
/-! DEFINITION. The shared operations over the state: sparse tables, wire encodings, catalogue entries, time. -/

namespace Sys2Proof.Machine

/-- What a command answers. -/
abbrev Out := Host.Outcome State Fault Refusal

/-! ### Sparse tables -/

/-- The value under a key, if the table lists it. -/
def tget {α : Type} : Tbl α → Nat → Option α
  | [], _ => none
  | (j, v) :: r, k => if j = k then some v else tget r k

/-- The value under a key, or the value that unlisted keys read as. -/
def tgetD {α : Type} (t : Tbl α) (k : Nat) (d : α) : α := (tget t k).getD d

/-- Put a value under a key; a table with rising keys keeps them rising. -/
def tput {α : Type} : Tbl α → Nat → α → Tbl α
  | [], k, v => [(k, v)]
  | (j, w) :: r, k, v =>
    if j = k then (k, v) :: r
    else if k < j then (k, v) :: (j, w) :: r
    else (j, w) :: tput r k v

/-- Take a key out of a table. -/
def tdel {α : Type} (t : Tbl α) (k : Nat) : Tbl α := t.filter fun e => e.1 ≠ k

/-- Replace element `i` of a list by its image; an index past the end changes nothing. -/
def lmod {α : Type} (l : List α) (i : Nat) (f : α → α) : List α := l.modify i f

/-! ### Wire encodings (R41) -/

/-- The low `n` bytes of `v`, most significant first. -/
def be : Nat → Nat → List Byte
  | 0, _ => []
  | n + 1, v => BitVec.ofNat 8 (v / 256 ^ n) :: be n v

/-- The number that bytes spell, most significant first. -/
def unbe (b : List Byte) : Nat := b.foldl (fun a x => a * 256 + x.toNat) 0

/-- Bytes `i` up to `i + n`, absent ones left out. -/
def slice (b : List Byte) (i n : Nat) : List Byte := (b.drop i).take n

/-- The number in bytes `i` up to `i + n`. -/
def fieldBE (b : List Byte) (i n : Nat) : Nat := unbe (slice b i n)

/-- Wire length of the types of fixed length (R41). -/
def tyLen : Ty → Option Nat
  | .bool | .u8 | .i8 => some 1
  | .u16 | .i16 => some 2
  | .u32 | .i32 => some 4
  | .u48 | .i48 => some 6
  | .u64 | .i64 => some 8
  | .time96 => some 12
  | .string | .octets | .record => none

/-- Whether the type is signed. -/
def tySigned : Ty → Bool
  | .i8 | .i16 | .i32 | .i48 | .i64 => true
  | _ => false

/-- TIME96 on the wire: seconds U64, then nanoseconds U32 (R41); the number counts ns. -/
def encTime (ns : Nat) : List Byte := be 8 (ns / 1000000000) ++ be 4 (ns % 1000000000)

/-- A value in the wire encoding of its type (R41). -/
def encVal (ty : Ty) (v : Val) : List Byte :=
  match v with
  | .oct b => b
  | .num n =>
    match ty with
    | .time96 => encTime n
    | _ => be ((tyLen ty).getD 0) n

/-- A value from its wire encoding; `none` where length or encoding is wrong (R41, R42). R41 calls a STRING UTF-8 and names no
refusal for other bytes: they are not looked at (DESIGN CHOICE, log entry 20). -/
def decVal (ty : Ty) (b : List Byte) : Option Val :=
  match ty with
  | .string => if b.length ≤ 255 then some (.oct b) else none
  | .octets | .record => some (.oct b)
  | .time96 =>
    if b.length = 12 ∧ fieldBE b 8 4 ≤ 999999999 then some (.num (fieldBE b 0 8 * 1000000000 + fieldBE b 8 4)) else none
  | .bool => if b.length = 1 ∧ unbe b ≤ 1 then some (.num (unbe b)) else none
  | t => if tyLen t = some b.length then some (.num (unbe b)) else none

/-- The number in a value; the bytes of an octet value spell it. -/
def valNum : Val → Nat
  | .num n => n
  | .oct b => unbe b

/-- The bytes of an octet value. -/
def valBytes : Val → List Byte
  | .num _ => []
  | .oct b => b

/-- The number of a value as a signed quantity of `w` bits. -/
def valInt (w : Nat) (v : Val) : Int := signed w (valNum v)

/-! ### Entries -/

/-- Entry number: index times 256 plus sub-index. -/
def ent (idx sub : Nat) : Nat := idx * 256 + sub

/-- The run of indices an index lies in. -/
def CatRec.covers (r : CatRec) (idx : Nat) : Bool :=
  decide (r.base ≤ idx) && decide ((idx - r.base) / r.step < r.rep) && decide ((idx - r.base) % r.step < r.count)
  || r.rep == 1 && decide (r.base ≤ idx) && decide (idx < r.base + r.count)

/-- The record of an index (R39). -/
def recAt (idx : Nat) : Option CatRec := catalogue.find? fun r => r.covers idx

/-- The descriptor of an entry of the device (R40). -/
def fieldAt (key : Nat) : Option Field := (recAt (key / 256)).bind fun r => r.fields[key % 256]?

/-- Bits of a field's flags. -/
def Field.crit (f : Field) : Bool := f.flags % 2 == 1
/-- The persistence flag. -/
def Field.pers (f : Field) : Bool := f.flags / 2 % 2 == 1
/-- The timed flag. -/
def Field.timed (f : Field) : Bool := f.flags / 4 % 2 == 1

/-- Indices that belong only to OE4–OE7 or to ports 10–13, absent on an H part (R3, R4). -/
def absentOnH (idx : Nat) : Bool :=
  (decide (0x050304 ≤ idx) && decide (idx ≤ 0x050307)) || (decide (0x05040A ≤ idx) && decide (idx ≤ 0x05040D))
  || (decide (0x050850 ≤ idx) && decide (idx ≤ 0x05086F)) || (decide (0x070350 ≤ idx) && decide (idx ≤ 0x07036F))
  || (decide (0x03030A ≤ idx) && decide (idx ≤ 0x03030D))

/-- Common feature level (R133, R134): 1 where a bolt is of stepping A1. -/
def featureLevel (u : Fuses) : Nat := if u.step.any (fun c => c < 0x20) then 1 else 2

/-- OE_FITTED of the part code (R5). -/
def oeFitted (u : Fuses) : Nat := if u.hPart then 0x0F else 0xFF

/-- The ASCII codes of a string's characters. -/
def ascii (s : String) : List Byte := s.toList.map fun c => BitVec.ofNat 8 c.toNat

/-- Default severities (R525). -/
def defaultSeverity (n : Nat) : Nat :=
  if [0x181, 0xC00, 0xC02].contains n then 4
  else if [0x065, 0x066, 0x140, 0x14D, 0x182, 0x183, 0x211, 0x221, 0x401, 0x4C1, 0x830, 0x831, 0x832, 0xA02, 0xA08,
    0xB05, 0xB11, 0xD03, 0xD13, 0xD20, 0xE04].contains n then 3
  else if [0x022, 0x023, 0x024, 0x026, 0x040, 0x101, 0x106, 0x107, 0x108, 0x112, 0x113, 0x114, 0x115, 0x116, 0x144,
    0x148, 0x149, 0x14C, 0x180, 0x202, 0x212, 0x222, 0x411, 0x420, 0x421, 0x422, 0x430, 0x441, 0x442, 0x443, 0x481,
    0x482, 0x810, 0x811, 0x812, 0x814, 0x816, 0x820, 0x821, 0xA00, 0xA01, 0xA09, 0xB02, 0xB04, 0xC03, 0xC06, 0xD02,
    0xD22, 0xD23, 0xE00, 0xE02, 0xE03, 0xE05, 0xE0A].contains n then 2
  else 1

/-- Frequency of an operating point in kHz (R236): shuttle domains are even, hard domains odd. -/
def opKHz (d op : Nat) : Nat :=
  if d % 2 = 0 then [300000, 400000, 500000, 600000, 750000, 900000, 1050000, 1200000].getD op 0
  else [500000, 600000, 700000, 800000, 1000000, 1200000, 1350000, 1500000].getD op 0

/-- Voltage of an operating point in mV (R236). -/
def opMv (d op : Nat) : Nat :=
  if d % 2 = 0 then [600, 620, 640, 670, 710, 750, 800, 850].getD op 0
  else [620, 640, 660, 680, 720, 770, 810, 850].getD op 0

/-- Published corrections of port record `k` in ps, ingress then egress, classes 0 to 5 (R262); a class that the port
cannot run reads 0. -/
def ptpCorrection (k : Nat) : List Int × List Int :=
  if k < 6 then ([-118300, -61000, -86400, -104800, -98600, 0], [96700, 49500, 58100, 62300, 57200, 0])
  else if k < 14 then ([0, 0, 0, 0, -101900, 0], [0, 0, 0, 0, 60400, 0])
  else if k < 30 then ([-121100, -64200, -89600, 0, 0, 0], [99000, 51800, 61400, 0, 0, 0])
  else ([0, 0, 0, 0, 0, -412000], [0, 0, 0, 0, 0, 356000])

/-- The bytes of a MAC address as a number. -/
def macNum (u : Fuses) : Nat := unbe u.macA

/-- Bytes of the topology map that precede the factory route table in `090012h:00` (one per router port; log entry 4). -/
def topologyBytes : Nat := 768

/-- Seam clock ceiling of the speed grade in kHz (R2, R175). -/
def seamCeiling (u : Fuses) : Nat := 700000 + 100000 * u.speed

/-- Defaults that the tables give as 'per unit', 'per strap', 'compiled', R236, R262, R525 or by naming another entry
(R46; log entries 4 and 5). `none` leaves the default of the entry table. -/
def unitDefault (s : State) (idx sub : Nat) : Option Val :=
  let u := s.unit
  match idx with
  | 0x000001 => if sub = 0 then
      some (.oct (ascii "JWS4-" ++ ascii (if u.hPart then "H" else "F") ++ [BitVec.ofNat 8 (0x30 + u.speed)]
        ++ ascii (if u.industrial then "I" else "E"))) else none
  | 0x000002 => some (.num (oeFitted u * 256 + u.speed * 16 + (if u.industrial then 1 else 0)))
  | 0x000004 =>
    if 1 ≤ sub ∧ sub ≤ 4 then some (.num (u.step.getD (sub - 1) 0))
    else if sub = 5 then some (.num (featureLevel u))
    else if sub = 6 then some (.num (if featureLevel u = 2 then 3 else 0)) else none
  | 0x010001 => if sub = 2 then some (.num (u.serial % 2 ^ 18)) else none
  | 0x030010 => if 1 ≤ sub ∧ sub ≤ 64 then some (.num u.tickLat) else none
  | 0x040000 => if sub = 6 then some (.num (if s.pwr.xoSel then 50000000 else 25000000)) else none
  | 0x100000 =>
    if 1 ≤ sub ∧ sub ≤ 8 then some (.num u.fwVersion)
    else if sub = 0x0A then some (.num (0x40 + featureLevel u))
    else if sub = 0x0B then some (.num u.serial) else none
  | 0x110001 =>
    if sub = 1 then some (.num (if s.pwr.pullSel then 1 else 0))
    else if sub = 2 then some (.num (if s.pwr.xoSel then 1 else 0)) else none
  | 0x0D0000 =>
    if 1 ≤ sub ∧ sub ≤ 4 then (tget s.cfg.compiled.entries (ent idx sub)).map fun v => .num (min (seamCeiling u) (valNum v))
    else if sub = 5 ∧ featureLevel u = 1 then some (.num 0) else none
  | 0x0B0100 => if sub = 1 then some (.num 2) else if sub = 2 then some (.num 1) else if sub = 3 then some (.num 0) else none
  | 0x090012 => if sub = 0 then
      some (.oct ((List.range (topologyBytes + 122880)).map Config.factoryByte)) else none
  | _ =>
    if 0x0A0010 ≤ idx ∧ idx ≤ 0x0A0013 ∧ 7 ≤ sub ∧ sub ≤ 9 then
      some ((tget s.cat (ent idx (sub - 3))).getD (.num (2 ^ (sub + 4))))
    else if 0x0E1000 ≤ idx ∧ idx ≤ 0x0E1FFF then
      if sub = 2 then some (.num (defaultSeverity (idx - 0x0E1000))) else none
    else if 0x030300 ≤ idx ∧ idx ≤ 0x03031F then
      let c := ptpCorrection (idx - 0x030300)
      if 3 ≤ sub ∧ sub ≤ 8 then some (.num (wrap 32 (c.1.getD (sub - 3) 0)))
      else if 9 ≤ sub ∧ sub ≤ 0x0E then some (.num (wrap 32 (c.2.getD (sub - 9) 0))) else none
    else if 0x040100 ≤ idx ∧ idx ≤ 0x040107 then
      let start := (tget s.cat (ent idx 4)).getD (.num (if idx % 2 = 0 then 0 else 7))
      if sub = 1 then some start else if sub = 4 then some (.num (if idx % 2 = 0 then 0 else 7)) else none
    else if 0x040180 ≤ idx ∧ idx ≤ 0x040187 then
      if 1 ≤ sub ∧ sub ≤ 8 then some (.num (opKHz (idx - 0x040180) (sub - 1)))
      else if 9 ≤ sub ∧ sub ≤ 0x10 then some (.num (opMv (idx - 0x040180) (sub - 9))) else none
    else if 0x050400 ≤ idx ∧ idx ≤ 0x05040D ∧ sub = 7 then
      some (.oct (be 6 (macNum u + 16 + 8 * (idx - 0x050400))))
    else if 0x050500 ≤ idx ∧ idx ≤ 0x05050F ∧ sub = 4 then
      some (.oct (be 6 (macNum u + 128 + 4 * (idx - 0x050500))))
    else if 0x050600 ≤ idx ∧ idx ≤ 0x050601 ∧ sub = 5 then some (.oct (be 6 (macNum u + (idx - 0x050600))))
    else if 0x080400 ≤ idx ∧ idx ≤ 0x08043F ∧ sub = 1 then
      some (.num ((List.range 8).foldl (fun a k =>
        if u.mappedOut.contains (8 * (idx - 0x080400) + k) then a + 2 ^ k else a) 0))
    else if 0x090200 ≤ idx ∧ idx ≤ 0x09029F ∧ (sub = 1 ∨ sub = 2) then
      let i := 0x100000 + 4 * (idx - 0x090200) + 2 * (sub - 1)
      some (.num (((Config.factoryByte i).toNat * 256 + (Config.factoryByte (i + 1)).toNat) % 768))
    else if 0x090400 ≤ idx ∧ idx ≤ 0x0907FF ∧ sub = 1 then
      some (.num (if 0x090440 ≤ idx ∧ idx ≤ 0x090447 then 2 else 1))
    else if 0x0D0100 ≤ idx ∧ idx ≤ 0x0D01FF ∧ sub = 2 then
      tget s.cfg.compiled.entries (ent (if (idx - 0x0D0100) / 32 % 2 = 1 then idx - 32 else idx) 2)
    else tget s.cfg.compiled.entries (ent idx sub)

/-- The default of an entry: the unit's, else the table's (R40, R46). -/
def defaultVal (s : State) (key : Nat) : Val :=
  match unitDefault s (key / 256) (key % 256) with
  | some v => v
  | none =>
    match fieldAt key with
    | some f =>
      match f.ty with
      | .string | .octets | .record => .oct (List.replicate f.dflt 0)
      | _ => .num f.dflt
    | none => .num 0

/-- The stored value of an entry: the value written or set, else its default. -/
def State.val (s : State) (key : Nat) : Val := (tget s.cat key).getD (defaultVal s key)

/-- The stored number of entry `idx:sub`. -/
def State.num (s : State) (idx sub : Nat) : Nat := valNum (s.val (ent idx sub))

/-- The stored bytes of entry `idx:sub`. -/
def State.oct (s : State) (idx sub : Nat) : List Byte := valBytes (s.val (ent idx sub))

/-- Whether the stored number of entry `idx:sub` is not 0. -/
def State.flag (s : State) (idx sub : Nat) : Bool := s.num idx sub != 0

/-- The device sets an entry as it counts, measures, records or runs: GENERATION does not move (R46). -/
def State.put (s : State) (idx sub : Nat) (n : Nat) : State := { s with cat := tput s.cat (ent idx sub) (.num n) }

/-- The same for bytes. -/
def State.putOct (s : State) (idx sub : Nat) (b : List Byte) : State := { s with cat := tput s.cat (ent idx sub) (.oct b) }

/-- Add to a counter of `w` bits. -/
def State.count (s : State) (idx sub w n : Nat) : State := s.put idx sub ((s.num idx sub + n) % 2 ^ w)

/-- Set bits of a status register. -/
def State.setBits (s : State) (idx sub mask : Nat) : State := s.put idx sub (s.num idx sub ||| mask)

/-- The bits of a W1C status register that the device set in this cycle (R6). -/
def State.freshBits (s : State) (key : Nat) : Nat :=
  match tget s.mgmt.marks key with
  | some m => if m.cyc = s.now then m.bits else 0
  | none => 0

/-- Set bits of a W1C status register, and keep which ones this cycle set (R6). -/
def State.latchBits (s : State) (idx sub mask : Nat) : State :=
  let mark : BitMark := { cyc := s.now, bits := s.freshBits (ent idx sub) ||| mask }
  { s.setBits idx sub mask with mgmt := { s.mgmt with marks := tput s.mgmt.marks (ent idx sub) mark } }

/-- Clear bits of a status register of up to 64 bits. -/
def State.clrBits (s : State) (idx sub mask : Nat) : State :=
  s.put idx sub (s.num idx sub &&& ((2 ^ 64 - 1) ^^^ (mask % 2 ^ 64)))

/-- A change that a command or an operation makes as its outcome moves GENERATION modulo 2^32 (R46). -/
def State.bump (s : State) (key : Nat) : State := { s with gen := tput s.gen key ((tgetD s.gen key 0 + 1) % 2 ^ 32) }

/-- Bytes that a command or an operation leaves as its outcome (R46). -/
def State.outcome (s : State) (idx sub : Nat) (b : List Byte) : State :=
  if s.oct idx sub = b then s else (s.putOct idx sub b).bump (ent idx sub)

/-- A write: stores the value, and moves GENERATION where it changes the value (R46). -/
def State.write (s : State) (key : Nat) (v : Val) : State :=
  if s.val key = v then s else { s with cat := tput s.cat key v, gen := tput s.gen key ((tgetD s.gen key 0 + 1) % 2 ^ 32) }

/-- The answer to the latest write command (R56). -/
def State.reply (s : State) (status detail : Nat) (value : List Byte := []) : State :=
  { s with cap := { s.cap with answer := { status := status, detail := detail, value := value } } }

/-! ### Status codes (R73) -/

def stOk : Nat := 0x0000
def stAccepted : Nat := 0x0001
def stNotReady : Nat := 0x0101
def stRetryAfter : Nat := 0x0102
def stNoSuchEntry : Nat := 0x0201
def stTypeMismatch : Nat := 0x0202
def stAccessDenied : Nat := 0x0203
def stNotOwner : Nat := 0x0204
def stTagInvalid : Nat := 0x0301
def stStaleCounter : Nat := 0x0302
def stCounterExhausted : Nat := 0x0303
def stTooLate : Nat := 0x0401
def stStepRefused : Nat := 0x0402
def stTargetUnavailable : Nat := 0x0501
def stBusy : Nat := 0x0601

/-! ### Galleries (R97 to R100) -/

/-- The gallery of the first VALID assignment range that covers an index (R99). -/
def rangeOwner (s : State) (idx : Nat) : Option Nat :=
  ((List.range 256).find? fun q =>
    s.flag (0x011000 + q) 4 && decide (s.num (0x011000 + q) 1 ≤ idx) && decide (idx ≤ s.num (0x011000 + q) 2)).map
    fun q => s.num (0x011000 + q) 3

/-- The user entry table's row of a key (R77). -/
def userEntry (s : State) (key : Nat) : Option UserEntry := s.cap.users.find? fun e => e.key = key

/-- The owning gallery of an entry (R99): a VALID range, else the user entry table, else gallery 0. -/
def ownerOf (s : State) (key : Nat) : Nat :=
  match rangeOwner s (key / 256) with
  | some g => g
  | none => match userEntry s key with
    | some e => e.gallery
    | none => 0

/-! ### Time -/

/-- One ns in the count of a time base (R251). -/
def nsUnit : Nat := 2 ^ 32

/-- The count after `n` cycles of counting alone: SLEW_INC for the slew's cycles, then INCREMENT (R252, R253). -/
def TimeBase.advance (time slewLeft slewInc inc n : Nat) : Nat := time + min n slewLeft * slewInc + (n - slewLeft) * inc

/-- What one cycle adds to the count. -/
def TimeBase.rate (b : TimeBase) : Nat := if 0 < b.slewLeft then b.slewInc else b.inc

/-- A time base after `n` timing-loop cycles (R251 to R253, R258): SET loads in the first of them, which as that cycle's step
keeps the count from before it (R256). -/
def TimeBase.run (b : TimeBase) (n : Nat) : TimeBase :=
  if n = 0 then b
  else match b.setPend with
  | some ns =>
    { b with
      time := TimeBase.advance (ns * nsUnit) (b.slewLeft - 1) b.slewInc b.inc (n - 1)
      setPend := none
      slewLeft := b.slewLeft - n
      was := if n = 1 then some (TimeBase.advance b.time b.slewLeft b.slewInc b.inc 1) else none
      wasN := if n = 1 then 1 else 0 }
  | none =>
    { b with
      time := TimeBase.advance b.time b.slewLeft b.slewInc b.inc n
      slewLeft := b.slewLeft - n
      was := none
      wasN := 0 }

/-- Cycles until a time base reaches or passes a count (R9); 0 where it has. -/
def TimeBase.cyclesTo (b : TimeBase) (target : Nat) : Nat :=
  if target ≤ b.time then 0
  else if target - b.time ≤ b.slewLeft * b.slewInc then ceilDiv (target - b.time) b.slewInc
  else b.slewLeft + ceilDiv (target - b.time - b.slewLeft * b.slewInc) b.inc

/-- Let `n` timing-loop cycles pass: every time base counts (R251). -/
def State.pass (s : State) (n : Nat) : State :=
  { s with now := s.now + n, tim := { s.tim with tb := s.tim.tb.map fun b => b.run n } }

/-- Let time run to a timing-loop cycle, if it lies ahead (log entry 10). -/
def State.waitUntil (s : State) (t : Nat) : State := s.pass (t - s.now)

/-- Time base `t`. -/
def State.tb (s : State) (t : Nat) : TimeBase := s.tim.tb.getD t {}

/-- Change time base `t`. -/
def State.setTb (s : State) (t : Nat) (f : TimeBase → TimeBase) : State :=
  { s with tim := { s.tim with tb := lmod s.tim.tb t f } }

/-- Let time run until time base `t` reaches a count (log entry 10). -/
def State.waitTb (s : State) (t target : Nat) : State := s.pass ((s.tb t).cyclesTo target)

/-- The count of a time base in ns (the TIME96 of the count). -/
def TimeBase.ns (b : TimeBase) : Nat := b.time / nsUnit

/-- Index of the time base record. -/
def tbIdx (t : Nat) : Nat := 0x030100 + t

/-- STEP_COUNT (R256): steps applied; a SET counts once it has loaded. -/
def stepCount (s : State) (t : Nat) : Nat :=
  (s.num (tbIdx t) 0x0A + 2 ^ 32 - (if (s.tb t).setPend.isSome then 1 else 0)) % 2 ^ 32

/-- The first count at or after the nominal start of pick `n` (R9), in units of 2^-32 ns. -/
def PickSet.start (p : PickSet) (n : Nat) : Nat := ceilDiv (n * p.den * 1000000000 * nsUnit) p.num

/-- The first count at or after the start of beat `k` of pick `n` (R11). -/
def PickSet.beatStart (p : PickSet) (n k : Nat) : Nat :=
  ceilDiv ((n * p.beats + k) * p.den * 1000000000 * nsUnit) (p.num * p.beats)

/-- The first pick whose boundary lies at or after a count (R19). -/
def PickSet.pickAt (p : PickSet) (time : Nat) : Nat := ceilDiv (time * p.num) (p.den * 1000000000 * nsUnit)

/-- The ruling time base in force (R8, R23). -/
def State.rulingTb (s : State) : Nat := s.num 0x030000 1

/-- Whether the ruling time base is armed (R22). -/
def State.rulingArmed (s : State) : Bool := (s.tb s.rulingTb).armed

/-- The current pick of a generator: the highest opened (R25). -/
def State.pick (s : State) (t : Nat) : Nat := s.num (0x030180 + t) 5

/-- The current ruling pick, 0 while no ruling time base is armed (R65, R105). -/
def State.rulingPick (s : State) : Nat := if s.rulingArmed then s.pick s.rulingTb else 0

/-- Length of the selvage window in ns (R13). -/
def State.windowNs (s : State) : Nat := s.num 0x030000 2 * 1000

/-- Capacity of a window in ns (R15). -/
def State.capacity (s : State) : Nat := s.windowNs - 500

/-- A free value of `w` bits, the next one drawn (log entry 9). -/
def State.freeValue (s : State) (w : Nat) : Nat := Config.freeBits s.fresh % 2 ^ w

/-- Count one free value as drawn. -/
def State.draw (s : State) : State := { s with fresh := s.fresh + 1 }

end Sys2Proof.Machine
end

