-- ==== Sys2Proof/Machine/Events.lean ====
section
/-! DEFINITION. Raising an event (R104 to R112, R524): counting, recording, notifying, driving lines and shuttle inputs. -/

namespace Sys2Proof.Machine

/-- Sources recorded whatever their ENABLE (R104) and favoured on overflow (R107). -/
def alwaysRecorded (n : Nat) : Bool := n < 0x100 || (0xC00 ≤ n && n ≤ 0xCFF)

/-- The way a field names a session or group (R105). -/
def whoCode : Who → Nat
  | .session n => n.val + 1
  | .group g => 0x80 + g.val
  | _ => 0

/-- Sessions an event may reach: every one, or for event 010h the issuing one (R65, R91, R109). -/
inductive Reach where
  | all
  | session (n : Nat)
  | nobody
  deriving DecidableEq, Repr

/-- Whether an event may reach session slot `n`. -/
def Reach.admits (r : Reach) (n : Nat) : Bool :=
  match r with
  | .all => true
  | .session k => k == n
  | .nobody => false

/-- Whether the subscription of a session takes an event (R109): bit 7 of mask byte 0 stands for event 000h. -/
def Session.takes (x : Session) (num sev : Nat) : Bool :=
  (x.mask.getD (num / 8) 0).toNat / 2 ^ (7 - num % 8) % 2 == 1 && x.minSev ≤ sev

/-- Whether a record was raised in the cycle of `r` and stands after it in that cycle's order (R106). -/
def comesAfter (r x : EvRec) : Bool := x.cyc == r.cyc && (r.num < x.num || (r.num == x.num && r.unit < x.unit))

/-- Put a record before those of its cycle that come after it (R106). -/
def insertRecord (r : EvRec) (l : List EvRec) : List EvRec :=
  l.takeWhile (fun x => !comesAfter r x) ++ r :: l.dropWhile (fun x => !comesAfter r x)

/-- Queue a record for the sessions it reaches; a full queue of 256 drops it for that session (R109). -/
def notify (s : State) (m : Mgmt) (r : EvRec) (reach : Reach) : Mgmt :=
  { m with sessions := m.sessions.mapIdx fun i x =>
      if reach.admits i && (s.num (0x010010 + i) 1 == 2 || s.num (0x010010 + i) 1 == 3) && x.takes r.num r.sev
          && x.notes.length < 256
      then { x with notes := insertRecord r x.notes } else x }

/-- Fold a further raising into the queued record of its source (R107): REPEAT saturates at FFh. -/
def foldRepeat (num : Nat) (l : List EvRec) : List EvRec :=
  l.map fun r => if r.num = num then { r with rep := min 255 (r.rep + 1) } else r

/-- The same for a notification of a queued record that has not left yet (R109). -/
def foldNote (q : List EvRec) (k : EvRec) : EvRec :=
  if q.any (fun r => r.num == k.num && r.seq == k.seq) then { k with rep := min 255 (k.rep + 1) } else k

/-- Notifications not sent yet carry the record as it stands (R109). -/
def foldNotes (q : List EvRec) (m : Mgmt) : Mgmt :=
  { m with sessions := m.sessions.map fun x => { x with notes := x.notes.map (foldNote q) } }

/-- Whether a record of the source is still queued for recording. -/
def Mgmt.queued (m : Mgmt) (num : Nat) : Bool := m.queue.any fun r => r.num == num

/-- Take the oldest queued record outside the favoured sources out of the queue (R107). -/
def displaceOldest : List EvRec → List EvRec
  | [] => []
  | r :: q => if alwaysRecorded r.num then r :: displaceOldest q else q

/-- One dropped or displaced record: counted, and it opens an overflow episode (R107). -/
def noteLoss (s : State) : State :=
  let s := s.count 0x0E0000 3 32 1
  { s with mgmt := { s.mgmt with episode := (if s.mgmt.inEpisode then s.mgmt.episode else 0) + 1, inEpisode := true } }

/-- Take a record into the recording queue and notify the sessions it reaches (R105, R106): it takes the next SEQUENCE, but
queued records of its cycle with a higher event number, or the same and a higher UNIT, follow it. -/
def appendRecord (s : State) (r : EvRec) (reach : Reach) (deliver : Bool) : State :=
  let later := s.mgmt.queue.filter (comesAfter r)
  let r := { r with seq := (s.mgmt.seq + 2 ^ 32 - later.length) % 2 ^ 32 }
  let move := fun x : EvRec => if later.any (fun y => y.seq == x.seq) then { x with seq := (x.seq + 1) % 2 ^ 32 } else x
  let m := { s.mgmt with
    queue := insertRecord r (s.mgmt.queue.map move)
    seq := (s.mgmt.seq + 1) % 2 ^ 32
    sessions := s.mgmt.sessions.map fun x => { x with notes := x.notes.map move } }
  { s with mgmt := if deliver then notify s m r reach else m }

/-- Put a raising into the recording queue (R107): folded, taken in, taken in the place of another, or dropped. -/
def enqueueRecord (s : State) (r : EvRec) (reach : Reach) (deliver : Bool) : State :=
  if s.mgmt.queued r.num then
    let held := s.mgmt.queue.filter fun q => q.num = r.num
    { s with mgmt := foldNotes held { s.mgmt with queue := foldRepeat r.num s.mgmt.queue } }
  else if s.mgmt.queue.length < 1024 then appendRecord s r reach deliver
  else if alwaysRecorded r.num && s.mgmt.queue.any (fun q => !alwaysRecorded q.num) then
    let s := noteLoss s
    appendRecord { s with mgmt := { s.mgmt with queue := displaceOldest s.mgmt.queue } } r reach deliver
  else noteLoss s

/-- The record of a raising (R105). -/
def recordOf (s : State) (num unit : Nat) (extra : List Byte) : EvRec :=
  { num := num, sev := s.num (0x0E1000 + num) 2, uptime := !s.rulingArmed, unit := unit % 2 ^ 16,
    time := if s.rulingArmed then (s.tb s.rulingTb).ns else s.now, pick := s.rulingPick, cyc := s.now, extra := extra.take 32 }

/-- Count a raising (R104): `0E1000h` + n `:07` and `:08`. -/
def countRaise (s : State) (num : Nat) : State :=
  (s.count (0x0E1000 + num) 7 32 1).put (0x0E1000 + num) 8 s.rulingPick

/-- Drive the fabric line and the shuttle inputs a source is routed to (R104, R110, R112). -/
def driveRoutes (s : State) (num : Nat) : State :=
  let idx := 0x0E1000 + num
  let line := s.num idx 3
  let s := if line < 64 then
      (List.range 4).foldl (fun s b => if s.num idx 4 / 2 ^ b % 2 = 1 then s.latchBits (0x0E0200 + b) 1 (2 ^ line) else s) s
    else s
  let cl := s.num idx 5
  if cl = 0 then s
  else
    let inputs := ((List.range 64).filter fun c => cl / 2 ^ c % 2 = 1).flatMap fun c =>
      (List.range 8).map fun k => (8 * c + k, s.num idx 6)
    { s with mgmt := { s.mgmt with toShuttles := s.mgmt.toShuttles ++ inputs } }

/-- Raise a record without ending an overflow episode. -/
def raiseRecord (s : State) (r : EvRec) (reach : Reach) : State :=
  let s := countRaise s r.num
  let on := s.flag (0x0E1000 + r.num) 1
  let s := if on || alwaysRecorded r.num then enqueueRecord s r reach on else s
  if on then driveRoutes s r.num else s

/-- Raise a record; where the queue takes a record in during an overflow episode, the episode ends: the next record
written carries LOST and event 040h is raised once with the records dropped and displaced (R107). -/
def raiseWith (s : State) (r : EvRec) (reach : Reach) : State :=
  let t := raiseRecord s r reach
  if t.mgmt.inEpisode && s.mgmt.inEpisode && s.mgmt.queue.length < 1024 && s.mgmt.queue.length < t.mgmt.queue.length then
    let n := t.mgmt.episode
    let t := { t with mgmt := { t.mgmt with inEpisode := false, episode := 0, markLost := true } }
    raiseRecord t (recordOf t 0x040 0 (be 4 n)) .all
  else t

/-- Raise event `num` of instance `unit` with its extra fields (R104). -/
def State.raise (s : State) (num unit : Nat) (extra : List Byte := []) : State :=
  raiseWith s (recordOf s num unit extra) .all

/-- Event 010h: reaches the issuing session alone, and nobody for a group or a closed session (R65, R91, R109). -/
def raiseDone (s : State) (c : TimedCmd) (status : Nat) : State :=
  let reach := match c.who with
    | .session n => if c.gone then Reach.nobody else .session n.val
    | _ => .nobody
  raiseWith s (recordOf s 0x010 (whoCode c.who) (be 1 (whoCode c.who) ++ be 4 c.trans ++ be 1 c.pos ++ be 2 status)) reach

/-- The marks of a rate-limited event (R524). -/
def rateMark (s : State) (num unit : Nat) : RateMark :=
  (s.mgmt.rates.find? fun r => r.num = num ∧ r.unit = unit).getD { num := num, unit := unit }

/-- One second in timing-loop cycles. -/
def second : Nat := 1000000000

/-- The marks after an occurrence now: marks older than 1 s leave (R524). -/
def markOccurrence (s : State) (num unit : Nat) (raised : Bool) : State :=
  let m := rateMark s num unit
  let recent := fun l : List Nat => l.filter fun t => s.now - t < second
  let m' : RateMark := { m with occ := recent m.occ ++ [s.now], times := recent m.times ++ (if raised then [s.now] else []) }
  { s with mgmt := { s.mgmt with
      rates := m' :: s.mgmt.rates.filter fun r => !(r.num = num ∧ r.unit = unit) } }

/-- Raise an event limited to `n` raisings per second for its instance (R524); `extra` is given the occurrences of the
last second, this one included. -/
def State.raiseAtMost (s : State) (n num unit : Nat) (extra : Nat → List Byte) : State :=
  let m := rateMark s num unit
  let ok := (m.times.filter fun t => s.now - t < second).length < n
  let s := markOccurrence s num unit ok
  if ok then s.raise num unit (extra (rateMark s num unit).occ.length) else s

end Sys2Proof.Machine
end

