-- ==== Sys2Proof/Machine/Write.lean ====
section
/-! DEFINITION. Writing an entry: the checks of R59, timed commands and their reservations (R13 to R30), selvage tasks. -/

namespace Sys2Proof.Machine

/-- A status and its DETAIL (R73). -/
abbrev Stat := Nat × Nat

/-- What executing a write gives: the state, the final status, and whether the command completes later and then reports
event 010h itself. -/
structure Done where
  s : State
  status : Nat := 0
  detail : Nat := 0
  later : Bool := false

/-- A refusal that changes nothing. -/
def refuse (s : State) (status : Nat) (detail : Nat := 0) : Option Done := some { s := s, status := status, detail := detail }

/-- The behaviour of an entry beyond its row in the entry table. -/
structure Rule where
  /-- The time base whose picks a time of execution counts (R19). -/
  base : State → Nat
  /-- Range and encoding beyond the table (check 9 of R59). -/
  check : State → Req → Val → Option Stat
  /-- Refusals when the write is executed or accepted, with what the refusal leaves. -/
  judge : State → Req → Val → Option Done
  /-- The pick that a write without a time of execution is given, where the entry executes at picks only. -/
  pick : State → Val → Option Nat
  /-- The effect; the flag says that a pick boundary executes it. -/
  apply : State → Bool → Req → Val → Done
  /-- The pick that a command naming a pick is given (R345). -/
  adjust : State → Nat → Nat := fun _ n => n
  /-- What acceptance for a pick leaves beside the pending command (R345). -/
  onAccept : State → Val → State := fun s _ => s

/-- The ruling time base from its next boundary on (R23). -/
def State.rulingNext (s : State) : Nat := s.ruling.newRuling.getD s.rulingTb

/-- An entry with no behaviour of its own stores its value. -/
def plainRule (key : Nat) : Rule :=
  { base := State.rulingNext, check := fun _ _ _ => none, judge := fun _ _ _ => none, pick := fun _ _ => none,
    apply := fun s _ _ v => { s := s.write key v } }

/-! ### The Ulily profile (R82) -/

/-- Rows of the map: first and last Ulily index, first Scaxis index. -/
def ulilyRows : List (Nat × Nat × Nat) :=
  [(0x0000, 0x00FF, 0x000000), (0x0100, 0x01FF, 0x010000), (0x0300, 0x031F, 0x030000), (0x0320, 0x032F, 0x030100),
   (0x0330, 0x033F, 0x030140), (0x0340, 0x034F, 0x030160), (0x0350, 0x035F, 0x030180), (0x0360, 0x039F, 0x030200),
   (0x03A0, 0x03BF, 0x030300), (0x0500, 0x050F, 0x050000), (0x0510, 0x053F, 0x050100), (0x0540, 0x057F, 0x050200),
   (0x0580, 0x0587, 0x050300), (0x0588, 0x0595, 0x050400), (0x0596, 0x05A5, 0x050500), (0x05A6, 0x05A7, 0x050600),
   (0x0600, 0x06B1, 0x050800), (0x0700, 0x071F, 0x070000), (0x0720, 0x0727, 0x070100), (0x0728, 0x072F, 0x070180)]
  ++ [(0x0730, 0x07AF, 0x070200), (0x0800, 0x08AF, 0x070300), (0x0E00, 0x0E1F, 0x0E0000), (0x0E20, 0x0E23, 0x0E0200),
   (0x0F00, 0x0F0F, 0x0F0000), (0x0F40, 0x0F7F, 0x0F0100), (0x1000, 0x1FFF, 0x060000), (0x2000, 0x2FFF, 0x061000),
   (0x3000, 0x300F, 0x080000), (0x3010, 0x320F, 0x080100), (0x3210, 0x324F, 0x080400), (0x3250, 0x344F, 0x081000),
   (0x3450, 0x364F, 0x082000), (0x3650, 0x3E4F, 0x083000), (0x4000, 0x7FFF, 0x120000), (0x8000, 0x8FFF, 0x074000),
   (0x9000, 0x9FFF, 0x0E1000)]

/-- Whether an index can be reached in the Ulily profile (R83). -/
def ulilyReach (idx : Nat) : Bool := ulilyRows.any fun r => decide (r.2.2 ≤ idx) && decide (idx ≤ r.2.2 + (r.2.1 - r.1))

/-- Whether the writer's profile reaches an entry (check 6 of R59, R83). -/
def inProfile (s : State) (who : Who) (key : Nat) : Bool :=
  match who with
  | .session n => s.num (0x010010 + n) 4 != 1 || ulilyReach (key / 256)
  | _ => true

/-! ### Checks 4 to 10 of R59 -/

/-- The entries a SESSION 0 frame on the service port may write (R98, R492). -/
def serviceWritable (s : State) (key : Nat) : Bool :=
  key == ent 0x100100 2 || key == ent 0x100101 0 || (key == ent 0x020010 3 && s.num 0x020010 1 == 0)

/-- The gallery a writer acts for; `none` fails check 4 (R59, R81, R95, R266, R492). -/
def actor (s : State) (r : Req) (key : Nat) : Option Nat :=
  match r.who with
  | .session n => if s.num (0x010010 + n) 1 = 2 ∨ s.num (0x010010 + n) 1 = 3 then some (s.num (0x010010 + n) 3) else none
  | .group g => if s.num (0x020030 + g) 1 = 1 ∧ r.crit then some (s.num (0x020030 + g) 2) else none
  | .client _ => some (s.num 0x010001 6)
  | .service => if serviceWritable s key then some 0 else none
  | .servo => some (ownerOf s key)

/-- Whether the entry exists on this part (R4, R49). -/
def entryExists (s : State) (key : Nat) : Bool := (fieldAt key).isSome && !(s.unit.hPart && absentOnH (key / 256))

/-- Bits of a numeric type. -/
def tyBits (ty : Ty) : Nat := if ty = .bool then 1 else 8 * (tyLen ty).getD 0

/-- Range of one value (R42): TIME96 values count ns. -/
def inRange (f : Field) : Val → Bool
  | .num n =>
    match f.ty with
    | .string | .octets | .record => false
    | .time96 => n < 2 ^ 64 * 1000000000
    | t => n < 2 ^ tyBits t && (if tySigned t then decide (f.lo ≤ signed (tyBits t) n) && decide (signed (tyBits t) n ≤ f.hi)
        else decide (f.lo ≤ (n : Int)) && decide ((n : Int) ≤ f.hi))
  | .oct b =>
    match f.ty with
    | .string => decide (b.length ≤ 255) && decide ((b.length : Int) ≤ f.hi)
    | .octets => decide ((b.length : Int) ≤ f.hi)
    | .record => true
    | _ => false

/-- The fields of a record value (R41, R43): STRING and OCTETS fields follow a U16 length. -/
def parseFields : List Field → List Byte → Option (List Val)
  | [], b => if b = [] then some [] else none
  | f :: fs, b =>
    match f.ty with
    | .string | .octets =>
      let n := fieldBE b 0 2
      if 2 + n ≤ b.length then (parseFields fs (b.drop (2 + n))).map (Val.oct (slice b 2 n) :: ·) else none
    | t =>
      let n := (tyLen t).getD 0
      match if f.acc = .ro ∨ f.acc = .const then some (Val.num 0) else decVal t (b.take n) with
      | some v => if n ≤ b.length then (parseFields fs (b.drop n)).map (v :: ·) else none
      | none => none

/-- The fields of the record that a RECORD entry carries. -/
def recordFields (key : Nat) : List Field := ((recAt (key / 256)).map fun r => r.fields.drop 1).getD []

/-- Whether a field takes the value a record write carries for it. -/
def writable (f : Field) : Bool := f.acc == .rw || f.acc == .wo || f.acc == .w1c

/-- Values of a record write: lengths match, and every writable field lies in its range (R42, R43). -/
def recordValues (key : Nat) (b : List Byte) : Option (List Val) :=
  (parseFields (recordFields key) b).bind fun vs =>
    if ((recordFields key).zip vs).all fun p => !writable p.1 || inRange p.1 p.2 then some vs else none

/-- A write of a RECORD entry is critical when one of its writable fields is (R43). -/
def recordCritical (key : Nat) : Bool := (recordFields key).any fun f => writable f && f.crit

/-- The value that bytes spell for an entry; bytes of the wrong length or encoding stay bytes, and fail check 9. -/
def valueOf (key : Nat) (b : List Byte) : Val :=
  match fieldAt key with
  | some f => (decVal f.ty b).getD (.oct b)
  | none => .oct b

/-- Key entries are written only in sessions: a multicast group holds no K_h2d (R98). -/
def groupKeyless (r : Req) (key : Nat) : Bool :=
  match r.who with
  | .group _ => (0x020010 ≤ key / 256 && key / 256 ≤ 0x02001F || 0x020030 ≤ key / 256 && key / 256 ≤ 0x02003F) && key % 256 == 3
  | _ => false

/-- Checks 6 to 10 of R59 for a WRITE, in their order, with the entry's own part of check 9. -/
def checkWrite (s : State) (r : Req) (key : Nat) (v : Val) (rule : Rule) : Option Stat :=
  match fieldAt key with
  | none => some (stNoSuchEntry, 0)
  | some f =>
    if !entryExists s key ∨ !inProfile s r.who key then some (stNoSuchEntry, 0)
    else match actor s r key with
      | none => some (stAccessDenied, 0)
      | some g =>
        if !writable f ∨ groupKeyless r key then some (stAccessDenied, 0)
        else if (f.crit || (f.ty == .record && recordCritical key)) && !r.crit && r.who != .servo && r.who != .service then
          some (stAccessDenied, 0)
        else if ownerOf s key ≠ g then some (stNotOwner, ownerOf s key)
        else if !(inRange f v && (f.ty != .record || (recordValues key (valBytes v)).isSome)) then some (stTypeMismatch, 0)
        else match rule.check s r v with
          | some e => some e
          | none => if r.toe ≠ .none ∧ !f.timed then some (stTypeMismatch, 0) else none

/-! ### Timed commands (R16 to R22) -/

/-- The selvage task that a timed write of an entry requests, and its object (R12, R14). -/
def taskOf (key : Nat) : Option (TaskKind × Nat) :=
  let idx := key / 256
  let sub := key % 256
  if idx = 0x100100 ∧ sub = 0x0A then some (.firmware, 0)
  else if 0x0D0100 ≤ idx ∧ idx ≤ 0x0D01FF ∧ sub = 0x0C then some (.seamChan, idx - 0x0D0100)
  else if 0x090200 ≤ idx ∧ idx ≤ 0x09029F ∧ sub = 9 then some (.nocLink, idx - 0x090200)
  else if 0x070010 ≤ idx ∧ idx ≤ 0x070017 ∧ sub = 4 then some (.engine, idx - 0x070010)
  else if 0x080400 ≤ idx ∧ idx ≤ 0x08043F ∧ sub = 3 then some (.cluster, idx - 0x080400)
  else if 0x0C0100 ≤ idx ∧ idx ≤ 0x0C013F ∧ sub = 5 then some (.hem, idx - 0x0C0100)
  else none

/-- Selvage task costs in ns (R15). -/
def taskCost : TaskKind → Nat
  | .firmware => 6000
  | .seamChan | .nocLink | .engine | .cluster => 2000
  | .mend => 1000
  | .hem => 500

/-- The rank of a kind in the window's order (R14). -/
def taskRank : TaskKind → Nat
  | .firmware => 0
  | .seamChan | .nocLink | .engine | .cluster => 1
  | .mend => 2
  | .hem => 3

/-- Whether an entry is a take record, and its engine (R345). -/
def takeEngine (key : Nat) : Option Nat :=
  if 0x074000 ≤ key / 256 ∧ key / 256 ≤ 0x07BFFF ∧ key % 256 = 0 then some ((key / 256 - 0x074000) / 0x1000) else none

/-- Cost of arming takes: 100 ns plus 4 ns for each flow of the engine with most (R15). -/
def takeCost (keys : List Nat) : Nat :=
  let most := ((List.range 8).map fun e => (keys.filter fun k => takeEngine k = some e).length).foldl max 0
  if most = 0 then 0 else 100 + 4 * most

/-- Keys without repeats. -/
def dedupKeys : List Nat → List Nat
  | [] => []
  | k :: r => if r.contains k then dedupKeys r else k :: dedupKeys r

/-- Capacity that commands reserve in one window: task costs and take arming (R15, R16). -/
def costOf (cs : List TimedCmd) : Nat :=
  (cs.map (·.cost)).foldl (· + ·) 0 + takeCost (dedupKeys ((cs.map (·.key)).filter fun k => (takeEngine k).isSome))

/-- Serial order of 32-bit numbers: `q` is not later than `upTo` (R27, R108). -/
def notLater (upTo q : Nat) : Bool := (upTo + 2 ^ 32 - q) % 2 ^ 32 < 2 ^ 31

/-- The place of a writer among commands evaluated in one cycle (R28): sessions by number, then multicast groups, then the
other writers. -/
def whoRank : Who → Nat
  | .session n => n.val
  | .group g => 8 + g.val
  | .client b => 0x100 + b.val
  | .service => 0x200
  | .servo => 0x201

/-- Whether command `c` executes before command `x` that was accepted before it: both change the same object, and they come
from one session with ascending transactions (R27), or were evaluated in one cycle and their writers stand so (R28). -/
def overtakes (c x : TimedCmd) : Bool :=
  x.key == c.key &&
    match c.who with
    | .session _ =>
      if x.who == c.who then x.trans != c.trans && notLater x.trans c.trans else x.cyc == c.cyc && whoRank c.who < whoRank x.who
    | _ => x.cyc == c.cyc && whoRank c.who < whoRank x.who

/-- Put a command behind those that execute before it (R27, R28). -/
def insertCmd (c : TimedCmd) : List TimedCmd → List TimedCmd
  | [] => [c]
  | x :: r => if overtakes c x then c :: x :: r else x :: insertCmd c r

/-- The order in which the commands of a pick execute (R27, R28). -/
def orderCmds (l : List TimedCmd) : List TimedCmd := l.foldl (fun a c => insertCmd c a) []

/-- Every timed command that is accepted and has not executed (R21, R23): those that wait for their pick, those in the frozen
schedule of the open window, and the swap of that window. -/
def pendingCmds (s : State) : List TimedCmd :=
  s.ruling.timed ++ s.ruling.sched.filterMap (·.cmd) ++ s.noc.swapCmds

/-- The commands pending for a pick of a time base. -/
def pendingFor (s : State) (t pick : Nat) : List TimedCmd := s.ruling.timed.filter fun c => c.tb == t && c.pick == pick

/-- The oldest starved task (R17): the first to reach its eighth deferral, then the first accepted. -/
def starvedTask (s : State) : Option Untimed :=
  (s.ruling.untimed.filter fun u => 8 ≤ u.deferred).foldl (fun (b : Option Untimed) u =>
    match b with
    | none => some u
    | some x => if u.starvedAt < x.starvedAt ∨ (u.starvedAt = x.starvedAt ∧ u.order < x.order) then some u else some x) none

/-- The first pick whose boundary comes after a count (R9). -/
def PickSet.pickAfter (p : PickSet) (time : Nat) : Nat := time * p.num / (p.den * 1000000000 * nsUnit) + 1

/-- The first pick of settings that take over at the boundary the generator would open next (R23). -/
def TimeBase.firstUnder (b : TimeBase) (p : PickSet) : Nat := ceilDiv (b.high * b.cur.den * p.num) (b.cur.num * p.den)

/-- The first pick whose boundary comes after now, by the settings that will be in force (R23, R255). -/
def TimeBase.upcoming (b : TimeBase) : Nat :=
  match b.want with
  | some p => b.firstUnder p
  | none => max b.high (b.cur.pickAfter b.time)

/-- Whether a pick of a generator has begun (R20): opened or passed, before the first after arming, or its boundary reached;
while a change of settings waits, the boundary is judged by the new ones (R23). -/
def TimeBase.begun (b : TimeBase) (n : Nat) : Bool :=
  match b.want with
  | some p => p.start n ≤ b.time
  | none => n < b.high || b.cur.start n ≤ b.time

/-- Whether a command takes capacity. -/
def costs (c : TimedCmd) : Bool := c.cost != 0 || (takeEngine c.key).isSome

/-- Capacity checks at acceptance (R16, R17, R18, R21). -/
def admits (s : State) (c : TimedCmd) : Bool :=
  if 4096 ≤ (pendingCmds s).length then false
  else if !costs c then true
  else if c.tb = s.rulingNext then
    let room := if c.pick = (s.tb c.tb).upcoming then ((starvedTask s).map fun u => taskCost u.kind).getD 0 else 0
    costOf (c :: pendingFor s c.tb c.pick) + room ≤ s.capacity
  else costOf (c :: pendingFor s c.tb c.pick) ≤ 7500

/-- The pick a time of execution names, or the refusal of R20 and R22. -/
def targetPick (s : State) (t : Nat) (toe : Toe) : Except Stat (Option Nat) :=
  match toe with
  | .none => .ok none
  | .pick n =>
    if !(s.tb t).armed then .error (stNotReady, 1)
    else if (s.tb t).begun n then .error (stTooLate, s.pick t % 2 ^ 32) else .ok (some n)
  | .time ns =>
    if !(s.tb t).armed then .error (stNotReady, 1)
    else if ns * nsUnit < (s.tb t).time then .error (stTooLate, s.pick t % 2 ^ 32)
    else
      let n := match (s.tb t).want with
        | some p => max (p.pickAt (ns * nsUnit)) ((s.tb t).firstUnder p)
        | none => (s.tb t).cur.pickAt (ns * nsUnit)
      if (s.tb t).begun n then .error (stTooLate, s.pick t % 2 ^ 32) else .ok (some n)

/-- The timed command a write becomes: it reserves the cost of the selvage task it asks for (R16), which only a write of 1
does. -/
def timedCmd (s : State) (r : Req) (pos t pick key : Nat) (v : Val) : TimedCmd :=
  { who := r.who, trans := r.trans, pos := pos, tb := t, pick := pick, key := key, val := v,
    cost := if valNum v = 1 then ((taskOf key).map fun k => taskCost k.1).getD 0 else 0, order := s.ruling.order, cyc := s.now }

/-- Check 11 of R59 (R16, R18, R20 to R22): the refusal, or the pick the command is for. -/
def checkTiming (s : State) (r : Req) (pos key : Nat) (v : Val) (rule : Rule) : Except Stat (Option Nat) :=
  match targetPick s (rule.base s) r.toe with
  | .error e => .error e
  | .ok none => .ok none
  | .ok (some m) =>
    let n := rule.adjust s m
    if admits s (timedCmd s r pos (rule.base s) n key v) then .ok (some n) else .error (stBusy, 0)

/-- Accept a timed command (R16, R65): ACCEPTED with the target pick. -/
def acceptTimed (s : State) (c : TimedCmd) : State :=
  { s with ruling := { s.ruling with timed := s.ruling.timed ++ [c], order := s.ruling.order + 1 } }

/-- Apply a write. A write that executes counts as written after a change of settings format (R499). -/
def applyWrite (s : State) (atPick : Bool) (r : Req) (key : Nat) (v : Val) (rule : Rule) : Done :=
  let d := rule.apply s atPick r v
  if d.status = stOk ∧ !d.s.upd.defaultsNext.isEmpty then
    { d with
      s := { d.s with
        upd := { d.s.upd with
          defaultsNext := d.s.upd.defaultsNext.filter fun k => !(k = key ∨ (key % 256 = 0 ∧ k / 256 = key / 256)) } } }
  else d

/-- A write that is accepted for pick `n`. -/
def acceptAt (s : State) (r : Req) (pos key : Nat) (v : Val) (rule : Rule) (n : Nat) : Done :=
  { s := rule.onAccept (acceptTimed s (timedCmd s r pos (rule.base s) n key v)) v, status := stAccepted, detail := n % 2 ^ 32 }

/-- A WRITE record after checks 6 to 10: timing, the entry's own refusals, acceptance or effect. -/
def executeWrite (s : State) (r : Req) (pos key : Nat) (v : Val) (rule : Rule) : Done :=
  match checkTiming s r pos key v rule with
  | .error e => { s := s, status := e.1, detail := e.2 }
  | .ok p =>
    match rule.judge s r v with
    | some d => d
    | none =>
      match p, rule.pick s v with
      | some n, _ => acceptAt s r pos key v rule n
      | none, some n =>
        if admits s (timedCmd s r pos (rule.base s) n key v) then acceptAt s r pos key v rule n else { s := s, status := stBusy }
      | none, none => applyWrite s false r key v rule

/-- The same for a record of an ATOMIC frame, whose check 11 has passed with its reservation made (R61). -/
def executeChecked (s : State) (r : Req) (pos key : Nat) (v : Val) (rule : Rule) : Done :=
  match rule.judge s r v with
  | some d => d
  | none =>
    match targetPick s (rule.base s) r.toe, rule.pick s v with
    | .ok (some m), _ => acceptAt s r pos key v rule (rule.adjust s m)
    | _, some n => acceptAt s r pos key v rule n
    | _, none => applyWrite s false r key v rule

/-- Whether the MGC serves sessions (R101) and no restart is under way (R497). -/
def mgcServes (s : State) : Bool :=
  (s.cap.phase == .unsealed || s.cap.phase == .served) && s.num 0x100000 0x0D == 0

/-- Whether an area of the catalogue depends on a rail, by what the rail supplies (R126, R130; rails numbered as in log entry
14): VCC_FAB the fabric and the seams, VCC_SHU the shuttles, VCC_HARD the engines, the NoC and the archive interface, VCC_ARCH
and VDDQ_DRAM memory, VCC_LANE and VCC_OPT the lanes and optics, VCC_AUX the pins. -/
def areaOnRail (area rail : Nat) : Bool :=
  if rail < 4 then area == 0x0C || area == 0x0D || 0x12 ≤ area
  else if rail < 8 then area == 8
  else if rail < 12 then area == 6 || area == 7 || area == 9 || area == 0x0A || area == 0x0B
  else if rail = 12 ∨ (112 ≤ rail ∧ rail < 144) then area == 0x0A
  else if rail < 16 then area == 5
  else rail == 144 && area == 0x11

/-- Areas that are served from 250 ms on: identity, sessions, galleries, events, long operations (R101). -/
def earlyArea (area : Nat) : Bool := area ≤ 2 || area == 0x0E || area == 0x0F

/-- Whether the subsystem of an entry is ready (R101, R130): when every area is served, and its rails have reached tolerance.
The other areas become ready together then (DESIGN CHOICE, log entry 21). -/
def areaReady (s : State) (key : Nat) : Bool :=
  earlyArea (key / 2 ^ 24) || (s.cap.phase == .served && !s.pwr.late.any (areaOnRail (key / 2 ^ 24)))

/-- Whether a write of an entry is served: the MGC serves, and the entry's subsystem is ready. -/
def serves (s : State) (key : Nat) : Bool := mgcServes s && areaReady s key

/-- A writer as its path carries it: a client port has no critical requests and no time of execution (R81). -/
def carried (r : Req) : Req :=
  match r.who with
  | .client _ => { r with crit := false, toe := .none }
  | _ => r

/-- A write of an entry by a command of its own: NOT_READY while the MGC or the entry's subsystem does not serve (R101, R130,
R497), checks 6 to 11, then its effect and its answer. -/
def submit (s : State) (r : Req) (key : Nat) (v : Val) (rule : Rule) : State :=
  let r := carried r
  if !serves s key then s.reply stNotReady 0
  else match checkWrite s r key v rule with
  | some e => s.reply e.1 e.2
  | none =>
    let d := executeWrite s r 0 key v rule
    d.s.reply d.status d.detail

/-! ### Untimed selvage tasks (R17) -/

/-- Request an untimed selvage task: BUSY where its cost exceeds the window capacity. -/
def requestTask (s : State) (kind : TaskKind) (obj : Nat) : Option State :=
  if taskCost kind > s.capacity then none
  else
    let u : Untimed := { kind := kind, obj := obj, order := s.ruling.order }
    some { s with ruling := { s.ruling with untimed := s.ruling.untimed ++ [u], order := s.ruling.order + 1 } }

/-- The effect of a write that requests a selvage task untimed. -/
def requestDone (s : State) (kind : TaskKind) (obj : Nat) : Done :=
  match requestTask s kind obj with
  | some s => { s := s }
  | none => { s := s, status := stBusy }

/-- Withdraw the untimed requests of a task. -/
def withdrawTask (s : State) (kind : TaskKind) (obj : Nat) : State :=
  { s with ruling := { s.ruling with untimed := s.ruling.untimed.filter fun u => !(u.kind = kind ∧ u.obj = obj) } }

/-- A take that ends (R345, R350): LAST_PICK, LAST_STATUS, and event 482h for every status other than OK. -/
def takeOutcome (s : State) (c : TimedCmd) (status : Nat) : State :=
  match takeEngine c.key with
  | none => s
  | some _ =>
    let idx := c.key / 256
    let s := (s.put idx 9 c.pick).put idx 0x0A status
    if status = stOk then s else s.raise 0x482 (idx - 0x074000) (be 8 c.pick ++ be 2 status)

/-- Complete a timed command with its status: event 010h (R65), and a take's outcome. -/
def finishCmd (s : State) (c : TimedCmd) (status : Nat) : State := takeOutcome (raiseDone s c status) c status

/-- Cancel the timed commands that match, waiting or in the frozen schedule, completing each with a status (R65). -/
def cancelTimed (s : State) (p : TimedCmd → Bool) (status : Nat) : State :=
  let gone := s.ruling.timed.filter p ++ (s.ruling.sched.filterMap (·.cmd)).filter p
  let s := { s with
    ruling := { s.ruling with
      timed := s.ruling.timed.filter fun c => !p c
      sched := s.ruling.sched.filter fun t => !t.cmd.any p } }
  gone.foldl (fun s c => finishCmd s c status) s

/-- Complete a command with its status, where there is one. -/
def completeCmd (s : State) (c : Option TimedCmd) (status : Nat) : State :=
  match c with
  | some c => finishCmd s c status
  | none => s

end Sys2Proof.Machine
end

