-- ==== Sys2Proof/Machine/Times.lean ====
section
/-! DEFINITION. Time bases, slews, steps, SET, snapshots, pick generator settings, timestamps, the MGC servo, trigger and
capture units (R251 to R273). -/

namespace Sys2Proof.Machine

/-- A write that no state refuses. -/
def noJudge (_ : State) (_ : Req) (_ : Val) : Option Done := none
/-- No check beyond the table's. -/
def noCheck (_ : State) (_ : Req) (_ : Val) : Option Stat := none
/-- No pick of its own. -/
def noPick (_ : State) (_ : Val) : Option Nat := none

/-- Index of a servo record. -/
def servoIdx (t : Nat) : Nat := 0x030160 + t

/-- Change the servo of time base `t`. -/
def State.setServo (s : State) (t : Nat) (f : Servo → Servo) : State :=
  { s with tim := { s.tim with servo := lmod s.tim.servo t f } }

/-- The servo enters a state; each change raises event 109h (R266). -/
def servoState (s : State) (t st : Nat) : State :=
  if s.num (servoIdx t) 4 = st then s
  else ((s.put (servoIdx t) 4 st).setServo t fun x => { x with lockedSince := s.now }).raise 0x109 t (be 1 st)

/-! ### Increment, slew, step, SET -/

/-- INCREMENT (R252): in force from the cycle after an untimed write, or from the boundary cycle of a timed one. -/
def incrementRule (t : Nat) : Rule :=
  { base := fun _ => t, check := noCheck, judge := noJudge, pick := noPick,
    apply := fun s _ _ v =>
      { s := (s.write (ent (tbIdx t) 5) v).setTb t fun b => { b with inc := valNum v } } }

/-- The slew record's two values (R253). -/
def slewFields (v : Val) : Nat × Nat := (fieldBE (valBytes v) 0 6, fieldBE (valBytes v) 6 4)

/-- Start a slew (R253); a running one is replaced, with event 104h cause 1h and its remaining cycles. One whose cycles have all
passed has ended: cause 0h. -/
def startSlew (s : State) (t inc cycles : Nat) : State :=
  let b := s.tb t
  let s := if b.slewing then s.raise 0x104 t (be 1 (if 0 < b.slewLeft then 1 else 0) ++ be 4 b.slewLeft) else s
  s.setTb t fun b => { b with slewInc := inc, slewLeft := cycles, slewing := true }

/-- The slew record (R253). -/
def slewRule (t : Nat) : Rule :=
  { base := State.rulingNext, check := noCheck, judge := noJudge, pick := noPick,
    apply := fun s _ _ v =>
      let f := slewFields v
      let s := (s.write (ent (0x030140 + t) 1) (.num f.1)).write (ent (0x030140 + t) 2) (.num f.2)
      { s := startSlew s t f.1 f.2 } }

/-- The signed ns of a STEP or FORCE_STEP value. -/
def stepNs (v : Val) : Int := valInt 64 v

/-- Add a step to those that apply in the next cycle (R254). -/
def addStep (s : State) (t : Nat) (ns : Int) (force : Bool) : State :=
  s.setTb t fun b => { b with steps := b.steps ++ [{ ns := ns, force := force, due := s.now + 1 }] }

/-- STEP (R254): while armed, refused above STEP_THRESHOLD with the status bit and event 101h. -/
def stepRule (t : Nat) : Rule :=
  { base := fun _ => t, check := noCheck, pick := noPick,
    judge := fun s _ v =>
      let limit := s.num (tbIdx t) 8
      if (s.tb t).armed ∧ limit < (stepNs v).natAbs then
        let s := (s.latchBits (tbIdx t) 0x0D 2).raise 0x101 t (be 8 (wrap 64 (stepNs v)) ++ be 8 limit)
        some { s := s, status := stStepRefused }
      else none,
    apply := fun s _ _ v => { s := addStep s t (stepNs v) false } }

/-- The first pick of a time base whose boundary comes after now (R23, R255). -/
def nextPickOf (s : State) (t : Nat) : Nat := (s.tb t).upcoming

/-- The servo leaves HOLD for LOCKING (R266): a FORCE_STEP, SERVO_MODE or STEP_THRESHOLD write has executed. -/
def servoRelease (s : State) (t : Nat) : State :=
  if s.num (servoIdx t) 4 = 4 then servoState s t 2 else s

/-- FORCE_STEP (R255): NOT_READY while unarmed; without a time of execution it targets the next boundary. -/
def forceStepRule (t : Nat) : Rule :=
  { base := fun _ => t, check := noCheck,
    judge := fun s _ _ => if (s.tb t).armed then none else refuse s stNotReady 1,
    pick := fun s _ => some (nextPickOf s t),
    apply := fun s _ _ v => { s := servoRelease (addStep s t (stepNs v) true) t } }

/-- STEP_THRESHOLD (R254, R266). -/
def thresholdRule (t : Nat) : Rule :=
  { base := State.rulingNext, check := noCheck, judge := noJudge, pick := noPick,
    apply := fun s _ _ v => { s := servoRelease (s.write (ent (tbIdx t) 8) v) t } }

/-- SET (R258): loads in the next cycle while unarmed, BUSY while armed; counts as a step (R256), event 105h. A SET that
replaces one not yet loaded is the one that is applied. -/
def setRule (t : Nat) : Rule :=
  { base := State.rulingNext, check := noCheck, pick := noPick,
    judge := fun s _ _ => if (s.tb t).armed then refuse s stBusy else none,
    apply := fun s _ _ v =>
      let s := if (s.tb t).setPend.isSome then s else s.count (tbIdx t) 0x0A 32 1
      { s := (s.setTb t fun b => { b with setPend := some (valNum v) }).raise 0x105 t (encTime (valNum v)) } }

/-- SNAP (R259): a write of 1 latches the eight counts in one cycle. -/
def snapRule : Rule :=
  { base := State.rulingNext, check := noCheck, judge := noJudge, pick := noPick,
    apply := fun s _ _ v =>
      { s := if valNum v = 1 then (List.range 8).foldl (fun s t => s.put 0x030001 (2 + t) (s.tb t).ns) s else s } }

/-! ### Pick generator settings (R260) -/

/-- The settings that the entries of a generator hold. -/
def heldSettings (s : State) (t : Nat) : PickSet :=
  { num := s.num (0x030180 + t) 1, den := s.num (0x030180 + t) 2, inter := s.flag (0x030180 + t) 3,
    beats := s.num (0x030180 + t) 4 }

/-- The settings after a write of field `sub`, or of the whole record. -/
def newSettings (s : State) (t sub : Nat) (v : Val) : PickSet :=
  let p := heldSettings s t
  match sub with
  | 0 =>
    let b := valBytes v
    { num := fieldBE b 0 4, den := fieldBE b 4 4, inter := fieldBE b 8 1 = 1, beats := fieldBE b 9 2 }
  | 1 => { p with num := valNum v }
  | 2 => { p with den := valNum v }
  | 3 => { p with inter := valNum v = 1 }
  | _ => { p with beats := valNum v }

/-- The quotient lies from 1 to 300 (R260). -/
def PickSet.rateOk (p : PickSet) : Bool := p.den ≤ p.num && p.num ≤ 300 * p.den

/-- Hold new settings in the entries. -/
def holdSettings (s : State) (t : Nat) (p : PickSet) : State :=
  (((s.write (ent (0x030180 + t) 1) (.num p.num)).write (ent (0x030180 + t) 2) (.num p.den)).write
    (ent (0x030180 + t) 3) (.num (if p.inter then 1 else 0))).write (ent (0x030180 + t) 4) (.num p.beats)

/-- Whether commands are pending for the picks of a time base (R23). -/
def pendingOn (s : State) (t : Nat) : Bool := (pendingCmds s).any fun c => c.tb == t

/-- A change of settings while pick-numbered commands are pending is BUSY (R23, R260). -/
def pickJudge (t sub : Nat) (s : State) (_ : Req) (v : Val) : Option Done :=
  if newSettings s t sub v = heldSettings s t then none else if pendingOn s t then refuse s stBusy else none

/-- Accept new settings: in force at once on an unarmed base, else from the next boundary (R23). -/
def changeSettings (s : State) (t : Nat) (p : PickSet) : State :=
  let s := holdSettings s t p
  s.setTb t fun b => if !b.armed then { b with cur := p, want := none }
    else if p = b.cur then { b with want := none } else { b with want := some p }

/-! ### Trigger units (R267 to R271) -/

/-- Index of a trigger unit's record. -/
def trigIdx (u : Nat) : Nat := 0x030200 + u

/-- The compare instant of index `k` (R267): ONESHOT has one, PERIODIC counts k, PICK_OFFSET counts picks. -/
def instantOf (s : State) (u k : Nat) : Nat :=
  match s.num (trigIdx u) 1 with
  | 1 => s.num (trigIdx u) 3 * nsUnit
  | 2 => ceilDiv ((s.num (trigIdx u) 3 * s.num (trigIdx u) 4 + k * s.num (trigIdx u) 5 * 1000000000) * nsUnit)
      (s.num (trigIdx u) 4)
  | _ => (((s.tb (s.num (trigIdx u) 2)).cur.start k : Int) + signed 32 (s.num (trigIdx u) 6) * nsUnit).toNat

/-- The first index whose instant lies after a count; `none` where there is none. -/
def indexAfter (s : State) (u time : Nat) : Option Nat :=
  match s.num (trigIdx u) 1 with
  | 1 => if time < instantOf s u 0 then some 0 else none
  | 2 =>
    let start := s.num (trigIdx u) 3 * nsUnit
    if time < start then some 0
    else some ((time - start) * s.num (trigIdx u) 4 / (s.num (trigIdx u) 5 * 1000000000 * nsUnit) + 1)
  | 3 =>
    let off := signed 32 (s.num (trigIdx u) 6) * nsUnit
    let b := s.tb (s.num (trigIdx u) 2)
    some (b.cur.pickAt (((time : Int) + 1 - off).toNat))
  | _ => none

/-- Change a trigger unit. -/
def State.setTrig (s : State) (u : Nat) (f : TrigUnit → TrigUnit) : State :=
  { s with tim := { s.tim with trig := lmod s.tim.trig u f } }

/-- Trigger unit `u`. -/
def State.trig (s : State) (u : Nat) : TrigUnit := s.tim.trig.getD u {}

/-- Let a unit wait for its first instant after a count. -/
def aimTrig (s : State) (u time : Nat) : State :=
  match indexAfter s u time with
  | some k => s.setTrig u fun x => { x with k := k, next := some (instantOf s u k) }
  | none => s.setTrig u fun x => { x with next := none }

/-- Aim the units of time base `t` again after its settings changed or it was armed (R267). -/
def aimUnitsOf (s : State) (t : Nat) : State :=
  (List.range 64).foldl (fun s u =>
    if s.num (trigIdx u) 2 = t ∧ 1 ≤ s.num (trigIdx u) 1 ∧ s.num (trigIdx u) 1 ≤ 3 ∧ s.num (trigIdx u) 0x0A ≠ 3
      then aimTrig s u (s.tb t).time else s) s

/-- The sources of a capture unit (R270). -/
def capSrcOk (n : Nat) : Bool := n ≤ 0x43 || (0x80 ≤ n && n ≤ 0xF7)

/-- The unit record as it would read after a write of field `sub`, or of the whole record: its nine fields. -/
def trigFields (s : State) (u sub : Nat) (v : Val) : List Nat :=
  if sub = 0 then
    match recordValues (ent (trigIdx u) 0) (valBytes v) with
    | some vs => (vs.take 9).map valNum
    | none => []
  else (List.range 9).map fun i => if i + 1 = sub then valNum v else s.num (trigIdx u) (i + 1)

/-- The limits of R267 and R270 on a unit's record. -/
def trigOk (s : State) (f : List Nat) : Bool :=
  let width := f.getD 6 0
  capSrcOk (f.getD 7 0) &&
  match f.getD 0 0 with
  | 2 => f.getD 4 0 ≤ f.getD 3 0 && f.getD 3 0 ≤ 1000000 * f.getD 4 0
      && width * f.getD 3 0 < f.getD 4 0 * 1000000000
  | 3 =>
    let p := (s.tb (f.getD 1 0)).cur
    let period := p.den * 1000000000 / p.num
    (signed 32 (f.getD 5 0)).natAbs + 1000 ≤ period && width * p.num < p.den * 1000000000
  | _ => true

/-- A write of a trigger unit's record or of one field applies the whole record and restarts the unit (R267). -/
def trigRule (u sub : Nat) : Rule :=
  { base := State.rulingNext, judge := noJudge, pick := noPick,
    check := fun s _ v => if trigOk s (trigFields s u sub v) then none else some (stTypeMismatch, 0),
    apply := fun s _ _ v =>
      let f := trigFields s u sub v
      let s := (List.range 9).foldl (fun s i => s.write (ent (trigIdx u) (i + 1)) (.num (f.getD i 0))) s
      let s := s.setTrig u fun x => { x with next := none, high := none, level := false, k := 0 }
      let time := (s.tb (f.getD 1 0)).time
      let mode := f.getD 0 0
      if mode = 1 ∧ f.getD 2 0 * nsUnit ≤ time then
        { s := (s.write (ent (trigIdx u) 1) (.num 0)).put (trigIdx u) 0x0A 0, status := stTooLate,
          detail := s.pick (f.getD 1 0) % 2 ^ 32 }
      else
        let s := s.put (trigIdx u) 0x0A (if mode = 0 then 0 else if mode = 4 then 2 else 1)
        { s := if 1 ≤ mode ∧ mode ≤ 3 then aimTrig s u time else s } }

/-- The trigger output after an instant (R267, R268): high until the instant plus WIDTH; PERIODIC and PICK_OFFSET units
wait for the next instant. -/
def fireTrig (s : State) (u inst : Nat) : State :=
  let s := s.count (trigIdx u) 0x0B 32 1
  let s := s.setTrig u fun x => { x with level := true, high := some (inst + s.num (trigIdx u) 7 * nsUnit) }
  if s.num (trigIdx u) 1 = 1 then (s.setTrig u fun x => { x with next := none }).put (trigIdx u) 0x0A 3
  else (aimTrig s u inst).put (trigIdx u) 0x0A 2

/-- Step epoch (R256): the low 8 bits of STEP_COUNT. -/
def stepEpoch (s : State) (t : Nat) : Nat := stepCount s t % 256

/-- The count that a timestamp or capture of this cycle takes: from before a step that applies in it (R256). -/
def TimeBase.stamp (b : TimeBase) : Nat := b.was.getD b.time

/-- The step epoch that goes with it (R256). -/
def stampEpoch (s : State) (t : Nat) : Nat := (stepCount s t + 2 ^ 32 - (s.tb t).wasN) % 256

/-- A capture record (R271) of the count in this cycle. -/
def captureRecord (s : State) (t seq : Nat) (rising : Bool) : List Byte :=
  let b := s.tb t
  let flags := b.stamp % nsUnit * 8 / nsUnit * 32 + (if rising then 16 else 0) + (if b.armed then 0 else 8)
  encTime (b.stamp / nsUnit) ++ be 1 flags ++ be 1 (stampEpoch s t) ++ be 2 seq

/-- Take a capture (R271): the last 16 are kept, and a 17th raises event 107h at most once per second. -/
def takeCapture (s : State) (u : Nat) (rising : Bool) : State :=
  let x := s.trig u
  let r := captureRecord s (s.num (trigIdx u) 2) x.seq rising
  let s := s.setTrig u fun x =>
    { x with caps := (x.caps ++ [r]).drop (x.caps.length - 15), seq := (x.seq + 1) % 2 ^ 16, edgeAt := s.now + 1 }
  let s := s.count (trigIdx u) 0x0B 32 1
  if 16 ≤ x.caps.length then s.raiseAtMost 1 0x107 u (fun n => be 4 n) else s

/-- Whether a capture unit takes an edge: CAPTURE mode, the selected edge, and a selvage pin only in its user phase (R270). -/
def takesEdge (s : State) (u : Nat) (rising : Bool) : Bool :=
  s.num (trigIdx u) 1 == 4 && (if rising then s.num (trigIdx u) 9 % 2 == 1 else s.num (trigIdx u) 9 / 2 % 2 == 1)
    && (0x40 ≤ s.num (trigIdx u) 8 || s.fab.phase == 0)

/-- An edge on a capture unit's source (R270, R271): of two edges closer than 8 ns the second may be lost, which is a
free choice (log entry 9). -/
def captureEdge (s : State) (u : Nat) (rising : Bool) : State :=
  if !takesEdge s u rising then s
  else if (s.trig u).edgeAt ≠ 0 ∧ s.now + 1 - (s.trig u).edgeAt < 8 then
    let lost := s.freeValue 1 = 0
    if lost then s.draw else takeCapture s.draw u rising
  else takeCapture s u rising

/-! ### The MGC servo (R266) -/

/-- SERVO_MODE (R266): 0 is OFF; 1 listens while unarmed and locks once armed. -/
def servoModeRule (t : Nat) : Rule :=
  { base := State.rulingNext, check := noCheck, judge := noJudge, pick := noPick,
    apply := fun s _ _ v =>
      let s := s.write (ent (servoIdx t) 1) v
      { s := servoState s t (if valNum v = 0 then 0 else if (s.tb t).armed then 2 else 1) } }

/-- What the servo requests is written with the rights of the owner of the time base record (R266). -/
def servoReq : Req := { who := .servo, crit := false, toe := .none, trans := 0 }

/-- The increment the servo writes: the spec gives its range and not its law, so it is a free value in that range
(R252; log entry 9). -/
def servoIncrement (s : State) : Nat := 4273492460 + s.freeValue 32 % (4316442132 - 4273492460 + 1)

/-- The servo acts on an estimate (R266): beyond ±50 ns it writes a STEP, within it an INCREMENT (log entry 9); ten
seconds within ±50 ns are LOCKED, and a refused step is HOLD. -/
def servoAct (s : State) (t : Nat) (offset : Int) : State :=
  if offset.natAbs ≤ 50 then
    let since := (s.tim.servo.getD t {}).lockedSince
    let s := if s.num (servoIdx t) 4 = 3 ∨ s.now - since < 10 * second then s else servoState s t 3
    (submit s servoReq (ent (tbIdx t) 5) (.num (servoIncrement s)) (incrementRule t)).draw
  else
    let s := (servoState s t 2).setServo t fun x => { x with lockedSince := s.now }
    let s := submit s servoReq (ent (tbIdx t) 6) (.num (wrap 64 (-offset))) (stepRule t)
    if s.cap.answer.status = stStepRefused then servoState s t 4 else s

/-- What the data set comparison of IEEE 1588 compares of two masters, in its order: of different grandmasters priority1, class,
accuracy, variance, priority2 and identity; of one grandmaster the steps removed and the sender's identity. -/
def Foreign.rank (a b : Foreign) : List (Nat × Nat) :=
  if a.data.grandmaster = b.data.grandmaster then
    [(a.data.steps.toNat, b.data.steps.toNat), (unbe a.source, unbe b.source)]
  else
    [(a.data.prio1.toNat, b.data.prio1.toNat), (a.data.clkClass.toNat, b.data.clkClass.toNat),
      (a.data.accuracy.toNat, b.data.accuracy.toNat), (a.data.variance.toNat, b.data.variance.toNat),
      (a.data.prio2.toNat, b.data.prio2.toNat), (unbe a.data.grandmaster, unbe b.data.grandmaster)]

/-- Whether the first difference speaks for the first master. -/
def firstLower (r : List (Nat × Nat)) : Bool := (r.find? fun p => p.1 ≠ p.2).any fun p => p.1 < p.2

/-- The announce interval of the ST 2059-2 profile, 250 ms (PRESUMED, log entry 23). -/
def announceInterval : Nat := second / 4

/-- A master that counts: two Announce messages within four intervals, the latest less than three intervals ago (PRESUMED: the
defaults of IEEE 1588 and the profile, log entry 23). -/
def Foreign.qualified (f : Foreign) (now : Nat) : Bool :=
  (f.before.any fun p => f.last - p ≤ 4 * announceInterval) && now - f.last < 3 * announceInterval

/-- The master that the best master clock algorithm chooses (R266). -/
def bestMaster (s : State) (t : Nat) : Option Foreign :=
  ((s.tim.servo.getD t {}).masters.filter fun f => f.qualified s.now).foldl
    (fun best f => match best with
      | none => some f
      | some g => if firstLower (f.rank g) then some f else some g) none

/-- An Announce message is heard (R266). -/
def hearMaster (s : State) (t : Nat) (source : List Byte) (d : PtpData) : State :=
  s.setServo t fun x =>
    let old := x.masters.find? fun f => f.source = source
    { x with masters := (x.masters.filter fun f => f.source ≠ source)
        ++ [{ source := source, data := d, last := s.now, before := old.map (·.last) }] }

/-- A PTP message reaches the servo on its port and in its domain (R266): it follows the best master, estimates while it
listens, acts while it locks, and writes nothing in HOLD. -/
def servoMessage (s : State) (t k domain : Nat) (source : List Byte) (m : ServoMsg) : State :=
  let chosen := (bestMaster s t).any fun f => f.source = source
  if s.num (servoIdx t) 1 = 0 ∨ s.num (servoIdx t) 2 ≠ k ∨ s.num (servoIdx t) 3 ≠ domain then s
  else
    let x := s.tim.servo.getD t {}
    match m with
    | .announce d => hearMaster s t source d
    | .delayReq sent => s.setServo t fun x => { x with delayTx := sent }
    | .delayResp received =>
      if !chosen then s
      else
        let path : Int := (((x.syncRx : Int) - x.syncTx) + ((received : Int) - x.delayTx)) / 2
        s.put (servoIdx t) 6 (wrap 64 path)
    | .sync origin received =>
      if !chosen then s
      else
        let s := s.setServo t fun x => { x with syncTx := origin, syncRx := received }
        let offset : Int := (received : Int) - origin - signed 64 (s.num (servoIdx t) 6)
        let s := s.put (servoIdx t) 5 (wrap 64 offset)
        if (s.tb t).armed ∧ (s.num (servoIdx t) 4 = 2 ∨ s.num (servoIdx t) 4 = 3) then servoAct s t offset else s

/-! ### Commands -/

/-- INCREMENT (R252). -/
def execIncrement (r : Req) (t : Fin 8) (v : Nat) (s : State) : Out :=
  .next (submit s r (ent (tbIdx t) 5) (.num v) (incrementRule t))

/-- SLEW: a write of the slew record (R253). -/
def execSlew (r : Req) (t : Fin 8) (inc cycles : Nat) (s : State) : Out :=
  .next (submit s r (ent (0x030140 + t) 0) (.oct (be 6 inc ++ be 4 cycles ++ be 4 0)) (slewRule t))

/-- SLEW_END (R253): the slew's cycles have passed; event 104h cause 0h. -/
def execSlewEnd (t : Fin 8) (s : State) : Out :=
  .next (if (s.tb t).slewing then
    let s := s.pass (s.tb t).slewLeft
    (s.setTb t fun b => { b with slewing := false, slewLeft := 0 }).raise 0x104 t (be 1 0 ++ be 4 0)
  else s)

/-- STEP (R254). -/
def execStep (r : Req) (t : Fin 8) (ns : Int) (s : State) : Out :=
  .next (submit s r (ent (tbIdx t) 6) (.num (wrap 64 ns)) (stepRule t))

/-- FORCE_STEP (R255). -/
def execForceStep (r : Req) (t : Fin 8) (ns : Int) (s : State) : Out :=
  .next (submit s r (ent (tbIdx t) 7) (.num (wrap 64 ns)) (forceStepRule t))

/-- SET (R258). -/
def execSetTime (r : Req) (t : Fin 8) (ns : Nat) (s : State) : Out :=
  .next (submit s r (ent (tbIdx t) 9) (.num ns) (setRule t))

/-- SNAP (R259). -/
def execSnap (r : Req) (v : Nat) (s : State) : Out := .next (submit s r (ent 0x030001 1) (.num v) snapRule)

/-- SERVO_PTP_MESSAGE (R266). -/
def execServoPtpMessage (t : Fin 8) (k : Fin 32) (domain : Byte) (source : List Byte) (m : ServoMsg) (s : State) : Out :=
  .next (servoMessage s t k domain.toNat source m)

/-- SERVO_MODE (R266). -/
def execServoMode (r : Req) (t : Fin 8) (v : Nat) (s : State) : Out :=
  .next (submit s r (ent (servoIdx t) 1) (.num v) (servoModeRule t))

/-- TRIGGER_UNIT_WRITE (R267, R270). -/
def execTriggerUnitWrite (r : Req) (u : Fin 64) (sub : Fin 10) (bytes : List Byte) (s : State) : Out :=
  .next (submit s r (ent (trigIdx u) sub) (valueOf (ent (trigIdx u) sub) bytes) (trigRule u sub))

/-- TRIGGER_WIDTH_END (R267): the base reaches the instant plus WIDTH and the output falls. -/
def execTriggerWidthEnd (u : Fin 64) (s : State) : Out :=
  .next (match (s.trig u).high with
  | none => s
  | some x => (s.waitTb (s.num (trigIdx u) 2) x).setTrig u fun y => { y with level := false, high := none })

/-- CAPTURE_EDGE (R270, R271). -/
def execCaptureEdge (u : Fin 64) (rising : Bool) (s : State) : Out := .next (captureEdge s u rising)

end Sys2Proof.Machine
end

