-- ==== Sys2Proof/Machine/Clocks.lean ====
section
/-! DEFINITION. Reference sources, the timing loop, operating points, user loops, gates and spread (R228 to R250). -/

namespace Sys2Proof.Machine

/-- Index of a domain's record (R249). -/
def domIdx (d : Nat) : Nat := 0x040100 + d

/-- Domain states (R249). -/
def dSteady : Nat := 0
def dRampUp : Nat := 1
def dStepPending : Nat := 2
def dRampDown : Nat := 3
def dCoasting : Nat := 4
def dFloor : Nat := 5

/-- Domain `d`. -/
def State.dom (s : State) (d : Nat) : Domain := s.clk.domains.getD d {}

/-- Change domain `d`. -/
def State.setDom (s : State) (d : Nat) (f : Domain → Domain) : State :=
  { s with clk := { s.clk with domains := lmod s.clk.domains d f } }

/-- The state of domain `d` (R240). -/
def State.domState (s : State) (d : Nat) : Nat := s.num (domIdx d) 3

/-- Domain `d` enters a state. -/
def State.putDomState (s : State) (d st : Nat) : State := s.put (domIdx d) 3 st

/-- V_req (R239): the voltage of the operating point set for and of every pending raise whose ramp has begun. -/
def Domain.vReq (x : Domain) (d : Nat) : Nat := (x.ramps.map (opMv d)).foldl max (opMv d x.setOp)

/-- The AVSBus rail of a domain (R127): rails of bolt b are 3b fabric, 3b + 1 shuttles, 3b + 2 hard domain. -/
def railOf (d : Nat) : Nat := 3 * (d / 2) + 1 + d % 2

/-- The sequencer writes a rail's set point over AVSBus; a silent regulator keeps the boot voltage (R127). -/
def setRail (s : State) (rail mv : Nat) : State :=
  if s.pwr.silent.contains rail then s else { s with pwr := { s.pwr with railMv := s.pwr.railMv.set rail mv } }

/-- Bring the rail of a domain to V_req; while COASTING it is not lowered (R239, R241). -/
def railToReq (s : State) (d : Nat) : State :=
  let v := (s.dom d).vReq d
  if s.domState d = dCoasting ∧ v < s.pwr.railMv.getD (railOf d) 0 then s else setRail s (railOf d) v

/-- A voltage counts as reached at the target minus 5 mV (R239), and never where the regulator is silent (R127). -/
def reached (s : State) (d op : Nat) : Bool := !s.pwr.silent.contains (railOf d) && opMv d op ≤ s.num (domIdx d) 8 + 5

/-- Whether an operating point needs a ramp: its voltage lies above V_req (R239). -/
def isRaise (s : State) (d op : Nat) : Bool := (s.dom d).vReq d < opMv d op

/-- Whether a step to an operating point waits for a higher voltage than the present one's (R239). -/
def needsVolt (s : State) (d op : Nat) : Bool := opMv d (s.dom d).setOp < opMv d op

/-- A change that completed with BUSY or was abandoned sets CHANGE_FAILED (R249). -/
def changeFailed (s : State) (d : Nat) : State := s.latchBits (domIdx d) 0x0A 4

/-! ### Coasting (R232, R240, R241) -/

/-- A step ends 100 ns after its tick (R238, R241): event 147h, and its timed changes complete. -/
def finishStep (s : State) (d : Nat) : State :=
  let x := s.dom d
  if x.stepAt.isNone then s
  else
    let s := s.setDom d fun x => { x with stepAt := none, carried := [] }
    let s := s.raise 0x147 d (be 1 x.stepOld ++ be 1 x.setOp ++ be 8 x.stepPick)
    x.carried.foldl (fun s c => finishCmd s c stOk) s

/-- A coast within the 100 ns of a step abandons it (R241): the change completes with BUSY and event 116h, cause 1h. -/
def abandonStep (s : State) (d : Nat) : State :=
  let x := s.dom d
  let s := s.setDom d fun x => { x with stepAt := none, carried := [], setOp := x.stepFrom }
  let s := (changeFailed s d).raise 0x116 d (be 4 (domIdx d) ++ be 1 1)
  x.carried.foldl (fun s c => finishCmd s c stBusy) s

/-- The steps whose 100 ns have passed. -/
def finishSteps (s : State) : State :=
  (List.range 8).foldl (fun s d =>
    match (s.dom d).stepAt with
    | some t => if t + 100 ≤ s.now then finishStep s d else s
    | none => s) s

/-- A domain coasts to its floor loop (R240, R241): a step under way is abandoned; RETAINED_OP is the operating point set for,
event 144h. -/
def coast (s : State) (d cause : Nat) : State :=
  if s.domState d = dCoasting ∨ !(s.dom d).started then s
  else
    let s := finishSteps s
    let s := if (s.dom d).stepAt.isSome then abandonStep s d else s
    let op := (s.dom d).setOp
    let s := ((s.put (domIdx d) 9 op).put (domIdx d) 2 0).putDomState d dCoasting
    let s := (s.latchBits (domIdx d) 0x0A 2).count (domIdx d) 0x0B 32 1
    let s := s.setDom d fun x => { x with locked := false, changed := false, restore := false }
    s.raise 0x144 d (be 1 op ++ be 1 cause)

/-- Index of a user loop's record; loop 8b + l. -/
def uloopIdx (l : Nat) : Nat := 0x040300 + l

/-- Change user loop `l`. -/
def State.setUloop (s : State) (l : Nat) (f : ULoop → ULoop) : State :=
  { s with clk := { s.clk with uloops := lmod s.clk.uloops l f } }

/-- A user loop's outputs step to their floors (R245): event 149h. -/
def uloopCoast (s : State) (l cause : Nat) : State :=
  if s.num (uloopIdx l) 1 = 2 ∨ s.num (uloopIdx l) 1 = 4 then
    ((s.put (uloopIdx l) 1 3).setUloop l fun x => { x with request := false }).raise 0x149 l (be 1 cause)
  else s

/-- The loops a reference loss or switch coasts (R232): every main loop, and user loops on the device reference. -/
def coastAll (s : State) : State :=
  let s := (List.range 8).foldl (fun s d => coast s d 1) s
  (List.range 32).foldl (fun s l => if s.num (uloopIdx l) 2 = 0 then uloopCoast s l 1 else s) s

/-! ### Reference and timing loop (R229 to R235) -/

/-- The timing loop enters a mode: event 143h; entry to HOLDOVER keeps the ruling time and HOLDOVER_SEEN (R234, R249). -/
def tlMode (s : State) (m : Nat) : State :=
  if s.num 0x040010 1 = m then s
  else
    let s := s.put 0x040010 1 m
    let s := if m = 3 then (s.latchBits 0x040000 7 1).put 0x040010 5 (s.tb s.rulingTb).ns else s
    s.raise 0x143 0 (be 1 m ++ be 4 (s.num 0x040010 4))

/-- The selected source qualified in WAITING (R231): the affected loops coast, the multiplexer switches, the timing loop
acquires the source; event 142h. -/
def useSource (s : State) (src : Nat) : State :=
  let old := s.num 0x040000 5
  let s := coastAll s
  let s := (s.put 0x040000 5 src).put 0x040000 4 1
  let s := tlMode { s with clk := { s.clk with tlTarget := src, acqAt := s.now } } 1
  s.raise 0x142 0 (be 1 old ++ be 1 src)

/-- Whether a source is qualified now (R230, R231): XO_IN always is. -/
def qualified (s : State) (src : Nat) : Bool :=
  match src with
  | 0 => s.clk.xoQualified
  | 1 => s.clk.refInQualified
  | _ => s.clk.laneQualified

/-- WAITING with a qualified selected source goes IN_USE at once (R231). -/
def tryUse (s : State) : State :=
  if s.num 0x040000 4 = 0 ∧ qualified s (s.num 0x040000 1) then useSource s (s.num 0x040000 1) else s

/-- REF_SEL (R231): WAITING, unless the source in use is selected again while IN_USE. -/
def refSelRule : Rule :=
  { base := State.rulingNext, check := noCheck, judge := noJudge, pick := noPick,
    apply := fun s _ _ v =>
      let s := s.write (ent 0x040000 1) v
      if s.num 0x040000 4 = 1 ∧ valNum v = s.num 0x040000 5 then { s := s }
      else { s := tryUse (s.put 0x040000 4 0) } }

/-- REF_IN_FREQ and REF_LANE name another source, which is not qualified until it has been watched for 100 ms (R229). -/
def refSourceRule (sub : Nat) : Rule :=
  { base := State.rulingNext, judge := noJudge, pick := noPick,
    check := fun _ _ v =>
      let n := valNum v
      if (if sub = 2 then n = 0 ∨ 10000000 ≤ n else n < 48 ∨ 256 ≤ n) then none else some (stTypeMismatch, 0),
    apply := fun s _ _ v =>
      let same := decide (s.val (ent 0x040000 sub) = v)
      let s := s.write (ent 0x040000 sub) v
      if same then { s := s }
      else if sub = 2 then { s := { s with clk := { s.clk with refInQualified := false } } }
      else { s := { s with clk := { s.clk with laneQualified := false } } } }

/-- A source is lost (R230, R231): the one in use coasts the loops and leaves the multiplexer on XO_IN. XO_IN is never lost in this
sense. -/
def loseSource (s : State) (src : Nat) : State :=
  let s := match src with
    | 0 => s
    | 1 => { s with clk := { s.clk with refInQualified := false } }
    | _ => { s with clk := { s.clk with laneQualified := false } }
  if src = 0 ∨ s.num 0x040000 5 ≠ src then s
  else
    let s := coastAll s
    let s := if s.num 0x040010 1 = 1 ∨ s.num 0x040010 1 = 2 then tlMode s 3 else s
    let s := s.put 0x040000 5 0
    let s := if s.num 0x040000 4 = 1 then (s.put 0x040000 4 2).latchBits 0x040000 7 8 else s
    s.raise 0x140 0 (be 1 src)

/-- A source has stayed within 100 ppm for 100 ms (R230): event 141h, and a waiting multiplexer takes it (R231). REF_IN
needs a frequency, a lane must be LOCKED. -/
def qualifySource (s : State) (src : Nat) : State :=
  if src = 0 ∨ qualified s src ∨ (src = 1 ∧ s.num 0x040000 2 = 0)
      ∨ (src = 2 ∧ (tgetD s.lan.lanes (s.num 0x040000 3) {}).state ≠ 2) then s
  else
    let s := if src = 1 then { s with clk := { s.clk with refInQualified := true } }
      else { s with clk := { s.clk with laneQualified := true } }
    tryUse (s.raise 0x141 0 (be 1 src))

/-- TL_RELOCK (R234): from HOLDOVER, acquisition of XO_IN; BUSY in any other mode. -/
def tlRelockRule : Rule :=
  { base := State.rulingNext, check := noCheck, pick := noPick,
    judge := fun s _ v => if valNum v = 1 ∧ s.num 0x040010 1 ≠ 3 then refuse s stBusy else none,
    apply := fun s _ _ v =>
      if valNum v = 1 then { s := tlMode { s with clk := { s.clk with tlTarget := 0, acqAt := s.now } } 1 } else { s := s } }

/-- Kind, number and UNIT of a single-operating-point loop (R250). -/
def loopCode : HoldLoop → Nat × Nat
  | .floor d => (0, d)
  | .memory b => (1, b)
  | .seam k => (2, k)
  | .lane c => (3, c)

/-- Number of a loop in the list of holding loops. -/
def loopNum (l : HoldLoop) : Nat := (loopCode l).1 * 65536 + (loopCode l).2

/-- Whether a loop holds its control word: it lost lock, or XO_IN is absent (R233). -/
def loopHolds (s : State) (l : HoldLoop) : Bool := s.pwr.xoAbsent || s.clk.holdLoops.contains (loopNum l)

/-- Event 14Ch of a loop. -/
def reportHold (s : State) (l : HoldLoop) : State := s.raise 0x14C (loopCode l).2 (be 1 (loopCode l).1)

/-- A single-operating-point loop loses lock and holds its control word (R233): event 14Ch. -/
def holdLoop (s : State) (l : HoldLoop) : State :=
  if s.clk.holdLoops.contains (loopNum l) then s
  else
    let t := { s with clk := { s.clk with holdLoops := s.clk.holdLoops ++ [loopNum l] } }
    if loopHolds s l then t else reportHold t l

/-- A retry that acquires ends the hold (R233). -/
def retryLoop (s : State) (l : HoldLoop) (ok : Bool) : State :=
  if ok ∧ s.clk.holdLoops.contains (loopNum l) then
    { s with clk := { s.clk with holdLoops := s.clk.holdLoops.filter (· ≠ loopNum l) } }
  else s

/-- The loops that take the timing loop as their reference (R228): floor, memory and seam loops, and those of lanes in use. -/
def heldLoops (s : State) : List HoldLoop :=
  (List.finRange 8).map .floor ++ (List.finRange 4).map .memory ++ (List.finRange 4).map .seam
    ++ (s.lan.lanes.filter fun x => x.2.state ≠ 0).map fun x => .lane x.1

/-- XO_IN stops or returns (R233): event 14Dh; while it is away the timing loop's dependants hold, each with event 14Ch. -/
def xoChange (s : State) (absent : Bool) : State :=
  if s.pwr.xoAbsent = absent then s
  else
    let newly := if absent then (heldLoops s).filter fun l => !loopHolds s l else []
    let s := { s with pwr := { s.pwr with xoAbsent := absent } }
    newly.foldl reportHold (s.raise 0x14D 0 (be 1 (if absent then 0 else 1)))

/-! ### Operating points (R236 to R244) -/

/-- The changes of domain `d` that its ramps serve no longer hold the rail up. -/
def dropRamp (s : State) (d op : Nat) : State := s.setDom d fun x => { x with ramps := x.ramps.erase op }

/-- A raise is abandoned (R240): its ramp no longer holds the rail, RAMP_UP becomes STEADY; event 148h, cause 0h after 10 ms, 1h
with the regulator silent. -/
def abandonRaise (s : State) (d op cause : Nat) : State :=
  let s := (dropRamp s d op).setDom d fun x => { x with pend := if x.pend = some op then none else x.pend }
  let s := railToReq s d
  let s := if s.domState d = dRampUp ∨ s.domState d = dStepPending then s.putDomState d dSteady else s
  (changeFailed s d).raise 0x148 d (be 1 op ++ be 1 cause)

/-- The ramp of a raise begins (R239, R240): the target voltage is written; the domain goes to RAMP_UP, from FLOOR as from STEADY.
A silent regulator ends it (R127). -/
def beginRamp (s : State) (d op : Nat) : State :=
  let s := railToReq (s.setDom d fun x => { x with ramps := x.ramps ++ [op], pendAt := s.now }) d
  let s := if s.domState d = dCoasting then s else s.putDomState d dRampUp
  if s.pwr.silent.contains (railOf d) then abandonRaise s d op 1 else s

/-- Replace the untimed change not yet stepped (R239). -/
def dropPend (s : State) (d : Nat) : State :=
  match (s.dom d).pend with
  | none => s
  | some op =>
    let s := railToReq ((dropRamp s d op).setDom d fun x => { x with pend := none }) d
    if s.domState d = dRampUp ∨ s.domState d = dStepPending then s.putDomState d dSteady else s

/-- An untimed change is requested (R239): a raise begins its ramp at once, or is pending at once where V_req already
reaches its voltage. -/
def requestOp (s : State) (d op : Nat) : State :=
  let s := dropPend s d
  let up := isRaise s d op
  let s := s.setDom d fun x => { x with pend := some op, pendAt := s.now }
  if up then beginRamp s d op
  else if s.domState d = dSteady ∨ s.domState d = dFloor then
    if op < s.num (domIdx d) 2 then s else s.putDomState d dStepPending
  else s

/-- Domain clock in 10 Hz units, reduced by its full spread; the floor carries none (R243). -/
def domainTenHz (s : State) (d : Nat) : Nat :=
  if s.domState d = dCoasting ∨ s.domState d = dFloor then opKHz d 0 * 100 else
    opKHz d (s.num (domIdx d) 2) * (2000 - (s.dom d).spread) / 20

/-- The frequency step of a domain at a ruling tick (R238 to R240): RAMP_DOWN where V_req falls. It ends with `finishStep`. The raises
of this tick no longer hold the rail up. -/
def stepDomain (s : State) (d op : Nat) : State :=
  let s := if (s.dom d).stepAt.isSome then finishStep s d else s
  let old := s.num (domIdx d) 2
  let before := (s.dom d).vReq d
  let s := s.setDom d fun x =>
    { x with setOp := op, changed := true, restore := false, ramps := x.ticked.foldl List.erase x.ramps, ticked := [],
             stepAt := some s.now, stepFrom := x.setOp, stepOld := old, stepPick := s.rulingPick }
  let s := s.put (domIdx d) 2 op
  if (s.dom d).vReq d < before then (s.putDomState d dRampDown).setDom d fun x => { x with lower := true }
  else s.putDomState d dSteady

/-- A timed change that its pick cannot apply (R29, R30): BUSY, event 116h with its cause, CHANGE_FAILED. -/
def failChange (s : State) (d op cause : Nat) : Done :=
  let s := dropRamp s d op
  let s := if s.domState d = dRampUp then (railToReq s d).putDomState d dSteady else s
  { s := (changeFailed s d).raise 0x116 d (be 4 (domIdx d) ++ be 1 cause), status := stBusy }

/-- TARGET_OP (R239): untimed it requests a change and returns OK, or BUSY while COASTING; at its pick it is judged by
R29 and R30 and leaves the target that the tick steps to. -/
def targetOpRule (d : Nat) : Rule :=
  { base := State.rulingNext, check := noCheck, pick := noPick,
    judge := fun s r _ => if r.toe = .none ∧ s.domState d = dCoasting then refuse s stBusy else none,
    apply := fun s atPick _ v =>
      let op := valNum v
      if atPick then
        if s.domState d = dCoasting then failChange s d op 1
        else if needsVolt s d op ∧ !reached s d op then failChange s d op 2
        else { s := (s.write (ent (domIdx d) 1) v).setDom d fun x => { x with tick := some op, ticked := x.ticked ++ [op] }, later := true }
      else { s := requestOp (s.write (ent (domIdx d) 1) v) d op } }

/-- Whether the untimed change of a domain may step in a window (R239, R241): not while COASTING, and a raise only with
its voltage reached. -/
def pendReady (s : State) (d : Nat) : Bool :=
  match (s.dom d).pend with
  | none => false
  | some op => s.domState d != dCoasting && (!needsVolt s d op || reached s d op)

/-- What a window does to domain `d` before the timed changes of its pick: the untimed change and an automatic restore
(R239, R240). -/
def windowDomain (s : State) (d : Nat) : State :=
  if pendReady s d then
    let op := ((s.dom d).pend).getD 0
    s.setDom d fun x => { x with pend := none, tick := some op, ticked := x.ticked ++ [op] }
  else if (s.dom d).restore ∧ s.domState d = dFloor then
    let op := s.num (domIdx d) 9
    let s := (s.put (domIdx d) 2 op).putDomState d dSteady
    (s.setDom d fun x => { x with restore := false, setOp := op }).raise 0x146 d (be 1 op)
  else s

/-- The step of the final target of a tick (R239). -/
def tickDomain (s : State) (d : Nat) : State :=
  match (s.dom d).tick with
  | none => s
  | some op => stepDomain (s.setDom d fun x => { x with tick := none }) d op

/-- The timed raise of domain `d` that is due first and whose ramp has not begun. -/
def nextRaise (s : State) (d : Nat) : Option TimedCmd :=
  (s.ruling.timed.filter fun c => c.key == ent (domIdx d) 1 && isRaise s d (valNum c.val)
    && !(s.dom d).ramps.contains (valNum c.val)).foldl (fun (b : Option TimedCmd) c =>
      match b with
      | none => some c
      | some x => if c.pick < x.pick then some c else some x) none

/-- RAISE_LEAD before a boundary of the ruling time base (R239). -/
def rampCount (s : State) (c : TimedCmd) (d : Nat) : Nat :=
  (s.tb c.tb).cur.start c.pick - s.num (domIdx d) 6 * 1000 * nsUnit

/-! ### User loops, gates, spread (R245 to R248) -/

/-- RESTORE of a user loop (R245): BUSY while unlocked; the outputs return in the next ruling window. -/
def uloopRestoreRule (l : Nat) : Rule :=
  { base := State.rulingNext, check := noCheck, pick := noPick,
    judge := fun s _ v => if valNum v = 1 ∧ ¬(s.num (uloopIdx l) 1 = 2 ∨ s.num (uloopIdx l) 1 = 4) then refuse s stBusy else none,
    apply := fun s _ _ v =>
      if valNum v = 1 ∧ s.num (uloopIdx l) 1 = 4 then { s := s.setUloop l fun x => { x with request := true } } else { s := s } }

/-- A window returns the outputs of a user loop that asked for it (R245): event 14Ah. -/
def windowUloop (s : State) (l : Nat) : State :=
  if (s.clk.uloops.getD l {}).request ∧ s.num (uloopIdx l) 1 = 4 then
    ((s.put (uloopIdx l) 1 2).setUloop l fun x => { x with request := false }).raise 0x14A l
  else s

/-- Index of a gate's record: clusters 0 to 63, then SE0 to SE7 (R249). -/
def gateIdx (u : Nat) : Nat := 0x040200 + u

/-- Whether a shuttle of cluster `c` is RUNNING (R384). -/
def clusterRunning (s : State) (c : Nat) : Bool := (List.range 8).any fun k => s.num (0x080100 + 8 * c + k) 1 == 2

/-- Whether a self-test holds a shuttle of cluster `c` (R507): a long operation of kind 04h that is not terminal. -/
def selfTesting (s : State) (sh : Nat) : Bool :=
  (List.range 64).any fun k => s.num (0x0F0100 + k) 1 == 4 && s.num (0x0F0100 + k) 2 == 0x080100 + sh
    && s.num (0x0F0100 + k) 5 == 2

/-- GATE (R247, R356): 1 asks the unit for idle; 0 ungates. BUSY for an engine that is not OUT or FAILED, and for a cluster
under self-test. -/
def gateRule (u : Nat) : Rule :=
  { base := State.rulingNext, check := noCheck, pick := noPick,
    judge := fun s _ _ =>
      if 64 ≤ u ∧ s.num (0x070010 + (u - 64)) 1 ≠ 1 ∧ s.num (0x070010 + (u - 64)) 1 ≠ 4 then refuse s stBusy
      else if u < 64 ∧ (List.range 8).any (fun k => selfTesting s (8 * u + k)) then refuse s stBusy else none,
    apply := fun s _ _ v =>
      let s := s.write (ent (gateIdx u) 1) v
      if valNum v = 0 then { s := s.put (gateIdx u) 2 0 }
      else if s.num (gateIdx u) 2 ≠ 0 then { s := s }
      else
        let s := s.put (gateIdx u) 2 1
        { s := { s with clk := { s.clk with gates := lmod s.clk.gates u fun g => { g with since := s.now } } } } }

/-- Whether a gate waits for idle now: requested, and no program of the cluster still runs (R247). -/
def gateWaits (s : State) (u : Nat) : Bool := s.num (gateIdx u) 2 == 1 && !(u < 64 && clusterRunning s u)

/-- The entry of a spread setting (R249). -/
def spreadKey : SpreadOf → Nat
  | .domain d => ent (domIdx d) 7
  | .user l => ent (uloopIdx l) 5
  | .memory b => ent 0x040400 (9 + b)

/-- A spread write takes effect in the next ruling window (R248). -/
def spreadRule (key : Nat) : Rule :=
  { base := State.rulingNext, check := noCheck, judge := noJudge, pick := noPick,
    apply := fun s _ _ v =>
      let s := s.write key v
      { s := { s with clk := { s.clk with spreadPend := tput s.clk.spreadPend key (valNum v) } } } }

/-- A window puts waiting spread settings into effect (R248): those of domains, user loops and memory loops. -/
def windowSpread (s : State) : State :=
  let s := (List.range 8).foldl (fun s d =>
    match tget s.clk.spreadPend (ent (domIdx d) 7) with
    | some v => s.setDom d fun x => { x with spread := v }
    | none => s) s
  let now := s.clk.spreadPend.foldl (fun t p => tput t p.1 p.2) s.clk.spreadNow
  { s with clk := { s.clk with spreadNow := now, spreadPend := [] } }

/-- The timing loop reaches its reference (R234, R235): XO_IN has no offset from itself; any other source gives the offset at which
it is met, within 200 ppm. While a time base is armed the frequency moves at TL_SLEW at most, then stands for 1 s. -/
def lockTiming (s : State) (offset : Int) : State :=
  let goal := if s.clk.tlTarget = 0 then 0 else offset
  if s.num 0x040010 1 ≠ 1 ∨ 200000 < goal ∨ goal < -200000 then s
  else
    let move := (goal - signed 32 (s.num 0x040010 4)).natAbs
    let armed := (List.range 8).any fun t => (s.tb t).armed
    let s := if armed then s.waitUntil (s.clk.acqAt + ceilDiv (move * 100000000) (Nat.max 1 (s.num 0x040010 2)) + 1000000000) else s
    tlMode (s.put 0x040010 4 (wrap 32 goal)) 2

/-- A domain clock starts at START_OP (R244): the voltage reached, the main loop locked, and the source of REF_SEL qualified or 200 ms
waited for it. -/
def startDomain (s : State) (d : Nat) : State :=
  let op := s.num (domIdx d) 4
  let there := if s.pwr.silent.contains (railOf d) then opMv d op ≤ 750 + 5 else opMv d op ≤ s.num (domIdx d) 8 + 5
  if !s.pwr.mgcOn ∨ (s.dom d).started ∨ !there then s
  else
    let s := if qualified s (s.num 0x040000 1) then s else s.waitUntil (s.pwr.poweredAt + 200000000)
    (s.put (domIdx d) 2 op).setDom d fun x => { x with started := true, setOp := op, locked := true }

/-! ### Commands -/

/-- SOURCE_LOST (R230, R231). -/
def execSourceLost (src : Fin 3) (s : State) : Out := .next (loseSource s src)

/-- SOURCE_QUALIFIED (R230, R231). -/
def execSourceQualified (src : Fin 3) (s : State) : Out := .next (qualifySource s src)

/-- REF_SEL (R231). -/
def execRefSel (r : Req) (v : Nat) (s : State) : Out := .next (submit s r (ent 0x040000 1) (.num v) refSelRule)

/-- XO_IN_LOST (R233). -/
def execXoInLost (s : State) : Out := .next (xoChange s true)

/-- XO_IN_RETURNED (R233). -/
def execXoInReturned (s : State) : Out := .next (xoChange s false)

/-- TIMING_LOOP_LOCKED (R234, R235): ACQUIRING becomes LOCKED at an offset in parts per 10^9. -/
def execTimingLoopLocked (offset : Int) (s : State) : Out :=
  .next (lockTiming s offset)

/-- TL_RELOCK (R234). -/
def execTlRelock (r : Req) (v : Nat) (s : State) : Out := .next (submit s r (ent 0x040010 3) (.num v) tlRelockRule)

/-- SINGLE_OP_LOOP_UNLOCK (R233). -/
def execSingleOpLoopUnlock (loop : HoldLoop) (s : State) : Out := .next (holdLoop s loop)

/-- LOOP_ACQUIRE_RETRY (R233). -/
def execLoopAcquireRetry (loop : HoldLoop) (ok : Bool) (s : State) : Out := .next (retryLoop s loop ok)

/-- TARGET_OP (R239). -/
def execTargetOp (r : Req) (d : Fin 8) (v : Nat) (s : State) : Out :=
  .next (submit s r (ent (domIdx d) 1) (.num v) (targetOpRule d))

/-- RAISE_RAMP_START (R239): at the target boundary minus RAISE_LEAD the ramp of a timed raise begins. -/
def execRaiseRampStart (d : Fin 8) (s : State) : Out :=
  .next (match nextRaise s d with
  | none => s
  | some c => beginRamp (s.waitTb c.tb (rampCount s c d)) d (valNum c.val))

/-- UNTIMED_RAISE_ABANDON (R240): 10 ms without reaching the voltage. -/
def execUntimedRaiseAbandon (d : Fin 8) (s : State) : Out :=
  .next (if s.domState d = dRampUp ∧ (s.dom d).pend.isSome then
    let s := s.waitUntil ((s.dom d).pendAt + 10000000)
    let op := ((s.dom d).pend).getD 0
    if reached s d op then s else abandonRaise s d op 0
  else s)

/-- LOWER_VOLTAGE_WRITE (R239): after a lowering step the lower voltage is written. -/
def execLowerVoltageWrite (d : Fin 8) (s : State) : Out :=
  .next (if (s.dom d).lower ∧ s.domState d ≠ dCoasting then railToReq (s.setDom d fun x => { x with lower := false }) d else s)

/-- VOLTAGE_READBACK (R239, R240): RAMP_UP reaches STEP_PENDING, RAMP_DOWN within 5 mV becomes STEADY. -/
def execVoltageReadback (d : Fin 8) (mv : Nat) (s : State) : Out :=
  .next (if s.pwr.silent.contains (railOf d) then s
  else
    let s := s.put (domIdx d) 8 mv
    let v := (s.dom d).vReq d
    if s.domState d = dRampUp ∧ v ≤ mv + 5 then s.putDomState d dStepPending
    else if s.domState d = dRampDown ∧ mv ≤ v + 5 ∧ v ≤ mv + 5 ∧ !(s.dom d).lower then s.putDomState d dSteady
    else s)

/-- MAIN_LOOP_UNLOCK (R241): the domain coasts, cause 0h. -/
def execMainLoopUnlock (d : Fin 8) (s : State) : Out := .next (coast s d 0)

/-- MAIN_LOOP_RELOCK (R240): COASTING becomes FLOOR, event 145h. -/
def execMainLoopRelock (d : Fin 8) (s : State) : Out :=
  .next (if s.domState d = dCoasting then
    let s := (s.putDomState d dFloor).setDom d fun x => { x with locked := true, relockAt := s.now }
    s.raise 0x145 d
  else s)

/-- DOMAIN_AUTO_RESTORE (R240): 10 ms of lock with AUTO_RESTORE set and no change since the coast; the step to
RETAINED_OP is for the next ruling window. -/
def execDomainAutoRestore (d : Fin 8) (s : State) : Out :=
  .next (if s.domState d = dFloor ∧ s.flag (domIdx d) 5 ∧ !(s.dom d).changed then
    (s.waitUntil ((s.dom d).relockAt + 10000000)).setDom d fun x => { x with restore := true }
  else s)

/-- DOMAIN_CLOCK_START (R244): the domain runs at START_OP. -/
def execDomainClockStart (d : Fin 8) (s : State) : Out := .next (startDomain s d)

/-- USER_LOOP_UNLOCK (R245). -/
def execUserLoopUnlock (l : Fin 32) (s : State) : Out := .next (uloopCoast s l 0)

/-- USER_LOOP_RELOCK (R245): a coasting loop goes to at floor; a loop that locks for the first time is locked. -/
def execUserLoopRelock (l : Fin 32) (s : State) : Out :=
  .next (if s.num (uloopIdx l) 1 = 3 then (s.put (uloopIdx l) 1 4).setUloop l fun x => { x with relockAt := s.now }
  else if s.num (uloopIdx l) 1 = 1 then s.put (uloopIdx l) 1 2 else s)

/-- USER_LOOP_AUTO_RESTORE (R245): 10 ms of continuous lock with AUTO_RESTORE set. -/
def execUserLoopAutoRestore (l : Fin 32) (s : State) : Out :=
  .next (if s.num (uloopIdx l) 1 = 4 ∧ s.flag (uloopIdx l) 3 then
    (s.waitUntil ((s.clk.uloops.getD l {}).relockAt + 10000000)).setUloop l fun x => { x with request := true }
  else s)

/-- USER_LOOP_RESTORE (R245). -/
def execUserLoopRestore (r : Req) (l : Fin 32) (v : Nat) (s : State) : Out :=
  .next (submit s r (ent (uloopIdx l) 4) (.num v) (uloopRestoreRule l))

/-- GATE (R247). -/
def execGate (r : Req) (u : Fin 72) (v : Nat) (s : State) : Out :=
  .next (submit s r (ent (gateIdx u) 1) (.num v) (gateRule u))

/-- GATE_REQUEST_TIMEOUT (R247): no idle within 4 µs of the request; GATE_STATE 0, counted, event 14Bh. -/
def execGateRequestTimeout (u : Fin 72) (s : State) : Out :=
  .next (if gateWaits s u then
    let s := s.waitUntil ((s.clk.gates.getD u {}).since + 4000)
    ((s.put (gateIdx u) 2 0).count (gateIdx u) 3 32 1).raise 0x14B u
  else s)

/-- SPREAD_WRITE (R248). -/
def execSpreadWrite (r : Req) (target : SpreadOf) (v : Nat) (s : State) : Out :=
  .next (submit s r (spreadKey target) (.num v) (spreadRule (spreadKey target)))

end Sys2Proof.Machine
end

