-- ==== Sys2Proof/Machine/ShuttleCode.lean ====
section
/-! DEFINITION. The shuttle instruction words: formats, decoding and encoding (R396 to R409). -/

namespace Sys2Proof.Machine

/-! ### Words as runs of fields, most significant field first -/

/-- The fields of a word whose widths are given. -/
def splitBits : List Nat → Nat → List Nat
  | [], _ => []
  | w :: ws, n => n / 2 ^ ws.sum % 2 ^ w :: splitBits ws n

/-- The word that fields of given widths make up. -/
def joinBits : List (Nat × Nat) → Nat
  | [] => 0
  | (_, v) :: r => v * 2 ^ (r.map (·.1)).sum + joinBits r

/-- A MAC slot (R399). -/
structure MacSlot where
  op : Nat
  acc : Nat
  ra : Nat
  rb : Nat
  deriving DecidableEq, Repr

/-- A load of the Q format (R399). -/
structure QLoad where
  en : Nat
  reg : Nat
  ptr : Nat
  mode : Nat
  deriving DecidableEq, Repr

/-- A parallel access of the A and M formats (R401). -/
structure MemAccess where
  en : Nat
  dir : Nat
  reg : Nat
  ptr : Nat
  md : Nat
  mode : Nat
  deriving DecidableEq, Repr

/-- A shuttle instruction, by format (R396): Q; A; M; the four of L; C. -/
inductive ShInstr where
  | q (lm sg : Nat) (m0 m1 m2 m3 : MacSlot) (x y : QLoad)
  | alu (op rd rs1 rs2 i imm : Nat) (x y : MemAccess)
  | acc (op arr k width rd dm : Nat) (x y : MemAccess)
  | ldi (dst imm : Nat)
  | movr (dst src : Nat)
  | ldm (dst port addr : Nat)
  | stm (dst port addr : Nat)
  | ctl (op cond opd : Nat)
  deriving DecidableEq, Repr

/-! ### Codes (R404, R406, R407, R409) -/

/-- Register codes that MOVR and LDI may read. -/
def codeReads (c : Nat) : Bool := c ≤ 0x2A || c == 0x30 || c == 0x31 || c == 0x34 || c == 0x36 || c == 0x37

/-- Register codes that MOVR and LDI may write. -/
def codeWrites (c : Nat) : Bool := c ≤ 0x2A || c == 0x32 || c == 0x33 || c == 0x35

/-- Two-dimensional accesses name an even modifier (R370, R397). -/
def QLoad.ok (l : QLoad) : Bool := l.en == 0 || l.mode != 3 || l.ptr % 2 == 0

/-- The same for a parallel access. -/
def MemAccess.ok (a : MemAccess) : Bool := a.en == 0 || a.mode != 3 || a.md % 2 == 0

/-- Whether an access is an enabled store. -/
def MemAccess.stores (a : MemAccess) : Bool := a.en == 1 && a.dir == 1

/-- Whether an encoding is valid beyond its reserved fields (R397). -/
def ShInstr.valid : ShInstr → Bool
  | .q lm sg _ _ _ _ x y => lm != 3 && sg != 3 && x.ok && y.ok
  | .alu op rd rs1 rs2 i imm x y =>
    op ≤ 0x16 && x.ok && y.ok && !(x.stores && y.stores)
      && (if i = 1 then rs2 == 0 else imm == 0)
      && (!(op == 0 || op == 0x10 || op == 0x11) || rd == 0) && (!(op == 0 || op == 0x12) || rs1 == 0)
  | .acc op arr k width rd dm x y =>
    op ≤ 5 && x.ok && y.ok && !(x.stores && y.stores) && arr ≤ 4 && (op == 0 || op == 2 || arr == 0)
      && (arr != 3 || k % 2 == 0) && (arr != 4 || k == 0) && width ≤ 5 && (op == 0 || width == 0)
      && (op == 0 || dm == 0) && ((op == 0 && dm == 0) || op == 1 || rd == 0) && (dm == 0 || (x.stores && x.reg == 0))
  | .ldi dst _ => codeWrites dst
  | .movr dst src => codeWrites dst && codeReads src
  | .ldm dst _ _ => dst ≤ 0x2A
  | .stm dst _ _ => dst ≤ 0x2A
  | .ctl op cond opd =>
    match op with
    | 0 | 6 | 7 => cond == 0 && opd == 0
    | 1 => cond ≤ 0x0B && opd < 4096
    | 2 => opd < 4096
    | 3 => cond == 0
    | 4 => cond == 0 && opd == 0
    | 5 => cond == 0 && opd != 0
    | _ => false

/-! ### Field layouts (R399, R401, R403, R405, R407, R409) -/

/-- Widths of the Q format. -/
def qWidths : List Nat := [3, 2, 2, 2, 2, 3, 3, 2, 2, 3, 3, 2, 2, 3, 3, 2, 2, 3, 3, 1, 1, 3, 2, 2, 1, 3, 2, 2]
/-- Widths of the A format. -/
def aWidths : List Nat := [3, 5, 4, 4, 4, 1, 15, 1, 1, 4, 2, 2, 2, 1, 1, 4, 2, 2, 2, 4]
/-- Widths of the M format. -/
def mWidths : List Nat := [3, 3, 3, 2, 3, 4, 1, 17, 1, 1, 4, 2, 2, 2, 1, 1, 4, 2, 2, 2, 4]
/-- Widths of the L format. -/
def lWidths : List Nat := [3, 3, 6, 1, 3, 48]
/-- Widths of the C format. -/
def cWidths : List Nat := [3, 4, 4, 37, 16]

/-- The Q format's fields as an instruction. -/
def readQ : List Nat → Option ShInstr
  | [_, lm, sg, o0, c0, a0, b0, o1, c1, a1, b1, o2, c2, a2, b2, o3, c3, a3, b3, rsv, xe, xr, xp, xm, ye, yr, yp, ym] =>
    if rsv = 0 then
      some (.q lm sg ⟨o0, c0, a0, b0⟩ ⟨o1, c1, a1, b1⟩ ⟨o2, c2, a2, b2⟩ ⟨o3, c3, a3, b3⟩ ⟨xe, xr, xp, xm⟩ ⟨ye, yr, yp, ym⟩)
    else none
  | _ => none

/-- The A format's fields as an instruction. -/
def readA : List Nat → Option ShInstr
  | [_, op, rd, rs1, rs2, i, imm, xe, xd, xr, xp, xm, xo, ye, yd, yr, yp, ym, yo, rsv] =>
    if rsv = 0 then some (.alu op rd rs1 rs2 i imm ⟨xe, xd, xr, xp, xm, xo⟩ ⟨ye, yd, yr, yp, ym, yo⟩) else none
  | _ => none

/-- The M format's fields as an instruction. -/
def readM : List Nat → Option ShInstr
  | [_, op, arr, k, width, rd, dm, r1, xe, xd, xr, xp, xm, xo, ye, yd, yr, yp, ym, yo, r2] =>
    if r1 = 0 ∧ r2 = 0 then some (.acc op arr k width rd dm ⟨xe, xd, xr, xp, xm, xo⟩ ⟨ye, yd, yr, yp, ym, yo⟩) else none
  | _ => none

/-- The L format's fields as an instruction. -/
def readL : List Nat → Option ShInstr
  | [_, op, dst, port, rsv, opd] =>
    if rsv ≠ 0 then none
    else match op with
      | 0 => if port = 0 then some (.ldi dst opd) else none
      | 1 => if port = 0 ∧ opd < 2 ^ 6 then some (.movr dst opd) else none
      | 2 => if opd < 2 ^ 14 then some (.ldm dst port opd) else none
      | 3 => if opd < 2 ^ 14 then some (.stm dst port opd) else none
      | _ => none
  | _ => none

/-- The C format's fields as an instruction. -/
def readC : List Nat → Option ShInstr
  | [_, op, cond, rsv, opd] => if rsv = 0 then some (.ctl op cond opd) else none
  | _ => none

/-- Decode a 64-bit instruction; `none` where its encoding is invalid (R396, R397). -/
def decodeShuttle (w : Nat) : Option ShInstr :=
  let i := match w / 2 ^ 61 % 8 with
    | 0 => readQ (splitBits qWidths w)
    | 1 => readA (splitBits aWidths w)
    | 2 => readM (splitBits mWidths w)
    | 3 => readL (splitBits lWidths w)
    | 4 => readC (splitBits cWidths w)
    | _ => none
  match i with
  | some i => if i.valid then some i else none
  | none => none

/-- The fields of an instruction with their widths. -/
def ShInstr.fields : ShInstr → List (Nat × Nat)
  | .q lm sg m0 m1 m2 m3 x y => qWidths.zip
    [0, lm, sg, m0.op, m0.acc, m0.ra, m0.rb, m1.op, m1.acc, m1.ra, m1.rb, m2.op, m2.acc, m2.ra, m2.rb,
     m3.op, m3.acc, m3.ra, m3.rb, 0, x.en, x.reg, x.ptr, x.mode, y.en, y.reg, y.ptr, y.mode]
  | .alu op rd rs1 rs2 i imm x y => aWidths.zip
    [1, op, rd, rs1, rs2, i, imm, x.en, x.dir, x.reg, x.ptr, x.md, x.mode, y.en, y.dir, y.reg, y.ptr, y.md, y.mode, 0]
  | .acc op arr k width rd dm x y => mWidths.zip
    [2, op, arr, k, width, rd, dm, 0, x.en, x.dir, x.reg, x.ptr, x.md, x.mode, y.en, y.dir, y.reg, y.ptr, y.md, y.mode, 0]
  | .ldi dst imm => lWidths.zip [3, 0, dst, 0, 0, imm]
  | .movr dst src => lWidths.zip [3, 1, dst, 0, 0, src]
  | .ldm dst port addr => lWidths.zip [3, 2, dst, port, 0, addr]
  | .stm dst port addr => lWidths.zip [3, 3, dst, port, 0, addr]
  | .ctl op cond opd => cWidths.zip [4, op, cond, 0, opd]

/-- Encode an instruction. -/
def encodeShuttle (i : ShInstr) : Nat := joinBits i.fields

/-- Every field fits its width. -/
def ShInstr.fits (i : ShInstr) : Bool :=
  (i.fields.all fun f => decide (f.2 < 2 ^ f.1))
    && match i with
      | .movr _ src => decide (src < 2 ^ 6)
      | .ldm _ _ a | .stm _ _ a => decide (a < 2 ^ 14)
      | _ => true

end Sys2Proof.Machine
end

