-- ==== Sys2Proof/Machine/Lanes.lean ====
section
/-! DEFINITION. Lanes, ladder bring-up, ports, re-forming, restores, optical engines and management ports (R274 to R299). -/

namespace Sys2Proof.Machine

/-! ### Numbering -/

/-- Lane states (R276). -/
def laneHeld : Nat := 0
def laneBringup : Nat := 1
def laneLocked : Nat := 2
def laneUnlocked : Nat := 3

/-- Sub-port states (R298). -/
def spOff : Nat := 0
def spBringup : Nat := 1
def spUp : Nat := 2
def spReforming : Nat := 3
def spNarrow : Nat := 4
def spDown : Nat := 5

/-- The kinds of lane by lane code (R274). -/
def isFast (c : Nat) : Bool := c < 48
def isGeneral (c : Nat) : Bool := 0x100 ≤ c && c < 0x140
def isOptical (c : Nat) : Bool := 0x200 ≤ c && c < 0x240

/-- Whether a lane code names a lane of this part (R274, R4). -/
def laneExists (s : State) (c : Nat) : Bool :=
  isFast c || isGeneral c || (isOptical c && (oeFitted s.unit / 2 ^ ((c - 0x200) / 8)) % 2 == 1) || c == 0x300 || c == 0x301

/-- The record of an electrical lane (R298). -/
def laneIdx (c : Nat) : Nat := if c < 0x100 then 0x050100 + c else 0x050200 + (c - 0x100)

/-- The port record of a lane (R272): ports 0 to 13, then quad ports; and the lane's number in the port (R286, R287). -/
def portOf (c : Nat) : Nat × Nat :=
  if isFast c then (c / 8, c % 8) else if isOptical c then (6 + (c - 0x200) / 8, c % 8) else (14 + (c - 0x100) / 4, c % 4)

/-- The lane code of a port's lane. -/
def laneCode (k l : Nat) : Nat :=
  if k < 6 then 8 * k + l else if k < 14 then 0x200 + 8 * (k - 6) + l else 0x100 + 4 * (k - 14) + l

/-- Lanes of a port. -/
def portLanes (k : Nat) : Nat := if k < 14 then 8 else 4

/-- The record of a port (R298). -/
def portIdx (k : Nat) : Nat := if k < 14 then 0x050400 + k else 0x050500 + (k - 14)

/-- MODE of a port. -/
def State.portMode (s : State) (k : Nat) : Nat := s.num (portIdx k) 1

/-- BRINGUP of a port. -/
def State.bringup (s : State) (k : Nat) : Nat := s.num (portIdx k) 2

/-- Whether a lane is a management lane (R274). -/
def isMgt (c : Nat) : Bool := c == 0x300 || c == 0x301

/-- Whether a mode gives the port raw lanes (R286, R287). -/
def rawMode (k mode : Nat) : Bool := if k < 14 then mode == 11 else mode == 3

/-- Sub-ports, lanes of each and rung of a mode (R286, R287); raw modes and off have no sub-port. -/
def modeShape (k mode : Nat) : Nat × Nat × Nat :=
  if k < 14 then [(0, 0, 0), (1, 8, 6), (2, 4, 6), (4, 2, 6), (8, 1, 6), (2, 4, 5), (4, 2, 5), (8, 1, 5), (2, 4, 2), (8, 1, 2),
    (8, 1, 1)].getD mode (0, 0, 0)
  else [(0, 0, 0), (4, 1, 1), (4, 1, 2)].getD mode (0, 0, 0)

/-- Sub-port UNIT (R298). -/
def unitOf (k sp : Nat) : Nat := if k < 14 then 8 * k + sp else 112 + 4 * (k - 14) + sp

/-- The port record and the sub-port number of a UNIT below 176. -/
def portOfUnit (u : Nat) : Nat × Nat := if u < 112 then (u / 8, u % 8) else (14 + (u - 112) / 4, (u - 112) % 4)

/-- Index of a sub-port record (R298). -/
def subIdx (u : Nat) : Nat := 0x050800 + u

/-- Line rates of the rungs in kb/s (R280). -/
def rungKbs (r : Nat) : Nat := [1250000, 10312500, 25781250, 28125000, 32750000, 53125000, 106250000, 112500000].getD r 0

/-- Rate in Mb/s of one lane in use at a rung (R291). -/
def laneMbs (r : Nat) : Nat := [1000, 10000, 25000, 0, 0, 50000, 100000, 0].getD r 0

/-! ### State access -/

/-- Lane with a lane code. -/
def State.lane (s : State) (c : Nat) : Lane := tgetD s.lan.lanes c {}

/-- Change a lane. -/
def State.setLane (s : State) (c : Nat) (f : Lane → Lane) : State :=
  { s with lan := { s.lan with lanes := tput s.lan.lanes c (f (s.lane c)) } }

/-- Sub-port with a UNIT. -/
def State.sub (s : State) (u : Nat) : SubPort := tgetD s.lan.subs u {}

/-- Change a sub-port. -/
def State.setSub (s : State) (u : Nat) (f : SubPort → SubPort) : State :=
  { s with lan := { s.lan with subs := tput s.lan.subs u (f (s.sub u)) } }

/-- State of a sub-port. -/
def State.subState (s : State) (u : Nat) : Nat := s.num (subIdx u) 1

/-- Port lanes a sub-port uses. -/
def State.subLanes (s : State) (u : Nat) : Nat := s.num (subIdx u) 3

/-- Lanes of each sub-port of the UNIT's port. -/
def State.subWidth (s : State) (u : Nat) : Nat := (modeShape (portOfUnit u).1 (s.portMode (portOfUnit u).1)).2.1

/-- The UNIT of the sub-port that a lane belongs to in its port's mode, if it has one. -/
def State.unitOfLane (s : State) (c : Nat) : Option Nat :=
  if c = 0x300 ∨ c = 0x301 then none
  else
    let k := (portOf c).1
    let w := (modeShape k (s.portMode k)).2.1
    if w = 0 then none else some (unitOf k ((portOf c).2 / w))

/-- Port-lane mask of the full width of a sub-port. -/
def State.fullMask (s : State) (u : Nat) : Nat := (2 ^ s.subWidth u - 1) * 2 ^ ((portOfUnit u).2 * s.subWidth u)

/-- Lane codes of a port-lane mask of the UNIT's port. -/
def maskLanes (u mask : Nat) : List Nat :=
  ((List.range 8).filter fun l => mask / 2 ^ l % 2 = 1).map (laneCode (portOfUnit u).1)

/-- Number of lanes in a mask. -/
def popCount (mask : Nat) : Nat := ((List.range 8).filter fun l => mask / 2 ^ l % 2 = 1).length

/-- Lanes of a sub-port that are not declared failed, as port lanes (R290). -/
def State.healthy (s : State) (u : Nat) : Nat :=
  ((List.range 8).filter fun l => s.fullMask u / 2 ^ l % 2 = 1 ∧ !(s.lane (laneCode (portOfUnit u).1 l)).failed).foldl
    (fun a l => a + 2 ^ l) 0

/-- Rate of a sub-port on a lane set (R291). -/
def State.rateOn (s : State) (u mask : Nat) : Nat :=
  popCount mask * laneMbs (modeShape (portOfUnit u).1 (s.portMode (portOfUnit u).1)).2.2

/-- Whether lanes other than MGT may run (R276, R294). -/
def State.lanesRun (s : State) : Bool := s.pwr.mgcOn && !s.pwr.devReset && !s.pwr.halted

/-- Whether the fabric runs, so that raw lanes may (R279). -/
def State.fabricRuns (s : State) : Bool := s.cfg.startPhase != 0

/-- Whether a lane may be brought up now: an optical lane needs its engine lit (R285). -/
def State.laneMayRun (s : State) (c : Nat) : Bool :=
  s.lanesRun && laneExists s c && (!isOptical c || (s.lan.engines.getD ((c - 0x200) / 8) {}).lightOk)

/-! ### The ladder (R280 to R282) -/

/-- Whether a lane is used raw. -/
def State.laneRaw (s : State) (c : Nat) : Bool := !isMgt c && rawMode (portOf c).1 (s.portMode (portOf c).1)

/-- The rate class in which a port runs (R262, R286, R287); off and raw lanes have none. -/
def rateClass (s : State) (k : Nat) : Option Nat :=
  let fec := s.num (portIdx k) 3
  if 30 ≤ k then some 5
  else match (modeShape k (s.portMode k)).2.2 with
  | 6 => some 4
  | 5 => some 3
  | 2 => some (if k < 14 ∧ s.portMode k = 8 then 2 else if fec = 0 then 1 else 2)
  | 1 => some 0
  | _ => none

/-- The bolt whose static region a raw lane's port lies in (R279, R300). -/
def rawBolt (c : Nat) : Nat := if isFast c then [0, 1, 1, 2, 2, 3].getD (c / 8) 0 else (c - 0x100) / 16

/-- The raw lanes of a bolt, the fast ones first. -/
def rawLanesOf (b : Nat) : List Nat :=
  ((List.range 48) ++ (List.range 64).map (0x100 + ·)).filter fun c => rawBolt c = b

/-- Whether a lane supports a rung (R280). -/
def supports (s : State) (c r : Nat) : Bool :=
  let raw := s.laneRaw c
  if isFast c then [1, 2, 5, 6].contains r || (raw && r == 7)
  else if isGeneral c then r ≤ 2 || (raw && r == 3) || (raw && r == 4 && featureLevel s.unit == 2)
  else r == 6

/-- Start rung (R280). -/
def startRung (c : Nat) : Nat := if isFast c then 1 else if isGeneral c then 0 else 6

/-- The rung whose rate a raw rate equals (R280). -/
def rungOfRate (kbs : Nat) : Option Nat := (List.range 8).find? fun r => rungKbs r = kbs

/-- Target rung (R280). -/
def targetRung (s : State) (c : Nat) : Option Nat :=
  if isMgt c then some 0
  else if s.laneRaw c then (rungOfRate (s.num (laneIdx c) 0x0C)).filter (supports s c)
  else some (modeShape (portOf c).1 (s.portMode (portOf c).1)).2.2

/-- MAX_RUNG that a lane sends: the highest rung it supports below its ceiling (R281, R282, R135). -/
def maxRung (s : State) (c : Nat) : Nat :=
  (((List.range 8).filter fun r => supports s c r && r < (s.lane c).ceiling).getLast?).getD (startRung c)

/-- The rung a lane proposes (R282): none where it sends DONE. -/
def nextRung (s : State) (c : Nat) : Option Nat :=
  let x := s.lane c
  (List.range 8).find? fun r => x.rung < r && supports s c r && r < x.ceiling && r ≤ x.partnerMax
    && r ≤ x.partnerTarget && r ≤ (targetRung s c).getD 0

/-- The way a lane comes up (R280, R283, R284): 0 ladder, 1 standard, 2 fixed. -/
def laneBringupKind (s : State) (c : Nat) : Nat :=
  if isMgt c ∨ (s.laneRaw c ∧ (targetRung s c).isNone) then 2 else s.bringup (portOf c).1

/-- Start bring-up of a lane, or hold it where it may not run (R276). -/
def startLane (s : State) (c : Nat) : State :=
  if !s.laneMayRun c then s.setLane c fun x => { x with state := laneHeld, phase := 0, rung := 255, shadow := false }
  else
    let ladder := decide (laneBringupKind s c = 0)
    s.setLane c fun _ => { state := laneBringup, rung := if ladder then startRung c else 255, phase := if ladder then 1 else 0 }

/-- Width of a raw port (R279). -/
def rawWidth (s : State) (c : Nat) : Nat :=
  let rate := s.num (laneIdx c) 0x0C
  if isFast c then (if rate ≤ 56250000 then 128 else 256) else if rate ≤ 16000000 then 40 else 80

/-- RAWL_RX_LOCK (R279): CDR lock of a raw lane. -/
def rawLock (s : State) (c : Nat) : Bool := s.laneRaw c && (s.lane c).state == laneLocked

/-- Hold a lane (R275, R276). -/
def holdLane (s : State) (c : Nat) : State := s.setLane c fun _ => {}

/-- Line rate of a lane in kb/s; 0 while held (R298). -/
def lineKbs (s : State) (c : Nat) : Nat :=
  let x := s.lane c
  if x.state = laneHeld then 0
  else if x.rung ≠ 255 then rungKbs x.rung
  else if s.laneRaw c then s.num (laneIdx c) 0x0C
  else rungKbs ((targetRung s c).getD 0)

/-! ### Sub-ports -/

/-- The timed RESTORE in progress ends with a status, or with none (R288, R293, R294). -/
def endRestore (s : State) (u : Nat) (status : Option Nat) : State :=
  let c := (s.sub u).cmd
  let s := s.setSub u fun x => { x with cmd := none, restoring := false, agreed := none }
  match status with
  | some st => completeCmd s c st
  | none => s

/-- Clear the shadow-ready lanes of a sub-port (R293). -/
def clearShadow (s : State) (u : Nat) : State :=
  let s := s.put (subIdx u) 5 0
  if u < 112 then s.clrBits (portIdx (portOfUnit u).1) 6 (s.fullMask u) else s

/-- A sub-port goes DOWN (R298, R299). -/
def goDown (s : State) (u cause : Nat) : State :=
  let st := s.subState u
  if st = spOff ∨ st = spDown then s
  else
    let s := clearShadow s u
    let s := ((s.put (subIdx u) 1 spDown).put (subIdx u) 2 0).put (subIdx u) 3 0
    (s.count (subIdx u) 0x0D 32 1).raise 0x211 u (be 1 cause)

/-- Bring-up starts on every lane of a sub-port; it is in BRINGUP where a lane runs. -/
def startSub (s : State) (u : Nat) : State :=
  let lanes := maskLanes u (s.fullMask u)
  let s := lanes.foldl startLane s
  if lanes.any fun c => (s.lane c).state = laneBringup then
    (s.put (subIdx u) 1 spBringup).setSub u fun x => { x with retryAt := s.now }
  else s

/-- Whether a sub-port may re-form (R290). -/
def mayReform (s : State) (u : Nat) : Bool :=
  let k := (portOfUnit u).1
  u < 112 && 4 ≤ s.subWidth u && s.flag (portIdx k) 4 && s.bringup k == 0 && 2 ≤ popCount (s.healthy u)

/-- The widest lane set of R291 within healthy port lanes. -/
def newSet (s : State) (u healthy : Nat) : Option Nat :=
  let w := s.subWidth u
  let base := (portOfUnit u).2 * w
  let sets := if w = 8 then [0x0F, 0xF0, 0x03, 0x0C, 0x30, 0xC0] else if w = 4 then [0x03, 0x0C] else []
  (sets.map (· * 2 ^ base)).find? fun m => m &&& healthy = m

/-- A sub-port goes UP (R299). -/
def goUp (s : State) (u : Nat) : State :=
  let m := s.fullMask u
  let s := ((s.put (subIdx u) 1 spUp).put (subIdx u) 2 (s.rateOn u m)).put (subIdx u) 3 m
  s.raise 0x210 u (be 4 (s.rateOn u m) ++ be 1 m)

/-- A sub-port is UP at reduced width: NARROW, event 212h (R290, R292). -/
def goNarrow (s : State) (u old set dur : Nat) : State :=
  let s := ((s.put (subIdx u) 1 spNarrow).put (subIdx u) 2 (s.rateOn u set)).put (subIdx u) 3 set
  let s := s.count (subIdx u) 0x0E 32 1
  let s := s.setSub u fun x => { x with agreed := none }
  s.raise 0x212 u (be 1 old ++ be 1 set ++ be 4 dur)

/-- A sub-port whose lanes have all settled (R292): UP, or at the width of R291, or left in BRINGUP. -/
def checkSub (s : State) (u : Nat) : State :=
  if s.subState u ≠ spBringup then s
  else
    let lanes := maskLanes u (s.fullMask u)
    if lanes.any fun c => !(s.lane c).failed ∧ (s.lane c).state ≠ laneLocked then s
    else if lanes.all fun c => !(s.lane c).failed then goUp s u
    else if mayReform s u then
      match newSet s u (s.healthy u) with
      | some m => goNarrow s u (s.fullMask u) m 0
      | none => s
    else s

/-- The sub-port of a lane looks again. -/
def checkLane (s : State) (c : Nat) : State :=
  match s.unitOfLane c with
  | some u => checkSub s u
  | none => s

/-- A lane reaches its required rate: LOCKED (R276); in shadow its second of lock begins (R293). -/
def lockLane (s : State) (c : Nat) : State :=
  let s := s.setLane c fun x => { x with state := laneLocked, phase := 0, shadowAt := s.now }
  if (s.lane c).shadow then s else checkLane s c

/-- Both ends have sent and received DONE (R282): settled at the target rung or below it (R292). -/
def settle (s : State) (c : Nat) : State :=
  if some (s.lane c).rung = targetRung s c then lockLane s c
  else if (s.lane c).shadow then s.setLane c fun x => { x with phase := 0 }
  else checkLane (s.setLane c fun x => { x with phase := 0, failed := true }) c

/-- Propose the next rung, or send DONE (R282 step 2). -/
def propose (s : State) (c : Nat) : State :=
  match nextRung s c with
  | some r => s.setLane c fun x => { x with phase := 1, proposed := some r }
  | none =>
    let s := s.setLane c fun x => { x with phase := 5, proposed := none }
    if (s.lane c).partnerDone then settle s c else s

/-- Ten milliseconds, the limit of a rung step and of an unlocked lane (R276, R282). -/
def tenMs : Nat := 10000000

/-- MGT_A and MGT_B start at 20 ms (R297). -/
def mgtInService (s : State) : Bool := s.pwr.mgcOn && 20000000 ≤ s.now

/-- A lane gains lock (R276, R277, R282). -/
def gainLock (s : State) (c : Nat) : State :=
  let x := s.lane c
  if isMgt c ∧ x.state = laneHeld then (if mgtInService s then lockLane s c else s)
  else if x.state = laneUnlocked then
    let s := s.setLane c fun x => { x with state := laneLocked }
    s.raiseAtMost 16 0x200 c (fun _ => be 1 0)
  else if x.state ≠ laneBringup then s
  else if laneBringupKind s c = 0 then
    if x.phase = 1 ∧ x.proposed = none then propose s c
    else if (x.phase = 3 ∨ x.phase = 4) ∧ s.now ≤ x.stepAt + tenMs then
      let r := x.proposed.getD x.rung
      let s := s.setLane c fun x => { x with rung := r, attempts := 0, proposed := none }
      propose (s.raise 0x201 c (be 1 r ++ be 1 x.partnerMax)) c
    else s
  else if laneBringupKind s c = 2 then lockLane s c
  else s

/-- A lane that is no longer shadow-ready (R293). -/
def loseShadow (s : State) (c : Nat) : State :=
  match s.unitOfLane c with
  | some u =>
    if u < 112 ∧ s.subState u = spNarrow ∧ s.subLanes u / 2 ^ (portOf c).2 % 2 = 0 then
      (s.clrBits (portIdx (portOf c).1) 6 (2 ^ (portOf c).2)).put (subIdx u) 5 0
    else s
  | none => s

/-- A lane loses lock (R276): UNLOCKED, event 200h at most 16 times per second, LOCK_LOSSES. -/
def loseLock (s : State) (c : Nat) : State :=
  if (s.lane c).state ≠ laneLocked then s
  else
    let s := s.setLane c fun x => { x with state := laneUnlocked, unlockedAt := s.now }
    let s := if isFast c || isGeneral c then s.count (laneIdx c) 0x0D 32 1 else s
    loseShadow (s.raiseAtMost 16 0x200 c (fun _ => be 1 1)) c

/-- A step has failed after 10 ms (R282 step 5): back to rung r, where the lane waits for lock again; a rung that failed
LADDER_ATTEMPTS times is the ceiling. -/
def failStep (s : State) (c : Nat) : State :=
  let x := s.lane c
  let r := x.proposed.getD x.rung
  let n := x.attempts + 1
  let s := s.setLane c fun x => { x with attempts := n, proposed := none, phase := 1, blockLock := false, good := 0 }
  if s.num 0x050000 1 ≤ n then
    (s.setLane c fun x => { x with ceiling := r, attempts := 0 }).raise 0x202 c (be 1 r ++ be 1 n)
  else s

/-! ### Block lock (R277 to R279) -/

/-- Whether a lane's lock is block lock (R277): in every ladder exchange, and at 10.3125 and 25.78125 Gb/s without FEC. Other
lanes align on markers (R278) or lock their CDR alone (R279). -/
def usesBlocks (s : State) (c : Nat) : Bool :=
  !isMgt c && (((s.lane c).state == laneBringup && laneBringupKind s c == 0)
    || rateClass s (portOf c).1 == some 0 || rateClass s (portOf c).1 == some 1)

/-- A sync header is valid when it is 01b or 10b (R277). -/
def blockValid (b : LineBlock) : Bool := b.header == 1 || b.header == 2

/-- One block at a receiver (R277): 64 consecutive valid headers gain lock, an invalid one in the search moves to the next bit
alignment, 16 invalid of a window of 64 lose it. -/
def Lane.block (x : Lane) (b : LineBlock) : Lane :=
  if !x.blockLock then
    if !blockValid b then { x with good := 0, align := (x.align + 1) % 66 }
    else if x.good + 1 = 64 then { x with blockLock := true, good := 0, window := 0, bad := 0 }
    else { x with good := x.good + 1 }
  else
    let bad := x.bad + (if blockValid b then 0 else 1)
    if bad = 16 then { x with blockLock := false, good := 0, window := 0, bad := 0 }
    else if x.window + 1 = 64 then { x with window := 0, bad := 0 }
    else { x with window := x.window + 1, bad := bad }

/-- A block arrives: lock is gained or lost, and BAD_HEADERS counts invalid headers of a locked lane and low-power-idle codes
(R275; which invalid headers count is not said: DESIGN CHOICE, log entry 28). -/
def takeBlock (s : State) (c : Nat) (b : LineBlock) : State :=
  let was := (s.lane c).blockLock
  let s := if (isFast c || isGeneral c) && ((was && !blockValid b) || b.lpi) then s.count (laneIdx c) 0x0E 64 1 else s
  let s := s.setLane c fun x => x.block b
  let is := (s.lane c).blockLock
  if is && !was then gainLock s c else if was && !is then loseLock s c else s

/-- A run of blocks arrives at a lane in service; a lane that does not use block lock reports its lock alone. -/
def takeBlocks (s : State) (c : Nat) (bs : List LineBlock) : State :=
  if (s.lane c).state = laneHeld then s else bs.foldl (fun s b => takeBlock s c b) s

/-! ### Ladder words (R281) -/

/-- CRC-8, polynomial 07h, initial value 00h (R281). -/
def crc8 (b : List Byte) : Nat :=
  b.foldl (fun a x => (List.range 8).foldl (fun a _ => if 128 ≤ a then (a * 2 % 256) ^^^ 7 else a * 2) (a ^^^ x.toNat)) 0

/-- KIND of a valid ladder word. -/
def ladderKind (w : Nat) : Option Nat :=
  if bits w 63 56 = 0x6C ∧ bits w 55 52 = 1 ∧ bits w 51 48 ≤ 5 ∧ crc8 (be 7 (w / 256)) = bits w 7 0 then some (bits w 51 48)
  else none

/-- A ladder word (R281). -/
def ladderWord (kind maxR target rung mask seq : Nat) : Nat :=
  let w := (((((0x6C * 16 + 1) * 16 + kind) * 256 + maxR) * 256 + target) * 256 + rung) * 65536 + mask * 256 + seq
  w * 256 + crc8 (be 7 w)

/-- The word with number `seq` that a lane sends (R281, R282, R290, R293): none outside an exchange. -/
def laneSends (s : State) (c seq : Nat) : Option Nat :=
  let x := s.lane c
  let word := fun kind rung mask => some (ladderWord kind (maxRung s c) ((targetRung s c).getD 0) rung mask seq)
  let mask := fun u => s.healthy u
  if x.state = laneBringup ∧ laneBringupKind s c = 0 then
    match x.phase with
    | 1 => word 0 (x.proposed.getD x.rung) 0
    | 2 => word 1 (x.proposed.getD x.rung) 0
    | 3 => word 2 x.rung 0
    | 5 => word 3 x.rung 0
    | _ => none
  else match s.unitOfLane c with
  | some u =>
    if s.subState u = spReforming then word (if (s.sub u).agreed.isSome then 2 else 4) x.rung (mask u)
    else if (s.sub u).restoring then word (if (s.sub u).agreed.isSome then 2 else 5) x.rung (mask u)
    else none
  | none => none

/-- An OFFER (R282 step 3). -/
def takeOffer (s : State) (c w : Nat) : State :=
  let s := s.setLane c fun x => { x with partnerMax := bits w 47 40, partnerTarget := bits w 39 32 }
  let x := s.lane c
  let r := bits w 31 24
  if x.state ≠ laneBringup ∨ x.phase ≠ 1 ∨ x.proposed = none then s
  else
    let s := propose s c
    match (s.lane c).proposed with
    | none => s
    | some p =>
      if r = p then s.setLane c fun x => { x with phase := 2 }
      else if x.rung < r ∧ r < p ∧ supports s c r then s.setLane c fun x => { x with phase := 2, proposed := some r }
      else s

/-- An ACCEPT of the rung proposed here (R282 step 4): the SWITCH words begin. -/
def takeAccept (s : State) (c w : Nat) : State :=
  let x := s.lane c
  if x.state = laneBringup ∧ (x.phase = 1 ∨ x.phase = 2) ∧ x.proposed = some (bits w 31 24) then
    s.setLane c fun x => { x with phase := 3, stepAt := s.now }
  else s

/-- A SWITCH word: after SEQ 0 the rate changes, and the receiver seeks lock anew (R282 steps 4 and 5). -/
def takeSwitch (s : State) (c w : Nat) : State :=
  if (s.lane c).phase = 3 ∧ bits w 15 8 = 0 then
    s.setLane c fun x => { x with phase := 4, stepAt := s.now, blockLock := false, good := 0 }
  else s

/-- A DONE (R282 step 6). -/
def takeDone (s : State) (c : Nat) : State :=
  let s := s.setLane c fun x => { x with partnerDone := true }
  if (s.lane c).phase = 5 then settle s c else s

/-- A sub-port begins to re-form (R290). -/
def beginReform (s : State) (u : Nat) (partner : Option Nat) : State :=
  let both := partner.map fun m => m &&& s.healthy u
  let s := s.setSub u fun x => { x with since := s.now, oldSet := s.subLanes u, agreed := both, restoring := false }
  s.put (subIdx u) 1 spReforming

/-- A REFORM word (R290): the answer to a re-form begun here, or the partner's declaration. Both ends take the AND of the two masks
and send their SWITCH words. -/
def takeReform (s : State) (u mask : Nat) : State :=
  if s.subState u = spReforming then
    let both := mask &&& s.healthy u
    if (s.sub u).agreed.isSome then s else s.setSub u fun x => { x with agreed := some both }
  else if (s.subState u = spUp ∨ s.subState u = spNarrow) ∧ mayReform s u then
    beginReform (endRestore s u (some stBusy)) u (some mask)
  else s

/-- A RESTORE word (R293): the answer to a restore begun here, or the partner's request, answered while SHADOW_READY. -/
def takeRestore (s : State) (u mask : Nat) : State :=
  if s.subState u ≠ spNarrow then s
  else if (s.sub u).restoring then s.setSub u fun x => { x with agreed := some mask }
  else if s.flag (subIdx u) 5 then
    s.setSub u fun x => { x with restoring := true, agreed := some mask, since := s.now }
  else s

/-- A ladder word arrives on a lane (R281); a word that is not valid is ignored. -/
def takeLadder (s : State) (c w : Nat) : State :=
  match ladderKind w with
  | none => s
  | some kind =>
    let u := s.unitOfLane c
    let s := match u with
      | some u => s.put (subIdx u) 0x0F w
      | none => s
    match kind with
    | 0 => takeOffer s c w
    | 1 => takeAccept s c w
    | 2 => takeSwitch s c w
    | 3 => takeDone s c
    | 4 => match u with
      | some u => takeReform s u (bits w 23 16)
      | none => s
    | _ => match u with
      | some u => takeRestore s u (bits w 23 16)
      | none => s

/-! ### Failures, re-forms and restores (R289 to R294) -/

/-- A failed lane in use (R290): the sub-port re-forms, or goes DOWN with cause 0h and restarts bring-up. -/
def subFails (s : State) (u : Nat) : State :=
  if mayReform s u then beginReform s u none else startSub (goDown s u 0) u

/-- A lane of a sub-port is declared failed (R289, R290, R294). -/
def failLane (s : State) (c cause : Nat) : State :=
  if !isOptical c ∧ (cause = 0 ∨ cause = 2) then s
  else match s.unitOfLane c with
  | none => s
  | some u =>
    let st := s.subState u
    if (s.lane c).failed ∨ ¬(st = spUp ∨ st = spNarrow ∨ st = spReforming) then s
    else if s.subLanes u / 2 ^ (portOf c).2 % 2 = 0 then loseShadow (s.setLane c fun x => { x with failed := true }) c
    else
      let s := if isOptical c then s.raise 0x221 c (be 1 cause) else s
      let s := if cause = 3 then s.count (subIdx u) 0x0C 64 8 else s
      let s := (loseLock s c).setLane c fun x => { x with failed := true }
      if st = spReforming then s
      else
        let s := if (s.sub u).restoring then endRestore s u (some stBusy) else s
        subFails s u

/-- The PCS restarts on the new lane set (R290, R291), within 25 µs of the failure; a lane that failed after the SWITCH starts
anew (R294). -/
def completeReform (s : State) (u dur : Nat) : State :=
  match (s.sub u).agreed with
  | none => s
  | some m =>
    if s.subState u ≠ spReforming ∨ 25000 < dur then s
    else
      let s := s.waitUntil ((s.sub u).since + dur)
      match newSet s u m with
      | none => startSub (goDown s u 0) u
      | some set =>
        let s := (s.count (subIdx u) 8 64 (s.freeValue 16)).draw
        let s := goNarrow s u (s.sub u).oldSet set dur
        if (maskLanes u set).any fun c => (s.lane c).failed then subFails s u else s

/-- RESTORE (R293): BUSY while SHADOW_READY is clear; when it executes the exchange begins. One that executes while another's
exchange runs is not applied (DESIGN CHOICE, log entry 28). -/
def restoreRule (u : Nat) : Rule :=
  { base := State.rulingNext, check := noCheck, pick := noPick,
    judge := fun s _ v => if valNum v = 1 ∧ !s.flag (subIdx u) 5 then refuse s stBusy else none,
    apply := fun s atPick _ v =>
      if valNum v = 0 then { s := s }
      else if !s.flag (subIdx u) 5 ∨ s.subState u ≠ spNarrow ∨ (s.sub u).restoring then { s := s, status := stBusy }
      else
        let s := s.setSub u fun x => { x with restoring := true, since := s.now, agreed := none, cmd := none }
        { s := s, later := atPick } }

/-- Both ends have switched (R293): UP at full width, event 214h. -/
def completeRestore (s : State) (u : Nat) : State :=
  if !(s.sub u).restoring ∨ (s.sub u).agreed = none then s
  else
    let m := s.fullMask u
    let s := clearShadow s u
    let s := (maskLanes u m).foldl (fun s c => s.setLane c fun x => { x with shadow := false, failed := false }) s
    let s := ((s.put (subIdx u) 1 spUp).put (subIdx u) 2 (s.rateOn u m)).put (subIdx u) 3 m
    let s := s.raise 0x214 u (be 1 m ++ be 8 s.rulingPick)
    endRestore s u (some stOk)

/-- A lane of a NARROW sub-port that is not in use is shadow-ready (R293); SHADOW_READY when all of them are. -/
def shadowReady (s : State) (c : Nat) : State :=
  match s.unitOfLane c with
  | none => s
  | some u =>
    let x := s.lane c
    let l := (portOf c).2
    if s.subState u ≠ spNarrow ∨ s.subLanes u / 2 ^ l % 2 = 1 ∨ !x.shadow ∨ x.state ≠ laneLocked then s
    else
      let s := s.waitUntil (x.shadowAt + second)
      let s := s.setLane c fun x => { x with failed := false, shadow := false }
      let s := s.setBits (portIdx (portOf c).1) 6 (2 ^ l)
      let ready := s.num (portIdx (portOf c).1) 6 ||| s.subLanes u
      if ready &&& s.fullMask u = s.fullMask u ∧ !s.flag (subIdx u) 5 then
        (s.put (subIdx u) 5 1).raise 0x213 u (be 1 (s.num (portIdx (portOf c).1) 6 &&& s.fullMask u))
      else s

/-- A failed or unused lane of a NARROW sub-port retries ladder bring-up in shadow at the rung it runs (R293), once a second. -/
def shadowRetry (s : State) (c : Nat) : State :=
  match s.unitOfLane c with
  | none => s
  | some u =>
    if s.subState u ≠ spNarrow ∨ s.subLanes u / 2 ^ (portOf c).2 % 2 = 1
        ∨ s.num (portIdx (portOf c).1) 6 / 2 ^ (portOf c).2 % 2 = 1 then s
    else
      let x := s.lane c
      let s := if x.shadow then s.waitUntil (x.stepAt + second) else s
      let s := startLane s c
      s.setLane c fun y =>
        { y with
          shadow := true
          failed := x.failed
          stepAt := s.now
          rung := if x.rung = 255 ∨ y.rung = 255 then y.rung else x.rung }

/-! ### Ports (R286 to R288) -/

/-- MODE, BRINGUP and FEC values a port takes (R280, R283, R286, R287). -/
def portValueOk (s : State) (k sub v : Nat) : Bool :=
  match sub with
  | 1 => if k < 6 then v ≤ 11 else if k < 14 then v ≤ 4 else v ≤ 3
  | 2 => v ≤ 2 && !(v == 1 && 6 ≤ k && k < 14)
      && !(v == 0 && rawMode k (s.portMode k)
        && (List.range (portLanes k)).any fun l => (targetRung s (laneCode k l)).isNone)
  | _ => v ≤ 1

/-- Take every sub-port of a port down and hold its lanes (R288, R294). -/
def stopPort (s : State) (k cause : Nat) (status : Option Nat) : State :=
  let s := (List.range (modeShape k (s.portMode k)).1).foldl (fun s i =>
    goDown (if (s.sub (unitOf k i)).restoring then endRestore s (unitOf k i) status else s) (unitOf k i) cause) s
  (List.range (portLanes k)).foldl (fun s l => holdLane s (laneCode k l)) s

/-- Start the lanes of a port in its mode; raw lanes only while the fabric runs (R276, R279). -/
def startPort (s : State) (k : Nat) : State :=
  let mode := s.portMode k
  if mode = 0 then s
  else if rawMode k mode then
    if s.fabricRuns then (List.range (portLanes k)).foldl (fun s l => startLane s (laneCode k l)) s else s
  else (List.range (modeShape k mode).1).foldl (fun s i => startSub s (unitOf k i)) s

/-- Sub-ports that the port's mode does not have are OFF. -/
def clearSubs (s : State) (k : Nat) : State :=
  (List.range (portLanes k)).foldl (fun s i =>
    if i < (modeShape k (s.portMode k)).1 then s else s.put (subIdx (unitOf k i)) 1 spOff) s

/-- MODE, BRINGUP and FEC (R288). -/
def portModeRule (k sub : Nat) : Rule :=
  { base := State.rulingNext, judge := noJudge, pick := noPick,
    check := fun s _ v => if portValueOk s k sub (valNum v) then none else some (stTypeMismatch, 0),
    apply := fun s _ _ v =>
      let s := stopPort s k 2 none
      { s := startPort (clearSubs (s.write (ent (portIdx k) sub) v) k) k } }

/-- Taps of an electrical lane (R295): magnitudes add up to at most 63; BUSY under standard bring-up. -/
def tapRule (c sub : Nat) : Rule :=
  { base := State.rulingNext, pick := noPick,
    check := fun s _ v =>
      let mag := fun i => if i = sub then (valInt 8 v).natAbs else (signed 8 (s.num (laneIdx c) i)).natAbs
      if mag 5 + mag 6 + mag 7 + mag 8 ≤ 63 then none else some (stTypeMismatch, 0),
    judge := fun s _ _ => if (s.lane c).state ≠ laneHeld ∧ laneBringupKind s c = 1 then refuse s stBusy else none,
    apply := fun s _ _ v => { s := s.write (ent (laneIdx c) sub) v } }

/-- RAW_RATE (R298, R135). -/
def rawRateRule (c : Nat) : Rule :=
  { plainRule (ent (laneIdx c) 0x0C) with
    check := fun s _ v =>
      let n := valNum v
      let ok := if isFast c then 10312500 ≤ n && n ≤ 112500000
        else 1250000 ≤ n && n ≤ (if featureLevel s.unit = 2 then 32750000 else 28125000)
      if ok then none else some (stTypeMismatch, 0) }

/-- MODE or AUTONEG of a management port takes its link down (R296). -/
def mgtModeRule (m sub : Nat) : Rule :=
  { base := State.rulingNext, check := noCheck, judge := noJudge, pick := noPick,
    apply := fun s _ _ v =>
      let s := s.write (ent (0x050600 + m) sub) v
      { s := if s.num (0x050600 + m) 3 = 1 then
          let s := (s.put (0x050600 + m) 3 0).put (subIdx (176 + m)) 1 spDown
          (s.count (subIdx (176 + m)) 0x0D 32 1).raise 0x230 m (be 1 0 ++ be 2 (s.num (0x050600 + m) 4))
        else s } }

/-- Reset, halt: every lane but MGT_A and MGT_B is held and the sub-ports go DOWN (R276, R294). -/
def stopLanes (s : State) (cause status : Nat) : State :=
  (List.range 30).foldl (fun s k => stopPort s k cause (some status)) s

/-- Raw lanes start bring-up at S, or are held while the fabric is unconfigured (R279). -/
def rawLanes (s : State) (run : Bool) : State :=
  (List.range 30).foldl (fun s k =>
    if rawMode k (s.portMode k) then
      (List.range (portLanes k)).foldl (fun s l => if run then startLane s (laneCode k l) else holdLane s (laneCode k l)) s
    else s) s

/-! ### Optical engines (R285) -/

/-- Change engine `e`. -/
def State.setOe (s : State) (e : Nat) (f : OptEngine → OptEngine) : State :=
  { s with lan := { s.lan with engines := lmod s.lan.engines e f } }

/-- Show the state of engine `e` (R298). -/
def showEngine (s : State) (e : Nat) : State :=
  let x := s.lan.engines.getD e {}
  s.put (0x050300 + e) 1 (if x.faults ≠ 0 then 3 else if x.lightOk then 2 else 1)

/-- Whether the engine is fitted (R5). -/
def engineFitted (s : State) (e : Nat) : Bool := oeFitted s.unit / 2 ^ e % 2 == 1

/-- A lane group's slot has come, so that its lanes may start (R297). -/
def groupStarted (s : State) (k : Nat) : Bool := s.lan.groupsDone.contains k

/-! ### Commands -/

/-- BLOCK_LOCK_GAIN (R276 to R279, R282): the blocks of a lane with block lock, or the lock of another lane. -/
def execBlockLockGain (l : Nat) (blocks : List LineBlock) (s : State) : Out :=
  .next (if !laneExists s l then s else if usesBlocks s l then takeBlocks s l blocks else gainLock s l)

/-- BLOCK_LOCK_LOSS (R276 to R279): the blocks of a lane with block lock, or the loss of another lane's lock. -/
def execBlockLockLoss (l : Nat) (blocks : List LineBlock) (s : State) : Out :=
  .next (if !laneExists s l then s else if usesBlocks s l then takeBlocks s l blocks else loseLock s l)

/-- LANE_UNLOCK_TIMEOUT (R276): 10 ms without lock restart bring-up. -/
def execLaneUnlockTimeout (l : Nat) (s : State) : Out :=
  .next (if laneExists s l ∧ (s.lane l).state = laneUnlocked then
    let x := s.lane l
    let s := startLane (s.waitUntil (x.unlockedAt + tenMs)) l
    s.setLane l fun y => { y with failed := x.failed, shadow := x.shadow }
  else s)

/-- LADDER_WORD (R281, R282, R290, R293). -/
def execLadderWord (l : Nat) (w : BitVec 64) (s : State) : Out :=
  .next (if laneExists s l ∧ (s.lane l).state ≠ laneHeld then takeLadder s l w.toNat else s)

/-- RUNG_STEP_TIMEOUT (R282). -/
def execRungStepTimeout (l : Nat) (s : State) : Out :=
  .next (if (s.lane l).phase = 3 ∨ (s.lane l).phase = 4 then failStep (s.waitUntil ((s.lane l).stepAt + tenMs)) l else s)

/-- A tap magnitude that link training leaves: free within what is left of the sum (R295; log entry 9). -/
def trainTap (s : State) (l sub left : Nat) : State × Nat :=
  let f := s.freeValue 7
  let m := f / 2 % (left + 1)
  ((s.put (laneIdx l) sub (wrap 8 (if f % 2 = 0 then (m : Int) else -(m : Int)))).draw, left - m)

/-- STANDARD_BRINGUP_DONE (R283): event 203h; training sets the taps. -/
def execStandardBringupDone (l : Nat) (result : Fin 3) (s : State) : Out :=
  .next (if (isFast l || isGeneral l) && (s.lane l).state == laneBringup && laneBringupKind s l == 1 then
    if result = 0 then
      let a := trainTap s l 5 63
      let b := trainTap a.1 l 6 a.2
      let c := trainTap b.1 l 7 b.2
      let d := trainTap c.1 l 8 c.2
      lockLane (d.1.raise 0x203 l (be 1 0)) l
    else s.raise 0x203 l (be 1 result)
  else s)

/-- LASER_LIT (R285): lit after 100 ms at or above LASER_MIN; the lanes of its port start bring-up once their start-up slot
has come. -/
def execLaserLit (e : Fin 8) (power : Int) (s : State) : Out :=
  .next (
    let s := if engineFitted s e then s.put (0x050300 + e) 2 (wrap 16 power) else s
    if engineFitted s e ∧ !(s.lan.engines.getD e {}).lightOk ∧ signed 16 (s.num (0x050300 + e) 8) ≤ power then
      let s := showEngine (s.setOe e fun x => { x with lightOk := true }) e
      let s := s.raise 0x220 e (be 1 0 ++ be 2 (wrap 16 power))
      if groupStarted s (6 + e) then startPort s (6 + e) else s
    else s)

/-- LASER_DARK (R285, R290): every lane of the engine is held and its sub-ports go DOWN with cause 4h. -/
def execLaserDark (e : Fin 8) (power : Int) (s : State) : Out :=
  .next (
    let s := if engineFitted s e then s.put (0x050300 + e) 2 (wrap 16 power) else s
    if (s.lan.engines.getD e {}).lightOk ∧ power < signed 16 (s.num (0x050300 + e) 8) then
      let s := showEngine (s.setOe e fun x => { x with lightOk := false }) e
      (stopPort s (6 + e) 4 (some stBusy)).raise 0x220 e (be 1 1 ++ be 2 (wrap 16 power))
    else s)

/-- ENGINE_FAULT (R285): state 3 on either fault, event 222h; the lanes keep running. The temperature fault lasts while the engine
is above 105 °C. -/
def execEngineFault (e : Fin 8) (cause : Fin 2) (enters : Bool) (temp : Int) (s : State) : Out :=
  .next (
    let has := (s.lan.engines.getD e {}).faults / 2 ^ cause.val % 2 == 1
    if engineFitted s e ∧ has ≠ enters ∧ (cause = 0 → (enters ↔ 1050 < temp)) then
      let s := s.setOe e fun x => { x with faults := x.faults ^^^ 2 ^ cause.val }
      let s := (showEngine s e).put (0x050300 + e) 6 (wrap 16 temp)
      s.raise 0x222 e (be 1 cause ++ be 2 (wrap 16 temp))
    else s)

/-- PORT_MODE (R286 to R288): sub 0 is MODE, 1 BRINGUP, 2 FEC. -/
def execPortMode (r : Req) (k : Fin 30) (sub : Fin 3) (v : Nat) (s : State) : Out :=
  .next (submit s r (ent (portIdx k) (sub + 1)) (.num v) (portModeRule k (sub + 1)))

/-- LANE_FAILURE (R289, R290, R294). -/
def execLaneFailure (l : Nat) (cause : Fin 4) (s : State) : Out :=
  .next (if laneExists s l then failLane s l cause else s)

/-- REFORM_COMPLETE (R290, R291). -/
def execReformComplete (sp : Fin 178) (dur : Nat) (s : State) : Out := .next (completeReform s sp dur)

/-- REFORM_PARTNER_TIMEOUT (R290): 10 µs without a REFORM word. -/
def execReformPartnerTimeout (sp : Fin 178) (s : State) : Out :=
  .next (if s.subState sp = spReforming ∧ (s.sub sp).agreed = none then
    startSub (goDown (s.waitUntil ((s.sub sp).since + 10000)) sp 1) sp
  else s)

/-- SHADOW_LANE_RETRY (R293). -/
def execShadowLaneRetry (l : Nat) (s : State) : Out := .next (if laneExists s l then shadowRetry s l else s)

/-- LANE_SHADOW_READY (R293). -/
def execLaneShadowReady (l : Nat) (s : State) : Out := .next (if laneExists s l then shadowReady s l else s)

/-- RESTORE (R293). -/
def execRestore (r : Req) (sp : Fin 178) (v : Nat) (s : State) : Out :=
  .next (submit s r (ent (subIdx sp) 4) (.num v) (restoreRule sp))

/-- RESTORE_COMPLETE (R293). -/
def execRestoreComplete (sp : Fin 178) (s : State) : Out := .next (completeRestore s sp)

/-- RESTORE_PARTNER_TIMEOUT (R293): the restore is not applied; event 010h reports BUSY. -/
def execRestorePartnerTimeout (sp : Fin 178) (s : State) : Out :=
  .next (if (s.sub sp).restoring ∧ (s.sub sp).agreed = none then
    endRestore (s.waitUntil ((s.sub sp).since + 10000)) sp (some stBusy)
  else s)

/-- Speeds of a management link: 1,000 Mb/s, or under SGMII what the PHY reports (R296). -/
def mgtSpeedOk (s : State) (m speed : Nat) : Bool :=
  speed == 1000 || (s.num (0x050600 + m) 1 == 1 && (speed == 10 || speed == 100))

/-- MGT_LINK_CHANGE (R296): event 230h. -/
def execMgtLinkChange (m : Fin 2) (up : Bool) (speed : Nat) (s : State) : Out :=
  .next (if up && !mgtSpeedOk s m speed then s else
    let link := if up then 1 else 0
    let i := subIdx (176 + m)
    let s := if !up ∧ s.num (0x050600 + m) 3 = 1 then s.count i 0x0D 32 1 else s
    let s := (s.put (0x050600 + m) 3 link).put (0x050600 + m) 4 speed
    let s := (s.put i 1 (if up then spUp else spDown)).put i 2 (if up then speed else 0)
    s.raise 0x230 m (be 1 link ++ be 2 speed))

/-- LANE_GROUP_START (R297): group i starts in its slot of 1 ms, once after each power-up or reset. -/
def execLaneGroupStart (i : Fin 30) (s : State) : Out :=
  .next (if s.lanesRun ∧ !groupStarted s i then
    let s := s.waitUntil (s.lan.groupsAt + i * 1000000)
    let s := { s with lan := { s.lan with groupsDone := s.lan.groupsDone ++ [i.val] } }
    if rawMode i (s.portMode i) then s else startPort s i
  else s)

/-- BRINGUP_RETRY (R292): every 1 s. -/
def execBringupRetry (sp : Fin 178) (s : State) : Out :=
  .next (if s.subState sp = spBringup ∧ (maskLanes sp (s.fullMask sp)).any fun c => (s.lane c).failed then
    startSub (s.waitUntil ((s.sub sp).retryAt + second)) sp
  else s)

end Sys2Proof.Machine
end

