-- ==== Sys2Proof/Machine/Seams.lean ====
section
/-! DEFINITION. Seams between bolts: check wires, mending, narrowing, prediction, retraining and reinstatement (R173 to R193). -/

namespace Sys2Proof.Machine

/-- Channel states (R192). -/
def chIdle : Nat := 0
def chTraining : Nat := 1
def chFull : Nat := 2
def chMending : Nat := 3
def chNarrowing : Nat := 4
def chNarrowed : Nat := 5
def chFailed : Nat := 6

/-- Index of a channel record (R192). -/
def chIdx (c : Nat) : Nat := 0x0D0100 + c

/-- Channel `c`. -/
def State.chan (s : State) (c : Nat) : Channel := tgetD s.seams.chan c {}

/-- Change channel `c`. -/
def State.setChan (s : State) (c : Nat) (f : Channel → Channel) : State :=
  { s with seams := { s.seams with chan := tput s.seams.chan c (f (s.chan c)) } }

/-- State of channel `c`. -/
def State.chState (s : State) (c : Nat) : Nat := s.num (chIdx c) 1

/-- The 33 wires of group `g`: 32 user wires and the darning wire (R174, R183). -/
def groupWires (g : Nat) : List Nat := (List.range 32).map (32 * g + ·) ++ [512 + g]

/-- The group of a user or darning wire. -/
def groupOf (w : Nat) : Nat := if w < 512 then w / 32 else w - 512

/-- The other direction of a channel pair (R174). -/
def opposite (c : Nat) : Nat := if c / 32 % 2 = 0 then c + 32 else c - 32

/-- The 66 wires that check wire `k` covers (R174). -/
def covered (k : Nat) : List Nat := groupWires (2 * k) ++ groupWires (2 * k + 1)

/-- Whether a darning wire replaces another wire (R180, R182). -/
def Channel.inUse (x : Channel) (w : Nat) : Bool := x.use.any fun p => p.2 == w

/-- Whether a wire is free: healthy, and bearing neither another wire's signal nor a moved duty. -/
def Channel.free (x : Channel) (w : Nat) : Bool :=
  !x.failed.contains w && !x.inUse w && !(x.lanes.any fun l => l.contains w) && !(x.checkAt.any fun p => p.2 == w)

/-- Whether a wire carries a signal or a check duty (R174, R180, R183). -/
def Channel.carries (x : Channel) (w : Nat) : Bool :=
  if x.lanes = [] then
    if 512 ≤ w ∧ w < 528 then x.inUse w else (tget x.use w).isNone
  else x.lanes.any (fun l => l.contains w) || x.checkAt.any (fun p => p.2 == w) || (528 ≤ w && (tget x.checkAt (w - 528)).isNone)

/-- The darning wire that may replace a wire (R180, R182, R186). -/
def Channel.darnFor (x : Channel) (w : Nat) : Option Nat :=
  let pick := fun d => if x.free d then some d else none
  if !x.carries w then none
  else if w < 512 then pick (512 + w / 32)
  else if w < 528 then none
  else (pick (512 + 2 * (w - 528))).or (pick (513 + 2 * (w - 528)))

/-- Replace the wires of a list by darning wires (R180, R182); `none` where one cannot be replaced. -/
def Channel.mendAll (x : Channel) : List Nat → Option Channel
  | [] => some x
  | w :: ws =>
    match x.darnFor w with
    | some d => Channel.mendAll { x with use := tput x.use w d } ws
    | none => none

/-- Full-width wire use for a set of failed wires (R188, R189): `none` where a group is short. -/
def fullUse (failed : List Nat) : Option Channel :=
  Channel.mendAll { failed := failed } (failed.filter fun w => !(512 ≤ w && w < 528))

/-- Healthy wires of a group. -/
def Channel.healthy (x : Channel) (g : Nat) : List Nat := (groupWires g).filter fun w => !x.failed.contains w

/-- Whether a check duty has moved into group `g` (R183): only groups 2k take duty k. -/
def Channel.dutyIn (x : Channel) (g : Nat) : Bool := g % 2 == 0 && x.failed.contains (528 + g / 2)

/-- The first group too short to narrow, with its healthy wires (R185). -/
def Channel.shortGroup (x : Channel) : Option (Nat × Nat) :=
  ((List.range 16).find? fun g => (x.healthy g).length < (if x.dutyIn g then 17 else 16)).map fun g => (g, (x.healthy g).length)

/-- The wire use of a channel that narrows (R183): 16 lowest healthy wires a group, check duties on the next one of group 2k. -/
def Channel.narrow (x : Channel) : Channel :=
  { x with
    use := []
    lanes := (List.range 16).map fun g => (x.healthy g).take 16
    checkAt := (List.range 8).foldl (fun t k =>
      match x.failed.contains (528 + k), (x.healthy (2 * k))[16]? with
      | true, some w => tput t k w
      | _, _ => t) [] }

/-- A wire takes what another one carries on a narrowed channel: the signals of a group, or a check duty. -/
def Channel.move (x : Channel) (w v : Nat) : Channel :=
  if x.lanes.any (fun l => l.contains w) then { x with lanes := x.lanes.map fun l => l.map fun y => if y = w then v else y }
  else match x.checkAt.find? fun p => p.2 = w with
    | some p => { x with checkAt := tput x.checkAt p.1 v }
    | none => { x with checkAt := tput x.checkAt (w - 528) v }

/-- The lowest-numbered spare healthy wire for a failed one of a narrowed channel (R183, R185): of its group, or of group 2k
for check duty k; none where the wire carries nothing. -/
def Channel.spareFor (x : Channel) (w : Nat) : Option Nat :=
  if !x.carries w then none
  else
    let g := if w < 528 then groupOf w else 2 * (w - 528)
    (groupWires g).find? x.free

/-- The wire that bears check duty `k`. -/
def Channel.dutyWire (x : Channel) (k : Nat) : Nat := (tget x.checkAt k).getD ((tget x.use (528 + k)).getD (528 + k))

/-- Bitmap of 536 wires: wire n is bit 7 − n mod 8 of byte n / 8 (R192). -/
def wireBitmap (ws : List Nat) : List Byte :=
  (List.range 67).map fun i => BitVec.ofNat 8 (((List.range 8).filter fun j => ws.contains (8 * i + j)).foldl
    (fun a j => a + 2 ^ (7 - j)) 0)

/-- Bitmap of groups. -/
def groupBits (gs : List Nat) : Nat := ((List.range 16).filter fun g => gs.contains g).foldl (fun a g => a + 2 ^ g) 0

/-- Darning wires in use: for another wire, or among the wires of a narrowed group (R192). -/
def darnInUse (s : State) (c : Nat) : List Nat :=
  (List.range 16).filter fun g => !(s.chan c).free (512 + g) && !(s.chan c).failed.contains (512 + g)

/-- Show a channel's wires in its record (R192). -/
def showChannel (s : State) (c : Nat) : State :=
  let x := s.chan c
  let s := s.putOct (chIdx c) 4 (wireBitmap x.failed)
  let s := s.put (chIdx c) 5 (groupBits (darnInUse s c))
  s.put (chIdx c) 6 (groupBits ((x.predicted.filter (· < 528)).map groupOf))

/-- A channel goes to a state. -/
def State.putCh (s : State) (c st : Nat) : State := s.put (chIdx c) 1 st

/-- FIXED signals are held from now (R184, R185, R188): event E03h. -/
def holdFixed (s : State) (c cause : Nat) : State :=
  if s.num (chIdx c) 2 = 1 then (s.put (chIdx c) 7 1).raise 0xE03 c (be 1 cause) else s

/-- Whether planned mending is on: absent at feature level 1 (R135, R186). -/
def predictMend (s : State) : Bool := s.flag 0x0D0000 5 && featureLevel s.unit == 2

/-- PREDICT_MEND (R186): a write of 1 at feature level 1 is TYPE_MISMATCH. -/
def predictMendRule : Rule :=
  { plainRule (ent 0x0D0000 5) with
    check := fun s _ v => if valNum v = 1 ∧ featureLevel s.unit = 1 then some (stTypeMismatch, 0) else none }

/-- Request planned mends for the wires still predicted whose group has a free darning wire (R186, R187). -/
def requestMends (s : State) (c : Nat) : State :=
  if !predictMend s then s
  else
    let weak := (s.chan c).predicted.filter fun w => ((s.chan c).darnFor w).isSome
    weak.foldl (fun s _ => (requestTask s .mend c).getD s) (s.setChan c fun x => { x with darnShadow := weak })

/-- A sudden failure withdraws every planned mend of its channel (R187). -/
def withdrawMends (s : State) (c : Nat) : State :=
  let s := withdrawTask s .mend c
  { s with ruling := { s.ruling with sched := s.ruling.sched.filter fun t => !(t.kind = .mend ∧ t.obj = c) } }

/-! ### Detection (R177 to R181) -/

/-- The seam clock of a channel's seam in kHz (R175, R192). -/
def seamKHz (s : State) (c : Nat) : Nat := s.num 0x0D0000 (1 + c / 64)

/-- Seam-clock cycle of a timing-loop cycle. -/
def seamCycle (s : State) (c : Nat) (t : Nat) : Nat := t * seamKHz s c / 1000000

/-- Timing-loop cycle in which a seam-clock cycle begins. -/
def seamNs (s : State) (c cycle : Nat) : Nat := if seamKHz s c = 0 then 0 else ceilDiv (cycle * 1000000) (seamKHz s c)

/-- The values that the wires of a channel carry once the receiver has removed the whitening (R178). A failed wire carries
nothing (DEDUCED, log entry 24). -/
def plainWire (x : Channel) (c cycle : Nat) (wires : BitVec 536) (w : Nat) : Bool :=
  !x.failed.contains w && (wires.getLsbD w != Config.whiten c w (cycle - x.trainedAt))

/-- The check wires whose parity differs from that of the wires they cover (R178). -/
def mismatching (x : Channel) (c cycle : Nat) (wires : BitVec 536) : List Nat :=
  (List.range 8).filter fun k =>
    let duty := x.dutyWire k
    (((covered k).filter fun w => w != duty && plainWire x c cycle wires w).length % 2 == 1) != plainWire x c cycle wires duty

/-- The receiving shim refuses the word of this cycle (R177): the return carries the refusal, and later words are discarded
until the refused one arrives again. -/
def Shim.refuse (x : Shim) (due : Nat) : Shim :=
  { x with refusing := true, back := x.back ++ [{ due := due, seq := x.expect, word := 1 }] }

/-- What lies between the ends is lost when a channel changes its wires: bundle words are sent again from the first one that
has not been accepted, signal sets follow from new crossings (R177, R181). -/
def Channel.flush (x : Channel) : Channel :=
  { x with
    fly := []
    shim := { x.shim with back := [], refusing := false, sent := min x.shim.sent ((x.shim.expect + 32 - x.shim.base) % 32) } }

/-- Seam-clock cycles from end to end (R175, R183). -/
def crossingCycles (s : State) (c : Nat) : Nat := if s.chState c = chNarrowed then 6 else 4

/-- Mismatches that no declaration has taken within 64 cycles are transients (R179): counted, event E07h. -/
def ageMarks (s : State) (c cycle : Nat) : State :=
  let old := (s.chan c).mismatches.filter fun p => p % 2 ^ 64 + 64 ≤ cycle
  old.foldl (fun s p =>
      ((s.count (chIdx c) 8 32 1).count 0x0D0000 9 64 1).raiseAtMost 1 0xE07 c fun occ => be 1 (p / 2 ^ 64) ++ be 4 occ)
    (if old = [] then s else s.setChan c fun x => { x with mismatches := x.mismatches.filter fun p => !(p % 2 ^ 64 + 64 ≤ cycle) })

/-- A cycle of a seam in which check wires mismatch (R177 to R179, R181): the mismatches are marked, but for those of a declared
failure; the receiving shim of a bundle refuses the word; FIXED signals reach the design as received. -/
def mismatch (s : State) (c cycle : Nat) (wires : BitVec 536) : State :=
  let st := s.chState c
  if st < chFull ∨ st = chFailed then s
  else
    let bad := mismatching (s.chan c) c cycle wires
    if bad = [] then s
    else
      let s := ageMarks (s.waitUntil (seamNs s c cycle)) c cycle
      let live := st = chFull ∨ st = chNarrowed
      let marks := (bad.filter fun k => live || !(s.chan c).declared.contains k).map fun k => k * 2 ^ 64 + cycle % 2 ^ 64
      let s := s.setChan c fun x => { x with mismatches := x.mismatches ++ marks }
      if s.num (chIdx c) 2 = 2 then
        s.setChan c fun x => { x with fly := x.fly.filter fun f => cycle < f.due, shim := x.shim.refuse (cycle + crossingCycles s c) }
      else if s.num (chIdx c) 2 = 1 ∧ st = chFull then
        s.setChan c fun x =>
          { x with fixed := (List.range 512).foldl (fun a w =>
              if plainWire x c cycle wires ((tget x.use w).getD w) then a + 2 ^ w else a) 0 }
      else s

/-- Mismatch marks of a check wire. -/
def marksOf (s : State) (c k : Nat) : List Nat := (s.chan c).mismatches.filter fun p => p / 2 ^ 64 = k

/-- A wire failure is declared (R179 to R181, R187, R189): 4 mismatches of a check wire in 64 cycles. -/
def declareFailure (s : State) (c k : Nat) : State :=
  let st := s.chState c
  let marks := marksOf s c k
  let first := (marks.reverse.getD 3 0) % 2 ^ 64
  let last := (marks.getLast?.getD 0) % 2 ^ 64
  if st < chFull ∨ st = chFailed ∨ marks.length < 4 ∨ first + 64 ≤ last then s
  else
    let s := s.setChan c fun x => { x with mismatches := x.mismatches.filter (fun p => p / 2 ^ 64 ≠ k), declared := x.declared ++ [k] }
    if st = chMending ∨ st = chNarrowing then s
    else
      let s := s.setChan c fun x =>
        { x.flush with prior := st, pending := [], wrongAt := seamNs s c ((marks.headD 0) % 2 ^ 64) }
      let s := withdrawMends (s.putCh c chMending) c
      if s.num (chIdx c) 3 = 0 then s
      else (s.put (chIdx c) 3 1).setChan c fun x => { x with shadowAt := s.now }

/-- A channel that fails (R185): event E04h, and FIXED signals stay held. -/
def failChannel (s : State) (c group left : Nat) : State :=
  holdFixed (((s.putCh c chFailed).setChan c fun x => { x.flush with declared := [], pending := [] }).raise 0xE04 c
    (be 1 group ++ be 1 left)) c 1

/-- The wires of a full-width channel that need a replacement once its failed wires are known (R180, R182). -/
def Channel.needs (x : Channel) : List Nat :=
  let lost := (x.use.filter fun p => x.failed.contains p.2).map (·.1)
  (x.pending.filter fun w => x.carries w && !(512 ≤ w && w < 528)) ++ lost

/-- A full-width channel with its failed wires replaced; `none` where a group is short (R180, R182). -/
def Channel.repaired (x : Channel) : Option Channel :=
  ({ x with use := x.use.filter fun p => !x.failed.contains p.2 }).mendAll x.needs

/-- What the localised wires of an episode lead to (R180, R182, R183, R185). -/
def afterLocalised (s : State) (c : Nat) : State :=
  let x := s.chan c
  if x.prior = chNarrowed then
    match x.shortGroup with
    | some g => showChannel (failChannel s c g.1 g.2) c
    | none => s
  else
    match x.repaired with
    | some _ => s
    | none => s.putCh c chNarrowing

/-- Whether the walking pattern of an episode reaches a wire (R180): the groups and check wires that mismatched. -/
def Channel.walked (x : Channel) (w : Nat) : Bool := x.declared.any fun k => (covered k).contains w || w == 528 + k

/-- A failed wire is found (R180): event E00h. -/
def localise (s : State) (c w : Nat) (last : Bool) : State :=
  if s.chState c ≠ chMending ∨ !(s.chan c).walked w then s
  else
    let s := s.setChan c fun x =>
      { x with failed := if x.failed.contains w then x.failed else x.failed ++ [w], pending := x.pending ++ [w],
               predicted := x.predicted.filter (· ≠ w), darnShadow := x.darnShadow.filter (· ≠ w) }
    let s := (showChannel s c).raise 0xE00 c (be 2 w ++ be 8 s.rulingPick)
    if last then afterLocalised s c else s

/-- A sudden mend of one wire is reported (R180, R185): event E01h. -/
def reportMend (s : State) (c w by_ dur : Nat) : State :=
  (s.count (chIdx c) 9 32 1).raise 0xE01 c (be 2 w ++ be 2 by_ ++ be 4 dur)

/-- A failed wire of a narrowed channel is replaced by a spare one of its group, and the mend reported (R185). -/
def mendNarrow (dur c : Nat) (s : State) (w : Nat) : State :=
  match (s.chan c).spareFor w with
  | some v => reportMend (s.setChan c fun x => x.move w v) c w v dur
  | none => s

/-- The darning wires are trained and take over (R180, R182), or spare wires on a narrowed channel (R185), within 21 µs. -/
def completeMend (s : State) (c dur : Nat) : State :=
  if s.chState c ≠ chMending ∨ 21000 < dur then s
  else
    let s := s.waitUntil ((s.chan c).wrongAt + dur)
    let x := s.chan c
    let s :=
      if x.prior = chNarrowed then x.pending.foldl (mendNarrow dur c) (s.putCh c chNarrowed)
      else
        let y := x.repaired.getD x
        x.needs.foldl (fun s w => reportMend s c w ((tget y.use w).getD w) dur) ((s.putCh c chFull).setChan c fun _ => y)
    requestMends (showChannel (s.setChan c fun x => { x.flush with pending := [], declared := [] }) c) c

/-- The channel runs each group on 16 healthy wires (R183, R184), or fails (R185), within 25 µs. -/
def completeNarrow (s : State) (c dur : Nat) : State :=
  if s.chState c ≠ chNarrowing ∨ 25000 < dur then s
  else
    let s := s.waitUntil ((s.chan c).wrongAt + dur)
    let x := s.chan c
    match x.shortGroup with
    | some g => showChannel (failChannel s c g.1 g.2) c
    | none =>
      let s := (s.putCh c chNarrowed).setChan c fun x => { x.narrow.flush with pending := [], declared := [] }
      let s := (showChannel s c).raise 0xE02 c (be 2 (x.pending.getLast?.getD 0) ++ be 4 dur)
      requestMends (holdFixed s c 0) c

/-- The monitor's worst margin of a wire in the last second takes a sample (R186). -/
def Channel.sample (x : Channel) (now w margin : Nat) : Channel :=
  match tget x.margins w, tget x.marginAt w with
  | some m, some t =>
    if now < t + 1000000000 then { x with margins := tput x.margins w (min m margin) }
    else { x with margins := tput x.margins w margin, marginAt := tput x.marginAt w now }
  | _, _ => { x with margins := tput x.margins w margin, marginAt := tput x.marginAt w now }

/-- The monitor samples a wire (R186). Under the threshold the wire is predicted to fail: event E05h, and E0Ah where its
darning wire cannot take it. -/
def predictWire (s : State) (c w margin : Nat) : State :=
  if ¬(s.chState c = chFull ∨ s.chState c = chNarrowed) then s
  else
    let s := s.setChan c fun x => x.sample s.now w margin
    let x := s.chan c
    let worst := tgetD x.margins w margin
    if s.num 0x0D0000 6 ≤ worst ∨ x.failed.contains w ∨ x.predicted.contains w then s
    else
      let s := s.setChan c fun x => { x with predicted := x.predicted ++ [w] }
      let s := (showChannel s c).raise 0xE05 c (be 2 w ++ be 1 worst)
      if featureLevel s.unit = 1 ∨ (x.carries w ∧ (x.darnFor w).isNone) then s.raise 0xE0A c (be 2 w) else s

/-- The darning wire of a weak wire is trained in shadow (R186): a planned mend is requested. -/
def darnTrained (s : State) (c w : Nat) : State :=
  let x := s.chan c
  if (s.chState c = chFull ∨ s.chState c = chNarrowed) ∧ x.predicted.contains w ∧ !x.darnShadow.contains w
      ∧ (x.darnFor w).isSome ∧ predictMend s then
    let s := s.setChan c fun x => { x with darnShadow := x.darnShadow ++ [w] }
    (requestTask s .mend c).getD s
  else s

/-- The planned mend of a channel at the end of its slot (R186): event E06h. -/
def mendPlanned (s : State) (c : Nat) : State :=
  let x := s.chan c
  match x.darnShadow with
  | [] => s
  | w :: rest =>
    match x.darnFor w with
    | some d =>
      if s.chState c = chFull ∨ s.chState c = chNarrowed then
        let s := s.setChan c fun x =>
          { (if x.lanes = [] then { x with use := tput x.use w d } else x.move w d) with
            darnShadow := rest, predicted := x.predicted.filter (· ≠ w) }
        ((showChannel s c).count (chIdx c) 9 32 1).raise 0xE06 c (be 2 w ++ be 2 d)
      else s
    | none => s.setChan c fun x => { x with darnShadow := rest }

/-- RETRAIN (R189): BUSY unless NARROWED or FAILED. -/
def retrainRule (c : Nat) : Rule :=
  { base := State.rulingNext, check := noCheck, pick := noPick,
    judge := fun s _ v =>
      if valNum v = 1 ∧ ¬(s.chState c = chNarrowed ∨ s.chState c = chFailed) then refuse s stBusy else none,
    apply := fun s _ _ v =>
      if valNum v = 1 then { s := (s.put (chIdx c) 3 1).setChan c fun x => { x with shadowAt := s.now } }
      else { s := s } }

/-- Shadow retraining ends (R189): the retested wires that pass with the margin of the threshold are healthy again; event E08h,
result 0h after 1 ms without a mismatch, 1h where groups are still short. -/
def shadowEnds (s : State) (c : Nat) (passed : List (Nat × Nat)) : State :=
  if s.num (chIdx c) 3 ≠ 1 then s
  else
    let healthy := (passed.filter fun p => s.num 0x0D0000 6 ≤ p.2).map (·.1)
    let s := showChannel (s.setChan c fun x => { x with failed := x.failed.filter fun w => !healthy.contains w }) c
    if (fullUse (s.chan c).failed).isSome then
      let s := s.waitUntil ((s.chan c).shadowAt + 1000000)
      (s.put (chIdx c) 3 2).raise 0xE08 c (be 1 0)
    else (s.put (chIdx c) 3 0).raise 0xE08 c (be 1 1)

/-- REINSTATE (R190): BUSY unless SHADOW reads 2. -/
def chanReinstateRule (c : Nat) : Rule :=
  { base := State.rulingNext, check := noCheck, pick := noPick,
    judge := fun s _ v => if valNum v = 1 ∧ s.num (chIdx c) 3 ≠ 2 then refuse s stBusy else none,
    apply := fun s _ _ v => if valNum v = 1 then requestDone s .seamChan c else { s := s } }

/-- The channel's reinstatement at the end of its slot (R190); `none` where the shadow is lost. -/
def reinstateChan (s : State) (c : Nat) : Option State :=
  match fullUse (s.chan c).failed with
  | some x =>
    if s.num (chIdx c) 3 = 2 then
      let s := s.setChan c fun y => { y.flush with use := x.use, lanes := [], checkAt := [], pending := [] }
      let s := ((s.putCh c chFull).put (chIdx c) 3 0).put (chIdx c) 7 0
      some (requestMends ((showChannel s c).raise 0xE09 c (be 8 s.rulingPick)) c)
    else none
  | none => none

/-- Channels while unconfigured or halted (R188): IDLE; the map of failed wires persists. -/
def idleChannels (s : State) : State :=
  (List.range 256).foldl (fun s c =>
    let s := withdrawMends s c
    let s := s.setChan c fun x => { failed := x.failed }
    showChannel (((s.putCh c chIdle).put (chIdx c) 3 0).put (chIdx c) 7 0) c) s

/-- Channels train while frames load (R188). -/
def trainChannels (s : State) : State := (List.range 256).foldl (fun s c => s.putCh c chTraining) s

/-- A channel as training leaves it (R188, R193): FULL with its failed wires mended, NARROWED with event E02h, or FAILED with
event E04h. -/
def trainedChannel (s : State) (c : Nat) (failed : List Nat) : State :=
  let x : Channel := { failed := failed, trainedAt := seamCycle s c s.now }
  match fullUse failed with
  | some y => showChannel ((s.putCh c chFull).setChan c fun _ => { x with use := y.use }) c
  | none =>
    match x.shortGroup with
    | some g => showChannel (((s.putCh c chFailed).setChan c fun _ => x).raise 0xE04 c (be 1 g.1 ++ be 1 g.2)) c
    | none =>
      let s := (s.putCh c chNarrowed).setChan c fun _ => x.narrow
      (showChannel s c).raise 0xE02 c (be 2 (failed.getLast?.getD 0) ++ be 4 0)

/-- From S, FIXED signals of narrowed and failed channels are held (R188). -/
def holdAtStart (s : State) : State :=
  (List.range 256).foldl (fun s c =>
    if s.chState c = chNarrowed then holdFixed s c 0 else if s.chState c = chFailed then holdFixed s c 1 else s) s

/-- Seam training of a load ends (R154, R188). -/
def trainingComplete (s : State) (failed : List (Nat × Nat)) : State :=
  let s := (List.range 256).foldl (fun s c =>
    trainedChannel s c (((failed.filter fun p => p.1 = c).map (·.2)).dedup)) s
  { s with cfg := { s.cfg with seamTrained := true } }

/-! ### Commands -/

/-- CHECK_WIRE_MISMATCH (R177 to R179). -/
def execCheckWireMismatch (c : Fin 256) (cycle : Nat) (wires : BitVec 536) (s : State) : Out :=
  .next (mismatch s c cycle wires)

/-- WIRE_FAILURE_DECLARED (R179, R180). -/
def execWireFailureDeclared (c : Fin 256) (k : Fin 8) (s : State) : Out := .next (declareFailure s c k)

/-- FAILED_WIRE_LOCALISED (R180, R183, R185). -/
def execFailedWireLocalised (c : Fin 256) (wire : Fin 536) (last : Bool) (s : State) : Out := .next (localise s c wire last)

/-- SUDDEN_MEND_COMPLETE (R180 to R182, R185). -/
def execSuddenMendComplete (c : Fin 256) (dur : Nat) (s : State) : Out := .next (completeMend s c dur)

/-- CHANNEL_NARROWED (R183 to R185). -/
def execChannelNarrowed (c : Fin 256) (dur : Nat) (s : State) : Out := .next (completeNarrow s c dur)

/-- WIRE_PREDICTED (R186). -/
def execWirePredicted (c : Fin 256) (wire : Fin 536) (margin : Nat) (s : State) : Out := .next (predictWire s c wire margin)

/-- DARNING_SHADOW_TRAINED (R186). -/
def execDarningShadowTrained (c : Fin 256) (wire : Fin 536) (s : State) : Out := .next (darnTrained s c wire)

/-- SEAM_RETRAIN (R189). -/
def execSeamRetrain (r : Req) (c : Fin 256) (v : Nat) (s : State) : Out :=
  .next (submit s r (ent (chIdx c) 0x0B) (.num v) (retrainRule c))

/-- SEAM_SHADOW_READY (R189). -/
def execSeamShadowReady (c : Fin 256) (passed : List (Fin 536 × Nat)) (s : State) : Out :=
  .next (shadowEnds s c (passed.map fun p => (p.1.val, p.2)))

/-- SEAM_REINSTATE (R190). -/
def execSeamReinstate (r : Req) (c : Fin 256) (v : Nat) (s : State) : Out :=
  .next (submit s r (ent (chIdx c) 0x0C) (.num v) (chanReinstateRule c))



end Sys2Proof.Machine
end

