-- ==== Sys2Proof/Machine/Fabric.lean ====
section
/-! DEFINITION. Block memories, queue mode, regional clock drivers, banks, selvage pins and interrupt lines (R194 to R227). -/

namespace Sys2Proof.Machine

/-- Whether the fabric's clocks run: from S on, and not in the halted state (R156, R157, R392). -/
def State.clocksRun (s : State) : Bool := s.fabricRuns && !s.pwr.halted

/-! ### Panels (R163) -/

/-- Whether panel `p` is isolated. -/
def State.isolated (s : State) (p : Nat) : Bool := (s.cfg.panelHid.getD p {}).isolated

/-- Whether something lies inside an isolated panel, where clocks are gated and inputs forced (R163). -/
def insideIsolated (s : State) (part : PanelDef → List Nat) (k : Nat) : Bool :=
  s.cfg.compiled.panels.any fun p => s.isolated p.1 && (part p.2).contains k

/-! ### Block memories (R198 to R202) -/

/-- Bit `i` of a number. -/
def bitAt (x i : Nat) : Bool := x / 2 ^ i % 2 == 1

/-- A number with bit `i` set to a value. -/
def bitPut (x i : Nat) (v : Bool) : Nat := if bitAt x i = v then x else if v then x + 2 ^ i else x - 2 ^ i

/-- The number whose bit `i` below `n` is `f i`. -/
def ofBits (n : Nat) (f : Nat → Bool) : Nat := (List.range n).foldl (fun a i => if f i then a + 2 ^ i else a) 0

/-- Width of a shape (R198). -/
def shapeWidth (i : Fin 7) : Nat := [1, 2, 4, 9, 18, 36, 72].getD i 72

/-- Depth of a shape (R198). -/
def shapeDepth (i : Fin 7) : Nat := [65536, 32768, 16384, 8192, 4096, 2048, 1024].getD i 1024

/-- Stored bit of data bit `j` of word `w` in a shape (R198), in the view of 9-bit lanes: widths below 9 reach data bits only. -/
def storedBit (shape : Fin 7) (w j : Nat) : Nat :=
  let n := w * shapeWidth shape + j
  if shapeWidth shape < 9 then n / 8 * 9 + n % 8 else n

/-- Word `k` of 72 bits of memory `m`. -/
def State.bramWord (s : State) (m k : Nat) : Nat := tgetD s.fab.bram (m * 1024 + k) 0

/-- Set word `k` of memory `m`. -/
def State.putBram (s : State) (m k v : Nat) : State := { s with fab := { s.fab with bram := tput s.fab.bram (m * 1024 + k) v } }

/-- A word of a shape as it reads from a stored word of 72 bits. -/
def wordIn (shape : Fin 7) (w stored : Nat) : Nat :=
  ofBits (shapeWidth shape) fun j => bitAt stored (storedBit shape w j % 72)

/-- A stored word of 72 bits with the enabled bits of a word of a shape replaced. -/
def wordPut (shape : Fin 7) (w mask v stored : Nat) : Nat :=
  (List.range (shapeWidth shape)).foldl (fun a j =>
    if bitAt mask j then bitPut a (storedBit shape w j % 72) (bitAt v j) else a) stored

/-- 64 data bits and 8 check bits in the lanes of a word (R198, R201). -/
def eccWord (data : Nat) : Nat :=
  ofBits 72 fun n => if n % 9 = 8 then bitAt (Config.eccCheck (data % 2 ^ 64)) (n / 9) else bitAt data (n / 9 * 8 + n % 9)

/-- The 64 data bits of a word in ECC mode. -/
def eccData (word : Nat) : Nat := ofBits 64 fun i => bitAt word (i / 8 * 9 + i % 8)

/-- Bits set among the low 72. -/
def ones72 (x : Nat) : Nat := ((List.range 72).filter (bitAt x)).length

/-- A read with SBE or DBE is counted (R201): the first DBE in 1 ms raises event D20h. -/
def countEcc (s : State) (b m word : Nat) (sbe dbe : Bool) : State :=
  if sbe then s.count (0x110010 + b) 1 32 1
  else if !dbe then s
  else
    let s := (s.count (0x110010 + b) 2 32 1).put (0x110010 + b) 3 (m * 1024 + word)
    let at_ := s.fab.dbeAt.getD b 0
    if at_ = 0 ∨ 1000000 ≤ s.now + 1 - at_ then
      let s := { s with fab := { s.fab with dbeAt := s.fab.dbeAt.set b (s.now + 1) } }
      s.raise 0xD20 b (be 2 m ++ be 2 word)
    else s

/-- A word read in ECC mode when some stored bits have flipped (R201): data, SBE and DBE. One flip is corrected on the output,
more are delivered uncorrected; the spec speaks of up to two (DESIGN CHOICE beyond, log entry 25). -/
def eccRead (stored flips : Nat) : Nat × Bool × Bool :=
  let n := ones72 flips
  (eccData (if n ≤ 1 then stored else stored ^^^ (flips % 2 ^ 72)), n == 1, 2 ≤ n)

/-- What reaches a port on its clock edge: enable, the written bits, word address and data. -/
structure PortReq where
  en : Bool
  mask : Nat
  addr : Nat
  data : Nat

/-- The read output takes a value, through the optional output register (R199). -/
def BramPort.take (x : BramPort) (reg : Bool) (v : Nat) : BramPort :=
  if reg then { x with out := x.stage, stage := v } else { x with out := v }

/-- A port of a block memory. -/
def State.bport (s : State) (k : Nat) : BramPort := tgetD s.fab.ports k {}

/-- Change a port of a block memory. -/
def State.setBport (s : State) (k : Nat) (x : BramPort) : State := { s with fab := { s.fab with ports := tput s.fab.ports k x } }

/-- Stored word that a port addresses. -/
def portRow (d : PortDef) (w : Nat) : Nat := storedBit d.shape w 0 / 72

/-- The stored word after a request. -/
def portApply (d : PortDef) (ecc : Bool) (r : PortReq) (stored : Nat) : Nat :=
  if !r.en ∨ r.mask = 0 then stored
  else if ecc then eccWord r.data else wordPut d.shape r.addr r.mask r.data stored

/-- Bits of one number where a mask is 1, of another where it is 0. -/
def blend (mask x y : Nat) : Nat := (x &&& mask) ||| (y &&& (mask ^^^ (2 ^ 72 - 1)))

/-- What the output of a port shows after an edge (R199): the word read, or what its mode says where it writes. `before` is the
stored word a read returns, `after` the word its own write leaves. -/
def portEdge (s : State) (m k : Nat) (d : PortDef) (ecc : Bool) (r : PortReq) (before after : Nat) : State :=
  let x := s.bport k
  if !r.en then (if d.reg then s.setBport k (x.take true x.stage) else s)
  else
    let show_ := fun w => if ecc then eccData w else wordIn d.shape r.addr w
    let x := { x with sbe := false, dbe := false }
    let s := s.setBport k (
      if r.mask = 0 then x.take d.reg (show_ before)
      else match d.mode with
        | .writeFirst => x.take d.reg (show_ after)
        | .readFirst => x.take d.reg (show_ before)
        | .noChange => x)
    if r.mask = 0 then s else s.putBram m (portRow d r.addr) (portApply d ecc r (s.bramWord m (portRow d r.addr)))

/-- An edge on one port or on both at once (R199, R200). On a common clock A's enabled bits win and a port that reads what the
other writes returns the old data; on independent clocks each bit of a word both address comes from one port or the other, or is
old or new (free values, log entry 9). -/
def bramEdge (s : State) (m : Nat) (d : BramDef) (ra rb : Option PortReq) : State :=
  match ra, rb with
  | none, none => s
  | some r, none => portEdge s m (2 * m) d.a d.ecc r (s.bramWord m (portRow d.a r.addr)) (portApply d.a d.ecc r (s.bramWord m (portRow d.a r.addr)))
  | none, some r =>
    portEdge s m (2 * m + 1) d.b d.ecc r (s.bramWord m (portRow d.b r.addr)) (portApply d.b d.ecc r (s.bramWord m (portRow d.b r.addr)))
  | some p, some q =>
    let oldA := s.bramWord m (portRow d.a p.addr)
    let oldB := s.bramWord m (portRow d.b q.addr)
    let t := portEdge (portEdge s m (2 * m + 1) d.b d.ecc q oldB (portApply d.b d.ecc q oldB)) m (2 * m) d.a d.ecc p oldA
      (portApply d.a d.ecc p oldA)
    if d.common ∨ portRow d.a p.addr ≠ portRow d.b q.addr ∨ !p.en ∨ !q.en then t
    else
      let pick := s.freeValue 72
      let see := s.draw.freeValue 72
      let last := portApply d.b d.ecc q (portApply d.a d.ecc p oldA)
      let first := portApply d.a d.ecc p (portApply d.b d.ecc q oldA)
      let newA := portApply d.a d.ecc p (blend see (portApply d.b d.ecc q oldA) oldA)
      let newB := portApply d.b d.ecc q (blend see (portApply d.a d.ecc p oldB) oldB)
      let u := portEdge (portEdge s.draw.draw m (2 * m + 1) d.b d.ecc q (blend see (portApply d.a d.ecc p oldB) oldB) newB) m (2 * m)
        d.a d.ecc p (blend see (portApply d.b d.ecc q oldA) oldA) newA
      u.putBram m (portRow d.a p.addr) (blend pick first last)

/-- A read of an ECC-mode block memory in which stored bits have flipped (R201): the output and flags of the port, the counts. -/
def bramRead (s : State) (b m word : Nat) (portB : Bool) (flips : Nat) : State :=
  let g := b * 3072 + m
  match tget s.cfg.compiled.brams g with
  | none => s
  | some d =>
    if !s.clocksRun ∨ !d.ecc ∨ insideIsolated s (·.mems) g then s
    else
      let k := 2 * g + (if portB then 1 else 0)
      let r := eccRead (s.bramWord g word) flips
      let x := (s.bport k).take (if portB then d.b.reg else d.a.reg) r.1
      countEcc (s.setBport k { x with sbe := r.2.1, dbe := r.2.2 }) b m word r.2.1 r.2.2

/-! ### Queue mode (R203 to R206) -/

/-- Q_AFULL (R205). -/
def Queue.afull (x : Queue) : Bool := x.af ≤ x.wseen
/-- Q_AEMPTY (R205). -/
def Queue.aempty (x : Queue) : Bool := x.rseen ≤ x.ae

/-- The word that a FWFT queue shows: the oldest one the read side sees. -/
def Queue.show (x : Queue) : Queue :=
  if x.fwft ∧ !x.empty then { x with rdata := x.words.headD x.rdata } else x

/-- A write taken (R204): Q_FULL is set by the write that fills the last word. -/
def Queue.push (x : Queue) (d : Nat) : Queue :=
  { x with words := x.words ++ [d % 2 ^ x.width], wseen := x.wseen + 1, full := x.depth ≤ x.wseen + 1 }

/-- A read taken (R204): Q_EMPTY is set by the read that takes the last word. -/
def Queue.pop (x : Queue) : Queue :=
  let y := { x with words := x.words.tail, rseen := x.rseen - 1, empty := x.rseen ≤ 1, rptr := (x.rptr + 1) % x.depth }
  if x.fwft then y.show
  else if x.reg then { y with rdata := x.stage, stage := x.words.headD x.stage }
  else { y with rdata := x.words.headD x.rdata }

/-- A read edge with Q_REN high (R204, R206). -/
def Queue.readEdge (x : Queue) : Queue :=
  if x.rst then x else if x.empty then { x with underflow := true } else x.pop

/-- A write edge with Q_WEN high, with or without a read on the same edge (R204, R206). -/
def Queue.writeEdge (x : Queue) (d : Nat) (readToo : Bool) : Queue :=
  if x.rst then x
  else if x.full then
    if x.common ∧ readToo ∧ !x.empty then
      let y := x.pop
      { y with words := y.words ++ [d % 2 ^ x.width] }
    else if readToo then { x.readEdge with overflow := true }
    else { x with overflow := true }
  else if readToo then (x.push d).readEdge
  else x.push d

/-- The other side's pointer arrives through the synchroniser (R204): the flag falls and the count follows. -/
def Queue.seen (x : Queue) (readSide : Bool) : Queue :=
  if x.rst then x
  else if readSide then ({ x with rseen := x.words.length, empty := x.words.length = 0 }).show
  else { x with wseen := x.words.length, full := x.depth ≤ x.words.length }

/-- Q_RST (R206): both sides empty, the sticky flags clear. -/
def Queue.reset (x : Queue) (level : Bool) : Queue :=
  if level then
    { x with rst := true, words := [], wseen := 0, rseen := 0, full := false, empty := true, overflow := false, underflow := false }
  else { x with rst := false }

/-- A threshold write while Q_RST is high (R205): AF in [33:17], AE in [16:0]; a value out of range is ignored. -/
def Queue.thresholds (x : Queue) (d : Nat) : Queue :=
  if !x.rst then x
  else
    let ok := fun v => 1 ≤ v ∧ v + 1 ≤ x.depth
    { x with af := if ok (bits d 33 17) then bits d 33 17 else x.af, ae := if ok (bits d 16 0) then bits d 16 0 else x.ae }

/-- The word that a read takes, with flipped bits as ECC mode handles them (R201, R203). -/
def Queue.flip (x : Queue) (flips : Nat) : Queue :=
  if !x.ecc ∨ x.rst ∨ x.empty then { x with sbe := false, dbe := false }
  else
    let r := eccRead (eccWord (x.words.headD 0)) flips
    { x with words := r.1 :: x.words.tail, sbe := r.2.1, dbe := r.2.2 }

/-- Act on a queue that the running design has, outside isolated panels. -/
def onQueue (s : State) (q : Nat) (f : Queue → Queue) : State :=
  match tget s.fab.queues q with
  | some x => if s.clocksRun && !insideIsolated s (·.mems) q then { s with fab := { s.fab with queues := tput s.fab.queues q (f x) } } else s
  | none => s

/-- A queue as the design compiles it, empty (R203 to R206). -/
def startQueue (d : QueueDef) : Queue :=
  { depth := shapeDepth d.shape, width := if d.ecc then 64 else shapeWidth d.shape, ecc := d.ecc, reg := d.reg,
    common := d.common, fwft := d.fwft, af := d.af, ae := d.ae }

/-- A read of a queue (R204, R206), with the ECC flags of its word (R201, R203). -/
def queueRead (s : State) (q flips : Nat) : State :=
  match tget s.fab.queues q with
  | none => s
  | some x =>
    let t := onQueue s q fun x => (x.flip flips).readEdge
    if s.clocksRun && !insideIsolated s (·.mems) q then
      countEcc t (q / 3072) (q % 3072) x.rptr (x.flip flips).sbe (x.flip flips).dbe
    else t

/-! ### Regional drivers (R208 to R211) -/

/-- Driver `d`, by bolt × 384 + region × 24 + driver. -/
def State.drv (s : State) (d : Nat) : Mux := tgetD s.fab.drivers d {}

/-- Change a driver while the fabric's clocks run, outside isolated panels. -/
def onDriver (s : State) (d : Nat) (f : Mux → Mux) : State :=
  if s.clocksRun && !insideIsolated s (·.drivers) d then { s with fab := { s.fab with drivers := tput s.fab.drivers d (f (s.drv d)) } }
  else s

/-- The region, driver and bolt of a driver number, as events carry them (R227). -/
def drvFields (d : Nat) : List Byte := be 1 (d % 384 / 24) ++ be 1 (d % 24)

/-- Step 2 of a switch (R209): the low output starts again on the new source once that gives edges. -/
def Mux.restart (x : Mux) : Mux :=
  match x.want with
  | some b => if x.low ∧ x.newEdge then { x with sel := b, want := none, low := false } else x
  | none => x

/-- A change of the multiplexer select (R209): the output goes low on a falling edge of the old source and restarts on the new
one; where a source gives no edge the switch waits. A request to switch back is accepted while it waits. -/
def Mux.select (x : Mux) (toB oldEdge newEdge : Bool) (now : Nat) : Mux :=
  match x.want with
  | none => if x.sel = toB then x
    else ({ x with want := some toB, wantAt := now, newEdge := newEdge, low := oldEdge }).restart
  | some b =>
    if b ≠ toB ∧ !x.low then { x with want := none }
    else ({ x with want := some toB, wantAt := if b = toB then x.wantAt else now, newEdge := newEdge,
                   low := x.low || oldEdge }).restart

/-- A change of a driver's select. -/
def switchMux (s : State) (d : Nat) (toB oldEdge newEdge : Bool) : State :=
  onDriver s d fun x => x.select toB oldEdge newEdge s.now

/-- No edge within 1 µs of the request (R209): event D22h. Without the old source the output is forced low and the switch goes
on; without the new one the output stays low. -/
def muxTimeout (s : State) (d : Nat) (newSource : Bool) : State :=
  let x := s.drv d
  if !s.clocksRun ∨ insideIsolated s (·.drivers) d ∨ x.want = none ∨ x.low ≠ newSource then s
  else
    let s := s.waitUntil (x.wantAt + 1000)
    let s := if newSource then s else onDriver s d fun x => ({ x with low := true }).restart
    (s.count (0x110020 + d / 384) 1 32 1).raise 0xD22 (d / 384) (drvFields d ++ be 1 (if newSource then 1 else 0))

/-- Source cycles of the high phase of a divided clock (R210): (N − 1) / 2 for odd N. -/
def dividerHigh (n : Nat) : Nat := n / 2

/-- What a driver's source carries, bolt-global lines followed to their compiled source (R207, R208). -/
def clockOf (s : State) (d : Nat) : Option ClkSrc :=
  let x := s.drv d
  match if x.sel then x.b else x.a with
  | .line n => tget s.cfg.compiled.lines (d / 384 * 32 + n)
  | src => some src

/-- Whether a clock is tick-locked (R36, R207, R245): a timing-loop tap, or a user loop at its floor, or at its nominal frequency
on the timing-loop tap without spread. -/
def tickLocked (s : State) : ClkSrc → Bool
  | .tap _ => true
  | .uloop l _ => 3 ≤ s.num (0x040300 + l) 1 ||
      (s.num (0x040300 + l) 2 == 1 && tgetD s.clk.spreadNow (ent (0x040300 + l) 5) 0 == 0)
  | _ => false

/-- Cycles that a tick synchronizer adds on the clock of a driver (R36): exactly 2 when it is tick-locked, else 2 or 3. -/
def syncCycles (s : State) (d : Nat) : List Nat := if ((clockOf s d).map (tickLocked s)).getD false then [2] else [2, 3]

/-- CE falls (R211): the gate closes after the high phase, or a port clock asks its port for idle. -/
def lowerCe (s : State) (d : Nat) : State :=
  onDriver s d fun x =>
    if !x.ce then x
    else match x.port with
      | none => { x with ce := false, gated := true }
      | some _ => { x with ce := false, req := some s.now }

/-- CE rises (R211): the clock restarts. -/
def raiseCe (s : State) (d : Nat) : State := onDriver s d fun x => { x with ce := true, gated := false, req := none }

/-- A port reports idle (R211, R26): the gate closes where the 4 µs have not passed. -/
def driverIdle (s : State) (d : Nat) : State :=
  onDriver s d fun x =>
    match x.req with
    | some t => if s.now ≤ t + 4000 then { x with gated := true, req := none } else x
    | none => x

/-- Whether a unit has a transfer outstanding that it has issued or accepted (R247). -/
def unitBusy (s : State) (u : Nat) : Bool :=
  s.noc.outstanding.any (fun o => o.pkt.init == u) || (64 ≤ u && s.noc.accepted.any fun p => p.target == u - 64 + 0x30)

/-- A hard unit reports idle (R247, R26). -/
def unitIdle (s : State) (u : Nat) : State :=
  if gateWaits s u ∧ !unitBusy s u ∧ s.now ≤ (s.clk.gates.getD u {}).since + 4000 then s.put (gateIdx u) 2 2 else s

/-- No idle within 4 µs (R211): the request is abandoned, event D23h. -/
def driverTimeout (s : State) (d : Nat) : State :=
  match (s.drv d).req with
  | none => s
  | some t =>
    if !s.clocksRun then s
    else
      let s := onDriver (s.waitUntil (t + 4000)) d fun x => { x with req := none }
      (s.count (0x110020 + d / 384) 2 32 1).raise 0xD23 (d / 384) (drvFields d ++ be 1 (((s.drv d).port).getD 0))

/-! ### Banks (R217) -/

/-- A bank changes power state (R217): its bit of `110002h` and event D21h. -/
def bankChange (s : State) (b k : Nat) (on : Bool) : State :=
  if (s.num 0x110002 (1 + b) / 2 ^ k % 2 == 1) = on then s
  else
    let s := if on then s.setBits 0x110002 (1 + b) (2 ^ k) else s.clrBits 0x110002 (1 + b) (2 ^ k)
    s.raise 0xD21 (24 * b + k) (be 1 (if on then 1 else 0))

/-! ### Selvage pins (R218 to R224) -/

/-- Index of a selvage pin's record. -/
def pinIdx (p : Nat) : Nat := 0x110100 + p

/-- Selvage pin `p`. -/
def State.pin (s : State) (p : Nat) : Gpi := tgetD s.fab.pins p {}

/-- Change a selvage pin. -/
def State.setPin (s : State) (p : Nat) (f : Gpi → Gpi) : State :=
  { s with fab := { s.fab with pins := tput s.fab.pins p (f (s.pin p)) } }

/-- Whether the selvage pins follow R220: their modes taken at start-up, and no halt (R156, R224). -/
def State.selvageOn (s : State) : Bool := 3 ≤ s.cfg.startPhase && !s.pwr.halted

/-- The status source of a pin as it stands at the tick (R222). -/
def statusSource (s : State) (p : Nat) : Bool :=
  let sel := s.num (pinIdx p) 5
  match s.num (pinIdx p) 4 with
  | 0 => s.flag (pinIdx p) 6
  | 1 => s.fab.selvStatus / 2 ^ p % 2 == 1
  | 2 => s.num (0x0E0200 + p / 16) 1 / 2 ^ sel % 2 == 1
  | 3 => (s.trig sel).level
  | 4 => false
  | _ => true

/-- At a ruling tick that opens a window (R220, R222): status bits are latched and STATUS pins are high-Z. The bits the
design drives are free values (log entry 9). -/
def latchStatus (s : State) : State :=
  if !s.selvageOn then s
  else
    let s := { s with fab := { s.fab with selvStatus := s.freeValue 64, phase := 1 } }.draw
    (List.range 64).foldl (fun s p =>
      if s.num (pinIdx p) 1 = 1 then
        s.setPin p fun x => { x with latched := statusSource s p != s.flag (pinIdx p) 7 }
      else s) s

/-- Sample a GPI pin (R223). -/
def samplePin (s : State) (p : Nat) (level : Bool) : State :=
  let s := s.put (pinIdx p) 0x0A (if level then 1 else 0)
  if level = s.flag (pinIdx p) 9 then s.setPin p fun x => { x with run := 0 }
  else if s.num (pinIdx p) 8 ≤ (s.pin p).run + 1 then s.setPin p fun x => { x with run := 0, next := some level }
  else s.setPin p fun x => { x with run := x.run + 1 }

/-- At the end of a window (R223): a change of D takes effect, event D24h. -/
def settlePin (s : State) (p : Nat) : State :=
  match (s.pin p).next with
  | none => s
  | some d =>
    let v := if d then 1 else 0
    let s := (s.setPin p fun x => { x with next := none }).put (pinIdx p) 9 v
    let g := s.fab.selvGpi
    let bit := g / 2 ^ p % 2
    let s := { s with fab := { s.fab with selvGpi := g + v * 2 ^ p - bit * 2 ^ p } }
    s.raise 0xD24 p (be 1 v ++ be 8 s.rulingPick)

/-- What a closing window does to the selvage pins (R220, R223). -/
def closePins (s : State) : State :=
  if !s.selvageOn then s
  else (List.range 64).foldl settlePin { s with fab := { s.fab with phase := 3 } }

/-- STATUS_SRC (R226): TYPE_MISMATCH unless the pin is a STATUS pin. -/
def statusSrcRule (p : Nat) : Rule :=
  { plainRule (ent (pinIdx p) 4) with
    check := fun s _ _ => if s.num (pinIdx p) 1 = 1 then none else some (stTypeMismatch, 0) }

/-- DEBOUNCE (R223): a write resets the run. -/
def debounceRule (p : Nat) : Rule :=
  { plainRule (ent (pinIdx p) 8) with
    apply := fun s _ _ v => { s := (s.write (ent (pinIdx p) 8) v).setPin p fun x => { x with run := 0 } } }

/-! ### What a load does to the fabric -/

/-- A clear (R143, R157, R202, R225): frames, memories and queues empty, clocks gated, interrupt lines cleared. -/
def clearFabric (s : State) : State :=
  let s := { s with
    fab := { s.fab with queues := [], bram := [], drivers := [], phase := 0, ffs := [], luts := [], longs := [], wires := [], ports := [] } }
  (List.range 4).foldl (fun s b => s.put (0x0E0200 + b) 1 0) s

/-- A regional driver as the design compiles it (R208 to R211). -/
def startDriver (d : DrvDef) : Mux :=
  { sel := d.toB, a := d.a, b := d.b, div := d.div, ce := !d.gated, gated := d.gated, port := d.port }

/-- The table with the entries of some keys taken from another one. -/
def patch {α : Type} (old new_ : Tbl α) (keys : List Nat) : Tbl α :=
  keys.foldl (fun t k => match tget new_ k with
    | some v => tput t k v
    | none => tdel t k) old

/-- A partial load puts the design it carries into its panel (R164, R196, R202): flip-flops at INIT, LUT RAMs and block memories at
their loaded contents, queues empty. -/
def loadPanel (s : State) (d : PanelDef) (n : Compiled) : State :=
  let c := s.cfg.compiled
  let fresh := fun {α : Type} (t : Tbl α) (per : Nat) (keys : List Nat) => t.filter fun e => !keys.contains (e.1 / per)
  let words := d.mems.foldl (fun t m => (((tget n.brams m).map (·.words)).getD []).foldl (fun t w => tput t (m * 1024 + w.1) w.2) t)
    (fresh s.fab.bram 1024 d.mems)
  { s with
    cfg := { s.cfg with
      compiled := { c with
        tiles := patch c.tiles n.tiles d.tiles
        brams := patch c.brams n.brams d.mems
        queues := patch c.queues n.queues d.mems
        drivers := patch c.drivers n.drivers d.drivers
        ios := patch c.ios n.ios d.pins } }
    fab := { s.fab with
      ffs := fresh s.fab.ffs 32 d.tiles
      luts := fresh s.fab.luts 16 d.tiles
      wires := fresh s.fab.wires 128 d.tiles
      bram := words
      ports := fresh s.fab.ports 2 d.mems
      queues := patch s.fab.queues (n.queues.map fun q => (q.1, startQueue q.2)) d.mems
      drivers := patch s.fab.drivers (n.drivers.map fun q => (q.1, startDriver q.2)) d.drivers } }

/-- At S the design's clock drivers start, each in the select, divider and gate state compiled for it and all in phase; its block
memories hold their loaded contents and its queues are empty (R156, R202, R206, R209, R210). -/
def startClocks (s : State) : State :=
  let d := s.cfg.compiled
  let drivers := d.drivers.foldl (fun (t : Tbl Mux) p => tput t p.1 (startDriver p.2)) []
  let queues := d.queues.foldl (fun (t : Tbl Queue) q => tput t q.1 (startQueue q.2)) []
  let words := d.brams.foldl (fun t m => m.2.words.foldl (fun t w => tput t (m.1 * 1024 + w.1) w.2) t) []
  { s with fab := { s.fab with drivers := drivers, queues := queues, bram := words } }

/-- At S of each start-up D is 0 and its run 0 (R223), and the compiled values of STATUS_SRC, SRC_SEL and INVERT are
restored (R226). -/
def startPins (s : State) : State :=
  (List.range 64).foldl (fun s p =>
    let s := { s with cat := tdel (tdel (tdel s.cat (ent (pinIdx p) 4)) (ent (pinIdx p) 5)) (ent (pinIdx p) 7) }
    (s.setPin p fun _ => {}).put (pinIdx p) 9 0)
    { s with fab := { s.fab with selvGpi := 0, phase := 0 } }

/-! ### Commands -/

/-- BRAM_ECC_READ (R201). -/
def execBramEccRead (b : Fin 4) (m : Fin 3072) (word : Fin 1024) (portB : Bool) (flips : BitVec 72) (s : State) : Out :=
  .next (bramRead s b m word portB flips.toNat)

/-- Q_WRITE (R204). -/
def execQWrite (q : Fin 12288) (d : BitVec 72) (readToo : Bool) (s : State) : Out :=
  .next (onQueue s q fun x => x.writeEdge d.toNat readToo)

/-- Q_READ (R204). -/
def execQRead (q : Fin 12288) (flips : BitVec 72) (s : State) : Out := .next (queueRead s q flips.toNat)

/-- Q_RST (R206). -/
def execQRst (q : Fin 12288) (level : Bool) (s : State) : Out := .next (onQueue s q fun x => x.reset level)

/-- Q_THR_WE (R205). -/
def execQThrWe (q : Fin 12288) (d : BitVec 34) (s : State) : Out := .next (onQueue s q fun x => x.thresholds d.toNat)

/-- Q_FLAG_FALL (R204). -/
def execQFlagFall (q : Fin 12288) (readSide : Bool) (s : State) : Out := .next (onQueue s q fun x => x.seen readSide)

/-- CLOCK_MUX_SWITCH (R209). -/
def execClockMuxSwitch (drv : Fin 1536) (toB oldEdge newEdge : Bool) (s : State) : Out :=
  .next (switchMux s drv toB oldEdge newEdge)

/-- MUX_SOURCE_TIMEOUT (R209). -/
def execMuxSourceTimeout (drv : Fin 1536) (newSource : Bool) (s : State) : Out := .next (muxTimeout s drv newSource)

/-- DIVIDER_CHANGE (R210): divide by n + 1. -/
def execDividerChange (drv : Fin 1536) (n : Fin 8) (s : State) : Out :=
  .next (onDriver s drv fun x => { x with div := n + 1 })

/-- CE_FALL (R211). -/
def execCeFall (drv : Fin 1536) (s : State) : Out := .next (lowerCe s drv)

/-- CE_RISE (R211). -/
def execCeRise (drv : Fin 1536) (s : State) : Out := .next (raiseCe s drv)

/-- PORT_IDLE_REPORT (R211, R247). -/
def execPortIdleReport (g : IdleGate) (s : State) : Out :=
  .next (match g with
  | .driver d => driverIdle s d
  | .unit u => unitIdle s u)

/-- GATE_IDLE_TIMEOUT (R211). -/
def execGateIdleTimeout (drv : Fin 1536) (s : State) : Out := .next (driverTimeout s drv)

/-- TALLY (R222). -/
def execTally (r : Req) (p : Fin 64) (v : Nat) (s : State) : Out :=
  .next (submit s r (ent (pinIdx p) 6) (.num v) (plainRule (ent (pinIdx p) 6)))

/-- SELVAGE_STATUS_DRIVE (R220): 10 ns after the tick. -/
def execSelvageStatusDrive (s : State) : Out :=
  .next (if s.fab.phase = 1 ∧ s.ruling.window then
    let s := s.waitUntil (s.ruling.windowAt + 10)
    { s with fab := { s.fab with phase := 2 } }
  else s)

/-- A level behind a filter of `f` ps that has stood for `w` ps (R215): rejected below `f`, passed from `f` + 2.5 ns on, either in
between. -/
def filterPasses (f w : Nat) : Option Bool := if w < f then some false else if f + 2500 ≤ w then some true else none

/-- GPI_SAMPLE (R215, R220, R223): 400 ns after the tick. A level that has stood for less than 20 ns is rejected: the pin samples the
level before it. -/
def execGpiSample (levels brief : BitVec 64) (s : State) : Out :=
  .next (if s.ruling.window ∧ s.selvageOn then
    (List.range 64).foldl (fun s p => if s.num (pinIdx p) 1 = 2 then samplePin s p (levels.getLsbD p != brief.getLsbD p) else s)
      (s.waitUntil (s.ruling.windowAt + 400))
  else s)

/-- SELVAGE_USER_PHASE_RESUME (R220): 10 ns after the window closes. -/
def execSelvageUserPhaseResume (s : State) : Out :=
  .next (if s.fab.phase = 3 then
    let s := s.waitUntil (s.ruling.windowAt + s.windowNs + 10)
    { s with fab := { s.fab with phase := 0 } }
  else s)

end Sys2Proof.Machine
end

