-- ==== Sys2Proof/Machine/Store.lean ====
section
/-! DEFINITION. Memory contents and the device physical address map (R438, R439, R445 to R447), and target NIs (R432). -/

namespace Sys2Proof.Machine

/-! ### Contents -/

/-- A byte of memory; a byte that nothing has written reads 0 (DESIGN CHOICE, log entry 3). -/
def memRead : List Host.Cell → Nat → Byte
  | [], _ => 0
  | (k, v) :: r, a => if k = a then v else memRead r a

/-- Write a byte: addresses stay strictly rising, and a byte that reads as an unlisted one is not listed. -/
def memWrite : List Host.Cell → Nat → Byte → List Host.Cell
  | [], a, v => if v = 0 then [] else [(a, v)]
  | (k, w) :: r, a, v =>
    if k = a then (if v = 0 then r else (a, v) :: r)
    else if a < k then (if v = 0 then (k, w) :: r else (a, v) :: (k, w) :: r)
    else (k, w) :: memWrite r a v

/-- The canonical form: addresses strictly rising from `lo`, and no listed byte 0. -/
def memFrom : Nat → List Host.Cell → Bool
  | _, [] => true
  | lo, (k, v) :: r => decide (lo ≤ k) && v != 0 && memFrom (k + 1) r

/-- The canonical form of memory. -/
def Memory.wf (m : List Host.Cell) : Bool := memFrom 0 m

/-- `n` bytes from an address. -/
def memReads (m : List Host.Cell) (a n : Nat) : List Byte := (List.range n).map fun i => memRead m (a + i)

/-- Write bytes from an address on. -/
def memWrites (m : List Host.Cell) (a : Nat) : List Byte → List Host.Cell
  | [] => m
  | v :: r => memWrites (memWrite m a v) (a + 1) r

/-- Bytes of memory by location. -/
def State.bytes (s : State) (a n : Nat) : List Byte := memReads s.mem.bytes a n

/-- Write bytes by location. -/
def State.store (s : State) (a : Nat) (b : List Byte) : State := { s with mem := { s.mem with bytes := memWrites s.mem.bytes a b } }

/-- Forget the contents at the locations that satisfy a test (contents lost or not defined: R454, R459; log entry 3). -/
def State.forget (s : State) (p : Nat → Bool) : State :=
  { s with mem := { s.mem with bytes := s.mem.bytes.filter fun c => !p c.1 } }

/-! ### The address map (R438) -/

/-- What a device physical address reaches. -/
inductive Place where
  | dram (slot loc : Nat)
  | archive (b off : Nat)
  | staging (e off : Nat)
  | fabric (port : Nat)
  deriving DecidableEq, Repr

/-- The map of R438 by address alone. -/
def placeOf (a : Nat) : Option Place :=
  let rest := a % 2 ^ 44
  if rest < 2 ^ 37 then some (.dram (a / 2 ^ 44) rest)
  else if a / 2 ^ 44 ≠ 0 then none
  else if 0x0E0000000000 ≤ rest ∧ rest < 0x0E0000000000 + 4 * 0x04000000 then
    some (.archive ((rest - 0x0E0000000000) / 0x04000000) (rest % 0x04000000))
  else if 0x0E8000000000 ≤ rest ∧ rest < 0x0E8000000000 + 8 * 0x200000 then
    some (.staging ((rest - 0x0E8000000000) / 0x200000) (rest % 0x200000))
  else if 0x0F0000000000 ≤ rest ∧ rest < 0x0F0000000000 + 32 * 0x100000000 then
    some (.fabric ((rest - 0x0F0000000000) / 0x100000000))
  else none

/-- The bolt of a DRAM location (R445). -/
def boltOf (loc : Nat) : Nat := loc / 2 ^ 35 % 4

/-- The enabled channels of a bolt, ascending (R444, R445). -/
def channelsOf (s : State) (b : Nat) : List Nat := ((List.range 8).map (8 * b + ·)).filter fun c => s.num 0x0A0000 1 / 2 ^ c % 2 = 1

/-- Capacity of a channel in bytes: ranks times 128 MiB per Gb of density (R444). -/
def channelBytes (s : State) (c : Nat) : Nat := s.num (0x0A0100 + c) 2 * s.num (0x0A0100 + c) 3 * 2 ^ 27

/-- Capacity of a bolt's region (R445): n times the smallest channel that training has measured. -/
def regionBytes (s : State) (b : Nat) : Nat :=
  let caps := ((channelsOf s b).map (channelBytes s)).filter (0 < ·)
  match caps with
  | [] => 0
  | c :: r => (channelsOf s b).length * r.foldl min c

/-- The channel and channel address of a DRAM location (R445); none beyond the region's capacity. -/
def channelAt (s : State) (loc : Nat) : Option (Nat × Nat) :=
  let cs := channelsOf s (boltOf loc)
  let o := loc % 2 ^ 35
  let g := o / 256
  if regionBytes s (boltOf loc) ≤ o then none
  else cs[g % cs.length]?.map fun c => (c, g / cs.length * 256 + o % 256)

/-- First archive offset of a bolt claimed for its counter cache (R442, R471). -/
def cacheFloor (s : State) (b : Nat) : Nat := 0x04000000 - s.num 0x0B0000 (5 + b) * 0x100000

/-- The target of an address for an initiator (R415, R438, R442). -/
def targetOf (s : State) (init a : Nat) : Option Nat :=
  match placeOf a with
  | none => none
  | some (.dram _ loc) => (channelAt s loc).map (·.1)
  | some (.archive b off) =>
    if cacheFloor s b ≤ off ∧ init ≠ 0x54 + b ∧ init ≠ 0x58 + b then none else some (0x20 + 4 * b + off / 256 % 4)
  | some (.staging e _) => some (0x30 + e)
  | some (.fabric p) => some (0x40 + p)

/-- Where the bytes of an address are kept: DRAM by location, the rest at its map address. -/
def locationOf (a : Nat) : Nat := match placeOf a with
  | some (.dram _ loc) => loc
  | _ => a

/-! ### Channel address fields (R446, R447) -/

/-- Row bits of a rank density. -/
def rowBits (density : Nat) : Nat := if density = 2 then 14 else if density = 4 then 15 else if density = 8 then 16 else 17

/-- Parity of a number's bits below 64. -/
def parity (x : Nat) : Nat := ((List.range 64).filter fun i => x / 2 ^ i % 2 = 1).length % 2

/-- Rank, bank and row of a channel address. -/
def fieldsOf (s : State) (c a : Nat) : Nat × Nat × Nat :=
  let r := rowBits (s.num (0x0A0100 + c) 3)
  let b := 0x0A0010 + c / 8
  (if s.num (0x0A0100 + c) 2 = 2 then a / 2 ^ (14 + r) % 2 else 0,
   parity (a &&& s.num b 7) + 2 * parity (a &&& s.num b 8) + 4 * parity (a &&& s.num b 9),
   a / 2 ^ 14 % 2 ^ r)

/-- BANK_MASK i (R447). -/
def bankMaskOk (i m : Nat) : Bool :=
  m < 2 ^ 32 && (List.range 3).all fun j => m / 2 ^ (11 + j) % 2 == (if j = i then 1 else 0)

/-- BANK_MASK (R447). -/
def bankMaskRule (b i : Nat) : Rule :=
  { plainRule (ent (0x0A0010 + b) (4 + i)) with
    check := fun _ _ v => if bankMaskOk i (valNum v) then none else some (stTypeMismatch, 0) }

/-- PD_IDLE is 0 or 16 and up (R460). -/
def pdIdleRule : Rule :=
  { plainRule (ent 0x0A0000 4) with
    check := fun _ _ v => if valNum v = 0 ∨ 16 ≤ valNum v then none else some (stTypeMismatch, 0) }

/-! ### Target NIs (R432) -/

/-- NI states (R436). -/
def niOnline : Nat := 0
def niDraining : Nat := 1
def niOffline : Nat := 2

/-- State of a target's NI. -/
def State.ni (s : State) (t : Nat) : Nat := s.num (0x090800 + t) 1

/-- A target's NI changes state: event A0Bh. -/
def putNi (s : State) (t st : Nat) : State :=
  if s.ni t = st then s else (s.put (0x090800 + t) 1 st).raise 0xA0B t (be 1 st)

/-- Requests accepted at a target and not answered. -/
def acceptedAt (s : State) (t : Nat) : List NocPkt := s.noc.accepted.filter fun p => p.target = t

/-- Start the drain of a target (R432). -/
def drainNi (s : State) (t : Nat) : State := if s.ni t = niOnline then putNi s t niDraining else s

/-- A packet enters the NoC. -/
def inject (s : State) (p : NocPkt) : State := { s with noc := { s.noc with flight := s.noc.flight ++ [p] } }

/-- Kinds of packet (R417). -/
def kRead : Nat := 0
def kWrite : Nat := 1
def kPartial : Nat := 2
def kReadResp : Nat := 3
def kWriteAck : Nat := 4
def kErrorResp : Nat := 5

/-- The response to a request (R418). -/
def responseTo (p : NocPkt) (kind status : Nat) (data : List Byte) : NocPkt :=
  { p with kind := kind, status := status, data := data, mask := 0, granules := if kind = kReadResp then p.granules else 1,
           keepOpen := false }

/-- Remove the first packet equal in initiator, tag and target. -/
def dropReq (l : List NocPkt) (p : NocPkt) : List NocPkt :=
  l.eraseP fun q => q.init = p.init ∧ q.tag = p.tag ∧ q.target = p.target

/-- A target answers a request it accepted. -/
def answerReq (s : State) (p : NocPkt) (kind status : Nat) (data : List Byte) : State :=
  inject { s with noc := { s.noc with accepted := dropReq s.noc.accepted p } } (responseTo p kind status data)

/-- A target NI refuses a request (R432, R463): ERROR_RESP carrying TARGET_UNAVAILABLE, counted. -/
def refuseReq (s : State) (p : NocPkt) : State :=
  inject (s.count (0x090800 + p.target) 3 64 1) (responseTo p kErrorResp stTargetUnavailable [])

end Sys2Proof.Machine
end

