-- ==== Sys2Proof/Machine/Flit.lean ====
section
/-! DEFINITION. The network on chip below its packets: headers, flits, transfers, virtual channels, router outputs and the way of a
packet over the links (R412, R413, R416 to R422, R429, R430). -/

namespace Sys2Proof.Machine

/-! ### Headers and flits (R416 to R418) -/

/-- Whether a packet is a request. -/
def isRequest (p : NocPkt) : Bool := p.kind ≤ kPartial

/-- HPAR of a header (R417): bit i is the parity of 15 header bits. -/
def headerParity (h : Nat) : Nat := ((List.range 8).map fun i => parity (h / 2 ^ (8 + 15 * i) % 2 ^ 15) * 2 ^ i).sum

/-- The 128 header bits of a packet (R417). -/
def headerBits (p : NocPkt) : Nat :=
  let h := joinBits ([(4, p.kind), (1, p.epoch), (2, p.cls), (1, if p.panic then 1 else 0), (8, p.target), (10, p.init), (12, p.tag),
    (1, if p.keepOpen then 1 else 0), (5, p.granules - 1), (4, 0), (48, p.addr), (16, p.status), (16, 0)].map
      fun f => (f.1, f.2 % 2 ^ f.1))
  h + headerParity h

/-- Data flits of a packet (R418). -/
def dataFlits (p : NocPkt) : Nat := if p.kind = kWrite ∨ p.kind = kPartial ∨ p.kind = kReadResp then p.granules else 0

/-- The payloads of a packet's flits (R417, R418): the header in [511:384] with the byte mask of a partial write in [383:320], then
a granule a flit, its lowest byte in [511:504]. -/
def payloads (p : NocPkt) : List Nat :=
  (headerBits p * 2 ^ 384 + (if p.kind = kPartial then p.mask % 2 ^ 64 * 2 ^ 320 else 0))
    :: (List.range (dataFlits p)).map fun g =>
      let b := slice p.data (64 * g) 64
      unbe b * 256 ^ (64 - b.length)

/-- CHECK of a payload (R416): 8 SECDED bits over each 64 bits. -/
def checkBits (payload : Nat) : Nat :=
  ((List.range 8).map fun w => Config.flitCheck (payload / 2 ^ (64 * w) % 2 ^ 64) % 256 * 2 ^ (8 * w)).sum

/-! ### Transfers (R416, R420, R429) -/

/-- The virtual channel of a packet on a link (R420): requests and responses, and on seam links real-time ones apart. -/
def virtualChannel (l : Nat) (p : NocPkt) : Nat :=
  let rsp := if isRequest p then 0 else 1
  if l < 144 then rsp else 2 * rsp + if p.cls = 2 then 0 else 1

/-- The control word of a transfer that carries a flit (R416). -/
def controlWord (head tail : Bool) (vc seq : Nat) : Nat :=
  let w := 2 ^ 11 + (if head then 2 ^ 10 else 0) + (if tail then 2 ^ 9 else 0) + vc % 4 * 2 ^ 7 + seq % 64 * 2
  w + parity w

/-- The control word of an idle cycle (R416): not VALID, with its parity. -/
def idleControl (seq : Nat) : Nat := seq % 64 * 2 + parity (seq % 64 * 2)

/-- The transfers of a packet on a link (R416, R418, R429): one a flit, or on a narrow link two, the lower half first. -/
def transfersOf (narrow : Bool) (vc seq : Nat) (p : NocPkt) : List Transfer :=
  let n := dataFlits p
  let one := fun (i k : Nat) (x : Nat) (h : Option Bool) =>
    { payload := x, check := checkBits x, ctl := controlWord (i == 0) (i == n) vc (seq + k), half := h : Transfer }
  if narrow then
    ((payloads p).mapIdx fun i x => [one i (2 * i) x (some false), one i (2 * i + 1) x (some true)]).flatten
  else (payloads p).mapIdx fun i x => one i i x none

/-- What a lane carries of a transfer (R416, R429): 256 payload bits, 32 CHECK bits and its copy of the control word. -/
def laneWord (t : Transfer) (lane : Bool) : Nat × Nat × Nat :=
  let up := t.half.getD lane
  (t.payload / 2 ^ (if up then 256 else 0) % 2 ^ 256, t.check / 2 ^ (if up then 32 else 0) % 2 ^ 32, t.ctl)

/-- What an idle direction carries in a cycle (R416): the whitened pattern with valid CHECK and parity. -/
def idleTransfer (l d n : Nat) : Transfer :=
  let x := Config.idlePattern l d n % 2 ^ 512
  { payload := x, check := checkBits x, ctl := idleControl n }

/-- Whether a lane's checks fail for the bits that changed on the way (R416, R426): payload 0 to 255, CHECK 256 to 287, control word
288 to 299. A changed 72-bit word fails its syndrome, an odd number of changed control bits its parity. -/
def laneFaulty (flips : Flips) : Bool :=
  let l := flips.eraseDups
  (l.any fun i => i.val < 288) || (l.filter fun i => 288 ≤ i.val).length % 2 == 1

/-! ### Links (R412, R426) -/

/-- Index of a link record. -/
def linkIdx (l : Nat) : Nat := 0x090200 + l

/-- Link states (R436). -/
def lkFull : Nat := 0
def lkNarrowing : Nat := 1
def lkNarrow : Nat := 2
def lkFailed : Nat := 3

/-- Change the part of a link beside its entries. -/
def State.setLink (s : State) (l : Nat) (f : LinkHid → LinkHid) : State :=
  { s with noc := { s.noc with links := tput s.noc.links l (f (tgetD s.noc.links l {})) } }

/-- The part of a link beside its entries. -/
def State.link (s : State) (l : Nat) : LinkHid := tgetD s.noc.links l {}

/-- A direction of a link. -/
def LinkHid.dir (x : LinkHid) (back : Bool) : LinkDir := if back then x.rev else x.fwd

/-- A direction after its sender has sent transfers: the last 32 are kept (R426). -/
def LinkDir.send (x : LinkDir) (ts : List Transfer) : LinkDir :=
  let l := x.sent ++ ts
  { x with seq := (x.seq + ts.length) % 64, sent := l.drop (l.length - 32) }

/-- A packet crosses a direction of a link: its transfers are sent, and counted in the link's record (R416, R436). -/
def crossLink (s : State) (l : Nat) (back : Bool) (p : NocPkt) : State :=
  let narrow := s.num (linkIdx l) 4 / (if back then 4 else 1) % 4 != 0
  let ts := transfersOf narrow (virtualChannel l p) ((s.link l).dir back).seq p
  (s.count (linkIdx l) 7 64 ts.length).setLink l fun x =>
    if back then { x with rev := x.rev.send ts } else { x with fwd := x.fwd.send ts }

/-- The link at a router port, and whether it is left from its end 1 (R412, R436). -/
def linkAt (s : State) (port : Nat) : Option (Nat × Bool) :=
  (List.range 160).findSome? fun l =>
    if s.num (linkIdx l) 1 = port then some (l, false) else if s.num (linkIdx l) 2 = port then some (l, true) else none

/-! ### Router outputs (R421) -/

/-- The rank of a packet among the heads that wait for an output. -/
def rankOf (p : NocPkt) : Nat := if p.cls = 2 then (if p.panic then 0 else 1) else if p.cls = 1 then 2 else 3

/-- The next of some input ports, round-robin after the last one served. -/
def nextTurn (last : Nat) (ports : List Nat) : Option Nat :=
  ((List.range 8).map fun i => (last + 1 + i) % 8).find? fun q => ports.contains q

/-- The head that an output takes among those that wait, given by input port and rank: a bulk head that 15 best-effort ones have
passed goes before another. -/
def OutPort.choose (o : OutPort) (heads : List (Nat × Nat)) : Option (Nat × Nat) :=
  let of_ := fun r => (heads.filter fun h => h.2 = r).map (·.1)
  let rank := if of_ 0 ≠ [] then 0 else if of_ 1 ≠ [] then 1 else if of_ 3 ≠ [] ∧ 15 ≤ o.passed then 3 else if of_ 2 ≠ [] then 2 else 3
  (nextTurn (o.served.getD rank 7) (of_ rank)).map fun q => (q, rank)

/-- An output after it has taken a head; `bulk` says that a bulk head waits on. -/
def OutPort.take (o : OutPort) (port rank : Nat) (bulk : Bool) : OutPort :=
  { o with served := o.served.set rank port,
           passed := if rank = 2 then (if bulk then o.passed + 1 else 0) else if rank = 3 then 0 else o.passed }

/-! ### The way of a packet (R419, R422, R424, R429, R430) -/

/-- The device table that routes the packets of an epoch (R422, R424). -/
def tableOf (s : State) (epoch : Nat) : List Byte := if epoch = s.num 0x090000 3 then s.oct 0x090011 0 else s.noc.oldTable

/-- The output that router `r` gives a packet (R422): the request table by TARGET, the response table by INITIATOR. -/
def routeOf (s : State) (p : NocPkt) (r : Nat) : Option Nat :=
  let e := fieldBE (tableOf s p.epoch) (1280 * r + if isRequest p then p.target else 256 + p.init) 1
  if e / 16 % 2 = 1 then some (e / 32 % 8) else none

/-- What becomes of a packet on its way: it cannot have come through, a FAILED link stops it, or it reaches its NI. -/
inductive Travel where
  | held
  | stopped (s : State)
  | through (s : State)

/-- A packet's way from router to router, `at_` the port the link before led to. Each output is the one the tables give, and takes
the packet before the heads that wait beside it; a NARROWING link holds its traffic. -/
def travel (s : State) (p : NocPkt) (at_ : Option Nat) : List Hop → Travel
  | [] => .held
  | h :: rest =>
    let out := 8 * h.router.val + h.outPort.val
    let o := tgetD s.noc.outs out {}
    let mine := (h.inPort.val, rankOf p)
    if at_.any (· != 8 * h.router.val + h.inPort.val) then .held
    else if routeOf s p h.router ≠ some h.outPort.val then .held
    else if o.choose (mine :: h.others.map fun w => (w.port.val, w.rank.val)) ≠ some mine then .held
    else
      let s := { s with noc := { s.noc with outs := tput s.noc.outs out (o.take mine.1 mine.2 (h.others.any fun w => w.rank.val == 3)) } }
      match linkAt s out with
      | none => if rest.isEmpty then .through s else .held
      | some (l, back) =>
        if s.num (linkIdx l) 3 = lkFailed then .stopped (s.setLink l fun x => if isRequest p then x else { x with absorbed := x.absorbed + 1 })
        else if s.num (linkIdx l) 3 = lkNarrowing then .held
        else travel (crossLink s l back p) p (some (s.num (linkIdx l) (if back then 1 else 2))) rest

/-- The packet in flight that an arrival names by initiator, target, tag and direction; one that no initiator of the model sent comes
as it is given. -/
def inFlight (s : State) (p : NocPkt) : NocPkt :=
  (s.noc.flight.find? fun q => q.init = p.init ∧ q.target = p.target ∧ q.tag = p.tag ∧ isRequest q = isRequest p).getD p

/-- Whether a packet is the next of its initiator and target to arrive (R419), and its head is not held at its NI by a swap
(R424). -/
def mayArrive (s : State) (p : NocPkt) : Bool :=
  let line := s.noc.flight.filter fun q => q.init = p.init ∧ q.target = p.target ∧ isRequest q = isRequest p
  (!(line.any fun q => q.tag == p.tag) || line.head?.any fun q => q.tag == p.tag)
    && !(s.noc.swapDue && isRequest p && p.epoch != s.num 0x090000 3)

/-- Wrong words of a packet at its NI (R427), from the bits of its flits that changed (0 to 511 payload, 512 to 575 CHECK): words
with one wrong bit, and words with more. -/
def wrongWords (p : NocPkt) (flips : List (Nat × Nat)) : Nat × Nat :=
  let bad := flips.eraseDups.filter fun f => f.1 ≤ dataFlits p ∧ f.2 < 576
  let words := bad.map fun f => (f.1, if f.2 < 512 then f.2 / 64 else (f.2 - 512) / 8)
  let ws := words.eraseDups
  ((ws.filter fun w => words.count w = 1).length, (ws.filter fun w => 1 < words.count w).length)

/-! ### Statistics (R435) -/

/-- Index of an initiator's statistics record. -/
def initIdx (i : Nat) : Nat := 0x090400 + i

/-- A histogram with one more latency in its bin. -/
def histAdd (h : List Byte) (bin : Nat) : List Byte :=
  (List.range 16).flatMap fun k => be 4 ((fieldBE h (4 * k) 4 + (if k = bin then 1 else 0)) % 2 ^ 32)

/-- Statistics of a transaction of `bytes` bytes that completes with a latency. -/
def addTransaction (s : State) (i bytes lat : Nat) : State :=
  let n := s.num (initIdx i) 3 + 1
  let sum := tgetD s.noc.latSum i 0 + lat
  let s := (s.count (initIdx i) 2 64 bytes).count (initIdx i) 3 64 1
  let s := s.put (initIdx i) 4 (if n = 1 then lat else min (s.num (initIdx i) 4) lat)
  let s := (s.put (initIdx i) 5 (max (s.num (initIdx i) 5) lat)).put (initIdx i) 6 (sum / n)
  let s := s.putOct (initIdx i) 7 (histAdd (s.oct (initIdx i) 7) (min 15 (lat / s.num 0x090000 6)))
  { s with noc := { s.noc with latSum := tput s.noc.latSum i sum,
                               pickBytes := tput s.noc.pickBytes i (tgetD s.noc.pickBytes i 0 + bytes) } }

/-- A transaction completes: those of the present cycle are kept, as a STATS_CLEAR of the cycle counts them after it. -/
def completeTransaction (s : State) (i bytes lat : Nat) : State :=
  let s := addTransaction s i bytes lat
  { s with noc := { s.noc with recent := (s.noc.recent.filter fun r => r.at_ = s.now) ++ [{ at_ := s.now, init := i, bytes := bytes, lat := lat }] } }

/-- A burst of granules that an engine has moved over the NoC within a command: packets of `per` granules, with latencies that the
spec does not fix (log entries 9 and 10). -/
def noteTraffic (s : State) (i per : Nat) : Nat → Nat → State
  | _, 0 => s
  | 0, _ => s
  | fuel + 1, n =>
    noteTraffic (completeTransaction s.draw i (64 * min per n) (s.freeValue 32)) i per fuel (n - min per n)

end Sys2Proof.Machine
end

