-- ==== Sys2Proof/Machine/Crypto.lean ====
section
/-! DEFINITION. Checksums (R148) and the published algorithms that the spec names and does not restate: SHA-2, HMAC, HKDF,
AES, AES key wrap, AES-CMAC and ECDSA P-384 (log entry 11, PRESUMED from their standards). -/

namespace Sys2Proof.Machine

/-! ### Checksums -/

/-- One byte of a reflected CRC. -/
def crcByte (poly crc : Nat) (b : Byte) : Nat :=
  (List.range 8).foldl (fun c _ => if c % 2 = 1 then (c / 2) ^^^ poly else c / 2) (crc ^^^ b.toNat)

/-- CRC-32C (R148): Castagnoli 1EDC_6F41h, reflected, initial value and final exclusive-or FFFF_FFFFh. -/
def crc32c (b : List Byte) : Nat := b.foldl (crcByte 0x82F63B78) 0xFFFFFFFF ^^^ 0xFFFFFFFF

/-- The running CRC-64 over more bytes (R148): ECMA-182 42F0_E1EB_A9EA_3693h, reflected. -/
def crc64More (crc : Nat) (b : List Byte) : Nat := b.foldl (crcByte 0xC96C5795D7870F42) crc

/-- The final exclusive-or of CRC-64 (R148). -/
def crc64End (crc : Nat) : Nat := crc ^^^ 0xFFFFFFFFFFFFFFFF

/-- Bytes of 32-bit words, most significant byte first (R148). -/
def wordBytes (ws : List Nat) : List Byte := ws.flatMap (be 4)

/-- Exclusive-or of byte strings. -/
def xorBytes (a b : List Byte) : List Byte := a.zipWith (· ^^^ ·) b

/-! ### SHA-2 -/

/-- Rotate right in a word of `w` bits. -/
def rotr (w n x : Nat) : Nat := x / 2 ^ n + (x % 2 ^ n) * 2 ^ (w - n)

/-- The first `n` primes, by trial division. -/
def primesUpTo (bound : Nat) : List Nat :=
  (List.range bound).filter fun p => 2 ≤ p && (List.range p).all fun d => d < 2 || p % d != 0

/-- Integer cube root by bisection: the greatest `r` below `lo + 2^n` with `r^3 ≤ x`. -/
def cubeRoot (x : Nat) : Nat → Nat → Nat
  | 0, lo => lo
  | n + 1, lo => if (lo + 2 ^ n) ^ 3 ≤ x then cubeRoot x n (lo + 2 ^ n) else cubeRoot x n lo

/-- Shape of a SHA-2 function: word size, rounds, rotations of the four sigma functions. -/
structure Sha where
  w : Nat
  rounds : Nat
  s0 : List Nat
  s1 : List Nat
  e0 : List Nat
  e1 : List Nat
  init : List Nat

/-- Round constants: fractional bits of the cube roots of the first primes (FIPS 180). -/
def Sha.consts (h : Sha) : List Nat :=
  ((primesUpTo 410).take h.rounds).map fun p => cubeRoot (p * 2 ^ (3 * h.w)) (h.w + 4) 0 % 2 ^ h.w

/-- SHA-256 (FIPS 180). -/
def sha256 : Sha :=
  { w := 32, rounds := 64, s0 := [7, 18, 3], s1 := [17, 19, 10], e0 := [2, 13, 22], e1 := [6, 11, 25],
    init := ((primesUpTo 20).take 8).map fun p => Nat.sqrt (p * 2 ^ 64) % 2 ^ 32 }

/-- SHA-384 (FIPS 180): its initial value comes from the ninth to sixteenth primes. -/
def sha384 : Sha :=
  { w := 64, rounds := 80, s0 := [1, 8, 7], s1 := [19, 61, 6], e0 := [28, 34, 39], e1 := [14, 18, 41],
    init := (((primesUpTo 60).drop 8).take 8).map fun p => Nat.sqrt (p * 2 ^ 128) % 2 ^ 64 }

/-- A small sigma: two rotations and a shift. -/
def Sha.small (h : Sha) (r : List Nat) (x : Nat) : Nat :=
  rotr h.w (r.getD 0 0) x ^^^ rotr h.w (r.getD 1 0) x ^^^ x / 2 ^ r.getD 2 0

/-- A big sigma: three rotations. -/
def Sha.big (h : Sha) (r : List Nat) (x : Nat) : Nat :=
  rotr h.w (r.getD 0 0) x ^^^ rotr h.w (r.getD 1 0) x ^^^ rotr h.w (r.getD 2 0) x

/-- The message schedule, latest word first. -/
def Sha.extend (h : Sha) : Nat → List Nat → List Nat
  | 0, ws => ws
  | n + 1, ws =>
    h.extend n ((h.small h.s1 (ws.getD 1 0) + ws.getD 6 0 + h.small h.s0 (ws.getD 14 0) + ws.getD 15 0) % 2 ^ h.w :: ws)

/-- One round. -/
def Sha.round (h : Sha) (v : List Nat) (kw : Nat × Nat) : List Nat :=
  match v with
  | [a, b, c, d, e, f, g, x] =>
    let full := 2 ^ h.w - 1
    let t1 := x + h.big h.e1 e + ((e &&& f) ^^^ ((full - e) &&& g)) + kw.1 + kw.2
    let t2 := h.big h.e0 a + ((a &&& b) ^^^ (a &&& c) ^^^ (b &&& c))
    [(t1 + t2) % 2 ^ h.w, a, b, c, (d + t1) % 2 ^ h.w, e, f, g]
  | _ => v

/-- Words of a block. -/
def Sha.words (h : Sha) (b : List Byte) : List Nat := (List.range 16).map fun i => fieldBE b (i * (h.w / 8)) (h.w / 8)

/-- Compress the blocks of a padded message. -/
def Sha.blocks (h : Sha) (ks : List Nat) : Nat → List Byte → List Nat → List Nat
  | 0, _, v => v
  | n + 1, b, v =>
    let ws := (h.extend (h.rounds - 16) (h.words b).reverse).reverse
    let u := (ks.zip ws).foldl h.round v
    h.blocks ks n (b.drop (2 * h.w)) ((v.zip u).map fun p => (p.1 + p.2) % 2 ^ h.w)

/-- The digest words of a message. -/
def Sha.digest (h : Sha) (m : List Byte) : List Nat :=
  let blk := 2 * h.w
  let tail := h.w / 4
  let zeros := (blk - (m.length + 1 + tail) % blk) % blk
  let padded := m ++ [0x80] ++ List.replicate zeros 0 ++ be tail (8 * m.length)
  h.blocks h.consts (padded.length / blk) padded h.init

/-- SHA-256 of a message, 32 bytes. -/
def hash256 (m : List Byte) : List Byte := (sha256.digest m).flatMap (be 4)

/-- SHA-384 of a message, 48 bytes. -/
def hash384 (m : List Byte) : List Byte := ((sha384.digest m).take 6).flatMap (be 8)

/-- HMAC-SHA-256 (RFC 2104). -/
def hmac256 (key m : List Byte) : List Byte :=
  let k := if 64 < key.length then hash256 key else key
  let k := k ++ List.replicate (64 - k.length) 0
  hash256 (k.map (· ^^^ 0x5C) ++ hash256 (k.map (· ^^^ 0x36) ++ m))

/-- HKDF-SHA-256 expansion of `n` blocks (RFC 5869). -/
def hkdfBlocks (prk info : List Byte) : Nat → Nat → List Byte → List Byte
  | 0, _, _ => []
  | n + 1, i, prev =>
    let t := hmac256 prk (prev ++ info ++ be 1 i)
    t ++ hkdfBlocks prk info n (i + 1) t

/-- HKDF-SHA-256, extract then expand to 32 n bytes (RFC 5869). -/
def hkdf256 (ikm salt info : List Byte) (n : Nat) : List Byte := hkdfBlocks (hmac256 salt ikm) info n 1 []

/-! ### AES -/

/-- Multiplication by x in the field of AES (FIPS 197). -/
def xtime (a : Nat) : Nat := if 128 ≤ a then (a * 2 % 256) ^^^ 0x1B else a * 2

/-- Multiplication in the field of AES by a constant below 16. -/
def gmul (c x : Nat) : Nat :=
  let x2 := xtime x
  let x4 := xtime x2
  (if c % 2 = 1 then x else 0) ^^^ (if c / 2 % 2 = 1 then x2 else 0) ^^^ (if c / 4 % 2 = 1 then x4 else 0)
    ^^^ (if 8 ≤ c then xtime x4 else 0)

/-- The S-box (FIPS 197), a row of 16 bytes in each number. -/
def sboxRows : List Nat :=
  [0x637c777bf26b6fc53001672bfed7ab76, 0xca82c97dfa5947f0add4a2af9ca472c0, 0xb7fd9326363ff7cc34a5e5f171d83115,
   0x04c723c31896059a071280e2eb27b275, 0x09832c1a1b6e5aa0523bd6b329e32f84, 0x53d100ed20fcb15b6acbbe394a4c58cf,
   0xd0efaafb434d338545f9027f503c9fa8, 0x51a3408f929d38f5bcb6da2110fff3d2, 0xcd0c13ec5f974417c4a77e3d645d1973,
   0x60814fdc222a908846eeb814de5e0bdb, 0xe0323a0a4906245cc2d3ac629195e479, 0xe7c8376d8dd54ea96c56f4ea657aae08,
   0xba78252e1ca6b4c6e8dd741f4bbd8b8a, 0x703eb5664803f60e613557b986c11d9e, 0xe1f8981169d98e949b1e87e9ce5528df,
   0x8ca1890dbfe6426841992d0fb054bb16]

/-- The inverse S-box (FIPS 197). -/
def invSboxRows : List Nat :=
  [0x52096ad53036a538bf40a39e81f3d7fb, 0x7ce339829b2fff87348e4344c4dee9cb, 0x547b9432a6c2233dee4c950b42fac34e,
   0x082ea16628d924b2765ba2496d8bd125, 0x72f8f66486689816d4a45ccc5d65b692, 0x6c704850fdedb9da5e154657a78d9d84,
   0x90d8ab008cbcd30af7e45805b8b34506, 0xd02c1e8fca3f0f02c1afbd0301138a6b, 0x3a9111414f67dcea97f2cfcef0b4e673,
   0x96ac7422e7ad3585e2f937e81c75df6e, 0x47f11a711d29c5896fb7620eaa18be1b, 0xfc563e4bc6d279209adbc0fe78cd5af4,
   0x1fdda8338807c731b11210592780ec5f, 0x60517fa919b54a0d2de57a9f93c99cef, 0xa0e03b4dae2af5b0c8ebbb3c83539961,
   0x172b047eba77d626e169146355210c7d]

/-- A byte of a table. -/
def tableByte (rows : List Nat) (a : Nat) : Nat := rows.getD (a / 16) 0 / 2 ^ (8 * (15 - a % 16)) % 256

/-- S-box. -/
def sbox (a : Nat) : Nat := tableByte sboxRows a

/-- Inverse S-box. -/
def invSbox (a : Nat) : Nat := tableByte invSboxRows a

/-- The key schedule in 4-byte words, latest first: `nk` words of key. -/
def expandKey (nk : Nat) : Nat → Nat → Nat → List (List Nat) → List (List Nat)
  | 0, _, _, ws => ws
  | n + 1, i, rcon, ws =>
    let prev := ws.headD []
    let t := if i % nk = 0 then
        match prev.rotateLeft 1 |>.map sbox with
        | x :: r => (x ^^^ rcon) :: r
        | [] => []
      else if 6 < nk ∧ i % nk = 4 then prev.map sbox else prev
    expandKey nk n (i + 1) (if i % nk = 0 then xtime rcon else rcon) ((ws.getD (nk - 1) []).zipWith (· ^^^ ·) t :: ws)

/-- Round keys of 16 bytes. -/
def roundKeys (key : List Nat) : List (List Nat) :=
  let nk := key.length / 4
  let first := (List.range nk).map fun i => (key.drop (4 * i)).take 4
  let ws := (expandKey nk (4 * (nk + 7) - nk) nk 1 first.reverse).reverse
  (List.range (nk + 7)).map fun r => ((ws.drop (4 * r)).take 4).flatten

/-- Exclusive-or of blocks. -/
def addKey (a b : List Nat) : List Nat := a.zipWith (· ^^^ ·) b

/-- ShiftRows, or its inverse: byte at column c, row r. -/
def shiftRows (inv : Bool) (b : List Nat) : List Nat :=
  (List.range 16).map fun i =>
    let r := i % 4
    let c := i / 4
    b.getD (4 * ((if inv then c + 4 - r else c + r) % 4) + r) 0

/-- MixColumns with the given first column of the matrix. -/
def mixColumns (m : List Nat) (b : List Nat) : List Nat :=
  (List.range 16).map fun i =>
    (List.range 4).foldl (fun a j => a ^^^ gmul (m.getD ((j + 4 - i % 4) % 4) 0) (b.getD (4 * (i / 4) + j) 0)) 0

/-- AES encryption of a block under a key of 16 or 32 bytes (FIPS 197). -/
def aesEnc (key block : List Byte) : List Byte :=
  let ks := roundKeys (key.map (·.toNat))
  let s := addKey (block.map (·.toNat)) (ks.headD [])
  let s := ((ks.drop 1).dropLast).foldl (fun s k => addKey (mixColumns [2, 3, 1, 1] (shiftRows false (s.map sbox))) k) s
  (addKey (shiftRows false (s.map sbox)) (ks.getLastD [])).map (BitVec.ofNat 8)

/-- AES decryption of a block. -/
def aesDec (key block : List Byte) : List Byte :=
  let ks := (roundKeys (key.map (·.toNat))).reverse
  let s := addKey (block.map (·.toNat)) (ks.headD [])
  let s := ((ks.drop 1).dropLast).foldl (fun s k =>
    mixColumns [14, 11, 13, 9] (addKey ((shiftRows true s).map invSbox) k)) s
  (addKey ((shiftRows true s).map invSbox) (ks.getLastD [])).map (BitVec.ofNat 8)

/-- One step of AES key unwrap (RFC 3394), for counter `t` and register `i`. -/
def unwrapStep (kek : List Byte) (p : List Byte × List (List Byte)) (ti : Nat × Nat) : List Byte × List (List Byte) :=
  let b := aesDec kek (xorBytes p.1 (be 8 ti.1) ++ p.2.getD ti.2 [])
  (b.take 8, p.2.set ti.2 (b.drop 8))

/-- AES key unwrap (RFC 3394) of `n` blocks of 8 bytes; `none` where the integrity value is wrong. -/
def keyUnwrap (kek wrapped : List Byte) : Option (List Byte) :=
  let n := wrapped.length / 8 - 1
  let r := (List.range n).map fun i => slice wrapped (8 * (i + 1)) 8
  let steps := ((List.range 6).flatMap fun j => (List.range n).map fun i => (n * j + i + 1, i)).reverse
  let p := steps.foldl (unwrapStep kek) (wrapped.take 8, r)
  if p.1 = List.replicate 8 0xA6 then some p.2.flatten else none

/-- Doubling in the field of CMAC (RFC 4493). -/
def cmacDouble (b : List Byte) : List Byte :=
  let n := unbe b
  be 16 (if 2 ^ 127 ≤ n then (n * 2 % 2 ^ 128) ^^^ 0x87 else n * 2)

/-- AES-CMAC (RFC 4493). -/
def cmac (key m : List Byte) : List Byte :=
  let k1 := cmacDouble (aesEnc key (List.replicate 16 0))
  let k2 := cmacDouble k1
  let n := max 1 (ceilDiv m.length 16)
  let last := m.drop (16 * (n - 1))
  let last := if last.length = 16 then xorBytes last k1
    else xorBytes (last ++ [0x80] ++ List.replicate (15 - last.length) 0) k2
  let x := (List.range (n - 1)).foldl (fun x i => aesEnc key (xorBytes x (slice m (16 * i) 16))) (List.replicate 16 0)
  aesEnc key (xorBytes x last)

/-! ### ECDSA P-384 (FIPS 186) -/

/-- The field prime of P-384. -/
def p384 : Nat := 2 ^ 384 - 2 ^ 128 - 2 ^ 96 + 2 ^ 32 - 1
/-- The order of the base point. -/
def n384 : Nat := 0xffffffffffffffffffffffffffffffffffffffffffffffffc7634d81f4372ddf581a0db248b0a77aecec196accc52973
/-- The curve's constant term. -/
def b384 : Nat := 0xb3312fa7e23ee7e4988e056be3f82d19181d9c6efe8141120314088f5013875ac656398d8a2ed19d2a85c8edd3ec2aef
/-- The base point. -/
def g384 : Nat × Nat :=
  (0xaa87ca22be8b05378eb1c71ef320ad746e1d3b628ba79b9859f741e082542a385502f25dbf55296c3a545e3872760ab7,
   0x3617de4a96262c6f5d9e98bf9292dc29f8f41dbd289a147ce9da3113b5f0b8c00a60b1ce1d7e819d7a431d7c90ea0e5f)

/-- Powers modulo `m`, over the `k` low bits of the exponent. -/
def powMod (m b : Nat) : Nat → Nat → Nat
  | 0, _ => 1
  | k + 1, e =>
    let h := powMod m (b * b % m) k (e / 2)
    if e % 2 = 1 then h * b % m else h

/-- Inverse modulo a prime. -/
def invMod (m a : Nat) : Nat := powMod m (a % m) 384 (m - 2)

/-- Addition on the curve; `none` is the point at infinity. -/
def ecAdd (a b : Option (Nat × Nat)) : Option (Nat × Nat) :=
  match a, b with
  | none, q => q
  | q, none => q
  | some (x1, y1), some (x2, y2) =>
    if x1 = x2 ∧ (y1 + y2) % p384 = 0 then none
    else
      let l := if x1 = x2 then (3 * x1 * x1 + (p384 - 3)) * invMod p384 (2 * y1) % p384
        else (y2 + (p384 - y1)) * invMod p384 (x2 + (p384 - x1)) % p384
      let x3 := (l * l + 2 * p384 - x1 - x2) % p384
      some (x3, (l * (x1 + (p384 - x3)) + (p384 - y1)) % p384)

/-- Multiples of a point, over the `k` low bits of the factor. -/
def ecMul : Nat → Nat → Option (Nat × Nat) → Option (Nat × Nat)
  | 0, _, _ => none
  | k + 1, e, q =>
    let h := ecMul k (e / 2) (ecAdd q q)
    if e % 2 = 1 then ecAdd h q else h

/-- Whether a point lies on the curve. -/
def onCurve (q : Nat × Nat) : Bool :=
  decide (q.1 < p384) && decide (q.2 < p384)
    && q.2 * q.2 % p384 == (q.1 * q.1 % p384 * q.1 + (p384 - 3) * q.1 + b384) % p384

/-- Verify a signature r ‖ s over a SHA-384 digest under an uncompressed public key of 97 bytes (R149). -/
def ecdsaVerify (pub digest sig : List Byte) : Bool :=
  let q := (fieldBE pub 1 48, fieldBE pub 49 48)
  let r := fieldBE sig 0 48
  let t := fieldBE sig 48 48
  if pub.length ≠ 97 ∨ pub.head? ≠ some 4 ∨ sig.length ≠ 96 ∨ !onCurve q ∨ r = 0 ∨ n384 ≤ r ∨ t = 0 ∨ n384 ≤ t then false
  else
    let w := invMod n384 t
    match ecAdd (ecMul 384 (unbe digest * w % n384) (some g384)) (ecMul 384 (r * w % n384) (some q)) with
    | some (x, _) => x % n384 == r
    | none => false

end Sys2Proof.Machine
end

