-- ==== Sys2Proof/Machine/LongCore.lean ====
section
/-! DEFINITION. Long operation slots: states, events and the end of an operation (R113 to R118). -/

namespace Sys2Proof.Machine

/-- Index of a long operation slot. -/
def opIdx (k : Nat) : Nat := 0x0F0100 + k

/-- Long operation states (R113). -/
def opFree : Nat := 0
def opQueued : Nat := 1
def opRunning : Nat := 2
def opSuspending : Nat := 3
def opSuspended : Nat := 4
def opCancelling : Nat := 5
def opSuspendedCancel : Nat := 6
def opDone : Nat := 7
def opFailed : Nat := 8
def opCancelled : Nat := 9

/-- State of slot `k`. -/
def State.opState (s : State) (k : Nat) : Nat := s.num (opIdx k) 5

/-- KIND of slot `k`. -/
def State.opKind (s : State) (k : Nat) : Nat := s.num (opIdx k) 1

/-- TARGET of slot `k`. -/
def State.opTarget (s : State) (k : Nat) : Nat := s.num (opIdx k) 2

/-- PARAMS of slot `k`. -/
def State.opParams (s : State) (k : Nat) : List Byte := s.oct (opIdx k) 3

/-- The part of a slot beside its entries. -/
def State.op (s : State) (k : Nat) : LongOp := s.mgmt.longOps.getD k {}

/-- Change the part of a slot beside its entries. -/
def State.setOp (s : State) (k : Nat) (f : LongOp → LongOp) : State :=
  { s with mgmt := { s.mgmt with longOps := lmod s.mgmt.longOps k f } }

/-- DONE, FAILED and CANCELLED are terminal (R115). -/
def terminal (st : Nat) : Bool := opDone ≤ st && st ≤ opCancelled

/-- Whether an operation is neither FREE nor terminal. -/
def opActive (s : State) (k : Nat) : Bool := s.opState k != opFree && !terminal (s.opState k)

/-- A slot changes state (R115): event 030h with slot, kind, state and result. -/
def putOp (s : State) (k st : Nat) : State :=
  if s.opState k = st then s
  else (s.put (opIdx k) 5 st).raise 0x030 k (be 1 k ++ be 1 (s.opKind k) ++ be 1 st ++ be 2 (s.num (opIdx k) 7))

/-- An operation ends FAILED with its RESULT (R115). -/
def failOp (s : State) (k status detail : Nat) : State :=
  putOp ((s.put (opIdx k) 7 status).put (opIdx k) 8 detail) k opFailed

/-- Whether a SUSPEND or CANCEL of the running operation executed in this cycle (R116). -/
def justControlled (s : State) (k : Nat) : Bool :=
  (s.opState k == opSuspending || s.opState k == opCancelling) && (s.op k).ctlAt == some s.now

/-- Whether the work of an operation may complete: it runs, or a control of this same cycle stopped it (R115, R116). -/
def mayComplete (s : State) (k : Nat) : Bool := s.opState k == opRunning || justControlled s k

/-- An operation ends DONE (R115). The completion wins over a control of the same cycle, which then answers BUSY (R116). -/
def finishOp (s : State) (k : Nat) : State :=
  let s := if justControlled s k then s.reply stBusy 0 else s
  putOp ((s.put (opIdx k) 7 stOk).put (opIdx k) 6 1000000) k opDone

/-- The slot of an operation of a kind on a target that is neither FREE nor terminal. -/
def findOp (s : State) (kind target : Nat) : Option Nat :=
  (List.range 64).find? fun k => opActive s k && s.opKind k == kind && s.opTarget k == target

/-- Progress in parts per million. -/
def ppm (done total : Nat) : Nat := min 1000000 (done * 1000000 / max 1 total)

/-- The records of a ring not later than a sequence number. -/
def upToSeq (upTo : Nat) (t : Tbl EvRec) : Tbl EvRec := t.filter fun e => notLater upTo e.2.seq

/-- PROGRESS of an event-log export (R108): the records copied of those to copy, which are the ring's and the queue's not later
than the newest before START. -/
def showExport (s : State) (k : Nat) : State :=
  let x := s.op k
  let copied := (upToSeq x.upTo x.snap).length
  let waiting := (s.mgmt.queue.filter fun r => notLater x.upTo r.seq).length
  s.put (opIdx k) 6 (ppm copied (copied + waiting))

/-- End every operation of a kind that is not terminal (R480, R507). -/
def failKind (s : State) (kind status : Nat) : State :=
  (List.range 64).foldl (fun s k => if opActive s k && s.opKind k == kind then failOp s k status 0 else s) s

end Sys2Proof.Machine
end

