-- ==== Sys2Proof/Machine/Integrity.lean ====
section
/-! DEFINITION. Key slots, the scrambling mix, tags, the counter tree, protected accesses and rekeying (R462 to R480). -/

namespace Sys2Proof.Machine

/-! ### Slots (R462) -/

/-- Slot states (R483). -/
def slDisabled : Nat := 0
def slInitialising : Nat := 1
def slActive : Nat := 2
def slRekeying : Nat := 3
def slFailed : Nat := 4

/-- Integrity status codes (R484). -/
def stRangeInvalid : Nat := 0x0A01
def stRangeOverlap : Nat := 0x0A02
def stAutoRekey : Nat := 0x0A03

/-- Index of a slot record. -/
def slIdx (k : Nat) : Nat := 0x0B0100 + k

/-- Key slot `k`. -/
def State.slot (s : State) (k : Nat) : Slot := s.itg.slots.getD k {}

/-- Change key slot `k`. -/
def State.setSlot (s : State) (k : Nat) (f : Slot → Slot) : State :=
  { s with itg := { s.itg with slots := lmod s.itg.slots k f } }

/-- STATE of slot `k`. -/
def State.slState (s : State) (k : Nat) : Nat := s.num (slIdx k) 1
/-- INTEGRITY of slot `k`. -/
def State.slInteg (s : State) (k : Nat) : Bool := s.flag (slIdx k) 3
/-- DATA_BASE of slot `k`. -/
def State.dataBase (s : State) (k : Nat) : Nat := s.num (slIdx k) 4
/-- DATA_SIZE of slot `k`. -/
def State.dataSize (s : State) (k : Nat) : Nat := s.num (slIdx k) 5
/-- META_BASE of slot `k`. -/
def State.metaBase (s : State) (k : Nat) : Nat := s.num (slIdx k) 6

/-- Bytes of the metadata area (R462). -/
def metaSize (s : State) (k : Nat) : Nat := if s.slInteg k then s.dataSize k * 5 / 32 else 0

/-- Whether a slot's ranges are in force (R462). -/
def inForce (s : State) (k : Nat) : Bool := 1 ≤ k && s.slState k != slDisabled

/-- Whether a location lies in a slot's data range. -/
def inData (s : State) (k loc : Nat) : Bool := s.dataBase k ≤ loc && loc < s.dataBase k + s.dataSize k

/-- Whether a location lies in a slot's metadata area. -/
def inMeta (s : State) (k loc : Nat) : Bool := s.metaBase k ≤ loc && loc < s.metaBase k + metaSize s k

/-- The slot in force whose range holds a location. -/
def slotAt (s : State) (loc : Nat) : Option Nat :=
  (List.range 16).find? fun k => inForce s k && (inData s k loc || inMeta s k loc)

/-- A slot changes state: event C01h; the boundary reads 0 outside REKEYING (R483). -/
def putSlot (s : State) (k st : Nat) : State :=
  if s.slState k = st then s
  else
    let t := if s.slState k = slRekeying then s.put (slIdx k) 9 0 else s
    (t.put (slIdx k) 1 st).raise 0xC01 k (be 1 (s.slState k) ++ be 1 st)

/-- A refused access is counted (R463); event C03h at most once per second for each bolt. -/
def noteBarred (s : State) (p : NocPkt) (k : Nat) : State :=
  let b := boltOf (locationOf p.addr)
  let s := { s with itg := { s.itg with refused := lmod s.itg.refused b (· + 1) } }
  (s.count (slIdx k) 0x0C 64 1).raiseAtMost 1 0xC03 b (fun n => be 4 n)

/-- Writes of a slot that the engine holds are refused, as the slot takes no access (R463), and no overflow of it remains. -/
def releaseHeld (s : State) (k : Nat) : State :=
  let mine := fun (p : NocPkt) => p.kind != kRead && p.addr / 2 ^ 44 == k
  let held := s.itg.waiting.filter mine
  let s := { s with itg := { s.itg with waiting := s.itg.waiting.filter fun p => !mine p } }
  (held.foldl (fun s p => answerReq (noteBarred s p k) p kErrorResp stTargetUnavailable []) s).setSlot k fun x =>
    { x with overflow := none, held := false }

/-- A slot fails (R476): event C02h; a rekey of it ends FAILED (R480). -/
def failSlot (s : State) (k cause : Nat) : State :=
  if s.slState k = slDisabled ∨ s.slState k = slFailed then s
  else
    let s := releaseHeld ((putSlot s k slFailed).raise 0xC02 k (be 1 cause)) k
    match findOp s 2 (slIdx k) with
    | some o => failOp s o stTargetUnavailable 0
    | none => s

/-- A fresh key set: two free values of 128 bits (R467; log entry 9). -/
def drawKeys (s : State) (k : Nat) : State × KeySet :=
  let a := s.freeValue 128
  let s := s.draw
  let b := s.freeValue 128
  (s.draw.count (slIdx k) 0x0D 32 1, { scr := a, tag := b })

/-! ### The scrambling mix (R466) -/

/-- Rotate left in 64 bits. -/
def rotl64 (n x : Nat) : Nat := x * 2 ^ n % 2 ^ 64 + x / 2 ^ (64 - n)

/-- The round function of the mix. -/
def mixRound (r rk : Nat) : Nat :=
  let x := r ^^^ rk
  rotl64 29 (x * 0x9E3779B97F4A7C15 % 2 ^ 64) ^^^ x

/-- The four round keys of a block. -/
def roundKeysOf (sk w v : Nat) : List Nat :=
  let k0 := sk / 2 ^ 64 % 2 ^ 64
  let k1 := sk % 2 ^ 64
  [k0 ^^^ w, k1 ^^^ v, k0 ^^^ rotl64 32 v, k1 ^^^ rotl64 32 w]

/-- Scramble a block of 128 bits. -/
def scrambleBlock (sk w v block : Nat) : Nat :=
  let p := (roundKeysOf sk w v).foldl (fun (p : Nat × Nat) rk => (p.2, p.1 ^^^ mixRound p.2 rk)) (block / 2 ^ 64, block % 2 ^ 64)
  p.1 * 2 ^ 64 + p.2

/-- Descramble a block: the rounds in reverse. -/
def descrambleBlock (sk w v block : Nat) : Nat :=
  let p := (roundKeysOf sk w v).reverse.foldl (fun (p : Nat × Nat) rk => (p.2 ^^^ mixRound p.1 rk, p.1))
    (block / 2 ^ 64, block % 2 ^ 64)
  p.1 * 2 ^ 64 + p.2

/-- The counter word of a line (R466). -/
def counterWord (major minor : Nat) : Nat := (major * 128 + minor) % 2 ^ 64

/-- Apply a block permutation to the four blocks of a line. -/
def mixLine (f : Nat → Nat → Nat → Nat → Nat) (sk loc v : Nat) (line : List Byte) : List Byte :=
  (List.range 4).flatMap fun j => be 16 (f sk (loc / 64 * 4 + j) v (fieldBE line (16 * j) 16))

/-- A line as stored. -/
def scrambleLine : Nat → Nat → Nat → List Byte → List Byte := mixLine scrambleBlock

/-- A line as delivered. -/
def descrambleLine : Nat → Nat → Nat → List Byte → List Byte := mixLine descrambleBlock

/-! ### Tags and the tree (R468, R469) -/

/-- The tag of 64 stored bytes (R468). -/
def tagOf (key k loc major minor : Nat) (line : List Byte) : List Byte :=
  (cmac (be 16 key) (line ++ be 8 (k * 2 ^ 44 + loc) ++ be 8 major ++ be 1 minor)).take 8

/-- Nodes at each level, level 0 first, until one (R469). -/
def levelCounts : Nat → Nat → List Nat
  | 0, _ => []
  | f + 1, n => let c := ceilDiv n 64; if c ≤ 1 then [1] else c :: levelCounts f c

/-- Nodes at each level of a slot's tree. -/
def slotCounts (s : State) (k : Nat) : List Nat := levelCounts 8 (s.dataSize k / 64)

/-- The top level (R469). -/
def topLevel (s : State) (k : Nat) : Nat := (slotCounts s k).length - 1

/-- Nodes below level `j`. -/
def nodesBelow (s : State) (k j : Nat) : Nat := ((slotCounts s k).take j).foldl (· + ·) 0

/-- Location of a line's tag. -/
def lineTagLoc (s : State) (k line : Nat) : Nat := s.metaBase k + 8 * line

/-- Location of a node below the top. -/
def nodeLoc (s : State) (k j x : Nat) : Nat := s.metaBase k + s.dataSize k / 8 + 64 * (nodesBelow s k j + x)

/-- Location of a node's tag. -/
def nodeTagLoc (s : State) (k j x : Nat) : Nat :=
  s.metaBase k + s.dataSize k / 8 + 64 * nodesBelow s k (topLevel s k) + 8 * (nodesBelow s k j + x)

/-- The bytes of a node: the major, then 64 minors of 7 bits (R469). -/
def nodeBytes (major : Nat) (minors : List Nat) : List Byte :=
  be 8 major ++ be 56 ((List.range 64).foldl (fun a i => a * 128 + minors.getD i 0 % 128) 0)

/-- The major and minors of a node's bytes. -/
def nodeOf (b : List Byte) : Nat × List Nat :=
  let n := fieldBE b 8 56
  (fieldBE b 0 8, (List.range 64).map fun i => n / 2 ^ (441 - 7 * i) % 128)

/-- The end of what node `x` of level `j` covers, as a location. -/
def coverEnd (s : State) (k j x : Nat) : Nat :=
  min (s.dataBase k + 64 ^ (j + 2) * (x + 1)) (s.dataBase k + s.dataSize k)

/-- The key set for what ends at a location: the new one below the boundary B (R478). -/
def keysFor (s : State) (k end_ : Nat) : KeySet :=
  let x := s.slot k
  if s.slState k = slRekeying ∧ end_ ≤ s.num (slIdx k) 9 then x.newKeys.getD {} else x.keys.getD {}

/-- What stops a protected access: a failed check, an uncorrectable cached node, a metadata fetch that a channel refuses, a minor
overflow, or an exhausted major. -/
inductive Trouble where
  | halt (cause addr level : Nat)
  | refused
  | slotFail (cause : Nat)
  | overflow (loc : Nat)
  | exhausted (loc : Nat)
  deriving DecidableEq, Repr

/-- The cached node, if the bolt's counter cache holds it. -/
def cached (s : State) (k j x : Nat) : Option CacheNode :=
  s.itg.cache.find? fun n => n.slot = k ∧ n.level = j ∧ n.idx = x

/-- Put a node into the counter cache. -/
def cacheNode (s : State) (k j x major : Nat) (minors : List Nat) (dirty : Bool) : State :=
  let rest := s.itg.cache.filter fun n => !(n.slot = k ∧ n.level = j ∧ n.idx = x)
  { s with itg := { s.itg with cache := { slot := k, level := j, idx := x, major := major, minors := minors, dirty := dirty } :: rest } }

/-- The top node in the vault. -/
def topNode (s : State) (k : Nat) : Nat × List Nat :=
  match (s.slot k).top with
  | m :: r => (m, (List.range 64).map fun i => r.getD i 0)
  | [] => (0, List.replicate 64 0)

/-- Whether the claimed archive of a slot's bolt holds a double-bit error (R441, R471). -/
def cacheBad (s : State) (k : Nat) : Bool :=
  let b := boltOf (s.dataBase k)
  s.mem.archBad.any fun a =>
    0x0E0000000000 + b * 0x04000000 + cacheFloor s b ≤ a && a < 0x0E0000000000 + (b + 1) * 0x04000000

/-- Whether the channel of a metadata location takes no request (R476). -/
def refusesMeta (s : State) (loc : Nat) : Bool :=
  match channelAt s loc with
  | some (c, _) => s.ni c != niOnline
  | none => true

/-- A node fetched and checked under its parent's counter (R470, R476). -/
def fetchNode (s : State) (k j x pm pminor : Nat) : Except Trouble (State × Nat × List Nat) :=
  if refusesMeta s (nodeLoc s k j x) || refusesMeta s (nodeTagLoc s k j x) then .error .refused
  else
    let b := s.bytes (nodeLoc s k j x) 64
    let keys := keysFor s k (coverEnd s k j x)
    if s.bytes (nodeTagLoc s k j x) 8 = tagOf keys.tag k (nodeLoc s k j x) pm pminor b then
      .ok (cacheNode s k j x (nodeOf b).1 (nodeOf b).2 false, nodeOf b)
    else .error (.halt 1 (k * 2 ^ 44 + nodeLoc s k j x) j)

/-- A node, checked down from the lowest trusted ancestor (R470), `d` levels below the top. Where the claimed archive
holds a double-bit error, whether it is this node's is a free value (log entry 9): a clean node is fetched afresh, a
dirty one fails the slot (R471). -/
def getNode (k : Nat) : Nat → State → Nat → Except Trouble (State × Nat × List Nat)
  | 0, s, _ => .ok (s, (topNode s k).1, (topNode s k).2)
  | d + 1, s, x =>
    let j := topLevel s k - (d + 1)
    let hit := decide (cacheBad s k ∧ s.freeValue 1 = 1)
    let s := if cacheBad s k then s.draw else s
    match cached s k j x, hit with
    | some n, false => .ok (s, n.major, n.minors)
    | some ⟨_, _, _, _, _, true⟩, true => .error (.slotFail 2)
    | _, _ =>
      match getNode k d s (x / 64) with
      | .error e => .error e
      | .ok (s, pm, ps) => fetchNode s k j x pm (ps.getD (x % 64) 0)

/-- The node `x` of level `j`. -/
def nodeAt (s : State) (k j x : Nat) : Except Trouble (State × Nat × List Nat) := getNode k (topLevel s k - j) s x

/-- Put a node's new counters where it is kept: the vault for the top, else the cache, dirty (R471). -/
def setNode (s : State) (k j x major : Nat) (minors : List Nat) : State :=
  if j = topLevel s k then s.setSlot k fun y => { y with top := major :: minors } else cacheNode s k j x major minors true

/-- The leaf of a location, and its line within the range. -/
def lineOf (s : State) (k loc : Nat) : Nat := (loc - s.dataBase k) / 64

/-- Check and descramble the line at a location under a counter (R468, R470). -/
def openLine (s : State) (k loc : Nat) (keys : KeySet) (cause major minor : Nat) : Except Trouble (List Byte) :=
  let b := s.bytes loc 64
  if refusesMeta s (lineTagLoc s k (lineOf s k loc)) then .error .refused
  else if s.bytes (lineTagLoc s k (lineOf s k loc)) 8 = tagOf keys.tag k loc major minor b then
    .ok (descrambleLine keys.scr loc (counterWord major minor) b)
  else .error (.halt cause (k * 2 ^ 44 + loc) 0xFF)

/-- Lines verified (R483). -/
def noteVerified (s : State) (k n : Nat) : State := s.count (slIdx k) 0x0A 64 n

/-- Scramble, tag and write a line under a counter (R472). -/
def sealLine (s : State) (k loc : Nat) (keys : KeySet) (major minor : Nat) (plain : List Byte) : State :=
  let b := scrambleLine keys.scr loc (counterWord major minor) plain
  (s.store loc b).store (lineTagLoc s k (lineOf s k loc)) (tagOf keys.tag k loc major minor b)

/-- The highest major written (R474, R478, R479). -/
def noteMajor (s : State) (k end_ major : Nat) : State :=
  if s.slState k = slRekeying then
    if end_ ≤ s.num (slIdx k) 9 then s.setSlot k fun x => { x with maxNew := max x.maxNew major }
    else
      let s := s.setSlot k fun x => { x with maxOld := max x.maxOld major }
      s.put (slIdx k) 8 (max (s.num (slIdx k) 8) major)
  else s.put (slIdx k) 8 (max (s.num (slIdx k) 8) major)

/-- A line read from a protected slot with integrity (R470). -/
def readLine (s : State) (k loc : Nat) : Except Trouble (State × List Byte) :=
  match nodeAt s k 0 (lineOf s k loc / 64) with
  | .error e => .error e
  | .ok (s, major, minors) =>
    match openLine s k loc (keysFor s k (loc + 1)) 0 major (minors.getD (lineOf s k loc % 64) 0) with
    | .error e => .error e
    | .ok b => .ok (noteVerified s k 1, b)

/-- Merge the bytes a mask enables: bit k for byte k (R417). -/
def mergeBytes (mask : Nat) (old new_ : List Byte) : List Byte :=
  (List.range 64).map fun i => if mask / 2 ^ i % 2 = 1 then new_.getD i 0 else old.getD i 0

/-- A line written to a protected slot with integrity (R472); `mask` for a WRITE_PARTIAL. -/
def writeLine (s : State) (k loc : Nat) (mask : Option Nat) (data : List Byte) : Except Trouble State :=
  let i := lineOf s k loc
  match nodeAt s k 0 (i / 64) with
  | .error e => .error e
  | .ok (s, major, minors) =>
    let keys := keysFor s k (loc + 1)
    let m := minors.getD (i % 64) 0
    let plain : Except Trouble (List Byte) := match mask with
      | none => if refusesMeta s (lineTagLoc s k i) then .error .refused else .ok data
      | some w => (openLine s k loc keys 2 major m).map fun old => mergeBytes w old data
    match plain with
    | .error e => .error e
    | .ok b =>
      let s := if mask.isSome then noteVerified s k 1 else s
      if 127 ≤ m then (if 2 ^ 64 ≤ major + 1 then .error (.exhausted loc) else .error (.overflow loc))
      else .ok (setNode (sealLine s k loc keys major (m + 1) b) k 0 (i / 64) major (minors.set (i % 64) (m + 1)))

/-- Rescramble and retag the 64 lines of a leaf under a new major with minors 0 (R473). -/
def overflowLeaf (s : State) (k x : Nat) : Except Trouble State :=
  match nodeAt s k 0 x with
  | .error e => .error e
  | .ok (s, major, minors) =>
    let step : Except Trouble State → Nat → Except Trouble State := fun r i =>
      match r with
      | .error e => .error e
      | .ok s =>
        let loc := s.dataBase k + 4096 * x + 64 * i
        let keys := keysFor s k (loc + 1)
        match openLine s k loc keys 0 major (minors.getD i 0) with
        | .error e => .error e
        | .ok b => .ok (sealLine s k loc keys (major + 1) 0 b)
    match (List.range 64).foldl step (.ok s) with
    | .error e => .error e
    | .ok s =>
      .ok (noteMajor (setNode (noteVerified s k 64) k 0 x (major + 1) (List.replicate 64 0)) k (coverEnd s k 0 x) (major + 1))

/-- Write a node below the top to memory and tag it under a counter (R471). -/
def storeNode (s : State) (k j x pm pminor major : Nat) (minors : List Nat) : State :=
  let b := nodeBytes major minors
  let keys := keysFor s k (coverEnd s k j x)
  (s.store (nodeLoc s k j x) b).store (nodeTagLoc s k j x) (tagOf keys.tag k (nodeLoc s k j x) pm pminor b)

/-- Retag the 64 children of node `x` of level `j + 1` under that node's counters, all minors 0 (R473, R478). -/
def retagChildren (s : State) (k j x major : Nat) : State :=
  (List.range 64).foldl (fun s i =>
    let y := 64 * x + i
    if (slotCounts s k).getD j 0 ≤ y then s
    else
      let n := match cached s k j y with
        | some n => (n.major, n.minors)
        | none => nodeOf (s.bytes (nodeLoc s k j y) 64)
      storeNode s k j y major 0 n.1 n.2) s

/-- Count a minor overflow (R473): event C04h at most once per second for each slot. -/
def noteOverflow (s : State) (k level : Nat) : State :=
  (s.count (slIdx k) 0x0B 64 1).raiseAtMost 1 0xC04 k (fun n => be 1 level ++ be 4 n)

/-- Increment the minor that a parent keeps for node `x` of level `j`; an inner overflow retags its children (R471, R473). -/
def bumpParent (s : State) (k j x : Nat) : Except Trouble (State × Nat × Nat) :=
  match nodeAt s k (j + 1) (x / 64) with
  | .error e => .error e
  | .ok (s, pm, ps) =>
    let m := ps.getD (x % 64) 0
    if m < 127 then .ok (setNode s k (j + 1) (x / 64) pm (ps.set (x % 64) (m + 1)), pm, m + 1)
    else if 2 ^ 64 ≤ pm + 1 then .error (.exhausted (nodeLoc s k j x))
    else
      let s := retagChildren s k j (x / 64) (pm + 1)
      let s := setNode s k (j + 1) (x / 64) (pm + 1) ((List.replicate 64 0).set (x % 64) 1)
      .ok (noteOverflow (noteMajor s k (coverEnd s k (j + 1) (x / 64)) (pm + 1)) k (j + 1), pm + 1, 1)

/-- A node leaves the counter cache (R471): a dirty one is tagged under its parent's incremented minor and written back. -/
def evict (s : State) (k j x : Nat) : Except Trouble State :=
  match cached s k j x with
  | none => .ok s
  | some n =>
    let drop := fun (s : State) =>
      { s with itg := { s.itg with cache := s.itg.cache.filter fun n => !(n.slot = k ∧ n.level = j ∧ n.idx = x) } }
    if !n.dirty then .ok (drop s)
    else
      match bumpParent s k j x with
      | .error e => .error e
      | .ok (s, pm, m) => .ok (drop (storeNode s k j x pm m n.major n.minors))

/-! ### Initialisation (R475) -/

/-- Seal every line and node of a slot as zero under counter (0, 0). -/
def initialiseSlot (s : State) (k : Nat) : State :=
  let keys := (s.slot k).keys.getD {}
  let zero : List Byte := List.replicate 64 0
  let s := (List.range (s.dataSize k / 64)).foldl (fun s i =>
    let loc := s.dataBase k + 64 * i
    if s.slInteg k then sealLine s k loc keys 0 0 zero else s.store loc (scrambleLine keys.scr loc 0 zero)) s
  if !s.slInteg k then s
  else
    let s := (List.range (topLevel s k)).foldl (fun s j =>
      (List.range ((slotCounts s k).getD j 0)).foldl (fun s x => storeNode s k j x 0 0 0 (List.replicate 64 0)) s) s
    s.setSlot k fun x => { x with top := List.replicate 65 0 }

/-- Drop the cached nodes of a slot. -/
def dropCache (s : State) (k : Nat) : State :=
  { s with itg := { s.itg with cache := s.itg.cache.filter fun n => n.slot ≠ k } }

/-- Draw keys and begin initialisation (R464, R475). -/
def beginInit (s : State) (k : Nat) : State :=
  let p := drawKeys (dropCache (releaseHeld s k) k) k
  let s := p.1.setSlot k fun _ => { keys := some p.2, top := List.replicate 65 0 }
  putSlot (((s.put (slIdx k) 7 0).put (slIdx k) 8 0).put (slIdx k) 9 0) k slInitialising

/-! ### Slot writes (R464) -/

/-- Whether two ranges overlap. -/
def overlap (a n b m : Nat) : Bool := a < b + m && b < a + n && 0 < n && 0 < m

/-- Whether a range lies in one bolt's region below its capacity (R464 step 2). -/
def inRegion (s : State) (a n : Nat) : Bool :=
  a / 2 ^ 35 == (a + n - 1) / 2 ^ 35 && a % 2 ^ 35 + n ≤ regionBytes s (boltOf a)

/-- The checks of a write of ENABLE 1 (R464). -/
def enableCheck (s : State) (k : Nat) : Option Nat :=
  let n := s.dataSize k
  let a := s.dataBase k
  let m := s.metaBase k
  let pow := (List.range 17).any fun e => n = 2 ^ (18 + e)
  if !pow ∨ a % n ≠ 0 ∨ m % 65536 ≠ 0 then some stRangeInvalid
  else if !inRegion s a n ∨ (s.slInteg k ∧ (!inRegion s m (metaSize s k) ∨ boltOf m ≠ boltOf a)) then some stRangeInvalid
  else if s.slInteg k ∧ s.num 0x0B0000 (5 + boltOf a) = 0 then some stRangeInvalid
  else if (List.range 16).any fun j => j != k && inForce s j &&
      (overlap a n (s.dataBase j) (s.dataSize j) || overlap a n (s.metaBase j) (metaSize s j)
        || overlap m (metaSize s k) (s.dataBase j) (s.dataSize j) || overlap m (metaSize s k) (s.metaBase j) (metaSize s j)) then
    some stRangeOverlap
  else none

/-- Slot 0 refuses every write (R483). -/
def slotCheck (k : Nat) (_ : State) (_ : Req) (_ : Val) : Option Stat := if k = 0 then some (stAccessDenied, 0) else none

/-- ENABLE (R464). -/
def slotEnableRule (k : Nat) : Rule :=
  { base := State.rulingNext, check := slotCheck k, pick := noPick,
    judge := fun s _ v =>
      if valNum v = 1 then
        if s.slState k ≠ slDisabled then none
        else match enableCheck s k with
          | some e => refuse s e
          | none => none
      else if s.slState k = slRekeying then refuse s stBusy else none,
    apply := fun s _ _ v =>
      let s := s.write (ent (slIdx k) 2) v
      if valNum v = 1 then { s := if s.slState k = slDisabled then beginInit s k else s }
      else
        let s := (dropCache (releaseHeld s k) k).setSlot k fun _ => {}
        { s := putSlot s k slDisabled } }

/-- Other fields of a slot record: BUSY unless DISABLED (R464). -/
def slotFieldRule (k sub : Nat) : Rule :=
  { base := State.rulingNext, pick := noPick,
    check := fun s r v =>
      match slotCheck k s r v with
      | some e => some e
      | none => if (sub = 4 ∨ sub = 6) ∧ 2 ^ 37 ≤ valNum v then some (stTypeMismatch, 0) else none,
    judge := fun s _ _ => if s.slState k ≠ slDisabled then refuse s stBusy else none,
    apply := fun s _ _ v => { s := s.write (ent (slIdx k) sub) v } }

/-- CTR_CACHE (R483). -/
def ctrCacheRule (b : Nat) : Rule :=
  { plainRule (ent 0x0B0000 (1 + b)) with
    check := fun _ _ v => if [0, 1, 2, 4, 8].contains (valNum v) then none else some (stTypeMismatch, 0) }

/-- At a start instant (R471, R475): CTR_CACHE takes effect, and slots whose bolt is not kept reinitialise. -/
def startSlots (s : State) (kept : Nat → Bool) : State :=
  let s := (List.range 4).foldl (fun s b => s.put 0x0B0000 (5 + b) (s.num 0x0B0000 (1 + b))) s
  (List.range 16).foldl (fun s k =>
    if k = 0 ∨ !s.flag (slIdx k) 2 ∨ (kept (boltOf (s.dataBase k)) ∧ s.slState k ≠ slDisabled) then s else beginInit s k) s

/-- A channel of a bolt is lost (R476): its slots fail with cause 1h. -/
def slotsLose (s : State) (b : Nat) : State :=
  (List.range 16).foldl (fun s k => if inForce s k && boltOf (s.dataBase k) == b then failSlot s k 1 else s) s

/-! ### Access by key identifier (R463) -/

/-- How a granule is handled. -/
inductive Access where
  | plain
  | guarded (k : Nat)
  | barred (k : Nat)
  deriving DecidableEq, Repr

/-- The handling of one granule for an initiator (R463). -/
def accessOf (s : State) (init k loc : Nat) : Access :=
  if k = 0 then
    match slotAt s loc with
    | none => .plain
    | some j => if init = 0x54 + boltOf loc ∨ init = 0x58 + boltOf loc then .plain else .barred j
  else if inData s k loc ∧ (s.slState k = slActive ∨ s.slState k = slRekeying) then .guarded k
  else .barred k

/-- The handling of a packet: the first granule that differs bars it. -/
def packetAccess (s : State) (p : NocPkt) : Access :=
  match placeOf p.addr with
  | some (.dram k loc) =>
    let first := accessOf s p.init k loc
    let others := (List.range p.granules).map fun i => accessOf s p.init k (loc + 64 * i)
    if others.all (· == first) then first
    else (others.find? fun a => match a with | .barred _ => true | _ => false).getD (.barred k)
  | _ => .plain

/-- A refused access (R463): ERROR_RESP. -/
def barAccess (s : State) (p : NocPkt) (k : Nat) : State :=
  inject (noteBarred s p k) (responseTo p kErrorResp stTargetUnavailable [])

/-! ### Rekeying (R477 to R479) -/

/-- A node's counters start anew (R478, R479): its children are retagged, and it is tagged under its parent's counter,
incremented. -/
def resetNode (s : State) (k j x major : Nat) : Except Trouble State :=
  let s := retagChildren s k (j - 1) x major
  let s := noteMajor s k (coverEnd s k j x) major
  if j = topLevel s k then .ok (s.setSlot k fun y => { y with top := major :: List.replicate 64 0 })
  else
    match bumpParent s k j x with
    | .error e => .error e
    | .ok (s, pm, m) =>
      .ok (cacheNode (storeNode s k j x pm m major (List.replicate 64 0)) k j x major (List.replicate 64 0) false)

/-- The lines of a group read and checked under the set in force (R477 step 1). -/
def readGroup (s : State) (k x : Nat) : Except Trouble (State × List (List Byte)) :=
  (List.range 64).foldl (fun (r : Except Trouble (State × List (List Byte))) i =>
    match r with
    | .error e => .error e
    | .ok (s, ls) =>
      let loc := s.dataBase k + 4096 * x + 64 * i
      if refusesMeta s loc then .error .refused
      else if s.slInteg k then
        match readLine s k loc with
        | .error e => .error e
        | .ok (s, b) => .ok (s, ls ++ [b])
      else .ok (s, ls ++ [descrambleLine (keysFor s k (loc + 1)).scr loc 0 (s.bytes loc 64)])) (.ok (s, []))

/-- The lines of a group written under a set and a counter with minor 0 (R477 step 3). -/
def writeGroup (s : State) (k x major : Nat) (keys : KeySet) (lines : List (List Byte)) : State :=
  (List.range 64).foldl (fun s i =>
    let loc := s.dataBase k + 4096 * x + 64 * i
    if s.slInteg k then sealLine s k loc keys major 0 (lines.getD i [])
    else s.store loc (scrambleLine keys.scr loc 0 (lines.getD i []))) s

/-- Convert the next group (R477, R479): forward to the new set, or back to the old one; the boundary moves past it. -/
def convertGroup (s : State) (k : Nat) : Except Trouble State :=
  let slot := s.slot k
  let b := s.num (slIdx k) 9
  let x := ((if slot.back then b - 4096 else b) - s.dataBase k) / 4096
  match readGroup s k x with
  | .error e => .error e
  | .ok (s, lines) =>
    let major := if slot.back then (s.slot k).maxOld + 1 else 0
    let keys := (if slot.back then slot.keys else slot.newKeys).getD {}
    let s := writeGroup s k x major keys lines
    let s := if s.slInteg k then setNode s k 0 x major (List.replicate 64 0) else s
    let before := s.num (slIdx k) 9
    let after := if slot.back then before - 4096 else before + 4096
    let s := s.put (slIdx k) 9 after
    let s := noteMajor s k (coverEnd s k 0 x) major
    if !s.slInteg k then .ok s
    else
      -- inner nodes whose coverage the boundary has just passed, or left (R478, R479)
      let edge := max before after
      (List.range (topLevel s k)).foldl (fun (r : Except Trouble State) i =>
        match r with
        | .error e => .error e
        | .ok s =>
          let j := i + 1
          let y := (edge - 1 - s.dataBase k) / 64 ^ (j + 2)
          if coverEnd s k j y = edge then resetNode s k j y (if slot.back then (s.slot k).maxOld + 1 else 0) else .ok s) (.ok s)

end Sys2Proof.Machine
end

