-- ==== Sys2Proof/Machine/Noc.lean ====
section
/-! DEFINITION. The network on chip: requests and responses at the NIs, links, route tables, statistics, fabric ports
(R412 to R437), and arrival at memory channels and archive slices (R440, R449, R450). -/

namespace Sys2Proof.Machine

/-! ### Memory channels, as requests reach them (R449, R450) -/

/-- Channel `c`. -/
def State.mch (s : State) (c : Nat) : Chan := s.mem.chans.getD c {}

/-- Change channel `c`. -/
def State.setMch (s : State) (c : Nat) (f : Chan → Chan) : State :=
  { s with mem := { s.mem with chans := lmod s.mem.chans c f } }

/-- Whether a request of the queue carries a panic that the NI honours (R450). -/
def Chan.panicking (x : Chan) : Bool := x.queue.any fun p => p.panic

/-- Whether a channel is under panic (R450). -/
def underPanic (s : State) (c : Nat) : Bool := (s.mch c).panicking || s.now < (s.mch c).panicUntil

/-- tRFCab in ns (R451). -/
def trfc (density : Nat) : Nat := if density = 2 then 130 else if density = 4 then 180 else if density = 8 then 280 else 380

/-- Catch-up refreshes that have begun by now (R452). -/
def caughtUp (s : State) (c : Nat) (x : Rank) : Nat :=
  match x.catchAt with
  | some t => if s.now < t then 0 else min x.debt ((s.now - t) / trfc (s.num (0x0A0100 + c) 3) + 1)
  | none => 0

/-- Debt still owed (R452). -/
def debtNow (s : State) (c : Nat) (x : Rank) : Nat := x.debt - caughtUp s c x

/-- Panic stops further catch-up: D keeps the refreshes still owed (R452). -/
def stopCatchUp (s : State) (c : Nat) : State :=
  s.setMch c fun y => { y with ranks := y.ranks.map fun x => { x with debt := debtNow s c x, catchAt := none } }

/-- A request joins a channel's queue (R449, R450): panic only on class 2; under panic a rank leaves power-down at once, and
the rank addressed leaves it in any case (R453). -/
def enqueue (s : State) (c : Nat) (p : NocPkt) : State :=
  let p := { p with panic := p.panic && p.cls == 2 }
  let s := if p.panic then
      let s := if underPanic s c then s else s.setMch c fun x => { x with panicAt := s.now }
      (stopCatchUp s c).setMch c fun x => { x with panicUntil := 0, ranks := x.ranks.map fun r => { r with down := false } }
    else s
  let loc := locationOf p.addr
  let rank := ((channelAt s loc).map fun a => (fieldsOf s c a.2).1).getD 0
  s.setMch c fun x => { x with queue := x.queue ++ [p], queuedAt := x.queuedAt ++ [s.now],
                               ranks := lmod x.ranks rank fun r => { r with down := false, idleAt := s.now } }

/-! ### Requests at target NIs (R418, R427, R432) -/

/-- A request a target accepts. -/
def accept (s : State) (p : NocPkt) : State := { s with noc := { s.noc with accepted := s.noc.accepted ++ [p] } }

/-- A request for a memory channel whose NI accepts it (R449, R463): the integrity engine judges it first. -/
def atChannel (s : State) (p : NocPkt) : State :=
  match packetAccess s p with
  | .barred k => barAccess s p k
  | _ => enqueue (accept s p) p.target p

/-- A request for an archive slice (R440). -/
def atArchive (s : State) (p : NocPkt) : State :=
  let s := accept s p
  { s with mem := { s.mem with archQ := s.mem.archQ ++ [p] } }

/-- A request for packet staging (R438): read only. -/
def atStaging (s : State) (p : NocPkt) : State :=
  if p.kind = kRead then answerReq (accept s p) p kReadResp stOk (s.bytes p.addr (64 * p.granules)) else refuseReq s p

/-- A request for a fabric target port (R433). -/
def atFabric (s : State) (p : NocPkt) : State :=
  let s := accept s p
  { s with noc := { s.noc with fabOut := s.noc.fabOut ++ [(p.target - 0x40, p)] } }

/-- Whether the target has room: 64 requests in a channel's queue or a fabric port side (R433, R449). -/
def hasRoom (s : State) (t : Nat) : Bool :=
  if t < 0x20 then (s.mch t).queue.length < 64
  else if 0x40 ≤ t then (s.noc.fabOut.filter fun q => q.1 = t - 0x40).length < 64
  else true

/-- The packet is no longer in flight. -/
def landed (s : State) (p : NocPkt) : State := { s with noc := { s.noc with flight := dropReq s.noc.flight p } }

/-- End-to-end errors of a packet (R427): wrong words counted, with event A08h where one is uncorrectable. -/
def noteWrong (s : State) (p : NocPkt) (bad : Nat × Nat) (dir : Nat) : State :=
  let s := if bad.1 = 0 then s else s.count 0x090000 9 64 bad.1
  if bad.2 = 0 then s else (s.count 0x090000 0x0A 64 bad.2).raise 0xA08 p.init (be 1 p.target ++ be 2 p.tag ++ be 1 dir)

/-- Whether a target ID is assigned (R415). -/
def knownTarget (t : Nat) : Bool := t < 0x38 || (0x40 ≤ t && t < 0x60)

/-- Whether a target NI serves requests: ONLINE, and not that of an engine whose clock is gated (R247, R432). -/
def niServes (s : State) (t : Nat) : Bool :=
  s.ni t == niOnline && !(0x30 ≤ t && t < 0x38 && s.num (gateIdx (64 + (t - 0x30))) 2 == 2)

/-- A request at its target NI, its wrong words as `wrongWords` gives them (R427). A target without room holds the packet back
(R449), so that it has not arrived: none. -/
def requestArrives (s : State) (p : NocPkt) (bad : Nat × Nat) : Option State :=
  let p := { p with addr := p.addr / 64 * 64, granules := if p.kind = kPartial then 1 else max 1 (min 16 p.granules) }
  if 2 < p.cls ∨ !knownTarget p.target then none
  else
    let here := noteWrong (landed s p) p bad 0
    if bad.2 ≠ 0 then some (inject here (responseTo p kErrorResp stTargetUnavailable []))
    else if !niServes s p.target then some (refuseReq here p)
    else if !hasRoom s p.target then none
    else if p.target < 0x20 then some (atChannel here p)
    else if p.target < 0x30 then some (atArchive here p)
    else if p.target < 0x40 then some (atStaging here p)
    else some (atFabric here p)

/-! ### Responses at initiator NIs (R419, R427, R428, R435) -/

/-- A response presented to the design (R433). -/
def toDesign (s : State) (p : NocPkt) : State :=
  if 0x200 ≤ p.init then { s with noc := { s.noc with fabRsp := s.noc.fabRsp ++ [((p.init - 0x200) / 16, p)] } } else s

/-- The outstanding request of an initiator and tag. -/
def outstandingReq (s : State) (i tag : Nat) : Option Trans := s.noc.outstanding.find? fun t => t.pkt.init = i ∧ t.pkt.tag = tag

/-- A request is no longer outstanding. -/
def retire (s : State) (i tag : Nat) : State :=
  { s with noc := { s.noc with outstanding := s.noc.outstanding.eraseP fun t => t.pkt.init = i ∧ t.pkt.tag = tag } }

/-- A response reaches its initiator (R427, R428): it completes its transaction, or is an orphan (event A0Ah). -/
def responseArrives (s : State) (p : NocPkt) (bad : Nat × Nat) : State :=
  let s := noteWrong (landed s p) p bad 1
  match outstandingReq s p.init p.tag with
  | none => (s.count 0x090000 8 64 1).raise 0xA0A p.init (be 1 p.target ++ be 2 p.tag)
  | some t =>
    let s := completeTransaction (retire s p.init p.tag) t.pkt.init (64 * t.pkt.granules) (s.now - t.since)
    if bad.2 ≠ 0 then toDesign s { p with kind := kErrorResp, status := stTargetUnavailable, data := [], granules := 1 }
    else toDesign s p

/-- NOC_TIMEOUT has passed without a response (R428). A response of the same cycle would complete the transaction (R26), so the
cycle is over once the time has run out. -/
def timeOut (s : State) (i tag : Nat) : State :=
  match outstandingReq s i tag with
  | none => s
  | some t =>
    let s := s.waitUntil (t.since + s.num 0x090000 5 * 1000)
    let s := (retire s i tag).count (initIdx i) 0x0A 32 1
    let s := s.raiseAtMost 1 0xA09 i (fun n => be 1 t.pkt.target ++ be 4 n)
    (toDesign s (responseTo t.pkt kErrorResp stTargetUnavailable [])).pass 1

/-! ### Fabric ports (R433) -/

/-- The epoch that an injected head carries: the new one once a swap has begun (R424). -/
def injectEpoch (s : State) : Nat := if s.noc.swapDue then 1 - s.num 0x090000 3 else s.num 0x090000 3

/-- A design request is answered at once with ERROR_RESP. -/
def answerDesign (s : State) (port : Nat) (p : NocPkt) : State :=
  { s with noc := { s.noc with fabRsp := s.noc.fabRsp ++ [(port, responseTo p kErrorResp stTargetUnavailable [])] } }

/-- A request at a fabric initiator port (R415, R421, R433). -/
def designRequest (s : State) (b j : Nat) (p : NocPkt) : State :=
  let port := 8 * b + j
  let p := { p with addr := p.addr / 64 * 64 % 2 ^ 48, granules := if p.kind = kPartial then 1 else max 1 (min 16 p.granules) }
  let first := 0x200 + 128 * b + 16 * j
  if !s.clocksRun then s
  else if p.init < first ∨ first + 16 ≤ p.init ∨ 2 < p.kind then
    answerDesign { s with noc := { s.noc with fabRefused := lmod s.noc.fabRefused port (· + 1) } } port p
  else if 64 ≤ (s.noc.outstanding.filter fun t => first ≤ t.pkt.init ∧ t.pkt.init < first + 16).length then s
  else
    match targetOf s p.init p.addr with
    | none => answerDesign s port p
    | some t =>
      let q := { p with target := t, epoch := injectEpoch s, cls := min (min p.cls 2) (s.num (initIdx p.init) 1), status := 0 }
      inject { s with noc := { s.noc with outstanding := s.noc.outstanding ++ [{ pkt := q, since := s.now }] } } q

/-- The design answers a request at a fabric target port (R418, R433). -/
def designResponse (s : State) (b j : Nat) (p : NocPkt) : State :=
  let port := 8 * b + j
  match s.noc.fabOut.find? fun q => q.1 = port ∧ q.2.init = p.init ∧ q.2.tag = p.tag with
  | none => s
  | some q =>
    if p.kind < kReadResp ∨ kErrorResp < p.kind ∨ !s.clocksRun then s
    else
      let rest := s.noc.fabOut.eraseP fun r => r.1 = port ∧ r.2.init = p.init ∧ r.2.tag = p.tag
      answerReq { s with noc := { s.noc with fabOut := rest } } q.2 p.kind p.status p.data

/-! ### Links (R426, R429 to R431) -/

/-- A replay on a direction of a link from the failed transfer (R426), the `n`-th from the last: event A0Ch at most once per
second. -/
def replay (s : State) (l n : Nat) : State :=
  ((s.count (linkIdx l) 6 64 1).count (linkIdx l) 7 64 n).raiseAtMost 1 0xA0C l (fun k => be 4 k)

/-- Transfers that a replay sends again: those from the failed one on, none where an idle cycle failed. -/
def replayed (s : State) (l : Nat) (back : Bool) (k : Option (Fin 32)) : Option Nat :=
  match k with
  | none => some 0
  | some k => if k.val < ((s.link l).dir back).sent.length then some (k.val + 1) else none

/-- ns that `n` cycles of the hard domain of a direction's sending bolt take (R413). -/
def linkNs (s : State) (l lane n : Nat) : Nat :=
  ceilDiv (n * 100000000) (domainTenHz s (2 * (s.num (linkIdx l) (1 + lane / 2) / 192) + 1))

/-- Whether a lane is declared failed after the given consecutive transfers (R429): 4 or more of 64 fail their checks. -/
def laneBad (transfers : List Flips) : Bool := transfers.length ≤ 64 && 4 ≤ (transfers.filter laneFaulty).length

/-- Cycles since the first of the transfers that failed. -/
def sinceFault (transfers : List Flips) : Nat := transfers.length - 1 - transfers.findIdx laneFaulty

/-- A lane (direction × 2 + lane) is declared failed (R429, R430), `ago` ns after its first failed transfer; a shadow retest is
lost. -/
def laneFails (s : State) (l lane ago : Nat) : State :=
  let mask := s.num (linkIdx l) 4
  let st := s.num (linkIdx l) 3
  if mask / 2 ^ lane % 2 = 1 ∨ st = lkFailed then s
  else
    let s := ((s.put (linkIdx l) 4 (mask + 2 ^ lane)).put (linkIdx l) 5 0).raise 0xA00 l (be 1 (lane / 2) ++ be 1 (lane % 2))
    if mask / 4 ^ (lane / 2) % 4 ≠ 0 then (s.put (linkIdx l) 3 lkFailed).raise 0xA02 l
    else if st = lkFull then (s.put (linkIdx l) 3 lkNarrowing).setLink l fun x => { x with failedAt := s.now - ago }
    else s

/-- RETRAIN of a link (R431): the spec gives it for NARROW and FAILED links; for others BUSY, as for a seam channel
(R189; DEDUCED, log entry 16). -/
def linkRetrainRule (l : Nat) : Rule :=
  { base := State.rulingNext, check := noCheck, pick := noPick,
    judge := fun s _ v =>
      if valNum v = 1 ∧ ¬(s.num (linkIdx l) 3 = lkNarrow ∨ s.num (linkIdx l) 3 = lkFailed) then refuse s stBusy else none,
    apply := fun s _ _ v =>
      if valNum v = 1 then { s := (s.put (linkIdx l) 5 1).setLink l fun x => { x with shadowAt := s.now } } else { s := s } }

/-- REINSTATE of a link (R431): BUSY unless SHADOW reads 2. -/
def linkReinstateRule (l : Nat) : Rule :=
  { base := State.rulingNext, check := noCheck, pick := noPick,
    judge := fun s _ v => if valNum v = 1 ∧ s.num (linkIdx l) 5 ≠ 2 then refuse s stBusy else none,
    apply := fun s _ _ v => if valNum v = 1 then requestDone s .nocLink l else { s := s } }

/-- The link's reinstatement at the end of its slot (R431); `none` where the shadow is lost. -/
def reinstateLink (s : State) (l : Nat) : Option State :=
  if s.num (linkIdx l) 5 = 2 then
    let s := ((s.put (linkIdx l) 3 lkFull).put (linkIdx l) 4 0).put (linkIdx l) 5 0
    some (s.raise 0xA04 l (be 8 s.rulingPick))
  else none

/-! ### Route tables (R422 to R425) -/

/-- Length of a device table (R422). -/
def tableBytes : Nat := 122880

/-- The write of the shadow table that LAST commits (R423). What the check finds depends on the unit's floor plan, of which
the spec gives no contents: a free value (0 passes, 1 to 4 the causes; log entries 4 and 9). -/
def shadowTableRule : Rule :=
  { base := State.rulingNext, pick := noPick,
    check := fun _ _ v => if (valBytes v).length = tableBytes then none else some (stTypeMismatch, 0),
    judge := fun s _ _ => if s.noc.swapPend ∨ s.noc.swapDue ∨ s.num 0x090000 2 = 3 then refuse s stBusy else none,
    apply := fun s _ _ v =>
      let verdict := s.freeValue 8 % 5
      let s := s.draw
      let router := s.freeValue 8 % 96
      let s := s.draw
      if verdict = 0 then { s := (s.write (ent 0x090010 0) v).put 0x090000 2 1 }
      else
        { s := (s.put 0x090000 2 2).raise 0xA07 0 (be 1 (verdict - 1) ++ be 1 router), status := stTypeMismatch } }

/-- SWAP (R424): BUSY unless SHADOW_STATE is VALID; untimed it runs in the next window, at its pick it is due. -/
def swapRule : Rule :=
  { base := State.rulingNext, check := noCheck, pick := noPick,
    judge := fun s _ v => if valNum v = 1 ∧ s.num 0x090000 2 ≠ 1 then refuse s stBusy else none,
    apply := fun s atPick _ v =>
      if valNum v = 0 then { s := s }
      else if !atPick then { s := { s with noc := { s.noc with swapPend := true } } }
      else if s.num 0x090000 2 ≠ 1 then { s := s, status := stBusy }
      else { s := { s with noc := { s.noc with swapDue := true } }, later := true } }

/-- The end of the slot of a route-table swap, in ns from the tick (R14). -/
def swapNs : Nat := 200

/-- The routers switch and NIs resume with the new epoch (R424 steps 2 and 3). -/
def swapTables (s : State) : State :=
  if !s.noc.swapDue then s
  else
    let cmds := s.noc.swapCmds
    let e := 1 - s.num 0x090000 3
    let old := s.oct 0x090011 0
    let s := (s.outcome 0x090011 0 (s.oct 0x090010 0)).put 0x090000 3 e
    let s := (s.put 0x090000 4 s.rulingPick).put 0x090000 2 3
    let s := { s with noc := { s.noc with swapDue := false, swapPend := false, swapCmds := [], oldTable := old,
                                          swapAt := s.ruling.windowAt } }
    let s := s.raise 0xA05 0 (be 1 e ++ be 8 s.rulingPick)
    cmds.foldl (fun s c => raiseDone s c stOk) s

/-- Whether a packet of the old epoch remains, or is still to come as a response (R424 steps 4 and 5). -/
def oldEpochLeft (s : State) : Bool :=
  let e := s.num 0x090000 3
  s.noc.outstanding.any (fun t => t.pkt.epoch != e) || s.noc.flight.any (fun p => p.epoch != e)
    || s.noc.accepted.any fun p => p.epoch != e

/-- The old epoch has drained (R424 step 5): event A06h. -/
def epochDrained (s : State) : State :=
  if s.num 0x090000 2 = 3 ∧ !oldEpochLeft s then
    let s := (s.putOct 0x090010 0 s.noc.oldTable).put 0x090000 2 0
    { s with noc := { s.noc with oldTable := [] } }.raise 0xA06 0 (be 4 (s.now - s.noc.swapAt))
  else s

/-- Cancel pending swaps (R425). -/
def cancelSwap (s : State) (status : Nat) : State :=
  let cmds := s.noc.swapCmds
  let s := { s with noc := { s.noc with swapPend := false, swapDue := false, swapCmds := [] } }
  cmds.foldl (fun s c => raiseDone s c status) s

/-! ### Statistics and classes (R421, R435) -/

/-- STATS_CLEAR (R435): transactions that completed in the cycle are counted after the clear. -/
def statsClearRule : Rule :=
  { base := State.rulingNext, check := noCheck, judge := noJudge, pick := noPick,
    apply := fun s _ _ v =>
      if valNum v = 0 then { s := s }
      else
        let keep := fun (e : Nat × Val) => !(0x090400 ≤ e.1 / 256 && e.1 / 256 ≤ 0x0907FF && 2 ≤ e.1 % 256)
        let now := s.noc.recent.filter fun r => r.at_ = s.now
        let s := { s with cat := s.cat.filter keep, noc := { s.noc with latSum := [], pickBytes := [] } }
        { s := now.foldl (fun s r => addTransaction s r.init r.bytes r.lat) s } }

/-- CLASS of an initiator (R436): stream engines refuse writes with ACCESS_DENIED. -/
def classRule (i : Nat) : Rule :=
  { plainRule (ent (initIdx i) 1) with
    check := fun _ _ v =>
      if 0x40 ≤ i ∧ i < 0x48 then some (stAccessDenied, 0) else if 2 < valNum v then some (stTypeMismatch, 0) else none }

/-- A ruling pick ends (R436): bytes of the pick and the highest so far. -/
def closePickBytes (s : State) : State :=
  let s := (List.range 1024).foldl (fun s i =>
    let n := tgetD s.noc.pickBytes i 0
    if n = 0 ∧ s.num (initIdx i) 8 = 0 then s
    else (s.put (initIdx i) 8 n).put (initIdx i) 9 (max (s.num (initIdx i) 9) n)) s
  { s with noc := { s.noc with pickBytes := [] } }

/-! ### Commands -/

/-- NOC_REQUEST_AT_TARGET (R418, R419, R427, R430, R432): the request comes its way over the links, or the router before a FAILED
link answers it. -/
def execNocRequestAtTarget (p : NocPkt) (way : List Hop) (flips : List (Nat × Nat)) (s : State) : Out :=
  let q := inFlight s p
  .next (if isRequest q ∧ mayArrive s q then
    match travel s q none way with
    | .held => s
    | .stopped t => inject (landed t q) (responseTo q kErrorResp stTargetUnavailable [])
    | .through t => (requestArrives t q (wrongWords q flips)).getD s
  else s)

/-- NOC_RESPONSE_AT_INITIATOR (R419, R427, R428, R430): a response before a FAILED link is absorbed. -/
def execNocResponseAtInitiator (p : NocPkt) (way : List Hop) (flips : List (Nat × Nat)) (s : State) : Out :=
  let q := inFlight s p
  .next (if !isRequest q ∧ q.kind ≤ kErrorResp ∧ mayArrive s q then
    match travel s q none way with
    | .held => s
    | .stopped t => landed t q
    | .through t => responseArrives t q (wrongWords q flips)
  else s)

/-- LINK_REPLAY (R426): the bits of each lane that changed in the transfer, the `k`-th from the last or an idle cycle's, fail a
check. -/
def execLinkReplay (l : Fin 160) (back : Bool) (k : Option (Fin 32)) (lane0 lane1 : Flips) (s : State) : Out :=
  .next (if (laneFaulty lane0 || laneFaulty lane1) && s.num (linkIdx l) 3 != lkFailed then
    match replayed s l back k with
    | some n => replay s l n
    | none => s
  else s)

/-- NOC_LANE_FAILED (R429, R430): the bits of the lane that changed in its last transfers. -/
def execNocLaneFailed (l : Fin 160) (lane : Fin 4) (transfers : List Flips) (s : State) : Out :=
  .next (if laneBad transfers then laneFails s l lane (linkNs s l lane (sinceFault transfers)) else s)

/-- LINK_NARROW (R429): event A01h, within 12 µs of the first failed transfer. -/
def execLinkNarrow (l : Fin 160) (dur : Nat) (s : State) : Out :=
  .next (if s.num (linkIdx l) 3 = lkNarrowing ∧ dur ≤ 12000 then
    let s := s.waitUntil ((s.link l).failedAt + dur)
    (s.put (linkIdx l) 3 lkNarrow).raise 0xA01 l (be 4 dur)
  else s)

/-- NOC_TIMEOUT (R428). -/
def execNocTimeout (i : Fin 1024) (tag : Fin 4096) (s : State) : Out := .next (timeOut s i tag)

/-- SWAP (R424). -/
def execSwap (r : Req) (v : Nat) (s : State) : Out := .next (submit s r (ent 0x090000 1) (.num v) swapRule)

/-- ROUTE_TABLE_SWAP (R424). -/
def execRouteTableSwap (s : State) : Out := .next (if s.ruling.window then swapTables s else s)

/-- OLD_EPOCH_DRAINED (R424). -/
def execOldEpochDrained (s : State) : Out := .next (epochDrained s)

/-- LINK_RETRAIN (R431). -/
def execLinkRetrain (r : Req) (l : Fin 160) (v : Nat) (s : State) : Out :=
  .next (submit s r (ent (linkIdx l) 8) (.num v) (linkRetrainRule l))

/-- LINK_SHADOW_READY (R431): after 1 ms without a failed check, or a lane still fails; event A03h. -/
def execLinkShadowReady (l : Fin 160) (ok : Bool) (s : State) : Out :=
  .next (if s.num (linkIdx l) 5 = 1 then
    if ok then ((s.waitUntil ((s.link l).shadowAt + 1000000)).put (linkIdx l) 5 2).raise 0xA03 l (be 1 0)
    else (s.put (linkIdx l) 5 0).raise 0xA03 l (be 1 1)
  else s)

/-- LINK_REINSTATE (R431). -/
def execLinkReinstate (r : Req) (l : Fin 160) (v : Nat) (s : State) : Out :=
  .next (submit s r (ent (linkIdx l) 9) (.num v) (linkReinstateRule l))

/-- TARGET_NI_DRAINED (R432): no accepted request is outstanding. -/
def execTargetNiDrained (t : Fin 96) (s : State) : Out :=
  .next (if s.ni t = niDraining ∧ (acceptedAt s t).isEmpty then putNi s t niOffline else s)

/-- STATS_CLEAR (R435). -/
def execStatsClear (r : Req) (v : Nat) (s : State) : Out := .next (submit s r (ent 0x090000 7) (.num v) statsClearRule)

/-- FABRIC_PORT_REQUEST (R433). -/
def execFabricPortRequest (b : Fin 4) (j : Fin 8) (p : NocPkt) (s : State) : Out := .next (designRequest s b j p)

/-- FABRIC_TARGET_RESPONSE (R418, R433). -/
def execFabricTargetResponse (b : Fin 4) (j : Fin 8) (p : NocPkt) (s : State) : Out := .next (designResponse s b j p)

end Sys2Proof.Machine
end

