-- ==== Sys2Proof/Machine/Memory.lean ====
section
/-! DEFINITION. LPDDR4X channels: scheduling, refresh, power-down, training, tracking and loss (R444 to R461), and the
contents that plain requests read and write (R439 to R441). -/

namespace Sys2Proof.Machine

/-- Index of a channel record. -/
def mchIdx (c : Nat) : Nat := 0x0A0100 + c

/-- Channel states (R460). -/
def mcDisabled : Nat := 0
def mcTraining : Nat := 1
def mcOnline : Nat := 2
def mcRetraining : Nat := 3
def mcOut : Nat := 4
def mcLost : Nat := 5

/-- State of channel `c`. -/
def State.mcState (s : State) (c : Nat) : Nat := s.num (mchIdx c) 1

/-- A channel changes state: event B01h (R457). -/
def putMc (s : State) (c st : Nat) : State :=
  if s.mcState c = st then s else (s.put (mchIdx c) 1 st).raise 0xB01 c (be 1 (s.mcState c) ++ be 1 st)

/-! ### Scheduling (R448, R449) -/

/-- Rank, bank and row of a request. -/
def reqFields (s : State) (c : Nat) (p : NocPkt) : Nat × Nat × Nat :=
  fieldsOf s c (((channelAt s (locationOf p.addr)).map (·.2)).getD 0)

/-- The open row of a bank. -/
def openRow (s : State) (c rank bank : Nat) : Option Nat := tget ((s.mch c).ranks.getD rank {}).rows bank

/-- Whether a request hits an open row. -/
def rowHit (s : State) (c : Nat) (p : NocPkt) : Bool :=
  let f := reqFields s c p
  openRow s c f.1 f.2.1 == some f.2.2

/-- Whether two requests share a granule. -/
def sharesGranule (p q : NocPkt) : Bool :=
  let a := locationOf p.addr
  let b := locationOf q.addr
  a < b + 64 * q.granules && b < a + 64 * p.granules

/-- The precedence of the queued request `i` (R449). -/
def precedence (s : State) (c i : Nat) (p : NocPkt) : Nat :=
  if p.panic then 0
  else if s.num 0x0A0000 3 < s.now - (s.mch c).queuedAt.getD i 0 then 1
  else if p.cls ≠ 0 ∧ rowHit s c p then 2
  else if p.cls ≠ 0 then 3
  else 4

/-- The request a channel issues next (R449): the oldest of the first precedence, among those that no older request to
the same granule precedes. -/
def nextIssue (s : State) (c : Nat) : Option Nat :=
  let q := (s.mch c).queue
  let ready := (List.range q.length).filter fun i =>
    !(List.range i).any fun j => sharesGranule (q.getD i {}) (q.getD j {})
  ready.foldl (fun (b : Option Nat) i =>
    match b with
    | none => some i
    | some j => if precedence s c i (q.getD i {}) < precedence s c j (q.getD j {}) then some i else some j) none

/-- An access of `n` granules to rank, bank and row `f` of a channel (R448, R453, R460): counts, and the row that stays open with
`keep`, or while a queued request hits it. -/
def rowAccess (s : State) (c : Nat) (f : Nat × Nat × Nat) (read keep : Bool) (n : Nat) : State :=
  let hit := openRow s c f.1 f.2.1 == some f.2.2
  let s := s.count (mchIdx c) (if read then 0x0A else 0x0B) 64 n
  let s := s.count (mchIdx c) (if hit then 0x0C else 0x0D) 64 1
  let stay := keep || (s.mch c).queue.any fun q => reqFields s c q == f
  s.setMch c fun x => { x with ranks := lmod x.ranks f.1 fun r =>
    { r with down := false, idleAt := s.now, rows := if stay then tput r.rows f.2.1 f.2.2 else tdel r.rows f.2.1 } }

/-- A request leaves the queue as it is issued: its row and the panic hold (R448, R450). -/
def issue (s : State) (c i : Nat) : State :=
  let p := (s.mch c).queue.getD i {}
  let s := s.setMch c fun x => { x with queue := x.queue.eraseIdx i, queuedAt := x.queuedAt.eraseIdx i }
  let s := rowAccess s c (reqFields s c p) (p.kind == kRead) p.keepOpen p.granules
  if p.panic ∧ !(s.mch c).panicking then s.setMch c fun x => { x with panicUntil := s.now + 2000 } else s

/-- A plain request's data (R438, R449): bytes read, or written under the mask of a WRITE_PARTIAL. -/
def plainAccess (s : State) (p : NocPkt) : State × List Byte :=
  let loc := locationOf p.addr
  if p.kind = kRead then (s, s.bytes loc (64 * p.granules))
  else if p.kind = kPartial then (s.store loc (mergeBytes p.mask (s.bytes loc 64) p.data), [])
  else (s.store loc ((p.data ++ List.replicate (64 * p.granules - p.data.length) 0).take (64 * p.granules)), [])

/-- The response that completes a request of a kind. -/
def ackKind (p : NocPkt) : Nat := if p.kind = kRead then kReadResp else kWriteAck

/-! ### The archive (R440, R441) -/

/-- Granules of a request that a list of granule addresses marks. -/
def markedIn (l : List Nat) (p : NocPkt) : List Nat := l.filter fun a => p.addr ≤ a ∧ a < p.addr + 64 * p.granules

/-- An uncorrectable archive read (R441): counted, event B11h. -/
def archiveBad (s : State) (b off source : Nat) : State :=
  ((s.count (0x0A0200 + b) 2 64 1).put (0x0A0200 + b) 3 off).raise 0xB11 b (be 4 off ++ be 1 source)

/-- A corrected archive read (R441): event B10h at most once per second for each bolt. -/
def archiveOne (s : State) (b n : Nat) : State :=
  if n = 0 then s else (s.count (0x0A0200 + b) 1 64 n).raiseAtMost 1 0xB10 b (fun m => be 4 m)

/-- Archive granules found with wrong bits (R441): offset, and whether more than one bit of a word is wrong. -/
def addUpsets (s : State) (b : Nat) (l : List (BitVec 26 × Bool)) : State :=
  l.foldl (fun s u =>
    let g := 0x0E0000000000 + b * 0x04000000 + u.1.toNat / 64 * 64
    let one := s.mem.archOne.filter (· != g)
    if u.2 ∨ s.mem.archBad.contains g then
      { s with mem := { s.mem with archOne := one, archBad := g :: s.mem.archBad.filter (· != g) } }
    else { s with mem := { s.mem with archOne := g :: one } }) s

/-- A granule written whole has new check bits (R441). -/
def cleanGranule (s : State) (g : Nat) : State :=
  { s with mem := { s.mem with archBad := s.mem.archBad.filter (· != g), archOne := s.mem.archOne.filter (· != g) } }

/-- An archive granule read at once by an initiator (R441): `src` is 0 for a dedicated port, 1 for the NoC; none where a word is
uncorrectable. -/
def archiveRead (s : State) (b off src : Nat) : State × Bool :=
  let g := 0x0E0000000000 + b * 0x04000000 + off / 64 * 64
  let s := s.count (0x0A0200 + b) (4 + src) 64 1
  if s.mem.archBad.contains g then (archiveBad s b off src, false)
  else (if s.mem.archOne.contains g then archiveOne s b 1 else s, true)

/-- A piece of an archive granule written at once by an initiator (R441): a partial write to a granule with an uncorrectable word
writes nothing. -/
def archiveWrite (s : State) (a off b src : Nat) (d : List Byte) : Option State :=
  let s := s.count (0x0A0200 + b) (4 + src) 64 1
  let g := a - off % 64
  if d.length = 64 then some ((cleanGranule s g).store a d)
  else if s.mem.archBad.contains g then none else some (s.store a d)

/-- A slice completes a request (R440, R441). -/
def archiveAccess (s : State) (p : NocPkt) : State :=
  let b := (p.target - 0x20) / 4
  let s := s.count (0x0A0200 + b) 5 64 p.granules
  let bad := markedIn s.mem.archBad p
  if p.kind = kWrite then
    let clear := fun (l : List Nat) => l.filter fun a => !(p.addr ≤ a ∧ a < p.addr + 64 * p.granules)
    let s := { s with mem := { s.mem with archBad := clear s.mem.archBad, archOne := clear s.mem.archOne } }
    answerReq (plainAccess s p).1 p kWriteAck stOk []
  else
    match bad with
    | a :: _ =>
      let s := if p.kind = kRead then archiveBad s b (a % 0x04000000) 1 else s
      answerReq s p kErrorResp stTargetUnavailable []
    | [] =>
      let s := archiveOne s b (if p.kind = kRead then (markedIn s.mem.archOne p).length else 0)
      let r := plainAccess s p
      answerReq r.1 p (ackKind p) stOk r.2

/-- Queued requests of one slice, in the order accepted (R440); the `ix`-th completes only as the first of its initiator's
port side: one NI, so only the oldest completes. -/
def archiveComplete (s : State) (t : Nat) : State :=
  match s.mem.archQ.find? fun p => p.target = t with
  | none => s
  | some p => archiveAccess { s with mem := { s.mem with archQ := s.mem.archQ.eraseP fun q => q.target = t } } p

/-! ### Refresh and power-down (R450 to R453) -/

/-- tREFI in ns for a multiplier in quarters (R451). -/
def trefi (mult : Nat) : Nat := 3904 * mult / 4

/-- Change rank `r` of channel `c`. -/
def State.setRank (s : State) (c r : Nat) (f : Rank → Rank) : State :=
  s.setMch c fun x => { x with ranks := lmod x.ranks r f }

/-- Whether a channel refreshes: any state in which it holds contents outside self-refresh (R457). -/
def refreshes (s : State) (c : Nat) : Bool := s.mcState c == mcOnline

/-- A refresh falls due (R452). -/
def refresh (s : State) (c r : Nat) : State :=
  match (s.mch c).ranks[r]? with
  | none => s
  | some x =>
    if !refreshes s c ∨ x.selfRef then s
    else
      let s := s.waitUntil x.dueAt
      let d := debtNow s c x
      let s := s.setRank c r fun x => { x with dueAt := x.dueAt + trefi x.mult }
      if underPanic s c ∧ d < 8 then
        let s := (s.setRank c r fun x => { x with debt := d + 1, catchAt := none }).count (mchIdx c) 8 32 1
        if d + 1 = 8 then s.count (mchIdx c) 9 32 1 else s
      else
        let s := s.setRank c r fun x => { x with down := false, idleAt := s.now, rows := [] }
        if underPanic s c then
          (s.setRank c r fun x => { x with debt := 8, catchAt := none }).raiseAtMost 1 0xB02 c (fun _ => be 1 r)
        else s.setRank c r fun x =>
          { x with debt := d, catchAt := if d = 0 then none else some (s.now + trfc (s.num (mchIdx c) 3)) }

/-- 2 µs after the last panic request left the queue (R450, R452): panic ends and the catch-up begins. -/
def panicEnds (s : State) (c : Nat) : State :=
  let x := s.mch c
  if x.panicUntil = 0 ∨ x.panicking then s
  else
    let s := s.waitUntil x.panicUntil
    let s := s.count (mchIdx c) 0x0E 64 (x.panicUntil - x.panicAt)
    s.setMch c fun x => { x with panicUntil := 0, ranks := x.ranks.map fun r =>
      if r.debt = 0 then r else { r with catchAt := some s.now } }

/-- Whether a queued request addresses a rank. -/
def rankQueued (s : State) (c r : Nat) : Bool := (s.mch c).queue.any fun p => (reqFields s c p).1 == r

/-- A rank enters power-down after PD_IDLE without requests, not under panic (R453). -/
def powerDown (s : State) (c r : Nat) : State :=
  match (s.mch c).ranks[r]? with
  | none => s
  | some x =>
    let idle := s.num 0x0A0000 4
    if idle = 0 ∨ x.down ∨ x.selfRef ∨ rankQueued s c r ∨ !refreshes s c then s
    else
      let s := s.waitUntil (x.idleAt + idle)
      if underPanic s c then s
      else (s.setRank c r fun x => { x with down := true, rows := [] }).count (mchIdx c) 0x0F 32 1

/-! ### Training, tracking and loss (R454 to R459) -/

/-- Requests a channel holds end with ERROR_RESP (R459). -/
def dropRequests (s : State) (c : Nat) : State :=
  let held := s.noc.accepted.filter fun p => p.target = c
  let s := s.setMch c fun x => { x with queue := [], queuedAt := [] }
  let s := { s with itg := { s.itg with waiting := s.itg.waiting.filter fun p => p.target ≠ c } }
  held.foldl (fun s p => answerReq s p kErrorResp stTargetUnavailable []) s

/-- A channel is lost (R457, R459, R476): event B05h. -/
def loseChannel (s : State) (c cause : Nat) : State :=
  let s := (putMc s c mcLost).raise 0xB05 c (be 1 cause)
  let s := dropRequests (putNi s c niOffline) c
  let s := s.forget fun loc => loc < 2 ^ 37 && (channelAt s loc).any fun a => a.1 == c
  let s := s.setMch c fun _ => {}
  let s := match findOp s 6 (mchIdx c) with
    | some o => failOp s o stTargetUnavailable (s.num (mchIdx c) 0x11 + 1)
    | none => s
  slotsLose s (c / 8)

/-- The multiplier an MR4 refresh-rate field asks for, in quarters; 111b keeps 0.25 (R451; codes PRESUMED from LPDDR4,
log entry 15). -/
def mr4Mult (mr4 : Nat) : Nat := if mr4 ≤ 3 then 4 else if mr4 = 4 then 2 else 1

/-- Every 4 ms (R451, R456): MR4 and the link check; two failures in a row lose the channel. -/
def track (s : State) (c mr4 : Nat) (mr4Ok patternOk : Bool) : State :=
  if s.mcState c ≠ mcOnline then s
  else
    let s := s.waitUntil (s.mch c).trackAt
    let s := s.setMch c fun x => { x with trackAt := x.trackAt + 4000000 }
    let s := if !mr4Ok then s else
      let hot := decide (mr4 = 7 ∧ s.num (mchIdx c) 4 ≠ 7)
      let m := mr4Mult mr4
      let s := (s.put (mchIdx c) 4 mr4).put (mchIdx c) 5 (trefi m)
      (List.range (s.mch c).ranks.length).foldl (fun s r =>
        let old := ((s.mch c).ranks.getD r {}).mult
        let s := s.setRank c r fun x => { x with mult := m }
        if old ≠ m ∨ hot then s.raise 0xB03 c (be 1 r ++ be 1 mr4 ++ be 2 (trefi m)) else s) s
    if mr4Ok ∧ patternOk then s.setMch c fun x => { x with fails := 0 }
    else
      let s := (s.count (mchIdx c) 0x10 32 1).raise 0xB04 c (be 1 (if mr4Ok then 1 else 0))
      if 1 ≤ (s.mch c).fails then loseChannel s c 0 else s.setMch c fun x => { x with fails := 1 }

/-- A rank as training leaves it: its first refresh is due after tREFI, the second rank half an interval later (R451). -/
def freshRank (s : State) (r : Nat) : Rank := { dueAt := s.now + 3904 + r * 1952, idleAt := s.now }

/-- Show the totals of the enabled channels (R460). -/
def showMemory (s : State) : State :=
  let s := (List.range 4).foldl (fun s b => s.put (0x0A0010 + b) 3 (regionBytes s b)) s
  s.put 0x0A0000 2 ((List.range 4).foldl (fun a b => a + regionBytes s b) 0)

/-- Start-up training of a channel ends (R457): event B00h. -/
def trainingEnds (s : State) (c ranks density : Nat) (failedStep : Option Nat) : State :=
  if s.mcState c ≠ mcTraining then s
  else
    match failedStep with
    | some k =>
      let s := (s.put (mchIdx c) 0x11 k).raise 0xB00 c (be 1 1 ++ be 1 k)
      loseChannel s c 2
    | none =>
      let s := ((s.put (mchIdx c) 2 ranks).put (mchIdx c) 3 density).put (mchIdx c) 0x11 5
      let s := (s.put (mchIdx c) 5 3904).setMch c fun _ => { ranks := (List.range ranks).map (freshRank s), trackAt := s.now + 4000000 }
      let s := putNi (putMc (s.raise 0xB00 c (be 1 0 ++ be 1 5)) c mcOnline) c niOnline
      showMemory s

/-- The data rate that the running design sets for a bolt (R444). -/
def boltRate (s : State) (b : Nat) : Nat :=
  valNum ((tget s.cfg.compiled.entries (ent (0x0A0010 + b) 1)).getD (.num 4266))

/-- Whether an enabled channel is kept at a start instant (R454): `old` enable mask and rates are those of the previous
bitstream. -/
def keptChannel (s : State) (old new_ c : Nat) : Bool :=
  let b := c / 8
  let count := fun m => ((List.range 8).filter fun i => m / 2 ^ (8 * b + i) % 2 = 1).length
  old / 2 ^ c % 2 == 1 && s.mcState c == mcOnline && s.mem.rates.getD b 0 == boltRate s b && count old == count new_
    && (List.range 3).all fun i => s.num (0x0A0010 + b) (4 + i) == s.num (0x0A0010 + b) (7 + i)

/-- What an unconfigured channel shows (R460): no ranks, no density, no refresh rate, no tREFI in force, no training step. -/
def blankChannel (s : State) (c : Nat) : State :=
  let s := ((s.put (mchIdx c) 2 0).put (mchIdx c) 3 0).put (mchIdx c) 4 0
  ((s.put (mchIdx c) 5 0).put (mchIdx c) 0x11 0).setMch c fun _ => {}

/-- The location of a channel address among the enabled channels of a bolt (R445). -/
def locationIn (cs : List Nat) (b c a : Nat) : Nat :=
  b * 2 ^ 35 + (a / 256 * cs.length + cs.findIdx (· == c)) * 256 + a % 256

/-- DRAM contents as a change of the enabled channels leaves them (R445, R454): those of kept channels keep their channel addresses;
`from_` is the state before the change. -/
def moveContents (from_ s : State) (kept : List Nat) : State :=
  let stay := s.mem.bytes.filter fun c => 2 ^ 37 ≤ c.1
  let moved := (s.mem.bytes.filter fun c => c.1 < 2 ^ 37).filterMap fun c =>
    match channelAt from_ c.1 with
    | some (k, a) => if kept.contains k then some (locationIn (channelsOf s (k / 8)) (k / 8) k a, c.2) else none
    | none => none
  { s with mem := { s.mem with bytes := moved.foldl (fun m c => memWrite m c.1 c.2) stay } }

/-- At S (R454, R457): MCH_ENABLE takes effect; kept channels stay ONLINE, the others train afresh or are DISABLED. -/
def startMemory (s : State) (new_ : Nat) : State × (Nat → Bool) :=
  let old := s.num 0x0A0000 1
  let enabled := (List.range 32).filter fun c => new_ / 2 ^ c % 2 = 1
  let kept := enabled.filter fun c => keptChannel s old new_ c
  let keptBolt : Nat → Bool := fun b => (enabled.filter fun c => c / 8 = b).all fun c => kept.contains c
  let before := s
  let s := moveContents before (s.put 0x0A0000 1 new_) kept
  let s := (List.range 32).foldl (fun s c =>
    if kept.contains c then s
    else
      let s := dropRequests (putNi s c niOffline) c
      putMc (blankChannel s c) c (if enabled.contains c then mcTraining else mcDisabled)) s
  let s := (List.range 4).foldl (fun s b =>
    let n := (channelsOf s b).length
    let s := ((s.put (0x0A0010 + b) 1 (if n = 0 then 0 else boltRate s b)).put (0x0A0010 + b) 2 n)
    let s := { s with mem := { s.mem with rates := s.mem.rates.set b (boltRate s b) } }
    if keptBolt b then s
    else
      (List.range 3).foldl (fun s i => s.put (0x0A0010 + b) (7 + i) (s.num (0x0A0010 + b) (4 + i))) s) s
  (showMemory s, keptBolt)

/-- A reset (R132, R457, R460): every channel DISABLED, the controllers unconfigured, and the LPDDR4X contents lost. -/
def resetMemory (s : State) : State :=
  let s := (List.range 32).foldl (fun s c => putMc (blankChannel (dropRequests (putNi s c niOffline) c) c) c mcDisabled) s
  let s := (List.range 4).foldl (fun s b =>
    let s := ((s.put (0x0A0010 + b) 1 0).put (0x0A0010 + b) 2 0).put (0x0A0010 + b) 3 0
    { s with cat := [7, 8, 9].foldl (fun t i => tdel t (ent (0x0A0010 + b) i)) s.cat }) s
  { (s.put 0x0A0000 1 0).put 0x0A0000 2 0 with mem := { s.mem with rates := [0, 0, 0, 0] } }.forget fun loc => loc < 2 ^ 37

/-! ### Commands -/

/-- REFRESH_DUE (R452). -/
def execRefreshDue (c : Fin 32) (rank : Fin 2) (s : State) : Out := .next (refresh s c rank)

/-- PANIC_HOLD_END (R450, R452). -/
def execPanicHoldEnd (c : Fin 32) (s : State) : Out := .next (panicEnds s c)

/-- POWER_DOWN_ENTRY (R453). -/
def execPowerDownEntry (c : Fin 32) (rank : Fin 2) (s : State) : Out := .next (powerDown s c rank)

/-- CHANNEL_TRACKING (R451, R456). -/
def execChannelTracking (c : Fin 32) (mr4 : BitVec 3) (mr4Ok patternOk : Bool) (s : State) : Out :=
  .next (track s c mr4.toNat mr4Ok patternOk)

/-- CHANNEL_TRAINING_END (R454, R457). -/
def execChannelTrainingEnd (c : Fin 32) (ranks : Fin 3) (density : Nat) (failedStep : Option (Fin 6)) (s : State) : Out :=
  .next (trainingEnds s c ranks density (failedStep.map (·.val)))

/-- BANK_UNPOWERED (R217, R457): a bank that carries an enabled channel loses it. -/
def execBankUnpowered (b : Fin 4) (k : Fin 24) (s : State) : Out :=
  .next (
    let s := bankChange s b k false
    let c := 8 * b.val + k.val
    if k.val < 8 ∧ (s.mcState c = mcOnline ∨ s.mcState c = mcRetraining ∨ s.mcState c = mcOut ∨ s.mcState c = mcTraining) then
      loseChannel s c 1
    else s)

/-- BANK_POWERED (R217). -/
def execBankPowered (b : Fin 4) (k : Fin 24) (s : State) : Out := .next (bankChange s b k true)

end Sys2Proof.Machine
end

