-- ==== Sys2Proof/Machine/Cells.lean ====
section
/-! DEFINITION. The programmed fabric: logic elements, routing and long wires, block memory ports, pins, and what crosses the seams
(R163, R175 to R177, R181, R184, R194 to R200, R207 to R220, R246, R455). -/

namespace Sys2Proof.Machine

/-! ### Wires

A wire has a number: from 0 on, eight for each logic element (6-input output, 5-input output, two flip-flops, carry out, carry
sum); from `wBram` on, 80 for each block memory port; from `wLong` on the long wires; from `wPad` on the levels on user I/O; from
`wHard` on, 4,096 for each bolt's signals of hard units; from `wSeam` on, 1,024 for each seam channel (log entry 5). -/

def wBram : Nat := 2 ^ 26
def wLong : Nat := 2 ^ 27
def wPad : Nat := 2 ^ 28
def wHard : Nat := 2 ^ 29
def wSeam : Nat := 2 ^ 30

/-- ULOOP_COAST (R246): a user loop runs at its floor outputs. -/
def uloopCoasts (s : State) (l : Nat) : Bool := s.num (uloopIdx l) 1 == 3 || s.num (uloopIdx l) 1 == 4

/-- DOM_FLOOR (R246): a domain is COASTING or FLOOR. -/
def domFloors (s : State) (d : Nat) : Bool := s.domState d == dCoasting || s.domState d == dFloor

/-- TL_HOLDOVER (R246). -/
def holdover (s : State) : Bool := s.num 0x040010 1 == 3

/-- MCH_READY (R455): a channel is ONLINE. -/
def mchReady (s : State) (c : Nat) : Bool := s.mcState c == mcOnline

/-- TICK_PICK and TICK_BEAT of this cycle (R36). -/
def strobesNow (s : State) : Nat × Nat := if s.ruling.strobeAt = s.now then (s.ruling.tickPick, s.ruling.tickBeat) else (0, 0)

/-- ICP_READY (R161): a design load holds the port and ICP_BUSY has risen. -/
def icpReady (s : State) (b : Nat) : Bool :=
  match (s.cfg.icp[b]?).join with
  | some l => l.byMgc.isNone && l.since < s.now
  | none => false

/-- What bolt `b` presents to its static region (R36, R110, R160, R223, R246, R268, R279, R455): EVT_LINE, SELV_GPI, ULOOP_COAST, DOM_FLOOR,
TL_HOLDOVER, MCH_READY, TICK_SELVAGE, TICK_PICK, TICK_BEAT, TICK_PNUM, ICP_BUSY, ICP_READY, ICP_DONE, ICP_STATUS, TRIG_OUT (R268) and RAWL_RX_LOCK (R279). -/
def boltSignal (s : State) (b k : Nat) : Bool :=
  if k < 64 then bitAt (s.num (0x0E0200 + b) 1) k
  else if k < 80 then bitAt s.fab.selvGpi (16 * b + (k - 64))
  else if k < 88 then uloopCoasts s (8 * b + (k - 80))
  else if k < 90 then domFloors s (2 * b + (k - 88))
  else if k = 90 then holdover s
  else if k < 99 then mchReady s (8 * b + (k - 91))
  else if k = 99 then s.ruling.window
  else if k < 108 then bitAt (strobesNow s).1 (k - 100)
  else if k < 116 then bitAt (strobesNow s).2 (k - 108)
  else if k < 132 then bitAt s.ruling.tickPnum (k - 116)
  else if k = 132 then s.cfg.icpBusy.getD b false
  else if k = 133 then icpReady s b
  else if k = 134 then (s.cfg.icpDone.getD b none) == some s.now
  else if k < 151 then bitAt (s.cfg.icpStatus.getD b 0) (k - 135)
  else if k < 215 then (s.trig (k - 151)).level
  else if k < 247 then ((rawLanesOf b)[k - 215]?).any fun c => rawLock s c
  else false

/-- The receiving end of a seam channel (R176, R177, R181): FIXED signals 0 to 511; of a bundle the data of its oldest word, 496 the
valid, and 497 the ready of its sending shim, low once 32 words are unacknowledged or the channel has FAILED. -/
def seamSignal (s : State) (c k : Nat) : Bool :=
  let x := s.chan c
  if s.num (chIdx c) 2 = 2 then
    if k < 496 then bitAt (x.shim.queue.headD 0) k
    else if k = 496 then x.shim.queue != []
    else x.shim.words.length < 32 && s.chState c != chFailed
  else bitAt x.fixed k

/-- A wire of a block memory port (R199, R201, R203): data, SBE and DBE; in queue mode the write side on port A and the read side on
port B. -/
def bramSignal (s : State) (k i : Nat) : Bool :=
  match tget s.fab.queues (k / 2) with
  | some q =>
    if k % 2 = 0 then
      if i = 0 then q.full else if i = 1 then q.afull else if i = 2 then q.overflow else bitAt q.wseen (i - 3)
    else if i < 72 then bitAt q.rdata i
    else [q.sbe, q.dbe, q.empty, q.aempty, q.underflow].getD (i - 72) false
  | none =>
    let x := s.bport k
    if i < 72 then bitAt x.out i else if i = 72 then x.sbe else x.dbe

/-- Whether the fabric sees a user input pin: the level behind its filter, or the pin's input constant while its bank is unpowered
(R214, R215, R217). Pin: bolt × 960 + bank × 40 + ball. -/
def bankOn (s : State) (pin : Nat) : Bool := bitAt (s.num 0x110002 (1 + pin / 960)) (pin % 960 / 40)

/-- What the fabric sees of a pin. -/
def userInput (s : State) (pin : Nat) : Bool :=
  if bankOn s pin then tgetD s.fab.pads pin false else (tgetD s.cfg.compiled.ios pin {}).inConst

/-- The value on a wire as its driver leaves it. -/
def rawWire (s : State) (w : Nat) : Bool :=
  if w < wBram then tgetD s.fab.wires w false
  else if w < wLong then bramSignal s ((w - wBram) / 80) ((w - wBram) % 80)
  else if w < wPad then tgetD s.fab.longs (w - wLong) false
  else if w < wHard then userInput s (w - wPad)
  else if w < wSeam then boltSignal s ((w - wHard) / 4096) ((w - wHard) % 4096)
  else seamSignal s ((w - wSeam) / 1024) ((w - wSeam) % 1024)

/-- Whether a wire is driven inside a panel. -/
def drivenIn (d : PanelDef) (w : Nat) : Bool :=
  if w < wBram then d.tiles.contains (w / 128) else if w < wLong then d.mems.contains ((w - wBram) / 160) else false

/-- A wire leaving an isolated panel is held at its latched value or its constant (R163, R197). -/
def heldWire (s : State) (reader : Option Nat) (w : Nat) : Option Bool :=
  s.cfg.compiled.panels.findSome? fun p =>
    if !s.isolated p.1 ∨ reader = some p.1 then none
    else (tget p.2.outs w).map fun h => match h with
      | .const v => v
      | .latch => tgetD (s.cfg.panelHid.getD p.1 {}).latched w false

/-- The value that a reader sees: `reader` is the panel it lies in. What enters an isolated panel is forced to its constant, 0 by
default (R163). -/
def wireAt (s : State) (reader : Option Nat) (w : Nat) : Bool :=
  let forced := reader.bind fun p =>
    match tget s.cfg.compiled.panels p with
    | some d => if s.isolated p ∧ !drivenIn d w then some (tgetD d.ins w false) else none
    | none => none
  (forced.or (heldWire s reader w)).getD (rawWire s w)

/-- The panel that a tile, memory or other part lies in. -/
def panelWith (s : State) (part : PanelDef → List Nat) (k : Nat) : Option Nat :=
  (s.cfg.compiled.panels.find? fun p => (part p.2).contains k).map (·.1)

/-- The hem cells of a panel latch (R163). -/
def latchHem (s : State) (p : Nat) : Tbl Bool :=
  match tget s.cfg.compiled.panels p with
  | some d => d.outs.map fun o => (o.1, rawWire s o.1)
  | none => []

/-! ### Logic elements (R194 to R197) -/

/-- Value of a flip-flop: INIT until it has changed (R195). -/
def ffValue (s : State) (e j : Nat) (f : FfDef) : Bool := tgetD s.fab.ffs (2 * e + j) f.init

/-- Contents of a LUT (R194, R196): as loaded until it has changed. -/
def lutOf (s : State) (e : Nat) (x : Elem) : Nat := tgetD s.fab.luts e x.lut

/-- The carry into an element (R194): from the element below, across tiles upward. -/
def carryIn (s : State) (t : Nat) (d : Tile) (i : Nat) : Bool :=
  if i = 0 then (d.below.map fun u => rawWire s (8 * (16 * u + 15) + 4)).getD false else rawWire s (8 * (16 * t + i - 1) + 4)

/-- What an element drives (R194, R196): the 6-input output, the 5-input output, its flip-flops, the carry out and the carry sum.
The carry passes where the 6-input output is 1 and takes the 5-input output else (PRESUMED, log entry 5). -/
def cellOut (s : State) (reader : Option Nat) (t : Nat) (d : Tile) (i : Nat) (x : Elem) : List Bool :=
  let e := 16 * t + i
  let at_ := ofBits 6 fun j => wireAt s reader (x.ins.getD j wPad) && decide (j < x.ins.length)
  let lut := lutOf s e x
  let o5 := bitAt lut (at_ % 32)
  let o6 := match x.use with
    | .shift => bitAt lut (at_ % 32)
    | _ => if x.dual then bitAt lut (32 + at_ % 32) else bitAt lut at_
  let cin := carryIn s t d i
  [o6, o5, ffValue s e 0 (x.ffs.getD 0 {}), ffValue s e 1 (x.ffs.getD 1 {}), if o6 then cin else o5, o6 != cin]

/-- Asynchronous set/reset of a tile's flip-flops (R195). -/
def asyncSets (s : State) (reader : Option Nat) (e : Nat) (x : Elem) : State :=
  (List.range x.ffs.length).foldl (fun s j =>
    let f := x.ffs.getD j {}
    if (f.sr.map (wireAt s reader)).getD false ∧ !s.cfg.ffHeld then { s with fab := { s.fab with ffs := tput s.fab.ffs (2 * e + j) f.sets } }
    else s) s

/-- Every element drives its wires, and every enabled long-wire driver its wire; the others keep their value (R197). -/
def sweep (s : State) : State :=
  let s := s.cfg.compiled.tiles.foldl (fun s t =>
    let reader := panelWith s (·.tiles) t.1
    (List.range t.2.elems.length).foldl (fun s i =>
      let x := t.2.elems.getD i {}
      let s := if t.2.sync then s else asyncSets s reader (16 * t.1 + i) x
      let out := cellOut s reader t.1 t.2 i x
      { s with fab := { s.fab with wires := (List.range 6).foldl (fun w k => tput w (8 * (16 * t.1 + i) + k) (out.getD k false)) s.fab.wires } }) s) s
  s.cfg.compiled.longs.foldl (fun s l =>
    if wireAt s none l.2.enable then { s with fab := { s.fab with longs := tput s.fab.longs l.1 (wireAt s none l.2.source) } } else s) s

/-- Elements and long wires that a value may run through. -/
def depth (d : Compiled) : Nat := (d.tiles.foldl (fun n t => n + t.2.elems.length) d.longs.length) + 1

/-- The routing settles. -/
def settleWires (s : State) : State :=
  if s.cfg.compiled.tiles = [] ∧ s.cfg.compiled.longs = [] then s else (List.range (depth s.cfg.compiled)).foldl (fun s _ => sweep s) s

/-- A flip-flop at an edge of its tile clock (R195). -/
def ffNext (s : State) (reader : Option Nat) (e j : Nat) (f : FfDef) : Bool :=
  let high := fun w : Option Nat => (w.map (wireAt s reader)).getD false
  if high f.sr then f.sets
  else if f.ce.isSome ∧ !high f.ce then ffValue s e j f
  else rawWire s (8 * e + ([0, 1, 5].getD f.from_ 0))

/-- An element at an edge of the tile clocks among `drvs`: its flip-flops, and its LUT RAM or shift register (R195, R196). The
values it takes are those before the edge. -/
def elemEdge (s0 : State) (drvs : List Nat) (reader : Option Nat) (t : Nat) (d : Tile) (i : Nat) (s : State) : State :=
  let e := 16 * t + i
  let x := d.elems.getD i {}
  let ticks := fun k : Fin 2 => drvs.contains (d.clocks.getD k 1536)
  let s := (List.range x.ffs.length).foldl (fun s j =>
    let f := x.ffs.getD j {}
    if ticks f.clk then { s with fab := { s.fab with ffs := tput s.fab.ffs (2 * e + j) (ffNext s0 reader e j f) } } else s) s
  let lut := lutOf s0 e x
  let din := wireAt s0 reader x.din
  let we := (x.we.map (wireAt s0 reader)).getD true
  let put := fun v => { s with fab := { s.fab with luts := tput s.fab.luts e v } }
  if !ticks x.clk ∨ !we then s
  else match x.use with
    | .logic => s
    | .ram => put (bitPut lut (ofBits 6 fun j => wireAt s0 reader (x.ins.getD j wPad)) din)
    | .shift => put ((lut * 2 + (if din then 1 else 0)) % 2 ^ 32)

/-- What a block memory port sees at its edge. -/
def portReq (s : State) (reader : Option Nat) (d : PortDef) : PortReq :=
  let see := wireAt s reader
  { en := see d.en
    mask := if d.we.length ≤ 1 then (if (d.we.head?.map see).getD false then 2 ^ 72 - 1 else 0)
      else ofBits 72 fun j => see (d.we.getD (j / 9) wPad)
    addr := ofBits d.addr.length fun j => see (d.addr.getD j wPad)
    data := ofBits d.din.length fun j => see (d.din.getD j wPad) }

/-- An edge of the regional clocks among `drvs`: every tile, flip-flop and block memory on them, but for isolated panels
(R163, R195 to R200). While flip-flops are held they keep INIT (R157). -/
def fabricEdge (s : State) (drvs : List Nat) : State :=
  if drvs = [] then s
  else
    let s := settleWires s
    let s0 := s
    let s := if s.cfg.ffHeld then s else s.cfg.compiled.tiles.foldl (fun s t =>
      if insideIsolated s (·.tiles) t.1 then s
      else (List.range t.2.elems.length).foldl (fun s i => elemEdge s0 drvs (panelWith s0 (·.tiles) t.1) t.1 t.2 i s) s) s
    let s := s.cfg.compiled.brams.foldl (fun s m =>
      let at_ := fun p : PortDef => if drvs.contains p.clk ∧ !insideIsolated s (·.mems) m.1
        then some (portReq s0 (panelWith s0 (·.mems) m.1) p) else none
      bramEdge s m.1 m.2 (at_ m.2.a) (at_ m.2.b)) s
    settleWires s

/-- Period in ns of a clock that the timing loop gives: its taps (R207), and the floor outputs of user loops (R245). The other
sources come from outside or from loops of their own, and no command carries their edges (log entry 25). -/
def tapPeriod (s : State) : ClkSrc → Option Nat
  | .tap mhz => if mhz = 0 then none else some (1000 / mhz)
  | .uloop l o => if uloopCoasts s l then some (((tgetD s.cfg.compiled.uloops l []).getD o {}).floor) else none
  | _ => none

/-- Drivers whose output rises in this cycle: those on a clock that the timing loop gives, divided and not gated. -/
def tickDrivers (s : State) : State × List Nat :=
  s.fab.drivers.foldl (fun acc p =>
    match (clockOf s p.1).bind (tapPeriod s) with
    | some ns =>
      if s.now % ns = 0 ∧ !insideIsolated s (·.drivers) p.1 then
        let n := Nat.max 1 p.2.div
        let s := { acc.1 with fab := { acc.1.fab with drivers := tput acc.1.fab.drivers p.1 { p.2 with count := (p.2.count + 1) % n } } }
        (s, if p.2.count = 0 ∧ !p.2.gated ∧ !p.2.low then acc.2 ++ [p.1] else acc.2)
      else acc
    | none => acc) (s, [])

/-! ### Crossings (R175 to R177, R181, R183, R184) -/

/-- A returned acknowledgement or refusal reaches the sending shim (R177). -/
def Shim.returned (x : Shim) (cycle : Nat) : Shim :=
  (x.back.filter fun r => r.due ≤ cycle).foldl (fun x r =>
      let n := (r.seq + 32 - x.base) % 32
      if r.word = 1 then { x with sent := min x.sent n }
      else { x with base := (x.base + n + 1) % 32, words := x.words.drop (n + 1), sent := x.sent - (n + 1) })
    { x with back := x.back.filter fun r => cycle < r.due }

/-- The sending shim takes a word while fewer than 32 are unacknowledged (R177). -/
def Shim.offer (x : Shim) (w : Option Nat) : Shim :=
  match w with
  | some v => if x.words.length < 32 then { x with words := x.words ++ [v] } else x
  | none => x

/-- The next word leaves. -/
def Shim.send (x : Shim) (due : Nat) : Shim × Option Cross :=
  match x.words[x.sent]? with
  | some w => ({ x with sent := x.sent + 1 }, some { due := due, seq := (x.base + x.sent) % 32, word := w })
  | none => (x, none)

/-- A word reaches the receiving shim with every check wire matching (R177): accepted in its turn while the queue has room, refused
at a full queue (DESIGN CHOICE, log entry 24), discarded while a refused word has not come again. -/
def Shim.receive (x : Shim) (f : Cross) (due : Nat) : Shim :=
  if f.seq = x.expect then
    if x.queue.length < 32 then
      { x with queue := x.queue ++ [f.word], expect := (x.expect + 1) % 32, refusing := false, unacked := true }
    else x.refuse due
  else if x.refusing then x else x.refuse due

/-- The receiving shim acknowledges what it has accepted, while its queue is not full (R177). -/
def Shim.acknowledge (x : Shim) (due : Nat) : Shim :=
  if x.unacked ∧ x.queue.length < 32 then
    { x with unacked := false, back := x.back ++ [{ due := due, seq := (x.expect + 31) % 32 }] }
  else x

/-- A seam-clock cycle of a bundle (R177): the design's word is offered, what is due arrives, and the design takes the oldest word. -/
def bundleCycle (s : State) (c : Nat) (d : SeamDef) (cycle : Nat) : State :=
  let st := s.chState c
  let due := cycle + crossingCycles s c
  let word := if wireAt s none d.valid ∧ st ≠ chFailed then some (ofBits 496 fun j => wireAt s none (d.data.getD j wPad)) else none
  let live := st = chFull ∨ st = chNarrowed
  s.setChan c fun x =>
    let sh := (x.shim.returned cycle).offer word
    let out := if live then sh.send due else (sh, none)
    let here := x.fly.filter fun f => f.due ≤ cycle
    let sh := here.foldl (fun y f => y.receive f due) out.1
    let sh := if sh.queue != [] && wireAt s none d.ready then { sh with queue := sh.queue.tail } else sh
    { x with fly := (x.fly.filter fun f => cycle < f.due) ++ out.2.toList, shim := if live then sh.acknowledge due else sh }

/-- A seam-clock cycle of FIXED signals (R176, R181, R184): each crosses in 4 cycles on a FULL channel, and is held otherwise. -/
def fixedCycle (s : State) (c : Nat) (d : SeamDef) (cycle : Nat) : State :=
  if s.chState c ≠ chFull then s
  else
    let v := ofBits 512 fun j => wireAt s none (d.data.getD j wPad)
    s.setChan c fun x =>
      { x with
        fixed := ((x.fly.filter fun f => f.due ≤ cycle).getLast?.map (·.word)).getD x.fixed
        fly := (x.fly.filter fun f => cycle < f.due) ++ [{ due := cycle + 4, word := v }] }

/-- The seams in a timing-loop cycle: mismatches of 64 cycles ago become transients, and each channel the design uses moves on
where its seam clock has an edge. -/
def seamsCycle (s : State) : State :=
  let s := s.seams.chan.foldl (fun s p => if p.2.mismatches = [] then s else ageMarks s p.1 (seamCycle s p.1 s.now)) s
  if !s.fabricRuns then s
  else s.cfg.compiled.seams.foldl (fun s p =>
    let cycle := seamCycle s p.1 s.now
    if cycle = seamCycle s p.1 (s.now - 1) then s
    else if s.num (chIdx p.1) 2 = 2 then bundleCycle s p.1 p.2 cycle
    else if s.num (chIdx p.1) 2 = 1 then fixedCycle s p.1 p.2 cycle else s) s

/-- The fabric in a timing-loop cycle. -/
def fabricCycle (s : State) : State :=
  let s := seamsCycle s
  if !s.clocksRun then s
  else
    let r := tickDrivers s
    fabricEdge r.1 r.2

/-! ### Pins (R156 to R158, R214, R216 to R220, R224) -/

/-- What a pin does: high-Z with a pull, or driven. -/
inductive PinDrive where
  | highZ (pull : Pull)
  | driven (v : Bool)
  deriving DecidableEq, Repr

/-- High-Z with the weak pull that PULL_SEL selects (R131, R157). -/
def weakPin (s : State) : PinDrive := .highZ (if s.pwr.pullSel then .up else .down)

/-- A pin in its hem-safe state (R158). -/
def hemSafePin (s : State) (d : IoDef) : PinDrive :=
  if d.hemSafe = 1 then .driven false else if d.hemSafe = 2 then .driven true else weakPin s

/-- A pin in its compiled function. -/
def designPin (s : State) (reader : Option Nat) (d : IoDef) : PinDrive :=
  match d.out with
  | some w => if (d.oe.map (wireAt s reader)).getD true then .driven (wireAt s reader w) else .highZ d.pull
  | none => .highZ d.pull

/-- Whether a partial load is under way: a header accepted and no end yet (R157). -/
def partialLoading (s : State) : Bool := s.cfg.icp.any fun l => (l.map fun x => x.got == 1).getD false

/-- CFG_D[31:0]: balls 0 to 31 of bank 23 of bolt 0 (R123). -/
def cfgBall (pin : Nat) : Bool := 920 ≤ pin && pin < 952

/-- A general I/O pin (R156 to R158, R214, R217). -/
def userPin (s : State) (pin : Nat) : PinDrive :=
  let d := tgetD s.cfg.compiled.ios pin {}
  if !bankOn s pin then .highZ .none
  else if s.cfg.hemSafe then hemSafePin s d
  else if s.cfg.ioHiZ ∨ partialLoading s ∨ insideIsolated s (·.pins) pin then weakPin s
  else if cfgBall pin ∧ !s.cfg.parUser then weakPin s
  else designPin s none d

/-- A selvage pin (R157, R219, R220, R224): phase 0 is the user phase, where a STATUS pin may carry a trigger unit's output. -/
def selvagePin (s : State) (p : Nat) : PinDrive :=
  let d := tgetD s.cfg.compiled.selvage p {}
  let fn := s.num (pinIdx p) 1
  if s.cfg.hemSafe then hemSafePin s d
  else if !s.selvageOn then weakPin s
  else if fn = 1 ∧ s.fab.phase ≠ 0 then
    if s.fab.phase = 2 then .driven (s.pin p).latched else .highZ .none
  else if fn = 2 then .highZ d.pull
  else if fn = 1 ∧ s.num (pinIdx p) 2 = 1 then .driven (s.trig (s.num (pinIdx p) 3)).level
  else designPin s none d

end Sys2Proof.Machine
end

