-- ==== Sys2Proof/Machine/Ptp.lean ====
section
/-! DEFINITION. Timestamps at the MAC: what counts as a PTP event message, its rate class and correction, the record, and the
time written into a one-step Sync (R261 to R265). -/

namespace Sys2Proof.Machine

/-- Index of a port's timestamp record. -/
def tsIdx (k : Nat) : Nat := 0x030300 + k

/-- The port record of a sub-port UNIT (R272): ports, quad ports, then MGT_A and MGT_B; and its number in the port. -/
def tsPort (u : Nat) : Nat × Nat := if u < 176 then portOfUnit u else (30 + (u - 176), 0)

/-- The transports of R261. -/
inductive PtpCarrier where
  | ethernet
  | udp4
  | udp6
  deriving DecidableEq, Repr

/-- Where the PTP message begins in a frame without its FCS, and its transport: EtherType 88F7h, or UDP port 319 over IPv4 or
IPv6, behind at most one VLAN tag (R261). Header layouts are those of the standards the rule names (PRESUMED, log entry 11). -/
def ptpAt (b : List Byte) : Option (PtpCarrier × Nat) :=
  let at_ := if fieldBE b 12 2 = 0x8100 then 18 else 14
  match fieldBE b (at_ - 2) 2 with
  | 0x88F7 => some (.ethernet, at_)
  | 0x0800 =>
    let u := at_ + fieldBE b at_ 1 % 16 * 4
    if fieldBE b (at_ + 9) 1 = 17 ∧ fieldBE b (u + 2) 2 = 319 then some (.udp4, u + 8) else none
  | 0x86DD =>
    if fieldBE b (at_ + 6) 1 = 17 ∧ fieldBE b (at_ + 42) 2 = 319 then some (.udp6, at_ + 48) else none
  | _ => none

/-- A PTP event message that a MAC recognises (R261): messageType 0h to 3h, with its common header. -/
def ptpEvent (b : List Byte) : Option (PtpCarrier × Nat) :=
  (ptpAt b).filter fun p => p.2 + 34 ≤ b.length && fieldBE b p.2 1 % 16 ≤ 3

/-- Correction of a direction and class in ps: the published constant plus the trim (R262). -/
def correction (s : State) (k cls : Nat) (egress : Bool) : Int :=
  signed 32 (s.num (tsIdx k) ((if egress then 9 else 3) + cls)) + signed 32 (s.num (tsIdx k) ((if egress then 0x15 else 0x0F) + cls))

/-- Reported time in ns: raw count plus correction, rounded to the nearest ns (R262). -/
def reportedNs (raw : Nat) (corr : Int) : Nat :=
  let ps : Int := (raw : Int) * 1000 + corr * nsUnit
  ((ps + 500 * nsUnit) / (1000 * nsUnit)).toNat

/-- The time that the MAC of a UNIT reports for a message of this cycle (R256, R262). -/
def ptpTime (s : State) (u cls : Nat) (egress : Bool) : Nat :=
  let k := (tsPort u).1
  reportedNs (s.tb (s.num (tsIdx k) 1)).stamp (correction s k cls egress)

/-- Whether the MAC writes the time into a frame that it transmits (R264): a Sync, messageType 0h, with twoStepFlag clear, not
over UDP and IPv6; MGT_A and MGT_B do not insert. -/
def insertsTime (s : State) (u : Nat) (b : List Byte) (p : PtpCarrier × Nat) : Bool :=
  u < 176 && s.flag (tsIdx (tsPort u).1) 2 && fieldBE b p.2 1 % 16 == 0 && fieldBE b (p.2 + 6) 1 / 2 % 2 == 0
    && p.1 != .udp6 && p.2 + 44 ≤ b.length

/-- Write bytes into a frame. -/
def putBytes (b : List Byte) (i : Nat) (x : List Byte) : List Byte := b.take i ++ x ++ b.drop (i + x.length)

/-- The frame with the time in originTimestamp, the low 48 bits of seconds and the nanoseconds; over UDP and IPv4 its UDP checksum
is zero (R264). -/
def oneStepFrame (b : List Byte) (p : PtpCarrier × Nat) (ns : Nat) : List Byte :=
  let f := putBytes b (p.2 + 34) (be 6 (ns / 1000000000 % 2 ^ 48) ++ be 4 (ns % 1000000000))
  if p.1 = .udp4 then putBytes f (p.2 - 2) (be 2 0) else f

/-- The frame as it leaves the MAC of a UNIT (R264). -/
def frameOut (s : State) (u : Nat) (b : List Byte) : List Byte :=
  match ptpEvent b, rateClass s (tsPort u).1 with
  | some p, some cls => if insertsTime s u b p then oneStepFrame b p (ptpTime s u cls true) else b
  | _, _ => b

/-- A timestamp record (R263) of the message at `at_` in a frame. -/
def timestampRecord (s : State) (u seq : Nat) (egress : Bool) (b : List Byte) (p : PtpCarrier × Nat) (cls : Nat) : List Byte :=
  let k := (tsPort u).1
  let t := s.num (tsIdx k) 1
  let flags := (if egress then 128 else 0) + (if egress && insertsTime s u b p then 64 else 0)
    + (if (s.tb t).armed then 0 else 32)
  be 1 flags ++ slice b p.2 1 ++ slice b (p.2 + 4) 1 ++ be 1 (t * 16 + (tsPort u).2) ++ be 1 (stampEpoch s t) ++ be 1 0
    ++ slice b (p.2 + 30) 2 ++ slice b (p.2 + 20) 10 ++ be 2 seq ++ encTime (ptpTime s u cls egress)

/-- The ring of port record `k`. -/
def State.ring (s : State) (k : Nat) : TsRing := tgetD s.tim.rings k {}

/-- A record goes into the port's ring (R263): 256 are kept; overwriting raises event 106h at most once per second. -/
def storeStamp (s : State) (k : Nat) (r : List Byte) : State :=
  let x := s.ring k
  let seq := x.count % 2 ^ 16
  let x' : TsRing := { recs := tput x.recs (seq % 256) r, count := x.count + 1 }
  let s := { s with tim := { s.tim with rings := tput s.tim.rings k x' } }
  let s := s.put (tsIdx k) 0x1C seq
  if 256 ≤ x.count then (s.count (tsIdx k) 0x1D 32 1).raiseAtMost 1 0x106 k (fun n => be 4 n) else s

/-- A frame passes the MAC of a UNIT: a PTP event message is stamped, other frames are not (R261, R263). -/
def stampFrame (s : State) (u : Nat) (egress : Bool) (b : List Byte) : State :=
  match ptpEvent b, rateClass s (tsPort u).1 with
  | some p, some cls =>
    let k := (tsPort u).1
    storeStamp s k (timestampRecord s u ((s.ring k).count % 2 ^ 16) egress b p cls)
  | _, _ => s

/-- PTP_EVENT_TIMESTAMP (R261 to R265): a frame, without its FCS, that a MAC receives, or transmits for the host or the MGC. What
leaves is kept with the frames sent (log entry 7). -/
def execPtpEventTimestamp (u : Fin 178) (egress : Bool) (frame : List Byte) (s : State) : Out :=
  .next (if egress then
    let out : SentPkt := { unit := u, bytes := frameOut s u frame }
    let s := stampFrame s u true frame
    { s with tx := { s.tx with sent := s.tx.sent ++ [out] } }
  else stampFrame s u false frame)

end Sys2Proof.Machine
end

