-- ==== Sys2Proof/Machine/Engine.lean ====
section
/-! DEFINITION. What receive and transmit flows share: records, formats and rates, frames on the line, essence words and
ports, engine memory traffic (R300 to R306, R309, R317 to R324, R334, R337). -/

namespace Sys2Proof.Machine

/-! ### Indices. Flow `n` is engine × 4,096 + flow. -/

/-- Receive flow record (R306). -/
def rxIdx (n : Nat) : Nat := 0x060000 + n / 4096 * 0x2000 + n % 4096
/-- Transmit flow record (R329). -/
def txIdx (n : Nat) : Nat := 0x061000 + n / 4096 * 0x2000 + n % 4096
/-- Take record (R345). -/
def takeIdx (n : Nat) : Nat := 0x074000 + n
/-- Receive record of an engine (R326). -/
def engIdx (e : Nat) : Nat := 0x070100 + e
/-- Transmit record of an engine (R360). -/
def txEngIdx (e : Nat) : Nat := 0x070180 + e
/-- Service record of an engine (R360). -/
def svcIdx (e : Nat) : Nat := 0x070010 + e
/-- Essence port record, port 16e + i (R326). -/
def essIdx (p : Nat) : Nat := 0x070200 + p
/-- Binding record of a sub-port (R326). -/
def bindIdx (u : Nat) : Nat := 0x070300 + u

/-- Status codes of streams (R327, R361). -/
def stFlowConflict : Nat := 0x0701
def stNotBound : Nat := 0x0702
def stBufferTooSmall : Nat := 0x0703
def stDramFlowLimit : Nat := 0x0704
def stNocBudget : Nat := 0x0705
def stEssenceCapacity : Nat := 0x0706
def stEngineCapacity : Nat := 0x0707
def stFormatMismatch : Nat := 0x0710
def stSourceInvalid : Nat := 0x0711
def stFlowDisabled : Nat := 0x0712
def stNotTakeable : Nat := 0x0713
def stTxCapacity : Nat := 0x0714
def stEngineOut : Nat := 0x0715
def stTriggerInvalid : Nat := 0x0716

/-- Engine service states (R355). -/
def svIn : Nat := 0
def svOut : Nat := 1
def svShadow : Nat := 2
def svReady : Nat := 3
def svFailed : Nat := 4

/-- SERVICE of an engine. -/
def State.service (s : State) (e : Nat) : Nat := s.num (svcIdx e) 1

/-- An engine serves flows: IN_SERVICE, with its pattern test after power-up done (R355, R359). -/
def State.serving (s : State) (e : Nat) : Bool :=
  s.service e == svIn && !((s.tx.svc.getD e {}).pattern) && !s.pwr.halted && s.pwr.mgcOn && !s.pwr.devReset

/-! ### Sub-ports (R300, R301) -/

/-- The bolt a sub-port's port attaches to (R300); none for the management sub-ports. -/
def subBolt (u : Nat) : Option Nat :=
  let k := (portOfUnit u).1
  if 176 ≤ u then none
  else if 14 ≤ k then some ((k - 14) / 4)
  else some ([0, 1, 1, 2, 2, 3, 0, 1, 2, 3, 0, 1, 2, 3].getD k 0)

/-- Nominal rate of a sub-port in Mb/s: that of its mode (R301). -/
def nominalMbs (s : State) (u : Nat) : Nat :=
  let k := (portOfUnit u).1
  let m := modeShape k (s.portMode k)
  if (portOfUnit u).2 < m.1 then m.2.1 * laneMbs m.2.2 else 0

/-- The engine a sub-port is bound to; FFh for none. -/
def State.boundTo (s : State) (u : Nat) : Nat := s.num (bindIdx u) 1

/-- Nominal rate bound to an engine in Mb/s, leaving out sub-port `but` (R301, R326). -/
def boundMbs (s : State) (e but : Nat) : Nat :=
  (((List.range 176).filter fun u => u ≠ but ∧ s.boundTo u = e).map (nominalMbs s)).foldl (· + ·) 0

/-- Whether a sub-port passes frames: UP or NARROW (R290, R291). -/
def subPasses (s : State) (u : Nat) : Bool := s.subState u == spUp || s.subState u == spNarrow

/-- Largest frame of a sub-port in bytes with its FCS (R298). -/
def largestFrame (s : State) (u : Nat) : Nat :=
  let k := (portOfUnit u).1
  s.num (portIdx k) (if k < 14 then 8 else 5)

/-- MAC address of a sub-port: base plus its number (R298). -/
def subMac (s : State) (u : Nat) : List Byte :=
  let p := portOfUnit u
  be 6 (unbe (s.oct (portIdx p.1) (if p.1 < 14 then 7 else 4)) + p.2)

/-- Whether index `l` of a receive flow uses sub-port `u`; LEGS 0 has no leg B. -/
def rxUses (s : State) (n u : Nat) : Bool :=
  s.num (rxIdx n) 6 == u || (s.num (rxIdx n) 5 == 1 && s.num (rxIdx n) 0x0A == u)

/-- The same for a transmit flow. -/
def txUses (s : State) (n u : Nat) : Bool :=
  s.num (txIdx n) 6 == u || (s.num (txIdx n) 5 == 1 && s.num (txIdx n) 0x0D == u)

/-- Whether a leg of an enabled flow uses a sub-port (R301). -/
def legUses (s : State) (u : Nat) : Bool :=
  s.rx.flows.any (fun x => rxUses s x.1 u) || s.tx.flows.any fun x => txUses s x.1 u

/-- A sub-port's binding (R301). -/
def bindingRule (u : Nat) : Rule :=
  { base := State.rulingNext, pick := noPick,
    check := fun s _ v =>
      let e := valNum v
      let k := (portOfUnit u).1
      if e = 255 then none
      else if 7 < e ∨ subBolt u ≠ some (e / 2) ∨ rawMode k (s.portMode k) then some (stTypeMismatch, 0) else none,
    judge := fun s _ v =>
      let e := valNum v
      if e ≠ 255 ∧ 1600000 < boundMbs s e u + nominalMbs s u then refuse s stEngineCapacity
      else if e ≠ s.boundTo u ∧ legUses s u then refuse s stBusy
      else none,
    apply := fun s _ _ v => { s := s.write (ent (bindIdx u) 1) v } }

/-! ### Formats and rates (R306, R309, R321, R322) -/

/-- The format fields of a flow. -/
structure Fmt where
  ess : Nat
  tb : Nat
  w : Nat
  h : Nat
  samp : Nat
  depth : Nat
  ch : Nat
  rate : Nat
  deriving DecidableEq, Repr

/-- Format of a receive flow. -/
def rxFmt (s : State) (n : Nat) : Fmt :=
  let g := s.num (rxIdx n)
  { ess := g 3, tb := g 4, w := g 0x1C, h := g 0x1D, samp := g 0x1E, depth := g 0x1F, ch := g 0x20, rate := g 0x21 }

/-- Format of a transmit flow. -/
def txFmt (s : State) (n : Nat) : Fmt :=
  let g := s.num (txIdx n)
  { ess := g 3, tb := g 4, w := g 0x1E, h := g 0x1F, samp := g 0x20, depth := g 0x21, ch := g 0x22, rate := g 0x23 }

/-- The pick settings in force on a flow's time base. -/
def Fmt.picks (f : Fmt) (s : State) : PickSet := (s.tb f.tb).cur

/-- Whether an essence is audio: ST 2110-30 or -31. -/
def isAudio (ess : Nat) : Bool := ess == 2 || ess == 3

/-- Samples per second of AUDIO_RATE. -/
def Fmt.hz (f : Fmt) : Nat := if f.rate = 0 then 48000 else 96000

/-- Media clock in Hz (R309). -/
def Fmt.clock (f : Fmt) : Nat := if isAudio f.ess then f.hz else if f.ess = 5 then 27000000 else 90000

/-- Lanes a video word uses (R321). -/
def Fmt.lanes (f : Fmt) : Nat := if f.samp = 0 then 32 else 30

/-- Lanes for each pixel of a line, or of a line pair of 4:2:0 (R321). -/
def Fmt.perPixel (f : Fmt) : Nat := if f.samp = 0 then 2 else 3

/-- Lines for each pick (R309, R340). -/
def Fmt.lines (f : Fmt) (s : State) : Nat := if (f.picks s).inter then f.h / 2 else f.h

/-- Words for each line, or line pair (R324). -/
def Fmt.lineWords (f : Fmt) : Nat := ceilDiv (f.w * f.perPixel) f.lanes

/-- Bytes of a frame slot (R324). -/
def Fmt.slotBytes (f : Fmt) (s : State) : Nat := ceilDiv (f.lines s * f.lineWords * 64) 4096 * 4096

/-- Format fields inside their ranges (R306): even sizes, and the depths of the essence. -/
def Fmt.ok (f : Fmt) : Bool :=
  f.w % 2 == 0 && f.h % 2 == 0
    && (if f.ess = 0 then [8, 10, 12, 16].contains f.depth else if f.ess = 2 then [16, 24].contains f.depth
        else [8, 10, 12, 16, 24].contains f.depth)

/-- Two formats agree (R336): picture or sound fields, by essence. -/
def Fmt.same (a b : Fmt) : Bool :=
  if isAudio a.ess then a.ch == b.ch && a.rate == b.rate && a.depth == b.depth
  else a.w == b.w && a.h == b.h && a.samp == b.samp && a.depth == b.depth

/-- Essence rate in b/s, rounded up (R322); `peak` is PEAK_RATE in kb/s. -/
def essenceRate (s : State) (f : Fmt) (peak : Nat) : Nat :=
  if f.ess = 0 then
    let p := f.picks s
    let half := if f.samp = 0 then 4 else if f.samp = 3 then 3 else 6
    ceilDiv (f.w * f.h * half * 16 * p.num * 32) (2 * f.lanes * p.den * (if p.inter then 2 else 1))
  else if isAudio f.ess then f.ch * f.hz * 32
  else peak * 1000

/-! ### Media time (R309) -/

/-- The count of a time base at `ticks` of a media clock of `hz`, rounded up to a count. -/
def mediaAt (hz ticks : Nat) : Nat := ceilDiv (ticks * 1000000000 * nsUnit) hz

/-- Ticks that a timestamp names: the multiple of 2^32 that puts it nearest the arrival. -/
def mediaTicks (time hz ts : Nat) : Nat :=
  let unit : Int := 1000000000 * nsUnit
  let n : Int := ((time * hz : Nat) - ts * unit + 2 ^ 31 * unit) / (2 ^ 32 * unit)
  (n * 2 ^ 32 + ts).toNat

/-- The pick of a generator that holds a count. -/
def PickSet.holding (p : PickSet) (time : Nat) : Nat := time * p.num / (p.den * 1000000000 * nsUnit)

/-! ### Frames on the line (R303, R337) -/

/-- Ones' complement sum of 16-bit words, an odd last byte padded with zero. -/
def sum16 (b : List Byte) : Nat :=
  let t := (List.range (ceilDiv b.length 2)).foldl
    (fun a i => a + (b.getD (2 * i) 0).toNat * 256 + (b.getD (2 * i + 1) 0).toNat) 0
  let t := t % 65536 + t / 65536
  let t := t % 65536 + t / 65536
  t % 65536 + t / 65536

/-- What the checks of R303 up to step 4 make of a frame. -/
inductive Judged where
  | exception
  | headerError
  | udp (vlan : Nat) (dst : List Byte) (port : Nat) (payload : List Byte)
  deriving DecidableEq, Repr

/-- Steps 2 to 4 for an IPv4 packet. -/
def judgeIp4 (vlan : Nat) (b : List Byte) : Judged :=
  let v := fieldBE b 0 1
  let hl := v % 16 * 4
  let len := fieldBE b 2 2
  if v / 16 ≠ 4 ∨ hl < 20 ∨ b.length < hl ∨ len < hl ∨ b.length < len ∨ sum16 (b.take hl) ≠ 0xFFFF then .headerError
  else if fieldBE b 6 2 % 0x4000 ≠ 0 ∨ fieldBE b 9 1 ≠ 17 then .exception
  else
    let u := (b.take len).drop hl
    .udp vlan (slice b 16 4) (fieldBE u 2 2) (u.drop 8)

/-- Steps 2 to 4 for an IPv6 packet: an extension header is no UDP header. -/
def judgeIp6 (vlan : Nat) (b : List Byte) : Judged :=
  let len := fieldBE b 4 2
  if fieldBE b 0 1 / 16 ≠ 6 ∨ b.length < 40 + len then .headerError
  else if fieldBE b 6 1 ≠ 17 then .exception
  else
    let u := slice b 40 len
    .udp vlan (slice b 24 16) (fieldBE u 2 2) (u.drop 8)

/-- Steps 1 to 4 of R303 on a frame without its FCS. -/
def judgeFrame (b : List Byte) : Judged :=
  let tagged := fieldBE b 12 2 = 0x8100
  let vlan := if tagged then fieldBE b 14 2 % 4096 else 0xFFFF
  let at_ := if tagged then 16 else 12
  let ip := b.drop (at_ + 2)
  match fieldBE b at_ 2 with
  | 0x0800 => judgeIp4 vlan ip
  | 0x86DD => judgeIp6 vlan ip
  | _ => .exception

/-- The fields of an RTP packet. -/
structure Rtp where
  marker : Bool
  pt : Nat
  seq : Nat
  ts : Nat
  ssrc : Nat
  payload : List Byte
  deriving DecidableEq, Repr

/-- An RTP packet of version 2 (RFC 3550); none otherwise. -/
def parseRtp (b : List Byte) : Option Rtp :=
  let v := fieldBE b 0 1
  let off := 12 + v % 16 * 4
  let off := if v / 16 % 2 = 1 then off + 4 + 4 * fieldBE b (off + 2) 2 else off
  let pad := if v / 32 % 2 = 1 then fieldBE b (b.length - 1) 1 else 0
  if b.length < 12 ∨ v / 64 ≠ 2 ∨ b.length < off + pad then none
  else some { marker := fieldBE b 1 1 / 128 = 1, pt := fieldBE b 1 1 % 128, seq := fieldBE b 2 2, ts := fieldBE b 4 4,
              ssrc := fieldBE b 8 4, payload := slice b off (b.length - off - pad) }

/-- An IPv4 packet around a UDP payload (R337). -/
def ip4Packet (qos ttl : Nat) (src dst : List Byte) (sp dp : Nat) (body : List Byte) : List Byte :=
  let head := fun ck => be 1 0x45 ++ be 1 (qos / 256 % 64 * 4) ++ be 2 (28 + body.length) ++ be 2 0 ++ be 2 0x4000 ++ be 1 ttl
    ++ be 1 17 ++ be 2 ck ++ src ++ dst
  head (0xFFFF - sum16 (head 0)) ++ be 2 sp ++ be 2 dp ++ be 2 (8 + body.length) ++ be 2 0 ++ body

/-- An IPv6 packet around a UDP payload (R337): the UDP checksum is computed, and a sum of 0 is sent as FFFFh. -/
def ip6Packet (qos ttl : Nat) (src dst : List Byte) (sp dp : Nat) (body : List Byte) : List Byte :=
  let len := 8 + body.length
  let pseudo := src ++ dst ++ be 4 len ++ be 4 17
  let udp := fun ck => be 2 sp ++ be 2 dp ++ be 2 len ++ be 2 ck ++ body
  let ck := 0xFFFF - sum16 (pseudo ++ udp 0)
  be 4 (0x60000000 + qos / 256 % 64 * 4 * 2 ^ 20) ++ be 2 len ++ be 1 17 ++ be 1 ttl ++ src ++ dst
    ++ udp (if ck = 0 then 0xFFFF else ck)

/-! ### Samples and essence words (R321) -/

/-- Unpack a run of samples of `depth` bits, most significant bit first. -/
def unpack (depth : Nat) (b : List Byte) : List Nat :=
  let n := unbe b
  let total := 8 * b.length
  (List.range (total / depth)).map fun i => n / 2 ^ (total - (i + 1) * depth) % 2 ^ depth

/-- Pack samples of `depth` bits, padded with zero bits to a byte. -/
def pack (depth : Nat) (xs : List Nat) : List Byte :=
  let n := xs.foldl (fun a x => a * 2 ^ depth + x % 2 ^ depth) 0
  let total := depth * xs.length
  be (ceilDiv total 8) (n * 2 ^ (ceilDiv total 8 * 8 - total))

/-- Cut a list into pieces of `k`; `fuel` bounds the number of pieces. -/
def pieces {α : Type} (k : Nat) : Nat → List α → List (List α)
  | 0, _ => []
  | fuel + 1, l => if l.isEmpty then [] else l.take k :: pieces k fuel (l.drop k)

/-- The pieces of a list. -/
def cut {α : Type} (k : Nat) (l : List α) : List (List α) := pieces k l.length l

/-- 512 bits of data from lanes of `w` bits, lane 0 uppermost. -/
def laneData (w : Nat) (xs : List Nat) : Nat := xs.foldl (fun a x => a * 2 ^ w + x) 0 * 2 ^ (512 - w * xs.length)

/-- Lane `j` of `w` bits of a word. -/
def laneOf (w data j : Nat) : Nat := data / 2 ^ (512 - w * (j + 1)) % 2 ^ w

/-- A word of a kind for flow `f`, with the low 44 bits of its tag. -/
def essWord (kind f low data : Nat) : EssWord := { tag := kind * 2 ^ 56 + f % 4096 * 2 ^ 44 + low, data := data }

/-- Add a tag bit to the first word. -/
def markFirst (bit : Nat) : List EssWord → List EssWord
  | [] => []
  | w :: r => { w with tag := w.tag + 2 ^ bit } :: r

/-- Add a tag bit to the last word. -/
def markLast (bit : Nat) (l : List EssWord) : List EssWord := l.mapIdx fun i w =>
  if i + 1 = l.length then { w with tag := w.tag + 2 ^ bit } else w

/-- Sample row data headers (ST 2110-20): length, second field, row, offset; and the data that follow. -/
def rowHeaders : Nat → List Byte → List (Nat × Bool × Nat × Nat) × List Byte
  | 0, b => ([], b)
  | fuel + 1, b =>
    let h := (fieldBE b 0 2, fieldBE b 2 2 / 0x8000 == 1, fieldBE b 2 2 % 0x8000, fieldBE b 4 2 % 0x8000)
    if fieldBE b 4 2 / 0x8000 = 1 then
      let r := rowHeaders fuel (b.drop 6)
      (h :: r.1, r.2)
    else ([h], b.drop 6)

/-- The rows of a video payload with their samples; the payload begins with the extended sequence number. -/
def videoRows (f : Fmt) (payload : List Byte) : List (Bool × Nat × Nat × List Nat) :=
  let r := rowHeaders 3 (payload.drop 2)
  (r.1.foldl (fun (acc : List (Bool × Nat × Nat × List Nat) × List Byte) h =>
    (acc.1 ++ [(h.2.1, h.2.2.1, h.2.2.2, unpack f.depth (acc.2.take h.1))], acc.2.drop h.1)) ([], r.2)).1

/-- Video words of a payload (kind 01h). -/
def videoWords (f : Fmt) (n : Nat) (payload : List Byte) : List EssWord :=
  (videoRows f payload).flatMap fun r =>
    (cut f.lanes r.2.2.2).mapIdx fun j xs =>
      essWord 1 n ((if r.1 then 2 ^ 43 else 0) + r.2.1 % 2 ^ 13 * 2 ^ 30
        + (r.2.2.1 + j * (f.lanes / f.perPixel)) % 2 ^ 16 * 2 ^ 14 + xs.length * 2 ^ 8) (laneData 16 xs)

/-- Audio words (kinds 02h and 03h). -/
def audioWords (f : Fmt) (n ts : Nat) (payload : List Byte) : List EssWord :=
  let xs := if f.ess = 2 then (unpack f.depth payload).map (· * 2 ^ (32 - f.depth)) else unpack 32 payload
  (cut 16 xs).mapIdx fun j ys =>
    let i := 16 * j
    essWord (f.ess) n ((ts + i / f.ch) % 2 ^ 32 * 2 ^ 12 + i % f.ch * 2 ^ 6 + ys.length * 2) (laneData 32 ys)

/-- The ancillary packets of an RFC 8331 payload after its eight-byte header; each is padded to 32 bits. -/
def ancPackets : Nat → List Byte → List (Nat × List Nat)
  | 0, _ => []
  | fuel + 1, b =>
    if b.length < 8 then []
    else
      let words := unpack 10 (b.drop 4)
      let count := 4 + words.getD 2 0 % 256
      (fieldBE b 0 4, words.take count) :: ancPackets fuel (b.drop (4 + ceilDiv (10 * count) 32 * 4))

/-- Ancillary words (kind 04h). -/
def ancWords (n : Nat) (payload : List Byte) : List EssWord :=
  (ancPackets (fieldBE payload 4 1) (payload.drop 8)).flatMap fun p =>
    let low := p.1 / 2 ^ 31 * 2 ^ 43 + p.1 / 2 ^ 20 % 2 ^ 11 * 2 ^ 32 + p.1 / 2 ^ 8 % 2 ^ 12 * 2 ^ 20 + p.1 % 2 ^ 7 * 2 ^ 4
    markFirst 13 (markLast 12 ((cut 32 p.2).map fun xs => essWord 4 n (low + xs.length * 2 ^ 14) (laneData 16 xs)))

/-- Opaque words (kind 05h). -/
def opaqueWords (n seq : Nat) (marker : Bool) (payload : List Byte) : List EssWord :=
  markFirst 36 (markLast 35 ((cut 64 payload).map fun b =>
    essWord 5 n (b.length % 128 * 2 ^ 37 + (if marker then 2 ^ 34 else 0) + seq % 2 ^ 16 * 2 ^ 17) (laneData 8 (b.map (·.toNat)))))

/-- The words of a released packet, GAP_BEFORE on the first where numbers before it were lost (R321). -/
def packetWords (f : Fmt) (n : Nat) (p : RxPkt) (gap : Bool) : List EssWord :=
  match f.ess with
  | 0 =>
    let ws := videoWords f n p.payload
    let ws := if p.marker then markLast 7 ws else ws
    if gap then markFirst 6 ws else ws
  | 2 | 3 => let ws := audioWords f n p.ts p.payload; if gap then markFirst 0 ws else ws
  | 4 => let ws := ancWords n p.payload; if gap then markFirst 11 ws else ws
  | _ => let ws := opaqueWords n p.seq p.marker p.payload; if gap then markFirst 33 ws else ws

/-! ### Essence ports (R321 to R323) -/

/-- Essence port `p`, engine × 16 + port. -/
def State.essPort (s : State) (p : Nat) : EssPort := tgetD s.rx.ports p {}

/-- Whether the clock of an essence port runs: the design runs, the port is compiled with a clock, and no driver of the
bolt that clocks it is stopped (R323, R211). Interface port codes of a bolt: log entry 5. -/
def essRuns (s : State) (p : Nat) : Bool :=
  s.clocksRun && s.num (essIdx p) 1 != 0
    && !(s.fab.drivers.any fun d => d.1 / 384 == p / 32 && d.2.port == some (p % 32) && (d.2.gated || d.2.low))

/-- Queue words on the receive side: all of them, or none, counted as a drop of the port (R323). -/
def sendWords (s : State) (p : Nat) (ws : List EssWord) : State × Bool :=
  let x := s.essPort p
  if essRuns s p && x.out.length + ws.length ≤ 512 then
    ({ s with rx := { s.rx with ports := tput s.rx.ports p { x with out := x.out ++ ws } } }, true)
  else ((s.count (essIdx p) 4 64 1).raiseAtMost 1 0x430 p (fun n => be 4 n), false)

/-- Capacity of an essence port in b/s: 0.9 × 512 × ESS_FREQ (R322). -/
def essCapacity (s : State) (p : Nat) : Nat := s.num (essIdx p) 1 * 460800

/-! ### Memory traffic of an engine (R317, R318, R324, R335) -/

/-- The initiator of an engine (R413). -/
def engInit (e : Nat) : Nat := 0x40 + e

/-- Whether an address range lies in one place that a buffer, store or ring may use: LPDDR4X, or an archive. -/
inductive Where where
  | dram
  | archive (b : Nat)
  | other
  deriving DecidableEq, Repr

/-- Where a range of `n` bytes lies: whole, reachable for the engine, and in one place. -/
def whereIs (s : State) (e a n : Nat) : Where :=
  let z := a + n - 1
  match placeOf a, placeOf z with
  | some (.dram k l), some (.dram k' _) =>
    if k = k' ∧ (channelAt s l).isSome ∧ (targetOf s (engInit e) z).isSome then .dram else .other
  | some (.archive b _), some (.archive b' _) =>
    if b = b' ∧ (targetOf s (engInit e) z).isSome then .archive b else .other
  | _, _ => .other

/-- A tag that an initiator has not outstanding. -/
def freeTag (s : State) (i : Nat) : Option Nat :=
  (List.range 4096).find? fun t => !(s.noc.outstanding.any fun x => x.pkt.init = i ∧ x.pkt.tag = t)

/-- Send a write of at most one granule over the NoC: whole, or partial with its byte mask; `keep` is the page hint (R448), and a
stream engine sets PANIC as its requester stands (R319, R421). -/
def sendGranule (s : State) (i a : Nat) (b : List Byte) (keep : Bool) : State :=
  match targetOf s i a, freeTag s i with
  | some t, some tag =>
    let off := a % 64
    let data := List.replicate off 0 ++ b ++ List.replicate (64 - off - b.length) 0
    let p : NocPkt := { kind := if b.length = 64 then kWrite else kPartial, epoch := injectEpoch s, cls := s.num (initIdx i) 1,
                        target := t, init := i, tag := tag, addr := a - off, keepOpen := keep,
                        panic := 0x40 ≤ i && i < 0x48 && s.flag (engIdx (i - 0x40)) 0x0E,
                        mask := if b.length = 64 then 0 else (2 ^ b.length - 1) * 2 ^ off, data := data }
    inject { s with noc := { s.noc with outstanding := s.noc.outstanding ++ [{ pkt := p, since := s.now }] } } p
  | _, _ => s

/-- The granule pieces of a run of bytes at an address. -/
def granulePieces : Nat → Nat → List Byte → List (Nat × List Byte)
  | 0, _, _ => []
  | fuel + 1, a, b =>
    if b.isEmpty then [] else (a, b.take (64 - a % 64)) :: granulePieces fuel (a - a % 64 + 64) (b.drop (64 - a % 64))

/-- An engine writes memory: the archive of its own bolt through its dedicated ports, everything else over the NoC
(R317, R318, R441); the last packet of a buffered packet leaves its page closed (R448). -/
def engineWrite (s : State) (e a : Nat) (b : List Byte) (last : Bool) : State :=
  let l := granulePieces (b.length + 1) a b
  if whereIs s e a b.length = .archive (e / 2) then
    l.foldl (fun s p => (archiveWrite s p.1 (p.1 % 0x04000000) (e / 2) 0 p.2).getD s) s
  else (l.mapIdx fun k p => (k, p)).foldl (fun s p =>
    sendGranule s (engInit e) p.2.1 p.2.2 (!(last && p.1 + 1 == l.length))) s

/-- A granule access to plain memory within a command (R441, R448, R460): `keep` is the page hint. None where the archive cannot
correct the word. -/
def touch (s : State) (i a : Nat) (keep : Bool) : State × Bool :=
  match placeOf a with
  | some (.dram _ loc) =>
    match channelAt s loc with
    | some (c, x) => (rowAccess s c (fieldsOf s c x) true keep 1, true)
    | none => (s, true)
  | some (.archive b off) => archiveRead s b off (if 0x40 ≤ i ∧ i < 0x48 ∧ (i - 0x40) / 2 = b then 0 else 1)
  | _ => (s, true)

/-- `n` bytes that the spec does not fix, as a design's target port answers them within a command (log entries 9 and 10). -/
def freeBytes (s : State) : Nat → State × List Byte
  | 0 => (s, [])
  | n + 1 =>
    let r := freeBytes s.draw n
    (r.1, BitVec.ofNat 8 (s.freeValue 8) :: r.2)

/-- The bytes of a granule of plain memory, or the answer of a fabric target port. -/
def plainGranule (s : State) (i a : Nat) (keep : Bool) : State × Option (List Byte) :=
  match placeOf a with
  | some (.fabric _) =>
    let r := freeBytes s 64
    (r.1, some r.2)
  | _ =>
    let r := touch s i a keep
    (r.1, if r.2 then some (s.bytes (locationOf a) 64) else none)

/-- Read one granule for an initiator, past the integrity engine; a failed check leaves a read that the engine is still
to judge (R467, R470), and no data. -/
def readGranule (s : State) (i a : Nat) (keep : Bool) : State × Option (List Byte) :=
  match targetOf s i a with
  | none => (s, none)
  | some t =>
    if s.ni t ≠ niOnline then (s, none)
    else
      let p : NocPkt := { kind := kRead, target := t, init := i, addr := a, tag := (freeTag s i).getD 0 }
      match packetAccess s p with
      | .barred k => (noteBarred s p k, none)
      | .plain => plainGranule s i a keep
      | .guarded k =>
        match readLine s k (locationOf a) with
        | .ok r => ((touch r.1 i a keep).1, some r.2)
        | .error .refused => (s, none)
        | .error _ =>
          ({ s with itg := { s.itg with waiting := s.itg.waiting ++ [p] },
                    noc := { s.noc with outstanding := s.noc.outstanding ++ [{ pkt := p, since := s.now }] } }, none)

/-- Whether an initiator reaches an address over the NoC: an engine's own archive has dedicated ports (R317). -/
def overNoc (i a : Nat) : Bool :=
  match placeOf a with
  | some (.archive b _) => !(0x40 ≤ i && i < 0x48 && (i - 0x40) / 2 == b)
  | _ => true

/-- Traffic of an initiator within a command (R390, R435): a fetch engine moves a granule at a time, others up to 16. -/
def noteBurst (s : State) (i a n : Nat) : State := if overNoc i a then noteTraffic s i (if i < 0x40 then 1 else 16) n n else s

/-- Granules of an initiator, one after the other, `keep` the page hint of the last: the MGC keeps no page open (R448). -/
def readRun (s : State) (i a : Nat) (keep : Bool) : Nat → State × Option (List Byte)
  | 0 => (s, some [])
  | n + 1 =>
    match readRun s i a (i != 0x4C) n with
    | (s, none) => (s, none)
    | (s, some b) =>
      match readGranule s i (a + 64 * n) keep with
      | (s, none) => (s, none)
      | (s, some c) => (s, some (b ++ c))

/-- Read whole granules for an initiator; those that came are in its statistics. -/
def readGranules (s : State) (i a n : Nat) (keep : Bool) : State × Option (List Byte) :=
  match readRun s i a keep n with
  | (s, some b) => (noteBurst s i a n, some b)
  | r => r

/-! ### Writes of flow records (R307, R330) -/

/-- The fields that a write of field `sub`, or of the whole record, sets. -/
def flowChanges (idx sub : Nat) (v : Val) : List (Nat × Val) :=
  if sub = 0 then
    match recordValues (ent idx 0) (valBytes v) with
    | some vs => (((recordFields (ent idx 0)).zip vs).mapIdx fun i p => (i + 1, p)).filterMap fun p =>
        if writable p.2.1 then some (p.1, p.2.2) else none
    | none => []
  else [(sub, v)]

/-- Write the fields of a flow record other than ENABLE. -/
def writeFields (s : State) (idx : Nat) (cs : List (Nat × Val)) : State :=
  cs.foldl (fun s c => if c.1 = 1 then s else s.write (ent idx c.1) c.2) s

/-- The rule of a flow record (R307, R330, R331): ENABLE 1 is ENGINE_OUT before all else, a change while enabled is BUSY,
ENABLE 1 runs the checks on the record as written, and a refused write changes nothing. A field outside its stated range is
TYPE_MISMATCH at the write (R42); a default that stands for 'not set' is written like any value and judged at the enable
(DEDUCED, log entry 28). -/
def flowRule (idx sub : Nat) (fieldOk : Nat → Val → Bool) (checks : State → Option Nat) (enable disable : State → State) : Rule :=
  { base := State.rulingNext, pick := noPick,
    check := fun _ _ v =>
      if (flowChanges idx sub v).all fun c => fieldOk c.1 c.2 then none else some (stTypeMismatch, 0),
    judge := fun s _ v =>
      let cs := flowChanges idx sub v
      let start := cs.any fun c => c.1 == 1 && valNum c.2 == 1
      if start && checks (writeFields s idx cs) == some stEngineOut then refuse s stEngineOut
      else if s.flag idx 1 then
        if cs.any fun c => c.1 != 1 && s.val (ent idx c.1) != c.2 then refuse s stBusy else none
      else if start then
        match checks (writeFields s idx cs) with
        | some st => refuse s st
        | none => none
      else none,
    apply := fun s _ _ v =>
      let cs := flowChanges idx sub v
      let on := s.flag idx 1
      let s := writeFields s idx cs
      { s := match cs.find? fun c => c.1 == 1 with
          | some c =>
            if valNum c.2 = 1 ∧ !on then enable (s.write (ent idx 1) (.num 1))
            else if valNum c.2 = 0 ∧ on then disable s
            else s
          | none => s } }

end Sys2Proof.Machine
end

