-- ==== Sys2Proof/Machine/Mgt.lean ====
section
/-! DEFINITION. What the MGC answers on MGT_A and MGT_B beside CAP: ARP, IPv6 neighbour discovery and ICMP echo (R50, R75, R296).
The packet layouts are those of RFC 826, 791, 792, 4443 and 4861 (PRESUMED, log entry 28). -/

namespace Sys2Proof.Machine

/-- An IPv4 address as 16 bytes; an IPv6 address as it is. -/
def ip16 (a : List Byte) : List Byte := if a.length = 4 then List.replicate 10 0 ++ [0xFF, 0xFF] ++ a else a

/-- The MAC address of a management port (R296). -/
def mgtMac (s : State) (m : Nat) : List Byte := s.oct (0x050600 + m) 5

/-- The IPv4 address of a management port; empty where none is set (R75). -/
def mgtIp4 (s : State) (m : Nat) : List Byte := s.oct 0x010002 (4 * m + 1)

/-- The IPv6 link-local address of a management port (R50), formed from its MAC address as an EUI-64 (PRESUMED, RFC 4291; log
entry 20). -/
def linkLocal (s : State) (m : Nat) : List Byte :=
  let a := mgtMac s m
  [0xFE, 0x80, 0, 0, 0, 0, 0, 0, a.getD 0 0 ^^^ 2, a.getD 1 0, a.getD 2 0, 0xFF, 0xFE, a.getD 3 0, a.getD 4 0, a.getD 5 0]

/-- The IPv6 addresses of a management port (R50, R75). -/
def mgtIp6 (s : State) (m : Nat) : List (List Byte) := linkLocal s m :: [s.oct 0x010002 (4 * m + 3)].filter (· != [])

/-- The unicast addresses of a management port (R50, R75): link-local always, IPv4 and global IPv6 where set. -/
def ownAddresses (s : State) (m : Nat) : List (List Byte) :=
  linkLocal s m :: ([mgtIp4 s m, s.oct 0x010002 (4 * m + 3)].filter (· != [])).map ip16

/-- The address of a multicast group; none where it is not joined (R75, R95). -/
def groupAddress (s : State) (g : Nat) : Option (List Byte) :=
  let a := s.oct 0x010003 (g + 1)
  if a = [] then none else some (ip16 a)

/-- Whether an address is IPv4 (R50). -/
def isIpv4 (ip : List Byte) : Bool := ip.take 12 == List.replicate 10 0 ++ [0xFF, 0xFF]

/-- The MAC address of an IP multicast address. -/
def groupMac (ip : List Byte) : List Byte :=
  if isIpv4 ip then [0x01, 0x00, 0x5E, ip.getD 13 0 &&& 0x7F, ip.getD 14 0, ip.getD 15 0] else [0x33, 0x33] ++ ip.drop 12

/-- The PTP multicast addresses, and those of its groups on IPv4 and IPv6 (R296). -/
def ptpMacs : List (List Byte) :=
  [[0x01, 0x1B, 0x19, 0, 0, 0], [0x01, 0x80, 0xC2, 0, 0, 0x0E], [0x01, 0, 0x5E, 0, 0x01, 0x81], [0x01, 0, 0x5E, 0, 0, 0x6B],
    [0x33, 0x33, 0, 0, 0x01, 0x81], [0x33, 0x33, 0, 0, 0, 0x6B]]

/-- Whether a management port accepts a destination address (R296); neighbour discovery comes by an address's solicited-node
group. -/
def mgtAccepts (s : State) (m : Nat) (dst : List Byte) : Bool :=
  dst == mgtMac s m || dst == List.replicate 6 0xFF || ptpMacs.contains dst
    || (List.range 16).any (fun g => (groupAddress s g).any fun a => groupMac a == dst)
    || (mgtIp6 s m).any fun a => dst == [0x33, 0x33, 0xFF] ++ a.drop 13

/-- The answer to an ARP request for the port's IPv4 address. -/
def arpAnswer (s : State) (m : Nat) (b : List Byte) : Option (List Byte) :=
  if mgtIp4 s m = [] ∨ slice b 14 8 ≠ [0, 1, 8, 0, 6, 4, 0, 1] ∨ slice b 38 4 ≠ mgtIp4 s m then none
  else some (slice b 22 6 ++ mgtMac s m ++ [8, 6, 0, 1, 8, 0, 6, 4, 0, 2] ++ mgtMac s m ++ mgtIp4 s m ++ slice b 22 10
    ++ List.replicate 18 0)

/-- An ICMP message with its checksum over a pseudo-header. -/
def icmp (pseudo head body : List Byte) : List Byte :=
  let ck := 0xFFFF - sum16 (pseudo ++ head ++ be 2 0 ++ body)
  head ++ be 2 ck ++ body

/-- The answer to an ICMP echo request over IPv4. -/
def echo4Answer (s : State) (m : Nat) (b : List Byte) : Option (List Byte) :=
  let p := b.drop 14
  let hl := fieldBE p 0 1 % 16 * 4
  let x := (p.take (fieldBE p 2 2)).drop hl
  if mgtIp4 s m = [] ∨ fieldBE p 0 1 / 16 ≠ 4 ∨ hl < 20 ∨ p.length < fieldBE p 2 2 ∨ sum16 (p.take hl) ≠ 0xFFFF
      ∨ fieldBE p 6 2 % 0x4000 ≠ 0 ∨ fieldBE p 9 1 ≠ 1 ∨ slice p 16 4 ≠ mgtIp4 s m ∨ x.length < 8 ∨ slice x 0 2 ≠ [8, 0]
      ∨ sum16 x ≠ 0xFFFF then none
  else
    let y := icmp [] [0, 0] (x.drop 4)
    let head := fun ck => [0x45, 0] ++ be 2 (20 + y.length) ++ be 4 0 ++ [64, 1] ++ be 2 ck ++ mgtIp4 s m ++ slice p 12 4
    some (slice b 6 6 ++ mgtMac s m ++ [8, 0] ++ head (0xFFFF - sum16 (head 0)) ++ y)

/-- A frame with an ICMPv6 message. -/
def frame6 (s : State) (m : Nat) (dstMac src dst head body : List Byte) : List Byte :=
  let len := be 2 (head.length + 2 + body.length)
  dstMac ++ mgtMac s m ++ [0x86, 0xDD, 0x60, 0, 0, 0] ++ len ++ [58, 255] ++ src ++ dst
    ++ icmp (src ++ dst ++ [0, 0] ++ len ++ [0, 0, 0, 58]) head body

/-- The answer to a neighbour solicitation or an ICMPv6 echo request. -/
def icmp6Answer (s : State) (m : Nat) (b : List Byte) : Option (List Byte) :=
  let p := b.drop 14
  let x := slice p 40 (fieldBE p 4 2)
  let src := slice p 8 16
  let dst := slice p 24 16
  if fieldBE p 0 1 / 16 ≠ 6 ∨ fieldBE p 6 1 ≠ 58 ∨ p.length < 40 + fieldBE p 4 2 ∨ x.length < 8
      ∨ sum16 (src ++ dst ++ be 4 x.length ++ be 4 58 ++ x) ≠ 0xFFFF then none
  else match slice x 0 2 with
  | [135, 0] =>
    let target := slice x 8 16
    let any := src == List.replicate 16 (0 : Byte)
    let dest := if any then [0xFF, 0x02] ++ List.replicate 13 (0 : Byte) ++ [1] else src
    if fieldBE p 7 1 ≠ 255 ∨ !(mgtIp6 s m).contains target then none
    else some (frame6 s m (if any then [0x33, 0x33, 0, 0, 0, 1] else slice b 6 6) target dest [136, 0]
      ([if any then 0x20 else 0x60, 0, 0, 0] ++ target ++ [2, 1] ++ mgtMac s m))
  | [128, 0] =>
    if !(mgtIp6 s m).contains dst then none else some (frame6 s m (slice b 6 6) dst src [129, 0] (x.drop 4))
  | _ => none

/-- What the MGC answers to a frame, without its FCS, at a management port (R296). -/
def mgtAnswer (s : State) (m : Nat) (b : List Byte) : Option (List Byte) :=
  if !mgtAccepts s m (b.take 6) then none
  else match fieldBE b 12 2 with
  | 0x0806 => arpAnswer s m b
  | 0x0800 => echo4Answer s m b
  | 0x86DD => icmp6Answer s m b
  | _ => none

/-- A frame arrives at a management port (R296): an answer leaves by the same port. -/
def mgtFrame (s : State) (m : Nat) (b : List Byte) : State :=
  match mgtAnswer s m b with
  | none => s
  | some f =>
    let out : SentPkt := { unit := 176 + m, bytes := f }
    let s := { s with tx := { s.tx with sent := s.tx.sent ++ [out] } }
    (s.count (subIdx (176 + m)) 9 64 1).count (subIdx (176 + m)) 0x0A 64 (f.length + 4)

end Sys2Proof.Machine
end

