-- ==== Sys2Proof/Machine/Tx.lean ====
section
/-! DEFINITION. Stream engines, transmitting: sources, schedules, capacities, packets and takes (R329 to R354). -/

namespace Sys2Proof.Machine

/-! ### Flows and sources -/

/-- Engine state of an enabled transmit flow; disabled flows are not listed. -/
def State.txFlow (s : State) (n : Nat) : TxFlow := tgetD s.tx.flows n {}

/-- Whether a transmit flow is enabled. -/
def txOn (s : State) (n : Nat) : Bool := (tget s.tx.flows n).isSome

/-- Change an enabled transmit flow. -/
def State.setTx (s : State) (n : Nat) (f : TxFlow → TxFlow) : State :=
  match tget s.tx.flows n with
  | some x => { s with tx := { s.tx with flows := tput s.tx.flows n (f x) } }
  | none => s

/-- Transmit flow states (R329). -/
def txDisabled : Nat := 0
def txWaiting : Nat := 1
def txSending : Nat := 2
def txSilent : Nat := 3

/-- STATE of a transmit flow. -/
def putTxState (s : State) (n st : Nat) : State := s.put (txIdx n) 2 st

/-- A source from eight values in record order. -/
def sourceOf (g : Nat → Nat) : Source :=
  { kind := g 0, port := g 1, addr := g 2, size := g 3, ready := g 4, flow := g 5, lag := g 6, rep := g 7 == 1 }

/-- The source fields of a flow record. -/
def recordSource (s : State) (n : Nat) : Source := sourceOf fun i => s.num (txIdx n) (0x24 + i)

/-- The source that a take record's value names. -/
def takeSource (key : Nat) (v : Val) : Source :=
  sourceOf fun i => valNum ((((recordValues key (valBytes v)).getD []).getD i (.num 0)))

/-- The pending takes of a flow, in order of acceptance. -/
def pendingTakes (s : State) (n : Nat) : List TimedCmd := s.ruling.timed.filter fun c => c.key == ent (takeIdx n) 0

/-- The source in force at a media time (R348). -/
def TxFlow.sourceAt (x : TxFlow) (media : Nat) : Source := ((x.srcs.find? fun p => p.1 ≤ media).map (·.2)).getD {}

/-- The latest source armed. -/
def TxFlow.inForce (x : TxFlow) : Source := ((x.srcs.head?).map (·.2)).getD {}

/-- The boundary from which the source of a media time holds. -/
def TxFlow.since (x : TxFlow) (media : Nat) : Nat := ((x.srcs.find? fun p => p.1 ≤ media).map (·.1)).getD 0

/-- Every source charged for a flow: the one in force and those of its pending takes (R346). -/
def charged (s : State) (n : Nat) : List Source :=
  (s.txFlow n).inForce :: (pendingTakes s n).map fun c => takeSource c.key c.val

/-- The source that will be in force at a media time, pending takes included. -/
def awaitedSource (s : State) (n media : Nat) : Source :=
  let p := (txFmt s n).picks s
  ((pendingTakes s n).foldl (fun (b : Nat × Source) c =>
    let t := p.start c.pick
    if t ≤ media ∧ b.1 ≤ t then (t, takeSource c.key c.val) else b)
    ((s.txFlow n).since media, (s.txFlow n).sourceAt media)).2

/-- The receive flow a kind-4 source names. -/
def Source.rx (x : Source) : Nat := x.flow % 2 ^ 15

/-- Whether the engine builds the packets of a source (kinds 1 to 3). -/
def built (x : Source) : Bool := 1 ≤ x.kind && x.kind ≤ 3

/-! ### Packets of a frame (R338) -/

/-- Bytes and pixel width of a pgroup (ST 2110-20). -/
def pgroup (f : Fmt) : Nat × Nat :=
  match f.samp, f.depth with
  | 0, 8 => (4, 2) | 0, 10 => (5, 2) | 0, 12 => (6, 2) | 0, _ => (8, 2)
  | 3, 8 => (6, 2) | 3, 10 => (15, 4) | 3, 12 => (9, 2) | 3, _ => (12, 2)
  | _, 8 => (3, 1) | _, 10 => (15, 4) | _, 12 => (9, 2) | _, _ => (6, 1)

/-- Bytes of a line, or line pair. -/
def lineBytes (f : Fmt) : Nat := ceilDiv f.w (pgroup f).2 * (pgroup f).1

/-- Pgroups in a full packet of a flow. -/
def groupsPer (s : State) (n : Nat) : Nat := max 1 (s.num (txIdx n) 0x1C / (pgroup (txFmt s n)).1)

/-- Packets of a line. -/
def perLine (s : State) (n : Nat) : Nat := ceilDiv (lineBytes (txFmt s n)) (groupsPer s n * (pgroup (txFmt s n)).1)

/-- Lines that carry packets: pairs for 4:2:0. -/
def rowsOf (s : State) (f : Fmt) : Nat := if f.samp = 3 then f.lines s / 2 else f.lines s

/-- NP: packets of a pick (R340). -/
def packetsPer (s : State) (n : Nat) : Nat := rowsOf s (txFmt s n) * perLine s n

/-- Samples of an audio packet for each channel (R338). -/
def samplesPer (s : State) (n : Nat) : Nat :=
  (match s.num (txIdx n) 0x1D with | 0 => 48 | 1 => 6 | _ => 12) * (if (txFmt s n).rate = 0 then 1 else 2)

/-- Bytes of an audio sample in a packet. -/
def sampleBytes (f : Fmt) : Nat := if f.ess = 2 then f.depth / 8 else 4

/-- Length of the IP packet around an RTP payload for a flow: the longer of its legs. -/
def ipLength (s : State) (n payload : Nat) : Nat :=
  let v6 := (s.oct (txIdx n) 9).length = 16 ∨ (s.num (txIdx n) 5 = 1 ∧ (s.oct (txIdx n) 0x10).length = 16)
  payload + 20 + (if v6 then 40 else 20)

/-- RTP payload of the largest packet of kinds 1 to 3. -/
def largestPayload (s : State) (n : Nat) : Nat :=
  let f := txFmt s n
  if f.ess = 0 then 8 + min (lineBytes f) (groupsPer s n * (pgroup f).1)
  else if isAudio f.ess then samplesPer s n * f.ch * sampleBytes f
  else 0

/-- VT (R340). -/
def vtOf (s : State) (n : Nat) : Nat :=
  if ((txFmt s n).picks s).inter then s.num (txIdx n) 0x1A / 2 else s.num (txIdx n) 0x1A

/-- TRO_USED in ns (R340, R341). -/
def troUsed (s : State) (n : Nat) : Nat :=
  let f := txFmt s n
  let p := f.picks s
  if f.ess = 0 ∧ s.num (txIdx n) 0x19 = 0 then (vtOf s n - f.lines s - 2) * p.den * 1000000000 / (p.num * vtOf s n)
  else s.num (txIdx n) 0x19

/-- Whether START_TRIG names a unit in PICK_OFFSET mode on the flow's time base (R342). -/
def trigOn (s : State) (n : Nat) : Bool :=
  let u := s.num (txIdx n) 0x1B
  s.num (trigIdx u) 1 == 3 && s.num (trigIdx u) 2 == (txFmt s n).tb

/-- OFFSET of a bound unit in ns. -/
def startOffset (s : State) (n : Nat) : Int :=
  let u := s.num (txIdx n) 0x1B
  if u = 255 then 0 else signed 32 (s.num (trigIdx u) 6)

/-- The limits of the schedule (R340, R341, R342). -/
def scheduleOk (s : State) (n : Nat) : Bool :=
  let f := txFmt s n
  let p := f.picks s
  if f.ess = 0 then
    let tro := (troUsed s n : Int) + (if trigOn s n then startOffset s n else 0)
    let ns : Int := (p.den * 1000000000 : Nat)
    f.h + 4 ≤ s.num (txIdx n) 0x1A && decide (100000 ≤ tro) &&
      (if s.num (txIdx n) 0x18 = 0 then decide (tro * (p.num * vtOf s n : Nat) ≤ ns * ((vtOf s n - f.lines s : Nat) : Int))
       else decide (tro * (2 * p.num : Nat) ≤ ns))
  else if isAudio f.ess then s.num (txIdx n) 0x19 ≤ 1000000
  else true

/-- Instant of packet `k` of pick `m`: the first count at or after its slot (R340, R342). -/
def slotAtPick (s : State) (n m k : Nat) : Nat :=
  let f := txFmt s n
  let p := f.picks s
  let np := packetsPer s n
  let pacing := s.num (txIdx n) 0x18
  let vt := vtOf s n
  let steps : Int := if pacing = 0 then (m * vt * np + k * f.lines s : Nat)
    else if pacing = 1 then (m * vt * np + k * vt : Nat) else (m * vt * np + k / 8 * 8 * vt : Nat)
  let den := p.num * vt * np
  let ns : Int := steps * (p.den * 1000000000 : Nat) + ((troUsed s n : Int) + startOffset s n) * den
  ceilDiv (ns.toNat * nsUnit) (max 1 den)

/-- Departure of audio packet `j` (R341). -/
def audioAt (s : State) (n j : Nat) : Nat :=
  mediaAt (txFmt s n).hz ((j + 1) * samplesPer s n) + s.num (txIdx n) 0x19 * nsUnit

/-- Media time of frame `m`, or of audio packet `m`. -/
def mediaOf (s : State) (n m : Nat) : Nat :=
  let f := txFmt s n
  if isAudio f.ess then mediaAt f.hz (m * samplesPer s n) else (f.picks s).start m

/-- The first frame or audio packet at or after a boundary (R330). -/
def firstFrom (s : State) (n time : Nat) : Nat :=
  let f := txFmt s n
  if isAudio f.ess then ceilDiv (time * f.hz) (samplesPer s n * 1000000000 * nsUnit) else (f.picks s).pickAt time

/-- First departure of pick or audio packet `m` (R334, R340, R341). -/
def firstDeparture (s : State) (n m : Nat) : Nat :=
  let f := txFmt s n
  if isAudio f.ess then audioAt s n m
  else if f.ess = 0 then slotAtPick s n m 0 else (f.picks s).start m + 100000 * nsUnit

/-- PEAK_RATE of a flow with a source, in kb/s rounded up (R343). -/
def peakOf (s : State) (n : Nat) (x : Source) : Nat :=
  let f := txFmt s n
  let p := f.picks s
  let bits := ipLength s n (largestPayload s n) * 8
  match x.kind with
  | 0 => 0
  | 4 => s.num (rxIdx x.rx) 0x12
  | 5 => s.num (txIdx n) 0x2C
  | _ =>
    if f.ess = 0 then
      if s.num (txIdx n) 0x18 = 0 then ceilDiv (bits * packetsPer s n * vtOf s n * p.num) (p.den * f.lines s * 1000)
      else ceilDiv (bits * packetsPer s n * p.num) (p.den * 1000)
    else if isAudio f.ess then ceilDiv (bits * f.hz) (samplesPer s n * 1000)
    else s.num (txIdx n) 0x2C

/-! ### Capacities (R318, R334, R343, R346) -/

/-- Sum of a list. -/
def total (l : List Nat) : Nat := l.foldl (· + ·) 0

/-- Legs of a flow on a sub-port. -/
def legsOn (s : State) (n u : Nat) : Nat :=
  (if s.num (txIdx n) 6 = u then 1 else 0) + (if s.num (txIdx n) 5 = 1 ∧ s.num (txIdx n) 0x0D = u then 1 else 0)

/-- Transmit PEAK_RATE committed on a sub-port in kb/s (R343, R360). -/
def txCommitted (s : State) (u : Nat) : Nat :=
  total (s.tx.flows.map fun x => legsOn s x.1 u * total ((charged s x.1).map (peakOf s x.1)))

/-- Whether the sub-ports of a flow take a further source (R343). -/
def txRoom (s : State) (n : Nat) (x : Source) : Bool :=
  (List.range 176).all fun u =>
    legsOn s n u == 0 || txCommitted s u + legsOn s n u * peakOf s n x ≤ 900 * nominalMbs s u

/-- NoC charge of a receive flow in b/s (R318). -/
def rxNoc (s : State) (n : Nat) : Nat :=
  let idx := rxIdx n
  let e := n / 4096
  let f := rxFmt s n
  (if whereIs s e (s.num idx 0x13) (s.num idx 0x14) = .dram then 2000 * s.num idx 0x12 else 0)
    + (if s.num idx 0x16 / 2 % 2 = 1 ∧ whereIs s e (s.num idx 0x18) (s.num idx 0x19) ≠ .archive (e / 2)
       then essenceRate s f (s.num idx 0x12) else 0)

/-- NoC charge of a transmit flow for one source in b/s (R335, R336). -/
def srcNoc (s : State) (n : Nat) (x : Source) : Nat :=
  let e := n / 4096
  if x.kind = 2 ∨ x.kind = 3 then
    if whereIs s e x.addr x.size = .archive (e / 2) then 0 else essenceRate s (txFmt s n) 0
  else if x.kind = 4 ∧ x.rx / 8192 ≠ e / 2 then 1000 * s.num (rxIdx x.rx) 0x12
  else 0

/-- NoC allowance charged to an engine in b/s (R318, R326, R360). -/
def nocCharged (s : State) (e : Nat) : Nat :=
  total ((s.rx.flows.filter fun x => x.1 / 4096 = e).map fun x => rxNoc s x.1)
    + total ((s.tx.flows.filter fun x => x.1 / 4096 = e).map fun x => total ((charged s x.1).map (srcNoc s x.1)))

/-- The NoC allowance of an engine in b/s (R318). -/
def nocAllowance : Nat := 96000000000

/-- Essence rate of one source on its transmit-side port in b/s. -/
def srcEss (s : State) (n : Nat) (x : Source) : Nat :=
  if x.kind = 1 then essenceRate s (txFmt s n) (s.num (txIdx n) 0x2C) else 0

/-- Transmit essence rate committed on a port in b/s (R334, R360). -/
def txEssCommitted (s : State) (p : Nat) : Nat :=
  total (s.tx.flows.map fun x => total (((charged s x.1).filter fun y => x.1 / 4096 * 16 + y.port = p).map (srcEss s x.1)))

/-- Whether the transmit side of a source's port takes it (R334). -/
def essRoom (s : State) (n : Nat) (x : Source) : Bool :=
  x.kind != 1 || txEssCommitted s (n / 4096 * 16 + x.port) + srcEss s n x ≤ essCapacity s (n / 4096 * 16 + x.port)

/-! ### Checks (R330, R346) -/

/-- Bytes of a ring slot of kinds 2 and 3 (R335). -/
def ringSlot (s : State) (n : Nat) : Nat :=
  let f := txFmt s n
  if isAudio f.ess then ceilDiv (samplesPer s n * f.ch * 4) 64 * 64 else f.slotBytes s

/-- Source fields inside their ranges and aligned (R329). -/
def sourceAligned (x : Source) : Bool :=
  x.kind ≤ 5 && x.port ≤ 15 && x.addr % 4096 == 0 && x.size % 4096 == 0 && x.ready % 64 == 0 && x.flow < 2 ^ 15 && 1 ≤ x.lag
    && x.lag ≤ 255

/-- Whether a source kind is allowed for the essence and meets its rules (R333, R335, R336). -/
def sourceValid (s : State) (n : Nat) (x : Source) : Bool :=
  let f := txFmt s n
  let e := n / 4096
  match x.kind with
  | 2 | 3 =>
    (f.ess == 0 || isAudio f.ess) && 2 * ringSlot s n ≤ x.size && whereIs s e x.addr x.size != .other
      && (x.kind == 2 || whereIs s e x.ready (8 * (x.size / max 1 (ringSlot s n))) != .other)
  | 4 => (rxFmt s x.rx).ess == f.ess && (rxFmt s x.rx).tb == f.tb && 100 ≤ s.num (rxIdx x.rx) 0x11
  | _ => x.kind ≤ 5

/-- Whether the format of a source equals the flow's (R336): only a kind-4 source has one of its own. -/
def formatAgrees (s : State) (n : Nat) (x : Source) : Bool := x.kind != 4 || (txFmt s n).same (rxFmt s x.rx)

/-- Fields of one leg (R329). -/
def txLegOk (s : State) (n : Nat) (b : Bool) : Bool :=
  let g := fun i => if b then i + 7 else i
  let idx := txIdx n
  let vlan := s.num idx (g 7)
  let src := (s.oct idx (g 9)).length
  s.num idx (g 6) < 176 && (vlan ≤ 4094 || vlan == 0xFFFF) && (s.oct idx (g 8)).length == 6 && (src == 4 || src == 16)
    && (s.oct idx (g 0x0A)).length == src && 1 ≤ s.num idx (g 0x0B) && 1 ≤ s.num idx (g 0x0C)

/-- The legs of a transmit flow in use. -/
def txLegs (s : State) (n : Nat) : List Bool := if s.num (txIdx n) 5 = 1 then [false, true] else [false]

/-- Sub-port of a leg. -/
def legSub (s : State) (n : Nat) (b : Bool) : Nat := s.num (txIdx n) (if b then 0x0D else 6)

/-- Bytes of the Ethernet frame of a leg around an IP packet, with its FCS. -/
def frameLength (s : State) (n : Nat) (b : Bool) (ip : Nat) : Nat :=
  ip + 18 + (if s.num (txIdx n) (if b then 0x0E else 7) = 0xFFFF then 0 else 4)

/-- Step 2 of R330. -/
def txFieldsOk (s : State) (n : Nat) : Bool :=
  let f := txFmt s n
  let x := recordSource s n
  let qos := s.num (txIdx n) 0x14
  let trig := s.num (txIdx n) 0x1B
  f.ok && sourceAligned x && (txLegs s n).all (txLegOk s n) && qos / 2 ^ 14 == 0 && qos % 32 == 0 && (trig ≤ 63 || trig == 255)
    && (!built x || ((txLegs s n).all fun b =>
      frameLength s n b (ipLength s n (largestPayload s n)) ≤ largestFrame s (legSub s n b)))
    && (!built x || scheduleOk s n)
    && (!(x.kind == 5 || (x.kind == 1 && f.ess != 0 && !isAudio f.ess)) || s.num (txIdx n) 0x2C != 0)

/-- Steps 4 to 9 of R330 and 4 to 8 of R346 for a source; START_TRIG is judged at enable only. -/
def sourceChecks (s : State) (n : Nat) (x : Source) (trigger : Bool) : Option Nat :=
  if !(sourceAligned x && sourceValid s n x && (!built x || scheduleOk s n)) then some stSourceInvalid
  else if !formatAgrees s n x then some stFormatMismatch
  else if trigger ∧ s.num (txIdx n) 0x1B ≠ 255 ∧ !(trigOn s n && (txFmt s n).ess == 0 && built x) then some stTriggerInvalid
  else if !txRoom s n x then some stTxCapacity
  else if nocAllowance < nocCharged s (n / 4096) + srcNoc s n x then some stNocBudget
  else if !essRoom s n x then some stEssenceCapacity
  else none

/-- The transmit enable checks (R330, R331), on the record as written. -/
def txChecks (n : Nat) (s : State) : Option Nat :=
  if !s.serving (n / 4096) then some stEngineOut
  else if !txFieldsOk s n then some stTypeMismatch
  else if (txLegs s n).any fun b => s.boundTo (legSub s n b) ≠ n / 4096 then some stNotBound
  else sourceChecks s n (recordSource s n) true

/-! ### Enable, disable, time base (R330, R332) -/

/-- Whether a receive flow plays. -/
def rxPlaying (s : State) (n : Nat) : Bool := s.num (rxIdx n) 2 == 3

/-- A flow without a source that sends reads SILENT (R333, R336). -/
def quietTx (s : State) (n : Nat) : State :=
  let x := (s.txFlow n).inForce
  if txOn s n ∧ (s.tb (txFmt s n).tb).armed ∧ (x.kind = 0 ∨ (x.kind = 4 ∧ !rxPlaying s x.rx)) then putTxState s n txSilent else s

/-- The source of kind-4 flows has changed state (R336). -/
def rxChanged (s : State) (m : Nat) : State :=
  s.tx.flows.foldl (fun s x => if x.2.inForce.kind = 4 ∧ x.2.inForce.rx = m then quietTx s x.1 else s) s

/-- Set the first media time that a flow sends: the first boundary of its time base from now (R330, R332). -/
def startTx (s : State) (n : Nat) : State :=
  let t := (txFmt s n).tb
  if (s.tb t).armed then
    let b := ((txFmt s n).picks s).start (nextPickOf s t)
    s.setTx n fun x => { x with low := some b, frame := firstFrom s n b, k := 0 }
  else s

/-- Enable a transmit flow whose checks have passed (R330): counters cleared, NEXT_SEQ drawn. -/
def enableTx (n : Nat) (s : State) : State :=
  let idx := txIdx n
  let src := recordSource s n
  let s := (List.range 8).foldl (fun s i => s.put idx (0x2F + i) 0) s
  let s := { s.draw with tx := { s.tx with flows := tput s.tx.flows n { next := s.freeValue 32, srcs := [(0, src)] } } }
  let s := (s.put idx 0x37 (s.txFlow n).next).put idx 0x2D (peakOf s n src)
  let s := putTxState (s.put idx 0x2E (troUsed s n)) n txWaiting
  quietTx (startTx s n) n

/-- Stop a transmit flow (R330): pending takes are cancelled with a status. -/
def stopTx (s : State) (n status : Nat) : State :=
  let s := cancelTimed s (fun c => c.key == ent (takeIdx n) 0) status
  let s := { s with tx := { s.tx with flows := tdel s.tx.flows n } }
  putTxState (s.write (ent (txIdx n) 1) (.num 0)) n txDisabled

/-- The range of a field of a transmit flow record beyond its bounds (R329). -/
def txFieldOk (sub : Nat) (v : Val) : Bool :=
  let x := valNum v
  match sub with
  | 0x06 | 0x0D => x < 176 || x == 255
  | 0x07 | 0x0E => x ≤ 4094 || x == 0xFFFF
  | 0x08 | 0x0F => [0, 6].contains (valBytes v).length
  | 0x09 | 0x0A | 0x10 | 0x11 => [0, 4, 16].contains (valBytes v).length
  | 0x14 => x / 2 ^ 14 == 0 && x % 32 == 0
  | 0x1B => x ≤ 63 || x == 255
  | 0x1E | 0x1F => x % 2 == 0
  | 0x21 => [8, 10, 12, 16, 24].contains x
  | 0x26 | 0x27 => x % 4096 == 0
  | 0x28 => x % 64 == 0
  | 0x29 => x < 2 ^ 15
  | _ => true

/-- The rule of a transmit flow record (R330). -/
def txFlowRule (n sub : Nat) : Rule := flowRule (txIdx n) sub txFieldOk (txChecks n) (enableTx n) fun s => stopTx s n stFlowDisabled

/-- A time base is disarmed (R332). -/
def txDisarm (s : State) (t : Nat) : State :=
  s.tx.flows.foldl (fun s e =>
    if (txFmt s e.1).tb ≠ t then s
    else
      let st := s.num (txIdx e.1) 2
      let s := s.setTx e.1 fun x => { x with low := none, queue := [], ring := [], words := [], pick := none, k := 0, expect := 0 }
      if st = txSending ∨ st = txSilent then (putTxState s e.1 txWaiting).raise 0x444 e.1 (be 8 e.2.last) else s) s

/-- A time base is armed (R332). -/
def txArm (s : State) (t : Nat) : State :=
  s.tx.flows.foldl (fun s e => if (txFmt s e.1).tb ≠ t then s else quietTx (startTx s e.1) e.1) s

/-! ### Sending (R337, R339, R343, R344) -/

/-- The RTP packet of a flow with sequence number `seq` (R337 to R339). -/
def rtpPacket (s : State) (n seq : Nat) (p : TxPkt) : List Byte :=
  let idx := txIdx n
  be 1 0x80 ++ be 1 ((if p.marker then 128 else 0) + s.num idx 0x17) ++ be 2 seq ++ be 4 p.ts ++ be 4 (s.num idx 0x16)
    ++ (if s.num idx 3 = 0 then be 2 (seq / 2 ^ 16) else []) ++ p.payload

/-- The Ethernet frame of a leg, without FCS (R337). -/
def legFrame (s : State) (n : Nat) (b : Bool) (rtp : List Byte) : List Byte :=
  let g := fun i => if b then i + 7 else i
  let idx := txIdx n
  let qos := s.num idx 0x14
  let vlan := s.num idx (g 7)
  let src := s.oct idx (g 9)
  let v6 := src.length = 16
  let ip := (if v6 then ip6Packet else ip4Packet) qos (s.num idx 0x15) src (s.oct idx (g 0x0A)) (s.num idx (g 0x0B))
    (s.num idx (g 0x0C)) rtp
  s.oct idx (g 8) ++ subMac s (s.num idx (g 6))
    ++ (if vlan = 0xFFFF then [] else be 2 0x8100 ++ be 2 (qos / 32 % 8 * 2 ^ 13 + vlan)) ++ be 2 (if v6 then 0x86DD else 0x0800) ++ ip

/-- Packets not sent (R329, R360). -/
def countNotSent (s : State) (n k : Nat) : State := (s.count (txIdx n) 0x33 64 k).count (txEngIdx (n / 4096)) 5 64 k

/-- A packet that a sub-port discards (R343): event 443h at most once per second. -/
def discardAt (s : State) (n u : Nat) : State := (countNotSent s n 1).raiseAtMost 1 0x443 u (fun c => be 4 c)

/-- A packet that could not be sent (R344): event 442h at most once per second. -/
def missPacket (s : State) (n : Nat) : State := (countNotSent s n 1).raiseAtMost 1 0x442 n (fun c => be 4 c)

/-- A frame not sent or repeated (R334, R335, R342): MISSING and event 441h. -/
def missFrame (s : State) (n cause pick : Nat) : State :=
  (s.count (txIdx n) 0x32 64 1).raiseAtMost 1 0x441 n (fun c => be 1 cause ++ be 8 pick ++ be 4 c)

/-- Whether a packet is of class 0 (R343): built, with a slot of its own. -/
def class0 (s : State) (n : Nat) (p : TxPkt) : Bool :=
  1 ≤ p.src && p.src ≤ 3 && (isAudio (txFmt s n).ess || ((txFmt s n).ess == 0 && s.num (txIdx n) 0x18 ≤ 1))

/-- Whether a leg drops a packet now (R343): the sub-port passes nothing, or is narrow and a class-0 packet is more than
20 µs behind its slot. -/
def legDrops (s : State) (n : Nat) (b : Bool) (p : TxPkt) (late : Bool) : Bool :=
  let u := legSub s n b
  !subPasses s u || (s.subState u == spNarrow && class0 s n p
    && (late || p.since + 20000 * nsUnit < (s.tb (txFmt s n).tb).time))

/-- One leg of a packet leaves. -/
def sendLeg (s : State) (n : Nat) (b : Bool) (p : TxPkt) (rtp : List Byte) : State :=
  let u := legSub s n b
  let f := legFrame s n b rtp
  let out : SentPkt := { unit := u, bytes := frameOut s u f }
  let s := stampFrame s u true f
  let s := { s with tx := { s.tx with sent := s.tx.sent ++ [out],
                                      class1 := if class0 s n p then s.tx.class1
                                        else tput s.tx.class1 u (tgetD s.tx.class1 u 0 - f.length) } }
  (s.count (subIdx u) 9 64 1).count (subIdx u) 0x0A 64 (f.length + 4)

/-- Time to send a sub-port's largest frame, in ns (R343). -/
def frameNs (s : State) (u : Nat) : Nat := ceilDiv (largestFrame s u * 8000) (max 1 (nominalMbs s u))

/-- A packet leaves on the legs that take it (R337, R339, R343); a packet that no leg takes uses no number. The flow is SENDING with
the first packet of the source in force. -/
def sendPacket (s : State) (n : Nat) (p : TxPkt) (late : Bool := false) : State :=
  let idx := txIdx n
  let x := s.txFlow n
  let t := (txFmt s n).tb
  let rtp := rtpPacket s n x.next p
  let big := (txLegs s n).any fun b =>
    largestFrame s (legSub s n b) < frameLength s n b (ipLength s n (rtp.length - 12))
  if big then missPacket s n
  else
    let bad := (txLegs s n).filter fun b => legDrops s n b p late
    let good := (txLegs s n).filter fun b => !legDrops s n b p late
    let s := bad.foldl (fun s b => discardAt s n (legSub s n b)) s
    if good.isEmpty then s
    else
      let s := good.foldl (fun s b => sendLeg s n b p rtp) s
      let slow := class0 s n p && good.any fun b =>
        s.subState (legSub s n b) == spUp
          && p.since + (500 + 2 * frameNs s (legSub s n b)) * nsUnit < (s.tb t).time
      let s := if slow then s.count idx 0x34 64 1 else s
      let s := (s.count idx 0x2F 64 1).count idx 0x30 64 ((legFrame s n false rtp).length + 4)
      let s := if p.marker then s.count idx 0x31 64 1 else s
      let s := s.setTx n fun y => { y with next := (y.next + 1) % 2 ^ 32, last := ((txFmt s n).picks s).holding p.media }
      let s := s.put idx 0x37 (s.txFlow n).next
      if s.num idx 2 = txSending ∨ !(x.srcs.head?.any fun q => q.1 ≤ p.media) then s
      else (putTxState s n txSending).raise 0x440 n (be 1 p.src ++ be 4 x.next)

/-- The first packet of a new source is about to leave (R349): what the old one still had is cut. -/
def cutOld (s : State) (n media : Nat) : State :=
  let x := s.txFlow n
  let b := x.since media
  if x.low.any fun l => b ≤ l then s
  else
    let old := ((x.srcs.find? fun p => p.1 < b).map (·.2)).getD {}
    let queued := (x.queue.filter fun p => p.media < b).length
    let held := if old.kind = 4 then ((tgetD s.rx.flows old.rx {}).buf.filter fun p => p.media < b).length else 0
    let first := firstFrom s n b
    let each := if isAudio (txFmt s n).ess then 1 else packetsPer s n
    let left := if built old ∧ x.frame < first then (first - x.frame) * each - x.k else 0
    let dropped := queued + held + left
    let s := s.setTx n fun x => { x with low := some b, queue := x.queue.filter fun p => b ≤ p.media }
    let s := if left = 0 then s else s.setTx n fun x => { x with frame := first, k := 0 }
    if dropped = 0 then s
    else (s.count (txIdx n) 0x35 32 1).raise 0x481 n (be 8 (((txFmt s n).picks s).pickAt b) ++ be 4 dropped)

/-- Queue a packet for departure (R325, R336, R341, R343): a narrow sub-port holds 256 KiB of class 1. -/
def queuePacket (s : State) (n : Nat) (p : TxPkt) : State :=
  match (s.txFlow n).low with
  | none => s
  | some l =>
    if p.media < l then s
    else
      let len := p.payload.length + 60
      let narrow := (txLegs s n).filter fun b => s.subState (legSub s n b) == spNarrow
      let full := narrow.filter fun b => 262144 < tgetD s.tx.class1 (legSub s n b) 0 + len
      let s := full.foldl (fun s b => discardAt s n (legSub s n b)) s
      let s := (narrow.filter fun b => !full.contains b).foldl (fun s b =>
        { s with tx := { s.tx with class1 := tput s.tx.class1 (legSub s n b) (tgetD s.tx.class1 (legSub s n b) 0 + len) } }) s
      if full.length = (txLegs s n).length then s else s.setTx n fun x => { x with queue := x.queue ++ [p] }

/-! ### Payloads of kinds 1 to 3 (R334, R335, R338) -/

/-- Kind of a word. -/
def EssWord.kind (w : EssWord) : Nat := w.tag / 2 ^ 56

/-- Pick that a FRAME word opens (R334). -/
def framePick (w : EssWord) : Nat := bits w.data 383 320

/-- The words held for a pick: those after its FRAME word. -/
def wordsFor (ws : List EssWord) (m : Nat) : Option (List EssWord) :=
  match ws.dropWhile fun w => !(w.kind = 0x10 ∧ framePick w = m) with
  | [] => none
  | _ :: r => some (r.takeWhile fun w => w.kind ≠ 0x10)

/-- Forget the words of picks up to `m`. -/
def dropWords (ws : List EssWord) (m : Nat) : List EssWord := ws.dropWhile fun w => !(w.kind = 0x10 ∧ m < framePick w)

/-- Samples of a row in the words the design supplied. -/
def rowOfWords (ws : List EssWord) (row : Nat) : List Nat :=
  (ws.filter fun w => bits w.tag 42 30 = row).flatMap fun w => (List.range (bits w.tag 13 8)).map fun j => laneOf 16 w.data j

/-- Samples of a row in a slot of a ring (R324). -/
def rowOfSlot (f : Fmt) (data : List Byte) (row : Nat) : List Nat :=
  (List.range (f.w * f.perPixel)).map fun i => fieldBE data (row * f.lineWords * 64 + i / f.lanes * 64 + i % f.lanes * 2) 2

/-- Payload of packet `k` of a frame whose rows are given; none where a sample is missing (R338, R344). -/
def videoPayload (s : State) (n k : Nat) (second : Bool) (row : Nat → List Nat) : Option (List Byte) :=
  let f := txFmt s n
  let line := k / perLine s n
  let r := if f.samp = 3 then 2 * line else line
  let px := groupsPer s n * (pgroup f).2
  let off := k % perLine s n * px
  let len := min px (f.w - off)
  let xs := ((row r).drop (off * f.perPixel)).take (len * f.perPixel)
  if xs.length < len * f.perPixel then none
  else
    let body := pack f.depth xs
    let body := body ++ List.replicate (ceilDiv len (pgroup f).2 * (pgroup f).1 - body.length) 0
    some (be 2 body.length ++ be 2 ((if second then 0x8000 else 0) + r) ++ be 2 off ++ body)

/-- Payload of an audio packet from its 32-bit lanes (R338). -/
def audioPayload (f : Fmt) (lanes : List Nat) : List Byte := lanes.flatMap fun x => be (sampleBytes f) (x / 2 ^ (32 - 8 * sampleBytes f))

/-- Lanes of an audio packet in the words held: every sample, or none (R334). -/
def lanesOfWords (s : State) (n j : Nat) (ws : List EssWord) : Option (List Nat) :=
  let f := txFmt s n
  let first := j * samplesPer s n % 2 ^ 32
  (List.range (samplesPer s n * f.ch)).mapM fun i =>
    (ws.findSome? fun w =>
      let d : Int := signed 32 (bits w.tag 43 12 + 2 ^ 32 - first) * f.ch + bits w.tag 11 6
      if d ≤ i ∧ (i : Int) < d + bits w.tag 5 1 then some (laneOf 32 w.data (i - d).toNat) else none)

/-- The built packet that leaves next: data by source kind (R334, R335). -/
def builtPayload (s : State) (n : Nat) (src : Source) : Option (List Byte) :=
  let f := txFmt s n
  let x := s.txFlow n
  if isAudio f.ess then
    if src.kind = 1 then (lanesOfWords s n x.frame x.words).map (audioPayload f)
    else (tget x.ring x.frame).bind fun b =>
      if b.isEmpty then none
      else some (audioPayload f ((List.range (samplesPer s n * f.ch)).map fun i => fieldBE b (4 * i) 4))
  else
    let second := (f.picks s).inter && x.frame % 2 == 1
    if src.kind = 1 then (wordsFor x.words x.frame).bind fun ws => videoPayload s n x.k second (rowOfWords ws)
    else (tget x.ring x.frame).bind fun b => if b.isEmpty then none else videoPayload s n x.k second (rowOfSlot f b)

/-! ### Departures (R340, R341, R344) -/

/-- The source of the frame or audio packet to be built next, where the engine builds it. -/
def nextBuilt (s : State) (n : Nat) : Option Source :=
  let x := s.txFlow n
  let f := txFmt s n
  if x.low.isNone ∨ !(f.ess == 0 || isAudio f.ess) then none
  else
    let src := x.sourceAt (mediaOf s n x.frame)
    if built src then some src else none

/-- Instant of the built packet that leaves next. -/
def builtAt (s : State) (n : Nat) : Nat :=
  let x := s.txFlow n
  if isAudio (txFmt s n).ess then audioAt s n x.frame else slotAtPick s n x.frame x.k

/-- The frame or audio packet is done with. -/
def nextFrame (s : State) (n : Nat) : State :=
  let audio := isAudio (txFmt s n).ess
  s.setTx n fun x =>
    { x with frame := x.frame + 1, k := 0, ring := tdel x.ring x.frame,
             words := if audio then x.words.filter fun w =>
                 0 ≤ signed 32 (bits w.tag 43 12 + bits w.tag 5 1 + 2 ^ 32 - (x.frame + 1) * samplesPer s n % 2 ^ 32)
               else dropWords x.words x.frame }

/-- The packet after the present one. -/
def nextPacket (s : State) (n : Nat) : State :=
  if isAudio (txFmt s n).ess ∨ packetsPer s n ≤ (s.txFlow n).k + 1 then nextFrame s n
  else s.setTx n fun x => { x with k := x.k + 1 }

/-- RTP timestamp of a frame or audio packet that the engine builds (R339). -/
def builtTs (s : State) (n : Nat) : Nat :=
  let f := txFmt s n
  let x := s.txFlow n
  if isAudio f.ess then x.frame * samplesPer s n % 2 ^ 32
  else x.frame * (f.picks s).den * f.clock / (f.picks s).num % 2 ^ 32

/-- A built packet's instant has come. -/
def departBuilt (s : State) (n : Nat) (src : Source) (late : Bool) : State :=
  let f := txFmt s n
  let s := s.waitTb f.tb (builtAt s n)
  let s := cutOld s n (mediaOf s n (s.txFlow n).frame)
  let x := s.txFlow n
  let video := !isAudio f.ess
  if video ∧ x.k = 0 ∧ s.num (txIdx n) 0x1B ≠ 255 ∧ !trigOn s n then nextFrame (missFrame s n 2 x.frame) n
  else if video ∧ x.k = 0 ∧ src.kind = 1 ∧ (wordsFor x.words x.frame).isNone then nextFrame (missFrame s n 3 x.frame) n
  else if src.kind ≠ 1 ∧ tget x.ring x.frame = some [] then nextFrame s n
  else
    match builtPayload s n src with
    | none => nextPacket (missPacket s n) n
    | some b =>
      let p : TxPkt := { since := builtAt s n, media := mediaOf s n x.frame, ts := builtTs s n,
                         marker := video && x.k + 1 == packetsPer s n, payload := b, src := src.kind }
      nextPacket (sendPacket s n p late) n

/-- The packet at the head of the queue has come to its instant. -/
def departQueued (s : State) (n : Nat) (p : TxPkt) : State :=
  let s := s.waitTb (txFmt s n).tb p.since
  let s := s.setTx n fun x => { x with queue := x.queue.drop 1 }
  if ((s.txFlow n).low.any fun l => p.media < l) then s
  else sendPacket (cutOld s n p.media) n p

/-- The next departure of a flow: the earlier of its built packet and its queue, class 0 first (R343). -/
def depart (s : State) (n : Nat) : State :=
  if !s.serving (n / 4096) ∨ !(s.tb (txFmt s n).tb).armed then s
  else
    match nextBuilt s n, (s.txFlow n).queue.head? with
    | none, none => s
    | some src, none => departBuilt s n src false
    | none, some p => departQueued s n p
    | some src, some p => if p.since < builtAt s n then departQueued s n p else departBuilt s n src false

/-- A class-0 packet not sent by its slot + 20 µs on a narrow sub-port is discarded there (R343). -/
def discardClass0 (s : State) (n : Nat) : State :=
  match nextBuilt s n with
  | none => s
  | some src =>
    let narrow := (txLegs s n).any fun b => s.subState (legSub s n b) == spNarrow
    if !s.serving (n / 4096) ∨ !(s.tb (txFmt s n).tb).armed ∨ !narrow ∨ ((txFmt s n).ess = 0 ∧ s.num (txIdx n) 0x18 = 2) then s
    else
      let at_ := builtAt s n
      (departBuilt s n src true).waitTb (txFmt s n).tb (at_ + 20000 * nsUnit)

/-! ### Ring slots (R335) -/

/-- The next slot to read: the first of three frames or packets without data whose source is a ring. -/
def nextSlot (s : State) (n : Nat) : Option (Nat × Source) :=
  let x := s.txFlow n
  if x.low.isNone then none
  else [x.frame, x.frame + 1, x.frame + 2].findSome? fun m =>
    let src := awaitedSource s n (mediaOf s n m)
    if (tget x.ring m).isNone ∧ (src.kind = 2 ∨ src.kind = 3) then some (m, src) else none

/-- Read slot `j` of a ring for frame or packet `m`. -/
def readSlot (s : State) (n m : Nat) (src : Source) (j : Nat) : State :=
  match readGranules s (engInit (n / 4096)) (src.addr + j * ringSlot s n) (ringSlot s n / 64) false with
  | (s, some b) => s.setTx n fun x => { x with ring := tput x.ring m b }
  | (s, none) => s

/-- The engine begins to read a slot, 400 µs before its first departure (R335). -/
def ringRead (s : State) (n : Nat) : State :=
  match nextSlot s n with
  | none => s
  | some (m, src) =>
    if !s.serving (n / 4096) ∨ !(s.tb (txFmt s n).tb).armed then s
    else
      let s := s.waitTb (txFmt s n).tb (firstDeparture s n m - 400000 * nsUnit)
      let count := src.size / ringSlot s n
      let want : Int := (m : Int) - src.lag
      let j := (want % count).toNat
      if src.kind = 2 then readSlot s n m src j
      else
        match readGranules s (engInit (n / 4096)) ((src.ready + 8 * j) / 64 * 64) 1 false with
        | (s, none) => s
        | (s, some g) =>
          if fieldBE g ((src.ready + 8 * j) % 64) 8 = wrap 64 want then
            readSlot (s.setTx n fun x => { x with slot := some j }) n m src j
          else
            match src.rep, (s.txFlow n).slot with
            | true, some k => readSlot (missFrame s n 0 m) n m src k
            | _, _ => (missFrame s n 1 m).setTx n fun x => { x with ring := tput x.ring m [] }

/-! ### The transmit side of an essence port (R334) -/

/-- Words held on the transmit side of a port. -/
def heldWords (s : State) (p : Nat) : Nat :=
  total (s.tx.flows.map fun x => if x.1 / 4096 * 16 + x.2.inForce.port = p ∧ x.2.inForce.kind = 1 then x.2.words.length else 0)

/-- A word discarded on the transmit side. -/
def dropWord (s : State) (p : Nat) : State := s.count (essIdx p) 7 64 1

/-- Hold a word and the position expected after it. -/
def holdWord (s : State) (n : Nat) (w : EssWord) (expect : Nat) : State :=
  s.setTx n fun x => { x with words := x.words ++ [w], expect := expect }

/-- A FRAME word opens its pick (R334). -/
def openFrame (s : State) (n p : Nat) (w : EssWord) : State :=
  let m := framePick w
  let s := s.setTx n fun x => { x with pick := some m, expect := 0 }
  if firstDeparture s n m < (s.tb (txFmt s n).tb).time then dropWord s p
  else s.setTx n fun x => { x with words := x.words ++ [w] }

/-- Position after a video word. -/
def afterVideo (f : Fmt) (w : EssWord) : Nat :=
  let px := bits w.tag 29 14 + bits w.tag 13 8 / f.perPixel
  if f.w ≤ px then (bits w.tag 42 30 + (if f.samp = 3 then 2 else 1)) * 2 ^ 16 else bits w.tag 42 30 * 2 ^ 16 + px

/-- A video word (R334, R344): in order, of the open pick, and of a packet that has not been passed. -/
def takeVideo (s : State) (n p : Nat) (w : EssWord) : State :=
  let f := txFmt s n
  let x := s.txFlow n
  match x.pick with
  | none => dropWord s p
  | some m =>
    if bits w.tag 42 30 * 2 ^ 16 + bits w.tag 29 14 ≠ x.expect ∨ (wordsFor x.words m).isNone then dropWord s p
    else
      let line := if f.samp = 3 then bits w.tag 42 30 / 2 else bits w.tag 42 30
      let k := line * perLine s n + bits w.tag 29 14 / (groupsPer s n * (pgroup f).2)
      if m < x.frame ∨ (m = x.frame ∧ k < x.k) then dropWord (s.setTx n fun x => { x with expect := afterVideo f w }) p
      else holdWord s n w (afterVideo f w)

/-- An audio word (R334). -/
def takeAudio (s : State) (n p : Nat) (w : EssWord) : State :=
  let f := txFmt s n
  let x := s.txFlow n
  let expect := if x.words.isEmpty then x.frame * samplesPer s n % 2 ^ 32 * 64 else x.expect
  if bits w.tag 43 12 * 64 + bits w.tag 11 6 ≠ expect then dropWord s p
  else
    let i := bits w.tag 11 6 + bits w.tag 5 1
    holdWord s n w ((bits w.tag 43 12 + i / f.ch) % 2 ^ 32 * 64 + i % f.ch)

/-- The departure of an opaque packet (R341): shaped to DECLARED_RATE with a burst of 16 packets. -/
def shape (s : State) (n base len : Nat) : State × Nat :=
  let t := ceilDiv (ipLength s n len * 8 * 1000000 * nsUnit) (max 1 (s.num (txIdx n) 0x2C))
  let x := s.txFlow n
  let since := max base (x.tat - 15 * t)
  (s.setTx n fun x => { x with tat := max since x.tat + t }, since)

/-- An opaque word (R334, R338, R341): a packet is formed from each run of words from first to last. -/
def takeOpaque (s : State) (n p : Nat) (w : EssWord) : State :=
  let x := s.txFlow n
  let f := txFmt s n
  match x.pick with
  | none => dropWord s p
  | some m =>
    if (wordsFor x.words m).isNone ∨ w.tag / 2 ^ 36 % 2 = x.expect then dropWord s p
    else if w.tag / 2 ^ 35 % 2 = 0 then holdWord s n w 1
    else
      let ws := ((wordsFor x.words m).getD []) ++ [w]
      let body := ws.flatMap fun y => (List.range (bits y.tag 43 37)).map fun j => BitVec.ofNat 8 (laneOf 8 y.data j)
      let frame := x.words.filter fun y => y.kind = 0x10 ∧ m ≤ framePick y
      let base := max (s.tb f.tb).time ((f.picks s).start m + 100000 * nsUnit)
      let s := s.setTx n fun x => { x with words := frame, expect := 0 }
      let r := shape s n base body.length
      let pkt : TxPkt := { since := r.2, media := (f.picks s).start m,
                           ts := m * (f.picks s).den * f.clock / (f.picks s).num % 2 ^ 32,
                           marker := w.tag / 2 ^ 34 % 2 = 1, payload := body, src := 1 }
      queuePacket r.1 n pkt

/-- A word that the design supplies on a port (R334); a full queue or a stopped port takes none. -/
def takeWord (s : State) (e i tag data : Nat) : State :=
  let p := 16 * e + i
  let w : EssWord := { tag := tag, data := data }
  let n := e * 4096 + bits tag 55 44
  if !essRuns s p ∨ !s.serving e ∨ 4096 ≤ heldWords s p then s
  else
    let s := s.count (essIdx p) 6 64 1
    let f := txFmt s n
    let media := if w.kind = 0x10 then (f.picks s).start (framePick w)
      else ((s.txFlow n).pick.map (f.picks s).start).getD (mediaOf s n (s.txFlow n).frame)
    let src := awaitedSource s n media
    if !txOn s n ∨ src.kind ≠ 1 ∨ src.port ≠ i ∨ (s.txFlow n).low.isNone then dropWord s p
    else if w.kind = 0x10 then if isAudio f.ess then s else openFrame s n p w
    else if w.kind = 1 ∧ f.ess = 0 then takeVideo s n p w
    else if w.kind = f.ess ∧ isAudio f.ess then takeAudio s n p w
    else if w.kind = 5 ∧ f.ess ≠ 0 ∧ !isAudio f.ess then takeOpaque s n p w
    else dropWord s p

/-- An opaque frame with no FRAME word by its first departure is missing (R334). -/
def passPick (s : State) (n : Nat) : State :=
  let f := txFmt s n
  let x := s.txFlow n
  if (s.tb f.tb).time ≤ firstDeparture s n x.frame then s
  else
    let s := if (wordsFor x.words x.frame).isNone then missFrame s n 3 x.frame else s
    s.setTx n fun x => { x with frame := x.frame + 1 }

/-- The picks of an opaque flow whose first departure has passed (R334); seen as the flow is next looked at. -/
def passedPicks (s : State) (n : Nat) : State :=
  let f := txFmt s n
  let x := s.txFlow n
  if f.ess = 0 ∨ isAudio f.ess ∨ x.inForce.kind ≠ 1 ∨ x.low.isNone then s
  else (List.range ((f.picks s).holding (s.tb f.tb).time + 1 - x.frame)).foldl (fun s _ => passPick s n) s

/-! ### Takes (R345 to R353) -/

/-- The checks of R346 for a take of flow `n`. -/
def takeChecks (s : State) (n : Nat) (x : Source) : Option Nat :=
  if !txOn s n then some stFlowDisabled
  else if !s.serving (n / 4096) then some stEngineOut
  else if (s.txFlow n).inForce.kind = 5 ∨ x.kind = 5 then some stNotTakeable
  else sourceChecks s n x false

/-- A take on an essence other than audio that names an odd pick of an interlaced base moves to the next even one (R345). -/
def evenPick (s : State) (n m : Nat) : Nat :=
  let f := txFmt s n
  if (f.picks s).inter ∧ !isAudio f.ess ∧ m % 2 = 1 then m + 1 else m

/-- A marker of a take on an essence port (R353). -/
def takeMarker (s : State) (n kind port pick other : Nat) : State :=
  (sendWords s (n / 4096 * 16 + port) [essWord kind n 0 (pick % 2 ^ 64 * 2 ^ 448 + other % 256 * 2 ^ 440)]).1

/-- Write the source fields of a record (R345). -/
def writeSource (s : State) (idx first : Nat) (x : Source) : State :=
  ([x.kind, x.port, x.addr, x.size, x.ready, x.flow, x.lag, if x.rep then 1 else 0].mapIdx fun i v => (first + i, v)).foldl
    (fun s p => s.write (ent idx p.1) (.num p.2)) s

/-- A take is armed at its pick (R347 to R350): checks 4 and 5 again, then the source holds from the boundary. -/
def armTake (s : State) (n pick : Nat) (x : Source) : Done :=
  if !txOn s n then { s := s, status := stFlowDisabled }
  else if !(sourceAligned x && sourceValid s n x) then { s := s, status := stSourceInvalid }
  else if !formatAgrees s n x then { s := s, status := stFormatMismatch }
  else
    let old := (s.txFlow n).inForce
    let b := ((txFmt s n).picks s).start pick
    let s := if old = x then s
      else
        let first := firstFrom s n b
        let s := s.setTx n fun y =>
          { y with srcs := (b, x) :: (y.srcs.filter fun p => p.1 < b).take 7, slot := none,
                   frame := if built old then y.frame else first, k := if built old then y.k else 0 }
        let s := writeSource s (txIdx n) 0x24 x
        let s := s.put (txIdx n) 0x2D (peakOf s n x)
        let s := if x.kind = 1 then takeMarker s n 0x12 x.port pick old.kind else s
        let s := if old.kind = 1 then takeMarker s n 0x13 old.port pick x.kind else s
        quietTx s n
    { s := (s.count (txIdx n) 0x36 32 1).count (txEngIdx (n / 4096)) 3 64 1 }

/-- A take record (R345, R346): always for a pick of the flow's time base. -/
def takeRule (n : Nat) : Rule :=
  let key := ent (takeIdx n) 0
  { base := fun s => (txFmt s n).tb,
    check := fun s _ v => (takeChecks s n (takeSource key v)).map fun st => (st, 0),
    judge := fun s _ _ => if (s.tb (txFmt s n).tb).armed then none else refuse s stNotReady 1,
    pick := fun s _ => some (evenPick s n (nextPickOf s (txFmt s n).tb)),
    apply := fun s _ _ v => armTake s n (s.pick (txFmt s n).tb) (takeSource key v),
    adjust := fun s m => evenPick s n m,
    onAccept := fun s v => writeSource s (takeIdx n) 1 (takeSource key v) }

/-- The record write that a write of one field of a take record stands for (log entry 18). -/
def takeRedirect (s : State) (key : Nat) (v : Val) : Nat × Val :=
  let idx := key / 256
  let sub := key % 256
  if 0x074000 ≤ idx ∧ idx ≤ 0x07BFFF ∧ 1 ≤ sub ∧ sub ≤ 8 then
    (ent idx 0, .oct ((recordFields (ent idx 0)).mapIdx (fun i f =>
      encVal f.ty (if i + 1 = sub then v else s.val (ent idx (i + 1))))).flatten)
  else (key, v)

/-! ### Rows -/

/-- TX_FLOW_ENABLE (R330). -/
def execTxFlowEnable (r : Req) (e : Fin 8) (f : Fin 4096) (s : State) : Out :=
  .next (submit s r (ent (txIdx (e * 4096 + f)) 1) (.num 1) (txFlowRule (e * 4096 + f) 1))

/-- TX_FLOW_DISABLE (R330). -/
def execTxFlowDisable (r : Req) (e : Fin 8) (f : Fin 4096) (s : State) : Out :=
  .next (submit s r (ent (txIdx (e * 4096 + f)) 1) (.num 0) (txFlowRule (e * 4096 + f) 1))

/-- TRANSMIT_ESSENCE_WORD (R334). -/
def execTransmitEssenceWord (e : Fin 8) (i : Fin 16) (tag : BitVec 64) (data : BitVec 512) (s : State) : Out :=
  let s := passedPicks s (e * 4096 + bits tag.toNat 55 44)
  .next (takeWord s e i tag.toNat data.toNat)

/-- RING_SLOT_READ (R335). -/
def execRingSlotRead (e : Fin 8) (f : Fin 4096) (s : State) : Out := .next (ringRead s (e * 4096 + f))

/-- TX_DEPARTURE (R340). -/
def execTxDeparture (e : Fin 8) (f : Fin 4096) (s : State) : Out := .next (depart (passedPicks s (e * 4096 + f)) (e * 4096 + f))

/-- CLASS0_DISCARD_TIMEOUT (R343). -/
def execClass0DiscardTimeout (e : Fin 8) (f : Fin 4096) (s : State) : Out := .next (discardClass0 s (e * 4096 + f))

/-- TAKE (R345): `bytes` is the record's value. -/
def execTake (r : Req) (e : Fin 8) (f : Fin 4096) (bytes : List Byte) (s : State) : Out :=
  .next (submit s r (ent (takeIdx (e * 4096 + f)) 0) (.oct bytes) (takeRule (e * 4096 + f)))

end Sys2Proof.Machine
end

