-- ==== Sys2Proof/Machine/Rx.lean ====
section
/-! DEFINITION. Stream engines, receiving: frames to flows, merging, release, legs, stores (R300 to R328). -/

namespace Sys2Proof.Machine

/-- Engine state of an enabled receive flow; disabled flows are not listed. -/
def State.rxFlow (s : State) (n : Nat) : RxFlow := tgetD s.rx.flows n {}

/-- Whether a receive flow is enabled. -/
def rxOn (s : State) (n : Nat) : Bool := (tget s.rx.flows n).isSome

/-- Change an enabled receive flow. -/
def State.setRx (s : State) (n : Nat) (f : RxFlow → RxFlow) : State :=
  match tget s.rx.flows n with
  | some x => { s with rx := { s.rx with flows := tput s.rx.flows n (f x) } }
  | none => s

/-- Receive flow states (R306). -/
def rxDisabled : Nat := 0
def rxWaiting : Nat := 1
def rxFilling : Nat := 2
def rxPlays : Nat := 3
def rxStarved : Nat := 4

/-- STATE of a receive flow. -/
def rxState (s : State) (n : Nat) : Nat := s.num (rxIdx n) 2

/-- A receive flow changes state; flows that it feeds follow (R336). -/
def putRxState (s : State) (n st : Nat) : State := rxChanged (s.put (rxIdx n) 2 st) n

/-- The time base of a receive flow. -/
def rxTb (s : State) (n : Nat) : TimeBase := s.tb (s.num (rxIdx n) 4)

/-! ### Enable checks (R304, R307) -/

/-- The key of a leg: sub-port, VLAN, destination address and port. -/
def legKey (s : State) (n : Nat) (b : Bool) : Nat × Nat × List Byte × Nat :=
  let g := fun i => if b then i + 4 else i
  let idx := rxIdx n
  (s.num idx (g 6), s.num idx (g 7), s.oct idx (g 8), s.num idx (g 9))

/-- The legs of a receive flow in use. -/
def rxLegs (s : State) (n : Nat) : List Bool := if s.num (rxIdx n) 5 = 1 then [false, true] else [false]

/-- The keys of a receive flow. -/
def rxKeys (s : State) (n : Nat) : List (Nat × Nat × List Byte × Nat) := (rxLegs s n).map (legKey s n)

/-- Whether the conditions of two flows exclude each other (R304). -/
def disjointFlows (s : State) (n m : Nat) : Bool :=
  let a := s.num (rxIdx n)
  let b := s.num (rxIdx m)
  (a 0x0F == 1 && b 0x0F == 1 && a 0x0E != b 0x0E) || (a 0x10 != 255 && b 0x10 != 255 && a 0x10 != b 0x10)

/-- Fields of one leg (R306). -/
def rxLegOk (s : State) (n : Nat) (b : Bool) : Bool :=
  let k := legKey s n b
  k.1 < 176 && (k.2.1 ≤ 4094 || k.2.1 == 0xFFFF) && (k.2.2.1.length == 4 || k.2.2.1.length == 16) && 1 ≤ k.2.2.2

/-- Step 1 of R307. -/
def rxFieldsOk (s : State) (n : Nat) : Bool :=
  let g := s.num (rxIdx n)
  (rxFmt s n).ok && (rxLegs s n).all (rxLegOk s n) && (g 0x10 ≤ 127 || g 0x10 == 255) && 1 ≤ g 0x12 && g 0x13 % 4096 == 0
    && g 0x14 % 4096 == 0 && 65536 ≤ g 0x14 && g 0x18 % 4096 == 0 && g 0x19 % 4096 == 0
    && (g 0x1A == 0xFFFF || (g 0x1A / 2 ^ 14 == 0 && g 0x1A / 4 % 64 == 0))

/-- BUF_MIN (R317). -/
def bufMin (peak d : Nat) : Nat := ceilDiv (peak * (d + 1000) * 5) 32000

/-- Whether a flow's buffer lies in LPDDR4X. -/
def rxDram (s : State) (n : Nat) : Bool := whereIs s (n / 4096) (s.num (rxIdx n) 0x13) (s.num (rxIdx n) 0x14) == .dram

/-- Step 4 of R307: the buffer meets R317 and the store R324. -/
def buffersOk (s : State) (n : Nat) : Bool :=
  let g := s.num (rxIdx n)
  let e := n / 4096
  let w := whereIs s e (g 0x13) (g 0x14)
  let f := rxFmt s n
  (w == .dram || w == .archive (e / 2)) && bufMin (g 0x12) (g 0x11) ≤ g 0x14
    && (g 0x16 / 2 % 2 == 0 || (whereIs s e (g 0x18) (g 0x19) != .other
      && (if f.ess = 0 then 2 * f.slotBytes s ≤ g 0x19 else 65536 ≤ g 0x19)))

/-- Receive essence rate committed on a port in b/s (R322, R326). -/
def rxEssCommitted (s : State) (p : Nat) : Nat :=
  total ((s.rx.flows.filter fun x => s.num (rxIdx x.1) 0x16 % 2 = 1 ∧ x.1 / 4096 * 16 + s.num (rxIdx x.1) 0x17 = p).map
    fun x => essenceRate s (rxFmt s x.1) (s.num (rxIdx x.1) 0x12))

/-- Enabled DRAM-buffered flows of an engine (R307, R326). -/
def dramFlows (s : State) (e : Nat) : Nat := (s.rx.flows.filter fun x => x.1 / 4096 = e ∧ rxDram s x.1).length

/-- The receive enable checks (R307, R331), on the record as written. -/
def rxChecks (n : Nat) (s : State) : Option Nat :=
  let e := n / 4096
  let g := s.num (rxIdx n)
  let p := e * 16 + g 0x17
  if !s.serving e then some stEngineOut
  else if !rxFieldsOk s n then some stTypeMismatch
  else if (rxLegs s n).any fun b => s.boundTo (legKey s n b).1 ≠ e then some stNotBound
  else if ((rxLegs s n).length = 2 ∧ legKey s n false = legKey s n true)
      ∨ s.rx.flows.any fun x => x.1 / 4096 == e && !disjointFlows s n x.1 && (rxKeys s x.1).any fun k => (rxKeys s n).contains k then
    some stFlowConflict
  else if !buffersOk s n then some stBufferTooSmall
  else if rxDram s n ∧ 128 ≤ dramFlows s e then some stDramFlowLimit
  else if nocAllowance < nocCharged s e + rxNoc s n then some stNocBudget
  else if g 0x16 % 2 = 1 ∧ essCapacity s p < rxEssCommitted s p + essenceRate s (rxFmt s n) (g 0x12) then some stEssenceCapacity
  else none

/-! ### Starting and stopping (R307, R313, R314) -/

/-- Enable a receive flow whose checks have passed (R307): counters cleared, legs SILENT, WAITING. -/
def enableRx (n : Nat) (s : State) : State :=
  let idx := rxIdx n
  let s := (List.range 18).foldl (fun s i => s.put idx (0x22 + i) (if i = 3 ∨ i = 4 then 0x7FFFFFFF else 0)) s
  let leg : Leg := { gapAt := s.now }
  let x : RxFlow := { legA := leg, legB := leg }
  putRxState { s with rx := { s.rx with flows := tput s.rx.flows n x } } n rxWaiting

/-- Send the END marker of a flow whose DEST includes the essence port (R321). -/
def sendEnd (s : State) (n cause : Nat) : State :=
  let g := s.num (rxIdx n)
  if g 0x16 % 2 = 1 then (sendWords s (n / 4096 * 16 + g 0x17) [essWord 0x11 n 0 (cause * 2 ^ 504)]).1 else s

/-- Bytes a packet occupies in its buffer (R317). -/
def bufferedBytes (p : RxPkt) : Nat := 64 + ceilDiv p.payload.length 64 * 64

/-- Change the staging in use of an engine; the highest use is kept (R319, R326). -/
def setStaging (s : State) (e v : Nat) : State :=
  let s := { s with rx := { s.rx with staging := s.rx.staging.set e v } }
  s.put (engIdx e) 0x0D (max (s.num (engIdx e) 0x0D) v)

/-- Discard a flow's buffer. -/
def dropBuffer (s : State) (n : Nat) : State :=
  let e := n / 4096
  let ahead := if rxDram s n then total (((s.rxFlow n).buf.filter (·.back)).map bufferedBytes) else 0
  let s := if ahead = 0 then s else setStaging s e (s.rx.staging.getD e 0 - ahead)
  s.setRx n fun x => { x with buf := [], used := 0, missed := [], refusedRun := 0, gapFlag := false, lastTs := none, lostSince := 0,
                              arrA := [], arrB := [] }

/-- Stop a receive flow (R307): END with cause 0, buffer discarded, DISABLED. -/
def stopRx (s : State) (n : Nat) : State :=
  let s := dropBuffer (sendEnd s n 0) n
  let s := { s with rx := { s.rx with flows := tdel s.rx.flows n } }
  putRxState (s.write (ent (rxIdx n) 1) (.num 0)) n rxDisabled

/-- The range of a field of a receive flow record beyond its bounds (R306). -/
def rxFieldOk (sub : Nat) (v : Val) : Bool :=
  let x := valNum v
  match sub with
  | 0x06 | 0x0A => x < 176 || x == 255
  | 0x07 | 0x0B => x ≤ 4094 || x == 0xFFFF
  | 0x08 | 0x0C => [0, 4, 16].contains (valBytes v).length
  | 0x10 => x ≤ 127 || x == 255
  | 0x13 | 0x18 | 0x19 => x % 4096 == 0
  | 0x14 => x % 4096 == 0 && (x == 0 || 65536 ≤ x)
  | 0x1A => x == 0xFFFF || (x / 2 ^ 14 == 0 && x / 4 % 64 == 0)
  | 0x1C | 0x1D => x % 2 == 0
  | 0x1F => [8, 10, 12, 16, 24].contains x
  | _ => true

/-- The rule of a receive flow record (R307). -/
def rxFlowRule (n sub : Nat) : Rule := flowRule (rxIdx n) sub rxFieldOk (rxChecks n) (enableRx n) fun s => stopRx s n

/-- The last sequence number before NEXT_SEQ. -/
def lastSeq (s : State) (n : Nat) : Nat := ((s.rxFlow n).next + 2 ^ 32 - 1) % 2 ^ 32

/-- Leg states are not kept (R314). -/
def forgetLegs (s : State) (n : Nat) : State :=
  let leg : Leg := { gapAt := s.now }
  ((s.put (rxIdx n) 0x22 0).put (rxIdx n) 0x23 0).setRx n fun x => { x with legA := leg, legB := leg }

/-- A time base is disarmed (R314). -/
def rxDisarm (s : State) (t : Nat) : State :=
  s.rx.flows.foldl (fun s x =>
    let n := x.1
    let st := rxState s n
    if s.num (rxIdx n) 4 ≠ t then s
    else if st < rxFilling then forgetLegs s n
    else
      let s := forgetLegs s n
      let last := lastSeq s n
      (putRxState (dropBuffer (sendEnd s n 3) n) n rxWaiting).raise 0x403 n (be 4 last)) s

/-! ### Panic (R319) -/

/-- Whether a DRAM-buffered flow of an engine has a packet due within `us` that has not been read back. -/
def shortAhead (s : State) (e us : Nat) : Bool :=
  s.rx.flows.any fun x => x.1 / 4096 == e && rxDram s x.1
    && x.2.buf.any fun p => !p.back && p.rel < (rxTb s x.1).time + us * 1000 * nsUnit

/-- Judge the panic state of an engine (R319): event 420h at each change. -/
def judgePanic (s : State) (e : Nat) : State :=
  let use := s.rx.staging.getD e 0
  let on := s.flag (engIdx e) 0x0E
  if !on ∧ (1048576 < use ∨ shortAhead s e 100) then
    ((s.put (engIdx e) 0x0E 1).count (engIdx e) 0x0F 32 1).raise 0x420 e (be 1 1 ++ be 4 use)
  else if on ∧ use < 524288 ∧ !shortAhead s e 200 then (s.put (engIdx e) 0x0E 0).raise 0x420 e (be 1 0 ++ be 4 use)
  else s

/-! ### Exceptions (R305) -/

/-- The record of an exception frame. -/
def exceptionRecord (s : State) (u : Nat) (b : List Byte) : List Byte :=
  be 1 u ++ be 1 (if 256 < b.length then 128 else 0) ++ be 2 b.length ++ encTime (s.tb s.rulingTb).ns ++ List.replicate 16 0
    ++ (b.take 256 ++ List.replicate (256 - b.length) 0)

/-- An exception frame (R305): counted, and in mode 1 copied into the ring, at most 1,000,000 in a second. -/
def takeException (s : State) (e u : Nat) (b : List Byte) : State :=
  let idx := engIdx e
  let s := s.count idx 8 64 1
  let recent := (s.rx.excAt.getD e []).filter fun t => s.now - t < second
  let slots := s.num idx 0x0B / 288
  if s.num idx 9 ≠ 1 ∨ slots = 0 ∨ 1000000 ≤ recent.length then s
  else
    let s := { s with rx := { s.rx with excAt := s.rx.excAt.set e (recent ++ [s.now]) } }
    let s := engineWrite s e (s.num idx 0x0A + s.num idx 0x0C % slots * 288) (exceptionRecord s u b) true
    s.count idx 0x0C 64 1

/-- Whether an address lies in the archive of an engine's bolt. -/
def ownArchive (e a : Nat) : Bool := match placeOf a with
  | some (.archive b _) => b == e / 2
  | _ => false

/-- EXCEPT_BASE (R326): a multiple of 64 in the archive of the engine's bolt; 0 is the default. -/
def exceptRule (e sub : Nat) : Rule :=
  { plainRule (ent (engIdx e) sub) with
    check := fun _ _ v =>
      if sub = 0x0A ∧ valNum v ≠ 0 ∧ !(valNum v % 64 == 0 && ownArchive e (valNum v)) then some (stTypeMismatch, 0) else none }

/-! ### Legs (R315, R316) -/

/-- A packet accepted on a leg, at a time and with its margin. -/
def Leg.hear (g : Leg) (now : Nat) (margin : Int) : Leg :=
  { g with lastAt := now, heard := true, upSince := if !g.heard ∨ g.gap < now - g.lastAt then now else g.upSince,
           gapCur := if g.heard then max g.gapCur (now - g.lastAt) else g.gapCur,
           least := some (match g.least with | some m => min m margin | none => margin) }

/-- A leg of a flow. -/
def RxFlow.leg (x : RxFlow) (b : Bool) : Leg := if b then x.legB else x.legA

/-- Change a leg of a flow. -/
def RxFlow.setLeg (x : RxFlow) (b : Bool) (f : Leg → Leg) : RxFlow :=
  if b then { x with legB := f x.legB } else { x with legA := f x.legA }

/-- A_STATE or B_STATE. -/
def legState (s : State) (n : Nat) (b : Bool) : Nat := s.num (rxIdx n) (if b then 0x23 else 0x22)

/-- A leg changes state (R315): event 410h, at most 16 times per second for each flow. -/
def putLeg (s : State) (n : Nat) (b : Bool) (st : Nat) : State :=
  (s.put (rxIdx n) (if b then 0x23 else 0x22) st).raiseAtMost 16 0x410 n
    fun _ => be 1 (if b then 1 else 0) ++ be 1 st ++ be 4 (s.num (rxIdx n) 0x24)

/-- The arrival of a number on a leg (R315): SKEW over the last 1,024 numbers received on both. -/
def noteSkew (s : State) (n : Nat) (b : Bool) (seq : Nat) : State :=
  let x := s.rxFlow n
  match tget (if b then x.arrA else x.arrB) seq with
  | none =>
    s.setRx n fun x => if b then { x with arrB := (tput x.arrB seq s.now).filter fun p => (seq + 65536 - p.1) % 2 ^ 32 ≤ 131072 }
      else { x with arrA := (tput x.arrA seq s.now).filter fun p => (seq + 65536 - p.1) % 2 ^ 32 ≤ 131072 }
  | some t =>
    let d : Int := if b then (s.now : Int) - t else (t : Int) - s.now
    let seen := (x.seen ++ [(seq, d)]).drop (x.seen.length - 1023)
    let sum := (seen.map (·.2)).foldl (· + ·) 0
    let s := s.setRx n fun x => { x with seen := seen, arrA := tdel x.arrA seq, arrB := tdel x.arrB seq }
    s.put (rxIdx n) 0x24 (wrap 32 (sum / seen.length))

/-! ### Accepting a packet (R308 to R313) -/

/-- The extended sequence number nearest to NEXT_SEQ that agrees with 16 received bits; of two, the lower (R308). -/
def extendSeq (next seq : Nat) : Nat :=
  let d := (seq + 2 ^ 32 - next % 65536) % 65536
  if d < 32768 then (next + d) % 2 ^ 32 else (next + d + 2 ^ 32 - 65536) % 2 ^ 32

/-- t(TS) and the release time of a packet (R309), as counts: the first at or after each. -/
def releaseTimes (s : State) (n : Nat) (r : Rtp) : Nat × Nat :=
  let f := rxFmt s n
  let p := f.picks s
  let ticks := mediaTicks (rxTb s n).time f.clock r.ts
  let d := s.num (rxIdx n) 0x11
  let media := mediaAt f.clock ticks
  if f.ess = 0 then
    let row := fieldBE r.payload 4 2 % 0x8000
    let px := fieldBE r.payload 6 2 % 0x8000
    let wl := f.w * f.lines s
    let den := f.clock * 1000000 * wl * p.num
    let num := ticks * 1000000 * wl * p.num + d * f.clock * wl * p.num + (row * f.w + px) * p.den * f.clock * 1000000
    (media, ceilDiv (num * 1000000000 * nsUnit) den)
  else (media, media + d * 1000 * nsUnit)

/-- The distance of a number above NEXT_SEQ. -/
def RxFlow.above (x : RxFlow) (seq : Nat) : Nat := (seq + 2 ^ 32 - x.next) % 2 ^ 32

/-- Put a packet into a buffer in order of sequence number. -/
def bufferIn (x : RxFlow) (p : RxPkt) : List RxPkt :=
  x.buf.takeWhile (fun q => x.above q.seq < x.above p.seq) ++ [p] ++ x.buf.dropWhile (fun q => x.above q.seq < x.above p.seq)

/-- Buffer a first copy (R310). -/
def bufferPacket (s : State) (n : Nat) (p : RxPkt) : State :=
  let idx := rxIdx n
  let x := s.rxFlow n
  let s := s.count idx 0x29 64 1
  let s := if x.buf.any fun q => x.above p.seq < x.above q.seq then s.count idx 0x2D 64 1 else s
  let used := x.used + bufferedBytes p
  let s := s.setRx n fun x => { x with buf := bufferIn x p, used := used, refusedRun := 0 }
  s.put idx 0x31 (max (s.num idx 0x31) used)

/-- Begin from an anchor (R308, R312, R313): NEXT_SEQ is its number, it is buffered, and the flow fills. -/
def anchor (s : State) (n : Nat) (p : RxPkt) : State :=
  let s := s.setRx n fun x => { x with next := p.seq, relLow := p.seq, missed := [], refusedRun := 0 }
  putRxState (bufferPacket (s.put (rxIdx n) 0x33 p.seq) n p) n rxFilling

/-- A packet outside the window (R310, R312): the 64th in a row becomes the anchor of a resynchronisation. -/
def refuseOutside (s : State) (n : Nat) (p : RxPkt) (start : Nat) : State :=
  let x := s.rxFlow n
  let s := s.count (rxIdx n) 0x2E 64 1
  if x.refusedRun + 1 < 64 then s.setRx n fun x => { x with refusedRun := x.refusedRun + 1 }
  else
    let s := (dropBuffer s n)
    let s := anchor (sendEnd s n 2) n { p with seq := start }
    (s.count (rxIdx n) 0x32 32 1).raise 0x402 n (be 4 x.next ++ be 4 start)

/-- Staging that DRAM-buffered flows may use: 2 MiB less the reserve (R319). -/
def dramStaging : Nat := 2097152 - 524288

/-- A packet of a filling or playing flow (R310). -/
def mergePacket (s : State) (n : Nat) (p : RxPkt) (start : Nat) : State :=
  let idx := rxIdx n
  let x := s.rxFlow n
  let e := n / 4096
  let back := (x.next + 2 ^ 32 - p.seq) % 2 ^ 32
  let released := 0 < back ∧ back ≤ (x.next + 2 ^ 32 - x.relLow) % 2 ^ 32
  let ended := fun (s : State) => s.setRx n fun x => { x with refusedRun := 0 }
  if (x.buf.any fun q => q.seq = p.seq) ∨ (released ∧ !x.missed.contains p.seq) then
    (ended s).count idx 0x2A 64 1
  else if p.rel + (rxTb s n).rate ≤ (rxTb s n).time ∧ (x.above p.seq < 32768 ∨ x.missed.contains p.seq) then
    (ended s).count idx 0x2C 64 1
  else if 32768 ≤ x.above p.seq then refuseOutside s n p start
  else if s.num idx 0x14 < x.used + bufferedBytes p then (ended s).count idx 0x2E 64 1
  else if rxDram s n ∧ dramStaging < s.rx.staging.getD e 0 + bufferedBytes p then
    ((ended s).count (engIdx e) 0x10 64 1).raiseAtMost 1 0x421 e (fun c => be 4 c)
  else bufferPacket s n p

/-- A packet accepted for a leg (R303, R308 to R316). -/
def acceptPacket (s : State) (n : Nat) (b : Bool) (r : Rtp) : State :=
  let idx := rxIdx n
  let tb := rxTb s n
  if !tb.armed then s.count idx 0x2E 64 1
  else
    let t := releaseTimes s n r
    let s := s.count idx (if b then 0x28 else 0x27) 64 1
    let s := s.setRx n fun x => { (x.setLeg b fun g => g.hear s.now ((t.2 : Int) - tb.time)) with lastAt := s.now }
    let x := s.rxFlow n
    let video := s.num idx 3 = 0
    let start := if video then fieldBE r.payload 0 2 * 65536 + r.seq else r.seq
    let fresh := rxState s n = rxWaiting ∨ rxState s n = rxStarved
    let seq := if video ∨ fresh then start else extendSeq x.next r.seq
    let p : RxPkt := { seq := seq, ts := r.ts, media := t.1, rel := t.2, leg := if b then 1 else 0, arrived := tb.time,
                       marker := r.marker, payload := r.payload, line := fieldBE r.payload 4 2 % 0x8000,
                       pixel := fieldBE r.payload 6 2 % 0x8000, field := fieldBE r.payload 4 2 / 0x8000 == 1, back := !rxDram s n }
    let s := if s.num idx 5 = 1 then noteSkew s n b seq else s
    if fresh then anchor s n p else mergePacket s n p start

/-- The conditions of a flow on a packet (R303 step 6). -/
def rtpMatches (s : State) (n : Nat) (r : Rtp) : Bool :=
  let g := s.num (rxIdx n)
  (g 0x0F == 0 || g 0x0E == r.ssrc) && (g 0x10 == 255 || g 0x10 == r.pt)

/-- Steps 5 and 6 of R303. -/
def classify (s : State) (e u : Nat) (frame : List Byte) (vlan : Nat) (dst : List Byte) (port : Nat) (body : List Byte) : State :=
  let key := (u, vlan, dst, port)
  let hits := s.rx.flows.filter fun x => x.1 / 4096 == e && (rxKeys s x.1).contains key
  if hits.isEmpty then takeException s e u frame
  else
    match parseRtp body with
    | none => hits.foldl (fun s x => s.count (rxIdx x.1) 0x2F 64 1) s
    | some r =>
      match hits.find? fun x => rtpMatches s x.1 r with
      | none => hits.foldl (fun s x => s.count (rxIdx x.1) 0x2F 64 1) s
      | some x => acceptPacket s x.1 (legKey s x.1 false != key) r

/-- A frame that failed the MAC's FCS check is counted and goes no further (R298, R303). -/
def badFrame (s : State) (u : Nat) : State :=
  if !subPasses s u ∨ !(s.lanesRun || 176 ≤ u) then s else s.count (subIdx u) 8 64 1

/-- A frame, without its FCS, that passed the FCS check of a sub-port (R301, R303, R356). -/
def takeFrame (s : State) (u : Nat) (b : List Byte) : State :=
  if !subPasses s u ∨ !(s.lanesRun || 176 ≤ u) then s
  else
    let s := (stampFrame s u false b).count (subIdx u) 6 64 1
    let s := s.count (subIdx u) 7 64 (b.length + 4)
    if 176 ≤ u then mgtFrame s (u - 176) b
    else
      let e := s.boundTo u
      if 7 < e ∨ !s.serving e then s.count (bindIdx u) 2 64 1
      else
        let s := s.count (engIdx e) 6 64 1
        let s := match judgeFrame b with
          | .exception => takeException s e u b
          | .headerError => s.count (engIdx e) 7 64 1
          | .udp vlan dst port body => classify s e u b vlan dst port body
        judgePanic s e

/-! ### Release (R311, R313, R321, R323 to R325, R336) -/

/-- Numbers from NEXT_SEQ up to a number are declared lost where they are missing (R311). -/
def declareLost (s : State) (n seq : Nat) : State :=
  let k := (s.rxFlow n).above seq
  if k = 0 then s
  else
    (s.count (rxIdx n) 0x2B 64 k).setRx n fun x =>
      { x with gapFlag := true, lostSince := x.lostSince + k,
               missed := (x.missed ++ (List.range k).map fun i => (x.next + i) % 2 ^ 32).drop (x.missed.length + k - 32768) }

/-- The FRAME marker of a new timestamp (R321). -/
def sendFrame (s : State) (n : Nat) (p : RxPkt) : State :=
  let idx := rxIdx n
  let x := s.rxFlow n
  let ns := p.media / nsUnit
  let data := ns / 1000000000 * 2 ^ 448 + ns % 1000000000 * 2 ^ 416 + p.ts * 2 ^ 384
    + ((rxFmt s n).picks s).holding p.media % 2 ^ 64 * 2 ^ 320 + x.lostSince % 2 ^ 32 * 2 ^ 288 + s.num idx 0x11 * 2 ^ 256
  let r := sendWords s (n / 4096 * 16 + s.num idx 0x17) [essWord 0x10 n 0 data]
  if r.2 then r.1.setRx n fun x => { x with lostSince := 0 } else r.1

/-- The essence port takes the words of a packet, or drops it whole (R321, R323). -/
def toEssence (s : State) (n : Nat) (p : RxPkt) : State :=
  let f := rxFmt s n
  let x := s.rxFlow n
  let s := if !isAudio f.ess && x.lastTs != some p.ts then sendFrame s n p else s
  let r := sendWords s (n / 4096 * 16 + s.num (rxIdx n) 0x17) (packetWords f n p x.gapFlag)
  if r.2 then r.1.setRx n fun x => { x with gapFlag := false }
  else (r.1.count (rxIdx n) 0x30 64 1).setRx n fun x => { x with gapFlag := true }

/-- Write the samples of a row from lane `i` of its line on (R324); `fin` marks the packet's last row. -/
def storeLanes (f : Fmt) (e line : Nat) (fin : Bool) : Nat → Nat → List Nat → State → State
  | 0, _, _, s => s
  | fuel + 1, i, xs, s =>
    if xs.isEmpty then s
    else
      let k := f.lanes - i % f.lanes
      let b := (xs.take k).flatMap fun x => be 2 x
      storeLanes f e line fin fuel (i + k) (xs.drop k)
        (engineWrite s e (line + i / f.lanes * 64 + i % f.lanes * 2) b (fin && (xs.drop k).isEmpty))

/-- Write a video packet into its frame slot (R324). Rows and samples outside the picture are left out (DESIGN CHOICE, log entry
28: the spec does not say what a packet with them does). -/
def storeVideo (s : State) (n : Nat) (p : RxPkt) : State :=
  let f := rxFmt s n
  let g := s.num (rxIdx n)
  let slot := (f.picks s).holding p.media % (g 0x19 / f.slotBytes s)
  let base := g 0x18 + slot * f.slotBytes s
  let rows := videoRows f p.payload
  (rows.mapIdx fun k r => (k, r)).foldl (fun s kr =>
    let r := kr.2
    let i := r.2.2.1 * f.perPixel
    let xs := r.2.2.2.take (f.w * f.perPixel - i)
    if f.lines s ≤ r.2.1 then s
    else storeLanes f (n / 4096) (base + r.2.1 * f.lineWords * 64) (kr.1 + 1 == rows.length) (xs.length + 1) i xs s) s

/-- Write a record of the byte ring (R324): head with the tag of the first word, TS and payload length, then the payload. -/
def storeRecord (s : State) (n : Nat) (p : RxPkt) : State :=
  let g := s.num (rxIdx n)
  let tag := ((packetWords (rxFmt s n) n p (s.rxFlow n).gapFlag).head?.map (·.tag)).getD 0
  let b := be 8 tag ++ be 4 p.ts ++ be 4 p.payload.length ++ List.replicate 48 0 ++ p.payload
    ++ List.replicate (ceilDiv p.payload.length 64 * 64 - p.payload.length) 0
  let at_ := (s.rxFlow n).stored
  let s := ((cut 64 b).mapIdx fun i c => (i, c)).foldl (fun s c => engineWrite s (n / 4096) (g 0x18 + (at_ + 64 * c.1) % g 0x19) c.2
    (64 * (c.1 + 1) == b.length)) s
  s.setRx n fun x => { x with stored := x.stored + b.length }

/-- The store destination (R324); NOTIFY falls due with the last packet of a timestamp. -/
def toStore (s : State) (n : Nat) (p : RxPkt) : State :=
  let ess := s.num (rxIdx n) 3
  let x := s.rxFlow n
  let s := if ess = 0 then storeVideo s n p else storeRecord s n p
  let last := p.marker || isAudio ess
  let before := !x.marked && x.lastTs != some p.ts
  s.setRx n fun y => { y with noteDue := y.noteDue || last || before, marked := last }

/-- A released packet as a transmit flow carries it (R325, R336). -/
def relayed (s : State) (n m kind : Nat) (p : RxPkt) : TxPkt :=
  { since := (s.tb (txFmt s m).tb).time, media := p.media, ts := p.ts, marker := p.marker,
    payload := if s.num (rxIdx n) 3 = 0 then p.payload.drop 2 else p.payload, src := kind }

/-- The hairpin destination (R325, R336). -/
def toHairpin (s : State) (n : Nat) (p : RxPkt) : State :=
  let m := n / 4096 * 4096 + s.num (rxIdx n) 0x1B
  if txOn s m ∧ (s.txFlow m).inForce.kind = 5 then queuePacket s m (relayed s n m 5 p)
  else s.count (txEngIdx (n / 4096)) 4 64 1

/-- Transmit flows of kind 4 take the packet, one for one (R336, R348). -/
def toTakers (s : State) (n : Nat) (p : RxPkt) : State :=
  s.tx.flows.foldl (fun s x =>
    let src := x.2.sourceAt p.media
    if src.kind = 4 ∧ src.rx = n then queuePacket s x.1 (relayed s n x.1 4 p) else s) s

/-- The packet goes to its destinations (R311, R321, R324, R325). -/
def deliver (s : State) (n : Nat) (p : RxPkt) : State :=
  let dest := s.num (rxIdx n) 0x16
  let s := if dest % 2 = 1 then toEssence s n p else s
  let s := if dest / 2 % 2 = 1 then toStore s n p else s
  let s := if dest / 4 % 2 = 1 then toHairpin s n p else s
  (toTakers s n p).setRx n fun x => { x with lastTs := some p.ts }

/-- The first release of a filling flow (R313): PLAYING, event 400h. -/
def beginPlaying (s : State) (n seq : Nat) : State :=
  if rxState s n = rxFilling then
    (putRxState s n rxPlays).raise 0x400 n (be 4 seq ++ be 8 (s.pick (s.num (rxIdx n) 4)))
  else s

/-- The lowest buffered packet's release time has come (R311, R319, R320). -/
def releasePacket (s : State) (n : Nat) : State :=
  match (s.rxFlow n).buf with
  | [] => s
  | p :: rest =>
    let e := n / 4096
    if !(rxTb s n).armed ∨ !s.serving e then s
    else
      let s := s.waitTb (s.num (rxIdx n) 4) p.rel
      let s := declareLost s n p.seq
      let next := (p.seq + 1) % 2 ^ 32
      let s := s.setRx n fun x => { x with buf := rest, used := x.used - bufferedBytes p, next := next }
      let s := s.put (rxIdx n) 0x33 next
      let s := if rxDram s n ∧ p.back then setStaging s e (s.rx.staging.getD e 0 - bufferedBytes p) else s
      let s := beginPlaying s n p.seq
      let s := if p.back then deliver s n p
        else
          let s := (s.count (rxIdx n) 0x2B 64 1).setRx n fun x => { x with gapFlag := true, lostSince := x.lostSince + 1 }
          (s.count (engIdx e) 0x11 64 1).raiseAtMost 1 0x422 e (fun c => be 4 c)
      judgePanic s e

/-- No packet for STARVE (R313): END with cause 1, buffer discarded, event 401h. -/
def starve (s : State) (n : Nat) : State :=
  if rxState s n ≠ rxPlays then s
  else
    let s := s.waitUntil ((s.rxFlow n).lastAt + s.num (rxIdx n) 0x15 * 1000)
    let last := lastSeq s n
    (putRxState (dropBuffer (sendEnd s n 1) n) n rxStarved).raise 0x401 n (be 4 last)

/-- No packet on a leg for MAX_GAP (R315): DOWN. -/
def legSilent (s : State) (n : Nat) (b : Bool) : State :=
  let g := (s.rxFlow n).leg b
  if !rxOn s n ∨ !g.heard ∨ legState s n b = 2 ∨ (b ∧ s.num (rxIdx n) 5 = 0) then s
  else putLeg (s.waitUntil (g.lastAt + g.gap)) n b 2

/-- 10 ms of packets without a silence (R315): UP. -/
def legComesUp (s : State) (n : Nat) (b : Bool) : State :=
  let g := (s.rxFlow n).leg b
  if !rxOn s n ∨ !g.heard ∨ legState s n b = 1 ∨ (b ∧ s.num (rxIdx n) 5 = 0) then s
  else
    let t := s.waitUntil (g.upSince + tenMs)
    if g.gap < t.now - g.lastAt then s else putLeg t n b 1

/-- A leg at the end of a second (R315, R316): margin published, MAX_GAP renewed once it has been UP for 1 s. -/
def endSecond (s : State) (n : Nat) (b : Bool) : State :=
  let g := (s.rxFlow n).leg b
  let us : Int := match g.least with
    | some m => m / (1000 * nsUnit)
    | none => 0x7FFFFFFF
  let us := max (-0x80000000) (min 0x7FFFFFFF us)
  let s := s.put (rxIdx n) (if b then 0x26 else 0x25) (wrap 32 us)
  let long := legState s n b = 1 ∧ g.upSince + tenMs + second ≤ s.now ∧ 0 < g.gapCur
  let s := s.setRx n fun x => x.setLeg b fun g =>
    { g with least := none, gapAt := s.now, gapCur := 0, gap := if long then g.gapCur else if legState s n b = 1 then g.gap else 1000000 }
  if us < 0 then s.raise 0x411 n (be 1 (if b then 1 else 0) ++ be 4 (wrap 32 us)) else s

/-- A second of a flow ends (R316). -/
def marginSecond (s : State) (n : Nat) : State :=
  if !rxOn s n then s
  else (rxLegs s n).foldl (fun s b => endSecond s n b) (s.waitUntil ((s.rxFlow n).legA.gapAt + second))

/-- Read back the next packet of a DRAM-buffered flow, 400 µs before its release (R319). -/
def readAhead (s : State) (n : Nat) : State :=
  let e := n / 4096
  match (s.rxFlow n).buf.find? fun p => !p.back with
  | none => s
  | some p =>
    if !(rxTb s n).armed ∨ !s.serving e then s
    else
      let s := s.waitTb (s.num (rxIdx n) 4) (p.rel - 400000 * nsUnit)
      let use := s.rx.staging.getD e 0 + bufferedBytes p
      let reach := (targetOf s (engInit e) (s.num (rxIdx n) 0x13)).any fun t => s.ni t == niOnline
      let s := if reach && use ≤ dramStaging then
          (setStaging s e use).setRx n fun x => { x with buf := x.buf.map fun q => if q.seq = p.seq then { q with back := true } else q }
        else s
      judgePanic s e

/-- The last packet with a timestamp has been written (R324): the NOTIFY input of the named cluster. -/
def notifyStore (s : State) (n : Nat) : State :=
  if !(s.rxFlow n).noteDue then s
  else
    let v := s.num (rxIdx n) 0x1A
    let s := s.setRx n fun x => { x with noteDue := false }
    if v = 0xFFFF then s
    else
      let inputs := (List.range 8).map fun k => (8 * (v / 256 % 64) + k, v % 4)
      { s with mgmt := { s.mgmt with toShuttles := s.mgmt.toShuttles ++ inputs } }

/-- A word leaves an essence port (R321). -/
def takeEssence (s : State) (p : Nat) : State :=
  if !essRuns s p ∨ (s.essPort p).out.isEmpty then s
  else
    let x := s.essPort p
    ({ s with rx := { s.rx with ports := tput s.rx.ports p { x with out := x.out.drop 1 } } }).count (essIdx p) 3 64 1

/-! ### Rows -/

/-- SUBPORT_BINDING (R301). -/
def execSubportBinding (r : Req) (u : Fin 178) (v : Nat) (s : State) : Out :=
  .next (submit s r (ent (bindIdx u) 1) (.num v) (bindingRule u))

/-- RX_FRAME (R303). -/
def execRxFrame (u : Fin 178) (fcsOk : Bool) (bytes : List Byte) (s : State) : Out :=
  .next (if fcsOk then takeFrame s u bytes else badFrame s u)

/-- RX_FLOW_ENABLE (R307). -/
def execRxFlowEnable (r : Req) (e : Fin 8) (f : Fin 4096) (s : State) : Out :=
  .next (submit s r (ent (rxIdx (e * 4096 + f)) 1) (.num 1) (rxFlowRule (e * 4096 + f) 1))

/-- RX_FLOW_DISABLE (R307). -/
def execRxFlowDisable (r : Req) (e : Fin 8) (f : Fin 4096) (s : State) : Out :=
  .next (submit s r (ent (rxIdx (e * 4096 + f)) 1) (.num 0) (rxFlowRule (e * 4096 + f) 1))

/-- PACKET_RELEASE (R311). -/
def execPacketRelease (e : Fin 8) (f : Fin 4096) (s : State) : Out := .next (releasePacket s (e * 4096 + f))

/-- FLOW_STARVE (R313). -/
def execFlowStarve (e : Fin 8) (f : Fin 4096) (s : State) : Out := .next (starve s (e * 4096 + f))

/-- LEG_SILENCE (R315). -/
def execLegSilence (e : Fin 8) (f : Fin 4096) (legB : Bool) (s : State) : Out := .next (legSilent s (e * 4096 + f) legB)

/-- LEG_UP (R315). -/
def execLegUp (e : Fin 8) (f : Fin 4096) (legB : Bool) (s : State) : Out := .next (legComesUp s (e * 4096 + f) legB)

/-- MARGIN_SECOND_END (R316). -/
def execMarginSecondEnd (e : Fin 8) (f : Fin 4096) (s : State) : Out := .next (marginSecond s (e * 4096 + f))

/-- READ_AHEAD_START (R319). -/
def execReadAheadStart (e : Fin 8) (f : Fin 4096) (s : State) : Out := .next (readAhead s (e * 4096 + f))

/-- STORE_FRAME_WRITTEN (R324). -/
def execStoreFrameWritten (e : Fin 8) (f : Fin 4096) (s : State) : Out := .next (notifyStore s (e * 4096 + f))

/-- ESSENCE_WORD_TAKEN (R321). -/
def execEssenceWordTaken (e : Fin 8) (i : Fin 16) (s : State) : Out := .next (takeEssence s (16 * e + i))

end Sys2Proof.Machine
end

