-- ==== Sys2Proof/Machine/Service.lean ====
section
/-! DEFINITION. Stream engine service: removal, faults, shadow training, reinstatement (R355 to R359). -/

namespace Sys2Proof.Machine

/-- An engine changes service state (R355): event 4C0h, and the ruling pick of the change (R360). -/
def putService (s : State) (e st : Nat) : State :=
  let old := s.service e
  ((s.put (svcIdx e) 1 st).put (svcIdx e) 6 s.rulingPick).raise 0x4C0 e (be 1 old ++ be 1 st)

/-- Every flow of an engine is disabled (R356): pending takes end with a status. -/
def stopFlows (s : State) (e status : Nat) : State :=
  let s := ((s.rx.flows.filter fun x => x.1 / 4096 = e).map (·.1)).foldl stopRx s
  ((s.tx.flows.filter fun x => x.1 / 4096 = e).map (·.1)).foldl (fun s n => stopTx s n status) s

/-- An engine is OUT or FAILED once it has left service (R356), and the NI of its packet staging drains (R432). -/
def leaveService (s : State) (e st : Nat) : State := drainNi (putService (stopFlows s e stEngineOut) e st) (0x30 + e)

/-- Whether the gate of an engine's clock unit is closed or asked for (R247): units 64 to 71 are the engines. -/
def engineGated (s : State) (e : Nat) : Bool := s.num (gateIdx (64 + e)) 2 != 0

/-- REMOVE (R355). -/
def removeRule (e : Nat) : Rule :=
  { base := State.rulingNext, check := noCheck, judge := noJudge, pick := noPick,
    apply := fun s _ _ v =>
      let st := s.service e
      if valNum v ≠ 1 ∨ st = svOut ∨ st = svFailed then { s := s }
      else if st = svIn then
        if (s.tx.svc.getD e {}).pattern then { s := s, status := stBusy } else { s := leaveService s e svOut }
      else { s := putService s e svOut } }

/-- SHADOW (R355, R356, R357). -/
def shadowRule (e : Nat) : Rule :=
  { base := State.rulingNext, check := noCheck, pick := noPick,
    judge := fun s _ v =>
      if valNum v = 1 ∧ ((s.service e ≠ svOut ∧ s.service e ≠ svFailed) ∨ engineGated s e) then refuse s stBusy else none,
    apply := fun s _ _ v =>
      if valNum v ≠ 1 then { s := s }
      else
        let s := { s with tx := { s.tx with svc := lmod s.tx.svc e fun x => { x with shadowAt := s.now } } }
        { s := putService s e svShadow } }

/-- REINSTATE (R358): a unit reinstatement, timed or untimed. -/
def engineReinstateRule (e : Nat) : Rule :=
  { base := State.rulingNext, check := noCheck, pick := noPick,
    judge := fun s _ v => if valNum v = 1 ∧ s.service e ≠ svReady then refuse s stBusy else none,
    apply := fun s _ _ v => if valNum v = 1 then requestDone s .engine e else { s := s } }

/-- The end of an engine's task slot (R358): IN_SERVICE with no flow enabled; none where it is not READY. -/
def reinstateEngine (s : State) (e : Nat) : Option State :=
  if s.service e = svReady then some (putNi (putService s e svIn) (0x30 + e) niOnline) else none

/-- An engine finds a fault (R355): the shadow comparison is made in SHADOW and READY only. -/
def engineFaults (s : State) (e fault : Nat) : State :=
  let st := s.service e
  if st = svOut ∨ st = svFailed ∨ (fault = 3 ∧ st = svIn) ∨ s.pwr.halted ∨ !s.pwr.mgcOn then s
  else
    let s := if fault < 3 then s.count (svcIdx e) 5 32 1 else s
    let s := if st = svIn then leaveService s e svFailed else putService s e svFailed
    s.raise 0x4C1 e (be 1 fault)

/-- 100 ms of training without mismatch (R355). -/
def shadowTrained (s : State) (e : Nat) : State :=
  if s.service e = svShadow then
    putService (s.waitUntil ((s.tx.svc.getD e {}).shadowAt + 100000000)) e svReady
  else s

/-- Engines after a DEV_RESET_N reset (R359): pending takes end with TARGET_UNAVAILABLE, and every engine that is not FAILED
returns to service with no flow enabled. -/
def resetEngines (s : State) : State :=
  (List.range 8).foldl (fun s e =>
    let s := stopFlows s e stTargetUnavailable
    if s.service e = svFailed ∨ s.service e = svIn then s else putNi (putService s e svIn) (0x30 + e) niOnline) s

/-! ### Rows -/

/-- REMOVE (R356). -/
def execRemove (r : Req) (e : Fin 8) (v : Nat) (s : State) : Out := .next (submit s r (ent (svcIdx e) 2) (.num v) (removeRule e))

/-- ENGINE_INTERNAL_FAULT (R355). -/
def execEngineInternalFault (e : Fin 8) (fault : Fin 4) (s : State) : Out := .next (engineFaults s e fault)

/-- ENGINE_SHADOW (R357). -/
def execEngineShadow (r : Req) (e : Fin 8) (v : Nat) (s : State) : Out :=
  .next (submit s r (ent (svcIdx e) 3) (.num v) (shadowRule e))

/-- ENGINE_SHADOW_READY (R355). -/
def execEngineShadowReady (e : Fin 8) (s : State) : Out := .next (shadowTrained s e)

/-- ENGINE_REINSTATE (R358). -/
def execEngineReinstate (r : Req) (e : Fin 8) (v : Nat) (s : State) : Out :=
  .next (submit s r (ent (svcIdx e) 4) (.num v) (engineReinstateRule e))

/-- BUILT_IN_PATTERN_TEST_DONE (R359). -/
def execBuiltInPatternTestDone (e : Fin 8) (s : State) : Out :=
  .next (if s.pwr.mgcOn then
    { s with tx := { s.tx with svc := lmod s.tx.svc e fun x => { x with pattern := false } } } else s)

end Sys2Proof.Machine
end

