-- ==== Sys2Proof/Machine/Flags.lean ====
section
/-! DEFINITION. Shuttle arithmetic: ALU results and flags, MAC lanes, scaled moves (R366 to R369, R400, R404, R406). -/

namespace Sys2Proof.Machine

/-! ### ST (R366) -/

/-- Bit `i` of a word. -/
def bitOf (x i : Nat) : Bool := x / 2 ^ i % 2 == 1

/-- A word with bit `i` set to a value. -/
def putBit (x i : Nat) (b : Bool) : Nat := x - x / 2 ^ i % 2 * 2 ^ i + (if b then 2 ^ i else 0)

/-- Bit numbers of ST. -/
def stZ : Nat := 0
def stN : Nat := 1
def stC : Nat := 2
def stSV : Nat := 3
def stAV : Nat := 4
def stSF : Nat := 8
def stSE : Nat := 9
def stWTO : Nat := 10
def stRPTX : Nat := 11
def stFQF : Nat := 13
def stInIrq : Nat := 14
def stIE : Nat := 15

/-- The edge and level sources that are pending, as IPEND. -/
def pendBit (i : Nat) : Nat := 16 + i

/-- A move to ST (R366): every RW field is written, ones in IPEND clear, IN_IRQ and the reserved bit keep. -/
def moveToSt (st v : Nat) : Nat :=
  let pend := bits st 31 16 &&& (0xFFFF ^^^ bits v 31 16)
  bits v 47 32 * 2 ^ 32 + pend * 2 ^ 16 + bits v 15 15 * 2 ^ 15 + bits st 14 14 * 2 ^ 14 + bits v 13 13 * 2 ^ 13 + bits v 11 0

/-- ST at a start (R365, R366): defaults, but IPEND and the sticky bits keep. -/
def startSt (st : Nat) : Nat := st &&& 0xFFFF2BF8

/-- Set a sticky bit; SV or an AV bit that rises sets the ARITH source (R375). -/
def setSticky (st i : Nat) : Nat :=
  let rises := !bitOf st i && (i == stSV || (stAV ≤ i && i ≤ 7))
  let st := putBit st i true
  if rises then putBit st (pendBit 13) true else st

/-- ST after RTI (R376): IMASK, IE, C, N and Z as saved, sticky bits of both, IN_IRQ clear, IPEND as it stands. -/
def rtiSt (saved st : Nat) : Nat :=
  bits saved 47 32 * 2 ^ 32 + bits st 31 16 * 2 ^ 16 + (saved &&& 0x8007) + ((saved ||| st) &&& 0x2BF8) + (st &&& 0x400)

/-! ### The ALU (R404) -/

/-- What an ALU operation gives: the result, the carry where it writes C, whether it writes N and Z, whether it clamped, and
whether it writes RD. -/
structure AluOut where
  res : Nat
  c : Option Bool
  nz : Bool
  sv : Bool
  rd : Bool
  deriving DecidableEq, Repr

/-- A signed value clamped to 48 bits. -/
def clamp48 (x : Int) : Int := max (-(2 ^ 47)) (min (2 ^ 47 - 1) x)

/-- Lane-wise operation on lanes of `n` bits of a 48-bit word. -/
def lanewise (n : Nat) (f : Nat → Nat → Nat) (a b : Nat) : Nat :=
  (List.range (48 / n)).foldl (fun r i => r + f (a / 2 ^ (n * i) % 2 ^ n) (b / 2 ^ (n * i) % 2 ^ n) % 2 ^ n * 2 ^ (n * i)) 0

/-- An ALU operation on 48-bit operands (R404). -/
def aluOp (op a b : Nat) : AluOut :=
  let m := 2 ^ 48
  let sa := signed 48 a
  let sb := signed 48 b
  let logic := fun r => { res := r, c := some false, nz := true, sv := false, rd := true : AluOut }
  let sum := fun r c sv => { res := r, c := some c, nz := true, sv := sv, rd := true : AluOut }
  let sat := fun x : Int => logic (wrap 48 (clamp48 x))
  let n := b % 64
  match op with
  | 0x01 => sum ((a + b) % m) (decide (m ≤ a + b)) false
  | 0x02 => sum ((a + m - b) % m) (decide (b ≤ a)) false
  | 0x03 => sum (wrap 48 (clamp48 (sa + sb))) (decide (m ≤ a + b)) (clamp48 (sa + sb) != sa + sb)
  | 0x04 => sum (wrap 48 (clamp48 (sa - sb))) (decide (b ≤ a)) (clamp48 (sa - sb) != sa - sb)
  | 0x05 => logic (a &&& b)
  | 0x06 => logic (a ||| b)
  | 0x07 => logic (a ^^^ b)
  | 0x08 => logic (a &&& ((m - 1) ^^^ b))
  | 0x09 => sum (a * 2 ^ n % m) (0 < n && n ≤ 48 && bitOf a (48 - n)) false
  | 0x0A => sum (a / 2 ^ n) (0 < n && bitOf a (n - 1)) false
  | 0x0B => sum (wrap 48 (sa / 2 ^ n)) (0 < n && (sa / 2 ^ (n - 1)) % 2 == 1) false
  | 0x0C => logic (if sa ≤ sb then a else b)
  | 0x0D => logic (if sa ≤ sb then b else a)
  | 0x0E => { sat sa.natAbs with sv := decide (2 ^ 47 ≤ sa.natAbs) }
  | 0x0F => { sat (-sa) with sv := decide (2 ^ 47 ≤ -sa) }
  | 0x10 => { sum ((a + m - b) % m) (decide (b ≤ a)) false with rd := false }
  | 0x11 => { logic (a &&& b) with rd := false }
  | 0x12 => logic b
  | 0x13 => { res := lanewise 24 (fun x y => x + y) a b, c := none, nz := false, sv := false, rd := true }
  | 0x14 => { res := lanewise 24 (fun x y => x + 2 ^ 24 - y) a b, c := none, nz := false, sv := false, rd := true }
  | 0x15 => { res := lanewise 12 (fun x y => x + y) a b, c := none, nz := false, sv := false, rd := true }
  | 0x16 => { res := lanewise 12 (fun x y => x + 2 ^ 12 - y) a b, c := none, nz := false, sv := false, rd := true }
  | _ => { res := 0, c := none, nz := false, sv := false, rd := false }

/-- ST after an ALU operation (R404). -/
def aluFlags (st : Nat) (o : AluOut) : Nat :=
  let st := if o.nz then putBit (putBit st stN (bitOf o.res 47)) stZ (o.res == 0) else st
  let st := match o.c with
    | some c => putBit st stC c
    | none => st
  if o.sv then setSticky st stSV else st

/-! ### The MAC units (R367, R400) -/

/-- Lanes of a lane mode. -/
def laneCount (lm : Nat) : Nat := if lm = 0 then 1 else if lm = 1 then 2 else 4

/-- The product of lane `i` of two words; `sg` says which operands are signed. -/
def laneProduct (lm sg a b i : Nat) : Int :=
  let n := 48 / laneCount lm
  let x := a / 2 ^ (n * i) % 2 ^ n
  let y := b / 2 ^ (n * i) % 2 ^ n
  (if sg = 2 then (x : Int) else signed n x) * (if sg = 0 then signed n y else (y : Int))

/-- An accumulator and whether a lane overflowed, after sums are added to its lanes, or take their place (R367, R400). -/
def addLanes (lm acc : Nat) (fresh : Bool) (sums : List Int) : Nat × Bool :=
  let n := 112 / laneCount lm
  (List.range (laneCount lm)).foldl (fun (r : Nat × Bool) i =>
    let v := (if fresh then 0 else signed n (acc / 2 ^ (n * i))) + sums.getD i 0
    (r.1 + wrap n v * 2 ^ (n * i), r.2 || !(decide (-(2 ^ (n - 1) : Nat) ≤ v) && decide (v < (2 ^ (n - 1) : Nat))))) (0, false)

/-! ### Scaled moves (R368, R369) -/

/-- A value written to SCL as it is kept (R368): SHIFT from 16 to 31 is taken as 15, reserved bits read zero. -/
def keepScl (v : Nat) : Nat :=
  (List.range 4).foldl (fun r k =>
    let f := v / 2 ^ (12 * k) % 2 ^ 12
    let sh := f / 64
    r + ((if 16 ≤ sh ∧ sh ≤ 31 then 15 else sh) * 64 + f % 64 / 4 * 4) * 2 ^ (12 * k)) 0

/-- Step 1 of R369: v × 2^SHIFT, rounded by ROUND where it shifts right. -/
def scaleRound (v shift : Int) (round : Nat) : Int :=
  if 0 ≤ shift then v * 2 ^ shift.toNat
  else
    let d : Int := 2 ^ (-shift).toNat
    let q := v / d
    let r := v % d
    match round with
    | 1 => (v + d / 2) / d
    | 2 => if 2 * r < d then q else if d < 2 * r then q + 1 else if q % 2 = 0 then q else q + 1
    | _ => q

/-- Steps 2 and 3 of R369: to `n` bits by SAT, placed in a field of `w` bits; and whether it clamped. -/
def saturate (x : Int) (sat n w : Nat) : Nat × Bool :=
  match sat with
  | 1 =>
    let y := max (-(2 ^ (n - 1) : Nat) : Int) (min ((2 ^ (n - 1) : Nat) - 1) x)
    (wrap w y, y != x)
  | 2 =>
    let y := max (0 : Int) (min ((2 ^ n : Nat) - 1) x)
    (wrap w y, y != x)
  | _ => (wrap w (signed n (wrap n x)), false)

/-- Sample width n of a move's WIDTH code, in a field of `w` bits (R369, R405). -/
def sampleWidth (code w : Nat) : Nat := if code = 0 then w else min w ([0, 10, 12, 16, 20, 24].getD code w)

/-- The values a move takes and the accumulator of each (R369, R405). -/
def moveValues (arr k : Nat) (a : List Nat) : List (Int × Nat) :=
  let ak := a.getD k 0
  match arr with
  | 1 => (List.range 2).map fun i => (signed 56 (ak / 2 ^ (56 * i)), k)
  | 2 => (List.range 4).map fun i => (signed 28 (ak / 2 ^ (28 * i)), k)
  | 3 => [(signed 112 ak, k), (signed 112 (a.getD (k + 1) 0), k + 1)]
  | 4 => (List.range 4).map fun i => (signed 112 (a.getD i 0), i)
  | _ => [(signed 112 ak, k)]

/-- The word a scaled move produces, and whether it clamped (R369). -/
def scaledMove (arr k width scl : Nat) (a : List Nat) : Nat × Bool :=
  let vs := moveValues arr k a
  let w := 48 / vs.length
  let n := sampleWidth width w
  (vs.mapIdx fun i v => (i, v)).foldl (fun (r : Nat × Bool) p =>
    let f := scl / 2 ^ (12 * p.2.2) % 2 ^ 12
    let y := saturate (scaleRound p.2.1 (signed 6 (f / 64)) (f / 16 % 4)) (f / 4 % 4) n w
    (r.1 + y.1 * 2 ^ (w * p.1), r.2 || y.2)) (0, false)

end Sys2Proof.Machine
end

