-- ==== Sys2Proof/Machine/Operands.lean ====
section
/-! DEFINITION. Shuttle operands: registers and their conversions, pointer updates, memory accesses, the pipeline's delayed
writes, port operands (R365, R370, R371, R385 to R390, R401, R402, R407, R408, R410). -/

namespace Sys2Proof.Machine

/-! ### Shuttles and their records -/

/-- Record index of a shuttle (R393). -/
def shIdx (h : Nat) : Nat := 0x080100 + h

/-- Shuttle `h`. -/
def State.sh (s : State) (h : Nat) : Shuttle := tgetD s.shu.tab h {}

/-- Change shuttle `h`. -/
def State.setSh (s : State) (h : Nat) (f : Shuttle → Shuttle) : State :=
  { s with shu := { s.shu with tab := tput s.shu.tab h (f (s.sh h)) } }

def shEmpty : Nat := 0
def shIdle : Nat := 1
def shRunning : Nat := 2
def shFailed : Nat := 3
def shMappedOut : Nat := 4

/-- State of a shuttle (R384); one mapped out at the factory always reads MAPPED_OUT. -/
def State.shState (s : State) (h : Nat) : Nat := if s.unit.mappedOut.contains h then shMappedOut else s.num (shIdx h) 1

/-- Set the state of a shuttle, modulo the factory map-outs. -/
def putSh (s : State) (h st : Nat) : State :=
  let s := if s.num (shIdx h) 1 = 2 ∧ s.num (0x040200 + h / 8) 2 = 1 then
      { s with clk := { s.clk with gates := lmod s.clk.gates (h / 8) fun g => { g with since := s.now } } } else s
  s.put (shIdx h) 1 st

/-- Replace element `i` of a list. -/
def lset (l : List Nat) (i v : Nat) : List Nat := l.set i v

/-! ### The loaded image (R379) -/

/-- IRQ_USED. -/
def Shuttle.irqUsed (x : Shuttle) : Nat := fieldBE x.image 10 2
/-- RPT_MAX. -/
def Shuttle.rptMax (x : Shuttle) : Nat := fieldBE x.image 12 4
/-- Entry points of the loaded image. -/
def Shuttle.entries (x : Shuttle) : Nat := fieldBE x.image 8 1
/-- Address of an entry. -/
def Shuttle.entryAddr (x : Shuttle) (e : Nat) : Nat := fieldBE x.image (16 + 8 * e) 2
/-- Declared CYCLES of an entry. -/
def Shuttle.declared (x : Shuttle) (e : Nat) : Nat := fieldBE x.image (20 + 8 * e) 4
/-- Handler of a source. -/
def Shuttle.vector (x : Shuttle) (i : Nat) : Nat := fieldBE x.image (80 + 2 * i) 2
/-- IRQ_MAX of a source. -/
def Shuttle.irqMax (x : Shuttle) (i : Nat) : Nat := fieldBE x.image (112 + i) 1

/-- Program memory word (R398): words beyond the image are all ones. -/
def Shuttle.word (x : Shuttle) (a : Nat) : Nat := tgetD x.pm a (2 ^ 64 - 1)

/-! ### Data memory -/

/-- A data memory word. -/
def Shuttle.dmAt (x : Shuttle) (a : Nat) : Nat := tgetD x.dm (a % 16384) 0

/-- Store a data memory word; words of 0 are not listed. -/
def Shuttle.dmPut (x : Shuttle) (a v : Nat) : Shuttle :=
  { x with dm := if v % 2 ^ 48 = 0 then tdel x.dm (a % 16384) else tput x.dm (a % 16384) (v % 2 ^ 48) }

/-! ### Registers by code (R407, R408) -/

/-- Code of a W register seen by DBNZ alone. -/
def codeOldW : Nat := 0x40
/-- Code of ST as BR alone sees it. -/
def codeOldSt : Nat := 0x69
/-- Code of data memory word 0. -/
def codeMem : Nat := 0x100

/-- The value of a register as MOVR and STM read it (R408): M is sign-extended. -/
def Shuttle.reg (x : Shuttle) (c : Nat) : Nat :=
  if c < 0x10 then x.w.getD c 0
  else if c < 0x18 then x.p.getD (c - 0x10) 0
  else if c < 0x20 then wrap 48 (signed 15 (x.m.getD (c - 0x18) 0))
  else if c < 0x28 then x.l.getD (c - 0x20) 0
  else if c = 0x28 then x.scl
  else if c = 0x29 then x.st
  else x.rc

/-- A write reaches a register or a data memory word (R365, R368, R370, R408). -/
def Shuttle.land (x : Shuttle) (c v : Nat) : Shuttle :=
  if c < 0x10 then { x with w := lset x.w c v, wD1 := lset x.wD1 c v }
  else if c < 0x18 then { x with p := lset x.p (c - 0x10) (v % 2 ^ 14), cnt := lset x.cnt (c - 0x10) 0 }
  else if c < 0x20 then { x with m := lset x.m (c - 0x18) (v % 2 ^ 15) }
  else if c < 0x28 then { x with l := lset x.l (c - 0x20) (v % 2 ^ 14), cnt := lset x.cnt (c - 0x20) 0 }
  else if c = 0x28 then { x with scl := keepScl v }
  else if c = 0x29 then { x with st := v }
  else if c = 0x2A then { x with rc := Nat.min v 65536 }
  else if codeMem ≤ c then x.dmPut (c - codeMem) v
  else if c = codeOldSt then { x with st1 := v }
  else { x with wD1 := lset x.wD1 (c - codeOldW) v }

/-- A write that the next instruction does not see yet (R371, R410). -/
def Shuttle.later (x : Shuttle) (c v : Nat) : Shuttle := { x with delayed := x.delayed ++ [{ wait := 1, reg := c, val := v }] }

/-- At an issue the writes due land, and the others come one issue closer (R371). -/
def Shuttle.tick (x : Shuttle) : Shuttle :=
  let due := x.delayed.filter fun d => d.wait = 0
  let x := { x with delayed := (x.delayed.filter fun d => d.wait ≠ 0).map fun d => { d with wait := d.wait - 1 } }
  due.foldl (fun x d => x.land d.reg d.val) x

/-- Every write on its way lands: the pipeline drains (R376, R381). -/
def Shuttle.flush (x : Shuttle) : Shuttle :=
  let x := x.delayed.foldl (fun x d => x.land d.reg d.val) { x with delayed := [] }
  { x with aPrev := x.a, st1 := x.st, st2 := x.st, wD1 := x.w, wD2 := x.w }

/-- A W register takes a value that the next instruction may use (R371): a load on its way to it is seen by DBNZ alone. -/
def Shuttle.setW (x : Shuttle) (r v : Nat) : Shuttle :=
  { x with w := lset x.w r v, delayed := x.delayed.map fun d => if d.reg = r then { d with reg := codeOldW + r } else d }

/-- Change ST now, and in moves to it that are on their way. -/
def Shuttle.updSt (x : Shuttle) (f : Nat → Nat) : Shuttle :=
  { x with st := f x.st, delayed := x.delayed.map fun d => if d.reg = 0x29 then { d with val := f d.val } else d }

/-- Latest value that ST will have from moves on their way. -/
def Shuttle.comingSt (x : Shuttle) : Nat :=
  (x.delayed.filter fun d => d.reg = 0x29).foldl (fun _ d => d.val) x.st

/-- A move to ST (R366): seen by the second instruction after it; SV or an AV bit that rises sets ARITH (R375). -/
def Shuttle.moveSt (x : Shuttle) (v : Nat) : Shuttle :=
  let st := x.comingSt
  let n := moveToSt st v
  let n := if n &&& (0xF8 &&& (0xFFFFFFFFFFFF ^^^ st)) ≠ 0 then putBit n (pendBit 13) true else n
  (x.later 0x29 n).later codeOldSt n

/-! ### Pointer updates (R370) -/

/-- Least power of two that is not less than `n`. -/
def powAtLeast (n : Nat) : Nat := 2 ^ Nat.clog 2 n

/-- The low `r` bits of `n` in reverse order. -/
def bitReverse (r n : Nat) : Nat := (List.range r).foldl (fun a i => a + n / 2 ^ i % 2 * 2 ^ (r - 1 - i)) 0

/-- Linear update. -/
def linearNext (p m : Nat) : Nat := wrap 14 ((p : Int) + signed 15 m)

/-- Update pointer `k` with modifier `j` in a mode. -/
def Shuttle.advance (x : Shuttle) (k j mode : Nat) : Shuttle :=
  let p := x.p.getD k 0
  let m := x.m.getD j 0
  let l := x.l.getD k 0
  match mode with
  | 1 =>
    if l = 0 then { x with p := lset x.p k (linearNext p m) }
    else
      let q := powAtLeast l
      let base := p / q * q
      { x with p := lset x.p k (wrap 14 ((base : Int) + ((p - base : Nat) + signed 15 m) % (l : Int))) }
  | 2 =>
    let r := Nat.log 2 l
    if l = 2 ^ r ∧ 1 ≤ r ∧ r ≤ 13 then
      { x with p := lset x.p k (p / 2 ^ r * 2 ^ r + bitReverse r ((bitReverse r p + bitReverse r m) % 2 ^ r)) }
    else { x with p := lset x.p k (linearNext p m) }
  | 3 =>
    if l = 0 then { x with p := lset x.p k (linearNext p m) }
    else if x.cnt.getD k 0 + 1 = l then
      { x with p := lset x.p k (linearNext p (x.m.getD (j + 1) 0)), cnt := lset x.cnt k 0 }
    else { x with p := lset x.p k (linearNext p m), cnt := lset x.cnt k (x.cnt.getD k 0 + 1) }
  | _ => { x with p := lset x.p k (linearNext p m) }

/-! ### Parallel accesses (R399, R401, R402) -/

/-- A load through pointer `k`: seen by the second instruction after it, and dropped where the principal operation writes
the same register. -/
def Shuttle.load (x : Shuttle) (r k j mode : Nat) (dst : Option Nat) : Shuttle :=
  let v := x.dmAt (x.p.getD k 0)
  let x := if dst = some r then x else x.later r v
  x.advance k j mode

/-- A store through pointer `k`. -/
def Shuttle.store (x : Shuttle) (v k j mode : Nat) : Shuttle := (x.later (codeMem + x.p.getD k 0) v).advance k j mode

/-- A parallel access of the A and M formats; `sent` is the value that MVA sends to memory in place of the register. -/
def Shuttle.access (x : Shuttle) (a : MemAccess) (port : Nat) (dst sent : Option Nat) : Shuttle :=
  if a.en = 0 then x
  else if a.dir = 1 then x.store (sent.getD (x.w.getD a.reg 0)) (4 * port + a.ptr) (4 * port + a.md) a.mode
  else x.load a.reg (4 * port + a.ptr) (4 * port + a.md) a.mode dst

/-- Both accesses: port X, then port Y, so a port Y load wins. -/
def Shuttle.accesses (x : Shuttle) (mx my : MemAccess) (dst sent : Option Nat) : Shuttle :=
  (x.access mx 0 dst sent).access my 1 dst none

/-- A load of the Q format. -/
def Shuttle.qload (x : Shuttle) (l : QLoad) (port : Nat) : Shuttle :=
  if l.en = 0 then x else x.load (8 * port + l.reg) (4 * port + l.ptr) (4 * port + l.ptr) l.mode none

/-! ### ST as it stands, and its level sources (R375) -/

/-- IPEND bits of the level sources. -/
def levelBits (s : State) (h : Nat) : Nat :=
  let x := s.sh h
  let full := fun i => decide (s.num (shIdx h) 0x10 ≤ (x.si.getD i []).length)
  let room := fun i => decide (s.num (shIdx h) 0x11 ≤ 32 - (x.so.getD i []).length)
  (if full 0 then 2 ^ 22 else 0) + (if full 1 then 2 ^ 23 else 0) + (if room 0 then 2 ^ 24 else 0) + (if room 1 then 2 ^ 25 else 0)

/-- ST with its level sources. -/
def liveSt (s : State) (h st : Nat) : Nat := st - (st &&& 0x3C00000) + levelBits s h

/-- An edge source becomes pending, whether or not a program runs (R375). -/
def pend (s : State) (h i : Nat) : State := s.setSh h fun x => x.updSt fun st => putBit st (pendBit i) true

/-- SQ: fill of the inputs, space of the outputs (R365). -/
def Shuttle.sq (x : Shuttle) : Nat :=
  (x.si.getD 0 []).length * 2 ^ 24 + (x.si.getD 1 []).length * 2 ^ 16
    + (32 - (x.so.getD 0 []).length) * 2 ^ 8 + (32 - (x.so.getD 1 []).length)

/-! ### Port operands (R386, R387, R389, R390) -/

/-- A stream fault (R386): counted; event 821h carries the port (0, 1 inputs; 2, 3 outputs) and the count. -/
def streamFault (s : State) (h port : Nat) : State :=
  let s := s.count (shIdx h) 0x0E 32 1
  s.raiseAtMost 1 0x821 h fun _ => be 1 port ++ be 4 (s.num (shIdx h) 0x0E)

/-- Take a word of a stream input; an empty one gives 0 and sets SE (R386). -/
def takeStream (s : State) (h i : Nat) : State × Nat :=
  match (s.sh h).si.getD i [] with
  | v :: r => (s.setSh h fun x => { x with si := x.si.set i r }, v)
  | [] => (streamFault (s.setSh h fun x => x.updSt fun st => putBit st stSE true) h i, 0)

/-- Put a word on a stream output; a full one discards it and sets SF (R386). -/
def putStream (s : State) (h i v : Nat) : State :=
  let q := (s.sh h).so.getD i []
  if q.length < 32 then s.setSh h fun x => { x with so := x.so.set i (q ++ [v]) }
  else streamFault (s.setSh h fun x => x.updSt fun st => putBit st stSF true) h (2 + i)

/-- A descriptor word (R388, R389): the fourth commits, or is discarded with FQF where eight are queued. -/
def putFq (s : State) (h v : Nat) : State :=
  s.setSh h fun x =>
    match x.fq with
    | [a, b, c] =>
      if x.descs.length < 8 then { x with fq := [], descs := x.descs ++ [{ w0 := a, w1 := b, w2 := c, w3 := v }] }
      else { x with fq := [] }.updSt fun st => putBit st stFQF true
    | l => { x with fq := l ++ [v] }

/-- Take a completion word; the spec states no value where none is held (log entry 9). -/
def takeFd (s : State) (h : Nat) : State × Nat :=
  match (s.sh h).fd with
  | v :: r => (s.setSh h fun x => { x with fd := r }, v)
  | [] => (s.draw, s.freeValue 48)

/-- Read the source of a MOVR (R407, R408). -/
def readSource (s : State) (h c : Nat) : State × Nat :=
  match c with
  | 0x29 => (s, liveSt s h (s.sh h).st)
  | 0x30 => takeStream s h 0
  | 0x31 => takeStream s h 1
  | 0x34 => (s, (s.sh h).sq)
  | 0x36 => takeFd s h
  | 0x37 => (s, s.num (shIdx h) 0x0F)
  | _ => (s, (s.sh h).reg c)

/-- Write the destination of MOVR and LDI (R407, R408, R410). -/
def writeDest (s : State) (h c v : Nat) : State :=
  match c with
  | 0x29 => s.setSh h fun x => x.moveSt v
  | 0x32 => putStream s h 0 v
  | 0x33 => putStream s h 1 v
  | 0x35 => putFq s h v
  | _ => s.setSh h fun x => if c < 0x10 then x.setW c v else x.later c v

/-- Write the destination of LDM: as a load (R371, R410). -/
def writeLoaded (s : State) (h c v : Nat) : State :=
  s.setSh h fun x => if c = 0x29 then x.moveSt v else x.later c v

/-- The next shuttle of the bolt's ring that is not MAPPED_OUT (R387). -/
def successor (s : State) (h : Nat) : Option Nat :=
  let b := h / 128 * 128
  (((List.range 128).map fun i => b + (h - b + 1 + i) % 128)).find? fun k => s.shState k != shMappedOut

/-- Cascade words that have reached CI (R371, R387): each sets CASCADE. -/
def Shuttle.arrive (x : Shuttle) : Shuttle :=
  let due := x.ciDelayed.filter fun c => c.1 ≤ x.cycles
  let x := { x with ciDelayed := x.ciDelayed.filter fun c => x.cycles < c.1 }
  due.foldl (fun x c => { x with ci := c.2 }.updSt fun st => putBit st (pendBit 10) true) x

/-- Write CO (R371, R387): the successor holds the word 2 cycles later, in cycles of the run that both began with, and at
once where it does not run. -/
def putCo (s : State) (h v : Nat) : State :=
  let n := (s.sh h).cycles
  match successor s h with
  | none => s
  | some k => s.setSh k fun y =>
    if s.shState k = shRunning then
      { y with ciDelayed := y.ciDelayed ++ [(if y.cycles = n then n + 1 else y.cycles + 2, v)] }
    else { y with ciDelayed := [(0, v)] }.arrive

end Sys2Proof.Machine
end

