-- ==== Sys2Proof/Machine/Shuttle.lean ====
section
/-! DEFINITION. Shuttles running: issue, every instruction, interrupts, WAIT and the end of runs (R371 to R381, R396 to R410).
A command of this family is the instruction that issues next in a shuttle. -/

namespace Sys2Proof.Machine

/-! ### Issue points -/

/-- The shuttle at its next issue point: cascade words and delayed writes that are due have landed. -/
def State.front (s : State) (h : Nat) : State := s.setSh h fun x => x.arrive.tick

/-- The interrupt source taken at an issue point, given ST with its level sources (R376). -/
def Shuttle.takes (x : Shuttle) (st : Nat) : Option Nat :=
  if bitOf st stIE && !bitOf st stInIrq && x.slots == 0 && x.rpt == 0 then
    (List.range 14).find? fun i =>
      bitOf st (32 + i) && bitOf st (pendBit i) && bitOf x.irqUsed i && x.irqTaken.getD i 0 < x.irqMax i
  else none

/-- The source that qualifies now. -/
def State.qualifying (s : State) (h : Nat) : Option Nat :=
  let t := s.front h
  (t.sh h).takes (liveSt t h (t.sh h).st)

/-- Whether a program runs and has not issued END; a halted device issues nothing (R392). -/
def State.runs (s : State) (h : Nat) : Bool := s.shState h == shRunning && !(s.sh h).ended && !s.pwr.halted

/-- Whether an instruction may issue: no WAIT holds, and no interrupt is taken in its place. -/
def State.mayIssue (s : State) (h : Nat) : Bool := s.runs h && !(s.sh h).waiting && (s.qualifying h).isNone

/-- The instruction the program counter stands at. -/
def State.fetched (s : State) (h : Nat) : Option ShInstr := decodeShuttle ((s.sh h).word (s.sh h).pc)

/-- Instructions that may not stand in a delay slot or be repeated (R372). -/
def ShInstr.redirects : ShInstr → Bool
  | .ctl op _ _ => op != 0
  | _ => false

/-- Whether the instruction stands in a forbidden place (R372). -/
def Shuttle.forbids (x : Shuttle) (i : ShInstr) : Bool := i.redirects && (x.slots != 0 || x.rpt != 0)

/-- Next program counter. -/
def nextPc (pc : Nat) : Nat := (pc + 1) % 4096

/-- Histories, the cycle count and the sequencing of one issue, before its effect (R371, R373, R410). -/
def Shuttle.sequence (x : Shuttle) : Shuttle :=
  let y := { x with st2 := x.st1, st1 := x.st, wD2 := x.wD1, wD1 := x.w, aPrev := x.a, cycles := x.cycles + 1 }
  if x.rpt ≠ 0 then { y with rpt := x.rpt - 1, pc := if x.rpt = 1 then nextPc x.pc else x.pc }
  else if x.slots = 1 then { y with slots := 0, pc := if x.taken then x.target else nextPc x.pc }
  else { y with slots := x.slots - 1, pc := nextPc x.pc }

/-- The end of the delay slots of an RTI (R376): the saved program counter and status come back, and an interrupted WAIT
goes on with what remained of its limit. -/
def Shuttle.resume (x : Shuttle) : Shuttle :=
  { x with
    retSlots := false, pc := x.savedPc, st := rtiSt x.savedSt x.st, st1 := rtiSt x.savedSt x.st1,
    st2 := rtiSt x.savedSt x.st2,
    delayed := x.delayed.map fun d => if d.reg = 0x29 ∨ d.reg = codeOldSt then { d with val := putBit d.val stInIrq false } else d,
    waiting := x.savedWait != 0 && !x.descs.isEmpty, waitLeft := x.savedWait, savedWait := 0 }

/-- Issue the instruction at the program counter if `f` gives its effect: `f` sees the shuttle as the instruction finds it
and the state after sequencing. Where the instruction is another one, or may not issue, nothing happens (log entry 2). -/
def issueOne (h : Nat) (f : Shuttle → State → ShInstr → Option State) (s : State) : State :=
  if s.mayIssue h then
    let t := s.front h
    let x := t.sh h
    match s.fetched h with
    | none => s
    | some i =>
      if x.forbids i then s
      else match f x (t.setSh h Shuttle.sequence) i with
        | none => s
        | some u => if x.slots = 1 ∧ x.retSlots then u.setSh h Shuttle.resume else u
  else s

/-! ### Effects of the formats -/

/-- The MAC units of a Q instruction (R367, R400): accumulators and AV bits. -/
def macUnits (x : Shuttle) (lm sg : Nat) (slots : List MacSlot) (y : Shuttle) : Shuttle :=
  (List.range 4).foldl (fun (y : Shuttle) k =>
    let mine := slots.filter fun m => m.acc = k ∧ m.op ≠ 0
    if mine.isEmpty then y
    else
      let sums := (List.range (laneCount lm)).map fun i =>
        (mine.map fun m =>
          let p := laneProduct lm sg (x.w.getD m.ra 0) (x.w.getD (8 + m.rb) 0) i
          if m.op = 3 then -p else p).sum
      let r := addLanes lm (x.a.getD k 0) (mine.any fun m => m.op == 1) sums
      let y := { y with a := lset y.a k r.1 }
      if r.2 then y.updSt fun st => setSticky st (stAV + k) else y) y

/-- A Q instruction (R399, R400). -/
def qEffect (h : Nat) (x : Shuttle) (t : State) : ShInstr → Option State
  | .q lm sg m0 m1 m2 m3 lx ly =>
    some (t.setSh h fun y => macUnits x lm sg [m0, m1, m2, m3] ((y.qload lx 0).qload ly 1))
  | _ => none

/-- An A instruction of one ALUOP (R403, R404). -/
def aluEffect (op h : Nat) (x : Shuttle) (t : State) : ShInstr → Option State
  | .alu o rd rs1 rs2 i imm mx my =>
    if o = op then
      let b := if i = 1 then wrap 48 (signed 15 imm) else x.w.getD rs2 0
      let r := aluOp op (x.w.getD rs1 0) b
      some (t.setSh h fun y =>
        let y := (y.accesses mx my (if r.rd then some rd else none) none).updSt fun st => aluFlags st r
        if r.rd then y.setW rd r.res else y)
    else none
  | _ => none

/-- An M instruction of one MOP: `f` gives the effect from ARR, accumulator, WIDTH, RD, DM and the two accesses. -/
def accEffect (op : Nat) (f : Nat → Nat → Nat → Nat → Nat → MemAccess → MemAccess → State) : ShInstr → Option State
  | .acc o arr k width rd dm mx my => if o = op then some (f arr k width rd dm mx my) else none
  | _ => none

/-- A C instruction of one COP. -/
def ctlEffect (op : Nat) (f : Nat → Nat → State) : ShInstr → Option State
  | .ctl o cond opd => if o = op then some (f cond opd) else none
  | _ => none

/-- The scaled move (R369, R406). -/
def mvaEffect (h : Nat) (x : Shuttle) (t : State) (arr k width rd dm : Nat) (mx my : MemAccess) : State :=
  let r := scaledMove arr k width x.scl x.aPrev
  t.setSh h fun y =>
    let y := if dm = 1 then y.accesses mx my none (some r.1) else (y.accesses mx my (some rd) none).setW rd r.1
    if r.2 then y.updSt fun st => setSticky st stSV else y

/-- Sum of two 112-bit words, and whether it overflows (R406). -/
def addWide (a b : Nat) : Nat × Bool :=
  let v := signed 112 a + signed 112 b
  (wrap 112 v, signed 112 (wrap 112 v) != v)

/-- Branch conditions (R409). -/
def condHolds (cond st : Nat) : Bool :=
  let z := bitOf st stZ
  let n := bitOf st stN
  let c := bitOf st stC
  match cond with
  | 0 => true
  | 1 => z
  | 2 => !z
  | 3 => n
  | 4 => !n
  | 5 => c
  | 6 => !c
  | 7 => z || n
  | 8 => !z && !n
  | 9 => bitOf st stSV
  | 10 => bitOf st stWTO
  | 11 => st &&& 0xF0 != 0
  | _ => false

/-- A redirection with two delay slots (R371). -/
def Shuttle.redirect (x : Shuttle) (taken : Bool) (target : Nat) : Shuttle :=
  { x with slots := 2, taken := taken, target := target % 4096, retSlots := false }

/-- DBNZ writes its register (R410): every later DBNZ sees the decrement. -/
def Shuttle.decrement (x : Shuttle) (r v : Nat) : Shuttle :=
  { x with w := lset x.w r v, wD1 := lset x.wD1 r v, wD2 := lset x.wD2 r v,
           delayed := x.delayed.filter fun d => d.reg ≠ r ∧ d.reg ≠ codeOldW + r }

/-- RPT RC (R373, R374): 0 repeats nothing, and so does a count above the ceiling, with RPTX and event 814h. -/
def repeatRc (h : Nat) (x : Shuttle) (t : State) : State :=
  let skip := t.setSh h fun y => { y with pc := nextPc y.pc }
  if x.rc = 0 then skip
  else if s_ceiling < x.rc then
    (skip.setSh h fun y => y.updSt fun st => putBit st stRPTX true).raiseAtMost 1 0x814 h fun _ => be 2 x.pc ++ be 4 x.rc
  else t.setSh h fun y => { y with rpt := x.rc }
where
  /-- RPT_CEILING of the shuttle. -/
  s_ceiling : Nat := t.num (shIdx h) 2

/-- WAIT n (R378): done at once where no committed descriptor is outstanding. Writes that the instruction after it will
see have landed when it holds. -/
def waitEffect (h n : Nat) (t : State) : State :=
  t.setSh h fun y =>
    if y.descs.isEmpty then y.updSt fun st => putBit st stWTO false
    else
      let due := y.delayed.filter fun d => d.wait = 0
      due.foldl (fun z d => z.land d.reg d.val)
        { y with waiting := true, waitLeft := n, delayed := y.delayed.filter fun d => d.wait ≠ 0 }

/-! ### The end of a run (R372, R381, R384, R389) -/

/-- No further instruction issues: the pipeline drains. -/
def issueEnd (s : State) (h : Nat) : State := s.setSh h fun x => { x.flush with ended := true }

/-- A partial descriptor is discarded and counted (R389). -/
def discardPartial (s : State) (h : Nat) : State :=
  if (s.sh h).fq.isEmpty then s else (s.count (shIdx h) 0x17 32 1).setSh h fun x => { x with fq := [] }

/-- The run is over: the shuttle takes a state, and words on the cascade reach it. -/
def leaveRun (s : State) (h st : Nat) : State :=
  let s := (discardPartial s h).setSh h fun x =>
    let x := x.flush
    { x with ended := false, waiting := false, cycles := x.ciDelayed.foldl (fun (n : Nat) (c : Nat × Nat) => Nat.max n c.1) x.cycles }.arrive
  putSh s h st

/-- A run of `n` cycles that exceeds the CYCLES of its entry (R381): OVER_DECLARED and event 812h. -/
def noteOver (s : State) (h n : Nat) : State :=
  let e := s.num (shIdx h) 5
  let d := (s.sh h).declared e
  if d < n then (s.count (shIdx h) 0x0C 32 1).raise 0x812 h (be 1 e ++ be 4 d) else s

/-- The cycles of a completed run (R381, R393): last, most, and whether it exceeded its declaration. -/
def recordCycles (s : State) (h n : Nat) : State :=
  let s := s.put (shIdx h) 7 (n % 2 ^ 32)
  noteOver (s.put (shIdx h) 8 (Nat.max (s.num (shIdx h) 8) (n % 2 ^ 32))) h n

/-- Sources that stay pending because they reached IRQ_MAX (R376). -/
def deferredSources (s : State) (h : Nat) : List Nat :=
  let x := s.sh h
  let st := liveSt s h x.st
  (List.range 14).filter fun i => bitOf x.irqUsed i && bitOf st (pendBit i) && bitOf st (32 + i) && x.irqMax i ≤ x.irqTaken.getD i 0

/-- Count deferrals, with event 816h at most once per second (R376). -/
def noteDeferred (s : State) (h : Nat) : State :=
  let l := deferredSources s h
  if l.isEmpty then s
  else (s.count (shIdx h) 0x0D 32 l.length).raiseAtMost 1 0x816 h fun _ => be 2 ((l.map (2 ^ ·)).sum)

/-- The run completes, 6 cycles after END (R381). -/
def completeRun (s : State) (h : Nat) : State :=
  let n := (s.sh h).cycles + 6
  leaveRun (recordCycles (noteDeferred s h) h n) h shIdle

/-- A run begins (R365, R366, R370, R381). -/
def startRun (s : State) (h e tb : Nat) : State :=
  let s := s.setSh h fun x =>
    { x.flush with
      pc := x.entryAddr e % 4096, rc := 0, st := startSt x.st, st1 := startSt x.st, st2 := startSt x.st, cnt := List.replicate 8 0,
      slots := 0, taken := false, retSlots := false, rpt := 0, waiting := false, waitLeft := 0, savedWait := 0, ended := false,
      irqTaken := List.replicate 16 0, cycles := 0, tb := tb, fq := [] }
  ((putSh s h shRunning).put (shIdx h) 5 e).count (shIdx h) 9 32 1

/-! ### Interrupts (R376) -/

/-- Cycles of a WAIT that have passed when something ends or interrupts it: the model keeps no shuttle clock, so the spec's
states do not fix them (log entry 10). -/
def waited (s : State) (h : Nat) : Nat := s.freeValue 16 % Nat.max 1 (s.sh h).waitLeft

/-- Take an interrupt from source `i`. -/
def takeInterrupt (s : State) (h i : Nat) : State :=
  let s := s.front h
  let w := if (s.sh h).waiting then waited s h else 0
  let s := if (s.sh h).waiting then s.draw else s
  s.setSh h fun x =>
    let x := x.flush
    let st := putBit (if 6 ≤ i ∧ i ≤ 9 then x.st else putBit x.st (pendBit i) false) stInIrq true
    { x with
      savedPc := x.pc, savedSt := x.st, savedWait := if x.waiting then x.waitLeft - w else 0, waiting := false,
      st := st, st1 := st, st2 := st, pc := x.vector i % 4096, irqTaken := lset x.irqTaken i (x.irqTaken.getD i 0 + 1),
      cycles := x.cycles + w + 3 }

/-! ### The rows of the Q and A formats -/

/-- Q_MAC (R400). -/
def execQMac (h : Fin 512) (s : State) : Out := .next (issueOne h (qEffect h) s)
/-- ALU_NOP (R404). -/
def execAluNop (h : Fin 512) (s : State) : Out := .next (issueOne h (aluEffect 0x00 h) s)
/-- ADD (R404). -/
def execAdd (h : Fin 512) (s : State) : Out := .next (issueOne h (aluEffect 0x01 h) s)
/-- SUB (R404). -/
def execSub (h : Fin 512) (s : State) : Out := .next (issueOne h (aluEffect 0x02 h) s)
/-- ADDS (R404). -/
def execAdds (h : Fin 512) (s : State) : Out := .next (issueOne h (aluEffect 0x03 h) s)
/-- SUBS (R404). -/
def execSubs (h : Fin 512) (s : State) : Out := .next (issueOne h (aluEffect 0x04 h) s)
/-- AND (R404). -/
def execAnd (h : Fin 512) (s : State) : Out := .next (issueOne h (aluEffect 0x05 h) s)
/-- OR (R404). -/
def execOr (h : Fin 512) (s : State) : Out := .next (issueOne h (aluEffect 0x06 h) s)
/-- XOR (R404). -/
def execXor (h : Fin 512) (s : State) : Out := .next (issueOne h (aluEffect 0x07 h) s)
/-- ANDN (R404). -/
def execAndn (h : Fin 512) (s : State) : Out := .next (issueOne h (aluEffect 0x08 h) s)
/-- LSL (R404). -/
def execLsl (h : Fin 512) (s : State) : Out := .next (issueOne h (aluEffect 0x09 h) s)
/-- LSR (R404). -/
def execLsr (h : Fin 512) (s : State) : Out := .next (issueOne h (aluEffect 0x0A h) s)
/-- ASR (R404). -/
def execAsr (h : Fin 512) (s : State) : Out := .next (issueOne h (aluEffect 0x0B h) s)
/-- MIN (R404). -/
def execMin (h : Fin 512) (s : State) : Out := .next (issueOne h (aluEffect 0x0C h) s)
/-- MAX (R404). -/
def execMax (h : Fin 512) (s : State) : Out := .next (issueOne h (aluEffect 0x0D h) s)
/-- ABS (R404). -/
def execAbs (h : Fin 512) (s : State) : Out := .next (issueOne h (aluEffect 0x0E h) s)
/-- NEG (R404). -/
def execNeg (h : Fin 512) (s : State) : Out := .next (issueOne h (aluEffect 0x0F h) s)
/-- CMP (R404). -/
def execCmp (h : Fin 512) (s : State) : Out := .next (issueOne h (aluEffect 0x10 h) s)
/-- TST (R404). -/
def execTst (h : Fin 512) (s : State) : Out := .next (issueOne h (aluEffect 0x11 h) s)
/-- MOV (R404). -/
def execMov (h : Fin 512) (s : State) : Out := .next (issueOne h (aluEffect 0x12 h) s)
/-- PADD24 (R404). -/
def execPadd24 (h : Fin 512) (s : State) : Out := .next (issueOne h (aluEffect 0x13 h) s)
/-- PSUB24 (R404). -/
def execPsub24 (h : Fin 512) (s : State) : Out := .next (issueOne h (aluEffect 0x14 h) s)
/-- PADD12 (R404). -/
def execPadd12 (h : Fin 512) (s : State) : Out := .next (issueOne h (aluEffect 0x15 h) s)
/-- PSUB12 (R404). -/
def execPsub12 (h : Fin 512) (s : State) : Out := .next (issueOne h (aluEffect 0x16 h) s)

/-! ### The rows of the M format -/

/-- MVA (R369, R405). -/
def execMva (h : Fin 512) (s : State) : Out := .next (issueOne h (fun x t i => accEffect 0 (mvaEffect h x t) i) s)

/-- LDAW (R406). -/
def execLdaw (h : Fin 512) (s : State) : Out :=
  .next (issueOne h (fun x t i => accEffect 1 (fun _ k _ rd _ mx my =>
    t.setSh h fun y =>
      let y := y.accesses mx my none none
      { y with a := lset y.a k (wrap 112 (signed 48 (x.w.getD rd 0))) }) i) s)

/-- CLRA (R406). -/
def execClra (h : Fin 512) (s : State) : Out :=
  .next (issueOne h (fun _ t i => accEffect 2 (fun arr k _ _ _ mx my =>
    t.setSh h fun y =>
      let y := y.accesses mx my none none
      { y with a := if arr = 4 then List.replicate 4 0 else lset y.a k 0 }) i) s)

/-- MVCO (R387, R406). -/
def execMvco (h : Fin 512) (s : State) : Out :=
  .next (issueOne h (fun x t i => accEffect 3 (fun _ k _ _ _ mx my =>
    putCo (t.setSh h fun y => y.accesses mx my none none) h (x.aPrev.getD k 0)) i) s)

/-- MVCI (R406). -/
def execMvci (h : Fin 512) (s : State) : Out :=
  .next (issueOne h (fun x t i => accEffect 4 (fun _ k _ _ _ mx my =>
    t.setSh h fun y =>
      let y := y.accesses mx my none none
      { y with a := lset y.a k x.ci }) i) s)

/-- ADDCI (R406). -/
def execAddci (h : Fin 512) (s : State) : Out :=
  .next (issueOne h (fun x t i => accEffect 5 (fun _ k _ _ _ mx my =>
    t.setSh h fun y =>
      let r := addWide (x.a.getD k 0) x.ci
      let y := y.accesses mx my none none
      let y := { y with a := lset y.a k r.1 }
      if r.2 then y.updSt fun st => setSticky st (stAV + k) else y) i) s)

/-! ### The rows of the L format -/

/-- LDI (R408). -/
def execLdi (h : Fin 512) (s : State) : Out :=
  .next (issueOne h (fun _ t i => match i with
    | .ldi dst imm => some (writeDest t h dst imm)
    | _ => none) s)

/-- MOVR (R408). -/
def execMovr (h : Fin 512) (s : State) : Out :=
  .next (issueOne h (fun _ t i => match i with
    | .movr dst src =>
      let r := readSource t h src
      some (writeDest r.1 h dst r.2)
    | _ => none) s)

/-- LDM (R408). -/
def execLdm (h : Fin 512) (s : State) : Out :=
  .next (issueOne h (fun x t i => match i with
    | .ldm dst _ addr => some (writeLoaded t h dst (x.dmAt addr))
    | _ => none) s)

/-- STM (R408). -/
def execStm (h : Fin 512) (s : State) : Out :=
  .next (issueOne h (fun x t i => match i with
    | .stm dst _ addr =>
      let v := if dst = 0x29 then liveSt t h x.st else x.reg dst
      some (t.setSh h fun y => y.later (codeMem + addr) v)
    | _ => none) s)

/-! ### The rows of the C format -/

/-- CTRL_NOP (R409). -/
def execCtrlNop (h : Fin 512) (s : State) : Out := .next (issueOne h (fun _ t i => ctlEffect 0 (fun _ _ => t) i) s)

/-- BR (R409): the condition is judged on ST as instructions three or more before left it (R410). -/
def execBr (h : Fin 512) (s : State) : Out :=
  .next (issueOne h (fun x t i => ctlEffect 1 (fun cond opd =>
    t.setSh h fun y => y.redirect (condHolds cond x.st2) opd) i) s)

/-- DBNZ (R373, R409, R410). -/
def execDbnz (h : Fin 512) (s : State) : Out :=
  .next (issueOne h (fun x t i => ctlEffect 2 (fun r opd =>
    let v := (x.wD2.getD r 0 + 2 ^ 48 - 1) % 2 ^ 48
    t.setSh h fun y => (y.decrement r v).redirect (v != 0) opd) i) s)

/-- RPT (R373, R409). -/
def execRpt (h : Fin 512) (s : State) : Out :=
  .next (issueOne h (fun _ t i => ctlEffect 3 (fun _ opd => t.setSh h fun y => { y with rpt := opd + 1 }) i) s)

/-- RPTR (R373, R374, R409). -/
def execRptr (h : Fin 512) (s : State) : Out := .next (issueOne h (fun x t i => ctlEffect 4 (fun _ _ => repeatRc h x t) i) s)

/-- WAIT (R378, R409). -/
def execWait (h : Fin 512) (s : State) : Out := .next (issueOne h (fun _ t i => ctlEffect 5 (fun _ opd => waitEffect h opd t) i) s)

/-- WAIT_LIMIT (R378): WTO is set. -/
def execWaitLimit (h : Fin 512) (s : State) : Out :=
  .next (if s.runs h && (s.sh h).waiting then
    s.setSh h fun x =>
      { x with waiting := false, cycles := x.cycles + x.waitLeft, waitLeft := 0 }.updSt fun st => putBit st stWTO true
  else s)

/-- END (R381, R409). -/
def execEndRun (h : Fin 512) (s : State) : Out :=
  .next (issueOne h (fun _ t i => ctlEffect 6 (fun _ _ => issueEnd t h) i) s)

/-- RTI (R376, R409). -/
def execRti (h : Fin 512) (s : State) : Out :=
  .next (issueOne h (fun x t i => ctlEffect 7 (fun _ _ =>
    t.setSh h fun y => { y.redirect true x.savedPc with retSlots := true }) i) s)

/-! ### Rows about a run as a whole -/

/-- INVALID_INSTRUCTION (R372): the run ends as though END had issued. -/
def execInvalidInstruction (h : Fin 512) (s : State) : Out :=
  let t := s.front h
  let bad := match s.fetched h with
    | none => true
    | some i => (t.sh h).forbids i
  .next (if s.mayIssue h && bad then
    (issueEnd (t.setSh h fun x => { x with cycles := x.cycles + 1 }) h).raise 0x831 h (be 2 (s.sh h).pc)
  else s)

/-- INSTRUCTION_FETCH_DBE (R364, R384): the run ends at once and the shuttle becomes FAILED. -/
def execInstructionFetchDbe (h : Fin 512) (s : State) : Out :=
  .next (if s.runs h then ((leaveRun (noteOver s h (s.sh h).cycles) h shFailed).count (shIdx h) 0x15 32 1).raise 0x830 h (be 1 0) else s)

/-- INTERRUPT_TAKE (R376). -/
def execInterruptTake (h : Fin 512) (s : State) : Out :=
  .next (if s.runs h then
    match s.qualifying h with
    | some i => takeInterrupt s h i
    | none => s
  else s)

/-- RUN_COMPLETE (R381). -/
def execRunComplete (h : Fin 512) (s : State) : Out :=
  .next (if s.shState h = shRunning ∧ (s.sh h).ended ∧ !s.pwr.halted then completeRun s h else s)

end Sys2Proof.Machine
end

