-- ==== Sys2Proof/Machine/ShuttleHost.lean ====
section
/-! DEFINITION. The host's side of the shuttles: images, data memory, bindings, RUN, admission and start releases, mapping out
and reinstatement, stream port words and the fetch engine (R31 to R34, R268, R374, R379 to R393). -/

namespace Sys2Proof.Machine

def stFetchAlign : Nat := 0x0801
def stFetchRange : Nat := 0x0802
def stImageInvalid : Nat := 0x0803
def stRptCeiling : Nat := 0x0804
def stNoEntry : Nat := 0x0805
def stShuttleUnavailable : Nat := 0x0806

/-- Record index of binding `n` = 4h + k (R393). -/
def shBindIdx (n : Nat) : Nat := 0x083000 + n

/-- Whether any binding of a shuttle is enabled. -/
def anyBinding (s : State) (h : Nat) : Bool := (List.range 4).any fun k => s.flag (shBindIdx (4 * h + k)) 1

/-- The bindings of the device that are enabled, ascending. -/
def enabledBindings (s : State) : List Nat :=
  s.cat.filterMap fun e =>
    if ent 0x083000 0 ≤ e.1 ∧ e.1 < ent 0x083800 0 ∧ e.1 % 256 = 1 ∧ valNum e.2 = 1 then some (e.1 / 256 - 0x083000) else none

/-! ### Images (R379, R380) -/

/-- Step 3 of R380, in the order of the image's bytes: what must hold, and the offset of the fault. -/
def imageLayout (b : List Byte) : List (Bool × Nat) :=
  let words := fieldBE b 6 2
  let n := fieldBE b 8 1
  [(fieldBE b 0 4 == 0x4A534831, 0), (fieldBE b 4 2 == 1, 4),
   (1 ≤ words && words ≤ 4096 && b.length == 132 + 8 * words, 6), (1 ≤ n && n ≤ 8, 8), (fieldBE b 9 1 == 0, 9),
   (1 ≤ fieldBE b 12 4 && fieldBE b 12 4 ≤ 65536, 12)]
  ++ ((List.range 8).map fun e =>
    if e < n then (fieldBE b (18 + 8 * e) 2 == 0, 18 + 8 * e) else (fieldBE b (16 + 8 * e) 8 == 0, 16 + 8 * e))
  ++ [(crc32c (b.take (b.length - 4)) == fieldBE b (b.length - 4) 4, b.length - 4)]

/-- Step 4 of R380: entry addresses, declared cycles and vectors. -/
def imageEntries (b : List Byte) : List (Bool × Nat) :=
  let words := fieldBE b 6 2
  ((List.range (fieldBE b 8 1)).flatMap fun e =>
    [(decide (fieldBE b (16 + 8 * e) 2 < words), 16 + 8 * e), (decide (1 ≤ fieldBE b (20 + 8 * e) 4), 20 + 8 * e)])
  ++ (List.range 16).map fun i => (!bitOf (fieldBE b 10 2) i || decide (fieldBE b (80 + 2 * i) 2 < words), 80 + 2 * i)

/-- The checks of R380 in their order. -/
def imageFault (s : State) (h : Nat) (b : List Byte) : Option Stat :=
  if s.shState h = shFailed ∨ s.shState h = shMappedOut then some (stShuttleUnavailable, 0)
  else if s.shState h = shRunning ∨ anyBinding s h ∨ selfTesting s h then some (stBusy, 0)
  else match (imageLayout b ++ imageEntries b).find? fun c => !c.1 with
    | some c => some (stImageInvalid, c.2)
    | none => if s.num (shIdx h) 2 < fieldBE b 12 4 then some (stRptCeiling, 0) else none

/-- Load an accepted image (R380, R398). -/
def loadImage (s : State) (h : Nat) (b : List Byte) : State :=
  let n := fieldBE b 6 2
  let ws := (List.range n).map fun i => (i, fieldBE b (128 + 8 * i) 8)
  let crc := fieldBE b (b.length - 4) 4
  let s := s.setSh h fun x => { x with pm := ws.filter fun w => w.2 ≠ 2 ^ 64 - 1, words := n, image := b }
  ((((putSh s h shIdle).put (shIdx h) 4 crc).put (shIdx h) 8 0).bump (ent (0x081000 + h) 0)).raise 0x813 h
    (be 4 crc ++ be 1 (fieldBE b 8 1))

/-- A program image write (R380). -/
def imageRule (h : Nat) : Rule :=
  { base := State.rulingNext, check := fun _ _ _ => none, pick := fun _ _ => none,
    judge := fun s _ v => (imageFault s h (valBytes v)).map fun e => { s := s, status := e.1, detail := e.2 },
    apply := fun s _ _ v => { s := loadImage s h (valBytes v) } }

/-- Write data memory from word 0 (R393). -/
def writeDm (x : Shuttle) (b : List Byte) : Shuttle :=
  (List.range (b.length / 6)).foldl (fun x i => x.dmPut i (fieldBE b (6 * i) 6)) x

/-- A data memory write (R393, R507): BUSY while RUNNING or under self-test; a length that is no whole number of words is
refused (log entry 19). -/
def dataMemoryRule (h : Nat) : Rule :=
  { base := State.rulingNext, pick := fun _ _ => none,
    check := fun _ _ v => if (valBytes v).length % 6 ≠ 0 then some (stTypeMismatch, 0) else none,
    judge := fun s _ _ => if s.shState h = shRunning ∨ selfTesting s h then refuse s stBusy else none,
    apply := fun s _ _ v => { s := (s.setSh h fun x => writeDm x (valBytes v)).bump (ent (0x082000 + h) 0) } }

/-! ### Bindings (R382, R383) -/

/-- A field of a binding after a write. -/
def bindField (s : State) (n sub : Nat) (cs : List (Nat × Val)) : Nat :=
  ((cs.find? fun c => c.1 = sub).map fun c => valNum c.2).getD (s.num (shBindIdx n) sub)

/-- A write of a binding's field or record (R383): PHASE lies below DIVIDE; a change of another field while enabled is BUSY;
ENABLE 1 needs the entry in the loaded image. -/
def shBindRule (n sub : Nat) : Rule :=
  { base := State.rulingNext, pick := fun _ _ => none,
    check := fun s _ v =>
      let cs := flowChanges (shBindIdx n) sub v
      if bindField s n 5 cs ≤ bindField s n 6 cs then some (stTypeMismatch, 0) else none,
    judge := fun s _ v =>
      let cs := flowChanges (shBindIdx n) sub v
      let x := s.sh (n / 4)
      if s.flag (shBindIdx n) 1 ∧ (cs.any fun c => c.1 ≠ 1 ∧ s.val (ent (shBindIdx n) c.1) ≠ c.2) then refuse s stBusy
      else if bindField s n 1 cs = 1 ∧ !s.flag (shBindIdx n) 1 then
        if selfTesting s (n / 4) then refuse s stBusy
        else if x.entries ≤ bindField s n 8 cs then refuse s stNoEntry else none
      else none,
    apply := fun s _ _ v =>
      { s := (flowChanges (shBindIdx n) sub v).foldl (fun s c => s.write (ent (shBindIdx n) c.1) c.2) s } }

/-- A change of BEATS disables the bindings whose BEAT no longer exists (R382): event 815h. -/
def dropBindings (s : State) (t : Nat) : State :=
  (enabledBindings s).foldl (fun s n =>
    if s.num (shBindIdx n) 2 = 0 ∧ s.num (shBindIdx n) 3 = t ∧ (s.tb t).cur.beats ≤ s.num (shBindIdx n) 4 then
      ((s.put (shBindIdx n) 1 0).bump (ent (shBindIdx n) 1)).raise 0x815 (n / 4) (be 1 (n % 4))
    else s) s

/-! ### Admission (R32, R33, R268) -/

/-- Cycles until the next ruling window opens, on the generator and the settings that will then be in force (R23). -/
def cyclesToWindow (s : State) : Option Nat :=
  let r := s.tb s.rulingTb
  if !r.armed then none
  else match s.ruling.newRuling with
  | none =>
    match r.want with
    | some p => some (r.cyclesTo (p.start (r.firstUnder p)))
    | none => some (r.cyclesTo (r.cur.start r.high))
  | some u =>
    let b := s.tb u
    let p := b.want.getD b.cur
    let met := b.run (r.cyclesTo (r.cur.start r.high))
    if b.armed then some (b.cyclesTo (p.start (max b.high (p.pickAt met.time)))) else none

/-- Cycles until the window of a timed command opens, on its own generator. -/
def cyclesToPick (s : State) (c : TimedCmd) : Nat :=
  let b := s.tb c.tb
  b.cyclesTo ((b.want.getD b.cur).start c.pick)

/-- Operating points that a change scheduled for a ruling window before `left` cycles from now lowers domain `d` to: timed
ones, and an untimed one in the next window (R33). -/
def scheduledLowerings (s : State) (d left : Nat) : List Nat :=
  let timed := (s.ruling.timed.filter fun c => c.key == ent (domIdx d) 1 && cyclesToPick s c < left).map fun c => valNum c.val
  let untimed := match (s.dom d).pend with
    | some op => if (cyclesToWindow s).any (· < left) then [op] else []
    | none => []
  (timed ++ untimed).filter fun op => op < s.num (domIdx d) 2

/-- The clock of R32 and R33 in 10 Hz units. -/
def admissionHz (s : State) (d left : Nat) : Nat :=
  ((scheduledLowerings s d left).map fun op => opKHz d op * (2000 - (s.dom d).spread) / 20).foldl Nat.min (domainTenHz s d)

/-- Cycles available in `span` units of 2^-32 ns over `den`, less the guard (R32). -/
def availableIn (s : State) (span den hz : Nat) : Nat :=
  (span - s.num 0x030000 3 * nsUnit * den) * hz / (nsUnit * den * 100000000)

/-- Available cycles of a start of shuttle `h` on time base `t` (R32 for beats, R268 for trigger instants). -/
def available (s : State) (h t : Nat) (x : StartRel) : Nat :=
  let d := 2 * (h / 128)
  let b := s.tb t
  match x.trig with
  | none =>
    let left := b.cyclesTo (b.cur.start (x.pick + 1))
    availableIn s ((b.cur.beats - x.beat) * b.cur.den * 1000000000 * nsUnit) (b.cur.num * b.cur.beats) (admissionHz s d left)
  | some _ =>
    let at_ := if x.tb = t then x.pick else b.time - 128 * b.inc
    let n := b.cur.holding at_
    let left := b.cyclesTo (b.cur.start (n + 1))
    availableIn s ((n + 1) * b.cur.den * 1000000000 * nsUnit - at_ * b.cur.num) b.cur.num (admissionHz s d left)

/-- Whether starts of a shuttle may be judged at all (R247, R382, R392): not gated or asked to gate, its domain clocked, no
self-test. -/
def startable (s : State) (h : Nat) : Bool :=
  s.shState h == shIdle && !s.pwr.halted && s.num (gateIdx (h / 8)) 2 == 0 && (s.dom (2 * (h / 128))).started && !selfTesting s h

/-- Why a start did not run: 1 refused, 2 skipped (R383); 0 it ran. -/
def judgeStart (s : State) (h e t : Nat) (x : StartRel) : State × Nat :=
  if s.shState h = shRunning then
    ((s.count (shIdx h) 0x0B 32 1).raise 0x811 h (be 2 h ++ be 1 e), 2)
  else
    let c := (s.sh h).declared e
    let n := if startable s h then available s h t x else 0
    if startable s h ∧ e < (s.sh h).entries ∧ c ≤ n then (startRun s h e t, 0)
    else ((s.count (shIdx h) 0x0A 32 1).raise 0x810 h (be 2 h ++ be 1 e ++ be 4 c ++ be 4 n), 1)

/-- Whether a binding is bound to a release (R382). -/
def bindingDue (s : State) (n : Nat) (x : StartRel) : Bool :=
  let f := fun sub => s.num (shBindIdx n) sub
  match x.trig with
  | some u => f 2 == 1 && f 7 == u
  | none => f 2 == 0 && f 3 == x.tb && f 4 == x.beat && f 4 < (s.tb x.tb).cur.beats && x.pick % f 5 == f 6

/-- The entry RUN of a shuttle (R393). -/
def runKey (h : Nat) : Nat := ent (shIdx h) 0x12

/-- The shuttle whose RUN entry a key is. -/
def runShuttle (key : Nat) : Option Nat :=
  if shIdx 0 ≤ key / 256 ∧ key / 256 < shIdx 512 ∧ key % 256 = 0x12 then some (key / 256 - shIdx 0) else none

/-- The accepted RUN commands of a release, in the order of R27 and R28. -/
def runsDue (s : State) (x : StartRel) : List TimedCmd :=
  if x.trig.isSome ∨ x.beat ≠ 0 then []
  else orderCmds ((pendingFor s x.tb x.pick).filter fun c => (runShuttle c.key).isSome)

/-- A release (R382, R383): bindings in ascending number, then RUN starts. -/
def release (s : State) (x : StartRel) : State :=
  let s := ((enabledBindings s).filter fun n => bindingDue s n x).foldl (fun s n =>
    (judgeStart s (n / 4) (s.num (shBindIdx n) 8) (if x.trig.isSome then s.num (shBindIdx n) 3 else x.tb) x).1) s
  let cs := runsDue s x
  let s := { s with ruling := { s.ruling with timed := s.ruling.timed.filter fun c => !cs.contains c } }
  cs.foldl (fun s c =>
    let r := judgeStart s ((runShuttle c.key).getD 0) (valNum c.val) x.tb x
    finishCmd r.1 c (if r.2 = 0 then stOk else stBusy)) s

/-- The time base of RUN. -/
def runTb (s : State) (h : Nat) : Nat := s.num (shIdx h) 0x13

/-- RUN (R383, R507): without a time of execution, the first pick of RUN_TB whose boundary follows. -/
def runRule (h : Nat) : Rule :=
  { base := fun s => runTb s h, check := fun _ _ _ => none,
    judge := fun s _ v =>
      if !(s.tb (runTb s h)).armed then refuse s stNotReady 1
      else if selfTesting s h then refuse s stBusy
      else if (s.sh h).entries ≤ valNum v then refuse s stNoEntry else none,
    pick := fun s _ => some (nextPickOf s (runTb s h)),
    apply := fun s _ _ _ => { s := s, later := true } }

/-! ### Control entries (R374, R384, R391) -/

/-- The host maps a shuttle out (R384, R389, R390): event 833h. -/
def mapOut (s : State) (h : Nat) : State :=
  (putSh (discardPartial s h) h shMappedOut).raise 0x833 (h / 8) (be 2 h ++ be 1 0)

/-- MAPOUT (R384): BUSY while RUNNING or with a binding enabled. -/
def mapoutRule (h : Nat) : Rule :=
  { base := State.rulingNext, check := fun _ _ _ => none, pick := fun _ _ => none,
    judge := fun s _ v =>
      if valNum v = 1 ∧ (s.shState h = shRunning ∨ anyBinding s h) then refuse s stBusy else none,
    apply := fun s _ _ v => { s := if valNum v = 1 ∧ s.shState h ≠ shMappedOut then mapOut s h else s } }

/-- MAILBOX (R375): source 12. -/
def mailboxRule (h : Nat) : Rule :=
  { base := State.rulingNext, check := fun _ _ _ => none, judge := fun _ _ _ => none, pick := fun _ _ => none,
    apply := fun s _ _ v => { s := pend (s.write (ent (shIdx h) 0x0F) v) h 12 } }

/-- RPT_CEILING (R374). -/
def rptCeilingRule (h : Nat) : Rule :=
  { base := State.rulingNext, check := fun _ _ _ => none, pick := fun _ _ => none,
    judge := fun s _ v => if (s.sh h).words ≠ 0 ∧ valNum v < (s.sh h).rptMax then refuse s stBusy else none,
    apply := fun s _ _ v => { s := s.write (ent (shIdx h) 2) v } }

/-- The shuttles of a cluster that its reinstatement returns (R391). -/
def readyShuttles (s : State) (c : Nat) : List Nat :=
  ((List.range 8).map (8 * c + ·)).filter fun h =>
    s.flag (shIdx h) 0x16 && !s.unit.mappedOut.contains h && (s.shState h == shFailed || s.shState h == shMappedOut)

/-- Reinstate a cluster (R384, R391); `none` where no shuttle is ready. -/
def reinstateCluster (s : State) (c : Nat) : Option State :=
  match readyShuttles s c with
  | [] => none
  | l => some (l.foldl (fun s h =>
      let s := s.setSh h fun x => { x with pm := [], dm := [], image := [], words := 0 }
      (((putSh s h shEmpty).put (shIdx h) 4 0).put (shIdx h) 0x16 0).raise 0x833 c (be 2 h ++ be 1 1)) s)

/-- Cluster REINSTATE (R391): BUSY unless some shuttle is ready; untimed it requests the task. -/
def clusterReinstateRule (c : Nat) : Rule :=
  { base := State.rulingNext, check := fun _ _ _ => none, pick := fun _ _ => none,
    judge := fun s _ v => if valNum v = 1 ∧ readyShuttles s c = [] then refuse s stBusy else none,
    apply := fun s _ _ v => if valNum v = 1 then requestDone s .cluster c else { s := s } }

/-- A DEV_RESET_N reset (R365, R389, R392): every shuttle that is not MAPPED_OUT or FAILED becomes EMPTY, its registers and
memories zero, its bindings at their defaults. -/
def resetShuttle (s : State) (h : Nat) : State :=
  if s.shState h = shMappedOut ∨ s.shState h = shFailed then discardPartial s h
  else
    let s := discardPartial s h
    let s := { s with shu := { s.shu with tab := tdel s.shu.tab h },
                      cat := s.cat.filter fun e => !(e.1 / 1024 = 0x083000 / 4 + h) }
    if s.shState h = shEmpty then s else (putSh s h shEmpty).put (shIdx h) 4 0

/-- The same for the array: only shuttles that hold anything change. -/
def resetShuttles (s : State) : State := (List.range 512).foldl resetShuttle s

/-! ### The fetch engine (R388 to R390) -/

/-- Bytes of an element by FORMAT. -/
def elemBytes (fmt : Nat) : Option Nat := [6, 8, 2, 2, 4][fmt]?

/-- An element read from memory, as a data memory word. -/
def elemIn (fmt : Nat) (b : List Byte) : Nat :=
  match fmt with
  | 3 => wrap 48 (signed 16 (unbe b))
  | 4 => wrap 48 (signed 32 (unbe b))
  | _ => unbe b % 2 ^ 48

/-- A data memory word as an element in memory. -/
def elemOut (fmt v : Nat) : List Byte :=
  match fmt with
  | 0 => be 6 v
  | 1 => be 8 (wrap 64 (signed 48 v))
  | 4 => be 4 v
  | _ => be 2 v

/-- A fetch under way: elements moved, the status it failed with, and the granule the engine works on, with its bytes. -/
structure Fetch where
  s : State
  moved : Nat := 0
  bad : Option Nat := none
  held : Option (Nat × List Byte) := none

/-- Read bytes for an initiator, a granule at a time; the last one leaves its page closed (R448). -/
def fetchRead (s : State) (i a n : Nat) : State × Option (List Byte) :=
  let r := readGranules s i (a / 64 * 64) (ceilDiv (a % 64 + n) 64) false
  (r.1, r.2.map fun b => slice b (a % 64) n)

/-- Write one piece within a granule (R438, R441): plain memory takes it at once, and it is counted; protected memory and the design's
target ports take a packet; packet staging takes none. -/
def fetchPiece (s : State) (i a : Nat) (b : List Byte) (keep : Bool) : Option (State × Nat) :=
  match targetOf s i a with
  | none => none
  | some t =>
    if s.ni t ≠ niOnline then none
    else match packetAccess s { kind := kPartial, target := t, init := i, addr := a }, placeOf a with
      | .barred _, _ => none
      | .guarded _, _ => some (sendGranule s i a b keep, 0)
      | .plain, some (.dram _ loc) =>
        some ((match channelAt s loc with
          | some (c, x) => rowAccess s c (fieldsOf s c x) false keep 1
          | none => s).store loc b, 1)
      | .plain, some (.archive k off) => (archiveWrite s a off k 1 b).map fun s => (s, 1)
      | .plain, some (.fabric _) => some (sendGranule s i a b keep, 0)
      | .plain, _ => none

/-- Write bytes for an initiator, and the granules that memory took; `keep` is the page hint of the last piece. -/
def fetchWrite (s : State) (i a : Nat) (b : List Byte) (keep : Bool) : Option (State × Nat) :=
  let l := granulePieces (b.length + 1) a b
  (l.mapIdx fun k p => (k, p)).foldl (fun s p => s.bind fun s =>
    (fetchPiece s.1 i p.2.1 p.2.2 (keep || p.1 + 1 != l.length)).map fun r => (r.1, s.2 + r.2)) (some (s, 0))

/-- A granule of a line that ends at byte `fin`: the engine reads each one once (R390), and leaves the page of the last one closed
(R448). -/
def fetchGranule (f : Fetch) (i fin g : Nat) : Fetch × Option (List Byte) :=
  match f.held with
  | some (k, b) => if k = g then (f, some b) else next
  | none => next
where
  /-- The granule read anew. -/
  next : Fetch × Option (List Byte) :=
    let r := readGranules f.s i (64 * g) 1 (g != fin / 64)
    ({ f with s := r.1, held := r.2.map fun b => (g, b) }, r.2)

/-- The bytes of an element that a fetch reads. -/
def fetchBytes (f : Fetch) (i fin a n : Nat) : Fetch × Option (List Byte) :=
  let r := fetchGranule f i fin (a / 64)
  match r.2 with
  | none => (r.1, none)
  | some b =>
    if (a + n - 1) / 64 = a / 64 then (r.1, some (slice b (a % 64) n))
    else
      let q := fetchGranule r.1 i fin (a / 64 + 1)
      (q.1, q.2.map fun c => slice (b ++ c) (a % 64) n)

/-- The traffic of an element that plain memory took: its granule, where the engine had not written it already (R390, R435). -/
def fetchNote (f : Fetch) (i a plain : Nat) : Fetch :=
  if plain = 0 ∨ f.held.any (fun h => h.1 == a / 64) then f
  else { f with s := noteBurst f.s i a 1, held := some (a / 64, []) }

/-- Status of an element that did not move: FETCH_RANGE where its address maps to no target (R415). -/
def elemFault (s : State) (i a n : Nat) : Nat :=
  if (targetOf s i a).isNone ∨ (targetOf s i (a + (n - 1))).isNone then stFetchRange else stTargetUnavailable

/-- Move one element of a line that ends at byte `fin`. -/
def fetchElem (h dir fmt es local_ fin addr : Nat) (failAt : Option Nat) (f : Fetch) : Fetch :=
  if f.bad.isSome then f
  else if failAt = some f.moved then { f with bad := some stTargetUnavailable }
  else if dir = 0 then
    match fetchBytes f (h / 8) fin addr es with
    | (g, some b) => { g with s := g.s.setSh h fun x => x.dmPut local_ (elemIn fmt b), moved := f.moved + 1 }
    | (g, none) => { g with bad := some (elemFault f.s (h / 8) addr es) }
  else
    match fetchWrite f.s (h / 8) addr (elemOut fmt ((f.s.sh h).dmAt local_)) (addr + es <= fin) with
    | some r => fetchNote { f with s := r.1, moved := f.moved + 1 } (h / 8) (addr + es - 1) r.2
    | none => { f with bad := some (elemFault f.s (h / 8) addr es) }

/-- Whether an address lies in the map of Archive and LPDDR4X memory (R388, R438). -/
def inMemoryMap (a : Int) : Bool :=
  if a < 0 then false
  else match placeOf a.toNat with
    | some (.dram slot _) => slot < 16
    | some (.archive _ _) => true
    | _ => false

/-- Carry out a descriptor (R388, R390). -/
def runDesc (s : State) (h : Nat) (d : Desc) (failAt : Option Nat) : Fetch :=
  let dir := bits d.w1 33 32
  let fmt := bits d.w1 31 29
  let words := bits d.w1 28 16
  let lines := bits d.w1 15 0
  let stride := signed 24 (bits d.w2 47 24)
  let step := if fmt = 4 then 4 else if fmt = 1 then 8 else 2
  match elemBytes fmt with
  | none => { s := s, bad := some stFetchRange }
  | some es =>
    if 2 ≤ dir ∨ words = 0 ∨ lines = 0 then { s := s, bad := some stFetchRange }
    else if d.w0 % step ≠ 0 ∨ stride % (step : Int) ≠ 0 then { s := s, bad := some stFetchAlign }
    else (List.range lines).foldl (fun (f : Fetch) (i : Nat) =>
      if f.bad.isSome then f
      else
        let a := (d.w0 : Int) + (i : Int) * stride
        if !inMemoryMap a then { f with bad := some stFetchRange }
        else (List.range words).foldl (fun (f : Fetch) (j : Nat) =>
          fetchElem h dir fmt es ((bits d.w1 47 34 + i * bits d.w2 13 0 + j) % 16384) (a.toNat + words * es - 1)
            (a.toNat + j * es) failAt f) { f with held := none })
      { s := s }

/-- Queue a completion word (R390): a ninth displaces the oldest and sets FQF. -/
def Shuttle.complete (x : Shuttle) (v : Nat) : Shuttle :=
  if x.fd.length < 8 then { x with fd := x.fd ++ [v] }
  else { x with fd := x.fd.drop 1 ++ [v] }.updSt fun st => putBit st stFQF true

/-- A WAIT ends as its last descriptor completes (R26, R378). -/
def endWait (s : State) (h : Nat) : State :=
  if (s.sh h).waiting ∧ (s.sh h).descs.isEmpty then
    let w := waited s h
    s.draw.setSh h fun x => { x with waiting := false, cycles := x.cycles + w, waitLeft := 0 }.updSt fun st => putBit st stWTO false
  else s

/-- The oldest descriptor of a shuttle completes (R390). -/
def completeFetch (s : State) (h : Nat) (d : Desc) (failAt : Option Nat) : State :=
  let f := runDesc s h d failAt
  let st := f.bad.getD stOk
  let tag := bits d.w3 47 40
  let s := f.s.count (0x080400 + h / 8) 4 64 (f.moved * (elemBytes (bits d.w1 31 29)).getD 0)
  let s := s.setSh h fun x =>
    let x := { x with descs := x.descs.drop 1 }
    if s.shState h = shMappedOut then x else x.complete (tag * 2 ^ 40 + st * 2 ^ 24 + f.moved % 2 ^ 24)
  let s := if st ≠ stOk then (pend s h 5).raise 0x820 h (be 1 tag ++ be 2 st)
    else if d.w3 % 2 = 1 then pend s h 4 else s
  endWait s h

/-! ### The rows -/

/-- SHUTTLE_START_RELEASE (R14, R382): the next release, once its time has come. -/
def execShuttleStartRelease (s : State) : Out :=
  .next (match s.ruling.releases with
    | [] => s
    | x :: r =>
      let s := s.waitUntil x.due
      release { s with ruling := { s.ruling with releases := r } } x)

/-- SHUTTLE_EVENT_INPUT (R112, R375). -/
def execShuttleEventInput (h : Fin 512) (i : Fin 4) (s : State) : Out :=
  .next (if s.mgmt.toShuttles.contains (h.val, i.val) then
    pend { s with mgmt := { s.mgmt with toShuttles := s.mgmt.toShuttles.erase (h.val, i.val) } } h i
  else s)

/-- IMAGE_WRITE (R379, R380). -/
def execImageWrite (r : Req) (h : Fin 512) (bytes : List Byte) (s : State) : Out :=
  .next (submit s r (ent (0x081000 + h) 0) (.oct bytes) (imageRule h))

/-- DATA_MEMORY_WRITE (R393). -/
def execDataMemoryWrite (r : Req) (h : Fin 512) (bytes : List Byte) (s : State) : Out :=
  .next (submit s r (ent (0x082000 + h) 0) (.oct bytes) (dataMemoryRule h))

/-- BINDING_ENABLE (R383). -/
def execBindingEnable (r : Req) (h : Fin 512) (k : Fin 4) (v : Nat) (s : State) : Out :=
  .next (submit s r (ent (shBindIdx (4 * h + k)) 1) (.num v) (shBindRule (4 * h + k) 1))

/-- RUN (R383). -/
def execRun (r : Req) (h : Fin 512) (v : Nat) (s : State) : Out := .next (submit s r (runKey h) (.num v) (runRule h))

/-- MAPOUT (R384). -/
def execMapout (r : Req) (h : Fin 512) (v : Nat) (s : State) : Out :=
  .next (submit s r (ent (shIdx h) 3) (.num v) (mapoutRule h))

/-- MAILBOX (R375). -/
def execMailbox (r : Req) (h : Fin 512) (v : Nat) (s : State) : Out :=
  .next (submit s r (ent (shIdx h) 0x0F) (.num v) (mailboxRule h))

/-- RPT_CEILING (R374). -/
def execRptCeiling (r : Req) (h : Fin 512) (v : Nat) (s : State) : Out :=
  .next (submit s r (ent (shIdx h) 2) (.num v) (rptCeilingRule h))

/-- CLUSTER_REINSTATE (R391). -/
def execClusterReinstate (r : Req) (c : Fin 64) (v : Nat) (s : State) : Out :=
  .next (submit s r (ent (0x080400 + c) 3) (.num v) (clusterReinstateRule c))

/-- SHS_IN_WORD (R385, R386): a word is taken while READY is high. -/
def execShsInWord (h : Fin 512) (port : Bool) (w : BitVec 48) (s : State) : Out :=
  let i := if port then 1 else 0
  .next (if s.fabricRuns && !s.pwr.halted && ((s.sh h).si.getD i []).length < 32 then
    s.setSh h fun x => { x with si := x.si.modify i fun q => q ++ [w.toNat] }
  else s)

/-- SHS_OUT_WORD (R385, R386): the design takes the oldest word. -/
def execShsOutWord (h : Fin 512) (port : Bool) (s : State) : Out :=
  let i := if port then 1 else 0
  .next (if s.fabricRuns && !s.pwr.halted then s.setSh h fun x => { x with so := x.so.modify i fun q => q.drop 1 } else s)

/-- FETCH_COMPLETE (R388 to R390): `failAt` is the element whose target does not answer. -/
def execFetchComplete (h : Fin 512) (failAt : Option Nat) (s : State) : Out :=
  .next (match (s.sh h).descs with
    | [] => s
    | d :: _ => if s.pwr.halted then s else completeFetch s h d failAt)

end Sys2Proof.Machine
end

