-- ==== Sys2Proof/Machine/Configure.lean ====
section
/-! DEFINITION. Loading the fabric: clears, headers, frames, end checks, start-up, panels and their release (R139 to R172). -/

namespace Sys2Proof.Machine

/-! ### Codes (R171) -/

def cfWrongDevice : Nat := 0x0901
def cfHeaderInvalid : Nat := 0x0902
def cfFeatureLevel : Nat := 0x0903
def cfEngineAbsent : Nat := 0x0904
def cfUnsigned : Nat := 0x0905
def cfSignatureInvalid : Nat := 0x0906
def cfParentMismatch : Nat := 0x0907
def cfPanelBusy : Nat := 0x0908
def cfFrameCheck : Nat := 0x0909
def cfTotalCheck : Nat := 0x090A
def cfFrameAddress : Nat := 0x090B
def cfContention : Nat := 0x090C
def cfEarlyEnd : Nat := 0x090D
def cfNotVerified : Nat := 0x090E
def cfIcpNotGranted : Nat := 0x090F
def cfHalted : Nat := 0x0910
def cfModeInvalid : Nat := 0x0911

/-- Configuration states (R170). -/
def csClearing : Nat := 0
def csIdle : Nat := 1
def csLoading : Nat := 2
def csChecking : Nat := 3
def csWaitTick : Nat := 4
def csRunning : Nat := 5
def csError : Nat := 6
def csHalted : Nat := 7

/-- State of the configuration engine. -/
def State.cfgState (s : State) : Nat := s.num 0x0C0000 1

/-- Enter a configuration state. -/
def putCfg (s : State) (st : Nat) : State := s.put 0x0C0000 1 st

/-- Panel states (R170). -/
def pnUndefined : Nat := 0
def pnActive : Nat := 1
def pnIsolated : Nat := 2
def pnLoading : Nat := 3
def pnVerified : Nat := 4
def pnIncomplete : Nat := 5
def pnPending : Nat := 6

/-- Record index of a panel. -/
def panelIdx (p : Nat) : Nat := 0x0C0100 + p

/-- State of a panel. -/
def State.panel (s : State) (p : Nat) : Nat := s.num (panelIdx p) 1

/-- Enter a panel state. -/
def putPanel (s : State) (p st : Nat) : State := s.put (panelIdx p) 1 st

/-- Change a panel's hem. -/
def State.setHem (s : State) (p : Nat) (f : PanelHid → PanelHid) : State :=
  { s with cfg := { s.cfg with panelHid := lmod s.cfg.panelHid p f } }

/-- The load on a port. -/
def State.loadOn (s : State) : LoadPort → Option Load
  | .slave => s.cfg.load
  | .icp b => (s.cfg.icp[b.val]?).join

/-- Replace the load on a port. -/
def State.setLoad (s : State) (port : LoadPort) (l : Option Load) : State :=
  match port with
  | .slave => { s with cfg := { s.cfg with load := l } }
  | .icp b => { s with cfg := { s.cfg with icp := s.cfg.icp.set b l } }

/-- The synchronisation word (R144). -/
def syncWordValue : Nat := 0x7E6A3C15

/-- The end word (R147). -/
def endWordValue : Nat := 0x4A454E44

/-! ### Releases (R166 to R169) -/

/-- Every pending hem release is cancelled, timed ones with TARGET_UNAVAILABLE, those of an open window among them (R169). -/
def cancelReleases (s : State) : State :=
  let s := cancelTimed s (fun c => (taskOf c.key).any fun t => t.1 == .hem) stTargetUnavailable
  let mine := s.ruling.sched.filter fun t => t.kind = .hem
  let s := { s with ruling := { s.ruling with sched := s.ruling.sched.filter (fun t => t.kind ≠ .hem),
                                              untimed := s.ruling.untimed.filter fun u => u.kind ≠ .hem } }
  mine.foldl (fun s t => completeCmd s t.cmd stTargetUnavailable) s

/-- What cancelled commands held is free again: the ramp of a raise that no longer comes leaves V_req (R239), and a panel
whose release no longer comes is VERIFIED, or ISOLATED where nothing was loaded (log entry 17). -/
def freeCancelled (s : State) (gone : List TimedCmd) : State :=
  gone.foldl (fun (s : State) (c : TimedCmd) =>
    let idx := c.key / 256
    if domIdx 0 ≤ idx ∧ idx ≤ domIdx 7 ∧ c.key % 256 = 1 then
      let d := idx - domIdx 0
      let s := railToReq (dropRamp s d (valNum c.val)) d
      if (s.domState d = dRampUp ∨ s.domState d = dStepPending) ∧ (s.dom d).ramps = [] ∧ (s.dom d).pend.isNone then
        s.putDomState d dSteady else s
    else match taskOf c.key with
      | some (.hem, p) =>
        if s.panel p = pnPending then putPanel s p (if (s.cfg.panelHid.getD p {}).loaded then pnVerified else pnIsolated) else s
      | _ => s) s

/-- Panel records read UNDEFINED until the next start-up (R169). -/
def undefinePanels (s : State) : State :=
  (List.range 64).foldl (fun s p =>
    if s.panel p = pnUndefined then s else ((putPanel s p pnUndefined).put (panelIdx p) 3 0).setHem p fun _ => {}) s

/-! ### The end of a partial load (R160, R165) -/

/-- The load on an ICP ends with a code: ICP_STATUS, ICP_DONE and ICP_BUSY, and the MGC's operation. -/
def endIcp (s : State) (b : Nat) (code detail : Nat) : State :=
  let op := ((s.cfg.icp[b]?).join).bind fun l => l.byMgc
  let s := { s with cfg := { s.cfg with icp := s.cfg.icp.set b none, icpBusy := s.cfg.icpBusy.set b false,
                                        icpDone := s.cfg.icpDone.set b (some s.now), icpStatus := s.cfg.icpStatus.set b code } }
  match op with
  | none => s
  | some k => if code = stOk then finishOp s k else failOp s k code detail

/-- A partial load fails, ends early or is cancelled (R165): the panel is INCOMPLETE. -/
def failPartial (s : State) (b : Fin 4) (code addr : Nat) : State :=
  match s.loadOn (.icp b) with
  | none => s
  | some l =>
    let s := if l.got = 0 then s
      else (((putPanel s l.panel pnIncomplete).put (panelIdx l.panel) 2 0).put (panelIdx l.panel) 7 code).raise 0xD13 b
        (be 1 l.panel ++ be 2 code ++ be 4 addr)
    endIcp s b code addr

/-- The fabric is unconfigured (R157, R188, R225, R279, R432): clocks gated, flip-flops held, I/O high-Z, channels IDLE. -/
def unconfigure (s : State) : State :=
  let s := (List.range 32).foldl (fun s j => drainNi s (64 + j)) s
  let s := clearFabric (idleChannels (rawLanes s false))
  let s := (List.range 32).foldl (fun s l => (s.put (uloopIdx l) 1 0).setUloop l fun _ => {}) s
  { s with
    cfg := { s.cfg with
      compiled := {}, startAt := none, startPhase := 0, startTick := none, seamTrained := false, endOk := false,
      ffHeld := true, ioHiZ := true, clocksGated := true, hemSafe := false, parUser := false, done := false },
    cap := { s.cap with users := [], restoring := false, bridgeQueue := s.cap.bridgeQueue.filter fun r => !r.restore } }

/-- A full load fails after its header (R143, R157, R172, R188): frames written stay written but never run (R152). -/
def failFull (s : State) (code addr : Nat) : State :=
  let s := putCfg (unconfigure (s.setLoad .slave none)) csError
  let s := { s with cfg := { s.cfg with errorN := false } }
  ((s.put 0x0C0000 2 code).put 0x0C0000 3 addr).raise 0xD03 0 (be 2 code ++ be 4 addr)

/-- A load fails on its port. -/
def failLoad (s : State) (port : LoadPort) (code addr : Nat) : State :=
  match port with
  | .slave => failFull s code addr
  | .icp b => failPartial s b code addr

/-! ### Clears (R143, R157) -/

/-- A clear begins (R143): cause 0 power-up, 1 reset, 2 CLEAR, 3 CFG_SEL_N. -/
def beginClear (s : State) (cause : Nat) : State :=
  let s := (List.finRange 4).foldl (fun s b => failPartial s b cfEarlyEnd 0) s
  let s := undefinePanels (cancelReleases s)
  let s := putCfg (unconfigure (s.setLoad .slave none)) csClearing
  let s := (s.put 0x0C0000 4 0).put 0x0C0000 8 0
  let s := { s with
    cfg := { s.cfg with
      frames := [], initLow := true, initDriven := true, cleared := false, errorN := true, clearCause := cause, clearAt := s.now } }
  s.raise 0xD04 0 (be 1 cause)

/-- CLEAR (R143, R169). -/
def clearRule : Rule :=
  { base := State.rulingNext, check := fun _ _ _ => none, judge := fun _ _ _ => none, pick := fun _ _ => none,
    apply := fun s _ _ v => { s := if valNum v = 1 then beginClear s 2 else s } }

/-- CFG_MODE is sampled (R139): a reserved mode reads MODE_INVALID. -/
def sampleMode (s : State) (mode : Nat) : State :=
  let s := { s with cfg := { s.cfg with cfgMode := mode } }
  let s := s.put 0x0C0000 6 mode
  if 2 ≤ mode then s.put 0x0C0000 2 cfModeInvalid else s

/-- CFG_INIT_N rises after a clear: CFG_MODE is sampled and the engine is IDLE (R139, R143). -/
def initHigh (s : State) (mode : Nat) : State :=
  let s := sampleMode s mode
  putCfg { s with cfg := { s.cfg with initLow := false, cleared := false } } csIdle

/-- The clear is complete and CFG_INIT_N released (R137, R143); an external low may hold it. -/
def finishClear (s : State) (mode : Nat) (high : Bool) : State :=
  if s.cfgState = csClearing ∧ s.cfg.initDriven ∧ !s.pwr.thermalHold then
    let s := { s with cfg := { s.cfg with initDriven := false, cleared := true } }
    if high then initHigh s mode else s
  else s

/-! ### Headers (R144, R146, R150) -/

/-- Frames of a full bitstream (R146). -/
def fullFrames : Nat := 507904

/-- A field of a header word. -/
def hdr (ws : List Nat) (i hi lo : Nat) : Nat := bits (ws.getD i 0) hi lo

/-- The panels of the running static design. -/
def panelDef (s : State) (p : Nat) : Option PanelDef := tget s.cfg.compiled.panels p

/-- Reserved bits of a header are zero, and its check and signature modes are defined. -/
def headerClean (ws : List Nat) : Bool :=
  hdr ws 3 15 3 == 0 && hdr ws 9 31 8 == 0 && hdr ws 12 31 2 == 0 && hdr ws 13 31 0 == 0 && hdr ws 14 31 0 == 0
    && hdr ws 3 31 24 ≤ 1 && hdr ws 3 23 16 ≤ 1

/-- The checks of R150, in order: the code and detail of the first that fails. -/
def headerFault (s : State) (port : LoadPort) (ws : List Nat) : Option (Nat × Nat) :=
  let u64 := fun i => ws.getD i 0 * 2 ^ 32 + ws.getD (i + 1) 0
  let panel := hdr ws 9 7 0
  let frames := ws.getD 4 0
  let full := match port with
    | .slave => true
    | .icp _ => false
  let kindOk :=
    if full then hdr ws 1 23 16 == 1 && u64 7 == 0 && hdr ws 9 7 0 == 0 && frames == fullFrames
    else hdr ws 1 23 16 == 2 && hdr ws 3 2 0 == 0 && ws.getD 10 0 == 0 && ws.getD 11 0 == 0
      && ((panelDef s panel).map fun d => d.frames.length == frames).getD true
  let mine := match port with
    | .slave => true
    | .icp b => panel / 16 == b.val && (((s.loadOn port).bind fun l => l.byMgc).map fun k =>
        s.opTarget k == panelIdx panel).getD true
  if s.pwr.halted then some (cfHalted, 0)
  else if crc32c (wordBytes (ws.take 15)) ≠ ws.getD 15 0 ∨ hdr ws 1 31 24 ≠ 1 ∨ !headerClean ws ∨ u64 5 = 0 then
    some (cfHeaderInvalid, 0)
  else if ws.getD 2 0 ≠ s.num 0x000003 0 then some (cfWrongDevice, 0)
  else if !kindOk then some (cfHeaderInvalid, 0)
  else if s.num 0x000004 5 < hdr ws 1 15 8 then some (cfFeatureLevel, 0)
  else if hdr ws 1 7 0 &&& (0xFF ^^^ oeFitted s.unit) ≠ 0 then some (cfEngineAbsent, 0)
  else if s.flag 0x0C0000 0x0A ∧ hdr ws 3 23 16 ≠ 1 then some (cfUnsigned, 0)
  else if hdr ws 3 23 16 = 1 ∧ s.oct 0x0C0001 (1 + hdr ws 12 1 0) = [] then some (cfSignatureInvalid, 1)
  else if full then none
  else if u64 7 ≠ s.num 0x0C0000 4 ∨ (panelDef s panel).isNone ∨ !mine then some (cfParentMismatch, 0)
  else if s.panel panel = pnLoading ∨ s.panel panel = pnPending then some (cfPanelBusy, 0)
  else none

/-- The load that an accepted header begins. -/
def loadOf (ws : List Nat) (l : Load) : Load :=
  { l with
    got := 1, words := ws, kind := hdr ws 1 23 16, isPartial := hdr ws 1 23 16 = 2, checkMode := hdr ws 3 31 24,
    sig := hdr ws 3 23 16, w3 := hdr ws 3 15 0, frames := ws.getD 4 0, bsid := ws.getD 5 0 * 2 ^ 32 + ws.getD 6 0,
    parent := ws.getD 7 0 * 2 ^ 32 + ws.getD 8 0, panel := hdr ws 9 7 0, mch := ws.getD 10 0, tableWords := ws.getD 11 0,
    keySlot := hdr ws 12 1 0 }

/-- Isolate a panel (R163): only an ACTIVE one changes; its hem cells latch. Cause 0 header, 1 ICP_ISOLATE, 2 ISOLATE. -/
def isolatePanel (s : State) (p cause : Nat) : State :=
  if s.panel p ≠ pnActive then s
  else ((putPanel s p pnIsolated).setHem p fun _ => { isolated := true, latched := latchHem s p }).raise 0xD10 (p / 16)
    (be 1 p ++ be 1 cause)

/-- A header is refused (R150). -/
def refuseHeader (s : State) (port : LoadPort) (ws : List Nat) (code detail : Nat) : State :=
  let panel := hdr ws 9 7 0
  let s := s.raise 0xD02 0 (be 1 (hdr ws 1 23 16) ++ be 1 panel ++ be 2 code)
  match port with
  | .slave =>
    let s := putCfg (s.setLoad .slave none) csIdle
    let s := { s with cfg := { s.cfg with errorN := false } }
    (s.put 0x0C0000 2 code).put 0x0C0000 3 detail
  | .icp b =>
    let s := if panel / 16 = b.val then s.put (panelIdx panel) 7 code else s
    endIcp s b code 0

/-- A header is accepted (R143, R154, R163, R172). -/
def acceptHeader (s : State) (port : LoadPort) (ws : List Nat) (l : Load) : State :=
  let l := loadOf ws l
  let s := (s.setLoad port (some l)).raise 0xD00 0 (be 1 l.kind ++ be 1 l.panel ++ be 8 l.bsid)
  match port with
  | .slave =>
    let s := { s with cfg := { s.cfg with errorN := true, seamTrained := false, endOk := false } }
    trainChannels (s.put 0x0C0000 5 0)
  | .icp _ =>
    let s := isolatePanel s l.panel 0
    let s := (putPanel s l.panel pnLoading).setHem l.panel fun h => { h with loaded := true }
    s.put (panelIdx l.panel) 8 (if l.byMgc.isSome then 2 else 1)

/-- Whether an MGC load may take words: its operation runs or is on its way to a safe point (R162). -/
def loadRuns (s : State) (l : Load) : Bool :=
  match l.byMgc with
  | none => true
  | some k => s.opState k == opRunning || s.opState k == opSuspending || justControlled s k

/-- Words that a port takes: those that arrive on it, or for an MGC load those the MGC reads over the NoC from SOURCE on, most
significant byte first (DESIGN CHOICE, log entry 26), up to LENGTH (R162). -/
def takeWords (s : State) (port : LoadPort) (l : Load) (n : Nat) (ws : List Nat) (f : State → Load → List Nat → State) : State :=
  match l.byMgc with
  | none => if ws.length = n then f s l ws else s
  | some _ =>
    if l.len < l.off + 4 * n then failLoad s port cfEarlyEnd 0
    else
      let r := fetchRead s 0x04C (l.src + l.off) (4 * n)
      match r.2 with
      | none => failLoad r.1 port stTargetUnavailable 0
      | some b =>
        let l := { l with off := l.off + 4 * n }
        f (r.1.setLoad port (some l)) l ((List.range n).map fun i => fieldBE b (4 * i) 4)

/-- The first sync word is taken (R143, R161). -/
def takeSync (s : State) (port : LoadPort) : State :=
  match port with
  | .slave =>
    if s.cfgState = csIdle ∧ !s.cfg.selN ∧ s.cfg.cfgMode < 2 then
      putCfg (s.setLoad .slave (some { words := [syncWordValue] })) csLoading
    else s
  | .icp _ =>
    match s.loadOn port with
    | none => s
    | some l =>
      if l.words ≠ [] ∨ !loadRuns s l then s
      else
        let s := if l.byMgc.isNone then s.waitUntil (l.since + 4) else s
        takeWords s port l 1 [syncWordValue] fun s l ws =>
          if ws = [syncWordValue] then s.setLoad port (some { l with words := ws }) else s

/-- The header is taken and checked. -/
def takeHeader (s : State) (port : LoadPort) (ws : List Nat) : State :=
  match s.loadOn port with
  | none => s
  | some l =>
    if l.got ≠ 0 ∨ l.words ≠ [syncWordValue] ∨ !loadRuns s l then s
    else takeWords s port l 15 (ws.drop 1) fun s l rest =>
      let ws := syncWordValue :: rest
      match headerFault s port ws with
      | some e => refuseHeader s port ws e.1 e.2
      | none => acceptHeader s port ws l

/-! ### Frames (R145, R146, R151) -/

/-- Whether a frame's address is the next that R146 allows: ascending, reserved bits zero, every bolt's frames complete
before the next bolt's begin; for a partial load, the panel's next frame. -/
def frameNext (s : State) (l : Load) (addr : Nat) : Bool :=
  if l.isPartial then ((panelDef s l.panel).bind fun d => d.frames[l.written]?) == some addr
  else l.lastAddr ≤ addr && bits addr 23 16 == 0 && bits addr 31 30 == l.written / (fullFrames / 4)

/-- The checks of R151: the code of the first that fails. -/
def frameFault (s : State) (l : Load) (ws : List Nat) (contends : Bool) : Option Nat :=
  let check := ws.getD 129 0
  if !frameNext s l (ws.getD 0 0) then some cfFrameAddress
  else if l.checkMode = 0 ∧ crc32c (wordBytes (ws.take 129)) ≠ check then some cfFrameCheck
  else if l.checkMode = 1 ∧ check ≠ 0 then some cfFrameCheck
  else if contends then some cfContention else none

/-- The data bits of a frame (R145). -/
def frameData (ws : List Nat) : Nat := (slice ws 1 128).foldl (fun a w => a * 2 ^ 32 + w % 2 ^ 32) 0
where
  /-- Elements `i` up to `i + n`. -/
  slice (l : List Nat) (i n : Nat) : List Nat := (l.drop i).take n

/-- A frame is written (R151, R164). -/
def writeFrame (s : State) (port : LoadPort) (l : Load) (ws : List Nat) : State :=
  let l := { l with written := l.written + 1, lastAddr := ws.getD 0 0 + 1, crc64 := crc64More l.crc64 (wordBytes ws) }
  let s := s.setLoad port (some l)
  let s := { s with cfg := { s.cfg with frames := tput s.cfg.frames (ws.getD 0 0) { data := frameData ws } } }
  match l.byMgc with
  | some k => s.put (opIdx k) 6 (l.written * 1000000 / Nat.max 1 l.frames)
  | none => if l.isPartial then s else s.put 0x0C0000 5 l.written

/-- A frame is taken. -/
def takeLoadFrame (s : State) (port : LoadPort) (ws : List Nat) (contends : Bool) : State :=
  match s.loadOn port with
  | none => s
  | some l =>
    if l.got = 0 ∨ l.endAt.isSome ∨ l.frames ≤ l.written ∨ !loadRuns s l then s
    else takeWords s port l 130 ws fun s l ws =>
      match frameFault s l ws contends with
      | some code => failLoad s port code (ws.getD 0 0)
      | none => writeFrame s port l ws

/-! ### The trailer and the end checks (R147 to R149, R152 to R155) -/

/-- Words of the trailer. -/
def trailerLength (l : Load) : Nat :=
  l.tableWords + (if l.checkMode = 1 then 2 else 0) + (if l.sig = 1 then 49 else 0) + 1

/-- The end word is taken (R147, R152). The design that the frames carry comes with it (log entry 5); a partial load puts its part
into the panel (R164). -/
def takeEnd (s : State) (port : LoadPort) (trailer : List Nat) (design : Compiled) : State :=
  match s.loadOn port with
  | none => s
  | some l =>
    if l.got = 0 ∨ l.endAt.isSome ∨ l.written ≠ l.frames ∨ !loadRuns s l then s
    else takeWords s port l (trailerLength l) trailer fun s l trailer =>
      if trailer.getLast? ≠ some endWordValue then (if l.byMgc.isSome then failLoad s port cfEarlyEnd 0 else s)
      else
        let d := if l.tableWords = 0 then { design with users := [] } else design
        let s := s.setLoad port (some { l with endAt := some s.now, words := l.words ++ trailer, design := d })
        match port with
        | .icp _ => loadPanel s ((panelDef s l.panel).getD {}) d
        | .slave => putCfg s csChecking

/-- The words of a frame as the load carried them. -/
def frameWords (s : State) (checkMode addr : Nat) : List Nat :=
  let data := (tgetD s.cfg.frames addr {}).data
  let ws := addr :: (List.range 128).map fun i => data / 2 ^ (32 * (127 - i)) % 2 ^ 32
  ws ++ [if checkMode = 0 then crc32c (wordBytes ws) else 0]

/-- The addresses of the frames that a load wrote. -/
def loadedFrames (s : State) (l : Load) : List Nat :=
  if l.isPartial then ((panelDef s l.panel).map (·.frames)).getD [] else s.cfg.frames.map (·.1)

/-- The end checks of R152: the code of the first that fails. -/
def endFault (s : State) (l : Load) : Option Nat :=
  let t := l.words.drop 16
  let crcAt := l.tableWords
  let sigAt := crcAt + (if l.checkMode = 1 then 2 else 0)
  let carried := t.getD crcAt 0 * 2 ^ 32 + t.getD (crcAt + 1) 0
  if l.checkMode = 1 ∧ crc64End l.crc64 ≠ carried then some cfTotalCheck
  else if l.sig ≠ 1 then none
  else
    let signed_ := l.words.take 16 ++ (loadedFrames s l).flatMap (frameWords s l.checkMode) ++ t.take sigAt
    let sigWords := wordBytes ((t.drop sigAt).take 49)
    let pub := sigWords.take 97
    if hash384 pub = s.oct 0x0C0001 (1 + l.keySlot)
        ∧ ecdsaVerify pub (hash384 (wordBytes signed_)) ((sigWords.drop 100).take 96) then none
    else some cfSignatureInvalid

/-- The load waits for its start instant (R154, R155): 1 µs with IMMEDIATE, else the next ruling boundary that opens a
window. -/
def waitForStart (s : State) : State :=
  match s.cfg.load with
  | none => s
  | some l =>
    if !(s.cfg.endOk && s.cfg.seamTrained) ∨ s.cfgState ≠ csChecking then s
    else
      let now := l.w3 % 2 = 1
      let s := putCfg { s with cfg := { s.cfg with checkedAt := s.now, startTick := none,
                                                   startAt := if now then some (s.now + 1000) else none } } csWaitTick
      if now ∨ (s.rulingArmed ∧ !s.ruling.bridge) then s else s.raise 0xD05 0

/-- A partial load passes its end checks (R165, R166). -/
def verifyPanel (s : State) (b : Nat) (l : Load) : State :=
  let p := l.panel
  let s := ((putPanel s p pnVerified).put (panelIdx p) 2 l.bsid).put (panelIdx p) 7 0
  let s := endIcp (s.raise 0xD11 b (be 1 p ++ be 8 l.bsid)) b stOk 0
  if s.num (panelIdx p) 4 = 0 then
    match requestTask s .hem p with
    | some t => putPanel t p pnPending
    | none => s
  else s

/-- The end checks end. -/
def endChecks (s : State) (port : LoadPort) : State :=
  match s.loadOn port with
  | none => s
  | some l =>
    if l.endAt.isNone ∨ s.cfg.endOk ∧ port = .slave ∨ !loadRuns s l then s
    else match endFault s l with
      | some code => failLoad s port code 0
      | none =>
        match port with
        | .slave => waitForStart { s with cfg := { s.cfg with endOk := true } }
        | .icp b => verifyPanel s b l

/-- A load ends early (R153): CFG_SEL_N rises, or ICP_SEL falls or ICP_ABORT pulses for the design's load. An MGC load ignores them
(R160, R161). -/
def endEarly (s : State) (port : LoadPort) : State :=
  let s := match port with
    | .slave => { s with cfg := { s.cfg with selN := true } }
    | .icp _ => s
  match s.loadOn port with
  | none => s
  | some l => if l.endAt.isSome ∨ l.byMgc.isSome then s else failLoad s port cfEarlyEnd 0

/-! ### Start-up (R156) -/

/-- The start instant S: the design's clock drivers start and enabled memory channels begin training; the route table, the
raw lanes, held seam signals, protected slots and fabric ports follow their own rules (R188, R223, R245, R279, R422, R432, R475). -/
def startUp (s : State) (l : Load) : State :=
  let d := l.design
  let s := { s with cfg := { s.cfg with startPhase := 1, clocksGated := false, mch := l.mch, compiled := d } }
  let s := s.put 0x0C0000 7 (s.cfg.startTick.getD 0)
  let s := startPins (startClocks s)
  let s := d.uloops.foldl (fun s l => s.put (uloopIdx l.1) 1 1) s
  let m := startMemory s l.mch
  let s := startSlots m.1 m.2
  let s := s.outcome 0x090011 0 (d.routes.getD ((s.oct 0x090012 0).drop topologyBytes))
  let s := (List.range 32).foldl (fun s j => putNi s (64 + j) niOnline) s
  rawLanes (holdAtStart s) true

/-- Put a user entry into ascending index and sub-index order. -/
def insertUser (u : UserEntry) : List UserEntry → List UserEntry
  | [] => [u]
  | x :: r => if u.key < x.key then u :: x :: r else x :: insertUser u r

/-- The persistent user entries to restore, in ascending order: the stored value, or the table's default where the identity
has none (R80). -/
def restoreList (d : Compiled) (vals : Tbl Val) : List BridgeReq :=
  ((d.users.filter fun u => u.pers ∧ u.ty ≠ .record).foldl (fun l u => insertUser u l) []).map fun u =>
    { who := .service, key := u.key, write := true, data := encVal u.ty ((tget vals u.key).getD u.dflt), restore := true }

/-- Start-up completes (R77, R80, R143, R169, R172). -/
def runDesign (s : State) (l : Load) : State :=
  let d := s.cfg.compiled
  let vals := ((s.cap.userStore.find? fun x => x.1 = l.bsid).map (·.2)).getD []
  let queue := restoreList d vals
  let s := putCfg { s with
      cfg := { s.cfg with done := true, startPhase := 4, load := none },
      cap := { s.cap with
        users := d.users
        userVals := vals
        bridge := if s.cap.bridge.isNone then queue.head?.map fun r => { r with since := s.now } else s.cap.bridge
        bridgeQueue := s.cap.bridgeQueue ++ (if s.cap.bridge.isNone then queue.tail else queue)
        restoring := !queue.isEmpty } } csRunning
  let s := (s.put 0x0C0000 4 l.bsid).put 0x0C0000 8 l.w3
  let s := d.panels.foldl (fun s p =>
    ((((putPanel s p.1 pnActive).put (panelIdx p.1) 2 0).put (panelIdx p.1) 3 p.2.frames.length).put (panelIdx p.1) 8 0)) s
  s.raise 0xD01 0 (be 8 l.bsid ++ be 8 (s.num 0x0C0000 7))

/-- A step of the start-up sequence: let time run to its offset from S. -/
def startStep (s : State) (phase offset : Nat) (f : State → Load → State) : State :=
  match s.cfg.startAt, s.cfg.load with
  | some t, some l =>
    if s.cfgState = csWaitTick ∧ s.cfg.startPhase = phase then f (s.waitUntil (t + offset)) l else s
  | _, _ => s

/-! ### Panels (R163, R166 to R168) -/

/-- ISOLATE (R163). -/
def isolateRule (p : Nat) : Rule :=
  { base := State.rulingNext, check := fun _ _ _ => none, judge := fun _ _ _ => none, pick := fun _ _ => none,
    apply := fun s _ _ v => { s := if valNum v = 1 then isolatePanel s p 2 else s } }

/-- RELEASE (R166, R168). -/
def releaseRule (p : Nat) : Rule :=
  { base := State.rulingNext, check := fun _ _ _ => none, pick := fun _ _ => none,
    judge := fun s _ v =>
      let st := s.panel p
      if valNum v = 0 ∨ st = pnActive then refuse s stOk
      else if st = pnVerified ∨ st = pnIsolated then none
      else if st = pnPending then refuse s cfPanelBusy else refuse s cfNotVerified,
    onAccept := fun s _ => putPanel s p pnPending,
    apply := fun s _ _ _ =>
      match requestTask s .hem p with
      | some t => { s := putPanel t p pnPending }
      | none => { s := s, status := stBusy } }

/-- A panel's hem opens (R167). -/
def releasePanel (s : State) (p : Nat) : State :=
  ((putPanel s p pnActive).setHem p fun _ => {}).raise 0xD12 (p / 16) (be 1 p ++ be 8 s.rulingPick)

/-! ### The rows -/

/-- CLEAR (R143). -/
def execClearWrite (r : Req) (v : Nat) (s : State) : Out := .next (submit s r (ent 0x0C0000 9) (.num v) clearRule)

/-- CLEAR_COMPLETE (R143). -/
def execClearComplete (mode : Fin 4) (initHigh : Bool) (s : State) : Out := .next (finishClear s mode initHigh)

/-- CFG_INIT_N_RISE (R139, R143). -/
def execCfgInitNRise (mode : Fin 4) (s : State) : Out :=
  .next (if s.cfgState = csClearing ∧ s.cfg.cleared then initHigh s mode else s)

/-- CFG_SEL_N_FALL (R143). -/
def execCfgSelNFall (s : State) : Out :=
  let s := { s with cfg := { s.cfg with selN := false } }
  .next (if s.cfgState = csError ∨ s.cfgState = csHalted then beginClear s 3 else s)

/-- SYNC_WORD (R143, R160 to R162). -/
def execSyncWord (port : LoadPort) (s : State) : Out := .next (takeSync s port)

/-- BITSTREAM_HEADER (R150). -/
def execBitstreamHeader (port : LoadPort) (ws : List Nat) (s : State) : Out := .next (takeHeader s port ws)

/-- BITSTREAM_FRAME (R151). -/
def execBitstreamFrame (port : LoadPort) (ws : List Nat) (contends : Bool) (s : State) : Out :=
  .next (takeLoadFrame s port ws contends)

/-- END_WORD (R152). -/
def execEndWord (port : LoadPort) (trailer : List Nat) (design : Compiled) (s : State) : Out :=
  .next (takeEnd s port trailer design)

/-- END_CHECKS_DONE (R152). -/
def execEndChecksDone (port : LoadPort) (s : State) : Out := .next (endChecks s port)

/-- EARLY_END (R153). -/
def execEarlyEnd (port : LoadPort) (s : State) : Out := .next (endEarly s port)

/-- SEAM_TRAINING_COMPLETE (R154, R188). -/
def execSeamTrainingComplete (failed : List (Fin 256 × Fin 536)) (s : State) : Out :=
  .next (match s.cfg.load with
    | some l =>
      if l.got = 1 ∧ !s.cfg.seamTrained ∧ (s.cfgState = csLoading ∨ s.cfgState = csChecking) then
        waitForStart (trainingComplete s (failed.map fun p => (p.1.val, p.2.val)))
      else s
    | none => s)

/-- STARTUP (R156). -/
def execStartup (s : State) : Out := .next (startStep s 0 0 startUp)

/-- FLIPFLOP_HOLD_LIFT (R156). -/
def execFlipflopHoldLift (s : State) : Out :=
  .next (startStep s 1 64 fun s _ => { s with cfg := { s.cfg with startPhase := 2, ffHeld := false } })

/-- USER_IO_RELEASE (R156). -/
def execUserIoRelease (s : State) : Out :=
  .next (startStep s 2 128 fun s l =>
    { s with cfg := { s.cfg with startPhase := 3, ioHiZ := false, parUser := bitOf l.w3 1 } })

/-- CFG_DONE_RELEASE (R156). -/
def execCfgDoneRelease (s : State) : Out := .next (startStep s 3 256 runDesign)

/-- A design load takes the port (R161). -/
def beginIcp (s : State) (b : Fin 4) : State :=
  { s with cfg := { s.cfg with icp := s.cfg.icp.set b (some { since := s.now }), icpBusy := s.cfg.icpBusy.set b true } }

/-- ICP_LOAD_BEGIN (R161): while ICP_BUSY is low, or in the cycle of an MGC START, which then goes to QUEUED. -/
def execIcpLoadBegin (b : Fin 4) (s : State) : Out :=
  .next (if s.cfgState ≠ csRunning then s
  else if !s.cfg.icpBusy.getD b false then beginIcp s b
  else match s.loadOn (.icp b) with
    | some l =>
      match l.byMgc with
      | some k => if l.since = s.now ∧ l.words = [] then
          beginIcp (putOp (s.setOp k fun x => { x with begun := false }) k opQueued) b else s
      | none => s
    | none => s)

/-- ICP_ISOLATE (R163). -/
def execIcpIsolate (b : Fin 4) (mask : BitVec 16) (s : State) : Out :=
  .next (if s.cfgState = csRunning then
    (List.range 16).foldl (fun s i => if bitOf mask.toNat i then isolatePanel s (16 * b + i) 1 else s) s
  else s)

/-- ISOLATE (R163). -/
def execIsolate (r : Req) (p : Fin 64) (v : Nat) (s : State) : Out :=
  .next (submit s r (ent (panelIdx p) 6) (.num v) (isolateRule p))

/-- RELEASE (R168). -/
def execRelease (r : Req) (p : Fin 64) (v : Nat) (s : State) : Out :=
  .next (submit s r (ent (panelIdx p) 5) (.num v) (releaseRule p))

end Sys2Proof.Machine
end

