-- ==== Sys2Proof/Machine/Update.lean ====
section
/-! DEFINITION. Firmware update (chapter 18): staging, verification, activation, confirmation and revert. -/

namespace Sys2Proof.Machine

/-- Staging states (R500). -/
def sgEmpty : Nat := 0
def sgReceiving : Nat := 1
def sgVerifying : Nat := 2
def sgVerified : Nat := 3
def sgFailed : Nat := 4
def sgArmed : Nat := 5
def sgRetained : Nat := 6

/-- STATE of the staging. -/
def State.sgState (s : State) : Nat := s.num 0x100100 1

/-- Set STATE of the staging. -/
def putSg (s : State) (st : Nat) : State := s.put 0x100100 1 st

/-- Change the update unit. -/
def State.setUpd (s : State) (f : Update → Update) : State := { s with upd := f s.upd }

/-- Slot of the trickle reception under way (R493). -/
def trickleOp (s : State) : Option Nat := findOp s 8 0x100100

/-- The trickle reception ends FAILED. -/
def failTrickle (s : State) (status detail : Nat) : State :=
  match trickleOp s with
  | some k => failOp s k status detail
  | none => s

/-! ### Opening and receiving (R492, R493) -/

/-- Empty the staging record (R492): bitmap, verification and counts. -/
def clearStaging (s : State) (n : Nat) : State :=
  let s := ((s.put 0x100100 3 n).put 0x100100 4 0).putOct 0x100100 5 (List.replicate (ceilDiv n 8) 0)
  let s := (((s.put 0x100100 6 0).put 0x100100 7 0xFF).put 0x100100 8 0).put 0x100100 9 0
  let s := (s.put 0x100100 0x0B 0).put 0x100100 0x0C (if s.rulingArmed && n != 0 then (s.tb s.rulingTb).ns else 0)
  s.setUpd fun u => { u with chunks := [], newVersions := [], openedAt := s.now }

/-- A staging or a retained package is discarded: event 062h with its cause (R501). -/
def discardStaging (s : State) (cause : Nat) : State := if s.sgState = sgEmpty then s else s.raise 0x062 0 (be 1 cause)

/-- OPEN (R492): discard, clear, and receive `n` chunks by a route; 0 empties the staging. -/
def openStaging (s : State) (n route : Nat) : State :=
  let s := clearStaging (discardStaging s 0) n
  if n = 0 then putSg s sgEmpty
  else
    let s := putSg (s.setUpd fun u => { u with openRoute := route }) sgReceiving
    s.raise 0x060 0 (be 4 n ++ be 1 route)

/-- Whether OPEN returns BUSY (R492). -/
def stagingBusy (s : State) : Bool := s.sgState == sgVerifying || s.sgState == sgArmed

/-- A write of OPEN (R492). -/
def openRule : Rule :=
  { base := State.rulingNext, check := noCheck, pick := noPick,
    judge := fun s _ _ => if stagingBusy s then refuse s stBusy else none,
    apply := fun s _ _ v => { s := openStaging s (valNum v) 0 } }

/-- Whether chunk `i` is held. -/
def chunkHeld (s : State) (i : Nat) : Bool := (tget s.upd.chunks i).isSome

/-- Set bit 7 − (i mod 8) of byte i / 8 of the bitmap (R500). -/
def setChunkBit (b : List Byte) (i : Nat) : List Byte := lmod b (i / 8) fun x => x ||| BitVec.ofNat 8 (2 ^ (7 - i % 8))

/-- PROGRESS of the trickle reception: chunks received in parts per million of N (R493). -/
def trickleProgress (s : State) : State :=
  match trickleOp s with
  | some k => s.put (opIdx k) 6 (s.num 0x100100 4 * 1000000 / max 1 (s.num 0x100100 3))
  | none => s

/-- Store a chunk (R492). A chunk held already is replaced; the last one starts verification (R490). -/
def storeChunk (s : State) (i : Nat) (data : List Byte) : State :=
  let new := !chunkHeld s i
  let s := s.setUpd fun u => { u with chunks := tput u.chunks i data }
  let s := s.putOct 0x100100 5 (setChunkBit (s.oct 0x100100 5) i)
  let s := trickleProgress (if new then s.put 0x100100 4 (s.num 0x100100 4 + 1) else s)
  if s.num 0x100100 4 = s.num 0x100100 3 then putSg s sgVerifying else s

/-- Refusals of a chunk write: over CAP a trickle reception must be RUNNING (R492); while one is suspended, BUSY (R493);
index, length and CRC (R492). -/
def chunkCheck (s : State) (r : Req) (v : Val) : Option Stat :=
  let b := valBytes v
  let st := (trickleOp s).map s.opState
  if r.who ≠ .service ∧ (st = none ∨ st = some opCancelling ∨ st = some opQueued) then some (stAccessDenied, 0)
  else
    let n := fieldBE b 4 2
    let data := slice b 6 n
    if n ≠ 1024 ∨ s.num 0x100100 3 ≤ fieldBE b 0 4 ∨ crc32c data ≠ fieldBE b 1030 4 then some (stTypeMismatch, 0) else none

/-- A chunk write (R492). -/
def chunkRule : Rule :=
  { base := State.rulingNext, check := chunkCheck, pick := noPick,
    judge := fun s _ _ =>
      let st := (trickleOp s).map s.opState
      if s.sgState ≠ sgReceiving ∨ st = some opSuspending ∨ st = some opSuspended then refuse s stBusy else none,
    apply := fun s _ _ v => { s := storeChunk s (fieldBE (valBytes v) 0 4) (slice (valBytes v) 6 1024) } }

/-! ### Packages (R486 to R490) -/

/-- Bytes of a package held as chunks of 1,024 bytes. -/
def packageBytes (chunks : Tbl (List Byte)) (off n : Nat) : List Byte :=
  slice ((List.range (ceilDiv (off % 1024 + n) 1024)).flatMap fun i => tgetD chunks (off / 1024 + i) []) (off % 1024) n

/-- Largest image of a part type (R486). -/
def partLimit (ty : Nat) : Nat := [0, 16777216, 4194304, 2097152, 4194304, 1048576, 262144].getD ty 0

/-- Record `i` of the part table. -/
def partRecord (m : List Byte) (i : Nat) : List Byte := slice m (32 + 64 * i) 64

/-- Whether record `i` of the part table breaks R486 or R488: its type repeats or is undefined, its offset, its length,
its place in a package of `n` chunks, or an overlap with an earlier record. -/
def partBad (m : List Byte) (n i : Nat) : Bool :=
  let p := partRecord m i
  let ty := fieldBE p 0 1
  let off := fieldBE p 8 4
  let len := fieldBE p 12 4
  let earlier := (List.range i).map (partRecord m)
  ty < 1 || 6 < ty || fieldBE p 2 2 != 0 || earlier.any (fun q => fieldBE q 0 1 == ty)
    || off % 1024 != 0 || off < 1024 || len < 1 || partLimit ty < len || n * 1024 < off + len
    || earlier.any fun q => overlap off len (fieldBE q 8 4) (fieldBE q 12 4)

/-- The head of the manifest as R488 gives it. -/
def headOk (m : List Byte) : Bool :=
  fieldBE m 0 4 == 0x4A574D46 && fieldBE m 4 2 == 1 && 1 ≤ fieldBE m 6 1 && fieldBE m 6 1 ≤ 6 && fieldBE m 7 1 < 4
    && fieldBE m 24 8 == 0 && unbe (slice m (32 + 64 * fieldBE m 6 1) (64 * (6 - fieldBE m 6 1))) == 0

/-- The Jareri key in the fuses (R489). -/
def jareriKey : List Byte := (List.range 97).map Config.jareriByte

/-- The first check of R490 that a staged package fails: VERIFY_RESULT and VERIFY_PART. -/
def packageFault (s : State) : Option (Nat × Nat) :=
  let m := packageBytes s.upd.chunks 0 608
  let parts := List.range (fieldBE m 6 1)
  if !headOk m then some (2, 0xFF)
  else match parts.find? (partBad m (s.num 0x100100 3)) with
    | some i => some (2, i)
    | none =>
      if !ecdsaVerify jareriKey (hash384 (slice m 0 416)) (slice m 416 96) then some (3, 0xFF)
      else if s.oct 0x100000 0x0C ≠ [] ∧ !(fieldBE m 7 1 / 2 % 2 == 1
          && ecdsaVerify (s.oct 0x100000 0x0C) (hash384 (slice m 0 512)) (slice m 512 96)) then some (4, 0xFF)
      else if fieldBE m 7 1 % 2 = 1 ∧ fieldBE m 8 8 ≠ s.num 0x100000 0x0B then some (5, 0xFF)
      else match parts.find? (fun i =>
          fieldBE (partRecord m i) 1 1 / 16 != 4 || s.num 0x000004 5 < fieldBE (partRecord m i) 1 1 % 16) with
        | some i => some (6, i)
        | none =>
          (parts.find? fun i =>
            let p := partRecord m i
            hash384 (packageBytes s.upd.chunks (fieldBE p 8 4) (fieldBE p 12 4)) != slice p 16 48).map fun i => (7, i)

/-- The versions a package brings: of part types 1 to 6 (0 for a part not carried), PACKAGE_VERSION, SETTINGS_FORMAT. -/
def packageVersions (m : List Byte) : List Nat :=
  let of := fun ty => ((List.range (fieldBE m 6 1)).find? fun i => fieldBE (partRecord m i) 0 1 = ty).map fun i =>
    fieldBE (partRecord m i) 4 4
  (List.range 6).map (fun i => (of (i + 1)).getD 0) ++ [fieldBE m 20 4, fieldBE m 16 4]

/-- Verification ends (R490, R493): STATE, VERIFY_RESULT and VERIFY_PART, event 061h, the trickle reception's end. -/
def verifyPackage (s : State) : State :=
  if s.sgState ≠ sgVerifying then s
  else
    let m := packageBytes s.upd.chunks 0 608
    let f := packageFault s
    let res := f.getD (1, 0xFF)
    let s := ((s.put 0x100100 6 res.1).put 0x100100 7 res.2).put 0x100100 8 (fieldBE m 20 4)
    let s := (s.put 0x100100 9 (fieldBE m 16 4)).setUpd fun u => { u with newVersions := packageVersions m }
    let s := putSg s (if f.isNone then sgVerified else sgFailed)
    let s := s.raise 0x061 0 (be 1 res.1 ++ be 1 res.2 ++ be 4 (fieldBE m 20 4))
    match trickleOp s with
    | some k => if f.isNone then finishOp s k else failOp s k stTypeMismatch res.1
    | none => s

/-! ### Expiry (R494) -/

/-- Ninety days in seconds. -/
def ninetyDays : Nat := 7776000

/-- Timing-loop cycles until the staging expires. -/
def expiryIn (s : State) : Nat :=
  let powered := s.upd.openedAt + (ninetyDays - s.num 0x100100 0x0B) * second - s.now
  if s.rulingArmed ∧ s.num 0x100100 0x0C ≠ 0 then
    min powered ((s.tb s.rulingTb).cyclesTo ((s.num 0x100100 0x0C + ninetyDays * second) * nsUnit))
  else powered

/-- A staging not yet VERIFIED expires (R494): time runs to the instant; event 062h with cause 2. -/
def expireStaging (s : State) : State :=
  if s.sgState = sgReceiving ∨ s.sgState = sgVerifying then
    let s := s.pass (expiryIn s)
    let s := (putSg s sgFailed).put 0x100100 6 9
    let s := s.setUpd fun u => { u with chunks := [] }
    failTrickle (s.raise 0x062 0 (be 1 2)) stTooLate 0
  else s

/-! ### Activation (R495 to R498) -/

/-- Timing-loop cycles between acceptance and target that ACTIVATE asks for (R495). -/
def activationLead : Nat := 2 * second

/-- The generator setting whose boundaries a command for the ruling time base counts (R23). -/
def rulingPicks (s : State) : PickSet := ((s.tb s.rulingNext).want).getD (s.tb s.rulingNext).cur

/-- Whether the boundary of a pick meets the lead time. -/
def leadMet (s : State) (n : Nat) : Bool := activationLead ≤ (s.tb s.rulingNext).cyclesTo ((rulingPicks s).start n)

/-- The first ruling pick whose boundary meets the lead time (R495). -/
def activationPick (s : State) : Nat :=
  (rulingPicks s).pickAt ((s.tb s.rulingNext).run activationLead).time

/-- Refusals of ACTIVATE (R495): BUSY for the state or the lead time, NOT_READY where the ruling time base is unarmed. -/
def activateJudge (s : State) (r : Req) (v : Val) : Option Done :=
  if valNum v = 0 then none
  else if s.sgState ≠ sgVerified ∧ s.sgState ≠ sgRetained then refuse s stBusy
  else if !(s.tb s.rulingNext).armed then refuse s stNotReady 1
  else match targetPick s s.rulingNext r.toe with
    | .ok (some n) => if leadMet s n then none else refuse s stBusy
    | _ => none

/-- ACTIVATE accepted (R495): ARMED and event 063h. -/
def armActivation (s : State) (v : Val) : State :=
  match s.ruling.timed.getLast? with
  | some c =>
    if valNum v = 0 then s
    else
      let s := s.setUpd fun u =>
        { u with armedFrom := s.sgState, armedAt := s.now, armedWho := some c, prepared := false }
      (putSg s sgArmed).raise 0x063 0 (be 8 c.pick ++ be 4 (s.num 0x100100 8))
  | none => s

/-- ACTIVATE (R495). -/
def activateRule : Rule :=
  { base := State.rulingNext, check := noCheck, judge := activateJudge,
    pick := fun s v => if valNum v = 1 then some (activationPick s) else none,
    apply := fun s _ _ _ => { s := s },
    onAccept := armActivation }

/-- Whether a timed command is the ACTIVATE that armed the staging. -/
def isActivate (c : TimedCmd) : Bool := c.key == ent 0x100100 0x0A && valNum c.val == 1

/-- An armed activation is cancelled (R498): STATE returns to its value before ACTIVATE; event 065h with cause 2. -/
def cancelActivation (s : State) (status : Nat) : State :=
  if s.sgState ≠ sgArmed then s
  else
    let s := cancelTimed s isActivate status
    let s := putSg s s.upd.armedFrom
    let s := s.setUpd fun u => { u with armedWho := none, prepared := false }
    s.raise 0x065 0 (be 1 2 ++ be 1 (s.num 0x100100 6))

/-- Preparation ends (R495): the shadow stores hold the images, or the activation is cancelled and the staging FAILED with
the code of R490 for the part concerned. -/
def prepareActivation (s : State) (failed : Option (Fin 6)) : State :=
  if s.sgState ≠ sgArmed ∨ s.upd.prepared then s
  else match failed with
    | none => s.setUpd fun u => { u with prepared := true }
    | some p =>
      let s := cancelTimed s isActivate stBusy
      let s := ((putSg s sgFailed).put 0x100100 6 7).put 0x100100 7 p.val
      let s := s.setUpd fun u => { u with armedWho := none }
      s.raise 0x065 0 (be 1 0 ++ be 1 7)

/-- Versions and format now running (R500). -/
def runningVersions (s : State) : List Nat := (List.range 8).map fun i => s.num 0x100000 (i + 1)

/-- Set the running versions; 0 keeps the running version of a part. -/
def putVersions (s : State) (v : List Nat) : State :=
  (List.range 8).foldl (fun s i => if i < 6 ∧ v.getD i 0 = 0 then s else s.put 0x100000 (i + 1) (v.getD i 0)) s

/-- The bank pointer flips: the staging and the package that ran change places (R496). -/
def flipBanks (s : State) (retained : List Nat) : State :=
  let n := s.num 0x100100 3
  let u := s.upd
  let s := s.put 0x100000 9 (1 - s.num 0x100000 9)
  let s := (s.put 0x100100 3 u.runningN).put 0x100100 4 u.runningN
  let s := s.putOct 0x100100 5 ((List.range u.runningN).foldl setChunkBit (List.replicate (ceilDiv u.runningN 8) 0))
  let s := (s.put 0x100100 8 (retained.getD 6 0)).put 0x100100 9 (retained.getD 7 0)
  s.setUpd fun u => { u with chunks := u.running, running := u.chunks, runningN := n, newVersions := retained }

/-- The versions that the package of the active bank brings; a factory package carries every part. -/
def activeVersions (s : State) : List Nat :=
  if s.upd.running = [] then runningVersions s else packageVersions (packageBytes s.upd.running 0 608)

/-- The switch at the end of the firmware activation slot (R496): every shadow store becomes active, the bank pointer
flips and the MGC restarts; the status and whether it completes later (at confirmation, R497). -/
def activateFirmware (s : State) (cmd : Option TimedCmd) : State × Nat × Bool :=
  if s.sgState ≠ sgArmed then (s, stBusy, false)
  else if !s.upd.prepared then
    let s := (putSg s sgFailed).setUpd fun u => { u with armedWho := none }
    (s.raise 0x065 0 (be 1 0 ++ be 1 (s.num 0x100100 6)), stBusy, false)
  else
    let old := runningVersions s
    let kept := activeVersions s
    let s := flipBanks (putVersions s s.upd.newVersions) kept
    let s := putSg (s.put 0x100000 0x0D 1) sgRetained
    (s.setUpd fun u =>
      { u with prevVersions := old, switchAt := s.ruling.windowAt, prepared := false, revert := false, armedWho := cmd }, stOk, true)

/-- Entries that the vault keeps whatever the settings format (R499). -/
def inVault (key : Nat) : Bool :=
  let idx := key / 256
  (0x020010 ≤ idx && idx ≤ 0x02003F) || idx == 0x020040 || (0x011000 ≤ idx && idx ≤ 0x0110FF) || idx == 0x0C0001
    || key == ent 0x0C0000 0x0A || key == ent 0x100000 0x0C

/-- Persistent settings with a stored value, outside the vault. -/
def storedSettings (s : State) : List Nat :=
  (s.cat.map (·.1)).filter fun k => !inVault k &&
    match fieldAt k with
    | some f => f.pers && writable f
    | none => false

/-- A settings-format change resets every persistent stored value outside the vault; values in force stay until the next
power-up or reset (R499). -/
def resetSettings (s : State) : State :=
  let keys := storedSettings s
  { s with
    upd := { s.upd with defaultsNext := keys }
    cap := { s.cap with userStore := [], userVals := [] } }

/-- At the next power-up or reset the settings that the format change reset take their defaults (R499). -/
def takeDefaults (s : State) : State :=
  { s with
    cat := s.cat.filter fun e => !s.upd.defaultsNext.contains e.1
    upd := { s.upd with defaultsNext := [] } }

/-- The new MGC firmware confirms (R497, R499): event 064h, and event 010h for the activation. -/
def confirmFirmware (s : State) : State :=
  if s.num 0x100000 0x0D = 0 ∨ s.upd.revert ∨ s.upd.switchAt + second < s.now then s
  else
    let cmd := s.upd.armedWho
    let old := s.upd.prevVersions
    let reset := old.getD 7 0 ≠ s.num 0x100000 8
    let s := if reset then resetSettings s else s
    let s := s.put 0x100000 0x0D 0
    let s := s.raise 0x064 0 (be 4 (old.getD 6 0) ++ be 4 (s.num 0x100000 7) ++ be 8 ((cmd.map (·.pick)).getD 0)
      ++ be 1 (if reset then 1 else 0))
    (completeCmd s cmd stOk).setUpd fun u => { u with armedWho := none, rebooted := false }

/-- The revert (R497): every unit returns to its previous image, the bank pointer flips back and the previous MGC firmware
starts; event 065h with cause 1. -/
def revertFirmware (s : State) : State :=
  let cmd := s.upd.armedWho
  let failed := activeVersions s
  let s := flipBanks ((List.range 8).foldl (fun s i => s.put 0x100000 (i + 1) (s.upd.prevVersions.getD i 0)) s) failed
  let s := ((putSg s sgFailed).put 0x100100 6 8).put 0x100000 0x0D 0
  let s := s.raise 0x065 0 (be 1 1 ++ be 1 8)
  (completeCmd s cmd stTargetUnavailable).setUpd fun u => { u with revert := false, armedWho := none, rebooted := false }

/-- No confirmation within 1 s of the tick (R497): the revert waits for the first ruling window after that. Where the new
bank was booted at power-up, the other bank boots at once, and event 066h carries cause 1 (R498). -/
def confirmTimeout (s : State) : State :=
  if s.num 0x100000 0x0D = 0 ∨ s.upd.revert then s
  else
    let s := s.waitUntil (s.upd.switchAt + second)
    if s.upd.rebooted then (revertFirmware s).raise 0x066 0 (be 1 1)
    else s.setUpd fun u => { u with revert := true }

/-! ### The commands -/

/-- STAGING_OPEN (R492). -/
def execStagingOpen (r : Req) (n : Nat) (s : State) : Out := .next (submit s r (ent 0x100100 2) (.num n) openRule)

/-- CHUNK_WRITE (R492). -/
def execChunkWrite (r : Req) (idx : Nat) (data : List Byte) (crc : Nat) (s : State) : Out :=
  .next (submit s r (ent 0x100101 0) (.oct (be 4 idx ++ be 2 data.length ++ data ++ be 4 crc)) chunkRule)

/-- PACKAGE_VERIFICATION (R490). -/
def execPackageVerification (s : State) : Out := .next (verifyPackage s)

/-- STAGING_EXPIRY (R494). -/
def execStagingExpiry (s : State) : Out := .next (expireStaging s)

/-- ACTIVATE (R495). -/
def execActivate (r : Req) (v : Nat) (s : State) : Out := .next (submit s r (ent 0x100100 0x0A) (.num v) activateRule)

/-- ACTIVATION_PREPARED (R495). -/
def execActivationPrepared (failed : Option (Fin 6)) (s : State) : Out := .next (prepareActivation s failed)

end Sys2Proof.Machine
end

