-- ==== Sys2Proof/Machine/LongOps.lean ====
section
/-! DEFINITION. Long operations (R108, R113 to R118) with the kinds of their chapters: panel load, rekey, scrub, self-test,
margin scan, channel retraining, bulk copy, trickle reception and event-log export. -/

namespace Sys2Proof.Machine

/-! ### Parameters -/

/-- RATE in MB/s, 1 to 10,000 (R443, R477). -/
def rateOk (n : Nat) : Bool := 1 ≤ n && n ≤ 10000

/-- Whether PARAMS have the length and the values that the chapter of the kind allows. -/
def paramsOk (kind : Nat) (p : List Byte) : Bool :=
  match kind with
  | 1 => p.length == 12 && fieldBE p 0 6 % 4 == 0 && fieldBE p 6 4 % 4 == 0 && fieldBE p 10 1 ≤ 1 && fieldBE p 11 1 == 0
  | 2 => p.length == 2 && rateOk (fieldBE p 0 2)
  | 3 => p.length == 10 && fieldBE p 0 4 % 64 == 0 && fieldBE p 4 4 % 64 == 0 && 64 ≤ fieldBE p 4 4
      && fieldBE p 0 4 + fieldBE p 4 4 ≤ 0x04000000 && rateOk (fieldBE p 8 2)
  | 4 | 5 => p.length == 1 && fieldBE p 0 1 ≤ 1
  | 7 =>
    let src := fieldBE p 0 6
    let dst := fieldBE p 6 6
    let len := fieldBE p 12 6
    p.length == 20 && src % 64 == 0 && dst % 64 == 0 && len % 64 == 0 && 64 ≤ len && len ≤ 2 ^ 40 && fieldBE p 18 1 ≤ 1
      && fieldBE p 19 1 == 0 && !(src < dst && dst < src + len)
  | 8 => p.length == 4 && 1 ≤ fieldBE p 0 4 && fieldBE p 0 4 ≤ 49152
  | 6 | 9 => p.isEmpty
  | _ => false

/-- Whether a target index is an object of the kind. -/
def targetOk (kind t : Nat) : Bool :=
  let within := fun lo n => lo ≤ t && t < lo + n
  match kind with
  | 1 => within 0x0C0100 64
  | 2 => within 0x0B0100 16
  | 3 => within 0x0A0200 4
  | 4 => within 0x080100 512
  | 5 => within 0x0D0100 256
  | 6 => within 0x0A0100 32
  | 7 => within 0x090300 4
  | 8 => t == 0x100100
  | 9 => t == 0x0E0012
  | _ => false

/-- Whether the target is critical (R114). -/
def targetCritical (t : Nat) : Bool :=
  match fieldAt (ent t 0) with
  | some f => f.crit || (f.ty == .record && recordCritical (ent t 0))
  | none => false

/-- What a write of a slot asks for: KIND, TARGET, PARAMS as they would read, and the control. -/
structure OpReq where
  kind : Nat
  target : Nat
  params : List Byte
  ctl : Nat

/-- The request in a write of sub-index `sub` of slot `k`. -/
def opReq (s : State) (k sub : Nat) (v : Val) : OpReq :=
  let held : OpReq := { kind := s.opKind k, target := s.opTarget k, params := s.opParams k, ctl := 0 }
  match sub with
  | 0 =>
    match recordValues (ent (opIdx k) 0) (valBytes v) with
    | some vs => { kind := valNum (vs.getD 0 (.num 0)), target := valNum (vs.getD 1 (.num 0)),
                   params := valBytes (vs.getD 2 (.oct [])), ctl := valNum (vs.getD 3 (.num 0)) }
    | none => held
  | 1 => { held with kind := valNum v }
  | 2 => { held with target := valNum v }
  | 3 => { held with params := valBytes v }
  | _ => { held with ctl := valNum v }

/-- Whether the fields of a request are those that the slot holds. -/
def sameFields (s : State) (k : Nat) (o : OpReq) : Bool :=
  o.kind == s.opKind k && o.target == s.opTarget k && o.params == s.opParams k

/-! ### Beginning (R115) -/

/-- Whether the target is in use by another unit (R161, R191, R507). -/
def targetInUse (s : State) (kind target : Nat) (begun : Bool) : Bool :=
  match kind with
  | 1 => !begun && s.cfg.icpBusy.getD ((target - 0x0C0100) / 16) false
  | 4 => s.shState (target - 0x080100) == shRunning
  | 5 => s.num target 1 == 3 || s.num target 1 == 4
  | _ => false

/-- A rekey starts (R474, R477): a new key set, REKEYING, and the boundary at DATA_BASE. -/
def startRekey (s : State) (k : Nat) (op : Option Nat) (rate : Nat) : State :=
  let r := drawKeys s k
  let s := r.1.setSlot k fun x =>
    { x with newKeys := some r.2, maxOld := s.num (slIdx k) 8, maxNew := 0, back := false, auto := op.isNone, op := op, paceAt := s.now, paceN := 0, rate := rate }
  putSlot (s.put (slIdx k) 9 (s.dataBase k)) k slRekeying

/-- Begin the operation of slot `k`, which is RUNNING. -/
def beginOp (s : State) (k : Nat) : State :=
  let t := s.opTarget k
  let p := s.opParams k
  let s := s.setOp k fun x => { x with begun := true, pos := 0, startedAt := s.now }
  match s.opKind k with
  | 1 =>
    let b := (t - 0x0C0100) / 16
    if s.num 0x0C0000 8 / 4 % 2 = 0 then failOp s k cfIcpNotGranted 0
    else
      let s := s.write (ent t 4) (.num (fieldBE p 10 1))
      let l : Load := { byMgc := some k, since := s.now, src := fieldBE p 0 6, len := fieldBE p 6 4 }
      { s with cfg := { s.cfg with icp := s.cfg.icp.set b (some l), icpBusy := s.cfg.icpBusy.set b true } }
  | 2 =>
    let n := t - 0x0B0100
    if s.slState n ≠ slActive then failOp s k stTargetUnavailable 0
    else (startRekey s n (some k) (fieldBE p 0 2)).setSlot n fun x => { x with auto := false }
  | 4 =>
    let h := t - 0x080100
    if s.unit.mappedOut.contains h then failOp s k stShuttleUnavailable 0
    else discardPartial (s.setOp k fun x => { x with saved := s.shState h }) h
  | 6 =>
    let c := t - 0x0A0100
    if s.mcState c = mcOnline then
      let s := (drainNi s c).setMch c fun x => { x with ranks := x.ranks.map fun r => { r with debt := 0, selfRef := true, rows := [] } }
      (putMc s c mcRetraining).put (mchIdx c) 0x11 0
    else if s.mcState c = mcOut then (putMc s c mcRetraining).put (mchIdx c) 0x11 0
    else failOp s k stTargetUnavailable 0
  | 8 => openStaging s (fieldBE p 0 4) 1
  | 9 =>
    showExport (s.setOp k fun x => { x with snap := s.mgmt.ring }) k
  | _ => s

/-- Run or queue the operation of a slot. -/
def runOrQueue (s : State) (k : Nat) : State :=
  if targetInUse s (s.opKind k) (s.opTarget k) (s.op k).begun then putOp s k opQueued
  else
    let s := putOp s k opRunning
    if (s.op k).begun then s else beginOp s k

/-- START taken (R113, R115): ACCEPTED with the low bits of the ruling pick. The newest record raised before it is noted, for an
export (R108). -/
def startOp (s : State) (k : Nat) (r : Req) : State :=
  let s := s.setOp k fun _ => { trans := r.trans, startedAt := s.now, upTo := (s.mgmt.seq + 2 ^ 32 - 1) % 2 ^ 32 }
  let s := ((s.put (opIdx k) 6 0).put (opIdx k) 7 0).put (opIdx k) 8 0
  let who := match r.who with
    | .session n => n.val + 1
    | _ => 0
  runOrQueue ((s.put (opIdx k) 9 who).put (opIdx k) 0x0A s.rulingPick) k

/-! ### Controls (R115, R117, R479) -/

/-- Kinds that can be suspended (R117). -/
def suspendable (kind : Nat) : Bool := kind != 4 && kind != 6 && kind != 9

/-- Reset the pacing of a rekey (R477). -/
def repace (s : State) (k : Nat) (back : Bool) : State :=
  if s.opKind k = 2 then
    s.setSlot (s.opTarget k - 0x0B0100) fun x => { x with paceAt := s.now, paceN := 0, back := x.back || back }
  else s

/-- Whether a cancel of a suspended operation has something to undo (R117). -/
def undoNeeded (s : State) (k : Nat) : Bool :=
  (s.op k).begun && (s.opKind k == 1 || s.opKind k == 2 || s.opKind k == 5 || s.opKind k == 8)

/-- Note the cycle in which a running operation is stopped (R116). -/
def noteControl (s : State) (k : Nat) : State :=
  if s.opState k = opRunning then s.setOp k fun x => { x with ctlAt := some s.now } else s

/-- The state that SUSPEND, RESUME or CANCEL leads to; `none` for a control the table does not list: BUSY. -/
def controlled (s : State) (k ctl : Nat) : Option State :=
  let st := s.opState k
  let kind := s.opKind k
  match ctl with
  | 2 =>
    if st = opQueued then some (putOp s k opSuspended)
    else if st = opRunning ∧ suspendable kind then some (putOp (noteControl s k) k opSuspending)
    else if st = opSuspending then some s
    else if st = opCancelling ∧ kind = 2 then some (putOp s k opSuspendedCancel)
    else none
  | 3 =>
    if st = opSuspended then some (runOrQueue (repace s k false) k)
    else if st = opSuspendedCancel then some (putOp (repace s k false) k opCancelling)
    else none
  | 4 =>
    if st = opQueued ∨ st = opSuspended then
      some (if undoNeeded s k then putOp (repace s k true) k opCancelling else putOp s k opCancelled)
    else if st = opRunning ∨ st = opSuspending then some (putOp (repace (noteControl s k) k true) k opCancelling)
    else if st = opCancelling ∨ st = opSuspendedCancel then some s
    else none
  | 5 => if terminal st then
      let s := (putOp s k opFree).setOp k fun _ => {}
      let s := ((s.write (ent (opIdx k) 1) (.num 0)).write (ent (opIdx k) 2) (.num 0)).write (ent (opIdx k) 3) (.oct [])
      some ([6, 7, 8, 9, 10].foldl (fun s i => s.put (opIdx k) i 0) s)
    else none
  | _ => some s

/-- Part of check 9 for a START (R114, R493): the kind, its target and PARAMS, ownership, the critical flag, the trickle
entitlement. -/
def startCheck (s : State) (r : Req) (key : Nat) (o : OpReq) : Option Stat :=
  if o.kind = 0 ∨ 9 < o.kind ∨ !targetOk o.kind o.target ∨ !paramsOk o.kind o.params then some (stTypeMismatch, 0)
  else if actor s r key ≠ some (ownerOf s (ent o.target 0)) then some (stNotOwner, ownerOf s (ent o.target 0))
  else if targetCritical o.target ∧ !r.crit then some (stAccessDenied, 0)
  else if o.kind = 8 ∧ !s.flag 0x020040 1 then some (stAccessDenied, 0)
  else none

/-- Refusals of a START (R114, R162, R492, R507). -/
def startRefusal (s : State) (o : OpReq) : Option Nat :=
  if (findOp s o.kind o.target).isSome then some stBusy
  else if o.kind = 1 ∧ s.num 0x0C0000 8 / 4 % 2 = 0 then some cfIcpNotGranted
  else if o.kind = 4 ∧ anyBinding s (o.target - 0x080100) then some stBusy
  else if o.kind = 8 ∧ stagingBusy s then some stBusy
  else none

/-- A write of sub-index `sub` of slot `k` (R113 to R115). -/
def slotRule (k sub : Nat) : Rule :=
  { base := State.rulingNext, pick := noPick,
    check := fun s r v =>
      let o := opReq s k sub v
      if o.ctl = 1 then startCheck s r (ent (opIdx k) sub) o else none,
    judge := fun s _ v =>
      let o := opReq s k sub v
      if opActive s k ∧ !sameFields s k o then refuse s stBusy
      else if o.ctl = 0 then none
      else if o.ctl = 1 then
        if opActive s k then refuse s stBusy
        else match startRefusal s o with
          | some st => refuse s st
          | none => none
      else if o.ctl = 4 ∧ s.opKind k = 2 ∧ opActive s k ∧ (s.slot (s.opTarget k - 0x0B0100)).auto then refuse s stAutoRekey
      else if (controlled s k o.ctl).isNone then refuse s stBusy
      else none,
    apply := fun s _ r v =>
      let o := opReq s k sub v
      let s := if sameFields s k o then s
        else ((s.write (ent (opIdx k) 1) (.num o.kind)).write (ent (opIdx k) 2) (.num o.target)).write (ent (opIdx k) 3) (.oct o.params)
      if o.ctl = 1 then { s := startOp s k r, status := stAccepted, detail := s.rulingPick % 2 ^ 32 }
      else { s := (controlled s k o.ctl).getD s } }

/-! ### Work (R117) -/

/-- Scrub from byte `pos` of the range up to byte `stop` (R443): single-bit errors are corrected and counted, double-bit
errors counted and left. -/
def scrubTo (s : State) (k stop : Nat) : State :=
  let b := s.opTarget k - 0x0A0200
  let base := 0x0E0000000000 + b * 0x04000000 + fieldBE (s.opParams k) 0 4
  let here := fun a => base + (s.op k).pos ≤ a && a < base + stop
  let ones := s.mem.archOne.filter here
  let bads := s.mem.archBad.filter here
  let s := { s with mem := { s.mem with archOne := s.mem.archOne.filter fun a => !here a } }
  let s := archiveOne s b ones.length
  let s := bads.foldl (fun s a => archiveBad s b (a % 0x04000000) 2) s
  (s.setOp k fun x => { x with pos := stop }).put (opIdx k) 6 (ppm stop (fieldBE (s.opParams k) 4 4))

/-- Copy whole 4 KiB blocks from byte `pos` on, `n` of them at most (R434): a block that cannot be read or written ends the
operation FAILED with its number; on the way to a safe point the copy stops before it, as no error ends a SUSPENDING operation
(R115). -/
def copyBlocks (s : State) (k : Nat) : Nat → State
  | 0 => s
  | n + 1 =>
    let p := s.opParams k
    let b := s.opTarget k - 0x090300
    let len := fieldBE p 12 6
    let pos := (s.op k).pos
    if len ≤ pos ∨ terminal (s.opState k) then s
    else
      let m := min 4096 (len - pos)
      let r := fetchRead s (0x48 + b) (fieldBE p 0 6 + pos) m
      match r.2.bind fun d => fetchWrite r.1 (0x48 + b) (fieldBE p 6 6 + pos) d false with
      | none => if s.opState k = opSuspending then s else failOp r.1 k stTargetUnavailable (pos / 4096)
      | some w =>
        let s := if w.2 = 0 then w.1 else noteBurst w.1 (0x48 + b) (fieldBE p 6 6 + pos) w.2
        let s := (s.count (0x090300 + b) 1 64 m).setOp k fun x => { x with pos := pos + m }
        copyBlocks (s.put (opIdx k) 6 (ppm (pos + m) len)) k n

/-- Blocks of a bulk copy not copied yet. -/
def blocksLeft (s : State) (k : Nat) : Nat := ceilDiv (fieldBE (s.opParams k) 12 6 - (s.op k).pos) 4096

/-- Steps of a self-test (R506): two, and a third at LEVEL 01h. -/
def testSteps (s : State) (k : Nat) : Nat := 2 + fieldBE (s.opParams k) 0 1

/-- PROGRESS of an operation that counts steps (R458, R506). -/
def stepsDone (s : State) (k done all : Nat) : State := s.put (opIdx k) 6 (ppm done all)

/-- Work done by the time an operation reaches a safe point or its cancel takes effect: how much is a matter of timing, a
free value (log entry 9). -/
def someWork (s : State) (k : Nat) : State :=
  if !(s.op k).begun then s
  else if s.opKind k = 3 then
    let left := (fieldBE (s.opParams k) 4 4 - (s.op k).pos) / 64
    scrubTo s.draw k ((s.op k).pos + 64 * (s.freeValue 64 % (left + 1)))
  else if s.opKind k = 5 then
    let groups := (s.op k).pos + s.freeValue 64 % (17 - (s.op k).pos + 1)
    (s.draw.setOp k fun x => { x with pos := groups }).put (opIdx k) 6 (ppm groups 17)
  else if s.opKind k = 7 then copyBlocks s.draw k (s.freeValue 64 % (blocksLeft s k + 1))
  else if s.opKind k = 4 then stepsDone s.draw k (s.freeValue 64 % testSteps s k) (testSteps s k)
  else if s.opKind k = 6 then
    let n := s.freeValue 64 % 5
    stepsDone (s.draw.put (mchIdx (s.opTarget k - 0x0A0100)) 0x11 n) k n 5
  else s

/-- The bytes of an event record (R105). -/
def recordBytes (r : EvRec) : List Byte :=
  let flags := (if r.lost then 128 else 0) + (if r.uptime then 64 else 0) + (if r.fabric then 32 else 0)
  be 2 r.num ++ be 1 r.sev ++ be 1 flags ++ be 4 r.seq ++ encTime r.time ++ be 8 r.pick ++ be 2 r.unit ++ be 1 r.rep
    ++ be 1 r.extra.length ++ (r.extra ++ List.replicate (32 - r.extra.length) 0).take 32

/-- Bytes of a ring of records (R108): the record with sequence q lies at (q mod 65,536) × 64. -/
def ringBytes (t : Tbl EvRec) : List Byte :=
  (List.range 65536).flatMap fun i =>
    match tget t i with
    | some r => recordBytes r
    | none => List.replicate 64 0

/-- A self-test passes (R507): a FAILED or host-mapped-out shuttle sets READY. -/
def passTest (s : State) (k : Nat) : State :=
  let h := s.opTarget k - 0x080100
  let s := if s.shState h = shFailed ∨ s.shState h = shMappedOut then s.put (shIdx h) 0x16 1 else s
  finishOp s k

/-- A self-test fails at a step (R507). -/
def failTest (s : State) (k step : Nat) : State :=
  let h := s.opTarget k - 0x080100
  let s := if s.shState h = shEmpty ∨ s.shState h = shIdle then (putSh s h shFailed).raise 0x830 h (be 1 1)
    else s.put (shIdx h) 0x16 0
  failOp (stepsDone s k (step - 1) (testSteps s k)) k stTargetUnavailable step

/-- Channel retraining completes (R457): ONLINE with the contents kept, once its NI has drained. -/
def retrained (s : State) (k : Nat) : State :=
  let c := s.opTarget k - 0x0A0100
  if s.mcState c ≠ mcRetraining ∨ s.ni c ≠ niOffline then s
  else
    let s := (s.put (mchIdx c) 0x11 5).setMch c fun x =>
      { x with
        fails := 0, trackAt := s.now + 4000000
        ranks := (List.range x.ranks.length).map fun r => { freshRank s r with mult := (x.ranks.getD r {}).mult } }
    finishOp (putNi (putMc s c mcOnline) c niOnline) k

/-- The event-log export completes (R108), once no record raised before START waits in the recording queue. -/
def exportLog (s : State) (k : Nat) : State :=
  let upTo := (s.op k).upTo
  if s.mgmt.queue.any fun r => notLater upTo r.seq then s
  else finishOp ((s.putOct 0x0E0012 0 (ringBytes (upToSeq upTo (s.op k).snap))).bump (ent 0x0E0012 0)) k

/-- Margins as a scan leaves them (R191, R192): `FFh` where no voltage margin was scanned. -/
def scanMargins (level : Nat) (data : List Byte) : List Byte :=
  if level = 1 then data else data.mapIdx fun i x => if i % 2 = 1 then 0xFF else x

/-- The work of slot `k` is complete (R115). Panel loads, rekeys and trickle receptions end through their own commands. -/
def workComplete (s : State) (k : Nat) (data : List Byte) : State :=
  if !mayComplete s k then s
  else match s.opKind k with
    | 3 => finishOp (scrubTo s k (fieldBE (s.opParams k) 4 4)) k
    | 4 => passTest s k
    | 5 => if data.length = 1072 then
        finishOp ((s.putOct (s.opTarget k) 0x0A (scanMargins (fieldBE (s.opParams k) 0 1) data)).bump (ent (s.opTarget k) 0x0A)) k else s
    | 6 => retrained s k
    | 7 =>
      let s := copyBlocks s k (blocksLeft s k)
      if terminal (s.opState k) then s else finishOp s k
    | 9 => exportLog s k
    | _ => s

/-- A rekey ends at the end of the range in its direction (R478, R479): the set that no longer serves is destroyed. -/
def endRekey (s : State) (k : Nat) : State :=
  let x := s.slot k
  let s := s.setSlot k fun y =>
    if x.back then { y with newKeys := none, back := false, auto := false, op := none }
    else { y with keys := x.newKeys, newKeys := none, maxOld := x.maxNew, auto := false, op := none, held := false, told := false }
  let s := putSlot (s.put (slIdx k) 8 (if x.back then x.maxOld else x.maxNew)) k slActive
  match x.op with
  | some o => if x.back then putOp (s.put (opIdx o) 6 0) o opCancelled else finishOp s o
  | none => s

/-- The undo of slot `k` is complete (R115, R117). -/
def undoComplete (s : State) (k : Nat) : State :=
  if s.opState k ≠ opCancelling then s
  else match s.opKind k with
    | 1 =>
      let b : Fin 4 := Fin.ofNat 4 ((s.opTarget k - 0x0C0100) / 16)
      let s := match s.loadOn (.icp b) with
        | some l => if l.byMgc = some k then failPartial (s.setLoad (.icp b) (some { l with byMgc := none })) b cfEarlyEnd 0 else s
        | none => s
      putOp s k opCancelled
    | 2 =>
      let n := s.opTarget k - 0x0B0100
      if s.slState n = slRekeying ∧ s.num (slIdx n) 9 = s.dataBase n then endRekey s n else s
    | 6 =>
      let c := s.opTarget k - 0x0A0100
      let s := someWork s k
      putOp (if s.mcState c = mcRetraining then putMc s c mcOut else s) k opCancelled
    | 8 =>
      let s := if s.sgState = sgReceiving ∨ s.sgState = sgVerifying then
          putSg (clearStaging (s.raise 0x062 0 (be 1 1)) 0) sgEmpty else s
      putOp s k opCancelled
    | _ => let s := someWork s k
      if terminal (s.opState k) then s else putOp s k opCancelled

/-- A safe point (R115, R117). -/
def safePoint (s : State) (k : Nat) : State :=
  if s.opState k ≠ opSuspending then s
  else putOp (someWork s k) k opSuspended

/-- An error (R115) that the chapter of the kind lets end the operation. -/
def opError (s : State) (k status detail : Nat) : State :=
  let run := s.opState k = opRunning
  if !run ∧ s.opState k ≠ opCancelling ∨ status = stOk then s
  else match s.opKind k with
    | 1 =>
      let b : Fin 4 := Fin.ofNat 4 ((s.opTarget k - 0x0C0100) / 16)
      match s.loadOn (.icp b) with
      | some l => if l.byMgc = some k then failPartial s b status detail else failOp s k status detail
      | none => failOp s k status detail
    | 2 | 8 => s
    | 4 =>
      if status = stTargetUnavailable ∧ 1 ≤ detail ∧ detail ≤ testSteps s k then failTest s k detail else s
    | 6 =>
      let c := s.opTarget k - 0x0A0100
      if status = stTargetUnavailable ∧ 1 ≤ detail ∧ detail ≤ 5 ∧ s.mcState c = mcRetraining then
        loseChannel (stepsDone (s.put (mchIdx c) 0x11 (detail - 1)) k (detail - 1) 5) c 2 else s
    | 7 =>
      if status = stTargetUnavailable ∧ detail < ceilDiv (fieldBE (s.opParams k) 12 6) 4096 ∧ (s.op k).pos / 4096 ≤ detail then
        let s := copyBlocks s k (detail - (s.op k).pos / 4096)
        if terminal (s.opState k) then s else failOp s k status detail
      else s
    | _ => failOp s k status detail

/-! ### The commands -/

/-- The record a slot write carries: read-only fields as zeros (R43). -/
def slotRecord (kind target : Nat) (params : List Byte) (ctl : Nat) : Val :=
  .oct (be 1 kind ++ be 4 target ++ be 2 params.length ++ params ++ be 1 ctl ++ List.replicate 20 0)

/-- LONG_OP_START (R113, R114). -/
def execLongOpStart (r : Req) (k : Fin 64) (kind target : Nat) (params : List Byte) (s : State) : Out :=
  .next (submit s r (ent (opIdx k) 0) (slotRecord kind target params 1) (slotRule k 0))

/-- LONG_OP_SUSPEND (R115). -/
def execLongOpSuspend (r : Req) (k : Fin 64) (s : State) : Out := .next (submit s r (ent (opIdx k) 4) (.num 2) (slotRule k 4))

/-- LONG_OP_RESUME (R115). -/
def execLongOpResume (r : Req) (k : Fin 64) (s : State) : Out := .next (submit s r (ent (opIdx k) 4) (.num 3) (slotRule k 4))

/-- LONG_OP_CANCEL (R115). -/
def execLongOpCancel (r : Req) (k : Fin 64) (s : State) : Out := .next (submit s r (ent (opIdx k) 4) (.num 4) (slotRule k 4))

/-- LONG_OP_RELEASE (R115). -/
def execLongOpRelease (r : Req) (k : Fin 64) (s : State) : Out := .next (submit s r (ent (opIdx k) 4) (.num 5) (slotRule k 4))

/-- LONG_OP_TARGET_AVAILABLE (R115). -/
def execLongOpTargetAvailable (k : Fin 64) (s : State) : Out :=
  .next (if s.opState k = opQueued ∧ !targetInUse s (s.opKind k) (s.opTarget k) (s.op k).begun then runOrQueue s k else s)

/-- LONG_OP_SAFE_POINT (R115). -/
def execLongOpSafePoint (k : Fin 64) (s : State) : Out := .next (safePoint s k)

/-- LONG_OP_WORK_COMPLETE (R115). -/
def execLongOpWorkComplete (k : Fin 64) (data : List Byte) (s : State) : Out := .next (workComplete s k data)

/-- LONG_OP_UNDO_COMPLETE (R115). -/
def execLongOpUndoComplete (k : Fin 64) (s : State) : Out := .next (undoComplete s k)

/-- LONG_OP_ERROR (R115). -/
def execLongOpError (k : Fin 64) (status detail : Nat) (s : State) : Out := .next (opError s k status detail)

end Sys2Proof.Machine
end

