-- ==== Sys2Proof/Machine/Sessions.lean ====
section
/-! DEFINITION. Sessions, keys, galleries, the event ring, notifications and fabric events (R84 to R112). -/

namespace Sys2Proof.Machine

/-! ### Frames the device forms (R53, R56, R92) -/

/-- Index of session slot `n` (session number `n` + 1). -/
def sesIdx (n : Nat) : Nat := 0x010010 + n

/-- Session slot `n`. -/
def State.ses (s : State) (n : Nat) : Session := s.mgmt.sessions.getD n {}

/-- Change session slot `n`. -/
def State.setSes (s : State) (n : Nat) (f : Session → Session) : State :=
  { s with mgmt := { s.mgmt with sessions := lmod s.mgmt.sessions n f } }

/-- State of session slot `n`: 0 free, 1 half-open, 2 open, 3 open with its host-to-device counter used up. -/
def State.sesState (s : State) (n : Nat) : Nat := s.num (sesIdx n) 1

/-- Whether a session slot holds an open session. -/
def sesOpen (s : State) (n : Nat) : Bool := s.sesState n == 2 || s.sesState n == 3

/-- A header from the device (R53): RESP set, this node as sender; `toe` is bytes 20 to 35. -/
def frameHead (s : State) (flags len dest session count trans : Nat) (toe : List Byte) : List Byte :=
  be 2 0x4341 ++ be 1 1 ++ be 1 (0x80 + flags) ++ be 2 len ++ be 2 (s.num 0x010001 3) ++ be 3 dest ++ be 3 (s.num 0x010001 2)
    ++ be 1 session ++ be 1 count ++ be 4 trans ++ toe

/-- A critical trailer: counter and tag over every preceding byte (R54, R92). -/
def withTrailer (key : List Byte) (counter : Nat) (b : List Byte) : List Byte :=
  let b := b ++ be 8 counter
  b ++ (hmac256 key b).take 16

/-- A response record (R56). -/
def respRecord (op rflags key status detail : Nat) (value : List Byte) : List Byte :=
  be 1 op ++ be 1 rflags ++ be 4 key ++ be 2 status ++ be 4 detail ++ be 2 value.length ++ value

/-- A frame leaves the device (R52). -/
def sendCap (s : State) (f : TxFrame) : State := { s with cap := { s.cap with sent := s.cap.sent ++ [f] } }

/-! ### Closing (R87, R90, R91) -/

/-- A command of a session that has closed: its event 010h is not delivered (R91). -/
def orphan (n : Nat) (c : TimedCmd) : TimedCmd :=
  match c.who with
  | .session m => if m.val = n then { c with gone := true } else c
  | _ => c

/-- Mark every command of a session that is still to complete (R91). -/
def orphanCmds (s : State) (n : Nat) : State :=
  let f := orphan n
  { s with
    ruling := { s.ruling with
      timed := s.ruling.timed.map f
      sched := s.ruling.sched.map fun t => { t with cmd := t.cmd.map f } }
    noc := { s.noc with swapCmds := s.noc.swapCmds.map f }
    lan := { s.lan with subs := s.lan.subs.map fun e => (e.1, { e.2 with cmd := e.2.cmd.map f }) }
    upd := { s.upd with armedWho := s.upd.armedWho.map f }
    cap := { s.cap with
      bridge := s.cap.bridge.map fun r => { r with cmd := r.cmd.map f }
      bridgeQueue := s.cap.bridgeQueue.map fun r => { r with cmd := r.cmd.map f } } }

/-- Discard the staged segmented writes that match: event 011h for each (R67, R91, R100). -/
def dropStaged (s : State) (p : Staged → Bool) : State :=
  let gone := s.cap.staged.filter p
  let s := { s with cap := { s.cap with staged := s.cap.staged.filter fun x => !p x } }
  gone.foldl (fun s x => s.raise 0x011 0 (be 1 (whoCode x.who) ++ be 4 x.key)) s

/-- Whether a stager is session slot `n`. -/
def isSession (n : Nat) : Who → Bool
  | .session m => m.val == n
  | _ => false

/-- Free a session slot: its entries read their defaults. -/
def freeSession (s : State) (n : Nat) : State :=
  let s := (List.range 8).foldl (fun s i => if i + 1 = 7 then s else s.put (sesIdx n) (i + 1) 0) s
  (s.putOct (sesIdx n) 7 []).setSes n fun _ => {}

/-- An open session closes with a cause (R90, R91): event 021h. -/
def closeSession (s : State) (n cause : Nat) : State :=
  let s := freeSession (orphanCmds s n) n
  (dropStaged s fun x => isSession n x.who).raise 0x021 (n + 1) (be 1 (n + 1) ++ be 1 cause)

/-- A half-open session is discarded (R87): event 022h with its status. -/
def discardHalfOpen (s : State) (n status : Nat) : State :=
  let k := s.num (sesIdx n) 2
  (freeSession s n).raise 0x022 k (be 1 k ++ be 2 status)

/-- Close an open session with a cause; discard a half-open one with a status. -/
def endSession (s : State) (n cause status : Nat) : State :=
  if sesOpen s n then closeSession s n cause
  else if s.sesState n = 1 then discardHalfOpen s n status else s

/-- End every session on a key slot. -/
def endSlotSessions (s : State) (k cause : Nat) : State :=
  (List.range 8).foldl (fun s n => if s.num (sesIdx n) 2 = k then endSession s n cause stAccessDenied else s) s

/-- FORCE_CLOSE (R87, R90). -/
def forceCloseRule (n : Nat) : Rule :=
  { base := State.rulingNext, check := noCheck, judge := noJudge, pick := noPick,
    apply := fun s _ _ v => { s := if valNum v = 1 then endSession s n 2 stAccessDenied else s } }

/-! ### Keys (R95, R97, R98) -/

/-- Index of a host key slot. -/
def hkIdx (k : Nat) : Nat := 0x020010 + k
/-- Index of a group key. -/
def gkIdx (g : Nat) : Nat := 0x020030 + g

/-- The key that a write carries (R98): wrapped under the session's key, or plain from the service port; the status of
what it may not be. -/
def keyOf (s : State) (r : Req) (b : List Byte) : Except Nat (List Byte) :=
  match r.who with
  | .session n =>
    if b.length ≠ 40 then .error stTypeMismatch
    else match keyUnwrap (hmac256 (s.ses n.val).kH2d (ascii "WRAP")) b with
      | some k => .ok k
      | none => .error stTypeMismatch
  | .service => if b.length = 32 then .ok b else .error stTypeMismatch
  | _ => .error stAccessDenied

/-- Check 9 of a key write. -/
def keyCheck (s : State) (r : Req) (v : Val) : Option Stat :=
  match keyOf s r (valBytes v) with
  | .ok _ => none
  | .error e => some (e, 0)

/-- A host key is installed (R87, R90, R98): epoch 0, enabled, active; the slot's sessions end. -/
def installHostKey (s : State) (k : Nat) (key : List Byte) : State :=
  let s := { s with mgmt := { s.mgmt with hostKeys := s.mgmt.hostKeys.set k key } }
  let s := ((s.put (hkIdx k) 1 1).put (hkIdx k) 4 0).bump (ent (hkIdx k) 3)
  endSlotSessions (s.write (ent (hkIdx k) 5) (.num 1)) k 3

/-- A host key write (R98). -/
def hostKeyRule (k : Nat) : Rule :=
  { base := State.rulingNext, check := keyCheck, judge := noJudge, pick := noPick,
    apply := fun s _ r v => match keyOf s r (valBytes v) with
      | .ok key => { s := installHostKey s k key }
      | .error e => { s := s, status := e } }

/-- Enable of a host key slot (R90). -/
def keyEnableRule (k : Nat) : Rule :=
  { base := State.rulingNext, check := noCheck, judge := noJudge, pick := noPick,
    apply := fun s _ _ v =>
      if s.val (ent (hkIdx k) 5) = v then { s := s }
      else
        let s := s.write (ent (hkIdx k) 5) v
        if valNum v = 0 then { s := endSlotSessions (s.put (hkIdx k) 1 2) k 5 }
        else { s := s.put (hkIdx k) 1 (if s.mgmt.hostKeys.getD k [] = [] then 0 else 1) } }

/-- Gallery of a host key slot: slot 0 stays with gallery 0 (R97, R100). -/
def keyGalleryRule (k : Nat) : Rule :=
  { plainRule (ent (hkIdx k) 2) with
    check := fun _ _ v => if k = 0 ∧ valNum v ≠ 0 then some (stTypeMismatch, 0) else none }

/-- A group key write (R95, R98): both group counters start again. -/
def groupKeyRule (g : Nat) : Rule :=
  { base := State.rulingNext, check := keyCheck, judge := noJudge, pick := noPick,
    apply := fun s _ r v => match keyOf s r (valBytes v) with
      | .ok key =>
        let s := { s with mgmt := { s.mgmt with groupKeys := s.mgmt.groupKeys.set g key } }
        { s := (((s.put (gkIdx g) 1 1).put (gkIdx g) 4 0).put (gkIdx g) 5 0).bump (ent (gkIdx g) 3) }
      | .error e => { s := s, status := e } }

/-! ### Assignment ranges (R99, R100) -/

/-- Index of an assignment range. -/
def rgIdx (q : Nat) : Nat := 0x011000 + q

/-- The fields of a range as they would read after a write of sub-index `sub`: LOW, HIGH, gallery, VALID. -/
def rangeAfter (s : State) (q sub : Nat) (v : Val) : List Nat :=
  let held := (List.range 4).map fun i => s.num (rgIdx q) (i + 1)
  if sub = 0 then ((recordValues (ent (rgIdx q) 0) (valBytes v)).getD []).map valNum
  else held.set (sub - 1) (valNum v)

/-- The check of R99 that a VALID range breaks. -/
def rangeFault (s : State) (q : Nat) (f : List Nat) : Option Nat :=
  let lo := f.getD 0 0
  let hi := f.getD 1 0
  let meets := fun a b => lo ≤ b && a ≤ hi
  if f.getD 3 0 = 0 then none
  else if hi < lo then some stTypeMismatch
  else if meets 0 0x02FFFF || meets 0x0E0000 0x0E0FFF || meets 0x100000 0x10FFFF then some stAccessDenied
  else if (List.range 256).any fun r => r != q && s.flag (rgIdx r) 4 && meets (s.num (rgIdx r) 1) (s.num (rgIdx r) 2) then
    some stTypeMismatch
  else none

/-- A write of a range (R99, R100): where owners change, the former gallery's timed commands are cancelled with NOT_OWNER
and staged writes discarded; event 025h. -/
def rangeRule (q sub : Nat) : Rule :=
  { base := State.rulingNext, judge := noJudge, pick := noPick,
    check := fun s _ v => (rangeFault s q (rangeAfter s q sub v)).map fun e => (e, 0),
    apply := fun s _ _ v =>
      let f := rangeAfter s q sub v
      let old := (List.range 4).map fun i => s.num (rgIdx q) (i + 1)
      let t := (List.range 4).foldl (fun t i => t.write (ent (rgIdx q) (i + 1)) (.num (f.getD i 0))) s
      if f = old then { s := t }
      else
        let moved := fun key => ownerOf s key != ownerOf t key
        let gone := (pendingCmds t).filter fun c => moved c.key
        let t := freeCancelled (cancelTimed t (fun c => moved c.key) stNotOwner) gone
        let t := dropStaged t fun x => moved x.key
        { s := t.raise 0x025 q (be 1 q ++ be 1 (f.getD 2 0)) } }

/-! ### The ring and notifications (R106 to R109) -/

/-- The oldest queued record is written to the ring (R106 to R108); exports that run take it in. -/
def recordEvent (s : State) : State :=
  match s.mgmt.queue with
  | [] => s
  | r :: q =>
    let r := if s.mgmt.markLost then { r with lost := true } else r
    let i := r.seq % 65536
    let old := tget s.mgmt.ring i
    let first := s.mgmt.ring.isEmpty
    let m := { s.mgmt with
      queue := q
      markLost := false
      ring := tput s.mgmt.ring i r
      longOps := s.mgmt.longOps.mapIdx fun k x =>
        if s.opKind k == 9 && s.opState k == opRunning && notLater x.upTo r.seq then { x with snap := tput x.snap i r } else x }
    let s := { s with mgmt := m }.put 0x0E0000 1 r.seq
    let s := (List.range 64).foldl (fun s k =>
      if s.opKind k = 9 ∧ s.opState k = opRunning then showExport s k else s) s
    match old with
    | some o => s.put 0x0E0000 2 ((o.seq + 1) % 2 ^ 32)
    | none => if first then s.put 0x0E0000 2 r.seq else s

/-- Send a notification frame of up to 64 records (R109). -/
def sendNotes (s : State) (n : Nat) : State :=
  let x := s.ses n
  if !sesOpen s n ∨ x.notes = [] ∨ s.num (sesIdx n) 6 = 2 ^ 64 - 1 then s
  else
    let recs := x.notes.take 64
    let c := s.num (sesIdx n) 6 + 1
    let body := recs.flatMap fun r => respRecord 0x20 0 (ent 0x0E0000 0) stOk 0 (recordBytes r)
    let head := frameHead s 0x20 (36 + body.length + 24) x.src (n + 1) recs.length (x.noteNum + 1) (List.replicate 16 0)
    let bound := s.oct (sesIdx n) 7
    let s := (s.put (sesIdx n) 6 c).setSes n fun y => { y with notes := y.notes.drop 64, noteNum := (y.noteNum + 1) % 2 ^ 32 }
    sendCap s { port := x.port, ip := bound.take 16, udp := fieldBE bound 16 2, bytes := withTrailer x.kD2h c (head ++ body) }

/-! ### Fabric events (R110, R111) -/

/-- A raising is taken from the design while the bolt's queue of 16 has room (R111). -/
def raiseFabric (s : State) (b num xlen : Nat) (data : List Byte) : State :=
  let q := s.mgmt.fabQueues.getD b []
  if !s.fabricRuns || s.pwr.halted || 16 ≤ q.length then s
  else
    let n := min xlen 32
    let x : FabRaise := { num := num, extra := (data ++ List.replicate 32 0).take n,
                          time := if s.rulingArmed then (s.tb s.rulingTb).ns else s.now, pick := s.rulingPick,
                          uptime := !s.rulingArmed }
    { s with mgmt := { s.mgmt with fabQueues := s.mgmt.fabQueues.set b (q ++ [x]) } }

/-- The MGC takes the oldest raising of a bolt (R111). -/
def takeFabric (s : State) (b : Nat) : State :=
  match s.mgmt.fabQueues.getD b [] with
  | [] => s
  | x :: q =>
    let s := { s with mgmt := { s.mgmt with fabQueues := s.mgmt.fabQueues.set b q } }
    let r := recordOf s (0xF00 + x.num) b x.extra
    raiseWith s { r with fabric := true, time := x.time, pick := x.pick, uptime := x.uptime } .all

/-- Lines an event source may be routed to: 0 to 63, or FFh (R104). -/
def lineRule (n : Nat) : Rule :=
  { plainRule (ent (0x0E1000 + n) 3) with
    check := fun _ _ v => if valNum v < 64 ∨ valNum v = 255 then none else some (stTypeMismatch, 0) }

/-- Clear the bits of a W1C entry that are written as 1 (R6): bits that the device sets in the same cycle stay set. A write
that changes the value moves GENERATION (R46). -/
def State.clearW1c (s : State) (key mask : Nat) : State :=
  let clear := mask % 2 ^ 64 &&& ((2 ^ 64 - 1) ^^^ s.freshBits key)
  let n := s.num (key / 256) (key % 256)
  if n &&& clear = 0 then s else (s.clrBits (key / 256) (key % 256) clear).bump key

/-- EVT_CLR clears a pending line of a bolt, unless the device raised it in the same cycle (R110). -/
def State.clearPending (s : State) (b line : Nat) : State :=
  if s.freshBits (ent (0x0E0200 + b) 1) / 2 ^ line % 2 = 1 then s else s.clrBits (0x0E0200 + b) 1 (2 ^ line)

/-- A write of a W1C entry (R6). -/
def w1cRule (key : Nat) : Rule :=
  { base := State.rulingNext, check := noCheck, judge := noJudge, pick := noPick,
    apply := fun s _ _ v => { s := s.clearW1c key (valNum v) } }

/-! ### The commands -/

/-- HALF_OPEN_EXPIRY (R87). -/
def execHalfOpenExpiry (n : Fin 8) (s : State) : Out :=
  .next (if s.sesState n.val = 1 then discardHalfOpen (s.waitUntil ((s.ses n.val).openedAt + second)) n.val stTooLate else s)

/-- SESSION_IDLE_TIMEOUT (R90). -/
def execSessionIdleTimeout (n : Fin 8) (s : State) : Out :=
  .next (if sesOpen s n.val then
    closeSession (s.waitUntil ((s.ses n.val).heardAt + s.num 0x010018 1 * second)) n.val 1 else s)

/-- FORCE_CLOSE (R90). -/
def execForceClose (r : Req) (n : Fin 8) (v : Nat) (s : State) : Out :=
  .next (submit s r (ent (sesIdx n) 9) (.num v) (forceCloseRule n))

/-- HOST_KEY_WRITE (R98). -/
def execHostKeyWrite (r : Req) (k : Fin 16) (bytes : List Byte) (s : State) : Out :=
  .next (submit s r (ent (hkIdx k) 3) (.oct bytes) (hostKeyRule k))

/-- CURATOR_KEY_INSTALL (R98): a plain write on the service port. -/
def execCuratorKeyInstall (bytes : List Byte) (s : State) : Out :=
  .next (submit s { who := .service, crit := false, toe := .none, trans := 0 } (ent (hkIdx 0) 3) (.oct bytes) (hostKeyRule 0))

/-- KEY_SLOT_ENABLE (R90). -/
def execKeySlotEnable (r : Req) (k : Fin 16) (v : Nat) (s : State) : Out :=
  .next (submit s r (ent (hkIdx k) 5) (.num v) (keyEnableRule k))

/-- GROUP_KEY_WRITE (R95). -/
def execGroupKeyWrite (r : Req) (g : Fin 16) (bytes : List Byte) (s : State) : Out :=
  .next (submit s r (ent (gkIdx g) 3) (.oct bytes) (groupKeyRule g))

/-- ASSIGNMENT_RANGE_WRITE (R99). -/
def execAssignmentRangeWrite (r : Req) (q : Fin 256) (sub : Fin 5) (bytes : List Byte) (s : State) : Out :=
  .next (submit s r (ent (rgIdx q) sub) (valueOf (ent (rgIdx q) sub) bytes) (rangeRule q sub))

/-- DEVICE_COUNTER_EXHAUSTED (R93). -/
def execDeviceCounterExhausted (n : Fin 8) (s : State) : Out :=
  .next (if sesOpen s n.val ∧ s.num (sesIdx n) 6 = 2 ^ 64 - 1 then closeSession s n.val 4 else s)

/-- EVENT_RECORD (R106). -/
def execEventRecord (s : State) : Out := .next (recordEvent s)

/-- NOTIFICATION_SEND (R109). -/
def execNotificationSend (n : Fin 8) (s : State) : Out := .next (sendNotes s n.val)

/-- FABRIC_EVENT_RAISE (R111). -/
def execFabricEventRaise (b : Fin 4) (num : BitVec 8) (xlen : BitVec 6) (data : List Byte) (s : State) : Out :=
  .next (raiseFabric s b.val num.toNat xlen.toNat data)

/-- FABRIC_EVENT_TAKE (R111). -/
def execFabricEventTake (b : Fin 4) (s : State) : Out := .next (takeFabric s b.val)

/-- EVT_CLR (R110): a raising in the same cycle leaves the bit set. -/
def execEvtClr (b : Fin 4) (line : Fin 64) (raised : Bool) (s : State) : Out :=
  .next (if raised then s else s.clearPending b.val line.val)

/-- CAP_SERVICE_START (R101). -/
def execCapServiceStart (s : State) : Out :=
  .next (if s.cap.phase = .booting then { s with cap := { s.cap with phase := .capUp, listen := s.num 0x010001 1 } } else s)

/-- VAULT_UNSEALED (R101, R102): the buckets are full and the first OPEN passes. -/
def execVaultUnsealed (s : State) : Out :=
  .next (if s.cap.phase = .capUp then
    { s with cap := { s.cap with phase := .unsealed, nextAdmission := s.now, refused := 0 } } else s)

/-- ALL_AREAS_SERVED (R101, R130). -/
def execAllAreasServed (s : State) : Out :=
  .next (if s.cap.phase = .unsealed then { s with cap := { s.cap with phase := .served } } else s)

end Sys2Proof.Machine
end

