-- ==== Sys2Proof/Machine/Protect.lean ====
section
/-! DEFINITION. The halted state (R481, R482), protected accesses at the memory (R470 to R476), group conversions (R477 to
R479), and the completion of memory requests (R440, R449). -/

namespace Sys2Proof.Machine

/-! ### The halted state (R481, R482) -/

/-- Unit reinstatements and mends among the task kinds. -/
def unitTask (k : TaskKind) : Bool := k == .seamChan || k == .nocLink || k == .engine || k == .cluster || k == .mend

/-- Pending reinstatements and mends are cancelled with TARGET_UNAVAILABLE, those of an open window among them (R481). -/
def cancelUnitTasks (s : State) : State :=
  let s := cancelTimed s (fun c => (taskOf c.key).any fun t => unitTask t.1) stTargetUnavailable
  let mine := s.ruling.sched.filter fun t => unitTask t.kind
  let r := { s.ruling with
    sched := s.ruling.sched.filter fun t => !unitTask t.kind
    untimed := s.ruling.untimed.filter fun u => !unitTask u.kind }
  mine.foldl (fun s t => completeCmd s t.cmd stTargetUnavailable) { s with ruling := r }

/-- Pending swaps are cancelled (R425). -/
def cancelSwaps (s : State) : State :=
  cancelSwap (cancelTimed s (fun c => c.key = ent 0x090000 1) stTargetUnavailable) stTargetUnavailable

/-- What a halt and a reset end alike (R169, R359, R425, R480, R481, R498, R507). -/
def endPending (s : State) : State :=
  let s := (List.range 8).foldl (fun s e => stopFlows s e stTargetUnavailable) s
  let s := cancelReleases (cancelUnitTasks (cancelSwaps s))
  failKind (failKind (cancelActivation s stTargetUnavailable) 4 stTargetUnavailable) 2 stTargetUnavailable

/-- The halt record (R481). -/
def latchHalt (s : State) (cause addr level : Nat) : State :=
  let s := ((s.put 0x0B0010 1 cause).put 0x0B0010 2 (addr / 2 ^ 44)).put 0x0B0010 3 addr
  let s := ((s.put 0x0B0010 4 level).put 0x0B0010 5 s.rulingPick).put 0x0B0010 6 (if s.rulingArmed then (s.tb s.rulingTb).ns else 0)
  let s := s.count 0x0B0010 7 32 1
  { s with itg := { s.itg with haltLatched := true } }

/-- The device halts (R137, R143, R159, R481): cause 0 data tag, 1 node tag, 2 the line under a WRITE_PARTIAL, 3 thermal
trip. A check that fails in the halted state is counted only. -/
def enterHalt (s : State) (cause addr level : Nat) : State :=
  if s.pwr.halted then (if cause = 3 then s else { s with itg := { s.itg with checkFails := s.itg.checkFails + 1 } })
  else
    let s := latchHalt s cause addr level
    let s := (List.finRange 4).foldl (fun s b => failPartial s b cfHalted 0) s
    let s := if s.cfgState = csLoading ∨ s.cfgState = csChecking ∨ s.cfgState = csWaitTick then
        (if (s.loadOn .slave).isSome then failFull s cfHalted 0 else s) else s
    let s := undefinePanels (endPending s)
    let s := stopLanes { s with pwr := { s.pwr with halted := true }, cfg := { s.cfg with hemSafe := true, done := false } } 3 stTargetUnavailable
    let s := idleChannels { s with itg := { s.itg with cache := [] } }
    let s := (List.range 32).foldl (fun s c => putNi s c niOffline) s
    if s.cfgState = csRunning then putCfg s csHalted else s

/-- What a protected access ran into: a halt, or the slot's failure. -/
def meetTrouble (s : State) (k : Nat) : Trouble → State
  | .halt c a l => enterHalt s c a l
  | .slotFail c => failSlot s k c
  | _ => s

/-! ### Protected accesses (R466, R470 to R473) -/

/-- The granule locations of a packet. -/
def granuleLocs (p : NocPkt) : List Nat := (List.range p.granules).map fun i => locationOf p.addr + 64 * i

/-- Whether a request waits for a minor overflow of its group (R473). -/
def overflowBlocks (s : State) (k : Nat) (p : NocPkt) : Bool :=
  match (s.slot k).overflow with
  | some loc => (granuleLocs p).any fun a => lineOf s k a / 64 == lineOf s k loc / 64
  | none => false

/-- Hold a request at the integrity engine. -/
def holdReq (s : State) (p : NocPkt) : State := { s with itg := { s.itg with waiting := s.itg.waiting ++ [p] } }

/-- A request leaves the integrity engine. -/
def unholdReq (s : State) (p : NocPkt) : State :=
  { s with itg := { s.itg with waiting := s.itg.waiting.eraseP fun q => q == p } }

/-- An access to a scramble-only slot (R466, R472). -/
def scrambledAccess (s : State) (k : Nat) (p : NocPkt) : State × List Byte :=
  let key := fun loc => (keysFor s k (loc + 1)).scr
  if p.kind = kRead then
    (s, (granuleLocs p).flatMap fun a => descrambleLine (key a) a 0 (s.bytes a 64))
  else if p.kind = kPartial then
    let a := locationOf p.addr
    (s.store a (scrambleLine (key a) a 0 (mergeBytes p.mask (descrambleLine (key a) a 0 (s.bytes a 64)) p.data)), [])
  else
    ((List.range p.granules).foldl (fun s i =>
      let a := locationOf p.addr + 64 * i
      s.store a (scrambleLine (key a) a 0 ((slice p.data (64 * i) 64 ++ List.replicate 64 0).take 64))) s, [])

/-- Granules of a protected write from the `i`-th on: all written, or what stopped it and at which granule. -/
def writeGuarded (k : Nat) (p : NocPkt) (s : State) : List Nat → State × Option (Trouble × Nat)
  | [] => (s, none)
  | i :: r =>
    let data := (slice p.data (64 * i) 64 ++ List.replicate 64 0).take 64
    match writeLine s k (locationOf p.addr + 64 * i) (if p.kind = kPartial then some p.mask else none) data with
    | .ok s => writeGuarded k p s r
    | .error e => (s, some (e, i))

/-- What remains of a write from granule `i` on. -/
def restOf (p : NocPkt) (i : Nat) : NocPkt :=
  { p with addr := p.addr + 64 * i, granules := p.granules - i, data := p.data.drop (64 * i) }

/-- A protected write (R472 to R474): acknowledged once written; a minor overflow or an exhausted major holds what
remains, with event C06h unless it was held before (`again`). -/
def protectedWrite (s : State) (k : Nat) (p : NocPkt) (again : Bool) : State :=
  match writeGuarded k p s (List.range p.granules) with
  | (s, none) => answerReq s p kWriteAck stOk []
  | (s, some (.overflow loc, i)) => (holdReq s (restOf p i)).setSlot k fun x => { x with overflow := some loc }
  | (s, some (.exhausted loc, i)) =>
    let s := (holdReq s (restOf p i)).setSlot k fun x => { x with held := true }
    if again ∧ i = 0 then s else s.raise 0xC06 k (be 6 (k * 2 ^ 44 + loc))
  | (s, some (.slotFail c, _)) => answerReq (failSlot s k c) p kErrorResp stTargetUnavailable []
  | (s, some (.refused, _)) => answerReq s p kErrorResp stTargetUnavailable []
  | (s, some (e, _)) => meetTrouble s k e

/-- Lines of a protected read, each checked (R470). -/
def readGuarded (k : Nat) (s : State) : List Nat → Except Trouble (State × List Byte)
  | [] => .ok (s, [])
  | a :: r =>
    match readLine s k a with
    | .error e => .error e
    | .ok (s, b) =>
      match readGuarded k s r with
      | .error e => .error e
      | .ok (s, c) => .ok (s, b ++ c)

/-- The nodes, lines and tags of the first waiting protected read are checked (R470): data is delivered, or the device
halts. -/
def readsChecked (s : State) : State :=
  if s.pwr.halted then s
  else match s.itg.waiting.find? fun p => p.kind = kRead ∧ !overflowBlocks s (p.addr / 2 ^ 44) p with
    | none => s
    | some p =>
      let k := p.addr / 2 ^ 44
      let s := unholdReq s p
      match packetAccess s p with
      | .guarded _ =>
        match readGuarded k s (granuleLocs p) with
        | .ok (s, b) => answerReq s p kReadResp stOk b
        | .error (.slotFail c) => answerReq (failSlot s k c) p kErrorResp stTargetUnavailable []
        | .error .refused => answerReq s p kErrorResp stTargetUnavailable []
        | .error e => meetTrouble s k e
      | _ => answerReq (noteBarred s p k) p kErrorResp stTargetUnavailable []

/-- A minor overflow completes (R473): the write that caused it applies with minor 1. -/
def overflowDone (s : State) (k : Nat) : State :=
  if s.pwr.halted then s
  else match (s.slot k).overflow with
    | none => s
    | some loc =>
      match overflowLeaf s k (lineOf s k loc / 64) with
      | .error .refused => s
      | .error e => meetTrouble (s.setSlot k fun x => { x with overflow := none }) k e
      | .ok s =>
        let s := noteOverflow (s.setSlot k fun x => { x with overflow := none }) k 0
        match s.itg.waiting.find? fun p => p.kind ≠ kRead ∧ p.addr / 2 ^ 44 = k ∧ locationOf p.addr = loc with
        | some p => protectedWrite (unholdReq s p) k p false
        | none => s

/-- A counter node is evicted (R471, R476). -/
def evictNode (s : State) (k j x : Nat) : State :=
  match cached s k j x with
  | none => s
  | some n =>
    if s.pwr.halted then s
    else if n.dirty ∧ refusesMeta s (nodeLoc s k j x) then failSlot s k 0
    else match evict s k j x with
      | .ok s => s
      | .error .refused => failSlot s k 0
      | .error e => meetTrouble s k e

/-- A slot's lines and nodes have been initialised (R475), its bolt's channels being ONLINE. -/
def slotReady (s : State) (k : Nat) : State :=
  if s.slState k = slInitialising ∧ !s.pwr.halted ∧
      (channelsOf s (boltOf (s.dataBase k))).all (fun c => s.mcState c == mcOnline) then
    putSlot ((initialiseSlot s k).put (slIdx k) 7 1000000) k slActive
  else s

/-! ### Rekeys (R474, R477 to R479) -/

/-- Writes that an exhausted major holds are tried again (R474). -/
def retryHeld (s : State) (k : Nat) : State :=
  if !(s.slot k).held then s
  else (s.itg.waiting.filter fun p => p.kind ≠ kRead ∧ p.addr / 2 ^ 44 = k ∧ !overflowBlocks s k p).foldl
    (fun s p => protectedWrite (unholdReq s p) k p true) (s.setSlot k fun x => { x with held := false })

/-- Whether a slot's rekey converts: its operation runs forward or back (R477, R479). -/
def converting (s : State) (k : Nat) : Bool :=
  s.slState k == slRekeying && !s.pwr.halted &&
    match (s.slot k).op with
    | some o => s.opState o == opRunning || s.opState o == opSuspending || s.opState o == opCancelling
    | none => true

/-- Timing-loop cycle before which the next conversion does not begin (R477): conversions count from 0, as the chapter's example has
them (group 97,656 begins 97,656 × 2.048 µs after START; DEDUCED, log entry 17). -/
def nextConversion (x : Slot) : Nat := x.paceAt + (if x.rate = 0 then 0 else ceilDiv (x.paceN * 4096 * 1000) x.rate)

/-- The group that a conversion is to take waits for a minor overflow in it. -/
def conversionBlocked (s : State) (k : Nat) : Bool :=
  let b := s.num (slIdx k) 9
  let g := if (s.slot k).back then b - 4096 else b
  match (s.slot k).overflow with
  | some loc => g ≤ loc && loc < g + 4096
  | none => false

/-- The end of the range in the direction of a rekey has been reached. -/
def rekeyAtEnd (s : State) (k : Nat) : Bool :=
  s.num (slIdx k) 9 == (if (s.slot k).back then s.dataBase k else s.dataBase k + s.dataSize k)

/-- A paced group conversion (R477, R479). -/
def convertNext (s : State) (k : Nat) : State :=
  if !converting s k || conversionBlocked s k then s
  else if rekeyAtEnd s k then endRekey s k
  else
    let s := s.waitUntil (nextConversion (s.slot k))
    match convertGroup s k with
    | .error .refused => s
    | .error e => meetTrouble s k e
    | .ok s =>
      let s := s.setSlot k fun x => { x with paceN := x.paceN + 1 }
      let s := match (s.slot k).op with
        | some o => s.put (opIdx o) 6 (ppm (s.num (slIdx k) 9 - s.dataBase k) (s.dataSize k))
        | none => s
      let s := retryHeld s k
      if rekeyAtEnd s k then endRekey s k else s

/-- MAX_MAJOR has reached 2^63 (R474): event C05h, and an automatic rekey unless one runs; it takes a FREE long operation
slot where there is one (log entry 17). -/
def autoRekey (s : State) (k : Nat) : State :=
  if s.num (slIdx k) 8 < 2 ^ 63 ∨ s.pwr.halted ∨ (s.slot k).told ∨ (s.slState k ≠ slActive ∧ s.slState k ≠ slRekeying) then s
  else
    let s := (s.setSlot k fun x => { x with told := true }).raise 0xC05 k (be 8 (s.num (slIdx k) 8))
    if s.slState k = slRekeying then s
    else match (List.range 64).find? fun o => s.opState o = opFree with
      | none => startRekey s k none 0
      | some o =>
        let s := ((s.put (opIdx o) 1 2).put (opIdx o) 2 (slIdx k)).put (opIdx o) 0x0A s.rulingPick
        let s := (s.setOp o fun _ => { startedAt := s.now, begun := true })
        (startRekey (putOp s o opRunning) k (some o) 0).setSlot k fun x => { x with auto := true }

/-! ### The completion of memory requests (R440, R449) -/

/-- A channel issues and completes the request that its precedence names (R449, R463). -/
def channelComplete (s : State) (c ix : Nat) : State :=
  if s.pwr.halted ∨ !(s.mcState c = mcOnline ∨ s.mcState c = mcRetraining ∧ s.ni c = niDraining) ∨ nextIssue s c ≠ some ix then s
  else
    let p := (s.mch c).queue.getD ix {}
    let k := p.addr / 2 ^ 44
    let access := packetAccess s p
    if access = .guarded k ∧ (overflowBlocks s k p ∨ s.itg.waiting.any fun q => sharesGranule p q) then s
    else
      let s := issue s c ix
      match access with
      | .plain =>
        let r := plainAccess s p
        answerReq r.1 p (ackKind p) stOk r.2
      | .barred j => answerReq (noteBarred s p j) p kErrorResp stTargetUnavailable []
      | .guarded k =>
        if !s.slInteg k then
          let r := scrambledAccess s k p
          answerReq r.1 p (ackKind p) stOk r.2
        else if p.kind = kRead then holdReq s p
        else protectedWrite s k p false

/-! ### The commands -/

/-- SLOT_ENABLE (R464). -/
def execSlotEnable (r : Req) (k : Fin 16) (s : State) : Out :=
  .next (submit s r (ent (slIdx k) 2) (.num 1) (slotEnableRule k))

/-- SLOT_DISABLE (R464). -/
def execSlotDisable (r : Req) (k : Fin 16) (s : State) : Out :=
  .next (submit s r (ent (slIdx k) 2) (.num 0) (slotEnableRule k))

/-- SLOT_INITIALISED (R475). -/
def execSlotInitialised (k : Fin 16) (s : State) : Out := .next (slotReady s k.val)

/-- PROTECTED_READ_CHECKED (R470, R481). -/
def execProtectedReadChecked (s : State) : Out := .next (readsChecked s)

/-- HALT_RECORD_COMMIT (R481): event C00h. -/
def execHaltRecordCommit (s : State) : Out :=
  .next (if s.itg.haltLatched then
    ({ s with itg := { s.itg with haltLatched := false } }).raise 0xC00 (s.num 0x0B0010 2)
      (be 1 (s.num 0x0B0010 1) ++ be 6 (s.num 0x0B0010 3) ++ be 1 (s.num 0x0B0010 4))
  else s)

/-- MINOR_OVERFLOW_COMPLETE (R473). -/
def execMinorOverflowComplete (k : Fin 16) (s : State) : Out := .next (overflowDone s k.val)

/-- COUNTER_NODE_EVICTION (R471). -/
def execCounterNodeEviction (k : Fin 16) (level idx : Nat) (s : State) : Out := .next (evictNode s k.val level idx)

/-- REKEY_GROUP_CONVERSION (R477). -/
def execRekeyGroupConversion (k : Fin 16) (s : State) : Out := .next (convertNext s k.val)

/-- AUTO_REKEY_START (R474). -/
def execAutoRekeyStart (k : Fin 16) (s : State) : Out := .next (autoRekey s k.val)

/-- MEMORY_ACCESS_COMPLETE (R440, R441, R449): targets 0 to 31 are channels, 32 to 47 archive slices; `upsets` are the archive
granules in which bits have changed by then. -/
def execMemoryAccessComplete (target : Fin 64) (ix : Nat) (upsets : List (BitVec 26 × Bool)) (s : State) : Out :=
  .next (if target.val < 32 then channelComplete s target.val ix
    else if target.val < 48 then archiveComplete (addUpsets s ((target.val - 32) / 4) upsets) target.val
    else s)

end Sys2Proof.Machine
end

