-- ==== Sys2Proof/Machine/Power.lean ====
section
/-! DEFINITION. Power, straps, reset and temperature (R126 to R138). -/

namespace Sys2Proof.Machine

/-! ### Loss of VCC_MGC (R91, R118, R129) -/

/-- Entries that outlive a loss of VCC_MGC beside the persistent ones: the running versions and bank (R487, R500), and the
powered state of the I/O banks, which VCC_IO sets (R217). -/
def outlives (key : Nat) : Bool :=
  (key / 256 == 0x100000 && ((1 ≤ key % 256 && key % 256 ≤ 9) || key % 256 == 0x0D)) || key / 256 == 0x110002

/-- Slots of trickle receptions not terminal (R118). -/
def trickleSlots (s : State) : List Nat := (List.range 64).filter fun k => opActive s k && s.opKind k == 8

/-- The entries the ledger and the vault hold after a loss of power (R44, R118). -/
def keptEntries (s : State) : Tbl Val :=
  let ops := (trickleSlots s).map opIdx
  s.cat.filter fun e => outlives e.1 || ops.contains (e.1 / 256) ||
    match fieldAt e.1 with
    | some f => f.pers
    | none => false

/-- The staging at a loss of power (R494, R498): powered seconds are counted, and an armed activation falls back. -/
def stowStaging (s : State) : State :=
  let s := if s.sgState = sgReceiving ∨ s.sgState = sgVerifying then
      s.count 0x100100 0x0B 32 ((s.now - s.upd.openedAt) / second) else s
  let s := if s.sgState = sgArmed then putSg s s.upd.armedFrom else s
  s.setUpd fun u =>
    { u with armedWho := none, prepared := false, revert := false, svcReq := false, svcRsp := none, openedAt := 0 }

/-- VCC_MGC is lost (R129): everything but the ledger, the vault and the world outside returns to its state before
power-good. -/
def losePower (s : State) : State :=
  let s := stowStaging (s.put 0x030000 1 s.rulingNext)
  { pending := s.pending, fresh := s.fresh, gen := s.gen, unit := s.unit, cat := keptEntries s, upd := s.upd,
    mgmt := { hostKeys := s.mgmt.hostKeys, groupKeys := s.mgmt.groupKeys, ring := s.mgmt.ring, seq := s.mgmt.seq,
              longOps := s.mgmt.longOps.mapIdx fun k x => if (trickleSlots s).contains k then x else {} },
    cap := { userStore := s.cap.userStore, sent := s.cap.sent },
    pwr := { railBad := s.pwr.railBad, sensors := s.pwr.sensors, xoAbsent := s.pwr.xoAbsent },
    cfg := { selN := s.cfg.selN, cfgMode := s.cfg.cfgMode },
    seams := { s.seams with chan := s.seams.chan.map fun c => (c.1, { failed := c.2.failed }) } }

/-! ### Power-good (R127, R129 to R131, R135) -/

/-- Rails whose tolerance the first clear waits for (R143): VCC_FAB, VCC_SHU and VCC_HARD. -/
def coreRails (s : State) : Bool := !s.pwr.railBad.any fun r => r < 12

/-- The state of a key slot from what the vault holds. -/
def keyState (key : List Byte) (enabled : Bool) : Nat := if !enabled then 2 else if key = [] then 0 else 1

/-- What the MGC takes from the vault and the ledger as it boots: key states, servo modes, generator settings, spreads. -/
def bootSettings (s : State) : State :=
  let s := (List.range 16).foldl (fun s k =>
    let s := s.put (hkIdx k) 1 (keyState (s.mgmt.hostKeys.getD k []) (s.flag (hkIdx k) 5))
    s.put (gkIdx k) 1 (keyState (s.mgmt.groupKeys.getD k []) true)) s
  (List.range 8).foldl (fun s t =>
    let s := s.setTb t fun _ => { cur := heldSettings s t, inc := s.num (tbIdx t) 5 }
    let s := s.put (servoIdx t) 4 (if s.flag (servoIdx t) 1 then 1 else 0)
    s.setDom t fun x => { x with spread := s.num (domIdx t) 7 }) s

/-- AVSBus rails at power-up (R127): VCC_FAB at the fused trim, VCC_SHU and VCC_HARD for their start-up operating points. -/
def setRails (s : State) : State :=
  let s := (List.range 4).foldl (fun s b => setRail s (3 * b) s.unit.fabTrim) s
  (List.range 8).foldl (fun s d => setRail s (railOf d) (opMv d (s.num (domIdx d) 4))) s

/-- The first clear of a power-up, once the core rails are in tolerance and the fabric trim is set (R127, R143). -/
def firstClear (s : State) : State :=
  if coreRails s then beginClear s 0
  else { s with cfg := { s.cfg with clearCause := 0xFF, initDriven := false } }

/-- Units as power-up leaves them: fitted engines dark (R285), the NIs of channels and fabric ports OFFLINE (R432). -/
def darkUnits (s : State) : State :=
  let s := (List.range 8).foldl (fun s e => if engineFitted s e then s.put (0x050300 + e) 1 1 else s) s
  (List.range 96).foldl (fun s t => if t < 32 ∨ 64 ≤ t then s.put (0x090800 + t) 1 niOffline else s) s

/-- Power-good on VCC_MGC (R127, R129, R131, R135, R231, R297, R498, R499): XO_IN, where selected, qualifies at once. -/
def goodPower (s : State) (xoSel pullSel : Bool) : State :=
  if s.pwr.mgcOn then s
  else
    let s := { s with
      now := 0
      pwr := { s.pwr with mgcOn := true, poweredAt := 0, late := s.pwr.railBad, xoSel := xoSel, pullSel := pullSel }
      cap := { s.cap with phase := .booting, tokensAt := 0 }
      lan := { s.lan with groupsAt := 250000000, groupsDone := [] } }
    let s := darkUnits (setRails (bootSettings (takeDefaults s)))
    let s := if s.num 0x100000 0x0D = 1 then s.setUpd fun u => { u with rebooted := true, switchAt := 0 } else s
    let u := s.unit
    let s := if u.step.any (· != u.step.getD 0 0) then s.raise 0x051 0 (u.step.flatMap (be 1) ++ be 1 (featureLevel u)) else s
    firstClear (tryUse s)

/-! ### Reset (R132) -/

/-- The NoC after a reset: nothing under way, no shadow table, epoch 0 (log entry 17). -/
def resetNoc (s : State) : State :=
  let n := { s.noc with outstanding := [], flight := [], accepted := [], fabOut := [], fabRsp := [], oldTable := [] }
  let s := { s with noc := n, mem := { s.mem with archQ := [] }, itg := { s.itg with waiting := [], cache := [] } }
  let s := ((s.put 0x090000 2 0).put 0x090000 3 0).putOct 0x090010 0 []
  (List.range 32).foldl (fun s j => putNi s (64 + j) niOffline) s

/-- A DEV_RESET_N reset (R132, R159, R482): the fabric and the hard units return to their unconfigured state. -/
def deviceReset (s : State) (lowNs : Nat) : State :=
  let s := takeDefaults (endPending s)
  let s := beginClear { s with pwr := { s.pwr with devReset := true, halted := false } } 1
  let s := idleChannels (stopLanes s 3 stTargetUnavailable)
  let s := resetNoc (resetMemory (resetShuttles (resetEngines s)))
  s.raise 0x050 0 (be 4 (lowNs / 1000))

/-- DEV_RESET_N low for a time (R132): a pulse under 20 ns is ignored; the spec says nothing of 20 ns to 1 µs, where a free
value decides (log entry 9). -/
def resetPulse (s : State) (lowNs : Nat) : State :=
  if !s.pwr.mgcOn ∨ lowNs < 20 then s
  else if lowNs < 1000 then
    if s.freeValue 1 = 1 then deviceReset s.draw lowNs else s.draw
  else deviceReset s lowNs

/-- DEV_RESET_N rises (R131, R297). -/
def resetRises (s : State) (pull : Bool) : State :=
  if !s.pwr.mgcOn then s
  else
    let s := { s with pwr := { s.pwr with pullSel := pull } }
    if s.pwr.devReset then
      { s with pwr := { s.pwr with devReset := false }, lan := { s.lan with groupsAt := s.now + 1000000, groupsDone := [] } }
    else s

/-! ### Rails (R127, R130) -/

/-- Rail number of VCC_ARCH (log entry 14). -/
def railArch : Nat := 12

/-- A rail leaves tolerance (R130, R442): event 183h while the device runs; the archive keeps nothing without VCC_ARCH. -/
def railFails (s : State) (rail mv : Nat) : State :=
  if s.pwr.railBad.contains rail then s
  else
    let s := { s with pwr := { s.pwr with railBad := s.pwr.railBad ++ [rail] } }
    let s := if rail = railArch then s.forget fun a => 2 ^ 37 ≤ a && a < 0x0E0000000000 + 4 * 0x04000000 else s
    if !s.pwr.mgcOn then s else s.raise 0x183 0 (be 1 rail ++ be 2 mv)

/-- A rail is in tolerance again (R130, R143): the power-up trim and first clear follow where they waited for it. -/
def railReturns (s : State) (rail : Nat) : State :=
  let out := fun l : List Nat => l.filter (· != rail)
  let s := { s with pwr := { s.pwr with railBad := out s.pwr.railBad, late := out s.pwr.late } }
  if s.pwr.mgcOn ∧ s.cfg.clearCause = 0xFF ∧ coreRails s then beginClear (setRails s) 0 else s

/-- A regulator does not answer (R127): its rail stays at the boot voltage; event 182h. -/
def regulatorFails (s : State) (b rail : Nat) : State :=
  let r := 3 * b + rail
  if !s.pwr.mgcOn ∨ s.pwr.silent.contains r then s
  else
    let s := { s with pwr := { s.pwr with silent := s.pwr.silent ++ [r], railMv := s.pwr.railMv.set r 750 } }
    let s := s.raise 0x182 b (be 1 b ++ be 1 rail)
    let d := 2 * b + (rail - 1)
    if rail = 0 ∨ s.domState d ≠ dRampUp then s else (s.dom d).ramps.foldl (fun s op => abandonRaise s d op 1) s

/-! ### Temperature (R137) -/

/-- The warning threshold in 0.1 °C. -/
def warnAt (s : State) : Int := 10 * (s.num 0x040800 5 : Int)

/-- A sensor reads a temperature in 0.1 °C; the hottest sensor of its bolt is shown. -/
def senseTemp (s : State) (b sensor : Nat) (temp : Int) : State :=
  let l := s.pwr.sensors.set (16 * b + sensor) temp
  let hot := ((l.drop (16 * b)).take 16).foldl max (l.getD (16 * b) 0)
  { s with pwr := { s.pwr with sensors := l } }.put 0x040800 (1 + b) (wrap 16 hot)

/-- Every sensor reads at most a temperature. -/
def coolTo (s : State) (temp : Int) : State :=
  (List.range 64).foldl (fun s i => senseTemp s (i / 16) (i % 16) (min temp (s.pwr.sensors.getD i 0))) s

/-- Extra fields of a thermal event. -/
def thermalExtra (b sensor : Nat) (temp : Int) : List Byte := be 1 b ++ be 1 sensor ++ be 2 (wrap 16 temp)

/-- A sensor rises through the warning threshold: event 180h once until re-armed. -/
def warn (s : State) (b sensor : Nat) (temp : Int) : State :=
  let s := senseTemp s b sensor temp
  if s.pwr.warned ∨ temp < warnAt s then s
  else { s with pwr := { s.pwr with warned := true } }.raise 0x180 b (thermalExtra b sensor temp)

/-- A sensor reaches 115 °C: the device halts, event 181h, and no load starts. -/
def trip (s : State) (b sensor : Nat) (temp : Int) : State :=
  let s := warn s b sensor temp
  if temp < 1150 then s
  else
    let s := enterHalt { s with pwr := { s.pwr with thermalHold := true } } 3 0 0xFF
    s.raise 0x181 b (thermalExtra b sensor temp)

/-! ### The commands -/

/-- POWER_GOOD (R129). -/
def execPowerGood (xoSel pullSel : Bool) (s : State) : Out := .next (goodPower s xoSel pullSel)

/-- VCC_MGC_LOW (R129). -/
def execVccMgcLow (s : State) : Out := .next (if s.pwr.mgcOn then losePower s else s)

/-- REGULATOR_SILENT (R127). -/
def execRegulatorSilent (b : Fin 4) (rail : Fin 3) (s : State) : Out := .next (regulatorFails s b rail)

/-- RAIL_OUT_OF_TOLERANCE (R130). -/
def execRailOutOfTolerance (rail : Fin 146) (mv : Nat) (s : State) : Out := .next (railFails s rail mv)

/-- RAIL_IN_TOLERANCE (R130). -/
def execRailInTolerance (rail : Fin 146) (s : State) : Out := .next (railReturns s rail)

/-- DEV_RESET (R132). -/
def execDevReset (lowNs : Nat) (s : State) : Out := .next (resetPulse s lowNs)

/-- DEV_RESET_RELEASE (R131). -/
def execDevResetRelease (pull : Bool) (s : State) : Out := .next (resetRises s pull)

/-- THERMAL_WARNING (R137). -/
def execThermalWarning (b : Fin 4) (sensor : Fin 16) (temp : Int) (s : State) : Out :=
  .next (if s.pwr.mgcOn then warn s b sensor temp else s)

/-- THERMAL_TRIP (R137). -/
def execThermalTrip (b : Fin 4) (sensor : Fin 16) (temp : Int) (s : State) : Out :=
  .next (if s.pwr.mgcOn then trip s b sensor temp else s)

/-- THERMAL_HOLD_END (R137): every sensor reads below the warning threshold. -/
def execThermalHoldEnd (temp : Int) (s : State) : Out :=
  .next (if s.pwr.mgcOn ∧ temp < warnAt s then
    { coolTo s temp with pwr := { (coolTo s temp).pwr with thermalHold := false } } else s)

/-- THERMAL_WARNING_REARM (R137): every sensor has fallen 3 °C below the threshold. -/
def execThermalWarningRearm (temp : Int) (s : State) : Out :=
  .next (if s.pwr.mgcOn ∧ temp ≤ warnAt s - 30 then
    { coolTo s temp with pwr := { (coolTo s temp).pwr with warned := false } } else s)

end Sys2Proof.Machine
end

