-- ==== Sys2Proof/Machine/Ruling.lean ====
section
/-! DEFINITION. Ruling selection, window length, arming, pick generator settings, and steps as they apply (R13, R23 to R25,
R253 to R260, R269). -/

namespace Sys2Proof.Machine

/-- Index of a pick generator's record. -/
def genIdx (t : Nat) : Nat := 0x030180 + t

/-! ### The ruling selection and the bridge (R23) -/

/-- A bridge interval begins (R23): event 111h, cause 1. -/
def beginBridge (s : State) (t : Nat) : State :=
  { s with ruling := { s.ruling with bridge := true } }.raise 0x111 t (be 1 t ++ be 1 1)

/-- Whether the next boundary of a time base is reached in this cycle or was before. -/
def boundaryDue (s : State) (t : Nat) : Bool := (s.tb t).armed && (s.tb t).cur.start (s.tb t).high ≤ (s.tb t).time

/-- The accepted selection takes effect (R23): a bridge, unless the new generator's boundary falls in the same cycle. R38 does
not say whose record event 111h names here: the model names the base that rules from now on (DESIGN CHOICE, log entry 17). -/
def switchRuling (s : State) : State :=
  match s.ruling.newRuling with
  | none => s
  | some u =>
    let s := { s with ruling := { s.ruling with newRuling := none } }.put 0x030000 1 u
    if boundaryDue s u then s else beginBridge s u

/-- A ruling selection is accepted (R23): in force at once while the ruling base is unarmed, else from its next boundary. -/
def selectRuling (s : State) (v : Nat) : State :=
  if v = s.rulingNext then s
  else
    let s := s.bump (ent 0x030000 1)
    let s := { s with ruling := { s.ruling with newRuling := if v ≠ s.rulingTb ∧ s.rulingArmed then some v else none } }
    if s.rulingArmed then s else s.put 0x030000 1 v

/-- Ruling time base (R23): BUSY while a pick-numbered command or a reservation is pending for the old or the new one. -/
def rulingRule : Rule :=
  { base := State.rulingNext, check := noCheck, pick := noPick,
    judge := fun s _ v => if pendingOn s s.rulingTb || pendingOn s (valNum v) then refuse s stBusy else none,
    apply := fun s _ _ v => { s := selectRuling s (valNum v) } }

/-- The largest capacity in ns reserved in a future ruling window (R13). -/
def reservedMost (s : State) : Nat :=
  ((s.ruling.timed.filter fun c => c.tb = s.rulingNext ∧ (s.tb c.tb).high ≤ c.pick).map fun c =>
    costOf (pendingFor s c.tb c.pick)).foldl max 0

/-- Selvage window length (R13): BUSY where a shorter window would not hold what is reserved. -/
def windowRule : Rule :=
  { plainRule (ent 0x030000 2) with
    judge := fun s _ v =>
      if valNum v < s.num 0x030000 2 ∧ valNum v * 1000 - 500 < reservedMost s then refuse s stBusy else none }

/-! ### Arming (R258) -/

/-- Arm a time base (R258): its first boundary is the next one of R9; event 100h, cause 0. -/
def armBase (s : State) (t : Nat) : State :=
  let p := heldSettings s t
  let n := p.pickAfter (((s.tb t).setPend.map fun ns => ns * nsUnit).getD (s.tb t).time)
  let s := s.setTb t fun b =>
    { b with armed := true, cur := p, want := none, opened := false, first := n, high := n, beat := 0 }
  let s := (((s.put (tbIdx t) 1 1).bump (ent (tbIdx t) 1)).raise 0x100 t (be 1 0))
  let s := aimUnitsOf (txArm s t) t
  if s.flag (servoIdx t) 1 then servoState s t 2 else s

/-- An open window ends as its time base is disarmed (R22): the selvage pins leave their status phase. -/
def endWindow (s : State) : State :=
  if s.ruling.window then closePins { s with ruling := { s.ruling with window := false } } else s

/-- Disarm a time base (R258, R314, R332): event 100h, cause 1, and for the ruling one event 111h, cause 0. Start releases
that are due no longer occur (R22). -/
def disarmBase (s : State) (t : Nat) : State :=
  let s := s.setTb t fun b => { b with armed := false, opened := false, cur := b.want.getD b.cur, want := none }
  let s := ((s.put (tbIdx t) 1 0).bump (ent (tbIdx t) 1)).raise 0x100 t (be 1 1)
  let s := txDisarm (rxDisarm s t) t
  let s := if s.flag (servoIdx t) 1 then servoState s t 1 else s
  let s := { s with ruling := { s.ruling with releases := s.ruling.releases.filter fun x => x.tb ≠ t } }
  if t = s.rulingTb then
    { endWindow s with ruling := { (endWindow s).ruling with bridge := false } }.raise 0x111 t (be 1 t ++ be 1 0)
  else s

/-- Whether disarming a time base is refused (R23, R258). Tasks that the open window still holds count as reservations of it
(DEDUCED, log entry 17). -/
def disarmBusy (s : State) (t : Nat) : Bool :=
  (s.tb t).armed && (pendingOn s t || (t == s.rulingTb &&
    (s.ruling.newRuling.isSome || (s.tb t).want.isSome || !s.ruling.sched.isEmpty || s.noc.swapDue)))

/-- ARM (R258). -/
def armRule (t : Nat) : Rule :=
  { base := State.rulingNext, check := noCheck, pick := noPick,
    judge := fun s _ v => if valNum v = 0 ∧ disarmBusy s t then refuse s stBusy else none,
    apply := fun s _ _ v =>
      if valNum v = 1 then { s := if (s.tb t).armed then s else armBase s t }
      else { s := if (s.tb t).armed then disarmBase s t else s } }

/-! ### Pick generator settings (R23, R260) -/

/-- What depends on a generator's settings follows them: trigger units (R267) and start bindings (R382). -/
def followSettings (s : State) (t : Nat) : State := dropBindings (aimUnitsOf s t) t

/-- Settings that waited take over (R23): `n` is the next pick to open. Commands for picks that will not open end with
TOO_LATE (log entry 17). -/
def takeSettings (s : State) (t : Nat) (p : PickSet) (n : Nat) : State :=
  followSettings (s.setTb t fun b => { b with cur := p, want := none, high := n, beat := p.beats }) t

/-- A write of the generator's record or of one field (R260). -/
def pickGenRule (t sub : Nat) : Rule :=
  { base := State.rulingNext, pick := noPick,
    check := fun s _ v => if (newSettings s t sub v).rateOk then none else some (stTypeMismatch, 0),
    judge := pickJudge t sub,
    apply := fun s _ _ v =>
      let s := changeSettings s t (newSettings s t sub v)
      { s := if (s.tb t).armed then s else followSettings s t } }

/-! ### Steps (R24, R25, R254 to R256) -/

/-- A trigger unit whose instants a forward step passed (R269): event 108h; a PERIODIC or PICK_OFFSET unit continues with
its first instant at or after the new count, a ONESHOT unit is done. -/
def passTrigger (s : State) (u time : Nat) : State :=
  match (s.trig u).next with
  | none => s
  | some x =>
    if time ≤ x then s
    else if s.num (trigIdx u) 1 = 1 then
      ((s.setTrig u fun y => { y with next := none }).put (trigIdx u) 0x0A 3).raise 0x108 u (be 4 1)
    else
      let k := (s.trig u).k
      let s := aimTrig s u (time - 1)
      s.raise 0x108 u (be 4 ((s.trig u).k - k))

/-- The beat that a generator has emitted or passed last, at a count within its current pick (R24). -/
def PickSet.beatPassed (p : PickSet) (n time : Nat) : Nat :=
  ceilDiv (time * p.num * p.beats) (p.den * 1000000000 * nsUnit) - n * p.beats - 1

/-- Cancel the commands of picks that a step passed, from `lo` on (R24): event 113h for each, and TOO_LATE. Those of a pick
that has opened and that wait for their slot or release stay. -/
def cancelPassed (s : State) (t lo : Nat) : State :=
  let passed := fun c : TimedCmd => decide (c.tb = t ∧ lo ≤ c.pick ∧ c.pick < (s.tb t).high)
  let gone := s.ruling.timed.filter passed
  let s := gone.foldl (fun s c => s.raise 0x113 t (be 1 (whoCode c.who) ++ be 4 c.trans ++ be 8 c.pick)) s
  let s := if gone.any isActivate then cancelActivation s stTooLate else s
  let s := freeCancelled (cancelTimed s passed stTooLate) gone
  if gone ≠ [] ∧ t = s.rulingTb then s.latchBits 0x030000 9 32 else s

/-- Boundaries and beats that a forward step passed (R23, R24). -/
def stepForward (s : State) (t : Nat) : State :=
  let b := s.tb t
  let n := b.cur.pickAt b.time
  let s := if b.opened then
      s.setTb t fun b => { b with beat := max b.beat (b.cur.beatPassed (s.pick t) b.time) } else s
  if n ≤ b.high then s
  else
    let ruled := decide (t = s.rulingTb)
    let s := match b.want with
      | some p => takeSettings s t p (p.pickAt b.time)
      | none => s.setTb t fun b => { b with high := n, beat := b.cur.beats }
    let s := cancelPassed s t (if b.want.isSome then 0 else b.high)
    if ruled then
      let s := (s.latchBits 0x030000 9 16).raise 0x115 t (be 8 b.high ++ be 8 (n - 1))
      if s.ruling.newRuling.isSome then switchRuling s
      else if b.want.isSome ∧ !boundaryDue s t then beginBridge s t else s
    else s

/-- A backward step (R25): before the current pick's boundary it stretches the pick; the next pick is the one after the
highest opened. -/
def stepBackward (s : State) (t : Nat) (ns : Int) : State :=
  let b := s.tb t
  let now := s.pick t
  let held := decide (b.opened = true ∧ now < b.high)
  let low := if held then now + 1 else if b.opened then 0 else b.first
  let s := s.setTb t fun b => { b with high := min b.high (max low (b.cur.pickAt b.time)) }
  if held ∧ b.time < b.cur.start now ∧ t = s.rulingTb then
    (s.latchBits 0x030000 9 8).raise 0x114 t (be 8 (wrap 64 ns))
  else s

/-- The steps of a cycle apply (R254, R256): the count never falls below 0. -/
def applySteps (s : State) (t : Nat) : State :=
  match (s.tb t).steps with
  | [] => s
  | first :: _ =>
    let s := s.waitUntil first.due
    let steps := (s.tb t).steps.filter fun x => x.due ≤ s.now
    let sum : Int := (steps.map (·.ns)).foldl (· + ·) 0
    let old := (s.tb t).time
    let new : Int := (old : Int) + sum * nsUnit
    let ns : Int := if new < 0 then -((old / nsUnit : Nat) : Int) else sum
    let s := s.setTb t fun b =>
      { b with
        time := new.toNat
        steps := b.steps.filter fun x => s.now < x.due
        was := some (b.was.getD old)
        wasN := b.wasN + steps.length }
    let s := ((s.count (tbIdx t) 0x0A 32 steps.length).put (tbIdx t) 0x0B (wrap 64 ns)).put (tbIdx t) 0x0C (s.tb t).ns
    let forced := steps.any (·.force)
    let s := s.latchBits (tbIdx t) 0x0D (if forced then 5 else 1)
    let fields := be 8 (wrap 64 ns) ++ be 1 (stepEpoch s t)
    let s := if steps.any fun x => !x.force then s.raise 0x102 t fields else s
    let s := if forced then s.raise 0x103 t (fields ++ be 8 (s.pick t)) else s
    if !(s.tb t).armed then s
    else if 0 < ns then
      let s := stepForward s t
      (List.range 64).foldl (fun s u =>
        if s.num (trigIdx u) 2 = t ∧ s.num (trigIdx u) 1 ≤ 3 then passTrigger s u (s.tb t).time else s) s
    else if ns < 0 then stepBackward s t ns
    else s

/-! ### The commands -/

/-- RULING_SELECTION_WRITE (R23). -/
def execRulingSelectionWrite (r : Req) (v : Nat) (s : State) : Out := .next (submit s r (ent 0x030000 1) (.num v) rulingRule)

/-- WINDOW_LENGTH_WRITE (R13). -/
def execWindowLengthWrite (r : Req) (v : Nat) (s : State) : Out := .next (submit s r (ent 0x030000 2) (.num v) windowRule)

/-- STEP_APPLY (R24, R254). -/
def execStepApply (t : Fin 8) (s : State) : Out := .next (applySteps s t)

/-- ARM (R258): a write of 1. -/
def execArm (r : Req) (t : Fin 8) (s : State) : Out := .next (submit s r (ent (tbIdx t) 2) (.num 1) (armRule t))

/-- DISARM (R258): a write of 0. -/
def execDisarm (r : Req) (t : Fin 8) (s : State) : Out := .next (submit s r (ent (tbIdx t) 2) (.num 0) (armRule t))

/-- PICK_GENERATOR_WRITE (R260). -/
def execPickGeneratorWrite (r : Req) (t : Fin 8) (sub : Fin 5) (bytes : List Byte) (s : State) : Out :=
  .next (submit s r (ent (genIdx t) sub) (valueOf (ent (genIdx t) sub) bytes) (pickGenRule t sub))

/-- COMPARE_INSTANT (R267, R268): the unit's output rises, and starts bound to it are released 128 ns later. -/
def execCompareInstant (u : Fin 64) (s : State) : Out :=
  let t := s.num (trigIdx u) 2
  .next (match (s.trig u).next with
  | none => s
  | some x =>
    if !(s.tb t).armed then s
    else
      let s := s.waitTb t x
      let rel : StartRel := { due := s.now + 128, tb := t, pick := x, trig := some u.val }
      fireTrig { s with ruling := { s.ruling with releases := s.ruling.releases ++ [rel] } } u x)

end Sys2Proof.Machine
end

