-- ==== Sys2Proof/Machine/Rules.lean ====
section
/-! DEFINITION. The behaviour of every writable entry: which rule a write of an entry follows (R59, and the rule each entry's
row names). -/

namespace Sys2Proof.Machine

/-- A write whose bytes have one of two lengths. -/
def lengthRule (key : Nat) (lens : List Nat) : Rule :=
  { plainRule key with
    check := fun _ _ v => if lens.contains (valBytes v).length then none else some (stTypeMismatch, 0) }

/-- ONE_STEP of a management port: those ports insert no time (R264). -/
def oneStepRule (k : Nat) : Rule :=
  { plainRule (ent (tsIdx k) 2) with
    check := fun _ _ v => if 30 ≤ k ∧ valNum v = 1 then some (stTypeMismatch, 0) else none }

/-- Sessions, keys and galleries (chapters 02 and 03). -/
def sessionRule (idx sub : Nat) : Option Rule :=
  let key := ent idx sub
  if idx = 0x010002 then
    if sub = 1 ∨ sub = 5 then some (lengthRule key [0, 4]) else if sub = 3 ∨ sub = 7 then some (lengthRule key [0, 16]) else none
  else if idx = 0x010003 then some (lengthRule key [0, 4, 16])
  else if 0x010010 ≤ idx ∧ idx ≤ 0x010017 ∧ sub = 9 then some (forceCloseRule (idx - 0x010010))
  else if 0x011000 ≤ idx ∧ idx ≤ 0x0110FF ∧ sub ≤ 4 then some (rangeRule (idx - 0x011000) sub)
  else if 0x020010 ≤ idx ∧ idx ≤ 0x02001F then
    let k := idx - 0x020010
    match sub with
    | 2 => some (keyGalleryRule k)
    | 3 => some (hostKeyRule k)
    | 5 => some (keyEnableRule k)
    | _ => none
  else if 0x020030 ≤ idx ∧ idx ≤ 0x02003F ∧ sub = 3 then some (groupKeyRule (idx - 0x020030))
  else none

/-- Ruling, time bases, triggers and timestamps (chapters 01 and 09). -/
def timeRule (idx sub : Nat) : Option Rule :=
  if idx = 0x030000 then
    match sub with
    | 1 => some rulingRule
    | 2 => some windowRule
    | 9 => some (w1cRule (ent idx 9))
    | _ => none
  else if idx = 0x030001 then if sub = 1 then some snapRule else none
  else if 0x030100 ≤ idx ∧ idx ≤ 0x030107 then
    let t := idx - 0x030100
    match sub with
    | 2 => some (armRule t)
    | 5 => some (incrementRule t)
    | 6 => some (stepRule t)
    | 7 => some (forceStepRule t)
    | 8 => some (thresholdRule t)
    | 9 => some (setRule t)
    | 0x0D => some (w1cRule (ent idx 0x0D))
    | _ => none
  else if 0x030140 ≤ idx ∧ idx ≤ 0x030147 ∧ sub = 0 then some (slewRule (idx - 0x030140))
  else if 0x030160 ≤ idx ∧ idx ≤ 0x030167 ∧ sub = 1 then some (servoModeRule (idx - 0x030160))
  else if 0x030180 ≤ idx ∧ idx ≤ 0x030187 ∧ sub ≤ 4 then some (pickGenRule (idx - 0x030180) sub)
  else if 0x030200 ≤ idx ∧ idx ≤ 0x03023F ∧ sub ≤ 9 then some (trigRule (idx - 0x030200) sub)
  else if 0x030300 ≤ idx ∧ idx ≤ 0x03031F ∧ sub = 2 then some (oneStepRule (idx - 0x030300))
  else none

/-- References, operating points, µloops and gates (chapter 08). -/
def clockRule (idx sub : Nat) : Option Rule :=
  let key := ent idx sub
  if idx = 0x040000 then
    if sub = 1 then some refSelRule else if sub = 2 ∨ sub = 3 then some (refSourceRule sub)
    else if sub = 7 then some (w1cRule key) else none
  else if idx = 0x040010 then if sub = 3 then some tlRelockRule else none
  else if 0x040100 ≤ idx ∧ idx ≤ 0x040107 then
    if sub = 1 then some (targetOpRule (idx - 0x040100)) else if sub = 7 then some (spreadRule key)
    else if sub = 0x0A then some (w1cRule key) else none
  else if 0x040200 ≤ idx ∧ idx ≤ 0x040247 ∧ sub = 1 then some (gateRule (idx - 0x040200))
  else if 0x040300 ≤ idx ∧ idx ≤ 0x04031F then
    if sub = 4 then some (uloopRestoreRule (idx - 0x040300)) else if sub = 5 then some (spreadRule key) else none
  else if idx = 0x040400 then if 9 ≤ sub ∧ sub ≤ 0x0C then some (spreadRule key) else none
  else none

/-- A MAC base address has 6 bytes (R272). -/
def macRule (key : Nat) : Rule := lengthRule key [6]

/-- Lanes, ports and sub-ports (chapter 10). -/
def portRule (idx sub : Nat) : Option Rule :=
  let lane := fun c => if 5 ≤ sub ∧ sub ≤ 8 then some (tapRule c sub) else if sub = 0x0C then some (rawRateRule c) else none
  if 0x050100 ≤ idx ∧ idx ≤ 0x05012F then lane (idx - 0x050100)
  else if 0x050200 ≤ idx ∧ idx ≤ 0x05023F then lane (0x100 + (idx - 0x050200))
  else if 0x050400 ≤ idx ∧ idx ≤ 0x05040D then
    if 1 ≤ sub ∧ sub ≤ 3 then some (portModeRule (idx - 0x050400) sub)
    else if sub = 7 then some (macRule (ent idx 7)) else none
  else if 0x050500 ≤ idx ∧ idx ≤ 0x05050F then
    if 1 ≤ sub ∧ sub ≤ 3 then some (portModeRule (14 + (idx - 0x050500)) sub)
    else if sub = 4 then some (macRule (ent idx 4)) else none
  else if 0x050600 ≤ idx ∧ idx ≤ 0x050601 ∧ (sub = 1 ∨ sub = 2) then some (mgtModeRule (idx - 0x050600) sub)
  else if 0x050800 ≤ idx ∧ idx ≤ 0x0508B1 ∧ sub = 4 then some (restoreRule (idx - 0x050800))
  else none

/-- Stream flows, engines, bindings and takes (chapters 11 and 12). -/
def streamRule (idx sub : Nat) : Option Rule :=
  if 0x060000 ≤ idx ∧ idx ≤ 0x06FFFF then
    let e := (idx - 0x060000) / 0x2000
    let f := (idx - 0x060000) % 0x2000
    some (if f < 0x1000 then rxFlowRule (e * 4096 + f) sub else txFlowRule (e * 4096 + (f - 0x1000)) sub)
  else if 0x070010 ≤ idx ∧ idx ≤ 0x070017 then
    let e := idx - 0x070010
    match sub with
    | 2 => some (removeRule e)
    | 3 => some (shadowRule e)
    | 4 => some (engineReinstateRule e)
    | _ => none
  else if 0x070100 ≤ idx ∧ idx ≤ 0x070107 ∧ 9 ≤ sub ∧ sub ≤ 0x0B then some (exceptRule (idx - 0x070100) sub)
  else if 0x070300 ≤ idx ∧ idx ≤ 0x0703B1 ∧ sub = 1 then some (bindingRule (idx - 0x070300))
  else if 0x074000 ≤ idx ∧ idx ≤ 0x07BFFF ∧ sub ≤ 8 then some (takeRule (idx - 0x074000))
  else none

/-- Shuttles, clusters and start bindings (chapters 13 and 19). -/
def shuttleRule (idx sub : Nat) : Option Rule :=
  if 0x080100 ≤ idx ∧ idx ≤ 0x0802FF then
    let h := idx - 0x080100
    match sub with
    | 2 => some (rptCeilingRule h)
    | 3 => some (mapoutRule h)
    | 0x0F => some (mailboxRule h)
    | 0x12 => some (runRule h)
    | _ => none
  else if 0x080400 ≤ idx ∧ idx ≤ 0x08043F ∧ sub = 3 then some (clusterReinstateRule (idx - 0x080400))
  else if 0x081000 ≤ idx ∧ idx ≤ 0x0811FF then some (imageRule (idx - 0x081000))
  else if 0x082000 ≤ idx ∧ idx ≤ 0x0821FF then some (dataMemoryRule (idx - 0x082000))
  else if 0x083000 ≤ idx ∧ idx ≤ 0x083FFF then some (shBindRule (idx - 0x083000) sub)
  else none

/-- Network on chip, memory, scrambling (chapters 15 to 17). -/
def memoryRule (idx sub : Nat) : Option Rule :=
  if idx = 0x090000 then if sub = 1 then some swapRule else if sub = 7 then some statsClearRule else none
  else if idx = 0x090010 then if sub = 0 then some shadowTableRule else none
  else if 0x090200 ≤ idx ∧ idx ≤ 0x09029F then
    if sub = 8 then some (linkRetrainRule (idx - 0x090200)) else if sub = 9 then some (linkReinstateRule (idx - 0x090200)) else none
  else if 0x090400 ≤ idx ∧ idx ≤ 0x0907FF ∧ sub = 1 then some (classRule (idx - 0x090400))
  else if idx = 0x0A0000 then if sub = 4 then some pdIdleRule else none
  else if 0x0A0010 ≤ idx ∧ idx ≤ 0x0A0013 ∧ 4 ≤ sub ∧ sub ≤ 6 then some (bankMaskRule (idx - 0x0A0010) (sub - 4))
  else if idx = 0x0B0000 then if 1 ≤ sub ∧ sub ≤ 4 then some (ctrCacheRule (sub - 1)) else none
  else if 0x0B0100 ≤ idx ∧ idx ≤ 0x0B010F then
    if sub = 2 then some (slotEnableRule (idx - 0x0B0100))
    else if 3 ≤ sub ∧ sub ≤ 6 then some (slotFieldRule (idx - 0x0B0100) sub) else none
  else none

/-- Configuration, seams, events, long operations, firmware, pins (chapters 03, 05, 06, 07, 18). -/
def systemRule (idx sub : Nat) : Option Rule :=
  let key := ent idx sub
  if idx = 0x0C0000 then if sub = 9 then some clearRule else none
  else if idx = 0x0C0001 then if 1 ≤ sub ∧ sub ≤ 4 then some (lengthRule key [0, 48]) else none
  else if 0x0C0100 ≤ idx ∧ idx ≤ 0x0C013F then
    if sub = 5 then some (releaseRule (idx - 0x0C0100)) else if sub = 6 then some (isolateRule (idx - 0x0C0100)) else none
  else if idx = 0x0D0000 then if sub = 5 then some predictMendRule else none
  else if 0x0D0100 ≤ idx ∧ idx ≤ 0x0D01FF then
    if sub = 0x0B then some (retrainRule (idx - 0x0D0100)) else if sub = 0x0C then some (chanReinstateRule (idx - 0x0D0100)) else none
  else if 0x0E0200 ≤ idx ∧ idx ≤ 0x0E0203 ∧ sub = 1 then some (w1cRule key)
  else if 0x0E1000 ≤ idx ∧ idx ≤ 0x0E1FFF ∧ sub = 3 then some (lineRule (idx - 0x0E1000))
  else if 0x0F0100 ≤ idx ∧ idx ≤ 0x0F013F ∧ sub ≤ 4 then some (slotRule (idx - 0x0F0100) sub)
  else if idx = 0x100000 then if sub = 0x0C then some (lengthRule key [0, 97]) else none
  else if idx = 0x100100 then
    if sub = 2 then some openRule else if sub = 0x0A then some activateRule else none
  else if idx = 0x100101 then if sub = 0 then some chunkRule else none
  else if 0x110100 ≤ idx ∧ idx ≤ 0x11013F then
    if sub = 4 then some (statusSrcRule (idx - 0x110100)) else if sub = 8 then some (debounceRule (idx - 0x110100)) else none
  else none

/-- The rule a write of an entry follows; an entry without behaviour of its own stores its value. -/
def ruleOf (key : Nat) : Rule :=
  let idx := key / 256
  let sub := key % 256
  (match idx / 0x10000 with
    | 1 | 2 => sessionRule idx sub
    | 3 => timeRule idx sub
    | 4 => clockRule idx sub
    | 5 => portRule idx sub
    | 6 | 7 => streamRule idx sub
    | 8 => shuttleRule idx sub
    | 9 | 0x0A | 0x0B => memoryRule idx sub
    | _ => systemRule idx sub).getD (plainRule key)

/-- Checks 6 to 10 of R59 of a write by its entry's rule; a write of one take field is checked as itself, then as the
record it completes (log entry 18). -/
def writeChecked (s : State) (r : Req) (key : Nat) (v : Val) : Option Stat :=
  let dst := takeRedirect s key v
  if dst.1 = key then checkWrite s r key v (ruleOf key)
  else match checkWrite s r key v (plainRule key) with
    | some e => some e
    | none => (ruleOf dst.1).check s r dst.2

/-- Check 11 and the effect of a write by its entry's rule; `checked` where check 11 has passed already (R61). -/
def writeDone (s : State) (r : Req) (pos key : Nat) (v : Val) (checked : Bool) : Done :=
  let dst := takeRedirect s key v
  if checked then executeChecked s r pos dst.1 dst.2 (ruleOf dst.1) else executeWrite s r pos dst.1 dst.2 (ruleOf dst.1)

end Sys2Proof.Machine
end

