-- ==== Sys2Proof/Machine/Read.lean ====
section
/-! DEFINITION. What a read of an entry gives: the stored value, or for entries that show other state the value of that
state (R37, R43, R249, R260, R298, R326, R360, R391 and the entry tables). -/

namespace Sys2Proof.Machine

/-- Bits from flags, bit 0 first. -/
def bitsOf (n : Nat) (f : Nat → Bool) : Nat := (List.range n).foldl (fun a k => if f k then a + 2 ^ k else a) 0

/-- Members of a range with a property. -/
def countOf (n : Nat) (f : Nat → Bool) : Nat := ((List.range n).filter f).length

/-- b/s as Mb/s, rounded up. -/
def toMbs (n : Nat) : Nat := ceilDiv n 1000000

/-- Ruling control and time bases (R37, R251, R253, R260, R271). -/
def timeRead (s : State) (idx sub : Nat) : Option Val :=
  let num := fun n => some (Val.num n)
  let r := s.rulingTb
  if idx = 0x030000 then
    match sub with
    | 1 => num s.rulingNext -- an accepted selection reads at once (DESIGN CHOICE, log entry 17: R37 does not say)
    | 4 => num (if s.ruling.bridge then 2 else if s.rulingArmed then 1 else 0)
    | 5 => num s.rulingPick
    | 6 => num (if s.rulingArmed then s.num (0x030180 + r) 6 else 0)
    | 7 => num (if (s.tb s.rulingNext).armed then costOf (pendingFor s s.rulingNext (s.tb s.rulingNext).upcoming) else 0)
    | 8 => num (pendingCmds s).length
    | 9 => num (s.num idx 9 + (if (starvedTask s).isSome then 2 else 0) + (if s.rulingArmed then 1 else 0))
    | _ => none
  else if 0x030100 ≤ idx ∧ idx ≤ 0x030107 then
    let b := s.tb (idx - 0x030100)
    match sub with
    | 3 => num b.ns
    | 4 => num (b.time % nsUnit)
    | 0x0A => num (stepCount s (idx - 0x030100))
    | 0x0D => num (s.num idx 0x0D + (if 0 < b.slewLeft then 8 else 0))
    | _ => none
  else if 0x030140 ≤ idx ∧ idx ≤ 0x030147 ∧ sub = 3 then num (s.tb (idx - 0x030140)).slewLeft
  else if 0x030180 ≤ idx ∧ idx ≤ 0x030187 ∧ sub = 8 then num (if (s.tb (idx - 0x030180)).want.isSome then 1 else 0)
  else if 0x030200 ≤ idx ∧ idx ≤ 0x03023F ∧ sub = 0x0C then some (.oct (s.trig (idx - 0x030200)).caps.flatten)
  else if 0x030300 ≤ idx ∧ idx ≤ 0x03031F ∧ sub = 0x1B then
    some (.oct ((List.range 256).flatMap fun i =>
      (tgetD (s.ring (idx - 0x030300)).recs i (List.replicate 32 0) ++ List.replicate 32 0).take 32))
  else none

/-- Reference and domain status (R233, R240, R249): the bits that show a present state beside those that stay until cleared. -/
def clockRead (s : State) (idx sub : Nat) : Option Val :=
  if idx = 0x040000 ∧ sub = 7 then
    some (.num ((s.num idx 7 &&& 9) + (if s.pwr.xoAbsent then 16 else 0) + (if s.clk.laneQualified then 4 else 0)
      + (if s.clk.refInQualified then 2 else 0)))
  else if 0x040100 ≤ idx ∧ idx ≤ 0x040107 ∧ sub = 0x0A then
    let d := idx - 0x040100
    some (.num ((s.num idx 0x0A &&& 6) + (if loopHolds s (.floor (Fin.ofNat 8 d)) then 8 else 0)
      + (if s.domState d = dCoasting ∨ s.domState d = dFloor then 1 else 0)))
  else if idx = 0x040400 ∧ 1 ≤ sub ∧ sub ≤ 4 then some (.num (if loopHolds s (.memory (Fin.ofNat 4 (sub - 1))) then 1 else 0))
  else if idx = 0x040400 ∧ 5 ≤ sub ∧ sub ≤ 8 then some (.num (if loopHolds s (.seam (Fin.ofNat 4 (sub - 5))) then 1 else 0))
  else none

/-- The port record that owns a lane in the mode in force (R298). -/
def laneOwner (s : State) (c : Nat) : Nat :=
  let k := (portOf c).1
  if s.portMode k = 0 then 255 else k

/-- Fields of an electrical lane's record (R298). -/
def laneRead (s : State) (c sub : Nat) : Option Val :=
  match sub with
  | 1 => some (.num (s.lane c).state)
  | 2 => some (.num (lineKbs s c))
  | 3 => some (.num (s.lane c).rung)
  | 4 => some (.num (laneOwner s c))
  | 0x0F => if (s.lane c).state = laneHeld then none else some (.num (Config.measured (ent (laneIdx c) sub) s.now % 2 ^ 16))
  | _ => none

/-- Lanes and ports (R298). -/
def portRead (s : State) (idx sub : Nat) : Option Val :=
  let failed := fun k => bitsOf (portLanes k) fun l => (s.lane (laneCode k l)).failed
  if idx = 0x050000 then
    if sub = 2 then some (.num (countOf 176 fun u => s.subState u == spUp))
    else if sub = 3 then
      let codes := (List.range 48) ++ (List.range 64).map (0x100 + ·) ++ (List.range 64).map (0x200 + ·)
      some (.num ((codes.filter fun c => (s.lane c).state ≠ laneHeld).length + (if mgtInService s then 2 else 0)))
    else none
  else if 0x050100 ≤ idx ∧ idx ≤ 0x05012F then laneRead s (idx - 0x050100) sub
  else if 0x050200 ≤ idx ∧ idx ≤ 0x05023F then laneRead s (0x100 + (idx - 0x050200)) sub
  else if 0x050300 ≤ idx ∧ idx ≤ 0x050307 ∧ (sub = 3 ∨ sub = 4) ∧ (s.lan.engines.getD (idx - 0x050300) {}).lightOk then
    some (.oct (be 16 (Config.measured (ent idx sub) s.now % 2 ^ 128)))
  else if 0x050300 ≤ idx ∧ idx ≤ 0x050307 ∧ sub = 5 then
    some (.oct ((List.range 8).map fun l => BitVec.ofNat 8 (s.lane (0x200 + 8 * (idx - 0x050300) + l)).state))
  else if 0x050400 ≤ idx ∧ idx ≤ 0x05040D ∧ sub = 5 then some (.num (failed (idx - 0x050400)))
  else none

/-- Stream engines, essence ports and bindings (R326, R355, R360). -/
def streamRead (s : State) (idx sub : Nat) : Option Val :=
  let num := fun n => some (Val.num n)
  if 0x070100 ≤ idx ∧ idx ≤ 0x070107 then
    let e := idx - 0x070100
    match sub with
    | 1 => num (s.service e)
    | 2 => num (boundMbs s e 999)
    | 3 => num (toMbs (nocCharged s e))
    | 4 => num (dramFlows s e)
    | 5 => num (s.rx.flows.filter fun x => x.1 / 4096 = e).length
    | _ => none
  else if 0x070180 ≤ idx ∧ idx ≤ 0x070187 then
    let e := idx - 0x070180
    match sub with
    | 1 => num (s.tx.flows.filter fun x => x.1 / 4096 = e).length
    | 2 => num (s.ruling.timed.filter fun c => takeEngine c.key = some e).length
    | _ => none
  else if 0x070200 ≤ idx ∧ idx ≤ 0x07027F then
    if sub = 2 then num (toMbs (rxEssCommitted s (idx - 0x070200)))
    else if sub = 5 then num (toMbs (txEssCommitted s (idx - 0x070200))) else none
  else if 0x070300 ≤ idx ∧ idx ≤ 0x0703AF ∧ sub = 3 then num (ceilDiv (txCommitted s (idx - 0x070300)) 1000)
  else if 0x074000 ≤ idx ∧ idx ≤ 0x07BFFF ∧ sub = 0x0B then num (pendingTakes s (idx - 0x074000)).length
  else none

/-- Shuttles (R391, R393). -/
def shuttleRead (s : State) (idx sub : Nat) : Option Val :=
  let num := fun n => some (Val.num n)
  if idx = 0x080000 ∧ 1 ≤ sub ∧ sub ≤ 5 then num (countOf 512 fun h => s.shState h == sub - 1)
  else if 0x080100 ≤ idx ∧ idx ≤ 0x0802FF then
    let h := idx - 0x080100
    if sub = 1 then num (s.shState h)
    else if sub = 6 then num (if s.shState h = shRunning then (s.sh h).pc else 0) else none
  else if 0x080400 ≤ idx ∧ idx ≤ 0x08043F ∧ sub = 2 then
    num (bitsOf 8 fun k => s.flag (shIdx (8 * (idx - 0x080400) + k)) 0x16)
  else if 0x081000 ≤ idx ∧ idx ≤ 0x0811FF ∧ sub = 0 then some (.oct (s.sh (idx - 0x081000)).image)
  else if 0x082000 ≤ idx ∧ idx ≤ 0x0821FF ∧ sub = 0 then
    some (.oct ((List.range 16384).flatMap fun a => be 6 ((s.sh (idx - 0x082000)).dmAt a)))
  else none

/-- Network on chip, memory and scrambling (R436, R452, R478). -/
def memoryRead (s : State) (idx sub : Nat) : Option Val :=
  let num := fun n => some (Val.num n)
  if 0x090800 ≤ idx ∧ idx ≤ 0x09085F ∧ sub = 2 then
    num (s.noc.outstanding.filter fun x => x.pkt.target = idx - 0x090800).length
  else if 0x0A0100 ≤ idx ∧ idx ≤ 0x0A011F ∧ (sub = 6 ∨ sub = 7) then
    let c := idx - 0x0A0100
    num (debtNow s c ((s.mch c).ranks.getD (sub - 6) {}))
  else if 0x0B0101 ≤ idx ∧ idx ≤ 0x0B010F ∧ sub = 9 then
    let k := idx - 0x0B0100
    num (if s.slState k = slRekeying then k * 2 ^ 44 + s.num idx 9 else 0)
  else none

/-- Seams, events, long operations and the staging (R108, R113, R174, R494). -/
def systemRead (s : State) (idx sub : Nat) : Option Val :=
  let num := fun n => some (Val.num n)
  if idx = 0x0D0000 then
    if sub = 7 then num (countOf 256 fun c => s.chState c == chNarrowed)
    else if sub = 8 then num (countOf 256 fun c => s.chState c == chFailed) else none
  else if idx = 0x0E0011 ∧ sub = 0 then some (.oct (ringBytes s.mgmt.ring))
  else if idx = 0x0F0000 ∧ sub = 1 then num (countOf 64 fun k => s.opState k != opFree)
  else if idx = 0x100100 ∧ sub = 0x0B then
    num (s.num idx 0x0B + (if s.sgState = sgReceiving ∨ s.sgState = sgVerifying then (s.now - s.upd.openedAt) / second else 0))
  else none

/-- The value an entry of the device shows. -/
def readField (s : State) (key : Nat) : Val :=
  let idx := key / 256
  let sub := key % 256
  (match idx / 0x10000 with
    | 3 => timeRead s idx sub
    | 4 => clockRead s idx sub
    | 5 => portRead s idx sub
    | 7 => streamRead s idx sub
    | 8 => shuttleRead s idx sub
    | 9 | 0x0A | 0x0B => memoryRead s idx sub
    | 0x0D | 0x0E | 0x0F | 0x10 => systemRead s idx sub
    | _ => none).getD (s.val key)

/-- The wire bytes of one field inside a record (R41, R43): WO fields show their default, STRING and OCTETS follow a U16
length. -/
def fieldBytes (s : State) (key : Nat) (f : Field) : List Byte :=
  let b := encVal f.ty (if f.acc = .wo then defaultVal s key else readField s key)
  match f.ty with
  | .string | .octets => be 2 b.length ++ b
  | _ => b

/-- The value of an entry of the device on the wire (R41, R43). -/
def readBytes (s : State) (key : Nat) : List Byte :=
  match fieldAt key with
  | none => []
  | some f =>
    if f.ty = .record then ((recordFields key).mapIdx fun i g => fieldBytes s (key + 1 + i) g).flatten
    else encVal f.ty (readField s key)

/-- GENERATION of an entry (R46); of a record, the sum over its fields (log entry 17). -/
def generation (s : State) (key : Nat) : Nat :=
  match fieldAt key with
  | some f =>
    if f.ty = .record then
      (tgetD s.gen key 0 + ((List.range (recordFields key).length).map fun i => tgetD s.gen (key + 1 + i) 0).foldl (· + ·) 0)
        % 2 ^ 32
    else tgetD s.gen key 0
  | none => tgetD s.gen key 0

/-! ### Descriptors (R40, R43, R46) -/

/-- Type codes (R41). -/
def tyCode : Ty → Nat
  | .bool => 1 | .u8 => 2 | .u16 => 3 | .u32 => 4 | .u48 => 5 | .u64 => 6 | .i8 => 7 | .i16 => 8 | .i32 => 9 | .i48 => 0x0A
  | .i64 => 0x0B | .time96 => 0x0C | .string => 0x0D | .octets => 0x0E | .record => 0x0F

/-- Access codes of a descriptor (R46). -/
def accCode : Acc → Nat
  | .ro => 1 | .rw => 2 | .wo => 3 | .w1c => 4 | .const => 5

/-- Largest value length of a field outside a record. -/
def maxLen (f : Field) : Nat :=
  match f.ty with
  | .string => 255
  | .octets => f.hi.toNat
  | t => (tyLen t).getD 0

/-- The same within a record: STRING and OCTETS carry their length. -/
def maxIn (f : Field) : Nat := maxLen f + (if f.ty = .string ∨ f.ty = .octets then 2 else 0)

/-- A descriptor (R46). -/
def descriptor (ty acc flags gallery longest gen : Nat) (dflt : List Byte) : List Byte :=
  let omit_ := 4096 < dflt.length
  be 1 ty ++ be 1 acc ++ be 1 (flags + (if omit_ then 4 else 0)) ++ be 1 gallery ++ be 4 longest ++ be 4 gen
    ++ (if omit_ then be 2 0 else be 2 dflt.length ++ dflt)

/-- Entries whose default the tables give as '—' beside the records (R46). -/
def noDefault (key : Nat) : Bool :=
  key == ent 0x0E0011 0 || key == ent 0x090011 0 || (0x030300 ≤ key / 256 && key / 256 ≤ 0x03031F && key % 256 == 0x1B)

/-- Entries whose default is compiled into the running bitstream (R46). -/
def compiledDefault (key : Nat) : Bool :=
  (0x110100 ≤ key / 256 && key / 256 ≤ 0x11013F && [4, 5, 7].contains (key % 256))
    || (0x040300 ≤ key / 256 && key / 256 ≤ 0x04031F && key % 256 == 2)

/-- The default as a descriptor carries it (R46). Values of the running design that no table names a default stay out. -/
def descDefault (s : State) (key : Nat) (f : Field) : List Byte :=
  if f.ty = .record ∨ noDefault key then []
  else if compiledDefault key then (if s.fabricRuns then encVal f.ty (defaultVal s key) else [])
  else if (tget s.cfg.compiled.entries key).isSome then
    encVal f.ty (match f.ty with
      | .string | .octets => .oct (List.replicate f.dflt 0)
      | _ => .num f.dflt)
  else encVal f.ty (defaultVal s key)

/-- The descriptor of an entry of the device (R46). -/
def describeDevice (s : State) (key : Nat) : List Byte :=
  match fieldAt key with
  | none => []
  | some f =>
    let fs := recordFields key
    let rec_ := decide (f.ty = .record)
    let crit := f.crit || (rec_ && recordCritical key)
    let flags := (if crit then 128 else 0) + (if f.pers then 64 else 0) + (if f.timed then 8 else 0)
    let longest := if rec_ then (fs.map maxIn).foldl (· + ·) 0 else maxLen f
    descriptor (tyCode f.ty) (accCode f.acc) flags (ownerOf s key) longest (generation s key) (descDefault s key f)

end Sys2Proof.Machine
end

