-- ==== Sys2Proof/Machine/Bridge.lean ====
section
/-! DEFINITION. User entries and the catalogue bridge (R77 to R81): the user entry table, the server port with one request
outstanding, and what its answers complete. -/

namespace Sys2Proof.Machine

/-! ### User entries (R40, R77) -/

/-- Whether an entry lies in the user area (R47). -/
def isUser (key : Nat) : Bool := 0x120000 ≤ key / 256 && key / 256 ≤ 0x7FFFFF

/-- A user entry as a field. -/
def userField (u : UserEntry) : Field :=
  { ty := u.ty, acc := u.acc, flags := (if u.crit then 1 else 0) + (if u.pers then 2 else 0) + (if u.timed then 4 else 0),
    dflt := 0, lo := u.lo, hi := if u.ty = .string ∨ u.ty = .octets then u.maxLen else u.hi }

/-- The fields of a user record: sub-indices 01h upwards (R39). -/
def userParts (s : State) (key : Nat) : List UserEntry :=
  (List.range 255).filterMap fun i => userEntry s (key + 1 + i)

/-- A user entry's value as last written, else its default. -/
def userHeld (s : State) (u : UserEntry) : Val := (tget s.cap.userVals u.key).getD u.dflt

/-- Hold a written value; a persistent one is stored for the running identity (R80). -/
def holdUser (s : State) (u : UserEntry) (v : Val) : State :=
  let vals := tput s.cap.userVals u.key v
  let id := s.num 0x0C0000 4
  let kept := ((s.cap.userStore.find? fun x => x.1 = id).map (·.2)).getD []
  { s with
    cap := { s.cap with
      userVals := vals
      userStore := if u.pers then (id, tput kept u.key v) :: s.cap.userStore.filter fun x => x.1 ≠ id else s.cap.userStore } }

/-- The wire bytes of each field of a record value, the U16 length of a STRING or OCTETS field included (R43). -/
def fieldPieces : List Field → List Byte → Option (List (List Byte))
  | [], b => if b = [] then some [] else none
  | f :: fs, b =>
    let n := match f.ty with
      | .string | .octets => 2 + fieldBE b 0 2
      | t => (tyLen t).getD 0
    if b.length < n then none else (fieldPieces fs (b.drop n)).map (b.take n :: ·)

/-- The wire bytes that a user entry's default has inside a record. -/
def defaultPiece (u : UserEntry) : List Byte :=
  let b := encVal u.ty u.dflt
  match u.ty with
  | .string | .octets => be 2 b.length ++ b
  | _ => b

/-- The value that a read of a user entry gives (R43): in a record a WO field shows its default. Bytes that are not a record
of the entry's fields stay as the design gave them (DESIGN CHOICE, log entry 20). -/
def shownUser (s : State) (key : Nat) (b : List Byte) : List Byte :=
  match userEntry s key with
  | none => b
  | some u =>
    if u.ty = .record then
      let ps := userParts s key
      match fieldPieces (ps.map userField) b with
      | some l => ((ps.zip l).map fun p => if p.1.acc = .wo then defaultPiece p.1 else p.2).flatten
      | none => b
    else b

/-- The values that a write of a user entry sets: of the entry itself, or of the writable fields of a record. -/
def userWrites (s : State) (u : UserEntry) (b : List Byte) : List (UserEntry × Val) :=
  if u.ty = .record then
    let ps := userParts s u.key
    (ps.zip ((parseFields (ps.map userField) b).getD [])).filter fun p => writable (userField p.1)
  else [(u, (decVal u.ty b).getD (.oct b))]

/-- Hold a written value and move GENERATION where it changes (R46). -/
def writeUser (s : State) (u : UserEntry) (v : Val) : State :=
  if userHeld s u = v then s else (holdUser s u v).bump u.key

/-! ### Values on the ports (R78) -/

/-- The bytes of a port value: at most 4,096. -/
def portBytes (v : PortValue) : List Byte := (v.words.flatMap fun w => be 8 w.toNat).take (min v.len 4096)

/-- The words of a value: the last holds valid bytes from the top, its unused bytes zero. -/
def portWords : Nat → List Byte → List (BitVec 64)
  | 0, _ => []
  | n + 1, b => BitVec.ofNat 64 (unbe ((b ++ List.replicate 8 0).take 8)) :: portWords n (b.drop 8)

/-- A value as a port carries it. -/
def portValue (b : List Byte) : PortValue := { len := b.length, words := portWords ((b.length + 7) / 8) b }

/-- What the server port presents to the design (R78): CATS_REQ_VALID, and with it OP, INDEX, SUB and LEN of the request
outstanding and the words of a write value. -/
structure CatsRequest where
  valid : Bool := false
  op : Nat := 0
  index : Nat := 0
  sub : Nat := 0
  value : PortValue := { len := 0, words := [] }
  deriving DecidableEq, Repr

/-- The server port's request signals. -/
def catsRequest (s : State) : CatsRequest :=
  match s.cap.bridge with
  | none => {}
  | some r =>
    { valid := true, op := if r.write then 1 else 0, index := r.key / 256, sub := r.key % 256, value := portValue r.data }

/-- The response signals of a bolt's client port (R78): CATC_RSP_VALID with STATUS and the value words. -/
def catcResponse (s : State) (b : Nat) : Option (Nat × PortValue) :=
  (s.cap.clients.getD b none).map fun a => (a.status, portValue a.data)

/-! ### The server port (R79, R80) -/

/-- A bridge request that fails: TARGET_UNAVAILABLE with its cause, and event 012h (R79). -/
def bridgeFails (s : State) (r : BridgeReq) (cause : Nat) : State := s.raise 0x012 0 (be 4 r.key ++ be 1 cause)

/-- An executed write of a user entry is held, and GENERATION of each entry it changes follows (R44, R46, R80). -/
def userWritten (s : State) (r : BridgeReq) : State :=
  match userEntry s r.key with
  | none => s
  | some u => (userWrites s u r.data).foldl (fun s p => writeUser s p.1 p.2) s

/-- What a completed request completes: a restore, a timed command, a client request, or the record of the transaction
under way (R65, R79 to R81). -/
def completeReq (s : State) (r : BridgeReq) (status detail : Nat) (value : List Byte) : State :=
  let s := if r.write ∧ !r.restore ∧ status = stOk then userWritten s r else s
  let value := shownUser s r.key value
  if r.restore then { s with cap := { s.cap with restoring := s.cap.bridgeQueue.any (·.restore) } }
  else match r.cmd, r.who with
    | some c, _ => finishCmd s c status
    | none, .client b =>
      { s with cap := { s.cap with
          clients := s.cap.clients.set b (some { status := status, data := if status = stOk ∧ !r.write then value else [] }) } }
    | none, _ =>
      { s with cap := { s.cap with
          work := s.cap.work.map fun w => { w with reply := some { status := status, detail := detail, value := value } } } }

/-- Present waiting requests while the port is free; where fabric clocks are stopped or the entry is gone, the request ends
at once (R79). -/
def presentReqs : Nat → State → State
  | 0, s => s
  | n + 1, s =>
    match s.cap.bridge, s.cap.bridgeQueue with
    | none, r :: q =>
      let s := { s with cap := { s.cap with bridgeQueue := q } }
      if (userEntry s r.key).isNone then presentReqs n (completeReq s r stNoSuchEntry 0 [])
      else if s.pwr.halted then presentReqs n (completeReq (bridgeFails s r 3) r stTargetUnavailable 3 [])
      else { s with cap := { s.cap with bridge := some { r with since := s.now } } }
    | _, _ => s

/-- Present what can be presented. -/
def present (s : State) : State := presentReqs s.cap.bridgeQueue.length s

/-- A request for the server port. -/
def pushReq (s : State) (r : BridgeReq) : State :=
  present { s with cap := { s.cap with bridgeQueue := s.cap.bridgeQueue ++ [r] } }

/-- A timed write of a user entry executes at its pick through the bridge. -/
def userAtPick (s : State) (c : TimedCmd) : State :=
  match userEntry s c.key with
  | none => finishCmd s c stNoSuchEntry
  | some u =>
    let b := encVal u.ty c.val
    pushReq s { who := c.who, key := c.key, write := true, data := b, cmd := some c }

/-- The bridge timeout in ns (R75). -/
def bridgeNs (s : State) : Nat := s.num 0x010001 5 * 1000

/-- The outstanding request ends. -/
def endReq (s : State) (status detail : Nat) (value : List Byte) : State :=
  match s.cap.bridge with
  | none => s
  | some r => present (completeReq { s with cap := { s.cap with bridge := none } } r status detail value)

/-- The outstanding request is not answered in time, or fabric clocks have stopped (R79). -/
def timeOutReq (s : State) : State :=
  match s.cap.bridge with
  | none => s
  | some r =>
    let cause := if s.pwr.halted then 3 else 1
    endReq (bridgeFails s r cause) stTargetUnavailable cause []

/-- The cycle in which the design took the last word of the request outstanding, from which the bridge time runs (R79):
`taken` cycles after the port presented it. -/
def takenAt (s : State) (r : BridgeReq) (taken : Nat) : Nat := min (r.since + taken) (max r.since s.now)

/-- The design's response to the request outstanding (R79): taken in the cycle of the timeout still (R26), not later. -/
def takeResponse (s : State) (taken status : Nat) (value : List Byte) : State :=
  match s.cap.bridge with
  | none => s
  | some r =>
    if s.pwr.halted ∨ takenAt s r taken + bridgeNs s < s.now then timeOutReq s
    else if [stOk, stTypeMismatch, stBusy, stTargetUnavailable].contains status then
      endReq s status 0 (if r.write then [] else value)
    else endReq (bridgeFails s r 2) stTargetUnavailable 2 []

end Sys2Proof.Machine
end

