-- ==== Sys2Proof/Machine/Frame.lean ====
section
/-! DEFINITION. The wire form of CAP request frames (R50 to R58, R70) and the Ulily profile's index map (R82). -/

namespace Sys2Proof.Machine

/-- A request record (R55): its OP, RFLAGS, INDEX and SUB as on the wire, and its value. -/
structure ReqRec where
  op : Nat
  rflags : Nat
  key : Nat
  value : List Byte
  deriving DecidableEq, Repr

/-- Header fields (R53). -/
def fFlags (b : List Byte) : Nat := fieldBE b 3 1
def fMcast (b : List Byte) : Bool := fFlags b / 64 % 2 == 1
def fCrit (b : List Byte) : Bool := fFlags b / 32 % 2 == 1
def fAtomic (b : List Byte) : Bool := fFlags b / 16 % 2 == 1
def fNoAck (b : List Byte) : Bool := fFlags b / 8 % 2 == 1
def fDomain (b : List Byte) : Nat := fieldBE b 6 2
def fDest (b : List Byte) : Nat := fieldBE b 8 3
def fSrc (b : List Byte) : Nat := fieldBE b 11 3
def fSession (b : List Byte) : Nat := fieldBE b 14 1
def fCount (b : List Byte) : Nat := fieldBE b 15 1
def fTrans (b : List Byte) : Nat := fieldBE b 16 4
def fToeKind (b : List Byte) : Nat := fieldBE b 20 1

/-- The group of a multicast frame. -/
def fGroup (b : List Byte) : Nat := fDest b % 16

/-- The time of execution a frame carries (R53). -/
def fToe (b : List Byte) : Toe :=
  match fToeKind b with
  | 1 => .pick (fieldBE b 24 8)
  | 2 => .time (fieldBE b 24 8 * 1000000000 + fieldBE b 32 4)
  | _ => .none

/-- A TIME96 with more than 999,999,999 ns (R41). -/
def toeBad (b : List Byte) : Bool := fToeKind b == 2 && 999999999 < fieldBE b 32 4

/-- Bytes of the critical trailer (R54). -/
def trailerLen (b : List Byte) : Nat := if fCrit b then 24 else 0

/-- Where the records begin: behind the header, and in a multicast frame the target set (R54, R70). -/
def bodyAt (b : List Byte) : Nat := if fMcast b then 38 + fieldBE b 36 2 else 36

/-- `n` request records that fill the bytes exactly; reserved RFLAGS are zero (R55). -/
def parseRecs : Nat → List Byte → Option (List ReqRec)
  | 0, b => if b = [] then some [] else none
  | n + 1, b =>
    let len := fieldBE b 6 2
    let r : ReqRec := { op := fieldBE b 0 1, rflags := fieldBE b 1 1, key := fieldBE b 2 4, value := slice b 8 len }
    if b.length < 8 + len ∨ r.rflags % 64 ≠ 0 ∨ (r.op ≠ 5 ∧ r.rflags ≠ 0) then none
    else (parseRecs n (b.drop (8 + len))).map (r :: ·)

/-- The records of a frame, where they add up to its length (R58). -/
def fRecs (b : List Byte) : Option (List ReqRec) :=
  if b.length < bodyAt b + trailerLen b then none
  else parseRecs (fCount b) (slice b (bodyAt b) (b.length - bodyAt b - trailerLen b))

/-- Whether an item of a target set includes a node; none where the set is malformed (R70). -/
def inItems (node : Nat) : Nat → List Byte → Option Bool
  | 0, b => if b = [] then some false else none
  | n + 1, b =>
    if b = [] then some false
    else match fieldBE b 0 1 with
      | 1 =>
        if b.length < 7 then none
        else (inItems node n (b.drop 7)).map fun r => r || (fieldBE b 1 3 ≤ node && node ≤ fieldBE b 4 3)
      | 2 =>
        let base := fieldBE b 1 3
        let k := node - base
        if b.length < 132 ∨ base % 1024 ≠ 0 then none
        else (inItems node n (b.drop 132)).map fun r =>
          r || (base ≤ node && node < base + 1024 && (b.getD (4 + k / 8) 0).toNat / 2 ^ (7 - k % 8) % 2 == 1)
      | _ => none

/-- Whether the target set of a multicast frame includes a node; an empty one includes every node (R70). -/
def targets (node : Nat) (b : List Byte) : Option Bool :=
  let t := slice b 38 (fieldBE b 36 2)
  if t = [] then some true else inItems node t.length t

/-- The header rules of R58, DOMAIN and DEST apart. The spec does not say what a request with RESP set, or a malformed target
set (an unknown or truncated item, a bitmap base that is no multiple of 1,024), comes to: RESP is not looked at, and a frame
whose target set is malformed is discarded as R58 discards (DESIGN CHOICE, log entry 20). -/
def wellFormedFrame (b : List Byte) : Bool :=
  36 ≤ b.length && b.length ≤ 8192 && fieldBE b 0 2 == 0x4341 && fieldBE b 2 1 == 1 && fieldBE b 4 2 == b.length
    && fFlags b % 8 == 0 && fieldBE b 21 3 == 0
    && (if fMcast b then fDest b / 16 == 0 && fSession b == 0 && (targets 0 b).isSome else fDest b / 2 ^ 18 == 0)
    && (match fToeKind b with
      | 0 => fieldBE b 24 12 == 0
      | 1 => fieldBE b 32 4 == 0
      | 2 => true
      | _ => false)
    && fCount b != 0 && (fRecs b).isSome

/-! ### The Ulily profile (R82) -/

/-- The Scaxis index of a Ulily index. -/
def ulilyIndex (u : Nat) : Option Nat :=
  (ulilyRows.find? fun r => r.1 ≤ u ∧ u ≤ r.2.1).map fun r => r.2.2 + (u - r.1)

/-- The entry a record names in a profile: 0 Scaxis, 1 Ulily (R82). -/
def profileKey (profile key : Nat) : Option Nat :=
  if profile = 1 then (ulilyIndex (key / 256)).map fun i => ent i (key % 256) else some key

end Sys2Proof.Machine
end

