-- ==== Sys2Proof/Machine/Cap.lean ====
section
/-! DEFINITION. The catalogue access protocol: frames, records, the session exchange, rate limits, caches, multicast, and the
bridge's client ports (R50 to R103, R491, R492). -/

namespace Sys2Proof.Machine

/-- An answer to a record: status, detail, value. -/
abbrev Ans := Nat × Nat × List Byte

/-- Change the catalogue service. -/
def State.setCap (s : State) (f : Cap → Cap) : State := { s with cap := f s.cap }

/-! ### Entries as records see them (R40, R43) -/

/-- What checks 6 to 9 need to know of an entry. -/
structure Seen where
  field : Field
  parts : List Field
  crit : Bool
  priv : Bool
  owner : Nat
  /-- Owners of the writable fields of a record, and of its private fields. -/
  writers : List Nat := []
  keepers : List Nat := []
  deriving DecidableEq, Repr

/-- An entry of the device or of the user entry table; none where it does not exist (R49, R77). -/
def seen (s : State) (key : Nat) : Option Seen :=
  if isUser key then
    (userEntry s key).map fun u =>
      let ps := if u.ty = .record then userParts s key else []
      { field := userField u, parts := ps.map userField, crit := u.crit || ps.any (fun p => writable (userField p) && p.crit),
        priv := u.priv || ps.any (·.priv), owner := ownerOf s key,
        writers := (ps.filter fun p => writable (userField p)).map fun p => ownerOf s p.key,
        keepers := (ps.filter (·.priv)).map fun p => ownerOf s p.key }
  else if !entryExists s key then none
  else (fieldAt key).map fun f =>
    let rec_ := f.ty == .record
    { field := f, parts := if rec_ then recordFields key else [], crit := f.crit || (rec_ && recordCritical key), priv := false,
      owner := ownerOf s key }

/-- MAX_LEN of an entry (R46). -/
def Seen.longest (x : Seen) : Nat :=
  if x.field.ty = .record then (x.parts.map maxIn).foldl (· + ·) 0 else maxLen x.field

/-- Check 8 (R59, R43): the gallery owns the entry, and the fields of it that count; DETAIL names the first other owner. -/
def ownerCheck (s : State) (r : Req) (key : Nat) (owners : List Nat) : Option Stat :=
  match actor s r key with
  | none => some (stAccessDenied, 0)
  | some g => (owners.find? (· != g)).map fun o => (stNotOwner, o)

/-- Checks 7 and 8 of a read. -/
def readAccess (s : State) (r : Req) (key : Nat) (x : Seen) : Option Stat :=
  if x.field.acc = .wo then some (stAccessDenied, 0)
  else if x.priv then ownerCheck s r key (x.owner :: x.keepers) else none

/-- Checks 7 and 8 of a write. -/
def writeAccess (s : State) (r : Req) (key : Nat) (x : Seen) : Option Stat :=
  if !writable x.field ∨ groupKeyless r key then some (stAccessDenied, 0)
  else if x.crit && !r.crit && r.who != .service then some (stAccessDenied, 0)
  else ownerCheck s r key (x.owner :: x.writers)

/-- Checks 7 to 10 of a write of a user entry (R77). -/
def userCheck (s : State) (r : Req) (key : Nat) (x : Seen) (b : List Byte) : Option Stat :=
  match writeAccess s r key x with
  | some e => some e
  | none =>
    let v := (decVal x.field.ty b).getD (.oct b)
    let fits := inRange x.field v && (x.field.ty != .record ||
      match parseFields x.parts b with
      | some vs => (x.parts.zip vs).all fun p => !writable p.1 || inRange p.1 p.2
      | none => false)
    if !fits ∨ (r.toe ≠ .none ∧ !x.field.timed) then some (stTypeMismatch, 0) else none

/-- Checks 6 to 10 of a WRITE of a value, whole (R59). -/
def valueCheck (s : State) (r : Req) (key : Nat) (b : List Byte) : Option Stat :=
  match seen s key with
  | none => some (stNoSuchEntry, 0)
  | some x => if isUser key then userCheck s r key x b else writeChecked s r key (valueOf key b)

/-- Operations of request records (R55). -/
def opRead : Nat := 1
def opWrite : Nat := 2
def opDescribe : Nat := 3
def opSegRead : Nat := 4
def opSegWrite : Nat := 5
def opOpen : Nat := 0x10
def opConfirm : Nat := 0x11
def opClose : Nat := 0x12
def opSubscribe : Nat := 0x13

/-- Records that a SESSION 0 frame may carry beside an OPEN (R60, R492). -/
def sessionless (s : State) (port : MgtPort) (op key : Nat) : Bool :=
  ((op == opRead || op == opDescribe) && key / 256 ≤ 0x00FFFF)
    || (port == .svc && (((op == opRead || op == opSegRead) && 0x100000 ≤ key / 256 && key / 256 ≤ 0x1000FF)
      || (op == opWrite && serviceWritable s key)))

/-- The unit in which a SEG_READ of a ring must ask: records of 64 bytes in the ledger ring, of 32 in a timestamp ring (R108,
R263). -/
def ringUnit (key : Nat) : Nat :=
  if key = ent 0x0E0011 0 then 64
  else if 0x030300 ≤ key / 256 ∧ key / 256 ≤ 0x03031F ∧ key % 256 = 0x1B then 32 else 1

/-- Check 9 of a SEG_READ (R66, R108, R263). -/
def segReadOk (key : Nat) (b : List Byte) : Bool :=
  let n := fieldBE b 4 2
  b.length == 6 && 1 ≤ n && n ≤ 4096 && fieldBE b 0 4 % ringUnit key == 0 && n % ringUnit key == 0

/-- Checks 6 to 10 of a record that reads, writes or describes an entry (R55, R59, R66, R67, R80), behind the readiness of its
subsystem (R101, R130). R80 speaks of host requests: a client port's request to the user area during the restore is answered
in the same way (DESIGN CHOICE, log entry 22). -/
def recordCheck (s : State) (r : Req) (badTime : Bool) (q : ReqRec) (key : Nat) : Option Stat :=
  if !areaReady s key then some (stNotReady, 0)
  else if isUser key ∧ s.cap.restoring then some (stNotReady, 2)
  else match seen s key with
    | none => some (stNoSuchEntry, 0)
    | some x =>
      let mismatch : Bool → Option Stat := fun ok => if ok ∧ r.toe = .none then none else some (stTypeMismatch, 0)
      if q.op = opRead then
        match readAccess s r key x with
        | some e => some e
        | none => mismatch (q.value == [] && (isUser key || x.field.ty != .octets || (readBytes s key).length ≤ 4096))
      else if q.op = opDescribe then mismatch (q.value == [])
      else if q.op = opSegRead then
        match readAccess s r key x with
        | some e => some e
        | none => mismatch (segReadOk key q.value)
      else if q.op = opSegWrite then
        match writeAccess s r key x with
        | some e => some e
        | none => mismatch (!x.field.timed && 5 ≤ q.value.length && q.value.length ≤ 4100)
      else match valueCheck s r key q.value with
        | some e => some e
        | none => if badTime ∨ (x.field.ty = .octets ∧ 4096 < q.value.length) then some (stTypeMismatch, 0) else none

/-! ### The transaction under way (R61, R100) -/

/-- The write request that a frame's records are. -/
def FrameWork.req (w : FrameWork) : Req :=
  { who := w.who, crit := fCrit w.frame.bytes, toe := fToe w.frame.bytes, trans := fTrans w.frame.bytes }

/-- The session slot of a transaction. -/
def FrameWork.slot (w : FrameWork) : Option Nat :=
  match w.who with
  | .session n => some n.val
  | _ => none

/-- Records of the frame. -/
def FrameWork.recs (w : FrameWork) : List ReqRec := (fRecs w.frame.bytes).getD []

/-- The entry a record names, by the session's profile. -/
def FrameWork.entry (w : FrameWork) (s : State) (q : ReqRec) : Option Nat :=
  match w.slot with
  | some n => profileKey (s.num (sesIdx n) 4) q.key
  | none => some q.key

/-- Checks of a session exchange record (R55, R85). -/
def exchangeCheck (s : State) (w : FrameWork) (q : ReqRec) : Option Stat :=
  let crit := fCrit w.frame.bytes
  let fits := match w.who with
    | .service => q.op == opOpen && !crit
    | .session n =>
      (q.op == opConfirm && s.sesState n.val == 1 && !crit) || (q.op == opClose && sesOpen s n.val && crit)
        || (q.op == opSubscribe && sesOpen s n.val)
    | _ => false
  if !fits then some (stAccessDenied, 0)
  else if q.key ≠ 0 ∨ ((q.op = opOpen ∨ q.op = opConfirm) ∧ w.recs.length ≠ 1) ∨ fToe w.frame.bytes ≠ .none then
    some (stTypeMismatch, 0)
  else none

/-- Whether a record's OP is one of entries. -/
def entryOp (op : Nat) : Bool := 1 ≤ op && op ≤ 5

/-- What refuses a record before its entry is looked at: an undefined OP, and what its session may not carry (R55, R60). R60
denies a forbidden record of a SESSION 0 frame; the other records of the frame are judged by themselves, though R59 lists
check 4 among those of the whole frame (DESIGN CHOICE, log entry 20). -/
def carryCheck (s : State) (w : FrameWork) (q : ReqRec) : Option Stat :=
  if !entryOp q.op then exchangeCheck s w q
  else
    let ok := match w.who with
      | .service => sessionless s w.frame.port q.op q.key
      | .session n => sesOpen s n.val
      | _ => true
    if ok then none else some (stAccessDenied, 0)

/-- Checks 6 to 10 of a record. -/
def fullCheck (s : State) (w : FrameWork) (q : ReqRec) : Option Stat :=
  match carryCheck s w q with
  | some e => some e
  | none =>
    if !entryOp q.op then none
    else match w.entry s q with
      | none => some (stNoSuchEntry, 0)
      | some key => recordCheck s w.req (toeBad w.frame.bytes) q key

/-! ### ATOMIC (R61) -/

/-- The rule of a write as checks 11 sees it: a user entry counts ruling picks. -/
def timingRule (key : Nat) : Rule := if isUser key then plainRule key else ruleOf key

/-- Check 11 of a record: the refusal, or the state with what the record would reserve. -/
def reserve (s : State) (w : FrameWork) (q : ReqRec) (pos : Nat) : Except Stat State :=
  if q.op ≠ opWrite then .ok s
  else match w.entry s q with
    | none => .ok s
    | some key =>
      let dst := takeRedirect s key (valueOf key q.value)
      let rule := timingRule dst.1
      match checkTiming s w.req pos dst.1 dst.2 rule with
      | .error e => .error e
      | .ok p =>
        match p, rule.pick s dst.2 with
        | some n, _ => .ok (acceptTimed s (timedCmd s w.req pos (rule.base s) n dst.1 dst.2))
        | none, some n =>
          match rule.judge s w.req dst.2 with
          | some d => .error (d.status, d.detail)
          | none =>
            let c := timedCmd s w.req pos (rule.base s) n dst.1 dst.2
            if admits s c then .ok (acceptTimed s c) else .error (stBusy, 0)
        | none, none => .ok s

/-- The first record that fails checks 6 to 11, where each is judged with what those before it reserve. -/
def atomicFault (w : FrameWork) : List ReqRec → Nat → State → Option (Nat × Nat)
  | [], _, _ => none
  | q :: r, pos, s =>
    match fullCheck s w q with
    | some e => some (e.1, pos)
    | none =>
      match reserve s w q pos with
      | .error e => some (e.1, pos)
      | .ok s => atomicFault w r (pos + 1) s

/-! ### The session exchange (R85 to R90, R109) -/

/-- An OPEN or CONFIRM that fails, with event 022h (R88, R112). -/
def openRefused (s : State) (k status : Nat) : State × Ans := (s.raise 0x022 k (be 1 k ++ be 2 status), (status, 0, []))

/-- The lowest free session slot. -/
def freeSlot (s : State) : Option Nat := (List.range 8).find? fun n => s.sesState n = 0

/-- Where a frame came from, as a session is bound to it (R89): IP address and UDP port; zeros on the service port. -/
def boundSource (f : TxFrame) : List Byte := if f.port = .svc then List.replicate 18 0 else (f.ip ++ List.replicate 16 0).take 16 ++ be 2 f.udp

/-- A session becomes half-open (R86). -/
def halfOpen (s : State) (f : TxFrame) (n k prof : Nat) (hostNonce : List Byte) : State × Ans :=
  let epoch := s.num (hkIdx k) 4 + 1
  let s := (s.put (hkIdx k) 4 epoch).bump (ent (hkIdx k) 4)
  let devNonce := be 32 (s.freeValue 256)
  let s := s.draw
  let place := be 3 (s.num 0x010001 2) ++ be 2 (s.num 0x010001 3)
  let t := be 1 k ++ be 1 prof ++ hostNonce ++ be 1 (n + 1) ++ be 8 epoch ++ devNonce ++ place
  let keys := hkdf256 (s.mgmt.hostKeys.getD k []) (hostNonce ++ devNonce)
    (ascii "JWS4 CAP" ++ be 1 k ++ be 1 (n + 1) ++ be 8 epoch ++ place) 96
  let kConf := slice keys 0 32
  let s := s.setSes n fun _ =>
    { hostNonce := hostNonce, devNonce := devNonce, transcript := t, kConf := kConf, kH2d := slice keys 32 32,
      kD2h := slice keys 64 32, openedAt := s.now, heardAt := s.now, src := fSrc f.bytes, port := f.port, tokensAt := s.now }
  let i := sesIdx n
  let s := ((((s.put i 1 1).put i 2 k).put i 3 (s.num (hkIdx k) 2)).put i 4 prof).put i 5 0
  let s := ((s.put i 6 0).put i 8 0).putOct i 7 (boundSource f)
  (s, (stOk, 0, be 1 (n + 1) ++ be 1 prof ++ be 2 0 ++ be 8 epoch ++ devNonce ++ (hmac256 kConf (0x44 :: t)).take 16))

/-- OPEN (R85, R86, R88). -/
def openSession (s : State) (f : TxFrame) (v : List Byte) : State × Ans :=
  let k := fieldBE v 0 1
  if v.length ≠ 36 then openRefused s k stTypeMismatch
  else if 15 < k ∨ fieldBE v 2 2 ≠ 0 then openRefused s k stTypeMismatch
  else if 1 < fieldBE v 1 1 then openRefused s k stTypeMismatch
  else if s.num (hkIdx k) 1 ≠ 1 then openRefused s k stAccessDenied
  else match freeSlot s with
    | none => openRefused s k stBusy
    | some n =>
      if s.num (hkIdx k) 4 = 2 ^ 64 - 1 then openRefused s k stCounterExhausted
      else halfOpen s f n k (fieldBE v 1 1) (slice v 4 32)

/-- CONFIRM (R86, R87): event 020h. -/
def confirmSession (s : State) (n : Nat) (v : List Byte) : State × Ans :=
  let x := s.ses n
  if v.length ≠ 16 then openRefused s (s.num (sesIdx n) 2) stTypeMismatch
  else if v ≠ (hmac256 x.kConf (0x48 :: x.transcript)).take 16 then (discardHalfOpen s n stTagInvalid, (stTagInvalid, 0, []))
  else
    let i := sesIdx n
    let s := ((s.put i 1 2).put i 5 0).put i 6 0
    let s := s.setSes n fun x => { x with heardAt := s.now, mask := [], minSev := 0, notes := [], noteNum := 0 }
    (s.raise 0x020 (n + 1) (be 1 (n + 1) ++ be 1 (s.num i 2) ++ be 1 (s.num i 3) ++ be 1 (s.num i 4)), (stOk, 0, []))

/-- SUBSCRIBE (R109). -/
def subscribe (s : State) (n : Nat) (v : List Byte) : State × Ans :=
  if v.length ≠ 513 then (s, (stTypeMismatch, 0, []))
  else (s.setSes n fun x => { x with mask := v.take 512, minSev := fieldBE v 512 1 }, (stOk, 0, []))

/-- A session exchange record executes. -/
def exchange (s : State) (w : FrameWork) (q : ReqRec) : State × Ans :=
  match w.slot with
  | none => openSession s w.frame q.value
  | some n =>
    if q.op = opConfirm then confirmSession s n q.value
    else if q.op = opSubscribe then subscribe s n q.value
    else if q.value ≠ [] then (s, (stTypeMismatch, 0, []))
    else (s.setCap fun c => { c with work := c.work.map fun w => { w with close := true } }, (stOk, 0, []))

/-! ### Reads, writes, segments (R43 to R46, R65 to R68) -/

/-- A write of a whole value executes: through the bridge for a user entry, else by its entry's rule. `none`: the bridge
answers later. -/
def writeValue (s : State) (r : Req) (pos key : Nat) (b : List Byte) (checked : Bool := false) : State × Option Ans :=
  match if isUser key then userEntry s key else none with
  | none =>
    let d := writeDone s r pos key (valueOf key b) checked
    (d.s, some (d.status, d.detail, []))
  | some u =>
    match r.toe with
    | .none => (pushReq s { who := r.who, key := key, write := true, data := b }, none)
    | _ =>
      let v := (decVal u.ty b).getD (.oct b)
      let d := if checked then executeChecked s r pos key v (plainRule key) else executeWrite s r pos key v (plainRule key)
      (d.s, some (d.status, d.detail, []))

/-- Drop the staged write of a stager for an entry (R67). -/
def unstage (s : State) (who : Who) (key : Nat) : State :=
  s.setCap fun c => { c with staged := c.staged.filter fun x => !(x.key = key ∧ x.who = who) }

/-- A SEG_WRITE after its checks (R67, R68): staged, refused, or committed whole. -/
def segWrite (s : State) (r : Req) (pos key longest rflags : Nat) (v : List Byte) : State × Option Ans :=
  let off := fieldBE v 0 4
  let first := decide (128 ≤ rflags)
  let held := s.cap.staged.find? fun x => x.key = key
  let mine := held.filter fun x => x.who = r.who
  let bad := (unstage s r.who key, some (stTypeMismatch, 0, []))
  let before := if first then [] else (mine.map (·.bytes)).getD []
  if first ∧ off = 0 ∧ held.isSome ∧ mine.isNone then (s, some (stBusy, 0, []))
  else if off ≠ before.length ∨ (!first ∧ mine.isNone) ∨ longest < before.length + (v.length - 4) then bad
  else
    let all_ := before ++ v.drop 4
    let s := unstage s r.who key
    if rflags / 64 % 2 = 1 then
      match valueCheck s r key all_ with
      | some e => (s, some (e.1, e.2, []))
      | none => writeValue s r pos key all_
    else
      let x : Staged := { who := r.who, key := key, bytes := all_, since := s.now }
      (s.setCap fun c => { c with staged := c.staged ++ [x] }, some (stOk, 0, []))

/-- The part of a value that a SEG_READ asks for (R66). -/
def segment (v q : List Byte) : List Byte := slice v (fieldBE q 0 4) (fieldBE q 4 2)

/-- GENERATION of a user entry (R46); of a record, the sum over its fields (log entry 20). -/
def userGeneration (s : State) (key : Nat) : Nat :=
  (tgetD s.gen key 0 + if key % 256 = 0 then
    ((userParts s key).map fun p => tgetD s.gen p.key 0).foldl (· + ·) 0 else 0) % 2 ^ 32

/-- The descriptor of any entry (R46). -/
def describe (s : State) (key : Nat) : List Byte :=
  match if isUser key then userEntry s key else none, seen s key with
  | some u, some x =>
    let flags := (if x.crit then 128 else 0) + (if u.pers then 64 else 0) + (if x.priv then 32 else 0) + 16
      + (if u.timed then 8 else 0)
    descriptor (tyCode u.ty) (accCode u.acc) flags x.owner x.longest (userGeneration s key)
      (if u.ty = .record then [] else encVal u.ty u.dflt)
  | _, _ => describeDevice s key

/-- A record of an entry operation that passed its checks executes. -/
def runEntry (s : State) (w : FrameWork) (q : ReqRec) (key : Nat) : State × Option Ans :=
  let longest := ((seen s key).map Seen.longest).getD 0
  if q.op = opWrite then writeValue s w.req w.count key q.value w.checked
  else if q.op = opSegWrite then segWrite s w.req w.count key longest q.rflags q.value
  else if q.op = opDescribe then (s, some (stOk, 0, describe s key))
  else if isUser key then (pushReq s { who := w.who, key := key }, none)
  else if q.op = opRead then (s, some (stOk, 0, readBytes s key))
  else (s, some (stOk, generation s key, segment (readBytes s key) q.value))

/-- The most value bytes that a read of a user entry may answer with: the length of its type, else its longest value or the
segment asked for. -/
def userAnswer (s : State) (q : ReqRec) (key : Nat) : Nat :=
  let longest := ((seen s key).map Seen.longest).getD 0
  if q.op = opRead then longest else if q.op = opSegRead then min (fieldBE q.value 4 2) longest else 0

/-- Bytes of the response once a record with `n` value bytes stands in it, a head kept for each record behind it (R62; log
entry 20). -/
def sizeWith (w : FrameWork) (n : Nat) : Nat :=
  36 + trailerLen w.frame.bytes + w.out.length + 14 * (w.recs.length - w.count) + n

/-- Whether the answer of a user entry might not fit the response, so that its record does not execute (R62). The MGC cannot
know the length of a STRING, OCTETS or RECORD value that the design holds, and goes by the longest (DESIGN CHOICE, log entry
20). -/
def tooLong (s : State) (w : FrameWork) (q : ReqRec) (key : Nat) : Bool :=
  isUser key && (q.op == opRead || q.op == opSegRead) && 8192 < sizeWith w (userAnswer s q key)

/-- An OPEN or CONFIRM record that a check refuses raises event 022h as well (R112). -/
def noteRefused (s : State) (w : FrameWork) (q : ReqRec) (status : Nat) : State :=
  if q.op = opOpen ∨ q.op = opConfirm then
    let k := match w.slot with
      | some n => s.num (sesIdx n) 2
      | none => fieldBE q.value 0 1
    (openRefused s k status).1
  else s

/-- What refuses a record: checks 6 to 10, but not twice for a frame that passed them whole (R61). -/
def recordFault (s : State) (w : FrameWork) (q : ReqRec) : Option Stat := if w.checked then none else fullCheck s w q

/-- A record executes; `none`: the bridge answers later. -/
def runRecord (s : State) (w : FrameWork) (q : ReqRec) : State × Option Ans :=
  match recordFault s w q with
  | some e => (noteRefused s w q e.1, some (e.1, e.2, []))
  | none =>
    if !entryOp q.op then
      let d := exchange s w q
      (d.1, some d.2)
    else match w.entry s q with
      | none => (s, some (stNoSuchEntry, 0, []))
      | some key => if tooLong s w q key then (s, some (stBusy, 1, [])) else runEntry s w q key

/-- The bridge's answer as the record under way gives it. -/
def replyAns (s : State) (q : ReqRec) (a : Answer) : Ans :=
  if a.status ≠ stOk then (a.status, a.detail, [])
  else if q.op = opRead then (stOk, 0, a.value)
  else if q.op = opSegRead then (stOk, userGeneration s q.key, segment a.value q.value)
  else (stOk, 0, [])

/-- Whether an operation reads (its value may be cut off by R62). -/
def readsOp (op : Nat) : Bool := op == opRead || op == opDescribe || op == opSegRead

/-- The response record of a request record, or BUSY with DETAIL 1 where it would take the response past 8,192 bytes (R62).
Also in an ATOMIC frame such a record alone does not execute: R61 looks at checks 6 to 11 only (DESIGN CHOICE, log entry
20). -/
def answerRecord (w : FrameWork) (q : ReqRec) (a : Ans) : List Byte :=
  if readsOp q.op ∧ 8192 < sizeWith w a.2.2.length then respRecord q.op q.rflags q.key stBusy 1 []
  else respRecord q.op q.rflags q.key a.1 a.2.1 a.2.2

/-! ### Responses (R52, R57, R64, R72, R93, R94, R96) -/

/-- A response leaves through the port its request came by (R52). -/
def emit (s : State) (f : TxFrame) : State :=
  let s := s.count 0x010004 5 64 1
  if f.port = .svc then { s with upd := { s.upd with svcReq := false, svcRsp := some f.bytes } } else sendCap s f

/-- A frame that gets no response. -/
def noResponse (s : State) (f : TxFrame) : State := if f.port = .svc then { s with upd := { s.upd with svcReq := false } } else s

/-- Send a response, or in answer to a multicast request hold it for its spread delay (R72). -/
def respond (s : State) (f : TxFrame) (resp : List Byte) : State :=
  let out : TxFrame := { f with bytes := resp }
  let delay := s.num 0x010001 2 % 256 * s.num 0x010001 4 * 1000
  if !fMcast f.bytes then emit s out
  else if fNoAck f.bytes then noResponse s f
  else if delay = 0 then emit s out
  else
    let a : McastAnswer := { group := fGroup f.bytes, trans := fTrans f.bytes, due := s.now + delay, frame := out }
    s.setCap fun c => { c with answers := c.answers ++ [a] }

/-- The header of the response to a frame. Of the request's flags it repeats CRIT alone, as R57 gives; R53 does not say whether a
response repeats ATOMIC and MCAST (DESIGN CHOICE, log entry 20). -/
def respHead (s : State) (f : TxFrame) (flags len : Nat) : List Byte :=
  frameHead s flags len (fSrc f.bytes) (fSession f.bytes) (fCount f.bytes) (fTrans f.bytes) (slice f.bytes 20 16)

/-- A frame refused at checks 3 to 5: every record carries the status, without a trailer (R57, R59, R94). -/
def refuseFrame (s : State) (f : TxFrame) (status detail : Nat) : State :=
  let body := ((fRecs f.bytes).getD []).flatMap fun q => respRecord q.op q.rflags q.key status detail []
  respond s f (respHead s f 0 (36 + body.length) ++ body)

/-- Keep the responses of the last second, the newest 64 of them (R64). -/
def keepCached (s : State) (l : List CachedResp) : List CachedResp :=
  let l := l.filter fun x => s.now ≤ x.since + second
  l.drop (l.length - 64)

/-- Whether a transaction's session is still the one it began in. -/
def sameSession (s : State) (w : FrameWork) (n : Nat) : Bool := s.sesState n != 0 && (s.ses n).openedAt == w.opened

/-- The response counter of a critical response, counted (R93, R96). -/
def respCounter (s : State) (w : FrameWork) : State × Nat :=
  match w.who with
  | .session n =>
    if sameSession s w n.val then
      let c := s.num (sesIdx n.val) 6 + 1
      (s.put (sesIdx n.val) 6 c, c)
    else (s, w.ctr + 1)
  | .group g =>
    let c := (s.num (gkIdx g.val) 5 + 1) % 2 ^ 64
    if fNoAck w.frame.bytes then (s, c) else (s.put (gkIdx g.val) 5 c, c)
  | _ => (s, 0)

/-- Enter a response in the cache of its session, or of SESSION 0 frames (R64). -/
def cacheResp (s : State) (w : FrameWork) (resp : List Byte) : State :=
  let f := w.frame
  let x : CachedResp := { trans := fTrans f.bytes, since := s.now, bytes := resp }
  if w.uncached then s
  else match w.who with
    | .session n =>
      if sameSession s w n.val then s.setSes n.val fun y => { y with cache := keepCached s (y.cache ++ [x]) } else s
    | .service =>
      s.setCap fun c => { c with cache0 := keepCached s (c.cache0 ++ [{ x with ip := (boundSource f).take 16, udp := fieldBE (boundSource f) 16 2 }]) }
    | _ => s

/-- The transaction ends: its response leaves, a new UDP port applies, then a CLOSE closes its session (R57, R61, R75, R90). -/
def finishFrame (s : State) (w : FrameWork) : State :=
  let s := s.setCap fun c => { c with work := none }
  let f := w.frame
  let crit := fCrit f.bytes
  let len := 36 + w.out.length + (if crit then 24 else 0)
  let bare := respHead s f (if crit then 0x20 else 0) len ++ w.out
  let r := if crit then
      let c := respCounter s w
      (c.1, withTrailer w.key c.2 bare)
    else (s, bare)
  let s := respond (cacheResp r.1 w r.2) f r.2
  let s := s.setCap fun c => { c with listen := s.num 0x010001 1 }
  match w.slot with
  | some n => if w.close ∧ sesOpen s n then closeSession s n 0 else s
  | none => s

/-- Whether a record's status keeps its response out of the cache (R94): NOT_READY, RETRY_AFTER, TAG_INVALID, STALE_COUNTER,
COUNTER_EXHAUSTED, and in a SESSION 0 frame the ACCESS_DENIED of check 4, which every record but an OPEN can meet. -/
def keepsOut (who : Who) (op status : Nat) : Bool :=
  [stNotReady, stRetryAfter, stTagInvalid, stStaleCounter, stCounterExhausted].contains status
    || (who == .service && status == stAccessDenied && op != opOpen)

/-- Put the answer of the record under way into the response. -/
def putAnswer (s : State) (w : FrameWork) (q : ReqRec) (a : Ans) : State :=
  s.setCap fun c =>
    { c with work := c.work.map fun v =>
        { v with out := v.out ++ answerRecord w q a, count := v.count + 1, waiting := false, reply := none,
                 uncached := v.uncached || keepsOut w.who q.op a.1 } }

/-- The next record of the transaction under way, or its end. -/
def stepWork (s : State) (w : FrameWork) : State :=
  match w.recs[w.count]? with
  | none => finishFrame s w
  | some q =>
    match w.reply with
    | some a => putAnswer s w q (replyAns s { q with key := (w.entry s q).getD q.key } a)
    | none =>
      let s := s.setCap fun c => { c with work := c.work.map fun v => { v with waiting := true } }
      let d := runRecord s w q
      match d.2 with
      | some a => putAnswer d.1 w q a
      | none => d.1

/-! ### Admission (R101 to R103) -/

/-- A bucket after a time. -/
def refilled (level rate cap ns : Nat) : Nat := min cap (level + rate * ns)

/-- One token, in the buckets' unit of 10^-9 frames. -/
def token : Nat := 1000000000

/-- The session whose bucket a frame uses (R103). -/
def rateSlot (s : State) (b : List Byte) : Option Nat :=
  let n := fSession b
  if 1 ≤ n ∧ n ≤ 8 ∧ s.sesState (n - 1) ≠ 0 then some (n - 1) else none

/-- Bring every bucket up to now. -/
def refill (s : State) : State :=
  let dt := s.now - s.cap.tokensAt
  let s := s.setCap fun c =>
    { c with tokens0 := refilled c.tokens0 2000 50000000000 dt, tokensDev := refilled c.tokensDev 100000 1000000000000 dt,
             tokensAt := s.now }
  { s with mgmt := { s.mgmt with
      sessions := s.mgmt.sessions.map fun x =>
        { x with tokens := refilled x.tokens 20000 200000000000 (s.now - x.tokensAt), tokensAt := s.now } } }

/-- Time in ms until a bucket holds a token, rounded up, at least 1 (R103). -/
def tokenHint (level rate : Nat) : Nat := max 1 (ceilDiv (token - level) (rate * 1000000))

/-- The hint of the bucket that refuses a frame, the buckets brought up to now. R103 does not say which bucket refuses where both
are empty: the session's own, or that of SESSION 0, comes first (DESIGN CHOICE, log entry 21). -/
def bucketHint (s : State) (b : List Byte) : Option Nat :=
  let own := match rateSlot s b with
    | some n => if (s.ses n).tokens < token then some (tokenHint (s.ses n).tokens 20000) else none
    | none =>
      if fSession b = 0 ∧ !fMcast b ∧ s.cap.tokens0 < token then some (tokenHint s.cap.tokens0 2000) else none
  match own with
  | some h => some h
  | none => if s.cap.tokensDev < token then some (tokenHint s.cap.tokensDev 100000) else none

/-- A frame takes one token from each bucket that applies. -/
def takeTokens (s : State) (b : List Byte) : State :=
  let s := s.setCap fun c => { c with tokensDev := c.tokensDev - token }
  match rateSlot s b with
  | some n => s.setSes n fun x => { x with tokens := x.tokens - token }
  | none => if fSession b = 0 ∧ !fMcast b then s.setCap fun c => { c with tokens0 := c.tokens0 - token } else s

/-- Whether a frame holds a record with an OP. -/
def holdsOp (b : List Byte) (op : Nat) : Bool := ((fRecs b).getD []).any fun q => q.op == op

/-- The admission rule of R102: the state, and the hint of a refusal. -/
def admitOpen (s : State) (b : List Byte) : State × Option Nat :=
  if !holdsOp b opOpen then (s, none)
  else if s.now < s.cap.nextAdmission then
    let slot := s.cap.nextAdmission + 2000000 * s.cap.refused
    (s.setCap fun c => { c with refused := c.refused + 1 }, some (min 1000 (ceilDiv (slot - s.now) 1000000)))
  else (s.setCap fun c => { c with nextAdmission := s.now + 2000000, refused := 0 }, none)

/-- Frames answered before the vault is unsealed: SESSION 0 reads and descriptions of identity entries (R101). -/
def identityFrame (b : List Byte) : Bool :=
  fSession b == 0 && !fMcast b && ((fRecs b).getD []).all fun q =>
    (q.op == opRead || q.op == opDescribe) && q.key / 256 ≤ 0x00FFFF

/-- Check 3 (R59, R101 to R103): the state, and the refusal. -/
def check3 (s : State) (f : TxFrame) : State × Option Stat :=
  let b := f.bytes
  let ready := s.cap.phase == .unsealed || s.cap.phase == .served || identityFrame b
  if !ready then (s, some (stNotReady, 0))
  else
    let s := refill s
    match if f.port = .svc then none else bucketHint s b with
    | some h =>
      let s := match rateSlot s b with
        | some n => (s.count (sesIdx n) 8 32 1).raiseAtMost 1 0x026 (n + 1) (fun k => be 1 (n + 1) ++ be 4 k)
        | none => s
      (s, some (stRetryAfter, h))
    | none =>
      let d := admitOpen s b
      match d.2 with
      | some h => (d.1, some (stRetryAfter, h))
      | none => (if f.port = .svc then d.1 else takeTokens d.1 b, none)

/-! ### Checks 4 and 5 (R59, R85, R89, R92, R95) -/

/-- The tag of a critical frame under a key (R92). -/
def tagOk (key b : List Byte) : Bool := b.drop (b.length - 16) == (hmac256 key (b.take (b.length - 16))).take 16

/-- The counter of a critical frame. -/
def fCounter (b : List Byte) : Nat := fieldBE b (b.length - 24) 8

/-- Check 5 of a critical frame for the counter entry `idx:sub` of a session or group coded `code` (R92): the state with the
counter accepted, and the refusal. -/
def check5 (s : State) (f : TxFrame) (key : List Byte) (idx sub code : Nat) : State × Option Stat :=
  let last := s.num idx sub
  let c := fCounter f.bytes
  if !tagOk key f.bytes then
    (s.raiseAtMost 1 0x023 code (fun _ => be 1 code ++ (boundSource f).take 16), some (stTagInvalid, 0))
  else if last = 2 ^ 64 - 1 then (s, some (stCounterExhausted, 0))
  else if c ≤ last then (s, some (stStaleCounter, 0))
  else
    let s := s.put idx sub c
    (if c = 2 ^ 64 - 1 then s.raise 0x024 code (be 1 code) else s, none)

/-- Checks 4 and 5 of a frame that names a session. -/
def checkSession (s : State) (f : TxFrame) (n : Nat) : State × Option Stat :=
  let b := f.bytes
  let crit := fCrit b
  let named := if holdsOp b opConfirm then s.sesState n == 1 else sesOpen s n
  if !named ∨ (!crit ∧ s.oct (sesIdx n) 7 ≠ boundSource f) then (s, some (stAccessDenied, 0))
  else
    let s := s.setSes n fun x => { x with src := fSrc b, port := f.port }
    let d := if crit then check5 s f (s.ses n).kH2d (sesIdx n) 5 (n + 1) else (s, none)
    match d.2 with
    | some e => (d.1, some e)
    | none =>
      let s := d.1.setSes n fun x => { x with heardAt := s.now }
      let s := if s.oct (sesIdx n) 7 = boundSource f then s else s.putOct (sesIdx n) 7 (boundSource f)
      (if s.num (sesIdx n) 5 = 2 ^ 64 - 1 ∧ s.sesState n = 2 then s.put (sesIdx n) 1 3 else s, none)

/-- Checks 4 and 5 of a frame: the state, the refusal, and whom the frame acts for. -/
def check45 (s : State) (f : TxFrame) : State × Option Stat × Who :=
  let b := f.bytes
  if fMcast b then
    let g := Fin.ofNat 16 (fGroup b)
    if s.num (gkIdx g.val) 1 ≠ 1 ∨ !fCrit b then (s, some (stAccessDenied, 0), .group g)
    else
      let d := check5 s f (s.mgmt.groupKeys.getD g.val []) (gkIdx g.val) 4 (0x80 + g.val)
      (d.1, d.2, .group g)
  else if fSession b = 0 then (s, if fCrit b then some (stAccessDenied, 0) else none, .service)
  else if 8 < fSession b then (s, some (stAccessDenied, 0), .service)
  else
    let n := Fin.ofNat 8 (fSession b - 1)
    let d := checkSession s f n.val
    (d.1, d.2, .session n)

/-! ### Arrival (R50, R58, R59, R64, R71) -/

/-- Sessions and staged writes whose time has run out by now end first (R67, R87, R90, R93). -/
def lapse (s : State) : State :=
  let s := (List.range 8).foldl (fun s n =>
    if s.sesState n = 1 ∧ (s.ses n).openedAt + second < s.now then discardHalfOpen s n stTooLate
    else if sesOpen s n ∧ s.num (sesIdx n) 6 = 2 ^ 64 - 1 then closeSession s n 4
    else if sesOpen s n ∧ (s.ses n).heardAt + s.num 0x010018 1 * second < s.now then closeSession s n 1
    else s) s
  dropStaged s fun x => x.since + 10 * second < s.now

/-- Whether a datagram reaches the CAP port of a management port (R50, R70, R75): the UDP port in force, and an address of the
port or of a joined group; IPv4 only where the port has an address. -/
def reaches (s : State) (k : Nat) (d : Datagram) : Bool :=
  d.dstUdp == s.cap.listen && (!isIpv4 d.dstIp || s.oct 0x010002 (4 * k + 1) != [])
    && ((ownAddresses s k).contains d.dstIp || (List.range 16).any fun g => groupAddress s g == some d.dstIp)

/-- Whether a multicast frame came by another address than its group's, so that the group does not take it (R70). -/
def strayGroup (s : State) (d : Datagram) : Bool :=
  wellFormedFrame d.bytes && fMcast d.bytes && groupAddress s (fGroup d.bytes) != some d.dstIp

/-- The cached response to a frame (R64). -/
def cachedFor (s : State) (f : TxFrame) : Option CachedResp :=
  let b := f.bytes
  if fSession b = 0 then
    (keepCached s s.cap.cache0).find? fun x => x.trans = fTrans b ∧ x.ip ++ be 2 x.udp = boundSource f
  else if 8 < fSession b then none
  else (keepCached s (s.ses (fSession b - 1)).cache).find? fun x => x.trans = fTrans b

/-- Whether a multicast transaction has arrived within the last second (R71). -/
def duplicate (s : State) (b : List Byte) : Bool :=
  s.cap.dups.any fun d => d.group == fGroup b && d.trans == fTrans b && s.now ≤ d.since + second

/-- A frame that passed checks 3 to 5 becomes the transaction under way; ATOMIC frames are checked whole first (R61). -/
def beginWork (s : State) (f : TxFrame) (who : Who) : State :=
  let b := f.bytes
  let mark : DupMark := { group := fGroup b, trans := fTrans b, since := s.now }
  let s := if fMcast b then s.setCap fun c => { c with dups := (c.dups.filter fun d => s.now ≤ d.since + second) ++ [mark] } else s
  let w : FrameWork :=
    match who with
    | .session n => { frame := f, who := who, key := (s.ses n.val).kD2h, ctr := s.num (sesIdx n.val) 6, opened := (s.ses n.val).openedAt }
    | .group g => { frame := f, who := who, key := s.mgmt.groupKeys.getD g.val [] }
    | _ => { frame := f, who := who }
  let recs := w.recs
  match if fAtomic b then atomicFault w recs 0 s else none with
  | some e =>
    let out := recs.flatMap fun q => respRecord q.op q.rflags q.key e.1 e.2 []
    let s := recs.foldl (fun s q => noteRefused s w q e.1) s
    s.setCap fun c => { c with work := some { w with out := out, count := recs.length, uncached := keepsOut who 0 e.1 } }
  | none => s.setCap fun c => { c with work := some { w with checked := fAtomic b } }

/-- A frame is checked in the order of R59, no transaction being under way. -/
def startFrame (s : State) (f : TxFrame) : State :=
  let b := f.bytes
  let s := lapse s
  if !wellFormedFrame b ∨ (f.port ≠ .svc ∧ (fDomain b ≠ s.num 0x010001 3 ∨ (!fMcast b ∧ fDest b ≠ s.num 0x010001 2))) then
    noResponse (s.count 0x010004 2 64 1) f
  else if fMcast b ∧ targets (s.num 0x010001 2) b ≠ some true then noResponse s f
  else if s.num 0x100000 0x0D ≠ 0 then refuseFrame s f stNotReady 0
  else if fMcast b ∧ duplicate s b then noResponse (s.count 0x010004 4 64 1) f
  else match if fMcast b then none else cachedFor s f with
    | some x => emit (s.count 0x010004 3 64 1) { f with bytes := x.bytes }
    | none =>
      let d := check3 s f
      match d.2 with
      | some e => refuseFrame d.1 f e.1 e.2
      | none =>
        let a := check45 d.1 f
        match a.2.1 with
        | some e => refuseFrame a.1 f e.1 e.2
        | none => beginWork a.1 f a.2.2

/-! ### The client ports (R81) -/

/-- The answer to a client request. -/
def clientAnswer (s : State) (b status : Nat) (data : List Byte) : State :=
  s.setCap fun c => { c with clients := c.clients.set b (some { status := status, data := data }) }

/-- A client request is served: checks 6 to 9 in the fabric client's gallery, then its effect (R77, R81). -/
def serveClient (s : State) (x : ClientReq) : State :=
  let r : Req := { who := .client (Fin.ofNat 4 x.bolt), crit := false, toe := .none, trans := 0 }
  let q : ReqRec := { op := if x.write then opWrite else opRead, rflags := 0, key := x.key, value := x.data }
  if s.cap.phase ≠ .unsealed ∧ s.cap.phase ≠ .served then clientAnswer s x.bolt stNotReady []
  else match recordCheck s r false q x.key with
    | some e => clientAnswer s x.bolt e.1 []
    | none =>
      if x.write then
        let d := writeValue s r 0 x.key x.data
        match d.2 with
        | some a => clientAnswer d.1 x.bolt a.1 []
        | none => d.1
      else if isUser x.key then pushReq s { who := r.who, key := x.key }
      else clientAnswer s x.bolt stOk (readBytes s x.key)

/-- Whether a client port has a request outstanding (R81). -/
def clientBusy (s : State) (b : Fin 4) : Bool :=
  s.cap.clientWait.any (fun x => x.bolt == b.val) || (s.cap.bridge.any fun r => r.who == .client b)
    || s.cap.bridgeQueue.any fun r => r.who == .client b

/-! ### Running what can run (R100) -/

/-- One step of the MGC: a waiting client request, the transaction under way, or the next frame; none where it waits. -/
def mgcStep (s : State) : Option State :=
  match s.cap.clientWait, s.cap.work, s.cap.inbox with
  | x :: r, w, i =>
    if s.num 0x100000 0x0D = 0 then some (serveClient (s.setCap fun c => { c with clientWait := r }) x)
    else match w, i with
      | some w, _ => if w.waiting ∧ w.reply.isNone then none else some (stepWork s w)
      | none, f :: i => some (startFrame (s.setCap fun c => { c with inbox := i }) f)
      | none, [] => none
  | [], some w, _ => if w.waiting ∧ w.reply.isNone then none else some (stepWork s w)
  | [], none, f :: i => some (startFrame (s.setCap fun c => { c with inbox := i }) f)
  | [], none, [] => none

/-- At most `n` steps. -/
def mgcRun : Nat → State → State
  | 0, s => s
  | n + 1, s =>
    match mgcStep s with
    | some t => mgcRun n t
    | none => s

/-- Everything that can run runs: a frame takes at most 255 records, its start and its end. -/
def pump (s : State) : State := mgcRun (258 * (s.cap.inbox.length + 1) + s.cap.clientWait.length) s

/-- A frame that has arrived is counted and waits its turn (R58, R100). R58 speaks of the CAP port; the frames of the service
port count too (DESIGN CHOICE, log entry 20). -/
def queueFrame (s : State) (f : TxFrame) : State := pump ((s.count 0x010004 1 64 1).setCap fun c => { c with inbox := c.inbox ++ [f] })

/-- Whether CAP answers at all: before it does, a frame is neither answered nor counted (R101). -/
def capAnswers (s : State) : Bool := s.cap.phase != .off && s.cap.phase != .booting

/-- A datagram arrives at management port `k`. -/
def arrive (s : State) (port : MgtPort) (k : Nat) (d : Datagram) : State :=
  if !capAnswers s ∨ !reaches s k d then s
  else if strayGroup s d then s.count 0x010004 1 64 1
  else queueFrame s { port := port, ip := d.srcIp, udp := d.srcUdp, bytes := d.bytes }

/-- A SEND on the service port (R491): discarded while a request is in progress or a response is unread. -/
def serviceSend (s : State) (b : List Byte) : State :=
  if !capAnswers s then s
  else if s.upd.svcReq ∨ s.upd.svcRsp.isSome then s.count 0x100000 0x0E 32 1
  else queueFrame { s with upd := { s.upd with svcReq := true } } { port := .svc, ip := List.replicate 16 0, udp := 0, bytes := b }

/-! ### The rows -/

/-- CAP_FRAME (R59). -/
def execCapFrame (port : MgtPort) (d : Datagram) (s : State) : Out :=
  .next (match port with
  | .mgtA => arrive s .mgtA 0 d
  | .mgtB => arrive s .mgtB 1 d
  | .svc => serviceSend s d.bytes)

/-- SEG_WRITE_TIMEOUT (R67). -/
def execSegWriteTimeout (who : Who) (key : Nat) (s : State) : Out :=
  .next (match s.cap.staged.find? fun x => x.who = who ∧ x.key = key with
  | none => s
  | some x => dropStaged (s.waitUntil (x.since + 10 * second)) fun y => y.who = who ∧ y.key = key)

/-- CACHE_ENTRY_EXPIRY (R64): the oldest response with a transaction number leaves its cache, a second after it was sent. -/
def execCacheEntryExpiry (sess : Option (Fin 8)) (trans : Nat) (s : State) : Out :=
  .next (match sess with
  | some n =>
    match (s.ses n.val).cache.find? fun x => x.trans = trans with
    | none => s
    | some x => (s.waitUntil (x.since + second)).setSes n.val fun y => { y with cache := y.cache.erase x }
  | none =>
    match s.cap.cache0.find? fun x => x.trans = trans with
    | none => s
    | some x => (s.waitUntil (x.since + second)).setCap fun c => { c with cache0 := c.cache0.erase x })

/-- MCAST_DUPLICATE_WINDOW_END (R71). -/
def execMcastDuplicateWindowEnd (g : Fin 16) (trans : Nat) (s : State) : Out :=
  .next (match s.cap.dups.find? fun d => d.group = g.val ∧ d.trans = trans with
  | none => s
  | some d => (s.waitUntil (d.since + second)).setCap fun c => { c with dups := c.dups.erase d })

/-- MCAST_ANSWER_RELEASE (R72). -/
def execMcastAnswerRelease (g : Fin 16) (trans : Nat) (s : State) : Out :=
  .next (match s.cap.answers.find? fun a => a.group = g.val ∧ a.trans = trans with
  | none => s
  | some a => emit ((s.waitUntil a.due).setCap fun c => { c with answers := c.answers.erase a }) a.frame)

/-- BRIDGE_RESPONSE (R79): the design answers on the server port; `late` where it answers a request that has timed out. The
last word of the request was taken `taken` cycles after the port presented it. -/
def execBridgeResponse (late : Bool) (taken status : Nat) (v : PortValue) (s : State) : Out :=
  .next (if late then s else pump (takeResponse s taken (status % 2 ^ 16) (portBytes v)))

/-- BRIDGE_TIMEOUT (R79). -/
def execBridgeTimeout (taken : Nat) (s : State) : Out :=
  .next (match s.cap.bridge with
  | none => s
  | some r => pump (timeOutReq (s.waitUntil (r.since + taken + bridgeNs s))))

/-- CLIENT_PORT_REQUEST (R81). -/
def execClientPortRequest (b : Fin 4) (key : Nat) (write : Bool) (v : PortValue) (s : State) : Out :=
  .next (if !s.clocksRun ∨ clientBusy s b then s
  else
    let x : ClientReq := { bolt := b.val, key := key, write := write, data := if write then portBytes v else [] }
    pump (s.setCap fun c => { c with clients := c.clients.set b.val none, clientWait := c.clientWait ++ [x] }))

/-- MGC_CONFIRM (R497): requests that waited for the MGC are served. -/
def execMgcConfirm (s : State) : Out := .next (pump (confirmFirmware s))

/-- CONFIRM_TIMEOUT (R497). -/
def execConfirmTimeout (s : State) : Out := .next (pump (confirmTimeout s))

/-- SVC_SEND (R491). -/
def execSvcSend (bytes : List Byte) (s : State) : Out := .next (serviceSend s bytes)

/-- SVC_RECEIVE (R491): a length, then the response. -/
def execSvcReceive (s : State) : Out :=
  .next (if !s.pwr.mgcOn then s
  else match s.upd.svcRsp with
  | some b => { s with upd := { s.upd with svcOut := be 2 b.length ++ b, svcRsp := none } }
  | none => { s with upd := { s.upd with svcOut := be 2 0 } })

/-- SVC_POLL (R491): request in progress, response ready. -/
def execSvcPoll (s : State) : Out :=
  .next (if !s.pwr.mgcOn then s
  else { s with
    upd := { s.upd with
      svcOut := be 1 ((if s.upd.svcReq then 2 else 0) + (if s.upd.svcRsp.isSome then 1 else 0)) } })

end Sys2Proof.Machine
end

