-- ==== Sys2Proof/Machine/Picks.lean ====
section
/-! DEFINITION. Pick and beat boundaries, the selvage window and its tasks, take arming (R8 to R18, R23, R28, R65). -/

namespace Sys2Proof.Machine

/-! ### Timed commands at their pick (R27, R28, R65) -/

/-- The request behind a timed command. -/
def cmdReq (c : TimedCmd) : Req := { who := c.who, crit := true, toe := .pick c.pick, trans := c.trans }

/-- A command whose effect ends later reports then: a swap at its switch, a restore at its end, a change of operating point at the end
of its step (R241, R293, R424). -/
def holdCmd (s : State) (c : TimedCmd) : State :=
  if c.key = ent 0x090000 1 then { s with noc := { s.noc with swapCmds := s.noc.swapCmds ++ [c] } }
  else if domIdx 0 ≤ c.key / 256 ∧ c.key / 256 ≤ domIdx 7 then s.setDom (c.key / 256 - domIdx 0) fun x => { x with carried := x.carried ++ [c] }
  else if 0x050800 ≤ c.key / 256 ∧ c.key / 256 ≤ 0x0508B1 then s.setSub (c.key / 256 - 0x050800) fun x => { x with cmd := some c }
  else s

/-- A timed command executes at its pick and completes with its status (R65); one on a user entry goes to the design. -/
def executeAt (s : State) (c : TimedCmd) : State :=
  if isUser c.key then userAtPick s c
  else
    let d := applyWrite s true (cmdReq c) c.key c.val (ruleOf c.key)
    if d.later then holdCmd d.s c else finishCmd d.s c d.status

/-- Whether a command counts the picks of its own target's time base: takes, shuttle starts, and the increment and steps of
a time base; every other one counts ruling picks (R19). -/
def ownBase (c : TimedCmd) : Bool :=
  (takeEngine c.key).isSome || (runShuttle c.key).isSome
    || (tbIdx 0 ≤ c.key / 256 && c.key / 256 ≤ tbIdx 7 && 5 ≤ c.key % 256 && c.key % 256 ≤ 7)

/-- Take commands out of those that wait. -/
def takeOut (s : State) (p : TimedCmd → Bool) : State :=
  { s with ruling := { s.ruling with timed := s.ruling.timed.filter fun c => !p c } }

/-! ### Selvage tasks (R12 to R17) -/

/-- The object of a task as events name it: the index of its record (R14). -/
def taskObject : TaskKind → Nat → Nat
  | .firmware, _ => 0x100100
  | .seamChan, c | .mend, c => 0x0D0100 + c
  | .nocLink, l => 0x090200 + l
  | .engine, e => 0x070010 + e
  | .cluster, c => 0x080400 + c
  | .hem, p => 0x0C0100 + p

/-- The selvage task that a timed command asks for, with its place in the order of acceptance. -/
def timedTask (c : TimedCmd) (order : Nat) : Option Task :=
  if valNum c.val = 1 then (taskOf c.key).map fun k => { kind := k.1, obj := k.2, cmd := some c, order := order } else none

/-- Put a task into the window's order: by rank, then in order of acceptance (R14). -/
def insertTask (t : Task) : List Task → List Task
  | [] => [t]
  | x :: r =>
    if taskRank t.kind < taskRank x.kind ∨ (taskRank t.kind = taskRank x.kind ∧ t.order < x.order) then t :: x :: r
    else x :: insertTask t r

/-- An untimed task that does not run in this window (R17): TASK_DEFERRED, event 112h. -/
def deferTask (s : State) (u : Untimed) : State × Untimed :=
  let u := { u with
    deferred := u.deferred + 1
    starvedAt := if u.deferred + 1 = 8 then s.ruling.windows else u.starvedAt }
  ((s.latchBits 0x030000 9 4).raise 0x112 0
    (be 1 (taskRank u.kind) ++ be 4 (taskObject u.kind u.obj) ++ be 1 (min 255 u.deferred)), u)

/-- Untimed tasks in order of acceptance (R17): those that fit the room left run, the others and those on the same object
are deferred. -/
def fitTasks (s : State) : List Untimed → Nat → List Nat → State
  | [], _, _ => s
  | u :: r, room, held =>
    let obj := taskObject u.kind u.obj
    if taskCost u.kind ≤ room ∧ !held.contains obj then
      let t : Task := { kind := u.kind, obj := u.obj, order := u.order }
      fitTasks { s with ruling := { s.ruling with sched := insertTask t s.ruling.sched } } r (room - taskCost u.kind) held
    else
      let d := deferTask s u
      let s := d.1
      fitTasks { s with ruling := { s.ruling with untimed := s.ruling.untimed ++ [d.2] } } r room (obj :: held)

/-- The schedule of a window is frozen: `reserved` is what the commands of the pick reserved (R14, R16, R17). -/
def freezeTasks (s : State) (reserved : Nat) : State :=
  let us := s.ruling.untimed
  fitTasks { s with ruling := { s.ruling with untimed := [] } } us (s.capacity - reserved) []

/-- Put the selvage task of a timed command into the schedule. -/
def scheduleTask (s : State) (t : Task) : State :=
  { s with ruling := { s.ruling with sched := insertTask t s.ruling.sched } }

/-- The effect of a task at the end of its slot; the status it completes with, and whether it completes later. -/
def taskEffect (s : State) (t : Task) : State × Nat × Bool :=
  let verdict := fun (o : Option State) => match o with
    | some u => (u, stOk, false)
    | none => (s, stBusy, false)
  match t.kind with
  | .firmware => activateFirmware s t.cmd
  | .seamChan => verdict (reinstateChan s t.obj)
  | .nocLink => verdict (reinstateLink s t.obj)
  | .engine => verdict (reinstateEngine s t.obj)
  | .cluster => verdict (reinstateCluster s t.obj)
  | .mend => (mendPlanned s t.obj, stOk, false)
  | .hem => if s.panel t.obj = pnPending then (releasePanel s t.obj, stOk, false) else (s, stTargetUnavailable, false)

/-- A route-table swap scheduled for this pick has completed before the task slots begin (R14). -/
def settleSwap (s : State) : State := if s.noc.swapDue then swapTables (s.waitUntil (s.ruling.windowAt + swapNs)) else s

/-- The first scheduled task runs: its slot lasts its cost, and its effect stands at the end (R14, R15). -/
def runTask (s : State) : State :=
  let s := settleSwap s
  match s.ruling.sched with
  | [] => s
  | t :: r =>
    let s := s.waitUntil (s.ruling.taskAt + taskCost t.kind)
    let s := { s with ruling := { s.ruling with sched := r, taskAt := s.ruling.taskAt + taskCost t.kind } }
    let d := taskEffect s t
    if d.2.2 then d.1 else completeCmd d.1 t.cmd d.2.1

/-- Every task still scheduled runs. -/
def runTasks (s : State) : Nat → State
  | 0 => s
  | n + 1 => runTasks (runTask s) n

/-- A row of one kind of task and object runs where it is the next of an open window. -/
def runTaskAs (s : State) (k : TaskKind) (obj : Nat) : State :=
  match s.ruling.sched with
  | t :: _ => if s.ruling.window ∧ t.kind = k ∧ t.obj = obj then runTask s else s
  | [] => s

/-! ### Takes (R14, R15, R18, R345) -/

/-- Takes armed and the lowest flow of an engine: event 480h. -/
def takeReport (s : State) (n e : Nat) (done : List Nat) : State :=
  let fs := (done.filter fun k => takeEngine k = some e).map fun k => (k / 256 - 0x074000) % 4096
  match fs with
  | [] => s
  | f :: r => s.raise 0x480 e (be 8 n ++ be 2 (f :: r).length ++ be 2 (r.foldl min f))

/-- Whether a command is a take for pick `n` of time base `t`. -/
def takeDue (t n : Nat) (c : TimedCmd) : Bool := c.tb == t && c.pick == n && (takeEngine c.key).isSome

/-- The takes of a pick execute; event 480h for each engine that armed any. -/
def armTakes (s : State) (t n : Nat) : State :=
  let cs := orderCmds (s.ruling.timed.filter (takeDue t n))
  let r := cs.foldl (fun (a : State × List Nat) c =>
    let d := applyWrite a.1 true (cmdReq c) c.key c.val (ruleOf c.key)
    (finishCmd d.s c d.status, if d.status = stOk then a.2 ++ [c.key] else a.2)) (takeOut s (takeDue t n), [])
  (List.range 8).foldl (fun s e => takeReport s n e r.2) r.1

/-- Take arming of a ruling pick: the last slot of the window. -/
def takeSlot (s : State) : State :=
  let t := s.rulingTb
  let n := s.pick t
  let cost := takeCost (dedupKeys ((s.ruling.timed.filter (takeDue t n)).map (·.key)))
  if cost = 0 then s
  else
    let s := s.waitUntil (s.ruling.taskAt + cost)
    armTakes { s with ruling := { s.ruling with taskAt := s.ruling.taskAt + cost } } t n

/-- The window closes at its length, its tasks done (R14): the selvage pins release. R13 does not say what a write of the
length does to a window that is open: it closes at the length that holds then (DESIGN CHOICE, log entry 17). -/
def closeWindow (s : State) : State :=
  if !s.ruling.window then s
  else
    let s := settleSwap s
    let s := takeSlot (runTasks s s.ruling.sched.length)
    let s := s.waitUntil (max (s.ruling.windowAt + s.windowNs) s.ruling.taskAt)
    closePins (finishSteps { s with ruling := { s.ruling with window := false } })

/-! ### Boundaries (R9, R11, R14, R23) -/

/-- Strobes of a time base leave the bolt receivers (R36): TICK_BEAT, and TICK_PICK at a pick boundary, beside those of the
same cycle. -/
def strobe (s : State) (t : Nat) (pick : Bool) : State :=
  let held := fun v : Nat => if s.ruling.strobeAt = s.now then v else 0
  { s with
    ruling := { s.ruling with
      strobeAt := s.now
      tickPick := held s.ruling.tickPick ||| (if pick then 2 ^ t else 0)
      tickBeat := held s.ruling.tickBeat ||| 2 ^ t } }

/-- TICK_PICK, TICK_BEAT, TICK_SELVAGE and TICK_PNUM as the bolt receivers present them now (R36): strobes last the cycle of
their boundary, and the pick number is valid with the ruling strobe. -/
def ticksNow (s : State) : Nat × Nat × Bool × Nat :=
  let held := fun v : Nat => if s.ruling.strobeAt = s.now then v else 0
  (held s.ruling.tickPick, held s.ruling.tickBeat, s.ruling.window, s.ruling.tickPnum)

/-- A new pick: its number and boundary time are current, beat 0 begins, strobes leave, and starts bound to beat 0 are due
128 ns later (R9, R14, R36). -/
def beginPick (s : State) (t n : Nat) : State :=
  let s := (((finishSteps s).put (genIdx t) 5 n).put (genIdx t) 6 (s.tb t).ns).put (genIdx t) 7 0
  let s := s.setTb t fun b => { b with high := n + 1, opened := true, beat := 0 }
  let rel : StartRel := { due := s.now + 128, tb := t, pick := n }
  strobe { s with
    ruling := { s.ruling with
      releases := s.ruling.releases ++ [rel]
      tickPnum := if t = s.rulingTb then n % 2 ^ 16 else s.ruling.tickPnum } } t true

/-- The BEAT source of the shuttles whose run is bound to a time base (R375). -/
def beatSource (s : State) (t : Nat) : State :=
  if s.pwr.halted then s
  else (List.range 512).foldl (fun s h => if s.shState h = shRunning ∧ (s.sh h).tb = t then pend s h 11 else s) s

/-- Commands of a pick that a boundary executes at once: not shuttle starts, which wait for their release, nor tasks and
takes of a ruling pick, which wait for their slots. -/
def atBoundary (ruled : Bool) (t n : Nat) (c : TimedCmd) : Bool :=
  c.tb == t && c.pick == n && (runShuttle c.key).isNone && (!ruled || (takeEngine c.key).isNone)

/-- One command of a ruling pick: a task is scheduled, anything else executes. -/
def rulingCmd (s : State) (c : TimedCmd) (order : Nat) : State :=
  match timedTask c order with
  | some t => scheduleTask s t
  | none => executeAt s c

/-- A selvage window opens on pick `n` (R14): status is latched, the commands of the pick execute, frequency steps, the
route swap and the start-up that wait for a tick are due, and the task schedule is frozen. -/
def openWindow (s : State) (n : Nat) : State :=
  let t := s.rulingTb
  let s := { s with
    ruling := { s.ruling with bridge := false, window := true, windows := s.ruling.windows + 1, windowAt := s.now, taskAt := s.now + 500, sched := [] } }
  let s := closePickBytes s
  let reserved := costOf (pendingFor s t n)
  let mine := s.ruling.timed.filter (atBoundary true t n)
  let due := (orderCmds mine).zip (mine.map (·.order))
  let s := (List.range 8).foldl windowDomain (takeOut s (atBoundary true t n))
  let s := due.foldl (fun s c => rulingCmd s c.1 c.2) s
  let s := latchStatus s
  let s := (List.range 8).foldl tickDomain s
  let s := windowSpread ((List.range 32).foldl windowUloop s)
  let s := if s.noc.swapPend ∧ s.num 0x090000 2 = 1 then
      { s with noc := { s.noc with swapDue := true, swapPend := false } } else s
  let s := if s.cfgState = csWaitTick ∧ s.cfg.startAt = none then
      { s with cfg := { s.cfg with startAt := some s.now, startTick := some n } } else s
  let s := if s.upd.revert then revertFirmware s else s
  freezeTasks s reserved

/-- Pick `n` of a time base that is not ruling opens (R18): its commands execute; one that counts ruling picks no longer
meets one, and ends with TOO_LATE (log entry 17). -/
def openPlain (s : State) (t n : Nat) : State :=
  let due := orderCmds (s.ruling.timed.filter fun c => atBoundary false t n c && (takeEngine c.key).isNone)
  let s := takeOut s fun c => atBoundary false t n c && (takeEngine c.key).isNone
  let s := due.foldl (fun s c => if ownBase c then executeAt s c else freeCancelled (finishCmd s c stTooLate) [c]) s
  armTakes s t n

/-- Pick `n` of time base `t` opens; `ruled` where it opens a window. -/
def openPick (s : State) (t n : Nat) (ruled : Bool) : State :=
  let first := !(s.tb t).opened
  let s := beatSource (beginPick s t n) t
  if ruled then openWindow (if first then s.raise 0x110 t (be 1 t) else s) n else openPlain s t n

/-- Commands for picks that new settings will not open end with TOO_LATE (log entry 17). -/
def lapsePicks (s : State) (t n : Nat) : State :=
  let lost := fun c : TimedCmd => decide (c.tb = t ∧ c.pick < n)
  let gone := s.ruling.timed.filter lost
  let s := if gone.any isActivate then cancelActivation s stTooLate else s
  freeCancelled (cancelTimed s lost stTooLate) gone

/-- The next boundary of a time base (R9, R23): it opens its pick, or meets the change that waited for it. -/
def boundary (s : State) (t : Nat) : State :=
  let ruled := decide (t = s.rulingTb)
  let s := if ruled then closeWindow s else s
  let b := s.tb t
  let s := s.waitTb t (b.cur.start b.high)
  let moves := ruled && s.ruling.newRuling.isSome
  let s := if moves then switchRuling s else s
  let ruled := ruled && !moves
  match b.want with
  | some p =>
    let n := b.firstUnder p
    let s := takeSettings (lapsePicks s t n) t p n
    if p.start n ≤ (s.tb t).time then openPick s t n ruled else if ruled then beginBridge s t else s
  | none => openPick s t b.high ruled

/-- PICK_BOUNDARY: where the ruling base's boundary falls in the same cycle and the ruling moves to this base, that boundary
counts first (R23). -/
def pickBoundary (s : State) (t : Nat) : State :=
  if !(s.tb t).armed then s
  else
    let target := (s.tb t).cur.start (s.tb t).high
    let s := if s.ruling.newRuling = some t then
        let s := s.waitTb t target
        if boundaryDue s s.rulingTb then boundary s s.rulingTb else s
      else s
    boundary s t

/-- The next beat of the current pick begins (R11, R36). -/
def beatBoundary (s : State) (t : Nat) : State :=
  let b := s.tb t
  let k := b.beat + 1
  if !b.armed ∨ !b.opened ∨ b.cur.beats ≤ k then s
  else
    let n := s.pick t
    let s := (s.waitTb t (b.cur.beatStart n k)).setTb t fun b => { b with beat := k }
    let s := s.put (genIdx t) 7 k
    let rel : StartRel := { due := s.now + 128, tb := t, pick := n, beat := k }
    beatSource (strobe { s with ruling := { s.ruling with releases := s.ruling.releases ++ [rel] } } t false) t

/-! ### The rows -/

/-- PICK_BOUNDARY (R9): a revert in its window serves what waited for the MGC (R497). -/
def execPickBoundary (t : Fin 8) (s : State) : Out := .next (pump (pickBoundary s t))

/-- BEAT_BOUNDARY (R11). -/
def execBeatBoundary (t : Fin 8) (s : State) : Out := .next (beatBoundary s t)

/-- FIRMWARE_ACTIVATION (R496). -/
def execFirmwareActivation (s : State) : Out := .next (runTaskAs s .firmware 0)

/-- SEAM_CHANNEL_REINSTATEMENT (R190). -/
def execSeamChannelReinstatement (c : Fin 256) (s : State) : Out := .next (runTaskAs s .seamChan c)

/-- NOC_LINK_REINSTATEMENT (R431). -/
def execNocLinkReinstatement (l : Fin 160) (s : State) : Out := .next (runTaskAs s .nocLink l)

/-- ENGINE_REINSTATEMENT (R358). -/
def execEngineReinstatement (e : Fin 8) (s : State) : Out := .next (runTaskAs s .engine e)

/-- CLUSTER_REINSTATEMENT (R391). -/
def execClusterReinstatement (c : Fin 64) (s : State) : Out := .next (runTaskAs s .cluster c)

/-- PLANNED_SEAM_MEND (R186). -/
def execPlannedSeamMend (c : Fin 256) (s : State) : Out := .next (runTaskAs s .mend c)

/-- HEM_RELEASE (R167). -/
def execHemRelease (p : Fin 64) (s : State) : Out := .next (runTaskAs s .hem p)

/-- TAKE_ARMING (R14): the last slot, after every other task of the window. -/
def execTakeArming (s : State) : Out := .next (if s.ruling.window ∧ s.ruling.sched = [] then takeSlot (settleSwap s) else s)

/-- SELVAGE_WINDOW_CLOSE (R14). -/
def execSelvageWindowClose (s : State) : Out := .next (closeWindow s)

end Sys2Proof.Machine
end

