-- ==== Sys2Proof/Machine/Cycle.lean ====
section
/-! DEFINITION. A cycle of the timing loop in which no command waits (log entry 1). -/

namespace Sys2Proof.Machine

/-- A cycle of the timing loop: time bases count, the seams and the fabric clocks on timing-loop taps move on (R175, R207), and a
route-table swap at the end of its slot takes place (R14). -/
def idleCycle (s : State) : State :=
  let s := fabricCycle (finishSteps (s.pass 1))
  if s.noc.swapDue ∧ s.ruling.window ∧ s.ruling.windowAt + swapNs ≤ s.now then swapTables s else s

end Sys2Proof.Machine
end

