-- ==== Sys2Proof/Machine/Dispatch.lean ====
section
/-! DEFINITION. Every command's meaning: one arm per row of the table. -/

namespace Sys2Proof.Machine

def exec (i : Instr) (s : State) : Host.Outcome State Fault Refusal :=
  match i with
  | .pickBoundary t => Sys2Proof.Machine.execPickBoundary t s
  | .beatBoundary t => Sys2Proof.Machine.execBeatBoundary t s
  | .shuttleStartRelease => Sys2Proof.Machine.execShuttleStartRelease s
  | .firmwareActivation => Sys2Proof.Machine.execFirmwareActivation s
  | .seamChannelReinstatement c => Sys2Proof.Machine.execSeamChannelReinstatement c s
  | .nocLinkReinstatement l => Sys2Proof.Machine.execNocLinkReinstatement l s
  | .engineReinstatement e => Sys2Proof.Machine.execEngineReinstatement e s
  | .clusterReinstatement c => Sys2Proof.Machine.execClusterReinstatement c s
  | .plannedSeamMend c => Sys2Proof.Machine.execPlannedSeamMend c s
  | .hemRelease p => Sys2Proof.Machine.execHemRelease p s
  | .takeArming => Sys2Proof.Machine.execTakeArming s
  | .selvageWindowClose => Sys2Proof.Machine.execSelvageWindowClose s
  | .selvageStatusDrive => Sys2Proof.Machine.execSelvageStatusDrive s
  | .gpiSample levels brief => Sys2Proof.Machine.execGpiSample levels brief s
  | .selvageUserPhaseResume => Sys2Proof.Machine.execSelvageUserPhaseResume s
  | .rulingSelectionWrite r v => Sys2Proof.Machine.execRulingSelectionWrite r v s
  | .windowLengthWrite r v => Sys2Proof.Machine.execWindowLengthWrite r v s
  | .capFrame port d => Sys2Proof.Machine.execCapFrame port d s
  | .segWriteTimeout who key => Sys2Proof.Machine.execSegWriteTimeout who key s
  | .cacheEntryExpiry sess tr => Sys2Proof.Machine.execCacheEntryExpiry sess tr s
  | .mcastDuplicateWindowEnd g tr => Sys2Proof.Machine.execMcastDuplicateWindowEnd g tr s
  | .mcastAnswerRelease g tr => Sys2Proof.Machine.execMcastAnswerRelease g tr s
  | .bridgeResponse late taken status v => Sys2Proof.Machine.execBridgeResponse late taken status v s
  | .bridgeTimeout taken => Sys2Proof.Machine.execBridgeTimeout taken s
  | .clientPortRequest b key write v => Sys2Proof.Machine.execClientPortRequest b key write v s
  | .halfOpenExpiry n => Sys2Proof.Machine.execHalfOpenExpiry n s
  | .sessionIdleTimeout n => Sys2Proof.Machine.execSessionIdleTimeout n s
  | .forceClose r n v => Sys2Proof.Machine.execForceClose r n v s
  | .hostKeyWrite r k bytes => Sys2Proof.Machine.execHostKeyWrite r k bytes s
  | .curatorKeyInstall bytes => Sys2Proof.Machine.execCuratorKeyInstall bytes s
  | .keySlotEnable r k v => Sys2Proof.Machine.execKeySlotEnable r k v s
  | .groupKeyWrite r g bytes => Sys2Proof.Machine.execGroupKeyWrite r g bytes s
  | .assignmentRangeWrite r q sub bytes => Sys2Proof.Machine.execAssignmentRangeWrite r q sub bytes s
  | .deviceCounterExhausted n => Sys2Proof.Machine.execDeviceCounterExhausted n s
  | .eventRecord => Sys2Proof.Machine.execEventRecord s
  | .notificationSend n => Sys2Proof.Machine.execNotificationSend n s
  | .fabricEventRaise b num xlen data => Sys2Proof.Machine.execFabricEventRaise b num xlen data s
  | .fabricEventTake b => Sys2Proof.Machine.execFabricEventTake b s
  | .evtClr b line raised => Sys2Proof.Machine.execEvtClr b line raised s
  | .longOpStart r k kind target params => Sys2Proof.Machine.execLongOpStart r k kind target params s
  | .longOpSuspend r k => Sys2Proof.Machine.execLongOpSuspend r k s
  | .longOpResume r k => Sys2Proof.Machine.execLongOpResume r k s
  | .longOpCancel r k => Sys2Proof.Machine.execLongOpCancel r k s
  | .longOpRelease r k => Sys2Proof.Machine.execLongOpRelease r k s
  | .longOpTargetAvailable k => Sys2Proof.Machine.execLongOpTargetAvailable k s
  | .longOpSafePoint k => Sys2Proof.Machine.execLongOpSafePoint k s
  | .longOpWorkComplete k data => Sys2Proof.Machine.execLongOpWorkComplete k data s
  | .longOpUndoComplete k => Sys2Proof.Machine.execLongOpUndoComplete k s
  | .longOpError k status detail => Sys2Proof.Machine.execLongOpError k status detail s
  | .powerGood xoSel pullSel => Sys2Proof.Machine.execPowerGood xoSel pullSel s
  | .vccMgcLow => Sys2Proof.Machine.execVccMgcLow s
  | .capServiceStart => Sys2Proof.Machine.execCapServiceStart s
  | .vaultUnsealed => Sys2Proof.Machine.execVaultUnsealed s
  | .allAreasServed => Sys2Proof.Machine.execAllAreasServed s
  | .regulatorSilent b rail => Sys2Proof.Machine.execRegulatorSilent b rail s
  | .voltageReadback d mv => Sys2Proof.Machine.execVoltageReadback d mv s
  | .railOutOfTolerance rail mv => Sys2Proof.Machine.execRailOutOfTolerance rail mv s
  | .devReset lowNs => Sys2Proof.Machine.execDevReset lowNs s
  | .devResetRelease pullSel => Sys2Proof.Machine.execDevResetRelease pullSel s
  | .thermalWarning b sensor temp => Sys2Proof.Machine.execThermalWarning b sensor temp s
  | .thermalTrip b sensor temp => Sys2Proof.Machine.execThermalTrip b sensor temp s
  | .thermalHoldEnd temp => Sys2Proof.Machine.execThermalHoldEnd temp s
  | .clearWrite r v => Sys2Proof.Machine.execClearWrite r v s
  | .clearComplete mode initHigh => Sys2Proof.Machine.execClearComplete mode initHigh s
  | .cfgSelNFall => Sys2Proof.Machine.execCfgSelNFall s
  | .syncWord port => Sys2Proof.Machine.execSyncWord port s
  | .bitstreamHeader port ws => Sys2Proof.Machine.execBitstreamHeader port ws s
  | .bitstreamFrame port ws contends => Sys2Proof.Machine.execBitstreamFrame port ws contends s
  | .endWord port trailer design => Sys2Proof.Machine.execEndWord port trailer design s
  | .endChecksDone port => Sys2Proof.Machine.execEndChecksDone port s
  | .earlyEnd port => Sys2Proof.Machine.execEarlyEnd port s
  | .seamTrainingComplete failed => Sys2Proof.Machine.execSeamTrainingComplete failed s
  | .startup => Sys2Proof.Machine.execStartup s
  | .flipflopHoldLift => Sys2Proof.Machine.execFlipflopHoldLift s
  | .userIoRelease => Sys2Proof.Machine.execUserIoRelease s
  | .cfgDoneRelease => Sys2Proof.Machine.execCfgDoneRelease s
  | .icpLoadBegin b => Sys2Proof.Machine.execIcpLoadBegin b s
  | .icpIsolate b mask => Sys2Proof.Machine.execIcpIsolate b mask s
  | .isolate r p v => Sys2Proof.Machine.execIsolate r p v s
  | .release r p v => Sys2Proof.Machine.execRelease r p v s
  | .checkWireMismatch c cycle wires => Sys2Proof.Machine.execCheckWireMismatch c cycle wires s
  | .wireFailureDeclared c k => Sys2Proof.Machine.execWireFailureDeclared c k s
  | .failedWireLocalised c wire last => Sys2Proof.Machine.execFailedWireLocalised c wire last s
  | .suddenMendComplete c dur => Sys2Proof.Machine.execSuddenMendComplete c dur s
  | .channelNarrowed c dur => Sys2Proof.Machine.execChannelNarrowed c dur s
  | .wirePredicted c wire margin => Sys2Proof.Machine.execWirePredicted c wire margin s
  | .darningShadowTrained c wire => Sys2Proof.Machine.execDarningShadowTrained c wire s
  | .seamRetrain r c v => Sys2Proof.Machine.execSeamRetrain r c v s
  | .seamShadowReady c passed => Sys2Proof.Machine.execSeamShadowReady c passed s
  | .seamReinstate r c v => Sys2Proof.Machine.execSeamReinstate r c v s
  | .bramEccRead b m word portB flips => Sys2Proof.Machine.execBramEccRead b m word portB flips s
  | .qWrite q d readToo => Sys2Proof.Machine.execQWrite q d readToo s
  | .qRead q flips => Sys2Proof.Machine.execQRead q flips s
  | .qRst q level => Sys2Proof.Machine.execQRst q level s
  | .qThrWe q d => Sys2Proof.Machine.execQThrWe q d s
  | .clockMuxSwitch drv toB oldEdge newEdge => Sys2Proof.Machine.execClockMuxSwitch drv toB oldEdge newEdge s
  | .muxSourceTimeout drv newSource => Sys2Proof.Machine.execMuxSourceTimeout drv newSource s
  | .dividerChange drv n => Sys2Proof.Machine.execDividerChange drv n s
  | .ceFall drv => Sys2Proof.Machine.execCeFall drv s
  | .ceRise drv => Sys2Proof.Machine.execCeRise drv s
  | .portIdleReport g => Sys2Proof.Machine.execPortIdleReport g s
  | .gateIdleTimeout drv => Sys2Proof.Machine.execGateIdleTimeout drv s
  | .bankUnpowered b k => Sys2Proof.Machine.execBankUnpowered b k s
  | .bankPowered b k => Sys2Proof.Machine.execBankPowered b k s
  | .tally r p v => Sys2Proof.Machine.execTally r p v s
  | .sourceLost src => Sys2Proof.Machine.execSourceLost src s
  | .sourceQualified src => Sys2Proof.Machine.execSourceQualified src s
  | .refSel r v => Sys2Proof.Machine.execRefSel r v s
  | .xoInLost => Sys2Proof.Machine.execXoInLost s
  | .xoInReturned => Sys2Proof.Machine.execXoInReturned s
  | .timingLoopLocked offset => Sys2Proof.Machine.execTimingLoopLocked offset s
  | .tlRelock r v => Sys2Proof.Machine.execTlRelock r v s
  | .singleOpLoopUnlock loop => Sys2Proof.Machine.execSingleOpLoopUnlock loop s
  | .loopAcquireRetry loop ok => Sys2Proof.Machine.execLoopAcquireRetry loop ok s
  | .targetOp r d v => Sys2Proof.Machine.execTargetOp r d v s
  | .raiseRampStart d => Sys2Proof.Machine.execRaiseRampStart d s
  | .untimedRaiseAbandon d => Sys2Proof.Machine.execUntimedRaiseAbandon d s
  | .lowerVoltageWrite d => Sys2Proof.Machine.execLowerVoltageWrite d s
  | .mainLoopUnlock d => Sys2Proof.Machine.execMainLoopUnlock d s
  | .mainLoopRelock d => Sys2Proof.Machine.execMainLoopRelock d s
  | .domainAutoRestore d => Sys2Proof.Machine.execDomainAutoRestore d s
  | .domainClockStart d => Sys2Proof.Machine.execDomainClockStart d s
  | .userLoopUnlock l => Sys2Proof.Machine.execUserLoopUnlock l s
  | .userLoopAutoRestore l => Sys2Proof.Machine.execUserLoopAutoRestore l s
  | .userLoopRestore r l v => Sys2Proof.Machine.execUserLoopRestore r l v s
  | .gate r u v => Sys2Proof.Machine.execGate r u v s
  | .gateRequestTimeout u => Sys2Proof.Machine.execGateRequestTimeout u s
  | .spreadWrite r target v => Sys2Proof.Machine.execSpreadWrite r target v s
  | .increment r t v => Sys2Proof.Machine.execIncrement r t v s
  | .slew r t inc cycles => Sys2Proof.Machine.execSlew r t inc cycles s
  | .slewEnd t => Sys2Proof.Machine.execSlewEnd t s
  | .step r t ns => Sys2Proof.Machine.execStep r t ns s
  | .forceStep r t ns => Sys2Proof.Machine.execForceStep r t ns s
  | .stepApply t => Sys2Proof.Machine.execStepApply t s
  | .setTime r t ns => Sys2Proof.Machine.execSetTime r t ns s
  | .arm r t => Sys2Proof.Machine.execArm r t s
  | .disarm r t => Sys2Proof.Machine.execDisarm r t s
  | .snap r v => Sys2Proof.Machine.execSnap r v s
  | .pickGeneratorWrite r t sub bytes => Sys2Proof.Machine.execPickGeneratorWrite r t sub bytes s
  | .ptpEventTimestamp u egress frame => Sys2Proof.Machine.execPtpEventTimestamp u egress frame s
  | .servoPtpMessage t k domain source m => Sys2Proof.Machine.execServoPtpMessage t k domain source m s
  | .servoMode r t v => Sys2Proof.Machine.execServoMode r t v s
  | .triggerUnitWrite r u sub bytes => Sys2Proof.Machine.execTriggerUnitWrite r u sub bytes s
  | .compareInstant u => Sys2Proof.Machine.execCompareInstant u s
  | .triggerWidthEnd u => Sys2Proof.Machine.execTriggerWidthEnd u s
  | .captureEdge u rising => Sys2Proof.Machine.execCaptureEdge u rising s
  | .blockLockGain l blocks => Sys2Proof.Machine.execBlockLockGain l blocks s
  | .blockLockLoss l blocks => Sys2Proof.Machine.execBlockLockLoss l blocks s
  | .laneUnlockTimeout l => Sys2Proof.Machine.execLaneUnlockTimeout l s
  | .ladderWord l w => Sys2Proof.Machine.execLadderWord l w s
  | .rungStepTimeout l => Sys2Proof.Machine.execRungStepTimeout l s
  | .standardBringupDone l result => Sys2Proof.Machine.execStandardBringupDone l result s
  | .laserLit e power => Sys2Proof.Machine.execLaserLit e power s
  | .laserDark e power => Sys2Proof.Machine.execLaserDark e power s
  | .engineFault e cause enters temp => Sys2Proof.Machine.execEngineFault e cause enters temp s
  | .portMode r k sub v => Sys2Proof.Machine.execPortMode r k sub v s
  | .laneFailure l cause => Sys2Proof.Machine.execLaneFailure l cause s
  | .reformComplete sp dur => Sys2Proof.Machine.execReformComplete sp dur s
  | .reformPartnerTimeout sp => Sys2Proof.Machine.execReformPartnerTimeout sp s
  | .shadowLaneRetry l => Sys2Proof.Machine.execShadowLaneRetry l s
  | .laneShadowReady l => Sys2Proof.Machine.execLaneShadowReady l s
  | .restore r sp v => Sys2Proof.Machine.execRestore r sp v s
  | .restoreComplete sp => Sys2Proof.Machine.execRestoreComplete sp s
  | .restorePartnerTimeout sp => Sys2Proof.Machine.execRestorePartnerTimeout sp s
  | .mgtLinkChange m up speed => Sys2Proof.Machine.execMgtLinkChange m up speed s
  | .laneGroupStart ix => Sys2Proof.Machine.execLaneGroupStart ix s
  | .subportBinding r u v => Sys2Proof.Machine.execSubportBinding r u v s
  | .rxFrame u fcsOk bytes => Sys2Proof.Machine.execRxFrame u fcsOk bytes s
  | .rxFlowEnable r e f => Sys2Proof.Machine.execRxFlowEnable r e f s
  | .rxFlowDisable r e f => Sys2Proof.Machine.execRxFlowDisable r e f s
  | .packetRelease e f => Sys2Proof.Machine.execPacketRelease e f s
  | .flowStarve e f => Sys2Proof.Machine.execFlowStarve e f s
  | .legSilence e f legB => Sys2Proof.Machine.execLegSilence e f legB s
  | .legUp e f legB => Sys2Proof.Machine.execLegUp e f legB s
  | .marginSecondEnd e f => Sys2Proof.Machine.execMarginSecondEnd e f s
  | .readAheadStart e f => Sys2Proof.Machine.execReadAheadStart e f s
  | .storeFrameWritten e f => Sys2Proof.Machine.execStoreFrameWritten e f s
  | .essenceWordTaken e ix => Sys2Proof.Machine.execEssenceWordTaken e ix s
  | .txFlowEnable r e f => Sys2Proof.Machine.execTxFlowEnable r e f s
  | .txFlowDisable r e f => Sys2Proof.Machine.execTxFlowDisable r e f s
  | .transmitEssenceWord e ix tag data => Sys2Proof.Machine.execTransmitEssenceWord e ix tag data s
  | .ringSlotRead e f => Sys2Proof.Machine.execRingSlotRead e f s
  | .txDeparture e f => Sys2Proof.Machine.execTxDeparture e f s
  | .class0DiscardTimeout e f => Sys2Proof.Machine.execClass0DiscardTimeout e f s
  | .take r e f bytes => Sys2Proof.Machine.execTake r e f bytes s
  | .remove r e v => Sys2Proof.Machine.execRemove r e v s
  | .engineInternalFault e fault => Sys2Proof.Machine.execEngineInternalFault e fault s
  | .engineShadow r e v => Sys2Proof.Machine.execEngineShadow r e v s
  | .engineShadowReady e => Sys2Proof.Machine.execEngineShadowReady e s
  | .engineReinstate r e v => Sys2Proof.Machine.execEngineReinstate r e v s
  | .qMac h => Sys2Proof.Machine.execQMac h s
  | .aluNop h => Sys2Proof.Machine.execAluNop h s
  | .add h => Sys2Proof.Machine.execAdd h s
  | .sub h => Sys2Proof.Machine.execSub h s
  | .adds h => Sys2Proof.Machine.execAdds h s
  | .subs h => Sys2Proof.Machine.execSubs h s
  | .and h => Sys2Proof.Machine.execAnd h s
  | .or h => Sys2Proof.Machine.execOr h s
  | .xor h => Sys2Proof.Machine.execXor h s
  | .andn h => Sys2Proof.Machine.execAndn h s
  | .lsl h => Sys2Proof.Machine.execLsl h s
  | .lsr h => Sys2Proof.Machine.execLsr h s
  | .asr h => Sys2Proof.Machine.execAsr h s
  | .min h => Sys2Proof.Machine.execMin h s
  | .max h => Sys2Proof.Machine.execMax h s
  | .abs h => Sys2Proof.Machine.execAbs h s
  | .neg h => Sys2Proof.Machine.execNeg h s
  | .cmp h => Sys2Proof.Machine.execCmp h s
  | .tst h => Sys2Proof.Machine.execTst h s
  | .mov h => Sys2Proof.Machine.execMov h s
  | .padd24 h => Sys2Proof.Machine.execPadd24 h s
  | .psub24 h => Sys2Proof.Machine.execPsub24 h s
  | .padd12 h => Sys2Proof.Machine.execPadd12 h s
  | .psub12 h => Sys2Proof.Machine.execPsub12 h s
  | .mva h => Sys2Proof.Machine.execMva h s
  | .ldaw h => Sys2Proof.Machine.execLdaw h s
  | .clra h => Sys2Proof.Machine.execClra h s
  | .mvco h => Sys2Proof.Machine.execMvco h s
  | .mvci h => Sys2Proof.Machine.execMvci h s
  | .addci h => Sys2Proof.Machine.execAddci h s
  | .ldi h => Sys2Proof.Machine.execLdi h s
  | .movr h => Sys2Proof.Machine.execMovr h s
  | .ldm h => Sys2Proof.Machine.execLdm h s
  | .stm h => Sys2Proof.Machine.execStm h s
  | .ctrlNop h => Sys2Proof.Machine.execCtrlNop h s
  | .br h => Sys2Proof.Machine.execBr h s
  | .dbnz h => Sys2Proof.Machine.execDbnz h s
  | .rpt h => Sys2Proof.Machine.execRpt h s
  | .rptr h => Sys2Proof.Machine.execRptr h s
  | .wait h => Sys2Proof.Machine.execWait h s
  | .waitLimit h => Sys2Proof.Machine.execWaitLimit h s
  | .endRun h => Sys2Proof.Machine.execEndRun h s
  | .rti h => Sys2Proof.Machine.execRti h s
  | .invalidInstruction h => Sys2Proof.Machine.execInvalidInstruction h s
  | .instructionFetchDbe h => Sys2Proof.Machine.execInstructionFetchDbe h s
  | .interruptTake h => Sys2Proof.Machine.execInterruptTake h s
  | .runComplete h => Sys2Proof.Machine.execRunComplete h s
  | .shuttleEventInput h ix => Sys2Proof.Machine.execShuttleEventInput h ix s
  | .imageWrite r h bytes => Sys2Proof.Machine.execImageWrite r h bytes s
  | .dataMemoryWrite r h bytes => Sys2Proof.Machine.execDataMemoryWrite r h bytes s
  | .bindingEnable r h k v => Sys2Proof.Machine.execBindingEnable r h k v s
  | .run r h v => Sys2Proof.Machine.execRun r h v s
  | .mapout r h v => Sys2Proof.Machine.execMapout r h v s
  | .mailbox r h v => Sys2Proof.Machine.execMailbox r h v s
  | .rptCeiling r h v => Sys2Proof.Machine.execRptCeiling r h v s
  | .clusterReinstate r c v => Sys2Proof.Machine.execClusterReinstate r c v s
  | .shsInWord h port w => Sys2Proof.Machine.execShsInWord h port w s
  | .shsOutWord h port => Sys2Proof.Machine.execShsOutWord h port s
  | .fetchComplete h failAt => Sys2Proof.Machine.execFetchComplete h failAt s
  | .nocRequestAtTarget p way flips => Sys2Proof.Machine.execNocRequestAtTarget p way flips s
  | .nocResponseAtInitiator p way flips => Sys2Proof.Machine.execNocResponseAtInitiator p way flips s
  | .linkReplay l back k lane0 lane1 => Sys2Proof.Machine.execLinkReplay l back k lane0 lane1 s
  | .nocLaneFailed l lane transfers => Sys2Proof.Machine.execNocLaneFailed l lane transfers s
  | .linkNarrow l dur => Sys2Proof.Machine.execLinkNarrow l dur s
  | .nocTimeout ix tag => Sys2Proof.Machine.execNocTimeout ix tag s
  | .swap r v => Sys2Proof.Machine.execSwap r v s
  | .routeTableSwap => Sys2Proof.Machine.execRouteTableSwap s
  | .oldEpochDrained => Sys2Proof.Machine.execOldEpochDrained s
  | .linkRetrain r l v => Sys2Proof.Machine.execLinkRetrain r l v s
  | .linkShadowReady l ok => Sys2Proof.Machine.execLinkShadowReady l ok s
  | .linkReinstate r l v => Sys2Proof.Machine.execLinkReinstate r l v s
  | .targetNiDrained t => Sys2Proof.Machine.execTargetNiDrained t s
  | .statsClear r v => Sys2Proof.Machine.execStatsClear r v s
  | .fabricPortRequest b j p => Sys2Proof.Machine.execFabricPortRequest b j p s
  | .refreshDue c rank => Sys2Proof.Machine.execRefreshDue c rank s
  | .panicHoldEnd c => Sys2Proof.Machine.execPanicHoldEnd c s
  | .powerDownEntry c rank => Sys2Proof.Machine.execPowerDownEntry c rank s
  | .channelTracking c mr4 mr4Ok patternOk => Sys2Proof.Machine.execChannelTracking c mr4 mr4Ok patternOk s
  | .channelTrainingEnd c ranks density failedStep => Sys2Proof.Machine.execChannelTrainingEnd c ranks density failedStep s
  | .slotEnable r k => Sys2Proof.Machine.execSlotEnable r k s
  | .slotDisable r k => Sys2Proof.Machine.execSlotDisable r k s
  | .slotInitialised k => Sys2Proof.Machine.execSlotInitialised k s
  | .protectedReadChecked => Sys2Proof.Machine.execProtectedReadChecked s
  | .haltRecordCommit => Sys2Proof.Machine.execHaltRecordCommit s
  | .minorOverflowComplete k => Sys2Proof.Machine.execMinorOverflowComplete k s
  | .counterNodeEviction k level idx => Sys2Proof.Machine.execCounterNodeEviction k level idx s
  | .rekeyGroupConversion k => Sys2Proof.Machine.execRekeyGroupConversion k s
  | .autoRekeyStart k => Sys2Proof.Machine.execAutoRekeyStart k s
  | .svcSend bytes => Sys2Proof.Machine.execSvcSend bytes s
  | .svcReceive => Sys2Proof.Machine.execSvcReceive s
  | .svcPoll => Sys2Proof.Machine.execSvcPoll s
  | .stagingOpen r n => Sys2Proof.Machine.execStagingOpen r n s
  | .chunkWrite r idx data crc => Sys2Proof.Machine.execChunkWrite r idx data crc s
  | .packageVerification => Sys2Proof.Machine.execPackageVerification s
  | .stagingExpiry => Sys2Proof.Machine.execStagingExpiry s
  | .activate r v => Sys2Proof.Machine.execActivate r v s
  | .activationPrepared failed => Sys2Proof.Machine.execActivationPrepared failed s
  | .mgcConfirm => Sys2Proof.Machine.execMgcConfirm s
  | .confirmTimeout => Sys2Proof.Machine.execConfirmTimeout s
  | .bringupRetry sp => Sys2Proof.Machine.execBringupRetry sp s
  | .userLoopRelock l => Sys2Proof.Machine.execUserLoopRelock l s
  | .cfgInitNRise mode => Sys2Proof.Machine.execCfgInitNRise mode s
  | .railInTolerance rail => Sys2Proof.Machine.execRailInTolerance rail s
  | .thermalWarningRearm temp => Sys2Proof.Machine.execThermalWarningRearm temp s
  | .builtInPatternTestDone e => Sys2Proof.Machine.execBuiltInPatternTestDone e s
  | .memoryAccessComplete target ix upsets => Sys2Proof.Machine.execMemoryAccessComplete target ix upsets s
  | .fabricTargetResponse b j p => Sys2Proof.Machine.execFabricTargetResponse b j p s
  | .qFlagFall q readSide => Sys2Proof.Machine.execQFlagFall q readSide s

end Sys2Proof.Machine
end

