-- ==== Sys2Proof/Safety.lean ====
section
/-! DEFINITION. What counts as a safe state and a safe step, and the terms in which the statements speak of commands: what a
command does, what it leaves alone, and when a write is admitted. -/

namespace Sys2Proof.Machine

/-- The keys of a table rise strictly: equal tables are equal data. -/
def rising {α : Type} : Tbl α → Bool
  | [] => true
  | [_] => true
  | a :: b :: r => decide (a.1 < b.1) && rising (b :: r)

/-- The command is carried out: it answers a next state, of which `P` holds. -/
def Does (c : Instr) (s : State) (P : State → Prop) : Prop := ∃ t, exec c s = .next t ∧ P t

/-- The command changes nothing: its condition does not hold. -/
def Idles (c : Instr) (s : State) : Prop := exec c s = .next s

/-! ### Frames -/

/-- The parts of the state. -/
inductive Part where
  | pending | now | fresh | cat | gen | ruling | cap | mgmt | unit | pwr | cfg | seams | fab | clk | tim | lan | rx | tx | shu
  | noc | mem | itg | upd
  deriving DecidableEq, Repr

/-- A part is unchanged. -/
def Part.same (s t : State) : Part → Prop
  | .pending => t.pending = s.pending
  | .now => t.now = s.now
  | .fresh => t.fresh = s.fresh
  | .cat => t.cat = s.cat
  | .gen => t.gen = s.gen
  | .ruling => t.ruling = s.ruling
  | .cap => t.cap = s.cap
  | .mgmt => t.mgmt = s.mgmt
  | .unit => t.unit = s.unit
  | .pwr => t.pwr = s.pwr
  | .cfg => t.cfg = s.cfg
  | .seams => t.seams = s.seams
  | .fab => t.fab = s.fab
  | .clk => t.clk = s.clk
  | .tim => t.tim = s.tim
  | .lan => t.lan = s.lan
  | .rx => t.rx = s.rx
  | .tx => t.tx = s.tx
  | .shu => t.shu = s.shu
  | .noc => t.noc = s.noc
  | .mem => t.mem = s.mem
  | .itg => t.itg = s.itg
  | .upd => t.upd = s.upd

/-- Every part but the listed ones is unchanged. -/
def Outside (ps : List Part) (s t : State) : Prop := ∀ p, p ∉ ps → p.same s t

/-- Whatever next state the command answers, every part but the listed ones is as before. -/
def ChangesOnly (ps : List Part) (c : Instr) : Prop := ∀ s t, exec c s = .next t → Outside ps s t

/-- The stored entries whose index lies in none of the listed ranges are as before. -/
def EntriesOutside (rs : List (Nat × Nat)) (s t : State) : Prop :=
  ∀ key, (∀ r ∈ rs, ¬(r.1 ≤ key / 256 ∧ key / 256 ≤ r.2)) → tget t.cat key = tget s.cat key

/-- The index ranges that raising an event touches: counters, interrupt lines and sources (R104, R107, R110). -/
def eventRanges : List (Nat × Nat) := [(0x0E0000, 0x0E0000), (0x0E0200, 0x0E0203), (0x0E1000, 0x0E1FFF)]

/-- Event `n` has been raised: its count in `0E1000h` + n `:07` is one higher (R104). -/
def Raised (s t : State) (n : Nat) : Prop := t.num (0x0E1000 + n) 7 = (s.num (0x0E1000 + n) 7 + 1) % 2 ^ 32

/-! ### Writes -/

/-- A write reaches its entry: the MGC serves the entry's area, checks 6 to 10 of R59 pass, and the entry does not refuse it. A
client port carries neither a time of execution nor the critical flag (R81). -/
def Passes (s : State) (r : Req) (key : Nat) (v : Val) (rule : Rule) : Prop :=
  serves s key = true ∧ checkWrite s (carried r) key v rule = none ∧ rule.judge s (carried r) v = none

/-- Such a write without a time of execution, of an entry that executes at once. -/
def AtOnce (s : State) (r : Req) (key : Nat) (v : Val) (rule : Rule) : Prop :=
  Passes s r key v rule ∧ (carried r).toe = .none ∧ rule.pick s v = none

/-- The answer to the command says OK. -/
def Ok (t : State) : Prop := t.cap.answer = { status := stOk }

/-- The write that a command makes: who writes, the entry, the value, and the entry's rule; none for other commands. -/
def writeOf : Instr → Option (Req × Nat × Val × Rule)
  | .rulingSelectionWrite r v => some (r, ent 0x030000 1, .num v, rulingRule)
  | .windowLengthWrite r v => some (r, ent 0x030000 2, .num v, windowRule)
  | .forceClose r n v => some (r, ent (sesIdx n) 9, .num v, forceCloseRule n)
  | .hostKeyWrite r k bytes => some (r, ent (hkIdx k) 3, .oct bytes, hostKeyRule k)
  | .keySlotEnable r k v => some (r, ent (hkIdx k) 5, .num v, keyEnableRule k)
  | .groupKeyWrite r g bytes => some (r, ent (gkIdx g) 3, .oct bytes, groupKeyRule g)
  | .assignmentRangeWrite r q sub bytes => some (r, ent (rgIdx q) sub, valueOf (ent (rgIdx q) sub) bytes, rangeRule q sub)
  | .longOpStart r k kind target params => some (r, ent (opIdx k) 0, slotRecord kind target params 1, slotRule k 0)
  | .longOpSuspend r k => some (r, ent (opIdx k) 4, .num 2, slotRule k 4)
  | .longOpResume r k => some (r, ent (opIdx k) 4, .num 3, slotRule k 4)
  | .longOpCancel r k => some (r, ent (opIdx k) 4, .num 4, slotRule k 4)
  | .longOpRelease r k => some (r, ent (opIdx k) 4, .num 5, slotRule k 4)
  | .clearWrite r v => some (r, ent 0x0C0000 9, .num v, clearRule)
  | .isolate r p v => some (r, ent (panelIdx p) 6, .num v, isolateRule p)
  | .release r p v => some (r, ent (panelIdx p) 5, .num v, releaseRule p)
  | .seamRetrain r c v => some (r, ent (chIdx c) 0x0B, .num v, retrainRule c)
  | .seamReinstate r c v => some (r, ent (chIdx c) 0x0C, .num v, chanReinstateRule c)
  | .tally r p v => some (r, ent (pinIdx p) 6, .num v, plainRule (ent (pinIdx p) 6))
  | .refSel r v => some (r, ent 0x040000 1, .num v, refSelRule)
  | .tlRelock r v => some (r, ent 0x040010 3, .num v, tlRelockRule)
  | .targetOp r d v => some (r, ent (domIdx d) 1, .num v, targetOpRule d)
  | .userLoopRestore r l v => some (r, ent (uloopIdx l) 4, .num v, uloopRestoreRule l)
  | .gate r u v => some (r, ent (gateIdx u) 1, .num v, gateRule u)
  | .spreadWrite r target v => some (r, spreadKey target, .num v, spreadRule (spreadKey target))
  | .increment r t v => some (r, ent (tbIdx t) 5, .num v, incrementRule t)
  | .slew r t inc cycles => some (r, ent (0x030140 + t) 0, .oct (be 6 inc ++ be 4 cycles ++ be 4 0), slewRule t)
  | .step r t ns => some (r, ent (tbIdx t) 6, .num (wrap 64 ns), stepRule t)
  | .forceStep r t ns => some (r, ent (tbIdx t) 7, .num (wrap 64 ns), forceStepRule t)
  | .setTime r t ns => some (r, ent (tbIdx t) 9, .num ns, setRule t)
  | .arm r t => some (r, ent (tbIdx t) 2, .num 1, armRule t)
  | .disarm r t => some (r, ent (tbIdx t) 2, .num 0, armRule t)
  | .snap r v => some (r, ent 0x030001 1, .num v, snapRule)
  | .pickGeneratorWrite r t sub bytes => some (r, ent (genIdx t) sub, valueOf (ent (genIdx t) sub) bytes, pickGenRule t sub)
  | .servoMode r t v => some (r, ent (servoIdx t) 1, .num v, servoModeRule t)
  | .triggerUnitWrite r u sub bytes => some (r, ent (trigIdx u) sub, valueOf (ent (trigIdx u) sub) bytes, trigRule u sub)
  | .portMode r k sub v => some (r, ent (portIdx k) (sub + 1), .num v, portModeRule k (sub + 1))
  | .restore r sp v => some (r, ent (subIdx sp) 4, .num v, restoreRule sp)
  | .subportBinding r u v => some (r, ent (bindIdx u) 1, .num v, bindingRule u)
  | .rxFlowEnable r e f => some (r, ent (rxIdx (e * 4096 + f)) 1, .num 1, rxFlowRule (e * 4096 + f) 1)
  | .rxFlowDisable r e f => some (r, ent (rxIdx (e * 4096 + f)) 1, .num 0, rxFlowRule (e * 4096 + f) 1)
  | .txFlowEnable r e f => some (r, ent (txIdx (e * 4096 + f)) 1, .num 1, txFlowRule (e * 4096 + f) 1)
  | .txFlowDisable r e f => some (r, ent (txIdx (e * 4096 + f)) 1, .num 0, txFlowRule (e * 4096 + f) 1)
  | .take r e f bytes => some (r, ent (takeIdx (e * 4096 + f)) 0, .oct bytes, takeRule (e * 4096 + f))
  | .remove r e v => some (r, ent (svcIdx e) 2, .num v, removeRule e)
  | .engineShadow r e v => some (r, ent (svcIdx e) 3, .num v, shadowRule e)
  | .engineReinstate r e v => some (r, ent (svcIdx e) 4, .num v, engineReinstateRule e)
  | .imageWrite r h bytes => some (r, ent (0x081000 + h) 0, .oct bytes, imageRule h)
  | .dataMemoryWrite r h bytes => some (r, ent (0x082000 + h) 0, .oct bytes, dataMemoryRule h)
  | .bindingEnable r h k v => some (r, ent (shBindIdx (4 * h + k)) 1, .num v, shBindRule (4 * h + k) 1)
  | .run r h v => some (r, runKey h, .num v, runRule h)
  | .mapout r h v => some (r, ent (shIdx h) 3, .num v, mapoutRule h)
  | .mailbox r h v => some (r, ent (shIdx h) 0x0F, .num v, mailboxRule h)
  | .rptCeiling r h v => some (r, ent (shIdx h) 2, .num v, rptCeilingRule h)
  | .clusterReinstate r c v => some (r, ent (0x080400 + c) 3, .num v, clusterReinstateRule c)
  | .swap r v => some (r, ent 0x090000 1, .num v, swapRule)
  | .linkRetrain r l v => some (r, ent (linkIdx l) 8, .num v, linkRetrainRule l)
  | .linkReinstate r l v => some (r, ent (linkIdx l) 9, .num v, linkReinstateRule l)
  | .statsClear r v => some (r, ent 0x090000 7, .num v, statsClearRule)
  | .slotEnable r k => some (r, ent (slIdx k) 2, .num 1, slotEnableRule k)
  | .slotDisable r k => some (r, ent (slIdx k) 2, .num 0, slotEnableRule k)
  | .stagingOpen r n => some (r, ent 0x100100 2, .num n, openRule)
  | .chunkWrite r idx data crc => some (r, ent 0x100101 0, .oct (be 4 idx ++ be 2 data.length ++ data ++ be 4 crc), chunkRule)
  | .activate r v => some (r, ent 0x100100 0x0A, .num v, activateRule)
  | _ => none

/-! ### Selvage tasks -/

/-- The next task of an open window has had its slot of `cost` ns: it has left the schedule, and time stands at the end of
the slot (R14, R15). -/
def SlotTaken (s t : State) (rest : List Task) (cost : Nat) : Prop :=
  t.ruling.sched = rest ∧ t.ruling.taskAt = s.ruling.taskAt + cost ∧ t.now = max s.now (s.ruling.taskAt + cost)

/-- The strobes of time base `t` leave in this cycle (R36): TICK_BEAT, and TICK_PICK where a pick begins, beside those that left
in the same cycle. -/
def Strobed (s t : State) (k : Nat) (pick : Bool) : Prop :=
  t.ruling.strobeAt = t.now ∧
  t.ruling.tickPick = (if s.ruling.strobeAt = t.now then s.ruling.tickPick else 0) ||| (if pick then 2 ^ k else 0) ∧
  t.ruling.tickBeat = (if s.ruling.strobeAt = t.now then s.ruling.tickBeat else 0) ||| 2 ^ k

/-! ### Sessions and keys -/

/-- Session slot `n` has closed: it is free and its keys are gone, its staged writes are dropped, and its timed commands
stay, marked to report to nobody (R90, R91). -/
def Closed (s t : State) (n : Nat) : Prop :=
  t.sesState n = 0 ∧ (t.ses n).kH2d = [] ∧ (t.ses n).kD2h = [] ∧ (∀ x ∈ t.cap.staged, isSession n x.who = false) ∧
  t.ruling.timed = s.ruling.timed.map (orphan n)

/-- A host key has been installed in slot `k`, and the sessions that were open on the slot have closed (R90, R98). -/
def KeyHeld (s t : State) (k : Nat) (key : List Byte) : Prop :=
  t.mgmt.hostKeys = s.mgmt.hostKeys.set k key ∧ t.num (hkIdx k) 1 = 1 ∧ t.num (hkIdx k) 4 = 0 ∧ t.num (hkIdx k) 5 = 1 ∧
  ∀ n, n < 8 → sesOpen s n = true → s.num (sesIdx n) 2 = k → t.sesState n = 0

/-! ### Streams -/

/-- The packets of the source in force at a media time are already being sent: no older source is left to cut (R349). -/
def Uncut (s : State) (n media : Nat) : Prop :=
  ((s.txFlow n).low.any fun l => decide ((s.txFlow n).since media ≤ l)) = true

/-- A transmit flow has gone on from its present packet: to the next of its frame, or to the next frame (R340). -/
def Advanced (s t : State) (n : Nat) : Prop :=
  ((t.txFlow n).frame = (s.txFlow n).frame ∧ (t.txFlow n).k = (s.txFlow n).k + 1) ∨
  ((t.txFlow n).frame = (s.txFlow n).frame + 1 ∧ (t.txFlow n).k = 0)

/-- The built packet of a flow that leaves next, with its payload (R338 to R340). -/
def builtPacket (s : State) (n : Nat) (src : Source) (body : List Byte) : TxPkt :=
  { since := builtAt s n
    media := mediaOf s n (s.txFlow n).frame
    ts := builtTs s n
    marker := !isAudio (txFmt s n).ess && (s.txFlow n).k + 1 == packetsPer s n
    payload := body
    src := src.kind }

/-- Whether a packet around an RTP payload fits the largest frame of every leg (R344). -/
def Fits (s : State) (n : Nat) (p : TxPkt) : Prop :=
  ∀ b ∈ txLegs s n,
    frameLength s n b (ipLength s n ((rtpPacket s n (s.txFlow n).next p).length - 12)) ≤ largestFrame s (legSub s n b)

/-- The frames of a packet as they leave on the legs that take it (R264, R337, R343). -/
def legFrames (s : State) (n : Nat) (p : TxPkt) (late : Bool) : List SentPkt :=
  ((txLegs s n).filter fun b => !legDrops s n b p late).map fun b =>
    { unit := legSub s n b, bytes := frameOut s (legSub s n b) (legFrame s n b (rtpPacket s n (s.txFlow n).next p)) }

/-! ### Shuttles -/

/-- The row of the command table that an instruction issues as. -/
def commandOf (h : Fin 512) : ShInstr → Option Instr
  | .q .. => some (.qMac h)
  | .alu op .. =>
    [.aluNop h, .add h, .sub h, .adds h, .subs h, .and h, .or h, .xor h, .andn h, .lsl h, .lsr h, .asr h, .min h, .max h,
     .abs h, .neg h, .cmp h, .tst h, .mov h, .padd24 h, .psub24 h, .padd12 h, .psub12 h][op]?
  | .acc op .. => [.mva h, .ldaw h, .clra h, .mvco h, .mvci h, .addci h][op]?
  | .ldi .. => some (.ldi h)
  | .movr .. => some (.movr h)
  | .ldm .. => some (.ldm h)
  | .stm .. => some (.stm h)
  | .ctl op .. => [.ctrlNop h, .br h, .dbnz h, .rpt h, .rptr h, .wait h, .endRun h, .rti h][op]?

/-- An instruction stands at the program counter of a shuttle and may issue there; `x` is the shuttle as it finds it, with
every delayed write that is due (R371, R372). -/
def Stands (s : State) (h : Nat) (i : ShInstr) (x : Shuttle) : Prop :=
  s.mayIssue h = true ∧ s.fetched h = some i ∧ x = (s.front h).sh h ∧ x.forbids i = false

/-- The same, where the instruction is not the last in the delay slots of an RTI, which gives ST and the program counter
back as well (R376). -/
def Issues (s : State) (h : Nat) (i : ShInstr) (x : Shuttle) : Prop :=
  Stands s h i x ∧ ¬(x.slots = 1 ∧ x.retSlots = true)

/-- Every shuttle but one is as before. -/
def OthersKept (s t : State) (h : Nat) : Prop := ∀ k, k ≠ h → t.sh k = s.sh k

/-! ### Loads -/

/-- The words that a load takes next, with the state and the load after it has taken them: those that arrive on its port, or for an
MGC load `n` words read over the NoC at its place in the source, within its length (R162). -/
def Taken (s : State) (port : LoadPort) (l : Load) (n : Nat) (given words : List Nat) (t : State) (m : Load) : Prop :=
  (l.byMgc = none ∧ given.length = n ∧ words = given ∧ t = s ∧ m = l) ∨
  (l.byMgc.isSome = true ∧ l.off + 4 * n ≤ l.len ∧ m = { l with off := l.off + 4 * n } ∧
    t = (fetchRead s 0x04C (l.src + l.off) (4 * n)).1.setLoad port (some m) ∧
    ∃ b, (fetchRead s 0x04C (l.src + l.off) (4 * n)).2 = some b ∧ words = (List.range n).map fun i => fieldBE b (4 * i) 4)

/-! ### The MGC -/

/-- A datagram reaches CAP on a management port: the UDP port in force, an address of the port or of a joined group (R50, R70, R75). -/
def Arrives (s : State) (port : MgtPort) (d : Datagram) : Prop :=
  (port = .mgtA ∧ reaches s 0 d = true) ∨ (port = .mgtB ∧ reaches s 1 d = true)

/-- The frame that a datagram brings: its sender, to whom the answer goes, and its bytes (R52). -/
def received (port : MgtPort) (d : Datagram) : TxFrame := { port := port, ip := d.srcIp, udp := d.srcUdp, bytes := d.bytes }

/-- No frame, transaction or client request waits for the MGC. -/
def MgcIdle (s : State) : Prop := s.cap.clientWait = [] ∧ s.cap.work = none ∧ s.cap.inbox = []

end Sys2Proof.Machine
end

