-- ==== Sys2Proof/Certificates/Slice0/Obligations.lean ====
section
/-! DEFINITION. The statements about the model, each citing the rules of the spec that it formalises. -/

open Sys2Proof Sys2Proof.Machine

/-- A step runs the command at the front of the queue (the model's own queue: log entry 1), and every command completes. -/
def Obligations.StepRunsTheFrontCommand : Prop :=
  (∀ (c : Instr) (rest : List Instr) (s : State), s.pending = c :: rest → step s = exec c { s with pending := rest }) ∧
  (∀ (c : Instr) (s : State), ∃ t, exec c s = .next t)

/-- One cycle of the timing loop (R251, R253, R258); that it is what an empty queue does is log entry 1. -/
def Obligations.EmptyQueueLetsOneCyclePass : Prop :=
  ∀ s : State, s.pending = [] →
    ∃ t, step s = .next t ∧ t.now = s.now + 1 ∧
      ((∀ d, d < 8 → (s.dom d).stepAt = none) → (∀ p ∈ s.seams.chan, p.2.mismatches = []) → s.fabricRuns = false →
        s.noc.swapDue = false → Outside [.now, .tim] s t) ∧
      ∀ k : Nat, k < s.tim.tb.length →
        ((s.tb k).setPend = none → (s.tb k).slewLeft = 0 → (t.tb k).time = (s.tb k).time + (s.tb k).inc) ∧
        ((s.tb k).setPend = none → 0 < (s.tb k).slewLeft →
          (t.tb k).time = (s.tb k).time + (s.tb k).slewInc ∧ (t.tb k).slewLeft = (s.tb k).slewLeft - 1) ∧
        (∀ ns, (s.tb k).setPend = some ns → (t.tb k).time = ns * 2 ^ 32 ∧ (t.tb k).setPend = none)

/-- The boundary of R9 is the first cycle at which the time base reaches or passes its instant. -/
def Obligations.BoundaryIsTheFirstCycleAtOrAfter : Prop :=
  ∀ (b : TimeBase) (target : Nat), b.setPend = none → 0 < b.inc → (b.slewLeft = 0 ∨ 0 < b.slewInc) →
    target ≤ (b.run (b.cyclesTo target)).time ∧ ∀ n, n < b.cyclesTo target → (b.run n).time < target

/-- A boundary of a time base that does not rule opens its next pick -/
def Obligations.PickBoundaryOpensThePick : Prop :=
  ∀ (s : State) (t : Fin 8), (s.tb t).armed = true → t.val ≠ s.rulingTb → s.ruling.newRuling ≠ some t.val →
    (s.tb t).want = none → (∀ c ∈ s.ruling.timed, ¬(c.tb = t.val ∧ c.pick = (s.tb t).high)) →
    (∀ d, d < 8 → (s.dom d).stepAt = none) → MgcIdle s →
    Does (.pickBoundary t) s fun u =>
      u.now = s.now + (s.tb t).cyclesTo ((s.tb t).cur.start (s.tb t).high) ∧
      u.pick t = (s.tb t).high ∧ u.num (genIdx t) 7 = 0 ∧ (u.tb t).beat = 0 ∧ (u.tb t).opened = true ∧
      (u.tb t).high = (s.tb t).high + 1 ∧ Strobed s u t true ∧
      { due := u.now + 128, tb := t.val, pick := (s.tb t).high } ∈ u.ruling.releases ∧
      u.ruling.window = s.ruling.window ∧ u.ruling.tickPnum = s.ruling.tickPnum ∧
      Outside [.now, .cat, .ruling, .tim, .shu] s u

/-- A ruling boundary opens its pick and the selvage window, with its schedule frozen -/
def Obligations.RulingBoundaryOpensTheWindow : Prop :=
  ∀ (s : State) (t : Fin 8), (s.tb t).armed = true → t.val = s.rulingTb → s.ruling.newRuling = none →
    (s.tb t).want = none → s.ruling.window = false → s.upd.revert = false → s.ruling.untimed = [] →
    (∀ c ∈ s.ruling.timed, ¬(c.tb = t.val ∧ c.pick = (s.tb t).high)) → MgcIdle s →
    Does (.pickBoundary t) s fun u =>
      u.now = s.now + (s.tb t).cyclesTo ((s.tb t).cur.start (s.tb t).high) ∧
      (u.tb t).high = (s.tb t).high + 1 ∧ (u.tb t).beat = 0 ∧ (u.tb t).opened = true ∧
      u.ruling.window = true ∧ u.ruling.windowAt = u.now ∧ u.ruling.taskAt = u.now + 500 ∧ u.ruling.sched = [] ∧
      u.ruling.bridge = false ∧ u.ruling.tickPnum = (s.tb t).high % 2 ^ 16 ∧ Strobed s u t true ∧
      { due := u.now + 128, tb := t.val, pick := (s.tb t).high } ∈ u.ruling.releases ∧
      (s.selvageOn = true → u.fab.phase = 1)

/-- Beats count up to BEATS, start releases come 128 ns after, and compare instants raise the output -/
def Obligations.BeatsStartsAndCompareInstants : Prop :=
  (∀ (s : State) (t : Fin 8), (s.tb t).armed = true → (s.tb t).opened = true → (s.tb t).beat + 1 < (s.tb t).cur.beats →
    Does (.beatBoundary t) s fun u =>
      u.now = s.now + (s.tb t).cyclesTo ((s.tb t).cur.beatStart (s.pick t) ((s.tb t).beat + 1)) ∧
      (u.tb t).beat = (s.tb t).beat + 1 ∧ u.num (genIdx t) 7 = (s.tb t).beat + 1 ∧
      Strobed s u t false ∧
      { due := u.now + 128, tb := t.val, pick := s.pick t, beat := (s.tb t).beat + 1 } ∈ u.ruling.releases ∧
      Outside [.now, .cat, .ruling, .tim, .shu] s u) ∧
  (∀ (s : State) (x : StartRel) (r : List StartRel), s.ruling.releases = x :: r →
    Does .shuttleStartRelease s fun u =>
      u.now = max s.now x.due ∧ u.ruling.releases = r ∧ Outside [.now, .cat, .ruling, .mgmt, .clk, .tim, .shu] s u) ∧
  (∀ (s : State) (k : Fin 64) (x : Nat), (s.trig k).next = some x → (s.tb (s.num (trigIdx k) 2)).armed = true →
    Does (.compareInstant k) s fun u =>
      u.now = s.now + (s.tb (s.num (trigIdx k) 2)).cyclesTo x ∧ (u.trig k).level = true ∧
      { due := u.now + 128, tb := s.num (trigIdx k) 2, pick := x, trig := some k.val } ∈ u.ruling.releases ∧
      Outside [.now, .cat, .ruling, .tim] s u)

/-- Each scheduled selvage task runs for its cost and has its effect at the end of its slot -/
def Obligations.SelvageTasksTakeTheirSlots : Prop :=
  (∀ (s : State) (k : Task) (rest : List Task), s.ruling.window = true → s.noc.swapDue = false →
    s.ruling.sched = k :: rest → k.kind = .firmware → k.obj = 0 → s.sgState = sgArmed → s.upd.prepared = true →
    Does (.firmwareActivation) s fun u => SlotTaken s u rest 6000 ∧
      u.num 0x100000 0x0D = 1 ∧ u.sgState = sgRetained ∧ u.num 0x100000 9 = 1 - s.num 0x100000 9 ∧
      u.upd.running = s.upd.chunks ∧ u.upd.chunks = s.upd.running) ∧
  (∀ (s : State) (k : Task) (rest : List Task) (c : Fin 256), s.ruling.window = true → s.noc.swapDue = false →
    s.ruling.sched = k :: rest → k.kind = .seamChan → k.obj = c.val → s.num (chIdx c) 3 = 2 → (fullUse (s.chan c).failed).isSome = true →
    Does (.seamChannelReinstatement c) s fun u => SlotTaken s u rest 2000 ∧
      u.chState c = chFull ∧ u.num (chIdx c) 3 = 0 ∧ u.num (chIdx c) 7 = 0 ∧ (u.chan c).pending = [] ∧
      (u.chan c).failed = (s.chan c).failed) ∧
  (∀ (s : State) (k : Task) (rest : List Task) (l : Fin 160), s.ruling.window = true → s.noc.swapDue = false →
    s.ruling.sched = k :: rest → k.kind = .nocLink → k.obj = l.val → s.num (linkIdx l) 5 = 2 →
    Does (.nocLinkReinstatement l) s fun u => SlotTaken s u rest 2000 ∧
      u.num (linkIdx l) 3 = lkFull ∧ u.num (linkIdx l) 4 = 0 ∧ u.num (linkIdx l) 5 = 0) ∧
  (∀ (s : State) (k : Task) (rest : List Task) (e : Fin 8), s.ruling.window = true → s.noc.swapDue = false →
    s.ruling.sched = k :: rest → k.kind = .engine → k.obj = e.val → s.service e = svReady →
    Does (.engineReinstatement e) s fun u => SlotTaken s u rest 2000 ∧
      u.service e = svIn) ∧
  (∀ (s : State) (k : Task) (rest : List Task) (c : Fin 64), s.ruling.window = true → s.noc.swapDue = false →
    s.ruling.sched = k :: rest → k.kind = .cluster → k.obj = c.val → readyShuttles s c ≠ [] →
    Does (.clusterReinstatement c) s fun u => SlotTaken s u rest 2000 ∧
      ∀ h ∈ readyShuttles s c, u.shState h = shEmpty ∧ u.num (shIdx h) 0x16 = 0) ∧
  (∀ (s : State) (k : Task) (rest : List Task) (c : Fin 256) (w d : Nat) (ws : List Nat), s.ruling.window = true → s.noc.swapDue = false →
    s.ruling.sched = k :: rest → k.kind = .mend → k.obj = c.val → (s.chan c).darnShadow = w :: ws → (s.chan c).darnFor w = some d →
    (s.chState c = chFull ∨ s.chState c = chNarrowed) →
    Does (.plannedSeamMend c) s fun u => SlotTaken s u rest 1000 ∧
      ((s.chan c).lanes = [] → (u.chan c).use = tput (s.chan c).use w d) ∧
      ((s.chan c).lanes ≠ [] → (u.chan c).use = (s.chan c).use ∧ (u.chan c).lanes = ((s.chan c).move w d).lanes ∧
        (u.chan c).checkAt = ((s.chan c).move w d).checkAt) ∧ (u.chan c).darnShadow = ws ∧
      (u.chan c).predicted = (s.chan c).predicted.filter (· ≠ w) ∧ u.num (chIdx c) 9 = (s.num (chIdx c) 9 + 1) % 2 ^ 32) ∧
  (∀ (s : State) (k : Task) (rest : List Task) (p : Fin 64), s.ruling.window = true → s.noc.swapDue = false →
    s.ruling.sched = k :: rest → k.kind = .hem → k.obj = p.val → s.panel p = pnPending →
    Does (.hemRelease p) s fun u => SlotTaken s u rest 500 ∧
      u.panel p = pnActive ∧ u.cfg.panelHid.getD p {} = {})

/-- Takes are armed last, the window closes at its length, and the selvage pins follow their phases -/
def Obligations.WindowAndSelvagePinPhases : Prop :=
  (∀ (s : State) (c : TimedCmd) (e : Nat), s.ruling.window = true → s.noc.swapDue = false → s.ruling.sched = [] →
    takeEngine c.key = some e →
    s.ruling.timed.filter (takeDue s.rulingTb (s.pick s.rulingTb)) = [c] →
    Does .takeArming s fun u =>
      u.now = max s.now (s.ruling.taskAt + 104) ∧ u.ruling.taskAt = s.ruling.taskAt + 104 ∧
      u.ruling.timed = s.ruling.timed.filter (fun x => !takeDue s.rulingTb (s.pick s.rulingTb) x) ∧
      u.num (c.key / 256) 9 = c.pick) ∧
  (∀ s : State, s.ruling.window = true → s.noc.swapDue = false → s.ruling.sched = [] →
    s.ruling.timed.filter (takeDue s.rulingTb (s.pick s.rulingTb)) = [] →
    Does .selvageWindowClose s fun u =>
      u.ruling.window = false ∧ u.now = max s.now (max (s.ruling.windowAt + s.windowNs) s.ruling.taskAt) ∧
      (s.selvageOn = true → u.fab.phase = 3)) ∧
  (∀ s : State, s.ruling.window = true → s.fab.phase = 1 →
    Does .selvageStatusDrive s fun u =>
      u.now = max s.now (s.ruling.windowAt + 10) ∧ u.fab = { s.fab with phase := 2 } ∧ Outside [.now, .tim, .fab] s u) ∧
  (∀ (s : State) (levels brief : BitVec 64), s.ruling.window = true → s.selvageOn = true →
    Does (.gpiSample levels brief) s fun u =>
      u.now = max s.now (s.ruling.windowAt + 400) ∧ Outside [.now, .tim, .fab, .cat] s u ∧
      ∀ p : Fin 64,
        (s.num (pinIdx p) 1 ≠ 2 → u.pin p = s.pin p) ∧
        (s.num (pinIdx p) 1 = 2 →
          u.num (pinIdx p) 0x0A = (if (levels ^^^ brief).getLsbD p then 1 else 0) ∧
          u.pin p =
            if (levels ^^^ brief).getLsbD p = s.flag (pinIdx p) 9 then { s.pin p with run := 0 }
            else if s.num (pinIdx p) 8 ≤ (s.pin p).run + 1 then
              { s.pin p with run := 0, next := some ((levels ^^^ brief).getLsbD p) }
            else { s.pin p with run := (s.pin p).run + 1 })) ∧
  (∀ s : State, s.fab.phase = 3 →
    Does .selvageUserPhaseResume s fun u =>
      u.now = max s.now (s.ruling.windowAt + s.windowNs + 10) ∧ u.fab = { s.fab with phase := 0 } ∧
      Outside [.now, .tim, .fab] s u)

/-- An admitted ruling selection waits for its boundary while the ruling base is armed; the window length is stored -/
def Obligations.RulingSelectionAndWindowLength : Prop :=
  (∀ (s : State) (r : Req) (v : Nat), AtOnce s r (ent 0x030000 1) (.num v) rulingRule →
    Does (.rulingSelectionWrite r v) s fun t => Ok t ∧
      (v = s.rulingNext → t.ruling = s.ruling ∧ t.cat = s.cat) ∧
      (v ≠ s.rulingNext → s.rulingArmed = false → t.rulingTb = v ∧ t.ruling.newRuling = none) ∧
      (v ≠ s.rulingNext → s.rulingArmed = true →
        t.rulingTb = s.rulingTb ∧ t.ruling.newRuling = if v = s.rulingTb then none else some v)) ∧
  (∀ (s : State) (r : Req) (v : Nat), AtOnce s r (ent 0x030000 2) (.num v) windowRule →
    Does (.windowLengthWrite r v) s fun t => Ok t ∧ t.num 0x030000 2 = v)

/-- A well-formed SESSION 0 READ is answered with the value; a malformed frame is counted and dropped -/
def Obligations.CapFramesAnswerOrAreDiscarded : Prop :=
  (∀ (s : State) (port : MgtPort) (d : Datagram) (key : Nat) (x : Seen),
    Arrives s port d → MgcIdle s → (s.cap.phase = .unsealed ∨ s.cap.phase = .served) →
    wellFormedFrame d.bytes = true → fMcast d.bytes = false → fSession d.bytes = 0 → fCrit d.bytes = false →
    fAtomic d.bytes = false → fToe d.bytes = .none → fDomain d.bytes = s.num 0x010001 3 →
    fDest d.bytes = s.num 0x010001 2 → s.num 0x100000 0x0D = 0 → cachedFor s (received port d) = none →
    (∀ n, n < 8 → s.sesState n = 0) → s.cap.staged = [] → bucketHint (refill s) d.bytes = none →
    fRecs d.bytes = some [{ op := 1, rflags := 0, key := key, value := [] }] → key / 256 ≤ 0x00FFFF →
    seen s key = some x → x.field.acc ≠ .wo → x.priv = false → x.field.ty ≠ .octets →
    50 + (readBytes s key).length ≤ 8192 →
    Does (.capFrame port d) s fun u =>
      u.cap.sent = s.cap.sent ++ [⟨port, d.srcIp, d.srcUdp,
        respHead s (received port d) 0 (50 + (readBytes s key).length) ++ respRecord 1 0 key stOk 0 (readBytes s key)⟩] ∧
      u.num 0x010004 1 = (s.num 0x010004 1 + 1) % 2 ^ 64 ∧ u.num 0x010004 5 = (s.num 0x010004 5 + 1) % 2 ^ 64 ∧
      MgcIdle u) ∧
  (∀ (s : State) (port : MgtPort) (d : Datagram),
    Arrives s port d → MgcIdle s → s.cap.phase ≠ .off → s.cap.phase ≠ .booting → wellFormedFrame d.bytes = false →
    Does (.capFrame port d) s fun u =>
      u.cap.sent = s.cap.sent ∧ MgcIdle u ∧
      u.num 0x010004 1 = (s.num 0x010004 1 + 1) % 2 ^ 64 ∧ u.num 0x010004 2 = (s.num 0x010004 2 + 1) % 2 ^ 64) ∧
  (∀ (s : State) (port : MgtPort) (d : Datagram), (s.cap.phase = .off ∨ s.cap.phase = .booting) → Idles (.capFrame port d) s)

/-- Staged writes, cached responses, duplicate marks and held multicast answers end at their times -/
def Obligations.CapTimersEndWhatTheyTime : Prop :=
  (∀ (s : State) (who : Who) (key : Nat) (x : Staged),
    s.cap.staged.find? (fun y => y.who = who ∧ y.key = key) = some x →
    Does (.segWriteTimeout who key) s fun u =>
      u.now = max s.now (x.since + 10000000000) ∧
      u.cap.staged = s.cap.staged.filter (fun y => !(y.who = who ∧ y.key = key)) ∧ Outside [.now, .cat, .cap, .mgmt, .tim] s u) ∧
  (∀ (s : State) (n : Fin 8) (trans : Nat) (x : CachedResp),
    (s.ses n).cache.find? (fun y => y.trans = trans) = some x →
    Does (.cacheEntryExpiry (some n) trans) s fun u =>
      u.now = max s.now (x.since + 1000000000) ∧ (u.ses n).cache = (s.ses n).cache.erase x ∧
      Outside [.now, .mgmt, .tim] s u) ∧
  (∀ (s : State) (trans : Nat) (x : CachedResp), s.cap.cache0.find? (fun y => y.trans = trans) = some x →
    Does (.cacheEntryExpiry none trans) s fun u =>
      u.now = max s.now (x.since + 1000000000) ∧ u.cap = { s.cap with cache0 := s.cap.cache0.erase x } ∧
      Outside [.now, .cap, .tim] s u) ∧
  (∀ (s : State) (g : Fin 16) (trans : Nat) (d : DupMark),
    s.cap.dups.find? (fun y => y.group = g.val ∧ y.trans = trans) = some d →
    Does (.mcastDuplicateWindowEnd g trans) s fun u =>
      u.now = max s.now (d.since + 1000000000) ∧ u.cap = { s.cap with dups := s.cap.dups.erase d } ∧
      Outside [.now, .cap, .tim] s u) ∧
  (∀ (s : State) (g : Fin 16) (trans : Nat) (a : McastAnswer),
    s.cap.answers.find? (fun y => y.group = g.val ∧ y.trans = trans) = some a →
    Does (.mcastAnswerRelease g trans) s fun u =>
      u.now = max s.now a.due ∧ u.cap.answers = s.cap.answers.erase a ∧
      u.num 0x010004 5 = (s.num 0x010004 5 + 1) % 2 ^ 64 ∧
      (a.frame.port ≠ .svc → u.cap.sent = s.cap.sent ++ [a.frame] ∧ u.upd = s.upd) ∧
      (a.frame.port = .svc → u.cap.sent = s.cap.sent ∧ u.upd.svcRsp = some a.frame.bytes))

/-- A bridge response, a bridge timeout and a client port request complete the request they meet -/
def Obligations.BridgeRequestsComplete : Prop :=
  (∀ (s : State) (r : BridgeReq) (b : Fin 4) (taken : Nat) (v : PortValue), s.cap.bridge = some r → r.who = .client b →
    r.write = false → r.restore = false → r.cmd = none → s.cap.bridgeQueue = [] → MgcIdle s →
    s.pwr.halted = false → s.now ≤ takenAt s r taken + bridgeNs s →
    Does (.bridgeResponse false taken stOk v) s fun u =>
      u.cap = { s.cap with
        bridge := none
        clients := s.cap.clients.set b (some { status := stOk, data := shownUser s r.key (portBytes v) }) } ∧
      Outside [.cap] s u) ∧
  (∀ (s : State) (taken status : Nat) (v : PortValue), Idles (.bridgeResponse true taken status v) s) ∧
  (∀ (s : State) (r : BridgeReq) (b : Fin 4) (taken : Nat), s.cap.bridge = some r → r.who = .client b → r.restore = false →
    r.cmd = none → s.cap.bridgeQueue = [] → MgcIdle s →
    Does (.bridgeTimeout taken) s fun u =>
      u.now = max s.now (r.since + taken + bridgeNs s) ∧
      u.cap = { s.cap with bridge := none, clients := s.cap.clients.set b (some { status := stTargetUnavailable }) } ∧
      Outside [.now, .cat, .cap, .mgmt, .tim] s u) ∧
  (∀ (s : State) (b : Fin 4) (key : Nat) (v : PortValue), s.clocksRun = true → clientBusy s b = false → MgcIdle s →
    (s.cap.phase = .unsealed ∨ s.cap.phase = .served) → s.num 0x100000 0x0D = 0 → isUser key = false →
    recordCheck s { who := .client b, crit := false, toe := .none, trans := 0 } false
      { op := opRead, rflags := 0, key := key, value := [] } key = none →
    Does (.clientPortRequest b key false v) s fun u =>
      u.cap = { s.cap with clients := s.cap.clients.set b (some { status := stOk, data := readBytes s key }) } ∧
      Outside [.cap] s u)

/-- Sessions end by expiry, idleness, FORCE_CLOSE and an exhausted device counter -/
def Obligations.SessionsEnd : Prop :=
  (∀ (s : State) (n : Fin 8), s.sesState n = 1 →
    Does (.halfOpenExpiry n) s fun u =>
      u.now = max s.now ((s.ses n).openedAt + 1000000000) ∧ u.sesState n = 0 ∧ (u.ses n).kH2d = [] ∧ (u.ses n).kD2h = [] ∧
      Outside [.now, .cat, .mgmt, .tim] s u) ∧
  (∀ (s : State) (n : Fin 8), sesOpen s n = true →
    Does (.sessionIdleTimeout n) s fun u =>
      u.now = max s.now ((s.ses n).heardAt + s.num 0x010018 1 * 1000000000) ∧ Closed s u n) ∧
  (∀ (s : State) (r : Req) (n : Fin 8), AtOnce s r (ent (sesIdx n) 9) (.num 1) (forceCloseRule n) → sesOpen s n = true →
    Does (.forceClose r n 1) s fun u => Ok u ∧ u.now = s.now ∧ Closed s u n) ∧
  (∀ (s : State) (n : Fin 8), sesOpen s n = true → s.num (sesIdx n) 6 = 2 ^ 64 - 1 →
    Does (.deviceCounterExhausted n) s fun u => u.now = s.now ∧ Closed s u n)

/-- Admitted writes of host keys, group keys, key slot enables and assignment ranges take effect -/
def Obligations.KeysAndGalleriesAreWritten : Prop :=
  (∀ (s : State) (r : Req) (k : Fin 16) (b key : List Byte), AtOnce s r (ent (hkIdx k) 3) (.oct b) (hostKeyRule k) →
    keyOf s r b = .ok key →
    Does (.hostKeyWrite r k b) s fun u => Ok u ∧ KeyHeld s u k key) ∧
  (∀ (s : State) (b key : List Byte),
    AtOnce s { who := .service, crit := false, toe := .none, trans := 0 } (ent (hkIdx 0) 3) (.oct b) (hostKeyRule 0) →
    keyOf s { who := .service, crit := false, toe := .none, trans := 0 } b = .ok key →
    Does (.curatorKeyInstall b) s fun u => Ok u ∧ KeyHeld s u 0 key) ∧
  (∀ (s : State) (r : Req) (k : Fin 16) (v : Nat), AtOnce s r (ent (hkIdx k) 5) (.num v) (keyEnableRule k) →
    Does (.keySlotEnable r k v) s fun u => Ok u ∧ u.num (hkIdx k) 5 = v ∧ u.mgmt.hostKeys = s.mgmt.hostKeys ∧
      (s.val (ent (hkIdx k) 5) ≠ .num v → v = 0 →
        u.num (hkIdx k) 1 = 2 ∧ ∀ n, n < 8 → sesOpen s n = true → s.num (sesIdx n) 2 = k.val → u.sesState n = 0) ∧
      (s.val (ent (hkIdx k) 5) ≠ .num v → v ≠ 0 →
        u.num (hkIdx k) 1 = if s.mgmt.hostKeys.getD k [] = [] then 0 else 1)) ∧
  (∀ (s : State) (r : Req) (g : Fin 16) (b key : List Byte), AtOnce s r (ent (gkIdx g) 3) (.oct b) (groupKeyRule g) →
    keyOf s r b = .ok key →
    Does (.groupKeyWrite r g b) s fun u => Ok u ∧ u.mgmt.groupKeys = s.mgmt.groupKeys.set g key ∧
      u.num (gkIdx g) 1 = 1 ∧ u.num (gkIdx g) 4 = 0 ∧ u.num (gkIdx g) 5 = 0 ∧
      EntriesOutside [(gkIdx g, gkIdx g)] s u) ∧
  (∀ (s : State) (r : Req) (q : Fin 256) (sub : Fin 5) (b : List Byte),
    AtOnce s r (ent (rgIdx q) sub) (valueOf (ent (rgIdx q) sub) b) (rangeRule q sub) →
    Does (.assignmentRangeWrite r q sub b) s fun u => Ok u ∧
      ∀ i, i < 4 → u.num (rgIdx q) (i + 1) = (rangeAfter s q sub (valueOf (ent (rgIdx q) sub) b)).getD i 0)

/-- Queued records reach the ring, notifications leave, and fabric raisings and line clears take effect -/
def Obligations.EventsAreRecordedAndDelivered : Prop :=
  (∀ (s : State) (r : EvRec) (q : List EvRec), s.mgmt.queue = r :: q →
    Does .eventRecord s fun u =>
      u.mgmt.queue = q ∧ u.mgmt.markLost = false ∧ u.num 0x0E0000 1 = r.seq ∧
      u.mgmt.ring = tput s.mgmt.ring (r.seq % 65536) { r with lost := r.lost || s.mgmt.markLost } ∧
      Outside [.cat, .mgmt] s u ∧ EntriesOutside [(0x0E0000, 0x0E0000), (opIdx 0, opIdx 63)] s u) ∧
  (∀ (s : State) (n : Fin 8), sesOpen s n = true → (s.ses n).notes ≠ [] → s.num (sesIdx n) 6 ≠ 2 ^ 64 - 1 →
    Does (.notificationSend n) s fun u =>
      u.num (sesIdx n) 6 = s.num (sesIdx n) 6 + 1 ∧ (u.ses n).notes = (s.ses n).notes.drop 64 ∧
      (∀ records, records = ((s.ses n).notes.take 64).flatMap
          (fun r => respRecord 0x20 0 (ent 0x0E0000 0) stOk 0 (recordBytes r)) →
        u.cap.sent = s.cap.sent ++ [⟨(s.ses n).port, (s.oct (sesIdx n) 7).take 16, fieldBE (s.oct (sesIdx n) 7) 16 2,
          withTrailer (s.ses n).kD2h (s.num (sesIdx n) 6 + 1)
            (frameHead s 0x20 (60 + records.length) (s.ses n).src (n + 1) (min 64 (s.ses n).notes.length)
              ((s.ses n).noteNum + 1) (List.replicate 16 0) ++ records)⟩]) ∧
      Outside [.cat, .cap, .mgmt] s u) ∧
  (∀ (s : State) (b : Fin 4) (num : BitVec 8) (xlen : BitVec 6) (data : List Byte),
    s.fabricRuns = true → s.pwr.halted = false → (s.mgmt.fabQueues.getD b []).length < 16 →
    Does (.fabricEventRaise b num xlen data) s fun u =>
      (∀ x : FabRaise, x = { num := num.toNat, extra := (data ++ List.replicate 32 0).take (min xlen.toNat 32),
                             time := if s.rulingArmed then (s.tb s.rulingTb).ns else s.now, pick := s.rulingPick,
                             uptime := !s.rulingArmed } →
        u.mgmt = { s.mgmt with fabQueues := s.mgmt.fabQueues.set b (s.mgmt.fabQueues.getD b [] ++ [x]) }) ∧
      Outside [.mgmt] s u) ∧
  (∀ (s : State) (b : Fin 4) (x : FabRaise) (q : List FabRaise), s.mgmt.fabQueues.getD b [] = x :: q → x.num < 256 →
    Does (.fabricEventTake b) s fun u =>
      u.mgmt.fabQueues = s.mgmt.fabQueues.set b q ∧
      u.num (0x0E1F00 + x.num) 7 = (s.num (0x0E1F00 + x.num) 7 + 1) % 2 ^ 32 ∧
      Outside [.cat, .mgmt] s u ∧ EntriesOutside eventRanges s u) ∧
  (∀ (s : State) (b : Fin 4) (line : Fin 64), (s.freshBits (ent (0x0E0200 + b) 1)).testBit line = false →
    Does (.evtClr b line false) s fun u =>
      u.num (0x0E0200 + b) 1 = s.num (0x0E0200 + b) 1 &&& ((2 ^ 64 - 1) ^^^ 2 ^ line.val) ∧
      Outside [.cat] s u ∧ EntriesOutside [(0x0E0200 + b, 0x0E0200 + b)] s u) ∧
  (∀ (s : State) (b : Fin 4) (line : Fin 64) (raised : Bool),
    (raised = true ∨ (s.freshBits (ent (0x0E0200 + b) 1)).testBit line = true) → Idles (.evtClr b line raised) s)

/-- Admitted START, SUSPEND, RESUME, CANCEL and RELEASE of a long operation slot answer and move the slot -/
def Obligations.LongOperationsTakeTheirControls : Prop :=
  (∀ (s : State) (r : Req) (k : Fin 64) (kind target : Nat) (params : List Byte),
    AtOnce s r (ent (opIdx k) 0) (slotRecord kind target params 1) (slotRule k 0) →
    kind < 256 → target < 2 ^ 32 → params.length < 65536 →
    Does (.longOpStart r k kind target params) s fun u =>
      u.cap.answer = { status := stAccepted, detail := s.rulingPick % 2 ^ 32 } ∧
      ((kind = 3 ∨ kind = 5 ∨ kind = 7) → targetInUse s kind target false = false →
        u.opState k = opRunning ∧ u.opKind k = kind ∧ u.opTarget k = target ∧ u.opParams k = params ∧
        u.num (opIdx k) 6 = 0 ∧ u.num (opIdx k) 7 = 0 ∧ u.num (opIdx k) 8 = 0 ∧ u.num (opIdx k) 0x0A = s.rulingPick ∧
        Outside [.cat, .gen, .cap, .mgmt] s u ∧ EntriesOutside ((opIdx k, opIdx k) :: eventRanges) s u) ∧
      (targetInUse s kind target false = true →
        u.opState k = opQueued ∧ u.opKind k = kind ∧ u.opTarget k = target ∧ u.opParams k = params ∧
        Outside [.cat, .gen, .cap, .mgmt] s u ∧ EntriesOutside ((opIdx k, opIdx k) :: eventRanges) s u)) ∧
  (∀ (s : State) (r : Req) (k : Fin 64), AtOnce s r (ent (opIdx k) 4) (.num 2) (slotRule k 4) →
    Does (.longOpSuspend r k) s fun u => Ok u ∧
      (s.opState k = opQueued → u.opState k = opSuspended) ∧ (s.opState k = opRunning → u.opState k = opSuspending) ∧
      Outside [.cat, .cap, .mgmt, .upd] s u ∧ EntriesOutside ((opIdx k, opIdx k) :: eventRanges) s u) ∧
  (∀ (s : State) (r : Req) (k : Fin 64), AtOnce s r (ent (opIdx k) 4) (.num 3) (slotRule k 4) →
    (s.op k).begun = true → targetInUse s (s.opKind k) (s.opTarget k) true = false →
    Does (.longOpResume r k) s fun u => Ok u ∧
      (s.opState k = opSuspended → u.opState k = opRunning) ∧ (s.opState k = opSuspendedCancel → u.opState k = opCancelling) ∧
      Outside [.cat, .cap, .mgmt, .itg, .upd] s u ∧ EntriesOutside ((opIdx k, opIdx k) :: eventRanges) s u) ∧
  (∀ (s : State) (r : Req) (k : Fin 64), AtOnce s r (ent (opIdx k) 4) (.num 4) (slotRule k 4) →
    Does (.longOpCancel r k) s fun u => Ok u ∧
      (s.opState k = opQueued → u.opState k = if undoNeeded s k then opCancelling else opCancelled) ∧
      (s.opState k = opRunning ∨ s.opState k = opSuspending → u.opState k = opCancelling) ∧
      Outside [.cat, .cap, .mgmt, .itg, .upd] s u ∧ EntriesOutside ((opIdx k, opIdx k) :: eventRanges) s u) ∧
  (∀ (s : State) (r : Req) (k : Fin 64), AtOnce s r (ent (opIdx k) 4) (.num 5) (slotRule k 4) →
    terminal (s.opState k) = true →
    Does (.longOpRelease r k) s fun u => Ok u ∧
      u.opState k = opFree ∧ u.opKind k = 0 ∧ u.opTarget k = 0 ∧ u.opParams k = [] ∧
      (∀ i, 6 ≤ i → i ≤ 10 → u.num (opIdx k) i = 0) ∧
      Outside [.cat, .gen, .cap, .mgmt, .upd] s u ∧ EntriesOutside ((opIdx k, opIdx k) :: eventRanges) s u)

/-- Long operations begin when their target frees, and end done, failed, suspended or cancelled as the table says -/
def Obligations.LongOperationsReachTheirEnds : Prop :=
  (∀ (s : State) (k : Fin 64), s.opState k = opQueued → targetInUse s (s.opKind k) (s.opTarget k) (s.op k).begun = false →
    ((s.op k).begun = true ∨ s.opKind k = 3 ∨ s.opKind k = 5 ∨ s.opKind k = 7) →
    Does (.longOpTargetAvailable k) s fun u => u.opState k = opRunning ∧
      Outside [.cat, .mgmt] s u ∧ EntriesOutside ((opIdx k, opIdx k) :: eventRanges) s u) ∧
  (∀ (s : State) (k : Fin 64), s.opState k = opSuspending →
    Does (.longOpSafePoint k) s fun u =>
      u.opState k = opSuspended ∧
      (s.opKind k ≠ 3 → s.opKind k ≠ 6 → s.opKind k ≠ 7 →
        Outside [.fresh, .cat, .mgmt] s u ∧ EntriesOutside ((opIdx k, opIdx k) :: eventRanges) s u)) ∧
  (∀ (s : State) (k : Fin 64) (data : List Byte), s.opState k = opRunning →
    Does (.longOpWorkComplete k data) s fun u =>
      (s.opKind k = 3 ∨ s.opKind k = 4 → u.opState k = opDone ∧ u.num (opIdx k) 6 = 1000000) ∧
      (s.opKind k = 5 → data.length = 1072 → u.opState k = opDone ∧
        (0x0D0100 ≤ s.opTarget k → s.opTarget k ≤ 0x0D01FF →
          u.oct (s.opTarget k) 0x0A = scanMargins (fieldBE (s.opParams k) 0 1) data)) ∧
      (s.opKind k = 6 → s.mcState (s.opTarget k - 0x0A0100) = mcRetraining → s.ni (s.opTarget k - 0x0A0100) = niOffline →
        u.opState k = opDone) ∧
      (s.opKind k = 7 → terminal (u.opState k) = true) ∧
      (s.opKind k = 9 → (∀ q ∈ s.mgmt.queue, notLater (s.op k).upTo q.seq = false) → u.opState k = opDone ∧
        u.oct 0x0E0012 0 = ringBytes (upToSeq (s.op k).upTo (s.op k).snap))) ∧
  (∀ (s : State) (k : Fin 64) (data : List Byte), justControlled s k = true → (s.opKind k = 3 ∨ s.opKind k = 4) →
    Does (.longOpWorkComplete k data) s fun u =>
      u.opState k = opDone ∧ u.num (opIdx k) 6 = 1000000 ∧ u.cap.answer = { status := stBusy }) ∧
  (∀ (s : State) (k : Fin 64), s.opState k = opCancelling →
    Does (.longOpUndoComplete k) s fun u =>
      (s.opKind k ≠ 2 → s.opKind k ≠ 3 → s.opKind k ≠ 7 → u.opState k = opCancelled) ∧
      (s.opKind k = 3 ∨ s.opKind k = 7 → terminal (u.opState k) = true) ∧
      (s.opKind k = 2 → s.slState (s.opTarget k - 0x0B0100) = slRekeying →
        s.num (slIdx (s.opTarget k - 0x0B0100)) 9 = s.dataBase (s.opTarget k - 0x0B0100) →
        (s.slot (s.opTarget k - 0x0B0100)).back = true → (s.slot (s.opTarget k - 0x0B0100)).op = some k.val →
        u.opState k = opCancelled)) ∧
  (∀ (s : State) (k : Fin 64) (status detail : Nat), s.opState k = opRunning → status ≠ stOk →
    (s.opKind k = 3 ∨ s.opKind k = 5 ∨ s.opKind k = 9) →
    Does (.longOpError k status detail) s fun u =>
      u.opState k = opFailed ∧ u.num (opIdx k) 7 = status ∧ u.num (opIdx k) 8 = detail ∧
      Outside [.cat, .mgmt] s u ∧ EntriesOutside ((opIdx k, opIdx k) :: eventRanges) s u)

/-- Power-good, loss of VCC_MGC, the first second and DEV_RESET_N move the device as the rules say -/
def Obligations.PowerUpAndReset : Prop :=
  (∀ (s : State) (xoSel pullSel : Bool), s.pwr.mgcOn = false →
    Does (.powerGood xoSel pullSel) s fun u =>
      u.now = 0 ∧ u.pwr.mgcOn = true ∧ u.pwr.xoSel = xoSel ∧ u.pwr.pullSel = pullSel ∧ u.cap.phase = .booting ∧
      (coreRails s = true → u.cfgState = csClearing ∧ u.cfg.initDriven = true ∧ u.cfg.clearCause = 0) ∧
      Outside [.now, .cat, .ruling, .cap, .mgmt, .pwr, .cfg, .seams, .fab, .clk, .tim, .lan, .upd] s u) ∧
  (∀ (s : State), s.pwr.mgcOn = true →
    Does .vccMgcLow s fun u =>
      u.pwr.mgcOn = false ∧ u.cap.phase = .off ∧ u.mgmt.hostKeys = s.mgmt.hostKeys ∧ u.mgmt.groupKeys = s.mgmt.groupKeys ∧
      u.ruling.timed = [] ∧ (∀ n, n < 8 → u.ses n = {}) ∧
      (∀ key f, fieldAt key = some f → f.pers = true →
        (∀ r ∈ (0x030000, 0x030000) :: (0x100100, 0x100100) :: eventRanges, ¬(r.1 ≤ key / 256 ∧ key / 256 ≤ r.2)) →
        tget u.cat key = tget s.cat key) ∧
      Outside [.now, .cat, .ruling, .cap, .mgmt, .pwr, .cfg, .seams, .fab, .clk, .tim, .lan, .rx, .tx, .shu, .noc, .mem, .itg, .upd] s u) ∧
  (∀ (s : State), s.cap.phase = .booting →
    Does .capServiceStart s fun u => u = { s with cap := { s.cap with phase := .capUp, listen := s.num 0x010001 1 } }) ∧
  (∀ (s : State), s.cap.phase = .capUp →
    Does .vaultUnsealed s fun u => u = { s with cap := { s.cap with phase := .unsealed, nextAdmission := s.now, refused := 0 } }) ∧
  (∀ (s : State), s.cap.phase = .unsealed →
    Does .allAreasServed s fun u => u = { s with cap := { s.cap with phase := .served } }) ∧
  (∀ (s : State) (lowNs : Nat), (s.pwr.mgcOn = false ∨ lowNs < 20) → Idles (.devReset lowNs) s) ∧
  (∀ (s : State) (lowNs : Nat), s.pwr.mgcOn = true → 1000 ≤ lowNs →
    Does (.devReset lowNs) s fun u =>
      u.pwr.devReset = true ∧ u.pwr.halted = false ∧ u.cfg.initDriven = true ∧ u.cfg.clearCause = 1 ∧
      u.noc.outstanding = [] ∧ u.noc.flight = [] ∧ u.noc.accepted = [] ∧
      Outside [.cat, .gen, .ruling, .cap, .mgmt, .pwr, .cfg, .seams, .fab, .clk, .lan, .rx, .tx, .shu, .noc, .mem, .itg, .upd] s u) ∧
  (∀ (s : State) (lowNs : Nat), s.pwr.mgcOn = true → 20 ≤ lowNs → lowNs < 1000 →
    Does (.devReset lowNs) s fun u => u.fresh = s.fresh + 1 ∧ (Outside [.fresh] s u ∨ u.pwr.devReset = true)) ∧
  (∀ (s : State) (pull : Bool), s.pwr.mgcOn = true →
    Does (.devResetRelease pull) s fun u =>
      u.pwr = { s.pwr with devReset := false, pullSel := pull } ∧
      u.lan = (if s.pwr.devReset then { s.lan with groupsAt := s.now + 1000000, groupsDone := [] } else s.lan) ∧
      Outside [.pwr, .lan] s u)

/-- Rails leaving and regaining tolerance, silent regulators and voltage readings take effect -/
def Obligations.RailsAndRegulators : Prop :=
  (∀ (s : State) (rail : Fin 146) (mv : Nat), s.pwr.mgcOn = true → rail.val ∉ s.pwr.railBad →
    Does (.railOutOfTolerance rail mv) s fun u =>
      u.pwr = { s.pwr with railBad := s.pwr.railBad ++ [rail.val] } ∧ Raised s u 0x183 ∧
      (rail.val ≠ railArch → u.mem = s.mem) ∧
      (rail.val = railArch → ∀ a, 0x0E0000000000 ≤ a → a < 0x0E0010000000 → memRead u.mem.bytes a = 0) ∧
      (∀ a, a < 2 ^ 37 ∨ 0x0E0010000000 ≤ a → memRead u.mem.bytes a = memRead s.mem.bytes a) ∧
      Outside [.cat, .mgmt, .pwr, .mem] s u ∧ EntriesOutside eventRanges s u) ∧
  (∀ (s : State) (rail : Fin 146),
    Does (.railInTolerance rail) s fun u =>
      u.pwr.railBad = s.pwr.railBad.filter (· != rail.val) ∧
      (s.pwr.mgcOn = true → s.cfg.clearCause = 0xFF → (∀ r ∈ s.pwr.railBad, r < 12 → r = rail.val) →
        u.cfgState = csClearing ∧ u.cfg.clearCause = 0) ∧
      (s.cfg.clearCause ≠ 0xFF → Outside [.pwr] s u)) ∧
  (∀ (s : State) (b : Fin 4) (rail : Fin 3), s.pwr.mgcOn = true → 3 * b.val + rail.val ∉ s.pwr.silent →
    (rail.val = 0 ∨ s.domState (2 * b + (rail - 1)) ≠ dRampUp) →
    Does (.regulatorSilent b rail) s fun u =>
      u.pwr = { s.pwr with silent := s.pwr.silent ++ [3 * b.val + rail.val],
                           railMv := s.pwr.railMv.set (3 * b.val + rail.val) 750 } ∧
      Raised s u 0x182 ∧ Outside [.cat, .mgmt, .pwr] s u ∧ EntriesOutside eventRanges s u) ∧
  (∀ (s : State) (d : Fin 8) (b : Fin 4) (rail : Fin 3) (op : Nat), s.pwr.mgcOn = true → 3 * b.val + rail.val = railOf d →
    railOf d ∉ s.pwr.silent → s.domState d = dRampUp → (s.dom d).ramps = [op] →
    (s.dom d).pend = some op →
    Does (.regulatorSilent b rail) s fun u =>
      railOf d ∈ u.pwr.silent ∧ Raised s u 0x182 ∧ Raised s u 0x148 ∧ u.domState d = dSteady ∧ (u.dom d).pend = none ∧
      Outside [.cat, .mgmt, .pwr, .clk] s u ∧ EntriesOutside ((domIdx d, domIdx d) :: eventRanges) s u) ∧
  (∀ (s : State) (d : Fin 8) (mv : Nat), railOf d ∉ s.pwr.silent →
    Does (.voltageReadback d mv) s fun u =>
      u.num (domIdx d) 8 = mv ∧
      (s.domState d = dRampUp → u.domState d = if (s.dom d).vReq d ≤ mv + 5 then dStepPending else dRampUp) ∧
      (s.domState d = dRampDown → (s.dom d).lower = false →
        u.domState d = if (s.dom d).vReq d ≤ mv + 5 ∧ mv ≤ (s.dom d).vReq d + 5 then dSteady else dRampDown) ∧
      (s.domState d ≠ dRampUp → s.domState d ≠ dRampDown → u.domState d = s.domState d) ∧
      Outside [.cat] s u ∧ EntriesOutside [(domIdx d, domIdx d)] s u)

/-- A sensor at the warning threshold raises event 180h once; 115 °C halts the device until it has cooled -/
def Obligations.TemperatureWarnsAndTrips : Prop :=
  (∀ (s : State) (b : Fin 4) (sensor : Fin 16) (temp : Int), s.pwr.mgcOn = true →
    Does (.thermalWarning b sensor temp) s fun u =>
      u.pwr.sensors = s.pwr.sensors.set (16 * b + sensor) temp ∧
      (s.pwr.warned = false → warnAt s ≤ temp → u.pwr.warned = true ∧ Raised s u 0x180) ∧
      (s.pwr.warned = true ∨ temp < warnAt s → u.pwr.warned = s.pwr.warned ∧ u.mgmt = s.mgmt) ∧
      Outside [.cat, .mgmt, .pwr] s u ∧ EntriesOutside ((0x040800, 0x040800) :: eventRanges) s u) ∧
  (∀ (s : State) (b : Fin 4) (sensor : Fin 16) (temp : Int), s.pwr.mgcOn = true → 1150 ≤ temp →
    Does (.thermalTrip b sensor temp) s fun u =>
      u.pwr.halted = true ∧ u.pwr.thermalHold = true ∧ u.pwr.sensors = s.pwr.sensors.set (16 * b + sensor) temp ∧
      Outside [.cat, .gen, .ruling, .cap, .mgmt, .pwr, .cfg, .seams, .fab, .clk, .lan, .rx, .tx, .noc, .itg, .upd] s u) ∧
  (∀ (s : State) (temp : Int), s.pwr.mgcOn = true → temp < warnAt s →
    Does (.thermalHoldEnd temp) s fun u =>
      u.pwr.thermalHold = false ∧ u.pwr.warned = s.pwr.warned ∧
      (∀ (i : Nat) (x : Int), i < 64 → u.pwr.sensors[i]? = some x → x ≤ temp) ∧
      Outside [.cat, .pwr] s u ∧ EntriesOutside [(0x040800, 0x040800)] s u) ∧
  (∀ (s : State) (temp : Int), s.pwr.mgcOn = true → temp ≤ warnAt s - 30 →
    Does (.thermalWarningRearm temp) s fun u =>
      u.pwr.warned = false ∧ u.pwr.thermalHold = s.pwr.thermalHold ∧
      (∀ (i : Nat) (x : Int), i < 64 → u.pwr.sensors[i]? = some x → x ≤ temp) ∧
      Outside [.cat, .pwr] s u ∧ EntriesOutside [(0x040800, 0x040800)] s u)

/-- CLEAR, CFG_SEL_N and the end of a clear move the configuration engine, and a sync word opens a load -/
def Obligations.ClearsBeginAndEnd : Prop :=
  (∀ (s : State) (r : Req) (v : Nat), AtOnce s r (ent 0x0C0000 9) (.num v) clearRule →
    Does (.clearWrite r v) s fun u => Ok u ∧
      (v = 1 → u.cfgState = csClearing ∧ u.cfg.initDriven = true ∧ u.cfg.initLow = true ∧ u.cfg.clearCause = 2 ∧
        u.cfg.clearAt = s.now ∧ u.cfg.load = none ∧ u.cfg.done = false ∧
        Outside [.cat, .ruling, .cap, .mgmt, .cfg, .seams, .fab, .clk, .lan, .upd] s u) ∧
      (v ≠ 1 → Outside [.cap, .upd] s u)) ∧
  (∀ (s : State), (s.cfgState = csError ∨ s.cfgState = csHalted) →
    Does .cfgSelNFall s fun u =>
      u.cfgState = csClearing ∧ u.cfg.initDriven = true ∧ u.cfg.clearCause = 3 ∧ u.cfg.selN = false ∧
      Outside [.cat, .ruling, .cap, .mgmt, .cfg, .seams, .fab, .clk, .lan] s u) ∧
  (∀ (s : State), s.cfgState ≠ csError → s.cfgState ≠ csHalted →
    Does .cfgSelNFall s fun u => u = { s with cfg := { s.cfg with selN := false } }) ∧
  (∀ (s : State) (mode : Fin 4) (high : Bool), s.cfgState = csClearing → s.cfg.initDriven = true →
    s.pwr.thermalHold = false →
    Does (.clearComplete mode high) s fun u =>
      (high = true → u.cfgState = csIdle ∧ u.num 0x0C0000 6 = mode.val ∧
        u.num 0x0C0000 2 = (if 2 ≤ mode.val then cfModeInvalid else s.num 0x0C0000 2) ∧
        u.cfg = { s.cfg with initDriven := false, initLow := false, cleared := false, cfgMode := mode.val }) ∧
      (high = false → u.cat = s.cat ∧ u.cfg = { s.cfg with initDriven := false, cleared := true }) ∧
      Outside [.cat, .cfg] s u ∧ EntriesOutside [(0x0C0000, 0x0C0000)] s u) ∧
  (∀ (s : State) (mode : Fin 4), s.cfgState = csClearing → s.cfg.cleared = true →
    Does (.cfgInitNRise mode) s fun u =>
      u.cfgState = csIdle ∧ u.num 0x0C0000 6 = mode.val ∧
      u.num 0x0C0000 2 = (if 2 ≤ mode.val then cfModeInvalid else s.num 0x0C0000 2) ∧
      u.cfg = { s.cfg with cfgMode := mode.val, initLow := false, cleared := false } ∧
      Outside [.cat, .cfg] s u ∧ EntriesOutside [(0x0C0000, 0x0C0000)] s u) ∧
  (∀ (s : State), s.cfgState = csIdle → s.cfg.selN = false → s.cfg.cfgMode < 2 →
    Does (.syncWord .slave) s fun u =>
      u.cfg = { s.cfg with load := some { words := [syncWordValue] } } ∧ u.cfgState = csLoading ∧
      Outside [.cat, .cfg] s u ∧ EntriesOutside [(0x0C0000, 0x0C0000)] s u) ∧
  (∀ (s : State) (b : Fin 4) (l : Load), s.loadOn (.icp b) = some l → l.words = [] → l.byMgc = none →
    Does (.syncWord (.icp b)) s fun u =>
      u.now = max s.now (l.since + 4) ∧
      u.cfg = { s.cfg with icp := s.cfg.icp.set b (some { l with words := [syncWordValue] }) } ∧ Outside [.now, .cfg, .tim] s u) ∧
  (∀ (s t : State) (b : Fin 4) (l m : Load), s.loadOn (.icp b) = some l → l.words = [] → l.byMgc.isSome = true →
    loadRuns s l = true → Taken s (.icp b) l 1 [] [syncWordValue] t m →
    Does (.syncWord (.icp b)) s fun u =>
      u.cfg = { s.cfg with icp := s.cfg.icp.set b (some { m with words := [syncWordValue] }) } ∧ Outside [.cfg] t u)

/-- A header or frame that passes its checks is taken; one that fails ends the load with the code of the first check -/
def Obligations.LoadsTakeHeadersAndFrames : Prop :=
  (∀ (s t : State) (port : LoadPort) (ws rest h : List Nat) (l m : Load), s.loadOn port = some l → l.got = 0 →
    l.words = [syncWordValue] → loadRuns s l = true → Taken s port l 15 (ws.drop 1) rest t m → h = syncWordValue :: rest →
    Does (.bitstreamHeader port ws) s fun u =>
      (headerFault t port h = none → u.loadOn port = some (loadOf h m) ∧ Outside [.cat, .mgmt, .cfg] t u ∧
        (port = .slave → u.num 0x0C0000 5 = 0 ∧ u.cfg.errorN = true ∧ u.cfg.seamTrained = false ∧ u.cfg.endOk = false) ∧
        (port ≠ .slave → u.panel (loadOf h m).panel = pnLoading ∧
          u.num (panelIdx (loadOf h m).panel) 8 = if l.byMgc.isSome then 2 else 1)) ∧
      (∀ code detail, headerFault t port h = some (code, detail) →
        u.loadOn port = none ∧ Outside [.cat, .cap, .mgmt, .cfg] t u ∧
        (port = .slave → u.cfgState = csIdle ∧ u.num 0x0C0000 2 = code ∧ u.num 0x0C0000 3 = detail ∧ u.cfg.errorN = false) ∧
        (∀ b, port = .icp b → u.cfg.icpStatus = s.cfg.icpStatus.set b code ∧ u.cfg.icpBusy = s.cfg.icpBusy.set b false ∧
          u.cfg.icpDone = s.cfg.icpDone.set b (some s.now)))) ∧
  (∀ (s t : State) (port : LoadPort) (given ws : List Nat) (contends : Bool) (l m : Load), s.loadOn port = some l → l.got ≠ 0 →
    l.endAt = none → l.written < l.frames → loadRuns s l = true → Taken s port l 130 given ws t m →
    Does (.bitstreamFrame port given contends) s fun u =>
      (frameFault t m ws contends = none →
        (∃ x, u.loadOn port = some x ∧ x.written = l.written + 1 ∧ x.lastAddr = ws.getD 0 0 + 1 ∧ x.panel = l.panel ∧
          x.bsid = l.bsid) ∧
        u.cfg.frames = tput s.cfg.frames (ws.getD 0 0) { data := frameData ws } ∧
        Outside [.cat, .cfg] t u) ∧
      (∀ code, frameFault t m ws contends = some code → u.loadOn port = none ∧ u.cfg.frames = s.cfg.frames ∧
        (port = .slave → u.cfgState = csError ∧ u.num 0x0C0000 2 = code ∧ u.num 0x0C0000 3 = ws.getD 0 0 ∧
          u.cfg.errorN = false ∧ Raised t u 0xD03 ∧ Outside [.cat, .ruling, .cap, .mgmt, .cfg, .seams, .fab, .clk, .lan] t u) ∧
        (∀ b, port = .icp b → u.cfg.icpStatus = s.cfg.icpStatus.set b code ∧ Outside [.cat, .cap, .mgmt, .cfg] t u ∧
          (l.panel < 64 → u.panel l.panel = pnIncomplete ∧ u.num (panelIdx l.panel) 7 = code ∧ Raised t u 0xD13)))) ∧
  (∀ (s : State) (b : Fin 4) (given : List Nat) (contends : Bool) (l : Load), s.loadOn (.icp b) = some l → l.got ≠ 0 →
    l.endAt = none → l.written < l.frames → l.byMgc.isSome = true → loadRuns s l = true → l.len < l.off + 520 → l.panel < 64 →
    Does (.bitstreamFrame (.icp b) given contends) s fun u =>
      u.loadOn (.icp b) = none ∧ u.cfg.icpStatus = s.cfg.icpStatus.set b cfEarlyEnd ∧ u.panel l.panel = pnIncomplete ∧
      Outside [.cat, .cap, .mgmt, .cfg] s u)

/-- The end word, the end checks, an early end and seam training end a load as the rules say -/
def Obligations.LoadsEndVerifiedOrInError : Prop :=
  (∀ (s t : State) (port : LoadPort) (given trailer : List Nat) (design d : Compiled) (l m : Load), s.loadOn port = some l →
    l.got ≠ 0 → l.endAt = none → l.written = l.frames → loadRuns s l = true → Taken s port l (trailerLength l) given trailer t m →
    trailer.getLast? = some endWordValue → d = (if l.tableWords = 0 then { design with users := [] } else design) →
    Does (.endWord port given design) s fun u =>
      u.loadOn port = some { m with endAt := some s.now, words := l.words ++ trailer, design := d } ∧
      (port = .slave → u.cfgState = csChecking ∧ u.cfg.compiled = s.cfg.compiled ∧ Outside [.cat, .cfg] t u ∧
        EntriesOutside [(0x0C0000, 0x0C0000)] t u) ∧
      (port ≠ .slave → Outside [.cfg, .fab] t u ∧ u.fab = (loadPanel t ((panelDef t l.panel).getD {}) d).fab ∧
        u.cfg.compiled = (loadPanel t ((panelDef t l.panel).getD {}) d).cfg.compiled)) ∧
  (∀ (s : State) (l : Load), s.loadOn .slave = some l → l.endAt.isSome = true → s.cfg.endOk = false → loadRuns s l = true →
    Does (.endChecksDone .slave) s fun u =>
      (endFault s l = none → u.cfg.endOk = true ∧ u.loadOn .slave = some l ∧
        (s.cfg.seamTrained = true → s.cfgState = csChecking →
          u.cfgState = csWaitTick ∧ u.cfg.startAt = if l.w3 % 2 = 1 then some (s.now + 1000) else none) ∧
        Outside [.cat, .mgmt, .cfg] s u ∧ EntriesOutside ((0x0C0000, 0x0C0000) :: eventRanges) s u) ∧
      (∀ code, endFault s l = some code → u.cfgState = csError ∧ u.num 0x0C0000 2 = code ∧ u.loadOn .slave = none ∧
        u.cfg.errorN = false ∧ Raised s u 0xD03 ∧ Outside [.cat, .ruling, .cap, .mgmt, .cfg, .seams, .fab, .clk, .lan] s u)) ∧
  (∀ (s : State) (b : Fin 4) (l : Load), s.loadOn (.icp b) = some l → l.endAt.isSome = true → l.got ≠ 0 → l.panel < 64 →
    loadRuns s l = true →
    Does (.endChecksDone (.icp b)) s fun u => u.loadOn (.icp b) = none ∧
      (endFault s l = none → (u.panel l.panel = pnVerified ∨ u.panel l.panel = pnPending) ∧
        (s.num (panelIdx l.panel) 4 ≠ 0 → u.panel l.panel = pnVerified ∧ u.ruling = s.ruling) ∧
        u.num (panelIdx l.panel) 2 = l.bsid ∧ u.cfg.icpStatus = s.cfg.icpStatus.set b stOk ∧ Raised s u 0xD11) ∧
      (∀ code, endFault s l = some code → u.panel l.panel = pnIncomplete ∧ u.num (panelIdx l.panel) 7 = code ∧
        u.cfg.icpStatus = s.cfg.icpStatus.set b code ∧ Raised s u 0xD13)) ∧
  (∀ (s : State) (l : Load), s.loadOn .slave = some l → l.endAt = none → l.byMgc = none →
    Does (.earlyEnd .slave) s fun u =>
      u.cfg.selN = true ∧ u.loadOn .slave = none ∧ u.cfgState = csError ∧ u.num 0x0C0000 2 = cfEarlyEnd ∧ u.cfg.errorN = false ∧
      u.cfg.frames = s.cfg.frames ∧ Raised s u 0xD03 ∧ Outside [.cat, .ruling, .cap, .mgmt, .cfg, .seams, .fab, .clk, .lan] s u) ∧
  (∀ (s : State) (b : Fin 4) (l : Load), s.loadOn (.icp b) = some l → l.endAt = none → l.byMgc = none →
    Does (.earlyEnd (.icp b)) s fun u =>
      u.loadOn (.icp b) = none ∧ u.cfg.icpStatus = s.cfg.icpStatus.set b cfEarlyEnd ∧
      (l.got ≠ 0 → l.panel < 64 → u.panel l.panel = pnIncomplete) ∧ Outside [.cat, .mgmt, .cfg] s u) ∧
  (∀ (s : State) (b : Fin 4) (l : Load), s.loadOn (.icp b) = some l → l.byMgc.isSome = true → Idles (.earlyEnd (.icp b)) s) ∧
  (∀ (s : State) (failed : List (Fin 256 × Fin 536)) (l : Load), s.cfg.load = some l → l.got = 1 → s.cfg.seamTrained = false →
    (s.cfgState = csLoading ∨ s.cfgState = csChecking) →
    Does (.seamTrainingComplete failed) s fun u =>
      u.cfg.seamTrained = true ∧ u.cfg.load = some l ∧
      (s.cfg.endOk = true → s.cfgState = csChecking → u.cfgState = csWaitTick) ∧
      (s.cfg.endOk = false → u.cfgState = s.cfgState) ∧ Outside [.cat, .mgmt, .cfg, .seams] s u)

/-- From the start instant, clocks start, flip-flops are released at 64 ns, user I/O at 128 ns and CFG_DONE at 256 ns -/
def Obligations.StartUpRunsTheDesign : Prop :=
  (∀ (s : State) (t : Nat) (l : Load), s.cfg.startAt = some t → s.cfg.load = some l → s.cfgState = csWaitTick →
    s.cfg.startPhase = 0 →
    Does .startup s fun u =>
      u.now = max s.now t ∧ u.cfg.startPhase = 1 ∧ u.cfg.clocksGated = false ∧ u.cfg.mch = l.mch ∧ u.cfg.ffHeld = s.cfg.ffHeld ∧
      u.cfg.compiled = l.design ∧
      Outside [.now, .fresh, .cat, .gen, .mgmt, .cfg, .fab, .tim, .lan, .noc, .mem, .itg] s u) ∧
  (∀ (s : State) (t : Nat) (l : Load), s.cfg.startAt = some t → s.cfg.load = some l → s.cfgState = csWaitTick →
    s.cfg.startPhase = 1 →
    Does .flipflopHoldLift s fun u =>
      u.now = max s.now (t + 64) ∧ u.cfg = { s.cfg with startPhase := 2, ffHeld := false } ∧ Outside [.now, .cfg, .tim] s u) ∧
  (∀ (s : State) (t : Nat) (l : Load), s.cfg.startAt = some t → s.cfg.load = some l → s.cfgState = csWaitTick →
    s.cfg.startPhase = 2 →
    Does .userIoRelease s fun u =>
      u.now = max s.now (t + 128) ∧ u.cfg = { s.cfg with startPhase := 3, ioHiZ := false, parUser := bitOf l.w3 1 } ∧
      Outside [.now, .cfg, .tim] s u) ∧
  (∀ (s : State) (t : Nat) (l : Load), s.cfg.startAt = some t → s.cfg.load = some l → s.cfgState = csWaitTick →
    s.cfg.startPhase = 3 →
    Does .cfgDoneRelease s fun u =>
      u.now = max s.now (t + 256) ∧ u.cfgState = csRunning ∧ u.num 0x0C0000 4 = l.bsid ∧ u.num 0x0C0000 8 = l.w3 ∧
      u.cfg.done = true ∧ u.cfg.load = none ∧ u.cap.users = s.cfg.compiled.users ∧
      (∀ p ∈ s.cfg.compiled.panels, p.1 < 64 → u.panel p.1 = pnActive) ∧
      Raised s u 0xD01 ∧ Outside [.now, .cat, .cap, .mgmt, .cfg, .tim] s u)

/-- A panel load begins on a free ICP; ACTIVE panels isolate; RELEASE of a VERIFIED or ISOLATED panel waits for a window -/
def Obligations.PanelsIsolateAndRelease : Prop :=
  (∀ (s : State) (b : Fin 4), s.cfgState = csRunning → s.cfg.icpBusy.getD b false = false →
    Does (.icpLoadBegin b) s fun u =>
      u = { s with
        cfg := { s.cfg with icp := s.cfg.icp.set b (some { since := s.now }), icpBusy := s.cfg.icpBusy.set b true } }) ∧
  (∀ (s : State) (b : Fin 4) (l : Load) (k : Nat), s.cfgState = csRunning → s.cfg.icpBusy.getD b false = true →
    s.loadOn (.icp b) = some l → l.byMgc = some k → l.since = s.now → l.words = [] →
    Does (.icpLoadBegin b) s fun u =>
      u.loadOn (.icp b) = some { since := s.now } ∧ u.opState k = opQueued ∧ Outside [.cat, .mgmt, .cfg] s u) ∧
  (∀ (s : State) (b : Fin 4) (mask : BitVec 16), s.cfgState = csRunning →
    Does (.icpIsolate b mask) s fun u =>
      (∀ i, i < 16 → u.panel (16 * b + i) =
        if bitOf mask.toNat i = true ∧ s.panel (16 * b + i) = pnActive then pnIsolated else s.panel (16 * b + i)) ∧
      Outside [.cat, .mgmt, .cfg] s u) ∧
  (∀ (s : State) (r : Req) (p : Fin 64) (v : Nat), AtOnce s r (ent (panelIdx p) 6) (.num v) (isolateRule p) →
    Does (.isolate r p v) s fun u => Ok u ∧
      (v = 1 → s.panel p = pnActive → u.panel p = pnIsolated ∧ Raised s u 0xD10) ∧
      (v ≠ 1 ∨ s.panel p ≠ pnActive → u.cat = s.cat ∧ u.mgmt = s.mgmt ∧ u.cfg = s.cfg) ∧
      Outside [.cat, .cap, .mgmt, .cfg, .upd] s u ∧ EntriesOutside ((panelIdx p, panelIdx p) :: eventRanges) s u) ∧
  (∀ (s : State) (r : Req) (p : Fin 64) (v : Nat), AtOnce s r (ent (panelIdx p) 5) (.num v) (releaseRule p) →
    taskCost .hem ≤ s.capacity →
    Does (.release r p v) s fun u => Ok u ∧ u.panel p = pnPending ∧
      u.ruling = { s.ruling with
        untimed := s.ruling.untimed ++ [{ kind := .hem, obj := p, order := s.ruling.order }], order := s.ruling.order + 1 } ∧
      Outside [.cat, .ruling, .cap, .upd] s u ∧ EntriesOutside [(panelIdx p, panelIdx p)] s u)

/-- Mismatching check wires are marked and declared; failed wires are localised, and a channel mends, narrows or fails -/
def Obligations.SeamsDetectAndMendFailures : Prop :=
  (∀ (s : State) (c : Fin 256) (cycle : Nat) (wires : BitVec 536) (bad old : List Nat),
    (s.chState c = chFull ∨ s.chState c = chNarrowed) → bad = mismatching (s.chan c) c cycle wires → bad ≠ [] →
    old = (s.chan c).mismatches.filter (fun p => p % 2 ^ 64 + 64 ≤ cycle) →
    Does (.checkWireMismatch c cycle wires) s fun u =>
      u.now = max s.now (seamNs s c cycle) ∧ u.chState c = s.chState c ∧
      (u.chan c).mismatches = (s.chan c).mismatches.filter (fun p => !(p % 2 ^ 64 + 64 ≤ cycle)) ++
        bad.map (fun k => k * 2 ^ 64 + cycle % 2 ^ 64) ∧
      (old ≠ [] → u.num (chIdx c) 8 = (s.num (chIdx c) 8 + old.length) % 2 ^ 32 ∧
        u.num 0x0D0000 9 = (s.num 0x0D0000 9 + old.length) % 2 ^ 64) ∧
      (old = [] → u.cat = s.cat ∧ u.mgmt = s.mgmt) ∧
      (s.num (chIdx c) 2 = 2 → (u.chan c).shim = (s.chan c).shim.refuse (cycle + crossingCycles s c)) ∧
      Outside [.now, .cat, .mgmt, .seams, .tim] s u ∧
      EntriesOutside ((chIdx c, chIdx c) :: (0x0D0000, 0x0D0000) :: eventRanges) s u) ∧
  (∀ (s : State) (c : Fin 256) (cycle : Nat) (wires : BitVec 536), mismatching (s.chan c) c cycle wires = [] →
    Idles (.checkWireMismatch c cycle wires) s) ∧
  (∀ (s : State) (c : Fin 256) (k : Fin 8), (s.chState c = chFull ∨ s.chState c = chNarrowed) →
    4 ≤ (marksOf s c k).length →
    ((marksOf s c k).getLast?.getD 0) % 2 ^ 64 < ((marksOf s c k).reverse.getD 3 0) % 2 ^ 64 + 64 →
    Does (.wireFailureDeclared c k) s fun u =>
      u.chState c = chMending ∧ (u.chan c).wrongAt = seamNs s c (((marksOf s c k).headD 0) % 2 ^ 64) ∧
      (u.chan c).pending = [] ∧ (u.chan c).prior = s.chState c ∧ (u.chan c).failed = (s.chan c).failed ∧
      (u.chan c).declared = (s.chan c).declared ++ [k.val] ∧ marksOf u c k = [] ∧
      (∀ t ∈ u.ruling.untimed, ¬(t.kind = .mend ∧ t.obj = c.val)) ∧ (∀ t ∈ u.ruling.sched, ¬(t.kind = .mend ∧ t.obj = c.val)) ∧
      Outside [.cat, .ruling, .seams] s u ∧ EntriesOutside [(chIdx c, chIdx c)] s u) ∧
  (∀ (s : State) (c : Fin 256) (wire : Fin 536) (last : Bool), s.chState c = chMending → (s.chan c).walked wire = true →
    Does (.failedWireLocalised c wire last) s fun u =>
      wire.val ∈ (u.chan c).failed ∧ wire.val ∉ (u.chan c).predicted ∧ Raised s u 0xE00 ∧
      (last = false → u.chState c = chMending ∧ (u.chan c).pending = (s.chan c).pending ++ [wire.val]) ∧
      Outside [.cat, .mgmt, .seams] s u ∧ EntriesOutside ((chIdx c, chIdx c) :: eventRanges) s u) ∧
  (∀ (s : State) (c : Fin 256) (dur : Nat), s.chState c = chMending → dur ≤ 21000 →
    Does (.suddenMendComplete c dur) s fun u =>
      u.now = max s.now ((s.chan c).wrongAt + dur) ∧ (u.chan c).pending = [] ∧ (u.chan c).declared = [] ∧
      (u.chan c).failed = (s.chan c).failed ∧ u.chState c = (if (s.chan c).prior = chNarrowed then chNarrowed else chFull) ∧
      (∀ y, (s.chan c).prior ≠ chNarrowed → (s.chan c).repaired = some y → (u.chan c).use = y.use) ∧
      Outside [.now, .cat, .ruling, .mgmt, .seams, .tim] s u ∧ EntriesOutside ((chIdx c, chIdx c) :: eventRanges) s u) ∧
  (∀ (s : State) (c : Fin 256) (dur : Nat), s.chState c = chNarrowing → dur ≤ 25000 →
    Does (.channelNarrowed c dur) s fun u =>
      u.now = max s.now ((s.chan c).wrongAt + dur) ∧
      ((s.chan c).shortGroup = none → u.chState c = chNarrowed ∧ (u.chan c).use = [] ∧
        (u.chan c).lanes = (List.range 16).map (fun g => ((s.chan c).healthy g).take 16) ∧ Raised s u 0xE02) ∧
      (∀ g, (s.chan c).shortGroup = some g → u.chState c = chFailed ∧ Raised s u 0xE04) ∧
      (s.num (chIdx c) 2 = 1 → u.num (chIdx c) 7 = 1) ∧
      Outside [.now, .cat, .ruling, .mgmt, .seams, .tim] s u ∧ EntriesOutside ((chIdx c, chIdx c) :: eventRanges) s u)

/-- Weak wires are predicted and mended in advance; a retrained channel is ready, and reinstated by a task -/
def Obligations.SeamsPredictRetrainAndReturn : Prop :=
  (∀ (s : State) (c : Fin 256) (wire : Fin 536) (margin : Nat) (x : Channel),
    (s.chState c = chFull ∨ s.chState c = chNarrowed) → x = (s.chan c).sample s.now wire margin →
    Does (.wirePredicted c wire margin) s fun u =>
      (tgetD x.margins wire margin < s.num 0x0D0000 6 → wire.val ∉ x.failed → wire.val ∉ x.predicted →
        u.chan c = { x with predicted := x.predicted ++ [wire.val] } ∧ Raised s u 0xE05 ∧
        (featureLevel s.unit = 1 ∨ (x.carries wire = true ∧ x.darnFor wire = none) → Raised s u 0xE0A)) ∧
      (s.num 0x0D0000 6 ≤ tgetD x.margins wire margin → u.chan c = x ∧ Outside [.seams] s u) ∧
      u.chState c = s.chState c ∧ Outside [.cat, .mgmt, .seams] s u ∧
      EntriesOutside ((chIdx c, chIdx c) :: eventRanges) s u) ∧
  (∀ (s : State) (c : Fin 256) (wire : Fin 536), (s.chState c = chFull ∨ s.chState c = chNarrowed) →
    wire.val ∈ (s.chan c).predicted → wire.val ∉ (s.chan c).darnShadow → ((s.chan c).darnFor wire).isSome = true →
    predictMend s = true →
    Does (.darningShadowTrained c wire) s fun u =>
      (u.chan c).darnShadow = (s.chan c).darnShadow ++ [wire.val] ∧
      u.ruling.untimed = s.ruling.untimed ++
        (if taskCost .mend ≤ s.capacity then [{ kind := .mend, obj := c, order := s.ruling.order }] else []) ∧
      Outside [.ruling, .seams] s u) ∧
  (∀ (s : State) (r : Req) (c : Fin 256) (v : Nat), AtOnce s r (ent (chIdx c) 0x0B) (.num v) (retrainRule c) →
    Does (.seamRetrain r c v) s fun u => Ok u ∧
      (v = 1 → u.num (chIdx c) 3 = 1 ∧ (u.chan c).shadowAt = s.now ∧ u.chState c = s.chState c) ∧
      (v ≠ 1 → u.seams = s.seams ∧ u.cat = s.cat) ∧
      Outside [.cat, .cap, .seams, .upd] s u ∧ EntriesOutside [(chIdx c, chIdx c)] s u) ∧
  (∀ (s : State) (c : Fin 256) (passed : List (Fin 536 × Nat)) (healthy : List Nat), s.num (chIdx c) 3 = 1 →
    healthy = (passed.filter fun p => s.num 0x0D0000 6 ≤ p.2).map (·.1.val) →
    Does (.seamShadowReady c passed) s fun u =>
      (u.chan c).failed = (s.chan c).failed.filter (fun w => !healthy.contains w) ∧ Raised s u 0xE08 ∧
      ((fullUse (u.chan c).failed).isSome = true →
        u.num (chIdx c) 3 = 2 ∧ u.now = max s.now ((s.chan c).shadowAt + 1000000)) ∧
      ((fullUse (u.chan c).failed).isSome = false → u.num (chIdx c) 3 = 0 ∧ u.now = s.now) ∧
      (u.chan c).use = (s.chan c).use ∧ (u.chan c).lanes = (s.chan c).lanes ∧
      Outside [.now, .cat, .mgmt, .seams, .tim] s u ∧ EntriesOutside ((chIdx c, chIdx c) :: eventRanges) s u) ∧
  (∀ (s : State) (r : Req) (c : Fin 256) (v : Nat), AtOnce s r (ent (chIdx c) 0x0C) (.num v) (chanReinstateRule c) →
    taskCost .seamChan ≤ s.capacity →
    Does (.seamReinstate r c v) s fun u => Ok u ∧
      u.ruling.untimed = s.ruling.untimed ++
        (if v = 1 then [{ kind := .seamChan, obj := c, order := s.ruling.order }] else []) ∧
      Outside [.ruling, .cap, .upd] s u)

/-- Queue memories take writes and reads, set their flags on their own side, and reset, as the rules say -/
def Obligations.QueuesFollowTheirEdges : Prop :=
  (∀ (s : State) (q : Fin 12288) (x : Queue), s.clocksRun = true → insideIsolated s (·.mems) q = false →
    tget s.fab.queues q = some x →
    (∀ (d : BitVec 72), x.rst = false → x.full = false →
      Does (.qWrite q d false) s fun u => Outside [.fab] s u ∧ tget u.fab.queues q =
        some { x with words := x.words ++ [d.toNat % 2 ^ x.width], wseen := x.wseen + 1, full := decide (x.depth ≤ x.wseen + 1) }) ∧
    (∀ (d : BitVec 72), x.rst = false → x.full = false →
      Does (.qWrite q d true) s fun u => Outside [.fab] s u ∧ tget u.fab.queues q = some (x.push d.toNat).readEdge) ∧
    (∀ (d : BitVec 72), x.rst = false → x.full = true →
      Does (.qWrite q d false) s fun u => Outside [.fab] s u ∧ tget u.fab.queues q = some { x with overflow := true }) ∧
    (∀ (d : BitVec 72), x.rst = false → x.full = true → (x.common = false ∨ x.empty = true) →
      Does (.qWrite q d true) s fun u => Outside [.fab] s u ∧ tget u.fab.queues q = some { x.readEdge with overflow := true }) ∧
    (∀ (d : BitVec 72), x.rst = false → x.full = true → x.common = true → x.empty = false →
      Does (.qWrite q d true) s fun u => Outside [.fab] s u ∧
        ∃ y, tget u.fab.queues q = some y ∧ y.words = x.words.tail ++ [d.toNat % 2 ^ x.width] ∧ y.full = true ∧
          y.overflow = x.overflow ∧ y.underflow = x.underflow) ∧
    (∀ (d : BitVec 72) (b : Bool), x.rst = true →
      Does (.qWrite q d b) s fun u => Outside [.fab] s u ∧ tget u.fab.queues q = some x) ∧
    (∀ (e : BitVec 72), x.rst = false → x.empty = true →
      Does (.qRead q e) s fun u => Outside [.fab] s u ∧
        tget u.fab.queues q = some { x with sbe := false, dbe := false, underflow := true }) ∧
    (∀ (e : BitVec 72) (f : Queue), x.rst = false → x.empty = false → x.fwft = false → f = x.flip e.toNat →
      Does (.qRead q e) s fun u => Outside [.fab, .cat, .mgmt] s u ∧ tget u.fab.queues q =
        some { f with
          words := x.words.tail, rseen := x.rseen - 1, empty := decide (x.rseen ≤ 1), rptr := (x.rptr + 1) % x.depth,
          rdata := if x.reg then x.stage else f.words.headD x.rdata, stage := if x.reg then f.words.headD x.stage else x.stage }) ∧
    (∀ (e : BitVec 72) (f : Queue), x.rst = false → x.empty = false → x.fwft = true → 2 ≤ x.rseen → f = x.flip e.toNat →
      Does (.qRead q e) s fun u => Outside [.fab, .cat, .mgmt] s u ∧ tget u.fab.queues q =
        some { f with
          words := x.words.tail, rseen := x.rseen - 1, empty := false, rptr := (x.rptr + 1) % x.depth,
          rdata := x.words.tail.headD x.rdata }) ∧
    (x.rst = false →
      Does (.qFlagFall q false) s fun u => Outside [.fab] s u ∧ tget u.fab.queues q =
        some { x with wseen := x.words.length, full := decide (x.depth ≤ x.words.length) }) ∧
    (x.rst = false →
      Does (.qFlagFall q true) s fun u => Outside [.fab] s u ∧
        ∃ y, tget u.fab.queues q = some y ∧ y.rseen = x.words.length ∧ y.empty = decide (x.words.length = 0) ∧
          y.words = x.words ∧ y.rdata = if x.fwft ∧ x.words ≠ [] then x.words.headD x.rdata else x.rdata) ∧
    (Does (.qRst q true) s fun u => Outside [.fab] s u ∧
        ∃ y, tget u.fab.queues q = some y ∧ y.rst = true ∧ y.words = [] ∧ y.full = false ∧ y.empty = true ∧
          y.overflow = false ∧ y.underflow = false ∧ y.af = x.af ∧ y.ae = x.ae) ∧
    (Does (.qRst q false) s fun u => Outside [.fab] s u ∧ tget u.fab.queues q = some { x with rst := false }) ∧
    (∀ (d : BitVec 34), x.rst = true →
      Does (.qThrWe q d) s fun u => Outside [.fab] s u ∧ tget u.fab.queues q =
        some { x with
          af := if 1 ≤ bits d.toNat 33 17 ∧ bits d.toNat 33 17 + 1 ≤ x.depth then bits d.toNat 33 17 else x.af,
          ae := if 1 ≤ bits d.toNat 16 0 ∧ bits d.toNat 16 0 + 1 ≤ x.depth then bits d.toNat 16 0 else x.ae })) ∧
  (∀ (s : State) (q : Fin 12288), (s.clocksRun = false ∨ insideIsolated s (·.mems) q = true) →
    (∀ d b, Idles (.qWrite q d b) s) ∧ (∀ e, Idles (.qRead q e) s) ∧ (∀ b, Idles (.qFlagFall q b) s) ∧
    (∀ b, Idles (.qRst q b) s) ∧ (∀ d, Idles (.qThrWe q d) s))

/-- Regional drivers switch sources, divide, gate and ask their ports for idle as the rules say -/
def Obligations.RegionalClocksSwitchAndGate : Prop :=
  (∀ (s : State) (drv : Fin 1536) (x : Mux), s.clocksRun = true → insideIsolated s (·.drivers) drv = false → x = s.drv drv →
    (∀ toB oldEdge newEdge, x.want = none →
      Does (.clockMuxSwitch drv toB oldEdge newEdge) s fun u => Outside [.fab] s u ∧
        u.drv drv = if x.sel = toB then x
          else if oldEdge && newEdge then { x with sel := toB, want := none, wantAt := s.now, newEdge := true, low := false }
          else { x with want := some toB, wantAt := s.now, newEdge := newEdge, low := oldEdge }) ∧
    (∀ b oldEdge newEdge, x.want = some b → x.low = false →
      Does (.clockMuxSwitch drv (!b) oldEdge newEdge) s fun u => Outside [.fab] s u ∧ u.drv drv = { x with want := none }) ∧
    (∀ b oldEdge newEdge, x.want = some b →
      Does (.clockMuxSwitch drv b oldEdge newEdge) s fun u => Outside [.fab] s u ∧
        u.drv drv = if (x.low || oldEdge) && newEdge then { x with sel := b, want := none, newEdge := true, low := false }
          else { x with newEdge := newEdge, low := x.low || oldEdge }) ∧
    (∀ b, x.want = some b → x.low = false →
      Does (.muxSourceTimeout drv false) s fun u =>
        u.now = max s.now (x.wantAt + 1000) ∧
        u.drv drv = (if x.newEdge then { x with sel := b, want := none, low := false } else { x with low := true }) ∧
        u.num (0x110020 + drv / 384) 1 = (s.num (0x110020 + drv / 384) 1 + 1) % 2 ^ 32 ∧ Raised s u 0xD22 ∧
        Outside [.now, .cat, .mgmt, .fab, .tim] s u ∧
        EntriesOutside ((0x110020 + drv / 384, 0x110020 + drv / 384) :: eventRanges) s u) ∧
    (x.want ≠ none → x.low = true →
      Does (.muxSourceTimeout drv true) s fun u =>
        u.now = max s.now (x.wantAt + 1000) ∧
        u.num (0x110020 + drv / 384) 1 = (s.num (0x110020 + drv / 384) 1 + 1) % 2 ^ 32 ∧ Raised s u 0xD22 ∧
        Outside [.now, .cat, .mgmt, .tim] s u ∧
        EntriesOutside ((0x110020 + drv / 384, 0x110020 + drv / 384) :: eventRanges) s u) ∧
    (∀ n : Fin 8, Does (.dividerChange drv n) s fun u => Outside [.fab] s u ∧ u.drv drv = { x with div := n.val + 1 }) ∧
    (Does (.ceFall drv) s fun u => Outside [.fab] s u ∧
      (x.ce = true → x.port = none → u.drv drv = { x with ce := false, gated := true }) ∧
      (x.ce = true → x.port ≠ none → u.drv drv = { x with ce := false, req := some s.now })) ∧
    (Does (.ceRise drv) s fun u => Outside [.fab] s u ∧ u.drv drv = { x with ce := true, gated := false, req := none }) ∧
    (∀ t, x.req = some t → s.now ≤ t + 4000 →
      Does (.portIdleReport (.driver drv)) s fun u => Outside [.fab] s u ∧ u.drv drv = { x with gated := true, req := none }) ∧
    (∀ t, x.req = some t →
      Does (.gateIdleTimeout drv) s fun u =>
        u.now = max s.now (t + 4000) ∧ u.drv drv = { x with req := none } ∧
        u.num (0x110020 + drv / 384) 2 = (s.num (0x110020 + drv / 384) 2 + 1) % 2 ^ 32 ∧ Raised s u 0xD23 ∧
        Outside [.now, .cat, .mgmt, .fab, .tim] s u ∧
        EntriesOutside ((0x110020 + drv / 384, 0x110020 + drv / 384) :: eventRanges) s u)) ∧
  (∀ (s : State) (n : Fin 72), gateWaits s n = true → unitBusy s n = false → s.now ≤ (s.clk.gates.getD n {}).since + 4000 →
    Does (.portIdleReport (.unit n)) s fun u =>
      u.num (gateIdx n) 2 = 2 ∧ Outside [.cat] s u ∧ EntriesOutside [(gateIdx n, gateIdx n)] s u)

/-- Block memory errors and bank power changes are counted and reported; TALLY sets its pin's bit -/
def Obligations.BanksMemoriesAndTallies : Prop :=
  (∀ (s : State) (b : Fin 4) (m : Fin 3072) (word : Fin 1024) (portB : Bool) (flips : BitVec 72) (d : BramDef) (p : BramPort),
    s.clocksRun = true → tget s.cfg.compiled.brams (b * 3072 + m) = some d → d.ecc = true →
    insideIsolated s (·.mems) (b * 3072 + m) = false → p = s.bport (2 * (b * 3072 + m) + (if portB then 1 else 0)) →
    Does (.bramEccRead b m word portB flips) s fun u =>
      (∀ x, x = u.bport (2 * (b * 3072 + m) + (if portB then 1 else 0)) →
        x.sbe = (ones72 flips.toNat == 1) ∧ x.dbe = (2 ≤ ones72 flips.toNat) ∧
        (ones72 flips.toNat ≤ 1 →
          ((if portB then d.b.reg else d.a.reg) = false → x.out = eccData (s.bramWord (b * 3072 + m) word)) ∧
          ((if portB then d.b.reg else d.a.reg) = true → x.out = p.stage ∧ x.stage = eccData (s.bramWord (b * 3072 + m) word)))) ∧
      (ones72 flips.toNat = 0 → Outside [.fab] s u) ∧
      (ones72 flips.toNat = 1 → u.num (0x110010 + b) 1 = (s.num (0x110010 + b) 1 + 1) % 2 ^ 32 ∧ Outside [.cat, .fab] s u ∧
        EntriesOutside [(0x110010 + b, 0x110010 + b)] s u) ∧
      (2 ≤ ones72 flips.toNat →
        u.num (0x110010 + b) 2 = (s.num (0x110010 + b) 2 + 1) % 2 ^ 32 ∧ u.num (0x110010 + b) 3 = m * 1024 + word ∧
        ((s.fab.dbeAt.getD b 0 = 0 ∨ 1000000 ≤ s.now + 1 - s.fab.dbeAt.getD b 0) → Raised s u 0xD20) ∧
        (¬(s.fab.dbeAt.getD b 0 = 0 ∨ 1000000 ≤ s.now + 1 - s.fab.dbeAt.getD b 0) → u.mgmt = s.mgmt)) ∧
      Outside [.cat, .mgmt, .fab] s u ∧ EntriesOutside ((0x110010 + b, 0x110010 + b) :: eventRanges) s u) ∧
  (∀ (s : State) (b : Fin 4) (k : Fin 24),
    Does (.bankPowered b k) s fun u =>
      u.num 0x110002 (1 + b) / 2 ^ k.val % 2 = 1 ∧
      (s.num 0x110002 (1 + b) / 2 ^ k.val % 2 = 0 → Raised s u 0xD21) ∧
      (s.num 0x110002 (1 + b) / 2 ^ k.val % 2 = 1 → u = s) ∧
      Outside [.cat, .mgmt] s u ∧ EntriesOutside ((0x110002, 0x110002) :: eventRanges) s u) ∧
  (∀ (s : State) (b : Fin 4) (k : Fin 24),
    (8 ≤ k.val ∨ s.mcState (8 * b + k) = mcDisabled ∨ s.mcState (8 * b + k) = mcLost) →
    Does (.bankUnpowered b k) s fun u =>
      u.num 0x110002 (1 + b) / 2 ^ k.val % 2 = 0 ∧
      (s.num 0x110002 (1 + b) / 2 ^ k.val % 2 = 1 → Raised s u 0xD21) ∧
      (s.num 0x110002 (1 + b) / 2 ^ k.val % 2 = 0 → u = s) ∧
      Outside [.cat, .mgmt] s u ∧ EntriesOutside ((0x110002, 0x110002) :: eventRanges) s u) ∧
  (∀ (s : State) (b : Fin 4) (k : Fin 24), k.val < 8 →
    (s.mcState (8 * b + k) = mcOnline ∨ s.mcState (8 * b + k) = mcRetraining ∨ s.mcState (8 * b + k) = mcOut ∨
      s.mcState (8 * b + k) = mcTraining) →
    Does (.bankUnpowered b k) s fun u =>
      u.num 0x110002 (1 + b) / 2 ^ k.val % 2 = 0 ∧ u.mcState (8 * b + k) = mcLost) ∧
  (∀ (s : State) (r : Req) (p : Fin 64) (v : Nat), AtOnce s r (ent (pinIdx p) 6) (.num v) (plainRule (ent (pinIdx p) 6)) →
    Does (.tally r p v) s fun u => Ok u ∧ u.num (pinIdx p) 6 = v ∧
      Outside [.cat, .gen, .cap, .upd] s u ∧ EntriesOutside [(pinIdx p, pinIdx p)] s u)

/-- A lost reference coasts the domains and holds over; a qualified or selected source is taken when waiting for it -/
def Obligations.ReferencesAreLostAndTaken : Prop :=
  (∀ (s : State) (src : Fin 3), src.val ≠ 0 → s.num 0x040000 5 = src →
    Does (.sourceLost src) s fun u =>
      u.num 0x040000 5 = 0 ∧ qualified u src = false ∧ Raised s u 0x140 ∧
      (∀ d, d < 8 → (s.dom d).started = true → u.domState d = dCoasting) ∧
      (s.num 0x040010 1 = 1 ∨ s.num 0x040010 1 = 2 → u.num 0x040010 1 = 3) ∧
      u.num 0x040000 4 = (if s.num 0x040000 4 = 1 then 2 else s.num 0x040000 4) ∧
      Outside [.cat, .mgmt, .clk] s u) ∧
  (∀ (s : State), Idles (.sourceLost 0) s) ∧
  (∀ (s : State) (src : Fin 3), qualified s src = false →
    (src = 1 ∧ s.num 0x040000 2 ≠ 0 ∨ src = 2 ∧ (tgetD s.lan.lanes (s.num 0x040000 3) {}).state = 2) →
    Does (.sourceQualified src) s fun u =>
      qualified u src = true ∧ Raised s u 0x141 ∧
      (s.num 0x040000 4 = 0 → s.num 0x040000 1 = src →
        u.num 0x040000 4 = 1 ∧ u.num 0x040000 5 = src ∧ u.num 0x040010 1 = 1 ∧ Raised s u 0x142) ∧
      (s.num 0x040000 4 ≠ 0 → Outside [.cat, .mgmt, .clk] s u ∧ EntriesOutside eventRanges s u)) ∧
  (∀ (s : State) (r : Req) (v : Nat), AtOnce s r (ent 0x040000 1) (.num v) refSelRule →
    Does (.refSel r v) s fun u => Ok u ∧ u.num 0x040000 1 = v ∧
      (s.num 0x040000 4 = 1 ∧ v = s.num 0x040000 5 → u.num 0x040000 4 = 1 ∧ u.clk = s.clk) ∧
      (¬(s.num 0x040000 4 = 1 ∧ v = s.num 0x040000 5) → qualified s v = true →
        u.num 0x040000 4 = 1 ∧ u.num 0x040000 5 = v ∧ u.num 0x040010 1 = 1 ∧
        ∀ d, d < 8 → (s.dom d).started = true → u.domState d = dCoasting) ∧
      (¬(s.num 0x040000 4 = 1 ∧ v = s.num 0x040000 5) → qualified s v = false →
        u.num 0x040000 4 = 0 ∧ u.num 0x040000 5 = s.num 0x040000 5 ∧ u.clk = s.clk) ∧
      Outside [.cat, .gen, .cap, .mgmt, .clk, .upd] s u) ∧
  (∀ (s : State), s.pwr.xoAbsent = false →
    Does .xoInLost s fun u => u.pwr = { s.pwr with xoAbsent := true } ∧ Raised s u 0x14D ∧
      Outside [.cat, .mgmt, .pwr] s u ∧ EntriesOutside eventRanges s u) ∧
  (∀ (s : State), s.pwr.xoAbsent = true →
    Does .xoInReturned s fun u => u.pwr = { s.pwr with xoAbsent := false } ∧ Raised s u 0x14D ∧
      Outside [.cat, .mgmt, .pwr] s u ∧ EntriesOutside eventRanges s u)

/-- The timing loop locks and relocks; single-operating-point loops hold and recover; a main loop coasts and returns -/
def Obligations.LoopsLockAndHold : Prop :=
  (∀ (s : State) (offset goal : Int), s.num 0x040010 1 = 1 → goal = (if s.clk.tlTarget = 0 then 0 else offset) →
    goal.natAbs ≤ 200000 →
    Does (.timingLoopLocked offset) s fun u =>
      u.num 0x040010 1 = 2 ∧ u.num 0x040010 4 = wrap 32 goal ∧ Raised s u 0x143 ∧
      ((∀ t, t < 8 → (s.tb t).armed = false) → u.now = s.now ∧ u.tim = s.tim) ∧
      ((∃ t, t < 8 ∧ (s.tb t).armed = true) → u.now = max s.now (s.clk.acqAt + 1000000000 +
        ceilDiv ((goal - signed 32 (s.num 0x040010 4)).natAbs * 100000000) (Nat.max 1 (s.num 0x040010 2)))) ∧
      Outside [.now, .cat, .mgmt, .tim] s u ∧
      EntriesOutside ((0x040010, 0x040010) :: eventRanges) s u) ∧
  (∀ (s : State) (r : Req) (v : Nat), AtOnce s r (ent 0x040010 3) (.num v) tlRelockRule →
    Does (.tlRelock r v) s fun u => Ok u ∧
      (v = 1 → u.num 0x040010 1 = 1 ∧ u.clk = { s.clk with tlTarget := 0, acqAt := s.now } ∧ Raised s u 0x143) ∧
      (v ≠ 1 → u.clk = s.clk ∧ u.cat = s.cat ∧ u.mgmt = s.mgmt) ∧ Outside [.cat, .cap, .mgmt, .clk, .upd] s u) ∧
  (∀ (s : State) (loop : HoldLoop), loopNum loop ∉ s.clk.holdLoops →
    Does (.singleOpLoopUnlock loop) s fun u =>
      u.clk = { s.clk with holdLoops := s.clk.holdLoops ++ [loopNum loop] } ∧
      (s.pwr.xoAbsent = false → Raised s u 0x14C) ∧ (s.pwr.xoAbsent = true → u.mgmt = s.mgmt) ∧
      Outside [.cat, .mgmt, .clk] s u ∧ EntriesOutside eventRanges s u) ∧
  (∀ (s : State) (loop : HoldLoop), loopNum loop ∈ s.clk.holdLoops →
    Does (.loopAcquireRetry loop true) s fun u =>
      u = { s with clk := { s.clk with holdLoops := s.clk.holdLoops.filter (· ≠ loopNum loop) } }) ∧
  (∀ (s : State) (loop : HoldLoop), Idles (.loopAcquireRetry loop false) s) ∧
  (∀ (s : State) (d : Fin 8), (s.dom d).started = true → s.domState d ≠ dCoasting →
    Does (.mainLoopUnlock d) s fun u =>
      u.domState d = dCoasting ∧ u.num (domIdx d) 2 = 0 ∧
      u.num (domIdx d) 0x0B = (s.num (domIdx d) 0x0B + 1) % 2 ^ 32 ∧ Raised s u 0x144 ∧
      (∀ t, (s.dom d).stepAt = some t → s.now < t + 100 →
        u.num (domIdx d) 9 = (s.dom d).stepFrom ∧ Raised s u 0x116 ∧ u.num (domIdx d) 0x0A = s.num (domIdx d) 0x0A ||| 4 ||| 2) ∧
      ((s.dom d).stepAt = none → u.num (domIdx d) 9 = (s.dom d).setOp) ∧
      ((∀ k, k < 8 → (s.dom k).stepAt = none) → EntriesOutside ((domIdx d, domIdx d) :: eventRanges) s u) ∧
      Outside [.cat, .mgmt, .clk] s u) ∧
  (∀ (s : State) (d : Fin 8), s.domState d = dCoasting →
    Does (.mainLoopRelock d) s fun u =>
      u.domState d = dFloor ∧ Raised s u 0x145 ∧
      u.clk = { s.clk with domains := lmod s.clk.domains d fun x => { x with locked := true, relockAt := s.now } } ∧
      Outside [.cat, .mgmt, .clk] s u ∧ EntriesOutside ((domIdx d, domIdx d) :: eventRanges) s u) ∧
  (∀ (s : State) (l : Fin 32), (s.num (uloopIdx l) 1 = 2 ∨ s.num (uloopIdx l) 1 = 4) →
    Does (.userLoopUnlock l) s fun u =>
      u.num (uloopIdx l) 1 = 3 ∧ Raised s u 0x149 ∧ Outside [.cat, .mgmt, .clk] s u ∧
      EntriesOutside ((uloopIdx l, uloopIdx l) :: eventRanges) s u) ∧
  (∀ (s : State) (l : Fin 32), (s.num (uloopIdx l) 1 = 3 ∨ s.num (uloopIdx l) 1 = 1) →
    Does (.userLoopRelock l) s fun u =>
      u.num (uloopIdx l) 1 = (if s.num (uloopIdx l) 1 = 3 then 4 else 2) ∧ Outside [.cat, .clk] s u ∧
      EntriesOutside [(uloopIdx l, uloopIdx l)] s u)

/-- TARGET_OP begins its ramp, lead times begin timed ramps, and raises that miss their voltage are abandoned -/
def Obligations.OperatingPointsRampAndStep : Prop :=
  (∀ (s : State) (r : Req) (d : Fin 8) (v : Nat), AtOnce s r (ent (domIdx d) 1) (.num v) (targetOpRule d) →
    Does (.targetOp r d v) s fun u => Ok u ∧ u.num (domIdx d) 1 = v ∧
      ((s.dom d).pend = none → (s.domState d = dSteady ∨ s.domState d = dFloor) → isRaise s d v = false →
        u.domState d = (if v < s.num (domIdx d) 2 then s.domState d else dStepPending) ∧
        (d.val < s.clk.domains.length → (u.dom d).pend = some v) ∧ u.mgmt = s.mgmt) ∧
      ((s.dom d).pend = none → (s.domState d = dSteady ∨ s.domState d = dFloor) → isRaise s d v = true →
        s.pwr.silent.contains (railOf d) = false →
        u.domState d = dRampUp ∧ (d.val < s.clk.domains.length → (u.dom d).pend = some v) ∧ u.mgmt = s.mgmt) ∧
      ((s.dom d).pend = none → (s.domState d = dSteady ∨ s.domState d = dFloor) → isRaise s d v = true →
        s.pwr.silent.contains (railOf d) = true →
        u.domState d = dSteady ∧ (d.val < s.clk.domains.length → (u.dom d).pend = none) ∧ Raised s u 0x148) ∧
      Outside [.cat, .gen, .cap, .mgmt, .pwr, .clk, .upd] s u ∧ EntriesOutside ((domIdx d, domIdx d) :: eventRanges) s u) ∧
  (∀ (s : State) (d : Fin 8) (c : TimedCmd), nextRaise s d = some c →
    Does (.raiseRampStart d) s fun u =>
      u.now = (s.waitTb c.tb (rampCount s c d)).now ∧ u.tim = (s.waitTb c.tb (rampCount s c d)).tim ∧
      (s.pwr.silent.contains (railOf d) = false →
        u.domState d = (if s.domState d = dCoasting then dCoasting else dRampUp) ∧ u.mgmt = s.mgmt ∧
        (d.val < s.clk.domains.length → (u.dom d).ramps = (s.dom d).ramps ++ [valNum c.val])) ∧
      (s.pwr.silent.contains (railOf d) = true →
        u.domState d = (if s.domState d = dCoasting then dCoasting else dSteady) ∧ Raised s u 0x148 ∧
        u.num (domIdx d) 0x0A = s.num (domIdx d) 0x0A ||| 4) ∧
      Outside [.now, .cat, .mgmt, .pwr, .clk, .tim] s u ∧ EntriesOutside ((domIdx d, domIdx d) :: eventRanges) s u) ∧
  (∀ (s : State) (d : Fin 8) (op : Nat), s.domState d = dRampUp → (s.dom d).pend = some op → reached s d op = false →
    Does (.untimedRaiseAbandon d) s fun u =>
      u.now = max s.now ((s.dom d).pendAt + 10000000) ∧ u.domState d = dSteady ∧ Raised s u 0x148 ∧
      u.num (domIdx d) 0x0A = s.num (domIdx d) 0x0A ||| 4 ∧
      Outside [.now, .cat, .mgmt, .pwr, .clk, .tim] s u ∧ EntriesOutside ((domIdx d, domIdx d) :: eventRanges) s u) ∧
  (∀ (s : State) (d : Fin 8), s.domState d = dCoasting → Idles (.lowerVoltageWrite d) s) ∧
  (∀ (s : State) (d : Fin 8), (s.dom d).lower = true → s.domState d ≠ dCoasting →
    Does (.lowerVoltageWrite d) s fun u =>
      u.pwr = (if s.pwr.silent.contains (railOf d) then s.pwr
        else { s.pwr with railMv := s.pwr.railMv.set (railOf d) ((s.dom d).vReq d) }) ∧
      u.clk = { s.clk with domains := lmod s.clk.domains d fun x => { x with lower := false } } ∧ Outside [.pwr, .clk] s u) ∧
  (∀ (s : State) (d : Fin 8), s.pwr.mgcOn = true → (s.dom d).started = false →
    opMv d (s.num (domIdx d) 4) ≤ (if s.pwr.silent.contains (railOf d) then 755 else s.num (domIdx d) 8 + 5) →
    Does (.domainClockStart d) s fun u =>
      u.num (domIdx d) 2 = s.num (domIdx d) 4 ∧
      u.clk = { s.clk with domains := lmod s.clk.domains d fun x =>
        { x with started := true, setOp := s.num (domIdx d) 4, locked := true } } ∧
      u.now = (if qualified s (s.num 0x040000 1) then s.now else max s.now (s.pwr.poweredAt + 200000000)) ∧
      Outside [.now, .cat, .clk, .tim] s u ∧ EntriesOutside [(domIdx d, domIdx d)] s u) ∧
  (∀ (s : State) (d : Fin 8), s.domState d = dFloor → s.flag (domIdx d) 5 = true → (s.dom d).changed = false →
    Does (.domainAutoRestore d) s fun u =>
      u.now = max s.now ((s.dom d).relockAt + 10000000) ∧
      u.clk = { s.clk with domains := lmod s.clk.domains d fun x => { x with restore := true } } ∧
      Outside [.now, .clk, .tim] s u)

/-- User loop restores, gate requests and their timeout, and spread settings wait for what the rules name -/
def Obligations.LoopsGatesAndSpreadAreCommanded : Prop :=
  (∀ (s : State) (l : Fin 32), s.num (uloopIdx l) 1 = 4 → s.flag (uloopIdx l) 3 = true →
    Does (.userLoopAutoRestore l) s fun u =>
      u.now = max s.now ((s.clk.uloops.getD l {}).relockAt + 10000000) ∧
      u.clk = { s.clk with uloops := lmod s.clk.uloops l fun x => { x with request := true } } ∧ Outside [.now, .clk, .tim] s u) ∧
  (∀ (s : State) (r : Req) (l : Fin 32) (v : Nat), AtOnce s r (ent (uloopIdx l) 4) (.num v) (uloopRestoreRule l) →
    Does (.userLoopRestore r l v) s fun u => Ok u ∧
      u.clk = (if v = 1 ∧ s.num (uloopIdx l) 1 = 4 then
        { s.clk with uloops := lmod s.clk.uloops l fun x => { x with request := true } } else s.clk) ∧
      Outside [.cap, .clk, .upd] s u) ∧
  (∀ (s : State) (r : Req) (n : Fin 72) (v : Nat), AtOnce s r (ent (gateIdx n) 1) (.num v) (gateRule n) →
    Does (.gate r n v) s fun u => Ok u ∧ u.num (gateIdx n) 1 = v ∧
      (v = 0 → u.num (gateIdx n) 2 = 0 ∧ u.clk = s.clk) ∧
      (v ≠ 0 → s.num (gateIdx n) 2 = 0 → u.num (gateIdx n) 2 = 1 ∧
        u.clk = { s.clk with gates := lmod s.clk.gates n fun g => { g with since := s.now } }) ∧
      (v ≠ 0 → s.num (gateIdx n) 2 ≠ 0 → u.num (gateIdx n) 2 = s.num (gateIdx n) 2 ∧ u.clk = s.clk) ∧
      Outside [.cat, .gen, .cap, .clk, .upd] s u ∧ EntriesOutside [(gateIdx n, gateIdx n)] s u) ∧
  (∀ (s : State) (n : Fin 72), gateWaits s n = true →
    Does (.gateRequestTimeout n) s fun u =>
      u.now = max s.now ((s.clk.gates.getD n {}).since + 4000) ∧ u.num (gateIdx n) 2 = 0 ∧
      u.num (gateIdx n) 3 = (s.num (gateIdx n) 3 + 1) % 2 ^ 32 ∧ Raised s u 0x14B ∧
      Outside [.now, .cat, .mgmt, .tim] s u ∧ EntriesOutside ((gateIdx n, gateIdx n) :: eventRanges) s u) ∧
  (∀ (s : State) (r : Req) (target : SpreadOf) (v : Nat),
    AtOnce s r (spreadKey target) (.num v) (spreadRule (spreadKey target)) →
    Does (.spreadWrite r target v) s fun u => Ok u ∧ u.val (spreadKey target) = .num v ∧
      u.clk = { s.clk with spreadPend := tput s.clk.spreadPend (spreadKey target) v } ∧ Outside [.cat, .gen, .cap, .clk, .upd] s u ∧
      EntriesOutside [(spreadKey target / 256, spreadKey target / 256)] s u)

/-- INCREMENT, SLEW, STEP, FORCE_STEP and SET are accepted as the rules say; a slew ends; steps apply in one cycle -/
def Obligations.TimeBasesTakeRatesAndSteps : Prop :=
  (∀ (s : State) (r : Req) (t : Fin 8) (v : Nat), AtOnce s r (ent (tbIdx t) 5) (.num v) (incrementRule t) →
    Does (.increment r t v) s fun u => Ok u ∧ u.num (tbIdx t) 5 = v ∧
      u.tim = { s.tim with tb := lmod s.tim.tb t fun b => { b with inc := v } } ∧
      Outside [.cat, .gen, .cap, .tim, .upd] s u ∧ EntriesOutside [(tbIdx t, tbIdx t)] s u) ∧
  (∀ (s : State) (r : Req) (t : Fin 8) (inc cycles : Nat),
    AtOnce s r (ent (0x030140 + t) 0) (.oct (be 6 inc ++ be 4 cycles ++ be 4 0)) (slewRule t) → inc < 2 ^ 48 → cycles < 2 ^ 32 →
    Does (.slew r t inc cycles) s fun u => Ok u ∧ u.num (0x030140 + t) 1 = inc ∧ u.num (0x030140 + t) 2 = cycles ∧
      u.tim = { s.tim with tb := lmod s.tim.tb t fun b => { b with slewInc := inc, slewLeft := cycles, slewing := true } } ∧
      ((s.tb t).slewing = true → Raised s u 0x104) ∧ ((s.tb t).slewing = false → u.mgmt = s.mgmt) ∧
      Outside [.cat, .gen, .cap, .mgmt, .tim, .upd] s u ∧
      EntriesOutside ((0x030140 + t.val, 0x030140 + t.val) :: eventRanges) s u) ∧
  (∀ (s : State) (t : Fin 8), (s.tb t).slewing = true →
    Does (.slewEnd t) s fun u =>
      u.now = s.now + (s.tb t).slewLeft ∧ Raised s u 0x104 ∧
      u.tim = { (s.pass (s.tb t).slewLeft).tim with
        tb := lmod (s.pass (s.tb t).slewLeft).tim.tb t fun b => { b with slewing := false, slewLeft := 0 } } ∧
      Outside [.now, .cat, .mgmt, .tim] s u ∧ EntriesOutside eventRanges s u) ∧
  (∀ (s : State) (r : Req) (t : Fin 8) (ns : Int), AtOnce s r (ent (tbIdx t) 6) (.num (wrap 64 ns)) (stepRule t) →
    -2 ^ 63 ≤ ns → ns < 2 ^ 63 →
    Does (.step r t ns) s fun u => Ok u ∧
      u.tim = { s.tim with tb := lmod s.tim.tb t fun b => { b with steps := b.steps ++ [{ ns := ns, force := false, due := s.now + 1 }] } } ∧
      Outside [.cap, .tim, .upd] s u) ∧
  (∀ (s : State) (r : Req) (t : Fin 8) (ns : Int), serves s (ent (tbIdx t) 6) = true → (carried r).toe = .none →
    checkWrite s (carried r) (ent (tbIdx t) 6) (.num (wrap 64 ns)) (stepRule t) = none → -2 ^ 63 ≤ ns → ns < 2 ^ 63 →
    (s.tb t).armed = true → s.num (tbIdx t) 8 < ns.natAbs →
    Does (.step r t ns) s fun u => u.cap.answer = { status := stStepRefused } ∧ Raised s u 0x101 ∧
      u.num (tbIdx t) 0x0D = s.num (tbIdx t) 0x0D ||| 2 ∧ Outside [.cat, .cap, .mgmt] s u ∧
      EntriesOutside ((tbIdx t, tbIdx t) :: eventRanges) s u) ∧
  (∀ (s : State) (r : Req) (t : Fin 8) (ns : Int), serves s (ent (tbIdx t) 7) = true → (carried r).toe = .none →
    checkWrite s (carried r) (ent (tbIdx t) 7) (.num (wrap 64 ns)) (forceStepRule t) = none → (s.tb t).armed = true →
    (pendingCmds s).length < 4096 →
    Does (.forceStep r t ns) s fun u =>
      u.cap.answer = { status := stAccepted, detail := (s.tb t).upcoming % 2 ^ 32 } ∧
      u.ruling = { s.ruling with
        timed := s.ruling.timed ++
          [{ who := r.who
             trans := r.trans
             tb := t
             pick := (s.tb t).upcoming
             key := ent (tbIdx t) 7
             val := .num (wrap 64 ns)
             order := s.ruling.order
             cyc := s.now }]
        order := s.ruling.order + 1 } ∧ Outside [.ruling, .cap] s u) ∧
  (∀ (s : State) (t : Fin 8) (first : StepReq) (rest : List StepReq) (m : State), (s.tb t).steps = first :: rest →
    m = s.waitUntil first.due →
    Does (.stepApply t) s fun u => u.now = max s.now first.due ∧
      ((s.tb t).armed = false → (∀ x ∈ rest, x.due ≤ m.now) →
        u.num (tbIdx t) 0x0A = (s.num (tbIdx t) 0x0A + (s.tb t).steps.length) % 2 ^ 32 ∧
        u.tim = { m.tim with tb := lmod m.tim.tb t fun b =>
          { b with
            steps := []
            was := some (b.was.getD (m.tb t).time)
            wasN := b.wasN + (s.tb t).steps.length
            time := (((m.tb t).time : Int) + (((s.tb t).steps.map (·.ns)).foldl (· + ·) 0) * nsUnit).toNat } } ∧
        (((s.tb t).steps.any fun x => x.force) = true → Raised s u 0x103) ∧
        (((s.tb t).steps.any fun x => !x.force) = true → Raised s u 0x102) ∧
        Outside [.now, .cat, .mgmt, .tim] s u ∧ EntriesOutside ((tbIdx t, tbIdx t) :: eventRanges) s u)) ∧
  (∀ (s : State) (r : Req) (t : Fin 8) (ns : Nat), AtOnce s r (ent (tbIdx t) 9) (.num ns) (setRule t) →
    Does (.setTime r t ns) s fun u => Ok u ∧ Raised s u 0x105 ∧
      u.num (tbIdx t) 0x0A = (if (s.tb t).setPend.isSome then s.num (tbIdx t) 0x0A
        else (s.num (tbIdx t) 0x0A + 1) % 2 ^ 32) ∧
      u.tim = { s.tim with tb := lmod s.tim.tb t fun b => { b with setPend := some ns } } ∧
      Outside [.cat, .cap, .mgmt, .tim, .upd] s u ∧ EntriesOutside ((tbIdx t, tbIdx t) :: eventRanges) s u)

/-- Arming and disarming a time base, a change of pick settings, and SNAP take effect as the rules say -/
def Obligations.TimeBasesArmAndCountPicks : Prop :=
  (∀ (s : State) (r : Req) (t : Fin 8), AtOnce s r (ent (tbIdx t) 2) (.num 1) (armRule t) → t.val < s.tim.tb.length →
    Does (.arm r t) s fun u => Ok u ∧
      ((s.tb t).armed = true → u.tim = s.tim ∧ u.mgmt = s.mgmt) ∧
      ((s.tb t).armed = false →
        (u.tb t).armed = true ∧ u.num (tbIdx t) 1 = 1 ∧ (u.tb t).cur = heldSettings s t ∧ (u.tb t).want = none ∧
        (u.tb t).time = (s.tb t).time ∧ (u.tb t).first = (u.tb t).high ∧
        ((s.tb t).setPend = none → (u.tb t).high = (heldSettings s t).pickAfter (s.tb t).time)) ∧
      (∀ i, i ≠ t.val → u.tb i = s.tb i) ∧ u.now = s.now) ∧
  (∀ (s : State) (r : Req) (t : Fin 8), AtOnce s r (ent (tbIdx t) 2) (.num 0) (armRule t) → t.val < s.tim.tb.length →
    Does (.disarm r t) s fun u => Ok u ∧
      (u.tb t).armed = false ∧ (u.tb t).time = (s.tb t).time ∧
      ((s.tb t).armed = true → u.num (tbIdx t) 1 = 0 ∧ (u.tb t).cur = (s.tb t).want.getD (s.tb t).cur ∧
        (u.tb t).want = none ∧ (t.val = s.rulingTb → u.ruling.bridge = false)) ∧
      (∀ i, i ≠ t.val → u.tb i = s.tb i) ∧ u.now = s.now) ∧
  (∀ (s : State) (r : Req) (t : Fin 8) (sub : Fin 5) (bytes : List Byte),
    AtOnce s r (ent (genIdx t) sub) (valueOf (ent (genIdx t) sub) bytes) (pickGenRule t sub) → t.val < s.tim.tb.length →
    Does (.pickGeneratorWrite r t sub bytes) s fun u => Ok u ∧
      heldSettings u t = newSettings s t sub (valueOf (ent (genIdx t) sub) bytes) ∧
      ((s.tb t).armed = false → (u.tb t).cur = newSettings s t sub (valueOf (ent (genIdx t) sub) bytes) ∧
        (u.tb t).want = none) ∧
      ((s.tb t).armed = true → (u.tb t).cur = (s.tb t).cur ∧
        (u.tb t).want = if newSettings s t sub (valueOf (ent (genIdx t) sub) bytes) = (s.tb t).cur then none
          else some (newSettings s t sub (valueOf (ent (genIdx t) sub) bytes))) ∧
      (u.tb t).time = (s.tb t).time ∧ (∀ i, i ≠ t.val → u.tb i = s.tb i) ∧
      Outside [.cat, .gen, .cap, .mgmt, .tim, .upd] s u) ∧
  (∀ (s : State) (r : Req) (v : Nat), AtOnce s r (ent 0x030001 1) (.num v) snapRule →
    Does (.snap r v) s fun u => Ok u ∧
      (v = 1 → ∀ t, t < 8 → u.num 0x030001 (2 + t) = (s.tb t).ns) ∧ (v ≠ 1 → u.cat = s.cat) ∧
      Outside [.cat, .cap, .upd] s u ∧ EntriesOutside [(0x030001, 0x030001)] s u)

/-- PTP messages are stamped and heard by the servo; trigger units apply their record, fall at their width and capture edges -/
def Obligations.TimestampsServosAndTriggers : Prop :=
  (∀ (s : State) (n : Fin 178) (egress : Bool) (frame : List Byte) (p : PtpCarrier × Nat) (cls k : Nat),
    ptpEvent frame = some p → k = (tsPort n).1 → rateClass s k = some cls →
    Does (.ptpEventTimestamp n egress frame) s fun u =>
      u.num (tsIdx k) 0x1C = (s.ring k).count % 2 ^ 16 ∧
      u.tim = { s.tim with
        rings := tput s.tim.rings k
          { recs := tput (s.ring k).recs ((s.ring k).count % 2 ^ 16 % 256)
              (timestampRecord s n ((s.ring k).count % 2 ^ 16) egress frame p cls)
            count := (s.ring k).count + 1 } } ∧
      (256 ≤ (s.ring k).count → u.num (tsIdx k) 0x1D = (s.num (tsIdx k) 0x1D + 1) % 2 ^ 32) ∧
      u.tx = (if egress then { s.tx with sent := s.tx.sent ++ [{ unit := n, bytes := frameOut s n frame }] } else s.tx) ∧
      Outside [.cat, .mgmt, .tim, .tx] s u ∧ EntriesOutside ((tsIdx k, tsIdx k) :: eventRanges) s u) ∧
  (∀ (s : State) (n : Fin 178) (frame : List Byte), ptpEvent frame = none →
    Idles (.ptpEventTimestamp n false frame) s ∧
    Does (.ptpEventTimestamp n true frame) s fun u =>
      u = { s with tx := { s.tx with sent := s.tx.sent ++ [{ unit := n, bytes := frame }] } }) ∧
  (∀ (s : State) (t : Fin 8) (k : Fin 32) (domain : Byte) (source : List Byte), s.num (servoIdx t) 1 ≠ 0 →
    s.num (servoIdx t) 2 = k → s.num (servoIdx t) 3 = domain.toNat →
    (∀ d, Does (.servoPtpMessage t k domain source (.announce d)) s fun u =>
      (t.val < s.tim.servo.length → ∃ f ∈ (u.tim.servo.getD t {}).masters, f.source = source ∧ f.data = d ∧ f.last = s.now) ∧
      Outside [.tim] s u) ∧
    (∀ sent, Does (.servoPtpMessage t k domain source (.delayReq sent)) s fun u =>
      u.tim = { s.tim with servo := lmod s.tim.servo t fun x => { x with delayTx := sent } } ∧ Outside [.tim] s u) ∧
    ((bestMaster s t).any (fun f => f.source = source) = false →
      (∀ received, Idles (.servoPtpMessage t k domain source (.delayResp received)) s) ∧
      (∀ origin received, Idles (.servoPtpMessage t k domain source (.sync origin received)) s)) ∧
    ((bestMaster s t).any (fun f => f.source = source) = true →
      (∀ received, Does (.servoPtpMessage t k domain source (.delayResp received)) s fun u =>
        u.num (servoIdx t) 6 = wrap 64 (((((s.tim.servo.getD t {}).syncRx : Int) - (s.tim.servo.getD t {}).syncTx) +
          ((received : Int) - (s.tim.servo.getD t {}).delayTx)) / 2) ∧
        Outside [.cat] s u ∧ EntriesOutside [(servoIdx t, servoIdx t)] s u) ∧
      (∀ origin received, Does (.servoPtpMessage t k domain source (.sync origin received)) s fun u =>
        u.num (servoIdx t) 5 = wrap 64 ((received : Int) - origin - signed 64 (s.num (servoIdx t) 6)) ∧
        (¬((s.tb t).armed = true ∧ (s.num (servoIdx t) 4 = 2 ∨ s.num (servoIdx t) 4 = 3)) →
          u.tim = { s.tim with servo := lmod s.tim.servo t fun x => { x with syncTx := origin, syncRx := received } } ∧
          Outside [.cat, .tim] s u ∧ EntriesOutside [(servoIdx t, servoIdx t)] s u)))) ∧
  (∀ (s : State) (t : Fin 8) (k : Fin 32) (domain : Byte) (source : List Byte) (m : ServoMsg),
    (s.num (servoIdx t) 1 = 0 ∨ s.num (servoIdx t) 2 ≠ k ∨ s.num (servoIdx t) 3 ≠ domain.toNat) →
    Idles (.servoPtpMessage t k domain source m) s) ∧
  (∀ (s : State) (r : Req) (t : Fin 8) (v : Nat), AtOnce s r (ent (servoIdx t) 1) (.num v) (servoModeRule t) →
    Does (.servoMode r t v) s fun u => Ok u ∧ u.num (servoIdx t) 1 = v ∧
      u.num (servoIdx t) 4 = (if v = 0 then 0 else if (s.tb t).armed then 2 else 1) ∧
      Outside [.cat, .gen, .cap, .mgmt, .tim, .upd] s u ∧ EntriesOutside ((servoIdx t, servoIdx t) :: eventRanges) s u) ∧
  (∀ (s : State) (r : Req) (n : Fin 64) (sub : Fin 10) (bytes : List Byte) (f : List Nat),
    AtOnce s r (ent (trigIdx n) sub) (valueOf (ent (trigIdx n) sub) bytes) (trigRule n sub) →
    trigFields s n sub (valueOf (ent (trigIdx n) sub) bytes) = f →
    Does (.triggerUnitWrite r n sub bytes) s fun u =>
      (¬(f.getD 0 0 = 1 ∧ f.getD 2 0 * nsUnit ≤ (s.tb (f.getD 1 0)).time) → Ok u ∧
        (∀ i, i < 9 → u.num (trigIdx n) (i + 1) = f.getD i 0) ∧
        u.num (trigIdx n) 0x0A = (if f.getD 0 0 = 0 then 0 else if f.getD 0 0 = 4 then 2 else 1)) ∧
      (f.getD 0 0 = 1 → f.getD 2 0 * nsUnit ≤ (s.tb (f.getD 1 0)).time →
        u.cap.answer = { status := stTooLate, detail := s.pick (f.getD 1 0) % 2 ^ 32 } ∧
        u.num (trigIdx n) 1 = 0 ∧ u.num (trigIdx n) 0x0A = 0) ∧
      u.tim.tb = s.tim.tb ∧ Outside [.cat, .gen, .cap, .tim, .upd] s u ∧ EntriesOutside [(trigIdx n, trigIdx n)] s u) ∧
  (∀ (s : State) (n : Fin 64) (x : Nat), (s.trig n).high = some x →
    Does (.triggerWidthEnd n) s fun u =>
      u.now = (s.waitTb (s.num (trigIdx n) 2) x).now ∧
      u.tim = { (s.waitTb (s.num (trigIdx n) 2) x).tim with
        trig := lmod s.tim.trig n fun y => { y with level := false, high := none } } ∧ Outside [.now, .tim] s u) ∧
  (∀ (s : State) (n : Fin 64) (rising : Bool), takesEdge s n rising = true →
    ((s.trig n).edgeAt = 0 ∨ 8 ≤ s.now + 1 - (s.trig n).edgeAt) →
    Does (.captureEdge n rising) s fun u =>
      u.num (trigIdx n) 0x0B = (s.num (trigIdx n) 0x0B + 1) % 2 ^ 32 ∧
      u.tim = { s.tim with trig := lmod s.tim.trig n fun x =>
        { x with caps := (x.caps ++ [captureRecord s (s.num (trigIdx n) 2) (s.trig n).seq rising]).drop (x.caps.length - 15),
                 seq := (x.seq + 1) % 2 ^ 16, edgeAt := s.now + 1 } } ∧
      Outside [.cat, .mgmt, .tim] s u ∧ EntriesOutside ((trigIdx n, trigIdx n) :: eventRanges) s u)

/-- Lanes gain and lose lock, climb the ladder by its words, and retry at their limits -/
def Obligations.LanesClimbAndLock : Prop :=
  (∀ (s : State) (l : Nat) (blocks : List LineBlock), laneExists s l = true →
    (usesBlocks s l = false ∨ usesBlocks s l = true ∧ (s.lane l).state ≠ laneHeld ∧ (s.lane l).blockLock = false ∧
      (s.lane l).good = 0 ∧ blocks.length = 64 ∧ ∀ b ∈ blocks, blockValid b = true ∧ b.lpi = false) →
    Does (.blockLockGain l blocks) s fun u => Outside [.cat, .mgmt, .lan] s u ∧
      (usesBlocks s l = true → (u.lane l).blockLock = true) ∧
      ((s.lane l).state = laneUnlocked → (u.lane l).state = laneLocked) ∧
      ((s.lane l).state = laneBringup → laneBringupKind s l = 2 → (u.lane l).state = laneLocked) ∧
      ((s.lane l).state = laneBringup → laneBringupKind s l = 0 → ((s.lane l).phase = 3 ∨ (s.lane l).phase = 4) →
        s.now ≤ (s.lane l).stepAt + tenMs →
        (u.lane l).rung = (s.lane l).proposed.getD (s.lane l).rung ∧ (u.lane l).attempts = 0 ∧ Raised s u 0x201)) ∧
  (∀ (s : State) (l : Nat) (blocks : List LineBlock), laneExists s l = true → usesBlocks s l = true →
    (s.lane l).state ≠ laneHeld → (s.lane l).blockLock = false → (∀ b ∈ blocks, blockValid b = false ∧ b.lpi = false) →
    Does (.blockLockGain l blocks) s fun u => Outside [.lan] s u ∧ (u.lane l).blockLock = false ∧
      (blocks ≠ [] → (u.lane l).good = 0 ∧ ((s.lane l).align < 66 → (u.lane l).align = ((s.lane l).align + blocks.length) % 66))) ∧
  (∀ (s : State) (l : Nat) (blocks : List LineBlock), laneExists s l = true → (s.lane l).state = laneLocked →
    (usesBlocks s l = false ∨ usesBlocks s l = true ∧ (s.lane l).blockLock = true ∧ (s.lane l).window = 0 ∧
      (s.lane l).bad = 0 ∧ blocks.length = 16 ∧ ∀ b ∈ blocks, blockValid b = false) →
    Does (.blockLockLoss l blocks) s fun u =>
      (u.lane l).state = laneUnlocked ∧ (u.lane l).unlockedAt = s.now ∧
      (usesBlocks s l = true → (u.lane l).blockLock = false) ∧
      ((isFast l = true ∨ isGeneral l = true) →
        u.num (laneIdx l) 0x0D = (s.num (laneIdx l) 0x0D + 1) % 2 ^ 32 ∧
        (usesBlocks s l = true → u.num (laneIdx l) 0x0E = (s.num (laneIdx l) 0x0E + 16) % 2 ^ 64)) ∧
      Outside [.cat, .mgmt, .lan] s u) ∧
  (∀ (s : State) (l : Nat), laneExists s l = true → (s.lane l).state = laneUnlocked →
    Does (.laneUnlockTimeout l) s fun u =>
      u.now = max s.now ((s.lane l).unlockedAt + tenMs) ∧
      (u.lane l).state = (if s.laneMayRun l then laneBringup else laneHeld) ∧ (u.lane l).failed = (s.lane l).failed ∧
      Outside [.now, .tim, .lan] s u) ∧
  (∀ (s : State) (l : Nat), ((s.lane l).phase = 3 ∨ (s.lane l).phase = 4) →
    Does (.rungStepTimeout l) s fun u =>
      u.now = max s.now ((s.lane l).stepAt + tenMs) ∧ (u.lane l).rung = (s.lane l).rung ∧
      ((s.lane l).attempts + 1 < s.num 0x050000 1 → (u.lane l).attempts = (s.lane l).attempts + 1) ∧
      (s.num 0x050000 1 ≤ (s.lane l).attempts + 1 →
        (u.lane l).ceiling = (s.lane l).proposed.getD (s.lane l).rung ∧ (u.lane l).attempts = 0 ∧ Raised s u 0x202) ∧
      Outside [.now, .cat, .mgmt, .tim, .lan] s u) ∧
  (∀ (s : State) (l : Nat) (w : BitVec 64), laneExists s l = true → (s.lane l).state ≠ laneHeld →
    Does (.ladderWord l w) s fun u => Outside [.cat, .mgmt, .ruling, .lan] s u ∧
      (ladderKind w.toNat = none → u = s) ∧
      ((ladderKind w.toNat).isSome = true → ∀ n, s.unitOfLane l = some n → u.num (subIdx n) 0x0F = w.toNat) ∧
      (ladderKind w.toNat = some 0 →
        (u.lane l).partnerMax = bits w.toNat 47 40 ∧ (u.lane l).partnerTarget = bits w.toNat 39 32) ∧
      (ladderKind w.toNat = some 1 → (s.lane l).state = laneBringup → ((s.lane l).phase = 1 ∨ (s.lane l).phase = 2) →
        (s.lane l).proposed = some (bits w.toNat 31 24) → u.lane l = { s.lane l with phase := 3, stepAt := s.now }) ∧
      (ladderKind w.toNat = some 2 → (s.lane l).phase = 3 → bits w.toNat 15 8 = 0 →
        u.lane l = { s.lane l with phase := 4, stepAt := s.now, blockLock := false, good := 0 }) ∧
      (ladderKind w.toNat = some 3 → (u.lane l).partnerDone = true)) ∧
  (∀ (s : State) (l : Nat) (result : Fin 3), (isFast l = true ∨ isGeneral l = true) → (s.lane l).state = laneBringup →
    laneBringupKind s l = 1 →
    Does (.standardBringupDone l result) s fun u =>
      (result = 0 → (u.lane l).state = laneLocked ∧ Raised s u 0x203) ∧ (result ≠ 0 → u.lan = s.lan ∧ Raised s u 0x203) ∧
      Outside [.fresh, .cat, .mgmt, .lan] s u)

/-- Port modes, laser light, engine faults, lane failures, start-up slots and management links take effect -/
def Obligations.PortsFollowModesLightAndFailures : Prop :=
  (∀ (s : State) (r : Req) (k : Fin 30) (sub : Fin 3) (v : Nat),
    AtOnce s r (ent (portIdx k) (sub + 1)) (.num v) (portModeRule k (sub + 1)) →
    Does (.portMode r k sub v) s fun u => Ok u ∧ u.num (portIdx k) (sub + 1) = v ∧
      (∀ i, i < portLanes k → (modeShape k (u.portMode k)).1 ≤ i → u.subState (unitOf k i) = spOff) ∧
      Outside [.cat, .gen, .ruling, .cap, .mgmt, .lan, .upd] s u) ∧
  (∀ (s : State) (e : Fin 8) (power : Int), engineFitted s e = true → (s.lan.engines.getD e {}).lightOk = false →
    signed 16 (s.num (0x050300 + e) 8) ≤ power →
    Does (.laserLit e power) s fun u => u.num (0x050300 + e) 2 = wrap 16 power ∧ Raised s u 0x220 ∧
      (e.val < s.lan.engines.length → (u.lan.engines.getD e {}).lightOk = true) ∧ Outside [.cat, .mgmt, .lan] s u) ∧
  (∀ (s : State) (e : Fin 8) (power : Int), engineFitted s e = true → (s.lan.engines.getD e {}).lightOk = true →
    power < signed 16 (s.num (0x050300 + e) 8) →
    Does (.laserDark e power) s fun u => u.num (0x050300 + e) 2 = wrap 16 power ∧ Raised s u 0x220 ∧
      (u.lan.engines.getD e {}).lightOk = false ∧ (∀ l, l < 8 → u.lane (laneCode (6 + e) l) = {}) ∧
      Outside [.cat, .mgmt, .lan] s u) ∧
  (∀ (s : State) (e : Fin 8) (cause : Fin 2) (enters : Bool) (temp : Int), engineFitted s e = true →
    ((s.lan.engines.getD e {}).faults / 2 ^ cause.val % 2 == 1) ≠ enters → (cause = 0 → (enters = true ↔ 1050 < temp)) →
    Does (.engineFault e cause enters temp) s fun u => u.num (0x050300 + e) 6 = wrap 16 temp ∧ Raised s u 0x222 ∧
      u.lan = { s.lan with engines := lmod s.lan.engines e fun x => { x with faults := x.faults ^^^ 2 ^ cause.val } } ∧
      Outside [.cat, .mgmt, .lan] s u ∧ EntriesOutside ((0x050300 + e.val, 0x050300 + e.val) :: eventRanges) s u) ∧
  (∀ (s : State) (l n : Nat) (cause : Fin 4), laneExists s l = true → (isOptical l = true ∨ cause = 1 ∨ cause = 3) →
    s.unitOfLane l = some n → (s.lane l).failed = false → (s.subState n = spUp ∨ s.subState n = spNarrow) →
    s.subLanes n / 2 ^ (portOf l).2 % 2 = 1 →
    Does (.laneFailure l cause) s fun u =>
      (mayReform (s.setLane l fun x => { x with failed := true }) n = true →
        u.subState n = spReforming ∧ (u.lane l).failed = true ∧ (u.sub n).since = s.now ∧ (u.sub n).oldSet = s.subLanes n) ∧
      (mayReform (s.setLane l fun x => { x with failed := true }) n = false →
        (u.subState n = spBringup ∨ u.subState n = spDown) ∧ Raised s u 0x211) ∧
      (isOptical l = true → Raised s u 0x221) ∧ Outside [.cat, .mgmt, .lan] s u) ∧
  (∀ (s : State) (i : Fin 30), s.lanesRun = true → groupStarted s i = false →
    Does (.laneGroupStart i) s fun u =>
      u.now = max s.now (s.lan.groupsAt + i * 1000000) ∧ u.lan.groupsDone = s.lan.groupsDone ++ [i.val] ∧
      Outside [.now, .cat, .tim, .lan] s u) ∧
  (∀ (s : State) (m : Fin 2) (speed : Nat), mgtSpeedOk s m speed = false → Idles (.mgtLinkChange m true speed) s) ∧
  (∀ (s : State) (m : Fin 2) (up : Bool) (speed : Nat), (up = true → mgtSpeedOk s m speed = true) →
    Does (.mgtLinkChange m up speed) s fun u =>
      u.num (0x050600 + m) 3 = (if up then 1 else 0) ∧ u.num (0x050600 + m) 4 = speed ∧
      u.subState (176 + m) = (if up then spUp else spDown) ∧ Raised s u 0x230 ∧ Outside [.cat, .mgmt] s u) ∧
  (∀ (s : State) (sp : Fin 178), s.subState sp = spBringup →
    ((maskLanes sp (s.fullMask sp)).any fun c => (s.lane c).failed) = true →
    Does (.bringupRetry sp) s fun u =>
      u.now = max s.now ((s.sub sp).retryAt + second) ∧ u.subState sp = spBringup ∧
      (∀ c ∈ maskLanes sp (s.fullMask sp), (u.lane c).state = if s.laneMayRun c then laneBringup else laneHeld) ∧
      Outside [.now, .cat, .tim, .lan] s u)

/-- A re-form or restore ends at its width or is abandoned after 10 µs; unused lanes retry in shadow until ready -/
def Obligations.SubPortsReformAndRestore : Prop :=
  (∀ (s : State) (sp : Fin 178) (dur m : Nat), (s.sub sp).agreed = some m → s.subState sp = spReforming → dur ≤ 25000 →
    Does (.reformComplete sp dur) s fun u =>
      u.now = max s.now ((s.sub sp).since + dur) ∧
      (newSet s sp m = none → (u.subState sp = spBringup ∨ u.subState sp = spDown) ∧ Raised s u 0x211) ∧
      (∀ set, newSet s sp m = some set → (∀ c ∈ maskLanes sp set, (s.lane c).failed = false) →
        u.subState sp = spNarrow ∧ u.subLanes sp = set ∧ u.num (subIdx sp) 2 = s.rateOn sp set ∧
        (u.sub sp).agreed = none ∧ Raised s u 0x212) ∧
      Outside [.now, .fresh, .cat, .mgmt, .tim, .lan] s u) ∧
  (∀ (s : State) (sp : Fin 178), s.subState sp = spReforming → (s.sub sp).agreed = none →
    Does (.reformPartnerTimeout sp) s fun u =>
      u.now = max s.now ((s.sub sp).since + 10000) ∧ (u.subState sp = spBringup ∨ u.subState sp = spDown) ∧ Raised s u 0x211 ∧
      u.num (subIdx sp) 0x0D = (s.num (subIdx sp) 0x0D + 1) % 2 ^ 32 ∧ Outside [.now, .cat, .mgmt, .tim, .lan] s u) ∧
  (∀ (s : State) (l n : Nat), laneExists s l = true → s.unitOfLane l = some n → s.subState n = spNarrow →
    s.subLanes n / 2 ^ (portOf l).2 % 2 = 0 → s.num (portIdx (portOf l).1) 6 / 2 ^ (portOf l).2 % 2 = 0 →
    Does (.shadowLaneRetry l) s fun u =>
      (u.lane l).shadow = true ∧ (u.lane l).failed = (s.lane l).failed ∧
      (u.lane l).state = (if s.laneMayRun l then laneBringup else laneHeld) ∧
      (s.laneMayRun l = true → laneBringupKind s l = 0 → (s.lane l).rung ≠ 255 → (u.lane l).rung = (s.lane l).rung) ∧
      Outside [.now, .tim, .lan] s u) ∧
  (∀ (s : State) (l n : Nat), laneExists s l = true → s.unitOfLane l = some n → s.subState n = spNarrow →
    s.subLanes n / 2 ^ (portOf l).2 % 2 = 0 → (s.lane l).shadow = true → (s.lane l).state = laneLocked →
    Does (.laneShadowReady l) s fun u =>
      u.now = max s.now ((s.lane l).shadowAt + second) ∧ u.lane l = { s.lane l with failed := false, shadow := false } ∧
      u.num (portIdx (portOf l).1) 6 = s.num (portIdx (portOf l).1) 6 ||| 2 ^ (portOf l).2 ∧
      Outside [.now, .cat, .mgmt, .tim, .lan] s u) ∧
  (∀ (s : State) (r : Req) (sp : Fin 178) (v : Nat), AtOnce s r (ent (subIdx sp) 4) (.num v) (restoreRule sp) →
    Does (.restore r sp v) s fun u =>
      (v = 0 → Ok u ∧ u.lan = s.lan) ∧
      (v ≠ 0 → s.flag (subIdx sp) 5 = true → s.subState sp = spNarrow → (s.sub sp).restoring = false → Ok u ∧ (u.sub sp).restoring = true ∧
        (u.sub sp).since = s.now ∧ (u.sub sp).agreed = none) ∧
      Outside [.cap, .lan, .upd] s u) ∧
  (∀ (s : State) (sp : Fin 178), (s.sub sp).restoring = true → (s.sub sp).agreed ≠ none →
    Does (.restoreComplete sp) s fun u =>
      u.subState sp = spUp ∧ u.subLanes sp = s.fullMask sp ∧ u.num (subIdx sp) 2 = s.rateOn sp (s.fullMask sp) ∧
      (u.sub sp).restoring = false ∧ (∀ c ∈ maskLanes sp (s.fullMask sp), (u.lane c).failed = false) ∧
      Raised s u 0x214 ∧ Outside [.cat, .mgmt, .lan] s u) ∧
  (∀ (s : State) (sp : Fin 178), (s.sub sp).restoring = true → (s.sub sp).agreed = none →
    Does (.restorePartnerTimeout sp) s fun u =>
      u.now = max s.now ((s.sub sp).since + 10000) ∧ (u.sub sp).restoring = false ∧ u.subState sp = s.subState sp ∧
      Outside [.now, .cat, .mgmt, .tim, .lan] s u)

/-- Bindings, frames and enables: a frame is counted, judged and taken by the flow it matches -/
def Obligations.FramesReachTheirFlows : Prop :=
  (∀ (s : State) (r : Req) (sp : Fin 178) (v : Nat), AtOnce s r (ent (bindIdx sp) 1) (.num v) (bindingRule sp) →
    Does (.subportBinding r sp v) s fun u => Ok u ∧ u.boundTo sp = v ∧
      Outside [.cat, .gen, .cap, .upd] s u) ∧
  (∀ (s : State) (sp : Fin 178) (ok : Bool) (b : List Byte),
    (subPasses s sp = false ∨ s.lanesRun = false ∧ sp.val < 176) → Idles (.rxFrame sp ok b) s) ∧
  (∀ (s : State) (sp : Fin 178) (b : List Byte), subPasses s sp = true → (s.lanesRun = true ∨ 176 ≤ sp.val) →
    Does (.rxFrame sp false b) s fun u => u.num (subIdx sp) 8 = (s.num (subIdx sp) 8 + 1) % 2 ^ 64 ∧ Outside [.cat] s u ∧
      EntriesOutside [(subIdx sp, subIdx sp)] s u) ∧
  (∀ (s : State) (sp : Fin 178) (b : List Byte), subPasses s sp = true → (s.lanesRun = true ∨ 176 ≤ sp.val) →
    Does (.rxFrame sp true b) s fun u => Outside [.cat, .mgmt, .tim, .rx, .tx, .noc, .mem] s u ∧
      (ptpEvent b = none → u.tim = s.tim) ∧
      (176 ≤ sp.val → u.rx = s.rx ∧ u.tx = (match mgtAnswer s (sp - 176) b with
        | some f => { s.tx with sent := s.tx.sent ++ [{ unit := sp, bytes := f }] }
        | none => s.tx)) ∧
      u.num (subIdx sp) 6 = (s.num (subIdx sp) 6 + 1) % 2 ^ 64 ∧
      u.num (subIdx sp) 7 = (s.num (subIdx sp) 7 + (b.length + 4)) % 2 ^ 64 ∧
      (sp.val < 176 → (7 < s.boundTo sp ∨ s.serving (s.boundTo sp) = false) →
        u.num (bindIdx sp) 2 = (s.num (bindIdx sp) 2 + 1) % 2 ^ 64 ∧ u.rx = s.rx) ∧
      (sp.val < 176 → s.boundTo sp ≤ 7 → s.serving (s.boundTo sp) = true →
        u.num (engIdx (s.boundTo sp)) 6 = (s.num (engIdx (s.boundTo sp)) 6 + 1) % 2 ^ 64 ∧
        (judgeFrame b = .headerError →
          u.num (engIdx (s.boundTo sp)) 7 = (s.num (engIdx (s.boundTo sp)) 7 + 1) % 2 ^ 64 ∧ u.rx = s.rx) ∧
        (judgeFrame b = .exception → s.num (engIdx (s.boundTo sp)) 9 ≠ 1 →
          u.num (engIdx (s.boundTo sp)) 8 = (s.num (engIdx (s.boundTo sp)) 8 + 1) % 2 ^ 64 ∧ u.rx = s.rx) ∧
        (∀ vlan dst port body pkt x, judgeFrame b = .udp vlan dst port body → parseRtp body = some pkt →
          ((s.rx.flows.filter fun x => x.1 / 4096 == s.boundTo sp && (rxKeys s x.1).contains (sp.val, vlan, dst, port)).find?
            fun x => rtpMatches s x.1 pkt) = some x →
          ((rxTb s x.1).armed = false → u.num (rxIdx x.1) 0x2E = (s.num (rxIdx x.1) 0x2E + 1) % 2 ^ 64 ∧ u.rx = s.rx) ∧
          ((rxTb s x.1).armed = true → (rxState s x.1 = rxWaiting ∨ rxState s x.1 = rxStarved) →
            rxState u x.1 = rxFilling ∧ u.num (rxIdx x.1) 0x29 = (s.num (rxIdx x.1) 0x29 + 1) % 2 ^ 64)))) ∧
  (∀ (s : State) (r : Req) (e : Fin 8) (f : Fin 4096),
    AtOnce s r (ent (rxIdx (e * 4096 + f)) 1) (.num 1) (rxFlowRule (e * 4096 + f) 1) → s.flag (rxIdx (e * 4096 + f)) 1 = false →
    Does (.rxFlowEnable r e f) s fun u => Ok u ∧ u.num (rxIdx (e * 4096 + f)) 1 = 1 ∧ rxState u (e * 4096 + f) = rxWaiting ∧
      rxOn u (e * 4096 + f) = true ∧ (∀ i, 0x27 ≤ i → i ≤ 0x33 → u.num (rxIdx (e * 4096 + f)) i = 0) ∧
      Outside [.cat, .gen, .cap, .rx, .upd] s u) ∧
  (∀ (s : State) (r : Req) (e : Fin 8) (f : Fin 4096),
    AtOnce s r (ent (rxIdx (e * 4096 + f)) 1) (.num 0) (rxFlowRule (e * 4096 + f) 1) → s.flag (rxIdx (e * 4096 + f)) 1 = true →
    Does (.rxFlowDisable r e f) s fun u => Ok u ∧ u.num (rxIdx (e * 4096 + f)) 1 = 0 ∧
      rxState u (e * 4096 + f) = rxDisabled ∧ rxOn u (e * 4096 + f) = false ∧ Outside [.cat, .gen, .cap, .mgmt, .rx, .upd] s u)

/-- Buffered packets are released and read ahead on time; silent and live legs, starved flows and seconds are noted -/
def Obligations.ReceiveFlowsReleaseAndWatch : Prop :=
  (∀ (s : State) (e : Fin 8) (f : Fin 4096) (n : Nat) (p : RxPkt) (rest : List RxPkt), n = e * 4096 + f →
    (s.rxFlow n).buf = p :: rest → (rxTb s n).armed = true → s.serving e = true →
    Does (.packetRelease e f) s fun u =>
      u.now = s.now + (rxTb s n).cyclesTo p.rel ∧ (u.rxFlow n).buf = rest ∧
      (u.rxFlow n).next = (p.seq + 1) % 2 ^ 32 ∧ u.num (rxIdx n) 0x33 = (p.seq + 1) % 2 ^ 32 ∧
      (rxState s n = rxFilling → rxState u n = rxPlays ∧ Raised s u 0x400) ∧
      Outside [.now, .cat, .mgmt, .tim, .rx, .tx, .noc, .mem] s u) ∧
  (∀ (s : State) (e : Fin 8) (f : Fin 4096) (n : Nat), n = e * 4096 + f → rxState s n = rxPlays →
    Does (.flowStarve e f) s fun u =>
      u.now = max s.now ((s.rxFlow n).lastAt + s.num (rxIdx n) 0x15 * 1000) ∧ rxState u n = rxStarved ∧ (u.rxFlow n).buf = [] ∧
      Raised s u 0x401 ∧ Outside [.now, .cat, .mgmt, .tim, .rx] s u) ∧
  (∀ (s : State) (e : Fin 8) (f : Fin 4096) (legB : Bool) (n : Nat), n = e * 4096 + f → rxOn s n = true →
    ((s.rxFlow n).leg legB).heard = true → legState s n legB ≠ 2 → (legB = true → s.num (rxIdx n) 5 ≠ 0) →
    Does (.legSilence e f legB) s fun u =>
      u.now = max s.now (((s.rxFlow n).leg legB).lastAt + ((s.rxFlow n).leg legB).gap) ∧ legState u n legB = 2 ∧
      Outside [.now, .cat, .mgmt, .tim] s u) ∧
  (∀ (s : State) (e : Fin 8) (f : Fin 4096) (legB : Bool) (n : Nat), n = e * 4096 + f → rxOn s n = true →
    ((s.rxFlow n).leg legB).heard = true → legState s n legB ≠ 1 → (legB = true → s.num (rxIdx n) 5 ≠ 0) →
    max s.now (((s.rxFlow n).leg legB).upSince + tenMs) ≤ ((s.rxFlow n).leg legB).lastAt + ((s.rxFlow n).leg legB).gap →
    Does (.legUp e f legB) s fun u =>
      u.now = max s.now (((s.rxFlow n).leg legB).upSince + tenMs) ∧ legState u n legB = 1 ∧
      Outside [.now, .cat, .mgmt, .tim] s u) ∧
  (∀ (s : State) (e : Fin 8) (f : Fin 4096) (n : Nat), n = e * 4096 + f → rxOn s n = true →
    Does (.marginSecondEnd e f) s fun u =>
      u.now = max s.now ((s.rxFlow n).legA.gapAt + second) ∧ (u.rxFlow n).legA.least = none ∧ (u.rxFlow n).legA.gapAt = u.now ∧
      ((s.rxFlow n).legA.least = none → u.num (rxIdx n) 0x25 = 0x7FFFFFFF) ∧
      (u.rxFlow n).buf = (s.rxFlow n).buf ∧ Outside [.now, .cat, .mgmt, .tim, .rx] s u) ∧
  (∀ (s : State) (e : Fin 8) (f : Fin 4096) (n : Nat) (p : RxPkt), n = e * 4096 + f →
    ((s.rxFlow n).buf.find? fun p => !p.back) = some p → (rxTb s n).armed = true → s.serving e = true →
    Does (.readAheadStart e f) s fun u =>
      u.now = s.now + (rxTb s n).cyclesTo (p.rel - 400000 * nsUnit) ∧
      ((targetOf s (engInit e) (s.num (rxIdx n) 0x13)).any (fun t => s.ni t == niOnline) = true →
        s.rx.staging.getD e 0 + bufferedBytes p ≤ dramStaging →
        u.rx.staging = s.rx.staging.set e (s.rx.staging.getD e 0 + bufferedBytes p) ∧
        (u.rxFlow n).buf = (s.rxFlow n).buf.map fun q => if q.seq = p.seq then { q with back := true } else q) ∧
      Outside [.now, .cat, .mgmt, .tim, .rx] s u) ∧
  (∀ (s : State) (e : Fin 8) (f : Fin 4096) (n : Nat), n = e * 4096 + f → (s.rxFlow n).noteDue = true →
    Does (.storeFrameWritten e f) s fun u => Outside [.mgmt, .rx] s u ∧ (u.rxFlow n).noteDue = false ∧
      (s.num (rxIdx n) 0x1A = 0xFFFF → u.mgmt = s.mgmt) ∧
      (s.num (rxIdx n) 0x1A ≠ 0xFFFF → u.mgmt.toShuttles = s.mgmt.toShuttles ++
        (List.range 8).map fun k => (8 * (s.num (rxIdx n) 0x1A / 256 % 64) + k, s.num (rxIdx n) 0x1A % 4))) ∧
  (∀ (s : State) (e : Fin 8) (i : Fin 16) (n : Nat), n = 16 * e + i → essRuns s n = true → (s.essPort n).out ≠ [] →
    Does (.essenceWordTaken e i) s fun u => (u.essPort n).out = (s.essPort n).out.drop 1 ∧
      u.num (essIdx n) 3 = (s.num (essIdx n) 3 + 1) % 2 ^ 64 ∧ Outside [.cat, .rx] s u)

/-- Transmit flows start, stop, hold words, read rings, send packets and accept takes -/
def Obligations.TransmitFlowsSendAndTake : Prop :=
  (∀ (s : State) (r : Req) (e : Fin 8) (f : Fin 4096) (n : Nat), n = e * 4096 + f →
    AtOnce s r (ent (txIdx n) 1) (.num 1) (txFlowRule n 1) → s.flag (txIdx n) 1 = false →
    Does (.txFlowEnable r e f) s fun u => Ok u ∧ u.num (txIdx n) 1 = 1 ∧ (u.txFlow n).srcs = [(0, recordSource s n)] ∧
      u.num (txIdx n) 0x37 = (u.txFlow n).next ∧ (∀ i, 0x2F ≤ i → i ≤ 0x36 → u.num (txIdx n) i = 0) ∧
      u.num (txIdx n) 2 = (if (s.tb (txFmt s n).tb).armed = true ∧ ((recordSource s n).kind = 0 ∨
          ((recordSource s n).kind = 4 ∧ rxPlaying s (recordSource s n).rx = false)) then txSilent else txWaiting) ∧
      Outside [.fresh, .cat, .gen, .cap, .tx, .upd] s u) ∧
  (∀ (s : State) (r : Req) (e : Fin 8) (f : Fin 4096) (n : Nat), n = e * 4096 + f →
    AtOnce s r (ent (txIdx n) 1) (.num 0) (txFlowRule n 1) → s.flag (txIdx n) 1 = true →
    Does (.txFlowDisable r e f) s fun u => Ok u ∧ u.num (txIdx n) 1 = 0 ∧ u.num (txIdx n) 2 = txDisabled ∧ txOn u n = false ∧
      u.ruling.timed = s.ruling.timed.filter (fun c => !(c.key == ent (takeIdx n) 0)) ∧
      Outside [.cat, .gen, .ruling, .cap, .mgmt, .tx, .upd] s u) ∧
  (∀ (s : State) (e : Fin 8) (i : Fin 16) (tag : BitVec 64) (data : BitVec 512) (p n : Nat) (w : EssWord),
    p = 16 * e + i → n = e * 4096 + bits tag.toNat 55 44 → w = { tag := tag.toNat, data := data.toNat } →
    Does (.transmitEssenceWord e i tag data) s fun u => Outside [.cat, .mgmt, .tx] s u ∧
      ((essRuns s p = false ∨ s.serving e = false ∨ 4096 ≤ heldWords s p) → u = passedPicks s n) ∧
      (essRuns s p = true → s.serving e = true → heldWords s p < 4096 →
        u.num (essIdx p) 6 = (s.num (essIdx p) 6 + 1) % 2 ^ 64 ∧
        (txOn s n = false → u.num (essIdx p) 7 = (s.num (essIdx p) 7 + 1) % 2 ^ 64 ∧ u.tx = s.tx) ∧
        (txOn s n = true → (txFmt s n).ess = 0 → w.kind = 0x10 → (s.txFlow n).low.isSome = true →
          (awaitedSource s n (((txFmt s n).picks s).start (framePick w))).kind = 1 →
          (awaitedSource s n (((txFmt s n).picks s).start (framePick w))).port = i →
          (s.tb (txFmt s n).tb).time ≤ firstDeparture s n (framePick w) →
          (u.txFlow n).pick = some (framePick w) ∧ (u.txFlow n).words = (s.txFlow n).words ++ [w] ∧ (u.txFlow n).expect = 0))) ∧
  (∀ (s : State) (e : Fin 8) (f : Fin 4096) (n m : Nat) (src : Source), n = e * 4096 + f → nextSlot s n = some (m, src) →
    s.serving e = true → (s.tb (txFmt s n).tb).armed = true →
    Does (.ringSlotRead e f) s fun u =>
      u.now = s.now + (s.tb (txFmt s n).tb).cyclesTo (firstDeparture s n m - 400000 * nsUnit) ∧
      (∀ t b, src.kind = 2 → readGranules (s.waitTb (txFmt s n).tb (firstDeparture s n m - 400000 * nsUnit)) (engInit e)
          (src.addr + (((m : Int) - src.lag) % (src.size / ringSlot s n : Nat)).toNat * ringSlot s n) (ringSlot s n / 64) false =
            (t, some b) →
        tget (u.txFlow n).ring m = some b) ∧
      (∀ t g, src.kind = 3 → readGranules (s.waitTb (txFmt s n).tb (firstDeparture s n m - 400000 * nsUnit)) (engInit e)
          ((src.ready + 8 * (((m : Int) - src.lag) % (src.size / ringSlot s n : Nat)).toNat) / 64 * 64) 1 false = (t, some g) →
        fieldBE g ((src.ready + 8 * (((m : Int) - src.lag) % (src.size / ringSlot s n : Nat)).toNat) % 64) 8
          ≠ wrap 64 ((m : Int) - src.lag) → src.rep = false →
        tget (u.txFlow n).ring m = some [] ∧ u.num (txIdx n) 0x32 = (s.num (txIdx n) 0x32 + 1) % 2 ^ 64) ∧
      Outside [.now, .fresh, .cat, .mgmt, .tim, .tx, .noc, .mem, .itg] s u) ∧
  (∀ (s q : State) (e : Fin 8) (f : Fin 4096) (n : Nat), n = e * 4096 + f → q = passedPicks s n → q.serving e = true →
    (q.tb (txFmt q n).tb).armed = true →
    (∀ src t, nextBuilt q n = some src → (q.txFlow n).queue = [] → t = q.waitTb (txFmt q n).tb (builtAt q n) →
      Uncut q n (mediaOf q n (q.txFlow n).frame) →
      Does (.txDeparture e f) s fun u => u.now = t.now ∧ Advanced q u n ∧ Outside [.now, .cat, .mgmt, .tim, .tx] s u ∧
        (∀ body, builtPayload q n src = some body →
          (isAudio (txFmt q n).ess = true ∨ (q.txFlow n).k ≠ 0 ∨ q.num (txIdx n) 0x1B = 255 ∨ trigOn q n = true) →
          Fits q n (builtPacket q n src body) →
          u.tx.sent = s.tx.sent ++ legFrames t n (builtPacket q n src body) false)) ∧
    (∀ p rest l, nextBuilt q n = none → (q.txFlow n).queue = p :: rest → (q.txFlow n).low = some l →
      (p.media < l ∨ (q.txFlow n).since p.media ≤ l) →
      Does (.txDeparture e f) s fun u => u.now = s.now + (s.tb (txFmt q n).tb).cyclesTo p.since ∧
        (u.txFlow n).queue = rest ∧ (p.media < l → u.tx.sent = s.tx.sent) ∧ Outside [.now, .cat, .mgmt, .tim, .tx] s u)) ∧
  (∀ (s : State) (e : Fin 8) (f : Fin 4096) (n : Nat) (src : Source) (t : State), n = e * 4096 + f → nextBuilt s n = some src →
    s.serving e = true → (s.tb (txFmt s n).tb).armed = true →
    (txLegs s n).any (fun b => s.subState (legSub s n b) == spNarrow) = true →
    ¬((txFmt s n).ess = 0 ∧ s.num (txIdx n) 0x18 = 2) → t = s.waitTb (txFmt s n).tb (builtAt s n) →
    Uncut s n (mediaOf s n (s.txFlow n).frame) →
    Does (.class0DiscardTimeout e f) s fun u =>
      u.now = (t.waitTb (txFmt s n).tb (builtAt s n + 20000 * nsUnit)).now ∧ Advanced s u n ∧
      Outside [.now, .cat, .mgmt, .tim, .tx] s u ∧
      (∀ body, builtPayload s n src = some body →
        (isAudio (txFmt s n).ess = true ∨ (s.txFlow n).k ≠ 0 ∨ s.num (txIdx n) 0x1B = 255 ∨ trigOn s n = true) →
        Fits s n (builtPacket s n src body) →
        u.tx.sent = s.tx.sent ++ legFrames t n (builtPacket s n src body) true)) ∧
  (∀ (s : State) (r : Req) (e : Fin 8) (f : Fin 4096) (b : List Byte) (n m : Nat), n = e * 4096 + f →
    Passes s r (ent (takeIdx n) 0) (.oct b) (takeRule n) → (carried r).toe = .none → m = evenPick s n (nextPickOf s (txFmt s n).tb) →
    admits s (timedCmd s r 0 (txFmt s n).tb m (ent (takeIdx n) 0) (.oct b)) = true →
    Does (.take r e f b) s fun u => u.cap.answer = { status := stAccepted, detail := m % 2 ^ 32 } ∧
      u.ruling.timed = s.ruling.timed ++ [timedCmd s r 0 (txFmt s n).tb m (ent (takeIdx n) 0) (.oct b)] ∧
      u.num (takeIdx n) 1 = (takeSource (ent (takeIdx n) 0) (.oct b)).kind ∧
      u.num (takeIdx n) 6 = (takeSource (ent (takeIdx n) 0) (.oct b)).flow ∧ u.tx = s.tx ∧
      Outside [.cat, .gen, .ruling, .cap] s u)

/-- An engine leaves service on command or fault with its flows disabled, trains in shadow, and returns by its task -/
def Obligations.EnginesLeaveServiceAndReturn : Prop :=
  (∀ (s : State) (r : Req) (e : Fin 8) (v : Nat), AtOnce s r (ent (svcIdx e) 2) (.num v) (removeRule e) →
    Does (.remove r e v) s fun u => Outside [.cat, .gen, .ruling, .cap, .mgmt, .rx, .tx, .upd] s u ∧
      (v = 1 → s.service e = svIn → (s.tx.svc.getD e {}).pattern = false → Ok u ∧ u.service e = svOut ∧ Raised s u 0x4C0 ∧
        (∀ x ∈ u.rx.flows, x.1 / 4096 ≠ e) ∧ (∀ x ∈ u.tx.flows, x.1 / 4096 ≠ e)) ∧
      (v = 1 → s.service e = svIn → (s.tx.svc.getD e {}).pattern = true → u.cap.answer = { status := stBusy } ∧
        u.rx = s.rx ∧ u.tx = s.tx ∧ u.cat = s.cat) ∧
      (v = 1 → (s.service e = svShadow ∨ s.service e = svReady) → Ok u ∧ u.service e = svOut ∧ Raised s u 0x4C0 ∧
        u.rx = s.rx ∧ u.tx = s.tx) ∧
      ((v ≠ 1 ∨ s.service e = svOut ∨ s.service e = svFailed) → Ok u ∧ u.rx = s.rx ∧ u.tx = s.tx ∧ u.cat = s.cat)) ∧
  (∀ (s : State) (e : Fin 8) (fault : Fin 4), s.service e ≠ svOut → s.service e ≠ svFailed →
    (fault = 3 → s.service e ≠ svIn) → s.pwr.halted = false → s.pwr.mgcOn = true →
    Does (.engineInternalFault e fault) s fun u => u.service e = svFailed ∧ Raised s u 0x4C0 ∧ Raised s u 0x4C1 ∧
      (fault ≠ 3 → u.num (svcIdx e) 5 = (s.num (svcIdx e) 5 + 1) % 2 ^ 32) ∧
      (s.service e = svIn → (∀ x ∈ u.rx.flows, x.1 / 4096 ≠ e) ∧ (∀ x ∈ u.tx.flows, x.1 / 4096 ≠ e)) ∧
      Outside [.cat, .gen, .ruling, .mgmt, .rx, .tx] s u) ∧
  (∀ (s : State) (e : Fin 8) (fault : Fin 4), (s.service e = svOut ∨ s.service e = svFailed ∨ (fault = 3 ∧ s.service e = svIn)) →
    Idles (.engineInternalFault e fault) s) ∧
  (∀ (s : State) (r : Req) (e : Fin 8) (v : Nat), AtOnce s r (ent (svcIdx e) 3) (.num v) (shadowRule e) →
    Does (.engineShadow r e v) s fun u => Ok u ∧
      (v = 1 → u.service e = svShadow ∧ Raised s u 0x4C0 ∧ u.tx.flows = s.tx.flows ∧
        (e.val < s.tx.svc.length → (u.tx.svc.getD e {}).shadowAt = s.now)) ∧
      (v ≠ 1 → u.tx = s.tx ∧ u.cat = s.cat) ∧ Outside [.cat, .cap, .mgmt, .tx, .upd] s u) ∧
  (∀ (s : State) (e : Fin 8), s.service e = svShadow →
    Does (.engineShadowReady e) s fun u => u.now = max s.now ((s.tx.svc.getD e {}).shadowAt + 100000000) ∧
      u.service e = svReady ∧ Raised s u 0x4C0 ∧ Outside [.now, .cat, .mgmt, .tim] s u) ∧
  (∀ (s : State) (r : Req) (e : Fin 8) (v : Nat), AtOnce s r (ent (svcIdx e) 4) (.num v) (engineReinstateRule e) →
    taskCost .engine ≤ s.capacity →
    Does (.engineReinstate r e v) s fun u => Ok u ∧
      u.ruling.untimed = s.ruling.untimed ++ (if v = 1 then [{ kind := .engine, obj := e, order := s.ruling.order }] else []) ∧
      Outside [.ruling, .cap, .upd] s u) ∧
  (∀ (s : State) (e : Fin 8), s.pwr.mgcOn = true →
    Does (.builtInPatternTestDone e) s fun u => Outside [.tx] s u ∧ u.tx = { s.tx with
      svc := lmod s.tx.svc e fun x => { x with pattern := false } })

/-- An instruction issues as the row of its format and operation, once, with the sequencing of delay slots and repeats -/
def Obligations.InstructionsIssueInTheirPlace : Prop :=
  (∀ (s : State) (h : Fin 512) (i : ShInstr) (x : Shuttle) (c : Instr), Stands s h i x → commandOf h i = some c →
    Does c s fun u => Outside [.fresh, .cat, .mgmt, .shu] s u ∧ (u.sh h).cycles = x.cycles + 1 ∧
      (c ≠ .mvco h → OthersKept s u h) ∧
      (i.redirects = false →
        (x.rpt = 0 → x.slots = 0 → (u.sh h).pc = nextPc x.pc ∧ (u.sh h).slots = 0) ∧
        (x.rpt = 0 → x.slots = 2 → (u.sh h).pc = nextPc x.pc ∧ (u.sh h).slots = 1) ∧
        (x.rpt = 0 → x.slots = 1 → x.retSlots = false →
          (u.sh h).pc = (if x.taken then x.target else nextPc x.pc) ∧ (u.sh h).slots = 0) ∧
        (x.rpt = 0 → x.slots = 1 → x.retSlots = true → (u.sh h).pc = x.savedPc ∧ (u.sh h).slots = 0 ∧
          (u.sh h).retSlots = false ∧ bitOf (u.sh h).st stInIrq = false) ∧
        (1 < x.rpt → x.slots = 0 → (u.sh h).pc = x.pc ∧ (u.sh h).rpt = x.rpt - 1) ∧
        (x.rpt = 1 → x.slots = 0 → (u.sh h).pc = nextPc x.pc ∧ (u.sh h).rpt = 0))) ∧
  (∀ (s : State) (h : Fin 512) (i j : ShInstr) (c d : Instr), s.fetched h = some i → commandOf h i = some c →
    commandOf h j = some d → d ≠ c → Idles d s)

/-- Q and A instructions give accumulators, the destination register and the flags what the tables of their operations say -/
def Obligations.QAndAluInstructionsCompute : Prop :=
  (∀ (s : State) (h : Fin 512) (lm sg : Nat) (m0 m1 m2 m3 : MacSlot) (lx ly : QLoad) (x : Shuttle),
    Issues s h (.q lm sg m0 m1 m2 m3 lx ly) x →
    Does (.qMac h) s fun u => Outside [.shu] s u ∧ OthersKept s u h ∧ (u.sh h).w = x.w ∧ (u.sh h).dm = x.dm ∧
      (u.sh h).p = ((x.qload lx 0).qload ly 1).p ∧ (u.sh h).a.length = x.a.length ∧
      (∀ k, k < 4 → k < x.a.length → ∀ mine, mine = [m0, m1, m2, m3].filter (fun m => decide (m.acc = k ∧ m.op ≠ 0)) →
        (mine = [] → (u.sh h).a.getD k 0 = x.a.getD k 0) ∧
        (mine ≠ [] → (u.sh h).a.getD k 0 = (addLanes lm (x.a.getD k 0) (mine.any fun m => m.op == 1)
          ((List.range (laneCount lm)).map fun i => (mine.map fun m =>
            let p := laneProduct lm sg (x.w.getD m.ra 0) (x.w.getD (8 + m.rb) 0) i
            if m.op = 3 then -p else p).sum)).1))) ∧
  (∀ (s : State) (h : Fin 512) (c : Instr) (op rd rs1 rs2 i imm a b : Nat) (mx my : MemAccess) (x : Shuttle)
    (f : Nat → Nat → Nat) (g : Nat → Nat → Bool),
    Issues s h (.alu op rd rs1 rs2 i imm mx my) x → a = x.w.getD rs1 0 →
    b = (if i = 1 then wrap 48 (signed 15 imm) else x.w.getD rs2 0) →
    (c, op, f, g) ∈ ([
      (.add h, 0x01, fun a b => (a + b) % 2 ^ 48, fun a b => decide (2 ^ 48 ≤ a + b)),
      (.sub h, 0x02, fun a b => (a + 2 ^ 48 - b) % 2 ^ 48, fun a b => decide (b ≤ a)),
      (.adds h, 0x03, fun a b => wrap 48 (clamp48 (signed 48 a + signed 48 b)), fun a b => decide (2 ^ 48 ≤ a + b)),
      (.subs h, 0x04, fun a b => wrap 48 (clamp48 (signed 48 a - signed 48 b)), fun a b => decide (b ≤ a)),
      (.and h, 0x05, fun a b => a &&& b, fun _ _ => false),
      (.or h, 0x06, fun a b => a ||| b, fun _ _ => false),
      (.xor h, 0x07, fun a b => a ^^^ b, fun _ _ => false),
      (.andn h, 0x08, fun a b => a &&& ((2 ^ 48 - 1) ^^^ b), fun _ _ => false),
      (.lsl h, 0x09, fun a b => a * 2 ^ (b % 64) % 2 ^ 48, fun a b => 0 < b % 64 && b % 64 ≤ 48 && bitOf a (48 - b % 64)),
      (.lsr h, 0x0A, fun a b => a / 2 ^ (b % 64), fun a b => 0 < b % 64 && bitOf a (b % 64 - 1)),
      (.asr h, 0x0B, fun a b => wrap 48 (signed 48 a / 2 ^ (b % 64)),
        fun a b => 0 < b % 64 && (signed 48 a / 2 ^ (b % 64 - 1)) % 2 == 1),
      (.min h, 0x0C, fun a b => if signed 48 a ≤ signed 48 b then a else b, fun _ _ => false),
      (.max h, 0x0D, fun a b => if signed 48 a ≤ signed 48 b then b else a, fun _ _ => false),
      (.abs h, 0x0E, fun a _ => wrap 48 (clamp48 (signed 48 a).natAbs), fun _ _ => false),
      (.neg h, 0x0F, fun a _ => wrap 48 (clamp48 (-(signed 48 a))), fun _ _ => false),
      (.cmp h, 0x10, fun a b => (a + 2 ^ 48 - b) % 2 ^ 48, fun a b => decide (b ≤ a)),
      (.tst h, 0x11, fun a b => a &&& b, fun _ _ => false),
      (.mov h, 0x12, fun _ b => b, fun _ _ => false)] : List (Instr × Nat × (Nat → Nat → Nat) × (Nat → Nat → Bool))) →
    Does c s fun u => Outside [.shu] s u ∧ OthersKept s u h ∧
      (u.sh h).w = (if op = 0x10 ∨ op = 0x11 then x.w else lset x.w rd (f a b)) ∧
      bitOf (u.sh h).st stN = bitOf (f a b) 47 ∧ bitOf (u.sh h).st stZ = (f a b == 0) ∧ bitOf (u.sh h).st stC = g a b ∧
      (op ≠ 0x03 → op ≠ 0x04 → op ≠ 0x0E → op ≠ 0x0F → bitOf (u.sh h).st stSV = bitOf x.st stSV) ∧
      (u.sh h).a = x.a ∧ (u.sh h).m = x.m ∧ (u.sh h).l = x.l ∧ (u.sh h).scl = x.scl ∧ (u.sh h).rc = x.rc ∧
      (u.sh h).dm = x.dm ∧ (u.sh h).p = (x.accesses mx my none none).p) ∧
  (∀ (s : State) (h : Fin 512) (c : Instr) (op rd rs1 rs2 i imm a b : Nat) (mx my : MemAccess) (x : Shuttle)
    (f : Nat → Nat → Nat),
    Issues s h (.alu op rd rs1 rs2 i imm mx my) x → a = x.w.getD rs1 0 →
    b = (if i = 1 then wrap 48 (signed 15 imm) else x.w.getD rs2 0) →
    (c, op, f) ∈ ([
      (.aluNop h, 0x00, fun _ _ => 0),
      (.padd24 h, 0x13, lanewise 24 fun x y => x + y),
      (.psub24 h, 0x14, lanewise 24 fun x y => x + 2 ^ 24 - y),
      (.padd12 h, 0x15, lanewise 12 fun x y => x + y),
      (.psub12 h, 0x16, lanewise 12 fun x y => x + 2 ^ 12 - y)] : List (Instr × Nat × (Nat → Nat → Nat))) →
    Does c s fun u => Outside [.shu] s u ∧ OthersKept s u h ∧
      (u.sh h).w = (if op = 0 then x.w else lset x.w rd (f a b)) ∧ (u.sh h).st = x.st ∧
      (u.sh h).a = x.a ∧ (u.sh h).m = x.m ∧ (u.sh h).l = x.l ∧ (u.sh h).scl = x.scl ∧ (u.sh h).rc = x.rc ∧
      (u.sh h).dm = x.dm ∧ (u.sh h).p = (x.accesses mx my none none).p)

/-- M and L instructions move accumulators, cascade words, registers, ports and memory words -/
def Obligations.MAndLInstructionsMoveValues : Prop :=
  (∀ (s : State) (h : Fin 512) (arr k width rd dm : Nat) (mx my : MemAccess) (x : Shuttle),
    Issues s h (.acc 0 arr k width rd dm mx my) x →
    Does (.mva h) s fun u => Outside [.shu] s u ∧ OthersKept s u h ∧ (u.sh h).a = x.a ∧
      (u.sh h).w = (if dm = 1 then x.w else lset x.w rd (scaledMove arr k width x.scl x.aPrev).1) ∧
      ((scaledMove arr k width x.scl x.aPrev).2 = true → bitOf (u.sh h).st stSV = true) ∧
      ((scaledMove arr k width x.scl x.aPrev).2 = false → (u.sh h).st = x.st)) ∧
  (∀ (s : State) (h : Fin 512) (op arr k width rd dm v : Nat) (mx my : MemAccess) (x : Shuttle) (c : Instr),
    Issues s h (.acc op arr k width rd dm mx my) x →
    (c, op, v) ∈ [(.ldaw h, 1, wrap 112 (signed 48 (x.w.getD rd 0))), (.mvci h, 4, x.ci),
      (.addci h, 5, wrap 112 (signed 112 (x.a.getD k 0) + signed 112 x.ci))] →
    Does c s fun u => Outside [.shu] s u ∧ OthersKept s u h ∧ (u.sh h).a = lset x.a k v ∧ (u.sh h).w = x.w ∧
      (u.sh h).dm = x.dm ∧ (op ≠ 5 → (u.sh h).st = x.st)) ∧
  (∀ (s : State) (h : Fin 512) (arr k width rd dm : Nat) (mx my : MemAccess) (x : Shuttle),
    Issues s h (.acc 2 arr k width rd dm mx my) x →
    Does (.clra h) s fun u => Outside [.shu] s u ∧ OthersKept s u h ∧ (u.sh h).w = x.w ∧ (u.sh h).st = x.st ∧
      (u.sh h).a = (if arr = 4 then List.replicate 4 0 else lset x.a k 0)) ∧
  (∀ (s : State) (h : Fin 512) (arr k width rd dm : Nat) (mx my : MemAccess) (x : Shuttle),
    Issues s h (.acc 3 arr k width rd dm mx my) x →
    Does (.mvco h) s fun u => Outside [.shu] s u ∧ (u.sh h).a = x.a ∧ (u.sh h).w = x.w ∧
      (successor s h = none → OthersKept s u h) ∧
      (∀ n, successor s h = some n → n ≠ h →
        (∀ j, j ≠ h → j ≠ n → u.sh j = s.sh j) ∧
        (s.shState n ≠ shRunning → (u.sh n).ci = x.aPrev.getD k 0 ∧ bitOf (u.sh n).st (pendBit 10) = true) ∧
        (s.shState n = shRunning → (u.sh n).ciDelayed = (s.sh n).ciDelayed ++
          [(if (s.sh n).cycles = x.cycles + 1 then x.cycles + 2 else (s.sh n).cycles + 2, x.aPrev.getD k 0)]))) ∧
  (∀ (s : State) (h : Fin 512) (dst imm : Nat) (x : Shuttle), Issues s h (.ldi dst imm) x →
    Does (.ldi h) s fun u => Outside [.cat, .mgmt, .shu] s u ∧ OthersKept s u h ∧
      (dst < 0x10 → (u.sh h).w = lset x.w dst imm) ∧
      (0x10 ≤ dst → dst ≤ 0x2A → dst ≠ 0x29 →
        (u.sh h).delayed = x.delayed ++ [{ wait := 1, reg := dst, val := imm }] ∧ (u.sh h).w = x.w) ∧
      (dst = 0x32 → (x.so.getD 0 []).length < 32 → (u.sh h).so = x.so.set 0 (x.so.getD 0 [] ++ [imm])) ∧
      (dst = 0x33 → (x.so.getD 1 []).length < 32 → (u.sh h).so = x.so.set 1 (x.so.getD 1 [] ++ [imm])) ∧
      (dst = 0x35 → x.fq.length < 3 → (u.sh h).fq = x.fq ++ [imm])) ∧
  (∀ (s : State) (h : Fin 512) (dst src : Nat) (x : Shuttle), Issues s h (.movr dst src) x → dst < 0x10 →
    Does (.movr h) s fun u => Outside [.fresh, .cat, .mgmt, .shu] s u ∧ OthersKept s u h ∧
      (src ≤ 0x2A → src ≠ 0x29 → (u.sh h).w = lset x.w dst (x.reg src)) ∧
      (∀ v rest, src = 0x30 → x.si.getD 0 [] = v :: rest →
        (u.sh h).w = lset x.w dst v ∧ (u.sh h).si = x.si.set 0 rest) ∧
      (∀ v rest, src = 0x31 → x.si.getD 1 [] = v :: rest →
        (u.sh h).w = lset x.w dst v ∧ (u.sh h).si = x.si.set 1 rest) ∧
      (src = 0x30 → x.si.getD 0 [] = [] → (u.sh h).w = lset x.w dst 0 ∧ bitOf (u.sh h).st stSE = true) ∧
      (src = 0x34 → (u.sh h).w = lset x.w dst x.sq) ∧
      (∀ v rest, src = 0x36 → x.fd = v :: rest → (u.sh h).w = lset x.w dst v ∧ (u.sh h).fd = rest) ∧
      (src = 0x37 → (u.sh h).w = lset x.w dst (s.num (shIdx h) 0x0F))) ∧
  (∀ (s : State) (h : Fin 512) (dst src : Nat) (x : Shuttle), Issues s h (.movr dst src) x → 0x10 ≤ dst → dst ≤ 0x2A →
    dst ≠ 0x29 → src ≤ 0x2A → src ≠ 0x29 →
    Does (.movr h) s fun u => (u.sh h).delayed = x.delayed ++ [{ wait := 1, reg := dst, val := x.reg src }] ∧
      (u.sh h).w = x.w ∧ Outside [.shu] s u ∧ OthersKept s u h) ∧
  (∀ (s : State) (h : Fin 512) (dst port addr : Nat) (x : Shuttle), Issues s h (.ldm dst port addr) x → dst ≠ 0x29 →
    Does (.ldm h) s fun u => Outside [.shu] s u ∧ OthersKept s u h ∧ (u.sh h).w = x.w ∧
      (u.sh h).delayed = x.delayed ++ [{ wait := 1, reg := dst, val := x.dmAt addr }]) ∧
  (∀ (s : State) (h : Fin 512) (dst port addr : Nat) (x : Shuttle), Issues s h (.stm dst port addr) x → dst ≠ 0x29 →
    Does (.stm h) s fun u => Outside [.shu] s u ∧ OthersKept s u h ∧ (u.sh h).w = x.w ∧ (u.sh h).dm = x.dm ∧
      (u.sh h).delayed = x.delayed ++ [{ wait := 1, reg := codeMem + addr, val := x.reg dst }])

/-- C instructions redirect, repeat, wait and end; runs end, fault, complete and take interrupts -/
def Obligations.ControlInstructionsAndRuns : Prop :=
  (∀ (s : State) (h : Fin 512) (x : Shuttle), Issues s h (.ctl 0 0 0) x →
    Does (.ctrlNop h) s fun u => Outside [.shu] s u ∧ OthersKept s u h ∧ (u.sh h).w = x.w ∧ (u.sh h).a = x.a ∧
      (u.sh h).p = x.p ∧ (u.sh h).st = x.st ∧ (u.sh h).dm = x.dm) ∧
  (∀ (s : State) (h : Fin 512) (cond opd : Nat) (x : Shuttle), Stands s h (.ctl 1 cond opd) x →
    Does (.br h) s fun u => Outside [.shu] s u ∧ OthersKept s u h ∧ (u.sh h).slots = 2 ∧ (u.sh h).retSlots = false ∧
      (u.sh h).taken = condHolds cond x.st2 ∧ (u.sh h).target = opd % 4096 ∧ (u.sh h).pc = nextPc x.pc ∧ (u.sh h).w = x.w) ∧
  (∀ (s : State) (h : Fin 512) (r opd v : Nat) (x : Shuttle), Stands s h (.ctl 2 r opd) x →
    v = (x.wD2.getD r 0 + 2 ^ 48 - 1) % 2 ^ 48 →
    Does (.dbnz h) s fun u => Outside [.shu] s u ∧ OthersKept s u h ∧ (u.sh h).slots = 2 ∧ (u.sh h).w = lset x.w r v ∧
      (u.sh h).taken = (v != 0) ∧ (u.sh h).target = opd % 4096 ∧ (u.sh h).pc = nextPc x.pc ∧ (u.sh h).st = x.st) ∧
  (∀ (s : State) (h : Fin 512) (cond opd : Nat) (x : Shuttle), Stands s h (.ctl 3 cond opd) x →
    Does (.rpt h) s fun u => Outside [.shu] s u ∧ OthersKept s u h ∧ (u.sh h).rpt = opd + 1 ∧ (u.sh h).pc = nextPc x.pc ∧
      (u.sh h).w = x.w) ∧
  (∀ (s : State) (h : Fin 512) (cond opd : Nat) (x : Shuttle), Stands s h (.ctl 4 cond opd) x →
    Does (.rptr h) s fun u => Outside [.cat, .mgmt, .shu] s u ∧ OthersKept s u h ∧ (u.sh h).w = x.w ∧
      ((x.rc = 0 ∨ s.num (shIdx h) 2 < x.rc) → (u.sh h).rpt = 0 ∧ (u.sh h).pc = nextPc (nextPc x.pc)) ∧
      (s.num (shIdx h) 2 < x.rc → bitOf (u.sh h).st stRPTX = true) ∧
      (x.rc ≠ 0 → x.rc ≤ s.num (shIdx h) 2 → (u.sh h).rpt = x.rc ∧ (u.sh h).pc = nextPc x.pc)) ∧
  (∀ (s : State) (h : Fin 512) (cond opd : Nat) (x : Shuttle), Stands s h (.ctl 5 cond opd) x →
    Does (.wait h) s fun u => Outside [.shu] s u ∧ OthersKept s u h ∧
      (x.descs = [] → (u.sh h).waiting = false ∧ bitOf (u.sh h).st stWTO = false) ∧
      (x.descs ≠ [] → (u.sh h).waiting = true ∧ (u.sh h).waitLeft = opd)) ∧
  (∀ (s : State) (h : Fin 512), s.runs h = true → (s.sh h).waiting = true →
    Does (.waitLimit h) s fun u => Outside [.shu] s u ∧ OthersKept s u h ∧ (u.sh h).waiting = false ∧
      bitOf (u.sh h).st stWTO = true ∧ (u.sh h).cycles = (s.sh h).cycles + (s.sh h).waitLeft) ∧
  (∀ (s : State) (h : Fin 512) (cond opd : Nat) (x : Shuttle), Stands s h (.ctl 6 cond opd) x →
    Does (.endRun h) s fun u => Outside [.shu] s u ∧ OthersKept s u h ∧ (u.sh h).ended = true ∧ (u.sh h).delayed = []) ∧
  (∀ (s : State) (h : Fin 512) (cond opd : Nat) (x : Shuttle), Stands s h (.ctl 7 cond opd) x →
    Does (.rti h) s fun u => Outside [.shu] s u ∧ OthersKept s u h ∧ (u.sh h).slots = 2 ∧ (u.sh h).retSlots = true ∧
      (u.sh h).pc = nextPc x.pc ∧ (u.sh h).savedPc = x.savedPc ∧ (u.sh h).st = x.st) ∧
  (∀ (s : State) (h : Fin 512), s.mayIssue h = true → s.fetched h = none →
    Does (.invalidInstruction h) s fun u => Outside [.cat, .mgmt, .shu] s u ∧ OthersKept s u h ∧ (u.sh h).ended = true ∧
      (u.sh h).cycles = (s.sh h).cycles + 1 ∧ Raised s u 0x831) ∧
  (∀ (s : State) (h : Fin 512), s.runs h = true →
    Does (.instructionFetchDbe h) s fun u => Outside [.cat, .mgmt, .clk, .shu] s u ∧ OthersKept s u h ∧
      u.shState h = shFailed ∧ (u.sh h).waiting = false ∧
      u.num (shIdx h) 0x15 = (s.num (shIdx h) 0x15 + 1) % 2 ^ 32 ∧ Raised s u 0x830) ∧
  (∀ (s : State) (h : Fin 512) (i : Nat) (x : Shuttle), s.runs h = true → s.qualifying h = some i → x = (s.front h).sh h →
    Does (.interruptTake h) s fun u => Outside [.fresh, .shu] s u ∧ OthersKept s u h ∧
      (u.sh h).savedPc = x.pc ∧ (u.sh h).savedSt = x.flush.st ∧ (u.sh h).pc = x.vector i % 4096 ∧
      bitOf (u.sh h).st stInIrq = true ∧ ((i < 6 ∨ 10 ≤ i) → bitOf (u.sh h).st (pendBit i) = false) ∧
      (u.sh h).waiting = false ∧ (x.waiting = false → (u.sh h).cycles = x.cycles + 3)) ∧
  (∀ (s : State) (h : Fin 512) (e n : Nat), s.shState h = shRunning → (s.sh h).ended = true → s.pwr.halted = false →
    e = s.num (shIdx h) 5 → n = (s.sh h).cycles + 6 →
    Does (.runComplete h) s fun u => Outside [.cat, .mgmt, .clk, .shu] s u ∧ OthersKept s u h ∧ u.shState h = shIdle ∧
      (u.sh h).ended = false ∧ u.num (shIdx h) 7 = n % 2 ^ 32 ∧
      ((s.sh h).declared e < n → u.num (shIdx h) 0x0C = (s.num (shIdx h) 0x0C + 1) % 2 ^ 32 ∧ Raised s u 0x812)) ∧
  (∀ (s : State) (h : Fin 512) (i : Fin 4), s.mgmt.toShuttles.contains (h.val, i.val) = true →
    Does (.shuttleEventInput h i) s fun u => Outside [.mgmt, .shu] s u ∧ OthersKept s u h ∧
      u.mgmt = { s.mgmt with toShuttles := s.mgmt.toShuttles.erase (h.val, i.val) } ∧
      bitOf (u.sh h).st (pendBit i) = true)

/-- Images, data memory, bindings, RUN and the control entries of shuttles take effect; stream words and fetches move -/
def Obligations.TheHostLoadsBindsAndRuns : Prop :=
  (∀ (s : State) (r : Req) (h : Fin 512) (b : List Byte), AtOnce s r (ent (0x081000 + h) 0) (.oct b) (imageRule h) →
    Does (.imageWrite r h b) s fun u => Ok u ∧ u.shState h = shIdle ∧ (u.sh h).image = b ∧
      (∀ i, i < fieldBE b 6 2 → (u.sh h).word i = fieldBE b (128 + 8 * i) 8) ∧ (u.sh h).dm = (s.sh h).dm ∧
      u.num (shIdx h) 4 = fieldBE b (b.length - 4) 4 ∧ Raised s u 0x813 ∧ OthersKept s u h ∧
      Outside [.cat, .gen, .cap, .mgmt, .clk, .shu, .upd] s u) ∧
  (∀ (s : State) (r : Req) (h : Fin 512) (b : List Byte), AtOnce s r (ent (0x082000 + h) 0) (.oct b) (dataMemoryRule h) →
    b.length ≤ 6 * 16384 →
    Does (.dataMemoryWrite r h b) s fun u => Ok u ∧
      (∀ i, i < b.length / 6 → (u.sh h).dmAt i = fieldBE b (6 * i) 6) ∧
      (∀ i, b.length / 6 ≤ i → i < 16384 → (u.sh h).dmAt i = (s.sh h).dmAt i) ∧ (u.sh h).pm = (s.sh h).pm ∧
      OthersKept s u h ∧ Outside [.gen, .cap, .shu, .upd] s u) ∧
  (∀ (s : State) (r : Req) (h : Fin 512) (k : Fin 4) (v : Nat),
    AtOnce s r (ent (shBindIdx (4 * h + k)) 1) (.num v) (shBindRule (4 * h + k) 1) →
    Does (.bindingEnable r h k v) s fun u => Ok u ∧ u.num (shBindIdx (4 * h + k)) 1 = v ∧
      Outside [.cat, .gen, .cap, .upd] s u ∧
      EntriesOutside [(shBindIdx (4 * h + k), shBindIdx (4 * h + k))] s u) ∧
  (∀ (s : State) (r : Req) (h : Fin 512) (v n : Nat), Passes s r (runKey h) (.num v) (runRule h) → (carried r).toe = .none →
    n = nextPickOf s (runTb s h) → (pendingCmds s).length < 4096 →
    Does (.run r h v) s fun u => u.cap.answer = { status := stAccepted, detail := n % 2 ^ 32 } ∧
      u.ruling.timed = s.ruling.timed ++ [timedCmd s r 0 (runTb s h) n (runKey h) (.num v)] ∧
      Outside [.ruling, .cap] s u) ∧
  (∀ (s : State) (r : Req) (h : Fin 512) (v : Nat), AtOnce s r (ent (shIdx h) 3) (.num v) (mapoutRule h) →
    Does (.mapout r h v) s fun u => Ok u ∧
      (v = 1 → s.shState h ≠ shMappedOut → u.shState h = shMappedOut ∧ Raised s u 0x833) ∧
      ((v ≠ 1 ∨ s.shState h = shMappedOut) → u.cat = s.cat ∧ u.shu = s.shu) ∧
      Outside [.cat, .cap, .mgmt, .clk, .shu, .upd] s u) ∧
  (∀ (s : State) (r : Req) (h : Fin 512) (v : Nat), AtOnce s r (ent (shIdx h) 0x0F) (.num v) (mailboxRule h) →
    Does (.mailbox r h v) s fun u => Ok u ∧ u.num (shIdx h) 0x0F = v ∧ bitOf (u.sh h).st (pendBit 12) = true ∧
      OthersKept s u h ∧ Outside [.cat, .gen, .cap, .shu, .upd] s u) ∧
  (∀ (s : State) (r : Req) (h : Fin 512) (v : Nat), AtOnce s r (ent (shIdx h) 2) (.num v) (rptCeilingRule h) →
    Does (.rptCeiling r h v) s fun u => Ok u ∧ u.num (shIdx h) 2 = v ∧ Outside [.cat, .gen, .cap, .upd] s u) ∧
  (∀ (s : State) (r : Req) (c : Fin 64) (v : Nat), AtOnce s r (ent (0x080400 + c) 3) (.num v) (clusterReinstateRule c) →
    taskCost .cluster ≤ s.capacity →
    Does (.clusterReinstate r c v) s fun u => Ok u ∧
      u.ruling.untimed = s.ruling.untimed ++ (if v = 1 then [{ kind := .cluster, obj := c, order := s.ruling.order }] else []) ∧
      Outside [.ruling, .cap, .upd] s u) ∧
  (∀ (s : State) (h : Fin 512) (port : Bool) (w : BitVec 48) (i : Nat), s.fabricRuns = true → s.pwr.halted = false →
    i = (if port then 1 else 0) →
    (((s.sh h).si.getD i []).length < 32 → Does (.shsInWord h port w) s fun u => Outside [.shu] s u ∧ OthersKept s u h ∧
      u.sh h = { s.sh h with si := (s.sh h).si.modify i fun q => q ++ [w.toNat] }) ∧
    (32 ≤ ((s.sh h).si.getD i []).length → Idles (.shsInWord h port w) s)) ∧
  (∀ (s : State) (h : Fin 512) (port : Bool), s.fabricRuns = true → s.pwr.halted = false →
    Does (.shsOutWord h port) s fun u => Outside [.shu] s u ∧ OthersKept s u h ∧
      u.sh h = { s.sh h with so := (s.sh h).so.modify (if port then 1 else 0) fun q => q.drop 1 }) ∧
  (∀ (s : State) (h : Fin 512) (failAt : Option Nat) (d : Desc) (rest : List Desc) (f : Fetch), (s.sh h).descs = d :: rest →
    s.pwr.halted = false → f = runDesc s h d failAt →
    Does (.fetchComplete h failAt) s fun u => Outside [.fresh, .cat, .mgmt, .shu, .noc, .mem, .itg] s u ∧ OthersKept s u h ∧
      (u.sh h).descs = rest ∧ (u.sh h).dm = (f.s.sh h).dm ∧
      (s.shState h ≠ shMappedOut → (s.sh h).fd.length < 8 → (u.sh h).fd = (s.sh h).fd ++
        [bits d.w3 47 40 * 2 ^ 40 + f.bad.getD stOk * 2 ^ 24 + f.moved % 2 ^ 24]) ∧
      (f.bad = none → d.w3 % 2 = 1 → bitOf (u.sh h).st (pendBit 4) = true) ∧
      (∀ st, f.bad = some st → st ≠ stOk → bitOf (u.sh h).st (pendBit 5) = true ∧ Raised f.s u 0x820))

/-- Requests, responses, timeouts and fabric ports of the network on chip -/
def Obligations.PacketsReachTargetsAndInitiators : Prop :=
  (∀ (s m : State) (p r q : NocPkt) (way : List Hop) (flips : List (Nat × Nat)) (bad : Nat × Nat), r = inFlight s p →
    r.kind ≤ kPartial → r.cls ≤ 2 → knownTarget r.target = true → mayArrive s r = true → travel s r none way = .through m →
    q = { r with addr := r.addr / 64 * 64, granules := if r.kind = kPartial then 1 else max 1 (min 16 r.granules) } →
    bad = wrongWords r flips → (bad.2 = 0 → niServes s r.target = true → hasRoom s r.target = true) →
    Does (.nocRequestAtTarget p way flips) s fun u => Outside [.cat, .mgmt, .noc, .mem, .itg] s u ∧ u.mem.bytes = s.mem.bytes ∧
      (bad.2 ≠ 0 → Raised s u 0xA08 ∧ u.num 0x090000 0x0A = (s.num 0x090000 0x0A + bad.2) % 2 ^ 64 ∧
        u.noc.flight = dropReq s.noc.flight q ++ [responseTo q kErrorResp stTargetUnavailable []]) ∧
      (u.num 0x090000 9 = (s.num 0x090000 9 + bad.1) % 2 ^ 64 ∨ bad.1 = 0) ∧
      (bad.2 = 0 → niServes s r.target = false →
        u.num (0x090800 + r.target) 3 = (s.num (0x090800 + r.target) 3 + 1) % 2 ^ 64 ∧
        u.noc.flight = dropReq s.noc.flight q ++ [responseTo q kErrorResp stTargetUnavailable []]) ∧
      (bad.2 = 0 → niServes s r.target = true → r.target < 0x30 → (r.target < 0x20 → ∀ k, packetAccess s q ≠ .barred k) →
        u.noc.flight = dropReq s.noc.flight q ∧ u.noc.accepted = s.noc.accepted ++ [q] ∧
        (0x20 ≤ r.target → u.mem.archQ = s.mem.archQ ++ [q]) ∧
        (r.target < 0x20 → r.target < s.mem.chans.length →
          (u.mch r.target).queue = (s.mch r.target).queue ++ [{ q with panic := q.panic && q.cls == 2 }])) ∧
      (bad.2 = 0 → niServes s r.target = true → r.target < 0x20 → ∀ k, packetAccess s q = .barred k →
        u.num (slIdx k) 0x0C = (s.num (slIdx k) 0x0C + 1) % 2 ^ 64 ∧
        u.noc.flight = dropReq s.noc.flight q ++ [responseTo q kErrorResp stTargetUnavailable []]) ∧
      (bad.2 = 0 → niServes s r.target = true → 0x30 ≤ r.target → r.target < 0x40 → r.kind = kRead →
        u.noc.flight = dropReq s.noc.flight q ++ [responseTo q kReadResp stOk (s.bytes q.addr (64 * q.granules))]) ∧
      (bad.2 = 0 → niServes s r.target = true → 0x40 ≤ r.target →
        u.noc.fabOut = s.noc.fabOut ++ [(r.target - 0x40, q)])) ∧
  (∀ (s m : State) (p r : NocPkt) (way : List Hop) (flips : List (Nat × Nat)), r = inFlight s p → r.kind ≤ kPartial →
    mayArrive s r = true →
    (travel s r none way = .held → Idles (.nocRequestAtTarget p way flips) s) ∧
    (travel s r none way = .stopped m → Does (.nocRequestAtTarget p way flips) s fun u => Outside [.noc, .cat] s u ∧
      u.noc.flight = dropReq s.noc.flight r ++ [responseTo r kErrorResp stTargetUnavailable []]) ∧
    (travel s r none way = .through m → (wrongWords r flips).2 = 0 → niServes s r.target = true → hasRoom s r.target = false →
      Idles (.nocRequestAtTarget p way flips) s)) ∧
  (∀ (s m : State) (p r : NocPkt) (way : List Hop) (flips : List (Nat × Nat)) (bad : Nat × Nat), r = inFlight s p →
    kReadResp ≤ r.kind → r.kind ≤ kErrorResp → r.init < 1024 → mayArrive s r = true → travel s r none way = .through m →
    bad = wrongWords r flips →
    Does (.nocResponseAtInitiator p way flips) s fun u => Outside [.cat, .mgmt, .noc] s u ∧
      u.noc.flight = dropReq s.noc.flight r ∧
      (outstandingReq s r.init r.tag = none → Raised s u 0xA0A ∧ u.num 0x090000 8 = (s.num 0x090000 8 + 1) % 2 ^ 64 ∧
        u.noc.outstanding = s.noc.outstanding) ∧
      (bad.2 ≠ 0 → Raised s u 0xA08) ∧
      (∀ t, outstandingReq s r.init r.tag = some t →
        u.noc.outstanding = s.noc.outstanding.eraseP (fun t => decide (t.pkt.init = r.init ∧ t.pkt.tag = r.tag)) ∧
        u.num (initIdx t.pkt.init) 3 = (s.num (initIdx t.pkt.init) 3 + 1) % 2 ^ 64 ∧
        (0x200 ≤ r.init → bad.2 = 0 → u.noc.fabRsp = s.noc.fabRsp ++ [((r.init - 0x200) / 16, r)]))) ∧
  (∀ (s : State) (i : Fin 1024) (tag : Fin 4096) (t : Trans), outstandingReq s i tag = some t →
    Does (.nocTimeout i tag) s fun u => u.now = max s.now (t.since + s.num 0x090000 5 * 1000) + 1 ∧
      u.noc.outstanding = s.noc.outstanding.eraseP (fun t => decide (t.pkt.init = i.val ∧ t.pkt.tag = tag.val)) ∧
      u.num (initIdx i) 0x0A = (s.num (initIdx i) 0x0A + 1) % 2 ^ 32 ∧ Outside [.now, .cat, .mgmt, .tim, .noc] s u) ∧
  (∀ (s : State) (b : Fin 4) (j : Fin 8) (p q : NocPkt) (first : Nat), first = 0x200 + 128 * b + 16 * j → s.clocksRun = true →
    q = { p with addr := p.addr / 64 * 64 % 2 ^ 48, granules := if p.kind = kPartial then 1 else max 1 (min 16 p.granules) } →
    ((p.init < first ∨ first + 16 ≤ p.init ∨ 2 < p.kind) → Does (.fabricPortRequest b j p) s fun u => Outside [.noc] s u ∧
      u.noc = { s.noc with
        fabRefused := lmod s.noc.fabRefused (8 * b.val + j.val) (· + 1)
        fabRsp := s.noc.fabRsp ++ [(8 * b.val + j.val, responseTo q kErrorResp stTargetUnavailable [])] }) ∧
    (first ≤ p.init → p.init < first + 16 → p.kind ≤ 2 →
      (s.noc.outstanding.filter fun t => decide (first ≤ t.pkt.init ∧ t.pkt.init < first + 16)).length < 64 →
      (targetOf s q.init q.addr = none → Does (.fabricPortRequest b j p) s fun u => Outside [.noc] s u ∧
        u.noc = { s.noc with fabRsp := s.noc.fabRsp ++ [(8 * b.val + j.val, responseTo q kErrorResp stTargetUnavailable [])] }) ∧
      (∀ t m, targetOf s q.init q.addr = some t →
        m = { q with target := t, epoch := injectEpoch s, cls := min (min q.cls 2) (s.num (initIdx q.init) 1), status := 0 } →
        Does (.fabricPortRequest b j p) s fun u => Outside [.noc] s u ∧
          u.noc = { s.noc with
            outstanding := s.noc.outstanding ++ [{ pkt := m, since := s.now }]
            flight := s.noc.flight ++ [m] })) ∧
    (first ≤ p.init → p.init < first + 16 → p.kind ≤ 2 →
      64 ≤ (s.noc.outstanding.filter fun t => decide (first ≤ t.pkt.init ∧ t.pkt.init < first + 16)).length →
      Idles (.fabricPortRequest b j p) s)) ∧
  (∀ (s : State) (b : Fin 4) (j : Fin 8) (p : NocPkt) (q : Nat × NocPkt), s.clocksRun = true → kReadResp ≤ p.kind →
    p.kind ≤ kErrorResp → (s.noc.fabOut.find? fun q => decide (q.1 = 8 * b.val + j.val ∧ q.2.init = p.init ∧ q.2.tag = p.tag)) = some q →
    Does (.fabricTargetResponse b j p) s fun u => Outside [.noc] s u ∧
      u.noc.fabOut = s.noc.fabOut.eraseP (fun r => decide (r.1 = 8 * b.val + j.val ∧ r.2.init = p.init ∧ r.2.tag = p.tag)) ∧
      u.noc.flight = s.noc.flight ++ [responseTo q.2 p.kind p.status p.data])

/-- NoC links replay, narrow, fail and return; route tables swap and the old epoch drains; targets and statistics clear -/
def Obligations.LinksNarrowAndTablesSwap : Prop :=
  (∀ (s : State) (l : Fin 160) (back : Bool) (k : Option (Fin 32)) (lane0 lane1 : Flips) (n : Nat),
    (laneFaulty lane0 || laneFaulty lane1) = true → s.num (linkIdx l) 3 ≠ lkFailed → replayed s l back k = some n →
    Does (.linkReplay l back k lane0 lane1) s fun u => Outside [.cat, .mgmt] s u ∧
      u.num (linkIdx l) 6 = (s.num (linkIdx l) 6 + 1) % 2 ^ 64 ∧ u.num (linkIdx l) 7 = (s.num (linkIdx l) 7 + n) % 2 ^ 64) ∧
  (∀ (s : State) (l : Fin 160) (back : Bool) (k : Option (Fin 32)) (lane0 lane1 : Flips), laneFaulty lane0 = false →
    laneFaulty lane1 = false → Idles (.linkReplay l back k lane0 lane1) s) ∧
  (∀ (s : State) (l : Fin 160) (lane : Fin 4) (transfers : List Flips), laneBad transfers = false →
    Idles (.nocLaneFailed l lane transfers) s) ∧
  (∀ (s : State) (l : Fin 160) (lane : Fin 4) (transfers : List Flips), laneBad transfers = true →
    s.num (linkIdx l) 4 / 2 ^ lane.val % 2 = 0 → s.num (linkIdx l) 3 ≠ lkFailed →
    Does (.nocLaneFailed l lane transfers) s fun u => Outside [.cat, .mgmt, .noc] s u ∧ Raised s u 0xA00 ∧
      u.num (linkIdx l) 4 = s.num (linkIdx l) 4 + 2 ^ lane.val ∧ u.num (linkIdx l) 5 = 0 ∧
      (s.num (linkIdx l) 4 / 4 ^ (lane.val / 2) % 4 ≠ 0 → u.num (linkIdx l) 3 = lkFailed ∧ Raised s u 0xA02) ∧
      (s.num (linkIdx l) 4 / 4 ^ (lane.val / 2) % 4 = 0 → s.num (linkIdx l) 3 = lkFull →
        u.num (linkIdx l) 3 = lkNarrowing ∧ (u.link l).failedAt = s.now - linkNs s l lane (sinceFault transfers)) ∧
      (s.num (linkIdx l) 4 / 4 ^ (lane.val / 2) % 4 = 0 → s.num (linkIdx l) 3 ≠ lkFull →
        u.num (linkIdx l) 3 = s.num (linkIdx l) 3)) ∧
  (∀ (s : State) (l : Fin 160) (dur : Nat), s.num (linkIdx l) 3 = lkNarrowing → dur ≤ 12000 →
    Does (.linkNarrow l dur) s fun u => u.now = max s.now ((s.link l).failedAt + dur) ∧ u.num (linkIdx l) 3 = lkNarrow ∧
      Raised s u 0xA01 ∧ Outside [.now, .cat, .mgmt, .tim] s u) ∧
  (∀ (s : State) (r : Req) (l : Fin 160) (v : Nat), AtOnce s r (ent (linkIdx l) 8) (.num v) (linkRetrainRule l) →
    Does (.linkRetrain r l v) s fun u => Ok u ∧ (v = 1 → u.num (linkIdx l) 5 = 1 ∧ (u.link l).shadowAt = s.now) ∧
      (v ≠ 1 → u.cat = s.cat ∧ u.noc = s.noc) ∧ Outside [.cat, .cap, .noc, .upd] s u) ∧
  (∀ (s : State) (l : Fin 160) (ok : Bool), s.num (linkIdx l) 5 = 1 →
    Does (.linkShadowReady l ok) s fun u => Raised s u 0xA03 ∧ Outside [.now, .cat, .mgmt, .tim] s u ∧
      (ok = true → u.num (linkIdx l) 5 = 2 ∧ u.now = max s.now ((s.link l).shadowAt + 1000000)) ∧
      (ok = false → u.num (linkIdx l) 5 = 0 ∧ u.now = s.now)) ∧
  (∀ (s : State) (r : Req) (l : Fin 160) (v : Nat), AtOnce s r (ent (linkIdx l) 9) (.num v) (linkReinstateRule l) →
    taskCost .nocLink ≤ s.capacity →
    Does (.linkReinstate r l v) s fun u => Ok u ∧
      u.ruling.untimed = s.ruling.untimed ++ (if v = 1 then [{ kind := .nocLink, obj := l, order := s.ruling.order }] else []) ∧
      Outside [.ruling, .cap, .upd] s u) ∧
  (∀ (s : State) (r : Req) (v : Nat), AtOnce s r (ent 0x090000 1) (.num v) swapRule →
    Does (.swap r v) s fun u => Ok u ∧ u.noc = (if v = 0 then s.noc else { s.noc with swapPend := true }) ∧
      Outside [.cap, .noc, .upd] s u) ∧
  (∀ s : State, s.noc.swapDue = true → s.ruling.window = true →
    Does .routeTableSwap s fun u => u.num 0x090000 3 = 1 - s.num 0x090000 3 ∧ u.num 0x090000 2 = 3 ∧
      u.oct 0x090011 0 = s.oct 0x090010 0 ∧ u.noc.oldTable = s.oct 0x090011 0 ∧ u.noc.swapDue = false ∧
      u.noc.swapPend = false ∧ u.noc.swapCmds = [] ∧ Raised s u 0xA05 ∧ Outside [.cat, .gen, .mgmt, .noc] s u) ∧
  (∀ s : State, (s.noc.swapDue = false ∨ s.ruling.window = false) → Idles .routeTableSwap s) ∧
  (∀ s : State, s.num 0x090000 2 = 3 → oldEpochLeft s = false →
    Does .oldEpochDrained s fun u => u.oct 0x090010 0 = s.noc.oldTable ∧ u.num 0x090000 2 = 0 ∧ u.noc.oldTable = [] ∧
      Raised s u 0xA06 ∧ Outside [.cat, .mgmt, .noc] s u) ∧
  (∀ s : State, (s.num 0x090000 2 ≠ 3 ∨ oldEpochLeft s = true) → Idles .oldEpochDrained s) ∧
  (∀ (s : State) (t : Fin 96), s.ni t = niDraining → acceptedAt s t = [] →
    Does (.targetNiDrained t) s fun u => u.ni t = niOffline ∧ Raised s u 0xA0B ∧ Outside [.cat, .mgmt] s u) ∧
  (∀ (s : State) (t : Fin 96), acceptedAt s t ≠ [] → Idles (.targetNiDrained t) s) ∧
  (∀ (s : State) (r : Req) (v : Nat), AtOnce s r (ent 0x090000 7) (.num v) statsClearRule →
    Does (.statsClear r v) s fun u => Ok u ∧ Outside [.cat, .cap, .noc, .upd] s u ∧
      (v = 0 → u.cat = s.cat ∧ u.noc = s.noc) ∧
      (v ≠ 0 → ∀ i, i < 1024 → u.num (initIdx i) 3 =
        (s.noc.recent.filter fun r => decide (r.at_ = s.now ∧ r.init = i)).length % 2 ^ 64) ∧
      (v ≠ 0 → (∀ r ∈ s.noc.recent, r.at_ ≠ s.now) → u.noc = { s.noc with latSum := [], pickBytes := [] } ∧
        (∀ e ∈ u.cat, 0x090400 ≤ e.1 / 256 → e.1 / 256 ≤ 0x0907FF → e.1 % 256 < 2) ∧
        EntriesOutside [(0x090400, 0x0907FF)] s u))

/-- Channels refresh, power down, track and train; requests complete at channels and archive slices with their bytes -/
def Obligations.ChannelsRefreshTrackAndServe : Prop :=
  (∀ (s : State) (c : Fin 32) (r : Fin 2) (x : Rank) (t : State), (s.mch c).ranks[r.val]? = some x → s.mcState c = mcOnline →
    x.selfRef = false → t = s.waitUntil x.dueAt →
    Does (.refreshDue c r) s fun u => u.now = max s.now x.dueAt ∧ Outside [.now, .cat, .mgmt, .tim, .mem] s u ∧
      u.mem.bytes = s.mem.bytes ∧ ∃ y, (u.mch c).ranks[r.val]? = some y ∧ y.dueAt = x.dueAt + trefi x.mult ∧
      (underPanic t c = true → debtNow t c x < 8 → y.debt = debtNow t c x + 1 ∧ y.catchAt = none ∧
        u.num (mchIdx c) 8 = (s.num (mchIdx c) 8 + 1) % 2 ^ 32) ∧
      (underPanic t c = true → 8 ≤ debtNow t c x → y.debt = 8 ∧ y.rows = [] ∧ y.down = false) ∧
      (underPanic t c = false → y.debt = debtNow t c x ∧ y.rows = [] ∧ y.down = false ∧
        (debtNow t c x = 0 → y.catchAt = none))) ∧
  (∀ (s : State) (c : Fin 32), (s.mch c).panicUntil ≠ 0 → (s.mch c).panicking = false →
    Does (.panicHoldEnd c) s fun u => u.now = max s.now (s.mch c).panicUntil ∧ (u.mch c).panicUntil = 0 ∧
      u.num (mchIdx c) 0x0E = (s.num (mchIdx c) 0x0E + ((s.mch c).panicUntil - (s.mch c).panicAt)) % 2 ^ 64 ∧
      Outside [.now, .cat, .tim, .mem] s u) ∧
  (∀ (s : State) (c : Fin 32) (r : Fin 2) (x : Rank), (s.mch c).ranks[r.val]? = some x → s.num 0x0A0000 4 ≠ 0 → x.down = false →
    x.selfRef = false → rankQueued s c r = false → s.mcState c = mcOnline →
    underPanic (s.waitUntil (x.idleAt + s.num 0x0A0000 4)) c = false →
    Does (.powerDownEntry c r) s fun u => u.now = max s.now (x.idleAt + s.num 0x0A0000 4) ∧
      (u.mch c).ranks[r.val]? = some { x with down := true, rows := [] } ∧
      u.num (mchIdx c) 0x0F = (s.num (mchIdx c) 0x0F + 1) % 2 ^ 32 ∧ Outside [.now, .cat, .tim, .mem] s u) ∧
  (∀ (s : State) (c : Fin 32) (mr4 : BitVec 3) (mr4Ok patternOk : Bool), s.mcState c = mcOnline → c.val < s.mem.chans.length →
    Does (.channelTracking c mr4 mr4Ok patternOk) s fun u => Outside [.now, .cat, .mgmt, .tim, .noc, .mem, .itg] s u ∧
      u.now = max s.now (s.mch c).trackAt ∧ (u.mcState c = mcOnline → (u.mch c).trackAt = (s.mch c).trackAt + 4000000) ∧
      (mr4Ok = true → u.num (mchIdx c) 4 = mr4.toNat ∧ u.num (mchIdx c) 5 = trefi (mr4Mult mr4.toNat)) ∧
      (mr4Ok = true → patternOk = true → (u.mch c).fails = 0 ∧ u.mcState c = mcOnline ∧ u.mem.bytes = s.mem.bytes) ∧
      ((mr4Ok = false ∨ patternOk = false) → Raised s u 0xB04 ∧
        u.num (mchIdx c) 0x10 = (s.num (mchIdx c) 0x10 + 1) % 2 ^ 32 ∧
        ((s.mch c).fails = 0 → (u.mch c).fails = 1 ∧ u.mcState c = mcOnline) ∧
        ((s.mch c).fails ≠ 0 → u.mcState c = mcLost ∧ u.ni c = niOffline ∧ (u.mch c).queue = [] ∧ Raised s u 0xB05))) ∧
  (∀ (s : State) (c : Fin 32) (ranks : Fin 3) (density : Nat) (failedStep : Option (Fin 6)), s.mcState c = mcTraining →
    c.val < s.mem.chans.length →
    Does (.channelTrainingEnd c ranks density failedStep) s fun u => Outside [.cat, .mgmt, .noc, .mem, .itg] s u ∧
      Raised s u 0xB00 ∧
      (failedStep = none → u.mcState c = mcOnline ∧ u.ni c = niOnline ∧ u.num (mchIdx c) 2 = ranks ∧
        u.num (mchIdx c) 3 = density ∧ (u.mch c).ranks = (List.range ranks).map (freshRank s) ∧ u.mem.bytes = s.mem.bytes) ∧
      (∀ k, failedStep = some k → u.mcState c = mcLost ∧ u.ni c = niOffline ∧ u.num (mchIdx c) 0x11 = k ∧ Raised s u 0xB05)) ∧
  (∀ (s : State) (t : Fin 64) (ix : Nat) (ups : List (BitVec 26 × Bool)) (p : NocPkt), t.val < 32 → s.pwr.halted = false → s.mcState t = mcOnline →
    nextIssue s t = some ix → p = (s.mch t).queue.getD ix {} →
    (packetAccess s p = .plain → Does (.memoryAccessComplete t ix ups) s fun u => Outside [.cat, .noc, .mem] s u ∧
      (u.mch t).queue = (s.mch t).queue.eraseIdx ix ∧ u.noc.accepted = dropReq s.noc.accepted p ∧
      (p.kind = kRead → u.mem.bytes = s.mem.bytes ∧
        u.noc.flight = s.noc.flight ++ [responseTo p kReadResp stOk (s.bytes (locationOf p.addr) (64 * p.granules))]) ∧
      (p.kind ≠ kRead → u.noc.flight = s.noc.flight ++ [responseTo p kWriteAck stOk []] ∧
        (∀ a, (a < locationOf p.addr ∨ locationOf p.addr + max 64 (64 * p.granules) ≤ a) →
          memRead u.mem.bytes a = memRead s.mem.bytes a)) ∧
      (p.kind = kWrite → p.data.length = 64 * p.granules → Memory.wf s.mem.bytes = true →
        ∀ i, i < 64 * p.granules → memRead u.mem.bytes (locationOf p.addr + i) = p.data.getD i 0) ∧
      (p.kind = kPartial → Memory.wf s.mem.bytes = true → ∀ i, i < 64 → memRead u.mem.bytes (locationOf p.addr + i) =
        if p.mask / 2 ^ i % 2 = 1 then p.data.getD i 0 else memRead s.mem.bytes (locationOf p.addr + i))) ∧
    (packetAccess s p = .guarded (p.addr / 2 ^ 44) → overflowBlocks s (p.addr / 2 ^ 44) p = false →
      s.slInteg (p.addr / 2 ^ 44) = true → p.kind = kRead →
      Does (.memoryAccessComplete t ix ups) s fun u => u.itg.waiting = s.itg.waiting ++ [p] ∧ u.noc = s.noc ∧
        u.mem.bytes = s.mem.bytes ∧ Outside [.cat, .mem, .itg] s u)) ∧
  (∀ (s : State) (t : Fin 64) (ix : Nat) (ups : List (BitVec 26 × Bool)), 48 ≤ t.val → Idles (.memoryAccessComplete t ix ups) s) ∧
  (∀ (s m : State) (t : Fin 64) (ix : Nat) (ups : List (BitVec 26 × Bool)) (p : NocPkt), 32 ≤ t.val → t.val < 48 →
    (s.mem.archQ.find? fun p => decide (p.target = t.val)) = some p → m = addUpsets s ((t.val - 32) / 4) ups →
    Does (.memoryAccessComplete t ix ups) s fun u => Outside [.cat, .mgmt, .noc, .mem] s u ∧
      u.mem.archQ = s.mem.archQ.eraseP (fun q => decide (q.target = t.val)) ∧ u.noc.accepted = dropReq s.noc.accepted p ∧
      (p.kind = kRead → markedIn m.mem.archBad p = [] →
        u.noc.flight = s.noc.flight ++ [responseTo p kReadResp stOk (s.bytes (locationOf p.addr) (64 * p.granules))]) ∧
      (p.kind ≠ kWrite → markedIn m.mem.archBad p ≠ [] → u.mem.bytes = s.mem.bytes ∧ (p.kind = kRead → Raised s u 0xB11) ∧
        u.noc.flight = s.noc.flight ++ [responseTo p kErrorResp stTargetUnavailable []]) ∧
      (p.kind = kRead → u.mem.bytes = s.mem.bytes) ∧
      (p.kind = kWrite → markedIn u.mem.archBad p = [] ∧ u.noc.flight = s.noc.flight ++ [responseTo p kWriteAck stOk []]) ∧
      (p.kind ≠ kRead → ∀ a, (a < locationOf p.addr ∨ locationOf p.addr + max 64 (64 * p.granules) ≤ a) →
        memRead u.mem.bytes a = memRead s.mem.bytes a))

/-- Key slots start, initialise, check, halt, overflow, evict and rekey -/
def Obligations.KeySlotsProtectAndHalt : Prop :=
  (∀ (s : State) (r : Req) (k : Fin 16), AtOnce s r (ent (slIdx k) 2) (.num 1) (slotEnableRule k) →
    Does (.slotEnable r k) s fun u => Ok u ∧ u.num (slIdx k) 2 = 1 ∧ Outside [.fresh, .cat, .gen, .cap, .mgmt, .itg, .upd] s u ∧
      (s.slState k = slDisabled → u.slState k = slInitialising ∧ Raised s u 0xC01 ∧ u.num (slIdx k) 9 = 0 ∧
        (k.val < s.itg.slots.length → (u.slot k).keys.isSome = true ∧ (u.slot k).newKeys = none)) ∧
      (s.slState k ≠ slDisabled → u.slState k = s.slState k ∧ u.itg = s.itg)) ∧
  (∀ (s : State) (r : Req) (k : Fin 16), AtOnce s r (ent (slIdx k) 2) (.num 0) (slotEnableRule k) →
    Does (.slotDisable r k) s fun u => Ok u ∧ u.num (slIdx k) 2 = 0 ∧ u.slState k = slDisabled ∧ u.slot k = {} ∧
      (∀ n ∈ u.itg.cache, n.slot ≠ k) ∧ (s.slState k ≠ slDisabled → Raised s u 0xC01) ∧
      (∀ p ∈ u.itg.waiting, ¬(p.kind ≠ kRead ∧ p.addr / 2 ^ 44 = k)) ∧
      Outside [.cat, .gen, .cap, .mgmt, .noc, .itg, .upd] s u) ∧
  (∀ (s : State) (k : Fin 16), s.slState k = slInitialising → s.pwr.halted = false →
    (channelsOf s (boltOf (s.dataBase k))).all (fun c => s.mcState c == mcOnline) = true →
    Does (.slotInitialised k) s fun u => u.slState k = slActive ∧ u.num (slIdx k) 7 = 1000000 ∧ Raised s u 0xC01 ∧
      (u.slot k).keys = (s.slot k).keys ∧ Outside [.cat, .mgmt, .mem, .itg] s u) ∧
  (∀ (s : State) (k : Fin 16), (s.slState k ≠ slInitialising ∨ s.pwr.halted = true) → Idles (.slotInitialised k) s) ∧
  (∀ (s t : State) (p : NocPkt) (k : Nat), s.pwr.halted = false → k = p.addr / 2 ^ 44 → t = unholdReq s p →
    (s.itg.waiting.find? fun p => decide (p.kind = kRead ∧ (!overflowBlocks s (p.addr / 2 ^ 44) p) = true)) = some p →
    (∀ j v b, packetAccess t p = .guarded j → readGuarded k t (granuleLocs p) = .ok (v, b) →
      Does .protectedReadChecked s fun u => u.noc.flight = v.noc.flight ++ [responseTo p kReadResp stOk b] ∧
        (0 < p.granules → u.num (slIdx k) 0x0A = (s.num (slIdx k) 0x0A + p.granules) % 2 ^ 64) ∧ u.itg.waiting = v.itg.waiting ∧
        u.pwr = s.pwr ∧ u.mem = s.mem) ∧
    (∀ j cause addr level, packetAccess t p = .guarded j → readGuarded k t (granuleLocs p) = .error (.halt cause addr level) →
      Does .protectedReadChecked s fun u => u.pwr.halted = true ∧ u.itg.haltLatched = true ∧ u.itg.cache = [] ∧
        u.num 0x0B0010 1 = cause ∧ u.num 0x0B0010 3 = addr ∧ u.num 0x0B0010 4 = level ∧ u.cfg.hemSafe = true ∧
        u.mem.bytes = s.mem.bytes) ∧
    (∀ j, packetAccess t p = .guarded j → readGuarded k t (granuleLocs p) = .error .refused →
      Does .protectedReadChecked s fun u => u.pwr = s.pwr ∧ u.itg.waiting = t.itg.waiting ∧
        u.noc.flight = s.noc.flight ++ [responseTo p kErrorResp stTargetUnavailable []]) ∧
    ((∀ j, packetAccess t p ≠ .guarded j) → Does .protectedReadChecked s fun u =>
      u.noc.flight = s.noc.flight ++ [responseTo p kErrorResp stTargetUnavailable []] ∧ u.pwr = s.pwr ∧
      u.itg.waiting = t.itg.waiting)) ∧
  (∀ s : State, (s.pwr.halted = true ∨ s.itg.waiting = []) → Idles .protectedReadChecked s) ∧
  (∀ s : State, s.itg.haltLatched = true →
    Does .haltRecordCommit s fun u => Raised s u 0xC00 ∧ u.itg = { s.itg with haltLatched := false } ∧
      Outside [.cat, .mgmt, .itg] s u) ∧
  (∀ s : State, s.itg.haltLatched = false → Idles .haltRecordCommit s) ∧
  (∀ (s : State) (k : Fin 16) (loc : Nat), s.pwr.halted = false → (s.slot k).overflow = some loc →
    Does (.minorOverflowComplete k) s fun u => ∀ t v, overflowLeaf s k (lineOf s k loc / 64) = .ok t →
      v = noteOverflow (t.setSlot k fun x => { x with overflow := none }) k 0 →
      ((v.itg.waiting.find? fun p => decide (p.kind ≠ kRead ∧ p.addr / 2 ^ 44 = k.val ∧ locationOf p.addr = loc)) = none →
        (u.slot k).overflow = none ∧ u.num (slIdx k) 0x0B = (t.num (slIdx k) 0x0B + 1) % 2 ^ 64 ∧ u.mem = t.mem) ∧
      (∀ p, (v.itg.waiting.find? fun p => decide (p.kind ≠ kRead ∧ p.addr / 2 ^ 44 = k.val ∧ locationOf p.addr = loc)) = some p →
        u = protectedWrite (unholdReq v p) k p false)) ∧
  (∀ (s : State) (k : Fin 16) (level idx : Nat) (n : CacheNode), cached s k level idx = some n → s.pwr.halted = false →
    (n.dirty = false → Does (.counterNodeEviction k level idx) s fun u => Outside [.itg] s u ∧ cached u k level idx = none ∧
      u.itg.slots = s.itg.slots) ∧
    (n.dirty = true → refusesMeta s (nodeLoc s k level idx) = true → s.slState k ≠ slDisabled → s.slState k ≠ slFailed →
      Does (.counterNodeEviction k level idx) s fun u => u.slState k = slFailed ∧ Raised s u 0xC02 ∧ u.mem = s.mem) ∧
    (∀ t, n.dirty = true → refusesMeta s (nodeLoc s k level idx) = false → evict s k level idx = .ok t →
      Does (.counterNodeEviction k level idx) s fun u => cached u k level idx = none ∧ u.pwr = s.pwr)) ∧
  (∀ (s : State) (k : Fin 16) (b : Nat), converting s k = true → conversionBlocked s k = false → b = s.num (slIdx k) 9 →
    s.slInteg k = false → (s.slot k).held = false →
    (rekeyAtEnd s k = false → (s.slot k).back = false → b + 4096 ≠ s.dataBase k + s.dataSize k →
      (∀ i, i < 64 → refusesMeta s (s.dataBase k + 4096 * ((b - s.dataBase k) / 4096) + 64 * i) = false) →
      Does (.rekeyGroupConversion k) s fun u => u.now = max s.now (nextConversion (s.slot k)) ∧
        u.num (slIdx k) 9 = b + 4096 ∧ u.slState k = slRekeying ∧ (u.slot k).keys = (s.slot k).keys) ∧
    (rekeyAtEnd s k = false → (s.slot k).back = false →
      refusesMeta s (s.dataBase k + 4096 * ((b - s.dataBase k) / 4096)) = true →
      Does (.rekeyGroupConversion k) s fun u => u = s.waitUntil (nextConversion (s.slot k))) ∧
    (rekeyAtEnd s k = true → (s.slot k).back = false → k.val < s.itg.slots.length →
      Does (.rekeyGroupConversion k) s fun u => u.slState k = slActive ∧ (u.slot k).keys = (s.slot k).newKeys ∧
        (u.slot k).newKeys = none ∧ u.now = s.now ∧ u.mem = s.mem)) ∧
  (∀ (s : State) (k : Fin 16), 2 ^ 63 ≤ s.num (slIdx k) 8 → s.pwr.halted = false → (s.slot k).told = false →
    (s.slState k = slActive → Does (.autoRekeyStart k) s fun u => u.slState k = slRekeying ∧ Raised s u 0xC05 ∧
      u.num (slIdx k) 9 = s.dataBase k ∧ (k.val < s.itg.slots.length → (u.slot k).newKeys.isSome = true ∧
        (u.slot k).auto = true ∧ (u.slot k).keys = (s.slot k).keys) ∧ Outside [.fresh, .cat, .mgmt, .itg] s u) ∧
    (s.slState k = slRekeying → Does (.autoRekeyStart k) s fun u => u.slState k = slRekeying ∧
      Raised s u 0xC05 ∧ u.itg = { s.itg with slots := lmod s.itg.slots k fun x => { x with told := true } } ∧
      Outside [.cat, .mgmt, .itg] s u)) ∧
  (∀ (s : State) (k : Fin 16), ((s.slot k).told = true ∨ s.num (slIdx k) 8 < 2 ^ 63) → Idles (.autoRekeyStart k) s)

/-- The service port carries frames; a staging opens, fills, verifies, expires, activates and is confirmed or reverted -/
def Obligations.UpdatesStageActivateAndConfirm : Prop :=
  (∀ (s : State) (b : List Byte), (s.cap.phase = .off ∨ s.cap.phase = .booting) → Idles (.svcSend b) s) ∧
  (∀ (s : State) (b : List Byte), s.cap.phase ≠ .off → s.cap.phase ≠ .booting →
    (s.upd.svcReq = true ∨ s.upd.svcRsp.isSome = true) →
    Does (.svcSend b) s fun u => Outside [.cat] s u ∧ u.num 0x100000 0x0E = (s.num 0x100000 0x0E + 1) % 2 ^ 32) ∧
  (∀ (s : State) (b : List Byte) (f : TxFrame) (key : Nat) (x : Seen),
    f = { port := .svc, ip := List.replicate 16 0, udp := 0, bytes := b } → MgcIdle s →
    (s.cap.phase = .unsealed ∨ s.cap.phase = .served) → s.upd.svcReq = false → s.upd.svcRsp = none →
    wellFormedFrame b = true → fMcast b = false → fSession b = 0 → fCrit b = false → fAtomic b = false → fToe b = .none →
    s.num 0x100000 0x0D = 0 → cachedFor s f = none → (∀ n, n < 8 → s.sesState n = 0) → s.cap.staged = [] →
    fRecs b = some [{ op := 1, rflags := 0, key := key, value := [] }] → key / 256 ≤ 0x00FFFF → seen s key = some x →
    x.field.acc ≠ .wo → x.priv = false → x.field.ty ≠ .octets → 50 + (readBytes s key).length ≤ 8192 →
    Does (.svcSend b) s fun u => u.upd.svcReq = false ∧ u.cap.sent = s.cap.sent ∧ MgcIdle u ∧
      u.upd.svcRsp = some (respHead s f 0 (50 + (readBytes s key).length) ++ respRecord 1 0 key stOk 0 (readBytes s key)) ∧
      u.num 0x010004 1 = (s.num 0x010004 1 + 1) % 2 ^ 64 ∧ u.num 0x010004 5 = (s.num 0x010004 5 + 1) % 2 ^ 64) ∧
  (∀ s : State, s.pwr.mgcOn = true →
    Does .svcReceive s fun u => Outside [.upd] s u ∧
      (∀ b, s.upd.svcRsp = some b → u.upd = { s.upd with svcOut := be 2 b.length ++ b, svcRsp := none }) ∧
      (s.upd.svcRsp = none → u.upd = { s.upd with svcOut := be 2 0 })) ∧
  (∀ s : State, s.pwr.mgcOn = true →
    Does .svcPoll s fun u => Outside [.upd] s u ∧ u.upd = { s.upd with
      svcOut := be 1 ((if s.upd.svcReq = true then 2 else 0) + (if s.upd.svcRsp.isSome = true then 1 else 0)) }) ∧
  (∀ (s : State) (r : Req) (n : Nat), AtOnce s r (ent 0x100100 2) (.num n) openRule →
    Does (.stagingOpen r n) s fun u => Ok u ∧ Outside [.cat, .cap, .mgmt, .upd] s u ∧ u.upd.chunks = [] ∧
      u.num 0x100100 3 = n ∧ u.num 0x100100 4 = 0 ∧ (s.sgState ≠ sgEmpty → Raised s u 0x062) ∧
      (n = 0 → u.sgState = sgEmpty) ∧ (n ≠ 0 → u.sgState = sgReceiving ∧ Raised s u 0x060)) ∧
  (∀ (s : State) (r : Req) (idx crc i : Nat) (data b : List Byte), b = be 4 idx ++ be 2 data.length ++ data ++ be 4 crc →
    i = fieldBE b 0 4 → AtOnce s r (ent 0x100101 0) (.oct b) chunkRule →
    Does (.chunkWrite r idx data crc) s fun u => Ok u ∧ Outside [.cat, .cap, .upd] s u ∧
      tget u.upd.chunks i = some (slice b 6 1024) ∧
      (chunkHeld s i = true → u.num 0x100100 4 = s.num 0x100100 4) ∧
      (chunkHeld s i = false → u.num 0x100100 4 = s.num 0x100100 4 + 1) ∧
      (u.num 0x100100 4 = s.num 0x100100 3 → u.sgState = sgVerifying) ∧
      (u.num 0x100100 4 ≠ s.num 0x100100 3 → u.sgState = sgReceiving)) ∧
  (∀ s : State, s.sgState = sgVerifying →
    Does .packageVerification s fun u => Raised s u 0x061 ∧ Outside [.cat, .cap, .mgmt, .upd] s u ∧
      (packageFault s = none → u.sgState = sgVerified ∧ u.num 0x100100 6 = 1 ∧ u.num 0x100100 7 = 0xFF) ∧
      (∀ c p, packageFault s = some (c, p) → u.sgState = sgFailed ∧ u.num 0x100100 6 = c ∧ u.num 0x100100 7 = p)) ∧
  (∀ s : State, s.sgState ≠ sgVerifying → Idles .packageVerification s) ∧
  (∀ s : State, (s.sgState = sgReceiving ∨ s.sgState = sgVerifying) →
    Does .stagingExpiry s fun u => u.now = s.now + expiryIn s ∧ u.sgState = sgFailed ∧ u.num 0x100100 6 = 9 ∧
      u.upd.chunks = [] ∧ Raised s u 0x062 ∧ Outside [.now, .cat, .mgmt, .tim, .upd] s u) ∧
  (∀ (s : State) (r : Req) (n : Nat) (c : TimedCmd), Passes s r (ent 0x100100 0x0A) (.num 1) activateRule → (carried r).toe = .none →
    n = activationPick s → c = timedCmd s r 0 s.rulingNext n (ent 0x100100 0x0A) (.num 1) → admits s c = true →
    Does (.activate r 1) s fun u => u.cap.answer = { status := stAccepted, detail := n % 2 ^ 32 } ∧
      u.ruling.timed = s.ruling.timed ++ [c] ∧ u.sgState = sgArmed ∧ u.upd.armedFrom = s.sgState ∧ u.upd.armedWho = some c ∧
      u.upd.prepared = false ∧ Raised s u 0x063 ∧ Outside [.cat, .ruling, .cap, .mgmt, .upd] s u) ∧
  (∀ (s : State) (r : Req), AtOnce s r (ent 0x100100 0x0A) (.num 0) activateRule →
    Does (.activate r 0) s fun u => Ok u ∧ Outside [.cap, .upd] s u ∧ u.sgState = s.sgState) ∧
  (∀ (s : State) (failed : Option (Fin 6)), s.sgState = sgArmed → s.upd.prepared = false →
    Does (.activationPrepared failed) s fun u => Outside [.cat, .ruling, .mgmt, .upd] s u ∧
      (failed = none → u.upd = { s.upd with prepared := true } ∧ u.sgState = sgArmed ∧ u.ruling = s.ruling) ∧
      (∀ p, failed = some p → u.sgState = sgFailed ∧ u.num 0x100100 6 = 7 ∧ u.num 0x100100 7 = p ∧ Raised s u 0x065 ∧
        u.ruling.timed = s.ruling.timed.filter (fun c => !isActivate c))) ∧
  (∀ s : State, s.num 0x100000 0x0D ≠ 0 → s.upd.revert = false → s.now ≤ s.upd.switchAt + second → MgcIdle s →
    Does .mgcConfirm s fun u => u.num 0x100000 0x0D = 0 ∧ Raised s u 0x064 ∧ u.upd.armedWho = none ∧ u.now = s.now) ∧
  (∀ s : State, (s.num 0x100000 0x0D = 0 ∨ s.upd.revert = true ∨ s.upd.switchAt + second < s.now) → MgcIdle s →
    Idles .mgcConfirm s) ∧
  (∀ s : State, s.num 0x100000 0x0D ≠ 0 → s.upd.revert = false → MgcIdle s →
    Does .confirmTimeout s fun u => u.now = max s.now (s.upd.switchAt + second) ∧
      (s.upd.rebooted = false → u.upd = { s.upd with revert := true } ∧ u.cat = s.cat) ∧
      (s.upd.rebooted = true → u.num 0x100000 0x0D = 0 ∧ u.sgState = sgFailed ∧ u.num 0x100100 6 = 8 ∧ Raised s u 0x065 ∧
        Raised s u 0x066 ∧ u.upd.rebooted = false))

/-- Every write command answers NOT_READY, the first failing check, the entry's refusal, or ACCEPTED with its pick -/
def Obligations.WritesAreRefusedAcceptedOrApplied : Prop :=
  ∀ (c : Instr) (q r : Req) (key : Nat) (v : Val) (rule : Rule) (s : State), writeOf c = some (q, key, v, rule) → r = carried q →
    (serves s key = false →
      Does c s fun u => u.cap.answer = { status := stNotReady } ∧ Outside [.cap] s u) ∧
    (∀ e : Stat, serves s key = true → checkWrite s r key v rule = some e →
      Does c s fun u => u.cap.answer = { status := e.1, detail := e.2 } ∧ Outside [.cap] s u) ∧
    (∀ e : Stat, serves s key = true → checkWrite s r key v rule = none → checkTiming s r 0 key v rule = .error e →
      Does c s fun u => u.cap.answer = { status := e.1, detail := e.2 } ∧ Outside [.cap] s u) ∧
    (∀ (p : Option Nat) (d : Done), serves s key = true → checkWrite s r key v rule = none →
      checkTiming s r 0 key v rule = .ok p → rule.judge s r v = some d →
      Does c s fun u => u.cap.answer = { status := d.status, detail := d.detail } ∧ (d.s = s → Outside [.cap] s u)) ∧
    (∀ n : Nat, Passes s q key v rule → checkTiming s r 0 key v rule = .ok (some n) →
      Does c s fun u => u.cap.answer = { status := stAccepted, detail := n % 2 ^ 32 } ∧
        u.ruling.timed = s.ruling.timed ++ [timedCmd s r 0 (rule.base s) n key v] ∧
        Outside [.cat, .gen, .ruling, .cap, .mgmt, .upd] s u) ∧
    (∀ n : Nat, Passes s q key v rule → checkTiming s r 0 key v rule = .ok none → rule.pick s v = some n →
      admits s (timedCmd s r 0 (rule.base s) n key v) = true →
      Does c s fun u => u.cap.answer = { status := stAccepted, detail := n % 2 ^ 32 } ∧
        u.ruling.timed = s.ruling.timed ++ [timedCmd s r 0 (rule.base s) n key v] ∧
        Outside [.cat, .gen, .ruling, .cap, .mgmt, .upd] s u) ∧
    (∀ n : Nat, Passes s q key v rule → checkTiming s r 0 key v rule = .ok none → rule.pick s v = some n →
      admits s (timedCmd s r 0 (rule.base s) n key v) = false →
      Does c s fun u => u.cap.answer = { status := stBusy } ∧ Outside [.cap] s u)

/-- While an engine is not IN_SERVICE, a write of ENABLE 1 to any of its flows returns ENGINE_OUT -/
def Obligations.EnginesOutRefuseEveryEnable : Prop :=
  ∀ (s : State) (r : Req) (e : Fin 8) (f : Fin 4096), s.service e ≠ svIn →
    (serves s (ent (rxIdx (e * 4096 + f)) 1) = true → (carried r).toe = .none →
      checkWrite s (carried r) (ent (rxIdx (e * 4096 + f)) 1) (.num 1) (rxFlowRule (e * 4096 + f) 1) = none →
      Does (.rxFlowEnable r e f) s fun u => u.cap.answer = { status := stEngineOut } ∧ Outside [.cap] s u) ∧
    (serves s (ent (txIdx (e * 4096 + f)) 1) = true → (carried r).toe = .none →
      checkWrite s (carried r) (ent (txIdx (e * 4096 + f)) 1) (.num 1) (txFlowRule (e * 4096 + f) 1) = none →
      Does (.txFlowEnable r e f) s fun u => u.cap.answer = { status := stEngineOut } ∧ Outside [.cap] s u) ∧
    (∀ (sub : Nat) (v : Val),
      ((flowChanges (rxIdx (e * 4096 + f)) sub v).any fun c => c.1 == 1 && valNum c.2 == 1) = true →
      (rxFlowRule (e * 4096 + f) sub).judge s r v = refuse s stEngineOut) ∧
    (∀ (sub : Nat) (v : Val),
      ((flowChanges (txIdx (e * 4096 + f)) sub v).any fun c => c.1 == 1 && valNum c.2 == 1) = true →
      (txFlowRule (e * 4096 + f) sub).judge s r v = refuse s stEngineOut)

/-- An accepted image leaves every word from WORDS on at all ones, and a program that reaches them ends with event 831h -/
def Obligations.AcceptedImagesEndInInvalidWords : Prop :=
  (∀ (s : State) (r : Req) (h : Fin 512) (b : List Byte), AtOnce s r (ent (0x081000 + h) 0) (.oct b) (imageRule h) →
    Does (.imageWrite r h b) s fun u => Ok u ∧ ∀ a, fieldBE b 6 2 ≤ a → a ≤ 4095 → (u.sh h).word a = 0xFFFFFFFFFFFFFFFF) ∧
  (∀ (s : State) (h : Fin 512), s.mayIssue h = true → (s.sh h).word (s.sh h).pc = 0xFFFFFFFFFFFFFFFF →
    s.fetched h = none ∧
    Does (.invalidInstruction h) s fun u => (u.sh h).ended = true ∧ Raised s u 0x831)

/-- At reset the device has no power, nothing waits, and the entries read their reset values -/
def Obligations.ResetLeavesTheDeviceOff : Prop :=
  State.reset.pending = [] ∧ State.reset.now = 0 ∧ State.reset.cat = [] ∧ State.reset.ruling.timed = [] ∧
  State.reset.ruling.sched = [] ∧ State.reset.pwr.mgcOn = false ∧ State.reset.cap.phase = .off ∧
  State.reset.mem.bytes = [] ∧ State.reset.mgmt.ring = [] ∧ State.reset.clocksRun = false ∧ MgcIdle State.reset ∧
  State.reset.num 0x030000 1 = 0 ∧ State.reset.num 0x030000 2 = 8 ∧ State.reset.num 0x030000 3 = 1000 ∧
  State.reset.num 0x010001 1 = 50110 ∧ State.reset.num 0x010018 1 = 30 ∧ State.reset.num 0x0C0000 1 = 0 ∧
  State.reset.num 0x050000 1 = 3 ∧ State.reset.num 0x090000 5 = 1000 ∧ State.reset.num 0x0A0000 3 = 2000 ∧
  Memory.wf State.reset.mem.bytes = true ∧ State.reset.mem.chans.length = 32 ∧ State.reset.mem.rates.length = 4

/-- Every step keeps memory in its canonical form and the number of channels and rates -/
def Obligations.EveryStepKeepsTheMemoryForm : Prop :=
  ∀ s t : State,
    (Memory.wf s.mem.bytes = true ∧ s.mem.chans.length = 32 ∧ s.mem.rates.length = 4) → step s = .next t →
    Memory.wf t.mem.bytes = true ∧ t.mem.chans.length = 32 ∧ t.mem.rates.length = 4

/-- Decoding the word of every valid shuttle instruction gives the instruction back -/
def Obligations.ShuttleInstructionsSurviveEncoding : Prop :=
  ∀ i : ShInstr, i.valid = true → i.fits = true → decodeShuttle (encodeShuttle i) = some i
end

