-- ==== Sys2Proof/Laws/Tables.lean ====
section
/-! SUPPORT. Laws of the sparse tables, of memory bytes, and of catalogue entries. -/

namespace Sys2Proof.Machine

/-! ### Tables -/

@[simp] theorem tget_nil {α : Type} (k : Nat) : tget ([] : Tbl α) k = none := rfl

@[simp] theorem tget_tput_self {α : Type} (t : Tbl α) (k : Nat) (v : α) : tget (tput t k v) k = some v := by
  induction t with
  | nil => simp [tput, tget]
  | cons x r ih =>
    obtain ⟨j, w⟩ := x
    by_cases h : j = k
    · simp [tput, tget, h]
    · by_cases h2 : k < j <;> simp [tput, tget, h, h2, ih]

theorem tget_tput_ne {α : Type} (t : Tbl α) (k j : Nat) (v : α) (h : k ≠ j) : tget (tput t k v) j = tget t j := by
  induction t with
  | nil => simp [tput, tget, h]
  | cons x r ih =>
    obtain ⟨i, w⟩ := x
    by_cases h1 : i = k
    · subst h1; simp [tput, tget, h]
    · by_cases h2 : k < i
      · simp [tput, tget, h1, h2, h]
      · by_cases h3 : i = j
        · subst h3; simp [tput, tget, h1, h2]
        · simp [tput, tget, h1, h2, h3, ih]

theorem tget_tput {α : Type} (t : Tbl α) (k j : Nat) (v : α) :
    tget (tput t k v) j = if k = j then some v else tget t j := by
  split
  · next h => subst h; simp
  · next h => exact tget_tput_ne t k j v h

@[simp] theorem tgetD_tput_self {α : Type} (t : Tbl α) (k : Nat) (v d : α) : tgetD (tput t k v) k d = v := by
  simp [tgetD]

theorem tgetD_tput_ne {α : Type} (t : Tbl α) (k j : Nat) (v d : α) (h : k ≠ j) : tgetD (tput t k v) j d = tgetD t j d := by
  simp [tgetD, tget_tput_ne t k j v h]

/-- Every key of a table is at least a bound. -/
theorem rising_cons {α : Type} (x : Nat × α) (t : Tbl α) :
    rising (x :: t) = true ↔ (∀ y ∈ t.head?, x.1 < y.1) ∧ rising t = true := by
  cases t with
  | nil => simp [rising]
  | cons y r => simp [rising]

theorem head_tput {α : Type} (t : Tbl α) (k : Nat) (v : α) (y : Nat × α) (h : y ∈ (tput t k v).head?) :
    y.1 = k ∨ y ∈ t.head? := by
  cases t with
  | nil => simp [tput] at h; subst h; exact Or.inl rfl
  | cons x r =>
    obtain ⟨j, w⟩ := x
    by_cases h1 : j = k
    · simp [tput, h1] at h; subst h; exact Or.inl rfl
    · by_cases h2 : k < j
      · simp [tput, h1, h2] at h; subst h; exact Or.inl rfl
      · simp [tput, h1, h2] at h; subst h; right; simp

/-- Putting a value keeps the keys rising. -/
theorem rising_tput {α : Type} (t : Tbl α) (k : Nat) (v : α) (h : rising t = true) : rising (tput t k v) = true := by
  induction t with
  | nil => simp [tput, rising]
  | cons x r ih =>
    obtain ⟨j, w⟩ := x
    rw [rising_cons] at h
    by_cases h1 : j = k
    · simp only [tput, h1, if_true]
      rw [rising_cons]; exact ⟨by simpa [h1] using h.1, h.2⟩
    · by_cases h2 : k < j
      · simp only [tput, h1, h2, if_true, if_false]
        rw [rising_cons]
        refine ⟨by simp [h2], ?_⟩
        rw [rising_cons]; exact h
      · simp only [tput, h1, h2, if_false]
        rw [rising_cons]
        refine ⟨fun y hy => ?_, ih h.2⟩
        rcases head_tput r k v y hy with e | e
        · have := e; simp only; omega
        · exact h.1 y e

theorem lt_of_rising {α : Type} (x : Nat × α) (t : Tbl α) (h : rising (x :: t) = true) : ∀ y ∈ t, x.1 < y.1 := by
  induction t generalizing x with
  | nil => simp
  | cons z r ih =>
    rw [rising_cons] at h
    intro y hy
    have hz : x.1 < z.1 := h.1 z (by simp)
    rcases List.mem_cons.1 hy with e | e
    · rw [e]; exact hz
    · exact Nat.lt_trans hz (ih z h.2 y e)

/-- A part of a table with rising keys has rising keys. -/
theorem rising_filter {α : Type} (t : Tbl α) (p : Nat × α → Bool) (h : rising t = true) : rising (t.filter p) = true := by
  induction t with
  | nil => simp [rising]
  | cons x r ih =>
    have ht : rising r = true := (rising_cons x r).1 h |>.2
    by_cases hp : p x = true
    · rw [List.filter_cons_of_pos hp, rising_cons]
      refine ⟨fun y hy => ?_, ih ht⟩
      have : y ∈ r.filter p := List.mem_of_mem_head? hy
      exact lt_of_rising x r h y (List.mem_filter.1 this).1
    · rw [List.filter_cons_of_neg hp]; exact ih ht

theorem rising_tdel {α : Type} (t : Tbl α) (k : Nat) (h : rising t = true) : rising (tdel t k) = true :=
  rising_filter t _ h

/-! ### Entries -/

theorem ent_inj (i j a b : Nat) (ha : a < 256) (hb : b < 256) : ent i a = ent j b ↔ i = j ∧ a = b := by
  simp only [ent]; omega

@[simp] theorem ent_div (i a : Nat) (ha : a < 256) : ent i a / 256 = i := by simp only [ent]; omega
@[simp] theorem ent_mod (i a : Nat) (ha : a < 256) : ent i a % 256 = a := by simp only [ent]; omega

theorem tget_put (s : State) (i a n k : Nat) :
    tget (s.put i a n).cat k = if ent i a = k then some (.num n) else tget s.cat k := tget_tput _ _ _ _

/-- An entry that the device sets reads what was set. -/
@[simp] theorem num_put_self (s : State) (i a n : Nat) : (s.put i a n).num i a = n := by
  simp [State.num, State.val, tget_put, valNum]

/-- An entry reads as the stored value where one is stored. -/
theorem num_of_tget (s : State) (i a n : Nat) (h : tget s.cat (ent i a) = some (.num n)) : s.num i a = n := by
  simp [State.num, State.val, h, valNum]

/-- The stored value of an entry and what its default depends on determine what it reads. -/
theorem val_congr (s t : State) (k : Nat) (h : tget t.cat k = tget s.cat k)
    (h4 : ∀ b, 4 ≤ b → b ≤ 6 → tget t.cat (ent (k / 256) b) = tget s.cat (ent (k / 256) b)) (hu : t.unit = s.unit)
    (hx : t.pwr.xoSel = s.pwr.xoSel) (hp : t.pwr.pullSel = s.pwr.pullSel) (hc : t.cfg.compiled = s.cfg.compiled) :
    t.val k = s.val k := by
  have hd : defaultVal t k = defaultVal s k := by
    have hu' : unitDefault t (k / 256) (k % 256) = unitDefault s (k / 256) (k % 256) := by
      by_cases hr : 7 ≤ k % 256 ∧ k % 256 ≤ 9
      · simp only [unitDefault, hu, hx, hp, hc, h4 4 (by decide) (by decide), h4 (k % 256 - 3) (by omega) (by omega)]
      · simp only [unitDefault, hu, hx, hp, hc, h4 4 (by decide) (by decide), hr, and_false, if_false]
    simp only [defaultVal, hu']
  simp only [State.val, h, hd]

theorem num_congr (s t : State) (i a : Nat) (ha : a < 256) (h : tget t.cat (ent i a) = tget s.cat (ent i a))
    (h4 : ∀ b, 4 ≤ b → b ≤ 6 → tget t.cat (ent i b) = tget s.cat (ent i b)) (hu : t.unit = s.unit) (hx : t.pwr.xoSel = s.pwr.xoSel)
    (hp : t.pwr.pullSel = s.pwr.pullSel) (hc : t.cfg.compiled = s.cfg.compiled) : t.num i a = s.num i a := by
  simp only [State.num]
  rw [val_congr s t (ent i a) h (by rw [ent_div i a ha]; exact h4) hu hx hp hc]

/-- What the device sets in one record leaves the others as they read. -/
theorem num_put_ne (s : State) (i a n j b : Nat) (ha : a < 256) (hb : b < 256) (h : i ≠ j) :
    (s.put i a n).num j b = s.num j b := by
  refine num_congr s _ j b hb ?_ ?_ rfl rfl rfl rfl
  · rw [tget_put, if_neg]; rw [ent_inj _ _ _ _ ha hb]; exact fun e => h e.1
  · intro c _ hc; rw [tget_put, if_neg]; rw [ent_inj _ _ _ _ ha (by omega)]; exact fun e => h e.1

/-- What the device sets leaves every other entry as it reads, fields 04 to 06 apart, which defaults of others name. -/
theorem num_put_other (s : State) (i a n b : Nat) (ha : a < 256) (hb : b < 256) (h : a ≠ b) (h4 : a < 4 ∨ 6 < a) :
    (s.put i a n).num i b = s.num i b := by
  refine num_congr s _ i b hb ?_ ?_ rfl rfl rfl rfl
  · rw [tget_put, if_neg]; rw [ent_inj _ _ _ _ ha hb]; exact fun e => h e.2
  · intro c _ hc; rw [tget_put, if_neg]; rw [ent_inj _ _ _ _ ha (by omega)]; omega

/-! ### Memory -/

theorem memWrite_nil (a : Nat) (v : Byte) : memWrite [] a v = if v = 0#8 then [] else [(a, v)] := rfl

theorem memWrite_cons (k a : Nat) (w v : Byte) (r : List Host.Cell) :
    memWrite ((k, w) :: r) a v =
      if k = a then (if v = 0#8 then r else (a, v) :: r)
      else if a < k then (if v = 0#8 then (k, w) :: r else (a, v) :: (k, w) :: r)
      else (k, w) :: memWrite r a v := rfl

theorem memFrom_mono (m : List Host.Cell) (a b : Nat) (h : a ≤ b) (w : memFrom b m = true) : memFrom a m = true := by
  cases m with
  | nil => rfl
  | cons x r =>
    obtain ⟨k, v⟩ := x
    simp only [memFrom, Bool.and_eq_true, decide_eq_true_eq] at w ⊢
    exact ⟨⟨by omega, w.1.2⟩, w.2⟩

theorem memFrom_write (m : List Host.Cell) (lo a : Nat) (v : Byte) (h : lo ≤ a) (w : memFrom lo m = true) :
    memFrom lo (memWrite m a v) = true := by
  induction m generalizing lo with
  | nil =>
    by_cases hv : v = 0#8
    · simp [memWrite_nil, hv, memFrom]
    · simp [memWrite_nil, hv, memFrom, h]
  | cons x r ih =>
    obtain ⟨k, u⟩ := x
    simp only [memFrom, Bool.and_eq_true, decide_eq_true_eq] at w
    by_cases h1 : k = a
    · by_cases hv : v = 0#8
      · rw [memWrite_cons, if_pos h1, if_pos hv]
        exact memFrom_mono r lo (k + 1) (by omega) w.2
      · rw [memWrite_cons, if_pos h1, if_neg hv]
        simp only [memFrom, Bool.and_eq_true, decide_eq_true_eq]
        exact ⟨⟨h, by simpa using hv⟩, by rw [← h1]; exact w.2⟩
    · by_cases h2 : a < k
      · by_cases hv : v = 0#8
        · rw [memWrite_cons, if_neg h1, if_pos h2, if_pos hv]
          simp only [memFrom, Bool.and_eq_true, decide_eq_true_eq]
          exact w
        · rw [memWrite_cons, if_neg h1, if_pos h2, if_neg hv]
          simp only [memFrom, Bool.and_eq_true, decide_eq_true_eq]
          exact ⟨⟨h, by simpa using hv⟩, ⟨⟨by omega, w.1.2⟩, w.2⟩⟩
      · rw [memWrite_cons, if_neg h1, if_neg h2]
        simp only [memFrom, Bool.and_eq_true, decide_eq_true_eq]
        exact ⟨w.1, ih (k + 1) (by omega) w.2⟩

/-- A byte write keeps the canonical form. -/
theorem wf_memWrite (m : List Host.Cell) (a : Nat) (v : Byte) (w : Memory.wf m = true) : Memory.wf (memWrite m a v) = true :=
  memFrom_write m 0 a v (Nat.zero_le a) w

/-- A write of bytes keeps the canonical form. -/
theorem wf_memWrites (b : List Byte) (m : List Host.Cell) (a : Nat) (w : Memory.wf m = true) :
    Memory.wf (memWrites m a b) = true := by
  induction b generalizing m a with
  | nil => exact w
  | cons v r ih => exact ih (memWrite m a v) (a + 1) (wf_memWrite m a v w)

theorem memFrom_filter (m : List Host.Cell) (lo : Nat) (p : Host.Cell → Bool) (w : memFrom lo m = true) :
    memFrom lo (m.filter p) = true := by
  induction m generalizing lo with
  | nil => exact w
  | cons x r ih =>
    obtain ⟨k, v⟩ := x
    simp only [memFrom, Bool.and_eq_true, decide_eq_true_eq] at w
    by_cases hp : p (k, v) = true
    · rw [List.filter_cons_of_pos hp]
      simp only [memFrom, Bool.and_eq_true, decide_eq_true_eq]
      exact ⟨w.1, ih (k + 1) w.2⟩
    · rw [List.filter_cons_of_neg hp]
      exact memFrom_mono _ lo (k + 1) (by omega) (ih (k + 1) w.2)

/-- Forgetting contents keeps the canonical form. -/
theorem wf_filter (m : List Host.Cell) (p : Host.Cell → Bool) (w : Memory.wf m = true) : Memory.wf (m.filter p) = true :=
  memFrom_filter m 0 p w

/-- A listed address below the first one of a canonical list is not listed. -/
theorem memRead_below (m : List Host.Cell) (lo a : Nat) (h : a < lo) (w : memFrom lo m = true) : memRead m a = 0 := by
  induction m generalizing lo with
  | nil => rfl
  | cons x r ih =>
    obtain ⟨k, v⟩ := x
    simp only [memFrom, Bool.and_eq_true, decide_eq_true_eq] at w
    have : k ≠ a := by omega
    simp only [memRead, this, if_false]
    exact ih (k + 1) (by omega) w.2

/-- A byte written reads back. -/
theorem memRead_memWrite_self (m : List Host.Cell) (a : Nat) (v : Byte) (w : Memory.wf m = true) :
    memRead (memWrite m a v) a = v := by
  suffices H : ∀ lo, memFrom lo m = true → memRead (memWrite m a v) a = v from H 0 w
  clear w
  induction m with
  | nil => intro lo _; by_cases hv : v = 0#8 <;> simp [memWrite_nil, hv, memRead]
  | cons x r ih =>
    intro lo w
    obtain ⟨k, u⟩ := x
    simp only [memFrom, Bool.and_eq_true, decide_eq_true_eq] at w
    by_cases h1 : k = a
    · by_cases hv : v = 0#8
      · rw [memWrite_cons, if_pos h1, if_pos hv]
        rw [hv]; exact memRead_below r (k + 1) a (by omega) w.2
      · simp [memWrite_cons, h1, hv, memRead]
    · by_cases h2 : a < k
      · by_cases hv : v = 0#8
        · rw [memWrite_cons, if_neg h1, if_pos h2, if_pos hv, memRead, if_neg h1, hv]
          exact memRead_below r (k + 1) a (by omega) w.2
        · simp [memWrite_cons, h1, h2, hv, memRead]
      · rw [memWrite_cons, if_neg h1, if_neg h2, memRead, if_neg h1]
        exact ih (k + 1) w.2

/-- A byte write leaves every other byte. -/
theorem memRead_memWrite_ne (m : List Host.Cell) (a b : Nat) (v : Byte) (h : a ≠ b) :
    memRead (memWrite m a v) b = memRead m b := by
  induction m with
  | nil => by_cases hv : v = 0#8 <;> simp [memWrite_nil, hv, memRead, h]
  | cons x r ih =>
    obtain ⟨k, u⟩ := x
    by_cases h1 : k = a
    · subst h1
      by_cases hv : v = 0#8 <;> simp [memWrite_cons, hv, memRead, h]
    · by_cases h2 : a < k
      · by_cases hv : v = 0#8 <;> simp [memWrite_cons, h1, h2, hv, memRead, h]
      · rw [memWrite_cons, if_neg h1, if_neg h2]
        simp only [memRead, ih]

end Sys2Proof.Machine
end

