-- ==== Sys2Proof/Laws/Entries.lean ====
section
/-! SUPPORT. Which stored entries the shared operations leave alone. -/

namespace Sys2Proof.Machine

theorem EntriesOutside.refl (rs : List (Nat × Nat)) (s : State) : EntriesOutside rs s s := fun _ _ => rfl

theorem EntriesOutside.trans {rs : List (Nat × Nat)} {s t u : State} (h : EntriesOutside rs s t)
    (h' : EntriesOutside rs t u) : EntriesOutside rs s u := fun k hk => (h' k hk).trans (h k hk)

theorem EntriesOutside.mono {rs qs : List (Nat × Nat)} {s t : State} (h : EntriesOutside rs s t) (hs : rs ⊆ qs) :
    EntriesOutside qs s t := fun k hk => h k fun r hr => hk r (hs hr)

/-- The same stored entries. -/
theorem EntriesOutside.of_cat {rs : List (Nat × Nat)} {s t : State} (h : t.cat = s.cat) : EntriesOutside rs s t :=
  fun _ _ => by rw [h]

/-- Setting an entry of an index within a listed range. -/
theorem entriesOutside_put {rs : List (Nat × Nat)} (s : State) (i a n : Nat) (ha : a < 256)
    (h : ∃ r ∈ rs, r.1 ≤ i ∧ i ≤ r.2) : EntriesOutside rs s (s.put i a n) := by
  intro k hk
  rw [tget_put, if_neg]
  rintro rfl
  obtain ⟨r, hr, h1⟩ := h
  exact hk r hr (by rw [ent_div i a ha]; exact h1)

theorem entriesOutside_putOct {rs : List (Nat × Nat)} (s : State) (i a : Nat) (b : List Byte) (ha : a < 256)
    (h : ∃ r ∈ rs, r.1 ≤ i ∧ i ≤ r.2) : EntriesOutside rs s (s.putOct i a b) := by
  intro k hk
  simp only [State.putOct]
  rw [tget_tput, if_neg]
  rintro rfl
  obtain ⟨r, hr, h1⟩ := h
  exact hk r hr (by rw [ent_div i a ha]; exact h1)

/-- A fold of operations that each leave the entries outside the ranges alone. -/
theorem entriesOutside_foldl {α : Type} {rs : List (Nat × Nat)} (f : State → α → State) (l : List α) (s : State)
    (h : ∀ s x, x ∈ l → EntriesOutside rs s (f s x)) : EntriesOutside rs s (l.foldl f s) := by
  induction l generalizing s with
  | nil => exact .refl rs s
  | cons x l ih =>
    exact (h s x (by simp)).trans (ih _ fun s y hy => h s y (by simp [hy]))

/-! ### Raising an event -/

theorem entriesOutside_countRaise (s : State) (num : Nat) (h : num < 4096) :
    EntriesOutside eventRanges s (countRaise s num) := by
  have hr : ∃ r ∈ eventRanges, r.1 ≤ 0x0E1000 + num ∧ 0x0E1000 + num ≤ r.2 :=
    ⟨(0x0E1000, 0x0E1FFF), by decide, by omega, by simp; omega⟩
  exact (entriesOutside_put s _ 7 _ (by decide) hr).trans (entriesOutside_put _ _ 8 _ (by decide) hr)

theorem entriesOutside_noteLoss (s : State) : EntriesOutside eventRanges s (noteLoss s) :=
  (entriesOutside_put s 0x0E0000 3 _ (by decide) ⟨_, List.mem_cons_self, by decide, by decide⟩).trans (.of_cat rfl)

theorem appendRecord_cat (s : State) (r : EvRec) (x : Reach) (d : Bool) : (appendRecord s r x d).cat = s.cat := rfl

theorem entriesOutside_enqueueRecord (s : State) (r : EvRec) (x : Reach) (d : Bool) :
    EntriesOutside eventRanges s (enqueueRecord s r x d) := by
  unfold enqueueRecord
  split
  · exact .of_cat rfl
  · split
    · exact .of_cat (appendRecord_cat ..)
    · split
      · exact (entriesOutside_noteLoss s).trans (.of_cat (appendRecord_cat ..))
      · exact entriesOutside_noteLoss s

theorem entriesOutside_driveRoutes (s : State) (num : Nat) : EntriesOutside eventRanges s (driveRoutes s num) := by
  unfold driveRoutes
  extract_lets idx line t cl inputs
  have hf : EntriesOutside eventRanges s t := by
    simp only [t]
    split
    · refine entriesOutside_foldl _ _ _ fun s' b hb => ?_
      split
      · refine entriesOutside_put s' _ 1 _ (by decide) ⟨(0x0E0200, 0x0E0203), by decide, by simp, ?_⟩
        have := List.mem_range.1 hb
        simp only; omega
      · exact .refl _ _
    · exact .refl _ _
  split
  · exact hf
  · exact hf.trans (.of_cat rfl)

theorem entriesOutside_raiseRecord (s : State) (r : EvRec) (x : Reach) (h : r.num < 4096) :
    EntriesOutside eventRanges s (raiseRecord s r x) := by
  unfold raiseRecord
  extract_lets t on u
  have h1 : EntriesOutside eventRanges s u := by
    refine (entriesOutside_countRaise s r.num h).trans ?_
    simp only [u]
    split
    · exact entriesOutside_enqueueRecord _ _ _ _
    · exact .refl _ _
  split
  · exact h1.trans (entriesOutside_driveRoutes _ _)
  · exact h1

theorem entriesOutside_raiseWith (s : State) (r : EvRec) (x : Reach) (h : r.num < 4096) :
    EntriesOutside eventRanges s (raiseWith s r x) := by
  unfold raiseWith
  extract_lets t n m u
  have h1 : EntriesOutside eventRanges s t := entriesOutside_raiseRecord s r x h
  split
  · have h2 : EntriesOutside eventRanges s u := h1.trans (.of_cat rfl)
    exact h2.trans (entriesOutside_raiseRecord _ _ _ (by simp only [recordOf]; decide))
  · exact h1

/-- Raising an event changes no stored entry but those that count, route and signal events. -/
theorem entriesOutside_raise (s : State) (num unit : Nat) (b : List Byte) (h : num < 4096) :
    EntriesOutside eventRanges s (s.raise num unit b) := entriesOutside_raiseWith s _ _ h

theorem entriesOutside_raiseDone (s : State) (c : TimedCmd) (st : Nat) :
    EntriesOutside eventRanges s (raiseDone s c st) :=
  entriesOutside_raiseWith s _ _ (by simp only [recordOf]; decide)

theorem entriesOutside_raiseAtMost (s : State) (n num unit : Nat) (f : Nat → List Byte) (h : num < 4096) :
    EntriesOutside eventRanges s (s.raiseAtMost n num unit f) := by
  unfold State.raiseAtMost
  extract_lets m ok t
  have h1 : EntriesOutside eventRanges s t := .of_cat rfl
  split
  · exact h1.trans (entriesOutside_raise _ _ _ _ h)
  · exact h1

/-- The index ranges that completing a timed command touches: events, and the outcome of a take (R65, R345). -/
def finishRanges : List (Nat × Nat) := (0x074000, 0x07BFFF) :: eventRanges

theorem entriesOutside_takeOutcome (s : State) (c : TimedCmd) (st : Nat) :
    EntriesOutside finishRanges s (takeOutcome s c st) := by
  have hm : eventRanges ⊆ finishRanges := by intro x hx; exact List.mem_cons_of_mem _ hx
  unfold takeOutcome
  split
  · exact .refl _ _
  · next e he =>
    have hk : 0x074000 ≤ c.key / 256 ∧ c.key / 256 ≤ 0x07BFFF := by
      unfold takeEngine at he
      split at he
      · next hc => exact ⟨hc.1, hc.2.1⟩
      · cases he
    have hr : ∃ r ∈ finishRanges, r.1 ≤ c.key / 256 ∧ c.key / 256 ≤ r.2 :=
      ⟨(0x074000, 0x07BFFF), List.mem_cons_self, hk.1, hk.2⟩
    have h2 := (entriesOutside_put s _ 9 c.pick (by decide) hr).trans
      (entriesOutside_put _ _ 0x0A st (by decide) hr)
    extract_lets idx t
    split
    · exact h2
    · exact h2.trans ((entriesOutside_raise _ _ _ _ (by decide)).mono hm)

theorem entriesOutside_finishCmd (s : State) (c : TimedCmd) (st : Nat) :
    EntriesOutside finishRanges s (finishCmd s c st) :=
  ((entriesOutside_raiseDone s c st).mono fun _ hx => List.mem_cons_of_mem _ hx).trans (entriesOutside_takeOutcome _ _ _)

theorem entriesOutside_completeCmd (s : State) (c : Option TimedCmd) (st : Nat) :
    EntriesOutside finishRanges s (completeCmd s c st) := by
  unfold completeCmd
  split
  · exact entriesOutside_finishCmd _ _ _
  · exact .refl _ _

/-! ### What entries read after an event -/

/-- An index that no range holds reads as before, where the parts that defaults depend on are as before. -/
theorem num_outside {rs : List (Nat × Nat)} {s t : State} (h : EntriesOutside rs s t) (hu : t.unit = s.unit)
    (hw : t.pwr = s.pwr) (hc : t.cfg = s.cfg) (i a : Nat) (ha : a < 256) (hi : ∀ r ∈ rs, ¬(r.1 ≤ i ∧ i ≤ r.2)) :
    t.num i a = s.num i a :=
  num_congr s t i a ha (h _ fun r hr => by rw [ent_div i a ha]; exact hi r hr)
    (fun b _ hb => h _ fun r hr => by rw [ent_div i b (by omega)]; exact hi r hr) hu (by rw [hw]) (by rw [hw]) (by rw [hc])

theorem not_event (i : Nat) (h : i < 0x0E0000 ∨ 0x0E1FFF < i) : ∀ r ∈ eventRanges, ¬(r.1 ≤ i ∧ i ≤ r.2) := by
  intro r hr
  simp only [eventRanges, List.mem_cons, List.not_mem_nil, or_false] at hr
  rcases hr with rfl | rfl | rfl <;> simp only <;> omega

theorem not_finish (i : Nat) (h : i < 0x0E0000 ∨ 0x0E1FFF < i) (h' : i < 0x074000 ∨ 0x07BFFF < i) :
    ∀ r ∈ finishRanges, ¬(r.1 ≤ i ∧ i ≤ r.2) := by
  intro r hr
  rcases List.mem_cons.1 hr with rfl | hr
  · simp only; omega
  · exact not_event i h r hr

end Sys2Proof.Machine
end

