-- ==== Sys2Proof/Laws/FrameBase.lean ====
section
/-! SUPPORT. Frames: the relation `Outside`, and each part of the state through a choice and through a fold of operations that
leave it alone. -/

namespace Sys2Proof.Machine

/-! ### Outside -/

theorem Outside.refl (ps : List Part) (s : State) : Outside ps s s := by
  intro p _; cases p <;> rfl

theorem Outside.trans {ps : List Part} {s t u : State} (h : Outside ps s t) (h' : Outside ps t u) : Outside ps s u := by
  intro p hp
  have a := h p hp
  have b := h' p hp
  cases p <;> exact b.trans a

theorem Outside.mono {ps qs : List Part} {s t : State} (h : Outside ps s t) (hs : ∀ p ∈ ps, p ∈ qs) : Outside qs s t :=
  fun p hp => h p fun hp' => hp (hs p hp')

/-- A fold of operations that each leave the other parts alone. -/
theorem Outside.foldl {α : Type} {ps : List Part} (f : State → α → State) (l : List α) (s : State)
    (h : ∀ s x, Outside ps s (f s x)) : Outside ps s (l.foldl f s) := by
  induction l generalizing s with
  | nil => exact .refl ps s
  | cons x l ih => exact (h s x).trans (ih (f s x))

/-! ### Choices and folds, part by part -/

@[simp] theorem same_pending (s t : State) : Part.pending.same s t ↔ t.pending = s.pending := Iff.rfl

@[simp] theorem same_now (s t : State) : Part.now.same s t ↔ t.now = s.now := Iff.rfl

@[simp] theorem same_fresh (s t : State) : Part.fresh.same s t ↔ t.fresh = s.fresh := Iff.rfl

@[simp] theorem same_cat (s t : State) : Part.cat.same s t ↔ t.cat = s.cat := Iff.rfl

@[simp] theorem same_gen (s t : State) : Part.gen.same s t ↔ t.gen = s.gen := Iff.rfl

@[simp] theorem same_ruling (s t : State) : Part.ruling.same s t ↔ t.ruling = s.ruling := Iff.rfl

@[simp] theorem same_cap (s t : State) : Part.cap.same s t ↔ t.cap = s.cap := Iff.rfl

@[simp] theorem same_mgmt (s t : State) : Part.mgmt.same s t ↔ t.mgmt = s.mgmt := Iff.rfl

@[simp] theorem same_unit (s t : State) : Part.unit.same s t ↔ t.unit = s.unit := Iff.rfl

@[simp] theorem same_pwr (s t : State) : Part.pwr.same s t ↔ t.pwr = s.pwr := Iff.rfl

@[simp] theorem same_cfg (s t : State) : Part.cfg.same s t ↔ t.cfg = s.cfg := Iff.rfl

@[simp] theorem same_seams (s t : State) : Part.seams.same s t ↔ t.seams = s.seams := Iff.rfl

@[simp] theorem same_fab (s t : State) : Part.fab.same s t ↔ t.fab = s.fab := Iff.rfl

@[simp] theorem same_clk (s t : State) : Part.clk.same s t ↔ t.clk = s.clk := Iff.rfl

@[simp] theorem same_tim (s t : State) : Part.tim.same s t ↔ t.tim = s.tim := Iff.rfl

@[simp] theorem same_lan (s t : State) : Part.lan.same s t ↔ t.lan = s.lan := Iff.rfl

@[simp] theorem same_rx (s t : State) : Part.rx.same s t ↔ t.rx = s.rx := Iff.rfl

@[simp] theorem same_tx (s t : State) : Part.tx.same s t ↔ t.tx = s.tx := Iff.rfl

@[simp] theorem same_shu (s t : State) : Part.shu.same s t ↔ t.shu = s.shu := Iff.rfl

@[simp] theorem same_noc (s t : State) : Part.noc.same s t ↔ t.noc = s.noc := Iff.rfl

@[simp] theorem same_mem (s t : State) : Part.mem.same s t ↔ t.mem = s.mem := Iff.rfl

@[simp] theorem same_itg (s t : State) : Part.itg.same s t ↔ t.itg = s.itg := Iff.rfl

@[simp] theorem same_upd (s t : State) : Part.upd.same s t ↔ t.upd = s.upd := Iff.rfl

@[simp] theorem ite_pending (p : Prop) [Decidable p] (a b : State) :
    (if p then a else b).pending = if p then a.pending else b.pending := by split <;> rfl

@[simp] theorem foldl_pending {α : Type} (f : State → α → State) (l : List α) (s : State)
    (h : ∀ s x, (f s x).pending = s.pending) : (l.foldl f s).pending = s.pending := by
  induction l generalizing s with
  | nil => rfl
  | cons x l ih => simp [List.foldl_cons, ih, h]

@[simp] theorem foldl_fst_pending {α β : Type} (f : State × β → α → State × β) (l : List α) (s : State × β)
    (h : ∀ s x, (f s x).1.pending = s.1.pending) : (l.foldl f s).1.pending = s.1.pending := by
  induction l generalizing s with
  | nil => rfl
  | cons x l ih => simp [List.foldl_cons, ih, h]

@[simp] theorem ite_now (p : Prop) [Decidable p] (a b : State) :
    (if p then a else b).now = if p then a.now else b.now := by split <;> rfl

@[simp] theorem foldl_now {α : Type} (f : State → α → State) (l : List α) (s : State)
    (h : ∀ s x, (f s x).now = s.now) : (l.foldl f s).now = s.now := by
  induction l generalizing s with
  | nil => rfl
  | cons x l ih => simp [List.foldl_cons, ih, h]

@[simp] theorem foldl_fst_now {α β : Type} (f : State × β → α → State × β) (l : List α) (s : State × β)
    (h : ∀ s x, (f s x).1.now = s.1.now) : (l.foldl f s).1.now = s.1.now := by
  induction l generalizing s with
  | nil => rfl
  | cons x l ih => simp [List.foldl_cons, ih, h]

@[simp] theorem ite_fresh (p : Prop) [Decidable p] (a b : State) :
    (if p then a else b).fresh = if p then a.fresh else b.fresh := by split <;> rfl

@[simp] theorem foldl_fresh {α : Type} (f : State → α → State) (l : List α) (s : State)
    (h : ∀ s x, (f s x).fresh = s.fresh) : (l.foldl f s).fresh = s.fresh := by
  induction l generalizing s with
  | nil => rfl
  | cons x l ih => simp [List.foldl_cons, ih, h]

@[simp] theorem foldl_fst_fresh {α β : Type} (f : State × β → α → State × β) (l : List α) (s : State × β)
    (h : ∀ s x, (f s x).1.fresh = s.1.fresh) : (l.foldl f s).1.fresh = s.1.fresh := by
  induction l generalizing s with
  | nil => rfl
  | cons x l ih => simp [List.foldl_cons, ih, h]

@[simp] theorem ite_cat (p : Prop) [Decidable p] (a b : State) :
    (if p then a else b).cat = if p then a.cat else b.cat := by split <;> rfl

@[simp] theorem foldl_cat {α : Type} (f : State → α → State) (l : List α) (s : State)
    (h : ∀ s x, (f s x).cat = s.cat) : (l.foldl f s).cat = s.cat := by
  induction l generalizing s with
  | nil => rfl
  | cons x l ih => simp [List.foldl_cons, ih, h]

@[simp] theorem foldl_fst_cat {α β : Type} (f : State × β → α → State × β) (l : List α) (s : State × β)
    (h : ∀ s x, (f s x).1.cat = s.1.cat) : (l.foldl f s).1.cat = s.1.cat := by
  induction l generalizing s with
  | nil => rfl
  | cons x l ih => simp [List.foldl_cons, ih, h]

@[simp] theorem ite_gen (p : Prop) [Decidable p] (a b : State) :
    (if p then a else b).gen = if p then a.gen else b.gen := by split <;> rfl

@[simp] theorem foldl_gen {α : Type} (f : State → α → State) (l : List α) (s : State)
    (h : ∀ s x, (f s x).gen = s.gen) : (l.foldl f s).gen = s.gen := by
  induction l generalizing s with
  | nil => rfl
  | cons x l ih => simp [List.foldl_cons, ih, h]

@[simp] theorem foldl_fst_gen {α β : Type} (f : State × β → α → State × β) (l : List α) (s : State × β)
    (h : ∀ s x, (f s x).1.gen = s.1.gen) : (l.foldl f s).1.gen = s.1.gen := by
  induction l generalizing s with
  | nil => rfl
  | cons x l ih => simp [List.foldl_cons, ih, h]

@[simp] theorem ite_ruling (p : Prop) [Decidable p] (a b : State) :
    (if p then a else b).ruling = if p then a.ruling else b.ruling := by split <;> rfl

@[simp] theorem foldl_ruling {α : Type} (f : State → α → State) (l : List α) (s : State)
    (h : ∀ s x, (f s x).ruling = s.ruling) : (l.foldl f s).ruling = s.ruling := by
  induction l generalizing s with
  | nil => rfl
  | cons x l ih => simp [List.foldl_cons, ih, h]

@[simp] theorem foldl_fst_ruling {α β : Type} (f : State × β → α → State × β) (l : List α) (s : State × β)
    (h : ∀ s x, (f s x).1.ruling = s.1.ruling) : (l.foldl f s).1.ruling = s.1.ruling := by
  induction l generalizing s with
  | nil => rfl
  | cons x l ih => simp [List.foldl_cons, ih, h]

@[simp] theorem ite_cap (p : Prop) [Decidable p] (a b : State) :
    (if p then a else b).cap = if p then a.cap else b.cap := by split <;> rfl

@[simp] theorem foldl_cap {α : Type} (f : State → α → State) (l : List α) (s : State)
    (h : ∀ s x, (f s x).cap = s.cap) : (l.foldl f s).cap = s.cap := by
  induction l generalizing s with
  | nil => rfl
  | cons x l ih => simp [List.foldl_cons, ih, h]

@[simp] theorem foldl_fst_cap {α β : Type} (f : State × β → α → State × β) (l : List α) (s : State × β)
    (h : ∀ s x, (f s x).1.cap = s.1.cap) : (l.foldl f s).1.cap = s.1.cap := by
  induction l generalizing s with
  | nil => rfl
  | cons x l ih => simp [List.foldl_cons, ih, h]

@[simp] theorem ite_mgmt (p : Prop) [Decidable p] (a b : State) :
    (if p then a else b).mgmt = if p then a.mgmt else b.mgmt := by split <;> rfl

@[simp] theorem foldl_mgmt {α : Type} (f : State → α → State) (l : List α) (s : State)
    (h : ∀ s x, (f s x).mgmt = s.mgmt) : (l.foldl f s).mgmt = s.mgmt := by
  induction l generalizing s with
  | nil => rfl
  | cons x l ih => simp [List.foldl_cons, ih, h]

@[simp] theorem foldl_fst_mgmt {α β : Type} (f : State × β → α → State × β) (l : List α) (s : State × β)
    (h : ∀ s x, (f s x).1.mgmt = s.1.mgmt) : (l.foldl f s).1.mgmt = s.1.mgmt := by
  induction l generalizing s with
  | nil => rfl
  | cons x l ih => simp [List.foldl_cons, ih, h]

@[simp] theorem ite_unit (p : Prop) [Decidable p] (a b : State) :
    (if p then a else b).unit = if p then a.unit else b.unit := by split <;> rfl

@[simp] theorem foldl_unit {α : Type} (f : State → α → State) (l : List α) (s : State)
    (h : ∀ s x, (f s x).unit = s.unit) : (l.foldl f s).unit = s.unit := by
  induction l generalizing s with
  | nil => rfl
  | cons x l ih => simp [List.foldl_cons, ih, h]

@[simp] theorem foldl_fst_unit {α β : Type} (f : State × β → α → State × β) (l : List α) (s : State × β)
    (h : ∀ s x, (f s x).1.unit = s.1.unit) : (l.foldl f s).1.unit = s.1.unit := by
  induction l generalizing s with
  | nil => rfl
  | cons x l ih => simp [List.foldl_cons, ih, h]

@[simp] theorem ite_pwr (p : Prop) [Decidable p] (a b : State) :
    (if p then a else b).pwr = if p then a.pwr else b.pwr := by split <;> rfl

@[simp] theorem foldl_pwr {α : Type} (f : State → α → State) (l : List α) (s : State)
    (h : ∀ s x, (f s x).pwr = s.pwr) : (l.foldl f s).pwr = s.pwr := by
  induction l generalizing s with
  | nil => rfl
  | cons x l ih => simp [List.foldl_cons, ih, h]

@[simp] theorem foldl_fst_pwr {α β : Type} (f : State × β → α → State × β) (l : List α) (s : State × β)
    (h : ∀ s x, (f s x).1.pwr = s.1.pwr) : (l.foldl f s).1.pwr = s.1.pwr := by
  induction l generalizing s with
  | nil => rfl
  | cons x l ih => simp [List.foldl_cons, ih, h]

@[simp] theorem ite_cfg (p : Prop) [Decidable p] (a b : State) :
    (if p then a else b).cfg = if p then a.cfg else b.cfg := by split <;> rfl

@[simp] theorem foldl_cfg {α : Type} (f : State → α → State) (l : List α) (s : State)
    (h : ∀ s x, (f s x).cfg = s.cfg) : (l.foldl f s).cfg = s.cfg := by
  induction l generalizing s with
  | nil => rfl
  | cons x l ih => simp [List.foldl_cons, ih, h]

@[simp] theorem foldl_fst_cfg {α β : Type} (f : State × β → α → State × β) (l : List α) (s : State × β)
    (h : ∀ s x, (f s x).1.cfg = s.1.cfg) : (l.foldl f s).1.cfg = s.1.cfg := by
  induction l generalizing s with
  | nil => rfl
  | cons x l ih => simp [List.foldl_cons, ih, h]

@[simp] theorem ite_seams (p : Prop) [Decidable p] (a b : State) :
    (if p then a else b).seams = if p then a.seams else b.seams := by split <;> rfl

@[simp] theorem foldl_seams {α : Type} (f : State → α → State) (l : List α) (s : State)
    (h : ∀ s x, (f s x).seams = s.seams) : (l.foldl f s).seams = s.seams := by
  induction l generalizing s with
  | nil => rfl
  | cons x l ih => simp [List.foldl_cons, ih, h]

@[simp] theorem foldl_fst_seams {α β : Type} (f : State × β → α → State × β) (l : List α) (s : State × β)
    (h : ∀ s x, (f s x).1.seams = s.1.seams) : (l.foldl f s).1.seams = s.1.seams := by
  induction l generalizing s with
  | nil => rfl
  | cons x l ih => simp [List.foldl_cons, ih, h]

@[simp] theorem ite_fab (p : Prop) [Decidable p] (a b : State) :
    (if p then a else b).fab = if p then a.fab else b.fab := by split <;> rfl

@[simp] theorem foldl_fab {α : Type} (f : State → α → State) (l : List α) (s : State)
    (h : ∀ s x, (f s x).fab = s.fab) : (l.foldl f s).fab = s.fab := by
  induction l generalizing s with
  | nil => rfl
  | cons x l ih => simp [List.foldl_cons, ih, h]

@[simp] theorem foldl_fst_fab {α β : Type} (f : State × β → α → State × β) (l : List α) (s : State × β)
    (h : ∀ s x, (f s x).1.fab = s.1.fab) : (l.foldl f s).1.fab = s.1.fab := by
  induction l generalizing s with
  | nil => rfl
  | cons x l ih => simp [List.foldl_cons, ih, h]

@[simp] theorem ite_clk (p : Prop) [Decidable p] (a b : State) :
    (if p then a else b).clk = if p then a.clk else b.clk := by split <;> rfl

@[simp] theorem foldl_clk {α : Type} (f : State → α → State) (l : List α) (s : State)
    (h : ∀ s x, (f s x).clk = s.clk) : (l.foldl f s).clk = s.clk := by
  induction l generalizing s with
  | nil => rfl
  | cons x l ih => simp [List.foldl_cons, ih, h]

@[simp] theorem foldl_fst_clk {α β : Type} (f : State × β → α → State × β) (l : List α) (s : State × β)
    (h : ∀ s x, (f s x).1.clk = s.1.clk) : (l.foldl f s).1.clk = s.1.clk := by
  induction l generalizing s with
  | nil => rfl
  | cons x l ih => simp [List.foldl_cons, ih, h]

@[simp] theorem ite_tim (p : Prop) [Decidable p] (a b : State) :
    (if p then a else b).tim = if p then a.tim else b.tim := by split <;> rfl

@[simp] theorem foldl_tim {α : Type} (f : State → α → State) (l : List α) (s : State)
    (h : ∀ s x, (f s x).tim = s.tim) : (l.foldl f s).tim = s.tim := by
  induction l generalizing s with
  | nil => rfl
  | cons x l ih => simp [List.foldl_cons, ih, h]

@[simp] theorem foldl_fst_tim {α β : Type} (f : State × β → α → State × β) (l : List α) (s : State × β)
    (h : ∀ s x, (f s x).1.tim = s.1.tim) : (l.foldl f s).1.tim = s.1.tim := by
  induction l generalizing s with
  | nil => rfl
  | cons x l ih => simp [List.foldl_cons, ih, h]

@[simp] theorem ite_lan (p : Prop) [Decidable p] (a b : State) :
    (if p then a else b).lan = if p then a.lan else b.lan := by split <;> rfl

@[simp] theorem foldl_lan {α : Type} (f : State → α → State) (l : List α) (s : State)
    (h : ∀ s x, (f s x).lan = s.lan) : (l.foldl f s).lan = s.lan := by
  induction l generalizing s with
  | nil => rfl
  | cons x l ih => simp [List.foldl_cons, ih, h]

@[simp] theorem foldl_fst_lan {α β : Type} (f : State × β → α → State × β) (l : List α) (s : State × β)
    (h : ∀ s x, (f s x).1.lan = s.1.lan) : (l.foldl f s).1.lan = s.1.lan := by
  induction l generalizing s with
  | nil => rfl
  | cons x l ih => simp [List.foldl_cons, ih, h]

@[simp] theorem ite_rx (p : Prop) [Decidable p] (a b : State) :
    (if p then a else b).rx = if p then a.rx else b.rx := by split <;> rfl

@[simp] theorem foldl_rx {α : Type} (f : State → α → State) (l : List α) (s : State)
    (h : ∀ s x, (f s x).rx = s.rx) : (l.foldl f s).rx = s.rx := by
  induction l generalizing s with
  | nil => rfl
  | cons x l ih => simp [List.foldl_cons, ih, h]

@[simp] theorem foldl_fst_rx {α β : Type} (f : State × β → α → State × β) (l : List α) (s : State × β)
    (h : ∀ s x, (f s x).1.rx = s.1.rx) : (l.foldl f s).1.rx = s.1.rx := by
  induction l generalizing s with
  | nil => rfl
  | cons x l ih => simp [List.foldl_cons, ih, h]

@[simp] theorem ite_tx (p : Prop) [Decidable p] (a b : State) :
    (if p then a else b).tx = if p then a.tx else b.tx := by split <;> rfl

@[simp] theorem foldl_tx {α : Type} (f : State → α → State) (l : List α) (s : State)
    (h : ∀ s x, (f s x).tx = s.tx) : (l.foldl f s).tx = s.tx := by
  induction l generalizing s with
  | nil => rfl
  | cons x l ih => simp [List.foldl_cons, ih, h]

@[simp] theorem foldl_fst_tx {α β : Type} (f : State × β → α → State × β) (l : List α) (s : State × β)
    (h : ∀ s x, (f s x).1.tx = s.1.tx) : (l.foldl f s).1.tx = s.1.tx := by
  induction l generalizing s with
  | nil => rfl
  | cons x l ih => simp [List.foldl_cons, ih, h]

@[simp] theorem ite_shu (p : Prop) [Decidable p] (a b : State) :
    (if p then a else b).shu = if p then a.shu else b.shu := by split <;> rfl

@[simp] theorem foldl_shu {α : Type} (f : State → α → State) (l : List α) (s : State)
    (h : ∀ s x, (f s x).shu = s.shu) : (l.foldl f s).shu = s.shu := by
  induction l generalizing s with
  | nil => rfl
  | cons x l ih => simp [List.foldl_cons, ih, h]

@[simp] theorem foldl_fst_shu {α β : Type} (f : State × β → α → State × β) (l : List α) (s : State × β)
    (h : ∀ s x, (f s x).1.shu = s.1.shu) : (l.foldl f s).1.shu = s.1.shu := by
  induction l generalizing s with
  | nil => rfl
  | cons x l ih => simp [List.foldl_cons, ih, h]

@[simp] theorem ite_noc (p : Prop) [Decidable p] (a b : State) :
    (if p then a else b).noc = if p then a.noc else b.noc := by split <;> rfl

@[simp] theorem foldl_noc {α : Type} (f : State → α → State) (l : List α) (s : State)
    (h : ∀ s x, (f s x).noc = s.noc) : (l.foldl f s).noc = s.noc := by
  induction l generalizing s with
  | nil => rfl
  | cons x l ih => simp [List.foldl_cons, ih, h]

@[simp] theorem foldl_fst_noc {α β : Type} (f : State × β → α → State × β) (l : List α) (s : State × β)
    (h : ∀ s x, (f s x).1.noc = s.1.noc) : (l.foldl f s).1.noc = s.1.noc := by
  induction l generalizing s with
  | nil => rfl
  | cons x l ih => simp [List.foldl_cons, ih, h]

@[simp] theorem ite_mem (p : Prop) [Decidable p] (a b : State) :
    (if p then a else b).mem = if p then a.mem else b.mem := by split <;> rfl

@[simp] theorem foldl_mem {α : Type} (f : State → α → State) (l : List α) (s : State)
    (h : ∀ s x, (f s x).mem = s.mem) : (l.foldl f s).mem = s.mem := by
  induction l generalizing s with
  | nil => rfl
  | cons x l ih => simp [List.foldl_cons, ih, h]

@[simp] theorem foldl_fst_mem {α β : Type} (f : State × β → α → State × β) (l : List α) (s : State × β)
    (h : ∀ s x, (f s x).1.mem = s.1.mem) : (l.foldl f s).1.mem = s.1.mem := by
  induction l generalizing s with
  | nil => rfl
  | cons x l ih => simp [List.foldl_cons, ih, h]

@[simp] theorem ite_itg (p : Prop) [Decidable p] (a b : State) :
    (if p then a else b).itg = if p then a.itg else b.itg := by split <;> rfl

@[simp] theorem foldl_itg {α : Type} (f : State → α → State) (l : List α) (s : State)
    (h : ∀ s x, (f s x).itg = s.itg) : (l.foldl f s).itg = s.itg := by
  induction l generalizing s with
  | nil => rfl
  | cons x l ih => simp [List.foldl_cons, ih, h]

@[simp] theorem foldl_fst_itg {α β : Type} (f : State × β → α → State × β) (l : List α) (s : State × β)
    (h : ∀ s x, (f s x).1.itg = s.1.itg) : (l.foldl f s).1.itg = s.1.itg := by
  induction l generalizing s with
  | nil => rfl
  | cons x l ih => simp [List.foldl_cons, ih, h]

@[simp] theorem ite_upd (p : Prop) [Decidable p] (a b : State) :
    (if p then a else b).upd = if p then a.upd else b.upd := by split <;> rfl

@[simp] theorem foldl_upd {α : Type} (f : State → α → State) (l : List α) (s : State)
    (h : ∀ s x, (f s x).upd = s.upd) : (l.foldl f s).upd = s.upd := by
  induction l generalizing s with
  | nil => rfl
  | cons x l ih => simp [List.foldl_cons, ih, h]

@[simp] theorem foldl_fst_upd {α β : Type} (f : State × β → α → State × β) (l : List α) (s : State × β)
    (h : ∀ s x, (f s x).1.upd = s.1.upd) : (l.foldl f s).1.upd = s.1.upd := by
  induction l generalizing s with
  | nil => rfl
  | cons x l ih => simp [List.foldl_cons, ih, h]

/-! ### Requests of selvage tasks -/

@[simp] theorem requestTask_getD_frame (s : State) (k : TaskKind) (o : Nat) :
    ((requestTask s k o).getD s).pending = s.pending ∧ ((requestTask s k o).getD s).now = s.now ∧
    ((requestTask s k o).getD s).fresh = s.fresh ∧ ((requestTask s k o).getD s).cat = s.cat ∧
    ((requestTask s k o).getD s).gen = s.gen ∧ ((requestTask s k o).getD s).cap = s.cap ∧
    ((requestTask s k o).getD s).mgmt = s.mgmt ∧ ((requestTask s k o).getD s).unit = s.unit ∧
    ((requestTask s k o).getD s).pwr = s.pwr ∧ ((requestTask s k o).getD s).cfg = s.cfg ∧
    ((requestTask s k o).getD s).seams = s.seams ∧ ((requestTask s k o).getD s).fab = s.fab ∧
    ((requestTask s k o).getD s).clk = s.clk ∧ ((requestTask s k o).getD s).tim = s.tim ∧
    ((requestTask s k o).getD s).lan = s.lan ∧ ((requestTask s k o).getD s).rx = s.rx ∧
    ((requestTask s k o).getD s).tx = s.tx ∧ ((requestTask s k o).getD s).shu = s.shu ∧
    ((requestTask s k o).getD s).noc = s.noc ∧ ((requestTask s k o).getD s).mem = s.mem ∧
    ((requestTask s k o).getD s).itg = s.itg ∧ ((requestTask s k o).getD s).upd = s.upd := by
  unfold requestTask
  split <;> simp

end Sys2Proof.Machine
end

