-- ==== Sys2Proof/Laws/FramesCore.lean ====
section
/-! SUPPORT. What each operation over the state leaves alone:
the shared operations, events, writes and time bases. -/

namespace Sys2Proof.Machine

@[simp] theorem State_put_frame (s : State) (a : Nat) (b : Nat) (c : Nat) :
    (State.put s a b c).pending = s.pending ∧ (State.put s a b c).now = s.now ∧ (State.put s a b c).fresh = s.fresh ∧
    (State.put s a b c).gen = s.gen ∧ (State.put s a b c).ruling = s.ruling ∧ (State.put s a b c).cap = s.cap ∧
    (State.put s a b c).mgmt = s.mgmt ∧ (State.put s a b c).unit = s.unit ∧ (State.put s a b c).pwr = s.pwr ∧
    (State.put s a b c).cfg = s.cfg ∧ (State.put s a b c).seams = s.seams ∧ (State.put s a b c).fab = s.fab ∧
    (State.put s a b c).clk = s.clk ∧ (State.put s a b c).tim = s.tim ∧ (State.put s a b c).lan = s.lan ∧
    (State.put s a b c).rx = s.rx ∧ (State.put s a b c).tx = s.tx ∧ (State.put s a b c).shu = s.shu ∧
    (State.put s a b c).noc = s.noc ∧ (State.put s a b c).mem = s.mem ∧ (State.put s a b c).itg = s.itg ∧
    (State.put s a b c).upd = s.upd := by
  unfold State.put
  simp

@[simp] theorem State_putOct_frame (s : State) (a : Nat) (b : Nat) (c : List Byte) :
    (State.putOct s a b c).pending = s.pending ∧ (State.putOct s a b c).now = s.now ∧
    (State.putOct s a b c).fresh = s.fresh ∧ (State.putOct s a b c).gen = s.gen ∧ (State.putOct s a b c).ruling = s.ruling ∧
    (State.putOct s a b c).cap = s.cap ∧ (State.putOct s a b c).mgmt = s.mgmt ∧ (State.putOct s a b c).unit = s.unit ∧
    (State.putOct s a b c).pwr = s.pwr ∧ (State.putOct s a b c).cfg = s.cfg ∧ (State.putOct s a b c).seams = s.seams ∧
    (State.putOct s a b c).fab = s.fab ∧ (State.putOct s a b c).clk = s.clk ∧ (State.putOct s a b c).tim = s.tim ∧
    (State.putOct s a b c).lan = s.lan ∧ (State.putOct s a b c).rx = s.rx ∧ (State.putOct s a b c).tx = s.tx ∧
    (State.putOct s a b c).shu = s.shu ∧ (State.putOct s a b c).noc = s.noc ∧ (State.putOct s a b c).mem = s.mem ∧
    (State.putOct s a b c).itg = s.itg ∧ (State.putOct s a b c).upd = s.upd := by
  unfold State.putOct
  simp

@[simp] theorem State_count_frame (s : State) (a : Nat) (b : Nat) (c : Nat) (d : Nat) :
    (State.count s a b c d).pending = s.pending ∧ (State.count s a b c d).now = s.now ∧
    (State.count s a b c d).fresh = s.fresh ∧ (State.count s a b c d).gen = s.gen ∧
    (State.count s a b c d).ruling = s.ruling ∧ (State.count s a b c d).cap = s.cap ∧
    (State.count s a b c d).mgmt = s.mgmt ∧ (State.count s a b c d).unit = s.unit ∧ (State.count s a b c d).pwr = s.pwr ∧
    (State.count s a b c d).cfg = s.cfg ∧ (State.count s a b c d).seams = s.seams ∧ (State.count s a b c d).fab = s.fab ∧
    (State.count s a b c d).clk = s.clk ∧ (State.count s a b c d).tim = s.tim ∧ (State.count s a b c d).lan = s.lan ∧
    (State.count s a b c d).rx = s.rx ∧ (State.count s a b c d).tx = s.tx ∧ (State.count s a b c d).shu = s.shu ∧
    (State.count s a b c d).noc = s.noc ∧ (State.count s a b c d).mem = s.mem ∧ (State.count s a b c d).itg = s.itg ∧
    (State.count s a b c d).upd = s.upd := by
  unfold State.count
  simp

@[simp] theorem State_setBits_frame (s : State) (a : Nat) (b : Nat) (c : Nat) :
    (State.setBits s a b c).pending = s.pending ∧ (State.setBits s a b c).now = s.now ∧
    (State.setBits s a b c).fresh = s.fresh ∧ (State.setBits s a b c).gen = s.gen ∧
    (State.setBits s a b c).ruling = s.ruling ∧ (State.setBits s a b c).cap = s.cap ∧
    (State.setBits s a b c).mgmt = s.mgmt ∧ (State.setBits s a b c).unit = s.unit ∧ (State.setBits s a b c).pwr = s.pwr ∧
    (State.setBits s a b c).cfg = s.cfg ∧ (State.setBits s a b c).seams = s.seams ∧ (State.setBits s a b c).fab = s.fab ∧
    (State.setBits s a b c).clk = s.clk ∧ (State.setBits s a b c).tim = s.tim ∧ (State.setBits s a b c).lan = s.lan ∧
    (State.setBits s a b c).rx = s.rx ∧ (State.setBits s a b c).tx = s.tx ∧ (State.setBits s a b c).shu = s.shu ∧
    (State.setBits s a b c).noc = s.noc ∧ (State.setBits s a b c).mem = s.mem ∧ (State.setBits s a b c).itg = s.itg ∧
    (State.setBits s a b c).upd = s.upd := by
  unfold State.setBits
  simp

@[simp] theorem State_latchBits_frame (s : State) (a : Nat) (b : Nat) (c : Nat) :
    (State.latchBits s a b c).pending = s.pending ∧ (State.latchBits s a b c).now = s.now ∧
    (State.latchBits s a b c).fresh = s.fresh ∧ (State.latchBits s a b c).gen = s.gen ∧
    (State.latchBits s a b c).ruling = s.ruling ∧ (State.latchBits s a b c).cap = s.cap ∧
    (State.latchBits s a b c).unit = s.unit ∧ (State.latchBits s a b c).pwr = s.pwr ∧
    (State.latchBits s a b c).cfg = s.cfg ∧ (State.latchBits s a b c).seams = s.seams ∧
    (State.latchBits s a b c).fab = s.fab ∧ (State.latchBits s a b c).clk = s.clk ∧ (State.latchBits s a b c).tim = s.tim ∧
    (State.latchBits s a b c).lan = s.lan ∧ (State.latchBits s a b c).rx = s.rx ∧ (State.latchBits s a b c).tx = s.tx ∧
    (State.latchBits s a b c).shu = s.shu ∧ (State.latchBits s a b c).noc = s.noc ∧ (State.latchBits s a b c).mem = s.mem ∧
    (State.latchBits s a b c).itg = s.itg ∧ (State.latchBits s a b c).upd = s.upd := by
  unfold State.latchBits
  simp

@[simp] theorem State_clrBits_frame (s : State) (a : Nat) (b : Nat) (c : Nat) :
    (State.clrBits s a b c).pending = s.pending ∧ (State.clrBits s a b c).now = s.now ∧
    (State.clrBits s a b c).fresh = s.fresh ∧ (State.clrBits s a b c).gen = s.gen ∧
    (State.clrBits s a b c).ruling = s.ruling ∧ (State.clrBits s a b c).cap = s.cap ∧
    (State.clrBits s a b c).mgmt = s.mgmt ∧ (State.clrBits s a b c).unit = s.unit ∧ (State.clrBits s a b c).pwr = s.pwr ∧
    (State.clrBits s a b c).cfg = s.cfg ∧ (State.clrBits s a b c).seams = s.seams ∧ (State.clrBits s a b c).fab = s.fab ∧
    (State.clrBits s a b c).clk = s.clk ∧ (State.clrBits s a b c).tim = s.tim ∧ (State.clrBits s a b c).lan = s.lan ∧
    (State.clrBits s a b c).rx = s.rx ∧ (State.clrBits s a b c).tx = s.tx ∧ (State.clrBits s a b c).shu = s.shu ∧
    (State.clrBits s a b c).noc = s.noc ∧ (State.clrBits s a b c).mem = s.mem ∧ (State.clrBits s a b c).itg = s.itg ∧
    (State.clrBits s a b c).upd = s.upd := by
  unfold State.clrBits
  simp

@[simp] theorem State_bump_frame (s : State) (a : Nat) :
    (State.bump s a).pending = s.pending ∧ (State.bump s a).now = s.now ∧ (State.bump s a).fresh = s.fresh ∧
    (State.bump s a).cat = s.cat ∧ (State.bump s a).ruling = s.ruling ∧ (State.bump s a).cap = s.cap ∧
    (State.bump s a).mgmt = s.mgmt ∧ (State.bump s a).unit = s.unit ∧ (State.bump s a).pwr = s.pwr ∧
    (State.bump s a).cfg = s.cfg ∧ (State.bump s a).seams = s.seams ∧ (State.bump s a).fab = s.fab ∧
    (State.bump s a).clk = s.clk ∧ (State.bump s a).tim = s.tim ∧ (State.bump s a).lan = s.lan ∧
    (State.bump s a).rx = s.rx ∧ (State.bump s a).tx = s.tx ∧ (State.bump s a).shu = s.shu ∧ (State.bump s a).noc = s.noc ∧
    (State.bump s a).mem = s.mem ∧ (State.bump s a).itg = s.itg ∧ (State.bump s a).upd = s.upd := by
  unfold State.bump
  simp

@[simp] theorem State_outcome_frame (s : State) (a : Nat) (b : Nat) (c : List Byte) :
    (State.outcome s a b c).pending = s.pending ∧ (State.outcome s a b c).now = s.now ∧
    (State.outcome s a b c).fresh = s.fresh ∧ (State.outcome s a b c).ruling = s.ruling ∧
    (State.outcome s a b c).cap = s.cap ∧ (State.outcome s a b c).mgmt = s.mgmt ∧ (State.outcome s a b c).unit = s.unit ∧
    (State.outcome s a b c).pwr = s.pwr ∧ (State.outcome s a b c).cfg = s.cfg ∧ (State.outcome s a b c).seams = s.seams ∧
    (State.outcome s a b c).fab = s.fab ∧ (State.outcome s a b c).clk = s.clk ∧ (State.outcome s a b c).tim = s.tim ∧
    (State.outcome s a b c).lan = s.lan ∧ (State.outcome s a b c).rx = s.rx ∧ (State.outcome s a b c).tx = s.tx ∧
    (State.outcome s a b c).shu = s.shu ∧ (State.outcome s a b c).noc = s.noc ∧ (State.outcome s a b c).mem = s.mem ∧
    (State.outcome s a b c).itg = s.itg ∧ (State.outcome s a b c).upd = s.upd := by
  unfold State.outcome
  simp

@[simp] theorem State_write_frame (s : State) (a : Nat) (b : Val) :
    (State.write s a b).pending = s.pending ∧ (State.write s a b).now = s.now ∧ (State.write s a b).fresh = s.fresh ∧
    (State.write s a b).ruling = s.ruling ∧ (State.write s a b).cap = s.cap ∧ (State.write s a b).mgmt = s.mgmt ∧
    (State.write s a b).unit = s.unit ∧ (State.write s a b).pwr = s.pwr ∧ (State.write s a b).cfg = s.cfg ∧
    (State.write s a b).seams = s.seams ∧ (State.write s a b).fab = s.fab ∧ (State.write s a b).clk = s.clk ∧
    (State.write s a b).tim = s.tim ∧ (State.write s a b).lan = s.lan ∧ (State.write s a b).rx = s.rx ∧
    (State.write s a b).tx = s.tx ∧ (State.write s a b).shu = s.shu ∧ (State.write s a b).noc = s.noc ∧
    (State.write s a b).mem = s.mem ∧ (State.write s a b).itg = s.itg ∧ (State.write s a b).upd = s.upd := by
  unfold State.write
  simp

@[simp] theorem State_reply_frame (s : State) (a : Nat) (b : Nat) (c : List Byte) :
    (State.reply s a b c).pending = s.pending ∧ (State.reply s a b c).now = s.now ∧ (State.reply s a b c).fresh = s.fresh ∧
    (State.reply s a b c).cat = s.cat ∧ (State.reply s a b c).gen = s.gen ∧ (State.reply s a b c).ruling = s.ruling ∧
    (State.reply s a b c).mgmt = s.mgmt ∧ (State.reply s a b c).unit = s.unit ∧ (State.reply s a b c).pwr = s.pwr ∧
    (State.reply s a b c).cfg = s.cfg ∧ (State.reply s a b c).seams = s.seams ∧ (State.reply s a b c).fab = s.fab ∧
    (State.reply s a b c).clk = s.clk ∧ (State.reply s a b c).tim = s.tim ∧ (State.reply s a b c).lan = s.lan ∧
    (State.reply s a b c).rx = s.rx ∧ (State.reply s a b c).tx = s.tx ∧ (State.reply s a b c).shu = s.shu ∧
    (State.reply s a b c).noc = s.noc ∧ (State.reply s a b c).mem = s.mem ∧ (State.reply s a b c).itg = s.itg ∧
    (State.reply s a b c).upd = s.upd := by
  unfold State.reply
  simp

@[simp] theorem State_pass_frame (s : State) (a : Nat) :
    (State.pass s a).pending = s.pending ∧ (State.pass s a).fresh = s.fresh ∧ (State.pass s a).cat = s.cat ∧
    (State.pass s a).gen = s.gen ∧ (State.pass s a).ruling = s.ruling ∧ (State.pass s a).cap = s.cap ∧
    (State.pass s a).mgmt = s.mgmt ∧ (State.pass s a).unit = s.unit ∧ (State.pass s a).pwr = s.pwr ∧
    (State.pass s a).cfg = s.cfg ∧ (State.pass s a).seams = s.seams ∧ (State.pass s a).fab = s.fab ∧
    (State.pass s a).clk = s.clk ∧ (State.pass s a).lan = s.lan ∧ (State.pass s a).rx = s.rx ∧ (State.pass s a).tx = s.tx ∧
    (State.pass s a).shu = s.shu ∧ (State.pass s a).noc = s.noc ∧ (State.pass s a).mem = s.mem ∧
    (State.pass s a).itg = s.itg ∧ (State.pass s a).upd = s.upd := by
  unfold State.pass
  simp

@[simp] theorem State_waitUntil_frame (s : State) (a : Nat) :
    (State.waitUntil s a).pending = s.pending ∧ (State.waitUntil s a).fresh = s.fresh ∧ (State.waitUntil s a).cat = s.cat ∧
    (State.waitUntil s a).gen = s.gen ∧ (State.waitUntil s a).ruling = s.ruling ∧ (State.waitUntil s a).cap = s.cap ∧
    (State.waitUntil s a).mgmt = s.mgmt ∧ (State.waitUntil s a).unit = s.unit ∧ (State.waitUntil s a).pwr = s.pwr ∧
    (State.waitUntil s a).cfg = s.cfg ∧ (State.waitUntil s a).seams = s.seams ∧ (State.waitUntil s a).fab = s.fab ∧
    (State.waitUntil s a).clk = s.clk ∧ (State.waitUntil s a).lan = s.lan ∧ (State.waitUntil s a).rx = s.rx ∧
    (State.waitUntil s a).tx = s.tx ∧ (State.waitUntil s a).shu = s.shu ∧ (State.waitUntil s a).noc = s.noc ∧
    (State.waitUntil s a).mem = s.mem ∧ (State.waitUntil s a).itg = s.itg ∧ (State.waitUntil s a).upd = s.upd := by
  unfold State.waitUntil
  simp

@[simp] theorem State_setTb_frame (s : State) (a : Nat) (b : TimeBase → TimeBase) :
    (State.setTb s a b).pending = s.pending ∧ (State.setTb s a b).now = s.now ∧ (State.setTb s a b).fresh = s.fresh ∧
    (State.setTb s a b).cat = s.cat ∧ (State.setTb s a b).gen = s.gen ∧ (State.setTb s a b).ruling = s.ruling ∧
    (State.setTb s a b).cap = s.cap ∧ (State.setTb s a b).mgmt = s.mgmt ∧ (State.setTb s a b).unit = s.unit ∧
    (State.setTb s a b).pwr = s.pwr ∧ (State.setTb s a b).cfg = s.cfg ∧ (State.setTb s a b).seams = s.seams ∧
    (State.setTb s a b).fab = s.fab ∧ (State.setTb s a b).clk = s.clk ∧ (State.setTb s a b).lan = s.lan ∧
    (State.setTb s a b).rx = s.rx ∧ (State.setTb s a b).tx = s.tx ∧ (State.setTb s a b).shu = s.shu ∧
    (State.setTb s a b).noc = s.noc ∧ (State.setTb s a b).mem = s.mem ∧ (State.setTb s a b).itg = s.itg ∧
    (State.setTb s a b).upd = s.upd := by
  unfold State.setTb
  simp

@[simp] theorem State_waitTb_frame (s : State) (a : Nat) (b : Nat) :
    (State.waitTb s a b).pending = s.pending ∧ (State.waitTb s a b).fresh = s.fresh ∧ (State.waitTb s a b).cat = s.cat ∧
    (State.waitTb s a b).gen = s.gen ∧ (State.waitTb s a b).ruling = s.ruling ∧ (State.waitTb s a b).cap = s.cap ∧
    (State.waitTb s a b).mgmt = s.mgmt ∧ (State.waitTb s a b).unit = s.unit ∧ (State.waitTb s a b).pwr = s.pwr ∧
    (State.waitTb s a b).cfg = s.cfg ∧ (State.waitTb s a b).seams = s.seams ∧ (State.waitTb s a b).fab = s.fab ∧
    (State.waitTb s a b).clk = s.clk ∧ (State.waitTb s a b).lan = s.lan ∧ (State.waitTb s a b).rx = s.rx ∧
    (State.waitTb s a b).tx = s.tx ∧ (State.waitTb s a b).shu = s.shu ∧ (State.waitTb s a b).noc = s.noc ∧
    (State.waitTb s a b).mem = s.mem ∧ (State.waitTb s a b).itg = s.itg ∧ (State.waitTb s a b).upd = s.upd := by
  unfold State.waitTb
  simp

@[simp] theorem State_draw_frame (s : State) :
    (State.draw s).pending = s.pending ∧ (State.draw s).now = s.now ∧ (State.draw s).cat = s.cat ∧
    (State.draw s).gen = s.gen ∧ (State.draw s).ruling = s.ruling ∧ (State.draw s).cap = s.cap ∧
    (State.draw s).mgmt = s.mgmt ∧ (State.draw s).unit = s.unit ∧ (State.draw s).pwr = s.pwr ∧ (State.draw s).cfg = s.cfg ∧
    (State.draw s).seams = s.seams ∧ (State.draw s).fab = s.fab ∧ (State.draw s).clk = s.clk ∧ (State.draw s).tim = s.tim ∧
    (State.draw s).lan = s.lan ∧ (State.draw s).rx = s.rx ∧ (State.draw s).tx = s.tx ∧ (State.draw s).shu = s.shu ∧
    (State.draw s).noc = s.noc ∧ (State.draw s).mem = s.mem ∧ (State.draw s).itg = s.itg ∧ (State.draw s).upd = s.upd := by
  unfold State.draw
  simp

@[simp] theorem noteLoss_frame (s : State) :
    (noteLoss s).pending = s.pending ∧ (noteLoss s).now = s.now ∧ (noteLoss s).fresh = s.fresh ∧ (noteLoss s).gen = s.gen ∧
    (noteLoss s).ruling = s.ruling ∧ (noteLoss s).cap = s.cap ∧ (noteLoss s).unit = s.unit ∧ (noteLoss s).pwr = s.pwr ∧
    (noteLoss s).cfg = s.cfg ∧ (noteLoss s).seams = s.seams ∧ (noteLoss s).fab = s.fab ∧ (noteLoss s).clk = s.clk ∧
    (noteLoss s).tim = s.tim ∧ (noteLoss s).lan = s.lan ∧ (noteLoss s).rx = s.rx ∧ (noteLoss s).tx = s.tx ∧
    (noteLoss s).shu = s.shu ∧ (noteLoss s).noc = s.noc ∧ (noteLoss s).mem = s.mem ∧ (noteLoss s).itg = s.itg ∧
    (noteLoss s).upd = s.upd := by
  unfold noteLoss
  simp

@[simp] theorem appendRecord_frame (s : State) (a : EvRec) (b : Reach) (c : Bool) :
    (appendRecord s a b c).pending = s.pending ∧ (appendRecord s a b c).now = s.now ∧
    (appendRecord s a b c).fresh = s.fresh ∧ (appendRecord s a b c).cat = s.cat ∧ (appendRecord s a b c).gen = s.gen ∧
    (appendRecord s a b c).ruling = s.ruling ∧ (appendRecord s a b c).cap = s.cap ∧ (appendRecord s a b c).unit = s.unit ∧
    (appendRecord s a b c).pwr = s.pwr ∧ (appendRecord s a b c).cfg = s.cfg ∧ (appendRecord s a b c).seams = s.seams ∧
    (appendRecord s a b c).fab = s.fab ∧ (appendRecord s a b c).clk = s.clk ∧ (appendRecord s a b c).tim = s.tim ∧
    (appendRecord s a b c).lan = s.lan ∧ (appendRecord s a b c).rx = s.rx ∧ (appendRecord s a b c).tx = s.tx ∧
    (appendRecord s a b c).shu = s.shu ∧ (appendRecord s a b c).noc = s.noc ∧ (appendRecord s a b c).mem = s.mem ∧
    (appendRecord s a b c).itg = s.itg ∧ (appendRecord s a b c).upd = s.upd := by
  unfold appendRecord
  simp

@[simp] theorem enqueueRecord_frame (s : State) (a : EvRec) (b : Reach) (c : Bool) :
    (enqueueRecord s a b c).pending = s.pending ∧ (enqueueRecord s a b c).now = s.now ∧
    (enqueueRecord s a b c).fresh = s.fresh ∧ (enqueueRecord s a b c).gen = s.gen ∧
    (enqueueRecord s a b c).ruling = s.ruling ∧ (enqueueRecord s a b c).cap = s.cap ∧
    (enqueueRecord s a b c).unit = s.unit ∧ (enqueueRecord s a b c).pwr = s.pwr ∧ (enqueueRecord s a b c).cfg = s.cfg ∧
    (enqueueRecord s a b c).seams = s.seams ∧ (enqueueRecord s a b c).fab = s.fab ∧ (enqueueRecord s a b c).clk = s.clk ∧
    (enqueueRecord s a b c).tim = s.tim ∧ (enqueueRecord s a b c).lan = s.lan ∧ (enqueueRecord s a b c).rx = s.rx ∧
    (enqueueRecord s a b c).tx = s.tx ∧ (enqueueRecord s a b c).shu = s.shu ∧ (enqueueRecord s a b c).noc = s.noc ∧
    (enqueueRecord s a b c).mem = s.mem ∧ (enqueueRecord s a b c).itg = s.itg ∧ (enqueueRecord s a b c).upd = s.upd := by
  unfold enqueueRecord
  simp

@[simp] theorem countRaise_frame (s : State) (a : Nat) :
    (countRaise s a).pending = s.pending ∧ (countRaise s a).now = s.now ∧ (countRaise s a).fresh = s.fresh ∧
    (countRaise s a).gen = s.gen ∧ (countRaise s a).ruling = s.ruling ∧ (countRaise s a).cap = s.cap ∧
    (countRaise s a).mgmt = s.mgmt ∧ (countRaise s a).unit = s.unit ∧ (countRaise s a).pwr = s.pwr ∧
    (countRaise s a).cfg = s.cfg ∧ (countRaise s a).seams = s.seams ∧ (countRaise s a).fab = s.fab ∧
    (countRaise s a).clk = s.clk ∧ (countRaise s a).tim = s.tim ∧ (countRaise s a).lan = s.lan ∧
    (countRaise s a).rx = s.rx ∧ (countRaise s a).tx = s.tx ∧ (countRaise s a).shu = s.shu ∧ (countRaise s a).noc = s.noc ∧
    (countRaise s a).mem = s.mem ∧ (countRaise s a).itg = s.itg ∧ (countRaise s a).upd = s.upd := by
  unfold countRaise
  simp

@[simp] theorem driveRoutes_frame (s : State) (a : Nat) :
    (driveRoutes s a).pending = s.pending ∧ (driveRoutes s a).now = s.now ∧ (driveRoutes s a).fresh = s.fresh ∧
    (driveRoutes s a).gen = s.gen ∧ (driveRoutes s a).ruling = s.ruling ∧ (driveRoutes s a).cap = s.cap ∧
    (driveRoutes s a).unit = s.unit ∧ (driveRoutes s a).pwr = s.pwr ∧ (driveRoutes s a).cfg = s.cfg ∧
    (driveRoutes s a).seams = s.seams ∧ (driveRoutes s a).fab = s.fab ∧ (driveRoutes s a).clk = s.clk ∧
    (driveRoutes s a).tim = s.tim ∧ (driveRoutes s a).lan = s.lan ∧ (driveRoutes s a).rx = s.rx ∧
    (driveRoutes s a).tx = s.tx ∧ (driveRoutes s a).shu = s.shu ∧ (driveRoutes s a).noc = s.noc ∧
    (driveRoutes s a).mem = s.mem ∧ (driveRoutes s a).itg = s.itg ∧ (driveRoutes s a).upd = s.upd := by
  unfold driveRoutes
  simp

@[simp] theorem raiseRecord_frame (s : State) (a : EvRec) (b : Reach) :
    (raiseRecord s a b).pending = s.pending ∧ (raiseRecord s a b).now = s.now ∧ (raiseRecord s a b).fresh = s.fresh ∧
    (raiseRecord s a b).gen = s.gen ∧ (raiseRecord s a b).ruling = s.ruling ∧ (raiseRecord s a b).cap = s.cap ∧
    (raiseRecord s a b).unit = s.unit ∧ (raiseRecord s a b).pwr = s.pwr ∧ (raiseRecord s a b).cfg = s.cfg ∧
    (raiseRecord s a b).seams = s.seams ∧ (raiseRecord s a b).fab = s.fab ∧ (raiseRecord s a b).clk = s.clk ∧
    (raiseRecord s a b).tim = s.tim ∧ (raiseRecord s a b).lan = s.lan ∧ (raiseRecord s a b).rx = s.rx ∧
    (raiseRecord s a b).tx = s.tx ∧ (raiseRecord s a b).shu = s.shu ∧ (raiseRecord s a b).noc = s.noc ∧
    (raiseRecord s a b).mem = s.mem ∧ (raiseRecord s a b).itg = s.itg ∧ (raiseRecord s a b).upd = s.upd := by
  unfold raiseRecord
  simp

@[simp] theorem raiseWith_frame (s : State) (a : EvRec) (b : Reach) :
    (raiseWith s a b).pending = s.pending ∧ (raiseWith s a b).now = s.now ∧ (raiseWith s a b).fresh = s.fresh ∧
    (raiseWith s a b).gen = s.gen ∧ (raiseWith s a b).ruling = s.ruling ∧ (raiseWith s a b).cap = s.cap ∧
    (raiseWith s a b).unit = s.unit ∧ (raiseWith s a b).pwr = s.pwr ∧ (raiseWith s a b).cfg = s.cfg ∧
    (raiseWith s a b).seams = s.seams ∧ (raiseWith s a b).fab = s.fab ∧ (raiseWith s a b).clk = s.clk ∧
    (raiseWith s a b).tim = s.tim ∧ (raiseWith s a b).lan = s.lan ∧ (raiseWith s a b).rx = s.rx ∧
    (raiseWith s a b).tx = s.tx ∧ (raiseWith s a b).shu = s.shu ∧ (raiseWith s a b).noc = s.noc ∧
    (raiseWith s a b).mem = s.mem ∧ (raiseWith s a b).itg = s.itg ∧ (raiseWith s a b).upd = s.upd := by
  unfold raiseWith
  simp

@[simp] theorem State_raise_frame (s : State) (a : Nat) (b : Nat) (c : List Byte) :
    (State.raise s a b c).pending = s.pending ∧ (State.raise s a b c).now = s.now ∧ (State.raise s a b c).fresh = s.fresh ∧
    (State.raise s a b c).gen = s.gen ∧ (State.raise s a b c).ruling = s.ruling ∧ (State.raise s a b c).cap = s.cap ∧
    (State.raise s a b c).unit = s.unit ∧ (State.raise s a b c).pwr = s.pwr ∧ (State.raise s a b c).cfg = s.cfg ∧
    (State.raise s a b c).seams = s.seams ∧ (State.raise s a b c).fab = s.fab ∧ (State.raise s a b c).clk = s.clk ∧
    (State.raise s a b c).tim = s.tim ∧ (State.raise s a b c).lan = s.lan ∧ (State.raise s a b c).rx = s.rx ∧
    (State.raise s a b c).tx = s.tx ∧ (State.raise s a b c).shu = s.shu ∧ (State.raise s a b c).noc = s.noc ∧
    (State.raise s a b c).mem = s.mem ∧ (State.raise s a b c).itg = s.itg ∧ (State.raise s a b c).upd = s.upd := by
  unfold State.raise
  simp

@[simp] theorem raiseDone_frame (s : State) (a : TimedCmd) (b : Nat) :
    (raiseDone s a b).pending = s.pending ∧ (raiseDone s a b).now = s.now ∧ (raiseDone s a b).fresh = s.fresh ∧
    (raiseDone s a b).gen = s.gen ∧ (raiseDone s a b).ruling = s.ruling ∧ (raiseDone s a b).cap = s.cap ∧
    (raiseDone s a b).unit = s.unit ∧ (raiseDone s a b).pwr = s.pwr ∧ (raiseDone s a b).cfg = s.cfg ∧
    (raiseDone s a b).seams = s.seams ∧ (raiseDone s a b).fab = s.fab ∧ (raiseDone s a b).clk = s.clk ∧
    (raiseDone s a b).tim = s.tim ∧ (raiseDone s a b).lan = s.lan ∧ (raiseDone s a b).rx = s.rx ∧
    (raiseDone s a b).tx = s.tx ∧ (raiseDone s a b).shu = s.shu ∧ (raiseDone s a b).noc = s.noc ∧
    (raiseDone s a b).mem = s.mem ∧ (raiseDone s a b).itg = s.itg ∧ (raiseDone s a b).upd = s.upd := by
  unfold raiseDone
  simp

@[simp] theorem markOccurrence_frame (s : State) (a : Nat) (b : Nat) (c : Bool) :
    (markOccurrence s a b c).pending = s.pending ∧ (markOccurrence s a b c).now = s.now ∧
    (markOccurrence s a b c).fresh = s.fresh ∧ (markOccurrence s a b c).cat = s.cat ∧ (markOccurrence s a b c).gen = s.gen ∧
    (markOccurrence s a b c).ruling = s.ruling ∧ (markOccurrence s a b c).cap = s.cap ∧
    (markOccurrence s a b c).unit = s.unit ∧ (markOccurrence s a b c).pwr = s.pwr ∧ (markOccurrence s a b c).cfg = s.cfg ∧
    (markOccurrence s a b c).seams = s.seams ∧ (markOccurrence s a b c).fab = s.fab ∧ (markOccurrence s a b c).clk = s.clk ∧
    (markOccurrence s a b c).tim = s.tim ∧ (markOccurrence s a b c).lan = s.lan ∧ (markOccurrence s a b c).rx = s.rx ∧
    (markOccurrence s a b c).tx = s.tx ∧ (markOccurrence s a b c).shu = s.shu ∧ (markOccurrence s a b c).noc = s.noc ∧
    (markOccurrence s a b c).mem = s.mem ∧ (markOccurrence s a b c).itg = s.itg ∧ (markOccurrence s a b c).upd = s.upd := by
  unfold markOccurrence
  simp

@[simp] theorem State_raiseAtMost_frame (s : State) (a : Nat) (b : Nat) (c : Nat) (d : Nat → List Byte) :
    (State.raiseAtMost s a b c d).pending = s.pending ∧ (State.raiseAtMost s a b c d).now = s.now ∧
    (State.raiseAtMost s a b c d).fresh = s.fresh ∧ (State.raiseAtMost s a b c d).gen = s.gen ∧
    (State.raiseAtMost s a b c d).ruling = s.ruling ∧ (State.raiseAtMost s a b c d).cap = s.cap ∧
    (State.raiseAtMost s a b c d).unit = s.unit ∧ (State.raiseAtMost s a b c d).pwr = s.pwr ∧
    (State.raiseAtMost s a b c d).cfg = s.cfg ∧ (State.raiseAtMost s a b c d).seams = s.seams ∧
    (State.raiseAtMost s a b c d).fab = s.fab ∧ (State.raiseAtMost s a b c d).clk = s.clk ∧
    (State.raiseAtMost s a b c d).tim = s.tim ∧ (State.raiseAtMost s a b c d).lan = s.lan ∧
    (State.raiseAtMost s a b c d).rx = s.rx ∧ (State.raiseAtMost s a b c d).tx = s.tx ∧
    (State.raiseAtMost s a b c d).shu = s.shu ∧ (State.raiseAtMost s a b c d).noc = s.noc ∧
    (State.raiseAtMost s a b c d).mem = s.mem ∧ (State.raiseAtMost s a b c d).itg = s.itg ∧
    (State.raiseAtMost s a b c d).upd = s.upd := by
  unfold State.raiseAtMost
  simp

@[simp] theorem acceptTimed_frame (s : State) (a : TimedCmd) :
    (acceptTimed s a).pending = s.pending ∧ (acceptTimed s a).now = s.now ∧ (acceptTimed s a).fresh = s.fresh ∧
    (acceptTimed s a).cat = s.cat ∧ (acceptTimed s a).gen = s.gen ∧ (acceptTimed s a).cap = s.cap ∧
    (acceptTimed s a).mgmt = s.mgmt ∧ (acceptTimed s a).unit = s.unit ∧ (acceptTimed s a).pwr = s.pwr ∧
    (acceptTimed s a).cfg = s.cfg ∧ (acceptTimed s a).seams = s.seams ∧ (acceptTimed s a).fab = s.fab ∧
    (acceptTimed s a).clk = s.clk ∧ (acceptTimed s a).tim = s.tim ∧ (acceptTimed s a).lan = s.lan ∧
    (acceptTimed s a).rx = s.rx ∧ (acceptTimed s a).tx = s.tx ∧ (acceptTimed s a).shu = s.shu ∧
    (acceptTimed s a).noc = s.noc ∧ (acceptTimed s a).mem = s.mem ∧ (acceptTimed s a).itg = s.itg ∧
    (acceptTimed s a).upd = s.upd := by
  unfold acceptTimed
  simp

@[simp] theorem requestDone_frame (s : State) (a : TaskKind) (b : Nat) :
    (requestDone s a b).s.pending = s.pending ∧ (requestDone s a b).s.now = s.now ∧ (requestDone s a b).s.fresh = s.fresh ∧
    (requestDone s a b).s.cat = s.cat ∧ (requestDone s a b).s.gen = s.gen ∧ (requestDone s a b).s.cap = s.cap ∧
    (requestDone s a b).s.mgmt = s.mgmt ∧ (requestDone s a b).s.unit = s.unit ∧ (requestDone s a b).s.pwr = s.pwr ∧
    (requestDone s a b).s.cfg = s.cfg ∧ (requestDone s a b).s.seams = s.seams ∧ (requestDone s a b).s.fab = s.fab ∧
    (requestDone s a b).s.clk = s.clk ∧ (requestDone s a b).s.tim = s.tim ∧ (requestDone s a b).s.lan = s.lan ∧
    (requestDone s a b).s.rx = s.rx ∧ (requestDone s a b).s.tx = s.tx ∧ (requestDone s a b).s.shu = s.shu ∧
    (requestDone s a b).s.noc = s.noc ∧ (requestDone s a b).s.mem = s.mem ∧ (requestDone s a b).s.itg = s.itg ∧
    (requestDone s a b).s.upd = s.upd := by
  unfold requestDone requestTask
  split <;> rename_i h <;> split at h <;> simp_all
  all_goals (subst h; simp)

@[simp] theorem withdrawTask_frame (s : State) (a : TaskKind) (b : Nat) :
    (withdrawTask s a b).pending = s.pending ∧ (withdrawTask s a b).now = s.now ∧ (withdrawTask s a b).fresh = s.fresh ∧
    (withdrawTask s a b).cat = s.cat ∧ (withdrawTask s a b).gen = s.gen ∧ (withdrawTask s a b).cap = s.cap ∧
    (withdrawTask s a b).mgmt = s.mgmt ∧ (withdrawTask s a b).unit = s.unit ∧ (withdrawTask s a b).pwr = s.pwr ∧
    (withdrawTask s a b).cfg = s.cfg ∧ (withdrawTask s a b).seams = s.seams ∧ (withdrawTask s a b).fab = s.fab ∧
    (withdrawTask s a b).clk = s.clk ∧ (withdrawTask s a b).tim = s.tim ∧ (withdrawTask s a b).lan = s.lan ∧
    (withdrawTask s a b).rx = s.rx ∧ (withdrawTask s a b).tx = s.tx ∧ (withdrawTask s a b).shu = s.shu ∧
    (withdrawTask s a b).noc = s.noc ∧ (withdrawTask s a b).mem = s.mem ∧ (withdrawTask s a b).itg = s.itg ∧
    (withdrawTask s a b).upd = s.upd := by
  unfold withdrawTask
  simp

@[simp] theorem takeOutcome_frame (s : State) (a : TimedCmd) (b : Nat) :
    (takeOutcome s a b).pending = s.pending ∧ (takeOutcome s a b).now = s.now ∧ (takeOutcome s a b).fresh = s.fresh ∧
    (takeOutcome s a b).gen = s.gen ∧ (takeOutcome s a b).ruling = s.ruling ∧ (takeOutcome s a b).cap = s.cap ∧
    (takeOutcome s a b).unit = s.unit ∧ (takeOutcome s a b).pwr = s.pwr ∧ (takeOutcome s a b).cfg = s.cfg ∧
    (takeOutcome s a b).seams = s.seams ∧ (takeOutcome s a b).fab = s.fab ∧ (takeOutcome s a b).clk = s.clk ∧
    (takeOutcome s a b).tim = s.tim ∧ (takeOutcome s a b).lan = s.lan ∧ (takeOutcome s a b).rx = s.rx ∧
    (takeOutcome s a b).tx = s.tx ∧ (takeOutcome s a b).shu = s.shu ∧ (takeOutcome s a b).noc = s.noc ∧
    (takeOutcome s a b).mem = s.mem ∧ (takeOutcome s a b).itg = s.itg ∧ (takeOutcome s a b).upd = s.upd := by
  unfold takeOutcome
  split <;> simp

@[simp] theorem finishCmd_frame (s : State) (a : TimedCmd) (b : Nat) :
    (finishCmd s a b).pending = s.pending ∧ (finishCmd s a b).now = s.now ∧ (finishCmd s a b).fresh = s.fresh ∧
    (finishCmd s a b).gen = s.gen ∧ (finishCmd s a b).ruling = s.ruling ∧ (finishCmd s a b).cap = s.cap ∧
    (finishCmd s a b).unit = s.unit ∧ (finishCmd s a b).pwr = s.pwr ∧ (finishCmd s a b).cfg = s.cfg ∧
    (finishCmd s a b).seams = s.seams ∧ (finishCmd s a b).fab = s.fab ∧ (finishCmd s a b).clk = s.clk ∧
    (finishCmd s a b).tim = s.tim ∧ (finishCmd s a b).lan = s.lan ∧ (finishCmd s a b).rx = s.rx ∧
    (finishCmd s a b).tx = s.tx ∧ (finishCmd s a b).shu = s.shu ∧ (finishCmd s a b).noc = s.noc ∧
    (finishCmd s a b).mem = s.mem ∧ (finishCmd s a b).itg = s.itg ∧ (finishCmd s a b).upd = s.upd := by
  unfold finishCmd
  simp

@[simp] theorem cancelTimed_frame (s : State) (a : TimedCmd → Bool) (b : Nat) :
    (cancelTimed s a b).pending = s.pending ∧ (cancelTimed s a b).now = s.now ∧ (cancelTimed s a b).fresh = s.fresh ∧
    (cancelTimed s a b).gen = s.gen ∧ (cancelTimed s a b).cap = s.cap ∧ (cancelTimed s a b).unit = s.unit ∧
    (cancelTimed s a b).pwr = s.pwr ∧ (cancelTimed s a b).cfg = s.cfg ∧ (cancelTimed s a b).seams = s.seams ∧
    (cancelTimed s a b).fab = s.fab ∧ (cancelTimed s a b).clk = s.clk ∧ (cancelTimed s a b).tim = s.tim ∧
    (cancelTimed s a b).lan = s.lan ∧ (cancelTimed s a b).rx = s.rx ∧ (cancelTimed s a b).tx = s.tx ∧
    (cancelTimed s a b).shu = s.shu ∧ (cancelTimed s a b).noc = s.noc ∧ (cancelTimed s a b).mem = s.mem ∧
    (cancelTimed s a b).itg = s.itg ∧ (cancelTimed s a b).upd = s.upd := by
  unfold cancelTimed
  simp

@[simp] theorem completeCmd_frame (s : State) (a : Option TimedCmd) (b : Nat) :
    (completeCmd s a b).pending = s.pending ∧ (completeCmd s a b).now = s.now ∧ (completeCmd s a b).fresh = s.fresh ∧
    (completeCmd s a b).gen = s.gen ∧ (completeCmd s a b).ruling = s.ruling ∧ (completeCmd s a b).cap = s.cap ∧
    (completeCmd s a b).unit = s.unit ∧ (completeCmd s a b).pwr = s.pwr ∧ (completeCmd s a b).cfg = s.cfg ∧
    (completeCmd s a b).seams = s.seams ∧ (completeCmd s a b).fab = s.fab ∧ (completeCmd s a b).clk = s.clk ∧
    (completeCmd s a b).tim = s.tim ∧ (completeCmd s a b).lan = s.lan ∧ (completeCmd s a b).rx = s.rx ∧
    (completeCmd s a b).tx = s.tx ∧ (completeCmd s a b).shu = s.shu ∧ (completeCmd s a b).noc = s.noc ∧
    (completeCmd s a b).mem = s.mem ∧ (completeCmd s a b).itg = s.itg ∧ (completeCmd s a b).upd = s.upd := by
  unfold completeCmd
  split <;> simp

@[simp] theorem State_setServo_frame (s : State) (a : Nat) (b : Servo → Servo) :
    (State.setServo s a b).pending = s.pending ∧ (State.setServo s a b).now = s.now ∧
    (State.setServo s a b).fresh = s.fresh ∧ (State.setServo s a b).cat = s.cat ∧ (State.setServo s a b).gen = s.gen ∧
    (State.setServo s a b).ruling = s.ruling ∧ (State.setServo s a b).cap = s.cap ∧ (State.setServo s a b).mgmt = s.mgmt ∧
    (State.setServo s a b).unit = s.unit ∧ (State.setServo s a b).pwr = s.pwr ∧ (State.setServo s a b).cfg = s.cfg ∧
    (State.setServo s a b).seams = s.seams ∧ (State.setServo s a b).fab = s.fab ∧ (State.setServo s a b).clk = s.clk ∧
    (State.setServo s a b).lan = s.lan ∧ (State.setServo s a b).rx = s.rx ∧ (State.setServo s a b).tx = s.tx ∧
    (State.setServo s a b).shu = s.shu ∧ (State.setServo s a b).noc = s.noc ∧ (State.setServo s a b).mem = s.mem ∧
    (State.setServo s a b).itg = s.itg ∧ (State.setServo s a b).upd = s.upd := by
  unfold State.setServo
  simp

@[simp] theorem servoState_frame (s : State) (a : Nat) (b : Nat) :
    (servoState s a b).pending = s.pending ∧ (servoState s a b).now = s.now ∧ (servoState s a b).fresh = s.fresh ∧
    (servoState s a b).gen = s.gen ∧ (servoState s a b).ruling = s.ruling ∧ (servoState s a b).cap = s.cap ∧
    (servoState s a b).unit = s.unit ∧ (servoState s a b).pwr = s.pwr ∧ (servoState s a b).cfg = s.cfg ∧
    (servoState s a b).seams = s.seams ∧ (servoState s a b).fab = s.fab ∧ (servoState s a b).clk = s.clk ∧
    (servoState s a b).lan = s.lan ∧ (servoState s a b).rx = s.rx ∧ (servoState s a b).tx = s.tx ∧
    (servoState s a b).shu = s.shu ∧ (servoState s a b).noc = s.noc ∧ (servoState s a b).mem = s.mem ∧
    (servoState s a b).itg = s.itg ∧ (servoState s a b).upd = s.upd := by
  unfold servoState
  simp

@[simp] theorem startSlew_frame (s : State) (a : Nat) (b : Nat) (c : Nat) :
    (startSlew s a b c).pending = s.pending ∧ (startSlew s a b c).now = s.now ∧ (startSlew s a b c).fresh = s.fresh ∧
    (startSlew s a b c).gen = s.gen ∧ (startSlew s a b c).ruling = s.ruling ∧ (startSlew s a b c).cap = s.cap ∧
    (startSlew s a b c).unit = s.unit ∧ (startSlew s a b c).pwr = s.pwr ∧ (startSlew s a b c).cfg = s.cfg ∧
    (startSlew s a b c).seams = s.seams ∧ (startSlew s a b c).fab = s.fab ∧ (startSlew s a b c).clk = s.clk ∧
    (startSlew s a b c).lan = s.lan ∧ (startSlew s a b c).rx = s.rx ∧ (startSlew s a b c).tx = s.tx ∧
    (startSlew s a b c).shu = s.shu ∧ (startSlew s a b c).noc = s.noc ∧ (startSlew s a b c).mem = s.mem ∧
    (startSlew s a b c).itg = s.itg ∧ (startSlew s a b c).upd = s.upd := by
  unfold startSlew
  simp

@[simp] theorem addStep_frame (s : State) (a : Nat) (b : Int) (c : Bool) :
    (addStep s a b c).pending = s.pending ∧ (addStep s a b c).now = s.now ∧ (addStep s a b c).fresh = s.fresh ∧
    (addStep s a b c).cat = s.cat ∧ (addStep s a b c).gen = s.gen ∧ (addStep s a b c).ruling = s.ruling ∧
    (addStep s a b c).cap = s.cap ∧ (addStep s a b c).mgmt = s.mgmt ∧ (addStep s a b c).unit = s.unit ∧
    (addStep s a b c).pwr = s.pwr ∧ (addStep s a b c).cfg = s.cfg ∧ (addStep s a b c).seams = s.seams ∧
    (addStep s a b c).fab = s.fab ∧ (addStep s a b c).clk = s.clk ∧ (addStep s a b c).lan = s.lan ∧
    (addStep s a b c).rx = s.rx ∧ (addStep s a b c).tx = s.tx ∧ (addStep s a b c).shu = s.shu ∧
    (addStep s a b c).noc = s.noc ∧ (addStep s a b c).mem = s.mem ∧ (addStep s a b c).itg = s.itg ∧
    (addStep s a b c).upd = s.upd := by
  unfold addStep
  simp

@[simp] theorem servoRelease_frame (s : State) (a : Nat) :
    (servoRelease s a).pending = s.pending ∧ (servoRelease s a).now = s.now ∧ (servoRelease s a).fresh = s.fresh ∧
    (servoRelease s a).gen = s.gen ∧ (servoRelease s a).ruling = s.ruling ∧ (servoRelease s a).cap = s.cap ∧
    (servoRelease s a).unit = s.unit ∧ (servoRelease s a).pwr = s.pwr ∧ (servoRelease s a).cfg = s.cfg ∧
    (servoRelease s a).seams = s.seams ∧ (servoRelease s a).fab = s.fab ∧ (servoRelease s a).clk = s.clk ∧
    (servoRelease s a).lan = s.lan ∧ (servoRelease s a).rx = s.rx ∧ (servoRelease s a).tx = s.tx ∧
    (servoRelease s a).shu = s.shu ∧ (servoRelease s a).noc = s.noc ∧ (servoRelease s a).mem = s.mem ∧
    (servoRelease s a).itg = s.itg ∧ (servoRelease s a).upd = s.upd := by
  unfold servoRelease
  simp

@[simp] theorem holdSettings_frame (s : State) (a : Nat) (b : PickSet) :
    (holdSettings s a b).pending = s.pending ∧ (holdSettings s a b).now = s.now ∧ (holdSettings s a b).fresh = s.fresh ∧
    (holdSettings s a b).ruling = s.ruling ∧ (holdSettings s a b).cap = s.cap ∧ (holdSettings s a b).mgmt = s.mgmt ∧
    (holdSettings s a b).unit = s.unit ∧ (holdSettings s a b).pwr = s.pwr ∧ (holdSettings s a b).cfg = s.cfg ∧
    (holdSettings s a b).seams = s.seams ∧ (holdSettings s a b).fab = s.fab ∧ (holdSettings s a b).clk = s.clk ∧
    (holdSettings s a b).tim = s.tim ∧ (holdSettings s a b).lan = s.lan ∧ (holdSettings s a b).rx = s.rx ∧
    (holdSettings s a b).tx = s.tx ∧ (holdSettings s a b).shu = s.shu ∧ (holdSettings s a b).noc = s.noc ∧
    (holdSettings s a b).mem = s.mem ∧ (holdSettings s a b).itg = s.itg ∧ (holdSettings s a b).upd = s.upd := by
  unfold holdSettings
  simp

@[simp] theorem changeSettings_frame (s : State) (a : Nat) (b : PickSet) :
    (changeSettings s a b).pending = s.pending ∧ (changeSettings s a b).now = s.now ∧
    (changeSettings s a b).fresh = s.fresh ∧ (changeSettings s a b).ruling = s.ruling ∧ (changeSettings s a b).cap = s.cap ∧
    (changeSettings s a b).mgmt = s.mgmt ∧ (changeSettings s a b).unit = s.unit ∧ (changeSettings s a b).pwr = s.pwr ∧
    (changeSettings s a b).cfg = s.cfg ∧ (changeSettings s a b).seams = s.seams ∧ (changeSettings s a b).fab = s.fab ∧
    (changeSettings s a b).clk = s.clk ∧ (changeSettings s a b).lan = s.lan ∧ (changeSettings s a b).rx = s.rx ∧
    (changeSettings s a b).tx = s.tx ∧ (changeSettings s a b).shu = s.shu ∧ (changeSettings s a b).noc = s.noc ∧
    (changeSettings s a b).mem = s.mem ∧ (changeSettings s a b).itg = s.itg ∧ (changeSettings s a b).upd = s.upd := by
  unfold changeSettings
  simp

@[simp] theorem State_setTrig_frame (s : State) (a : Nat) (b : TrigUnit → TrigUnit) :
    (State.setTrig s a b).pending = s.pending ∧ (State.setTrig s a b).now = s.now ∧ (State.setTrig s a b).fresh = s.fresh ∧
    (State.setTrig s a b).cat = s.cat ∧ (State.setTrig s a b).gen = s.gen ∧ (State.setTrig s a b).ruling = s.ruling ∧
    (State.setTrig s a b).cap = s.cap ∧ (State.setTrig s a b).mgmt = s.mgmt ∧ (State.setTrig s a b).unit = s.unit ∧
    (State.setTrig s a b).pwr = s.pwr ∧ (State.setTrig s a b).cfg = s.cfg ∧ (State.setTrig s a b).seams = s.seams ∧
    (State.setTrig s a b).fab = s.fab ∧ (State.setTrig s a b).clk = s.clk ∧ (State.setTrig s a b).lan = s.lan ∧
    (State.setTrig s a b).rx = s.rx ∧ (State.setTrig s a b).tx = s.tx ∧ (State.setTrig s a b).shu = s.shu ∧
    (State.setTrig s a b).noc = s.noc ∧ (State.setTrig s a b).mem = s.mem ∧ (State.setTrig s a b).itg = s.itg ∧
    (State.setTrig s a b).upd = s.upd := by
  unfold State.setTrig
  simp

@[simp] theorem aimTrig_frame (s : State) (a : Nat) (b : Nat) :
    (aimTrig s a b).pending = s.pending ∧ (aimTrig s a b).now = s.now ∧ (aimTrig s a b).fresh = s.fresh ∧
    (aimTrig s a b).cat = s.cat ∧ (aimTrig s a b).gen = s.gen ∧ (aimTrig s a b).ruling = s.ruling ∧
    (aimTrig s a b).cap = s.cap ∧ (aimTrig s a b).mgmt = s.mgmt ∧ (aimTrig s a b).unit = s.unit ∧
    (aimTrig s a b).pwr = s.pwr ∧ (aimTrig s a b).cfg = s.cfg ∧ (aimTrig s a b).seams = s.seams ∧
    (aimTrig s a b).fab = s.fab ∧ (aimTrig s a b).clk = s.clk ∧ (aimTrig s a b).lan = s.lan ∧ (aimTrig s a b).rx = s.rx ∧
    (aimTrig s a b).tx = s.tx ∧ (aimTrig s a b).shu = s.shu ∧ (aimTrig s a b).noc = s.noc ∧ (aimTrig s a b).mem = s.mem ∧
    (aimTrig s a b).itg = s.itg ∧ (aimTrig s a b).upd = s.upd := by
  unfold aimTrig
  split <;> simp

@[simp] theorem aimUnitsOf_frame (s : State) (a : Nat) :
    (aimUnitsOf s a).pending = s.pending ∧ (aimUnitsOf s a).now = s.now ∧ (aimUnitsOf s a).fresh = s.fresh ∧
    (aimUnitsOf s a).cat = s.cat ∧ (aimUnitsOf s a).gen = s.gen ∧ (aimUnitsOf s a).ruling = s.ruling ∧
    (aimUnitsOf s a).cap = s.cap ∧ (aimUnitsOf s a).mgmt = s.mgmt ∧ (aimUnitsOf s a).unit = s.unit ∧
    (aimUnitsOf s a).pwr = s.pwr ∧ (aimUnitsOf s a).cfg = s.cfg ∧ (aimUnitsOf s a).seams = s.seams ∧
    (aimUnitsOf s a).fab = s.fab ∧ (aimUnitsOf s a).clk = s.clk ∧ (aimUnitsOf s a).lan = s.lan ∧
    (aimUnitsOf s a).rx = s.rx ∧ (aimUnitsOf s a).tx = s.tx ∧ (aimUnitsOf s a).shu = s.shu ∧ (aimUnitsOf s a).noc = s.noc ∧
    (aimUnitsOf s a).mem = s.mem ∧ (aimUnitsOf s a).itg = s.itg ∧ (aimUnitsOf s a).upd = s.upd := by
  unfold aimUnitsOf
  simp

@[simp] theorem fireTrig_frame (s : State) (a : Nat) (b : Nat) :
    (fireTrig s a b).pending = s.pending ∧ (fireTrig s a b).now = s.now ∧ (fireTrig s a b).fresh = s.fresh ∧
    (fireTrig s a b).gen = s.gen ∧ (fireTrig s a b).ruling = s.ruling ∧ (fireTrig s a b).cap = s.cap ∧
    (fireTrig s a b).mgmt = s.mgmt ∧ (fireTrig s a b).unit = s.unit ∧ (fireTrig s a b).pwr = s.pwr ∧
    (fireTrig s a b).cfg = s.cfg ∧ (fireTrig s a b).seams = s.seams ∧ (fireTrig s a b).fab = s.fab ∧
    (fireTrig s a b).clk = s.clk ∧ (fireTrig s a b).lan = s.lan ∧ (fireTrig s a b).rx = s.rx ∧ (fireTrig s a b).tx = s.tx ∧
    (fireTrig s a b).shu = s.shu ∧ (fireTrig s a b).noc = s.noc ∧ (fireTrig s a b).mem = s.mem ∧
    (fireTrig s a b).itg = s.itg ∧ (fireTrig s a b).upd = s.upd := by
  unfold fireTrig
  simp

@[simp] theorem takeCapture_frame (s : State) (a : Nat) (b : Bool) :
    (takeCapture s a b).pending = s.pending ∧ (takeCapture s a b).now = s.now ∧ (takeCapture s a b).fresh = s.fresh ∧
    (takeCapture s a b).gen = s.gen ∧ (takeCapture s a b).ruling = s.ruling ∧ (takeCapture s a b).cap = s.cap ∧
    (takeCapture s a b).unit = s.unit ∧ (takeCapture s a b).pwr = s.pwr ∧ (takeCapture s a b).cfg = s.cfg ∧
    (takeCapture s a b).seams = s.seams ∧ (takeCapture s a b).fab = s.fab ∧ (takeCapture s a b).clk = s.clk ∧
    (takeCapture s a b).lan = s.lan ∧ (takeCapture s a b).rx = s.rx ∧ (takeCapture s a b).tx = s.tx ∧
    (takeCapture s a b).shu = s.shu ∧ (takeCapture s a b).noc = s.noc ∧ (takeCapture s a b).mem = s.mem ∧
    (takeCapture s a b).itg = s.itg ∧ (takeCapture s a b).upd = s.upd := by
  unfold takeCapture
  simp

@[simp] theorem captureEdge_frame (s : State) (a : Nat) (b : Bool) :
    (captureEdge s a b).pending = s.pending ∧ (captureEdge s a b).now = s.now ∧ (captureEdge s a b).gen = s.gen ∧
    (captureEdge s a b).ruling = s.ruling ∧ (captureEdge s a b).cap = s.cap ∧ (captureEdge s a b).unit = s.unit ∧
    (captureEdge s a b).pwr = s.pwr ∧ (captureEdge s a b).cfg = s.cfg ∧ (captureEdge s a b).seams = s.seams ∧
    (captureEdge s a b).fab = s.fab ∧ (captureEdge s a b).clk = s.clk ∧ (captureEdge s a b).lan = s.lan ∧
    (captureEdge s a b).rx = s.rx ∧ (captureEdge s a b).tx = s.tx ∧ (captureEdge s a b).shu = s.shu ∧
    (captureEdge s a b).noc = s.noc ∧ (captureEdge s a b).mem = s.mem ∧ (captureEdge s a b).itg = s.itg ∧
    (captureEdge s a b).upd = s.upd := by
  unfold captureEdge
  simp

@[simp] theorem hearMaster_frame (s : State) (a : Nat) (b : List Byte) (c : PtpData) :
    (hearMaster s a b c).pending = s.pending ∧ (hearMaster s a b c).now = s.now ∧ (hearMaster s a b c).fresh = s.fresh ∧
    (hearMaster s a b c).cat = s.cat ∧ (hearMaster s a b c).gen = s.gen ∧ (hearMaster s a b c).ruling = s.ruling ∧
    (hearMaster s a b c).cap = s.cap ∧ (hearMaster s a b c).mgmt = s.mgmt ∧ (hearMaster s a b c).unit = s.unit ∧
    (hearMaster s a b c).pwr = s.pwr ∧ (hearMaster s a b c).cfg = s.cfg ∧ (hearMaster s a b c).seams = s.seams ∧
    (hearMaster s a b c).fab = s.fab ∧ (hearMaster s a b c).clk = s.clk ∧ (hearMaster s a b c).lan = s.lan ∧
    (hearMaster s a b c).rx = s.rx ∧ (hearMaster s a b c).tx = s.tx ∧ (hearMaster s a b c).shu = s.shu ∧
    (hearMaster s a b c).noc = s.noc ∧ (hearMaster s a b c).mem = s.mem ∧ (hearMaster s a b c).itg = s.itg ∧
    (hearMaster s a b c).upd = s.upd := by
  unfold hearMaster
  simp

end Sys2Proof.Machine
end

