-- ==== Sys2Proof/Laws/FramesClocks.lean ====
section
/-! SUPPORT. What each operation over the state leaves alone:
clocks, lanes, ports, optics and timestamps of frames. -/

namespace Sys2Proof.Machine

@[simp] theorem State_setDom_frame (s : State) (a : Nat) (b : Domain → Domain) :
    (State.setDom s a b).pending = s.pending ∧ (State.setDom s a b).now = s.now ∧ (State.setDom s a b).fresh = s.fresh ∧
    (State.setDom s a b).cat = s.cat ∧ (State.setDom s a b).gen = s.gen ∧ (State.setDom s a b).ruling = s.ruling ∧
    (State.setDom s a b).cap = s.cap ∧ (State.setDom s a b).mgmt = s.mgmt ∧ (State.setDom s a b).unit = s.unit ∧
    (State.setDom s a b).pwr = s.pwr ∧ (State.setDom s a b).cfg = s.cfg ∧ (State.setDom s a b).seams = s.seams ∧
    (State.setDom s a b).fab = s.fab ∧ (State.setDom s a b).tim = s.tim ∧ (State.setDom s a b).lan = s.lan ∧
    (State.setDom s a b).rx = s.rx ∧ (State.setDom s a b).tx = s.tx ∧ (State.setDom s a b).shu = s.shu ∧
    (State.setDom s a b).noc = s.noc ∧ (State.setDom s a b).mem = s.mem ∧ (State.setDom s a b).itg = s.itg ∧
    (State.setDom s a b).upd = s.upd := by
  unfold State.setDom
  simp

@[simp] theorem State_putDomState_frame (s : State) (a : Nat) (b : Nat) :
    (State.putDomState s a b).pending = s.pending ∧ (State.putDomState s a b).now = s.now ∧
    (State.putDomState s a b).fresh = s.fresh ∧ (State.putDomState s a b).gen = s.gen ∧
    (State.putDomState s a b).ruling = s.ruling ∧ (State.putDomState s a b).cap = s.cap ∧
    (State.putDomState s a b).mgmt = s.mgmt ∧ (State.putDomState s a b).unit = s.unit ∧
    (State.putDomState s a b).pwr = s.pwr ∧ (State.putDomState s a b).cfg = s.cfg ∧
    (State.putDomState s a b).seams = s.seams ∧ (State.putDomState s a b).fab = s.fab ∧
    (State.putDomState s a b).clk = s.clk ∧ (State.putDomState s a b).tim = s.tim ∧ (State.putDomState s a b).lan = s.lan ∧
    (State.putDomState s a b).rx = s.rx ∧ (State.putDomState s a b).tx = s.tx ∧ (State.putDomState s a b).shu = s.shu ∧
    (State.putDomState s a b).noc = s.noc ∧ (State.putDomState s a b).mem = s.mem ∧ (State.putDomState s a b).itg = s.itg ∧
    (State.putDomState s a b).upd = s.upd := by
  unfold State.putDomState
  simp

@[simp] theorem setRail_frame (s : State) (a : Nat) (b : Nat) :
    (setRail s a b).pending = s.pending ∧ (setRail s a b).now = s.now ∧ (setRail s a b).fresh = s.fresh ∧
    (setRail s a b).cat = s.cat ∧ (setRail s a b).gen = s.gen ∧ (setRail s a b).ruling = s.ruling ∧
    (setRail s a b).cap = s.cap ∧ (setRail s a b).mgmt = s.mgmt ∧ (setRail s a b).unit = s.unit ∧
    (setRail s a b).cfg = s.cfg ∧ (setRail s a b).seams = s.seams ∧ (setRail s a b).fab = s.fab ∧
    (setRail s a b).clk = s.clk ∧ (setRail s a b).tim = s.tim ∧ (setRail s a b).lan = s.lan ∧ (setRail s a b).rx = s.rx ∧
    (setRail s a b).tx = s.tx ∧ (setRail s a b).shu = s.shu ∧ (setRail s a b).noc = s.noc ∧ (setRail s a b).mem = s.mem ∧
    (setRail s a b).itg = s.itg ∧ (setRail s a b).upd = s.upd := by
  unfold setRail
  simp

@[simp] theorem railToReq_frame (s : State) (a : Nat) :
    (railToReq s a).pending = s.pending ∧ (railToReq s a).now = s.now ∧ (railToReq s a).fresh = s.fresh ∧
    (railToReq s a).cat = s.cat ∧ (railToReq s a).gen = s.gen ∧ (railToReq s a).ruling = s.ruling ∧
    (railToReq s a).cap = s.cap ∧ (railToReq s a).mgmt = s.mgmt ∧ (railToReq s a).unit = s.unit ∧
    (railToReq s a).cfg = s.cfg ∧ (railToReq s a).seams = s.seams ∧ (railToReq s a).fab = s.fab ∧
    (railToReq s a).clk = s.clk ∧ (railToReq s a).tim = s.tim ∧ (railToReq s a).lan = s.lan ∧ (railToReq s a).rx = s.rx ∧
    (railToReq s a).tx = s.tx ∧ (railToReq s a).shu = s.shu ∧ (railToReq s a).noc = s.noc ∧ (railToReq s a).mem = s.mem ∧
    (railToReq s a).itg = s.itg ∧ (railToReq s a).upd = s.upd := by
  unfold railToReq
  simp

@[simp] theorem changeFailed_frame (s : State) (a : Nat) :
    (changeFailed s a).pending = s.pending ∧ (changeFailed s a).now = s.now ∧ (changeFailed s a).fresh = s.fresh ∧
    (changeFailed s a).gen = s.gen ∧ (changeFailed s a).ruling = s.ruling ∧ (changeFailed s a).cap = s.cap ∧
    (changeFailed s a).unit = s.unit ∧ (changeFailed s a).pwr = s.pwr ∧ (changeFailed s a).cfg = s.cfg ∧
    (changeFailed s a).seams = s.seams ∧ (changeFailed s a).fab = s.fab ∧ (changeFailed s a).clk = s.clk ∧
    (changeFailed s a).tim = s.tim ∧ (changeFailed s a).lan = s.lan ∧ (changeFailed s a).rx = s.rx ∧
    (changeFailed s a).tx = s.tx ∧ (changeFailed s a).shu = s.shu ∧ (changeFailed s a).noc = s.noc ∧
    (changeFailed s a).mem = s.mem ∧ (changeFailed s a).itg = s.itg ∧ (changeFailed s a).upd = s.upd := by
  unfold changeFailed
  simp

@[simp] theorem finishStep_frame (s : State) (a : Nat) :
    (finishStep s a).pending = s.pending ∧ (finishStep s a).now = s.now ∧ (finishStep s a).fresh = s.fresh ∧
    (finishStep s a).gen = s.gen ∧ (finishStep s a).ruling = s.ruling ∧ (finishStep s a).cap = s.cap ∧
    (finishStep s a).unit = s.unit ∧ (finishStep s a).pwr = s.pwr ∧ (finishStep s a).cfg = s.cfg ∧
    (finishStep s a).seams = s.seams ∧ (finishStep s a).fab = s.fab ∧ (finishStep s a).tim = s.tim ∧
    (finishStep s a).lan = s.lan ∧ (finishStep s a).rx = s.rx ∧ (finishStep s a).tx = s.tx ∧ (finishStep s a).shu = s.shu ∧
    (finishStep s a).noc = s.noc ∧ (finishStep s a).mem = s.mem ∧ (finishStep s a).itg = s.itg ∧
    (finishStep s a).upd = s.upd := by
  unfold finishStep
  simp

@[simp] theorem abandonStep_frame (s : State) (a : Nat) :
    (abandonStep s a).pending = s.pending ∧ (abandonStep s a).now = s.now ∧ (abandonStep s a).fresh = s.fresh ∧
    (abandonStep s a).gen = s.gen ∧ (abandonStep s a).ruling = s.ruling ∧ (abandonStep s a).cap = s.cap ∧
    (abandonStep s a).unit = s.unit ∧ (abandonStep s a).pwr = s.pwr ∧ (abandonStep s a).cfg = s.cfg ∧
    (abandonStep s a).seams = s.seams ∧ (abandonStep s a).fab = s.fab ∧ (abandonStep s a).tim = s.tim ∧
    (abandonStep s a).lan = s.lan ∧ (abandonStep s a).rx = s.rx ∧ (abandonStep s a).tx = s.tx ∧
    (abandonStep s a).shu = s.shu ∧ (abandonStep s a).noc = s.noc ∧ (abandonStep s a).mem = s.mem ∧
    (abandonStep s a).itg = s.itg ∧ (abandonStep s a).upd = s.upd := by
  unfold abandonStep
  simp

@[simp] theorem finishSteps_frame (s : State) :
    (finishSteps s).pending = s.pending ∧ (finishSteps s).now = s.now ∧ (finishSteps s).fresh = s.fresh ∧
    (finishSteps s).gen = s.gen ∧ (finishSteps s).ruling = s.ruling ∧ (finishSteps s).cap = s.cap ∧
    (finishSteps s).unit = s.unit ∧ (finishSteps s).pwr = s.pwr ∧ (finishSteps s).cfg = s.cfg ∧
    (finishSteps s).seams = s.seams ∧ (finishSteps s).fab = s.fab ∧ (finishSteps s).tim = s.tim ∧
    (finishSteps s).lan = s.lan ∧ (finishSteps s).rx = s.rx ∧ (finishSteps s).tx = s.tx ∧ (finishSteps s).shu = s.shu ∧
    (finishSteps s).noc = s.noc ∧ (finishSteps s).mem = s.mem ∧ (finishSteps s).itg = s.itg ∧ (finishSteps s).upd = s.upd := by
  unfold finishSteps
  refine
    ⟨?_, ?_, ?_, ?_, ?_, ?_, ?_, ?_, ?_, ?_, ?_, ?_, ?_, ?_, ?_, ?_, ?_, ?_, ?_, ?_⟩
  · exact foldl_pending _ _ _ fun t x => by (repeat' split) <;> simp
  · exact foldl_now _ _ _ fun t x => by (repeat' split) <;> simp
  · exact foldl_fresh _ _ _ fun t x => by (repeat' split) <;> simp
  · exact foldl_gen _ _ _ fun t x => by (repeat' split) <;> simp
  · exact foldl_ruling _ _ _ fun t x => by (repeat' split) <;> simp
  · exact foldl_cap _ _ _ fun t x => by (repeat' split) <;> simp
  · exact foldl_unit _ _ _ fun t x => by (repeat' split) <;> simp
  · exact foldl_pwr _ _ _ fun t x => by (repeat' split) <;> simp
  · exact foldl_cfg _ _ _ fun t x => by (repeat' split) <;> simp
  · exact foldl_seams _ _ _ fun t x => by (repeat' split) <;> simp
  · exact foldl_fab _ _ _ fun t x => by (repeat' split) <;> simp
  · exact foldl_tim _ _ _ fun t x => by (repeat' split) <;> simp
  · exact foldl_lan _ _ _ fun t x => by (repeat' split) <;> simp
  · exact foldl_rx _ _ _ fun t x => by (repeat' split) <;> simp
  · exact foldl_tx _ _ _ fun t x => by (repeat' split) <;> simp
  · exact foldl_shu _ _ _ fun t x => by (repeat' split) <;> simp
  · exact foldl_noc _ _ _ fun t x => by (repeat' split) <;> simp
  · exact foldl_mem _ _ _ fun t x => by (repeat' split) <;> simp
  · exact foldl_itg _ _ _ fun t x => by (repeat' split) <;> simp
  · exact foldl_upd _ _ _ fun t x => by (repeat' split) <;> simp

@[simp] theorem coast_frame (s : State) (a : Nat) (b : Nat) :
    (coast s a b).pending = s.pending ∧ (coast s a b).now = s.now ∧ (coast s a b).fresh = s.fresh ∧
    (coast s a b).gen = s.gen ∧ (coast s a b).ruling = s.ruling ∧ (coast s a b).cap = s.cap ∧ (coast s a b).unit = s.unit ∧
    (coast s a b).pwr = s.pwr ∧ (coast s a b).cfg = s.cfg ∧ (coast s a b).seams = s.seams ∧ (coast s a b).fab = s.fab ∧
    (coast s a b).tim = s.tim ∧ (coast s a b).lan = s.lan ∧ (coast s a b).rx = s.rx ∧ (coast s a b).tx = s.tx ∧
    (coast s a b).shu = s.shu ∧ (coast s a b).noc = s.noc ∧ (coast s a b).mem = s.mem ∧ (coast s a b).itg = s.itg ∧
    (coast s a b).upd = s.upd := by
  unfold coast
  simp

@[simp] theorem State_setUloop_frame (s : State) (a : Nat) (b : ULoop → ULoop) :
    (State.setUloop s a b).pending = s.pending ∧ (State.setUloop s a b).now = s.now ∧
    (State.setUloop s a b).fresh = s.fresh ∧ (State.setUloop s a b).cat = s.cat ∧ (State.setUloop s a b).gen = s.gen ∧
    (State.setUloop s a b).ruling = s.ruling ∧ (State.setUloop s a b).cap = s.cap ∧ (State.setUloop s a b).mgmt = s.mgmt ∧
    (State.setUloop s a b).unit = s.unit ∧ (State.setUloop s a b).pwr = s.pwr ∧ (State.setUloop s a b).cfg = s.cfg ∧
    (State.setUloop s a b).seams = s.seams ∧ (State.setUloop s a b).fab = s.fab ∧ (State.setUloop s a b).tim = s.tim ∧
    (State.setUloop s a b).lan = s.lan ∧ (State.setUloop s a b).rx = s.rx ∧ (State.setUloop s a b).tx = s.tx ∧
    (State.setUloop s a b).shu = s.shu ∧ (State.setUloop s a b).noc = s.noc ∧ (State.setUloop s a b).mem = s.mem ∧
    (State.setUloop s a b).itg = s.itg ∧ (State.setUloop s a b).upd = s.upd := by
  unfold State.setUloop
  simp

@[simp] theorem uloopCoast_frame (s : State) (a : Nat) (b : Nat) :
    (uloopCoast s a b).pending = s.pending ∧ (uloopCoast s a b).now = s.now ∧ (uloopCoast s a b).fresh = s.fresh ∧
    (uloopCoast s a b).gen = s.gen ∧ (uloopCoast s a b).ruling = s.ruling ∧ (uloopCoast s a b).cap = s.cap ∧
    (uloopCoast s a b).unit = s.unit ∧ (uloopCoast s a b).pwr = s.pwr ∧ (uloopCoast s a b).cfg = s.cfg ∧
    (uloopCoast s a b).seams = s.seams ∧ (uloopCoast s a b).fab = s.fab ∧ (uloopCoast s a b).tim = s.tim ∧
    (uloopCoast s a b).lan = s.lan ∧ (uloopCoast s a b).rx = s.rx ∧ (uloopCoast s a b).tx = s.tx ∧
    (uloopCoast s a b).shu = s.shu ∧ (uloopCoast s a b).noc = s.noc ∧ (uloopCoast s a b).mem = s.mem ∧
    (uloopCoast s a b).itg = s.itg ∧ (uloopCoast s a b).upd = s.upd := by
  unfold uloopCoast
  simp

@[simp] theorem coastAll_frame (s : State) :
    (coastAll s).pending = s.pending ∧ (coastAll s).now = s.now ∧ (coastAll s).fresh = s.fresh ∧ (coastAll s).gen = s.gen ∧
    (coastAll s).ruling = s.ruling ∧ (coastAll s).cap = s.cap ∧ (coastAll s).unit = s.unit ∧ (coastAll s).pwr = s.pwr ∧
    (coastAll s).cfg = s.cfg ∧ (coastAll s).seams = s.seams ∧ (coastAll s).fab = s.fab ∧ (coastAll s).tim = s.tim ∧
    (coastAll s).lan = s.lan ∧ (coastAll s).rx = s.rx ∧ (coastAll s).tx = s.tx ∧ (coastAll s).shu = s.shu ∧
    (coastAll s).noc = s.noc ∧ (coastAll s).mem = s.mem ∧ (coastAll s).itg = s.itg ∧ (coastAll s).upd = s.upd := by
  unfold coastAll
  simp

@[simp] theorem tlMode_frame (s : State) (a : Nat) :
    (tlMode s a).pending = s.pending ∧ (tlMode s a).now = s.now ∧ (tlMode s a).fresh = s.fresh ∧ (tlMode s a).gen = s.gen ∧
    (tlMode s a).ruling = s.ruling ∧ (tlMode s a).cap = s.cap ∧ (tlMode s a).unit = s.unit ∧ (tlMode s a).pwr = s.pwr ∧
    (tlMode s a).cfg = s.cfg ∧ (tlMode s a).seams = s.seams ∧ (tlMode s a).fab = s.fab ∧ (tlMode s a).clk = s.clk ∧
    (tlMode s a).tim = s.tim ∧ (tlMode s a).lan = s.lan ∧ (tlMode s a).rx = s.rx ∧ (tlMode s a).tx = s.tx ∧
    (tlMode s a).shu = s.shu ∧ (tlMode s a).noc = s.noc ∧ (tlMode s a).mem = s.mem ∧ (tlMode s a).itg = s.itg ∧
    (tlMode s a).upd = s.upd := by
  unfold tlMode
  simp

@[simp] theorem useSource_frame (s : State) (a : Nat) :
    (useSource s a).pending = s.pending ∧ (useSource s a).now = s.now ∧ (useSource s a).fresh = s.fresh ∧
    (useSource s a).gen = s.gen ∧ (useSource s a).ruling = s.ruling ∧ (useSource s a).cap = s.cap ∧
    (useSource s a).unit = s.unit ∧ (useSource s a).pwr = s.pwr ∧ (useSource s a).cfg = s.cfg ∧
    (useSource s a).seams = s.seams ∧ (useSource s a).fab = s.fab ∧ (useSource s a).tim = s.tim ∧
    (useSource s a).lan = s.lan ∧ (useSource s a).rx = s.rx ∧ (useSource s a).tx = s.tx ∧ (useSource s a).shu = s.shu ∧
    (useSource s a).noc = s.noc ∧ (useSource s a).mem = s.mem ∧ (useSource s a).itg = s.itg ∧ (useSource s a).upd = s.upd := by
  unfold useSource
  simp

@[simp] theorem tryUse_frame (s : State) :
    (tryUse s).pending = s.pending ∧ (tryUse s).now = s.now ∧ (tryUse s).fresh = s.fresh ∧ (tryUse s).gen = s.gen ∧
    (tryUse s).ruling = s.ruling ∧ (tryUse s).cap = s.cap ∧ (tryUse s).unit = s.unit ∧ (tryUse s).pwr = s.pwr ∧
    (tryUse s).cfg = s.cfg ∧ (tryUse s).seams = s.seams ∧ (tryUse s).fab = s.fab ∧ (tryUse s).tim = s.tim ∧
    (tryUse s).lan = s.lan ∧ (tryUse s).rx = s.rx ∧ (tryUse s).tx = s.tx ∧ (tryUse s).shu = s.shu ∧ (tryUse s).noc = s.noc ∧
    (tryUse s).mem = s.mem ∧ (tryUse s).itg = s.itg ∧ (tryUse s).upd = s.upd := by
  unfold tryUse
  simp

@[simp] theorem loseSource_frame (s : State) (a : Nat) :
    (loseSource s a).pending = s.pending ∧ (loseSource s a).now = s.now ∧ (loseSource s a).fresh = s.fresh ∧
    (loseSource s a).gen = s.gen ∧ (loseSource s a).ruling = s.ruling ∧ (loseSource s a).cap = s.cap ∧
    (loseSource s a).unit = s.unit ∧ (loseSource s a).pwr = s.pwr ∧ (loseSource s a).cfg = s.cfg ∧
    (loseSource s a).seams = s.seams ∧ (loseSource s a).fab = s.fab ∧ (loseSource s a).tim = s.tim ∧
    (loseSource s a).lan = s.lan ∧ (loseSource s a).rx = s.rx ∧ (loseSource s a).tx = s.tx ∧ (loseSource s a).shu = s.shu ∧
    (loseSource s a).noc = s.noc ∧ (loseSource s a).mem = s.mem ∧ (loseSource s a).itg = s.itg ∧
    (loseSource s a).upd = s.upd := by
  unfold loseSource
  split <;> simp

@[simp] theorem qualifySource_frame (s : State) (a : Nat) :
    (qualifySource s a).pending = s.pending ∧ (qualifySource s a).now = s.now ∧ (qualifySource s a).fresh = s.fresh ∧
    (qualifySource s a).gen = s.gen ∧ (qualifySource s a).ruling = s.ruling ∧ (qualifySource s a).cap = s.cap ∧
    (qualifySource s a).unit = s.unit ∧ (qualifySource s a).pwr = s.pwr ∧ (qualifySource s a).cfg = s.cfg ∧
    (qualifySource s a).seams = s.seams ∧ (qualifySource s a).fab = s.fab ∧ (qualifySource s a).tim = s.tim ∧
    (qualifySource s a).lan = s.lan ∧ (qualifySource s a).rx = s.rx ∧ (qualifySource s a).tx = s.tx ∧
    (qualifySource s a).shu = s.shu ∧ (qualifySource s a).noc = s.noc ∧ (qualifySource s a).mem = s.mem ∧
    (qualifySource s a).itg = s.itg ∧ (qualifySource s a).upd = s.upd := by
  unfold qualifySource
  simp

@[simp] theorem reportHold_frame (s : State) (a : HoldLoop) :
    (reportHold s a).pending = s.pending ∧ (reportHold s a).now = s.now ∧ (reportHold s a).fresh = s.fresh ∧
    (reportHold s a).gen = s.gen ∧ (reportHold s a).ruling = s.ruling ∧ (reportHold s a).cap = s.cap ∧
    (reportHold s a).unit = s.unit ∧ (reportHold s a).pwr = s.pwr ∧ (reportHold s a).cfg = s.cfg ∧
    (reportHold s a).seams = s.seams ∧ (reportHold s a).fab = s.fab ∧ (reportHold s a).clk = s.clk ∧
    (reportHold s a).tim = s.tim ∧ (reportHold s a).lan = s.lan ∧ (reportHold s a).rx = s.rx ∧ (reportHold s a).tx = s.tx ∧
    (reportHold s a).shu = s.shu ∧ (reportHold s a).noc = s.noc ∧ (reportHold s a).mem = s.mem ∧
    (reportHold s a).itg = s.itg ∧ (reportHold s a).upd = s.upd := by
  unfold reportHold
  simp

@[simp] theorem holdLoop_frame (s : State) (a : HoldLoop) :
    (holdLoop s a).pending = s.pending ∧ (holdLoop s a).now = s.now ∧ (holdLoop s a).fresh = s.fresh ∧
    (holdLoop s a).gen = s.gen ∧ (holdLoop s a).ruling = s.ruling ∧ (holdLoop s a).cap = s.cap ∧
    (holdLoop s a).unit = s.unit ∧ (holdLoop s a).pwr = s.pwr ∧ (holdLoop s a).cfg = s.cfg ∧
    (holdLoop s a).seams = s.seams ∧ (holdLoop s a).fab = s.fab ∧ (holdLoop s a).tim = s.tim ∧ (holdLoop s a).lan = s.lan ∧
    (holdLoop s a).rx = s.rx ∧ (holdLoop s a).tx = s.tx ∧ (holdLoop s a).shu = s.shu ∧ (holdLoop s a).noc = s.noc ∧
    (holdLoop s a).mem = s.mem ∧ (holdLoop s a).itg = s.itg ∧ (holdLoop s a).upd = s.upd := by
  unfold holdLoop
  simp

@[simp] theorem retryLoop_frame (s : State) (a : HoldLoop) (b : Bool) :
    (retryLoop s a b).pending = s.pending ∧ (retryLoop s a b).now = s.now ∧ (retryLoop s a b).fresh = s.fresh ∧
    (retryLoop s a b).cat = s.cat ∧ (retryLoop s a b).gen = s.gen ∧ (retryLoop s a b).ruling = s.ruling ∧
    (retryLoop s a b).cap = s.cap ∧ (retryLoop s a b).mgmt = s.mgmt ∧ (retryLoop s a b).unit = s.unit ∧
    (retryLoop s a b).pwr = s.pwr ∧ (retryLoop s a b).cfg = s.cfg ∧ (retryLoop s a b).seams = s.seams ∧
    (retryLoop s a b).fab = s.fab ∧ (retryLoop s a b).tim = s.tim ∧ (retryLoop s a b).lan = s.lan ∧
    (retryLoop s a b).rx = s.rx ∧ (retryLoop s a b).tx = s.tx ∧ (retryLoop s a b).shu = s.shu ∧
    (retryLoop s a b).noc = s.noc ∧ (retryLoop s a b).mem = s.mem ∧ (retryLoop s a b).itg = s.itg ∧
    (retryLoop s a b).upd = s.upd := by
  unfold retryLoop
  simp

@[simp] theorem xoChange_frame (s : State) (a : Bool) :
    (xoChange s a).pending = s.pending ∧ (xoChange s a).now = s.now ∧ (xoChange s a).fresh = s.fresh ∧
    (xoChange s a).gen = s.gen ∧ (xoChange s a).ruling = s.ruling ∧ (xoChange s a).cap = s.cap ∧
    (xoChange s a).unit = s.unit ∧ (xoChange s a).cfg = s.cfg ∧ (xoChange s a).seams = s.seams ∧
    (xoChange s a).fab = s.fab ∧ (xoChange s a).clk = s.clk ∧ (xoChange s a).tim = s.tim ∧ (xoChange s a).lan = s.lan ∧
    (xoChange s a).rx = s.rx ∧ (xoChange s a).tx = s.tx ∧ (xoChange s a).shu = s.shu ∧ (xoChange s a).noc = s.noc ∧
    (xoChange s a).mem = s.mem ∧ (xoChange s a).itg = s.itg ∧ (xoChange s a).upd = s.upd := by
  unfold xoChange
  simp

@[simp] theorem dropRamp_frame (s : State) (a : Nat) (b : Nat) :
    (dropRamp s a b).pending = s.pending ∧ (dropRamp s a b).now = s.now ∧ (dropRamp s a b).fresh = s.fresh ∧
    (dropRamp s a b).cat = s.cat ∧ (dropRamp s a b).gen = s.gen ∧ (dropRamp s a b).ruling = s.ruling ∧
    (dropRamp s a b).cap = s.cap ∧ (dropRamp s a b).mgmt = s.mgmt ∧ (dropRamp s a b).unit = s.unit ∧
    (dropRamp s a b).pwr = s.pwr ∧ (dropRamp s a b).cfg = s.cfg ∧ (dropRamp s a b).seams = s.seams ∧
    (dropRamp s a b).fab = s.fab ∧ (dropRamp s a b).tim = s.tim ∧ (dropRamp s a b).lan = s.lan ∧
    (dropRamp s a b).rx = s.rx ∧ (dropRamp s a b).tx = s.tx ∧ (dropRamp s a b).shu = s.shu ∧ (dropRamp s a b).noc = s.noc ∧
    (dropRamp s a b).mem = s.mem ∧ (dropRamp s a b).itg = s.itg ∧ (dropRamp s a b).upd = s.upd := by
  unfold dropRamp
  simp

@[simp] theorem abandonRaise_frame (s : State) (a : Nat) (b : Nat) (c : Nat) :
    (abandonRaise s a b c).pending = s.pending ∧ (abandonRaise s a b c).now = s.now ∧
    (abandonRaise s a b c).fresh = s.fresh ∧ (abandonRaise s a b c).gen = s.gen ∧ (abandonRaise s a b c).ruling = s.ruling ∧
    (abandonRaise s a b c).cap = s.cap ∧ (abandonRaise s a b c).unit = s.unit ∧ (abandonRaise s a b c).cfg = s.cfg ∧
    (abandonRaise s a b c).seams = s.seams ∧ (abandonRaise s a b c).fab = s.fab ∧ (abandonRaise s a b c).tim = s.tim ∧
    (abandonRaise s a b c).lan = s.lan ∧ (abandonRaise s a b c).rx = s.rx ∧ (abandonRaise s a b c).tx = s.tx ∧
    (abandonRaise s a b c).shu = s.shu ∧ (abandonRaise s a b c).noc = s.noc ∧ (abandonRaise s a b c).mem = s.mem ∧
    (abandonRaise s a b c).itg = s.itg ∧ (abandonRaise s a b c).upd = s.upd := by
  unfold abandonRaise
  simp

@[simp] theorem beginRamp_frame (s : State) (a : Nat) (b : Nat) :
    (beginRamp s a b).pending = s.pending ∧ (beginRamp s a b).now = s.now ∧ (beginRamp s a b).fresh = s.fresh ∧
    (beginRamp s a b).gen = s.gen ∧ (beginRamp s a b).ruling = s.ruling ∧ (beginRamp s a b).cap = s.cap ∧
    (beginRamp s a b).unit = s.unit ∧ (beginRamp s a b).cfg = s.cfg ∧ (beginRamp s a b).seams = s.seams ∧
    (beginRamp s a b).fab = s.fab ∧ (beginRamp s a b).tim = s.tim ∧ (beginRamp s a b).lan = s.lan ∧
    (beginRamp s a b).rx = s.rx ∧ (beginRamp s a b).tx = s.tx ∧ (beginRamp s a b).shu = s.shu ∧
    (beginRamp s a b).noc = s.noc ∧ (beginRamp s a b).mem = s.mem ∧ (beginRamp s a b).itg = s.itg ∧
    (beginRamp s a b).upd = s.upd := by
  unfold beginRamp
  simp

@[simp] theorem dropPend_frame (s : State) (a : Nat) :
    (dropPend s a).pending = s.pending ∧ (dropPend s a).now = s.now ∧ (dropPend s a).fresh = s.fresh ∧
    (dropPend s a).gen = s.gen ∧ (dropPend s a).ruling = s.ruling ∧ (dropPend s a).cap = s.cap ∧
    (dropPend s a).mgmt = s.mgmt ∧ (dropPend s a).unit = s.unit ∧ (dropPend s a).cfg = s.cfg ∧
    (dropPend s a).seams = s.seams ∧ (dropPend s a).fab = s.fab ∧ (dropPend s a).tim = s.tim ∧ (dropPend s a).lan = s.lan ∧
    (dropPend s a).rx = s.rx ∧ (dropPend s a).tx = s.tx ∧ (dropPend s a).shu = s.shu ∧ (dropPend s a).noc = s.noc ∧
    (dropPend s a).mem = s.mem ∧ (dropPend s a).itg = s.itg ∧ (dropPend s a).upd = s.upd := by
  unfold dropPend
  split <;> simp

@[simp] theorem requestOp_frame (s : State) (a : Nat) (b : Nat) :
    (requestOp s a b).pending = s.pending ∧ (requestOp s a b).now = s.now ∧ (requestOp s a b).fresh = s.fresh ∧
    (requestOp s a b).gen = s.gen ∧ (requestOp s a b).ruling = s.ruling ∧ (requestOp s a b).cap = s.cap ∧
    (requestOp s a b).unit = s.unit ∧ (requestOp s a b).cfg = s.cfg ∧ (requestOp s a b).seams = s.seams ∧
    (requestOp s a b).fab = s.fab ∧ (requestOp s a b).tim = s.tim ∧ (requestOp s a b).lan = s.lan ∧
    (requestOp s a b).rx = s.rx ∧ (requestOp s a b).tx = s.tx ∧ (requestOp s a b).shu = s.shu ∧
    (requestOp s a b).noc = s.noc ∧ (requestOp s a b).mem = s.mem ∧ (requestOp s a b).itg = s.itg ∧
    (requestOp s a b).upd = s.upd := by
  unfold requestOp
  simp

@[simp] theorem stepDomain_frame (s : State) (a : Nat) (b : Nat) :
    (stepDomain s a b).pending = s.pending ∧ (stepDomain s a b).now = s.now ∧ (stepDomain s a b).fresh = s.fresh ∧
    (stepDomain s a b).gen = s.gen ∧ (stepDomain s a b).ruling = s.ruling ∧ (stepDomain s a b).cap = s.cap ∧
    (stepDomain s a b).unit = s.unit ∧ (stepDomain s a b).pwr = s.pwr ∧ (stepDomain s a b).cfg = s.cfg ∧
    (stepDomain s a b).seams = s.seams ∧ (stepDomain s a b).fab = s.fab ∧ (stepDomain s a b).tim = s.tim ∧
    (stepDomain s a b).lan = s.lan ∧ (stepDomain s a b).rx = s.rx ∧ (stepDomain s a b).tx = s.tx ∧
    (stepDomain s a b).shu = s.shu ∧ (stepDomain s a b).noc = s.noc ∧ (stepDomain s a b).mem = s.mem ∧
    (stepDomain s a b).itg = s.itg ∧ (stepDomain s a b).upd = s.upd := by
  unfold stepDomain
  simp

@[simp] theorem failChange_frame (s : State) (a : Nat) (b : Nat) (c : Nat) :
    (failChange s a b c).s.pending = s.pending ∧ (failChange s a b c).s.now = s.now ∧
    (failChange s a b c).s.fresh = s.fresh ∧ (failChange s a b c).s.gen = s.gen ∧ (failChange s a b c).s.ruling = s.ruling ∧
    (failChange s a b c).s.cap = s.cap ∧ (failChange s a b c).s.unit = s.unit ∧ (failChange s a b c).s.cfg = s.cfg ∧
    (failChange s a b c).s.seams = s.seams ∧ (failChange s a b c).s.fab = s.fab ∧ (failChange s a b c).s.tim = s.tim ∧
    (failChange s a b c).s.lan = s.lan ∧ (failChange s a b c).s.rx = s.rx ∧ (failChange s a b c).s.tx = s.tx ∧
    (failChange s a b c).s.shu = s.shu ∧ (failChange s a b c).s.noc = s.noc ∧ (failChange s a b c).s.mem = s.mem ∧
    (failChange s a b c).s.itg = s.itg ∧ (failChange s a b c).s.upd = s.upd := by
  unfold failChange
  simp

@[simp] theorem windowDomain_frame (s : State) (a : Nat) :
    (windowDomain s a).pending = s.pending ∧ (windowDomain s a).now = s.now ∧ (windowDomain s a).fresh = s.fresh ∧
    (windowDomain s a).gen = s.gen ∧ (windowDomain s a).ruling = s.ruling ∧ (windowDomain s a).cap = s.cap ∧
    (windowDomain s a).unit = s.unit ∧ (windowDomain s a).pwr = s.pwr ∧ (windowDomain s a).cfg = s.cfg ∧
    (windowDomain s a).seams = s.seams ∧ (windowDomain s a).fab = s.fab ∧ (windowDomain s a).tim = s.tim ∧
    (windowDomain s a).lan = s.lan ∧ (windowDomain s a).rx = s.rx ∧ (windowDomain s a).tx = s.tx ∧
    (windowDomain s a).shu = s.shu ∧ (windowDomain s a).noc = s.noc ∧ (windowDomain s a).mem = s.mem ∧
    (windowDomain s a).itg = s.itg ∧ (windowDomain s a).upd = s.upd := by
  unfold windowDomain
  simp

@[simp] theorem tickDomain_frame (s : State) (a : Nat) :
    (tickDomain s a).pending = s.pending ∧ (tickDomain s a).now = s.now ∧ (tickDomain s a).fresh = s.fresh ∧
    (tickDomain s a).gen = s.gen ∧ (tickDomain s a).ruling = s.ruling ∧ (tickDomain s a).cap = s.cap ∧
    (tickDomain s a).unit = s.unit ∧ (tickDomain s a).pwr = s.pwr ∧ (tickDomain s a).cfg = s.cfg ∧
    (tickDomain s a).seams = s.seams ∧ (tickDomain s a).fab = s.fab ∧ (tickDomain s a).tim = s.tim ∧
    (tickDomain s a).lan = s.lan ∧ (tickDomain s a).rx = s.rx ∧ (tickDomain s a).tx = s.tx ∧ (tickDomain s a).shu = s.shu ∧
    (tickDomain s a).noc = s.noc ∧ (tickDomain s a).mem = s.mem ∧ (tickDomain s a).itg = s.itg ∧
    (tickDomain s a).upd = s.upd := by
  unfold tickDomain
  split <;> simp

@[simp] theorem windowUloop_frame (s : State) (a : Nat) :
    (windowUloop s a).pending = s.pending ∧ (windowUloop s a).now = s.now ∧ (windowUloop s a).fresh = s.fresh ∧
    (windowUloop s a).gen = s.gen ∧ (windowUloop s a).ruling = s.ruling ∧ (windowUloop s a).cap = s.cap ∧
    (windowUloop s a).unit = s.unit ∧ (windowUloop s a).pwr = s.pwr ∧ (windowUloop s a).cfg = s.cfg ∧
    (windowUloop s a).seams = s.seams ∧ (windowUloop s a).fab = s.fab ∧ (windowUloop s a).tim = s.tim ∧
    (windowUloop s a).lan = s.lan ∧ (windowUloop s a).rx = s.rx ∧ (windowUloop s a).tx = s.tx ∧
    (windowUloop s a).shu = s.shu ∧ (windowUloop s a).noc = s.noc ∧ (windowUloop s a).mem = s.mem ∧
    (windowUloop s a).itg = s.itg ∧ (windowUloop s a).upd = s.upd := by
  unfold windowUloop
  simp

@[simp] theorem windowSpread_frame (s : State) :
    (windowSpread s).pending = s.pending ∧ (windowSpread s).now = s.now ∧ (windowSpread s).fresh = s.fresh ∧
    (windowSpread s).cat = s.cat ∧ (windowSpread s).gen = s.gen ∧ (windowSpread s).ruling = s.ruling ∧
    (windowSpread s).cap = s.cap ∧ (windowSpread s).mgmt = s.mgmt ∧ (windowSpread s).unit = s.unit ∧
    (windowSpread s).pwr = s.pwr ∧ (windowSpread s).cfg = s.cfg ∧ (windowSpread s).seams = s.seams ∧
    (windowSpread s).fab = s.fab ∧ (windowSpread s).tim = s.tim ∧ (windowSpread s).lan = s.lan ∧
    (windowSpread s).rx = s.rx ∧ (windowSpread s).tx = s.tx ∧ (windowSpread s).shu = s.shu ∧ (windowSpread s).noc = s.noc ∧
    (windowSpread s).mem = s.mem ∧ (windowSpread s).itg = s.itg ∧ (windowSpread s).upd = s.upd := by
  unfold windowSpread
  simp only []
  refine
    ⟨?_, ?_, ?_, ?_, ?_, ?_, ?_, ?_, ?_, ?_, ?_, ?_, ?_, ?_, ?_, ?_, ?_, ?_, ?_, ?_, ?_, ?_⟩
  · exact foldl_pending _ _ _ fun t x => by split <;> simp
  · exact foldl_now _ _ _ fun t x => by split <;> simp
  · exact foldl_fresh _ _ _ fun t x => by split <;> simp
  · exact foldl_cat _ _ _ fun t x => by split <;> simp
  · exact foldl_gen _ _ _ fun t x => by split <;> simp
  · exact foldl_ruling _ _ _ fun t x => by split <;> simp
  · exact foldl_cap _ _ _ fun t x => by split <;> simp
  · exact foldl_mgmt _ _ _ fun t x => by split <;> simp
  · exact foldl_unit _ _ _ fun t x => by split <;> simp
  · exact foldl_pwr _ _ _ fun t x => by split <;> simp
  · exact foldl_cfg _ _ _ fun t x => by split <;> simp
  · exact foldl_seams _ _ _ fun t x => by split <;> simp
  · exact foldl_fab _ _ _ fun t x => by split <;> simp
  · exact foldl_tim _ _ _ fun t x => by split <;> simp
  · exact foldl_lan _ _ _ fun t x => by split <;> simp
  · exact foldl_rx _ _ _ fun t x => by split <;> simp
  · exact foldl_tx _ _ _ fun t x => by split <;> simp
  · exact foldl_shu _ _ _ fun t x => by split <;> simp
  · exact foldl_noc _ _ _ fun t x => by split <;> simp
  · exact foldl_mem _ _ _ fun t x => by split <;> simp
  · exact foldl_itg _ _ _ fun t x => by split <;> simp
  · exact foldl_upd _ _ _ fun t x => by split <;> simp

@[simp] theorem lockTiming_frame (s : State) (a : Int) :
    (lockTiming s a).pending = s.pending ∧ (lockTiming s a).fresh = s.fresh ∧ (lockTiming s a).gen = s.gen ∧
    (lockTiming s a).ruling = s.ruling ∧ (lockTiming s a).cap = s.cap ∧ (lockTiming s a).unit = s.unit ∧
    (lockTiming s a).pwr = s.pwr ∧ (lockTiming s a).cfg = s.cfg ∧ (lockTiming s a).seams = s.seams ∧
    (lockTiming s a).fab = s.fab ∧ (lockTiming s a).clk = s.clk ∧ (lockTiming s a).lan = s.lan ∧
    (lockTiming s a).rx = s.rx ∧ (lockTiming s a).tx = s.tx ∧ (lockTiming s a).shu = s.shu ∧ (lockTiming s a).noc = s.noc ∧
    (lockTiming s a).mem = s.mem ∧ (lockTiming s a).itg = s.itg ∧ (lockTiming s a).upd = s.upd := by
  unfold lockTiming
  simp

@[simp] theorem startDomain_frame (s : State) (a : Nat) :
    (startDomain s a).pending = s.pending ∧ (startDomain s a).fresh = s.fresh ∧ (startDomain s a).gen = s.gen ∧
    (startDomain s a).ruling = s.ruling ∧ (startDomain s a).cap = s.cap ∧ (startDomain s a).mgmt = s.mgmt ∧
    (startDomain s a).unit = s.unit ∧ (startDomain s a).pwr = s.pwr ∧ (startDomain s a).cfg = s.cfg ∧
    (startDomain s a).seams = s.seams ∧ (startDomain s a).fab = s.fab ∧ (startDomain s a).lan = s.lan ∧
    (startDomain s a).rx = s.rx ∧ (startDomain s a).tx = s.tx ∧ (startDomain s a).shu = s.shu ∧
    (startDomain s a).noc = s.noc ∧ (startDomain s a).mem = s.mem ∧ (startDomain s a).itg = s.itg ∧
    (startDomain s a).upd = s.upd := by
  unfold startDomain
  simp

@[simp] theorem State_setLane_frame (s : State) (a : Nat) (b : Lane → Lane) :
    (State.setLane s a b).pending = s.pending ∧ (State.setLane s a b).now = s.now ∧ (State.setLane s a b).fresh = s.fresh ∧
    (State.setLane s a b).cat = s.cat ∧ (State.setLane s a b).gen = s.gen ∧ (State.setLane s a b).ruling = s.ruling ∧
    (State.setLane s a b).cap = s.cap ∧ (State.setLane s a b).mgmt = s.mgmt ∧ (State.setLane s a b).unit = s.unit ∧
    (State.setLane s a b).pwr = s.pwr ∧ (State.setLane s a b).cfg = s.cfg ∧ (State.setLane s a b).seams = s.seams ∧
    (State.setLane s a b).fab = s.fab ∧ (State.setLane s a b).clk = s.clk ∧ (State.setLane s a b).tim = s.tim ∧
    (State.setLane s a b).rx = s.rx ∧ (State.setLane s a b).tx = s.tx ∧ (State.setLane s a b).shu = s.shu ∧
    (State.setLane s a b).noc = s.noc ∧ (State.setLane s a b).mem = s.mem ∧ (State.setLane s a b).itg = s.itg ∧
    (State.setLane s a b).upd = s.upd := by
  unfold State.setLane
  simp

@[simp] theorem State_setSub_frame (s : State) (a : Nat) (b : SubPort → SubPort) :
    (State.setSub s a b).pending = s.pending ∧ (State.setSub s a b).now = s.now ∧ (State.setSub s a b).fresh = s.fresh ∧
    (State.setSub s a b).cat = s.cat ∧ (State.setSub s a b).gen = s.gen ∧ (State.setSub s a b).ruling = s.ruling ∧
    (State.setSub s a b).cap = s.cap ∧ (State.setSub s a b).mgmt = s.mgmt ∧ (State.setSub s a b).unit = s.unit ∧
    (State.setSub s a b).pwr = s.pwr ∧ (State.setSub s a b).cfg = s.cfg ∧ (State.setSub s a b).seams = s.seams ∧
    (State.setSub s a b).fab = s.fab ∧ (State.setSub s a b).clk = s.clk ∧ (State.setSub s a b).tim = s.tim ∧
    (State.setSub s a b).rx = s.rx ∧ (State.setSub s a b).tx = s.tx ∧ (State.setSub s a b).shu = s.shu ∧
    (State.setSub s a b).noc = s.noc ∧ (State.setSub s a b).mem = s.mem ∧ (State.setSub s a b).itg = s.itg ∧
    (State.setSub s a b).upd = s.upd := by
  unfold State.setSub
  simp

@[simp] theorem startLane_frame (s : State) (a : Nat) :
    (startLane s a).pending = s.pending ∧ (startLane s a).now = s.now ∧ (startLane s a).fresh = s.fresh ∧
    (startLane s a).cat = s.cat ∧ (startLane s a).gen = s.gen ∧ (startLane s a).ruling = s.ruling ∧
    (startLane s a).cap = s.cap ∧ (startLane s a).mgmt = s.mgmt ∧ (startLane s a).unit = s.unit ∧
    (startLane s a).pwr = s.pwr ∧ (startLane s a).cfg = s.cfg ∧ (startLane s a).seams = s.seams ∧
    (startLane s a).fab = s.fab ∧ (startLane s a).clk = s.clk ∧ (startLane s a).tim = s.tim ∧ (startLane s a).rx = s.rx ∧
    (startLane s a).tx = s.tx ∧ (startLane s a).shu = s.shu ∧ (startLane s a).noc = s.noc ∧ (startLane s a).mem = s.mem ∧
    (startLane s a).itg = s.itg ∧ (startLane s a).upd = s.upd := by
  unfold startLane
  simp

@[simp] theorem holdLane_frame (s : State) (a : Nat) :
    (holdLane s a).pending = s.pending ∧ (holdLane s a).now = s.now ∧ (holdLane s a).fresh = s.fresh ∧
    (holdLane s a).cat = s.cat ∧ (holdLane s a).gen = s.gen ∧ (holdLane s a).ruling = s.ruling ∧
    (holdLane s a).cap = s.cap ∧ (holdLane s a).mgmt = s.mgmt ∧ (holdLane s a).unit = s.unit ∧ (holdLane s a).pwr = s.pwr ∧
    (holdLane s a).cfg = s.cfg ∧ (holdLane s a).seams = s.seams ∧ (holdLane s a).fab = s.fab ∧ (holdLane s a).clk = s.clk ∧
    (holdLane s a).tim = s.tim ∧ (holdLane s a).rx = s.rx ∧ (holdLane s a).tx = s.tx ∧ (holdLane s a).shu = s.shu ∧
    (holdLane s a).noc = s.noc ∧ (holdLane s a).mem = s.mem ∧ (holdLane s a).itg = s.itg ∧ (holdLane s a).upd = s.upd := by
  unfold holdLane
  simp

@[simp] theorem endRestore_frame (s : State) (a : Nat) (b : Option Nat) :
    (endRestore s a b).pending = s.pending ∧ (endRestore s a b).now = s.now ∧ (endRestore s a b).fresh = s.fresh ∧
    (endRestore s a b).gen = s.gen ∧ (endRestore s a b).ruling = s.ruling ∧ (endRestore s a b).cap = s.cap ∧
    (endRestore s a b).unit = s.unit ∧ (endRestore s a b).pwr = s.pwr ∧ (endRestore s a b).cfg = s.cfg ∧
    (endRestore s a b).seams = s.seams ∧ (endRestore s a b).fab = s.fab ∧ (endRestore s a b).clk = s.clk ∧
    (endRestore s a b).tim = s.tim ∧ (endRestore s a b).rx = s.rx ∧ (endRestore s a b).tx = s.tx ∧
    (endRestore s a b).shu = s.shu ∧ (endRestore s a b).noc = s.noc ∧ (endRestore s a b).mem = s.mem ∧
    (endRestore s a b).itg = s.itg ∧ (endRestore s a b).upd = s.upd := by
  unfold endRestore
  split <;> simp

@[simp] theorem clearShadow_frame (s : State) (a : Nat) :
    (clearShadow s a).pending = s.pending ∧ (clearShadow s a).now = s.now ∧ (clearShadow s a).fresh = s.fresh ∧
    (clearShadow s a).gen = s.gen ∧ (clearShadow s a).ruling = s.ruling ∧ (clearShadow s a).cap = s.cap ∧
    (clearShadow s a).mgmt = s.mgmt ∧ (clearShadow s a).unit = s.unit ∧ (clearShadow s a).pwr = s.pwr ∧
    (clearShadow s a).cfg = s.cfg ∧ (clearShadow s a).seams = s.seams ∧ (clearShadow s a).fab = s.fab ∧
    (clearShadow s a).clk = s.clk ∧ (clearShadow s a).tim = s.tim ∧ (clearShadow s a).lan = s.lan ∧
    (clearShadow s a).rx = s.rx ∧ (clearShadow s a).tx = s.tx ∧ (clearShadow s a).shu = s.shu ∧
    (clearShadow s a).noc = s.noc ∧ (clearShadow s a).mem = s.mem ∧ (clearShadow s a).itg = s.itg ∧
    (clearShadow s a).upd = s.upd := by
  unfold clearShadow
  simp

@[simp] theorem goDown_frame (s : State) (a : Nat) (b : Nat) :
    (goDown s a b).pending = s.pending ∧ (goDown s a b).now = s.now ∧ (goDown s a b).fresh = s.fresh ∧
    (goDown s a b).gen = s.gen ∧ (goDown s a b).ruling = s.ruling ∧ (goDown s a b).cap = s.cap ∧
    (goDown s a b).unit = s.unit ∧ (goDown s a b).pwr = s.pwr ∧ (goDown s a b).cfg = s.cfg ∧
    (goDown s a b).seams = s.seams ∧ (goDown s a b).fab = s.fab ∧ (goDown s a b).clk = s.clk ∧ (goDown s a b).tim = s.tim ∧
    (goDown s a b).lan = s.lan ∧ (goDown s a b).rx = s.rx ∧ (goDown s a b).tx = s.tx ∧ (goDown s a b).shu = s.shu ∧
    (goDown s a b).noc = s.noc ∧ (goDown s a b).mem = s.mem ∧ (goDown s a b).itg = s.itg ∧ (goDown s a b).upd = s.upd := by
  unfold goDown
  simp

@[simp] theorem startSub_frame (s : State) (a : Nat) :
    (startSub s a).pending = s.pending ∧ (startSub s a).now = s.now ∧ (startSub s a).fresh = s.fresh ∧
    (startSub s a).gen = s.gen ∧ (startSub s a).ruling = s.ruling ∧ (startSub s a).cap = s.cap ∧
    (startSub s a).mgmt = s.mgmt ∧ (startSub s a).unit = s.unit ∧ (startSub s a).pwr = s.pwr ∧ (startSub s a).cfg = s.cfg ∧
    (startSub s a).seams = s.seams ∧ (startSub s a).fab = s.fab ∧ (startSub s a).clk = s.clk ∧ (startSub s a).tim = s.tim ∧
    (startSub s a).rx = s.rx ∧ (startSub s a).tx = s.tx ∧ (startSub s a).shu = s.shu ∧ (startSub s a).noc = s.noc ∧
    (startSub s a).mem = s.mem ∧ (startSub s a).itg = s.itg ∧ (startSub s a).upd = s.upd := by
  unfold startSub
  simp

@[simp] theorem goUp_frame (s : State) (a : Nat) :
    (goUp s a).pending = s.pending ∧ (goUp s a).now = s.now ∧ (goUp s a).fresh = s.fresh ∧ (goUp s a).gen = s.gen ∧
    (goUp s a).ruling = s.ruling ∧ (goUp s a).cap = s.cap ∧ (goUp s a).unit = s.unit ∧ (goUp s a).pwr = s.pwr ∧
    (goUp s a).cfg = s.cfg ∧ (goUp s a).seams = s.seams ∧ (goUp s a).fab = s.fab ∧ (goUp s a).clk = s.clk ∧
    (goUp s a).tim = s.tim ∧ (goUp s a).lan = s.lan ∧ (goUp s a).rx = s.rx ∧ (goUp s a).tx = s.tx ∧ (goUp s a).shu = s.shu ∧
    (goUp s a).noc = s.noc ∧ (goUp s a).mem = s.mem ∧ (goUp s a).itg = s.itg ∧ (goUp s a).upd = s.upd := by
  unfold goUp
  simp

@[simp] theorem goNarrow_frame (s : State) (a : Nat) (b : Nat) (c : Nat) (d : Nat) :
    (goNarrow s a b c d).pending = s.pending ∧ (goNarrow s a b c d).now = s.now ∧ (goNarrow s a b c d).fresh = s.fresh ∧
    (goNarrow s a b c d).gen = s.gen ∧ (goNarrow s a b c d).ruling = s.ruling ∧ (goNarrow s a b c d).cap = s.cap ∧
    (goNarrow s a b c d).unit = s.unit ∧ (goNarrow s a b c d).pwr = s.pwr ∧ (goNarrow s a b c d).cfg = s.cfg ∧
    (goNarrow s a b c d).seams = s.seams ∧ (goNarrow s a b c d).fab = s.fab ∧ (goNarrow s a b c d).clk = s.clk ∧
    (goNarrow s a b c d).tim = s.tim ∧ (goNarrow s a b c d).rx = s.rx ∧ (goNarrow s a b c d).tx = s.tx ∧
    (goNarrow s a b c d).shu = s.shu ∧ (goNarrow s a b c d).noc = s.noc ∧ (goNarrow s a b c d).mem = s.mem ∧
    (goNarrow s a b c d).itg = s.itg ∧ (goNarrow s a b c d).upd = s.upd := by
  unfold goNarrow
  simp

@[simp] theorem checkSub_frame (s : State) (a : Nat) :
    (checkSub s a).pending = s.pending ∧ (checkSub s a).now = s.now ∧ (checkSub s a).fresh = s.fresh ∧
    (checkSub s a).gen = s.gen ∧ (checkSub s a).ruling = s.ruling ∧ (checkSub s a).cap = s.cap ∧
    (checkSub s a).unit = s.unit ∧ (checkSub s a).pwr = s.pwr ∧ (checkSub s a).cfg = s.cfg ∧
    (checkSub s a).seams = s.seams ∧ (checkSub s a).fab = s.fab ∧ (checkSub s a).clk = s.clk ∧ (checkSub s a).tim = s.tim ∧
    (checkSub s a).rx = s.rx ∧ (checkSub s a).tx = s.tx ∧ (checkSub s a).shu = s.shu ∧ (checkSub s a).noc = s.noc ∧
    (checkSub s a).mem = s.mem ∧ (checkSub s a).itg = s.itg ∧ (checkSub s a).upd = s.upd := by
  unfold checkSub
  repeat' split
  all_goals simp

@[simp] theorem checkLane_frame (s : State) (a : Nat) :
    (checkLane s a).pending = s.pending ∧ (checkLane s a).now = s.now ∧ (checkLane s a).fresh = s.fresh ∧
    (checkLane s a).gen = s.gen ∧ (checkLane s a).ruling = s.ruling ∧ (checkLane s a).cap = s.cap ∧
    (checkLane s a).unit = s.unit ∧ (checkLane s a).pwr = s.pwr ∧ (checkLane s a).cfg = s.cfg ∧
    (checkLane s a).seams = s.seams ∧ (checkLane s a).fab = s.fab ∧ (checkLane s a).clk = s.clk ∧
    (checkLane s a).tim = s.tim ∧ (checkLane s a).rx = s.rx ∧ (checkLane s a).tx = s.tx ∧ (checkLane s a).shu = s.shu ∧
    (checkLane s a).noc = s.noc ∧ (checkLane s a).mem = s.mem ∧ (checkLane s a).itg = s.itg ∧ (checkLane s a).upd = s.upd := by
  unfold checkLane
  split <;> simp

@[simp] theorem lockLane_frame (s : State) (a : Nat) :
    (lockLane s a).pending = s.pending ∧ (lockLane s a).now = s.now ∧ (lockLane s a).fresh = s.fresh ∧
    (lockLane s a).gen = s.gen ∧ (lockLane s a).ruling = s.ruling ∧ (lockLane s a).cap = s.cap ∧
    (lockLane s a).unit = s.unit ∧ (lockLane s a).pwr = s.pwr ∧ (lockLane s a).cfg = s.cfg ∧
    (lockLane s a).seams = s.seams ∧ (lockLane s a).fab = s.fab ∧ (lockLane s a).clk = s.clk ∧ (lockLane s a).tim = s.tim ∧
    (lockLane s a).rx = s.rx ∧ (lockLane s a).tx = s.tx ∧ (lockLane s a).shu = s.shu ∧ (lockLane s a).noc = s.noc ∧
    (lockLane s a).mem = s.mem ∧ (lockLane s a).itg = s.itg ∧ (lockLane s a).upd = s.upd := by
  unfold lockLane
  simp

@[simp] theorem settle_frame (s : State) (a : Nat) :
    (settle s a).pending = s.pending ∧ (settle s a).now = s.now ∧ (settle s a).fresh = s.fresh ∧ (settle s a).gen = s.gen ∧
    (settle s a).ruling = s.ruling ∧ (settle s a).cap = s.cap ∧ (settle s a).unit = s.unit ∧ (settle s a).pwr = s.pwr ∧
    (settle s a).cfg = s.cfg ∧ (settle s a).seams = s.seams ∧ (settle s a).fab = s.fab ∧ (settle s a).clk = s.clk ∧
    (settle s a).tim = s.tim ∧ (settle s a).rx = s.rx ∧ (settle s a).tx = s.tx ∧ (settle s a).shu = s.shu ∧
    (settle s a).noc = s.noc ∧ (settle s a).mem = s.mem ∧ (settle s a).itg = s.itg ∧ (settle s a).upd = s.upd := by
  unfold settle
  simp

@[simp] theorem propose_frame (s : State) (a : Nat) :
    (propose s a).pending = s.pending ∧ (propose s a).now = s.now ∧ (propose s a).fresh = s.fresh ∧
    (propose s a).gen = s.gen ∧ (propose s a).ruling = s.ruling ∧ (propose s a).cap = s.cap ∧ (propose s a).unit = s.unit ∧
    (propose s a).pwr = s.pwr ∧ (propose s a).cfg = s.cfg ∧ (propose s a).seams = s.seams ∧ (propose s a).fab = s.fab ∧
    (propose s a).clk = s.clk ∧ (propose s a).tim = s.tim ∧ (propose s a).rx = s.rx ∧ (propose s a).tx = s.tx ∧
    (propose s a).shu = s.shu ∧ (propose s a).noc = s.noc ∧ (propose s a).mem = s.mem ∧ (propose s a).itg = s.itg ∧
    (propose s a).upd = s.upd := by
  unfold propose
  split <;> simp

@[simp] theorem gainLock_frame (s : State) (a : Nat) :
    (gainLock s a).pending = s.pending ∧ (gainLock s a).now = s.now ∧ (gainLock s a).fresh = s.fresh ∧
    (gainLock s a).gen = s.gen ∧ (gainLock s a).ruling = s.ruling ∧ (gainLock s a).cap = s.cap ∧
    (gainLock s a).unit = s.unit ∧ (gainLock s a).pwr = s.pwr ∧ (gainLock s a).cfg = s.cfg ∧
    (gainLock s a).seams = s.seams ∧ (gainLock s a).fab = s.fab ∧ (gainLock s a).clk = s.clk ∧ (gainLock s a).tim = s.tim ∧
    (gainLock s a).rx = s.rx ∧ (gainLock s a).tx = s.tx ∧ (gainLock s a).shu = s.shu ∧ (gainLock s a).noc = s.noc ∧
    (gainLock s a).mem = s.mem ∧ (gainLock s a).itg = s.itg ∧ (gainLock s a).upd = s.upd := by
  unfold gainLock
  simp

@[simp] theorem loseShadow_frame (s : State) (a : Nat) :
    (loseShadow s a).pending = s.pending ∧ (loseShadow s a).now = s.now ∧ (loseShadow s a).fresh = s.fresh ∧
    (loseShadow s a).gen = s.gen ∧ (loseShadow s a).ruling = s.ruling ∧ (loseShadow s a).cap = s.cap ∧
    (loseShadow s a).mgmt = s.mgmt ∧ (loseShadow s a).unit = s.unit ∧ (loseShadow s a).pwr = s.pwr ∧
    (loseShadow s a).cfg = s.cfg ∧ (loseShadow s a).seams = s.seams ∧ (loseShadow s a).fab = s.fab ∧
    (loseShadow s a).clk = s.clk ∧ (loseShadow s a).tim = s.tim ∧ (loseShadow s a).lan = s.lan ∧
    (loseShadow s a).rx = s.rx ∧ (loseShadow s a).tx = s.tx ∧ (loseShadow s a).shu = s.shu ∧ (loseShadow s a).noc = s.noc ∧
    (loseShadow s a).mem = s.mem ∧ (loseShadow s a).itg = s.itg ∧ (loseShadow s a).upd = s.upd := by
  unfold loseShadow
  split <;> simp

@[simp] theorem loseLock_frame (s : State) (a : Nat) :
    (loseLock s a).pending = s.pending ∧ (loseLock s a).now = s.now ∧ (loseLock s a).fresh = s.fresh ∧
    (loseLock s a).gen = s.gen ∧ (loseLock s a).ruling = s.ruling ∧ (loseLock s a).cap = s.cap ∧
    (loseLock s a).unit = s.unit ∧ (loseLock s a).pwr = s.pwr ∧ (loseLock s a).cfg = s.cfg ∧
    (loseLock s a).seams = s.seams ∧ (loseLock s a).fab = s.fab ∧ (loseLock s a).clk = s.clk ∧ (loseLock s a).tim = s.tim ∧
    (loseLock s a).rx = s.rx ∧ (loseLock s a).tx = s.tx ∧ (loseLock s a).shu = s.shu ∧ (loseLock s a).noc = s.noc ∧
    (loseLock s a).mem = s.mem ∧ (loseLock s a).itg = s.itg ∧ (loseLock s a).upd = s.upd := by
  unfold loseLock
  simp

@[simp] theorem failStep_frame (s : State) (a : Nat) :
    (failStep s a).pending = s.pending ∧ (failStep s a).now = s.now ∧ (failStep s a).fresh = s.fresh ∧
    (failStep s a).gen = s.gen ∧ (failStep s a).ruling = s.ruling ∧ (failStep s a).cap = s.cap ∧
    (failStep s a).unit = s.unit ∧ (failStep s a).pwr = s.pwr ∧ (failStep s a).cfg = s.cfg ∧
    (failStep s a).seams = s.seams ∧ (failStep s a).fab = s.fab ∧ (failStep s a).clk = s.clk ∧ (failStep s a).tim = s.tim ∧
    (failStep s a).rx = s.rx ∧ (failStep s a).tx = s.tx ∧ (failStep s a).shu = s.shu ∧ (failStep s a).noc = s.noc ∧
    (failStep s a).mem = s.mem ∧ (failStep s a).itg = s.itg ∧ (failStep s a).upd = s.upd := by
  unfold failStep
  simp

@[simp] theorem takeBlock_frame (s : State) (a : Nat) (b : LineBlock) :
    (takeBlock s a b).pending = s.pending ∧ (takeBlock s a b).now = s.now ∧ (takeBlock s a b).fresh = s.fresh ∧
    (takeBlock s a b).gen = s.gen ∧ (takeBlock s a b).ruling = s.ruling ∧ (takeBlock s a b).cap = s.cap ∧
    (takeBlock s a b).unit = s.unit ∧ (takeBlock s a b).pwr = s.pwr ∧ (takeBlock s a b).cfg = s.cfg ∧
    (takeBlock s a b).seams = s.seams ∧ (takeBlock s a b).fab = s.fab ∧ (takeBlock s a b).clk = s.clk ∧
    (takeBlock s a b).tim = s.tim ∧ (takeBlock s a b).rx = s.rx ∧ (takeBlock s a b).tx = s.tx ∧
    (takeBlock s a b).shu = s.shu ∧ (takeBlock s a b).noc = s.noc ∧ (takeBlock s a b).mem = s.mem ∧
    (takeBlock s a b).itg = s.itg ∧ (takeBlock s a b).upd = s.upd := by
  unfold takeBlock
  simp

@[simp] theorem takeBlocks_frame (s : State) (a : Nat) (b : List LineBlock) :
    (takeBlocks s a b).pending = s.pending ∧ (takeBlocks s a b).now = s.now ∧ (takeBlocks s a b).fresh = s.fresh ∧
    (takeBlocks s a b).gen = s.gen ∧ (takeBlocks s a b).ruling = s.ruling ∧ (takeBlocks s a b).cap = s.cap ∧
    (takeBlocks s a b).unit = s.unit ∧ (takeBlocks s a b).pwr = s.pwr ∧ (takeBlocks s a b).cfg = s.cfg ∧
    (takeBlocks s a b).seams = s.seams ∧ (takeBlocks s a b).fab = s.fab ∧ (takeBlocks s a b).clk = s.clk ∧
    (takeBlocks s a b).tim = s.tim ∧ (takeBlocks s a b).rx = s.rx ∧ (takeBlocks s a b).tx = s.tx ∧
    (takeBlocks s a b).shu = s.shu ∧ (takeBlocks s a b).noc = s.noc ∧ (takeBlocks s a b).mem = s.mem ∧
    (takeBlocks s a b).itg = s.itg ∧ (takeBlocks s a b).upd = s.upd := by
  unfold takeBlocks
  simp

@[simp] theorem takeOffer_frame (s : State) (a : Nat) (b : Nat) :
    (takeOffer s a b).pending = s.pending ∧ (takeOffer s a b).now = s.now ∧ (takeOffer s a b).fresh = s.fresh ∧
    (takeOffer s a b).gen = s.gen ∧ (takeOffer s a b).ruling = s.ruling ∧ (takeOffer s a b).cap = s.cap ∧
    (takeOffer s a b).unit = s.unit ∧ (takeOffer s a b).pwr = s.pwr ∧ (takeOffer s a b).cfg = s.cfg ∧
    (takeOffer s a b).seams = s.seams ∧ (takeOffer s a b).fab = s.fab ∧ (takeOffer s a b).clk = s.clk ∧
    (takeOffer s a b).tim = s.tim ∧ (takeOffer s a b).rx = s.rx ∧ (takeOffer s a b).tx = s.tx ∧
    (takeOffer s a b).shu = s.shu ∧ (takeOffer s a b).noc = s.noc ∧ (takeOffer s a b).mem = s.mem ∧
    (takeOffer s a b).itg = s.itg ∧ (takeOffer s a b).upd = s.upd := by
  unfold takeOffer
  simp only []
  repeat' split
  all_goals simp

@[simp] theorem takeAccept_frame (s : State) (a : Nat) (b : Nat) :
    (takeAccept s a b).pending = s.pending ∧ (takeAccept s a b).now = s.now ∧ (takeAccept s a b).fresh = s.fresh ∧
    (takeAccept s a b).cat = s.cat ∧ (takeAccept s a b).gen = s.gen ∧ (takeAccept s a b).ruling = s.ruling ∧
    (takeAccept s a b).cap = s.cap ∧ (takeAccept s a b).mgmt = s.mgmt ∧ (takeAccept s a b).unit = s.unit ∧
    (takeAccept s a b).pwr = s.pwr ∧ (takeAccept s a b).cfg = s.cfg ∧ (takeAccept s a b).seams = s.seams ∧
    (takeAccept s a b).fab = s.fab ∧ (takeAccept s a b).clk = s.clk ∧ (takeAccept s a b).tim = s.tim ∧
    (takeAccept s a b).rx = s.rx ∧ (takeAccept s a b).tx = s.tx ∧ (takeAccept s a b).shu = s.shu ∧
    (takeAccept s a b).noc = s.noc ∧ (takeAccept s a b).mem = s.mem ∧ (takeAccept s a b).itg = s.itg ∧
    (takeAccept s a b).upd = s.upd := by
  unfold takeAccept
  simp

@[simp] theorem takeSwitch_frame (s : State) (a : Nat) (b : Nat) :
    (takeSwitch s a b).pending = s.pending ∧ (takeSwitch s a b).now = s.now ∧ (takeSwitch s a b).fresh = s.fresh ∧
    (takeSwitch s a b).cat = s.cat ∧ (takeSwitch s a b).gen = s.gen ∧ (takeSwitch s a b).ruling = s.ruling ∧
    (takeSwitch s a b).cap = s.cap ∧ (takeSwitch s a b).mgmt = s.mgmt ∧ (takeSwitch s a b).unit = s.unit ∧
    (takeSwitch s a b).pwr = s.pwr ∧ (takeSwitch s a b).cfg = s.cfg ∧ (takeSwitch s a b).seams = s.seams ∧
    (takeSwitch s a b).fab = s.fab ∧ (takeSwitch s a b).clk = s.clk ∧ (takeSwitch s a b).tim = s.tim ∧
    (takeSwitch s a b).rx = s.rx ∧ (takeSwitch s a b).tx = s.tx ∧ (takeSwitch s a b).shu = s.shu ∧
    (takeSwitch s a b).noc = s.noc ∧ (takeSwitch s a b).mem = s.mem ∧ (takeSwitch s a b).itg = s.itg ∧
    (takeSwitch s a b).upd = s.upd := by
  unfold takeSwitch
  simp

@[simp] theorem takeDone_frame (s : State) (a : Nat) :
    (takeDone s a).pending = s.pending ∧ (takeDone s a).now = s.now ∧ (takeDone s a).fresh = s.fresh ∧
    (takeDone s a).gen = s.gen ∧ (takeDone s a).ruling = s.ruling ∧ (takeDone s a).cap = s.cap ∧
    (takeDone s a).unit = s.unit ∧ (takeDone s a).pwr = s.pwr ∧ (takeDone s a).cfg = s.cfg ∧
    (takeDone s a).seams = s.seams ∧ (takeDone s a).fab = s.fab ∧ (takeDone s a).clk = s.clk ∧ (takeDone s a).tim = s.tim ∧
    (takeDone s a).rx = s.rx ∧ (takeDone s a).tx = s.tx ∧ (takeDone s a).shu = s.shu ∧ (takeDone s a).noc = s.noc ∧
    (takeDone s a).mem = s.mem ∧ (takeDone s a).itg = s.itg ∧ (takeDone s a).upd = s.upd := by
  unfold takeDone
  simp

@[simp] theorem beginReform_frame (s : State) (a : Nat) (b : Option Nat) :
    (beginReform s a b).pending = s.pending ∧ (beginReform s a b).now = s.now ∧ (beginReform s a b).fresh = s.fresh ∧
    (beginReform s a b).gen = s.gen ∧ (beginReform s a b).ruling = s.ruling ∧ (beginReform s a b).cap = s.cap ∧
    (beginReform s a b).mgmt = s.mgmt ∧ (beginReform s a b).unit = s.unit ∧ (beginReform s a b).pwr = s.pwr ∧
    (beginReform s a b).cfg = s.cfg ∧ (beginReform s a b).seams = s.seams ∧ (beginReform s a b).fab = s.fab ∧
    (beginReform s a b).clk = s.clk ∧ (beginReform s a b).tim = s.tim ∧ (beginReform s a b).rx = s.rx ∧
    (beginReform s a b).tx = s.tx ∧ (beginReform s a b).shu = s.shu ∧ (beginReform s a b).noc = s.noc ∧
    (beginReform s a b).mem = s.mem ∧ (beginReform s a b).itg = s.itg ∧ (beginReform s a b).upd = s.upd := by
  unfold beginReform
  simp

@[simp] theorem takeReform_frame (s : State) (a : Nat) (b : Nat) :
    (takeReform s a b).pending = s.pending ∧ (takeReform s a b).now = s.now ∧ (takeReform s a b).fresh = s.fresh ∧
    (takeReform s a b).gen = s.gen ∧ (takeReform s a b).ruling = s.ruling ∧ (takeReform s a b).cap = s.cap ∧
    (takeReform s a b).unit = s.unit ∧ (takeReform s a b).pwr = s.pwr ∧ (takeReform s a b).cfg = s.cfg ∧
    (takeReform s a b).seams = s.seams ∧ (takeReform s a b).fab = s.fab ∧ (takeReform s a b).clk = s.clk ∧
    (takeReform s a b).tim = s.tim ∧ (takeReform s a b).rx = s.rx ∧ (takeReform s a b).tx = s.tx ∧
    (takeReform s a b).shu = s.shu ∧ (takeReform s a b).noc = s.noc ∧ (takeReform s a b).mem = s.mem ∧
    (takeReform s a b).itg = s.itg ∧ (takeReform s a b).upd = s.upd := by
  unfold takeReform
  simp

@[simp] theorem takeRestore_frame (s : State) (a : Nat) (b : Nat) :
    (takeRestore s a b).pending = s.pending ∧ (takeRestore s a b).now = s.now ∧ (takeRestore s a b).fresh = s.fresh ∧
    (takeRestore s a b).cat = s.cat ∧ (takeRestore s a b).gen = s.gen ∧ (takeRestore s a b).ruling = s.ruling ∧
    (takeRestore s a b).cap = s.cap ∧ (takeRestore s a b).mgmt = s.mgmt ∧ (takeRestore s a b).unit = s.unit ∧
    (takeRestore s a b).pwr = s.pwr ∧ (takeRestore s a b).cfg = s.cfg ∧ (takeRestore s a b).seams = s.seams ∧
    (takeRestore s a b).fab = s.fab ∧ (takeRestore s a b).clk = s.clk ∧ (takeRestore s a b).tim = s.tim ∧
    (takeRestore s a b).rx = s.rx ∧ (takeRestore s a b).tx = s.tx ∧ (takeRestore s a b).shu = s.shu ∧
    (takeRestore s a b).noc = s.noc ∧ (takeRestore s a b).mem = s.mem ∧ (takeRestore s a b).itg = s.itg ∧
    (takeRestore s a b).upd = s.upd := by
  unfold takeRestore
  simp

@[simp] theorem takeLadder_frame (s : State) (a : Nat) (b : Nat) :
    (takeLadder s a b).pending = s.pending ∧ (takeLadder s a b).now = s.now ∧ (takeLadder s a b).fresh = s.fresh ∧
    (takeLadder s a b).gen = s.gen ∧ (takeLadder s a b).ruling = s.ruling ∧ (takeLadder s a b).cap = s.cap ∧
    (takeLadder s a b).unit = s.unit ∧ (takeLadder s a b).pwr = s.pwr ∧ (takeLadder s a b).cfg = s.cfg ∧
    (takeLadder s a b).seams = s.seams ∧ (takeLadder s a b).fab = s.fab ∧ (takeLadder s a b).clk = s.clk ∧
    (takeLadder s a b).tim = s.tim ∧ (takeLadder s a b).rx = s.rx ∧ (takeLadder s a b).tx = s.tx ∧
    (takeLadder s a b).shu = s.shu ∧ (takeLadder s a b).noc = s.noc ∧ (takeLadder s a b).mem = s.mem ∧
    (takeLadder s a b).itg = s.itg ∧ (takeLadder s a b).upd = s.upd := by
  unfold takeLadder
  simp only []
  repeat' split
  all_goals simp

@[simp] theorem subFails_frame (s : State) (a : Nat) :
    (subFails s a).pending = s.pending ∧ (subFails s a).now = s.now ∧ (subFails s a).fresh = s.fresh ∧
    (subFails s a).gen = s.gen ∧ (subFails s a).ruling = s.ruling ∧ (subFails s a).cap = s.cap ∧
    (subFails s a).unit = s.unit ∧ (subFails s a).pwr = s.pwr ∧ (subFails s a).cfg = s.cfg ∧
    (subFails s a).seams = s.seams ∧ (subFails s a).fab = s.fab ∧ (subFails s a).clk = s.clk ∧ (subFails s a).tim = s.tim ∧
    (subFails s a).rx = s.rx ∧ (subFails s a).tx = s.tx ∧ (subFails s a).shu = s.shu ∧ (subFails s a).noc = s.noc ∧
    (subFails s a).mem = s.mem ∧ (subFails s a).itg = s.itg ∧ (subFails s a).upd = s.upd := by
  unfold subFails
  simp

@[simp] theorem failLane_frame (s : State) (a : Nat) (b : Nat) :
    (failLane s a b).pending = s.pending ∧ (failLane s a b).now = s.now ∧ (failLane s a b).fresh = s.fresh ∧
    (failLane s a b).gen = s.gen ∧ (failLane s a b).ruling = s.ruling ∧ (failLane s a b).cap = s.cap ∧
    (failLane s a b).unit = s.unit ∧ (failLane s a b).pwr = s.pwr ∧ (failLane s a b).cfg = s.cfg ∧
    (failLane s a b).seams = s.seams ∧ (failLane s a b).fab = s.fab ∧ (failLane s a b).clk = s.clk ∧
    (failLane s a b).tim = s.tim ∧ (failLane s a b).rx = s.rx ∧ (failLane s a b).tx = s.tx ∧ (failLane s a b).shu = s.shu ∧
    (failLane s a b).noc = s.noc ∧ (failLane s a b).mem = s.mem ∧ (failLane s a b).itg = s.itg ∧
    (failLane s a b).upd = s.upd := by
  unfold failLane
  repeat' split
  all_goals simp

@[simp] theorem completeReform_frame (s : State) (a : Nat) (b : Nat) :
    (completeReform s a b).pending = s.pending ∧ (completeReform s a b).gen = s.gen ∧
    (completeReform s a b).ruling = s.ruling ∧ (completeReform s a b).cap = s.cap ∧ (completeReform s a b).unit = s.unit ∧
    (completeReform s a b).pwr = s.pwr ∧ (completeReform s a b).cfg = s.cfg ∧ (completeReform s a b).seams = s.seams ∧
    (completeReform s a b).fab = s.fab ∧ (completeReform s a b).clk = s.clk ∧ (completeReform s a b).rx = s.rx ∧
    (completeReform s a b).tx = s.tx ∧ (completeReform s a b).shu = s.shu ∧ (completeReform s a b).noc = s.noc ∧
    (completeReform s a b).mem = s.mem ∧ (completeReform s a b).itg = s.itg ∧ (completeReform s a b).upd = s.upd := by
  unfold completeReform
  simp only []
  repeat' split
  all_goals simp

@[simp] theorem completeRestore_frame (s : State) (a : Nat) :
    (completeRestore s a).pending = s.pending ∧ (completeRestore s a).now = s.now ∧ (completeRestore s a).fresh = s.fresh ∧
    (completeRestore s a).gen = s.gen ∧ (completeRestore s a).ruling = s.ruling ∧ (completeRestore s a).cap = s.cap ∧
    (completeRestore s a).unit = s.unit ∧ (completeRestore s a).pwr = s.pwr ∧ (completeRestore s a).cfg = s.cfg ∧
    (completeRestore s a).seams = s.seams ∧ (completeRestore s a).fab = s.fab ∧ (completeRestore s a).clk = s.clk ∧
    (completeRestore s a).tim = s.tim ∧ (completeRestore s a).rx = s.rx ∧ (completeRestore s a).tx = s.tx ∧
    (completeRestore s a).shu = s.shu ∧ (completeRestore s a).noc = s.noc ∧ (completeRestore s a).mem = s.mem ∧
    (completeRestore s a).itg = s.itg ∧ (completeRestore s a).upd = s.upd := by
  unfold completeRestore
  simp

@[simp] theorem shadowReady_frame (s : State) (a : Nat) :
    (shadowReady s a).pending = s.pending ∧ (shadowReady s a).fresh = s.fresh ∧ (shadowReady s a).gen = s.gen ∧
    (shadowReady s a).ruling = s.ruling ∧ (shadowReady s a).cap = s.cap ∧ (shadowReady s a).unit = s.unit ∧
    (shadowReady s a).pwr = s.pwr ∧ (shadowReady s a).cfg = s.cfg ∧ (shadowReady s a).seams = s.seams ∧
    (shadowReady s a).fab = s.fab ∧ (shadowReady s a).clk = s.clk ∧ (shadowReady s a).rx = s.rx ∧
    (shadowReady s a).tx = s.tx ∧ (shadowReady s a).shu = s.shu ∧ (shadowReady s a).noc = s.noc ∧
    (shadowReady s a).mem = s.mem ∧ (shadowReady s a).itg = s.itg ∧ (shadowReady s a).upd = s.upd := by
  unfold shadowReady
  split <;> simp

@[simp] theorem shadowRetry_frame (s : State) (a : Nat) :
    (shadowRetry s a).pending = s.pending ∧ (shadowRetry s a).fresh = s.fresh ∧ (shadowRetry s a).cat = s.cat ∧
    (shadowRetry s a).gen = s.gen ∧ (shadowRetry s a).ruling = s.ruling ∧ (shadowRetry s a).cap = s.cap ∧
    (shadowRetry s a).mgmt = s.mgmt ∧ (shadowRetry s a).unit = s.unit ∧ (shadowRetry s a).pwr = s.pwr ∧
    (shadowRetry s a).cfg = s.cfg ∧ (shadowRetry s a).seams = s.seams ∧ (shadowRetry s a).fab = s.fab ∧
    (shadowRetry s a).clk = s.clk ∧ (shadowRetry s a).rx = s.rx ∧ (shadowRetry s a).tx = s.tx ∧
    (shadowRetry s a).shu = s.shu ∧ (shadowRetry s a).noc = s.noc ∧ (shadowRetry s a).mem = s.mem ∧
    (shadowRetry s a).itg = s.itg ∧ (shadowRetry s a).upd = s.upd := by
  unfold shadowRetry
  split <;> simp

@[simp] theorem stopPort_frame (s : State) (a : Nat) (b : Nat) (c : Option Nat) :
    (stopPort s a b c).pending = s.pending ∧ (stopPort s a b c).now = s.now ∧ (stopPort s a b c).fresh = s.fresh ∧
    (stopPort s a b c).gen = s.gen ∧ (stopPort s a b c).ruling = s.ruling ∧ (stopPort s a b c).cap = s.cap ∧
    (stopPort s a b c).unit = s.unit ∧ (stopPort s a b c).pwr = s.pwr ∧ (stopPort s a b c).cfg = s.cfg ∧
    (stopPort s a b c).seams = s.seams ∧ (stopPort s a b c).fab = s.fab ∧ (stopPort s a b c).clk = s.clk ∧
    (stopPort s a b c).tim = s.tim ∧ (stopPort s a b c).rx = s.rx ∧ (stopPort s a b c).tx = s.tx ∧
    (stopPort s a b c).shu = s.shu ∧ (stopPort s a b c).noc = s.noc ∧ (stopPort s a b c).mem = s.mem ∧
    (stopPort s a b c).itg = s.itg ∧ (stopPort s a b c).upd = s.upd := by
  unfold stopPort
  simp

@[simp] theorem startPort_frame (s : State) (a : Nat) :
    (startPort s a).pending = s.pending ∧ (startPort s a).now = s.now ∧ (startPort s a).fresh = s.fresh ∧
    (startPort s a).gen = s.gen ∧ (startPort s a).ruling = s.ruling ∧ (startPort s a).cap = s.cap ∧
    (startPort s a).mgmt = s.mgmt ∧ (startPort s a).unit = s.unit ∧ (startPort s a).pwr = s.pwr ∧
    (startPort s a).cfg = s.cfg ∧ (startPort s a).seams = s.seams ∧ (startPort s a).fab = s.fab ∧
    (startPort s a).clk = s.clk ∧ (startPort s a).tim = s.tim ∧ (startPort s a).rx = s.rx ∧ (startPort s a).tx = s.tx ∧
    (startPort s a).shu = s.shu ∧ (startPort s a).noc = s.noc ∧ (startPort s a).mem = s.mem ∧ (startPort s a).itg = s.itg ∧
    (startPort s a).upd = s.upd := by
  unfold startPort
  simp

@[simp] theorem clearSubs_frame (s : State) (a : Nat) :
    (clearSubs s a).pending = s.pending ∧ (clearSubs s a).now = s.now ∧ (clearSubs s a).fresh = s.fresh ∧
    (clearSubs s a).gen = s.gen ∧ (clearSubs s a).ruling = s.ruling ∧ (clearSubs s a).cap = s.cap ∧
    (clearSubs s a).mgmt = s.mgmt ∧ (clearSubs s a).unit = s.unit ∧ (clearSubs s a).pwr = s.pwr ∧
    (clearSubs s a).cfg = s.cfg ∧ (clearSubs s a).seams = s.seams ∧ (clearSubs s a).fab = s.fab ∧
    (clearSubs s a).clk = s.clk ∧ (clearSubs s a).tim = s.tim ∧ (clearSubs s a).lan = s.lan ∧ (clearSubs s a).rx = s.rx ∧
    (clearSubs s a).tx = s.tx ∧ (clearSubs s a).shu = s.shu ∧ (clearSubs s a).noc = s.noc ∧ (clearSubs s a).mem = s.mem ∧
    (clearSubs s a).itg = s.itg ∧ (clearSubs s a).upd = s.upd := by
  unfold clearSubs
  simp

@[simp] theorem stopLanes_frame (s : State) (a : Nat) (b : Nat) :
    (stopLanes s a b).pending = s.pending ∧ (stopLanes s a b).now = s.now ∧ (stopLanes s a b).fresh = s.fresh ∧
    (stopLanes s a b).gen = s.gen ∧ (stopLanes s a b).ruling = s.ruling ∧ (stopLanes s a b).cap = s.cap ∧
    (stopLanes s a b).unit = s.unit ∧ (stopLanes s a b).pwr = s.pwr ∧ (stopLanes s a b).cfg = s.cfg ∧
    (stopLanes s a b).seams = s.seams ∧ (stopLanes s a b).fab = s.fab ∧ (stopLanes s a b).clk = s.clk ∧
    (stopLanes s a b).tim = s.tim ∧ (stopLanes s a b).rx = s.rx ∧ (stopLanes s a b).tx = s.tx ∧
    (stopLanes s a b).shu = s.shu ∧ (stopLanes s a b).noc = s.noc ∧ (stopLanes s a b).mem = s.mem ∧
    (stopLanes s a b).itg = s.itg ∧ (stopLanes s a b).upd = s.upd := by
  unfold stopLanes
  simp

@[simp] theorem rawLanes_frame (s : State) (a : Bool) :
    (rawLanes s a).pending = s.pending ∧ (rawLanes s a).now = s.now ∧ (rawLanes s a).fresh = s.fresh ∧
    (rawLanes s a).cat = s.cat ∧ (rawLanes s a).gen = s.gen ∧ (rawLanes s a).ruling = s.ruling ∧
    (rawLanes s a).cap = s.cap ∧ (rawLanes s a).mgmt = s.mgmt ∧ (rawLanes s a).unit = s.unit ∧ (rawLanes s a).pwr = s.pwr ∧
    (rawLanes s a).cfg = s.cfg ∧ (rawLanes s a).seams = s.seams ∧ (rawLanes s a).fab = s.fab ∧ (rawLanes s a).clk = s.clk ∧
    (rawLanes s a).tim = s.tim ∧ (rawLanes s a).rx = s.rx ∧ (rawLanes s a).tx = s.tx ∧ (rawLanes s a).shu = s.shu ∧
    (rawLanes s a).noc = s.noc ∧ (rawLanes s a).mem = s.mem ∧ (rawLanes s a).itg = s.itg ∧ (rawLanes s a).upd = s.upd := by
  unfold rawLanes
  simp

@[simp] theorem State_setOe_frame (s : State) (a : Nat) (b : OptEngine → OptEngine) :
    (State.setOe s a b).pending = s.pending ∧ (State.setOe s a b).now = s.now ∧ (State.setOe s a b).fresh = s.fresh ∧
    (State.setOe s a b).cat = s.cat ∧ (State.setOe s a b).gen = s.gen ∧ (State.setOe s a b).ruling = s.ruling ∧
    (State.setOe s a b).cap = s.cap ∧ (State.setOe s a b).mgmt = s.mgmt ∧ (State.setOe s a b).unit = s.unit ∧
    (State.setOe s a b).pwr = s.pwr ∧ (State.setOe s a b).cfg = s.cfg ∧ (State.setOe s a b).seams = s.seams ∧
    (State.setOe s a b).fab = s.fab ∧ (State.setOe s a b).clk = s.clk ∧ (State.setOe s a b).tim = s.tim ∧
    (State.setOe s a b).rx = s.rx ∧ (State.setOe s a b).tx = s.tx ∧ (State.setOe s a b).shu = s.shu ∧
    (State.setOe s a b).noc = s.noc ∧ (State.setOe s a b).mem = s.mem ∧ (State.setOe s a b).itg = s.itg ∧
    (State.setOe s a b).upd = s.upd := by
  unfold State.setOe
  simp

@[simp] theorem showEngine_frame (s : State) (a : Nat) :
    (showEngine s a).pending = s.pending ∧ (showEngine s a).now = s.now ∧ (showEngine s a).fresh = s.fresh ∧
    (showEngine s a).gen = s.gen ∧ (showEngine s a).ruling = s.ruling ∧ (showEngine s a).cap = s.cap ∧
    (showEngine s a).mgmt = s.mgmt ∧ (showEngine s a).unit = s.unit ∧ (showEngine s a).pwr = s.pwr ∧
    (showEngine s a).cfg = s.cfg ∧ (showEngine s a).seams = s.seams ∧ (showEngine s a).fab = s.fab ∧
    (showEngine s a).clk = s.clk ∧ (showEngine s a).tim = s.tim ∧ (showEngine s a).lan = s.lan ∧
    (showEngine s a).rx = s.rx ∧ (showEngine s a).tx = s.tx ∧ (showEngine s a).shu = s.shu ∧ (showEngine s a).noc = s.noc ∧
    (showEngine s a).mem = s.mem ∧ (showEngine s a).itg = s.itg ∧ (showEngine s a).upd = s.upd := by
  unfold showEngine
  simp

@[simp] theorem trainTap_frame (s : State) (a : Nat) (b : Nat) (c : Nat) :
    (trainTap s a b c).1.pending = s.pending ∧ (trainTap s a b c).1.now = s.now ∧ (trainTap s a b c).1.gen = s.gen ∧
    (trainTap s a b c).1.ruling = s.ruling ∧ (trainTap s a b c).1.cap = s.cap ∧ (trainTap s a b c).1.mgmt = s.mgmt ∧
    (trainTap s a b c).1.unit = s.unit ∧ (trainTap s a b c).1.pwr = s.pwr ∧ (trainTap s a b c).1.cfg = s.cfg ∧
    (trainTap s a b c).1.seams = s.seams ∧ (trainTap s a b c).1.fab = s.fab ∧ (trainTap s a b c).1.clk = s.clk ∧
    (trainTap s a b c).1.tim = s.tim ∧ (trainTap s a b c).1.lan = s.lan ∧ (trainTap s a b c).1.rx = s.rx ∧
    (trainTap s a b c).1.tx = s.tx ∧ (trainTap s a b c).1.shu = s.shu ∧ (trainTap s a b c).1.noc = s.noc ∧
    (trainTap s a b c).1.mem = s.mem ∧ (trainTap s a b c).1.itg = s.itg ∧ (trainTap s a b c).1.upd = s.upd := by
  unfold trainTap
  simp

@[simp] theorem storeStamp_frame (s : State) (a : Nat) (b : List Byte) :
    (storeStamp s a b).pending = s.pending ∧ (storeStamp s a b).now = s.now ∧ (storeStamp s a b).fresh = s.fresh ∧
    (storeStamp s a b).gen = s.gen ∧ (storeStamp s a b).ruling = s.ruling ∧ (storeStamp s a b).cap = s.cap ∧
    (storeStamp s a b).unit = s.unit ∧ (storeStamp s a b).pwr = s.pwr ∧ (storeStamp s a b).cfg = s.cfg ∧
    (storeStamp s a b).seams = s.seams ∧ (storeStamp s a b).fab = s.fab ∧ (storeStamp s a b).clk = s.clk ∧
    (storeStamp s a b).lan = s.lan ∧ (storeStamp s a b).rx = s.rx ∧ (storeStamp s a b).tx = s.tx ∧
    (storeStamp s a b).shu = s.shu ∧ (storeStamp s a b).noc = s.noc ∧ (storeStamp s a b).mem = s.mem ∧
    (storeStamp s a b).itg = s.itg ∧ (storeStamp s a b).upd = s.upd := by
  unfold storeStamp
  simp

@[simp] theorem stampFrame_frame (s : State) (a : Nat) (b : Bool) (c : List Byte) :
    (stampFrame s a b c).pending = s.pending ∧ (stampFrame s a b c).now = s.now ∧ (stampFrame s a b c).fresh = s.fresh ∧
    (stampFrame s a b c).gen = s.gen ∧ (stampFrame s a b c).ruling = s.ruling ∧ (stampFrame s a b c).cap = s.cap ∧
    (stampFrame s a b c).unit = s.unit ∧ (stampFrame s a b c).pwr = s.pwr ∧ (stampFrame s a b c).cfg = s.cfg ∧
    (stampFrame s a b c).seams = s.seams ∧ (stampFrame s a b c).fab = s.fab ∧ (stampFrame s a b c).clk = s.clk ∧
    (stampFrame s a b c).lan = s.lan ∧ (stampFrame s a b c).rx = s.rx ∧ (stampFrame s a b c).tx = s.tx ∧
    (stampFrame s a b c).shu = s.shu ∧ (stampFrame s a b c).noc = s.noc ∧ (stampFrame s a b c).mem = s.mem ∧
    (stampFrame s a b c).itg = s.itg ∧ (stampFrame s a b c).upd = s.upd := by
  unfold stampFrame
  split <;> simp

end Sys2Proof.Machine
end

