-- ==== Sys2Proof/Laws/FramesSeams.lean ====
section
/-! SUPPORT. What each operation over the state leaves alone:
seams, the fabric, memory bytes, long operation slots, key slots and links. -/

namespace Sys2Proof.Machine

@[simp] theorem State_setChan_frame (s : State) (a : Nat) (b : Channel → Channel) :
    (State.setChan s a b).pending = s.pending ∧ (State.setChan s a b).now = s.now ∧ (State.setChan s a b).fresh = s.fresh ∧
    (State.setChan s a b).cat = s.cat ∧ (State.setChan s a b).gen = s.gen ∧ (State.setChan s a b).ruling = s.ruling ∧
    (State.setChan s a b).cap = s.cap ∧ (State.setChan s a b).mgmt = s.mgmt ∧ (State.setChan s a b).unit = s.unit ∧
    (State.setChan s a b).pwr = s.pwr ∧ (State.setChan s a b).cfg = s.cfg ∧ (State.setChan s a b).fab = s.fab ∧
    (State.setChan s a b).clk = s.clk ∧ (State.setChan s a b).tim = s.tim ∧ (State.setChan s a b).lan = s.lan ∧
    (State.setChan s a b).rx = s.rx ∧ (State.setChan s a b).tx = s.tx ∧ (State.setChan s a b).shu = s.shu ∧
    (State.setChan s a b).noc = s.noc ∧ (State.setChan s a b).mem = s.mem ∧ (State.setChan s a b).itg = s.itg ∧
    (State.setChan s a b).upd = s.upd := by
  unfold State.setChan
  simp

@[simp] theorem showChannel_frame (s : State) (a : Nat) :
    (showChannel s a).pending = s.pending ∧ (showChannel s a).now = s.now ∧ (showChannel s a).fresh = s.fresh ∧
    (showChannel s a).gen = s.gen ∧ (showChannel s a).ruling = s.ruling ∧ (showChannel s a).cap = s.cap ∧
    (showChannel s a).mgmt = s.mgmt ∧ (showChannel s a).unit = s.unit ∧ (showChannel s a).pwr = s.pwr ∧
    (showChannel s a).cfg = s.cfg ∧ (showChannel s a).seams = s.seams ∧ (showChannel s a).fab = s.fab ∧
    (showChannel s a).clk = s.clk ∧ (showChannel s a).tim = s.tim ∧ (showChannel s a).lan = s.lan ∧
    (showChannel s a).rx = s.rx ∧ (showChannel s a).tx = s.tx ∧ (showChannel s a).shu = s.shu ∧
    (showChannel s a).noc = s.noc ∧ (showChannel s a).mem = s.mem ∧ (showChannel s a).itg = s.itg ∧
    (showChannel s a).upd = s.upd := by
  unfold showChannel
  simp

@[simp] theorem State_putCh_frame (s : State) (a : Nat) (b : Nat) :
    (State.putCh s a b).pending = s.pending ∧ (State.putCh s a b).now = s.now ∧ (State.putCh s a b).fresh = s.fresh ∧
    (State.putCh s a b).gen = s.gen ∧ (State.putCh s a b).ruling = s.ruling ∧ (State.putCh s a b).cap = s.cap ∧
    (State.putCh s a b).mgmt = s.mgmt ∧ (State.putCh s a b).unit = s.unit ∧ (State.putCh s a b).pwr = s.pwr ∧
    (State.putCh s a b).cfg = s.cfg ∧ (State.putCh s a b).seams = s.seams ∧ (State.putCh s a b).fab = s.fab ∧
    (State.putCh s a b).clk = s.clk ∧ (State.putCh s a b).tim = s.tim ∧ (State.putCh s a b).lan = s.lan ∧
    (State.putCh s a b).rx = s.rx ∧ (State.putCh s a b).tx = s.tx ∧ (State.putCh s a b).shu = s.shu ∧
    (State.putCh s a b).noc = s.noc ∧ (State.putCh s a b).mem = s.mem ∧ (State.putCh s a b).itg = s.itg ∧
    (State.putCh s a b).upd = s.upd := by
  unfold State.putCh
  simp

@[simp] theorem holdFixed_frame (s : State) (a : Nat) (b : Nat) :
    (holdFixed s a b).pending = s.pending ∧ (holdFixed s a b).now = s.now ∧ (holdFixed s a b).fresh = s.fresh ∧
    (holdFixed s a b).gen = s.gen ∧ (holdFixed s a b).ruling = s.ruling ∧ (holdFixed s a b).cap = s.cap ∧
    (holdFixed s a b).unit = s.unit ∧ (holdFixed s a b).pwr = s.pwr ∧ (holdFixed s a b).cfg = s.cfg ∧
    (holdFixed s a b).seams = s.seams ∧ (holdFixed s a b).fab = s.fab ∧ (holdFixed s a b).clk = s.clk ∧
    (holdFixed s a b).tim = s.tim ∧ (holdFixed s a b).lan = s.lan ∧ (holdFixed s a b).rx = s.rx ∧
    (holdFixed s a b).tx = s.tx ∧ (holdFixed s a b).shu = s.shu ∧ (holdFixed s a b).noc = s.noc ∧
    (holdFixed s a b).mem = s.mem ∧ (holdFixed s a b).itg = s.itg ∧ (holdFixed s a b).upd = s.upd := by
  unfold holdFixed
  simp

@[simp] theorem requestMends_frame (s : State) (a : Nat) :
    (requestMends s a).pending = s.pending ∧ (requestMends s a).now = s.now ∧ (requestMends s a).fresh = s.fresh ∧
    (requestMends s a).cat = s.cat ∧ (requestMends s a).gen = s.gen ∧ (requestMends s a).cap = s.cap ∧
    (requestMends s a).mgmt = s.mgmt ∧ (requestMends s a).unit = s.unit ∧ (requestMends s a).pwr = s.pwr ∧
    (requestMends s a).cfg = s.cfg ∧ (requestMends s a).fab = s.fab ∧ (requestMends s a).clk = s.clk ∧
    (requestMends s a).tim = s.tim ∧ (requestMends s a).lan = s.lan ∧ (requestMends s a).rx = s.rx ∧
    (requestMends s a).tx = s.tx ∧ (requestMends s a).shu = s.shu ∧ (requestMends s a).noc = s.noc ∧
    (requestMends s a).mem = s.mem ∧ (requestMends s a).itg = s.itg ∧ (requestMends s a).upd = s.upd := by
  unfold requestMends
  simp

@[simp] theorem withdrawMends_frame (s : State) (a : Nat) :
    (withdrawMends s a).pending = s.pending ∧ (withdrawMends s a).now = s.now ∧ (withdrawMends s a).fresh = s.fresh ∧
    (withdrawMends s a).cat = s.cat ∧ (withdrawMends s a).gen = s.gen ∧ (withdrawMends s a).cap = s.cap ∧
    (withdrawMends s a).mgmt = s.mgmt ∧ (withdrawMends s a).unit = s.unit ∧ (withdrawMends s a).pwr = s.pwr ∧
    (withdrawMends s a).cfg = s.cfg ∧ (withdrawMends s a).seams = s.seams ∧ (withdrawMends s a).fab = s.fab ∧
    (withdrawMends s a).clk = s.clk ∧ (withdrawMends s a).tim = s.tim ∧ (withdrawMends s a).lan = s.lan ∧
    (withdrawMends s a).rx = s.rx ∧ (withdrawMends s a).tx = s.tx ∧ (withdrawMends s a).shu = s.shu ∧
    (withdrawMends s a).noc = s.noc ∧ (withdrawMends s a).mem = s.mem ∧ (withdrawMends s a).itg = s.itg ∧
    (withdrawMends s a).upd = s.upd := by
  unfold withdrawMends
  simp

@[simp] theorem ageMarks_frame (s : State) (a : Nat) (b : Nat) :
    (ageMarks s a b).pending = s.pending ∧ (ageMarks s a b).now = s.now ∧ (ageMarks s a b).fresh = s.fresh ∧
    (ageMarks s a b).gen = s.gen ∧ (ageMarks s a b).ruling = s.ruling ∧ (ageMarks s a b).cap = s.cap ∧
    (ageMarks s a b).unit = s.unit ∧ (ageMarks s a b).pwr = s.pwr ∧ (ageMarks s a b).cfg = s.cfg ∧
    (ageMarks s a b).fab = s.fab ∧ (ageMarks s a b).clk = s.clk ∧ (ageMarks s a b).tim = s.tim ∧
    (ageMarks s a b).lan = s.lan ∧ (ageMarks s a b).rx = s.rx ∧ (ageMarks s a b).tx = s.tx ∧ (ageMarks s a b).shu = s.shu ∧
    (ageMarks s a b).noc = s.noc ∧ (ageMarks s a b).mem = s.mem ∧ (ageMarks s a b).itg = s.itg ∧
    (ageMarks s a b).upd = s.upd := by
  unfold ageMarks
  simp

@[simp] theorem mismatch_frame (s : State) (a : Nat) (b : Nat) (c : BitVec 536) :
    (mismatch s a b c).pending = s.pending ∧ (mismatch s a b c).fresh = s.fresh ∧ (mismatch s a b c).gen = s.gen ∧
    (mismatch s a b c).ruling = s.ruling ∧ (mismatch s a b c).cap = s.cap ∧ (mismatch s a b c).unit = s.unit ∧
    (mismatch s a b c).pwr = s.pwr ∧ (mismatch s a b c).cfg = s.cfg ∧ (mismatch s a b c).fab = s.fab ∧
    (mismatch s a b c).clk = s.clk ∧ (mismatch s a b c).lan = s.lan ∧ (mismatch s a b c).rx = s.rx ∧
    (mismatch s a b c).tx = s.tx ∧ (mismatch s a b c).shu = s.shu ∧ (mismatch s a b c).noc = s.noc ∧
    (mismatch s a b c).mem = s.mem ∧ (mismatch s a b c).itg = s.itg ∧ (mismatch s a b c).upd = s.upd := by
  unfold mismatch
  simp

@[simp] theorem declareFailure_frame (s : State) (a : Nat) (b : Nat) :
    (declareFailure s a b).pending = s.pending ∧ (declareFailure s a b).now = s.now ∧
    (declareFailure s a b).fresh = s.fresh ∧ (declareFailure s a b).gen = s.gen ∧ (declareFailure s a b).cap = s.cap ∧
    (declareFailure s a b).mgmt = s.mgmt ∧ (declareFailure s a b).unit = s.unit ∧ (declareFailure s a b).pwr = s.pwr ∧
    (declareFailure s a b).cfg = s.cfg ∧ (declareFailure s a b).fab = s.fab ∧ (declareFailure s a b).clk = s.clk ∧
    (declareFailure s a b).tim = s.tim ∧ (declareFailure s a b).lan = s.lan ∧ (declareFailure s a b).rx = s.rx ∧
    (declareFailure s a b).tx = s.tx ∧ (declareFailure s a b).shu = s.shu ∧ (declareFailure s a b).noc = s.noc ∧
    (declareFailure s a b).mem = s.mem ∧ (declareFailure s a b).itg = s.itg ∧ (declareFailure s a b).upd = s.upd := by
  unfold declareFailure
  simp

@[simp] theorem failChannel_frame (s : State) (a : Nat) (b : Nat) (c : Nat) :
    (failChannel s a b c).pending = s.pending ∧ (failChannel s a b c).now = s.now ∧ (failChannel s a b c).fresh = s.fresh ∧
    (failChannel s a b c).gen = s.gen ∧ (failChannel s a b c).ruling = s.ruling ∧ (failChannel s a b c).cap = s.cap ∧
    (failChannel s a b c).unit = s.unit ∧ (failChannel s a b c).pwr = s.pwr ∧ (failChannel s a b c).cfg = s.cfg ∧
    (failChannel s a b c).fab = s.fab ∧ (failChannel s a b c).clk = s.clk ∧ (failChannel s a b c).tim = s.tim ∧
    (failChannel s a b c).lan = s.lan ∧ (failChannel s a b c).rx = s.rx ∧ (failChannel s a b c).tx = s.tx ∧
    (failChannel s a b c).shu = s.shu ∧ (failChannel s a b c).noc = s.noc ∧ (failChannel s a b c).mem = s.mem ∧
    (failChannel s a b c).itg = s.itg ∧ (failChannel s a b c).upd = s.upd := by
  unfold failChannel
  simp

@[simp] theorem afterLocalised_frame (s : State) (a : Nat) :
    (afterLocalised s a).pending = s.pending ∧ (afterLocalised s a).now = s.now ∧ (afterLocalised s a).fresh = s.fresh ∧
    (afterLocalised s a).gen = s.gen ∧ (afterLocalised s a).ruling = s.ruling ∧ (afterLocalised s a).cap = s.cap ∧
    (afterLocalised s a).unit = s.unit ∧ (afterLocalised s a).pwr = s.pwr ∧ (afterLocalised s a).cfg = s.cfg ∧
    (afterLocalised s a).fab = s.fab ∧ (afterLocalised s a).clk = s.clk ∧ (afterLocalised s a).tim = s.tim ∧
    (afterLocalised s a).lan = s.lan ∧ (afterLocalised s a).rx = s.rx ∧ (afterLocalised s a).tx = s.tx ∧
    (afterLocalised s a).shu = s.shu ∧ (afterLocalised s a).noc = s.noc ∧ (afterLocalised s a).mem = s.mem ∧
    (afterLocalised s a).itg = s.itg ∧ (afterLocalised s a).upd = s.upd := by
  unfold afterLocalised
  simp only []
  repeat' split
  all_goals simp

@[simp] theorem localise_frame (s : State) (a : Nat) (b : Nat) (c : Bool) :
    (localise s a b c).pending = s.pending ∧ (localise s a b c).now = s.now ∧ (localise s a b c).fresh = s.fresh ∧
    (localise s a b c).gen = s.gen ∧ (localise s a b c).ruling = s.ruling ∧ (localise s a b c).cap = s.cap ∧
    (localise s a b c).unit = s.unit ∧ (localise s a b c).pwr = s.pwr ∧ (localise s a b c).cfg = s.cfg ∧
    (localise s a b c).fab = s.fab ∧ (localise s a b c).clk = s.clk ∧ (localise s a b c).tim = s.tim ∧
    (localise s a b c).lan = s.lan ∧ (localise s a b c).rx = s.rx ∧ (localise s a b c).tx = s.tx ∧
    (localise s a b c).shu = s.shu ∧ (localise s a b c).noc = s.noc ∧ (localise s a b c).mem = s.mem ∧
    (localise s a b c).itg = s.itg ∧ (localise s a b c).upd = s.upd := by
  unfold localise
  simp

@[simp] theorem reportMend_frame (s : State) (a : Nat) (b : Nat) (c : Nat) (d : Nat) :
    (reportMend s a b c d).pending = s.pending ∧ (reportMend s a b c d).now = s.now ∧
    (reportMend s a b c d).fresh = s.fresh ∧ (reportMend s a b c d).gen = s.gen ∧ (reportMend s a b c d).ruling = s.ruling ∧
    (reportMend s a b c d).cap = s.cap ∧ (reportMend s a b c d).unit = s.unit ∧ (reportMend s a b c d).pwr = s.pwr ∧
    (reportMend s a b c d).cfg = s.cfg ∧ (reportMend s a b c d).seams = s.seams ∧ (reportMend s a b c d).fab = s.fab ∧
    (reportMend s a b c d).clk = s.clk ∧ (reportMend s a b c d).tim = s.tim ∧ (reportMend s a b c d).lan = s.lan ∧
    (reportMend s a b c d).rx = s.rx ∧ (reportMend s a b c d).tx = s.tx ∧ (reportMend s a b c d).shu = s.shu ∧
    (reportMend s a b c d).noc = s.noc ∧ (reportMend s a b c d).mem = s.mem ∧ (reportMend s a b c d).itg = s.itg ∧
    (reportMend s a b c d).upd = s.upd := by
  unfold reportMend
  simp

@[simp] theorem mendNarrow_frame (a : Nat) (b : Nat) (s : State) (c : Nat) :
    (mendNarrow a b s c).pending = s.pending ∧ (mendNarrow a b s c).now = s.now ∧ (mendNarrow a b s c).fresh = s.fresh ∧
    (mendNarrow a b s c).gen = s.gen ∧ (mendNarrow a b s c).ruling = s.ruling ∧ (mendNarrow a b s c).cap = s.cap ∧
    (mendNarrow a b s c).unit = s.unit ∧ (mendNarrow a b s c).pwr = s.pwr ∧ (mendNarrow a b s c).cfg = s.cfg ∧
    (mendNarrow a b s c).fab = s.fab ∧ (mendNarrow a b s c).clk = s.clk ∧ (mendNarrow a b s c).tim = s.tim ∧
    (mendNarrow a b s c).lan = s.lan ∧ (mendNarrow a b s c).rx = s.rx ∧ (mendNarrow a b s c).tx = s.tx ∧
    (mendNarrow a b s c).shu = s.shu ∧ (mendNarrow a b s c).noc = s.noc ∧ (mendNarrow a b s c).mem = s.mem ∧
    (mendNarrow a b s c).itg = s.itg ∧ (mendNarrow a b s c).upd = s.upd := by
  unfold mendNarrow
  split <;> simp

@[simp] theorem completeMend_frame (s : State) (a : Nat) (b : Nat) :
    (completeMend s a b).pending = s.pending ∧ (completeMend s a b).fresh = s.fresh ∧ (completeMend s a b).gen = s.gen ∧
    (completeMend s a b).cap = s.cap ∧ (completeMend s a b).unit = s.unit ∧ (completeMend s a b).pwr = s.pwr ∧
    (completeMend s a b).cfg = s.cfg ∧ (completeMend s a b).fab = s.fab ∧ (completeMend s a b).clk = s.clk ∧
    (completeMend s a b).lan = s.lan ∧ (completeMend s a b).rx = s.rx ∧ (completeMend s a b).tx = s.tx ∧
    (completeMend s a b).shu = s.shu ∧ (completeMend s a b).noc = s.noc ∧ (completeMend s a b).mem = s.mem ∧
    (completeMend s a b).itg = s.itg ∧ (completeMend s a b).upd = s.upd := by
  unfold completeMend
  simp

@[simp] theorem completeNarrow_frame (s : State) (a : Nat) (b : Nat) :
    (completeNarrow s a b).pending = s.pending ∧ (completeNarrow s a b).fresh = s.fresh ∧
    (completeNarrow s a b).gen = s.gen ∧ (completeNarrow s a b).cap = s.cap ∧ (completeNarrow s a b).unit = s.unit ∧
    (completeNarrow s a b).pwr = s.pwr ∧ (completeNarrow s a b).cfg = s.cfg ∧ (completeNarrow s a b).fab = s.fab ∧
    (completeNarrow s a b).clk = s.clk ∧ (completeNarrow s a b).lan = s.lan ∧ (completeNarrow s a b).rx = s.rx ∧
    (completeNarrow s a b).tx = s.tx ∧ (completeNarrow s a b).shu = s.shu ∧ (completeNarrow s a b).noc = s.noc ∧
    (completeNarrow s a b).mem = s.mem ∧ (completeNarrow s a b).itg = s.itg ∧ (completeNarrow s a b).upd = s.upd := by
  unfold completeNarrow
  simp only []
  repeat' split
  all_goals simp

@[simp] theorem predictWire_frame (s : State) (a : Nat) (b : Nat) (c : Nat) :
    (predictWire s a b c).pending = s.pending ∧ (predictWire s a b c).now = s.now ∧ (predictWire s a b c).fresh = s.fresh ∧
    (predictWire s a b c).gen = s.gen ∧ (predictWire s a b c).ruling = s.ruling ∧ (predictWire s a b c).cap = s.cap ∧
    (predictWire s a b c).unit = s.unit ∧ (predictWire s a b c).pwr = s.pwr ∧ (predictWire s a b c).cfg = s.cfg ∧
    (predictWire s a b c).fab = s.fab ∧ (predictWire s a b c).clk = s.clk ∧ (predictWire s a b c).tim = s.tim ∧
    (predictWire s a b c).lan = s.lan ∧ (predictWire s a b c).rx = s.rx ∧ (predictWire s a b c).tx = s.tx ∧
    (predictWire s a b c).shu = s.shu ∧ (predictWire s a b c).noc = s.noc ∧ (predictWire s a b c).mem = s.mem ∧
    (predictWire s a b c).itg = s.itg ∧ (predictWire s a b c).upd = s.upd := by
  unfold predictWire
  simp

@[simp] theorem darnTrained_frame (s : State) (a : Nat) (b : Nat) :
    (darnTrained s a b).pending = s.pending ∧ (darnTrained s a b).now = s.now ∧ (darnTrained s a b).fresh = s.fresh ∧
    (darnTrained s a b).cat = s.cat ∧ (darnTrained s a b).gen = s.gen ∧ (darnTrained s a b).cap = s.cap ∧
    (darnTrained s a b).mgmt = s.mgmt ∧ (darnTrained s a b).unit = s.unit ∧ (darnTrained s a b).pwr = s.pwr ∧
    (darnTrained s a b).cfg = s.cfg ∧ (darnTrained s a b).fab = s.fab ∧ (darnTrained s a b).clk = s.clk ∧
    (darnTrained s a b).tim = s.tim ∧ (darnTrained s a b).lan = s.lan ∧ (darnTrained s a b).rx = s.rx ∧
    (darnTrained s a b).tx = s.tx ∧ (darnTrained s a b).shu = s.shu ∧ (darnTrained s a b).noc = s.noc ∧
    (darnTrained s a b).mem = s.mem ∧ (darnTrained s a b).itg = s.itg ∧ (darnTrained s a b).upd = s.upd := by
  unfold darnTrained
  simp only []
  split <;> simp

@[simp] theorem mendPlanned_frame (s : State) (a : Nat) :
    (mendPlanned s a).pending = s.pending ∧ (mendPlanned s a).now = s.now ∧ (mendPlanned s a).fresh = s.fresh ∧
    (mendPlanned s a).gen = s.gen ∧ (mendPlanned s a).ruling = s.ruling ∧ (mendPlanned s a).cap = s.cap ∧
    (mendPlanned s a).unit = s.unit ∧ (mendPlanned s a).pwr = s.pwr ∧ (mendPlanned s a).cfg = s.cfg ∧
    (mendPlanned s a).fab = s.fab ∧ (mendPlanned s a).clk = s.clk ∧ (mendPlanned s a).tim = s.tim ∧
    (mendPlanned s a).lan = s.lan ∧ (mendPlanned s a).rx = s.rx ∧ (mendPlanned s a).tx = s.tx ∧
    (mendPlanned s a).shu = s.shu ∧ (mendPlanned s a).noc = s.noc ∧ (mendPlanned s a).mem = s.mem ∧
    (mendPlanned s a).itg = s.itg ∧ (mendPlanned s a).upd = s.upd := by
  unfold mendPlanned
  simp only []
  repeat' split
  all_goals simp

@[simp] theorem shadowEnds_frame (s : State) (a : Nat) (b : List (Nat × Nat)) :
    (shadowEnds s a b).pending = s.pending ∧ (shadowEnds s a b).fresh = s.fresh ∧ (shadowEnds s a b).gen = s.gen ∧
    (shadowEnds s a b).ruling = s.ruling ∧ (shadowEnds s a b).cap = s.cap ∧ (shadowEnds s a b).unit = s.unit ∧
    (shadowEnds s a b).pwr = s.pwr ∧ (shadowEnds s a b).cfg = s.cfg ∧ (shadowEnds s a b).fab = s.fab ∧
    (shadowEnds s a b).clk = s.clk ∧ (shadowEnds s a b).lan = s.lan ∧ (shadowEnds s a b).rx = s.rx ∧
    (shadowEnds s a b).tx = s.tx ∧ (shadowEnds s a b).shu = s.shu ∧ (shadowEnds s a b).noc = s.noc ∧
    (shadowEnds s a b).mem = s.mem ∧ (shadowEnds s a b).itg = s.itg ∧ (shadowEnds s a b).upd = s.upd := by
  unfold shadowEnds
  simp

@[simp] theorem reinstateChan_frame (s : State) (a : Nat) :
    ((reinstateChan s a).getD s).pending = s.pending ∧ ((reinstateChan s a).getD s).now = s.now ∧
    ((reinstateChan s a).getD s).fresh = s.fresh ∧ ((reinstateChan s a).getD s).gen = s.gen ∧
    ((reinstateChan s a).getD s).cap = s.cap ∧ ((reinstateChan s a).getD s).unit = s.unit ∧
    ((reinstateChan s a).getD s).pwr = s.pwr ∧ ((reinstateChan s a).getD s).cfg = s.cfg ∧
    ((reinstateChan s a).getD s).fab = s.fab ∧ ((reinstateChan s a).getD s).clk = s.clk ∧
    ((reinstateChan s a).getD s).tim = s.tim ∧ ((reinstateChan s a).getD s).lan = s.lan ∧
    ((reinstateChan s a).getD s).rx = s.rx ∧ ((reinstateChan s a).getD s).tx = s.tx ∧
    ((reinstateChan s a).getD s).shu = s.shu ∧ ((reinstateChan s a).getD s).noc = s.noc ∧
    ((reinstateChan s a).getD s).mem = s.mem ∧ ((reinstateChan s a).getD s).itg = s.itg ∧
    ((reinstateChan s a).getD s).upd = s.upd := by
  unfold reinstateChan
  repeat' split
  all_goals simp

@[simp] theorem idleChannels_frame (s : State) :
    (idleChannels s).pending = s.pending ∧ (idleChannels s).now = s.now ∧ (idleChannels s).fresh = s.fresh ∧
    (idleChannels s).gen = s.gen ∧ (idleChannels s).cap = s.cap ∧ (idleChannels s).mgmt = s.mgmt ∧
    (idleChannels s).unit = s.unit ∧ (idleChannels s).pwr = s.pwr ∧ (idleChannels s).cfg = s.cfg ∧
    (idleChannels s).fab = s.fab ∧ (idleChannels s).clk = s.clk ∧ (idleChannels s).tim = s.tim ∧
    (idleChannels s).lan = s.lan ∧ (idleChannels s).rx = s.rx ∧ (idleChannels s).tx = s.tx ∧ (idleChannels s).shu = s.shu ∧
    (idleChannels s).noc = s.noc ∧ (idleChannels s).mem = s.mem ∧ (idleChannels s).itg = s.itg ∧
    (idleChannels s).upd = s.upd := by
  unfold idleChannels
  simp

@[simp] theorem trainChannels_frame (s : State) :
    (trainChannels s).pending = s.pending ∧ (trainChannels s).now = s.now ∧ (trainChannels s).fresh = s.fresh ∧
    (trainChannels s).gen = s.gen ∧ (trainChannels s).ruling = s.ruling ∧ (trainChannels s).cap = s.cap ∧
    (trainChannels s).mgmt = s.mgmt ∧ (trainChannels s).unit = s.unit ∧ (trainChannels s).pwr = s.pwr ∧
    (trainChannels s).cfg = s.cfg ∧ (trainChannels s).seams = s.seams ∧ (trainChannels s).fab = s.fab ∧
    (trainChannels s).clk = s.clk ∧ (trainChannels s).tim = s.tim ∧ (trainChannels s).lan = s.lan ∧
    (trainChannels s).rx = s.rx ∧ (trainChannels s).tx = s.tx ∧ (trainChannels s).shu = s.shu ∧
    (trainChannels s).noc = s.noc ∧ (trainChannels s).mem = s.mem ∧ (trainChannels s).itg = s.itg ∧
    (trainChannels s).upd = s.upd := by
  unfold trainChannels
  simp

@[simp] theorem trainedChannel_frame (s : State) (a : Nat) (b : List Nat) :
    (trainedChannel s a b).pending = s.pending ∧ (trainedChannel s a b).now = s.now ∧
    (trainedChannel s a b).fresh = s.fresh ∧ (trainedChannel s a b).gen = s.gen ∧ (trainedChannel s a b).ruling = s.ruling ∧
    (trainedChannel s a b).cap = s.cap ∧ (trainedChannel s a b).unit = s.unit ∧ (trainedChannel s a b).pwr = s.pwr ∧
    (trainedChannel s a b).cfg = s.cfg ∧ (trainedChannel s a b).fab = s.fab ∧ (trainedChannel s a b).clk = s.clk ∧
    (trainedChannel s a b).tim = s.tim ∧ (trainedChannel s a b).lan = s.lan ∧ (trainedChannel s a b).rx = s.rx ∧
    (trainedChannel s a b).tx = s.tx ∧ (trainedChannel s a b).shu = s.shu ∧ (trainedChannel s a b).noc = s.noc ∧
    (trainedChannel s a b).mem = s.mem ∧ (trainedChannel s a b).itg = s.itg ∧ (trainedChannel s a b).upd = s.upd := by
  unfold trainedChannel
  simp only []
  repeat' split
  all_goals simp

@[simp] theorem holdAtStart_frame (s : State) :
    (holdAtStart s).pending = s.pending ∧ (holdAtStart s).now = s.now ∧ (holdAtStart s).fresh = s.fresh ∧
    (holdAtStart s).gen = s.gen ∧ (holdAtStart s).ruling = s.ruling ∧ (holdAtStart s).cap = s.cap ∧
    (holdAtStart s).unit = s.unit ∧ (holdAtStart s).pwr = s.pwr ∧ (holdAtStart s).cfg = s.cfg ∧
    (holdAtStart s).seams = s.seams ∧ (holdAtStart s).fab = s.fab ∧ (holdAtStart s).clk = s.clk ∧
    (holdAtStart s).tim = s.tim ∧ (holdAtStart s).lan = s.lan ∧ (holdAtStart s).rx = s.rx ∧ (holdAtStart s).tx = s.tx ∧
    (holdAtStart s).shu = s.shu ∧ (holdAtStart s).noc = s.noc ∧ (holdAtStart s).mem = s.mem ∧ (holdAtStart s).itg = s.itg ∧
    (holdAtStart s).upd = s.upd := by
  unfold holdAtStart
  simp

@[simp] theorem trainingComplete_frame (s : State) (a : List (Nat × Nat)) :
    (trainingComplete s a).pending = s.pending ∧ (trainingComplete s a).now = s.now ∧
    (trainingComplete s a).fresh = s.fresh ∧ (trainingComplete s a).gen = s.gen ∧ (trainingComplete s a).ruling = s.ruling ∧
    (trainingComplete s a).cap = s.cap ∧ (trainingComplete s a).unit = s.unit ∧ (trainingComplete s a).pwr = s.pwr ∧
    (trainingComplete s a).fab = s.fab ∧ (trainingComplete s a).clk = s.clk ∧ (trainingComplete s a).tim = s.tim ∧
    (trainingComplete s a).lan = s.lan ∧ (trainingComplete s a).rx = s.rx ∧ (trainingComplete s a).tx = s.tx ∧
    (trainingComplete s a).shu = s.shu ∧ (trainingComplete s a).noc = s.noc ∧ (trainingComplete s a).mem = s.mem ∧
    (trainingComplete s a).itg = s.itg ∧ (trainingComplete s a).upd = s.upd := by
  unfold trainingComplete
  simp

@[simp] theorem State_putBram_frame (s : State) (a : Nat) (b : Nat) (c : Nat) :
    (State.putBram s a b c).pending = s.pending ∧ (State.putBram s a b c).now = s.now ∧
    (State.putBram s a b c).fresh = s.fresh ∧ (State.putBram s a b c).cat = s.cat ∧ (State.putBram s a b c).gen = s.gen ∧
    (State.putBram s a b c).ruling = s.ruling ∧ (State.putBram s a b c).cap = s.cap ∧
    (State.putBram s a b c).mgmt = s.mgmt ∧ (State.putBram s a b c).unit = s.unit ∧ (State.putBram s a b c).pwr = s.pwr ∧
    (State.putBram s a b c).cfg = s.cfg ∧ (State.putBram s a b c).seams = s.seams ∧ (State.putBram s a b c).clk = s.clk ∧
    (State.putBram s a b c).tim = s.tim ∧ (State.putBram s a b c).lan = s.lan ∧ (State.putBram s a b c).rx = s.rx ∧
    (State.putBram s a b c).tx = s.tx ∧ (State.putBram s a b c).shu = s.shu ∧ (State.putBram s a b c).noc = s.noc ∧
    (State.putBram s a b c).mem = s.mem ∧ (State.putBram s a b c).itg = s.itg ∧ (State.putBram s a b c).upd = s.upd := by
  unfold State.putBram
  simp

@[simp] theorem countEcc_frame (s : State) (a : Nat) (b : Nat) (c : Nat) (d : Bool) (e : Bool) :
    (countEcc s a b c d e).pending = s.pending ∧ (countEcc s a b c d e).now = s.now ∧
    (countEcc s a b c d e).fresh = s.fresh ∧ (countEcc s a b c d e).gen = s.gen ∧ (countEcc s a b c d e).ruling = s.ruling ∧
    (countEcc s a b c d e).cap = s.cap ∧ (countEcc s a b c d e).unit = s.unit ∧ (countEcc s a b c d e).pwr = s.pwr ∧
    (countEcc s a b c d e).cfg = s.cfg ∧ (countEcc s a b c d e).seams = s.seams ∧ (countEcc s a b c d e).clk = s.clk ∧
    (countEcc s a b c d e).tim = s.tim ∧ (countEcc s a b c d e).lan = s.lan ∧ (countEcc s a b c d e).rx = s.rx ∧
    (countEcc s a b c d e).tx = s.tx ∧ (countEcc s a b c d e).shu = s.shu ∧ (countEcc s a b c d e).noc = s.noc ∧
    (countEcc s a b c d e).mem = s.mem ∧ (countEcc s a b c d e).itg = s.itg ∧ (countEcc s a b c d e).upd = s.upd := by
  unfold countEcc
  simp

@[simp] theorem State_setBport_frame (s : State) (a : Nat) (b : BramPort) :
    (State.setBport s a b).pending = s.pending ∧ (State.setBport s a b).now = s.now ∧
    (State.setBport s a b).fresh = s.fresh ∧ (State.setBport s a b).cat = s.cat ∧ (State.setBport s a b).gen = s.gen ∧
    (State.setBport s a b).ruling = s.ruling ∧ (State.setBport s a b).cap = s.cap ∧ (State.setBport s a b).mgmt = s.mgmt ∧
    (State.setBport s a b).unit = s.unit ∧ (State.setBport s a b).pwr = s.pwr ∧ (State.setBport s a b).cfg = s.cfg ∧
    (State.setBport s a b).seams = s.seams ∧ (State.setBport s a b).clk = s.clk ∧ (State.setBport s a b).tim = s.tim ∧
    (State.setBport s a b).lan = s.lan ∧ (State.setBport s a b).rx = s.rx ∧ (State.setBport s a b).tx = s.tx ∧
    (State.setBport s a b).shu = s.shu ∧ (State.setBport s a b).noc = s.noc ∧ (State.setBport s a b).mem = s.mem ∧
    (State.setBport s a b).itg = s.itg ∧ (State.setBport s a b).upd = s.upd := by
  unfold State.setBport
  simp

@[simp] theorem portEdge_frame (s : State) (a : Nat) (b : Nat) (c : PortDef) (d : Bool) (e : PortReq) (f : Nat) (g : Nat) :
    (portEdge s a b c d e f g).pending = s.pending ∧ (portEdge s a b c d e f g).now = s.now ∧
    (portEdge s a b c d e f g).fresh = s.fresh ∧ (portEdge s a b c d e f g).cat = s.cat ∧
    (portEdge s a b c d e f g).gen = s.gen ∧ (portEdge s a b c d e f g).ruling = s.ruling ∧
    (portEdge s a b c d e f g).cap = s.cap ∧ (portEdge s a b c d e f g).mgmt = s.mgmt ∧
    (portEdge s a b c d e f g).unit = s.unit ∧ (portEdge s a b c d e f g).pwr = s.pwr ∧
    (portEdge s a b c d e f g).cfg = s.cfg ∧ (portEdge s a b c d e f g).seams = s.seams ∧
    (portEdge s a b c d e f g).clk = s.clk ∧ (portEdge s a b c d e f g).tim = s.tim ∧
    (portEdge s a b c d e f g).lan = s.lan ∧ (portEdge s a b c d e f g).rx = s.rx ∧ (portEdge s a b c d e f g).tx = s.tx ∧
    (portEdge s a b c d e f g).shu = s.shu ∧ (portEdge s a b c d e f g).noc = s.noc ∧
    (portEdge s a b c d e f g).mem = s.mem ∧ (portEdge s a b c d e f g).itg = s.itg ∧
    (portEdge s a b c d e f g).upd = s.upd := by
  unfold portEdge
  simp

@[simp] theorem bramEdge_frame (s : State) (a : Nat) (b : BramDef) (c : Option PortReq) (d : Option PortReq) :
    (bramEdge s a b c d).pending = s.pending ∧ (bramEdge s a b c d).now = s.now ∧ (bramEdge s a b c d).cat = s.cat ∧
    (bramEdge s a b c d).gen = s.gen ∧ (bramEdge s a b c d).ruling = s.ruling ∧ (bramEdge s a b c d).cap = s.cap ∧
    (bramEdge s a b c d).mgmt = s.mgmt ∧ (bramEdge s a b c d).unit = s.unit ∧ (bramEdge s a b c d).pwr = s.pwr ∧
    (bramEdge s a b c d).cfg = s.cfg ∧ (bramEdge s a b c d).seams = s.seams ∧ (bramEdge s a b c d).clk = s.clk ∧
    (bramEdge s a b c d).tim = s.tim ∧ (bramEdge s a b c d).lan = s.lan ∧ (bramEdge s a b c d).rx = s.rx ∧
    (bramEdge s a b c d).tx = s.tx ∧ (bramEdge s a b c d).shu = s.shu ∧ (bramEdge s a b c d).noc = s.noc ∧
    (bramEdge s a b c d).mem = s.mem ∧ (bramEdge s a b c d).itg = s.itg ∧ (bramEdge s a b c d).upd = s.upd := by
  unfold bramEdge
  split <;> simp

@[simp] theorem bramRead_frame (s : State) (a : Nat) (b : Nat) (c : Nat) (d : Bool) (e : Nat) :
    (bramRead s a b c d e).pending = s.pending ∧ (bramRead s a b c d e).now = s.now ∧
    (bramRead s a b c d e).fresh = s.fresh ∧ (bramRead s a b c d e).gen = s.gen ∧ (bramRead s a b c d e).ruling = s.ruling ∧
    (bramRead s a b c d e).cap = s.cap ∧ (bramRead s a b c d e).unit = s.unit ∧ (bramRead s a b c d e).pwr = s.pwr ∧
    (bramRead s a b c d e).cfg = s.cfg ∧ (bramRead s a b c d e).seams = s.seams ∧ (bramRead s a b c d e).clk = s.clk ∧
    (bramRead s a b c d e).tim = s.tim ∧ (bramRead s a b c d e).lan = s.lan ∧ (bramRead s a b c d e).rx = s.rx ∧
    (bramRead s a b c d e).tx = s.tx ∧ (bramRead s a b c d e).shu = s.shu ∧ (bramRead s a b c d e).noc = s.noc ∧
    (bramRead s a b c d e).mem = s.mem ∧ (bramRead s a b c d e).itg = s.itg ∧ (bramRead s a b c d e).upd = s.upd := by
  unfold bramRead
  simp only []
  repeat' split
  all_goals simp

@[simp] theorem onQueue_frame (s : State) (a : Nat) (b : Queue → Queue) :
    (onQueue s a b).pending = s.pending ∧ (onQueue s a b).now = s.now ∧ (onQueue s a b).fresh = s.fresh ∧
    (onQueue s a b).cat = s.cat ∧ (onQueue s a b).gen = s.gen ∧ (onQueue s a b).ruling = s.ruling ∧
    (onQueue s a b).cap = s.cap ∧ (onQueue s a b).mgmt = s.mgmt ∧ (onQueue s a b).unit = s.unit ∧
    (onQueue s a b).pwr = s.pwr ∧ (onQueue s a b).cfg = s.cfg ∧ (onQueue s a b).seams = s.seams ∧
    (onQueue s a b).clk = s.clk ∧ (onQueue s a b).tim = s.tim ∧ (onQueue s a b).lan = s.lan ∧ (onQueue s a b).rx = s.rx ∧
    (onQueue s a b).tx = s.tx ∧ (onQueue s a b).shu = s.shu ∧ (onQueue s a b).noc = s.noc ∧ (onQueue s a b).mem = s.mem ∧
    (onQueue s a b).itg = s.itg ∧ (onQueue s a b).upd = s.upd := by
  unfold onQueue
  split <;> simp

@[simp] theorem queueRead_frame (s : State) (a : Nat) (b : Nat) :
    (queueRead s a b).pending = s.pending ∧ (queueRead s a b).now = s.now ∧ (queueRead s a b).fresh = s.fresh ∧
    (queueRead s a b).gen = s.gen ∧ (queueRead s a b).ruling = s.ruling ∧ (queueRead s a b).cap = s.cap ∧
    (queueRead s a b).unit = s.unit ∧ (queueRead s a b).pwr = s.pwr ∧ (queueRead s a b).cfg = s.cfg ∧
    (queueRead s a b).seams = s.seams ∧ (queueRead s a b).clk = s.clk ∧ (queueRead s a b).tim = s.tim ∧
    (queueRead s a b).lan = s.lan ∧ (queueRead s a b).rx = s.rx ∧ (queueRead s a b).tx = s.tx ∧
    (queueRead s a b).shu = s.shu ∧ (queueRead s a b).noc = s.noc ∧ (queueRead s a b).mem = s.mem ∧
    (queueRead s a b).itg = s.itg ∧ (queueRead s a b).upd = s.upd := by
  unfold queueRead
  split <;> simp

@[simp] theorem onDriver_frame (s : State) (a : Nat) (b : Mux → Mux) :
    (onDriver s a b).pending = s.pending ∧ (onDriver s a b).now = s.now ∧ (onDriver s a b).fresh = s.fresh ∧
    (onDriver s a b).cat = s.cat ∧ (onDriver s a b).gen = s.gen ∧ (onDriver s a b).ruling = s.ruling ∧
    (onDriver s a b).cap = s.cap ∧ (onDriver s a b).mgmt = s.mgmt ∧ (onDriver s a b).unit = s.unit ∧
    (onDriver s a b).pwr = s.pwr ∧ (onDriver s a b).cfg = s.cfg ∧ (onDriver s a b).seams = s.seams ∧
    (onDriver s a b).clk = s.clk ∧ (onDriver s a b).tim = s.tim ∧ (onDriver s a b).lan = s.lan ∧
    (onDriver s a b).rx = s.rx ∧ (onDriver s a b).tx = s.tx ∧ (onDriver s a b).shu = s.shu ∧ (onDriver s a b).noc = s.noc ∧
    (onDriver s a b).mem = s.mem ∧ (onDriver s a b).itg = s.itg ∧ (onDriver s a b).upd = s.upd := by
  unfold onDriver
  simp

@[simp] theorem switchMux_frame (s : State) (a : Nat) (b : Bool) (c : Bool) (d : Bool) :
    (switchMux s a b c d).pending = s.pending ∧ (switchMux s a b c d).now = s.now ∧ (switchMux s a b c d).fresh = s.fresh ∧
    (switchMux s a b c d).cat = s.cat ∧ (switchMux s a b c d).gen = s.gen ∧ (switchMux s a b c d).ruling = s.ruling ∧
    (switchMux s a b c d).cap = s.cap ∧ (switchMux s a b c d).mgmt = s.mgmt ∧ (switchMux s a b c d).unit = s.unit ∧
    (switchMux s a b c d).pwr = s.pwr ∧ (switchMux s a b c d).cfg = s.cfg ∧ (switchMux s a b c d).seams = s.seams ∧
    (switchMux s a b c d).clk = s.clk ∧ (switchMux s a b c d).tim = s.tim ∧ (switchMux s a b c d).lan = s.lan ∧
    (switchMux s a b c d).rx = s.rx ∧ (switchMux s a b c d).tx = s.tx ∧ (switchMux s a b c d).shu = s.shu ∧
    (switchMux s a b c d).noc = s.noc ∧ (switchMux s a b c d).mem = s.mem ∧ (switchMux s a b c d).itg = s.itg ∧
    (switchMux s a b c d).upd = s.upd := by
  unfold switchMux
  simp

@[simp] theorem muxTimeout_frame (s : State) (a : Nat) (b : Bool) :
    (muxTimeout s a b).pending = s.pending ∧ (muxTimeout s a b).fresh = s.fresh ∧ (muxTimeout s a b).gen = s.gen ∧
    (muxTimeout s a b).ruling = s.ruling ∧ (muxTimeout s a b).cap = s.cap ∧ (muxTimeout s a b).unit = s.unit ∧
    (muxTimeout s a b).pwr = s.pwr ∧ (muxTimeout s a b).cfg = s.cfg ∧ (muxTimeout s a b).seams = s.seams ∧
    (muxTimeout s a b).clk = s.clk ∧ (muxTimeout s a b).lan = s.lan ∧ (muxTimeout s a b).rx = s.rx ∧
    (muxTimeout s a b).tx = s.tx ∧ (muxTimeout s a b).shu = s.shu ∧ (muxTimeout s a b).noc = s.noc ∧
    (muxTimeout s a b).mem = s.mem ∧ (muxTimeout s a b).itg = s.itg ∧ (muxTimeout s a b).upd = s.upd := by
  unfold muxTimeout
  simp

@[simp] theorem lowerCe_frame (s : State) (a : Nat) :
    (lowerCe s a).pending = s.pending ∧ (lowerCe s a).now = s.now ∧ (lowerCe s a).fresh = s.fresh ∧
    (lowerCe s a).cat = s.cat ∧ (lowerCe s a).gen = s.gen ∧ (lowerCe s a).ruling = s.ruling ∧ (lowerCe s a).cap = s.cap ∧
    (lowerCe s a).mgmt = s.mgmt ∧ (lowerCe s a).unit = s.unit ∧ (lowerCe s a).pwr = s.pwr ∧ (lowerCe s a).cfg = s.cfg ∧
    (lowerCe s a).seams = s.seams ∧ (lowerCe s a).clk = s.clk ∧ (lowerCe s a).tim = s.tim ∧ (lowerCe s a).lan = s.lan ∧
    (lowerCe s a).rx = s.rx ∧ (lowerCe s a).tx = s.tx ∧ (lowerCe s a).shu = s.shu ∧ (lowerCe s a).noc = s.noc ∧
    (lowerCe s a).mem = s.mem ∧ (lowerCe s a).itg = s.itg ∧ (lowerCe s a).upd = s.upd := by
  unfold lowerCe
  simp

@[simp] theorem raiseCe_frame (s : State) (a : Nat) :
    (raiseCe s a).pending = s.pending ∧ (raiseCe s a).now = s.now ∧ (raiseCe s a).fresh = s.fresh ∧
    (raiseCe s a).cat = s.cat ∧ (raiseCe s a).gen = s.gen ∧ (raiseCe s a).ruling = s.ruling ∧ (raiseCe s a).cap = s.cap ∧
    (raiseCe s a).mgmt = s.mgmt ∧ (raiseCe s a).unit = s.unit ∧ (raiseCe s a).pwr = s.pwr ∧ (raiseCe s a).cfg = s.cfg ∧
    (raiseCe s a).seams = s.seams ∧ (raiseCe s a).clk = s.clk ∧ (raiseCe s a).tim = s.tim ∧ (raiseCe s a).lan = s.lan ∧
    (raiseCe s a).rx = s.rx ∧ (raiseCe s a).tx = s.tx ∧ (raiseCe s a).shu = s.shu ∧ (raiseCe s a).noc = s.noc ∧
    (raiseCe s a).mem = s.mem ∧ (raiseCe s a).itg = s.itg ∧ (raiseCe s a).upd = s.upd := by
  unfold raiseCe
  simp

@[simp] theorem driverIdle_frame (s : State) (a : Nat) :
    (driverIdle s a).pending = s.pending ∧ (driverIdle s a).now = s.now ∧ (driverIdle s a).fresh = s.fresh ∧
    (driverIdle s a).cat = s.cat ∧ (driverIdle s a).gen = s.gen ∧ (driverIdle s a).ruling = s.ruling ∧
    (driverIdle s a).cap = s.cap ∧ (driverIdle s a).mgmt = s.mgmt ∧ (driverIdle s a).unit = s.unit ∧
    (driverIdle s a).pwr = s.pwr ∧ (driverIdle s a).cfg = s.cfg ∧ (driverIdle s a).seams = s.seams ∧
    (driverIdle s a).clk = s.clk ∧ (driverIdle s a).tim = s.tim ∧ (driverIdle s a).lan = s.lan ∧
    (driverIdle s a).rx = s.rx ∧ (driverIdle s a).tx = s.tx ∧ (driverIdle s a).shu = s.shu ∧ (driverIdle s a).noc = s.noc ∧
    (driverIdle s a).mem = s.mem ∧ (driverIdle s a).itg = s.itg ∧ (driverIdle s a).upd = s.upd := by
  unfold driverIdle
  simp

@[simp] theorem unitIdle_frame (s : State) (a : Nat) :
    (unitIdle s a).pending = s.pending ∧ (unitIdle s a).now = s.now ∧ (unitIdle s a).fresh = s.fresh ∧
    (unitIdle s a).gen = s.gen ∧ (unitIdle s a).ruling = s.ruling ∧ (unitIdle s a).cap = s.cap ∧
    (unitIdle s a).mgmt = s.mgmt ∧ (unitIdle s a).unit = s.unit ∧ (unitIdle s a).pwr = s.pwr ∧ (unitIdle s a).cfg = s.cfg ∧
    (unitIdle s a).seams = s.seams ∧ (unitIdle s a).fab = s.fab ∧ (unitIdle s a).clk = s.clk ∧ (unitIdle s a).tim = s.tim ∧
    (unitIdle s a).lan = s.lan ∧ (unitIdle s a).rx = s.rx ∧ (unitIdle s a).tx = s.tx ∧ (unitIdle s a).shu = s.shu ∧
    (unitIdle s a).noc = s.noc ∧ (unitIdle s a).mem = s.mem ∧ (unitIdle s a).itg = s.itg ∧ (unitIdle s a).upd = s.upd := by
  unfold unitIdle
  simp

@[simp] theorem driverTimeout_frame (s : State) (a : Nat) :
    (driverTimeout s a).pending = s.pending ∧ (driverTimeout s a).fresh = s.fresh ∧ (driverTimeout s a).gen = s.gen ∧
    (driverTimeout s a).ruling = s.ruling ∧ (driverTimeout s a).cap = s.cap ∧ (driverTimeout s a).unit = s.unit ∧
    (driverTimeout s a).pwr = s.pwr ∧ (driverTimeout s a).cfg = s.cfg ∧ (driverTimeout s a).seams = s.seams ∧
    (driverTimeout s a).clk = s.clk ∧ (driverTimeout s a).lan = s.lan ∧ (driverTimeout s a).rx = s.rx ∧
    (driverTimeout s a).tx = s.tx ∧ (driverTimeout s a).shu = s.shu ∧ (driverTimeout s a).noc = s.noc ∧
    (driverTimeout s a).mem = s.mem ∧ (driverTimeout s a).itg = s.itg ∧ (driverTimeout s a).upd = s.upd := by
  unfold driverTimeout
  split <;> simp

@[simp] theorem bankChange_frame (s : State) (a : Nat) (b : Nat) (c : Bool) :
    (bankChange s a b c).pending = s.pending ∧ (bankChange s a b c).now = s.now ∧ (bankChange s a b c).fresh = s.fresh ∧
    (bankChange s a b c).gen = s.gen ∧ (bankChange s a b c).ruling = s.ruling ∧ (bankChange s a b c).cap = s.cap ∧
    (bankChange s a b c).unit = s.unit ∧ (bankChange s a b c).pwr = s.pwr ∧ (bankChange s a b c).cfg = s.cfg ∧
    (bankChange s a b c).seams = s.seams ∧ (bankChange s a b c).fab = s.fab ∧ (bankChange s a b c).clk = s.clk ∧
    (bankChange s a b c).tim = s.tim ∧ (bankChange s a b c).lan = s.lan ∧ (bankChange s a b c).rx = s.rx ∧
    (bankChange s a b c).tx = s.tx ∧ (bankChange s a b c).shu = s.shu ∧ (bankChange s a b c).noc = s.noc ∧
    (bankChange s a b c).mem = s.mem ∧ (bankChange s a b c).itg = s.itg ∧ (bankChange s a b c).upd = s.upd := by
  unfold bankChange
  simp

@[simp] theorem State_setPin_frame (s : State) (a : Nat) (b : Gpi → Gpi) :
    (State.setPin s a b).pending = s.pending ∧ (State.setPin s a b).now = s.now ∧ (State.setPin s a b).fresh = s.fresh ∧
    (State.setPin s a b).cat = s.cat ∧ (State.setPin s a b).gen = s.gen ∧ (State.setPin s a b).ruling = s.ruling ∧
    (State.setPin s a b).cap = s.cap ∧ (State.setPin s a b).mgmt = s.mgmt ∧ (State.setPin s a b).unit = s.unit ∧
    (State.setPin s a b).pwr = s.pwr ∧ (State.setPin s a b).cfg = s.cfg ∧ (State.setPin s a b).seams = s.seams ∧
    (State.setPin s a b).clk = s.clk ∧ (State.setPin s a b).tim = s.tim ∧ (State.setPin s a b).lan = s.lan ∧
    (State.setPin s a b).rx = s.rx ∧ (State.setPin s a b).tx = s.tx ∧ (State.setPin s a b).shu = s.shu ∧
    (State.setPin s a b).noc = s.noc ∧ (State.setPin s a b).mem = s.mem ∧ (State.setPin s a b).itg = s.itg ∧
    (State.setPin s a b).upd = s.upd := by
  unfold State.setPin
  simp

@[simp] theorem latchStatus_frame (s : State) :
    (latchStatus s).pending = s.pending ∧ (latchStatus s).now = s.now ∧ (latchStatus s).cat = s.cat ∧
    (latchStatus s).gen = s.gen ∧ (latchStatus s).ruling = s.ruling ∧ (latchStatus s).cap = s.cap ∧
    (latchStatus s).mgmt = s.mgmt ∧ (latchStatus s).unit = s.unit ∧ (latchStatus s).pwr = s.pwr ∧
    (latchStatus s).cfg = s.cfg ∧ (latchStatus s).seams = s.seams ∧ (latchStatus s).clk = s.clk ∧
    (latchStatus s).tim = s.tim ∧ (latchStatus s).lan = s.lan ∧ (latchStatus s).rx = s.rx ∧ (latchStatus s).tx = s.tx ∧
    (latchStatus s).shu = s.shu ∧ (latchStatus s).noc = s.noc ∧ (latchStatus s).mem = s.mem ∧ (latchStatus s).itg = s.itg ∧
    (latchStatus s).upd = s.upd := by
  unfold latchStatus
  simp

@[simp] theorem samplePin_frame (s : State) (a : Nat) (b : Bool) :
    (samplePin s a b).pending = s.pending ∧ (samplePin s a b).now = s.now ∧ (samplePin s a b).fresh = s.fresh ∧
    (samplePin s a b).gen = s.gen ∧ (samplePin s a b).ruling = s.ruling ∧ (samplePin s a b).cap = s.cap ∧
    (samplePin s a b).mgmt = s.mgmt ∧ (samplePin s a b).unit = s.unit ∧ (samplePin s a b).pwr = s.pwr ∧
    (samplePin s a b).cfg = s.cfg ∧ (samplePin s a b).seams = s.seams ∧ (samplePin s a b).clk = s.clk ∧
    (samplePin s a b).tim = s.tim ∧ (samplePin s a b).lan = s.lan ∧ (samplePin s a b).rx = s.rx ∧
    (samplePin s a b).tx = s.tx ∧ (samplePin s a b).shu = s.shu ∧ (samplePin s a b).noc = s.noc ∧
    (samplePin s a b).mem = s.mem ∧ (samplePin s a b).itg = s.itg ∧ (samplePin s a b).upd = s.upd := by
  unfold samplePin
  simp

@[simp] theorem settlePin_frame (s : State) (a : Nat) :
    (settlePin s a).pending = s.pending ∧ (settlePin s a).now = s.now ∧ (settlePin s a).fresh = s.fresh ∧
    (settlePin s a).gen = s.gen ∧ (settlePin s a).ruling = s.ruling ∧ (settlePin s a).cap = s.cap ∧
    (settlePin s a).unit = s.unit ∧ (settlePin s a).pwr = s.pwr ∧ (settlePin s a).cfg = s.cfg ∧
    (settlePin s a).seams = s.seams ∧ (settlePin s a).clk = s.clk ∧ (settlePin s a).tim = s.tim ∧
    (settlePin s a).lan = s.lan ∧ (settlePin s a).rx = s.rx ∧ (settlePin s a).tx = s.tx ∧ (settlePin s a).shu = s.shu ∧
    (settlePin s a).noc = s.noc ∧ (settlePin s a).mem = s.mem ∧ (settlePin s a).itg = s.itg ∧ (settlePin s a).upd = s.upd := by
  unfold settlePin
  split <;> simp

@[simp] theorem closePins_frame (s : State) :
    (closePins s).pending = s.pending ∧ (closePins s).now = s.now ∧ (closePins s).fresh = s.fresh ∧
    (closePins s).gen = s.gen ∧ (closePins s).ruling = s.ruling ∧ (closePins s).cap = s.cap ∧ (closePins s).unit = s.unit ∧
    (closePins s).pwr = s.pwr ∧ (closePins s).cfg = s.cfg ∧ (closePins s).seams = s.seams ∧ (closePins s).clk = s.clk ∧
    (closePins s).tim = s.tim ∧ (closePins s).lan = s.lan ∧ (closePins s).rx = s.rx ∧ (closePins s).tx = s.tx ∧
    (closePins s).shu = s.shu ∧ (closePins s).noc = s.noc ∧ (closePins s).mem = s.mem ∧ (closePins s).itg = s.itg ∧
    (closePins s).upd = s.upd := by
  unfold closePins
  simp

@[simp] theorem clearFabric_frame (s : State) :
    (clearFabric s).pending = s.pending ∧ (clearFabric s).now = s.now ∧ (clearFabric s).fresh = s.fresh ∧
    (clearFabric s).gen = s.gen ∧ (clearFabric s).ruling = s.ruling ∧ (clearFabric s).cap = s.cap ∧
    (clearFabric s).mgmt = s.mgmt ∧ (clearFabric s).unit = s.unit ∧ (clearFabric s).pwr = s.pwr ∧
    (clearFabric s).cfg = s.cfg ∧ (clearFabric s).seams = s.seams ∧ (clearFabric s).clk = s.clk ∧
    (clearFabric s).tim = s.tim ∧ (clearFabric s).lan = s.lan ∧ (clearFabric s).rx = s.rx ∧ (clearFabric s).tx = s.tx ∧
    (clearFabric s).shu = s.shu ∧ (clearFabric s).noc = s.noc ∧ (clearFabric s).mem = s.mem ∧ (clearFabric s).itg = s.itg ∧
    (clearFabric s).upd = s.upd := by
  unfold clearFabric
  simp

@[simp] theorem loadPanel_frame (s : State) (a : PanelDef) (b : Compiled) :
    (loadPanel s a b).pending = s.pending ∧ (loadPanel s a b).now = s.now ∧ (loadPanel s a b).fresh = s.fresh ∧
    (loadPanel s a b).cat = s.cat ∧ (loadPanel s a b).gen = s.gen ∧ (loadPanel s a b).ruling = s.ruling ∧
    (loadPanel s a b).cap = s.cap ∧ (loadPanel s a b).mgmt = s.mgmt ∧ (loadPanel s a b).unit = s.unit ∧
    (loadPanel s a b).pwr = s.pwr ∧ (loadPanel s a b).seams = s.seams ∧ (loadPanel s a b).clk = s.clk ∧
    (loadPanel s a b).tim = s.tim ∧ (loadPanel s a b).lan = s.lan ∧ (loadPanel s a b).rx = s.rx ∧
    (loadPanel s a b).tx = s.tx ∧ (loadPanel s a b).shu = s.shu ∧ (loadPanel s a b).noc = s.noc ∧
    (loadPanel s a b).mem = s.mem ∧ (loadPanel s a b).itg = s.itg ∧ (loadPanel s a b).upd = s.upd := by
  unfold loadPanel
  simp

@[simp] theorem startClocks_frame (s : State) :
    (startClocks s).pending = s.pending ∧ (startClocks s).now = s.now ∧ (startClocks s).fresh = s.fresh ∧
    (startClocks s).cat = s.cat ∧ (startClocks s).gen = s.gen ∧ (startClocks s).ruling = s.ruling ∧
    (startClocks s).cap = s.cap ∧ (startClocks s).mgmt = s.mgmt ∧ (startClocks s).unit = s.unit ∧
    (startClocks s).pwr = s.pwr ∧ (startClocks s).cfg = s.cfg ∧ (startClocks s).seams = s.seams ∧
    (startClocks s).clk = s.clk ∧ (startClocks s).tim = s.tim ∧ (startClocks s).lan = s.lan ∧ (startClocks s).rx = s.rx ∧
    (startClocks s).tx = s.tx ∧ (startClocks s).shu = s.shu ∧ (startClocks s).noc = s.noc ∧ (startClocks s).mem = s.mem ∧
    (startClocks s).itg = s.itg ∧ (startClocks s).upd = s.upd := by
  unfold startClocks
  simp

@[simp] theorem startPins_frame (s : State) :
    (startPins s).pending = s.pending ∧ (startPins s).now = s.now ∧ (startPins s).fresh = s.fresh ∧
    (startPins s).gen = s.gen ∧ (startPins s).ruling = s.ruling ∧ (startPins s).cap = s.cap ∧ (startPins s).mgmt = s.mgmt ∧
    (startPins s).unit = s.unit ∧ (startPins s).pwr = s.pwr ∧ (startPins s).cfg = s.cfg ∧ (startPins s).seams = s.seams ∧
    (startPins s).clk = s.clk ∧ (startPins s).tim = s.tim ∧ (startPins s).lan = s.lan ∧ (startPins s).rx = s.rx ∧
    (startPins s).tx = s.tx ∧ (startPins s).shu = s.shu ∧ (startPins s).noc = s.noc ∧ (startPins s).mem = s.mem ∧
    (startPins s).itg = s.itg ∧ (startPins s).upd = s.upd := by
  unfold startPins
  simp

@[simp] theorem State_store_frame (s : State) (a : Nat) (b : List Byte) :
    (State.store s a b).pending = s.pending ∧ (State.store s a b).now = s.now ∧ (State.store s a b).fresh = s.fresh ∧
    (State.store s a b).cat = s.cat ∧ (State.store s a b).gen = s.gen ∧ (State.store s a b).ruling = s.ruling ∧
    (State.store s a b).cap = s.cap ∧ (State.store s a b).mgmt = s.mgmt ∧ (State.store s a b).unit = s.unit ∧
    (State.store s a b).pwr = s.pwr ∧ (State.store s a b).cfg = s.cfg ∧ (State.store s a b).seams = s.seams ∧
    (State.store s a b).fab = s.fab ∧ (State.store s a b).clk = s.clk ∧ (State.store s a b).tim = s.tim ∧
    (State.store s a b).lan = s.lan ∧ (State.store s a b).rx = s.rx ∧ (State.store s a b).tx = s.tx ∧
    (State.store s a b).shu = s.shu ∧ (State.store s a b).noc = s.noc ∧ (State.store s a b).itg = s.itg ∧
    (State.store s a b).upd = s.upd := by
  unfold State.store
  simp

@[simp] theorem State_forget_frame (s : State) (a : Nat → Bool) :
    (State.forget s a).pending = s.pending ∧ (State.forget s a).now = s.now ∧ (State.forget s a).fresh = s.fresh ∧
    (State.forget s a).cat = s.cat ∧ (State.forget s a).gen = s.gen ∧ (State.forget s a).ruling = s.ruling ∧
    (State.forget s a).cap = s.cap ∧ (State.forget s a).mgmt = s.mgmt ∧ (State.forget s a).unit = s.unit ∧
    (State.forget s a).pwr = s.pwr ∧ (State.forget s a).cfg = s.cfg ∧ (State.forget s a).seams = s.seams ∧
    (State.forget s a).fab = s.fab ∧ (State.forget s a).clk = s.clk ∧ (State.forget s a).tim = s.tim ∧
    (State.forget s a).lan = s.lan ∧ (State.forget s a).rx = s.rx ∧ (State.forget s a).tx = s.tx ∧
    (State.forget s a).shu = s.shu ∧ (State.forget s a).noc = s.noc ∧ (State.forget s a).itg = s.itg ∧
    (State.forget s a).upd = s.upd := by
  unfold State.forget
  simp

@[simp] theorem putNi_frame (s : State) (a : Nat) (b : Nat) :
    (putNi s a b).pending = s.pending ∧ (putNi s a b).now = s.now ∧ (putNi s a b).fresh = s.fresh ∧
    (putNi s a b).gen = s.gen ∧ (putNi s a b).ruling = s.ruling ∧ (putNi s a b).cap = s.cap ∧ (putNi s a b).unit = s.unit ∧
    (putNi s a b).pwr = s.pwr ∧ (putNi s a b).cfg = s.cfg ∧ (putNi s a b).seams = s.seams ∧ (putNi s a b).fab = s.fab ∧
    (putNi s a b).clk = s.clk ∧ (putNi s a b).tim = s.tim ∧ (putNi s a b).lan = s.lan ∧ (putNi s a b).rx = s.rx ∧
    (putNi s a b).tx = s.tx ∧ (putNi s a b).shu = s.shu ∧ (putNi s a b).noc = s.noc ∧ (putNi s a b).mem = s.mem ∧
    (putNi s a b).itg = s.itg ∧ (putNi s a b).upd = s.upd := by
  unfold putNi
  simp

@[simp] theorem drainNi_frame (s : State) (a : Nat) :
    (drainNi s a).pending = s.pending ∧ (drainNi s a).now = s.now ∧ (drainNi s a).fresh = s.fresh ∧
    (drainNi s a).gen = s.gen ∧ (drainNi s a).ruling = s.ruling ∧ (drainNi s a).cap = s.cap ∧ (drainNi s a).unit = s.unit ∧
    (drainNi s a).pwr = s.pwr ∧ (drainNi s a).cfg = s.cfg ∧ (drainNi s a).seams = s.seams ∧ (drainNi s a).fab = s.fab ∧
    (drainNi s a).clk = s.clk ∧ (drainNi s a).tim = s.tim ∧ (drainNi s a).lan = s.lan ∧ (drainNi s a).rx = s.rx ∧
    (drainNi s a).tx = s.tx ∧ (drainNi s a).shu = s.shu ∧ (drainNi s a).noc = s.noc ∧ (drainNi s a).mem = s.mem ∧
    (drainNi s a).itg = s.itg ∧ (drainNi s a).upd = s.upd := by
  unfold drainNi
  simp

@[simp] theorem inject_frame (s : State) (a : NocPkt) :
    (inject s a).pending = s.pending ∧ (inject s a).now = s.now ∧ (inject s a).fresh = s.fresh ∧ (inject s a).cat = s.cat ∧
    (inject s a).gen = s.gen ∧ (inject s a).ruling = s.ruling ∧ (inject s a).cap = s.cap ∧ (inject s a).mgmt = s.mgmt ∧
    (inject s a).unit = s.unit ∧ (inject s a).pwr = s.pwr ∧ (inject s a).cfg = s.cfg ∧ (inject s a).seams = s.seams ∧
    (inject s a).fab = s.fab ∧ (inject s a).clk = s.clk ∧ (inject s a).tim = s.tim ∧ (inject s a).lan = s.lan ∧
    (inject s a).rx = s.rx ∧ (inject s a).tx = s.tx ∧ (inject s a).shu = s.shu ∧ (inject s a).mem = s.mem ∧
    (inject s a).itg = s.itg ∧ (inject s a).upd = s.upd := by
  unfold inject
  simp

@[simp] theorem answerReq_frame (s : State) (a : NocPkt) (b : Nat) (c : Nat) (d : List Byte) :
    (answerReq s a b c d).pending = s.pending ∧ (answerReq s a b c d).now = s.now ∧ (answerReq s a b c d).fresh = s.fresh ∧
    (answerReq s a b c d).cat = s.cat ∧ (answerReq s a b c d).gen = s.gen ∧ (answerReq s a b c d).ruling = s.ruling ∧
    (answerReq s a b c d).cap = s.cap ∧ (answerReq s a b c d).mgmt = s.mgmt ∧ (answerReq s a b c d).unit = s.unit ∧
    (answerReq s a b c d).pwr = s.pwr ∧ (answerReq s a b c d).cfg = s.cfg ∧ (answerReq s a b c d).seams = s.seams ∧
    (answerReq s a b c d).fab = s.fab ∧ (answerReq s a b c d).clk = s.clk ∧ (answerReq s a b c d).tim = s.tim ∧
    (answerReq s a b c d).lan = s.lan ∧ (answerReq s a b c d).rx = s.rx ∧ (answerReq s a b c d).tx = s.tx ∧
    (answerReq s a b c d).shu = s.shu ∧ (answerReq s a b c d).mem = s.mem ∧ (answerReq s a b c d).itg = s.itg ∧
    (answerReq s a b c d).upd = s.upd := by
  unfold answerReq
  simp

@[simp] theorem refuseReq_frame (s : State) (a : NocPkt) :
    (refuseReq s a).pending = s.pending ∧ (refuseReq s a).now = s.now ∧ (refuseReq s a).fresh = s.fresh ∧
    (refuseReq s a).gen = s.gen ∧ (refuseReq s a).ruling = s.ruling ∧ (refuseReq s a).cap = s.cap ∧
    (refuseReq s a).mgmt = s.mgmt ∧ (refuseReq s a).unit = s.unit ∧ (refuseReq s a).pwr = s.pwr ∧
    (refuseReq s a).cfg = s.cfg ∧ (refuseReq s a).seams = s.seams ∧ (refuseReq s a).fab = s.fab ∧
    (refuseReq s a).clk = s.clk ∧ (refuseReq s a).tim = s.tim ∧ (refuseReq s a).lan = s.lan ∧ (refuseReq s a).rx = s.rx ∧
    (refuseReq s a).tx = s.tx ∧ (refuseReq s a).shu = s.shu ∧ (refuseReq s a).mem = s.mem ∧ (refuseReq s a).itg = s.itg ∧
    (refuseReq s a).upd = s.upd := by
  unfold refuseReq
  simp

@[simp] theorem State_setOp_frame (s : State) (a : Nat) (b : LongOp → LongOp) :
    (State.setOp s a b).pending = s.pending ∧ (State.setOp s a b).now = s.now ∧ (State.setOp s a b).fresh = s.fresh ∧
    (State.setOp s a b).cat = s.cat ∧ (State.setOp s a b).gen = s.gen ∧ (State.setOp s a b).ruling = s.ruling ∧
    (State.setOp s a b).cap = s.cap ∧ (State.setOp s a b).unit = s.unit ∧ (State.setOp s a b).pwr = s.pwr ∧
    (State.setOp s a b).cfg = s.cfg ∧ (State.setOp s a b).seams = s.seams ∧ (State.setOp s a b).fab = s.fab ∧
    (State.setOp s a b).clk = s.clk ∧ (State.setOp s a b).tim = s.tim ∧ (State.setOp s a b).lan = s.lan ∧
    (State.setOp s a b).rx = s.rx ∧ (State.setOp s a b).tx = s.tx ∧ (State.setOp s a b).shu = s.shu ∧
    (State.setOp s a b).noc = s.noc ∧ (State.setOp s a b).mem = s.mem ∧ (State.setOp s a b).itg = s.itg ∧
    (State.setOp s a b).upd = s.upd := by
  unfold State.setOp
  simp

@[simp] theorem putOp_frame (s : State) (a : Nat) (b : Nat) :
    (putOp s a b).pending = s.pending ∧ (putOp s a b).now = s.now ∧ (putOp s a b).fresh = s.fresh ∧
    (putOp s a b).gen = s.gen ∧ (putOp s a b).ruling = s.ruling ∧ (putOp s a b).cap = s.cap ∧ (putOp s a b).unit = s.unit ∧
    (putOp s a b).pwr = s.pwr ∧ (putOp s a b).cfg = s.cfg ∧ (putOp s a b).seams = s.seams ∧ (putOp s a b).fab = s.fab ∧
    (putOp s a b).clk = s.clk ∧ (putOp s a b).tim = s.tim ∧ (putOp s a b).lan = s.lan ∧ (putOp s a b).rx = s.rx ∧
    (putOp s a b).tx = s.tx ∧ (putOp s a b).shu = s.shu ∧ (putOp s a b).noc = s.noc ∧ (putOp s a b).mem = s.mem ∧
    (putOp s a b).itg = s.itg ∧ (putOp s a b).upd = s.upd := by
  unfold putOp
  simp

@[simp] theorem failOp_frame (s : State) (a : Nat) (b : Nat) (c : Nat) :
    (failOp s a b c).pending = s.pending ∧ (failOp s a b c).now = s.now ∧ (failOp s a b c).fresh = s.fresh ∧
    (failOp s a b c).gen = s.gen ∧ (failOp s a b c).ruling = s.ruling ∧ (failOp s a b c).cap = s.cap ∧
    (failOp s a b c).unit = s.unit ∧ (failOp s a b c).pwr = s.pwr ∧ (failOp s a b c).cfg = s.cfg ∧
    (failOp s a b c).seams = s.seams ∧ (failOp s a b c).fab = s.fab ∧ (failOp s a b c).clk = s.clk ∧
    (failOp s a b c).tim = s.tim ∧ (failOp s a b c).lan = s.lan ∧ (failOp s a b c).rx = s.rx ∧ (failOp s a b c).tx = s.tx ∧
    (failOp s a b c).shu = s.shu ∧ (failOp s a b c).noc = s.noc ∧ (failOp s a b c).mem = s.mem ∧
    (failOp s a b c).itg = s.itg ∧ (failOp s a b c).upd = s.upd := by
  unfold failOp
  simp

@[simp] theorem finishOp_frame (s : State) (a : Nat) :
    (finishOp s a).pending = s.pending ∧ (finishOp s a).now = s.now ∧ (finishOp s a).fresh = s.fresh ∧
    (finishOp s a).gen = s.gen ∧ (finishOp s a).ruling = s.ruling ∧ (finishOp s a).unit = s.unit ∧
    (finishOp s a).pwr = s.pwr ∧ (finishOp s a).cfg = s.cfg ∧ (finishOp s a).seams = s.seams ∧ (finishOp s a).fab = s.fab ∧
    (finishOp s a).clk = s.clk ∧ (finishOp s a).tim = s.tim ∧ (finishOp s a).lan = s.lan ∧ (finishOp s a).rx = s.rx ∧
    (finishOp s a).tx = s.tx ∧ (finishOp s a).shu = s.shu ∧ (finishOp s a).noc = s.noc ∧ (finishOp s a).mem = s.mem ∧
    (finishOp s a).itg = s.itg ∧ (finishOp s a).upd = s.upd := by
  unfold finishOp
  simp

@[simp] theorem showExport_frame (s : State) (a : Nat) :
    (showExport s a).pending = s.pending ∧ (showExport s a).now = s.now ∧ (showExport s a).fresh = s.fresh ∧
    (showExport s a).gen = s.gen ∧ (showExport s a).ruling = s.ruling ∧ (showExport s a).cap = s.cap ∧
    (showExport s a).mgmt = s.mgmt ∧ (showExport s a).unit = s.unit ∧ (showExport s a).pwr = s.pwr ∧
    (showExport s a).cfg = s.cfg ∧ (showExport s a).seams = s.seams ∧ (showExport s a).fab = s.fab ∧
    (showExport s a).clk = s.clk ∧ (showExport s a).tim = s.tim ∧ (showExport s a).lan = s.lan ∧
    (showExport s a).rx = s.rx ∧ (showExport s a).tx = s.tx ∧ (showExport s a).shu = s.shu ∧ (showExport s a).noc = s.noc ∧
    (showExport s a).mem = s.mem ∧ (showExport s a).itg = s.itg ∧ (showExport s a).upd = s.upd := by
  unfold showExport
  simp

@[simp] theorem failKind_frame (s : State) (a : Nat) (b : Nat) :
    (failKind s a b).pending = s.pending ∧ (failKind s a b).now = s.now ∧ (failKind s a b).fresh = s.fresh ∧
    (failKind s a b).gen = s.gen ∧ (failKind s a b).ruling = s.ruling ∧ (failKind s a b).cap = s.cap ∧
    (failKind s a b).unit = s.unit ∧ (failKind s a b).pwr = s.pwr ∧ (failKind s a b).cfg = s.cfg ∧
    (failKind s a b).seams = s.seams ∧ (failKind s a b).fab = s.fab ∧ (failKind s a b).clk = s.clk ∧
    (failKind s a b).tim = s.tim ∧ (failKind s a b).lan = s.lan ∧ (failKind s a b).rx = s.rx ∧ (failKind s a b).tx = s.tx ∧
    (failKind s a b).shu = s.shu ∧ (failKind s a b).noc = s.noc ∧ (failKind s a b).mem = s.mem ∧
    (failKind s a b).itg = s.itg ∧ (failKind s a b).upd = s.upd := by
  unfold failKind
  simp

@[simp] theorem State_setSlot_frame (s : State) (a : Nat) (b : Slot → Slot) :
    (State.setSlot s a b).pending = s.pending ∧ (State.setSlot s a b).now = s.now ∧ (State.setSlot s a b).fresh = s.fresh ∧
    (State.setSlot s a b).cat = s.cat ∧ (State.setSlot s a b).gen = s.gen ∧ (State.setSlot s a b).ruling = s.ruling ∧
    (State.setSlot s a b).cap = s.cap ∧ (State.setSlot s a b).mgmt = s.mgmt ∧ (State.setSlot s a b).unit = s.unit ∧
    (State.setSlot s a b).pwr = s.pwr ∧ (State.setSlot s a b).cfg = s.cfg ∧ (State.setSlot s a b).seams = s.seams ∧
    (State.setSlot s a b).fab = s.fab ∧ (State.setSlot s a b).clk = s.clk ∧ (State.setSlot s a b).tim = s.tim ∧
    (State.setSlot s a b).lan = s.lan ∧ (State.setSlot s a b).rx = s.rx ∧ (State.setSlot s a b).tx = s.tx ∧
    (State.setSlot s a b).shu = s.shu ∧ (State.setSlot s a b).noc = s.noc ∧ (State.setSlot s a b).mem = s.mem ∧
    (State.setSlot s a b).upd = s.upd := by
  unfold State.setSlot
  simp

@[simp] theorem putSlot_frame (s : State) (a : Nat) (b : Nat) :
    (putSlot s a b).pending = s.pending ∧ (putSlot s a b).now = s.now ∧ (putSlot s a b).fresh = s.fresh ∧
    (putSlot s a b).gen = s.gen ∧ (putSlot s a b).ruling = s.ruling ∧ (putSlot s a b).cap = s.cap ∧
    (putSlot s a b).unit = s.unit ∧ (putSlot s a b).pwr = s.pwr ∧ (putSlot s a b).cfg = s.cfg ∧
    (putSlot s a b).seams = s.seams ∧ (putSlot s a b).fab = s.fab ∧ (putSlot s a b).clk = s.clk ∧
    (putSlot s a b).tim = s.tim ∧ (putSlot s a b).lan = s.lan ∧ (putSlot s a b).rx = s.rx ∧ (putSlot s a b).tx = s.tx ∧
    (putSlot s a b).shu = s.shu ∧ (putSlot s a b).noc = s.noc ∧ (putSlot s a b).mem = s.mem ∧ (putSlot s a b).itg = s.itg ∧
    (putSlot s a b).upd = s.upd := by
  unfold putSlot
  simp

@[simp] theorem noteBarred_frame (s : State) (a : NocPkt) (b : Nat) :
    (noteBarred s a b).pending = s.pending ∧ (noteBarred s a b).now = s.now ∧ (noteBarred s a b).fresh = s.fresh ∧
    (noteBarred s a b).gen = s.gen ∧ (noteBarred s a b).ruling = s.ruling ∧ (noteBarred s a b).cap = s.cap ∧
    (noteBarred s a b).unit = s.unit ∧ (noteBarred s a b).pwr = s.pwr ∧ (noteBarred s a b).cfg = s.cfg ∧
    (noteBarred s a b).seams = s.seams ∧ (noteBarred s a b).fab = s.fab ∧ (noteBarred s a b).clk = s.clk ∧
    (noteBarred s a b).tim = s.tim ∧ (noteBarred s a b).lan = s.lan ∧ (noteBarred s a b).rx = s.rx ∧
    (noteBarred s a b).tx = s.tx ∧ (noteBarred s a b).shu = s.shu ∧ (noteBarred s a b).noc = s.noc ∧
    (noteBarred s a b).mem = s.mem ∧ (noteBarred s a b).upd = s.upd := by
  unfold noteBarred
  simp

@[simp] theorem releaseHeld_frame (s : State) (a : Nat) :
    (releaseHeld s a).pending = s.pending ∧ (releaseHeld s a).now = s.now ∧ (releaseHeld s a).fresh = s.fresh ∧
    (releaseHeld s a).gen = s.gen ∧ (releaseHeld s a).ruling = s.ruling ∧ (releaseHeld s a).cap = s.cap ∧
    (releaseHeld s a).unit = s.unit ∧ (releaseHeld s a).pwr = s.pwr ∧ (releaseHeld s a).cfg = s.cfg ∧
    (releaseHeld s a).seams = s.seams ∧ (releaseHeld s a).fab = s.fab ∧ (releaseHeld s a).clk = s.clk ∧
    (releaseHeld s a).tim = s.tim ∧ (releaseHeld s a).lan = s.lan ∧ (releaseHeld s a).rx = s.rx ∧
    (releaseHeld s a).tx = s.tx ∧ (releaseHeld s a).shu = s.shu ∧ (releaseHeld s a).mem = s.mem ∧
    (releaseHeld s a).upd = s.upd := by
  unfold releaseHeld
  simp

@[simp] theorem failSlot_frame (s : State) (a : Nat) (b : Nat) :
    (failSlot s a b).pending = s.pending ∧ (failSlot s a b).now = s.now ∧ (failSlot s a b).fresh = s.fresh ∧
    (failSlot s a b).gen = s.gen ∧ (failSlot s a b).ruling = s.ruling ∧ (failSlot s a b).cap = s.cap ∧
    (failSlot s a b).unit = s.unit ∧ (failSlot s a b).pwr = s.pwr ∧ (failSlot s a b).cfg = s.cfg ∧
    (failSlot s a b).seams = s.seams ∧ (failSlot s a b).fab = s.fab ∧ (failSlot s a b).clk = s.clk ∧
    (failSlot s a b).tim = s.tim ∧ (failSlot s a b).lan = s.lan ∧ (failSlot s a b).rx = s.rx ∧ (failSlot s a b).tx = s.tx ∧
    (failSlot s a b).shu = s.shu ∧ (failSlot s a b).mem = s.mem ∧ (failSlot s a b).upd = s.upd := by
  unfold failSlot
  simp only []
  repeat' split
  all_goals simp

@[simp] theorem drawKeys_frame (s : State) (a : Nat) :
    (drawKeys s a).1.pending = s.pending ∧ (drawKeys s a).1.now = s.now ∧ (drawKeys s a).1.gen = s.gen ∧
    (drawKeys s a).1.ruling = s.ruling ∧ (drawKeys s a).1.cap = s.cap ∧ (drawKeys s a).1.mgmt = s.mgmt ∧
    (drawKeys s a).1.unit = s.unit ∧ (drawKeys s a).1.pwr = s.pwr ∧ (drawKeys s a).1.cfg = s.cfg ∧
    (drawKeys s a).1.seams = s.seams ∧ (drawKeys s a).1.fab = s.fab ∧ (drawKeys s a).1.clk = s.clk ∧
    (drawKeys s a).1.tim = s.tim ∧ (drawKeys s a).1.lan = s.lan ∧ (drawKeys s a).1.rx = s.rx ∧ (drawKeys s a).1.tx = s.tx ∧
    (drawKeys s a).1.shu = s.shu ∧ (drawKeys s a).1.noc = s.noc ∧ (drawKeys s a).1.mem = s.mem ∧
    (drawKeys s a).1.itg = s.itg ∧ (drawKeys s a).1.upd = s.upd := by
  unfold drawKeys
  simp

@[simp] theorem cacheNode_frame (s : State) (a : Nat) (b : Nat) (c : Nat) (d : Nat) (e : List Nat) (f : Bool) :
    (cacheNode s a b c d e f).pending = s.pending ∧ (cacheNode s a b c d e f).now = s.now ∧
    (cacheNode s a b c d e f).fresh = s.fresh ∧ (cacheNode s a b c d e f).cat = s.cat ∧
    (cacheNode s a b c d e f).gen = s.gen ∧ (cacheNode s a b c d e f).ruling = s.ruling ∧
    (cacheNode s a b c d e f).cap = s.cap ∧ (cacheNode s a b c d e f).mgmt = s.mgmt ∧
    (cacheNode s a b c d e f).unit = s.unit ∧ (cacheNode s a b c d e f).pwr = s.pwr ∧
    (cacheNode s a b c d e f).cfg = s.cfg ∧ (cacheNode s a b c d e f).seams = s.seams ∧
    (cacheNode s a b c d e f).fab = s.fab ∧ (cacheNode s a b c d e f).clk = s.clk ∧ (cacheNode s a b c d e f).tim = s.tim ∧
    (cacheNode s a b c d e f).lan = s.lan ∧ (cacheNode s a b c d e f).rx = s.rx ∧ (cacheNode s a b c d e f).tx = s.tx ∧
    (cacheNode s a b c d e f).shu = s.shu ∧ (cacheNode s a b c d e f).noc = s.noc ∧ (cacheNode s a b c d e f).mem = s.mem ∧
    (cacheNode s a b c d e f).upd = s.upd := by
  unfold cacheNode
  simp

@[simp] theorem setNode_frame (s : State) (a : Nat) (b : Nat) (c : Nat) (d : Nat) (e : List Nat) :
    (setNode s a b c d e).pending = s.pending ∧ (setNode s a b c d e).now = s.now ∧ (setNode s a b c d e).fresh = s.fresh ∧
    (setNode s a b c d e).cat = s.cat ∧ (setNode s a b c d e).gen = s.gen ∧ (setNode s a b c d e).ruling = s.ruling ∧
    (setNode s a b c d e).cap = s.cap ∧ (setNode s a b c d e).mgmt = s.mgmt ∧ (setNode s a b c d e).unit = s.unit ∧
    (setNode s a b c d e).pwr = s.pwr ∧ (setNode s a b c d e).cfg = s.cfg ∧ (setNode s a b c d e).seams = s.seams ∧
    (setNode s a b c d e).fab = s.fab ∧ (setNode s a b c d e).clk = s.clk ∧ (setNode s a b c d e).tim = s.tim ∧
    (setNode s a b c d e).lan = s.lan ∧ (setNode s a b c d e).rx = s.rx ∧ (setNode s a b c d e).tx = s.tx ∧
    (setNode s a b c d e).shu = s.shu ∧ (setNode s a b c d e).noc = s.noc ∧ (setNode s a b c d e).mem = s.mem ∧
    (setNode s a b c d e).upd = s.upd := by
  unfold setNode
  simp

@[simp] theorem noteVerified_frame (s : State) (a : Nat) (b : Nat) :
    (noteVerified s a b).pending = s.pending ∧ (noteVerified s a b).now = s.now ∧ (noteVerified s a b).fresh = s.fresh ∧
    (noteVerified s a b).gen = s.gen ∧ (noteVerified s a b).ruling = s.ruling ∧ (noteVerified s a b).cap = s.cap ∧
    (noteVerified s a b).mgmt = s.mgmt ∧ (noteVerified s a b).unit = s.unit ∧ (noteVerified s a b).pwr = s.pwr ∧
    (noteVerified s a b).cfg = s.cfg ∧ (noteVerified s a b).seams = s.seams ∧ (noteVerified s a b).fab = s.fab ∧
    (noteVerified s a b).clk = s.clk ∧ (noteVerified s a b).tim = s.tim ∧ (noteVerified s a b).lan = s.lan ∧
    (noteVerified s a b).rx = s.rx ∧ (noteVerified s a b).tx = s.tx ∧ (noteVerified s a b).shu = s.shu ∧
    (noteVerified s a b).noc = s.noc ∧ (noteVerified s a b).mem = s.mem ∧ (noteVerified s a b).itg = s.itg ∧
    (noteVerified s a b).upd = s.upd := by
  unfold noteVerified
  simp

@[simp] theorem sealLine_frame (s : State) (a : Nat) (b : Nat) (c : KeySet) (d : Nat) (e : Nat) (f : List Byte) :
    (sealLine s a b c d e f).pending = s.pending ∧ (sealLine s a b c d e f).now = s.now ∧
    (sealLine s a b c d e f).fresh = s.fresh ∧ (sealLine s a b c d e f).cat = s.cat ∧ (sealLine s a b c d e f).gen = s.gen ∧
    (sealLine s a b c d e f).ruling = s.ruling ∧ (sealLine s a b c d e f).cap = s.cap ∧
    (sealLine s a b c d e f).mgmt = s.mgmt ∧ (sealLine s a b c d e f).unit = s.unit ∧ (sealLine s a b c d e f).pwr = s.pwr ∧
    (sealLine s a b c d e f).cfg = s.cfg ∧ (sealLine s a b c d e f).seams = s.seams ∧ (sealLine s a b c d e f).fab = s.fab ∧
    (sealLine s a b c d e f).clk = s.clk ∧ (sealLine s a b c d e f).tim = s.tim ∧ (sealLine s a b c d e f).lan = s.lan ∧
    (sealLine s a b c d e f).rx = s.rx ∧ (sealLine s a b c d e f).tx = s.tx ∧ (sealLine s a b c d e f).shu = s.shu ∧
    (sealLine s a b c d e f).noc = s.noc ∧ (sealLine s a b c d e f).itg = s.itg ∧ (sealLine s a b c d e f).upd = s.upd := by
  unfold sealLine
  simp

@[simp] theorem noteMajor_frame (s : State) (a : Nat) (b : Nat) (c : Nat) :
    (noteMajor s a b c).pending = s.pending ∧ (noteMajor s a b c).now = s.now ∧ (noteMajor s a b c).fresh = s.fresh ∧
    (noteMajor s a b c).gen = s.gen ∧ (noteMajor s a b c).ruling = s.ruling ∧ (noteMajor s a b c).cap = s.cap ∧
    (noteMajor s a b c).mgmt = s.mgmt ∧ (noteMajor s a b c).unit = s.unit ∧ (noteMajor s a b c).pwr = s.pwr ∧
    (noteMajor s a b c).cfg = s.cfg ∧ (noteMajor s a b c).seams = s.seams ∧ (noteMajor s a b c).fab = s.fab ∧
    (noteMajor s a b c).clk = s.clk ∧ (noteMajor s a b c).tim = s.tim ∧ (noteMajor s a b c).lan = s.lan ∧
    (noteMajor s a b c).rx = s.rx ∧ (noteMajor s a b c).tx = s.tx ∧ (noteMajor s a b c).shu = s.shu ∧
    (noteMajor s a b c).noc = s.noc ∧ (noteMajor s a b c).mem = s.mem ∧ (noteMajor s a b c).upd = s.upd := by
  unfold noteMajor
  simp

@[simp] theorem storeNode_frame (s : State) (a : Nat) (b : Nat) (c : Nat) (d : Nat) (e : Nat) (f : Nat) (g : List Nat) :
    (storeNode s a b c d e f g).pending = s.pending ∧ (storeNode s a b c d e f g).now = s.now ∧
    (storeNode s a b c d e f g).fresh = s.fresh ∧ (storeNode s a b c d e f g).cat = s.cat ∧
    (storeNode s a b c d e f g).gen = s.gen ∧ (storeNode s a b c d e f g).ruling = s.ruling ∧
    (storeNode s a b c d e f g).cap = s.cap ∧ (storeNode s a b c d e f g).mgmt = s.mgmt ∧
    (storeNode s a b c d e f g).unit = s.unit ∧ (storeNode s a b c d e f g).pwr = s.pwr ∧
    (storeNode s a b c d e f g).cfg = s.cfg ∧ (storeNode s a b c d e f g).seams = s.seams ∧
    (storeNode s a b c d e f g).fab = s.fab ∧ (storeNode s a b c d e f g).clk = s.clk ∧
    (storeNode s a b c d e f g).tim = s.tim ∧ (storeNode s a b c d e f g).lan = s.lan ∧
    (storeNode s a b c d e f g).rx = s.rx ∧ (storeNode s a b c d e f g).tx = s.tx ∧
    (storeNode s a b c d e f g).shu = s.shu ∧ (storeNode s a b c d e f g).noc = s.noc ∧
    (storeNode s a b c d e f g).itg = s.itg ∧ (storeNode s a b c d e f g).upd = s.upd := by
  unfold storeNode
  simp

@[simp] theorem retagChildren_frame (s : State) (a : Nat) (b : Nat) (c : Nat) (d : Nat) :
    (retagChildren s a b c d).pending = s.pending ∧ (retagChildren s a b c d).now = s.now ∧
    (retagChildren s a b c d).fresh = s.fresh ∧ (retagChildren s a b c d).cat = s.cat ∧
    (retagChildren s a b c d).gen = s.gen ∧ (retagChildren s a b c d).ruling = s.ruling ∧
    (retagChildren s a b c d).cap = s.cap ∧ (retagChildren s a b c d).mgmt = s.mgmt ∧
    (retagChildren s a b c d).unit = s.unit ∧ (retagChildren s a b c d).pwr = s.pwr ∧
    (retagChildren s a b c d).cfg = s.cfg ∧ (retagChildren s a b c d).seams = s.seams ∧
    (retagChildren s a b c d).fab = s.fab ∧ (retagChildren s a b c d).clk = s.clk ∧ (retagChildren s a b c d).tim = s.tim ∧
    (retagChildren s a b c d).lan = s.lan ∧ (retagChildren s a b c d).rx = s.rx ∧ (retagChildren s a b c d).tx = s.tx ∧
    (retagChildren s a b c d).shu = s.shu ∧ (retagChildren s a b c d).noc = s.noc ∧ (retagChildren s a b c d).itg = s.itg ∧
    (retagChildren s a b c d).upd = s.upd := by
  unfold retagChildren
  simp

@[simp] theorem noteOverflow_frame (s : State) (a : Nat) (b : Nat) :
    (noteOverflow s a b).pending = s.pending ∧ (noteOverflow s a b).now = s.now ∧ (noteOverflow s a b).fresh = s.fresh ∧
    (noteOverflow s a b).gen = s.gen ∧ (noteOverflow s a b).ruling = s.ruling ∧ (noteOverflow s a b).cap = s.cap ∧
    (noteOverflow s a b).unit = s.unit ∧ (noteOverflow s a b).pwr = s.pwr ∧ (noteOverflow s a b).cfg = s.cfg ∧
    (noteOverflow s a b).seams = s.seams ∧ (noteOverflow s a b).fab = s.fab ∧ (noteOverflow s a b).clk = s.clk ∧
    (noteOverflow s a b).tim = s.tim ∧ (noteOverflow s a b).lan = s.lan ∧ (noteOverflow s a b).rx = s.rx ∧
    (noteOverflow s a b).tx = s.tx ∧ (noteOverflow s a b).shu = s.shu ∧ (noteOverflow s a b).noc = s.noc ∧
    (noteOverflow s a b).mem = s.mem ∧ (noteOverflow s a b).itg = s.itg ∧ (noteOverflow s a b).upd = s.upd := by
  unfold noteOverflow
  simp

@[simp] theorem initialiseSlot_frame (s : State) (a : Nat) :
    (initialiseSlot s a).pending = s.pending ∧ (initialiseSlot s a).now = s.now ∧ (initialiseSlot s a).fresh = s.fresh ∧
    (initialiseSlot s a).cat = s.cat ∧ (initialiseSlot s a).gen = s.gen ∧ (initialiseSlot s a).ruling = s.ruling ∧
    (initialiseSlot s a).cap = s.cap ∧ (initialiseSlot s a).mgmt = s.mgmt ∧ (initialiseSlot s a).unit = s.unit ∧
    (initialiseSlot s a).pwr = s.pwr ∧ (initialiseSlot s a).cfg = s.cfg ∧ (initialiseSlot s a).seams = s.seams ∧
    (initialiseSlot s a).fab = s.fab ∧ (initialiseSlot s a).clk = s.clk ∧ (initialiseSlot s a).tim = s.tim ∧
    (initialiseSlot s a).lan = s.lan ∧ (initialiseSlot s a).rx = s.rx ∧ (initialiseSlot s a).tx = s.tx ∧
    (initialiseSlot s a).shu = s.shu ∧ (initialiseSlot s a).noc = s.noc ∧ (initialiseSlot s a).upd = s.upd := by
  unfold initialiseSlot
  simp

@[simp] theorem dropCache_frame (s : State) (a : Nat) :
    (dropCache s a).pending = s.pending ∧ (dropCache s a).now = s.now ∧ (dropCache s a).fresh = s.fresh ∧
    (dropCache s a).cat = s.cat ∧ (dropCache s a).gen = s.gen ∧ (dropCache s a).ruling = s.ruling ∧
    (dropCache s a).cap = s.cap ∧ (dropCache s a).mgmt = s.mgmt ∧ (dropCache s a).unit = s.unit ∧
    (dropCache s a).pwr = s.pwr ∧ (dropCache s a).cfg = s.cfg ∧ (dropCache s a).seams = s.seams ∧
    (dropCache s a).fab = s.fab ∧ (dropCache s a).clk = s.clk ∧ (dropCache s a).tim = s.tim ∧ (dropCache s a).lan = s.lan ∧
    (dropCache s a).rx = s.rx ∧ (dropCache s a).tx = s.tx ∧ (dropCache s a).shu = s.shu ∧ (dropCache s a).noc = s.noc ∧
    (dropCache s a).mem = s.mem ∧ (dropCache s a).upd = s.upd := by
  unfold dropCache
  simp

@[simp] theorem beginInit_frame (s : State) (a : Nat) :
    (beginInit s a).pending = s.pending ∧ (beginInit s a).now = s.now ∧ (beginInit s a).gen = s.gen ∧
    (beginInit s a).ruling = s.ruling ∧ (beginInit s a).cap = s.cap ∧ (beginInit s a).unit = s.unit ∧
    (beginInit s a).pwr = s.pwr ∧ (beginInit s a).cfg = s.cfg ∧ (beginInit s a).seams = s.seams ∧
    (beginInit s a).fab = s.fab ∧ (beginInit s a).clk = s.clk ∧ (beginInit s a).tim = s.tim ∧ (beginInit s a).lan = s.lan ∧
    (beginInit s a).rx = s.rx ∧ (beginInit s a).tx = s.tx ∧ (beginInit s a).shu = s.shu ∧ (beginInit s a).mem = s.mem ∧
    (beginInit s a).upd = s.upd := by
  unfold beginInit
  simp

@[simp] theorem startSlots_frame (s : State) (a : Nat → Bool) :
    (startSlots s a).pending = s.pending ∧ (startSlots s a).now = s.now ∧ (startSlots s a).gen = s.gen ∧
    (startSlots s a).ruling = s.ruling ∧ (startSlots s a).cap = s.cap ∧ (startSlots s a).unit = s.unit ∧
    (startSlots s a).pwr = s.pwr ∧ (startSlots s a).cfg = s.cfg ∧ (startSlots s a).seams = s.seams ∧
    (startSlots s a).fab = s.fab ∧ (startSlots s a).clk = s.clk ∧ (startSlots s a).tim = s.tim ∧
    (startSlots s a).lan = s.lan ∧ (startSlots s a).rx = s.rx ∧ (startSlots s a).tx = s.tx ∧ (startSlots s a).shu = s.shu ∧
    (startSlots s a).mem = s.mem ∧ (startSlots s a).upd = s.upd := by
  unfold startSlots
  simp

@[simp] theorem slotsLose_frame (s : State) (a : Nat) :
    (slotsLose s a).pending = s.pending ∧ (slotsLose s a).now = s.now ∧ (slotsLose s a).fresh = s.fresh ∧
    (slotsLose s a).gen = s.gen ∧ (slotsLose s a).ruling = s.ruling ∧ (slotsLose s a).cap = s.cap ∧
    (slotsLose s a).unit = s.unit ∧ (slotsLose s a).pwr = s.pwr ∧ (slotsLose s a).cfg = s.cfg ∧
    (slotsLose s a).seams = s.seams ∧ (slotsLose s a).fab = s.fab ∧ (slotsLose s a).clk = s.clk ∧
    (slotsLose s a).tim = s.tim ∧ (slotsLose s a).lan = s.lan ∧ (slotsLose s a).rx = s.rx ∧ (slotsLose s a).tx = s.tx ∧
    (slotsLose s a).shu = s.shu ∧ (slotsLose s a).mem = s.mem ∧ (slotsLose s a).upd = s.upd := by
  unfold slotsLose
  simp

@[simp] theorem barAccess_frame (s : State) (a : NocPkt) (b : Nat) :
    (barAccess s a b).pending = s.pending ∧ (barAccess s a b).now = s.now ∧ (barAccess s a b).fresh = s.fresh ∧
    (barAccess s a b).gen = s.gen ∧ (barAccess s a b).ruling = s.ruling ∧ (barAccess s a b).cap = s.cap ∧
    (barAccess s a b).unit = s.unit ∧ (barAccess s a b).pwr = s.pwr ∧ (barAccess s a b).cfg = s.cfg ∧
    (barAccess s a b).seams = s.seams ∧ (barAccess s a b).fab = s.fab ∧ (barAccess s a b).clk = s.clk ∧
    (barAccess s a b).tim = s.tim ∧ (barAccess s a b).lan = s.lan ∧ (barAccess s a b).rx = s.rx ∧
    (barAccess s a b).tx = s.tx ∧ (barAccess s a b).shu = s.shu ∧ (barAccess s a b).mem = s.mem ∧
    (barAccess s a b).upd = s.upd := by
  unfold barAccess
  simp

@[simp] theorem writeGroup_frame (s : State) (a : Nat) (b : Nat) (c : Nat) (d : KeySet) (e : List (List Byte)) :
    (writeGroup s a b c d e).pending = s.pending ∧ (writeGroup s a b c d e).now = s.now ∧
    (writeGroup s a b c d e).fresh = s.fresh ∧ (writeGroup s a b c d e).cat = s.cat ∧ (writeGroup s a b c d e).gen = s.gen ∧
    (writeGroup s a b c d e).ruling = s.ruling ∧ (writeGroup s a b c d e).cap = s.cap ∧
    (writeGroup s a b c d e).mgmt = s.mgmt ∧ (writeGroup s a b c d e).unit = s.unit ∧ (writeGroup s a b c d e).pwr = s.pwr ∧
    (writeGroup s a b c d e).cfg = s.cfg ∧ (writeGroup s a b c d e).seams = s.seams ∧ (writeGroup s a b c d e).fab = s.fab ∧
    (writeGroup s a b c d e).clk = s.clk ∧ (writeGroup s a b c d e).tim = s.tim ∧ (writeGroup s a b c d e).lan = s.lan ∧
    (writeGroup s a b c d e).rx = s.rx ∧ (writeGroup s a b c d e).tx = s.tx ∧ (writeGroup s a b c d e).shu = s.shu ∧
    (writeGroup s a b c d e).noc = s.noc ∧ (writeGroup s a b c d e).itg = s.itg ∧ (writeGroup s a b c d e).upd = s.upd := by
  unfold writeGroup
  simp

@[simp] theorem State_setLink_frame (s : State) (a : Nat) (b : LinkHid → LinkHid) :
    (State.setLink s a b).pending = s.pending ∧ (State.setLink s a b).now = s.now ∧ (State.setLink s a b).fresh = s.fresh ∧
    (State.setLink s a b).cat = s.cat ∧ (State.setLink s a b).gen = s.gen ∧ (State.setLink s a b).ruling = s.ruling ∧
    (State.setLink s a b).cap = s.cap ∧ (State.setLink s a b).mgmt = s.mgmt ∧ (State.setLink s a b).unit = s.unit ∧
    (State.setLink s a b).pwr = s.pwr ∧ (State.setLink s a b).cfg = s.cfg ∧ (State.setLink s a b).seams = s.seams ∧
    (State.setLink s a b).fab = s.fab ∧ (State.setLink s a b).clk = s.clk ∧ (State.setLink s a b).tim = s.tim ∧
    (State.setLink s a b).lan = s.lan ∧ (State.setLink s a b).rx = s.rx ∧ (State.setLink s a b).tx = s.tx ∧
    (State.setLink s a b).shu = s.shu ∧ (State.setLink s a b).mem = s.mem ∧ (State.setLink s a b).itg = s.itg ∧
    (State.setLink s a b).upd = s.upd := by
  unfold State.setLink
  simp

@[simp] theorem crossLink_frame (s : State) (a : Nat) (b : Bool) (c : NocPkt) :
    (crossLink s a b c).pending = s.pending ∧ (crossLink s a b c).now = s.now ∧ (crossLink s a b c).fresh = s.fresh ∧
    (crossLink s a b c).gen = s.gen ∧ (crossLink s a b c).ruling = s.ruling ∧ (crossLink s a b c).cap = s.cap ∧
    (crossLink s a b c).mgmt = s.mgmt ∧ (crossLink s a b c).unit = s.unit ∧ (crossLink s a b c).pwr = s.pwr ∧
    (crossLink s a b c).cfg = s.cfg ∧ (crossLink s a b c).seams = s.seams ∧ (crossLink s a b c).fab = s.fab ∧
    (crossLink s a b c).clk = s.clk ∧ (crossLink s a b c).tim = s.tim ∧ (crossLink s a b c).lan = s.lan ∧
    (crossLink s a b c).rx = s.rx ∧ (crossLink s a b c).tx = s.tx ∧ (crossLink s a b c).shu = s.shu ∧
    (crossLink s a b c).mem = s.mem ∧ (crossLink s a b c).itg = s.itg ∧ (crossLink s a b c).upd = s.upd := by
  unfold crossLink
  simp

@[simp] theorem addTransaction_frame (s : State) (a : Nat) (b : Nat) (c : Nat) :
    (addTransaction s a b c).pending = s.pending ∧ (addTransaction s a b c).now = s.now ∧
    (addTransaction s a b c).fresh = s.fresh ∧ (addTransaction s a b c).gen = s.gen ∧
    (addTransaction s a b c).ruling = s.ruling ∧ (addTransaction s a b c).cap = s.cap ∧
    (addTransaction s a b c).mgmt = s.mgmt ∧ (addTransaction s a b c).unit = s.unit ∧ (addTransaction s a b c).pwr = s.pwr ∧
    (addTransaction s a b c).cfg = s.cfg ∧ (addTransaction s a b c).seams = s.seams ∧ (addTransaction s a b c).fab = s.fab ∧
    (addTransaction s a b c).clk = s.clk ∧ (addTransaction s a b c).tim = s.tim ∧ (addTransaction s a b c).lan = s.lan ∧
    (addTransaction s a b c).rx = s.rx ∧ (addTransaction s a b c).tx = s.tx ∧ (addTransaction s a b c).shu = s.shu ∧
    (addTransaction s a b c).mem = s.mem ∧ (addTransaction s a b c).itg = s.itg ∧ (addTransaction s a b c).upd = s.upd := by
  unfold addTransaction
  simp

@[simp] theorem completeTransaction_frame (s : State) (a : Nat) (b : Nat) (c : Nat) :
    (completeTransaction s a b c).pending = s.pending ∧ (completeTransaction s a b c).now = s.now ∧
    (completeTransaction s a b c).fresh = s.fresh ∧ (completeTransaction s a b c).gen = s.gen ∧
    (completeTransaction s a b c).ruling = s.ruling ∧ (completeTransaction s a b c).cap = s.cap ∧
    (completeTransaction s a b c).mgmt = s.mgmt ∧ (completeTransaction s a b c).unit = s.unit ∧
    (completeTransaction s a b c).pwr = s.pwr ∧ (completeTransaction s a b c).cfg = s.cfg ∧
    (completeTransaction s a b c).seams = s.seams ∧ (completeTransaction s a b c).fab = s.fab ∧
    (completeTransaction s a b c).clk = s.clk ∧ (completeTransaction s a b c).tim = s.tim ∧
    (completeTransaction s a b c).lan = s.lan ∧ (completeTransaction s a b c).rx = s.rx ∧
    (completeTransaction s a b c).tx = s.tx ∧ (completeTransaction s a b c).shu = s.shu ∧
    (completeTransaction s a b c).mem = s.mem ∧ (completeTransaction s a b c).itg = s.itg ∧
    (completeTransaction s a b c).upd = s.upd := by
  unfold completeTransaction
  simp

@[simp] theorem noteTraffic_frame (s : State) (a : Nat) (b : Nat) (c : Nat) (d : Nat) :
    (noteTraffic s a b c d).pending = s.pending ∧ (noteTraffic s a b c d).now = s.now ∧
    (noteTraffic s a b c d).gen = s.gen ∧ (noteTraffic s a b c d).ruling = s.ruling ∧ (noteTraffic s a b c d).cap = s.cap ∧
    (noteTraffic s a b c d).mgmt = s.mgmt ∧ (noteTraffic s a b c d).unit = s.unit ∧ (noteTraffic s a b c d).pwr = s.pwr ∧
    (noteTraffic s a b c d).cfg = s.cfg ∧ (noteTraffic s a b c d).seams = s.seams ∧ (noteTraffic s a b c d).fab = s.fab ∧
    (noteTraffic s a b c d).clk = s.clk ∧ (noteTraffic s a b c d).tim = s.tim ∧ (noteTraffic s a b c d).lan = s.lan ∧
    (noteTraffic s a b c d).rx = s.rx ∧ (noteTraffic s a b c d).tx = s.tx ∧ (noteTraffic s a b c d).shu = s.shu ∧
    (noteTraffic s a b c d).mem = s.mem ∧ (noteTraffic s a b c d).itg = s.itg ∧ (noteTraffic s a b c d).upd = s.upd := by
  induction c generalizing s d with
  | zero => cases d <;> simp [noteTraffic]
  | succ n ih => cases d <;> simp [noteTraffic, ih]

end Sys2Proof.Machine
end

