-- ==== Sys2Proof/Laws/Guarded.lean ====
section
/-! SUPPORT. What the operations on protected memory that may stop leave alone, and which of them keep memory's canonical
form. -/

namespace Sys2Proof.Machine

/-! ### Frames of the operations that may stop -/

/-- A node fetched and checked changes the counter cache alone (R470). -/
theorem fetchNode_outside {s t : State} {k j x pm pminor : Nat} {n : Nat × List Nat}
    (h : fetchNode s k j x pm pminor = .ok (t, n)) : Outside [.itg] s t := by
  simp only [fetchNode] at h
  split at h
  · cases h
  · split at h
    · simp only [Except.ok.injEq, Prod.mk.injEq] at h
      rw [← h.1]; intro p hp; cases p <;> simp at hp ⊢
    · cases h

/-- Fetching a node changes the counter cache, and draws a free value where the claimed archive is in error. -/
theorem getNode_outside (k d : Nat) : ∀ (s : State) (x : Nat) (t : State) (n : Nat × List Nat),
    getNode k d s x = .ok (t, n) → Outside [.fresh, .itg] s t := by
  induction d with
  | zero =>
    intro s x t n h
    simp only [getNode, Except.ok.injEq, Prod.mk.injEq] at h
    rw [← h.1]; exact .refl _ _
  | succ d ih =>
    intro s x t n h
    rw [getNode] at h
    have hu : Outside [.fresh, .itg] s (if cacheBad s k = true then s.draw else s) := by
      intro p hp
      cases p <;> simp at hp ⊢
    generalize (if cacheBad s k = true then s.draw else s) = u at h hu
    split at h
    · simp only [Except.ok.injEq, Prod.mk.injEq] at h
      rw [← h.1]; exact hu
    · cases h
    · split at h
      · cases h
      · next heq => exact (hu.trans (ih _ _ _ _ heq)).trans ((fetchNode_outside h).mono (by decide))

theorem nodeAt_outside {s t : State} {k j x : Nat} {n : Nat × List Nat} (h : nodeAt s k j x = .ok (t, n)) :
    Outside [.fresh, .itg] s t := getNode_outside k _ s x t n h

theorem noteVerified_outside (s : State) (k n : Nat) : Outside [.cat] s (noteVerified s k n) := by
  intro q hq; cases q <;> simp at hq ⊢

/-- A protected read changes the counter cache and counts a line verified, free values drawn apart (R470, R483). -/
theorem readLine_outside {s t : State} {k loc : Nat} {b : List Byte} (h : readLine s k loc = .ok (t, b)) :
    Outside [.fresh, .cat, .itg] s t := by
  unfold readLine at h
  split at h
  · cases h
  · next heq =>
    split at h
    · cases h
    · simp only [Except.ok.injEq, Prod.mk.injEq] at h
      rw [← h.1]
      exact ((nodeAt_outside heq).mono (by decide)).trans ((noteVerified_outside _ _ _).mono (by decide))

theorem sealLine_outside (s : State) (k loc : Nat) (keys : KeySet) (a b : Nat) (p : List Byte) :
    Outside [.mem] s (sealLine s k loc keys a b p) := by
  intro q hq; cases q <;> simp at hq ⊢

theorem setNode_outside (s : State) (k j x a : Nat) (m : List Nat) : Outside [.itg] s (setNode s k j x a m) := by
  intro q hq; cases q <;> simp at hq ⊢

/-- A protected write changes memory and the counters (R472, R483). -/
theorem writeLine_outside {s t : State} {k loc : Nat} {w : Option Nat} {b : List Byte} (h : writeLine s k loc w b = .ok t) :
    Outside [.fresh, .cat, .mem, .itg] s t := by
  unfold writeLine at h
  extract_lets i at h
  split at h
  · cases h
  · next u major minors heq =>
    have hu : Outside [.fresh, .cat, .mem, .itg] s u := (nodeAt_outside heq).mono (by decide)
    extract_lets keys m plain at h
    clear_value plain keys
    split at h
    · cases h
    · rename_i v _ _
      have hv : Outside [.fresh, .cat, .mem, .itg] u v := by
        intro q hq; cases q <;> simp at hq <;> simp [v]
      clear_value v
      split at h
      · split at h <;> cases h
      · simp only [Except.ok.injEq] at h
        rw [← h]
        exact ((hu.trans hv).trans ((sealLine_outside _ _ _ _ _ _ _).mono (by decide))).trans
          ((setNode_outside _ _ _ _ _ _).mono (by decide))

end Sys2Proof.Machine
end

