-- ==== Sys2Proof/Laws/FramesNoc.lean ====
section
/-! SUPPORT. What each operation over the state leaves alone:
the network on chip, the memory channels and the fabric cells. -/

namespace Sys2Proof.Machine

@[simp] theorem State_setMch_frame (s : State) (a : Nat) (b : Chan → Chan) :
    (State.setMch s a b).pending = s.pending ∧ (State.setMch s a b).now = s.now ∧ (State.setMch s a b).fresh = s.fresh ∧
    (State.setMch s a b).cat = s.cat ∧ (State.setMch s a b).gen = s.gen ∧ (State.setMch s a b).ruling = s.ruling ∧
    (State.setMch s a b).cap = s.cap ∧ (State.setMch s a b).mgmt = s.mgmt ∧ (State.setMch s a b).unit = s.unit ∧
    (State.setMch s a b).pwr = s.pwr ∧ (State.setMch s a b).cfg = s.cfg ∧ (State.setMch s a b).seams = s.seams ∧
    (State.setMch s a b).fab = s.fab ∧ (State.setMch s a b).clk = s.clk ∧ (State.setMch s a b).tim = s.tim ∧
    (State.setMch s a b).lan = s.lan ∧ (State.setMch s a b).rx = s.rx ∧ (State.setMch s a b).tx = s.tx ∧
    (State.setMch s a b).shu = s.shu ∧ (State.setMch s a b).noc = s.noc ∧ (State.setMch s a b).itg = s.itg ∧
    (State.setMch s a b).upd = s.upd := by
  unfold State.setMch
  simp

@[simp] theorem stopCatchUp_frame (s : State) (a : Nat) :
    (stopCatchUp s a).pending = s.pending ∧ (stopCatchUp s a).now = s.now ∧ (stopCatchUp s a).fresh = s.fresh ∧
    (stopCatchUp s a).cat = s.cat ∧ (stopCatchUp s a).gen = s.gen ∧ (stopCatchUp s a).ruling = s.ruling ∧
    (stopCatchUp s a).cap = s.cap ∧ (stopCatchUp s a).mgmt = s.mgmt ∧ (stopCatchUp s a).unit = s.unit ∧
    (stopCatchUp s a).pwr = s.pwr ∧ (stopCatchUp s a).cfg = s.cfg ∧ (stopCatchUp s a).seams = s.seams ∧
    (stopCatchUp s a).fab = s.fab ∧ (stopCatchUp s a).clk = s.clk ∧ (stopCatchUp s a).tim = s.tim ∧
    (stopCatchUp s a).lan = s.lan ∧ (stopCatchUp s a).rx = s.rx ∧ (stopCatchUp s a).tx = s.tx ∧
    (stopCatchUp s a).shu = s.shu ∧ (stopCatchUp s a).noc = s.noc ∧ (stopCatchUp s a).itg = s.itg ∧
    (stopCatchUp s a).upd = s.upd := by
  unfold stopCatchUp
  simp

@[simp] theorem enqueue_frame (s : State) (a : Nat) (b : NocPkt) :
    (enqueue s a b).pending = s.pending ∧ (enqueue s a b).now = s.now ∧ (enqueue s a b).fresh = s.fresh ∧
    (enqueue s a b).cat = s.cat ∧ (enqueue s a b).gen = s.gen ∧ (enqueue s a b).ruling = s.ruling ∧
    (enqueue s a b).cap = s.cap ∧ (enqueue s a b).mgmt = s.mgmt ∧ (enqueue s a b).unit = s.unit ∧
    (enqueue s a b).pwr = s.pwr ∧ (enqueue s a b).cfg = s.cfg ∧ (enqueue s a b).seams = s.seams ∧
    (enqueue s a b).fab = s.fab ∧ (enqueue s a b).clk = s.clk ∧ (enqueue s a b).tim = s.tim ∧ (enqueue s a b).lan = s.lan ∧
    (enqueue s a b).rx = s.rx ∧ (enqueue s a b).tx = s.tx ∧ (enqueue s a b).shu = s.shu ∧ (enqueue s a b).noc = s.noc ∧
    (enqueue s a b).itg = s.itg ∧ (enqueue s a b).upd = s.upd := by
  unfold enqueue
  simp

@[simp] theorem accept_frame (s : State) (a : NocPkt) :
    (accept s a).pending = s.pending ∧ (accept s a).now = s.now ∧ (accept s a).fresh = s.fresh ∧ (accept s a).cat = s.cat ∧
    (accept s a).gen = s.gen ∧ (accept s a).ruling = s.ruling ∧ (accept s a).cap = s.cap ∧ (accept s a).mgmt = s.mgmt ∧
    (accept s a).unit = s.unit ∧ (accept s a).pwr = s.pwr ∧ (accept s a).cfg = s.cfg ∧ (accept s a).seams = s.seams ∧
    (accept s a).fab = s.fab ∧ (accept s a).clk = s.clk ∧ (accept s a).tim = s.tim ∧ (accept s a).lan = s.lan ∧
    (accept s a).rx = s.rx ∧ (accept s a).tx = s.tx ∧ (accept s a).shu = s.shu ∧ (accept s a).mem = s.mem ∧
    (accept s a).itg = s.itg ∧ (accept s a).upd = s.upd := by
  unfold accept
  simp

@[simp] theorem atChannel_frame (s : State) (a : NocPkt) :
    (atChannel s a).pending = s.pending ∧ (atChannel s a).now = s.now ∧ (atChannel s a).fresh = s.fresh ∧
    (atChannel s a).gen = s.gen ∧ (atChannel s a).ruling = s.ruling ∧ (atChannel s a).cap = s.cap ∧
    (atChannel s a).unit = s.unit ∧ (atChannel s a).pwr = s.pwr ∧ (atChannel s a).cfg = s.cfg ∧
    (atChannel s a).seams = s.seams ∧ (atChannel s a).fab = s.fab ∧ (atChannel s a).clk = s.clk ∧
    (atChannel s a).tim = s.tim ∧ (atChannel s a).lan = s.lan ∧ (atChannel s a).rx = s.rx ∧ (atChannel s a).tx = s.tx ∧
    (atChannel s a).shu = s.shu ∧ (atChannel s a).upd = s.upd := by
  unfold atChannel
  split <;> simp

@[simp] theorem atArchive_frame (s : State) (a : NocPkt) :
    (atArchive s a).pending = s.pending ∧ (atArchive s a).now = s.now ∧ (atArchive s a).fresh = s.fresh ∧
    (atArchive s a).cat = s.cat ∧ (atArchive s a).gen = s.gen ∧ (atArchive s a).ruling = s.ruling ∧
    (atArchive s a).cap = s.cap ∧ (atArchive s a).mgmt = s.mgmt ∧ (atArchive s a).unit = s.unit ∧
    (atArchive s a).pwr = s.pwr ∧ (atArchive s a).cfg = s.cfg ∧ (atArchive s a).seams = s.seams ∧
    (atArchive s a).fab = s.fab ∧ (atArchive s a).clk = s.clk ∧ (atArchive s a).tim = s.tim ∧ (atArchive s a).lan = s.lan ∧
    (atArchive s a).rx = s.rx ∧ (atArchive s a).tx = s.tx ∧ (atArchive s a).shu = s.shu ∧ (atArchive s a).itg = s.itg ∧
    (atArchive s a).upd = s.upd := by
  unfold atArchive
  simp

@[simp] theorem atStaging_frame (s : State) (a : NocPkt) :
    (atStaging s a).pending = s.pending ∧ (atStaging s a).now = s.now ∧ (atStaging s a).fresh = s.fresh ∧
    (atStaging s a).gen = s.gen ∧ (atStaging s a).ruling = s.ruling ∧ (atStaging s a).cap = s.cap ∧
    (atStaging s a).mgmt = s.mgmt ∧ (atStaging s a).unit = s.unit ∧ (atStaging s a).pwr = s.pwr ∧
    (atStaging s a).cfg = s.cfg ∧ (atStaging s a).seams = s.seams ∧ (atStaging s a).fab = s.fab ∧
    (atStaging s a).clk = s.clk ∧ (atStaging s a).tim = s.tim ∧ (atStaging s a).lan = s.lan ∧ (atStaging s a).rx = s.rx ∧
    (atStaging s a).tx = s.tx ∧ (atStaging s a).shu = s.shu ∧ (atStaging s a).mem = s.mem ∧ (atStaging s a).itg = s.itg ∧
    (atStaging s a).upd = s.upd := by
  unfold atStaging
  simp

@[simp] theorem atFabric_frame (s : State) (a : NocPkt) :
    (atFabric s a).pending = s.pending ∧ (atFabric s a).now = s.now ∧ (atFabric s a).fresh = s.fresh ∧
    (atFabric s a).cat = s.cat ∧ (atFabric s a).gen = s.gen ∧ (atFabric s a).ruling = s.ruling ∧
    (atFabric s a).cap = s.cap ∧ (atFabric s a).mgmt = s.mgmt ∧ (atFabric s a).unit = s.unit ∧ (atFabric s a).pwr = s.pwr ∧
    (atFabric s a).cfg = s.cfg ∧ (atFabric s a).seams = s.seams ∧ (atFabric s a).fab = s.fab ∧ (atFabric s a).clk = s.clk ∧
    (atFabric s a).tim = s.tim ∧ (atFabric s a).lan = s.lan ∧ (atFabric s a).rx = s.rx ∧ (atFabric s a).tx = s.tx ∧
    (atFabric s a).shu = s.shu ∧ (atFabric s a).mem = s.mem ∧ (atFabric s a).itg = s.itg ∧ (atFabric s a).upd = s.upd := by
  unfold atFabric
  simp

@[simp] theorem landed_frame (s : State) (a : NocPkt) :
    (landed s a).pending = s.pending ∧ (landed s a).now = s.now ∧ (landed s a).fresh = s.fresh ∧ (landed s a).cat = s.cat ∧
    (landed s a).gen = s.gen ∧ (landed s a).ruling = s.ruling ∧ (landed s a).cap = s.cap ∧ (landed s a).mgmt = s.mgmt ∧
    (landed s a).unit = s.unit ∧ (landed s a).pwr = s.pwr ∧ (landed s a).cfg = s.cfg ∧ (landed s a).seams = s.seams ∧
    (landed s a).fab = s.fab ∧ (landed s a).clk = s.clk ∧ (landed s a).tim = s.tim ∧ (landed s a).lan = s.lan ∧
    (landed s a).rx = s.rx ∧ (landed s a).tx = s.tx ∧ (landed s a).shu = s.shu ∧ (landed s a).mem = s.mem ∧
    (landed s a).itg = s.itg ∧ (landed s a).upd = s.upd := by
  unfold landed
  simp

@[simp] theorem noteWrong_frame (s : State) (a : NocPkt) (b : Nat × Nat) (c : Nat) :
    (noteWrong s a b c).pending = s.pending ∧ (noteWrong s a b c).now = s.now ∧ (noteWrong s a b c).fresh = s.fresh ∧
    (noteWrong s a b c).gen = s.gen ∧ (noteWrong s a b c).ruling = s.ruling ∧ (noteWrong s a b c).cap = s.cap ∧
    (noteWrong s a b c).unit = s.unit ∧ (noteWrong s a b c).pwr = s.pwr ∧ (noteWrong s a b c).cfg = s.cfg ∧
    (noteWrong s a b c).seams = s.seams ∧ (noteWrong s a b c).fab = s.fab ∧ (noteWrong s a b c).clk = s.clk ∧
    (noteWrong s a b c).tim = s.tim ∧ (noteWrong s a b c).lan = s.lan ∧ (noteWrong s a b c).rx = s.rx ∧
    (noteWrong s a b c).tx = s.tx ∧ (noteWrong s a b c).shu = s.shu ∧ (noteWrong s a b c).noc = s.noc ∧
    (noteWrong s a b c).mem = s.mem ∧ (noteWrong s a b c).itg = s.itg ∧ (noteWrong s a b c).upd = s.upd := by
  unfold noteWrong
  simp

@[simp] theorem requestArrives_frame (s : State) (a : NocPkt) (b : Nat × Nat) :
    ((requestArrives s a b).getD s).pending = s.pending ∧ ((requestArrives s a b).getD s).now = s.now ∧
    ((requestArrives s a b).getD s).fresh = s.fresh ∧ ((requestArrives s a b).getD s).gen = s.gen ∧
    ((requestArrives s a b).getD s).ruling = s.ruling ∧ ((requestArrives s a b).getD s).cap = s.cap ∧
    ((requestArrives s a b).getD s).unit = s.unit ∧ ((requestArrives s a b).getD s).pwr = s.pwr ∧
    ((requestArrives s a b).getD s).cfg = s.cfg ∧ ((requestArrives s a b).getD s).seams = s.seams ∧
    ((requestArrives s a b).getD s).fab = s.fab ∧ ((requestArrives s a b).getD s).clk = s.clk ∧
    ((requestArrives s a b).getD s).tim = s.tim ∧ ((requestArrives s a b).getD s).lan = s.lan ∧
    ((requestArrives s a b).getD s).rx = s.rx ∧ ((requestArrives s a b).getD s).tx = s.tx ∧
    ((requestArrives s a b).getD s).shu = s.shu ∧ ((requestArrives s a b).getD s).upd = s.upd := by
  unfold requestArrives
  simp only []
  repeat' split
  all_goals simp

@[simp] theorem toDesign_frame (s : State) (a : NocPkt) :
    (toDesign s a).pending = s.pending ∧ (toDesign s a).now = s.now ∧ (toDesign s a).fresh = s.fresh ∧
    (toDesign s a).cat = s.cat ∧ (toDesign s a).gen = s.gen ∧ (toDesign s a).ruling = s.ruling ∧
    (toDesign s a).cap = s.cap ∧ (toDesign s a).mgmt = s.mgmt ∧ (toDesign s a).unit = s.unit ∧ (toDesign s a).pwr = s.pwr ∧
    (toDesign s a).cfg = s.cfg ∧ (toDesign s a).seams = s.seams ∧ (toDesign s a).fab = s.fab ∧ (toDesign s a).clk = s.clk ∧
    (toDesign s a).tim = s.tim ∧ (toDesign s a).lan = s.lan ∧ (toDesign s a).rx = s.rx ∧ (toDesign s a).tx = s.tx ∧
    (toDesign s a).shu = s.shu ∧ (toDesign s a).mem = s.mem ∧ (toDesign s a).itg = s.itg ∧ (toDesign s a).upd = s.upd := by
  unfold toDesign
  simp

@[simp] theorem retire_frame (s : State) (a : Nat) (b : Nat) :
    (retire s a b).pending = s.pending ∧ (retire s a b).now = s.now ∧ (retire s a b).fresh = s.fresh ∧
    (retire s a b).cat = s.cat ∧ (retire s a b).gen = s.gen ∧ (retire s a b).ruling = s.ruling ∧
    (retire s a b).cap = s.cap ∧ (retire s a b).mgmt = s.mgmt ∧ (retire s a b).unit = s.unit ∧ (retire s a b).pwr = s.pwr ∧
    (retire s a b).cfg = s.cfg ∧ (retire s a b).seams = s.seams ∧ (retire s a b).fab = s.fab ∧ (retire s a b).clk = s.clk ∧
    (retire s a b).tim = s.tim ∧ (retire s a b).lan = s.lan ∧ (retire s a b).rx = s.rx ∧ (retire s a b).tx = s.tx ∧
    (retire s a b).shu = s.shu ∧ (retire s a b).mem = s.mem ∧ (retire s a b).itg = s.itg ∧ (retire s a b).upd = s.upd := by
  unfold retire
  simp

@[simp] theorem responseArrives_frame (s : State) (a : NocPkt) (b : Nat × Nat) :
    (responseArrives s a b).pending = s.pending ∧ (responseArrives s a b).now = s.now ∧
    (responseArrives s a b).fresh = s.fresh ∧ (responseArrives s a b).gen = s.gen ∧
    (responseArrives s a b).ruling = s.ruling ∧ (responseArrives s a b).cap = s.cap ∧
    (responseArrives s a b).unit = s.unit ∧ (responseArrives s a b).pwr = s.pwr ∧ (responseArrives s a b).cfg = s.cfg ∧
    (responseArrives s a b).seams = s.seams ∧ (responseArrives s a b).fab = s.fab ∧ (responseArrives s a b).clk = s.clk ∧
    (responseArrives s a b).tim = s.tim ∧ (responseArrives s a b).lan = s.lan ∧ (responseArrives s a b).rx = s.rx ∧
    (responseArrives s a b).tx = s.tx ∧ (responseArrives s a b).shu = s.shu ∧ (responseArrives s a b).mem = s.mem ∧
    (responseArrives s a b).itg = s.itg ∧ (responseArrives s a b).upd = s.upd := by
  unfold responseArrives
  simp only []
  repeat' split
  all_goals simp

@[simp] theorem timeOut_frame (s : State) (a : Nat) (b : Nat) :
    (timeOut s a b).pending = s.pending ∧ (timeOut s a b).fresh = s.fresh ∧ (timeOut s a b).gen = s.gen ∧
    (timeOut s a b).ruling = s.ruling ∧ (timeOut s a b).cap = s.cap ∧ (timeOut s a b).unit = s.unit ∧
    (timeOut s a b).pwr = s.pwr ∧ (timeOut s a b).cfg = s.cfg ∧ (timeOut s a b).seams = s.seams ∧
    (timeOut s a b).fab = s.fab ∧ (timeOut s a b).clk = s.clk ∧ (timeOut s a b).lan = s.lan ∧ (timeOut s a b).rx = s.rx ∧
    (timeOut s a b).tx = s.tx ∧ (timeOut s a b).shu = s.shu ∧ (timeOut s a b).mem = s.mem ∧ (timeOut s a b).itg = s.itg ∧
    (timeOut s a b).upd = s.upd := by
  unfold timeOut
  split <;> simp

@[simp] theorem answerDesign_frame (s : State) (a : Nat) (b : NocPkt) :
    (answerDesign s a b).pending = s.pending ∧ (answerDesign s a b).now = s.now ∧ (answerDesign s a b).fresh = s.fresh ∧
    (answerDesign s a b).cat = s.cat ∧ (answerDesign s a b).gen = s.gen ∧ (answerDesign s a b).ruling = s.ruling ∧
    (answerDesign s a b).cap = s.cap ∧ (answerDesign s a b).mgmt = s.mgmt ∧ (answerDesign s a b).unit = s.unit ∧
    (answerDesign s a b).pwr = s.pwr ∧ (answerDesign s a b).cfg = s.cfg ∧ (answerDesign s a b).seams = s.seams ∧
    (answerDesign s a b).fab = s.fab ∧ (answerDesign s a b).clk = s.clk ∧ (answerDesign s a b).tim = s.tim ∧
    (answerDesign s a b).lan = s.lan ∧ (answerDesign s a b).rx = s.rx ∧ (answerDesign s a b).tx = s.tx ∧
    (answerDesign s a b).shu = s.shu ∧ (answerDesign s a b).mem = s.mem ∧ (answerDesign s a b).itg = s.itg ∧
    (answerDesign s a b).upd = s.upd := by
  unfold answerDesign
  simp

@[simp] theorem designRequest_frame (s : State) (a : Nat) (b : Nat) (c : NocPkt) :
    (designRequest s a b c).pending = s.pending ∧ (designRequest s a b c).now = s.now ∧
    (designRequest s a b c).fresh = s.fresh ∧ (designRequest s a b c).cat = s.cat ∧ (designRequest s a b c).gen = s.gen ∧
    (designRequest s a b c).ruling = s.ruling ∧ (designRequest s a b c).cap = s.cap ∧
    (designRequest s a b c).mgmt = s.mgmt ∧ (designRequest s a b c).unit = s.unit ∧ (designRequest s a b c).pwr = s.pwr ∧
    (designRequest s a b c).cfg = s.cfg ∧ (designRequest s a b c).seams = s.seams ∧ (designRequest s a b c).fab = s.fab ∧
    (designRequest s a b c).clk = s.clk ∧ (designRequest s a b c).tim = s.tim ∧ (designRequest s a b c).lan = s.lan ∧
    (designRequest s a b c).rx = s.rx ∧ (designRequest s a b c).tx = s.tx ∧ (designRequest s a b c).shu = s.shu ∧
    (designRequest s a b c).mem = s.mem ∧ (designRequest s a b c).itg = s.itg ∧ (designRequest s a b c).upd = s.upd := by
  unfold designRequest
  simp only []
  repeat' split
  all_goals simp

@[simp] theorem designResponse_frame (s : State) (a : Nat) (b : Nat) (c : NocPkt) :
    (designResponse s a b c).pending = s.pending ∧ (designResponse s a b c).now = s.now ∧
    (designResponse s a b c).fresh = s.fresh ∧ (designResponse s a b c).cat = s.cat ∧ (designResponse s a b c).gen = s.gen ∧
    (designResponse s a b c).ruling = s.ruling ∧ (designResponse s a b c).cap = s.cap ∧
    (designResponse s a b c).mgmt = s.mgmt ∧ (designResponse s a b c).unit = s.unit ∧ (designResponse s a b c).pwr = s.pwr ∧
    (designResponse s a b c).cfg = s.cfg ∧ (designResponse s a b c).seams = s.seams ∧ (designResponse s a b c).fab = s.fab ∧
    (designResponse s a b c).clk = s.clk ∧ (designResponse s a b c).tim = s.tim ∧ (designResponse s a b c).lan = s.lan ∧
    (designResponse s a b c).rx = s.rx ∧ (designResponse s a b c).tx = s.tx ∧ (designResponse s a b c).shu = s.shu ∧
    (designResponse s a b c).mem = s.mem ∧ (designResponse s a b c).itg = s.itg ∧ (designResponse s a b c).upd = s.upd := by
  unfold designResponse
  simp only []
  repeat' split
  all_goals simp

@[simp] theorem replay_frame (s : State) (a : Nat) (b : Nat) :
    (replay s a b).pending = s.pending ∧ (replay s a b).now = s.now ∧ (replay s a b).fresh = s.fresh ∧
    (replay s a b).gen = s.gen ∧ (replay s a b).ruling = s.ruling ∧ (replay s a b).cap = s.cap ∧
    (replay s a b).unit = s.unit ∧ (replay s a b).pwr = s.pwr ∧ (replay s a b).cfg = s.cfg ∧
    (replay s a b).seams = s.seams ∧ (replay s a b).fab = s.fab ∧ (replay s a b).clk = s.clk ∧ (replay s a b).tim = s.tim ∧
    (replay s a b).lan = s.lan ∧ (replay s a b).rx = s.rx ∧ (replay s a b).tx = s.tx ∧ (replay s a b).shu = s.shu ∧
    (replay s a b).noc = s.noc ∧ (replay s a b).mem = s.mem ∧ (replay s a b).itg = s.itg ∧ (replay s a b).upd = s.upd := by
  unfold replay
  simp

@[simp] theorem laneFails_frame (s : State) (a : Nat) (b : Nat) (c : Nat) :
    (laneFails s a b c).pending = s.pending ∧ (laneFails s a b c).now = s.now ∧ (laneFails s a b c).fresh = s.fresh ∧
    (laneFails s a b c).gen = s.gen ∧ (laneFails s a b c).ruling = s.ruling ∧ (laneFails s a b c).cap = s.cap ∧
    (laneFails s a b c).unit = s.unit ∧ (laneFails s a b c).pwr = s.pwr ∧ (laneFails s a b c).cfg = s.cfg ∧
    (laneFails s a b c).seams = s.seams ∧ (laneFails s a b c).fab = s.fab ∧ (laneFails s a b c).clk = s.clk ∧
    (laneFails s a b c).tim = s.tim ∧ (laneFails s a b c).lan = s.lan ∧ (laneFails s a b c).rx = s.rx ∧
    (laneFails s a b c).tx = s.tx ∧ (laneFails s a b c).shu = s.shu ∧ (laneFails s a b c).mem = s.mem ∧
    (laneFails s a b c).itg = s.itg ∧ (laneFails s a b c).upd = s.upd := by
  unfold laneFails
  simp

@[simp] theorem reinstateLink_frame (s : State) (a : Nat) :
    ((reinstateLink s a).getD s).pending = s.pending ∧ ((reinstateLink s a).getD s).now = s.now ∧
    ((reinstateLink s a).getD s).fresh = s.fresh ∧ ((reinstateLink s a).getD s).gen = s.gen ∧
    ((reinstateLink s a).getD s).ruling = s.ruling ∧ ((reinstateLink s a).getD s).cap = s.cap ∧
    ((reinstateLink s a).getD s).unit = s.unit ∧ ((reinstateLink s a).getD s).pwr = s.pwr ∧
    ((reinstateLink s a).getD s).cfg = s.cfg ∧ ((reinstateLink s a).getD s).seams = s.seams ∧
    ((reinstateLink s a).getD s).fab = s.fab ∧ ((reinstateLink s a).getD s).clk = s.clk ∧
    ((reinstateLink s a).getD s).tim = s.tim ∧ ((reinstateLink s a).getD s).lan = s.lan ∧
    ((reinstateLink s a).getD s).rx = s.rx ∧ ((reinstateLink s a).getD s).tx = s.tx ∧
    ((reinstateLink s a).getD s).shu = s.shu ∧ ((reinstateLink s a).getD s).noc = s.noc ∧
    ((reinstateLink s a).getD s).mem = s.mem ∧ ((reinstateLink s a).getD s).itg = s.itg ∧
    ((reinstateLink s a).getD s).upd = s.upd := by
  unfold reinstateLink
  split <;> simp

@[simp] theorem swapTables_frame (s : State) :
    (swapTables s).pending = s.pending ∧ (swapTables s).now = s.now ∧ (swapTables s).fresh = s.fresh ∧
    (swapTables s).ruling = s.ruling ∧ (swapTables s).cap = s.cap ∧ (swapTables s).unit = s.unit ∧
    (swapTables s).pwr = s.pwr ∧ (swapTables s).cfg = s.cfg ∧ (swapTables s).seams = s.seams ∧ (swapTables s).fab = s.fab ∧
    (swapTables s).clk = s.clk ∧ (swapTables s).tim = s.tim ∧ (swapTables s).lan = s.lan ∧ (swapTables s).rx = s.rx ∧
    (swapTables s).tx = s.tx ∧ (swapTables s).shu = s.shu ∧ (swapTables s).mem = s.mem ∧ (swapTables s).itg = s.itg ∧
    (swapTables s).upd = s.upd := by
  unfold swapTables
  simp

@[simp] theorem epochDrained_frame (s : State) :
    (epochDrained s).pending = s.pending ∧ (epochDrained s).now = s.now ∧ (epochDrained s).fresh = s.fresh ∧
    (epochDrained s).gen = s.gen ∧ (epochDrained s).ruling = s.ruling ∧ (epochDrained s).cap = s.cap ∧
    (epochDrained s).unit = s.unit ∧ (epochDrained s).pwr = s.pwr ∧ (epochDrained s).cfg = s.cfg ∧
    (epochDrained s).seams = s.seams ∧ (epochDrained s).fab = s.fab ∧ (epochDrained s).clk = s.clk ∧
    (epochDrained s).tim = s.tim ∧ (epochDrained s).lan = s.lan ∧ (epochDrained s).rx = s.rx ∧ (epochDrained s).tx = s.tx ∧
    (epochDrained s).shu = s.shu ∧ (epochDrained s).mem = s.mem ∧ (epochDrained s).itg = s.itg ∧
    (epochDrained s).upd = s.upd := by
  unfold epochDrained
  simp

@[simp] theorem cancelSwap_frame (s : State) (a : Nat) :
    (cancelSwap s a).pending = s.pending ∧ (cancelSwap s a).now = s.now ∧ (cancelSwap s a).fresh = s.fresh ∧
    (cancelSwap s a).gen = s.gen ∧ (cancelSwap s a).ruling = s.ruling ∧ (cancelSwap s a).cap = s.cap ∧
    (cancelSwap s a).unit = s.unit ∧ (cancelSwap s a).pwr = s.pwr ∧ (cancelSwap s a).cfg = s.cfg ∧
    (cancelSwap s a).seams = s.seams ∧ (cancelSwap s a).fab = s.fab ∧ (cancelSwap s a).clk = s.clk ∧
    (cancelSwap s a).tim = s.tim ∧ (cancelSwap s a).lan = s.lan ∧ (cancelSwap s a).rx = s.rx ∧ (cancelSwap s a).tx = s.tx ∧
    (cancelSwap s a).shu = s.shu ∧ (cancelSwap s a).mem = s.mem ∧ (cancelSwap s a).itg = s.itg ∧
    (cancelSwap s a).upd = s.upd := by
  unfold cancelSwap
  simp

@[simp] theorem putMc_frame (s : State) (a : Nat) (b : Nat) :
    (putMc s a b).pending = s.pending ∧ (putMc s a b).now = s.now ∧ (putMc s a b).fresh = s.fresh ∧
    (putMc s a b).gen = s.gen ∧ (putMc s a b).ruling = s.ruling ∧ (putMc s a b).cap = s.cap ∧ (putMc s a b).unit = s.unit ∧
    (putMc s a b).pwr = s.pwr ∧ (putMc s a b).cfg = s.cfg ∧ (putMc s a b).seams = s.seams ∧ (putMc s a b).fab = s.fab ∧
    (putMc s a b).clk = s.clk ∧ (putMc s a b).tim = s.tim ∧ (putMc s a b).lan = s.lan ∧ (putMc s a b).rx = s.rx ∧
    (putMc s a b).tx = s.tx ∧ (putMc s a b).shu = s.shu ∧ (putMc s a b).noc = s.noc ∧ (putMc s a b).mem = s.mem ∧
    (putMc s a b).itg = s.itg ∧ (putMc s a b).upd = s.upd := by
  unfold putMc
  simp

@[simp] theorem rowAccess_frame (s : State) (a : Nat) (b : Nat × Nat × Nat) (c : Bool) (d : Bool) (e : Nat) :
    (rowAccess s a b c d e).pending = s.pending ∧ (rowAccess s a b c d e).now = s.now ∧
    (rowAccess s a b c d e).fresh = s.fresh ∧ (rowAccess s a b c d e).gen = s.gen ∧
    (rowAccess s a b c d e).ruling = s.ruling ∧ (rowAccess s a b c d e).cap = s.cap ∧
    (rowAccess s a b c d e).mgmt = s.mgmt ∧ (rowAccess s a b c d e).unit = s.unit ∧ (rowAccess s a b c d e).pwr = s.pwr ∧
    (rowAccess s a b c d e).cfg = s.cfg ∧ (rowAccess s a b c d e).seams = s.seams ∧ (rowAccess s a b c d e).fab = s.fab ∧
    (rowAccess s a b c d e).clk = s.clk ∧ (rowAccess s a b c d e).tim = s.tim ∧ (rowAccess s a b c d e).lan = s.lan ∧
    (rowAccess s a b c d e).rx = s.rx ∧ (rowAccess s a b c d e).tx = s.tx ∧ (rowAccess s a b c d e).shu = s.shu ∧
    (rowAccess s a b c d e).noc = s.noc ∧ (rowAccess s a b c d e).itg = s.itg ∧ (rowAccess s a b c d e).upd = s.upd := by
  unfold rowAccess
  simp

@[simp] theorem issue_frame (s : State) (a : Nat) (b : Nat) :
    (issue s a b).pending = s.pending ∧ (issue s a b).now = s.now ∧ (issue s a b).fresh = s.fresh ∧
    (issue s a b).gen = s.gen ∧ (issue s a b).ruling = s.ruling ∧ (issue s a b).cap = s.cap ∧ (issue s a b).mgmt = s.mgmt ∧
    (issue s a b).unit = s.unit ∧ (issue s a b).pwr = s.pwr ∧ (issue s a b).cfg = s.cfg ∧ (issue s a b).seams = s.seams ∧
    (issue s a b).fab = s.fab ∧ (issue s a b).clk = s.clk ∧ (issue s a b).tim = s.tim ∧ (issue s a b).lan = s.lan ∧
    (issue s a b).rx = s.rx ∧ (issue s a b).tx = s.tx ∧ (issue s a b).shu = s.shu ∧ (issue s a b).noc = s.noc ∧
    (issue s a b).itg = s.itg ∧ (issue s a b).upd = s.upd := by
  unfold issue
  simp

@[simp] theorem plainAccess_frame (s : State) (a : NocPkt) :
    (plainAccess s a).1.pending = s.pending ∧ (plainAccess s a).1.now = s.now ∧ (plainAccess s a).1.fresh = s.fresh ∧
    (plainAccess s a).1.cat = s.cat ∧ (plainAccess s a).1.gen = s.gen ∧ (plainAccess s a).1.ruling = s.ruling ∧
    (plainAccess s a).1.cap = s.cap ∧ (plainAccess s a).1.mgmt = s.mgmt ∧ (plainAccess s a).1.unit = s.unit ∧
    (plainAccess s a).1.pwr = s.pwr ∧ (plainAccess s a).1.cfg = s.cfg ∧ (plainAccess s a).1.seams = s.seams ∧
    (plainAccess s a).1.fab = s.fab ∧ (plainAccess s a).1.clk = s.clk ∧ (plainAccess s a).1.tim = s.tim ∧
    (plainAccess s a).1.lan = s.lan ∧ (plainAccess s a).1.rx = s.rx ∧ (plainAccess s a).1.tx = s.tx ∧
    (plainAccess s a).1.shu = s.shu ∧ (plainAccess s a).1.noc = s.noc ∧ (plainAccess s a).1.itg = s.itg ∧
    (plainAccess s a).1.upd = s.upd := by
  unfold plainAccess
  repeat' split
  all_goals simp

@[simp] theorem archiveBad_frame (s : State) (a : Nat) (b : Nat) (c : Nat) :
    (archiveBad s a b c).pending = s.pending ∧ (archiveBad s a b c).now = s.now ∧ (archiveBad s a b c).fresh = s.fresh ∧
    (archiveBad s a b c).gen = s.gen ∧ (archiveBad s a b c).ruling = s.ruling ∧ (archiveBad s a b c).cap = s.cap ∧
    (archiveBad s a b c).unit = s.unit ∧ (archiveBad s a b c).pwr = s.pwr ∧ (archiveBad s a b c).cfg = s.cfg ∧
    (archiveBad s a b c).seams = s.seams ∧ (archiveBad s a b c).fab = s.fab ∧ (archiveBad s a b c).clk = s.clk ∧
    (archiveBad s a b c).tim = s.tim ∧ (archiveBad s a b c).lan = s.lan ∧ (archiveBad s a b c).rx = s.rx ∧
    (archiveBad s a b c).tx = s.tx ∧ (archiveBad s a b c).shu = s.shu ∧ (archiveBad s a b c).noc = s.noc ∧
    (archiveBad s a b c).mem = s.mem ∧ (archiveBad s a b c).itg = s.itg ∧ (archiveBad s a b c).upd = s.upd := by
  unfold archiveBad
  simp

@[simp] theorem archiveOne_frame (s : State) (a : Nat) (b : Nat) :
    (archiveOne s a b).pending = s.pending ∧ (archiveOne s a b).now = s.now ∧ (archiveOne s a b).fresh = s.fresh ∧
    (archiveOne s a b).gen = s.gen ∧ (archiveOne s a b).ruling = s.ruling ∧ (archiveOne s a b).cap = s.cap ∧
    (archiveOne s a b).unit = s.unit ∧ (archiveOne s a b).pwr = s.pwr ∧ (archiveOne s a b).cfg = s.cfg ∧
    (archiveOne s a b).seams = s.seams ∧ (archiveOne s a b).fab = s.fab ∧ (archiveOne s a b).clk = s.clk ∧
    (archiveOne s a b).tim = s.tim ∧ (archiveOne s a b).lan = s.lan ∧ (archiveOne s a b).rx = s.rx ∧
    (archiveOne s a b).tx = s.tx ∧ (archiveOne s a b).shu = s.shu ∧ (archiveOne s a b).noc = s.noc ∧
    (archiveOne s a b).mem = s.mem ∧ (archiveOne s a b).itg = s.itg ∧ (archiveOne s a b).upd = s.upd := by
  unfold archiveOne
  simp

@[simp] theorem addUpsets_frame (s : State) (a : Nat) (b : List (BitVec 26 × Bool)) :
    (addUpsets s a b).pending = s.pending ∧ (addUpsets s a b).now = s.now ∧ (addUpsets s a b).fresh = s.fresh ∧
    (addUpsets s a b).cat = s.cat ∧ (addUpsets s a b).gen = s.gen ∧ (addUpsets s a b).ruling = s.ruling ∧
    (addUpsets s a b).cap = s.cap ∧ (addUpsets s a b).mgmt = s.mgmt ∧ (addUpsets s a b).unit = s.unit ∧
    (addUpsets s a b).pwr = s.pwr ∧ (addUpsets s a b).cfg = s.cfg ∧ (addUpsets s a b).seams = s.seams ∧
    (addUpsets s a b).fab = s.fab ∧ (addUpsets s a b).clk = s.clk ∧ (addUpsets s a b).tim = s.tim ∧
    (addUpsets s a b).lan = s.lan ∧ (addUpsets s a b).rx = s.rx ∧ (addUpsets s a b).tx = s.tx ∧
    (addUpsets s a b).shu = s.shu ∧ (addUpsets s a b).noc = s.noc ∧ (addUpsets s a b).itg = s.itg ∧
    (addUpsets s a b).upd = s.upd := by
  unfold addUpsets
  simp

@[simp] theorem cleanGranule_frame (s : State) (a : Nat) :
    (cleanGranule s a).pending = s.pending ∧ (cleanGranule s a).now = s.now ∧ (cleanGranule s a).fresh = s.fresh ∧
    (cleanGranule s a).cat = s.cat ∧ (cleanGranule s a).gen = s.gen ∧ (cleanGranule s a).ruling = s.ruling ∧
    (cleanGranule s a).cap = s.cap ∧ (cleanGranule s a).mgmt = s.mgmt ∧ (cleanGranule s a).unit = s.unit ∧
    (cleanGranule s a).pwr = s.pwr ∧ (cleanGranule s a).cfg = s.cfg ∧ (cleanGranule s a).seams = s.seams ∧
    (cleanGranule s a).fab = s.fab ∧ (cleanGranule s a).clk = s.clk ∧ (cleanGranule s a).tim = s.tim ∧
    (cleanGranule s a).lan = s.lan ∧ (cleanGranule s a).rx = s.rx ∧ (cleanGranule s a).tx = s.tx ∧
    (cleanGranule s a).shu = s.shu ∧ (cleanGranule s a).noc = s.noc ∧ (cleanGranule s a).itg = s.itg ∧
    (cleanGranule s a).upd = s.upd := by
  unfold cleanGranule
  simp

@[simp] theorem archiveRead_frame (s : State) (a : Nat) (b : Nat) (c : Nat) :
    (archiveRead s a b c).1.pending = s.pending ∧ (archiveRead s a b c).1.now = s.now ∧
    (archiveRead s a b c).1.fresh = s.fresh ∧ (archiveRead s a b c).1.gen = s.gen ∧
    (archiveRead s a b c).1.ruling = s.ruling ∧ (archiveRead s a b c).1.cap = s.cap ∧
    (archiveRead s a b c).1.unit = s.unit ∧ (archiveRead s a b c).1.pwr = s.pwr ∧ (archiveRead s a b c).1.cfg = s.cfg ∧
    (archiveRead s a b c).1.seams = s.seams ∧ (archiveRead s a b c).1.fab = s.fab ∧ (archiveRead s a b c).1.clk = s.clk ∧
    (archiveRead s a b c).1.tim = s.tim ∧ (archiveRead s a b c).1.lan = s.lan ∧ (archiveRead s a b c).1.rx = s.rx ∧
    (archiveRead s a b c).1.tx = s.tx ∧ (archiveRead s a b c).1.shu = s.shu ∧ (archiveRead s a b c).1.noc = s.noc ∧
    (archiveRead s a b c).1.mem = s.mem ∧ (archiveRead s a b c).1.itg = s.itg ∧ (archiveRead s a b c).1.upd = s.upd := by
  unfold archiveRead
  simp only []
  repeat' split
  all_goals simp

@[simp] theorem archiveWrite_frame (s : State) (a : Nat) (b : Nat) (c : Nat) (d : Nat) (e : List Byte) :
    ((archiveWrite s a b c d e).getD s).pending = s.pending ∧ ((archiveWrite s a b c d e).getD s).now = s.now ∧
    ((archiveWrite s a b c d e).getD s).fresh = s.fresh ∧ ((archiveWrite s a b c d e).getD s).gen = s.gen ∧
    ((archiveWrite s a b c d e).getD s).ruling = s.ruling ∧ ((archiveWrite s a b c d e).getD s).cap = s.cap ∧
    ((archiveWrite s a b c d e).getD s).mgmt = s.mgmt ∧ ((archiveWrite s a b c d e).getD s).unit = s.unit ∧
    ((archiveWrite s a b c d e).getD s).pwr = s.pwr ∧ ((archiveWrite s a b c d e).getD s).cfg = s.cfg ∧
    ((archiveWrite s a b c d e).getD s).seams = s.seams ∧ ((archiveWrite s a b c d e).getD s).fab = s.fab ∧
    ((archiveWrite s a b c d e).getD s).clk = s.clk ∧ ((archiveWrite s a b c d e).getD s).tim = s.tim ∧
    ((archiveWrite s a b c d e).getD s).lan = s.lan ∧ ((archiveWrite s a b c d e).getD s).rx = s.rx ∧
    ((archiveWrite s a b c d e).getD s).tx = s.tx ∧ ((archiveWrite s a b c d e).getD s).shu = s.shu ∧
    ((archiveWrite s a b c d e).getD s).noc = s.noc ∧ ((archiveWrite s a b c d e).getD s).itg = s.itg ∧
    ((archiveWrite s a b c d e).getD s).upd = s.upd := by
  unfold archiveWrite
  simp only []
  repeat' split
  all_goals simp

@[simp] theorem archiveAccess_frame (s : State) (a : NocPkt) :
    (archiveAccess s a).pending = s.pending ∧ (archiveAccess s a).now = s.now ∧ (archiveAccess s a).fresh = s.fresh ∧
    (archiveAccess s a).gen = s.gen ∧ (archiveAccess s a).ruling = s.ruling ∧ (archiveAccess s a).cap = s.cap ∧
    (archiveAccess s a).unit = s.unit ∧ (archiveAccess s a).pwr = s.pwr ∧ (archiveAccess s a).cfg = s.cfg ∧
    (archiveAccess s a).seams = s.seams ∧ (archiveAccess s a).fab = s.fab ∧ (archiveAccess s a).clk = s.clk ∧
    (archiveAccess s a).tim = s.tim ∧ (archiveAccess s a).lan = s.lan ∧ (archiveAccess s a).rx = s.rx ∧
    (archiveAccess s a).tx = s.tx ∧ (archiveAccess s a).shu = s.shu ∧ (archiveAccess s a).itg = s.itg ∧
    (archiveAccess s a).upd = s.upd := by
  unfold archiveAccess
  simp only []
  repeat' split
  all_goals simp

@[simp] theorem archiveComplete_frame (s : State) (a : Nat) :
    (archiveComplete s a).pending = s.pending ∧ (archiveComplete s a).now = s.now ∧ (archiveComplete s a).fresh = s.fresh ∧
    (archiveComplete s a).gen = s.gen ∧ (archiveComplete s a).ruling = s.ruling ∧ (archiveComplete s a).cap = s.cap ∧
    (archiveComplete s a).unit = s.unit ∧ (archiveComplete s a).pwr = s.pwr ∧ (archiveComplete s a).cfg = s.cfg ∧
    (archiveComplete s a).seams = s.seams ∧ (archiveComplete s a).fab = s.fab ∧ (archiveComplete s a).clk = s.clk ∧
    (archiveComplete s a).tim = s.tim ∧ (archiveComplete s a).lan = s.lan ∧ (archiveComplete s a).rx = s.rx ∧
    (archiveComplete s a).tx = s.tx ∧ (archiveComplete s a).shu = s.shu ∧ (archiveComplete s a).itg = s.itg ∧
    (archiveComplete s a).upd = s.upd := by
  unfold archiveComplete
  split <;> simp

@[simp] theorem State_setRank_frame (s : State) (a : Nat) (b : Nat) (c : Rank → Rank) :
    (State.setRank s a b c).pending = s.pending ∧ (State.setRank s a b c).now = s.now ∧
    (State.setRank s a b c).fresh = s.fresh ∧ (State.setRank s a b c).cat = s.cat ∧ (State.setRank s a b c).gen = s.gen ∧
    (State.setRank s a b c).ruling = s.ruling ∧ (State.setRank s a b c).cap = s.cap ∧
    (State.setRank s a b c).mgmt = s.mgmt ∧ (State.setRank s a b c).unit = s.unit ∧ (State.setRank s a b c).pwr = s.pwr ∧
    (State.setRank s a b c).cfg = s.cfg ∧ (State.setRank s a b c).seams = s.seams ∧ (State.setRank s a b c).fab = s.fab ∧
    (State.setRank s a b c).clk = s.clk ∧ (State.setRank s a b c).tim = s.tim ∧ (State.setRank s a b c).lan = s.lan ∧
    (State.setRank s a b c).rx = s.rx ∧ (State.setRank s a b c).tx = s.tx ∧ (State.setRank s a b c).shu = s.shu ∧
    (State.setRank s a b c).noc = s.noc ∧ (State.setRank s a b c).itg = s.itg ∧ (State.setRank s a b c).upd = s.upd := by
  unfold State.setRank
  simp

@[simp] theorem refresh_frame (s : State) (a : Nat) (b : Nat) :
    (refresh s a b).pending = s.pending ∧ (refresh s a b).fresh = s.fresh ∧ (refresh s a b).gen = s.gen ∧
    (refresh s a b).ruling = s.ruling ∧ (refresh s a b).cap = s.cap ∧ (refresh s a b).unit = s.unit ∧
    (refresh s a b).pwr = s.pwr ∧ (refresh s a b).cfg = s.cfg ∧ (refresh s a b).seams = s.seams ∧
    (refresh s a b).fab = s.fab ∧ (refresh s a b).clk = s.clk ∧ (refresh s a b).lan = s.lan ∧ (refresh s a b).rx = s.rx ∧
    (refresh s a b).tx = s.tx ∧ (refresh s a b).shu = s.shu ∧ (refresh s a b).noc = s.noc ∧ (refresh s a b).itg = s.itg ∧
    (refresh s a b).upd = s.upd := by
  unfold refresh
  split <;> simp

@[simp] theorem panicEnds_frame (s : State) (a : Nat) :
    (panicEnds s a).pending = s.pending ∧ (panicEnds s a).fresh = s.fresh ∧ (panicEnds s a).gen = s.gen ∧
    (panicEnds s a).ruling = s.ruling ∧ (panicEnds s a).cap = s.cap ∧ (panicEnds s a).mgmt = s.mgmt ∧
    (panicEnds s a).unit = s.unit ∧ (panicEnds s a).pwr = s.pwr ∧ (panicEnds s a).cfg = s.cfg ∧
    (panicEnds s a).seams = s.seams ∧ (panicEnds s a).fab = s.fab ∧ (panicEnds s a).clk = s.clk ∧
    (panicEnds s a).lan = s.lan ∧ (panicEnds s a).rx = s.rx ∧ (panicEnds s a).tx = s.tx ∧ (panicEnds s a).shu = s.shu ∧
    (panicEnds s a).noc = s.noc ∧ (panicEnds s a).itg = s.itg ∧ (panicEnds s a).upd = s.upd := by
  unfold panicEnds
  simp

@[simp] theorem powerDown_frame (s : State) (a : Nat) (b : Nat) :
    (powerDown s a b).pending = s.pending ∧ (powerDown s a b).fresh = s.fresh ∧ (powerDown s a b).gen = s.gen ∧
    (powerDown s a b).ruling = s.ruling ∧ (powerDown s a b).cap = s.cap ∧ (powerDown s a b).mgmt = s.mgmt ∧
    (powerDown s a b).unit = s.unit ∧ (powerDown s a b).pwr = s.pwr ∧ (powerDown s a b).cfg = s.cfg ∧
    (powerDown s a b).seams = s.seams ∧ (powerDown s a b).fab = s.fab ∧ (powerDown s a b).clk = s.clk ∧
    (powerDown s a b).lan = s.lan ∧ (powerDown s a b).rx = s.rx ∧ (powerDown s a b).tx = s.tx ∧
    (powerDown s a b).shu = s.shu ∧ (powerDown s a b).noc = s.noc ∧ (powerDown s a b).itg = s.itg ∧
    (powerDown s a b).upd = s.upd := by
  unfold powerDown
  split <;> simp

@[simp] theorem dropRequests_frame (s : State) (a : Nat) :
    (dropRequests s a).pending = s.pending ∧ (dropRequests s a).now = s.now ∧ (dropRequests s a).fresh = s.fresh ∧
    (dropRequests s a).cat = s.cat ∧ (dropRequests s a).gen = s.gen ∧ (dropRequests s a).ruling = s.ruling ∧
    (dropRequests s a).cap = s.cap ∧ (dropRequests s a).mgmt = s.mgmt ∧ (dropRequests s a).unit = s.unit ∧
    (dropRequests s a).pwr = s.pwr ∧ (dropRequests s a).cfg = s.cfg ∧ (dropRequests s a).seams = s.seams ∧
    (dropRequests s a).fab = s.fab ∧ (dropRequests s a).clk = s.clk ∧ (dropRequests s a).tim = s.tim ∧
    (dropRequests s a).lan = s.lan ∧ (dropRequests s a).rx = s.rx ∧ (dropRequests s a).tx = s.tx ∧
    (dropRequests s a).shu = s.shu ∧ (dropRequests s a).upd = s.upd := by
  unfold dropRequests
  simp

@[simp] theorem loseChannel_frame (s : State) (a : Nat) (b : Nat) :
    (loseChannel s a b).pending = s.pending ∧ (loseChannel s a b).now = s.now ∧ (loseChannel s a b).fresh = s.fresh ∧
    (loseChannel s a b).gen = s.gen ∧ (loseChannel s a b).ruling = s.ruling ∧ (loseChannel s a b).cap = s.cap ∧
    (loseChannel s a b).unit = s.unit ∧ (loseChannel s a b).pwr = s.pwr ∧ (loseChannel s a b).cfg = s.cfg ∧
    (loseChannel s a b).seams = s.seams ∧ (loseChannel s a b).fab = s.fab ∧ (loseChannel s a b).clk = s.clk ∧
    (loseChannel s a b).tim = s.tim ∧ (loseChannel s a b).lan = s.lan ∧ (loseChannel s a b).rx = s.rx ∧
    (loseChannel s a b).tx = s.tx ∧ (loseChannel s a b).shu = s.shu ∧ (loseChannel s a b).upd = s.upd := by
  unfold loseChannel
  simp only []
  repeat' split
  all_goals simp

@[simp] theorem track_frame (s : State) (a : Nat) (b : Nat) (c : Bool) (d : Bool) :
    (track s a b c d).pending = s.pending ∧ (track s a b c d).fresh = s.fresh ∧ (track s a b c d).gen = s.gen ∧
    (track s a b c d).ruling = s.ruling ∧ (track s a b c d).cap = s.cap ∧ (track s a b c d).unit = s.unit ∧
    (track s a b c d).pwr = s.pwr ∧ (track s a b c d).cfg = s.cfg ∧ (track s a b c d).seams = s.seams ∧
    (track s a b c d).fab = s.fab ∧ (track s a b c d).clk = s.clk ∧ (track s a b c d).lan = s.lan ∧
    (track s a b c d).rx = s.rx ∧ (track s a b c d).tx = s.tx ∧ (track s a b c d).shu = s.shu ∧
    (track s a b c d).upd = s.upd := by
  unfold track
  simp

@[simp] theorem showMemory_frame (s : State) :
    (showMemory s).pending = s.pending ∧ (showMemory s).now = s.now ∧ (showMemory s).fresh = s.fresh ∧
    (showMemory s).gen = s.gen ∧ (showMemory s).ruling = s.ruling ∧ (showMemory s).cap = s.cap ∧
    (showMemory s).mgmt = s.mgmt ∧ (showMemory s).unit = s.unit ∧ (showMemory s).pwr = s.pwr ∧ (showMemory s).cfg = s.cfg ∧
    (showMemory s).seams = s.seams ∧ (showMemory s).fab = s.fab ∧ (showMemory s).clk = s.clk ∧ (showMemory s).tim = s.tim ∧
    (showMemory s).lan = s.lan ∧ (showMemory s).rx = s.rx ∧ (showMemory s).tx = s.tx ∧ (showMemory s).shu = s.shu ∧
    (showMemory s).noc = s.noc ∧ (showMemory s).mem = s.mem ∧ (showMemory s).itg = s.itg ∧ (showMemory s).upd = s.upd := by
  unfold showMemory
  simp

@[simp] theorem trainingEnds_frame (s : State) (a : Nat) (b : Nat) (c : Nat) (d : Option Nat) :
    (trainingEnds s a b c d).pending = s.pending ∧ (trainingEnds s a b c d).now = s.now ∧
    (trainingEnds s a b c d).fresh = s.fresh ∧ (trainingEnds s a b c d).gen = s.gen ∧
    (trainingEnds s a b c d).ruling = s.ruling ∧ (trainingEnds s a b c d).cap = s.cap ∧
    (trainingEnds s a b c d).unit = s.unit ∧ (trainingEnds s a b c d).pwr = s.pwr ∧ (trainingEnds s a b c d).cfg = s.cfg ∧
    (trainingEnds s a b c d).seams = s.seams ∧ (trainingEnds s a b c d).fab = s.fab ∧ (trainingEnds s a b c d).clk = s.clk ∧
    (trainingEnds s a b c d).tim = s.tim ∧ (trainingEnds s a b c d).lan = s.lan ∧ (trainingEnds s a b c d).rx = s.rx ∧
    (trainingEnds s a b c d).tx = s.tx ∧ (trainingEnds s a b c d).shu = s.shu ∧ (trainingEnds s a b c d).upd = s.upd := by
  unfold trainingEnds
  repeat' split
  all_goals simp

@[simp] theorem blankChannel_frame (s : State) (a : Nat) :
    (blankChannel s a).pending = s.pending ∧ (blankChannel s a).now = s.now ∧ (blankChannel s a).fresh = s.fresh ∧
    (blankChannel s a).gen = s.gen ∧ (blankChannel s a).ruling = s.ruling ∧ (blankChannel s a).cap = s.cap ∧
    (blankChannel s a).mgmt = s.mgmt ∧ (blankChannel s a).unit = s.unit ∧ (blankChannel s a).pwr = s.pwr ∧
    (blankChannel s a).cfg = s.cfg ∧ (blankChannel s a).seams = s.seams ∧ (blankChannel s a).fab = s.fab ∧
    (blankChannel s a).clk = s.clk ∧ (blankChannel s a).tim = s.tim ∧ (blankChannel s a).lan = s.lan ∧
    (blankChannel s a).rx = s.rx ∧ (blankChannel s a).tx = s.tx ∧ (blankChannel s a).shu = s.shu ∧
    (blankChannel s a).noc = s.noc ∧ (blankChannel s a).itg = s.itg ∧ (blankChannel s a).upd = s.upd := by
  unfold blankChannel
  simp

@[simp] theorem moveContents_frame (a : State) (s : State) (b : List Nat) :
    (moveContents a s b).pending = s.pending ∧ (moveContents a s b).now = s.now ∧ (moveContents a s b).fresh = s.fresh ∧
    (moveContents a s b).cat = s.cat ∧ (moveContents a s b).gen = s.gen ∧ (moveContents a s b).ruling = s.ruling ∧
    (moveContents a s b).cap = s.cap ∧ (moveContents a s b).mgmt = s.mgmt ∧ (moveContents a s b).unit = s.unit ∧
    (moveContents a s b).pwr = s.pwr ∧ (moveContents a s b).cfg = s.cfg ∧ (moveContents a s b).seams = s.seams ∧
    (moveContents a s b).fab = s.fab ∧ (moveContents a s b).clk = s.clk ∧ (moveContents a s b).tim = s.tim ∧
    (moveContents a s b).lan = s.lan ∧ (moveContents a s b).rx = s.rx ∧ (moveContents a s b).tx = s.tx ∧
    (moveContents a s b).shu = s.shu ∧ (moveContents a s b).noc = s.noc ∧ (moveContents a s b).itg = s.itg ∧
    (moveContents a s b).upd = s.upd := by
  unfold moveContents
  simp

@[simp] theorem startMemory_frame (s : State) (a : Nat) :
    (startMemory s a).1.pending = s.pending ∧ (startMemory s a).1.now = s.now ∧ (startMemory s a).1.fresh = s.fresh ∧
    (startMemory s a).1.gen = s.gen ∧ (startMemory s a).1.ruling = s.ruling ∧ (startMemory s a).1.cap = s.cap ∧
    (startMemory s a).1.unit = s.unit ∧ (startMemory s a).1.pwr = s.pwr ∧ (startMemory s a).1.cfg = s.cfg ∧
    (startMemory s a).1.seams = s.seams ∧ (startMemory s a).1.fab = s.fab ∧ (startMemory s a).1.clk = s.clk ∧
    (startMemory s a).1.tim = s.tim ∧ (startMemory s a).1.lan = s.lan ∧ (startMemory s a).1.rx = s.rx ∧
    (startMemory s a).1.tx = s.tx ∧ (startMemory s a).1.shu = s.shu ∧ (startMemory s a).1.upd = s.upd := by
  unfold startMemory
  simp

@[simp] theorem resetMemory_frame (s : State) :
    (resetMemory s).pending = s.pending ∧ (resetMemory s).now = s.now ∧ (resetMemory s).fresh = s.fresh ∧
    (resetMemory s).gen = s.gen ∧ (resetMemory s).ruling = s.ruling ∧ (resetMemory s).cap = s.cap ∧
    (resetMemory s).unit = s.unit ∧ (resetMemory s).pwr = s.pwr ∧ (resetMemory s).cfg = s.cfg ∧
    (resetMemory s).seams = s.seams ∧ (resetMemory s).fab = s.fab ∧ (resetMemory s).clk = s.clk ∧
    (resetMemory s).tim = s.tim ∧ (resetMemory s).lan = s.lan ∧ (resetMemory s).rx = s.rx ∧ (resetMemory s).tx = s.tx ∧
    (resetMemory s).shu = s.shu ∧ (resetMemory s).upd = s.upd := by
  unfold resetMemory
  simp

@[simp] theorem asyncSets_frame (s : State) (a : Option Nat) (b : Nat) (c : Elem) :
    (asyncSets s a b c).pending = s.pending ∧ (asyncSets s a b c).now = s.now ∧ (asyncSets s a b c).fresh = s.fresh ∧
    (asyncSets s a b c).cat = s.cat ∧ (asyncSets s a b c).gen = s.gen ∧ (asyncSets s a b c).ruling = s.ruling ∧
    (asyncSets s a b c).cap = s.cap ∧ (asyncSets s a b c).mgmt = s.mgmt ∧ (asyncSets s a b c).unit = s.unit ∧
    (asyncSets s a b c).pwr = s.pwr ∧ (asyncSets s a b c).cfg = s.cfg ∧ (asyncSets s a b c).seams = s.seams ∧
    (asyncSets s a b c).clk = s.clk ∧ (asyncSets s a b c).tim = s.tim ∧ (asyncSets s a b c).lan = s.lan ∧
    (asyncSets s a b c).rx = s.rx ∧ (asyncSets s a b c).tx = s.tx ∧ (asyncSets s a b c).shu = s.shu ∧
    (asyncSets s a b c).noc = s.noc ∧ (asyncSets s a b c).mem = s.mem ∧ (asyncSets s a b c).itg = s.itg ∧
    (asyncSets s a b c).upd = s.upd := by
  unfold asyncSets
  simp

@[simp] theorem sweep_frame (s : State) :
    (sweep s).pending = s.pending ∧ (sweep s).now = s.now ∧ (sweep s).fresh = s.fresh ∧ (sweep s).cat = s.cat ∧
    (sweep s).gen = s.gen ∧ (sweep s).ruling = s.ruling ∧ (sweep s).cap = s.cap ∧ (sweep s).mgmt = s.mgmt ∧
    (sweep s).unit = s.unit ∧ (sweep s).pwr = s.pwr ∧ (sweep s).cfg = s.cfg ∧ (sweep s).seams = s.seams ∧
    (sweep s).clk = s.clk ∧ (sweep s).tim = s.tim ∧ (sweep s).lan = s.lan ∧ (sweep s).rx = s.rx ∧ (sweep s).tx = s.tx ∧
    (sweep s).shu = s.shu ∧ (sweep s).noc = s.noc ∧ (sweep s).mem = s.mem ∧ (sweep s).itg = s.itg ∧ (sweep s).upd = s.upd := by
  unfold sweep
  simp

@[simp] theorem settleWires_frame (s : State) :
    (settleWires s).pending = s.pending ∧ (settleWires s).now = s.now ∧ (settleWires s).fresh = s.fresh ∧
    (settleWires s).cat = s.cat ∧ (settleWires s).gen = s.gen ∧ (settleWires s).ruling = s.ruling ∧
    (settleWires s).cap = s.cap ∧ (settleWires s).mgmt = s.mgmt ∧ (settleWires s).unit = s.unit ∧
    (settleWires s).pwr = s.pwr ∧ (settleWires s).cfg = s.cfg ∧ (settleWires s).seams = s.seams ∧
    (settleWires s).clk = s.clk ∧ (settleWires s).tim = s.tim ∧ (settleWires s).lan = s.lan ∧ (settleWires s).rx = s.rx ∧
    (settleWires s).tx = s.tx ∧ (settleWires s).shu = s.shu ∧ (settleWires s).noc = s.noc ∧ (settleWires s).mem = s.mem ∧
    (settleWires s).itg = s.itg ∧ (settleWires s).upd = s.upd := by
  unfold settleWires
  simp

@[simp] theorem elemEdge_frame (a : State) (b : List Nat) (c : Option Nat) (d : Nat) (e : Tile) (f : Nat) (s : State) :
    (elemEdge a b c d e f s).pending = s.pending ∧ (elemEdge a b c d e f s).now = s.now ∧
    (elemEdge a b c d e f s).fresh = s.fresh ∧ (elemEdge a b c d e f s).cat = s.cat ∧ (elemEdge a b c d e f s).gen = s.gen ∧
    (elemEdge a b c d e f s).ruling = s.ruling ∧ (elemEdge a b c d e f s).cap = s.cap ∧
    (elemEdge a b c d e f s).mgmt = s.mgmt ∧ (elemEdge a b c d e f s).unit = s.unit ∧ (elemEdge a b c d e f s).pwr = s.pwr ∧
    (elemEdge a b c d e f s).cfg = s.cfg ∧ (elemEdge a b c d e f s).seams = s.seams ∧ (elemEdge a b c d e f s).clk = s.clk ∧
    (elemEdge a b c d e f s).tim = s.tim ∧ (elemEdge a b c d e f s).lan = s.lan ∧ (elemEdge a b c d e f s).rx = s.rx ∧
    (elemEdge a b c d e f s).tx = s.tx ∧ (elemEdge a b c d e f s).shu = s.shu ∧ (elemEdge a b c d e f s).noc = s.noc ∧
    (elemEdge a b c d e f s).mem = s.mem ∧ (elemEdge a b c d e f s).itg = s.itg ∧ (elemEdge a b c d e f s).upd = s.upd := by
  unfold elemEdge
  simp only []
  repeat' split
  all_goals simp

@[simp] theorem fabricEdge_frame (s : State) (a : List Nat) :
    (fabricEdge s a).pending = s.pending ∧ (fabricEdge s a).now = s.now ∧ (fabricEdge s a).cat = s.cat ∧
    (fabricEdge s a).gen = s.gen ∧ (fabricEdge s a).ruling = s.ruling ∧ (fabricEdge s a).cap = s.cap ∧
    (fabricEdge s a).mgmt = s.mgmt ∧ (fabricEdge s a).unit = s.unit ∧ (fabricEdge s a).pwr = s.pwr ∧
    (fabricEdge s a).cfg = s.cfg ∧ (fabricEdge s a).seams = s.seams ∧ (fabricEdge s a).clk = s.clk ∧
    (fabricEdge s a).tim = s.tim ∧ (fabricEdge s a).lan = s.lan ∧ (fabricEdge s a).rx = s.rx ∧ (fabricEdge s a).tx = s.tx ∧
    (fabricEdge s a).shu = s.shu ∧ (fabricEdge s a).noc = s.noc ∧ (fabricEdge s a).mem = s.mem ∧
    (fabricEdge s a).itg = s.itg ∧ (fabricEdge s a).upd = s.upd := by
  unfold fabricEdge
  simp

@[simp] theorem tickDrivers_frame (s : State) :
    (tickDrivers s).1.pending = s.pending ∧ (tickDrivers s).1.now = s.now ∧ (tickDrivers s).1.fresh = s.fresh ∧
    (tickDrivers s).1.cat = s.cat ∧ (tickDrivers s).1.gen = s.gen ∧ (tickDrivers s).1.ruling = s.ruling ∧
    (tickDrivers s).1.cap = s.cap ∧ (tickDrivers s).1.mgmt = s.mgmt ∧ (tickDrivers s).1.unit = s.unit ∧
    (tickDrivers s).1.pwr = s.pwr ∧ (tickDrivers s).1.cfg = s.cfg ∧ (tickDrivers s).1.seams = s.seams ∧
    (tickDrivers s).1.clk = s.clk ∧ (tickDrivers s).1.tim = s.tim ∧ (tickDrivers s).1.lan = s.lan ∧
    (tickDrivers s).1.rx = s.rx ∧ (tickDrivers s).1.tx = s.tx ∧ (tickDrivers s).1.shu = s.shu ∧
    (tickDrivers s).1.noc = s.noc ∧ (tickDrivers s).1.mem = s.mem ∧ (tickDrivers s).1.itg = s.itg ∧
    (tickDrivers s).1.upd = s.upd := by
  unfold tickDrivers
  refine
    ⟨?_, ?_, ?_, ?_, ?_, ?_, ?_, ?_, ?_, ?_, ?_, ?_, ?_, ?_, ?_, ?_, ?_, ?_, ?_, ?_, ?_, ?_⟩
  · exact foldl_fst_pending _ _ _ fun t x => by (repeat' split) <;> simp
  · exact foldl_fst_now _ _ _ fun t x => by (repeat' split) <;> simp
  · exact foldl_fst_fresh _ _ _ fun t x => by (repeat' split) <;> simp
  · exact foldl_fst_cat _ _ _ fun t x => by (repeat' split) <;> simp
  · exact foldl_fst_gen _ _ _ fun t x => by (repeat' split) <;> simp
  · exact foldl_fst_ruling _ _ _ fun t x => by (repeat' split) <;> simp
  · exact foldl_fst_cap _ _ _ fun t x => by (repeat' split) <;> simp
  · exact foldl_fst_mgmt _ _ _ fun t x => by (repeat' split) <;> simp
  · exact foldl_fst_unit _ _ _ fun t x => by (repeat' split) <;> simp
  · exact foldl_fst_pwr _ _ _ fun t x => by (repeat' split) <;> simp
  · exact foldl_fst_cfg _ _ _ fun t x => by (repeat' split) <;> simp
  · exact foldl_fst_seams _ _ _ fun t x => by (repeat' split) <;> simp
  · exact foldl_fst_clk _ _ _ fun t x => by (repeat' split) <;> simp
  · exact foldl_fst_tim _ _ _ fun t x => by (repeat' split) <;> simp
  · exact foldl_fst_lan _ _ _ fun t x => by (repeat' split) <;> simp
  · exact foldl_fst_rx _ _ _ fun t x => by (repeat' split) <;> simp
  · exact foldl_fst_tx _ _ _ fun t x => by (repeat' split) <;> simp
  · exact foldl_fst_shu _ _ _ fun t x => by (repeat' split) <;> simp
  · exact foldl_fst_noc _ _ _ fun t x => by (repeat' split) <;> simp
  · exact foldl_fst_mem _ _ _ fun t x => by (repeat' split) <;> simp
  · exact foldl_fst_itg _ _ _ fun t x => by (repeat' split) <;> simp
  · exact foldl_fst_upd _ _ _ fun t x => by (repeat' split) <;> simp

@[simp] theorem bundleCycle_frame (s : State) (a : Nat) (b : SeamDef) (c : Nat) :
    (bundleCycle s a b c).pending = s.pending ∧ (bundleCycle s a b c).now = s.now ∧ (bundleCycle s a b c).fresh = s.fresh ∧
    (bundleCycle s a b c).cat = s.cat ∧ (bundleCycle s a b c).gen = s.gen ∧ (bundleCycle s a b c).ruling = s.ruling ∧
    (bundleCycle s a b c).cap = s.cap ∧ (bundleCycle s a b c).mgmt = s.mgmt ∧ (bundleCycle s a b c).unit = s.unit ∧
    (bundleCycle s a b c).pwr = s.pwr ∧ (bundleCycle s a b c).cfg = s.cfg ∧ (bundleCycle s a b c).fab = s.fab ∧
    (bundleCycle s a b c).clk = s.clk ∧ (bundleCycle s a b c).tim = s.tim ∧ (bundleCycle s a b c).lan = s.lan ∧
    (bundleCycle s a b c).rx = s.rx ∧ (bundleCycle s a b c).tx = s.tx ∧ (bundleCycle s a b c).shu = s.shu ∧
    (bundleCycle s a b c).noc = s.noc ∧ (bundleCycle s a b c).mem = s.mem ∧ (bundleCycle s a b c).itg = s.itg ∧
    (bundleCycle s a b c).upd = s.upd := by
  unfold bundleCycle
  simp

@[simp] theorem fixedCycle_frame (s : State) (a : Nat) (b : SeamDef) (c : Nat) :
    (fixedCycle s a b c).pending = s.pending ∧ (fixedCycle s a b c).now = s.now ∧ (fixedCycle s a b c).fresh = s.fresh ∧
    (fixedCycle s a b c).cat = s.cat ∧ (fixedCycle s a b c).gen = s.gen ∧ (fixedCycle s a b c).ruling = s.ruling ∧
    (fixedCycle s a b c).cap = s.cap ∧ (fixedCycle s a b c).mgmt = s.mgmt ∧ (fixedCycle s a b c).unit = s.unit ∧
    (fixedCycle s a b c).pwr = s.pwr ∧ (fixedCycle s a b c).cfg = s.cfg ∧ (fixedCycle s a b c).fab = s.fab ∧
    (fixedCycle s a b c).clk = s.clk ∧ (fixedCycle s a b c).tim = s.tim ∧ (fixedCycle s a b c).lan = s.lan ∧
    (fixedCycle s a b c).rx = s.rx ∧ (fixedCycle s a b c).tx = s.tx ∧ (fixedCycle s a b c).shu = s.shu ∧
    (fixedCycle s a b c).noc = s.noc ∧ (fixedCycle s a b c).mem = s.mem ∧ (fixedCycle s a b c).itg = s.itg ∧
    (fixedCycle s a b c).upd = s.upd := by
  unfold fixedCycle
  simp

@[simp] theorem seamsCycle_frame (s : State) :
    (seamsCycle s).pending = s.pending ∧ (seamsCycle s).now = s.now ∧ (seamsCycle s).fresh = s.fresh ∧
    (seamsCycle s).gen = s.gen ∧ (seamsCycle s).ruling = s.ruling ∧ (seamsCycle s).cap = s.cap ∧
    (seamsCycle s).unit = s.unit ∧ (seamsCycle s).pwr = s.pwr ∧ (seamsCycle s).cfg = s.cfg ∧ (seamsCycle s).fab = s.fab ∧
    (seamsCycle s).clk = s.clk ∧ (seamsCycle s).tim = s.tim ∧ (seamsCycle s).lan = s.lan ∧ (seamsCycle s).rx = s.rx ∧
    (seamsCycle s).tx = s.tx ∧ (seamsCycle s).shu = s.shu ∧ (seamsCycle s).noc = s.noc ∧ (seamsCycle s).mem = s.mem ∧
    (seamsCycle s).itg = s.itg ∧ (seamsCycle s).upd = s.upd := by
  unfold seamsCycle
  simp

@[simp] theorem fabricCycle_frame (s : State) :
    (fabricCycle s).pending = s.pending ∧ (fabricCycle s).now = s.now ∧ (fabricCycle s).gen = s.gen ∧
    (fabricCycle s).ruling = s.ruling ∧ (fabricCycle s).cap = s.cap ∧ (fabricCycle s).unit = s.unit ∧
    (fabricCycle s).pwr = s.pwr ∧ (fabricCycle s).cfg = s.cfg ∧ (fabricCycle s).clk = s.clk ∧ (fabricCycle s).tim = s.tim ∧
    (fabricCycle s).lan = s.lan ∧ (fabricCycle s).rx = s.rx ∧ (fabricCycle s).tx = s.tx ∧ (fabricCycle s).shu = s.shu ∧
    (fabricCycle s).noc = s.noc ∧ (fabricCycle s).mem = s.mem ∧ (fabricCycle s).itg = s.itg ∧ (fabricCycle s).upd = s.upd := by
  unfold fabricCycle
  simp

end Sys2Proof.Machine
end

