-- ==== Sys2Proof/Laws/FramesShuttles.lean ====
section
/-! SUPPORT. What each operation over the state leaves alone:
engine entries, the management lanes and shuttles. -/

namespace Sys2Proof.Machine

@[simp] theorem sendWords_frame (s : State) (a : Nat) (b : List EssWord) :
    (sendWords s a b).1.pending = s.pending ∧ (sendWords s a b).1.now = s.now ∧ (sendWords s a b).1.fresh = s.fresh ∧
    (sendWords s a b).1.gen = s.gen ∧ (sendWords s a b).1.ruling = s.ruling ∧ (sendWords s a b).1.cap = s.cap ∧
    (sendWords s a b).1.unit = s.unit ∧ (sendWords s a b).1.pwr = s.pwr ∧ (sendWords s a b).1.cfg = s.cfg ∧
    (sendWords s a b).1.seams = s.seams ∧ (sendWords s a b).1.fab = s.fab ∧ (sendWords s a b).1.clk = s.clk ∧
    (sendWords s a b).1.tim = s.tim ∧ (sendWords s a b).1.lan = s.lan ∧ (sendWords s a b).1.tx = s.tx ∧
    (sendWords s a b).1.shu = s.shu ∧ (sendWords s a b).1.noc = s.noc ∧ (sendWords s a b).1.mem = s.mem ∧
    (sendWords s a b).1.itg = s.itg ∧ (sendWords s a b).1.upd = s.upd := by
  unfold sendWords
  simp only []
  repeat' split
  all_goals simp

@[simp] theorem sendGranule_frame (s : State) (a : Nat) (b : Nat) (c : List Byte) (d : Bool) :
    (sendGranule s a b c d).pending = s.pending ∧ (sendGranule s a b c d).now = s.now ∧
    (sendGranule s a b c d).fresh = s.fresh ∧ (sendGranule s a b c d).cat = s.cat ∧ (sendGranule s a b c d).gen = s.gen ∧
    (sendGranule s a b c d).ruling = s.ruling ∧ (sendGranule s a b c d).cap = s.cap ∧
    (sendGranule s a b c d).mgmt = s.mgmt ∧ (sendGranule s a b c d).unit = s.unit ∧ (sendGranule s a b c d).pwr = s.pwr ∧
    (sendGranule s a b c d).cfg = s.cfg ∧ (sendGranule s a b c d).seams = s.seams ∧ (sendGranule s a b c d).fab = s.fab ∧
    (sendGranule s a b c d).clk = s.clk ∧ (sendGranule s a b c d).tim = s.tim ∧ (sendGranule s a b c d).lan = s.lan ∧
    (sendGranule s a b c d).rx = s.rx ∧ (sendGranule s a b c d).tx = s.tx ∧ (sendGranule s a b c d).shu = s.shu ∧
    (sendGranule s a b c d).mem = s.mem ∧ (sendGranule s a b c d).itg = s.itg ∧ (sendGranule s a b c d).upd = s.upd := by
  unfold sendGranule
  split <;> simp

@[simp] theorem engineWrite_frame (s : State) (a : Nat) (b : Nat) (c : List Byte) (d : Bool) :
    (engineWrite s a b c d).pending = s.pending ∧ (engineWrite s a b c d).now = s.now ∧
    (engineWrite s a b c d).fresh = s.fresh ∧ (engineWrite s a b c d).gen = s.gen ∧
    (engineWrite s a b c d).ruling = s.ruling ∧ (engineWrite s a b c d).cap = s.cap ∧
    (engineWrite s a b c d).mgmt = s.mgmt ∧ (engineWrite s a b c d).unit = s.unit ∧ (engineWrite s a b c d).pwr = s.pwr ∧
    (engineWrite s a b c d).cfg = s.cfg ∧ (engineWrite s a b c d).seams = s.seams ∧ (engineWrite s a b c d).fab = s.fab ∧
    (engineWrite s a b c d).clk = s.clk ∧ (engineWrite s a b c d).tim = s.tim ∧ (engineWrite s a b c d).lan = s.lan ∧
    (engineWrite s a b c d).rx = s.rx ∧ (engineWrite s a b c d).tx = s.tx ∧ (engineWrite s a b c d).shu = s.shu ∧
    (engineWrite s a b c d).itg = s.itg ∧ (engineWrite s a b c d).upd = s.upd := by
  unfold engineWrite
  simp

@[simp] theorem touch_frame (s : State) (a : Nat) (b : Nat) (c : Bool) :
    (touch s a b c).1.pending = s.pending ∧ (touch s a b c).1.now = s.now ∧ (touch s a b c).1.fresh = s.fresh ∧
    (touch s a b c).1.gen = s.gen ∧ (touch s a b c).1.ruling = s.ruling ∧ (touch s a b c).1.cap = s.cap ∧
    (touch s a b c).1.unit = s.unit ∧ (touch s a b c).1.pwr = s.pwr ∧ (touch s a b c).1.cfg = s.cfg ∧
    (touch s a b c).1.seams = s.seams ∧ (touch s a b c).1.fab = s.fab ∧ (touch s a b c).1.clk = s.clk ∧
    (touch s a b c).1.tim = s.tim ∧ (touch s a b c).1.lan = s.lan ∧ (touch s a b c).1.rx = s.rx ∧
    (touch s a b c).1.tx = s.tx ∧ (touch s a b c).1.shu = s.shu ∧ (touch s a b c).1.noc = s.noc ∧
    (touch s a b c).1.itg = s.itg ∧ (touch s a b c).1.upd = s.upd := by
  unfold touch
  repeat' split
  all_goals simp

@[simp] theorem freeBytes_frame (s : State) (a : Nat) :
    (freeBytes s a).1.pending = s.pending ∧ (freeBytes s a).1.now = s.now ∧ (freeBytes s a).1.cat = s.cat ∧
    (freeBytes s a).1.gen = s.gen ∧ (freeBytes s a).1.ruling = s.ruling ∧ (freeBytes s a).1.cap = s.cap ∧
    (freeBytes s a).1.mgmt = s.mgmt ∧ (freeBytes s a).1.unit = s.unit ∧ (freeBytes s a).1.pwr = s.pwr ∧
    (freeBytes s a).1.cfg = s.cfg ∧ (freeBytes s a).1.seams = s.seams ∧ (freeBytes s a).1.fab = s.fab ∧
    (freeBytes s a).1.clk = s.clk ∧ (freeBytes s a).1.tim = s.tim ∧ (freeBytes s a).1.lan = s.lan ∧
    (freeBytes s a).1.rx = s.rx ∧ (freeBytes s a).1.tx = s.tx ∧ (freeBytes s a).1.shu = s.shu ∧
    (freeBytes s a).1.noc = s.noc ∧ (freeBytes s a).1.mem = s.mem ∧ (freeBytes s a).1.itg = s.itg ∧
    (freeBytes s a).1.upd = s.upd := by
  induction a generalizing s with
  | zero => simp [freeBytes]
  | succ n ih => simp [freeBytes, ih]

@[simp] theorem plainGranule_frame (s : State) (a : Nat) (b : Nat) (c : Bool) :
    (plainGranule s a b c).1.pending = s.pending ∧ (plainGranule s a b c).1.now = s.now ∧
    (plainGranule s a b c).1.gen = s.gen ∧ (plainGranule s a b c).1.ruling = s.ruling ∧
    (plainGranule s a b c).1.cap = s.cap ∧ (plainGranule s a b c).1.unit = s.unit ∧ (plainGranule s a b c).1.pwr = s.pwr ∧
    (plainGranule s a b c).1.cfg = s.cfg ∧ (plainGranule s a b c).1.seams = s.seams ∧ (plainGranule s a b c).1.fab = s.fab ∧
    (plainGranule s a b c).1.clk = s.clk ∧ (plainGranule s a b c).1.tim = s.tim ∧ (plainGranule s a b c).1.lan = s.lan ∧
    (plainGranule s a b c).1.rx = s.rx ∧ (plainGranule s a b c).1.tx = s.tx ∧ (plainGranule s a b c).1.shu = s.shu ∧
    (plainGranule s a b c).1.noc = s.noc ∧ (plainGranule s a b c).1.itg = s.itg ∧ (plainGranule s a b c).1.upd = s.upd := by
  unfold plainGranule
  split <;> simp

@[simp] theorem readGranule_frame (s : State) (a : Nat) (b : Nat) (c : Bool) :
    (readGranule s a b c).1.pending = s.pending ∧ (readGranule s a b c).1.now = s.now ∧
    (readGranule s a b c).1.gen = s.gen ∧ (readGranule s a b c).1.ruling = s.ruling ∧ (readGranule s a b c).1.cap = s.cap ∧
    (readGranule s a b c).1.unit = s.unit ∧ (readGranule s a b c).1.pwr = s.pwr ∧ (readGranule s a b c).1.cfg = s.cfg ∧
    (readGranule s a b c).1.seams = s.seams ∧ (readGranule s a b c).1.fab = s.fab ∧ (readGranule s a b c).1.clk = s.clk ∧
    (readGranule s a b c).1.tim = s.tim ∧ (readGranule s a b c).1.lan = s.lan ∧ (readGranule s a b c).1.rx = s.rx ∧
    (readGranule s a b c).1.tx = s.tx ∧ (readGranule s a b c).1.shu = s.shu ∧ (readGranule s a b c).1.upd = s.upd := by
  unfold readGranule
  simp only []
  repeat' split
  all_goals first
    | (simp; done)
    | (rename_i r heq
       obtain ⟨t, b⟩ := r
       have e := readLine_outside heq
       simp only [touch_frame]
       exact
         ⟨e .pending (by decide), e .now (by decide), e .gen (by decide), e .ruling (by decide), e .cap (by decide),
         e .unit (by decide), e .pwr (by decide), e .cfg (by decide), e .seams (by decide), e .fab (by decide),
         e .clk (by decide), e .tim (by decide), e .lan (by decide), e .rx (by decide), e .tx (by decide),
         e .shu (by decide), e .upd (by decide)⟩)

@[simp] theorem noteBurst_frame (s : State) (a : Nat) (b : Nat) (c : Nat) :
    (noteBurst s a b c).pending = s.pending ∧ (noteBurst s a b c).now = s.now ∧ (noteBurst s a b c).gen = s.gen ∧
    (noteBurst s a b c).ruling = s.ruling ∧ (noteBurst s a b c).cap = s.cap ∧ (noteBurst s a b c).mgmt = s.mgmt ∧
    (noteBurst s a b c).unit = s.unit ∧ (noteBurst s a b c).pwr = s.pwr ∧ (noteBurst s a b c).cfg = s.cfg ∧
    (noteBurst s a b c).seams = s.seams ∧ (noteBurst s a b c).fab = s.fab ∧ (noteBurst s a b c).clk = s.clk ∧
    (noteBurst s a b c).tim = s.tim ∧ (noteBurst s a b c).lan = s.lan ∧ (noteBurst s a b c).rx = s.rx ∧
    (noteBurst s a b c).tx = s.tx ∧ (noteBurst s a b c).shu = s.shu ∧ (noteBurst s a b c).mem = s.mem ∧
    (noteBurst s a b c).itg = s.itg ∧ (noteBurst s a b c).upd = s.upd := by
  unfold noteBurst
  simp

@[simp] theorem readRun_frame (s : State) (a : Nat) (b : Nat) (c : Bool) (d : Nat) :
    (readRun s a b c d).1.pending = s.pending ∧ (readRun s a b c d).1.now = s.now ∧ (readRun s a b c d).1.gen = s.gen ∧
    (readRun s a b c d).1.ruling = s.ruling ∧ (readRun s a b c d).1.cap = s.cap ∧ (readRun s a b c d).1.unit = s.unit ∧
    (readRun s a b c d).1.pwr = s.pwr ∧ (readRun s a b c d).1.cfg = s.cfg ∧ (readRun s a b c d).1.seams = s.seams ∧
    (readRun s a b c d).1.fab = s.fab ∧ (readRun s a b c d).1.clk = s.clk ∧ (readRun s a b c d).1.tim = s.tim ∧
    (readRun s a b c d).1.lan = s.lan ∧ (readRun s a b c d).1.rx = s.rx ∧ (readRun s a b c d).1.tx = s.tx ∧
    (readRun s a b c d).1.shu = s.shu ∧ (readRun s a b c d).1.upd = s.upd := by
  induction d generalizing c with
  | zero => simp [readRun]
  | succ n ih =>
    have ih := ih (a != 0x4C)
    unfold readRun
    split
    · next h => simp only [h] at ih; exact ih
    · next h =>
      simp only [h] at ih
      split <;> next h2 =>
        have q := congrArg Prod.fst h2
        simp only [] at q
        subst q
        simp [ih]

@[simp] theorem readGranules_frame (s : State) (a : Nat) (b : Nat) (c : Nat) (d : Bool) :
    (readGranules s a b c d).1.pending = s.pending ∧ (readGranules s a b c d).1.now = s.now ∧
    (readGranules s a b c d).1.gen = s.gen ∧ (readGranules s a b c d).1.ruling = s.ruling ∧
    (readGranules s a b c d).1.cap = s.cap ∧ (readGranules s a b c d).1.unit = s.unit ∧
    (readGranules s a b c d).1.pwr = s.pwr ∧ (readGranules s a b c d).1.cfg = s.cfg ∧
    (readGranules s a b c d).1.seams = s.seams ∧ (readGranules s a b c d).1.fab = s.fab ∧
    (readGranules s a b c d).1.clk = s.clk ∧ (readGranules s a b c d).1.tim = s.tim ∧
    (readGranules s a b c d).1.lan = s.lan ∧ (readGranules s a b c d).1.rx = s.rx ∧ (readGranules s a b c d).1.tx = s.tx ∧
    (readGranules s a b c d).1.shu = s.shu ∧ (readGranules s a b c d).1.upd = s.upd := by
  unfold readGranules
  have q := readRun_frame s a b d c
  revert q
  rcases readRun s a b d c with ⟨t, _ | l⟩ <;> intro q <;> simpa using q

@[simp] theorem writeFields_frame (s : State) (a : Nat) (b : List (Nat × Val)) :
    (writeFields s a b).pending = s.pending ∧ (writeFields s a b).now = s.now ∧ (writeFields s a b).fresh = s.fresh ∧
    (writeFields s a b).ruling = s.ruling ∧ (writeFields s a b).cap = s.cap ∧ (writeFields s a b).mgmt = s.mgmt ∧
    (writeFields s a b).unit = s.unit ∧ (writeFields s a b).pwr = s.pwr ∧ (writeFields s a b).cfg = s.cfg ∧
    (writeFields s a b).seams = s.seams ∧ (writeFields s a b).fab = s.fab ∧ (writeFields s a b).clk = s.clk ∧
    (writeFields s a b).tim = s.tim ∧ (writeFields s a b).lan = s.lan ∧ (writeFields s a b).rx = s.rx ∧
    (writeFields s a b).tx = s.tx ∧ (writeFields s a b).shu = s.shu ∧ (writeFields s a b).noc = s.noc ∧
    (writeFields s a b).mem = s.mem ∧ (writeFields s a b).itg = s.itg ∧ (writeFields s a b).upd = s.upd := by
  unfold writeFields
  simp

@[simp] theorem State_setSh_frame (s : State) (a : Nat) (b : Shuttle → Shuttle) :
    (State.setSh s a b).pending = s.pending ∧ (State.setSh s a b).now = s.now ∧ (State.setSh s a b).fresh = s.fresh ∧
    (State.setSh s a b).cat = s.cat ∧ (State.setSh s a b).gen = s.gen ∧ (State.setSh s a b).ruling = s.ruling ∧
    (State.setSh s a b).cap = s.cap ∧ (State.setSh s a b).mgmt = s.mgmt ∧ (State.setSh s a b).unit = s.unit ∧
    (State.setSh s a b).pwr = s.pwr ∧ (State.setSh s a b).cfg = s.cfg ∧ (State.setSh s a b).seams = s.seams ∧
    (State.setSh s a b).fab = s.fab ∧ (State.setSh s a b).clk = s.clk ∧ (State.setSh s a b).tim = s.tim ∧
    (State.setSh s a b).lan = s.lan ∧ (State.setSh s a b).rx = s.rx ∧ (State.setSh s a b).tx = s.tx ∧
    (State.setSh s a b).noc = s.noc ∧ (State.setSh s a b).mem = s.mem ∧ (State.setSh s a b).itg = s.itg ∧
    (State.setSh s a b).upd = s.upd := by
  unfold State.setSh
  simp

@[simp] theorem putSh_frame (s : State) (a : Nat) (b : Nat) :
    (putSh s a b).pending = s.pending ∧ (putSh s a b).now = s.now ∧ (putSh s a b).fresh = s.fresh ∧
    (putSh s a b).gen = s.gen ∧ (putSh s a b).ruling = s.ruling ∧ (putSh s a b).cap = s.cap ∧ (putSh s a b).mgmt = s.mgmt ∧
    (putSh s a b).unit = s.unit ∧ (putSh s a b).pwr = s.pwr ∧ (putSh s a b).cfg = s.cfg ∧ (putSh s a b).seams = s.seams ∧
    (putSh s a b).fab = s.fab ∧ (putSh s a b).tim = s.tim ∧ (putSh s a b).lan = s.lan ∧ (putSh s a b).rx = s.rx ∧
    (putSh s a b).tx = s.tx ∧ (putSh s a b).shu = s.shu ∧ (putSh s a b).noc = s.noc ∧ (putSh s a b).mem = s.mem ∧
    (putSh s a b).itg = s.itg ∧ (putSh s a b).upd = s.upd := by
  unfold putSh
  simp

@[simp] theorem pend_frame (s : State) (a : Nat) (b : Nat) :
    (pend s a b).pending = s.pending ∧ (pend s a b).now = s.now ∧ (pend s a b).fresh = s.fresh ∧ (pend s a b).cat = s.cat ∧
    (pend s a b).gen = s.gen ∧ (pend s a b).ruling = s.ruling ∧ (pend s a b).cap = s.cap ∧ (pend s a b).mgmt = s.mgmt ∧
    (pend s a b).unit = s.unit ∧ (pend s a b).pwr = s.pwr ∧ (pend s a b).cfg = s.cfg ∧ (pend s a b).seams = s.seams ∧
    (pend s a b).fab = s.fab ∧ (pend s a b).clk = s.clk ∧ (pend s a b).tim = s.tim ∧ (pend s a b).lan = s.lan ∧
    (pend s a b).rx = s.rx ∧ (pend s a b).tx = s.tx ∧ (pend s a b).noc = s.noc ∧ (pend s a b).mem = s.mem ∧
    (pend s a b).itg = s.itg ∧ (pend s a b).upd = s.upd := by
  unfold pend
  simp

@[simp] theorem streamFault_frame (s : State) (a : Nat) (b : Nat) :
    (streamFault s a b).pending = s.pending ∧ (streamFault s a b).now = s.now ∧ (streamFault s a b).fresh = s.fresh ∧
    (streamFault s a b).gen = s.gen ∧ (streamFault s a b).ruling = s.ruling ∧ (streamFault s a b).cap = s.cap ∧
    (streamFault s a b).unit = s.unit ∧ (streamFault s a b).pwr = s.pwr ∧ (streamFault s a b).cfg = s.cfg ∧
    (streamFault s a b).seams = s.seams ∧ (streamFault s a b).fab = s.fab ∧ (streamFault s a b).clk = s.clk ∧
    (streamFault s a b).tim = s.tim ∧ (streamFault s a b).lan = s.lan ∧ (streamFault s a b).rx = s.rx ∧
    (streamFault s a b).tx = s.tx ∧ (streamFault s a b).shu = s.shu ∧ (streamFault s a b).noc = s.noc ∧
    (streamFault s a b).mem = s.mem ∧ (streamFault s a b).itg = s.itg ∧ (streamFault s a b).upd = s.upd := by
  unfold streamFault
  simp

@[simp] theorem takeStream_frame (s : State) (a : Nat) (b : Nat) :
    (takeStream s a b).1.pending = s.pending ∧ (takeStream s a b).1.now = s.now ∧ (takeStream s a b).1.fresh = s.fresh ∧
    (takeStream s a b).1.gen = s.gen ∧ (takeStream s a b).1.ruling = s.ruling ∧ (takeStream s a b).1.cap = s.cap ∧
    (takeStream s a b).1.unit = s.unit ∧ (takeStream s a b).1.pwr = s.pwr ∧ (takeStream s a b).1.cfg = s.cfg ∧
    (takeStream s a b).1.seams = s.seams ∧ (takeStream s a b).1.fab = s.fab ∧ (takeStream s a b).1.clk = s.clk ∧
    (takeStream s a b).1.tim = s.tim ∧ (takeStream s a b).1.lan = s.lan ∧ (takeStream s a b).1.rx = s.rx ∧
    (takeStream s a b).1.tx = s.tx ∧ (takeStream s a b).1.noc = s.noc ∧ (takeStream s a b).1.mem = s.mem ∧
    (takeStream s a b).1.itg = s.itg ∧ (takeStream s a b).1.upd = s.upd := by
  unfold takeStream
  split <;> simp

@[simp] theorem putStream_frame (s : State) (a : Nat) (b : Nat) (c : Nat) :
    (putStream s a b c).pending = s.pending ∧ (putStream s a b c).now = s.now ∧ (putStream s a b c).fresh = s.fresh ∧
    (putStream s a b c).gen = s.gen ∧ (putStream s a b c).ruling = s.ruling ∧ (putStream s a b c).cap = s.cap ∧
    (putStream s a b c).unit = s.unit ∧ (putStream s a b c).pwr = s.pwr ∧ (putStream s a b c).cfg = s.cfg ∧
    (putStream s a b c).seams = s.seams ∧ (putStream s a b c).fab = s.fab ∧ (putStream s a b c).clk = s.clk ∧
    (putStream s a b c).tim = s.tim ∧ (putStream s a b c).lan = s.lan ∧ (putStream s a b c).rx = s.rx ∧
    (putStream s a b c).tx = s.tx ∧ (putStream s a b c).noc = s.noc ∧ (putStream s a b c).mem = s.mem ∧
    (putStream s a b c).itg = s.itg ∧ (putStream s a b c).upd = s.upd := by
  unfold putStream
  simp

@[simp] theorem putFq_frame (s : State) (a : Nat) (b : Nat) :
    (putFq s a b).pending = s.pending ∧ (putFq s a b).now = s.now ∧ (putFq s a b).fresh = s.fresh ∧
    (putFq s a b).cat = s.cat ∧ (putFq s a b).gen = s.gen ∧ (putFq s a b).ruling = s.ruling ∧ (putFq s a b).cap = s.cap ∧
    (putFq s a b).mgmt = s.mgmt ∧ (putFq s a b).unit = s.unit ∧ (putFq s a b).pwr = s.pwr ∧ (putFq s a b).cfg = s.cfg ∧
    (putFq s a b).seams = s.seams ∧ (putFq s a b).fab = s.fab ∧ (putFq s a b).clk = s.clk ∧ (putFq s a b).tim = s.tim ∧
    (putFq s a b).lan = s.lan ∧ (putFq s a b).rx = s.rx ∧ (putFq s a b).tx = s.tx ∧ (putFq s a b).noc = s.noc ∧
    (putFq s a b).mem = s.mem ∧ (putFq s a b).itg = s.itg ∧ (putFq s a b).upd = s.upd := by
  unfold putFq
  simp

@[simp] theorem takeFd_frame (s : State) (a : Nat) :
    (takeFd s a).1.pending = s.pending ∧ (takeFd s a).1.now = s.now ∧ (takeFd s a).1.cat = s.cat ∧
    (takeFd s a).1.gen = s.gen ∧ (takeFd s a).1.ruling = s.ruling ∧ (takeFd s a).1.cap = s.cap ∧
    (takeFd s a).1.mgmt = s.mgmt ∧ (takeFd s a).1.unit = s.unit ∧ (takeFd s a).1.pwr = s.pwr ∧ (takeFd s a).1.cfg = s.cfg ∧
    (takeFd s a).1.seams = s.seams ∧ (takeFd s a).1.fab = s.fab ∧ (takeFd s a).1.clk = s.clk ∧ (takeFd s a).1.tim = s.tim ∧
    (takeFd s a).1.lan = s.lan ∧ (takeFd s a).1.rx = s.rx ∧ (takeFd s a).1.tx = s.tx ∧ (takeFd s a).1.noc = s.noc ∧
    (takeFd s a).1.mem = s.mem ∧ (takeFd s a).1.itg = s.itg ∧ (takeFd s a).1.upd = s.upd := by
  unfold takeFd
  split <;> simp

@[simp] theorem readSource_frame (s : State) (a : Nat) (b : Nat) :
    (readSource s a b).1.pending = s.pending ∧ (readSource s a b).1.now = s.now ∧ (readSource s a b).1.gen = s.gen ∧
    (readSource s a b).1.ruling = s.ruling ∧ (readSource s a b).1.cap = s.cap ∧ (readSource s a b).1.unit = s.unit ∧
    (readSource s a b).1.pwr = s.pwr ∧ (readSource s a b).1.cfg = s.cfg ∧ (readSource s a b).1.seams = s.seams ∧
    (readSource s a b).1.fab = s.fab ∧ (readSource s a b).1.clk = s.clk ∧ (readSource s a b).1.tim = s.tim ∧
    (readSource s a b).1.lan = s.lan ∧ (readSource s a b).1.rx = s.rx ∧ (readSource s a b).1.tx = s.tx ∧
    (readSource s a b).1.noc = s.noc ∧ (readSource s a b).1.mem = s.mem ∧ (readSource s a b).1.itg = s.itg ∧
    (readSource s a b).1.upd = s.upd := by
  unfold readSource
  split <;> simp

@[simp] theorem writeDest_frame (s : State) (a : Nat) (b : Nat) (c : Nat) :
    (writeDest s a b c).pending = s.pending ∧ (writeDest s a b c).now = s.now ∧ (writeDest s a b c).fresh = s.fresh ∧
    (writeDest s a b c).gen = s.gen ∧ (writeDest s a b c).ruling = s.ruling ∧ (writeDest s a b c).cap = s.cap ∧
    (writeDest s a b c).unit = s.unit ∧ (writeDest s a b c).pwr = s.pwr ∧ (writeDest s a b c).cfg = s.cfg ∧
    (writeDest s a b c).seams = s.seams ∧ (writeDest s a b c).fab = s.fab ∧ (writeDest s a b c).clk = s.clk ∧
    (writeDest s a b c).tim = s.tim ∧ (writeDest s a b c).lan = s.lan ∧ (writeDest s a b c).rx = s.rx ∧
    (writeDest s a b c).tx = s.tx ∧ (writeDest s a b c).noc = s.noc ∧ (writeDest s a b c).mem = s.mem ∧
    (writeDest s a b c).itg = s.itg ∧ (writeDest s a b c).upd = s.upd := by
  unfold writeDest
  split <;> simp

@[simp] theorem writeLoaded_frame (s : State) (a : Nat) (b : Nat) (c : Nat) :
    (writeLoaded s a b c).pending = s.pending ∧ (writeLoaded s a b c).now = s.now ∧ (writeLoaded s a b c).fresh = s.fresh ∧
    (writeLoaded s a b c).cat = s.cat ∧ (writeLoaded s a b c).gen = s.gen ∧ (writeLoaded s a b c).ruling = s.ruling ∧
    (writeLoaded s a b c).cap = s.cap ∧ (writeLoaded s a b c).mgmt = s.mgmt ∧ (writeLoaded s a b c).unit = s.unit ∧
    (writeLoaded s a b c).pwr = s.pwr ∧ (writeLoaded s a b c).cfg = s.cfg ∧ (writeLoaded s a b c).seams = s.seams ∧
    (writeLoaded s a b c).fab = s.fab ∧ (writeLoaded s a b c).clk = s.clk ∧ (writeLoaded s a b c).tim = s.tim ∧
    (writeLoaded s a b c).lan = s.lan ∧ (writeLoaded s a b c).rx = s.rx ∧ (writeLoaded s a b c).tx = s.tx ∧
    (writeLoaded s a b c).noc = s.noc ∧ (writeLoaded s a b c).mem = s.mem ∧ (writeLoaded s a b c).itg = s.itg ∧
    (writeLoaded s a b c).upd = s.upd := by
  unfold writeLoaded
  simp

@[simp] theorem putCo_frame (s : State) (a : Nat) (b : Nat) :
    (putCo s a b).pending = s.pending ∧ (putCo s a b).now = s.now ∧ (putCo s a b).fresh = s.fresh ∧
    (putCo s a b).cat = s.cat ∧ (putCo s a b).gen = s.gen ∧ (putCo s a b).ruling = s.ruling ∧ (putCo s a b).cap = s.cap ∧
    (putCo s a b).mgmt = s.mgmt ∧ (putCo s a b).unit = s.unit ∧ (putCo s a b).pwr = s.pwr ∧ (putCo s a b).cfg = s.cfg ∧
    (putCo s a b).seams = s.seams ∧ (putCo s a b).fab = s.fab ∧ (putCo s a b).clk = s.clk ∧ (putCo s a b).tim = s.tim ∧
    (putCo s a b).lan = s.lan ∧ (putCo s a b).rx = s.rx ∧ (putCo s a b).tx = s.tx ∧ (putCo s a b).noc = s.noc ∧
    (putCo s a b).mem = s.mem ∧ (putCo s a b).itg = s.itg ∧ (putCo s a b).upd = s.upd := by
  unfold putCo
  split <;> simp

@[simp] theorem State_front_frame (s : State) (a : Nat) :
    (State.front s a).pending = s.pending ∧ (State.front s a).now = s.now ∧ (State.front s a).fresh = s.fresh ∧
    (State.front s a).cat = s.cat ∧ (State.front s a).gen = s.gen ∧ (State.front s a).ruling = s.ruling ∧
    (State.front s a).cap = s.cap ∧ (State.front s a).mgmt = s.mgmt ∧ (State.front s a).unit = s.unit ∧
    (State.front s a).pwr = s.pwr ∧ (State.front s a).cfg = s.cfg ∧ (State.front s a).seams = s.seams ∧
    (State.front s a).fab = s.fab ∧ (State.front s a).clk = s.clk ∧ (State.front s a).tim = s.tim ∧
    (State.front s a).lan = s.lan ∧ (State.front s a).rx = s.rx ∧ (State.front s a).tx = s.tx ∧
    (State.front s a).noc = s.noc ∧ (State.front s a).mem = s.mem ∧ (State.front s a).itg = s.itg ∧
    (State.front s a).upd = s.upd := by
  unfold State.front
  simp

@[simp] theorem qEffect_frame (a : Nat) (b : Shuttle) (s : State) (c : ShInstr) :
    ((qEffect a b s c).getD s).pending = s.pending ∧ ((qEffect a b s c).getD s).now = s.now ∧
    ((qEffect a b s c).getD s).fresh = s.fresh ∧ ((qEffect a b s c).getD s).cat = s.cat ∧
    ((qEffect a b s c).getD s).gen = s.gen ∧ ((qEffect a b s c).getD s).ruling = s.ruling ∧
    ((qEffect a b s c).getD s).cap = s.cap ∧ ((qEffect a b s c).getD s).mgmt = s.mgmt ∧
    ((qEffect a b s c).getD s).unit = s.unit ∧ ((qEffect a b s c).getD s).pwr = s.pwr ∧
    ((qEffect a b s c).getD s).cfg = s.cfg ∧ ((qEffect a b s c).getD s).seams = s.seams ∧
    ((qEffect a b s c).getD s).fab = s.fab ∧ ((qEffect a b s c).getD s).clk = s.clk ∧
    ((qEffect a b s c).getD s).tim = s.tim ∧ ((qEffect a b s c).getD s).lan = s.lan ∧ ((qEffect a b s c).getD s).rx = s.rx ∧
    ((qEffect a b s c).getD s).tx = s.tx ∧ ((qEffect a b s c).getD s).noc = s.noc ∧ ((qEffect a b s c).getD s).mem = s.mem ∧
    ((qEffect a b s c).getD s).itg = s.itg ∧ ((qEffect a b s c).getD s).upd = s.upd := by
  unfold qEffect
  split <;> simp

@[simp] theorem aluEffect_frame (a : Nat) (b : Nat) (c : Shuttle) (s : State) (d : ShInstr) :
    ((aluEffect a b c s d).getD s).pending = s.pending ∧ ((aluEffect a b c s d).getD s).now = s.now ∧
    ((aluEffect a b c s d).getD s).fresh = s.fresh ∧ ((aluEffect a b c s d).getD s).cat = s.cat ∧
    ((aluEffect a b c s d).getD s).gen = s.gen ∧ ((aluEffect a b c s d).getD s).ruling = s.ruling ∧
    ((aluEffect a b c s d).getD s).cap = s.cap ∧ ((aluEffect a b c s d).getD s).mgmt = s.mgmt ∧
    ((aluEffect a b c s d).getD s).unit = s.unit ∧ ((aluEffect a b c s d).getD s).pwr = s.pwr ∧
    ((aluEffect a b c s d).getD s).cfg = s.cfg ∧ ((aluEffect a b c s d).getD s).seams = s.seams ∧
    ((aluEffect a b c s d).getD s).fab = s.fab ∧ ((aluEffect a b c s d).getD s).clk = s.clk ∧
    ((aluEffect a b c s d).getD s).tim = s.tim ∧ ((aluEffect a b c s d).getD s).lan = s.lan ∧
    ((aluEffect a b c s d).getD s).rx = s.rx ∧ ((aluEffect a b c s d).getD s).tx = s.tx ∧
    ((aluEffect a b c s d).getD s).noc = s.noc ∧ ((aluEffect a b c s d).getD s).mem = s.mem ∧
    ((aluEffect a b c s d).getD s).itg = s.itg ∧ ((aluEffect a b c s d).getD s).upd = s.upd := by
  unfold aluEffect
  repeat' split
  all_goals simp

@[simp] theorem mvaEffect_frame (a : Nat) (b : Shuttle) (s : State) (c : Nat) (d : Nat) (e : Nat) (f : Nat) (g : Nat)
    (h : MemAccess) (i : MemAccess) :
    (mvaEffect a b s c d e f g h i).pending = s.pending ∧ (mvaEffect a b s c d e f g h i).now = s.now ∧
    (mvaEffect a b s c d e f g h i).fresh = s.fresh ∧ (mvaEffect a b s c d e f g h i).cat = s.cat ∧
    (mvaEffect a b s c d e f g h i).gen = s.gen ∧ (mvaEffect a b s c d e f g h i).ruling = s.ruling ∧
    (mvaEffect a b s c d e f g h i).cap = s.cap ∧ (mvaEffect a b s c d e f g h i).mgmt = s.mgmt ∧
    (mvaEffect a b s c d e f g h i).unit = s.unit ∧ (mvaEffect a b s c d e f g h i).pwr = s.pwr ∧
    (mvaEffect a b s c d e f g h i).cfg = s.cfg ∧ (mvaEffect a b s c d e f g h i).seams = s.seams ∧
    (mvaEffect a b s c d e f g h i).fab = s.fab ∧ (mvaEffect a b s c d e f g h i).clk = s.clk ∧
    (mvaEffect a b s c d e f g h i).tim = s.tim ∧ (mvaEffect a b s c d e f g h i).lan = s.lan ∧
    (mvaEffect a b s c d e f g h i).rx = s.rx ∧ (mvaEffect a b s c d e f g h i).tx = s.tx ∧
    (mvaEffect a b s c d e f g h i).noc = s.noc ∧ (mvaEffect a b s c d e f g h i).mem = s.mem ∧
    (mvaEffect a b s c d e f g h i).itg = s.itg ∧ (mvaEffect a b s c d e f g h i).upd = s.upd := by
  unfold mvaEffect
  simp

@[simp] theorem repeatRc_frame (a : Nat) (b : Shuttle) (s : State) :
    (repeatRc a b s).pending = s.pending ∧ (repeatRc a b s).now = s.now ∧ (repeatRc a b s).fresh = s.fresh ∧
    (repeatRc a b s).gen = s.gen ∧ (repeatRc a b s).ruling = s.ruling ∧ (repeatRc a b s).cap = s.cap ∧
    (repeatRc a b s).unit = s.unit ∧ (repeatRc a b s).pwr = s.pwr ∧ (repeatRc a b s).cfg = s.cfg ∧
    (repeatRc a b s).seams = s.seams ∧ (repeatRc a b s).fab = s.fab ∧ (repeatRc a b s).clk = s.clk ∧
    (repeatRc a b s).tim = s.tim ∧ (repeatRc a b s).lan = s.lan ∧ (repeatRc a b s).rx = s.rx ∧ (repeatRc a b s).tx = s.tx ∧
    (repeatRc a b s).noc = s.noc ∧ (repeatRc a b s).mem = s.mem ∧ (repeatRc a b s).itg = s.itg ∧
    (repeatRc a b s).upd = s.upd := by
  unfold repeatRc
  simp

@[simp] theorem waitEffect_frame (a : Nat) (b : Nat) (s : State) :
    (waitEffect a b s).pending = s.pending ∧ (waitEffect a b s).now = s.now ∧ (waitEffect a b s).fresh = s.fresh ∧
    (waitEffect a b s).cat = s.cat ∧ (waitEffect a b s).gen = s.gen ∧ (waitEffect a b s).ruling = s.ruling ∧
    (waitEffect a b s).cap = s.cap ∧ (waitEffect a b s).mgmt = s.mgmt ∧ (waitEffect a b s).unit = s.unit ∧
    (waitEffect a b s).pwr = s.pwr ∧ (waitEffect a b s).cfg = s.cfg ∧ (waitEffect a b s).seams = s.seams ∧
    (waitEffect a b s).fab = s.fab ∧ (waitEffect a b s).clk = s.clk ∧ (waitEffect a b s).tim = s.tim ∧
    (waitEffect a b s).lan = s.lan ∧ (waitEffect a b s).rx = s.rx ∧ (waitEffect a b s).tx = s.tx ∧
    (waitEffect a b s).noc = s.noc ∧ (waitEffect a b s).mem = s.mem ∧ (waitEffect a b s).itg = s.itg ∧
    (waitEffect a b s).upd = s.upd := by
  unfold waitEffect
  simp

@[simp] theorem issueEnd_frame (s : State) (a : Nat) :
    (issueEnd s a).pending = s.pending ∧ (issueEnd s a).now = s.now ∧ (issueEnd s a).fresh = s.fresh ∧
    (issueEnd s a).cat = s.cat ∧ (issueEnd s a).gen = s.gen ∧ (issueEnd s a).ruling = s.ruling ∧
    (issueEnd s a).cap = s.cap ∧ (issueEnd s a).mgmt = s.mgmt ∧ (issueEnd s a).unit = s.unit ∧ (issueEnd s a).pwr = s.pwr ∧
    (issueEnd s a).cfg = s.cfg ∧ (issueEnd s a).seams = s.seams ∧ (issueEnd s a).fab = s.fab ∧ (issueEnd s a).clk = s.clk ∧
    (issueEnd s a).tim = s.tim ∧ (issueEnd s a).lan = s.lan ∧ (issueEnd s a).rx = s.rx ∧ (issueEnd s a).tx = s.tx ∧
    (issueEnd s a).noc = s.noc ∧ (issueEnd s a).mem = s.mem ∧ (issueEnd s a).itg = s.itg ∧ (issueEnd s a).upd = s.upd := by
  unfold issueEnd
  simp

@[simp] theorem discardPartial_frame (s : State) (a : Nat) :
    (discardPartial s a).pending = s.pending ∧ (discardPartial s a).now = s.now ∧ (discardPartial s a).fresh = s.fresh ∧
    (discardPartial s a).gen = s.gen ∧ (discardPartial s a).ruling = s.ruling ∧ (discardPartial s a).cap = s.cap ∧
    (discardPartial s a).mgmt = s.mgmt ∧ (discardPartial s a).unit = s.unit ∧ (discardPartial s a).pwr = s.pwr ∧
    (discardPartial s a).cfg = s.cfg ∧ (discardPartial s a).seams = s.seams ∧ (discardPartial s a).fab = s.fab ∧
    (discardPartial s a).clk = s.clk ∧ (discardPartial s a).tim = s.tim ∧ (discardPartial s a).lan = s.lan ∧
    (discardPartial s a).rx = s.rx ∧ (discardPartial s a).tx = s.tx ∧ (discardPartial s a).noc = s.noc ∧
    (discardPartial s a).mem = s.mem ∧ (discardPartial s a).itg = s.itg ∧ (discardPartial s a).upd = s.upd := by
  unfold discardPartial
  simp

@[simp] theorem leaveRun_frame (s : State) (a : Nat) (b : Nat) :
    (leaveRun s a b).pending = s.pending ∧ (leaveRun s a b).now = s.now ∧ (leaveRun s a b).fresh = s.fresh ∧
    (leaveRun s a b).gen = s.gen ∧ (leaveRun s a b).ruling = s.ruling ∧ (leaveRun s a b).cap = s.cap ∧
    (leaveRun s a b).mgmt = s.mgmt ∧ (leaveRun s a b).unit = s.unit ∧ (leaveRun s a b).pwr = s.pwr ∧
    (leaveRun s a b).cfg = s.cfg ∧ (leaveRun s a b).seams = s.seams ∧ (leaveRun s a b).fab = s.fab ∧
    (leaveRun s a b).tim = s.tim ∧ (leaveRun s a b).lan = s.lan ∧ (leaveRun s a b).rx = s.rx ∧ (leaveRun s a b).tx = s.tx ∧
    (leaveRun s a b).noc = s.noc ∧ (leaveRun s a b).mem = s.mem ∧ (leaveRun s a b).itg = s.itg ∧
    (leaveRun s a b).upd = s.upd := by
  unfold leaveRun
  simp

@[simp] theorem noteOver_frame (s : State) (a : Nat) (b : Nat) :
    (noteOver s a b).pending = s.pending ∧ (noteOver s a b).now = s.now ∧ (noteOver s a b).fresh = s.fresh ∧
    (noteOver s a b).gen = s.gen ∧ (noteOver s a b).ruling = s.ruling ∧ (noteOver s a b).cap = s.cap ∧
    (noteOver s a b).unit = s.unit ∧ (noteOver s a b).pwr = s.pwr ∧ (noteOver s a b).cfg = s.cfg ∧
    (noteOver s a b).seams = s.seams ∧ (noteOver s a b).fab = s.fab ∧ (noteOver s a b).clk = s.clk ∧
    (noteOver s a b).tim = s.tim ∧ (noteOver s a b).lan = s.lan ∧ (noteOver s a b).rx = s.rx ∧ (noteOver s a b).tx = s.tx ∧
    (noteOver s a b).shu = s.shu ∧ (noteOver s a b).noc = s.noc ∧ (noteOver s a b).mem = s.mem ∧
    (noteOver s a b).itg = s.itg ∧ (noteOver s a b).upd = s.upd := by
  unfold noteOver
  simp

@[simp] theorem recordCycles_frame (s : State) (a : Nat) (b : Nat) :
    (recordCycles s a b).pending = s.pending ∧ (recordCycles s a b).now = s.now ∧ (recordCycles s a b).fresh = s.fresh ∧
    (recordCycles s a b).gen = s.gen ∧ (recordCycles s a b).ruling = s.ruling ∧ (recordCycles s a b).cap = s.cap ∧
    (recordCycles s a b).unit = s.unit ∧ (recordCycles s a b).pwr = s.pwr ∧ (recordCycles s a b).cfg = s.cfg ∧
    (recordCycles s a b).seams = s.seams ∧ (recordCycles s a b).fab = s.fab ∧ (recordCycles s a b).clk = s.clk ∧
    (recordCycles s a b).tim = s.tim ∧ (recordCycles s a b).lan = s.lan ∧ (recordCycles s a b).rx = s.rx ∧
    (recordCycles s a b).tx = s.tx ∧ (recordCycles s a b).shu = s.shu ∧ (recordCycles s a b).noc = s.noc ∧
    (recordCycles s a b).mem = s.mem ∧ (recordCycles s a b).itg = s.itg ∧ (recordCycles s a b).upd = s.upd := by
  unfold recordCycles
  simp

@[simp] theorem noteDeferred_frame (s : State) (a : Nat) :
    (noteDeferred s a).pending = s.pending ∧ (noteDeferred s a).now = s.now ∧ (noteDeferred s a).fresh = s.fresh ∧
    (noteDeferred s a).gen = s.gen ∧ (noteDeferred s a).ruling = s.ruling ∧ (noteDeferred s a).cap = s.cap ∧
    (noteDeferred s a).unit = s.unit ∧ (noteDeferred s a).pwr = s.pwr ∧ (noteDeferred s a).cfg = s.cfg ∧
    (noteDeferred s a).seams = s.seams ∧ (noteDeferred s a).fab = s.fab ∧ (noteDeferred s a).clk = s.clk ∧
    (noteDeferred s a).tim = s.tim ∧ (noteDeferred s a).lan = s.lan ∧ (noteDeferred s a).rx = s.rx ∧
    (noteDeferred s a).tx = s.tx ∧ (noteDeferred s a).shu = s.shu ∧ (noteDeferred s a).noc = s.noc ∧
    (noteDeferred s a).mem = s.mem ∧ (noteDeferred s a).itg = s.itg ∧ (noteDeferred s a).upd = s.upd := by
  unfold noteDeferred
  simp

@[simp] theorem completeRun_frame (s : State) (a : Nat) :
    (completeRun s a).pending = s.pending ∧ (completeRun s a).now = s.now ∧ (completeRun s a).fresh = s.fresh ∧
    (completeRun s a).gen = s.gen ∧ (completeRun s a).ruling = s.ruling ∧ (completeRun s a).cap = s.cap ∧
    (completeRun s a).unit = s.unit ∧ (completeRun s a).pwr = s.pwr ∧ (completeRun s a).cfg = s.cfg ∧
    (completeRun s a).seams = s.seams ∧ (completeRun s a).fab = s.fab ∧ (completeRun s a).tim = s.tim ∧
    (completeRun s a).lan = s.lan ∧ (completeRun s a).rx = s.rx ∧ (completeRun s a).tx = s.tx ∧
    (completeRun s a).noc = s.noc ∧ (completeRun s a).mem = s.mem ∧ (completeRun s a).itg = s.itg ∧
    (completeRun s a).upd = s.upd := by
  unfold completeRun
  simp

@[simp] theorem startRun_frame (s : State) (a : Nat) (b : Nat) (c : Nat) :
    (startRun s a b c).pending = s.pending ∧ (startRun s a b c).now = s.now ∧ (startRun s a b c).fresh = s.fresh ∧
    (startRun s a b c).gen = s.gen ∧ (startRun s a b c).ruling = s.ruling ∧ (startRun s a b c).cap = s.cap ∧
    (startRun s a b c).mgmt = s.mgmt ∧ (startRun s a b c).unit = s.unit ∧ (startRun s a b c).pwr = s.pwr ∧
    (startRun s a b c).cfg = s.cfg ∧ (startRun s a b c).seams = s.seams ∧ (startRun s a b c).fab = s.fab ∧
    (startRun s a b c).tim = s.tim ∧ (startRun s a b c).lan = s.lan ∧ (startRun s a b c).rx = s.rx ∧
    (startRun s a b c).tx = s.tx ∧ (startRun s a b c).noc = s.noc ∧ (startRun s a b c).mem = s.mem ∧
    (startRun s a b c).itg = s.itg ∧ (startRun s a b c).upd = s.upd := by
  unfold startRun
  simp

@[simp] theorem takeInterrupt_frame (s : State) (a : Nat) (b : Nat) :
    (takeInterrupt s a b).pending = s.pending ∧ (takeInterrupt s a b).now = s.now ∧ (takeInterrupt s a b).cat = s.cat ∧
    (takeInterrupt s a b).gen = s.gen ∧ (takeInterrupt s a b).ruling = s.ruling ∧ (takeInterrupt s a b).cap = s.cap ∧
    (takeInterrupt s a b).mgmt = s.mgmt ∧ (takeInterrupt s a b).unit = s.unit ∧ (takeInterrupt s a b).pwr = s.pwr ∧
    (takeInterrupt s a b).cfg = s.cfg ∧ (takeInterrupt s a b).seams = s.seams ∧ (takeInterrupt s a b).fab = s.fab ∧
    (takeInterrupt s a b).clk = s.clk ∧ (takeInterrupt s a b).tim = s.tim ∧ (takeInterrupt s a b).lan = s.lan ∧
    (takeInterrupt s a b).rx = s.rx ∧ (takeInterrupt s a b).tx = s.tx ∧ (takeInterrupt s a b).noc = s.noc ∧
    (takeInterrupt s a b).mem = s.mem ∧ (takeInterrupt s a b).itg = s.itg ∧ (takeInterrupt s a b).upd = s.upd := by
  unfold takeInterrupt
  simp

@[simp] theorem loadImage_frame (s : State) (a : Nat) (b : List Byte) :
    (loadImage s a b).pending = s.pending ∧ (loadImage s a b).now = s.now ∧ (loadImage s a b).fresh = s.fresh ∧
    (loadImage s a b).ruling = s.ruling ∧ (loadImage s a b).cap = s.cap ∧ (loadImage s a b).unit = s.unit ∧
    (loadImage s a b).pwr = s.pwr ∧ (loadImage s a b).cfg = s.cfg ∧ (loadImage s a b).seams = s.seams ∧
    (loadImage s a b).fab = s.fab ∧ (loadImage s a b).tim = s.tim ∧ (loadImage s a b).lan = s.lan ∧
    (loadImage s a b).rx = s.rx ∧ (loadImage s a b).tx = s.tx ∧ (loadImage s a b).noc = s.noc ∧
    (loadImage s a b).mem = s.mem ∧ (loadImage s a b).itg = s.itg ∧ (loadImage s a b).upd = s.upd := by
  unfold loadImage
  simp

@[simp] theorem dropBindings_frame (s : State) (a : Nat) :
    (dropBindings s a).pending = s.pending ∧ (dropBindings s a).now = s.now ∧ (dropBindings s a).fresh = s.fresh ∧
    (dropBindings s a).ruling = s.ruling ∧ (dropBindings s a).cap = s.cap ∧ (dropBindings s a).unit = s.unit ∧
    (dropBindings s a).pwr = s.pwr ∧ (dropBindings s a).cfg = s.cfg ∧ (dropBindings s a).seams = s.seams ∧
    (dropBindings s a).fab = s.fab ∧ (dropBindings s a).clk = s.clk ∧ (dropBindings s a).tim = s.tim ∧
    (dropBindings s a).lan = s.lan ∧ (dropBindings s a).rx = s.rx ∧ (dropBindings s a).tx = s.tx ∧
    (dropBindings s a).shu = s.shu ∧ (dropBindings s a).noc = s.noc ∧ (dropBindings s a).mem = s.mem ∧
    (dropBindings s a).itg = s.itg ∧ (dropBindings s a).upd = s.upd := by
  unfold dropBindings
  simp

@[simp] theorem judgeStart_frame (s : State) (a : Nat) (b : Nat) (c : Nat) (d : StartRel) :
    (judgeStart s a b c d).1.pending = s.pending ∧ (judgeStart s a b c d).1.now = s.now ∧
    (judgeStart s a b c d).1.fresh = s.fresh ∧ (judgeStart s a b c d).1.gen = s.gen ∧
    (judgeStart s a b c d).1.ruling = s.ruling ∧ (judgeStart s a b c d).1.cap = s.cap ∧
    (judgeStart s a b c d).1.unit = s.unit ∧ (judgeStart s a b c d).1.pwr = s.pwr ∧ (judgeStart s a b c d).1.cfg = s.cfg ∧
    (judgeStart s a b c d).1.seams = s.seams ∧ (judgeStart s a b c d).1.fab = s.fab ∧ (judgeStart s a b c d).1.tim = s.tim ∧
    (judgeStart s a b c d).1.lan = s.lan ∧ (judgeStart s a b c d).1.rx = s.rx ∧ (judgeStart s a b c d).1.tx = s.tx ∧
    (judgeStart s a b c d).1.noc = s.noc ∧ (judgeStart s a b c d).1.mem = s.mem ∧ (judgeStart s a b c d).1.itg = s.itg ∧
    (judgeStart s a b c d).1.upd = s.upd := by
  unfold judgeStart
  simp only []
  repeat' split
  all_goals simp

@[simp] theorem release_frame (s : State) (a : StartRel) :
    (release s a).pending = s.pending ∧ (release s a).now = s.now ∧ (release s a).fresh = s.fresh ∧
    (release s a).gen = s.gen ∧ (release s a).cap = s.cap ∧ (release s a).unit = s.unit ∧ (release s a).pwr = s.pwr ∧
    (release s a).cfg = s.cfg ∧ (release s a).seams = s.seams ∧ (release s a).fab = s.fab ∧ (release s a).tim = s.tim ∧
    (release s a).lan = s.lan ∧ (release s a).rx = s.rx ∧ (release s a).tx = s.tx ∧ (release s a).noc = s.noc ∧
    (release s a).mem = s.mem ∧ (release s a).itg = s.itg ∧ (release s a).upd = s.upd := by
  unfold release
  simp

@[simp] theorem mapOut_frame (s : State) (a : Nat) :
    (mapOut s a).pending = s.pending ∧ (mapOut s a).now = s.now ∧ (mapOut s a).fresh = s.fresh ∧ (mapOut s a).gen = s.gen ∧
    (mapOut s a).ruling = s.ruling ∧ (mapOut s a).cap = s.cap ∧ (mapOut s a).unit = s.unit ∧ (mapOut s a).pwr = s.pwr ∧
    (mapOut s a).cfg = s.cfg ∧ (mapOut s a).seams = s.seams ∧ (mapOut s a).fab = s.fab ∧ (mapOut s a).tim = s.tim ∧
    (mapOut s a).lan = s.lan ∧ (mapOut s a).rx = s.rx ∧ (mapOut s a).tx = s.tx ∧ (mapOut s a).noc = s.noc ∧
    (mapOut s a).mem = s.mem ∧ (mapOut s a).itg = s.itg ∧ (mapOut s a).upd = s.upd := by
  unfold mapOut
  simp

@[simp] theorem reinstateCluster_frame (s : State) (a : Nat) :
    ((reinstateCluster s a).getD s).pending = s.pending ∧ ((reinstateCluster s a).getD s).now = s.now ∧
    ((reinstateCluster s a).getD s).fresh = s.fresh ∧ ((reinstateCluster s a).getD s).gen = s.gen ∧
    ((reinstateCluster s a).getD s).ruling = s.ruling ∧ ((reinstateCluster s a).getD s).cap = s.cap ∧
    ((reinstateCluster s a).getD s).unit = s.unit ∧ ((reinstateCluster s a).getD s).pwr = s.pwr ∧
    ((reinstateCluster s a).getD s).cfg = s.cfg ∧ ((reinstateCluster s a).getD s).seams = s.seams ∧
    ((reinstateCluster s a).getD s).fab = s.fab ∧ ((reinstateCluster s a).getD s).tim = s.tim ∧
    ((reinstateCluster s a).getD s).lan = s.lan ∧ ((reinstateCluster s a).getD s).rx = s.rx ∧
    ((reinstateCluster s a).getD s).tx = s.tx ∧ ((reinstateCluster s a).getD s).noc = s.noc ∧
    ((reinstateCluster s a).getD s).mem = s.mem ∧ ((reinstateCluster s a).getD s).itg = s.itg ∧
    ((reinstateCluster s a).getD s).upd = s.upd := by
  unfold reinstateCluster
  split <;> simp

@[simp] theorem resetShuttle_frame (s : State) (a : Nat) :
    (resetShuttle s a).pending = s.pending ∧ (resetShuttle s a).now = s.now ∧ (resetShuttle s a).fresh = s.fresh ∧
    (resetShuttle s a).gen = s.gen ∧ (resetShuttle s a).ruling = s.ruling ∧ (resetShuttle s a).cap = s.cap ∧
    (resetShuttle s a).mgmt = s.mgmt ∧ (resetShuttle s a).unit = s.unit ∧ (resetShuttle s a).pwr = s.pwr ∧
    (resetShuttle s a).cfg = s.cfg ∧ (resetShuttle s a).seams = s.seams ∧ (resetShuttle s a).fab = s.fab ∧
    (resetShuttle s a).tim = s.tim ∧ (resetShuttle s a).lan = s.lan ∧ (resetShuttle s a).rx = s.rx ∧
    (resetShuttle s a).tx = s.tx ∧ (resetShuttle s a).noc = s.noc ∧ (resetShuttle s a).mem = s.mem ∧
    (resetShuttle s a).itg = s.itg ∧ (resetShuttle s a).upd = s.upd := by
  unfold resetShuttle
  simp

@[simp] theorem resetShuttles_frame (s : State) :
    (resetShuttles s).pending = s.pending ∧ (resetShuttles s).now = s.now ∧ (resetShuttles s).fresh = s.fresh ∧
    (resetShuttles s).gen = s.gen ∧ (resetShuttles s).ruling = s.ruling ∧ (resetShuttles s).cap = s.cap ∧
    (resetShuttles s).mgmt = s.mgmt ∧ (resetShuttles s).unit = s.unit ∧ (resetShuttles s).pwr = s.pwr ∧
    (resetShuttles s).cfg = s.cfg ∧ (resetShuttles s).seams = s.seams ∧ (resetShuttles s).fab = s.fab ∧
    (resetShuttles s).tim = s.tim ∧ (resetShuttles s).lan = s.lan ∧ (resetShuttles s).rx = s.rx ∧
    (resetShuttles s).tx = s.tx ∧ (resetShuttles s).noc = s.noc ∧ (resetShuttles s).mem = s.mem ∧
    (resetShuttles s).itg = s.itg ∧ (resetShuttles s).upd = s.upd := by
  unfold resetShuttles
  simp

@[simp] theorem fetchRead_frame (s : State) (a : Nat) (b : Nat) (c : Nat) :
    (fetchRead s a b c).1.pending = s.pending ∧ (fetchRead s a b c).1.now = s.now ∧ (fetchRead s a b c).1.gen = s.gen ∧
    (fetchRead s a b c).1.ruling = s.ruling ∧ (fetchRead s a b c).1.cap = s.cap ∧ (fetchRead s a b c).1.unit = s.unit ∧
    (fetchRead s a b c).1.pwr = s.pwr ∧ (fetchRead s a b c).1.cfg = s.cfg ∧ (fetchRead s a b c).1.seams = s.seams ∧
    (fetchRead s a b c).1.fab = s.fab ∧ (fetchRead s a b c).1.clk = s.clk ∧ (fetchRead s a b c).1.tim = s.tim ∧
    (fetchRead s a b c).1.lan = s.lan ∧ (fetchRead s a b c).1.rx = s.rx ∧ (fetchRead s a b c).1.tx = s.tx ∧
    (fetchRead s a b c).1.shu = s.shu ∧ (fetchRead s a b c).1.upd = s.upd := by
  unfold fetchRead
  simp

@[simp] theorem endWait_frame (s : State) (a : Nat) :
    (endWait s a).pending = s.pending ∧ (endWait s a).now = s.now ∧ (endWait s a).cat = s.cat ∧ (endWait s a).gen = s.gen ∧
    (endWait s a).ruling = s.ruling ∧ (endWait s a).cap = s.cap ∧ (endWait s a).mgmt = s.mgmt ∧
    (endWait s a).unit = s.unit ∧ (endWait s a).pwr = s.pwr ∧ (endWait s a).cfg = s.cfg ∧ (endWait s a).seams = s.seams ∧
    (endWait s a).fab = s.fab ∧ (endWait s a).clk = s.clk ∧ (endWait s a).tim = s.tim ∧ (endWait s a).lan = s.lan ∧
    (endWait s a).rx = s.rx ∧ (endWait s a).tx = s.tx ∧ (endWait s a).noc = s.noc ∧ (endWait s a).mem = s.mem ∧
    (endWait s a).itg = s.itg ∧ (endWait s a).upd = s.upd := by
  unfold endWait
  simp

@[simp] theorem mgtFrame_frame (s : State) (a : Nat) (b : List Byte) :
    (mgtFrame s a b).pending = s.pending ∧ (mgtFrame s a b).now = s.now ∧ (mgtFrame s a b).fresh = s.fresh ∧
    (mgtFrame s a b).gen = s.gen ∧ (mgtFrame s a b).ruling = s.ruling ∧ (mgtFrame s a b).cap = s.cap ∧
    (mgtFrame s a b).mgmt = s.mgmt ∧ (mgtFrame s a b).unit = s.unit ∧ (mgtFrame s a b).pwr = s.pwr ∧
    (mgtFrame s a b).cfg = s.cfg ∧ (mgtFrame s a b).seams = s.seams ∧ (mgtFrame s a b).fab = s.fab ∧
    (mgtFrame s a b).clk = s.clk ∧ (mgtFrame s a b).tim = s.tim ∧ (mgtFrame s a b).lan = s.lan ∧
    (mgtFrame s a b).rx = s.rx ∧ (mgtFrame s a b).shu = s.shu ∧ (mgtFrame s a b).noc = s.noc ∧
    (mgtFrame s a b).mem = s.mem ∧ (mgtFrame s a b).itg = s.itg ∧ (mgtFrame s a b).upd = s.upd := by
  unfold mgtFrame
  split <;> simp

end Sys2Proof.Machine
end

