-- ==== Sys2Proof/Laws/FramesSystem.lean ====
section
/-! SUPPORT. What each operation over the state leaves alone:
configuration, firmware, long operations and sessions. -/

namespace Sys2Proof.Machine

@[simp] theorem putCfg_frame (s : State) (a : Nat) :
    (putCfg s a).pending = s.pending ∧ (putCfg s a).now = s.now ∧ (putCfg s a).fresh = s.fresh ∧ (putCfg s a).gen = s.gen ∧
    (putCfg s a).ruling = s.ruling ∧ (putCfg s a).cap = s.cap ∧ (putCfg s a).mgmt = s.mgmt ∧ (putCfg s a).unit = s.unit ∧
    (putCfg s a).pwr = s.pwr ∧ (putCfg s a).cfg = s.cfg ∧ (putCfg s a).seams = s.seams ∧ (putCfg s a).fab = s.fab ∧
    (putCfg s a).clk = s.clk ∧ (putCfg s a).tim = s.tim ∧ (putCfg s a).lan = s.lan ∧ (putCfg s a).rx = s.rx ∧
    (putCfg s a).tx = s.tx ∧ (putCfg s a).shu = s.shu ∧ (putCfg s a).noc = s.noc ∧ (putCfg s a).mem = s.mem ∧
    (putCfg s a).itg = s.itg ∧ (putCfg s a).upd = s.upd := by
  unfold putCfg
  simp

@[simp] theorem putPanel_frame (s : State) (a : Nat) (b : Nat) :
    (putPanel s a b).pending = s.pending ∧ (putPanel s a b).now = s.now ∧ (putPanel s a b).fresh = s.fresh ∧
    (putPanel s a b).gen = s.gen ∧ (putPanel s a b).ruling = s.ruling ∧ (putPanel s a b).cap = s.cap ∧
    (putPanel s a b).mgmt = s.mgmt ∧ (putPanel s a b).unit = s.unit ∧ (putPanel s a b).pwr = s.pwr ∧
    (putPanel s a b).cfg = s.cfg ∧ (putPanel s a b).seams = s.seams ∧ (putPanel s a b).fab = s.fab ∧
    (putPanel s a b).clk = s.clk ∧ (putPanel s a b).tim = s.tim ∧ (putPanel s a b).lan = s.lan ∧
    (putPanel s a b).rx = s.rx ∧ (putPanel s a b).tx = s.tx ∧ (putPanel s a b).shu = s.shu ∧ (putPanel s a b).noc = s.noc ∧
    (putPanel s a b).mem = s.mem ∧ (putPanel s a b).itg = s.itg ∧ (putPanel s a b).upd = s.upd := by
  unfold putPanel
  simp

@[simp] theorem State_setHem_frame (s : State) (a : Nat) (b : PanelHid → PanelHid) :
    (State.setHem s a b).pending = s.pending ∧ (State.setHem s a b).now = s.now ∧ (State.setHem s a b).fresh = s.fresh ∧
    (State.setHem s a b).cat = s.cat ∧ (State.setHem s a b).gen = s.gen ∧ (State.setHem s a b).ruling = s.ruling ∧
    (State.setHem s a b).cap = s.cap ∧ (State.setHem s a b).mgmt = s.mgmt ∧ (State.setHem s a b).unit = s.unit ∧
    (State.setHem s a b).pwr = s.pwr ∧ (State.setHem s a b).seams = s.seams ∧ (State.setHem s a b).fab = s.fab ∧
    (State.setHem s a b).clk = s.clk ∧ (State.setHem s a b).tim = s.tim ∧ (State.setHem s a b).lan = s.lan ∧
    (State.setHem s a b).rx = s.rx ∧ (State.setHem s a b).tx = s.tx ∧ (State.setHem s a b).shu = s.shu ∧
    (State.setHem s a b).noc = s.noc ∧ (State.setHem s a b).mem = s.mem ∧ (State.setHem s a b).itg = s.itg ∧
    (State.setHem s a b).upd = s.upd := by
  unfold State.setHem
  simp

@[simp] theorem State_setLoad_frame (s : State) (a : LoadPort) (b : Option Load) :
    (State.setLoad s a b).pending = s.pending ∧ (State.setLoad s a b).now = s.now ∧ (State.setLoad s a b).fresh = s.fresh ∧
    (State.setLoad s a b).cat = s.cat ∧ (State.setLoad s a b).gen = s.gen ∧ (State.setLoad s a b).ruling = s.ruling ∧
    (State.setLoad s a b).cap = s.cap ∧ (State.setLoad s a b).mgmt = s.mgmt ∧ (State.setLoad s a b).unit = s.unit ∧
    (State.setLoad s a b).pwr = s.pwr ∧ (State.setLoad s a b).seams = s.seams ∧ (State.setLoad s a b).fab = s.fab ∧
    (State.setLoad s a b).clk = s.clk ∧ (State.setLoad s a b).tim = s.tim ∧ (State.setLoad s a b).lan = s.lan ∧
    (State.setLoad s a b).rx = s.rx ∧ (State.setLoad s a b).tx = s.tx ∧ (State.setLoad s a b).shu = s.shu ∧
    (State.setLoad s a b).noc = s.noc ∧ (State.setLoad s a b).mem = s.mem ∧ (State.setLoad s a b).itg = s.itg ∧
    (State.setLoad s a b).upd = s.upd := by
  unfold State.setLoad
  split <;> simp

@[simp] theorem cancelReleases_frame (s : State) :
    (cancelReleases s).pending = s.pending ∧ (cancelReleases s).now = s.now ∧ (cancelReleases s).fresh = s.fresh ∧
    (cancelReleases s).gen = s.gen ∧ (cancelReleases s).cap = s.cap ∧ (cancelReleases s).unit = s.unit ∧
    (cancelReleases s).pwr = s.pwr ∧ (cancelReleases s).cfg = s.cfg ∧ (cancelReleases s).seams = s.seams ∧
    (cancelReleases s).fab = s.fab ∧ (cancelReleases s).clk = s.clk ∧ (cancelReleases s).tim = s.tim ∧
    (cancelReleases s).lan = s.lan ∧ (cancelReleases s).rx = s.rx ∧ (cancelReleases s).tx = s.tx ∧
    (cancelReleases s).shu = s.shu ∧ (cancelReleases s).noc = s.noc ∧ (cancelReleases s).mem = s.mem ∧
    (cancelReleases s).itg = s.itg ∧ (cancelReleases s).upd = s.upd := by
  unfold cancelReleases
  simp

@[simp] theorem freeCancelled_frame (s : State) (a : List TimedCmd) :
    (freeCancelled s a).pending = s.pending ∧ (freeCancelled s a).now = s.now ∧ (freeCancelled s a).fresh = s.fresh ∧
    (freeCancelled s a).gen = s.gen ∧ (freeCancelled s a).ruling = s.ruling ∧ (freeCancelled s a).cap = s.cap ∧
    (freeCancelled s a).mgmt = s.mgmt ∧ (freeCancelled s a).unit = s.unit ∧ (freeCancelled s a).cfg = s.cfg ∧
    (freeCancelled s a).seams = s.seams ∧ (freeCancelled s a).fab = s.fab ∧ (freeCancelled s a).tim = s.tim ∧
    (freeCancelled s a).lan = s.lan ∧ (freeCancelled s a).rx = s.rx ∧ (freeCancelled s a).tx = s.tx ∧
    (freeCancelled s a).shu = s.shu ∧ (freeCancelled s a).noc = s.noc ∧ (freeCancelled s a).mem = s.mem ∧
    (freeCancelled s a).itg = s.itg ∧ (freeCancelled s a).upd = s.upd := by
  have o : Outside [.cat, .pwr, .clk] s (freeCancelled s a) := by
    unfold freeCancelled
    refine Outside.foldl _ _ _ fun t c p hp => ?_
    simp only []
    (repeat' split) <;> cases p <;> simp at hp ⊢
  exact
    ⟨o .pending (by decide), o .now (by decide), o .fresh (by decide), o .gen (by decide), o .ruling (by decide),
    o .cap (by decide), o .mgmt (by decide), o .unit (by decide), o .cfg (by decide), o .seams (by decide),
    o .fab (by decide), o .tim (by decide), o .lan (by decide), o .rx (by decide), o .tx (by decide), o .shu (by decide),
    o .noc (by decide), o .mem (by decide), o .itg (by decide), o .upd (by decide)⟩

@[simp] theorem undefinePanels_frame (s : State) :
    (undefinePanels s).pending = s.pending ∧ (undefinePanels s).now = s.now ∧ (undefinePanels s).fresh = s.fresh ∧
    (undefinePanels s).gen = s.gen ∧ (undefinePanels s).ruling = s.ruling ∧ (undefinePanels s).cap = s.cap ∧
    (undefinePanels s).mgmt = s.mgmt ∧ (undefinePanels s).unit = s.unit ∧ (undefinePanels s).pwr = s.pwr ∧
    (undefinePanels s).seams = s.seams ∧ (undefinePanels s).fab = s.fab ∧ (undefinePanels s).clk = s.clk ∧
    (undefinePanels s).tim = s.tim ∧ (undefinePanels s).lan = s.lan ∧ (undefinePanels s).rx = s.rx ∧
    (undefinePanels s).tx = s.tx ∧ (undefinePanels s).shu = s.shu ∧ (undefinePanels s).noc = s.noc ∧
    (undefinePanels s).mem = s.mem ∧ (undefinePanels s).itg = s.itg ∧ (undefinePanels s).upd = s.upd := by
  unfold undefinePanels
  simp

@[simp] theorem endIcp_frame (s : State) (a : Nat) (b : Nat) (c : Nat) :
    (endIcp s a b c).pending = s.pending ∧ (endIcp s a b c).now = s.now ∧ (endIcp s a b c).fresh = s.fresh ∧
    (endIcp s a b c).gen = s.gen ∧ (endIcp s a b c).ruling = s.ruling ∧ (endIcp s a b c).unit = s.unit ∧
    (endIcp s a b c).pwr = s.pwr ∧ (endIcp s a b c).seams = s.seams ∧ (endIcp s a b c).fab = s.fab ∧
    (endIcp s a b c).clk = s.clk ∧ (endIcp s a b c).tim = s.tim ∧ (endIcp s a b c).lan = s.lan ∧
    (endIcp s a b c).rx = s.rx ∧ (endIcp s a b c).tx = s.tx ∧ (endIcp s a b c).shu = s.shu ∧ (endIcp s a b c).noc = s.noc ∧
    (endIcp s a b c).mem = s.mem ∧ (endIcp s a b c).itg = s.itg ∧ (endIcp s a b c).upd = s.upd := by
  unfold endIcp
  simp only []
  repeat' split
  all_goals simp

@[simp] theorem failPartial_frame (s : State) (a : Fin 4) (b : Nat) (c : Nat) :
    (failPartial s a b c).pending = s.pending ∧ (failPartial s a b c).now = s.now ∧ (failPartial s a b c).fresh = s.fresh ∧
    (failPartial s a b c).gen = s.gen ∧ (failPartial s a b c).ruling = s.ruling ∧ (failPartial s a b c).unit = s.unit ∧
    (failPartial s a b c).pwr = s.pwr ∧ (failPartial s a b c).seams = s.seams ∧ (failPartial s a b c).fab = s.fab ∧
    (failPartial s a b c).clk = s.clk ∧ (failPartial s a b c).tim = s.tim ∧ (failPartial s a b c).lan = s.lan ∧
    (failPartial s a b c).rx = s.rx ∧ (failPartial s a b c).tx = s.tx ∧ (failPartial s a b c).shu = s.shu ∧
    (failPartial s a b c).noc = s.noc ∧ (failPartial s a b c).mem = s.mem ∧ (failPartial s a b c).itg = s.itg ∧
    (failPartial s a b c).upd = s.upd := by
  unfold failPartial
  split <;> simp

@[simp] theorem unconfigure_frame (s : State) :
    (unconfigure s).pending = s.pending ∧ (unconfigure s).now = s.now ∧ (unconfigure s).fresh = s.fresh ∧
    (unconfigure s).gen = s.gen ∧ (unconfigure s).unit = s.unit ∧ (unconfigure s).pwr = s.pwr ∧
    (unconfigure s).tim = s.tim ∧ (unconfigure s).rx = s.rx ∧ (unconfigure s).tx = s.tx ∧ (unconfigure s).shu = s.shu ∧
    (unconfigure s).noc = s.noc ∧ (unconfigure s).mem = s.mem ∧ (unconfigure s).itg = s.itg ∧ (unconfigure s).upd = s.upd := by
  unfold unconfigure
  simp

@[simp] theorem failFull_frame (s : State) (a : Nat) (b : Nat) :
    (failFull s a b).pending = s.pending ∧ (failFull s a b).now = s.now ∧ (failFull s a b).fresh = s.fresh ∧
    (failFull s a b).gen = s.gen ∧ (failFull s a b).unit = s.unit ∧ (failFull s a b).pwr = s.pwr ∧
    (failFull s a b).tim = s.tim ∧ (failFull s a b).rx = s.rx ∧ (failFull s a b).tx = s.tx ∧ (failFull s a b).shu = s.shu ∧
    (failFull s a b).noc = s.noc ∧ (failFull s a b).mem = s.mem ∧ (failFull s a b).itg = s.itg ∧
    (failFull s a b).upd = s.upd := by
  unfold failFull
  simp

@[simp] theorem failLoad_frame (s : State) (a : LoadPort) (b : Nat) (c : Nat) :
    (failLoad s a b c).pending = s.pending ∧ (failLoad s a b c).now = s.now ∧ (failLoad s a b c).fresh = s.fresh ∧
    (failLoad s a b c).gen = s.gen ∧ (failLoad s a b c).unit = s.unit ∧ (failLoad s a b c).pwr = s.pwr ∧
    (failLoad s a b c).tim = s.tim ∧ (failLoad s a b c).rx = s.rx ∧ (failLoad s a b c).tx = s.tx ∧
    (failLoad s a b c).shu = s.shu ∧ (failLoad s a b c).noc = s.noc ∧ (failLoad s a b c).mem = s.mem ∧
    (failLoad s a b c).itg = s.itg ∧ (failLoad s a b c).upd = s.upd := by
  unfold failLoad
  split <;> simp

@[simp] theorem beginClear_frame (s : State) (a : Nat) :
    (beginClear s a).pending = s.pending ∧ (beginClear s a).now = s.now ∧ (beginClear s a).fresh = s.fresh ∧
    (beginClear s a).gen = s.gen ∧ (beginClear s a).unit = s.unit ∧ (beginClear s a).pwr = s.pwr ∧
    (beginClear s a).tim = s.tim ∧ (beginClear s a).rx = s.rx ∧ (beginClear s a).tx = s.tx ∧ (beginClear s a).shu = s.shu ∧
    (beginClear s a).noc = s.noc ∧ (beginClear s a).mem = s.mem ∧ (beginClear s a).itg = s.itg ∧
    (beginClear s a).upd = s.upd := by
  unfold beginClear
  simp

@[simp] theorem sampleMode_frame (s : State) (a : Nat) :
    (sampleMode s a).pending = s.pending ∧ (sampleMode s a).now = s.now ∧ (sampleMode s a).fresh = s.fresh ∧
    (sampleMode s a).gen = s.gen ∧ (sampleMode s a).ruling = s.ruling ∧ (sampleMode s a).cap = s.cap ∧
    (sampleMode s a).mgmt = s.mgmt ∧ (sampleMode s a).unit = s.unit ∧ (sampleMode s a).pwr = s.pwr ∧
    (sampleMode s a).seams = s.seams ∧ (sampleMode s a).fab = s.fab ∧ (sampleMode s a).clk = s.clk ∧
    (sampleMode s a).tim = s.tim ∧ (sampleMode s a).lan = s.lan ∧ (sampleMode s a).rx = s.rx ∧ (sampleMode s a).tx = s.tx ∧
    (sampleMode s a).shu = s.shu ∧ (sampleMode s a).noc = s.noc ∧ (sampleMode s a).mem = s.mem ∧
    (sampleMode s a).itg = s.itg ∧ (sampleMode s a).upd = s.upd := by
  unfold sampleMode
  simp

@[simp] theorem initHigh_frame (s : State) (a : Nat) :
    (initHigh s a).pending = s.pending ∧ (initHigh s a).now = s.now ∧ (initHigh s a).fresh = s.fresh ∧
    (initHigh s a).gen = s.gen ∧ (initHigh s a).ruling = s.ruling ∧ (initHigh s a).cap = s.cap ∧
    (initHigh s a).mgmt = s.mgmt ∧ (initHigh s a).unit = s.unit ∧ (initHigh s a).pwr = s.pwr ∧
    (initHigh s a).seams = s.seams ∧ (initHigh s a).fab = s.fab ∧ (initHigh s a).clk = s.clk ∧ (initHigh s a).tim = s.tim ∧
    (initHigh s a).lan = s.lan ∧ (initHigh s a).rx = s.rx ∧ (initHigh s a).tx = s.tx ∧ (initHigh s a).shu = s.shu ∧
    (initHigh s a).noc = s.noc ∧ (initHigh s a).mem = s.mem ∧ (initHigh s a).itg = s.itg ∧ (initHigh s a).upd = s.upd := by
  unfold initHigh
  simp

@[simp] theorem finishClear_frame (s : State) (a : Nat) (b : Bool) :
    (finishClear s a b).pending = s.pending ∧ (finishClear s a b).now = s.now ∧ (finishClear s a b).fresh = s.fresh ∧
    (finishClear s a b).gen = s.gen ∧ (finishClear s a b).ruling = s.ruling ∧ (finishClear s a b).cap = s.cap ∧
    (finishClear s a b).mgmt = s.mgmt ∧ (finishClear s a b).unit = s.unit ∧ (finishClear s a b).pwr = s.pwr ∧
    (finishClear s a b).seams = s.seams ∧ (finishClear s a b).fab = s.fab ∧ (finishClear s a b).clk = s.clk ∧
    (finishClear s a b).tim = s.tim ∧ (finishClear s a b).lan = s.lan ∧ (finishClear s a b).rx = s.rx ∧
    (finishClear s a b).tx = s.tx ∧ (finishClear s a b).shu = s.shu ∧ (finishClear s a b).noc = s.noc ∧
    (finishClear s a b).mem = s.mem ∧ (finishClear s a b).itg = s.itg ∧ (finishClear s a b).upd = s.upd := by
  unfold finishClear
  simp

@[simp] theorem isolatePanel_frame (s : State) (a : Nat) (b : Nat) :
    (isolatePanel s a b).pending = s.pending ∧ (isolatePanel s a b).now = s.now ∧ (isolatePanel s a b).fresh = s.fresh ∧
    (isolatePanel s a b).gen = s.gen ∧ (isolatePanel s a b).ruling = s.ruling ∧ (isolatePanel s a b).cap = s.cap ∧
    (isolatePanel s a b).unit = s.unit ∧ (isolatePanel s a b).pwr = s.pwr ∧ (isolatePanel s a b).seams = s.seams ∧
    (isolatePanel s a b).fab = s.fab ∧ (isolatePanel s a b).clk = s.clk ∧ (isolatePanel s a b).tim = s.tim ∧
    (isolatePanel s a b).lan = s.lan ∧ (isolatePanel s a b).rx = s.rx ∧ (isolatePanel s a b).tx = s.tx ∧
    (isolatePanel s a b).shu = s.shu ∧ (isolatePanel s a b).noc = s.noc ∧ (isolatePanel s a b).mem = s.mem ∧
    (isolatePanel s a b).itg = s.itg ∧ (isolatePanel s a b).upd = s.upd := by
  unfold isolatePanel
  simp

@[simp] theorem refuseHeader_frame (s : State) (a : LoadPort) (b : List Nat) (c : Nat) (d : Nat) :
    (refuseHeader s a b c d).pending = s.pending ∧ (refuseHeader s a b c d).now = s.now ∧
    (refuseHeader s a b c d).fresh = s.fresh ∧ (refuseHeader s a b c d).gen = s.gen ∧
    (refuseHeader s a b c d).ruling = s.ruling ∧ (refuseHeader s a b c d).unit = s.unit ∧
    (refuseHeader s a b c d).pwr = s.pwr ∧ (refuseHeader s a b c d).seams = s.seams ∧ (refuseHeader s a b c d).fab = s.fab ∧
    (refuseHeader s a b c d).clk = s.clk ∧ (refuseHeader s a b c d).tim = s.tim ∧ (refuseHeader s a b c d).lan = s.lan ∧
    (refuseHeader s a b c d).rx = s.rx ∧ (refuseHeader s a b c d).tx = s.tx ∧ (refuseHeader s a b c d).shu = s.shu ∧
    (refuseHeader s a b c d).noc = s.noc ∧ (refuseHeader s a b c d).mem = s.mem ∧ (refuseHeader s a b c d).itg = s.itg ∧
    (refuseHeader s a b c d).upd = s.upd := by
  unfold refuseHeader
  split <;> simp

@[simp] theorem acceptHeader_frame (s : State) (a : LoadPort) (b : List Nat) (c : Load) :
    (acceptHeader s a b c).pending = s.pending ∧ (acceptHeader s a b c).now = s.now ∧
    (acceptHeader s a b c).fresh = s.fresh ∧ (acceptHeader s a b c).gen = s.gen ∧ (acceptHeader s a b c).ruling = s.ruling ∧
    (acceptHeader s a b c).cap = s.cap ∧ (acceptHeader s a b c).unit = s.unit ∧ (acceptHeader s a b c).pwr = s.pwr ∧
    (acceptHeader s a b c).seams = s.seams ∧ (acceptHeader s a b c).fab = s.fab ∧ (acceptHeader s a b c).clk = s.clk ∧
    (acceptHeader s a b c).tim = s.tim ∧ (acceptHeader s a b c).lan = s.lan ∧ (acceptHeader s a b c).rx = s.rx ∧
    (acceptHeader s a b c).tx = s.tx ∧ (acceptHeader s a b c).shu = s.shu ∧ (acceptHeader s a b c).noc = s.noc ∧
    (acceptHeader s a b c).mem = s.mem ∧ (acceptHeader s a b c).itg = s.itg ∧ (acceptHeader s a b c).upd = s.upd := by
  unfold acceptHeader
  split <;> simp

@[simp] theorem writeFrame_frame (s : State) (a : LoadPort) (b : Load) (c : List Nat) :
    (writeFrame s a b c).pending = s.pending ∧ (writeFrame s a b c).now = s.now ∧ (writeFrame s a b c).fresh = s.fresh ∧
    (writeFrame s a b c).gen = s.gen ∧ (writeFrame s a b c).ruling = s.ruling ∧ (writeFrame s a b c).cap = s.cap ∧
    (writeFrame s a b c).mgmt = s.mgmt ∧ (writeFrame s a b c).unit = s.unit ∧ (writeFrame s a b c).pwr = s.pwr ∧
    (writeFrame s a b c).seams = s.seams ∧ (writeFrame s a b c).fab = s.fab ∧ (writeFrame s a b c).clk = s.clk ∧
    (writeFrame s a b c).tim = s.tim ∧ (writeFrame s a b c).lan = s.lan ∧ (writeFrame s a b c).rx = s.rx ∧
    (writeFrame s a b c).tx = s.tx ∧ (writeFrame s a b c).shu = s.shu ∧ (writeFrame s a b c).noc = s.noc ∧
    (writeFrame s a b c).mem = s.mem ∧ (writeFrame s a b c).itg = s.itg ∧ (writeFrame s a b c).upd = s.upd := by
  unfold writeFrame
  simp only []
  repeat' split
  all_goals simp

@[simp] theorem waitForStart_frame (s : State) :
    (waitForStart s).pending = s.pending ∧ (waitForStart s).now = s.now ∧ (waitForStart s).fresh = s.fresh ∧
    (waitForStart s).gen = s.gen ∧ (waitForStart s).ruling = s.ruling ∧ (waitForStart s).cap = s.cap ∧
    (waitForStart s).unit = s.unit ∧ (waitForStart s).pwr = s.pwr ∧ (waitForStart s).seams = s.seams ∧
    (waitForStart s).fab = s.fab ∧ (waitForStart s).clk = s.clk ∧ (waitForStart s).tim = s.tim ∧
    (waitForStart s).lan = s.lan ∧ (waitForStart s).rx = s.rx ∧ (waitForStart s).tx = s.tx ∧ (waitForStart s).shu = s.shu ∧
    (waitForStart s).noc = s.noc ∧ (waitForStart s).mem = s.mem ∧ (waitForStart s).itg = s.itg ∧
    (waitForStart s).upd = s.upd := by
  unfold waitForStart
  split <;> simp

@[simp] theorem verifyPanel_frame (s : State) (a : Nat) (b : Load) :
    (verifyPanel s a b).pending = s.pending ∧ (verifyPanel s a b).now = s.now ∧ (verifyPanel s a b).fresh = s.fresh ∧
    (verifyPanel s a b).gen = s.gen ∧ (verifyPanel s a b).unit = s.unit ∧ (verifyPanel s a b).pwr = s.pwr ∧
    (verifyPanel s a b).seams = s.seams ∧ (verifyPanel s a b).fab = s.fab ∧ (verifyPanel s a b).clk = s.clk ∧
    (verifyPanel s a b).tim = s.tim ∧ (verifyPanel s a b).lan = s.lan ∧ (verifyPanel s a b).rx = s.rx ∧
    (verifyPanel s a b).tx = s.tx ∧ (verifyPanel s a b).shu = s.shu ∧ (verifyPanel s a b).noc = s.noc ∧
    (verifyPanel s a b).mem = s.mem ∧ (verifyPanel s a b).itg = s.itg ∧ (verifyPanel s a b).upd = s.upd := by
  unfold verifyPanel requestTask
  simp only []
  split
  · split
    · next h =>
      split at h
      · cases h
      · cases h; simp
    · simp
  · simp

@[simp] theorem endChecks_frame (s : State) (a : LoadPort) :
    (endChecks s a).pending = s.pending ∧ (endChecks s a).now = s.now ∧ (endChecks s a).fresh = s.fresh ∧
    (endChecks s a).gen = s.gen ∧ (endChecks s a).unit = s.unit ∧ (endChecks s a).pwr = s.pwr ∧
    (endChecks s a).tim = s.tim ∧ (endChecks s a).rx = s.rx ∧ (endChecks s a).tx = s.tx ∧ (endChecks s a).shu = s.shu ∧
    (endChecks s a).noc = s.noc ∧ (endChecks s a).mem = s.mem ∧ (endChecks s a).itg = s.itg ∧ (endChecks s a).upd = s.upd := by
  unfold endChecks
  repeat' split
  all_goals simp

@[simp] theorem endEarly_frame (s : State) (a : LoadPort) :
    (endEarly s a).pending = s.pending ∧ (endEarly s a).now = s.now ∧ (endEarly s a).fresh = s.fresh ∧
    (endEarly s a).gen = s.gen ∧ (endEarly s a).unit = s.unit ∧ (endEarly s a).pwr = s.pwr ∧ (endEarly s a).tim = s.tim ∧
    (endEarly s a).rx = s.rx ∧ (endEarly s a).tx = s.tx ∧ (endEarly s a).shu = s.shu ∧ (endEarly s a).noc = s.noc ∧
    (endEarly s a).mem = s.mem ∧ (endEarly s a).itg = s.itg ∧ (endEarly s a).upd = s.upd := by
  unfold endEarly
  simp
  repeat' (first | rfl | split <;> try simp)

@[simp] theorem startUp_frame (s : State) (a : Load) :
    (startUp s a).pending = s.pending ∧ (startUp s a).now = s.now ∧ (startUp s a).ruling = s.ruling ∧
    (startUp s a).cap = s.cap ∧ (startUp s a).unit = s.unit ∧ (startUp s a).pwr = s.pwr ∧ (startUp s a).seams = s.seams ∧
    (startUp s a).clk = s.clk ∧ (startUp s a).tim = s.tim ∧ (startUp s a).rx = s.rx ∧ (startUp s a).tx = s.tx ∧
    (startUp s a).shu = s.shu ∧ (startUp s a).upd = s.upd := by
  unfold startUp
  simp

@[simp] theorem runDesign_frame (s : State) (a : Load) :
    (runDesign s a).pending = s.pending ∧ (runDesign s a).now = s.now ∧ (runDesign s a).fresh = s.fresh ∧
    (runDesign s a).gen = s.gen ∧ (runDesign s a).ruling = s.ruling ∧ (runDesign s a).unit = s.unit ∧
    (runDesign s a).pwr = s.pwr ∧ (runDesign s a).seams = s.seams ∧ (runDesign s a).fab = s.fab ∧
    (runDesign s a).clk = s.clk ∧ (runDesign s a).tim = s.tim ∧ (runDesign s a).lan = s.lan ∧ (runDesign s a).rx = s.rx ∧
    (runDesign s a).tx = s.tx ∧ (runDesign s a).shu = s.shu ∧ (runDesign s a).noc = s.noc ∧ (runDesign s a).mem = s.mem ∧
    (runDesign s a).itg = s.itg ∧ (runDesign s a).upd = s.upd := by
  unfold runDesign
  simp

@[simp] theorem releasePanel_frame (s : State) (a : Nat) :
    (releasePanel s a).pending = s.pending ∧ (releasePanel s a).now = s.now ∧ (releasePanel s a).fresh = s.fresh ∧
    (releasePanel s a).gen = s.gen ∧ (releasePanel s a).ruling = s.ruling ∧ (releasePanel s a).cap = s.cap ∧
    (releasePanel s a).unit = s.unit ∧ (releasePanel s a).pwr = s.pwr ∧ (releasePanel s a).seams = s.seams ∧
    (releasePanel s a).fab = s.fab ∧ (releasePanel s a).clk = s.clk ∧ (releasePanel s a).tim = s.tim ∧
    (releasePanel s a).lan = s.lan ∧ (releasePanel s a).rx = s.rx ∧ (releasePanel s a).tx = s.tx ∧
    (releasePanel s a).shu = s.shu ∧ (releasePanel s a).noc = s.noc ∧ (releasePanel s a).mem = s.mem ∧
    (releasePanel s a).itg = s.itg ∧ (releasePanel s a).upd = s.upd := by
  unfold releasePanel
  simp

@[simp] theorem beginIcp_frame (s : State) (a : Fin 4) :
    (beginIcp s a).pending = s.pending ∧ (beginIcp s a).now = s.now ∧ (beginIcp s a).fresh = s.fresh ∧
    (beginIcp s a).cat = s.cat ∧ (beginIcp s a).gen = s.gen ∧ (beginIcp s a).ruling = s.ruling ∧
    (beginIcp s a).cap = s.cap ∧ (beginIcp s a).mgmt = s.mgmt ∧ (beginIcp s a).unit = s.unit ∧ (beginIcp s a).pwr = s.pwr ∧
    (beginIcp s a).seams = s.seams ∧ (beginIcp s a).fab = s.fab ∧ (beginIcp s a).clk = s.clk ∧ (beginIcp s a).tim = s.tim ∧
    (beginIcp s a).lan = s.lan ∧ (beginIcp s a).rx = s.rx ∧ (beginIcp s a).tx = s.tx ∧ (beginIcp s a).shu = s.shu ∧
    (beginIcp s a).noc = s.noc ∧ (beginIcp s a).mem = s.mem ∧ (beginIcp s a).itg = s.itg ∧ (beginIcp s a).upd = s.upd := by
  unfold beginIcp
  simp

@[simp] theorem putSg_frame (s : State) (a : Nat) :
    (putSg s a).pending = s.pending ∧ (putSg s a).now = s.now ∧ (putSg s a).fresh = s.fresh ∧ (putSg s a).gen = s.gen ∧
    (putSg s a).ruling = s.ruling ∧ (putSg s a).cap = s.cap ∧ (putSg s a).mgmt = s.mgmt ∧ (putSg s a).unit = s.unit ∧
    (putSg s a).pwr = s.pwr ∧ (putSg s a).cfg = s.cfg ∧ (putSg s a).seams = s.seams ∧ (putSg s a).fab = s.fab ∧
    (putSg s a).clk = s.clk ∧ (putSg s a).tim = s.tim ∧ (putSg s a).lan = s.lan ∧ (putSg s a).rx = s.rx ∧
    (putSg s a).tx = s.tx ∧ (putSg s a).shu = s.shu ∧ (putSg s a).noc = s.noc ∧ (putSg s a).mem = s.mem ∧
    (putSg s a).itg = s.itg ∧ (putSg s a).upd = s.upd := by
  unfold putSg
  simp

@[simp] theorem State_setUpd_frame (s : State) (a : Update → Update) :
    (State.setUpd s a).pending = s.pending ∧ (State.setUpd s a).now = s.now ∧ (State.setUpd s a).fresh = s.fresh ∧
    (State.setUpd s a).cat = s.cat ∧ (State.setUpd s a).gen = s.gen ∧ (State.setUpd s a).ruling = s.ruling ∧
    (State.setUpd s a).cap = s.cap ∧ (State.setUpd s a).mgmt = s.mgmt ∧ (State.setUpd s a).unit = s.unit ∧
    (State.setUpd s a).pwr = s.pwr ∧ (State.setUpd s a).cfg = s.cfg ∧ (State.setUpd s a).seams = s.seams ∧
    (State.setUpd s a).fab = s.fab ∧ (State.setUpd s a).clk = s.clk ∧ (State.setUpd s a).tim = s.tim ∧
    (State.setUpd s a).lan = s.lan ∧ (State.setUpd s a).rx = s.rx ∧ (State.setUpd s a).tx = s.tx ∧
    (State.setUpd s a).shu = s.shu ∧ (State.setUpd s a).noc = s.noc ∧ (State.setUpd s a).mem = s.mem ∧
    (State.setUpd s a).itg = s.itg := by
  unfold State.setUpd
  simp

@[simp] theorem failTrickle_frame (s : State) (a : Nat) (b : Nat) :
    (failTrickle s a b).pending = s.pending ∧ (failTrickle s a b).now = s.now ∧ (failTrickle s a b).fresh = s.fresh ∧
    (failTrickle s a b).gen = s.gen ∧ (failTrickle s a b).ruling = s.ruling ∧ (failTrickle s a b).cap = s.cap ∧
    (failTrickle s a b).unit = s.unit ∧ (failTrickle s a b).pwr = s.pwr ∧ (failTrickle s a b).cfg = s.cfg ∧
    (failTrickle s a b).seams = s.seams ∧ (failTrickle s a b).fab = s.fab ∧ (failTrickle s a b).clk = s.clk ∧
    (failTrickle s a b).tim = s.tim ∧ (failTrickle s a b).lan = s.lan ∧ (failTrickle s a b).rx = s.rx ∧
    (failTrickle s a b).tx = s.tx ∧ (failTrickle s a b).shu = s.shu ∧ (failTrickle s a b).noc = s.noc ∧
    (failTrickle s a b).mem = s.mem ∧ (failTrickle s a b).itg = s.itg ∧ (failTrickle s a b).upd = s.upd := by
  unfold failTrickle
  split <;> simp

@[simp] theorem clearStaging_frame (s : State) (a : Nat) :
    (clearStaging s a).pending = s.pending ∧ (clearStaging s a).now = s.now ∧ (clearStaging s a).fresh = s.fresh ∧
    (clearStaging s a).gen = s.gen ∧ (clearStaging s a).ruling = s.ruling ∧ (clearStaging s a).cap = s.cap ∧
    (clearStaging s a).mgmt = s.mgmt ∧ (clearStaging s a).unit = s.unit ∧ (clearStaging s a).pwr = s.pwr ∧
    (clearStaging s a).cfg = s.cfg ∧ (clearStaging s a).seams = s.seams ∧ (clearStaging s a).fab = s.fab ∧
    (clearStaging s a).clk = s.clk ∧ (clearStaging s a).tim = s.tim ∧ (clearStaging s a).lan = s.lan ∧
    (clearStaging s a).rx = s.rx ∧ (clearStaging s a).tx = s.tx ∧ (clearStaging s a).shu = s.shu ∧
    (clearStaging s a).noc = s.noc ∧ (clearStaging s a).mem = s.mem ∧ (clearStaging s a).itg = s.itg := by
  unfold clearStaging
  simp

@[simp] theorem discardStaging_frame (s : State) (a : Nat) :
    (discardStaging s a).pending = s.pending ∧ (discardStaging s a).now = s.now ∧ (discardStaging s a).fresh = s.fresh ∧
    (discardStaging s a).gen = s.gen ∧ (discardStaging s a).ruling = s.ruling ∧ (discardStaging s a).cap = s.cap ∧
    (discardStaging s a).unit = s.unit ∧ (discardStaging s a).pwr = s.pwr ∧ (discardStaging s a).cfg = s.cfg ∧
    (discardStaging s a).seams = s.seams ∧ (discardStaging s a).fab = s.fab ∧ (discardStaging s a).clk = s.clk ∧
    (discardStaging s a).tim = s.tim ∧ (discardStaging s a).lan = s.lan ∧ (discardStaging s a).rx = s.rx ∧
    (discardStaging s a).tx = s.tx ∧ (discardStaging s a).shu = s.shu ∧ (discardStaging s a).noc = s.noc ∧
    (discardStaging s a).mem = s.mem ∧ (discardStaging s a).itg = s.itg ∧ (discardStaging s a).upd = s.upd := by
  unfold discardStaging
  simp

@[simp] theorem openStaging_frame (s : State) (a : Nat) (b : Nat) :
    (openStaging s a b).pending = s.pending ∧ (openStaging s a b).now = s.now ∧ (openStaging s a b).fresh = s.fresh ∧
    (openStaging s a b).gen = s.gen ∧ (openStaging s a b).ruling = s.ruling ∧ (openStaging s a b).cap = s.cap ∧
    (openStaging s a b).unit = s.unit ∧ (openStaging s a b).pwr = s.pwr ∧ (openStaging s a b).cfg = s.cfg ∧
    (openStaging s a b).seams = s.seams ∧ (openStaging s a b).fab = s.fab ∧ (openStaging s a b).clk = s.clk ∧
    (openStaging s a b).tim = s.tim ∧ (openStaging s a b).lan = s.lan ∧ (openStaging s a b).rx = s.rx ∧
    (openStaging s a b).tx = s.tx ∧ (openStaging s a b).shu = s.shu ∧ (openStaging s a b).noc = s.noc ∧
    (openStaging s a b).mem = s.mem ∧ (openStaging s a b).itg = s.itg := by
  unfold openStaging
  simp

@[simp] theorem trickleProgress_frame (s : State) :
    (trickleProgress s).pending = s.pending ∧ (trickleProgress s).now = s.now ∧ (trickleProgress s).fresh = s.fresh ∧
    (trickleProgress s).gen = s.gen ∧ (trickleProgress s).ruling = s.ruling ∧ (trickleProgress s).cap = s.cap ∧
    (trickleProgress s).mgmt = s.mgmt ∧ (trickleProgress s).unit = s.unit ∧ (trickleProgress s).pwr = s.pwr ∧
    (trickleProgress s).cfg = s.cfg ∧ (trickleProgress s).seams = s.seams ∧ (trickleProgress s).fab = s.fab ∧
    (trickleProgress s).clk = s.clk ∧ (trickleProgress s).tim = s.tim ∧ (trickleProgress s).lan = s.lan ∧
    (trickleProgress s).rx = s.rx ∧ (trickleProgress s).tx = s.tx ∧ (trickleProgress s).shu = s.shu ∧
    (trickleProgress s).noc = s.noc ∧ (trickleProgress s).mem = s.mem ∧ (trickleProgress s).itg = s.itg ∧
    (trickleProgress s).upd = s.upd := by
  unfold trickleProgress
  split <;> simp

@[simp] theorem storeChunk_frame (s : State) (a : Nat) (b : List Byte) :
    (storeChunk s a b).pending = s.pending ∧ (storeChunk s a b).now = s.now ∧ (storeChunk s a b).fresh = s.fresh ∧
    (storeChunk s a b).gen = s.gen ∧ (storeChunk s a b).ruling = s.ruling ∧ (storeChunk s a b).cap = s.cap ∧
    (storeChunk s a b).mgmt = s.mgmt ∧ (storeChunk s a b).unit = s.unit ∧ (storeChunk s a b).pwr = s.pwr ∧
    (storeChunk s a b).cfg = s.cfg ∧ (storeChunk s a b).seams = s.seams ∧ (storeChunk s a b).fab = s.fab ∧
    (storeChunk s a b).clk = s.clk ∧ (storeChunk s a b).tim = s.tim ∧ (storeChunk s a b).lan = s.lan ∧
    (storeChunk s a b).rx = s.rx ∧ (storeChunk s a b).tx = s.tx ∧ (storeChunk s a b).shu = s.shu ∧
    (storeChunk s a b).noc = s.noc ∧ (storeChunk s a b).mem = s.mem ∧ (storeChunk s a b).itg = s.itg := by
  unfold storeChunk
  simp

@[simp] theorem verifyPackage_frame (s : State) :
    (verifyPackage s).pending = s.pending ∧ (verifyPackage s).now = s.now ∧ (verifyPackage s).fresh = s.fresh ∧
    (verifyPackage s).gen = s.gen ∧ (verifyPackage s).ruling = s.ruling ∧ (verifyPackage s).unit = s.unit ∧
    (verifyPackage s).pwr = s.pwr ∧ (verifyPackage s).cfg = s.cfg ∧ (verifyPackage s).seams = s.seams ∧
    (verifyPackage s).fab = s.fab ∧ (verifyPackage s).clk = s.clk ∧ (verifyPackage s).tim = s.tim ∧
    (verifyPackage s).lan = s.lan ∧ (verifyPackage s).rx = s.rx ∧ (verifyPackage s).tx = s.tx ∧
    (verifyPackage s).shu = s.shu ∧ (verifyPackage s).noc = s.noc ∧ (verifyPackage s).mem = s.mem ∧
    (verifyPackage s).itg = s.itg := by
  unfold verifyPackage
  simp only []
  repeat' split
  all_goals simp

@[simp] theorem expireStaging_frame (s : State) :
    (expireStaging s).pending = s.pending ∧ (expireStaging s).fresh = s.fresh ∧ (expireStaging s).gen = s.gen ∧
    (expireStaging s).ruling = s.ruling ∧ (expireStaging s).cap = s.cap ∧ (expireStaging s).unit = s.unit ∧
    (expireStaging s).pwr = s.pwr ∧ (expireStaging s).cfg = s.cfg ∧ (expireStaging s).seams = s.seams ∧
    (expireStaging s).fab = s.fab ∧ (expireStaging s).clk = s.clk ∧ (expireStaging s).lan = s.lan ∧
    (expireStaging s).rx = s.rx ∧ (expireStaging s).tx = s.tx ∧ (expireStaging s).shu = s.shu ∧
    (expireStaging s).noc = s.noc ∧ (expireStaging s).mem = s.mem ∧ (expireStaging s).itg = s.itg := by
  unfold expireStaging
  simp

@[simp] theorem armActivation_frame (s : State) (a : Val) :
    (armActivation s a).pending = s.pending ∧ (armActivation s a).now = s.now ∧ (armActivation s a).fresh = s.fresh ∧
    (armActivation s a).gen = s.gen ∧ (armActivation s a).ruling = s.ruling ∧ (armActivation s a).cap = s.cap ∧
    (armActivation s a).unit = s.unit ∧ (armActivation s a).pwr = s.pwr ∧ (armActivation s a).cfg = s.cfg ∧
    (armActivation s a).seams = s.seams ∧ (armActivation s a).fab = s.fab ∧ (armActivation s a).clk = s.clk ∧
    (armActivation s a).tim = s.tim ∧ (armActivation s a).lan = s.lan ∧ (armActivation s a).rx = s.rx ∧
    (armActivation s a).tx = s.tx ∧ (armActivation s a).shu = s.shu ∧ (armActivation s a).noc = s.noc ∧
    (armActivation s a).mem = s.mem ∧ (armActivation s a).itg = s.itg := by
  unfold armActivation
  split <;> simp

@[simp] theorem cancelActivation_frame (s : State) (a : Nat) :
    (cancelActivation s a).pending = s.pending ∧ (cancelActivation s a).now = s.now ∧
    (cancelActivation s a).fresh = s.fresh ∧ (cancelActivation s a).gen = s.gen ∧ (cancelActivation s a).cap = s.cap ∧
    (cancelActivation s a).unit = s.unit ∧ (cancelActivation s a).pwr = s.pwr ∧ (cancelActivation s a).cfg = s.cfg ∧
    (cancelActivation s a).seams = s.seams ∧ (cancelActivation s a).fab = s.fab ∧ (cancelActivation s a).clk = s.clk ∧
    (cancelActivation s a).tim = s.tim ∧ (cancelActivation s a).lan = s.lan ∧ (cancelActivation s a).rx = s.rx ∧
    (cancelActivation s a).tx = s.tx ∧ (cancelActivation s a).shu = s.shu ∧ (cancelActivation s a).noc = s.noc ∧
    (cancelActivation s a).mem = s.mem ∧ (cancelActivation s a).itg = s.itg := by
  unfold cancelActivation
  simp

@[simp] theorem prepareActivation_frame (s : State) (a : Option (Fin 6)) :
    (prepareActivation s a).pending = s.pending ∧ (prepareActivation s a).now = s.now ∧
    (prepareActivation s a).fresh = s.fresh ∧ (prepareActivation s a).gen = s.gen ∧ (prepareActivation s a).cap = s.cap ∧
    (prepareActivation s a).unit = s.unit ∧ (prepareActivation s a).pwr = s.pwr ∧ (prepareActivation s a).cfg = s.cfg ∧
    (prepareActivation s a).seams = s.seams ∧ (prepareActivation s a).fab = s.fab ∧ (prepareActivation s a).clk = s.clk ∧
    (prepareActivation s a).tim = s.tim ∧ (prepareActivation s a).lan = s.lan ∧ (prepareActivation s a).rx = s.rx ∧
    (prepareActivation s a).tx = s.tx ∧ (prepareActivation s a).shu = s.shu ∧ (prepareActivation s a).noc = s.noc ∧
    (prepareActivation s a).mem = s.mem ∧ (prepareActivation s a).itg = s.itg := by
  unfold prepareActivation
  repeat' split
  all_goals simp

@[simp] theorem putVersions_frame (s : State) (a : List Nat) :
    (putVersions s a).pending = s.pending ∧ (putVersions s a).now = s.now ∧ (putVersions s a).fresh = s.fresh ∧
    (putVersions s a).gen = s.gen ∧ (putVersions s a).ruling = s.ruling ∧ (putVersions s a).cap = s.cap ∧
    (putVersions s a).mgmt = s.mgmt ∧ (putVersions s a).unit = s.unit ∧ (putVersions s a).pwr = s.pwr ∧
    (putVersions s a).cfg = s.cfg ∧ (putVersions s a).seams = s.seams ∧ (putVersions s a).fab = s.fab ∧
    (putVersions s a).clk = s.clk ∧ (putVersions s a).tim = s.tim ∧ (putVersions s a).lan = s.lan ∧
    (putVersions s a).rx = s.rx ∧ (putVersions s a).tx = s.tx ∧ (putVersions s a).shu = s.shu ∧
    (putVersions s a).noc = s.noc ∧ (putVersions s a).mem = s.mem ∧ (putVersions s a).itg = s.itg ∧
    (putVersions s a).upd = s.upd := by
  unfold putVersions
  simp

@[simp] theorem flipBanks_frame (s : State) (a : List Nat) :
    (flipBanks s a).pending = s.pending ∧ (flipBanks s a).now = s.now ∧ (flipBanks s a).fresh = s.fresh ∧
    (flipBanks s a).gen = s.gen ∧ (flipBanks s a).ruling = s.ruling ∧ (flipBanks s a).cap = s.cap ∧
    (flipBanks s a).mgmt = s.mgmt ∧ (flipBanks s a).unit = s.unit ∧ (flipBanks s a).pwr = s.pwr ∧
    (flipBanks s a).cfg = s.cfg ∧ (flipBanks s a).seams = s.seams ∧ (flipBanks s a).fab = s.fab ∧
    (flipBanks s a).clk = s.clk ∧ (flipBanks s a).tim = s.tim ∧ (flipBanks s a).lan = s.lan ∧ (flipBanks s a).rx = s.rx ∧
    (flipBanks s a).tx = s.tx ∧ (flipBanks s a).shu = s.shu ∧ (flipBanks s a).noc = s.noc ∧ (flipBanks s a).mem = s.mem ∧
    (flipBanks s a).itg = s.itg := by
  unfold flipBanks
  simp

@[simp] theorem activateFirmware_frame (s : State) (a : Option TimedCmd) :
    (activateFirmware s a).1.pending = s.pending ∧ (activateFirmware s a).1.now = s.now ∧
    (activateFirmware s a).1.fresh = s.fresh ∧ (activateFirmware s a).1.gen = s.gen ∧
    (activateFirmware s a).1.ruling = s.ruling ∧ (activateFirmware s a).1.cap = s.cap ∧
    (activateFirmware s a).1.unit = s.unit ∧ (activateFirmware s a).1.pwr = s.pwr ∧ (activateFirmware s a).1.cfg = s.cfg ∧
    (activateFirmware s a).1.seams = s.seams ∧ (activateFirmware s a).1.fab = s.fab ∧ (activateFirmware s a).1.clk = s.clk ∧
    (activateFirmware s a).1.tim = s.tim ∧ (activateFirmware s a).1.lan = s.lan ∧ (activateFirmware s a).1.rx = s.rx ∧
    (activateFirmware s a).1.tx = s.tx ∧ (activateFirmware s a).1.shu = s.shu ∧ (activateFirmware s a).1.noc = s.noc ∧
    (activateFirmware s a).1.mem = s.mem ∧ (activateFirmware s a).1.itg = s.itg := by
  unfold activateFirmware
  repeat' split
  all_goals simp

@[simp] theorem resetSettings_frame (s : State) :
    (resetSettings s).pending = s.pending ∧ (resetSettings s).now = s.now ∧ (resetSettings s).fresh = s.fresh ∧
    (resetSettings s).cat = s.cat ∧ (resetSettings s).gen = s.gen ∧ (resetSettings s).ruling = s.ruling ∧
    (resetSettings s).mgmt = s.mgmt ∧ (resetSettings s).unit = s.unit ∧ (resetSettings s).pwr = s.pwr ∧
    (resetSettings s).cfg = s.cfg ∧ (resetSettings s).seams = s.seams ∧ (resetSettings s).fab = s.fab ∧
    (resetSettings s).clk = s.clk ∧ (resetSettings s).tim = s.tim ∧ (resetSettings s).lan = s.lan ∧
    (resetSettings s).rx = s.rx ∧ (resetSettings s).tx = s.tx ∧ (resetSettings s).shu = s.shu ∧
    (resetSettings s).noc = s.noc ∧ (resetSettings s).mem = s.mem ∧ (resetSettings s).itg = s.itg := by
  unfold resetSettings
  simp

@[simp] theorem takeDefaults_frame (s : State) :
    (takeDefaults s).pending = s.pending ∧ (takeDefaults s).now = s.now ∧ (takeDefaults s).fresh = s.fresh ∧
    (takeDefaults s).gen = s.gen ∧ (takeDefaults s).ruling = s.ruling ∧ (takeDefaults s).cap = s.cap ∧
    (takeDefaults s).mgmt = s.mgmt ∧ (takeDefaults s).unit = s.unit ∧ (takeDefaults s).pwr = s.pwr ∧
    (takeDefaults s).cfg = s.cfg ∧ (takeDefaults s).seams = s.seams ∧ (takeDefaults s).fab = s.fab ∧
    (takeDefaults s).clk = s.clk ∧ (takeDefaults s).tim = s.tim ∧ (takeDefaults s).lan = s.lan ∧
    (takeDefaults s).rx = s.rx ∧ (takeDefaults s).tx = s.tx ∧ (takeDefaults s).shu = s.shu ∧ (takeDefaults s).noc = s.noc ∧
    (takeDefaults s).mem = s.mem ∧ (takeDefaults s).itg = s.itg := by
  unfold takeDefaults
  simp

@[simp] theorem confirmFirmware_frame (s : State) :
    (confirmFirmware s).pending = s.pending ∧ (confirmFirmware s).now = s.now ∧ (confirmFirmware s).fresh = s.fresh ∧
    (confirmFirmware s).gen = s.gen ∧ (confirmFirmware s).ruling = s.ruling ∧ (confirmFirmware s).unit = s.unit ∧
    (confirmFirmware s).pwr = s.pwr ∧ (confirmFirmware s).cfg = s.cfg ∧ (confirmFirmware s).seams = s.seams ∧
    (confirmFirmware s).fab = s.fab ∧ (confirmFirmware s).clk = s.clk ∧ (confirmFirmware s).tim = s.tim ∧
    (confirmFirmware s).lan = s.lan ∧ (confirmFirmware s).rx = s.rx ∧ (confirmFirmware s).tx = s.tx ∧
    (confirmFirmware s).shu = s.shu ∧ (confirmFirmware s).noc = s.noc ∧ (confirmFirmware s).mem = s.mem ∧
    (confirmFirmware s).itg = s.itg := by
  unfold confirmFirmware
  simp

@[simp] theorem revertFirmware_frame (s : State) :
    (revertFirmware s).pending = s.pending ∧ (revertFirmware s).now = s.now ∧ (revertFirmware s).fresh = s.fresh ∧
    (revertFirmware s).gen = s.gen ∧ (revertFirmware s).ruling = s.ruling ∧ (revertFirmware s).cap = s.cap ∧
    (revertFirmware s).unit = s.unit ∧ (revertFirmware s).pwr = s.pwr ∧ (revertFirmware s).cfg = s.cfg ∧
    (revertFirmware s).seams = s.seams ∧ (revertFirmware s).fab = s.fab ∧ (revertFirmware s).clk = s.clk ∧
    (revertFirmware s).tim = s.tim ∧ (revertFirmware s).lan = s.lan ∧ (revertFirmware s).rx = s.rx ∧
    (revertFirmware s).tx = s.tx ∧ (revertFirmware s).shu = s.shu ∧ (revertFirmware s).noc = s.noc ∧
    (revertFirmware s).mem = s.mem ∧ (revertFirmware s).itg = s.itg := by
  unfold revertFirmware
  simp

@[simp] theorem confirmTimeout_frame (s : State) :
    (confirmTimeout s).pending = s.pending ∧ (confirmTimeout s).fresh = s.fresh ∧ (confirmTimeout s).gen = s.gen ∧
    (confirmTimeout s).ruling = s.ruling ∧ (confirmTimeout s).cap = s.cap ∧ (confirmTimeout s).unit = s.unit ∧
    (confirmTimeout s).pwr = s.pwr ∧ (confirmTimeout s).cfg = s.cfg ∧ (confirmTimeout s).seams = s.seams ∧
    (confirmTimeout s).fab = s.fab ∧ (confirmTimeout s).clk = s.clk ∧ (confirmTimeout s).lan = s.lan ∧
    (confirmTimeout s).rx = s.rx ∧ (confirmTimeout s).tx = s.tx ∧ (confirmTimeout s).shu = s.shu ∧
    (confirmTimeout s).noc = s.noc ∧ (confirmTimeout s).mem = s.mem ∧ (confirmTimeout s).itg = s.itg := by
  unfold confirmTimeout
  simp

@[simp] theorem startRekey_frame (s : State) (a : Nat) (b : Option Nat) (c : Nat) :
    (startRekey s a b c).pending = s.pending ∧ (startRekey s a b c).now = s.now ∧ (startRekey s a b c).gen = s.gen ∧
    (startRekey s a b c).ruling = s.ruling ∧ (startRekey s a b c).cap = s.cap ∧ (startRekey s a b c).unit = s.unit ∧
    (startRekey s a b c).pwr = s.pwr ∧ (startRekey s a b c).cfg = s.cfg ∧ (startRekey s a b c).seams = s.seams ∧
    (startRekey s a b c).fab = s.fab ∧ (startRekey s a b c).clk = s.clk ∧ (startRekey s a b c).tim = s.tim ∧
    (startRekey s a b c).lan = s.lan ∧ (startRekey s a b c).rx = s.rx ∧ (startRekey s a b c).tx = s.tx ∧
    (startRekey s a b c).shu = s.shu ∧ (startRekey s a b c).noc = s.noc ∧ (startRekey s a b c).mem = s.mem ∧
    (startRekey s a b c).upd = s.upd := by
  unfold startRekey
  simp

@[simp] theorem beginOp_frame (s : State) (a : Nat) :
    (beginOp s a).pending = s.pending ∧ (beginOp s a).now = s.now ∧ (beginOp s a).ruling = s.ruling ∧
    (beginOp s a).cap = s.cap ∧ (beginOp s a).unit = s.unit ∧ (beginOp s a).pwr = s.pwr ∧ (beginOp s a).seams = s.seams ∧
    (beginOp s a).fab = s.fab ∧ (beginOp s a).clk = s.clk ∧ (beginOp s a).tim = s.tim ∧ (beginOp s a).lan = s.lan ∧
    (beginOp s a).rx = s.rx ∧ (beginOp s a).tx = s.tx ∧ (beginOp s a).noc = s.noc := by
  unfold beginOp
  simp only []
  repeat' split
  all_goals simp

@[simp] theorem runOrQueue_frame (s : State) (a : Nat) :
    (runOrQueue s a).pending = s.pending ∧ (runOrQueue s a).now = s.now ∧ (runOrQueue s a).ruling = s.ruling ∧
    (runOrQueue s a).cap = s.cap ∧ (runOrQueue s a).unit = s.unit ∧ (runOrQueue s a).pwr = s.pwr ∧
    (runOrQueue s a).seams = s.seams ∧ (runOrQueue s a).fab = s.fab ∧ (runOrQueue s a).clk = s.clk ∧
    (runOrQueue s a).tim = s.tim ∧ (runOrQueue s a).lan = s.lan ∧ (runOrQueue s a).rx = s.rx ∧ (runOrQueue s a).tx = s.tx ∧
    (runOrQueue s a).noc = s.noc := by
  unfold runOrQueue
  simp

@[simp] theorem repace_frame (s : State) (a : Nat) (b : Bool) :
    (repace s a b).pending = s.pending ∧ (repace s a b).now = s.now ∧ (repace s a b).fresh = s.fresh ∧
    (repace s a b).cat = s.cat ∧ (repace s a b).gen = s.gen ∧ (repace s a b).ruling = s.ruling ∧
    (repace s a b).cap = s.cap ∧ (repace s a b).mgmt = s.mgmt ∧ (repace s a b).unit = s.unit ∧ (repace s a b).pwr = s.pwr ∧
    (repace s a b).cfg = s.cfg ∧ (repace s a b).seams = s.seams ∧ (repace s a b).fab = s.fab ∧ (repace s a b).clk = s.clk ∧
    (repace s a b).tim = s.tim ∧ (repace s a b).lan = s.lan ∧ (repace s a b).rx = s.rx ∧ (repace s a b).tx = s.tx ∧
    (repace s a b).shu = s.shu ∧ (repace s a b).noc = s.noc ∧ (repace s a b).mem = s.mem ∧ (repace s a b).upd = s.upd := by
  unfold repace
  simp

@[simp] theorem noteControl_frame (s : State) (a : Nat) :
    (noteControl s a).pending = s.pending ∧ (noteControl s a).now = s.now ∧ (noteControl s a).fresh = s.fresh ∧
    (noteControl s a).cat = s.cat ∧ (noteControl s a).gen = s.gen ∧ (noteControl s a).ruling = s.ruling ∧
    (noteControl s a).cap = s.cap ∧ (noteControl s a).unit = s.unit ∧ (noteControl s a).pwr = s.pwr ∧
    (noteControl s a).cfg = s.cfg ∧ (noteControl s a).seams = s.seams ∧ (noteControl s a).fab = s.fab ∧
    (noteControl s a).clk = s.clk ∧ (noteControl s a).tim = s.tim ∧ (noteControl s a).lan = s.lan ∧
    (noteControl s a).rx = s.rx ∧ (noteControl s a).tx = s.tx ∧ (noteControl s a).shu = s.shu ∧
    (noteControl s a).noc = s.noc ∧ (noteControl s a).mem = s.mem ∧ (noteControl s a).itg = s.itg ∧
    (noteControl s a).upd = s.upd := by
  unfold noteControl
  simp

@[simp] theorem controlled_frame (s : State) (a : Nat) (b : Nat) :
    ((controlled s a b).getD s).pending = s.pending ∧ ((controlled s a b).getD s).now = s.now ∧
    ((controlled s a b).getD s).ruling = s.ruling ∧ ((controlled s a b).getD s).cap = s.cap ∧
    ((controlled s a b).getD s).unit = s.unit ∧ ((controlled s a b).getD s).pwr = s.pwr ∧
    ((controlled s a b).getD s).seams = s.seams ∧ ((controlled s a b).getD s).fab = s.fab ∧
    ((controlled s a b).getD s).clk = s.clk ∧ ((controlled s a b).getD s).tim = s.tim ∧
    ((controlled s a b).getD s).lan = s.lan ∧ ((controlled s a b).getD s).rx = s.rx ∧
    ((controlled s a b).getD s).tx = s.tx ∧ ((controlled s a b).getD s).noc = s.noc := by
  unfold controlled
  simp only []
  repeat' split
  all_goals simp

@[simp] theorem scrubTo_frame (s : State) (a : Nat) (b : Nat) :
    (scrubTo s a b).pending = s.pending ∧ (scrubTo s a b).now = s.now ∧ (scrubTo s a b).fresh = s.fresh ∧
    (scrubTo s a b).gen = s.gen ∧ (scrubTo s a b).ruling = s.ruling ∧ (scrubTo s a b).cap = s.cap ∧
    (scrubTo s a b).unit = s.unit ∧ (scrubTo s a b).pwr = s.pwr ∧ (scrubTo s a b).cfg = s.cfg ∧
    (scrubTo s a b).seams = s.seams ∧ (scrubTo s a b).fab = s.fab ∧ (scrubTo s a b).clk = s.clk ∧
    (scrubTo s a b).tim = s.tim ∧ (scrubTo s a b).lan = s.lan ∧ (scrubTo s a b).rx = s.rx ∧ (scrubTo s a b).tx = s.tx ∧
    (scrubTo s a b).shu = s.shu ∧ (scrubTo s a b).noc = s.noc ∧ (scrubTo s a b).itg = s.itg ∧ (scrubTo s a b).upd = s.upd := by
  unfold scrubTo
  simp

@[simp] theorem stepsDone_frame (s : State) (a : Nat) (b : Nat) (c : Nat) :
    (stepsDone s a b c).pending = s.pending ∧ (stepsDone s a b c).now = s.now ∧ (stepsDone s a b c).fresh = s.fresh ∧
    (stepsDone s a b c).gen = s.gen ∧ (stepsDone s a b c).ruling = s.ruling ∧ (stepsDone s a b c).cap = s.cap ∧
    (stepsDone s a b c).mgmt = s.mgmt ∧ (stepsDone s a b c).unit = s.unit ∧ (stepsDone s a b c).pwr = s.pwr ∧
    (stepsDone s a b c).cfg = s.cfg ∧ (stepsDone s a b c).seams = s.seams ∧ (stepsDone s a b c).fab = s.fab ∧
    (stepsDone s a b c).clk = s.clk ∧ (stepsDone s a b c).tim = s.tim ∧ (stepsDone s a b c).lan = s.lan ∧
    (stepsDone s a b c).rx = s.rx ∧ (stepsDone s a b c).tx = s.tx ∧ (stepsDone s a b c).shu = s.shu ∧
    (stepsDone s a b c).noc = s.noc ∧ (stepsDone s a b c).mem = s.mem ∧ (stepsDone s a b c).itg = s.itg ∧
    (stepsDone s a b c).upd = s.upd := by
  unfold stepsDone
  simp

@[simp] theorem passTest_frame (s : State) (a : Nat) :
    (passTest s a).pending = s.pending ∧ (passTest s a).now = s.now ∧ (passTest s a).fresh = s.fresh ∧
    (passTest s a).gen = s.gen ∧ (passTest s a).ruling = s.ruling ∧ (passTest s a).unit = s.unit ∧
    (passTest s a).pwr = s.pwr ∧ (passTest s a).cfg = s.cfg ∧ (passTest s a).seams = s.seams ∧ (passTest s a).fab = s.fab ∧
    (passTest s a).clk = s.clk ∧ (passTest s a).tim = s.tim ∧ (passTest s a).lan = s.lan ∧ (passTest s a).rx = s.rx ∧
    (passTest s a).tx = s.tx ∧ (passTest s a).shu = s.shu ∧ (passTest s a).noc = s.noc ∧ (passTest s a).mem = s.mem ∧
    (passTest s a).itg = s.itg ∧ (passTest s a).upd = s.upd := by
  unfold passTest
  simp

@[simp] theorem failTest_frame (s : State) (a : Nat) (b : Nat) :
    (failTest s a b).pending = s.pending ∧ (failTest s a b).now = s.now ∧ (failTest s a b).fresh = s.fresh ∧
    (failTest s a b).gen = s.gen ∧ (failTest s a b).ruling = s.ruling ∧ (failTest s a b).cap = s.cap ∧
    (failTest s a b).unit = s.unit ∧ (failTest s a b).pwr = s.pwr ∧ (failTest s a b).cfg = s.cfg ∧
    (failTest s a b).seams = s.seams ∧ (failTest s a b).fab = s.fab ∧ (failTest s a b).tim = s.tim ∧
    (failTest s a b).lan = s.lan ∧ (failTest s a b).rx = s.rx ∧ (failTest s a b).tx = s.tx ∧ (failTest s a b).shu = s.shu ∧
    (failTest s a b).noc = s.noc ∧ (failTest s a b).mem = s.mem ∧ (failTest s a b).itg = s.itg ∧
    (failTest s a b).upd = s.upd := by
  unfold failTest
  simp

@[simp] theorem retrained_frame (s : State) (a : Nat) :
    (retrained s a).pending = s.pending ∧ (retrained s a).now = s.now ∧ (retrained s a).fresh = s.fresh ∧
    (retrained s a).gen = s.gen ∧ (retrained s a).ruling = s.ruling ∧ (retrained s a).unit = s.unit ∧
    (retrained s a).pwr = s.pwr ∧ (retrained s a).cfg = s.cfg ∧ (retrained s a).seams = s.seams ∧
    (retrained s a).fab = s.fab ∧ (retrained s a).clk = s.clk ∧ (retrained s a).tim = s.tim ∧ (retrained s a).lan = s.lan ∧
    (retrained s a).rx = s.rx ∧ (retrained s a).tx = s.tx ∧ (retrained s a).shu = s.shu ∧ (retrained s a).noc = s.noc ∧
    (retrained s a).itg = s.itg ∧ (retrained s a).upd = s.upd := by
  unfold retrained
  simp

@[simp] theorem exportLog_frame (s : State) (a : Nat) :
    (exportLog s a).pending = s.pending ∧ (exportLog s a).now = s.now ∧ (exportLog s a).fresh = s.fresh ∧
    (exportLog s a).ruling = s.ruling ∧ (exportLog s a).unit = s.unit ∧ (exportLog s a).pwr = s.pwr ∧
    (exportLog s a).cfg = s.cfg ∧ (exportLog s a).seams = s.seams ∧ (exportLog s a).fab = s.fab ∧
    (exportLog s a).clk = s.clk ∧ (exportLog s a).tim = s.tim ∧ (exportLog s a).lan = s.lan ∧ (exportLog s a).rx = s.rx ∧
    (exportLog s a).tx = s.tx ∧ (exportLog s a).shu = s.shu ∧ (exportLog s a).noc = s.noc ∧ (exportLog s a).mem = s.mem ∧
    (exportLog s a).itg = s.itg ∧ (exportLog s a).upd = s.upd := by
  unfold exportLog
  simp

@[simp] theorem endRekey_frame (s : State) (a : Nat) :
    (endRekey s a).pending = s.pending ∧ (endRekey s a).now = s.now ∧ (endRekey s a).fresh = s.fresh ∧
    (endRekey s a).gen = s.gen ∧ (endRekey s a).ruling = s.ruling ∧ (endRekey s a).unit = s.unit ∧
    (endRekey s a).pwr = s.pwr ∧ (endRekey s a).cfg = s.cfg ∧ (endRekey s a).seams = s.seams ∧ (endRekey s a).fab = s.fab ∧
    (endRekey s a).clk = s.clk ∧ (endRekey s a).tim = s.tim ∧ (endRekey s a).lan = s.lan ∧ (endRekey s a).rx = s.rx ∧
    (endRekey s a).tx = s.tx ∧ (endRekey s a).shu = s.shu ∧ (endRekey s a).noc = s.noc ∧ (endRekey s a).mem = s.mem ∧
    (endRekey s a).upd = s.upd := by
  unfold endRekey
  simp only []
  repeat' split
  all_goals simp

@[simp] theorem State_setSes_frame (s : State) (a : Nat) (b : Session → Session) :
    (State.setSes s a b).pending = s.pending ∧ (State.setSes s a b).now = s.now ∧ (State.setSes s a b).fresh = s.fresh ∧
    (State.setSes s a b).cat = s.cat ∧ (State.setSes s a b).gen = s.gen ∧ (State.setSes s a b).ruling = s.ruling ∧
    (State.setSes s a b).cap = s.cap ∧ (State.setSes s a b).unit = s.unit ∧ (State.setSes s a b).pwr = s.pwr ∧
    (State.setSes s a b).cfg = s.cfg ∧ (State.setSes s a b).seams = s.seams ∧ (State.setSes s a b).fab = s.fab ∧
    (State.setSes s a b).clk = s.clk ∧ (State.setSes s a b).tim = s.tim ∧ (State.setSes s a b).lan = s.lan ∧
    (State.setSes s a b).rx = s.rx ∧ (State.setSes s a b).tx = s.tx ∧ (State.setSes s a b).shu = s.shu ∧
    (State.setSes s a b).noc = s.noc ∧ (State.setSes s a b).mem = s.mem ∧ (State.setSes s a b).itg = s.itg ∧
    (State.setSes s a b).upd = s.upd := by
  unfold State.setSes
  simp

@[simp] theorem sendCap_frame (s : State) (a : TxFrame) :
    (sendCap s a).pending = s.pending ∧ (sendCap s a).now = s.now ∧ (sendCap s a).fresh = s.fresh ∧
    (sendCap s a).cat = s.cat ∧ (sendCap s a).gen = s.gen ∧ (sendCap s a).ruling = s.ruling ∧ (sendCap s a).mgmt = s.mgmt ∧
    (sendCap s a).unit = s.unit ∧ (sendCap s a).pwr = s.pwr ∧ (sendCap s a).cfg = s.cfg ∧ (sendCap s a).seams = s.seams ∧
    (sendCap s a).fab = s.fab ∧ (sendCap s a).clk = s.clk ∧ (sendCap s a).tim = s.tim ∧ (sendCap s a).lan = s.lan ∧
    (sendCap s a).rx = s.rx ∧ (sendCap s a).tx = s.tx ∧ (sendCap s a).shu = s.shu ∧ (sendCap s a).noc = s.noc ∧
    (sendCap s a).mem = s.mem ∧ (sendCap s a).itg = s.itg ∧ (sendCap s a).upd = s.upd := by
  unfold sendCap
  simp

@[simp] theorem orphanCmds_frame (s : State) (a : Nat) :
    (orphanCmds s a).pending = s.pending ∧ (orphanCmds s a).now = s.now ∧ (orphanCmds s a).fresh = s.fresh ∧
    (orphanCmds s a).cat = s.cat ∧ (orphanCmds s a).gen = s.gen ∧ (orphanCmds s a).mgmt = s.mgmt ∧
    (orphanCmds s a).unit = s.unit ∧ (orphanCmds s a).pwr = s.pwr ∧ (orphanCmds s a).cfg = s.cfg ∧
    (orphanCmds s a).seams = s.seams ∧ (orphanCmds s a).fab = s.fab ∧ (orphanCmds s a).clk = s.clk ∧
    (orphanCmds s a).tim = s.tim ∧ (orphanCmds s a).rx = s.rx ∧ (orphanCmds s a).tx = s.tx ∧ (orphanCmds s a).shu = s.shu ∧
    (orphanCmds s a).mem = s.mem ∧ (orphanCmds s a).itg = s.itg := by
  unfold orphanCmds
  simp

@[simp] theorem dropStaged_frame (s : State) (a : Staged → Bool) :
    (dropStaged s a).pending = s.pending ∧ (dropStaged s a).now = s.now ∧ (dropStaged s a).fresh = s.fresh ∧
    (dropStaged s a).gen = s.gen ∧ (dropStaged s a).ruling = s.ruling ∧ (dropStaged s a).unit = s.unit ∧
    (dropStaged s a).pwr = s.pwr ∧ (dropStaged s a).cfg = s.cfg ∧ (dropStaged s a).seams = s.seams ∧
    (dropStaged s a).fab = s.fab ∧ (dropStaged s a).clk = s.clk ∧ (dropStaged s a).tim = s.tim ∧
    (dropStaged s a).lan = s.lan ∧ (dropStaged s a).rx = s.rx ∧ (dropStaged s a).tx = s.tx ∧ (dropStaged s a).shu = s.shu ∧
    (dropStaged s a).noc = s.noc ∧ (dropStaged s a).mem = s.mem ∧ (dropStaged s a).itg = s.itg ∧
    (dropStaged s a).upd = s.upd := by
  unfold dropStaged
  simp

@[simp] theorem freeSession_frame (s : State) (a : Nat) :
    (freeSession s a).pending = s.pending ∧ (freeSession s a).now = s.now ∧ (freeSession s a).fresh = s.fresh ∧
    (freeSession s a).gen = s.gen ∧ (freeSession s a).ruling = s.ruling ∧ (freeSession s a).cap = s.cap ∧
    (freeSession s a).unit = s.unit ∧ (freeSession s a).pwr = s.pwr ∧ (freeSession s a).cfg = s.cfg ∧
    (freeSession s a).seams = s.seams ∧ (freeSession s a).fab = s.fab ∧ (freeSession s a).clk = s.clk ∧
    (freeSession s a).tim = s.tim ∧ (freeSession s a).lan = s.lan ∧ (freeSession s a).rx = s.rx ∧
    (freeSession s a).tx = s.tx ∧ (freeSession s a).shu = s.shu ∧ (freeSession s a).noc = s.noc ∧
    (freeSession s a).mem = s.mem ∧ (freeSession s a).itg = s.itg ∧ (freeSession s a).upd = s.upd := by
  unfold freeSession
  simp

@[simp] theorem closeSession_frame (s : State) (a : Nat) (b : Nat) :
    (closeSession s a b).pending = s.pending ∧ (closeSession s a b).now = s.now ∧ (closeSession s a b).fresh = s.fresh ∧
    (closeSession s a b).gen = s.gen ∧ (closeSession s a b).unit = s.unit ∧ (closeSession s a b).pwr = s.pwr ∧
    (closeSession s a b).cfg = s.cfg ∧ (closeSession s a b).seams = s.seams ∧ (closeSession s a b).fab = s.fab ∧
    (closeSession s a b).clk = s.clk ∧ (closeSession s a b).tim = s.tim ∧ (closeSession s a b).rx = s.rx ∧
    (closeSession s a b).tx = s.tx ∧ (closeSession s a b).shu = s.shu ∧ (closeSession s a b).mem = s.mem ∧
    (closeSession s a b).itg = s.itg := by
  unfold closeSession
  simp

@[simp] theorem discardHalfOpen_frame (s : State) (a : Nat) (b : Nat) :
    (discardHalfOpen s a b).pending = s.pending ∧ (discardHalfOpen s a b).now = s.now ∧
    (discardHalfOpen s a b).fresh = s.fresh ∧ (discardHalfOpen s a b).gen = s.gen ∧
    (discardHalfOpen s a b).ruling = s.ruling ∧ (discardHalfOpen s a b).cap = s.cap ∧
    (discardHalfOpen s a b).unit = s.unit ∧ (discardHalfOpen s a b).pwr = s.pwr ∧ (discardHalfOpen s a b).cfg = s.cfg ∧
    (discardHalfOpen s a b).seams = s.seams ∧ (discardHalfOpen s a b).fab = s.fab ∧ (discardHalfOpen s a b).clk = s.clk ∧
    (discardHalfOpen s a b).tim = s.tim ∧ (discardHalfOpen s a b).lan = s.lan ∧ (discardHalfOpen s a b).rx = s.rx ∧
    (discardHalfOpen s a b).tx = s.tx ∧ (discardHalfOpen s a b).shu = s.shu ∧ (discardHalfOpen s a b).noc = s.noc ∧
    (discardHalfOpen s a b).mem = s.mem ∧ (discardHalfOpen s a b).itg = s.itg ∧ (discardHalfOpen s a b).upd = s.upd := by
  unfold discardHalfOpen
  simp

@[simp] theorem endSession_frame (s : State) (a : Nat) (b : Nat) (c : Nat) :
    (endSession s a b c).pending = s.pending ∧ (endSession s a b c).now = s.now ∧ (endSession s a b c).fresh = s.fresh ∧
    (endSession s a b c).gen = s.gen ∧ (endSession s a b c).unit = s.unit ∧ (endSession s a b c).pwr = s.pwr ∧
    (endSession s a b c).cfg = s.cfg ∧ (endSession s a b c).seams = s.seams ∧ (endSession s a b c).fab = s.fab ∧
    (endSession s a b c).clk = s.clk ∧ (endSession s a b c).tim = s.tim ∧ (endSession s a b c).rx = s.rx ∧
    (endSession s a b c).tx = s.tx ∧ (endSession s a b c).shu = s.shu ∧ (endSession s a b c).mem = s.mem ∧
    (endSession s a b c).itg = s.itg := by
  unfold endSession
  simp

@[simp] theorem endSlotSessions_frame (s : State) (a : Nat) (b : Nat) :
    (endSlotSessions s a b).pending = s.pending ∧ (endSlotSessions s a b).now = s.now ∧
    (endSlotSessions s a b).fresh = s.fresh ∧ (endSlotSessions s a b).gen = s.gen ∧ (endSlotSessions s a b).unit = s.unit ∧
    (endSlotSessions s a b).pwr = s.pwr ∧ (endSlotSessions s a b).cfg = s.cfg ∧ (endSlotSessions s a b).seams = s.seams ∧
    (endSlotSessions s a b).fab = s.fab ∧ (endSlotSessions s a b).clk = s.clk ∧ (endSlotSessions s a b).tim = s.tim ∧
    (endSlotSessions s a b).rx = s.rx ∧ (endSlotSessions s a b).tx = s.tx ∧ (endSlotSessions s a b).shu = s.shu ∧
    (endSlotSessions s a b).mem = s.mem ∧ (endSlotSessions s a b).itg = s.itg := by
  unfold endSlotSessions
  simp

@[simp] theorem installHostKey_frame (s : State) (a : Nat) (b : List Byte) :
    (installHostKey s a b).pending = s.pending ∧ (installHostKey s a b).now = s.now ∧
    (installHostKey s a b).fresh = s.fresh ∧ (installHostKey s a b).unit = s.unit ∧ (installHostKey s a b).pwr = s.pwr ∧
    (installHostKey s a b).cfg = s.cfg ∧ (installHostKey s a b).seams = s.seams ∧ (installHostKey s a b).fab = s.fab ∧
    (installHostKey s a b).clk = s.clk ∧ (installHostKey s a b).tim = s.tim ∧ (installHostKey s a b).rx = s.rx ∧
    (installHostKey s a b).tx = s.tx ∧ (installHostKey s a b).shu = s.shu ∧ (installHostKey s a b).mem = s.mem ∧
    (installHostKey s a b).itg = s.itg := by
  unfold installHostKey
  simp

@[simp] theorem recordEvent_frame (s : State) :
    (recordEvent s).pending = s.pending ∧ (recordEvent s).now = s.now ∧ (recordEvent s).fresh = s.fresh ∧
    (recordEvent s).gen = s.gen ∧ (recordEvent s).ruling = s.ruling ∧ (recordEvent s).cap = s.cap ∧
    (recordEvent s).unit = s.unit ∧ (recordEvent s).pwr = s.pwr ∧ (recordEvent s).cfg = s.cfg ∧
    (recordEvent s).seams = s.seams ∧ (recordEvent s).fab = s.fab ∧ (recordEvent s).clk = s.clk ∧
    (recordEvent s).tim = s.tim ∧ (recordEvent s).lan = s.lan ∧ (recordEvent s).rx = s.rx ∧ (recordEvent s).tx = s.tx ∧
    (recordEvent s).shu = s.shu ∧ (recordEvent s).noc = s.noc ∧ (recordEvent s).mem = s.mem ∧ (recordEvent s).itg = s.itg ∧
    (recordEvent s).upd = s.upd := by
  unfold recordEvent
  simp only []
  repeat' split
  all_goals simp

@[simp] theorem sendNotes_frame (s : State) (a : Nat) :
    (sendNotes s a).pending = s.pending ∧ (sendNotes s a).now = s.now ∧ (sendNotes s a).fresh = s.fresh ∧
    (sendNotes s a).gen = s.gen ∧ (sendNotes s a).ruling = s.ruling ∧ (sendNotes s a).unit = s.unit ∧
    (sendNotes s a).pwr = s.pwr ∧ (sendNotes s a).cfg = s.cfg ∧ (sendNotes s a).seams = s.seams ∧
    (sendNotes s a).fab = s.fab ∧ (sendNotes s a).clk = s.clk ∧ (sendNotes s a).tim = s.tim ∧ (sendNotes s a).lan = s.lan ∧
    (sendNotes s a).rx = s.rx ∧ (sendNotes s a).tx = s.tx ∧ (sendNotes s a).shu = s.shu ∧ (sendNotes s a).noc = s.noc ∧
    (sendNotes s a).mem = s.mem ∧ (sendNotes s a).itg = s.itg ∧ (sendNotes s a).upd = s.upd := by
  unfold sendNotes
  simp

@[simp] theorem raiseFabric_frame (s : State) (a : Nat) (b : Nat) (c : Nat) (d : List Byte) :
    (raiseFabric s a b c d).pending = s.pending ∧ (raiseFabric s a b c d).now = s.now ∧
    (raiseFabric s a b c d).fresh = s.fresh ∧ (raiseFabric s a b c d).cat = s.cat ∧ (raiseFabric s a b c d).gen = s.gen ∧
    (raiseFabric s a b c d).ruling = s.ruling ∧ (raiseFabric s a b c d).cap = s.cap ∧
    (raiseFabric s a b c d).unit = s.unit ∧ (raiseFabric s a b c d).pwr = s.pwr ∧ (raiseFabric s a b c d).cfg = s.cfg ∧
    (raiseFabric s a b c d).seams = s.seams ∧ (raiseFabric s a b c d).fab = s.fab ∧ (raiseFabric s a b c d).clk = s.clk ∧
    (raiseFabric s a b c d).tim = s.tim ∧ (raiseFabric s a b c d).lan = s.lan ∧ (raiseFabric s a b c d).rx = s.rx ∧
    (raiseFabric s a b c d).tx = s.tx ∧ (raiseFabric s a b c d).shu = s.shu ∧ (raiseFabric s a b c d).noc = s.noc ∧
    (raiseFabric s a b c d).mem = s.mem ∧ (raiseFabric s a b c d).itg = s.itg ∧ (raiseFabric s a b c d).upd = s.upd := by
  unfold raiseFabric
  simp

@[simp] theorem takeFabric_frame (s : State) (a : Nat) :
    (takeFabric s a).pending = s.pending ∧ (takeFabric s a).now = s.now ∧ (takeFabric s a).fresh = s.fresh ∧
    (takeFabric s a).gen = s.gen ∧ (takeFabric s a).ruling = s.ruling ∧ (takeFabric s a).cap = s.cap ∧
    (takeFabric s a).unit = s.unit ∧ (takeFabric s a).pwr = s.pwr ∧ (takeFabric s a).cfg = s.cfg ∧
    (takeFabric s a).seams = s.seams ∧ (takeFabric s a).fab = s.fab ∧ (takeFabric s a).clk = s.clk ∧
    (takeFabric s a).tim = s.tim ∧ (takeFabric s a).lan = s.lan ∧ (takeFabric s a).rx = s.rx ∧ (takeFabric s a).tx = s.tx ∧
    (takeFabric s a).shu = s.shu ∧ (takeFabric s a).noc = s.noc ∧ (takeFabric s a).mem = s.mem ∧
    (takeFabric s a).itg = s.itg ∧ (takeFabric s a).upd = s.upd := by
  unfold takeFabric
  split <;> simp

@[simp] theorem State_clearW1c_frame (s : State) (a : Nat) (b : Nat) :
    (State.clearW1c s a b).pending = s.pending ∧ (State.clearW1c s a b).now = s.now ∧
    (State.clearW1c s a b).fresh = s.fresh ∧ (State.clearW1c s a b).ruling = s.ruling ∧ (State.clearW1c s a b).cap = s.cap ∧
    (State.clearW1c s a b).mgmt = s.mgmt ∧ (State.clearW1c s a b).unit = s.unit ∧ (State.clearW1c s a b).pwr = s.pwr ∧
    (State.clearW1c s a b).cfg = s.cfg ∧ (State.clearW1c s a b).seams = s.seams ∧ (State.clearW1c s a b).fab = s.fab ∧
    (State.clearW1c s a b).clk = s.clk ∧ (State.clearW1c s a b).tim = s.tim ∧ (State.clearW1c s a b).lan = s.lan ∧
    (State.clearW1c s a b).rx = s.rx ∧ (State.clearW1c s a b).tx = s.tx ∧ (State.clearW1c s a b).shu = s.shu ∧
    (State.clearW1c s a b).noc = s.noc ∧ (State.clearW1c s a b).mem = s.mem ∧ (State.clearW1c s a b).itg = s.itg ∧
    (State.clearW1c s a b).upd = s.upd := by
  unfold State.clearW1c
  simp

@[simp] theorem State_clearPending_frame (s : State) (a : Nat) (b : Nat) :
    (State.clearPending s a b).pending = s.pending ∧ (State.clearPending s a b).now = s.now ∧
    (State.clearPending s a b).fresh = s.fresh ∧ (State.clearPending s a b).gen = s.gen ∧
    (State.clearPending s a b).ruling = s.ruling ∧ (State.clearPending s a b).cap = s.cap ∧
    (State.clearPending s a b).mgmt = s.mgmt ∧ (State.clearPending s a b).unit = s.unit ∧
    (State.clearPending s a b).pwr = s.pwr ∧ (State.clearPending s a b).cfg = s.cfg ∧
    (State.clearPending s a b).seams = s.seams ∧ (State.clearPending s a b).fab = s.fab ∧
    (State.clearPending s a b).clk = s.clk ∧ (State.clearPending s a b).tim = s.tim ∧
    (State.clearPending s a b).lan = s.lan ∧ (State.clearPending s a b).rx = s.rx ∧ (State.clearPending s a b).tx = s.tx ∧
    (State.clearPending s a b).shu = s.shu ∧ (State.clearPending s a b).noc = s.noc ∧
    (State.clearPending s a b).mem = s.mem ∧ (State.clearPending s a b).itg = s.itg ∧
    (State.clearPending s a b).upd = s.upd := by
  unfold State.clearPending
  simp

end Sys2Proof.Machine
end

