-- ==== Sys2Proof/Laws/FramesStreams.lean ====
section
/-! SUPPORT. What each operation over the state leaves alone:
stream flows. -/

namespace Sys2Proof.Machine

@[simp] theorem State_setTx_frame (s : State) (a : Nat) (b : TxFlow → TxFlow) :
    (State.setTx s a b).pending = s.pending ∧ (State.setTx s a b).now = s.now ∧ (State.setTx s a b).fresh = s.fresh ∧
    (State.setTx s a b).cat = s.cat ∧ (State.setTx s a b).gen = s.gen ∧ (State.setTx s a b).ruling = s.ruling ∧
    (State.setTx s a b).cap = s.cap ∧ (State.setTx s a b).mgmt = s.mgmt ∧ (State.setTx s a b).unit = s.unit ∧
    (State.setTx s a b).pwr = s.pwr ∧ (State.setTx s a b).cfg = s.cfg ∧ (State.setTx s a b).seams = s.seams ∧
    (State.setTx s a b).fab = s.fab ∧ (State.setTx s a b).clk = s.clk ∧ (State.setTx s a b).tim = s.tim ∧
    (State.setTx s a b).lan = s.lan ∧ (State.setTx s a b).rx = s.rx ∧ (State.setTx s a b).shu = s.shu ∧
    (State.setTx s a b).noc = s.noc ∧ (State.setTx s a b).mem = s.mem ∧ (State.setTx s a b).itg = s.itg ∧
    (State.setTx s a b).upd = s.upd := by
  unfold State.setTx
  split <;> simp

@[simp] theorem putTxState_frame (s : State) (a : Nat) (b : Nat) :
    (putTxState s a b).pending = s.pending ∧ (putTxState s a b).now = s.now ∧ (putTxState s a b).fresh = s.fresh ∧
    (putTxState s a b).gen = s.gen ∧ (putTxState s a b).ruling = s.ruling ∧ (putTxState s a b).cap = s.cap ∧
    (putTxState s a b).mgmt = s.mgmt ∧ (putTxState s a b).unit = s.unit ∧ (putTxState s a b).pwr = s.pwr ∧
    (putTxState s a b).cfg = s.cfg ∧ (putTxState s a b).seams = s.seams ∧ (putTxState s a b).fab = s.fab ∧
    (putTxState s a b).clk = s.clk ∧ (putTxState s a b).tim = s.tim ∧ (putTxState s a b).lan = s.lan ∧
    (putTxState s a b).rx = s.rx ∧ (putTxState s a b).tx = s.tx ∧ (putTxState s a b).shu = s.shu ∧
    (putTxState s a b).noc = s.noc ∧ (putTxState s a b).mem = s.mem ∧ (putTxState s a b).itg = s.itg ∧
    (putTxState s a b).upd = s.upd := by
  unfold putTxState
  simp

@[simp] theorem quietTx_frame (s : State) (a : Nat) :
    (quietTx s a).pending = s.pending ∧ (quietTx s a).now = s.now ∧ (quietTx s a).fresh = s.fresh ∧
    (quietTx s a).gen = s.gen ∧ (quietTx s a).ruling = s.ruling ∧ (quietTx s a).cap = s.cap ∧ (quietTx s a).mgmt = s.mgmt ∧
    (quietTx s a).unit = s.unit ∧ (quietTx s a).pwr = s.pwr ∧ (quietTx s a).cfg = s.cfg ∧ (quietTx s a).seams = s.seams ∧
    (quietTx s a).fab = s.fab ∧ (quietTx s a).clk = s.clk ∧ (quietTx s a).tim = s.tim ∧ (quietTx s a).lan = s.lan ∧
    (quietTx s a).rx = s.rx ∧ (quietTx s a).tx = s.tx ∧ (quietTx s a).shu = s.shu ∧ (quietTx s a).noc = s.noc ∧
    (quietTx s a).mem = s.mem ∧ (quietTx s a).itg = s.itg ∧ (quietTx s a).upd = s.upd := by
  unfold quietTx
  simp

@[simp] theorem rxChanged_frame (s : State) (a : Nat) :
    (rxChanged s a).pending = s.pending ∧ (rxChanged s a).now = s.now ∧ (rxChanged s a).fresh = s.fresh ∧
    (rxChanged s a).gen = s.gen ∧ (rxChanged s a).ruling = s.ruling ∧ (rxChanged s a).cap = s.cap ∧
    (rxChanged s a).mgmt = s.mgmt ∧ (rxChanged s a).unit = s.unit ∧ (rxChanged s a).pwr = s.pwr ∧
    (rxChanged s a).cfg = s.cfg ∧ (rxChanged s a).seams = s.seams ∧ (rxChanged s a).fab = s.fab ∧
    (rxChanged s a).clk = s.clk ∧ (rxChanged s a).tim = s.tim ∧ (rxChanged s a).lan = s.lan ∧ (rxChanged s a).rx = s.rx ∧
    (rxChanged s a).tx = s.tx ∧ (rxChanged s a).shu = s.shu ∧ (rxChanged s a).noc = s.noc ∧ (rxChanged s a).mem = s.mem ∧
    (rxChanged s a).itg = s.itg ∧ (rxChanged s a).upd = s.upd := by
  unfold rxChanged
  simp

@[simp] theorem startTx_frame (s : State) (a : Nat) :
    (startTx s a).pending = s.pending ∧ (startTx s a).now = s.now ∧ (startTx s a).fresh = s.fresh ∧
    (startTx s a).cat = s.cat ∧ (startTx s a).gen = s.gen ∧ (startTx s a).ruling = s.ruling ∧ (startTx s a).cap = s.cap ∧
    (startTx s a).mgmt = s.mgmt ∧ (startTx s a).unit = s.unit ∧ (startTx s a).pwr = s.pwr ∧ (startTx s a).cfg = s.cfg ∧
    (startTx s a).seams = s.seams ∧ (startTx s a).fab = s.fab ∧ (startTx s a).clk = s.clk ∧ (startTx s a).tim = s.tim ∧
    (startTx s a).lan = s.lan ∧ (startTx s a).rx = s.rx ∧ (startTx s a).shu = s.shu ∧ (startTx s a).noc = s.noc ∧
    (startTx s a).mem = s.mem ∧ (startTx s a).itg = s.itg ∧ (startTx s a).upd = s.upd := by
  unfold startTx
  simp

@[simp] theorem enableTx_frame (a : Nat) (s : State) :
    (enableTx a s).pending = s.pending ∧ (enableTx a s).now = s.now ∧ (enableTx a s).gen = s.gen ∧
    (enableTx a s).ruling = s.ruling ∧ (enableTx a s).cap = s.cap ∧ (enableTx a s).mgmt = s.mgmt ∧
    (enableTx a s).unit = s.unit ∧ (enableTx a s).pwr = s.pwr ∧ (enableTx a s).cfg = s.cfg ∧
    (enableTx a s).seams = s.seams ∧ (enableTx a s).fab = s.fab ∧ (enableTx a s).clk = s.clk ∧ (enableTx a s).tim = s.tim ∧
    (enableTx a s).lan = s.lan ∧ (enableTx a s).rx = s.rx ∧ (enableTx a s).shu = s.shu ∧ (enableTx a s).noc = s.noc ∧
    (enableTx a s).mem = s.mem ∧ (enableTx a s).itg = s.itg ∧ (enableTx a s).upd = s.upd := by
  unfold enableTx
  simp

@[simp] theorem stopTx_frame (s : State) (a : Nat) (b : Nat) :
    (stopTx s a b).pending = s.pending ∧ (stopTx s a b).now = s.now ∧ (stopTx s a b).fresh = s.fresh ∧
    (stopTx s a b).cap = s.cap ∧ (stopTx s a b).unit = s.unit ∧ (stopTx s a b).pwr = s.pwr ∧ (stopTx s a b).cfg = s.cfg ∧
    (stopTx s a b).seams = s.seams ∧ (stopTx s a b).fab = s.fab ∧ (stopTx s a b).clk = s.clk ∧ (stopTx s a b).tim = s.tim ∧
    (stopTx s a b).lan = s.lan ∧ (stopTx s a b).rx = s.rx ∧ (stopTx s a b).shu = s.shu ∧ (stopTx s a b).noc = s.noc ∧
    (stopTx s a b).mem = s.mem ∧ (stopTx s a b).itg = s.itg ∧ (stopTx s a b).upd = s.upd := by
  unfold stopTx
  simp

@[simp] theorem txDisarm_frame (s : State) (a : Nat) :
    (txDisarm s a).pending = s.pending ∧ (txDisarm s a).now = s.now ∧ (txDisarm s a).fresh = s.fresh ∧
    (txDisarm s a).gen = s.gen ∧ (txDisarm s a).ruling = s.ruling ∧ (txDisarm s a).cap = s.cap ∧
    (txDisarm s a).unit = s.unit ∧ (txDisarm s a).pwr = s.pwr ∧ (txDisarm s a).cfg = s.cfg ∧
    (txDisarm s a).seams = s.seams ∧ (txDisarm s a).fab = s.fab ∧ (txDisarm s a).clk = s.clk ∧ (txDisarm s a).tim = s.tim ∧
    (txDisarm s a).lan = s.lan ∧ (txDisarm s a).rx = s.rx ∧ (txDisarm s a).shu = s.shu ∧ (txDisarm s a).noc = s.noc ∧
    (txDisarm s a).mem = s.mem ∧ (txDisarm s a).itg = s.itg ∧ (txDisarm s a).upd = s.upd := by
  unfold txDisarm
  simp

@[simp] theorem txArm_frame (s : State) (a : Nat) :
    (txArm s a).pending = s.pending ∧ (txArm s a).now = s.now ∧ (txArm s a).fresh = s.fresh ∧ (txArm s a).gen = s.gen ∧
    (txArm s a).ruling = s.ruling ∧ (txArm s a).cap = s.cap ∧ (txArm s a).mgmt = s.mgmt ∧ (txArm s a).unit = s.unit ∧
    (txArm s a).pwr = s.pwr ∧ (txArm s a).cfg = s.cfg ∧ (txArm s a).seams = s.seams ∧ (txArm s a).fab = s.fab ∧
    (txArm s a).clk = s.clk ∧ (txArm s a).tim = s.tim ∧ (txArm s a).lan = s.lan ∧ (txArm s a).rx = s.rx ∧
    (txArm s a).shu = s.shu ∧ (txArm s a).noc = s.noc ∧ (txArm s a).mem = s.mem ∧ (txArm s a).itg = s.itg ∧
    (txArm s a).upd = s.upd := by
  unfold txArm
  simp

@[simp] theorem countNotSent_frame (s : State) (a : Nat) (b : Nat) :
    (countNotSent s a b).pending = s.pending ∧ (countNotSent s a b).now = s.now ∧ (countNotSent s a b).fresh = s.fresh ∧
    (countNotSent s a b).gen = s.gen ∧ (countNotSent s a b).ruling = s.ruling ∧ (countNotSent s a b).cap = s.cap ∧
    (countNotSent s a b).mgmt = s.mgmt ∧ (countNotSent s a b).unit = s.unit ∧ (countNotSent s a b).pwr = s.pwr ∧
    (countNotSent s a b).cfg = s.cfg ∧ (countNotSent s a b).seams = s.seams ∧ (countNotSent s a b).fab = s.fab ∧
    (countNotSent s a b).clk = s.clk ∧ (countNotSent s a b).tim = s.tim ∧ (countNotSent s a b).lan = s.lan ∧
    (countNotSent s a b).rx = s.rx ∧ (countNotSent s a b).tx = s.tx ∧ (countNotSent s a b).shu = s.shu ∧
    (countNotSent s a b).noc = s.noc ∧ (countNotSent s a b).mem = s.mem ∧ (countNotSent s a b).itg = s.itg ∧
    (countNotSent s a b).upd = s.upd := by
  unfold countNotSent
  simp

@[simp] theorem discardAt_frame (s : State) (a : Nat) (b : Nat) :
    (discardAt s a b).pending = s.pending ∧ (discardAt s a b).now = s.now ∧ (discardAt s a b).fresh = s.fresh ∧
    (discardAt s a b).gen = s.gen ∧ (discardAt s a b).ruling = s.ruling ∧ (discardAt s a b).cap = s.cap ∧
    (discardAt s a b).unit = s.unit ∧ (discardAt s a b).pwr = s.pwr ∧ (discardAt s a b).cfg = s.cfg ∧
    (discardAt s a b).seams = s.seams ∧ (discardAt s a b).fab = s.fab ∧ (discardAt s a b).clk = s.clk ∧
    (discardAt s a b).tim = s.tim ∧ (discardAt s a b).lan = s.lan ∧ (discardAt s a b).rx = s.rx ∧
    (discardAt s a b).tx = s.tx ∧ (discardAt s a b).shu = s.shu ∧ (discardAt s a b).noc = s.noc ∧
    (discardAt s a b).mem = s.mem ∧ (discardAt s a b).itg = s.itg ∧ (discardAt s a b).upd = s.upd := by
  unfold discardAt
  simp

@[simp] theorem missPacket_frame (s : State) (a : Nat) :
    (missPacket s a).pending = s.pending ∧ (missPacket s a).now = s.now ∧ (missPacket s a).fresh = s.fresh ∧
    (missPacket s a).gen = s.gen ∧ (missPacket s a).ruling = s.ruling ∧ (missPacket s a).cap = s.cap ∧
    (missPacket s a).unit = s.unit ∧ (missPacket s a).pwr = s.pwr ∧ (missPacket s a).cfg = s.cfg ∧
    (missPacket s a).seams = s.seams ∧ (missPacket s a).fab = s.fab ∧ (missPacket s a).clk = s.clk ∧
    (missPacket s a).tim = s.tim ∧ (missPacket s a).lan = s.lan ∧ (missPacket s a).rx = s.rx ∧ (missPacket s a).tx = s.tx ∧
    (missPacket s a).shu = s.shu ∧ (missPacket s a).noc = s.noc ∧ (missPacket s a).mem = s.mem ∧
    (missPacket s a).itg = s.itg ∧ (missPacket s a).upd = s.upd := by
  unfold missPacket
  simp

@[simp] theorem missFrame_frame (s : State) (a : Nat) (b : Nat) (c : Nat) :
    (missFrame s a b c).pending = s.pending ∧ (missFrame s a b c).now = s.now ∧ (missFrame s a b c).fresh = s.fresh ∧
    (missFrame s a b c).gen = s.gen ∧ (missFrame s a b c).ruling = s.ruling ∧ (missFrame s a b c).cap = s.cap ∧
    (missFrame s a b c).unit = s.unit ∧ (missFrame s a b c).pwr = s.pwr ∧ (missFrame s a b c).cfg = s.cfg ∧
    (missFrame s a b c).seams = s.seams ∧ (missFrame s a b c).fab = s.fab ∧ (missFrame s a b c).clk = s.clk ∧
    (missFrame s a b c).tim = s.tim ∧ (missFrame s a b c).lan = s.lan ∧ (missFrame s a b c).rx = s.rx ∧
    (missFrame s a b c).tx = s.tx ∧ (missFrame s a b c).shu = s.shu ∧ (missFrame s a b c).noc = s.noc ∧
    (missFrame s a b c).mem = s.mem ∧ (missFrame s a b c).itg = s.itg ∧ (missFrame s a b c).upd = s.upd := by
  unfold missFrame
  simp

@[simp] theorem sendLeg_frame (s : State) (a : Nat) (b : Bool) (c : TxPkt) (d : List Byte) :
    (sendLeg s a b c d).pending = s.pending ∧ (sendLeg s a b c d).now = s.now ∧ (sendLeg s a b c d).fresh = s.fresh ∧
    (sendLeg s a b c d).gen = s.gen ∧ (sendLeg s a b c d).ruling = s.ruling ∧ (sendLeg s a b c d).cap = s.cap ∧
    (sendLeg s a b c d).unit = s.unit ∧ (sendLeg s a b c d).pwr = s.pwr ∧ (sendLeg s a b c d).cfg = s.cfg ∧
    (sendLeg s a b c d).seams = s.seams ∧ (sendLeg s a b c d).fab = s.fab ∧ (sendLeg s a b c d).clk = s.clk ∧
    (sendLeg s a b c d).lan = s.lan ∧ (sendLeg s a b c d).rx = s.rx ∧ (sendLeg s a b c d).shu = s.shu ∧
    (sendLeg s a b c d).noc = s.noc ∧ (sendLeg s a b c d).mem = s.mem ∧ (sendLeg s a b c d).itg = s.itg ∧
    (sendLeg s a b c d).upd = s.upd := by
  unfold sendLeg
  simp

@[simp] theorem sendPacket_frame (s : State) (a : Nat) (b : TxPkt) (c : Bool) :
    (sendPacket s a b c).pending = s.pending ∧ (sendPacket s a b c).now = s.now ∧ (sendPacket s a b c).fresh = s.fresh ∧
    (sendPacket s a b c).gen = s.gen ∧ (sendPacket s a b c).ruling = s.ruling ∧ (sendPacket s a b c).cap = s.cap ∧
    (sendPacket s a b c).unit = s.unit ∧ (sendPacket s a b c).pwr = s.pwr ∧ (sendPacket s a b c).cfg = s.cfg ∧
    (sendPacket s a b c).seams = s.seams ∧ (sendPacket s a b c).fab = s.fab ∧ (sendPacket s a b c).clk = s.clk ∧
    (sendPacket s a b c).lan = s.lan ∧ (sendPacket s a b c).rx = s.rx ∧ (sendPacket s a b c).shu = s.shu ∧
    (sendPacket s a b c).noc = s.noc ∧ (sendPacket s a b c).mem = s.mem ∧ (sendPacket s a b c).itg = s.itg ∧
    (sendPacket s a b c).upd = s.upd := by
  unfold sendPacket
  simp

@[simp] theorem cutOld_frame (s : State) (a : Nat) (b : Nat) :
    (cutOld s a b).pending = s.pending ∧ (cutOld s a b).now = s.now ∧ (cutOld s a b).fresh = s.fresh ∧
    (cutOld s a b).gen = s.gen ∧ (cutOld s a b).ruling = s.ruling ∧ (cutOld s a b).cap = s.cap ∧
    (cutOld s a b).unit = s.unit ∧ (cutOld s a b).pwr = s.pwr ∧ (cutOld s a b).cfg = s.cfg ∧
    (cutOld s a b).seams = s.seams ∧ (cutOld s a b).fab = s.fab ∧ (cutOld s a b).clk = s.clk ∧ (cutOld s a b).tim = s.tim ∧
    (cutOld s a b).lan = s.lan ∧ (cutOld s a b).rx = s.rx ∧ (cutOld s a b).shu = s.shu ∧ (cutOld s a b).noc = s.noc ∧
    (cutOld s a b).mem = s.mem ∧ (cutOld s a b).itg = s.itg ∧ (cutOld s a b).upd = s.upd := by
  unfold cutOld
  simp

@[simp] theorem queuePacket_frame (s : State) (a : Nat) (b : TxPkt) :
    (queuePacket s a b).pending = s.pending ∧ (queuePacket s a b).now = s.now ∧ (queuePacket s a b).fresh = s.fresh ∧
    (queuePacket s a b).gen = s.gen ∧ (queuePacket s a b).ruling = s.ruling ∧ (queuePacket s a b).cap = s.cap ∧
    (queuePacket s a b).unit = s.unit ∧ (queuePacket s a b).pwr = s.pwr ∧ (queuePacket s a b).cfg = s.cfg ∧
    (queuePacket s a b).seams = s.seams ∧ (queuePacket s a b).fab = s.fab ∧ (queuePacket s a b).clk = s.clk ∧
    (queuePacket s a b).tim = s.tim ∧ (queuePacket s a b).lan = s.lan ∧ (queuePacket s a b).rx = s.rx ∧
    (queuePacket s a b).shu = s.shu ∧ (queuePacket s a b).noc = s.noc ∧ (queuePacket s a b).mem = s.mem ∧
    (queuePacket s a b).itg = s.itg ∧ (queuePacket s a b).upd = s.upd := by
  unfold queuePacket
  split <;> simp

@[simp] theorem nextFrame_frame (s : State) (a : Nat) :
    (nextFrame s a).pending = s.pending ∧ (nextFrame s a).now = s.now ∧ (nextFrame s a).fresh = s.fresh ∧
    (nextFrame s a).cat = s.cat ∧ (nextFrame s a).gen = s.gen ∧ (nextFrame s a).ruling = s.ruling ∧
    (nextFrame s a).cap = s.cap ∧ (nextFrame s a).mgmt = s.mgmt ∧ (nextFrame s a).unit = s.unit ∧
    (nextFrame s a).pwr = s.pwr ∧ (nextFrame s a).cfg = s.cfg ∧ (nextFrame s a).seams = s.seams ∧
    (nextFrame s a).fab = s.fab ∧ (nextFrame s a).clk = s.clk ∧ (nextFrame s a).tim = s.tim ∧ (nextFrame s a).lan = s.lan ∧
    (nextFrame s a).rx = s.rx ∧ (nextFrame s a).shu = s.shu ∧ (nextFrame s a).noc = s.noc ∧ (nextFrame s a).mem = s.mem ∧
    (nextFrame s a).itg = s.itg ∧ (nextFrame s a).upd = s.upd := by
  unfold nextFrame
  simp

@[simp] theorem nextPacket_frame (s : State) (a : Nat) :
    (nextPacket s a).pending = s.pending ∧ (nextPacket s a).now = s.now ∧ (nextPacket s a).fresh = s.fresh ∧
    (nextPacket s a).cat = s.cat ∧ (nextPacket s a).gen = s.gen ∧ (nextPacket s a).ruling = s.ruling ∧
    (nextPacket s a).cap = s.cap ∧ (nextPacket s a).mgmt = s.mgmt ∧ (nextPacket s a).unit = s.unit ∧
    (nextPacket s a).pwr = s.pwr ∧ (nextPacket s a).cfg = s.cfg ∧ (nextPacket s a).seams = s.seams ∧
    (nextPacket s a).fab = s.fab ∧ (nextPacket s a).clk = s.clk ∧ (nextPacket s a).tim = s.tim ∧
    (nextPacket s a).lan = s.lan ∧ (nextPacket s a).rx = s.rx ∧ (nextPacket s a).shu = s.shu ∧
    (nextPacket s a).noc = s.noc ∧ (nextPacket s a).mem = s.mem ∧ (nextPacket s a).itg = s.itg ∧
    (nextPacket s a).upd = s.upd := by
  unfold nextPacket
  simp

@[simp] theorem departBuilt_frame (s : State) (a : Nat) (b : Source) (c : Bool) :
    (departBuilt s a b c).pending = s.pending ∧ (departBuilt s a b c).fresh = s.fresh ∧ (departBuilt s a b c).gen = s.gen ∧
    (departBuilt s a b c).ruling = s.ruling ∧ (departBuilt s a b c).cap = s.cap ∧ (departBuilt s a b c).unit = s.unit ∧
    (departBuilt s a b c).pwr = s.pwr ∧ (departBuilt s a b c).cfg = s.cfg ∧ (departBuilt s a b c).seams = s.seams ∧
    (departBuilt s a b c).fab = s.fab ∧ (departBuilt s a b c).clk = s.clk ∧ (departBuilt s a b c).lan = s.lan ∧
    (departBuilt s a b c).rx = s.rx ∧ (departBuilt s a b c).shu = s.shu ∧ (departBuilt s a b c).noc = s.noc ∧
    (departBuilt s a b c).mem = s.mem ∧ (departBuilt s a b c).itg = s.itg ∧ (departBuilt s a b c).upd = s.upd := by
  unfold departBuilt
  simp only []
  repeat' split
  all_goals simp

@[simp] theorem departQueued_frame (s : State) (a : Nat) (b : TxPkt) :
    (departQueued s a b).pending = s.pending ∧ (departQueued s a b).fresh = s.fresh ∧ (departQueued s a b).gen = s.gen ∧
    (departQueued s a b).ruling = s.ruling ∧ (departQueued s a b).cap = s.cap ∧ (departQueued s a b).unit = s.unit ∧
    (departQueued s a b).pwr = s.pwr ∧ (departQueued s a b).cfg = s.cfg ∧ (departQueued s a b).seams = s.seams ∧
    (departQueued s a b).fab = s.fab ∧ (departQueued s a b).clk = s.clk ∧ (departQueued s a b).lan = s.lan ∧
    (departQueued s a b).rx = s.rx ∧ (departQueued s a b).shu = s.shu ∧ (departQueued s a b).noc = s.noc ∧
    (departQueued s a b).mem = s.mem ∧ (departQueued s a b).itg = s.itg ∧ (departQueued s a b).upd = s.upd := by
  unfold departQueued
  simp

@[simp] theorem depart_frame (s : State) (a : Nat) :
    (depart s a).pending = s.pending ∧ (depart s a).fresh = s.fresh ∧ (depart s a).gen = s.gen ∧
    (depart s a).ruling = s.ruling ∧ (depart s a).cap = s.cap ∧ (depart s a).unit = s.unit ∧ (depart s a).pwr = s.pwr ∧
    (depart s a).cfg = s.cfg ∧ (depart s a).seams = s.seams ∧ (depart s a).fab = s.fab ∧ (depart s a).clk = s.clk ∧
    (depart s a).lan = s.lan ∧ (depart s a).rx = s.rx ∧ (depart s a).shu = s.shu ∧ (depart s a).noc = s.noc ∧
    (depart s a).mem = s.mem ∧ (depart s a).itg = s.itg ∧ (depart s a).upd = s.upd := by
  unfold depart
  repeat' split
  all_goals simp

@[simp] theorem discardClass0_frame (s : State) (a : Nat) :
    (discardClass0 s a).pending = s.pending ∧ (discardClass0 s a).fresh = s.fresh ∧ (discardClass0 s a).gen = s.gen ∧
    (discardClass0 s a).ruling = s.ruling ∧ (discardClass0 s a).cap = s.cap ∧ (discardClass0 s a).unit = s.unit ∧
    (discardClass0 s a).pwr = s.pwr ∧ (discardClass0 s a).cfg = s.cfg ∧ (discardClass0 s a).seams = s.seams ∧
    (discardClass0 s a).fab = s.fab ∧ (discardClass0 s a).clk = s.clk ∧ (discardClass0 s a).lan = s.lan ∧
    (discardClass0 s a).rx = s.rx ∧ (discardClass0 s a).shu = s.shu ∧ (discardClass0 s a).noc = s.noc ∧
    (discardClass0 s a).mem = s.mem ∧ (discardClass0 s a).itg = s.itg ∧ (discardClass0 s a).upd = s.upd := by
  unfold discardClass0
  split <;> simp

@[simp] theorem readSlot_frame (s : State) (a : Nat) (b : Nat) (c : Source) (d : Nat) :
    (readSlot s a b c d).pending = s.pending ∧ (readSlot s a b c d).now = s.now ∧ (readSlot s a b c d).gen = s.gen ∧
    (readSlot s a b c d).ruling = s.ruling ∧ (readSlot s a b c d).cap = s.cap ∧ (readSlot s a b c d).unit = s.unit ∧
    (readSlot s a b c d).pwr = s.pwr ∧ (readSlot s a b c d).cfg = s.cfg ∧ (readSlot s a b c d).seams = s.seams ∧
    (readSlot s a b c d).fab = s.fab ∧ (readSlot s a b c d).clk = s.clk ∧ (readSlot s a b c d).tim = s.tim ∧
    (readSlot s a b c d).lan = s.lan ∧ (readSlot s a b c d).rx = s.rx ∧ (readSlot s a b c d).shu = s.shu ∧
    (readSlot s a b c d).upd = s.upd := by
  unfold readSlot
  have q := readGranules_frame s (engInit (a / 4096)) (c.addr + d * ringSlot s a) (ringSlot s a / 64) false
  revert q
  rcases readGranules s (engInit (a / 4096)) (c.addr + d * ringSlot s a) (ringSlot s a / 64) false with ⟨t, _ | l⟩ <;>
    intro q <;> simp only [] at q <;> simp [q]

@[simp] theorem dropWord_frame (s : State) (a : Nat) :
    (dropWord s a).pending = s.pending ∧ (dropWord s a).now = s.now ∧ (dropWord s a).fresh = s.fresh ∧
    (dropWord s a).gen = s.gen ∧ (dropWord s a).ruling = s.ruling ∧ (dropWord s a).cap = s.cap ∧
    (dropWord s a).mgmt = s.mgmt ∧ (dropWord s a).unit = s.unit ∧ (dropWord s a).pwr = s.pwr ∧ (dropWord s a).cfg = s.cfg ∧
    (dropWord s a).seams = s.seams ∧ (dropWord s a).fab = s.fab ∧ (dropWord s a).clk = s.clk ∧ (dropWord s a).tim = s.tim ∧
    (dropWord s a).lan = s.lan ∧ (dropWord s a).rx = s.rx ∧ (dropWord s a).tx = s.tx ∧ (dropWord s a).shu = s.shu ∧
    (dropWord s a).noc = s.noc ∧ (dropWord s a).mem = s.mem ∧ (dropWord s a).itg = s.itg ∧ (dropWord s a).upd = s.upd := by
  unfold dropWord
  simp

@[simp] theorem holdWord_frame (s : State) (a : Nat) (b : EssWord) (c : Nat) :
    (holdWord s a b c).pending = s.pending ∧ (holdWord s a b c).now = s.now ∧ (holdWord s a b c).fresh = s.fresh ∧
    (holdWord s a b c).cat = s.cat ∧ (holdWord s a b c).gen = s.gen ∧ (holdWord s a b c).ruling = s.ruling ∧
    (holdWord s a b c).cap = s.cap ∧ (holdWord s a b c).mgmt = s.mgmt ∧ (holdWord s a b c).unit = s.unit ∧
    (holdWord s a b c).pwr = s.pwr ∧ (holdWord s a b c).cfg = s.cfg ∧ (holdWord s a b c).seams = s.seams ∧
    (holdWord s a b c).fab = s.fab ∧ (holdWord s a b c).clk = s.clk ∧ (holdWord s a b c).tim = s.tim ∧
    (holdWord s a b c).lan = s.lan ∧ (holdWord s a b c).rx = s.rx ∧ (holdWord s a b c).shu = s.shu ∧
    (holdWord s a b c).noc = s.noc ∧ (holdWord s a b c).mem = s.mem ∧ (holdWord s a b c).itg = s.itg ∧
    (holdWord s a b c).upd = s.upd := by
  unfold holdWord
  simp

@[simp] theorem openFrame_frame (s : State) (a : Nat) (b : Nat) (c : EssWord) :
    (openFrame s a b c).pending = s.pending ∧ (openFrame s a b c).now = s.now ∧ (openFrame s a b c).fresh = s.fresh ∧
    (openFrame s a b c).gen = s.gen ∧ (openFrame s a b c).ruling = s.ruling ∧ (openFrame s a b c).cap = s.cap ∧
    (openFrame s a b c).mgmt = s.mgmt ∧ (openFrame s a b c).unit = s.unit ∧ (openFrame s a b c).pwr = s.pwr ∧
    (openFrame s a b c).cfg = s.cfg ∧ (openFrame s a b c).seams = s.seams ∧ (openFrame s a b c).fab = s.fab ∧
    (openFrame s a b c).clk = s.clk ∧ (openFrame s a b c).tim = s.tim ∧ (openFrame s a b c).lan = s.lan ∧
    (openFrame s a b c).rx = s.rx ∧ (openFrame s a b c).shu = s.shu ∧ (openFrame s a b c).noc = s.noc ∧
    (openFrame s a b c).mem = s.mem ∧ (openFrame s a b c).itg = s.itg ∧ (openFrame s a b c).upd = s.upd := by
  unfold openFrame
  simp

@[simp] theorem takeVideo_frame (s : State) (a : Nat) (b : Nat) (c : EssWord) :
    (takeVideo s a b c).pending = s.pending ∧ (takeVideo s a b c).now = s.now ∧ (takeVideo s a b c).fresh = s.fresh ∧
    (takeVideo s a b c).gen = s.gen ∧ (takeVideo s a b c).ruling = s.ruling ∧ (takeVideo s a b c).cap = s.cap ∧
    (takeVideo s a b c).mgmt = s.mgmt ∧ (takeVideo s a b c).unit = s.unit ∧ (takeVideo s a b c).pwr = s.pwr ∧
    (takeVideo s a b c).cfg = s.cfg ∧ (takeVideo s a b c).seams = s.seams ∧ (takeVideo s a b c).fab = s.fab ∧
    (takeVideo s a b c).clk = s.clk ∧ (takeVideo s a b c).tim = s.tim ∧ (takeVideo s a b c).lan = s.lan ∧
    (takeVideo s a b c).rx = s.rx ∧ (takeVideo s a b c).shu = s.shu ∧ (takeVideo s a b c).noc = s.noc ∧
    (takeVideo s a b c).mem = s.mem ∧ (takeVideo s a b c).itg = s.itg ∧ (takeVideo s a b c).upd = s.upd := by
  unfold takeVideo
  simp only []
  repeat' split
  all_goals simp

@[simp] theorem takeAudio_frame (s : State) (a : Nat) (b : Nat) (c : EssWord) :
    (takeAudio s a b c).pending = s.pending ∧ (takeAudio s a b c).now = s.now ∧ (takeAudio s a b c).fresh = s.fresh ∧
    (takeAudio s a b c).gen = s.gen ∧ (takeAudio s a b c).ruling = s.ruling ∧ (takeAudio s a b c).cap = s.cap ∧
    (takeAudio s a b c).mgmt = s.mgmt ∧ (takeAudio s a b c).unit = s.unit ∧ (takeAudio s a b c).pwr = s.pwr ∧
    (takeAudio s a b c).cfg = s.cfg ∧ (takeAudio s a b c).seams = s.seams ∧ (takeAudio s a b c).fab = s.fab ∧
    (takeAudio s a b c).clk = s.clk ∧ (takeAudio s a b c).tim = s.tim ∧ (takeAudio s a b c).lan = s.lan ∧
    (takeAudio s a b c).rx = s.rx ∧ (takeAudio s a b c).shu = s.shu ∧ (takeAudio s a b c).noc = s.noc ∧
    (takeAudio s a b c).mem = s.mem ∧ (takeAudio s a b c).itg = s.itg ∧ (takeAudio s a b c).upd = s.upd := by
  unfold takeAudio
  simp

@[simp] theorem shape_frame (s : State) (a : Nat) (b : Nat) (c : Nat) :
    (shape s a b c).1.pending = s.pending ∧ (shape s a b c).1.now = s.now ∧ (shape s a b c).1.fresh = s.fresh ∧
    (shape s a b c).1.cat = s.cat ∧ (shape s a b c).1.gen = s.gen ∧ (shape s a b c).1.ruling = s.ruling ∧
    (shape s a b c).1.cap = s.cap ∧ (shape s a b c).1.mgmt = s.mgmt ∧ (shape s a b c).1.unit = s.unit ∧
    (shape s a b c).1.pwr = s.pwr ∧ (shape s a b c).1.cfg = s.cfg ∧ (shape s a b c).1.seams = s.seams ∧
    (shape s a b c).1.fab = s.fab ∧ (shape s a b c).1.clk = s.clk ∧ (shape s a b c).1.tim = s.tim ∧
    (shape s a b c).1.lan = s.lan ∧ (shape s a b c).1.rx = s.rx ∧ (shape s a b c).1.shu = s.shu ∧
    (shape s a b c).1.noc = s.noc ∧ (shape s a b c).1.mem = s.mem ∧ (shape s a b c).1.itg = s.itg ∧
    (shape s a b c).1.upd = s.upd := by
  unfold shape
  simp

@[simp] theorem takeOpaque_frame (s : State) (a : Nat) (b : Nat) (c : EssWord) :
    (takeOpaque s a b c).pending = s.pending ∧ (takeOpaque s a b c).now = s.now ∧ (takeOpaque s a b c).fresh = s.fresh ∧
    (takeOpaque s a b c).gen = s.gen ∧ (takeOpaque s a b c).ruling = s.ruling ∧ (takeOpaque s a b c).cap = s.cap ∧
    (takeOpaque s a b c).unit = s.unit ∧ (takeOpaque s a b c).pwr = s.pwr ∧ (takeOpaque s a b c).cfg = s.cfg ∧
    (takeOpaque s a b c).seams = s.seams ∧ (takeOpaque s a b c).fab = s.fab ∧ (takeOpaque s a b c).clk = s.clk ∧
    (takeOpaque s a b c).tim = s.tim ∧ (takeOpaque s a b c).lan = s.lan ∧ (takeOpaque s a b c).rx = s.rx ∧
    (takeOpaque s a b c).shu = s.shu ∧ (takeOpaque s a b c).noc = s.noc ∧ (takeOpaque s a b c).mem = s.mem ∧
    (takeOpaque s a b c).itg = s.itg ∧ (takeOpaque s a b c).upd = s.upd := by
  unfold takeOpaque
  simp only []
  repeat' split
  all_goals simp

@[simp] theorem takeWord_frame (s : State) (a : Nat) (b : Nat) (c : Nat) (d : Nat) :
    (takeWord s a b c d).pending = s.pending ∧ (takeWord s a b c d).now = s.now ∧ (takeWord s a b c d).fresh = s.fresh ∧
    (takeWord s a b c d).gen = s.gen ∧ (takeWord s a b c d).ruling = s.ruling ∧ (takeWord s a b c d).cap = s.cap ∧
    (takeWord s a b c d).unit = s.unit ∧ (takeWord s a b c d).pwr = s.pwr ∧ (takeWord s a b c d).cfg = s.cfg ∧
    (takeWord s a b c d).seams = s.seams ∧ (takeWord s a b c d).fab = s.fab ∧ (takeWord s a b c d).clk = s.clk ∧
    (takeWord s a b c d).tim = s.tim ∧ (takeWord s a b c d).lan = s.lan ∧ (takeWord s a b c d).rx = s.rx ∧
    (takeWord s a b c d).shu = s.shu ∧ (takeWord s a b c d).noc = s.noc ∧ (takeWord s a b c d).mem = s.mem ∧
    (takeWord s a b c d).itg = s.itg ∧ (takeWord s a b c d).upd = s.upd := by
  unfold takeWord
  simp

@[simp] theorem passPick_frame (s : State) (a : Nat) :
    (passPick s a).pending = s.pending ∧ (passPick s a).now = s.now ∧ (passPick s a).fresh = s.fresh ∧
    (passPick s a).gen = s.gen ∧ (passPick s a).ruling = s.ruling ∧ (passPick s a).cap = s.cap ∧
    (passPick s a).unit = s.unit ∧ (passPick s a).pwr = s.pwr ∧ (passPick s a).cfg = s.cfg ∧
    (passPick s a).seams = s.seams ∧ (passPick s a).fab = s.fab ∧ (passPick s a).clk = s.clk ∧ (passPick s a).tim = s.tim ∧
    (passPick s a).lan = s.lan ∧ (passPick s a).rx = s.rx ∧ (passPick s a).shu = s.shu ∧ (passPick s a).noc = s.noc ∧
    (passPick s a).mem = s.mem ∧ (passPick s a).itg = s.itg ∧ (passPick s a).upd = s.upd := by
  unfold passPick
  simp

@[simp] theorem passedPicks_frame (s : State) (a : Nat) :
    (passedPicks s a).pending = s.pending ∧ (passedPicks s a).now = s.now ∧ (passedPicks s a).fresh = s.fresh ∧
    (passedPicks s a).gen = s.gen ∧ (passedPicks s a).ruling = s.ruling ∧ (passedPicks s a).cap = s.cap ∧
    (passedPicks s a).unit = s.unit ∧ (passedPicks s a).pwr = s.pwr ∧ (passedPicks s a).cfg = s.cfg ∧
    (passedPicks s a).seams = s.seams ∧ (passedPicks s a).fab = s.fab ∧ (passedPicks s a).clk = s.clk ∧
    (passedPicks s a).tim = s.tim ∧ (passedPicks s a).lan = s.lan ∧ (passedPicks s a).rx = s.rx ∧
    (passedPicks s a).shu = s.shu ∧ (passedPicks s a).noc = s.noc ∧ (passedPicks s a).mem = s.mem ∧
    (passedPicks s a).itg = s.itg ∧ (passedPicks s a).upd = s.upd := by
  unfold passedPicks
  simp

@[simp] theorem takeMarker_frame (s : State) (a : Nat) (b : Nat) (c : Nat) (d : Nat) (e : Nat) :
    (takeMarker s a b c d e).pending = s.pending ∧ (takeMarker s a b c d e).now = s.now ∧
    (takeMarker s a b c d e).fresh = s.fresh ∧ (takeMarker s a b c d e).gen = s.gen ∧
    (takeMarker s a b c d e).ruling = s.ruling ∧ (takeMarker s a b c d e).cap = s.cap ∧
    (takeMarker s a b c d e).unit = s.unit ∧ (takeMarker s a b c d e).pwr = s.pwr ∧ (takeMarker s a b c d e).cfg = s.cfg ∧
    (takeMarker s a b c d e).seams = s.seams ∧ (takeMarker s a b c d e).fab = s.fab ∧ (takeMarker s a b c d e).clk = s.clk ∧
    (takeMarker s a b c d e).tim = s.tim ∧ (takeMarker s a b c d e).lan = s.lan ∧ (takeMarker s a b c d e).tx = s.tx ∧
    (takeMarker s a b c d e).shu = s.shu ∧ (takeMarker s a b c d e).noc = s.noc ∧ (takeMarker s a b c d e).mem = s.mem ∧
    (takeMarker s a b c d e).itg = s.itg ∧ (takeMarker s a b c d e).upd = s.upd := by
  unfold takeMarker
  simp

@[simp] theorem writeSource_frame (s : State) (a : Nat) (b : Nat) (c : Source) :
    (writeSource s a b c).pending = s.pending ∧ (writeSource s a b c).now = s.now ∧ (writeSource s a b c).fresh = s.fresh ∧
    (writeSource s a b c).ruling = s.ruling ∧ (writeSource s a b c).cap = s.cap ∧ (writeSource s a b c).mgmt = s.mgmt ∧
    (writeSource s a b c).unit = s.unit ∧ (writeSource s a b c).pwr = s.pwr ∧ (writeSource s a b c).cfg = s.cfg ∧
    (writeSource s a b c).seams = s.seams ∧ (writeSource s a b c).fab = s.fab ∧ (writeSource s a b c).clk = s.clk ∧
    (writeSource s a b c).tim = s.tim ∧ (writeSource s a b c).lan = s.lan ∧ (writeSource s a b c).rx = s.rx ∧
    (writeSource s a b c).tx = s.tx ∧ (writeSource s a b c).shu = s.shu ∧ (writeSource s a b c).noc = s.noc ∧
    (writeSource s a b c).mem = s.mem ∧ (writeSource s a b c).itg = s.itg ∧ (writeSource s a b c).upd = s.upd := by
  unfold writeSource
  simp

@[simp] theorem armTake_frame (s : State) (a : Nat) (b : Nat) (c : Source) :
    (armTake s a b c).s.pending = s.pending ∧ (armTake s a b c).s.now = s.now ∧ (armTake s a b c).s.fresh = s.fresh ∧
    (armTake s a b c).s.ruling = s.ruling ∧ (armTake s a b c).s.cap = s.cap ∧ (armTake s a b c).s.unit = s.unit ∧
    (armTake s a b c).s.pwr = s.pwr ∧ (armTake s a b c).s.cfg = s.cfg ∧ (armTake s a b c).s.seams = s.seams ∧
    (armTake s a b c).s.fab = s.fab ∧ (armTake s a b c).s.clk = s.clk ∧ (armTake s a b c).s.tim = s.tim ∧
    (armTake s a b c).s.lan = s.lan ∧ (armTake s a b c).s.shu = s.shu ∧ (armTake s a b c).s.noc = s.noc ∧
    (armTake s a b c).s.mem = s.mem ∧ (armTake s a b c).s.itg = s.itg ∧ (armTake s a b c).s.upd = s.upd := by
  unfold armTake
  repeat' split
  all_goals simp

@[simp] theorem State_setRx_frame (s : State) (a : Nat) (b : RxFlow → RxFlow) :
    (State.setRx s a b).pending = s.pending ∧ (State.setRx s a b).now = s.now ∧ (State.setRx s a b).fresh = s.fresh ∧
    (State.setRx s a b).cat = s.cat ∧ (State.setRx s a b).gen = s.gen ∧ (State.setRx s a b).ruling = s.ruling ∧
    (State.setRx s a b).cap = s.cap ∧ (State.setRx s a b).mgmt = s.mgmt ∧ (State.setRx s a b).unit = s.unit ∧
    (State.setRx s a b).pwr = s.pwr ∧ (State.setRx s a b).cfg = s.cfg ∧ (State.setRx s a b).seams = s.seams ∧
    (State.setRx s a b).fab = s.fab ∧ (State.setRx s a b).clk = s.clk ∧ (State.setRx s a b).tim = s.tim ∧
    (State.setRx s a b).lan = s.lan ∧ (State.setRx s a b).tx = s.tx ∧ (State.setRx s a b).shu = s.shu ∧
    (State.setRx s a b).noc = s.noc ∧ (State.setRx s a b).mem = s.mem ∧ (State.setRx s a b).itg = s.itg ∧
    (State.setRx s a b).upd = s.upd := by
  unfold State.setRx
  split <;> simp

@[simp] theorem putRxState_frame (s : State) (a : Nat) (b : Nat) :
    (putRxState s a b).pending = s.pending ∧ (putRxState s a b).now = s.now ∧ (putRxState s a b).fresh = s.fresh ∧
    (putRxState s a b).gen = s.gen ∧ (putRxState s a b).ruling = s.ruling ∧ (putRxState s a b).cap = s.cap ∧
    (putRxState s a b).mgmt = s.mgmt ∧ (putRxState s a b).unit = s.unit ∧ (putRxState s a b).pwr = s.pwr ∧
    (putRxState s a b).cfg = s.cfg ∧ (putRxState s a b).seams = s.seams ∧ (putRxState s a b).fab = s.fab ∧
    (putRxState s a b).clk = s.clk ∧ (putRxState s a b).tim = s.tim ∧ (putRxState s a b).lan = s.lan ∧
    (putRxState s a b).rx = s.rx ∧ (putRxState s a b).tx = s.tx ∧ (putRxState s a b).shu = s.shu ∧
    (putRxState s a b).noc = s.noc ∧ (putRxState s a b).mem = s.mem ∧ (putRxState s a b).itg = s.itg ∧
    (putRxState s a b).upd = s.upd := by
  unfold putRxState
  simp

@[simp] theorem enableRx_frame (a : Nat) (s : State) :
    (enableRx a s).pending = s.pending ∧ (enableRx a s).now = s.now ∧ (enableRx a s).fresh = s.fresh ∧
    (enableRx a s).gen = s.gen ∧ (enableRx a s).ruling = s.ruling ∧ (enableRx a s).cap = s.cap ∧
    (enableRx a s).mgmt = s.mgmt ∧ (enableRx a s).unit = s.unit ∧ (enableRx a s).pwr = s.pwr ∧ (enableRx a s).cfg = s.cfg ∧
    (enableRx a s).seams = s.seams ∧ (enableRx a s).fab = s.fab ∧ (enableRx a s).clk = s.clk ∧ (enableRx a s).tim = s.tim ∧
    (enableRx a s).lan = s.lan ∧ (enableRx a s).tx = s.tx ∧ (enableRx a s).shu = s.shu ∧ (enableRx a s).noc = s.noc ∧
    (enableRx a s).mem = s.mem ∧ (enableRx a s).itg = s.itg ∧ (enableRx a s).upd = s.upd := by
  unfold enableRx
  simp

@[simp] theorem sendEnd_frame (s : State) (a : Nat) (b : Nat) :
    (sendEnd s a b).pending = s.pending ∧ (sendEnd s a b).now = s.now ∧ (sendEnd s a b).fresh = s.fresh ∧
    (sendEnd s a b).gen = s.gen ∧ (sendEnd s a b).ruling = s.ruling ∧ (sendEnd s a b).cap = s.cap ∧
    (sendEnd s a b).unit = s.unit ∧ (sendEnd s a b).pwr = s.pwr ∧ (sendEnd s a b).cfg = s.cfg ∧
    (sendEnd s a b).seams = s.seams ∧ (sendEnd s a b).fab = s.fab ∧ (sendEnd s a b).clk = s.clk ∧
    (sendEnd s a b).tim = s.tim ∧ (sendEnd s a b).lan = s.lan ∧ (sendEnd s a b).tx = s.tx ∧ (sendEnd s a b).shu = s.shu ∧
    (sendEnd s a b).noc = s.noc ∧ (sendEnd s a b).mem = s.mem ∧ (sendEnd s a b).itg = s.itg ∧ (sendEnd s a b).upd = s.upd := by
  unfold sendEnd
  simp

@[simp] theorem setStaging_frame (s : State) (a : Nat) (b : Nat) :
    (setStaging s a b).pending = s.pending ∧ (setStaging s a b).now = s.now ∧ (setStaging s a b).fresh = s.fresh ∧
    (setStaging s a b).gen = s.gen ∧ (setStaging s a b).ruling = s.ruling ∧ (setStaging s a b).cap = s.cap ∧
    (setStaging s a b).mgmt = s.mgmt ∧ (setStaging s a b).unit = s.unit ∧ (setStaging s a b).pwr = s.pwr ∧
    (setStaging s a b).cfg = s.cfg ∧ (setStaging s a b).seams = s.seams ∧ (setStaging s a b).fab = s.fab ∧
    (setStaging s a b).clk = s.clk ∧ (setStaging s a b).tim = s.tim ∧ (setStaging s a b).lan = s.lan ∧
    (setStaging s a b).tx = s.tx ∧ (setStaging s a b).shu = s.shu ∧ (setStaging s a b).noc = s.noc ∧
    (setStaging s a b).mem = s.mem ∧ (setStaging s a b).itg = s.itg ∧ (setStaging s a b).upd = s.upd := by
  unfold setStaging
  simp

@[simp] theorem dropBuffer_frame (s : State) (a : Nat) :
    (dropBuffer s a).pending = s.pending ∧ (dropBuffer s a).now = s.now ∧ (dropBuffer s a).fresh = s.fresh ∧
    (dropBuffer s a).gen = s.gen ∧ (dropBuffer s a).ruling = s.ruling ∧ (dropBuffer s a).cap = s.cap ∧
    (dropBuffer s a).mgmt = s.mgmt ∧ (dropBuffer s a).unit = s.unit ∧ (dropBuffer s a).pwr = s.pwr ∧
    (dropBuffer s a).cfg = s.cfg ∧ (dropBuffer s a).seams = s.seams ∧ (dropBuffer s a).fab = s.fab ∧
    (dropBuffer s a).clk = s.clk ∧ (dropBuffer s a).tim = s.tim ∧ (dropBuffer s a).lan = s.lan ∧
    (dropBuffer s a).tx = s.tx ∧ (dropBuffer s a).shu = s.shu ∧ (dropBuffer s a).noc = s.noc ∧
    (dropBuffer s a).mem = s.mem ∧ (dropBuffer s a).itg = s.itg ∧ (dropBuffer s a).upd = s.upd := by
  unfold dropBuffer
  simp

@[simp] theorem stopRx_frame (s : State) (a : Nat) :
    (stopRx s a).pending = s.pending ∧ (stopRx s a).now = s.now ∧ (stopRx s a).fresh = s.fresh ∧
    (stopRx s a).ruling = s.ruling ∧ (stopRx s a).cap = s.cap ∧ (stopRx s a).unit = s.unit ∧ (stopRx s a).pwr = s.pwr ∧
    (stopRx s a).cfg = s.cfg ∧ (stopRx s a).seams = s.seams ∧ (stopRx s a).fab = s.fab ∧ (stopRx s a).clk = s.clk ∧
    (stopRx s a).tim = s.tim ∧ (stopRx s a).lan = s.lan ∧ (stopRx s a).tx = s.tx ∧ (stopRx s a).shu = s.shu ∧
    (stopRx s a).noc = s.noc ∧ (stopRx s a).mem = s.mem ∧ (stopRx s a).itg = s.itg ∧ (stopRx s a).upd = s.upd := by
  unfold stopRx
  simp

@[simp] theorem forgetLegs_frame (s : State) (a : Nat) :
    (forgetLegs s a).pending = s.pending ∧ (forgetLegs s a).now = s.now ∧ (forgetLegs s a).fresh = s.fresh ∧
    (forgetLegs s a).gen = s.gen ∧ (forgetLegs s a).ruling = s.ruling ∧ (forgetLegs s a).cap = s.cap ∧
    (forgetLegs s a).mgmt = s.mgmt ∧ (forgetLegs s a).unit = s.unit ∧ (forgetLegs s a).pwr = s.pwr ∧
    (forgetLegs s a).cfg = s.cfg ∧ (forgetLegs s a).seams = s.seams ∧ (forgetLegs s a).fab = s.fab ∧
    (forgetLegs s a).clk = s.clk ∧ (forgetLegs s a).tim = s.tim ∧ (forgetLegs s a).lan = s.lan ∧
    (forgetLegs s a).tx = s.tx ∧ (forgetLegs s a).shu = s.shu ∧ (forgetLegs s a).noc = s.noc ∧
    (forgetLegs s a).mem = s.mem ∧ (forgetLegs s a).itg = s.itg ∧ (forgetLegs s a).upd = s.upd := by
  unfold forgetLegs
  simp

@[simp] theorem rxDisarm_frame (s : State) (a : Nat) :
    (rxDisarm s a).pending = s.pending ∧ (rxDisarm s a).now = s.now ∧ (rxDisarm s a).fresh = s.fresh ∧
    (rxDisarm s a).gen = s.gen ∧ (rxDisarm s a).ruling = s.ruling ∧ (rxDisarm s a).cap = s.cap ∧
    (rxDisarm s a).unit = s.unit ∧ (rxDisarm s a).pwr = s.pwr ∧ (rxDisarm s a).cfg = s.cfg ∧
    (rxDisarm s a).seams = s.seams ∧ (rxDisarm s a).fab = s.fab ∧ (rxDisarm s a).clk = s.clk ∧ (rxDisarm s a).tim = s.tim ∧
    (rxDisarm s a).lan = s.lan ∧ (rxDisarm s a).tx = s.tx ∧ (rxDisarm s a).shu = s.shu ∧ (rxDisarm s a).noc = s.noc ∧
    (rxDisarm s a).mem = s.mem ∧ (rxDisarm s a).itg = s.itg ∧ (rxDisarm s a).upd = s.upd := by
  unfold rxDisarm
  simp

@[simp] theorem judgePanic_frame (s : State) (a : Nat) :
    (judgePanic s a).pending = s.pending ∧ (judgePanic s a).now = s.now ∧ (judgePanic s a).fresh = s.fresh ∧
    (judgePanic s a).gen = s.gen ∧ (judgePanic s a).ruling = s.ruling ∧ (judgePanic s a).cap = s.cap ∧
    (judgePanic s a).unit = s.unit ∧ (judgePanic s a).pwr = s.pwr ∧ (judgePanic s a).cfg = s.cfg ∧
    (judgePanic s a).seams = s.seams ∧ (judgePanic s a).fab = s.fab ∧ (judgePanic s a).clk = s.clk ∧
    (judgePanic s a).tim = s.tim ∧ (judgePanic s a).lan = s.lan ∧ (judgePanic s a).rx = s.rx ∧ (judgePanic s a).tx = s.tx ∧
    (judgePanic s a).shu = s.shu ∧ (judgePanic s a).noc = s.noc ∧ (judgePanic s a).mem = s.mem ∧
    (judgePanic s a).itg = s.itg ∧ (judgePanic s a).upd = s.upd := by
  unfold judgePanic
  simp

@[simp] theorem takeException_frame (s : State) (a : Nat) (b : Nat) (c : List Byte) :
    (takeException s a b c).pending = s.pending ∧ (takeException s a b c).now = s.now ∧
    (takeException s a b c).fresh = s.fresh ∧ (takeException s a b c).gen = s.gen ∧
    (takeException s a b c).ruling = s.ruling ∧ (takeException s a b c).cap = s.cap ∧
    (takeException s a b c).mgmt = s.mgmt ∧ (takeException s a b c).unit = s.unit ∧ (takeException s a b c).pwr = s.pwr ∧
    (takeException s a b c).cfg = s.cfg ∧ (takeException s a b c).seams = s.seams ∧ (takeException s a b c).fab = s.fab ∧
    (takeException s a b c).clk = s.clk ∧ (takeException s a b c).tim = s.tim ∧ (takeException s a b c).lan = s.lan ∧
    (takeException s a b c).tx = s.tx ∧ (takeException s a b c).shu = s.shu ∧ (takeException s a b c).itg = s.itg ∧
    (takeException s a b c).upd = s.upd := by
  unfold takeException
  simp

@[simp] theorem putLeg_frame (s : State) (a : Nat) (b : Bool) (c : Nat) :
    (putLeg s a b c).pending = s.pending ∧ (putLeg s a b c).now = s.now ∧ (putLeg s a b c).fresh = s.fresh ∧
    (putLeg s a b c).gen = s.gen ∧ (putLeg s a b c).ruling = s.ruling ∧ (putLeg s a b c).cap = s.cap ∧
    (putLeg s a b c).unit = s.unit ∧ (putLeg s a b c).pwr = s.pwr ∧ (putLeg s a b c).cfg = s.cfg ∧
    (putLeg s a b c).seams = s.seams ∧ (putLeg s a b c).fab = s.fab ∧ (putLeg s a b c).clk = s.clk ∧
    (putLeg s a b c).tim = s.tim ∧ (putLeg s a b c).lan = s.lan ∧ (putLeg s a b c).rx = s.rx ∧ (putLeg s a b c).tx = s.tx ∧
    (putLeg s a b c).shu = s.shu ∧ (putLeg s a b c).noc = s.noc ∧ (putLeg s a b c).mem = s.mem ∧
    (putLeg s a b c).itg = s.itg ∧ (putLeg s a b c).upd = s.upd := by
  unfold putLeg
  simp

@[simp] theorem noteSkew_frame (s : State) (a : Nat) (b : Bool) (c : Nat) :
    (noteSkew s a b c).pending = s.pending ∧ (noteSkew s a b c).now = s.now ∧ (noteSkew s a b c).fresh = s.fresh ∧
    (noteSkew s a b c).gen = s.gen ∧ (noteSkew s a b c).ruling = s.ruling ∧ (noteSkew s a b c).cap = s.cap ∧
    (noteSkew s a b c).mgmt = s.mgmt ∧ (noteSkew s a b c).unit = s.unit ∧ (noteSkew s a b c).pwr = s.pwr ∧
    (noteSkew s a b c).cfg = s.cfg ∧ (noteSkew s a b c).seams = s.seams ∧ (noteSkew s a b c).fab = s.fab ∧
    (noteSkew s a b c).clk = s.clk ∧ (noteSkew s a b c).tim = s.tim ∧ (noteSkew s a b c).lan = s.lan ∧
    (noteSkew s a b c).tx = s.tx ∧ (noteSkew s a b c).shu = s.shu ∧ (noteSkew s a b c).noc = s.noc ∧
    (noteSkew s a b c).mem = s.mem ∧ (noteSkew s a b c).itg = s.itg ∧ (noteSkew s a b c).upd = s.upd := by
  unfold noteSkew
  simp only []
  split
  · simp
  · simp only [State_put_frame, State_setRx_frame, and_self]

@[simp] theorem bufferPacket_frame (s : State) (a : Nat) (b : RxPkt) :
    (bufferPacket s a b).pending = s.pending ∧ (bufferPacket s a b).now = s.now ∧ (bufferPacket s a b).fresh = s.fresh ∧
    (bufferPacket s a b).gen = s.gen ∧ (bufferPacket s a b).ruling = s.ruling ∧ (bufferPacket s a b).cap = s.cap ∧
    (bufferPacket s a b).mgmt = s.mgmt ∧ (bufferPacket s a b).unit = s.unit ∧ (bufferPacket s a b).pwr = s.pwr ∧
    (bufferPacket s a b).cfg = s.cfg ∧ (bufferPacket s a b).seams = s.seams ∧ (bufferPacket s a b).fab = s.fab ∧
    (bufferPacket s a b).clk = s.clk ∧ (bufferPacket s a b).tim = s.tim ∧ (bufferPacket s a b).lan = s.lan ∧
    (bufferPacket s a b).tx = s.tx ∧ (bufferPacket s a b).shu = s.shu ∧ (bufferPacket s a b).noc = s.noc ∧
    (bufferPacket s a b).mem = s.mem ∧ (bufferPacket s a b).itg = s.itg ∧ (bufferPacket s a b).upd = s.upd := by
  unfold bufferPacket
  simp

@[simp] theorem anchor_frame (s : State) (a : Nat) (b : RxPkt) :
    (anchor s a b).pending = s.pending ∧ (anchor s a b).now = s.now ∧ (anchor s a b).fresh = s.fresh ∧
    (anchor s a b).gen = s.gen ∧ (anchor s a b).ruling = s.ruling ∧ (anchor s a b).cap = s.cap ∧
    (anchor s a b).mgmt = s.mgmt ∧ (anchor s a b).unit = s.unit ∧ (anchor s a b).pwr = s.pwr ∧ (anchor s a b).cfg = s.cfg ∧
    (anchor s a b).seams = s.seams ∧ (anchor s a b).fab = s.fab ∧ (anchor s a b).clk = s.clk ∧ (anchor s a b).tim = s.tim ∧
    (anchor s a b).lan = s.lan ∧ (anchor s a b).tx = s.tx ∧ (anchor s a b).shu = s.shu ∧ (anchor s a b).noc = s.noc ∧
    (anchor s a b).mem = s.mem ∧ (anchor s a b).itg = s.itg ∧ (anchor s a b).upd = s.upd := by
  unfold anchor
  simp

@[simp] theorem refuseOutside_frame (s : State) (a : Nat) (b : RxPkt) (c : Nat) :
    (refuseOutside s a b c).pending = s.pending ∧ (refuseOutside s a b c).now = s.now ∧
    (refuseOutside s a b c).fresh = s.fresh ∧ (refuseOutside s a b c).gen = s.gen ∧
    (refuseOutside s a b c).ruling = s.ruling ∧ (refuseOutside s a b c).cap = s.cap ∧
    (refuseOutside s a b c).unit = s.unit ∧ (refuseOutside s a b c).pwr = s.pwr ∧ (refuseOutside s a b c).cfg = s.cfg ∧
    (refuseOutside s a b c).seams = s.seams ∧ (refuseOutside s a b c).fab = s.fab ∧ (refuseOutside s a b c).clk = s.clk ∧
    (refuseOutside s a b c).tim = s.tim ∧ (refuseOutside s a b c).lan = s.lan ∧ (refuseOutside s a b c).tx = s.tx ∧
    (refuseOutside s a b c).shu = s.shu ∧ (refuseOutside s a b c).noc = s.noc ∧ (refuseOutside s a b c).mem = s.mem ∧
    (refuseOutside s a b c).itg = s.itg ∧ (refuseOutside s a b c).upd = s.upd := by
  unfold refuseOutside
  simp

@[simp] theorem mergePacket_frame (s : State) (a : Nat) (b : RxPkt) (c : Nat) :
    (mergePacket s a b c).pending = s.pending ∧ (mergePacket s a b c).now = s.now ∧ (mergePacket s a b c).fresh = s.fresh ∧
    (mergePacket s a b c).gen = s.gen ∧ (mergePacket s a b c).ruling = s.ruling ∧ (mergePacket s a b c).cap = s.cap ∧
    (mergePacket s a b c).unit = s.unit ∧ (mergePacket s a b c).pwr = s.pwr ∧ (mergePacket s a b c).cfg = s.cfg ∧
    (mergePacket s a b c).seams = s.seams ∧ (mergePacket s a b c).fab = s.fab ∧ (mergePacket s a b c).clk = s.clk ∧
    (mergePacket s a b c).tim = s.tim ∧ (mergePacket s a b c).lan = s.lan ∧ (mergePacket s a b c).tx = s.tx ∧
    (mergePacket s a b c).shu = s.shu ∧ (mergePacket s a b c).noc = s.noc ∧ (mergePacket s a b c).mem = s.mem ∧
    (mergePacket s a b c).itg = s.itg ∧ (mergePacket s a b c).upd = s.upd := by
  unfold mergePacket
  simp

@[simp] theorem acceptPacket_frame (s : State) (a : Nat) (b : Bool) (c : Rtp) :
    (acceptPacket s a b c).pending = s.pending ∧ (acceptPacket s a b c).now = s.now ∧
    (acceptPacket s a b c).fresh = s.fresh ∧ (acceptPacket s a b c).gen = s.gen ∧ (acceptPacket s a b c).ruling = s.ruling ∧
    (acceptPacket s a b c).cap = s.cap ∧ (acceptPacket s a b c).unit = s.unit ∧ (acceptPacket s a b c).pwr = s.pwr ∧
    (acceptPacket s a b c).cfg = s.cfg ∧ (acceptPacket s a b c).seams = s.seams ∧ (acceptPacket s a b c).fab = s.fab ∧
    (acceptPacket s a b c).clk = s.clk ∧ (acceptPacket s a b c).tim = s.tim ∧ (acceptPacket s a b c).lan = s.lan ∧
    (acceptPacket s a b c).tx = s.tx ∧ (acceptPacket s a b c).shu = s.shu ∧ (acceptPacket s a b c).noc = s.noc ∧
    (acceptPacket s a b c).mem = s.mem ∧ (acceptPacket s a b c).itg = s.itg ∧ (acceptPacket s a b c).upd = s.upd := by
  unfold acceptPacket
  simp

@[simp] theorem classify_frame (s : State) (a : Nat) (b : Nat) (c : List Byte) (d : Nat) (e : List Byte) (f : Nat)
    (g : List Byte) :
    (classify s a b c d e f g).pending = s.pending ∧ (classify s a b c d e f g).now = s.now ∧
    (classify s a b c d e f g).fresh = s.fresh ∧ (classify s a b c d e f g).gen = s.gen ∧
    (classify s a b c d e f g).ruling = s.ruling ∧ (classify s a b c d e f g).cap = s.cap ∧
    (classify s a b c d e f g).unit = s.unit ∧ (classify s a b c d e f g).pwr = s.pwr ∧
    (classify s a b c d e f g).cfg = s.cfg ∧ (classify s a b c d e f g).seams = s.seams ∧
    (classify s a b c d e f g).fab = s.fab ∧ (classify s a b c d e f g).clk = s.clk ∧
    (classify s a b c d e f g).tim = s.tim ∧ (classify s a b c d e f g).lan = s.lan ∧ (classify s a b c d e f g).tx = s.tx ∧
    (classify s a b c d e f g).shu = s.shu ∧ (classify s a b c d e f g).itg = s.itg ∧
    (classify s a b c d e f g).upd = s.upd := by
  unfold classify
  simp only []
  repeat' split
  all_goals simp

@[simp] theorem badFrame_frame (s : State) (a : Nat) :
    (badFrame s a).pending = s.pending ∧ (badFrame s a).now = s.now ∧ (badFrame s a).fresh = s.fresh ∧
    (badFrame s a).gen = s.gen ∧ (badFrame s a).ruling = s.ruling ∧ (badFrame s a).cap = s.cap ∧
    (badFrame s a).mgmt = s.mgmt ∧ (badFrame s a).unit = s.unit ∧ (badFrame s a).pwr = s.pwr ∧ (badFrame s a).cfg = s.cfg ∧
    (badFrame s a).seams = s.seams ∧ (badFrame s a).fab = s.fab ∧ (badFrame s a).clk = s.clk ∧ (badFrame s a).tim = s.tim ∧
    (badFrame s a).lan = s.lan ∧ (badFrame s a).rx = s.rx ∧ (badFrame s a).tx = s.tx ∧ (badFrame s a).shu = s.shu ∧
    (badFrame s a).noc = s.noc ∧ (badFrame s a).mem = s.mem ∧ (badFrame s a).itg = s.itg ∧ (badFrame s a).upd = s.upd := by
  unfold badFrame
  simp

@[simp] theorem takeFrame_frame (s : State) (a : Nat) (b : List Byte) :
    (takeFrame s a b).pending = s.pending ∧ (takeFrame s a b).now = s.now ∧ (takeFrame s a b).fresh = s.fresh ∧
    (takeFrame s a b).gen = s.gen ∧ (takeFrame s a b).ruling = s.ruling ∧ (takeFrame s a b).cap = s.cap ∧
    (takeFrame s a b).unit = s.unit ∧ (takeFrame s a b).pwr = s.pwr ∧ (takeFrame s a b).cfg = s.cfg ∧
    (takeFrame s a b).seams = s.seams ∧ (takeFrame s a b).fab = s.fab ∧ (takeFrame s a b).clk = s.clk ∧
    (takeFrame s a b).lan = s.lan ∧ (takeFrame s a b).shu = s.shu ∧ (takeFrame s a b).itg = s.itg ∧
    (takeFrame s a b).upd = s.upd := by
  unfold takeFrame
  repeat' split
  all_goals simp

@[simp] theorem declareLost_frame (s : State) (a : Nat) (b : Nat) :
    (declareLost s a b).pending = s.pending ∧ (declareLost s a b).now = s.now ∧ (declareLost s a b).fresh = s.fresh ∧
    (declareLost s a b).gen = s.gen ∧ (declareLost s a b).ruling = s.ruling ∧ (declareLost s a b).cap = s.cap ∧
    (declareLost s a b).mgmt = s.mgmt ∧ (declareLost s a b).unit = s.unit ∧ (declareLost s a b).pwr = s.pwr ∧
    (declareLost s a b).cfg = s.cfg ∧ (declareLost s a b).seams = s.seams ∧ (declareLost s a b).fab = s.fab ∧
    (declareLost s a b).clk = s.clk ∧ (declareLost s a b).tim = s.tim ∧ (declareLost s a b).lan = s.lan ∧
    (declareLost s a b).tx = s.tx ∧ (declareLost s a b).shu = s.shu ∧ (declareLost s a b).noc = s.noc ∧
    (declareLost s a b).mem = s.mem ∧ (declareLost s a b).itg = s.itg ∧ (declareLost s a b).upd = s.upd := by
  unfold declareLost
  simp

@[simp] theorem sendFrame_frame (s : State) (a : Nat) (b : RxPkt) :
    (sendFrame s a b).pending = s.pending ∧ (sendFrame s a b).now = s.now ∧ (sendFrame s a b).fresh = s.fresh ∧
    (sendFrame s a b).gen = s.gen ∧ (sendFrame s a b).ruling = s.ruling ∧ (sendFrame s a b).cap = s.cap ∧
    (sendFrame s a b).unit = s.unit ∧ (sendFrame s a b).pwr = s.pwr ∧ (sendFrame s a b).cfg = s.cfg ∧
    (sendFrame s a b).seams = s.seams ∧ (sendFrame s a b).fab = s.fab ∧ (sendFrame s a b).clk = s.clk ∧
    (sendFrame s a b).tim = s.tim ∧ (sendFrame s a b).lan = s.lan ∧ (sendFrame s a b).tx = s.tx ∧
    (sendFrame s a b).shu = s.shu ∧ (sendFrame s a b).noc = s.noc ∧ (sendFrame s a b).mem = s.mem ∧
    (sendFrame s a b).itg = s.itg ∧ (sendFrame s a b).upd = s.upd := by
  unfold sendFrame
  simp

@[simp] theorem toEssence_frame (s : State) (a : Nat) (b : RxPkt) :
    (toEssence s a b).pending = s.pending ∧ (toEssence s a b).now = s.now ∧ (toEssence s a b).fresh = s.fresh ∧
    (toEssence s a b).gen = s.gen ∧ (toEssence s a b).ruling = s.ruling ∧ (toEssence s a b).cap = s.cap ∧
    (toEssence s a b).unit = s.unit ∧ (toEssence s a b).pwr = s.pwr ∧ (toEssence s a b).cfg = s.cfg ∧
    (toEssence s a b).seams = s.seams ∧ (toEssence s a b).fab = s.fab ∧ (toEssence s a b).clk = s.clk ∧
    (toEssence s a b).tim = s.tim ∧ (toEssence s a b).lan = s.lan ∧ (toEssence s a b).tx = s.tx ∧
    (toEssence s a b).shu = s.shu ∧ (toEssence s a b).noc = s.noc ∧ (toEssence s a b).mem = s.mem ∧
    (toEssence s a b).itg = s.itg ∧ (toEssence s a b).upd = s.upd := by
  unfold toEssence
  simp

@[simp] theorem storeLanes_frame (a : Fmt) (b : Nat) (c : Nat) (d : Bool) (e : Nat) (f : Nat) (g : List Nat) (s : State) :
    (storeLanes a b c d e f g s).pending = s.pending ∧ (storeLanes a b c d e f g s).now = s.now ∧
    (storeLanes a b c d e f g s).fresh = s.fresh ∧ (storeLanes a b c d e f g s).gen = s.gen ∧
    (storeLanes a b c d e f g s).ruling = s.ruling ∧ (storeLanes a b c d e f g s).cap = s.cap ∧
    (storeLanes a b c d e f g s).mgmt = s.mgmt ∧ (storeLanes a b c d e f g s).unit = s.unit ∧
    (storeLanes a b c d e f g s).pwr = s.pwr ∧ (storeLanes a b c d e f g s).cfg = s.cfg ∧
    (storeLanes a b c d e f g s).seams = s.seams ∧ (storeLanes a b c d e f g s).fab = s.fab ∧
    (storeLanes a b c d e f g s).clk = s.clk ∧ (storeLanes a b c d e f g s).tim = s.tim ∧
    (storeLanes a b c d e f g s).lan = s.lan ∧ (storeLanes a b c d e f g s).rx = s.rx ∧
    (storeLanes a b c d e f g s).tx = s.tx ∧ (storeLanes a b c d e f g s).shu = s.shu ∧
    (storeLanes a b c d e f g s).itg = s.itg ∧ (storeLanes a b c d e f g s).upd = s.upd := by
  induction e generalizing f g s with
  | zero => simp [storeLanes]
  | succ n ih =>
    unfold storeLanes
    split
    · simp
    · simp [ih]

@[simp] theorem storeVideo_frame (s : State) (a : Nat) (b : RxPkt) :
    (storeVideo s a b).pending = s.pending ∧ (storeVideo s a b).now = s.now ∧ (storeVideo s a b).fresh = s.fresh ∧
    (storeVideo s a b).gen = s.gen ∧ (storeVideo s a b).ruling = s.ruling ∧ (storeVideo s a b).cap = s.cap ∧
    (storeVideo s a b).mgmt = s.mgmt ∧ (storeVideo s a b).unit = s.unit ∧ (storeVideo s a b).pwr = s.pwr ∧
    (storeVideo s a b).cfg = s.cfg ∧ (storeVideo s a b).seams = s.seams ∧ (storeVideo s a b).fab = s.fab ∧
    (storeVideo s a b).clk = s.clk ∧ (storeVideo s a b).tim = s.tim ∧ (storeVideo s a b).lan = s.lan ∧
    (storeVideo s a b).rx = s.rx ∧ (storeVideo s a b).tx = s.tx ∧ (storeVideo s a b).shu = s.shu ∧
    (storeVideo s a b).itg = s.itg ∧ (storeVideo s a b).upd = s.upd := by
  unfold storeVideo
  simp

@[simp] theorem storeRecord_frame (s : State) (a : Nat) (b : RxPkt) :
    (storeRecord s a b).pending = s.pending ∧ (storeRecord s a b).now = s.now ∧ (storeRecord s a b).fresh = s.fresh ∧
    (storeRecord s a b).gen = s.gen ∧ (storeRecord s a b).ruling = s.ruling ∧ (storeRecord s a b).cap = s.cap ∧
    (storeRecord s a b).mgmt = s.mgmt ∧ (storeRecord s a b).unit = s.unit ∧ (storeRecord s a b).pwr = s.pwr ∧
    (storeRecord s a b).cfg = s.cfg ∧ (storeRecord s a b).seams = s.seams ∧ (storeRecord s a b).fab = s.fab ∧
    (storeRecord s a b).clk = s.clk ∧ (storeRecord s a b).tim = s.tim ∧ (storeRecord s a b).lan = s.lan ∧
    (storeRecord s a b).tx = s.tx ∧ (storeRecord s a b).shu = s.shu ∧ (storeRecord s a b).itg = s.itg ∧
    (storeRecord s a b).upd = s.upd := by
  unfold storeRecord
  simp

@[simp] theorem toStore_frame (s : State) (a : Nat) (b : RxPkt) :
    (toStore s a b).pending = s.pending ∧ (toStore s a b).now = s.now ∧ (toStore s a b).fresh = s.fresh ∧
    (toStore s a b).gen = s.gen ∧ (toStore s a b).ruling = s.ruling ∧ (toStore s a b).cap = s.cap ∧
    (toStore s a b).mgmt = s.mgmt ∧ (toStore s a b).unit = s.unit ∧ (toStore s a b).pwr = s.pwr ∧
    (toStore s a b).cfg = s.cfg ∧ (toStore s a b).seams = s.seams ∧ (toStore s a b).fab = s.fab ∧
    (toStore s a b).clk = s.clk ∧ (toStore s a b).tim = s.tim ∧ (toStore s a b).lan = s.lan ∧ (toStore s a b).tx = s.tx ∧
    (toStore s a b).shu = s.shu ∧ (toStore s a b).itg = s.itg ∧ (toStore s a b).upd = s.upd := by
  unfold toStore
  simp

@[simp] theorem toHairpin_frame (s : State) (a : Nat) (b : RxPkt) :
    (toHairpin s a b).pending = s.pending ∧ (toHairpin s a b).now = s.now ∧ (toHairpin s a b).fresh = s.fresh ∧
    (toHairpin s a b).gen = s.gen ∧ (toHairpin s a b).ruling = s.ruling ∧ (toHairpin s a b).cap = s.cap ∧
    (toHairpin s a b).unit = s.unit ∧ (toHairpin s a b).pwr = s.pwr ∧ (toHairpin s a b).cfg = s.cfg ∧
    (toHairpin s a b).seams = s.seams ∧ (toHairpin s a b).fab = s.fab ∧ (toHairpin s a b).clk = s.clk ∧
    (toHairpin s a b).tim = s.tim ∧ (toHairpin s a b).lan = s.lan ∧ (toHairpin s a b).rx = s.rx ∧
    (toHairpin s a b).shu = s.shu ∧ (toHairpin s a b).noc = s.noc ∧ (toHairpin s a b).mem = s.mem ∧
    (toHairpin s a b).itg = s.itg ∧ (toHairpin s a b).upd = s.upd := by
  unfold toHairpin
  simp

@[simp] theorem toTakers_frame (s : State) (a : Nat) (b : RxPkt) :
    (toTakers s a b).pending = s.pending ∧ (toTakers s a b).now = s.now ∧ (toTakers s a b).fresh = s.fresh ∧
    (toTakers s a b).gen = s.gen ∧ (toTakers s a b).ruling = s.ruling ∧ (toTakers s a b).cap = s.cap ∧
    (toTakers s a b).unit = s.unit ∧ (toTakers s a b).pwr = s.pwr ∧ (toTakers s a b).cfg = s.cfg ∧
    (toTakers s a b).seams = s.seams ∧ (toTakers s a b).fab = s.fab ∧ (toTakers s a b).clk = s.clk ∧
    (toTakers s a b).tim = s.tim ∧ (toTakers s a b).lan = s.lan ∧ (toTakers s a b).rx = s.rx ∧
    (toTakers s a b).shu = s.shu ∧ (toTakers s a b).noc = s.noc ∧ (toTakers s a b).mem = s.mem ∧
    (toTakers s a b).itg = s.itg ∧ (toTakers s a b).upd = s.upd := by
  unfold toTakers
  simp

@[simp] theorem deliver_frame (s : State) (a : Nat) (b : RxPkt) :
    (deliver s a b).pending = s.pending ∧ (deliver s a b).now = s.now ∧ (deliver s a b).fresh = s.fresh ∧
    (deliver s a b).gen = s.gen ∧ (deliver s a b).ruling = s.ruling ∧ (deliver s a b).cap = s.cap ∧
    (deliver s a b).unit = s.unit ∧ (deliver s a b).pwr = s.pwr ∧ (deliver s a b).cfg = s.cfg ∧
    (deliver s a b).seams = s.seams ∧ (deliver s a b).fab = s.fab ∧ (deliver s a b).clk = s.clk ∧
    (deliver s a b).tim = s.tim ∧ (deliver s a b).lan = s.lan ∧ (deliver s a b).shu = s.shu ∧ (deliver s a b).itg = s.itg ∧
    (deliver s a b).upd = s.upd := by
  unfold deliver
  simp

@[simp] theorem beginPlaying_frame (s : State) (a : Nat) (b : Nat) :
    (beginPlaying s a b).pending = s.pending ∧ (beginPlaying s a b).now = s.now ∧ (beginPlaying s a b).fresh = s.fresh ∧
    (beginPlaying s a b).gen = s.gen ∧ (beginPlaying s a b).ruling = s.ruling ∧ (beginPlaying s a b).cap = s.cap ∧
    (beginPlaying s a b).unit = s.unit ∧ (beginPlaying s a b).pwr = s.pwr ∧ (beginPlaying s a b).cfg = s.cfg ∧
    (beginPlaying s a b).seams = s.seams ∧ (beginPlaying s a b).fab = s.fab ∧ (beginPlaying s a b).clk = s.clk ∧
    (beginPlaying s a b).tim = s.tim ∧ (beginPlaying s a b).lan = s.lan ∧ (beginPlaying s a b).rx = s.rx ∧
    (beginPlaying s a b).tx = s.tx ∧ (beginPlaying s a b).shu = s.shu ∧ (beginPlaying s a b).noc = s.noc ∧
    (beginPlaying s a b).mem = s.mem ∧ (beginPlaying s a b).itg = s.itg ∧ (beginPlaying s a b).upd = s.upd := by
  unfold beginPlaying
  simp

@[simp] theorem releasePacket_frame (s : State) (a : Nat) :
    (releasePacket s a).pending = s.pending ∧ (releasePacket s a).fresh = s.fresh ∧ (releasePacket s a).gen = s.gen ∧
    (releasePacket s a).ruling = s.ruling ∧ (releasePacket s a).cap = s.cap ∧ (releasePacket s a).unit = s.unit ∧
    (releasePacket s a).pwr = s.pwr ∧ (releasePacket s a).cfg = s.cfg ∧ (releasePacket s a).seams = s.seams ∧
    (releasePacket s a).fab = s.fab ∧ (releasePacket s a).clk = s.clk ∧ (releasePacket s a).lan = s.lan ∧
    (releasePacket s a).shu = s.shu ∧ (releasePacket s a).itg = s.itg ∧ (releasePacket s a).upd = s.upd := by
  unfold releasePacket
  split <;> simp

@[simp] theorem starve_frame (s : State) (a : Nat) :
    (starve s a).pending = s.pending ∧ (starve s a).fresh = s.fresh ∧ (starve s a).gen = s.gen ∧
    (starve s a).ruling = s.ruling ∧ (starve s a).cap = s.cap ∧ (starve s a).unit = s.unit ∧ (starve s a).pwr = s.pwr ∧
    (starve s a).cfg = s.cfg ∧ (starve s a).seams = s.seams ∧ (starve s a).fab = s.fab ∧ (starve s a).clk = s.clk ∧
    (starve s a).lan = s.lan ∧ (starve s a).tx = s.tx ∧ (starve s a).shu = s.shu ∧ (starve s a).noc = s.noc ∧
    (starve s a).mem = s.mem ∧ (starve s a).itg = s.itg ∧ (starve s a).upd = s.upd := by
  unfold starve
  simp

@[simp] theorem legSilent_frame (s : State) (a : Nat) (b : Bool) :
    (legSilent s a b).pending = s.pending ∧ (legSilent s a b).fresh = s.fresh ∧ (legSilent s a b).gen = s.gen ∧
    (legSilent s a b).ruling = s.ruling ∧ (legSilent s a b).cap = s.cap ∧ (legSilent s a b).unit = s.unit ∧
    (legSilent s a b).pwr = s.pwr ∧ (legSilent s a b).cfg = s.cfg ∧ (legSilent s a b).seams = s.seams ∧
    (legSilent s a b).fab = s.fab ∧ (legSilent s a b).clk = s.clk ∧ (legSilent s a b).lan = s.lan ∧
    (legSilent s a b).rx = s.rx ∧ (legSilent s a b).tx = s.tx ∧ (legSilent s a b).shu = s.shu ∧
    (legSilent s a b).noc = s.noc ∧ (legSilent s a b).mem = s.mem ∧ (legSilent s a b).itg = s.itg ∧
    (legSilent s a b).upd = s.upd := by
  unfold legSilent
  simp

@[simp] theorem legComesUp_frame (s : State) (a : Nat) (b : Bool) :
    (legComesUp s a b).pending = s.pending ∧ (legComesUp s a b).fresh = s.fresh ∧ (legComesUp s a b).gen = s.gen ∧
    (legComesUp s a b).ruling = s.ruling ∧ (legComesUp s a b).cap = s.cap ∧ (legComesUp s a b).unit = s.unit ∧
    (legComesUp s a b).pwr = s.pwr ∧ (legComesUp s a b).cfg = s.cfg ∧ (legComesUp s a b).seams = s.seams ∧
    (legComesUp s a b).fab = s.fab ∧ (legComesUp s a b).clk = s.clk ∧ (legComesUp s a b).lan = s.lan ∧
    (legComesUp s a b).rx = s.rx ∧ (legComesUp s a b).tx = s.tx ∧ (legComesUp s a b).shu = s.shu ∧
    (legComesUp s a b).noc = s.noc ∧ (legComesUp s a b).mem = s.mem ∧ (legComesUp s a b).itg = s.itg ∧
    (legComesUp s a b).upd = s.upd := by
  unfold legComesUp
  simp

@[simp] theorem endSecond_frame (s : State) (a : Nat) (b : Bool) :
    (endSecond s a b).pending = s.pending ∧ (endSecond s a b).now = s.now ∧ (endSecond s a b).fresh = s.fresh ∧
    (endSecond s a b).gen = s.gen ∧ (endSecond s a b).ruling = s.ruling ∧ (endSecond s a b).cap = s.cap ∧
    (endSecond s a b).unit = s.unit ∧ (endSecond s a b).pwr = s.pwr ∧ (endSecond s a b).cfg = s.cfg ∧
    (endSecond s a b).seams = s.seams ∧ (endSecond s a b).fab = s.fab ∧ (endSecond s a b).clk = s.clk ∧
    (endSecond s a b).tim = s.tim ∧ (endSecond s a b).lan = s.lan ∧ (endSecond s a b).tx = s.tx ∧
    (endSecond s a b).shu = s.shu ∧ (endSecond s a b).noc = s.noc ∧ (endSecond s a b).mem = s.mem ∧
    (endSecond s a b).itg = s.itg ∧ (endSecond s a b).upd = s.upd := by
  unfold endSecond
  simp

@[simp] theorem marginSecond_frame (s : State) (a : Nat) :
    (marginSecond s a).pending = s.pending ∧ (marginSecond s a).fresh = s.fresh ∧ (marginSecond s a).gen = s.gen ∧
    (marginSecond s a).ruling = s.ruling ∧ (marginSecond s a).cap = s.cap ∧ (marginSecond s a).unit = s.unit ∧
    (marginSecond s a).pwr = s.pwr ∧ (marginSecond s a).cfg = s.cfg ∧ (marginSecond s a).seams = s.seams ∧
    (marginSecond s a).fab = s.fab ∧ (marginSecond s a).clk = s.clk ∧ (marginSecond s a).lan = s.lan ∧
    (marginSecond s a).tx = s.tx ∧ (marginSecond s a).shu = s.shu ∧ (marginSecond s a).noc = s.noc ∧
    (marginSecond s a).mem = s.mem ∧ (marginSecond s a).itg = s.itg ∧ (marginSecond s a).upd = s.upd := by
  unfold marginSecond
  simp

@[simp] theorem readAhead_frame (s : State) (a : Nat) :
    (readAhead s a).pending = s.pending ∧ (readAhead s a).fresh = s.fresh ∧ (readAhead s a).gen = s.gen ∧
    (readAhead s a).ruling = s.ruling ∧ (readAhead s a).cap = s.cap ∧ (readAhead s a).unit = s.unit ∧
    (readAhead s a).pwr = s.pwr ∧ (readAhead s a).cfg = s.cfg ∧ (readAhead s a).seams = s.seams ∧
    (readAhead s a).fab = s.fab ∧ (readAhead s a).clk = s.clk ∧ (readAhead s a).lan = s.lan ∧ (readAhead s a).tx = s.tx ∧
    (readAhead s a).shu = s.shu ∧ (readAhead s a).noc = s.noc ∧ (readAhead s a).mem = s.mem ∧ (readAhead s a).itg = s.itg ∧
    (readAhead s a).upd = s.upd := by
  unfold readAhead
  split <;> simp

@[simp] theorem notifyStore_frame (s : State) (a : Nat) :
    (notifyStore s a).pending = s.pending ∧ (notifyStore s a).now = s.now ∧ (notifyStore s a).fresh = s.fresh ∧
    (notifyStore s a).cat = s.cat ∧ (notifyStore s a).gen = s.gen ∧ (notifyStore s a).ruling = s.ruling ∧
    (notifyStore s a).cap = s.cap ∧ (notifyStore s a).unit = s.unit ∧ (notifyStore s a).pwr = s.pwr ∧
    (notifyStore s a).cfg = s.cfg ∧ (notifyStore s a).seams = s.seams ∧ (notifyStore s a).fab = s.fab ∧
    (notifyStore s a).clk = s.clk ∧ (notifyStore s a).tim = s.tim ∧ (notifyStore s a).lan = s.lan ∧
    (notifyStore s a).tx = s.tx ∧ (notifyStore s a).shu = s.shu ∧ (notifyStore s a).noc = s.noc ∧
    (notifyStore s a).mem = s.mem ∧ (notifyStore s a).itg = s.itg ∧ (notifyStore s a).upd = s.upd := by
  unfold notifyStore
  simp

@[simp] theorem takeEssence_frame (s : State) (a : Nat) :
    (takeEssence s a).pending = s.pending ∧ (takeEssence s a).now = s.now ∧ (takeEssence s a).fresh = s.fresh ∧
    (takeEssence s a).gen = s.gen ∧ (takeEssence s a).ruling = s.ruling ∧ (takeEssence s a).cap = s.cap ∧
    (takeEssence s a).mgmt = s.mgmt ∧ (takeEssence s a).unit = s.unit ∧ (takeEssence s a).pwr = s.pwr ∧
    (takeEssence s a).cfg = s.cfg ∧ (takeEssence s a).seams = s.seams ∧ (takeEssence s a).fab = s.fab ∧
    (takeEssence s a).clk = s.clk ∧ (takeEssence s a).tim = s.tim ∧ (takeEssence s a).lan = s.lan ∧
    (takeEssence s a).tx = s.tx ∧ (takeEssence s a).shu = s.shu ∧ (takeEssence s a).noc = s.noc ∧
    (takeEssence s a).mem = s.mem ∧ (takeEssence s a).itg = s.itg ∧ (takeEssence s a).upd = s.upd := by
  unfold takeEssence
  simp

@[simp] theorem putService_frame (s : State) (a : Nat) (b : Nat) :
    (putService s a b).pending = s.pending ∧ (putService s a b).now = s.now ∧ (putService s a b).fresh = s.fresh ∧
    (putService s a b).gen = s.gen ∧ (putService s a b).ruling = s.ruling ∧ (putService s a b).cap = s.cap ∧
    (putService s a b).unit = s.unit ∧ (putService s a b).pwr = s.pwr ∧ (putService s a b).cfg = s.cfg ∧
    (putService s a b).seams = s.seams ∧ (putService s a b).fab = s.fab ∧ (putService s a b).clk = s.clk ∧
    (putService s a b).tim = s.tim ∧ (putService s a b).lan = s.lan ∧ (putService s a b).rx = s.rx ∧
    (putService s a b).tx = s.tx ∧ (putService s a b).shu = s.shu ∧ (putService s a b).noc = s.noc ∧
    (putService s a b).mem = s.mem ∧ (putService s a b).itg = s.itg ∧ (putService s a b).upd = s.upd := by
  unfold putService
  simp

@[simp] theorem stopFlows_frame (s : State) (a : Nat) (b : Nat) :
    (stopFlows s a b).pending = s.pending ∧ (stopFlows s a b).now = s.now ∧ (stopFlows s a b).fresh = s.fresh ∧
    (stopFlows s a b).cap = s.cap ∧ (stopFlows s a b).unit = s.unit ∧ (stopFlows s a b).pwr = s.pwr ∧
    (stopFlows s a b).cfg = s.cfg ∧ (stopFlows s a b).seams = s.seams ∧ (stopFlows s a b).fab = s.fab ∧
    (stopFlows s a b).clk = s.clk ∧ (stopFlows s a b).tim = s.tim ∧ (stopFlows s a b).lan = s.lan ∧
    (stopFlows s a b).shu = s.shu ∧ (stopFlows s a b).noc = s.noc ∧ (stopFlows s a b).mem = s.mem ∧
    (stopFlows s a b).itg = s.itg ∧ (stopFlows s a b).upd = s.upd := by
  unfold stopFlows
  simp

@[simp] theorem leaveService_frame (s : State) (a : Nat) (b : Nat) :
    (leaveService s a b).pending = s.pending ∧ (leaveService s a b).now = s.now ∧ (leaveService s a b).fresh = s.fresh ∧
    (leaveService s a b).cap = s.cap ∧ (leaveService s a b).unit = s.unit ∧ (leaveService s a b).pwr = s.pwr ∧
    (leaveService s a b).cfg = s.cfg ∧ (leaveService s a b).seams = s.seams ∧ (leaveService s a b).fab = s.fab ∧
    (leaveService s a b).clk = s.clk ∧ (leaveService s a b).tim = s.tim ∧ (leaveService s a b).lan = s.lan ∧
    (leaveService s a b).shu = s.shu ∧ (leaveService s a b).noc = s.noc ∧ (leaveService s a b).mem = s.mem ∧
    (leaveService s a b).itg = s.itg ∧ (leaveService s a b).upd = s.upd := by
  unfold leaveService
  simp

@[simp] theorem reinstateEngine_frame (s : State) (a : Nat) :
    ((reinstateEngine s a).getD s).pending = s.pending ∧ ((reinstateEngine s a).getD s).now = s.now ∧
    ((reinstateEngine s a).getD s).fresh = s.fresh ∧ ((reinstateEngine s a).getD s).gen = s.gen ∧
    ((reinstateEngine s a).getD s).ruling = s.ruling ∧ ((reinstateEngine s a).getD s).cap = s.cap ∧
    ((reinstateEngine s a).getD s).unit = s.unit ∧ ((reinstateEngine s a).getD s).pwr = s.pwr ∧
    ((reinstateEngine s a).getD s).cfg = s.cfg ∧ ((reinstateEngine s a).getD s).seams = s.seams ∧
    ((reinstateEngine s a).getD s).fab = s.fab ∧ ((reinstateEngine s a).getD s).clk = s.clk ∧
    ((reinstateEngine s a).getD s).tim = s.tim ∧ ((reinstateEngine s a).getD s).lan = s.lan ∧
    ((reinstateEngine s a).getD s).rx = s.rx ∧ ((reinstateEngine s a).getD s).tx = s.tx ∧
    ((reinstateEngine s a).getD s).shu = s.shu ∧ ((reinstateEngine s a).getD s).noc = s.noc ∧
    ((reinstateEngine s a).getD s).mem = s.mem ∧ ((reinstateEngine s a).getD s).itg = s.itg ∧
    ((reinstateEngine s a).getD s).upd = s.upd := by
  unfold reinstateEngine
  split <;> simp

@[simp] theorem engineFaults_frame (s : State) (a : Nat) (b : Nat) :
    (engineFaults s a b).pending = s.pending ∧ (engineFaults s a b).now = s.now ∧ (engineFaults s a b).fresh = s.fresh ∧
    (engineFaults s a b).cap = s.cap ∧ (engineFaults s a b).unit = s.unit ∧ (engineFaults s a b).pwr = s.pwr ∧
    (engineFaults s a b).cfg = s.cfg ∧ (engineFaults s a b).seams = s.seams ∧ (engineFaults s a b).fab = s.fab ∧
    (engineFaults s a b).clk = s.clk ∧ (engineFaults s a b).tim = s.tim ∧ (engineFaults s a b).lan = s.lan ∧
    (engineFaults s a b).shu = s.shu ∧ (engineFaults s a b).noc = s.noc ∧ (engineFaults s a b).mem = s.mem ∧
    (engineFaults s a b).itg = s.itg ∧ (engineFaults s a b).upd = s.upd := by
  unfold engineFaults
  simp

@[simp] theorem shadowTrained_frame (s : State) (a : Nat) :
    (shadowTrained s a).pending = s.pending ∧ (shadowTrained s a).fresh = s.fresh ∧ (shadowTrained s a).gen = s.gen ∧
    (shadowTrained s a).ruling = s.ruling ∧ (shadowTrained s a).cap = s.cap ∧ (shadowTrained s a).unit = s.unit ∧
    (shadowTrained s a).pwr = s.pwr ∧ (shadowTrained s a).cfg = s.cfg ∧ (shadowTrained s a).seams = s.seams ∧
    (shadowTrained s a).fab = s.fab ∧ (shadowTrained s a).clk = s.clk ∧ (shadowTrained s a).lan = s.lan ∧
    (shadowTrained s a).rx = s.rx ∧ (shadowTrained s a).tx = s.tx ∧ (shadowTrained s a).shu = s.shu ∧
    (shadowTrained s a).noc = s.noc ∧ (shadowTrained s a).mem = s.mem ∧ (shadowTrained s a).itg = s.itg ∧
    (shadowTrained s a).upd = s.upd := by
  unfold shadowTrained
  simp

@[simp] theorem resetEngines_frame (s : State) :
    (resetEngines s).pending = s.pending ∧ (resetEngines s).now = s.now ∧ (resetEngines s).fresh = s.fresh ∧
    (resetEngines s).cap = s.cap ∧ (resetEngines s).unit = s.unit ∧ (resetEngines s).pwr = s.pwr ∧
    (resetEngines s).cfg = s.cfg ∧ (resetEngines s).seams = s.seams ∧ (resetEngines s).fab = s.fab ∧
    (resetEngines s).clk = s.clk ∧ (resetEngines s).tim = s.tim ∧ (resetEngines s).lan = s.lan ∧
    (resetEngines s).shu = s.shu ∧ (resetEngines s).noc = s.noc ∧ (resetEngines s).mem = s.mem ∧
    (resetEngines s).itg = s.itg ∧ (resetEngines s).upd = s.upd := by
  unfold resetEngines
  simp

end Sys2Proof.Machine
end

