-- ==== Sys2Proof/Laws/FramesMgc.lean ====
section
/-! SUPPORT. What each operation over the state leaves alone:
protection, power, the window, CAP and picks. -/

namespace Sys2Proof.Machine

@[simp] theorem cancelUnitTasks_frame (s : State) :
    (cancelUnitTasks s).pending = s.pending ∧ (cancelUnitTasks s).now = s.now ∧ (cancelUnitTasks s).fresh = s.fresh ∧
    (cancelUnitTasks s).gen = s.gen ∧ (cancelUnitTasks s).cap = s.cap ∧ (cancelUnitTasks s).unit = s.unit ∧
    (cancelUnitTasks s).pwr = s.pwr ∧ (cancelUnitTasks s).cfg = s.cfg ∧ (cancelUnitTasks s).seams = s.seams ∧
    (cancelUnitTasks s).fab = s.fab ∧ (cancelUnitTasks s).clk = s.clk ∧ (cancelUnitTasks s).tim = s.tim ∧
    (cancelUnitTasks s).lan = s.lan ∧ (cancelUnitTasks s).rx = s.rx ∧ (cancelUnitTasks s).tx = s.tx ∧
    (cancelUnitTasks s).shu = s.shu ∧ (cancelUnitTasks s).noc = s.noc ∧ (cancelUnitTasks s).mem = s.mem ∧
    (cancelUnitTasks s).itg = s.itg ∧ (cancelUnitTasks s).upd = s.upd := by
  unfold cancelUnitTasks
  simp

@[simp] theorem cancelSwaps_frame (s : State) :
    (cancelSwaps s).pending = s.pending ∧ (cancelSwaps s).now = s.now ∧ (cancelSwaps s).fresh = s.fresh ∧
    (cancelSwaps s).gen = s.gen ∧ (cancelSwaps s).cap = s.cap ∧ (cancelSwaps s).unit = s.unit ∧
    (cancelSwaps s).pwr = s.pwr ∧ (cancelSwaps s).cfg = s.cfg ∧ (cancelSwaps s).seams = s.seams ∧
    (cancelSwaps s).fab = s.fab ∧ (cancelSwaps s).clk = s.clk ∧ (cancelSwaps s).tim = s.tim ∧ (cancelSwaps s).lan = s.lan ∧
    (cancelSwaps s).rx = s.rx ∧ (cancelSwaps s).tx = s.tx ∧ (cancelSwaps s).shu = s.shu ∧ (cancelSwaps s).mem = s.mem ∧
    (cancelSwaps s).itg = s.itg ∧ (cancelSwaps s).upd = s.upd := by
  unfold cancelSwaps
  simp

@[simp] theorem endPending_frame (s : State) :
    (endPending s).pending = s.pending ∧ (endPending s).now = s.now ∧ (endPending s).fresh = s.fresh ∧
    (endPending s).cap = s.cap ∧ (endPending s).unit = s.unit ∧ (endPending s).pwr = s.pwr ∧ (endPending s).cfg = s.cfg ∧
    (endPending s).seams = s.seams ∧ (endPending s).fab = s.fab ∧ (endPending s).clk = s.clk ∧ (endPending s).tim = s.tim ∧
    (endPending s).lan = s.lan ∧ (endPending s).shu = s.shu ∧ (endPending s).mem = s.mem ∧ (endPending s).itg = s.itg := by
  unfold endPending
  simp

@[simp] theorem latchHalt_frame (s : State) (a : Nat) (b : Nat) (c : Nat) :
    (latchHalt s a b c).pending = s.pending ∧ (latchHalt s a b c).now = s.now ∧ (latchHalt s a b c).fresh = s.fresh ∧
    (latchHalt s a b c).gen = s.gen ∧ (latchHalt s a b c).ruling = s.ruling ∧ (latchHalt s a b c).cap = s.cap ∧
    (latchHalt s a b c).mgmt = s.mgmt ∧ (latchHalt s a b c).unit = s.unit ∧ (latchHalt s a b c).pwr = s.pwr ∧
    (latchHalt s a b c).cfg = s.cfg ∧ (latchHalt s a b c).seams = s.seams ∧ (latchHalt s a b c).fab = s.fab ∧
    (latchHalt s a b c).clk = s.clk ∧ (latchHalt s a b c).tim = s.tim ∧ (latchHalt s a b c).lan = s.lan ∧
    (latchHalt s a b c).rx = s.rx ∧ (latchHalt s a b c).tx = s.tx ∧ (latchHalt s a b c).shu = s.shu ∧
    (latchHalt s a b c).noc = s.noc ∧ (latchHalt s a b c).mem = s.mem ∧ (latchHalt s a b c).upd = s.upd := by
  unfold latchHalt
  simp

@[simp] theorem enterHalt_frame (s : State) (a : Nat) (b : Nat) (c : Nat) :
    (enterHalt s a b c).pending = s.pending ∧ (enterHalt s a b c).now = s.now ∧ (enterHalt s a b c).fresh = s.fresh ∧
    (enterHalt s a b c).unit = s.unit ∧ (enterHalt s a b c).tim = s.tim ∧ (enterHalt s a b c).shu = s.shu ∧
    (enterHalt s a b c).mem = s.mem := by
  unfold enterHalt
  simp

@[simp] theorem meetTrouble_frame (s : State) (a : Nat) (b : Trouble) :
    (meetTrouble s a b).pending = s.pending ∧ (meetTrouble s a b).now = s.now ∧ (meetTrouble s a b).fresh = s.fresh ∧
    (meetTrouble s a b).unit = s.unit ∧ (meetTrouble s a b).tim = s.tim ∧ (meetTrouble s a b).shu = s.shu ∧
    (meetTrouble s a b).mem = s.mem := by
  unfold meetTrouble
  split <;> simp

@[simp] theorem holdReq_frame (s : State) (a : NocPkt) :
    (holdReq s a).pending = s.pending ∧ (holdReq s a).now = s.now ∧ (holdReq s a).fresh = s.fresh ∧
    (holdReq s a).cat = s.cat ∧ (holdReq s a).gen = s.gen ∧ (holdReq s a).ruling = s.ruling ∧ (holdReq s a).cap = s.cap ∧
    (holdReq s a).mgmt = s.mgmt ∧ (holdReq s a).unit = s.unit ∧ (holdReq s a).pwr = s.pwr ∧ (holdReq s a).cfg = s.cfg ∧
    (holdReq s a).seams = s.seams ∧ (holdReq s a).fab = s.fab ∧ (holdReq s a).clk = s.clk ∧ (holdReq s a).tim = s.tim ∧
    (holdReq s a).lan = s.lan ∧ (holdReq s a).rx = s.rx ∧ (holdReq s a).tx = s.tx ∧ (holdReq s a).shu = s.shu ∧
    (holdReq s a).noc = s.noc ∧ (holdReq s a).mem = s.mem ∧ (holdReq s a).upd = s.upd := by
  unfold holdReq
  simp

@[simp] theorem unholdReq_frame (s : State) (a : NocPkt) :
    (unholdReq s a).pending = s.pending ∧ (unholdReq s a).now = s.now ∧ (unholdReq s a).fresh = s.fresh ∧
    (unholdReq s a).cat = s.cat ∧ (unholdReq s a).gen = s.gen ∧ (unholdReq s a).ruling = s.ruling ∧
    (unholdReq s a).cap = s.cap ∧ (unholdReq s a).mgmt = s.mgmt ∧ (unholdReq s a).unit = s.unit ∧
    (unholdReq s a).pwr = s.pwr ∧ (unholdReq s a).cfg = s.cfg ∧ (unholdReq s a).seams = s.seams ∧
    (unholdReq s a).fab = s.fab ∧ (unholdReq s a).clk = s.clk ∧ (unholdReq s a).tim = s.tim ∧ (unholdReq s a).lan = s.lan ∧
    (unholdReq s a).rx = s.rx ∧ (unholdReq s a).tx = s.tx ∧ (unholdReq s a).shu = s.shu ∧ (unholdReq s a).noc = s.noc ∧
    (unholdReq s a).mem = s.mem ∧ (unholdReq s a).upd = s.upd := by
  unfold unholdReq
  simp

@[simp] theorem scrambledAccess_frame (s : State) (a : Nat) (b : NocPkt) :
    (scrambledAccess s a b).1.pending = s.pending ∧ (scrambledAccess s a b).1.now = s.now ∧
    (scrambledAccess s a b).1.fresh = s.fresh ∧ (scrambledAccess s a b).1.cat = s.cat ∧
    (scrambledAccess s a b).1.gen = s.gen ∧ (scrambledAccess s a b).1.ruling = s.ruling ∧
    (scrambledAccess s a b).1.cap = s.cap ∧ (scrambledAccess s a b).1.mgmt = s.mgmt ∧
    (scrambledAccess s a b).1.unit = s.unit ∧ (scrambledAccess s a b).1.pwr = s.pwr ∧
    (scrambledAccess s a b).1.cfg = s.cfg ∧ (scrambledAccess s a b).1.seams = s.seams ∧
    (scrambledAccess s a b).1.fab = s.fab ∧ (scrambledAccess s a b).1.clk = s.clk ∧ (scrambledAccess s a b).1.tim = s.tim ∧
    (scrambledAccess s a b).1.lan = s.lan ∧ (scrambledAccess s a b).1.rx = s.rx ∧ (scrambledAccess s a b).1.tx = s.tx ∧
    (scrambledAccess s a b).1.shu = s.shu ∧ (scrambledAccess s a b).1.noc = s.noc ∧ (scrambledAccess s a b).1.itg = s.itg ∧
    (scrambledAccess s a b).1.upd = s.upd := by
  unfold scrambledAccess
  repeat' split
  all_goals simp

@[simp] theorem slotReady_frame (s : State) (a : Nat) :
    (slotReady s a).pending = s.pending ∧ (slotReady s a).now = s.now ∧ (slotReady s a).fresh = s.fresh ∧
    (slotReady s a).gen = s.gen ∧ (slotReady s a).ruling = s.ruling ∧ (slotReady s a).cap = s.cap ∧
    (slotReady s a).unit = s.unit ∧ (slotReady s a).pwr = s.pwr ∧ (slotReady s a).cfg = s.cfg ∧
    (slotReady s a).seams = s.seams ∧ (slotReady s a).fab = s.fab ∧ (slotReady s a).clk = s.clk ∧
    (slotReady s a).tim = s.tim ∧ (slotReady s a).lan = s.lan ∧ (slotReady s a).rx = s.rx ∧ (slotReady s a).tx = s.tx ∧
    (slotReady s a).shu = s.shu ∧ (slotReady s a).noc = s.noc ∧ (slotReady s a).upd = s.upd := by
  unfold slotReady
  simp

@[simp] theorem autoRekey_frame (s : State) (a : Nat) :
    (autoRekey s a).pending = s.pending ∧ (autoRekey s a).now = s.now ∧ (autoRekey s a).gen = s.gen ∧
    (autoRekey s a).ruling = s.ruling ∧ (autoRekey s a).cap = s.cap ∧ (autoRekey s a).unit = s.unit ∧
    (autoRekey s a).pwr = s.pwr ∧ (autoRekey s a).cfg = s.cfg ∧ (autoRekey s a).seams = s.seams ∧
    (autoRekey s a).fab = s.fab ∧ (autoRekey s a).clk = s.clk ∧ (autoRekey s a).tim = s.tim ∧ (autoRekey s a).lan = s.lan ∧
    (autoRekey s a).rx = s.rx ∧ (autoRekey s a).tx = s.tx ∧ (autoRekey s a).shu = s.shu ∧ (autoRekey s a).noc = s.noc ∧
    (autoRekey s a).mem = s.mem ∧ (autoRekey s a).upd = s.upd := by
  unfold autoRekey
  simp only []
  repeat' split
  all_goals simp

@[simp] theorem stowStaging_frame (s : State) :
    (stowStaging s).pending = s.pending ∧ (stowStaging s).now = s.now ∧ (stowStaging s).fresh = s.fresh ∧
    (stowStaging s).gen = s.gen ∧ (stowStaging s).ruling = s.ruling ∧ (stowStaging s).cap = s.cap ∧
    (stowStaging s).mgmt = s.mgmt ∧ (stowStaging s).unit = s.unit ∧ (stowStaging s).pwr = s.pwr ∧
    (stowStaging s).cfg = s.cfg ∧ (stowStaging s).seams = s.seams ∧ (stowStaging s).fab = s.fab ∧
    (stowStaging s).clk = s.clk ∧ (stowStaging s).tim = s.tim ∧ (stowStaging s).lan = s.lan ∧ (stowStaging s).rx = s.rx ∧
    (stowStaging s).tx = s.tx ∧ (stowStaging s).shu = s.shu ∧ (stowStaging s).noc = s.noc ∧ (stowStaging s).mem = s.mem ∧
    (stowStaging s).itg = s.itg := by
  unfold stowStaging
  simp

@[simp] theorem losePower_frame (s : State) :
    (losePower s).pending = s.pending ∧ (losePower s).fresh = s.fresh ∧ (losePower s).gen = s.gen ∧
    (losePower s).unit = s.unit := by
  unfold losePower
  simp

@[simp] theorem bootSettings_frame (s : State) :
    (bootSettings s).pending = s.pending ∧ (bootSettings s).now = s.now ∧ (bootSettings s).fresh = s.fresh ∧
    (bootSettings s).gen = s.gen ∧ (bootSettings s).ruling = s.ruling ∧ (bootSettings s).cap = s.cap ∧
    (bootSettings s).mgmt = s.mgmt ∧ (bootSettings s).unit = s.unit ∧ (bootSettings s).pwr = s.pwr ∧
    (bootSettings s).cfg = s.cfg ∧ (bootSettings s).seams = s.seams ∧ (bootSettings s).fab = s.fab ∧
    (bootSettings s).lan = s.lan ∧ (bootSettings s).rx = s.rx ∧ (bootSettings s).tx = s.tx ∧ (bootSettings s).shu = s.shu ∧
    (bootSettings s).noc = s.noc ∧ (bootSettings s).mem = s.mem ∧ (bootSettings s).itg = s.itg ∧
    (bootSettings s).upd = s.upd := by
  unfold bootSettings
  simp

@[simp] theorem setRails_frame (s : State) :
    (setRails s).pending = s.pending ∧ (setRails s).now = s.now ∧ (setRails s).fresh = s.fresh ∧ (setRails s).cat = s.cat ∧
    (setRails s).gen = s.gen ∧ (setRails s).ruling = s.ruling ∧ (setRails s).cap = s.cap ∧ (setRails s).mgmt = s.mgmt ∧
    (setRails s).unit = s.unit ∧ (setRails s).cfg = s.cfg ∧ (setRails s).seams = s.seams ∧ (setRails s).fab = s.fab ∧
    (setRails s).clk = s.clk ∧ (setRails s).tim = s.tim ∧ (setRails s).lan = s.lan ∧ (setRails s).rx = s.rx ∧
    (setRails s).tx = s.tx ∧ (setRails s).shu = s.shu ∧ (setRails s).noc = s.noc ∧ (setRails s).mem = s.mem ∧
    (setRails s).itg = s.itg ∧ (setRails s).upd = s.upd := by
  unfold setRails
  simp

@[simp] theorem firstClear_frame (s : State) :
    (firstClear s).pending = s.pending ∧ (firstClear s).now = s.now ∧ (firstClear s).fresh = s.fresh ∧
    (firstClear s).gen = s.gen ∧ (firstClear s).unit = s.unit ∧ (firstClear s).pwr = s.pwr ∧ (firstClear s).tim = s.tim ∧
    (firstClear s).rx = s.rx ∧ (firstClear s).tx = s.tx ∧ (firstClear s).shu = s.shu ∧ (firstClear s).noc = s.noc ∧
    (firstClear s).mem = s.mem ∧ (firstClear s).itg = s.itg ∧ (firstClear s).upd = s.upd := by
  unfold firstClear
  simp

@[simp] theorem darkUnits_frame (s : State) :
    (darkUnits s).pending = s.pending ∧ (darkUnits s).now = s.now ∧ (darkUnits s).fresh = s.fresh ∧
    (darkUnits s).gen = s.gen ∧ (darkUnits s).ruling = s.ruling ∧ (darkUnits s).cap = s.cap ∧ (darkUnits s).mgmt = s.mgmt ∧
    (darkUnits s).unit = s.unit ∧ (darkUnits s).pwr = s.pwr ∧ (darkUnits s).cfg = s.cfg ∧ (darkUnits s).seams = s.seams ∧
    (darkUnits s).fab = s.fab ∧ (darkUnits s).clk = s.clk ∧ (darkUnits s).tim = s.tim ∧ (darkUnits s).lan = s.lan ∧
    (darkUnits s).rx = s.rx ∧ (darkUnits s).tx = s.tx ∧ (darkUnits s).shu = s.shu ∧ (darkUnits s).noc = s.noc ∧
    (darkUnits s).mem = s.mem ∧ (darkUnits s).itg = s.itg ∧ (darkUnits s).upd = s.upd := by
  unfold darkUnits
  simp

@[simp] theorem goodPower_frame (s : State) (a : Bool) (b : Bool) :
    (goodPower s a b).pending = s.pending ∧ (goodPower s a b).fresh = s.fresh ∧ (goodPower s a b).gen = s.gen ∧
    (goodPower s a b).unit = s.unit ∧ (goodPower s a b).rx = s.rx ∧ (goodPower s a b).tx = s.tx ∧
    (goodPower s a b).shu = s.shu ∧ (goodPower s a b).noc = s.noc ∧ (goodPower s a b).mem = s.mem ∧
    (goodPower s a b).itg = s.itg := by
  unfold goodPower
  simp

@[simp] theorem resetNoc_frame (s : State) :
    (resetNoc s).pending = s.pending ∧ (resetNoc s).now = s.now ∧ (resetNoc s).fresh = s.fresh ∧ (resetNoc s).gen = s.gen ∧
    (resetNoc s).ruling = s.ruling ∧ (resetNoc s).cap = s.cap ∧ (resetNoc s).unit = s.unit ∧ (resetNoc s).pwr = s.pwr ∧
    (resetNoc s).cfg = s.cfg ∧ (resetNoc s).seams = s.seams ∧ (resetNoc s).fab = s.fab ∧ (resetNoc s).clk = s.clk ∧
    (resetNoc s).tim = s.tim ∧ (resetNoc s).lan = s.lan ∧ (resetNoc s).rx = s.rx ∧ (resetNoc s).tx = s.tx ∧
    (resetNoc s).shu = s.shu ∧ (resetNoc s).upd = s.upd := by
  unfold resetNoc
  simp

@[simp] theorem deviceReset_frame (s : State) (a : Nat) :
    (deviceReset s a).pending = s.pending ∧ (deviceReset s a).now = s.now ∧ (deviceReset s a).fresh = s.fresh ∧
    (deviceReset s a).unit = s.unit ∧ (deviceReset s a).tim = s.tim := by
  unfold deviceReset
  simp

@[simp] theorem resetPulse_frame (s : State) (a : Nat) :
    (resetPulse s a).pending = s.pending ∧ (resetPulse s a).now = s.now ∧ (resetPulse s a).unit = s.unit ∧
    (resetPulse s a).tim = s.tim := by
  unfold resetPulse
  simp

@[simp] theorem resetRises_frame (s : State) (a : Bool) :
    (resetRises s a).pending = s.pending ∧ (resetRises s a).now = s.now ∧ (resetRises s a).fresh = s.fresh ∧
    (resetRises s a).cat = s.cat ∧ (resetRises s a).gen = s.gen ∧ (resetRises s a).ruling = s.ruling ∧
    (resetRises s a).cap = s.cap ∧ (resetRises s a).mgmt = s.mgmt ∧ (resetRises s a).unit = s.unit ∧
    (resetRises s a).cfg = s.cfg ∧ (resetRises s a).seams = s.seams ∧ (resetRises s a).fab = s.fab ∧
    (resetRises s a).clk = s.clk ∧ (resetRises s a).tim = s.tim ∧ (resetRises s a).rx = s.rx ∧ (resetRises s a).tx = s.tx ∧
    (resetRises s a).shu = s.shu ∧ (resetRises s a).noc = s.noc ∧ (resetRises s a).mem = s.mem ∧
    (resetRises s a).itg = s.itg ∧ (resetRises s a).upd = s.upd := by
  unfold resetRises
  simp

@[simp] theorem railFails_frame (s : State) (a : Nat) (b : Nat) :
    (railFails s a b).pending = s.pending ∧ (railFails s a b).now = s.now ∧ (railFails s a b).fresh = s.fresh ∧
    (railFails s a b).gen = s.gen ∧ (railFails s a b).ruling = s.ruling ∧ (railFails s a b).cap = s.cap ∧
    (railFails s a b).unit = s.unit ∧ (railFails s a b).cfg = s.cfg ∧ (railFails s a b).seams = s.seams ∧
    (railFails s a b).fab = s.fab ∧ (railFails s a b).clk = s.clk ∧ (railFails s a b).tim = s.tim ∧
    (railFails s a b).lan = s.lan ∧ (railFails s a b).rx = s.rx ∧ (railFails s a b).tx = s.tx ∧
    (railFails s a b).shu = s.shu ∧ (railFails s a b).noc = s.noc ∧ (railFails s a b).itg = s.itg ∧
    (railFails s a b).upd = s.upd := by
  unfold railFails
  simp

@[simp] theorem railReturns_frame (s : State) (a : Nat) :
    (railReturns s a).pending = s.pending ∧ (railReturns s a).now = s.now ∧ (railReturns s a).fresh = s.fresh ∧
    (railReturns s a).gen = s.gen ∧ (railReturns s a).unit = s.unit ∧ (railReturns s a).tim = s.tim ∧
    (railReturns s a).rx = s.rx ∧ (railReturns s a).tx = s.tx ∧ (railReturns s a).shu = s.shu ∧
    (railReturns s a).noc = s.noc ∧ (railReturns s a).mem = s.mem ∧ (railReturns s a).itg = s.itg ∧
    (railReturns s a).upd = s.upd := by
  unfold railReturns
  simp

@[simp] theorem regulatorFails_frame (s : State) (a : Nat) (b : Nat) :
    (regulatorFails s a b).pending = s.pending ∧ (regulatorFails s a b).now = s.now ∧
    (regulatorFails s a b).fresh = s.fresh ∧ (regulatorFails s a b).gen = s.gen ∧ (regulatorFails s a b).ruling = s.ruling ∧
    (regulatorFails s a b).cap = s.cap ∧ (regulatorFails s a b).unit = s.unit ∧ (regulatorFails s a b).cfg = s.cfg ∧
    (regulatorFails s a b).seams = s.seams ∧ (regulatorFails s a b).fab = s.fab ∧ (regulatorFails s a b).tim = s.tim ∧
    (regulatorFails s a b).lan = s.lan ∧ (regulatorFails s a b).rx = s.rx ∧ (regulatorFails s a b).tx = s.tx ∧
    (regulatorFails s a b).shu = s.shu ∧ (regulatorFails s a b).noc = s.noc ∧ (regulatorFails s a b).mem = s.mem ∧
    (regulatorFails s a b).itg = s.itg ∧ (regulatorFails s a b).upd = s.upd := by
  unfold regulatorFails
  simp

@[simp] theorem senseTemp_frame (s : State) (a : Nat) (b : Nat) (c : Int) :
    (senseTemp s a b c).pending = s.pending ∧ (senseTemp s a b c).now = s.now ∧ (senseTemp s a b c).fresh = s.fresh ∧
    (senseTemp s a b c).gen = s.gen ∧ (senseTemp s a b c).ruling = s.ruling ∧ (senseTemp s a b c).cap = s.cap ∧
    (senseTemp s a b c).mgmt = s.mgmt ∧ (senseTemp s a b c).unit = s.unit ∧ (senseTemp s a b c).cfg = s.cfg ∧
    (senseTemp s a b c).seams = s.seams ∧ (senseTemp s a b c).fab = s.fab ∧ (senseTemp s a b c).clk = s.clk ∧
    (senseTemp s a b c).tim = s.tim ∧ (senseTemp s a b c).lan = s.lan ∧ (senseTemp s a b c).rx = s.rx ∧
    (senseTemp s a b c).tx = s.tx ∧ (senseTemp s a b c).shu = s.shu ∧ (senseTemp s a b c).noc = s.noc ∧
    (senseTemp s a b c).mem = s.mem ∧ (senseTemp s a b c).itg = s.itg ∧ (senseTemp s a b c).upd = s.upd := by
  unfold senseTemp
  simp

@[simp] theorem coolTo_frame (s : State) (a : Int) :
    (coolTo s a).pending = s.pending ∧ (coolTo s a).now = s.now ∧ (coolTo s a).fresh = s.fresh ∧ (coolTo s a).gen = s.gen ∧
    (coolTo s a).ruling = s.ruling ∧ (coolTo s a).cap = s.cap ∧ (coolTo s a).mgmt = s.mgmt ∧ (coolTo s a).unit = s.unit ∧
    (coolTo s a).cfg = s.cfg ∧ (coolTo s a).seams = s.seams ∧ (coolTo s a).fab = s.fab ∧ (coolTo s a).clk = s.clk ∧
    (coolTo s a).tim = s.tim ∧ (coolTo s a).lan = s.lan ∧ (coolTo s a).rx = s.rx ∧ (coolTo s a).tx = s.tx ∧
    (coolTo s a).shu = s.shu ∧ (coolTo s a).noc = s.noc ∧ (coolTo s a).mem = s.mem ∧ (coolTo s a).itg = s.itg ∧
    (coolTo s a).upd = s.upd := by
  unfold coolTo
  simp

@[simp] theorem warn_frame (s : State) (a : Nat) (b : Nat) (c : Int) :
    (warn s a b c).pending = s.pending ∧ (warn s a b c).now = s.now ∧ (warn s a b c).fresh = s.fresh ∧
    (warn s a b c).gen = s.gen ∧ (warn s a b c).ruling = s.ruling ∧ (warn s a b c).cap = s.cap ∧
    (warn s a b c).unit = s.unit ∧ (warn s a b c).cfg = s.cfg ∧ (warn s a b c).seams = s.seams ∧
    (warn s a b c).fab = s.fab ∧ (warn s a b c).clk = s.clk ∧ (warn s a b c).tim = s.tim ∧ (warn s a b c).lan = s.lan ∧
    (warn s a b c).rx = s.rx ∧ (warn s a b c).tx = s.tx ∧ (warn s a b c).shu = s.shu ∧ (warn s a b c).noc = s.noc ∧
    (warn s a b c).mem = s.mem ∧ (warn s a b c).itg = s.itg ∧ (warn s a b c).upd = s.upd := by
  unfold warn
  simp

@[simp] theorem trip_frame (s : State) (a : Nat) (b : Nat) (c : Int) :
    (trip s a b c).pending = s.pending ∧ (trip s a b c).now = s.now ∧ (trip s a b c).fresh = s.fresh ∧
    (trip s a b c).unit = s.unit ∧ (trip s a b c).tim = s.tim ∧ (trip s a b c).shu = s.shu ∧ (trip s a b c).mem = s.mem := by
  unfold trip
  simp

@[simp] theorem beginBridge_frame (s : State) (a : Nat) :
    (beginBridge s a).pending = s.pending ∧ (beginBridge s a).now = s.now ∧ (beginBridge s a).fresh = s.fresh ∧
    (beginBridge s a).gen = s.gen ∧ (beginBridge s a).cap = s.cap ∧ (beginBridge s a).unit = s.unit ∧
    (beginBridge s a).pwr = s.pwr ∧ (beginBridge s a).cfg = s.cfg ∧ (beginBridge s a).seams = s.seams ∧
    (beginBridge s a).fab = s.fab ∧ (beginBridge s a).clk = s.clk ∧ (beginBridge s a).tim = s.tim ∧
    (beginBridge s a).lan = s.lan ∧ (beginBridge s a).rx = s.rx ∧ (beginBridge s a).tx = s.tx ∧
    (beginBridge s a).shu = s.shu ∧ (beginBridge s a).noc = s.noc ∧ (beginBridge s a).mem = s.mem ∧
    (beginBridge s a).itg = s.itg ∧ (beginBridge s a).upd = s.upd := by
  unfold beginBridge
  simp

@[simp] theorem switchRuling_frame (s : State) :
    (switchRuling s).pending = s.pending ∧ (switchRuling s).now = s.now ∧ (switchRuling s).fresh = s.fresh ∧
    (switchRuling s).gen = s.gen ∧ (switchRuling s).cap = s.cap ∧ (switchRuling s).unit = s.unit ∧
    (switchRuling s).pwr = s.pwr ∧ (switchRuling s).cfg = s.cfg ∧ (switchRuling s).seams = s.seams ∧
    (switchRuling s).fab = s.fab ∧ (switchRuling s).clk = s.clk ∧ (switchRuling s).tim = s.tim ∧
    (switchRuling s).lan = s.lan ∧ (switchRuling s).rx = s.rx ∧ (switchRuling s).tx = s.tx ∧ (switchRuling s).shu = s.shu ∧
    (switchRuling s).noc = s.noc ∧ (switchRuling s).mem = s.mem ∧ (switchRuling s).itg = s.itg ∧
    (switchRuling s).upd = s.upd := by
  unfold switchRuling
  split <;> simp

@[simp] theorem selectRuling_frame (s : State) (a : Nat) :
    (selectRuling s a).pending = s.pending ∧ (selectRuling s a).now = s.now ∧ (selectRuling s a).fresh = s.fresh ∧
    (selectRuling s a).cap = s.cap ∧ (selectRuling s a).mgmt = s.mgmt ∧ (selectRuling s a).unit = s.unit ∧
    (selectRuling s a).pwr = s.pwr ∧ (selectRuling s a).cfg = s.cfg ∧ (selectRuling s a).seams = s.seams ∧
    (selectRuling s a).fab = s.fab ∧ (selectRuling s a).clk = s.clk ∧ (selectRuling s a).tim = s.tim ∧
    (selectRuling s a).lan = s.lan ∧ (selectRuling s a).rx = s.rx ∧ (selectRuling s a).tx = s.tx ∧
    (selectRuling s a).shu = s.shu ∧ (selectRuling s a).noc = s.noc ∧ (selectRuling s a).mem = s.mem ∧
    (selectRuling s a).itg = s.itg ∧ (selectRuling s a).upd = s.upd := by
  unfold selectRuling
  simp

@[simp] theorem armBase_frame (s : State) (a : Nat) :
    (armBase s a).pending = s.pending ∧ (armBase s a).now = s.now ∧ (armBase s a).fresh = s.fresh ∧
    (armBase s a).ruling = s.ruling ∧ (armBase s a).cap = s.cap ∧ (armBase s a).unit = s.unit ∧ (armBase s a).pwr = s.pwr ∧
    (armBase s a).cfg = s.cfg ∧ (armBase s a).seams = s.seams ∧ (armBase s a).fab = s.fab ∧ (armBase s a).clk = s.clk ∧
    (armBase s a).lan = s.lan ∧ (armBase s a).rx = s.rx ∧ (armBase s a).shu = s.shu ∧ (armBase s a).noc = s.noc ∧
    (armBase s a).mem = s.mem ∧ (armBase s a).itg = s.itg ∧ (armBase s a).upd = s.upd := by
  unfold armBase
  simp

@[simp] theorem endWindow_frame (s : State) :
    (endWindow s).pending = s.pending ∧ (endWindow s).now = s.now ∧ (endWindow s).fresh = s.fresh ∧
    (endWindow s).gen = s.gen ∧ (endWindow s).cap = s.cap ∧ (endWindow s).unit = s.unit ∧ (endWindow s).pwr = s.pwr ∧
    (endWindow s).cfg = s.cfg ∧ (endWindow s).seams = s.seams ∧ (endWindow s).clk = s.clk ∧ (endWindow s).tim = s.tim ∧
    (endWindow s).lan = s.lan ∧ (endWindow s).rx = s.rx ∧ (endWindow s).tx = s.tx ∧ (endWindow s).shu = s.shu ∧
    (endWindow s).noc = s.noc ∧ (endWindow s).mem = s.mem ∧ (endWindow s).itg = s.itg ∧ (endWindow s).upd = s.upd := by
  unfold endWindow
  simp

@[simp] theorem disarmBase_frame (s : State) (a : Nat) :
    (disarmBase s a).pending = s.pending ∧ (disarmBase s a).now = s.now ∧ (disarmBase s a).fresh = s.fresh ∧
    (disarmBase s a).cap = s.cap ∧ (disarmBase s a).unit = s.unit ∧ (disarmBase s a).pwr = s.pwr ∧
    (disarmBase s a).cfg = s.cfg ∧ (disarmBase s a).seams = s.seams ∧ (disarmBase s a).clk = s.clk ∧
    (disarmBase s a).lan = s.lan ∧ (disarmBase s a).shu = s.shu ∧ (disarmBase s a).noc = s.noc ∧
    (disarmBase s a).mem = s.mem ∧ (disarmBase s a).itg = s.itg ∧ (disarmBase s a).upd = s.upd := by
  unfold disarmBase
  simp

@[simp] theorem followSettings_frame (s : State) (a : Nat) :
    (followSettings s a).pending = s.pending ∧ (followSettings s a).now = s.now ∧ (followSettings s a).fresh = s.fresh ∧
    (followSettings s a).ruling = s.ruling ∧ (followSettings s a).cap = s.cap ∧ (followSettings s a).unit = s.unit ∧
    (followSettings s a).pwr = s.pwr ∧ (followSettings s a).cfg = s.cfg ∧ (followSettings s a).seams = s.seams ∧
    (followSettings s a).fab = s.fab ∧ (followSettings s a).clk = s.clk ∧ (followSettings s a).lan = s.lan ∧
    (followSettings s a).rx = s.rx ∧ (followSettings s a).tx = s.tx ∧ (followSettings s a).shu = s.shu ∧
    (followSettings s a).noc = s.noc ∧ (followSettings s a).mem = s.mem ∧ (followSettings s a).itg = s.itg ∧
    (followSettings s a).upd = s.upd := by
  unfold followSettings
  simp

@[simp] theorem takeSettings_frame (s : State) (a : Nat) (b : PickSet) (c : Nat) :
    (takeSettings s a b c).pending = s.pending ∧ (takeSettings s a b c).now = s.now ∧
    (takeSettings s a b c).fresh = s.fresh ∧ (takeSettings s a b c).ruling = s.ruling ∧ (takeSettings s a b c).cap = s.cap ∧
    (takeSettings s a b c).unit = s.unit ∧ (takeSettings s a b c).pwr = s.pwr ∧ (takeSettings s a b c).cfg = s.cfg ∧
    (takeSettings s a b c).seams = s.seams ∧ (takeSettings s a b c).fab = s.fab ∧ (takeSettings s a b c).clk = s.clk ∧
    (takeSettings s a b c).lan = s.lan ∧ (takeSettings s a b c).rx = s.rx ∧ (takeSettings s a b c).tx = s.tx ∧
    (takeSettings s a b c).shu = s.shu ∧ (takeSettings s a b c).noc = s.noc ∧ (takeSettings s a b c).mem = s.mem ∧
    (takeSettings s a b c).itg = s.itg ∧ (takeSettings s a b c).upd = s.upd := by
  unfold takeSettings
  simp

@[simp] theorem passTrigger_frame (s : State) (a : Nat) (b : Nat) :
    (passTrigger s a b).pending = s.pending ∧ (passTrigger s a b).now = s.now ∧ (passTrigger s a b).fresh = s.fresh ∧
    (passTrigger s a b).gen = s.gen ∧ (passTrigger s a b).ruling = s.ruling ∧ (passTrigger s a b).cap = s.cap ∧
    (passTrigger s a b).unit = s.unit ∧ (passTrigger s a b).pwr = s.pwr ∧ (passTrigger s a b).cfg = s.cfg ∧
    (passTrigger s a b).seams = s.seams ∧ (passTrigger s a b).fab = s.fab ∧ (passTrigger s a b).clk = s.clk ∧
    (passTrigger s a b).lan = s.lan ∧ (passTrigger s a b).rx = s.rx ∧ (passTrigger s a b).tx = s.tx ∧
    (passTrigger s a b).shu = s.shu ∧ (passTrigger s a b).noc = s.noc ∧ (passTrigger s a b).mem = s.mem ∧
    (passTrigger s a b).itg = s.itg ∧ (passTrigger s a b).upd = s.upd := by
  unfold passTrigger
  split <;> simp

@[simp] theorem cancelPassed_frame (s : State) (a : Nat) (b : Nat) :
    (cancelPassed s a b).pending = s.pending ∧ (cancelPassed s a b).now = s.now ∧ (cancelPassed s a b).fresh = s.fresh ∧
    (cancelPassed s a b).gen = s.gen ∧ (cancelPassed s a b).cap = s.cap ∧ (cancelPassed s a b).unit = s.unit ∧
    (cancelPassed s a b).cfg = s.cfg ∧ (cancelPassed s a b).seams = s.seams ∧ (cancelPassed s a b).fab = s.fab ∧
    (cancelPassed s a b).tim = s.tim ∧ (cancelPassed s a b).lan = s.lan ∧ (cancelPassed s a b).rx = s.rx ∧
    (cancelPassed s a b).tx = s.tx ∧ (cancelPassed s a b).shu = s.shu ∧ (cancelPassed s a b).noc = s.noc ∧
    (cancelPassed s a b).mem = s.mem ∧ (cancelPassed s a b).itg = s.itg := by
  unfold cancelPassed
  simp

@[simp] theorem stepForward_frame (s : State) (a : Nat) :
    (stepForward s a).pending = s.pending ∧ (stepForward s a).now = s.now ∧ (stepForward s a).fresh = s.fresh ∧
    (stepForward s a).cap = s.cap ∧ (stepForward s a).unit = s.unit ∧ (stepForward s a).cfg = s.cfg ∧
    (stepForward s a).seams = s.seams ∧ (stepForward s a).fab = s.fab ∧ (stepForward s a).lan = s.lan ∧
    (stepForward s a).rx = s.rx ∧ (stepForward s a).tx = s.tx ∧ (stepForward s a).shu = s.shu ∧
    (stepForward s a).noc = s.noc ∧ (stepForward s a).mem = s.mem ∧ (stepForward s a).itg = s.itg := by
  unfold stepForward
  simp only []
  repeat' split
  all_goals simp

@[simp] theorem stepBackward_frame (s : State) (a : Nat) (b : Int) :
    (stepBackward s a b).pending = s.pending ∧ (stepBackward s a b).now = s.now ∧ (stepBackward s a b).fresh = s.fresh ∧
    (stepBackward s a b).gen = s.gen ∧ (stepBackward s a b).ruling = s.ruling ∧ (stepBackward s a b).cap = s.cap ∧
    (stepBackward s a b).unit = s.unit ∧ (stepBackward s a b).pwr = s.pwr ∧ (stepBackward s a b).cfg = s.cfg ∧
    (stepBackward s a b).seams = s.seams ∧ (stepBackward s a b).fab = s.fab ∧ (stepBackward s a b).clk = s.clk ∧
    (stepBackward s a b).lan = s.lan ∧ (stepBackward s a b).rx = s.rx ∧ (stepBackward s a b).tx = s.tx ∧
    (stepBackward s a b).shu = s.shu ∧ (stepBackward s a b).noc = s.noc ∧ (stepBackward s a b).mem = s.mem ∧
    (stepBackward s a b).itg = s.itg ∧ (stepBackward s a b).upd = s.upd := by
  unfold stepBackward
  simp

@[simp] theorem applySteps_frame (s : State) (a : Nat) :
    (applySteps s a).pending = s.pending ∧ (applySteps s a).fresh = s.fresh ∧ (applySteps s a).cap = s.cap ∧
    (applySteps s a).unit = s.unit ∧ (applySteps s a).cfg = s.cfg ∧ (applySteps s a).seams = s.seams ∧
    (applySteps s a).fab = s.fab ∧ (applySteps s a).lan = s.lan ∧ (applySteps s a).rx = s.rx ∧ (applySteps s a).tx = s.tx ∧
    (applySteps s a).shu = s.shu ∧ (applySteps s a).noc = s.noc ∧ (applySteps s a).mem = s.mem ∧
    (applySteps s a).itg = s.itg := by
  unfold applySteps
  split <;> simp

@[simp] theorem holdUser_frame (s : State) (a : UserEntry) (b : Val) :
    (holdUser s a b).pending = s.pending ∧ (holdUser s a b).now = s.now ∧ (holdUser s a b).fresh = s.fresh ∧
    (holdUser s a b).cat = s.cat ∧ (holdUser s a b).gen = s.gen ∧ (holdUser s a b).ruling = s.ruling ∧
    (holdUser s a b).mgmt = s.mgmt ∧ (holdUser s a b).unit = s.unit ∧ (holdUser s a b).pwr = s.pwr ∧
    (holdUser s a b).cfg = s.cfg ∧ (holdUser s a b).seams = s.seams ∧ (holdUser s a b).fab = s.fab ∧
    (holdUser s a b).clk = s.clk ∧ (holdUser s a b).tim = s.tim ∧ (holdUser s a b).lan = s.lan ∧
    (holdUser s a b).rx = s.rx ∧ (holdUser s a b).tx = s.tx ∧ (holdUser s a b).shu = s.shu ∧ (holdUser s a b).noc = s.noc ∧
    (holdUser s a b).mem = s.mem ∧ (holdUser s a b).itg = s.itg ∧ (holdUser s a b).upd = s.upd := by
  unfold holdUser
  simp

@[simp] theorem writeUser_frame (s : State) (a : UserEntry) (b : Val) :
    (writeUser s a b).pending = s.pending ∧ (writeUser s a b).now = s.now ∧ (writeUser s a b).fresh = s.fresh ∧
    (writeUser s a b).cat = s.cat ∧ (writeUser s a b).ruling = s.ruling ∧ (writeUser s a b).mgmt = s.mgmt ∧
    (writeUser s a b).unit = s.unit ∧ (writeUser s a b).pwr = s.pwr ∧ (writeUser s a b).cfg = s.cfg ∧
    (writeUser s a b).seams = s.seams ∧ (writeUser s a b).fab = s.fab ∧ (writeUser s a b).clk = s.clk ∧
    (writeUser s a b).tim = s.tim ∧ (writeUser s a b).lan = s.lan ∧ (writeUser s a b).rx = s.rx ∧
    (writeUser s a b).tx = s.tx ∧ (writeUser s a b).shu = s.shu ∧ (writeUser s a b).noc = s.noc ∧
    (writeUser s a b).mem = s.mem ∧ (writeUser s a b).itg = s.itg ∧ (writeUser s a b).upd = s.upd := by
  unfold writeUser
  simp

@[simp] theorem bridgeFails_frame (s : State) (a : BridgeReq) (b : Nat) :
    (bridgeFails s a b).pending = s.pending ∧ (bridgeFails s a b).now = s.now ∧ (bridgeFails s a b).fresh = s.fresh ∧
    (bridgeFails s a b).gen = s.gen ∧ (bridgeFails s a b).ruling = s.ruling ∧ (bridgeFails s a b).cap = s.cap ∧
    (bridgeFails s a b).unit = s.unit ∧ (bridgeFails s a b).pwr = s.pwr ∧ (bridgeFails s a b).cfg = s.cfg ∧
    (bridgeFails s a b).seams = s.seams ∧ (bridgeFails s a b).fab = s.fab ∧ (bridgeFails s a b).clk = s.clk ∧
    (bridgeFails s a b).tim = s.tim ∧ (bridgeFails s a b).lan = s.lan ∧ (bridgeFails s a b).rx = s.rx ∧
    (bridgeFails s a b).tx = s.tx ∧ (bridgeFails s a b).shu = s.shu ∧ (bridgeFails s a b).noc = s.noc ∧
    (bridgeFails s a b).mem = s.mem ∧ (bridgeFails s a b).itg = s.itg ∧ (bridgeFails s a b).upd = s.upd := by
  unfold bridgeFails
  simp

@[simp] theorem userWritten_frame (s : State) (a : BridgeReq) :
    (userWritten s a).pending = s.pending ∧ (userWritten s a).now = s.now ∧ (userWritten s a).fresh = s.fresh ∧
    (userWritten s a).cat = s.cat ∧ (userWritten s a).ruling = s.ruling ∧ (userWritten s a).mgmt = s.mgmt ∧
    (userWritten s a).unit = s.unit ∧ (userWritten s a).pwr = s.pwr ∧ (userWritten s a).cfg = s.cfg ∧
    (userWritten s a).seams = s.seams ∧ (userWritten s a).fab = s.fab ∧ (userWritten s a).clk = s.clk ∧
    (userWritten s a).tim = s.tim ∧ (userWritten s a).lan = s.lan ∧ (userWritten s a).rx = s.rx ∧
    (userWritten s a).tx = s.tx ∧ (userWritten s a).shu = s.shu ∧ (userWritten s a).noc = s.noc ∧
    (userWritten s a).mem = s.mem ∧ (userWritten s a).itg = s.itg ∧ (userWritten s a).upd = s.upd := by
  unfold userWritten
  split <;> simp

@[simp] theorem completeReq_frame (s : State) (a : BridgeReq) (b : Nat) (c : Nat) (d : List Byte) :
    (completeReq s a b c d).pending = s.pending ∧ (completeReq s a b c d).now = s.now ∧
    (completeReq s a b c d).fresh = s.fresh ∧ (completeReq s a b c d).ruling = s.ruling ∧
    (completeReq s a b c d).unit = s.unit ∧ (completeReq s a b c d).pwr = s.pwr ∧ (completeReq s a b c d).cfg = s.cfg ∧
    (completeReq s a b c d).seams = s.seams ∧ (completeReq s a b c d).fab = s.fab ∧ (completeReq s a b c d).clk = s.clk ∧
    (completeReq s a b c d).tim = s.tim ∧ (completeReq s a b c d).lan = s.lan ∧ (completeReq s a b c d).rx = s.rx ∧
    (completeReq s a b c d).tx = s.tx ∧ (completeReq s a b c d).shu = s.shu ∧ (completeReq s a b c d).noc = s.noc ∧
    (completeReq s a b c d).mem = s.mem ∧ (completeReq s a b c d).itg = s.itg ∧ (completeReq s a b c d).upd = s.upd := by
  unfold completeReq
  repeat' split
  all_goals simp

@[simp] theorem State_setCap_frame (s : State) (a : Cap → Cap) :
    (State.setCap s a).pending = s.pending ∧ (State.setCap s a).now = s.now ∧ (State.setCap s a).fresh = s.fresh ∧
    (State.setCap s a).cat = s.cat ∧ (State.setCap s a).gen = s.gen ∧ (State.setCap s a).ruling = s.ruling ∧
    (State.setCap s a).mgmt = s.mgmt ∧ (State.setCap s a).unit = s.unit ∧ (State.setCap s a).pwr = s.pwr ∧
    (State.setCap s a).cfg = s.cfg ∧ (State.setCap s a).seams = s.seams ∧ (State.setCap s a).fab = s.fab ∧
    (State.setCap s a).clk = s.clk ∧ (State.setCap s a).tim = s.tim ∧ (State.setCap s a).lan = s.lan ∧
    (State.setCap s a).rx = s.rx ∧ (State.setCap s a).tx = s.tx ∧ (State.setCap s a).shu = s.shu ∧
    (State.setCap s a).noc = s.noc ∧ (State.setCap s a).mem = s.mem ∧ (State.setCap s a).itg = s.itg ∧
    (State.setCap s a).upd = s.upd := by
  unfold State.setCap
  simp

@[simp] theorem openRefused_frame (s : State) (a : Nat) (b : Nat) :
    (openRefused s a b).1.pending = s.pending ∧ (openRefused s a b).1.now = s.now ∧ (openRefused s a b).1.fresh = s.fresh ∧
    (openRefused s a b).1.gen = s.gen ∧ (openRefused s a b).1.ruling = s.ruling ∧ (openRefused s a b).1.cap = s.cap ∧
    (openRefused s a b).1.unit = s.unit ∧ (openRefused s a b).1.pwr = s.pwr ∧ (openRefused s a b).1.cfg = s.cfg ∧
    (openRefused s a b).1.seams = s.seams ∧ (openRefused s a b).1.fab = s.fab ∧ (openRefused s a b).1.clk = s.clk ∧
    (openRefused s a b).1.tim = s.tim ∧ (openRefused s a b).1.lan = s.lan ∧ (openRefused s a b).1.rx = s.rx ∧
    (openRefused s a b).1.tx = s.tx ∧ (openRefused s a b).1.shu = s.shu ∧ (openRefused s a b).1.noc = s.noc ∧
    (openRefused s a b).1.mem = s.mem ∧ (openRefused s a b).1.itg = s.itg ∧ (openRefused s a b).1.upd = s.upd := by
  unfold openRefused
  simp

@[simp] theorem halfOpen_frame (s : State) (a : TxFrame) (b : Nat) (c : Nat) (d : Nat) (e : List Byte) :
    (halfOpen s a b c d e).1.pending = s.pending ∧ (halfOpen s a b c d e).1.now = s.now ∧
    (halfOpen s a b c d e).1.ruling = s.ruling ∧ (halfOpen s a b c d e).1.cap = s.cap ∧
    (halfOpen s a b c d e).1.unit = s.unit ∧ (halfOpen s a b c d e).1.pwr = s.pwr ∧ (halfOpen s a b c d e).1.cfg = s.cfg ∧
    (halfOpen s a b c d e).1.seams = s.seams ∧ (halfOpen s a b c d e).1.fab = s.fab ∧ (halfOpen s a b c d e).1.clk = s.clk ∧
    (halfOpen s a b c d e).1.tim = s.tim ∧ (halfOpen s a b c d e).1.lan = s.lan ∧ (halfOpen s a b c d e).1.rx = s.rx ∧
    (halfOpen s a b c d e).1.tx = s.tx ∧ (halfOpen s a b c d e).1.shu = s.shu ∧ (halfOpen s a b c d e).1.noc = s.noc ∧
    (halfOpen s a b c d e).1.mem = s.mem ∧ (halfOpen s a b c d e).1.itg = s.itg ∧ (halfOpen s a b c d e).1.upd = s.upd := by
  unfold halfOpen
  simp

@[simp] theorem openSession_frame (s : State) (a : TxFrame) (b : List Byte) :
    (openSession s a b).1.pending = s.pending ∧ (openSession s a b).1.now = s.now ∧
    (openSession s a b).1.ruling = s.ruling ∧ (openSession s a b).1.cap = s.cap ∧ (openSession s a b).1.unit = s.unit ∧
    (openSession s a b).1.pwr = s.pwr ∧ (openSession s a b).1.cfg = s.cfg ∧ (openSession s a b).1.seams = s.seams ∧
    (openSession s a b).1.fab = s.fab ∧ (openSession s a b).1.clk = s.clk ∧ (openSession s a b).1.tim = s.tim ∧
    (openSession s a b).1.lan = s.lan ∧ (openSession s a b).1.rx = s.rx ∧ (openSession s a b).1.tx = s.tx ∧
    (openSession s a b).1.shu = s.shu ∧ (openSession s a b).1.noc = s.noc ∧ (openSession s a b).1.mem = s.mem ∧
    (openSession s a b).1.itg = s.itg ∧ (openSession s a b).1.upd = s.upd := by
  unfold openSession
  simp only []
  repeat' split
  all_goals simp

@[simp] theorem confirmSession_frame (s : State) (a : Nat) (b : List Byte) :
    (confirmSession s a b).1.pending = s.pending ∧ (confirmSession s a b).1.now = s.now ∧
    (confirmSession s a b).1.fresh = s.fresh ∧ (confirmSession s a b).1.gen = s.gen ∧
    (confirmSession s a b).1.ruling = s.ruling ∧ (confirmSession s a b).1.cap = s.cap ∧
    (confirmSession s a b).1.unit = s.unit ∧ (confirmSession s a b).1.pwr = s.pwr ∧ (confirmSession s a b).1.cfg = s.cfg ∧
    (confirmSession s a b).1.seams = s.seams ∧ (confirmSession s a b).1.fab = s.fab ∧ (confirmSession s a b).1.clk = s.clk ∧
    (confirmSession s a b).1.tim = s.tim ∧ (confirmSession s a b).1.lan = s.lan ∧ (confirmSession s a b).1.rx = s.rx ∧
    (confirmSession s a b).1.tx = s.tx ∧ (confirmSession s a b).1.shu = s.shu ∧ (confirmSession s a b).1.noc = s.noc ∧
    (confirmSession s a b).1.mem = s.mem ∧ (confirmSession s a b).1.itg = s.itg ∧ (confirmSession s a b).1.upd = s.upd := by
  unfold confirmSession
  simp only []
  repeat' split
  all_goals simp

@[simp] theorem subscribe_frame (s : State) (a : Nat) (b : List Byte) :
    (subscribe s a b).1.pending = s.pending ∧ (subscribe s a b).1.now = s.now ∧ (subscribe s a b).1.fresh = s.fresh ∧
    (subscribe s a b).1.cat = s.cat ∧ (subscribe s a b).1.gen = s.gen ∧ (subscribe s a b).1.ruling = s.ruling ∧
    (subscribe s a b).1.cap = s.cap ∧ (subscribe s a b).1.unit = s.unit ∧ (subscribe s a b).1.pwr = s.pwr ∧
    (subscribe s a b).1.cfg = s.cfg ∧ (subscribe s a b).1.seams = s.seams ∧ (subscribe s a b).1.fab = s.fab ∧
    (subscribe s a b).1.clk = s.clk ∧ (subscribe s a b).1.tim = s.tim ∧ (subscribe s a b).1.lan = s.lan ∧
    (subscribe s a b).1.rx = s.rx ∧ (subscribe s a b).1.tx = s.tx ∧ (subscribe s a b).1.shu = s.shu ∧
    (subscribe s a b).1.noc = s.noc ∧ (subscribe s a b).1.mem = s.mem ∧ (subscribe s a b).1.itg = s.itg ∧
    (subscribe s a b).1.upd = s.upd := by
  unfold subscribe
  split <;> simp

@[simp] theorem exchange_frame (s : State) (a : FrameWork) (b : ReqRec) :
    (exchange s a b).1.pending = s.pending ∧ (exchange s a b).1.now = s.now ∧ (exchange s a b).1.ruling = s.ruling ∧
    (exchange s a b).1.unit = s.unit ∧ (exchange s a b).1.pwr = s.pwr ∧ (exchange s a b).1.cfg = s.cfg ∧
    (exchange s a b).1.seams = s.seams ∧ (exchange s a b).1.fab = s.fab ∧ (exchange s a b).1.clk = s.clk ∧
    (exchange s a b).1.tim = s.tim ∧ (exchange s a b).1.lan = s.lan ∧ (exchange s a b).1.rx = s.rx ∧
    (exchange s a b).1.tx = s.tx ∧ (exchange s a b).1.shu = s.shu ∧ (exchange s a b).1.noc = s.noc ∧
    (exchange s a b).1.mem = s.mem ∧ (exchange s a b).1.itg = s.itg ∧ (exchange s a b).1.upd = s.upd := by
  unfold exchange
  repeat' split
  all_goals simp

@[simp] theorem unstage_frame (s : State) (a : Who) (b : Nat) :
    (unstage s a b).pending = s.pending ∧ (unstage s a b).now = s.now ∧ (unstage s a b).fresh = s.fresh ∧
    (unstage s a b).cat = s.cat ∧ (unstage s a b).gen = s.gen ∧ (unstage s a b).ruling = s.ruling ∧
    (unstage s a b).mgmt = s.mgmt ∧ (unstage s a b).unit = s.unit ∧ (unstage s a b).pwr = s.pwr ∧
    (unstage s a b).cfg = s.cfg ∧ (unstage s a b).seams = s.seams ∧ (unstage s a b).fab = s.fab ∧
    (unstage s a b).clk = s.clk ∧ (unstage s a b).tim = s.tim ∧ (unstage s a b).lan = s.lan ∧ (unstage s a b).rx = s.rx ∧
    (unstage s a b).tx = s.tx ∧ (unstage s a b).shu = s.shu ∧ (unstage s a b).noc = s.noc ∧ (unstage s a b).mem = s.mem ∧
    (unstage s a b).itg = s.itg ∧ (unstage s a b).upd = s.upd := by
  unfold unstage
  simp

@[simp] theorem noteRefused_frame (s : State) (a : FrameWork) (b : ReqRec) (c : Nat) :
    (noteRefused s a b c).pending = s.pending ∧ (noteRefused s a b c).now = s.now ∧ (noteRefused s a b c).fresh = s.fresh ∧
    (noteRefused s a b c).gen = s.gen ∧ (noteRefused s a b c).ruling = s.ruling ∧ (noteRefused s a b c).cap = s.cap ∧
    (noteRefused s a b c).unit = s.unit ∧ (noteRefused s a b c).pwr = s.pwr ∧ (noteRefused s a b c).cfg = s.cfg ∧
    (noteRefused s a b c).seams = s.seams ∧ (noteRefused s a b c).fab = s.fab ∧ (noteRefused s a b c).clk = s.clk ∧
    (noteRefused s a b c).tim = s.tim ∧ (noteRefused s a b c).lan = s.lan ∧ (noteRefused s a b c).rx = s.rx ∧
    (noteRefused s a b c).tx = s.tx ∧ (noteRefused s a b c).shu = s.shu ∧ (noteRefused s a b c).noc = s.noc ∧
    (noteRefused s a b c).mem = s.mem ∧ (noteRefused s a b c).itg = s.itg ∧ (noteRefused s a b c).upd = s.upd := by
  unfold noteRefused
  simp

@[simp] theorem emit_frame (s : State) (a : TxFrame) :
    (emit s a).pending = s.pending ∧ (emit s a).now = s.now ∧ (emit s a).fresh = s.fresh ∧ (emit s a).gen = s.gen ∧
    (emit s a).ruling = s.ruling ∧ (emit s a).mgmt = s.mgmt ∧ (emit s a).unit = s.unit ∧ (emit s a).pwr = s.pwr ∧
    (emit s a).cfg = s.cfg ∧ (emit s a).seams = s.seams ∧ (emit s a).fab = s.fab ∧ (emit s a).clk = s.clk ∧
    (emit s a).tim = s.tim ∧ (emit s a).lan = s.lan ∧ (emit s a).rx = s.rx ∧ (emit s a).tx = s.tx ∧ (emit s a).shu = s.shu ∧
    (emit s a).noc = s.noc ∧ (emit s a).mem = s.mem ∧ (emit s a).itg = s.itg := by
  unfold emit
  simp

@[simp] theorem noResponse_frame (s : State) (a : TxFrame) :
    (noResponse s a).pending = s.pending ∧ (noResponse s a).now = s.now ∧ (noResponse s a).fresh = s.fresh ∧
    (noResponse s a).cat = s.cat ∧ (noResponse s a).gen = s.gen ∧ (noResponse s a).ruling = s.ruling ∧
    (noResponse s a).cap = s.cap ∧ (noResponse s a).mgmt = s.mgmt ∧ (noResponse s a).unit = s.unit ∧
    (noResponse s a).pwr = s.pwr ∧ (noResponse s a).cfg = s.cfg ∧ (noResponse s a).seams = s.seams ∧
    (noResponse s a).fab = s.fab ∧ (noResponse s a).clk = s.clk ∧ (noResponse s a).tim = s.tim ∧
    (noResponse s a).lan = s.lan ∧ (noResponse s a).rx = s.rx ∧ (noResponse s a).tx = s.tx ∧ (noResponse s a).shu = s.shu ∧
    (noResponse s a).noc = s.noc ∧ (noResponse s a).mem = s.mem ∧ (noResponse s a).itg = s.itg := by
  unfold noResponse
  simp

@[simp] theorem respond_frame (s : State) (a : TxFrame) (b : List Byte) :
    (respond s a b).pending = s.pending ∧ (respond s a b).now = s.now ∧ (respond s a b).fresh = s.fresh ∧
    (respond s a b).gen = s.gen ∧ (respond s a b).ruling = s.ruling ∧ (respond s a b).mgmt = s.mgmt ∧
    (respond s a b).unit = s.unit ∧ (respond s a b).pwr = s.pwr ∧ (respond s a b).cfg = s.cfg ∧
    (respond s a b).seams = s.seams ∧ (respond s a b).fab = s.fab ∧ (respond s a b).clk = s.clk ∧
    (respond s a b).tim = s.tim ∧ (respond s a b).lan = s.lan ∧ (respond s a b).rx = s.rx ∧ (respond s a b).tx = s.tx ∧
    (respond s a b).shu = s.shu ∧ (respond s a b).noc = s.noc ∧ (respond s a b).mem = s.mem ∧ (respond s a b).itg = s.itg := by
  unfold respond
  simp

@[simp] theorem refuseFrame_frame (s : State) (a : TxFrame) (b : Nat) (c : Nat) :
    (refuseFrame s a b c).pending = s.pending ∧ (refuseFrame s a b c).now = s.now ∧ (refuseFrame s a b c).fresh = s.fresh ∧
    (refuseFrame s a b c).gen = s.gen ∧ (refuseFrame s a b c).ruling = s.ruling ∧ (refuseFrame s a b c).mgmt = s.mgmt ∧
    (refuseFrame s a b c).unit = s.unit ∧ (refuseFrame s a b c).pwr = s.pwr ∧ (refuseFrame s a b c).cfg = s.cfg ∧
    (refuseFrame s a b c).seams = s.seams ∧ (refuseFrame s a b c).fab = s.fab ∧ (refuseFrame s a b c).clk = s.clk ∧
    (refuseFrame s a b c).tim = s.tim ∧ (refuseFrame s a b c).lan = s.lan ∧ (refuseFrame s a b c).rx = s.rx ∧
    (refuseFrame s a b c).tx = s.tx ∧ (refuseFrame s a b c).shu = s.shu ∧ (refuseFrame s a b c).noc = s.noc ∧
    (refuseFrame s a b c).mem = s.mem ∧ (refuseFrame s a b c).itg = s.itg := by
  unfold refuseFrame
  simp

@[simp] theorem respCounter_frame (s : State) (a : FrameWork) :
    (respCounter s a).1.pending = s.pending ∧ (respCounter s a).1.now = s.now ∧ (respCounter s a).1.fresh = s.fresh ∧
    (respCounter s a).1.gen = s.gen ∧ (respCounter s a).1.ruling = s.ruling ∧ (respCounter s a).1.cap = s.cap ∧
    (respCounter s a).1.mgmt = s.mgmt ∧ (respCounter s a).1.unit = s.unit ∧ (respCounter s a).1.pwr = s.pwr ∧
    (respCounter s a).1.cfg = s.cfg ∧ (respCounter s a).1.seams = s.seams ∧ (respCounter s a).1.fab = s.fab ∧
    (respCounter s a).1.clk = s.clk ∧ (respCounter s a).1.tim = s.tim ∧ (respCounter s a).1.lan = s.lan ∧
    (respCounter s a).1.rx = s.rx ∧ (respCounter s a).1.tx = s.tx ∧ (respCounter s a).1.shu = s.shu ∧
    (respCounter s a).1.noc = s.noc ∧ (respCounter s a).1.mem = s.mem ∧ (respCounter s a).1.itg = s.itg ∧
    (respCounter s a).1.upd = s.upd := by
  unfold respCounter
  repeat' split
  all_goals simp

@[simp] theorem cacheResp_frame (s : State) (a : FrameWork) (b : List Byte) :
    (cacheResp s a b).pending = s.pending ∧ (cacheResp s a b).now = s.now ∧ (cacheResp s a b).fresh = s.fresh ∧
    (cacheResp s a b).cat = s.cat ∧ (cacheResp s a b).gen = s.gen ∧ (cacheResp s a b).ruling = s.ruling ∧
    (cacheResp s a b).unit = s.unit ∧ (cacheResp s a b).pwr = s.pwr ∧ (cacheResp s a b).cfg = s.cfg ∧
    (cacheResp s a b).seams = s.seams ∧ (cacheResp s a b).fab = s.fab ∧ (cacheResp s a b).clk = s.clk ∧
    (cacheResp s a b).tim = s.tim ∧ (cacheResp s a b).lan = s.lan ∧ (cacheResp s a b).rx = s.rx ∧
    (cacheResp s a b).tx = s.tx ∧ (cacheResp s a b).shu = s.shu ∧ (cacheResp s a b).noc = s.noc ∧
    (cacheResp s a b).mem = s.mem ∧ (cacheResp s a b).itg = s.itg ∧ (cacheResp s a b).upd = s.upd := by
  unfold cacheResp
  repeat' split
  all_goals simp

@[simp] theorem finishFrame_frame (s : State) (a : FrameWork) :
    (finishFrame s a).pending = s.pending ∧ (finishFrame s a).now = s.now ∧ (finishFrame s a).fresh = s.fresh ∧
    (finishFrame s a).gen = s.gen ∧ (finishFrame s a).unit = s.unit ∧ (finishFrame s a).pwr = s.pwr ∧
    (finishFrame s a).cfg = s.cfg ∧ (finishFrame s a).seams = s.seams ∧ (finishFrame s a).fab = s.fab ∧
    (finishFrame s a).clk = s.clk ∧ (finishFrame s a).tim = s.tim ∧ (finishFrame s a).rx = s.rx ∧
    (finishFrame s a).tx = s.tx ∧ (finishFrame s a).shu = s.shu ∧ (finishFrame s a).mem = s.mem ∧
    (finishFrame s a).itg = s.itg := by
  unfold finishFrame
  simp only []
  repeat' split
  all_goals simp

@[simp] theorem putAnswer_frame (s : State) (a : FrameWork) (b : ReqRec) (c : Ans) :
    (putAnswer s a b c).pending = s.pending ∧ (putAnswer s a b c).now = s.now ∧ (putAnswer s a b c).fresh = s.fresh ∧
    (putAnswer s a b c).cat = s.cat ∧ (putAnswer s a b c).gen = s.gen ∧ (putAnswer s a b c).ruling = s.ruling ∧
    (putAnswer s a b c).mgmt = s.mgmt ∧ (putAnswer s a b c).unit = s.unit ∧ (putAnswer s a b c).pwr = s.pwr ∧
    (putAnswer s a b c).cfg = s.cfg ∧ (putAnswer s a b c).seams = s.seams ∧ (putAnswer s a b c).fab = s.fab ∧
    (putAnswer s a b c).clk = s.clk ∧ (putAnswer s a b c).tim = s.tim ∧ (putAnswer s a b c).lan = s.lan ∧
    (putAnswer s a b c).rx = s.rx ∧ (putAnswer s a b c).tx = s.tx ∧ (putAnswer s a b c).shu = s.shu ∧
    (putAnswer s a b c).noc = s.noc ∧ (putAnswer s a b c).mem = s.mem ∧ (putAnswer s a b c).itg = s.itg ∧
    (putAnswer s a b c).upd = s.upd := by
  unfold putAnswer
  simp

@[simp] theorem refill_frame (s : State) :
    (refill s).pending = s.pending ∧ (refill s).now = s.now ∧ (refill s).fresh = s.fresh ∧ (refill s).cat = s.cat ∧
    (refill s).gen = s.gen ∧ (refill s).ruling = s.ruling ∧ (refill s).unit = s.unit ∧ (refill s).pwr = s.pwr ∧
    (refill s).cfg = s.cfg ∧ (refill s).seams = s.seams ∧ (refill s).fab = s.fab ∧ (refill s).clk = s.clk ∧
    (refill s).tim = s.tim ∧ (refill s).lan = s.lan ∧ (refill s).rx = s.rx ∧ (refill s).tx = s.tx ∧ (refill s).shu = s.shu ∧
    (refill s).noc = s.noc ∧ (refill s).mem = s.mem ∧ (refill s).itg = s.itg ∧ (refill s).upd = s.upd := by
  unfold refill
  simp

@[simp] theorem takeTokens_frame (s : State) (a : List Byte) :
    (takeTokens s a).pending = s.pending ∧ (takeTokens s a).now = s.now ∧ (takeTokens s a).fresh = s.fresh ∧
    (takeTokens s a).cat = s.cat ∧ (takeTokens s a).gen = s.gen ∧ (takeTokens s a).ruling = s.ruling ∧
    (takeTokens s a).unit = s.unit ∧ (takeTokens s a).pwr = s.pwr ∧ (takeTokens s a).cfg = s.cfg ∧
    (takeTokens s a).seams = s.seams ∧ (takeTokens s a).fab = s.fab ∧ (takeTokens s a).clk = s.clk ∧
    (takeTokens s a).tim = s.tim ∧ (takeTokens s a).lan = s.lan ∧ (takeTokens s a).rx = s.rx ∧ (takeTokens s a).tx = s.tx ∧
    (takeTokens s a).shu = s.shu ∧ (takeTokens s a).noc = s.noc ∧ (takeTokens s a).mem = s.mem ∧
    (takeTokens s a).itg = s.itg ∧ (takeTokens s a).upd = s.upd := by
  unfold takeTokens
  simp only []
  repeat' split
  all_goals simp

@[simp] theorem admitOpen_frame (s : State) (a : List Byte) :
    (admitOpen s a).1.pending = s.pending ∧ (admitOpen s a).1.now = s.now ∧ (admitOpen s a).1.fresh = s.fresh ∧
    (admitOpen s a).1.cat = s.cat ∧ (admitOpen s a).1.gen = s.gen ∧ (admitOpen s a).1.ruling = s.ruling ∧
    (admitOpen s a).1.mgmt = s.mgmt ∧ (admitOpen s a).1.unit = s.unit ∧ (admitOpen s a).1.pwr = s.pwr ∧
    (admitOpen s a).1.cfg = s.cfg ∧ (admitOpen s a).1.seams = s.seams ∧ (admitOpen s a).1.fab = s.fab ∧
    (admitOpen s a).1.clk = s.clk ∧ (admitOpen s a).1.tim = s.tim ∧ (admitOpen s a).1.lan = s.lan ∧
    (admitOpen s a).1.rx = s.rx ∧ (admitOpen s a).1.tx = s.tx ∧ (admitOpen s a).1.shu = s.shu ∧
    (admitOpen s a).1.noc = s.noc ∧ (admitOpen s a).1.mem = s.mem ∧ (admitOpen s a).1.itg = s.itg ∧
    (admitOpen s a).1.upd = s.upd := by
  unfold admitOpen
  repeat' split
  all_goals simp

@[simp] theorem check3_frame (s : State) (a : TxFrame) :
    (check3 s a).1.pending = s.pending ∧ (check3 s a).1.now = s.now ∧ (check3 s a).1.fresh = s.fresh ∧
    (check3 s a).1.gen = s.gen ∧ (check3 s a).1.ruling = s.ruling ∧ (check3 s a).1.unit = s.unit ∧
    (check3 s a).1.pwr = s.pwr ∧ (check3 s a).1.cfg = s.cfg ∧ (check3 s a).1.seams = s.seams ∧ (check3 s a).1.fab = s.fab ∧
    (check3 s a).1.clk = s.clk ∧ (check3 s a).1.tim = s.tim ∧ (check3 s a).1.lan = s.lan ∧ (check3 s a).1.rx = s.rx ∧
    (check3 s a).1.tx = s.tx ∧ (check3 s a).1.shu = s.shu ∧ (check3 s a).1.noc = s.noc ∧ (check3 s a).1.mem = s.mem ∧
    (check3 s a).1.itg = s.itg ∧ (check3 s a).1.upd = s.upd := by
  unfold check3
  simp only []
  repeat' split
  all_goals simp

@[simp] theorem check5_frame (s : State) (a : TxFrame) (b : List Byte) (c : Nat) (d : Nat) (e : Nat) :
    (check5 s a b c d e).1.pending = s.pending ∧ (check5 s a b c d e).1.now = s.now ∧
    (check5 s a b c d e).1.fresh = s.fresh ∧ (check5 s a b c d e).1.gen = s.gen ∧ (check5 s a b c d e).1.ruling = s.ruling ∧
    (check5 s a b c d e).1.cap = s.cap ∧ (check5 s a b c d e).1.unit = s.unit ∧ (check5 s a b c d e).1.pwr = s.pwr ∧
    (check5 s a b c d e).1.cfg = s.cfg ∧ (check5 s a b c d e).1.seams = s.seams ∧ (check5 s a b c d e).1.fab = s.fab ∧
    (check5 s a b c d e).1.clk = s.clk ∧ (check5 s a b c d e).1.tim = s.tim ∧ (check5 s a b c d e).1.lan = s.lan ∧
    (check5 s a b c d e).1.rx = s.rx ∧ (check5 s a b c d e).1.tx = s.tx ∧ (check5 s a b c d e).1.shu = s.shu ∧
    (check5 s a b c d e).1.noc = s.noc ∧ (check5 s a b c d e).1.mem = s.mem ∧ (check5 s a b c d e).1.itg = s.itg ∧
    (check5 s a b c d e).1.upd = s.upd := by
  unfold check5
  simp only []
  repeat' split
  all_goals simp

@[simp] theorem checkSession_frame (s : State) (a : TxFrame) (b : Nat) :
    (checkSession s a b).1.pending = s.pending ∧ (checkSession s a b).1.now = s.now ∧
    (checkSession s a b).1.fresh = s.fresh ∧ (checkSession s a b).1.gen = s.gen ∧ (checkSession s a b).1.ruling = s.ruling ∧
    (checkSession s a b).1.cap = s.cap ∧ (checkSession s a b).1.unit = s.unit ∧ (checkSession s a b).1.pwr = s.pwr ∧
    (checkSession s a b).1.cfg = s.cfg ∧ (checkSession s a b).1.seams = s.seams ∧ (checkSession s a b).1.fab = s.fab ∧
    (checkSession s a b).1.clk = s.clk ∧ (checkSession s a b).1.tim = s.tim ∧ (checkSession s a b).1.lan = s.lan ∧
    (checkSession s a b).1.rx = s.rx ∧ (checkSession s a b).1.tx = s.tx ∧ (checkSession s a b).1.shu = s.shu ∧
    (checkSession s a b).1.noc = s.noc ∧ (checkSession s a b).1.mem = s.mem ∧ (checkSession s a b).1.itg = s.itg ∧
    (checkSession s a b).1.upd = s.upd := by
  unfold checkSession
  simp only []
  repeat' split
  all_goals simp

@[simp] theorem check45_frame (s : State) (a : TxFrame) :
    (check45 s a).1.pending = s.pending ∧ (check45 s a).1.now = s.now ∧ (check45 s a).1.fresh = s.fresh ∧
    (check45 s a).1.gen = s.gen ∧ (check45 s a).1.ruling = s.ruling ∧ (check45 s a).1.cap = s.cap ∧
    (check45 s a).1.unit = s.unit ∧ (check45 s a).1.pwr = s.pwr ∧ (check45 s a).1.cfg = s.cfg ∧
    (check45 s a).1.seams = s.seams ∧ (check45 s a).1.fab = s.fab ∧ (check45 s a).1.clk = s.clk ∧
    (check45 s a).1.tim = s.tim ∧ (check45 s a).1.lan = s.lan ∧ (check45 s a).1.rx = s.rx ∧ (check45 s a).1.tx = s.tx ∧
    (check45 s a).1.shu = s.shu ∧ (check45 s a).1.noc = s.noc ∧ (check45 s a).1.mem = s.mem ∧ (check45 s a).1.itg = s.itg ∧
    (check45 s a).1.upd = s.upd := by
  unfold check45
  simp only []
  repeat' split
  all_goals simp

@[simp] theorem lapse_frame (s : State) :
    (lapse s).pending = s.pending ∧ (lapse s).now = s.now ∧ (lapse s).fresh = s.fresh ∧ (lapse s).gen = s.gen ∧
    (lapse s).unit = s.unit ∧ (lapse s).pwr = s.pwr ∧ (lapse s).cfg = s.cfg ∧ (lapse s).seams = s.seams ∧
    (lapse s).fab = s.fab ∧ (lapse s).clk = s.clk ∧ (lapse s).tim = s.tim ∧ (lapse s).rx = s.rx ∧ (lapse s).tx = s.tx ∧
    (lapse s).shu = s.shu ∧ (lapse s).mem = s.mem ∧ (lapse s).itg = s.itg := by
  unfold lapse
  simp

@[simp] theorem beginWork_frame (s : State) (a : TxFrame) (b : Who) :
    (beginWork s a b).pending = s.pending ∧ (beginWork s a b).now = s.now ∧ (beginWork s a b).unit = s.unit := by
  unfold beginWork
  simp only []
  repeat' split
  all_goals simp

@[simp] theorem startFrame_frame (s : State) (a : TxFrame) :
    (startFrame s a).pending = s.pending ∧ (startFrame s a).now = s.now ∧ (startFrame s a).unit = s.unit := by
  unfold startFrame
  simp only []
  repeat' split
  all_goals simp

@[simp] theorem clientAnswer_frame (s : State) (a : Nat) (b : Nat) (c : List Byte) :
    (clientAnswer s a b c).pending = s.pending ∧ (clientAnswer s a b c).now = s.now ∧
    (clientAnswer s a b c).fresh = s.fresh ∧ (clientAnswer s a b c).cat = s.cat ∧ (clientAnswer s a b c).gen = s.gen ∧
    (clientAnswer s a b c).ruling = s.ruling ∧ (clientAnswer s a b c).mgmt = s.mgmt ∧ (clientAnswer s a b c).unit = s.unit ∧
    (clientAnswer s a b c).pwr = s.pwr ∧ (clientAnswer s a b c).cfg = s.cfg ∧ (clientAnswer s a b c).seams = s.seams ∧
    (clientAnswer s a b c).fab = s.fab ∧ (clientAnswer s a b c).clk = s.clk ∧ (clientAnswer s a b c).tim = s.tim ∧
    (clientAnswer s a b c).lan = s.lan ∧ (clientAnswer s a b c).rx = s.rx ∧ (clientAnswer s a b c).tx = s.tx ∧
    (clientAnswer s a b c).shu = s.shu ∧ (clientAnswer s a b c).noc = s.noc ∧ (clientAnswer s a b c).mem = s.mem ∧
    (clientAnswer s a b c).itg = s.itg ∧ (clientAnswer s a b c).upd = s.upd := by
  unfold clientAnswer
  simp

@[simp] theorem holdCmd_frame (s : State) (a : TimedCmd) :
    (holdCmd s a).pending = s.pending ∧ (holdCmd s a).now = s.now ∧ (holdCmd s a).fresh = s.fresh ∧
    (holdCmd s a).cat = s.cat ∧ (holdCmd s a).gen = s.gen ∧ (holdCmd s a).ruling = s.ruling ∧ (holdCmd s a).cap = s.cap ∧
    (holdCmd s a).mgmt = s.mgmt ∧ (holdCmd s a).unit = s.unit ∧ (holdCmd s a).pwr = s.pwr ∧ (holdCmd s a).cfg = s.cfg ∧
    (holdCmd s a).seams = s.seams ∧ (holdCmd s a).fab = s.fab ∧ (holdCmd s a).tim = s.tim ∧ (holdCmd s a).rx = s.rx ∧
    (holdCmd s a).tx = s.tx ∧ (holdCmd s a).shu = s.shu ∧ (holdCmd s a).mem = s.mem ∧ (holdCmd s a).itg = s.itg ∧
    (holdCmd s a).upd = s.upd := by
  unfold holdCmd
  simp

@[simp] theorem takeOut_frame (s : State) (a : TimedCmd → Bool) :
    (takeOut s a).pending = s.pending ∧ (takeOut s a).now = s.now ∧ (takeOut s a).fresh = s.fresh ∧
    (takeOut s a).cat = s.cat ∧ (takeOut s a).gen = s.gen ∧ (takeOut s a).cap = s.cap ∧ (takeOut s a).mgmt = s.mgmt ∧
    (takeOut s a).unit = s.unit ∧ (takeOut s a).pwr = s.pwr ∧ (takeOut s a).cfg = s.cfg ∧ (takeOut s a).seams = s.seams ∧
    (takeOut s a).fab = s.fab ∧ (takeOut s a).clk = s.clk ∧ (takeOut s a).tim = s.tim ∧ (takeOut s a).lan = s.lan ∧
    (takeOut s a).rx = s.rx ∧ (takeOut s a).tx = s.tx ∧ (takeOut s a).shu = s.shu ∧ (takeOut s a).noc = s.noc ∧
    (takeOut s a).mem = s.mem ∧ (takeOut s a).itg = s.itg ∧ (takeOut s a).upd = s.upd := by
  unfold takeOut
  simp

@[simp] theorem deferTask_frame (s : State) (a : Untimed) :
    (deferTask s a).1.pending = s.pending ∧ (deferTask s a).1.now = s.now ∧ (deferTask s a).1.fresh = s.fresh ∧
    (deferTask s a).1.gen = s.gen ∧ (deferTask s a).1.ruling = s.ruling ∧ (deferTask s a).1.cap = s.cap ∧
    (deferTask s a).1.unit = s.unit ∧ (deferTask s a).1.pwr = s.pwr ∧ (deferTask s a).1.cfg = s.cfg ∧
    (deferTask s a).1.seams = s.seams ∧ (deferTask s a).1.fab = s.fab ∧ (deferTask s a).1.clk = s.clk ∧
    (deferTask s a).1.tim = s.tim ∧ (deferTask s a).1.lan = s.lan ∧ (deferTask s a).1.rx = s.rx ∧
    (deferTask s a).1.tx = s.tx ∧ (deferTask s a).1.shu = s.shu ∧ (deferTask s a).1.noc = s.noc ∧
    (deferTask s a).1.mem = s.mem ∧ (deferTask s a).1.itg = s.itg ∧ (deferTask s a).1.upd = s.upd := by
  unfold deferTask
  simp

@[simp] theorem scheduleTask_frame (s : State) (a : Task) :
    (scheduleTask s a).pending = s.pending ∧ (scheduleTask s a).now = s.now ∧ (scheduleTask s a).fresh = s.fresh ∧
    (scheduleTask s a).cat = s.cat ∧ (scheduleTask s a).gen = s.gen ∧ (scheduleTask s a).cap = s.cap ∧
    (scheduleTask s a).mgmt = s.mgmt ∧ (scheduleTask s a).unit = s.unit ∧ (scheduleTask s a).pwr = s.pwr ∧
    (scheduleTask s a).cfg = s.cfg ∧ (scheduleTask s a).seams = s.seams ∧ (scheduleTask s a).fab = s.fab ∧
    (scheduleTask s a).clk = s.clk ∧ (scheduleTask s a).tim = s.tim ∧ (scheduleTask s a).lan = s.lan ∧
    (scheduleTask s a).rx = s.rx ∧ (scheduleTask s a).tx = s.tx ∧ (scheduleTask s a).shu = s.shu ∧
    (scheduleTask s a).noc = s.noc ∧ (scheduleTask s a).mem = s.mem ∧ (scheduleTask s a).itg = s.itg ∧
    (scheduleTask s a).upd = s.upd := by
  unfold scheduleTask
  simp

@[simp] theorem settleSwap_frame (s : State) :
    (settleSwap s).pending = s.pending ∧ (settleSwap s).fresh = s.fresh ∧ (settleSwap s).ruling = s.ruling ∧
    (settleSwap s).cap = s.cap ∧ (settleSwap s).unit = s.unit ∧ (settleSwap s).pwr = s.pwr ∧ (settleSwap s).cfg = s.cfg ∧
    (settleSwap s).seams = s.seams ∧ (settleSwap s).fab = s.fab ∧ (settleSwap s).clk = s.clk ∧ (settleSwap s).lan = s.lan ∧
    (settleSwap s).rx = s.rx ∧ (settleSwap s).tx = s.tx ∧ (settleSwap s).shu = s.shu ∧ (settleSwap s).mem = s.mem ∧
    (settleSwap s).itg = s.itg ∧ (settleSwap s).upd = s.upd := by
  unfold settleSwap
  simp

@[simp] theorem takeReport_frame (s : State) (a : Nat) (b : Nat) (c : List Nat) :
    (takeReport s a b c).pending = s.pending ∧ (takeReport s a b c).now = s.now ∧ (takeReport s a b c).fresh = s.fresh ∧
    (takeReport s a b c).gen = s.gen ∧ (takeReport s a b c).ruling = s.ruling ∧ (takeReport s a b c).cap = s.cap ∧
    (takeReport s a b c).unit = s.unit ∧ (takeReport s a b c).pwr = s.pwr ∧ (takeReport s a b c).cfg = s.cfg ∧
    (takeReport s a b c).seams = s.seams ∧ (takeReport s a b c).fab = s.fab ∧ (takeReport s a b c).clk = s.clk ∧
    (takeReport s a b c).tim = s.tim ∧ (takeReport s a b c).lan = s.lan ∧ (takeReport s a b c).rx = s.rx ∧
    (takeReport s a b c).tx = s.tx ∧ (takeReport s a b c).shu = s.shu ∧ (takeReport s a b c).noc = s.noc ∧
    (takeReport s a b c).mem = s.mem ∧ (takeReport s a b c).itg = s.itg ∧ (takeReport s a b c).upd = s.upd := by
  unfold takeReport
  simp only []
  repeat' split
  all_goals simp

@[simp] theorem strobe_frame (s : State) (a : Nat) (b : Bool) :
    (strobe s a b).pending = s.pending ∧ (strobe s a b).now = s.now ∧ (strobe s a b).fresh = s.fresh ∧
    (strobe s a b).cat = s.cat ∧ (strobe s a b).gen = s.gen ∧ (strobe s a b).cap = s.cap ∧ (strobe s a b).mgmt = s.mgmt ∧
    (strobe s a b).unit = s.unit ∧ (strobe s a b).pwr = s.pwr ∧ (strobe s a b).cfg = s.cfg ∧
    (strobe s a b).seams = s.seams ∧ (strobe s a b).fab = s.fab ∧ (strobe s a b).clk = s.clk ∧ (strobe s a b).tim = s.tim ∧
    (strobe s a b).lan = s.lan ∧ (strobe s a b).rx = s.rx ∧ (strobe s a b).tx = s.tx ∧ (strobe s a b).shu = s.shu ∧
    (strobe s a b).noc = s.noc ∧ (strobe s a b).mem = s.mem ∧ (strobe s a b).itg = s.itg ∧ (strobe s a b).upd = s.upd := by
  unfold strobe
  simp

@[simp] theorem beginPick_frame (s : State) (a : Nat) (b : Nat) :
    (beginPick s a b).pending = s.pending ∧ (beginPick s a b).now = s.now ∧ (beginPick s a b).fresh = s.fresh ∧
    (beginPick s a b).gen = s.gen ∧ (beginPick s a b).cap = s.cap ∧ (beginPick s a b).unit = s.unit ∧
    (beginPick s a b).pwr = s.pwr ∧ (beginPick s a b).cfg = s.cfg ∧ (beginPick s a b).seams = s.seams ∧
    (beginPick s a b).fab = s.fab ∧ (beginPick s a b).lan = s.lan ∧ (beginPick s a b).rx = s.rx ∧
    (beginPick s a b).tx = s.tx ∧ (beginPick s a b).shu = s.shu ∧ (beginPick s a b).noc = s.noc ∧
    (beginPick s a b).mem = s.mem ∧ (beginPick s a b).itg = s.itg ∧ (beginPick s a b).upd = s.upd := by
  unfold beginPick
  simp

@[simp] theorem beatSource_frame (s : State) (a : Nat) :
    (beatSource s a).pending = s.pending ∧ (beatSource s a).now = s.now ∧ (beatSource s a).fresh = s.fresh ∧
    (beatSource s a).cat = s.cat ∧ (beatSource s a).gen = s.gen ∧ (beatSource s a).ruling = s.ruling ∧
    (beatSource s a).cap = s.cap ∧ (beatSource s a).mgmt = s.mgmt ∧ (beatSource s a).unit = s.unit ∧
    (beatSource s a).pwr = s.pwr ∧ (beatSource s a).cfg = s.cfg ∧ (beatSource s a).seams = s.seams ∧
    (beatSource s a).fab = s.fab ∧ (beatSource s a).clk = s.clk ∧ (beatSource s a).tim = s.tim ∧
    (beatSource s a).lan = s.lan ∧ (beatSource s a).rx = s.rx ∧ (beatSource s a).tx = s.tx ∧ (beatSource s a).noc = s.noc ∧
    (beatSource s a).mem = s.mem ∧ (beatSource s a).itg = s.itg ∧ (beatSource s a).upd = s.upd := by
  unfold beatSource
  simp

@[simp] theorem lapsePicks_frame (s : State) (a : Nat) (b : Nat) :
    (lapsePicks s a b).pending = s.pending ∧ (lapsePicks s a b).now = s.now ∧ (lapsePicks s a b).fresh = s.fresh ∧
    (lapsePicks s a b).gen = s.gen ∧ (lapsePicks s a b).cap = s.cap ∧ (lapsePicks s a b).unit = s.unit ∧
    (lapsePicks s a b).cfg = s.cfg ∧ (lapsePicks s a b).seams = s.seams ∧ (lapsePicks s a b).fab = s.fab ∧
    (lapsePicks s a b).tim = s.tim ∧ (lapsePicks s a b).lan = s.lan ∧ (lapsePicks s a b).rx = s.rx ∧
    (lapsePicks s a b).tx = s.tx ∧ (lapsePicks s a b).shu = s.shu ∧ (lapsePicks s a b).noc = s.noc ∧
    (lapsePicks s a b).mem = s.mem ∧ (lapsePicks s a b).itg = s.itg := by
  unfold lapsePicks
  simp

@[simp] theorem beatBoundary_frame (s : State) (a : Nat) :
    (beatBoundary s a).pending = s.pending ∧ (beatBoundary s a).fresh = s.fresh ∧ (beatBoundary s a).gen = s.gen ∧
    (beatBoundary s a).cap = s.cap ∧ (beatBoundary s a).mgmt = s.mgmt ∧ (beatBoundary s a).unit = s.unit ∧
    (beatBoundary s a).pwr = s.pwr ∧ (beatBoundary s a).cfg = s.cfg ∧ (beatBoundary s a).seams = s.seams ∧
    (beatBoundary s a).fab = s.fab ∧ (beatBoundary s a).clk = s.clk ∧ (beatBoundary s a).lan = s.lan ∧
    (beatBoundary s a).rx = s.rx ∧ (beatBoundary s a).tx = s.tx ∧ (beatBoundary s a).noc = s.noc ∧
    (beatBoundary s a).mem = s.mem ∧ (beatBoundary s a).itg = s.itg ∧ (beatBoundary s a).upd = s.upd := by
  unfold beatBoundary
  simp

@[simp] theorem idleCycle_frame (s : State) :
    (idleCycle s).pending = s.pending ∧ (idleCycle s).ruling = s.ruling ∧ (idleCycle s).cap = s.cap ∧
    (idleCycle s).unit = s.unit ∧ (idleCycle s).pwr = s.pwr ∧ (idleCycle s).cfg = s.cfg ∧ (idleCycle s).lan = s.lan ∧
    (idleCycle s).rx = s.rx ∧ (idleCycle s).tx = s.tx ∧ (idleCycle s).shu = s.shu ∧ (idleCycle s).mem = s.mem ∧
    (idleCycle s).itg = s.itg ∧ (idleCycle s).upd = s.upd := by
  unfold idleCycle
  simp

end Sys2Proof.Machine
end

