-- ==== Sys2Proof/Laws/Memory.lean ====
section
/-! SUPPORT. Every operation that changes the bytes of memory keeps their canonical form: these three are the only ones that do
(a store, forgetting contents, and moving them when the population of a bolt changes). -/

namespace Sys2Proof.Machine

/-- A store keeps the canonical form. -/
theorem wf_store (s : State) (a : Nat) (b : List Byte) (w : Memory.wf s.mem.bytes = true) :
    Memory.wf (s.store a b).mem.bytes = true :=
  wf_memWrites b s.mem.bytes a w

/-- Forgetting contents keeps the canonical form. -/
theorem wf_forget (s : State) (p : Nat → Bool) (w : Memory.wf s.mem.bytes = true) :
    Memory.wf (s.forget p).mem.bytes = true :=
  wf_filter _ _ w

/-- Byte writes one after another keep the canonical form. -/
theorem wf_foldl_memWrite (l m : List Host.Cell) (w : Memory.wf m = true) :
    Memory.wf (l.foldl (fun m c => memWrite m c.1 c.2) m) = true := by
  induction l generalizing m with
  | nil => exact w
  | cons c r ih => exact ih _ (wf_memWrite m c.1 c.2 w)

/-- Moving contents keeps the canonical form. -/
theorem wf_moveContents (old s : State) (kept : List Nat) (w : Memory.wf s.mem.bytes = true) :
    Memory.wf (moveContents old s kept).mem.bytes = true :=
  wf_foldl_memWrite _ _ (wf_filter _ _ w)

/-- A store of one byte reads back. -/
theorem memRead_store_self (s : State) (a : Nat) (v : Byte) (w : Memory.wf s.mem.bytes = true) :
    memRead (s.store a [v]).mem.bytes a = v :=
  memRead_memWrite_self _ a v w

/-- A store leaves every byte outside it. -/
theorem memRead_store_outside (s : State) (a c : Nat) (b : List Byte) (h : c < a ∨ a + b.length ≤ c) :
    memRead (s.store a b).mem.bytes c = memRead s.mem.bytes c := by
  show memRead (memWrites s.mem.bytes a b) c = _
  generalize s.mem.bytes = m
  induction b generalizing m a with
  | nil => rfl
  | cons v r ih =>
    simp only [List.length_cons] at h
    show memRead (memWrites (memWrite m a v) (a + 1) r) c = _
    rw [ih (a + 1) (by omega) (memWrite m a v), memRead_memWrite_ne m a c v (by omega)]

end Sys2Proof.Machine
end

