-- ==== Sys2Proof/Laws/State.lean ====
section
/-! SUPPORT. Reading the parts of the state after an update of one of them. -/

namespace Sys2Proof.Machine

/-! ### Lists -/

@[simp] theorem length_lmod {α : Type} (l : List α) (i : Nat) (f : α → α) : (lmod l i f).length = l.length := by
  simp [lmod]

theorem getD_lmod {α : Type} (l : List α) (i j : Nat) (f : α → α) (d : α) :
    (lmod l i f).getD j d = if i = j ∧ j < l.length then f (l.getD j d) else l.getD j d := by
  simp only [lmod, List.getD_eq_getElem?_getD, List.getElem?_modify]
  by_cases hj : j < l.length
  · by_cases hi : i = j <;> simp [hi, hj]
  · simp [hj]

theorem getD_lmod_self {α : Type} (l : List α) (i : Nat) (f : α → α) (d : α) (h : i < l.length) :
    (lmod l i f).getD i d = f (l.getD i d) := by rw [getD_lmod]; simp [h]

theorem getD_lmod_ne {α : Type} (l : List α) (i j : Nat) (f : α → α) (d : α) (h : i ≠ j) :
    (lmod l i f).getD j d = l.getD j d := by rw [getD_lmod]; simp [h]

/-! ### Parts of a fixed number -/

theorem tb_setTb_self (s : State) (k : Nat) (f) (h : k < s.tim.tb.length) : (s.setTb k f).tb k = f (s.tb k) :=
  getD_lmod_self _ _ _ _ h

theorem tb_setTb_ne (s : State) (k j : Nat) (f) (h : k ≠ j) : (s.setTb k f).tb j = s.tb j :=
  getD_lmod_ne _ _ _ _ _ h

theorem dom_setDom_self (s : State) (k : Nat) (f) (h : k < s.clk.domains.length) : (s.setDom k f).dom k = f (s.dom k) :=
  getD_lmod_self _ _ _ _ h

theorem dom_setDom_ne (s : State) (k j : Nat) (f) (h : k ≠ j) : (s.setDom k f).dom j = s.dom j :=
  getD_lmod_ne _ _ _ _ _ h

theorem op_setOp_self (s : State) (k : Nat) (f) (h : k < s.mgmt.longOps.length) : (s.setOp k f).op k = f (s.op k) :=
  getD_lmod_self _ _ _ _ h

theorem op_setOp_ne (s : State) (k j : Nat) (f) (h : k ≠ j) : (s.setOp k f).op j = s.op j :=
  getD_lmod_ne _ _ _ _ _ h

theorem ses_setSes_self (s : State) (k : Nat) (f) (h : k < s.mgmt.sessions.length) : (s.setSes k f).ses k = f (s.ses k) :=
  getD_lmod_self _ _ _ _ h

theorem ses_setSes_ne (s : State) (k j : Nat) (f) (h : k ≠ j) : (s.setSes k f).ses j = s.ses j :=
  getD_lmod_ne _ _ _ _ _ h

theorem slot_setSlot_self (s : State) (k : Nat) (f) (h : k < s.itg.slots.length) : (s.setSlot k f).slot k = f (s.slot k) :=
  getD_lmod_self _ _ _ _ h

theorem slot_setSlot_ne (s : State) (k j : Nat) (f) (h : k ≠ j) : (s.setSlot k f).slot j = s.slot j :=
  getD_lmod_ne _ _ _ _ _ h

theorem mch_setMch_self (s : State) (k : Nat) (f) (h : k < s.mem.chans.length) : (s.setMch k f).mch k = f (s.mch k) :=
  getD_lmod_self _ _ _ _ h

theorem mch_setMch_ne (s : State) (k j : Nat) (f) (h : k ≠ j) : (s.setMch k f).mch j = s.mch j :=
  getD_lmod_ne _ _ _ _ _ h

theorem trig_setTrig_self (s : State) (k : Nat) (f) (h : k < s.tim.trig.length) : (s.setTrig k f).trig k = f (s.trig k) :=
  getD_lmod_self _ _ _ _ h

theorem trig_setTrig_ne (s : State) (k j : Nat) (f) (h : k ≠ j) : (s.setTrig k f).trig j = s.trig j :=
  getD_lmod_ne _ _ _ _ _ h

/-! ### Parts kept in tables -/

@[simp] theorem chan_setChan_self (s : State) (k : Nat) (f) : (s.setChan k f).chan k = f (s.chan k) := tgetD_tput_self _ _ _ _

theorem chan_setChan_ne (s : State) (k j : Nat) (f) (h : k ≠ j) : (s.setChan k f).chan j = s.chan j :=
  tgetD_tput_ne _ _ _ _ _ h

@[simp] theorem sh_setSh_self (s : State) (k : Nat) (f) : (s.setSh k f).sh k = f (s.sh k) := tgetD_tput_self _ _ _ _

theorem sh_setSh_ne (s : State) (k j : Nat) (f) (h : k ≠ j) : (s.setSh k f).sh j = s.sh j :=
  tgetD_tput_ne _ _ _ _ _ h

@[simp] theorem pin_setPin_self (s : State) (k : Nat) (f) : (s.setPin k f).pin k = f (s.pin k) := tgetD_tput_self _ _ _ _

theorem pin_setPin_ne (s : State) (k j : Nat) (f) (h : k ≠ j) : (s.setPin k f).pin j = s.pin j :=
  tgetD_tput_ne _ _ _ _ _ h

@[simp] theorem lane_setLane_self (s : State) (k : Nat) (f) : (s.setLane k f).lane k = f (s.lane k) := tgetD_tput_self _ _ _ _

theorem lane_setLane_ne (s : State) (k j : Nat) (f) (h : k ≠ j) : (s.setLane k f).lane j = s.lane j :=
  tgetD_tput_ne _ _ _ _ _ h

@[simp] theorem sub_setSub_self (s : State) (k : Nat) (f) : (s.setSub k f).sub k = f (s.sub k) := tgetD_tput_self _ _ _ _

theorem sub_setSub_ne (s : State) (k j : Nat) (f) (h : k ≠ j) : (s.setSub k f).sub j = s.sub j :=
  tgetD_tput_ne _ _ _ _ _ h

/-! ### Entries -/

@[simp] theorem put_cat (s : State) (i a n : Nat) : (s.put i a n).cat = tput s.cat (ent i a) (.num n) := rfl
@[simp] theorem putOct_cat (s : State) (i a : Nat) (b : List Byte) : (s.putOct i a b).cat = tput s.cat (ent i a) (.oct b) := rfl
@[simp] theorem bump_gen (s : State) (k : Nat) : (s.bump k).gen = tput s.gen k ((tgetD s.gen k 0 + 1) % 2 ^ 32) := rfl
@[simp] theorem draw_fresh (s : State) : s.draw.fresh = s.fresh + 1 := rfl
@[simp] theorem reply_answer (s : State) (a d : Nat) (b : List Byte) :
    (s.reply a d b).cap.answer = { status := a, detail := d, value := b } := rfl

/-- A counter counts, modulo its width. -/
@[simp] theorem num_count_self (s : State) (i a w n : Nat) : (s.count i a w n).num i a = (s.num i a + n) % 2 ^ w :=
  num_put_self _ _ _ _

/-! ### What the parts read as after another part has changed -/

@[simp] theorem tb_put (s : State) (i a n : Nat) (k : Nat) : (s.put i a n).tb k = s.tb k := rfl
@[simp] theorem dom_put (s : State) (i a n : Nat) (k : Nat) : (s.put i a n).dom k = s.dom k := rfl
@[simp] theorem op_put (s : State) (i a n : Nat) (k : Nat) : (s.put i a n).op k = s.op k := rfl
@[simp] theorem ses_put (s : State) (i a n : Nat) (k : Nat) : (s.put i a n).ses k = s.ses k := rfl
@[simp] theorem slot_put (s : State) (i a n : Nat) (k : Nat) : (s.put i a n).slot k = s.slot k := rfl
@[simp] theorem mch_put (s : State) (i a n : Nat) (k : Nat) : (s.put i a n).mch k = s.mch k := rfl
@[simp] theorem trig_put (s : State) (i a n : Nat) (k : Nat) : (s.put i a n).trig k = s.trig k := rfl
@[simp] theorem chan_put (s : State) (i a n : Nat) (k : Nat) : (s.put i a n).chan k = s.chan k := rfl
@[simp] theorem sh_put (s : State) (i a n : Nat) (k : Nat) : (s.put i a n).sh k = s.sh k := rfl
@[simp] theorem pin_put (s : State) (i a n : Nat) (k : Nat) : (s.put i a n).pin k = s.pin k := rfl
@[simp] theorem lane_put (s : State) (i a n : Nat) (k : Nat) : (s.put i a n).lane k = s.lane k := rfl
@[simp] theorem sub_put (s : State) (i a n : Nat) (k : Nat) : (s.put i a n).sub k = s.sub k := rfl

@[simp] theorem tb_putOct (s : State) (i a : Nat) (b : List Byte) (k : Nat) : (s.putOct i a b).tb k = s.tb k := rfl
@[simp] theorem dom_putOct (s : State) (i a : Nat) (b : List Byte) (k : Nat) : (s.putOct i a b).dom k = s.dom k := rfl
@[simp] theorem op_putOct (s : State) (i a : Nat) (b : List Byte) (k : Nat) : (s.putOct i a b).op k = s.op k := rfl
@[simp] theorem ses_putOct (s : State) (i a : Nat) (b : List Byte) (k : Nat) : (s.putOct i a b).ses k = s.ses k := rfl
@[simp] theorem slot_putOct (s : State) (i a : Nat) (b : List Byte) (k : Nat) : (s.putOct i a b).slot k = s.slot k := rfl
@[simp] theorem mch_putOct (s : State) (i a : Nat) (b : List Byte) (k : Nat) : (s.putOct i a b).mch k = s.mch k := rfl
@[simp] theorem trig_putOct (s : State) (i a : Nat) (b : List Byte) (k : Nat) : (s.putOct i a b).trig k = s.trig k := rfl
@[simp] theorem chan_putOct (s : State) (i a : Nat) (b : List Byte) (k : Nat) : (s.putOct i a b).chan k = s.chan k := rfl
@[simp] theorem sh_putOct (s : State) (i a : Nat) (b : List Byte) (k : Nat) : (s.putOct i a b).sh k = s.sh k := rfl
@[simp] theorem pin_putOct (s : State) (i a : Nat) (b : List Byte) (k : Nat) : (s.putOct i a b).pin k = s.pin k := rfl
@[simp] theorem lane_putOct (s : State) (i a : Nat) (b : List Byte) (k : Nat) : (s.putOct i a b).lane k = s.lane k := rfl
@[simp] theorem sub_putOct (s : State) (i a : Nat) (b : List Byte) (k : Nat) : (s.putOct i a b).sub k = s.sub k := rfl

@[simp] theorem tb_bump (s : State) (j : Nat) (k : Nat) : (s.bump j).tb k = s.tb k := rfl
@[simp] theorem dom_bump (s : State) (j : Nat) (k : Nat) : (s.bump j).dom k = s.dom k := rfl
@[simp] theorem op_bump (s : State) (j : Nat) (k : Nat) : (s.bump j).op k = s.op k := rfl
@[simp] theorem ses_bump (s : State) (j : Nat) (k : Nat) : (s.bump j).ses k = s.ses k := rfl
@[simp] theorem slot_bump (s : State) (j : Nat) (k : Nat) : (s.bump j).slot k = s.slot k := rfl
@[simp] theorem mch_bump (s : State) (j : Nat) (k : Nat) : (s.bump j).mch k = s.mch k := rfl
@[simp] theorem trig_bump (s : State) (j : Nat) (k : Nat) : (s.bump j).trig k = s.trig k := rfl
@[simp] theorem chan_bump (s : State) (j : Nat) (k : Nat) : (s.bump j).chan k = s.chan k := rfl
@[simp] theorem sh_bump (s : State) (j : Nat) (k : Nat) : (s.bump j).sh k = s.sh k := rfl
@[simp] theorem pin_bump (s : State) (j : Nat) (k : Nat) : (s.bump j).pin k = s.pin k := rfl
@[simp] theorem lane_bump (s : State) (j : Nat) (k : Nat) : (s.bump j).lane k = s.lane k := rfl
@[simp] theorem sub_bump (s : State) (j : Nat) (k : Nat) : (s.bump j).sub k = s.sub k := rfl

@[simp] theorem dom_setTb (s : State) (j : Nat) (f) (k : Nat) : (s.setTb j f).dom k = s.dom k := rfl
@[simp] theorem op_setTb (s : State) (j : Nat) (f) (k : Nat) : (s.setTb j f).op k = s.op k := rfl
@[simp] theorem ses_setTb (s : State) (j : Nat) (f) (k : Nat) : (s.setTb j f).ses k = s.ses k := rfl
@[simp] theorem slot_setTb (s : State) (j : Nat) (f) (k : Nat) : (s.setTb j f).slot k = s.slot k := rfl
@[simp] theorem mch_setTb (s : State) (j : Nat) (f) (k : Nat) : (s.setTb j f).mch k = s.mch k := rfl
@[simp] theorem chan_setTb (s : State) (j : Nat) (f) (k : Nat) : (s.setTb j f).chan k = s.chan k := rfl
@[simp] theorem sh_setTb (s : State) (j : Nat) (f) (k : Nat) : (s.setTb j f).sh k = s.sh k := rfl
@[simp] theorem pin_setTb (s : State) (j : Nat) (f) (k : Nat) : (s.setTb j f).pin k = s.pin k := rfl
@[simp] theorem lane_setTb (s : State) (j : Nat) (f) (k : Nat) : (s.setTb j f).lane k = s.lane k := rfl
@[simp] theorem sub_setTb (s : State) (j : Nat) (f) (k : Nat) : (s.setTb j f).sub k = s.sub k := rfl
@[simp] theorem num_setTb (s : State) (j : Nat) (f) (i a : Nat) : (s.setTb j f).num i a = s.num i a := rfl

@[simp] theorem tb_setDom (s : State) (j : Nat) (f) (k : Nat) : (s.setDom j f).tb k = s.tb k := rfl
@[simp] theorem op_setDom (s : State) (j : Nat) (f) (k : Nat) : (s.setDom j f).op k = s.op k := rfl
@[simp] theorem ses_setDom (s : State) (j : Nat) (f) (k : Nat) : (s.setDom j f).ses k = s.ses k := rfl
@[simp] theorem slot_setDom (s : State) (j : Nat) (f) (k : Nat) : (s.setDom j f).slot k = s.slot k := rfl
@[simp] theorem mch_setDom (s : State) (j : Nat) (f) (k : Nat) : (s.setDom j f).mch k = s.mch k := rfl
@[simp] theorem trig_setDom (s : State) (j : Nat) (f) (k : Nat) : (s.setDom j f).trig k = s.trig k := rfl
@[simp] theorem chan_setDom (s : State) (j : Nat) (f) (k : Nat) : (s.setDom j f).chan k = s.chan k := rfl
@[simp] theorem sh_setDom (s : State) (j : Nat) (f) (k : Nat) : (s.setDom j f).sh k = s.sh k := rfl
@[simp] theorem pin_setDom (s : State) (j : Nat) (f) (k : Nat) : (s.setDom j f).pin k = s.pin k := rfl
@[simp] theorem lane_setDom (s : State) (j : Nat) (f) (k : Nat) : (s.setDom j f).lane k = s.lane k := rfl
@[simp] theorem sub_setDom (s : State) (j : Nat) (f) (k : Nat) : (s.setDom j f).sub k = s.sub k := rfl
@[simp] theorem num_setDom (s : State) (j : Nat) (f) (i a : Nat) : (s.setDom j f).num i a = s.num i a := rfl

@[simp] theorem tb_setOp (s : State) (j : Nat) (f) (k : Nat) : (s.setOp j f).tb k = s.tb k := rfl
@[simp] theorem dom_setOp (s : State) (j : Nat) (f) (k : Nat) : (s.setOp j f).dom k = s.dom k := rfl
@[simp] theorem slot_setOp (s : State) (j : Nat) (f) (k : Nat) : (s.setOp j f).slot k = s.slot k := rfl
@[simp] theorem mch_setOp (s : State) (j : Nat) (f) (k : Nat) : (s.setOp j f).mch k = s.mch k := rfl
@[simp] theorem trig_setOp (s : State) (j : Nat) (f) (k : Nat) : (s.setOp j f).trig k = s.trig k := rfl
@[simp] theorem chan_setOp (s : State) (j : Nat) (f) (k : Nat) : (s.setOp j f).chan k = s.chan k := rfl
@[simp] theorem sh_setOp (s : State) (j : Nat) (f) (k : Nat) : (s.setOp j f).sh k = s.sh k := rfl
@[simp] theorem pin_setOp (s : State) (j : Nat) (f) (k : Nat) : (s.setOp j f).pin k = s.pin k := rfl
@[simp] theorem lane_setOp (s : State) (j : Nat) (f) (k : Nat) : (s.setOp j f).lane k = s.lane k := rfl
@[simp] theorem sub_setOp (s : State) (j : Nat) (f) (k : Nat) : (s.setOp j f).sub k = s.sub k := rfl
@[simp] theorem num_setOp (s : State) (j : Nat) (f) (i a : Nat) : (s.setOp j f).num i a = s.num i a := rfl

@[simp] theorem tb_setSes (s : State) (j : Nat) (f) (k : Nat) : (s.setSes j f).tb k = s.tb k := rfl
@[simp] theorem dom_setSes (s : State) (j : Nat) (f) (k : Nat) : (s.setSes j f).dom k = s.dom k := rfl
@[simp] theorem slot_setSes (s : State) (j : Nat) (f) (k : Nat) : (s.setSes j f).slot k = s.slot k := rfl
@[simp] theorem mch_setSes (s : State) (j : Nat) (f) (k : Nat) : (s.setSes j f).mch k = s.mch k := rfl
@[simp] theorem trig_setSes (s : State) (j : Nat) (f) (k : Nat) : (s.setSes j f).trig k = s.trig k := rfl
@[simp] theorem chan_setSes (s : State) (j : Nat) (f) (k : Nat) : (s.setSes j f).chan k = s.chan k := rfl
@[simp] theorem sh_setSes (s : State) (j : Nat) (f) (k : Nat) : (s.setSes j f).sh k = s.sh k := rfl
@[simp] theorem pin_setSes (s : State) (j : Nat) (f) (k : Nat) : (s.setSes j f).pin k = s.pin k := rfl
@[simp] theorem lane_setSes (s : State) (j : Nat) (f) (k : Nat) : (s.setSes j f).lane k = s.lane k := rfl
@[simp] theorem sub_setSes (s : State) (j : Nat) (f) (k : Nat) : (s.setSes j f).sub k = s.sub k := rfl
@[simp] theorem num_setSes (s : State) (j : Nat) (f) (i a : Nat) : (s.setSes j f).num i a = s.num i a := rfl

@[simp] theorem tb_setSlot (s : State) (j : Nat) (f) (k : Nat) : (s.setSlot j f).tb k = s.tb k := rfl
@[simp] theorem dom_setSlot (s : State) (j : Nat) (f) (k : Nat) : (s.setSlot j f).dom k = s.dom k := rfl
@[simp] theorem op_setSlot (s : State) (j : Nat) (f) (k : Nat) : (s.setSlot j f).op k = s.op k := rfl
@[simp] theorem ses_setSlot (s : State) (j : Nat) (f) (k : Nat) : (s.setSlot j f).ses k = s.ses k := rfl
@[simp] theorem mch_setSlot (s : State) (j : Nat) (f) (k : Nat) : (s.setSlot j f).mch k = s.mch k := rfl
@[simp] theorem trig_setSlot (s : State) (j : Nat) (f) (k : Nat) : (s.setSlot j f).trig k = s.trig k := rfl
@[simp] theorem chan_setSlot (s : State) (j : Nat) (f) (k : Nat) : (s.setSlot j f).chan k = s.chan k := rfl
@[simp] theorem sh_setSlot (s : State) (j : Nat) (f) (k : Nat) : (s.setSlot j f).sh k = s.sh k := rfl
@[simp] theorem pin_setSlot (s : State) (j : Nat) (f) (k : Nat) : (s.setSlot j f).pin k = s.pin k := rfl
@[simp] theorem lane_setSlot (s : State) (j : Nat) (f) (k : Nat) : (s.setSlot j f).lane k = s.lane k := rfl
@[simp] theorem sub_setSlot (s : State) (j : Nat) (f) (k : Nat) : (s.setSlot j f).sub k = s.sub k := rfl
@[simp] theorem num_setSlot (s : State) (j : Nat) (f) (i a : Nat) : (s.setSlot j f).num i a = s.num i a := rfl

@[simp] theorem tb_setMch (s : State) (j : Nat) (f) (k : Nat) : (s.setMch j f).tb k = s.tb k := rfl
@[simp] theorem dom_setMch (s : State) (j : Nat) (f) (k : Nat) : (s.setMch j f).dom k = s.dom k := rfl
@[simp] theorem op_setMch (s : State) (j : Nat) (f) (k : Nat) : (s.setMch j f).op k = s.op k := rfl
@[simp] theorem ses_setMch (s : State) (j : Nat) (f) (k : Nat) : (s.setMch j f).ses k = s.ses k := rfl
@[simp] theorem slot_setMch (s : State) (j : Nat) (f) (k : Nat) : (s.setMch j f).slot k = s.slot k := rfl
@[simp] theorem trig_setMch (s : State) (j : Nat) (f) (k : Nat) : (s.setMch j f).trig k = s.trig k := rfl
@[simp] theorem chan_setMch (s : State) (j : Nat) (f) (k : Nat) : (s.setMch j f).chan k = s.chan k := rfl
@[simp] theorem sh_setMch (s : State) (j : Nat) (f) (k : Nat) : (s.setMch j f).sh k = s.sh k := rfl
@[simp] theorem pin_setMch (s : State) (j : Nat) (f) (k : Nat) : (s.setMch j f).pin k = s.pin k := rfl
@[simp] theorem lane_setMch (s : State) (j : Nat) (f) (k : Nat) : (s.setMch j f).lane k = s.lane k := rfl
@[simp] theorem sub_setMch (s : State) (j : Nat) (f) (k : Nat) : (s.setMch j f).sub k = s.sub k := rfl
@[simp] theorem num_setMch (s : State) (j : Nat) (f) (i a : Nat) : (s.setMch j f).num i a = s.num i a := rfl

@[simp] theorem dom_setTrig (s : State) (j : Nat) (f) (k : Nat) : (s.setTrig j f).dom k = s.dom k := rfl
@[simp] theorem op_setTrig (s : State) (j : Nat) (f) (k : Nat) : (s.setTrig j f).op k = s.op k := rfl
@[simp] theorem ses_setTrig (s : State) (j : Nat) (f) (k : Nat) : (s.setTrig j f).ses k = s.ses k := rfl
@[simp] theorem slot_setTrig (s : State) (j : Nat) (f) (k : Nat) : (s.setTrig j f).slot k = s.slot k := rfl
@[simp] theorem mch_setTrig (s : State) (j : Nat) (f) (k : Nat) : (s.setTrig j f).mch k = s.mch k := rfl
@[simp] theorem chan_setTrig (s : State) (j : Nat) (f) (k : Nat) : (s.setTrig j f).chan k = s.chan k := rfl
@[simp] theorem sh_setTrig (s : State) (j : Nat) (f) (k : Nat) : (s.setTrig j f).sh k = s.sh k := rfl
@[simp] theorem pin_setTrig (s : State) (j : Nat) (f) (k : Nat) : (s.setTrig j f).pin k = s.pin k := rfl
@[simp] theorem lane_setTrig (s : State) (j : Nat) (f) (k : Nat) : (s.setTrig j f).lane k = s.lane k := rfl
@[simp] theorem sub_setTrig (s : State) (j : Nat) (f) (k : Nat) : (s.setTrig j f).sub k = s.sub k := rfl
@[simp] theorem num_setTrig (s : State) (j : Nat) (f) (i a : Nat) : (s.setTrig j f).num i a = s.num i a := rfl

@[simp] theorem tb_setChan (s : State) (j : Nat) (f) (k : Nat) : (s.setChan j f).tb k = s.tb k := rfl
@[simp] theorem dom_setChan (s : State) (j : Nat) (f) (k : Nat) : (s.setChan j f).dom k = s.dom k := rfl
@[simp] theorem op_setChan (s : State) (j : Nat) (f) (k : Nat) : (s.setChan j f).op k = s.op k := rfl
@[simp] theorem ses_setChan (s : State) (j : Nat) (f) (k : Nat) : (s.setChan j f).ses k = s.ses k := rfl
@[simp] theorem slot_setChan (s : State) (j : Nat) (f) (k : Nat) : (s.setChan j f).slot k = s.slot k := rfl
@[simp] theorem mch_setChan (s : State) (j : Nat) (f) (k : Nat) : (s.setChan j f).mch k = s.mch k := rfl
@[simp] theorem trig_setChan (s : State) (j : Nat) (f) (k : Nat) : (s.setChan j f).trig k = s.trig k := rfl
@[simp] theorem sh_setChan (s : State) (j : Nat) (f) (k : Nat) : (s.setChan j f).sh k = s.sh k := rfl
@[simp] theorem pin_setChan (s : State) (j : Nat) (f) (k : Nat) : (s.setChan j f).pin k = s.pin k := rfl
@[simp] theorem lane_setChan (s : State) (j : Nat) (f) (k : Nat) : (s.setChan j f).lane k = s.lane k := rfl
@[simp] theorem sub_setChan (s : State) (j : Nat) (f) (k : Nat) : (s.setChan j f).sub k = s.sub k := rfl
@[simp] theorem num_setChan (s : State) (j : Nat) (f) (i a : Nat) : (s.setChan j f).num i a = s.num i a := rfl

@[simp] theorem tb_setSh (s : State) (j : Nat) (f) (k : Nat) : (s.setSh j f).tb k = s.tb k := rfl
@[simp] theorem dom_setSh (s : State) (j : Nat) (f) (k : Nat) : (s.setSh j f).dom k = s.dom k := rfl
@[simp] theorem op_setSh (s : State) (j : Nat) (f) (k : Nat) : (s.setSh j f).op k = s.op k := rfl
@[simp] theorem ses_setSh (s : State) (j : Nat) (f) (k : Nat) : (s.setSh j f).ses k = s.ses k := rfl
@[simp] theorem slot_setSh (s : State) (j : Nat) (f) (k : Nat) : (s.setSh j f).slot k = s.slot k := rfl
@[simp] theorem mch_setSh (s : State) (j : Nat) (f) (k : Nat) : (s.setSh j f).mch k = s.mch k := rfl
@[simp] theorem trig_setSh (s : State) (j : Nat) (f) (k : Nat) : (s.setSh j f).trig k = s.trig k := rfl
@[simp] theorem chan_setSh (s : State) (j : Nat) (f) (k : Nat) : (s.setSh j f).chan k = s.chan k := rfl
@[simp] theorem pin_setSh (s : State) (j : Nat) (f) (k : Nat) : (s.setSh j f).pin k = s.pin k := rfl
@[simp] theorem lane_setSh (s : State) (j : Nat) (f) (k : Nat) : (s.setSh j f).lane k = s.lane k := rfl
@[simp] theorem sub_setSh (s : State) (j : Nat) (f) (k : Nat) : (s.setSh j f).sub k = s.sub k := rfl
@[simp] theorem num_setSh (s : State) (j : Nat) (f) (i a : Nat) : (s.setSh j f).num i a = s.num i a := rfl

@[simp] theorem tb_setPin (s : State) (j : Nat) (f) (k : Nat) : (s.setPin j f).tb k = s.tb k := rfl
@[simp] theorem dom_setPin (s : State) (j : Nat) (f) (k : Nat) : (s.setPin j f).dom k = s.dom k := rfl
@[simp] theorem op_setPin (s : State) (j : Nat) (f) (k : Nat) : (s.setPin j f).op k = s.op k := rfl
@[simp] theorem ses_setPin (s : State) (j : Nat) (f) (k : Nat) : (s.setPin j f).ses k = s.ses k := rfl
@[simp] theorem slot_setPin (s : State) (j : Nat) (f) (k : Nat) : (s.setPin j f).slot k = s.slot k := rfl
@[simp] theorem mch_setPin (s : State) (j : Nat) (f) (k : Nat) : (s.setPin j f).mch k = s.mch k := rfl
@[simp] theorem trig_setPin (s : State) (j : Nat) (f) (k : Nat) : (s.setPin j f).trig k = s.trig k := rfl
@[simp] theorem chan_setPin (s : State) (j : Nat) (f) (k : Nat) : (s.setPin j f).chan k = s.chan k := rfl
@[simp] theorem sh_setPin (s : State) (j : Nat) (f) (k : Nat) : (s.setPin j f).sh k = s.sh k := rfl
@[simp] theorem lane_setPin (s : State) (j : Nat) (f) (k : Nat) : (s.setPin j f).lane k = s.lane k := rfl
@[simp] theorem sub_setPin (s : State) (j : Nat) (f) (k : Nat) : (s.setPin j f).sub k = s.sub k := rfl
@[simp] theorem num_setPin (s : State) (j : Nat) (f) (i a : Nat) : (s.setPin j f).num i a = s.num i a := rfl

@[simp] theorem tb_setLane (s : State) (j : Nat) (f) (k : Nat) : (s.setLane j f).tb k = s.tb k := rfl
@[simp] theorem dom_setLane (s : State) (j : Nat) (f) (k : Nat) : (s.setLane j f).dom k = s.dom k := rfl
@[simp] theorem op_setLane (s : State) (j : Nat) (f) (k : Nat) : (s.setLane j f).op k = s.op k := rfl
@[simp] theorem ses_setLane (s : State) (j : Nat) (f) (k : Nat) : (s.setLane j f).ses k = s.ses k := rfl
@[simp] theorem slot_setLane (s : State) (j : Nat) (f) (k : Nat) : (s.setLane j f).slot k = s.slot k := rfl
@[simp] theorem mch_setLane (s : State) (j : Nat) (f) (k : Nat) : (s.setLane j f).mch k = s.mch k := rfl
@[simp] theorem trig_setLane (s : State) (j : Nat) (f) (k : Nat) : (s.setLane j f).trig k = s.trig k := rfl
@[simp] theorem chan_setLane (s : State) (j : Nat) (f) (k : Nat) : (s.setLane j f).chan k = s.chan k := rfl
@[simp] theorem sh_setLane (s : State) (j : Nat) (f) (k : Nat) : (s.setLane j f).sh k = s.sh k := rfl
@[simp] theorem pin_setLane (s : State) (j : Nat) (f) (k : Nat) : (s.setLane j f).pin k = s.pin k := rfl
@[simp] theorem num_setLane (s : State) (j : Nat) (f) (i a : Nat) : (s.setLane j f).num i a = s.num i a := rfl

@[simp] theorem tb_setSub (s : State) (j : Nat) (f) (k : Nat) : (s.setSub j f).tb k = s.tb k := rfl
@[simp] theorem dom_setSub (s : State) (j : Nat) (f) (k : Nat) : (s.setSub j f).dom k = s.dom k := rfl
@[simp] theorem op_setSub (s : State) (j : Nat) (f) (k : Nat) : (s.setSub j f).op k = s.op k := rfl
@[simp] theorem ses_setSub (s : State) (j : Nat) (f) (k : Nat) : (s.setSub j f).ses k = s.ses k := rfl
@[simp] theorem slot_setSub (s : State) (j : Nat) (f) (k : Nat) : (s.setSub j f).slot k = s.slot k := rfl
@[simp] theorem mch_setSub (s : State) (j : Nat) (f) (k : Nat) : (s.setSub j f).mch k = s.mch k := rfl
@[simp] theorem trig_setSub (s : State) (j : Nat) (f) (k : Nat) : (s.setSub j f).trig k = s.trig k := rfl
@[simp] theorem chan_setSub (s : State) (j : Nat) (f) (k : Nat) : (s.setSub j f).chan k = s.chan k := rfl
@[simp] theorem sh_setSub (s : State) (j : Nat) (f) (k : Nat) : (s.setSub j f).sh k = s.sh k := rfl
@[simp] theorem pin_setSub (s : State) (j : Nat) (f) (k : Nat) : (s.setSub j f).pin k = s.pin k := rfl
@[simp] theorem num_setSub (s : State) (j : Nat) (f) (i a : Nat) : (s.setSub j f).num i a = s.num i a := rfl

end Sys2Proof.Machine
end

