-- ==== Sys2Proof/Laws/Writes.lean ====
section
/-! SUPPORT. What a write of an entry by a command of its own can do: one equation for each way it may end (R59, R16, R65). -/

namespace Sys2Proof.Machine

variable {s : State} {r : Req} {key : Nat} {v : Val} {rule : Rule}

/-- NOT_READY while the MGC or the entry's subsystem does not serve. -/
theorem submit_notServing (h : serves s key = false) : submit s r key v rule = s.reply stNotReady 0 := by
  simp [submit, h]

/-- The first failing check of 6 to 10. -/
theorem submit_check {e : Stat} (h : serves s key = true) (hc : checkWrite s (carried r) key v rule = some e) :
    submit s r key v rule = s.reply e.1 e.2 := by
  simp [submit, h, hc]

/-- A write that passes checks 6 to 10 answers as its execution does. -/
theorem submit_executes (h : serves s key = true) (hc : checkWrite s (carried r) key v rule = none) :
    submit s r key v rule = (executeWrite s (carried r) 0 key v rule).s.reply
      (executeWrite s (carried r) 0 key v rule).status (executeWrite s (carried r) 0 key v rule).detail := by
  simp [submit, h, hc]

/-- Check 11 fails. -/
theorem executeWrite_error {pos : Nat} {e : Stat} (h : checkTiming s r pos key v rule = .error e) :
    executeWrite s r pos key v rule = { s := s, status := e.1, detail := e.2 } := by
  simp [executeWrite, h]

/-- The entry refuses. -/
theorem executeWrite_judged {pos : Nat} {p : Option Nat} {d : Done} (h : checkTiming s r pos key v rule = .ok p)
    (hj : rule.judge s r v = some d) : executeWrite s r pos key v rule = d := by
  simp [executeWrite, h, hj]

/-- The write is accepted for the pick its time of execution names. -/
theorem executeWrite_timed {pos n : Nat} (h : checkTiming s r pos key v rule = .ok (some n)) (hj : rule.judge s r v = none) :
    executeWrite s r pos key v rule = acceptAt s r pos key v rule n := by
  simp [executeWrite, h, hj]

/-- The write takes effect at once. -/
theorem executeWrite_applies {pos : Nat} (h : checkTiming s r pos key v rule = .ok none) (hj : rule.judge s r v = none)
    (hp : rule.pick s v = none) : executeWrite s r pos key v rule = applyWrite s false r key v rule := by
  simp [executeWrite, h, hj, hp]

/-- Without a time of execution there is no check 11. -/
theorem checkTiming_none {pos : Nat} (h : r.toe = .none) : checkTiming s r pos key v rule = .ok none := by
  simp [checkTiming, targetPick, h]

/-- A write admitted at once is the entry's effect, with its status in the answer. -/
theorem submit_atOnce (h : AtOnce s r key v rule) :
    submit s r key v rule = (applyWrite s false (carried r) key v rule).s.reply
      (applyWrite s false (carried r) key v rule).status (applyWrite s false (carried r) key v rule).detail := by
  obtain ⟨⟨hm, hc, hj⟩, ht, hp⟩ := h
  rw [submit_executes hm hc, executeWrite_applies (checkTiming_none ht) hj hp]

/-- Applying a write is the entry's effect, but for the settings format's list (R499), which loses what was written. -/
theorem applyWrite_status (b : Bool) : (applyWrite s b r key v rule).status = (rule.apply s b r v).status := by
  unfold applyWrite; simp only []; split <;> rfl

theorem applyWrite_detail (b : Bool) : (applyWrite s b r key v rule).detail = (rule.apply s b r v).detail := by
  unfold applyWrite; simp only []; split <;> rfl

/-- A write changes beside the entry's effect nothing but the settings format's list. -/
theorem applyWrite_outside (b : Bool) : Outside [.upd] (rule.apply s b r v).s (applyWrite s b r key v rule).s := by
  unfold applyWrite
  simp only []
  split
  · intro p hp; cases p <;> simp at hp ⊢
  · exact .refl _ _

theorem applyWrite_num (b : Bool) (i a : Nat) :
    (applyWrite s b r key v rule).s.num i a = (rule.apply s b r v).s.num i a := by
  unfold applyWrite
  simp only []
  split <;> rfl

end Sys2Proof.Machine
end

