-- ==== Sys2Proof/Tests/Slice0.lean ====
section
/-! SUPPORT. Tests: states that meet the hypotheses of every statement, one for each clause; operands that are not well formed;
single commands whose result the spec fixes. -/

namespace Sys2Proof.Tests
open Sys2Proof Sys2Proof.Machine
set_option linter.unusedVariables false
set_option Elab.async false
set_option maxRecDepth 100000

/-! ### States -/

/-- A served device with one open curator session. -/
def rdy : State :=
  { State.reset with
    pwr := { State.reset.pwr with mgcOn := true }
    cap := { State.reset.cap with phase := .served } } |>.put 0x010010 1 2

/-- A critical write of that session. -/
def wr : Req := { who := .session 0, crit := true, toe := .none, trans := 7 }

/-- A time base that runs, armed. -/
def tbOn (t : Nat) (s : State) : State := s.setTb t fun b => { b with armed := true }

/-- The served device with no session. -/
def quiet : State := rdy.put 0x010010 1 0

/-- The same with the fabric running a design. -/
def running : State := putCfg { rdy with cfg := { rdy.cfg with startPhase := 4, done := true } } csRunning

/-- An open window with one task. -/
def inWindow (k : TaskKind) (o : Nat) (s : State) : State :=
  { s with ruling := { s.ruling with window := true, taskAt := 500, sched := [{ kind := k, obj := o }] } }

/-- A SESSION 0 frame that reads one entry. -/
def readFrame (s : State) (key : Nat) : List Byte :=
  be 2 0x4341 ++ be 1 1 ++ be 1 0 ++ be 2 44 ++ be 2 (s.num 0x010001 3) ++ be 3 (s.num 0x010001 2) ++ be 3 1 ++ be 1 0 ++ be 1 1
    ++ be 4 9 ++ be 16 0 ++ be 1 1 ++ be 1 0 ++ be 4 key ++ be 2 0

/-- What a record sees of the first identity entry. -/
def portSeen : Seen := (seen quiet (ent 0x000002 0)).get (by decide +kernel)

/-- Parameters of a scrub of one granule. -/
def scrub : List Byte := be 4 0 ++ be 4 64 ++ be 2 100

/-- A header that passes its checks: a full load of the bitstream 1. -/
def headerWords (kind frames parent panel : Nat) : List Nat :=
  let w := [syncWordValue, 2 ^ 24 + kind * 2 ^ 16, running.num 0x000003 0, 0, frames, 0, 1, 0, parent, panel, 0, 0, 0, 0, 0]
  w ++ [crc32c (wordBytes w)]

/-- The device with a load on its slave port. -/
def loading (st : Nat) (l : Load) : State := putCfg { rdy with cfg := { rdy.cfg with load := some l } } st
/-- The running device with a load on an ICP. -/
def icpLoading (b : Nat) (l : Load) : State := { running with cfg := { running.cfg with icp := running.cfg.icp.set b (some l) } }

/-- A running device whose next start-up step has a phase. -/
def starting (phase : Nat) : State :=
  putCfg { rdy with cfg := { rdy.cfg with load := some { got := 1, bsid := 7, w3 := 2 }, startAt := some 100, startPhase := phase } }
    csWaitTick

/-- A queue memory that has been written. -/
def queued (x : Queue) : State := { running with fab := { running.fab with queues := [(12287, x)] } }

/-- A ladder word with its check byte. -/
def ladderOf (kind max target rung : Nat) : BitVec 64 :=
  let h := 0x6C1 * 2 ^ 44 + kind * 2 ^ 40 + max * 2 ^ 32 + target * 2 ^ 24 + rung * 2 ^ 16
  BitVec.ofNat 64 (h * 256 + crc8 (be 7 h))

/-- A port in a mode, its sub-port in a state on some lanes. -/
def ported (k mode : Nat) (sp st mask : Nat) (s : State) : State :=
  (((s.put (portIdx k) 1 mode).put (portIdx k) 4 1).put (subIdx (unitOf k sp)) 1 st).put (subIdx (unitOf k sp)) 3 mask

/-- The running device with every engine in service, time base 7 armed, sub-port 40 up and bound to engine 7. -/
def media : State :=
  let s := tbOn 7 { running with tx := { running.tx with svc := List.replicate 8 { pattern := false } } }
  ((ported 5 1 0 spUp 0xFF s).put (bindIdx 40) 1 7).put (essIdx 127) 1 500

/-- Receive flow 4,095 of engine 7 described: sound on leg A, buffered in the archive of bolt 3. -/
def rxDescribed : State :=
  let i := rxIdx 32767
  (([(3, 2), (4, 7), (6, 40), (9, 5000), (0x12, 1000), (0x13, 0x0E000C000000), (0x14, 65536), (0x16, 1), (0x17, 15),
    (0x1F, 24)].foldl (fun s p => s.put i p.1 p.2) media).write (ent i 8) (.oct [239, 0, 0, 1]))

/-- The same enabled. -/
def rxEnabled : State := enableRx 32767 (rxDescribed.put (rxIdx 32767) 1 1)

/-- A packet in its buffer. -/
def rxPacket (q : Nat) : RxPkt :=
  { seq := q, ts := 48, media := 10 ^ 15, rel := 10 ^ 16 + q, leg := 0, arrived := 0, marker := true, payload := List.replicate 6 5,
    line := 0, pixel := 0, field := false, back := true }

/-- The same flow with two packets, filling. -/
def rxBuffered : State :=
  (rxEnabled.setRx 32767 fun x => { x with buf := [rxPacket 9, rxPacket 11], next := 9 }).put (rxIdx 32767) 2 rxFilling

/-- Transmit flow 4,095 of engine 7 described: sound on leg A from the essence port 15. -/
def txDescribed : State :=
  let i := txIdx 32767
  let s := [(3, 2), (4, 7), (6, 40), (0x0B, 5000), (0x0C, 5004), (0x1D, 1), (0x21, 24), (0x24, 1), (0x25, 15)].foldl
    (fun s p => s.put i p.1 p.2) media
  ((s.write (ent i 8) (.oct [1, 2, 3, 4, 5, 6])).write (ent i 9) (.oct [10, 0, 0, 1])).write (ent i 0x0A) (.oct [239, 0, 0, 1])

/-- A sequence number in place of the one drawn. -/
def calm (s : State) : State := (s.setTx 32767 fun x => { x with next := 5 }).put (txIdx 32767) 0x37 5

/-- The same enabled. -/
def txEnabled : State := calm (enableTx 32767 (txDescribed.put (txIdx 32767) 1 1))

/-- A packet that waits. -/
def txPacket : TxPkt :=
  { since := 10 ^ 16, media := 10 ^ 15, ts := 48, marker := true, payload := List.replicate 6 5, src := 5 }

/-- Shuttle 511 runs and stands at an instruction. -/
def shuttleAt (i : ShInstr) (x : Shuttle) : State :=
  (rdy.put (shIdx 511) 1 shRunning).setSh 511 fun _ => { x with pm := [(x.pc, encodeShuttle i)], words := 4096 }

/-- Its registers, with values in them. -/
def busy : Shuttle :=
  { pc := 4095, w := (List.range 16).map fun k => 2 ^ 48 - 3 * k - 1, a := [2 ^ 111 - 1, 2 ^ 111, 5, 7], m := List.replicate 8 3,
    p := (List.range 8).map (16 * ·), scl := 3, aPrev := [9, 2 ^ 111 - 1, 2, 1], ci := 77, dm := [(0, 5), (16, 6), (16383, 8)], cycles := 40 }

/-- An access that is not made, and no load. -/
def idle : MemAccess := { en := 0, dir := 0, reg := 0, ptr := 0, md := 0, mode := 0 }
def noLoad : QLoad := { en := 0, reg := 0, ptr := 0, mode := 0 }
def mac (op acc ra rb : Nat) : MacSlot := { op := op, acc := acc, ra := ra, rb := rb }

/-- A program image of one word and one entry. -/
def imageOf (w : Nat) : List Byte :=
  let b := be 4 0x4A534831 ++ be 2 1 ++ be 2 1 ++ be 1 1 ++ be 1 0 ++ be 2 0 ++ be 4 9 ++ (be 2 0 ++ be 2 0 ++ be 4 40)
    ++ List.replicate 56 0 ++ List.replicate 32 0 ++ List.replicate 16 0 ++ be 8 w
  b ++ be 4 (crc32c b)

/-- Shuttle 511 with an image, idle. -/
def imaged : State := (rdy.put (shIdx 511) 1 1).setSh 511 fun x => { x with image := imageOf 5, words := 1, pm := [(0, 5)] }

/-- Key slot 15, active with integrity over the first 256 KiB, its first leaf cached. -/
def slotted (st : Nat) : State :=
  let i := slIdx 15
  let s := [(0x0A0000, 1, 1), (0x0A0100, 2, 1), (0x0A0100, 3, 8)].foldl (fun s p => s.put p.1 p.2.1 p.2.2) running
  let s := [(1, st), (2, 1), (3, 1), (4, 0), (5, 2 ^ 18), (6, 2 ^ 20)].foldl (fun s p => s.put i p.1 p.2) s
  let s := s.setSlot 15 fun x => { x with keys := some { scr := 1, tag := 2 }, newKeys := some { scr := 3, tag := 4 }, top := 7 :: List.replicate 64 1 }
  cacheNode s 15 0 0 5 (List.replicate 64 3) false
def guardedReq (kind : Nat) : NocPkt := { kind := kind, init := 5, tag := 9, addr := 15 * 2 ^ 44 + 64, data := List.replicate 64 1 }
/-- The same with the line 1 written. -/
def sealed : State := sealLine (slotted slActive) 15 64 { scr := 1, tag := 2 } 5 3 (List.replicate 64 7)

theorem ok_of {ε α} (x : Except ε α) (d : α) (h : (match x with | .ok _ => true | .error _ => false) = true) :
    x = .ok (match x with | .ok a => a | .error _ => d) :=
  match x, h with | .ok _, _ => rfl

/-- What a computation answers, where it answers. -/
def okOr {ε α : Type} (x : Except ε α) (d : α) : α := match x with | .ok a => a | .error _ => d
theorem ok_pair_of {ε α β : Type} (x : Except ε (α × β)) (d : α × β)
    (h : (match x with | .ok _ => true | .error _ => false) = true) : x = .ok ((okOr x d).1, (okOr x d).2) :=
  match x, h with | .ok _, _ => rfl

theorem barred_of {s : State} {p : NocPkt} (k : Nat) (h : packetAccess s p = .barred k) : ∀ j, packetAccess s p ≠ .guarded j :=
  fun j e => nomatch h.symm.trans e

/-- A session with a key, and a key of 32 bytes wrapped for it. -/
def keyed : State := rdy.setSes 0 fun x => { x with kH2d := List.replicate 32 3 }
def wrapped : List Byte := be 40 0x526b70d22e7b76088e09b3b31ec4bf2f9d3b1f0e0e7db9c2c2e2489808cc937c393e854c7131cd98

theorem keyed_keyOf : keyOf keyed wr wrapped = .ok (List.replicate 32 1) := by decide +kernel

theorem checkWrite_none_of {s : State} {r : Req} {key : Nat} {v : Val} {rule : Rule} (hc : rule.check s r v = none)
    (h : checkWrite s r key v { rule with check := fun _ _ _ => none } = none) : checkWrite s r key v rule = none := by
  unfold checkWrite at h ⊢
  simp only [hc]
  exact h

theorem keyCheck_none_of {s : State} {r : Req} {b k : List Byte} (h : keyOf s r b = .ok k) : keyCheck s r (.oct b) = none := by
  unfold keyCheck valBytes
  simp only [h]

theorem keyed_atOnce : AtOnce keyed wr (ent (gkIdx 15) 3) (.oct wrapped) (groupKeyRule 15) := by
  unfold AtOnce Passes
  rw [show carried wr = wr from rfl]
  refine ⟨⟨by decide +kernel, checkWrite_none_of ?_ (by decide +kernel), rfl⟩, rfl, rfl⟩
  dsimp only [groupKeyRule]
  exact keyCheck_none_of keyed_keyOf

/-- A channel online with ranks, and requests in its queue. -/
def online (c : Nat) (q : List NocPkt) (s : State) : State :=
  let rs : List Rank := [{ dueAt := 900, rows := [(1, 5)] }, { dueAt := 1000, debt := 8 }]
  (s.put (mchIdx c) 1 mcOnline).setMch c fun x => { x with queue := q, queuedAt := q.map (fun _ => 0), ranks := rs }

theorem halts_of {α} (x : Except Trouble α) (t : Trouble)
    (h : (match x with | .ok _ => false | .error e => decide (e = t)) = true) : x = .error t :=
  match x, h with | .error _, h => congrArg _ (of_decide_eq_true h)

/-- A datagram to port A of the link-local address. -/
def dgram (b : List Byte) : Datagram :=
  { srcIp := List.replicate 16 1, srcUdp := 5000, dstIp := linkLocal quiet 0, dstUdp := 50110, bytes := b }

theorem taken_given {s : State} {port : LoadPort} {l : Load} {n : Nat} {ws : List Nat} (h : l.byMgc = none) (h' : ws.length = n) :
    Taken s port l n ws ws s l := Or.inl ⟨h, h', rfl, rfl, rfl⟩

/-- A load by the MGC from the archive of bolt 0, which holds a word at its place. -/
def mgcSource (l : Load) (w : Nat) : State :=
  let s := putNi (((icpLoading 3 l).put (opIdx 63) 5 opRunning).put (opIdx 63) 1 1) 0x20 niOnline
  s.store 0x0E0000000000 (be 4 w)

theorem taken_read {s : State} {port : LoadPort} {l : Load} {n : Nat} {given ws : List Nat} (b : List Byte)
    (h : l.byMgc.isSome = true) (h' : l.off + 4 * n ≤ l.len)
    (hb : (fetchRead s 0x04C (l.src + l.off) (4 * n)).2 = some b) (hw : ws = (List.range n).map fun i => fieldBE b (4 * i) 4) :
    Taken s port l n given ws ((fetchRead s 0x04C (l.src + l.off) (4 * n)).1.setLoad port (some { l with off := l.off + 4 * n }))
      { l with off := l.off + 4 * n } := Or.inr ⟨h, h', rfl, rfl, b, hb, hw⟩

/-- A channel on which the wire of check 7 alone is sound, and what it must carry for check 7 to differ. -/
def loneWire (st : Nat) (marks : List Nat) : State :=
  (rdy.put (chIdx 255) 1 st).setChan 255 fun x => { x with failed := List.range 535, mismatches := marks }
def loneWires (cycle : Nat) : BitVec 536 :=
  if Config.whiten 255 535 cycle then 0#536 else BitVec.ofNat 536 (2 ^ 535)

theorem lone_chan (st : Nat) (marks : List Nat) :
    (loneWire st marks).chan 255 = { failed := List.range 535, mismatches := marks } := rfl

theorem lone_plain (st : Nat) (marks : List Nat) (cycle w : Nat) (h : w < 536) :
    plainWire ((loneWire st marks).chan 255) 255 cycle (loneWires cycle) w = (w == 535) := by
  unfold plainWire
  rw [lone_chan]
  simp only [Nat.sub_zero]
  by_cases e : w = 535
  · subst e
    have : List.contains (List.range 535) 535 = false := by decide +kernel
    have ht : (BitVec.ofNat 536 (2 ^ 535)).getLsbD 535 = true := by decide +kernel
    rw [this, loneWires]
    cases Config.whiten 255 535 cycle
    · simp only [Bool.false_eq_true, if_false]
      rw [ht]; rfl
    · simp
  · have : List.contains (List.range 535) w = true := by simp only [List.contains_iff_mem, List.mem_range]; omega
    rw [this]
    simp [e]

theorem lone_mismatching (st : Nat) (marks : List Nat) (cycle : Nat) :
    mismatching ((loneWire st marks).chan 255) 255 cycle (loneWires cycle) = [7] := by
  have hd : ∀ k, ((loneWire st marks).chan 255).dutyWire k = 528 + k := fun k => by rw [lone_chan]; rfl
  have hc : ∀ k, k < 8 → ∀ w ∈ covered k, w < 536 := by decide +kernel
  have hp : ∀ k ∈ List.range 8, ((((covered k).filter fun w => w != ((loneWire st marks).chan 255).dutyWire k &&
      plainWire ((loneWire st marks).chan 255) 255 cycle (loneWires cycle) w).length % 2 == 1) !=
      plainWire ((loneWire st marks).chan 255) 255 cycle (loneWires cycle) (((loneWire st marks).chan 255).dutyWire k)) =
      ((((covered k).filter fun w => w != 528 + k && w == 535).length % 2 == 1) != (528 + k == 535)) := by
    intro k hk
    have hk : k < 8 := by simpa using hk
    rw [hd k, lone_plain st marks cycle _ (by omega), List.filter_congr fun w hw => by
      rw [lone_plain st marks cycle w (hc k hk w hw)]]
  unfold mismatching
  rw [List.filter_congr hp]
  decide +kernel

/-- An Ethernet frame that carries a PTP Sync. -/
def ptpFrame : List Byte := List.replicate 12 2 ++ be 2 0x88F7 ++ be 1 0x10 ++ be 1 2 ++ List.replicate 42 0

/-- Two routers in a row: link 0 joins port 2 of router 0 to port 3 of router 1, and both route every packet onwards. -/
def wired (s : State) : State :=
  let ends := (List.range 160).flatMap fun l =>
    [(ent (linkIdx l) 1, Val.num (if l = 0 then 2 else 767)), (ent (linkIdx l) 2, Val.num (if l = 0 then 11 else 767))]
  let low := fun e : Nat × Val => decide (e.1 < ent 0x090200 0)
  { s with cat := s.cat.filter low ++ ends ++ s.cat.filter fun e => !low e }
    |>.putOct 0x090011 0 (List.replicate 1280 0x50 ++ List.replicate 1280 0x90)
def twoHops : List Hop := [{ router := 0, inPort := 1, outPort := 2 }, { router := 1, inPort := 3, outPort := 4 }]

/-- The state with which a way ends. -/
def wayEnd (x : Travel) (d : State) : State := match x with | .through s => s | .stopped s => s | .held => d
theorem held_of (x : Travel) (h : (match x with | .held => true | _ => false) = true) : x = .held := by
  cases x <;> first | rfl | exact nomatch h
theorem through_of (x : Travel) (d : State) (h : (match x with | .through _ => true | _ => false) = true) :
    x = .through (wayEnd x d) := by cases x <;> first | rfl | exact nomatch h
theorem stopped_of (x : Travel) (d : State) (h : (match x with | .stopped _ => true | _ => false) = true) :
    x = .stopped (wayEnd x d) := by cases x <;> first | rfl | exact nomatch h

/-! ### The hypotheses of the statements are met -/

/-- The hypotheses of `Obligations.StepRunsTheFrontCommand` are met. -/
theorem met_stepRunsTheFrontCommand :
    ∃ (c : Instr) (rest : List Instr) (s : State), s.pending = c :: rest :=
  ⟨.eventRecord, [], { rdy with pending := [.eventRecord] }, by decide +kernel⟩

/-- The hypotheses of `Obligations.EmptyQueueLetsOneCyclePass` are met. -/
theorem met_emptyQueueLetsOneCyclePass :
    ∃ (s : State), s.pending = [] :=
  ⟨tbOn 1 rdy, by decide +kernel⟩

/-- The hypotheses of `Obligations.BoundaryIsTheFirstCycleAtOrAfter` are met. -/
theorem met_boundaryIsTheFirstCycleAtOrAfter :
    ∃ b : TimeBase, b.setPend = none ∧ 0 < b.inc ∧ (b.slewLeft = 0 ∨ 0 < b.slewInc) :=
  ⟨{}, by decide +kernel⟩

/-- The hypotheses of `Obligations.PickBoundaryOpensThePick` are met. -/
theorem met_pickBoundaryOpensThePick :
    ∃ (s : State) (t : Fin 8), (s.tb t).armed = true ∧ t.val ≠ s.rulingTb ∧ s.ruling.newRuling ≠ some t.val ∧
      (s.tb t).want = none ∧ (∀ c ∈ s.ruling.timed, ¬(c.tb = t.val ∧ c.pick = (s.tb t).high)) ∧
      (∀ d, d < 8 → (s.dom d).stepAt = none) ∧ MgcIdle s :=
  ⟨tbOn 1 rdy, 1, by unfold MgcIdle; decide +kernel⟩

/-- The hypotheses of `Obligations.RulingBoundaryOpensTheWindow` are met. -/
theorem met_rulingBoundaryOpensTheWindow :
    ∃ (s : State) (t : Fin 8), (s.tb t).armed = true ∧ t.val = s.rulingTb ∧ s.ruling.newRuling = none ∧
      (s.tb t).want = none ∧ s.ruling.window = false ∧ s.upd.revert = false ∧ s.ruling.untimed = [] ∧
      (∀ c ∈ s.ruling.timed, ¬(c.tb = t.val ∧ c.pick = (s.tb t).high)) ∧ MgcIdle s :=
  ⟨tbOn 0 rdy, 0, by unfold MgcIdle; decide +kernel⟩

/-- The hypotheses of `Obligations.BeatsStartsAndCompareInstants` are met, those of each clause. -/
theorem met_beatsStartsAndCompareInstants :
    (∃ (s : State) (t : Fin 8), (s.tb t).armed = true ∧ (s.tb t).opened = true ∧ (s.tb t).beat + 1 < (s.tb t).cur.beats) ∧
    (∃ (s : State) (x : StartRel) (r : List StartRel), s.ruling.releases = x :: r) ∧
    (∃ (s : State) (k : Fin 64) (x : Nat), (s.trig k).next = some x ∧ (s.tb (s.num (trigIdx k) 2)).armed = true) :=
  ⟨⟨rdy.setTb 7 fun b => { b with armed := true, opened := true, cur := { num := 50, den := 1, beats := 2 } }, 7,
    by decide +kernel⟩,
   ⟨{ rdy with ruling := { rdy.ruling with releases := [{ due := 128 }] } }, { due := 128 }, [], by decide +kernel⟩,
   ⟨(tbOn 0 rdy).setTrig 63 fun u => { u with next := some 1000 }, 63, 1000, by decide +kernel⟩⟩

/-- The hypotheses of `Obligations.SelvageTasksTakeTheirSlots` are met, those of each clause. -/
theorem met_selvageTasksTakeTheirSlots :
    (∃ (s : State) (k : Task) (rest : List Task), s.ruling.window = true ∧ s.noc.swapDue = false ∧
      s.ruling.sched = k :: rest ∧ k.kind = .firmware ∧ k.obj = 0 ∧ s.sgState = sgArmed ∧ s.upd.prepared = true) ∧
    (∃ (s : State) (k : Task) (rest : List Task) (c : Fin 256), s.ruling.window = true ∧ s.noc.swapDue = false ∧
      s.ruling.sched = k :: rest ∧ k.kind = .seamChan ∧ k.obj = c.val ∧ s.num (chIdx c) 3 = 2 ∧
      (fullUse (s.chan c).failed).isSome = true) ∧
    (∃ (s : State) (k : Task) (rest : List Task) (l : Fin 160), s.ruling.window = true ∧ s.noc.swapDue = false ∧
      s.ruling.sched = k :: rest ∧ k.kind = .nocLink ∧ k.obj = l.val ∧ s.num (linkIdx l) 5 = 2) ∧
    (∃ (s : State) (k : Task) (rest : List Task) (e : Fin 8), s.ruling.window = true ∧ s.noc.swapDue = false ∧
      s.ruling.sched = k :: rest ∧ k.kind = .engine ∧ k.obj = e.val ∧ s.service e = svReady) ∧
    (∃ (s : State) (k : Task) (rest : List Task) (c : Fin 64), s.ruling.window = true ∧ s.noc.swapDue = false ∧
      s.ruling.sched = k :: rest ∧ k.kind = .cluster ∧ k.obj = c.val ∧ readyShuttles s c ≠ []) ∧
    (∃ (s : State) (k : Task) (rest : List Task) (c : Fin 256) (w d : Nat) (ws : List Nat), s.ruling.window = true ∧
      s.noc.swapDue = false ∧ s.ruling.sched = k :: rest ∧ k.kind = .mend ∧ k.obj = c.val ∧ (s.chan c).darnShadow = w :: ws
      ∧ (s.chan c).darnFor w = some d ∧ (s.chState c = chFull ∨ s.chState c = chNarrowed)) ∧
    (∃ (s : State) (k : Task) (rest : List Task) (p : Fin 64), s.ruling.window = true ∧ s.noc.swapDue = false ∧
      s.ruling.sched = k :: rest ∧ k.kind = .hem ∧ k.obj = p.val ∧ s.panel p = pnPending) :=
  ⟨⟨(inWindow .firmware 0 (putSg rdy sgArmed)).setUpd fun u => { u with prepared := true }, { kind := .firmware }, [],
    by decide +kernel⟩,
   ⟨inWindow .seamChan 255 (rdy.put (chIdx 255) 3 2), { kind := .seamChan, obj := 255 }, [], 255, by decide +kernel⟩,
   ⟨inWindow .nocLink 159 (rdy.put (linkIdx 159) 5 2), { kind := .nocLink, obj := 159 }, [], 159, by decide +kernel⟩,
   ⟨inWindow .engine 7 (rdy.put (svcIdx 7) 1 svReady), { kind := .engine, obj := 7 }, [], 7, by decide +kernel⟩,
   ⟨inWindow .cluster 63 ((rdy.put (shIdx 511) 1 shFailed).put (shIdx 511) 0x16 1), { kind := .cluster, obj := 63 }, [],
     63, by decide +kernel⟩,
   ⟨inWindow .mend 0 ((rdy.put (chIdx 0) 1 chFull).setChan 0 fun x => { x with darnShadow := [5], predicted := [5] }),
     { kind := .mend }, [], 0, 5, 512, [], by decide +kernel⟩,
   ⟨inWindow .hem 63 (putPanel rdy 63 pnPending), { kind := .hem, obj := 63 }, [], 63, by decide +kernel⟩⟩

/-- The hypotheses of `Obligations.WindowAndSelvagePinPhases` are met, those of each clause. -/
theorem met_windowAndSelvagePinPhases :
    (∃ (s : State) (c : TimedCmd) (e : Nat), s.ruling.window = true ∧ s.noc.swapDue = false ∧ s.ruling.sched = [] ∧
      takeEngine c.key = some e ∧ s.ruling.timed.filter (takeDue s.rulingTb (s.pick s.rulingTb)) = [c]) ∧
    (∃ (s : State), s.ruling.window = true ∧ s.noc.swapDue = false ∧ s.ruling.sched = [] ∧
      s.ruling.timed.filter (takeDue s.rulingTb (s.pick s.rulingTb)) = []) ∧
    (∃ (s : State), s.ruling.window = true ∧ s.fab.phase = 1) ∧
    (∃ (s : State) (levels brief : BitVec 64), s.ruling.window = true ∧ s.selvageOn = true) ∧
    (∃ (s : State), s.fab.phase = 3) :=
  ⟨⟨{ rdy with ruling := { rdy.ruling with window := true, taskAt := 500, timed := [{ tb := 0, pick := 0, key := ent 0x074000 0, val := .oct (List.replicate 30 0) }] } },
    { tb := 0, pick := 0, key := ent 0x074000 0, val := .oct (List.replicate 30 0) }, 0, by decide +kernel⟩,
   ⟨{ rdy with ruling := { rdy.ruling with window := true, taskAt := 500 } }, by decide +kernel⟩,
   ⟨{ rdy with ruling := { rdy.ruling with window := true }, fab := { rdy.fab with phase := 1 } }, by decide +kernel⟩,
   ⟨{ running.put (pinIdx 63) 1 2 with ruling := { running.ruling with window := true } }, 0x8000000000000000#64, 1#64,
     by decide +kernel⟩,
   ⟨{ rdy with fab := { rdy.fab with phase := 3 } }, by decide +kernel⟩⟩

/-- The hypotheses of `Obligations.RulingSelectionAndWindowLength` are met, those of each clause. -/
theorem met_rulingSelectionAndWindowLength :
    (∃ (s : State) (r : Req) (v : Nat), AtOnce s r (ent 0x030000 1) (.num v) rulingRule) ∧
    (∃ (s : State) (r : Req) (v : Nat), AtOnce s r (ent 0x030000 2) (.num v) windowRule) :=
  ⟨⟨rdy, wr, 3, by unfold AtOnce Passes; decide +kernel⟩,
   ⟨rdy, wr, 64, by unfold AtOnce Passes; decide +kernel⟩⟩

/-- The hypotheses of `Obligations.CapFramesAnswerOrAreDiscarded` are met, those of each clause. -/
theorem met_capFramesAnswerOrAreDiscarded :
    (∃ (s : State) (port : MgtPort) (d : Datagram) (key : Nat) (x : Seen), Arrives s port d ∧ MgcIdle s ∧
      (s.cap.phase = .unsealed ∨ s.cap.phase = .served) ∧ wellFormedFrame d.bytes = true ∧ fMcast d.bytes = false ∧
      fSession d.bytes = 0 ∧ fCrit d.bytes = false ∧ fAtomic d.bytes = false ∧ fToe d.bytes = .none ∧
      fDomain d.bytes = s.num 0x010001 3 ∧ fDest d.bytes = s.num 0x010001 2 ∧ s.num 0x100000 0x0D = 0 ∧
      cachedFor s (received port d) = none ∧ (∀ n, n < 8 → s.sesState n = 0) ∧ s.cap.staged = [] ∧
      bucketHint (refill s) d.bytes = none ∧ fRecs d.bytes = some [{ op := 1, rflags := 0, key := key, value := [] }] ∧
      key / 256 ≤ 0x00FFFF ∧ seen s key = some x ∧ x.field.acc ≠ .wo ∧ x.priv = false ∧ x.field.ty ≠ .octets ∧
      50 + (readBytes s key).length ≤ 8192) ∧
    (∃ (s : State) (port : MgtPort) (d : Datagram), Arrives s port d ∧ MgcIdle s ∧ s.cap.phase ≠ .off ∧
      s.cap.phase ≠ .booting ∧ wellFormedFrame d.bytes = false) ∧
    (∃ (s : State) (port : MgtPort) (d : Datagram), (s.cap.phase = .off ∨ s.cap.phase = .booting)) :=
  ⟨⟨quiet, .mgtA, dgram (readFrame quiet (ent 0x000002 0)), ent 0x000002 0, portSeen,
    by unfold Arrives MgcIdle; decide +kernel⟩,
   ⟨quiet, .mgtA, dgram [0], by unfold Arrives MgcIdle; decide +kernel⟩,
   ⟨State.reset, .mgtA, dgram [0], by decide +kernel⟩⟩

/-- The hypotheses of `Obligations.CapTimersEndWhatTheyTime` are met, those of each clause. -/
theorem met_capTimersEndWhatTheyTime :
    (∃ (s : State) (who : Who) (key : Nat) (x : Staged),
      (s.cap.staged.find? (fun y => y.who = who ∧ y.key = key) = some x)) ∧
    (∃ (s : State) (n : Fin 8) (trans : Nat) (x : CachedResp), (s.ses n).cache.find? (fun y => y.trans = trans) = some x) ∧
    (∃ (s : State) (trans : Nat) (x : CachedResp), s.cap.cache0.find? (fun y => y.trans = trans) = some x) ∧
    (∃ (s : State) (g : Fin 16) (trans : Nat) (d : DupMark),
      (s.cap.dups.find? (fun y => y.group = g.val ∧ y.trans = trans) = some d)) ∧
    (∃ (s : State) (g : Fin 16) (trans : Nat) (a : McastAnswer),
      (s.cap.answers.find? (fun y => y.group = g.val ∧ y.trans = trans) = some a)) :=
  ⟨⟨{ rdy with cap := { rdy.cap with staged := [{ who := .session 0, key := 5 }] } }, .session 0, 5,
    { who := .session 0, key := 5 }, by decide +kernel⟩,
   ⟨rdy.setSes 7 fun x => { x with cache := [{ trans := 9 }] }, 7, 9, { trans := 9 }, by decide +kernel⟩,
   ⟨{ rdy with cap := { rdy.cap with cache0 := [{ trans := 9 }] } }, 9, { trans := 9 }, by decide +kernel⟩,
   ⟨{ rdy with cap := { rdy.cap with dups := [{ group := 15, trans := 9 }] } }, 15, 9, { group := 15, trans := 9 },
     by decide +kernel⟩,
   ⟨{ rdy with cap := { rdy.cap with answers := [{ group := 15, trans := 9, due := 100, frame := { bytes := [1] } }] } },
     15, 9, { group := 15, trans := 9, due := 100, frame := { bytes := [1] } }, by decide +kernel⟩⟩

/-- The hypotheses of `Obligations.BridgeRequestsComplete` are met, those of each clause. -/
theorem met_bridgeRequestsComplete :
    (∃ (s : State) (r : BridgeReq) (b : Fin 4) (taken : Nat) (v : PortValue), s.cap.bridge = some r ∧ r.who = .client b ∧
      r.write = false ∧ r.restore = false ∧ r.cmd = none ∧ s.cap.bridgeQueue = [] ∧ MgcIdle s ∧ s.pwr.halted = false ∧
      s.now ≤ takenAt s r taken + bridgeNs s) ∧
    (∃ (s : State) (r : BridgeReq) (b : Fin 4) (taken : Nat), s.cap.bridge = some r ∧ r.who = .client b ∧ r.restore = false
      ∧ r.cmd = none ∧ s.cap.bridgeQueue = [] ∧ MgcIdle s) ∧
    (∃ (s : State) (b : Fin 4) (key : Nat) (v : PortValue), s.clocksRun = true ∧ clientBusy s b = false ∧ MgcIdle s ∧
      (s.cap.phase = .unsealed ∨ s.cap.phase = .served) ∧ s.num 0x100000 0x0D = 0 ∧ isUser key = false ∧ recordCheck s
      { who := .client b, crit := false, toe := .none, trans := 0 } false
      { op := opRead, rflags := 0, key := key, value := [] } key = none) :=
  ⟨⟨{ running with cap := { running.cap with bridge := some { who := .client 3, key := ent 0x120000 1 } } },
    { who := .client 3, key := ent 0x120000 1 }, 3, 2, { len := 2, words := [0x0102000000000000#64] },
    by unfold MgcIdle; decide +kernel⟩,
   ⟨{ running with cap := { running.cap with bridge := some { who := .client 3, key := ent 0x120000 1 } } },
     { who := .client 3, key := ent 0x120000 1 }, 3, 2, by unfold MgcIdle; decide +kernel⟩,
   ⟨running, 3, ent 0x010001 1, { len := 2, words := [0x0102000000000000#64] }, by unfold MgcIdle; decide +kernel⟩⟩

/-- The hypotheses of `Obligations.SessionsEnd` are met, those of each clause. -/
theorem met_sessionsEnd :
    (∃ (s : State) (n : Fin 8), s.sesState n = 1) ∧
    (∃ (s : State) (n : Fin 8), sesOpen s n = true) ∧
    (∃ (s : State) (r : Req) (n : Fin 8), AtOnce s r (ent (sesIdx n) 9) (.num 1) (forceCloseRule n) ∧ sesOpen s n = true) ∧
    (∃ (s : State) (n : Fin 8), sesOpen s n = true ∧ s.num (sesIdx n) 6 = 2 ^ 64 - 1) :=
  ⟨⟨rdy.put (sesIdx 7) 1 1, 7, by decide +kernel⟩,
   ⟨rdy, 0, by decide +kernel⟩,
   ⟨rdy.put (sesIdx 7) 1 2, wr, 7, by unfold AtOnce Passes; decide +kernel⟩,
   ⟨(rdy.put (sesIdx 7) 1 2).put (sesIdx 7) 6 (2 ^ 64 - 1), 7, by decide +kernel⟩⟩

/-- The hypotheses of `Obligations.KeysAndGalleriesAreWritten` are met, those of each clause. -/
theorem met_keysAndGalleriesAreWritten :
    (∃ (s : State) (r : Req) (k : Fin 16) (b key : List Byte), AtOnce s r (ent (hkIdx k) 3) (.oct b) (hostKeyRule k) ∧
      keyOf s r b = .ok key) ∧
    (∃ (s : State) (b key : List Byte), AtOnce s { who := .service, crit := false, toe := .none, trans := 0 } (ent (hkIdx
      0) 3) (.oct b) (hostKeyRule 0) ∧ keyOf s { who := .service, crit := false, toe := .none, trans := 0 } b = .ok key) ∧
    (∃ (s : State) (r : Req) (k : Fin 16) (v : Nat), AtOnce s r (ent (hkIdx k) 5) (.num v) (keyEnableRule k)) ∧
    (∃ (s : State) (r : Req) (g : Fin 16) (b key : List Byte), AtOnce s r (ent (gkIdx g) 3) (.oct b) (groupKeyRule g) ∧
      keyOf s r b = .ok key) ∧
    (∃ (s : State) (r : Req) (q : Fin 256) (sub : Fin 5) (b : List Byte),
      AtOnce s r (ent (rgIdx q) sub) (valueOf (ent (rgIdx q) sub) b) (rangeRule q sub)) :=
  ⟨⟨quiet, { who := .service, crit := false, toe := .none, trans := 0 }, 0, List.replicate 32 1, List.replicate 32 1,
    by unfold AtOnce Passes; decide +kernel⟩,
   ⟨quiet, List.replicate 32 1, List.replicate 32 1, by unfold AtOnce Passes; decide +kernel⟩,
   ⟨rdy.put (hkIdx 15) 1 1, wr, 15, 0, by unfold AtOnce Passes; decide +kernel⟩,
   ⟨keyed, wr, 15, wrapped, List.replicate 32 1, keyed_atOnce, keyed_keyOf⟩,
   ⟨rdy, wr, 255, 1, be 4 0x050000, by unfold AtOnce Passes; decide +kernel⟩⟩

/-- The hypotheses of `Obligations.EventsAreRecordedAndDelivered` are met, those of each clause. -/
theorem met_eventsAreRecordedAndDelivered :
    (∃ (s : State) (r : EvRec) (q : List EvRec), s.mgmt.queue = r :: q) ∧
    (∃ (s : State) (n : Fin 8), sesOpen s n = true ∧ (s.ses n).notes ≠ [] ∧ s.num (sesIdx n) 6 ≠ 2 ^ 64 - 1) ∧
    (∃ (s : State) (b : Fin 4) (num : BitVec 8) (xlen : BitVec 6) (data : List Byte), s.fabricRuns = true ∧
      s.pwr.halted = false ∧ (s.mgmt.fabQueues.getD b []).length < 16) ∧
    (∃ (s : State) (b : Fin 4) (x : FabRaise) (q : List FabRaise), s.mgmt.fabQueues.getD b [] = x :: q ∧ x.num < 256) ∧
    (∃ (s : State) (b : Fin 4) (line : Fin 64), (s.freshBits (ent (0x0E0200 + b) 1)).testBit line = false) ∧
    (∃ (s : State) (b : Fin 4) (line : Fin 64) (raised : Bool),
      (raised = true ∨ (s.freshBits (ent (0x0E0200 + b) 1)).testBit line = true)) :=
  ⟨⟨{ rdy with mgmt := { rdy.mgmt with queue := [{ num := 0x010, seq := 65536 }], markLost := true } },
    { num := 0x010, seq := 65536 }, [], by decide +kernel⟩,
   ⟨rdy.setSes 0 fun x => { x with notes := [{ num := 0x010 }] }, 0, by decide +kernel⟩,
   ⟨running, 3, 255#8, 63#6, List.replicate 32 7, by decide +kernel⟩,
   ⟨{ rdy with mgmt := { rdy.mgmt with fabQueues := [[{ num := 255 }], [], [], []] } }, 0, { num := 255 }, [],
     by decide +kernel⟩,
   ⟨rdy.put 0x0E0203 1 (2 ^ 63), 3, 63, by decide +kernel⟩,
   ⟨rdy, 3, 63, true, by decide +kernel⟩⟩

/-- The hypotheses of `Obligations.LongOperationsTakeTheirControls` are met, those of each clause. -/
theorem met_longOperationsTakeTheirControls :
    (∃ (s : State) (r : Req) (k : Fin 64) (kind target : Nat) (params : List Byte),
      AtOnce s r (ent (opIdx k) 0) (slotRecord kind target params 1) (slotRule k 0) ∧ kind < 256 ∧ target < 2 ^ 32 ∧
      params.length < 65536) ∧
    (∃ (s : State) (r : Req) (k : Fin 64), AtOnce s r (ent (opIdx k) 4) (.num 2) (slotRule k 4)) ∧
    (∃ (s : State) (r : Req) (k : Fin 64), AtOnce s r (ent (opIdx k) 4) (.num 3) (slotRule k 4) ∧ (s.op k).begun = true ∧
      targetInUse s (s.opKind k) (s.opTarget k) true = false) ∧
    (∃ (s : State) (r : Req) (k : Fin 64), AtOnce s r (ent (opIdx k) 4) (.num 4) (slotRule k 4)) ∧
    (∃ (s : State) (r : Req) (k : Fin 64), AtOnce s r (ent (opIdx k) 4) (.num 5) (slotRule k 4) ∧
      terminal (s.opState k) = true) :=
  ⟨⟨rdy, wr, 63, 3, 0x0A0200, scrub, by unfold AtOnce Passes; decide +kernel⟩,
   ⟨((((rdy.put (opIdx 63) 5 opRunning).put (opIdx 63) 1 3).put (opIdx 63) 2 0x0A0200).setOp 63 fun x =>
     { x with begun := true }), wr, 63, by unfold AtOnce Passes; decide +kernel⟩,
   ⟨((((rdy.put (opIdx 63) 5 opSuspended).put (opIdx 63) 1 3).put (opIdx 63) 2 0x0A0200).setOp 63 fun x =>
     { x with begun := true }), wr, 63, by unfold AtOnce Passes; decide +kernel⟩,
   ⟨((((rdy.put (opIdx 63) 5 opRunning).put (opIdx 63) 1 3).put (opIdx 63) 2 0x0A0200).setOp 63 fun x =>
     { x with begun := true }), wr, 63, by unfold AtOnce Passes; decide +kernel⟩,
   ⟨((((rdy.put (opIdx 63) 5 opDone).put (opIdx 63) 1 3).put (opIdx 63) 2 0x0A0200).setOp 63 fun x =>
     { x with begun := true }), wr, 63, by unfold AtOnce Passes; decide +kernel⟩⟩

/-- The hypotheses of `Obligations.LongOperationsReachTheirEnds` are met, those of each clause. -/
theorem met_longOperationsReachTheirEnds :
    (∃ (s : State) (k : Fin 64), s.opState k = opQueued ∧ targetInUse s (s.opKind k) (s.opTarget k) (s.op k).begun = false
      ∧ ((s.op k).begun = true ∨ s.opKind k = 3 ∨ s.opKind k = 5 ∨ s.opKind k = 7)) ∧
    (∃ (s : State) (k : Fin 64), s.opState k = opSuspending) ∧
    (∃ (s : State) (k : Fin 64) (data : List Byte), s.opState k = opRunning) ∧
    (∃ (s : State) (k : Fin 64) (data : List Byte), justControlled s k = true ∧ (s.opKind k = 3 ∨ s.opKind k = 4)) ∧
    (∃ (s : State) (k : Fin 64), s.opState k = opCancelling) ∧
    (∃ (s : State) (k : Fin 64) (status detail : Nat), s.opState k = opRunning ∧ status ≠ stOk ∧
      (s.opKind k = 3 ∨ s.opKind k = 5 ∨ s.opKind k = 9)) :=
  ⟨⟨((((rdy.put (opIdx 63) 5 opQueued).put (opIdx 63) 1 3).put (opIdx 63) 2 0x0A0200).setOp 63 fun x =>
    { x with begun := true }), 63, by decide +kernel⟩,
   ⟨((((rdy.put (opIdx 63) 5 opSuspending).put (opIdx 63) 1 3).put (opIdx 63) 2 0x0A0200).setOp 63 fun x =>
     { x with begun := true }), 63, by decide +kernel⟩,
   ⟨((((rdy.put (opIdx 63) 5 opRunning).put (opIdx 63) 1 3).put (opIdx 63) 2 0x0A0200).setOp 63 fun x =>
     { x with begun := true }), 63, [], by decide +kernel⟩,
   ⟨((((((rdy.put (opIdx 63) 5 opCancelling).put (opIdx 63) 1 3).put (opIdx 63) 2 0x0A0200).setOp 63 fun x =>
     { x with begun := true })).setOp 63 fun x => { x with ctlAt := some 0 }), 63, [], by decide +kernel⟩,
   ⟨((((rdy.put (opIdx 63) 5 opCancelling).put (opIdx 63) 1 3).put (opIdx 63) 2 0x0A0200).setOp 63 fun x =>
     { x with begun := true }), 63, by decide +kernel⟩,
   ⟨((((rdy.put (opIdx 63) 5 opRunning).put (opIdx 63) 1 3).put (opIdx 63) 2 0x0A0200).setOp 63 fun x =>
     { x with begun := true }), 63, 0x0101, 9, by decide +kernel⟩⟩

/-- The hypotheses of `Obligations.PowerUpAndReset` are met, those of each clause. -/
theorem met_powerUpAndReset :
    (∃ (s : State) (xoSel pullSel : Bool), s.pwr.mgcOn = false) ∧
    (∃ (s : State), s.pwr.mgcOn = true) ∧
    (∃ (s : State), s.cap.phase = .booting) ∧
    (∃ (s : State), s.cap.phase = .capUp) ∧
    (∃ (s : State), s.cap.phase = .unsealed) ∧
    (∃ (s : State) (lowNs : Nat), (s.pwr.mgcOn = false ∨ lowNs < 20)) ∧
    (∃ (s : State) (lowNs : Nat), s.pwr.mgcOn = true ∧ 1000 ≤ lowNs) ∧
    (∃ (s : State) (lowNs : Nat), s.pwr.mgcOn = true ∧ 20 ≤ lowNs ∧ lowNs < 1000) ∧
    (∃ (s : State) (pull : Bool), s.pwr.mgcOn = true) :=
  ⟨⟨State.reset, true, false, by decide +kernel⟩,
   ⟨running, by decide +kernel⟩,
   ⟨{ rdy with cap := { rdy.cap with phase := .booting } }, by decide +kernel⟩,
   ⟨{ rdy with cap := { rdy.cap with phase := .capUp } }, by decide +kernel⟩,
   ⟨{ rdy with cap := { rdy.cap with phase := .unsealed } }, by decide +kernel⟩,
   ⟨rdy, 19, by decide +kernel⟩,
   ⟨running, 1000, by decide +kernel⟩,
   ⟨running, 20, by decide +kernel⟩,
   ⟨{ rdy with pwr := { rdy.pwr with devReset := true } }, true, by decide +kernel⟩⟩

/-- The hypotheses of `Obligations.RailsAndRegulators` are met, those of each clause. -/
theorem met_railsAndRegulators :
    (∃ (s : State) (rail : Fin 146) (mv : Nat), s.pwr.mgcOn = true ∧ rail.val ∉ s.pwr.railBad) ∧
    (∃ (s : State) (b : Fin 4) (rail : Fin 3), s.pwr.mgcOn = true ∧ 3 * b.val + rail.val ∉ s.pwr.silent ∧
      (rail.val = 0 ∨ s.domState (2 * b + (rail - 1)) ≠ dRampUp)) ∧
    (∃ (s : State) (d : Fin 8) (b : Fin 4) (rail : Fin 3) (op : Nat), s.pwr.mgcOn = true ∧ 3 * b.val + rail.val = railOf d
      ∧ railOf d ∉ s.pwr.silent ∧ s.domState d = dRampUp ∧ (s.dom d).ramps = [op] ∧ (s.dom d).pend = some op) ∧
    (∃ (s : State) (d : Fin 8) (mv : Nat), railOf d ∉ s.pwr.silent) :=
  ⟨⟨rdy, 145, 700, by decide +kernel⟩,
   ⟨rdy, 3, 2, by decide +kernel⟩,
   ⟨((rdy.put (domIdx 7) 3 dRampUp).put (domIdx 7) 8 700).setDom 7 fun x => { x with ramps := [6], pend := some 6 }, 7, 3,
     2, 6, by decide +kernel⟩,
   ⟨rdy.put (domIdx 7) 3 dRampUp, 7, 750, by decide +kernel⟩⟩

/-- The hypotheses of `Obligations.TemperatureWarnsAndTrips` are met, those of each clause. -/
theorem met_temperatureWarnsAndTrips :
    (∃ (s : State) (b : Fin 4) (sensor : Fin 16) (temp : Int), s.pwr.mgcOn = true) ∧
    (∃ (s : State) (b : Fin 4) (sensor : Fin 16) (temp : Int), s.pwr.mgcOn = true ∧ 1150 ≤ temp) ∧
    (∃ (s : State) (temp : Int), s.pwr.mgcOn = true ∧ temp < warnAt s) ∧
    (∃ (s : State) (temp : Int), s.pwr.mgcOn = true ∧ temp ≤ warnAt s - 30) :=
  ⟨⟨rdy, 3, 15, 1100, by decide +kernel⟩,
   ⟨running, 3, 15, 1150, by decide +kernel⟩,
   ⟨{ rdy with pwr := { rdy.pwr with thermalHold := true, sensors := List.replicate 64 1150 } }, 0, by decide +kernel⟩,
   ⟨{ rdy with pwr := { rdy.pwr with warned := true, sensors := List.replicate 64 1150 } }, 0, by decide +kernel⟩⟩

/-- The hypotheses of `Obligations.ClearsBeginAndEnd` are met, those of each clause. -/
theorem met_clearsBeginAndEnd :
    (∃ (s : State) (r : Req) (v : Nat), AtOnce s r (ent 0x0C0000 9) (.num v) clearRule) ∧
    (∃ (s : State), (s.cfgState = csError ∨ s.cfgState = csHalted)) ∧
    (∃ (s : State), s.cfgState ≠ csError ∧ s.cfgState ≠ csHalted) ∧
    (∃ (s : State) (mode : Fin 4) (high : Bool), s.cfgState = csClearing ∧ s.cfg.initDriven = true ∧
      s.pwr.thermalHold = false) ∧
    (∃ (s : State) (mode : Fin 4), s.cfgState = csClearing ∧ s.cfg.cleared = true) ∧
    (∃ (s : State), s.cfgState = csIdle ∧ s.cfg.selN = false ∧ s.cfg.cfgMode < 2) ∧
    (∃ (s : State) (b : Fin 4) (l : Load), s.loadOn (.icp b) = some l ∧ l.words = [] ∧ l.byMgc = none) ∧
    (∃ (s t : State) (b : Fin 4) (l m : Load), s.loadOn (.icp b) = some l ∧ l.words = [] ∧ l.byMgc.isSome = true ∧
      loadRuns s l = true ∧ Taken s (.icp b) l 1 [] [syncWordValue] t m) :=
  ⟨⟨running, wr, 1, by unfold AtOnce Passes; decide +kernel⟩,
   ⟨putCfg rdy csError, by decide +kernel⟩,
   ⟨running, by decide +kernel⟩,
   ⟨rdy, 3, true, by decide +kernel⟩,
   ⟨{ rdy with cfg := { rdy.cfg with initDriven := false, cleared := true } }, 2, by decide +kernel⟩,
   ⟨putCfg { rdy with cfg := { rdy.cfg with selN := false } } csIdle, by decide +kernel⟩,
   ⟨icpLoading 3 {}, 3, {}, by decide +kernel⟩,
   ⟨mgcSource { byMgc := some 63, src := 0x0E0000000000, len := 4 } syncWordValue, (fetchRead (mgcSource
     { byMgc := some 63, src := 0x0E0000000000, len := 4 } syncWordValue) 0x04C 0x0E0000000000 4).1.setLoad (.icp 3) (some
     { byMgc := some 63, src := 0x0E0000000000, len := 4, off := 4 }), 3,
     { byMgc := some 63, src := 0x0E0000000000, len := 4 },
     { byMgc := some 63, src := 0x0E0000000000, len := 4, off := 4 }, (by decide +kernel), (by decide +kernel),
     (by decide +kernel), (by decide +kernel), taken_read (be 4 syncWordValue) (by decide +kernel) (by decide +kernel)
     (by decide +kernel) (by decide +kernel)⟩⟩

/-- The hypotheses of `Obligations.LoadsTakeHeadersAndFrames` are met, those of each clause. -/
theorem met_loadsTakeHeadersAndFrames :
    (∃ (s t : State) (port : LoadPort) (ws rest h : List Nat) (l m : Load), s.loadOn port = some l ∧ l.got = 0 ∧
      l.words = [syncWordValue] ∧ loadRuns s l = true ∧ Taken s port l 15 (ws.drop 1) rest t m ∧ h = syncWordValue :: rest)
      ∧
    (∃ (s t : State) (port : LoadPort) (given ws : List Nat) (contends : Bool) (l m : Load), s.loadOn port = some l ∧
      l.got ≠ 0 ∧ l.endAt = none ∧ l.written < l.frames ∧ loadRuns s l = true ∧ Taken s port l 130 given ws t m) ∧
    (∃ (s : State) (b : Fin 4) (given : List Nat) (contends : Bool) (l : Load), s.loadOn (.icp b) = some l ∧ l.got ≠ 0 ∧
      l.endAt = none ∧ l.written < l.frames ∧ l.byMgc.isSome = true ∧ loadRuns s l = true ∧ l.len < l.off + 520 ∧
      l.panel < 64) :=
  ⟨⟨loading csLoading { words := [syncWordValue] }, loading csLoading { words := [syncWordValue] }, .slave,
    headerWords 1 fullFrames 0 0, (headerWords 1 fullFrames 0 0).drop 1,
    syncWordValue :: (headerWords 1 fullFrames 0 0).drop 1, { words := [syncWordValue] }, { words := [syncWordValue] },
    (by decide +kernel), (by decide +kernel), (by decide +kernel), (by decide +kernel), taken_given (by decide +kernel)
    (by decide +kernel), (by decide +kernel)⟩,
   ⟨loading csLoading { got := 1, checkMode := 1, frames := fullFrames, kind := 1, words := [syncWordValue] }, loading
     csLoading { got := 1, checkMode := 1, frames := fullFrames, kind := 1, words := [syncWordValue] }, .slave,
     List.replicate 130 0, List.replicate 130 0, false,
     { got := 1, checkMode := 1, frames := fullFrames, kind := 1, words := [syncWordValue] },
     { got := 1, checkMode := 1, frames := fullFrames, kind := 1, words := [syncWordValue] }, (by decide +kernel),
     (by decide +kernel), (by decide +kernel), (by decide +kernel), (by decide +kernel), taken_given (by decide +kernel)
     (by decide +kernel)⟩,
   ⟨(icpLoading 3 { got := 1, frames := 3, panel := 63, byMgc := some 63, len := 519 }).put (opIdx 63) 5 opRunning, 3, [],
     false, { got := 1, frames := 3, panel := 63, byMgc := some 63, len := 519 }, by decide +kernel⟩⟩

/-- The hypotheses of `Obligations.LoadsEndVerifiedOrInError` are met, those of each clause. -/
theorem met_loadsEndVerifiedOrInError :
    (∃ (s t : State) (port : LoadPort) (given trailer : List Nat) (design d : Compiled) (l m : Load),
      s.loadOn port = some l ∧ l.got ≠ 0 ∧ l.endAt = none ∧ l.written = l.frames ∧ loadRuns s l = true ∧
      Taken s port l (trailerLength l) given trailer t m ∧ trailer.getLast? = some endWordValue ∧
      d = (if l.tableWords = 0 then { design with users := [] } else design)) ∧
    (∃ (s : State) (l : Load), s.loadOn .slave = some l ∧ l.endAt.isSome = true ∧ s.cfg.endOk = false ∧
      loadRuns s l = true) ∧
    (∃ (s : State) (b : Fin 4) (l : Load), s.loadOn (.icp b) = some l ∧ l.endAt.isSome = true ∧ l.got ≠ 0 ∧ l.panel < 64 ∧
      loadRuns s l = true) ∧
    (∃ (s : State) (l : Load), s.loadOn .slave = some l ∧ l.endAt = none ∧ l.byMgc = none) ∧
    (∃ (s : State) (b : Fin 4) (l : Load), s.loadOn (.icp b) = some l ∧ l.endAt = none ∧ l.byMgc = none) ∧
    (∃ (s : State) (b : Fin 4) (l : Load), s.loadOn (.icp b) = some l ∧ l.byMgc.isSome = true) ∧
    (∃ (s : State) (failed : List (Fin 256 × Fin 536)) (l : Load), s.cfg.load = some l ∧ l.got = 1 ∧
      s.cfg.seamTrained = false ∧ (s.cfgState = csLoading ∨ s.cfgState = csChecking)) :=
  ⟨⟨loading csLoading { got := 1, checkMode := 1, frames := 1, written := 1, kind := 1, words := [syncWordValue] }, loading
    csLoading { got := 1, checkMode := 1, frames := 1, written := 1, kind := 1, words := [syncWordValue] }, .slave,
    [0, 0, endWordValue], [0, 0, endWordValue], {}, {},
    { got := 1, checkMode := 1, frames := 1, written := 1, kind := 1, words := [syncWordValue] },
    { got := 1, checkMode := 1, frames := 1, written := 1, kind := 1, words := [syncWordValue] }, (by decide +kernel),
    (by decide +kernel), (by decide +kernel), (by decide +kernel), (by decide +kernel), taken_given (by decide +kernel)
    (by decide +kernel), (by decide +kernel), (by decide +kernel)⟩,
   ⟨loading csChecking
     { got := 1, checkMode := 0, frames := 1, written := 1, kind := 1, panel := 0, bsid := 5, w3 := 1, words := List.replicate 19 0, endAt := some 0 },
     { got := 1, checkMode := 0, frames := 1, written := 1, kind := 1, panel := 0, bsid := 5, w3 := 1, words := List.replicate 19 0, endAt := some 0 },
     by decide +kernel⟩,
   ⟨icpLoading 3
     { got := 1, checkMode := 0, frames := 1, written := 1, kind := 1, panel := 63, bsid := 5, w3 := 1, words := List.replicate 19 0, endAt := some 0 },
     3,
     { got := 1, checkMode := 0, frames := 1, written := 1, kind := 1, panel := 63, bsid := 5, w3 := 1, words := List.replicate 19 0, endAt := some 0 },
     by decide +kernel⟩,
   ⟨loading csLoading {}, {}, by decide +kernel⟩,
   ⟨icpLoading 3 { got := 1, panel := 63 }, 3, { got := 1, panel := 63 }, by decide +kernel⟩,
   ⟨icpLoading 3 { byMgc := some 5 }, 3, { byMgc := some 5 }, by decide +kernel⟩,
   ⟨loading csLoading { got := 1 }, [], { got := 1 }, by decide +kernel⟩⟩

/-- The hypotheses of `Obligations.StartUpRunsTheDesign` are met, those of each clause. -/
theorem met_startUpRunsTheDesign :
    (∃ (s : State) (t : Nat) (l : Load), s.cfg.startAt = some t ∧ s.cfg.load = some l ∧ s.cfgState = csWaitTick ∧
      s.cfg.startPhase = 0) ∧
    (∃ (s : State) (t : Nat) (l : Load), s.cfg.startAt = some t ∧ s.cfg.load = some l ∧ s.cfgState = csWaitTick ∧
      s.cfg.startPhase = 1) ∧
    (∃ (s : State) (t : Nat) (l : Load), s.cfg.startAt = some t ∧ s.cfg.load = some l ∧ s.cfgState = csWaitTick ∧
      s.cfg.startPhase = 2) ∧
    (∃ (s : State) (t : Nat) (l : Load), s.cfg.startAt = some t ∧ s.cfg.load = some l ∧ s.cfgState = csWaitTick ∧
      s.cfg.startPhase = 3) :=
  ⟨⟨starting 0, 100, { got := 1, bsid := 7, w3 := 2 }, by decide +kernel⟩,
   ⟨starting 1, 100, { got := 1, bsid := 7, w3 := 2 }, by decide +kernel⟩,
   ⟨starting 2, 100, { got := 1, bsid := 7, w3 := 2 }, by decide +kernel⟩,
   ⟨starting 3, 100, { got := 1, bsid := 7, w3 := 2 }, by decide +kernel⟩⟩

/-- The hypotheses of `Obligations.PanelsIsolateAndRelease` are met, those of each clause. -/
theorem met_panelsIsolateAndRelease :
    (∃ (s : State) (b : Fin 4), s.cfgState = csRunning ∧ s.cfg.icpBusy.getD b false = false) ∧
    (∃ (s : State) (b : Fin 4) (l : Load) (k : Nat), s.cfgState = csRunning ∧ s.cfg.icpBusy.getD b false = true ∧
      s.loadOn (.icp b) = some l ∧ l.byMgc = some k ∧ l.since = s.now ∧ l.words = []) ∧
    (∃ (s : State) (b : Fin 4) (mask : BitVec 16), s.cfgState = csRunning) ∧
    (∃ (s : State) (r : Req) (p : Fin 64) (v : Nat), AtOnce s r (ent (panelIdx p) 6) (.num v) (isolateRule p)) ∧
    (∃ (s : State) (r : Req) (p : Fin 64) (v : Nat), AtOnce s r (ent (panelIdx p) 5) (.num v) (releaseRule p) ∧
      taskCost .hem ≤ s.capacity) :=
  ⟨⟨running, 3, by decide +kernel⟩,
   ⟨({ icpLoading 3 { byMgc := some 63 } with cfg := { (icpLoading 3 { byMgc := some 63 }).cfg with icpBusy := [false, false, false, true] } }
     : State).put (opIdx 63) 5 opRunning, 3, { byMgc := some 63 }, 63, by decide +kernel⟩,
   ⟨putPanel running 63 pnActive, 3, 0x8001#16, by decide +kernel⟩,
   ⟨putPanel running 63 pnActive, wr, 63, 1, by unfold AtOnce Passes; decide +kernel⟩,
   ⟨putPanel running 63 pnVerified, wr, 63, 1, by unfold AtOnce Passes; decide +kernel⟩⟩

/-- The hypotheses of `Obligations.SeamsDetectAndMendFailures` are met, those of each clause. -/
theorem met_seamsDetectAndMendFailures :
    (∃ (s : State) (c : Fin 256) (cycle : Nat) (wires : BitVec 536) (bad old : List Nat),
      (s.chState c = chFull ∨ s.chState c = chNarrowed) ∧ bad = mismatching (s.chan c) c cycle wires ∧ bad ≠ [] ∧
      old = (s.chan c).mismatches.filter (fun p => p % 2 ^ 64 + 64 ≤ cycle)) ∧
    (∃ (s : State) (c : Fin 256) (cycle : Nat) (wires : BitVec 536), mismatching (s.chan c) c cycle wires = []) ∧
    (∃ (s : State) (c : Fin 256) (k : Fin 8), (s.chState c = chFull ∨ s.chState c = chNarrowed) ∧
      4 ≤ (marksOf s c k).length ∧
      ((marksOf s c k).getLast?.getD 0) % 2 ^ 64 < ((marksOf s c k).reverse.getD 3 0) % 2 ^ 64 + 64) ∧
    (∃ (s : State) (c : Fin 256) (wire : Fin 536) (last : Bool), s.chState c = chMending ∧ (s.chan c).walked wire = true) ∧
    (∃ (s : State) (c : Fin 256) (dur : Nat), s.chState c = chMending ∧ dur ≤ 21000) ∧
    (∃ (s : State) (c : Fin 256) (dur : Nat), s.chState c = chNarrowing ∧ dur ≤ 25000) :=
  ⟨⟨loneWire chFull [], 255, 9, loneWires 9, [7], [], (by decide +kernel), (lone_mismatching chFull [] 9).symm,
    (by decide +kernel), (by decide +kernel)⟩,
   ⟨(rdy.put (chIdx 255) 1 chFull).setChan 255 fun x => { x with failed := List.range 536 }, 255, 9, 0#536,
     by decide +kernel⟩,
   ⟨(rdy.put (chIdx 255) 1 chFull).setChan 255 fun x => { x with mismatches := List.replicate 4 (7 * 2 ^ 64) }, 255, 7,
     by decide +kernel⟩,
   ⟨(rdy.put (chIdx 255) 1 chMending).setChan 255 fun x => { x with declared := [7] }, 255, 535, true, by decide +kernel⟩,
   ⟨(rdy.put (chIdx 255) 1 chMending).setChan 255 fun x => { x with failed := [5], pending := [5], prior := chFull }, 255,
     900, by decide +kernel⟩,
   ⟨((rdy.put (chIdx 255) 1 chNarrowing).put (chIdx 255) 2 1).setChan 255 fun x => { x with failed := [0, 1] }, 255, 25000,
     by decide +kernel⟩⟩

/-- The hypotheses of `Obligations.SeamsPredictRetrainAndReturn` are met, those of each clause. -/
theorem met_seamsPredictRetrainAndReturn :
    (∃ (s : State) (c : Fin 256) (wire : Fin 536) (margin : Nat) (x : Channel),
      (s.chState c = chFull ∨ s.chState c = chNarrowed) ∧ x = (s.chan c).sample s.now wire margin) ∧
    (∃ (s : State) (c : Fin 256) (wire : Fin 536), (s.chState c = chFull ∨ s.chState c = chNarrowed) ∧
      wire.val ∈ (s.chan c).predicted ∧ wire.val ∉ (s.chan c).darnShadow ∧ ((s.chan c).darnFor wire).isSome = true ∧
      predictMend s = true) ∧
    (∃ (s : State) (r : Req) (c : Fin 256) (v : Nat), AtOnce s r (ent (chIdx c) 0x0B) (.num v) (retrainRule c)) ∧
    (∃ (s : State) (c : Fin 256) (passed : List (Fin 536 × Nat)) (healthy : List Nat), s.num (chIdx c) 3 = 1 ∧
      (healthy = (passed.filter fun p => s.num 0x0D0000 6 ≤ p.2).map (·.1.val))) ∧
    (∃ (s : State) (r : Req) (c : Fin 256) (v : Nat), AtOnce s r (ent (chIdx c) 0x0C) (.num v) (chanReinstateRule c) ∧
      taskCost .seamChan ≤ s.capacity) :=
  ⟨⟨rdy.put (chIdx 255) 1 chFull, 255, 535, 0, ((rdy.put (chIdx 255) 1 chFull).chan 255).sample 0 535 0,
    by decide +kernel⟩,
   ⟨(rdy.put (chIdx 255) 1 chFull).setChan 255 fun x => { x with predicted := [511] }, 255, 511, by decide +kernel⟩,
   ⟨rdy.put (chIdx 255) 1 chNarrowed, wr, 255, 1, by unfold AtOnce Passes; decide +kernel⟩,
   ⟨(rdy.put (chIdx 255) 3 1).setChan 255 fun x => { x with failed := [5] }, 255, [(5, 1023)], [5], by decide +kernel⟩,
   ⟨rdy.put (chIdx 255) 3 2, wr, 255, 1, by unfold AtOnce Passes; decide +kernel⟩⟩

/-- The hypotheses of `Obligations.QueuesFollowTheirEdges` are met, those of each clause. -/
theorem met_queuesFollowTheirEdges :
    (∃ (s : State) (q : Fin 12288) (x : Queue) (d : BitVec 72), s.clocksRun = true ∧ insideIsolated s (·.mems) q = false ∧
      tget s.fab.queues q = some x ∧ x.rst = false ∧ x.full = false) ∧
    (∃ (s : State) (q : Fin 12288) (x : Queue) (d : BitVec 72), s.clocksRun = true ∧ insideIsolated s (·.mems) q = false ∧
      tget s.fab.queues q = some x ∧ x.rst = false ∧ x.full = false) ∧
    (∃ (s : State) (q : Fin 12288) (x : Queue) (d : BitVec 72), s.clocksRun = true ∧ insideIsolated s (·.mems) q = false ∧
      tget s.fab.queues q = some x ∧ x.rst = false ∧ x.full = true) ∧
    (∃ (s : State) (q : Fin 12288) (x : Queue) (d : BitVec 72), s.clocksRun = true ∧ insideIsolated s (·.mems) q = false ∧
      tget s.fab.queues q = some x ∧ x.rst = false ∧ x.full = true ∧ (x.common = false ∨ x.empty = true)) ∧
    (∃ (s : State) (q : Fin 12288) (x : Queue) (d : BitVec 72), s.clocksRun = true ∧ insideIsolated s (·.mems) q = false ∧
      tget s.fab.queues q = some x ∧ x.rst = false ∧ x.full = true ∧ x.common = true ∧ x.empty = false) ∧
    (∃ (s : State) (q : Fin 12288) (x : Queue) (d : BitVec 72) (b : Bool), s.clocksRun = true ∧
      insideIsolated s (·.mems) q = false ∧ tget s.fab.queues q = some x ∧ x.rst = true) ∧
    (∃ (s : State) (q : Fin 12288) (x : Queue) (e : BitVec 72), s.clocksRun = true ∧ insideIsolated s (·.mems) q = false ∧
      tget s.fab.queues q = some x ∧ x.rst = false ∧ x.empty = true) ∧
    (∃ (s : State) (q : Fin 12288) (x : Queue) (e : BitVec 72) (f : Queue), s.clocksRun = true ∧
      insideIsolated s (·.mems) q = false ∧ tget s.fab.queues q = some x ∧ x.rst = false ∧ x.empty = false ∧ x.fwft = false
      ∧ f = x.flip e.toNat) ∧
    (∃ (s : State) (q : Fin 12288) (x : Queue) (e : BitVec 72) (f : Queue), s.clocksRun = true ∧
      insideIsolated s (·.mems) q = false ∧ tget s.fab.queues q = some x ∧ x.rst = false ∧ x.empty = false ∧ x.fwft = true
      ∧ 2 ≤ x.rseen ∧ f = x.flip e.toNat) ∧
    (∃ (s : State) (q : Fin 12288) (x : Queue), s.clocksRun = true ∧ insideIsolated s (·.mems) q = false ∧
      tget s.fab.queues q = some x ∧ x.rst = false) ∧
    (∃ (s : State) (q : Fin 12288) (x : Queue), s.clocksRun = true ∧ insideIsolated s (·.mems) q = false ∧
      tget s.fab.queues q = some x ∧ x.rst = false) ∧
    (∃ (s : State) (q : Fin 12288) (x : Queue), s.clocksRun = true ∧ insideIsolated s (·.mems) q = false ∧
      tget s.fab.queues q = some x) ∧
    (∃ (s : State) (q : Fin 12288) (x : Queue), s.clocksRun = true ∧ insideIsolated s (·.mems) q = false ∧
      tget s.fab.queues q = some x) ∧
    (∃ (s : State) (q : Fin 12288) (x : Queue) (d : BitVec 34), s.clocksRun = true ∧ insideIsolated s (·.mems) q = false ∧
      tget s.fab.queues q = some x ∧ x.rst = true) ∧
    (∃ (s : State) (q : Fin 12288) (d : BitVec 72) (b : Bool), (s.clocksRun = false ∨ insideIsolated s (·.mems) q = true))
      ∧
    (∃ (s : State) (q : Fin 12288) (e : BitVec 72), (s.clocksRun = false ∨ insideIsolated s (·.mems) q = true)) ∧
    (∃ (s : State) (q : Fin 12288) (b : Bool), (s.clocksRun = false ∨ insideIsolated s (·.mems) q = true)) ∧
    (∃ (s : State) (q : Fin 12288) (b : Bool), (s.clocksRun = false ∨ insideIsolated s (·.mems) q = true)) ∧
    (∃ (s : State) (q : Fin 12288) (d : BitVec 34), (s.clocksRun = false ∨ insideIsolated s (·.mems) q = true)) :=
  ⟨⟨queued { words := [5], wseen := 1, rseen := 1, empty := false }, 12287,
    { words := [5], wseen := 1, rseen := 1, empty := false }, 7#72, by decide +kernel⟩,
   ⟨queued { words := [5], wseen := 1, rseen := 1, empty := false }, 12287,
     { words := [5], wseen := 1, rseen := 1, empty := false }, 7#72, by decide +kernel⟩,
   ⟨queued { depth := 1, words := [5], wseen := 1, rseen := 1, empty := false, full := true }, 12287,
     { depth := 1, words := [5], wseen := 1, rseen := 1, empty := false, full := true }, 7#72, by decide +kernel⟩,
   ⟨queued { depth := 1, words := [5], wseen := 1, rseen := 1, empty := false, full := true }, 12287,
     { depth := 1, words := [5], wseen := 1, rseen := 1, empty := false, full := true }, 7#72, by decide +kernel⟩,
   ⟨queued { depth := 1, common := true, words := [5], wseen := 1, rseen := 1, empty := false, full := true }, 12287,
     { depth := 1, common := true, words := [5], wseen := 1, rseen := 1, empty := false, full := true }, 7#72,
     by decide +kernel⟩,
   ⟨queued { rst := true }, 12287, { rst := true }, 7#72, true, by decide +kernel⟩,
   ⟨queued {}, 12287, {}, 0#72, by decide +kernel⟩,
   ⟨queued { words := [5], wseen := 1, rseen := 1, empty := false }, 12287,
     { words := [5], wseen := 1, rseen := 1, empty := false }, 0#72,
     ({ words := [5], wseen := 1, rseen := 1, empty := false } : Queue).flip 0, by decide +kernel⟩,
   ⟨queued { fwft := true, words := [5, 6], wseen := 2, rseen := 2, empty := false }, 12287,
     { fwft := true, words := [5, 6], wseen := 2, rseen := 2, empty := false }, 0#72,
     ({ fwft := true, words := [5, 6], wseen := 2, rseen := 2, empty := false } : Queue).flip 0, by decide +kernel⟩,
   ⟨queued { fwft := true, words := [5, 6], wseen := 2, rseen := 2, empty := false }, 12287,
     { fwft := true, words := [5, 6], wseen := 2, rseen := 2, empty := false }, by decide +kernel⟩,
   ⟨queued { fwft := true, words := [5, 6], wseen := 2, rseen := 2, empty := false }, 12287,
     { fwft := true, words := [5, 6], wseen := 2, rseen := 2, empty := false }, by decide +kernel⟩,
   ⟨queued { fwft := true, words := [5, 6], wseen := 2, rseen := 2, empty := false }, 12287,
     { fwft := true, words := [5, 6], wseen := 2, rseen := 2, empty := false }, by decide +kernel⟩,
   ⟨queued { rst := true }, 12287, { rst := true }, by decide +kernel⟩,
   ⟨queued { rst := true }, 12287, { rst := true }, 0x3FFFFFFFF#34, by decide +kernel⟩,
   ⟨rdy, 0, 7#72, true, by decide +kernel⟩,
   ⟨rdy, 0, 0#72, by decide +kernel⟩,
   ⟨rdy, 0, true, by decide +kernel⟩,
   ⟨rdy, 0, true, by decide +kernel⟩,
   ⟨rdy, 0, 7#34, by decide +kernel⟩⟩

/-- The hypotheses of `Obligations.RegionalClocksSwitchAndGate` are met, those of each clause. -/
theorem met_regionalClocksSwitchAndGate :
    (∃ (s : State) (drv : Fin 1536) (x : Mux) (toB : Bool) (oldEdge : Bool) (newEdge : Bool), s.clocksRun = true ∧
      insideIsolated s (·.drivers) drv = false ∧ x = s.drv drv ∧ x.want = none) ∧
    (∃ (s : State) (drv : Fin 1536) (x : Mux) (b : Bool) (oldEdge : Bool) (newEdge : Bool), s.clocksRun = true ∧
      insideIsolated s (·.drivers) drv = false ∧ x = s.drv drv ∧ x.want = some b ∧ x.low = false) ∧
    (∃ (s : State) (drv : Fin 1536) (x : Mux) (b : Bool) (oldEdge : Bool) (newEdge : Bool), s.clocksRun = true ∧
      insideIsolated s (·.drivers) drv = false ∧ x = s.drv drv ∧ x.want = some b) ∧
    (∃ (s : State) (drv : Fin 1536) (x : Mux) (b : Bool), s.clocksRun = true ∧ insideIsolated s (·.drivers) drv = false ∧
      x = s.drv drv ∧ x.want = some b ∧ x.low = false) ∧
    (∃ (s : State) (drv : Fin 1536) (x : Mux), s.clocksRun = true ∧ insideIsolated s (·.drivers) drv = false ∧
      x = s.drv drv ∧ x.want ≠ none ∧ x.low = true) ∧
    (∃ (s : State) (drv : Fin 1536) (x : Mux) (n : Fin 8), s.clocksRun = true ∧ insideIsolated s (·.drivers) drv = false ∧
      x = s.drv drv) ∧
    (∃ (s : State) (drv : Fin 1536) (x : Mux), s.clocksRun = true ∧ insideIsolated s (·.drivers) drv = false ∧
      x = s.drv drv) ∧
    (∃ (s : State) (drv : Fin 1536) (x : Mux), s.clocksRun = true ∧ insideIsolated s (·.drivers) drv = false ∧
      x = s.drv drv) ∧
    (∃ (s : State) (drv : Fin 1536) (x : Mux) (t : Nat), s.clocksRun = true ∧ insideIsolated s (·.drivers) drv = false ∧
      x = s.drv drv ∧ x.req = some t ∧ s.now ≤ t + 4000) ∧
    (∃ (s : State) (drv : Fin 1536) (x : Mux) (t : Nat), s.clocksRun = true ∧ insideIsolated s (·.drivers) drv = false ∧
      x = s.drv drv ∧ x.req = some t) ∧
    (∃ (s : State) (n : Fin 72), gateWaits s n = true ∧ unitBusy s n = false ∧
      s.now ≤ (s.clk.gates.getD n {}).since + 4000) :=
  ⟨⟨running, 1535, { }, true, false, false, by decide +kernel⟩,
   ⟨{ running with fab := { running.fab with drivers := [(1535, { want := some true })] } }, 1535, { want := some true },
     true, false, false, by decide +kernel⟩,
   ⟨{ running with fab := { running.fab with drivers := [(1535, { want := some true })] } }, 1535, { want := some true },
     true, false, false, by decide +kernel⟩,
   ⟨{ running with fab := { running.fab with drivers := [(1535, { want := some true })] } }, 1535, { want := some true },
     true, by decide +kernel⟩,
   ⟨{ running with fab := { running.fab with drivers := [(1535, { want := some true, low := true })] } }, 1535,
     { want := some true, low := true }, by decide +kernel⟩,
   ⟨running, 1535, { }, 7, by decide +kernel⟩,
   ⟨running, 1535, { }, by decide +kernel⟩,
   ⟨{ running with fab := { running.fab with drivers := [(1535, { ce := false, gated := true })] } }, 1535,
     { ce := false, gated := true }, by decide +kernel⟩,
   ⟨{ running with fab := { running.fab with drivers := [(1535, { req := some 0 })] } }, 1535, { req := some 0 }, 0,
     by decide +kernel⟩,
   ⟨{ running with fab := { running.fab with drivers := [(1535, { req := some 0 })] } }, 1535, { req := some 0 }, 0,
     by decide +kernel⟩,
   ⟨rdy.put (gateIdx 71) 2 1, 71, by decide +kernel⟩⟩

/-- The hypotheses of `Obligations.BanksMemoriesAndTallies` are met, those of each clause. -/
theorem met_banksMemoriesAndTallies :
    (∃ (s : State) (b : Fin 4) (m : Fin 3072) (word : Fin 1024) (portB : Bool) (flips : BitVec 72) (d : BramDef) (p :
      BramPort), s.clocksRun = true ∧ tget s.cfg.compiled.brams (b * 3072 + m) = some d ∧ d.ecc = true ∧
      insideIsolated s (·.mems) (b * 3072 + m) = false ∧ p = s.bport (2 * (b * 3072 + m) + (if portB then 1 else 0))) ∧
    (∃ (s : State) (b : Fin 4) (k : Fin 24),
      (8 ≤ k.val ∨ s.mcState (8 * b + k) = mcDisabled ∨ s.mcState (8 * b + k) = mcLost)) ∧
    (∃ (s : State) (b : Fin 4) (k : Fin 24), k.val < 8 ∧ (s.mcState (8 * b + k) = mcOnline ∨ s.mcState (8 * b + k) =
      mcRetraining ∨ s.mcState (8 * b + k) = mcOut ∨ s.mcState (8 * b + k) = mcTraining)) ∧
    (∃ (s : State) (r : Req) (p : Fin 64) (v : Nat), AtOnce s r (ent (pinIdx p) 6) (.num v) (plainRule (ent (pinIdx p) 6)))
      :=
  ⟨⟨{ running with cfg := { running.cfg with compiled := { brams := [(12287, { ecc := true, b := { reg := true } })] } } },
    3, 3071, 1023, true, 0#72, { ecc := true, b := { reg := true } }, {}, by decide +kernel⟩,
   ⟨rdy.put 0x110002 4 0xFFFFFF, 3, 23, by decide +kernel⟩,
   ⟨(rdy.put 0x110002 4 0xFFFFFF).put (mchIdx 31) 1 mcOnline, 3, 7, by decide +kernel⟩,
   ⟨rdy, wr, 63, 1, by unfold AtOnce Passes; decide +kernel⟩⟩

/-- The hypotheses of `Obligations.ReferencesAreLostAndTaken` are met, those of each clause. -/
theorem met_referencesAreLostAndTaken :
    (∃ (s : State) (src : Fin 3), src.val ≠ 0 ∧ s.num 0x040000 5 = src) ∧
    (∃ (s : State) (src : Fin 3), qualified s src = false ∧
      (src = 1 ∧ s.num 0x040000 2 ≠ 0 ∨ src = 2 ∧ (tgetD s.lan.lanes (s.num 0x040000 3) {}).state = 2)) ∧
    (∃ (s : State) (r : Req) (v : Nat), AtOnce s r (ent 0x040000 1) (.num v) refSelRule) ∧
    (∃ (s : State), s.pwr.xoAbsent = false) ∧
    (∃ (s : State), s.pwr.xoAbsent = true) :=
  ⟨⟨((({ rdy with clk := { rdy.clk with refInQualified := true } } : State).put 0x040000 5 1).put 0x040000 4 1).put
    0x040010 1 2, 1, by decide +kernel⟩,
   ⟨(rdy.put 0x040000 2 5).put 0x040000 1 1, 1, by decide +kernel⟩,
   ⟨rdy, wr, 0, by unfold AtOnce Passes; decide +kernel⟩,
   ⟨rdy, by decide +kernel⟩,
   ⟨{ rdy with pwr := { rdy.pwr with xoAbsent := true } }, by decide +kernel⟩⟩

/-- The hypotheses of `Obligations.LoopsLockAndHold` are met, those of each clause. -/
theorem met_loopsLockAndHold :
    (∃ (s : State) (offset goal : Int), s.num 0x040010 1 = 1 ∧ goal = (if s.clk.tlTarget = 0 then 0 else offset) ∧
      goal.natAbs ≤ 200000) ∧
    (∃ (s : State) (r : Req) (v : Nat), AtOnce s r (ent 0x040010 3) (.num v) tlRelockRule) ∧
    (∃ (s : State) (loop : HoldLoop), loopNum loop ∉ s.clk.holdLoops) ∧
    (∃ (s : State) (loop : HoldLoop), loopNum loop ∈ s.clk.holdLoops) ∧
    (∃ (s : State) (d : Fin 8), (s.dom d).started = true ∧ s.domState d ≠ dCoasting) ∧
    (∃ (s : State) (d : Fin 8), s.domState d = dCoasting) ∧
    (∃ (s : State) (l : Fin 32), (s.num (uloopIdx l) 1 = 2 ∨ s.num (uloopIdx l) 1 = 4)) ∧
    (∃ (s : State) (l : Fin 32), (s.num (uloopIdx l) 1 = 3 ∨ s.num (uloopIdx l) 1 = 1)) :=
  ⟨⟨rdy.put 0x040010 1 1, -5, 0, by decide +kernel⟩,
   ⟨rdy.put 0x040010 1 3, wr, 1, by unfold AtOnce Passes; decide +kernel⟩,
   ⟨rdy, .lane 0x301, by decide +kernel⟩,
   ⟨{ rdy with clk := { rdy.clk with holdLoops := [loopNum (.seam 3)] } }, .seam 3, by decide +kernel⟩,
   ⟨rdy.setDom 7 fun x => { x with started := true }, 7, by decide +kernel⟩,
   ⟨rdy.put (domIdx 7) 3 dCoasting, 7, by decide +kernel⟩,
   ⟨rdy.put (uloopIdx 31) 1 2, 31, by decide +kernel⟩,
   ⟨rdy.put (uloopIdx 31) 1 3, 31, by decide +kernel⟩⟩

/-- The hypotheses of `Obligations.OperatingPointsRampAndStep` are met, those of each clause. -/
theorem met_operatingPointsRampAndStep :
    (∃ (s : State) (r : Req) (d : Fin 8) (v : Nat), AtOnce s r (ent (domIdx d) 1) (.num v) (targetOpRule d)) ∧
    (∃ (s : State) (d : Fin 8) (c : TimedCmd), nextRaise s d = some c) ∧
    (∃ (s : State) (d : Fin 8) (op : Nat), s.domState d = dRampUp ∧ (s.dom d).pend = some op ∧ reached s d op = false) ∧
    (∃ (s : State) (d : Fin 8), s.domState d = dCoasting) ∧
    (∃ (s : State) (d : Fin 8), (s.dom d).lower = true ∧ s.domState d ≠ dCoasting) ∧
    (∃ (s : State) (d : Fin 8), s.pwr.mgcOn = true ∧ (s.dom d).started = false ∧ opMv d (s.num (domIdx d) 4) ≤ (if
      s.pwr.silent.contains (railOf d) then 755 else s.num (domIdx d) 8 + 5)) ∧
    (∃ (s : State) (d : Fin 8), s.domState d = dFloor ∧ s.flag (domIdx d) 5 = true ∧ (s.dom d).changed = false) :=
  ⟨⟨rdy.setDom 7 fun x => { x with started := true }, wr, 7, 0, by unfold AtOnce Passes; decide +kernel⟩,
   ⟨tbOn 0
     { rdy with ruling := { rdy.ruling with timed := [{ tb := 0, pick := 5, key := ent (domIdx 0) 1, val := .num 3 }] } },
     0, { tb := 0, pick := 5, key := ent (domIdx 0) 1, val := .num 3 }, by decide +kernel⟩,
   ⟨(rdy.put (domIdx 0) 3 dRampUp).setDom 0 fun x => { x with pend := some 3 }, 0, 3, by decide +kernel⟩,
   ⟨rdy.put (domIdx 7) 3 dCoasting, 7, by decide +kernel⟩,
   ⟨rdy.setDom 7 fun x => { x with lower := true }, 7, by decide +kernel⟩,
   ⟨rdy.put (domIdx 7) 8 1200, 7, by decide +kernel⟩,
   ⟨(rdy.put (domIdx 7) 3 dFloor).put (domIdx 7) 5 1, 7, by decide +kernel⟩⟩

/-- The hypotheses of `Obligations.LoopsGatesAndSpreadAreCommanded` are met, those of each clause. -/
theorem met_loopsGatesAndSpreadAreCommanded :
    (∃ (s : State) (l : Fin 32), s.num (uloopIdx l) 1 = 4 ∧ s.flag (uloopIdx l) 3 = true) ∧
    (∃ (s : State) (r : Req) (l : Fin 32) (v : Nat), AtOnce s r (ent (uloopIdx l) 4) (.num v) (uloopRestoreRule l)) ∧
    (∃ (s : State) (r : Req) (n : Fin 72) (v : Nat), AtOnce s r (ent (gateIdx n) 1) (.num v) (gateRule n)) ∧
    (∃ (s : State) (n : Fin 72), gateWaits s n = true) ∧
    (∃ (s : State) (r : Req) (target : SpreadOf) (v : Nat),
      AtOnce s r (spreadKey target) (.num v) (spreadRule (spreadKey target))) :=
  ⟨⟨(rdy.put (uloopIdx 31) 1 4).put (uloopIdx 31) 3 1, 31, by decide +kernel⟩,
   ⟨rdy.put (uloopIdx 31) 1 4, wr, 31, 1, by unfold AtOnce Passes; decide +kernel⟩,
   ⟨rdy.put (svcIdx 7) 1 1, wr, 71, 1, by unfold AtOnce Passes; decide +kernel⟩,
   ⟨rdy.put (gateIdx 71) 2 1, 71, by decide +kernel⟩,
   ⟨rdy, wr, .memory 3, 1, by unfold AtOnce Passes; decide +kernel⟩⟩

/-- The hypotheses of `Obligations.TimeBasesTakeRatesAndSteps` are met, those of each clause. -/
theorem met_timeBasesTakeRatesAndSteps :
    (∃ (s : State) (r : Req) (t : Fin 8) (v : Nat), AtOnce s r (ent (tbIdx t) 5) (.num v) (incrementRule t)) ∧
    (∃ (s : State) (r : Req) (t : Fin 8) (inc cycles : Nat),
      AtOnce s r (ent (0x030140 + t) 0) (.oct (be 6 inc ++ be 4 cycles ++ be 4 0)) (slewRule t) ∧ inc < 2 ^ 48 ∧
      cycles < 2 ^ 32) ∧
    (∃ (s : State) (t : Fin 8), (s.tb t).slewing = true) ∧
    (∃ (s : State) (r : Req) (t : Fin 8) (ns : Int), AtOnce s r (ent (tbIdx t) 6) (.num (wrap 64 ns)) (stepRule t) ∧
      -2 ^ 63 ≤ ns ∧ ns < 2 ^ 63) ∧
    (∃ (s : State) (r : Req) (t : Fin 8) (ns : Int), serves s (ent (tbIdx t) 6) = true ∧ (carried r).toe = .none ∧
      checkWrite s (carried r) (ent (tbIdx t) 6) (.num (wrap 64 ns)) (stepRule t) = none ∧ -2 ^ 63 ≤ ns ∧ ns < 2 ^ 63 ∧
      (s.tb t).armed = true ∧ s.num (tbIdx t) 8 < ns.natAbs) ∧
    (∃ (s : State) (r : Req) (t : Fin 8) (ns : Int), serves s (ent (tbIdx t) 7) = true ∧ (carried r).toe = .none ∧
      checkWrite s (carried r) (ent (tbIdx t) 7) (.num (wrap 64 ns)) (forceStepRule t) = none ∧ (s.tb t).armed = true ∧
      (pendingCmds s).length < 4096) ∧
    (∃ (s : State) (t : Fin 8) (first : StepReq) (rest : List StepReq) (m : State), (s.tb t).steps = first :: rest ∧
      m = s.waitUntil first.due) ∧
    (∃ (s : State) (r : Req) (t : Fin 8) (ns : Nat), AtOnce s r (ent (tbIdx t) 9) (.num ns) (setRule t)) :=
  ⟨⟨rdy, wr, 7, 4316442132, by unfold AtOnce Passes; decide +kernel⟩,
   ⟨rdy, wr, 7, 4724464025, 2 ^ 32 - 1, by unfold AtOnce Passes; decide +kernel⟩,
   ⟨((rdy).setTb 7 fun b => { b with slewing := true, slewLeft := 4, slewInc := 9 }), 7, by decide +kernel⟩,
   ⟨rdy, wr, 7, -5, by unfold AtOnce Passes; decide +kernel⟩,
   ⟨((rdy).setTb 7 fun b => { b with armed := true }), wr, 7, -2 ^ 63, by unfold serves; decide +kernel⟩,
   ⟨((rdy).setTb 7 fun b => { b with armed := true }), wr, 7, 2 ^ 63 - 1, by unfold serves; decide +kernel⟩,
   ⟨((rdy).setTb 7 fun b =>
     { b with steps := [{ ns := 5, force := false, due := 1 }, { ns := -3, force := true, due := 1 }], time := 2 ^ 60 }),
     7, { ns := 5, force := false, due := 1 }, [{ ns := -3, force := true, due := 1 }], ((rdy).setTb 7 fun b =>
     { b with steps := [{ ns := 5, force := false, due := 1 }, { ns := -3, force := true, due := 1 }], time := 2 ^ 60 }).waitUntil
     1, by decide +kernel⟩,
   ⟨rdy, wr, 7, 10 ^ 18, by unfold AtOnce Passes; decide +kernel⟩⟩

/-- The hypotheses of `Obligations.TimeBasesArmAndCountPicks` are met, those of each clause. -/
theorem met_timeBasesArmAndCountPicks :
    (∃ (s : State) (r : Req) (t : Fin 8), AtOnce s r (ent (tbIdx t) 2) (.num 1) (armRule t) ∧ t.val < s.tim.tb.length) ∧
    (∃ (s : State) (r : Req) (t : Fin 8), AtOnce s r (ent (tbIdx t) 2) (.num 0) (armRule t) ∧ t.val < s.tim.tb.length) ∧
    (∃ (s : State) (r : Req) (t : Fin 8) (sub : Fin 5) (bytes : List Byte),
      AtOnce s r (ent (genIdx t) sub) (valueOf (ent (genIdx t) sub) bytes) (pickGenRule t sub) ∧ t.val < s.tim.tb.length) ∧
    (∃ (s : State) (r : Req) (v : Nat), AtOnce s r (ent 0x030001 1) (.num v) snapRule) :=
  ⟨⟨rdy, wr, 7, by unfold AtOnce Passes; decide +kernel⟩,
   ⟨rdy, wr, 7, by unfold AtOnce Passes; decide +kernel⟩,
   ⟨rdy, wr, 7, 1, be 4 60000, by unfold AtOnce Passes; decide +kernel⟩,
   ⟨rdy, wr, 1, by unfold AtOnce Passes; decide +kernel⟩⟩

/-- The hypotheses of `Obligations.TimestampsServosAndTriggers` are met, those of each clause. -/
theorem met_timestampsServosAndTriggers :
    (∃ (s : State) (n : Fin 178) (egress : Bool) (frame : List Byte) (p : PtpCarrier × Nat) (cls k : Nat),
      ptpEvent frame = some p ∧ k = (tsPort n).1 ∧ rateClass s k = some cls) ∧
    (∃ (s : State) (n : Fin 178) (frame : List Byte), ptpEvent frame = none) ∧
    (∃ (s : State) (t : Fin 8) (k : Fin 32) (domain : Byte) (source : List Byte) (d : PtpData), s.num (servoIdx t) 1 ≠ 0 ∧
      s.num (servoIdx t) 2 = k ∧ s.num (servoIdx t) 3 = domain.toNat) ∧
    (∃ (s : State) (t : Fin 8) (k : Fin 32) (domain : Byte) (source : List Byte) (sent : Nat), s.num (servoIdx t) 1 ≠ 0 ∧
      s.num (servoIdx t) 2 = k ∧ s.num (servoIdx t) 3 = domain.toNat) ∧
    (∃ (s : State) (t : Fin 8) (k : Fin 32) (domain : Byte) (source : List Byte) (received : Nat), s.num (servoIdx t) 1 ≠ 0
      ∧ s.num (servoIdx t) 2 = k ∧ s.num (servoIdx t) 3 = domain.toNat ∧
      (bestMaster s t).any (fun f => f.source = source) = false) ∧
    (∃ (s : State) (t : Fin 8) (k : Fin 32) (domain : Byte) (source : List Byte) (origin : Nat) (received : Nat),
      s.num (servoIdx t) 1 ≠ 0 ∧ s.num (servoIdx t) 2 = k ∧ s.num (servoIdx t) 3 = domain.toNat ∧
      (bestMaster s t).any (fun f => f.source = source) = false) ∧
    (∃ (s : State) (t : Fin 8) (k : Fin 32) (domain : Byte) (source : List Byte) (received : Nat), s.num (servoIdx t) 1 ≠ 0
      ∧ s.num (servoIdx t) 2 = k ∧ s.num (servoIdx t) 3 = domain.toNat ∧
      (bestMaster s t).any (fun f => f.source = source) = true) ∧
    (∃ (s : State) (t : Fin 8) (k : Fin 32) (domain : Byte) (source : List Byte) (origin : Nat) (received : Nat),
      s.num (servoIdx t) 1 ≠ 0 ∧ s.num (servoIdx t) 2 = k ∧ s.num (servoIdx t) 3 = domain.toNat ∧
      (bestMaster s t).any (fun f => f.source = source) = true) ∧
    (∃ (s : State) (t : Fin 8) (k : Fin 32) (domain : Byte) (source : List Byte) (m : ServoMsg),
      (s.num (servoIdx t) 1 = 0 ∨ s.num (servoIdx t) 2 ≠ k ∨ s.num (servoIdx t) 3 ≠ domain.toNat)) ∧
    (∃ (s : State) (r : Req) (t : Fin 8) (v : Nat), AtOnce s r (ent (servoIdx t) 1) (.num v) (servoModeRule t)) ∧
    (∃ (s : State) (r : Req) (n : Fin 64) (sub : Fin 10) (bytes : List Byte) (f : List Nat),
      AtOnce s r (ent (trigIdx n) sub) (valueOf (ent (trigIdx n) sub) bytes) (trigRule n sub) ∧
      trigFields s n sub (valueOf (ent (trigIdx n) sub) bytes) = f) ∧
    (∃ (s : State) (n : Fin 64) (x : Nat), (s.trig n).high = some x) ∧
    (∃ (s : State) (n : Fin 64) (rising : Bool), takesEdge s n rising = true ∧
      ((s.trig n).edgeAt = 0 ∨ 8 ≤ s.now + 1 - (s.trig n).edgeAt)) :=
  ⟨⟨((rdy.put (portIdx 5) 1 1) : State), 40, false, ptpFrame, (.ethernet, 14), 4, 5, by decide +kernel⟩,
   ⟨rdy, 0, List.replicate 60 0, by decide +kernel⟩,
   ⟨((rdy.put (servoIdx 7) 1 2).put (servoIdx 7) 2 31), 7, 31, 127#8, List.replicate 10 5, {}, by decide +kernel⟩,
   ⟨((rdy.put (servoIdx 7) 1 2).put (servoIdx 7) 2 31), 7, 31, 127#8, List.replicate 10 5, 500, by decide +kernel⟩,
   ⟨((rdy.put (servoIdx 7) 1 2).put (servoIdx 7) 2 31), 7, 31, 127#8, List.replicate 10 5, 700, by decide +kernel⟩,
   ⟨((rdy.put (servoIdx 7) 1 2).put (servoIdx 7) 2 31), 7, 31, 127#8, List.replicate 10 5, 5, 700, by decide +kernel⟩,
   ⟨(((rdy.put (servoIdx 7) 1 2).put (servoIdx 7) 2 31).setServo 7 fun x =>
     { x with masters := [{ source := List.replicate 10 5, last := 0, before := some 0 }] }), 7, 31, 127#8,
     List.replicate 10 5, 700, by decide +kernel⟩,
   ⟨(((rdy.put (servoIdx 7) 1 2).put (servoIdx 7) 2 31).setServo 7 fun x =>
     { x with masters := [{ source := List.replicate 10 5, last := 0, before := some 0 }] }), 7, 31, 127#8,
     List.replicate 10 5, 700, 800, by decide +kernel⟩,
   ⟨rdy, 7, 31, 127#8, List.replicate 10 5, .delayReq 4, by decide +kernel⟩,
   ⟨rdy, wr, 7, 1, by unfold AtOnce Passes; decide +kernel⟩,
   ⟨(rdy.put (trigIdx 63) 3 77).put (trigIdx 63) 4 10, wr, 63, 1, [1], trigFields ((rdy.put (trigIdx 63) 3 77).put (trigIdx
     63) 4 10) 63 1 (valueOf (ent (trigIdx 63) 1) ([1])), by unfold AtOnce Passes; decide +kernel⟩,
   ⟨rdy.setTrig 63 fun x => { x with high := some (10 ^ 25), level := true }, 63, 10 ^ 25, by decide +kernel⟩,
   ⟨rdy.put (trigIdx 63) 1 4, 63, true, by decide +kernel⟩⟩

/-- The hypotheses of `Obligations.LanesClimbAndLock` are met, those of each clause. -/
theorem met_lanesClimbAndLock :
    (∃ (s : State) (l : Nat) (blocks : List LineBlock), laneExists s l = true ∧ (usesBlocks s l = false ∨ usesBlocks s l =
      true ∧ (s.lane l).state ≠ laneHeld ∧ (s.lane l).blockLock = false ∧ (s.lane l).good = 0 ∧ blocks.length = 64 ∧ ∀ b ∈
      blocks, blockValid b = true ∧ b.lpi = false)) ∧
    (∃ (s : State) (l : Nat) (blocks : List LineBlock), laneExists s l = true ∧ usesBlocks s l = true ∧
      (s.lane l).state ≠ laneHeld ∧ (s.lane l).blockLock = false ∧ (∀ b ∈ blocks, blockValid b = false ∧ b.lpi = false)) ∧
    (∃ (s : State) (l : Nat) (blocks : List LineBlock), laneExists s l = true ∧ (s.lane l).state = laneLocked ∧ (usesBlocks
      s l = false ∨ usesBlocks s l = true ∧ (s.lane l).blockLock = true ∧ (s.lane l).window = 0 ∧ (s.lane l).bad = 0 ∧
      blocks.length = 16 ∧ ∀ b ∈ blocks, blockValid b = false)) ∧
    (∃ (s : State) (l : Nat), laneExists s l = true ∧ (s.lane l).state = laneUnlocked) ∧
    (∃ (s : State) (l : Nat), ((s.lane l).phase = 3 ∨ (s.lane l).phase = 4)) ∧
    (∃ (s : State) (l : Nat) (w : BitVec 64), laneExists s l = true ∧ (s.lane l).state ≠ laneHeld) ∧
    (∃ (s : State) (l : Nat) (result : Fin 3), (isFast l = true ∨ isGeneral l = true) ∧ (s.lane l).state = laneBringup ∧
      laneBringupKind s l = 1) :=
  ⟨⟨((rdy).setLane 47 fun x => { x with state := laneUnlocked }), 47, [], by decide +kernel⟩,
   ⟨(((rdy.put (portIdx 29) 1 2)).setLane 0x13F fun x => { x with state := laneBringup, phase := 3, good := 9 }), 0x13F,
     List.replicate 16 { header := 3#2 }, by decide +kernel⟩,
   ⟨((rdy).setLane 47 fun x => { x with state := laneLocked }), 47, [], by decide +kernel⟩,
   ⟨((rdy).setLane 47 fun x => { x with state := laneUnlocked, unlockedAt := 100 }), 47, by decide +kernel⟩,
   ⟨((rdy.put (portIdx 5) 1 1).setLane 47 fun x => { x with state := laneBringup, phase := 3, rung := 2 }), 47,
     by decide +kernel⟩,
   ⟨((ported 5 1 0 spBringup 0xFF rdy).setLane 47 fun x => { x with state := laneBringup, phase := 2, rung := 1 }), 47,
     ladderOf 0 6 6 2, by decide +kernel⟩,
   ⟨(((rdy.put (portIdx 5) 1 1).put (portIdx 5) 2 1).setLane 47 fun x => { x with state := laneBringup }), 47, 0,
     by decide +kernel⟩⟩

/-- The hypotheses of `Obligations.PortsFollowModesLightAndFailures` are met, those of each clause. -/
theorem met_portsFollowModesLightAndFailures :
    (∃ (s : State) (r : Req) (k : Fin 30) (sub : Fin 3) (v : Nat),
      AtOnce s r (ent (portIdx k) (sub + 1)) (.num v) (portModeRule k (sub + 1))) ∧
    (∃ (s : State) (e : Fin 8) (power : Int), engineFitted s e = true ∧ (s.lan.engines.getD e {}).lightOk = false ∧
      signed 16 (s.num (0x050300 + e) 8) ≤ power) ∧
    (∃ (s : State) (e : Fin 8) (power : Int), engineFitted s e = true ∧ (s.lan.engines.getD e {}).lightOk = true ∧
      power < signed 16 (s.num (0x050300 + e) 8)) ∧
    (∃ (s : State) (e : Fin 8) (cause : Fin 2) (enters : Bool) (temp : Int), engineFitted s e = true ∧
      ((s.lan.engines.getD e {}).faults / 2 ^ cause.val % 2 == 1) ≠ enters ∧ (cause = 0 → (enters = true ↔ 1050 < temp))) ∧
    (∃ (s : State) (l n : Nat) (cause : Fin 4), laneExists s l = true ∧ (isOptical l = true ∨ cause = 1 ∨ cause = 3) ∧
      s.unitOfLane l = some n ∧ (s.lane l).failed = false ∧ (s.subState n = spUp ∨ s.subState n = spNarrow) ∧
      s.subLanes n / 2 ^ (portOf l).2 % 2 = 1) ∧
    (∃ (s : State) (i : Fin 30), s.lanesRun = true ∧ groupStarted s i = false) ∧
    (∃ (s : State) (m : Fin 2) (speed : Nat), mgtSpeedOk s m speed = false) ∧
    (∃ (s : State) (m : Fin 2) (up : Bool) (speed : Nat), (up = true → mgtSpeedOk s m speed = true)) ∧
    (∃ (s : State) (sp : Fin 178), s.subState sp = spBringup ∧
      (((maskLanes sp (s.fullMask sp)).any fun c => (s.lane c).failed) = true)) :=
  ⟨⟨rdy, wr, 29, 0, 2, by unfold AtOnce Passes; decide +kernel⟩,
   ⟨{ rdy with lan := { rdy.lan with engines := lmod rdy.lan.engines 0 fun x => { x with lightOk := false } } }, 0, 32767,
     by decide +kernel⟩,
   ⟨{ rdy with lan := { rdy.lan with engines := lmod rdy.lan.engines 0 fun x => { x with lightOk := true } } }, 0, -32768,
     by decide +kernel⟩,
   ⟨rdy, 0, 1, true, -5, by decide +kernel⟩,
   ⟨ported 5 1 0 spUp 0xFF rdy, 47, 40, 1, by decide +kernel⟩,
   ⟨rdy, 29, by decide +kernel⟩,
   ⟨rdy, 1, 10000, by decide +kernel⟩,
   ⟨rdy, 1, true, 1000, by decide +kernel⟩,
   ⟨((ported 5 1 0 spBringup 0xFF rdy).setLane 40 fun x => { x with failed := true }), 40, by decide +kernel⟩⟩

/-- The hypotheses of `Obligations.SubPortsReformAndRestore` are met, those of each clause. -/
theorem met_subPortsReformAndRestore :
    (∃ (s : State) (sp : Fin 178) (dur m : Nat), (s.sub sp).agreed = some m ∧ s.subState sp = spReforming ∧ dur ≤ 25000) ∧
    (∃ (s : State) (sp : Fin 178), s.subState sp = spReforming ∧ (s.sub sp).agreed = none) ∧
    (∃ (s : State) (l n : Nat), laneExists s l = true ∧ s.unitOfLane l = some n ∧ s.subState n = spNarrow ∧
      s.subLanes n / 2 ^ (portOf l).2 % 2 = 0 ∧ s.num (portIdx (portOf l).1) 6 / 2 ^ (portOf l).2 % 2 = 0) ∧
    (∃ (s : State) (l n : Nat), laneExists s l = true ∧ s.unitOfLane l = some n ∧ s.subState n = spNarrow ∧
      s.subLanes n / 2 ^ (portOf l).2 % 2 = 0 ∧ (s.lane l).shadow = true ∧ (s.lane l).state = laneLocked) ∧
    (∃ (s : State) (r : Req) (sp : Fin 178) (v : Nat), AtOnce s r (ent (subIdx sp) 4) (.num v) (restoreRule sp)) ∧
    (∃ (s : State) (sp : Fin 178), (s.sub sp).restoring = true ∧ (s.sub sp).agreed ≠ none) ∧
    (∃ (s : State) (sp : Fin 178), (s.sub sp).restoring = true ∧ (s.sub sp).agreed = none) :=
  ⟨⟨((((ported 5 1 0 spReforming 0xFF rdy).setLane 40 fun x => { x with failed := true })).setSub 40 fun x =>
    { x with agreed := some 0xF0 }), 40, 500, 0xF0, by decide +kernel⟩,
   ⟨ported 5 1 0 spReforming 0xFF rdy, 40, by decide +kernel⟩,
   ⟨ported 5 1 0 spNarrow 0x0F rdy, 47, 40, by decide +kernel⟩,
   ⟨((ported 5 1 0 spNarrow 0x0F rdy).setLane 47 fun x => { x with state := laneLocked, shadow := true }), 47, 40,
     by decide +kernel⟩,
   ⟨rdy, wr, 177, 0, by unfold AtOnce Passes; decide +kernel⟩,
   ⟨((((ported 5 1 0 spNarrow 0x0F rdy).setLane 47 fun x => { x with failed := true })).setSub 40 fun x =>
     { x with restoring := true, agreed := some 0xFF }), 40, by decide +kernel⟩,
   ⟨((ported 5 1 0 spNarrow 0x0F rdy).setSub 40 fun x => { x with restoring := true }), 40, by decide +kernel⟩⟩

/-- The hypotheses of `Obligations.FramesReachTheirFlows` are met, those of each clause. -/
theorem met_framesReachTheirFlows :
    (∃ (s : State) (r : Req) (sp : Fin 178) (v : Nat), AtOnce s r (ent (bindIdx sp) 1) (.num v) (bindingRule sp)) ∧
    (∃ (s : State) (sp : Fin 178) (ok : Bool) (b : List Byte),
      (subPasses s sp = false ∨ s.lanesRun = false ∧ sp.val < 176)) ∧
    (∃ (s : State) (sp : Fin 178) (b : List Byte), subPasses s sp = true ∧ (s.lanesRun = true ∨ 176 ≤ sp.val)) ∧
    (∃ (s : State) (sp : Fin 178) (b : List Byte), subPasses s sp = true ∧ (s.lanesRun = true ∨ 176 ≤ sp.val)) ∧
    (∃ (s : State) (r : Req) (e : Fin 8) (f : Fin 4096),
      AtOnce s r (ent (rxIdx (e * 4096 + f)) 1) (.num 1) (rxFlowRule (e * 4096 + f) 1) ∧
      s.flag (rxIdx (e * 4096 + f)) 1 = false) ∧
    (∃ (s : State) (r : Req) (e : Fin 8) (f : Fin 4096),
      AtOnce s r (ent (rxIdx (e * 4096 + f)) 1) (.num 0) (rxFlowRule (e * 4096 + f) 1) ∧
      s.flag (rxIdx (e * 4096 + f)) 1 = true) :=
  ⟨⟨media, wr, 40, 7, by unfold AtOnce Passes; decide +kernel⟩,
   ⟨rdy, 40, true, [1], by decide +kernel⟩,
   ⟨media, 40, [1], by decide +kernel⟩,
   ⟨media, 40, [1], by decide +kernel⟩,
   ⟨rxDescribed, wr, 7, 4095, by unfold AtOnce Passes; decide +kernel⟩,
   ⟨rxEnabled, wr, 7, 4095, by unfold AtOnce Passes; decide +kernel⟩⟩

/-- The hypotheses of `Obligations.ReceiveFlowsReleaseAndWatch` are met, those of each clause. -/
theorem met_receiveFlowsReleaseAndWatch :
    (∃ (s : State) (e : Fin 8) (f : Fin 4096) (n : Nat) (p : RxPkt) (rest : List RxPkt), n = e * 4096 + f ∧
      (s.rxFlow n).buf = p :: rest ∧ (rxTb s n).armed = true ∧ s.serving e = true) ∧
    (∃ (s : State) (e : Fin 8) (f : Fin 4096) (n : Nat), n = e * 4096 + f ∧ rxState s n = rxPlays) ∧
    (∃ (s : State) (e : Fin 8) (f : Fin 4096) (legB : Bool) (n : Nat), n = e * 4096 + f ∧ rxOn s n = true ∧
      ((s.rxFlow n).leg legB).heard = true ∧ legState s n legB ≠ 2 ∧ (legB = true → s.num (rxIdx n) 5 ≠ 0)) ∧
    (∃ (s : State) (e : Fin 8) (f : Fin 4096) (legB : Bool) (n : Nat), n = e * 4096 + f ∧ rxOn s n = true ∧
      ((s.rxFlow n).leg legB).heard = true ∧ legState s n legB ≠ 1 ∧ (legB = true → s.num (rxIdx n) 5 ≠ 0) ∧ max s.now
      (((s.rxFlow n).leg legB).upSince + tenMs) ≤ ((s.rxFlow n).leg legB).lastAt + ((s.rxFlow n).leg legB).gap) ∧
    (∃ (s : State) (e : Fin 8) (f : Fin 4096) (n : Nat), n = e * 4096 + f ∧ rxOn s n = true) ∧
    (∃ (s : State) (e : Fin 8) (f : Fin 4096) (n : Nat) (p : RxPkt), n = e * 4096 + f ∧
      (((s.rxFlow n).buf.find? fun p => !p.back) = some p) ∧ (rxTb s n).armed = true ∧ s.serving e = true) ∧
    (∃ (s : State) (e : Fin 8) (f : Fin 4096) (n : Nat), n = e * 4096 + f ∧ (s.rxFlow n).noteDue = true) ∧
    (∃ (s : State) (e : Fin 8) (i : Fin 16) (n : Nat), n = 16 * e + i ∧ essRuns s n = true ∧ (s.essPort n).out ≠ []) :=
  ⟨⟨rxBuffered, 7, 4095, 32767, rxPacket 9, [rxPacket 11], by decide +kernel⟩,
   ⟨rxBuffered.put (rxIdx 32767) 2 rxPlays, 7, 4095, 32767, by decide +kernel⟩,
   ⟨(rxBuffered).setRx 32767 fun x => x.setLeg false fun g => { g with heard := true, gap := 5000000, lastAt := 3 }, 7,
     4095, false, 32767, by decide +kernel⟩,
   ⟨(rxBuffered).setRx 32767 fun x => x.setLeg false fun g => { g with heard := true, gap := 50000000, lastAt := 3 }, 7,
     4095, false, 32767, by decide +kernel⟩,
   ⟨rxBuffered, 7, 4095, 32767, by decide +kernel⟩,
   ⟨(rxEnabled.setRx 32767 fun x => { x with buf := [{ rxPacket 9 with back := false }] }).put (rxIdx 32767) 0x13 0, 7,
     4095, 32767, { rxPacket 9 with back := false }, by decide +kernel⟩,
   ⟨rxEnabled.setRx 32767 fun x => { x with noteDue := true }, 7, 4095, 32767, by decide +kernel⟩,
   ⟨{ media with rx := { media.rx with ports := [(127, { out := [{ tag := 1, data := 2 }, { tag := 3, data := 4 }] })] } },
     7, 15, 127, by decide +kernel⟩⟩

/-- The hypotheses of `Obligations.TransmitFlowsSendAndTake` are met, those of each clause. -/
theorem met_transmitFlowsSendAndTake :
    (∃ (s : State) (r : Req) (e : Fin 8) (f : Fin 4096) (n : Nat), n = e * 4096 + f ∧
      AtOnce s r (ent (txIdx n) 1) (.num 1) (txFlowRule n 1) ∧ s.flag (txIdx n) 1 = false) ∧
    (∃ (s : State) (r : Req) (e : Fin 8) (f : Fin 4096) (n : Nat), n = e * 4096 + f ∧
      AtOnce s r (ent (txIdx n) 1) (.num 0) (txFlowRule n 1) ∧ s.flag (txIdx n) 1 = true) ∧
    (∃ (s : State) (e : Fin 8) (i : Fin 16) (tag : BitVec 64) (data : BitVec 512) (p n : Nat) (w : EssWord), p = 16 * e + i
      ∧ n = e * 4096 + bits tag.toNat 55 44 ∧ w = { tag := tag.toNat, data := data.toNat }) ∧
    (∃ (s : State) (e : Fin 8) (f : Fin 4096) (n m : Nat) (src : Source), n = e * 4096 + f ∧ nextSlot s n = some (m, src) ∧
      s.serving e = true ∧ (s.tb (txFmt s n).tb).armed = true) ∧
    (∃ (s q : State) (e : Fin 8) (f : Fin 4096) (n : Nat) (src : Source) (t : State), n = e * 4096 + f ∧
      q = passedPicks s n ∧ q.serving e = true ∧ (q.tb (txFmt q n).tb).armed = true ∧ nextBuilt q n = some src ∧
      (q.txFlow n).queue = [] ∧ t = q.waitTb (txFmt q n).tb (builtAt q n) ∧ Uncut q n (mediaOf q n (q.txFlow n).frame)) ∧
    (∃ (s q : State) (e : Fin 8) (f : Fin 4096) (n : Nat) (p : TxPkt) (rest : List TxPkt) (l : Nat), n = e * 4096 + f ∧
      q = passedPicks s n ∧ q.serving e = true ∧ (q.tb (txFmt q n).tb).armed = true ∧ nextBuilt q n = none ∧
      (q.txFlow n).queue = p :: rest ∧ (q.txFlow n).low = some l ∧ (p.media < l ∨ (q.txFlow n).since p.media ≤ l)) ∧
    (∃ (s : State) (e : Fin 8) (f : Fin 4096) (n : Nat) (src : Source) (t : State), n = e * 4096 + f ∧
      nextBuilt s n = some src ∧ s.serving e = true ∧ (s.tb (txFmt s n).tb).armed = true ∧
      (txLegs s n).any (fun b => s.subState (legSub s n b) == spNarrow) = true ∧
      (¬((txFmt s n).ess = 0 ∧ s.num (txIdx n) 0x18 = 2)) ∧ t = s.waitTb (txFmt s n).tb (builtAt s n) ∧
      Uncut s n (mediaOf s n (s.txFlow n).frame)) ∧
    (∃ (s : State) (r : Req) (e : Fin 8) (f : Fin 4096) (b : List Byte) (n m : Nat), n = e * 4096 + f ∧
      Passes s r (ent (takeIdx n) 0) (.oct b) (takeRule n) ∧ (carried r).toe = .none ∧
      m = evenPick s n (nextPickOf s (txFmt s n).tb) ∧
      admits s (timedCmd s r 0 (txFmt s n).tb m (ent (takeIdx n) 0) (.oct b)) = true) :=
  ⟨⟨txDescribed, wr, 7, 4095, 32767, by unfold AtOnce Passes; decide +kernel⟩,
   ⟨txEnabled, wr, 7, 4095, 32767, by unfold AtOnce Passes; decide +kernel⟩,
   ⟨txEnabled, 7, 15, 0x02FFF00000000000#64, 7#512, 127, 32767, { tag := 0x02FFF00000000000, data := 7 },
     by decide +kernel⟩,
   ⟨tbOn 7 (calm <| enableTx 32767 ((((txDescribed.put (txIdx 32767) 1 1).put (txIdx 32767) 0x24 2).put (txIdx 32767) 0x26
     0x0E000C000000).put (txIdx 32767) 0x27 65536)), 7, 4095, 32767, ((calm <| enableTx 32767 ((((txDescribed.put (txIdx
     32767) 1 1).put (txIdx 32767) 0x24 2).put (txIdx 32767) 0x26 0x0E000C000000).put (txIdx 32767) 0x27 65536)).txFlow
     32767).frame, { kind := 2, port := 15, addr := 0x0E000C000000, size := 65536 }, by decide +kernel⟩,
   ⟨txEnabled, txEnabled, 7, 4095, 32767, { kind := 1, port := 15 }, txEnabled.waitTb 7 (builtAt txEnabled 32767),
     by unfold Uncut; decide +kernel⟩,
   ⟨(calm (enableTx 32767 ((txDescribed.put (txIdx 32767) 1 1).put (txIdx 32767) 0x24 5))).setTx 32767 fun x =>
     { x with queue := [txPacket], low := some (10 ^ 14) }, (calm (enableTx 32767 ((txDescribed.put (txIdx 32767) 1 1).put
     (txIdx 32767) 0x24 5))).setTx 32767 fun x => { x with queue := [txPacket], low := some (10 ^ 14) }, 7, 4095, 32767,
     txPacket, [], 10 ^ 14, by decide +kernel⟩,
   ⟨txEnabled |>.put (subIdx 40) 1 spNarrow, 7, 4095, 32767, { kind := 1, port := 15 },
     (txEnabled |>.put (subIdx 40) 1 spNarrow).waitTb 7 (builtAt txEnabled 32767), by unfold Uncut; decide +kernel⟩,
   ⟨txEnabled, wr, 7, 4095, List.replicate 20 0 ++ [1, 0] ++ List.replicate 11 0, 32767,
     evenPick txEnabled 32767 (nextPickOf txEnabled 7), by unfold Passes; decide +kernel⟩⟩

/-- The hypotheses of `Obligations.EnginesLeaveServiceAndReturn` are met, those of each clause. -/
theorem met_enginesLeaveServiceAndReturn :
    (∃ (s : State) (r : Req) (e : Fin 8) (v : Nat), AtOnce s r (ent (svcIdx e) 2) (.num v) (removeRule e)) ∧
    (∃ (s : State) (e : Fin 8) (fault : Fin 4), s.service e ≠ svOut ∧ s.service e ≠ svFailed ∧
      (fault = 3 → s.service e ≠ svIn) ∧ s.pwr.halted = false ∧ s.pwr.mgcOn = true) ∧
    (∃ (s : State) (e : Fin 8) (fault : Fin 4),
      (s.service e = svOut ∨ s.service e = svFailed ∨ (fault = 3 ∧ s.service e = svIn))) ∧
    (∃ (s : State) (r : Req) (e : Fin 8) (v : Nat), AtOnce s r (ent (svcIdx e) 3) (.num v) (shadowRule e)) ∧
    (∃ (s : State) (e : Fin 8), s.service e = svShadow) ∧
    (∃ (s : State) (r : Req) (e : Fin 8) (v : Nat), AtOnce s r (ent (svcIdx e) 4) (.num v) (engineReinstateRule e) ∧
      taskCost .engine ≤ s.capacity) ∧
    (∃ (s : State) (e : Fin 8), s.pwr.mgcOn = true) :=
  ⟨⟨media, wr, 7, 1, by unfold AtOnce Passes; decide +kernel⟩,
   ⟨txEnabled, 7, 2, by decide +kernel⟩,
   ⟨rdy.put (svcIdx 7) 1 svFailed, 7, 0, by decide +kernel⟩,
   ⟨rdy.put (svcIdx 7) 1 svOut, wr, 7, 1, by unfold AtOnce Passes; decide +kernel⟩,
   ⟨rdy.put (svcIdx 7) 1 svShadow, 7, by decide +kernel⟩,
   ⟨rdy.put (svcIdx 7) 1 svReady, wr, 7, 1, by unfold AtOnce Passes; decide +kernel⟩,
   ⟨rdy, 7, by decide +kernel⟩⟩

/-- The hypotheses of `Obligations.InstructionsIssueInTheirPlace` are met, those of each clause. -/
theorem met_instructionsIssueInTheirPlace :
    (∃ (s : State) (h : Fin 512) (i : ShInstr) (x : Shuttle) (c : Instr), Stands s h i x ∧ commandOf h i = some c) ∧
    (∃ (s : State) (h : Fin 512) (i j : ShInstr) (c d : Instr), s.fetched h = some i ∧ commandOf h i = some c ∧
      commandOf h j = some d ∧ d ≠ c) :=
  ⟨⟨shuttleAt (.alu 1 15 1 2 0 0 idle idle) (busy), 511, .alu 1 15 1 2 0 0 idle idle,
    ((shuttleAt (.alu 1 15 1 2 0 0 idle idle) (busy)).front 511).sh 511, .add 511, by unfold Stands; decide +kernel⟩,
   ⟨shuttleAt (.ctl 1 0 5) (busy), 511, .ctl 1 0 5, .ctl 3 0 5, .br 511, .rpt 511, by decide +kernel⟩⟩

/-- The hypotheses of `Obligations.QAndAluInstructionsCompute` are met, those of each clause. -/
theorem met_qAndAluInstructionsCompute :
    (∃ (s : State) (h : Fin 512) (lm sg : Nat) (m0 m1 m2 m3 : MacSlot) (lx ly : QLoad) (x : Shuttle),
      Issues s h (.q lm sg m0 m1 m2 m3 lx ly) x) ∧
    (∃ (s : State) (h : Fin 512) (c : Instr) (op rd rs1 rs2 i imm a b : Nat) (mx my : MemAccess) (x : Shuttle) (f : Nat →
      Nat → Nat) (g : Nat → Nat → Bool), Issues s h (.alu op rd rs1 rs2 i imm mx my) x ∧ a = x.w.getD rs1 0 ∧
      b = (if i = 1 then wrap 48 (signed 15 imm) else x.w.getD rs2 0) ∧ ((c, op, f, g) ∈ ([ (.add h, 0x01, fun a b => (a +
      b) % 2 ^ 48, fun a b => decide (2 ^ 48 ≤ a + b)), (.sub h, 0x02, fun a b => (a + 2 ^ 48 - b) % 2 ^ 48, fun a b =>
      decide (b ≤ a)), (.adds h, 0x03, fun a b => wrap 48 (clamp48 (signed 48 a + signed 48 b)), fun a b => decide (2 ^ 48
      ≤ a + b)), (.subs h, 0x04, fun a b => wrap 48 (clamp48 (signed 48 a - signed 48 b)), fun a b => decide (b ≤ a)),
      (.and h, 0x05, fun a b => a &&& b, fun _ _ => false), (.or h, 0x06, fun a b => a ||| b, fun _ _ => false), (.xor h,
      0x07, fun a b => a ^^^ b, fun _ _ => false), (.andn h, 0x08, fun a b => a &&& ((2 ^ 48 - 1) ^^^ b), fun _ _ =>
      false), (.lsl h, 0x09, fun a b => a * 2 ^ (b % 64) % 2 ^ 48, fun a b => 0 < b % 64 && b % 64 ≤ 48 && bitOf a (48 - b
      % 64)), (.lsr h, 0x0A, fun a b => a / 2 ^ (b % 64), fun a b => 0 < b % 64 && bitOf a (b % 64 - 1)), (.asr h, 0x0B,
      fun a b => wrap 48 (signed 48 a / 2 ^ (b % 64)), fun a b => 0 < b % 64 && (signed 48 a / 2 ^ (b % 64 - 1)) % 2 == 1),
      (.min h, 0x0C, fun a b => if signed 48 a ≤ signed 48 b then a else b, fun _ _ => false), (.max h, 0x0D, fun a b => if
      signed 48 a ≤ signed 48 b then b else a, fun _ _ => false), (.abs h, 0x0E, fun a _ => wrap 48 (clamp48 (signed 48
      a).natAbs), fun _ _ => false), (.neg h, 0x0F, fun a _ => wrap 48 (clamp48 (-(signed 48 a))), fun _ _ => false), (.cmp
      h, 0x10, fun a b => (a + 2 ^ 48 - b) % 2 ^ 48, fun a b => decide (b ≤ a)), (.tst h, 0x11, fun a b => a &&& b, fun _ _
      => false), (.mov h, 0x12, fun _ b => b, fun _ _ => false)] : List (Instr × Nat × (Nat → Nat → Nat) × (Nat → Nat →
      Bool))))) ∧
    (∃ (s : State) (h : Fin 512) (c : Instr) (op rd rs1 rs2 i imm a b : Nat) (mx my : MemAccess) (x : Shuttle) (f : Nat →
      Nat → Nat), Issues s h (.alu op rd rs1 rs2 i imm mx my) x ∧ a = x.w.getD rs1 0 ∧
      b = (if i = 1 then wrap 48 (signed 15 imm) else x.w.getD rs2 0) ∧ ((c, op, f) ∈ ([ (.aluNop h, 0x00, fun _ _ => 0),
      (.padd24 h, 0x13, lanewise 24 fun x y => x + y), (.psub24 h, 0x14, lanewise 24 fun x y => x + 2 ^ 24 - y), (.padd12
      h, 0x15, lanewise 12 fun x y => x + y), (.psub12 h, 0x16, lanewise 12 fun x y => x + 2 ^ 12 - y)] : List (Instr × Nat
      × (Nat → Nat → Nat))))) :=
  ⟨⟨shuttleAt (.q 0 0 (mac 1 0 1 2) (mac 2 0 3 4) (mac 3 1 5 6) (mac 1 2 0 0) { en := 1, reg := 7, ptr := 2, mode := 1 }
    { en := 1, reg := 0, ptr := 3, mode := 1 }) (busy), 511, 0, 0, mac 1 0 1 2, mac 2 0 3 4, mac 3 1 5 6, mac 1 2 0 0,
    { en := 1, reg := 7, ptr := 2, mode := 1 }, { en := 1, reg := 0, ptr := 3, mode := 1 }, ((shuttleAt (.q 0 0 (mac 1 0 1
    2) (mac 2 0 3 4) (mac 3 1 5 6) (mac 1 2 0 0) { en := 1, reg := 7, ptr := 2, mode := 1 }
    { en := 1, reg := 0, ptr := 3, mode := 1 }) (busy)).front 511).sh 511, by unfold Issues Stands; decide +kernel⟩,
   ⟨shuttleAt (.alu 1 15 1 2 0 0 idle idle)
     ({ busy with w := ((List.replicate 16 0).set 1 281474976710652).set 2 140737488355333, st := 0 }), 511, .add 511, 1,
     15, 1, 2, 0, 0, 281474976710652, 140737488355333, idle, idle, ((shuttleAt (.alu 1 15 1 2 0 0 idle idle)
     ({ busy with w := ((List.replicate 16 0).set 1 281474976710652).set 2 140737488355333, st := 0 })).front 511).sh 511,
     fun a b => (a + b) % 2 ^ 48, fun a b => decide (2 ^ 48 ≤ a + b), by unfold Issues Stands; decide +kernel, rfl, rfl,
     List.Mem.head _⟩,
   ⟨shuttleAt (.alu 0 0 0 2 0 0 idle idle)
     ({ busy with w := ((List.replicate 16 0).set 0 281474976710652).set 2 140737488355333, st := 0 }), 511, .aluNop 511,
     0, 0, 0, 2, 0, 0, 281474976710652, 140737488355333, idle, idle, ((shuttleAt (.alu 0 0 0 2 0 0 idle idle)
     ({ busy with w := ((List.replicate 16 0).set 0 281474976710652).set 2 140737488355333, st := 0 })).front 511).sh 511,
     fun _ _ => 0, by unfold Issues Stands; decide +kernel, rfl, rfl, List.Mem.head _⟩⟩

/-- The hypotheses of `Obligations.MAndLInstructionsMoveValues` are met, those of each clause. -/
theorem met_mAndLInstructionsMoveValues :
    (∃ (s : State) (h : Fin 512) (arr k width rd dm : Nat) (mx my : MemAccess) (x : Shuttle),
      Issues s h (.acc 0 arr k width rd dm mx my) x) ∧
    (∃ (s : State) (h : Fin 512) (op arr k width rd dm v : Nat) (mx my : MemAccess) (x : Shuttle) (c : Instr),
      Issues s h (.acc op arr k width rd dm mx my) x ∧ (c, op, v) ∈ [(.ldaw h, 1, wrap 112 (signed 48 (x.w.getD rd 0))),
      (.mvci h, 4, x.ci), (.addci h, 5, wrap 112 (signed 112 (x.a.getD k 0) + signed 112 x.ci))]) ∧
    (∃ (s : State) (h : Fin 512) (arr k width rd dm : Nat) (mx my : MemAccess) (x : Shuttle),
      Issues s h (.acc 2 arr k width rd dm mx my) x) ∧
    (∃ (s : State) (h : Fin 512) (arr k width rd dm : Nat) (mx my : MemAccess) (x : Shuttle),
      Issues s h (.acc 3 arr k width rd dm mx my) x) ∧
    (∃ (s : State) (h : Fin 512) (dst imm : Nat) (x : Shuttle), Issues s h (.ldi dst imm) x) ∧
    (∃ (s : State) (h : Fin 512) (dst src : Nat) (x : Shuttle), Issues s h (.movr dst src) x ∧ dst < 0x10) ∧
    (∃ (s : State) (h : Fin 512) (dst src : Nat) (x : Shuttle), Issues s h (.movr dst src) x ∧ 0x10 ≤ dst ∧ dst ≤ 0x2A ∧
      dst ≠ 0x29 ∧ src ≤ 0x2A ∧ src ≠ 0x29) ∧
    (∃ (s : State) (h : Fin 512) (dst port addr : Nat) (x : Shuttle), Issues s h (.ldm dst port addr) x ∧ dst ≠ 0x29) ∧
    (∃ (s : State) (h : Fin 512) (dst port addr : Nat) (x : Shuttle), Issues s h (.stm dst port addr) x ∧ dst ≠ 0x29) :=
  ⟨⟨shuttleAt (.acc 0 0 1 0 7 0 idle idle) (busy), 511, 0, 1, 0, 7, 0, idle, idle,
    ((shuttleAt (.acc 0 0 1 0 7 0 idle idle) (busy)).front 511).sh 511, by unfold Issues Stands; decide +kernel⟩,
   ⟨shuttleAt (.acc 4 0 2 0 0 0 idle idle) (busy), 511, 4, 0, 2, 0, 0, 0, 77, idle, idle,
     ((shuttleAt (.acc 4 0 2 0 0 0 idle idle) (busy)).front 511).sh 511, .mvci 511,
     by unfold Issues Stands; decide +kernel, by simp; decide +kernel⟩,
   ⟨shuttleAt (.acc 2 4 0 0 0 0 idle idle) (busy), 511, 4, 0, 0, 0, 0, idle, idle,
     ((shuttleAt (.acc 2 4 0 0 0 0 idle idle) (busy)).front 511).sh 511, by unfold Issues Stands; decide +kernel⟩,
   ⟨shuttleAt (.acc 3 0 1 0 0 0 idle idle) (busy), 511, 0, 1, 0, 0, 0, idle, idle,
     ((shuttleAt (.acc 3 0 1 0 0 0 idle idle) (busy)).front 511).sh 511, by unfold Issues Stands; decide +kernel⟩,
   ⟨shuttleAt (.ldi 5 (2 ^ 48 - 5)) (busy), 511, 5, 2 ^ 48 - 5,
     ((shuttleAt (.ldi 5 (2 ^ 48 - 5)) (busy)).front 511).sh 511, by unfold Issues Stands; decide +kernel⟩,
   ⟨shuttleAt (.movr 15 3) (busy), 511, 15, 3, ((shuttleAt (.movr 15 3) (busy)).front 511).sh 511,
     by unfold Issues Stands; decide +kernel⟩,
   ⟨shuttleAt (.movr 0x10 0x2A) (busy), 511, 0x10, 0x2A, ((shuttleAt (.movr 0x10 0x2A) (busy)).front 511).sh 511,
     by unfold Issues Stands; decide +kernel⟩,
   ⟨shuttleAt (.ldm 0x2A 1 16383) (busy), 511, 0x2A, 1, 16383, ((shuttleAt (.ldm 0x2A 1 16383) (busy)).front 511).sh 511,
     by unfold Issues Stands; decide +kernel⟩,
   ⟨shuttleAt (.stm 0 0 16383) (busy), 511, 0, 0, 16383, ((shuttleAt (.stm 0 0 16383) (busy)).front 511).sh 511,
     by unfold Issues Stands; decide +kernel⟩⟩

/-- The hypotheses of `Obligations.ControlInstructionsAndRuns` are met, those of each clause. -/
theorem met_controlInstructionsAndRuns :
    (∃ (s : State) (h : Fin 512) (x : Shuttle), Issues s h (.ctl 0 0 0) x) ∧
    (∃ (s : State) (h : Fin 512) (cond opd : Nat) (x : Shuttle), Stands s h (.ctl 1 cond opd) x) ∧
    (∃ (s : State) (h : Fin 512) (r opd v : Nat) (x : Shuttle), Stands s h (.ctl 2 r opd) x ∧
      v = (x.wD2.getD r 0 + 2 ^ 48 - 1) % 2 ^ 48) ∧
    (∃ (s : State) (h : Fin 512) (cond opd : Nat) (x : Shuttle), Stands s h (.ctl 3 cond opd) x) ∧
    (∃ (s : State) (h : Fin 512) (cond opd : Nat) (x : Shuttle), Stands s h (.ctl 4 cond opd) x) ∧
    (∃ (s : State) (h : Fin 512) (cond opd : Nat) (x : Shuttle), Stands s h (.ctl 5 cond opd) x) ∧
    (∃ (s : State) (h : Fin 512), s.runs h = true ∧ (s.sh h).waiting = true) ∧
    (∃ (s : State) (h : Fin 512) (cond opd : Nat) (x : Shuttle), Stands s h (.ctl 6 cond opd) x) ∧
    (∃ (s : State) (h : Fin 512) (cond opd : Nat) (x : Shuttle), Stands s h (.ctl 7 cond opd) x) ∧
    (∃ (s : State) (h : Fin 512), s.mayIssue h = true ∧ s.fetched h = none) ∧
    (∃ (s : State) (h : Fin 512), s.runs h = true) ∧
    (∃ (s : State) (h : Fin 512) (i : Nat) (x : Shuttle), s.runs h = true ∧ s.qualifying h = some i ∧ x = (s.front h).sh h)
      ∧
    (∃ (s : State) (h : Fin 512) (e n : Nat), s.shState h = shRunning ∧ (s.sh h).ended = true ∧ s.pwr.halted = false ∧
      e = s.num (shIdx h) 5 ∧ n = (s.sh h).cycles + 6) ∧
    (∃ (s : State) (h : Fin 512) (i : Fin 4), s.mgmt.toShuttles.contains (h.val, i.val) = true) :=
  ⟨⟨shuttleAt (.ctl 0 0 0) (busy), 511, ((shuttleAt (.ctl 0 0 0) (busy)).front 511).sh 511,
    by unfold Issues Stands; decide +kernel⟩,
   ⟨shuttleAt (.ctl 1 0 4095) (busy), 511, 0, 4095, ((shuttleAt (.ctl 1 0 4095) (busy)).front 511).sh 511,
     by unfold Stands; decide +kernel⟩,
   ⟨shuttleAt (.ctl 2 15 4095) ({ busy with wD2 := List.replicate 16 0 }), 511, 15, 4095, 2 ^ 48 - 1,
     ((shuttleAt (.ctl 2 15 4095) ({ busy with wD2 := List.replicate 16 0 })).front 511).sh 511,
     by unfold Stands; decide +kernel⟩,
   ⟨shuttleAt (.ctl 3 0 7) (busy), 511, 0, 7, ((shuttleAt (.ctl 3 0 7) (busy)).front 511).sh 511,
     by unfold Stands; decide +kernel⟩,
   ⟨shuttleAt (.ctl 4 0 0) ({ busy with rc := 0 }), 511, 0, 0,
     ((shuttleAt (.ctl 4 0 0) ({ busy with rc := 0 })).front 511).sh 511, by unfold Stands; decide +kernel⟩,
   ⟨shuttleAt (.ctl 5 0 9) (busy), 511, 0, 9, ((shuttleAt (.ctl 5 0 9) (busy)).front 511).sh 511,
     by unfold Stands; decide +kernel⟩,
   ⟨(rdy.put (shIdx 511) 1 shRunning).setSh 511 fun _ => { busy with waiting := true, waitLeft := 6 }, 511,
     by decide +kernel⟩,
   ⟨shuttleAt (.ctl 6 0 0) (busy), 511, 0, 0, ((shuttleAt (.ctl 6 0 0) (busy)).front 511).sh 511,
     by unfold Stands; decide +kernel⟩,
   ⟨shuttleAt (.ctl 7 0 0) (busy), 511, 0, 0, ((shuttleAt (.ctl 7 0 0) (busy)).front 511).sh 511,
     by unfold Stands; decide +kernel⟩,
   ⟨(rdy.put (shIdx 511) 1 shRunning).setSh 511 fun _ => busy, 511, by decide +kernel⟩,
   ⟨(rdy.put (shIdx 511) 1 shRunning).setSh 511 fun _ => busy, 511, by decide +kernel⟩,
   ⟨(rdy.put (shIdx 511) 1 shRunning).setSh 511 fun _ =>
     { busy with image := List.replicate 10 0 ++ [255, 255] ++ List.replicate 68 0 ++ List.replicate 28 1 ++ List.replicate 4 0 ++ List.replicate 16 9, st := 2 ^ stIE + 2 ^ (32 + 3) + 2 ^ pendBit 3 },
     511, 3, (((rdy.put (shIdx 511) 1 shRunning).setSh 511 fun _ =>
     { busy with image := List.replicate 10 0 ++ [255, 255] ++ List.replicate 68 0 ++ List.replicate 28 1 ++ List.replicate 4 0 ++ List.replicate 16 9, st := 2 ^ stIE + 2 ^ (32 + 3) + 2 ^ pendBit 3 }).front
     511).sh 511, by decide +kernel⟩,
   ⟨((rdy.put (shIdx 511) 1 shRunning).put (shIdx 511) 5 0).setSh 511 fun _ => { busy with ended := true }, 511, 0, 46,
     by decide +kernel⟩,
   ⟨{ rdy with mgmt := { rdy.mgmt with toShuttles := [(3, 1), (511, 3)] } }, 511, 3, by decide +kernel⟩⟩

/-- The hypotheses of `Obligations.TheHostLoadsBindsAndRuns` are met, those of each clause. -/
theorem met_theHostLoadsBindsAndRuns :
    (∃ (s : State) (r : Req) (h : Fin 512) (b : List Byte), AtOnce s r (ent (0x081000 + h) 0) (.oct b) (imageRule h)) ∧
    (∃ (s : State) (r : Req) (h : Fin 512) (b : List Byte), AtOnce s r (ent (0x082000 + h) 0) (.oct b) (dataMemoryRule h) ∧
      b.length ≤ 6 * 16384) ∧
    (∃ (s : State) (r : Req) (h : Fin 512) (k : Fin 4) (v : Nat),
      AtOnce s r (ent (shBindIdx (4 * h + k)) 1) (.num v) (shBindRule (4 * h + k) 1)) ∧
    (∃ (s : State) (r : Req) (h : Fin 512) (v n : Nat), Passes s r (runKey h) (.num v) (runRule h) ∧
      (carried r).toe = .none ∧ n = nextPickOf s (runTb s h) ∧ (pendingCmds s).length < 4096) ∧
    (∃ (s : State) (r : Req) (h : Fin 512) (v : Nat), AtOnce s r (ent (shIdx h) 3) (.num v) (mapoutRule h)) ∧
    (∃ (s : State) (r : Req) (h : Fin 512) (v : Nat), AtOnce s r (ent (shIdx h) 0x0F) (.num v) (mailboxRule h)) ∧
    (∃ (s : State) (r : Req) (h : Fin 512) (v : Nat), AtOnce s r (ent (shIdx h) 2) (.num v) (rptCeilingRule h)) ∧
    (∃ (s : State) (r : Req) (c : Fin 64) (v : Nat), AtOnce s r (ent (0x080400 + c) 3) (.num v) (clusterReinstateRule c) ∧
      taskCost .cluster ≤ s.capacity) ∧
    (∃ (s : State) (h : Fin 512) (port : Bool) (w : BitVec 48) (i : Nat), s.fabricRuns = true ∧ s.pwr.halted = false ∧
      i = (if port then 1 else 0) ∧ ((s.sh h).si.getD i []).length < 32) ∧
    (∃ (s : State) (h : Fin 512) (port : Bool) (w : BitVec 48) (i : Nat), s.fabricRuns = true ∧ s.pwr.halted = false ∧
      i = (if port then 1 else 0) ∧ 32 ≤ ((s.sh h).si.getD i []).length) ∧
    (∃ (s : State) (h : Fin 512) (port : Bool), s.fabricRuns = true ∧ s.pwr.halted = false) ∧
    (∃ (s : State) (h : Fin 512) (failAt : Option Nat) (d : Desc) (rest : List Desc) (f : Fetch),
      (s.sh h).descs = d :: rest ∧ s.pwr.halted = false ∧ f = runDesc s h d failAt) :=
  ⟨⟨rdy, wr, 511, imageOf 5, by unfold AtOnce Passes; decide +kernel⟩,
   ⟨(rdy.put (shIdx 511) 1 1).setSh 511 fun _ => busy, wr, 511, be 6 9 ++ be 6 0 ++ be 6 (2 ^ 48 - 1),
     by unfold AtOnce Passes; decide +kernel⟩,
   ⟨(imaged.put (shBindIdx 2047) 5 2), wr, 511, 3, 1, by unfold AtOnce Passes; decide +kernel⟩,
   ⟨tbOn 7 (imaged.put (shIdx 511) 0x13 7), wr, 511, 0, nextPickOf (tbOn 7 (imaged.put (shIdx 511) 0x13 7)) 7,
     by unfold Passes; decide +kernel⟩,
   ⟨imaged, wr, 511, 1, by unfold AtOnce Passes; decide +kernel⟩,
   ⟨imaged, wr, 511, 2 ^ 32 - 1, by unfold AtOnce Passes; decide +kernel⟩,
   ⟨imaged, wr, 511, 65536, by unfold AtOnce Passes; decide +kernel⟩,
   ⟨(rdy.put (shIdx 511) 1 shFailed).put (shIdx 511) 0x16 1, wr, 63, 1, by unfold AtOnce Passes; decide +kernel⟩,
   ⟨running, 511, true, 7#48, 1, by decide +kernel⟩,
   ⟨running.setSh 511 fun x => { x with si := [[], List.replicate 32 1] }, 511, true, 7#48, 1, by decide +kernel⟩,
   ⟨running.setSh 511 fun x => { x with so := [[1], [2, 3]] }, 511, true, by decide +kernel⟩,
   ⟨rdy.setSh 511 fun _ =>
     { busy with descs := [{ w0 := 0x0E0000000000, w1 := 9 * 2 ^ 34 + 2 ^ 29 + 2 * 2 ^ 16 + 1, w2 := 0, w3 := 5 * 2 ^ 40 + 1 }, {}] },
     511, none, { w0 := 0x0E0000000000, w1 := 9 * 2 ^ 34 + 2 ^ 29 + 2 * 2 ^ 16 + 1, w2 := 0, w3 := 5 * 2 ^ 40 + 1 }, [{}],
     runDesc (rdy.setSh 511 fun _ =>
     { busy with descs := [{ w0 := 0x0E0000000000, w1 := 9 * 2 ^ 34 + 2 ^ 29 + 2 * 2 ^ 16 + 1, w2 := 0, w3 := 5 * 2 ^ 40 + 1 }, {}] })
     511 { w0 := 0x0E0000000000, w1 := 9 * 2 ^ 34 + 2 ^ 29 + 2 * 2 ^ 16 + 1, w2 := 0, w3 := 5 * 2 ^ 40 + 1 } (none),
     by decide +kernel, by decide +kernel, rfl⟩⟩

/-- The hypotheses of `Obligations.PacketsReachTargetsAndInitiators` are met, those of each clause. -/
theorem met_packetsReachTargetsAndInitiators :
    (∃ (s m : State) (p r q : NocPkt) (way : List Hop) (flips : List (Nat × Nat)) (bad : Nat × Nat), r = inFlight s p ∧
      r.kind ≤ kPartial ∧ r.cls ≤ 2 ∧ knownTarget r.target = true ∧ mayArrive s r = true ∧ travel s r none way = .through m
      ∧ q = { r with addr := r.addr / 64 * 64, granules := if r.kind = kPartial then 1 else max 1 (min 16 r.granules) } ∧
      bad = wrongWords r flips ∧ (bad.2 = 0 → niServes s r.target = true → hasRoom s r.target = true)) ∧
    (∃ (s m : State) (p r : NocPkt) (way : List Hop) (flips : List (Nat × Nat)), r = inFlight s p ∧ r.kind ≤ kPartial ∧
      mayArrive s r = true ∧ travel s r none way = .held) ∧
    (∃ (s m : State) (p r : NocPkt) (way : List Hop) (flips : List (Nat × Nat)), r = inFlight s p ∧ r.kind ≤ kPartial ∧
      mayArrive s r = true ∧ travel s r none way = .stopped m) ∧
    (∃ (s m : State) (p r : NocPkt) (way : List Hop) (flips : List (Nat × Nat)), r = inFlight s p ∧ r.kind ≤ kPartial ∧
      mayArrive s r = true ∧ travel s r none way = .through m ∧ (wrongWords r flips).2 = 0 ∧ niServes s r.target = true ∧
      hasRoom s r.target = false) ∧
    (∃ (s m : State) (p r : NocPkt) (way : List Hop) (flips : List (Nat × Nat)) (bad : Nat × Nat), r = inFlight s p ∧
      kReadResp ≤ r.kind ∧ r.kind ≤ kErrorResp ∧ r.init < 1024 ∧ mayArrive s r = true ∧ travel s r none way = .through m ∧
      bad = wrongWords r flips) ∧
    (∃ (s : State) (i : Fin 1024) (tag : Fin 4096) (t : Trans), outstandingReq s i tag = some t) ∧
    (∃ (s : State) (b : Fin 4) (j : Fin 8) (p q : NocPkt) (first : Nat), first = 0x200 + 128 * b + 16 * j ∧
      s.clocksRun = true ∧ q =
      { p with addr := p.addr / 64 * 64 % 2 ^ 48, granules := if p.kind = kPartial then 1 else max 1 (min 16 p.granules) }
      ∧ (p.init < first ∨ first + 16 ≤ p.init ∨ 2 < p.kind)) ∧
    (∃ (s : State) (b : Fin 4) (j : Fin 8) (p q : NocPkt) (first : Nat), first = 0x200 + 128 * b + 16 * j ∧
      s.clocksRun = true ∧ q =
      { p with addr := p.addr / 64 * 64 % 2 ^ 48, granules := if p.kind = kPartial then 1 else max 1 (min 16 p.granules) }
      ∧ first ≤ p.init ∧ p.init < first + 16 ∧ p.kind ≤ 2 ∧
      ((s.noc.outstanding.filter fun t => decide (first ≤ t.pkt.init ∧ t.pkt.init < first + 16)).length < 64) ∧
      targetOf s q.init q.addr = none) ∧
    (∃ (s : State) (b : Fin 4) (j : Fin 8) (p q : NocPkt) (first : Nat) (t : Nat) (m : NocPkt),
      first = 0x200 + 128 * b + 16 * j ∧ s.clocksRun = true ∧ q =
      { p with addr := p.addr / 64 * 64 % 2 ^ 48, granules := if p.kind = kPartial then 1 else max 1 (min 16 p.granules) }
      ∧ first ≤ p.init ∧ p.init < first + 16 ∧ p.kind ≤ 2 ∧
      ((s.noc.outstanding.filter fun t => decide (first ≤ t.pkt.init ∧ t.pkt.init < first + 16)).length < 64) ∧
      targetOf s q.init q.addr = some t ∧ m =
      { q with target := t, epoch := injectEpoch s, cls := min (min q.cls 2) (s.num (initIdx q.init) 1), status := 0 }) ∧
    (∃ (s : State) (b : Fin 4) (j : Fin 8) (p q : NocPkt) (first : Nat), first = 0x200 + 128 * b + 16 * j ∧
      s.clocksRun = true ∧ q =
      { p with addr := p.addr / 64 * 64 % 2 ^ 48, granules := if p.kind = kPartial then 1 else max 1 (min 16 p.granules) }
      ∧ first ≤ p.init ∧ p.init < first + 16 ∧ p.kind ≤ 2 ∧
      (64 ≤ (s.noc.outstanding.filter fun t => decide (first ≤ t.pkt.init ∧ t.pkt.init < first + 16)).length)) ∧
    (∃ (s : State) (b : Fin 4) (j : Fin 8) (p : NocPkt) (q : Nat × NocPkt), s.clocksRun = true ∧ kReadResp ≤ p.kind ∧
      p.kind ≤ kErrorResp ∧ ((s.noc.fabOut.find? fun q => decide (q.1 = 8 * b.val + j.val ∧ q.2.init = p.init ∧ q.2.tag =
      p.tag)) = some q)) :=
  ⟨⟨wired running, wayEnd (travel (wired running)
    ({ kind := 1, target := 0, init := 5, tag := 9, addr := 0x0000000041, granules := 2, data := List.replicate 128 7, mask := 3 })
    none twoHops) (wired running),
    { kind := 1, target := 0, init := 5, tag := 9, addr := 0x0000000041, granules := 2, data := List.replicate 128 7, mask := 3 },
    { kind := 1, target := 0, init := 5, tag := 9, addr := 0x0000000041, granules := 2, data := List.replicate 128 7, mask := 3 },
    { ({ kind := 1, target := 0, init := 5, tag := 9, addr := 0x0000000041, granules := 2, data := List.replicate 128 7, mask := 3 } : NocPkt) with addr := ({ kind := 1, target := 0, init := 5, tag := 9, addr := 0x0000000041, granules := 2, data := List.replicate 128 7, mask := 3 } : NocPkt).addr / 64 * 64, granules := if ({ kind := 1, target := 0, init := 5, tag := 9, addr := 0x0000000041, granules := 2, data := List.replicate 128 7, mask := 3 } : NocPkt).kind = kPartial then 1 else max 1 (min 16 ({ kind := 1, target := 0, init := 5, tag := 9, addr := 0x0000000041, granules := 2, data := List.replicate 128 7, mask := 3 } : NocPkt).granules) },
    twoHops, [], wrongWords
    ({ kind := 1, target := 0, init := 5, tag := 9, addr := 0x0000000041, granules := 2, data := List.replicate 128 7, mask := 3 })
    [], (by decide +kernel), (by decide +kernel), (by decide +kernel), (by decide +kernel), (by decide +kernel), through_of
    _ _ (by decide +kernel), rfl, rfl, (by decide +kernel)⟩,
   ⟨wired running, rdy, { kind := 0, target := 0x40, init := 5, tag := 9, addr := 0x0F0000000000 },
     { kind := 0, target := 0x40, init := 5, tag := 9, addr := 0x0F0000000000 }, [], [], (by decide +kernel),
     (by decide +kernel), (by decide +kernel), held_of _ (by decide +kernel)⟩,
   ⟨(wired running).put (linkIdx 0) 3 lkFailed, wayEnd (travel ((wired running).put (linkIdx 0) 3 lkFailed)
     ({ kind := 0, target := 0x40, init := 5, tag := 9, addr := 0x0F0000000000 }) none twoHops) ((wired running).put
     (linkIdx 0) 3 lkFailed), { kind := 0, target := 0x40, init := 5, tag := 9, addr := 0x0F0000000000 },
     { kind := 0, target := 0x40, init := 5, tag := 9, addr := 0x0F0000000000 }, twoHops, [], (by decide +kernel),
     (by decide +kernel), (by decide +kernel), stopped_of _ _ (by decide +kernel)⟩,
   ⟨{ wired running with noc := { (wired running).noc with fabOut := List.replicate 64 (0, {}) } }, wayEnd (travel
     ({ wired running with noc := { (wired running).noc with fabOut := List.replicate 64 (0, {}) } })
     ({ kind := 0, target := 0x40, init := 5, tag := 9, addr := 0x0F0000000000 }) none twoHops)
     ({ wired running with noc := { (wired running).noc with fabOut := List.replicate 64 (0, {}) } }),
     { kind := 0, target := 0x40, init := 5, tag := 9, addr := 0x0F0000000000 },
     { kind := 0, target := 0x40, init := 5, tag := 9, addr := 0x0F0000000000 }, twoHops, [], (by decide +kernel),
     (by decide +kernel), (by decide +kernel), through_of _ _ (by decide +kernel), (by decide +kernel),
     (by decide +kernel), (by decide +kernel)⟩,
   ⟨{ wired running with noc := { running.noc with outstanding := [{ pkt := { kind := 0, init := 5, tag := 9 }, since := 0 }] } },
     wayEnd (travel
     ({ wired running with noc := { running.noc with outstanding := [{ pkt := { kind := 0, init := 5, tag := 9 }, since := 0 }] } })
     ({ kind := 3, init := 5, tag := 9, data := List.replicate 64 7 }) none twoHops)
     ({ wired running with noc := { running.noc with outstanding := [{ pkt := { kind := 0, init := 5, tag := 9 }, since := 0 }] } }),
     { kind := 3, init := 5, tag := 9, data := List.replicate 64 7 },
     { kind := 3, init := 5, tag := 9, data := List.replicate 64 7 }, twoHops, [],
     wrongWords ({ kind := 3, init := 5, tag := 9, data := List.replicate 64 7 }) [], (by decide +kernel),
     (by decide +kernel), (by decide +kernel), (by decide +kernel), (by decide +kernel), through_of _ _
     (by decide +kernel), rfl⟩,
   ⟨{ running with noc := { running.noc with outstanding := [{ pkt := { init := 1023, tag := 4095 }, since := 0 }] } },
     1023, 4095, { pkt := { init := 1023, tag := 4095 }, since := 0 }, by decide +kernel⟩,
   ⟨running, 3, 7, { kind := 0, init := 5, addr := 77 },
     { ({ kind := 0, init := 5, addr := 77 } : NocPkt) with addr := ({ kind := 0, init := 5, addr := 77 } : NocPkt).addr / 64 * 64 % 2 ^ 48, granules := if ({ kind := 0, init := 5, addr := 77 } : NocPkt).kind = kPartial then 1 else max 1 (min 16 ({ kind := 0, init := 5, addr := 77 } : NocPkt).granules) },
     1008, by decide +kernel⟩,
   ⟨running, 3, 7, { kind := 0, init := 1023, addr := 0x0D0000000000 },
     { ({ kind := 0, init := 1023, addr := 0x0D0000000000 } : NocPkt) with addr := ({ kind := 0, init := 1023, addr := 0x0D0000000000 } : NocPkt).addr / 64 * 64 % 2 ^ 48, granules := if ({ kind := 0, init := 1023, addr := 0x0D0000000000 } : NocPkt).kind = kPartial then 1 else max 1 (min 16 ({ kind := 0, init := 1023, addr := 0x0D0000000000 } : NocPkt).granules) },
     1008, by decide +kernel⟩,
   ⟨running, 3, 7, { kind := 2, init := 1023, addr := 0x0E0000000043, cls := 2 },
     { ({ kind := 2, init := 1023, addr := 0x0E0000000043, cls := 2 } : NocPkt) with addr := ({ kind := 2, init := 1023, addr := 0x0E0000000043, cls := 2 } : NocPkt).addr / 64 * 64 % 2 ^ 48, granules := if ({ kind := 2, init := 1023, addr := 0x0E0000000043, cls := 2 } : NocPkt).kind = kPartial then 1 else max 1 (min 16 ({ kind := 2, init := 1023, addr := 0x0E0000000043, cls := 2 } : NocPkt).granules) },
     1008, (targetOf running 1023 0x0E0000000040).getD 0,
     { ({ ({ kind := 2, init := 1023, addr := 0x0E0000000043, cls := 2 } : NocPkt) with addr := ({ kind := 2, init := 1023, addr := 0x0E0000000043, cls := 2 } : NocPkt).addr / 64 * 64 % 2 ^ 48, granules := if ({ kind := 2, init := 1023, addr := 0x0E0000000043, cls := 2 } : NocPkt).kind = kPartial then 1 else max 1 (min 16 ({ kind := 2, init := 1023, addr := 0x0E0000000043, cls := 2 } : NocPkt).granules) } : NocPkt) with target := (targetOf running 1023 0x0E0000000040).getD 0, epoch := injectEpoch running, cls := min (min 2 2) (running.num (initIdx 1023) 1), status := 0 },
     by decide +kernel⟩,
   ⟨{ running with noc := { running.noc with outstanding := List.replicate 64 { pkt := { init := 1008 }, since := 0 } } },
     3, 7, { kind := 2, init := 1023, addr := 0x0E0000000043, cls := 2 },
     { ({ kind := 2, init := 1023, addr := 0x0E0000000043, cls := 2 } : NocPkt) with addr := ({ kind := 2, init := 1023, addr := 0x0E0000000043, cls := 2 } : NocPkt).addr / 64 * 64 % 2 ^ 48, granules := if ({ kind := 2, init := 1023, addr := 0x0E0000000043, cls := 2 } : NocPkt).kind = kPartial then 1 else max 1 (min 16 ({ kind := 2, init := 1023, addr := 0x0E0000000043, cls := 2 } : NocPkt).granules) },
     1008, by decide +kernel⟩,
   ⟨{ running with noc := { running.noc with fabOut := [(31, { init := 5, tag := 9 })] } }, 3, 7,
     { kind := 5, init := 5, tag := 9 }, (31, { init := 5, tag := 9 }), by decide +kernel⟩⟩

/-- The hypotheses of `Obligations.LinksNarrowAndTablesSwap` are met, those of each clause. -/
theorem met_linksNarrowAndTablesSwap :
    (∃ (s : State) (l : Fin 160) (back : Bool) (k : Option (Fin 32)) (lane0 lane1 : Flips) (n : Nat),
      (laneFaulty lane0 || laneFaulty lane1) = true ∧ s.num (linkIdx l) 3 ≠ lkFailed ∧ replayed s l back k = some n) ∧
    (∃ (s : State) (l : Fin 160) (back : Bool) (k : Option (Fin 32)) (lane0 lane1 : Flips), laneFaulty lane0 = false ∧
      laneFaulty lane1 = false) ∧
    (∃ (s : State) (l : Fin 160) (lane : Fin 4) (transfers : List Flips), laneBad transfers = false) ∧
    (∃ (s : State) (l : Fin 160) (lane : Fin 4) (transfers : List Flips), laneBad transfers = true ∧
      s.num (linkIdx l) 4 / 2 ^ lane.val % 2 = 0 ∧ s.num (linkIdx l) 3 ≠ lkFailed) ∧
    (∃ (s : State) (l : Fin 160) (dur : Nat), s.num (linkIdx l) 3 = lkNarrowing ∧ dur ≤ 12000) ∧
    (∃ (s : State) (r : Req) (l : Fin 160) (v : Nat), AtOnce s r (ent (linkIdx l) 8) (.num v) (linkRetrainRule l)) ∧
    (∃ (s : State) (l : Fin 160) (ok : Bool), s.num (linkIdx l) 5 = 1) ∧
    (∃ (s : State) (r : Req) (l : Fin 160) (v : Nat), AtOnce s r (ent (linkIdx l) 9) (.num v) (linkReinstateRule l) ∧
      taskCost .nocLink ≤ s.capacity) ∧
    (∃ (s : State) (r : Req) (v : Nat), AtOnce s r (ent 0x090000 1) (.num v) swapRule) ∧
    (∃ (s : State), s.noc.swapDue = true ∧ s.ruling.window = true) ∧
    (∃ (s : State), (s.noc.swapDue = false ∨ s.ruling.window = false)) ∧
    (∃ (s : State), s.num 0x090000 2 = 3 ∧ oldEpochLeft s = false) ∧
    (∃ (s : State), (s.num 0x090000 2 ≠ 3 ∨ oldEpochLeft s = true)) ∧
    (∃ (s : State) (t : Fin 96), s.ni t = niDraining ∧ acceptedAt s t = []) ∧
    (∃ (s : State) (t : Fin 96), acceptedAt s t ≠ []) ∧
    (∃ (s : State) (r : Req) (v : Nat), AtOnce s r (ent 0x090000 7) (.num v) statsClearRule) :=
  ⟨⟨rdy, 159, false, none, [5], [], 0, by decide +kernel⟩,
   ⟨rdy, 159, false, none, [], [290, 291], by decide +kernel⟩,
   ⟨rdy, 159, 3, List.replicate 3 [5], by decide +kernel⟩,
   ⟨rdy, 159, 3, List.replicate 4 [5], by decide +kernel⟩,
   ⟨rdy.put (linkIdx 159) 3 lkNarrowing, 159, 12000, by decide +kernel⟩,
   ⟨rdy.put (linkIdx 159) 3 lkNarrow, wr, 159, 1, by unfold AtOnce Passes; decide +kernel⟩,
   ⟨rdy.put (linkIdx 159) 5 1, 159, true, by decide +kernel⟩,
   ⟨rdy.put (linkIdx 159) 5 2, wr, 159, 1, by unfold AtOnce Passes; decide +kernel⟩,
   ⟨rdy.put 0x090000 2 1, wr, 1, by unfold AtOnce Passes; decide +kernel⟩,
   ⟨{ rdy with ruling := { rdy.ruling with window := true }, noc := { rdy.noc with swapDue := true, swapPend := true, swapCmds := [{ who := .session 0, trans := 5}] } },
     by decide +kernel⟩,
   ⟨rdy, by decide +kernel⟩,
   ⟨(rdy.put 0x090000 2 3), by decide +kernel⟩,
   ⟨rdy, by decide +kernel⟩,
   ⟨rdy.put (0x090800 + 95) 1 niDraining, 95, by decide +kernel⟩,
   ⟨{ rdy with noc := { rdy.noc with accepted := [{ target := 95 }] } }, 95, by decide +kernel⟩,
   ⟨rdy.put 0x090400 1 55, wr, 1, by unfold AtOnce Passes; decide +kernel⟩⟩

/-- The hypotheses of `Obligations.ChannelsRefreshTrackAndServe` are met, those of each clause. -/
theorem met_channelsRefreshTrackAndServe :
    (∃ (s : State) (c : Fin 32) (r : Fin 2) (x : Rank) (t : State), (s.mch c).ranks[r.val]? = some x ∧
      s.mcState c = mcOnline ∧ x.selfRef = false ∧ t = s.waitUntil x.dueAt) ∧
    (∃ (s : State) (c : Fin 32), (s.mch c).panicUntil ≠ 0 ∧ (s.mch c).panicking = false) ∧
    (∃ (s : State) (c : Fin 32) (r : Fin 2) (x : Rank), (s.mch c).ranks[r.val]? = some x ∧ s.num 0x0A0000 4 ≠ 0 ∧
      x.down = false ∧ x.selfRef = false ∧ rankQueued s c r = false ∧ s.mcState c = mcOnline ∧
      underPanic (s.waitUntil (x.idleAt + s.num 0x0A0000 4)) c = false) ∧
    (∃ (s : State) (c : Fin 32) (mr4 : BitVec 3) (mr4Ok patternOk : Bool), s.mcState c = mcOnline ∧
      c.val < s.mem.chans.length) ∧
    (∃ (s : State) (c : Fin 32) (ranks : Fin 3) (density : Nat) (failedStep : Option (Fin 6)), s.mcState c = mcTraining ∧
      c.val < s.mem.chans.length) ∧
    (∃ (s : State) (t : Fin 64) (ix : Nat) (ups : List (BitVec 26 × Bool)) (p : NocPkt), t.val < 32 ∧ s.pwr.halted = false
      ∧ s.mcState t = mcOnline ∧ nextIssue s t = some ix ∧ p = (s.mch t).queue.getD ix {} ∧ packetAccess s p = .plain) ∧
    (∃ (s : State) (t : Fin 64) (ix : Nat) (ups : List (BitVec 26 × Bool)) (p : NocPkt), t.val < 32 ∧ s.pwr.halted = false
      ∧ s.mcState t = mcOnline ∧ nextIssue s t = some ix ∧ p = (s.mch t).queue.getD ix {} ∧
      packetAccess s p = .guarded (p.addr / 2 ^ 44) ∧ overflowBlocks s (p.addr / 2 ^ 44) p = false ∧
      s.slInteg (p.addr / 2 ^ 44) = true ∧ p.kind = kRead) ∧
    (∃ (s : State) (t : Fin 64) (ix : Nat) (ups : List (BitVec 26 × Bool)), 48 ≤ t.val) ∧
    (∃ (s m : State) (t : Fin 64) (ix : Nat) (ups : List (BitVec 26 × Bool)) (p : NocPkt), 32 ≤ t.val ∧ t.val < 48 ∧
      ((s.mem.archQ.find? fun p => decide (p.target = t.val)) = some p) ∧ m = addUpsets s ((t.val - 32) / 4) ups) :=
  ⟨⟨online 31 [] running, 31, 0, { dueAt := 900, rows := [(1, 5)] }, (online 31 [] running).waitUntil 900,
    by decide +kernel⟩,
   ⟨(online 31 [] running).setMch 31 fun x => { x with panicUntil := 5000, panicAt := 10 }, 31, by decide +kernel⟩,
   ⟨(online 31 [] running).put 0x0A0000 4 5, 31, 0, { dueAt := 900, rows := [(1, 5)] }, by decide +kernel⟩,
   ⟨online 31 [] running, 31, 5#3, true, true, by decide +kernel⟩,
   ⟨running.put (mchIdx 31) 1 mcTraining, 31, 2, 16, none, by decide +kernel⟩,
   ⟨{ (online 0 [{ kind := kWrite, init := 5, tag := 9, target := 0, addr := 0x40, granules := 1, data := List.replicate 64 7, mask := 3 }] (slotted slDisabled)) with noc := { running.noc with accepted := [{ kind := kWrite, init := 5, tag := 9, target := 0, addr := 0x40, granules := 1, data := List.replicate 64 7, mask := 3 }] } },
     0, 0, [],
     { kind := kWrite, init := 5, tag := 9, target := 0, addr := 0x40, granules := 1, data := List.replicate 64 7, mask := 3 },
     by decide +kernel⟩,
   ⟨online 0
     [{ kind := kRead, init := 5, tag := 9, target := 0, addr := (15 * 2 ^ 44 + 64), granules := 1, data := List.replicate 64 7, mask := 3 }]
     (slotted slActive), 0, 0, [],
     { kind := kRead, init := 5, tag := 9, target := 0, addr := (15 * 2 ^ 44 + 64), granules := 1, data := List.replicate 64 7, mask := 3 },
     by decide +kernel⟩,
   ⟨running, 63, 0, [], by decide +kernel⟩,
   ⟨{ running with mem := { running.mem with archQ := [{ kind := kRead, init := 5, tag := 9, target := 35, addr := 0x0E000C000040, granules := 1, data := List.replicate 64 7, mask := 3 }] }, noc := { running.noc with accepted := [{ kind := kRead, init := 5, tag := 9, target := 35, addr := 0x0E000C000040, granules := 1, data := List.replicate 64 7, mask := 3 }] } },
     addUpsets
     ({ running with mem := { running.mem with archQ := [{ kind := kRead, init := 5, tag := 9, target := 35, addr := 0x0E000C000040, granules := 1, data := List.replicate 64 7, mask := 3 }] }, noc := { running.noc with accepted := [{ kind := kRead, init := 5, tag := 9, target := 35, addr := 0x0E000C000040, granules := 1, data := List.replicate 64 7, mask := 3 }] } })
     0 [(0x40#26, true), (0#26, false)], 0x23, 0, [(0x40#26, true), (0#26, false)],
     { kind := kRead, init := 5, tag := 9, target := 35, addr := 0x0E000C000040, granules := 1, data := List.replicate 64 7, mask := 3 },
     by decide +kernel⟩⟩

/-- The hypotheses of `Obligations.KeySlotsProtectAndHalt` are met, those of each clause. -/
theorem met_keySlotsProtectAndHalt :
    (∃ (s : State) (r : Req) (k : Fin 16), AtOnce s r (ent (slIdx k) 2) (.num 1) (slotEnableRule k)) ∧
    (∃ (s : State) (r : Req) (k : Fin 16), AtOnce s r (ent (slIdx k) 2) (.num 0) (slotEnableRule k)) ∧
    (∃ (s : State) (k : Fin 16), s.slState k = slInitialising ∧ s.pwr.halted = false ∧
      (channelsOf s (boltOf (s.dataBase k))).all (fun c => s.mcState c == mcOnline) = true) ∧
    (∃ (s : State) (k : Fin 16), (s.slState k ≠ slInitialising ∨ s.pwr.halted = true)) ∧
    (∃ (s t : State) (p : NocPkt) (k : Nat) (j : Nat) (v : State) (b : List Byte), s.pwr.halted = false ∧
      k = p.addr / 2 ^ 44 ∧ t = unholdReq s p ∧ ((s.itg.waiting.find? fun p => decide (p.kind = kRead ∧ (!overflowBlocks s
      (p.addr / 2 ^ 44) p) = true)) = some p) ∧ packetAccess t p = .guarded j ∧
      readGuarded k t (granuleLocs p) = .ok (v, b)) ∧
    (∃ (s t : State) (p : NocPkt) (k : Nat) (j : Nat) (cause : Nat) (addr : Nat) (level : Nat), s.pwr.halted = false ∧
      k = p.addr / 2 ^ 44 ∧ t = unholdReq s p ∧ ((s.itg.waiting.find? fun p => decide (p.kind = kRead ∧ (!overflowBlocks s
      (p.addr / 2 ^ 44) p) = true)) = some p) ∧ packetAccess t p = .guarded j ∧
      readGuarded k t (granuleLocs p) = .error (.halt cause addr level)) ∧
    (∃ (s t : State) (p : NocPkt) (k : Nat) (j : Nat), s.pwr.halted = false ∧ k = p.addr / 2 ^ 44 ∧ t = unholdReq s p ∧
      ((s.itg.waiting.find? fun p => decide (p.kind = kRead ∧ (!overflowBlocks s (p.addr / 2 ^ 44) p) = true)) = some p) ∧
      packetAccess t p = .guarded j ∧ readGuarded k t (granuleLocs p) = .error .refused) ∧
    (∃ (s t : State) (p : NocPkt) (k : Nat), s.pwr.halted = false ∧ k = p.addr / 2 ^ 44 ∧ t = unholdReq s p ∧
      ((s.itg.waiting.find? fun p => decide (p.kind = kRead ∧ (!overflowBlocks s (p.addr / 2 ^ 44) p) = true)) = some p) ∧
      (∀ j, packetAccess t p ≠ .guarded j)) ∧
    (∃ (s : State), (s.pwr.halted = true ∨ s.itg.waiting = [])) ∧
    (∃ (s : State), s.itg.haltLatched = true) ∧
    (∃ (s : State), s.itg.haltLatched = false) ∧
    (∃ (s : State) (k : Fin 16) (loc : Nat), s.pwr.halted = false ∧ (s.slot k).overflow = some loc) ∧
    (∃ (s : State) (k : Fin 16) (level idx : Nat) (n : CacheNode), cached s k level idx = some n ∧ s.pwr.halted = false ∧
      n.dirty = false) ∧
    (∃ (s : State) (k : Fin 16) (level idx : Nat) (n : CacheNode), cached s k level idx = some n ∧ s.pwr.halted = false ∧
      n.dirty = true ∧ refusesMeta s (nodeLoc s k level idx) = true ∧ s.slState k ≠ slDisabled ∧ s.slState k ≠ slFailed) ∧
    (∃ (s : State) (k : Fin 16) (level idx : Nat) (n : CacheNode) (t : State), cached s k level idx = some n ∧
      s.pwr.halted = false ∧ n.dirty = true ∧ refusesMeta s (nodeLoc s k level idx) = false ∧ evict s k level idx = .ok t)
      ∧
    (∃ (s : State) (k : Fin 16) (b : Nat), converting s k = true ∧ conversionBlocked s k = false ∧ b = s.num (slIdx k) 9 ∧
      s.slInteg k = false ∧ (s.slot k).held = false ∧ rekeyAtEnd s k = false ∧ (s.slot k).back = false ∧
      b + 4096 ≠ s.dataBase k + s.dataSize k ∧
      (∀ i, i < 64 → refusesMeta s (s.dataBase k + 4096 * ((b - s.dataBase k) / 4096) + 64 * i) = false)) ∧
    (∃ (s : State) (k : Fin 16) (b : Nat), converting s k = true ∧ conversionBlocked s k = false ∧ b = s.num (slIdx k) 9 ∧
      s.slInteg k = false ∧ (s.slot k).held = false ∧ rekeyAtEnd s k = false ∧ (s.slot k).back = false ∧
      refusesMeta s (s.dataBase k + 4096 * ((b - s.dataBase k) / 4096)) = true) ∧
    (∃ (s : State) (k : Fin 16) (b : Nat), converting s k = true ∧ conversionBlocked s k = false ∧ b = s.num (slIdx k) 9 ∧
      s.slInteg k = false ∧ (s.slot k).held = false ∧ rekeyAtEnd s k = true ∧ (s.slot k).back = false ∧
      k.val < s.itg.slots.length) ∧
    (∃ (s : State) (k : Fin 16), 2 ^ 63 ≤ s.num (slIdx k) 8 ∧ s.pwr.halted = false ∧ (s.slot k).told = false ∧
      s.slState k = slActive) ∧
    (∃ (s : State) (k : Fin 16), 2 ^ 63 ≤ s.num (slIdx k) 8 ∧ s.pwr.halted = false ∧ (s.slot k).told = false ∧
      s.slState k = slRekeying) ∧
    (∃ (s : State) (k : Fin 16), ((s.slot k).told = true ∨ s.num (slIdx k) 8 < 2 ^ 63)) :=
  ⟨⟨slotted slDisabled, wr, 15, by unfold AtOnce Passes; decide +kernel⟩,
   ⟨slotted slActive, wr, 15, by unfold AtOnce Passes; decide +kernel⟩,
   ⟨(List.range 8).foldl (fun s c => s.put (mchIdx c) 1 mcOnline) ((slotted slInitialising).put (slIdx 15) 5 4096), 15,
     by decide +kernel⟩,
   ⟨rdy, 15, by decide +kernel⟩,
   ⟨{ (sealed) with itg := { ((sealed)).itg with waiting := [guardedReq kRead] } }, unholdReq
     ({ (sealed) with itg := { ((sealed)).itg with waiting := [guardedReq kRead] } }) (guardedReq kRead), guardedReq kRead,
     15, 15, (okOr (readGuarded 15 (unholdReq
     ({ (sealed) with itg := { ((sealed)).itg with waiting := [guardedReq kRead] } }) (guardedReq kRead)) [64]) (sealed,
     [])).1, (okOr (readGuarded 15 (unholdReq
     ({ (sealed) with itg := { ((sealed)).itg with waiting := [guardedReq kRead] } }) (guardedReq kRead)) [64]) (sealed,
     [])).2, by decide +kernel, by decide +kernel, rfl, by decide +kernel, by decide +kernel, ok_pair_of _ (sealed, [])
     (by decide +kernel)⟩,
   ⟨{ (slotted slActive) with itg := { ((slotted slActive)).itg with waiting := [guardedReq kRead] } }, unholdReq
     ({ (slotted slActive) with itg := { ((slotted slActive)).itg with waiting := [guardedReq kRead] } }) (guardedReq
     kRead), guardedReq kRead, 15, 15, 0, 15 * 2 ^ 44 + 64, 255, by decide +kernel, by decide +kernel, rfl,
     by decide +kernel, by decide +kernel, halts_of _ _ (by decide +kernel)⟩,
   ⟨{ (slotted slActive |>.put 0x090800 1 niOffline) with itg := { ((slotted slActive |>.put 0x090800 1 niOffline)).itg with waiting := [guardedReq kRead] } },
     unholdReq
     ({ (slotted slActive |>.put 0x090800 1 niOffline) with itg := { ((slotted slActive |>.put 0x090800 1 niOffline)).itg with waiting := [guardedReq kRead] } })
     (guardedReq kRead), guardedReq kRead, 15, 15, by decide +kernel, by decide +kernel, rfl, by decide +kernel,
     by decide +kernel, halts_of _ _ (by decide +kernel)⟩,
   ⟨{ rdy with itg := { (rdy).itg with waiting := [guardedReq kRead] } },
     unholdReq ({ rdy with itg := { (rdy).itg with waiting := [guardedReq kRead] } }) (guardedReq kRead), guardedReq kRead,
     15, by decide +kernel, by decide +kernel, rfl, by decide +kernel, barred_of 15 (by decide +kernel)⟩,
   ⟨rdy, by decide +kernel⟩,
   ⟨{ rdy with itg := { rdy.itg with haltLatched := true } }, by decide +kernel⟩,
   ⟨rdy, by decide +kernel⟩,
   ⟨(slotted slActive).setSlot 15 fun x => { x with overflow := some 64 }, 15, 64, by decide +kernel⟩,
   ⟨slotted slActive, 15, 0, 0,
     { slot := 15, level := 0, idx := 0, major := 5, minors := List.replicate 64 3, dirty := false }, by decide +kernel⟩,
   ⟨{ (slotted slActive) with itg := { ((slotted slActive)).itg with cache := [{ slot := 15, level := 0, idx := 0, major := 5, minors := List.replicate 64 3, dirty := true }] } }
     |>.put (0x090800) 1 niOffline, 15, 0, 0,
     { slot := 15, level := 0, idx := 0, major := 5, minors := List.replicate 64 3, dirty := true }, by decide +kernel⟩,
   ⟨{ ((List.range 8).foldl (fun s c => s.put (mchIdx c) 1 mcOnline) (slotted slActive)) with itg := { (((List.range 8).foldl (fun s c => s.put (mchIdx c) 1 mcOnline) (slotted slActive))).itg with cache := [{ slot := 15, level := 0, idx := 0, major := 5, minors := List.replicate 64 3, dirty := true }] } },
     15, 0, 0, { slot := 15, level := 0, idx := 0, major := 5, minors := List.replicate 64 3, dirty := true }, match evict
     ({ ((List.range 8).foldl (fun s c => s.put (mchIdx c) 1 mcOnline) (slotted slActive)) with itg := { (((List.range 8).foldl (fun s c => s.put (mchIdx c) 1 mcOnline) (slotted slActive))).itg with cache := [{ slot := 15, level := 0, idx := 0, major := 5, minors := List.replicate 64 3, dirty := true }] } })
     15 0 0 with | .ok a => a | .error _ => rdy, by decide +kernel, by decide +kernel, rfl, by decide +kernel, ok_of _ rdy
     (by decide +kernel)⟩,
   ⟨(slotted slRekeying).put (slIdx 15) 3 0 |>.put (slIdx 15) 9 8192, 15, 8192, by decide +kernel⟩,
   ⟨(slotted slRekeying).put (slIdx 15) 3 0 |>.put (slIdx 15) 9 8192 |>.put 0x090800 1 niOffline, 15, 8192,
     by decide +kernel⟩,
   ⟨(slotted slRekeying).put (slIdx 15) 3 0 |>.put (slIdx 15) 9 (2 ^ 18), 15, 2 ^ 18, by decide +kernel⟩,
   ⟨(slotted slActive).put (slIdx 15) 8 (2 ^ 63), 15, by decide +kernel⟩,
   ⟨(slotted slRekeying).put (slIdx 15) 8 (2 ^ 63), 15, by decide +kernel⟩,
   ⟨(slotted slActive).put (slIdx 15) 8 (2 ^ 63 - 1), 15, by decide +kernel⟩⟩

/-- The hypotheses of `Obligations.UpdatesStageActivateAndConfirm` are met, those of each clause. -/
theorem met_updatesStageActivateAndConfirm :
    (∃ (s : State) (b : List Byte), (s.cap.phase = .off ∨ s.cap.phase = .booting)) ∧
    (∃ (s : State) (b : List Byte), s.cap.phase ≠ .off ∧ s.cap.phase ≠ .booting ∧
      (s.upd.svcReq = true ∨ s.upd.svcRsp.isSome = true)) ∧
    (∃ (s : State) (b : List Byte) (f : TxFrame) (key : Nat) (x : Seen),
      f = { port := .svc, ip := List.replicate 16 0, udp := 0, bytes := b } ∧ MgcIdle s ∧
      (s.cap.phase = .unsealed ∨ s.cap.phase = .served) ∧ s.upd.svcReq = false ∧ s.upd.svcRsp = none ∧
      wellFormedFrame b = true ∧ fMcast b = false ∧ fSession b = 0 ∧ fCrit b = false ∧ fAtomic b = false ∧ fToe b = .none ∧
      s.num 0x100000 0x0D = 0 ∧ cachedFor s f = none ∧ (∀ n, n < 8 → s.sesState n = 0) ∧ s.cap.staged = [] ∧
      fRecs b = some [{ op := 1, rflags := 0, key := key, value := [] }] ∧ key / 256 ≤ 0x00FFFF ∧ seen s key = some x ∧
      x.field.acc ≠ .wo ∧ x.priv = false ∧ x.field.ty ≠ .octets ∧ 50 + (readBytes s key).length ≤ 8192) ∧
    (∃ (s : State), s.pwr.mgcOn = true) ∧
    (∃ (s : State), s.pwr.mgcOn = true) ∧
    (∃ (s : State) (r : Req) (n : Nat), AtOnce s r (ent 0x100100 2) (.num n) openRule) ∧
    (∃ (s : State) (r : Req) (idx crc i : Nat) (data b : List Byte), b = be 4 idx ++ be 2 data.length ++ data ++ be 4 crc ∧
      i = fieldBE b 0 4 ∧ AtOnce s r (ent 0x100101 0) (.oct b) chunkRule) ∧
    (∃ (s : State), s.sgState = sgVerifying) ∧
    (∃ (s : State), s.sgState ≠ sgVerifying) ∧
    (∃ (s : State), (s.sgState = sgReceiving ∨ s.sgState = sgVerifying)) ∧
    (∃ (s : State) (r : Req) (n : Nat) (c : TimedCmd), Passes s r (ent 0x100100 0x0A) (.num 1) activateRule ∧
      (carried r).toe = .none ∧ n = activationPick s ∧ c = timedCmd s r 0 s.rulingNext n (ent 0x100100 0x0A) (.num 1) ∧
      admits s c = true) ∧
    (∃ (s : State) (r : Req), AtOnce s r (ent 0x100100 0x0A) (.num 0) activateRule) ∧
    (∃ (s : State) (failed : Option (Fin 6)), s.sgState = sgArmed ∧ s.upd.prepared = false) ∧
    (∃ (s : State), s.num 0x100000 0x0D ≠ 0 ∧ s.upd.revert = false ∧ s.now ≤ s.upd.switchAt + second ∧ MgcIdle s) ∧
    (∃ (s : State), (s.num 0x100000 0x0D = 0 ∨ s.upd.revert = true ∨ s.upd.switchAt + second < s.now) ∧ MgcIdle s) ∧
    (∃ (s : State), s.num 0x100000 0x0D ≠ 0 ∧ s.upd.revert = false ∧ MgcIdle s) :=
  ⟨⟨State.reset, [1], by decide +kernel⟩,
   ⟨rdy.setUpd fun u => { u with svcReq := true }, [1], by decide +kernel⟩,
   ⟨quiet, (readFrame quiet (ent 0x000002 0)),
     { port := .svc, ip := List.replicate 16 0, udp := 0, bytes := (readFrame quiet (ent 0x000002 0)) }, ent 0x000002 0,
     portSeen, by unfold MgcIdle; decide +kernel⟩,
   ⟨rdy, by decide +kernel⟩,
   ⟨rdy.setUpd fun u => { u with svcRsp := some [5] }, by decide +kernel⟩,
   ⟨rdy, wr, 5, by unfold AtOnce Passes; decide +kernel⟩,
   ⟨(((putSg rdy sgReceiving).put 0x100100 3 2).put 0x100100 4 1),
     { who := .service, crit := false, toe := .none, trans := 0 }, 1, crc32c (List.replicate 1024 7), 1,
     List.replicate 1024 7, be 4 1 ++ be 2 1024 ++ List.replicate 1024 7 ++ be 4 (crc32c (List.replicate 1024 7)),
     by unfold AtOnce Passes; decide +kernel⟩,
   ⟨(putSg rdy sgVerifying).put 0x100100 3 1, by decide +kernel⟩,
   ⟨rdy, by decide +kernel⟩,
   ⟨putSg rdy sgReceiving, by decide +kernel⟩,
   ⟨putSg (tbOn 0 rdy) sgVerified, wr, activationPick (putSg (tbOn 0 rdy) sgVerified), timedCmd (putSg (tbOn 0 rdy)
     sgVerified) wr 0 (putSg (tbOn 0 rdy) sgVerified).rulingNext (activationPick (putSg (tbOn 0 rdy) sgVerified)) (ent
     0x100100 0x0A) (.num 1), by unfold Passes; decide +kernel⟩,
   ⟨rdy, wr, by unfold AtOnce Passes; decide +kernel⟩,
   ⟨(putSg rdy sgArmed).setUpd fun u => { u with prepared := false }, none, by decide +kernel⟩,
   ⟨rdy.put 0x100000 0x0D 1, by unfold MgcIdle; decide +kernel⟩,
   ⟨rdy, by unfold MgcIdle; decide +kernel⟩,
   ⟨rdy.put 0x100000 0x0D 1, by unfold MgcIdle; decide +kernel⟩⟩

/-- The hypotheses of `Obligations.WritesAreRefusedAcceptedOrApplied` are met, those of each clause. -/
theorem met_writesAreRefusedAcceptedOrApplied :
    (∃ (c : Instr) (q r : Req) (key : Nat) (v : Val) (rule : Rule) (s : State), writeOf c = some (q, key, v, rule) ∧
      r = carried q ∧ serves s key = false) ∧
    (∃ (c : Instr) (q r : Req) (key : Nat) (v : Val) (rule : Rule) (s : State) (e : Stat),
      writeOf c = some (q, key, v, rule) ∧ r = carried q ∧ serves s key = true ∧ checkWrite s r key v rule = some e) ∧
    (∃ (c : Instr) (q r : Req) (key : Nat) (v : Val) (rule : Rule) (s : State) (e : Stat),
      writeOf c = some (q, key, v, rule) ∧ r = carried q ∧ serves s key = true ∧ checkWrite s r key v rule = none ∧
      checkTiming s r 0 key v rule = .error e) ∧
    (∃ (c : Instr) (q r : Req) (key : Nat) (v : Val) (rule : Rule) (s : State) (p : Option Nat) (d : Done),
      writeOf c = some (q, key, v, rule) ∧ r = carried q ∧ serves s key = true ∧ checkWrite s r key v rule = none ∧
      checkTiming s r 0 key v rule = .ok p ∧ rule.judge s r v = some d) ∧
    (∃ (c : Instr) (q r : Req) (key : Nat) (v : Val) (rule : Rule) (s : State) (n : Nat),
      writeOf c = some (q, key, v, rule) ∧ r = carried q ∧ Passes s q key v rule ∧
      checkTiming s r 0 key v rule = .ok (some n)) ∧
    (∃ (c : Instr) (q r : Req) (key : Nat) (v : Val) (rule : Rule) (s : State) (n : Nat),
      writeOf c = some (q, key, v, rule) ∧ r = carried q ∧ Passes s q key v rule ∧ checkTiming s r 0 key v rule = .ok none
      ∧ rule.pick s v = some n ∧ admits s (timedCmd s r 0 (rule.base s) n key v) = true) ∧
    (∃ (c : Instr) (q r : Req) (key : Nat) (v : Val) (rule : Rule) (s : State) (n : Nat),
      writeOf c = some (q, key, v, rule) ∧ r = carried q ∧ Passes s q key v rule ∧ checkTiming s r 0 key v rule = .ok none
      ∧ rule.pick s v = some n ∧ admits s (timedCmd s r 0 (rule.base s) n key v) = false) :=
  ⟨⟨.slotEnable wr 15, wr, carried (wr), ent (slIdx 15) 2, .num 1, slotEnableRule 15, State.reset, rfl, rfl,
    (by unfold serves; decide +kernel)⟩,
   ⟨.windowLengthWrite wr 65536, wr, carried (wr), ent 0x030000 2, .num 65536, windowRule, rdy, (stTypeMismatch, 0), rfl,
     rfl, (by unfold serves; decide +kernel), (by decide +kernel)⟩,
   ⟨.targetOp ({ wr with toe := .pick 5 }) 7 2, { wr with toe := .pick 5 }, carried ({ wr with toe := .pick 5 }),
     ent (domIdx 7) 1, .num 2, targetOpRule 7, rdy, (stNotReady, 1), rfl, rfl, (by unfold serves; decide +kernel),
     (by decide +kernel), rfl⟩,
   ⟨.stagingOpen wr 5, wr, carried (wr), ent 0x100100 2, .num 5, openRule, putSg rdy sgVerifying, none,
     { s := putSg rdy sgVerifying, status := stBusy }, rfl, rfl, (by unfold serves; decide +kernel), (by decide +kernel),
     rfl, rfl⟩,
   ⟨.targetOp ({ wr with toe := .pick 5 }) 7 2, { wr with toe := .pick 5 }, carried ({ wr with toe := .pick 5 }),
     ent (domIdx 7) 1, .num 2, targetOpRule 7, tbOn 0 rdy, 5, rfl, rfl, ⟨by decide +kernel, by decide +kernel, rfl⟩, rfl⟩,
   ⟨.activate wr 1, wr, carried (wr), ent 0x100100 0x0A, .num 1, activateRule, putSg (tbOn 0 rdy) sgVerified,
     activationPick (putSg (tbOn 0 rdy) sgVerified), rfl, rfl, ⟨by decide +kernel, by decide +kernel, rfl⟩, rfl, rfl,
     (by decide +kernel)⟩,
   ⟨.activate wr 1, wr, carried (wr), ent 0x100100 0x0A, .num 1, activateRule, putSg
     ({ tbOn 0 rdy with ruling := { rdy.ruling with timed := List.replicate 4096 {} } } : State) sgVerified,
     activationPick (putSg (tbOn 0 rdy) sgVerified), rfl, rfl, ⟨by decide +kernel, by decide +kernel, rfl⟩, rfl, rfl,
     (by decide +kernel)⟩⟩

/-- The hypotheses of `Obligations.EnginesOutRefuseEveryEnable` are met, those of each clause. -/
theorem met_enginesOutRefuseEveryEnable :
    (∃ (s : State) (r : Req) (e : Fin 8) (f : Fin 4096), s.service e ≠ svIn ∧
      serves s (ent (rxIdx (e * 4096 + f)) 1) = true ∧ (carried r).toe = .none ∧
      checkWrite s (carried r) (ent (rxIdx (e * 4096 + f)) 1) (.num 1) (rxFlowRule (e * 4096 + f) 1) = none) ∧
    (∃ (s : State) (r : Req) (e : Fin 8) (f : Fin 4096), s.service e ≠ svIn ∧
      serves s (ent (txIdx (e * 4096 + f)) 1) = true ∧ (carried r).toe = .none ∧
      checkWrite s (carried r) (ent (txIdx (e * 4096 + f)) 1) (.num 1) (txFlowRule (e * 4096 + f) 1) = none) ∧
    (∃ (s : State) (r : Req) (e : Fin 8) (f : Fin 4096) (sub : Nat) (v : Val), s.service e ≠ svIn ∧
      (((flowChanges (rxIdx (e * 4096 + f)) sub v).any fun c => c.1 == 1 && valNum c.2 == 1) = true)) ∧
    (∃ (s : State) (r : Req) (e : Fin 8) (f : Fin 4096) (sub : Nat) (v : Val), s.service e ≠ svIn ∧
      (((flowChanges (txIdx (e * 4096 + f)) sub v).any fun c => c.1 == 1 && valNum c.2 == 1) = true)) :=
  ⟨⟨(rxDescribed).put (svcIdx 7) 1 svOut, wr, 7, 4095, by unfold serves; decide +kernel⟩,
   ⟨(txDescribed).put (svcIdx 7) 1 svOut, wr, 7, 4095, by unfold serves; decide +kernel⟩,
   ⟨(rxDescribed).put (svcIdx 7) 1 svOut, wr, 7, 4095, 1, .num 1, by decide +kernel⟩,
   ⟨(txDescribed).put (svcIdx 7) 1 svOut, wr, 7, 4095, 1, .num 1, by decide +kernel⟩⟩

/-- The hypotheses of `Obligations.AcceptedImagesEndInInvalidWords` are met, those of each clause. -/
theorem met_acceptedImagesEndInInvalidWords :
    (∃ (s : State) (r : Req) (h : Fin 512) (b : List Byte), AtOnce s r (ent (0x081000 + h) 0) (.oct b) (imageRule h)) ∧
    (∃ (s : State) (h : Fin 512), s.mayIssue h = true ∧ (s.sh h).word (s.sh h).pc = 0xFFFFFFFFFFFFFFFF) :=
  ⟨⟨rdy, wr, 511, imageOf 5, by unfold AtOnce Passes; decide +kernel⟩,
   ⟨(rdy.put (shIdx 511) 1 shRunning).setSh 511 fun x => { x with pm := [(4095, 2 ^ 64 - 1)], pc := 4095, words := 4096 },
     511, by decide +kernel⟩⟩

/-- The hypotheses of `Obligations.EveryStepKeepsTheMemoryForm` are met. -/
theorem met_everyStepKeepsTheMemoryForm :
    ∃ (s t : State), (Memory.wf s.mem.bytes = true ∧ s.mem.chans.length = 32 ∧ s.mem.rates.length = 4) ∧ step s = .next t :=
  ⟨{ rdy with pending := [.eventRecord] }, match exec .eventRecord rdy with | .next t => t | _ => rdy, by decide +kernel,
    rfl⟩

/-- The hypotheses of `Obligations.ShuttleInstructionsSurviveEncoding` are met. -/
theorem met_shuttleInstructionsSurviveEncoding :
    ∃ (i : ShInstr), i.valid = true ∧ i.fits = true :=
  ⟨.alu 1 15 1 2 0 0 idle idle, by decide +kernel⟩

/-! ### Operands that are not well formed -/

/-- A transaction number too long. -/
def badReq : Req := { wr with trans := 2 ^ 32 }

/-- Each clause of `Req.wf`, `Datagram.wf`, `PortValue.wf` and `NocPkt.wf` refuses something. -/
theorem test_illFormed_records :
    ([{ wr with who := .servo }, badReq, { wr with who := .client 0 }, { wr with who := .client 0, crit := false, toe := .pick 0 },
      { wr with toe := .pick (2 ^ 64) }, { wr with toe := .time (2 ^ 64 * 1000000000) }] : List Req).all (!·.wf) = true ∧
    ([{ dgram [] with srcIp := [] }, { dgram [] with dstIp := [] }, { dgram [] with srcUdp := 2 ^ 16 },
      { dgram [] with dstUdp := 2 ^ 16 }] : List Datagram).all (!·.wf) = true ∧
    ([{ len := 4097, words := List.replicate 513 0 }, { len := 1, words := [] }, { len := 1, words := [1] }] : List PortValue).all
      (!·.wf) = true ∧
    ([{ kind := 16 }, { epoch := 2 }, { cls := 4 }, { target := 256 }, { init := 1024 }, { tag := 4096 }, { granules := 0 },
      { granules := 17 }, { addr := 2 ^ 48 }, { status := 2 ^ 16 }, { mask := 2 ^ 64 }, { data := List.replicate 1025 0 }] :
      List NocPkt).all (!·.wf) = true := by decide +kernel

/-- Commands with an operand out of its bounds, 1. -/
theorem test_illFormed_operands1 :
    ([.rulingSelectionWrite badReq 0, .rulingSelectionWrite wr (2 ^ 64), .windowLengthWrite badReq 0,
    .windowLengthWrite wr (2 ^ 64), .capFrame .svc { dgram [] with srcUdp := 2 ^ 16 }, .segWriteTimeout .service (2 ^ 32),
    .cacheEntryExpiry none (2 ^ 32), .mcastDuplicateWindowEnd 0 (2 ^ 32), .mcastAnswerRelease 0 (2 ^ 32),
    .bridgeResponse true (2 ^ 64) 0 { len := 0, words := [] }, .bridgeResponse true 0 (2 ^ 16) { len := 0, words := [] },
    .bridgeResponse true 0 0 { len := 1, words := [] }, .bridgeTimeout (2 ^ 64),
    .clientPortRequest 0 (2 ^ 32) true { len := 0, words := [] }, .clientPortRequest 0 0 true { len := 1, words := [] },
    .forceClose badReq 0 0, .forceClose wr 0 (2 ^ 64), .hostKeyWrite badReq 0 [], .keySlotEnable badReq 0 0,
    .keySlotEnable wr 0 (2 ^ 64), .groupKeyWrite badReq 0 [], .assignmentRangeWrite badReq 0 0 [],
    .longOpStart badReq 0 0 0 [], .longOpStart wr 0 (2 ^ 8) 0 [], .longOpStart wr 0 0 (2 ^ 32) [], .longOpSuspend badReq 0,
    .longOpResume badReq 0, .longOpCancel badReq 0, .longOpRelease badReq 0, .longOpError 0 (2 ^ 16) 0,
    .longOpError 0 0 (2 ^ 32), .voltageReadback 0 (2 ^ 16), .railOutOfTolerance 0 (2 ^ 16), .devReset (2 ^ 64),
    .thermalWarning 0 0 (-(2 ^ 31) - 1), .thermalWarning 0 0 (2 ^ 31), .thermalTrip 0 0 (-(2 ^ 31) - 1),
    .thermalTrip 0 0 (2 ^ 31), .thermalHoldEnd (-(2 ^ 31) - 1), .thermalHoldEnd (2 ^ 31)] : List Instr).all (!WellFormed ·) = true := by decide +kernel

/-- Commands with an operand out of its bounds, 2. -/
theorem test_illFormed_operands2 :
    ([.clearWrite badReq 0, .clearWrite wr (2 ^ 64), .bitstreamHeader .slave [2 ^ 32], .bitstreamFrame .slave [2 ^ 32] true,
    .endWord .slave [2 ^ 32] {}, .isolate badReq 0 0, .isolate wr 0 (2 ^ 64), .release badReq 0 0, .release wr 0 (2 ^ 64),
    .checkWireMismatch 0 (2 ^ 64) 0, .suddenMendComplete 0 (2 ^ 64), .channelNarrowed 0 (2 ^ 64),
    .wirePredicted 0 0 (2 ^ 8), .seamRetrain badReq 0 0, .seamRetrain wr 0 (2 ^ 64), .seamReinstate badReq 0 0,
    .seamReinstate wr 0 (2 ^ 64), .tally badReq 0 0, .tally wr 0 (2 ^ 64), .refSel badReq 0, .refSel wr (2 ^ 64),
    .timingLoopLocked (-(2 ^ 31) - 1), .timingLoopLocked (2 ^ 31), .tlRelock badReq 0, .tlRelock wr (2 ^ 64),
    .targetOp badReq 0 0, .targetOp wr 0 (2 ^ 64), .userLoopRestore badReq 0 0, .userLoopRestore wr 0 (2 ^ 64),
    .gate badReq 0 0, .gate wr 0 (2 ^ 64), .spreadWrite badReq (.domain 0) 0, .spreadWrite wr (.domain 0) (2 ^ 64),
    .increment badReq 0 0, .increment wr 0 (2 ^ 64), .slew badReq 0 0 0, .slew wr 0 (2 ^ 48) 0, .slew wr 0 0 (2 ^ 32),
    .step badReq 0 0, .step wr 0 (-(2 ^ 63) - 1)] : List Instr).all (!WellFormed ·) = true := by decide +kernel

/-- Commands with an operand out of its bounds, 3. -/
theorem test_illFormed_operands3 :
    ([.step wr 0 (2 ^ 63), .forceStep badReq 0 0, .forceStep wr 0 (-(2 ^ 63) - 1), .forceStep wr 0 (2 ^ 63),
    .setTime badReq 0 0, .setTime wr 0 (2 ^ 64), .arm badReq 0, .disarm badReq 0, .snap badReq 0, .snap wr (2 ^ 64),
    .pickGeneratorWrite badReq 0 0 [], .servoPtpMessage 0 0 0 [] (.sync 0 0), .servoMode badReq 0 0,
    .servoMode wr 0 (2 ^ 64), .triggerUnitWrite badReq 0 0 [], .blockLockGain 48 [], .blockLockLoss 48 [],
    .laneUnlockTimeout 48, .ladderWord 48 0, .rungStepTimeout 48, .standardBringupDone 48 0, .laserLit 0 (-(2 ^ 31) - 1),
    .laserLit 0 (2 ^ 31), .laserDark 0 (-(2 ^ 31) - 1), .laserDark 0 (2 ^ 31), .engineFault 0 0 true (-(2 ^ 31) - 1),
    .engineFault 0 0 true (2 ^ 31), .portMode badReq 0 0 0, .portMode wr 0 0 (2 ^ 64), .laneFailure 48 0,
    .reformComplete 0 (2 ^ 64), .shadowLaneRetry 48, .laneShadowReady 48, .restore badReq 0 0, .restore wr 0 (2 ^ 64),
    .mgtLinkChange 0 true (2 ^ 32), .subportBinding badReq 0 0, .subportBinding wr 0 (2 ^ 64), .rxFlowEnable badReq 0 0,
    .rxFlowDisable badReq 0 0] : List Instr).all (!WellFormed ·) = true := by decide +kernel

/-- Commands with an operand out of its bounds, 4. -/
theorem test_illFormed_operands4 :
    ([.txFlowEnable badReq 0 0, .txFlowDisable badReq 0 0, .take badReq 0 0 [], .remove badReq 0 0, .remove wr 0 (2 ^ 64),
    .engineShadow badReq 0 0, .engineShadow wr 0 (2 ^ 64), .engineReinstate badReq 0 0, .engineReinstate wr 0 (2 ^ 64),
    .imageWrite badReq 0 [], .dataMemoryWrite badReq 0 [], .bindingEnable badReq 0 0 0, .bindingEnable wr 0 0 (2 ^ 64),
    .run badReq 0 0, .run wr 0 (2 ^ 64), .mapout badReq 0 0, .mapout wr 0 (2 ^ 64), .mailbox badReq 0 0,
    .mailbox wr 0 (2 ^ 64), .rptCeiling badReq 0 0, .rptCeiling wr 0 (2 ^ 64), .clusterReinstate badReq 0 0,
    .clusterReinstate wr 0 (2 ^ 64), .nocRequestAtTarget { target := 256 } [] [],
    .nocResponseAtInitiator { target := 256 } [] [], .linkNarrow 0 (2 ^ 64), .swap badReq 0, .swap wr (2 ^ 64),
    .linkRetrain badReq 0 0, .linkRetrain wr 0 (2 ^ 64), .linkReinstate badReq 0 0, .linkReinstate wr 0 (2 ^ 64),
    .statsClear badReq 0, .statsClear wr (2 ^ 64), .fabricPortRequest 0 0 { target := 256 },
    .channelTrainingEnd 0 0 (2 ^ 8) none, .slotEnable badReq 0, .slotDisable badReq 0, .counterNodeEviction 0 (2 ^ 8) 0,
    .counterNodeEviction 0 0 (2 ^ 48)] : List Instr).all (!WellFormed ·) = true := by decide +kernel

/-- Commands with an operand out of its bounds, 5. -/
theorem test_illFormed_operands5 :
    ([.stagingOpen badReq 0, .stagingOpen wr (2 ^ 64), .chunkWrite badReq 0 [] 0, .chunkWrite wr (2 ^ 48) [] 0,
    .chunkWrite wr 0 [] (2 ^ 32), .activate badReq 0, .activate wr (2 ^ 64), .thermalWarningRearm (-(2 ^ 31) - 1),
    .thermalWarningRearm (2 ^ 31), .memoryAccessComplete 0 (2 ^ 64) [], .fabricTargetResponse 0 0 { target := 256 }] : List Instr).all (!WellFormed ·) = true := by decide +kernel

/-- Values too long. -/
theorem test_illFormed_lengths :
    WellFormed (.hostKeyWrite wr 0 (List.replicate 4097 0)) = false ∧
    WellFormed (.curatorKeyInstall (List.replicate 4097 0)) = false ∧
    WellFormed (.groupKeyWrite wr 0 (List.replicate 4097 0)) = false ∧
    WellFormed (.assignmentRangeWrite wr 0 0 (List.replicate 4097 0)) = false ∧
    WellFormed (.fabricEventRaise 0 0 0 (List.replicate 4097 0)) = false ∧
    WellFormed (.longOpStart wr 0 0 0 (List.replicate 4097 0)) = false ∧
    WellFormed (.longOpWorkComplete 0 (List.replicate 4097 0)) = false ∧
    WellFormed (.pickGeneratorWrite wr 0 0 (List.replicate 4097 0)) = false ∧
    WellFormed (.ptpEventTimestamp 0 true (List.replicate 9217 0)) = false ∧
    WellFormed (.triggerUnitWrite wr 0 0 (List.replicate 4097 0)) = false ∧
    WellFormed (.rxFrame 0 true (List.replicate 9217 0)) = false ∧
    WellFormed (.take wr 0 0 (List.replicate 4097 0)) = false ∧
    WellFormed (.imageWrite wr 0 (List.replicate 32901 0)) = false ∧
    WellFormed (.dataMemoryWrite wr 0 (List.replicate 98305 0)) = false ∧
    WellFormed (.svcSend (List.replicate 65536 0)) = false ∧
    WellFormed (.chunkWrite wr 0 (List.replicate 4097 0) 0) = false :=
  ⟨by show ((wr : Req).wf && decide ((List.replicate 4097 0 : List Byte).length ≤ 4096)) = false; rw [List.length_replicate]; rfl,
   by show (decide ((List.replicate 4097 0 : List Byte).length ≤ 4096)) = false; rw [List.length_replicate]; rfl,
   by show ((wr : Req).wf && decide ((List.replicate 4097 0 : List Byte).length ≤ 4096)) = false; rw [List.length_replicate]; rfl,
   by show ((wr : Req).wf && decide ((List.replicate 4097 0 : List Byte).length ≤ 4096)) = false; rw [List.length_replicate]; rfl,
   by show (decide ((List.replicate 4097 0 : List Byte).length ≤ 4096)) = false; rw [List.length_replicate]; rfl,
   by show ((wr : Req).wf && decide ((0 : Nat) < 2 ^ 8) && decide ((0 : Nat) < 2 ^ 32) && decide ((List.replicate 4097 0 : List Byte).length ≤ 4096)) = false; rw [List.length_replicate]; rfl,
   by show (decide ((List.replicate 4097 0 : List Byte).length ≤ 4096)) = false; rw [List.length_replicate]; rfl,
   by show ((wr : Req).wf && decide ((List.replicate 4097 0 : List Byte).length ≤ 4096)) = false; rw [List.length_replicate]; rfl,
   by show (decide ((List.replicate 9217 0 : List Byte).length ≤ 9216)) = false; rw [List.length_replicate]; rfl,
   by show ((wr : Req).wf && decide ((List.replicate 4097 0 : List Byte).length ≤ 4096)) = false; rw [List.length_replicate]; rfl,
   by show (decide ((List.replicate 9217 0 : List Byte).length ≤ 9216)) = false; rw [List.length_replicate]; rfl,
   by show ((wr : Req).wf && decide ((List.replicate 4097 0 : List Byte).length ≤ 4096)) = false; rw [List.length_replicate]; rfl,
   by show ((wr : Req).wf && decide ((List.replicate 32901 0 : List Byte).length ≤ 32900)) = false; rw [List.length_replicate]; rfl,
   by show ((wr : Req).wf && decide ((List.replicate 98305 0 : List Byte).length ≤ 98304)) = false; rw [List.length_replicate]; rfl,
   by show (decide ((List.replicate 65536 0 : List Byte).length ≤ 65535)) = false; rw [List.length_replicate]; rfl,
   by show ((wr : Req).wf && decide ((0 : Nat) < 2 ^ 48) && decide ((List.replicate 4097 0 : List Byte).length ≤ 4096) && decide ((0 : Nat) < 2 ^ 32)) = false; rw [List.length_replicate]; rfl⟩

/-- A datagram longer than IPv4 carries. -/
theorem test_illFormed_datagram : (dgram (List.replicate 65508 0)).wf = false := by
  show (_ && decide ((List.replicate 65508 0 : List Byte).length ≤ 65507)) = false; rw [List.length_replicate]; rfl

/-! ### Results the spec gives -/

/-- What a command leaves. -/
def after (c : Instr) (s : State) : State := match exec c s with | .next t => t | _ => s

/-- The frame of the example "reading the ruling pick" of chapter 2. -/
def exampleFrame : List Byte :=
  be 4 0x43410100 ++ be 4 0x00340007 ++ be 6 0x012345000010 ++ be 2 0x0202 ++ be 4 0x12C ++ be 16 0
    ++ be 8 0x0100030000050000 ++ be 8 0x0100030000040000

/-- The node of that example: session 2 is open to the sender, and the ruling time base is armed at pick 101,898,101,899. -/
def exampleNode : State :=
  (((((tbOn 0 quiet).put 0x010001 2 0x012345).put 0x010001 3 7).put (sesIdx 1) 1 2).putOct (sesIdx 1) 7
    (List.replicate 16 1 ++ be 2 5000)).put (genIdx 0) 5 101898101899

/-- Its answer, byte by byte (chapter 2, the response frame of the example). -/
theorem test_example_readRulingPick :
    ((after (.capFrame .mgtA (dgram exampleFrame)) exampleNode).cap.sent.map (·.bytes)) =
      [be 4 0x43410180 ++ be 4 0x00490007 ++ be 6 0x000010012345 ++ be 6 0x02020000012C ++ be 16 0
        ++ be 6 0x010003000005 ++ be 8 8 ++ be 8 0x17B999A48B ++ be 6 0x010003000004 ++ be 8 1 ++ be 1 1] := by decide +kernel

/-- The four encodings of chapter 14's table of examples. -/
theorem test_example_encodings :
    [0x0080286C28008100, 0x420900000000D400, 0x84C0000000000024, 0x8000000000000000].all
      (fun w => (decodeShuttle w).any fun i => i.valid && encodeShuttle i == w) = true ∧
    decodeShuttle 0x84C0000000000024 = some (.ctl 2 6 0x24) ∧ decodeShuttle 0x8000000000000000 = some (.ctl 0 0 0) := by
  decide +kernel

/-- An all-ones word is no instruction (R398). -/
theorem test_invalid_word : decodeShuttle (2 ^ 64 - 1) = none := by decide +kernel

/-- A step runs the front command and leaves the rest of the queue. -/
theorem test_step_runs_the_front :
    (match step { rdy with pending := [.selvageStatusDrive, .eventRecord] } with | .next t => t.pending | _ => []) = [.eventRecord] := by
  decide +kernel

/-- The default window of 8 µs has a capacity of 7,500 ns (the example after R15). -/
theorem test_example_capacity : State.reset.capacity = 7500 := by decide +kernel

/-- A JWS4-H2I has the engine mask 0Fh (the example after R4). -/
theorem test_example_part :
    let s := { State.reset with unit := { State.reset.unit with hPart := true, speed := 2, industrial := true } }
    s.num 0x000002 0 / 256 = 0x0F ∧ s.oct 0x000001 0 = ascii "JWS4-H2I" ∧ entryExists s (ent 0x050409 1) = true ∧
      entryExists s (ent 0x05040A 1) = false ∧ seamCeiling s.unit = 900000 := by decide +kernel

/-- Bolt 2 is A1, the others B0 (chapter 4's example of steppings). -/
theorem test_example_stepping :
    let s := { State.reset with unit := { State.reset.unit with step := [0x20, 0x20, 0x11, 0x20] } }
    [1, 2, 3, 4, 5, 6].map (s.num 0x000004) = [0x20, 0x20, 0x11, 0x20, 1, 0] := by decide +kernel

/-- A0 holds 1,234,567; SHIFT is -8, ROUND 1, SAT 2 and the move names 10 bits (the example after R369). -/
theorem test_example_scaledMove : scaledMove 0 0 1 (0x38 * 64 + 1 * 16 + 2 * 4) [1234567, 0, 0, 0] = (0x3FF, true) := by
  decide +kernel

/-- At 60000/1001 pick 3 begins at 50,050,000 ns, and pick 0 at 0 (R9). -/
theorem test_pick_start :
    ({ num := 60000, den := 1001 } : PickSet).start 3 = 50050000 * nsUnit ∧ ({} : PickSet).start 0 = 0 := by decide +kernel

/-- Bytes at rising addresses; a zero is what an unlisted address reads as. -/
theorem test_store :
    (State.reset.store 5 [1, 0, 2]).mem.bytes = [(5, 1), (7, 2)] ∧
    ((State.reset.store 5 [1, 0, 2]).store 5 [0]).mem.bytes = [(7, 2)] ∧
    (State.reset.store 5 [1, 0, 2]).bytes 4 5 = [0, 1, 0, 2, 0] := by decide +kernel

/-- No row of the table has bits. -/
theorem test_no_word (nbits w : Nat) : decodeTableWord nbits w = none := rfl

/-- CRC-32C of "123456789" (Castagnoli's check value). -/
theorem test_crc32c : crc32c (ascii "123456789") = 0xE3069283 := by decide +kernel

/-- SHA-256 of the empty string (FIPS 180-4). -/
theorem test_sha256 : hash256 [] = be 32 0xE3B0C44298FC1C149AFBF4C8996FB92427AE41E4649B934CA495991B7852B855 := by decide +kernel

/-- A write by a session that is not open is denied (R59); one by an open session executes. -/
theorem test_denied :
    (after (.slew { wr with who := .session 5 } 0 1 1) rdy).cap.answer.status = stAccessDenied ∧
    (after (.slew wr 0 4311810305 1) rdy).cap.answer.status = stOk := by decide +kernel

end Sys2Proof.Tests
end

section
/-! O56. An engine that is not IN_SERVICE refuses every enable of its flows (R331). The check reads SERVICE of the engine in the
record as written: a write of a flow record stays within that record, so it does not move SERVICE. -/

namespace Sys2Proof.Machine

/-! ### A flow record's fields stay in the record -/

/-- The sub-indices of every record of the catalogue fit the low byte of an entry number. -/
theorem catalogue_fields_length_le : ∀ r ∈ catalogue, r.fields.length ≤ 256 := by decide

theorem length_recordFields_lt (key : Nat) : (recordFields key).length < 256 := by
  unfold recordFields
  cases h : recAt (key / 256) with
  | none => simp
  | some r =>
    have hr : r.fields.length ≤ 256 := catalogue_fields_length_le r (List.mem_of_find?_eq_some h)
    simp only [Option.map_some, Option.getD_some, List.length_drop]
    omega

/-- A write of the whole record sets entries of that record only. -/
theorem flowChanges_record_sub_lt {idx : Nat} {v : Val} {c : Nat × Val} (hc : c ∈ flowChanges idx 0 v) : c.1 < 256 := by
  simp only [flowChanges, if_true] at hc
  split at hc
  · next vs _ =>
    obtain ⟨p, hp, hpc⟩ := List.mem_filterMap.1 hc
    obtain ⟨i, hi, rfl⟩ := List.mem_mapIdx.1 hp
    have hlen := length_recordFields_lt (ent idx 0)
    rw [List.length_zip] at hi
    split at hpc
    · cases hpc
      simp only
      omega
    · cases hpc
  · cases hc

/-- A write of one field sets that field and nothing else. -/
theorem flowChanges_field {idx sub : Nat} (v : Val) (h : sub ≠ 0) : flowChanges idx sub v = [(sub, v)] := if_neg h

theorem entriesOutside_write {rs : List (Nat × Nat)} (s : State) (i a : Nat) (v : Val) (ha : a < 256)
    (h : ∃ r ∈ rs, r.1 ≤ i ∧ i ≤ r.2) : EntriesOutside rs s (s.write (ent i a) v) := by
  intro k hk
  unfold State.write
  split
  · rfl
  · simp only
    rw [tget_tput, if_neg]
    rintro rfl
    obtain ⟨r, hr, hi⟩ := h
    exact hk r hr (by rwa [ent_div i a ha])

theorem entriesOutside_writeFields (s : State) (idx : Nat) (cs : List (Nat × Val)) (h : ∀ c ∈ cs, c.1 < 256) :
    EntriesOutside [(idx, idx)] s (writeFields s idx cs) := by
  refine entriesOutside_foldl _ cs s fun t c hc => ?_
  split
  · exact .refl _ _
  · exact entriesOutside_write t idx c.1 c.2 (h c hc) ⟨_, List.mem_cons_self, le_rfl, le_rfl⟩

/-- Writing the fields of another record leaves SERVICE of an engine as it reads. -/
theorem service_writeFields (s : State) (idx e : Nat) (cs : List (Nat × Val)) (h : ∀ c ∈ cs, c.1 < 256) (hi : idx < svcIdx e) :
    (writeFields s idx cs).service e = s.service e := by
  have hframe := writeFields_frame s idx cs
  refine num_outside (entriesOutside_writeFields s idx cs h) ?_ ?_ ?_ _ _ (by decide) ?_
  · simp only [hframe]
  · simp only [hframe]
  · simp only [hframe]
  · simp only [List.mem_singleton, forall_eq]
    omega

/-! ### The write of ENABLE 1 -/

/-- Whether a write of field `sub`, or of the whole record, sets ENABLE to 1. -/
def setsEnable (idx sub : Nat) (v : Val) : Bool := (flowChanges idx sub v).any fun c => c.1 == 1 && valNum c.2 == 1

/-- A write of ENABLE 1 leaves SERVICE of an engine as it reads in the record as written, on which R331 is checked. -/
theorem service_writeFields_of_setsEnable (s : State) {idx sub e : Nat} {v : Val} (h : setsEnable idx sub v = true)
    (hi : idx < svcIdx e) : (writeFields s idx (flowChanges idx sub v)).service e = s.service e := by
  refine service_writeFields s idx e _ (fun c hc => ?_) hi
  by_cases hs : sub = 0
  · subst hs
    exact flowChanges_record_sub_lt hc
  · obtain ⟨hsub, -⟩ : sub = 1 ∧ valNum v = 1 := by simpa [setsEnable, flowChanges_field v hs] using h
    rw [flowChanges_field v hs, List.mem_singleton] at hc
    simp [hc, hsub]

theorem setsEnable_enable (idx : Nat) : setsEnable idx 1 (.num 1) = true := rfl

/-- ENGINE_OUT comes before every other refusal of a flow record (R331). -/
theorem flowRule_judge_engineOut {idx sub : Nat} {fieldOk : Nat → Val → Bool} {checks : State → Option Nat}
    {enable disable : State → State} {s : State} {v : Val} (r : Req) (h : setsEnable idx sub v = true)
    (hc : checks (writeFields s idx (flowChanges idx sub v)) = some stEngineOut) :
    (flowRule idx sub fieldOk checks enable disable).judge s r v = refuse s stEngineOut := by
  unfold setsEnable at h
  simp [flowRule, h, hc]

/-! ### Engines that do not serve -/

theorem serving_eq_false {s : State} {e : Nat} (h : s.service e ≠ svIn) : s.serving e = false := by
  simp [State.serving, h]

theorem rxChecks_engineOut {s : State} {n : Nat} (h : s.service (n / 4096) ≠ svIn) : rxChecks n s = some stEngineOut := by
  simp [rxChecks, serving_eq_false h]

theorem txChecks_engineOut {s : State} {n : Nat} (h : s.service (n / 4096) ≠ svIn) : txChecks n s = some stEngineOut := by
  simp [txChecks, serving_eq_false h]

/-- The records of receive flows lie below those of the engines. -/
theorem rxIdx_lt_svcIdx {n : Nat} (e : Nat) (hn : n < 32768) : rxIdx n < svcIdx e := by
  unfold rxIdx svcIdx
  omega

/-- The records of transmit flows lie below those of the engines. -/
theorem txIdx_lt_svcIdx {n : Nat} (e : Nat) (hn : n < 32768) : txIdx n < svcIdx e := by
  unfold txIdx svcIdx
  omega

theorem rxFlowRule_judge_engineOut {s : State} {n sub : Nat} {v : Val} (r : Req) (hn : n < 32768)
    (hs : s.service (n / 4096) ≠ svIn) (h : setsEnable (rxIdx n) sub v = true) :
    (rxFlowRule n sub).judge s r v = refuse s stEngineOut :=
  flowRule_judge_engineOut r h (rxChecks_engineOut (by
    rwa [service_writeFields_of_setsEnable s h (rxIdx_lt_svcIdx _ hn)]))

theorem txFlowRule_judge_engineOut {s : State} {n sub : Nat} {v : Val} (r : Req) (hn : n < 32768)
    (hs : s.service (n / 4096) ≠ svIn) (h : setsEnable (txIdx n) sub v = true) :
    (txFlowRule n sub).judge s r v = refuse s stEngineOut :=
  flowRule_judge_engineOut r h (txChecks_engineOut (by
    rwa [service_writeFields_of_setsEnable s h (txIdx_lt_svcIdx _ hn)]))

/-! ### The commands -/

theorem reply_outside (s : State) (st d : Nat) : Outside [.cap] s (s.reply st d) := by
  intro p hp
  cases p <;> simp at hp ⊢

/-- A write without a time of execution that the entry refuses answers the refusal. -/
theorem submit_refused {s : State} {r : Req} {key st : Nat} {v : Val} {rule : Rule} (h : serves s key = true)
    (hc : checkWrite s (carried r) key v rule = none) (ht : (carried r).toe = .none)
    (hj : rule.judge s (carried r) v = refuse s st) : submit s r key v rule = s.reply st 0 := by
  rw [submit_executes h hc, executeWrite_judged (checkTiming_none ht) hj]

/-- A command that is such a write answers the refusal and changes nothing else. -/
theorem does_refused {c : Instr} {s : State} {r : Req} {key st : Nat} {v : Val} {rule : Rule}
    (hx : exec c s = .next (submit s r key v rule)) (h : serves s key = true)
    (hc : checkWrite s (carried r) key v rule = none) (ht : (carried r).toe = .none)
    (hj : rule.judge s (carried r) v = refuse s st) :
    Does c s fun u => u.cap.answer = { status := st } ∧ Outside [.cap] s u := by
  rw [submit_refused h hc ht hj] at hx
  exact ⟨_, hx, reply_answer .., reply_outside s st 0⟩

theorem exec_rxFlowEnable (r : Req) (e : Fin 8) (f : Fin 4096) (s : State) : exec (.rxFlowEnable r e f) s =
    .next (submit s r (ent (rxIdx (e * 4096 + f)) 1) (.num 1) (rxFlowRule (e * 4096 + f) 1)) := rfl

theorem exec_txFlowEnable (r : Req) (e : Fin 8) (f : Fin 4096) (s : State) : exec (.txFlowEnable r e f) s =
    .next (submit s r (ent (txIdx (e * 4096 + f)) 1) (.num 1) (txFlowRule (e * 4096 + f) 1)) := rfl

/-- Settles O56: R331 is judged on the record as written, in which SERVICE of the engine reads as before the write. -/
theorem enginesOutRefuseEveryEnable : Obligations.EnginesOutRefuseEveryEnable := by
  unfold Obligations.EnginesOutRefuseEveryEnable
  intro s r e f hs
  have hn : e.val * 4096 + f.val < 32768 := by omega
  have he : (e.val * 4096 + f.val) / 4096 = e.val := by omega
  rw [← he] at hs
  refine ⟨fun hv ht hc => ?rxEnable, fun hv ht hc => ?txEnable, fun sub v h => ?rxWrite, fun sub v h => ?txWrite⟩
  case rxEnable =>
    exact does_refused (exec_rxFlowEnable r e f s) hv hc ht
      (rxFlowRule_judge_engineOut _ hn hs (setsEnable_enable _))
  case txEnable =>
    exact does_refused (exec_txFlowEnable r e f s) hv hc ht
      (txFlowRule_judge_engineOut _ hn hs (setsEnable_enable _))
  case rxWrite => exact rxFlowRule_judge_engineOut r hn hs h
  case txWrite => exact txFlowRule_judge_engineOut r hn hs h

end Sys2Proof.Machine
end

section
/-! O57. An accepted image defines the words below WORDS alone; all the others read all ones (R398), which is a word of format 7
and no instruction (R396). A program that reaches one ends as INVALID_INSTRUCTION says, and event 831h is counted (R104). -/

namespace Sys2Proof.Machine

/-! ### The words beyond an image -/

theorem tget_eq_none {α : Type} {t : Tbl α} {k : Nat} (h : ∀ x ∈ t, x.1 ≠ k) : tget t k = none := by
  induction t with
  | nil => rfl
  | cons x t ih =>
    obtain ⟨j, v⟩ := x
    rw [List.forall_mem_cons] at h
    rw [tget, if_neg h.1, ih h.2]

/-- The program memory that an image loads: its words below WORDS, by their addresses (R379). -/
def imageWords (b : List Byte) : Tbl Nat :=
  ((List.range (fieldBE b 6 2)).map fun i => (i, fieldBE b (128 + 8 * i) 8)).filter fun w => w.2 ≠ 2 ^ 64 - 1

theorem fst_lt_of_mem_imageWords {b : List Byte} {w : Nat × Nat} (h : w ∈ imageWords b) : w.1 < fieldBE b 6 2 := by
  obtain ⟨i, hi, rfl⟩ := List.mem_map.1 (List.mem_filter.1 h).1
  exact List.mem_range.1 hi

/-- A shuttle is as before where the part that holds the shuttles is. -/
theorem sh_congr {s t : State} (h : t.shu = s.shu) (k : Nat) : t.sh k = s.sh k := by
  rw [State.sh, h, State.sh]

theorem sh_raise (s : State) (n unit : Nat) (b : List Byte) (k : Nat) : (s.raise n unit b).sh k = s.sh k :=
  sh_congr (by simp) k

/-- A shuttle with an image loaded: it fills the program memory and is remembered, and the rest stays (R380). -/
def Shuttle.withImage (x : Shuttle) (b : List Byte) : Shuttle :=
  { x with pm := imageWords b, words := fieldBE b 6 2, image := b }

theorem sh_loadImage (s : State) (h : Nat) (b : List Byte) : (loadImage s h b).sh h = (s.sh h).withImage b := by
  have hshu : (loadImage s h b).shu = (s.setSh h fun x => x.withImage b).shu := by
    simp [loadImage, State.put, State.bump, Shuttle.withImage, imageWords]
  rw [sh_congr hshu, sh_setSh_self]

/-- Every word from WORDS on is all ones (R398). -/
theorem word_withImage (x : Shuttle) {b : List Byte} {a : Nat} (ha : fieldBE b 6 2 ≤ a) :
    (x.withImage b).word a = 0xFFFFFFFFFFFFFFFF := by
  have hnone : tget (imageWords b) a = none :=
    tget_eq_none fun _ hw => ((fst_lt_of_mem_imageWords hw).trans_le ha).ne
  rw [Shuttle.word, Shuttle.withImage, tgetD, hnone, Option.getD_none]
  rfl

/-! ### Words of no format -/

/-- The formats are 0 to 4: a word whose top three bits name another is no instruction (R396). -/
theorem decodeShuttle_of_no_format {w : Nat} (h : 4 < w / 2 ^ 61 % 8) : decodeShuttle w = none := by
  unfold decodeShuttle
  split
  case h_6 => rfl
  all_goals omega

theorem fetched_of_allOnes {s : State} {h : Nat} (hw : (s.sh h).word (s.sh h).pc = 0xFFFFFFFFFFFFFFFF) :
    s.fetched h = none := by
  rw [State.fetched, hw, decodeShuttle_of_no_format (by decide)]

/-! ### The count of an event

Beside the counters of its source, recording and signalling a raising changes only entries below those of the sources. The end of
an overflow episode raises event 040h too, and counts that one alone (R107). -/

section
variable {i a : Nat} (hi : 0x0E1000 ≤ i) (ha : a < 256)
include hi ha

theorem num_noteLoss (s : State) : (noteLoss s).num i a = s.num i a :=
  num_put_ne s 0x0E0000 3 _ i a (by decide) ha (by omega)

theorem num_enqueueRecord (s : State) (r : EvRec) (x : Reach) (d : Bool) :
    (enqueueRecord s r x d).num i a = s.num i a := by
  unfold enqueueRecord
  split
  · rfl
  · split
    · rfl
    · split
      · exact num_noteLoss hi ha s
      · exact num_noteLoss hi ha s

theorem num_driveRoutes (s : State) (n : Nat) : (driveRoutes s n).num i a = s.num i a := by
  unfold driveRoutes
  extract_lets idx line t cl inputs
  have ht : t.num i a = s.num i a := by
    simp only [t]
    split
    · refine List.foldlRecOn (motive := fun u : State => u.num i a = s.num i a) _ _ rfl fun u hu b hb => ?_
      have hb4 : b < 4 := List.mem_range.1 hb
      split
      · exact (num_put_ne u (0x0E0200 + b) 1 _ i a (by decide) ha (by omega)).trans hu
      · exact hu
    · rfl
  split
  · exact ht
  · exact ht

/-- A record raised changes an entry of a source by its counters only. -/
theorem num_raiseRecord (s : State) (r : EvRec) (x : Reach) :
    (raiseRecord s r x).num i a = (countRaise s r.num).num i a := by
  unfold raiseRecord
  extract_lets t on u
  have hu : u.num i a = t.num i a := by
    simp only [u]
    split
    · exact num_enqueueRecord hi ha ..
    · rfl
  split
  · exact (num_driveRoutes hi ha ..).trans hu
  · exact hu

end

theorem raised_countRaise (s : State) (n : Nat) : Raised s (countRaise s n) n :=
  (num_put_other _ _ 8 _ 7 (by decide) (by decide) (by decide) (by decide)).trans (num_count_self ..)

theorem num_countRaise_ne (s : State) {n i a : Nat} (ha : a < 256) (h : 0x0E1000 + n ≠ i) :
    (countRaise s n).num i a = s.num i a :=
  (num_put_ne _ _ 8 _ i a (by decide) ha h).trans (num_put_ne s _ 7 _ i a (by decide) ha h)

theorem raised_raiseRecord (s : State) (r : EvRec) (x : Reach) : Raised s (raiseRecord s r x) r.num :=
  (num_raiseRecord (Nat.le_add_right ..) (by decide) s r x).trans (raised_countRaise s r.num)

/-- Raising an event counts it once (R104). Event 040h may count twice: where its record ends an overflow
episode, it is raised once more (R107). -/
theorem raised_raise (s : State) {n : Nat} (unit : Nat) (b : List Byte) (hn : n ≠ 0x040) : Raised s (s.raise n unit b) n := by
  have ht : Raised s (raiseRecord s (recordOf s n unit b) .all) n := raised_raiseRecord s (recordOf s n unit b) .all
  unfold State.raise raiseWith
  extract_lets t k m u
  split
  · have hu : (raiseRecord u (recordOf u 0x040 0 (be 4 k)) .all).num (0x0E1000 + n) 7 = t.num (0x0E1000 + n) 7 :=
      (num_raiseRecord (Nat.le_add_right ..) (by decide) u _ _).trans
        (num_countRaise_ne u (by decide) fun h => hn (Nat.add_left_cancel h).symm)
    exact hu.trans ht
  · exact ht

/-! ### The commands -/

theorem exec_imageWrite (r : Req) (h : Fin 512) (b : List Byte) (s : State) :
    exec (.imageWrite r h b) s = .next (submit s r (ent (0x081000 + h) 0) (.oct b) (imageRule h)) := rfl

theorem exec_invalidInstruction (h : Fin 512) (s : State) :
    exec (.invalidInstruction h) s = execInvalidInstruction h s := rfl

/-- A write that is accepted at once answers OK and leaves its entry's effect, but for the answer and the settings format's
list. -/
theorem submit_applied {s t : State} {r : Req} {key : Nat} {v : Val} {rule : Rule} (hw : AtOnce s r key v rule)
    (ha : rule.apply s false (carried r) v = { s := t }) :
    Ok (submit s r key v rule) ∧ Outside [.cap, .upd] t (submit s r key v rule) := by
  have ht : (rule.apply s false (carried r) v).s = t := by rw [ha]
  have happly : Outside [.upd] t (applyWrite s false (carried r) key v rule).s := ht ▸ applyWrite_outside false
  rw [submit_atOnce hw, applyWrite_status, applyWrite_detail, ha]
  exact ⟨reply_answer .., (happly.mono (by decide)).trans ((reply_outside _ stOk 0).mono (by decide))⟩

theorem imageRule_apply (s : State) (atPick : Bool) (r : Req) (h : Nat) (b : List Byte) :
    (imageRule h).apply s atPick r (.oct b) = { s := loadImage s h b } := rfl

/-- A program that may issue and finds no instruction ends, and event 831h is raised (R372). -/
theorem execInvalidInstruction_of_fetched_none {s : State} {h : Fin 512} (hm : s.mayIssue h = true)
    (hf : s.fetched h = none) :
    execInvalidInstruction h s =
      .next ((issueEnd ((s.front h).setSh h fun x => { x with cycles := x.cycles + 1 }) h).raise 0x831 h (be 2 (s.sh h).pc)) := by
  simp [execInvalidInstruction, hm, hf]

theorem ended_issueEnd (s : State) (h : Nat) : ((issueEnd s h).sh h).ended = true := by
  rw [issueEnd, sh_setSh_self]

theorem num_issueEnd (s : State) (h i a : Nat) : (issueEnd s h).num i a = s.num i a := num_setSh ..

theorem num_front (s : State) (h i a : Nat) : (s.front h).num i a = s.num i a := num_setSh ..

/-- Settles O57: words from WORDS on are not loaded, all ones is a word of no format, and 831h is no overflow event. -/
theorem acceptedImagesEndInInvalidWords : Obligations.AcceptedImagesEndInInvalidWords := by
  unfold Obligations.AcceptedImagesEndInInvalidWords
  constructor
  case left =>
    intro s r h b hw
    obtain ⟨hok, hout⟩ := submit_applied hw (imageRule_apply s false (carried r) h b)
    refine ⟨_, exec_imageWrite r h b s, hok, fun a ha _ => ?_⟩
    rw [sh_congr (hout .shu (by decide)), sh_loadImage, word_withImage _ ha]
  case right =>
    intro s h hm hw
    have hf : s.fetched h = none := fetched_of_allOnes hw
    refine ⟨hf, _, (exec_invalidInstruction h s).trans (execInvalidInstruction_of_fetched_none hm hf), ?ended, ?raised⟩
    case ended => rw [sh_raise, ended_issueEnd]
    case raised => rw [Raised, raised_raise _ _ _ (by decide), num_issueEnd, num_setSh, num_front]

end Sys2Proof.Machine
end

section
/-! O59, first part: what keeps memory's form. -/

namespace Sys2Proof.Machine

/-- Memory is in form: its bytes canonical, with 32 channels and four data rates. -/
def MemForm (m : Mem) : Prop := Memory.wf m.bytes = true ∧ m.chans.length = 32 ∧ m.rates.length = 4

variable {s t : State}

/-! ### Choices and folds -/

theorem MemForm.of_eq {m n : Mem} (h : MemForm m) (e : n = m) : MemForm n := e ▸ h

theorem MemForm.ite {p : Prop} [Decidable p] {a b : State} (ha : MemForm a.mem) (hb : MemForm b.mem) :
    MemForm (if p then a else b).mem := by
  split
  · exact ha
  · exact hb

theorem memForm_foldl {α : Type} (f : State → α → State) (l : List α) (h : MemForm s.mem)
    (hf : ∀ s x, MemForm s.mem → MemForm (f s x).mem) : MemForm (l.foldl f s).mem :=
  List.foldlRecOn (motive := fun u : State => MemForm u.mem) l f h fun u hu x _ => hf u x hu

/-! ### Memory itself -/

@[simp] theorem memForm_store (a : Nat) (b : List Byte) (h : MemForm s.mem) : MemForm (s.store a b).mem :=
  ⟨wf_store s a b h.1, h.2⟩

@[simp] theorem memForm_forget (p : Nat → Bool) (h : MemForm s.mem) : MemForm (s.forget p).mem := ⟨wf_forget s p h.1, h.2⟩

@[simp] theorem memForm_setMch (c : Nat) (f : Chan → Chan) (h : MemForm s.mem) : MemForm (s.setMch c f).mem :=
  ⟨h.1, (length_lmod ..).trans h.2.1, h.2.2⟩

@[simp] theorem memForm_setRank (c r : Nat) (f : Rank → Rank) (h : MemForm s.mem) : MemForm (s.setRank c r f).mem :=
  memForm_setMch _ _ h

@[simp] theorem memForm_sealLine (k loc : Nat) (keys : KeySet) (a b : Nat) (p : List Byte) (h : MemForm s.mem) :
    MemForm (sealLine s k loc keys a b p).mem := by
  simp [sealLine, h]

@[simp] theorem memForm_storeNode (k j x a b c : Nat) (m : List Nat) (h : MemForm s.mem) :
    MemForm (storeNode s k j x a b c m).mem := by
  simp [storeNode, h]

@[simp] theorem memForm_retagChildren (k j x a : Nat) (h : MemForm s.mem) : MemForm (retagChildren s k j x a).mem := by
  unfold retagChildren
  refine memForm_foldl _ _ h fun u i hu => ?_
  dsimp only
  split
  · exact hu
  · simp [hu]

@[simp] theorem memForm_initialiseSlot (k : Nat) (h : MemForm s.mem) : MemForm (initialiseSlot s k).mem := by
  unfold initialiseSlot
  extract_lets keys zero u v
  have hu : MemForm u.mem := by
    refine memForm_foldl _ _ h fun u i hu => ?_
    dsimp only
    split <;> simp [hu]
  have hv : MemForm v.mem :=
    memForm_foldl _ _ hu fun u j hu => memForm_foldl _ _ hu fun u x hu => by simp [hu]
  split
  · exact hu
  · simpa using hv

theorem memForm_writeGroup (k x a : Nat) (keys : KeySet) (l : List (List Byte)) (h : MemForm s.mem) :
    MemForm (writeGroup s k x a keys l).mem := by
  unfold writeGroup
  refine memForm_foldl _ _ h fun u i hu => ?_
  dsimp only
  split <;> simp [hu]

/-! ### Channels and the archive -/

@[simp] theorem memForm_ite {p : Prop} [Decidable p] {m n : Mem} (hm : MemForm m) (hn : MemForm n) :
    MemForm (if p then m else n) := by
  split
  · exact hm
  · exact hn

@[simp] theorem memForm_stopCatchUp (c : Nat) (h : MemForm s.mem) : MemForm (stopCatchUp s c).mem := by
  simp [stopCatchUp, h]

@[simp] theorem memForm_enqueue (c : Nat) (p : NocPkt) (h : MemForm s.mem) : MemForm (enqueue s c p).mem := by
  grind [enqueue, memForm_setMch, memForm_stopCatchUp]

@[simp] theorem memForm_atChannel (p : NocPkt) (h : MemForm s.mem) : MemForm (atChannel s p).mem := by
  unfold atChannel
  split <;> simp [h]

@[simp] theorem memForm_atArchive (p : NocPkt) (h : MemForm s.mem) : MemForm (atArchive s p).mem := by
  simpa [atArchive, MemForm] using h

theorem memForm_requestArrives {p : NocPkt} {bad : Nat × Nat} (hx : requestArrives s p bad = some t) (h : MemForm s.mem) :
    MemForm t.mem := by
  unfold requestArrives at hx
  extract_lets p' here at hx
  have hh : MemForm here.mem := by simpa [here] using h
  split at hx
  · cases hx
  · repeat' split at hx
    all_goals cases hx
    all_goals simp [hh]

@[simp] theorem memForm_rowAccess (c : Nat) (f : Nat × Nat × Nat) (a b : Bool) (n : Nat) (h : MemForm s.mem) :
    MemForm (rowAccess s c f a b n).mem := by
  simp [rowAccess, h]

@[simp] theorem memForm_issue (c i : Nat) (h : MemForm s.mem) : MemForm (issue s c i).mem := by
  grind [issue, memForm_setMch, memForm_rowAccess]

@[simp] theorem memForm_plainAccess (p : NocPkt) (h : MemForm s.mem) : MemForm (plainAccess s p).1.mem := by
  unfold plainAccess
  dsimp only
  repeat' split
  all_goals simp [h]

@[simp] theorem memForm_addUpsets (b : Nat) (l : List (BitVec 26 × Bool)) (h : MemForm s.mem) :
    MemForm (addUpsets s b l).mem := by
  unfold addUpsets
  refine memForm_foldl _ _ h fun u x hu => ?_
  dsimp only
  split
  · exact hu
  · exact hu

@[simp] theorem memForm_cleanGranule (g : Nat) (h : MemForm s.mem) : MemForm (cleanGranule s g).mem := h

theorem memForm_archiveWrite {a off b src : Nat} {d : List Byte} (hx : archiveWrite s a off b src d = some t)
    (h : MemForm s.mem) : MemForm t.mem := by
  unfold archiveWrite at hx
  dsimp only at hx
  repeat' split at hx
  all_goals cases hx
  all_goals simp [h]

@[simp] theorem memForm_archiveAccess (p : NocPkt) (h : MemForm s.mem) : MemForm (archiveAccess s p).mem := by
  have hc : ∀ a b, MemForm { s.mem with archBad := a, archOne := b } := fun _ _ => h
  grind [archiveAccess, memForm_plainAccess, answerReq_frame, archiveBad_frame, archiveOne_frame, State_count_frame]

@[simp] theorem memForm_archiveComplete (n : Nat) (h : MemForm s.mem) : MemForm (archiveComplete s n).mem := by
  unfold archiveComplete
  split
  · exact h
  · exact memForm_archiveAccess _ h

@[simp] theorem memForm_refresh (c r : Nat) (h : MemForm s.mem) : MemForm (refresh s c r).mem := by
  unfold refresh
  grind [memForm_setRank, State_count_frame, State_raiseAtMost_frame, State_waitUntil_frame]

@[simp] theorem memForm_panicEnds (c : Nat) (h : MemForm s.mem) : MemForm (panicEnds s c).mem := by
  simp [panicEnds, h]

@[simp] theorem memForm_powerDown (c r : Nat) (h : MemForm s.mem) : MemForm (powerDown s c r).mem := by
  grind [powerDown, memForm_setRank, State_count_frame, State_raiseAtMost_frame, State_waitUntil_frame]

@[simp] theorem memForm_dropRequests (c : Nat) (h : MemForm s.mem) : MemForm (dropRequests s c).mem := by
  unfold dropRequests
  refine memForm_foldl _ _ ?_ fun u x hu => ?_
  · simp [h]
  · simp [hu]

@[simp] theorem memForm_loseChannel (c cause : Nat) (h : MemForm s.mem) : MemForm (loseChannel s c cause).mem := by
  unfold loseChannel
  grind [putMc_frame, putNi_frame, State_raise_frame, memForm_dropRequests, memForm_forget, memForm_setMch, failOp_frame,
    slotsLose_frame]

@[simp] theorem memForm_track (c m4 : Nat) (a b : Bool) (h : MemForm s.mem) : MemForm (track s c m4 a b).mem := by
  unfold track
  split
  · exact h
  · extract_lets u v hot m w x y
    have hx : MemForm x.mem := by
      simp only [x]
      split
      · simp [v, u, h]
      · refine memForm_foldl _ _ (by simp [w, v, u, h]) fun z r hz => ?_
        grind [memForm_setRank, State_raise_frame]
    grind [memForm_setMch, State_count_frame, State_raise_frame, memForm_loseChannel]

@[simp] theorem memForm_showMemory (h : MemForm s.mem) : MemForm (showMemory s).mem := by simp [h]

@[simp] theorem memForm_trainingEnds (c r d : Nat) (f : Option Nat) (h : MemForm s.mem) :
    MemForm (trainingEnds s c r d f).mem := by
  unfold trainingEnds
  split
  · exact h
  · split <;> simp [h]

@[simp] theorem memForm_blankChannel (c : Nat) (h : MemForm s.mem) : MemForm (blankChannel s c).mem := by
  simp [blankChannel, h]

@[simp] theorem memForm_moveContents (old : State) (l : List Nat) (h : MemForm s.mem) : MemForm (moveContents old s l).mem :=
  ⟨wf_moveContents old s l h.1, h.2⟩

@[simp] theorem memForm_startMemory (n : Nat) (h : MemForm s.mem) : MemForm (startMemory s n).1.mem := by
  unfold startMemory
  extract_lets old enabled kept keptBolt before u v w
  have hv : MemForm v.mem := by
    refine memForm_foldl _ _ (by simp [u, h]) fun u c hu => ?_
    dsimp only
    split <;> simp [hu]
  have hw : MemForm w.mem := by
    refine memForm_foldl _ _ hv fun u b hu => ?_
    have hr : ∀ m : Mem, MemForm m → ∀ r, MemForm { m with rates := m.rates.set b r } := fun m hm r =>
      ⟨hm.1, hm.2.1, (List.length_set ..).trans hm.2.2⟩
    dsimp only
    split
    · exact hr _ hu _
    · refine memForm_foldl _ _ (hr _ hu _) fun u x hu => ?_
      simp [hu]
  simp [hw]

end Sys2Proof.Machine
end

section
namespace Sys2Proof.Machine

variable {s t : State}

@[simp] theorem memForm_resetMemory (h : MemForm s.mem) : MemForm (resetMemory s).mem := by
  unfold resetMemory
  extract_lets u v
  have hu : MemForm u.mem := by
    refine memForm_foldl _ _ h fun u c hu => ?_
    grind [putMc_frame, memForm_blankChannel, memForm_dropRequests, putNi_frame]
  have hv : MemForm v.mem := by
    refine memForm_foldl _ _ hu fun u b hu => ?_
    simpa using hu
  obtain ⟨hb, hc, -⟩ := hv
  refine memForm_forget _ ⟨?_, ?_, ?_⟩
  · simpa using hb
  · simpa using hc
  · rfl

/-! ### Reads and writes of engines -/

theorem memForm_engineWrite (e a : Nat) (b : List Byte) (last : Bool) (h : MemForm s.mem) :
    MemForm (engineWrite s e a b last).mem := by
  unfold engineWrite
  dsimp only
  split
  · refine memForm_foldl _ _ h fun u p hu => ?_
    cases hx : archiveWrite u p.1 (p.1 % 0x04000000) (e / 2) 0 p.2 with
    | none => exact hu
    | some v => exact memForm_archiveWrite hx hu
  · refine memForm_foldl _ _ h fun u p hu => ?_
    simpa using hu

theorem memForm_touch (i a : Nat) (keep : Bool) (h : MemForm s.mem) : MemForm (touch s i a keep).1.mem := by
  unfold touch
  repeat' split
  all_goals simp [h]

theorem memForm_plainGranule (i a : Nat) (keep : Bool) (h : MemForm s.mem) : MemForm (plainGranule s i a keep).1.mem := by
  unfold plainGranule
  split
  · simpa using h
  · exact memForm_touch i a keep h

theorem memForm_readLine {k loc : Nat} {b : List Byte} (hx : readLine s k loc = .ok (t, b)) (h : MemForm s.mem) :
    MemForm t.mem := h.of_eq (readLine_outside hx .mem (by decide))

theorem memForm_readGranule (i a : Nat) (keep : Bool) (h : MemForm s.mem) : MemForm (readGranule s i a keep).1.mem := by
  unfold readGranule
  split
  · exact h
  · dsimp only
    split
    · exact h
    · split
      · simpa using h
      · exact memForm_plainGranule i a keep h
      · split
        · next hx => exact memForm_touch i a keep (memForm_readLine hx h)
        · exact h
        · exact h

theorem memForm_readRun (i a : Nat) (keep : Bool) (n : Nat) (h : MemForm s.mem) : MemForm (readRun s i a keep n).1.mem := by
  induction n generalizing keep with
  | zero => exact h
  | succ n ih =>
    unfold readRun
    have hr := ih (i != 0x4C)
    split
    · next hx => rwa [hx] at hr
    · next hx =>
      rw [hx] at hr
      have hg := memForm_readGranule i (a + 64 * n) keep hr
      split
      · next hy => rwa [hy] at hg
      · next hy => rwa [hy] at hg

theorem memForm_readGranules (i a n : Nat) (keep : Bool) (h : MemForm s.mem) : MemForm (readGranules s i a n keep).1.mem := by
  have hr := memForm_readRun i a keep n h
  unfold readGranules
  split
  · next hx => simpa [hx] using hr
  · exact hr

theorem memForm_fetchRead (i a n : Nat) (h : MemForm s.mem) : MemForm (fetchRead s i a n).1.mem :=
  memForm_readGranules _ _ _ _ h

/-! ### Protected memory -/

theorem memForm_nodeAt {k j x : Nat} {n : Nat × List Nat} (hx : nodeAt s k j x = .ok (t, n)) (h : MemForm s.mem) :
    MemForm t.mem := h.of_eq (nodeAt_outside hx .mem (by decide))

theorem memForm_writeLine {k loc : Nat} {w : Option Nat} {b : List Byte} (hx : writeLine s k loc w b = .ok t)
    (h : MemForm s.mem) : MemForm t.mem := by
  unfold writeLine at hx
  extract_lets i at hx
  split at hx
  · cases hx
  · next u major minors heq =>
    have hu : MemForm u.mem := memForm_nodeAt heq h
    extract_lets keys m plain at hx
    clear_value plain
    split at hx
    · cases hx
    · split at hx
      · split at hx <;> cases hx
      · rename_i v _ _ _
        have hv : MemForm v.mem := by simpa [v] using hu
        rw [← Except.ok.inj hx]
        simp [hv]

theorem memForm_foldl_except {α : Type} {f : Except Trouble State → α → Except Trouble State} {r : Except Trouble State}
    (l : List α)
    (hr : ∀ u, r = .ok u → MemForm u.mem)
    (hf : ∀ r x, (∀ u, r = .ok u → MemForm u.mem) → ∀ u, f r x = .ok u → MemForm u.mem) :
    ∀ u, l.foldl f r = .ok u → MemForm u.mem :=
  List.foldlRecOn (motive := fun r : Except Trouble State => ∀ u, r = .ok u → MemForm u.mem) l f hr fun r hr x _ => hf r x hr

theorem memForm_overflowLeaf {k x : Nat} (hx : overflowLeaf s k x = .ok t) (h : MemForm s.mem) : MemForm t.mem := by
  unfold overflowLeaf at hx
  split at hx
  · cases hx
  · next u major minors heq =>
    have hu : MemForm u.mem := memForm_nodeAt heq h
    dsimp only at hx
    split at hx
    · cases hx
    · next v hv =>
      have hm : MemForm v.mem := by
        refine memForm_foldl_except _ (fun w hw => by cases hw; exact hu) (fun r i hr w hw => ?_) v hv
        split at hw
        · cases hw
        · split at hw
          · cases hw
          · cases hw
            exact memForm_sealLine _ _ _ _ _ _ (hr _ rfl)
      cases hx
      simpa using hm

theorem memForm_bumpParent {k j x a b : Nat} (hx : bumpParent s k j x = .ok (t, a, b)) (h : MemForm s.mem) : MemForm t.mem := by
  unfold bumpParent at hx
  split at hx
  · cases hx
  · next u pm ps heq =>
    have hu : MemForm u.mem := memForm_nodeAt heq h
    dsimp only at hx
    split at hx
    · cases hx
      simpa using hu
    · split at hx
      · cases hx
      · cases hx
        simp [hu]

theorem memForm_evict {k j x : Nat} (hx : evict s k j x = .ok t) (h : MemForm s.mem) : MemForm t.mem := by
  unfold evict at hx
  split at hx
  · cases hx
    exact h
  · dsimp only at hx
    split at hx
    · cases hx
      exact h
    · split at hx
      · cases hx
      · next u a m heq =>
        have hu : MemForm u.mem := memForm_bumpParent heq h
        rw [← Except.ok.inj hx]
        dsimp only
        exact memForm_storeNode _ _ _ _ _ _ _ hu

theorem memForm_resetNode {k j x a : Nat} (hx : resetNode s k j x a = .ok t) (h : MemForm s.mem) : MemForm t.mem := by
  unfold resetNode at hx
  extract_lets u v at hx
  have hv : MemForm v.mem := by simp [v, u, h]
  split at hx
  · cases hx
    simpa using hv
  · split at hx
    · cases hx
    · next heq =>
      cases hx
      simp [memForm_bumpParent heq hv]

theorem memForm_readGroup {k x : Nat} {l : List (List Byte)} (hx : readGroup s k x = .ok (t, l)) (h : MemForm s.mem) :
    MemForm t.mem := by
  unfold readGroup at hx
  refine List.foldlRecOn (motive := fun r : Except Trouble (State × List (List Byte)) => ∀ p, r = .ok p → MemForm p.1.mem) _ _
    (fun p hp => by cases hp; exact h) (fun r hr i _ p hp => ?_) _ hx
  split at hp
  · cases hp
  · next u ls =>
    have hu : MemForm u.mem := hr _ rfl
    dsimp only at hp
    split at hp
    · cases hp
    · split at hp
      · split at hp
        · cases hp
        · next heq =>
          cases hp
          exact memForm_readLine heq hu
      · cases hp
        exact hu

theorem memForm_convertGroup {k : Nat} (hx : convertGroup s k = .ok t) (h : MemForm s.mem) : MemForm t.mem := by
  unfold convertGroup at hx
  extract_lets slot b x keys at hx
  split at hx
  · cases hx
  · next u lines heq =>
    have hu : MemForm u.mem := memForm_readGroup heq h
    extract_lets major v w before after x y edge at hx
    have hy : MemForm y.mem := by
      have hv : MemForm v.mem := memForm_writeGroup _ _ _ _ _ hu
      simp [y, x, w, hv]
    split at hx
    · rw [← Except.ok.inj hx]
      exact hy
    · refine memForm_foldl_except _ (fun q hq => Except.ok.inj hq ▸ hy) (fun r i hr q hq => ?_) _ hx
      split at hq
      · cases hq
      · dsimp only at hq
        split at hq
        · exact memForm_resetNode hq (hr _ rfl)
        · cases hq
          exact hr _ rfl

@[simp] theorem memForm_scrambledAccess (k : Nat) (p : NocPkt) (h : MemForm s.mem) : MemForm (scrambledAccess s k p).1.mem := by
  unfold scrambledAccess
  dsimp only
  split
  · exact h
  · split
    · simp [h]
    · exact memForm_foldl _ _ h fun u i hu => by simp [hu]

@[simp] theorem memForm_slotReady (k : Nat) (h : MemForm s.mem) : MemForm (slotReady s k).mem := by
  simp [slotReady, h]

theorem memForm_writeGuarded (k : Nat) (p : NocPkt) (l : List Nat) (h : MemForm s.mem) : MemForm
    (writeGuarded k p s l).1.mem := by
  induction l generalizing s with
  | nil => exact h
  | cons i l ih =>
    unfold writeGuarded
    dsimp only
    split
    · next hx => exact ih (memForm_writeLine hx h)
    · exact h

@[simp] theorem memForm_protectedWrite (k : Nat) (p : NocPkt) (again : Bool) (h : MemForm s.mem) :
    MemForm (protectedWrite s k p again).mem := by
  have hw := memForm_writeGuarded k p (List.range p.granules) h
  unfold protectedWrite
  split
  all_goals
    next hx =>
      rw [hx] at hw
      simpa [meetTrouble_frame] using hw

theorem memForm_readGuarded {k : Nat} {l : List Nat} {b : List Byte} (hx : readGuarded k s l = .ok (t, b)) (h : MemForm s.mem) :
    MemForm t.mem := by
  induction l generalizing s b with
  | nil =>
    cases hx
    exact h
  | cons a l ih =>
    unfold readGuarded at hx
    split at hx
    · cases hx
    · next hy =>
      split at hx
      · cases hx
      · next hz =>
        cases hx
        exact ih hz (memForm_readLine hy h)

@[simp] theorem memForm_readsChecked (h : MemForm s.mem) : MemForm (readsChecked s).mem := by
  unfold readsChecked
  split
  · exact h
  · split
    · exact h
    · dsimp only
      split
      · split
        · next hx => simpa using memForm_readGuarded hx (by simpa using h)
        · simpa using h
        · simpa using h
        · simpa using h
      · simpa using h

@[simp] theorem memForm_overflowDone (k : Nat) (h : MemForm s.mem) : MemForm (overflowDone s k).mem := by
  unfold overflowDone
  split
  · exact h
  · split
    · exact h
    · split
      · exact h
      · simpa using h
      · next hx =>
        have hm := memForm_overflowLeaf hx h
        dsimp only
        split <;> simp [hm]

@[simp] theorem memForm_evictNode (k j x : Nat) (h : MemForm s.mem) : MemForm (evictNode s k j x).mem := by
  unfold evictNode
  split
  · exact h
  · split
    · exact h
    · split
      · simpa using h
      · split
        · next hx => exact memForm_evict hx h
        · simpa using h
        · simpa using h

@[simp] theorem memForm_retryHeld (k : Nat) (h : MemForm s.mem) : MemForm (retryHeld s k).mem := by
  unfold retryHeld
  split
  · exact h
  · exact memForm_foldl _ _ (by simpa using h) fun u p hu => by simp [hu]

@[simp] theorem memForm_convertNext (k : Nat) (h : MemForm s.mem) : MemForm (convertNext s k).mem := by
  unfold convertNext
  split
  · exact h
  · split
    · simpa using h
    · extract_lets u
      have hu : MemForm u.mem := by simpa [u] using h
      split
      · exact hu
      · simpa using hu
      · next hx =>
        have hm := memForm_convertGroup hx hu
        extract_lets v w x
        have hw : MemForm w.mem := by
          simp only [w]
          split <;> simpa [v] using hm
        simp [x, hw]

@[simp] theorem memForm_channelComplete (c ix : Nat) (h : MemForm s.mem) : MemForm (channelComplete s c ix).mem := by
  unfold channelComplete
  split
  · exact h
  · dsimp only
    split
    · exact h
    · repeat' split
      all_goals simp [h]

end Sys2Proof.Machine
end

section
/-! What a write does to memory's form: nothing, for every rule of an entry but those of long operations. -/

namespace Sys2Proof.Machine

/-- A rule keeps memory's form: applied, refusing, or accepted for a pick. -/
structure Rule.KeepsForm (rule : Rule) : Prop where
  apply : ∀ {s : State} (b : Bool) (r : Req) (v : Val), MemForm s.mem → MemForm (rule.apply s b r v).s.mem
  judge : ∀ {s : State} {r : Req} {v : Val} {d : Done}, rule.judge s r v = some d → MemForm s.mem → MemForm d.s.mem
  onAccept : ∀ {s : State} (v : Val), MemForm s.mem → MemForm (rule.onAccept s v).mem

/-- A rule that leaves memory alone keeps its form. -/
theorem Rule.KeepsForm.of_mem {rule : Rule} (ha : ∀ s b r v, (rule.apply s b r v).s.mem = s.mem)
    (hj : ∀ s r v d, rule.judge s r v = some d → d.s.mem = s.mem) (ho : ∀ s v, (rule.onAccept s v).mem = s.mem) :
    rule.KeepsForm where
  apply b r v h := h.of_eq (ha _ b r v)
  judge hx h := h.of_eq (hj _ _ _ _ hx)
  onAccept v h := h.of_eq (ho _ v)

@[simp] theorem keepsForm_plainRule (key : Nat) : (plainRule key).KeepsForm := by
  refine .of_mem ?apply ?judge ?onAccept
  case apply => exact fun _ _ _ _ => by simp [plainRule]
  case judge => exact fun _ _ _ _ h => nomatch h
  case onAccept => exact fun _ _ => rfl

@[simp] theorem keepsForm_incrementRule (t : Nat) : (incrementRule t).KeepsForm := by
  refine .of_mem ?apply ?judge ?onAccept
  case apply => exact fun _ _ _ _ => by simp [incrementRule]
  case judge => exact fun _ _ _ _ h => nomatch h
  case onAccept => exact fun _ _ => rfl

@[simp] theorem keepsForm_slewRule (t : Nat) : (slewRule t).KeepsForm := by
  refine .of_mem ?apply ?judge ?onAccept
  case apply => exact fun _ _ _ _ => by simp [slewRule]
  case judge => exact fun _ _ _ _ h => nomatch h
  case onAccept => exact fun _ _ => rfl

@[simp] theorem keepsForm_stepRule (t : Nat) : (stepRule t).KeepsForm := by
  refine .of_mem ?apply ?judge ?onAccept
  case apply => exact fun _ _ _ _ => by simp [stepRule]
  case judge =>
    intro s r v d h
    simp only [stepRule] at h
    grind [refuse, State_raise_frame, State_latchBits_frame]
  case onAccept => exact fun _ _ => rfl

@[simp] theorem keepsForm_forceStepRule (t : Nat) : (forceStepRule t).KeepsForm := by
  refine .of_mem ?apply ?judge ?onAccept
  case apply => exact fun _ _ _ _ => by simp [forceStepRule]
  case judge =>
    grind [forceStepRule, refuse]
  case onAccept => exact fun _ _ => rfl

@[simp] theorem keepsForm_thresholdRule (t : Nat) : (thresholdRule t).KeepsForm := by
  refine .of_mem ?apply ?judge ?onAccept
  case apply => exact fun _ _ _ _ => by simp [thresholdRule]
  case judge => exact fun _ _ _ _ h => nomatch h
  case onAccept => exact fun _ _ => rfl

@[simp] theorem keepsForm_setRule (t : Nat) : (setRule t).KeepsForm := by
  refine .of_mem ?apply ?judge ?onAccept
  case apply => exact fun _ _ _ _ => by simp [setRule]
  case judge =>
    grind [setRule, refuse]
  case onAccept => exact fun _ _ => rfl

@[simp] theorem keepsForm_snapRule : snapRule.KeepsForm := by
  refine .of_mem ?apply ?judge ?onAccept
  case apply => exact fun _ _ _ _ => by simp [snapRule]
  case judge => exact fun _ _ _ _ h => nomatch h
  case onAccept => exact fun _ _ => rfl

@[simp] theorem keepsForm_trigRule (u sub : Nat) : (trigRule u sub).KeepsForm := by
  refine .of_mem ?apply ?judge ?onAccept
  case apply =>
    intro s b r v
    simp only [trigRule]
    split <;> simp
  case judge => exact fun _ _ _ _ h => nomatch h
  case onAccept => exact fun _ _ => rfl

@[simp] theorem keepsForm_servoModeRule (t : Nat) : (servoModeRule t).KeepsForm := by
  refine .of_mem ?apply ?judge ?onAccept
  case apply => exact fun _ _ _ _ => by simp [servoModeRule]
  case judge => exact fun _ _ _ _ h => nomatch h
  case onAccept => exact fun _ _ => rfl

@[simp] theorem keepsForm_refSelRule : refSelRule.KeepsForm := by
  refine .of_mem ?apply ?judge ?onAccept
  case apply =>
    intro s b r v
    simp only [refSelRule]
    split <;> simp
  case judge => exact fun _ _ _ _ h => nomatch h
  case onAccept => exact fun _ _ => rfl

@[simp] theorem keepsForm_refSourceRule (sub : Nat) : (refSourceRule sub).KeepsForm := by
  refine .of_mem ?apply ?judge ?onAccept
  case apply =>
    intro s b r v
    simp only [refSourceRule]
    split
    · simp
    · split <;> simp
  case judge => exact fun _ _ _ _ h => nomatch h
  case onAccept => exact fun _ _ => rfl

@[simp] theorem keepsForm_tlRelockRule : tlRelockRule.KeepsForm := by
  refine .of_mem ?apply ?judge ?onAccept
  case apply =>
    intro s b r v
    simp only [tlRelockRule]
    split <;> simp
  case judge =>
    grind [tlRelockRule, refuse]
  case onAccept => exact fun _ _ => rfl

@[simp] theorem keepsForm_targetOpRule (d : Nat) : (targetOpRule d).KeepsForm := by
  refine .of_mem ?apply ?judge ?onAccept
  case apply =>
    intro s b r v
    simp only [targetOpRule]
    repeat' split
    all_goals simp
  case judge =>
    intro s r v e h
    simp only [targetOpRule] at h
    split at h
    · exact Option.some.inj h ▸ rfl
    · cases h
  case onAccept => exact fun _ _ => rfl

@[simp] theorem keepsForm_uloopRestoreRule (l : Nat) : (uloopRestoreRule l).KeepsForm := by
  refine .of_mem ?apply ?judge ?onAccept
  case apply =>
    intro s b r v
    simp only [uloopRestoreRule]
    split <;> simp
  case judge =>
    grind [uloopRestoreRule, refuse]
  case onAccept => exact fun _ _ => rfl

@[simp] theorem keepsForm_gateRule (u : Nat) : (gateRule u).KeepsForm := by
  refine .of_mem ?apply ?judge ?onAccept
  case apply =>
    intro s b r v
    simp only [gateRule]
    split
    · simp
    · split <;> simp
  case judge =>
    grind [gateRule, refuse]
  case onAccept => exact fun _ _ => rfl

@[simp] theorem keepsForm_spreadRule (key : Nat) : (spreadRule key).KeepsForm := by
  refine .of_mem ?apply ?judge ?onAccept
  case apply => exact fun _ _ _ _ => by simp [spreadRule]
  case judge => exact fun _ _ _ _ h => nomatch h
  case onAccept => exact fun _ _ => rfl

@[simp] theorem keepsForm_restoreRule (u : Nat) : (restoreRule u).KeepsForm := by
  refine .of_mem ?apply ?judge ?onAccept
  case apply =>
    intro s b r v
    simp only [restoreRule]
    split
    · simp
    · split <;> simp
  case judge =>
    grind [restoreRule, refuse]
  case onAccept => exact fun _ _ => rfl

@[simp] theorem keepsForm_portModeRule (k sub : Nat) : (portModeRule k sub).KeepsForm := by
  refine .of_mem ?apply ?judge ?onAccept
  case apply => exact fun _ _ _ _ => by simp [portModeRule]
  case judge => exact fun _ _ _ _ h => nomatch h
  case onAccept => exact fun _ _ => rfl

@[simp] theorem keepsForm_tapRule (c sub : Nat) : (tapRule c sub).KeepsForm := by
  refine .of_mem ?apply ?judge ?onAccept
  case apply => exact fun _ _ _ _ => by simp [tapRule]
  case judge =>
    grind [tapRule, refuse]
  case onAccept => exact fun _ _ => rfl

@[simp] theorem keepsForm_rawRateRule (c : Nat) : (rawRateRule c).KeepsForm := by
  refine .of_mem ?apply ?judge ?onAccept
  case apply => exact fun _ _ _ _ => by simp [rawRateRule, plainRule]
  case judge => exact fun _ _ _ _ h => nomatch h
  case onAccept => exact fun _ _ => rfl

@[simp] theorem keepsForm_mgtModeRule (m sub : Nat) : (mgtModeRule m sub).KeepsForm := by
  refine .of_mem ?apply ?judge ?onAccept
  case apply => exact fun _ _ _ _ => by simp [mgtModeRule]
  case judge => exact fun _ _ _ _ h => nomatch h
  case onAccept => exact fun _ _ => rfl

@[simp] theorem keepsForm_predictMendRule : predictMendRule.KeepsForm := by
  refine .of_mem ?apply ?judge ?onAccept
  case apply => exact fun _ _ _ _ => by simp [predictMendRule, plainRule]
  case judge => exact fun _ _ _ _ h => nomatch h
  case onAccept => exact fun _ _ => rfl

@[simp] theorem keepsForm_retrainRule (c : Nat) : (retrainRule c).KeepsForm := by
  refine .of_mem ?apply ?judge ?onAccept
  case apply =>
    intro s b r v
    simp only [retrainRule]
    split <;> simp
  case judge =>
    grind [retrainRule, refuse]
  case onAccept => exact fun _ _ => rfl

@[simp] theorem keepsForm_chanReinstateRule (c : Nat) : (chanReinstateRule c).KeepsForm := by
  refine .of_mem ?apply ?judge ?onAccept
  case apply =>
    intro s b r v
    simp only [chanReinstateRule]
    split <;> simp
  case judge =>
    grind [chanReinstateRule, refuse]
  case onAccept => exact fun _ _ => rfl

@[simp] theorem keepsForm_statusSrcRule (p : Nat) : (statusSrcRule p).KeepsForm := by
  refine .of_mem ?apply ?judge ?onAccept
  case apply => exact fun _ _ _ _ => by simp [statusSrcRule, plainRule]
  case judge => exact fun _ _ _ _ h => nomatch h
  case onAccept => exact fun _ _ => rfl

@[simp] theorem keepsForm_debounceRule (p : Nat) : (debounceRule p).KeepsForm := by
  refine .of_mem ?apply ?judge ?onAccept
  case apply => exact fun _ _ _ _ => by simp [debounceRule]
  case judge => exact fun _ _ _ _ h => nomatch h
  case onAccept => exact fun _ _ => rfl

@[simp] theorem keepsForm_bankMaskRule (b i : Nat) : (bankMaskRule b i).KeepsForm := by
  refine .of_mem ?apply ?judge ?onAccept
  case apply => exact fun _ _ _ _ => by simp [bankMaskRule, plainRule]
  case judge => exact fun _ _ _ _ h => nomatch h
  case onAccept => exact fun _ _ => rfl

@[simp] theorem keepsForm_pdIdleRule : pdIdleRule.KeepsForm := by
  refine .of_mem ?apply ?judge ?onAccept
  case apply => exact fun _ _ _ _ => by simp [pdIdleRule, plainRule]
  case judge => exact fun _ _ _ _ h => nomatch h
  case onAccept => exact fun _ _ => rfl

@[simp] theorem keepsForm_slotEnableRule (k : Nat) : (slotEnableRule k).KeepsForm := by
  refine .of_mem ?apply ?judge ?onAccept
  case apply =>
    intro s b r v
    simp only [slotEnableRule]
    split <;> simp
  case judge =>
    grind [slotEnableRule, refuse]
  case onAccept => exact fun _ _ => rfl

@[simp] theorem keepsForm_slotFieldRule (k sub : Nat) : (slotFieldRule k sub).KeepsForm := by
  refine .of_mem ?apply ?judge ?onAccept
  case apply => exact fun _ _ _ _ => by simp [slotFieldRule]
  case judge =>
    grind [slotFieldRule, refuse]
  case onAccept => exact fun _ _ => rfl

@[simp] theorem keepsForm_ctrCacheRule (b : Nat) : (ctrCacheRule b).KeepsForm := by
  refine .of_mem ?apply ?judge ?onAccept
  case apply => exact fun _ _ _ _ => by simp [ctrCacheRule, plainRule]
  case judge => exact fun _ _ _ _ h => nomatch h
  case onAccept => exact fun _ _ => rfl

@[simp] theorem keepsForm_linkRetrainRule (l : Nat) : (linkRetrainRule l).KeepsForm := by
  refine .of_mem ?apply ?judge ?onAccept
  case apply =>
    intro s b r v
    simp only [linkRetrainRule]
    split <;> simp
  case judge =>
    grind [linkRetrainRule, refuse]
  case onAccept => exact fun _ _ => rfl

@[simp] theorem keepsForm_linkReinstateRule (l : Nat) : (linkReinstateRule l).KeepsForm := by
  refine .of_mem ?apply ?judge ?onAccept
  case apply =>
    intro s b r v
    simp only [linkReinstateRule]
    split <;> simp
  case judge =>
    grind [linkReinstateRule, refuse]
  case onAccept => exact fun _ _ => rfl

@[simp] theorem keepsForm_shadowTableRule : shadowTableRule.KeepsForm := by
  refine .of_mem ?apply ?judge ?onAccept
  case apply =>
    intro s b r v
    simp only [shadowTableRule]
    split <;> simp
  case judge =>
    grind [shadowTableRule, refuse]
  case onAccept => exact fun _ _ => rfl

@[simp] theorem keepsForm_swapRule : swapRule.KeepsForm := by
  refine .of_mem ?apply ?judge ?onAccept
  case apply =>
    intro s b r v
    simp only [swapRule]
    repeat' split
    all_goals simp
  case judge =>
    grind [swapRule, refuse]
  case onAccept => exact fun _ _ => rfl

@[simp] theorem keepsForm_statsClearRule : statsClearRule.KeepsForm := by
  refine .of_mem ?apply ?judge ?onAccept
  case apply =>
    intro s b r v
    simp only [statsClearRule]
    split <;> simp
  case judge => exact fun _ _ _ _ h => nomatch h
  case onAccept => exact fun _ _ => rfl

@[simp] theorem keepsForm_classRule (i : Nat) : (classRule i).KeepsForm := by
  refine .of_mem ?apply ?judge ?onAccept
  case apply => exact fun _ _ _ _ => by simp [classRule, plainRule]
  case judge => exact fun _ _ _ _ h => nomatch h
  case onAccept => exact fun _ _ => rfl

@[simp] theorem keepsForm_bindingRule (u : Nat) : (bindingRule u).KeepsForm := by
  refine .of_mem ?apply ?judge ?onAccept
  case apply => exact fun _ _ _ _ => by simp [bindingRule]
  case judge =>
    grind [bindingRule, refuse]
  case onAccept => exact fun _ _ => rfl

@[simp] theorem keepsForm_takeRule (n : Nat) : (takeRule n).KeepsForm := by
  refine .of_mem ?apply ?judge ?onAccept
  case apply => exact fun _ _ _ _ => by simp [takeRule]
  case judge =>
    grind [takeRule, refuse]
  case onAccept => exact fun _ _ => by simp [takeRule]

@[simp] theorem keepsForm_exceptRule (e sub : Nat) : (exceptRule e sub).KeepsForm := by
  refine .of_mem ?apply ?judge ?onAccept
  case apply => exact fun _ _ _ _ => by simp [exceptRule, plainRule]
  case judge => exact fun _ _ _ _ h => nomatch h
  case onAccept => exact fun _ _ => rfl

@[simp] theorem keepsForm_removeRule (e : Nat) : (removeRule e).KeepsForm := by
  refine .of_mem ?apply ?judge ?onAccept
  case apply =>
    intro s b r v
    simp only [removeRule]
    repeat' split
    all_goals simp
  case judge => exact fun _ _ _ _ h => nomatch h
  case onAccept => exact fun _ _ => rfl

@[simp] theorem keepsForm_shadowRule (e : Nat) : (shadowRule e).KeepsForm := by
  refine .of_mem ?apply ?judge ?onAccept
  case apply =>
    intro s b r v
    simp only [shadowRule]
    split <;> simp
  case judge =>
    grind [shadowRule, refuse]
  case onAccept => exact fun _ _ => rfl

@[simp] theorem keepsForm_engineReinstateRule (e : Nat) : (engineReinstateRule e).KeepsForm := by
  refine .of_mem ?apply ?judge ?onAccept
  case apply =>
    intro s b r v
    simp only [engineReinstateRule]
    split <;> simp
  case judge =>
    grind [engineReinstateRule, refuse]
  case onAccept => exact fun _ _ => rfl

@[simp] theorem keepsForm_imageRule (h : Nat) : (imageRule h).KeepsForm := by
  refine .of_mem ?apply ?judge ?onAccept
  case apply => exact fun _ _ _ _ => by simp [imageRule]
  case judge =>
    intro s r v d h
    obtain ⟨e, _, rfl⟩ := Option.map_eq_some_iff.mp h
    rfl
  case onAccept => exact fun _ _ => rfl

@[simp] theorem keepsForm_dataMemoryRule (h : Nat) : (dataMemoryRule h).KeepsForm := by
  refine .of_mem ?apply ?judge ?onAccept
  case apply => exact fun _ _ _ _ => by simp [dataMemoryRule]
  case judge =>
    grind [dataMemoryRule, refuse]
  case onAccept => exact fun _ _ => rfl

@[simp] theorem keepsForm_shBindRule (n sub : Nat) : (shBindRule n sub).KeepsForm := by
  refine .of_mem ?apply ?judge ?onAccept
  case apply => exact fun _ _ _ _ => by simp [shBindRule]
  case judge =>
    grind [shBindRule, refuse]
  case onAccept => exact fun _ _ => rfl

@[simp] theorem keepsForm_runRule (h : Nat) : (runRule h).KeepsForm := by
  refine .of_mem ?apply ?judge ?onAccept
  case apply => exact fun _ _ _ _ => by simp [runRule]
  case judge =>
    grind [runRule, refuse]
  case onAccept => exact fun _ _ => rfl

@[simp] theorem keepsForm_mapoutRule (h : Nat) : (mapoutRule h).KeepsForm := by
  refine .of_mem ?apply ?judge ?onAccept
  case apply => exact fun _ _ _ _ => by simp [mapoutRule]
  case judge =>
    grind [mapoutRule, refuse]
  case onAccept => exact fun _ _ => rfl

@[simp] theorem keepsForm_mailboxRule (h : Nat) : (mailboxRule h).KeepsForm := by
  refine .of_mem ?apply ?judge ?onAccept
  case apply => exact fun _ _ _ _ => by simp [mailboxRule]
  case judge => exact fun _ _ _ _ h => nomatch h
  case onAccept => exact fun _ _ => rfl

@[simp] theorem keepsForm_rptCeilingRule (h : Nat) : (rptCeilingRule h).KeepsForm := by
  refine .of_mem ?apply ?judge ?onAccept
  case apply => exact fun _ _ _ _ => by simp [rptCeilingRule]
  case judge =>
    grind [rptCeilingRule, refuse]
  case onAccept => exact fun _ _ => rfl

@[simp] theorem keepsForm_clusterReinstateRule (c : Nat) : (clusterReinstateRule c).KeepsForm := by
  refine .of_mem ?apply ?judge ?onAccept
  case apply =>
    intro s b r v
    simp only [clusterReinstateRule]
    split <;> simp
  case judge =>
    grind [clusterReinstateRule, refuse]
  case onAccept => exact fun _ _ => rfl

@[simp] theorem keepsForm_clearRule : clearRule.KeepsForm := by
  refine .of_mem ?apply ?judge ?onAccept
  case apply => exact fun _ _ _ _ => by simp [clearRule]
  case judge => exact fun _ _ _ _ h => nomatch h
  case onAccept => exact fun _ _ => rfl

@[simp] theorem keepsForm_isolateRule (p : Nat) : (isolateRule p).KeepsForm := by
  refine .of_mem ?apply ?judge ?onAccept
  case apply => exact fun _ _ _ _ => by simp [isolateRule]
  case judge => exact fun _ _ _ _ h => nomatch h
  case onAccept => exact fun _ _ => rfl

@[simp] theorem keepsForm_releaseRule (p : Nat) : (releaseRule p).KeepsForm := by
  refine .of_mem ?apply ?judge ?onAccept
  case apply =>
    intro s b r v
    simp only [releaseRule]
    cases ht : requestTask s .hem p with
    | none => rfl
    | some t =>
      unfold requestTask at ht
      split at ht
      · cases ht
      · simp [← Option.some.inj ht]
  case judge =>
    grind [releaseRule, refuse]
  case onAccept => exact fun _ _ => rfl

@[simp] theorem keepsForm_openRule : openRule.KeepsForm := by
  refine .of_mem ?apply ?judge ?onAccept
  case apply => exact fun _ _ _ _ => by simp [openRule]
  case judge =>
    grind [openRule, refuse]
  case onAccept => exact fun _ _ => rfl

@[simp] theorem keepsForm_chunkRule : chunkRule.KeepsForm := by
  refine .of_mem ?apply ?judge ?onAccept
  case apply => exact fun _ _ _ _ => by simp [chunkRule]
  case judge =>
    grind [chunkRule, refuse]
  case onAccept => exact fun _ _ => rfl

@[simp] theorem keepsForm_activateRule : activateRule.KeepsForm := by
  refine .of_mem ?apply ?judge ?onAccept
  case apply => exact fun _ _ _ _ => by simp [activateRule]
  case judge =>
    intro s r v d h
    simp only [activateRule, activateJudge] at h
    repeat' split at h
    all_goals simp only [refuse, Option.some.injEq, reduceCtorEq] at h
    all_goals rw [← h]
  case onAccept => exact fun _ _ => by simp [activateRule]

@[simp] theorem keepsForm_forceCloseRule (n : Nat) : (forceCloseRule n).KeepsForm := by
  refine .of_mem ?apply ?judge ?onAccept
  case apply => exact fun _ _ _ _ => by simp [forceCloseRule]
  case judge => exact fun _ _ _ _ h => nomatch h
  case onAccept => exact fun _ _ => rfl

@[simp] theorem keepsForm_hostKeyRule (k : Nat) : (hostKeyRule k).KeepsForm := by
  refine .of_mem ?apply ?judge ?onAccept
  case apply =>
    intro s b r v
    simp only [hostKeyRule]
    split <;> simp
  case judge => exact fun _ _ _ _ h => nomatch h
  case onAccept => exact fun _ _ => rfl

@[simp] theorem keepsForm_keyEnableRule (k : Nat) : (keyEnableRule k).KeepsForm := by
  refine .of_mem ?apply ?judge ?onAccept
  case apply =>
    intro s b r v
    simp only [keyEnableRule]
    split
    · simp
    · split <;> simp
  case judge => exact fun _ _ _ _ h => nomatch h
  case onAccept => exact fun _ _ => rfl

@[simp] theorem keepsForm_keyGalleryRule (k : Nat) : (keyGalleryRule k).KeepsForm := by
  refine .of_mem ?apply ?judge ?onAccept
  case apply => exact fun _ _ _ _ => by simp [keyGalleryRule, plainRule]
  case judge => exact fun _ _ _ _ h => nomatch h
  case onAccept => exact fun _ _ => rfl

@[simp] theorem keepsForm_groupKeyRule (g : Nat) : (groupKeyRule g).KeepsForm := by
  refine .of_mem ?apply ?judge ?onAccept
  case apply =>
    intro s b r v
    simp only [groupKeyRule]
    split <;> simp
  case judge => exact fun _ _ _ _ h => nomatch h
  case onAccept => exact fun _ _ => rfl

@[simp] theorem keepsForm_rangeRule (q sub : Nat) : (rangeRule q sub).KeepsForm := by
  refine .of_mem ?apply ?judge ?onAccept
  case apply =>
    intro s b r v
    simp only [rangeRule]
    split <;> simp
  case judge => exact fun _ _ _ _ h => nomatch h
  case onAccept => exact fun _ _ => rfl

@[simp] theorem keepsForm_lineRule (n : Nat) : (lineRule n).KeepsForm := by
  refine .of_mem ?apply ?judge ?onAccept
  case apply => exact fun _ _ _ _ => by simp [lineRule, plainRule]
  case judge => exact fun _ _ _ _ h => nomatch h
  case onAccept => exact fun _ _ => rfl

@[simp] theorem keepsForm_w1cRule (key : Nat) : (w1cRule key).KeepsForm := by
  refine .of_mem ?apply ?judge ?onAccept
  case apply => exact fun _ _ _ _ => by simp [w1cRule]
  case judge => exact fun _ _ _ _ h => nomatch h
  case onAccept => exact fun _ _ => rfl

@[simp] theorem keepsForm_rulingRule : rulingRule.KeepsForm := by
  refine .of_mem ?apply ?judge ?onAccept
  case apply => exact fun _ _ _ _ => by simp [rulingRule]
  case judge =>
    grind [rulingRule, refuse]
  case onAccept => exact fun _ _ => rfl

@[simp] theorem keepsForm_windowRule : windowRule.KeepsForm := by
  refine .of_mem ?apply ?judge ?onAccept
  case apply => exact fun _ _ _ _ => by simp [windowRule, plainRule]
  case judge =>
    grind [windowRule, refuse]
  case onAccept => exact fun _ _ => rfl

@[simp] theorem keepsForm_armRule (t : Nat) : (armRule t).KeepsForm := by
  refine .of_mem ?apply ?judge ?onAccept
  case apply =>
    intro s b r v
    simp only [armRule]
    split <;> simp
  case judge =>
    grind [armRule, refuse]
  case onAccept => exact fun _ _ => rfl

@[simp] theorem keepsForm_pickGenRule (t sub : Nat) : (pickGenRule t sub).KeepsForm := by
  refine .of_mem ?apply ?judge ?onAccept
  case apply => exact fun _ _ _ _ => by simp [pickGenRule]
  case judge =>
    intro s r v d h
    simp only [pickGenRule, pickJudge] at h
    grind [refuse]
  case onAccept => exact fun _ _ => rfl

@[simp] theorem keepsForm_lengthRule (key : Nat) (lens : List Nat) : (lengthRule key lens).KeepsForm := by
  refine .of_mem ?apply ?judge ?onAccept
  case apply => exact fun _ _ _ _ => by simp [lengthRule, plainRule]
  case judge => exact fun _ _ _ _ h => nomatch h
  case onAccept => exact fun _ _ => rfl

@[simp] theorem keepsForm_oneStepRule (k : Nat) : (oneStepRule k).KeepsForm := by
  refine .of_mem ?apply ?judge ?onAccept
  case apply => exact fun _ _ _ _ => by simp [oneStepRule, plainRule]
  case judge => exact fun _ _ _ _ h => nomatch h
  case onAccept => exact fun _ _ => rfl

/-! ### Flows -/


@[simp] theorem mem_enableRx (n : Nat) (s : State) : (enableRx n s).mem = s.mem := by simp [enableRx]

@[simp] theorem mem_enableTx (n : Nat) (s : State) : (enableTx n s).mem = s.mem := by simp [enableTx]

@[simp] theorem keepsForm_flowRule (idx sub : Nat) (ok : Nat → Val → Bool) (checks : State → Option Nat)
    {enable disable : State → State} (he : ∀ s, (enable s).mem = s.mem) (hd : ∀ s, (disable s).mem = s.mem) :
    (flowRule idx sub ok checks enable disable).KeepsForm := by
  refine .of_mem ?apply ?judge fun _ _ => rfl
  case apply =>
    intro s b r v
    simp only [flowRule]
    split
    · split
      · simp [he]
      · split <;> simp [hd]
    · simp
  case judge =>
    intro s r v d h
    simp only [flowRule] at h
    repeat' split at h
    all_goals simp only [refuse, Option.some.injEq, reduceCtorEq] at h
    all_goals rw [← h]

@[simp] theorem keepsForm_rxFlowRule (n sub : Nat) : (rxFlowRule n sub).KeepsForm :=
  keepsForm_flowRule _ _ _ _ (mem_enableRx n) fun _ => by simp

@[simp] theorem keepsForm_txFlowRule (n sub : Nat) : (txFlowRule n sub).KeepsForm :=
  keepsForm_flowRule _ _ _ _ (mem_enableTx n) fun _ => by simp

@[simp] theorem keepsForm_macRule (key : Nat) : (macRule key).KeepsForm := keepsForm_lengthRule key [6]

end Sys2Proof.Machine
end

section
/-! Long operations keep memory's form, and with them the rule of every entry. -/

namespace Sys2Proof.Machine

variable {s t : State}

/-! ### Long operations -/

@[simp] theorem memForm_beginOp (k : Nat) (h : MemForm s.mem) : MemForm (beginOp s k).mem := by
  unfold beginOp
  dsimp only
  repeat' split
  all_goals simp [h]

@[simp] theorem memForm_runOrQueue (k : Nat) (h : MemForm s.mem) : MemForm (runOrQueue s k).mem := by
  unfold runOrQueue
  have hr : MemForm (putOp s k opRunning).mem := by simpa using h
  split
  · simpa using h
  · extract_lets u
    split
    · exact hr
    · exact memForm_beginOp k hr

@[simp] theorem memForm_startOp (k : Nat) (r : Req) (h : MemForm s.mem) : MemForm (startOp s k r).mem :=
  memForm_runOrQueue k h

theorem memForm_controlled {k ctl : Nat} (hx : controlled s k ctl = some t) (h : MemForm s.mem) : MemForm t.mem := by
  unfold controlled at hx
  dsimp only at hx
  repeat' split at hx
  all_goals cases hx
  all_goals simp [h]

/-- The fields of a slot, as its rule writes them, leave memory alone. -/
theorem memForm_slotFields (k sub : Nat) (v : Val) (h : MemForm s.mem) :
    MemForm (let o := opReq s k sub v
      if sameFields s k o then s
      else ((s.write (ent (opIdx k) 1) (.num o.kind)).write (ent (opIdx k) 2) (.num o.target)).write (ent (opIdx k) 3)
        (.oct o.params)).mem := by
  dsimp only
  split
  · exact h
  · simpa using h

@[simp] theorem keepsForm_slotRule (k sub : Nat) : (slotRule k sub).KeepsForm where
  apply {s} b r v h := by
    have hw := memForm_slotFields k sub v h
    dsimp only at hw
    dsimp only [slotRule]
    split
    · exact memForm_startOp k r hw
    · dsimp only
      cases hc : controlled _ k _ with
      | none => exact hw
      | some t => exact memForm_controlled hc hw
  judge hx h := by
    dsimp only [slotRule] at hx
    repeat' split at hx
    all_goals simp only [refuse, Option.some.injEq, reduceCtorEq] at hx
    all_goals exact hx ▸ h
  onAccept _ h := h

/-! ### The rule of every entry -/

/-- Where a table names a rule, it keeps memory's form. -/
def RuleAtKeepsForm (o : Option Rule) : Prop := ∀ rule ∈ o, rule.KeepsForm

@[simp] theorem ruleAtKeepsForm_none : RuleAtKeepsForm none := nofun

@[simp] theorem ruleAtKeepsForm_some {rule : Rule} : RuleAtKeepsForm (some rule) ↔ rule.KeepsForm := by
  simp [RuleAtKeepsForm]

@[simp] theorem ruleAtKeepsForm_ite {p : Prop} [Decidable p] {a b : Option Rule} :
    RuleAtKeepsForm (if p then a else b) ↔ (p → RuleAtKeepsForm a) ∧ (¬p → RuleAtKeepsForm b) := by
  split <;> simp [*]

theorem ruleAtKeepsForm_sessionRule (idx sub : Nat) : RuleAtKeepsForm (sessionRule idx sub) := by
  simp only [sessionRule, ruleAtKeepsForm_ite]
  repeat' apply And.intro
  all_goals intros
  all_goals repeat' split
  all_goals simp

theorem ruleAtKeepsForm_timeRule (idx sub : Nat) : RuleAtKeepsForm (timeRule idx sub) := by
  simp only [timeRule, ruleAtKeepsForm_ite]
  repeat' apply And.intro
  all_goals intros
  all_goals repeat' split
  all_goals simp

theorem ruleAtKeepsForm_clockRule (idx sub : Nat) : RuleAtKeepsForm (clockRule idx sub) := by
  simp [clockRule]

theorem ruleAtKeepsForm_portRule (idx sub : Nat) : RuleAtKeepsForm (portRule idx sub) := by
  simp [portRule]

theorem ruleAtKeepsForm_streamRule (idx sub : Nat) : RuleAtKeepsForm (streamRule idx sub) := by
  simp only [streamRule, ruleAtKeepsForm_ite]
  repeat' apply And.intro
  all_goals intros
  all_goals repeat' split
  all_goals simp

theorem ruleAtKeepsForm_shuttleRule (idx sub : Nat) : RuleAtKeepsForm (shuttleRule idx sub) := by
  simp only [shuttleRule, ruleAtKeepsForm_ite]
  repeat' apply And.intro
  all_goals intros
  all_goals repeat' split
  all_goals simp

theorem ruleAtKeepsForm_memoryRule (idx sub : Nat) : RuleAtKeepsForm (memoryRule idx sub) := by
  simp [memoryRule]

theorem ruleAtKeepsForm_systemRule (idx sub : Nat) : RuleAtKeepsForm (systemRule idx sub) := by
  simp [systemRule]

/-- A table that names no rule leaves the plain one. -/
theorem RuleAtKeepsForm.getD {o : Option Rule} (h : RuleAtKeepsForm o) (key : Nat) : (o.getD (plainRule key)).KeepsForm := by
  cases o with
  | none => exact keepsForm_plainRule key
  | some rule => exact h rule rfl

@[simp] theorem keepsForm_ruleOf (key : Nat) : (ruleOf key).KeepsForm := by
  refine RuleAtKeepsForm.getD ?_ key
  split
  · exact ruleAtKeepsForm_sessionRule _ _
  · exact ruleAtKeepsForm_sessionRule _ _
  · exact ruleAtKeepsForm_timeRule _ _
  · exact ruleAtKeepsForm_clockRule _ _
  · exact ruleAtKeepsForm_portRule _ _
  · exact ruleAtKeepsForm_streamRule _ _
  · exact ruleAtKeepsForm_streamRule _ _
  · exact ruleAtKeepsForm_shuttleRule _ _
  · exact ruleAtKeepsForm_memoryRule _ _
  · exact ruleAtKeepsForm_memoryRule _ _
  · exact ruleAtKeepsForm_memoryRule _ _
  · exact ruleAtKeepsForm_systemRule _ _

@[simp] theorem keepsForm_timingRule (key : Nat) : (timingRule key).KeepsForm := by
  unfold timingRule
  split <;> simp

end Sys2Proof.Machine
end

section
/-! Engines, the fetch path, long operations and resets keep memory's form. -/

namespace Sys2Proof.Machine

variable {s t : State}

@[simp] theorem memForm_startUp (l : Load) (h : MemForm s.mem) : MemForm (startUp s l).mem := by simp [startUp, h]

@[simp] theorem memForm_scrubTo (k stop : Nat) (h : MemForm s.mem) : MemForm (scrubTo s k stop).mem := by
  unfold scrubTo
  extract_lets b base here ones bads m u v w
  have hu : MemForm u.mem := ⟨h.1, h.2⟩
  have hv : MemForm v.mem := by simpa [v] using hu
  have hw : MemForm w.mem := memForm_foldl _ _ hv fun x a hx => by simpa using hx
  simpa using hw

@[simp] theorem memForm_retrained (k : Nat) (h : MemForm s.mem) : MemForm (retrained s k).mem := by simp [retrained, h]

@[simp] theorem memForm_readSlot (n m : Nat) (src : Source) (j : Nat) (h : MemForm s.mem) :
    MemForm (readSlot s n m src j).mem := by
  grind [readSlot, memForm_readGranules, readSlot_frame, State_setTx_frame]

@[simp] theorem memForm_ringRead (n : Nat) (h : MemForm s.mem) : MemForm (ringRead s n).mem := by
  grind [ringRead, State_count_frame, missFrame_frame, memForm_readGranules, memForm_readSlot, State_setTx_frame,
    State_waitTb_frame, State_setTx_frame]

@[simp] theorem memForm_takeException (e u : Nat) (b : List Byte) (h : MemForm s.mem) :
    MemForm (takeException s e u b).mem := by
  grind [takeException, memForm_engineWrite, State_count_frame, takeException_frame]

@[simp] theorem memForm_classify (e u : Nat) (frame : List Byte) (vlan : Nat) (dst : List Byte) (port : Nat) (body : List Byte)
    (h : MemForm s.mem) :
    MemForm (classify s e u frame vlan dst port body).mem := by
  unfold classify
  dsimp only
  repeat' split
  all_goals simp [h]

@[simp] theorem memForm_takeFrame (u : Nat) (b : List Byte) (h : MemForm s.mem) : MemForm (takeFrame s u b).mem := by
  unfold takeFrame
  repeat' split
  all_goals simp [h]

@[simp] theorem memForm_storeLanes (f : Fmt) (e line : Nat) (fin : Bool) (fuel i : Nat) (xs : List Nat) (h : MemForm s.mem) :
    MemForm (storeLanes f e line fin fuel i xs s).mem := by
  induction fuel generalizing i xs s with
  | zero => simpa [storeLanes] using h
  | succ n ih =>
    unfold storeLanes
    split
    · exact h
    · exact ih _ _ (memForm_engineWrite _ _ _ _ h)

@[simp] theorem memForm_storeVideo (n : Nat) (p : RxPkt) (h : MemForm s.mem) : MemForm (storeVideo s n p).mem := by
  grind [storeVideo, memForm_foldl, memForm_storeLanes, storeVideo_frame]

@[simp] theorem memForm_storeRecord (n : Nat) (p : RxPkt) (h : MemForm s.mem) : MemForm (storeRecord s n p).mem := by
  grind [storeRecord, memForm_engineWrite, memForm_foldl, State_setRx_frame, storeRecord_frame]

@[simp] theorem memForm_toStore (n : Nat) (p : RxPkt) (h : MemForm s.mem) : MemForm (toStore s n p).mem := by simp [toStore, h]

@[simp] theorem memForm_deliver (n : Nat) (p : RxPkt) (h : MemForm s.mem) : MemForm (deliver s n p).mem := by simp [deliver, h]

@[simp] theorem memForm_releasePacket (n : Nat) (h : MemForm s.mem) : MemForm (releasePacket s n).mem := by
  unfold releasePacket
  repeat' split
  all_goals simp [h]

@[simp] theorem memForm_resetNoc (h : MemForm s.mem) : MemForm (resetNoc s).mem := by
  unfold resetNoc
  exact memForm_foldl _ _ ⟨h.1, h.2⟩ fun u j hu => by simpa using hu

@[simp] theorem memForm_deviceReset (lowNs : Nat) (h : MemForm s.mem) : MemForm
    (deviceReset s lowNs).mem := by simp [deviceReset, h]

@[simp] theorem memForm_resetPulse (lowNs : Nat) (h : MemForm s.mem) : MemForm (resetPulse s lowNs).mem := by
  unfold resetPulse
  repeat' split
  all_goals simp [h]

@[simp] theorem memForm_railFails (rail mv : Nat) (h : MemForm s.mem) : MemForm (railFails s rail mv).mem := by
  unfold railFails
  repeat' split
  all_goals simp [h]

@[simp] theorem memForm_losePower : MemForm (losePower s).mem := by
  unfold losePower
  exact ⟨rfl, rfl, rfl⟩

@[simp] theorem memForm_closePickBytes (h : MemForm s.mem) : MemForm (closePickBytes s).mem := by simp [closePickBytes, h]

theorem memForm_fetchPiece (i a : Nat) (b : List Byte) (keep : Bool) {q : State × Nat} (hx : fetchPiece s i a b keep = some q)
    (h : MemForm s.mem) :
    MemForm q.1.mem := by
  unfold fetchPiece at hx
  repeat' split at hx
  all_goals simp only [Option.some.injEq, Option.map_eq_some_iff, reduceCtorEq] at hx
  · rw [← hx]
    simpa using h
  · rw [← hx]
    exact memForm_store _ _ (memForm_rowAccess _ _ _ _ _ h)
  · rw [← hx]
    exact memForm_store _ _ h
  · obtain ⟨u, hu, rfl⟩ := hx
    exact memForm_archiveWrite hu h
  · rw [← hx]
    simpa using h

theorem memForm_fetchWrite (i a : Nat) (b : List Byte) (keep : Bool) {q : State × Nat} (hx : fetchWrite s i a b keep = some q)
    (h : MemForm s.mem) :
    MemForm q.1.mem := by
  unfold fetchWrite at hx
  refine List.foldlRecOn (motive := fun o : Option (State × Nat) => ∀ q, o = some q → MemForm q.1.mem) _ _
    (fun r hr => ?_) (fun o ho p _ r hr => ?_) q hx
  · rw [← Option.some.inj hr]
    exact h
  · obtain ⟨u, rfl, hr⟩ := Option.bind_eq_some_iff.mp hr
    obtain ⟨v, hv, rfl⟩ := Option.map_eq_some_iff.mp hr
    exact (memForm_fetchPiece _ _ _ _ hv (ho u rfl) : MemForm v.1.mem)

@[simp] theorem memForm_copyBlocks (k n : Nat) (h : MemForm s.mem) : MemForm (copyBlocks s k n).mem := by
  induction n generalizing s with
  | zero => simpa [copyBlocks] using h
  | succ n ih =>
    rw [copyBlocks]
    refine MemForm.ite h ?_
    extract_lets m r
    have hr : MemForm r.1.mem := memForm_fetchRead _ _ _ h
    split
    · exact MemForm.ite h (by simpa using hr)
    · next w hw =>
      obtain ⟨d, hd, hw⟩ := Option.bind_eq_some_iff.mp hw
      have hq : MemForm w.1.mem := memForm_fetchWrite _ _ _ _ hw hr
      extract_lets u v
      have hu : MemForm u.mem := by
        dsimp only [u]
        split <;> simp [hq]
      exact ih (by simpa [v] using hu)

@[simp] theorem memForm_someWork (k : Nat) (h : MemForm s.mem) : MemForm (someWork s k).mem := by
  unfold someWork
  repeat' split
  all_goals simp [h]

@[simp] theorem memForm_workComplete (k : Nat) (data : List Byte) (h : MemForm s.mem) :
    MemForm (workComplete s k data).mem := by
  unfold workComplete
  repeat' split
  all_goals simp [h]

@[simp] theorem memForm_undoComplete (k : Nat) (h : MemForm s.mem) : MemForm (undoComplete s k).mem := by
  unfold undoComplete
  dsimp only
  repeat' split
  all_goals simp [h]

@[simp] theorem memForm_safePoint (k : Nat) (h : MemForm s.mem) : MemForm (safePoint s k).mem := by simp [safePoint, h]

@[simp] theorem memForm_opError (k status detail : Nat) (h : MemForm s.mem) : MemForm (opError s k status detail).mem := by
  unfold opError
  dsimp only
  repeat' split
  all_goals simp [h]

end Sys2Proof.Machine
end

section
/-! Writes, loads, fetches and instructions keep memory's form. -/

namespace Sys2Proof.Machine

variable {s t : State}

/-! ### Writes -/

@[simp] theorem memForm_applyWrite (b : Bool) (r : Req) (key : Nat) (v : Val) {rule : Rule} (hr : rule.KeepsForm)
    (h : MemForm s.mem) : MemForm (applyWrite s b r key v rule).s.mem := by
  have hd := hr.apply b r v h
  unfold applyWrite
  extract_lets d
  split
  · exact hd
  · exact hd

theorem memForm_acceptAt (r : Req) (pos key : Nat) (v : Val) {rule : Rule} (n : Nat) (hr : rule.KeepsForm) (h : MemForm s.mem) :
    MemForm (acceptAt s r pos key v rule n).s.mem :=
  hr.onAccept v (by simpa using h)

@[simp] theorem memForm_executeWrite (r : Req) (pos key : Nat) (v : Val) {rule : Rule} (hr : rule.KeepsForm)
    (h : MemForm s.mem) :
    MemForm (executeWrite s r pos key v rule).s.mem := by
  unfold executeWrite
  split
  · exact h
  · split
    · next hj => exact hr.judge hj h
    · split
      · exact memForm_acceptAt r pos key v _ hr h
      · split
        · exact memForm_acceptAt r pos key v _ hr h
        · exact h
      · exact memForm_applyWrite false r key v hr h

@[simp] theorem memForm_executeChecked (r : Req) (pos key : Nat) (v : Val) {rule : Rule} (hr : rule.KeepsForm)
    (h : MemForm s.mem) :
    MemForm (executeChecked s r pos key v rule).s.mem := by
  unfold executeChecked
  split
  · next hj => exact hr.judge hj h
  · split
    · exact memForm_acceptAt r pos key v _ hr h
    · exact memForm_acceptAt r pos key v _ hr h
    · exact memForm_applyWrite false r key v hr h

@[simp] theorem memForm_submit (r : Req) (key : Nat) (v : Val) {rule : Rule} (hr : rule.KeepsForm) (h : MemForm s.mem) :
    MemForm (submit s r key v rule).mem := by
  unfold submit
  extract_lets r'
  split
  · simpa using h
  · split
    · simpa using h
    · simpa using memForm_executeWrite r' 0 key v hr h

@[simp] theorem memForm_writeDone (r : Req) (pos key : Nat) (v : Val) (checked : Bool) (h : MemForm s.mem) :
    MemForm (writeDone s r pos key v checked).s.mem := by
  unfold writeDone
  extract_lets dst
  split
  · exact memForm_executeChecked r pos _ _ (keepsForm_ruleOf _) h
  · exact memForm_executeWrite r pos _ _ (keepsForm_ruleOf _) h

@[simp] theorem memForm_servoAct (n : Nat) (d : Int) (h : MemForm s.mem) : MemForm (servoAct s n d).mem := by
  unfold servoAct
  split
  · extract_lets since u
    have hu : MemForm u.mem := MemForm.ite h (by simpa using h)
    simpa using memForm_submit servoReq _ _ (keepsForm_incrementRule n) hu
  · extract_lets u v
    have hv : MemForm v.mem := memForm_submit servoReq _ _ (keepsForm_stepRule n) (by simpa [u] using h)
    exact MemForm.ite (by simpa using hv) hv

@[simp] theorem memForm_servoMessage (n k domain : Nat) (source : List Byte) (m : ServoMsg) (h : MemForm s.mem) :
    MemForm (servoMessage s n k domain source m).mem := by
  unfold servoMessage
  dsimp only
  repeat' split
  all_goals simp [h]

/-! ### Loads -/

theorem memForm_takeWords (port : LoadPort) (l : Load) (n : Nat) (ws : List Nat) {f : State → Load → List Nat → State}
    (hf : ∀ u l ws, MemForm u.mem → MemForm (f u l ws).mem) (h : MemForm s.mem) : MemForm (takeWords s port l n ws f).mem := by
  unfold takeWords
  split
  · exact MemForm.ite (hf _ _ _ h) h
  · refine MemForm.ite (by simpa using h) ?_
    extract_lets r
    have hr : MemForm r.1.mem := memForm_fetchRead _ _ _ h
    split
    · simpa using hr
    · exact hf _ _ _ (by simpa using hr)

@[simp] theorem memForm_takeSync (port : LoadPort) (h : MemForm s.mem) : MemForm (takeSync s port).mem := by
  unfold takeSync
  split
  · exact MemForm.ite (by simpa using h) h
  · split
    · exact h
    · refine MemForm.ite h ?_
      extract_lets u
      have hu : MemForm u.mem := MemForm.ite (by simpa using h) h
      exact memForm_takeWords _ _ _ _ (fun v l ws hv => MemForm.ite (by simpa using hv) hv) hu

@[simp] theorem memForm_takeHeader (port : LoadPort) (ws : List Nat) (h : MemForm s.mem) : MemForm
    (takeHeader s port ws).mem := by
  unfold takeHeader
  split
  · exact h
  · refine MemForm.ite h (memForm_takeWords _ _ _ _ (fun v l ws hv => ?_) h)
    dsimp only
    split <;> simpa using hv

@[simp] theorem memForm_takeLoadFrame (port : LoadPort) (ws : List Nat) (c : Bool) (h : MemForm s.mem) :
    MemForm (takeLoadFrame s port ws c).mem := by
  unfold takeLoadFrame
  split
  · exact h
  · refine MemForm.ite h (memForm_takeWords _ _ _ _ (fun v l ws hv => ?_) h)
    split <;> simpa using hv

@[simp] theorem memForm_takeEnd (port : LoadPort) (ws : List Nat) (d : Compiled) (h : MemForm s.mem) :
    MemForm (takeEnd s port ws d).mem := by
  unfold takeEnd
  split
  · exact h
  · refine MemForm.ite h (memForm_takeWords _ _ _ _ (fun v l ws hv => ?_) h)
    refine MemForm.ite (MemForm.ite (by simpa using hv) hv) ?_
    dsimp only
    split <;> simpa using hv

theorem memForm_startStep (phase offset : Nat) {f : State → Load → State}
    (hf : ∀ u l, MemForm u.mem → MemForm (f u l).mem) (h : MemForm s.mem) : MemForm (startStep s phase offset f).mem := by
  unfold startStep
  split
  · exact MemForm.ite (hf _ _ (by simpa using h)) h
  · exact h

/-! ### The fetch engine -/

theorem memForm_fetchGranule {f : Fetch} (i fin g : Nat) (h : MemForm f.s.mem) : MemForm (fetchGranule f i fin g).1.s.mem := by
  unfold fetchGranule
  split
  · split
    · exact h
    · exact memForm_readGranules _ _ _ _ h
  · exact memForm_readGranules _ _ _ _ h

theorem memForm_fetchBytes {f : Fetch} (i fin a n : Nat) (h : MemForm f.s.mem) : MemForm (fetchBytes f i fin a n).1.s.mem := by
  have hr := memForm_fetchGranule i fin (a / 64) h
  unfold fetchBytes
  extract_lets r
  split
  · exact hr
  · split
    · exact hr
    · exact memForm_fetchGranule _ _ _ hr

theorem memForm_fetchNote {f : Fetch} (i a plain : Nat) (h : MemForm f.s.mem) : MemForm (fetchNote f i a plain).s.mem := by
  unfold fetchNote
  split
  · exact h
  · simpa using h

theorem memForm_fetchElem {f : Fetch} (k dir fmt es place fin addr : Nat) (failAt : Option Nat) (h : MemForm f.s.mem) :
    MemForm (fetchElem k dir fmt es place fin addr failAt f).s.mem := by
  unfold fetchElem
  split
  · exact h
  · split
    · exact h
    · split
      · have hb := memForm_fetchBytes (k / 8) fin addr es h
        split
        · next g b hg =>
          rw [hg] at hb
          simpa using hb
        · next g hg =>
          rw [hg] at hb
          exact hb
      · split
        · next r hr => exact memForm_fetchNote _ _ _ (memForm_fetchWrite _ _ _ _ hr h)
        · exact h

theorem memForm_foldl_fetch {α : Type} {g : Fetch → α → Fetch} (l : List α) {f : Fetch} (h : MemForm f.s.mem)
    (hg : ∀ f x, MemForm f.s.mem → MemForm (g f x).s.mem) : MemForm (l.foldl g f).s.mem :=
  List.foldlRecOn (motive := fun f : Fetch => MemForm f.s.mem) l g h fun f hf x _ => hg f x hf

theorem memForm_runDesc (k : Nat) (d : Desc) (failAt : Option Nat) (h : MemForm s.mem) : MemForm
    (runDesc s k d failAt).s.mem := by
  unfold runDesc
  extract_lets dir fmt words lines stride step
  split
  · exact h
  · repeat' split
    · exact h
    · exact h
    · refine memForm_foldl_fetch _ (by exact h) fun f i hf => ?_
      split
      · exact hf
      · dsimp only
        split
        · exact hf
        · exact memForm_foldl_fetch _ hf fun f j hf => memForm_fetchElem _ _ _ _ _ _ _ _ hf

@[simp] theorem memForm_completeFetch (k : Nat) (d : Desc) (failAt : Option Nat) (h : MemForm s.mem) :
    MemForm (completeFetch s k d failAt).mem := by
  have hr := memForm_runDesc k d failAt h
  simp [completeFetch, hr]

/-! ### Instructions -/

/-- An instruction whose effect leaves memory alone does so when it issues. -/
theorem mem_issueOne (k : Nat) {f : Shuttle → State → ShInstr → Option State}
    (hf : ∀ x u i v, f x u i = some v → v.mem = u.mem) (s : State) : (issueOne k f s).mem = s.mem := by
  unfold issueOne
  extract_lets t x
  split
  · split
    · rfl
    · split
      · rfl
      · split
        · rfl
        · next u hu =>
          have hm : u.mem = s.mem := by simpa [t] using hf _ _ _ _ hu
          split
          · simpa using hm
          · exact hm
  · rfl

theorem mem_accEffect {op : Nat} {f : Nat → Nat → Nat → Nat → Nat → MemAccess → MemAccess → State} {i : ShInstr}
    (hf : ∀ a b c d e mx my, (f a b c d e mx my).mem = s.mem) (hx : accEffect op f i = some t) : t.mem = s.mem := by
  unfold accEffect at hx
  split at hx
  · split at hx
    · rw [← Option.some.inj hx]
      exact hf ..
    · cases hx
  · cases hx

theorem mem_ctlEffect {op : Nat} {f : Nat → Nat → State} {i : ShInstr} (hf : ∀ a b, (f a b).mem = s.mem)
    (hx : ctlEffect op f i = some t) : t.mem = s.mem := by
  unfold ctlEffect at hx
  split at hx
  · split at hx
    · rw [← Option.some.inj hx]
      exact hf ..
    · cases hx
  · cases hx

theorem mem_qEffect {n : Nat} {x : Shuttle} {i : ShInstr} (hx : qEffect n x s i = some t) : t.mem = s.mem := by
  unfold qEffect at hx
  split at hx
  · rw [← Option.some.inj hx]
    simp
  · cases hx

theorem mem_aluEffect {op n : Nat} {x : Shuttle} {i : ShInstr} (hx : aluEffect op n x s i = some t) : t.mem = s.mem := by
  unfold aluEffect at hx
  split at hx
  · split at hx
    · rw [← Option.some.inj hx]
      simp
    · cases hx
  · cases hx

end Sys2Proof.Machine
end

section
/-! The bridge, the MGC and the selvage window keep memory's form. -/

namespace Sys2Proof.Machine

variable {s t : State}

@[simp] theorem memForm_presentReqs (n : Nat) (h : MemForm s.mem) : MemForm (presentReqs n s).mem := by
  induction n generalizing s with
  | zero => exact h
  | succ n ih =>
    unfold presentReqs
    split
    · dsimp only
      split
      · exact ih (by simpa using h)
      · split
        · exact ih (by simpa using h)
        · exact h
    · exact h

@[simp] theorem memForm_present (h : MemForm s.mem) : MemForm (present s).mem := by simp [present, h]

@[simp] theorem memForm_pushReq (r : BridgeReq) (h : MemForm s.mem) : MemForm (pushReq s r).mem := by simp [pushReq, h]

@[simp] theorem memForm_userAtPick (c : TimedCmd) (h : MemForm s.mem) : MemForm (userAtPick s c).mem := by
  unfold userAtPick
  repeat' split
  all_goals simp [h]

@[simp] theorem memForm_endReq (status detail : Nat) (value : List Byte) (h : MemForm s.mem) :
    MemForm (endReq s status detail value).mem := by
  unfold endReq
  repeat' split
  all_goals simp [h]

@[simp] theorem memForm_timeOutReq (h : MemForm s.mem) : MemForm (timeOutReq s).mem := by
  unfold timeOutReq
  repeat' split
  all_goals simp [h]

@[simp] theorem memForm_takeResponse (taken status : Nat) (value : List Byte) (h : MemForm s.mem) :
    MemForm (takeResponse s taken status value).mem := by
  unfold takeResponse
  repeat' split
  all_goals simp [h]

@[simp] theorem memForm_writeValue (r : Req) (pos key : Nat) (b : List Byte) (checked : Bool) (h : MemForm s.mem) :
    MemForm (writeValue s r pos key b checked).1.mem := by
  unfold writeValue
  repeat' split
  all_goals simp [h]

@[simp] theorem memForm_segWrite (r : Req) (pos key longest rflags : Nat) (v : List Byte) (h : MemForm s.mem) :
    MemForm (segWrite s r pos key longest rflags v).1.mem := by
  unfold segWrite
  dsimp only
  repeat' split
  all_goals simp [h]

@[simp] theorem memForm_runEntry (w : FrameWork) (q : ReqRec) (key : Nat) (h : MemForm s.mem) :
    MemForm (runEntry s w q key).1.mem := by
  unfold runEntry
  repeat' split
  all_goals simp [h]

@[simp] theorem memForm_runRecord (w : FrameWork) (q : ReqRec) (h : MemForm s.mem) : MemForm (runRecord s w q).1.mem := by
  unfold runRecord
  repeat' split
  all_goals simp [h]

@[simp] theorem memForm_stepWork (w : FrameWork) (h : MemForm s.mem) : MemForm (stepWork s w).mem := by
  unfold stepWork
  dsimp only
  repeat' split
  all_goals simp [h]

@[simp] theorem memForm_beginWork (f : TxFrame) (who : Who) (h : MemForm s.mem) : MemForm (beginWork s f who).mem := by
  unfold beginWork
  dsimp only
  repeat' split
  all_goals simp [h]

@[simp] theorem memForm_startFrame (f : TxFrame) (h : MemForm s.mem) : MemForm (startFrame s f).mem := by
  unfold startFrame
  dsimp only
  repeat' split
  all_goals simp [h]

@[simp] theorem memForm_serveClient (x : ClientReq) (h : MemForm s.mem) : MemForm (serveClient s x).mem := by
  unfold serveClient
  dsimp only
  repeat' split
  all_goals simp [h]

theorem memForm_mgcStep (hx : mgcStep s = some t) (h : MemForm s.mem) : MemForm t.mem := by
  unfold mgcStep at hx
  repeat' split at hx
  all_goals cases hx
  all_goals simp [h]

@[simp] theorem memForm_mgcRun (n : Nat) (h : MemForm s.mem) : MemForm (mgcRun n s).mem := by
  induction n generalizing s with
  | zero => exact h
  | succ n ih =>
    unfold mgcRun
    split
    · next t ht => exact ih (memForm_mgcStep ht h)
    · exact h

@[simp] theorem memForm_pump (h : MemForm s.mem) : MemForm (pump s).mem := by simp [pump, h]

@[simp] theorem memForm_queueFrame (f : TxFrame) (h : MemForm s.mem) : MemForm (queueFrame s f).mem := by simp [queueFrame, h]

@[simp] theorem memForm_arrive (port : MgtPort) (k : Nat) (d : Datagram) (h : MemForm s.mem) :
    MemForm (arrive s port k d).mem := by
  unfold arrive
  repeat' split
  all_goals simp [h]

@[simp] theorem memForm_serviceSend (b : List Byte) (h : MemForm s.mem) : MemForm (serviceSend s b).mem := by
  unfold serviceSend
  repeat' split
  all_goals simp [h]

@[simp] theorem memForm_executeAt (c : TimedCmd) (h : MemForm s.mem) : MemForm (executeAt s c).mem := by simp [executeAt, h]

@[simp] theorem memForm_fitTasks (us : List Untimed) (room : Nat) (held : List Nat) (h : MemForm s.mem) :
    MemForm (fitTasks s us room held).mem := by
  induction us generalizing s room held with
  | nil => exact h
  | cons u r ih =>
    unfold fitTasks
    dsimp only
    split
    · exact ih _ _ h
    · exact ih _ _ (by simpa using h)

@[simp] theorem memForm_freezeTasks (reserved : Nat) (h : MemForm s.mem) : MemForm
    (freezeTasks s reserved).mem := by simp [freezeTasks, h]

@[simp] theorem memForm_taskEffect (t : Task) (h : MemForm s.mem) : MemForm (taskEffect s t).1.mem := by
  unfold taskEffect
  extract_lets verdict
  have hv : ∀ o : Option State, (o.getD s).mem = s.mem → MemForm (verdict o).1.mem := by
    intro o ho
    cases o with
    | none => exact h
    | some u => exact h.of_eq ho
  split
  · simpa using h
  · exact hv _ (by simp)
  · exact hv _ (by simp)
  · exact hv _ (by simp)
  · exact hv _ (by simp)
  · simpa using h
  · split
    · simpa using h
    · exact h

@[simp] theorem memForm_runTask (h : MemForm s.mem) : MemForm (runTask s).mem := by
  unfold runTask
  dsimp only
  repeat' split
  all_goals simp [h]

@[simp] theorem memForm_runTasks (n : Nat) (h : MemForm s.mem) : MemForm (runTasks s n).mem := by
  induction n generalizing s with
  | zero => exact h
  | succ n ih => exact ih (memForm_runTask h)

@[simp] theorem memForm_runTaskAs (k : TaskKind) (obj : Nat) (h : MemForm s.mem) : MemForm (runTaskAs s k obj).mem := by
  unfold runTaskAs
  repeat' split
  all_goals simp [h]

@[simp] theorem memForm_armTakes (t n : Nat) (h : MemForm s.mem) : MemForm (armTakes s t n).mem := by
  unfold armTakes
  extract_lets cs r
  have hr : MemForm r.1.mem :=
    List.foldlRecOn (motive := fun a : State × List Nat => MemForm a.1.mem) _ _ (by simpa using h) fun a ha c _ => by
      simpa using memForm_applyWrite true (cmdReq c) c.key c.val (keepsForm_ruleOf c.key) ha
  exact memForm_foldl _ _ hr fun u e hu => by simpa using hu

@[simp] theorem memForm_takeSlot (h : MemForm s.mem) : MemForm (takeSlot s).mem := by simp [takeSlot, h]

@[simp] theorem memForm_closeWindow (h : MemForm s.mem) : MemForm (closeWindow s).mem := by
  unfold closeWindow
  repeat' split
  all_goals simp [h]

@[simp] theorem memForm_rulingCmd (c : TimedCmd) (order : Nat) (h : MemForm s.mem) : MemForm (rulingCmd s c order).mem := by
  unfold rulingCmd
  repeat' split
  all_goals simp [h]

theorem memForm_withNoc (n : Noc) (h : MemForm s.mem) : MemForm ({ s with noc := n } : State).mem := h

theorem memForm_withCfg (c : CfgEngine) (h : MemForm s.mem) : MemForm ({ s with cfg := c } : State).mem := h

theorem memForm_revertFirmware (h : MemForm s.mem) : MemForm (revertFirmware s).mem := by simpa using h

/-- What a window does to pins, domains, user loops and spread leaves memory alone. -/
theorem mem_windowClocks (s : State) :
    (windowSpread ((List.range 32).foldl windowUloop ((List.range 8).foldl tickDomain (latchStatus s)))).mem = s.mem := by
  simp

@[simp] theorem memForm_openWindow (n : Nat) (h : MemForm s.mem) : MemForm (openWindow s n).mem := by
  obtain ⟨z, hz⟩ : ∃ z, openWindow s n = z := ⟨_, rfl⟩
  rw [hz]
  unfold openWindow at hz
  extract_lets tb r opened closed reserved mine due taken ran latched ticked spread n' swapped c' armed reverted at hz
  have hc : MemForm closed.mem := memForm_closePickBytes (s := opened) h
  have ht : MemForm taken.mem := hc.of_eq (by simp [taken])
  have hr : MemForm ran.mem := memForm_foldl _ _ ht fun u c hu => memForm_rulingCmd _ _ hu
  have hs : MemForm spread.mem := hr.of_eq (mem_windowClocks ran)
  have hw : MemForm swapped.mem := MemForm.ite (memForm_withNoc _ hs) hs
  have ha : MemForm armed.mem := MemForm.ite (memForm_withCfg _ hw) hw
  have hv : MemForm reverted.mem := MemForm.ite (memForm_revertFirmware ha) ha
  rw [← hz]
  exact memForm_freezeTasks reserved hv

@[simp] theorem memForm_openPlain (t n : Nat) (h : MemForm s.mem) : MemForm (openPlain s t n).mem := by
  grind [openPlain, memForm_armTakes, memForm_foldl, memForm_executeAt, finishCmd_frame, freeCancelled_frame, takeOut_frame]

@[simp] theorem memForm_openPick (t n : Nat) (ruled : Bool) (h : MemForm s.mem) : MemForm
    (openPick s t n ruled).mem := by simp [openPick, h]

@[simp] theorem memForm_boundary (t : Nat) (h : MemForm s.mem) : MemForm (boundary s t).mem := by
  unfold boundary
  dsimp only
  repeat' split
  all_goals simp [h]

@[simp] theorem memForm_pickBoundary (t : Nat) (h : MemForm s.mem) : MemForm (pickBoundary s t).mem := by
  unfold pickBoundary
  dsimp only
  repeat' split
  all_goals simp [h]

@[simp] theorem memForm_idleCycle (h : MemForm s.mem) : MemForm (idleCycle s).mem := by simp [idleCycle, h]

end Sys2Proof.Machine
end

section
/-! Every command keeps memory's form. -/

namespace Sys2Proof.Machine

variable {s t : State}

/-- What a command leads to has memory in form. -/
def OutKeepsForm (o : Out) : Prop := ∀ t, o = .next t → MemForm t.mem

@[simp] theorem outKeepsForm_next : OutKeepsForm (.next t) ↔ MemForm t.mem :=
  ⟨fun h => h t rfl, fun h _ hx => Host.Outcome.next.inj hx ▸ h⟩

/-! ### Writes -/

theorem exec_write {c : Instr} {r : Req} {key : Nat} {v : Val} {rule : Rule} (hw : writeOf c = some (r, key, v, rule))
    (s : State) :
    exec c s = .next (submit s r key v rule) := by
  cases c
  all_goals simp only [writeOf, Option.some.injEq, Prod.mk.injEq, reduceCtorEq] at hw
  all_goals
    obtain ⟨rfl, rfl, rfl, rfl⟩ := hw
    rfl

theorem keepsForm_writeOf {c : Instr} {r : Req} {key : Nat} {v : Val} {rule : Rule} (hw : writeOf c = some (r, key, v, rule)) :
    rule.KeepsForm := by
  cases c
  all_goals simp only [writeOf, Option.some.injEq, Prod.mk.injEq, reduceCtorEq] at hw
  all_goals
    obtain ⟨rfl, rfl, rfl, rfl⟩ := hw
    simp

/-! ### Requests of the network on chip -/

/-- Where a packet's way ends, memory is that of `m`. -/
def Travel.LeavesMem (m : Mem) : Travel → Prop
  | .held => True
  | .stopped t => t.mem = m
  | .through t => t.mem = m

theorem mem_setLink (n : Nat) (f : LinkHid → LinkHid) (s : State) : (s.setLink n f).mem = s.mem := by simp

theorem travel_leavesMem {m : Mem} (p : NocPkt) (at_ : Option Nat) (way : List Hop) (hs : s.mem = m) :
    (travel s p at_ way).LeavesMem m := by
  induction way generalizing s at_ with
  | nil => trivial
  | cons x rest ih =>
    rw [travel]
    dsimp only
    split
    · trivial
    · split
      · trivial
      · split
        · trivial
        · split
          · split
            · exact hs
            · trivial
          · split
            · exact (mem_setLink _ _ _).trans hs
            · split
              · trivial
              · exact ih _ (by simpa using hs)

theorem Travel.LeavesMem.of_stopped {m : Mem} {r : Travel} (h : r.LeavesMem m) (hr : r = .stopped t) : t.mem = m := by
  rwa [hr] at h

theorem Travel.LeavesMem.of_through {m : Mem} {r : Travel} (h : r.LeavesMem m) (hr : r = .through t) : t.mem = m := by
  rwa [hr] at h

theorem mem_setSh (n : Nat) (f : Shuttle → Shuttle) (s : State) : (s.setSh n f).mem = s.mem := by simp

@[simp] theorem outKeepsForm_execSlewEnd (t : Fin 8) (h : MemForm s.mem) :
    OutKeepsForm (execSlewEnd t s) := by simp [execSlewEnd, h]

@[simp] theorem outKeepsForm_execServoPtpMessage (t : Fin 8) (k : Fin 32) (domain : Byte) (source : List Byte) (m : ServoMsg)
    (h : MemForm s.mem) :
    OutKeepsForm (execServoPtpMessage t k domain source m s) := by simp [execServoPtpMessage, h]

@[simp] theorem outKeepsForm_execTriggerWidthEnd (u : Fin 64) (h : MemForm s.mem) :
    OutKeepsForm (execTriggerWidthEnd u s) := by
  unfold execTriggerWidthEnd
  simp only [outKeepsForm_next]
  repeat' split
  all_goals simp [h]

@[simp] theorem outKeepsForm_execCaptureEdge (u : Fin 64) (rising : Bool) (h : MemForm s.mem) :
    OutKeepsForm (execCaptureEdge u rising s) := by simp [execCaptureEdge, h]

@[simp] theorem outKeepsForm_execSourceLost (src : Fin 3) (h : MemForm s.mem) :
    OutKeepsForm (execSourceLost src s) := by simp [execSourceLost, h]

@[simp] theorem outKeepsForm_execSourceQualified (src : Fin 3) (h : MemForm s.mem) :
    OutKeepsForm (execSourceQualified src s) := by simp [execSourceQualified, h]

@[simp] theorem outKeepsForm_execXoInLost (h : MemForm s.mem) : OutKeepsForm (execXoInLost s) := by simp [execXoInLost, h]

@[simp] theorem outKeepsForm_execXoInReturned (h : MemForm s.mem) :
    OutKeepsForm (execXoInReturned s) := by simp [execXoInReturned, h]

@[simp] theorem outKeepsForm_execTimingLoopLocked (offset : Int) (h : MemForm s.mem) :
    OutKeepsForm (execTimingLoopLocked offset s) := by simp [execTimingLoopLocked, h]

@[simp] theorem outKeepsForm_execSingleOpLoopUnlock (loop : HoldLoop) (h : MemForm s.mem) :
    OutKeepsForm (execSingleOpLoopUnlock loop s) := by simp [execSingleOpLoopUnlock, h]

@[simp] theorem outKeepsForm_execLoopAcquireRetry (loop : HoldLoop) (ok : Bool) (h : MemForm s.mem) :
    OutKeepsForm (execLoopAcquireRetry loop ok s) := by simp [execLoopAcquireRetry, h]

@[simp] theorem outKeepsForm_execRaiseRampStart (d : Fin 8) (h : MemForm s.mem) : OutKeepsForm (execRaiseRampStart d s) := by
  unfold execRaiseRampStart
  simp only [outKeepsForm_next]
  repeat' split
  all_goals simp [h]

@[simp] theorem outKeepsForm_execUntimedRaiseAbandon (d : Fin 8) (h : MemForm s.mem) :
    OutKeepsForm (execUntimedRaiseAbandon d s) := by simp [execUntimedRaiseAbandon, h]

@[simp] theorem outKeepsForm_execLowerVoltageWrite (d : Fin 8) (h : MemForm s.mem) :
    OutKeepsForm (execLowerVoltageWrite d s) := by simp [execLowerVoltageWrite, h]

@[simp] theorem outKeepsForm_execVoltageReadback (d : Fin 8) (mv : Nat) (h : MemForm s.mem) :
    OutKeepsForm (execVoltageReadback d mv s) := by simp [execVoltageReadback, h]

@[simp] theorem outKeepsForm_execMainLoopUnlock (d : Fin 8) (h : MemForm s.mem) :
    OutKeepsForm (execMainLoopUnlock d s) := by simp [execMainLoopUnlock, h]

@[simp] theorem outKeepsForm_execMainLoopRelock (d : Fin 8) (h : MemForm s.mem) :
    OutKeepsForm (execMainLoopRelock d s) := by simp [execMainLoopRelock, h]

@[simp] theorem outKeepsForm_execDomainAutoRestore (d : Fin 8) (h : MemForm s.mem) :
    OutKeepsForm (execDomainAutoRestore d s) := by simp [execDomainAutoRestore, h]

@[simp] theorem outKeepsForm_execDomainClockStart (d : Fin 8) (h : MemForm s.mem) :
    OutKeepsForm (execDomainClockStart d s) := by simp [execDomainClockStart, h]

@[simp] theorem outKeepsForm_execUserLoopUnlock (l : Fin 32) (h : MemForm s.mem) :
    OutKeepsForm (execUserLoopUnlock l s) := by simp [execUserLoopUnlock, h]

@[simp] theorem outKeepsForm_execUserLoopRelock (l : Fin 32) (h : MemForm s.mem) :
    OutKeepsForm (execUserLoopRelock l s) := by simp [execUserLoopRelock, h]

@[simp] theorem outKeepsForm_execUserLoopAutoRestore (l : Fin 32) (h : MemForm s.mem) :
    OutKeepsForm (execUserLoopAutoRestore l s) := by simp [execUserLoopAutoRestore, h]

@[simp] theorem outKeepsForm_execGateRequestTimeout (u : Fin 72) (h : MemForm s.mem) :
    OutKeepsForm (execGateRequestTimeout u s) := by simp [execGateRequestTimeout, h]

@[simp] theorem outKeepsForm_execBlockLockGain (l : Nat) (blocks : List LineBlock) (h : MemForm s.mem) :
    OutKeepsForm (execBlockLockGain l blocks s) := by simp [execBlockLockGain, h]

@[simp] theorem outKeepsForm_execBlockLockLoss (l : Nat) (blocks : List LineBlock) (h : MemForm s.mem) :
    OutKeepsForm (execBlockLockLoss l blocks s) := by simp [execBlockLockLoss, h]

@[simp] theorem outKeepsForm_execLaneUnlockTimeout (l : Nat) (h : MemForm s.mem) :
    OutKeepsForm (execLaneUnlockTimeout l s) := by simp [execLaneUnlockTimeout, h]

@[simp] theorem outKeepsForm_execLadderWord (l : Nat) (w : BitVec 64) (h : MemForm s.mem) :
    OutKeepsForm (execLadderWord l w s) := by simp [execLadderWord, h]

@[simp] theorem outKeepsForm_execRungStepTimeout (l : Nat) (h : MemForm s.mem) :
    OutKeepsForm (execRungStepTimeout l s) := by simp [execRungStepTimeout, h]

@[simp] theorem outKeepsForm_execStandardBringupDone (l : Nat) (result : Fin 3) (h : MemForm s.mem) :
    OutKeepsForm (execStandardBringupDone l result s) := by simp [execStandardBringupDone, h]

@[simp] theorem outKeepsForm_execLaserLit (e : Fin 8) (power : Int) (h : MemForm s.mem) :
    OutKeepsForm (execLaserLit e power s) := by simp [execLaserLit, h]

@[simp] theorem outKeepsForm_execLaserDark (e : Fin 8) (power : Int) (h : MemForm s.mem) :
    OutKeepsForm (execLaserDark e power s) := by simp [execLaserDark, h]

@[simp] theorem outKeepsForm_execEngineFault (e : Fin 8) (cause : Fin 2) (enters : Bool) (temp : Int) (h : MemForm s.mem) :
    OutKeepsForm (execEngineFault e cause enters temp s) := by simp [execEngineFault, h]

@[simp] theorem outKeepsForm_execLaneFailure (l : Nat) (cause : Fin 4) (h : MemForm s.mem) :
    OutKeepsForm (execLaneFailure l cause s) := by simp [execLaneFailure, h]

@[simp] theorem outKeepsForm_execReformComplete (sp : Fin 178) (dur : Nat) (h : MemForm s.mem) :
    OutKeepsForm (execReformComplete sp dur s) := by simp [execReformComplete, h]

@[simp] theorem outKeepsForm_execReformPartnerTimeout (sp : Fin 178) (h : MemForm s.mem) :
    OutKeepsForm (execReformPartnerTimeout sp s) := by simp [execReformPartnerTimeout, h]

@[simp] theorem outKeepsForm_execShadowLaneRetry (l : Nat) (h : MemForm s.mem) :
    OutKeepsForm (execShadowLaneRetry l s) := by simp [execShadowLaneRetry, h]

@[simp] theorem outKeepsForm_execLaneShadowReady (l : Nat) (h : MemForm s.mem) :
    OutKeepsForm (execLaneShadowReady l s) := by simp [execLaneShadowReady, h]

@[simp] theorem outKeepsForm_execRestoreComplete (sp : Fin 178) (h : MemForm s.mem) :
    OutKeepsForm (execRestoreComplete sp s) := by simp [execRestoreComplete, h]

@[simp] theorem outKeepsForm_execRestorePartnerTimeout (sp : Fin 178) (h : MemForm s.mem) :
    OutKeepsForm (execRestorePartnerTimeout sp s) := by simp [execRestorePartnerTimeout, h]

@[simp] theorem outKeepsForm_execMgtLinkChange (m : Fin 2) (up : Bool) (speed : Nat) (h : MemForm s.mem) :
    OutKeepsForm (execMgtLinkChange m up speed s) := by simp [execMgtLinkChange, h]

@[simp] theorem outKeepsForm_execLaneGroupStart (i : Fin 30) (h : MemForm s.mem) :
    OutKeepsForm (execLaneGroupStart i s) := by simp [execLaneGroupStart, h]

@[simp] theorem outKeepsForm_execBringupRetry (sp : Fin 178) (h : MemForm s.mem) :
    OutKeepsForm (execBringupRetry sp s) := by simp [execBringupRetry, h]

@[simp] theorem outKeepsForm_execCheckWireMismatch (c : Fin 256) (cycle : Nat) (wires : BitVec 536) (h : MemForm s.mem) :
    OutKeepsForm (execCheckWireMismatch c cycle wires s) := by simp [execCheckWireMismatch, h]

@[simp] theorem outKeepsForm_execWireFailureDeclared (c : Fin 256) (k : Fin 8) (h : MemForm s.mem) :
    OutKeepsForm (execWireFailureDeclared c k s) := by simp [execWireFailureDeclared, h]

@[simp] theorem outKeepsForm_execFailedWireLocalised (c : Fin 256) (wire : Fin 536) (last : Bool) (h : MemForm s.mem) :
    OutKeepsForm (execFailedWireLocalised c wire last s) := by simp [execFailedWireLocalised, h]

@[simp] theorem outKeepsForm_execSuddenMendComplete (c : Fin 256) (dur : Nat) (h : MemForm s.mem) :
    OutKeepsForm (execSuddenMendComplete c dur s) := by simp [execSuddenMendComplete, h]

@[simp] theorem outKeepsForm_execChannelNarrowed (c : Fin 256) (dur : Nat) (h : MemForm s.mem) :
    OutKeepsForm (execChannelNarrowed c dur s) := by simp [execChannelNarrowed, h]

@[simp] theorem outKeepsForm_execWirePredicted (c : Fin 256) (wire : Fin 536) (margin : Nat) (h : MemForm s.mem) :
    OutKeepsForm (execWirePredicted c wire margin s) := by simp [execWirePredicted, h]

@[simp] theorem outKeepsForm_execDarningShadowTrained (c : Fin 256) (wire : Fin 536) (h : MemForm s.mem) :
    OutKeepsForm (execDarningShadowTrained c wire s) := by simp [execDarningShadowTrained, h]

@[simp] theorem outKeepsForm_execSeamShadowReady (c : Fin 256) (passed : List (Fin 536 × Nat)) (h : MemForm s.mem) :
    OutKeepsForm (execSeamShadowReady c passed s) := by simp [execSeamShadowReady, h]

@[simp] theorem outKeepsForm_execBramEccRead (b : Fin 4) (m : Fin 3072) (word : Fin 1024) (portB : Bool) (flips : BitVec 72)
    (h : MemForm s.mem) :
    OutKeepsForm (execBramEccRead b m word portB flips s) := by simp [execBramEccRead, h]

@[simp] theorem outKeepsForm_execQWrite (q : Fin 12288) (d : BitVec 72) (readToo : Bool) (h : MemForm s.mem) :
    OutKeepsForm (execQWrite q d readToo s) := by simp [execQWrite, h]

@[simp] theorem outKeepsForm_execQRead (q : Fin 12288) (flips : BitVec 72) (h : MemForm s.mem) :
    OutKeepsForm (execQRead q flips s) := by simp [execQRead, h]

@[simp] theorem outKeepsForm_execQRst (q : Fin 12288) (level : Bool) (h : MemForm s.mem) :
    OutKeepsForm (execQRst q level s) := by simp [execQRst, h]

@[simp] theorem outKeepsForm_execQThrWe (q : Fin 12288) (d : BitVec 34) (h : MemForm s.mem) :
    OutKeepsForm (execQThrWe q d s) := by simp [execQThrWe, h]

@[simp] theorem outKeepsForm_execQFlagFall (q : Fin 12288) (readSide : Bool) (h : MemForm s.mem) :
    OutKeepsForm (execQFlagFall q readSide s) := by simp [execQFlagFall, h]

@[simp] theorem outKeepsForm_execClockMuxSwitch (drv : Fin 1536) (toB oldEdge newEdge : Bool) (h : MemForm s.mem) :
    OutKeepsForm (execClockMuxSwitch drv toB oldEdge newEdge s) := by simp [execClockMuxSwitch, h]

@[simp] theorem outKeepsForm_execMuxSourceTimeout (drv : Fin 1536) (newSource : Bool) (h : MemForm s.mem) :
    OutKeepsForm (execMuxSourceTimeout drv newSource s) := by simp [execMuxSourceTimeout, h]

@[simp] theorem outKeepsForm_execDividerChange (drv : Fin 1536) (n : Fin 8) (h : MemForm s.mem) :
    OutKeepsForm (execDividerChange drv n s) := by simp [execDividerChange, h]

@[simp] theorem outKeepsForm_execCeFall (drv : Fin 1536) (h : MemForm s.mem) :
    OutKeepsForm (execCeFall drv s) := by simp [execCeFall, h]

@[simp] theorem outKeepsForm_execCeRise (drv : Fin 1536) (h : MemForm s.mem) :
    OutKeepsForm (execCeRise drv s) := by simp [execCeRise, h]

@[simp] theorem outKeepsForm_execPortIdleReport (g : IdleGate) (h : MemForm s.mem) :
    OutKeepsForm (execPortIdleReport g s) := by
  unfold execPortIdleReport
  simp only [outKeepsForm_next]
  repeat' split
  all_goals simp [h]

@[simp] theorem outKeepsForm_execGateIdleTimeout (drv : Fin 1536) (h : MemForm s.mem) :
    OutKeepsForm (execGateIdleTimeout drv s) := by simp [execGateIdleTimeout, h]

@[simp] theorem outKeepsForm_execSelvageStatusDrive (h : MemForm s.mem) :
    OutKeepsForm (execSelvageStatusDrive s) := by simp [execSelvageStatusDrive, h]

@[simp] theorem outKeepsForm_execGpiSample (levels brief : BitVec 64) (h : MemForm s.mem) :
    OutKeepsForm (execGpiSample levels brief s) := by simp [execGpiSample, h]

@[simp] theorem outKeepsForm_execSelvageUserPhaseResume (h : MemForm s.mem) :
    OutKeepsForm (execSelvageUserPhaseResume s) := by simp [execSelvageUserPhaseResume, h]

@[simp] theorem outKeepsForm_execNocRequestAtTarget (p : NocPkt) (way : List Hop) (flips : List (Nat × Nat))
    (h : MemForm s.mem) :
    OutKeepsForm (execNocRequestAtTarget p way flips s) := by
  unfold execNocRequestAtTarget
  simp only [outKeepsForm_next]
  refine MemForm.ite ?_ h
  have hl := travel_leavesMem (inFlight s p) none way (rfl : s.mem = s.mem)
  split
  · exact h
  · next u hu => simpa using h.of_eq (hl.of_stopped hu)
  · next u hu =>
    have hm := h.of_eq (hl.of_through hu)
    cases hr : requestArrives u _ _ with
    | none => exact h
    | some w => exact memForm_requestArrives hr hm

@[simp] theorem outKeepsForm_execNocResponseAtInitiator (p : NocPkt) (way : List Hop) (flips : List (Nat × Nat))
    (h : MemForm s.mem) :
    OutKeepsForm (execNocResponseAtInitiator p way flips s) := by
  unfold execNocResponseAtInitiator
  simp only [outKeepsForm_next]
  refine MemForm.ite ?_ h
  have hl := travel_leavesMem (inFlight s p) none way (rfl : s.mem = s.mem)
  split
  · exact h
  · next u hu => simpa using h.of_eq (hl.of_stopped hu)
  · next u hu => simpa using h.of_eq (hl.of_through hu)

@[simp] theorem outKeepsForm_execLinkReplay (l : Fin 160) (back : Bool) (k : Option (Fin 32)) (lane0 lane1 : Flips)
    (h : MemForm s.mem) :
    OutKeepsForm (execLinkReplay l back k lane0 lane1 s) := by
  unfold execLinkReplay
  simp only [outKeepsForm_next]
  repeat' split
  all_goals simp [h]

@[simp] theorem outKeepsForm_execNocLaneFailed (l : Fin 160) (lane : Fin 4) (transfers : List Flips) (h : MemForm s.mem) :
    OutKeepsForm (execNocLaneFailed l lane transfers s) := by simp [execNocLaneFailed, h]

@[simp] theorem outKeepsForm_execLinkNarrow (l : Fin 160) (dur : Nat) (h : MemForm s.mem) :
    OutKeepsForm (execLinkNarrow l dur s) := by simp [execLinkNarrow, h]

@[simp] theorem outKeepsForm_execNocTimeout (i : Fin 1024) (tag : Fin 4096) (h : MemForm s.mem) :
    OutKeepsForm (execNocTimeout i tag s) := by simp [execNocTimeout, h]

@[simp] theorem outKeepsForm_execRouteTableSwap (h : MemForm s.mem) :
    OutKeepsForm (execRouteTableSwap s) := by simp [execRouteTableSwap, h]

@[simp] theorem outKeepsForm_execOldEpochDrained (h : MemForm s.mem) :
    OutKeepsForm (execOldEpochDrained s) := by simp [execOldEpochDrained, h]

@[simp] theorem outKeepsForm_execLinkShadowReady (l : Fin 160) (ok : Bool) (h : MemForm s.mem) :
    OutKeepsForm (execLinkShadowReady l ok s) := by simp [execLinkShadowReady, h]

@[simp] theorem outKeepsForm_execTargetNiDrained (t : Fin 96) (h : MemForm s.mem) :
    OutKeepsForm (execTargetNiDrained t s) := by simp [execTargetNiDrained, h]

@[simp] theorem outKeepsForm_execFabricPortRequest (b : Fin 4) (j : Fin 8) (p : NocPkt) (h : MemForm s.mem) :
    OutKeepsForm (execFabricPortRequest b j p s) := by simp [execFabricPortRequest, h]

@[simp] theorem outKeepsForm_execFabricTargetResponse (b : Fin 4) (j : Fin 8) (p : NocPkt) (h : MemForm s.mem) :
    OutKeepsForm (execFabricTargetResponse b j p s) := by simp [execFabricTargetResponse, h]

@[simp] theorem outKeepsForm_execRefreshDue (c : Fin 32) (rank : Fin 2) (h : MemForm s.mem) :
    OutKeepsForm (execRefreshDue c rank s) := by simp [execRefreshDue, h]

@[simp] theorem outKeepsForm_execPanicHoldEnd (c : Fin 32) (h : MemForm s.mem) :
    OutKeepsForm (execPanicHoldEnd c s) := by simp [execPanicHoldEnd, h]

@[simp] theorem outKeepsForm_execPowerDownEntry (c : Fin 32) (rank : Fin 2) (h : MemForm s.mem) :
    OutKeepsForm (execPowerDownEntry c rank s) := by simp [execPowerDownEntry, h]

@[simp] theorem outKeepsForm_execChannelTracking (c : Fin 32) (mr4 : BitVec 3) (mr4Ok patternOk : Bool) (h : MemForm s.mem) :
    OutKeepsForm (execChannelTracking c mr4 mr4Ok patternOk s) := by simp [execChannelTracking, h]

@[simp] theorem outKeepsForm_execChannelTrainingEnd (c : Fin 32) (ranks : Fin 3) (density : Nat) (failedStep : Option (Fin 6))
    (h : MemForm s.mem) :
    OutKeepsForm (execChannelTrainingEnd c ranks density failedStep s) := by simp [execChannelTrainingEnd, h]

@[simp] theorem outKeepsForm_execBankUnpowered (b : Fin 4) (k : Fin 24) (h : MemForm s.mem) :
    OutKeepsForm (execBankUnpowered b k s) := by simp [execBankUnpowered, h]

@[simp] theorem outKeepsForm_execBankPowered (b : Fin 4) (k : Fin 24) (h : MemForm s.mem) :
    OutKeepsForm (execBankPowered b k s) := by simp [execBankPowered, h]

@[simp] theorem outKeepsForm_execPtpEventTimestamp (u : Fin 178) (egress : Bool) (frame : List Byte) (h : MemForm s.mem) :
    OutKeepsForm (execPtpEventTimestamp u egress frame s) := by simp [execPtpEventTimestamp, h]

@[simp] theorem outKeepsForm_execTransmitEssenceWord (e : Fin 8) (i : Fin 16) (tag : BitVec 64) (data : BitVec 512)
    (h : MemForm s.mem) :
    OutKeepsForm (execTransmitEssenceWord e i tag data s) := by simp [execTransmitEssenceWord, h]

@[simp] theorem outKeepsForm_execRingSlotRead (e : Fin 8) (f : Fin 4096) (h : MemForm s.mem) :
    OutKeepsForm (execRingSlotRead e f s) := by simp [execRingSlotRead, h]

@[simp] theorem outKeepsForm_execTxDeparture (e : Fin 8) (f : Fin 4096) (h : MemForm s.mem) :
    OutKeepsForm (execTxDeparture e f s) := by simp [execTxDeparture, h]

@[simp] theorem outKeepsForm_execClass0DiscardTimeout (e : Fin 8) (f : Fin 4096) (h : MemForm s.mem) :
    OutKeepsForm (execClass0DiscardTimeout e f s) := by simp [execClass0DiscardTimeout, h]

@[simp] theorem outKeepsForm_execRxFrame (u : Fin 178) (fcsOk : Bool) (bytes : List Byte) (h : MemForm s.mem) :
    OutKeepsForm (execRxFrame u fcsOk bytes s) := by simp [execRxFrame, h]

@[simp] theorem outKeepsForm_execPacketRelease (e : Fin 8) (f : Fin 4096) (h : MemForm s.mem) :
    OutKeepsForm (execPacketRelease e f s) := by simp [execPacketRelease, h]

@[simp] theorem outKeepsForm_execFlowStarve (e : Fin 8) (f : Fin 4096) (h : MemForm s.mem) :
    OutKeepsForm (execFlowStarve e f s) := by simp [execFlowStarve, h]

@[simp] theorem outKeepsForm_execLegSilence (e : Fin 8) (f : Fin 4096) (legB : Bool) (h : MemForm s.mem) :
    OutKeepsForm (execLegSilence e f legB s) := by simp [execLegSilence, h]

@[simp] theorem outKeepsForm_execLegUp (e : Fin 8) (f : Fin 4096) (legB : Bool) (h : MemForm s.mem) :
    OutKeepsForm (execLegUp e f legB s) := by simp [execLegUp, h]

@[simp] theorem outKeepsForm_execMarginSecondEnd (e : Fin 8) (f : Fin 4096) (h : MemForm s.mem) :
    OutKeepsForm (execMarginSecondEnd e f s) := by simp [execMarginSecondEnd, h]

@[simp] theorem outKeepsForm_execReadAheadStart (e : Fin 8) (f : Fin 4096) (h : MemForm s.mem) :
    OutKeepsForm (execReadAheadStart e f s) := by simp [execReadAheadStart, h]

@[simp] theorem outKeepsForm_execStoreFrameWritten (e : Fin 8) (f : Fin 4096) (h : MemForm s.mem) :
    OutKeepsForm (execStoreFrameWritten e f s) := by simp [execStoreFrameWritten, h]

@[simp] theorem outKeepsForm_execEssenceWordTaken (e : Fin 8) (i : Fin 16) (h : MemForm s.mem) :
    OutKeepsForm (execEssenceWordTaken e i s) := by simp [execEssenceWordTaken, h]

@[simp] theorem outKeepsForm_execEngineInternalFault (e : Fin 8) (fault : Fin 4) (h : MemForm s.mem) :
    OutKeepsForm (execEngineInternalFault e fault s) := by simp [execEngineInternalFault, h]

@[simp] theorem outKeepsForm_execEngineShadowReady (e : Fin 8) (h : MemForm s.mem) :
    OutKeepsForm (execEngineShadowReady e s) := by simp [execEngineShadowReady, h]

@[simp] theorem outKeepsForm_execBuiltInPatternTestDone (e : Fin 8) (h : MemForm s.mem) :
    OutKeepsForm (execBuiltInPatternTestDone e s) := by simp [execBuiltInPatternTestDone, h]

@[simp] theorem outKeepsForm_execQMac (k : Fin 512) (h : MemForm s.mem) : OutKeepsForm (execQMac k s) := by
  simp [execQMac, mem_issueOne _ (fun _ _ _ _ hx => mem_qEffect hx), h]

@[simp] theorem outKeepsForm_execAluNop (k : Fin 512) (h : MemForm s.mem) : OutKeepsForm (execAluNop k s) := by
  simp [execAluNop, mem_issueOne _ (fun _ _ _ _ hx => mem_aluEffect hx), h]

@[simp] theorem outKeepsForm_execAdd (k : Fin 512) (h : MemForm s.mem) : OutKeepsForm (execAdd k s) := by
  simp [execAdd, mem_issueOne _ (fun _ _ _ _ hx => mem_aluEffect hx), h]

@[simp] theorem outKeepsForm_execSub (k : Fin 512) (h : MemForm s.mem) : OutKeepsForm (execSub k s) := by
  simp [execSub, mem_issueOne _ (fun _ _ _ _ hx => mem_aluEffect hx), h]

@[simp] theorem outKeepsForm_execAdds (k : Fin 512) (h : MemForm s.mem) : OutKeepsForm (execAdds k s) := by
  simp [execAdds, mem_issueOne _ (fun _ _ _ _ hx => mem_aluEffect hx), h]

@[simp] theorem outKeepsForm_execSubs (k : Fin 512) (h : MemForm s.mem) : OutKeepsForm (execSubs k s) := by
  simp [execSubs, mem_issueOne _ (fun _ _ _ _ hx => mem_aluEffect hx), h]

@[simp] theorem outKeepsForm_execAnd (k : Fin 512) (h : MemForm s.mem) : OutKeepsForm (execAnd k s) := by
  simp [execAnd, mem_issueOne _ (fun _ _ _ _ hx => mem_aluEffect hx), h]

@[simp] theorem outKeepsForm_execOr (k : Fin 512) (h : MemForm s.mem) : OutKeepsForm (execOr k s) := by
  simp [execOr, mem_issueOne _ (fun _ _ _ _ hx => mem_aluEffect hx), h]

@[simp] theorem outKeepsForm_execXor (k : Fin 512) (h : MemForm s.mem) : OutKeepsForm (execXor k s) := by
  simp [execXor, mem_issueOne _ (fun _ _ _ _ hx => mem_aluEffect hx), h]

@[simp] theorem outKeepsForm_execAndn (k : Fin 512) (h : MemForm s.mem) : OutKeepsForm (execAndn k s) := by
  simp [execAndn, mem_issueOne _ (fun _ _ _ _ hx => mem_aluEffect hx), h]

@[simp] theorem outKeepsForm_execLsl (k : Fin 512) (h : MemForm s.mem) : OutKeepsForm (execLsl k s) := by
  simp [execLsl, mem_issueOne _ (fun _ _ _ _ hx => mem_aluEffect hx), h]

@[simp] theorem outKeepsForm_execLsr (k : Fin 512) (h : MemForm s.mem) : OutKeepsForm (execLsr k s) := by
  simp [execLsr, mem_issueOne _ (fun _ _ _ _ hx => mem_aluEffect hx), h]

@[simp] theorem outKeepsForm_execAsr (k : Fin 512) (h : MemForm s.mem) : OutKeepsForm (execAsr k s) := by
  simp [execAsr, mem_issueOne _ (fun _ _ _ _ hx => mem_aluEffect hx), h]

@[simp] theorem outKeepsForm_execMin (k : Fin 512) (h : MemForm s.mem) : OutKeepsForm (execMin k s) := by
  simp [execMin, mem_issueOne _ (fun _ _ _ _ hx => mem_aluEffect hx), h]

@[simp] theorem outKeepsForm_execMax (k : Fin 512) (h : MemForm s.mem) : OutKeepsForm (execMax k s) := by
  simp [execMax, mem_issueOne _ (fun _ _ _ _ hx => mem_aluEffect hx), h]

@[simp] theorem outKeepsForm_execAbs (k : Fin 512) (h : MemForm s.mem) : OutKeepsForm (execAbs k s) := by
  simp [execAbs, mem_issueOne _ (fun _ _ _ _ hx => mem_aluEffect hx), h]

@[simp] theorem outKeepsForm_execNeg (k : Fin 512) (h : MemForm s.mem) : OutKeepsForm (execNeg k s) := by
  simp [execNeg, mem_issueOne _ (fun _ _ _ _ hx => mem_aluEffect hx), h]

@[simp] theorem outKeepsForm_execCmp (k : Fin 512) (h : MemForm s.mem) : OutKeepsForm (execCmp k s) := by
  simp [execCmp, mem_issueOne _ (fun _ _ _ _ hx => mem_aluEffect hx), h]

@[simp] theorem outKeepsForm_execTst (k : Fin 512) (h : MemForm s.mem) : OutKeepsForm (execTst k s) := by
  simp [execTst, mem_issueOne _ (fun _ _ _ _ hx => mem_aluEffect hx), h]

@[simp] theorem outKeepsForm_execMov (k : Fin 512) (h : MemForm s.mem) : OutKeepsForm (execMov k s) := by
  simp [execMov, mem_issueOne _ (fun _ _ _ _ hx => mem_aluEffect hx), h]

@[simp] theorem outKeepsForm_execPadd24 (k : Fin 512) (h : MemForm s.mem) : OutKeepsForm (execPadd24 k s) := by
  simp [execPadd24, mem_issueOne _ (fun _ _ _ _ hx => mem_aluEffect hx), h]

@[simp] theorem outKeepsForm_execPsub24 (k : Fin 512) (h : MemForm s.mem) : OutKeepsForm (execPsub24 k s) := by
  simp [execPsub24, mem_issueOne _ (fun _ _ _ _ hx => mem_aluEffect hx), h]

@[simp] theorem outKeepsForm_execPadd12 (k : Fin 512) (h : MemForm s.mem) : OutKeepsForm (execPadd12 k s) := by
  simp [execPadd12, mem_issueOne _ (fun _ _ _ _ hx => mem_aluEffect hx), h]

@[simp] theorem outKeepsForm_execPsub12 (k : Fin 512) (h : MemForm s.mem) : OutKeepsForm (execPsub12 k s) := by
  simp [execPsub12, mem_issueOne _ (fun _ _ _ _ hx => mem_aluEffect hx), h]

@[simp] theorem outKeepsForm_execMva (k : Fin 512) (h : MemForm s.mem) : OutKeepsForm (execMva k s) := by
  simp only [execMva, outKeepsForm_next]
  exact h.of_eq (mem_issueOne _ (fun _ _ _ _ hx => mem_accEffect (by simp [mvaEffect]) hx) s)

@[simp] theorem outKeepsForm_execLdaw (k : Fin 512) (h : MemForm s.mem) : OutKeepsForm (execLdaw k s) := by
  simp only [execLdaw, outKeepsForm_next]
  exact h.of_eq (mem_issueOne _ (fun _ _ _ _ hx => mem_accEffect (by simp) hx) s)

@[simp] theorem outKeepsForm_execClra (k : Fin 512) (h : MemForm s.mem) : OutKeepsForm (execClra k s) := by
  simp only [execClra, outKeepsForm_next]
  exact h.of_eq (mem_issueOne _ (fun _ _ _ _ hx => mem_accEffect (by simp) hx) s)

@[simp] theorem outKeepsForm_execMvco (k : Fin 512) (h : MemForm s.mem) : OutKeepsForm (execMvco k s) := by
  simp only [execMvco, outKeepsForm_next]
  exact h.of_eq (mem_issueOne _ (fun _ _ _ _ hx => mem_accEffect (by simp) hx) s)

@[simp] theorem outKeepsForm_execMvci (k : Fin 512) (h : MemForm s.mem) : OutKeepsForm (execMvci k s) := by
  simp only [execMvci, outKeepsForm_next]
  exact h.of_eq (mem_issueOne _ (fun _ _ _ _ hx => mem_accEffect (by simp) hx) s)

@[simp] theorem outKeepsForm_execAddci (k : Fin 512) (h : MemForm s.mem) : OutKeepsForm (execAddci k s) := by
  simp only [execAddci, outKeepsForm_next]
  exact h.of_eq (mem_issueOne _ (fun _ _ _ _ hx => mem_accEffect (by simp) hx) s)

@[simp] theorem outKeepsForm_execLdi (k : Fin 512) (h : MemForm s.mem) : OutKeepsForm (execLdi k s) := by
  simp only [execLdi, outKeepsForm_next]
  refine h.of_eq (mem_issueOne _ (fun _ u i v hx => ?_) s)
  split at hx
  · rw [← Option.some.inj hx]
    simp
  · cases hx

@[simp] theorem outKeepsForm_execMovr (k : Fin 512) (h : MemForm s.mem) : OutKeepsForm (execMovr k s) := by
  simp only [execMovr, outKeepsForm_next]
  refine h.of_eq (mem_issueOne _ (fun _ u i v hx => ?_) s)
  split at hx
  · rw [← Option.some.inj hx]
    simp
  · cases hx

@[simp] theorem outKeepsForm_execLdm (k : Fin 512) (h : MemForm s.mem) : OutKeepsForm (execLdm k s) := by
  simp only [execLdm, outKeepsForm_next]
  refine h.of_eq (mem_issueOne _ (fun _ u i v hx => ?_) s)
  split at hx
  · rw [← Option.some.inj hx]
    simp
  · cases hx

@[simp] theorem outKeepsForm_execStm (k : Fin 512) (h : MemForm s.mem) : OutKeepsForm (execStm k s) := by
  simp only [execStm, outKeepsForm_next]
  refine h.of_eq (mem_issueOne _ (fun _ u i v hx => ?_) s)
  split at hx
  · rw [← Option.some.inj hx]
    simp
  · cases hx

@[simp] theorem outKeepsForm_execCtrlNop (k : Fin 512) (h : MemForm s.mem) : OutKeepsForm (execCtrlNop k s) := by
  simp only [execCtrlNop, outKeepsForm_next]
  exact h.of_eq (mem_issueOne _ (fun _ _ _ _ hx => mem_ctlEffect (by simp) hx) s)

@[simp] theorem outKeepsForm_execBr (k : Fin 512) (h : MemForm s.mem) : OutKeepsForm (execBr k s) := by
  simp only [execBr, outKeepsForm_next]
  exact h.of_eq (mem_issueOne _ (fun _ _ _ _ hx => mem_ctlEffect (by simp) hx) s)

@[simp] theorem outKeepsForm_execDbnz (k : Fin 512) (h : MemForm s.mem) : OutKeepsForm (execDbnz k s) := by
  simp only [execDbnz, outKeepsForm_next]
  exact h.of_eq (mem_issueOne _ (fun _ _ _ _ hx => mem_ctlEffect (fun _ _ => mem_setSh ..) hx) s)

@[simp] theorem outKeepsForm_execRpt (k : Fin 512) (h : MemForm s.mem) : OutKeepsForm (execRpt k s) := by
  simp only [execRpt, outKeepsForm_next]
  exact h.of_eq (mem_issueOne _ (fun _ _ _ _ hx => mem_ctlEffect (by simp) hx) s)

@[simp] theorem outKeepsForm_execRptr (k : Fin 512) (h : MemForm s.mem) : OutKeepsForm (execRptr k s) := by
  simp only [execRptr, outKeepsForm_next]
  exact h.of_eq (mem_issueOne _ (fun _ _ _ _ hx => mem_ctlEffect (by simp) hx) s)

@[simp] theorem outKeepsForm_execWait (k : Fin 512) (h : MemForm s.mem) : OutKeepsForm (execWait k s) := by
  simp only [execWait, outKeepsForm_next]
  exact h.of_eq (mem_issueOne _ (fun _ _ _ _ hx => mem_ctlEffect (by simp) hx) s)

@[simp] theorem outKeepsForm_execWaitLimit (k : Fin 512) (h : MemForm s.mem) :
    OutKeepsForm (execWaitLimit k s) := by simp [execWaitLimit, h]

@[simp] theorem outKeepsForm_execEndRun (k : Fin 512) (h : MemForm s.mem) : OutKeepsForm (execEndRun k s) := by
  simp only [execEndRun, outKeepsForm_next]
  exact h.of_eq (mem_issueOne _ (fun _ _ _ _ hx => mem_ctlEffect (by simp) hx) s)

@[simp] theorem outKeepsForm_execRti (k : Fin 512) (h : MemForm s.mem) : OutKeepsForm (execRti k s) := by
  simp only [execRti, outKeepsForm_next]
  exact h.of_eq (mem_issueOne _ (fun _ _ _ _ hx => mem_ctlEffect (by simp) hx) s)

@[simp] theorem outKeepsForm_execInvalidInstruction (k : Fin 512) (h : MemForm s.mem) :
    OutKeepsForm (execInvalidInstruction k s) := by simp [execInvalidInstruction, h]

@[simp] theorem outKeepsForm_execInstructionFetchDbe (k : Fin 512) (h : MemForm s.mem) :
    OutKeepsForm (execInstructionFetchDbe k s) := by simp [execInstructionFetchDbe, h]

@[simp] theorem outKeepsForm_execInterruptTake (k : Fin 512) (h : MemForm s.mem) : OutKeepsForm (execInterruptTake k s) := by
  unfold execInterruptTake
  simp only [outKeepsForm_next]
  repeat' split
  all_goals simp [h]

@[simp] theorem outKeepsForm_execRunComplete (k : Fin 512) (h : MemForm s.mem) :
    OutKeepsForm (execRunComplete k s) := by simp [execRunComplete, h]

@[simp] theorem outKeepsForm_execShuttleStartRelease (h : MemForm s.mem) : OutKeepsForm (execShuttleStartRelease s) := by
  unfold execShuttleStartRelease
  simp only [outKeepsForm_next]
  repeat' split
  all_goals simp [h]

@[simp] theorem outKeepsForm_execShuttleEventInput (k : Fin 512) (i : Fin 4) (h : MemForm s.mem) :
    OutKeepsForm (execShuttleEventInput k i s) := by simp [execShuttleEventInput, h]

@[simp] theorem outKeepsForm_execShsInWord (k : Fin 512) (port : Bool) (w : BitVec 48) (h : MemForm s.mem) :
    OutKeepsForm (execShsInWord k port w s) := by simp [execShsInWord, h]

@[simp] theorem outKeepsForm_execShsOutWord (k : Fin 512) (port : Bool) (h : MemForm s.mem) :
    OutKeepsForm (execShsOutWord k port s) := by simp [execShsOutWord, h]

@[simp] theorem outKeepsForm_execFetchComplete (k : Fin 512) (failAt : Option Nat) (h : MemForm s.mem) :
    OutKeepsForm (execFetchComplete k failAt s) := by
  unfold execFetchComplete
  simp only [outKeepsForm_next]
  repeat' split
  all_goals simp [h]

@[simp] theorem outKeepsForm_execClearComplete (mode : Fin 4) (initHigh : Bool) (h : MemForm s.mem) :
    OutKeepsForm (execClearComplete mode initHigh s) := by simp [execClearComplete, h]

@[simp] theorem outKeepsForm_execCfgInitNRise (mode : Fin 4) (h : MemForm s.mem) :
    OutKeepsForm (execCfgInitNRise mode s) := by simp [execCfgInitNRise, h]

@[simp] theorem outKeepsForm_execCfgSelNFall (h : MemForm s.mem) :
    OutKeepsForm (execCfgSelNFall s) := by simp [execCfgSelNFall, h]

@[simp] theorem outKeepsForm_execSyncWord (port : LoadPort) (h : MemForm s.mem) :
    OutKeepsForm (execSyncWord port s) := by simp [execSyncWord, h]

@[simp] theorem outKeepsForm_execBitstreamHeader (port : LoadPort) (ws : List Nat) (h : MemForm s.mem) :
    OutKeepsForm (execBitstreamHeader port ws s) := by simp [execBitstreamHeader, h]

@[simp] theorem outKeepsForm_execBitstreamFrame (port : LoadPort) (ws : List Nat) (contends : Bool) (h : MemForm s.mem) :
    OutKeepsForm (execBitstreamFrame port ws contends s) := by simp [execBitstreamFrame, h]

@[simp] theorem outKeepsForm_execEndWord (port : LoadPort) (trailer : List Nat) (design : Compiled) (h : MemForm s.mem) :
    OutKeepsForm (execEndWord port trailer design s) := by simp [execEndWord, h]

@[simp] theorem outKeepsForm_execEndChecksDone (port : LoadPort) (h : MemForm s.mem) :
    OutKeepsForm (execEndChecksDone port s) := by simp [execEndChecksDone, h]

@[simp] theorem outKeepsForm_execEarlyEnd (port : LoadPort) (h : MemForm s.mem) :
    OutKeepsForm (execEarlyEnd port s) := by simp [execEarlyEnd, h]

@[simp] theorem outKeepsForm_execSeamTrainingComplete (failed : List (Fin 256 × Fin 536)) (h : MemForm s.mem) :
    OutKeepsForm (execSeamTrainingComplete failed s) := by
  unfold execSeamTrainingComplete
  simp only [outKeepsForm_next]
  repeat' split
  all_goals simp [h]

@[simp] theorem outKeepsForm_execStartup (h : MemForm s.mem) : OutKeepsForm (execStartup s) := by
  grind [execStartup, outKeepsForm_next, memForm_startStep, memForm_startUp]

@[simp] theorem outKeepsForm_execFlipflopHoldLift (h : MemForm s.mem) : OutKeepsForm (execFlipflopHoldLift s) := by
  grind [execFlipflopHoldLift, outKeepsForm_next, memForm_startStep]

@[simp] theorem outKeepsForm_execUserIoRelease (h : MemForm s.mem) : OutKeepsForm (execUserIoRelease s) := by
  grind [execUserIoRelease, outKeepsForm_next, memForm_startStep]

@[simp] theorem outKeepsForm_execCfgDoneRelease (h : MemForm s.mem) : OutKeepsForm (execCfgDoneRelease s) := by
  grind [execCfgDoneRelease, outKeepsForm_next, runDesign_frame, memForm_startStep]

@[simp] theorem outKeepsForm_execIcpLoadBegin (b : Fin 4) (h : MemForm s.mem) : OutKeepsForm (execIcpLoadBegin b s) := by
  unfold execIcpLoadBegin
  simp only [outKeepsForm_next]
  repeat' split
  all_goals simp [h]

@[simp] theorem outKeepsForm_execIcpIsolate (b : Fin 4) (mask : BitVec 16) (h : MemForm s.mem) :
    OutKeepsForm (execIcpIsolate b mask s) := by simp [execIcpIsolate, h]

@[simp] theorem outKeepsForm_execPackageVerification (h : MemForm s.mem) :
    OutKeepsForm (execPackageVerification s) := by simp [execPackageVerification, h]

@[simp] theorem outKeepsForm_execStagingExpiry (h : MemForm s.mem) :
    OutKeepsForm (execStagingExpiry s) := by simp [execStagingExpiry, h]

@[simp] theorem outKeepsForm_execActivationPrepared (failed : Option (Fin 6)) (h : MemForm s.mem) :
    OutKeepsForm (execActivationPrepared failed s) := by simp [execActivationPrepared, h]

@[simp] theorem outKeepsForm_execLongOpTargetAvailable (k : Fin 64) (h : MemForm s.mem) :
    OutKeepsForm (execLongOpTargetAvailable k s) := by simp [execLongOpTargetAvailable, h]

@[simp] theorem outKeepsForm_execLongOpSafePoint (k : Fin 64) (h : MemForm s.mem) :
    OutKeepsForm (execLongOpSafePoint k s) := by simp [execLongOpSafePoint, h]

@[simp] theorem outKeepsForm_execLongOpWorkComplete (k : Fin 64) (data : List Byte) (h : MemForm s.mem) :
    OutKeepsForm (execLongOpWorkComplete k data s) := by simp [execLongOpWorkComplete, h]

@[simp] theorem outKeepsForm_execLongOpUndoComplete (k : Fin 64) (h : MemForm s.mem) :
    OutKeepsForm (execLongOpUndoComplete k s) := by simp [execLongOpUndoComplete, h]

@[simp] theorem outKeepsForm_execLongOpError (k : Fin 64) (status detail : Nat) (h : MemForm s.mem) :
    OutKeepsForm (execLongOpError k status detail s) := by simp [execLongOpError, h]

@[simp] theorem outKeepsForm_execHalfOpenExpiry (n : Fin 8) (h : MemForm s.mem) :
    OutKeepsForm (execHalfOpenExpiry n s) := by simp [execHalfOpenExpiry, h]

@[simp] theorem outKeepsForm_execSessionIdleTimeout (n : Fin 8) (h : MemForm s.mem) :
    OutKeepsForm (execSessionIdleTimeout n s) := by simp [execSessionIdleTimeout, h]

@[simp] theorem outKeepsForm_execCuratorKeyInstall (bytes : List Byte) (h : MemForm s.mem) :
    OutKeepsForm (execCuratorKeyInstall bytes s) := by simp [execCuratorKeyInstall, h]

@[simp] theorem outKeepsForm_execDeviceCounterExhausted (n : Fin 8) (h : MemForm s.mem) :
    OutKeepsForm (execDeviceCounterExhausted n s) := by simp [execDeviceCounterExhausted, h]

@[simp] theorem outKeepsForm_execEventRecord (h : MemForm s.mem) :
    OutKeepsForm (execEventRecord s) := by simp [execEventRecord, h]

@[simp] theorem outKeepsForm_execNotificationSend (n : Fin 8) (h : MemForm s.mem) :
    OutKeepsForm (execNotificationSend n s) := by simp [execNotificationSend, h]

@[simp] theorem outKeepsForm_execFabricEventRaise (b : Fin 4) (num : BitVec 8) (xlen : BitVec 6) (data : List Byte)
    (h : MemForm s.mem) :
    OutKeepsForm (execFabricEventRaise b num xlen data s) := by simp [execFabricEventRaise, h]

@[simp] theorem outKeepsForm_execFabricEventTake (b : Fin 4) (h : MemForm s.mem) :
    OutKeepsForm (execFabricEventTake b s) := by simp [execFabricEventTake, h]

@[simp] theorem outKeepsForm_execEvtClr (b : Fin 4) (line : Fin 64) (raised : Bool) (h : MemForm s.mem) :
    OutKeepsForm (execEvtClr b line raised s) := by simp [execEvtClr, h]

@[simp] theorem outKeepsForm_execCapServiceStart (h : MemForm s.mem) :
    OutKeepsForm (execCapServiceStart s) := by simp [execCapServiceStart, h]

@[simp] theorem outKeepsForm_execVaultUnsealed (h : MemForm s.mem) :
    OutKeepsForm (execVaultUnsealed s) := by simp [execVaultUnsealed, h]

@[simp] theorem outKeepsForm_execAllAreasServed (h : MemForm s.mem) :
    OutKeepsForm (execAllAreasServed s) := by simp [execAllAreasServed, h]

@[simp] theorem outKeepsForm_execSlotInitialised (k : Fin 16) (h : MemForm s.mem) :
    OutKeepsForm (execSlotInitialised k s) := by simp [execSlotInitialised, h]

@[simp] theorem outKeepsForm_execProtectedReadChecked (h : MemForm s.mem) :
    OutKeepsForm (execProtectedReadChecked s) := by simp [execProtectedReadChecked, h]

@[simp] theorem outKeepsForm_execHaltRecordCommit (h : MemForm s.mem) :
    OutKeepsForm (execHaltRecordCommit s) := by simp [execHaltRecordCommit, h]

@[simp] theorem outKeepsForm_execMinorOverflowComplete (k : Fin 16) (h : MemForm s.mem) :
    OutKeepsForm (execMinorOverflowComplete k s) := by simp [execMinorOverflowComplete, h]

@[simp] theorem outKeepsForm_execCounterNodeEviction (k : Fin 16) (level idx : Nat) (h : MemForm s.mem) :
    OutKeepsForm (execCounterNodeEviction k level idx s) := by simp [execCounterNodeEviction, h]

@[simp] theorem outKeepsForm_execRekeyGroupConversion (k : Fin 16) (h : MemForm s.mem) :
    OutKeepsForm (execRekeyGroupConversion k s) := by simp [execRekeyGroupConversion, h]

@[simp] theorem outKeepsForm_execAutoRekeyStart (k : Fin 16) (h : MemForm s.mem) :
    OutKeepsForm (execAutoRekeyStart k s) := by simp [execAutoRekeyStart, h]

@[simp] theorem outKeepsForm_execMemoryAccessComplete (target : Fin 64) (ix : Nat) (upsets : List (BitVec 26 × Bool))
    (h : MemForm s.mem) :
    OutKeepsForm (execMemoryAccessComplete target ix upsets s) := by
  unfold execMemoryAccessComplete
  simp only [outKeepsForm_next]
  repeat' split
  all_goals simp [h]

@[simp] theorem outKeepsForm_execPowerGood (xoSel pullSel : Bool) (h : MemForm s.mem) :
    OutKeepsForm (execPowerGood xoSel pullSel s) := by simp [execPowerGood, h]

@[simp] theorem outKeepsForm_execVccMgcLow (h : MemForm s.mem) : OutKeepsForm (execVccMgcLow s) := by simp [execVccMgcLow, h]

@[simp] theorem outKeepsForm_execRegulatorSilent (b : Fin 4) (rail : Fin 3) (h : MemForm s.mem) :
    OutKeepsForm (execRegulatorSilent b rail s) := by simp [execRegulatorSilent, h]

@[simp] theorem outKeepsForm_execRailOutOfTolerance (rail : Fin 146) (mv : Nat) (h : MemForm s.mem) :
    OutKeepsForm (execRailOutOfTolerance rail mv s) := by simp [execRailOutOfTolerance, h]

@[simp] theorem outKeepsForm_execRailInTolerance (rail : Fin 146) (h : MemForm s.mem) :
    OutKeepsForm (execRailInTolerance rail s) := by simp [execRailInTolerance, h]

@[simp] theorem outKeepsForm_execDevReset (lowNs : Nat) (h : MemForm s.mem) :
    OutKeepsForm (execDevReset lowNs s) := by simp [execDevReset, h]

@[simp] theorem outKeepsForm_execDevResetRelease (pull : Bool) (h : MemForm s.mem) :
    OutKeepsForm (execDevResetRelease pull s) := by simp [execDevResetRelease, h]

@[simp] theorem outKeepsForm_execThermalWarning (b : Fin 4) (sensor : Fin 16) (temp : Int) (h : MemForm s.mem) :
    OutKeepsForm (execThermalWarning b sensor temp s) := by simp [execThermalWarning, h]

@[simp] theorem outKeepsForm_execThermalTrip (b : Fin 4) (sensor : Fin 16) (temp : Int) (h : MemForm s.mem) :
    OutKeepsForm (execThermalTrip b sensor temp s) := by simp [execThermalTrip, h]

@[simp] theorem outKeepsForm_execThermalHoldEnd (temp : Int) (h : MemForm s.mem) :
    OutKeepsForm (execThermalHoldEnd temp s) := by simp [execThermalHoldEnd, h]

@[simp] theorem outKeepsForm_execThermalWarningRearm (temp : Int) (h : MemForm s.mem) :
    OutKeepsForm (execThermalWarningRearm temp s) := by simp [execThermalWarningRearm, h]

@[simp] theorem outKeepsForm_execStepApply (t : Fin 8) (h : MemForm s.mem) :
    OutKeepsForm (execStepApply t s) := by simp [execStepApply, h]

@[simp] theorem outKeepsForm_execCompareInstant (u : Fin 64) (h : MemForm s.mem) : OutKeepsForm (execCompareInstant u s) := by
  unfold execCompareInstant
  simp only [outKeepsForm_next]
  repeat' split
  all_goals simp [h]

@[simp] theorem outKeepsForm_execCapFrame (port : MgtPort) (d : Datagram) (h : MemForm s.mem) :
    OutKeepsForm (execCapFrame port d s) := by
  unfold execCapFrame
  simp only [outKeepsForm_next]
  repeat' split
  all_goals simp [h]

@[simp] theorem outKeepsForm_execSegWriteTimeout (who : Who) (key : Nat) (h : MemForm s.mem) :
    OutKeepsForm (execSegWriteTimeout who key s) := by
  unfold execSegWriteTimeout
  simp only [outKeepsForm_next]
  repeat' split
  all_goals simp [h]

@[simp] theorem outKeepsForm_execCacheEntryExpiry (sess : Option (Fin 8)) (trans : Nat) (h : MemForm s.mem) :
    OutKeepsForm (execCacheEntryExpiry sess trans s) := by
  unfold execCacheEntryExpiry
  simp only [outKeepsForm_next]
  repeat' split
  all_goals simp [h]

@[simp] theorem outKeepsForm_execMcastDuplicateWindowEnd (g : Fin 16) (trans : Nat) (h : MemForm s.mem) :
    OutKeepsForm (execMcastDuplicateWindowEnd g trans s) := by
  unfold execMcastDuplicateWindowEnd
  simp only [outKeepsForm_next]
  repeat' split
  all_goals simp [h]

@[simp] theorem outKeepsForm_execMcastAnswerRelease (g : Fin 16) (trans : Nat) (h : MemForm s.mem) :
    OutKeepsForm (execMcastAnswerRelease g trans s) := by
  unfold execMcastAnswerRelease
  simp only [outKeepsForm_next]
  repeat' split
  all_goals simp [h]

@[simp] theorem outKeepsForm_execBridgeResponse (late : Bool) (taken status : Nat) (v : PortValue) (h : MemForm s.mem) :
    OutKeepsForm (execBridgeResponse late taken status v s) := by
  unfold execBridgeResponse
  simp only [outKeepsForm_next]
  repeat' split
  all_goals simp [h]

@[simp] theorem outKeepsForm_execBridgeTimeout (taken : Nat) (h : MemForm s.mem) :
    OutKeepsForm (execBridgeTimeout taken s) := by
  unfold execBridgeTimeout
  simp only [outKeepsForm_next]
  repeat' split
  all_goals simp [h]

@[simp] theorem outKeepsForm_execClientPortRequest (b : Fin 4) (key : Nat) (write : Bool) (v : PortValue) (h : MemForm s.mem) :
    OutKeepsForm (execClientPortRequest b key write v s) := by simp [execClientPortRequest, h]

@[simp] theorem outKeepsForm_execMgcConfirm (h : MemForm s.mem) :
    OutKeepsForm (execMgcConfirm s) := by simp [execMgcConfirm, h]

@[simp] theorem outKeepsForm_execConfirmTimeout (h : MemForm s.mem) :
    OutKeepsForm (execConfirmTimeout s) := by simp [execConfirmTimeout, h]

@[simp] theorem outKeepsForm_execSvcSend (bytes : List Byte) (h : MemForm s.mem) :
    OutKeepsForm (execSvcSend bytes s) := by simp [execSvcSend, h]

@[simp] theorem outKeepsForm_execSvcReceive (h : MemForm s.mem) : OutKeepsForm (execSvcReceive s) := by
  unfold execSvcReceive
  simp only [outKeepsForm_next]
  repeat' split
  all_goals simp [h]

@[simp] theorem outKeepsForm_execSvcPoll (h : MemForm s.mem) : OutKeepsForm (execSvcPoll s) := by simp [execSvcPoll, h]

@[simp] theorem outKeepsForm_execPickBoundary (t : Fin 8) (h : MemForm s.mem) :
    OutKeepsForm (execPickBoundary t s) := by simp [execPickBoundary, h]

@[simp] theorem outKeepsForm_execBeatBoundary (t : Fin 8) (h : MemForm s.mem) :
    OutKeepsForm (execBeatBoundary t s) := by simp [execBeatBoundary, h]

@[simp] theorem outKeepsForm_execFirmwareActivation (h : MemForm s.mem) :
    OutKeepsForm (execFirmwareActivation s) := by simp [execFirmwareActivation, h]

@[simp] theorem outKeepsForm_execSeamChannelReinstatement (c : Fin 256) (h : MemForm s.mem) :
    OutKeepsForm (execSeamChannelReinstatement c s) := by simp [execSeamChannelReinstatement, h]

@[simp] theorem outKeepsForm_execNocLinkReinstatement (l : Fin 160) (h : MemForm s.mem) :
    OutKeepsForm (execNocLinkReinstatement l s) := by simp [execNocLinkReinstatement, h]

@[simp] theorem outKeepsForm_execEngineReinstatement (e : Fin 8) (h : MemForm s.mem) :
    OutKeepsForm (execEngineReinstatement e s) := by simp [execEngineReinstatement, h]

@[simp] theorem outKeepsForm_execClusterReinstatement (c : Fin 64) (h : MemForm s.mem) :
    OutKeepsForm (execClusterReinstatement c s) := by simp [execClusterReinstatement, h]

@[simp] theorem outKeepsForm_execPlannedSeamMend (c : Fin 256) (h : MemForm s.mem) :
    OutKeepsForm (execPlannedSeamMend c s) := by simp [execPlannedSeamMend, h]

@[simp] theorem outKeepsForm_execHemRelease (p : Fin 64) (h : MemForm s.mem) :
    OutKeepsForm (execHemRelease p s) := by simp [execHemRelease, h]

@[simp] theorem outKeepsForm_execTakeArming (h : MemForm s.mem) :
    OutKeepsForm (execTakeArming s) := by simp [execTakeArming, h]

@[simp] theorem outKeepsForm_execSelvageWindowClose (h : MemForm s.mem) :
    OutKeepsForm (execSelvageWindowClose s) := by simp [execSelvageWindowClose, h]

/-! ### Every command -/

theorem outKeepsForm_exec (c : Instr) (h : MemForm s.mem) : OutKeepsForm (exec c s) := by
  cases hw : writeOf c with
  | some w =>
    rw [exec_write hw, outKeepsForm_next]
    exact memForm_submit _ _ _ (keepsForm_writeOf hw) h
  | none =>
    cases c
    all_goals simp only [writeOf, reduceCtorEq] at hw
    all_goals simp [exec, h]

/-- What a step leads to has memory in form. -/
theorem outKeepsForm_step (h : MemForm s.mem) : OutKeepsForm (step s) := by
  unfold step
  split
  · simpa using memForm_idleCycle h
  · exact outKeepsForm_exec _ h

/-- Settles O59: on an empty queue a cycle passes, which leaves memory alone; else each command keeps its form. -/
theorem everyStepKeepsTheMemoryForm : Obligations.EveryStepKeepsTheMemoryForm :=
  fun _ t h hx => outKeepsForm_step h t hx

end Sys2Proof.Machine
end

section
/-! What the shared operations leave alone, as one relation each. -/

namespace Sys2Proof.Machine

variable {s t : State} {ps : List Part}

theorem Outside.ite {p : Prop} [Decidable p] {a b : State} (ha : Outside ps s a) (hb : Outside ps s b) :
    Outside ps s (if p then a else b) := by
  split
  · exact ha
  · exact hb

/-- A further step that touches fewer parts. -/
theorem Outside.andThen {qs : List Part} {u : State} (h : Outside ps s t) (h' : Outside qs t u) (hs : ∀ p ∈ qs, p ∈ ps) :
    Outside ps s u :=
  h.trans (h'.mono hs)

theorem outside_put (s : State) (i a n : Nat) : Outside [.cat] s (s.put i a n) := by
  intro p hp
  cases p <;> simp at hp ⊢

theorem outside_putOct (s : State) (i a : Nat) (b : List Byte) : Outside [.cat] s (s.putOct i a b) := by
  intro p hp
  cases p <;> simp at hp ⊢

theorem outside_raise (s : State) (n unit : Nat) (b : List Byte) : Outside [.cat, .mgmt] s (s.raise n unit b) := by
  intro p hp
  cases p <;> simp at hp ⊢

theorem outside_withRuling (s : State) (r : Ruling) : Outside [.ruling] s { s with ruling := r } := by
  intro p hp
  cases p <;> simp at hp ⊢

theorem outside_withNoc (s : State) (n : Noc) : Outside [.noc] s { s with noc := n } := by
  intro p hp
  cases p <;> simp at hp ⊢

theorem outside_withCfg (s : State) (c : CfgEngine) : Outside [.cfg] s { s with cfg := c } := by
  intro p hp
  cases p <;> simp at hp ⊢

theorem outside_pass (s : State) (n : Nat) : Outside [.now, .tim] s (s.pass n) := by
  intro p hp
  cases p <;> simp at hp ⊢

/-! ### Parts, by name -/

theorem Outside.now (h : Outside ps s t) (hp : Part.now ∉ ps) : t.now = s.now := h .now hp
theorem Outside.cat (h : Outside ps s t) (hp : Part.cat ∉ ps) : t.cat = s.cat := h .cat hp
theorem Outside.ruling (h : Outside ps s t) (hp : Part.ruling ∉ ps) : t.ruling = s.ruling := h .ruling hp
theorem Outside.cap (h : Outside ps s t) (hp : Part.cap ∉ ps) : t.cap = s.cap := h .cap hp
theorem Outside.mgmt (h : Outside ps s t) (hp : Part.mgmt ∉ ps) : t.mgmt = s.mgmt := h .mgmt hp
theorem Outside.unit (h : Outside ps s t) (hp : Part.unit ∉ ps) : t.unit = s.unit := h .unit hp
theorem Outside.pwr (h : Outside ps s t) (hp : Part.pwr ∉ ps) : t.pwr = s.pwr := h .pwr hp
theorem Outside.cfg (h : Outside ps s t) (hp : Part.cfg ∉ ps) : t.cfg = s.cfg := h .cfg hp
theorem Outside.fab (h : Outside ps s t) (hp : Part.fab ∉ ps) : t.fab = s.fab := h .fab hp
theorem Outside.clk (h : Outside ps s t) (hp : Part.clk ∉ ps) : t.clk = s.clk := h .clk hp
theorem Outside.tim (h : Outside ps s t) (hp : Part.tim ∉ ps) : t.tim = s.tim := h .tim hp
theorem Outside.upd (h : Outside ps s t) (hp : Part.upd ∉ ps) : t.upd = s.upd := h .upd hp

end Sys2Proof.Machine
end

section
/-! O60. Splitting a word at the widths of its fields gives the fields that were joined; the first field, of three bits, is the
format, so the decoder takes the layout that the encoder used. -/

namespace Sys2Proof.Machine

/-! ### Words as runs of fields -/

theorem joinBits_lt {l : List (Nat × Nat)} (h : ∀ f ∈ l, f.2 < 2 ^ f.1) : joinBits l < 2 ^ (l.map (·.1)).sum := by
  induction l with
  | nil => simp [joinBits]
  | cons f r ih =>
    rw [List.forall_mem_cons] at h
    have hr := ih h.2
    calc joinBits (f :: r) < f.2 * 2 ^ (r.map (·.1)).sum + 2 ^ (r.map (·.1)).sum := by simpa [joinBits] using hr
      _ = (f.2 + 1) * 2 ^ (r.map (·.1)).sum := by ring
      _ ≤ 2 ^ f.1 * 2 ^ (r.map (·.1)).sum := Nat.mul_le_mul_right _ h.1
      _ = 2 ^ ((f :: r).map (·.1)).sum := by simp [pow_add]

/-- Bits above the fields of a word do not reach its fields. -/
theorem splitBits_add_mul (ws : List Nat) (v n : Nat) : splitBits ws (v * 2 ^ ws.sum + n) = splitBits ws n := by
  induction ws generalizing v n with
  | nil => rfl
  | cons w ws ih =>
    have hv : v * 2 ^ (w :: ws).sum = v * 2 ^ w * 2 ^ ws.sum := by rw [List.sum_cons, pow_add]; ring
    rw [splitBits, splitBits, hv, ih]
    congr 1
    rw [Nat.add_comm, Nat.add_mul_div_right _ _ (by positivity), Nat.add_mul_mod_self_right]

/-- The first of the fields joined. -/
theorem joinBits_head {f : Nat × Nat} {r : List (Nat × Nat)} (h : ∀ g ∈ f :: r, g.2 < 2 ^ g.1) :
    joinBits (f :: r) / 2 ^ (r.map (·.1)).sum % 2 ^ f.1 = f.2 := by
  rw [List.forall_mem_cons] at h
  rw [joinBits, Nat.add_comm, Nat.add_mul_div_right _ _ (by positivity), Nat.div_eq_of_lt (joinBits_lt h.2), Nat.zero_add,
    Nat.mod_eq_of_lt h.1]

theorem splitBits_joinBits {l : List (Nat × Nat)} (h : ∀ f ∈ l, f.2 < 2 ^ f.1) : splitBits (l.map (·.1)) (joinBits l) = l.map
    (·.2) := by
  induction l with
  | nil => rfl
  | cons f r ih =>
    have hr := (List.forall_mem_cons.1 h).2
    rw [List.map_cons, List.map_cons, splitBits, joinBits_head h, joinBits, splitBits_add_mul, ih hr]

/-- The fields that a word of given widths was joined from. -/
theorem splitBits_joinBits_zip {ws vs : List Nat} (hl : ws.length = vs.length) (h : ∀ f ∈ ws.zip vs, f.2 < 2 ^ f.1) :
    splitBits ws (joinBits (ws.zip vs)) = vs := by
  have hs := splitBits_joinBits h
  rwa [List.map_fst_zip hl.le, List.map_snd_zip hl.ge] at hs

/-! ### Instructions -/

theorem lt_of_fits {i : ShInstr} (h : i.fits = true) : ∀ f ∈ i.fields, f.2 < 2 ^ f.1 := by
  simp only [ShInstr.fits, Bool.and_eq_true, List.all_eq_true, decide_eq_true_eq] at h
  exact h.1

/-- The format of a word that was joined from fields, the first of them of three bits. -/
theorem format_joinBits {ws vs : List Nat} {f : Nat} (hs : ws.sum = 61) (hl : ws.length = vs.length)
    (h : ∀ g ∈ (3 :: ws).zip (f :: vs), g.2 < 2 ^ g.1) : joinBits ((3 :: ws).zip (f :: vs)) / 2 ^ 61 % 8 = f := by
  have hh := joinBits_head (r := ws.zip vs) h
  rwa [List.map_fst_zip hl.le, hs] at hh

/-- The fields of a word in the layout of a format. -/
def readFormat (f w : Nat) : Option ShInstr :=
  match f with
  | 0 => readQ (splitBits qWidths w)
  | 1 => readA (splitBits aWidths w)
  | 2 => readM (splitBits mWidths w)
  | 3 => readL (splitBits lWidths w)
  | 4 => readC (splitBits cWidths w)
  | _ => none

theorem decodeShuttle_of_readFormat {w f : Nat} {i : ShInstr} (hf : w / 2 ^ 61 % 8 = f) (hr : readFormat f w = some i)
    (hv : i.valid = true) : decodeShuttle w = some i := by
  change (match readFormat (w / 2 ^ 61 % 8) w with
    | some i => if i.valid then some i else none
    | none => none) = some i
  rw [hf, hr]
  exact if_pos hv

/-- Decoding a word that was joined from fields takes the layout that its format names. -/
theorem decodeShuttle_joinBits {ws vs : List Nat} {f : Nat} {i : ShInstr} (hs : ws.sum = 61) (hl : ws.length = vs.length)
    (h : ∀ g ∈ (3 :: ws).zip (f :: vs), g.2 < 2 ^ g.1) (hv : i.valid = true)
    (hr : ∀ w, splitBits (3 :: ws) w = f :: vs → readFormat f w = some i) :
    decodeShuttle (joinBits ((3 :: ws).zip (f :: vs))) = some i :=
  decodeShuttle_of_readFormat (format_joinBits hs hl h) (hr _ (splitBits_joinBits_zip (by simp [hl]) h)) hv

/-- Settles O60: format by format, the layout that the format names gives back the fields, which make up the instruction. -/
theorem shuttleInstructionsSurviveEncoding : Obligations.ShuttleInstructionsSurviveEncoding := by
  intro i hv hf
  have hlt := lt_of_fits hf
  cases i with
  | q lm sg m0 m1 m2 m3 x y =>
    refine decodeShuttle_joinBits (by rfl) (by rfl) hlt hv fun w hw => ?_
    rw [readFormat, qWidths, hw]
    rfl
  | alu op rd rs1 rs2 i imm x y =>
    refine decodeShuttle_joinBits (by rfl) (by rfl) hlt hv fun w hw => ?_
    rw [readFormat, aWidths, hw]
    rfl
  | acc op arr k width rd dm x y =>
    refine decodeShuttle_joinBits (by rfl) (by rfl) hlt hv fun w hw => ?_
    rw [readFormat, mWidths, hw]
    rfl
  | ldi dst imm =>
    refine decodeShuttle_joinBits (by rfl) (by rfl) hlt hv fun w hw => ?_
    rw [readFormat, lWidths, hw]
    rfl
  | movr dst src =>
    have hs : src < 2 ^ 6 := by simpa [ShInstr.fits, ShInstr.fields] using (Bool.and_eq_true_iff.1 hf).2
    refine decodeShuttle_joinBits (by rfl) (by rfl) hlt hv fun w hw => ?_
    rw [readFormat, lWidths, hw]
    simpa [readL] using hs
  | ldm dst port addr =>
    have hs : addr < 2 ^ 14 := by simpa using (Bool.and_eq_true_iff.1 hf).2
    refine decodeShuttle_joinBits (by rfl) (by rfl) hlt hv fun w hw => ?_
    rw [readFormat, lWidths, hw]
    simpa [readL] using hs
  | stm dst port addr =>
    have hs : addr < 2 ^ 14 := by simpa using (Bool.and_eq_true_iff.1 hf).2
    refine decodeShuttle_joinBits (by rfl) (by rfl) hlt hv fun w hw => ?_
    rw [readFormat, lWidths, hw]
    simpa [readL] using hs
  | ctl op cond opd =>
    refine decodeShuttle_joinBits (by rfl) (by rfl) hlt hv fun w hw => ?_
    rw [readFormat, cWidths, hw]
    rfl

end Sys2Proof.Machine
end

section
/-! O1, O2 and O58: a step runs the front command, which never ends in a fault; on an empty queue a cycle passes; reset. -/

namespace Sys2Proof.Machine

variable {s : State}

/-! ### O1 -/

/-- Every arm of the table answers a next state. -/
theorem exec_next (c : Instr) (s : State) : ∃ t, exec c s = .next t := by
  cases c
  all_goals exact ⟨_, rfl⟩

/-- Settles O1. -/
theorem stepRunsTheFrontCommand : Obligations.StepRunsTheFrontCommand :=
  ⟨fun c rest s h => by rw [step, h], exec_next⟩

/-! ### O2: what a cycle leaves as it was -/

/-- A fold that every element leaves alone. -/
theorem foldl_eq_self {α β : Type} {f : β → α → β} {l : List α} {b : β} (h : ∀ x ∈ l, f b x = b) : l.foldl f b = b :=
  List.foldlRecOn (motive := fun c => c = b) l f rfl fun _ hc x hx => hc.symm ▸ h x hx

theorem finishSteps_eq_self (h : ∀ d, d < 8 → (s.dom d).stepAt = none) : finishSteps s = s := by
  refine foldl_eq_self fun d hd => ?_
  rw [h d (List.mem_range.1 hd)]

theorem seamsCycle_eq_self (hm : ∀ p ∈ s.seams.chan, p.2.mismatches = []) (hf : s.fabricRuns = false) : seamsCycle s = s := by
  have hs : s.seams.chan.foldl (fun s p => if p.2.mismatches = [] then s else ageMarks s p.1 (seamCycle s p.1 s.now)) s = s :=
    foldl_eq_self fun p hp => if_pos (hm p hp)
  unfold seamsCycle
  rw [hs]
  simp [hf]

theorem fabricCycle_eq_self (hm : ∀ p ∈ s.seams.chan, p.2.mismatches = []) (hf : s.fabricRuns = false) : fabricCycle s = s := by
  unfold fabricCycle
  rw [seamsCycle_eq_self hm hf]
  simp [State.clocksRun, hf]

theorem idleCycle_eq_pass (hd : ∀ d, d < 8 → (s.dom d).stepAt = none) (hm : ∀ p ∈ s.seams.chan, p.2.mismatches = [])
    (hf : s.fabricRuns = false) (hs : s.noc.swapDue = false) : idleCycle s = s.pass 1 := by
  have h1 : finishSteps (s.pass 1) = s.pass 1 := finishSteps_eq_self hd
  have h2 : fabricCycle (s.pass 1) = s.pass 1 := fabricCycle_eq_self hm hf
  unfold idleCycle
  rw [h1, h2]
  simp [hs]

/-! ### O2: what a cycle does to the time bases -/

theorem idleCycle_now (s : State) : (idleCycle s).now = s.now + 1 := by
  simp [idleCycle, State.pass]

theorem idleCycle_tim (s : State) : (idleCycle s).tim = (s.pass 1).tim := by
  simp [idleCycle]

theorem tb_pass {k : Nat} (hk : k < s.tim.tb.length) (n : Nat) : (s.pass n).tb k = (s.tb k).run n := by
  simp [State.tb, State.pass, hk]

theorem tb_idleCycle {k : Nat} (hk : k < s.tim.tb.length) : (idleCycle s).tb k = (s.tb k).run 1 := by
  rw [State.tb, idleCycle_tim]
  exact tb_pass hk 1

variable {b : TimeBase}

theorem time_run_one (h : b.setPend = none) (hs : b.slewLeft = 0) : (b.run 1).time = b.time + b.inc := by
  simp [TimeBase.run, h, hs, TimeBase.advance]

theorem time_run_one_slewing (h : b.setPend = none) (hs : 0 < b.slewLeft) : (b.run 1).time = b.time + b.slewInc := by
  have hm : min 1 b.slewLeft = 1 := by omega
  have hd : 1 - b.slewLeft = 0 := by omega
  simp [TimeBase.run, h, TimeBase.advance, hm, hd]

theorem slewLeft_run_one (h : b.setPend = none) : (b.run 1).slewLeft = b.slewLeft - 1 := by
  simp [TimeBase.run, h]

theorem run_one_of_set {ns : Nat} (h : b.setPend = some ns) : (b.run 1).time = ns * nsUnit ∧ (b.run 1).setPend = none := by
  simp [TimeBase.run, h, TimeBase.advance]

/-- Settles O2: the cycle that passes counts every time base, and finds nothing else to do where nothing waits. -/
theorem emptyQueueLetsOneCyclePass : Obligations.EmptyQueueLetsOneCyclePass := by
  intro s hq
  refine ⟨idleCycle s, by rw [step, hq], idleCycle_now s, fun hd hm hf hs => ?_, fun k hk => ?_⟩
  · rw [idleCycle_eq_pass hd hm hf hs]
    exact outside_pass s 1
  · rw [tb_idleCycle hk]
    exact ⟨time_run_one, fun h hs => ⟨time_run_one_slewing h hs, slewLeft_run_one h⟩, fun _ => run_one_of_set⟩

/-! ### O58 -/

/-- Settles O58: reset lists nothing, and an entry that the catalogue does not list reads its default. -/
theorem resetLeavesTheDeviceOff : Obligations.ResetLeavesTheDeviceOff := by
  have hidle : MgcIdle State.reset := ⟨rfl, rfl, rfl⟩
  refine ⟨rfl, rfl, rfl, rfl, rfl, rfl, rfl, rfl, rfl, rfl, hidle, ?entries⟩
  case entries => exact ⟨rfl, rfl, rfl, rfl, rfl, rfl, rfl, rfl, rfl, rfl, rfl, rfl⟩

end Sys2Proof.Machine
end

section
/-! O3. A count is reached in the first cycle at or after it: first the cycles of a running slew, then those of the increment. -/

namespace Sys2Proof.Machine

/-! ### Rounding up -/

theorem le_ceilDiv_mul {a b : Nat} (hb : 0 < b) : a ≤ ceilDiv a b * b := by
  have h := Nat.div_add_mod (a + b - 1) b
  have hm := Nat.mod_lt (a + b - 1) hb
  rw [ceilDiv, Nat.mul_comm]
  omega

theorem mul_lt_of_lt_ceilDiv {a b n : Nat} (hn : n < ceilDiv a b) : n * b < a := by
  have h : (n + 1) * b ≤ a + b - 1 := (Nat.mul_le_mul_right b hn).trans (Nat.div_mul_le_self _ _)
  rcases Nat.eq_zero_or_pos b with rfl | hb
  · simp [ceilDiv] at hn
  · rw [Nat.add_mul] at h
    omega

theorem ceilDiv_le {a b m : Nat} (h : a ≤ m * b) : ceilDiv a b ≤ m := by
  by_contra hc
  exact absurd (mul_lt_of_lt_ceilDiv (not_le.1 hc)) (not_lt.2 h)

/-! ### Counts -/

variable {b : TimeBase}

theorem time_run (h : b.setPend = none) (n : Nat) :
    (b.run n).time = b.time + min n b.slewLeft * b.slewInc + (n - b.slewLeft) * b.inc := by
  unfold TimeBase.run
  split
  · next hn => simp [hn]
  · simp [h, TimeBase.advance]

/-- While a slew runs, every cycle counts by its increment. -/
theorem time_run_le (h : b.setPend = none) {n : Nat} (hn : n ≤ b.slewLeft) : (b.run n).time = b.time + n * b.slewInc := by
  rw [time_run h, min_eq_left hn, Nat.sub_eq_zero_of_le hn, Nat.zero_mul, Nat.add_zero]

/-- From the end of a slew on, every cycle counts by the increment. -/
theorem time_run_add (h : b.setPend = none) (m : Nat) :
    (b.run (b.slewLeft + m)).time = b.time + b.slewLeft * b.slewInc + m * b.inc := by
  rw [time_run h, min_eq_right (Nat.le_add_right _ _), Nat.add_sub_cancel_left]

/-- Settles O3. -/
theorem boundaryIsTheFirstCycleAtOrAfter : Obligations.BoundaryIsTheFirstCycleAtOrAfter := by
  intro b target hp hi hs
  unfold TimeBase.cyclesTo
  split
  case isTrue h => exact ⟨by simpa [TimeBase.run] using h, fun n hn => absurd hn (Nat.not_lt_zero n)⟩
  case isFalse h =>
  split
  case isTrue hslew =>
    have hinc : 0 < b.slewInc := hs.resolve_left fun h0 => by simp [h0] at hslew; omega
    have hle := ceilDiv_le hslew
    constructor
    · have := le_ceilDiv_mul (a := target - b.time) hinc
      rw [time_run_le hp hle]
      omega
    · intro n hn
      have := mul_lt_of_lt_ceilDiv hn
      rw [time_run_le hp (hn.le.trans hle)]
      omega
  case isFalse hslew =>
    constructor
    · have := le_ceilDiv_mul (a := target - b.time - b.slewLeft * b.slewInc) hi
      rw [time_run_add hp]
      omega
    · intro n hn
      rcases Nat.le_total n b.slewLeft with hl | hl
      · have := Nat.mul_le_mul_right b.slewInc hl
        rw [time_run_le hp hl]
        omega
      · obtain ⟨m, rfl⟩ := Nat.exists_eq_add_of_le hl
        have := mul_lt_of_lt_ceilDiv (Nat.lt_of_add_lt_add_left hn)
        rw [time_run_add hp]
        omega

end Sys2Proof.Machine
end

section
/-! O4 to O6: boundaries of time bases open picks and beats, and start releases and compare instants follow. -/

namespace Sys2Proof.Machine

variable {s : State}

/-! ### The MGC where nothing waits -/

theorem MgcIdle.mgcStep_eq_none (h : MgcIdle s) : mgcStep s = none := by
  obtain ⟨h1, h2, h3⟩ := h
  simp [mgcStep, h1, h2, h3]

theorem MgcIdle.mgcRun_eq_self (h : MgcIdle s) (n : Nat) : mgcRun n s = s := by
  cases n with
  | zero => rfl
  | succ n => rw [mgcRun, h.mgcStep_eq_none]

theorem MgcIdle.pump_eq_self (h : MgcIdle s) : pump s = s := h.mgcRun_eq_self _

theorem MgcIdle.congr {t : State} (h : MgcIdle s) (hc : t.cap = s.cap) : MgcIdle t := by
  unfold MgcIdle
  rwa [hc]

/-! ### Time bases -/

theorem tb_lt_of_armed {t : Nat} (h : (s.tb t).armed = true) : t < s.tim.tb.length := by
  by_contra hn
  rw [State.tb, List.getD_eq_default _ _ (not_lt.1 hn)] at h
  cases h

/-- Time leaves the settings and the place in the pick of a time base alone. -/
@[simp] theorem run_keeps (b : TimeBase) (n : Nat) :
    (b.run n).armed = b.armed ∧ (b.run n).cur = b.cur ∧ (b.run n).want = b.want ∧ (b.run n).opened = b.opened ∧
    (b.run n).beat = b.beat ∧ (b.run n).high = b.high := by
  unfold TimeBase.run
  split
  · simp
  · split <;> simp

theorem length_tb_pass (s : State) (n : Nat) : (s.pass n).tim.tb.length = s.tim.tb.length := by
  simp [State.pass]

/-! ### The start of a pick -/

theorem num_pass (s : State) (n i a : Nat) : (s.pass n).num i a = s.num i a := rfl

theorem dom_pass (s : State) (n d : Nat) : (s.pass n).dom d = s.dom d := rfl

/-- What has happened where a pick of time base `t` has opened (R9, R11, R36). -/
structure PickBegan (s u : State) (t n : Nat) : Prop where
  pick : u.pick t = n
  beatEntry : u.num (genIdx t) 7 = 0
  beat : (u.tb t).beat = 0
  opened : (u.tb t).opened = true
  high : (u.tb t).high = n + 1
  strobed : Strobed s u t true
  release : { due := u.now + 128, tb := t, pick := n } ∈ u.ruling.releases

theorem num_of_cat {t : State} {i a n : Nat} (h : tget t.cat (ent i a) = some (.num n)) : t.num i a = n := num_of_tget t i a n h

theorem strobed_strobe (s : State) (t : Nat) (p : Bool) : Strobed s (strobe s t p) t p := ⟨rfl, rfl, rfl⟩

theorem tb_beginPick {t n : Nat} (hl : t < s.tim.tb.length) :
    (beginPick s t n).tb t = { s.tb t with high := n + 1, opened := true, beat := 0 } := by
  have hf : t < (finishSteps s).tim.tb.length := by simpa using hl
  have ht : (finishSteps s).tb t = s.tb t := by simp [State.tb]
  unfold beginPick
  generalize finishSteps s = f at hf ht
  rw [← ht]
  exact tb_setTb_self f t (fun b => { b with high := n + 1, opened := true, beat := 0 }) hf

theorem pickBegan_beginPick {t n : Nat} (hl : t < s.tim.tb.length) : PickBegan s (beginPick s t n) t n := by
  have htb := tb_beginPick (n := n) hl
  refine ⟨num_of_cat ?_, num_of_cat ?_, ?_, ?_, ?_, ⟨?_, ?_, ?_⟩, ?_⟩
  · simp [beginPick, tget_tput, genIdx, ent_inj]
  · simp [beginPick, genIdx]
  · rw [htb]
  · rw [htb]
  · rw [htb]
  · simp [beginPick, strobe]
  · simp [beginPick, strobe]
  · simp [beginPick, strobe]
  · simp [beginPick, strobe]

/-- What a pick has begun stays where its catalogue, its time base, the ruling part and the time stay. -/
theorem PickBegan.congr {u v : State} {t n : Nat} (h : PickBegan s u t n) (hp : v.num (genIdx t) 5 = u.num (genIdx t) 5)
    (hb : v.num (genIdx t) 7 = u.num (genIdx t) 7) (ht : v.tim = u.tim) (hn : v.now = u.now)
    (hs : v.ruling.strobeAt = u.ruling.strobeAt ∧ v.ruling.tickPick = u.ruling.tickPick ∧ v.ruling.tickBeat = u.ruling.tickBeat)
    (hr : v.ruling.releases = u.ruling.releases) : PickBegan s v t n := by
  obtain ⟨h1, h2, h3, h4, h5, ⟨h6, h7, h8⟩, h9⟩ := h
  obtain ⟨e1, e2, e3⟩ := hs
  have htb : v.tb t = u.tb t := by rw [State.tb, ht]; rfl
  refine ⟨hp.trans h1, hb.trans h2, ?_, ?_, ?_, ⟨?_, ?_, ?_⟩, ?_⟩
  · rw [htb, h3]
  · rw [htb, h4]
  · rw [htb, h5]
  · rw [e1, hn, h6]
  · rw [e2, hn, h7]
  · rw [e3, hn, h8]
  · rw [hr, hn]
    exact h9

/-! ### A pick for which no command waits -/

/-- No timed command waits for pick `n` of time base `t`. -/
def NoneDue (s : State) (t n : Nat) : Prop := ∀ c ∈ s.ruling.timed, ¬(c.tb = t ∧ c.pick = n)

theorem NoneDue.filter_eq_nil {t n : Nat} (h : NoneDue s t n) {p : TimedCmd → Bool}
    (hp : ∀ c, p c = true → c.tb = t ∧ c.pick = n) :
    s.ruling.timed.filter p = [] :=
  List.filter_eq_nil_iff.2 fun c hc hx => h c hc (hp c hx)

theorem takeOut_eq_self {p : TimedCmd → Bool} (h : s.ruling.timed.filter p = []) : takeOut s p = s := by
  have hf : s.ruling.timed.filter (fun c => !p c) = s.ruling.timed :=
    List.filter_eq_self.2 fun c hc => by simpa using List.filter_eq_nil_iff.1 h c hc
  rw [takeOut, hf]

theorem atBoundary_due {r : Bool} {t n : Nat} {c : TimedCmd} (h : atBoundary r t n c = true) : c.tb = t ∧ c.pick = n := by
  simp only [atBoundary, Bool.and_eq_true, beq_iff_eq] at h
  exact h.1.1

theorem takeDue_due {t n : Nat} {c : TimedCmd} (h : takeDue t n c = true) : c.tb = t ∧ c.pick = n := by
  simp only [takeDue, Bool.and_eq_true, beq_iff_eq] at h
  exact h.1

theorem takeReport_nil (s : State) (n e : Nat) : takeReport s n e [] = s := rfl

theorem armTakes_eq_self {t n : Nat} (h : NoneDue s t n) : armTakes s t n = s := by
  have hf := h.filter_eq_nil (p := takeDue t n) fun _ => takeDue_due
  unfold armTakes
  rw [takeOut_eq_self hf, hf]
  exact foldl_eq_self fun e _ => takeReport_nil s n e

theorem openPlain_eq_self {t n : Nat} (h : NoneDue s t n) : openPlain s t n = s := by
  have hf : s.ruling.timed.filter (fun c => atBoundary false t n c && (takeEngine c.key).isNone) = [] :=
    h.filter_eq_nil fun c hc => atBoundary_due (Bool.and_eq_true_iff.1 hc).1
  unfold openPlain
  rw [takeOut_eq_self hf, hf]
  exact armTakes_eq_self h

/-! ### What the start of a pick leaves of the ruling part -/

theorem entriesOutside_finishStep (s : State) (d : Nat) : EntriesOutside finishRanges s (finishStep s d) := by
  unfold finishStep
  extract_lets x u v
  split
  · exact .refl _ _
  · refine .trans ?_ (entriesOutside_foldl _ _ _ fun w c _ => entriesOutside_finishCmd w c stOk)
    exact (EntriesOutside.of_cat rfl).trans ((entriesOutside_raise u 0x147 _ _ (by decide)).mono (by decide))

theorem entriesOutside_finishSteps (s : State) : EntriesOutside finishRanges s (finishSteps s) := by
  refine entriesOutside_foldl _ _ _ fun u d _ => ?_
  split
  · split
    · exact entriesOutside_finishStep u d
    · exact .refl _ _
  · exact .refl _ _

theorem num_finishSteps (s : State) (i a : Nat) (ha : a < 256) (h : i < 0x0E0000 ∨ 0x0E1FFF < i)
    (h' : i < 0x074000 ∨ 0x07BFFF < i) :
    (finishSteps s).num i a = s.num i a :=
  num_outside (entriesOutside_finishSteps s) (by simp) (by simp) (by simp) i a ha (not_finish i h h')

theorem tickPnum_beginPick (s : State) {t n : Nat} (hl : t < 8) :
    (beginPick s t n).ruling.tickPnum = if t = s.rulingTb then n % 2 ^ 16 else s.ruling.tickPnum := by
  have hf : (finishSteps s).rulingTb = s.rulingTb := num_finishSteps s _ _ (by decide) (by decide) (by decide)
  have hr : (finishSteps s).ruling = s.ruling := by simp
  unfold beginPick
  generalize finishSteps s = f at hf hr
  have hg : genIdx t ≠ 0x030000 := by unfold genIdx; omega
  have he : ∀ a v, a < 256 → ∀ u : State, (u.put (genIdx t) a v).rulingTb = u.rulingTb := fun a v ha u =>
    num_put_ne u _ _ _ _ _ ha (by decide) hg
  rw [← hf, ← hr, ← he 5 n (by decide) f, ← he 6 (s.tb t).ns (by decide), ← he 7 0 (by decide)]
  rfl

theorem window_beginPick (s : State) (t n : Nat) : (beginPick s t n).ruling.window = s.ruling.window := by
  simp [beginPick, strobe]

/-! ### O4 -/

theorem outside_beginPick {t n : Nat} (hd : finishSteps s = s) : Outside [.cat, .ruling, .tim] s (beginPick s t n) := by
  unfold beginPick
  rw [hd]
  intro p hp
  cases p <;> simp at hp ⊢

theorem outside_beatSource (s : State) (t : Nat) : Outside [.shu] s (beatSource s t) := by
  intro p hp
  cases p <;> simp at hp ⊢

theorem rulingTb_pass (s : State) (n : Nat) : (s.pass n).rulingTb = s.rulingTb := rfl

/-- The boundary of a time base that does not rule opens its pick. -/
theorem boundary_plain {t : Nat} (hr : t ≠ s.rulingTb) (hw : (s.tb t).want = none) :
    boundary s t = openPick (s.waitTb t ((s.tb t).cur.start (s.tb t).high)) t (s.tb t).high false := by
  simp [boundary, hr, hw]

theorem NoneDue.congr {u : State} {t n : Nat} (h : NoneDue s t n) (e : u.ruling.timed = s.ruling.timed) : NoneDue u t n := by
  unfold NoneDue
  rwa [e]

theorem timed_beginPick (s : State) (t n : Nat) : (beginPick s t n).ruling.timed = s.ruling.timed := by
  simp [beginPick, strobe]

theorem openPick_plain {t n : Nat} (h : NoneDue s t n) : openPick s t n false = beatSource (beginPick s t n) t := by
  have hd : NoneDue (beatSource (beginPick s t n) t) t n := h.congr (by simp [timed_beginPick])
  simp only [openPick, Bool.false_eq_true, if_false]
  exact openPlain_eq_self hd

theorem num_congr_of_cat {u v : State} (hc : v.cat = u.cat) (hu : v.unit = u.unit) (hp : v.pwr = u.pwr) (hg : v.cfg = u.cfg)
    (i a : Nat)
    (ha : a < 256) : v.num i a = u.num i a :=
  num_outside (rs := []) (EntriesOutside.of_cat hc) hu hp hg i a ha nofun

theorem PickBegan.beatSource {u : State} {t n k : Nat} (h : PickBegan s u t n) : PickBegan s (beatSource u k) t n :=
  h.congr (num_congr_of_cat (by simp) (by simp) (by simp) (by simp) _ _ (by decide))
    (num_congr_of_cat (by simp) (by simp) (by simp) (by simp) _ _ (by decide)) (by simp) (by simp) (by simp) (by simp)

theorem pickBoundary_plain {t : Nat} (ha : (s.tb t).armed = true) (hr : t ≠ s.rulingTb) (hn : s.ruling.newRuling ≠ some t)
    (hw : (s.tb t).want = none) (hc : NoneDue s t (s.tb t).high) :
    pickBoundary s t = beatSource (beginPick (s.waitTb t ((s.tb t).cur.start (s.tb t).high)) t (s.tb t).high) t := by
  have hd : NoneDue (s.waitTb t ((s.tb t).cur.start (s.tb t).high)) t (s.tb t).high := hc.congr (by simp)
  rw [← openPick_plain hd, ← boundary_plain hr hw]
  simp [pickBoundary, ha, hn]

/-- Settles O4: the boundary lets time run and opens the pick; nothing is due there, and the MGC has nothing to do. -/
theorem pickBoundaryOpensThePick : Obligations.PickBoundaryOpensThePick := by
  intro s t ha hr hn hw hc hd hm
  have hopen := pickBoundary_plain ha hr hn hw hc
  have hwo : Outside [.now, .tim] s (s.waitTb t ((s.tb t).cur.start (s.tb t).high)) := outside_pass s _
  have hfin : finishSteps (s.waitTb t ((s.tb t).cur.start (s.tb t).high)) = _ :=
    finishSteps_eq_self fun d hd' => (congrArg _ (dom_pass s _ d)).trans (hd d hd')
  have hlt : t < (s.waitTb t ((s.tb t).cur.start (s.tb t).high)).tim.tb.length := (length_tb_pass s _).symm ▸ tb_lt_of_armed ha
  have hnow : (s.waitTb t ((s.tb t).cur.start (s.tb t).high)).now = s.now + (s.tb t).cyclesTo ((s.tb t).cur.start (s.tb t).high) := rfl
  have hrtb : (s.waitTb t ((s.tb t).cur.start (s.tb t).high)).rulingTb = s.rulingTb := rulingTb_pass s _
  generalize s.waitTb t ((s.tb t).cur.start (s.tb t).high) = w at *
  have hrul : w.ruling = s.ruling := hwo .ruling (by decide)
  have hout : Outside [.now, .cat, .ruling, .tim, .shu] s (pickBoundary s t) := by
    rw [hopen]
    exact ((hwo.mono (by decide)).trans ((outside_beginPick hfin).mono (by decide))).trans ((outside_beatSource _ _).mono (by decide))
  have hpump : pump (pickBoundary s t) = pickBoundary s t := (hm.congr (hout .cap (by decide))).pump_eq_self
  have hp : PickBegan w (pickBoundary s t) t (s.tb t).high := by
    rw [hopen]
    exact (pickBegan_beginPick hlt).beatSource
  have hstrobe : Strobed s (pickBoundary s t) t true := by
    have := hp.strobed
    rwa [Strobed, hrul] at this
  refine ⟨pickBoundary s t, congrArg _ hpump, ?_, hp.pick, hp.beatEntry, hp.beat, hp.opened, hp.high, hstrobe, hp.release, ?_,
    ?_,
    hout⟩
  · rw [hopen]
    simp [hnow]
  · rw [hopen]
    simp [window_beginPick, hrul]
  · rw [hopen, (outside_beatSource _ _ .ruling (by decide) : _ = _), tickPnum_beginPick w t.isLt, if_neg, hrul]
    rwa [hrtb]

end Sys2Proof.Machine
end

section
/-! O5: the boundary of the ruling time base opens the window beside its pick. -/

namespace Sys2Proof.Machine

variable {s : State}

/-! ### Parts that the opening of a window leaves alone -/

theorem outside_closePickBytes (s : State) : Outside [.cat, .noc] s (closePickBytes s) := by
  obtain ⟨z, hz⟩ : ∃ z, closePickBytes s = z := ⟨_, rfl⟩
  rw [hz]
  unfold closePickBytes at hz
  extract_lets u at hz
  have hu : Outside [.cat, .noc] s u := by
    refine Outside.foldl _ _ _ fun u i => ?_
    dsimp only
    split
    · exact Outside.refl _ u
    · exact (outside_put u _ _ _).trans (outside_put _ _ _ _) |>.mono (by decide)
  rw [← hz]
  exact hu.andThen (outside_withNoc u _) (by decide)

theorem outside_windowDomain (s : State) (d : Nat) : Outside [.cat, .mgmt, .clk] s (windowDomain s d) := by
  intro p hp
  cases p <;> simp at hp ⊢

theorem outside_tickDomain (s : State) (d : Nat) : Outside [.cat, .mgmt, .clk] s (tickDomain s d) := by
  intro p hp
  cases p <;> simp at hp ⊢

theorem outside_windowUloop (s : State) (l : Nat) : Outside [.cat, .mgmt, .clk] s (windowUloop s l) := by
  intro p hp
  cases p <;> simp at hp ⊢

theorem outside_windowSpread (s : State) : Outside [.clk] s (windowSpread s) := by
  intro p hp
  cases p <;> simp at hp ⊢

theorem outside_latchStatus (s : State) : Outside [.fresh, .fab] s (latchStatus s) := by
  intro p hp
  cases p <;> simp at hp ⊢

theorem phase_latchStatus (h : s.selvageOn = true) : (latchStatus s).fab.phase = 1 := by
  unfold latchStatus
  simp only [h, Bool.not_true, Bool.false_eq_true, if_false]
  refine List.foldlRecOn (motive := fun u : State => u.fab.phase = 1) _ _ rfl fun u hu p _ => ?_
  split
  · exact hu
  · exact hu

theorem selvageOn_congr {t : State} (hc : t.cfg = s.cfg) (hp : t.pwr = s.pwr) : t.selvageOn = s.selvageOn := by
  rw [State.selvageOn, hc, hp]
  rfl

theorem freezeTasks_of_no_untimed (h : s.ruling.untimed = []) (r : Nat) : freezeTasks s r = s := by
  unfold freezeTasks
  rw [h]
  simp only [fitTasks]
  rw [← h]

/-! ### The stages in which a window opens -/

/-- The window is open, and the bytes of the pick before it are closed. -/
def windowOpened (s : State) : State :=
  closePickBytes { s with
    ruling := { s.ruling with
      bridge := false, window := true, windows := s.ruling.windows + 1, windowAt := s.now, taskAt := s.now + 500, sched := [] } }

/-- The commands due, in their order. -/
def windowRun (s : State) (t n : Nat) : State :=
  let mine := s.ruling.timed.filter (atBoundary true t n)
  ((orderCmds mine).zip (mine.map (·.order))).foldl (fun s c => rulingCmd s c.1 c.2)
    ((List.range 8).foldl windowDomain (takeOut s (atBoundary true t n)))

/-- Status pins, domains, user loops and spread. -/
def windowClocks (s : State) : State :=
  windowSpread ((List.range 32).foldl windowUloop ((List.range 8).foldl tickDomain (latchStatus s)))

/-- A swap of route tables that is pending becomes due. -/
def windowSwap (s : State) : State :=
  if s.noc.swapPend ∧ s.num 0x090000 2 = 1 then { s with noc := { s.noc with swapDue := true, swapPend := false } } else s

/-- A checked load has its start instant. -/
def windowStart (s : State) (n : Nat) : State :=
  if s.cfgState = csWaitTick ∧ s.cfg.startAt = none then
    { s with cfg := { s.cfg with startAt := some s.now, startTick := some n } }
  else s

theorem openWindow_eq (s : State) (n : Nat) :
    openWindow s n =
      freezeTasks
        (let u := windowStart (windowSwap (windowClocks (windowRun (windowOpened s) s.rulingTb n))) n
          if u.upd.revert then revertFirmware u else u)
        (costOf (pendingFor (windowOpened s) s.rulingTb n)) := by
  unfold openWindow windowStart windowSwap windowClocks windowRun windowOpened
  with_reducible rfl

theorem windowRun_of_none_due {t n : Nat} (h : NoneDue s t n) : windowRun s t n = (List.range 8).foldl windowDomain s := by
  have hnil : s.ruling.timed.filter (atBoundary true t n) = [] := h.filter_eq_nil fun _ => atBoundary_due
  simp [windowRun, hnil, orderCmds, takeOut_eq_self hnil]

theorem outside_windowRun {t n : Nat} (h : NoneDue s t n) : Outside [.cat, .mgmt, .clk] s (windowRun s t n) := by
  rw [windowRun_of_none_due h]
  exact Outside.foldl _ _ _ outside_windowDomain

theorem outside_windowClocks (s : State) : Outside [.fresh, .cat, .mgmt, .fab, .clk] s (windowClocks s) :=
  (((outside_latchStatus s).mono (by decide)).andThen (Outside.foldl _ _ _ outside_tickDomain) (by decide)).andThen
    (Outside.foldl _ _ _ outside_windowUloop) (by decide) |>.andThen (outside_windowSpread _) (by decide)

theorem phase_windowClocks (h : s.selvageOn = true) : (windowClocks s).fab.phase = 1 := by
  have hf : (windowClocks s).fab = (latchStatus s).fab := by simp [windowClocks]
  rw [hf, phase_latchStatus h]

theorem outside_windowSwap (s : State) : Outside [.noc] s (windowSwap s) := (outside_withNoc s _).ite (Outside.refl _ s)

theorem outside_windowStart (s : State) (n : Nat) : Outside [.cfg] s (windowStart s n) := (outside_withCfg s _).ite
    (Outside.refl _ s)

theorem outside_windowOpened (s : State) : Outside [.cat, .ruling, .noc] s (windowOpened s) :=
  ((outside_withRuling s _).mono (by decide)).andThen (outside_closePickBytes _) (by decide)

theorem ruling_windowOpened (s : State) : (windowOpened s).ruling = { s.ruling with
    bridge := false, window := true, windows := s.ruling.windows + 1, windowAt := s.now, taskAt := s.now + 500, sched := [] } :=
  (outside_closePickBytes _).ruling (by decide)

/-- What a window with nothing due does where it opens. -/
theorem openWindow_quiet {n : Nat} (hd : NoneDue s s.rulingTb n) (hu : s.ruling.untimed = []) (hr : s.upd.revert = false) :
    Outside [.fresh, .cat, .ruling, .mgmt, .cfg, .fab, .clk, .noc] s (openWindow s n) ∧
    (openWindow s n).ruling = { s.ruling with
      bridge := false, window := true, windows := s.ruling.windows + 1, windowAt := s.now, taskAt := s.now + 500,
        sched := [] } ∧
    (s.selvageOn = true → (openWindow s n).fab.phase = 1) := by
  have ho := outside_windowOpened s
  have hrul := ruling_windowOpened s
  have hrun : Outside [.cat, .mgmt, .clk] (windowOpened s) (windowRun (windowOpened s) s.rulingTb n) :=
    outside_windowRun (hd.congr (by rw [hrul]))
  rw [openWindow_eq]
  generalize windowOpened s = o at *
  generalize windowRun o s.rulingTb n = r at *
  have hc := outside_windowClocks r
  have hp : r.selvageOn = true → (windowClocks r).fab.phase = 1 := phase_windowClocks
  generalize windowClocks r = c at *
  have hs := outside_windowSwap c
  generalize windowSwap c = w at *
  have ht := outside_windowStart w n
  generalize windowStart w n = v at *
  have hall : Outside [.fresh, .cat, .ruling, .mgmt, .cfg, .fab, .clk, .noc] s v :=
    ((((ho.mono (by decide)).andThen hrun (by decide)).andThen hc (by decide)).andThen hs (by decide)).andThen ht (by decide)
  have hv : v.ruling = o.ruling := by
    rw [ht.ruling (by decide), hs.ruling (by decide), hc.ruling (by decide), hrun.ruling (by decide)]
  have hrev : v.upd.revert = false := by rw [hall.upd (by decide), hr]
  have hun : v.ruling.untimed = [] := by rw [hv, hrul, hu]
  simp only [hrev, Bool.false_eq_true, if_false]
  rw [freezeTasks_of_no_untimed hun]
  refine ⟨hall, by rw [hv, hrul], fun hon => ?_⟩
  have hcfg : r.cfg = s.cfg := (hrun.cfg (by decide)).trans (ho.cfg (by decide))
  have hpwr : r.pwr = s.pwr := (hrun.pwr (by decide)).trans (ho.pwr (by decide))
  rw [ht.fab (by decide), hs.fab (by decide)]
  exact hp ((selvageOn_congr hcfg hpwr).trans hon)

/-! ### The boundary -/

theorem closeWindow_of_closed (h : s.ruling.window = false) : closeWindow s = s := by
  simp [closeWindow, h]

theorem boundary_ruling {t : Nat} (hr : t = s.rulingTb) (hw : (s.tb t).want = none) (hn : s.ruling.newRuling = none)
    (hc : s.ruling.window = false) :
    boundary s t = openPick (s.waitTb t ((s.tb t).cur.start (s.tb t).high)) t (s.tb t).high true := by
  simp [boundary, ← hr, hw, closeWindow_of_closed hc, hn, State.waitTb]

/-- The state in which a window opens at a pick: the pick has begun, and the first one since arming is reported. -/
def pickOpened (s : State) (t n : Nat) : State :=
  if !(s.tb t).opened then (beatSource (beginPick s t n) t).raise 0x110 t (be 1 t) else beatSource (beginPick s t n) t

theorem openPick_ruling (s : State) (t n : Nat) : openPick s t n true = openWindow (pickOpened s t n) n := by
  simp [openPick, pickOpened]

theorem outside_beginPick_all (s : State) (t n : Nat) : Outside [.cat, .ruling, .mgmt, .clk, .tim] s (beginPick s t n) := by
  intro p hp
  cases p <;> simp at hp ⊢

theorem outside_pickOpened (s : State) (t n : Nat) : Outside [.cat, .ruling, .mgmt, .clk, .tim, .shu] s (pickOpened s t n) := by
  have h : Outside [.cat, .ruling, .mgmt, .clk, .tim, .shu] s (beatSource (beginPick s t n) t) :=
    ((outside_beginPick_all s t n).mono (by decide)).andThen (outside_beatSource _ t) (by decide)
  exact (h.andThen (outside_raise _ _ _ _) (by decide)).ite h

theorem rest_pickOpened (s : State) (t n : Nat) : Outside [.cat, .mgmt, .shu] (beginPick s t n) (pickOpened s t n) := by
  have h : Outside [.cat, .mgmt,
    .shu] (beginPick s t n) (beatSource (beginPick s t n) t) := (outside_beatSource _ t).mono (by decide)
  exact (h.andThen (outside_raise _ _ _ _) (by decide)).ite h

theorem rulingTb_beginPick (s : State) (t n : Nat) (ht : t < 8) : (beginPick s t n).rulingTb = s.rulingTb := by
  have hf : (finishSteps s).rulingTb = s.rulingTb := num_finishSteps s _ _ (by decide) (by decide) (by decide)
  unfold beginPick
  generalize finishSteps s = f at hf
  have hg : genIdx t ≠ 0x030000 := by unfold genIdx; omega
  have he : ∀ a v, a < 256 → ∀ u : State, (u.put (genIdx t) a v).rulingTb = u.rulingTb := fun a v ha u =>
    num_put_ne u _ _ _ _ _ ha (by decide) hg
  exact (he 7 0 (by decide) _).trans ((he 6 (s.tb t).ns (by decide) _).trans ((he 5 n (by decide) f).trans hf))

theorem num_raise {n unit : Nat} {b : List Byte} (hn : n < 4096) (i a : Nat) (ha : a < 256) (h : i < 0x0E0000 ∨ 0x0E1FFF < i) :
    (s.raise n unit b).num i a = s.num i a :=
  num_outside (entriesOutside_raise s n unit b hn) (by simp) (by simp) (by simp) i a ha (not_event i h)

theorem rulingTb_beatSource (s : State) (t : Nat) : (beatSource s t).rulingTb = s.rulingTb :=
  num_congr_of_cat (by simp) (by simp) (by simp) (by simp) _ _ (by decide)

theorem rulingTb_pickOpened (s : State) (t n : Nat) (ht : t < 8) : (pickOpened s t n).rulingTb = s.rulingTb := by
  unfold pickOpened
  split
  · exact (num_raise (by decide) _ _ (by decide) (by decide)).trans ((rulingTb_beatSource _ _).trans (rulingTb_beginPick s t n ht))
  · exact (rulingTb_beatSource _ _).trans (rulingTb_beginPick s t n ht)

/-- Settles O5: the boundary opens the pick, and the window with nothing due in it. -/
theorem rulingBoundaryOpensTheWindow : Obligations.RulingBoundaryOpensTheWindow := by
  intro s t ha hr hn hw hwin hrev hun hc hm
  have hopen : pickBoundary s t = openWindow (pickOpened (s.waitTb t ((s.tb t).cur.start (s.tb t).high)) t (s.tb t).high) (s.tb t).high := by
    rw [← openPick_ruling, ← boundary_ruling hr hw hn hwin]
    simp [pickBoundary, ha, hn]
  have hwo : Outside [.now, .tim] s (s.waitTb t ((s.tb t).cur.start (s.tb t).high)) := outside_pass s _
  have hlt : t < (s.waitTb t ((s.tb t).cur.start (s.tb t).high)).tim.tb.length := (length_tb_pass s _).symm ▸ tb_lt_of_armed ha
  have hnow : (s.waitTb t ((s.tb t).cur.start (s.tb t).high)).now = s.now + (s.tb t).cyclesTo ((s.tb t).cur.start (s.tb t).high) := rfl
  have hrtb : (s.waitTb t ((s.tb t).cur.start (s.tb t).high)).rulingTb = s.rulingTb := rulingTb_pass s _
  generalize s.waitTb t ((s.tb t).cur.start (s.tb t).high) = w at *
  have hrul : w.ruling = s.ruling := hwo.ruling (by decide)
  have hb := pickBegan_beginPick (n := (s.tb t).high) hlt
  have hpnum := tickPnum_beginPick w (n := (s.tb t).high) t.isLt
  have htimed := timed_beginPick w t (s.tb t).high
  have hrest := rest_pickOpened w t (s.tb t).high
  have hpo := outside_pickOpened w t (s.tb t).high
  have hptb := rulingTb_pickOpened w t (s.tb t).high t.isLt
  have huntimed : (beginPick w t (s.tb t).high).ruling.untimed = s.ruling.untimed := by simp [beginPick, strobe, hrul]
  generalize beginPick w t (s.tb t).high = k at *
  generalize pickOpened w t (s.tb t).high = o at *
  have hork : o.ruling = k.ruling := hrest.ruling (by decide)
  have hdue : NoneDue o o.rulingTb (s.tb t).high := by
    have hco : NoneDue o t (s.tb t).high := NoneDue.congr (s := s) hc (by rw [hork, htimed, hrul])
    rwa [hptb, hrtb, ← hr]
  obtain ⟨hz, hzr, hph⟩ := openWindow_quiet (s := o) (n := (s.tb t).high) hdue (by rw [hork, huntimed, hun])
    (by rw [hpo.upd (by decide), hwo.upd (by decide), hrev])
  rw [← hopen] at hz hzr hph
  have hzn : (pickBoundary s t).now = w.now := (hz.now (by decide)).trans (hpo.now (by decide))
  have hwind : (pickBoundary s t).ruling.windowAt = (pickBoundary s t).now := by rw [hzr, hz.now (by decide)]
  have hcap : (pickBoundary s t).cap = s.cap :=
    (hz.cap (by decide)).trans ((hpo.cap (by decide)).trans (hwo.cap (by decide)))
  have hkn : k.now = o.now := (hrest.now (by decide)).symm
  have htb : (pickBoundary s t).tb t = k.tb t := by
    rw [State.tb, hz.tim (by decide), hrest.tim (by decide)]
    rfl
  have hnz : (pickBoundary s t).now = k.now := hzn.trans ((hpo.now (by decide)).symm.trans hkn.symm)
  obtain ⟨_, _, hbeat, hopened, hhigh, ⟨hs1, hs2, hs3⟩, hrel⟩ := hb
  refine ⟨pickBoundary s t, congrArg _ (hm.congr hcap).pump_eq_self, hzn.trans hnow, ?_, ?_, ?_, ?_, hwind, ?_, ?_, ?_, ?_,
    ⟨?_, ?_, ?_⟩, ?_, fun hon => hph ?_⟩
  · rw [htb, hhigh]
  · rw [htb, hbeat]
  · rw [htb, hopened]
  · rw [hzr]
  · rw [hzr, hz.now (by decide)]
  · rw [hzr]
  · rw [hzr]
  · rw [hzr, hork, hpnum, if_pos (hr.trans hrtb.symm)]
  · rw [hzr, hork, hs1, hnz]
  · rw [hzr, hork, hs2, hnz, hrul]
  · rw [hzr, hork, hs3, hnz, hrul]
  · rw [hzr, hork, hnz]
    exact hrel
  · rw [selvageOn_congr (hpo.cfg (by decide)) (hpo.pwr (by decide)),
    selvageOn_congr (hwo.cfg (by decide)) (hwo.pwr (by decide)), hon]

end Sys2Proof.Machine
end

section
/-! O6: beats, start releases and compare instants. -/

namespace Sys2Proof.Machine

variable {s : State}

/-! ### Beats -/

/-- A beat begins (R11): what a boundary does once time has run to it. -/
def beginBeat (s : State) (t n k : Nat) : State :=
  let u := (s.setTb t fun b => { b with beat := k }).put (genIdx t) 7 k
  let rel : StartRel := { due := u.now + 128, tb := t, pick := n, beat := k }
  beatSource (strobe { u with ruling := { u.ruling with releases := u.ruling.releases ++ [rel] } } t false) t

theorem beatBoundary_eq {t : Nat} (ha : (s.tb t).armed = true) (ho : (s.tb t).opened = true)
    (hk : (s.tb t).beat + 1 < (s.tb t).cur.beats) :
    beatBoundary s t =
      beginBeat (s.waitTb t ((s.tb t).cur.beatStart (s.pick t) ((s.tb t).beat + 1))) t (s.pick t) ((s.tb t).beat + 1) := by
  have hn : ¬((!(s.tb t).armed) = true ∨ (!(s.tb t).opened) = true ∨ (s.tb t).cur.beats ≤ (s.tb t).beat + 1) := by
    simpa [ha, ho] using hk
  exact if_neg hn

theorem outside_beginBeat (s : State) (t n k : Nat) : Outside [.cat, .ruling, .tim, .shu] s (beginBeat s t n k) := by
  intro p hp
  cases p <;> simp [beginBeat] at hp ⊢

theorem tb_beginBeat {t n k : Nat} (hl : t < s.tim.tb.length) : (beginBeat s t n k).tb t = { s.tb t with beat := k } := by
  have h : (beginBeat s t n k).tim = (s.setTb t fun b => { b with beat := k }).tim := by simp [beginBeat]
  rw [State.tb, h]
  exact tb_setTb_self s t (fun b => { b with beat := k }) hl

theorem num_beginBeat (s : State) (t n k : Nat) : (beginBeat s t n k).num (genIdx t) 7 = k :=
  num_of_cat (by simp [beginBeat])

theorem ruling_beginBeat (s : State) (t n k : Nat) : (beginBeat s t n k).ruling = (strobe
    { s with ruling := { s.ruling with releases := s.ruling.releases ++ [{ due := s.now + 128, tb := t, pick := n, beat := k }] } } t
    false).ruling := by
  simp [beginBeat]
  rfl

/-! ### Start releases and compare instants -/

theorem now_waitUntil (s : State) (n : Nat) : (s.waitUntil n).now = max s.now n := by
  change s.now + (n - s.now) = max s.now n
  omega

theorem outside_release (s : State) (x : StartRel) : Outside [.cat, .ruling, .mgmt, .clk, .shu] s (release s x) := by
  intro p hp
  cases p <;> simp at hp ⊢

theorem releases_release (s : State) (x : StartRel) : (release s x).ruling.releases = s.ruling.releases := by
  simp [release]

theorem trig_lt_of_next {u x : Nat} (h : (s.trig u).next = some x) : u < s.tim.trig.length := by
  by_contra hn
  rw [State.trig, List.getD_eq_default _ _ (not_lt.1 hn)] at h
  cases h

theorem outside_fireTrig (s : State) (u x : Nat) : Outside [.cat, .tim] s (fireTrig s u x) := by
  intro p hp
  cases p <;> simp at hp ⊢

theorem level_aimTrig (s : State) (u x : Nat) (hu : u < s.tim.trig.length) : ((aimTrig s u x).trig u).level =
    (s.trig u).level := by
  unfold aimTrig
  split
  · rw [trig_setTrig_self _ _ _ hu]
  · rw [trig_setTrig_self _ _ _ hu]

theorem level_fireTrig {u : Nat} (x : Nat) (hu : u < s.tim.trig.length) : ((fireTrig s u x).trig u).level = true := by
  unfold fireTrig
  extract_lets c v
  have hc : u < c.tim.trig.length := by simpa [c] using hu
  have hv : u < v.tim.trig.length := by simpa [v, State.setTrig] using hc
  have hl : (v.trig u).level = true := by simp [v, trig_setTrig_self _ _ _ hc]
  split
  · rw [trig_put, trig_setTrig_self _ _ _ hv, hl]
  · rw [trig_put, level_aimTrig _ _ _ hv, hl]

/-- Settles O6: each of the three lets time run to its instant and leaves its record there. -/
theorem beatsStartsAndCompareInstants : Obligations.BeatsStartsAndCompareInstants := by
  refine ⟨fun s t ha ho hk => ?_, fun s x r hx => ?_, fun s k x hx ha => ?_⟩
  · have hb := beatBoundary_eq ha ho hk
    have hwo : Outside [.now, .tim] s (s.waitTb t ((s.tb t).cur.beatStart (s.pick t) ((s.tb t).beat + 1))) := outside_pass s _
    have hlt : t < (s.waitTb t ((s.tb t).cur.beatStart (s.pick t) ((s.tb t).beat + 1))).tim.tb.length :=
      (length_tb_pass s _).symm ▸ tb_lt_of_armed ha
    have hnow : (s.waitTb t ((s.tb t).cur.beatStart (s.pick t) ((s.tb t).beat + 1))).now =
      s.now + (s.tb t).cyclesTo ((s.tb t).cur.beatStart (s.pick t) ((s.tb t).beat + 1)) := rfl
    generalize s.waitTb t ((s.tb t).cur.beatStart (s.pick t) ((s.tb t).beat + 1)) = w at *
    have ho := outside_beginBeat w t (s.pick t) ((s.tb t).beat + 1)
    have hrul := ruling_beginBeat w t (s.pick t) ((s.tb t).beat + 1)
    rw [hwo.ruling (by decide)] at hrul
    refine ⟨_, congrArg Host.Outcome.next hb, (ho.now (by decide)).trans hnow, ?_, num_beginBeat _ _ _ _, ⟨?_, ?_, ?_⟩, ?_,
      (hwo.mono (by decide)).andThen ho (by decide)⟩
    · rw [tb_beginBeat hlt]
    all_goals simp [hrul, ho.now (by decide), strobe]
  · have he : exec .shuttleStartRelease s =
        .next (release { s.waitUntil x.due with ruling := { (s.waitUntil x.due).ruling with releases := r } } x) := by
      change Host.Outcome.next _ = _
      rw [hx]
    have hwo : Outside [.now, .tim] s (s.waitUntil x.due) := outside_pass s _
    have hnow := now_waitUntil s x.due
    generalize s.waitUntil x.due = w at *
    have ho := outside_release { w with ruling := { w.ruling with releases := r } } x
    refine ⟨_, he, (ho.now (by decide)).trans hnow, releases_release _ _, ?_⟩
    exact ((hwo.mono (by decide)).andThen (outside_withRuling w _) (by decide)).andThen ho (by decide)
  · have he : exec (.compareInstant k) s =
        .next (fireTrig { s.waitTb (s.num (trigIdx k) 2) x with
          ruling := { (s.waitTb (s.num (trigIdx k) 2) x).ruling with
            releases := (s.waitTb (s.num (trigIdx k) 2) x).ruling.releases ++
              [{ due := (s.waitTb (s.num (trigIdx k) 2) x).now + 128, tb := s.num (trigIdx k) 2, pick := x, trig := some k.val }] } }
          k x) := by
      change Host.Outcome.next _ = _
      rw [hx]
      simp [ha]
    have hwo : Outside [.now, .tim] s (s.waitTb (s.num (trigIdx k) 2) x) := outside_pass s _
    have hnow : (s.waitTb (s.num (trigIdx k) 2) x).now = s.now + (s.tb (s.num (trigIdx k) 2)).cyclesTo x := rfl
    have hlen : k < (s.waitTb (s.num (trigIdx k) 2) x).tim.trig.length := trig_lt_of_next hx
    generalize s.waitTb (s.num (trigIdx k) 2) x = w at *
    have ho := outside_fireTrig { w with ruling := { w.ruling with
      releases := w.ruling.releases ++ [{ due := w.now + 128, tb := s.num (trigIdx k) 2, pick := x, trig := some k.val }] } } k x
    refine ⟨_, he, (ho.now (by decide)).trans hnow, level_fireTrig x hlen, ?_, ?_⟩
    · rw [ho.ruling (by decide), ho.now (by decide)]
      simp
    · exact ((hwo.mono (by decide)).andThen (outside_withRuling w _) (by decide)).andThen ho (by decide)

end Sys2Proof.Machine
end

section
/-! What an entry reads after an operation that sets or raises something else. A default names other entries in two blocks of
the catalogue only (R46), and there fields 04 to 06 of the same record. -/

namespace Sys2Proof.Machine

variable {s t : State}

/-! ### Values -/

/-- An index whose defaults name no stored entry. -/
def PlainIndex (i : Nat) : Prop := (i < 0x040100 ∨ 0x040107 < i) ∧ (i < 0x0A0010 ∨ 0x0A0013 < i)

theorem val_congr_plain {i b : Nat} (hb : b < 256) (hi : PlainIndex i) (h : tget t.cat (ent i b) = tget s.cat (ent i b))
    (hu : t.unit = s.unit) (hp : t.pwr = s.pwr) (hc : t.cfg = s.cfg) : t.val (ent i b) = s.val (ent i b) := by
  obtain ⟨h1, h2⟩ := hi
  have hd : unitDefault t i b = unitDefault s i b := by
    have n1 : ¬(0x040100 ≤ i ∧ i ≤ 0x040107) := by omega
    have n2 : ¬(0x0A0010 ≤ i ∧ i ≤ 0x0A0013 ∧ 7 ≤ b ∧ b ≤ 9) := by omega
    simp only [unitDefault, hu, hp, hc, n1, n2, if_false]
  simp only [State.val, h, defaultVal, ent_div i b hb, ent_mod i b hb, hd]

/-- What a write of field `a` of record `i` may change of field `b` of record `j`: nothing, where they are two fields and no default
of the one names the other. -/
def Apart (i a j b : Nat) : Prop := (i ≠ j ∨ a ≠ b) ∧ (i ≠ j ∨ a < 4 ∨ 6 < a ∨ PlainIndex i)

theorem val_congr_apart {i a j b : Nat} {v : Val} (ha : a < 256) (hb : b < 256) (h : Apart i a j b)
    (hc : t.cat = tput s.cat (ent i a) v) (hu : t.unit = s.unit) (hp : t.pwr = s.pwr) (hg : t.cfg = s.cfg) :
    t.val (ent j b) = s.val (ent j b) := by
  have hget : ∀ k c, c < 256 → (i ≠ k ∨ a ≠ c) → tget t.cat (ent k c) = tget s.cat (ent k c) := fun k c hc' hne => by
    rw [hc, tget_tput, if_neg]
    rw [ent_inj _ _ _ _ ha hc']
    tauto
  obtain ⟨h1, h2⟩ := h
  by_cases hij : i = j ∧ PlainIndex i
  · obtain ⟨rfl, hi⟩ := hij
    exact val_congr_plain hb hi (hget i b hb h1) hu hp hg
  · refine val_congr s t _ (hget j b hb h1) (fun c h4 h6 => ?_) hu (by rw [hp]) (by rw [hp]) (by rw [hg])
    rw [ent_div j b hb]
    refine hget j c (by omega) ?_
    by_contra hn
    obtain ⟨e1, e2⟩ : i = j ∧ a = c := by tauto
    have : PlainIndex i := by
      rcases h2 with h2 | h2 | h2 | h2
      · exact absurd e1 h2
      · omega
      · omega
      · exact h2
    exact hij ⟨e1, this⟩

theorem num_put_of_apart {i a n j b : Nat} (ha : a < 256) (hb : b < 256) (h : i ≠ j ∨ a ≠ b)
    (h' : i ≠ j ∨ a < 4 ∨ 6 < a ∨ (i < 0x040100 ∨ 0x040107 < i) ∧ (i < 0x0A0010 ∨ 0x0A0013 < i)) : (s.put i a n).num j b = s.num j b :=
  congrArg valNum (val_congr_apart ha hb ⟨h, h'⟩ rfl rfl rfl rfl)

theorem num_putOct_of_apart {i a j b : Nat} {v : List Byte} (ha : a < 256) (hb : b < 256) (h : i ≠ j ∨ a ≠ b)
    (h' : i ≠ j ∨ a < 4 ∨ 6 < a ∨ (i < 0x040100 ∨ 0x040107 < i) ∧ (i < 0x0A0010 ∨ 0x0A0013 < i)) :
    (s.putOct i a v).num j b = s.num j b :=
  congrArg valNum (val_congr_apart ha hb ⟨h, h'⟩ rfl rfl rfl rfl)

theorem oct_put_of_apart {i a n j b : Nat} (ha : a < 256) (hb : b < 256) (h : i ≠ j ∨ a ≠ b)
    (h' : i ≠ j ∨ a < 4 ∨ 6 < a ∨ (i < 0x040100 ∨ 0x040107 < i) ∧ (i < 0x0A0010 ∨ 0x0A0013 < i)) : (s.put i a n).oct j b = s.oct j b :=
  congrArg valBytes (val_congr_apart ha hb ⟨h, h'⟩ rfl rfl rfl rfl)

theorem oct_putOct_of_apart {i a j b : Nat} {v : List Byte} (ha : a < 256) (hb : b < 256) (h : i ≠ j ∨ a ≠ b)
    (h' : i ≠ j ∨ a < 4 ∨ 6 < a ∨ (i < 0x040100 ∨ 0x040107 < i) ∧ (i < 0x0A0010 ∨ 0x0A0013 < i)) :
    (s.putOct i a v).oct j b = s.oct j b :=
  congrArg valBytes (val_congr_apart ha hb ⟨h, h'⟩ rfl rfl rfl rfl)

theorem num_count_of_apart {i a w n j b : Nat} (ha : a < 256) (hb : b < 256) (h : i ≠ j ∨ a ≠ b)
    (h' : i ≠ j ∨ a < 4 ∨ 6 < a ∨ (i < 0x040100 ∨ 0x040107 < i) ∧ (i < 0x0A0010 ∨ 0x0A0013 < i)) :
    (s.count i a w n).num j b = s.num j b :=
  num_put_of_apart ha hb h h'

/-- The entries of events: what raising one may count, drive or lose. -/
theorem oct_outside {rs : List (Nat × Nat)} (h : EntriesOutside rs s t) (hu : t.unit = s.unit) (hp : t.pwr = s.pwr) (hc : t.cfg = s.cfg)
    (i a : Nat) (ha : a < 256) (hi : ∀ r ∈ rs, ¬(r.1 ≤ i ∧ i ≤ r.2)) : t.oct i a = s.oct i a := by
  refine congrArg valBytes (val_congr s t _ (h _ ?_) (fun c _ hc' => h _ ?_) hu (by rw [hp]) (by rw [hp]) (by rw [hc]))
  · rwa [ent_div i a ha]
  · rwa [ent_div i a ha, ent_div i c (by omega)]

theorem num_raiseAtMost {n m unit : Nat} {f : Nat → List Byte} (hm : m < 4096) (i a : Nat) (ha : a < 256)
    (h : i < 0x0E0000 ∨ 0x0E1FFF < i) : (s.raiseAtMost n m unit f).num i a = s.num i a :=
  num_outside (entriesOutside_raiseAtMost s n m unit f hm) (by simp) (by simp) (by simp) i a ha (not_event i h)

theorem num_finishCmd (c : TimedCmd) (st i a : Nat) (ha : a < 256) (h : i < 0x0E0000 ∨ 0x0E1FFF < i)
    (h' : i < 0x074000 ∨ 0x07BFFF < i) : (finishCmd s c st).num i a = s.num i a :=
  num_outside (entriesOutside_finishCmd s c st) (by simp) (by simp) (by simp) i a ha (not_finish i h h')

theorem num_completeCmd (c : Option TimedCmd) (st i a : Nat) (ha : a < 256) (h : i < 0x0E0000 ∨ 0x0E1FFF < i)
    (h' : i < 0x074000 ∨ 0x07BFFF < i) : (completeCmd s c st).num i a = s.num i a :=
  num_outside (entriesOutside_completeCmd s c st) (by simp) (by simp) (by simp) i a ha (not_finish i h h')

end Sys2Proof.Machine
end

section
/-! A write is refused, accepted for its pick, or applied (R56, R59; obligation O55). -/

namespace Sys2Proof.Machine

variable {s t : State} {r : Req} {key n pos : Nat} {v : Val} {rule : Rule} {c : Instr}

/-! ### Refused and judged -/

theorem submit_untimely {e : Stat} (h : serves s key = true) (hc : checkWrite s (carried r) key v rule = none)
    (ht : checkTiming s (carried r) 0 key v rule = .error e) : submit s r key v rule = s.reply e.1 e.2 := by
  rw [submit_executes h hc, executeWrite_error ht]

theorem submit_judged {p : Option Nat} {d : Done} (h : serves s key = true)
    (hc : checkWrite s (carried r) key v rule = none) (ht : checkTiming s (carried r) 0 key v rule = .ok p)
    (hj : rule.judge s (carried r) v = some d) : submit s r key v rule = d.s.reply d.status d.detail := by
  rw [submit_executes h hc, executeWrite_judged ht hj]

/-! ### Accepted -/

/-- Acceptance moves neither the pending commands nor more than entries, events and the staging. -/
def Rule.AcceptsQuietly (rule : Rule) : Prop :=
  ∀ s v, Outside [.cat, .gen, .mgmt, .upd] s (rule.onAccept s v)

theorem acceptsQuietly_default {b ch j p a ad} :
    Rule.AcceptsQuietly { base := b, check := ch, judge := j, pick := p, apply := a, adjust := ad } :=
  fun s _ => .refl _ s

theorem acceptsQuietly_takeRule (n : Nat) : (takeRule n).AcceptsQuietly := by
  intro s v p hp
  cases p <;> simp at hp <;> simp [takeRule]

theorem acceptsQuietly_releaseRule (n : Nat) : (releaseRule n).AcceptsQuietly := by
  intro s v p hp
  cases p <;> simp at hp <;> simp [releaseRule]

theorem acceptsQuietly_activateRule : activateRule.AcceptsQuietly := by
  intro s v p hp
  cases p <;> simp at hp <;> simp [activateRule]

theorem acceptsQuietly_of_writeOf {q : Req} (hw : writeOf c = some (q, key, v, rule)) : rule.AcceptsQuietly := by
  cases c
  all_goals simp only [writeOf, Option.some.injEq, Prod.mk.injEq, reduceCtorEq] at hw
  all_goals obtain ⟨rfl, rfl, rfl, rfl⟩ := hw
  case take => exact acceptsQuietly_takeRule _
  case release => exact acceptsQuietly_releaseRule _
  case activate => exact acceptsQuietly_activateRule
  all_goals exact acceptsQuietly_default

/-- What a write accepted for pick `n` answers and leaves. -/
theorem acceptAt_outside (hq : rule.AcceptsQuietly) :
    Outside [.cat, .gen, .ruling, .mgmt, .upd] s (acceptAt s r pos key v rule n).s := by
  have h : Outside [.ruling] s (acceptTimed s (timedCmd s r pos (rule.base s) n key v)) := by
    intro p hp
    cases p <;> simp at hp ⊢
  exact (h.mono (by decide)).andThen (hq _ v) (by decide)

theorem timed_acceptAt (hq : rule.AcceptsQuietly) :
    (acceptAt s r pos key v rule n).s.ruling.timed = s.ruling.timed ++ [timedCmd s r pos (rule.base s) n key v] := by
  have h := (hq (acceptTimed s (timedCmd s r pos (rule.base s) n key v)) v).ruling (by decide)
  exact congrArg Ruling.timed h

theorem executeWrite_picked (h : checkTiming s r pos key v rule = .ok none)
    (hj : rule.judge s r v = none) (hp : rule.pick s v = some n) :
    executeWrite s r pos key v rule =
      if admits s (timedCmd s r pos (rule.base s) n key v) then acceptAt s r pos key v rule n
      else { s := s, status := stBusy } := by
  simp [executeWrite, h, hj, hp]

/-- The answer and the effect of a write whose execution is an acceptance. -/
theorem does_accepted (hx : exec c s = .next (submit s r key v rule)) (hq : rule.AcceptsQuietly)
    (hm : serves s key = true) (hc : checkWrite s (carried r) key v rule = none)
    (he : executeWrite s (carried r) 0 key v rule = acceptAt s (carried r) 0 key v rule n) :
    Does c s fun u => u.cap.answer = { status := stAccepted, detail := n % 2 ^ 32 } ∧
      u.ruling.timed = s.ruling.timed ++ [timedCmd s (carried r) 0 (rule.base s) n key v] ∧
      Outside [.cat, .gen, .ruling, .cap, .mgmt, .upd] s u := by
  refine ⟨_, hx, ?_⟩
  rw [submit_executes hm hc, he]
  refine ⟨rfl, timed_acceptAt hq, ?_⟩
  exact ((acceptAt_outside hq).mono (by decide)).andThen (reply_outside _ _ _) (by decide)

/-- Settles O55: the answer is `NOT_READY`, the first failing check, the entry's own refusal or an acceptance, each read
off the order in which a write is examined; acceptance adds the command behind the pending ones. -/
theorem writesAreRefusedAcceptedOrApplied : Obligations.WritesAreRefusedAcceptedOrApplied := by
  unfold Obligations.WritesAreRefusedAcceptedOrApplied
  rintro c q r key v rule s hw rfl
  have hx := exec_write hw s
  have hq := acceptsQuietly_of_writeOf hw
  have refused : ∀ st d, submit s q key v rule = s.reply st d →
      Does c s fun u => u.cap.answer = { status := st, detail := d } ∧ Outside [.cap] s u := by
    intro st d h
    exact ⟨_, hx.trans (congrArg _ h), rfl, reply_outside _ _ _⟩
  refine ⟨?_, ?_, ?_, ?_, ?_, ?_, ?_⟩
  · intro h
    exact refused _ _ (submit_notServing h)
  · intro e h hc
    exact refused _ _ (submit_check h hc)
  · intro e h hc ht
    exact refused _ _ (submit_untimely h hc ht)
  · intro p d h hc ht hj
    refine ⟨_, hx.trans (congrArg _ (submit_judged h hc ht hj)), rfl, ?_⟩
    intro hd
    rw [hd]
    exact reply_outside _ _ _
  · rintro n ⟨hm, hc, hj⟩ ht
    exact does_accepted hx hq hm hc (executeWrite_timed ht hj)
  · rintro n ⟨hm, hc, hj⟩ ht hp ha
    refine does_accepted hx hq hm hc ?_
    rw [executeWrite_picked ht hj hp, if_pos ha]
  · rintro n ⟨hm, hc, hj⟩ ht hp ha
    refine refused _ _ ?_
    rw [submit_executes hm hc, executeWrite_picked ht hj hp, if_neg (by simp [ha])]

end Sys2Proof.Machine
end

section
/-! What a write that is applied at once leaves (R56, R59), and the writes of ruling entries (obligation O9). -/

namespace Sys2Proof.Machine

variable {s t u : State} {r : Req} {key n pos : Nat} {v : Val} {rule : Rule} {c : Instr}

/-! ### Writes applied at once -/

/-- `u` is `t` with the answer OK to a write, and with a settings list that the write may have shortened. -/
structure Applied (t u : State) : Prop where
  ok : Ok u
  outside : Outside [.cap, .upd] t u
  cap : u.cap = { t.cap with answer := { status := stOk } }
  upd : ∃ l, u.upd = { t.upd with defaultsNext := l }
  val : ∀ k, u.val k = t.val k

theorem applied_submit (hw : AtOnce s r key v rule) (ha : rule.apply s false (carried r) v = { s := t }) :
    Applied t (submit s r key v rule) := by
  obtain ⟨hok, hout⟩ := submit_applied hw ha
  have hw' := submit_atOnce hw
  rw [applyWrite_status, applyWrite_detail, ha] at hw'
  refine ⟨hok, hout, ?_, ?_, ?_⟩
  · rw [hw']
    unfold applyWrite
    rw [ha]
    dsimp only
    split <;> rfl
  · rw [hw']
    unfold applyWrite
    rw [ha]
    dsimp only
    split
    · exact ⟨_, rfl⟩
    · exact ⟨_, rfl⟩
  · intro k
    rw [hw']
    unfold applyWrite
    rw [ha]
    dsimp only
    split <;> rfl

/-- A write command whose entry takes it at once. -/
theorem does_write {P : State → Prop} (hc : writeOf c = some (r, key, v, rule)) (hw : AtOnce s r key v rule)
    (ha : rule.apply s false (carried r) v = { s := t }) (h : ∀ u, Applied t u → P u) : Does c s P :=
  ⟨_, exec_write hc s, h _ (applied_submit hw ha)⟩

theorem Applied.cat (h : Applied t u) : u.cat = t.cat := h.outside.cat (by decide)
theorem Applied.ruling (h : Applied t u) : u.ruling = t.ruling := h.outside.ruling (by decide)
theorem Applied.mgmt (h : Applied t u) : u.mgmt = t.mgmt := h.outside.mgmt (by decide)
theorem Applied.now (h : Applied t u) : u.now = t.now := h.outside.now (by decide)
theorem Applied.tim (h : Applied t u) : u.tim = t.tim := h.outside.tim (by decide)

theorem Applied.num (h : Applied t u) (i a : Nat) : u.num i a = t.num i a :=
  congrArg valNum (h.val _)

theorem Applied.oct (h : Applied t u) (i a : Nat) : u.oct i a = t.oct i a :=
  congrArg valBytes (h.val _)

theorem Applied.raised (h : Applied t u) (hr : Raised s t n) : Raised s u n :=
  (h.num ..).trans hr

/-! ### The ruling time base -/

theorem selectRuling_next (s : State) : selectRuling s s.rulingNext = s := if_pos rfl

theorem selectRuling_eq {m : Nat} (hm : m ≠ s.rulingNext) :
    selectRuling s m =
      if s.rulingArmed then { s.bump (ent 0x030000 1) with
        ruling := { s.ruling with newRuling := if m ≠ s.rulingTb ∧ s.rulingArmed then some m else none } }
      else ({ s.bump (ent 0x030000 1) with
        ruling := { s.ruling with newRuling := if m ≠ s.rulingTb ∧ s.rulingArmed then some m else none } } : State).put 0x030000 1 m :=
  if_neg hm

theorem selectRuling_unarmed {m : Nat} (hm : m ≠ s.rulingNext) (ha : s.rulingArmed = false) :
    (selectRuling s m).rulingTb = m ∧ (selectRuling s m).ruling.newRuling = none := by
  rw [selectRuling_eq hm, ha]
  exact ⟨num_put_self .., if_neg (by simp)⟩

theorem selectRuling_armed {m : Nat} (hm : m ≠ s.rulingNext) (ha : s.rulingArmed = true) :
    (selectRuling s m).rulingTb = s.rulingTb ∧
    (selectRuling s m).ruling.newRuling = if m = s.rulingTb then none else some m := by
  rw [selectRuling_eq hm, ha]
  refine ⟨rfl, ?_⟩
  by_cases h : m = s.rulingTb <;> simp [h]

/-! ### Entries written -/

theorem val_write_self (s : State) (k : Nat) (x : Val) : (s.write k x).val k = x := by
  unfold State.write
  split
  · assumption
  · simp [State.val]

theorem num_write_self (s : State) (i a n : Nat) : (s.write (ent i a) (.num n)).num i a = n :=
  congrArg valNum (val_write_self ..)

theorem val_write_ne (s : State) {i a j b : Nat} (x : Val) (ha : a < 256) (hb : b < 256) (h : Apart i a j b) :
    (s.write (ent i a) x).val (ent j b) = s.val (ent j b) := by
  unfold State.write
  split
  · rfl
  · exact val_congr_apart ha hb h rfl rfl rfl rfl

/-- Settles O9. -/
theorem rulingSelectionAndWindowLength : Obligations.RulingSelectionAndWindowLength := by
  unfold Obligations.RulingSelectionAndWindowLength
  constructor
  · intro s r v hw
    refine does_write rfl hw rfl fun u hu => ⟨hu.ok, ?_, ?_, ?_⟩
    · rintro rfl
      rw [hu.ruling, hu.cat]
      exact ⟨congrArg _ (selectRuling_next s), congrArg _ (selectRuling_next s)⟩
    · intro hv ha
      rw [State.rulingTb, hu.num, hu.ruling]
      exact selectRuling_unarmed hv ha
    · intro hv ha
      rw [State.rulingTb, hu.num, hu.ruling]
      exact selectRuling_armed hv ha
  · intro s r v hw
    refine does_write rfl hw rfl fun u hu => ⟨hu.ok, ?_⟩
    rw [hu.num]
    exact num_write_self ..

end Sys2Proof.Machine
end

section
/-! What an entry reads, and what is left alone, after an operation on another part of the state. -/

namespace Sys2Proof.Machine

variable {s t u : State} {i a n : Nat}

/-! ### Other parts hold no entries -/

@[simp] theorem num_with_now (s : State) (x : Nat) (i a : Nat) : ({ s with now := x } : State).num i a = s.num i a := rfl
@[simp] theorem oct_with_now (s : State) (x : Nat) (i a : Nat) : ({ s with now := x } : State).oct i a = s.oct i a := rfl
@[simp] theorem num_with_ruling (s : State) (x : Ruling) (i a : Nat) :
    ({ s with ruling := x } : State).num i a = s.num i a := rfl
@[simp] theorem oct_with_ruling (s : State) (x : Ruling) (i a : Nat) :
    ({ s with ruling := x } : State).oct i a = s.oct i a := rfl
@[simp] theorem num_with_cap (s : State) (x : Cap) (i a : Nat) : ({ s with cap := x } : State).num i a = s.num i a := rfl
@[simp] theorem oct_with_cap (s : State) (x : Cap) (i a : Nat) : ({ s with cap := x } : State).oct i a = s.oct i a := rfl
@[simp] theorem num_with_mgmt (s : State) (x : Mgmt) (i a : Nat) : ({ s with mgmt := x } : State).num i a = s.num i a := rfl
@[simp] theorem oct_with_mgmt (s : State) (x : Mgmt) (i a : Nat) : ({ s with mgmt := x } : State).oct i a = s.oct i a := rfl
@[simp] theorem num_with_seams (s : State) (x : Seams) (i a : Nat) : ({ s with seams := x } : State).num i a = s.num i a := rfl
@[simp] theorem oct_with_seams (s : State) (x : Seams) (i a : Nat) : ({ s with seams := x } : State).oct i a = s.oct i a := rfl
@[simp] theorem num_with_fab (s : State) (x : Fabric) (i a : Nat) : ({ s with fab := x } : State).num i a = s.num i a := rfl
@[simp] theorem oct_with_fab (s : State) (x : Fabric) (i a : Nat) : ({ s with fab := x } : State).oct i a = s.oct i a := rfl
@[simp] theorem num_with_clk (s : State) (x : Clocks) (i a : Nat) : ({ s with clk := x } : State).num i a = s.num i a := rfl
@[simp] theorem oct_with_clk (s : State) (x : Clocks) (i a : Nat) : ({ s with clk := x } : State).oct i a = s.oct i a := rfl
@[simp] theorem num_with_tim (s : State) (x : Times) (i a : Nat) : ({ s with tim := x } : State).num i a = s.num i a := rfl
@[simp] theorem oct_with_tim (s : State) (x : Times) (i a : Nat) : ({ s with tim := x } : State).oct i a = s.oct i a := rfl
@[simp] theorem num_with_lan (s : State) (x : Lanes) (i a : Nat) : ({ s with lan := x } : State).num i a = s.num i a := rfl
@[simp] theorem oct_with_lan (s : State) (x : Lanes) (i a : Nat) : ({ s with lan := x } : State).oct i a = s.oct i a := rfl
@[simp] theorem num_with_rx (s : State) (x : Rx) (i a : Nat) : ({ s with rx := x } : State).num i a = s.num i a := rfl
@[simp] theorem oct_with_rx (s : State) (x : Rx) (i a : Nat) : ({ s with rx := x } : State).oct i a = s.oct i a := rfl
@[simp] theorem num_with_tx (s : State) (x : Tx) (i a : Nat) : ({ s with tx := x } : State).num i a = s.num i a := rfl
@[simp] theorem oct_with_tx (s : State) (x : Tx) (i a : Nat) : ({ s with tx := x } : State).oct i a = s.oct i a := rfl
@[simp] theorem num_with_shu (s : State) (x : Shuttles) (i a : Nat) : ({ s with shu := x } : State).num i a = s.num i a := rfl
@[simp] theorem oct_with_shu (s : State) (x : Shuttles) (i a : Nat) : ({ s with shu := x } : State).oct i a = s.oct i a := rfl
@[simp] theorem num_with_noc (s : State) (x : Noc) (i a : Nat) : ({ s with noc := x } : State).num i a = s.num i a := rfl
@[simp] theorem oct_with_noc (s : State) (x : Noc) (i a : Nat) : ({ s with noc := x } : State).oct i a = s.oct i a := rfl
@[simp] theorem num_with_mem (s : State) (x : Mem) (i a : Nat) : ({ s with mem := x } : State).num i a = s.num i a := rfl
@[simp] theorem oct_with_mem (s : State) (x : Mem) (i a : Nat) : ({ s with mem := x } : State).oct i a = s.oct i a := rfl
@[simp] theorem num_with_itg (s : State) (x : Integ) (i a : Nat) : ({ s with itg := x } : State).num i a = s.num i a := rfl
@[simp] theorem oct_with_itg (s : State) (x : Integ) (i a : Nat) : ({ s with itg := x } : State).oct i a = s.oct i a := rfl
@[simp] theorem num_with_upd (s : State) (x : Update) (i a : Nat) : ({ s with upd := x } : State).num i a = s.num i a := rfl
@[simp] theorem oct_with_upd (s : State) (x : Update) (i a : Nat) : ({ s with upd := x } : State).oct i a = s.oct i a := rfl

@[simp] theorem num_waitUntil (s : State) (n i a : Nat) : (s.waitUntil n).num i a = s.num i a := rfl
@[simp] theorem oct_waitUntil (s : State) (n i a : Nat) : (s.waitUntil n).oct i a = s.oct i a := rfl
@[simp] theorem flag_waitUntil (s : State) (n i a : Nat) : (s.waitUntil n).flag i a = s.flag i a := rfl
@[simp] theorem now_waitUntil_max (s : State) (n : Nat) : (s.waitUntil n).now = max s.now n := now_waitUntil s n

theorem num_write_of_apart {i a j b : Nat} {x : Val} (ha : a < 256) (hb : b < 256) (h : Apart i a j b) :
    (s.write (ent i a) x).num j b = s.num j b :=
  congrArg valNum (val_write_ne s x ha hb h)

/-! ### Frames -/

theorem outside_write (s : State) (k : Nat) (v : Val) : Outside [.cat, .gen] s (s.write k v) := by
  intro p hp
  cases p <;> simp at hp ⊢

theorem outside_waitUntil (s : State) (n : Nat) : Outside [.now, .tim] s (s.waitUntil n) := outside_pass s _

theorem outside_count (s : State) (i a w n : Nat) : Outside [.cat] s (s.count i a w n) := outside_put s _ _ _

theorem entriesOutside_count {rs : List (Nat × Nat)} (s : State) (i a w n : Nat) (ha : a < 256)
    (h : ∃ r ∈ rs, r.1 ≤ i ∧ i ≤ r.2) : EntriesOutside rs s (s.count i a w n) :=
  entriesOutside_put _ _ _ _ ha h

/-- An event raised by an operation that has not touched its count. -/
theorem raised_after {unit : Nat} {b : List Byte} (hn : n ≠ 0x040) (h : t.num (0x0E1000 + n) 7 = s.num (0x0E1000 + n) 7) :
    Raised s (t.raise n unit b) n := by
  rw [Raised, ← h]
  exact raised_raise t unit b hn

theorem raise_range {r : List (Nat × Nat)} (h : n < 4096) (unit : Nat) (b : List Byte) (hs : eventRanges ⊆ r) :
    EntriesOutside r s (s.raise n unit b) :=
  (entriesOutside_raise s n unit b h).mono hs

/-! ### Commands with a condition -/

/-- A command that does its work where its condition holds, and nothing else. -/
theorem does_if {c : Instr} {q : Prop} [Decidable q] {P : State → Prop} (hx : exec c s = .next (if q then t else u)) (hq : q)
    (h : P t) : Does c s P :=
  ⟨t, hx.trans (congrArg _ (if_pos hq)), h⟩

theorem does_else {c : Instr} {q : Prop} [Decidable q] {P : State → Prop} (hx : exec c s = .next (if q then t else u)) (hq : ¬q)
    (h : P u) : Does c s P :=
  ⟨u, hx.trans (congrArg _ (if_neg hq)), h⟩

end Sys2Proof.Machine
end

section
/-! User loop restores, gate requests and spread settings (R233, R239, R240; obligation O34). -/

namespace Sys2Proof.Machine

variable {s : State}

/-- Settles O34. -/
theorem loopsGatesAndSpreadAreCommanded : Obligations.LoopsGatesAndSpreadAreCommanded := by
  unfold Obligations.LoopsGatesAndSpreadAreCommanded
  refine ⟨?_, ?_, ?_, ?_, ?_⟩
  · intro s l h1 h3
    refine does_if rfl ⟨h1, h3⟩ ⟨?_, ?_, ?_⟩
    · exact now_waitUntil ..
    · simp [State.setUloop]
    · intro p hp
      cases p <;> simp at hp ⊢
  · intro s r l v hw
    by_cases h : v = 1 ∧ s.num (uloopIdx l) 1 = 4
    · refine does_write rfl hw (if_pos h) fun u hu => ⟨hu.ok, ?_, ?_⟩
      · rw [if_pos h, hu.outside.clk (by decide)]
        rfl
      · refine Outside.andThen (t := s.setUloop l fun x => { x with request := true }) ?_ hu.outside (by decide)
        intro p hp
        cases p <;> simp at hp ⊢
    · refine does_write rfl hw (if_neg h) fun u hu => ⟨hu.ok, ?_, hu.outside.mono (by decide)⟩
      rw [if_neg h, hu.outside.clk (by decide)]
  · intro s r n v hw
    have hi : ∃ r ∈ [(gateIdx n, gateIdx n)], r.1 ≤ gateIdx n ∧ gateIdx n ≤ r.2 := ⟨_, .head _, le_rfl, le_rfl⟩
    have hwr : (s.write (ent (gateIdx n) 1) (.num v)).num (gateIdx n) 2 = s.num (gateIdx n) 2 :=
      num_write_of_apart (by decide) (by decide) (by simp [Apart])
    have hwc : EntriesOutside [(gateIdx n, gateIdx n)] s (s.write (ent (gateIdx n) 1) (.num v)) :=
      entriesOutside_write s _ 1 _ (by decide) hi
    have hwo : Outside [.cat, .gen, .cap, .clk, .upd] s (s.write (ent (gateIdx n) 1) (.num v)) :=
      (outside_write _ _ _).mono (by decide)
    by_cases hv : v = 0
    · refine does_write rfl hw (if_pos hv) fun u hu => ⟨hu.ok, ?_, ?_, ?_, ?_, ?_, ?_⟩
      · rw [hu.num, num_put_of_apart (by decide) (by decide) (by simp) (by simp), num_write_self]
      · intro _
        rw [hu.num, hu.outside.clk (by decide), num_put_self]
        simp
      · exact absurd hv
      · exact absurd hv
      · exact (hwo.andThen (outside_put _ _ _ _) (by decide)).andThen hu.outside (by decide)
      · exact (hwc.trans (entriesOutside_put _ _ _ _ (by decide) hi)).trans (.of_cat hu.cat)
    · by_cases h2 : s.num (gateIdx n) 2 = 0
      · refine does_write rfl hw ((if_neg hv).trans (if_neg (by simp [hwr, h2]))) fun u hu =>
          ⟨hu.ok, ?_, ?_, ?_, ?_, ?_, ?_⟩
        · rw [hu.num, num_with_clk, num_put_of_apart (by decide) (by decide) (by simp) (by simp), num_write_self]
        · exact fun h => absurd h hv
        · intro _ _
          rw [hu.num, num_with_clk, num_put_self, hu.outside.clk (by decide)]
          simp
        · exact fun _ h => absurd h2 h
        · refine (hwo.trans (fun p hp => ?_)).andThen hu.outside (by decide)
          cases p <;> simp at hp ⊢
        · exact (hwc.trans (entriesOutside_put _ _ _ _ (by decide) hi)).trans (.of_cat hu.cat)
      · refine does_write rfl hw ((if_neg hv).trans (if_pos (by simp [hwr, h2]))) fun u hu =>
          ⟨hu.ok, ?_, ?_, ?_, ?_, ?_, ?_⟩
        · rw [hu.num, num_write_self]
        · exact fun h => absurd h hv
        · exact fun _ h => absurd h h2
        · intro _ _
          rw [hu.num, hwr, hu.outside.clk (by decide)]
          simp
        · exact hwo.andThen hu.outside (by decide)
        · exact hwc.trans (.of_cat hu.cat)
  · intro s n h
    have hi : ∃ r ∈ (gateIdx n, gateIdx n) :: eventRanges, r.1 ≤ gateIdx n ∧ gateIdx n ≤ r.2 := ⟨_, .head _, le_rfl, le_rfl⟩
    have hn : gateIdx n < 0x0E0000 := by simp [gateIdx]; omega
    refine does_if rfl h ⟨?_, ?_, ?_, ?_, ?_, ?_⟩
    · simp
    · rw [num_raise (by decide) _ _ (by decide) (.inl hn), num_count_of_apart (by decide) (by decide) (by simp) (by simp),
      num_put_self]
    · rw [num_raise (by decide) _ _ (by decide) (.inl hn), num_count_self,
      num_put_of_apart (by decide) (by decide) (by simp) (by simp), num_waitUntil]
    · refine raised_after (by decide) ?_
      rw [num_count_of_apart (by decide) (by decide) (by omega) (by omega),
        num_put_of_apart (by decide) (by decide) (by omega) (by omega), num_waitUntil]
    · intro p hp
      cases p <;> simp at hp ⊢
    · have hw : EntriesOutside ((gateIdx n, gateIdx n) :: eventRanges) s (s.waitUntil ((s.clk.gates.getD n {}).since + 4000)) :=
        .of_cat (by simp)
      refine (hw.trans (entriesOutside_put _ (gateIdx n) 2 0 (by decide) hi)).trans ?_
      refine (entriesOutside_count _ (gateIdx n) 3 32 1 (by decide) hi).trans (raise_range (by decide) _ _ (by simp))
  · intro s r target v hw
    have hk : spreadKey target % 256 < 256 := Nat.mod_lt _ (by decide)
    have hs : ent (spreadKey target / 256) (spreadKey target % 256) = spreadKey target := Nat.div_add_mod' _ _
    refine does_write rfl hw rfl fun u hu => ⟨hu.ok, ?_, ?_, ?_, ?_⟩
    · rw [hu.val]
      exact val_write_self ..
    · rw [hu.outside.clk (by decide)]
      simp [valNum]
    · refine Outside.andThen ?_ hu.outside (by decide)
      intro p hp
      cases p <;> simp at hp ⊢
    · refine EntriesOutside.trans ?_ (.of_cat hu.cat)
      have h : EntriesOutside [(spreadKey target / 256, spreadKey target / 256)] s (s.write (spreadKey target) (.num v)) := by
        rw [← hs]
        exact entriesOutside_write _ _ _ _ hk ⟨_, .head _, by simp [hs], by simp [hs]⟩
      exact h

end Sys2Proof.Machine
end

section
/-! Arming, disarming, pick settings and SNAP (R252 to R256; obligation O36). -/

namespace Sys2Proof.Machine

variable {s : State} {i a n t : Nat}

/-! ### Walks over flows, units and pins -/

/-- A walk none of whose steps changes what `g` reads. -/
theorem foldl_keeps {α β : Type} (g : State → β) {f : State → α → State} {l : List α} (h : ∀ s, ∀ x ∈ l, g (f s x) = g s)
    (s : State) :
    g (l.foldl f s) = g s := by
  induction l generalizing s with
  | nil => rfl
  | cons x xs ih => exact (ih (fun s y hy => h s y (.tail _ hy)) _).trans (h s x (.head _))

theorem tb_aimTrig (s : State) (u time k : Nat) : (aimTrig s u time).tb k = s.tb k := by
  unfold aimTrig
  split <;> rfl

theorem tb_aimUnitsOf (s : State) (t k : Nat) : (aimUnitsOf s t).tb k = s.tb k :=
  foldl_keeps (·.tb k) (fun s u _ => by split; exacts [tb_aimTrig .., rfl]) s

theorem tb_servoState (s : State) (t st k : Nat) : (servoState s t st).tb k = s.tb k := by
  unfold servoState
  split
  · rfl
  · simp [State.tb, State.setServo]

@[simp] theorem num_setRx (s : State) (n : Nat) (f : RxFlow → RxFlow) (i a : Nat) : (s.setRx n f).num i a = s.num i a := by
  unfold State.setRx
  split <;> rfl

@[simp] theorem num_setTx (s : State) (n : Nat) (f : TxFlow → TxFlow) (i a : Nat) : (s.setTx n f).num i a = s.num i a := by
  unfold State.setTx
  split <;> rfl

section
variable (hi : i < 0x060000) (ha : a < 256)
include hi ha

theorem num_quietTx (s : State) (n : Nat) : (quietTx s n).num i a = s.num i a := by
  unfold quietTx putTxState
  extract_lets x
  split
  · exact num_put_ne _ _ _ _ _ _ (by decide) ha (by simp only [txIdx]; omega)
  · rfl

theorem num_rxChanged (s : State) (n : Nat) : (rxChanged s n).num i a = s.num i a :=
  foldl_keeps (·.num i a) (fun s x _ => by split; exacts [num_quietTx hi ha .., rfl]) s

theorem num_txArm (s : State) (t : Nat) : (txArm s t).num i a = s.num i a := by
  refine foldl_keeps (·.num i a) (fun s x _ => ?_) s
  split
  · rfl
  · rw [num_quietTx hi ha]
    exact num_congr_of_cat (by simp) (by simp) (by simp) (by simp) i a ha

theorem num_txDisarm (s : State) (t : Nat) : (txDisarm s t).num i a = s.num i a := by
  refine foldl_keeps (·.num i a) (fun s x _ => ?_) s
  split
  · rfl
  · dsimp only
    split
    · rw [num_raise (by decide) i a ha (by omega)]
      refine (num_put_ne _ (txIdx x.1) 2 _ _ _ (by decide) ha (by simp only [txIdx]; omega)).trans ?_
      exact num_setTx ..
    · exact num_setTx ..

theorem num_sendEnd (s : State) (n c : Nat) : (sendEnd s n c).num i a = s.num i a := by
  unfold sendEnd sendWords
  dsimp only
  split
  · split
    · rfl
    · dsimp only
      rw [num_raiseAtMost (by decide) i a ha (by omega)]
      exact num_put_ne _ _ _ _ _ _ (by decide) ha (by simp only [essIdx]; omega)
  · rfl

theorem num_dropBuffer (s : State) (n : Nat) : (dropBuffer s n).num i a = s.num i a := by
  unfold dropBuffer
  extract_lets e k u
  have hu : u.num i a = s.num i a := by
    unfold u setStaging
    split
    · rfl
    · exact num_put_ne _ _ _ _ _ _ (by decide) ha (by simp only [engIdx]; omega)
  exact (num_setRx ..).trans hu

theorem num_forgetLegs (s : State) (n : Nat) : (forgetLegs s n).num i a = s.num i a := by
  have h : rxIdx n ≠ i := by simp only [rxIdx]; omega
  refine (num_setRx ..).trans ((num_put_ne _ (rxIdx n) 0x23 0 _ _ (by decide) ha h).trans ?_)
  exact num_put_ne _ _ _ _ _ _ (by decide) ha h

theorem num_rxDisarm (s : State) (t : Nat) : (rxDisarm s t).num i a = s.num i a := by
  refine foldl_keeps (·.num i a) (fun s x _ => ?_) s
  dsimp only
  split
  · rfl
  · split
    · exact num_forgetLegs hi ha ..
    · rw [num_raise (by decide) i a ha (by omega), putRxState, num_rxChanged hi ha,
        num_put_ne _ _ _ _ _ _ (by decide) ha (by simp only [rxIdx]; omega), num_dropBuffer hi ha, num_sendEnd hi ha,
        num_forgetLegs hi ha]

theorem num_dropBindings (s : State) (t : Nat) : (dropBindings s t).num i a = s.num i a := by
  refine foldl_keeps (·.num i a) (fun s x _ => ?_) s
  split
  · rw [num_raise (by decide) i a ha (by omega)]
    exact num_put_ne _ _ _ _ _ _ (by decide) ha (by simp only [shBindIdx]; omega)
  · rfl

theorem num_settlePin (s : State) (p : Nat) : (settlePin s p).num i a = s.num i a := by
  unfold settlePin
  split
  · rfl
  · extract_lets v u g b w
    rw [num_raise (by decide) i a ha (by omega)]
    exact num_put_ne _ _ _ _ _ _ (by decide) ha (by simp only [pinIdx]; omega)

theorem num_closePins (s : State) : (closePins s).num i a = s.num i a := by
  unfold closePins
  split
  · rfl
  · exact foldl_keeps (·.num i a) (fun s p _ => num_settlePin hi ha s p) _

theorem num_endWindow (s : State) : (endWindow s).num i a = s.num i a := by
  unfold endWindow
  split
  · exact num_closePins hi ha _
  · rfl

theorem num_servoState (s : State) (t st : Nat) (h : servoIdx t ≠ i) : (servoState s t st).num i a = s.num i a := by
  unfold servoState
  split
  · rfl
  · rw [num_raise (by decide) i a ha (by omega)]
    exact num_put_ne _ _ _ _ _ _ (by decide) ha h

end
/-! ### Arming and disarming -/

theorem tb_congr {t : State} (h : t.tim = s.tim) (k : Nat) : t.tb k = s.tb k := by
  rw [State.tb, h]
  rfl

@[simp] theorem tb_raise (s : State) (n unit : Nat) (b : List Byte) (k : Nat) : (s.raise n unit b).tb k = s.tb k :=
  tb_congr (by simp) k

theorem tb_txArm (s : State) (t k : Nat) : (txArm s t).tb k = s.tb k := tb_congr (by simp) k
theorem tb_rxDisarm (s : State) (t k : Nat) : (rxDisarm s t).tb k = s.tb k := tb_congr (by simp) k
theorem tb_txDisarm (s : State) (t k : Nat) : (txDisarm s t).tb k = s.tb k := tb_congr (by simp) k
theorem tb_dropBindings (s : State) (t k : Nat) : (dropBindings s t).tb k = s.tb k := tb_congr (by simp) k
theorem tb_endWindow (s : State) (k : Nat) : (endWindow s).tb k = s.tb k := tb_congr (by simp) k

theorem num_aimUnitsOf (s : State) (t i a : Nat) (ha : a < 256) : (aimUnitsOf s t).num i a = s.num i a :=
  num_congr_of_cat (by simp) (by simp) (by simp) (by simp) i a ha

/-- A time base as arming leaves it. -/
def armed (s : State) (t : Nat) (b : TimeBase) : TimeBase :=
  { b with
    armed := true, cur := heldSettings s t, want := none, opened := false, beat := 0
    first := (heldSettings s t).pickAfter (((s.tb t).setPend.map fun ns => ns * nsUnit).getD (s.tb t).time)
    high := (heldSettings s t).pickAfter (((s.tb t).setPend.map fun ns => ns * nsUnit).getD (s.tb t).time) }

/-- A time base as disarming leaves it. -/
def disarmed (b : TimeBase) : TimeBase :=
  { b with armed := false, opened := false, cur := b.want.getD b.cur, want := none }

theorem tb_armBase (s : State) (t k : Nat) : (armBase s t).tb k = (s.setTb t (armed s t)).tb k := by
  unfold armBase
  extract_lets p n u v w
  have hw : w.tb k = (s.setTb t (armed s t)).tb k := by
    refine (tb_aimUnitsOf ..).trans ((tb_txArm ..).trans ?_)
    exact tb_raise ..
  split
  · exact (tb_servoState ..).trans hw
  · exact hw

theorem num_armBase (s : State) (ht : t < 8) : (armBase s t).num (tbIdx t) 1 = 1 := by
  have hi : tbIdx t < 0x060000 := by simp only [tbIdx]; omega
  unfold armBase
  extract_lets p n u v w
  have hw : w.num (tbIdx t) 1 = 1 := by
    refine (num_aimUnitsOf _ _ _ _ (by decide)).trans ((num_txArm hi (by decide) ..).trans ?_)
    refine (num_raise (by decide) _ _ (by decide) (by omega)).trans ?_
    exact num_put_self ..
  split
  · rw [num_servoState hi (by decide) _ _ _ (by simp only [tbIdx, servoIdx]; omega), hw]
  · exact hw

theorem tb_disarmBase (s : State) (t k : Nat) : (disarmBase s t).tb k = (s.setTb t disarmed).tb k := by
  unfold disarmBase
  extract_lets u v w x src y
  have hx : x.tb k = (s.setTb t disarmed).tb k := by
    have hw : w.tb k = (s.setTb t disarmed).tb k :=
      (tb_txDisarm ..).trans ((tb_rxDisarm ..).trans (tb_raise ..))
    have hx : x.tb k = w.tb k := by
      unfold x
      split
      · exact tb_servoState ..
      · rfl
    exact hx.trans hw
  clear_value x
  split
  · exact (tb_raise ..).trans ((tb_endWindow y k).trans hx)
  · exact hx

theorem num_disarmBase (s : State) (ht : t < 8) : (disarmBase s t).num (tbIdx t) 1 = 0 := by
  have hi : tbIdx t < 0x060000 := by simp only [tbIdx]; omega
  unfold disarmBase
  extract_lets u v w x src y
  have hx : x.num (tbIdx t) 1 = 0 := by
    have hw : w.num (tbIdx t) 1 = 0 := by
      refine (num_txDisarm hi (by decide) ..).trans ((num_rxDisarm hi (by decide) ..).trans ?_)
      refine (num_raise (by decide) _ _ (by decide) (by omega)).trans ?_
      exact num_put_self ..
    have hx : x.num (tbIdx t) 1 = w.num (tbIdx t) 1 := by
      unfold x
      split
      · exact num_servoState hi (by decide) _ _ _ (by simp only [tbIdx, servoIdx]; omega)
      · rfl
    exact hx.trans hw
  clear_value x
  split
  · refine (num_raise (by decide) _ _ (by decide) (by omega)).trans ?_
    exact (num_endWindow hi (by decide) y).trans hx
  · exact hx

theorem bridge_disarmBase (s : State) (h : t = s.rulingTb) (ht : t < 8) : (disarmBase s t).ruling.bridge = false := by
  have hi : (0x030000 : Nat) < 0x060000 := by decide
  unfold disarmBase
  extract_lets u v w x src y
  have hx : x.rulingTb = s.rulingTb := by
    have hw : w.rulingTb = s.rulingTb := by
      refine (num_txDisarm hi (by decide) ..).trans ((num_rxDisarm hi (by decide) ..).trans ?_)
      refine (num_raise (by decide) _ _ (by decide) (by omega)).trans ?_
      exact num_put_ne _ _ _ _ _ _ (by decide) (by decide) (by simp only [tbIdx]; omega)
    have hx : x.rulingTb = w.rulingTb := by
      unfold x
      split
      · exact num_servoState hi (by decide) _ _ _ (by simp only [servoIdx]; omega)
      · rfl
    exact hx.trans hw
  clear_value x
  have hy : t = y.rulingTb := h.trans hx.symm
  rw [if_pos hy]
  simp

/-! ### Pick settings -/

theorem heldSettings_congr {u : State} (h : ∀ a, a < 5 → u.num (0x030180 + t) a = s.num (0x030180 + t) a) :
    heldSettings u t = heldSettings s t := by
  simp only [heldSettings, State.flag, h 1 (by decide), h 2 (by decide), h 3 (by decide), h 4 (by decide)]

theorem heldSettings_holdSettings (s : State) (ht : t < 8) (p : PickSet) : heldSettings (holdSettings s t p) t = p := by
  have h : ∀ {u : State} {a b : Nat} {x : Val}, a < 5 → b < 5 → a ≠ b →
      (u.write (ent (0x030180 + t) a) x).num (0x030180 + t) b = u.num (0x030180 + t) b := fun {u a b x} ha hb hab =>
    num_write_of_apart (by omega) (by omega) ⟨.inr hab, .inr (.inr (.inr ⟨by omega, by omega⟩))⟩
  have h1 : (holdSettings s t p).num (0x030180 + t) 1 = p.num := by
    rw [holdSettings, h (by decide) (by decide) (by decide), h (by decide) (by decide) (by decide),
      h (by decide) (by decide) (by decide), num_write_self]
  have h2 : (holdSettings s t p).num (0x030180 + t) 2 = p.den := by
    rw [holdSettings, h (by decide) (by decide) (by decide), h (by decide) (by decide) (by decide), num_write_self]
  have h3 : (holdSettings s t p).num (0x030180 + t) 3 = if p.inter then 1 else 0 := by
    rw [holdSettings, h (by decide) (by decide) (by decide), num_write_self]
  have h4 : (holdSettings s t p).num (0x030180 + t) 4 = p.beats := by
    rw [holdSettings, num_write_self]
  rw [heldSettings, State.flag, h1, h2, h3, h4]
  cases p with | mk num den inter beats => cases inter <;> rfl

theorem tb_holdSettings (s : State) (t k : Nat) (p : PickSet) : (holdSettings s t p).tb k = s.tb k := tb_congr (by simp) k

/-- A time base as a write of its pick settings leaves it. -/
def resettled (p : PickSet) (b : TimeBase) : TimeBase :=
  if !b.armed then { b with cur := p, want := none }
  else if p = b.cur then { b with want := none } else { b with want := some p }

theorem armed_resettled (p : PickSet) (b : TimeBase) : (resettled p b).armed = b.armed := by
  unfold resettled
  split
  · rfl
  · split <;> rfl

theorem time_resettled (p : PickSet) (b : TimeBase) : (resettled p b).time = b.time := by
  unfold resettled
  split
  · rfl
  · split <;> rfl

theorem changeSettings_eq (s : State) (t : Nat) (p : PickSet) :
    changeSettings s t p = (holdSettings s t p).setTb t (resettled p) := rfl

theorem tb_followSettings (s : State) (t k : Nat) : (followSettings s t).tb k = s.tb k :=
  (tb_dropBindings ..).trans (tb_aimUnitsOf s t k)

theorem num_followSettings (s : State) (t i a : Nat) (hi : i < 0x060000) (ha : a < 256) :
    (followSettings s t).num i a = s.num i a :=
  (num_dropBindings hi ha ..).trans (num_aimUnitsOf _ _ _ _ ha)

/-! ### SNAP -/

/-- SNAP's latch of the count of one time base. -/
def latchCount (s : State) (t : Nat) : State := s.put 0x030001 (2 + t) (s.tb t).ns

theorem num_foldl_latchCount {l : List Nat} (hl : ∀ t ∈ l, t < 8) (s : State) {j : Nat} (hj : j < 8) :
    (l.foldl latchCount s).num 0x030001 (2 + j) = if j ∈ l then (s.tb j).ns else s.num 0x030001 (2 + j) := by
  induction l generalizing s with
  | nil => rfl
  | cons t ts ih =>
    have htb : ((latchCount s t).tb j).ns = (s.tb j).ns := rfl
    have hnum : (latchCount s t).num 0x030001 (2 + j) = if j = t then (s.tb j).ns else s.num 0x030001 (2 + j) := by
      split
      case isTrue h => rw [h]; exact num_put_self ..
      case isFalse h =>
        have := hl t (.head _)
        exact num_put_of_apart (by omega) (by omega) (.inr (by omega)) (by omega)
    rw [List.foldl_cons, ih (fun x hx => hl x (.tail _ hx)), htb, hnum]
    by_cases h : j ∈ ts <;> simp [h]

theorem outside_latchCounts (s : State) (l : List Nat) : Outside [.cat] s (l.foldl latchCount s) :=
  .foldl _ _ _ fun s _ => outside_put s _ _ _

theorem entriesOutside_latchCounts {l : List Nat} (hl : ∀ t ∈ l, t < 8) (s : State) :
    EntriesOutside [(0x030001, 0x030001)] s (l.foldl latchCount s) := by
  induction l generalizing s with
  | nil => exact .refl _ _
  | cons t ts ih =>
    have := hl t (.head _)
    exact (entriesOutside_put s _ _ _ (by omega) ⟨_, .head _, by decide,
      by decide⟩).trans (ih (fun x hx => hl x (.tail _ hx)) _)

/-! ### The commands -/

theorem armRule_arm_armed (s : State) (b : Bool) (r : Req) (ha : (s.tb t).armed = true) :
    (armRule t).apply s b r (.num 1) = { s := s } := by
  simp [armRule, valNum, ha]

theorem armRule_arm (s : State) (b : Bool) (r : Req) (ha : ¬(s.tb t).armed = true) :
    (armRule t).apply s b r (.num 1) = { s := armBase s t } := by
  simp [armRule, valNum, ha]

theorem armRule_disarm (s : State) (b : Bool) (r : Req) (ha : (s.tb t).armed = true) :
    (armRule t).apply s b r (.num 0) = { s := disarmBase s t } := by
  simp [armRule, valNum, ha]

theorem armRule_disarm_unarmed (s : State) (b : Bool) (r : Req) (ha : ¬(s.tb t).armed = true) :
    (armRule t).apply s b r (.num 0) = { s := s } := by
  simp [armRule, valNum, ha]

theorem pickGenRule_apply (s : State) (b : Bool) (r : Req) (sub : Nat) (v : Val) :
    (pickGenRule t sub).apply s b r v =
      { s := if ((changeSettings s t (newSettings s t sub v)).tb t).armed then changeSettings s t (newSettings s t sub v)
             else followSettings (changeSettings s t (newSettings s t sub v)) t } := rfl

/-- Settles O36: arming and disarming read back through everything they start and stop. -/
theorem timeBasesArmAndCountPicks : Obligations.TimeBasesArmAndCountPicks := by
  unfold Obligations.TimeBasesArmAndCountPicks
  refine ⟨?arm, ?disarm, ?settings, ?snap⟩
  case arm =>
    intro s r t hw hl
    have ht := t.isLt
    by_cases ha : (s.tb t).armed = true
    · refine does_write rfl hw (armRule_arm_armed s _ _ ha) fun u hu => ⟨hu.ok, ?_, ?_, ?_, hu.now⟩
      · exact fun _ => ⟨hu.tim, hu.mgmt⟩
      · rw [ha]
        exact fun h => absurd h (by decide)
      · exact fun i _ => tb_congr hu.tim i
    · refine does_write rfl hw (armRule_arm s _ _ ha) fun u hu => ⟨hu.ok, ?_, ?_, ?_, ?_⟩
      · exact fun h => absurd h ha
      · intro _
        rw [hu.num, tb_congr hu.tim, tb_armBase, tb_setTb_self s t _ hl]
        exact ⟨rfl, num_armBase s ht, rfl, rfl, rfl, rfl, fun h => by simp [armed, h]⟩
      · intro i hi
        rw [tb_congr hu.tim, tb_armBase, tb_setTb_ne s t i _ (Ne.symm hi)]
      · rw [hu.now]
        simp
  case disarm =>
    intro s r t hw hl
    have ht := t.isLt
    by_cases ha : (s.tb t).armed = true
    · refine does_write rfl hw (armRule_disarm s _ _ ha) fun u hu => ⟨hu.ok, ?_, ?_, ?_, ?_, ?_⟩
      · rw [tb_congr hu.tim, tb_disarmBase, tb_setTb_self s t _ hl]
        rfl
      · rw [tb_congr hu.tim, tb_disarmBase, tb_setTb_self s t _ hl]
        rfl
      · intro _
        rw [hu.num, hu.ruling, tb_congr hu.tim, tb_disarmBase, tb_setTb_self s t _ hl]
        exact ⟨num_disarmBase s ht, rfl, rfl, fun h => bridge_disarmBase s h ht⟩
      · intro i hi
        rw [tb_congr hu.tim, tb_disarmBase, tb_setTb_ne s t i _ (Ne.symm hi)]
      · rw [hu.now]
        simp
    · refine does_write rfl hw (armRule_disarm_unarmed s _ _ ha) fun u hu => ⟨hu.ok, ?_, ?_, ?_, ?_, hu.now⟩
      · rw [tb_congr hu.tim]
        simpa using ha
      · rw [tb_congr hu.tim]
      · exact fun h => absurd h ha
      · exact fun i _ => tb_congr hu.tim i
  case settings =>
    intro s r t sub bytes hw hl
    have ht := t.isLt
    generalize hp : newSettings s t sub (valueOf (ent (genIdx t) sub) bytes) = p
    have hch : heldSettings (changeSettings s t p) t = p :=
      (heldSettings_congr fun a _ => num_setTb ..).trans (heldSettings_holdSettings s ht p)
    have htb : (changeSettings s t p).tb t = resettled p (s.tb t) := by
      rw [changeSettings_eq, tb_setTb_self _ _ _ (by simpa using hl), tb_holdSettings]
    have hne : ∀ i, i ≠ t.val → (changeSettings s t p).tb i = s.tb i := fun i hi => by
      rw [changeSettings_eq, tb_setTb_ne _ _ _ _ (Ne.symm hi), tb_holdSettings]
    by_cases ha : (s.tb t).armed = true
    · have he : (pickGenRule t sub).apply s false (carried r) (valueOf (ent (genIdx t) sub) bytes) = { s := changeSettings s t p } := by
        rw [pickGenRule_apply, hp, htb, armed_resettled, if_pos ha]
      refine does_write rfl hw he fun u hu => ⟨hu.ok, ?_, ?_, ?_, ?_, ?_, ?_⟩
      · rw [heldSettings_congr fun a _ => hu.num .., hch]
      · exact fun h => absurd ha (by simp [h])
      · intro _
        rw [tb_congr hu.tim, htb, resettled, ha]
        by_cases hc : p = (s.tb t).cur <;> simp [hc]
      · rw [tb_congr hu.tim, htb, time_resettled]
      · intro i hi
        rw [tb_congr hu.tim, hne i hi]
      · refine Outside.andThen ?_ hu.outside (by decide)
        intro q hq
        cases q <;> simp at hq ⊢
    · have he : (pickGenRule t sub).apply s false (carried r) (valueOf (ent (genIdx t) sub) bytes) =
          { s := followSettings (changeSettings s t p) t } := by
        rw [pickGenRule_apply, hp, htb, armed_resettled, if_neg ha]
      refine does_write rfl hw he fun u hu => ⟨hu.ok, ?_, ?_, ?_, ?_, ?_, ?_⟩
      · rw [heldSettings_congr fun a _ => hu.num ..]
        exact (heldSettings_congr fun a h => num_followSettings _ _ _ _ (by omega) (by omega)).trans hch
      · intro _
        rw [tb_congr hu.tim, tb_followSettings, htb, resettled]
        simp [ha]
      · exact fun h => absurd h ha
      · rw [tb_congr hu.tim, tb_followSettings, htb, time_resettled]
      · intro i hi
        rw [tb_congr hu.tim, tb_followSettings, hne i hi]
      · refine Outside.andThen ?_ hu.outside (by decide)
        intro q hq
        cases q <;> simp at hq ⊢
  case snap =>
    intro s r v hw
    have hr : ∀ t ∈ List.range 8, t < 8 := fun t h => List.mem_range.mp h
    by_cases hv : v = 1
    · refine does_write rfl hw (t := (List.range 8).foldl latchCount s) (congrArg (fun x : State => ({ s := x } : Done)) (if_pos hv)) fun u hu =>
        ⟨hu.ok, ?_, fun h => absurd hv h, ?_, ?_⟩
      · intro _ t ht
        rw [hu.num, num_foldl_latchCount hr s ht, if_pos (List.mem_range.mpr ht)]
      · exact ((outside_latchCounts s _).mono (by decide)).andThen hu.outside (by decide)
      · exact (entriesOutside_latchCounts hr s).trans (.of_cat hu.cat)
    · refine does_write rfl hw (congrArg (fun x : State => ({ s := x } : Done)) (if_neg hv)) fun u hu =>
        ⟨hu.ok, fun h => absurd h hv, fun _ => hu.cat, hu.outside.mono (by decide), .of_cat hu.cat⟩

end Sys2Proof.Machine
end

section
/-! The slots of the selvage window (R14, R15; obligation O7). -/

namespace Sys2Proof.Machine

variable {s t u : State} {rest : List Task} {k : Task} {cost n : Nat}

/-! ### A slot -/

/-- The state at the end of the slot of the next task, before its effect. -/
def slotEnd (s : State) (rest : List Task) (cost : Nat) : State :=
  { s.waitUntil (s.ruling.taskAt + cost) with
    ruling := { (s.waitUntil (s.ruling.taskAt + cost)).ruling with
      sched := rest, taskAt := (s.waitUntil (s.ruling.taskAt + cost)).ruling.taskAt + cost } }

/-- How a task ends: its command is finished, unless a restart confirms it first. -/
def endTask (k : Task) (d : State × Nat × Bool) : State := if d.2.2 then d.1 else completeCmd d.1 k.cmd d.2.1

theorem runTaskAs_eq {kind : TaskKind} {obj : Nat} (hw : s.ruling.window = true) (hd : s.noc.swapDue = false)
    (hs : s.ruling.sched = k :: rest) (hk : k.kind = kind) (ho : k.obj = obj) :
    runTaskAs s kind obj = endTask k (taskEffect (slotEnd s rest (taskCost kind)) k) := by
  have hset : settleSwap s = s := if_neg (by simp [hd])
  have hrun : runTask s = endTask k (taskEffect (slotEnd s rest (taskCost kind)) k) := by
    simp only [runTask, hset, hs, hk]
    rfl
  simp only [runTaskAs, hs, hw, hk, ho, and_self, if_true, hrun]

theorem slotTaken_slotEnd : SlotTaken s (slotEnd s rest cost) rest cost := by
  refine ⟨rfl, ?_, now_waitUntil ..⟩
  simp [slotEnd]

theorem SlotTaken.congr (h : SlotTaken s t rest cost) (hs : u.ruling.sched = t.ruling.sched)
    (ht : u.ruling.taskAt = t.ruling.taskAt) (hn : u.now = t.now) : SlotTaken s u rest cost := by
  rwa [SlotTaken, hs, ht, hn]

@[simp] theorem num_slotEnd (i a : Nat) : (slotEnd s rest cost).num i a = s.num i a := rfl

theorem outside_slotEnd : Outside [.now, .ruling, .tim] s (slotEnd s rest cost) := by
  intro p hp
  cases p <;> simp [slotEnd] at hp ⊢

/-! ### Asked for and shown -/

theorem outside_requestMends (s : State) (c : Nat) : Outside [.ruling, .seams] s (requestMends s c) := by
  intro p hp
  cases p <;> simp at hp ⊢

theorem num_requestMends (s : State) (c i a : Nat) (ha : a < 256) : (requestMends s c).num i a = s.num i a :=
  num_congr_of_cat (by simp) (by simp) (by simp) (by simp) i a ha

theorem chan_congr (h : t.seams = s.seams) (c : Nat) : t.chan c = s.chan c := by
  rw [State.chan, h]
  rfl

/-- The requested mends leave the schedule, its place and the channel but for its darning shadow. -/
theorem requestMends_keeps (s : State) (c : Nat) :
    (requestMends s c).ruling.sched = s.ruling.sched ∧ (requestMends s c).ruling.taskAt = s.ruling.taskAt ∧
    ((requestMends s c).chan c).pending = (s.chan c).pending ∧ ((requestMends s c).chan c).failed = (s.chan c).failed := by
  unfold requestMends
  split
  · exact ⟨rfl, rfl, rfl, rfl⟩
  · extract_lets weak
    have hask : ∀ (s : State) k o, (((requestTask s k o).getD s).ruling.sched, ((requestTask s k o).getD s).ruling.taskAt,
        ((requestTask s k o).getD s).seams) = (s.ruling.sched, s.ruling.taskAt, s.seams) := fun s k o => by
      unfold requestTask
      split <;> rfl
    have h := foldl_keeps (fun s => (s.ruling.sched, s.ruling.taskAt, s.seams)) (l := weak)
      (fun s _ _ => hask s .mend c) (s.setChan c fun x => { x with darnShadow := weak })
    generalize weak.foldl (fun s _ => (requestTask s .mend c).getD s) (s.setChan c fun x => { x with darnShadow := weak }) = v at h ⊢
    obtain ⟨h1, h2⟩ := Prod.mk.inj h
    obtain ⟨h2, h3⟩ := Prod.mk.inj h2
    refine ⟨h1, h2, ?_⟩
    rw [chan_congr h3, chan_setChan_self]
    exact ⟨rfl, rfl⟩

theorem num_showChannel (s : State) {c i a : Nat} (ha : a < 256) (h : i ≠ chIdx c ∨ a < 4 ∨ 6 < a) (hc : c < 256) :
    (showChannel s c).num i a = s.num i a := by
  have hx : chIdx c ≠ i ∨ 6 ≠ a ∧ 5 ≠ a ∧ 4 ≠ a := by omega
  unfold showChannel
  simp only [chIdx] at *
  rw [num_put_of_apart (by decide) ha (by omega) (by omega), num_put_of_apart (by decide) ha (by omega) (by omega),
    num_putOct_of_apart (by decide) ha (by omega) (by omega)]

/-! ### The effects -/

theorem num_putVersions (s : State) (l : List Nat) {i a : Nat} (ha : a < 256) (h : i ≠ 0x100000 ∨ 8 < a) :
    (putVersions s l).num i a = s.num i a := by
  refine foldl_keeps (·.num i a) (fun s x hx => ?_) s
  have := List.mem_range.mp hx
  split
  · rfl
  · exact num_put_of_apart (by omega) ha (by omega) (by omega)

theorem flipBanks_spec (s : State) (l : List Nat) :
    (flipBanks s l).num 0x100000 9 = 1 - s.num 0x100000 9 ∧
    (flipBanks s l).upd.running = s.upd.chunks ∧ (flipBanks s l).upd.chunks = s.upd.running := by
  refine ⟨?_, ?_, ?_⟩
  · unfold flipBanks State.setUpd
    simp (disch := decide) only [num_with_upd, num_put_of_apart, num_putOct_of_apart, num_put_self]
  · simp [flipBanks, State.setUpd]
  · simp [flipBanks, State.setUpd]

theorem activateFirmware_prepared (c : Option TimedCmd) (h : s.sgState = sgArmed) (hp : s.upd.prepared = true) :
    (activateFirmware s c).2.2 = true ∧ (activateFirmware s c).1.num 0x100000 0x0D = 1 ∧
    (activateFirmware s c).1.sgState = sgRetained ∧
    (activateFirmware s c).1.num 0x100000 9 = 1 - s.num 0x100000 9 ∧
    (activateFirmware s c).1.upd.running = s.upd.chunks ∧ (activateFirmware s c).1.upd.chunks = s.upd.running := by
  obtain ⟨h9, hr, hch⟩ := flipBanks_spec (putVersions s s.upd.newVersions) (activeVersions s)
  have hv9 : (putVersions s s.upd.newVersions).num 0x100000 9 = s.num 0x100000 9 := num_putVersions s _ (by decide) (by decide)
  have hvu : (putVersions s s.upd.newVersions).upd = s.upd := by simp
  rw [hv9] at h9
  rw [hvu] at hr hch
  unfold activateFirmware
  rw [if_neg (by simp [h]), if_neg (by simp [hp])]
  dsimp only
  generalize flipBanks (putVersions s s.upd.newVersions) (activeVersions s) = v at h9 hr hch
  refine ⟨rfl, ?_, ?_, ?_, ?_, ?_⟩
  · simp (disch := decide) only [State.setUpd, putSg, num_with_upd, num_put_of_apart, num_put_self]
  · simp only [State.sgState, State.setUpd, putSg, num_with_upd, num_put_self]
  · simp (disch := decide) only [State.setUpd, putSg, num_with_upd, num_put_of_apart, h9]
  · exact hr
  · exact hch

theorem reinstateChan_full {c : Nat} (hc : c < 256) (hr : s.num (chIdx c) 3 = 2)
    (hf : (fullUse (s.chan c).failed).isSome = true) :
    ∃ v, reinstateChan s c = some v ∧ v.chState c = chFull ∧ v.num (chIdx c) 3 = 0 ∧ v.num (chIdx c) 7 = 0 ∧
      (v.chan c).pending = [] ∧ (v.chan c).failed = (s.chan c).failed ∧ v.ruling.sched = s.ruling.sched ∧
      v.ruling.taskAt = s.ruling.taskAt := by
  obtain ⟨x, hx⟩ := Option.isSome_iff_exists.mp hf
  have hi : chIdx c < 0x0E0000 := by simp only [chIdx]; omega
  unfold reinstateChan
  rw [hx]
  dsimp only
  rw [if_pos hr]
  refine ⟨_, rfl, ?_⟩
  generalize hu : s.setChan c (fun y => { y.flush with use := x.use, lanes := [], checkAt := [], pending := [] }) = u
  have hub : (u.chan c).pending = [] ∧ (u.chan c).failed = (s.chan c).failed := by
    rw [← hu, chan_setChan_self]
    exact ⟨rfl, rfl⟩
  have hur : u.ruling = s.ruling := by rw [← hu]; rfl
  clear hu
  generalize hw : (((u.putCh c chFull).put (chIdx c) 3 0).put (chIdx c) 7 0) = w
  have hwu : Outside [.cat] u w := by
    rw [← hw]
    exact (outside_put _ _ _ _).trans ((outside_put _ _ _ _).trans (outside_put _ _ _ _))
  have hwn : w.num (chIdx c) 1 = chFull ∧ w.num (chIdx c) 3 = 0 ∧ w.num (chIdx c) 7 = 0 := by
    rw [← hw, State.putCh]
    simp only [chIdx]
    simp (disch := omega) only [num_put_of_apart, num_put_self, and_self]
  clear hw
  obtain ⟨h1, h3, h7⟩ := hwn
  have hnum : ∀ a, a < 4 ∨ a = 7 → (requestMends ((showChannel w c).raise 0xE09 c (be 8 w.rulingPick)) c).num (chIdx c) a =
      w.num (chIdx c) a := fun a ha => by
    rw [num_requestMends _ _ _ _ (by omega), num_raise (by decide) _ _ (by omega) (.inl hi),
      num_showChannel _ (by omega) (.inr (by omega)) hc]
  have hseams : ((showChannel w c).raise 0xE09 c (be 8 w.rulingPick)).seams = u.seams := by
    simpa using hwu .seams (by decide)
  have hrul : ((showChannel w c).raise 0xE09 c (be 8 w.rulingPick)).ruling = s.ruling := by
    simpa [← hur] using hwu.ruling (by decide)
  obtain ⟨k1, k2, k3, k4⟩ := requestMends_keeps ((showChannel w c).raise 0xE09 c (be 8 w.rulingPick)) c
  rw [hrul] at k1 k2
  rw [chan_congr hseams] at k3 k4
  exact ⟨(hnum 1 (by decide)).trans h1, (hnum 3 (by decide)).trans h3, (hnum 7 (by decide)).trans h7, k3.trans hub.1,
    k4.trans hub.2, k1, k2⟩

theorem reinstateLink_ready {l : Nat} (hl : l < 160) (h : s.num (linkIdx l) 5 = 2) :
    ∃ v, reinstateLink s l = some v ∧ v.num (linkIdx l) 3 = lkFull ∧ v.num (linkIdx l) 4 = 0 ∧ v.num (linkIdx l) 5 = 0 := by
  have hi : linkIdx l < 0x0E0000 := by simp only [linkIdx]; omega
  refine ⟨_, if_pos h, ?_, ?_, ?_⟩
  all_goals rw [num_raise (by decide) _ _ (by decide) (.inl hi)]
  all_goals simp only [linkIdx] at *
  all_goals simp (disch := omega) only [num_put_of_apart, num_put_self]

theorem reinstateEngine_ready {e : Nat} (he : e < 8) (h : s.service e = svReady) :
    ∃ v, reinstateEngine s e = some v ∧ v.service e = svIn := by
  refine ⟨_, if_pos h, ?_⟩
  have hi : svcIdx e < 0x0E0000 := by simp only [svcIdx]; omega
  have hs : (putService s e svIn).service e = svIn := by
    refine (num_raise (by decide) _ _ (by decide) (.inl hi)).trans ?_
    simp only [svcIdx]
    simp (disch := omega) only [num_put_of_apart, num_put_self]
  unfold putNi
  split
  · exact hs
  · refine (num_raise (by decide) _ _ (by decide) (.inl hi)).trans ((num_put_ne _ _ _ _ _ _ (by decide) (by decide) ?_).trans hs)
    simp only [svcIdx]
    omega

/-- What each step of a walk establishes, and no step undoes, holds at its end. -/
theorem foldl_establishes {α : Type} {P : α → State → Prop} {f : State → α → State} {l : List α}
    (h : ∀ s, ∀ x ∈ l, P x (f s x)) (hk : ∀ s, ∀ x ∈ l, ∀ y ∈ l, P x s → P x (f s y)) (s : State) :
    ∀ x ∈ l, P x (l.foldl f s) := by
  have keep : ∀ x ∈ l, ∀ m : List α, m ⊆ l → ∀ s, P x s → P x (m.foldl f s) := fun x hx m => by
    induction m with
    | nil => exact fun _ _ hp => hp
    | cons y ys ih =>
      intro hm s hp
      exact ih (fun _ hz => hm (.tail _ hz)) _ (hk s x hx y (hm (.head _)) hp)
  have all : ∀ m : List α, m ⊆ l → ∀ s, ∀ x ∈ m, P x (m.foldl f s) := fun m => by
    induction m with
    | nil => exact fun _ _ _ hx => absurd hx (by simp)
    | cons y ys ih =>
      intro hm s x hx
      have hys : ys ⊆ l := fun _ hz => hm (.tail _ hz)
      rcases List.mem_cons.mp hx with rfl | hx
      · exact keep x (hm (.head _)) ys hys _ (h s x (hm (.head _)))
      · exact ih hys _ x hx
  exact all l (fun _ hx => hx) s

/-- A mapped-out shuttle back in the free pool. -/
def reinstateShuttle (c : Nat) (s : State) (h : Nat) : State :=
  let s := s.setSh h fun x => { x with pm := [], dm := [], image := [], words := 0 }
  (((putSh s h shEmpty).put (shIdx h) 4 0).put (shIdx h) 0x16 0).raise 0x833 c (be 2 h ++ be 1 1)

theorem num_putSh_of_apart {h n i a : Nat} (ha : a < 256) (hx : shIdx h ≠ i ∨ 1 ≠ a) : (putSh s h n).num i a = s.num i a := by
  unfold putSh
  extract_lets src u
  have hu : u.num i a = s.num i a := by
    unfold u
    split <;> rfl
  rw [num_put_of_apart (by decide) ha hx (by omega), hu]

theorem num_putSh_self (h n : Nat) : (putSh s h n).num (shIdx h) 1 = n := num_put_self ..

theorem num_reinstateShuttle_self {h : Nat} (c : Nat) (hh : h < 512) :
    (reinstateShuttle c s h).num (shIdx h) 1 = shEmpty ∧ (reinstateShuttle c s h).num (shIdx h) 0x16 = 0 := by
  have hi : shIdx h < 0x0E0000 := by simp only [shIdx]; omega
  constructor
  · refine (num_raise (by decide) _ _ (by decide) (.inl hi)).trans ?_
    rw [num_put_of_apart (by decide) (by decide) (by simp) (by simp only [shIdx]; omega),
      num_put_of_apart (by decide) (by decide) (by simp) (by simp only [shIdx]; omega), num_putSh_self]
  · exact (num_raise (by decide) _ _ (by decide) (.inl hi)).trans (num_put_self ..)

theorem num_reinstateShuttle_ne {h k a : Nat} (c : Nat) (hk : k < 512) (hne : h ≠ k) (ha : a < 256) :
    (reinstateShuttle c s h).num (shIdx k) a = s.num (shIdx k) a := by
  have hi : shIdx k < 0x0E0000 := by simp only [shIdx]; omega
  have hx : shIdx h ≠ shIdx k := by simp only [shIdx]; omega
  refine (num_raise (by decide) _ _ ha (.inl hi)).trans ?_
  rw [num_put_ne _ _ _ _ _ _ (by decide) ha hx, num_put_ne _ _ _ _ _ _ (by decide) ha hx, num_putSh_of_apart ha (.inl hx),
    num_setSh]

/-- A shuttle that is empty and not ready. -/
def Freed (h : Nat) (s : State) : Prop := s.num (shIdx h) 1 = shEmpty ∧ s.num (shIdx h) 0x16 = 0

theorem freed_reinstateShuttle (s : State) {h : Nat} (c : Nat) (hh : h < 512) : Freed h (reinstateShuttle c s h) :=
  num_reinstateShuttle_self c hh

theorem Freed.reinstateShuttle {h : Nat} (hf : Freed h s) (c : Nat) (hh : h < 512) (k : Nat) :
    Freed h (reinstateShuttle c s k) := by
  by_cases hk : k = h
  · rw [hk]
    exact freed_reinstateShuttle s c hh
  · rw [Freed, num_reinstateShuttle_ne c hh hk (by decide), num_reinstateShuttle_ne c hh hk (by decide)]
    exact hf

theorem mem_readyShuttles {c h : Nat} (hm : h ∈ readyShuttles s c) : h < 8 * c + 8 ∧ s.unit.mappedOut.contains h = false := by
  simp only [readyShuttles, List.mem_filter, List.mem_map, List.mem_range, Bool.and_eq_true, Bool.not_eq_true'] at hm
  obtain ⟨⟨i, hi, rfl⟩, ⟨_, ho⟩, _⟩ := hm
  exact ⟨by omega, ho⟩

theorem reinstateCluster_ready {c : Nat} (hc : c < 64) (h : readyShuttles s c ≠ []) :
    ∃ v, reinstateCluster s c = some v ∧ ∀ x ∈ readyShuttles s c, v.shState x = shEmpty ∧ v.num (shIdx x) 0x16 = 0 := by
  refine ⟨(readyShuttles s c).foldl (reinstateShuttle c) s, ?_, fun x hx => ?_⟩
  · unfold reinstateCluster
    split
    · contradiction
    · rfl
  · have hlt : ∀ x ∈ readyShuttles s c, x < 512 := fun x hx => by have := (mem_readyShuttles hx).1; omega
    obtain ⟨h1, h16⟩ := foldl_establishes (P := Freed) (fun s x hx => freed_reinstateShuttle s c (hlt x hx))
      (fun s x hx y _ hp => hp.reinstateShuttle c (hlt x hx) y) s x hx
    refine ⟨?_, h16⟩
    have hu : ((readyShuttles s c).foldl (reinstateShuttle c) s).unit = s.unit :=
      foldl_unit _ _ _ fun s x => by simp [reinstateShuttle]
    rw [State.shState, hu, (mem_readyShuttles hx).2]
    exact h1

theorem releasePanel_spec (s : State) {p : Nat} (hp : p < 64) :
    (releasePanel s p).panel p = pnActive ∧ (releasePanel s p).cfg.panelHid.getD p {} = {} := by
  have hi : panelIdx p < 0x0E0000 := by simp only [panelIdx]; omega
  constructor
  · refine (num_raise (by decide) _ _ (by decide) (.inl hi)).trans ?_
    exact num_put_self s (panelIdx p) 1 pnActive
  · have hc : (releasePanel s p).cfg.panelHid = lmod s.cfg.panelHid p fun _ => {} := by simp [releasePanel, State.setHem]
    rw [hc, lmod, List.getD_eq_getElem?_getD, List.getElem?_modify_eq]
    cases s.cfg.panelHid[p]? <;> rfl

theorem chan_raise (s : State) (n unit : Nat) (b : List Byte) (c : Nat) : (s.raise n unit b).chan c = s.chan c :=
  chan_congr (by simp) c

theorem chan_showChannel (s : State) (c k : Nat) : (showChannel s c).chan k = s.chan k := chan_congr (by simp) k

theorem mendPlanned_spec {c w d : Nat} {ws : List Nat} (hc : c < 256) (hs : (s.chan c).darnShadow = w :: ws)
    (hd : (s.chan c).darnFor w = some d) (hst : s.chState c = chFull ∨ s.chState c = chNarrowed) :
    (mendPlanned s c).chan c = { (if (s.chan c).lanes = [] then { s.chan c with use := tput (s.chan c).use w d }
      else (s.chan c).move w d) with darnShadow := ws, predicted := (s.chan c).predicted.filter (· ≠ w) } ∧
    (mendPlanned s c).num (chIdx c) 9 = (s.num (chIdx c) 9 + 1) % 2 ^ 32 := by
  have hi : chIdx c < 0x0E0000 := by simp only [chIdx]; omega
  have he : mendPlanned s c = ((showChannel (s.setChan c fun x =>
      { (if x.lanes = [] then { x with use := tput x.use w d } else x.move w d) with
        darnShadow := ws, predicted := x.predicted.filter (· ≠ w) }) c).count (chIdx c) 9 32 1).raise 0xE06 c
        (be 2 w ++ be 2 d) := by
    simp only [mendPlanned, hs, hd, if_pos hst]
  rw [he]
  constructor
  · rw [chan_raise, State.count, chan_put, chan_showChannel]
    exact chan_setChan_self s c _
  · rw [num_raise (by decide) _ _ (by decide) (.inl hi), num_count_self, num_showChannel _ (by decide) (by omega) hc,
    num_setChan]

/-! ### The commands -/

theorem outside_endTask (k : Task) (d : State × Nat × Bool) : Outside [.cat, .mgmt] d.1 (endTask k d) := by
  unfold endTask
  split
  · exact .refl _ _
  · intro p hp
    cases p <;> simp at hp ⊢

theorem num_endTask (k : Task) (d : State × Nat × Bool) {i a : Nat} (ha : a < 256) (hi : i < 0x0E0000)
    (h : i < 0x074000 ∨ 0x07BFFF < i) : (endTask k d).num i a = d.1.num i a := by
  unfold endTask
  split
  · rfl
  · exact num_completeCmd _ _ _ _ ha (.inl hi) h

theorem SlotTaken.endTask {d : State × Nat × Bool} (h : SlotTaken s d.1 rest cost) (k : Task) :
    SlotTaken s (endTask k d) rest cost :=
  h.congr (by rw [(outside_endTask k d).ruling (by decide)]) (by rw [(outside_endTask k d).ruling (by decide)])
    ((outside_endTask k d).now (by decide))

/-- The effect of a slot that leaves the schedule and the time alone. -/
theorem slotTaken_of_frame (hr : t.ruling = (slotEnd s rest cost).ruling) (hn : t.now = (slotEnd s rest cost).now) :
    SlotTaken s t rest cost :=
  slotTaken_slotEnd.congr (by rw [hr]) (by rw [hr]) hn

/-- A command that runs the next task. -/
theorem does_task {c : Instr} {kind : TaskKind} {obj : Nat} {P : State → Prop} (hx : exec c s = .next (runTaskAs s kind obj))
    (hw : s.ruling.window = true) (hd : s.noc.swapDue = false) (hs : s.ruling.sched = k :: rest) (hk : k.kind = kind)
    (ho : k.obj = obj) (h : P (endTask k (taskEffect (slotEnd s rest (taskCost kind)) k))) : Does c s P :=
  ⟨_, hx.trans (congrArg _ (runTaskAs_eq hw hd hs hk ho)), h⟩

/-- Settles O7. -/
theorem selvageTasksTakeTheirSlots : Obligations.SelvageTasksTakeTheirSlots := by
  unfold Obligations.SelvageTasksTakeTheirSlots
  refine ⟨?_, ?_, ?_, ?_, ?_, ?_, ?_⟩
  · intro s k rest hw hd hs hk ho hst hp
    refine does_task rfl hw hd hs hk ho ?_
    generalize hv : slotEnd s rest (taskCost .firmware) = v
    have hvs : v.sgState = sgArmed := by rw [← hv]; exact hst
    have hvu : v.upd = s.upd := by rw [← hv]; exact outside_slotEnd.upd (by decide)
    have he : taskEffect v k = activateFirmware v k.cmd := by simp only [taskEffect, hk]
    obtain ⟨h1, h2, h3, h4, h5, h6⟩ := activateFirmware_prepared k.cmd hvs (hvu ▸ hp)
    rw [he, endTask, if_pos h1]
    rw [hvu] at h5 h6
    refine ⟨?_, h2, h3, ?_, h5, h6⟩
    · refine slotTaken_of_frame (cost := 6000) ?_ ?_
      · rw [show slotEnd s rest 6000 = v from hv]
        simp
      · rw [show slotEnd s rest 6000 = v from hv]
        simp
    · rw [h4, ← hv, num_slotEnd]
  · intro s k rest c hw hd hs hk ho hr hf
    refine does_task rfl hw hd hs hk ho ?_
    have hch : (slotEnd s rest 2000).chan c = s.chan c := chan_congr (outside_slotEnd .seams (by decide)) c
    obtain ⟨v, hv, h1, h3, h7, hp, hfd, hsched, hat⟩ :=
      reinstateChan_full (s := slotEnd s rest 2000) c.isLt (by rw [num_slotEnd, hr]) (by rw [hch]; exact hf)
    have he : taskEffect (slotEnd s rest (taskCost .seamChan)) k = (v, stOk, false) := by
      simp only [taskEffect, hk, ho, taskCost, hv]
    have hnow : v.now = (slotEnd s rest 2000).now := by
      simpa [hv] using (reinstateChan_frame (slotEnd s rest 2000) c).2.1
    have hnum : ∀ a, a < 256 → (endTask k (v, stOk, false)).num (chIdx c) a = v.num (chIdx c) a := fun a ha =>
      num_endTask _ _ ha (by simp only [chIdx]; omega) (by simp only [chIdx]; omega)
    rw [he]
    refine ⟨(slotTaken_slotEnd.congr hsched hat hnow).endTask k, (hnum 1 (by decide)).trans h1, (hnum 3 (by decide)).trans h3,
      (hnum 7 (by decide)).trans h7, ?_, ?_⟩
    · rw [chan_congr (outside_endTask k (v, stOk, false) .seams (by decide)), hp]
    · rw [chan_congr (outside_endTask k (v, stOk, false) .seams (by decide)), hfd, hch]
  · intro s k rest l hw hd hs hk ho hr
    refine does_task rfl hw hd hs hk ho ?_
    obtain ⟨v, hv, h3, h4, h5⟩ := reinstateLink_ready (s := slotEnd s rest 2000) l.isLt hr
    have he : taskEffect (slotEnd s rest (taskCost .nocLink)) k = (v, stOk, false) := by
      simp only [taskEffect, hk, ho, taskCost, hv]
    obtain ⟨-, hnow, -, -, hrul, -⟩ := reinstateLink_frame (slotEnd s rest 2000) l
    rw [hv] at hnow hrul
    have hnum : ∀ a, a < 256 → (endTask k (v, stOk, false)).num (linkIdx l) a = v.num (linkIdx l) a := fun a ha =>
      num_endTask _ _ ha (by simp only [linkIdx]; omega) (by simp only [linkIdx]; omega)
    rw [he]
    exact ⟨(slotTaken_of_frame hrul hnow).endTask k, (hnum 3 (by decide)).trans h3, (hnum 4 (by decide)).trans h4,
      (hnum 5 (by decide)).trans h5⟩
  · intro s k rest e hw hd hs hk ho hr
    refine does_task rfl hw hd hs hk ho ?_
    obtain ⟨v, hv, h1⟩ := reinstateEngine_ready (s := slotEnd s rest 2000) e.isLt hr
    have he : taskEffect (slotEnd s rest (taskCost .engine)) k = (v, stOk, false) := by
      simp only [taskEffect, hk, ho, taskCost, hv]
    obtain ⟨-, hnow, -, -, hrul, -⟩ := reinstateEngine_frame (slotEnd s rest 2000) e
    rw [hv] at hnow hrul
    rw [he]
    refine ⟨(slotTaken_of_frame hrul hnow).endTask k, ?_⟩
    exact (num_endTask _ _ (by decide) (by simp only [svcIdx]; omega) (by simp only [svcIdx]; omega)).trans h1
  · intro s k rest c hw hd hs hk ho hr
    refine does_task rfl hw hd hs hk ho ?_
    have hready : readyShuttles (slotEnd s rest 2000) c = readyShuttles s c := rfl
    obtain ⟨v, hv, hfree⟩ := reinstateCluster_ready (s := slotEnd s rest 2000) c.isLt (by rwa [hready])
    have he : taskEffect (slotEnd s rest (taskCost .cluster)) k = (v, stOk, false) := by
      simp only [taskEffect, hk, ho, taskCost, hv]
    obtain ⟨-, hnow, -, -, hrul, -⟩ := reinstateCluster_frame (slotEnd s rest 2000) c
    rw [hv] at hnow hrul
    rw [he]
    refine ⟨(slotTaken_of_frame hrul hnow).endTask k, fun h hh => ?_⟩
    have hlt : h < 512 := by have := (mem_readyShuttles hh).1; omega
    have hnum : ∀ a, a < 256 → (endTask k (v, stOk, false)).num (shIdx h) a = v.num (shIdx h) a := fun a ha =>
      num_endTask _ _ ha (by simp only [shIdx]; omega) (by simp only [shIdx]; omega)
    rw [State.shState, (outside_endTask k (v, stOk, false)).unit (by decide), hnum 1 (by decide), hnum 0x16 (by decide)]
    exact hfree h (hready ▸ hh)
  · intro s k rest c w d ws hw hd hs hk ho hsh hdn hst
    refine does_task rfl hw hd hs hk ho ?_
    have hch : (slotEnd s rest 1000).chan c = s.chan c := chan_congr (outside_slotEnd .seams (by decide)) c
    obtain ⟨hm, h9⟩ := mendPlanned_spec (s := slotEnd s rest 1000) c.isLt (by rwa [hch]) (by rwa [hch]) hst
    have he : taskEffect (slotEnd s rest (taskCost .mend)) k = (mendPlanned (slotEnd s rest 1000) c, stOk, false) := by
      simp only [taskEffect, hk, ho, taskCost]
    rw [hch] at hm
    rw [he, chan_congr (outside_endTask k (mendPlanned (slotEnd s rest 1000) c, stOk, false) .seams (by decide)), hm]
    refine ⟨(slotTaken_of_frame (by simp) (by simp)).endTask k, ?_, ?_, rfl, rfl, ?_⟩
    · intro hl
      simp [hl]
    · intro hl
      refine ⟨?_, ?_, ?_⟩
      · simp only [hl, if_false, Channel.move]
        split
        · rfl
        · split <;> rfl
      · simp [hl]
      · simp [hl]
    · rw [num_endTask _ _ (by decide) (by simp only [chIdx]; omega) (by simp only [chIdx]; omega), h9, num_slotEnd]
  · intro s k rest p hw hd hs hk ho hst
    refine does_task rfl hw hd hs hk ho ?_
    have he : taskEffect (slotEnd s rest (taskCost .hem)) k = (releasePanel (slotEnd s rest 500) p, stOk, false) := by
      simp only [taskEffect, hk, ho, taskCost]
      exact if_pos hst
    obtain ⟨h1, hhem⟩ := releasePanel_spec (slotEnd s rest 500) p.isLt
    rw [he, (outside_endTask k (releasePanel (slotEnd s rest 500) p, stOk, false)).cfg (by decide)]
    refine ⟨(slotTaken_of_frame (by simp) (by simp)).endTask k, ?_, hhem⟩
    exact (num_endTask _ _ (by decide) (by simp only [panelIdx]; omega) (by simp only [panelIdx]; omega)).trans h1

end Sys2Proof.Machine
end

section
/-! Takes at the end of the window, its close, and the phases of the selvage pins (R14, R220 to R223; obligation O8). -/

namespace Sys2Proof.Machine

variable {s : State} {t n : Nat}

/-! ### Takes -/

theorem takeCost_nil : takeCost (dedupKeys []) = 0 := by decide

theorem engine_lt {k e : Nat} (h : takeEngine k = some e) : e < 8 := by
  unfold takeEngine at h
  split at h
  · injection h
    omega
  · exact absurd h (by simp)

theorem takeCost_single {k e : Nat} (h : takeEngine k = some e) : takeCost (dedupKeys [k]) = 104 := by
  have he := engine_lt h
  have hm : ((List.range 8).map fun x => (([k].filter fun k => takeEngine k = some x).length)).foldl max 0 = 1 := by
    have hx : (fun x => ([k].filter fun k => takeEngine k = some x).length) = fun x => if e = x then 1 else 0 := by
      funext x
      by_cases hxe : e = x <;> simp [h, hxe]
    rw [hx]
    interval_cases e <;> decide
  have hd : dedupKeys [k] = [k] := by simp [dedupKeys]
  unfold takeCost
  rw [hd]
  simp only [hm]
  decide

theorem takeSlot_of_none (h : s.ruling.timed.filter (takeDue s.rulingTb (s.pick s.rulingTb)) = []) : takeSlot s = s := by
  unfold takeSlot
  simp only [h, List.map_nil, takeCost_nil, if_true]

/-- The state in which the one take due is armed. -/
def takeAt (s : State) (cost : Nat) : State :=
  { s.waitUntil (s.ruling.taskAt + cost) with
    ruling := { (s.waitUntil (s.ruling.taskAt + cost)).ruling with
      taskAt := (s.waitUntil (s.ruling.taskAt + cost)).ruling.taskAt + cost } }

theorem takeSlot_of_one {c : TimedCmd} {e : Nat} (he : takeEngine c.key = some e)
    (h : s.ruling.timed.filter (takeDue s.rulingTb (s.pick s.rulingTb)) = [c]) :
    takeSlot s = armTakes (takeAt s 104) s.rulingTb (s.pick s.rulingTb) := by
  unfold takeSlot
  simp only [h, List.map_cons, List.map_nil, takeCost_single he]
  rfl

theorem ruleOf_take {k e : Nat} (h : takeEngine k = some e) : ruleOf k = takeRule (k / 256 - 0x074000) := by
  have hk : 0x074000 ≤ k / 256 ∧ k / 256 ≤ 0x07BFFF ∧ k % 256 = 0 := by
    by_contra hn
    exact absurd h (by simp [takeEngine, hn])
  obtain ⟨hlo, hhi, hsub⟩ := hk
  have h7 : k / 256 / 0x10000 = 7 := by omega
  have hs : streamRule (k / 256) (k % 256) = some (takeRule (k / 256 - 0x074000)) := by
    unfold streamRule
    rw [if_neg (by omega), if_neg (by omega), if_neg (by omega), if_neg (by omega), if_pos ⟨hlo, hhi, by omega⟩]
  unfold ruleOf
  simp only [h7, hs, Option.getD_some]

/-- A take applied leaves the time, the ruling of the window and the power as they are. -/
theorem outside_applyTake {k e : Nat} (h : takeEngine k = some e) (s : State) (b : Bool) (r : Req) (v : Val) :
    Outside [.cat, .gen, .mgmt, .rx, .tx, .upd] s (applyWrite s b r k v (ruleOf k)).s := by
  rw [ruleOf_take h]
  refine Outside.andThen (t := (armTake s (k / 256 - 0x074000) (s.pick (txFmt s (k / 256 - 0x074000)).tb)
    (takeSource (ent (takeIdx (k / 256 - 0x074000)) 0) v)).s) ?_ (applyWrite_outside b) (by decide)
  intro p hp
  cases p <;> simp at hp ⊢

theorem num_finishCmd_take {c : TimedCmd} {e : Nat} (h : takeEngine c.key = some e) (st : Nat) :
    (finishCmd s c st).num (c.key / 256) 9 = c.pick := by
  have hk : 0x074000 ≤ c.key / 256 ∧ c.key / 256 ≤ 0x07BFFF := by
    by_contra hn
    exact absurd h (by simp [takeEngine]; omega)
  have hput : (((raiseDone s c st).put (c.key / 256) 9 c.pick).put (c.key / 256) 0x0A st).num (c.key / 256) 9 = c.pick := by
    rw [num_put_of_apart (by decide) (by decide) (by simp) (by simp), num_put_self]
  unfold finishCmd takeOutcome
  rw [h]
  dsimp only
  split
  · exact hput
  · exact (num_raise (by decide) _ _ (by decide) (by omega)).trans hput

theorem takeReport_spec (s : State) (m e : Nat) (l : List Nat) (i a : Nat) (ha : a < 256) (hi : i < 0x0E0000) :
    Outside [.cat, .mgmt] s (takeReport s m e l) ∧ (takeReport s m e l).num i a = s.num i a := by
  constructor
  · intro p hp
    cases p <;> simp at hp ⊢
  · unfold takeReport
    dsimp only
    split
    · rfl
    · exact num_raise (by decide) _ _ ha (.inl hi)

theorem armTakes_one {c : TimedCmd} {e m : Nat} (he : takeEngine c.key = some e)
    (h : s.ruling.timed.filter (takeDue t m) = [c]) :
    (armTakes s t m).num (c.key / 256) 9 = c.pick ∧
    (armTakes s t m).now = s.now ∧ (armTakes s t m).ruling.taskAt = s.ruling.taskAt ∧
    (armTakes s t m).ruling.timed = s.ruling.timed.filter fun x => !takeDue t m x := by
  have hk : c.key / 256 < 0x0E0000 := by
    by_contra hn
    exact absurd he (by simp [takeEngine]; omega)
  obtain ⟨l, hl⟩ : ∃ l, armTakes s t m = (List.range 8).foldl (fun s e => takeReport s m e l)
      (finishCmd (applyWrite (takeOut s (takeDue t m)) true (cmdReq c) c.key c.val (ruleOf c.key)).s c
        (applyWrite (takeOut s (takeDue t m)) true (cmdReq c) c.key c.val (ruleOf c.key)).status) := by
    unfold armTakes
    rw [h]
    exact ⟨_, rfl⟩
  have happ := outside_applyTake he (takeOut s (takeDue t m)) true (cmdReq c) c.val
  rw [hl]
  generalize applyWrite (takeOut s (takeDue t m)) true (cmdReq c) c.key c.val (ruleOf c.key) = d at happ ⊢
  have hnum := num_finishCmd_take he d.status (s := d.s)
  have hfin : Outside [.cat, .gen, .mgmt, .rx, .tx, .upd] (takeOut s (takeDue t m)) (finishCmd d.s c d.status) := by
    refine happ.trans fun p hp => ?_
    cases p <;> simp at hp ⊢
  generalize finishCmd d.s c d.status = w at hnum hfin ⊢
  have hout : Outside [.cat, .gen, .mgmt, .rx, .tx, .upd] (takeOut s (takeDue t m))
      ((List.range 8).foldl (fun s e => takeReport s m e l) w) :=
    hfin.andThen (.foldl _ _ _ fun s x => (takeReport_spec s m x l 0 0 (by decide) (by decide)).1) (by decide)
  refine ⟨?_, hout.now (by decide), ?_, ?_⟩
  · rw [foldl_keeps (·.num (c.key / 256) 9) (fun s x _ => (takeReport_spec s m x l _ _ (by decide) hk).2), hnum]
  · rw [hout.ruling (by decide)]
    rfl
  · rw [hout.ruling (by decide)]
    rfl

/-! ### Pins -/

theorem phase_settlePin (s : State) (p : Nat) : (settlePin s p).fab.phase = s.fab.phase := by
  unfold settlePin
  split
  · rfl
  · simp [State.setPin]

theorem phase_closePins (h : s.selvageOn = true) : (closePins s).fab.phase = 3 := by
  unfold closePins
  rw [if_neg (by simp [h])]
  exact foldl_keeps (·.fab.phase) (fun s p _ => phase_settlePin s p) _

/-- What the window and its pins know of one pin. -/
def pinView (s : State) (p : Nat) : Nat × Nat × Nat × Nat × Gpi :=
  (s.num (pinIdx p) 1, s.num (pinIdx p) 8, s.num (pinIdx p) 9, s.num (pinIdx p) 0x0A, s.pin p)

/-- The run that a sample leaves a pin with. -/
def debounced (level : Bool) (stable debounce : Nat) (x : Gpi) : Gpi :=
  if level = (stable != 0) then { x with run := 0 }
  else if debounce ≤ x.run + 1 then { x with run := 0, next := some level }
  else { x with run := x.run + 1 }

/-- The same pin after a sample at a level. -/
def sampledView (level : Bool) : Nat × Nat × Nat × Nat × Gpi → Nat × Nat × Nat × Nat × Gpi
  | (m, d, v, r, x) => if m = 2 then (m, d, v, if level then 1 else 0, debounced level v d x) else (m, d, v, r, x)

/-- A sample of one pin, where it is an input of the selvage. -/
def sampleStep (level : Nat → Bool) (s : State) (p : Nat) : State :=
  if s.num (pinIdx p) 1 = 2 then samplePin s p (level p) else s

/-- What a walk that treats each of its places by itself does to each of them. -/
theorem foldl_view {α β : Type} {view : State → α → β} {f : State → α → State} {g : α → β → β} {l : List α} (hl : l.Nodup)
    (hs : ∀ s, ∀ x ∈ l, view (f s x) x = g x (view s x)) (hn : ∀ s, ∀ x ∈ l, ∀ y,
      x ≠ y → view (f s x) y = view s y) (s : State) :
    (∀ y ∈ l, view (l.foldl f s) y = g y (view s y)) ∧ ∀ y, y ∉ l → view (l.foldl f s) y = view s y := by
  induction l generalizing s with
  | nil => exact ⟨fun _ h => absurd h (by simp), fun _ _ => rfl⟩
  | cons x xs ih =>
    obtain ⟨hx, hxs⟩ := List.nodup_cons.mp hl
    obtain ⟨h1, h2⟩ := ih hxs (fun s y hy => hs s y (.tail _ hy)) (fun s y hy => hn s y (.tail _ hy)) (f s x)
    constructor
    · intro y hy
      rcases List.mem_cons.mp hy with rfl | hy
      · exact (h2 y hx).trans (hs s y (.head _))
      · exact (h1 y hy).trans (by rw [hn s x (.head _) y fun e => hx (e ▸ hy)])
    · intro y hy
      obtain ⟨hne, hy⟩ := not_or.mp (fun h => hy (List.mem_cons.mpr h))
      exact (h2 y hy).trans (hn s x (.head _) y (Ne.symm hne))

theorem setPin_congr (s : State) {p : Nat} {f g : Gpi → Gpi} (h : f (s.pin p) = g (s.pin p)) : s.setPin p f = s.setPin p g := by
  rw [State.setPin, h, State.setPin]

theorem samplePin_eq (s : State) (p : Nat) (level : Bool) :
    samplePin s p level = (s.put (pinIdx p) 0x0A (if level then 1 else 0)).setPin p (debounced level (s.num (pinIdx p) 9) (s.num (pinIdx p) 8)) := by
  have hread : ∀ a, a = 8 ∨ a = 9 → (s.put (pinIdx p) 0x0A (if level then 1 else 0)).num (pinIdx p) a = s.num (pinIdx p) a :=
    fun a ha => num_put_of_apart (by decide) (by omega) (by omega) (by omega)
  have h9 : (s.put (pinIdx p) 0x0A (if level then 1 else 0)).flag (pinIdx p) 9 = (s.num (pinIdx p) 9 != 0) := by
    rw [State.flag, hread 9 (by decide)]
  by_cases h1 : level = (s.num (pinIdx p) 9 != 0)
  · exact (if_pos (h1.trans h9.symm)).trans (setPin_congr _ (if_pos h1).symm)
  · refine (if_neg (h9 ▸ h1)).trans ?_
    by_cases h2 : s.num (pinIdx p) 8 ≤ (s.pin p).run + 1
    · exact (if_pos (by rwa [hread 8 (by decide)])).trans (setPin_congr _ ((if_neg h1).trans (if_pos h2)).symm)
    · exact (if_neg (by rwa [hread 8 (by decide)])).trans (setPin_congr _ ((if_neg h1).trans (if_neg h2)).symm)

theorem pinView_sampleStep_self (level : Nat → Bool) (s : State) (p : Nat) :
    pinView (sampleStep level s p) p = sampledView (level p) (pinView s p) := by
  unfold sampleStep sampledView pinView
  dsimp only
  split
  · rw [samplePin_eq, pin_setPin_self, pin_put]
    simp (disch := omega) only [num_setPin, num_put_of_apart, num_put_self]
  · rfl

theorem pinView_sampleStep_ne (level : Nat → Bool) (s : State) {p q : Nat} (h : p ≠ q) :
    pinView (sampleStep level s p) q = pinView s q := by
  have hi : pinIdx p ≠ pinIdx q := by simp only [pinIdx]; omega
  unfold sampleStep pinView
  split
  · rw [samplePin_eq, pin_setPin_ne _ _ _ _ h, pin_put]
    simp (disch := omega) only [num_setPin, num_put_of_apart]
  · rfl

theorem outside_sampleSteps (level : Nat → Bool) (s : State) (l : List Nat) :
    Outside [.fab, .cat] s (l.foldl (sampleStep level) s) := by
  refine .foldl _ _ _ fun s p q hq => ?_
  unfold sampleStep
  split
  · cases q <;> simp at hq ⊢
  · cases q <;> simp at hq ⊢

/-! ### The commands -/

/-- Settles O8. -/
theorem windowAndSelvagePinPhases : Obligations.WindowAndSelvagePinPhases := by
  unfold Obligations.WindowAndSelvagePinPhases
  refine ⟨?_, ?_, ?_, ?_, ?_⟩
  · intro s c e hw hd hs he hc
    have hset : settleSwap s = s := if_neg (by simp [hd])
    have ht := takeSlot_of_one he hc
    obtain ⟨h9, hnow, hat, htimed⟩ := armTakes_one (s := takeAt s 104) he hc
    refine does_if rfl ⟨hw, hs⟩ ?_
    rw [hset, ht]
    exact ⟨hnow.trans (now_waitUntil ..), hat.trans (by simp [takeAt]), htimed, h9⟩
  · intro s hw hd hs ht
    have hset : settleSwap s = s := if_neg (by simp [hd])
    have he : closeWindow s = closePins (finishSteps { s.waitUntil (max (s.ruling.windowAt + s.windowNs) s.ruling.taskAt) with
        ruling := { (s.waitUntil (max (s.ruling.windowAt + s.windowNs) s.ruling.taskAt)).ruling with window := false } }) := by
      unfold closeWindow
      rw [if_neg (by simp [hw])]
      simp only [hset, hs, List.length_nil, runTasks, takeSlot_of_none ht]
    generalize hz : ({ s.waitUntil (max (s.ruling.windowAt + s.windowNs) s.ruling.taskAt) with
        ruling := { (s.waitUntil (max (s.ruling.windowAt + s.windowNs) s.ruling.taskAt)).ruling with window := false } } : State) = z
      at he
    have hzr : z.ruling.window = false := by rw [← hz]
    have hzn : z.now = max s.now (max (s.ruling.windowAt + s.windowNs) s.ruling.taskAt) := by
      rw [← hz]
      exact now_waitUntil ..
    have hzc : z.cfg = s.cfg ∧ z.pwr = s.pwr := by
      rw [← hz]
      simp
    refine ⟨_, congrArg Host.Outcome.next he, ?_, ?_, ?_⟩
    · simpa using hzr
    · simpa using hzn
    · intro hon
      refine phase_closePins ((selvageOn_congr ?_ ?_).trans hon)
      · simpa using hzc.1
      · simpa using hzc.2
  · intro s hw hp
    refine does_if rfl ⟨hp, hw⟩ ⟨now_waitUntil .., by simp, ?_⟩
    intro p hp
    cases p <;> simp at hp ⊢
  · intro s levels brief hw hon
    have hout := outside_sampleSteps (fun p => levels.getLsbD p != brief.getLsbD p) (s.waitUntil (s.ruling.windowAt + 400)) (List.range 64)
    obtain ⟨hview, -⟩ := foldl_view (view := pinView) List.nodup_range
      (fun s p _ => pinView_sampleStep_self (fun p => levels.getLsbD p != brief.getLsbD p) s p)
      (fun s p _ q hpq => pinView_sampleStep_ne _ s hpq) (s.waitUntil (s.ruling.windowAt + 400))
    refine does_if rfl ⟨hw, hon⟩ ⟨?_, ?_, ?_⟩
    · exact (hout.now (by decide)).trans (now_waitUntil ..)
    · exact ((outside_waitUntil s _).mono (by decide)).andThen hout (by decide)
    · intro p
      have hp := hview p (List.mem_range.mpr p.isLt)
      rw [show (levels.getLsbD p != brief.getLsbD p) = (levels ^^^ brief).getLsbD p by simp [BitVec.getLsbD_xor]] at hp
      have hv : pinView (s.waitUntil (s.ruling.windowAt + 400)) p = pinView s p := by
        rw [pinView, State.pin, (outside_waitUntil s _).fab (by decide)]
        rfl
      rw [hv] at hp
      unfold pinView sampledView at hp
      dsimp only at hp
      constructor
      · intro hm
        rw [if_neg hm] at hp
        simp only [Prod.mk.injEq] at hp
        exact hp.2.2.2.2
      · intro hm
        rw [if_pos hm] at hp
        simp only [Prod.mk.injEq] at hp
        obtain ⟨-, -, -, ha, hpin⟩ := hp
        exact ⟨ha, hpin⟩
  · intro s hp
    refine does_if rfl hp ⟨now_waitUntil .., by simp, ?_⟩
    intro p hp
    cases p <;> simp at hp ⊢

end Sys2Proof.Machine
end

section
/-! What raising an event leaves of the management state (R104 to R109), and the end of a session (R90; obligation O13). -/

namespace Sys2Proof.Machine

variable {s t u : State} {n : Nat}

/-! ### What raising an event keeps -/

/-- A session but for its notifications. -/
def Session.quiet (x : Session) : Session := { x with notes := [] }

/-- Keys, rings, long operations and the sessions but for their notifications are as before. -/
structure Mgmt.Kept (m m' : Mgmt) : Prop where
  sessions : m'.sessions.map Session.quiet = m.sessions.map Session.quiet
  hostKeys : m'.hostKeys = m.hostKeys
  groupKeys : m'.groupKeys = m.groupKeys
  ring : m'.ring = m.ring
  fabQueues : m'.fabQueues = m.fabQueues
  rates : m'.rates = m.rates
  longOps : m'.longOps = m.longOps

theorem Mgmt.Kept.refl (m : Mgmt) : m.Kept m := ⟨rfl, rfl, rfl, rfl, rfl, rfl, rfl⟩

theorem Mgmt.Kept.trans {l m k : Mgmt} (h : l.Kept m) (h' : m.Kept k) : l.Kept k :=
  ⟨h'.sessions.trans h.sessions, h'.hostKeys.trans h.hostKeys, h'.groupKeys.trans h.groupKeys, h'.ring.trans h.ring,
    h'.fabQueues.trans h.fabQueues, h'.rates.trans h.rates, h'.longOps.trans h.longOps⟩

theorem Mgmt.Kept.of_eq {m m' : Mgmt} (h : m' = m) : m.Kept m' := h ▸ .refl m

theorem map_quiet {l : List Session} {f : Session → Session} (h : ∀ x, (f x).quiet = x.quiet) :
    (l.map f).map Session.quiet = l.map Session.quiet := by
  rw [List.map_map]
  exact List.map_congr_left fun x _ => h x

theorem kept_notify (s : State) (m : Mgmt) (r : EvRec) (x : Reach) : m.Kept (notify s m r x) := by
  refine ⟨?_, rfl, rfl, rfl, rfl, rfl, rfl⟩
  refine List.ext_getElem (by simp [notify]) fun i h1 h2 => ?_
  simp only [notify, List.getElem_map, List.getElem_mapIdx]
  split <;> rfl

theorem kept_appendRecord (s : State) (r : EvRec) (x : Reach) (d : Bool) : s.mgmt.Kept (appendRecord s r x d).mgmt := by
  unfold appendRecord
  extract_lets later q move src m
  have hm : s.mgmt.Kept m := ⟨map_quiet fun _ => rfl, rfl, rfl, rfl, rfl, rfl, rfl⟩
  cases d
  case false => exact hm
  case true => exact hm.trans (kept_notify s m q x)

theorem kept_noteLoss (s : State) : s.mgmt.Kept (noteLoss s).mgmt := ⟨rfl, rfl, rfl, rfl, rfl, rfl, rfl⟩

theorem kept_enqueueRecord (s : State) (r : EvRec) (x : Reach) (d : Bool) : s.mgmt.Kept (enqueueRecord s r x d).mgmt := by
  unfold enqueueRecord
  split
  · exact ⟨map_quiet fun _ => rfl, rfl, rfl, rfl, rfl, rfl, rfl⟩
  · split
    · exact kept_appendRecord s r x d
    · split
      · refine .trans ?_ (kept_appendRecord _ r x d)
        exact ⟨rfl, rfl, rfl, rfl, rfl, rfl, rfl⟩
      · exact kept_noteLoss s

theorem kept_latchBits (s : State) (i a b : Nat) : s.mgmt.Kept (s.latchBits i a b).mgmt := ⟨rfl, rfl, rfl, rfl, rfl, rfl, rfl⟩

theorem kept_foldl {α : Type} {f : State → α → State} (h : ∀ (s : State) x, s.mgmt.Kept (f s x).mgmt) (l : List α) (s : State) :
    s.mgmt.Kept (l.foldl f s).mgmt := by
  induction l generalizing s with
  | nil => exact .refl _
  | cons x xs ih => exact (h s x).trans (ih _)

theorem kept_driveRoutes (s : State) (k : Nat) : s.mgmt.Kept (driveRoutes s k).mgmt := by
  unfold driveRoutes
  extract_lets idx line w cl
  have hw : s.mgmt.Kept w.mgmt := by
    unfold w
    split
    · refine kept_foldl (fun (s : State) b => ?_) _ s
      split
      · exact kept_latchBits ..
      · exact .refl _
    · exact .refl _
  split
  · exact hw
  · exact hw.trans ⟨rfl, rfl, rfl, rfl, rfl, rfl, rfl⟩

theorem kept_raiseRecord (s : State) (r : EvRec) (x : Reach) : s.mgmt.Kept (raiseRecord s r x).mgmt := by
  unfold raiseRecord
  extract_lets v on w
  have hw : s.mgmt.Kept w.mgmt := by
    unfold w
    split
    · exact kept_enqueueRecord v r x on
    · exact .refl _
  split
  · exact hw.trans (kept_driveRoutes ..)
  · exact hw

theorem kept_raiseWith (s : State) (r : EvRec) (x : Reach) : s.mgmt.Kept (raiseWith s r x).mgmt := by
  unfold raiseWith
  extract_lets v k m w
  split
  · exact (kept_raiseRecord s r x).trans (.trans (m := w.mgmt) ⟨rfl, rfl, rfl, rfl, rfl, rfl, rfl⟩ (kept_raiseRecord ..))
  · exact kept_raiseRecord s r x

theorem kept_raise (s : State) (k unit : Nat) (b : List Byte) : s.mgmt.Kept (s.raise k unit b).mgmt := kept_raiseWith ..

theorem quiet_ses (h : s.mgmt.Kept t.mgmt) (n : Nat) : (t.ses n).quiet = (s.ses n).quiet := by
  have hq := congrArg (fun l => l.getD n ({} : Session).quiet) h.sessions
  simpa [State.ses, List.getD_eq_getElem?_getD, Option.getD_map] using hq

theorem kept_dropStaged (s : State) (p : Staged → Bool) : s.mgmt.Kept (dropStaged s p).mgmt :=
  kept_foldl (fun s _ => kept_raise s ..) _ ({ s with cap := { s.cap with staged := s.cap.staged.filter fun x => !p x } })

/-! ### The end of a session -/

theorem cap_dropStaged (s : State) (p : Staged → Bool) :
    (dropStaged s p).cap = { s.cap with staged := s.cap.staged.filter fun x => !p x } := by
  unfold dropStaged
  exact foldl_cap _ _ _ fun s x => by simp

theorem num_dropStaged (s : State) (p : Staged → Bool) {i a : Nat} (ha : a < 256) (hi : i < 0x0E0000) :
    (dropStaged s p).num i a = s.num i a :=
  foldl_keeps (·.num i a) (fun _ _ _ => num_raise (by decide) _ _ ha (.inl hi))
    ({ s with cap := { s.cap with staged := s.cap.staged.filter fun x => !p x } })

theorem getD_lmod_const {α : Type} (l : List α) (i : Nat) (x d : α) (h : x = d) : (lmod l i fun _ => x).getD i d = d := by
  rw [lmod, List.getD_eq_getElem?_getD, List.getElem?_modify_eq]
  cases l[i]? with
  | none => rfl
  | some y => exact h

theorem ses_freeSession (s : State) (n : Nat) : (freeSession s n).ses n = {} := by
  unfold freeSession State.setSes State.ses
  exact getD_lmod_const _ n _ _ rfl

theorem num_freeSession_fields (s : State) (n : Nat) (l : List Nat) {i a : Nat} (ha : a < 256) (h : ∀ k ∈ l, k < 200)
    (hi : sesIdx n ≠ i ∨ ∀ k ∈ l, k + 1 ≠ a) (hn : n < 8) :
    (l.foldl (fun s i => if i + 1 = 7 then s else s.put (sesIdx n) (i + 1) 0) s).num i a = s.num i a := by
  refine foldl_keeps (·.num i a) (fun s k hk => ?_) s
  have := h k hk
  split
  · rfl
  · refine num_put_of_apart (by omega) ha (hi.imp id fun h => h k hk) (by simp only [sesIdx]; omega)

theorem sesState_freeSession (s : State) (hn : n < 8) : (freeSession s n).sesState n = 0 := by
  have hf : ((List.range 8).foldl (fun s i => if i + 1 = 7 then s else s.put (sesIdx n) (i + 1) 0) s).num (sesIdx n) 1 = 0 := by
    refine (num_freeSession_fields (s.put (sesIdx n) 1 0) n [1, 2, 3, 4, 5, 6,
      7] (by decide) (by decide) (.inr (by decide)) hn).trans ?_
    exact num_put_self ..
  refine (num_putOct_of_apart (by decide) (by decide) (by simp) (by simp)).trans hf

theorem num_freeSession_ne (s : State) {i a : Nat} (hn : n < 8) (ha : a < 256) (hi : sesIdx n ≠ i) :
    (freeSession s n).num i a = s.num i a := by
  refine (num_putOct_of_apart (by decide) ha (.inl hi) (.inl hi)).trans ?_
  exact num_freeSession_fields s n _ ha (fun k hk => by have := List.mem_range.mp hk; omega) (.inl hi) hn

/-- The keys of a session that has ended are gone, whatever is raised then. -/
theorem keys_of_quiet {x : Session} (h : x.quiet = ({} : Session).quiet) : x.kH2d = [] ∧ x.kD2h = [] :=
  ⟨congrArg Session.kH2d h, congrArg Session.kD2h h⟩

/-- A free slot without keys, before and after events. -/
theorem gone_of_freeSession {w : State} (hn : n < 8) (hs : w.num (sesIdx n) 1 = (freeSession s n).num (sesIdx n) 1)
    (hm : (freeSession s n).mgmt.Kept w.mgmt) : w.sesState n = 0 ∧ (w.ses n).quiet = ({} : Session).quiet := by
  refine ⟨hs.trans (sesState_freeSession s hn), ?_⟩
  rw [quiet_ses hm, ses_freeSession]

theorem closed_closeSession (s : State) (hn : n < 8) (cause : Nat) : Closed s (closeSession s n cause) n := by
  have hi : sesIdx n < 0x0E0000 := by simp only [sesIdx]; omega
  have hg := gone_of_freeSession (s := orphanCmds s n) (w := closeSession s n cause) hn
    ((num_raise (by decide) _ _ (by decide) (.inl hi)).trans (num_dropStaged _ _ (by decide) hi))
    ((kept_dropStaged ..).trans (kept_raise ..))
  obtain ⟨h0, hq⟩ := hg
  obtain ⟨hk, hd⟩ := keys_of_quiet hq
  refine ⟨h0, hk, hd, ?_, ?_⟩
  · have hc : (closeSession s n cause).cap.staged = (orphanCmds s n).cap.staged.filter fun x => !isSession n x.who := by
      unfold closeSession
      rw [(outside_raise _ _ _ _).cap (by decide), cap_dropStaged]
      simp
    rw [hc]
    intro x hx
    simpa using (List.mem_filter.mp hx).2
  · unfold closeSession
    simp [orphanCmds]

theorem discardHalfOpen_spec (s : State) (hn : n < 8) (st : Nat) :
    (discardHalfOpen s n st).sesState n = 0 ∧ ((discardHalfOpen s n st).ses n).quiet = ({} : Session).quiet ∧
    Outside [.cat, .mgmt] s (discardHalfOpen s n st) := by
  have hi : sesIdx n < 0x0E0000 := by simp only [sesIdx]; omega
  obtain ⟨h0, hq⟩ := gone_of_freeSession (s := s) (w := discardHalfOpen s n st) hn
    (num_raise (by decide) _ _ (by decide) (.inl hi)) (kept_raise ..)
  refine ⟨h0, hq, fun p hp => ?_⟩
  cases p <;> simp at hp ⊢

/-- Settles O13. -/
theorem sessionsEnd : Obligations.SessionsEnd := by
  unfold Obligations.SessionsEnd
  refine ⟨?_, ?_, ?_, ?_⟩
  · intro s n h
    obtain ⟨h1, hq, hout⟩ := discardHalfOpen_spec (s.waitUntil ((s.ses n).openedAt + second)) n.isLt stTooLate
    obtain ⟨hk, hd⟩ := keys_of_quiet hq
    refine does_if rfl h ⟨?_, h1, hk, hd, ?_⟩
    · exact (hout.now (by decide)).trans (now_waitUntil ..)
    · exact ((outside_waitUntil s _).mono (by decide)).andThen hout (by decide)
  · intro s n h
    obtain ⟨h1, h2, h3, h4, h5⟩ := closed_closeSession (s.waitUntil ((s.ses n).heardAt + s.num 0x010018 1 * second)) n.isLt 1
    refine does_if rfl h ⟨?_, h1, h2, h3, h4, ?_⟩
    · simp [second]
    · rw [h5]
      simp
  · intro s r n hw h
    have he : (forceCloseRule n).apply s false (carried r) (.num 1) = { s := closeSession s n 2 } := by
      simp [forceCloseRule, valNum, endSession, h]
    obtain ⟨h1, h2, h3, h4, h5⟩ := closed_closeSession s n.isLt 2
    refine does_write rfl hw he fun u hu => ⟨hu.ok, ?_, ?_, ?_, ?_, ?_, ?_⟩
    · rw [hu.now]
      simp
    · exact (hu.num ..).trans h1
    · rwa [State.ses, hu.mgmt]
    · rwa [State.ses, hu.mgmt]
    · rwa [hu.cap]
    · rwa [hu.ruling]
  · intro s n h h6
    exact does_if rfl ⟨h, h6⟩ ⟨by simp, closed_closeSession s n.isLt 4⟩

end Sys2Proof.Machine
end

section
/-! A read over CAP, step by step, and a malformed frame (R56 to R61, R100, R101; obligation O10). -/

namespace Sys2Proof.Machine

variable {s t u : State} {f : TxFrame} {key : Nat}

/-! ### What serving a frame leaves alone -/

/-- What entries below the frame counters read from, and whether areas are served, are as before. -/
structure ReadsAlike (s t : State) : Prop where
  outside : Outside [.cat, .cap, .mgmt, .upd] s t
  entries : EntriesOutside [(0x010004, 0x010004)] s t
  users : t.cap.users = s.cap.users
  phase : t.cap.phase = s.cap.phase

theorem ReadsAlike.refl (s : State) : ReadsAlike s s := ⟨.refl _ _, .refl _ _, rfl, rfl⟩

theorem ReadsAlike.trans (h : ReadsAlike s t) (h' : ReadsAlike t u) : ReadsAlike s u :=
  ⟨h.outside.trans h'.outside, h.entries.trans h'.entries, h'.users.trans h.users, h'.phase.trans h.phase⟩

theorem ReadsAlike.count (s : State) {a w n : Nat} (ha : a < 256) : ReadsAlike s (s.count 0x010004 a w n) :=
  ⟨(outside_count s _ _ _ _).mono (by decide), entriesOutside_count _ _ _ _ _ ha ⟨_, .head _, by decide, by decide⟩, rfl, rfl⟩

theorem ReadsAlike.setCap (s : State) {f : Cap → Cap} (hu : (f s.cap).users = s.cap.users)
    (hp : (f s.cap).phase = s.cap.phase) :
    ReadsAlike s (s.setCap f) := by
  refine ⟨fun p hp => ?_, .of_cat rfl, hu, hp⟩
  cases p <;> simp [State.setCap] at hp ⊢

theorem ReadsAlike.num (h : ReadsAlike s t) {i a : Nat} (ha : a < 256) (hi : i ≠ 0x010004) : t.num i a = s.num i a :=
  num_outside h.entries (h.outside.unit (by decide)) (h.outside.pwr (by decide)) (h.outside.cfg (by decide)) i a ha
    (by simp; omega)

theorem ReadsAlike.val (h : ReadsAlike s t) {k : Nat} (hk : k / 256 ≠ 0x010004) : t.val k = s.val k := by
  refine val_congr s t k (h.entries _ (by simp; omega)) (fun b _ hb => h.entries _ ?_) (h.outside.unit (by decide)) ?_ ?_ ?_
  · rw [ent_div _ _ (by omega)]
    simp
    omega
  · rw [h.outside.pwr (by decide)]
  · rw [h.outside.pwr (by decide)]
  · rw [h.outside.cfg (by decide)]

/-! ### Reading an entry of the identity area -/

theorem length_fields_catalogue : catalogue.all (fun r => r.fields.length ≤ 256) = true := by decide

theorem length_recordFields (k : Nat) : (recordFields k).length ≤ 255 := by
  unfold recordFields
  cases h : recAt (k / 256) with
  | none => simp
  | some r =>
    have hr := List.all_eq_true.mp length_fields_catalogue r (List.mem_of_find?_eq_some h)
    have hl : r.fields.length ≤ 256 := by simpa using hr
    simp
    omega

theorem readField_low {k : Nat} (hk : k / 256 < 0x020000) (s : State) : readField s k = s.val k := by
  have h : k / 256 / 0x10000 = 0 ∨ k / 256 / 0x10000 = 1 := by omega
  unfold readField
  rcases h with h | h <;> simp only [h, Option.getD_none]

theorem ReadsAlike.defaultVal (h : ReadsAlike s t) {k : Nat} (hk : k / 256 < 0x010004) : defaultVal t k = defaultVal s k := by
  have n1 : ¬(0x040100 ≤ k / 256 ∧ k / 256 ≤ 0x040107) := by omega
  have n2 : ¬(0x0A0010 ≤ k / 256 ∧ k / 256 ≤ 0x0A0013 ∧ 7 ≤ k % 256 ∧ k % 256 ≤ 9) := by omega
  have hu : unitDefault t (k / 256) (k % 256) = unitDefault s (k / 256) (k % 256) := by
    simp only [unitDefault, h.outside.unit (by decide), h.outside.pwr (by decide), h.outside.cfg (by decide), n1, n2, if_false]
  simp only [Machine.defaultVal, hu]

theorem ReadsAlike.fieldBytes (h : ReadsAlike s t) {k : Nat} (hk : k / 256 < 0x010004) (f : Field) :
    fieldBytes t k f = fieldBytes s k f := by
  have hr : readField t k = readField s k := by
    rw [readField_low (by omega), readField_low (by omega), h.val (by omega)]
  simp only [Machine.fieldBytes, hr, h.defaultVal hk]

theorem ReadsAlike.readBytes (h : ReadsAlike s t) (hk : key / 256 ≤ 0x00FFFF) : readBytes t key = readBytes s key := by
  unfold Machine.readBytes
  split
  · rfl
  · next f _ =>
    split
    · refine congrArg List.flatten (List.ext_getElem (by simp) fun i h1 h2 => ?_)
      have hl := length_recordFields key
      have hi : i < (recordFields key).length := by simpa using h1
      simp only [List.getElem_mapIdx]
      exact h.fieldBytes (by omega) _
    · rw [readField_low (by omega), readField_low (by omega), h.val (by omega)]

theorem ReadsAlike.ownerOf (h : ReadsAlike s t) (k : Nat) : ownerOf t k = ownerOf s k := by
  have hr : rangeOwner t (k / 256) = rangeOwner s (k / 256) := by
    have hq : ∀ q a, a < 256 → t.num (0x011000 + q) a = s.num (0x011000 + q) a := fun q a ha => h.num ha (by omega)
    simp only [rangeOwner, State.flag, hq _ 1 (by decide), hq _ 2 (by decide), hq _ 3 (by decide), hq _ 4 (by decide)]
  simp only [Machine.ownerOf, hr, userEntry, h.users]

theorem isUser_low (hk : key / 256 ≤ 0x00FFFF) : isUser key = false := by
  simp [isUser]
  omega

theorem ReadsAlike.seen (h : ReadsAlike s t) (hk : key / 256 ≤ 0x00FFFF) : seen t key = seen s key := by
  have he : entryExists t key = entryExists s key := by
    rw [entryExists, h.outside.unit (by decide), entryExists]
  rw [Machine.seen, Machine.seen, isUser_low hk, if_neg Bool.false_ne_true, if_neg Bool.false_ne_true, he, h.ownerOf]

theorem areaReady_low (s : State) (hk : key / 256 ≤ 0x00FFFF) : areaReady s key = true := by
  have h : key / 16777216 ≤ 2 := by omega
  simp [areaReady, earlyArea, h]

/-! ### The MGC's steps -/

/-- The read record of a SESSION 0 frame. -/
def readRec (key : Nat) : ReqRec := { op := 1, rflags := 0, key := key, value := [] }

/-- Checks 6 to 10 pass a read of an entry that may be read (R59, R60). -/
theorem fullCheck_read {w : FrameWork} {x : Seen} (hwho : w.who = .service) (htoe : fToe w.frame.bytes = .none)
    (hk : key / 256 ≤ 0x00FFFF) (hx : seen t key = some x) (ha : x.field.acc ≠ .wo) (hp : x.priv = false)
    (ho : x.field.ty ≠ .octets) : fullCheck t w (readRec key) = none := by
  have hc : carryCheck t w (readRec key) = none := by
    simp [carryCheck, hwho, readRec, entryOp, sessionless, opRead, hk]
  have hr : recordCheck t w.req (toeBad w.frame.bytes) (readRec key) key = none := by
    simp [recordCheck, areaReady_low t hk, isUser_low hk, hx, readAccess, ha, hp, readRec, opRead, FrameWork.req, htoe, ho]
  unfold fullCheck
  rw [hc]
  simp only [readRec, entryOp, FrameWork.entry, FrameWork.slot, hwho]
  exact hr

theorem runRecord_read {w : FrameWork} {x : Seen} (hwho : w.who = .service) (htoe : fToe w.frame.bytes = .none)
    (hk : key / 256 ≤ 0x00FFFF) (hx : seen t key = some x) (ha : x.field.acc ≠ .wo) (hp : x.priv = false)
    (ho : x.field.ty ≠ .octets) : runRecord t w (readRec key) = (t, some (stOk, 0, readBytes t key)) := by
  have hf : recordFault t w (readRec key) = none := by
    unfold recordFault
    split
    · rfl
    · exact fullCheck_read hwho htoe hk hx ha hp ho
  have he : w.entry t (readRec key) = some key := by simp only [FrameWork.entry, FrameWork.slot, hwho]; rfl
  unfold runRecord
  rw [hf, he]
  simp [readRec, entryOp, tooLong, isUser_low hk, runEntry, opWrite, opSegWrite, opDescribe, opRead]

/-- A frame that is answered over the network, without a trailer, to its sender alone. -/
structure Plain (f : TxFrame) : Prop where
  port : f.port ≠ .svc
  mcast : fMcast f.bytes = false
  crit : fCrit f.bytes = false

theorem length_be (n v : Nat) : (be n v).length = n := by
  induction n with
  | zero => rfl
  | succ n ih => simp [be, ih]

theorem length_respRecord (op rf k st d : Nat) (v : List Byte) : (respRecord op rf k st d v).length = 14 + v.length := by
  simp [respRecord, length_be]
  omega

/-- A read answered: its record stands in the response. -/
def answered (w : FrameWork) (out : List Byte) : FrameWork :=
  { w with out := out, count := 1, waiting := false, reply := none, uncached := w.uncached || keepsOut .service 1 stOk }

/-- The record under way waits, until it is answered. -/
def markWaiting (c : Cap) : Cap := { c with work := c.work.map fun v => { v with waiting := true } }

theorem stepWork_read {w : FrameWork} {x : Seen} {v : List Byte} (hw : t.cap.work = some w) (hf : fCrit w.frame.bytes = false)
    (hr : w.recs = [readRec key])
    (h0 : w.count = 0) (hrep : w.reply = none) (hout : w.out = []) (hwho : w.who = .service)
    (htoe : fToe w.frame.bytes = .none) (hk : key / 256 ≤ 0x00FFFF) (hx : seen t key = some x) (ha : x.field.acc ≠ .wo)
    (hp : x.priv = false) (ho : x.field.ty ≠ .octets) (hv : readBytes t key = v) (hl : 50 + v.length ≤ 8192) :
    stepWork t w = t.setCap fun c => { c with work := some (answered w (respRecord 1 0 key stOk 0 v)) } := by
  have hg : ReadsAlike t (t.setCap markWaiting) := .setCap t rfl rfl
  have hrun := runRecord_read (t := t.setCap markWaiting) hwho htoe hk ((hg.seen hk).trans hx) ha hp ho
  rw [hg.readBytes hk, hv] at hrun
  have hans : answerRecord w (readRec key) (stOk, 0, v) = respRecord 1 0 key stOk 0 v := by
    refine if_neg ?_
    simp [sizeWith, trailerLen, hf, hout, hr, h0]
    omega
  have he : stepWork t w = putAnswer (t.setCap markWaiting) w (readRec key) (stOk, 0, v) := by
    unfold stepWork
    rw [hr, h0, hrep]
    simp only [List.getElem?_cons_zero]
    change (match (runRecord (t.setCap markWaiting) w (readRec key)).2 with
      | some a => putAnswer (runRecord (t.setCap markWaiting) w (readRec key)).1 w (readRec key) a
      | none => (runRecord (t.setCap markWaiting) w (readRec key)).1) = _
    rw [hrun]
  rw [he]
  simp only [putAnswer, State.setCap, markWaiting, hw, Option.map_some, hans, hout, h0, List.nil_append, hwho, answered]
  rfl

/-- The frame as its response leaves. -/
def replied (s : State) (w : FrameWork) : TxFrame :=
  { w.frame with bytes := respHead s w.frame 0 (36 + w.out.length) ++ w.out }

theorem respond_plain {resp : List Byte} (hf : Plain f) :
    respond s f resp = sendCap (s.count 0x010004 5 64 1) { f with bytes := resp } := by
  have he : ¬((!fMcast f.bytes) = false) := by simp [hf.mcast]
  unfold respond emit
  simp [hf.mcast, hf.port]

theorem finishFrame_plain {w : FrameWork} (hf : Plain w.frame) (hwho : w.who = .service) :
    ReadsAlike s (finishFrame s w) ∧ (finishFrame s w).cap.sent = s.cap.sent ++ [replied s w] ∧
    (finishFrame s w).num 0x010004 5 = (s.num 0x010004 5 + 1) % 2 ^ 64 ∧
    (finishFrame s w).num 0x010004 1 = s.num 0x010004 1 ∧
    (finishFrame s w).cap.work = none ∧ (finishFrame s w).cap.inbox = s.cap.inbox ∧
    (finishFrame s w).cap.clientWait = s.cap.clientWait := by
  obtain ⟨z, hz, hza, hzs, hzw, hzi, hzc, hzn⟩ : ∃ z, cacheResp (s.setCap fun c => { c with work := none }) w (replied s w).bytes = z ∧
      ReadsAlike s z ∧ z.cap.sent = s.cap.sent ∧ z.cap.work = none ∧ z.cap.inbox = s.cap.inbox ∧
      z.cap.clientWait = s.cap.clientWait ∧ ∀ i a, z.num i a = s.num i a := by
    refine ⟨_, rfl, ?_⟩
    unfold cacheResp
    extract_lets f x
    rw [hwho]
    split
    · exact ⟨.setCap s rfl rfl, rfl, rfl, rfl, rfl, fun _ _ => rfl⟩
    · exact ⟨(ReadsAlike.setCap s rfl rfl).trans (.setCap _ rfl rfl), rfl, rfl, rfl, rfl, fun _ _ => rfl⟩
  have he : finishFrame s w = (sendCap (z.count 0x010004 5 64 1) (replied s w)).setCap fun c =>
      { c with listen := (sendCap (z.count 0x010004 5 64 1) (replied s w)).num 0x010001 1 } := by
    have hb : respHead (s.setCap fun c => { c with work := none }) w.frame 0 (36 + w.out.length) ++ w.out = (replied s w).bytes := rfl
    simp only [finishFrame, hf.crit, Bool.false_eq_true, if_false, Nat.add_zero, FrameWork.slot, hwho, hb, hz, respond_plain hf]
    rfl
  rw [he]
  refine ⟨?_, ?_, ?_, ?_, hzw, hzi, hzc⟩
  · refine (hza.trans (.count z (a := 5) (w := 64) (n := 1) (by decide))).trans (ReadsAlike.trans (t := sendCap (z.count 0x010004 5 64 1) (replied s w)) ?_
      (.setCap _ rfl rfl))
    exact .setCap _ (f := fun c => { c with sent := c.sent ++ [replied s w] }) rfl rfl
  · exact congrArg (· ++ _) hzs
  · exact (num_count_self z 0x010004 5 64 1).trans (by rw [hzn])
  · have hc : (z.count 0x010004 5 64 1).num 0x010004 1 = z.num 0x010004 1 :=
      num_count_of_apart (by decide) (by decide) (by decide) (by decide)
    exact hc.trans (hzn ..)

/-! ### A frame begins -/

theorem lapse_eq_self (hn : ∀ n, n < 8 → t.sesState n = 0) (hs : t.cap.staged = []) : lapse t = t := by
  have hf : ∀ n ∈ List.range 8, (if t.sesState n = 1 ∧ (t.ses n).openedAt + second < t.now then discardHalfOpen t n stTooLate
      else if sesOpen t n ∧ t.num (sesIdx n) 6 = 2 ^ 64 - 1 then closeSession t n 4
      else if sesOpen t n ∧ (t.ses n).heardAt + t.num 0x010018 1 * second < t.now then closeSession t n 1 else t) = t := by
    intro n h
    have h0 := hn n (List.mem_range.mp h)
    simp [h0, sesOpen]
  have hd : ∀ p : Staged → Bool, dropStaged t p = t := fun p => by
    have hk : (t.cap.staged.filter fun x => !p x) = t.cap.staged := by rw [hs]; rfl
    unfold dropStaged
    rw [hk]
    simp only [hs, List.filter_nil, List.foldl_nil]
    rw [← hs]
  unfold lapse
  rw [foldl_eq_self hf]
  exact hd _

theorem rateSlot_none {b : List Byte} (hs : fSession b = 0) : rateSlot t b = none := by
  simp [rateSlot, hs]

/-- Check 3 admits a read of a served MGC: its tokens are taken. -/
theorem check3_read (hp : t.cap.phase = .unsealed ∨ t.cap.phase = .served) (hb : bucketHint (refill t) f.bytes = none)
    (ho : holdsOp f.bytes opOpen = false) (hf : f.port ≠ .svc) :
    check3 t f = (takeTokens (refill t) f.bytes, none) := by
  have hready : (t.cap.phase == .unsealed || t.cap.phase == .served || identityFrame f.bytes) = true := by
    rcases hp with h | h <;> simp [h]
  unfold check3
  simp only [hready, Bool.not_true, Bool.false_eq_true, if_false, hf, hb, admitOpen, ho, Bool.not_false, if_true]

theorem check45_read (hm : fMcast f.bytes = false) (hs : fSession f.bytes = 0) (hc : fCrit f.bytes = false) :
    check45 t f = (t, none, .service) := by
  simp [check45, hm, hs, hc]

theorem beginWork_read (hm : fMcast f.bytes = false) (ha : fAtomic f.bytes = false) :
    beginWork t f .service = t.setCap fun c => { c with work := some { frame := f } } := by
  simp [beginWork, hm, ha]

/-- Nothing has left or been queued, and every entry reads as before. -/
structure Unsent (s t : State) : Prop where
  reads : ReadsAlike s t
  sent : t.cap.sent = s.cap.sent
  inbox : t.cap.inbox = s.cap.inbox
  clientWait : t.cap.clientWait = s.cap.clientWait
  num : ∀ i a, t.num i a = s.num i a

theorem Unsent.trans (h : Unsent s t) (h' : Unsent t u) : Unsent s u :=
  ⟨h.reads.trans h'.reads, h'.sent.trans h.sent, h'.inbox.trans h.inbox, h'.clientWait.trans h.clientWait,
    fun i a => (h'.num i a).trans (h.num i a)⟩

theorem Unsent.setCap (s : State) {f : Cap → Cap} (hu : (f s.cap).users = s.cap.users) (hp : (f s.cap).phase = s.cap.phase)
    (hs : (f s.cap).sent = s.cap.sent) (hi : (f s.cap).inbox = s.cap.inbox) (hc : (f s.cap).clientWait = s.cap.clientWait) :
    Unsent s (s.setCap f) :=
  ⟨.setCap s hu hp, hs, hi, hc, fun _ _ => rfl⟩

theorem unsent_refill (t : State) : Unsent t (refill t) := by
  refine ⟨⟨fun p hp => ?_, .of_cat rfl, rfl, rfl⟩, rfl, rfl, rfl, fun _ _ => rfl⟩
  cases p <;> simp at hp ⊢

theorem unsent_takeTokens (t : State) {b : List Byte} (hs : fSession b = 0) : Unsent t (takeTokens t b) := by
  have hdev : Unsent t (t.setCap fun c => { c with tokensDev := c.tokensDev - token }) := .setCap t rfl rfl rfl rfl rfl
  unfold takeTokens
  simp only [rateSlot_none hs]
  generalize t.setCap (fun c => { c with tokensDev := c.tokensDev - token }) = z at hdev ⊢
  split
  · exact hdev.trans (.setCap z (f := fun c => { c with tokens0 := c.tokens0 - token }) rfl rfl rfl rfl rfl)
  · exact hdev

theorem startFrame_read (hf : Plain f) (hwf : wellFormedFrame f.bytes = true) (hs : fSession f.bytes = 0)
    (ha : fAtomic f.bytes = false) (hdom : fDomain f.bytes = t.num 0x010001 3) (hdest : fDest f.bytes = t.num 0x010001 2)
    (hrun : t.num 0x100000 0x0D = 0) (hc : cachedFor t f = none) (hn : ∀ n, n < 8 → t.sesState n = 0)
    (hst : t.cap.staged = []) (hb : bucketHint (refill t) f.bytes = none) (ho : holdsOp f.bytes opOpen = false)
    (hp : t.cap.phase = .unsealed ∨ t.cap.phase = .served) :
    startFrame t f = (takeTokens (refill t) f.bytes).setCap fun c => { c with work := some { frame := f } } := by
  unfold startFrame
  rw [lapse_eq_self hn hst]
  simp only [hwf, hdom, hdest, hf.mcast, hrun, hc, check3_read hp hb ho hf.port, check45_read hf.mcast hs hf.crit,
    beginWork_read hf.mcast ha]
  simp

/-! ### Running -/

theorem mgcStep_frame {i : List TxFrame} (hc : t.cap.clientWait = []) (hw : t.cap.work = none) (hi : t.cap.inbox = f :: i) :
    mgcStep t = some (startFrame (t.setCap fun c => { c with inbox := i }) f) := by
  simp only [mgcStep, hc, hw, hi]

theorem mgcStep_work {w : FrameWork} (hc : t.cap.clientWait = []) (hw : t.cap.work = some w) (hn : w.waiting = false) :
    mgcStep t = some (stepWork t w) := by
  simp [mgcStep, hc, hw, hn]

theorem mgcRun_succ {n : Nat} (h : mgcStep t = some u) : mgcRun (n + 1) t = mgcRun n u := by
  simp [mgcRun, h]

theorem bucketHint_congr {b : List Byte} (hs : fSession b = 0) (h0 : u.cap.tokens0 = t.cap.tokens0)
    (hd : u.cap.tokensDev = t.cap.tokensDev) : bucketHint u b = bucketHint t b := by
  simp only [bucketHint, rateSlot_none hs, h0, hd]

theorem cachedFor_congr (hs : fSession f.bytes = 0) (hc : u.cap.cache0 = t.cap.cache0) (hn : u.now = t.now) :
    cachedFor u f = cachedFor t f := by
  simp only [cachedFor, hs, if_true, keepCached, hc, hn]

/-- A frame that has arrived at an idle MGC, as the MGC takes it up. -/
def arrived (s : State) : State := (s.count 0x010004 1 64 1).setCap fun c => { c with inbox := [] }

theorem queueFrame_idle (h : MgcIdle s) : queueFrame s f = mgcRun 515 (startFrame (arrived s) f) := by
  obtain ⟨hc, hw, hi⟩ := h
  have hs : mgcStep ((s.count 0x010004 1 64 1).setCap fun c => { c with inbox := c.inbox ++ [f] }) =
      some (startFrame (arrived s) f) :=
    mgcStep_frame hc hw (by rw [show ((s.count 0x010004 1 64 1).setCap fun c => { c with inbox := c.inbox ++ [f] }).cap.inbox =
      s.cap.inbox ++ [f] from rfl, hi]; rfl)
  have hl : 258 * (((s.count 0x010004 1 64 1).setCap fun c => { c with inbox := c.inbox ++ [f] }).cap.inbox.length + 1) +
      ((s.count 0x010004 1 64 1).setCap fun c => { c with inbox := c.inbox ++ [f] }).cap.clientWait.length = 515 + 1 := by
    rw [show ((s.count 0x010004 1 64 1).setCap fun c => { c with inbox := c.inbox ++ [f] }).cap.inbox =
      s.cap.inbox ++ [f] from rfl, show ((s.count 0x010004 1 64 1).setCap fun c => { c with inbox := c.inbox ++ [f] }).cap.clientWait =
      s.cap.clientWait from rfl, hi, hc]
    rfl
  unfold queueFrame pump
  rw [hl, mgcRun_succ hs]

theorem arrive_answered {port : MgtPort} {k : Nat} {d : Datagram} (ha : capAnswers s = true) (hr : reaches s k d = true)
    (hm : strayGroup s d = false) :
    arrive s port k d = queueFrame s { port := port, ip := d.srcIp, udp := d.srcUdp, bytes := d.bytes } := by
  simp [arrive, ha, hr, hm]

theorem execCapFrame_arrives {port : MgtPort} {d : Datagram} (h : Arrives s port d) (ha : capAnswers s = true)
    (hm : strayGroup s d = false) : exec (.capFrame port d) s = .next (queueFrame s (received port d)) := by
  rcases h with ⟨rfl, hr⟩ | ⟨rfl, hr⟩
  · exact congrArg Host.Outcome.next (arrive_answered ha hr hm)
  · exact congrArg Host.Outcome.next (arrive_answered ha hr hm)

theorem port_of_arrives {port : MgtPort} {d : Datagram} (h : Arrives s port d) : port ≠ .svc := by
  rcases h with ⟨rfl, _⟩ | ⟨rfl, _⟩ <;> decide

/-- The frames that wait and that have left are as before. -/
def FramesKept (s t : State) : Prop :=
  t.cap.sent = s.cap.sent ∧ t.cap.inbox = s.cap.inbox ∧ t.cap.work = s.cap.work ∧ t.cap.clientWait = s.cap.clientWait ∧
  ∀ a, a < 256 → t.num 0x010004 a = s.num 0x010004 a

theorem FramesKept.refl (s : State) : FramesKept s s := ⟨rfl, rfl, rfl, rfl, fun _ _ => rfl⟩

theorem FramesKept.trans (h : FramesKept s t) (h' : FramesKept t u) : FramesKept s u := by
  obtain ⟨h1, h2, h3, h4, h5⟩ := h
  obtain ⟨k1, k2, k3, k4, k5⟩ := h'
  exact ⟨k1.trans h1, k2.trans h2, k3.trans h3, k4.trans h4, fun a ha => (k5 a ha).trans (h5 a ha)⟩

theorem framesKept_dropStaged (s : State) (p : Staged → Bool) : FramesKept s (dropStaged s p) := by
  refine ⟨?_, ?_, ?_, ?_, fun a ha => num_dropStaged s p ha (by decide)⟩ <;> rw [cap_dropStaged]

theorem framesKept_raise (s : State) {k : Nat} (hk : k < 4096) (unit : Nat) (b : List Byte) : FramesKept s (s.raise k unit b) :=
  ⟨by simp, by simp, by simp, by simp, fun _ ha => num_raise hk _ _ ha (.inl (by decide))⟩

theorem framesKept_freeSession (s : State) {n : Nat} (hn : n < 8) : FramesKept s (freeSession s n) :=
  ⟨by simp, by simp, by simp, by simp, fun _ ha => num_freeSession_ne s hn ha (by simp only [sesIdx]; omega)⟩

theorem framesKept_closeSession (s : State) {n : Nat} (hn : n < 8) (c : Nat) : FramesKept s (closeSession s n c) := by
  have ho : FramesKept s (orphanCmds s n) := ⟨rfl, rfl, rfl, rfl, fun _ _ => rfl⟩
  exact ((ho.trans (framesKept_freeSession _ hn)).trans (framesKept_dropStaged _ _)).trans (framesKept_raise _ (by decide) _ _)

theorem framesKept_discardHalfOpen (s : State) {n : Nat} (hn : n < 8) (st : Nat) : FramesKept s (discardHalfOpen s n st) :=
  (framesKept_freeSession s hn).trans (framesKept_raise _ (by decide) _ _)

/-- The state in which a transaction of one read is answered, its record done. -/
def readDone (z : State) (w : FrameWork) (out : List Byte) : State :=
  (z.setCap fun c => { c with work := some w }).setCap fun c => { c with work := some (answered w out) }

/-- A transaction of one read runs to its answer. -/
theorem mgcRun_read {z : State} {w : FrameWork} {x : Seen} {v : List Byte} (hf : fCrit w.frame.bytes = false)
    (hwho : w.who = .service)
    (h0 : w.count = 0) (hout : w.out = []) (hr : fRecs w.frame.bytes = some [readRec key]) (hrep : w.reply = none)
    (htoe : fToe w.frame.bytes = .none) (hwt : w.waiting = false) (hk : key / 256 ≤ 0x00FFFF)
    (hx : seen z key = some x) (ha : x.field.acc ≠ .wo) (hp : x.priv = false) (ho : x.field.ty ≠ .octets)
    (hv : readBytes z key = v) (hl : 50 + v.length ≤ 8192) (hc : z.cap.clientWait = []) :
    mgcRun 515 (z.setCap fun c => { c with work := some w }) =
      mgcRun 513 (finishFrame (readDone z w (respRecord 1 0 key stOk 0 v)) (answered w (respRecord 1 0 key stOk 0 v))) := by
  have hrecs : w.recs = [readRec key] := by rw [FrameWork.recs, hr]; rfl
  have hz : ReadsAlike z (z.setCap fun c => { c with work := some w }) := .setCap z rfl rfl
  have hstep := stepWork_read (t := z.setCap fun c => { c with work := some w }) rfl hf hrecs h0 hrep hout hwho htoe hk
    ((hz.seen hk).trans hx) ha hp ho ((hz.readBytes hk).trans hv) hl
  have hone := mgcStep_work (t := z.setCap fun c => { c with work := some w }) hc rfl hwt
  rw [hstep] at hone
  have htwo := mgcStep_work (t := readDone z w (respRecord 1 0 key stOk 0 v)) hc rfl rfl
  have hend : stepWork (readDone z w (respRecord 1 0 key stOk 0 v)) (answered w (respRecord 1 0 key stOk 0 v)) =
      finishFrame (readDone z w (respRecord 1 0 key stOk 0 v)) (answered w (respRecord 1 0 key stOk 0 v)) := by
    have hra : (answered w (respRecord 1 0 key stOk 0 v)).recs = [readRec key] := hrecs
    unfold stepWork
    rw [hra]
    rfl
  rw [hend] at htwo
  rw [mgcRun_succ hone]
  exact mgcRun_succ htwo

/-- A transaction of one read runs to its end. -/
theorem answered_read {z : State} {w : FrameWork} {x : Seen} {v : List Byte} (hf : Plain w.frame) (hwho : w.who = .service)
    (h0 : w.count = 0) (hout : w.out = []) (hr : fRecs w.frame.bytes = some [readRec key]) (hrep : w.reply = none)
    (htoe : fToe w.frame.bytes = .none) (hwt : w.waiting = false) (hk : key / 256 ≤ 0x00FFFF)
    (hx : seen z key = some x) (ha : x.field.acc ≠ .wo) (hp : x.priv = false) (ho : x.field.ty ≠ .octets)
    (hv : readBytes z key = v) (hl : 50 + v.length ≤ 8192) (hc : z.cap.clientWait = []) (hi : z.cap.inbox = []) :
    ∃ u, mgcRun 515 (z.setCap fun c => { c with work := some w }) = u ∧ MgcIdle u ∧
      u.cap.sent = z.cap.sent ++ [replied z (answered w (respRecord 1 0 key stOk 0 v))] ∧
      u.num 0x010004 1 = z.num 0x010004 1 ∧ u.num 0x010004 5 = (z.num 0x010004 5 + 1) % 2 ^ 64 := by
  obtain ⟨-, hs, h5, h1, hwk, hin, hcw⟩ := finishFrame_plain (s := readDone z w (respRecord 1 0 key stOk 0 v))
    (w := answered w (respRecord 1 0 key stOk 0 v)) hf hwho
  have hidle : MgcIdle (finishFrame (readDone z w (respRecord 1 0 key stOk 0 v)) (answered w (respRecord 1 0 key stOk 0 v))) :=
    ⟨hcw.trans hc, hwk, hin.trans hi⟩
  refine ⟨_, rfl, ?_⟩
  rw [mgcRun_read hf.crit hwho h0 hout hr hrep htoe hwt hk hx ha hp ho hv hl hc, hidle.mgcRun_eq_self]
  exact ⟨hidle, hs, h1, h5⟩

/-- What the passing of time ends of one session slot. -/
def lapseSlot (s : State) (n : Nat) : State :=
  if s.sesState n = 1 ∧ (s.ses n).openedAt + second < s.now then discardHalfOpen s n stTooLate
  else if sesOpen s n ∧ s.num (sesIdx n) 6 = 2 ^ 64 - 1 then closeSession s n 4
  else if sesOpen s n ∧ (s.ses n).heardAt + s.num 0x010018 1 * second < s.now then closeSession s n 1
  else s

theorem lapse_eq (s : State) :
    lapse s = dropStaged ((List.range 8).foldl lapseSlot s) fun x => x.since + 10 * second < ((List.range 8).foldl lapseSlot s).now := by
  unfold lapse lapseSlot
  with_reducible rfl

theorem framesKept_lapseSlot (s : State) {n : Nat} (hn : n < 8) : FramesKept s (lapseSlot s n) := by
  unfold lapseSlot
  split
  · exact framesKept_discardHalfOpen s hn _
  · split
    · exact framesKept_closeSession s hn 4
    · split
      · exact framesKept_closeSession s hn 1
      · exact .refl s

theorem framesKept_foldl {α : Type} {g : State → α → State} {l : List α} (h : ∀ s, ∀ x ∈ l, FramesKept s (g s x)) (s : State) :
    FramesKept s (l.foldl g s) := by
  induction l generalizing s with
  | nil => exact .refl s
  | cons x xs ih => exact (h s x (.head _)).trans (ih (fun s y hy => h s y (.tail _ hy)) _)

theorem framesKept_lapse (s : State) : FramesKept s (lapse s) := by
  rw [lapse_eq]
  exact (framesKept_foldl (fun s n hn => framesKept_lapseSlot s (List.mem_range.mp hn)) s).trans (framesKept_dropStaged _ _)

theorem startFrame_malformed (hw : wellFormedFrame f.bytes = false) (hp : f.port ≠ .svc) :
    startFrame t f = (lapse t).count 0x010004 2 64 1 := by
  simp [startFrame, hw, noResponse, hp]

/-- Settles O10: the frame is checked, its record read, and its response sent; each of the three steps is followed. -/
theorem capFramesAnswerOrAreDiscarded : Obligations.CapFramesAnswerOrAreDiscarded := by
  unfold Obligations.CapFramesAnswerOrAreDiscarded
  refine ⟨?read, ?malformed, ?early⟩
  case read =>
    intro s port d key x ha hi hp hwf hm hs hc hat htoe hdom hdest hrun hcached hn hstg hb hrecs hk hx hacc hpriv hty hl
    have hplain : Plain (received port d) := ⟨port_of_arrives ha, hm, hc⟩
    have hcap : capAnswers s = true := by rcases hp with h | h <;> simp [capAnswers, h]
    have hst : strayGroup s d = false := by simp [strayGroup, hm]
    have hop : holdsOp d.bytes opOpen = false := by simp [holdsOp, hrecs, opOpen]
    have harr : ReadsAlike s (arrived s) :=
      (ReadsAlike.count s (a := 1) (w := 64) (n := 1) (by decide)).trans
        (.setCap _ (f := fun c => { c with inbox := [] }) rfl rfl)
    have hbegin : startFrame (arrived s) (received port d) =
        (takeTokens (refill (arrived s)) d.bytes).setCap fun c => { c with work := some { frame := received port d } } := by
      refine startFrame_read hplain hwf hs hat ?_ ?_ ?_ ?_ ?_ hstg ?_ hop hp
      · exact hdom.trans (harr.num (by decide) (by decide)).symm
      · exact hdest.trans (harr.num (by decide) (by decide)).symm
      · exact (harr.num (by decide) (by decide)).trans hrun
      · exact (cachedFor_congr hs rfl rfl).trans hcached
      · exact fun n h => (harr.num (by decide) (by simp only [sesIdx]; omega)).trans (hn n h)
      · exact (bucketHint_congr (u := refill (arrived s)) (t := refill s) (b := d.bytes) hs rfl rfl).trans hb
    have htok : Unsent (arrived s) (takeTokens (refill (arrived s)) d.bytes) := (unsent_refill _).trans (unsent_takeTokens _ hs)
    have h1 : (arrived s).num 0x010004 1 = (s.num 0x010004 1 + 1) % 2 ^ 64 := num_count_self s 0x010004 1 64 1
    have h5 : (arrived s).num 0x010004 5 = s.num 0x010004 5 :=
      num_count_of_apart (s := s) (i := 0x010004) (a := 1) (w := 64) (n := 1) (by decide) (by decide) (by decide) (by decide)
    obtain ⟨hcl, hwk, hin⟩ := hi
    have hsent : (arrived s).cap.sent = s.cap.sent := rfl
    have hcla : (arrived s).cap.clientWait = [] := hcl
    have hina : (arrived s).cap.inbox = [] := rfl
    refine ⟨_, execCapFrame_arrives ha hcap hst, ?_⟩
    rw [queueFrame_idle ⟨hcl, hwk, hin⟩, hbegin]
    generalize takeTokens (refill (arrived s)) d.bytes = z at htok
    generalize arrived s = y at *
    obtain ⟨hreads, hs2, hi2, hc2, hn2⟩ := htok
    have hsz : ReadsAlike s z := harr.trans hreads
    have hread := answered_read (z := z) (w := { frame := received port d }) hplain rfl rfl rfl hrecs rfl htoe rfl hk
      ((hsz.seen hk).trans hx) hacc hpriv hty (hsz.readBytes hk) hl (hc2.trans hcla) (hi2.trans hina)
    obtain ⟨u, hu, hidle, husent, hu1, hu5⟩ := hread
    rw [hu]
    refine ⟨?_, ?_, ?_, hidle⟩
    · rw [husent, hs2, hsent]
      simp only [replied, answered, respHead, frameHead, hsz.num (i := 0x010001) (a := 2) (by decide) (by decide),
        hsz.num (i := 0x010001) (a := 3) (by decide) (by decide), length_respRecord, show ∀ n,
          50 + n = 36 + (14 + n) from fun n => by omega]
      rfl
    · rw [hu1, hn2, h1]
    · rw [hu5, hn2, h5]
  case malformed =>
    intro s port d ha hi hoff hboot hwf
    have hcap : capAnswers s = true := by simp [capAnswers, hoff, hboot]
    have hst : strayGroup s d = false := by simp [strayGroup, hwf]
    have hbegin : startFrame (arrived s) (received port d) = (lapse (arrived s)).count 0x010004 2 64 1 :=
      startFrame_malformed hwf (port_of_arrives ha)
    obtain ⟨hc, hw, hin⟩ := hi
    obtain ⟨k1, k2, k3, k4, k5⟩ := framesKept_lapse (arrived s)
    generalize lapse (arrived s) = w at k1 k2 k3 k4 k5 hbegin
    have hidle : MgcIdle (w.count 0x010004 2 64 1) := ⟨k4.trans hc, k3.trans hw, k2⟩
    refine ⟨_, execCapFrame_arrives ha hcap hst, ?_⟩
    rw [queueFrame_idle ⟨hc, hw, hin⟩, hbegin, hidle.mgcRun_eq_self]
    have h1 : (arrived s).num 0x010004 1 = (s.num 0x010004 1 + 1) % 2 ^ 64 := num_count_self s 0x010004 1 64 1
    have h2 : (arrived s).num 0x010004 2 = s.num 0x010004 2 :=
      num_count_of_apart (s := s) (i := 0x010004) (a := 1) (w := 64) (n := 1) (by decide) (by decide) (by decide) (by decide)
    refine ⟨k1, hidle, ?_, ?_⟩
    · rw [num_count_of_apart (by decide) (by decide) (by decide) (by decide), k5 1 (by decide), h1]
    · rw [num_count_self, k5 2 (by decide), h2]
  case early =>
    intro s port d h
    have ha : capAnswers s = false := by rcases h with h | h <;> simp [capAnswers, h]
    have hx : exec (.capFrame port d) s = execCapFrame port d s := rfl
    rw [Idles, hx]
    cases port <;> simp [execCapFrame, arrive, serviceSend, ha]

end Sys2Proof.Machine
end

section
/-! What the timers of CAP end (R64, R67, R71, R72; obligation O11). -/

namespace Sys2Proof.Machine

variable {s t : State}

theorem lt_of_cached {n : Nat} {p : CachedResp → Bool} {x : CachedResp} (h : (s.ses n).cache.find? p = some x) :
    n < s.mgmt.sessions.length := by
  by_contra hn
  rw [State.ses, List.getD_eq_getElem?_getD, List.getElem?_eq_none (Nat.le_of_not_lt hn)] at h
  exact absurd h (by simp)

theorem ses_waitUntil (s : State) (k n : Nat) : (s.waitUntil k).ses n = s.ses n := rfl

/-- A response leaves through the port its request came by, and is counted (R52). -/
theorem emit_spec (s : State) (f : TxFrame) :
    (emit s f).now = s.now ∧ (emit s f).cap.answers = s.cap.answers ∧
    (emit s f).num 0x010004 5 = (s.num 0x010004 5 + 1) % 2 ^ 64 ∧
    (f.port ≠ .svc → (emit s f).cap.sent = s.cap.sent ++ [f] ∧ (emit s f).upd = s.upd) ∧
    (f.port = .svc → (emit s f).cap.sent = s.cap.sent ∧ (emit s f).upd.svcRsp = some f.bytes) := by
  have hc : (s.count 0x010004 5 64 1).num 0x010004 5 = (s.num 0x010004 5 + 1) % 2 ^ 64 := num_count_self ..
  unfold emit
  extract_lets v
  split
  case isTrue h => exact ⟨rfl, rfl, hc, fun hn => absurd h hn, fun _ => ⟨rfl, rfl⟩⟩
  case isFalse h => exact ⟨rfl, rfl, hc, fun _ => ⟨rfl, rfl⟩, fun hs => absurd hs h⟩

/-- Settles O11. -/
theorem capTimersEndWhatTheyTime : Obligations.CapTimersEndWhatTheyTime := by
  unfold Obligations.CapTimersEndWhatTheyTime
  refine ⟨?_, ?_, ?_, ?_, ?_⟩
  · intro s who key x h
    have he : execSegWriteTimeout who key s =
        .next (dropStaged (s.waitUntil (x.since + 10 * second)) fun y => y.who = who ∧ y.key = key) := by
      rw [execSegWriteTimeout, h]
    refine ⟨_, he, ?_, ?_, fun p hp => ?_⟩
    · simp [second]
    · rw [cap_dropStaged]
      simp
    · cases p <;> simp at hp ⊢
  · intro s n trans x h
    have he : execCacheEntryExpiry (some n) trans s =
        .next ((s.waitUntil (x.since + second)).setSes n fun y => { y with cache := y.cache.erase x }) := by
      simp only [execCacheEntryExpiry, h]
    refine ⟨_, he, now_waitUntil .., ?_, fun p hp => ?_⟩
    · rw [ses_setSes_self _ _ _ (by simpa using lt_of_cached h), ses_waitUntil]
    · cases p <;> simp at hp ⊢
  · intro s trans x h
    have he : execCacheEntryExpiry none trans s =
        .next ((s.waitUntil (x.since + second)).setCap fun c => { c with cache0 := c.cache0.erase x }) := by
      simp only [execCacheEntryExpiry, h]
    refine ⟨_, he, now_waitUntil .., by simp [State.setCap], fun p hp => ?_⟩
    cases p <;> simp at hp ⊢
  · intro s g trans d h
    have he : execMcastDuplicateWindowEnd g trans s =
        .next ((s.waitUntil (d.since + second)).setCap fun c => { c with dups := c.dups.erase d }) := by
      simp only [execMcastDuplicateWindowEnd, h]
    refine ⟨_, he, now_waitUntil .., by simp [State.setCap], fun p hp => ?_⟩
    cases p <;> simp at hp ⊢
  · intro s g trans a h
    have he : execMcastAnswerRelease g trans s =
        .next (emit ((s.waitUntil a.due).setCap fun c => { c with answers := c.answers.erase a }) a.frame) := by
      simp only [execMcastAnswerRelease, h]
    obtain ⟨hn, ha, h5, hout, hsvc⟩ := emit_spec ((s.waitUntil a.due).setCap fun c => { c with answers := c.answers.erase a }) a.frame
    refine ⟨_, he, hn.trans (now_waitUntil ..), ?_, h5, ?_, ?_⟩
    · rw [ha]
      simp [State.setCap]
    · intro hp
      obtain ⟨h1, h2⟩ := hout hp
      rw [h1, h2]
      simp [State.setCap]
    · intro hp
      obtain ⟨h1, h2⟩ := hsvc hp
      rw [h1, h2]
      simp [State.setCap]

end Sys2Proof.Machine
end

section
/-! What a read of an entry does not look at: the catalogue service's own state (R43 to R46). -/

namespace Sys2Proof.Machine

section
variable (s : State) (g : Cap → Cap)

theorem rulingTb_setCap : State.rulingTb (s.setCap g) = State.rulingTb s := rfl
theorem rulingNext_setCap : State.rulingNext (s.setCap g) = State.rulingNext s := rfl
theorem rulingArmed_setCap : State.rulingArmed (s.setCap g) = State.rulingArmed s := rfl
theorem rulingPick_setCap : State.rulingPick (s.setCap g) = State.rulingPick s := rfl
theorem num_setCap x y : State.num (s.setCap g) x y = State.num s x y := rfl
theorem flag_setCap x y : State.flag (s.setCap g) x y = State.flag s x y := rfl
theorem val_setCap x : State.val (s.setCap g) x = State.val s x := rfl
theorem tb_setCap x : State.tb (s.setCap g) x = State.tb s x := rfl
theorem pendingFor_setCap x y : pendingFor (s.setCap g) x y = pendingFor s x y := rfl
theorem pendingCmds_setCap : pendingCmds (s.setCap g) = pendingCmds s := rfl
theorem starvedTask_setCap : starvedTask (s.setCap g) = starvedTask s := rfl
theorem stepCount_setCap x : stepCount (s.setCap g) x = stepCount s x := rfl
theorem trig_setCap x : State.trig (s.setCap g) x = State.trig s x := rfl
theorem ring_setCap x : State.ring (s.setCap g) x = State.ring s x := rfl
theorem loopHolds_setCap x : loopHolds (s.setCap g) x = loopHolds s x := rfl
theorem domState_setCap x : State.domState (s.setCap g) x = State.domState s x := rfl
theorem lane_setCap x : State.lane (s.setCap g) x = State.lane s x := rfl
theorem subState_setCap x : State.subState (s.setCap g) x = State.subState s x := rfl
theorem mgtInService_setCap : mgtInService (s.setCap g) = mgtInService s := rfl
theorem laneRead_setCap x y : laneRead (s.setCap g) x y = laneRead s x y := rfl
theorem service_setCap x : State.service (s.setCap g) x = State.service s x := rfl
theorem boundMbs_setCap x y : boundMbs (s.setCap g) x y = boundMbs s x y := rfl
theorem nocCharged_setCap x : nocCharged (s.setCap g) x = nocCharged s x := rfl
theorem dramFlows_setCap x : dramFlows (s.setCap g) x = dramFlows s x := rfl
theorem rxEssCommitted_setCap x : rxEssCommitted (s.setCap g) x = rxEssCommitted s x := rfl
theorem txEssCommitted_setCap x : txEssCommitted (s.setCap g) x = txEssCommitted s x := rfl
theorem txCommitted_setCap x : txCommitted (s.setCap g) x = txCommitted s x := rfl
theorem pendingTakes_setCap x : pendingTakes (s.setCap g) x = pendingTakes s x := rfl
theorem shState_setCap x : State.shState (s.setCap g) x = State.shState s x := rfl
theorem sh_setCap x : State.sh (s.setCap g) x = State.sh s x := rfl
theorem debtNow_setCap x y : debtNow (s.setCap g) x y = debtNow s x y := rfl
theorem mch_setCap x : State.mch (s.setCap g) x = State.mch s x := rfl
theorem slState_setCap x : State.slState (s.setCap g) x = State.slState s x := rfl
theorem chState_setCap x : State.chState (s.setCap g) x = State.chState s x := rfl
theorem opState_setCap : State.opState (s.setCap g) = State.opState s := rfl
theorem sgState_setCap : State.sgState (s.setCap g) = State.sgState s := rfl
theorem defaultVal_setCap x : defaultVal (s.setCap g) x = defaultVal s x := rfl

end

variable {s : State} {g : Cap → Cap}

theorem timeRead_setCap (i a : Nat) : timeRead (s.setCap g) i a = timeRead s i a := by
  unfold timeRead
  simp -implicitDefEqProofs only [State_setCap_frame, rulingTb_setCap, rulingNext_setCap, rulingArmed_setCap,
    rulingPick_setCap, num_setCap, tb_setCap, pendingFor_setCap, pendingCmds_setCap, starvedTask_setCap, stepCount_setCap,
      trig_setCap, ring_setCap]

theorem clockRead_setCap (i a : Nat) : clockRead (s.setCap g) i a = clockRead s i a := by
  unfold clockRead
  simp -implicitDefEqProofs only [State_setCap_frame, num_setCap, loopHolds_setCap, domState_setCap]

theorem portRead_setCap (i a : Nat) : portRead (s.setCap g) i a = portRead s i a := by
  unfold portRead
  simp -implicitDefEqProofs only [State_setCap_frame, lane_setCap, subState_setCap, mgtInService_setCap, laneRead_setCap]

theorem streamRead_setCap (i a : Nat) : streamRead (s.setCap g) i a = streamRead s i a := by
  unfold streamRead
  simp -implicitDefEqProofs only [State_setCap_frame, service_setCap, boundMbs_setCap, nocCharged_setCap, dramFlows_setCap,
    rxEssCommitted_setCap, txEssCommitted_setCap, txCommitted_setCap, pendingTakes_setCap]

theorem shuttleRead_setCap (i a : Nat) : shuttleRead (s.setCap g) i a = shuttleRead s i a := by
  unfold shuttleRead
  simp -implicitDefEqProofs only [flag_setCap, shState_setCap, sh_setCap]

theorem memoryRead_setCap (i a : Nat) : memoryRead (s.setCap g) i a = memoryRead s i a := by
  unfold memoryRead
  simp -implicitDefEqProofs only [State_setCap_frame, num_setCap, debtNow_setCap, mch_setCap, slState_setCap]

theorem systemRead_setCap (i a : Nat) : systemRead (s.setCap g) i a = systemRead s i a := by
  unfold systemRead
  simp -implicitDefEqProofs only [State_setCap_frame, num_setCap, chState_setCap, opState_setCap, sgState_setCap]

theorem readField_setCap (k : Nat) : readField (s.setCap g) k = readField s k := by
  simp only [readField, timeRead_setCap, clockRead_setCap, portRead_setCap, streamRead_setCap, shuttleRead_setCap,
    memoryRead_setCap,
    systemRead_setCap, val_setCap]

theorem readBytes_setCap (k : Nat) : readBytes (s.setCap g) k = readBytes s k := by
  simp only [readBytes, fieldBytes, readField_setCap, defaultVal_setCap]

end Sys2Proof.Machine
end

section
/-! The catalogue bridge and its client ports (R78 to R81; obligation O12). -/

namespace Sys2Proof.Machine

variable {s t : State} {r : BridgeReq} {b : Fin 4}

/-- The answer of a client's request ends it: the bridge is free and nothing else waits. -/
theorem endReq_client {st d : Nat} {v : List Byte} (hb : s.cap.bridge = some r) (hw : r.who = .client b)
    (hr : r.restore = false)
    (hc : r.cmd = none) (hq : s.cap.bridgeQueue = []) (hwr : st = stOk → r.write = false) :
    endReq s st d v = { s with cap := { s.cap with
      bridge := none
      clients := s.cap.clients.set b (some { status := st, data := if st = stOk then shownUser s r.key v else [] }) } } := by
  have hcl : ¬(r.write = true ∧ (!r.restore) = true ∧ st = stOk) := fun h => absurd (hwr h.2.2) (by simp [h.1])
  have hdata : (if st = stOk ∧ (!r.write) = true then shownUser s r.key v else []) =
      if st = stOk then shownUser s r.key v else [] := by
    by_cases h : st = stOk
    · simp [h, hwr h]
    · simp [h]
  have hshow : shownUser { s with cap := { s.cap with bridge := none } } r.key v = shownUser s r.key v := rfl
  unfold endReq
  rw [hb]
  dsimp only
  unfold completeReq
  rw [if_neg hcl]
  dsimp only
  rw [hr, if_neg Bool.false_ne_true, hc, hw, hshow, hdata]
  unfold present
  simp only [hq, List.length_nil, presentReqs]

section
variable {g : Cap → Cap} {q : Req} {k : Nat} (hu : (g s.cap).users = s.cap.users)
include hu

theorem userEntry_setCap : userEntry (s.setCap g) k = userEntry s k := congrArg (List.find? fun e : UserEntry => e.key = k) hu

theorem ownerOf_setCap : ownerOf (s.setCap g) k = ownerOf s k := by
  simp only [ownerOf, rangeOwner, flag_setCap, num_setCap, userEntry_setCap hu]
  rfl

theorem seen_setCap : seen (s.setCap g) k = seen s k := by
  simp only [seen, userParts, userEntry_setCap hu, ownerOf_setCap hu, entryExists, State_setCap_frame]
  rfl

theorem readAccess_setCap (x : Seen) : readAccess (s.setCap g) q k x = readAccess s q k x := by
  simp only [readAccess, ownerCheck, actor, num_setCap, serviceWritable, ownerOf_setCap hu]
  rfl

theorem recordCheck_read_setCap (hp : (g s.cap).phase = s.cap.phase) (hr : (g s.cap).restoring = s.cap.restoring) :
    recordCheck (s.setCap g) q false { op := opRead, rflags := 0, key := k, value := [] } k =
      recordCheck s q false { op := opRead, rflags := 0, key := k, value := [] } k := by
  have hphase : (s.setCap g).cap.phase = s.cap.phase := hp
  have hrest : (s.setCap g).cap.restoring = s.cap.restoring := hr
  have hready : areaReady (s.setCap g) k = areaReady s k := by simp only [areaReady, hphase, State_setCap_frame]
  unfold recordCheck
  simp only [hready, hrest, seen_setCap hu, readAccess_setCap hu, readBytes_setCap, if_true]

end

/-- A client's read of an entry. -/
def clientRead (b : Fin 4) (k : Nat) : ClientReq := { bolt := b, key := k, write := false, data := [] }

/-- The state in which it waits, and the one in which the MGC has taken it up. -/
def asked (s : State) (b : Fin 4) (k : Nat) : State :=
  s.setCap fun c => { c with clients := c.clients.set b none, clientWait := c.clientWait ++ [clientRead b k] }

def takenUp (s : State) (b : Fin 4) : State :=
  s.setCap fun c => { c with clients := c.clients.set b none, clientWait := [] }

theorem pump_asked {k : Nat} (hi : MgcIdle s) (h0 : s.num 0x100000 0x0D = 0) :
    pump (asked s b k) = mgcRun 258 (serveClient (takenUp s b) (clientRead b k)) := by
  obtain ⟨hc, hw, hin⟩ := hi
  have hcl : (asked s b k).cap.clientWait = [clientRead b k] := by
    change s.cap.clientWait ++ [clientRead b k] = _
    rw [hc]
    rfl
  have hib : (asked s b k).cap.inbox = [] := hin
  have hstep : mgcStep (asked s b k) = some (serveClient (takenUp s b) (clientRead b k)) := by
    have h0' : (asked s b k).num 0x100000 0x0D = 0 := h0
    unfold mgcStep
    simp only [hcl, h0', if_true]
    rfl
  unfold pump
  rw [hcl, hib]
  exact mgcRun_succ hstep

theorem serveClient_read {k : Nat} (hp : s.cap.phase = .unsealed ∨ s.cap.phase = .served) (hu : isUser k = false)
    (hk : recordCheck s { who := .client b, crit := false, toe := .none, trans := 0 } false
      { op := opRead, rflags := 0, key := k, value := [] } k = none) :
    serveClient (takenUp s b) (clientRead b k) = s.setCap fun c =>
      { c with clients := c.clients.set b (some { status := stOk, data := readBytes s k }), clientWait := [] } := by
  have hphase : ¬((takenUp s b).cap.phase ≠ .unsealed ∧ (takenUp s b).cap.phase ≠ .served) := by
    change ¬(s.cap.phase ≠ .unsealed ∧ s.cap.phase ≠ .served)
    tauto
  have hb : Fin.ofNat 4 b.val = b := Fin.ext (Nat.mod_eq_of_lt b.isLt)
  have hcheck : recordCheck (takenUp s b) { who := .client b, crit := false, toe := .none, trans := 0 } false
      { op := opRead, rflags := 0, key := k, value := [] } k = none := (recordCheck_read_setCap rfl rfl rfl).trans hk
  have hbytes : readBytes (takenUp s b) k = readBytes s k := readBytes_setCap k
  unfold serveClient
  rw [if_neg hphase]
  simp only [clientRead, hb, Bool.false_eq_true, if_false, hcheck, hu, hbytes]
  simp [clientAnswer, takenUp, State.setCap]

/-- Settles O12. -/
theorem bridgeRequestsComplete : Obligations.BridgeRequestsComplete := by
  unfold Obligations.BridgeRequestsComplete
  refine ⟨?_, ?_, ?_, ?_⟩
  · intro s r b taken v hb hw hwr hr hc hq hi hh ht
    have htake : takeResponse s taken (stOk % 2 ^ 16) (portBytes v) = endReq s stOk 0 (portBytes v) := by
      have hlate : ¬(s.pwr.halted = true ∨ takenAt s r taken + bridgeNs s < s.now) := by
        rw [hh]
        simp
        omega
      unfold takeResponse
      rw [hb]
      dsimp only
      rw [if_neg hlate, if_pos (by decide), hwr, if_neg Bool.false_ne_true]
      rfl
    refine ⟨_, congrArg Host.Outcome.next (if_neg Bool.false_ne_true), ?_⟩
    rw [htake, endReq_client hb hw hr hc hq fun _ => hwr, MgcIdle.pump_eq_self (by exact hi)]
    refine ⟨rfl, fun p hp => ?_⟩
    cases p <;> simp at hp ⊢
  · intro s taken st v
    rfl
  · intro s r b taken hb hw hr hc hq hi
    obtain ⟨cause, hcause⟩ : ∃ n, timeOutReq (s.waitUntil (r.since + taken + bridgeNs s)) =
        endReq (bridgeFails (s.waitUntil (r.since + taken + bridgeNs s)) r n) stTargetUnavailable n [] := by
      unfold timeOutReq
      rw [(outside_waitUntil s _).cap (by decide), hb]
      exact ⟨_, rfl⟩
    have hcap : (bridgeFails (s.waitUntil (r.since + taken + bridgeNs s)) r cause).cap = s.cap := by simp
    have hx : exec (.bridgeTimeout taken) s = .next (pump (timeOutReq (s.waitUntil (r.since + taken + bridgeNs s)))) := by
      change execBridgeTimeout taken s = _
      rw [execBridgeTimeout, hb]
    have hout : Outside [.now, .cat, .mgmt, .tim] s (bridgeFails (s.waitUntil (r.since + taken + bridgeNs s)) r cause) :=
      fun p hp => by cases p <;> simp at hp ⊢
    have hnow : (bridgeFails (s.waitUntil (r.since + taken + bridgeNs s)) r cause).now = max s.now (r.since + taken + bridgeNs s) := by
      simp
    refine ⟨_, hx, ?_⟩
    rw [hcause, endReq_client (by rw [hcap, hb]) hw hr hc (by rw [hcap, hq]) fun h => absurd h (by decide)]
    generalize bridgeFails (s.waitUntil (r.since + taken + bridgeNs s)) r cause = z at hcap hout hnow ⊢
    rw [MgcIdle.pump_eq_self (by rw [MgcIdle, hcap]; exact hi), hcap]
    refine ⟨hnow, rfl, fun p hp => ?_⟩
    have hq := hout p
    cases p <;> simp at hp hq ⊢ <;> exact hq
  · intro s b k v hrun hbusy hi hp h0 hu hk
    obtain ⟨hc, hw, hin⟩ := hi
    have hx : exec (.clientPortRequest b k false v) s = .next (pump (asked s b k)) := by
      change execClientPortRequest b k false v s = _
      rw [execClientPortRequest, if_neg (by simp [hrun, hbusy])]
      rfl
    refine ⟨_, hx, ?_⟩
    rw [pump_asked ⟨hc, hw, hin⟩ h0, serveClient_read hp hu hk, MgcIdle.mgcRun_eq_self (by exact ⟨rfl, hw, hin⟩)]
    refine ⟨?_, fun p hq => ?_⟩
    · simp only [State.setCap, hc]
    · cases p <;> simp at hq ⊢

end Sys2Proof.Machine
end

section
/-! Host keys, key slots, group keys and assignment ranges (R87, R90, R98, R99; obligation O14). -/

namespace Sys2Proof.Machine

variable {s t u : State} {n k : Nat}

/-! ### Ending the sessions of a key slot -/

/-- A walk that changes what `view` reads at one of its places only. -/
theorem foldl_at {α β : Type} {view : State → β} {f : State → α → State} {l : List α} {y : α} {P : β → Prop} (hl : l.Nodup)
    (hy : y ∈ l)
    (hn : ∀ s, ∀ x ∈ l, x ≠ y → view (f s x) = view s) (s : State) (hs : ∀ t, view t = view s → P (view (f t y))) :
    P (view (l.foldl f s)) := by
  obtain ⟨l₁, l₂, rfl⟩ := List.append_of_mem hy
  have h12 := List.nodup_append.mp hl
  have h1 : ∀ s, view (l₁.foldl f s) = view s := fun s =>
    foldl_keeps view (fun s x hx => hn s x (by simp [hx]) (h12.2.2 x hx y (by simp))) s
  have h2 : ∀ s, view (l₂.foldl f s) = view s := fun s =>
    foldl_keeps view (fun s x hx => hn s x (by simp [hx]) (fun e => (List.nodup_cons.mp h12.2.1).1 (e ▸ hx))) s
  rw [List.foldl_append, List.foldl_cons, h2]
  exact hs _ (h1 s)

/-- What of a session slot decides whether it ends with its key slot: its state and the slot. -/
def slotView (n : Nat) (s : State) : Nat × Nat := (s.num (sesIdx n) 1, s.num (sesIdx n) 2)

/-- The step of ending one session of a key slot. -/
def endOfSlot (k cause : Nat) (s : State) (n : Nat) : State :=
  if s.num (sesIdx n) 2 = k then endSession s n cause stAccessDenied else s

theorem endSlotSessions_eq (s : State) (k cause : Nat) : endSlotSessions s k cause = (List.range 8).foldl
    (endOfSlot k cause) s := rfl

/-- Entries of other records below the events keep their values when a session ends. -/
theorem num_closeSession_ne (s : State) {i a c : Nat} (hn : n < 8) (ha : a < 256) (hi : sesIdx n ≠ i) (he : i < 0x0E0000) :
    (closeSession s n c).num i a = s.num i a := by
  refine (num_raise (by decide) _ _ ha (.inl he)).trans ((num_dropStaged _ _ ha he).trans ?_)
  exact num_freeSession_ne (orphanCmds s n) hn ha hi

theorem num_discardHalfOpen_ne (s : State) {i a c : Nat} (hn : n < 8) (ha : a < 256) (hi : sesIdx n ≠ i) (he : i < 0x0E0000) :
    (discardHalfOpen s n c).num i a = s.num i a :=
  (num_raise (by decide) _ _ ha (.inl he)).trans (num_freeSession_ne s hn ha hi)

theorem num_endOfSlot_ne (s : State) {i a c : Nat} (hn : n < 8) (ha : a < 256) (hi : sesIdx n ≠ i) (he : i < 0x0E0000) :
    (endOfSlot k c s n).num i a = s.num i a := by
  unfold endOfSlot endSession
  split
  · split
    · exact num_closeSession_ne s hn ha hi he
    · split
      · exact num_discardHalfOpen_ne s hn ha hi he
      · rfl
  · rfl

theorem hostKeys_endOfSlot (s : State) (k c n : Nat) :
    (endOfSlot k c s n).mgmt.hostKeys = s.mgmt.hostKeys := by
  have hfree : ∀ s : State, (freeSession s n).mgmt.hostKeys = s.mgmt.hostKeys := fun s => by
    simp [freeSession, State.setSes]
  unfold endOfSlot endSession
  split
  · split
    · exact (kept_raise ..).hostKeys.trans ((kept_dropStaged ..).hostKeys.trans (hfree (orphanCmds s n)))
    · split
      · exact (kept_raise ..).hostKeys.trans (hfree s)
      · rfl
  · rfl

theorem state_endOfSlot_self (s : State) {c : Nat} (hn : n < 8) (hk : s.num (sesIdx n) 2 = k) (ho : sesOpen s n = true) :
    (endOfSlot k c s n).sesState n = 0 := by
  rw [endOfSlot, if_pos hk, endSession, if_pos ho]
  exact (closed_closeSession s hn c).1

theorem ended_of_slot (s : State) {c : Nat} (hn : n < 8) (ho : sesOpen s n = true) (hk : s.num (sesIdx n) 2 = k) :
    (slotView n ((List.range 8).foldl (endOfSlot k c) s)).1 = 0 := by
  have hi : sesIdx n < 0x0E0000 := by simp only [sesIdx]; omega
  have hne : ∀ s, ∀ x ∈ List.range 8, x ≠ n → slotView n (endOfSlot k c s x) = slotView n s := fun s x hx hxn => by
    have hne' : sesIdx x ≠ sesIdx n := by simp only [sesIdx]; omega
    have hx := List.mem_range.mp hx
    rw [slotView, num_endOfSlot_ne s hx (by decide) hne' hi, num_endOfSlot_ne s hx (by decide) hne' hi, slotView]
  have hself : ∀ t, slotView n t = slotView n s → (slotView n (endOfSlot k c t n)).1 = 0 := fun t ht => by
    obtain ⟨h1, h2⟩ := Prod.mk.inj ht
    refine state_endOfSlot_self t hn (h2.trans hk) ?_
    rw [sesOpen, State.sesState, h1]
    exact ho
  exact foldl_at (P := fun p => p.1 = 0) List.nodup_range (List.mem_range.mpr hn) hne s hself

/-- The sessions that were open on a key slot have ended, and nothing else of the entries below the events has changed. -/
theorem endSlotSessions_spec (s : State) (k c : Nat) :
    (∀ n, n < 8 → sesOpen s n = true → s.num (sesIdx n) 2 = k → (endSlotSessions s k c).sesState n = 0) ∧
    (endSlotSessions s k c).mgmt.hostKeys = s.mgmt.hostKeys ∧
    ∀ i a, a < 256 → i < 0x0E0000 → (∀ n, n < 8 → sesIdx n ≠ i) → (endSlotSessions s k c).num i a = s.num i a := by
  refine ⟨fun n hn ho hk => ?_, ?_, fun i a ha he hi => ?_⟩
  · rw [endSlotSessions_eq]
    have h := ended_of_slot s (c := c) hn ho hk
    generalize (List.range 8).foldl (endOfSlot k c) s = w at h ⊢
    exact h
  · rw [endSlotSessions_eq]
    exact foldl_keeps (·.mgmt.hostKeys) (fun s n _ => hostKeys_endOfSlot s k c n) s
  · rw [endSlotSessions_eq]
    exact foldl_keeps (·.num i a) (fun s n hn =>
      num_endOfSlot_ne s (List.mem_range.mp hn) ha (hi n (List.mem_range.mp hn)) he) s

theorem num_write_ne_of_apart {i a j b : Nat} {x : Val} (ha : a < 256) (hb : b < 256) (h : i ≠ j ∨ a ≠ b)
    (h' : i ≠ j ∨ a < 4 ∨ 6 < a ∨ (i < 0x040100 ∨ 0x040107 < i) ∧ (i < 0x0A0010 ∨ 0x0A0013 < i)) :
    (s.write (ent i a) x).num j b = s.num j b :=
  num_write_of_apart ha hb ⟨h, h'⟩

theorem keyOf_carried (s : State) (r : Req) (b : List Byte) : keyOf s (carried r) b = keyOf s r b := by
  have h : (carried r).who = r.who := by
    unfold carried
    split <;> simp_all
  rw [keyOf, h, keyOf]

theorem keyHeld_installHostKey (s : State) {k : Nat} (hk : k < 16) (key : List Byte) : KeyHeld s
    (installHostKey s k key) k key := by
  have hi : hkIdx k < 0x0E0000 := by simp only [hkIdx]; omega
  have hne : ∀ n, n < 8 → sesIdx n ≠ hkIdx k := fun n hn => by simp only [sesIdx, hkIdx]; omega
  obtain ⟨t, ht, hkeys, h1, h4, h5, hses⟩ : ∃ t, installHostKey s k key = endSlotSessions t k 3 ∧
      t.mgmt.hostKeys = s.mgmt.hostKeys.set k key ∧ t.num (hkIdx k) 1 = 1 ∧ t.num (hkIdx k) 4 = 0 ∧ t.num (hkIdx k) 5 = 1 ∧
      ∀ n a, n < 8 → a < 256 → t.num (sesIdx n) a = s.num (sesIdx n) a := by
    refine ⟨_, rfl, by simp, ?_, ?_, num_write_self .., fun n a hn ha => ?_⟩
    · rw [num_write_ne_of_apart (by decide) (by decide) (.inr (by decide)) (by simp only [hkIdx]; omega)]
      refine (num_put_of_apart (by decide) (by decide) (.inr (by decide)) (by simp only [hkIdx]; omega)).trans ?_
      exact num_put_self ..
    · rw [num_write_ne_of_apart (by decide) (by decide) (.inr (by decide)) (by simp only [hkIdx]; omega)]
      exact num_put_self ..
    · have hx : hkIdx k ≠ sesIdx n := (hne n hn).symm
      rw [num_write_ne_of_apart (by decide) ha (.inl hx) (.inl hx)]
      refine (num_put_of_apart (by decide) ha (.inl hx) (.inl hx)).trans ?_
      exact num_put_of_apart (by decide) ha (.inl hx) (.inl hx)
  obtain ⟨hend, hkept, hnum⟩ := endSlotSessions_spec t k 3
  rw [ht]
  refine ⟨hkept.trans hkeys, (hnum _ _ (by decide) hi hne).trans h1, (hnum _ _ (by decide) hi hne).trans h4,
    (hnum _ _ (by decide) hi hne).trans h5, fun n hn ho hs => hend n hn ?_ ?_⟩
  · rw [sesOpen, State.sesState, hses n 1 hn (by decide)]
    exact ho
  · rw [hses n 2 hn (by decide), hs]

/-! ### Commands whose owner changes -/

theorem num_railToReq (s : State) (d i a : Nat) : (railToReq s d).num i a = s.num i a := by
  unfold railToReq setRail
  extract_lets v
  split
  · rfl
  · split <;> rfl

section
variable {i a : Nat} (ha : a < 256) (hi : i < 0x040000)
include ha hi

theorem num_freeCancelled (s : State) (l : List TimedCmd) : (freeCancelled s l).num i a = s.num i a := by
  refine foldl_keeps (·.num i a) (fun s c _ => ?_) s
  dsimp only
  split
  case isTrue h =>
    split
    · rw [State.putDomState, num_put_ne _ _ _ _ _ _ (by decide) ha (by simp only [domIdx]; omega), num_railToReq]
      exact num_setDom ..
    · rw [num_railToReq]
      exact num_setDom ..
  case isFalse =>
    split
    · split
      · refine num_put_ne _ _ _ _ _ _ (by decide) ha (by simp only [panelIdx]; omega)
      · rfl
    · rfl

theorem num_cancelTimed (s : State) (p : TimedCmd → Bool) (st : Nat) : (cancelTimed s p st).num i a = s.num i a :=
  foldl_keeps (·.num i a) (fun _ c _ => num_finishCmd c st i a ha (.inl (by omega)) (.inl (by omega))) _

end

/-- A write of the fields of a range. -/
def writeRange (s : State) (q : Nat) (f : List Nat) : State :=
  (List.range 4).foldl (fun t i => t.write (ent (rgIdx q) (i + 1)) (.num (f.getD i 0))) s

theorem num_writeRange (s : State) {q i : Nat} (f : List Nat) (hq : q < 256) (hi : i < 4) :
    (writeRange s q f).num (rgIdx q) (i + 1) = f.getD i 0 := by
  have h := foldl_establishes (P := fun i s => s.num (rgIdx q) (i + 1) = f.getD i 0) (l := List.range 4)
    (f := fun t i => t.write (ent (rgIdx q) (i + 1)) (.num (f.getD i 0))) (fun s x _ => num_write_self ..) (fun s x hx y hy hp => ?_) s
  · exact h i (List.mem_range.mpr hi)
  · have := List.mem_range.mp hx
    have := List.mem_range.mp hy
    by_cases hxy : y = x
    · rw [hxy]
      exact num_write_self ..
    · exact (num_write_ne_of_apart (by omega) (by omega) (.inr (by omega)) (by simp only [rgIdx]; omega)).trans hp

theorem rangeRule_apply (s : State) {q sub : Nat} (b : Bool) (r : Req) (v : Val) (hq : q < 256) :
    ∃ u, (rangeRule q sub).apply s b r v = { s := u } ∧ ∀ i, i < 4 → u.num (rgIdx q) (i + 1) = (rangeAfter s q sub v).getD i 0 := by
  have hi : rgIdx q < 0x040000 := by simp only [rgIdx]; omega
  by_cases h : rangeAfter s q sub v = (List.range 4).map fun i => s.num (rgIdx q) (i + 1)
  · exact ⟨_, if_pos h, fun i hi => num_writeRange s _ hq hi⟩
  · refine ⟨_, if_neg h, fun i hi4 => ?_⟩
    have ha : i + 1 < 256 := by omega
    refine (num_raise (by decide) _ _ ha (.inl (by omega))).trans ((num_dropStaged _ _ ha (by omega)).trans ?_)
    refine (num_freeCancelled ha hi _ _).trans ((num_cancelTimed ha hi _ _ _).trans ?_)
    exact num_writeRange s _ hq hi4

/-! ### The commands -/

/-- Settles O14. -/
theorem keysAndGalleriesAreWritten : Obligations.KeysAndGalleriesAreWritten := by
  unfold Obligations.KeysAndGalleriesAreWritten
  have host : ∀ (s : State) (r : Req) (k : Fin 16) (b key : List Byte), keyOf s r b = .ok key →
      (hostKeyRule k).apply s false (carried r) (.oct b) = { s := installHostKey s k key } := fun s r k b key h => by
    simp only [hostKeyRule, valBytes, keyOf_carried, h]
  have held : ∀ {s t u : State} {k : Fin 16} {key : List Byte}, KeyHeld s t k key → Applied t u → KeyHeld s u k key := by
    rintro s t u k key ⟨h1, h2, h3, h4, h5⟩ hu
    exact ⟨hu.mgmt ▸ h1, (hu.num ..).trans h2, (hu.num ..).trans h3, (hu.num ..).trans h4,
      fun n hn ho hs => (hu.num ..).trans (h5 n hn ho hs)⟩
  refine ⟨?_, ?_, ?_, ?_, ?_⟩
  · intro s r k b key hw h
    exact does_write rfl hw (host s r k b key h) fun u hu => ⟨hu.ok, held (keyHeld_installHostKey s k.isLt key) hu⟩
  · intro s b key hw h
    have hu := applied_submit hw (host s _ 0 b key h)
    exact ⟨_, rfl, hu.ok, held (keyHeld_installHostKey s (by decide) key) hu⟩
  · intro s r k v hw
    have hk := k.isLt
    have hi : hkIdx k < 0x0E0000 := by simp only [hkIdx]; omega
    have hne : ∀ n, n < 8 → sesIdx n ≠ hkIdx k := fun n hn => by simp only [sesIdx, hkIdx]; omega
    by_cases hsame : s.val (ent (hkIdx k) 5) = .num v
    · refine does_write rfl hw (if_pos hsame) fun u hu => ⟨hu.ok, ?_, by rw [hu.mgmt], fun h => absurd hsame h,
      fun h => absurd hsame h⟩
      exact (hu.num ..).trans (congrArg valNum hsame)
    · by_cases hv : v = 0
      · obtain ⟨hend, hkeys, hnum⟩ := endSlotSessions_spec ((s.write (ent (hkIdx k) 5) (.num v)).put (hkIdx k) 1 2) k 5
        refine does_write rfl hw ((if_neg hsame).trans (if_pos hv)) fun u hu => ⟨hu.ok, ?_, ?_, fun _ _ => ⟨?_, ?_⟩,
          fun _ h => absurd hv h⟩
        · rw [hu.num, hnum _ _ (by decide) hi hne, num_put_of_apart (by decide) (by decide) (by simp) (by simp), num_write_self]
        · rw [hu.mgmt, hkeys]
          simp
        · rw [hu.num, hnum _ _ (by decide) hi hne, num_put_self]
        · intro n hn ho hs
          have hx : hkIdx k ≠ sesIdx n := (hne n hn).symm
          have hread : ∀ a,
            a < 256 → ((s.write (ent (hkIdx k) 5) (.num v)).put (hkIdx k) 1 2).num (sesIdx n) a = s.num (sesIdx n) a :=
            fun a ha => by
              rw [num_put_of_apart (by decide) ha (.inl hx) (.inl hx), num_write_ne_of_apart (by decide) ha (.inl hx) (.inl hx)]
          refine (hu.num ..).trans (hend n hn ?_ ((hread 2 (by decide)).trans hs))
          rw [sesOpen, State.sesState, hread 1 (by decide)]
          exact ho
      · have hm : (s.write (ent (hkIdx k) 5) (.num v)).mgmt = s.mgmt := by simp
        refine does_write rfl hw ((if_neg hsame).trans (if_neg hv)) fun u hu => ⟨hu.ok, ?_, ?_, fun _ h => absurd h hv,
          fun _ _ => ?_⟩
        · rw [hu.num, num_put_of_apart (by decide) (by decide) (by simp) (by simp), num_write_self]
        · rw [hu.mgmt]
          simp
        · rw [hu.num, num_put_self, hm]
  · intro s r g b key hw h
    have hg := g.isLt
    have he : (groupKeyRule g).apply s false (carried r) (.oct b) =
        { s := (((({ s with mgmt := { s.mgmt with groupKeys := s.mgmt.groupKeys.set g key } } : State).put (gkIdx g) 1 1).put
          (gkIdx g) 4 0).put (gkIdx g) 5 0).bump (ent (gkIdx g) 3) } := by
      simp only [groupKeyRule, valBytes, keyOf_carried, h]
    have hi : ∃ r ∈ [(gkIdx g, gkIdx g)], r.1 ≤ gkIdx g ∧ gkIdx g ≤ r.2 := ⟨_, .head _, le_rfl, le_rfl⟩
    refine does_write rfl hw he fun u hu => ⟨hu.ok, ?_, ?_, ?_, ?_, ?_⟩
    · rw [hu.mgmt]
      simp
    · refine (hu.num ..).trans ((num_put_of_apart (by decide) (by decide) (.inr (by decide)) ?_).trans
        ((num_put_of_apart (by decide) (by decide) (.inr (by decide)) ?_).trans (num_put_self ..)))
      · simp only [gkIdx]; omega
      · simp only [gkIdx]; omega
    · refine (hu.num ..).trans ((num_put_of_apart (by decide) (by decide) (.inr (by decide)) ?_).trans (num_put_self ..))
      simp only [gkIdx]; omega
    · exact (hu.num ..).trans (num_put_self ..)
    · refine EntriesOutside.trans ?_ (.of_cat hu.cat)
      have h0 : EntriesOutside [(gkIdx g, gkIdx g)] s
          ({ s with mgmt := { s.mgmt with groupKeys := s.mgmt.groupKeys.set g key } } : State) := .of_cat rfl
      exact ((h0.trans (entriesOutside_put _ _ 1 1 (by decide) hi)).trans (entriesOutside_put _ _ 4 0 (by decide) hi)).trans
        (entriesOutside_put _ _ 5 0 (by decide) hi)
  · intro s r q sub b hw
    obtain ⟨t, ht, hnum⟩ := rangeRule_apply s (sub := sub) false (carried r) (valueOf (ent (rgIdx q) sub) b) q.isLt
    exact does_write rfl hw ht fun u hu => ⟨hu.ok, fun i hi => (hu.num ..).trans (hnum i hi)⟩

end Sys2Proof.Machine
end

section
/-! Events on their way: the ring, notifications, the fabric's queues,
  and the interrupt lines (R104 to R110; obligation O15). -/

namespace Sys2Proof.Machine

variable {s t : State} {n : Nat}

/-- A raising of any record counts its event once, but for event 040h (R104, R107). -/
theorem raised_raiseWith (s : State) {r : EvRec} (x : Reach) (hn : r.num ≠ 0x040) : Raised s (raiseWith s r x) r.num := by
  have ht : Raised s (raiseRecord s r x) r.num := raised_raiseRecord s r x
  unfold raiseWith
  extract_lets t k m u
  split
  · have hu : (raiseRecord u (recordOf u 0x040 0 (be 4 k)) .all).num (0x0E1000 + r.num) 7 = t.num (0x0E1000 + r.num) 7 :=
      (num_raiseRecord (Nat.le_add_right ..) (by decide) u _ _).trans
        (num_countRaise_ne u (by decide) fun h => hn (Nat.add_left_cancel h).symm)
    exact hu.trans ht
  · exact ht

theorem execEvtClr_eq (s : State) (b : Fin 4) (line : Fin 64) (raised : Bool) :
    exec (.evtClr b line raised) s = .next (if raised then s else s.clearPending b line) := rfl

theorem freshBit (m i : Nat) : m / 2 ^ i % 2 = 1 ↔ m.testBit i = true := by
  rw [Nat.testBit_eq_decide_div_mod_eq, decide_eq_true_iff]

/-- Writing the oldest queued record (R105). -/
theorem recordEvent_spec {r : EvRec} {q : List EvRec} (h : s.mgmt.queue = r :: q) :
    (recordEvent s).mgmt.queue = q ∧ (recordEvent s).mgmt.markLost = false ∧ (recordEvent s).num 0x0E0000 1 = r.seq ∧
    (recordEvent s).mgmt.ring = tput s.mgmt.ring (r.seq % 65536) { r with lost := r.lost || s.mgmt.markLost } ∧
    EntriesOutside [(0x0E0000, 0x0E0000), (opIdx 0, opIdx 63)] s (recordEvent s) := by
  have hr : (if s.mgmt.markLost then { r with lost := true } else r) = { r with lost := r.lost || s.mgmt.markLost } := by
    cases s.mgmt.markLost <;> simp
  generalize hu : recordEvent s = u
  rw [recordEvent, h] at hu
  dsimp -zeta only at hu
  extract_lets rec i old first m₀ m v w at hu
  have hrec : rec = { r with lost := r.lost || s.mgmt.markLost } := hr
  have hseq : rec.seq = r.seq := (congrArg EvRec.seq hrec).trans rfl
  have hshow : ∀ s, ∀ k ∈ List.range 64,
      (if s.opKind k = 9 ∧ s.opState k = opRunning then showExport s k else s).num 0x0E0000 1 = s.num 0x0E0000 1 := by
    intro s k hk
    split
    · exact num_put_ne _ _ _ _ _ _ (by decide) (by decide) (by unfold opIdx; omega)
    · rfl
  have hout : EntriesOutside [(0x0E0000, 0x0E0000), (opIdx 0, opIdx 63)] v w := by
    refine entriesOutside_foldl _ _ _ fun s k hk => ?_
    split
    · have := List.mem_range.mp hk
      exact entriesOutside_put _ _ _ _ (by decide) ⟨_, .tail _ (.head _), Nat.add_le_add_left (Nat.zero_le k) _,
        Nat.add_le_add_left (Nat.le_of_lt_succ this) _⟩
    · exact .refl _ _
  have hnum : w.num 0x0E0000 1 = r.seq :=
    (foldl_keeps (State.num · 0x0E0000 1) hshow v).trans ((num_put_self ..).trans hseq)
  have hmgmt : w.mgmt = m := by
    refine foldl_keeps State.mgmt (fun s k _ => ?_) v
    split <;> rfl
  have hv : EntriesOutside [(0x0E0000, 0x0E0000), (opIdx 0, opIdx 63)] s v :=
    EntriesOutside.trans (.of_cat rfl) (entriesOutside_put _ _ _ _ (by decide) ⟨_, .head _, le_rfl, le_rfl⟩)
  have hput : ∀ n, EntriesOutside [(0x0E0000, 0x0E0000), (opIdx 0, opIdx 63)] w (w.put 0x0E0000 2 n) := fun n =>
    entriesOutside_put _ _ _ _ (by decide) ⟨_, .head _, le_rfl, le_rfl⟩
  have hne : ∀ n, (w.put 0x0E0000 2 n).num 0x0E0000 1 = w.num 0x0E0000 1 := fun n =>
    num_put_of_apart (by decide) (by decide) (by simp) (by simp)
  have hring : m.ring = tput s.mgmt.ring (r.seq % 65536) { r with lost := r.lost || s.mgmt.markLost } :=
    congr (congrArg (tput s.mgmt.ring) (congrArg (· % 65536) hseq)) hrec
  have hw : w.mgmt.queue = q ∧ w.mgmt.markLost = false ∧
      w.mgmt.ring = tput s.mgmt.ring (r.seq % 65536) { r with lost := r.lost || s.mgmt.markLost } := by
    rw [hmgmt]
    exact ⟨rfl, rfl, hring⟩
  obtain ⟨hq, hl, hri⟩ := hw
  clear_value w old first
  split at hu
  · rw [← hu]
    exact ⟨hq, hl, (hne _).trans hnum, hri, (hv.trans hout).trans (hput _)⟩
  · split at hu
    · rw [← hu]
      exact ⟨hq, hl, (hne _).trans hnum, hri, (hv.trans hout).trans (hput _)⟩
    · rw [← hu]
      exact ⟨hq, hl, hnum, hri, hv.trans hout⟩

/-- Clearing one pending line leaves the mask without its bit (R186). -/
theorem clearPending_eq {b line : Nat} (h : (s.freshBits (ent (0x0E0200 + b) 1)).testBit line = false) (hl : line < 64) :
    s.clearPending b line = s.put (0x0E0200 + b) 1 (s.num (0x0E0200 + b) 1 &&& ((2 ^ 64 - 1) ^^^ 2 ^ line)) := by
  rw [State.clearPending, if_neg (by rw [freshBit, h]; exact Bool.false_ne_true), State.clrBits,
    Nat.mod_eq_of_lt (Nat.pow_lt_pow_right (by decide) hl)]

theorem outside_sendNotes (s : State) (n : Nat) : Outside [.cat, .cap, .mgmt] s (sendNotes s n) := by
  intro p hp
  cases p <;> simp at hp ⊢

/-- The notification of an open session that has records to tell (R109). -/
theorem sendNotes_spec {n : Nat} (ho : sesOpen s n = true) (hne : (s.ses n).notes ≠ [])
    (hc : s.num (sesIdx n) 6 ≠ 2 ^ 64 - 1) :
    (sendNotes s n).num (sesIdx n) 6 = s.num (sesIdx n) 6 + 1 ∧ ((sendNotes s n).ses n).notes = (s.ses n).notes.drop 64 ∧
    (∀ records, records = ((s.ses n).notes.take 64).flatMap
        (fun r => respRecord 0x20 0 (ent 0x0E0000 0) stOk 0 (recordBytes r)) →
      (sendNotes s n).cap.sent = s.cap.sent ++ [⟨(s.ses n).port, (s.oct (sesIdx n) 7).take 16,
        fieldBE (s.oct (sesIdx n) 7) 16 2, withTrailer (s.ses n).kD2h (s.num (sesIdx n) 6 + 1)
          (frameHead s 0x20 (60 + records.length) (s.ses n).src (n + 1) (min 64 (s.ses n).notes.length)
            ((s.ses n).noteNum + 1) (List.replicate 16 0) ++ records)⟩]) := by
  have hl : n < s.mgmt.sessions.length := by
    by_contra hn
    rw [State.ses, List.getD_eq_getElem?_getD, List.getElem?_eq_none (Nat.le_of_not_lt hn)] at hne
    exact hne rfl
  have hgo : ¬((!sesOpen s n) = true ∨ (s.ses n).notes = [] ∨ s.num (sesIdx n) 6 = 2 ^ 64 - 1) := by
    rintro (h | h | h)
    · simp [ho] at h
    · exact hne h
    · exact hc h
  rw [sendNotes, if_neg hgo]
  extract_lets recs c body head bound t
  refine ⟨num_put_self .., ?_, ?_⟩
  · exact congrArg Session.notes (ses_setSes_self (s.put (sesIdx n) 6 c) n _ hl)
  · rintro records rfl
    have hb : 36 + body.length + 24 = 60 + body.length := by omega
    have hk : recs.length = min 64 (s.ses n).notes.length := List.length_take
    have hs : t.cap.sent = s.cap.sent := rfl
    simp only [sendCap, head, hb, hk, hs]
    rfl

/-- Taking the oldest raising of a bolt (R110). -/
theorem takeFabric_spec {b : Nat} {x : FabRaise} {q : List FabRaise} (h : s.mgmt.fabQueues.getD b [] = x :: q)
    (hx : x.num < 256) :
    (takeFabric s b).mgmt.fabQueues = s.mgmt.fabQueues.set b q ∧
    (takeFabric s b).num (0x0E1F00 + x.num) 7 = (s.num (0x0E1F00 + x.num) 7 + 1) % 2 ^ 32 ∧
    EntriesOutside eventRanges s (takeFabric s b) := by
  have hi : 0x0E1F00 + x.num = 0x0E1000 + (0xF00 + x.num) := by omega
  rw [takeFabric, h, hi]
  dsimp -zeta only
  extract_lets m t r
  have ht : t.num (0x0E1000 + (0xF00 + x.num)) 7 = s.num (0x0E1000 + (0xF00 + x.num)) 7 := rfl
  have hr : ∀ r : EvRec, r.num = 0xF00 + x.num → Raised t (raiseWith t r .all) (0xF00 + x.num) :=
    fun r hr => hr ▸ raised_raiseWith t .all (by omega)
  have he : ∀ r : EvRec, r.num = 0xF00 + x.num → EntriesOutside eventRanges t (raiseWith t r .all) :=
    fun r hr => entriesOutside_raiseWith t r .all (by omega)
  have hc : EntriesOutside eventRanges s t := .of_cat rfl
  refine ⟨(kept_raiseWith ..).fabQueues, ?_, hc.trans (he _ rfl)⟩
  rw [← ht]
  exact hr _ rfl

/-- Settles O15: each command's effect read off the function that carries it out. -/
theorem eventsAreRecordedAndDelivered : Obligations.EventsAreRecordedAndDelivered := by
  unfold Obligations.EventsAreRecordedAndDelivered
  refine ⟨?record, ?notes, ?fabric, ?take, ?clear, ?keep⟩
  case record =>
    intro s r q h
    obtain ⟨hq, hl, hn, hr, he⟩ := recordEvent_spec h
    refine ⟨_, rfl, hq, hl, hn, hr, fun p hp => ?_, he⟩
    cases p <;> simp at hp ⊢
  case notes =>
    intro s n ho hne hc
    obtain ⟨hn, hd, hs⟩ := sendNotes_spec ho hne hc
    exact ⟨_, rfl, hn, hd, hs, outside_sendNotes _ _⟩
  case fabric =>
    intro s b num xlen data hr hh hq
    have hno : (!s.fabricRuns || s.pwr.halted || decide (16 ≤ (s.mgmt.fabQueues.getD b []).length)) = false := by
      rw [hr, hh, decide_eq_false (Nat.not_le.mpr hq)]
      rfl
    refine ⟨_, congrArg Host.Outcome.next (if_neg (Bool.not_eq_true _ |>.mpr hno)), ?_, ?_⟩
    · rintro x rfl
      rfl
    · intro p hp
      cases p <;> simp at hp ⊢
  case take =>
    intro s b x q hq hx
    obtain ⟨hk, hn, he⟩ := takeFabric_spec hq hx
    refine ⟨_, rfl, hk, hn, fun p hp => ?_, he⟩
    cases p <;> simp at hp ⊢
  case clear =>
    intro s b line hb
    refine ⟨_, congrArg Host.Outcome.next ((if_neg Bool.false_ne_true).trans (clearPending_eq hb line.isLt)),
      num_put_self .., outside_put _ _ _ _, ?_⟩
    exact entriesOutside_put _ _ _ _ (by decide) ⟨_, .head _, le_rfl, le_rfl⟩
  case keep =>
    rintro s b line raised (rfl | hb)
    · rfl
    · cases raised
      · exact congrArg Host.Outcome.next (if_pos ((freshBit ..).mpr hb))
      · rfl

end Sys2Proof.Machine
end

section
/-! What a long operation slot holds after each of its operations (R113 to R117), and record values parsed (R58). -/

namespace Sys2Proof.Machine

variable {s t u : State} {k n i a st : Nat} {r : Req} {key : Nat} {v : Val} {rule : Rule}

/-! ### Octets of a number, and records of fields -/

theorem unbe_append_foldl (b : List Byte) (x : Nat) :
    b.foldl (fun a y => a * 256 + y.toNat) x = x * 256 ^ b.length + unbe b := by
  unfold unbe
  induction b generalizing x with
  | nil => simp
  | cons y b ih =>
    rw [List.foldl_cons, List.foldl_cons, ih, ih (0 * 256 + y.toNat), List.length_cons, pow_succ]
    ring

theorem unbe_be (n v : Nat) : unbe (be n v) = v % 256 ^ n := by
  induction n with
  | zero => simp [be, unbe, Nat.mod_one]
  | succ n ih =>
    have h : (BitVec.ofNat 8 (v / 256 ^ n)).toNat = v / 256 ^ n % 256 := by simp
    calc unbe (be (n + 1) v) = v / 256 ^ n % 256 * 256 ^ n + unbe (be n v) := by
          rw [be, unbe, List.foldl_cons, unbe_append_foldl, length_be, h, Nat.zero_mul, Nat.zero_add]
      _ = v % 256 ^ (n + 1) := by
          rw [ih, pow_succ, Nat.mod_mul]
          ring

/-- A number field of a record takes its octets from the front. -/
theorem parseFields_be {f : Field} {fs : List Field} {n : Nat} (hl : tyLen f.ty = some n) (ha : f.acc ≠ .ro ∧ f.acc ≠ .const)
    (ht : f.ty ≠ .bool ∧ f.ty ≠ .time96) (x : Nat) (hx : x < 256 ^ n) (b : List Byte) :
    parseFields (f :: fs) (be n x ++ b) = (parseFields fs b).map (.num x :: ·) := by
  obtain ⟨ty, acc, flags, dflt, lo, hi⟩ := f
  obtain ⟨hr, hc⟩ := ha
  obtain ⟨hb, h9⟩ := ht
  have hlen : (be n x).length = n := length_be ..
  have htake : (be n x ++ b).take n = be n x := by rw [List.take_append_of_le_length hlen.ge, List.take_of_length_le hlen.le]
  have hdrop : (be n x ++ b).drop n = b := List.drop_left' hlen
  have hv : unbe (be n x) = x := (unbe_be ..).trans (Nat.mod_eq_of_lt hx)
  have hle : n ≤ (be n x ++ b).length := by simp [hlen]
  cases ty <;> simp_all [parseFields, decVal, tyLen]

/-- An octet string field of a record carries its length in front. -/
theorem parseFields_octets {f : Field} {fs : List Field} (hf : f.ty = .octets) (p b : List Byte) (hp : p.length < 65536) :
    parseFields (f :: fs) (be 2 p.length ++ p ++ b) = (parseFields fs b).map (.oct p :: ·) := by
  obtain ⟨ty, acc, flags, dflt, lo, hi⟩ := f
  simp only at hf
  subst hf
  have hlen : (be 2 p.length).length = 2 := length_be ..
  have hn : fieldBE (be 2 p.length ++ p ++ b) 0 2 = p.length := by
    rw [fieldBE, slice, List.drop_zero, List.append_assoc, List.take_append_of_le_length hlen.ge,
      List.take_of_length_le hlen.le, unbe_be]
    exact Nat.mod_eq_of_lt hp
  have hs : slice (be 2 p.length ++ p ++ b) 2 p.length = p := by
    rw [slice, List.append_assoc, List.drop_left' hlen, List.take_left' rfl]
  have hd : (be 2 p.length ++ p ++ b).drop (2 + p.length) = b := List.drop_left' (by simp [hlen])
  have hle : 2 + p.length ≤ (be 2 p.length ++ p ++ b).length := by simp [hlen]
  rw [parseFields]
  simp only [hn, hs, hd, if_pos hle]

theorem recordValues_parse {vs : List Val} {key : Nat} {b : List Byte} (h : recordValues key b = some vs) :
    parseFields (recordFields key) b = some vs := by
  unfold recordValues at h
  cases hp : parseFields (recordFields key) b with
  | none => rw [hp] at h; exact absurd h (by simp)
  | some ws =>
    rw [hp] at h
    dsimp only [Option.bind] at h
    split at h
    · exact h
    · exact absurd h (by simp)

/-- A whole record that passes the checks parses (check 9, R59). -/
theorem parse_of_checkWrite {f : Field} (h : checkWrite s r key v rule = none) (hf : fieldAt key = some f)
    (ht : f.ty = .record) :
    ∃ vs, recordValues key (valBytes v) = some vs := by
  have hin : (inRange f v && (f.ty != .record || (recordValues key (valBytes v)).isSome)) = true := by
    by_contra hn
    unfold checkWrite at h
    rw [hf] at h
    simp only [hn] at h
    grind
  simp only [ht, bne_self_eq_false, Bool.false_or, Bool.and_eq_true] at hin
  exact Option.isSome_iff_exists.mp hin.2

theorem check_of_checkWrite (h : checkWrite s r key v rule = none) : rule.check s r v = none := by
  unfold checkWrite at h
  grind

/-! ### Entries of a slot -/

theorem plain_opIdx (k : Nat) : PlainIndex (opIdx k) := by
  unfold PlainIndex opIdx
  omega

/-- One entry of a slot is put; another of the same slot is read. -/
theorem num_put_op {a b : Nat} (s : State) (k x : Nat) (ha : a < 256) (hb : b < 256) (h : a ≠ b) :
    (s.put (opIdx k) a x).num (opIdx k) b = s.num (opIdx k) b :=
  num_put_of_apart ha hb (.inr h) (.inr (.inr (.inr (plain_opIdx k))))

theorem oct_put_op {a b : Nat} (s : State) (k x : Nat) (ha : a < 256) (hb : b < 256) (h : a ≠ b) :
    (s.put (opIdx k) a x).oct (opIdx k) b = s.oct (opIdx k) b :=
  oct_put_of_apart ha hb (.inr h) (.inr (.inr (.inr (plain_opIdx k))))

/-- The range of one slot. -/
theorem opIdx_listed (k : Nat) : ∃ r ∈ (opIdx k, opIdx k) :: eventRanges, r.1 ≤ opIdx k ∧ opIdx k ≤ r.2 :=
  ⟨_, .head _, le_rfl, le_rfl⟩

theorem entriesOutside_put_op (s : State) (k a x : Nat) (ha : a < 256) :
    EntriesOutside ((opIdx k, opIdx k) :: eventRanges) s (s.put (opIdx k) a x) :=
  entriesOutside_put _ _ _ _ ha (opIdx_listed k)

theorem outside_setOp (s : State) (k : Nat) (f : LongOp → LongOp) : Outside [.mgmt] s (s.setOp k f) := by
  intro p hp
  cases p <;> simp at hp ⊢

theorem entriesOutside_setOp {rs : List (Nat × Nat)} (s : State) (k : Nat) (f : LongOp → LongOp) :
    EntriesOutside rs s (s.setOp k f) := .of_cat rfl

theorem begun_setOp_const (s : State) (k : Nat) {x : LongOp} (h : x.begun = false) :
    ((s.setOp k fun _ => x).op k).begun = false := by
  by_cases hk : k < s.mgmt.longOps.length
  · rw [op_setOp_self s k _ hk]
    exact h
  · simp [State.setOp, State.op, lmod, List.getElem?_eq_none (Nat.le_of_not_lt hk)]

/-! ### A slot changes state (R115) -/

theorem opState_putOp (s : State) (k st : Nat) : (putOp s k st).opState k = st := by
  unfold putOp
  split
  case isTrue h => exact h
  case isFalse => exact (num_raise (by decide) _ _ (by decide) (.inr (by unfold opIdx; omega))).trans (num_put_self ..)

theorem num_putOp (ha : a < 256) (h : i < 0x0E0000 ∨ 0x0E1FFF < i) (hne : i ≠ opIdx k ∨ a ≠ 5) :
    (putOp s k st).num i a = s.num i a := by
  unfold putOp
  split
  · rfl
  · exact (num_raise (by decide) _ _ ha h).trans (num_put_of_apart (by decide) ha (by omega) (by unfold opIdx; omega))

theorem oct_putOp : (putOp s k st).oct (opIdx k) 3 = s.oct (opIdx k) 3 := by
  unfold putOp
  split
  · rfl
  · exact (oct_outside (entriesOutside_raise _ _ _ _ (by decide)) (by simp) (by simp) (by simp) _ _ (by decide)
      (not_event _ (.inr (by unfold opIdx; omega)))).trans
      (oct_put_of_apart (by decide) (by decide) (by simp) (by unfold opIdx; omega))

theorem opKind_putOp : (putOp s k st).opKind k = s.opKind k :=
  num_putOp (by decide) (.inr (by unfold opIdx; omega)) (.inr (by decide))

theorem opTarget_putOp : (putOp s k st).opTarget k = s.opTarget k :=
  num_putOp (by decide) (.inr (by unfold opIdx; omega)) (.inr (by decide))

theorem opParams_putOp : (putOp s k st).opParams k = s.opParams k := oct_putOp

theorem outside_putOp (s : State) (k st : Nat) : Outside [.cat, .mgmt] s (putOp s k st) := by
  intro p hp
  cases p <;> simp at hp ⊢

theorem op_putOp (s : State) (k st j : Nat) : (putOp s k st).op j = s.op j := by
  unfold putOp
  split
  · rfl
  · exact congrArg (List.getD · j {}) (kept_raise ..).longOps

theorem entriesOutside_putOp (s : State) (k st : Nat) :
    EntriesOutside ((opIdx k, opIdx k) :: eventRanges) s (putOp s k st) := by
  unfold putOp
  split
  · exact .refl _ _
  · exact (entriesOutside_put _ _ _ _ (by decide) (opIdx_listed k)).trans
      ((entriesOutside_raise _ _ _ _ (by decide)).mono (List.subset_cons_self ..))

/-! ### A write of a slot asks for (R113) -/

theorem recAt_opIdx (k : Fin 64) : recAt (opIdx k) = some rec0F0100 := by
  revert k
  decide

theorem recordFields_opIdx (k : Fin 64) : recordFields (ent (opIdx k) 0) = rec0F0100.fields.drop 1 := by
  rw [recordFields, ent_div _ _ (by decide), recAt_opIdx]
  rfl

theorem fieldAt_opIdx (k : Fin 64) : fieldAt (ent (opIdx k) 0) = some ⟨.record, .rw, 0, 0, 0, 0⟩ := by
  rw [fieldAt, ent_div _ _ (by decide), ent_mod _ _ (by decide), recAt_opIdx]
  rfl

/-- What a whole slot record asks for. -/
theorem opReq_slotRecord {k : Fin 64} {kind target ctl : Nat} {params : List Byte}
    (h : checkWrite s r (ent (opIdx k) 0) (slotRecord kind target params ctl) rule = none)
    (hk : kind < 256) (ht : target < 2 ^ 32) (hp : params.length < 65536) (hc : ctl < 256) :
    opReq s k 0 (slotRecord kind target params ctl) = { kind, target, params, ctl } := by
  obtain ⟨vs, hv⟩ := parse_of_checkWrite h (fieldAt_opIdx k) rfl
  have hpar := recordValues_parse hv
  rw [recordFields_opIdx, slotRecord, valBytes] at hpar
  simp only [List.append_assoc, rec0F0100, List.drop_succ_cons, List.drop_zero] at hpar
  rw [parseFields_be (n := 1) rfl (by decide) (by decide) _ hk, parseFields_be (n := 4) rfl (by decide) (by decide) _ ht,
    ← List.append_assoc (be 2 params.length), parseFields_octets rfl _ _ hp,
    parseFields_be (n := 1) rfl (by decide) (by decide) _ hc] at hpar
  have hz : (parseFields [⟨.u8, .ro, 0, 0, 0, 255⟩, ⟨.u32, .ro, 0, 0, 0, 4294967295⟩, ⟨.u16, .ro, 0, 0, 0, 65535⟩,
      ⟨.u32, .ro, 0, 0, 0, 4294967295⟩, ⟨.u8, .ro, 0, 0, 0, 255⟩, ⟨.u64, .ro, 0, 0, 0, 18446744073709551615⟩]
      (List.replicate 20 0)) = some [.num 0, .num 0, .num 0, .num 0, .num 0, .num 0] := by decide
  rw [hz] at hpar
  simp only [opReq, slotRecord, valBytes] at hv ⊢
  rw [hv]
  rw [← Option.some_inj.mp hpar]
  rfl

theorem opReq_control (s : State) (k c : Nat) :
    opReq s k 4 (.num c) = { kind := s.opKind k, target := s.opTarget k, params := s.opParams k, ctl := c } := rfl

theorem sameFields_control (s : State) (k c : Nat) : sameFields s k (opReq s k 4 (.num c)) = true := by
  simp [opReq_control, sameFields]

/-- A control that passes the checks is one that the state table lists (R115). -/
theorem control_listed {k : Fin 64} {c : Nat} (h : Passes s r (ent (opIdx k) 4) (.num c) (slotRule k 4)) (h2 : 2 ≤ c) :
    ∃ t, controlled s k c = some t := by
  obtain ⟨-, -, hj⟩ := h
  rw [← Option.isSome_iff_exists]
  by_contra hn
  have hc : (opReq s k 4 (.num c)).ctl = c := rfl
  simp only [slotRule, sameFields_control, hc] at hj
  rw [if_neg (by simp), if_neg (by omega), if_neg (by omega)] at hj
  split at hj
  · exact absurd hj (by simp [refuse])
  · rw [if_pos (by simpa using hn)] at hj
    exact absurd hj (by simp [refuse])

theorem slotRule_control {c : Nat} {b : Bool} (hc : controlled s k c = some t) (h1 : c ≠ 1) :
    (slotRule k 4).apply s b r (.num c) = { s := t } := by
  simp only [slotRule, sameFields_control, if_true]
  have he : (opReq s k 4 (.num c)).ctl = c := rfl
  rw [he, if_neg h1, hc]
  rfl

/-- A target of a kind stays in or out of use while its chapter's entries stay (R161, R191, R507). -/
theorem targetInUse_congr {kind target : Nat} {b : Bool} (ht : targetOk kind target = true)
    (hn : ∀ i, i < 0x0E0000 → t.num i 1 = s.num i 1) (hu : t.unit = s.unit) (hc : t.cfg = s.cfg) :
    targetInUse t kind target b = targetInUse s kind target b := by
  unfold targetInUse
  split
  · rw [hc]
  · simp only [targetOk, Bool.and_eq_true, decide_eq_true_eq] at ht
    rw [State.shState, State.shState, hu, hn _ (by unfold shIdx; omega)]
  · simp only [targetOk, Bool.and_eq_true, decide_eq_true_eq] at ht
    rw [hn _ (by omega)]
  · rfl

/-- The fields of a slot as START leaves them. -/
def State.withFields (s : State) (k : Nat) (o : OpReq) : State :=
  if sameFields s k o then s
  else ((s.write (ent (opIdx k) 1) (.num o.kind)).write (ent (opIdx k) 2) (.num o.target)).write (ent (opIdx k) 3) (.oct o.params)

theorem withFields_fields (s : State) (k : Nat) (o : OpReq) :
    (s.withFields k o).opKind k = o.kind ∧ (s.withFields k o).opTarget k = o.target ∧ (s.withFields k o).opParams k = o.params := by
  unfold State.withFields
  split
  case isTrue h =>
    simp only [sameFields, Bool.and_eq_true, beq_iff_eq] at h
    obtain ⟨⟨hk, ht⟩, hp⟩ := h
    exact ⟨hk.symm, ht.symm, hp.symm⟩
  case isFalse =>
    have hap : ∀ a b, a < 4 → a ≠ b → Apart (opIdx k) a (opIdx k) b := fun a b ha hab => ⟨.inr hab, .inr (.inl ha)⟩
    refine ⟨?_, ?_, ?_⟩
    · exact (num_write_of_apart (by decide) (by decide) (hap 3 1 (by decide) (by decide))).trans
        ((num_write_of_apart (by decide) (by decide) (hap 2 1 (by decide) (by decide))).trans (num_write_self ..))
    · exact (num_write_of_apart (by decide) (by decide) (hap 3 2 (by decide) (by decide))).trans (num_write_self ..)
    · exact congrArg valBytes (val_write_self ..)

theorem num_withFields {o : OpReq} (ha : a < 256) (h : i ≠ opIdx k ∨ 3 < a) : (s.withFields k o).num i a = s.num i a := by
  unfold State.withFields
  split
  · rfl
  · have hap : ∀ b, b < 4 → Apart (opIdx k) b i a := fun b hb => ⟨by omega, .inr (.inl hb)⟩
    rw [num_write_of_apart (by decide) ha (hap 3 (by decide)), num_write_of_apart (by decide) ha (hap 2 (by decide)),
      num_write_of_apart (by decide) ha (hap 1 (by decide))]

theorem outside_withFields (s : State) (k : Nat) (o : OpReq) : Outside [.cat, .gen] s (s.withFields k o) := by
  intro p hp
  unfold State.withFields
  cases p <;> simp at hp ⊢

theorem entriesOutside_withFields (s : State) (k : Nat) (o : OpReq) :
    EntriesOutside ((opIdx k, opIdx k) :: eventRanges) s (s.withFields k o) := by
  unfold State.withFields
  split
  · exact .refl _ _
  · exact ((entriesOutside_write _ _ _ _ (by decide) (opIdx_listed k)).trans
      (entriesOutside_write _ _ _ _ (by decide) (opIdx_listed k))).trans
      (entriesOutside_write _ _ _ _ (by decide) (opIdx_listed k))

/-- The entries of a slot as START leaves them, but for the operation's state. -/
def State.slotShown (s : State) (k who : Nat) : State :=
  let s := ((s.put (opIdx k) 6 0).put (opIdx k) 7 0).put (opIdx k) 8 0
  (s.put (opIdx k) 9 who).put (opIdx k) 0x0A s.rulingPick

/-- The ruling pick is read from the selection, the ruling base and CURRENT_PICK (R9, R17). -/
theorem rulingPick_congr (h1 : t.num 0x030000 1 = s.num 0x030000 1) (h5 : ∀ i, t.num i 5 = s.num i 5) (ht : t.tim = s.tim) :
    t.rulingPick = s.rulingPick := by
  have hr : t.rulingTb = s.rulingTb := h1
  have ha : t.rulingArmed = s.rulingArmed := by
    unfold State.rulingArmed
    rw [hr, tb_congr ht]
  have hp : t.pick s.rulingTb = s.pick s.rulingTb := h5 _
  unfold State.rulingPick
  rw [ha, hr, hp]

theorem num_slotShown {who : Nat} (ha : a < 256) (h : i ≠ opIdx k ∨ a < 6) : (s.slotShown k who).num i a = s.num i a := by
  unfold State.slotShown
  have hp := plain_opIdx k
  unfold PlainIndex at hp
  simp (disch := omega) only [num_put_of_apart]

theorem oct_slotShown {who : Nat} : (s.slotShown k who).oct (opIdx k) 3 = s.oct (opIdx k) 3 := by
  unfold State.slotShown
  simp (disch := decide) only [oct_put_op]

theorem outside_slotShown (s : State) (k who : Nat) : Outside [.cat] s (s.slotShown k who) := by
  intro p hp
  unfold State.slotShown
  cases p <;> simp at hp ⊢

/-- The result and the pick of acceptance of a slot just taken. -/
theorem slotShown_shown (s : State) (k who : Nat) : (s.slotShown k who).num (opIdx k) 6 = 0 ∧
    (s.slotShown k who).num (opIdx k) 7 = 0 ∧ (s.slotShown k who).num (opIdx k) 8 = 0 ∧
    (s.slotShown k who).num (opIdx k) 0x0A = s.rulingPick := by
  unfold State.slotShown
  have hi : opIdx k ≠ 0x030000 := by unfold opIdx; omega
  have hput : ∀ (s : State) (a : Nat), a < 256 → a ≠ 5 → ∀ i, (s.put (opIdx k) a 0).num i 5 = s.num i 5 := fun s a ha h5 i =>
    num_put_of_apart ha (by decide) (.inr h5) (.inr (.inr (.inr (plain_opIdx k))))
  have hp : (((s.put (opIdx k) 6 0).put (opIdx k) 7 0).put (opIdx k) 8 0).rulingPick = s.rulingPick := by
    refine rulingPick_congr ?_ (fun i => ?_) rfl
    · rw [num_put_ne _ _ _ _ _ _ (by decide) (by decide) hi, num_put_ne _ _ _ _ _ _ (by decide) (by decide) hi,
        num_put_ne _ _ _ _ _ _ (by decide) (by decide) hi]
    · rw [hput _ 8 (by decide) (by decide), hput _ 7 (by decide) (by decide), hput _ 6 (by decide) (by decide)]
  simp (disch := decide) only [num_put_op, num_put_self, hp, and_self]

theorem entriesOutside_slotShown (s : State) (k who : Nat) :
    EntriesOutside ((opIdx k, opIdx k) :: eventRanges) s (s.slotShown k who) :=
  ((((entriesOutside_put_op _ _ 6 _ (by decide)).trans (entriesOutside_put_op _ _ 7 _ (by decide))).trans
    (entriesOutside_put_op _ _ 8 _ (by decide))).trans (entriesOutside_put_op _ _ 9 _ (by decide))).trans
    (entriesOutside_put_op _ _ 10 _ (by decide))

/-- START leaves the slot's part beside its entries fresh and its entries as `slotShown` says, then runs or queues it. -/
theorem startOp_eq (s : State) (k : Nat) (r : Req) : ∃ x who, x.begun = false ∧
    startOp s k r = runOrQueue ((s.setOp k fun _ => x).slotShown k who) k :=
  ⟨{ trans := r.trans, startedAt := s.now, upTo := (s.mgmt.seq + 2 ^ 32 - 1) % 2 ^ 32 }, _, rfl, rfl⟩

/-- A write that the entry takes at once with an answer of its own. -/
theorem submit_answers {d m : Nat} (hw : AtOnce s r key v rule)
    (ha : rule.apply s false (carried r) v = { s := t, status := d, detail := m }) (hd : d ≠ stOk) :
    submit s r key v rule = t.reply d m := by
  rw [submit_atOnce hw]
  have hi : ¬(d = stOk ∧ (!t.upd.defaultsNext.isEmpty) = true) := fun h => hd h.1
  have he : applyWrite s false (carried r) key v rule = { s := t, status := d, detail := m } := by
    unfold applyWrite
    rw [ha]
    exact if_neg hi
  rw [he]

/-- What START leaves before the operation runs or queues (R113, R115). -/
def State.started (s : State) (k : Nat) (o : OpReq) (x : LongOp) (who : Nat) : State :=
  ((s.withFields k o).setOp k fun _ => x).slotShown k who

/-- A START that nothing refuses (R113, R115). -/
theorem start_eq {k : Fin 64} {kind target : Nat} {params : List Byte}
    (hw : AtOnce s r (ent (opIdx k) 0) (slotRecord kind target params 1) (slotRule k 0))
    (hk : kind < 256) (ht : target < 2 ^ 32) (hp : params.length < 65536) :
    targetOk kind target = true ∧ ∃ x who, x.begun = false ∧
      exec (.longOpStart r k kind target params) s =
        .next ((runOrQueue (s.started k { kind, target, params, ctl := 1 } x who) k).reply stAccepted
          (s.rulingPick % 2 ^ 32)) := by
  obtain ⟨⟨hs, hc, hj⟩, hto, hn⟩ := id hw
  have ho := opReq_slotRecord hc hk ht hp (by decide)
  have hstart : startCheck s (carried r) (ent (opIdx k) 0) { kind, target, params, ctl := 1 } = none := by
    have h := check_of_checkWrite hc
    simp only [slotRule, ho] at h
    exact (if_pos trivial).symm.trans h
  have hok : targetOk kind target = true := by
    by_contra hno
    rw [startCheck, if_pos (by simp [hno])] at hstart
    exact absurd hstart (by simp)
  refine ⟨hok, ?_⟩
  obtain ⟨x, who, hx, he⟩ := startOp_eq (s.withFields k { kind, target, params, ctl := 1 }) k (carried r)
  refine ⟨x, who, hx, ?_⟩
  have hpick : (s.withFields k { kind, target, params, ctl := 1 }).rulingPick = s.rulingPick :=
    rulingPick_congr (num_withFields (by decide) (.inl (by unfold opIdx; omega))) (fun i => num_withFields (by decide) (.inr (by decide)))
      ((outside_withFields _ _ _).tim (by decide))
  have ha : (slotRule k 0).apply s false (carried r) (slotRecord kind target params 1) =
      { s := runOrQueue (s.started k { kind, target, params, ctl := 1 } x who) k, status := stAccepted,
        detail := s.rulingPick % 2 ^ 32 } := by
    simp only [slotRule, ho]
    rw [if_pos trivial, ← hpick]
    exact congrArg (fun w => ({ s := w, status := stAccepted, detail := _ } : Done)) he
  exact (exec_write rfl s).trans (congrArg Host.Outcome.next (submit_answers hw ha (by decide)))

theorem opKind_started {o : OpReq} {x : LongOp} {who : Nat} : (s.started k o x who).opKind k = o.kind :=
  (num_slotShown (by decide) (.inr (by decide))).trans ((num_setOp ..).trans (withFields_fields s k o).1)

theorem opTarget_started {o : OpReq} {x : LongOp} {who : Nat} : (s.started k o x who).opTarget k = o.target :=
  (num_slotShown (by decide) (.inr (by decide))).trans ((num_setOp ..).trans (withFields_fields s k o).2.1)

theorem opParams_started {o : OpReq} {x : LongOp} {who : Nat} : (s.started k o x who).opParams k = o.params :=
  oct_slotShown.trans (withFields_fields s k o).2.2

theorem outside_started (o : OpReq) (x : LongOp) (who : Nat) : Outside [.cat, .gen, .mgmt] s (s.started k o x who) :=
  (((outside_withFields s k o).mono (by decide)).andThen (outside_setOp _ _ _) (by decide)).andThen (outside_slotShown _ _ _)
    (by decide)

theorem entriesOutside_started (o : OpReq) (x : LongOp) (who : Nat) :
    EntriesOutside ((opIdx k, opIdx k) :: eventRanges) s (s.started k o x who) :=
  ((entriesOutside_withFields s k o).trans (entriesOutside_setOp _ _ _)).trans (entriesOutside_slotShown _ _ _)

theorem num_started {o : OpReq} {x : LongOp} {who : Nat} (hi : i < 0x0E0000) (ha : a < 256) :
    (s.started k o x who).num i a = s.num i a := by
  have hne : i ≠ opIdx k := by unfold opIdx; omega
  rw [State.started, num_slotShown ha (.inl hne), num_setOp, num_withFields ha (.inl hne)]

theorem op_slotShown (s : State) (k who j : Nat) : (s.slotShown k who).op j = s.op j :=
  congrArg (fun m : Mgmt => m.longOps.getD j {}) ((outside_slotShown s k who).mgmt (by decide))

theorem begun_started {o : OpReq} {x : LongOp} {who : Nat} (hx : x.begun = false) :
    ((s.started k o x who).op k).begun = false := by
  rw [State.started, op_slotShown]
  exact begun_setOp_const _ _ hx

theorem shown_started (o : OpReq) (x : LongOp) (who : Nat) : (s.started k o x who).num (opIdx k) 6 = 0 ∧
    (s.started k o x who).num (opIdx k) 7 = 0 ∧ (s.started k o x who).num (opIdx k) 8 = 0 ∧
    (s.started k o x who).num (opIdx k) 0x0A = s.rulingPick := by
  obtain ⟨h6, h7, h8, hA⟩ := slotShown_shown ((s.withFields k o).setOp k fun _ => x) k who
  refine ⟨h6, h7, h8, hA.trans ?_⟩
  refine rulingPick_congr ?_ (fun i => ?_) ((outside_withFields s k o).tim (by decide))
  · rw [num_setOp, num_withFields (by decide) (.inl (by unfold opIdx; omega))]
  · rw [num_setOp, num_withFields (by decide) (.inr (by decide))]

/-- Whether the operation just taken finds its target in use. -/
theorem targetInUse_started {o : OpReq} {x : LongOp} {who : Nat} (ht : targetOk o.kind o.target = true) :
    targetInUse (s.started k o x who) o.kind o.target false = targetInUse s o.kind o.target false := by
  have h := outside_started (s := s) (k := k) o x who
  exact targetInUse_congr ht (fun i hi => num_started hi (by decide)) (h.unit (by decide)) (h.cfg (by decide))

/-! ### Running and queueing (R115) -/

theorem runOrQueue_busy (h : targetInUse s (s.opKind k) (s.opTarget k) (s.op k).begun = true) :
    runOrQueue s k = putOp s k opQueued := if_pos h

theorem runOrQueue_begun (h : targetInUse s (s.opKind k) (s.opTarget k) (s.op k).begun = false) (hb : (s.op k).begun = true) :
    runOrQueue s k = putOp s k opRunning := by
  unfold runOrQueue
  rw [if_neg (by simp [h])]
  exact if_pos ((congrArg LongOp.begun (op_putOp ..)).trans hb)

/-- A scrub, margin scan or bulk copy begins with no other unit's help (R443, R191, R434). -/
theorem runOrQueue_plain (h : targetInUse s (s.opKind k) (s.opTarget k) (s.op k).begun = false) (hb : (s.op k).begun = false)
    (hk : s.opKind k = 3 ∨ s.opKind k = 5 ∨ s.opKind k = 7) :
    ∃ f, runOrQueue s k = (putOp s k opRunning).setOp k f := by
  unfold runOrQueue
  refine ⟨fun x => { x with begun := true, pos := 0, startedAt := (putOp s k opRunning).now }, ?_⟩
  rw [if_neg (by simp [h])]
  refine (if_neg (by rw [op_putOp, hb]; exact Bool.false_ne_true)).trans ?_
  rw [beginOp]
  have hk' : ((putOp s k opRunning).setOp k fun x => { x with begun := true, pos := 0, startedAt := (putOp s k opRunning).now }).opKind k
      = s.opKind k := opKind_putOp
  rw [hk']
  rcases hk with hk | hk | hk
  · rw [hk]
    rfl
  · rw [hk]
    rfl
  · rw [hk]
    rfl

theorem runOrQueue_queues (h : targetInUse s (s.opKind k) (s.opTarget k) (s.op k).begun = true) :
    (runOrQueue s k).opState k = opQueued ∧ (runOrQueue s k).opKind k = s.opKind k ∧
    (runOrQueue s k).opTarget k = s.opTarget k ∧ (runOrQueue s k).opParams k = s.opParams k ∧
    Outside [.cat, .mgmt] s (runOrQueue s k) ∧ EntriesOutside ((opIdx k, opIdx k) :: eventRanges) s (runOrQueue s k) := by
  rw [runOrQueue_busy h]
  exact ⟨opState_putOp .., opKind_putOp, opTarget_putOp, opParams_putOp, outside_putOp _ _ _, entriesOutside_putOp _ _ _⟩

theorem runOrQueue_runs (h : targetInUse s (s.opKind k) (s.opTarget k) (s.op k).begun = false) (hb : (s.op k).begun = false)
    (hk : s.opKind k = 3 ∨ s.opKind k = 5 ∨ s.opKind k = 7) :
    (runOrQueue s k).opState k = opRunning ∧ (runOrQueue s k).opKind k = s.opKind k ∧
    (runOrQueue s k).opTarget k = s.opTarget k ∧ (runOrQueue s k).opParams k = s.opParams k ∧
    (∀ i, i ≠ 5 → i < 256 → (runOrQueue s k).num (opIdx k) i = s.num (opIdx k) i) ∧
    Outside [.cat, .mgmt] s (runOrQueue s k) ∧ EntriesOutside ((opIdx k, opIdx k) :: eventRanges) s (runOrQueue s k) := by
  obtain ⟨f, hf⟩ := runOrQueue_plain h hb hk
  rw [hf]
  exact ⟨opState_putOp .., opKind_putOp, opTarget_putOp, opParams_putOp,
    fun i hi h => num_putOp h (.inr (by unfold opIdx; omega)) (.inr hi),
    (outside_putOp _ _ _).andThen (outside_setOp _ _ _) (by decide),
    (entriesOutside_putOp _ _ _).trans (entriesOutside_setOp _ _ _)⟩

theorem num_repace (s : State) (k : Nat) (b : Bool) (i a : Nat) : (repace s k b).num i a = s.num i a := by
  unfold repace
  split
  · exact num_with_itg ..
  · rfl

theorem outside_repace (s : State) (k : Nat) (b : Bool) : Outside [.itg] s (repace s k b) := by
  unfold repace
  split
  · intro p hp
    cases p <;> simp at hp ⊢
  · exact .refl _ _

theorem outside_noteControl (s : State) (k : Nat) : Outside [.mgmt] s (noteControl s k) := by
  unfold noteControl
  split
  · exact outside_setOp _ _ _
  · exact .refl _ _

/-- `t` is `s` with slot `k` in state `st`, reached through changes that touch no entry. -/
structure SlotMoved (s t : State) (k st : Nat) : Prop where
  state : t.opState k = st
  outside : Outside [.cat, .mgmt, .itg] s t
  entries : EntriesOutside ((opIdx k, opIdx k) :: eventRanges) s t

theorem slotMoved_putOp (s : State) (k st : Nat) : SlotMoved s (putOp s k st) k st :=
  ⟨opState_putOp .., (outside_putOp _ _ _).mono (by decide), entriesOutside_putOp _ _ _⟩

theorem slotMoved_refl (h : s.opState k = st) : SlotMoved s s k st := ⟨h, .refl _ _, .refl _ _⟩

theorem SlotMoved.of_note (h : SlotMoved (noteControl s k) t k st) : SlotMoved s t k st := by
  have ho := (outside_noteControl s k).mono (qs := [.cat, .mgmt, .itg]) (by decide)
  exact ⟨h.state, ho.trans h.outside, (EntriesOutside.of_cat ((outside_noteControl s k).cat (by decide))).trans h.entries⟩

theorem SlotMoved.of_repace {b : Bool} (h : SlotMoved (repace s k b) t k st) : SlotMoved s t k st := by
  have ho := (outside_repace s k b).mono (qs := [.cat, .mgmt, .itg]) (by decide)
  exact ⟨h.state, ho.trans h.outside, (EntriesOutside.of_cat ((outside_repace s k b).cat (by decide))).trans h.entries⟩

/-- SUSPEND (R115). -/
theorem suspend_moved (h : controlled s k 2 = some t) : ∃ st, SlotMoved s t k st ∧ (s.opState k = opQueued → st = opSuspended) ∧
    (s.opState k = opRunning → st = opSuspending) ∧ Outside [.cat, .mgmt] s t := by
  simp only [controlled] at h
  split at h
  case isTrue hq =>
    cases h
    exact ⟨_, slotMoved_putOp .., fun _ => rfl, fun hr => absurd (hq.symm.trans hr) (by decide), outside_putOp _ _ _⟩
  case isFalse hq =>
    split at h
    case isTrue hr =>
      cases h
      exact ⟨_, (slotMoved_putOp ..).of_note, fun h => absurd h hq, fun _ => rfl,
        ((outside_noteControl s k).mono (by decide)).andThen (outside_putOp _ _ _) (by decide)⟩
    case isFalse hr =>
      split at h
      case isTrue hs =>
        cases h
        exact ⟨_, slotMoved_refl hs, fun h => absurd h hq, fun _ => rfl, .refl _ _⟩
      case isFalse hs =>
        split at h
        case isTrue hc =>
          cases h
          exact ⟨_, slotMoved_putOp .., fun h => absurd h hq, fun hr => absurd (hc.1.symm.trans hr) (by decide),
            outside_putOp _ _ _⟩
        case isFalse => exact absurd h (by simp)

theorem targetInUse_repace {b c : Bool} (kind target : Nat) : targetInUse
    (repace s k b) kind target c = targetInUse s kind target c := by
  have ho := outside_repace s k b
  have hu : (repace s k b).unit = s.unit := ho.unit (by decide)
  have hc : (repace s k b).cfg = s.cfg := ho.cfg (by decide)
  have hn : ∀ i a, (repace s k b).num i a = s.num i a := num_repace s k b
  unfold targetInUse State.shState
  simp only [hu, hc, hn]

/-- RESUME of an operation that had begun and whose target is free (R115). -/
theorem resume_moved (h : controlled s k 3 = some t) (hb : (s.op k).begun = true)
    (hf : targetInUse s (s.opKind k) (s.opTarget k) true = false) : ∃ st, SlotMoved s t k st ∧
    (s.opState k = opSuspended → st = opRunning) ∧ (s.opState k = opSuspendedCancel → st = opCancelling) := by
  simp only [controlled] at h
  split at h
  case isTrue hs =>
    have hr : runOrQueue (repace s k false) k = putOp (repace s k false) k opRunning := by
      have hb' : ((repace s k false).op k).begun = true := by
        rw [State.op, (outside_repace s k false).mgmt (by decide)]
        exact hb
      refine runOrQueue_begun ?_ hb'
      rw [hb', targetInUse_repace]
      rw [State.opKind, State.opTarget, num_repace, num_repace]
      exact hf
    rw [hr] at h
    cases h
    exact ⟨_, (slotMoved_putOp ..).of_repace, fun _ => rfl, fun hc => absurd (hs.symm.trans hc) (by decide)⟩
  case isFalse hs =>
    split at h
    · cases h
      exact ⟨_, (slotMoved_putOp ..).of_repace, fun h => absurd h hs, fun _ => rfl⟩
    · exact absurd h (by simp)

/-- CANCEL (R115, R117). -/
theorem cancel_moved (h : controlled s k 4 = some t) : ∃ st, SlotMoved s t k st ∧
    (s.opState k = opQueued → st = if undoNeeded s k then opCancelling else opCancelled) ∧
    (s.opState k = opRunning ∨ s.opState k = opSuspending → st = opCancelling) := by
  simp only [controlled] at h
  split at h
  case isTrue hq =>
    cases h
    have hno : ¬(s.opState k = opRunning ∨ s.opState k = opSuspending) := by
      rcases hq with h | h <;> rw [h] <;> decide
    refine ⟨_, ?_, fun _ => rfl, fun h => absurd h hno⟩
    split
    · exact (slotMoved_putOp ..).of_repace
    · exact slotMoved_putOp ..
  case isFalse hq =>
    have hq' : s.opState k ≠ opQueued := fun h => hq (.inl h)
    split at h
    case isTrue =>
      cases h
      exact ⟨_, (slotMoved_putOp ..).of_repace.of_note, fun h => absurd h hq', fun _ => rfl⟩
    case isFalse hr =>
      split at h
      · cases h
        exact ⟨_, slotMoved_refl rfl, fun h => absurd h hq', fun h => absurd h hr⟩
      · exact absurd h (by simp)

/-- A slot as RELEASE leaves it. -/
def State.slotReleased (s : State) (k : Nat) : State :=
  let s := (putOp s k opFree).setOp k fun _ => {}
  let s := ((s.write (ent (opIdx k) 1) (.num 0)).write (ent (opIdx k) 2) (.num 0)).write (ent (opIdx k) 3) (.oct [])
  [6, 7, 8, 9, 10].foldl (fun s i => s.put (opIdx k) i 0) s

theorem controlled_release (h : terminal (s.opState k) = true) : controlled s k 5 = some (s.slotReleased k) := if_pos h

theorem slotReleased_spec : (s.slotReleased k).opState k = opFree ∧ (s.slotReleased k).opKind k = 0 ∧
    (s.slotReleased k).opTarget k = 0 ∧ (s.slotReleased k).opParams k = [] ∧
    (∀ i, 6 ≤ i → i ≤ 10 → (s.slotReleased k).num (opIdx k) i = 0) ∧
    Outside [.cat, .gen, .mgmt] s (s.slotReleased k) ∧
    EntriesOutside ((opIdx k, opIdx k) :: eventRanges) s (s.slotReleased k) := by
  unfold State.slotReleased
  extract_lets v w
  have hv : v.opState k = opFree := opState_putOp ..
  have hvo : Outside [.cat, .mgmt] s v := (outside_putOp _ _ _).andThen (outside_setOp _ _ _) (by decide)
  have hve : EntriesOutside ((opIdx k,
    opIdx k) :: eventRanges) s v := (entriesOutside_putOp _ _ _).trans (entriesOutside_setOp _ _ _)
  clear_value v
  have hap : ∀ a b, a < 4 → a ≠ b → Apart (opIdx k) a (opIdx k) b := fun a b ha hab => ⟨.inr hab, .inr (.inl ha)⟩
  have hst : w.opState k = opFree :=
    (num_write_of_apart (by decide) (by decide) (hap 3 5 (by decide) (by decide))).trans
      ((num_write_of_apart (by decide) (by decide) (hap 2 5 (by decide) (by decide))).trans
        ((num_write_of_apart (by decide) (by decide) (hap 1 5 (by decide) (by decide))).trans hv))
  have hk : w.opKind k = 0 := (num_write_of_apart (by decide) (by decide) (hap 3 1 (by decide) (by decide))).trans
    ((num_write_of_apart (by decide) (by decide) (hap 2 1 (by decide) (by decide))).trans (num_write_self ..))
  have ht : w.opTarget k = 0 := (num_write_of_apart (by decide) (by decide) (hap 3 2 (by decide) (by decide))).trans (num_write_self ..)
  have hp : w.opParams k = [] := congrArg valBytes (val_write_self ..)
  have hwo : Outside [.cat, .gen] v w := ((outside_write _ _ _).trans (outside_write _ _ _)).trans (outside_write _ _ _)
  have hwe : EntriesOutside ((opIdx k, opIdx k) :: eventRanges) v w :=
    ((entriesOutside_write _ _ _ _ (by decide) (opIdx_listed k)).trans
      (entriesOutside_write _ _ _ _ (by decide) (opIdx_listed k))).trans
      (entriesOutside_write _ _ _ _ (by decide) (opIdx_listed k))
  clear_value w
  simp only [List.foldl_cons, List.foldl_nil]
  refine ⟨?_, ?_, ?_, ?_, ?_, ?_, ?_⟩
  · unfold State.opState at hst ⊢
    simp (disch := decide) only [num_put_op, hst]
  · unfold State.opKind at hk ⊢
    simp (disch := decide) only [num_put_op, hk]
  · unfold State.opTarget at ht ⊢
    simp (disch := decide) only [num_put_op, ht]
  · unfold State.opParams at hp ⊢
    simp (disch := decide) only [oct_put_op, hp]
  · intro i h6 h10
    interval_cases i <;> simp (disch := decide) only [num_put_op, num_put_self]
  · refine ((hvo.mono (by decide)).andThen hwo (by decide)).trans fun p hp => ?_
    cases p <;> simp at hp ⊢
  · exact (hve.trans hwe).trans (((((entriesOutside_put_op _ _ 6 _ (by decide)).trans
      (entriesOutside_put_op _ _ 7 _ (by decide))).trans (entriesOutside_put_op _ _ 8 _ (by decide))).trans
      (entriesOutside_put_op _ _ 9 _ (by decide))).trans (entriesOutside_put_op _ _ 10 _ (by decide)))

/-- Settles O16: every control leads through one change of the slot's state. -/
theorem longOperationsTakeTheirControls : Obligations.LongOperationsTakeTheirControls := by
  unfold Obligations.LongOperationsTakeTheirControls
  refine ⟨?start, ?suspend, ?resume, ?cancel, ?release⟩
  case start =>
    intro s r k kind target params hw hk ht hp
    obtain ⟨hok, x, who, hx, he⟩ := start_eq hw hk ht hp
    have hb := begun_started (s := s) (k := k) (o := { kind, target, params, ctl := 1 }) (who := who) hx
    have hu := targetInUse_started (s := s) (k := k) (o := { kind, target, params, ctl := 1 }) (x := x) (who := who) hok
    have hout := outside_started (s := s) (k := k) { kind, target, params, ctl := 1 } x who
    have hent := entriesOutside_started (s := s) (k := k) { kind, target, params, ctl := 1 } x who
    have hK : (s.started k { kind, target, params, ctl := 1 } x who).opKind k = kind := opKind_started
    have hT : (s.started k { kind, target, params, ctl := 1 } x who).opTarget k = target := opTarget_started
    have hP : (s.started k { kind, target, params, ctl := 1 } x who).opParams k = params := opParams_started
    obtain ⟨h6, h7, h8, hA⟩ := shown_started (s := s) (k := k) { kind, target, params, ctl := 1 } x who
    generalize s.started k { kind, target, params, ctl := 1 } x who = w at *
    refine ⟨_, he, rfl, fun hkind hfree => ?_, fun hbusy => ?_⟩
    · obtain ⟨hst, hk, ht, hp, hput, ho, he⟩ :=
        runOrQueue_runs (by rw [hb, hK, hT, hu, hfree]) hb (by rw [hK]; exact hkind)
      generalize runOrQueue w k = t at *
      refine ⟨hst, hk.trans hK, ht.trans hT, hp.trans hP, (hput 6 (by decide) (by decide)).trans h6,
        (hput 7 (by decide) (by decide)).trans h7, (hput 8 (by decide) (by decide)).trans h8,
        (hput 10 (by decide) (by decide)).trans hA, ?_, (hent.trans he).trans (.of_cat rfl)⟩
      exact ((hout.mono (by decide)).andThen ho (by decide)).andThen (reply_outside _ _ _) (by decide)
    · obtain ⟨hst, hk, ht, hp, ho, he⟩ := runOrQueue_queues (by rw [hb, hK, hT, hu, hbusy])
      generalize runOrQueue w k = t at *
      refine ⟨hst, hk.trans hK, ht.trans hT, hp.trans hP, ?_, (hent.trans he).trans (.of_cat rfl)⟩
      exact ((hout.mono (by decide)).andThen ho (by decide)).andThen (reply_outside _ _ _) (by decide)
  case suspend =>
    intro s r k hw
    obtain ⟨t, ht⟩ := control_listed hw.1 (by decide)
    obtain ⟨st, hm, hq, hr, ho⟩ := suspend_moved ht
    refine does_write rfl hw (slotRule_control ht (by decide)) fun u hu => ⟨hu.ok, ?_, ?_, ?_,
      hm.entries.trans (.of_cat hu.cat)⟩
    · exact fun h => ((hu.num ..).trans hm.state).trans (hq h)
    · exact fun h => ((hu.num ..).trans hm.state).trans (hr h)
    · exact (ho.mono (by decide)).andThen hu.outside (by decide)
  case resume =>
    intro s r k hw hb hf
    obtain ⟨t, ht⟩ := control_listed hw.1 (by decide)
    obtain ⟨st, hm, hq, hr⟩ := resume_moved ht hb hf
    refine does_write rfl hw (slotRule_control ht (by decide)) fun u hu => ⟨hu.ok, ?_, ?_, ?_,
      hm.entries.trans (.of_cat hu.cat)⟩
    · exact fun h => ((hu.num ..).trans hm.state).trans (hq h)
    · exact fun h => ((hu.num ..).trans hm.state).trans (hr h)
    · exact (hm.outside.mono (by decide)).andThen hu.outside (by decide)
  case cancel =>
    intro s r k hw
    obtain ⟨t, ht⟩ := control_listed hw.1 (by decide)
    obtain ⟨st, hm, hq, hr⟩ := cancel_moved ht
    refine does_write rfl hw (slotRule_control ht (by decide)) fun u hu => ⟨hu.ok, ?_, ?_, ?_,
      hm.entries.trans (.of_cat hu.cat)⟩
    · exact fun h => ((hu.num ..).trans hm.state).trans (hq h)
    · exact fun h => ((hu.num ..).trans hm.state).trans (hr h)
    · exact (hm.outside.mono (by decide)).andThen hu.outside (by decide)
  case release =>
    intro s r k hw hterm
    obtain ⟨hst, hk, ht, hp, hz, ho, he⟩ := slotReleased_spec (s := s) (k := k)
    refine does_write rfl hw (slotRule_control (controlled_release hterm) (by decide)) fun u hu =>
      ⟨hu.ok, (hu.num ..).trans hst, (hu.num ..).trans hk, (hu.num ..).trans ht, (hu.oct ..).trans hp,
        fun i h1 h2 => (hu.num ..).trans (hz i h1 h2), ?_, he.trans (.of_cat hu.cat)⟩
    exact (ho.mono (by decide)).andThen hu.outside (by decide)

end Sys2Proof.Machine
end

section
/-! How long operations end (R115 to R117, R443, R191, R457, R434, R108, R507; obligation O17). -/

namespace Sys2Proof.Machine

variable {s t : State} {k n i a : Nat}

theorem oct_putOct_self (s : State) (i a : Nat) (b : List Byte) : (s.putOct i a b).oct i a = b := by
  simp [State.oct, State.val, State.putOct, valBytes]

theorem opState_finishOp (s : State) (k : Nat) : (finishOp s k).opState k = opDone := opState_putOp ..

theorem progress_finishOp (s : State) (k : Nat) : (finishOp s k).num (opIdx k) 6 = 1000000 :=
  (num_putOp (by decide) (.inr (by unfold opIdx; omega)) (.inr (by decide))).trans (num_put_self ..)

theorem entriesOutside_finishOp (s : State) (k : Nat) :
    EntriesOutside ((opIdx k, opIdx k) :: eventRanges) s (finishOp s k) := by
  have hr : EntriesOutside ((opIdx k, opIdx k) :: eventRanges) s (if justControlled s k then s.reply stBusy 0 else s) := by
    split
    · exact .of_cat rfl
    · exact .refl _ _
  exact ((hr.trans (entriesOutside_put_op _ _ _ _ (by decide))).trans (entriesOutside_put_op _ _ _ _ (by decide))).trans
    (entriesOutside_putOp _ _ _)

theorem cap_putOp (s : State) (k st : Nat) : (putOp s k st).cap = s.cap := (outside_putOp s k st).cap (by decide)

/-- A completion in the cycle of its SUSPEND or CANCEL makes that command read BUSY (R116). -/
theorem answer_finishOp (h : justControlled s k = true) : (finishOp s k).cap.answer = { status := stBusy } := by
  unfold finishOp
  rw [if_pos h, cap_putOp]
  rfl

theorem justControlled_congr (h5 : t.opState k = s.opState k) (hc : (t.op k).ctlAt = (s.op k).ctlAt) (hn : t.now = s.now) :
    justControlled t k = justControlled s k := by
  unfold justControlled
  rw [h5, hc, hn]

theorem opState_failOp (s : State) (k st d : Nat) : (failOp s k st d).opState k = opFailed := opState_putOp ..

/-- The result of a failed operation. -/
theorem failOp_spec (s : State) (k st d : Nat) : (failOp s k st d).opState k = opFailed ∧
    (failOp s k st d).num (opIdx k) 7 = st ∧ (failOp s k st d).num (opIdx k) 8 = d ∧
    Outside [.cat, .mgmt] s (failOp s k st d) ∧ EntriesOutside ((opIdx k, opIdx k) :: eventRanges) s (failOp s k st d) := by
  have hput : ∀ i, i ≠ 5 → i < 256 →
      (failOp s k st d).num (opIdx k) i = ((s.put (opIdx k) 7 st).put (opIdx k) 8 d).num (opIdx k) i :=
    fun i hi h => num_putOp h (.inr (by unfold opIdx; omega)) (.inr hi)
  refine ⟨opState_putOp .., ?_, ?_, ?_, ?_⟩
  · rw [hput 7 (by decide) (by decide)]
    simp (disch := decide) only [num_put_op, num_put_self]
  · rw [hput 8 (by decide) (by decide), num_put_self]
  · exact (((outside_put _ _ _ _).trans (outside_put _ _ _ _)).mono (by decide)).andThen (outside_putOp _ _ _) (by decide)
  · exact ((entriesOutside_put_op _ _ _ _ (by decide)).trans (entriesOutside_put_op _ _ _ _ (by decide))).trans
      (entriesOutside_putOp _ _ _)

/-! ### Scrubbing leaves the slot's state and the note of its control -/

theorem longOps_raise (s : State) (k unit : Nat) (b : List Byte) : (s.raise k unit b).mgmt.longOps = s.mgmt.longOps :=
  (kept_raise ..).longOps

theorem longOps_raiseAtMost (s : State) (n m unit : Nat) (f : Nat → List Byte) :
    (s.raiseAtMost n m unit f).mgmt.longOps = s.mgmt.longOps := by
  unfold State.raiseAtMost
  extract_lets x ok w
  have hw : w.mgmt.longOps = s.mgmt.longOps := rfl
  split
  · exact (longOps_raise ..).trans hw
  · exact hw

theorem opState_archiveOne (s : State) (b m k : Nat) : (archiveOne s b m).opState k = s.opState k := by
  unfold archiveOne
  split
  · rfl
  · exact (num_raiseAtMost (by decide) _ _ (by decide) (.inr (by unfold opIdx; omega))).trans
      (num_count_of_apart (by decide) (by decide) (.inr (by decide)) (.inr (.inl (by decide))))

theorem longOps_archiveOne (s : State) (b m : Nat) : (archiveOne s b m).mgmt.longOps = s.mgmt.longOps := by
  unfold archiveOne
  split
  · rfl
  · exact longOps_raiseAtMost ..

theorem opState_archiveBad (s : State) (b off source k : Nat) : (archiveBad s b off source).opState k = s.opState k :=
  (num_raise (by decide) _ _ (by decide) (.inr (by unfold opIdx; omega))).trans
    ((num_put_of_apart (by decide) (by decide) (.inr (by decide)) (.inr (.inl (by decide)))).trans
      (num_count_of_apart (by decide) (by decide) (.inr (by decide)) (.inr (.inl (by decide)))))

theorem longOps_archiveBad (s : State) (b off source : Nat) : (archiveBad s b off source).mgmt.longOps = s.mgmt.longOps :=
  longOps_raise ..

theorem ctlAt_setPos (s : State) (k p : Nat) : ((s.setOp k fun x => { x with pos := p }).op k).ctlAt = (s.op k).ctlAt := by
  by_cases h : k < s.mgmt.longOps.length
  · rw [op_setOp_self _ _ _ h]
  · simp [State.setOp, State.op, lmod, List.getElem?_eq_none (Nat.le_of_not_lt h)]

theorem justControlled_scrubTo (s : State) (k stop : Nat) : justControlled (scrubTo s k stop) k = justControlled s k := by
  unfold scrubTo
  extract_lets b base here ones bads m v w u
  have hv5 : v.opState k = s.opState k := rfl
  have hvl : v.mgmt.longOps = s.mgmt.longOps := rfl
  have hw5 : w.opState k = v.opState k := opState_archiveOne ..
  have hwl : w.mgmt.longOps = v.mgmt.longOps := longOps_archiveOne ..
  have hu5 : u.opState k = w.opState k := foldl_keeps (State.opState · k) (fun s a _ => opState_archiveBad ..) w
  have hul : u.mgmt.longOps = w.mgmt.longOps := foldl_keeps (State.mgmt · |>.longOps) (fun s a _ => longOps_archiveBad ..) w
  have hun : u.now = s.now := by
    simp [u, w, v]
  have h5 : u.opState k = s.opState k := hu5.trans (hw5.trans hv5)
  have hl : u.op k = s.op k := congrArg (fun l : List LongOp => l.getD k {}) (hul.trans (hwl.trans hvl))
  clear_value u
  refine justControlled_congr ?_ ?_ hun
  · rw [State.opState, num_put_op _ _ _ (by decide) (by decide) (by decide)]
    exact h5
  · exact (ctlAt_setPos u k stop).trans (congrArg LongOp.ctlAt hl)

/-- The kinds that draw no other unit into their work change only their slot by it. -/
theorem someWork_slot (h3 : s.opKind k ≠ 3) (h6 : s.opKind k ≠ 6) (h7 : s.opKind k ≠ 7) :
    (someWork s k).opState k = s.opState k ∧ Outside [.fresh, .cat, .mgmt] s (someWork s k) ∧
    EntriesOutside ((opIdx k, opIdx k) :: eventRanges) s (someWork s k) := by
  have hd : Outside [.fresh, .cat, .mgmt] s s.draw := by
    intro p hp
    cases p <;> simp at hp ⊢
  simp only [someWork, if_neg h3, if_neg h6, if_neg h7]
  split
  · exact ⟨rfl, .refl _ _, .refl _ _⟩
  · split
    · exact ⟨num_put_op _ _ _ (by decide) (by decide) (by decide),
        (hd.andThen (outside_setOp _ _ _) (by decide)).andThen (outside_put _ _ _ _) (by decide),
        EntriesOutside.trans (t := s.draw) (.of_cat rfl) ((entriesOutside_setOp _ _ _).trans (entriesOutside_put_op _ _ _ _ (by decide)))⟩
    · split
      · exact ⟨num_put_op _ _ _ (by decide) (by decide) (by decide), hd.andThen (outside_put _ _ _ _) (by decide),
          EntriesOutside.trans (t := s.draw) (.of_cat rfl) (entriesOutside_put_op _ _ _ _ (by decide))⟩
      · exact ⟨rfl, .refl _ _, .refl _ _⟩

theorem mayComplete_running (h : s.opState k = opRunning) : mayComplete s k = true := by
  simp [mayComplete, h]

theorem mayComplete_stopped (h : justControlled s k = true) : mayComplete s k = true := by
  simp [mayComplete, h]

section Work
variable (data : List Byte) (hm : mayComplete s k = true)
include hm

theorem workComplete_scrub (h : s.opKind k = 3) :
    workComplete s k data = finishOp (scrubTo s k (fieldBE (s.opParams k) 4 4)) k := by
  rw [workComplete, if_neg (by simp [hm]), h]
  rfl

theorem workComplete_test (h : s.opKind k = 4) : workComplete s k data = passTest s k := by
  rw [workComplete, if_neg (by simp [hm]), h]
  rfl

theorem workComplete_scan (h : s.opKind k = 5) (hl : data.length = 1072) : workComplete s k data =
    finishOp ((s.putOct (s.opTarget k) 0x0A (scanMargins (fieldBE (s.opParams k) 0 1) data)).bump (ent (s.opTarget k) 0x0A)) k := by
  rw [workComplete, if_neg (by simp [hm]), h]
  exact if_pos hl

theorem workComplete_retrain (h : s.opKind k = 6) : workComplete s k data = retrained s k := by
  rw [workComplete, if_neg (by simp [hm]), h]
  rfl

theorem workComplete_copy (h : s.opKind k = 7) : terminal ((workComplete s k data).opState k) = true := by
  have he : workComplete s k data =
      if terminal ((copyBlocks s k (blocksLeft s k)).opState k) then copyBlocks s k (blocksLeft s k)
      else finishOp (copyBlocks s k (blocksLeft s k)) k := by
    rw [workComplete, if_neg (by simp [hm]), h]
    rfl
  rw [he]
  split
  case isTrue ht => exact ht
  case isFalse => exact congrArg terminal (opState_finishOp ..)

theorem workComplete_export (h : s.opKind k = 9) : workComplete s k data = exportLog s k := by
  rw [workComplete, if_neg (by simp [hm]), h]
  rfl

end Work

theorem exportLog_ready (h : ∀ q ∈ s.mgmt.queue, notLater (s.op k).upTo q.seq = false) :
    exportLog s k = finishOp ((s.putOct 0x0E0012 0 (ringBytes (upToSeq (s.op k).upTo (s.op k).snap))).bump (ent 0x0E0012 0)) k :=
  if_neg (by simpa using h)

/-- An octet string beside the slots and the events stays through an end. -/
theorem oct_finishOp (s : State) (k : Nat) (ha : a < 256) (hi : i < 0x0E0000 ∨ i = 0x0E0012) :
    (finishOp s k).oct i a = s.oct i a := by
  refine oct_outside (entriesOutside_finishOp s k) (by simp) (by simp) (by simp) i a ha fun r hr => ?_
  rcases List.mem_cons.mp hr with rfl | hr
  · simp only [opIdx]
    omega
  · simp only [eventRanges, List.mem_cons, List.not_mem_nil, or_false] at hr
    rcases hr with rfl | rfl | rfl <;> dsimp only <;> omega

theorem passTest_spec (s : State) (k : Nat) : ∃ t, passTest s k = finishOp t k ∧ justControlled t k = justControlled s k := by
  unfold passTest
  extract_lets h t
  refine ⟨t, rfl, ?_⟩
  simp only [t]
  split
  · exact justControlled_congr (num_put_of_apart (by decide) (by decide) (.inr (by decide)) (.inr (.inr (.inl (by decide))))) rfl rfl
  · rfl

section Undo
variable (hc : s.opState k = opCancelling)
include hc

/-- The undo of every kind but a rekey, a scrub and a bulk copy ends CANCELLED. -/
theorem undoComplete_cancelled (h2 : s.opKind k ≠ 2) (h3 : s.opKind k ≠ 3) (h7 : s.opKind k ≠ 7) :
    (undoComplete s k).opState k = opCancelled := by
  rw [undoComplete, if_neg (not_not.mpr hc)]
  split
  case h_1 => exact opState_putOp ..
  case h_2 h => exact absurd h h2
  case h_3 => exact opState_putOp ..
  case h_4 => exact opState_putOp ..
  case h_5 h6 h8 =>
    have hst := (someWork_slot h3 h6 h7).1.trans hc
    dsimp only
    rw [if_neg (by rw [hst]; decide)]
    exact opState_putOp ..

/-- A scrub or bulk copy ends CANCELLED, or FAILED on the way. -/
theorem undoComplete_terminal (hk : s.opKind k = 3 ∨ s.opKind k = 7) : terminal ((undoComplete s k).opState k) = true := by
  have he : undoComplete s k =
      if terminal ((someWork s k).opState k) then someWork s k else putOp (someWork s k) k opCancelled := by
    rw [undoComplete, if_neg (not_not.mpr hc)]
    rcases hk with h | h
    · rw [h]
      rfl
    · rw [h]
      rfl
  rw [he]
  split
  case isTrue ht => exact ht
  case isFalse => exact congrArg terminal (opState_putOp ..)

/-- A rekey back at its start ends CANCELLED (R479). -/
theorem undoComplete_rekey (hk : s.opKind k = 2) (hs : s.slState (s.opTarget k - 0x0B0100) = slRekeying)
    (hb : s.num (slIdx (s.opTarget k - 0x0B0100)) 9 = s.dataBase (s.opTarget k - 0x0B0100))
    (hback : (s.slot (s.opTarget k - 0x0B0100)).back = true) (ho : (s.slot (s.opTarget k - 0x0B0100)).op = some k) :
    (undoComplete s k).opState k = opCancelled := by
  rw [undoComplete, if_neg (not_not.mpr hc), hk]
  refine (congrArg (State.opState · k) (if_pos ⟨hs, hb⟩)).trans ?_
  rw [endRekey, ho, hback]
  exact opState_putOp ..

end Undo

/-- Settles O17: every end passes through one last change of the slot's state. -/
theorem longOperationsReachTheirEnds : Obligations.LongOperationsReachTheirEnds := by
  unfold Obligations.LongOperationsReachTheirEnds
  refine ⟨?begin, ?safe, ?work, ?race, ?undo, ?error⟩
  case begin =>
    intro s k hq hf hk
    have hg : s.opState k = opQueued ∧ (!targetInUse s (s.opKind k) (s.opTarget k) (s.op k).begun) = true := ⟨hq,
      by rw [hf]; rfl⟩
    by_cases hb : (s.op k).begun = true
    · refine does_if rfl hg ?_
      rw [runOrQueue_begun hf hb]
      exact ⟨opState_putOp .., outside_putOp _ _ _, entriesOutside_putOp _ _ _⟩
    · have hb' : (s.op k).begun = false := by simpa using hb
      obtain ⟨hst, -, -, -, -, ho, he⟩ := runOrQueue_runs hf hb' (hk.resolve_left hb)
      exact does_if rfl hg ⟨hst, ho, he⟩
  case safe =>
    intro s k hs
    refine does_else rfl (fun h => h hs) ⟨opState_putOp .., fun h3 h6 h7 => ?_⟩
    obtain ⟨-, ho, he⟩ := someWork_slot h3 h6 h7
    exact ⟨ho.andThen (outside_putOp _ _ _) (by decide), he.trans (entriesOutside_putOp _ _ _)⟩
  case work =>
    intro s k data hr
    have he : exec (.longOpWorkComplete k data) s = .next (workComplete s k data) := rfl
    have hm := mayComplete_running hr
    refine ⟨_, he, ?_, ?_, ?_, workComplete_copy data hm, ?_⟩
    · rintro (h | h)
      · rw [workComplete_scrub data hm h]
        exact ⟨opState_finishOp .., progress_finishOp ..⟩
      · rw [workComplete_test data hm h]
        exact ⟨opState_finishOp .., progress_finishOp ..⟩
    · intro h hl
      rw [workComplete_scan data hm h hl]
      refine ⟨opState_finishOp .., fun h1 h2 => ?_⟩
      rw [oct_finishOp _ _ (by decide) (.inl (by omega))]
      exact oct_putOct_self ..
    · intro h hc hn
      rw [workComplete_retrain data hm h, retrained, if_neg (by simp [hc, hn])]
      exact opState_finishOp ..
    · intro h hq
      rw [workComplete_export data hm h, exportLog_ready hq]
      refine ⟨opState_finishOp .., ?_⟩
      rw [oct_finishOp _ _ (by decide) (.inr rfl)]
      exact oct_putOct_self ..
  case race =>
    intro s k data hj hk
    have hm := mayComplete_stopped hj
    have he : exec (.longOpWorkComplete k data) s = .next (workComplete s k data) := rfl
    rcases hk with hk | hk
    · rw [workComplete_scrub data hm hk] at he
      exact ⟨_, he, opState_finishOp .., progress_finishOp .., answer_finishOp ((justControlled_scrubTo ..).trans hj)⟩
    · obtain ⟨t, ht, hjt⟩ := passTest_spec s k
      rw [workComplete_test data hm hk, ht] at he
      exact ⟨_, he, opState_finishOp .., progress_finishOp .., answer_finishOp (hjt.trans hj)⟩
  case undo =>
    intro s k hc
    have he : exec (.longOpUndoComplete k) s = .next (undoComplete s k) := rfl
    exact ⟨_, he, undoComplete_cancelled hc, undoComplete_terminal hc, undoComplete_rekey hc⟩
  case error =>
    intro s k status detail hr hst hk
    have he : exec (.longOpError k status detail) s = .next (failOp s k status detail) := by
      refine congrArg Host.Outcome.next ((if_neg ?_).trans ?_)
      · simp [hr, hst]
      · rcases hk with h | h | h
        · rw [h]
          rfl
        · rw [h]
          rfl
        · rw [h]
          rfl
    exact ⟨_, he, failOp_spec ..⟩

end Sys2Proof.Machine
end

section
/-! Rails, regulators, voltages and temperatures (R127, R130, R137, R239 to R241, R442; obligations O19 and O20). -/

namespace Sys2Proof.Machine

variable {s t : State} {n m i a : Nat}

/-! ### Counts of other events -/

/-- Raising an event leaves the counts of others (R104), but for 040h, the note of lost records (R107). -/
theorem num_raiseWith_other (s : State) {r : EvRec} {x : Reach} (hm : m ≠ 0x040) (hne : r.num ≠ m) (ha : a < 256) :
    (raiseWith s r x).num (0x0E1000 + m) a = s.num (0x0E1000 + m) a := by
  have hrec : ∀ (s : State) (r : EvRec) (x : Reach), r.num ≠ m →
      (raiseRecord s r x).num (0x0E1000 + m) a = s.num (0x0E1000 + m) a := fun s r x h =>
    (num_raiseRecord (Nat.le_add_right ..) ha s r x).trans (num_countRaise_ne s ha fun he => h (Nat.add_left_cancel he))
  unfold raiseWith
  extract_lets t k m' u
  have ht : t.num (0x0E1000 + m) a = s.num (0x0E1000 + m) a := hrec s r x hne
  split
  · exact (hrec u _ _ fun h => hm h.symm).trans ht
  · exact ht

theorem num_raise_other (s : State) {unit : Nat} {b : List Byte} (hm : m ≠ 0x040) (hne : n ≠ m) (ha : a < 256) :
    (s.raise n unit b).num (0x0E1000 + m) a = s.num (0x0E1000 + m) a :=
  num_raiseWith_other s hm hne ha

theorem Raised.then_raise {s t : State} {unit : Nat} {b : List Byte} (h : Raised s t m) (hm : m ≠ 0x040) (hne : n ≠ m) :
    Raised s (t.raise n unit b) m :=
  (num_raise_other t hm hne (by decide)).trans h

theorem Raised.congr {s t u : State} (h : Raised s t n) (he : u.num (0x0E1000 + n) 7 = t.num (0x0E1000 + n) 7) : Raised s u n :=
  he.trans h

/-! ### Entries that a unit's own parts do not carry -/

theorem num_with_pwr {s : State} {p : Power} (hx : p.xoSel = s.pwr.xoSel) (hp : p.pullSel = s.pwr.pullSel) (i a : Nat) :
    ({ s with pwr := p } : State).num i a = s.num i a := by
  have hd : ∀ i a, unitDefault { s with pwr := p } i a = unitDefault s i a := fun i a => by
    simp only [unitDefault, hx, hp]
  simp only [State.num, State.val, defaultVal, hd]

theorem num_with_cfg {s : State} {c : CfgEngine} (h : c.compiled = s.cfg.compiled) (i a : Nat) :
    ({ s with cfg := c } : State).num i a = s.num i a := by
  have hd : ∀ i a, unitDefault { s with cfg := c } i a = unitDefault s i a := fun i a => by
    simp only [unitDefault, h]
  simp only [State.num, State.val, defaultVal, hd]

/-! ### Rails -/

theorem memRead_filter (l : List Host.Cell) (p : Nat → Bool) (x : Nat) :
    memRead (l.filter fun c => p c.1) x = if p x then memRead l x else 0 := by
  induction l with
  | nil => simp [memRead]
  | cons c l ih =>
    obtain ⟨k, v⟩ := c
    by_cases hp : p k = true
    · rw [List.filter_cons_of_pos (by exact hp)]
      by_cases hk : k = x
      · simp [memRead, hk, hk ▸ hp]
      · simp [memRead, hk, ih]
    · rw [List.filter_cons_of_neg (by exact hp), ih]
      by_cases hk : k = x
      · simp [hk ▸ hp]
      · simp [memRead, hk]

theorem memRead_forget (s : State) (p : Nat → Bool) (x : Nat) :
    memRead (s.forget p).mem.bytes x = if p x then 0 else memRead s.mem.bytes x := by
  have h : memRead (s.forget p).mem.bytes x = if (!p x) = true then memRead s.mem.bytes x else 0 := memRead_filter _ (fun c => !p c) x
  rw [h]
  cases p x <;> rfl

/-- A rail's loss as the device keeps it, before the event. -/
def State.railLost (s : State) (rail : Nat) : State :=
  let s := { s with pwr := { s.pwr with railBad := s.pwr.railBad ++ [rail] } }
  if rail = railArch then s.forget fun a => 2 ^ 37 ≤ a && a < 0x0E0000000000 + 4 * 0x04000000 else s

theorem railFails_eq {rail mv : Nat} (hon : s.pwr.mgcOn = true) (h : rail ∉ s.pwr.railBad) :
    railFails s rail mv = (s.railLost rail).raise 0x183 0 (be 1 rail ++ be 2 mv) := by
  have hl : (s.railLost rail).pwr.mgcOn = true := by
    unfold State.railLost
    dsimp only
    split
    · exact hon
    · exact hon
  have he : railFails s rail mv =
      if !(s.railLost rail).pwr.mgcOn then s.railLost rail else (s.railLost rail).raise 0x183 0 (be 1 rail ++ be 2 mv) := by
    rw [railFails, if_neg (by simpa using h)]
    rfl
  rw [he, if_neg (by rw [hl]; decide)]

theorem railLost_spec (s : State) (rail : Nat) :
    (s.railLost rail).pwr = { s.pwr with railBad := s.pwr.railBad ++ [rail] } ∧
    Outside [.pwr, .mem] s (s.railLost rail) ∧ (rail ≠ railArch → (s.railLost rail).mem = s.mem) ∧
    (rail = railArch → ∀ x, memRead (s.railLost rail).mem.bytes x =
      if 2 ^ 37 ≤ x ∧ x < 0x0E0010000000 then 0 else memRead s.mem.bytes x) := by
  unfold State.railLost
  refine ⟨?_, fun p hp => ?_, fun h => ?_, fun h x => ?_⟩
  · dsimp only
    split <;> rfl
  · cases p <;> simp at hp ⊢
  · rw [if_neg h]
  · rw [if_pos h, memRead_forget]
    simp only [Bool.and_eq_true, decide_eq_true_eq]

theorem num_railLost (s : State) (rail i a : Nat) : (s.railLost rail).num i a = s.num i a := by
  have hp : ({ s with pwr := { s.pwr with railBad := s.pwr.railBad ++ [rail] } } : State).num i a = s.num i a :=
    num_with_pwr rfl rfl i a
  unfold State.railLost
  dsimp only
  split
  · exact (num_with_mem ..).trans hp
  · exact hp

/-- A rail back in tolerance, before the clear that may have waited for it. -/
def State.railBack (s : State) (rail : Nat) : State :=
  { s with pwr := { s.pwr with railBad := s.pwr.railBad.filter (· != rail), late := s.pwr.late.filter (· != rail) } }

theorem railReturns_eq (s : State) (rail : Nat) : railReturns s rail =
    if s.pwr.mgcOn ∧ s.cfg.clearCause = 0xFF ∧ coreRails (s.railBack rail) then beginClear (setRails (s.railBack rail)) 0
    else s.railBack rail := rfl

theorem outside_railBack (s : State) (rail : Nat) : Outside [.pwr] s (s.railBack rail) := by
  intro p hp
  unfold State.railBack
  cases p <;> simp at hp ⊢

theorem railBad_setRail (s : State) (rail mv : Nat) : (setRail s rail mv).pwr.railBad = s.pwr.railBad := by
  unfold setRail
  split <;> rfl

theorem railBad_setRails (s : State) : (setRails s).pwr.railBad = s.pwr.railBad := by
  unfold setRails
  rw [foldl_keeps (fun s : State => s.pwr.railBad) fun s d _ => railBad_setRail ..]
  exact foldl_keeps (fun s : State => s.pwr.railBad) (fun s d _ => railBad_setRail ..) s

/-- The engine as a clear begins (R143). -/
structure ClearBegun (s u : State) (cause : Nat) : Prop where
  state : u.cfgState = csClearing
  clearCause : u.cfg.clearCause = cause
  initLow : u.cfg.initLow = true
  initDriven : u.cfg.initDriven = true
  clearAt : u.cfg.clearAt = s.now
  load : u.cfg.load = none
  done : u.cfg.done = false

theorem cfg_unconfigure_load (s : State) : (unconfigure s).cfg.load = s.cfg.load ∧ (unconfigure s).cfg.done = false ∧
    (unconfigure s).now = s.now := by
  refine ⟨?_, rfl, by simp⟩
  unfold unconfigure
  extract_lets v w x z
  have hv : v.cfg = s.cfg := foldl_keeps State.cfg (fun s j _ => by simp) s
  have hw : w.cfg = v.cfg := by simp only [w, clearFabric_frame, idleChannels_frame, rawLanes_frame]
  have hx : x.cfg = w.cfg := foldl_keeps State.cfg (fun s l _ => by simp) w
  have hl : x.cfg.load = s.cfg.load := congrArg CfgEngine.load (hx.trans (hw.trans hv))
  clear_value x
  exact hl

/-- The engine unconfigured and CLEARING. -/
theorem clearing_spec (s : State) : (putCfg (unconfigure (s.setLoad .slave none)) csClearing).cfgState = csClearing ∧
    (putCfg (unconfigure (s.setLoad .slave none)) csClearing).cfg.load = none ∧
    (putCfg (unconfigure (s.setLoad .slave none)) csClearing).cfg.done = false ∧
    (putCfg (unconfigure (s.setLoad .slave none)) csClearing).now = s.now := by
  obtain ⟨hl, hd, hn⟩ := cfg_unconfigure_load (s.setLoad .slave none)
  generalize unconfigure (s.setLoad .slave none) = u at *
  exact ⟨num_put_self .., hl, hd, hn⟩

theorem clearBegun_beginClear (s : State) (cause : Nat) : ClearBegun s (beginClear s cause) cause := by
  unfold beginClear
  extract_lets v w x y z
  have hw : w.now = s.now := by simp [w, v]
  obtain ⟨hs, hl, hd, hn⟩ : x.cfgState = csClearing ∧ x.cfg.load = none ∧ x.cfg.done = false ∧ x.now = w.now := clearing_spec w
  clear_value x
  have hy : y.cfgState = csClearing := by
    rw [← hs]
    exact (num_put_of_apart (by decide) (by decide) (.inr (by decide)) (by decide)).trans
      (num_put_of_apart (by decide) (by decide) (.inr (by decide)) (by decide))
  have hyc : y.cfg = x.cfg := rfl
  have hyn : y.now = x.now := rfl
  clear_value y
  rw [← hyc] at hl hd
  rw [← hyn] at hn
  have hr : ∀ t : State, (t.raise 0xD04 0 (be 1 cause)).cfg = t.cfg := fun t => by simp
  refine ⟨(num_raise (by decide) _ _ (by decide) (.inl (by decide))).trans hy, ?_, ?_, ?_, ?_, ?_, ?_⟩ <;> rw [hr]
  · exact hn.trans hw
  · exact hl
  · exact hd

/-! ### Regulators -/

/-- A regulator's silence as the device keeps it. -/
def State.regulatorGone (s : State) (r : Nat) : State :=
  { s with pwr := { s.pwr with silent := s.pwr.silent ++ [r], railMv := s.pwr.railMv.set r 750 } }

theorem num_regulatorGone (s : State) (r i a : Nat) : (s.regulatorGone r).num i a = s.num i a :=
  num_with_pwr rfl rfl i a

/-- A regulator's silence with its event. -/
def State.regulatorLost (s : State) (b rail : Nat) : State :=
  (s.regulatorGone (3 * b + rail)).raise 0x182 b (be 1 b ++ be 1 rail)

theorem regulatorFails_eq {b rail : Nat} (hon : s.pwr.mgcOn = true) (h : 3 * b + rail ∉ s.pwr.silent) :
    regulatorFails s b rail =
      if rail = 0 ∨ (s.regulatorLost b rail).domState (2 * b + (rail - 1)) ≠ dRampUp then s.regulatorLost b rail
      else ((s.regulatorLost b rail).dom (2 * b + (rail - 1))).ramps.foldl
        (fun s op => abandonRaise s (2 * b + (rail - 1)) op 1) (s.regulatorLost b rail) := by
  rw [regulatorFails, if_neg (by simp [hon, h])]
  rfl

theorem regulatorLost_spec (s : State) (b rail : Nat) :
    (s.regulatorLost b rail).pwr =
      { s.pwr with silent := s.pwr.silent ++ [3 * b + rail], railMv := s.pwr.railMv.set (3 * b + rail) 750 } ∧
    Raised s (s.regulatorLost b rail) 0x182 ∧ Outside [.cat, .mgmt, .pwr] s (s.regulatorLost b rail) ∧
    EntriesOutside eventRanges s (s.regulatorLost b rail) ∧
    (∀ d a, a < 256 → d < 8 → (s.regulatorLost b rail).num (domIdx d) a = s.num (domIdx d) a) ∧
    ∀ m, m ≠ 0x040 → m ≠ 0x182 → (s.regulatorLost b rail).num (0x0E1000 + m) 7 = s.num (0x0E1000 + m) 7 := by
  unfold State.regulatorLost
  have hb := num_regulatorGone s (3 * b + rail)
  have ho : Outside [.pwr] s (s.regulatorGone (3 * b + rail)) := by
    intro p hp
    cases p <;> simp [State.regulatorGone] at hp ⊢
  have hp : (s.regulatorGone (3 * b + rail)).pwr = { s.pwr with
    silent := s.pwr.silent ++ [3 * b + rail], railMv := s.pwr.railMv.set (3 * b + rail) 750 } := rfl
  generalize s.regulatorGone (3 * b + rail) = v at *
  refine ⟨by simp [hp], raised_after (by decide) (hb ..), ?_, ?_, fun d a ha hd => ?_, fun m hm h => ?_⟩
  · exact (ho.mono (by decide)).andThen (outside_raise _ _ _ _) (by decide)
  · exact EntriesOutside.trans (.of_cat (ho.cat (by decide))) (entriesOutside_raise _ _ _ _ (by decide))
  · exact (num_raise (by decide) _ _ ha (.inl (by unfold domIdx; omega))).trans (hb ..)
  · exact (num_raise_other _ hm (Ne.symm h) (by decide)).trans (hb ..)

theorem domIdx_listed (d : Nat) : ∃ r ∈ (domIdx d, domIdx d) :: eventRanges, r.1 ≤ domIdx d ∧ domIdx d ≤ r.2 :=
  ⟨_, .head _, le_rfl, le_rfl⟩

theorem num_latchBits_of_apart {i a m j b : Nat} (ha : a < 256) (hb : b < 256) (h : i ≠ j ∨ a ≠ b)
    (h' : i ≠ j ∨ a < 4 ∨ 6 < a ∨ (i < 0x040100 ∨ 0x040107 < i) ∧ (i < 0x0A0010 ∨ 0x0A0013 < i)) :
    (s.latchBits i a m).num j b = s.num j b :=
  (num_with_mgmt ..).trans (num_put_of_apart ha hb h h')

theorem entriesOutside_latchBits {rs : List (Nat × Nat)} (s : State) (i a m : Nat) (ha : a < 256)
    (h : ∃ r ∈ rs, r.1 ≤ i ∧ i ≤ r.2) : EntriesOutside rs s (s.latchBits i a m) :=
  EntriesOutside.trans (entriesOutside_put s i a _ ha h) (.of_cat rfl)

theorem silent_railToReq (s : State) (d : Nat) : (railToReq s d).pwr.silent = s.pwr.silent := by
  unfold railToReq setRail
  extract_lets v
  split
  · rfl
  · split <;> rfl

/-- A raise in RAMP_UP abandoned (R240). -/
theorem abandonRaise_spec {d op cause : Nat} (hd : d < s.clk.domains.length) (h8 : d < 8) (hst : s.domState d = dRampUp)
    (hp : (s.dom d).pend = some op) :
    (abandonRaise s d op cause).domState d = dSteady ∧ ((abandonRaise s d op cause).dom d).pend = none ∧
    (abandonRaise s d op cause).pwr.silent = s.pwr.silent ∧ Raised s (abandonRaise s d op cause) 0x148 ∧
    (∀ m, m ≠ 0x040 → m ≠ 0x148 → (abandonRaise s d op cause).num (0x0E1000 + m) 7 = s.num (0x0E1000 + m) 7) ∧
    EntriesOutside ((domIdx d, domIdx d) :: eventRanges) s (abandonRaise s d op cause) := by
  unfold abandonRaise
  extract_lets v w x
  have hlt : domIdx d < 0x0E0000 := by unfold domIdx; omega
  have hlisted := domIdx_listed d
  have hvp : (v.dom d).pend = none := by
    have hdr : ((dropRamp s d op).dom d).pend = some op := by
      rw [dropRamp, dom_setDom_self _ _ _ hd]
      exact hp
    have hlen : d < (dropRamp s d op).clk.domains.length := by simpa [dropRamp, State.setDom, lmod] using hd
    rw [dom_setDom_self _ _ _ hlen]
    exact if_pos hdr
  have hw : ∀ i a, w.num i a = s.num i a := num_railToReq v d
  have hws : w.domState d = dRampUp := (hw ..).trans hst
  have hwc : w.clk = v.clk := by simp [w]
  have hwe : w.cat = s.cat := by simp [w, v]
  have hwp : w.pwr.silent = s.pwr.silent := silent_railToReq v d
  have hx : x = w.putDomState d dSteady := if_pos (.inl hws)
  clear_value x w v
  subst hx
  have hc : ∀ i a, i ≠ domIdx d → a < 256 → (changeFailed (w.putDomState d dSteady) d).num i a = s.num i a := fun i a hi ha =>
    (num_latchBits_of_apart (by decide) ha (.inl hi.symm) (.inl hi.symm)).trans ((num_put_ne _ _ _ _ _ _ (by decide) ha hi.symm).trans (hw i a))
  have hne : ∀ m, 0x0E1000 + m ≠ domIdx d := fun m => by omega
  refine ⟨?_, ?_, ?_, raised_after (by decide) (hc _ _ (hne _) (by decide)), fun m hm h => ?_, ?_⟩
  · exact (num_raise (by decide) _ _ (by decide) (.inl hlt)).trans
      ((num_latchBits_of_apart (by decide) (by decide) (.inr (by decide)) (.inr (.inr (.inl (by decide))))).trans (num_put_self ..))
  · rw [State.dom, show ((changeFailed (w.putDomState d dSteady) d).raise 0x148 d (be 1 op ++ be 1 cause)).clk = w.clk by simp,
    hwc]
    exact hvp
  · rw [← hwp]
    simp
  · exact (num_raise_other _ hm (Ne.symm h) (by decide)).trans (hc _ _ (hne _) (by decide))
  · exact (((EntriesOutside.of_cat hwe).trans (entriesOutside_put _ _ _ _ (by decide) hlisted)).trans
      (entriesOutside_latchBits _ _ _ _ (by decide) hlisted)).trans
      ((entriesOutside_raise _ _ _ _ (by decide)).mono (List.subset_cons_self ..))

/-- Settles O19: each of the four commands leaves one part of the power state and its event. -/
theorem railsAndRegulators : Obligations.RailsAndRegulators := by
  unfold Obligations.RailsAndRegulators
  refine ⟨?out, ?back, ?silent, ?ramp, ?read⟩
  case out =>
    intro s rail mv hon hbad
    obtain ⟨hp, ho, hm, ha⟩ := railLost_spec s rail
    have he : exec (.railOutOfTolerance rail mv) s = .next (railFails s rail mv) := rfl
    rw [railFails_eq hon hbad] at he
    have hn : (s.railLost rail).num (0x0E1000 + 0x183) 7 = s.num (0x0E1000 + 0x183) 7 := num_railLost ..
    generalize s.railLost rail = w at *
    have hum : (w.raise 0x183 0 (be 1 rail ++ be 2 mv)).mem = w.mem := by simp
    refine ⟨_, he, by simp [hp], raised_after (by decide) hn, fun h => hum.trans (hm h), fun h a h1 h2 => ?_, fun a h => ?_,
      ?_, ?_⟩
    · rw [hum, ha h, if_pos ⟨by omega, h2⟩]
    · rw [hum]
      by_cases hr : rail.val = railArch
      · rw [ha hr, if_neg (by omega)]
      · rw [hm hr]
    · exact (ho.mono (by decide)).andThen (outside_raise _ _ _ _) (by decide)
    · exact (EntriesOutside.of_cat (ho.cat (by decide))).trans (entriesOutside_raise _ _ _ _ (by decide))
  case back =>
    intro s rail
    have he : exec (.railInTolerance rail) s = .next (railReturns s rail) := rfl
    rw [railReturns_eq] at he
    refine ⟨_, he, ?_, fun hon hc hr => ?_, fun hc => ?_⟩
    · split
      · rw [show (beginClear (setRails (s.railBack rail)) 0).pwr = (setRails (s.railBack rail)).pwr by simp, railBad_setRails]
        rfl
      · rfl
    · have hcore : coreRails (s.railBack rail) = true := by
        simp only [coreRails, State.railBack, Bool.not_eq_true', List.any_eq_false, List.mem_filter, decide_eq_true_eq]
        rintro r ⟨hm, hne⟩ h12
        simp [hr r hm h12] at hne
      rw [if_pos ⟨hon, hc, hcore⟩]
      have hb := clearBegun_beginClear (setRails (s.railBack rail)) 0
      exact ⟨hb.state, hb.clearCause⟩
    · rw [if_neg fun h => hc h.2.1]
      exact outside_railBack s rail
  case silent =>
    intro s b rail hon hns hr
    obtain ⟨hp, h182, ho, he, hn, -⟩ := regulatorLost_spec s b rail
    have hx : exec (.regulatorSilent b rail) s = .next (regulatorFails s b rail) := rfl
    have hd : 2 * b.val + (rail.val - 1) < 8 := by omega
    rw [regulatorFails_eq hon hns, if_pos (by rw [State.domState, hn _ _ (by decide) hd]; exact hr)] at hx
    exact ⟨_, hx, hp, h182, ho, he⟩
  case ramp =>
    intro s d b rail op hon hr hns hst hramps hpend
    obtain ⟨hp, h182, ho, he, hn, hev⟩ := regulatorLost_spec s b rail
    have hx : exec (.regulatorSilent b rail) s = .next (regulatorFails s b rail) := rfl
    have hrail : rail.val ≠ 0 ∧ 2 * b.val + (rail.val - 1) = d := by
      unfold railOf at hr
      omega
    obtain ⟨h0, hd⟩ := hrail
    have hst' : (s.regulatorLost b rail).domState d = dRampUp := (hn _ _ (by decide) d.isLt).trans hst
    have hclk : (s.regulatorLost b rail).clk = s.clk := ho.clk (by decide)
    have hdom : (s.regulatorLost b rail).dom d = s.dom d := by rw [State.dom, hclk, State.dom]
    have hlen : d.val < (s.regulatorLost b rail).clk.domains.length := by
      by_contra h
      rw [State.dom, List.getD_eq_getElem?_getD, List.getElem?_eq_none (by rw [← hclk]; omega)] at hramps
      exact absurd hramps (by simp)
    rw [regulatorFails_eq hon (by rw [hr]; exact hns), hd, if_neg (by simp [h0, hst']), hdom, hramps, List.foldl_cons,
      List.foldl_nil] at hx
    obtain ⟨hs, hpe, hsil, h148, hother, hent⟩ := abandonRaise_spec (cause := 1) hlen d.isLt hst' (by rw [hdom]; exact hpend)
    refine ⟨_, hx, ?_, (hother _ (by decide) (by decide)).trans h182, ?_, hs, hpe, ?_, ?_⟩
    · rw [hsil, hp, hr]
      simp
    · exact h148.trans (by rw [hev _ (by decide) (by decide)])
    · refine (ho.mono (by decide)).trans fun p hp => ?_
      cases p <;> simp at hp ⊢
    · exact (he.mono (List.subset_cons_self ..)).trans hent
  case read =>
    intro s d mv hns
    obtain ⟨t, ht⟩ : ∃ t, t = s.put (domIdx d) 8 mv := ⟨_, rfl⟩
    have h8 : t.num (domIdx d) 8 = mv := by rw [ht, num_put_self]
    have h3 : t.domState d = s.domState d := by
      rw [ht]
      exact num_put_of_apart (by decide) (by decide) (.inr (by decide)) (.inr (.inr (.inl (by decide))))
    have hdom : t.dom d = s.dom d := by rw [ht]; rfl
    have hto : Outside [.cat] s t := by rw [ht]; exact outside_put _ _ _ _
    have hte : EntriesOutside [(domIdx d, domIdx d)] s t := by
      rw [ht]
      exact entriesOutside_put _ _ _ _ (by decide) ⟨_, .head _, le_rfl, le_rfl⟩
    have he : exec (.voltageReadback d mv) s = .next (
        if t.domState d = dRampUp ∧ (t.dom d).vReq d ≤ mv + 5 then t.putDomState d dStepPending
        else if t.domState d = dRampDown ∧ mv ≤ (t.dom d).vReq d + 5 ∧ (t.dom d).vReq d ≤ mv + 5 ∧ !(t.dom d).lower then
          t.putDomState d dSteady
        else t) := by
      rw [ht]
      exact congrArg Host.Outcome.next (if_neg (by simpa using hns))
    rw [h3, hdom] at he
    clear ht
    have hput : ∀ st, (t.putDomState d st).num (domIdx d) 8 = mv ∧ (t.putDomState d st).domState d = st ∧
        Outside [.cat] s (t.putDomState d st) ∧ EntriesOutside [(domIdx d, domIdx d)] s (t.putDomState d st) := fun st =>
      ⟨(num_put_of_apart (by decide) (by decide) (.inr (by decide)) (.inr (.inl (by decide)))).trans h8, num_put_self ..,
        hto.trans (outside_put _ _ _ _), hte.trans (entriesOutside_put _ _ _ _ (by decide) ⟨_, .head _, le_rfl, le_rfl⟩)⟩
    refine ⟨_, he, ?_⟩
    split
    case isTrue h =>
      obtain ⟨hn, hs, ho, hen⟩ := hput dStepPending
      refine ⟨hn, fun _ => by rw [if_pos h.2, hs], fun hd => absurd (h.1.symm.trans hd) (by decide), fun hu => absurd h.1 hu,
        ho, hen⟩
    case isFalse hno =>
      split
      case isTrue h =>
        obtain ⟨hn, hs, ho, hen⟩ := hput dSteady
        obtain ⟨hd, h1, h2, hl⟩ := h
        exact ⟨hn, fun hu => absurd (hd.symm.trans hu) (by decide), fun _ _ => by rw [if_pos ⟨h2, h1⟩, hs],
          fun _ hu => absurd hd hu, ho, hen⟩
      case isFalse hno2 =>
        refine ⟨h8, fun hu => ?_, fun hd hl => ?_, fun _ _ => h3, hto, hte⟩
        · rw [if_neg fun h => hno ⟨hu, h⟩, h3, hu]
        · rw [if_neg fun h => hno2 ⟨hd, h.2, h.1, by simp [hl]⟩, h3, hd]

end Sys2Proof.Machine
end

section
/-! Temperatures (R137; obligation O20). -/

namespace Sys2Proof.Machine

variable {s t : State} {b sensor : Nat} {temp : Int}

theorem sensors_senseTemp (s : State) (b sensor : Nat) (temp : Int) :
    (senseTemp s b sensor temp).pwr = { s.pwr with sensors := s.pwr.sensors.set (16 * b + sensor) temp } := rfl

theorem outside_senseTemp (s : State) (b sensor : Nat) (temp : Int) : Outside [.cat, .pwr] s (senseTemp s b sensor temp) := by
  intro p hp
  cases p <;> simp at hp ⊢

theorem entriesOutside_senseTemp (s : State) (sensor : Nat) (temp : Int) (hb : b < 4) :
    EntriesOutside [(0x040800, 0x040800)] s (senseTemp s b sensor temp) :=
  EntriesOutside.trans (.of_cat rfl) (entriesOutside_put _ _ _ _ (by omega) ⟨_, .head _, le_rfl, le_rfl⟩)

/-- A reading leaves every entry but those of its bolt's hottest sensor. -/
theorem num_senseTemp {i a : Nat} (ha : a < 256) (hb : b < 4) (h : i ≠ 0x040800 ∨ 4 < a) :
    (senseTemp s b sensor temp).num i a = s.num i a := by
  unfold senseTemp
  extract_lets l hot
  have hp : ({ s with pwr := { s.pwr with sensors := l } } : State).num i a = s.num i a := num_with_pwr rfl rfl i a
  exact (num_put_of_apart (by omega) ha (by omega) (by omega)).trans hp

theorem warnAt_senseTemp (hb : b < 4) : warnAt (senseTemp s b sensor temp) = warnAt s := by
  unfold warnAt
  rw [num_senseTemp (by decide) hb (.inr (by decide))]

theorem warn_eq (hb : b < 4) : warn s b sensor temp =
    if s.pwr.warned ∨ temp < warnAt s then senseTemp s b sensor temp
    else ({ senseTemp s b sensor temp with pwr := { (senseTemp s b sensor temp).pwr with warned := true } } : State).raise
      0x180 b (thermalExtra b sensor temp) := by
  rw [warn, warnAt_senseTemp hb]
  rfl

/-- A reading with its warning (R137). -/
theorem warn_spec (s : State) (sensor : Nat) (temp : Int) (hb : b < 4) :
    (warn s b sensor temp).pwr.sensors = s.pwr.sensors.set (16 * b + sensor) temp ∧
    (s.pwr.warned = false → warnAt s ≤ temp → (warn s b sensor temp).pwr.warned = true ∧ Raised s (warn s b sensor temp) 0x180) ∧
    (s.pwr.warned = true ∨ temp < warnAt s →
      (warn s b sensor temp).pwr.warned = s.pwr.warned ∧ (warn s b sensor temp).mgmt = s.mgmt) ∧
    Outside [.cat, .mgmt, .pwr] s (warn s b sensor temp) ∧
    EntriesOutside ((0x040800, 0x040800) :: eventRanges) s (warn s b sensor temp) := by
  rw [warn_eq hb]
  have hn := num_senseTemp (s := s) (b := b) (sensor := sensor) (temp := temp) (i := 0x0E1000 + 0x180) (a := 7) (by decide) hb
    (.inl (by decide))
  have hp := sensors_senseTemp s b sensor temp
  have hm : (senseTemp s b sensor temp).mgmt = s.mgmt := rfl
  have ho := outside_senseTemp s b sensor temp
  have he := entriesOutside_senseTemp s sensor temp hb
  generalize senseTemp s b sensor temp = v at *
  split
  case isTrue h =>
    refine ⟨by rw [hp], fun hw ht => ?_, fun _ => ⟨by rw [hp], hm⟩, ho.mono (by decide), he.mono (by simp)⟩
    rcases h with h | h
    · rw [hw] at h
      exact absurd h (by decide)
    · exact absurd h (not_lt.mpr ht)
  case isFalse h =>
    have hvn : ({ v with pwr := { v.pwr with warned := true } } : State).num (0x0E1000 + 0x180) 7 = s.num (0x0E1000 + 0x180) 7 :=
      (num_with_pwr rfl rfl _ _).trans hn
    have hvo : Outside [.cat, .pwr] s { v with pwr := { v.pwr with warned := true } } := by
      refine ho.trans fun p hp => ?_
      cases p <;> simp at hp ⊢
    have hve : EntriesOutside [(0x040800, 0x040800)] s { v with pwr := { v.pwr with warned := true } } := he.trans (.of_cat rfl)
    refine ⟨by simp [hp], fun _ _ => ⟨by simp, raised_after (by decide) hvn⟩, fun hn => absurd hn h, ?_, ?_⟩
    · exact (hvo.mono (by decide)).andThen (outside_raise _ _ _ _) (by decide)
    · exact (hve.mono (by simp)).trans ((entriesOutside_raise _ _ _ _ (by decide)).mono (List.subset_cons_self ..))

/-- A halt, up to where the fabric and the lanes stop (R482). -/
def State.haltBegun (s : State) (addr level : Nat) : State :=
  let s := latchHalt s 3 addr level
  let s := (List.finRange 4).foldl (fun s b => failPartial s b cfHalted 0) s
  let s := if s.cfgState = csLoading ∨ s.cfgState = csChecking ∨ s.cfgState = csWaitTick then
      (if (s.loadOn .slave).isSome then failFull s cfHalted 0 else s) else s
  undefinePanels (endPending s)

/-- A halt, from where the fabric and the lanes stop. -/
def State.haltDone (s : State) : State :=
  let s := stopLanes { s with pwr := { s.pwr with halted := true }, cfg := { s.cfg with hemSafe := true, done := false } } 3 stTargetUnavailable
  let s := idleChannels { s with itg := { s.itg with cache := [] } }
  let s := (List.range 32).foldl (fun s c => putNi s c niOffline) s
  if s.cfgState = csRunning then putCfg s csHalted else s

theorem enterHalt_eq {addr level : Nat} (h : s.pwr.halted = false) : enterHalt s 3 addr level =
    (s.haltBegun addr level).haltDone := by
  rw [enterHalt, if_neg (by simp [h]), State.haltBegun, State.haltDone]

theorem pwr_haltBegun (s : State) (addr level : Nat) : (s.haltBegun addr level).pwr = s.pwr := by
  unfold State.haltBegun
  extract_lets v w x
  have hv : v.pwr = s.pwr := by simp [v]
  have hw : w.pwr = v.pwr := foldl_keeps State.pwr (fun s b _ => by simp) v
  have hx : x.pwr = w.pwr := by
    simp only [x]
    clear_value w
    split
    · split
      · simp
      · rfl
    · rfl
  clear_value x
  simp only [undefinePanels_frame, endPending_frame, hx, hw, hv]

theorem pwr_haltDone (s : State) : s.haltDone.pwr = { s.pwr with halted := true } := by
  unfold State.haltDone
  simp

/-- A halt keeps the temperatures and the hold on loads (R482). -/
theorem pwr_enterHalt (s : State) (addr level : Nat) : (enterHalt s 3 addr level).pwr = { s.pwr with halted := true } := by
  cases h : s.pwr.halted
  · rw [enterHalt_eq h, pwr_haltDone, pwr_haltBegun]
  · rw [enterHalt, if_pos h, if_pos rfl, ← h]

theorem senseTemp_coolTo (s : State) (i : Nat) (x : Int) :
    (senseTemp s (i / 16) (i % 16) x).pwr = { s.pwr with sensors := s.pwr.sensors.set i x } := by
  rw [sensors_senseTemp, Nat.div_add_mod]

/-- What reading one sensor no higher than a temperature leaves. -/
def State.coolOne (temp : Int) (s : State) (i : Nat) : State :=
  senseTemp s (i / 16) (i % 16) (min temp (s.pwr.sensors.getD i 0))

theorem coolTo_eq (s : State) (temp : Int) : coolTo s temp = (List.range 64).foldl (State.coolOne temp) s := rfl

/-- Every sensor read so far is at most the temperature. -/
theorem sensors_coolTo (s : State) (temp : Int) (n : Nat) : ∀ (i : Nat) (x : Int), i < n →
    ((List.range n).foldl (State.coolOne temp) s).pwr.sensors[i]? = some x → x ≤ temp := by
  induction n with
  | zero => exact fun i x hi => absurd hi (Nat.not_lt_zero i)
  | succ n ih =>
    intro i x hi hx
    rw [List.range_succ, List.foldl_append, List.foldl_cons, List.foldl_nil, State.coolOne, senseTemp_coolTo] at hx
    generalize (List.range n).foldl (State.coolOne temp) s = v at *
    dsimp only at hx
    rw [List.getElem?_set] at hx
    split at hx
    · split at hx
      · obtain rfl := Option.some_inj.mp hx
        exact min_le_left ..
      · exact absurd hx (by simp)
    · exact ih i x (by omega) hx

theorem coolTo_spec (s : State) (temp : Int) : (coolTo s temp).pwr.warned = s.pwr.warned ∧
    (coolTo s temp).pwr.thermalHold = s.pwr.thermalHold ∧ Outside [.cat, .pwr] s (coolTo s temp) ∧
    EntriesOutside [(0x040800, 0x040800)] s (coolTo s temp) := by
  rw [coolTo_eq]
  refine ⟨foldl_keeps (fun s : State => s.pwr.warned) (fun s i _ => ?_) s,
    foldl_keeps (fun s : State => s.pwr.thermalHold) (fun s i _ => ?_) s,
    Outside.foldl _ _ _ fun s i => outside_senseTemp _ _ _ _, entriesOutside_foldl _ _ _ fun s i hi => ?_⟩
  · rw [State.coolOne, senseTemp_coolTo]
  · rw [State.coolOne, senseTemp_coolTo]
  · have := List.mem_range.mp hi
    exact entriesOutside_senseTemp _ _ _ (by omega)

/-- Settles O20: a reading, a halt, and the two ends of what a temperature holds back. -/
theorem temperatureWarnsAndTrips : Obligations.TemperatureWarnsAndTrips := by
  unfold Obligations.TemperatureWarnsAndTrips
  refine ⟨fun s b sensor temp hon => ?_, fun s b sensor temp hon ht => ?_, fun s temp hon ht => ?_, fun s temp hon ht => ?_⟩
  · exact does_if rfl hon (warn_spec s sensor temp b.isLt)
  · refine does_if rfl hon ?_
    obtain ⟨hs, -, -, -, -⟩ := warn_spec s sensor temp b.isLt
    have hp : (trip s b sensor temp).pwr = { (warn s b sensor temp).pwr with thermalHold := true, halted := true } := by
      rw [trip]
      generalize warn s b sensor temp = v
      rw [if_neg (not_lt.mpr ht)]
      have hr : ∀ t : State, (t.raise 0x181 b (thermalExtra b sensor temp)).pwr = t.pwr := fun t => by simp
      rw [hr, pwr_enterHalt]
    rw [hp]
    refine ⟨rfl, rfl, hs, fun p hp => ?_⟩
    cases p <;> simp at hp ⊢
  · refine does_if rfl ⟨hon, ht⟩ ?_
    obtain ⟨hw, hh, ho, he⟩ := coolTo_spec s temp
    have hs := sensors_coolTo s temp 64
    rw [← coolTo_eq] at hs
    generalize coolTo s temp = v at *
    refine ⟨rfl, hw, hs, ho.trans fun p hp => ?_, he.trans (.of_cat rfl)⟩
    cases p <;> simp at hp ⊢
  · refine does_if rfl ⟨hon, ht⟩ ?_
    obtain ⟨hw, hh, ho, he⟩ := coolTo_spec s temp
    have hs := sensors_coolTo s temp 64
    rw [← coolTo_eq] at hs
    generalize coolTo s temp = v at *
    refine ⟨rfl, hh, hs, ho.trans fun p hp => ?_, he.trans (.of_cat rfl)⟩
    cases p <;> simp at hp ⊢

end Sys2Proof.Machine
end

section
/-! Clears, the mode sampled after them, and sync words (R137, R139, R143, R161; obligation O21). -/

namespace Sys2Proof.Machine

variable {s t : State} {port : LoadPort} {l m : Load} {n : Nat} {given words : List Nat}

/-! ### CFG_SEL_N stays through a clear -/

theorem selN_endIcp (s : State) (b code detail : Nat) : (endIcp s b code detail).cfg.selN = s.cfg.selN := by
  unfold endIcp
  extract_lets op c v
  have hv : v.cfg.selN = s.cfg.selN := rfl
  clear_value op v
  split
  · exact hv
  · split <;> simp [hv]

theorem selN_failPartial (s : State) (b : Fin 4) (code addr : Nat) : (failPartial s b code addr).cfg.selN = s.cfg.selN := by
  unfold failPartial
  split
  · rfl
  · refine (selN_endIcp ..).trans ?_
    split
    · rfl
    · simp

theorem selN_undefinePanels (s : State) : (undefinePanels s).cfg.selN = s.cfg.selN := by
  unfold undefinePanels
  refine foldl_keeps (fun s : State => s.cfg.selN) (fun s p _ => ?_) s
  split
  · rfl
  · rfl

theorem selN_unconfigure (s : State) : (unconfigure s).cfg.selN = s.cfg.selN := by
  unfold unconfigure
  extract_lets v w x z
  have hv : v.cfg = s.cfg := foldl_keeps State.cfg (fun s j _ => by simp) s
  have hw : w.cfg = v.cfg := by simp only [w, clearFabric_frame, idleChannels_frame, rawLanes_frame]
  have hx : x.cfg = w.cfg := foldl_keeps State.cfg (fun s l _ => by simp) w
  have hl : x.cfg.selN = s.cfg.selN := congrArg CfgEngine.selN (hx.trans (hw.trans hv))
  clear_value x
  exact hl

theorem selN_clearing (s : State) : (putCfg (unconfigure (s.setLoad .slave none)) csClearing).cfg.selN = s.cfg.selN := by
  have h := selN_unconfigure (s.setLoad .slave none)
  generalize unconfigure (s.setLoad .slave none) = u at *
  exact h

theorem selN_beginClear (s : State) (cause : Nat) : (beginClear s cause).cfg.selN = s.cfg.selN := by
  unfold beginClear
  extract_lets v w x y z
  have hv : v.cfg.selN = s.cfg.selN := foldl_keeps (fun s : State => s.cfg.selN) (fun s b _ => by simp only [selN_failPartial]) s
  have hw : w.cfg.selN = v.cfg.selN := by
    rw [selN_undefinePanels]
    simp
  have hx : x.cfg.selN = w.cfg.selN := selN_clearing w
  clear_value x
  have hy : y.cfg = x.cfg := rfl
  have hr : ∀ t : State, (t.raise 0xD04 0 (be 1 cause)).cfg = t.cfg := fun t => by simp
  rw [hr]
  exact (congrArg CfgEngine.selN hy).trans (hx.trans (hw.trans hv))

/-! ### The end of a clear -/

theorem outside_with_cfg (s : State) (c : CfgEngine) : Outside [.cfg] s { s with cfg := c } := by
  intro p hp
  cases p <;> simp at hp ⊢

/-- CFG_INIT_N rises after a clear (R139, R143). -/
theorem initHigh_spec (s : State) (mode : Nat) : (initHigh s mode).cfgState = csIdle ∧ (initHigh s mode).num 0x0C0000 6 = mode ∧
    (initHigh s mode).num 0x0C0000 2 = (if 2 ≤ mode then cfModeInvalid else s.num 0x0C0000 2) ∧
    (initHigh s mode).cfg = { s.cfg with cfgMode := mode, initLow := false, cleared := false } ∧
    Outside [.cat, .cfg] s (initHigh s mode) ∧ EntriesOutside [(0x0C0000, 0x0C0000)] s (initHigh s mode) := by
  obtain ⟨t, ht⟩ : ∃ t, t = sampleMode s mode := ⟨_, rfl⟩
  have hin : ∃ r ∈ [(0x0C0000, 0x0C0000)], r.1 ≤ 0x0C0000 ∧ 0x0C0000 ≤ r.2 := ⟨_, .head _, le_rfl, le_rfl⟩
  obtain ⟨h6, h2, hc, ho, he⟩ : t.num 0x0C0000 6 = mode ∧
      t.num 0x0C0000 2 = (if 2 ≤ mode then cfModeInvalid else s.num 0x0C0000 2) ∧ t.cfg = { s.cfg with cfgMode := mode } ∧
      Outside [.cat, .cfg] s t ∧ EntriesOutside [(0x0C0000, 0x0C0000)] s t := by
    have hv2 : ({ s with cfg := { s.cfg with cfgMode := mode } } : State).num 0x0C0000 2 = s.num 0x0C0000 2 := num_with_cfg rfl _ _
    have hvo := outside_with_cfg s { s.cfg with cfgMode := mode }
    have hve : EntriesOutside [(0x0C0000, 0x0C0000)] s { s with cfg := { s.cfg with cfgMode := mode } } := .of_cat rfl
    obtain ⟨w, hw⟩ : ∃ w, w = ({ s with cfg := { s.cfg with cfgMode := mode } } : State).put 0x0C0000 6 mode := ⟨_, rfl⟩
    have hs : sampleMode s mode = if 2 ≤ mode then w.put 0x0C0000 2 cfModeInvalid else w := by
      rw [hw]
      rfl
    rw [ht, hs]
    have hwo : Outside [.cat, .cfg] s w := hw ▸ (hvo.mono (by decide)).andThen (outside_put _ _ _ _) (by decide)
    have hwe : EntriesOutside [(0x0C0000, 0x0C0000)] s w := hw ▸ hve.trans (entriesOutside_put _ _ _ _ (by decide) hin)
    have hw6 : w.num 0x0C0000 6 = mode := by rw [hw, num_put_self]
    have hw2 : w.num 0x0C0000 2 = s.num 0x0C0000 2 := by
      rw [hw, ← hv2]
      exact num_put_of_apart (by decide) (by decide) (.inr (by decide)) (by decide)
    have hwc : w.cfg = { s.cfg with cfgMode := mode } := by
      rw [hw]
      rfl
    split
    · exact ⟨(num_put_of_apart (by decide) (by decide) (.inr (by decide)) (by decide)).trans hw6, num_put_self .., hwc,
        hwo.andThen (outside_put _ _ _ _) (by decide), hwe.trans (entriesOutside_put _ _ _ _ (by decide) hin)⟩
    · exact ⟨hw6, hw2, hwc, hwo, hwe⟩
  have hx : initHigh s mode = putCfg { t with cfg := { t.cfg with initLow := false, cleared := false } } csIdle := by
    rw [ht]
    rfl
  rw [hx]
  clear ht hx
  have hn : ∀ a, ({ t with cfg := { t.cfg with initLow := false, cleared := false } } : State).num 0x0C0000 a = t.num 0x0C0000 a :=
    fun a => num_with_cfg rfl _ _
  refine ⟨num_put_self .., ?_, ?_, ?_, ?_, ?_⟩
  · exact (num_put_of_apart (by decide) (by decide) (.inr (by decide)) (by decide)).trans ((hn 6).trans h6)
  · exact (num_put_of_apart (by decide) (by decide) (.inr (by decide)) (by decide)).trans ((hn 2).trans h2)
  · have : (putCfg { t with cfg := { t.cfg with initLow := false, cleared := false } } csIdle).cfg =
        { t.cfg with initLow := false, cleared := false } := rfl
    rw [this, hc]
  · exact ho.andThen ((outside_with_cfg t _).mono (qs := [.cat,
    .cfg]) (by decide) |>.andThen (outside_put _ _ _ _) (by decide)) (by decide)
  · exact he.trans (EntriesOutside.trans (.of_cat rfl) (entriesOutside_put _ _ _ _ (by decide) hin))

/-! ### Words that a load takes -/

/-- What a load takes does not depend on the words on a port that the MGC does not read (R162). -/
theorem Taken.ofMgc (h : Taken s port l n given words t m) (hm : l.byMgc.isSome = true) (ws : List Nat) :
    Taken s port l n ws words t m := by
  rcases h with ⟨hn, -⟩ | h
  · rw [hn] at hm
    exact absurd hm (by decide)
  · exact .inr h

theorem takeWords_of_taken {f : State → Load → List Nat → State} (h : Taken s port l n given words t m) :
    takeWords s port l n given f = f t m words := by
  rcases h with ⟨hn, hl, rfl, rfl, rfl⟩ | ⟨hm, hle, rfl, rfl, b, hb, rfl⟩
  · rw [takeWords, hn]
    exact if_pos hl
  · obtain ⟨k, hk⟩ := Option.isSome_iff_exists.mp hm
    rw [takeWords, hk]
    dsimp only
    rw [if_neg (Nat.not_lt.mpr hle), hb]

theorem setLoad_icp_cfg (s : State) (b : Fin 4) (x : Option Load) :
    (s.setLoad (.icp b) x).cfg = { s.cfg with icp := s.cfg.icp.set b x } := rfl

theorem outside_setLoad (s : State) (port : LoadPort) (x : Option Load) : Outside [.cfg] s (s.setLoad port x) := by
  cases port
  · exact outside_with_cfg s _
  · exact outside_with_cfg s _

theorem Taken.cfg_icp {b : Fin 4} (h : Taken s (.icp b) l n given words t m) (hm : l.byMgc.isSome = true) :
    t.cfg = { s.cfg with icp := s.cfg.icp.set b (some m) } := by
  rcases h with ⟨hn, -⟩ | ⟨-, -, -, rfl, -⟩
  · rw [hn] at hm
    exact absurd hm (by decide)
  · rw [setLoad_icp_cfg]
    simp

/-- Settles O21: one clear for every cause, and one place where a load begins. -/
theorem clearsBeginAndEnd : Obligations.ClearsBeginAndEnd := by
  unfold Obligations.ClearsBeginAndEnd
  refine ⟨?write, ?sel, ?selKeep, ?done, ?rise, ?slave, ?icp, ?mgc⟩
  case write =>
    intro s r v hw
    by_cases hv : v = 1
    · have hc := clearBegun_beginClear s 2
      have ha : clearRule.apply s false (carried r) (.num v) = { s := beginClear s 2 } := by
        simp [clearRule, valNum, hv]
      refine does_write rfl hw ha fun u hu =>
        ⟨hu.ok, fun _ => ?_, fun h => absurd hv h⟩
      have hcfg : u.cfg = (beginClear s 2).cfg := hu.outside.cfg (by decide)
      rw [hcfg]
      refine ⟨(hu.num ..).trans hc.state, hc.initDriven, hc.initLow, hc.clearCause, hc.clearAt, hc.load, hc.done,
        Outside.andThen (t := beginClear s 2) (fun p hp => ?_) hu.outside (by decide)⟩
      cases p <;> simp at hp ⊢
    · have ha : clearRule.apply s false (carried r) (.num v) = { s := s } := by
        simp [clearRule, valNum, hv]
      exact does_write rfl hw ha fun u hu =>
        ⟨hu.ok, fun h => absurd h hv, fun _ => hu.outside⟩
  case sel =>
    intro s hs
    have hst : ({ s with cfg := { s.cfg with selN := false } } : State).cfgState = s.cfgState := num_with_cfg rfl _ _
    have ho : Outside [.cfg] s { s with cfg := { s.cfg with selN := false } } := by
      intro p hp
      cases p <;> simp at hp ⊢
    have he : exec .cfgSelNFall s = .next (
        if ({ s with cfg := { s.cfg with selN := false } } : State).cfgState = csError ∨
            ({ s with cfg := { s.cfg with selN := false } } : State).cfgState = csHalted then
          beginClear { s with cfg := { s.cfg with selN := false } } 3
        else { s with cfg := { s.cfg with selN := false } }) := rfl
    rw [hst, if_pos hs] at he
    have hf : ({ s with cfg := { s.cfg with selN := false } } : State).cfg.selN = false := rfl
    generalize ({ s with cfg := { s.cfg with selN := false } } : State) = t at *
    have hc := clearBegun_beginClear t 3
    refine ⟨_, he, hc.state, hc.initDriven, hc.clearCause, (selN_beginClear t 3).trans hf, ?_⟩
    refine (ho.mono (by decide)).trans fun p hp => ?_
    cases p <;> simp at hp ⊢
  case selKeep =>
    intro s h1 h2
    have hst : ({ s with cfg := { s.cfg with selN := false } } : State).cfgState = s.cfgState := num_with_cfg rfl _ _
    exact ⟨_, congrArg Host.Outcome.next (if_neg (by rw [hst]; simp [h1, h2])), rfl⟩
  case done =>
    intro s mode high hst hd hh
    have hgo : s.cfgState = csClearing ∧ s.cfg.initDriven = true ∧ (!s.pwr.thermalHold) = true := ⟨hst, hd, by rw [hh]; rfl⟩
    have ho := outside_with_cfg s { s.cfg with initDriven := false, cleared := true }
    have hn : ({ s with cfg := { s.cfg with initDriven := false, cleared := true } } : State).num 0x0C0000 2 = s.num 0x0C0000 2 :=
      num_with_cfg rfl _ _
    cases high
    · refine ⟨_, congrArg Host.Outcome.next ((if_pos hgo).trans (if_neg Bool.false_ne_true)), ?_⟩
      exact ⟨fun h => absurd h (by decide), fun _ => ⟨rfl, rfl⟩, ho.mono (by decide), .of_cat rfl⟩
    · obtain ⟨hs, h6, h2, hc, hio, hie⟩ := initHigh_spec { s with cfg := { s.cfg with initDriven := false, cleared := true } } mode
      refine ⟨_, congrArg Host.Outcome.next ((if_pos hgo).trans (if_pos rfl)), ?_⟩
      refine ⟨fun _ => ⟨hs, h6, h2.trans (by rw [hn]), hc⟩, fun h => absurd h (by decide), ?_, ?_⟩
      · exact (ho.mono (by decide)).andThen hio (by decide)
      · exact EntriesOutside.trans (.of_cat rfl) hie
  case rise =>
    intro s mode hst hc
    exact does_if rfl ⟨hst, hc⟩ (initHigh_spec s mode)
  case slave =>
    intro s hst hsel hm
    refine ⟨_, congrArg Host.Outcome.next (if_pos ⟨hst, by rw [hsel]; rfl, hm⟩), rfl, num_put_self .., ?_, ?_⟩
    · exact ((outside_with_cfg s _).mono (by decide)).andThen (outside_put _ _ _ _) (by decide)
    · exact EntriesOutside.trans (t := { s with cfg := { s.cfg with load := some { words := [syncWordValue] } } }) (.of_cat rfl)
        (entriesOutside_put _ _ _ _ (by decide) ⟨_, .head _, le_rfl, le_rfl⟩)
  case icp =>
    intro s b l hl hw hn
    have he : exec (.syncWord (.icp b)) s = .next ((s.waitUntil (l.since + 4)).setLoad (.icp b) (some { l with words := [syncWordValue] })) := by
      refine congrArg Host.Outcome.next ?_
      rw [takeSync, hl]
      dsimp only
      rw [if_neg (by simp [hw, loadRuns, hn]), takeWords, hn]
      rfl
    have hwo := outside_waitUntil s (l.since + 4)
    have hwn := now_waitUntil_max s (l.since + 4)
    generalize s.waitUntil (l.since + 4) = w at *
    refine ⟨_, he, hwn, ?_, (hwo.mono (by decide)).andThen (outside_setLoad _ _ _) (by decide)⟩
    rw [setLoad_icp_cfg, hwo.cfg (by decide)]
  case mgc =>
    intro s t b l m hl hw hm hr ht
    have hn : l.byMgc.isNone = false := by
      rw [Option.isNone_eq_false_iff]
      exact hm
    have he : exec (.syncWord (.icp b)) s = .next (t.setLoad (.icp b) (some { m with words := [syncWordValue] })) := by
      refine congrArg Host.Outcome.next ?_
      rw [takeSync, hl]
      dsimp only
      rw [if_neg (by simp [hw, hr]), hn, if_neg Bool.false_ne_true, takeWords_of_taken (ht.ofMgc hm _), if_pos rfl]
    refine ⟨_, he, ?_, outside_setLoad _ _ _⟩
    rw [setLoad_icp_cfg, ht.cfg_icp hm, List.set_set]

end Sys2Proof.Machine
end

section
/-! Headers and frames of a load (R143 to R146, R150 to R154, R161 to R164; obligation O22). -/

namespace Sys2Proof.Machine

variable {s t : State} {port : LoadPort} {l m : Load} {n i a : Nat} {b : Fin 4}

/-! ### What an unconfigured engine keeps -/

theorem unitDefault_event (s : State) (h : 0x0E1000 ≤ i ∧ i ≤ 0x0E1FFF) (h2 : a ≠ 2) : unitDefault s i a = none := by
  unfold unitDefault
  split
  any_goals omega
  rw [if_neg (by omega), if_pos h, if_neg h2]

/-- The counters of an event read from its stored entries alone. -/
theorem num_event_of_cat {m : Nat} (hm : m < 4096) (hc : t.cat = s.cat) : t.num (0x0E1000 + m) 7 = s.num (0x0E1000 + m) 7 := by
  have hd : ∀ s : State, unitDefault s (ent (0x0E1000 + m) 7 / 256) (ent (0x0E1000 + m) 7 % 256) = none := fun s => by
    rw [ent_div _ _ (by decide), ent_mod _ _ (by decide)]
    exact unitDefault_event s (by omega) (by decide)
  unfold State.num State.val defaultVal
  rw [hc, hd, hd]

section
variable {m : Nat} (hm : m ≠ 0x040) (hb : m ≠ 0xA0B)
include hm hb

theorem num_putNi_event (s : State) {x : Nat} (st : Nat) (hx : x < 256) : (putNi s x st).num (0x0E1000 + m) 7 = s.num
    (0x0E1000 + m) 7 := by
  unfold putNi
  split
  · rfl
  · exact (num_raise_other _ hm (Ne.symm hb) (by decide)).trans
      (num_put_ne _ _ _ _ _ _ (by decide) (by decide) (by omega))

theorem num_drainNi_event (s : State) {x : Nat} (hx : x < 256) : (drainNi s x).num (0x0E1000 + m) 7 = s.num
    (0x0E1000 + m) 7 := by
  unfold drainNi
  split
  · exact num_putNi_event hm hb _ _ hx
  · rfl

end

theorem num_idleChannels_event (s : State) (m : Nat) : (idleChannels s).num (0x0E1000 + m) 7 = s.num (0x0E1000 + m) 7 := by
  unfold idleChannels
  refine foldl_keeps (State.num · (0x0E1000 + m) 7) (fun s c hc => ?_) s
  have hc' := List.mem_range.mp hc
  have hne : chIdx c ≠ 0x0E1000 + m := by unfold chIdx; omega
  dsimp only
  rw [num_showChannel _ (by decide) (.inl hne.symm) hc', num_put_ne _ _ _ _ _ _ (by decide) (by decide) hne,
    num_put_ne _ _ _ _ _ _ (by decide) (by decide) hne, State.putCh, num_put_ne _ _ _ _ _ _ (by decide) (by decide) hne]
  rfl

theorem num_clearFabric_event (s : State) (m : Nat) : (clearFabric s).num (0x0E1000 + m) 7 = s.num (0x0E1000 + m) 7 := by
  unfold clearFabric
  refine (foldl_keeps (State.num · (0x0E1000 + m) 7) (fun s c hc => ?_) _).trans (num_with_fab ..)
  have hc' := List.mem_range.mp hc
  exact num_put_ne _ _ _ _ _ _ (by decide) (by decide) (by omega)

theorem num_unconfigure_event (s : State) {m : Nat} (hm : m ≠ 0x040) (hb : m ≠ 0xA0B) (h : m < 4096) :
    (unconfigure s).num (0x0E1000 + m) 7 = s.num (0x0E1000 + m) 7 := by
  unfold unconfigure
  extract_lets v w x z c
  have hv : v.num (0x0E1000 + m) 7 = s.num (0x0E1000 + m) 7 :=
    foldl_keeps (State.num · (0x0E1000 + m) 7) (fun s j hj => num_drainNi_event hm hb s (by have := List.mem_range.mp hj; omega)) s
  have hw : w.num (0x0E1000 + m) 7 = v.num (0x0E1000 + m) 7 :=
    (num_clearFabric_event ..).trans ((num_idleChannels_event ..).trans (num_event_of_cat h (by simp)))
  have hx : x.num (0x0E1000 + m) 7 = w.num (0x0E1000 + m) 7 := by
    refine foldl_keeps (State.num · (0x0E1000 + m) 7) (fun s l hl => ?_) w
    have hl' := List.mem_range.mp hl
    exact num_put_ne _ _ _ _ _ _ (by decide) (by decide) (by unfold uloopIdx; omega)
  rw [← hv, ← hw, ← hx]
  clear_value x
  exact num_event_of_cat h rfl

theorem cfg_unconfigure (s : State) : (unconfigure s).cfg = { s.cfg with
      compiled := {}, startAt := none, startPhase := 0, startTick := none, seamTrained := false, endOk := false,
      ffHeld := true, ioHiZ := true, clocksGated := true, hemSafe := false, parUser := false, done := false } := by
  unfold unconfigure
  extract_lets v w x z c d
  have hv : v.cfg = s.cfg := foldl_keeps State.cfg (fun s j _ => by simp) s
  have hw : w.cfg = v.cfg := by simp only [w, clearFabric_frame, idleChannels_frame, rawLanes_frame]
  have hx : x.cfg = w.cfg := foldl_keeps State.cfg (fun s l _ => by simp) w
  have hl : x.cfg = s.cfg := hx.trans (hw.trans hv)
  have hc : c = d := hl
  clear_value x c d
  rw [hc]

/-! ### Ends of a load -/

theorem loadOn_setLoad_none (s : State) (port : LoadPort) : (s.setLoad port none).loadOn port = none := by
  cases port with
  | slave => rfl
  | icp b =>
    simp only [State.setLoad, State.loadOn, List.getElem?_set_self']
    cases s.cfg.icp[b.val]? <;> rfl

theorem loadOn_setLoad {x : Load} (h : s.loadOn port = some l) : (s.setLoad port (some x)).loadOn port = some x := by
  cases port with
  | slave => rfl
  | icp b =>
    have hb : b.val < s.cfg.icp.length := by
      by_contra hn
      simp only [State.loadOn, List.getElem?_eq_none (Nat.le_of_not_lt hn)] at h
      exact absurd h (by simp)
    simp [State.setLoad, State.loadOn, hb]

theorem loadOn_congr (h : t.cfg = s.cfg) (port : LoadPort) : t.loadOn port = s.loadOn port := by
  cases port <;> simp [State.loadOn, h]

theorem Taken.loadOn (h : Taken s port l n given words t m) (hl : s.loadOn port = some l) : t.loadOn port = some m := by
  rcases h with ⟨-, -, -, rfl, rfl⟩ | ⟨-, -, -, rfl, -⟩
  · exact hl
  · exact loadOn_setLoad ((loadOn_congr (by simp) port).trans hl)

/-- Of the load, taking words moves only the place in an MGC source. -/
theorem Taken.load (h : Taken s port l n given words t m) : m = { l with off := m.off } := by
  rcases h with ⟨-, -, -, -, rfl⟩ | ⟨-, -, rfl, -⟩ <;> rfl

/-- Of the engine, taking words moves only the load. -/
theorem Taken.engine (h : Taken s port l n given words t m) : t.now = s.now ∧ t.cfg.frames = s.cfg.frames ∧
    t.cfg.icpStatus = s.cfg.icpStatus ∧ t.cfg.icpBusy = s.cfg.icpBusy ∧ t.cfg.icpDone = s.cfg.icpDone := by
  rcases h with ⟨-, -, -, rfl, rfl⟩ | ⟨-, -, -, rfl, -⟩
  · exact ⟨rfl, rfl, rfl, rfl, rfl⟩
  · cases port <;> simp [State.setLoad]

/-! ### The end of an operation leaves other entries alone -/

theorem not_slot {i k : Nat} (hi : i < 0x0E0000) : ∀ r ∈ (opIdx k, opIdx k) :: eventRanges, ¬(r.1 ≤ i ∧ i ≤ r.2) := by
  intro r hr
  rcases List.mem_cons.mp hr with rfl | hr
  · simp only [opIdx]
    omega
  · exact not_event i (.inl hi) r hr

theorem num_finishOp_low {k : Nat} (hi : i < 0x0E0000) (ha : a < 256) : (finishOp s k).num i a = s.num i a :=
  num_outside (entriesOutside_finishOp s k) (by simp) (by simp) (by simp) i a ha (not_slot hi)

theorem num_failOp_low {k st d : Nat} (hi : i < 0x0E0000) (ha : a < 256) : (failOp s k st d).num i a = s.num i a :=
  num_outside (failOp_spec s k st d).2.2.2.2 (by simp) (by simp) (by simp) i a ha (not_slot hi)

section
variable {e k : Nat} (hm : e ≠ 0x040) (hb : e ≠ 0x030) (he : e < 4096)
include hm hb he

theorem num_putOp_event (s : State) (st : Nat) : (putOp s k st).num (0x0E1000 + e) 7 = s.num (0x0E1000 + e) 7 := by
  unfold putOp
  split
  · rfl
  · exact (num_raise_other _ hm (Ne.symm hb) (by decide)).trans
      (num_put_ne _ _ _ _ _ _ (by decide) (by decide) (by unfold opIdx; omega))

theorem num_finishOp_event (s : State) : (finishOp s k).num (0x0E1000 + e) 7 = s.num (0x0E1000 + e) 7 := by
  have hne : opIdx k ≠ 0x0E1000 + e := by unfold opIdx; omega
  unfold finishOp
  extract_lets v
  have hv : v.num (0x0E1000 + e) 7 = s.num (0x0E1000 + e) 7 := by
    simp only [v]
    split <;> rfl
  rw [num_putOp_event hm hb he, num_put_ne _ _ _ _ _ _ (by decide) (by decide) hne,
    num_put_ne _ _ _ _ _ _ (by decide) (by decide) hne, hv]

theorem num_failOp_event (s : State) (st d : Nat) : (failOp s k st d).num (0x0E1000 + e) 7 = s.num (0x0E1000 + e) 7 := by
  have hne : opIdx k ≠ 0x0E1000 + e := by unfold opIdx; omega
  unfold failOp
  rw [num_putOp_event hm hb he, num_put_ne _ _ _ _ _ _ (by decide) (by decide) hne,
    num_put_ne _ _ _ _ _ _ (by decide) (by decide) hne]

end

/-- A port as its load ends. -/
def State.icpFreed (s : State) (b code : Nat) : State :=
  { s with cfg := { s.cfg with
      icp := s.cfg.icp.set b none, icpBusy := s.cfg.icpBusy.set b false,
      icpDone := s.cfg.icpDone.set b (some s.now), icpStatus := s.cfg.icpStatus.set b code } }

/-- A port's load ends (R161), and the operation that carried it. -/
theorem endIcp_eq (s : State) (b code detail : Nat) : endIcp s b code detail = s.icpFreed b code ∨
    (∃ k, endIcp s b code detail = finishOp (s.icpFreed b code) k) ∨
    ∃ k, endIcp s b code detail = failOp (s.icpFreed b code) k code detail := by
  unfold endIcp
  extract_lets op c v
  have hv : v = s.icpFreed b code := rfl
  rw [← hv]
  clear_value op v
  cases op with
  | none => exact .inl rfl
  | some k =>
    dsimp only
    split
    · exact .inr (.inl ⟨k, rfl⟩)
    · exact .inr (.inr ⟨k, rfl⟩)

theorem endIcp_spec (s : State) (b : Fin 4) (code detail : Nat) : (endIcp s b code detail).cfg = (s.icpFreed b code).cfg ∧
    (∀ i a, i < 0x0E0000 → a < 256 → (endIcp s b code detail).num i a = s.num i a) ∧
    ∀ e, e ≠ 0x040 → e ≠ 0x030 → e < 4096 → (endIcp s b code detail).num (0x0E1000 + e) 7 = s.num (0x0E1000 + e) 7 := by
  have hf : ∀ i a, (s.icpFreed b code).num i a = s.num i a := fun i a => num_with_cfg rfl i a
  rcases endIcp_eq s b code detail with h | ⟨k, h⟩ | ⟨k, h⟩
  · rw [h]
    exact ⟨rfl, fun i a _ _ => hf i a, fun e _ _ _ => hf _ _⟩
  · rw [h]
    exact ⟨by simp, fun i a hi ha => (num_finishOp_low hi ha).trans (hf i a),
      fun e h1 h2 h3 => (num_finishOp_event h1 h2 h3 _).trans (hf _ _)⟩
  · rw [h]
    exact ⟨by simp, fun i a hi ha => (num_failOp_low hi ha).trans (hf i a),
      fun e h1 h2 h3 => (num_failOp_event h1 h2 h3 _ _ _).trans (hf _ _)⟩

theorem loadOn_icpFreed (s : State) (b : Fin 4) (code : Nat) : (s.icpFreed b code).loadOn (.icp b) = none :=
  loadOn_setLoad_none s (.icp b)

/-! ### Headers -/

/-- The load of an accepted header is under way, with its event (R150). -/
def State.headerTaken (s : State) (port : LoadPort) (x : Load) : State :=
  (s.setLoad port (some x)).raise 0xD00 0 (be 1 x.kind ++ be 1 x.panel ++ be 8 x.bsid)

theorem cfg_headerTaken (s : State) (port : LoadPort) (x : Load) :
    (s.headerTaken port x).cfg = (s.setLoad port (some x)).cfg := by simp [State.headerTaken]

theorem outside_headerTaken (s : State) (port : LoadPort) (x : Load) : Outside [.cat, .mgmt, .cfg] s (s.headerTaken port x) :=
  ((outside_setLoad s port (some x)).mono (by decide)).andThen (outside_raise _ _ _ _) (by decide)

/-- A full load's header accepted (R150, R154). -/
theorem acceptHeader_slave (s : State) (h : List Nat) (m : Load) :
    (acceptHeader s .slave h m).cfg =
      { s.cfg with load := some (loadOf h m), errorN := true, seamTrained := false, endOk := false } ∧
    (acceptHeader s .slave h m).num 0x0C0000 5 = 0 ∧ Outside [.cat, .mgmt, .cfg] s (acceptHeader s .slave h m) := by
  have hc := cfg_headerTaken s .slave (loadOf h m)
  have ho := outside_headerTaken s .slave (loadOf h m)
  have he : acceptHeader s .slave h m = trainChannels (({ s.headerTaken .slave (loadOf h m) with
    cfg := { (s.headerTaken .slave (loadOf h m)).cfg with errorN := true, seamTrained := false, endOk := false } } : State).put
      0x0C0000 5 0) := rfl
  rw [he]
  generalize s.headerTaken .slave (loadOf h m) = v at *
  have hk : ∀ s, ∀ c ∈ List.range 256, (State.putCh s c chTraining).num 0x0C0000 5 = s.num 0x0C0000 5 := fun s c hc =>
    num_put_ne _ _ _ _ _ _ (by decide) (by decide) (by unfold chIdx; omega)
  refine ⟨?_, (foldl_keeps (State.num · 0x0C0000 5) hk _).trans (num_put_self ..), ho.trans fun p hp => ?_⟩
  · simp only [trainChannels_frame, State_put_frame, hc]
    rfl
  · cases p <;> simp at hp ⊢

theorem isolatePanel_spec (s : State) (p cause : Nat) : Outside [.cat, .mgmt, .cfg] s (isolatePanel s p cause) ∧
    (isolatePanel s p cause).cfg.icp = s.cfg.icp := by
  refine ⟨fun q hq => ?_, ?_⟩
  · cases q <;> simp at hq ⊢
  · unfold isolatePanel
    split
    · rfl
    · simp [State.setHem]

/-- A panel load's header accepted (R163, R172). -/
theorem acceptHeader_icp {h : List Nat} {m : Load} (hl : s.loadOn (.icp b) = some l) :
    (acceptHeader s (.icp b) h m).loadOn (.icp b) = some (loadOf h m) ∧
    (acceptHeader s (.icp b) h m).panel (loadOf h m).panel = pnLoading ∧
    (acceptHeader s (.icp b) h m).num (panelIdx (loadOf h m).panel) 8 = (if m.byMgc.isSome then 2 else 1) ∧
    Outside [.cat, .mgmt, .cfg] s (acceptHeader s (.icp b) h m) := by
  have hc := cfg_headerTaken s (.icp b) (loadOf h m)
  have ho := outside_headerTaken s (.icp b) (loadOf h m)
  have he : acceptHeader s (.icp b) h m =
      ((putPanel (isolatePanel (s.headerTaken (.icp b) (loadOf h m)) (loadOf h m).panel 0) (loadOf h m).panel pnLoading).setHem
        (loadOf h m).panel fun h => { h with loaded := true }).put (panelIdx (loadOf h m).panel) 8 (if m.byMgc.isSome then 2 else 1) :=
    rfl
  have hx : (s.setLoad (.icp b) (some (loadOf h m))).loadOn (.icp b) = some (loadOf h m) := loadOn_setLoad hl
  rw [he]
  generalize s.headerTaken (.icp b) (loadOf h m) = v at *
  generalize loadOf h m = x at *
  obtain ⟨hio, hic⟩ := isolatePanel_spec v x.panel 0
  generalize isolatePanel v x.panel 0 = w at *
  refine ⟨?_, ?_, num_put_self .., (ho.trans hio).trans fun p hp => ?_⟩
  · rw [← hx]
    have hcc : w.cfg.icp = (s.setLoad (.icp b) (some x)).cfg.icp := hic.trans (congrArg CfgEngine.icp hc)
    simp only [State.loadOn]
    rw [← hcc]
    rfl
  · refine (num_put_of_apart (by decide) (by decide) (.inr (by decide)) (.inr (.inr (.inl (by decide))))).trans ?_
    exact (num_with_cfg rfl _ _).trans (num_put_self ..)
  · cases p <;> simp at hp ⊢

/-- A full load's header refused (R150). -/
theorem refuseHeader_slave (s : State) (h : List Nat) (code detail : Nat) :
    (refuseHeader s .slave h code detail).loadOn .slave = none ∧ (refuseHeader s .slave h code detail).cfgState = csIdle ∧
    (refuseHeader s .slave h code detail).num 0x0C0000 2 = code ∧ (refuseHeader s .slave h code detail).num 0x0C0000 3 = detail ∧
    (refuseHeader s .slave h code detail).cfg.errorN = false ∧
    Outside [.cat, .cap, .mgmt, .cfg] s (refuseHeader s .slave h code detail) := by
  obtain ⟨v, hv⟩ : ∃ v, v = s.raise 0xD02 0 (be 1 (hdr h 1 23 16) ++ be 1 (hdr h 9 7 0) ++ be 2 code) := ⟨_, rfl⟩
  have ho : Outside [.cat, .mgmt] s v := hv ▸ outside_raise _ _ _ _
  obtain ⟨w, hw⟩ : ∃ w, w = putCfg (v.setLoad .slave none) csIdle := ⟨_, rfl⟩
  have hw1 : w.num 0x0C0000 1 = csIdle := by rw [hw]; exact num_put_self ..
  have hwl : w.cfg.load = none := by rw [hw]; rfl
  have hwo : Outside [.cat, .cfg] v w := by
    rw [hw]
    exact ((outside_setLoad v .slave none).mono (by decide)).andThen (outside_put _ _ _ _) (by decide)
  have he : refuseHeader s .slave h code detail =
      (({ w with cfg := { w.cfg with errorN := false } } : State).put 0x0C0000 2 code).put 0x0C0000 3 detail := by
    rw [hw, hv]
    rfl
  rw [he]
  clear he hw hv
  refine ⟨hwl, ?_, ?_, num_put_self .., rfl,
    ((ho.mono (by decide)).andThen hwo (by decide)).trans fun p hp => ?_⟩
  · exact (num_put_of_apart (by decide) (by decide) (.inr (by decide)) (by decide)).trans
      ((num_put_of_apart (by decide) (by decide) (.inr (by decide)) (by decide)).trans ((num_with_cfg rfl _ _).trans hw1))
  · exact (num_put_of_apart (by decide) (by decide) (.inr (by decide)) (by decide)).trans (num_put_self ..)
  · cases p <;> simp at hp ⊢

/-- A panel load's header refused (R150, R161). -/
theorem refuseHeader_icp (s : State) (b : Fin 4) (h : List Nat) (code detail : Nat) :
    (refuseHeader s (.icp b) h code detail).cfg = (s.icpFreed b code).cfg ∧
    Outside [.cat, .cap, .mgmt, .cfg] s (refuseHeader s (.icp b) h code detail) := by
  obtain ⟨v, hv⟩ : ∃ v, v = s.raise 0xD02 0 (be 1 (hdr h 1 23 16) ++ be 1 (hdr h 9 7 0) ++ be 2 code) := ⟨_, rfl⟩
  have ho : Outside [.cat, .mgmt] s v := hv ▸ outside_raise _ _ _ _
  obtain ⟨w, hw⟩ : ∃ w, w = if hdr h 9 7 0 / 16 = b.val then v.put (panelIdx (hdr h 9 7 0)) 7 code else v := ⟨_, rfl⟩
  have hwo : Outside [.cat] v w := by
    rw [hw]
    split
    · exact outside_put _ _ _ _
    · exact .refl _ _
  have he : refuseHeader s (.icp b) h code detail = endIcp w b code 0 := by
    rw [hw, hv]
    rfl
  obtain ⟨hc, -, -⟩ := endIcp_spec w b code 0
  rw [he]
  refine ⟨?_, ((ho.mono (by decide)).andThen hwo (by decide)).trans fun p hp => ?_⟩
  · have h1 : w.cfg = s.cfg := (hwo.cfg (by decide)).trans (ho.cfg (by decide))
    have h2 : w.now = s.now := (hwo.now (by decide)).trans (ho.now (by decide))
    rw [hc, State.icpFreed, State.icpFreed, h1, h2]
  · cases p <;> simp at hp ⊢

/-! ### Frames -/

/-- A frame written (R151, R164). -/
theorem writeFrame_spec {ws : List Nat} (hl : s.loadOn port = some l) : ∃ x, (writeFrame s port m ws).loadOn port = some x ∧
    x.written = m.written + 1 ∧ x.lastAddr = ws.getD 0 0 + 1 ∧ x.panel = m.panel ∧ x.bsid = m.bsid ∧
    (writeFrame s port m ws).cfg.frames = tput s.cfg.frames (ws.getD 0 0) { data := frameData ws } ∧
    Outside [.cat, .cfg] s (writeFrame s port m ws) := by
  obtain ⟨x, hx⟩ : ∃ x : Load,
      x = { m with written := m.written + 1, lastAddr := ws.getD 0 0 + 1, crc64 := crc64More m.crc64 (wordBytes ws) } := ⟨_, rfl⟩
  obtain ⟨v, hv⟩ : ∃ v : State, v = s.setLoad port (some x) := ⟨_, rfl⟩
  have hvl : v.loadOn port = some x := hv ▸ loadOn_setLoad hl
  have hvf : v.cfg.frames = s.cfg.frames := by rw [hv]; cases port <;> rfl
  have hvo : Outside [.cfg] s v := hv ▸ outside_setLoad s port (some x)
  obtain ⟨w, hw⟩ : ∃ w : State,
      w = { v with cfg := { v.cfg with frames := tput v.cfg.frames (ws.getD 0 0) { data := frameData ws } } } := ⟨_, rfl⟩
  have hwl : w.loadOn port = some x := by rw [← hvl, hw]; cases port <;> rfl
  have hwf : w.cfg.frames = tput s.cfg.frames (ws.getD 0 0) { data := frameData ws } := by rw [hw, hvf]
  have hwo : Outside [.cfg] s w := hvo.trans (hw ▸ outside_with_cfg v _)
  have he : writeFrame s port m ws =
      match x.byMgc with
      | some k => w.put (opIdx k) 6 (x.written * 1000000 / Nat.max 1 x.frames)
      | none => if x.isPartial then w else w.put 0x0C0000 5 x.written := by
    rw [hw, hv, hx]
    rfl
  have hput : ∀ i a n, (w.put i a n).loadOn port = some x ∧
      (w.put i a n).cfg.frames = tput s.cfg.frames (ws.getD 0 0) { data := frameData ws } ∧ Outside [.cat, .cfg] s (w.put i a n) :=
    fun i a n => ⟨(loadOn_congr rfl port).trans hwl, hwf, (hwo.mono (by decide)).andThen (outside_put _ _ _ _) (by decide)⟩
  have hfin : (writeFrame s port m ws).loadOn port = some x ∧
      (writeFrame s port m ws).cfg.frames = tput s.cfg.frames (ws.getD 0 0) { data := frameData ws } ∧
      Outside [.cat, .cfg] s (writeFrame s port m ws) := by
    rw [he]
    split
    · exact hput _ _ _
    · split
      · exact ⟨hwl, hwf, hwo.mono (by decide)⟩
      · exact hput _ _ _
  obtain ⟨h1, h2, h3⟩ := hfin
  exact ⟨x, h1, by rw [hx], by rw [hx], by rw [hx], by rw [hx], h2, h3⟩

/-- A full load failed (R151). -/
theorem failFull_spec (s : State) (code addr : Nat) : (failFull s code addr).loadOn .slave = none ∧
    (failFull s code addr).cfg.frames = s.cfg.frames ∧ (failFull s code addr).cfgState = csError ∧
    (failFull s code addr).num 0x0C0000 2 = code ∧ (failFull s code addr).num 0x0C0000 3 = addr ∧
    (failFull s code addr).cfg.errorN = false ∧ Raised s (failFull s code addr) 0xD03 := by
  obtain ⟨v, hv⟩ : ∃ v, v = unconfigure (s.setLoad .slave none) := ⟨_, rfl⟩
  have hvc := cfg_unconfigure (s.setLoad .slave none)
  have hvn := num_unconfigure_event (s.setLoad .slave none) (m := 0xD03) (by decide) (by decide) (by decide)
  rw [← hv] at hvc hvn
  have hvl : v.cfg.load = none := by rw [hvc]; rfl
  have hvf : v.cfg.frames = s.cfg.frames := by rw [hvc]; rfl
  obtain ⟨w, hw⟩ : ∃ w : State, w = { putCfg v csError with cfg := { v.cfg with errorN := false } } := ⟨_, rfl⟩
  have hw1 : w.num 0x0C0000 1 = csError := by rw [hw]; exact (num_with_cfg rfl _ _).trans (num_put_self ..)
  have hwn : w.num (0x0E1000 + 0xD03) 7 = s.num (0x0E1000 + 0xD03) 7 := by
    rw [hw, num_event_of_cat (t := { putCfg v csError with cfg := { v.cfg with errorN := false } }) (by decide) rfl]
    exact (num_put_ne _ _ _ _ _ _ (by decide) (by decide) (by decide)).trans (hvn.trans (num_event_of_cat (by decide) rfl))
  have he : failFull s code addr = ((w.put 0x0C0000 2 code).put 0x0C0000 3 addr).raise 0xD03 0 (be 2 code ++ be 4 addr) := by
    rw [hw, hv]
    rfl
  have hwc : w.cfg = { v.cfg with errorN := false } := by rw [hw]
  clear hw hv
  rw [he]
  have hc : (((w.put 0x0C0000 2 code).put 0x0C0000 3 addr).raise 0xD03 0 (be 2 code ++ be 4 addr)).cfg = { v.cfg with errorN := false } := by
    simp [hwc]
  have hr : ∀ a,
    a < 256 → (((w.put 0x0C0000 2 code).put 0x0C0000 3 addr).raise 0xD03 0 (be 2 code ++ be 4 addr)).num 0x0C0000 a =
      ((w.put 0x0C0000 2 code).put 0x0C0000 3 addr).num 0x0C0000 a := fun a ha => num_raise (by decide) _ _ ha (.inl (by decide))
  refine ⟨?_, ?_, ?_, ?_, ?_, ?_, raised_after (by decide) ?_⟩
  · rw [State.loadOn, hc]
    exact hvl
  · rw [hc]
    exact hvf
  · rw [State.cfgState, hr 1 (by decide)]
    exact (num_put_of_apart (by decide) (by decide) (.inr (by decide)) (by decide)).trans
      ((num_put_of_apart (by decide) (by decide) (.inr (by decide)) (by decide)).trans hw1)
  · rw [hr 2 (by decide)]
    exact (num_put_of_apart (by decide) (by decide) (.inr (by decide)) (by decide)).trans (num_put_self ..)
  · rw [hr 3 (by decide), num_put_self]
  · rw [hc]
  · rw [num_put_ne _ _ _ _ _ _ (by decide) (by decide) (by decide), num_put_ne _ _ _ _ _ _ (by decide) (by decide) (by decide),
    hwn]

/-- A panel load failed after its header (R151, R161). -/
theorem failPartial_spec {code addr : Nat} (hl : s.loadOn (.icp b) = some l) (hg : l.got ≠ 0) :
    (failPartial s b code addr).cfg = (s.icpFreed b code).cfg ∧
    (l.panel < 64 → (failPartial s b code addr).panel l.panel = pnIncomplete ∧
      (failPartial s b code addr).num (panelIdx l.panel) 7 = code ∧ Raised s (failPartial s b code addr) 0xD13) := by
  obtain ⟨v, hv⟩ : ∃ v : State,
    v = ((putPanel s l.panel pnIncomplete).put (panelIdx l.panel) 2 0).put (panelIdx l.panel) 7 code :=
    ⟨_, rfl⟩
  obtain ⟨w, hw⟩ : ∃ w : State, w = v.raise 0xD13 b (be 1 l.panel ++ be 2 code ++ be 4 addr) := ⟨_, rfl⟩
  have he : failPartial s b code addr = endIcp w b code addr := by
    rw [failPartial, hl, hw, hv]
    dsimp only
    rw [if_neg hg]
  obtain ⟨hc, hn, hev⟩ := endIcp_spec w b code addr
  rw [he]
  have hwc : w.cfg = s.cfg ∧ w.now = s.now := by
    rw [hw, hv]
    constructor <;> simp
  refine ⟨?_, fun hp => ?_⟩
  · rw [hc, State.icpFreed, State.icpFreed, hwc.1, hwc.2]
  · have hlow : panelIdx l.panel < 0x0E0000 := by unfold panelIdx; omega
    have hr : ∀ a, a < 256 → w.num (panelIdx l.panel) a = v.num (panelIdx l.panel) a := fun a ha => by
      rw [hw]
      exact num_raise (by decide) _ _ ha (.inl hlow)
    refine ⟨?_, ?_, ?_⟩
    · rw [State.panel, hn _ _ hlow (by decide), hr 1 (by decide), hv]
      exact (num_put_of_apart (by decide) (by decide) (.inr (by decide)) (.inr (.inr (.inl (by decide))))).trans
        ((num_put_of_apart (by decide) (by decide) (.inr (by decide)) (.inr (.inl (by decide)))).trans (num_put_self ..))
    · rw [hn _ _ hlow (by decide), hr 7 (by decide), hv, num_put_self]
    · have hne : panelIdx l.panel ≠ 0x0E1000 + 0xD13 := by omega
      have hvn : v.num (0x0E1000 + 0xD13) 7 = s.num (0x0E1000 + 0xD13) 7 := by
        rw [hv, num_put_ne _ _ _ _ _ _ (by decide) (by decide) hne, num_put_ne _ _ _ _ _ _ (by decide) (by decide) hne]
        exact num_put_ne _ _ _ _ _ _ (by decide) (by decide) hne
      exact (hev _ (by decide) (by decide) (by decide)).trans (hw ▸ raised_after (by decide) hvn)

theorem failLoad_slave (s : State) (code addr : Nat) : failLoad s .slave code addr = failFull s code addr := rfl

theorem failLoad_icp (s : State) (b : Fin 4) (code addr : Nat) : failLoad s
    (.icp b) code addr = failPartial s b code addr := rfl

/-- Settles O22: what the words on a port, or those the MGC reads, begin and end. -/
theorem loadsTakeHeadersAndFrames : Obligations.LoadsTakeHeadersAndFrames := by
  unfold Obligations.LoadsTakeHeadersAndFrames
  refine ⟨?header, ?frame, ?short⟩
  case header =>
    intro s t port ws rest h l m hl hg hw hr ht hh
    have he : exec (.bitstreamHeader port ws) s = .next (
        match headerFault t port h with
        | some e => refuseHeader t port h e.1 e.2
        | none => acceptHeader t port h m) := by
      refine congrArg Host.Outcome.next ?_
      rw [takeHeader, hl]
      dsimp only
      rw [if_neg (by simp [hg, hw, hr]), takeWords_of_taken ht, hh] <;> rfl
    have hlt := ht.loadOn hl
    obtain ⟨hnow, -, hst, hbusy, hdone⟩ := ht.engine
    refine ⟨_, he, fun hok => ?_, fun code detail hno => ?_⟩
    · rw [hok]
      cases port with
      | slave =>
        obtain ⟨hc, h5, ho⟩ := acceptHeader_slave t h m
        refine ⟨?_, ho, fun _ => ⟨h5, ?_, ?_, ?_⟩, fun hs => absurd rfl hs⟩
        · rw [State.loadOn, hc]
        · rw [hc]
        · rw [hc]
        · rw [hc]
      | icp b =>
        obtain ⟨h1, h2, h3, ho⟩ := acceptHeader_icp (h := h) (m := m) hlt
        have hm : m.byMgc = l.byMgc := by rw [ht.load]
        exact ⟨h1, ho, fun hs => absurd hs (by simp), fun _ => ⟨h2, by rw [← hm]; exact h3⟩⟩
    · rw [hno]
      cases port with
      | slave =>
        obtain ⟨h1, h2, h3, h4, h5, ho⟩ := refuseHeader_slave t h code detail
        exact ⟨h1, ho, fun _ => ⟨h2, h3, h4, h5⟩, fun b hb => absurd hb (by simp)⟩
      | icp b =>
        obtain ⟨hc, ho⟩ := refuseHeader_icp t b h code detail
        refine ⟨(loadOn_congr hc _).trans (loadOn_icpFreed ..), ho, fun hs => absurd hs (by simp), fun b' hb => ?_⟩
        cases hb
        dsimp only
        rw [hc, ← hst, ← hbusy, ← hdone, ← hnow]
        exact ⟨rfl, rfl, rfl⟩
  case frame =>
    intro s t port given ws contends l m hl hg hend hwr hr ht
    have he : exec (.bitstreamFrame port given contends) s = .next (
        match frameFault t m ws contends with
        | some code => failLoad t port code (ws.getD 0 0)
        | none => writeFrame t port m ws) := by
      refine congrArg Host.Outcome.next ?_
      rw [takeLoadFrame, hl]
      dsimp only
      rw [if_neg (by simp [hg, hend, hr]; omega), takeWords_of_taken ht] <;> rfl
    have hlt := ht.loadOn hl
    obtain ⟨hnow, hfr, hst, hbusy, hdone⟩ := ht.engine
    have hm := ht.load
    have hmg : m.got ≠ 0 := by rw [hm]; exact hg
    have hmw : m.written = l.written := by rw [hm]
    have hmp : m.panel = l.panel := by rw [hm]
    have hmb : m.bsid = l.bsid := by rw [hm]
    refine ⟨_, he, fun hok => ?_, fun code hno => ?_⟩
    · rw [hok]
      obtain ⟨x, hx, h1, h2, h3, h4, h5, h6⟩ := writeFrame_spec (m := m) (ws := ws) hlt
      exact ⟨⟨x, hx, by rw [h1, hmw], h2, h3.trans hmp, h4.trans hmb⟩, by rw [h5, hfr], h6⟩
    · rw [hno]
      cases port with
      | slave =>
        obtain ⟨h1, h2, h3, h4, h5, h6, h7⟩ := failFull_spec t code (ws.getD 0 0)
        dsimp only
        rw [failLoad_slave]
        refine ⟨h1, h2.trans hfr, fun _ => ⟨h3, h4, h5, h6, h7, fun p hp => ?_⟩, fun b hb => absurd hb (by simp)⟩
        cases p <;> simp at hp ⊢
      | icp b =>
        obtain ⟨hc, hp⟩ := failPartial_spec (code := code) (addr := ws.getD 0 0) hlt hmg
        dsimp only
        rw [failLoad_icp]
        refine ⟨(loadOn_congr hc _).trans (loadOn_icpFreed ..), by rw [hc, ← hfr]; rfl, fun hs => absurd hs (by simp),
          fun b' hb => ?_⟩
        cases hb
        refine ⟨by rw [hc, ← hst]; rfl, fun p hp => ?_, fun h64 => ?_⟩
        · cases p <;> simp at hp ⊢
        · rw [← hmp] at h64 ⊢
          exact hp h64
  case short =>
    intro s b given contends l hl hg hend hwr hm hr hlen h64
    have he : exec (.bitstreamFrame (.icp b) given contends) s = .next (failPartial s b cfEarlyEnd 0) := by
      obtain ⟨k, hk⟩ := Option.isSome_iff_exists.mp hm
      refine congrArg Host.Outcome.next ?_
      rw [takeLoadFrame, hl]
      dsimp only
      rw [if_neg (by simp [hg, hend, hr]; omega), takeWords, hk]
      exact if_pos hlen
    obtain ⟨hc, hp⟩ := failPartial_spec (code := cfEarlyEnd) (addr := 0) hl hg
    refine ⟨_, he, (loadOn_congr hc _).trans (loadOn_icpFreed ..), by rw [hc]; rfl, (hp h64).1, fun p hp => ?_⟩
    cases p <;> simp at hp ⊢

end Sys2Proof.Machine
end

section
/-! The end of a load: the end word, the end checks, an early end and seam training (R147 to R155, R160 to R166, R188;
obligation O23). -/

namespace Sys2Proof.Machine

variable {s t : State} {port : LoadPort} {l m : Load} {n i a : Nat} {b : Fin 4}

/-! ### Waiting for the start instant -/

theorem cfgState_raise (s : State) {n unit : Nat} {b : List Byte} (hn : n < 4096) : (s.raise n unit b).cfgState = s.cfgState :=
  num_raise hn _ _ (by decide) (.inl (by decide))

theorem waitForStart_early (hl : s.cfg.load = some l)
    (h : s.cfg.endOk = false ∨ s.cfg.seamTrained = false ∨ s.cfgState ≠ csChecking) : waitForStart s = s := by
  rw [waitForStart, hl]
  refine if_pos ?_
  rcases h with h | h | h <;> simp [h]

/-- A checked load whose seams are trained waits for its start instant (R154, R155). -/
theorem waitForStart_ready (hl : s.cfg.load = some l) (he : s.cfg.endOk = true) (ht : s.cfg.seamTrained = true)
    (hs : s.cfgState = csChecking) : (waitForStart s).cfgState = csWaitTick ∧
    (waitForStart s).cfg = { s.cfg with
      checkedAt := s.now, startTick := none, startAt := if l.w3 % 2 = 1 then some (s.now + 1000) else none } := by
  obtain ⟨v, hv⟩ : ∃ v : State, v = putCfg { s with cfg := { s.cfg with
    checkedAt := s.now, startTick := none, startAt := if l.w3 % 2 = 1 then some (s.now + 1000) else none } } csWaitTick := ⟨_,
      rfl⟩
  have hw : waitForStart s = v ∨ waitForStart s = v.raise 0xD05 0 := by
    rw [waitForStart, hl]
    dsimp only
    rw [if_neg (by simp [he, ht, hs]), ← hv]
    split
    · exact .inl rfl
    · exact .inr rfl
  have hvs : v.cfgState = csWaitTick := hv ▸ num_put_self ..
  have hvc : v.cfg = { s.cfg with
    checkedAt := s.now, startTick := none, startAt := if l.w3 % 2 = 1 then some (s.now + 1000) else none } := by rw [hv]; rfl
  rcases hw with h | h
  · rw [h]
    exact ⟨hvs, hvc⟩
  · rw [h]
    exact ⟨(cfgState_raise v (by decide)).trans hvs, by rw [← hvc]; simp⟩

theorem waitForStart_cases (s : State) : waitForStart s = s ∨ ∃ c,
    waitForStart s = putCfg { s with cfg := c } csWaitTick ∨ waitForStart s = (putCfg { s with cfg := c } csWaitTick).raise 0xD05 0 := by
  unfold waitForStart
  split
  case h_1 => exact .inl rfl
  case h_2 l hl =>
    split
    case isTrue => exact .inl rfl
    case isFalse =>
      refine .inr ⟨{ s.cfg with
        checkedAt := s.now, startTick := none, startAt := if l.w3 % 2 = 1 then some (s.now + 1000) else none }, ?_⟩
      exact ite_eq_or_eq _ _ _

theorem entriesOutside_waitForStart (s : State) : EntriesOutside ((0x0C0000, 0x0C0000) :: eventRanges) s (waitForStart s) := by
  have hp : ∀ c : CfgEngine, EntriesOutside ((0x0C0000, 0x0C0000) :: eventRanges) s (putCfg { s with cfg := c } csWaitTick) :=
    fun c => EntriesOutside.trans (.of_cat rfl) (entriesOutside_put _ _ _ _ (by decide) ⟨_, .head _, le_rfl, le_rfl⟩)
  rcases waitForStart_cases s with h | ⟨c, h | h⟩
  · rw [h]
    exact .refl _ _
  · rw [h]
    exact hp c
  · rw [h]
    exact (hp c).trans ((entriesOutside_raise _ _ _ _ (by decide)).mono (List.subset_cons_self ..))

/-! ### A panel verified -/

/-- A panel load passes its end checks (R165, R166). -/
theorem verifyPanel_spec (s : State) (b : Fin 4) (l : Load) (hp : l.panel < 64) :
    (verifyPanel s b l).cfg = (s.icpFreed b stOk).cfg ∧
    ((verifyPanel s b l).panel l.panel = pnVerified ∨ (verifyPanel s b l).panel l.panel = pnPending) ∧
    (s.num (panelIdx l.panel) 4 ≠ 0 → (verifyPanel s b l).panel l.panel = pnVerified ∧ (verifyPanel s b l).ruling = s.ruling) ∧
    (verifyPanel s b l).num (panelIdx l.panel) 2 = l.bsid ∧ Raised s (verifyPanel s b l) 0xD11 := by
  have hlow : panelIdx l.panel < 0x0E0000 := by unfold panelIdx; omega
  have hne : panelIdx l.panel ≠ 0x0E1000 + 0xD11 := by omega
  obtain ⟨v, hv⟩ : ∃ v : State,
    v = ((putPanel s l.panel pnVerified).put (panelIdx l.panel) 2 l.bsid).put (panelIdx l.panel) 7 0 :=
    ⟨_, rfl⟩
  obtain ⟨w, hw⟩ : ∃ w : State, w = endIcp (v.raise 0xD11 b (be 1 l.panel ++ be 8 l.bsid)) b stOk 0 := ⟨_, rfl⟩
  have he : verifyPanel s b l =
      if w.num (panelIdx l.panel) 4 = 0 then
        match requestTask w .hem l.panel with
        | some t => putPanel t l.panel pnPending
        | none => w
      else w := by
    rw [verifyPanel, ← hv, ← hw] <;>
      (generalize requestTask w .hem l.panel = q; clear hv hw; rfl)
  obtain ⟨hc, hn, hev⟩ := endIcp_spec (v.raise 0xD11 b (be 1 l.panel ++ be 8 l.bsid)) b stOk 0
  rw [← hw] at hc hn hev
  have hwn : ∀ a, a < 256 → w.num (panelIdx l.panel) a = v.num (panelIdx l.panel) a := fun a ha =>
    (hn _ _ hlow ha).trans (num_raise (by decide) _ _ ha (.inl hlow))
  have hw1 : w.panel l.panel = pnVerified := by
    rw [State.panel, hwn 1 (by decide), hv]
    exact (num_put_of_apart (by decide) (by decide) (.inr (by decide)) (.inr (.inr (.inl (by decide))))).trans
      ((num_put_of_apart (by decide) (by decide) (.inr (by decide)) (.inr (.inl (by decide)))).trans (num_put_self ..))
  have hw2 : w.num (panelIdx l.panel) 2 = l.bsid := by
    rw [hwn 2 (by decide), hv]
    exact (num_put_of_apart (by decide) (by decide) (.inr (by decide)) (.inr (.inr (.inl (by decide))))).trans (num_put_self ..)
  have hw4 : w.num (panelIdx l.panel) 4 = s.num (panelIdx l.panel) 4 := by
    rw [hwn 4 (by decide), hv]
    exact (num_put_of_apart (by decide) (by decide) (.inr (by decide)) (.inr (.inr (.inl (by decide))))).trans
      ((num_put_of_apart (by decide) (by decide) (.inr (by decide)) (.inr (.inl (by decide)))).trans
        (num_put_of_apart (by decide) (by decide) (.inr (by decide)) (.inr (.inl (by decide)))))
  have hwr : Raised s w 0xD11 := by
    have hvn : v.num (0x0E1000 + 0xD11) 7 = s.num (0x0E1000 + 0xD11) 7 := by
      rw [hv, num_put_ne _ _ _ _ _ _ (by decide) (by decide) hne, num_put_ne _ _ _ _ _ _ (by decide) (by decide) hne]
      exact num_put_ne _ _ _ _ _ _ (by decide) (by decide) hne
    exact (hev _ (by decide) (by decide) (by decide)).trans (raised_after (by decide) hvn)
  have hwc : w.cfg = (s.icpFreed b stOk).cfg := by
    have h1 : (v.raise 0xD11 b (be 1 l.panel ++ be 8 l.bsid)).cfg = s.cfg ∧
        (v.raise 0xD11 b (be 1 l.panel ++ be 8 l.bsid)).now = s.now := by
      rw [hv]
      constructor <;> simp
    rw [hc, State.icpFreed, State.icpFreed, h1.1, h1.2]
  have hwru : w.ruling = s.ruling := by
    rw [hw, hv]
    simp
  rw [he]
  clear he hw hv
  split
  case isFalse h4 => exact ⟨hwc, .inl hw1, fun _ => ⟨hw1, hwru⟩, hw2, hwr⟩
  case isTrue h4 =>
    have hno : ¬s.num (panelIdx l.panel) 4 ≠ 0 := by rw [← hw4]; exact not_not.mpr h4
    split
    case h_2 => exact ⟨hwc, .inl hw1, fun h => absurd h hno, hw2, hwr⟩
    case h_1 t ht =>
      obtain ⟨x, hx⟩ : ∃ x, t = { w with ruling := x } := by
        unfold requestTask at ht
        split at ht
        · exact absurd ht (by simp)
        · exact ⟨_, (Option.some_inj.mp ht).symm⟩
      have htn : ∀ i a, t.num i a = w.num i a := by
        rw [hx]
        exact num_with_ruling w x
      refine ⟨?_, .inr (num_put_self ..), fun h => absurd h hno, ?_, ?_⟩
      · rw [← hwc, hx]
        rfl
      · exact (num_put_of_apart (by decide) (by decide) (.inr (by decide)) (.inr (.inl (by decide)))).trans ((htn ..).trans hw2)
      · exact ((num_put_ne _ _ _ _ _ _ (by decide) (by decide) hne).trans (htn ..)).trans hwr

/-! ### Seam training -/

theorem cfgState_trainedChannel (s : State) {c : Nat} (failed : List Nat) (hc : c < 256) :
    (trainedChannel s c failed).cfgState = s.cfgState := by
  have hne : chIdx c ≠ 0x0C0000 := by unfold chIdx; omega
  have hput : ∀ st, (s.putCh c st).num 0x0C0000 1 = s.num 0x0C0000 1 := fun st =>
    num_put_ne _ _ _ _ _ _ (by decide) (by decide) hne
  have hshow : ∀ s,
    (showChannel s c).num 0x0C0000 1 = s.num 0x0C0000 1 := fun s => num_showChannel s (by decide) (.inl hne.symm) hc
  unfold trainedChannel State.cfgState
  extract_lets x
  split
  · rw [hshow]
    exact hput _
  · split
    · rw [hshow]
      exact (cfgState_raise _ (by decide)).trans (hput _)
    · exact (cfgState_raise _ (by decide)).trans ((hshow _).trans (hput _))

/-- Training of every channel leaves the engine's state, and marks the seams (R188). -/
theorem trainingComplete_spec (s : State) (failed : List (Nat × Nat)) :
    (trainingComplete s failed).cfg = { s.cfg with seamTrained := true } ∧ (trainingComplete s failed).cfgState = s.cfgState := by
  obtain ⟨v, hv⟩ : ∃ v : State, v = (List.range 256).foldl (fun s c =>
      trainedChannel s c (((failed.filter fun p => p.1 = c).map (·.2)).dedup)) s := ⟨_, rfl⟩
  have hc : v.cfg = s.cfg := by
    rw [hv]
    exact foldl_keeps State.cfg (fun s c _ => by simp) s
  have hs : v.cfgState = s.cfgState := by
    rw [hv]
    exact foldl_keeps State.cfgState (fun s c hc => cfgState_trainedChannel s _ (List.mem_range.mp hc)) s
  have he : trainingComplete s failed = { v with cfg := { v.cfg with seamTrained := true } } := by
    rw [hv]
    rfl
  rw [he]
  clear he hv
  refine ⟨?_, (num_with_cfg rfl _ _).trans hs⟩
  rw [← hc]

/-! ### A panel's design loaded -/

theorem Taken.compiled (h : Taken s port l n given words t m) : t.cfg.compiled = s.cfg.compiled := by
  rcases h with ⟨-, -, -, rfl, rfl⟩ | ⟨-, -, -, rfl, -⟩
  · rfl
  · cases port <;> simp [State.setLoad]

/-- Loading a panel's design does not see the loads. -/
theorem loadPanel_setLoad (s : State) (port : LoadPort) (x : Option Load) (d : PanelDef) (c : Compiled) :
    (loadPanel (s.setLoad port x) d c).loadOn port = (s.setLoad port x).loadOn port ∧
    (loadPanel (s.setLoad port x) d c).fab = (loadPanel s d c).fab ∧
    (loadPanel (s.setLoad port x) d c).cfg.compiled = (loadPanel s d c).cfg.compiled := by
  cases port <;> exact ⟨rfl, rfl, rfl⟩

theorem panelDef_setLoad (s : State) (port : LoadPort) (x : Option Load) (p : Nat) :
    panelDef (s.setLoad port x) p = panelDef s p := by
  cases port <;> rfl

theorem selN_failFull (s : State) (code addr : Nat) : (failFull s code addr).cfg.selN = s.cfg.selN := by
  obtain ⟨v, hv⟩ : ∃ v, v = unconfigure (s.setLoad .slave none) := ⟨_, rfl⟩
  have hvn : v.cfg.selN = s.cfg.selN := by
    rw [hv, selN_unconfigure]
    rfl
  have he : (failFull s code addr).cfg = { v.cfg with errorN := false } := by
    rw [hv]
    simp [failFull]
  rw [he]
  exact hvn

/-- A panel load of the design's own failed at any point (R153, R161). -/
theorem failPartial_design (code addr : Nat) (hl : s.loadOn (.icp b) = some l) (hm : l.byMgc = none) :
    (failPartial s b code addr).cfg = (s.icpFreed b code).cfg ∧ Outside [.cat, .mgmt, .cfg] s (failPartial s b code addr) ∧
    (l.got ≠ 0 → l.panel < 64 → (failPartial s b code addr).panel l.panel = pnIncomplete) := by
  have hend : ∀ v : State, v.cfg = s.cfg → endIcp v b code addr = v.icpFreed b code := fun v hv => by
    have hop : ((v.cfg.icp[b.val]?).join).bind (fun l => l.byMgc) = none := by
      rw [hv, show (s.cfg.icp[b.val]?).join = some l from hl]
      exact hm
    rw [endIcp, hop]
    rfl
  have hfree : ∀ v : State, Outside [.cfg] v (v.icpFreed b code) := fun v => outside_with_cfg v _
  by_cases hg : l.got = 0
  · have he : failPartial s b code addr = s.icpFreed b code := by
      rw [failPartial, hl]
      dsimp only
      rw [if_pos hg, hend s rfl]
    rw [he]
    exact ⟨rfl, (hfree s).mono (by decide), fun h => absurd hg h⟩
  · obtain ⟨hc, hp⟩ := failPartial_spec (code := code) (addr := addr) hl hg
    refine ⟨hc, ?_, fun _ h64 => (hp h64).1⟩
    obtain ⟨v, hv⟩ : ∃ v : State,
      v = (((putPanel s l.panel pnIncomplete).put (panelIdx l.panel) 2 0).put (panelIdx l.panel) 7 code).raise
      0xD13 b (be 1 l.panel ++ be 2 code ++ be 4 addr) := ⟨_, rfl⟩
    have he : failPartial s b code addr = v.icpFreed b code := by
      rw [failPartial, hl]
      dsimp only
      rw [if_neg hg, ← hv, hend v (by rw [hv]; simp)]
    have hvo : Outside [.cat, .mgmt, .cfg] s v := by
      rw [hv]
      intro p hp
      cases p <;> simp at hp ⊢
    rw [he]
    exact hvo.andThen (hfree v) (by decide)

/-- Settles O23: each end of a load in the place that decides it. -/
theorem loadsEndVerifiedOrInError : Obligations.LoadsEndVerifiedOrInError := by
  unfold Obligations.LoadsEndVerifiedOrInError
  refine ⟨?word, ?full, ?panel, ?early, ?earlyIcp, ?mgc, ?seams⟩
  case word =>
    intro s t port given trailer design d l m hl hg hend hwr hr ht hlast hd
    have hlt := ht.loadOn hl
    obtain ⟨hnow, -, -, -, -⟩ := ht.engine
    have hm := ht.load
    have hd' : d = (if m.tableWords = 0 then { design with users := [] } else design) := by rw [hm]; exact hd
    have hmw : m.words = l.words := by rw [hm]
    have hmp : m.panel = l.panel := by rw [hm]
    obtain ⟨x, hx⟩ : ∃ x : Load, x = { m with endAt := some s.now, words := l.words ++ trailer, design := d } := ⟨_, rfl⟩
    have he : exec (.endWord port given design) s = .next (
        match port with
        | .icp _ => loadPanel (t.setLoad port (some x)) ((panelDef (t.setLoad port (some x)) m.panel).getD {}) d
        | .slave => putCfg (t.setLoad port (some x)) csChecking) := by
      refine congrArg Host.Outcome.next ?_
      rw [takeEnd, hl]
      dsimp only
      rw [if_neg (by simp [hg, hend, hwr, hr]), takeWords_of_taken ht, if_neg (not_not.mpr hlast), hnow, hmw, ← hd', hx]
      cases port <;> rfl
    have hxl : (t.setLoad port (some x)).loadOn port = some x := loadOn_setLoad hlt
    rw [← hx]
    refine ⟨_, he, ?_⟩
    cases port with
    | slave =>
      refine ⟨hxl, fun _ => ⟨num_put_self .., ht.compiled, ?_, ?_⟩, fun h => absurd rfl h⟩
      · exact ((outside_setLoad t .slave (some x)).mono (by decide)).andThen (outside_put _ _ _ _) (by decide)
      · exact EntriesOutside.trans (t := t.setLoad .slave (some x)) (.of_cat rfl)
          (entriesOutside_put _ _ _ _ (by decide) ⟨_, .head _, le_rfl, le_rfl⟩)
    | icp b =>
      dsimp only
      rw [panelDef_setLoad, hmp]
      obtain ⟨h1, h2, h3⟩ := loadPanel_setLoad t (.icp b) (some x) ((panelDef t l.panel).getD {}) d
      refine ⟨h1.trans hxl, fun h => absurd h (by simp), fun _ => ⟨?_, h2, h3⟩⟩
      refine ((outside_setLoad t (.icp b) (some x)).mono (by decide)).trans fun p hp => ?_
      cases p <;> simp at hp ⊢
  case full =>
    intro s l hl hend hok hr
    have he : exec (.endChecksDone .slave) s = .next (
        match endFault s l with
        | some code => failFull s code 0
        | none => waitForStart { s with cfg := { s.cfg with endOk := true } }) := by
      refine congrArg Host.Outcome.next ?_
      rw [endChecks, hl]
      dsimp only
      rw [if_neg (by
        obtain ⟨x, hx⟩ := Option.isSome_iff_exists.mp hend
        simp [hx, hok, hr])]
      rfl
    have hcl : s.cfg.load = some l := hl
    refine ⟨_, he, fun hf => ?_, fun code hf => ?_⟩
    · rw [hf]
      dsimp only
      have hso := outside_with_cfg s { s.cfg with endOk := true }
      have hst : ({ s with cfg := { s.cfg with endOk := true } } : State).cfgState = s.cfgState := num_with_cfg rfl _ _
      have hvl : ({ s with cfg := { s.cfg with endOk := true } } : State).cfg = { s.cfg with endOk := true } := rfl
      have hvn : ({ s with cfg := { s.cfg with endOk := true } } : State).now = s.now := rfl
      have hve : EntriesOutside ((0x0C0000, 0x0C0000) :: eventRanges) s { s with cfg := { s.cfg with endOk := true } } := .of_cat rfl
      generalize ({ s with cfg := { s.cfg with endOk := true } } : State) = v at *
      have hvL : v.cfg.load = some l := by rw [hvl]; exact hcl
      have hall : (waitForStart v).cfg.endOk = true ∧ (waitForStart v).cfg.load = some l ∧ (s.cfg.seamTrained = true →
          s.cfgState = csChecking → (waitForStart v).cfgState = csWaitTick ∧
            (waitForStart v).cfg.startAt = if l.w3 % 2 = 1 then some (s.now + 1000) else none) := by
        by_cases hready : s.cfg.seamTrained = true ∧ s.cfgState = csChecking
        · obtain ⟨h1, h2⟩ := waitForStart_ready hvL (by rw [hvl]) (by rw [hvl]; exact hready.1) (hst.trans hready.2)
          rw [h2]
          refine ⟨by rw [hvl], by rw [hvl]; exact hcl, fun _ _ => ⟨h1, by rw [hvn]⟩⟩
        · rw [waitForStart_early hvL (by
            rw [hvl, hst]
            by_cases ht : s.cfg.seamTrained = true
            · exact .inr (.inr fun hc => hready ⟨ht, hc⟩)
            · exact .inr (.inl (by simpa using ht)))]
          exact ⟨by rw [hvl], hvL, fun h1 h2 => absurd ⟨h1, h2⟩ hready⟩
      obtain ⟨h1, h2, h3⟩ := hall
      refine ⟨h1, h2, h3, (hso.mono (by decide)).trans fun p hp => ?_, hve.trans (entriesOutside_waitForStart v)⟩
      cases p <;> simp at hp ⊢
    · rw [hf]
      dsimp only
      obtain ⟨h1, -, h2, h3, -, h4, h5⟩ := failFull_spec s code 0
      refine ⟨h2, h3, h1, h4, h5, fun p hp => ?_⟩
      cases p <;> simp at hp ⊢
  case panel =>
    intro s b l hl hend hg hp hr
    have he : exec (.endChecksDone (.icp b)) s = .next (
        match endFault s l with
        | some code => failPartial s b code 0
        | none => verifyPanel s b l) := by
      refine congrArg Host.Outcome.next ?_
      rw [endChecks, hl]
      dsimp only
      rw [if_neg (by
        obtain ⟨x, hx⟩ := Option.isSome_iff_exists.mp hend
        simp [hx, hr])]
      rfl
    obtain ⟨hvc, hv1, hv4, hv2, hvr⟩ := verifyPanel_spec s b l hp
    refine ⟨_, he, ?_, fun hf => ?_, fun code hf => ?_⟩
    · split
      case h_1 code _ =>
        obtain ⟨hc, -⟩ := failPartial_spec (code := code) (addr := 0) hl hg
        rw [loadOn_congr hc, loadOn_icpFreed]
      case h_2 => exact (loadOn_congr hvc _).trans (loadOn_icpFreed ..)
    · rw [hf]
      exact ⟨hv1, hv4, hv2, by dsimp only; rw [hvc]; rfl, hvr⟩
    · rw [hf]
      obtain ⟨hc, hfp⟩ := failPartial_spec (code := code) (addr := 0) hl hg
      obtain ⟨h1, h2, h3⟩ := hfp hp
      exact ⟨h1, h2, by dsimp only; rw [hc]; rfl, h3⟩
  case early =>
    intro s l hl hend hm
    have hl' : ({ s with cfg := { s.cfg with selN := true } } : State).loadOn .slave = some l := hl
    have he : exec (.earlyEnd .slave) s = .next (failFull { s with cfg := { s.cfg with selN := true } } cfEarlyEnd 0) := by
      refine congrArg Host.Outcome.next ?_
      rw [endEarly]
      dsimp only
      rw [hl']
      dsimp only
      rw [if_neg (by simp [hend, hm]), failLoad_slave]
    have hso := outside_with_cfg s { s.cfg with selN := true }
    have hsn : ({ s with cfg := { s.cfg with selN := true } } : State).num (0x0E1000 + 0xD03) 7 = s.num (0x0E1000 + 0xD03) 7 :=
      num_with_cfg rfl _ _
    have hsf : ({ s with cfg := { s.cfg with selN := true } } : State).cfg.frames = s.cfg.frames := rfl
    have hss : ({ s with cfg := { s.cfg with selN := true } } : State).cfg.selN = true := rfl
    generalize ({ s with cfg := { s.cfg with selN := true } } : State) = v at *
    obtain ⟨h1, h2, h3, h4, -, h5, h6⟩ := failFull_spec v cfEarlyEnd 0
    refine ⟨_, he, (selN_failFull ..).trans hss, h1, h3, h4, h5, h2.trans hsf, h6.trans (by rw [hsn]),
      (hso.mono (by decide)).trans fun p hp => ?_⟩
    cases p <;> simp at hp ⊢
  case earlyIcp =>
    intro s b l hl hend hm
    have he : exec (.earlyEnd (.icp b)) s = .next (failPartial s b cfEarlyEnd 0) := by
      refine congrArg Host.Outcome.next ?_
      rw [endEarly, hl]
      dsimp only
      rw [if_neg (by simp [hend, hm]), failLoad_icp]
    obtain ⟨hc, ho, hp⟩ := failPartial_design cfEarlyEnd 0 hl hm
    exact ⟨_, he, (loadOn_congr hc _).trans (loadOn_icpFreed ..), by rw [hc]; rfl, fun hg h64 => hp hg h64, ho⟩
  case mgc =>
    intro s b l hl hm
    refine congrArg Host.Outcome.next ?_
    rw [endEarly, hl]
    exact if_pos (.inr hm)
  case seams =>
    intro s failed l hl hg ht hst
    obtain ⟨hc, hs⟩ := trainingComplete_spec s (failed.map fun p => (p.1.val, p.2.val))
    have he : exec (.seamTrainingComplete failed) s =
        .next (waitForStart (trainingComplete s (failed.map fun p => (p.1.val, p.2.val)))) := by
      refine congrArg Host.Outcome.next ?_
      rw [hl]
      exact if_pos ⟨hg, by rw [ht]; rfl, hst⟩
    have ho : Outside [.cat, .mgmt, .cfg, .seams] s (trainingComplete s (failed.map fun p => (p.1.val, p.2.val))) := by
      intro p hp
      cases p <;> simp at hp ⊢
    generalize trainingComplete s (failed.map fun p => (p.1.val, p.2.val)) = v at *
    have hvl : v.cfg.load = some l := by rw [hc]; exact hl
    have hvt : v.cfg.seamTrained = true := by rw [hc]
    have hvo : v.cfg.endOk = s.cfg.endOk := by rw [hc]
    refine ⟨_, he, ?_⟩
    have hall : (waitForStart v).cfg.seamTrained = true ∧ (waitForStart v).cfg.load = some l ∧
        (s.cfg.endOk = true → s.cfgState = csChecking → (waitForStart v).cfgState = csWaitTick) ∧
        (s.cfg.endOk = false → (waitForStart v).cfgState = s.cfgState) := by
      by_cases hready : s.cfg.endOk = true ∧ s.cfgState = csChecking
      · obtain ⟨h1, h2⟩ := waitForStart_ready hvl (hvo.trans hready.1) hvt (hs.trans hready.2)
        rw [h2]
        exact ⟨hvt, hvl, fun _ _ => h1, fun h => absurd (hready.1.symm.trans h) (by decide)⟩
      · rw [waitForStart_early hvl (by
          rw [hvo, hs]
          by_cases hok : s.cfg.endOk = true
          · exact .inr (.inr fun hc => hready ⟨hok, hc⟩)
          · exact .inl (by simpa using hok))]
        exact ⟨hvt, hvl, fun h1 h2 => absurd ⟨h1, h2⟩ hready, fun _ => hs⟩
    obtain ⟨h1, h2, h3, h4⟩ := hall
    refine ⟨h1, h2, h3, h4, ho.trans fun p hp => ?_⟩
    cases p <;> simp at hp ⊢

end Sys2Proof.Machine
end

section
/-! The start-up sequence (R143, R156, R169, R172; obligation O24). -/

namespace Sys2Proof.Machine

variable {s t : State} {l : Load} {n phase offset : Nat}

theorem startStep_eq {f : State → Load → State} (ht : s.cfg.startAt = some n) (hl : s.cfg.load = some l)
    (hs : s.cfgState = csWaitTick) (hp : s.cfg.startPhase = phase) :
    startStep s phase offset f = f (s.waitUntil (n + offset)) l := by
  rw [startStep, ht, hl]
  exact if_pos ⟨hs, hp⟩

theorem cfg_outcome (s : State) (i a : Nat) (b : List Byte) : (s.outcome i a b).cfg = s.cfg := by
  unfold State.outcome
  split <;> rfl

theorem cfg_startUp (s : State) (l : Load) : (startUp s l).cfg =
    { s.cfg with startPhase := 1, clocksGated := false, mch := l.mch, compiled := l.design } := by
  unfold startUp
  extract_lets d c v w x y m z a e
  have hv : v.cfg = { s.cfg with startPhase := 1, clocksGated := false, mch := l.mch, compiled := l.design } := rfl
  have hw : w.cfg = v.cfg := rfl
  have hx : x.cfg = w.cfg := by simp only [x, startPins_frame, startClocks_frame]
  have hy : y.cfg = x.cfg := by
    simp only [y]
    exact foldl_keeps State.cfg (fun s l _ => by simp) x
  have hm : m.1.cfg = y.cfg := by simp only [m, startMemory_frame]
  have hz : z.cfg = m.1.cfg := by simp only [z, startSlots_frame]
  have ha : a.cfg = z.cfg := cfg_outcome ..
  have he : e.cfg = a.cfg := foldl_keeps State.cfg (fun s j _ => by simp only [putNi_frame]) a
  rw [← hv, ← hw, ← hx, ← hy, ← hm, ← hz, ← ha, ← he]
  clear_value e
  simp only [rawLanes_frame, holdAtStart_frame]

theorem cfg_waitUntil (s : State) (n : Nat) : (s.waitUntil n).cfg = s.cfg := (outside_waitUntil s n).cfg (by decide)

/-- Another sub-index of the index put. -/
theorem num_put_sub {a b : Nat} (s : State) (i x : Nat) (ha : a < 256) (hb : b < 256) (h : a ≠ b) (h' : a < 4 ∨ 6 < a) :
    (s.put i a x).num i b = s.num i b :=
  num_put_of_apart ha hb (.inr h) (.inr (h'.imp_right .inl))

/-- A panel of the design as start-up leaves it (R172). -/
def State.panelStarted (s : State) (p : Nat × PanelDef) : State :=
  (((putPanel s p.1 pnActive).put (panelIdx p.1) 2 0).put (panelIdx p.1) 3 p.2.frames.length).put (panelIdx p.1) 8 0

theorem panel_panelStarted_self (s : State) (p : Nat × PanelDef) : (s.panelStarted p).panel p.1 = pnActive := by
  unfold State.panelStarted putPanel State.panel
  simp (disch := decide) only [num_put_sub, num_put_self]

theorem num_panelStarted {i a : Nat} (s : State) (p : Nat × PanelDef) (ha : a < 256) (h : panelIdx p.1 ≠ i) :
    (s.panelStarted p).num i a = s.num i a := by
  unfold State.panelStarted putPanel
  rw [num_put_ne _ _ _ _ _ _ (by decide) ha h, num_put_ne _ _ _ _ _ _ (by decide) ha h,
    num_put_ne _ _ _ _ _ _ (by decide) ha h, num_put_ne _ _ _ _ _ _ (by decide) ha h]

/-- A started panel's entries leave the counts of events. -/
theorem num_panelStarted_seven (s : State) (p : Nat × PanelDef) (i : Nat) : (s.panelStarted p).num i 7 = s.num i 7 := by
  by_cases h : panelIdx p.1 = i
  · unfold State.panelStarted putPanel
    rw [h]
    simp (disch := decide) only [num_put_sub]
  · exact num_panelStarted s p (by decide) h

/-- The engine as it begins to run a design, before its panels (R80, R143). -/
def State.designRuns (s : State) (l : Load) : State :=
  let d := s.cfg.compiled
  let vals := ((s.cap.userStore.find? fun x => x.1 = l.bsid).map (·.2)).getD []
  let queue := restoreList d vals
  let s := putCfg { s with
      cfg := { s.cfg with done := true, startPhase := 4, load := none },
      cap := { s.cap with
        users := d.users
        userVals := vals
        bridge := if s.cap.bridge.isNone then queue.head?.map fun r => { r with since := s.now } else s.cap.bridge
        bridgeQueue := s.cap.bridgeQueue ++ (if s.cap.bridge.isNone then queue.tail else queue)
        restoring := !queue.isEmpty } } csRunning
  (s.put 0x0C0000 4 l.bsid).put 0x0C0000 8 l.w3

theorem runDesign_eq (s : State) (l : Load) : runDesign s l =
    (s.cfg.compiled.panels.foldl State.panelStarted (s.designRuns l)).raise 0xD01 0
      (be 8 l.bsid ++ be 8 ((s.cfg.compiled.panels.foldl State.panelStarted (s.designRuns l)).num 0x0C0000 7)) := rfl

theorem designRuns_spec (s : State) (l : Load) : (s.designRuns l).cfgState = csRunning ∧
    (s.designRuns l).num 0x0C0000 4 = l.bsid ∧
    (s.designRuns l).num 0x0C0000 8 = l.w3 ∧ (s.designRuns l).cfg = { s.cfg with done := true, startPhase := 4, load := none } ∧
    (s.designRuns l).cap.users = s.cfg.compiled.users ∧ Outside [.cat, .cap, .cfg] s (s.designRuns l) ∧
    ∀ e, e < 4096 → (s.designRuns l).num (0x0E1000 + e) 7 = s.num (0x0E1000 + e) 7 := by
  obtain ⟨c, hc, he⟩ : ∃ c : Cap, c.users = s.cfg.compiled.users ∧ s.designRuns l =
      ((putCfg { s with cfg := { s.cfg with done := true, startPhase := 4, load := none }, cap := c } csRunning).put
        0x0C0000 4 l.bsid).put 0x0C0000 8 l.w3 := ⟨_, rfl, rfl⟩
  rw [he]
  refine ⟨?_, ?_, num_put_self .., rfl, hc, fun p hp => ?_, fun e he => ?_⟩
  · exact (num_put_sub _ _ _ (by decide) (by decide) (by decide) (by decide)).trans
      ((num_put_of_apart (by decide) (by decide) (.inr (by decide)) (by decide)).trans (num_put_self ..))
  · exact (num_put_sub _ _ _ (by decide) (by decide) (by decide) (by decide)).trans (num_put_self ..)
  · cases p <;> simp at hp ⊢
  · have hne : 0x0C0000 ≠ 0x0E1000 + e := by omega
    rw [num_put_ne _ _ _ _ _ _ (by decide) (by decide) hne, num_put_ne _ _ _ _ _ _ (by decide) (by decide) hne, putCfg,
      num_put_ne _ _ _ _ _ _ (by decide) (by decide) hne]
    exact num_event_of_cat he rfl

/-- Start-up completes (R77, R80, R143, R169, R172). -/
theorem runDesign_spec (s : State) (l : Load) : (runDesign s l).cfgState = csRunning ∧ (runDesign s l).num 0x0C0000 4 = l.bsid ∧
    (runDesign s l).num 0x0C0000 8 = l.w3 ∧ (runDesign s l).cfg = { s.cfg with done := true, startPhase := 4, load := none } ∧
    (runDesign s l).cap.users = s.cfg.compiled.users ∧
    (∀ p ∈ s.cfg.compiled.panels, p.1 < 64 → (runDesign s l).panel p.1 = pnActive) ∧ Raised s (runDesign s l) 0xD01 := by
  obtain ⟨h1, h4, h8, hc, hu, ho, hev⟩ := designRuns_spec s l
  rw [runDesign_eq]
  have hpanels : ∀ p ∈ s.cfg.compiled.panels,
    (s.cfg.compiled.panels.foldl State.panelStarted (s.designRuns l)).panel p.1 = pnActive := by
    have := foldl_establishes (P := fun (p : Nat × PanelDef) (s : State) => s.panel p.1 = pnActive) (f := State.panelStarted)
      (l := s.cfg.compiled.panels) (fun s p _ => panel_panelStarted_self s p) (fun s p _ q _ h => by
        by_cases hq : q.1 = p.1
        · rw [← hq]
          exact panel_panelStarted_self s q
        · exact (num_panelStarted s q (by decide) (by unfold panelIdx; omega)).trans h) (s.designRuns l)
    exact this
  have hlow : ∀ a, a < 256 → (s.cfg.compiled.panels.foldl State.panelStarted (s.designRuns l)).num 0x0C0000 a =
      (s.designRuns l).num 0x0C0000 a := fun a ha =>
    foldl_keeps (State.num · 0x0C0000 a) (fun s p _ => num_panelStarted s p ha (by unfold panelIdx; omega)) _
  have h7 : (s.cfg.compiled.panels.foldl State.panelStarted (s.designRuns l)).num (0x0E1000 + 0xD01) 7 =
      (s.designRuns l).num (0x0E1000 + 0xD01) 7 := foldl_keeps (State.num · (0x0E1000 + 0xD01) 7) (fun s p _ => num_panelStarted_seven s p _) _
  have hfc : (s.cfg.compiled.panels.foldl State.panelStarted (s.designRuns l)).cfg = (s.designRuns l).cfg ∧
      (s.cfg.compiled.panels.foldl State.panelStarted (s.designRuns l)).cap = (s.designRuns l).cap :=
    ⟨foldl_keeps State.cfg (fun s p _ => by simp [State.panelStarted]) _,
      foldl_keeps State.cap (fun s p _ => by simp [State.panelStarted]) _⟩
  generalize s.cfg.compiled.panels.foldl State.panelStarted (s.designRuns l) = v at *
  have hr : ∀ i a, i < 0x0E0000 → a < 256 → (v.raise 0xD01 0 (be 8 l.bsid ++ be 8 (v.num 0x0C0000 7))).num i a = v.num i a :=
    fun i a hi ha => num_raise (by decide) _ _ ha (.inl hi)
  refine ⟨?_, ?_, ?_, ?_, ?_, fun p hp h64 => ?_, raised_after (by decide) (h7.trans (hev _ (by decide)))⟩
  · exact (hr _ _ (by decide) (by decide)).trans ((hlow 1 (by decide)).trans h1)
  · exact (hr _ _ (by decide) (by decide)).trans ((hlow 4 (by decide)).trans h4)
  · exact (hr _ _ (by decide) (by decide)).trans ((hlow 8 (by decide)).trans h8)
  · rw [← hc, ← hfc.1]
    simp
  · rw [← hu, ← hfc.2]
    simp
  · exact (hr _ _ (by unfold panelIdx; omega) (by decide)).trans (hpanels p hp)

/-- Settles O24: the four steps of the start-up sequence, each at its offset from the start instant. -/
theorem startUpRunsTheDesign : Obligations.StartUpRunsTheDesign := by
  unfold Obligations.StartUpRunsTheDesign
  refine ⟨?start, ?lift, ?io, ?done⟩
  case start =>
    intro s t l ht hl hs hp
    refine ⟨_, congrArg Host.Outcome.next (startStep_eq ht hl hs hp), ?_⟩
    have hwo := outside_waitUntil s (t + 0)
    have hwn := now_waitUntil_max s (t + 0)
    have hwc := cfg_waitUntil s (t + 0)
    generalize s.waitUntil (t + 0) = w at *
    dsimp only
    rw [cfg_startUp, hwc]
    refine ⟨by simp [hwn], rfl, rfl, rfl, rfl, rfl, (hwo.mono (by decide)).trans fun p hp => ?_⟩
    cases p <;> simp at hp ⊢
  case lift =>
    intro s t l ht hl hs hp
    refine ⟨_, congrArg Host.Outcome.next (startStep_eq ht hl hs hp), ?_⟩
    have hwo := outside_waitUntil s (t + 64)
    have hwn := now_waitUntil_max s (t + 64)
    have hwc := cfg_waitUntil s (t + 64)
    generalize s.waitUntil (t + 64) = w at *
    exact ⟨hwn, by rw [hwc], (hwo.mono (by decide)).andThen (outside_with_cfg w _) (by decide)⟩
  case io =>
    intro s t l ht hl hs hp
    refine ⟨_, congrArg Host.Outcome.next (startStep_eq ht hl hs hp), ?_⟩
    have hwo := outside_waitUntil s (t + 128)
    have hwn := now_waitUntil_max s (t + 128)
    have hwc := cfg_waitUntil s (t + 128)
    generalize s.waitUntil (t + 128) = w at *
    exact ⟨hwn, by rw [hwc], (hwo.mono (by decide)).andThen (outside_with_cfg w _) (by decide)⟩
  case done =>
    intro s t l ht hl hs hp
    refine ⟨_, congrArg Host.Outcome.next (startStep_eq ht hl hs hp), ?_⟩
    have hwo := outside_waitUntil s (t + 256)
    have hwn := now_waitUntil_max s (t + 256)
    have hwc := cfg_waitUntil s (t + 256)
    have hwe : (s.waitUntil (t + 256)).num (0x0E1000 + 0xD01) 7 = s.num (0x0E1000 + 0xD01) 7 := num_waitUntil ..
    generalize s.waitUntil (t + 256) = w at *
    obtain ⟨h1, h2, h3, h4, h5, h6, h7⟩ := runDesign_spec w l
    rw [hwc] at h4 h5 h6
    refine ⟨by simp [hwn], h1, h2, h3, by rw [h4], by rw [h4], h5, h6, h7.trans (by rw [hwe]),
      (hwo.mono (by decide)).trans fun p hp => ?_⟩
    cases p <;> simp at hp ⊢

end Sys2Proof.Machine
end

section
/-! Panel loads of the design's own, isolation and release (R161, R163, R166 to R168; obligation O25). -/

namespace Sys2Proof.Machine

variable {s t : State} {l : Load} {b : Fin 4} {p q cause : Nat}

theorem isolatePanel_idle (h : s.panel p ≠ pnActive) : isolatePanel s p cause = s := if_pos h

/-- A panel isolated, before its event (R163). -/
def State.panelIsolated (s : State) (p : Nat) : State :=
  (putPanel s p pnIsolated).setHem p fun _ => { isolated := true, latched := latchHem s p }

theorem isolatePanel_active (h : s.panel p = pnActive) :
    isolatePanel s p cause = (s.panelIsolated p).raise 0xD10 (p / 16) (be 1 p ++ be 1 cause) := if_neg (not_not.mpr h)

theorem num_panelIsolated (s : State) (p i a : Nat) : (s.panelIsolated p).num i a = (putPanel s p pnIsolated).num i a :=
  num_with_cfg rfl i a

theorem panel_isolatePanel_self (hp : p < 64) (h : s.panel p = pnActive) : (isolatePanel s p cause).panel p = pnIsolated := by
  rw [isolatePanel_active h]
  exact (num_raise (by decide) _ _ (by decide) (.inl (by unfold panelIdx; omega))).trans
    ((num_panelIsolated ..).trans (num_put_self ..))

theorem panel_isolatePanel_ne (hq : q < 64) (h : p ≠ q) : (isolatePanel s p cause).panel q = s.panel q := by
  by_cases ha : s.panel p = pnActive
  · rw [isolatePanel_active ha]
    exact (num_raise (by decide) _ _ (by decide) (.inl (by unfold panelIdx; omega))).trans
      ((num_panelIsolated ..).trans (num_put_ne _ _ _ _ _ _ (by decide) (by decide) (by unfold panelIdx; omega)))
  · rw [isolatePanel_idle ha]

theorem raised_isolatePanel (hp : p < 64) (h : s.panel p = pnActive) : Raised s (isolatePanel s p cause) 0xD10 := by
  rw [isolatePanel_active h]
  exact raised_after (by decide) ((num_panelIsolated ..).trans
    (num_put_ne _ _ _ _ _ _ (by decide) (by decide) (by unfold panelIdx; omega)))

theorem entriesOutside_isolatePanel (s : State) (p cause : Nat) :
    EntriesOutside ((panelIdx p, panelIdx p) :: eventRanges) s (isolatePanel s p cause) := by
  by_cases h : s.panel p = pnActive
  · rw [isolatePanel_active h]
    have hi : EntriesOutside ((panelIdx p, panelIdx p) :: eventRanges) s (s.panelIsolated p) :=
      (entriesOutside_put s _ _ _ (by decide) ⟨_, .head _, le_rfl, le_rfl⟩).trans (.of_cat rfl)
    exact hi.trans ((entriesOutside_raise _ _ _ _ (by decide)).mono (List.subset_cons_self ..))
  · rw [isolatePanel_idle h]
    exact .refl _ _

/-- The panels of a mask isolated, each by itself (R163). -/
theorem panel_isolateMask (s : State) (b : Fin 4) (mask : Nat) {i : Nat} (hi : i < 16) :
    ((List.range 16).foldl (fun s i => if bitOf mask i then isolatePanel s (16 * b + i) 1 else s) s).panel (16 * b + i) =
      if bitOf mask i = true ∧ s.panel (16 * b + i) = pnActive then pnIsolated else s.panel (16 * b + i) := by
  refine foldl_at (view := fun s : State => s.panel (16 * b + i)) (y := i)
    (P := fun x => x = if bitOf mask i = true ∧ s.panel (16 * b + i) = pnActive then pnIsolated else s.panel (16 * b + i))
    List.nodup_range (List.mem_range.mpr hi) (fun s x hx hne => ?_) s fun t ht => ?_
  · have := List.mem_range.mp hx
    split
    · exact panel_isolatePanel_ne (by omega) (by omega)
    · rfl
  · rw [← ht]
    by_cases hm : bitOf mask i = true
    · rw [if_pos hm]
      by_cases ha : t.panel (16 * b + i) = pnActive
      · rw [if_pos ⟨hm, ha⟩, panel_isolatePanel_self (by omega) ha]
      · rw [if_neg fun h => ha h.2, isolatePanel_idle ha]
    · rw [if_neg hm, if_neg fun h => hm h.1]

theorem loadOn_congr_icp {s t : State} {b : Fin 4} (h : t.cfg.icp = s.cfg.icp) :
    t.loadOn (.icp b) = s.loadOn (.icp b) := by
  rw [State.loadOn, h]
  rfl

/-- Settles O25. -/
theorem panelsIsolateAndRelease : Obligations.PanelsIsolateAndRelease := by
  unfold Obligations.PanelsIsolateAndRelease
  refine ⟨?free, ?taken, ?mask, ?isolate, ?release⟩
  case free =>
    intro s b hs hb
    exact ⟨_, congrArg Host.Outcome.next ((if_neg (not_not.mpr hs)).trans (if_pos (by rw [hb]; rfl))), rfl⟩
  case taken =>
    intro s b l k hs hb hl hk hn hw
    have he : exec (.icpLoadBegin b) s =
        .next (beginIcp (putOp (s.setOp k fun x => { x with begun := false }) k opQueued) b) := by
      refine congrArg Host.Outcome.next ((if_neg (not_not.mpr hs)).trans ((if_neg (by rw [hb]; decide)).trans ?_))
      rw [hl]
      dsimp only
      rw [hk]
      exact if_pos ⟨hn, hw⟩
    have ho : Outside [.cat, .mgmt] s (putOp (s.setOp k fun x => { x with begun := false }) k opQueued) :=
      ((outside_setOp s k _).mono (by decide)).andThen (outside_putOp _ _ _) (by decide)
    have hst := opState_putOp (s.setOp k fun x => { x with begun := false }) k opQueued
    generalize putOp (s.setOp k fun x => { x with begun := false }) k opQueued = w at *
    have hwl : w.loadOn (.icp b) = some l := (loadOn_congr (ho.cfg (by decide)) _).trans hl
    refine ⟨_, he, ?_, (num_with_cfg rfl _ _).trans hst, (ho.mono (by decide)).andThen (outside_with_cfg w _) (by decide)⟩
    calc (beginIcp w b).loadOn (.icp b)
      _ = (w.setLoad (.icp b) (some { since := w.now })).loadOn (.icp b) := loadOn_congr_icp rfl
      _ = some { since := w.now } := loadOn_setLoad hwl
      _ = some { since := s.now } := by rw [ho.now (by decide)]
  case mask =>
    intro s b mask hs
    refine does_if rfl hs ⟨fun i hi => panel_isolateMask s b mask.toNat hi, Outside.foldl _ _ _ fun s i => ?_⟩
    split
    · exact (isolatePanel_spec s _ _).1
    · exact .refl _ _
  case isolate =>
    intro s r p v hw
    by_cases hv : v = 1
    · have ha : (isolateRule p).apply s false (carried r) (.num v) = { s := isolatePanel s p 2 } := by
        simp [isolateRule, valNum, hv]
      refine does_write rfl hw ha fun u hu => ⟨hu.ok, fun _ hact => ⟨?_, ?_⟩, fun hno => ?_, ?_, ?_⟩
      · exact (hu.num ..).trans (panel_isolatePanel_self p.isLt hact)
      · exact hu.raised (raised_isolatePanel p.isLt hact)
      · have hidle : isolatePanel s p 2 = s := isolatePanel_idle (hno.resolve_left (not_not.mpr hv))
        rw [hidle] at hu
        exact ⟨hu.cat, hu.mgmt, hu.outside.cfg (by decide)⟩
      · exact ((isolatePanel_spec s p 2).1.mono (by decide)).andThen hu.outside (by decide)
      · exact (entriesOutside_isolatePanel s p 2).trans (.of_cat hu.cat)
    · have ha : (isolateRule p).apply s false (carried r) (.num v) = { s := s } := by
        simp [isolateRule, valNum, hv]
      exact does_write rfl hw ha fun u hu => ⟨hu.ok, fun h => absurd h hv, fun _ => ⟨hu.cat, hu.mgmt,
        hu.outside.cfg (by decide)⟩,
        hu.outside.mono (by decide), .of_cat hu.cat⟩
  case release =>
    intro s r p v hw hc
    obtain ⟨x, hx⟩ : ∃ x : Ruling, x = { s.ruling with
        untimed := s.ruling.untimed ++ [{ kind := .hem, obj := p, order := s.ruling.order }]
        order := s.ruling.order + 1 } := ⟨_, rfl⟩
    have hreq : requestTask s .hem p = some { s with ruling := x } := by
      rw [hx]
      exact if_neg (Nat.not_lt.mpr hc)
    have ha : (releaseRule p).apply s false (carried r) (.num v) = { s := putPanel { s with ruling := x } p pnPending } := by
      simp only [releaseRule, hreq]
    have hro : ∀ x, Outside [.cat, .ruling] s (putPanel { s with ruling := x } p pnPending) := fun x q hq => by
      cases q <;> simp at hq ⊢
    refine does_write rfl hw ha fun u hu => ⟨hu.ok, (hu.num ..).trans (num_put_self ..), hu.ruling.trans hx, ?_, ?_⟩
    · exact ((hro _).mono (by decide)).andThen hu.outside (by decide)
    · exact EntriesOutside.trans (EntriesOutside.trans (t := { s with ruling := _ }) (.of_cat rfl)
        (entriesOutside_put _ _ _ _ (by decide) ⟨_, .head _, le_rfl, le_rfl⟩)) (.of_cat hu.cat)

end Sys2Proof.Machine
end

section
/-! Seams: mismatches, declared failures, mending and narrowing (R177 to R185; obligation O26). -/

namespace Sys2Proof.Machine

variable {s t : State} {c i a : Nat} {rs : List (Nat × Nat)}

/-! ### What a chain of writes and events leaves as it was -/

theorem EntriesOutside.then_put {x : Nat} (h : EntriesOutside ((i, i) :: rs) s t) (ha : a < 256) :
    EntriesOutside ((i, i) :: rs) s (t.put i a x) :=
  h.trans (entriesOutside_put _ _ _ _ ha ⟨_, .head _, le_rfl, le_rfl⟩)

theorem EntriesOutside.then_putOct {b : List Byte} (h : EntriesOutside ((i, i) :: rs) s t) (ha : a < 256) :
    EntriesOutside ((i, i) :: rs) s (t.putOct i a b) :=
  h.trans (entriesOutside_putOct _ _ _ _ ha ⟨_, .head _, le_rfl, le_rfl⟩)

theorem EntriesOutside.then_count {w n : Nat} (h : EntriesOutside ((i, i) :: rs) s t) (ha : a < 256) :
    EntriesOutside ((i, i) :: rs) s (t.count i a w n) :=
  h.trans (entriesOutside_count _ _ _ _ _ ha ⟨_, .head _, le_rfl, le_rfl⟩)

theorem EntriesOutside.then_raise {r : Nat × Nat} {n unit : Nat} {b : List Byte} (h : EntriesOutside (r :: eventRanges) s t)
    (hn : n < 4096) : EntriesOutside (r :: eventRanges) s (t.raise n unit b) :=
  h.trans ((entriesOutside_raise _ _ _ _ hn).mono (List.subset_cons_self ..))

theorem EntriesOutside.then_cat {u : State} (h : EntriesOutside rs s t) (hu : u.cat = t.cat) : EntriesOutside rs s u :=
  h.trans (.of_cat hu)

/-! ### Channels -/

theorem chIdx_low (hc : c < 256) : chIdx c < 0x0E0000 := by
  simp only [chIdx]
  omega

theorem num_raise_chan (hc : c < 256) {n unit : Nat} {b : List Byte} (hn : n < 4096) (ha : a < 256) :
    (s.raise n unit b).num (chIdx c) a = s.num (chIdx c) a := num_raise hn _ _ ha (.inl (chIdx_low hc))

theorem outside_setChan (s : State) (c : Nat) (f : Channel → Channel) : Outside [.seams] s (s.setChan c f) := fun p hp => by
  cases p <;> simp at hp ⊢

theorem num_put_chan (hc : c < 256) {a b x : Nat} (ha : a < 256) (hb : b < 256) (h : a ≠ b) :
    (s.put (chIdx c) a x).num (chIdx c) b = s.num (chIdx c) b := by
  simp only [chIdx] at *
  exact num_put_of_apart ha hb (by omega) (by omega)

theorem entriesOutside_showChannel (s : State) (c : Nat) : EntriesOutside ((chIdx c, chIdx c) :: rs) s (showChannel s c) :=
  (((EntriesOutside.refl _ s).then_putOct (by decide)).then_put (by decide)).then_put (by decide)

/-! ### Mismatches (R177 to R179) -/

/-- One transient counted and told (R179). -/
def transient (c : Nat) (s : State) (p : Nat) : State :=
  ((s.count (chIdx c) 8 32 1).count 0x0D0000 9 64 1).raiseAtMost 1 0xE07 c fun occ => be 1 (p / 2 ^ 64) ++ be 4 occ

/-- Marks that have aged leave the channel. -/
def Channel.aged (cycle : Nat) (x : Channel) : Channel :=
  { x with mismatches := x.mismatches.filter fun p => !(p % 2 ^ 64 + 64 ≤ cycle) }

theorem num_transient (hc : c < 256) (s : State) (p : Nat) :
    (transient c s p).num (chIdx c) 8 = (s.num (chIdx c) 8 + 1) % 2 ^ 32 ∧
    (transient c s p).num 0x0D0000 9 = (s.num 0x0D0000 9 + 1) % 2 ^ 64 ∧
    ∀ i a, a < 256 → i < 0x0E0000 → (i ≠ chIdx c ∨ a ≠ 8) → (i ≠ 0x0D0000 ∨ a ≠ 9) →
      (transient c s p).num i a = s.num i a := by
  have hi := chIdx_low hc
  have hne : chIdx c ≠ 0x0D0000 := by simp only [chIdx]; omega
  refine ⟨?_, ?_, fun i a ha hl h1 h2 => ?_⟩
  · refine (num_raiseAtMost (by decide) _ _ (by decide) (.inl hi)).trans ?_
    rw [num_count_of_apart (by decide) (by decide) (.inl hne.symm) (.inl hne.symm)]
    exact num_put_self ..
  · refine (num_raiseAtMost (by decide) _ _ (by decide) (.inl (by decide))).trans ((num_put_self ..).trans ?_)
    rw [num_count_of_apart (by decide) (by decide) (.inl hne) (.inl hne)]
  · refine (num_raiseAtMost (by decide) _ _ ha (.inl hl)).trans ?_
    rw [num_count_of_apart (by decide) ha (by omega) (by omega), num_count_of_apart (by decide) ha (by omega) (by omega)]

theorem num_foldl_count {α : Type} {f : State → α → State} {i a m : Nat} (h : ∀ s x, (f s x).num i a = (s.num i a + 1) % m)
    (l : List α) : ∀ s, l ≠ [] → (l.foldl f s).num i a = (s.num i a + l.length) % m := by
  induction l with
  | nil => exact fun _ hl => absurd rfl hl
  | cons x xs ih =>
    intro s _
    rcases xs with _ | ⟨y, ys⟩
    · exact h s x
    · rw [List.foldl_cons, ih _ nofun, h, Nat.mod_add_mod]
      congr 1
      simp only [List.length_cons]
      omega

theorem entriesOutside_transient (s : State) (c p : Nat) :
    EntriesOutside ((chIdx c, chIdx c) :: (0x0D0000, 0x0D0000) :: eventRanges) s (transient c s p) :=
  ((entriesOutside_count _ _ _ _ _ (by decide) ⟨_, .head _, le_rfl, le_rfl⟩).trans
    (entriesOutside_count _ _ _ _ _ (by decide) ⟨_, .tail _ (.head _), le_rfl, le_rfl⟩)).trans
    ((entriesOutside_raiseAtMost _ _ _ _ _ (by decide)).mono
      (List.Subset.trans (List.subset_cons_self ..) (List.subset_cons_self ..)))

theorem ageMarks_eq (s : State) (c cycle : Nat) :
    ageMarks s c cycle = ((s.chan c).mismatches.filter fun p => p % 2 ^ 64 + 64 ≤ cycle).foldl (transient c)
      (if ((s.chan c).mismatches.filter fun p => p % 2 ^ 64 + 64 ≤ cycle) = [] then s
       else s.setChan c (Channel.aged cycle)) := rfl

theorem outside_transient (s : State) (c p : Nat) : Outside [.cat, .mgmt] s (transient c s p) := fun p hp => by
  cases p <;> simp [transient] at hp ⊢

theorem ageMarks_spec (hc : c < 256) (s : State) (cycle : Nat) {old : List Nat}
    (hold : old = (s.chan c).mismatches.filter fun p => p % 2 ^ 64 + 64 ≤ cycle) :
    (ageMarks s c cycle).chan c = (s.chan c).aged cycle ∧
    (old ≠ [] → (ageMarks s c cycle).num (chIdx c) 8 = (s.num (chIdx c) 8 + old.length) % 2 ^ 32 ∧
      (ageMarks s c cycle).num 0x0D0000 9 = (s.num 0x0D0000 9 + old.length) % 2 ^ 64) ∧
    (old = [] → ageMarks s c cycle = s) ∧
    (∀ i a, a < 256 → i < 0x0E0000 → (i ≠ chIdx c ∨ a ≠ 8) → (i ≠ 0x0D0000 ∨ a ≠ 9) →
      (ageMarks s c cycle).num i a = s.num i a) ∧
    Outside [.cat, .mgmt, .seams] s (ageMarks s c cycle) ∧
    EntriesOutside ((chIdx c, chIdx c) :: (0x0D0000, 0x0D0000) :: eventRanges) s (ageMarks s c cycle) := by
  rw [ageMarks_eq, ← hold]
  obtain ⟨w, hw⟩ : ∃ w, w = if old = [] then s else s.setChan c (Channel.aged cycle) := ⟨_, rfl⟩
  have hchan : w.chan c = (s.chan c).aged cycle := by
    rw [hw]
    split
    · next h =>
      have : (s.chan c).mismatches.filter (fun p => !(p % 2 ^ 64 + 64 ≤ cycle)) = (s.chan c).mismatches :=
        List.filter_eq_self.mpr fun p hp => by
          have := List.filter_eq_nil_iff.mp (hold ▸ h) p hp
          simpa using this
      rw [Channel.aged, this]
    · exact chan_setChan_self ..
  have hn : ∀ i a, w.num i a = s.num i a := fun i a => by rw [hw]; split <;> rfl
  have hc' : w.cat = s.cat := by rw [hw]; split <;> rfl
  have ho : Outside [.seams] s w := by
    rw [hw]
    split
    · exact .refl _ _
    · exact outside_setChan s _ _
  rw [← hw]
  refine ⟨?_, fun hne => ⟨?_, ?_⟩, fun he => ?_, fun i a ha hi h1 h2 => ?_, ?_, ?_⟩
  · exact (foldl_keeps (·.chan c) (fun s p _ => chan_congr ((outside_transient s c p) .seams (by decide)) c) w).trans hchan
  · rw [num_foldl_count (fun s p => (num_transient hc s p).1) old w hne, hn]
  · rw [num_foldl_count (fun s p => (num_transient hc s p).2.1) old w hne, hn]
  · rw [he, List.foldl_nil, hw, if_pos he]
  · exact (foldl_keeps (·.num i a) (fun s p _ => (num_transient hc s p).2.2 i a ha hi h1 h2) w).trans (hn i a)
  · exact (ho.mono (by decide)).trans ((Outside.foldl _ _ _ fun s p => outside_transient s c p).mono (by decide))
  · exact (EntriesOutside.of_cat hc').trans (entriesOutside_foldl _ _ _ fun s p _ => entriesOutside_transient s c p)

/-- The channel with the mismatches of a cycle marked, as its bundle or its FIXED signals take it (R177, R179, R181). -/
def State.marked (s : State) (c st cycle : Nat) (wires : BitVec 536) (marks : List Nat) : State :=
  let s := s.setChan c fun x => { x with mismatches := x.mismatches ++ marks }
  if s.num (chIdx c) 2 = 2 then
    s.setChan c fun x => { x with fly := x.fly.filter fun f => cycle < f.due, shim := x.shim.refuse (cycle + crossingCycles s c) }
  else if s.num (chIdx c) 2 = 1 ∧ st = chFull then
    s.setChan c fun x =>
      { x with fixed := (List.range 512).foldl (fun a w =>
          if plainWire x c cycle wires ((tget x.use w).getD w) then a + 2 ^ w else a) 0 }
  else s

theorem marked_spec (s : State) (c st cycle : Nat) (wires : BitVec 536) (marks : List Nat) :
    ((s.marked c st cycle wires marks).chan c).mismatches = (s.chan c).mismatches ++ marks ∧
    (s.num (chIdx c) 2 = 2 →
      ((s.marked c st cycle wires marks).chan c).shim = (s.chan c).shim.refuse (cycle + crossingCycles s c)) ∧
    Outside [.seams] s (s.marked c st cycle wires marks) := by
  have ho := outside_setChan s c fun x => { x with mismatches := x.mismatches ++ marks }
  have hm := chan_setChan_self s c fun x => { x with mismatches := x.mismatches ++ marks }
  unfold State.marked
  extract_lets w
  by_cases h2 : w.num (chIdx c) 2 = 2
  · rw [if_pos h2]
    refine ⟨?_, fun _ => ?_, ho.trans (outside_setChan w _ _)⟩
    · rw [chan_setChan_self, hm]
    · rw [chan_setChan_self, hm]
      rfl
  · rw [if_neg h2]
    split
    · refine ⟨?_, fun h => absurd h h2, ho.trans (outside_setChan w _ _)⟩
      rw [chan_setChan_self, hm]
    · exact ⟨by rw [hm], fun h => absurd h h2, ho⟩

theorem mismatch_live {cycle : Nat} {wires : BitVec 536} {bad : List Nat} (h : s.chState c = chFull ∨ s.chState c = chNarrowed)
    (hb : bad = mismatching (s.chan c) c cycle wires) (hne : bad ≠ []) :
    mismatch s c cycle wires = (ageMarks (s.waitUntil (seamNs s c cycle)) c cycle).marked c (s.chState c) cycle wires
      (bad.map fun k => k * 2 ^ 64 + cycle % 2 ^ 64) := by
  have hst : ¬(s.chState c < chFull ∨ s.chState c = chFailed) := by
    rcases h with h | h <;> rw [h] <;> decide
  subst hb
  refine (if_neg hst).trans ((if_neg hne).trans ?_)
  have hl : decide (s.chState c = chFull ∨ s.chState c = chNarrowed) = true := decide_eq_true h
  simp only [h, decide_true, Bool.true_or, List.filter_true]
  rfl

/-! ### A declared failure (R179, R180) -/

/-- A channel as the declaration of check wire `k` leaves it. -/
def Channel.declare (x : Channel) (k st wrong : Nat) : Channel :=
  { ({ x with mismatches := x.mismatches.filter (fun p => p / 2 ^ 64 ≠ k), declared := x.declared ++ [k] } : Channel).flush with
    prior := st, pending := [], wrongAt := wrong }

theorem withdrawMends_spec (s : State) (c : Nat) :
    (∀ t ∈ (withdrawMends s c).ruling.untimed, ¬(t.kind = .mend ∧ t.obj = c)) ∧
    (∀ t ∈ (withdrawMends s c).ruling.sched, ¬(t.kind = .mend ∧ t.obj = c)) ∧ Outside [.ruling] s (withdrawMends s c) := by
  refine ⟨fun t ht => ?_, fun t ht => ?_, fun p hp => ?_⟩
  · simpa only [decide_not, Bool.not_eq_true', decide_eq_false_iff_not] using (List.mem_filter.mp ht).2
  · simpa only [decide_not, Bool.not_eq_true', decide_eq_false_iff_not] using (List.mem_filter.mp ht).2
  · cases p <;> simp at hp ⊢

theorem declareFailure_live {k : Nat} (h : s.chState c = chFull ∨ s.chState c = chNarrowed) (hn : 4 ≤ (marksOf s c k).length)
    (hm : ((marksOf s c k).getLast?.getD 0) % 2 ^ 64 < ((marksOf s c k).reverse.getD 3 0) % 2 ^ 64 + 64) :
    ∃ w, w.chan c = (s.chan c).declare k (s.chState c) (seamNs s c (((marksOf s c k).headD 0) % 2 ^ 64)) ∧
      (∀ i a, w.num i a = s.num i a) ∧ Outside [.seams] s w ∧
      declareFailure s c k =
        if (withdrawMends (w.putCh c chMending) c).num (chIdx c) 3 = 0 then withdrawMends (w.putCh c chMending) c
        else ((withdrawMends (w.putCh c chMending) c).put (chIdx c) 3 1).setChan c fun x =>
          { x with shadowAt := (withdrawMends (w.putCh c chMending) c).now } := by
  have hst : ¬(s.chState c < chFull ∨ s.chState c = chFailed ∨ (marksOf s c k).length < 4 ∨
      ((marksOf s c k).reverse.getD 3 0) % 2 ^ 64 + 64 ≤ ((marksOf s c k).getLast?.getD 0) % 2 ^ 64) := by
    have : ¬(s.chState c < chFull ∨ s.chState c = chFailed) := by rcases h with h | h <;> rw [h] <;> decide
    omega
  have hne : ¬(s.chState c = chMending ∨ s.chState c = chNarrowing) := by rcases h with h | h <;> rw [h] <;> decide
  obtain ⟨v, hv⟩ : ∃ v, v = s.setChan c fun x =>
    { x with mismatches := x.mismatches.filter (fun p => p / 2 ^ 64 ≠ k), declared := x.declared ++ [k] } := ⟨_, rfl⟩
  refine ⟨v.setChan c fun x =>
    { x.flush with prior := s.chState c, pending := [], wrongAt := seamNs v c (((marksOf s c k).headD 0) % 2 ^ 64) },
    ?_, fun i a => ?_, ?_, ?_⟩
  · rw [chan_setChan_self, hv, chan_setChan_self]
    rfl
  · rw [num_setChan, hv, num_setChan]
  · rw [hv]
    exact (outside_setChan s _ _).trans (outside_setChan _ _ _)
  · rw [hv]
    exact (if_neg hst).trans (if_neg hne)

theorem declared_spec (hc : c < 256) {k : Nat} (h : s.chState c = chFull ∨ s.chState c = chNarrowed)
    (hn : 4 ≤ (marksOf s c k).length)
    (hm : ((marksOf s c k).getLast?.getD 0) % 2 ^ 64 < ((marksOf s c k).reverse.getD 3 0) % 2 ^ 64 + 64) :
    (declareFailure s c k).chState c = chMending ∧
    (∃ a, (declareFailure s c k).chan c =
      { (s.chan c).declare k (s.chState c) (seamNs s c (((marksOf s c k).headD 0) % 2 ^ 64)) with shadowAt := a }) ∧
    (declareFailure s c k).ruling = (withdrawMends s c).ruling ∧
    Outside [.cat, .ruling, .seams] s (declareFailure s c k) ∧
    EntriesOutside [(chIdx c, chIdx c)] s (declareFailure s c k) := by
  obtain ⟨w, hw, hnum, ho, he⟩ := declareFailure_live h hn hm
  obtain ⟨-, -, hwo⟩ := withdrawMends_spec (w.putCh c chMending) c
  have hput : Outside [.cat, .ruling, .seams] s (withdrawMends (w.putCh c chMending) c) :=
    ((ho.mono (by decide)).andThen (outside_put w _ _ _) (by decide)).andThen hwo (by decide)
  have hent : EntriesOutside [(chIdx c, chIdx c)] s (withdrawMends (w.putCh c chMending) c) :=
    (((EntriesOutside.of_cat (ho.cat (by decide))).then_put (by decide)).then_cat (hwo.cat (by decide)))
  have hst : (withdrawMends (w.putCh c chMending) c).chState c = chMending := num_put_self ..
  have hch : (withdrawMends (w.putCh c chMending) c).chan c =
      (s.chan c).declare k (s.chState c) (seamNs s c (((marksOf s c k).headD 0) % 2 ^ 64)) := by
    rw [chan_congr (hwo .seams (by decide)), ← hw]
    exact chan_put ..
  have hru : (withdrawMends (w.putCh c chMending) c).ruling = (withdrawMends s c).ruling := by
    have : (w.putCh c chMending).ruling = s.ruling := ho.ruling (by decide)
    rw [withdrawMends, withdrawMends, withdrawTask, withdrawTask, this]
  rw [he]
  generalize withdrawMends (w.putCh c chMending) c = v at *
  by_cases h3 : v.num (chIdx c) 3 = 0
  · rw [if_pos h3]
    exact ⟨hst, ⟨_, hch⟩, hru, hput, hent⟩
  · rw [if_neg h3]
    refine ⟨?_, ⟨v.now, ?_⟩, hru, ?_, ?_⟩
    · exact (num_setChan ..).trans ((num_put_chan hc (by decide) (by decide) (by decide)).trans hst)
    · rw [chan_setChan_self, ← hch]
      rfl
    · exact (hput.andThen (outside_put v _ _ _) (by decide)).andThen (outside_setChan _ _ _) (by decide)
    · exact (hent.then_put (by decide)).then_cat rfl

/-! ### Holding, failing and asking for planned mends -/

theorem outside_showChannel (s : State) (c : Nat) : Outside [.cat] s (showChannel s c) := fun p hp => by
  cases p <;> simp at hp ⊢

theorem num_showChannel_event (s : State) (hc : c < 256) (n : Nat) :
    (showChannel s c).num (0x0E1000 + n) 7 = s.num (0x0E1000 + n) 7 :=
  num_showChannel s (by decide) (.inl (by simp only [chIdx]; omega)) hc

theorem num_put_chan_event (s : State) (hc : c < 256) {a x : Nat} (ha : a < 256) (n : Nat) :
    (s.put (chIdx c) a x).num (0x0E1000 + n) 7 = s.num (0x0E1000 + n) 7 :=
  num_put_ne _ _ _ _ _ _ ha (by decide) (by simp only [chIdx]; omega)

theorem holdFixed_spec (hc : c < 256) (s : State) (cause : Nat) :
    (s.num (chIdx c) 2 = 1 → (holdFixed s c cause).num (chIdx c) 7 = 1) ∧
    (∀ a, a < 256 → a ≠ 7 → (holdFixed s c cause).num (chIdx c) a = s.num (chIdx c) a) ∧
    (∀ n, n ≠ 0x040 → n ≠ 0xE03 → (holdFixed s c cause).num (0x0E1000 + n) 7 = s.num (0x0E1000 + n) 7) ∧
    Outside [.cat, .mgmt] s (holdFixed s c cause) ∧
    EntriesOutside ((chIdx c, chIdx c) :: eventRanges) s (holdFixed s c cause) := by
  by_cases h : s.num (chIdx c) 2 = 1
  · rw [holdFixed, if_pos h]
    refine ⟨fun _ => ?_, fun a ha hne => ?_, fun n h40 hne => ?_, ?_, ?_⟩
    · exact (num_raise_chan hc (by decide) (by decide)).trans (num_put_self ..)
    · exact (num_raise_chan hc (by decide) ha).trans (num_put_chan hc (by decide) ha hne.symm)
    · exact (num_raise_other _ h40 hne.symm (by decide)).trans (num_put_chan_event _ hc (by decide) n)
    · exact ((outside_put s _ _ _).mono (by decide)).andThen (outside_raise _ _ _ _) (by decide)
    · exact ((EntriesOutside.refl _ s).then_put (by decide)).then_raise (by decide)
  · rw [holdFixed, if_neg h]
    exact ⟨fun h' => absurd h' h, fun _ _ _ => rfl, fun _ _ _ => rfl, .refl _ _, .refl _ _⟩

theorem failChannel_spec (hc : c < 256) (s : State) (g left : Nat) :
    (failChannel s c g left).chState c = chFailed ∧
    (failChannel s c g left).chan c = { (s.chan c).flush with declared := [], pending := [] } ∧
    Raised s (failChannel s c g left) 0xE04 ∧
    (∀ n, n ≠ 0x040 → n ≠ 0xE03 → n ≠ 0xE04 → (failChannel s c g left).num (0x0E1000 + n) 7 = s.num (0x0E1000 + n) 7) ∧
    (s.num (chIdx c) 2 = 1 → (failChannel s c g left).num (chIdx c) 7 = 1) ∧
    Outside [.cat, .mgmt, .seams] s (failChannel s c g left) ∧
    EntriesOutside ((chIdx c, chIdx c) :: eventRanges) s (failChannel s c g left) := by
  obtain ⟨v, hv⟩ : ∃ v, v = ((s.putCh c chFailed).setChan c fun x => { x.flush with declared := [], pending := [] }).raise 0xE04 c
    (be 1 g ++ be 1 left) := ⟨_, rfl⟩
  have hput : ∀ a, a < 256 → v.num (chIdx c) a = (s.put (chIdx c) 1 chFailed).num (chIdx c) a := fun a ha => by
    rw [hv]
    exact (num_raise_chan hc (by decide) ha).trans (num_setChan ..)
  have hchan : v.chan c = { (s.chan c).flush with declared := [], pending := [] } := by
    rw [hv, chan_raise, chan_setChan_self]
    rfl
  have hr : Raised s v 0xE04 := by
    rw [hv]
    exact raised_after (by decide) ((num_setChan ..).trans (num_put_chan_event _ hc (by decide) _))
  have hev : ∀ n, n ≠ 0x040 → n ≠ 0xE04 → v.num (0x0E1000 + n) 7 = s.num (0x0E1000 + n) 7 := fun n h40 hne => by
    rw [hv]
    exact (num_raise_other _ h40 hne.symm (by decide)).trans ((num_setChan ..).trans (num_put_chan_event _ hc (by decide) n))
  have ho : Outside [.cat, .mgmt, .seams] s v := by
    rw [hv]
    exact (((outside_put s _ _ _).mono (by decide)).andThen (outside_setChan _ _ _) (by decide)).andThen
      (outside_raise _ _ _ _) (by decide)
  have hent : EntriesOutside ((chIdx c, chIdx c) :: eventRanges) s v := by
    rw [hv]
    have hput : EntriesOutside ((chIdx c, chIdx c) :: eventRanges) s (s.putCh c chFailed) :=
      (EntriesOutside.refl _ s).then_put (by decide)
    exact (hput.then_cat (outside_setChan (s.putCh c chFailed) _ _ .cat (by decide))).then_raise (by decide)
  have he : failChannel s c g left = holdFixed v c 1 := by rw [hv]; rfl
  obtain ⟨h7, hn, hne, hho, hhe⟩ := holdFixed_spec hc v 1
  rw [he]
  refine ⟨?_, ?_, ?_, fun n hn' h3 h4 => ?_, fun h2 => h7 ?_, ho.andThen hho (by decide), hent.trans hhe⟩
  · exact (hn 1 (by decide) (by decide)).trans ((hput 1 (by decide)).trans (num_put_self ..))
  · exact (chan_congr (hho .seams (by decide)) c).trans hchan
  · exact hr.congr (hne _ (by decide) (by decide))
  · exact (hne n hn' h3).trans (hev n hn' h4)
  · exact (hput 2 (by decide)).trans ((num_put_chan hc (by decide) (by decide) (by decide)).trans h2)

theorem requestMends_chan (s : State) (c : Nat) :
    (∃ d, (requestMends s c).chan c = { s.chan c with darnShadow := d }) ∧ Outside [.ruling, .seams] s (requestMends s c) := by
  refine ⟨?_, fun p hp => by cases p <;> simp at hp ⊢⟩
  unfold requestMends
  split
  · exact ⟨_, rfl⟩
  · extract_lets weak
    refine ⟨weak, ?_⟩
    have hask : ∀ s k o, ((requestTask s k o).getD s).seams = s.seams := fun s k o => by
      unfold requestTask
      split <;> rfl
    refine (foldl_keeps (·.chan c) (fun s _ _ => chan_congr (hask s .mend c) c) _).trans (chan_setChan_self ..)

/-! ### Localisation (R180) -/

theorem afterLocalised_spec (hc : c < 256) (s : State) :
    ((afterLocalised s c).chan c).failed = (s.chan c).failed ∧ ((afterLocalised s c).chan c).predicted = (s.chan c).predicted ∧
    (afterLocalised s c).num (0x0E1000 + 0xE00) 7 = s.num (0x0E1000 + 0xE00) 7 ∧
    Outside [.cat, .mgmt, .seams] s (afterLocalised s c) ∧
    EntriesOutside ((chIdx c, chIdx c) :: eventRanges) s (afterLocalised s c) := by
  unfold afterLocalised
  extract_lets x
  split
  · split
    · next g _ =>
      obtain ⟨-, hch, -, hev, -, ho, he⟩ := failChannel_spec hc s g.1 g.2
      refine ⟨?_, ?_, ?_, ho.andThen (outside_showChannel _ _) (by decide), he.trans (entriesOutside_showChannel _ _)⟩
      · rw [chan_showChannel, hch]
        rfl
      · rw [chan_showChannel, hch]
        rfl
      · exact (num_showChannel_event _ hc _).trans (hev _ (by decide) (by decide) (by decide))
    · exact ⟨rfl, rfl, rfl, .refl _ _, .refl _ _⟩
  · split
    · exact ⟨rfl, rfl, rfl, .refl _ _, .refl _ _⟩
    · exact ⟨rfl, rfl, num_put_chan_event _ hc (by decide) _, (outside_put s _ _ _).mono (by decide),
        (EntriesOutside.refl _ s).then_put (by decide)⟩

/-- A channel that has localised a wire (R180). -/
def Channel.localised (w : Nat) (x : Channel) : Channel :=
  { x with
    failed := if x.failed.contains w then x.failed else x.failed ++ [w], pending := x.pending ++ [w]
    predicted := x.predicted.filter (· ≠ w), darnShadow := x.darnShadow.filter (· ≠ w) }

theorem mem_localised (x : Channel) (w : Nat) : w ∈ (x.localised w).failed ∧ w ∉ (x.localised w).predicted := by
  refine ⟨?_, fun h => by simpa using (List.mem_filter.mp h).2⟩
  unfold Channel.localised
  dsimp only
  split
  · next h => simpa using h
  · exact List.mem_append_right _ (.head _)

theorem localise_spec (hc : c < 256) {w : Nat} {last : Bool} (h : s.chState c = chMending) (hw : (s.chan c).walked w = true) :
    w ∈ ((localise s c w last).chan c).failed ∧ w ∉ ((localise s c w last).chan c).predicted ∧
    Raised s (localise s c w last) 0xE00 ∧
    (last = false → (localise s c w last).chState c = chMending ∧
      ((localise s c w last).chan c).pending = (s.chan c).pending ++ [w]) ∧
    Outside [.cat, .mgmt, .seams] s (localise s c w last) ∧
    EntriesOutside ((chIdx c, chIdx c) :: eventRanges) s (localise s c w last) := by
  obtain ⟨u, hu⟩ : ∃ u, u = s.setChan c (Channel.localised w) := ⟨_, rfl⟩
  obtain ⟨v, hv⟩ : ∃ v, v = (showChannel u c).raise 0xE00 c (be 2 w ++ be 8 u.rulingPick) := ⟨_, rfl⟩
  have he : localise s c w last = if last then afterLocalised v c else v := by
    rw [hv, hu]
    exact if_neg (by simp [h, hw])
  have huo : Outside [.seams] s u := hu ▸ outside_setChan s _ _
  have hun : ∀ i a, u.num i a = s.num i a := fun i a => by rw [hu, num_setChan]
  have hch : v.chan c = (s.chan c).localised w := by rw [hv, chan_raise, chan_showChannel, hu, chan_setChan_self]
  have hr : Raised s v 0xE00 := by
    rw [hv]
    exact raised_after (by decide) ((num_showChannel_event _ hc _).trans (hun _ _))
  have hst : v.chState c = chMending := by
    rw [hv]
    exact (num_raise_chan hc (by decide) (by decide)).trans
      ((num_showChannel _ (by decide) (.inr (.inl (by decide))) hc).trans ((hun _ _).trans h))
  have ho : Outside [.cat, .mgmt, .seams] s v := by
    rw [hv]
    exact ((huo.mono (by decide)).andThen (outside_showChannel _ _) (by decide)).andThen (outside_raise _ _ _ _) (by decide)
  have hent : EntriesOutside ((chIdx c, chIdx c) :: eventRanges) s v := by
    rw [hv]
    exact ((EntriesOutside.of_cat (huo .cat (by decide))).trans (entriesOutside_showChannel _ _)).then_raise (by decide)
  obtain ⟨hin, hout⟩ := mem_localised (s.chan c) w
  rw [← hch] at hin hout
  rw [he]
  clear he hv
  cases last
  · exact ⟨hin, hout, hr, fun _ => ⟨hst, by rw [if_neg nofun, hch]; rfl⟩, ho, hent⟩
  · obtain ⟨hf, hp, hn, hao, hae⟩ := afterLocalised_spec hc v
    rw [if_pos rfl]
    exact ⟨hf ▸ hin, hp ▸ hout, hr.congr hn, nofun, ho.andThen hao (by decide), hent.trans hae⟩

/-! ### Mends (R180 to R182, R185) -/

theorem reportMend_spec (hc : c < 256) (s : State) (w y dur : Nat) :
    (reportMend s c w y dur).chState c = s.chState c ∧ Outside [.cat, .mgmt] s (reportMend s c w y dur) ∧
    EntriesOutside ((chIdx c, chIdx c) :: eventRanges) s (reportMend s c w y dur) := by
  refine ⟨?_, ((outside_count s _ _ _ _).mono (by decide)).andThen (outside_raise _ _ _ _) (by decide),
    ((EntriesOutside.refl _ s).then_count (by decide)).then_raise (by decide)⟩
  exact (num_raise_chan hc (by decide) (by decide)).trans (num_put_chan hc (by decide) (by decide) (by decide))

theorem move_failed (x : Channel) (w v : Nat) : (x.move w v).failed = x.failed := by
  unfold Channel.move
  split
  · rfl
  · split <;> rfl

theorem mendNarrow_spec (hc : c < 256) (s : State) (dur w : Nat) :
    (mendNarrow dur c s w).chState c = s.chState c ∧ ((mendNarrow dur c s w).chan c).failed = (s.chan c).failed ∧
    Outside [.cat, .mgmt, .seams] s (mendNarrow dur c s w) ∧
    EntriesOutside ((chIdx c, chIdx c) :: eventRanges) s (mendNarrow dur c s w) := by
  unfold mendNarrow
  split
  · next v _ =>
    obtain ⟨hst, ho, he⟩ := reportMend_spec hc (s.setChan c fun x => x.move w v) w v dur
    refine ⟨hst, ?_, ((outside_setChan s _ _).mono (by decide)).andThen ho (by decide),
      (EntriesOutside.of_cat (outside_setChan s _ _ .cat (by decide))).trans he⟩
    rw [chan_congr (ho .seams (by decide)), chan_setChan_self, move_failed]
  · exact ⟨rfl, rfl, .refl _ _, .refl _ _⟩

theorem mendAll_failed (ws : List Nat) : ∀ x y : Channel, x.mendAll ws = some y → y.failed = x.failed := by
  induction ws with
  | nil =>
    intro x y h
    rw [← Option.some.inj h]
  | cons w ws ih =>
    intro x y h
    unfold Channel.mendAll at h
    split at h
    · have := ih _ _ h
      exact this
    · exact absurd h nofun

theorem repaired_failed (x : Channel) : (x.repaired.getD x).failed = x.failed := by
  cases h : x.repaired with
  | none => rfl
  | some y =>
    have := mendAll_failed _ _ _ h
    exact this

/-- The channel with its mends in place, before the episode ends (R180, R185). -/
def State.mended (s : State) (c dur : Nat) : State :=
  let x := s.chan c
  if x.prior = chNarrowed then x.pending.foldl (mendNarrow dur c) (s.putCh c chNarrowed)
  else
    let y := x.repaired.getD x
    x.needs.foldl (fun s w => reportMend s c w ((tget y.use w).getD w) dur) ((s.putCh c chFull).setChan c fun _ => y)

theorem completeMend_eq {dur : Nat} (h : s.chState c = chMending) (hd : dur ≤ 21000) :
    completeMend s c dur = requestMends (showChannel (((s.waitUntil ((s.chan c).wrongAt + dur)).mended c dur).setChan c fun x =>
      { x.flush with pending := [], declared := [] }) c) c :=
  if_neg (by rw [h]; omega)

theorem outside_putCh (s : State) (c st : Nat) : Outside [.cat] s (s.putCh c st) := outside_put s _ _ _

theorem mended_spec (hc : c < 256) (s : State) (dur : Nat) :
    (s.mended c dur).chState c = (if (s.chan c).prior = chNarrowed then chNarrowed else chFull) ∧
    ((s.mended c dur).chan c).failed = (s.chan c).failed ∧
    (∀ y, (s.chan c).prior ≠ chNarrowed → (s.chan c).repaired = some y → ((s.mended c dur).chan c).use = y.use) ∧
    Outside [.cat, .mgmt, .seams] s (s.mended c dur) ∧
    EntriesOutside ((chIdx c, chIdx c) :: eventRanges) s (s.mended c dur) := by
  have hput : ∀ st, EntriesOutside ((chIdx c, chIdx c) :: eventRanges) s (s.putCh c st) := fun st =>
    (EntriesOutside.refl _ s).then_put (by decide)
  unfold State.mended
  extract_lets x y
  by_cases hp : x.prior = chNarrowed
  · rw [if_pos hp, if_pos hp]
    refine ⟨?_, ?_, fun y hne => absurd hp hne, ?_, ?_⟩
    · exact (foldl_keeps (·.chState c) (fun s w _ => (mendNarrow_spec hc s dur w).1) _).trans (num_put_self ..)
    · exact (foldl_keeps (fun s : State => (s.chan c).failed) (fun s w _ => (mendNarrow_spec hc s dur w).2.1) _).trans rfl
    · exact ((outside_putCh s _ _).mono (by decide)).trans
        (Outside.foldl _ _ _ fun s w => (mendNarrow_spec hc s dur w).2.2.1)
    · exact (hput _).trans (entriesOutside_foldl _ _ _ fun s w _ => (mendNarrow_spec hc s dur w).2.2.2)
  · rw [if_neg hp, if_neg hp]
    obtain ⟨v, hv⟩ : ∃ v, v = (s.putCh c chFull).setChan c fun _ => y := ⟨_, rfl⟩
    have hvo : Outside [.cat, .seams] s v := by
      rw [hv]
      exact ((outside_putCh s _ _).mono (by decide)).andThen (outside_setChan _ _ _) (by decide)
    have hch : v.chan c = y := by rw [hv, chan_setChan_self]
    have hst : v.chState c = chFull := by
      rw [hv]
      exact (num_setChan ..).trans (num_put_self ..)
    have hve : EntriesOutside ((chIdx c, chIdx c) :: eventRanges) s v := by
      rw [hv]
      exact (hput _).then_cat (outside_setChan (s.putCh c chFull) _ _ .cat (by decide))
    rw [← hv]
    have hfold := foldl_keeps (fun s : State => s.chan c) (l := x.needs)
      (f := fun s w => reportMend s c w ((tget y.use w).getD w) dur)
      (fun s w _ => chan_congr ((reportMend_spec hc s w _ dur).2.1 .seams (by decide)) c) v
    refine ⟨?_, ?_, fun z _ hz => ?_, ?_, ?_⟩
    · exact (foldl_keeps (·.chState c) (fun s w _ => (reportMend_spec hc s w _ dur).1) v).trans hst
    · rw [hfold, hch]
      exact repaired_failed _
    · rw [hfold, hch]
      exact congrArg (fun o : Option Channel => (o.getD x).use) hz
    · exact (hvo.mono (by decide)).trans
        ((Outside.foldl _ _ _ fun s w => (reportMend_spec hc s w _ dur).2.1).mono (by decide))
    · exact hve.trans (entriesOutside_foldl _ _ _ fun s w _ => (reportMend_spec hc s w _ dur).2.2)

/-- The end of an episode: wires shown, planned mends asked for. -/
theorem shown_spec (hc : c < 256) (v : State) (f : Channel → Channel) :
    (∃ d, (requestMends (showChannel (v.setChan c f) c) c).chan c = { f (v.chan c) with darnShadow := d }) ∧
    (requestMends (showChannel (v.setChan c f) c) c).chState c = v.chState c ∧
    Outside [.cat, .ruling, .seams] v (requestMends (showChannel (v.setChan c f) c) c) ∧
    EntriesOutside ((chIdx c, chIdx c) :: eventRanges) v (requestMends (showChannel (v.setChan c f) c) c) := by
  obtain ⟨hd, hro⟩ := requestMends_chan (showChannel (v.setChan c f) c) c
  refine ⟨?_, ?_, ?_, ?_⟩
  · rwa [chan_showChannel, chan_setChan_self] at hd
  · exact (num_requestMends _ _ _ _ (by decide)).trans
      ((num_showChannel _ (by decide) (.inr (.inl (by decide))) hc).trans (num_setChan ..))
  · exact (((outside_setChan v _ _).mono (by decide)).andThen (outside_showChannel _ _) (by decide)).andThen hro (by decide)
  · exact ((EntriesOutside.of_cat (outside_setChan v _ _ .cat (by decide))).trans (entriesOutside_showChannel _ _)).then_cat
      (hro .cat (by decide))

/-! ### Narrowing (R183 to R185) -/

theorem completeNarrow_short {dur : Nat} {g : Nat × Nat} (h : s.chState c = chNarrowing) (hd : dur ≤ 25000)
    (hg : (s.chan c).shortGroup = some g) :
    completeNarrow s c dur = showChannel (failChannel (s.waitUntil ((s.chan c).wrongAt + dur)) c g.1 g.2) c := by
  refine (if_neg (by rw [h]; omega)).trans ?_
  have : ((s.waitUntil ((s.chan c).wrongAt + dur)).chan c).shortGroup = some g := hg
  simp only [this]

theorem completeNarrow_enough {dur : Nat} (h : s.chState c = chNarrowing) (hd : dur ≤ 25000)
    (hg : (s.chan c).shortGroup = none) :
    completeNarrow s c dur = requestMends (holdFixed ((showChannel (((s.waitUntil ((s.chan c).wrongAt + dur)).putCh c
      chNarrowed).setChan c fun x => { x.narrow.flush with pending := [], declared := [] }) c).raise 0xE02 c
      (be 2 ((s.chan c).pending.getLast?.getD 0) ++ be 4 dur)) c 0) c := by
  refine (if_neg (by rw [h]; omega)).trans ?_
  have : ((s.waitUntil ((s.chan c).wrongAt + dur)).chan c).shortGroup = none := hg
  simp only [this]
  rfl

theorem chNarrow_spec (hc : c < 256) (w : State) (f : Channel → Channel) (b : List Byte) {u : State}
    (hu : u = requestMends (holdFixed ((showChannel ((w.putCh c chNarrowed).setChan c f) c).raise 0xE02 c b) c 0) c) :
    u.chState c = chNarrowed ∧ (∃ d, u.chan c = { f (w.chan c) with darnShadow := d }) ∧ Raised w u 0xE02 ∧
    (w.num (chIdx c) 2 = 1 → u.num (chIdx c) 7 = 1) ∧ Outside [.cat, .ruling, .mgmt, .seams] w u ∧
    EntriesOutside ((chIdx c, chIdx c) :: eventRanges) w u := by
  obtain ⟨v, hv⟩ : ∃ v, v = (w.putCh c chNarrowed).setChan c f := ⟨_, rfl⟩
  have hvn : ∀ i a, v.num i a = (w.putCh c chNarrowed).num i a := fun i a => by rw [hv, num_setChan]
  have hvc : v.chan c = f (w.chan c) := by
    rw [hv, chan_setChan_self]
    rfl
  have hvo : Outside [.cat, .seams] w v := by
    rw [hv]
    exact ((outside_putCh w _ _).mono (by decide)).andThen (outside_setChan _ _ _) (by decide)
  have hve : EntriesOutside ((chIdx c, chIdx c) :: eventRanges) w v := by
    have h : EntriesOutside ((chIdx c, chIdx c) :: eventRanges) w (w.putCh c chNarrowed) :=
      (EntriesOutside.refl _ w).then_put (by decide)
    rw [hv]
    exact h.then_cat (outside_setChan (w.putCh c chNarrowed) _ _ .cat (by decide))
  rw [← hv] at hu
  clear hv
  obtain ⟨y, hy⟩ : ∃ y, y = (showChannel v c).raise 0xE02 c b := ⟨_, rfl⟩
  have hyn : ∀ a, a < 4 → y.num (chIdx c) a = (w.putCh c chNarrowed).num (chIdx c) a := fun a ha => by
    rw [hy]
    exact (num_raise_chan hc (by decide) (by omega)).trans
      ((num_showChannel _ (by omega) (.inr (.inl ha)) hc).trans (hvn _ _))
  have hyr : Raised w y 0xE02 := by
    rw [hy]
    exact raised_after (by decide) ((num_showChannel_event _ hc _).trans ((hvn _ _).trans (num_put_chan_event _ hc (by decide) _)))
  have hyo : Outside [.cat, .ruling, .mgmt, .seams] w y := by
    rw [hy]
    exact ((hvo.mono (by decide)).andThen (outside_showChannel _ _) (by decide)).andThen (outside_raise _ _ _ _) (by decide)
  have hye : EntriesOutside ((chIdx c, chIdx c) :: eventRanges) w y := by
    rw [hy]
    exact (hve.trans (entriesOutside_showChannel _ _)).then_raise (by decide)
  have hyc : y.chan c = f (w.chan c) := by rw [hy, chan_raise, chan_showChannel, hvc]
  rw [← hy] at hu
  clear hy
  obtain ⟨h7, hn, hev, hho, hhe⟩ := holdFixed_spec hc y 0
  obtain ⟨⟨d, hd⟩, hro⟩ := requestMends_chan (holdFixed y c 0) c
  rw [chan_congr (hho .seams (by decide)), hyc] at hd
  have hun : ∀ i a, a < 256 → u.num i a = (holdFixed y c 0).num i a := fun i a ha => hu ▸ num_requestMends _ _ _ _ ha
  rw [← hu] at hd hro
  refine ⟨?_, ⟨d, hd⟩, ?_, fun h2 => ?_, ?_, ?_⟩
  · exact (hun _ _ (by decide)).trans ((hn 1 (by decide) (by decide)).trans ((hyn 1 (by decide)).trans (num_put_self ..)))
  · exact hyr.congr ((hun _ _ (by decide)).trans (hev _ (by decide) (by decide)))
  · refine (hun _ _ (by decide)).trans (h7 ((hyn 2 (by decide)).trans ?_))
    exact (num_put_chan hc (by decide) (by decide) (by decide)).trans h2
  · exact (hyo.andThen hho (by decide)).andThen hro (by decide)
  · exact (hye.trans hhe).then_cat (hro .cat (by decide))

/-- Settles O26: each command is cut into its stages, and each stage says what it leaves of the channel and its record. -/
theorem seamsDetectAndMendFailures : Obligations.SeamsDetectAndMendFailures := by
  unfold Obligations.SeamsDetectAndMendFailures
  refine ⟨?mark, ?match_, ?declare, ?localise, ?mend, ?narrow⟩
  case mark =>
    intro s c cycle wires bad old hst hb hne hold
    obtain ⟨w, hw⟩ : ∃ w, w = s.waitUntil (seamNs s c cycle) := ⟨_, rfl⟩
    have hwo : Outside [.now, .tim] s w := hw ▸ outside_waitUntil s _
    have hwn : ∀ i a, w.num i a = s.num i a := fun i a => by rw [hw, num_waitUntil]
    have hwc : w.chan c = s.chan c := chan_congr (hwo .seams (by decide)) c
    have hnow : w.now = max s.now (seamNs s c cycle) := by rw [hw, now_waitUntil_max]
    rw [← hwc] at hold
    obtain ⟨hch, hcount, hnil, hnum, ho, he⟩ := ageMarks_spec c.isLt w cycle hold
    have hone := mismatch_live hst hb hne
    rw [← hw] at hone
    clear hw
    obtain ⟨hm, hsh, hmo⟩ := marked_spec (ageMarks w c cycle) c (s.chState c) cycle wires
      (bad.map fun k => k * 2 ^ 64 + cycle % 2 ^ 64)
    refine ⟨_, congrArg Host.Outcome.next hone, ?_⟩
    generalize (ageMarks w c cycle).marked c (s.chState c) cycle wires (bad.map fun k => k * 2 ^ 64 + cycle % 2 ^ 64) = u at *
    have hun : ∀ i a, a < 256 → u.num i a = (ageMarks w c cycle).num i a := fun i a ha =>
      num_congr_of_cat (hmo .cat (by decide)) (hmo .unit (by decide)) (hmo .pwr (by decide)) (hmo .cfg (by decide)) i a ha
    have hsame : ∀ a, a < 256 → a ≠ 8 → (ageMarks w c cycle).num (chIdx c) a = s.num (chIdx c) a := fun a ha h8 =>
      (hnum _ _ ha (chIdx_low c.isLt) (.inr h8) (.inl (by simp only [chIdx]; omega))).trans (hwn _ _)
    refine ⟨?_, ?_, ?_, fun h => ⟨?_, ?_⟩, fun h => ⟨?_, ?_⟩, fun h => ?_, ?_, ?_⟩
    · exact (hmo .now (by decide)).trans ((ho .now (by decide)).trans hnow)
    · exact (hun _ _ (by decide)).trans (hsame 1 (by decide) (by decide))
    · rw [hm, hch, Channel.aged, hwc]
    · rw [hun _ _ (by decide), (hcount h).1, hwn]
    · rw [hun _ _ (by decide), (hcount h).2, hwn]
    · rw [hmo .cat (by decide), hnil h]
      exact hwo .cat (by decide)
    · rw [hmo .mgmt (by decide), hnil h]
      exact hwo .mgmt (by decide)
    · have hcr : crossingCycles (ageMarks w c cycle) c = crossingCycles s c := by
        unfold crossingCycles State.chState
        rw [hsame 1 (by decide) (by decide)]
      rw [hsh ((hsame 2 (by decide) (by decide)).trans h), hch, hwc, hcr]
      rfl
    · exact ((hwo.mono (by decide)).andThen ho (by decide)).andThen hmo (by decide)
    · exact ((EntriesOutside.of_cat (hwo .cat (by decide))).trans he).then_cat (hmo .cat (by decide))
  case match_ =>
    intro s c cycle wires h
    refine congrArg Host.Outcome.next ?_
    unfold mismatch
    extract_lets st bad
    split
    · rfl
    · rfl
  case declare =>
    intro s c k hst hn hm
    obtain ⟨h1, ⟨a, h2⟩, h3, h4, h5⟩ := declared_spec c.isLt hst hn hm
    obtain ⟨hu, hs, -⟩ := withdrawMends_spec s c
    refine ⟨_, rfl, h1, ?_, ?_, ?_, ?_, ?_, ?_, h3 ▸ hu, h3 ▸ hs, h4, h5⟩
    · rw [h2]
      rfl
    · rw [h2]
      rfl
    · rw [h2]
      rfl
    · rw [h2]
      rfl
    · rw [h2]
      rfl
    · rw [marksOf, h2]
      refine List.filter_eq_nil_iff.mpr fun p hp => ?_
      have := (List.mem_filter.mp hp).2
      simpa using this
  case localise =>
    intro s c wire last hst hw
    exact ⟨_, rfl, localise_spec c.isLt hst hw⟩
  case mend =>
    intro s c dur hst hd
    obtain ⟨w, hw⟩ : ∃ w, w = s.waitUntil ((s.chan c).wrongAt + dur) := ⟨_, rfl⟩
    have hwo : Outside [.now, .tim] s w := hw ▸ outside_waitUntil s _
    have hwc : w.chan c = s.chan c := chan_congr (hwo .seams (by decide)) c
    have hnow : w.now = max s.now ((s.chan c).wrongAt + dur) := by rw [hw, now_waitUntil_max]
    have heq := completeMend_eq hst hd
    rw [← hw] at heq
    clear hw
    obtain ⟨h1, h2, h3, ho, he⟩ := mended_spec c.isLt w dur
    obtain ⟨⟨d, hch⟩, hst', hso, hse⟩ := shown_spec c.isLt (w.mended c dur) fun x => { x.flush with pending := [], declared := [] }
    refine ⟨_, congrArg Host.Outcome.next heq, ?_, ?_, ?_, ?_, ?_, fun y hp hy => ?_, ?_, ?_⟩
    · exact (hso .now (by decide)).trans ((ho .now (by decide)).trans hnow)
    · rw [hch]
    · rw [hch]
    · rw [hch, ← hwc, ← h2]
      rfl
    · rw [hst', h1, hwc]
    · rw [← hwc] at hp hy
      rw [hch, ← h3 y hp hy]
      rfl
    · exact ((hwo.mono (by decide)).andThen ho (by decide)).andThen hso (by decide)
    · exact ((EntriesOutside.of_cat (hwo .cat (by decide))).trans he).trans hse
  case narrow =>
    intro s c dur hst hd
    obtain ⟨w, hw⟩ : ∃ w, w = s.waitUntil ((s.chan c).wrongAt + dur) := ⟨_, rfl⟩
    have hwo : Outside [.now, .tim] s w := hw ▸ outside_waitUntil s _
    have hwn : ∀ i a, w.num i a = s.num i a := fun i a => by rw [hw, num_waitUntil]
    have hwc : w.chan c = s.chan c := chan_congr (hwo .seams (by decide)) c
    have hnow : w.now = max s.now ((s.chan c).wrongAt + dur) := by rw [hw, now_waitUntil_max]
    have hwe : EntriesOutside ((chIdx c, chIdx c) :: eventRanges) s w := .of_cat (hwo .cat (by decide))
    cases hg : (s.chan c).shortGroup with
    | some g =>
      have heq := completeNarrow_short hst hd hg
      rw [← hw] at heq
      clear hw
      obtain ⟨hf, -, hr, -, h7, ho, he⟩ := failChannel_spec c.isLt w g.1 g.2
      have hr' : Raised s (failChannel w c g.1 g.2) 0xE04 := by
        rw [Raised, hr, hwn]
      refine ⟨_, congrArg Host.Outcome.next heq, ?_, nofun, fun _ _ => ⟨?_, ?_⟩, fun h2 => ?_, ?_, ?_⟩
      · exact (outside_showChannel _ _ .now (by decide)).trans ((ho .now (by decide)).trans hnow)
      · exact (num_showChannel _ (by decide) (.inr (.inl (by decide))) c.isLt).trans hf
      · exact hr'.congr (num_showChannel_event _ c.isLt _)
      · exact (num_showChannel _ (by decide) (.inr (.inr (by decide))) c.isLt).trans (h7 ((hwn _ _).trans h2))
      · exact ((hwo.mono (by decide)).andThen ho (by decide)).andThen (outside_showChannel _ _) (by decide)
      · exact (hwe.trans he).trans (entriesOutside_showChannel _ _)
    | none =>
      have heq := completeNarrow_enough hst hd hg
      rw [← hw] at heq
      clear hw
      obtain ⟨h1, ⟨d, h2⟩, hr, h7, ho, he⟩ := chNarrow_spec c.isLt w
        (fun x => { x.narrow.flush with pending := [], declared := [] }) (be 2 ((s.chan c).pending.getLast?.getD 0) ++ be 4 dur) rfl
      refine ⟨_, congrArg Host.Outcome.next heq, ?_, fun _ => ⟨h1, ?_, ?_, ?_⟩, nofun, fun h => h7 ((hwn _ _).trans h), ?_,
        hwe.trans he⟩
      · exact (ho .now (by decide)).trans hnow
      · rw [h2]
        rfl
      · rw [h2, hwc]
        rfl
      · rw [Raised, hr, hwn]
      · exact (hwo.mono (by decide)).andThen ho (by decide)

end Sys2Proof.Machine
end

section
/-! Seams: predicted failures, shadow retraining and reinstatement (R186 to R190; obligation O27). -/

namespace Sys2Proof.Machine

variable {s t : State} {c i a : Nat}

theorem predictWire_above {w margin : Nat} (h : s.chState c = chFull ∨ s.chState c = chNarrowed) {x : Channel}
    (hx : x = (s.chan c).sample s.now w margin)
    (hm : s.num 0x0D0000 6 ≤ tgetD x.margins w margin ∨ x.failed.contains w ∨ x.predicted.contains w) :
    predictWire s c w margin = s.setChan c fun x => x.sample s.now w margin := by
  have hs : (s.setChan c fun x => x.sample s.now w margin).chan c = x := (chan_setChan_self ..).trans hx.symm
  refine (if_neg (not_not.mpr h)).trans ?_
  dsimp only
  rw [hs]
  exact if_pos hm

/-- The weak wire shown and told, before what its darning wire lacks is told (R186). -/
def State.weakened (s : State) (c w margin : Nat) (x : Channel) : State :=
  (showChannel ((s.setChan c fun x => x.sample s.now w margin).setChan c fun x =>
    { x with predicted := x.predicted ++ [w] }) c).raise 0xE05 c (be 2 w ++ be 1 (tgetD x.margins w margin))

theorem predictWire_below {w margin : Nat} (h : s.chState c = chFull ∨ s.chState c = chNarrowed) {x : Channel}
    (hx : x = (s.chan c).sample s.now w margin)
    (hm : ¬(s.num 0x0D0000 6 ≤ tgetD x.margins w margin ∨ x.failed.contains w ∨ x.predicted.contains w)) :
    predictWire s c w margin =
      if featureLevel (s.weakened c w margin x).unit = 1 ∨ (x.carries w ∧ (x.darnFor w).isNone) then
        (s.weakened c w margin x).raise 0xE0A c (be 2 w) else s.weakened c w margin x := by
  have hs : (s.setChan c fun x => x.sample s.now w margin).chan c = x := (chan_setChan_self ..).trans hx.symm
  refine (if_neg (not_not.mpr h)).trans ?_
  dsimp only
  rw [hs]
  exact if_neg hm

theorem weakened_spec (hc : c < 256) {w margin : Nat} {x : Channel} (hx : x = (s.chan c).sample s.now w margin) :
    (s.weakened c w margin x).chan c = { x with predicted := x.predicted ++ [w] } ∧
    Raised s (s.weakened c w margin x) 0xE05 ∧
    (s.weakened c w margin x).num (0x0E1000 + 0xE0A) 7 = s.num (0x0E1000 + 0xE0A) 7 ∧
    (s.weakened c w margin x).chState c = s.chState c ∧ Outside [.cat, .mgmt, .seams] s (s.weakened c w margin x) ∧
    EntriesOutside ((chIdx c, chIdx c) :: eventRanges) s (s.weakened c w margin x) := by
  unfold State.weakened
  obtain ⟨v, hv⟩ : ∃ v, v = (s.setChan c fun x => x.sample s.now w margin).setChan c fun x =>
    { x with predicted := x.predicted ++ [w] } := ⟨_, rfl⟩
  have hvo : Outside [.seams] s v := by
    rw [hv]
    exact (outside_setChan s _ _).trans (outside_setChan _ _ _)
  have hvn : ∀ i a, v.num i a = s.num i a := fun i a => by rw [hv, num_setChan, num_setChan]
  have hvc : v.chan c = { x with predicted := x.predicted ++ [w] } := by
    rw [hv, chan_setChan_self, chan_setChan_self, hx]
  rw [← hv]
  refine ⟨?_, ?_, ?_, ?_, ?_, ?_⟩
  · rw [chan_raise, chan_showChannel, hvc]
  · exact raised_after (by decide) ((num_showChannel_event _ hc _).trans (hvn _ _))
  · exact (num_raise_other _ (by decide) (by decide) (by decide)).trans ((num_showChannel_event _ hc _).trans (hvn _ _))
  · exact (num_raise_chan hc (by decide) (by decide)).trans
      ((num_showChannel _ (by decide) (.inr (.inl (by decide))) hc).trans (hvn _ _))
  · exact ((hvo.mono (by decide)).andThen (outside_showChannel _ _) (by decide)).andThen (outside_raise _ _ _ _) (by decide)
  · exact ((EntriesOutside.of_cat (hvo .cat (by decide))).trans (entriesOutside_showChannel _ _)).then_raise (by decide)

theorem predictWire_idle {w margin : Nat} (h : s.chState c = chFull ∨ s.chState c = chNarrowed) {x : Channel}
    (hx : x = (s.chan c).sample s.now w margin)
    (hm : s.num 0x0D0000 6 ≤ tgetD x.margins w margin ∨ x.failed.contains w ∨ x.predicted.contains w) :
    (predictWire s c w margin).chan c = x ∧ Outside [.seams] s (predictWire s c w margin) := by
  rw [predictWire_above h hx hm]
  exact ⟨(chan_setChan_self ..).trans hx.symm, outside_setChan s _ _⟩

/-- The end of a shadow, with the wires that passed (R189). -/
def State.retested (s : State) (c : Nat) (healthy : List Nat) : State :=
  showChannel (s.setChan c fun x => { x with failed := x.failed.filter fun w => !healthy.contains w }) c

theorem retested_spec (hc : c < 256) (s : State) (healthy : List Nat) :
    (s.retested c healthy).chan c =
      { s.chan c with failed := (s.chan c).failed.filter fun w => !healthy.contains w } ∧
    (∀ n, (s.retested c healthy).num (0x0E1000 + n) 7 = s.num (0x0E1000 + n) 7) ∧
    Outside [.cat, .seams] s (s.retested c healthy) ∧
    EntriesOutside ((chIdx c, chIdx c) :: eventRanges) s (s.retested c healthy) := by
  refine ⟨?_, fun n => ?_, ?_, ?_⟩
  · exact (chan_showChannel ..).trans (chan_setChan_self ..)
  · exact (num_showChannel_event _ hc _).trans (num_setChan ..)
  · exact ((outside_setChan s _ _).mono (by decide)).andThen (outside_showChannel _ _) (by decide)
  · exact (EntriesOutside.of_cat (outside_setChan s _ _ .cat (by decide))).trans (entriesOutside_showChannel _ _)

/-- SHADOW shown with event E08h (R189). -/
theorem shadowTold_spec (hc : c < 256) (v : State) (x r : Nat) {u : State}
    (hu : u = (v.put (chIdx c) 3 x).raise 0xE08 c (be 1 r)) :
    u.num (chIdx c) 3 = x ∧ Raised v u 0xE08 ∧ u.chan c = v.chan c ∧ Outside [.cat, .mgmt] v u ∧
    EntriesOutside ((chIdx c, chIdx c) :: eventRanges) v u := by
  subst hu
  refine ⟨?_, ?_, ?_, ?_, ?_⟩
  · exact (num_raise_chan hc (by decide) (by decide)).trans (num_put_self ..)
  · exact raised_after (by decide) (num_put_chan_event _ hc (by decide) _)
  · rw [chan_raise, chan_put]
  · exact ((outside_put v _ _ _).mono (by decide)).andThen (outside_raise _ _ _ _) (by decide)
  · exact ((EntriesOutside.refl _ v).then_put (by decide)).then_raise (by decide)

theorem requestTask_fits {k : TaskKind} {o : Nat} (h : taskCost k ≤ s.capacity) :
    ∃ x : Ruling, x.untimed = s.ruling.untimed ++ [{ kind := k, obj := o, order := s.ruling.order }] ∧
      requestTask s k o = some { s with ruling := x } :=
  ⟨_, rfl, if_neg (Nat.not_lt.mpr h)⟩

theorem requestTask_short {k : TaskKind} {o : Nat} (h : ¬taskCost k ≤ s.capacity) : requestTask s k o = none :=
  if_pos (Nat.not_le.mp h)

/-- Settles O27: a sample either leaves the wire alone or weakens it; a shadow ends ready or off by `fullUse`. -/
theorem seamsPredictRetrainAndReturn : Obligations.SeamsPredictRetrainAndReturn := by
  unfold Obligations.SeamsPredictRetrainAndReturn
  refine ⟨?predict, ?darn, ?retrain, ?ready, ?reinstate⟩
  case predict =>
    intro s c wire margin x hst hx
    by_cases hm : s.num 0x0D0000 6 ≤ tgetD x.margins wire margin ∨ x.failed.contains wire.val ∨ x.predicted.contains wire.val
    · obtain ⟨hch, ho⟩ := predictWire_idle hst hx hm
      refine ⟨_, rfl, fun h1 h2 h3 => ?_, fun _ => ⟨hch, ho⟩, ?_, ho.mono (by decide), .of_cat (ho .cat (by decide))⟩
      · simp only [List.contains_iff_mem] at hm
        exact (hm.elim (Nat.not_le.mpr h1) fun h => h.elim h2 h3).elim
      · exact num_congr_of_cat (ho .cat (by decide)) (ho .unit (by decide)) (ho .pwr (by decide)) (ho .cfg (by decide)) _ _ (by decide)
    · obtain ⟨hch, hr, hn, hs, ho, he⟩ := weakened_spec c.isLt (w := wire) (margin := margin) hx
      have heq := predictWire_below hst hx hm
      have hunit : (s.weakened c wire margin x).unit = s.unit := ho .unit (by decide)
      rw [hunit] at heq
      generalize s.weakened c wire margin x = v at *
      by_cases ha : featureLevel s.unit = 1 ∨ (x.carries wire = true ∧ (x.darnFor wire).isNone = true)
      · rw [if_pos ha] at heq
        refine ⟨_, congrArg Host.Outcome.next heq, fun _ _ _ => ⟨?_, ?_, fun _ => ?_⟩, fun h => absurd (.inl h) hm, ?_, ?_, ?_⟩
        · rw [chan_raise, hch]
        · exact hr.then_raise (by decide) (by decide)
        · exact raised_after (by decide) hn
        · exact (num_raise_chan c.isLt (by decide) (by decide)).trans hs
        · exact ho.andThen (outside_raise _ _ _ _) (by decide)
        · exact he.then_raise (by decide)
      · rw [if_neg ha] at heq
        refine ⟨_, congrArg Host.Outcome.next heq, fun _ _ _ => ⟨hch, hr, fun h => absurd ?_ ha⟩, fun h => absurd (.inl h) hm,
          hs, ho, he⟩
        exact h.imp_right fun h => ⟨h.1, by rw [h.2]; rfl⟩
  case darn =>
    intro s c wire hst hp hd hf hpm
    obtain ⟨v, hv⟩ : ∃ v, v = s.setChan c fun x => { x with darnShadow := x.darnShadow ++ [wire.val] } := ⟨_, rfl⟩
    have hvo : Outside [.seams] s v := hv ▸ outside_setChan s _ _
    have hvc : (v.chan c).darnShadow = (s.chan c).darnShadow ++ [wire.val] := by rw [hv, chan_setChan_self]
    have he : darnTrained s c wire = (requestTask v .mend c).getD v := by
      rw [hv]
      exact if_pos ⟨hst, by simpa using hp, by simpa using hd, hf, hpm⟩
    have hcap : v.capacity = s.capacity := by rw [hv]; rfl
    refine ⟨_, congrArg Host.Outcome.next he, ?_⟩
    clear he hv
    by_cases hc : taskCost .mend ≤ s.capacity
    · obtain ⟨x, hx, hreq⟩ := requestTask_fits (s := v) (k := .mend) (o := c) (by rw [hcap]; exact hc)
      rw [hreq, if_pos hc, ← hvo .ruling (by decide)]
      exact ⟨hvc, hx, (hvo.mono (by decide)).andThen (outside_withRuling v _) (by decide)⟩
    · rw [requestTask_short (by rw [hcap]; exact hc), if_neg hc, List.append_nil]
      exact ⟨hvc, congrArg Ruling.untimed (hvo .ruling (by decide)), hvo.mono (by decide)⟩
  case retrain =>
    intro s r c v hw
    by_cases hv : v = 1
    · have ha : (retrainRule c).apply s false (carried r) (.num v) =
          { s := (s.put (chIdx c) 3 1).setChan c fun x => { x with shadowAt := s.now } } := by
        simp [retrainRule, valNum, hv]
      refine does_write rfl hw ha fun u hu => ⟨hu.ok, fun _ => ⟨?_, ?_, ?_⟩, fun h => absurd hv h, ?_, ?_⟩
      · exact (hu.num ..).trans ((num_setChan ..).trans (num_put_self ..))
      · rw [chan_congr (hu.outside .seams (by decide)), chan_setChan_self]
      · exact (hu.num ..).trans ((num_setChan ..).trans (num_put_chan c.isLt (by decide) (by decide) (by decide)))
      · exact (((outside_put s _ _ _).mono (by decide)).andThen (outside_setChan _ _ _) (by decide)).andThen hu.outside (by decide)
      · have h : EntriesOutside [(chIdx c, chIdx c)] s (s.put (chIdx c) 3 1) := (EntriesOutside.refl _ s).then_put (by decide)
        exact (h.then_cat (outside_setChan _ _ _ .cat (by decide))).then_cat hu.cat
    · have ha : (retrainRule c).apply s false (carried r) (.num v) = { s := s } := by
        simp [retrainRule, valNum, hv]
      exact does_write rfl hw ha fun u hu => ⟨hu.ok, fun h => absurd h hv, fun _ => ⟨hu.outside .seams (by decide), hu.cat⟩,
        hu.outside.mono (by decide), .of_cat hu.cat⟩
  case ready =>
    intro s c passed healthy h3 hh
    obtain ⟨hch, hev, ho, he⟩ := retested_spec c.isLt s healthy
    obtain ⟨v, hv⟩ : ∃ v, v = s.retested c healthy := ⟨_, rfl⟩
    have heq : shadowEnds s c (passed.map fun p => (p.1.val, p.2)) =
        if (fullUse (v.chan c).failed).isSome then
          ((v.waitUntil ((v.chan c).shadowAt + 1000000)).put (chIdx c) 3 2).raise 0xE08 c (be 1 0)
        else (v.put (chIdx c) 3 0).raise 0xE08 c (be 1 1) := by
      have hm : ((passed.map fun p => (p.1.val, p.2)).filter fun p => s.num 0x0D0000 6 ≤ p.2).map (·.1) = healthy := by
        rw [hh, List.filter_map, List.map_map]
        rfl
      refine (if_neg (not_not.mpr h3)).trans ?_
      dsimp only
      rw [hm, hv]
      rfl
    rw [← hv] at hch hev ho he
    clear hv
    by_cases hf : (fullUse (v.chan c).failed).isSome = true
    · rw [if_pos hf] at heq
      obtain ⟨w, hw⟩ : ∃ w, w = v.waitUntil ((v.chan c).shadowAt + 1000000) := ⟨_, rfl⟩
      have hwo : Outside [.now, .tim] v w := hw ▸ outside_waitUntil v _
      have hnow : w.now = max v.now ((v.chan c).shadowAt + 1000000) := by rw [hw, now_waitUntil_max]
      have hwn : ∀ i a, w.num i a = v.num i a := fun i a => by rw [hw, num_waitUntil]
      rw [← hw] at heq
      clear hw
      obtain ⟨h1, h2, h4, h5, h6⟩ := shadowTold_spec c.isLt w 2 0 rfl
      refine ⟨_, congrArg Host.Outcome.next heq, ?_⟩
      generalize (w.put (chIdx c) 3 2).raise 0xE08 c (be 1 0) = u at *
      have huc : u.chan c = v.chan c := h4.trans (chan_congr (hwo .seams (by decide)) c)
      refine ⟨?_, ?_, fun _ => ⟨h1, ?_⟩, fun h => absurd hf (by rw [← huc, h]; decide), ?_, ?_, ?_, ?_⟩
      · rw [huc, hch]
      · rw [Raised, h2, hwn, hev]
      · rw [h5 .now (by decide), hnow, hch, ho .now (by decide)]
      · rw [huc, hch]
      · rw [huc, hch]
      · exact ((ho.mono (by decide)).andThen hwo (by decide)).andThen h5 (by decide)
      · exact (he.then_cat (hwo .cat (by decide))).trans h6
    · rw [if_neg hf] at heq
      obtain ⟨h1, h2, h4, h5, h6⟩ := shadowTold_spec c.isLt v 0 1 rfl
      refine ⟨_, congrArg Host.Outcome.next heq, ?_⟩
      generalize (v.put (chIdx c) 3 0).raise 0xE08 c (be 1 1) = u at *
      refine ⟨?_, ?_, fun h => absurd (h4 ▸ h) hf, fun _ => ⟨h1, ?_⟩, ?_, ?_, ?_, ?_⟩
      · rw [h4, hch]
      · rw [Raised, h2, hev]
      · exact (h5 .now (by decide)).trans (ho .now (by decide))
      · rw [h4, hch]
      · rw [h4, hch]
      · exact (ho.mono (by decide)).andThen h5 (by decide)
      · exact he.trans h6
  case reinstate =>
    intro s r c v hw hcap
    by_cases hv : v = 1
    · obtain ⟨x, hx, hreq⟩ := requestTask_fits (o := c) hcap
      have ha : (chanReinstateRule c).apply s false (carried r) (.num v) = { s := { s with ruling := x } } := by
        simp [chanReinstateRule, valNum, hv, requestDone, hreq]
      refine does_write rfl hw ha fun u hu => ⟨hu.ok, ?_, ?_⟩
      · rw [if_pos hv, hu.ruling, ← hx]
      · exact ((outside_withRuling s x).mono (by decide)).andThen hu.outside (by decide)
    · have ha : (chanReinstateRule c).apply s false (carried r) (.num v) = { s := s } := by
        simp [chanReinstateRule, valNum, hv]
      refine does_write rfl hw ha fun u hu => ⟨hu.ok, ?_, hu.outside.mono (by decide)⟩
      rw [if_neg hv, List.append_nil, hu.ruling]

end Sys2Proof.Machine
end

section
/-! Queue memories: edges, flags and reset (R203 to R206; obligation O28). -/

namespace Sys2Proof.Machine

variable {s : State} {q : Nat} {x : Queue} {f : Queue → Queue}

/-! ### Acting on a queue -/

theorem onQueue_live (hr : s.clocksRun = true) (hi : insideIsolated s (·.mems) q = false) (hx : tget s.fab.queues q = some x)
    (f : Queue → Queue) : Outside [.fab] s (onQueue s q f) ∧ tget (onQueue s q f).fab.queues q = some (f x) := by
  have he : onQueue s q f = { s with fab := { s.fab with queues := tput s.fab.queues q (f x) } } := by
    unfold onQueue
    rw [hx]
    exact if_pos (by rw [hr, hi]; rfl)
  rw [he]
  refine ⟨fun p hp => by cases p <;> simp at hp ⊢, tget_tput_self ..⟩

theorem onQueue_still (h : s.clocksRun = false ∨ insideIsolated s (·.mems) q = true) (f : Queue → Queue) :
    onQueue s q f = s := by
  unfold onQueue
  split
  · exact if_neg (by rcases h with h | h <;> simp [h])
  · rfl

theorem does_onQueue {c : Instr} {y : Queue} (hr : s.clocksRun = true) (hi : insideIsolated s (·.mems) q = false)
    (hx : tget s.fab.queues q = some x) (hc : exec c s = .next (onQueue s q f)) (hf : f x = y) :
    Does c s fun u => Outside [.fab] s u ∧ tget u.fab.queues q = some y :=
  have ⟨ho, hq⟩ := onQueue_live hr hi hx f
  ⟨_, hc, ho, hq.trans (congrArg some hf)⟩

/-! ### Reads with flipped bits -/

theorem flip_eq (x : Queue) (flips : Nat) :
    ∃ w a b, x.flip flips = { x with words := w, sbe := a, dbe := b } ∧ w.tail = x.words.tail := by
  unfold Queue.flip
  split
  · exact ⟨_, _, _, rfl, rfl⟩
  · exact ⟨_, _, _, rfl, rfl⟩

theorem flip_empty (h : x.empty = true) (flips : Nat) : x.flip flips = { x with sbe := false, dbe := false } :=
  if_pos (.inr (.inr h))

theorem countEcc_clean (s : State) (b m w : Nat) : countEcc s b m w false false = s := rfl

theorem outside_countEcc (s : State) (b m w : Nat) (e d : Bool) : Outside [.cat, .mgmt, .fab] s
    (countEcc s b m w e d) := fun p hp => by
  cases p <;> simp at hp ⊢

theorem queues_countEcc (s : State) (b m w : Nat) (e d : Bool) : (countEcc s b m w e d).fab.queues = s.fab.queues := by
  unfold countEcc
  split
  · rfl
  · split
    · rfl
    · dsimp only
      split
      · simp
      · rfl

theorem queueRead_live (hr : s.clocksRun = true) (hi : insideIsolated s (·.mems) q = false) (hx : tget s.fab.queues q = some x)
    (flips : Nat) :
    queueRead s q flips = countEcc (onQueue s q fun x => (x.flip flips).readEdge) (q / 3072) (q % 3072) x.rptr
      (x.flip flips).sbe (x.flip flips).dbe := by
  unfold queueRead
  rw [hx]
  exact if_pos (by rw [hr, hi]; rfl)

theorem queueRead_still (h : s.clocksRun = false ∨ insideIsolated s (·.mems) q = true) (flips : Nat) :
    queueRead s q flips = s := by
  unfold queueRead
  split
  · rfl
  · exact (if_neg (by rcases h with h | h <;> simp [h])).trans (onQueue_still h _)

theorem does_queueRead {n : Fin 12288} {e : BitVec 72} {y : Queue} (hr : s.clocksRun = true)
    (hi : insideIsolated s (·.mems) n = false) (hx : tget s.fab.queues n = some x) (hy : (x.flip e.toNat).readEdge = y) :
    Does (.qRead n e) s fun u => Outside [.fab, .cat, .mgmt] s u ∧ tget u.fab.queues n = some y := by
  obtain ⟨ho, hq⟩ := onQueue_live hr hi hx fun x => (x.flip e.toNat).readEdge
  refine ⟨_, congrArg Host.Outcome.next (queueRead_live hr hi hx _), ?_, ?_⟩
  · exact (ho.mono (by decide)).andThen (outside_countEcc _ _ _ _ _ _) (by decide)
  · rw [queues_countEcc, hq, hy]

/-- Settles O28: every command is one function of the queue, applied where the clocks run outside isolated panels. -/
theorem queuesFollowTheirEdges : Obligations.QueuesFollowTheirEdges := by
  unfold Obligations.QueuesFollowTheirEdges
  refine ⟨fun s q x hr hi hx => ?live, fun s q h => ?still⟩
  case still =>
    exact ⟨fun _ _ => congrArg Host.Outcome.next (onQueue_still h _), fun _ => congrArg Host.Outcome.next (queueRead_still h _),
      fun _ => congrArg Host.Outcome.next (onQueue_still h _), fun _ => congrArg Host.Outcome.next (onQueue_still h _),
      fun _ => congrArg Host.Outcome.next (onQueue_still h _)⟩
  refine ⟨?write, ?both, ?full, ?overRead, ?common, ?reset, ?empty, ?read, ?fwft, ?wflag, ?rflag, ?rst, ?unrst, ?thr⟩
  case write =>
    intro d h1 h2
    exact does_onQueue hr hi hx rfl (by simp [Queue.writeEdge, Queue.push, h1, h2])
  case both =>
    intro d h1 h2
    exact does_onQueue hr hi hx rfl (by simp [Queue.writeEdge, h1, h2])
  case full =>
    intro d h1 h2
    exact does_onQueue hr hi hx rfl (by simp [Queue.writeEdge, h1, h2])
  case overRead =>
    intro d h1 h2 h3
    refine does_onQueue hr hi hx rfl ?_
    have hno : ¬(x.common = true ∧ true = true ∧ (!x.empty) = true) := by
      rcases h3 with h | h <;> simp [h]
    rw [Queue.writeEdge, if_neg (by simp [h1]), if_pos h2, if_neg hno]
    rfl
  case common =>
    intro d h1 h2 h3 h4
    obtain ⟨ho, hq⟩ := onQueue_live hr hi hx fun x => x.writeEdge d.toNat true
    refine ⟨_, rfl, ho, _, hq, ?_⟩
    have he : x.writeEdge d.toNat true = { x.pop with words := x.pop.words ++ [d.toNat % 2 ^ x.width] } := by
      rw [Queue.writeEdge, if_neg (by simp [h1]), if_pos h2, if_pos (by simp [h3, h4])]
    have hp : x.pop.words = x.words.tail ∧ x.pop.full = x.full ∧ x.pop.overflow = x.overflow ∧ x.pop.underflow = x.underflow := by
      unfold Queue.pop Queue.show
      dsimp only
      split
      · split <;> exact ⟨rfl, rfl, rfl, rfl⟩
      · split <;> exact ⟨rfl, rfl, rfl, rfl⟩
    obtain ⟨hw, hf, hov, hun⟩ := hp
    rw [he]
    exact ⟨congrArg (· ++ _) hw, hf.trans h2, hov, hun⟩
  case reset =>
    intro d b h
    exact does_onQueue hr hi hx rfl (if_pos h)
  case empty =>
    intro e h1 h2
    obtain ⟨ho, hq⟩ := onQueue_live hr hi hx fun x => (x.flip e.toNat).readEdge
    have he : queueRead s q e.toNat = onQueue s q fun x => (x.flip e.toNat).readEdge := by
      rw [queueRead_live hr hi hx, flip_empty h2, countEcc_clean]
    refine ⟨_, congrArg Host.Outcome.next he, ho, hq.trans ?_⟩
    simp [flip_empty h2, Queue.readEdge, h1, h2]
  case read =>
    intro e f h1 h2 h3 hf
    refine does_queueRead hr hi hx ?_
    obtain ⟨w, a, b, hfl, hw⟩ := flip_eq x e.toNat
    rw [← hf] at hfl ⊢
    rw [Queue.readEdge, if_neg (by simp [hfl, h1]), if_neg (by simp [hfl, h2]), Queue.pop, hfl]
    cases hreg : x.reg <;> simp [h3, hw]
  case fwft =>
    intro e f h1 h2 h3 h4 hf
    refine does_queueRead hr hi hx ?_
    obtain ⟨w, a, b, hfl, hw⟩ := flip_eq x e.toNat
    rw [← hf] at hfl ⊢
    have hle : decide (x.rseen ≤ 1) = false := decide_eq_false (by omega)
    rw [Queue.readEdge, if_neg (by simp [hfl, h1]), if_neg (by simp [hfl, h2]), Queue.pop, hfl]
    simp [h3, hw, Queue.show, hle]
  case wflag =>
    intro h
    exact does_onQueue hr hi hx rfl (by simp [Queue.seen, h])
  case rflag =>
    intro h
    obtain ⟨ho, hq⟩ := onQueue_live hr hi hx fun x => x.seen true
    refine ⟨_, rfl, ho, _, hq, ?_⟩
    rw [Queue.seen, if_neg (by simp [h]), if_pos rfl, Queue.show]
    by_cases hw : x.words = []
    · simp [hw]
    · cases hf : x.fwft <;> simp [hw]
  case rst =>
    obtain ⟨ho, hq⟩ := onQueue_live hr hi hx fun x => x.reset true
    exact ⟨_, rfl, ho, _, hq, rfl, rfl, rfl, rfl, rfl, rfl, rfl, rfl⟩
  case unrst => exact does_onQueue hr hi hx rfl rfl
  case thr =>
    intro d h
    exact does_onQueue hr hi hx rfl (by simp [Queue.thresholds, h])

end Sys2Proof.Machine
end

section
/-! Regional clock drivers and idle gates (R208 to R211, R247; obligation O29). -/

namespace Sys2Proof.Machine

variable {s t u v : State} {d i a : Nat} {x : Mux}

/-! ### A count with its event -/

theorem countTold_spec {n w unit : Nat} {b : List Byte} (hi : i < 0x0E0000 ∨ 0x0E1FFF < i) (ha : a < 256) (hn : n < 4096)
    (h40 : n ≠ 0x040) (hu : u = (v.count i a w 1).raise n unit b) :
    u.num i a = (v.num i a + 1) % 2 ^ w ∧ Raised v u n ∧ Outside [.cat, .mgmt] v u ∧
    EntriesOutside ((i, i) :: eventRanges) v u := by
  subst hu
  refine ⟨?_, ?_, ?_, ?_⟩
  · exact (num_raise hn _ _ ha hi).trans (num_put_self ..)
  · exact raised_after h40 (num_put_ne _ _ _ _ _ _ ha (by decide) (by omega))
  · exact ((outside_count v _ _ _ _).mono (by decide)).andThen (outside_raise _ _ _ _) (by decide)
  · exact ((EntriesOutside.refl _ v).then_count ha).then_raise hn

/-! ### Acting on a driver -/

theorem onDriver_live (hr : s.clocksRun = true) (hi : insideIsolated s (·.drivers) d = false) (f : Mux → Mux) :
    Outside [.fab] s (onDriver s d f) ∧ (onDriver s d f).drv d = f (s.drv d) := by
  have he : onDriver s d f = { s with fab := { s.fab with drivers := tput s.fab.drivers d (f (s.drv d)) } } :=
    if_pos (by rw [hr, hi]; rfl)
  rw [he]
  exact ⟨fun p hp => by cases p <;> simp at hp ⊢, tgetD_tput_self ..⟩

theorem does_onDriver {c : Instr} {f : Mux → Mux} {y : Mux} (hr : s.clocksRun = true)
    (hi : insideIsolated s (·.drivers) d = false) (hc : exec c s = .next (onDriver s d f)) (hf : f (s.drv d) = y) :
    Does c s fun u => Outside [.fab] s u ∧ u.drv d = y :=
  have ⟨ho, hd⟩ := onDriver_live hr hi f
  ⟨_, hc, ho, hd.trans hf⟩

theorem drv_congr (h : t.fab = s.fab) (d : Nat) : t.drv d = s.drv d := by
  rw [State.drv, h]
  rfl

/-! ### Switching -/

theorem restart_waiting {b : Bool} (h : x.want = some b) :
    x.restart = if x.low ∧ x.newEdge then { x with sel := b, want := none, low := false } else x := by
  unfold Mux.restart
  rw [h]

theorem select_new {toB o n : Bool} (h : x.want = none) (now : Nat) :
    x.select toB o n now = if x.sel = toB then x
      else if o && n then { x with sel := toB, want := none, wantAt := now, newEdge := true, low := false }
      else { x with want := some toB, wantAt := now, newEdge := n, low := o } := by
  unfold Mux.select
  rw [h]
  dsimp only
  split
  · rfl
  · rw [restart_waiting rfl]
    cases o <;> cases n <;> rfl

theorem select_back {b o n : Bool} (h : x.want = some b) (hl : x.low = false) (now : Nat) :
    x.select (!b) o n now = { x with want := none } := by
  unfold Mux.select
  rw [h]
  exact if_pos (by cases b <;> simp [hl])

theorem select_again {b o n : Bool} (h : x.want = some b) (now : Nat) :
    x.select b o n now = if (x.low || o) && n then { x with sel := b, want := none, newEdge := true, low := false }
      else { x with newEdge := n, low := x.low || o } := by
  unfold Mux.select
  rw [h]
  dsimp only
  rw [if_neg (by simp), if_pos rfl, restart_waiting rfl]
  obtain ⟨low, hlow⟩ : ∃ low, low = (x.low || o) := ⟨_, rfl⟩
  rw [← hlow, ← h]
  cases low <;> cases n <;> rfl

/-! ### Timeouts -/

theorem muxTimeout_waiting {new_ : Bool} (hr : s.clocksRun = true) (hi : insideIsolated s (·.drivers) d = false)
    (hw : (s.drv d).want ≠ none) (hl : (s.drv d).low = new_) :
    muxTimeout s d new_ =
      ((if new_ then s.waitUntil ((s.drv d).wantAt + 1000)
        else onDriver (s.waitUntil ((s.drv d).wantAt + 1000)) d fun x => ({ x with low := true }).restart).count
        (0x110020 + d / 384) 1 32 1).raise 0xD22 (d / 384) (drvFields d ++ be 1 (if new_ then 1 else 0)) :=
  if_neg (by simp [hr, hi, hw, hl])

/-- Settles O29: a command is one function of the driver; a timeout acts at its time, then counts and tells. -/
theorem regionalClocksSwitchAndGate : Obligations.RegionalClocksSwitchAndGate := by
  unfold Obligations.RegionalClocksSwitchAndGate
  refine ⟨fun s drv x hr hi hx => ?_, ?unit⟩
  case unit =>
    intro s n hg hb ht
    have he : unitIdle s n = s.put (gateIdx n) 2 2 := if_pos ⟨hg, by simp [hb], ht⟩
    exact ⟨_, congrArg Host.Outcome.next he, num_put_self .., outside_put s _ _ _,
      entriesOutside_put _ _ _ _ (by decide) ⟨_, .head _, le_rfl, le_rfl⟩⟩
  have hlate : ∀ n : Nat, Outside [.now, .tim] s (s.waitUntil n) ∧ (s.waitUntil n).clocksRun = true ∧
      insideIsolated (s.waitUntil n) (·.drivers) drv = false ∧ (s.waitUntil n).now = max s.now n ∧
      (∀ i a, (s.waitUntil n).num i a = s.num i a) ∧ (s.waitUntil n).drv drv = x := fun n =>
    ⟨outside_waitUntil s n, hr, hi, now_waitUntil_max s n, num_waitUntil s n, hx.symm⟩
  have hidx : 0x110020 + drv.val / 384 < 0x0E0000 ∨ 0x0E1FFF < 0x110020 + drv.val / 384 := .inr (by omega)
  refine ⟨?new, ?back, ?again, ?absent, ?stays, ?div, ?fall, ?rise, ?idle, ?late⟩
  case new =>
    intro toB o n hw
    exact does_onDriver hr hi rfl (by rw [← hx]; exact select_new hw _)
  case back =>
    intro b o n hw hl
    exact does_onDriver hr hi rfl (by rw [← hx]; exact select_back hw hl _)
  case again =>
    intro b o n hw
    exact does_onDriver hr hi rfl (by rw [← hx]; exact select_again hw _)
  case absent =>
    intro b hw hl
    have he := muxTimeout_waiting (new_ := false) hr hi (by rw [← hx, hw]; nofun) (by rw [← hx, hl])
    rw [← hx, if_neg nofun] at he
    obtain ⟨hwo, hwr, hwi, hnow, hnum, hwd⟩ := hlate (x.wantAt + 1000)
    generalize s.waitUntil (x.wantAt + 1000) = w at *
    obtain ⟨ho, hd⟩ := onDriver_live hwr hwi fun x => ({ x with low := true }).restart
    rw [hwd] at hd
    have hd := hd.trans (restart_waiting (x := { x with low := true }) hw)
    generalize onDriver w drv (fun x => ({ x with low := true } : Mux).restart) = v at *
    have hvn : ∀ i a, a < 256 → v.num i a = s.num i a := fun i a ha =>
      (num_congr_of_cat (ho .cat (by decide)) (ho .unit (by decide)) (ho .pwr (by decide)) (ho .cfg (by decide)) i a ha).trans
        (hnum i a)
    obtain ⟨h1, h2, h3, h4⟩ := countTold_spec (n := 0xD22) (a := 1) hidx (by decide) (by decide) (by decide) (v := v) rfl
    refine ⟨_, congrArg Host.Outcome.next he, ?_, ?_, ?_, ?_, ?_, ?_⟩
    · exact (h3 .now (by decide)).trans ((ho .now (by decide)).trans hnow)
    · rw [drv_congr (h3 .fab (by decide)), hd]
      cases x.newEdge <;> rfl
    · rw [h1, hvn _ _ (by decide)]
    · rw [Raised, h2, hvn _ _ (by decide)]
    · exact ((hwo.mono (by decide)).andThen ho (by decide)).andThen h3 (by decide)
    · exact (EntriesOutside.of_cat ((ho .cat (by decide)).trans (hwo .cat (by decide)))).trans h4
  case stays =>
    intro hw hl
    have he := muxTimeout_waiting (new_ := true) hr hi (by rw [← hx]; exact hw) (by rw [← hx, hl])
    rw [← hx, if_pos rfl] at he
    obtain ⟨hwo, -, -, hnow, hnum, -⟩ := hlate (x.wantAt + 1000)
    generalize s.waitUntil (x.wantAt + 1000) = w at *
    obtain ⟨h1, h2, h3, h4⟩ := countTold_spec (n := 0xD22) (a := 1) hidx (by decide) (by decide) (by decide) (v := w) rfl
    refine ⟨_, congrArg Host.Outcome.next he, ?_, ?_, ?_, ?_, ?_⟩
    · exact (h3 .now (by decide)).trans hnow
    · rw [h1, hnum]
    · rw [Raised, h2, hnum]
    · exact (hwo.mono (by decide)).andThen h3 (by decide)
    · exact (EntriesOutside.of_cat (hwo .cat (by decide))).trans h4
  case div =>
    intro n
    exact does_onDriver hr hi rfl (by rw [← hx])
  case fall =>
    obtain ⟨ho, hd⟩ := onDriver_live hr hi fun x =>
      if !x.ce then x
      else match x.port with
        | none => { x with ce := false, gated := true }
        | some _ => { x with ce := false, req := some s.now }
    rw [← hx] at hd
    refine ⟨_, rfl, ho, fun hc hp => ?_, fun hc hp => ?_⟩
    · refine hd.trans ?_
      rw [if_neg (by simp [hc]), hp]
    · obtain ⟨k, hk⟩ := Option.ne_none_iff_exists'.mp hp
      refine hd.trans ?_
      rw [if_neg (by simp [hc]), hk]
  case rise => exact does_onDriver hr hi rfl (by rw [← hx])
  case idle =>
    intro t hq ht
    refine does_onDriver hr hi rfl ?_
    rw [← hx, hq]
    exact if_pos ht
  case late =>
    intro t hq
    obtain ⟨hwo, hwr, hwi, hnow, hnum, hwd⟩ := hlate (t + 4000)
    obtain ⟨ho, hd⟩ := onDriver_live hwr hwi fun x => { x with req := none }
    have he : driverTimeout s drv = ((onDriver (s.waitUntil (t + 4000)) drv fun x => { x with req := none }).count
        (0x110020 + drv / 384) 2 32 1).raise 0xD23 (drv / 384) (drvFields drv ++ be 1
          (((onDriver (s.waitUntil (t + 4000)) drv fun x => { x with req := none }).drv drv).port.getD 0)) := by
      unfold driverTimeout
      rw [← hx, hq]
      exact if_neg (by simp [hr])
    rw [hwd] at hd
    generalize onDriver (s.waitUntil (t + 4000)) drv (fun x => { x with req := none }) = v at *
    generalize s.waitUntil (t + 4000) = w at *
    have hvn : ∀ i a, a < 256 → v.num i a = s.num i a := fun i a ha =>
      (num_congr_of_cat (ho .cat (by decide)) (ho .unit (by decide)) (ho .pwr (by decide)) (ho .cfg (by decide)) i a ha).trans
        (hnum i a)
    obtain ⟨h1, h2, h3, h4⟩ := countTold_spec (n := 0xD23) (a := 2) hidx (by decide) (by decide) (by decide) (v := v) rfl
    refine ⟨_, congrArg Host.Outcome.next he, ?_, ?_, ?_, ?_, ?_, ?_⟩
    · exact (h3 .now (by decide)).trans ((ho .now (by decide)).trans hnow)
    · rw [drv_congr (h3 .fab (by decide)), hd]
    · rw [h1, hvn _ _ (by decide)]
    · rw [Raised, h2, hvn _ _ (by decide)]
    · exact ((hwo.mono (by decide)).andThen ho (by decide)).andThen h3 (by decide)
    · exact (EntriesOutside.of_cat ((ho .cat (by decide)).trans (hwo .cat (by decide)))).trans h4

end Sys2Proof.Machine
end

section
/-! Block memories, banks and tallies (R198 to R202, R217, R218; obligation O30). -/

namespace Sys2Proof.Machine

variable {s t u v : State} {i a : Nat}

/-! ### Reads in ECC mode (R201) -/

theorem bport_setBport (s : State) (k : Nat) (x : BramPort) : (s.setBport k x).bport k = x := tgetD_tput_self ..

theorem outside_setBport (s : State) (k : Nat) (x : BramPort) : Outside [.fab] s (s.setBport k x) := fun p hp => by
  cases p <;> simp [State.setBport] at hp ⊢

theorem ports_countEcc (s : State) (b m w : Nat) (e d : Bool) : (countEcc s b m w e d).fab.ports = s.fab.ports := by
  unfold countEcc
  split
  · rfl
  · split
    · rfl
    · dsimp only
      split
      · simp
      · rfl

theorem bport_countEcc (s : State) (b m w : Nat) (e d : Bool) (k : Nat) : (countEcc s b m w e d).bport k = s.bport k := by
  rw [State.bport, ports_countEcc]
  rfl

/-- Whether 1 ms has passed since the bolt's last event D20h. -/
def State.dbeDue (s : State) (b : Nat) : Bool := s.fab.dbeAt.getD b 0 = 0 ∨ 1000000 ≤ s.now + 1 - s.fab.dbeAt.getD b 0

theorem outside_dbeAt (s : State) (l : List Nat) :
    Outside [.fab] s { s with fab := { s.fab with dbeAt := l } } := fun p hp => by
  cases p <;> simp at hp ⊢

theorem countEcc_double (s : State) (b m w : Nat) :
    (countEcc s b m w false true).num (0x110010 + b) 2 = (s.num (0x110010 + b) 2 + 1) % 2 ^ 32 ∧
    (countEcc s b m w false true).num (0x110010 + b) 3 = m * 1024 + w ∧
    (s.dbeDue b → Raised s (countEcc s b m w false true) 0xD20) ∧
    (¬s.dbeDue b → (countEcc s b m w false true).mgmt = s.mgmt) ∧
    EntriesOutside ((0x110010 + b, 0x110010 + b) :: eventRanges) s (countEcc s b m w false true) := by
  obtain ⟨v, hv⟩ : ∃ v, v = (s.count (0x110010 + b) 2 32 1).put (0x110010 + b) 3 (m * 1024 + w) := ⟨_, rfl⟩
  have h2 : v.num (0x110010 + b) 2 = (s.num (0x110010 + b) 2 + 1) % 2 ^ 32 := by
    rw [hv, num_put_of_apart (by decide) (by decide) (.inr (by decide)) (.inr (.inl (by decide)))]
    exact num_put_self ..
  have h3 : v.num (0x110010 + b) 3 = m * 1024 + w := by rw [hv, num_put_self]
  have hev : v.num (0x0E1000 + 0xD20) 7 = s.num (0x0E1000 + 0xD20) 7 := by
    rw [hv]
    exact (num_put_ne _ _ _ _ _ _ (by decide) (by decide) (by omega)).trans
      (num_put_ne _ _ _ _ _ _ (by decide) (by decide) (by omega))
  have he : EntriesOutside ((0x110010 + b, 0x110010 + b) :: eventRanges) s v := by
    rw [hv]
    exact ((EntriesOutside.refl _ s).then_count (by decide)).then_put (by decide)
  have hm : v.mgmt = s.mgmt := by rw [hv]; rfl
  by_cases hd : s.dbeDue b
  · have hc : countEcc s b m w false true =
        ({ v with fab := { v.fab with dbeAt := v.fab.dbeAt.set b (v.now + 1) } } : State).raise 0xD20 b (be 2 m ++ be 2 w) := by
      rw [hv]
      exact (if_neg nofun).trans ((if_neg nofun).trans (if_pos (of_decide_eq_true hd)))
    rw [hc]
    refine ⟨?_, ?_, fun _ => ?_, fun h => absurd hd h, ?_⟩
    · exact (num_raise (by decide) _ _ (by decide) (.inr (by omega))).trans ((num_with_fab ..).trans h2)
    · exact (num_raise (by decide) _ _ (by decide) (.inr (by omega))).trans ((num_with_fab ..).trans h3)
    · exact raised_after (by decide) ((num_with_fab ..).trans hev)
    · exact (he.then_cat ((outside_dbeAt v _) .cat (by decide))).then_raise (by decide)
  · have hc : countEcc s b m w false true = v := by
      rw [hv]
      exact (if_neg nofun).trans ((if_neg nofun).trans (if_neg (of_decide_eq_false (Bool.not_eq_true _ ▸ hd))))
    rw [hc]
    exact ⟨h2, h3, fun h => absurd h hd, fun _ => hm, he⟩

/-! ### Banks (R217) -/

theorem bit_or (x k : Nat) : (x ||| 2 ^ k) / 2 ^ k % 2 = 1 := by
  rw [freshBit, Nat.testBit_or, Nat.testBit_two_pow_self, Bool.or_true]

theorem bit_clear (x : Nat) {k : Nat} (hk : k < 64) : (x &&& ((2 ^ 64 - 1) ^^^ (2 ^ k % 2 ^ 64))) / 2 ^ k % 2 = 0 := by
  have h : ¬(x &&& ((2 ^ 64 - 1) ^^^ (2 ^ k % 2 ^ 64))) / 2 ^ k % 2 = 1 := by
    rw [freshBit, Nat.mod_eq_of_lt (Nat.pow_lt_pow_right (by decide) hk), Nat.testBit_and, Nat.testBit_xor,
      Nat.testBit_two_pow_self, Nat.testBit_two_pow_sub_one]
    simp [hk]
  omega

theorem bankChange_same {b k : Nat} {on : Bool} (h : (s.num 0x110002 (1 + b) / 2 ^ k % 2 == 1) = on) :
    bankChange s b k on = s :=
  if_pos h

theorem bankChange_moves {b k : Nat} (hb : b < 4) (hk : k < 64) {on : Bool}
    (h : (s.num 0x110002 (1 + b) / 2 ^ k % 2 == 1) ≠ on) :
    (bankChange s b k on).num 0x110002 (1 + b) / 2 ^ k % 2 = (if on then 1 else 0) ∧ Raised s (bankChange s b k on) 0xD21 ∧
    (∀ i a, a < 256 → i < 0x0E0000 → (bankChange s b k on).num i a = s.num i a) ∧
    Outside [.cat, .mgmt] s (bankChange s b k on) ∧
    EntriesOutside ((0x110002, 0x110002) :: eventRanges) s (bankChange s b k on) := by
  obtain ⟨x, hx⟩ : ∃ x, x = if on then s.num 0x110002 (1 + b) ||| 2 ^ k
    else s.num 0x110002 (1 + b) &&& ((2 ^ 64 - 1) ^^^ (2 ^ k % 2 ^ 64)) := ⟨_, rfl⟩
  have he : bankChange s b k on = (s.put 0x110002 (1 + b) x).raise 0xD21 (24 * b + k) (be 1 (if on then 1 else 0)) := by
    rw [hx]
    refine (if_neg h).trans ?_
    cases on <;> rfl
  rw [he]
  refine ⟨?_, ?_, fun i a ha hi => ?_, ?_, ?_⟩
  · rw [num_raise (by decide) _ _ (by omega) (.inr (by decide)), num_put_self, hx]
    cases on
    · exact bit_clear _ hk
    · exact bit_or _ _
  · exact raised_after (by decide) (num_put_ne _ _ _ _ _ _ (by omega) (by decide) (by decide))
  · exact (num_raise (by decide) _ _ ha (.inl hi)).trans (num_put_ne _ _ _ _ _ _ (by omega) ha (by omega))
  · exact ((outside_put s _ _ _).mono (by decide)).andThen (outside_raise _ _ _ _) (by decide)
  · exact ((EntriesOutside.refl _ s).then_put (by omega)).then_raise (by decide)

/-! ### A channel that is lost (R457) -/

/-- What the loss of a channel writes beside its own record: network interfaces, key slots, operations and events. -/
def lossRanges : List (Nat × Nat) := (0x090800, 0x0908FF) :: (0x0B0100, 0x0B01FF) :: (0x0F0100, 0x0F01FF) :: eventRanges

theorem events_subset_loss : eventRanges ⊆ lossRanges := by
  simp [lossRanges, eventRanges]

theorem findOp_lt {kind target k : Nat} (h : findOp s kind target = some k) : k < 64 :=
  List.mem_range.mp (List.mem_of_find?_eq_some h)

theorem entriesOutside_loss_failOp (s : State) {k : Nat} (hk : k < 64) (st d : Nat) : EntriesOutside lossRanges s
    (failOp s k st d) := by
  obtain ⟨-, -, -, -, he⟩ := failOp_spec s k st d
  intro key hkey
  refine he key fun r hr => ?_
  rcases List.mem_cons.mp hr with rfl | hr
  · have := hkey (0x0F0100, 0x0F01FF) (by simp [lossRanges])
    simp only [opIdx] at this ⊢
    omega
  · exact hkey r (events_subset_loss hr)

theorem entriesOutside_loss_putNi (s : State) {t : Nat} (ht : t < 256) (st : Nat) : EntriesOutside lossRanges s
    (putNi s t st) := by
  unfold putNi
  split
  · exact .refl _ _
  · exact (entriesOutside_put _ _ _ _ (by decide) ⟨_, .head _, Nat.le_add_right .., by dsimp only; omega⟩).trans
      ((entriesOutside_raise _ _ _ _ (by decide)).mono events_subset_loss)

theorem entriesOutside_loss_slot (s : State) {k a x : Nat} (hk : k < 256) (ha : a < 256) :
    EntriesOutside lossRanges s (s.put (slIdx k) a x) :=
  entriesOutside_put _ _ _ _ ha ⟨_, .tail _ (.head _), by simp only [slIdx]; omega, by simp only [slIdx]; omega⟩

theorem entriesOutside_loss_putSlot (s : State) {k : Nat} (hk : k < 256) (st : Nat) :
    EntriesOutside lossRanges s (putSlot s k st) := by
  unfold putSlot
  split
  · exact .refl _ _
  · refine EntriesOutside.trans ?_ (((entriesOutside_loss_slot _ hk (by decide))).trans
      ((entriesOutside_raise _ _ _ _ (by decide)).mono events_subset_loss))
    split
    · exact entriesOutside_loss_slot _ hk (by decide)
    · exact .refl _ _

theorem entriesOutside_loss_releaseHeld (s : State) {k : Nat} (hk : k < 256) : EntriesOutside lossRanges s
    (releaseHeld s k) := by
  unfold releaseHeld
  extract_lets mine held w v
  refine (EntriesOutside.of_cat (t := v) rfl).trans ((entriesOutside_foldl _ _ _ fun u p _ => ?_).trans (.of_cat rfl))
  refine EntriesOutside.trans (t := noteBarred u p k) ?_ (.of_cat (by simp))
  exact (EntriesOutside.of_cat rfl).trans ((entriesOutside_count _ _ _ _ _ (by decide)
    ⟨_, .tail _ (.head _), by simp only [slIdx]; omega, by simp only [slIdx]; omega⟩).trans
    ((entriesOutside_raiseAtMost _ _ _ _ _ (by decide)).mono events_subset_loss))

theorem entriesOutside_loss_failSlot (s : State) {k : Nat} (hk : k < 256) (cause : Nat) :
    EntriesOutside lossRanges s (failSlot s k cause) := by
  unfold failSlot
  split
  · exact .refl _ _
  · extract_lets w
    have hw : EntriesOutside lossRanges s w :=
      ((entriesOutside_loss_putSlot s hk _).trans ((entriesOutside_raise _ _ _ _ (by decide)).mono events_subset_loss)).trans
        (entriesOutside_loss_releaseHeld _ hk)
    split
    · next o ho => exact hw.trans (entriesOutside_loss_failOp _ (findOp_lt ho) _ _)
    · exact hw

/-- Everything that follows the state of a lost channel. -/
theorem loseChannel_spec {c : Nat} (hc : c < 256) (s : State) (cause : Nat) :
    EntriesOutside lossRanges ((putMc s c mcLost).raise 0xB05 c (be 1 cause)) (loseChannel s c cause) := by
  unfold loseChannel
  extract_lets v w x y z
  have hx : EntriesOutside lossRanges v w := (entriesOutside_loss_putNi v hc niOffline).then_cat (by simp [w])
  have hy : EntriesOutside lossRanges v y := hx.then_cat (by simp [y, x])
  have hz : EntriesOutside lossRanges v z := by
    unfold z
    clear_value y
    split
    · next o ho => exact hy.trans (entriesOutside_loss_failOp _ (findOp_lt ho) _ _)
    · exact hy
  clear_value z
  unfold slotsLose
  refine hz.trans (entriesOutside_foldl _ _ _ fun u k hk => ?_)
  have := List.mem_range.mp hk
  split
  · exact entriesOutside_loss_failSlot _ (by omega) _
  · exact .refl _ _

theorem bramRead_live {b m word flips : Nat} {portB : Bool} {d : BramDef} (hr : s.clocksRun = true)
    (hd : tget s.cfg.compiled.brams (b * 3072 + m) = some d) (he : d.ecc = true)
    (hi : insideIsolated s (·.mems) (b * 3072 + m) = false) {k : Nat}
    (hk : k = 2 * (b * 3072 + m) + (if portB then 1 else 0)) {r : Nat × Bool × Bool}
    (hrd : r = eccRead (s.bramWord (b * 3072 + m) word) flips) :
    bramRead s b m word portB flips = countEcc (s.setBport k { (s.bport k).take (if portB then d.b.reg else d.a.reg) r.1 with
      sbe := r.2.1, dbe := r.2.2 }) b m word r.2.1 r.2.2 := by
  unfold bramRead
  dsimp only
  rw [hd, hk, hrd]
  exact if_neg (by simp [hr, he, hi])

theorem putMc_lost (s : State) {c : Nat} (hc : c < 256) : (putMc s c mcLost).mcState c = mcLost := by
  unfold putMc
  split
  · assumption
  · exact (num_raise (by decide) _ _ (by decide) (.inl (by simp only [mchIdx]; omega))).trans (num_put_self ..)

theorem num_putMc_bank (s : State) {c : Nat} (hc : c < 256) (st : Nat) {a : Nat} (ha : a < 256) :
    (putMc s c st).num 0x110002 a = s.num 0x110002 a := by
  unfold putMc
  split
  · rfl
  · exact (num_raise (by decide) _ _ ha (.inr (by decide))).trans
      (num_put_ne _ _ _ _ _ _ (by decide) ha (by simp only [mchIdx]; omega))

theorem outside_loseChannel (s : State) (c cause : Nat) : Outside [.cat, .mgmt, .noc, .mem, .itg] s (loseChannel s c cause) :=
  fun p hp => by cases p <;> simp at hp ⊢

theorem lostChannel_spec {c : Nat} (hc : c < 256) (cause : Nat) : (loseChannel s c cause).mcState c = mcLost ∧
    ∀ a, a < 256 → (loseChannel s c cause).num 0x110002 a = s.num 0x110002 a := by
  have he := loseChannel_spec hc s cause
  obtain ⟨v, hv⟩ : ∃ v, v = (putMc s c mcLost).raise 0xB05 c (be 1 cause) := ⟨_, rfl⟩
  have hvo : Outside [.cat, .mgmt] s v := by
    rw [hv]
    exact fun p hp => by cases p <;> simp at hp ⊢
  have hmc : v.mcState c = mcLost := by
    rw [hv]
    exact (num_raise (by decide) _ _ (by decide) (.inl (by simp only [mchIdx]; omega))).trans (putMc_lost s hc)
  have hbank : ∀ a, a < 256 → v.num 0x110002 a = s.num 0x110002 a := fun a ha => by
    rw [hv]
    exact (num_raise (by decide) _ _ ha (.inr (by decide))).trans (num_putMc_bank s hc _ ha)
  have ho := outside_loseChannel s c cause
  rw [← hv] at he
  have hnum : ∀ i a, a < 256 → (∀ r ∈ lossRanges, ¬(r.1 ≤ i ∧ i ≤ r.2)) → (loseChannel s c cause).num i a = v.num i a :=
    fun i a ha hi => num_outside he ((ho .unit (by decide)).trans (hvo .unit (by decide)).symm)
      ((ho .pwr (by decide)).trans (hvo .pwr (by decide)).symm) ((ho .cfg (by decide)).trans (hvo .cfg (by decide)).symm) i a ha hi
  refine ⟨(hnum _ _ (by decide) fun r hr => ?_).trans hmc, fun a ha => (hnum _ _ ha (by decide)).trans (hbank a ha)⟩
  simp only [lossRanges, eventRanges, List.mem_cons, List.not_mem_nil, or_false] at hr
  rcases hr with rfl | rfl | rfl | rfl | rfl | rfl <;> simp only [mchIdx] <;> omega

/-- Settles O30: the counts of a bolt, the bit of a bank and the record of a pin are each written once. -/
theorem banksMemoriesAndTallies : Obligations.BanksMemoriesAndTallies := by
  unfold Obligations.BanksMemoriesAndTallies
  refine ⟨?read, ?on, ?off, ?lose, ?tally⟩
  case read =>
    intro s b m word portB flips d p hr hd hecc hi hp
    obtain ⟨k, hk⟩ : ∃ k, k = 2 * (b.val * 3072 + m.val) + (if portB then 1 else 0) := ⟨_, rfl⟩
    obtain ⟨r, hrd⟩ : ∃ r, r = eccRead (s.bramWord (b * 3072 + m) word) flips.toNat := ⟨_, rfl⟩
    have he := bramRead_live hr hd hecc hi hk hrd
    rw [← hk] at hp
    obtain ⟨n, hn⟩ : ∃ n, n = ones72 flips.toNat := ⟨_, rfl⟩
    have hr1 : r.2.1 = (n == 1) := by rw [hrd, hn]; rfl
    have hr2 : r.2.2 = decide (2 ≤ n) := by rw [hrd, hn]; rfl
    have hrv : n ≤ 1 → r.1 = eccData (s.bramWord (b * 3072 + m) word) := fun h => by
      rw [hrd]
      exact congrArg eccData (if_pos (hn ▸ h))
    obtain ⟨y, hy⟩ : ∃ y, y = { (s.bport k).take (if portB then d.b.reg else d.a.reg) r.1 with sbe := r.2.1, dbe := r.2.2 } := ⟨_, rfl⟩
    rw [← hy] at he
    have hvo := outside_setBport s k y
    have hport : (countEcc (s.setBport k y) b m word r.2.1 r.2.2).bport k = y := by rw [bport_countEcc, bport_setBport]
    rw [← hk, ← hn]
    refine ⟨_, congrArg Host.Outcome.next he, fun x hx => ?_, fun h0 => ?_, fun h1 => ?_, fun h2 => ?_, ?_, ?_⟩
    · rw [hx, hport, hy]
      refine ⟨hr1, (congrArg (· = true) hr2).trans decide_eq_true_eq, fun h => ⟨fun hreg => ?_, fun hreg => ?_⟩⟩
      · rw [hreg]
        exact hrv h
      · rw [hreg, hp]
        exact ⟨rfl, hrv h⟩
    · have hs : r.2.1 = false := by rw [hr1, h0]; rfl
      have hd' : r.2.2 = false := by rw [hr2, h0]; rfl
      rw [hs, hd', countEcc_clean]
      exact hvo
    · have hs : r.2.1 = true := by rw [hr1, h1]; rfl
      have hc : countEcc (s.setBport k y) b m word r.2.1 r.2.2 = (s.setBport k y).count (0x110010 + b) 1 32 1 := if_pos hs
      rw [hc]
      refine ⟨num_put_self .., (hvo.mono (by decide)).andThen (outside_count _ _ _ _ _) (by decide), ?_⟩
      exact (EntriesOutside.of_cat (hvo .cat (by decide))).then_count (by decide)
    · obtain ⟨e1, e2, e3, e4, -⟩ := countEcc_double (s.setBport k y) b m word
      have hs : r.2.1 = false := by rw [hr1, beq_eq_false_iff_ne]; omega
      have hd' : r.2.2 = true := by rw [hr2]; exact decide_eq_true h2
      rw [hs, hd']
      exact ⟨e1, e2, fun h => e3 (decide_eq_true h), fun h => e4 fun hx => h (of_decide_eq_true hx)⟩
    · exact (hvo.mono (by decide)).andThen (outside_countEcc _ _ _ _ _ _) (by decide)
    · refine (EntriesOutside.of_cat (hvo .cat (by decide))).trans ?_
      cases r.2.1
      · cases r.2.2
        · exact .refl _ _
        · exact (countEcc_double (s.setBport k y) b m word).2.2.2.2
      · exact (EntriesOutside.refl _ _).then_count (by decide)
  case on =>
    intro s b k
    by_cases h : (s.num 0x110002 (1 + b) / 2 ^ k.val % 2 == 1) = true
    · rw [beq_iff_eq] at h
      exact ⟨s, congrArg Host.Outcome.next (bankChange_same (by rw [h]; rfl)), h, fun h0 => by omega, fun _ => rfl, .refl _ _,
        .refl _ _⟩
    · obtain ⟨h1, h2, -, h4, h5⟩ := bankChange_moves b.isLt (by omega) h
      rw [beq_iff_eq] at h
      exact ⟨_, rfl, h1, fun _ => h2, fun h' => absurd h' h, h4, h5⟩
  case off =>
    intro s b k hst
    have hmc : ∀ v : State, v = bankChange s b k false → v.mcState (8 * b + k) = s.mcState (8 * b + k) := fun v hv => by
      by_cases h : (s.num 0x110002 (1 + b) / 2 ^ k.val % 2 == 1) = false
      · rw [hv, bankChange_same h]
      · obtain ⟨-, -, h3, -, -⟩ := bankChange_moves b.isLt (by omega) h
        rw [hv]
        exact h3 _ _ (by decide) (by simp only [mchIdx]; omega)
    have he : exec (.bankUnpowered b k) s = .next (bankChange s b k false) := by
      refine congrArg Host.Outcome.next ?_
      dsimp only
      rw [hmc _ rfl]
      refine if_neg fun h => ?_
      rcases hst with h' | h' | h'
      · omega
      · rw [h'] at h
        exact absurd h.2 (by decide)
      · rw [h'] at h
        exact absurd h.2 (by decide)
    by_cases h : (s.num 0x110002 (1 + b) / 2 ^ k.val % 2 == 1) = false
    · rw [bankChange_same h] at he
      rw [beq_eq_false_iff_ne] at h
      exact ⟨s, he, by omega, fun h0 => by omega, fun _ => rfl, .refl _ _, .refl _ _⟩
    · obtain ⟨h1, h2, -, h4, h5⟩ := bankChange_moves b.isLt (by omega) h
      rw [beq_eq_false_iff_ne] at h
      exact ⟨_, he, h1, fun _ => h2, fun h' => by omega, h4, h5⟩
  case lose =>
    intro s b k hk hst
    have hbank : (bankChange s b k false).num 0x110002 (1 + b) / 2 ^ k.val % 2 = 0 ∧
        (bankChange s b k false).mcState (8 * b + k) = s.mcState (8 * b + k) := by
      by_cases h : (s.num 0x110002 (1 + b) / 2 ^ k.val % 2 == 1) = false
      · rw [bankChange_same h]
        rw [beq_eq_false_iff_ne] at h
        exact ⟨by omega, rfl⟩
      · obtain ⟨h1, -, h3, -, -⟩ := bankChange_moves b.isLt (by omega) h
        exact ⟨h1, h3 _ _ (by decide) (by simp only [mchIdx]; omega)⟩
    obtain ⟨hb, hm⟩ := hbank
    have he : exec (.bankUnpowered b k) s = .next (loseChannel (bankChange s b k false) (8 * b + k) 1) := by
      refine congrArg Host.Outcome.next ?_
      dsimp only
      rw [hm]
      exact if_pos ⟨hk, hst⟩
    obtain ⟨h1, h2⟩ := lostChannel_spec (s := bankChange s b k false) (c := 8 * b + k) (by omega) 1
    exact ⟨_, he, by rw [h2 _ (by omega)]; exact hb, h1⟩
  case tally =>
    intro s r p v hw
    refine does_write rfl hw rfl fun u hu => ⟨hu.ok, ?_, ?_, ?_⟩
    · exact (hu.num ..).trans (num_write_self ..)
    · exact ((outside_write s _ _).mono (by decide)).andThen hu.outside (by decide)
    · exact (entriesOutside_write _ _ _ _ (by decide) ⟨_, .head _, le_rfl, le_rfl⟩).then_cat hu.cat

end Sys2Proof.Machine
end

section
/-! References, and what coasting does to the domains (R229 to R234, R240, R241). -/

namespace Sys2Proof.Machine

variable {s t u : State} {ms : List Nat} {i a d : Nat}

/-! ### Which event counts may move -/

/-- No event but those listed, and the loss of records, has counted. -/
def EventsBut (ms : List Nat) (s t : State) : Prop :=
  ∀ m, m < 4096 → m ≠ 0x040 → m ∉ ms → t.num (0x0E1000 + m) 7 = s.num (0x0E1000 + m) 7

theorem EventsBut.refl (ms : List Nat) (s : State) : EventsBut ms s s := fun _ _ _ _ => rfl

theorem EventsBut.trans (h : EventsBut ms s t) (h' : EventsBut ms t u) : EventsBut ms s u := fun m hm h40 hn =>
  (h' m hm h40 hn).trans (h m hm h40 hn)

theorem EventsBut.mono {ns : List Nat} (h : EventsBut ms s t) (hs : ms ⊆ ns) : EventsBut ns s t := fun m hm h40 hn =>
  h m hm h40 fun hi => hn (hs hi)

theorem EventsBut.of_cat (h : t.cat = s.cat) : EventsBut ms s t := fun _ hm _ _ => num_event_of_cat hm h

theorem EventsBut.of_raise (s : State) {n unit : Nat} {b : List Byte} (h : n ∈ ms) : EventsBut ms s (s.raise n unit b) :=
  fun _ _ h40 hn => num_raise_other _ h40 (fun he => hn (he ▸ h)) (by decide)

theorem EventsBut.of_put (s : State) {x : Nat} (ha : a < 256) (hi : i < 0x0E1000 ∨ 0x0E1FFF < i) : EventsBut ms s
    (s.put i a x) :=
  fun _ hm _ _ => num_put_ne _ _ _ _ _ _ ha (by decide) (by omega)

theorem EventsBut.of_entries {rs : List (Nat × Nat)} (h : EntriesOutside rs s t)
    (hr : ∀ r ∈ rs, r.2 < 0x0E1000 ∨ 0x0E1FFF < r.1)
    (hu : t.unit = s.unit) (hp : t.pwr = s.pwr) (hc : t.cfg = s.cfg) : EventsBut ms s t := fun m hm _ _ =>
  num_outside h hu hp hc _ _ (by decide) fun r hrm => by
    have := hr r hrm
    omega

theorem EventsBut.of_latchBits (s : State) {m : Nat} (ha : a < 256) (hi : i < 0x0E1000 ∨ 0x0E1FFF < i) :
    EventsBut ms s (s.latchBits i a m) := (EventsBut.of_put s (x := s.num i a ||| m) ha hi).trans (.of_cat rfl)

theorem EventsBut.foldl {α : Type} (f : State → α → State) (l : List α) (s : State) (h : ∀ s, ∀ x ∈ l, EventsBut ms s (f s x)) :
    EventsBut ms s (l.foldl f s) := fun m hm h40 hn =>
  foldl_keeps (·.num (0x0E1000 + m) 7) (fun s x hx => h s x hx m hm h40 hn) s

theorem EventsBut.raised {n unit : Nat} {b : List Byte} (h : EventsBut ms s t) (hn : n < 4096) (h40 : n ≠ 0x040) (hm : n ∉ ms) :
    Raised s (t.raise n unit b) n := raised_after h40 (h n hn h40 hm)

theorem Raised.then_events {n : Nat} (h : Raised s t n) (h' : EventsBut ms t u) (hn : n < 4096) (h40 : n ≠ 0x040)
    (hm : n ∉ ms) :
    Raised s u n := h.congr (h' n hn h40 hm)

theorem Raised.after_events {n : Nat} (h : EventsBut ms s t) (h' : Raised t u n) (hn : n < 4096) (h40 : n ≠ 0x040)
    (hm : n ∉ ms) :
    Raised s u n := by
  rw [Raised, h', h n hn h40 hm]

theorem EventsBut.of_finishCmd (s : State) (c : TimedCmd) (st : Nat) (h10 : 0x010 ∈ ms) (h482 : 0x482 ∈ ms) :
    EventsBut ms s (finishCmd s c st) := by
  have hd : EventsBut ms s (raiseDone s c st) := fun m _ h40 hn =>
    num_raiseWith_other _ h40 (fun he => hn (he ▸ h10)) (by decide)
  refine hd.trans ?_
  unfold finishCmd takeOutcome
  split
  · exact .refl _ _
  · next e he =>
    have hr : 0x074000 ≤ c.key / 256 ∧ c.key / 256 ≤ 0x07BFFF ∧ c.key % 256 = 0 := by
      unfold takeEngine at he
      split at he
      · assumption
      · exact absurd he nofun
    obtain ⟨w, hw⟩ : ∃ w, w = ((raiseDone s c st).put (c.key / 256) 9 c.pick).put (c.key / 256) 0x0A st := ⟨_, rfl⟩
    have hp : EventsBut ms (raiseDone s c st) w := by
      rw [hw]
      exact (EventsBut.of_put _ (by decide) (.inl (by omega))).trans (.of_put _ (by decide) (.inl (by omega)))
    dsimp only
    rw [← hw]
    split
    · exact hp
    · exact hp.trans (.of_raise w h482)

/-! ### What coasting may touch -/

/-- The events that coasting domains and loops may count. -/
def coastEvents : List Nat := [0x010, 0x482, 0x147, 0x116, 0x144, 0x149]

/-- The records that coasting may write: those of domains and user loops, takes and events. -/
def coastRanges : List (Nat × Nat) := (0x040100, 0x040107) :: (0x040300, 0x04031F) :: finishRanges

/-- A change within what coasting may touch: of the clocks only domains and user loops. -/
structure CoastStep (s t : State) : Prop where
  outside : Outside [.cat, .mgmt, .clk] s t
  entries : EntriesOutside coastRanges s t
  events : EventsBut coastEvents s t
  clk : ∃ ds us, t.clk = { s.clk with domains := ds, uloops := us }

namespace CoastStep

theorem refl (s : State) : CoastStep s s := ⟨.refl _ _, .refl _ _, .refl _ _, ⟨_, _, rfl⟩⟩

theorem trans (h : CoastStep s t) (h' : CoastStep t u) : CoastStep s u := by
  refine ⟨h.outside.trans h'.outside, h.entries.trans h'.entries, h.events.trans h'.events, ?_⟩
  obtain ⟨d1, u1, e1⟩ := h.clk
  obtain ⟨d2, u2, e2⟩ := h'.clk
  exact ⟨d2, u2, by rw [e2, e1]⟩

theorem foldl {α : Type} (f : State → α → State) (l : List α) (h : ∀ s, ∀ x ∈ l, CoastStep s (f s x)) :
    ∀ s, CoastStep s (l.foldl f s) := by
  induction l with
  | nil => exact refl
  | cons x xs ih => exact fun s => (h s x (.head _)).trans (ih (fun s y hy => h s y (.tail _ hy)) _)

theorem setDom (s : State) (d : Nat) (f : Domain → Domain) : CoastStep s (s.setDom d f) :=
  ⟨fun p hp => by cases p <;> simp at hp ⊢, .of_cat rfl, .of_cat rfl, ⟨_, _, rfl⟩⟩

theorem setUloop (s : State) (l : Nat) (f : ULoop → ULoop) : CoastStep s (s.setUloop l f) :=
  ⟨fun p hp => by cases p <;> simp [State.setUloop] at hp ⊢, .of_cat rfl, .of_cat rfl, ⟨_, _, rfl⟩⟩

theorem raise (s : State) {n unit : Nat} {b : List Byte} (hn : n ∈ coastEvents) : CoastStep s (s.raise n unit b) := by
  refine ⟨(outside_raise _ _ _ _).mono (by decide), ?_, .of_raise _ hn, ⟨_, _, by simp; rfl⟩⟩
  refine (entriesOutside_raise _ _ _ _ ?_).mono (by simp [coastRanges, finishRanges, eventRanges])
  simp only [coastEvents, List.mem_cons, List.not_mem_nil, or_false] at hn
  omega

theorem put (s : State) {x : Nat} (hd : d < 8) (ha : a < 256) : CoastStep s (s.put (domIdx d) a x) := by
  refine ⟨(outside_put s _ _ _).mono (by decide), ?_, .of_put _ ha (.inl (by simp only [domIdx]; omega)), ⟨_, _, rfl⟩⟩
  exact entriesOutside_put _ _ _ _ ha ⟨_, .head _, by simp only [domIdx]; omega, by simp only [domIdx]; omega⟩

theorem putUloop (s : State) {l x : Nat} (hl : l < 32) (ha : a < 256) : CoastStep s (s.put (uloopIdx l) a x) := by
  refine ⟨(outside_put s _ _ _).mono (by decide), ?_, .of_put _ ha (.inl (by simp only [uloopIdx]; omega)), ⟨_, _, rfl⟩⟩
  exact entriesOutside_put _ _ _ _ ha ⟨_, .tail _ (.head _), by simp only [uloopIdx]; omega, by simp only [uloopIdx]; omega⟩

theorem latch (s : State) {m : Nat} (hd : d < 8) (ha : a < 256) : CoastStep s (s.latchBits (domIdx d) a m) := by
  refine ⟨fun p hp => by cases p <;> simp at hp ⊢, (put s (x := s.num (domIdx d) a ||| m) hd ha).entries.then_cat rfl,
    .of_latchBits s ha (.inl (by simp only [domIdx]; omega)), ⟨_, _, rfl⟩⟩

theorem finishCmd (s : State) (c : TimedCmd) (st : Nat) : CoastStep s (finishCmd s c st) := by
  refine ⟨fun p hp => by cases p <;> simp at hp ⊢, ?_, .of_finishCmd _ _ _ (by decide) (by decide), ⟨_, _, by simp; rfl⟩⟩
  exact (entriesOutside_finishCmd _ _ _).mono (by simp [coastRanges, finishRanges, eventRanges])

theorem finishStep (s : State) (d : Nat) : CoastStep s (finishStep s d) := by
  unfold Machine.finishStep
  extract_lets x v w
  split
  · exact refl s
  · exact ((setDom s d _).trans (raise v (by decide))).trans (foldl _ _ (fun s c _ => finishCmd s c stOk) _)

theorem finishSteps (s : State) : CoastStep s (finishSteps s) := by
  refine foldl _ _ (fun s d _ => ?_) s
  split
  · split
    · exact finishStep s d
    · exact refl s
  · exact refl s

theorem abandonStep (s : State) (hd : d < 8) : CoastStep s (abandonStep s d) := by
  unfold Machine.abandonStep
  extract_lets x v w
  have hv : CoastStep s v := setDom s d _
  exact ((hv.trans (latch v hd (by decide))).trans (raise _ (by decide))).trans (foldl _ _ (fun s c _ => finishCmd s c stBusy) _)

end CoastStep

/-- A domain that coasts, once the step under way is settled (R240). -/
def State.coasted (s : State) (d cause : Nat) : State :=
  let op := (s.dom d).setOp
  let s := ((s.put (domIdx d) 9 op).put (domIdx d) 2 0).putDomState d dCoasting
  let s := (s.latchBits (domIdx d) 0x0A 2).count (domIdx d) 0x0B 32 1
  let s := s.setDom d fun x => { x with locked := false, changed := false, restore := false }
  s.raise 0x144 d (be 1 op ++ be 1 cause)

/-- The step under way of a domain that coasts, abandoned (R241). -/
def State.stepSettled (s : State) (d : Nat) : State :=
  if ((finishSteps s).dom d).stepAt.isSome then abandonStep (finishSteps s) d else finishSteps s

theorem coast_idle {cause : Nat} (h : s.domState d = dCoasting ∨ (s.dom d).started = false) : coast s d cause = s :=
  if_pos (h.imp_right fun h => by simp [h])

theorem coast_moves {cause : Nat} (h : s.domState d ≠ dCoasting) (hs : (s.dom d).started = true) :
    coast s d cause = (s.stepSettled d).coasted d cause :=
  if_neg (by simp [h, hs])

namespace CoastStep

theorem stepSettled (s : State) (hd : d < 8) : CoastStep s (s.stepSettled d) := by
  unfold State.stepSettled
  split
  · exact (finishSteps s).trans (abandonStep _ hd)
  · exact finishSteps s

theorem coasted (s : State) (hd : d < 8) (cause : Nat) : CoastStep s (s.coasted d cause) := by
  unfold State.coasted
  extract_lets op v w x
  have hv : CoastStep s v := ((put s hd (by decide)).trans (put _ hd (by decide))).trans (put _ hd (by decide))
  have hw : CoastStep s w := (hv.trans (latch v hd (by decide))).trans (put _ hd (by decide))
  exact (hw.trans (setDom w d _)).trans (raise _ (by decide))

theorem coast (s : State) (hd : d < 8) (cause : Nat) : CoastStep s (coast s d cause) := by
  by_cases h : s.domState d = dCoasting ∨ (s.dom d).started = false
  · rw [coast_idle h]
    exact refl s
  · rw [coast_moves (fun h' => h (.inl h')) (by simpa using fun h' => h (.inr h'))]
    exact (stepSettled s hd).trans (coasted _ hd cause)

theorem uloopCoast (s : State) {l : Nat} (hl : l < 32) (cause : Nat) : CoastStep s (uloopCoast s l cause) := by
  unfold Machine.uloopCoast
  split
  · exact ((putUloop s hl (by decide)).trans (setUloop _ _ _)).trans (raise _ (by decide))
  · exact refl s

theorem coastAll (s : State) : CoastStep s (coastAll s) := by
  unfold Machine.coastAll
  refine (foldl _ _ (fun s d hd => coast s (List.mem_range.mp hd) 1) s).trans (foldl _ _ (fun s l hl => ?_) _)
  split
  · exact uloopCoast s (List.mem_range.mp hl) 1
  · exact refl s

theorem num (h : CoastStep s t) (ha : a < 256) (hi : ∀ r ∈ coastRanges, ¬(r.1 ≤ i ∧ i ≤ r.2)) : t.num i a = s.num i a :=
  num_outside h.entries (h.outside .unit (by decide)) (h.outside .pwr (by decide)) (h.outside .cfg (by decide)) i a ha hi

end CoastStep

/-! ### What coasting leaves of each domain -/

theorem dom_congr_clk (h : t.clk = s.clk) (d : Nat) : t.dom d = s.dom d := by
  rw [State.dom, h]
  rfl

theorem setDom_short (h : ¬d < s.clk.domains.length) (f : Domain → Domain) (e : Nat) : (s.setDom d f).dom e = s.dom e := by
  by_cases he : d = e
  · subst he
    have h1 : (s.setDom d f).clk.domains.length = s.clk.domains.length := List.length_modify ..
    rw [State.dom, State.dom, List.getD_eq_default _ _ (by omega), List.getD_eq_default _ _ (by omega)]
  · exact dom_setDom_ne s d e f he

theorem view_setDom {β : Type} (g : Domain → β) {f : Domain → Domain} (hf : ∀ x, g (f x) = g x) (s : State) (d e : Nat) :
    g ((s.setDom d f).dom e) = g (s.dom e) := by
  by_cases h : d < s.clk.domains.length
  · by_cases he : d = e
    · subst he
      rw [dom_setDom_self s d f h, hf]
    · rw [dom_setDom_ne s d e f he]
  · rw [setDom_short h]

theorem dom_finishAll (l : List TimedCmd) (st : Nat) (s : State) (d : Nat) :
    (l.foldl (fun s c => finishCmd s c st) s).dom d = s.dom d :=
  foldl_keeps (fun s : State => s.dom d) (fun s c _ => dom_congr_clk (by simp) d) s

theorem num_finishAll (l : List TimedCmd) (st : Nat) (s : State) (ha : a < 256) (hi : i < 0x074000) :
    (l.foldl (fun s c => finishCmd s c st) s).num i a = s.num i a :=
  foldl_keeps (fun s : State => s.num i a) (fun s c _ => num_finishCmd c st i a ha (.inl (by omega)) (.inl hi)) s

theorem dom_finishStep (s : State) (d e : Nat) :
    (finishStep s d).dom e = (s.setDom d fun x => if x.stepAt.isNone then x else { x with stepAt := none, carried := [] }).dom e := by
  unfold finishStep
  extract_lets x v w
  by_cases h : x.stepAt.isNone = true
  · rw [if_pos h]
    by_cases hl : d < s.clk.domains.length
    · by_cases he : d = e
      · subst he
        rw [dom_setDom_self _ _ _ hl, if_pos h]
      · rw [dom_setDom_ne _ _ _ _ he]
    · rw [setDom_short hl]
  · rw [if_neg h, dom_finishAll]
    refine (dom_congr_clk (s := v) (t := w) (by simp [w]) e).trans ?_
    by_cases hl : d < s.clk.domains.length
    · by_cases he : d = e
      · subst he
        rw [dom_setDom_self _ _ _ hl, dom_setDom_self _ _ _ hl, if_neg h]
      · rw [dom_setDom_ne _ _ _ _ he, dom_setDom_ne _ _ _ _ he]
    · rw [setDom_short hl, setDom_short hl]

/-- A view of a domain that a finished step leaves as it was is left so by all of them. -/
theorem view_finishSteps {β : Type} (g : Domain → β) (hg : ∀ x, g { x with stepAt := none, carried := [] } = g x) (s : State)
    (e : Nat) :
    g ((finishSteps s).dom e) = g (s.dom e) := by
  refine foldl_keeps (fun s : State => g (s.dom e)) (fun s d _ => ?_) s
  split
  · split
    · rw [dom_finishStep]
      exact view_setDom g (fun x => by split <;> simp [hg]) s d e
    · rfl
  · rfl

theorem view_abandonStep {β : Type} (g : Domain → β)
    (hg : ∀ x, g { x with stepAt := none, carried := [], setOp := x.stepFrom } = g x)
    (s : State) (d e : Nat) : g ((abandonStep s d).dom e) = g (s.dom e) := by
  unfold abandonStep
  extract_lets x v w
  rw [dom_finishAll]
  exact (congrArg g (dom_congr_clk (s := v) (t := w) (by simp [w, changeFailed]) e)).trans (view_setDom g hg s d e)

theorem view_coasted {β : Type} (g : Domain → β)
    (hg : ∀ x, g { x with locked := false, changed := false, restore := false } = g x)
    (s : State) (d e cause : Nat) : g ((s.coasted d cause).dom e) = g (s.dom e) := by
  unfold State.coasted
  extract_lets op v w x
  have hw : w.clk = s.clk := by simp [w, v]
  refine (congrArg g (dom_congr_clk (s := x) (by simp) e)).trans ((view_setDom g hg w d e).trans ?_)
  rw [dom_congr_clk hw]

theorem started_coast (s : State) (d e cause : Nat) : ((coast s d cause).dom e).started = (s.dom e).started := by
  by_cases h : s.domState d = dCoasting ∨ (s.dom d).started = false
  · rw [coast_idle h]
  · rw [coast_moves (fun h' => h (.inl h')) (by simpa using fun h' => h (.inr h')), view_coasted (·.started) fun _ => rfl]
    unfold State.stepSettled
    split
    · rw [view_abandonStep (·.started) fun _ => rfl, view_finishSteps (·.started) fun _ => rfl]
    · rw [view_finishSteps (·.started) fun _ => rfl]

theorem num_latchBits_self (s : State) (i a m : Nat) : (s.latchBits i a m).num i a = s.num i a ||| m := num_put_self ..

theorem num_abandonStep (s : State) (ha : a < 256) (hi : i < 0x074000) :
    (abandonStep s d).num i a = if i = domIdx d ∧ a = 0x0A then s.num i a ||| 4 else s.num i a := by
  unfold abandonStep
  extract_lets x v w
  rw [num_finishAll _ _ _ ha hi, num_raise (by decide) _ _ ha (.inl (by omega))]
  have hv : ∀ i a, v.num i a = s.num i a := fun i a => num_setDom ..
  split
  · next h =>
    rw [h.1, h.2]
    exact (num_latchBits_self ..).trans (by rw [hv])
  · next h => exact (num_latchBits_of_apart (by decide) ha (by omega) (by omega)).trans (hv _ _)

theorem num_stepSettled (s : State) (ha : a < 256) (hi : i < 0x074000) (hne : i ≠ domIdx d ∨ a ≠ 0x0A) :
    (s.stepSettled d).num i a = s.num i a := by
  unfold State.stepSettled
  split
  · rw [num_abandonStep _ ha hi, if_neg (by omega), num_finishSteps _ _ _ ha (.inl (by omega)) (.inl hi)]
  · exact num_finishSteps _ _ _ ha (.inl (by omega)) (.inl hi)

theorem coasted_spec (s : State) (hd : d < 8) (cause : Nat) :
    (s.coasted d cause).domState d = dCoasting ∧ (s.coasted d cause).num (domIdx d) 2 = 0 ∧
    (s.coasted d cause).num (domIdx d) 9 = (s.dom d).setOp ∧
    (s.coasted d cause).num (domIdx d) 0x0A = s.num (domIdx d) 0x0A ||| 2 ∧
    (s.coasted d cause).num (domIdx d) 0x0B = (s.num (domIdx d) 0x0B + 1) % 2 ^ 32 ∧
    Raised s (s.coasted d cause) 0x144 ∧
    (∀ i a, a < 256 → i < 0x074000 → i ≠ domIdx d → (s.coasted d cause).num i a = s.num i a) := by
  have hlow : domIdx d < 0x0E0000 := by simp only [domIdx]; omega
  unfold State.coasted
  extract_lets op v w x
  have hx : ∀ i a, x.num i a = w.num i a := fun i a => num_setDom ..
  have hr : ∀ i a, a < 256 → i < 0x0E0000 → (x.raise 0x144 d (be 1 op ++ be 1 cause)).num i a = w.num i a := fun i a ha hi =>
    (num_raise (by decide) _ _ ha (.inl hi)).trans (hx _ _)
  have hw : ∀ i a, a < 256 → (i ≠ domIdx d ∨ a ≠ 0x0A ∧ a ≠ 0x0B) → w.num i a = v.num i a := fun i a ha h =>
    (num_count_of_apart (by decide) ha (by omega) (by omega)).trans (num_latchBits_of_apart (by decide) ha (by omega) (by omega))
  have hv : ∀ i a, a < 256 → (i ≠ domIdx d ∨ a ≠ 2 ∧ a ≠ 3 ∧ a ≠ 9) → v.num i a = s.num i a := fun i a ha h =>
    (num_put_of_apart (by decide) ha (by omega) (by omega)).trans
      ((num_put_of_apart (by decide) ha (by omega) (by omega)).trans (num_put_of_apart (by decide) ha (by omega) (by omega)))
  have h2 : v.num (domIdx d) 2 = 0 := (num_put_of_apart (by decide) (by decide) (.inr (by decide)) (.inr (.inl (by decide)))).trans
    (num_put_self ..)
  have h9 : v.num (domIdx d) 9 = op := (num_put_of_apart (by decide) (by decide) (.inr (by decide)) (.inr (.inl (by decide)))).trans
    ((num_put_of_apart (by decide) (by decide) (.inr (by decide)) (.inr (.inl (by decide)))).trans (num_put_self ..))
  have hev : EventsBut [] s x :=
    ((((EventsBut.of_put s (by decide) (.inl (by simp only [domIdx]; omega))).trans
      (.of_put _ (by decide) (.inl (by simp only [domIdx]; omega)))).trans
      (.of_put _ (by decide) (.inl (by simp only [domIdx]; omega)))).trans
      (EventsBut.of_latchBits v (by decide) (.inl (by simp only [domIdx]; omega)))).trans
      ((EventsBut.of_put _ (by decide) (.inl (by simp only [domIdx]; omega))).trans (.of_cat rfl))
  refine ⟨?_, ?_, ?_, ?_, ?_, hev.raised (by decide) (by decide) (by decide), fun i a ha hi hne => ?_⟩
  · exact (hr _ _ (by decide) hlow).trans ((hw _ _ (by decide) (.inr (by decide))).trans (num_put_self ..))
  · exact (hr _ _ (by decide) hlow).trans ((hw _ _ (by decide) (.inr (by decide))).trans h2)
  · exact (hr _ _ (by decide) hlow).trans ((hw _ _ (by decide) (.inr (by decide))).trans h9)
  · refine (hr _ _ (by decide) hlow).trans ((num_count_of_apart (by decide) (by decide) (.inr (by decide)) (.inr (.inr (.inl (by decide))))).trans
      ((num_latchBits_self ..).trans ?_))
    rw [hv _ _ (by decide) (.inr (by decide))]
  · refine (hr _ _ (by decide) hlow).trans ((num_put_self ..).trans ?_)
    rw [num_latchBits_of_apart (by decide) (by decide) (.inr (by decide)) (.inr (.inr (.inl (by decide)))),
      hv _ _ (by decide) (.inr (by decide))]
  · exact (hr _ _ ha (by omega)).trans ((hw _ _ ha (.inl hne)).trans (hv _ _ ha (.inl hne)))

/-- What coasting one domain leaves of the states of all (R240). -/
theorem domState_coast (s : State) (hd : d < 8) (cause : Nat) :
    ((s.dom d).started = true → (coast s d cause).domState d = dCoasting) ∧
    ∀ e, e < 8 → e ≠ d → (coast s d cause).domState e = s.domState e := by
  by_cases h : s.domState d = dCoasting ∨ (s.dom d).started = false
  · rw [coast_idle h]
    exact ⟨fun hs => h.resolve_right (by simp [hs]), fun _ _ _ => rfl⟩
  · rw [coast_moves (fun h' => h (.inl h')) (by simpa using fun h' => h (.inr h'))]
    obtain ⟨h3, -, -, -, -, -, hn⟩ := coasted_spec (s.stepSettled d) hd cause
    refine ⟨fun _ => h3, fun e he hne => ?_⟩
    have hi : domIdx e < 0x074000 := by simp only [domIdx]; omega
    have hx : domIdx e ≠ domIdx d := by simp only [domIdx]; omega
    exact (hn _ _ (by decide) hi hx).trans (num_stepSettled s (by decide) hi (.inl hx))

theorem coastAll_coasts (s : State) : ∀ d, d < 8 → (s.dom d).started = true → (coastAll s).domState d = dCoasting := by
  intro d hd hs
  obtain ⟨w, hw⟩ : ∃ w, w = (List.range 8).foldl (fun s d => coast s d 1) s := ⟨_, rfl⟩
  have hstart : ∀ e, (w.dom e).started = (s.dom e).started := fun e => by
    rw [hw]
    exact foldl_keeps (fun s : State => (s.dom e).started) (fun s d _ => started_coast s d e 1) s
  have hco := foldl_establishes (P := fun d s => (s.dom d).started = true → s.domState d = dCoasting)
    (f := fun s d => coast s d 1) (l := List.range 8)
    (fun s d hd h => (domState_coast s (List.mem_range.mp hd) 1).1 ((started_coast s d d 1).symm.trans h))
    (fun s d hd e he h h' => by
      have hd := List.mem_range.mp hd
      have he := List.mem_range.mp he
      by_cases hde : d = e
      · subst hde
        exact (domState_coast s hd 1).1 ((started_coast s d d 1).symm.trans h')
      · rw [(domState_coast s he 1).2 d hd hde]
        exact h ((started_coast s e d 1).symm.trans h')) s d (List.mem_range.mpr hd)
  rw [← hw] at hco
  have hst : (coastAll s).domState d = w.domState d := by
    unfold coastAll
    rw [← hw]
    refine foldl_keeps (fun s : State => s.domState d) (fun s l hl => ?_) w
    have hl := List.mem_range.mp hl
    have hne : domIdx d ≠ uloopIdx l := by simp only [domIdx, uloopIdx]; omega
    split
    · unfold uloopCoast
      split
      · exact (num_raise (by decide) _ _ (by decide) (.inl (by simp only [domIdx]; omega))).trans
          (num_put_of_apart (by decide) (by decide) (.inl hne.symm) (.inl hne.symm))
      · rfl
    · rfl
  rw [hst]
  exact hco ((hstart d).trans hs)

end Sys2Proof.Machine
end

section
/-! The reference in use: lost, qualified, selected (R229 to R235; obligation O31). -/

namespace Sys2Proof.Machine

variable {s t u : State} {i a d src : Nat}

theorem outside_clk (s : State) (c : Clocks) : Outside [.clk] s { s with clk := c } := fun p hp => by
  cases p <;> simp at hp ⊢

theorem outside_latchBits (s : State) (i a m : Nat) : Outside [.cat, .mgmt] s (s.latchBits i a m) := fun p hp => by
  cases p <;> simp at hp ⊢

theorem qualified_congr (h1 : t.clk.xoQualified = s.clk.xoQualified) (h2 : t.clk.refInQualified = s.clk.refInQualified)
    (h3 : t.clk.laneQualified = s.clk.laneQualified) (src : Nat) : qualified t src = qualified s src := by
  unfold qualified
  rw [h1, h2, h3]

theorem CoastStep.qualified (h : CoastStep s t) (src : Nat) : qualified t src = qualified s src := by
  obtain ⟨ds, us, he⟩ := h.clk
  refine qualified_congr ?_ ?_ ?_ src <;> rw [he]

/-- The timing loop in a mode, and the little else that its change writes (R234). -/
theorem tlMode_spec (s : State) (m : Nat) :
    (tlMode s m).num 0x040010 1 = m ∧
    (∀ i a, a < 256 → i < 0x0E0000 → (i ≠ 0x040010 ∨ a ≠ 1 ∧ a ≠ 5) → (i ≠ 0x040000 ∨ a ≠ 7) →
      (tlMode s m).num i a = s.num i a) ∧
    EventsBut [0x143] s (tlMode s m) ∧ Outside [.cat, .mgmt] s (tlMode s m) := by
  by_cases h : s.num 0x040010 1 = m
  · rw [tlMode, if_pos h]
    exact ⟨h, fun _ _ _ _ _ _ => rfl, .refl _ _, .refl _ _⟩
  · obtain ⟨v, hv⟩ : ∃ v, v = s.put 0x040010 1 m := ⟨_, rfl⟩
    obtain ⟨w, hw⟩ : ∃ w, w = if m = 3 then (v.latchBits 0x040000 7 1).put 0x040010 5 (v.tb v.rulingTb).ns else v := ⟨_, rfl⟩
    have he : tlMode s m = w.raise 0x143 0 (be 1 m ++ be 4 (w.num 0x040010 4)) := by
      rw [hw, hv]
      exact if_neg h
    have hvn : ∀ i a, a < 256 → (i ≠ 0x040010 ∨ a ≠ 1) → v.num i a = s.num i a := fun i a ha hne => by
      rw [hv]
      exact num_put_of_apart (by decide) ha (by omega) (by omega)
    have hv1 : v.num 0x040010 1 = m := by rw [hv, num_put_self]
    have hwn : ∀ i a,
      a < 256 → (i ≠ 0x040010 ∨ a ≠ 5) → (i ≠ 0x040000 ∨ a ≠ 7) → w.num i a = v.num i a := fun i a ha h1 h2 => by
      rw [hw]
      split
      · exact (num_put_of_apart (by decide) ha (by omega) (by omega)).trans
          (num_latchBits_of_apart (by decide) ha (by omega) (by omega))
      · rfl
    have hwe : EventsBut [0x143] s w := by
      rw [hw]
      split
      · rw [hv]
        exact ((EventsBut.of_put s (by decide) (.inl (by decide))).trans (.of_latchBits _ (by decide) (.inl (by decide)))).trans
          (.of_put _ (by decide) (.inl (by decide)))
      · rw [hv]
        exact .of_put s (by decide) (.inl (by decide))
    have hwo : Outside [.cat, .mgmt] s w := by
      have hvo : Outside [.cat, .mgmt] s v := hv ▸ (outside_put s _ _ _).mono (by decide)
      rw [hw]
      split
      · exact (hvo.trans (outside_latchBits v _ _ _)).andThen (outside_put _ _ _ _) (by decide)
      · exact hvo
    rw [he]
    refine ⟨?_, fun i a ha hi h1 h2 => ?_, hwe.trans (.of_raise w (by decide)), hwo.andThen (outside_raise _ _ _ _) (by decide)⟩
    · exact (num_raise (by decide) _ _ (by decide) (.inl (by decide))).trans
        ((hwn _ _ (by decide) (.inr (by decide)) (.inl (by decide))).trans hv1)
    · exact (num_raise (by decide) _ _ ha (.inl hi)).trans ((hwn _ _ ha (by omega) h2).trans (hvn _ _ ha (by omega)))

/-- The multiplexer takes a source (R231). -/
theorem useSource_spec (s : State) (src : Nat) :
    (useSource s src).num 0x040000 4 = 1 ∧ (useSource s src).num 0x040000 5 = src ∧ (useSource s src).num 0x040010 1 = 1 ∧
    (useSource s src).num 0x040000 1 = s.num 0x040000 1 ∧
    Raised s (useSource s src) 0x142 ∧ EventsBut (0x142 :: 0x143 :: coastEvents) s (useSource s src) ∧
    (∀ x, qualified (useSource s src) x = qualified s x) ∧
    (∀ d, d < 8 → (s.dom d).started = true → (useSource s src).domState d = dCoasting) ∧
    Outside [.cat, .mgmt, .clk] s (useSource s src) := by
  have hco := CoastStep.coastAll s
  have hdom := coastAll_coasts s
  have hnum : ∀ a, a < 256 → (coastAll s).num 0x040000 a = s.num 0x040000 a := fun a ha => hco.num ha (by decide)
  obtain ⟨v, hv⟩ : ∃ v, v = ((coastAll s).put 0x040000 5 src).put 0x040000 4 1 := ⟨_, rfl⟩
  obtain ⟨w, hw⟩ : ∃ w : State, w = { v with clk := { v.clk with tlTarget := src, acqAt := v.now } } := ⟨_, rfl⟩
  have he : useSource s src = (tlMode w 1).raise 0x142 0 (be 1 (s.num 0x040000 5) ++ be 1 src) := by
    rw [hw, hv]
    rfl
  have hwo : Outside [.clk] v w := hw ▸ outside_clk v _
  have hvo : Outside [.cat] (coastAll s) v := by
    rw [hv]
    exact (outside_put _ _ _ _).trans (outside_put _ _ _ _)
  have hwn : ∀ i a, w.num i a = v.num i a := fun i a => by rw [hw]; rfl
  have hv4 : v.num 0x040000 4 = 1 := by rw [hv, num_put_self]
  have hv5 : v.num 0x040000 5 = src := by
    rw [hv, num_put_of_apart (by decide) (by decide) (by decide) (by decide), num_put_self]
  have hvn : ∀ i a, a < 256 → (i ≠ 0x040000 ∨ a ≠ 4 ∧ a ≠ 5) → v.num i a = (coastAll s).num i a := fun i a ha h => by
    rw [hv, num_put_of_apart (by decide) ha (by omega) (by omega), num_put_of_apart (by decide) ha (by omega) (by omega)]
  obtain ⟨t1, t2, t3, t4⟩ := tlMode_spec w 1
  have hall : EventsBut (0x143 :: coastEvents) s (tlMode w 1) := by
    have hve : EventsBut (0x143 :: coastEvents) (coastAll s) v := by
      rw [hv]
      exact (EventsBut.of_put _ (by decide) (.inl (by decide))).trans (.of_put _ (by decide) (.inl (by decide)))
    have hwe : EventsBut (0x143 :: coastEvents) v w := .of_cat (hwo .cat (by decide))
    exact (((hco.events.mono (List.subset_cons_self ..)).trans hve).trans hwe).trans (t3.mono (by decide))
  have hr : ∀ i a, a < 256 → i < 0x0E0000 → (useSource s src).num i a = (tlMode w 1).num i a := fun i a ha hi => by
    rw [he]
    exact num_raise (by decide) _ _ ha (.inl hi)
  have hclk : (useSource s src).clk = { (coastAll s).clk with tlTarget := src, acqAt := v.now } := by
    rw [he, (outside_raise _ _ _ _) .clk (by decide), t4 .clk (by decide), hw, hvo .clk (by decide)]
  refine ⟨?_, ?_, ?_, ?_, ?_, ?_, fun x => ?_, fun d hd hs => ?_, ?_⟩
  · rw [hr _ _ (by decide) (by decide), t2 _ _ (by decide) (by decide) (by decide) (by decide), hwn, hv4]
  · rw [hr _ _ (by decide) (by decide), t2 _ _ (by decide) (by decide) (by decide) (by decide), hwn, hv5]
  · rw [hr _ _ (by decide) (by decide), t1]
  · rw [hr _ _ (by decide) (by decide), t2 _ _ (by decide) (by decide) (by decide) (by decide), hwn,
    hvn _ _ (by decide) (by decide),
      hnum _ (by decide)]
  · rw [he]
    exact hall.raised (by decide) (by decide) (by decide)
  · rw [he]
    exact (hall.mono (List.subset_cons_self ..)).trans (.of_raise _ (by decide))
  · rw [← hco.qualified x]
    exact qualified_congr (by rw [hclk]) (by rw [hclk]) (by rw [hclk]) x
  · have hi : domIdx d < 0x0E0000 := by simp only [domIdx]; omega
    have h1 : domIdx d ≠ 0x040000 := by simp only [domIdx]; omega
    have h2 : domIdx d ≠ 0x040010 := by simp only [domIdx]; omega
    refine (hr _ _ (by decide) hi).trans ((t2 _ _ (by decide) hi (.inl h2) (.inl h1)).trans ((hwn _ _).trans
      ((hvn _ _ (by decide) (.inl h1)).trans (hdom d hd hs))))
  · rw [he]
    exact ((((hco.outside).andThen hvo (by decide)).andThen hwo (by decide)).andThen t4 (by decide)).andThen
      (outside_raise _ _ _ _) (by decide)

/-- A source that counts as qualified no longer (R230). -/
def State.disqualified (s : State) (src : Nat) : State :=
  match src with
  | 0 => s
  | 1 => { s with clk := { s.clk with refInQualified := false } }
  | _ => { s with clk := { s.clk with laneQualified := false } }

/-- A source that counts as qualified from now (R230). -/
def State.nowQualified (s : State) (src : Nat) : State :=
  if src = 1 then { s with clk := { s.clk with refInQualified := true } }
  else { s with clk := { s.clk with laneQualified := true } }

theorem disqualified_spec (s : State) (hs : src ≠ 0) :
    qualified (s.disqualified src) src = false ∧ Outside [.clk] s (s.disqualified src) ∧
    (s.disqualified src).clk.domains = s.clk.domains := by
  unfold State.disqualified
  split
  · exact absurd rfl hs
  · exact ⟨rfl, outside_clk s _, rfl⟩
  · next h1 h2 =>
    refine ⟨?_, outside_clk s _, rfl⟩
    unfold qualified
    split
    · exact absurd rfl hs
    · exact absurd rfl h2
    · rfl

theorem nowQualified_spec (s : State) (h : src = 1 ∨ src = 2) :
    qualified (s.nowQualified src) src = true ∧ Outside [.clk] s (s.nowQualified src) := by
  rcases h with rfl | rfl
  · exact ⟨rfl, outside_clk s _⟩
  · exact ⟨rfl, outside_clk s _⟩

/-- A reference loss after the loops have coasted (R231, R234). -/
def State.unreferenced (s : State) (src : Nat) : State :=
  let s := if s.num 0x040010 1 = 1 ∨ s.num 0x040010 1 = 2 then tlMode s 3 else s
  let s := s.put 0x040000 5 0
  let s := if s.num 0x040000 4 = 1 then (s.put 0x040000 4 2).latchBits 0x040000 7 8 else s
  s.raise 0x140 0 (be 1 src)

theorem loseSource_inUse (hs : src ≠ 0) (h : s.num 0x040000 5 = src) :
    loseSource s src = (coastAll (s.disqualified src)).unreferenced src := by
  have h5 : (s.disqualified src).num 0x040000 5 = s.num 0x040000 5 := by
    unfold State.disqualified
    split <;> rfl
  unfold loseSource
  exact if_neg (by
    rintro (h0 | h0)
    · exact hs h0
    · exact h0 (h5.trans h))

theorem unreferenced_spec (s : State) (src : Nat) :
    (s.unreferenced src).num 0x040000 5 = 0 ∧ Raised s (s.unreferenced src) 0x140 ∧
    (s.num 0x040010 1 = 1 ∨ s.num 0x040010 1 = 2 → (s.unreferenced src).num 0x040010 1 = 3) ∧
    (s.unreferenced src).num 0x040000 4 = (if s.num 0x040000 4 = 1 then 2 else s.num 0x040000 4) ∧
    (∀ d, d < 8 → (s.unreferenced src).domState d = s.domState d) ∧ Outside [.cat, .mgmt] s (s.unreferenced src) := by
  unfold State.unreferenced
  extract_lets v w x
  obtain ⟨t1, t2, t3, t4⟩ := tlMode_spec s 3
  have hv1 : s.num 0x040010 1 = 1 ∨ s.num 0x040010 1 = 2 → v.num 0x040010 1 = 3 := fun h => by
    unfold v
    rw [if_pos h, t1]
  have hvn : ∀ i a, a < 256 → i < 0x0E0000 → (i ≠ 0x040010) → (i ≠ 0x040000 ∨ a ≠ 7) → v.num i a = s.num i a :=
    fun i a ha hi h1 h2 => by
      unfold v
      split
      · exact t2 i a ha hi (.inl h1) h2
      · rfl
  have hve : EventsBut [0x143] s v := by
    unfold v
    split
    · exact t3
    · exact .refl _ _
  have hvo : Outside [.cat, .mgmt] s v := by
    unfold v
    split
    · exact t4
    · exact .refl _ _
  clear_value v
  have hw5 : w.num 0x040000 5 = 0 := num_put_self ..
  have hwn : ∀ i a, a < 256 → (i ≠ 0x040000 ∨ a ≠ 5) → w.num i a = v.num i a := fun i a ha h =>
    num_put_of_apart (by decide) ha (by omega) (by omega)
  have hwe : EventsBut [0x143] s w := hve.trans (.of_put v (by decide) (.inl (by decide)))
  have hwo : Outside [.cat, .mgmt] s w := hvo.andThen (outside_put v _ _ _) (by decide)
  clear_value w
  have hx4 : x.num 0x040000 4 = if w.num 0x040000 4 = 1 then 2 else w.num 0x040000 4 := by
    unfold x
    split
    · exact (num_latchBits_of_apart (by decide) (by decide) (by decide) (by decide)).trans (num_put_self ..)
    · rfl
  have hxn : ∀ i a, a < 256 → (i ≠ 0x040000 ∨ a ≠ 4 ∧ a ≠ 7) → x.num i a = w.num i a := fun i a ha h => by
    unfold x
    split
    · exact (num_latchBits_of_apart (by decide) ha (by omega) (by omega)).trans (num_put_of_apart (by decide) ha (by omega) (by omega))
    · rfl
  have hxe : EventsBut [0x143] s x := by
    unfold x
    split
    · exact (hwe.trans (.of_put w (by decide) (.inl (by decide)))).trans (.of_latchBits _ (by decide) (.inl (by decide)))
    · exact hwe
  have hxo : Outside [.cat, .mgmt] s x := by
    unfold x
    split
    · exact (hwo.andThen (outside_put w _ _ _) (by decide)).trans (outside_latchBits _ _ _ _)
    · exact hwo
  clear_value x
  have hr : ∀ i a, a < 256 → i < 0x0E0000 → (x.raise 0x140 0 (be 1 src)).num i a = x.num i a := fun i a ha hi =>
    num_raise (by decide) _ _ ha (.inl hi)
  refine ⟨?_, hxe.raised (by decide) (by decide) (by decide), fun h => ?_, ?_, fun d hd => ?_,
    hxo.andThen (outside_raise _ _ _ _) (by decide)⟩
  · rw [hr _ _ (by decide) (by decide), hxn _ _ (by decide) (by decide), hw5]
  · rw [hr _ _ (by decide) (by decide), hxn _ _ (by decide) (by decide), hwn _ _ (by decide) (by decide), hv1 h]
  · rw [hr _ _ (by decide) (by decide), hx4, hwn _ _ (by decide) (by decide),
      hvn _ _ (by decide) (by decide) (by decide) (by decide)]
  · have hi : domIdx d < 0x0E0000 := by simp only [domIdx]; omega
    have h1 : domIdx d ≠ 0x040000 := by simp only [domIdx]; omega
    have h2 : domIdx d ≠ 0x040010 := by simp only [domIdx]; omega
    exact (hr _ _ (by decide) hi).trans ((hxn _ _ (by decide) (.inl h1)).trans ((hwn _ _ (by decide) (.inl h1)).trans
      (hvn _ _ (by decide) hi h2 (.inl h1))))

/-! ### XO_IN (R233) -/

theorem outside_reportHolds (l : List HoldLoop) (s : State) : Outside [.cat, .mgmt] s (l.foldl reportHold s) :=
  Outside.foldl _ _ _ fun s _ => outside_raise s _ _ _

theorem entriesOutside_reportHolds (l : List HoldLoop) (s : State) : EntriesOutside eventRanges s (l.foldl reportHold s) :=
  entriesOutside_foldl _ _ _ fun s _ _ => entriesOutside_raise s _ _ _ (by decide)

theorem xoChange_spec {absent : Bool} (h : s.pwr.xoAbsent ≠ absent) :
    (xoChange s absent).pwr = { s.pwr with xoAbsent := absent } ∧ Raised s (xoChange s absent) 0x14D ∧
    Outside [.cat, .mgmt, .pwr] s (xoChange s absent) ∧ EntriesOutside eventRanges s (xoChange s absent) := by
  obtain ⟨v, hv⟩ : ∃ v : State, v = { s with pwr := { s.pwr with xoAbsent := absent } } := ⟨_, rfl⟩
  obtain ⟨l, hl⟩ : ∃ l, l = if absent then (heldLoops s).filter fun l => !loopHolds s l else [] := ⟨_, rfl⟩
  have he : xoChange s absent = l.foldl reportHold (v.raise 0x14D 0 (be 1 (if absent then 0 else 1))) := by
    rw [hv, hl]
    exact if_neg h
  have hvo : Outside [.pwr] s v := by
    rw [hv]
    exact fun p hp => by cases p <;> simp at hp ⊢
  have hvp : v.pwr = { s.pwr with xoAbsent := absent } := by rw [hv]
  have hr : Raised s (v.raise 0x14D 0 (be 1 (if absent then 0 else 1))) 0x14D :=
    raised_after (by decide) (num_event_of_cat (by decide) (hvo .cat (by decide)))
  have hlo := outside_reportHolds l (v.raise 0x14D 0 (be 1 (if absent then 0 else 1)))
  rw [he]
  refine ⟨?_, ?_, ?_, ?_⟩
  · rw [hlo .pwr (by decide), (outside_raise _ _ _ _) .pwr (by decide), hvp]
  · exact hr.then_events (ms := [0x14C]) (EventsBut.foldl _ _ _ fun s _ _ => .of_raise s (by decide)) (by decide) (by decide) (by decide)
  · exact ((hvo.mono (by decide)).andThen (outside_raise _ _ _ _) (by decide)).andThen hlo (by decide)
  · exact ((EntriesOutside.of_cat (hvo .cat (by decide))).trans (entriesOutside_raise _ _ _ _ (by decide))).trans
      (entriesOutside_reportHolds _ _)

/-- Settles O31: coasting stays within `CoastStep`, so that it leaves the reference's own entries alone. -/
theorem referencesAreLostAndTaken : Obligations.ReferencesAreLostAndTaken := by
  unfold Obligations.ReferencesAreLostAndTaken
  refine ⟨?lost, fun s => rfl, ?qualified, ?select, ?xoLost, ?xoBack⟩
  case lost =>
    intro s src h0 h5
    have he := loseSource_inUse h0 h5
    obtain ⟨hq, hvo, hdoms⟩ := disqualified_spec s h0
    generalize s.disqualified src = v at *
    have hvn : ∀ i a, a < 256 → v.num i a = s.num i a := fun i a ha =>
      num_congr_of_cat (hvo .cat (by decide)) (hvo .unit (by decide)) (hvo .pwr (by decide)) (hvo .cfg (by decide)) i a ha
    have hco := CoastStep.coastAll v
    have hdom := coastAll_coasts v
    obtain ⟨u1, u2, u3, u4, u5, u6⟩ := unreferenced_spec (coastAll v) src
    have hnum : ∀ i a, a < 256 → (∀ r ∈ coastRanges,
      ¬(r.1 ≤ i ∧ i ≤ r.2)) → (coastAll v).num i a = s.num i a := fun i a ha hi =>
      (hco.num ha hi).trans (hvn i a ha)
    rw [hnum _ _ (by decide) (by decide)] at u3 u4
    have hev : EventsBut coastEvents s (coastAll v) := (EventsBut.of_cat (hvo .cat (by decide))).trans hco.events
    refine ⟨_, congrArg Host.Outcome.next he, u1, ?_, Raised.after_events hev u2 (by decide) (by decide) (by decide),
      fun d hd hs => ?_,
      u3, u4, ?_⟩
    · rw [← hq, ← hco.qualified]
      have hc := u6 .clk (by decide)
      exact qualified_congr (congrArg Clocks.xoQualified hc) (congrArg Clocks.refInQualified hc) (congrArg Clocks.laneQualified hc) _
    · refine (u5 d hd).trans (hdom d hd ?_)
      rw [State.dom, hdoms]
      exact hs
    · exact ((hvo.mono (by decide)).andThen hco.outside (by decide)).andThen u6 (by decide)
  case qualified =>
    intro s src hq hsrc
    have hs12 : src.val = 1 ∨ src.val = 2 := hsrc.imp (fun h => congrArg Fin.val h.1) fun h => congrArg Fin.val h.1
    obtain ⟨hvq, hvo⟩ := nowQualified_spec s hs12
    have he : qualifySource s src = tryUse ((s.nowQualified src).raise 0x141 0 (be 1 src)) := by
      refine if_neg ?_
      rintro (h | h | h | h)
      · omega
      · exact absurd hq (by rw [h]; nofun)
      · exact hsrc.elim (fun h' => h'.2 h.2) fun h' => absurd (congrArg Fin.val h'.1) (by rw [h.1]; decide)
      · exact hsrc.elim (fun h' => absurd (congrArg Fin.val h'.1) (by rw [h.1]; decide)) fun h' => h.2 h'.2
    obtain ⟨w, hw⟩ : ∃ w, w = (s.nowQualified src).raise 0x141 0 (be 1 src) := ⟨_, rfl⟩
    have hwr : Raised s w 0x141 := hw ▸ raised_after (by decide) (num_event_of_cat (by decide) (hvo .cat (by decide)))
    have hwo : Outside [.cat, .mgmt, .clk] s w := by
      rw [hw]
      exact (hvo.mono (by decide)).andThen (outside_raise _ _ _ _) (by decide)
    have hwe : EntriesOutside eventRanges s w := by
      rw [hw]
      exact (EntriesOutside.of_cat (hvo .cat (by decide))).trans (entriesOutside_raise _ _ _ _ (by decide))
    have hwev : EventsBut [0x141] s w := by
      rw [hw]
      exact (EventsBut.of_cat (hvo .cat (by decide))).trans (.of_raise _ (by decide))
    have hwq : qualified w src = true := by
      have hc : w.clk = (s.nowQualified src).clk := by rw [hw]; exact (outside_raise _ _ _ _) .clk (by decide)
      rw [← hvq]
      exact qualified_congr (congrArg Clocks.xoQualified hc) (congrArg Clocks.refInQualified hc) (congrArg Clocks.laneQualified hc) _
    have hwn : ∀ a, a < 256 → w.num 0x040000 a = s.num 0x040000 a := fun a ha =>
      num_outside hwe (hwo .unit (by decide)) (hwo .pwr (by decide)) (hwo .cfg (by decide)) _ a ha (by decide)
    rw [← hw] at he
    clear hw
    refine ⟨_, congrArg Host.Outcome.next he, ?_⟩
    by_cases hu : w.num 0x040000 4 = 0 ∧ qualified w (w.num 0x040000 1) = true
    · rw [tryUse, if_pos hu]
      obtain ⟨u1, u2, u3, -, u5, u6, u7, -⟩ := useSource_spec w (w.num 0x040000 1)
      refine ⟨(u7 _).trans hwq, hwr.then_events u6 (by decide) (by decide) (by decide), fun _ h1 => ⟨u1, ?_, u3, ?_⟩,
        fun h4 => ?_⟩
      · rw [u2, hwn _ (by decide), h1]
      · exact Raised.after_events hwev u5 (by decide) (by decide) (by decide)
      · exact absurd ((hwn 4 (by decide)).symm.trans hu.1) h4
    · rw [tryUse, if_neg hu]
      refine ⟨hwq, hwr, fun h4 h1 => absurd ⟨(hwn 4 (by decide)).trans h4, ?_⟩ hu, fun _ => ⟨hwo, hwe⟩⟩
      rw [hwn _ (by decide), h1]
      exact hwq
  case select =>
    intro s r v hw
    obtain ⟨x, hx⟩ : ∃ x, x = s.write (ent 0x040000 1) (.num v) := ⟨_, rfl⟩
    have hx1 : x.num 0x040000 1 = v := hx ▸ num_write_self s _ _ _
    have hxn : ∀ a, a < 256 → a ≠ 1 → x.num 0x040000 a = s.num 0x040000 a := fun a ha h => by
      rw [hx]
      exact num_write_of_apart (by decide) ha ⟨.inr h.symm, .inr (.inl (by decide))⟩
    have hxo : Outside [.cat, .gen] s x := hx ▸ outside_write s _ _
    have hxc : x.clk = s.clk := hxo .clk (by decide)
    have hap : refSelRule.apply s false (carried r) (.num v) =
        if x.num 0x040000 4 = 1 ∧ v = x.num 0x040000 5 then { s := x } else { s := tryUse (x.put 0x040000 4 0) } := by
      rw [hx]
      rfl
    rw [hxn _ (by decide) (by decide), hxn _ (by decide) (by decide)] at hap
    clear hx
    by_cases hsame : s.num 0x040000 4 = 1 ∧ v = s.num 0x040000 5
    · rw [if_pos hsame] at hap
      refine does_write rfl hw hap fun u hu => ⟨hu.ok, (hu.num ..).trans hx1, fun _ => ⟨?_, ?_⟩, fun h => absurd hsame h,
        fun h => absurd hsame h, (hxo.mono (by decide)).andThen hu.outside (by decide)⟩
      · rw [hu.num, hxn _ (by decide) (by decide), hsame.1]
      · rw [hu.outside .clk (by decide), hxc]
    · rw [if_neg hsame] at hap
      obtain ⟨y, hy⟩ : ∃ y, y = x.put 0x040000 4 0 := ⟨_, rfl⟩
      have hyo : Outside [.cat, .gen] s y := by
        rw [hy]
        exact hxo.andThen (outside_put _ _ _ _) (by decide)
      have hyc : y.clk = s.clk := hyo .clk (by decide)
      have hy4 : y.num 0x040000 4 = 0 := hy ▸ num_put_self ..
      have hyn : ∀ a, a < 256 → a ≠ 4 → y.num 0x040000 a = x.num 0x040000 a := fun a ha h => by
        rw [hy]
        exact num_put_of_apart (by decide) ha (.inr h.symm) (.inr (.inr (.inr (by decide))))
      have hyq : ∀ z, qualified y z = qualified s z := fun z =>
        qualified_congr (congrArg Clocks.xoQualified hyc) (congrArg Clocks.refInQualified hyc) (congrArg Clocks.laneQualified hyc) z
      rw [← hy] at hap
      clear hy
      have hv1 : y.num 0x040000 1 = v := (hyn 1 (by decide) (by decide)).trans hx1
      by_cases hq : qualified s v = true
      · have hap' : refSelRule.apply s false (carried r) (.num v) = { s := useSource y v } := by
          rw [hap, tryUse, hv1, if_pos ⟨hy4, by rw [hyq]; exact hq⟩]
        obtain ⟨u1, u2, u3, u4, -, -, -, u8, u9⟩ := useSource_spec y v
        refine does_write rfl hw hap' fun u hu => ⟨hu.ok, ?_, fun h => absurd h hsame, fun _ _ => ⟨?_, ?_, ?_,
          fun d hd hs => ?_⟩,
          fun _ h => absurd hq (by rw [h]; nofun), ?_⟩
        · rw [hu.num, u4, hv1]
        · rw [hu.num, u1]
        · rw [hu.num, u2]
        · rw [hu.num, u3]
        · refine (hu.num ..).trans (u8 d hd ?_)
          rw [dom_congr_clk hyc]
          exact hs
        · exact ((hyo.mono (by decide)).andThen u9 (by decide)).andThen hu.outside (by decide)
      · have hap' : refSelRule.apply s false (carried r) (.num v) = { s := y } := by
          rw [hap, tryUse, hv1, if_neg fun h => hq (by rw [← hyq]; exact h.2)]
        refine does_write rfl hw hap' fun u hu => ⟨hu.ok, (hu.num ..).trans hv1, fun h => absurd h hsame,
          fun _ h => absurd h hq,
          fun _ _ => ⟨(hu.num ..).trans hy4, ?_, ?_⟩, (hyo.mono (by decide)).andThen hu.outside (by decide)⟩
        · rw [hu.num, hyn _ (by decide) (by decide), hxn _ (by decide) (by decide)]
        · rw [hu.outside .clk (by decide), hyc]
  case xoLost =>
    intro s h
    exact ⟨_, rfl, xoChange_spec (by rw [h]; nofun)⟩
  case xoBack =>
    intro s h
    exact ⟨_, rfl, xoChange_spec (by rw [h]; nofun)⟩

end Sys2Proof.Machine
end

section
/-! Loops that lock, hold and coast (R233 to R235, R240, R241, R245; obligation O32). -/

namespace Sys2Proof.Machine

variable {s t u : State} {i a d m : Nat}

/-! ### The timing loop -/

theorem tlMode_plain (h : s.num 0x040010 1 ≠ m) (h3 : m ≠ 3) :
    tlMode s m = (s.put 0x040010 1 m).raise 0x143 0 (be 1 m ++ be 4 ((s.put 0x040010 1 m).num 0x040010 4)) := by
  refine (if_neg h).trans ?_
  dsimp only
  rw [if_neg h3]

theorem tlMode_moves (h : s.num 0x040010 1 ≠ m) (h3 : m ≠ 3) :
    Raised s (tlMode s m) 0x143 ∧ EntriesOutside ((0x040010, 0x040010) :: eventRanges) s (tlMode s m) := by
  rw [tlMode_plain h h3]
  exact ⟨raised_after (by decide) (num_put_ne _ _ _ _ _ _ (by decide) (by decide) (by decide)),
    ((EntriesOutside.refl _ s).then_put (by decide)).then_raise (by decide)⟩

/-! ### A domain that coasts within a step -/

theorem lt_of_started (h : (s.dom d).started = true) : d < s.clk.domains.length := by
  by_contra hl
  rw [State.dom, List.getD_eq_default _ _ (by omega)] at h
  exact absurd h nofun

theorem finishStep_frame_now (s : State) (e : Nat) : (finishStep s e).now = s.now := by simp

/-- A step not yet over is left alone, as is a domain without one. -/
theorem dom_finishSteps_young (h : ∀ t, (s.dom d).stepAt = some t → s.now < t + 100) : (finishSteps s).dom d = s.dom d := by
  refine (List.foldlRecOn (motive := fun v : State => v.dom d = s.dom d ∧ v.now = s.now) (List.range 8) _ ⟨rfl, rfl⟩
    fun v ⟨hd, hn⟩ e _ => ?_).1
  split
  · next t ht =>
    split
    · next hle =>
      have hne : e ≠ d := by
        rintro rfl
        have := h t (hd ▸ ht)
        omega
      refine ⟨?_, (finishStep_frame_now v e).trans hn⟩
      rw [dom_finishStep, dom_setDom_ne _ _ _ _ hne, hd]
    · exact ⟨hd, hn⟩
  · exact ⟨hd, hn⟩

theorem dom_abandonStep (s : State) (hd : d < s.clk.domains.length) :
    (abandonStep s d).dom d = { s.dom d with stepAt := none, carried := [], setOp := (s.dom d).stepFrom } := by
  unfold abandonStep
  extract_lets x v w
  rw [dom_finishAll, dom_congr_clk (s := v) (t := w) (by simp [w, changeFailed])]
  exact dom_setDom_self s d _ hd

theorem events_finishSteps (s : State) : EventsBut [0x010, 0x482, 0x147] s (finishSteps s) := by
  refine EventsBut.foldl _ _ _ fun s d _ => ?_
  split
  · split
    · unfold finishStep
      extract_lets x v w
      split
      · exact .refl _ _
      · exact ((EventsBut.of_cat (t := v) rfl).trans (.of_raise v (by decide))).trans
          (EventsBut.foldl _ _ _ fun s c _ => .of_finishCmd s c _ (by decide) (by decide))
    · exact .refl _ _
  · exact .refl _ _

theorem events_abandonStep (s : State) (hd : d < 8) :
    Raised s (abandonStep s d) 0x116 ∧ EventsBut [0x010, 0x482, 0x116] s (abandonStep s d) := by
  unfold abandonStep
  extract_lets x v w
  obtain ⟨y, hy⟩ : ∃ y, y = changeFailed v d := ⟨_, rfl⟩
  have hyv : EventsBut [] v y := hy ▸ .of_latchBits v (by decide) (.inl (by simp only [domIdx]; omega))
  have hv : EventsBut [] s v := .of_cat rfl
  have hw : w = y.raise 0x116 d (be 4 (domIdx d) ++ be 1 1) := by rw [hy]
  have hr : Raised s w 0x116 := hw ▸ (hv.trans hyv).raised (by decide) (by decide) (by decide)
  have hfin : EventsBut [0x010, 0x482] w (x.carried.foldl (fun s c => finishCmd s c stBusy) w) :=
    EventsBut.foldl _ _ _ fun s c _ => .of_finishCmd s c _ (by decide) (by decide)
  refine ⟨hr.then_events hfin (by decide) (by decide) (by decide), ?_⟩
  refine (((hv.trans hyv).mono (by decide)).trans ?_).trans (hfin.mono (by decide))
  rw [hw]
  exact .of_raise y (by decide)

theorem stepSettled_spec (hd : d < 8) (hs : (s.dom d).started = true) :
    (∀ t, (s.dom d).stepAt = some t → s.now < t + 100 → ((s.stepSettled d).dom d).setOp = (s.dom d).stepFrom ∧
      Raised s (s.stepSettled d) 0x116 ∧ (s.stepSettled d).num (domIdx d) 0x0A = s.num (domIdx d) 0x0A ||| 4) ∧
    ((s.dom d).stepAt = none → ((s.stepSettled d).dom d).setOp = (s.dom d).setOp) ∧
    EventsBut [0x010, 0x482, 0x147, 0x116] s (s.stepSettled d) ∧
    ((∀ k, k < 8 → (s.dom k).stepAt = none) → s.stepSettled d = s) := by
  have hlow : domIdx d < 0x074000 := by simp only [domIdx]; omega
  have hfs : ((finishSteps s).dom d).started = true := by rw [view_finishSteps (·.started) fun _ => rfl, hs]
  obtain ⟨ha, hae⟩ := events_abandonStep (finishSteps s) hd
  have hfe := events_finishSteps s
  refine ⟨fun t ht hn => ?_, fun h => ?_, ?_, fun h => ?_⟩
  · have hdom : (finishSteps s).dom d = s.dom d := dom_finishSteps_young fun t' ht' => by
      rw [ht] at ht'
      have := Option.some.inj ht'
      omega
    have he : s.stepSettled d = abandonStep (finishSteps s) d := if_pos (by rw [hdom, ht]; rfl)
    rw [he, dom_abandonStep _ (lt_of_started hfs), hdom, num_abandonStep _ (by decide) hlow, if_pos ⟨rfl, rfl⟩,
      num_finishSteps _ _ _ (by decide) (.inl (by omega)) (.inl hlow)]
    exact ⟨rfl, Raised.after_events hfe ha (by decide) (by decide) (by decide), rfl⟩
  · have hdom : (finishSteps s).dom d = s.dom d := dom_finishSteps_young fun t ht => absurd (h.symm.trans ht) nofun
    have he : s.stepSettled d = finishSteps s := if_neg (by rw [hdom, h]; nofun)
    rw [he, hdom]
  · unfold State.stepSettled
    split
    · exact (hfe.mono (by decide)).trans (hae.mono (by decide))
    · exact hfe.mono (by decide)
  · have hf := finishSteps_eq_self h
    unfold State.stepSettled
    rw [hf, if_neg (by rw [h d hd]; nofun)]

theorem coasted_entries (s : State) (hd : d < 8) (cause : Nat) :
    EntriesOutside ((domIdx d, domIdx d) :: eventRanges) s (s.coasted d cause) ∧ EventsBut [0x144] s (s.coasted d cause) := by
  have hlow : domIdx d < 0x0E1000 := by simp only [domIdx]; omega
  unfold State.coasted
  extract_lets op v w x
  have hv : EntriesOutside ((domIdx d, domIdx d) :: eventRanges) s v ∧ EventsBut [0x144] s v :=
    ⟨(((EntriesOutside.refl _ s).then_put (by decide)).then_put (by decide)).then_put (by decide),
      ((EventsBut.of_put s (by decide) (.inl hlow)).trans (.of_put _ (by decide) (.inl hlow))).trans (.of_put _ (by decide) (.inl hlow))⟩
  clear_value v
  have hw : EntriesOutside ((domIdx d, domIdx d) :: eventRanges) s w ∧ EventsBut [0x144] s w :=
    ⟨(hv.1.trans (entriesOutside_latchBits v _ _ _ (by decide) (domIdx_listed d))).then_count (by decide),
      (hv.2.trans (.of_latchBits v (by decide) (.inl hlow))).trans (.of_put _ (by decide) (.inl hlow))⟩
  clear_value w
  exact ⟨(hw.1.then_cat (u := x) rfl).then_raise (by decide),
    (hw.2.trans (.of_cat (t := x) rfl)).trans (.of_raise x (by decide))⟩

/-- Settles O32: a coast first settles the step under way, then writes one domain. -/
theorem loopsLockAndHold : Obligations.LoopsLockAndHold := by
  unfold Obligations.LoopsLockAndHold
  refine ⟨?lock, ?relock, ?hold, ?retry, ?still, ?unlock, ?floor, ?user, ?back⟩
  case lock =>
    intro s offset goal h1 hg hb
    obtain ⟨late, hlate⟩ : ∃ late : Nat, late = s.clk.acqAt + ceilDiv ((goal - signed 32 (s.num 0x040010 4)).natAbs * 100000000)
      (Nat.max 1 (s.num 0x040010 2)) + 1000000000 := ⟨_, rfl⟩
    obtain ⟨v, hv⟩ : ∃ v, v = if ((List.range 8).any fun t => (s.tb t).armed) = true then s.waitUntil late else s := ⟨_, rfl⟩
    have he : lockTiming s offset = tlMode (v.put 0x040010 4 (wrap 32 goal)) 2 := by
      rw [hv, hlate, hg]
      exact if_neg (by rw [← hg]; omega)
    have hvo : Outside [.now, .tim] s v := by
      rw [hv]
      split
      · exact outside_waitUntil s _
      · exact .refl _ _
    have hvn : ∀ i a, v.num i a = s.num i a := fun i a => by
      rw [hv]
      split
      · exact num_waitUntil ..
      · rfl
    obtain ⟨w, hw⟩ : ∃ w, w = v.put 0x040010 4 (wrap 32 goal) := ⟨_, rfl⟩
    have hwo : Outside [.cat] v w := hw ▸ outside_put v _ _ _
    have hw1 : w.num 0x040010 1 ≠ 2 := by
      rw [hw, num_put_of_apart (by decide) (by decide) (by decide) (by decide), hvn, h1]
      decide
    obtain ⟨t1, t2, -, t4⟩ := tlMode_spec w 2
    obtain ⟨hr, hent⟩ := tlMode_moves hw1 (by decide)
    rw [← hw] at he
    have hwe : EntriesOutside ((0x040010, 0x040010) :: eventRanges) s w := by
      rw [hw]
      exact (EntriesOutside.of_cat (hvo .cat (by decide))).then_put (by decide)
    have hwev : EventsBut [] s w := by
      rw [hw]
      exact (EventsBut.of_cat (hvo .cat (by decide))).trans (.of_put v (by decide) (.inl (by decide)))
    have hw4 : w.num 0x040010 4 = wrap 32 goal := hw ▸ num_put_self ..
    refine ⟨_, congrArg Host.Outcome.next he, t1, ?_, ?_, fun hn => ?_, fun ⟨t, ht, ha⟩ => ?_, ?_, hwe.trans hent⟩
    · exact (t2 _ _ (by decide) (by decide) (.inr (by decide)) (.inl (by decide))).trans hw4
    · exact Raised.after_events hwev hr (by decide) (by decide) (by decide)
    · have hnone : v = s := by
        rw [hv]
        refine if_neg fun h => ?_
        obtain ⟨t, ht, ha⟩ := List.any_eq_true.mp h
        exact absurd ha (by rw [hn t (List.mem_range.mp ht)]; nofun)
      rw [hnone] at hwo
      exact ⟨(t4 .now (by decide)).trans (hwo .now (by decide)), (t4 .tim (by decide)).trans (hwo .tim (by decide))⟩
    · have hsome : v.now = max s.now late := by
        rw [hv, if_pos (List.any_eq_true.mpr ⟨t, List.mem_range.mpr ht, ha⟩), now_waitUntil_max]
      rw [t4 .now (by decide), hwo .now (by decide), hsome, hlate]
      omega
    · exact ((hvo.mono (by decide)).andThen hwo (by decide)).andThen t4 (by decide)
  case relock =>
    intro s r v hw
    by_cases hv : v = 1
    · have h3 : s.num 0x040010 1 = 3 := by
        obtain ⟨⟨-, -, hj⟩, -⟩ := hw
        by_contra h
        have : (tlRelockRule).judge s (carried r) (.num v) = refuse s stBusy := if_pos ⟨hv, h⟩
        rw [this] at hj
        exact absurd hj nofun
      obtain ⟨w, hw'⟩ : ∃ w : State, w = { s with clk := { s.clk with tlTarget := 0, acqAt := s.now } } := ⟨_, rfl⟩
      have hwo : Outside [.clk] s w := hw' ▸ outside_clk s _
      have hwn : w.num 0x040010 1 ≠ 1 := by
        rw [hw', num_with_clk, h3]
        decide
      have ha : tlRelockRule.apply s false (carried r) (.num v) = { s := tlMode w 1 } := by
        rw [hw']
        exact if_pos hv
      obtain ⟨t1, -, -, t4⟩ := tlMode_spec w 1
      obtain ⟨hr, -⟩ := tlMode_moves hwn (by decide)
      refine does_write rfl hw ha fun u hu => ⟨hu.ok, fun _ => ⟨(hu.num ..).trans t1, ?_, ?_⟩, fun h => absurd hv h, ?_⟩
      · rw [hu.outside .clk (by decide), t4 .clk (by decide), hw']
      · exact hu.raised (Raised.after_events (ms := []) (.of_cat (hwo .cat (by decide))) hr (by decide) (by decide) (by decide))
      · exact ((hwo.mono (by decide)).andThen t4 (by decide)).andThen hu.outside (by decide)
    · have ha : tlRelockRule.apply s false (carried r) (.num v) = { s := s } := if_neg hv
      exact does_write rfl hw ha fun u hu => ⟨hu.ok, fun h => absurd h hv, fun _ => ⟨hu.outside .clk (by decide), hu.cat,
        hu.mgmt⟩,
        hu.outside.mono (by decide)⟩
  case hold =>
    intro s loop hl
    obtain ⟨w, hw⟩ : ∃ w : State, w = { s with clk := { s.clk with holdLoops := s.clk.holdLoops ++ [loopNum loop] } } := ⟨_, rfl⟩
    have hwo : Outside [.clk] s w := hw ▸ outside_clk s _
    have hwc : w.clk = { s.clk with holdLoops := s.clk.holdLoops ++ [loopNum loop] } := by rw [hw]
    have hc : s.clk.holdLoops.contains (loopNum loop) = false := by simpa using hl
    have he : holdLoop s loop = if s.pwr.xoAbsent = true then w else reportHold w loop := by
      rw [hw]
      refine (if_neg (by simp [hl])).trans ?_
      rw [loopHolds, hc, Bool.or_false]
    refine ⟨_, congrArg Host.Outcome.next he, ?_⟩
    clear hw
    by_cases hx : s.pwr.xoAbsent = true
    · rw [if_pos hx]
      exact ⟨hwc, fun h => absurd (hx.symm.trans h) nofun, fun _ => hwo .mgmt (by decide), hwo.mono (by decide),
        .of_cat (hwo .cat (by decide))⟩
    · rw [if_neg hx]
      refine ⟨?_, fun _ => ?_, fun h => absurd h hx, ?_, ?_⟩
      · exact ((outside_raise w _ _ _) .clk (by decide)).trans hwc
      · exact raised_after (by decide) (num_event_of_cat (by decide) (hwo .cat (by decide)))
      · exact (hwo.mono (by decide)).andThen (outside_raise w _ _ _) (by decide)
      · exact (EntriesOutside.of_cat (hwo .cat (by decide))).trans (entriesOutside_raise w _ _ _ (by decide))
  case retry =>
    intro s loop hl
    exact ⟨_, congrArg Host.Outcome.next (if_pos ⟨rfl, by simpa using hl⟩), rfl⟩
  case still =>
    intro s loop
    exact congrArg Host.Outcome.next (if_neg nofun)
  case unlock =>
    intro s d hs hst
    have hlow : domIdx d < 0x074000 := by simp only [domIdx]; omega
    obtain ⟨hyoung, hnone, hev, hself⟩ := stepSettled_spec d.isLt hs
    have hco := CoastStep.stepSettled s d.isLt
    have hnum : ∀ a, a < 256 → a ≠ 0x0A → (s.stepSettled d).num (domIdx d) a = s.num (domIdx d) a := fun a ha h =>
      num_stepSettled s ha hlow (.inr h)
    have he := coast_moves (cause := 0) hst hs
    generalize s.stepSettled d = w at *
    obtain ⟨c3, c2, c9, cA, cB, cr, -⟩ := coasted_spec w d.isLt 0
    obtain ⟨hent, hcev⟩ := coasted_entries w d.isLt 0
    have hcc := CoastStep.coasted w d.isLt 0
    refine ⟨_, congrArg Host.Outcome.next he, c3, c2, ?_, ?_, fun t ht hn => ?_, fun h => ?_, fun h => ?_, ?_⟩
    · rw [cB, hnum _ (by decide) (by decide)]
    · exact Raised.after_events hev cr (by decide) (by decide) (by decide)
    · obtain ⟨y1, y2, y3⟩ := hyoung t ht hn
      exact ⟨c9.trans y1, y2.then_events hcev (by decide) (by decide) (by decide), by rw [cA, y3]⟩
    · exact c9.trans (hnone h)
    · rw [hself h] at hent ⊢
      exact hent
    · exact hco.outside.trans hcc.outside
  case floor =>
    intro s d hst
    have hlow : domIdx d < 0x0E0000 := by simp only [domIdx]; omega
    obtain ⟨w, hw⟩ : ∃ w, w = (s.putDomState d dFloor).setDom d fun x => { x with locked := true, relockAt := s.now } := ⟨_, rfl⟩
    have he : exec (.mainLoopRelock d) s = .next (w.raise 0x145 d) := by
      rw [hw]
      exact congrArg Host.Outcome.next (if_pos hst)
    have hp : EntriesOutside ((domIdx d,
      domIdx d) :: eventRanges) s (s.putDomState d dFloor) := (EntriesOutside.refl _ s).then_put (by decide)
    have hwc : w.cat = (s.putDomState d dFloor).cat := by rw [hw]; rfl
    refine ⟨_, he, ?_, ?_, ?_, ?_, ?_⟩
    · refine (num_raise (by decide) _ _ (by decide) (.inl hlow)).trans ?_
      rw [hw, num_setDom]
      exact num_put_self ..
    · refine EventsBut.raised (ms := []) ?_ (by decide) (by decide) (by decide)
      exact (EventsBut.of_put s (by decide) (.inl (by omega))).trans (.of_cat hwc)
    · refine ((outside_raise w _ _ _) .clk (by decide)).trans ?_
      rw [hw]
      rfl
    · rw [hw]
      exact ((CoastStep.put s d.isLt (by decide)).outside.trans (CoastStep.setDom _ _ _).outside).andThen (outside_raise _ _ _ _) (by decide)
    · exact (hp.then_cat hwc).then_raise (by decide)
  case user =>
    intro s l hst
    have hlow : uloopIdx l < 0x0E0000 := by simp only [uloopIdx]; omega
    have he : uloopCoast s l 0 = ((s.put (uloopIdx l) 1 3).setUloop l fun x => { x with request := false }).raise 0x149 l (be 1 0) := if_pos hst
    refine ⟨_, congrArg Host.Outcome.next he, ?_, ?_, ?_, ?_⟩
    · exact (num_raise (by decide) _ _ (by decide) (.inl hlow)).trans (num_put_self ..)
    · refine EventsBut.raised (ms := []) ?_ (by decide) (by decide) (by decide)
      exact (EventsBut.of_put s (by decide) (.inl (by omega))).trans (.of_cat rfl)
    · exact ((CoastStep.putUloop s l.isLt (by decide)).outside.trans (CoastStep.setUloop _ _ _).outside).andThen (outside_raise _ _ _ _) (by decide)
    · have hp : EntriesOutside ((uloopIdx l,
      uloopIdx l) :: eventRanges) s (s.put (uloopIdx l) 1 3) := (EntriesOutside.refl _ s).then_put (by decide)
      exact (hp.then_cat (u := (s.put (uloopIdx l) 1 3).setUloop l fun x => { x with request := false }) rfl).then_raise (by decide)
  case back =>
    intro s l hst
    by_cases h3 : s.num (uloopIdx l) 1 = 3
    · have he : exec (.userLoopRelock l) s = .next ((s.put (uloopIdx l) 1 4).setUloop l fun x => { x with relockAt := s.now }) :=
        congrArg Host.Outcome.next (if_pos h3)
      refine ⟨_, he, ?_, ?_, ?_⟩
      · rw [if_pos h3]
        exact num_put_self ..
      · exact ((outside_put s _ _ _).mono (by decide)).andThen (outside_clk _ _) (by decide)
      · exact ((EntriesOutside.refl _ s).then_put (by decide)).trans (.of_cat rfl)
    · have he : exec (.userLoopRelock l) s = .next (s.put (uloopIdx l) 1 2) :=
        congrArg Host.Outcome.next ((if_neg h3).trans (if_pos (hst.resolve_left h3)))
      refine ⟨_, he, ?_, ?_, ?_⟩
      · rw [if_neg h3]
        exact num_put_self ..
      · exact (outside_put s _ _ _).mono (by decide)
      · exact (EntriesOutside.refl _ s).then_put (by decide)

end Sys2Proof.Machine
end

section
/-! Operating points: ramps, steps and their ends (R236 to R244; obligation O33). -/

namespace Sys2Proof.Machine

variable {s t u : State} {i a d op : Nat}

/-! ### What a ramp may touch -/

/-- A change within what a ramp of domain `d` may touch: its state, CHANGE_FAILED and events, beside the clocks and rails. -/
structure RampStep (d : Nat) (s t : State) : Prop where
  outside : Outside [.cat, .mgmt, .pwr, .clk] s t
  entries : EntriesOutside ((domIdx d, domIdx d) :: eventRanges) s t
  num : ∀ a, a < 256 → a ≠ 3 → a ≠ 0x0A → t.num (domIdx d) a = s.num (domIdx d) a
  events : EventsBut [0x148] s t
  silent : t.pwr.silent = s.pwr.silent

namespace RampStep

theorem refl (d : Nat) (s : State) : RampStep d s s := ⟨.refl _ _, .refl _ _, fun _ _ _ _ => rfl, .refl _ _, rfl⟩

theorem trans (h : RampStep d s t) (h' : RampStep d t u) : RampStep d s u :=
  ⟨h.outside.trans h'.outside, h.entries.trans h'.entries, fun a ha h3 hA => (h'.num a ha h3 hA).trans (h.num a ha h3 hA),
    h.events.trans h'.events, h'.silent.trans h.silent⟩

theorem setDom (d : Nat) (s : State) (e : Nat) (f : Domain → Domain) : RampStep d s (s.setDom e f) :=
  ⟨(CoastStep.setDom s e f).outside.mono (by decide), .of_cat rfl, fun _ _ _ _ => num_setDom .., .of_cat rfl, rfl⟩

theorem railToReq (d : Nat) (s : State) : RampStep d s (railToReq s d) :=
  ⟨fun p hp => by cases p <;> simp at hp ⊢, .of_cat (by simp), fun _ _ _ _ => num_railToReq .., .of_cat (by simp),
    silent_railToReq s d⟩

theorem putDomState (hd : d < 8) (s : State) (st : Nat) : RampStep d s (s.putDomState d st) :=
  ⟨(CoastStep.put s hd (by decide)).outside.mono (by decide), (EntriesOutside.refl _ s).then_put (by decide),
    fun a ha h3 _ => num_put_of_apart (by decide) ha (.inr h3.symm) (.inr (.inl (by decide))),
    .of_put s (by decide) (.inl (by simp only [domIdx]; omega)), rfl⟩

theorem changeFailed (hd : d < 8) (s : State) : RampStep d s (changeFailed s d) :=
  ⟨(outside_latchBits s _ _ _).mono (by decide), entriesOutside_latchBits s _ _ _ (by decide) (domIdx_listed d),
    fun a ha _ hA => num_latchBits_of_apart (by decide) ha (.inr hA.symm) (.inr (.inr (.inl (by decide)))),
    .of_latchBits s (by decide) (.inl (by simp only [domIdx]; omega)), rfl⟩

theorem raise (hd : d < 8) (s : State) {unit : Nat} {b : List Byte} : RampStep d s (s.raise 0x148 unit b) :=
  ⟨(outside_raise s _ _ _).mono (by decide), (EntriesOutside.refl _ s).then_raise (by decide),
    fun a ha _ _ => num_raise (by decide) _ _ ha (.inl (by simp only [domIdx]; omega)), .of_raise s (by decide), by simp⟩

end RampStep

/-! ### A raise abandoned (R240) -/

/-- The raise taken off the rail and off the domain's state, before CHANGE_FAILED is set and told. -/
def State.raiseDropped (s : State) (d op : Nat) : State :=
  let s := railToReq ((dropRamp s d op).setDom d fun x => { x with pend := if x.pend = some op then none else x.pend }) d
  if s.domState d = dRampUp ∨ s.domState d = dStepPending then s.putDomState d dSteady else s

theorem abandonRaise_eq (s : State) (d op cause : Nat) :
    abandonRaise s d op cause = (changeFailed (s.raiseDropped d op) d).raise 0x148 d (be 1 op ++ be 1 cause) := rfl

theorem raiseDropped_spec (hd : d < 8) (s : State) (op : Nat) :
    RampStep d s (s.raiseDropped d op) ∧ (s.raiseDropped d op).mgmt = s.mgmt ∧
    EventsBut [] s (s.raiseDropped d op) ∧ (s.raiseDropped d op).num (domIdx d) 0x0A = s.num (domIdx d) 0x0A ∧
    (s.raiseDropped d op).domState d =
      if s.domState d = dRampUp ∨ s.domState d = dStepPending then dSteady else s.domState d := by
  unfold State.raiseDropped
  extract_lets v
  have hv : RampStep d s v := ((RampStep.setDom d s d _).trans (.setDom d _ d _)).trans (.railToReq d _)
  have hvn : ∀ i a, v.num i a = s.num i a := fun i a => (num_railToReq ..).trans ((num_setDom ..).trans (num_setDom ..))
  have hvm : v.mgmt = s.mgmt := by simp [v, dropRamp]
  have hvc : v.cat = s.cat := by simp [v, dropRamp]
  have hst : v.domState d = s.domState d := hvn ..
  clear_value v
  rw [← hst]
  split
  · refine ⟨hv.trans (.putDomState hd v _), hvm, ?_, ?_, num_put_self ..⟩
    · exact (EventsBut.of_cat hvc).trans (.of_put v (by decide) (.inl (by simp only [domIdx]; omega)))
    · exact (num_put_of_apart (by decide) (by decide) (.inr (by decide)) (.inr (.inl (by decide)))).trans (hvn _ _)
  · exact ⟨hv, hvm, .of_cat hvc, hvn _ _, rfl⟩

theorem abandonRaise_told (hd : d < 8) (s : State) (op cause : Nat) :
    RampStep d s (abandonRaise s d op cause) ∧ Raised s (abandonRaise s d op cause) 0x148 ∧
    (abandonRaise s d op cause).num (domIdx d) 0x0A = s.num (domIdx d) 0x0A ||| 4 ∧
    (abandonRaise s d op cause).domState d =
      if s.domState d = dRampUp ∨ s.domState d = dStepPending then dSteady else s.domState d := by
  obtain ⟨h, -, hev, hA, hst⟩ := raiseDropped_spec hd s op
  rw [abandonRaise_eq]
  generalize s.raiseDropped d op = v at *
  have hlow : domIdx d < 0x0E0000 := by simp only [domIdx]; omega
  refine ⟨(h.trans (.changeFailed hd v)).trans (.raise hd _), ?_, ?_, ?_⟩
  · exact (hev.trans (.of_latchBits v (by decide) (.inl (by omega)))).raised (by decide) (by decide) (by decide)
  · exact (num_raise (by decide) _ _ (by decide) (.inl hlow)).trans ((num_latchBits_self ..).trans (by rw [hA]))
  · exact (num_raise (by decide) _ _ (by decide) (.inl hlow)).trans
      ((num_latchBits_of_apart (by decide) (by decide) (.inr (by decide)) (.inr (.inr (.inl (by decide))))).trans hst)

/-! ### A ramp begun (R239) -/

/-- The ramp of a raise begun, before a silent regulator ends it. -/
def State.ramped (s : State) (d op : Nat) : State :=
  let s := railToReq (s.setDom d fun x => { x with ramps := x.ramps ++ [op], pendAt := s.now }) d
  if s.domState d = dCoasting then s else s.putDomState d dRampUp

theorem ramped_spec (hd : d < 8) (s : State) (op : Nat) :
    RampStep d s (s.ramped d op) ∧ (s.ramped d op).mgmt = s.mgmt ∧
    EventsBut [] s (s.ramped d op) ∧ (s.ramped d op).num (domIdx d) 0x0A = s.num (domIdx d) 0x0A ∧
    (s.ramped d op).domState d = (if s.domState d = dCoasting then dCoasting else dRampUp) ∧
    (s.ramped d op).clk = (s.setDom d fun x => { x with ramps := x.ramps ++ [op], pendAt := s.now }).clk := by
  unfold State.ramped
  extract_lets v
  have hv : RampStep d s v := (RampStep.setDom d s d _).trans (.railToReq d _)
  have hvn : ∀ i a, v.num i a = s.num i a := fun i a => (num_railToReq ..).trans (num_setDom ..)
  have hvm : v.mgmt = s.mgmt := by simp [v]
  have hvc : v.cat = s.cat := by simp [v]
  have hvk : v.clk = (s.setDom d fun x => { x with ramps := x.ramps ++ [op], pendAt := s.now }).clk := by simp [v]
  have hst : v.domState d = s.domState d := hvn ..
  clear_value v
  rw [← hst]
  split
  · next h => exact ⟨hv, hvm, .of_cat hvc, hvn _ _, h, hvk⟩
  · refine ⟨hv.trans (.putDomState hd v _), hvm, ?_, ?_, num_put_self .., hvk⟩
    · exact (EventsBut.of_cat hvc).trans (.of_put v (by decide) (.inl (by simp only [domIdx]; omega)))
    · exact (num_put_of_apart (by decide) (by decide) (.inr (by decide)) (.inr (.inl (by decide)))).trans (hvn _ _)

theorem beginRamp_eq (hd : d < 8) (s : State) (op : Nat) :
    beginRamp s d op = if s.pwr.silent.contains (railOf d) then abandonRaise (s.ramped d op) d op 1 else s.ramped d op := by
  have h := (ramped_spec hd s op).1.silent
  rw [← h]
  rfl

theorem rampStep_beginRamp (hd : d < 8) (s : State) (op : Nat) : RampStep d s (beginRamp s d op) := by
  rw [beginRamp_eq hd]
  split
  · exact (ramped_spec hd s op).1.trans (abandonRaise_told hd _ op 1).1
  · exact (ramped_spec hd s op).1

/-! ### An untimed change (R239) -/

theorem rampStep_dropPend (hd : d < 8) (s : State) : RampStep d s (dropPend s d) := by
  unfold dropPend
  split
  · exact .refl d s
  · extract_lets v
    have hv : RampStep d s v := ((RampStep.setDom d s d _).trans (.setDom d _ d _)).trans (.railToReq d _)
    split
    · exact hv.trans (.putDomState hd v _)
    · exact hv

theorem rampStep_requestOp (hd : d < 8) (s : State) (op : Nat) : RampStep d s (requestOp s d op) := by
  unfold requestOp
  extract_lets v up w
  have hw : RampStep d s w := (rampStep_dropPend hd s).trans (.setDom d v d _)
  split
  · exact hw.trans (rampStep_beginRamp hd w op)
  · split
    · split
      · exact hw
      · exact hw.trans (.putDomState hd w _)
    · exact hw

/-- The change of a domain without a waiting one, asked for now. -/
def State.asked (s : State) (d op : Nat) : State := s.setDom d fun x => { x with pend := some op, pendAt := s.now }

theorem requestOp_free (h : (s.dom d).pend = none) (hst : s.domState d = dSteady ∨ s.domState d = dFloor) :
    requestOp s d op = if isRaise s d op then beginRamp (s.asked d op) d op
      else if op < s.num (domIdx d) 2 then s.asked d op else (s.asked d op).putDomState d dStepPending := by
  have hdp : dropPend s d = s := by
    unfold dropPend
    rw [h]
  unfold requestOp
  rw [hdp]
  have hs : (s.asked d op).domState d = dSteady ∨ (s.asked d op).domState d = dFloor := hst
  exact ite_congr rfl (fun _ => rfl) fun _ => if_pos hs

theorem length_setDom (s : State) (d : Nat) (f : Domain → Domain) : (s.setDom d f).clk.domains.length = s.clk.domains.length :=
  List.length_modify ..

theorem pend_asked (hd : d < s.clk.domains.length) (op : Nat) : ((s.asked d op).dom d).pend = some op := by
  rw [State.asked, dom_setDom_self _ _ _ hd]

theorem pend_ramped (hd : d < 8) (hl : d < s.clk.domains.length) (op : Nat) :
    (((s.asked d op).ramped d op).dom d).pend = some op := by
  obtain ⟨-, -, -, -, -, hc⟩ := ramped_spec hd (s.asked d op) op
  rw [dom_congr_clk hc, dom_setDom_self _ _ _ (by rw [State.asked, length_setDom]; exact hl)]
  exact pend_asked hl op

theorem isRaise_congr (h : t.clk = s.clk) (d op : Nat) : isRaise t d op = isRaise s d op := by
  rw [isRaise, dom_congr_clk h]
  rfl

/-- Settles O33: every change of a domain is a `RampStep`, whose end says the domain's state. -/
theorem operatingPointsRampAndStep : Obligations.OperatingPointsRampAndStep := by
  unfold Obligations.OperatingPointsRampAndStep
  refine ⟨?target, ?ramp, ?abandon, ?coasting, ?lower, ?start, ?restore⟩
  case target =>
    intro s r d v hw
    obtain ⟨x, hx⟩ : ∃ x, x = s.write (ent (domIdx d) 1) (.num v) := ⟨_, rfl⟩
    have ha : (targetOpRule d).apply s false (carried r) (.num v) = { s := requestOp x d v } := by
      rw [hx]
      rfl
    have hxo : Outside [.cat, .gen] s x := hx ▸ outside_write s _ _
    have hx1 : x.num (domIdx d) 1 = v := hx ▸ num_write_self s _ _ _
    have hxn : ∀ a, a < 256 → a ≠ 1 → x.num (domIdx d) a = s.num (domIdx d) a := fun a ha h => by
      rw [hx]
      exact num_write_of_apart (by decide) ha ⟨.inr h.symm, .inr (.inl (by decide))⟩
    have hxe : EntriesOutside ((domIdx d, domIdx d) :: eventRanges) s x := by
      rw [hx]
      exact entriesOutside_write s _ _ _ (by decide) (domIdx_listed d)
    have hxev : EventsBut [] s x := .of_entries (rs := [(domIdx d, domIdx d)])
      (hx ▸ entriesOutside_write s _ _ _ (by decide) ⟨_, .head _, le_rfl, le_rfl⟩)
      (fun r hr => by
        rw [List.mem_singleton.mp hr]
        simp only [domIdx]
        omega) (hxo .unit (by decide)) (hxo .pwr (by decide)) (hxo .cfg (by decide))
    have hxc : x.clk = s.clk := hxo .clk (by decide)
    have hxm : x.mgmt = s.mgmt := hxo .mgmt (by decide)
    have hxs : x.pwr.silent = s.pwr.silent := by rw [hxo .pwr (by decide)]
    clear hx
    obtain ⟨ho, he, hn, hev, -⟩ := rampStep_requestOp d.isLt x v
    have hfree : (s.dom d).pend = none → (s.domState d = dSteady ∨ s.domState d = dFloor) →
        requestOp x d v = if isRaise s d v then beginRamp (x.asked d v) d v
          else if v < s.num (domIdx d) 2 then x.asked d v else (x.asked d v).putDomState d dStepPending := fun hp hst => by
      have hst' : x.domState d = dSteady ∨ x.domState d = dFloor := by
        rw [State.domState, hxn 3 (by decide) (by decide)]
        exact hst
      rw [requestOp_free (by rw [dom_congr_clk hxc]; exact hp) hst', isRaise_congr hxc, hxn _ (by decide) (by decide)]
    have hsil : (x.asked d v).pwr.silent = s.pwr.silent := hxs
    have hask : (x.asked d v).domState d = s.domState d := hxn 3 (by decide) (by decide)
    have hlen : d.val < s.clk.domains.length → d.val < x.clk.domains.length := fun h => by
      rw [hxc]
      exact h
    have hnc : (s.domState d = dSteady ∨ s.domState d = dFloor) → s.domState d ≠ dCoasting := fun h => by
      rcases h with h | h <;> rw [h] <;> decide
    obtain ⟨-, r2, r3, -, r5, -⟩ := ramped_spec d.isLt (x.asked d v) v
    refine does_write rfl hw ha fun u hu => ⟨hu.ok, ?_, fun hp hst hr => ?_, fun hp hst hr hs => ?_, fun hp hst hr hs => ?_,
      ?_, ?_⟩
    · rw [hu.num, hn _ (by decide) (by decide) (by decide), hx1]
    · have hq := hfree hp hst
      rw [if_neg (by rw [hr]; nofun)] at hq
      by_cases hlt : v < s.num (domIdx d) 2
      · rw [if_pos hlt] at hq
        rw [hq] at hu
        rw [if_pos hlt]
        refine ⟨(hu.num ..).trans hask, fun hl => ?_, hu.mgmt.trans hxm⟩
        rw [dom_congr_clk (hu.outside .clk (by decide))]
        exact pend_asked (hlen hl) v
      · rw [if_neg hlt] at hq
        rw [hq] at hu
        rw [if_neg hlt]
        refine ⟨(hu.num ..).trans (num_put_self ..), fun hl => ?_, hu.mgmt.trans hxm⟩
        rw [dom_congr_clk (hu.outside .clk (by decide))]
        exact pend_asked (hlen hl) v
    · have hq := hfree hp hst
      rw [if_pos hr, beginRamp_eq d.isLt, if_neg (by rw [hsil, hs]; nofun)] at hq
      rw [hq] at hu
      refine ⟨(hu.num ..).trans (r5.trans (if_neg (by rw [hask]; exact hnc hst))), fun hl => ?_, hu.mgmt.trans (r2.trans hxm)⟩
      rw [dom_congr_clk (hu.outside .clk (by decide))]
      exact pend_ramped d.isLt (hlen hl) v
    · have hq := hfree hp hst
      rw [if_pos hr, beginRamp_eq d.isLt, if_pos (by rw [hsil, hs])] at hq
      rw [hq] at hu
      have hup : ((x.asked d v).ramped d v).domState d = dRampUp := r5.trans (if_neg (by rw [hask]; exact hnc hst))
      obtain ⟨-, a2, -, a4⟩ := abandonRaise_told d.isLt ((x.asked d v).ramped d v) v 1
      refine ⟨(hu.num ..).trans (a4.trans (if_pos (.inl hup))), fun hl => ?_, ?_⟩
      · have hlr : d.val < ((x.asked d v).ramped d v).clk.domains.length := by
          obtain ⟨-, -, -, -, -, hc⟩ := ramped_spec d.isLt (x.asked d v) v
          rw [hc, length_setDom, State.asked, length_setDom]
          exact hlen hl
        rw [dom_congr_clk (hu.outside .clk (by decide))]
        exact (abandonRaise_spec hlr d.isLt hup (pend_ramped d.isLt (hlen hl) v)).2.1
      · refine hu.raised ?_
        have hxask : EventsBut [] x (x.asked d v) := .of_cat rfl
        exact Raised.after_events ((hxev.trans hxask).trans r3) a2 (by decide) (by decide) (by decide)
    · exact ((hxo.mono (by decide)).andThen ho (by decide)).andThen hu.outside (by decide)
    · exact (hxe.trans he).then_cat hu.cat
  case ramp =>
    intro s d c hc
    obtain ⟨w, hw⟩ : ∃ w, w = s.waitTb c.tb (rampCount s c d) := ⟨_, rfl⟩
    have he : exec (.raiseRampStart d) s = .next (beginRamp w d (valNum c.val)) := by
      refine congrArg Host.Outcome.next ?_
      rw [hc, hw]
    have hwo : Outside [.now, .tim] s w := hw ▸ outside_pass s _
    have hwn : ∀ i a, w.num i a = s.num i a := fun i a => by rw [hw, State.waitTb, num_pass]
    have hev : EventsBut [] s w := .of_cat (hwo .cat (by decide))
    rw [← hw]
    clear hw
    have hst : w.domState d = s.domState d := hwn ..
    have hsil : w.pwr.silent = s.pwr.silent := by rw [hwo .pwr (by decide)]
    obtain ⟨ho, hent, -⟩ := rampStep_beginRamp d.isLt w (valNum c.val)
    obtain ⟨-, r2, r3, r4, r5, r6⟩ := ramped_spec d.isLt w (valNum c.val)
    have hb := beginRamp_eq d.isLt w (valNum c.val)
    refine ⟨_, he, ho .now (by decide), ho .tim (by decide), fun hs => ?_, fun hs => ?_,
      (hwo.mono (by decide)).andThen ho (by decide),
      (EntriesOutside.of_cat (hwo .cat (by decide))).trans hent⟩
    · rw [hb, if_neg (by rw [hsil, hs]; nofun), r5, r2, hst]
      refine ⟨rfl, hwo .mgmt (by decide), fun hl => ?_⟩
      have hwc : w.clk = s.clk := hwo .clk (by decide)
      rw [dom_congr_clk r6, dom_setDom_self _ _ _ (by rw [hwc]; exact hl), dom_congr_clk hwc]
    · obtain ⟨-, a2, a3, a4⟩ := abandonRaise_told d.isLt (w.ramped d (valNum c.val)) (valNum c.val) 1
      rw [hb, if_pos (by rw [hsil, hs])]
      refine ⟨?_, Raised.after_events (hev.trans r3) a2 (by decide) (by decide) (by decide), ?_⟩
      · rw [a4, r5, hst]
        by_cases hco : s.domState d = dCoasting
        · rw [if_pos hco, if_pos hco]
          rfl
        · rw [if_neg hco, if_neg hco]
          rfl
      · rw [a3, r4, hwn]
  case abandon =>
    intro s d op hst hp hr
    obtain ⟨w, hw⟩ : ∃ w, w = s.waitUntil ((s.dom d).pendAt + 10000000) := ⟨_, rfl⟩
    have hwo : Outside [.now, .tim] s w := hw ▸ outside_waitUntil s _
    have hwn : ∀ i a, w.num i a = s.num i a := fun i a => by rw [hw, num_waitUntil]
    have hwd : w.dom d = s.dom d := dom_congr_clk (hwo .clk (by decide)) d
    have hnow : w.now = max s.now ((s.dom d).pendAt + 10000000) := by rw [hw, now_waitUntil_max]
    have hre : reached w d op = reached s d op := by
      rw [reached, reached, hwo .pwr (by decide), hwn]
    have he : exec (.untimedRaiseAbandon d) s = .next (abandonRaise w d op 0) := by
      refine congrArg Host.Outcome.next ((if_pos ⟨hst, by rw [hp]; rfl⟩).trans ?_)
      dsimp only
      rw [← hw, hwd, hp]
      exact if_neg (by rw [Option.getD_some, hre, hr]; nofun)
    clear hw
    obtain ⟨⟨ho, hent, -, -, -⟩, a2, a3, a4⟩ := abandonRaise_told d.isLt w op 0
    refine ⟨_, he, (ho .now (by decide)).trans hnow, a4.trans (if_pos (.inl ((hwn ..).trans hst))), ?_, ?_, ?_, ?_⟩
    · exact Raised.after_events (ms := []) (.of_cat (hwo .cat (by decide))) a2 (by decide) (by decide) (by decide)
    · rw [a3, hwn]
    · exact (hwo.mono (by decide)).andThen ho (by decide)
    · exact (EntriesOutside.of_cat (hwo .cat (by decide))).trans hent
  case coasting =>
    intro s d h
    exact congrArg Host.Outcome.next (if_neg fun h' => h'.2 h)
  case lower =>
    intro s d hl hst
    obtain ⟨v, hv⟩ : ∃ v, v = s.setDom d fun x => { x with lower := false } := ⟨_, rfl⟩
    have hvq : (v.dom d).vReq d = (s.dom d).vReq d := by
      rw [hv]
      exact view_setDom (·.vReq d.val) (f := fun x => { x with lower := false }) (fun _ => rfl) s d d
    have hvp : v.pwr = s.pwr := by rw [hv]; rfl
    have hvo : Outside [.clk] s v := by rw [hv]; exact outside_clk s _
    have he : exec (.lowerVoltageWrite d) s = .next (setRail v (railOf d) ((v.dom d).vReq d)) := by
      refine congrArg Host.Outcome.next ((if_pos ⟨hl, hst⟩).trans ?_)
      rw [← hv]
      refine if_neg fun h => hst ?_
      have := h.1
      rw [hv] at this
      exact this
    refine ⟨_, he, ?_, ?_, ?_⟩
    · rw [← hvq, ← hvp]
      unfold setRail
      split <;> rfl
    · unfold setRail
      split <;> rw [hv] <;> rfl
    · refine (hvo.mono (by decide)).trans fun p hp => ?_
      cases p <;> simp at hp ⊢
  case start =>
    intro s d hm hs hv
    obtain ⟨w, hw⟩ : ∃ w, w = if qualified s (s.num 0x040000 1) then s else s.waitUntil (s.pwr.poweredAt + 200000000) := ⟨_,
      rfl⟩
    have he : startDomain s d = (w.put (domIdx d) 2 (s.num (domIdx d) 4)).setDom d fun x =>
        { x with started := true, setOp := s.num (domIdx d) 4, locked := true } := by
      rw [hw]
      refine if_neg ?_
      simp only [hm, hs, Bool.not_true, Bool.false_eq_true, false_or, Bool.not_eq_true', Bool.not_eq_false]
      split
      · next h =>
        rw [if_pos h] at hv
        exact decide_eq_true hv
      · next h =>
        rw [if_neg h] at hv
        exact decide_eq_true hv
    have hwo : Outside [.now, .tim] s w := by
      rw [hw]
      split
      · exact .refl _ _
      · exact outside_waitUntil s _
    have hnow : w.now = if qualified s (s.num 0x040000 1) then s.now else max s.now (s.pwr.poweredAt + 200000000) := by
      rw [hw]
      split
      · rfl
      · exact now_waitUntil_max ..
    have hwc : w.clk = s.clk := hwo .clk (by decide)
    refine ⟨_, congrArg Host.Outcome.next he, (num_setDom ..).trans (num_put_self ..), ?_, hnow, ?_, ?_⟩
    · rw [← hwc]
      rfl
    · exact ((hwo.mono (by decide)).andThen (outside_put w _ _ _) (by decide)).andThen (outside_clk _ _) (by decide)
    · exact ((EntriesOutside.of_cat (hwo .cat (by decide))).then_put (by decide)).trans (.of_cat rfl)
  case restore =>
    intro s d hst hf hch
    obtain ⟨w, hw⟩ : ∃ w, w = s.waitUntil ((s.dom d).relockAt + 10000000) := ⟨_, rfl⟩
    have hwo : Outside [.now, .tim] s w := hw ▸ outside_waitUntil s _
    have hnow : w.now = max s.now ((s.dom d).relockAt + 10000000) := by rw [hw, now_waitUntil_max]
    have he : exec (.domainAutoRestore d) s = .next (w.setDom d fun x => { x with restore := true }) := by
      rw [hw]
      exact congrArg Host.Outcome.next (if_pos ⟨hst, hf, by simp [hch]⟩)
    have hwc : w.clk = s.clk := hwo .clk (by decide)
    refine ⟨_, he, hnow, ?_, (hwo.mono (by decide)).andThen (outside_clk _ _) (by decide)⟩
    rw [← hwc]
    rfl

end Sys2Proof.Machine
end

section
/-! Rates and steps of the time bases (R252 to R258; obligation O35). -/

namespace Sys2Proof.Machine

variable {s t u : State} {i a k : Nat}

theorem outside_setTb (s : State) (k : Nat) (f : TimeBase → TimeBase) : Outside [.tim] s (s.setTb k f) := fun p hp => by
  cases p <;> simp at hp ⊢

theorem lmod_congr {α : Type} {l : List α} {f g : α → α} {d : α} (h : k < l.length → f (l.getD k d) = g (l.getD k d)) :
    lmod l k f = lmod l k g := by
  refine List.ext_getElem? fun j => ?_
  rw [lmod, lmod, List.getElem?_modify, List.getElem?_modify]
  by_cases hj : k = j
  · subst hj
    by_cases hk : k < l.length
    · have := h hk
      rw [List.getD_eq_getElem _ _ hk] at this
      simp [hk, this]
    · simp [hk]
  · simp [hj]

theorem fieldBE_be (n x : Nat) (b : List Byte) : fieldBE (be n x ++ b) 0 n = x % 256 ^ n := by
  rw [fieldBE, slice, List.drop_zero, List.take_left' (length_be n x), unbe_be]

theorem fieldBE_skip (m n x y : Nat) (b : List Byte) : fieldBE (be m y ++ (be n x ++ b)) m n = x % 256 ^ n := by
  rw [fieldBE, slice, List.drop_left' (length_be m y), List.take_left' (length_be n x), unbe_be]

theorem slewFields_be {inc cycles : Nat} (hi : inc < 2 ^ 48) (hc : cycles < 2 ^ 32) :
    slewFields (.oct (be 6 inc ++ be 4 cycles ++ be 4 0)) = (inc, cycles) := by
  rw [slewFields, valBytes, List.append_assoc, fieldBE_be, fieldBE_skip, Nat.mod_eq_of_lt (by simpa using hi),
    Nat.mod_eq_of_lt (by simpa using hc)]

theorem stepNs_wrap {ns : Int} (h1 : -2 ^ 63 ≤ ns) (h2 : ns < 2 ^ 63) : stepNs (.num (wrap 64 ns)) = ns := by
  unfold stepNs valInt valNum signed wrap
  dsimp only
  split <;> omega

theorem num_tb_event (hk : k < 8) {m : Nat} : tbIdx k ≠ 0x0E1000 + m := by
  simp only [tbIdx]
  omega

/-! ### Steps applied (R254, R256) -/

/-- The steps of a cycle taken into the count and counted, before they are told. -/
def State.stepped (s : State) (t : Nat) (steps : List StepReq) (ns : Int) (time : Nat) : State :=
  let s := s.setTb t fun b =>
    { b with
      time := time
      steps := b.steps.filter fun x => s.now < x.due
      was := some (b.was.getD (s.tb t).time)
      wasN := b.wasN + steps.length }
  let s := ((s.count (tbIdx t) 0x0A 32 steps.length).put (tbIdx t) 0x0B (wrap 64 ns)).put (tbIdx t) 0x0C (s.tb t).ns
  s.latchBits (tbIdx t) 0x0D (if steps.any (·.force) then 5 else 1)

/-- The events of the steps that applied (R254). -/
def State.stepsTold (s : State) (t : Nat) (steps : List StepReq) (ns : Int) : State :=
  let fields := be 8 (wrap 64 ns) ++ be 1 (stepEpoch s t)
  let s := if steps.any fun x => !x.force then s.raise 0x102 t fields else s
  if steps.any (·.force) then s.raise 0x103 t (fields ++ be 8 (s.pick t)) else s

/-- What a step does to the picks of an armed time base (R24, R25). -/
def State.stepPicks (s : State) (t : Nat) (ns : Int) : State :=
  if !(s.tb t).armed then s
  else if 0 < ns then
    let s := stepForward s t
    (List.range 64).foldl (fun s u =>
      if s.num (trigIdx u) 2 = t ∧ s.num (trigIdx u) 1 ≤ 3 then passTrigger s u (s.tb t).time else s) s
  else if ns < 0 then stepBackward s t ns
  else s

/-- The sum of some steps, in ns. -/
def stepSum (steps : List StepReq) : Int := (steps.map (·.ns)).foldl (· + ·) 0

theorem applySteps_eq {first : StepReq} {rest : List StepReq} (h : (s.tb k).steps = first :: rest) {m : State}
    (hm : m = s.waitUntil first.due) :
    ∃ ns : Int, applySteps s k = ((m.stepped k ((m.tb k).steps.filter fun x => x.due ≤ m.now) ns
      ((((m.tb k).time : Int) + stepSum ((m.tb k).steps.filter fun x => x.due ≤ m.now) * nsUnit).toNat)).stepsTold k
        ((m.tb k).steps.filter fun x => x.due ≤ m.now) ns).stepPicks k ns := by
  unfold applySteps
  rw [h]
  dsimp -zeta only
  rw [← hm]
  clear hm
  extract_lets _ steps sum old new ns v w forced x fields y z z'
  have hz : z = x.stepsTold k steps ns := rfl
  have hx : x = m.stepped k steps ns new.toNat := rfl
  have hz' : z' = stepForward z k := rfl
  refine ⟨ns, ?_⟩
  rw [hx] at hz
  clear_value ns z' z x
  rw [hz']
  subst hz
  rfl

theorem now_stepPicks (s : State) (t : Nat) (ns : Int) : (s.stepPicks t ns).now = s.now := by
  obtain ⟨v, hv⟩ : ∃ v, v = stepForward s t := ⟨_, rfl⟩
  have hvn : v.now = s.now := by rw [hv]; simp
  have hfold : ((List.range 64).foldl (fun s u =>
      if s.num (trigIdx u) 2 = t ∧ s.num (trigIdx u) 1 ≤ 3 then passTrigger s u (s.tb t).time else s) v).now = v.now :=
    foldl_keeps (fun s : State => s.now) (fun s u _ => by
      split
      · simp
      · rfl) v
  unfold State.stepPicks
  rw [← hv]
  clear hv
  split
  · rfl
  · split
    · exact hfold.trans hvn
    · split
      · simp
      · rfl

theorem stepped_spec (hk : k < 8) (s : State) (steps : List StepReq) (ns : Int) (time : Nat) :
    (s.stepped k steps ns time).num (tbIdx k) 0x0A = (s.num (tbIdx k) 0x0A + steps.length) % 2 ^ 32 ∧
    (s.stepped k steps ns time).tim = (s.setTb k fun b =>
      { b with
        time := time
        steps := b.steps.filter fun x => s.now < x.due
        was := some (b.was.getD (s.tb k).time)
        wasN := b.wasN + steps.length }).tim ∧
    EventsBut [] s (s.stepped k steps ns time) ∧ Outside [.cat, .mgmt, .tim] s (s.stepped k steps ns time) ∧
    EntriesOutside ((tbIdx k, tbIdx k) :: eventRanges) s (s.stepped k steps ns time) := by
  have hlow : tbIdx k < 0x0E1000 := by simp only [tbIdx]; omega
  unfold State.stepped
  extract_lets v w
  have hvo : Outside [.tim] s v := outside_setTb s k _
  have hvn : ∀ i a, v.num i a = s.num i a := fun i a => num_setTb ..
  have hvt : v.tim = (s.setTb k fun b =>
      { b with
        time := time
        steps := b.steps.filter fun x => s.now < x.due
        was := some (b.was.getD (s.tb k).time)
        wasN := b.wasN + steps.length }).tim := rfl
  rw [← hvt]
  clear hvt
  clear_value v
  have hA : w.num (tbIdx k) 0x0A = (s.num (tbIdx k) 0x0A + steps.length) % 2 ^ 32 := by
    have h1 := num_put_self v (tbIdx k) 0x0A ((v.num (tbIdx k) 0x0A + steps.length) % 2 ^ 32)
    rw [hvn] at h1
    exact (num_put_of_apart (by decide) (by decide) (.inr (by decide)) (.inr (.inr (.inl (by decide))))).trans
      ((num_put_of_apart (by decide) (by decide) (.inr (by decide)) (.inr (.inr (.inl (by decide))))).trans
        ((congrArg (fun x => (v.put (tbIdx k) 0x0A ((x + steps.length) % 2 ^ 32)).num (tbIdx k) 0x0A) (hvn _ _)).trans h1))
  have hwo : Outside [.cat] v w := ((outside_count v _ _ _ _).trans (outside_put _ _ _ _)).trans (outside_put _ _ _ _)
  have hwe : EntriesOutside ((tbIdx k, tbIdx k) :: eventRanges) v w :=
    (((EntriesOutside.refl _ v).then_count (by decide)).then_put (by decide)).then_put (by decide)
  have hwv : EventsBut [] v w :=
    ((EventsBut.of_put v (by decide) (.inl (by omega))).trans (.of_put _ (by decide) (.inl (by omega)))).trans (.of_put _ (by decide) (.inl (by omega)))
  clear_value w
  refine ⟨?_, ?_, ?_, ?_, ?_⟩
  · exact (num_latchBits_of_apart (by decide) (by decide) (.inr (by decide)) (.inr (.inr (.inl (by decide))))).trans hA
  · exact ((outside_latchBits w _ _ _) .tim (by decide)).trans (hwo .tim (by decide))
  · exact ((EventsBut.of_cat (hvo .cat (by decide))).trans hwv).trans (.of_latchBits w (by decide) (.inl (by omega)))
  · exact ((hvo.mono (by decide)).andThen hwo (by decide)).andThen (outside_latchBits w _ _ _) (by decide)
  · exact ((EntriesOutside.of_cat (hvo .cat (by decide))).trans hwe).trans
      (entriesOutside_latchBits w _ _ _ (by decide) ⟨_, .head _, le_rfl, le_rfl⟩)

theorem stepsTold_spec (hk : k < 8) (s : State) (steps : List StepReq) (ns : Int) :
    ((steps.any fun x => x.force) = true → Raised s (s.stepsTold k steps ns) 0x103) ∧
    ((steps.any fun x => !x.force) = true → Raised s (s.stepsTold k steps ns) 0x102) ∧
    (∀ a, a < 256 → (s.stepsTold k steps ns).num (tbIdx k) a = s.num (tbIdx k) a) ∧
    Outside [.cat, .mgmt] s (s.stepsTold k steps ns) ∧
    EntriesOutside eventRanges s (s.stepsTold k steps ns) := by
  unfold State.stepsTold
  extract_lets fields v
  have hv : ((steps.any fun x => !x.force) = true → Raised s v 0x102) ∧ EventsBut [0x102] s v ∧ Outside [.cat, .mgmt] s v ∧
      EntriesOutside eventRanges s v := by
    unfold v
    split
    · exact ⟨fun _ => raised_raise s _ _ (by decide), .of_raise s (by decide), outside_raise s _ _ _,
        entriesOutside_raise s _ _ _ (by decide)⟩
    · next h => exact ⟨fun h' => absurd h' h, .refl _ _, .refl _ _, .refl _ _⟩
  obtain ⟨h2, hev, ho, he⟩ := hv
  clear_value v
  have hnum : ∀ u : State, Outside [.cat, .mgmt] s u → EntriesOutside eventRanges s u → ∀ a,
    a < 256 → u.num (tbIdx k) a = s.num (tbIdx k) a :=
    fun u huo hue a ha => num_outside hue (huo .unit (by decide)) (huo .pwr (by decide)) (huo .cfg (by decide)) _ _ ha
      (not_event _ (.inl (by simp only [tbIdx]; omega)))
  split
  · have ho' := ho.trans (outside_raise v 0x103 k (fields ++ be 8 (v.pick k)))
    have he' := he.trans (entriesOutside_raise v 0x103 k (fields ++ be 8 (v.pick k)) (by decide))
    exact ⟨fun _ => hev.raised (by decide) (by decide) (by decide),
      fun h => (h2 h).then_events (.of_raise (ms := [0x103]) v (by decide)) (by decide) (by decide) (by decide),
      hnum _ ho' he', ho', he'⟩
  · next h => exact ⟨fun h' => absurd h' h, h2, hnum v ho he, ho, he⟩

theorem stepPicks_unarmed {ns : Int} (h : (s.tb k).armed = false) : s.stepPicks k ns = s := if_pos (by rw [h]; rfl)

theorem run_steps (b : TimeBase) (n : Nat) : (b.run n).steps = b.steps := by
  unfold TimeBase.run
  split
  · rfl
  · split <;> rfl

theorem filter_due {l : List StepReq} {n : Nat} (h : ∀ x ∈ l, x.due ≤ n) :
    (l.filter fun x => x.due ≤ n) = l ∧ (l.filter fun x => n < x.due) = [] :=
  ⟨List.filter_eq_self.mpr fun x hx => decide_eq_true (h x hx),
    List.filter_eq_nil_iff.mpr fun x hx => by simpa using h x hx⟩

theorem tb_lt_of_steps {x : StepReq} {l : List StepReq} (h : (s.tb k).steps = x :: l) : k < s.tim.tb.length := by
  by_contra hl
  rw [State.tb, List.getD_eq_default _ _ (by omega)] at h
  exact absurd h nofun

/-- Settles O35: each of the eight writes and events of a time base, through the equation of its rule (`slewFields_be`,
`applySteps_eq`) and the parts its helpers leave unchanged. -/
theorem timeBasesTakeRatesAndSteps : Obligations.TimeBasesTakeRatesAndSteps := by
  unfold Obligations.TimeBasesTakeRatesAndSteps
  refine ⟨?increment, ?slew, ?slewEnd, ?step, ?refused, ?force, ?apply, ?set⟩
  case increment =>
    intro s r t v hw
    refine does_write rfl hw rfl fun u hu => ⟨hu.ok, ?_, ?_, ?_, ?_⟩
    · exact (hu.num ..).trans ((num_setTb ..).trans (num_write_self ..))
    · have hwt : (s.write (ent (tbIdx t) 5) (.num v)).tim = s.tim := outside_write s _ _ .tim (by decide)
      rw [hu.outside .tim (by decide), State.setTb, hwt]
      rfl
    · exact (((outside_write s _ _).mono (by decide)).andThen (outside_setTb _ _ _) (by decide)).andThen hu.outside (by decide)
    · have he : EntriesOutside [(tbIdx t, tbIdx t)] s (s.write (ent (tbIdx t) 5) (.num v)) :=
        entriesOutside_write s _ _ _ (by decide) ⟨_, .head _, le_rfl, le_rfl⟩
      exact (he.then_cat ((outside_setTb (s.write (ent (tbIdx t) 5) (.num v)) t fun b => { b with inc := v }) .cat (by decide))).then_cat hu.cat
  case slew =>
    intro s r t inc cycles hw hi hc
    obtain ⟨x, hx⟩ : ∃ x, x = (s.write (ent (0x030140 + t) 1) (.num inc)).write (ent (0x030140 + t) 2) (.num cycles) := ⟨_, rfl⟩
    have ha : (slewRule t).apply s false (carried r) (.oct (be 6 inc ++ be 4 cycles ++ be 4 0)) = { s := startSlew x t inc cycles } := by
      simp only [slewRule, slewFields_be hi hc, hx]
    have hxo : Outside [.cat, .gen] s x := by
      rw [hx]
      exact (outside_write s _ _).trans (outside_write _ _ _)
    have hxe : EntriesOutside ((0x030140 + t.val, 0x030140 + t.val) :: eventRanges) s x := by
      rw [hx]
      exact (entriesOutside_write s _ _ _ (by decide) ⟨_, .head _, le_rfl, le_rfl⟩).trans
        (entriesOutside_write _ _ _ _ (by decide) ⟨_, .head _, le_rfl, le_rfl⟩)
    have hx1 : x.num (0x030140 + t) 1 = inc := by
      rw [hx]
      exact (num_write_of_apart (by decide) (by decide) ⟨.inr (by decide), .inr (.inl (by decide))⟩).trans (num_write_self ..)
    have hx2 : x.num (0x030140 + t) 2 = cycles := by
      rw [hx]
      exact num_write_self ..
    have hxv : EventsBut [] s x := .of_entries (rs := [(0x030140 + t.val, 0x030140 + t.val)])
      (by
        rw [hx]
        exact (entriesOutside_write s _ _ _ (by decide) ⟨_, .head _, le_rfl, le_rfl⟩).trans
          (entriesOutside_write _ _ _ _ (by decide) ⟨_, .head _, le_rfl, le_rfl⟩))
      (fun q hq => by
        rw [List.mem_singleton.mp hq]
        dsimp only
        omega) (hxo .unit (by decide)) (hxo .pwr (by decide)) (hxo .cfg (by decide))
    have htim : x.tim = s.tim := hxo .tim (by decide)
    have htb : x.tb t = s.tb t := by
      rw [State.tb, htim]
      rfl
    clear hx
    obtain ⟨y, hy⟩ : ∃ y, y = if (x.tb t).slewing then
        x.raise 0x104 t (be 1 (if 0 < (x.tb t).slewLeft then 1 else 0) ++ be 4 (x.tb t).slewLeft) else x := ⟨_, rfl⟩
    have hst : startSlew x t inc cycles = y.setTb t fun b => { b with slewInc := inc, slewLeft := cycles, slewing := true } := by
      rw [hy]
      rfl
    have hyo : Outside [.cat, .mgmt] x y := by
      rw [hy]
      split
      · exact outside_raise x _ _ _
      · exact .refl _ _
    have hye : EntriesOutside eventRanges x y := by
      rw [hy]
      split
      · exact entriesOutside_raise x _ _ _ (by decide)
      · exact .refl _ _
    have hyn : ∀ a, a < 256 → y.num (0x030140 + t) a = x.num (0x030140 + t) a := fun a ha =>
      num_outside hye (hyo .unit (by decide)) (hyo .pwr (by decide)) (hyo .cfg (by decide)) _ _ ha (not_event _ (.inl (by omega)))
    have hyr : (s.tb t).slewing = true → Raised s y 0x104 := fun h => by
      rw [hy, if_pos (by rw [htb, h])]
      exact hxv.raised (by decide) (by decide) (by decide)
    have hym : (s.tb t).slewing = false → y.mgmt = x.mgmt := fun h => by
      rw [hy, if_neg (by rw [htb, h]; nofun)]
    clear hy
    rw [hst] at ha
    refine does_write rfl hw ha fun u hu => ⟨hu.ok, ?_, ?_, ?_, fun h => ?_, fun h => ?_, ?_, ?_⟩
    · rw [hu.num, num_setTb, hyn _ (by decide), hx1]
    · rw [hu.num, num_setTb, hyn _ (by decide), hx2]
    · rw [hu.outside .tim (by decide), ← htim, ← hyo .tim (by decide)]
      rfl
    · exact hu.raised ((hyr h).congr (num_setTb ..))
    · exact hu.mgmt.trans ((hym h).trans (hxo .mgmt (by decide)))
    · exact (((hxo.mono (by decide)).andThen hyo (by decide)).andThen (outside_setTb _ _ _) (by decide)).andThen hu.outside (by decide)
    · exact ((hxe.trans (hye.mono (List.subset_cons_self ..))).then_cat ((outside_setTb y t _) .cat (by decide))).then_cat hu.cat
  case slewEnd =>
    intro s t hs
    obtain ⟨w, hw⟩ : ∃ w, w = s.pass (s.tb t).slewLeft := ⟨_, rfl⟩
    have hwo : Outside [.now, .tim] s w := hw ▸ outside_pass s _
    have hnow : w.now = s.now + (s.tb t).slewLeft := by rw [hw]; rfl
    obtain ⟨v, hv⟩ : ∃ v, v = w.setTb t fun b => { b with slewing := false, slewLeft := 0 } := ⟨_, rfl⟩
    have hvo : Outside [.tim] w v := hv ▸ outside_setTb w _ _
    have he : exec (.slewEnd t) s = .next (v.raise 0x104 t (be 1 0 ++ be 4 0)) := by
      rw [hv, hw]
      exact congrArg Host.Outcome.next (if_pos hs)
    have hcat : v.cat = s.cat := (hvo .cat (by decide)).trans (hwo .cat (by decide))
    rw [← hw]
    refine ⟨_, he, ?_, ?_, ?_, ?_, ?_⟩
    · rw [(outside_raise v _ _ _) .now (by decide), hvo .now (by decide), hnow]
    · exact raised_after (by decide) (num_event_of_cat (by decide) hcat)
    · rw [(outside_raise v _ _ _) .tim (by decide), hv]
      rfl
    · exact ((hwo.mono (by decide)).andThen hvo (by decide)).andThen (outside_raise v _ _ _) (by decide)
    · exact (EntriesOutside.of_cat hcat).trans (entriesOutside_raise v _ _ _ (by decide))
  case step =>
    intro s r t ns hw h1 h2
    have ha : (stepRule t).apply s false (carried r) (.num (wrap 64 ns)) = { s := addStep s t ns false } := by
      simp only [stepRule, stepNs_wrap h1 h2]
    refine does_write rfl hw ha fun u hu => ⟨hu.ok, hu.outside .tim (by decide), ?_⟩
    exact ((outside_setTb s t _).mono (by decide)).andThen hu.outside (by decide)
  case refused =>
    intro s r t ns hserve htoe hc h1 h2 harmed hlim
    have hlow : tbIdx t < 0x0E0000 := by simp only [tbIdx]; omega
    obtain ⟨v, hv⟩ : ∃ v, v = s.latchBits (tbIdx t) 0x0D 2 := ⟨_, rfl⟩
    obtain ⟨w, hw⟩ : ∃ w, w = v.raise 0x101 t (be 8 (wrap 64 ns) ++ be 8 (s.num (tbIdx t) 8)) := ⟨_, rfl⟩
    have hj : (stepRule t).judge s (carried r) (.num (wrap 64 ns)) = some { s := w, status := stStepRefused } := by
      simp only [stepRule, stepNs_wrap h1 h2, hw, hv]
      exact if_pos ⟨harmed, hlim⟩
    have he := submit_judged hserve hc (checkTiming_none htoe) hj
    have hro := reply_outside w stStepRefused 0
    have hrn : ∀ i a, a < 256 → (w.reply stStepRefused 0).num i a = w.num i a := fun i a ha =>
      num_congr_of_cat (hro .cat (by decide)) (hro .unit (by decide)) (hro .pwr (by decide)) (hro .cfg (by decide)) i a ha
    have hvo : Outside [.cat, .mgmt] s v := hv ▸ outside_latchBits s _ _ _
    have hve : EntriesOutside ((tbIdx t, tbIdx t) :: eventRanges) s v := by
      rw [hv]
      exact entriesOutside_latchBits s _ _ _ (by decide) ⟨_, .head _, le_rfl, le_rfl⟩
    have hvD : v.num (tbIdx t) 0x0D = s.num (tbIdx t) 0x0D ||| 2 := by rw [hv, num_latchBits_self]
    have hvev : EventsBut [] s v := hv ▸ .of_latchBits s (by decide) (.inl (by omega))
    refine ⟨_, congrArg Host.Outcome.next he, rfl, ?_, ?_, ?_, ?_⟩
    · refine Raised.congr ?_ (hrn _ _ (by decide))
      rw [hw]
      exact hvev.raised (by decide) (by decide) (by decide)
    · rw [hrn _ _ (by decide), hw, num_raise (by decide) _ _ (by decide) (.inl (by omega)), hvD]
    · rw [hw]
      exact ((hvo.mono (by decide)).andThen (outside_raise v _ _ _) (by decide)).andThen (reply_outside _ _ _) (by decide)
    · refine EntriesOutside.then_cat ?_ (hro .cat (by decide))
      rw [hw]
      exact hve.then_raise (by decide)
  case force =>
    intro s r t ns hserve htoe hc harmed hlen
    have hj : (forceStepRule t).judge s (carried r) (.num (wrap 64 ns)) = none := if_pos harmed
    have hp : (forceStepRule t).pick s (.num (wrap 64 ns)) = some (s.tb t).upcoming := rfl
    have htask : taskOf (ent (tbIdx t) 7) = none := by
      simp [taskOf, ent, tbIdx]
    have htake : takeEngine (ent (tbIdx t) 7) = none := by
      simp [takeEngine, ent, tbIdx]
    have hcost : costs (timedCmd s (carried r) 0 t (s.tb t).upcoming (ent (tbIdx t) 7) (.num (wrap 64 ns))) = false := by
      simp only [costs, timedCmd, htask, htake]
      simp
    have had : admits s (timedCmd s (carried r) 0 t (s.tb t).upcoming (ent (tbIdx t) 7) (.num (wrap 64 ns))) = true := by
      rw [admits, if_neg (by omega), hcost]
      rfl
    have hex := (submit_executes hserve hc).trans (congrArg (fun d : Done => d.s.reply d.status d.detail)
      ((executeWrite_picked (checkTiming_none (pos := 0) (key := ent (tbIdx t) 7) htoe) hj hp).trans (if_pos had)))
    refine ⟨_, congrArg Host.Outcome.next hex, rfl, ?_, ?_⟩
    · have hcar : (carried r).who = r.who ∧ (carried r).trans = r.trans := by
        rw [carried]
        split <;> exact ⟨rfl, rfl⟩
      have hct : timedCmd s (carried r) 0 t (s.tb t).upcoming (ent (tbIdx t) 7) (.num (wrap 64 ns)) =
          { who := r.who, trans := r.trans, tb := t, pick := (s.tb t).upcoming, key := ent (tbIdx t) 7,
            val := .num (wrap 64 ns), order := s.ruling.order, cyc := s.now } := by
        simp only [timedCmd, htask, hcar.1, hcar.2]
        simp
      exact congrArg (fun c => { s.ruling with timed := s.ruling.timed ++ [c], order := s.ruling.order + 1 }) hct
    · intro p hp
      cases p <;> simp at hp ⊢ <;> rfl
  case apply =>
    intro s t first rest m hsteps hm
    obtain ⟨ns, he⟩ := applySteps_eq hsteps hm
    have hmo : Outside [.now, .tim] s m := hm ▸ outside_waitUntil s _
    have hnow : m.now = max s.now first.due := by rw [hm, now_waitUntil_max]
    have hlt := tb_lt_of_steps hsteps
    have hmt : m.tb t = (s.tb t).run (first.due - s.now) := by rw [hm, State.waitUntil, tb_pass hlt]
    have hmlen : t.val < m.tim.tb.length := by rw [hm, State.waitUntil, length_tb_pass]; exact hlt
    have hmn : ∀ i a, m.num i a = s.num i a := fun i a => by rw [hm, num_waitUntil]
    have hms : (m.tb t).steps = (s.tb t).steps := by rw [hmt, run_steps]
    have hma : (m.tb t).armed = (s.tb t).armed := by rw [hmt, (run_keeps _ _).1]
    clear hm
    obtain ⟨l, hl⟩ : ∃ l, l = (m.tb t).steps.filter fun x => x.due ≤ m.now := ⟨_, rfl⟩
    rw [← hl] at he
    obtain ⟨p1, p2, p3, p4, p5⟩ := stepped_spec t.isLt m l ns ((((m.tb t).time : Int) + stepSum l * nsUnit).toNat)
    generalize m.stepped t l ns ((((m.tb t).time : Int) + stepSum l * nsUnit).toNat) = v at *
    obtain ⟨q1, q2, q3, q4, q5⟩ := stepsTold_spec t.isLt v l ns
    generalize v.stepsTold t l ns = w at *
    refine ⟨_, congrArg Host.Outcome.next he, ?_, fun harm hdue => ?_⟩
    · rw [now_stepPicks, q4 .now (by decide), p4 .now (by decide), hnow]
    · have hall : l = (s.tb t).steps := by
        rw [hl, hms]
        refine (filter_due fun x hx => ?_).1
        rw [hsteps] at hx
        rcases List.mem_cons.mp hx with rfl | hx
        · omega
        · exact hdue x hx
      have hnone : ((m.tb t).steps.filter fun x => m.now < x.due) = [] := by
        rw [hms]
        refine (filter_due fun x hx => ?_).2
        rw [hsteps] at hx
        rcases List.mem_cons.mp hx with rfl | hx
        · omega
        · exact hdue x hx
      have hwa : (w.tb t).armed = false := by
        rw [State.tb, q4 .tim (by decide), p2, ← State.tb, tb_setTb_self _ _ _ hmlen]
        exact hma.trans harm
      rw [stepPicks_unarmed hwa, ← hall]
      refine ⟨?_, ?_, fun h => ?_, fun h => ?_, ?_, ?_⟩
      · rw [q3 _ (by decide), p1, hmn]
      · rw [q4 .tim (by decide), p2]
        refine congrArg (fun x => ({ m.tim with tb := x } : Times)) (lmod_congr (d := {}) fun _ => ?_)
        have hb : m.tim.tb.getD t {} = m.tb t := rfl
        rw [hb, hnone]
        rfl
      · exact Raised.after_events (ms := []) ((EventsBut.of_cat (hmo .cat (by decide))).trans p3) (q1 h) (by decide) (by decide) (by decide)
      · exact Raised.after_events (ms := []) ((EventsBut.of_cat (hmo .cat (by decide))).trans p3) (q2 h) (by decide) (by decide) (by decide)
      · exact ((hmo.mono (by decide)).andThen p4 (by decide)).andThen q4 (by decide)
      · exact ((EntriesOutside.of_cat (hmo .cat (by decide))).trans p5).trans (q5.mono (List.subset_cons_self ..))
  case set =>
    intro s r t ns hw
    have hlow : tbIdx t < 0x0E0000 := by simp only [tbIdx]; omega
    obtain ⟨x, hx⟩ : ∃ x, x = if (s.tb t).setPend.isSome then s else s.count (tbIdx t) 0x0A 32 1 := ⟨_, rfl⟩
    obtain ⟨y, hy⟩ : ∃ y, y = x.setTb t fun b => { b with setPend := some ns } := ⟨_, rfl⟩
    have ha : (setRule t).apply s false (carried r) (.num ns) = { s := y.raise 0x105 t (encTime ns) } := by
      rw [hy, hx]
      rfl
    have hxo : Outside [.cat] s x := by
      rw [hx]
      split
      · exact .refl _ _
      · exact outside_count s _ _ _ _
    have hxe : EntriesOutside ((tbIdx t, tbIdx t) :: eventRanges) s x := by
      rw [hx]
      split
      · exact .refl _ _
      · exact (EntriesOutside.refl _ s).then_count (by decide)
    have hxv : EventsBut [] s x := by
      rw [hx]
      split
      · exact .refl _ _
      · exact .of_put s (by decide) (.inl (by omega))
    have hxA : x.num (tbIdx t) 0x0A = if (s.tb t).setPend.isSome then s.num (tbIdx t) 0x0A else (s.num (tbIdx t) 0x0A + 1) % 2 ^ 32 := by
      rw [hx]
      split
      · rfl
      · exact num_put_self ..
    have hyo : Outside [.tim] x y := hy ▸ outside_setTb x _ _
    have hyn : ∀ i a, y.num i a = x.num i a := fun i a => by rw [hy, num_setTb]
    have hyt : y.tim = { s.tim with tb := lmod s.tim.tb t fun b => { b with setPend := some ns } } := by
      rw [hy, ← hxo .tim (by decide)]
      rfl
    clear hx hy
    refine does_write rfl hw ha fun u hu => ⟨hu.ok, hu.raised ?_, ?_, ?_, ?_, ?_⟩
    · exact (hxv.trans (.of_cat (hyo .cat (by decide)))).raised (by decide) (by decide) (by decide)
    · rw [hu.num, num_raise (by decide) _ _ (by decide) (.inl (by omega)), hyn, hxA]
    · rw [hu.outside .tim (by decide), (outside_raise y _ _ _) .tim (by decide), hyt]
    · exact (((hxo.mono (by decide)).andThen hyo (by decide)).andThen (outside_raise y _ _ _) (by decide)).andThen hu.outside (by decide)
    · exact ((hxe.then_cat (hyo .cat (by decide))).then_raise (by decide)).then_cat hu.cat

end Sys2Proof.Machine
end

section
/-! The answer TOO_LATE of a trigger unit (R267; obligation O37). -/

namespace Sys2Proof.Machine

/-- A served device whose trigger unit 0 holds ONESHOT and 128 as its time base,
  a number no write can store. Pick records begin at
030180h, so what reads as "the pick of time base 128" is field 5 of the record of unit 0 itself. -/
def outOfRangeBase : State := (Tests.rdy.put (trigIdx 0) 1 1).put (trigIdx 0) 2 0x80

theorem outOfRangeBase_atOnce :
    AtOnce outOfRangeBase Tests.wr (ent (trigIdx 0) 5) (valueOf (ent (trigIdx 0) 5) (be 4 7)) (trigRule 0 5) := by
  unfold AtOnce Passes
  decide +kernel

theorem outOfRangeBase_fields :
    trigFields outOfRangeBase 0 5 (valueOf (ent (trigIdx 0) 5) (be 4 7)) = [1, 128, 0, 1, 7, 0, 100, 0, 1] := by
  decide +kernel

/-- The answer names the value just written to field 5, where the statement asks for the one from before. -/
theorem outOfRangeBase_answer :
    (submit outOfRangeBase Tests.wr (ent (trigIdx 0) 5) (valueOf (ent (trigIdx 0) 5) (be 4 7)) (trigRule 0 5)).cap.answer =
      { status := stTooLate, detail := 7 } := by
  decide +kernel

theorem outOfRangeBase_pick : outOfRangeBase.pick 128 % 2 ^ 32 = 1 := by
  decide +kernel

/-- Refutes O37: where a trigger unit's TIME_BASE entry holds 128, the write of its field 5 is answered TOO_LATE with the value
just written (7), since the rule reads the pick of "time base 128" (the same entry) after the fields are stored, and the
statement asks for the pick before the write (1). -/
theorem not_timestampsServosAndTriggers : ¬ Obligations.TimestampsServosAndTriggers := by
  unfold Obligations.TimestampsServosAndTriggers
  rintro ⟨-, -, -, -, -, htrig, -, -⟩
  obtain ⟨u, hu, -, hlate, -⟩ := htrig outOfRangeBase Tests.wr 0 5 (be 4 7) _ outOfRangeBase_atOnce outOfRangeBase_fields
  obtain ⟨hanswer, -, -⟩ := hlate rfl (by decide +kernel)
  have hsubmit := Host.Outcome.next.inj hu
  rw [← hsubmit] at hanswer
  have hdetail := congrArg Answer.detail (hanswer.symm.trans outOfRangeBase_answer)
  exact absurd (outOfRangeBase_pick.symm.trans hdetail) (by decide)

end Sys2Proof.Machine
end

section
/-! Lanes: block lock, the ladder and bring-up (R276 to R282; obligation O38). -/

namespace Sys2Proof.Machine

variable {s t u : State} {i a c : Nat}

/-! ### Lane codes -/

/-- The codes of the lanes a device can have. -/
def LaneCode (c : Nat) : Prop := c < 48 ∨ (0x100 ≤ c ∧ c < 0x140) ∨ (0x200 ≤ c ∧ c < 0x240) ∨ c = 0x300 ∨ c = 0x301

theorem laneCode_of_exists (h : laneExists s c = true) : LaneCode c := by
  simp only [laneExists, isFast, isGeneral, isOptical, Bool.or_eq_true, Bool.and_eq_true, decide_eq_true_eq, beq_iff_eq] at h
  unfold LaneCode
  omega

theorem laneCode_of_electrical (h : isFast c = true ∨ isGeneral c = true) : LaneCode c := by
  simp only [isFast, isGeneral, Bool.and_eq_true, decide_eq_true_eq] at h
  unfold LaneCode
  omega

theorem portOf_lt (hc : LaneCode c) (h : ¬(c = 0x300 ∨ c = 0x301)) :
    (portOf c).1 < 14 ∧ (portOf c).2 < 8 ∨ (14 ≤ (portOf c).1 ∧ (portOf c).1 < 30) ∧ (portOf c).2 < 4 := by
  unfold LaneCode at hc
  simp only [portOf, isFast, isOptical, Bool.and_eq_true, decide_eq_true_eq]
  split
  · exact .inl ⟨by dsimp only; omega, by dsimp only; omega⟩
  · split
    · exact .inl ⟨by dsimp only; omega, by dsimp only; omega⟩
    · exact .inr ⟨by dsimp only; omega, by dsimp only; omega⟩

theorem unitOf_lt {k l : Nat} (h : k < 14 ∧ l < 8 ∨ (14 ≤ k ∧ k < 30) ∧ l < 4) : unitOf k l < 178 := by
  unfold unitOf
  split <;> omega

theorem unitOfLane_lt {n : Nat} (hc : LaneCode c) (h : s.unitOfLane c = some n) : n < 178 := by
  unfold State.unitOfLane at h
  split at h
  · exact absurd h nofun
  · next hm =>
    dsimp only at h
    split at h
    · exact absurd h nofun
    · obtain rfl := Option.some.inj h
      have hsub : (portOf c).2 / (modeShape (portOf c).1 (s.portMode (portOf c).1)).2.1 ≤ (portOf c).2 := Nat.div_le_self _ _
      have hp := portOf_lt hc hm
      exact unitOf_lt (by omega)

/-! ### Steps of one lane -/

/-- A change of lane state that leaves the link parameters of lane `c`,
  the words shown and all events but those of sub-ports. -/
structure LaneStep (c : Nat) (s t : State) : Prop where
  outside : Outside [.cat, .mgmt, .lan] s t
  word : ∀ i, i < 0x0E0000 → t.num i 0x0F = s.num i 0x0F
  events : EventsBut [0x210, 0x212] s t
  rung : (t.lane c).rung = (s.lane c).rung
  attempts : (t.lane c).attempts = (s.lane c).attempts
  lock : (t.lane c).blockLock = (s.lane c).blockLock
  max : (t.lane c).partnerMax = (s.lane c).partnerMax
  target : (t.lane c).partnerTarget = (s.lane c).partnerTarget
  done : (t.lane c).partnerDone = (s.lane c).partnerDone

theorem LaneStep.refl (s : State) : LaneStep c s s :=
  ⟨.refl _ _, fun _ _ => rfl, .refl _ _, rfl, rfl, rfl, rfl, rfl, rfl⟩

theorem LaneStep.trans (h : LaneStep c s t) (h' : LaneStep c t u) : LaneStep c s u :=
  ⟨h.outside.trans h'.outside, fun i hi => (h'.word i hi).trans (h.word i hi), h.events.trans h'.events, h'.rung.trans h.rung,
    h'.attempts.trans h.attempts, h'.lock.trans h.lock, h'.max.trans h.max, h'.target.trans h.target, h'.done.trans h.done⟩

/-- Changes that leave the lanes alone. -/
theorem LaneStep.of_lanes (ho : Outside [.cat, .mgmt, .lan] s t) (hw : ∀ i, i < 0x0E0000 → t.num i 0x0F = s.num i 0x0F)
    (he : EventsBut [0x210, 0x212] s t) (hl : t.lan.lanes = s.lan.lanes) : LaneStep c s t := by
  have h : t.lane c = s.lane c := by rw [State.lane, State.lane, hl]
  exact ⟨ho, hw, he, by rw [h], by rw [h], by rw [h], by rw [h], by rw [h], by rw [h]⟩

theorem outside_setLane (s : State) (c : Nat) (f : Lane → Lane) : Outside [.lan] s (s.setLane c f) := fun p hp => by
  cases p <;> simp at hp ⊢

theorem outside_setSub (s : State) (n : Nat) (f : SubPort → SubPort) : Outside [.lan] s (s.setSub n f) := fun p hp => by
  cases p <;> simp at hp ⊢

/-- A lane written with its link parameters kept. -/
theorem LaneStep.of_setLane (s : State) {f : Lane → Lane} (h : ∀ x : Lane, (f x).rung = x.rung ∧ (f x).attempts = x.attempts ∧
    (f x).blockLock = x.blockLock ∧ (f x).partnerMax = x.partnerMax ∧ (f x).partnerTarget = x.partnerTarget ∧
    (f x).partnerDone = x.partnerDone) : LaneStep c s (s.setLane c f) := by
  obtain ⟨h1, h2, h3, h4, h5, h6⟩ := h (s.lane c)
  rw [← lane_setLane_self s c f] at h1 h2 h3 h4 h5 h6
  exact ⟨(outside_setLane s c f).mono (by decide), fun i _ => num_setLane .., .of_cat rfl, h1, h2, h3, h4, h5, h6⟩

theorem EventsBut.then_put {ms : List Nat} {x : Nat} (h : EventsBut ms s t) (ha : a < 256) (hi : i < 0x0E1000) :
    EventsBut ms s (t.put i a x) := h.trans (.of_put t ha (.inl hi))

theorem EventsBut.then_count {ms : List Nat} {w n : Nat} (h : EventsBut ms s t) (ha : a < 256) (hi : i < 0x0E1000) :
    EventsBut ms s (t.count i a w n) := h.then_put ha hi

theorem EventsBut.then_raise {ms : List Nat} {n unit : Nat} {b : List Byte} (h : EventsBut ms s t) (hn : n ∈ ms) :
    EventsBut ms s (t.raise n unit b) := h.trans (.of_raise t hn)

theorem EventsBut.then_setSub {ms : List Nat} {n : Nat} {f : SubPort → SubPort} (h : EventsBut ms s t) :
    EventsBut ms s (t.setSub n f) := h.trans (.of_cat rfl)

theorem goUp_quiet (s : State) {n : Nat} (hn : n < 178) : LaneStep c s (goUp s n) ∧ (goUp s n).lan.lanes = s.lan.lanes := by
  have hl : (goUp s n).lan.lanes = s.lan.lanes := by simp
  refine ⟨.of_lanes (fun p hp => by cases p <;> simp at hp ⊢) (fun i hi => ?_) ?_ hl, hl⟩
  · unfold goUp
    rw [num_raise (by decide) _ _ (by decide) (.inl hi)]
    refine (num_put_of_apart (by decide) (by decide) (.inr (by decide)) (.inr (.inl (by decide)))).trans ?_
    refine (num_put_of_apart (by decide) (by decide) (.inr (by decide)) (.inr (.inl (by decide)))).trans ?_
    exact num_put_of_apart (by decide) (by decide) (.inr (by decide)) (.inr (.inl (by decide)))
  · have hlow : subIdx n < 0x0E1000 := by simp only [subIdx]; omega
    exact ((((EventsBut.refl _ s).then_put (by decide) hlow).then_put (by decide) hlow).then_put (by decide) hlow).then_raise
      (by decide)

theorem goNarrow_quiet (s : State) {n : Nat} (hn : n < 178) (old set dur : Nat) :
    LaneStep c s (goNarrow s n old set dur) ∧ (goNarrow s n old set dur).lan.lanes = s.lan.lanes := by
  have hl : (goNarrow s n old set dur).lan.lanes = s.lan.lanes := by simp [goNarrow, State.setSub]
  refine ⟨.of_lanes (fun p hp => by cases p <;> simp at hp ⊢) (fun i hi => ?_) ?_ hl, hl⟩
  · unfold goNarrow
    rw [num_raise (by decide) _ _ (by decide) (.inl hi)]
    refine (num_count_of_apart (by decide) (by decide) (.inr (by decide)) (.inr (.inr (.inl (by decide))))).trans ?_
    refine (num_put_of_apart (by decide) (by decide) (.inr (by decide)) (.inr (.inl (by decide)))).trans ?_
    refine (num_put_of_apart (by decide) (by decide) (.inr (by decide)) (.inr (.inl (by decide)))).trans ?_
    exact num_put_of_apart (by decide) (by decide) (.inr (by decide)) (.inr (.inl (by decide)))
  · have hlow : subIdx n < 0x0E1000 := by simp only [subIdx]; omega
    exact (((((EventsBut.refl _ s).then_put (by decide) hlow).then_put (by decide) hlow).then_put (by decide) hlow).then_count
      (by decide) hlow).then_setSub.then_raise (by decide)

theorem checkLane_quiet (s : State) (hc : LaneCode c) :
    LaneStep c s (checkLane s c) ∧ (checkLane s c).lan.lanes = s.lan.lanes := by
  unfold checkLane
  split
  · next n hu =>
    have hn := unitOfLane_lt hc hu
    unfold checkSub
    split
    · exact ⟨.refl _, rfl⟩
    · dsimp only
      split
      · exact ⟨.refl _, rfl⟩
      · split
        · exact goUp_quiet s hn
        · split
          · split
            · exact goNarrow_quiet s hn _ _ _
            · exact ⟨.refl _, rfl⟩
          · exact ⟨.refl _, rfl⟩
  · exact ⟨.refl _, rfl⟩

/-- A lane that locks (R276). -/
theorem lockLane_spec (s : State) (hc : LaneCode c) :
    LaneStep c s (lockLane s c) ∧ ((lockLane s c).lane c).state = laneLocked := by
  obtain ⟨v, hv⟩ : ∃ v, v = s.setLane c fun x => { x with state := laneLocked, phase := 0, shadowAt := s.now } := ⟨_, rfl⟩
  have he : lockLane s c = if (v.lane c).shadow then v else checkLane v c := by rw [hv]; rfl
  have hs : LaneStep c s v := hv ▸ .of_setLane s fun _ => ⟨rfl, rfl, rfl, rfl, rfl, rfl⟩
  have hl : (v.lane c).state = laneLocked := by rw [hv, lane_setLane_self]
  rw [he]
  split
  · exact ⟨hs, hl⟩
  · obtain ⟨q1, q2⟩ := checkLane_quiet v hc
    exact ⟨hs.trans q1, by rw [State.lane, q2]; exact hl⟩

theorem settle_step (s : State) (hc : LaneCode c) : LaneStep c s (settle s c) := by
  unfold settle
  split
  · exact (lockLane_spec s hc).1
  · split
    · exact .of_setLane s fun _ => ⟨rfl, rfl, rfl, rfl, rfl, rfl⟩
    · obtain ⟨v, hv⟩ : ∃ v, v = s.setLane c fun x => { x with phase := 0, failed := true } := ⟨_, rfl⟩
      have hs : LaneStep c s v := hv ▸ .of_setLane s fun _ => ⟨rfl, rfl, rfl, rfl, rfl, rfl⟩
      rw [← hv]
      exact hs.trans (checkLane_quiet v hc).1

theorem propose_step (s : State) (hc : LaneCode c) : LaneStep c s (propose s c) := by
  unfold propose
  split
  · exact .of_setLane s fun _ => ⟨rfl, rfl, rfl, rfl, rfl, rfl⟩
  · have hs : LaneStep c s (s.setLane c fun x => { x with phase := 5, proposed := none }) :=
      .of_setLane s fun _ => ⟨rfl, rfl, rfl, rfl, rfl, rfl⟩
    dsimp only
    split
    · exact hs.trans (settle_step _ hc)
    · exact hs

/-! ### Gaining and losing lock (R276, R277) -/

theorem outside_raiseAtMost (s : State) (n m unit : Nat) (f : Nat → List Byte) :
    Outside [.cat, .mgmt] s (s.raiseAtMost n m unit f) := fun p hp => by
  cases p <;> simp at hp ⊢

theorem eq_with_lan (h : Outside [.lan] s t) : t = { s with lan := t.lan } := by
  cases s
  cases t
  simp only [State.mk.injEq]
  exact ⟨h .pending (by decide), h .now (by decide), h .fresh (by decide), h .cat (by decide), h .gen (by decide),
    h .ruling (by decide), h .cap (by decide), h .mgmt (by decide), h .unit (by decide), h .pwr (by decide), h .cfg (by decide),
    h .seams (by decide), h .fab (by decide), h .clk (by decide), h .tim (by decide), trivial, h .rx (by decide),
      h .tx (by decide),
    h .shu (by decide), h .noc (by decide), h .mem (by decide), h .itg (by decide), h .upd (by decide)⟩

theorem laneBringupKind_congr (h : Outside [.lan] s t) : laneBringupKind t c = laneBringupKind s c := by
  rw [eq_with_lan h]
  rfl

/-- What a lane that gains lock comes to (R276, R282). -/
theorem gainLock_spec (s : State) (hc : LaneCode c) :
    Outside [.cat, .mgmt, .lan] s (gainLock s c) ∧ ((gainLock s c).lane c).blockLock = (s.lane c).blockLock ∧
      ((s.lane c).state = laneUnlocked → ((gainLock s c).lane c).state = laneLocked) ∧
      ((s.lane c).state = laneBringup → laneBringupKind s c = 2 → ((gainLock s c).lane c).state = laneLocked) ∧
      ((s.lane c).state = laneBringup → laneBringupKind s c = 0 → ((s.lane c).phase = 3 ∨ (s.lane c).phase = 4) →
        s.now ≤ (s.lane c).stepAt + tenMs →
        ((gainLock s c).lane c).rung = (s.lane c).proposed.getD (s.lane c).rung ∧ ((gainLock s c).lane c).attempts = 0 ∧
          Raised s (gainLock s c) 0x201) := by
  obtain ⟨q1, q2⟩ := lockLane_spec s hc
  unfold gainLock
  dsimp only
  split
  · next hm =>
    have h1 : (s.lane c).state ≠ laneUnlocked := by rw [hm.2]; decide
    have h2 : (s.lane c).state ≠ laneBringup := by rw [hm.2]; decide
    split
    · exact ⟨q1.outside, q1.lock, fun h => absurd h h1, fun h => absurd h h2, fun h => absurd h h2⟩
    · exact ⟨.refl _ _, rfl, fun h => absurd h h1, fun h => absurd h h2, fun h => absurd h h2⟩
  · split
    · next hu =>
      have h2 : (s.lane c).state ≠ laneBringup := by rw [hu]; decide
      obtain ⟨v, hv⟩ : ∃ v, v = s.setLane c fun x => { x with state := laneLocked } := ⟨_, rfl⟩
      have hl : v.lane c = { s.lane c with state := laneLocked } := by rw [hv, lane_setLane_self]
      have ho : Outside [.lan] s v := hv ▸ outside_setLane s c _
      rw [← hv]
      have hr : (v.raiseAtMost 16 0x200 c fun _ => be 1 0).lane c = v.lane c := by simp [State.lane]
      rw [hr, hl]
      exact ⟨(ho.mono (by decide)).andThen (outside_raiseAtMost _ _ _ _ _) (by decide), rfl, fun _ => rfl,
        fun h => absurd h h2, fun h => absurd h h2⟩
    · next hu =>
      split
      · next hb => exact ⟨.refl _ _, rfl, fun h => absurd h hu, fun h => absurd h hb, fun h => absurd h hb⟩
      · split
        · next hk =>
          have h2 : laneBringupKind s c ≠ 2 := by omega
          split
          · next hp =>
            have hq := propose_step s hc
            exact ⟨hq.outside, hq.lock, fun h => absurd h hu, fun _ h => absurd h h2, fun _ _ h => by omega⟩
          · split
            · obtain ⟨v, hv⟩ : ∃ v, v = s.setLane c fun x =>
                { x with rung := (s.lane c).proposed.getD (s.lane c).rung, attempts := 0, proposed := none } := ⟨_, rfl⟩
              have hl : v.lane c = _ := hv ▸ lane_setLane_self s c _
              have ho : Outside [.lan] s v := hv ▸ outside_setLane s c _
              rw [← hv]
              obtain ⟨w, hw⟩ : ∃ w, w = v.raise 0x201 c (be 1 ((s.lane c).proposed.getD (s.lane c).rung) ++
                be 1 (s.lane c).partnerMax) := ⟨_, rfl⟩
              have hwl : w.lane c = v.lane c := by rw [hw]; simp [State.lane]
              have hwo : Outside [.cat, .mgmt] v w := hw ▸ outside_raise v _ _ _
              have hwr : Raised s w 0x201 := by
                rw [hw]
                exact (EventsBut.of_cat (ms := []) (ho .cat (by decide))).raised (by decide) (by decide) (by decide)
              rw [← hw]
              have hq := propose_step w hc
              refine ⟨((ho.mono (by decide)).andThen hwo (by decide)).andThen hq.outside (by decide), ?_, fun h => absurd h hu,
                fun _ h => absurd h h2, fun _ _ _ _ => ⟨?_, ?_, ?_⟩⟩
              · rw [hq.lock, hwl, hl]
              · rw [hq.rung, hwl, hl]
              · rw [hq.attempts, hwl, hl]
              · exact hwr.then_events hq.events (by decide) (by decide) (by decide)
            · next hn => exact ⟨.refl _ _, rfl, fun h => absurd h hu, fun _ h => absurd h h2, fun _ _ h h' => absurd ⟨h, h'⟩ hn⟩
        · next hk =>
          split
          · exact ⟨q1.outside, q1.lock, fun h => absurd h hu, fun _ _ => q2, fun _ h => absurd h hk⟩
          · next hk2 => exact ⟨.refl _ _, rfl, fun h => absurd h hu, fun _ h => absurd h hk2, fun _ h => absurd h hk⟩

theorem plain_portIdx (hc : LaneCode c) (h : s.unitOfLane c = some n) : PlainIndex (portIdx (portOf c).1) := by
  have hm : ¬(c = 0x300 ∨ c = 0x301) := fun hm => by simp [State.unitOfLane, hm] at h
  have := portOf_lt hc hm
  unfold PlainIndex portIdx
  split <;> omega

theorem plain_subIdx {n : Nat} (hn : n < 178) : PlainIndex (subIdx n) := by
  unfold PlainIndex subIdx
  omega

theorem loseShadow_spec (s : State) (hc : LaneCode c) : Outside [.cat] s (loseShadow s c) ∧
    ∀ i a, a < 256 → 6 < a → (loseShadow s c).num i a = s.num i a := by
  unfold loseShadow
  split
  · next n hu =>
    split
    · refine ⟨.andThen (outside_put _ _ _ _) (outside_put _ _ _ _) (by decide), fun i a ha h6 => ?_⟩
      refine (num_put_of_apart (by decide) ha (.inr (by omega)) (.inr (.inr (.inr (plain_subIdx (unitOfLane_lt hc hu)))))).trans ?_
      exact num_put_of_apart (by decide) ha (.inr (by omega)) (.inr (.inr (.inr (plain_portIdx hc hu))))
    · exact ⟨.refl _ _, fun _ _ _ _ => rfl⟩
  · exact ⟨.refl _ _, fun _ _ _ _ => rfl⟩

/-- A lane that loses lock (R276, R277). -/
theorem loseLock_spec (s : State) (hc : LaneCode c) (h : (s.lane c).state = laneLocked) :
    ((loseLock s c).lane c).state = laneUnlocked ∧ ((loseLock s c).lane c).unlockedAt = s.now ∧
      ((loseLock s c).lane c).blockLock = (s.lane c).blockLock ∧
      ((isFast c = true ∨ isGeneral c = true) → (loseLock s c).num (laneIdx c) 0x0D = (s.num (laneIdx c) 0x0D + 1) % 2 ^ 32 ∧
        (loseLock s c).num (laneIdx c) 0x0E = s.num (laneIdx c) 0x0E) ∧ Outside [.cat, .mgmt, .lan] s (loseLock s c) := by
  obtain ⟨v, hv⟩ : ∃ v, v = s.setLane c fun x => { x with state := laneUnlocked, unlockedAt := s.now } := ⟨_, rfl⟩
  obtain ⟨w, hw⟩ : ∃ w, w = if isFast c || isGeneral c then v.count (laneIdx c) 0x0D 32 1 else v := ⟨_, rfl⟩
  obtain ⟨x, hx⟩ : ∃ x, x = w.raiseAtMost 16 0x200 c (fun _ => be 1 1) := ⟨_, rfl⟩
  have he : loseLock s c = loseShadow x c := by
    rw [hx, hw, hv]
    exact if_neg (not_not.mpr h)
  have hvl : v.lane c = { s.lane c with state := laneUnlocked, unlockedAt := s.now } := by rw [hv, lane_setLane_self]
  have hvo : Outside [.lan] s v := hv ▸ outside_setLane s c _
  have hvn : ∀ i a, v.num i a = s.num i a := fun i a => by rw [hv, num_setLane]
  clear hv
  have hwo : Outside [.cat] v w := by
    rw [hw]
    exact .ite (outside_count v _ _ _ _) (.refl _ _)
  have hxo : Outside [.cat, .mgmt] w x := hx ▸ outside_raiseAtMost w _ _ _ _
  obtain ⟨q1, q2⟩ := loseShadow_spec x hc
  have hl : (loseLock s c).lane c = { s.lane c with state := laneUnlocked, unlockedAt := s.now } := by
    rw [← hvl, State.lane, he, q1 .lan (by decide), hxo .lan (by decide), hwo .lan (by decide), ← State.lane]
  refine ⟨by rw [hl], by rw [hl], by rw [hl], fun hf => ?_, ?_⟩
  · have hlow : laneIdx c < 0x0E0000 := by
      unfold LaneCode at hc
      unfold laneIdx
      split <;> omega
    have hw' : w = v.count (laneIdx c) 0x0D 32 1 := by rw [hw, if_pos (by simpa using hf)]
    have hxn : ∀ a, a < 256 → x.num (laneIdx c) a = w.num (laneIdx c) a := fun a ha => by
      rw [hx, num_raiseAtMost (by decide) _ _ ha (.inl hlow)]
    rw [he, q2 _ _ (by decide) (by decide), q2 _ _ (by decide) (by decide), hxn _ (by decide), hxn _ (by decide), hw', ← hvn,
      ← hvn]
    exact ⟨num_put_self .., num_count_of_apart (by decide) (by decide) (.inr (by decide)) (.inr (.inr (.inl (by decide))))⟩
  · rw [he]
    exact (((hvo.mono (by decide)).andThen hwo (by decide)).andThen hxo (by decide)).andThen q1 (by decide)

/-! ### Headers (R277) -/

theorem takeBlock_search (s : State) (b : LineBlock) (h : (s.lane c).blockLock = false) (hb : b.lpi = false) :
    takeBlock s c b = if ((s.lane c).block b).blockLock then gainLock (s.setLane c fun x => x.block b) c
      else s.setLane c fun x => x.block b := by
  unfold takeBlock
  simp [h, hb, lane_setLane_self]

/-- An invalid header of a lane with block lock, counted and taken. -/
def State.invalidHeader (s : State) (c : Nat) (b : LineBlock) : State :=
  (if isFast c || isGeneral c then s.count (laneIdx c) 0x0E 64 1 else s).setLane c fun x => x.block b

theorem invalidHeader_spec (s : State) (b : LineBlock) : Outside [.cat, .lan] s (s.invalidHeader c b) ∧
    (s.invalidHeader c b).lane c = (s.lane c).block b ∧
    ((isFast c = true ∨ isGeneral c = true) → (s.invalidHeader c b).num (laneIdx c) 0x0D = s.num (laneIdx c) 0x0D ∧
      (s.invalidHeader c b).num (laneIdx c) 0x0E = (s.num (laneIdx c) 0x0E + 1) % 2 ^ 64) := by
  obtain ⟨w, hw⟩ : ∃ w, w = if isFast c || isGeneral c then s.count (laneIdx c) 0x0E 64 1 else s := ⟨_, rfl⟩
  have he : s.invalidHeader c b = w.setLane c fun x => x.block b := by rw [hw]; rfl
  have hwo : Outside [.cat] s w := by
    rw [hw]
    exact .ite (outside_count s _ _ _ _) (.refl _ _)
  rw [he]
  refine ⟨(hwo.mono (by decide)).andThen (outside_setLane _ _ _) (by decide), ?_, fun hf => ?_⟩
  · rw [lane_setLane_self, State.lane, hwo .lan (by decide), ← State.lane]
  · rw [num_setLane, num_setLane, hw, if_pos (by simpa using hf)]
    exact ⟨num_count_of_apart (by decide) (by decide) (.inr (by decide)) (.inr (.inr (.inl (by decide)))), num_put_self ..⟩

theorem takeBlock_locked (s : State) (b : LineBlock) (h : (s.lane c).blockLock = true) (hb : blockValid b = false) :
    takeBlock s c b = if ((s.lane c).block b).blockLock then s.invalidHeader c b else loseLock (s.invalidHeader c b) c := by
  have hl := (invalidHeader_spec (c := c) s b).2.1
  have he : takeBlock s c b = if ((s.invalidHeader c b).lane c).blockLock && !(s.lane c).blockLock then
      gainLock (s.invalidHeader c b) c
    else if (s.lane c).blockLock && !((s.invalidHeader c b).lane c).blockLock then loseLock (s.invalidHeader c b) c
    else s.invalidHeader c b := by
    unfold takeBlock State.invalidHeader
    simp [h, hb]
  rw [he, hl, h]
  cases ((s.lane c).block b).blockLock <;> rfl

theorem block_valid {x : Lane} {b : LineBlock} (h : x.blockLock = false) (hb : blockValid b = true) :
    x.block b = if x.good + 1 = 64 then { x with blockLock := true, good := 0, window := 0, bad := 0 }
      else { x with good := x.good + 1 } := by
  simp [Lane.block, h, hb]

theorem block_invalid {x : Lane} {b : LineBlock} (h : x.blockLock = false) (hb : blockValid b = false) :
    x.block b = { x with good := 0, align := (x.align + 1) % 66 } := by
  simp [Lane.block, h, hb]

theorem block_locked {x : Lane} {b : LineBlock} (h : x.blockLock = true) (hw : x.window = x.bad) (hb : blockValid b = false)
    (hx : x.bad < 16) : x.block b = if x.bad + 1 = 16 then { x with blockLock := false, good := 0, window := 0, bad := 0 }
      else { x with window := x.window + 1, bad := x.bad + 1 } := by
  have h64 : x.window + 1 ≠ 64 := by omega
  simp [Lane.block, h, hb, h64]

/-- Sixty-four valid headers of a search: the lane locks to its blocks and then gains lock. -/
theorem takeBlocks_gain (bs : List LineBlock) : ∀ s : State, (s.lane c).blockLock = false →
    (s.lane c).good + bs.length = 64 → bs ≠ [] → (∀ b ∈ bs, blockValid b = true ∧ b.lpi = false) →
    ∃ v, bs.foldl (fun s b => takeBlock s c b) s = gainLock v c ∧ Outside [.lan] s v ∧
      v.lane c = { s.lane c with blockLock := true, good := 0, window := 0, bad := 0 } := by
  induction bs with
  | nil => exact fun _ _ _ h => absurd rfl h
  | cons b bs ih =>
    intro s h hg _ hb
    obtain ⟨hv, hlpi⟩ := hb b (.head _)
    obtain ⟨w, hw⟩ : ∃ w, w = s.setLane c fun x => x.block b := ⟨_, rfl⟩
    have hwl : w.lane c = (s.lane c).block b := by rw [hw, lane_setLane_self]
    have hwo : Outside [.lan] s w := hw ▸ outside_setLane s c _
    have ht := takeBlock_search s b h hlpi
    rw [← hw] at ht
    rw [block_valid h hv] at hwl ht
    rw [List.length_cons] at hg
    rw [List.foldl_cons, ht]
    by_cases hl : bs = []
    · subst hl
      have h64 : (s.lane c).good + 1 = 64 := by simpa using hg
      rw [if_pos h64] at hwl ⊢
      exact ⟨w, by rw [if_pos rfl]; rfl, hwo, hwl⟩
    · have hlen := List.length_pos_iff.mpr hl
      have h64 : (s.lane c).good + 1 ≠ 64 := by omega
      rw [if_neg h64] at hwl ⊢
      rw [if_neg (by simp [h])]
      obtain ⟨v, e, ho, hvl⟩ := ih w (by rw [hwl]; exact h) (by rw [hwl]; dsimp only; omega) hl fun x hx => hb x (.tail _ hx)
      exact ⟨v, e, hwo.trans ho, by rw [hvl, hwl]⟩

theorem takeBlocks_search (bs : List LineBlock) : ∀ s : State, (s.lane c).blockLock = false →
    (∀ b ∈ bs, blockValid b = false ∧ b.lpi = false) →
    Outside [.lan] s (bs.foldl (fun s b => takeBlock s c b) s) ∧
      ((bs.foldl (fun s b => takeBlock s c b) s).lane c).blockLock = false ∧
      (bs ≠ [] → ((bs.foldl (fun s b => takeBlock s c b) s).lane c).good = 0 ∧
        ((bs.foldl (fun s b => takeBlock s c b) s).lane c).align = ((s.lane c).align + bs.length) % 66) := by
  induction bs with
  | nil => exact fun s h _ => ⟨.refl _ _, h, fun h => absurd rfl h⟩
  | cons b bs ih =>
    intro s h hb
    obtain ⟨hv, hlpi⟩ := hb b (.head _)
    obtain ⟨w, hw⟩ : ∃ w, w = s.setLane c fun x => x.block b := ⟨_, rfl⟩
    have hwl : w.lane c = { s.lane c with good := 0, align := ((s.lane c).align + 1) % 66 } := by
      rw [hw, lane_setLane_self, block_invalid h hv]
    have hwo : Outside [.lan] s w := hw ▸ outside_setLane s c _
    have ht : takeBlock s c b = w := by
      rw [takeBlock_search s b h hlpi, block_invalid h hv, if_neg (by simp [h]), hw]
    obtain ⟨h1, h2, h3⟩ := ih w (by rw [hwl]; exact h) fun x hx => hb x (.tail _ hx)
    rw [List.foldl_cons, ht]
    refine ⟨hwo.trans h1, h2, fun _ => ?_⟩
    by_cases hl : bs = []
    · subst hl
      rw [List.foldl_nil, hwl]
      exact ⟨rfl, rfl⟩
    · obtain ⟨g1, g2⟩ := h3 hl
      refine ⟨g1, ?_⟩
      rw [g2, hwl, List.length_cons]
      dsimp only
      omega

theorem takeBlocks_lose (bs : List LineBlock) : ∀ s : State, (s.lane c).blockLock = true →
    (s.lane c).window = (s.lane c).bad → (s.lane c).bad + bs.length = 16 → bs ≠ [] → (∀ b ∈ bs, blockValid b = false) →
    ∃ v, bs.foldl (fun s b => takeBlock s c b) s = loseLock v c ∧ Outside [.cat, .lan] s v ∧
      v.lane c = { s.lane c with blockLock := false, good := 0, window := 0, bad := 0 } ∧
      ((isFast c = true ∨ isGeneral c = true) → v.num (laneIdx c) 0x0D = s.num (laneIdx c) 0x0D ∧
        v.num (laneIdx c) 0x0E = (s.num (laneIdx c) 0x0E + bs.length) % 2 ^ 64) := by
  induction bs with
  | nil => exact fun _ _ _ _ h => absurd rfl h
  | cons b bs ih =>
    intro s h hw hg _ hb
    have hv := hb b (.head _)
    rw [List.length_cons] at hg
    obtain ⟨q1, q2, q3⟩ := invalidHeader_spec (c := c) s b
    have ht := takeBlock_locked s b h hv
    generalize s.invalidHeader c b = w at *
    rw [block_locked h hw hv (by omega)] at q2 ht
    rw [List.foldl_cons, ht]
    by_cases hl : bs = []
    · subst hl
      have h16 : (s.lane c).bad + 1 = 16 := by simpa using hg
      rw [if_pos h16] at q2 ⊢
      exact ⟨w, by rw [if_neg nofun]; rfl, q1, q2, q3⟩
    · have hlen := List.length_pos_iff.mpr hl
      have h16 : (s.lane c).bad + 1 ≠ 16 := by omega
      rw [if_neg h16] at q2 ⊢
      rw [if_pos h]
      obtain ⟨v, e, ho, hvl,
        hn⟩ := ih w (by rw [q2]; exact h) (by rw [q2]; dsimp only; omega) (by rw [q2]; dsimp only; omega) hl
        fun x hx => hb x (.tail _ hx)
      refine ⟨v, e, q1.trans ho, by rw [hvl, q2], fun hf => ?_⟩
      obtain ⟨n1, n2⟩ := hn hf
      obtain ⟨m1, m2⟩ := q3 hf
      rw [n1, m1, n2, m2, List.length_cons]
      exact ⟨rfl, by omega⟩

/-! ### The ladder (R281, R282) -/

theorem takeOffer_spec (s : State) (hc : LaneCode c) (w : Nat) : Outside [.cat, .mgmt, .lan] s (takeOffer s c w) ∧
    (∀ i, i < 0x0E0000 → (takeOffer s c w).num i 0x0F = s.num i 0x0F) ∧
    ((takeOffer s c w).lane c).partnerMax = bits w 47 40 ∧ ((takeOffer s c w).lane c).partnerTarget = bits w 39 32 := by
  obtain ⟨v, hv⟩ : ∃ v, v = s.setLane c fun x => { x with partnerMax := bits w 47 40, partnerTarget := bits w 39 32 } := ⟨_, rfl⟩
  have hvl : (v.lane c).partnerMax = bits w 47 40 ∧ (v.lane c).partnerTarget = bits w 39 32 := by
    rw [hv, lane_setLane_self]
    exact ⟨rfl, rfl⟩
  have hvo : Outside [.lan] s v := hv ▸ outside_setLane s c _
  have hvn : ∀ i a, v.num i a = s.num i a := fun i a => by rw [hv, num_setLane]
  have hs : LaneStep c v (takeOffer s c w) := by
    unfold takeOffer
    rw [← hv]
    dsimp only
    split
    · exact .refl _
    · have hp := propose_step v hc
      split
      · exact hp
      · split
        · exact hp.trans (.of_setLane _ fun _ => ⟨rfl, rfl, rfl, rfl, rfl, rfl⟩)
        · split
          · exact hp.trans (.of_setLane _ fun _ => ⟨rfl, rfl, rfl, rfl, rfl, rfl⟩)
          · exact hp
  exact ⟨(hvo.mono (by decide)).trans hs.outside, fun i hi => (hs.word i hi).trans (hvn _ _), hs.max.trans hvl.1,
    hs.target.trans hvl.2⟩

theorem takeDone_spec (s : State) (hc : LaneCode c) : Outside [.cat, .mgmt, .lan] s (takeDone s c) ∧
    (∀ i, i < 0x0E0000 → (takeDone s c).num i 0x0F = s.num i 0x0F) ∧ ((takeDone s c).lane c).partnerDone = true := by
  obtain ⟨v, hv⟩ : ∃ v, v = s.setLane c fun x => { x with partnerDone := true } := ⟨_, rfl⟩
  have hvl : (v.lane c).partnerDone = true := by rw [hv, lane_setLane_self]
  have hvo : Outside [.lan] s v := hv ▸ outside_setLane s c _
  have hvn : ∀ i a, v.num i a = s.num i a := fun i a => by rw [hv, num_setLane]
  have hs : LaneStep c v (takeDone s c) := by
    unfold takeDone
    rw [← hv]
    dsimp only
    split
    · exact settle_step v hc
    · exact .refl _
  exact ⟨(hvo.mono (by decide)).trans hs.outside, fun i hi => (hs.word i hi).trans (hvn _ _), hs.done.trans hvl⟩

/-- A reform word leaves the words shown. -/
theorem takeReform_spec (s : State) {n : Nat} (hn : n < 178) (m : Nat) : Outside [.cat, .mgmt, .lan] s (takeReform s n m) ∧
    (takeReform s n m).num (subIdx n) 0x0F = s.num (subIdx n) 0x0F := by
  refine ⟨fun p hp => by cases p <;> simp at hp ⊢, ?_⟩
  unfold takeReform
  split
  · dsimp only
    split
    · rfl
    · exact num_setSub ..
  · split
    · refine (num_put_of_apart (by decide) (by decide) (.inr (by decide)) (.inr (.inl (by decide)))).trans ((num_setSub ..).trans ?_)
      unfold endRestore
      refine (num_completeCmd _ _ _ _ (by decide) (.inl ?_) (.inl ?_)).trans (num_setSub ..)
      · simp only [subIdx]; omega
      · simp only [subIdx]; omega
    · rfl

theorem takeRestore_spec (s : State) (n m : Nat) : Outside [.cat, .mgmt, .lan] s (takeRestore s n m) ∧
    (takeRestore s n m).num (subIdx n) 0x0F = s.num (subIdx n) 0x0F := by
  refine ⟨fun p hp => by cases p <;> simp at hp ⊢, ?_⟩
  unfold takeRestore
  split
  · rfl
  · split
    · exact num_setSub ..
    · split
      · exact num_setSub ..
      · rfl

/-- The word of a ladder shown at the lane's sub-port. -/
def State.showWord (s : State) (c w : Nat) : State :=
  match s.unitOfLane c with
  | some n => s.put (subIdx n) 0x0F w
  | none => s

/-- What a valid word of each kind does once it is shown (R281, R282, R289, R293). -/
def takeKind (s v : State) (c w : Nat) : Nat → State
  | 0 => takeOffer v c w
  | 1 => takeAccept v c w
  | 2 => takeSwitch v c w
  | 3 => takeDone v c
  | 4 => match s.unitOfLane c with
    | some n => takeReform v n (bits w 23 16)
    | none => v
  | _ => match s.unitOfLane c with
    | some n => takeRestore v n (bits w 23 16)
    | none => v

theorem takeLadder_kind {w k : Nat} (h : ladderKind w = some k) : takeLadder s c w = takeKind s (s.showWord c w) c w k := by
  unfold takeLadder takeKind State.showWord
  rw [h] <;> dsimp only <;> rfl

theorem showWord_spec (s : State) (c w : Nat) : Outside [.cat] s (s.showWord c w) ∧
    ∀ n, s.unitOfLane c = some n → (s.showWord c w).num (subIdx n) 0x0F = w := by
  unfold State.showWord
  split
  · next n hn =>
    refine ⟨outside_put s _ _ _, fun m hm => ?_⟩
    obtain rfl := Option.some.inj (hn.symm.trans hm)
    exact num_put_self ..
  · next hn => exact ⟨.refl _ _, fun m hm => absurd (hn.symm.trans hm) nofun⟩

theorem takeKind_spec (s v : State) (hc : LaneCode c) (w k : Nat) : Outside [.cat, .mgmt, .lan] v (takeKind s v c w k) ∧
    ∀ n, s.unitOfLane c = some n → (takeKind s v c w k).num (subIdx n) 0x0F = v.num (subIdx n) 0x0F := by
  have hlow : ∀ n, s.unitOfLane c = some n → subIdx n < 0x0E0000 := fun n hn => by
    have := unitOfLane_lt hc hn
    simp only [subIdx]
    omega
  unfold takeKind
  split
  · obtain ⟨q1, q2, -⟩ := takeOffer_spec v hc w
    exact ⟨q1, fun n hn => q2 _ (hlow n hn)⟩
  · unfold takeAccept
    dsimp only
    split
    · exact ⟨(outside_setLane v c _).mono (by decide), fun n _ => num_setLane ..⟩
    · exact ⟨.refl _ _, fun _ _ => rfl⟩
  · unfold takeSwitch
    split
    · exact ⟨(outside_setLane v c _).mono (by decide), fun n _ => num_setLane ..⟩
    · exact ⟨.refl _ _, fun _ _ => rfl⟩
  · obtain ⟨q1, q2, -⟩ := takeDone_spec v hc
    exact ⟨q1, fun n hn => q2 _ (hlow n hn)⟩
  · split
    · next n hn =>
      obtain ⟨q1, q2⟩ := takeReform_spec v (unitOfLane_lt hc hn) (bits w 23 16)
      refine ⟨q1, fun m hm => ?_⟩
      obtain rfl := Option.some.inj (hn.symm.trans hm)
      exact q2
    · exact ⟨.refl _ _, fun _ _ => rfl⟩
  · split
    · next n hn =>
      obtain ⟨q1, q2⟩ := takeRestore_spec v n (bits w 23 16)
      refine ⟨q1, fun m hm => ?_⟩
      obtain rfl := Option.some.inj (hn.symm.trans hm)
      exact q2
    · exact ⟨.refl _ _, fun _ _ => rfl⟩

theorem trainTap_spec (s : State) (l sub left : Nat) (hs : sub < 256) (hl : laneIdx l < 0x0E0000) :
    Outside [.fresh, .cat] s (trainTap s l sub left).1 ∧ EventsBut [] s (trainTap s l sub left).1 ∧
      (trainTap s l sub left).1.lan = s.lan :=
  ⟨fun p hp => by cases p <;> simp [trainTap] at hp ⊢, (EventsBut.of_put s hs (.inl (by omega))).trans (.of_cat rfl),
    by simp [trainTap]⟩

/-- The taps a lane's training ends at (R280). -/
def State.trained (s : State) (l : Nat) : State :=
  let a := trainTap s l 5 63
  let b := trainTap a.1 l 6 a.2
  let c := trainTap b.1 l 7 b.2
  (trainTap c.1 l 8 c.2).1

theorem trained_spec (s : State) (l : Nat) (hl : laneIdx l < 0x0E0000) :
    Outside [.fresh, .cat] s (s.trained l) ∧ EventsBut [] s (s.trained l) := by
  obtain ⟨a1, a2, -⟩ := trainTap_spec s l 5 63 (by decide) hl
  obtain ⟨b1, b2, -⟩ := trainTap_spec (trainTap s l 5 63).1 l 6 (trainTap s l 5 63).2 (by decide) hl
  unfold State.trained
  dsimp only
  generalize trainTap s l 5 63 = a at *
  generalize trainTap a.1 l 6 a.2 = b at *
  obtain ⟨c1, c2, -⟩ := trainTap_spec b.1 l 7 b.2 (by decide) hl
  generalize trainTap b.1 l 7 b.2 = d at *
  obtain ⟨d1, d2, -⟩ := trainTap_spec d.1 l 8 d.2 (by decide) hl
  exact ⟨((a1.trans b1).trans c1).trans d1, ((a2.trans b2).trans c2).trans d2⟩

/-! ### The obligation -/

theorem startLane_state (s : State) (c : Nat) :
    ((startLane s c).lane c).state = (if s.laneMayRun c then laneBringup else laneHeld) ∧ Outside [.lan] s (startLane s c) := by
  unfold startLane
  cases h : s.laneMayRun c
  · exact ⟨by simp [lane_setLane_self], .ite (outside_setLane s c _) (outside_setLane s c _)⟩
  · exact ⟨by simp [lane_setLane_self], .ite (outside_setLane s c _) (outside_setLane s c _)⟩

theorem laneMayRun_waitUntil (s : State) (n c : Nat) : (s.waitUntil n).laneMayRun c = s.laneMayRun c := rfl

/-- What a step of the ladder that fails changes (R282). -/
theorem failStep_spec (s : State) (c : Nat) : Outside [.cat, .mgmt, .lan] s (failStep s c) ∧
    ((failStep s c).lane c).rung = (s.lane c).rung ∧
    ((s.lane c).attempts + 1 < s.num 0x050000 1 → ((failStep s c).lane c).attempts = (s.lane c).attempts + 1) ∧
    (s.num 0x050000 1 ≤ (s.lane c).attempts + 1 → ((failStep s c).lane c).ceiling = (s.lane c).proposed.getD (s.lane c).rung ∧
      ((failStep s c).lane c).attempts = 0 ∧ Raised s (failStep s c) 0x202) := by
  obtain ⟨v, hv⟩ : ∃ v, v = s.setLane c fun x =>
    { x with attempts := (s.lane c).attempts + 1, proposed := none, phase := 1, blockLock := false, good := 0 } := ⟨_, rfl⟩
  obtain ⟨w, hw⟩ : ∃ w, w = v.setLane c fun x => { x with ceiling := (s.lane c).proposed.getD (s.lane c).rung, attempts := 0 } :=
    ⟨_, rfl⟩
  have hvl : v.lane c = _ := hv ▸ lane_setLane_self s c _
  have hvo : Outside [.lan] s v := hv ▸ outside_setLane s c _
  have hvn : v.num 0x050000 1 = s.num 0x050000 1 := by rw [hv, num_setLane]
  have hwl : w.lane c = _ := hw ▸ lane_setLane_self v c _
  have hwo : Outside [.lan] v w := hw ▸ outside_setLane v c _
  have he : failStep s c = if v.num 0x050000 1 ≤ (s.lane c).attempts + 1 then w.raise 0x202 c
      (be 1 ((s.lane c).proposed.getD (s.lane c).rung) ++ be 1 ((s.lane c).attempts + 1)) else v := by
    rw [hw, hv]
    rfl
  clear hv hw
  rw [he, hvn]
  split
  · next h =>
    obtain ⟨x, hx⟩ : ∃ x, x = w.raise 0x202 c
      (be 1 ((s.lane c).proposed.getD (s.lane c).rung) ++ be 1 ((s.lane c).attempts + 1)) := ⟨_, rfl⟩
    have hxo : Outside [.cat, .mgmt] w x := hx ▸ outside_raise w _ _ _
    have hxl : x.lane c = w.lane c := by rw [State.lane, hxo .lan (by decide), ← State.lane]
    have hxr : Raised s x 0x202 := by
      rw [hx]
      exact ((EventsBut.of_cat (ms := []) (hvo .cat (by decide))).trans (.of_cat (hwo .cat (by decide)))).raised (by decide)
        (by decide) (by decide)
    rw [← hx]
    refine ⟨((hvo.trans hwo).mono (by decide)).andThen hxo (by decide), ?_, fun hn => absurd h (by omega), fun _ => ⟨?_, ?_,
      hxr⟩⟩
    · rw [hxl, hwl, hvl]
    · rw [hxl, hwl]
    · rw [hxl, hwl]
  · next h => exact ⟨hvo.mono (by decide), by rw [hvl], fun _ => by rw [hvl], fun hn => absurd hn h⟩

/-- Settles O38: the fold over a command's line blocks comes to one gain or loss of lock (`takeBlocks_gain`, `takeBlocks_lose`),
and each ladder word to the effect of its kind (`takeLadder_kind`). -/
theorem lanesClimbAndLock : Obligations.LanesClimbAndLock := by
  unfold Obligations.LanesClimbAndLock
  refine ⟨?gain, ?search, ?lose, ?unlock, ?step, ?word, ?done⟩
  case gain =>
    intro s l blocks hx hcase
    have hc := laneCode_of_exists hx
    rcases hcase with hno | ⟨huses, hheld, hlock, hgood, hlen, hall⟩
    · have he : exec (.blockLockGain l blocks) s = .next (gainLock s l) := by
        refine congrArg Host.Outcome.next ?_
        rw [if_neg (by simp [hx]), if_neg (by simp [hno])]
      obtain ⟨q1, q2, q3⟩ := gainLock_spec s hc
      exact ⟨_, he, q1, fun h => absurd (hno.symm.trans h) nofun, q3⟩
    · obtain ⟨v, e, hvo, hvl⟩ := takeBlocks_gain blocks s hlock (by omega) (by rintro rfl; simp at hlen) hall
      have he : exec (.blockLockGain l blocks) s = .next (gainLock v l) := by
        refine congrArg Host.Outcome.next ?_
        rw [if_neg (by simp [hx]), if_pos huses, takeBlocks, if_neg hheld, e]
      obtain ⟨q1, q2, q3, q4, q5⟩ := gainLock_spec v hc
      rw [hvl, laneBringupKind_congr hvo, hvo .now (by decide)] at q5
      rw [hvl, laneBringupKind_congr hvo] at q4
      rw [hvl] at q2 q3
      refine ⟨_, he, (hvo.mono (by decide)).trans q1, fun _ => q2, q3, q4, fun h1 h2 h3 h4 => ?_⟩
      obtain ⟨r1, r2, r3⟩ := q5 h1 h2 h3 h4
      exact ⟨r1, r2, Raised.after_events (ms := []) (.of_cat (hvo .cat (by decide))) r3 (by decide) (by decide) (by decide)⟩
  case search =>
    intro s l blocks hx huses hheld hlock hall
    have he : exec (.blockLockGain l blocks) s = .next (blocks.foldl (fun s b => takeBlock s l b) s) := by
      refine congrArg Host.Outcome.next ?_
      rw [if_neg (by simp [hx]), if_pos huses, takeBlocks, if_neg hheld]
    obtain ⟨q1, q2, q3⟩ := takeBlocks_search blocks s hlock hall
    exact ⟨_, he, q1, q2, fun h => ⟨(q3 h).1, fun _ => (q3 h).2⟩⟩
  case lose =>
    intro s l blocks hx hlocked hcase
    have hc := laneCode_of_exists hx
    rcases hcase with hno | ⟨huses, hlock, hwin, hbad, hlen, hall⟩
    · have he : exec (.blockLockLoss l blocks) s = .next (loseLock s l) := by
        refine congrArg Host.Outcome.next ?_
        rw [if_neg (by simp [hx]), if_neg (by simp [hno])]
      obtain ⟨q1, q2, q3, q4, q5⟩ := loseLock_spec s hc hlocked
      exact ⟨_, he, q1, q2, fun h => absurd (hno.symm.trans h) nofun,
        fun h => ⟨(q4 h).1, fun h => absurd (hno.symm.trans h) nofun⟩, q5⟩
    · have hheld : (s.lane l).state ≠ laneHeld := by rw [hlocked]; decide
      obtain ⟨v, e, hvo, hvl, hvn⟩ := takeBlocks_lose blocks s hlock (by omega) (by omega) (by rintro rfl; simp at hlen) hall
      have he : exec (.blockLockLoss l blocks) s = .next (loseLock v l) := by
        refine congrArg Host.Outcome.next ?_
        rw [if_neg (by simp [hx]), if_pos huses, takeBlocks, if_neg hheld, e]
      obtain ⟨q1, q2, q3, q4, q5⟩ := loseLock_spec v hc (by rw [hvl]; exact hlocked)
      refine ⟨_, he, q1, by rw [q2, hvo .now (by decide)], fun _ => by rw [q3, hvl], fun h => ?_,
        (hvo.mono (by decide)).trans q5⟩
      obtain ⟨n1, n2⟩ := q4 h
      obtain ⟨m1, m2⟩ := hvn h
      exact ⟨by rw [n1, m1], fun _ => by rw [n2, m2, hlen]⟩
  case unlock =>
    intro s l hx hun
    obtain ⟨w, hw⟩ : ∃ w, w = s.waitUntil ((s.lane l).unlockedAt + tenMs) := ⟨_, rfl⟩
    have he : exec (.laneUnlockTimeout l) s = .next ((startLane w l).setLane l fun y =>
        { y with failed := (s.lane l).failed, shadow := (s.lane l).shadow }) := by
      rw [hw]
      exact congrArg Host.Outcome.next (if_pos ⟨hx, hun⟩)
    have hwo : Outside [.now, .tim] s w := hw ▸ outside_waitUntil s _
    have hnow : w.now = max s.now ((s.lane l).unlockedAt + tenMs) := by rw [hw, now_waitUntil_max]
    have hrun : w.laneMayRun l = s.laneMayRun l := by rw [hw, laneMayRun_waitUntil]
    clear hw
    obtain ⟨q1, q2⟩ := startLane_state w l
    refine ⟨_, he, ?_, ?_, ?_, ((hwo.mono (by decide)).andThen q2 (by decide)).andThen (outside_setLane _ _ _) (by decide)⟩
    · exact (q2 .now (by decide)).trans hnow
    · rw [lane_setLane_self, ← hrun]
      exact q1
    · rw [lane_setLane_self]
  case step =>
    intro s l hp
    obtain ⟨w, hw⟩ : ∃ w, w = s.waitUntil ((s.lane l).stepAt + tenMs) := ⟨_, rfl⟩
    have he : exec (.rungStepTimeout l) s = .next (failStep w l) := by
      rw [hw]
      exact congrArg Host.Outcome.next (if_pos hp)
    have hwo : Outside [.now, .tim] s w := hw ▸ outside_waitUntil s _
    have hnow : w.now = max s.now ((s.lane l).stepAt + tenMs) := by rw [hw, now_waitUntil_max]
    clear hw
    have hwl : w.lane l = s.lane l := by rw [State.lane, hwo .lan (by decide), ← State.lane]
    have hwn : w.num 0x050000 1 = s.num 0x050000 1 := num_congr_of_cat (hwo .cat (by decide)) (hwo .unit (by decide))
      (hwo .pwr (by decide)) (hwo .cfg (by decide)) _ _ (by decide)
    obtain ⟨q1, q2, q3, q4⟩ := failStep_spec w l
    rw [hwl] at q2 q3 q4
    rw [hwn] at q3 q4
    refine ⟨_, he, (q1 .now (by decide)).trans hnow, q2, q3, fun h => ?_, ((hwo.mono (by decide)).andThen q1 (by decide))⟩
    obtain ⟨r1, r2, r3⟩ := q4 h
    exact ⟨r1, r2, Raised.after_events (ms := []) (.of_cat (hwo .cat (by decide))) r3 (by decide) (by decide) (by decide)⟩
  case word =>
    intro s l w hx hheld
    have hc := laneCode_of_exists hx
    have he : exec (.ladderWord l w) s = .next (takeLadder s l w.toNat) := congrArg Host.Outcome.next (if_pos ⟨hx, hheld⟩)
    refine ⟨_, he, ?_⟩
    cases hk : ladderKind w.toNat with
    | none =>
      have h : takeLadder s l w.toNat = s := by
        unfold takeLadder
        rw [hk]
      rw [h]
      exact ⟨.refl _ _, fun _ => rfl, nofun, nofun, nofun, nofun, nofun⟩
    | some k =>
      rw [takeLadder_kind hk]
      obtain ⟨v1, v2⟩ := showWord_spec s l w.toNat
      generalize s.showWord l w.toNat = v at *
      have hvl : v.lane l = s.lane l := by rw [State.lane, v1 .lan (by decide), ← State.lane]
      have hnow : v.now = s.now := v1 .now (by decide)
      obtain ⟨q1, q2⟩ := takeKind_spec s v hc w.toNat k
      refine ⟨((v1.mono (by decide)).trans q1).mono (by decide), nofun, fun _ n hn => (q2 n hn).trans (v2 n hn), fun h => ?_,
        fun h h1 h2 h3 => ?_, fun h h1 h2 => ?_, fun h => ?_⟩
      · obtain rfl := Option.some.inj h
        exact (takeOffer_spec v hc w.toNat).2.2
      · obtain rfl := Option.some.inj h
        rw [takeKind, takeAccept, if_pos (by rw [hvl]; exact ⟨h1, h2, h3⟩), lane_setLane_self, hvl, hnow]
      · obtain rfl := Option.some.inj h
        rw [takeKind, takeSwitch, if_pos (by rw [hvl]; exact ⟨h1, h2⟩), lane_setLane_self, hvl, hnow]
      · obtain rfl := Option.some.inj h
        exact (takeDone_spec v hc).2.2
  case done =>
    intro s l result hf hs hk
    have hc := laneCode_of_electrical hf
    have hg : ((isFast l || isGeneral l) && (s.lane l).state == laneBringup && laneBringupKind s l == 1) = true := by
      simp [hs, hk, hf]
    have hlow : laneIdx l < 0x0E0000 := by
      unfold LaneCode at hc
      unfold laneIdx
      split <;> omega
    by_cases hr : result = 0
    · obtain ⟨q1, q2⟩ := trained_spec s l hlow
      have he : exec (.standardBringupDone l result) s = .next (lockLane ((s.trained l).raise 0x203 l (be 1 0)) l) :=
        congrArg Host.Outcome.next ((if_pos hg).trans (if_pos hr))
      generalize s.trained l = v at *
      obtain ⟨r1, r2⟩ := lockLane_spec (v.raise 0x203 l (be 1 0)) hc
      refine ⟨_, he, fun _ => ⟨r2, ?_⟩, fun h => absurd hr h, ?_⟩
      · exact (q2.raised (by decide) (by decide) (by decide)).then_events r1.events (by decide) (by decide) (by decide)
      · exact ((q1.mono (by decide)).andThen (outside_raise v _ _ _) (by decide)).andThen r1.outside (by decide)
    · have he : exec (.standardBringupDone l result) s = .next (s.raise 0x203 l (be 1 result)) :=
        congrArg Host.Outcome.next ((if_pos hg).trans (if_neg hr))
      have ho := outside_raise s 0x203 l (be 1 result)
      exact ⟨_, he, fun h => absurd h hr, fun _ => ⟨ho .lan (by decide), (EventsBut.refl [] s).raised (by decide) (by decide)
        (by decide)⟩, ho.mono (by decide)⟩

end Sys2Proof.Machine
end

section
/-! Ports: modes, light, failures and start-up slots (R274 to R292; obligation O39). -/

namespace Sys2Proof.Machine

variable {s t u : State} {i a c k n : Nat}

/-! ### Steps of a port -/

/-- The events that a port stopped or started may count. -/
def portEvents : List Nat := [0x010, 0x482, 0x211]

/-- A change of a port's sub-ports and lanes: it leaves the entries before those of sub-ports (but for SHADOW_READY),
  the optical
engines and the start-up slots. -/
structure PortStep (s t : State) : Prop where
  outside : Outside [.cat, .mgmt, .lan] s t
  events : EventsBut portEvents s t
  entries : ∀ i a, a < 256 → i < 0x050800 → a ≠ 6 → t.num i a = s.num i a
  engines : t.lan.engines = s.lan.engines
  groups : t.lan.groupsDone = s.lan.groupsDone

theorem PortStep.refl (s : State) : PortStep s s := ⟨.refl _ _, .refl _ _, fun _ _ _ _ _ => rfl, rfl, rfl⟩

theorem PortStep.trans (h : PortStep s t) (h' : PortStep t u) : PortStep s u :=
  ⟨h.outside.trans h'.outside, h.events.trans h'.events,
    fun i a ha hi h6 => (h'.entries i a ha hi h6).trans (h.entries i a ha hi h6),
    h'.engines.trans h.engines, h'.groups.trans h.groups⟩

theorem PortStep.foldl {α : Type} {f : State → α → State} {l : List α} (h : ∀ s, ∀ x ∈ l, PortStep s (f s x)) (s : State) :
    PortStep s (l.foldl f s) :=
  List.foldlRecOn l f (motive := PortStep s) (.refl s) fun t ht x hx => ht.trans (h t x hx)

theorem portIdx_lt (hk : k < 30) : portIdx k < 0x050800 := by
  unfold portIdx
  split <;> omega

theorem plain_portIdx_lt (hk : k < 30) : PlainIndex (portIdx k) := by
  unfold PlainIndex portIdx
  split <;> omega

theorem PortStep.portMode (h : PortStep s t) (hk : k < 30) : t.portMode k = s.portMode k :=
  h.entries _ _ (by decide) (portIdx_lt hk) (by decide)

theorem portOfUnit_lt (hn : n < 178) : (portOfUnit n).1 < 31 := by
  unfold portOfUnit
  split <;> dsimp only <;> omega

/-! ### Entries of a sub-port -/

theorem PortStep.of_put (s : State) {x : Nat} (hn : n < 178) (ha : a < 256) : PortStep s (s.put (subIdx n) a x) := by
  have hlow : subIdx n < 0x0E1000 := by simp only [subIdx]; omega
  refine ⟨(outside_put s _ _ _).mono (by decide), .of_put s ha (.inl hlow), fun i b hb hi _ => ?_, rfl, rfl⟩
  have hne : subIdx n ≠ i := by simp only [subIdx]; omega
  exact num_put_of_apart ha hb (.inl hne) (.inl hne)

theorem PortStep.of_raise (s : State) {m unit : Nat} {b : List Byte} (hm : m ∈ portEvents) (h : m < 4096) :
    PortStep s (s.raise m unit b) := by
  have ho := outside_raise s m unit b
  exact ⟨ho.mono (by decide), .of_raise s hm, fun i a ha hi _ => num_raise h i a ha (.inl (by omega)),
    by rw [ho .lan (by decide)], by rw [ho .lan (by decide)]⟩

theorem PortStep.of_setSub (s : State) (n : Nat) (f : SubPort → SubPort) : PortStep s (s.setSub n f) :=
  ⟨(outside_setSub s n f).mono (by decide), .of_cat rfl, fun _ _ _ _ _ => num_setSub .., rfl, rfl⟩

theorem PortStep.of_setLane (s : State) (c : Nat) (f : Lane → Lane) : PortStep s (s.setLane c f) :=
  ⟨(outside_setLane s c f).mono (by decide), .of_cat rfl, fun _ _ _ _ _ => num_setLane .., rfl, rfl⟩

theorem PortStep.of_clrBits (s : State) (hk : k < 30) (m : Nat) : PortStep s (s.clrBits (portIdx k) 6 m) := by
  have hlow := portIdx_lt hk
  exact ⟨(outside_put s _ _ _).mono (by decide), .of_put s (by decide) (.inl (by omega)), fun i b hb _ h6 =>
    num_put_of_apart (by decide) hb (.inr (Ne.symm h6)) (.inr (.inr (.inr (plain_portIdx_lt hk)))), rfl, rfl⟩

/-! ### Stopping and starting -/

theorem clearShadow_step (s : State) (hn : n < 178) : PortStep s (clearShadow s n) := by
  unfold clearShadow
  dsimp only
  split
  · next h =>
    have hk : (portOfUnit n).1 < 30 := by
      unfold portOfUnit
      rw [if_pos h]
      dsimp only
      omega
    exact (PortStep.of_put s hn (by decide)).trans (.of_clrBits _ hk _)
  · exact .of_put s hn (by decide)

theorem num_subPut (s : State) {x b : Nat} (hn : n < 178) (ha : a < 256) (hb : b < 256) (h : subIdx n ≠ i ∨ b ≠ a) :
    (s.put (subIdx n) b x).num i a = s.num i a :=
  num_put_of_apart hb ha h (.inr (.inr (.inr (plain_subIdx hn))))

theorem num_clearShadow (s : State) (hn : n < 178) (ha : a < 256) (h5 : a ≠ 5) (h6 : a ≠ 6) :
    (clearShadow s n).num i a = s.num i a := by
  have h1 := num_subPut (i := i) s (x := 0) hn ha (by decide : 5 < 256) (.inr (Ne.symm h5))
  unfold clearShadow
  dsimp only
  split
  · next h =>
    have hk : (portOfUnit n).1 < 30 := by
      unfold portOfUnit
      rw [if_pos h]
      dsimp only
      omega
    exact (num_put_of_apart (by decide) ha (.inr (Ne.symm h6)) (.inr (.inr (.inr (plain_portIdx_lt hk))))).trans h1
  · exact h1

/-- What ending a RESTORE leaves (R293): the entries before those of takes, the lanes, and all events but a command's. -/
theorem endRestore_keeps (s : State) (n : Nat) (st : Option Nat) :
    (∀ i a, a < 256 → i < 0x074000 → (endRestore s n st).num i a = s.num i a) ∧
      (endRestore s n st).lan.lanes = s.lan.lanes ∧ EventsBut [0x010, 0x482] s (endRestore s n st) ∧
      (endRestore s n st).sub n = { s.sub n with cmd := none, restoring := false, agreed := none } := by
  unfold endRestore
  dsimp only
  split
  · refine ⟨fun i a ha hi => ?_, by simp [State.setSub], ?_, by simp [State.sub, State.setSub, tgetD_tput_self]⟩
    · rw [num_completeCmd _ _ _ _ ha (.inl (by omega)) (.inl (by omega)), num_setSub]
    · unfold completeCmd
      split
      · exact EventsBut.trans (.of_cat rfl) (.of_finishCmd (s.setSub n _) _ _ (by decide) (by decide))
      · exact .of_cat rfl
  · exact ⟨fun _ _ _ _ => num_setSub .., rfl, .of_cat rfl, sub_setSub_self ..⟩

theorem endRestore_step (s : State) (n : Nat) (st : Option Nat) : PortStep s (endRestore s n st) := by
  unfold endRestore
  dsimp only
  have h1 := PortStep.of_setSub s n fun x => { x with cmd := none, restoring := false, agreed := none }
  split
  · refine h1.trans ⟨fun p hp => by cases p <;> simp at hp ⊢, ?_, fun i a ha hi _ => ?_, by simp, by simp⟩
    · unfold completeCmd
      split
      · exact .of_finishCmd _ _ _ (by decide) (by decide)
      · exact .refl _ _
    · exact num_completeCmd _ _ _ _ ha (.inl (by omega)) (.inl (by omega))
  · exact h1

/-- A sub-port that goes down (R286). -/
theorem goDown_step (s : State) (hn : n < 178) (cause : Nat) : PortStep s (goDown s n cause) := by
  unfold goDown
  dsimp only
  split
  · exact .refl _
  · exact (((((clearShadow_step s hn).trans (.of_put _ hn (by decide))).trans (.of_put _ hn (by decide))).trans
      (.of_put _ hn (by decide))).trans (.of_put _ hn (by decide))).trans (.of_raise _ (by decide) (by decide))

theorem startLane_step (s : State) (c : Nat) : PortStep s (startLane s c) := by
  unfold startLane
  split
  · exact .of_setLane s c _
  · exact .of_setLane s c _

theorem startSub_step (s : State) (hn : n < 178) : PortStep s (startSub s n) := by
  have h1 : PortStep s ((maskLanes n (s.fullMask n)).foldl startLane s) := .foldl (fun t x _ => startLane_step t x) s
  unfold startSub
  dsimp only
  split
  · exact (h1.trans (.of_put _ hn (by decide))).trans (.of_setSub _ _ _)
  · exact h1

theorem outside_startSub (s : State) (n : Nat) : Outside [.cat, .lan] s (startSub s n) := fun p hp => by
  cases p <;> simp at hp ⊢

theorem outside_startPort (s : State) (k : Nat) : Outside [.cat, .lan] s (startPort s k) := fun p hp => by
  cases p <;> simp at hp ⊢

theorem modeShape_le (k m : Nat) : (modeShape k m).1 ≤ portLanes k := by
  have h : ∀ (l : List (Nat × Nat × Nat)) (n : Nat), (∀ x ∈ l, x.1 ≤ n) → (l.getD m (0, 0, 0)).1 ≤ n := fun l n hl => by
    by_cases hm : m < l.length
    · rw [List.getD_eq_getElem _ _ hm]
      exact hl _ (List.getElem_mem hm)
    · rw [List.getD_eq_default _ _ (by omega)]
      exact Nat.zero_le n
  unfold modeShape portLanes
  split
  · exact h _ 8 (by decide)
  · exact h _ 4 (by decide)

theorem unitOf_port_lt (hk : k < 30) (h : i < portLanes k) : unitOf k i < 178 := by
  unfold portLanes at h
  split at h
  · exact unitOf_lt (.inl ⟨by omega, h⟩)
  · exact unitOf_lt (.inr ⟨by omega, h⟩)

theorem unitOf_inj {i j : Nat} (h : unitOf k i = unitOf k j) : i = j := by
  unfold unitOf at h
  split at h <;> omega

theorem stopPort_step (s : State) (hk : k < 30) (cause : Nat) (st : Option Nat) : PortStep s (stopPort s k cause st) := by
  unfold stopPort
  refine .trans (.foldl (fun t i hi => ?_) s) (.foldl (fun t l _ => .of_setLane t _ _) _)
  have hn := unitOf_port_lt hk ((List.mem_range.mp hi).trans_le (modeShape_le k _))
  split
  · exact (endRestore_step _ _ _).trans (goDown_step _ hn _)
  · exact goDown_step _ hn _

theorem startPort_step (s : State) (hk : k < 30) : PortStep s (startPort s k) := by
  unfold startPort
  dsimp only
  split
  · exact .refl _
  · split
    · split
      · exact .foldl (fun t l _ => startLane_step t _) s
      · exact .refl _
    · exact .foldl (fun t i hi => startSub_step t (unitOf_port_lt hk ((List.mem_range.mp hi).trans_le (modeShape_le k _)))) s

theorem clearSubs_step (s : State) (hk : k < 30) : PortStep s (clearSubs s k) := by
  unfold clearSubs
  refine .foldl (fun t i hi => ?_) s
  split
  · exact .refl _
  · exact .of_put t (unitOf_port_lt hk (List.mem_range.mp hi)) (by decide)

theorem stopPort_lanes (s : State) (k cause : Nat) (st : Option Nat) :
    ∀ l ∈ List.range (portLanes k), (stopPort s k cause st).lane (laneCode k l) = {} := by
  unfold stopPort
  refine foldl_establishes (P := fun l t => t.lane (laneCode k l) = {}) (fun t x _ => lane_setLane_self ..) (fun t x _ y _ hx => ?_) _
  by_cases h : laneCode k y = laneCode k x
  · rw [h]
    exact lane_setLane_self ..
  · exact (lane_setLane_ne _ _ _ _ h).trans hx

/-! ### What starting does to lanes and sub-ports -/

theorem laneMayRun_congr (hp : t.pwr = s.pwr) (hu : t.unit = s.unit) (he : t.lan.engines = s.lan.engines) :
    t.laneMayRun c = s.laneMayRun c := by
  simp only [State.laneMayRun, State.lanesRun, laneExists, hp, hu, he]

theorem PortStep.laneMayRun (h : PortStep s t) : t.laneMayRun c = s.laneMayRun c :=
  laneMayRun_congr (h.outside .pwr (by decide)) (h.outside .unit (by decide)) h.engines

theorem lane_startLane_ne (s : State) {d : Nat} (h : c ≠ d) : (startLane s c).lane d = s.lane d := by
  unfold startLane
  split
  · exact lane_setLane_ne s c d _ h
  · exact lane_setLane_ne s c d _ h

theorem startLanes_state (l : List Nat) (s : State) :
    ∀ c ∈ l, ((l.foldl startLane s).lane c).state = if s.laneMayRun c then laneBringup else laneHeld := by
  have hstep : PortStep s (l.foldl startLane s) := .foldl (fun t x _ => startLane_step t x) s
  intro c hc
  rw [← hstep.laneMayRun]
  refine foldl_establishes (P := fun c t => (t.lane c).state = if t.laneMayRun c then laneBringup else laneHeld)
    (fun t x _ => ?_) (fun t x _ y _ hx => ?_) s c hc
  · rw [(startLane_step t x).laneMayRun]
    exact (startLane_state t x).1
  · rw [(startLane_step t y).laneMayRun]
    by_cases hy : y = x
    · rw [hy]
      exact (startLane_state t x).1
    · rw [lane_startLane_ne t hy, hx]

/-- What starting a sub-port does (R286, R292). -/
theorem startSub_spec (s : State) (hn : n < 178) :
    (∀ i a, a < 256 → subIdx n ≠ i ∨ a ≠ 1 → (startSub s n).num i a = s.num i a) ∧
      ((startSub s n).subState n = spBringup ∨ (startSub s n).subState n = s.subState n) ∧
      ∀ c ∈ maskLanes n (s.fullMask n), ((startSub s n).lane c).state = if s.laneMayRun c then laneBringup else laneHeld := by
  obtain ⟨v, hv⟩ : ∃ v, v = (maskLanes n (s.fullMask n)).foldl startLane s := ⟨_, rfl⟩
  have hvo : Outside [.lan] s v := hv ▸ .foldl _ _ _ fun t x => (startLane_state t x).2
  have hvn : ∀ i a, a < 256 → v.num i a = s.num i a := fun i a ha => num_congr_of_cat (hvo .cat (by decide))
    (hvo .unit (by decide)) (hvo .pwr (by decide)) (hvo .cfg (by decide)) i a ha
  have hvl := startLanes_state (maskLanes n (s.fullMask n)) s
  rw [← hv] at hvl
  unfold startSub
  dsimp only
  rw [← hv]
  clear hv
  split
  · refine ⟨fun i a ha h => ?_, .inl ?_, fun c hc => ?_⟩
    · rw [num_setSub, num_subPut v hn ha (by decide) (h.imp_right Ne.symm), hvn i a ha]
    · rw [State.subState, num_setSub, num_put_self]
    · exact hvl c hc
  · exact ⟨fun i a ha _ => hvn i a ha, .inr (hvn _ _ (by decide)), hvl⟩

theorem clearSubs_off (s : State) (hk : k < 30) : ∀ i ∈ List.range (portLanes k),
    (modeShape k ((clearSubs s k).portMode k)).1 ≤ i → (clearSubs s k).subState (unitOf k i) = spOff := by
  have hput : ∀ (t : State) (j : Nat), j < portLanes k → (t.put (subIdx (unitOf k j)) 1 spOff).portMode k = t.portMode k :=
    fun t j hj => (PortStep.of_put t (unitOf_port_lt hk hj) (by decide)).portMode hk
  refine foldl_establishes (P := fun i t => (modeShape k (t.portMode k)).1 ≤ i → t.subState (unitOf k i) = spOff)
    (fun t x hx => ?_) (fun t x _ y hy hP => ?_) s
  · split
    · next h => exact fun h' => absurd h (by omega)
    · exact fun _ => num_put_self ..
  · split
    · exact hP
    · rw [hput t y (List.mem_range.mp hy)]
      intro h
      by_cases hxy : subIdx (unitOf k y) = subIdx (unitOf k x)
      · rw [State.subState, hxy, num_put_self]
      · exact (num_subPut t (unitOf_port_lt hk (List.mem_range.mp hy)) (by decide) (by decide) (.inl hxy)).trans (hP h)

theorem startPort_off (s : State) (hk : k < 30) (hi : (modeShape k (s.portMode k)).1 ≤ i) :
    (startPort s k).subState (unitOf k i) = s.subState (unitOf k i) := by
  have hl : ∀ l : List Nat,
    (l.foldl (fun s l => startLane s (laneCode k l)) s).subState (unitOf k i) = s.subState (unitOf k i) :=
    fun l => foldl_keeps (·.subState (unitOf k i)) (fun t x _ => num_congr_of_cat ((startLane_state t _).2 .cat (by decide))
      ((startLane_state t _).2 .unit (by decide)) ((startLane_state t _).2 .pwr (by decide))
      ((startLane_state t _).2 .cfg (by decide)) _ _ (by decide)) s
  unfold startPort
  dsimp only
  split
  · rfl
  · split
    · split
      · exact hl _
      · rfl
    · refine foldl_keeps (·.subState (unitOf k i)) (fun t j hj => ?_) s
      have hj' := List.mem_range.mp hj
      refine (startSub_spec t (unitOf_port_lt hk (hj'.trans_le (modeShape_le k _)))).1 _ _ (by decide) (.inl fun h => ?_)
      have : unitOf k j = unitOf k i := by simpa [subIdx] using h
      have := unitOf_inj this
      omega

/-! ### Lanes that fail (R289) -/

theorem EventsBut.of_raiseAtMost (s : State) {ms : List Nat} {n m unit : Nat} {f : Nat → List Byte} (hm : m ∈ ms) :
    EventsBut ms s (s.raiseAtMost n m unit f) := by
  unfold State.raiseAtMost
  dsimp only
  split
  · exact EventsBut.trans (.of_cat rfl) (.of_raise (markOccurrence s m unit _) hm)
  · exact .of_cat rfl

theorem loseShadow_keeps (s : State) (hc : LaneCode c) : Outside [.cat] s (loseShadow s c) ∧
    (∀ i a, a < 5 → (loseShadow s c).num i a = s.num i a) ∧ EventsBut [0x200] s (loseShadow s c) := by
  refine ⟨(loseShadow_spec s hc).1, fun i a ha => ?_, ?_⟩
  · unfold loseShadow
    split
    · next n hu =>
      split
      · refine (num_subPut _ (unitOfLane_lt hc hu) (by omega) (by decide) (.inr (by omega))).trans ?_
        exact num_put_of_apart (by decide) (by omega) (.inr (by omega)) (.inr (.inr (.inr (plain_portIdx hc hu))))
      · rfl
    · rfl
  · unfold loseShadow
    split
    · next n hu =>
      have hn := unitOfLane_lt hc hu
      have hk : portIdx (portOf c).1 < 0x0E1000 := by
        have hm : ¬(c = 0x300 ∨ c = 0x301) := fun hm => by simp [State.unitOfLane, hm] at hu
        have := portOf_lt hc hm
        unfold portIdx
        split <;> omega
      split
      · exact EventsBut.then_put (.of_put s (by decide) (.inl hk)) (by decide) (by simp only [subIdx]; omega)
      · exact .refl _ _
    · exact .refl _ _

theorem subFails_step (s : State) (hn : n < 178) : PortStep s (subFails s n) := by
  unfold subFails
  split
  · exact (PortStep.of_setSub s n _).trans (.of_put _ hn (by decide))
  · exact (goDown_step s hn 0).trans (startSub_step _ hn)

/-- What losing lock leaves: the entries a re-form is judged by, the failed lanes and the sub-ports. -/
theorem loseLock_keeps (s : State) (hc : LaneCode c) :
    (∀ i a, a < 5 → i < 0x0E0000 → (loseLock s c).num i a = s.num i a) ∧
      (∀ d, ((loseLock s c).lane d).failed = (s.lane d).failed) ∧ EventsBut [0x200] s (loseLock s c) ∧
      Outside [.cat, .mgmt, .lan] s (loseLock s c) := by
  obtain ⟨v, hv⟩ : ∃ v, v = s.setLane c fun x => { x with state := laneUnlocked, unlockedAt := s.now } := ⟨_, rfl⟩
  obtain ⟨w, hw⟩ : ∃ w, w = if isFast c || isGeneral c then v.count (laneIdx c) 0x0D 32 1 else v := ⟨_, rfl⟩
  obtain ⟨x, hx⟩ : ∃ x, x = w.raiseAtMost 16 0x200 c (fun _ => be 1 1) := ⟨_, rfl⟩
  have he : loseLock s c = if (s.lane c).state ≠ laneLocked then s else loseShadow x c := by
    rw [hx, hw, hv]
    rfl
  have hvo : Outside [.lan] s v := hv ▸ outside_setLane s c _
  have hvf : ∀ d, (v.lane d).failed = (s.lane d).failed := fun d => by
    rw [hv]
    by_cases h : c = d
    · rw [← h, lane_setLane_self]
    · rw [lane_setLane_ne _ _ _ _ h]
  have hvn : ∀ i a, v.num i a = s.num i a := fun i a => by rw [hv, num_setLane]
  clear hv
  have hlow : laneIdx c < 0x0E0000 := by
    unfold LaneCode at hc
    unfold laneIdx
    split <;> omega
  have hwo : Outside [.cat] v w := by
    rw [hw]
    exact .ite (outside_count v _ _ _ _) (.refl _ _)
  have hwe : EventsBut [0x200] s w := by
    have h := EventsBut.of_cat (ms := [0x200]) (hvo .cat (by decide))
    rw [hw]
    split
    · exact h.then_count (by decide) (by omega)
    · exact h
  have hwn : ∀ i a, a < 5 → w.num i a = v.num i a := fun i a ha => by
    rw [hw]
    split
    · exact num_count_of_apart (by decide) (by omega) (.inr (by omega)) (.inr (.inr (.inl (by decide))))
    · rfl
  have hxo : Outside [.cat, .mgmt] w x := hx ▸ outside_raiseAtMost w _ _ _ _
  have hxn : ∀ i a, a < 5 → i < 0x0E0000 → x.num i a = w.num i a := fun i a ha hi => by
    rw [hx, num_raiseAtMost (by decide) _ _ (by omega) (.inl hi)]
  have hxe : EventsBut [0x200] w x := hx ▸ .of_raiseAtMost w (by decide)
  clear hw hx
  obtain ⟨q1, q2, q3⟩ := loseShadow_keeps x hc
  rw [he]
  split
  · exact ⟨fun _ _ _ _ => rfl, fun _ => rfl, .refl _ _, .refl _ _⟩
  · refine ⟨fun i a ha hi => ?_, fun d => ?_, (hwe.trans hxe).trans q3, ?_⟩
    · rw [q2 i a ha, hxn i a ha hi, hwn i a ha, hvn]
    · rw [← hvf d, State.lane, q1 .lan (by decide), hxo .lan (by decide), hwo .lan (by decide), ← State.lane]
    · exact (((hvo.mono (by decide)).andThen hwo (by decide)).andThen hxo (by decide)).andThen q1 (by decide)

theorem mayReform_congr (hn : ∀ i a, a < 5 → i < 0x050800 → t.num i a = s.num i a)
    (hf : ∀ d, (t.lane d).failed = (s.lane d).failed) (h : n < 178) : mayReform t n = mayReform s n := by
  have hk : portIdx (portOfUnit n).1 < 0x050800 := by
    have := portOfUnit_lt h
    unfold portIdx
    split <;> omega
  have hm : t.subWidth n = s.subWidth n := by
    rw [State.subWidth, State.subWidth, State.portMode, State.portMode, hn _ _ (by decide) hk]
  have hh : t.healthy n = s.healthy n := by
    unfold State.healthy
    refine congrArg _ (List.filter_congr fun l _ => ?_)
    rw [State.fullMask, State.fullMask, hm, hf]
  simp only [mayReform, hm, hh, State.flag, State.bringup, hn _ _ (by decide : 4 < 5) hk, hn _ _ (by decide : 2 < 5) hk]

theorem clearShadow_events (s : State) (hn : n < 178) : EventsBut [] s (clearShadow s n) := by
  have hlow : subIdx n < 0x0E0000 := by simp only [subIdx]; omega
  have hk : portIdx (portOfUnit n).1 < 0x0E1000 := by
    have := portOfUnit_lt hn
    unfold portIdx
    split <;> omega
  unfold clearShadow
  dsimp only
  split
  · exact ((EventsBut.refl [] s).then_put (by decide) (by omega)).trans (.of_put _ (by decide) (.inl hk))
  · exact (EventsBut.refl [] s).then_put (by decide) (by omega)

/-- A sub-port in use that goes down (R286). -/
theorem goDown_spec (s : State) (hn : n < 178) (cause : Nat) (h : s.subState n ≠ spOff ∧ s.subState n ≠ spDown) :
    (goDown s n cause).subState n = spDown ∧ Raised s (goDown s n cause) 0x211 ∧
      (goDown s n cause).num (subIdx n) 0x0D = (s.num (subIdx n) 0x0D + 1) % 2 ^ 32 := by
  have hlow : subIdx n < 0x0E0000 := by simp only [subIdx]; omega
  obtain ⟨v, hv⟩ : ∃ v, v = clearShadow s n := ⟨_, rfl⟩
  have he : goDown s n cause =
      ((((v.put (subIdx n) 1 spDown).put (subIdx n) 2 0).put (subIdx n) 3 0).count (subIdx n) 0x0D 32 1).raise 0x211 n (be 1 cause) := by
    rw [hv]
    exact if_neg (not_or.mpr h)
  have hve : EventsBut [] s v := hv ▸ clearShadow_events s hn
  have hvn : v.num (subIdx n) 0x0D = s.num (subIdx n) 0x0D := by
    rw [hv, num_clearShadow s hn (by decide) (by decide) (by decide)]
  clear hv
  rw [he]
  refine ⟨?_, ?_, ?_⟩
  · rw [State.subState, num_raise (by decide) _ _ (by decide) (.inl hlow), State.count,
      num_subPut _ hn (by decide) (by decide) (.inr (by decide)), num_subPut _ hn (by decide) (by decide) (.inr (by decide)),
      num_subPut _ hn (by decide) (by decide) (.inr (by decide)), num_put_self]
  · exact ((((hve.then_put (by decide) (by omega)).then_put (by decide) (by omega)).then_put (by decide) (by omega)).then_count
      (by decide) (by omega)).raised (by decide) (by decide) (by decide)
  · rw [num_raise (by decide) _ _ (by decide) (.inl hlow), State.count, num_put_self,
      num_subPut _ hn (by decide) (by decide) (.inr (by decide)), num_subPut _ hn (by decide) (by decide) (.inr (by decide)),
      num_subPut _ hn (by decide) (by decide) (.inr (by decide)), hvn]

/-- A sub-port in use that goes down and starts again (R286, R292). -/
theorem goDown_restarts (s : State) (hn : n < 178) (cause : Nat) (h : s.subState n ≠ spOff ∧ s.subState n ≠ spDown) :
    ((startSub (goDown s n cause) n).subState n = spBringup ∨ (startSub (goDown s n cause) n).subState n = spDown) ∧
      Raised s (startSub (goDown s n cause) n) 0x211 ∧
      (startSub (goDown s n cause) n).num (subIdx n) 0x0D = (s.num (subIdx n) 0x0D + 1) % 2 ^ 32 := by
  obtain ⟨q1, q2, q3⟩ := goDown_spec s hn cause h
  generalize goDown s n cause = w at *
  obtain ⟨r1, r2, -⟩ := startSub_spec w hn
  rw [q1] at r2
  refine ⟨r2, q2.congr (r1 _ _ (by decide) (.inr (by decide))), ?_⟩
  rw [r1 _ _ (by decide) (.inr (by decide)), q3]

/-! ### Optical engines (R285) -/

theorem outside_setOe (s : State) (e : Nat) (f : OptEngine → OptEngine) : Outside [.lan] s (s.setOe e f) := fun p hp => by
  cases p <;> simp at hp ⊢

theorem engine_dark (l : List OptEngine) (e : Nat) :
    ((lmod l e fun x => { x with lightOk := false }).getD e {}).lightOk = false := by
  by_cases h : e < l.length
  · rw [getD_lmod_self _ _ _ _ h]
  · rw [List.getD_eq_default _ _ (by simp [lmod]; omega)]

/-- An engine's record written and shown (R285). -/
theorem showEngine_spec (s : State) (e : Fin 8) (f : OptEngine → OptEngine) (hv : v = showEngine (s.setOe e f) e) :
    Outside [.cat, .lan] s v ∧ v.lan = { s.lan with engines := lmod s.lan.engines e f } ∧
      (∀ a, a < 256 → a ≠ 1 → v.num (0x050300 + e) a = s.num (0x050300 + e) a) ∧ EventsBut [] s v ∧
      EntriesOutside [(0x050300 + e.val, 0x050300 + e.val)] s v := by
  have ho := outside_setOe s e f
  have hn : ∀ a, a < 256 → (s.setOe e f).num (0x050300 + e) a = s.num (0x050300 + e) a := fun a ha =>
    num_congr_of_cat (ho .cat (by decide)) (ho .unit (by decide)) (ho .pwr (by decide)) (ho .cfg (by decide)) _ _ ha
  have hl : (s.setOe e f).lan = { s.lan with engines := lmod s.lan.engines e f } := rfl
  generalize s.setOe e f = w at *
  subst hv
  unfold showEngine
  dsimp only
  refine ⟨(ho.mono (by decide)).andThen (outside_put w _ _ _) (by decide), hl, fun a ha h1 => ?_, ?_, ?_⟩
  · exact (num_put_of_apart (by decide) ha (.inr (Ne.symm h1)) (.inr (.inl (by decide)))).trans (hn a ha)
  · exact (EventsBut.of_cat (ho .cat (by decide))).trans (.of_put w (by decide) (.inl (by omega)))
  · exact (EntriesOutside.of_cat (ho .cat (by decide))).then_put (by decide)

/-- Settles O39: stopping and starting a port is a `PortStep`,
  and what a failed lane does to its sub-port is judged in the state
after its lock is lost, where every entry and lane that `mayReform` reads is as before (`mayReform_congr`). -/
theorem portsFollowModesLightAndFailures : Obligations.PortsFollowModesLightAndFailures := by
  unfold Obligations.PortsFollowModesLightAndFailures
  refine ⟨?mode, ?lit, ?dark, ?fault, ?failure, ?group, ?slow, ?mgt, ?retry⟩
  case mode =>
    intro s r k sub v hw
    obtain ⟨x, hx⟩ : ∃ x, x = stopPort s k 2 none := ⟨_, rfl⟩
    obtain ⟨y, hy⟩ : ∃ y, y = x.write (ent (portIdx k) (sub + 1)) (.num v) := ⟨_, rfl⟩
    have ha : (portModeRule k (sub + 1)).apply s false (carried r) (.num v) = { s := startPort (clearSubs y k) k } := by
      rw [hy, hx]
      rfl
    have hxs : PortStep s x := hx ▸ stopPort_step s k.isLt 2 none
    have hyn : y.num (portIdx k) (sub + 1) = v := by rw [hy, num_write_self]
    have hyo : Outside [.cat, .gen] x y := hy ▸ outside_write x _ _
    clear hx hy
    have h1 := clearSubs_step y k.isLt
    have h2 := startPort_step (clearSubs y k) k.isLt
    refine does_write rfl hw ha fun u hu => ⟨hu.ok, ?_, fun i hi hm => ?_, ?_⟩
    · rw [hu.num, h2.entries _ _ (by omega) (portIdx_lt k.isLt) (by omega),
        h1.entries _ _ (by omega) (portIdx_lt k.isLt) (by omega), hyn]
    · have hmode : (clearSubs y k).portMode k = u.portMode k := by rw [State.portMode, State.portMode, hu.num, ← State.portMode,
        ← State.portMode, h2.portMode k.isLt]
      rw [← hmode] at hm
      refine (hu.num ..).trans ?_
      exact (startPort_off _ k.isLt hm).trans (clearSubs_off y k.isLt i (List.mem_range.mpr hi) hm)
    · exact ((((hxs.outside.mono (by decide)).andThen hyo (by decide)).andThen h1.outside (by decide)).andThen h2.outside
        (by decide)).andThen hu.outside (by decide)
  case lit =>
    intro s e power hfit hdark hpow
    obtain ⟨x, hx⟩ : ∃ x, x = s.put (0x050300 + e) 2 (wrap 16 power) := ⟨_, rfl⟩
    obtain ⟨v, hv⟩ : ∃ v, v = showEngine (x.setOe e fun x => { x with lightOk := true }) e := ⟨_, rfl⟩
    obtain ⟨w, hw⟩ : ∃ w, w = v.raise 0x220 e (be 1 0 ++ be 2 (wrap 16 power)) := ⟨_, rfl⟩
    have hx8 : x.num (0x050300 + e) 8 = s.num (0x050300 + e) 8 := by
      rw [hx]
      exact num_put_of_apart (by decide) (by decide) (.inr (by decide)) (.inr (.inl (by decide)))
    have he : exec (.laserLit e power) s = .next (if groupStarted w (6 + e) then startPort w (6 + e) else w) := by
      refine congrArg Host.Outcome.next ?_
      rw [if_pos hfit, ← hx, if_pos ?_, hw, hv]
      rw [hx8, hx]
      exact ⟨hfit, congrArg not hdark, hpow⟩
    have hx2 : x.num (0x050300 + e) 2 = wrap 16 power := by rw [hx, num_put_self]
    have hxo : Outside [.cat] s x := hx ▸ outside_put s _ _ _
    have hxe : EventsBut [] s x := hx ▸ .of_put s (by decide) (.inl (by omega))
    obtain ⟨v1, v2, v3, v4, -⟩ := showEngine_spec x e _ hv
    have hwo : Outside [.cat, .mgmt] v w := hw ▸ outside_raise v _ _ _
    have hwn : w.num (0x050300 + e) 2 = v.num (0x050300 + e) 2 := by
      rw [hw, num_raise (by decide) _ _ (by decide) (.inl (by omega))]
    have hwr : Raised s w 0x220 := by
      rw [hw]
      exact (hxe.trans v4).raised (by decide) (by decide) (by decide)
    clear hx hv hw
    have hp : PortStep w (if groupStarted w (6 + e) then startPort w (6 + e) else w) := by
      split
      · exact startPort_step w (by omega)
      · exact .refl w
    refine ⟨_, he, ?_, hwr.then_events hp.events (by decide) (by decide) (by decide), fun hlen => ?_, ?_⟩
    · rw [hp.entries _ _ (by decide) (by omega) (by decide), hwn, v3 _ (by decide) (by decide), hx2]
    · rw [hp.engines, hwo .lan (by decide), v2, hxo .lan (by decide)]
      dsimp only
      rw [getD_lmod_self _ _ _ _ hlen]
    · exact (((hxo.mono (by decide)).andThen v1 (by decide)).andThen hwo (by decide)).andThen hp.outside (by decide)
  case dark =>
    intro s e power hfit hlit hpow
    obtain ⟨x, hx⟩ : ∃ x, x = s.put (0x050300 + e) 2 (wrap 16 power) := ⟨_, rfl⟩
    obtain ⟨v, hv⟩ : ∃ v, v = showEngine (x.setOe e fun x => { x with lightOk := false }) e := ⟨_, rfl⟩
    obtain ⟨w, hw⟩ : ∃ w, w = stopPort v (6 + e) 4 (some stBusy) := ⟨_, rfl⟩
    have hx8 : x.num (0x050300 + e) 8 = s.num (0x050300 + e) 8 := by
      rw [hx]
      exact num_put_of_apart (by decide) (by decide) (.inr (by decide)) (.inr (.inl (by decide)))
    have he : exec (.laserDark e power) s = .next (w.raise 0x220 e (be 1 1 ++ be 2 (wrap 16 power))) := by
      refine congrArg Host.Outcome.next ?_
      rw [if_pos hfit, ← hx, if_pos ?_, hw, hv]
      rw [hx8, hx]
      exact ⟨hlit, hpow⟩
    have hx2 : x.num (0x050300 + e) 2 = wrap 16 power := by rw [hx, num_put_self]
    have hxo : Outside [.cat] s x := hx ▸ outside_put s _ _ _
    have hxe : EventsBut [] s x := hx ▸ .of_put s (by decide) (.inl (by omega))
    obtain ⟨v1, v2, v3, v4, -⟩ := showEngine_spec x e _ hv
    have hp : PortStep v w := hw ▸ stopPort_step v (by omega) 4 _
    have hlanes : ∀ l, l < 8 → w.lane (laneCode (6 + e) l) = {} := fun l hl => by
      rw [hw]
      exact stopPort_lanes v _ _ _ l (List.mem_range.mpr (by simp only [portLanes]; split <;> omega))
    clear hx hv hw
    have ho := outside_raise w 0x220 e (be 1 1 ++ be 2 (wrap 16 power))
    refine ⟨_, he, ?_, ?_, ?_, fun l hl => ?_, ?_⟩
    · rw [num_raise (by decide) _ _ (by decide) (.inl (by omega)), hp.entries _ _ (by decide) (by omega) (by decide),
        v3 _ (by decide) (by decide), hx2]
    · exact (((hxe.trans v4).mono (List.nil_subset _)).trans hp.events).raised (by decide) (by decide) (by decide)
    · rw [ho .lan (by decide), hp.engines, v2, hxo .lan (by decide)]
      exact engine_dark _ _
    · rw [State.lane, ho .lan (by decide), ← State.lane]
      exact hlanes l hl
    · exact (((hxo.mono (by decide)).andThen v1 (by decide)).andThen hp.outside (by decide)).andThen ho (by decide)
  case fault =>
    intro s e cause enters temp hfit hhas htemp
    obtain ⟨v, hv⟩ : ∃ v, v = showEngine (s.setOe e fun x => { x with faults := x.faults ^^^ 2 ^ cause.val }) e := ⟨_, rfl⟩
    have he : exec (.engineFault e cause enters temp) s =
        .next ((v.put (0x050300 + e) 6 (wrap 16 temp)).raise 0x222 e (be 1 cause ++ be 2 (wrap 16 temp))) := by
      rw [hv]
      exact congrArg Host.Outcome.next (if_pos ⟨hfit, hhas, htemp⟩)
    obtain ⟨v1, v2, -, v4, v5⟩ := showEngine_spec s e _ hv
    clear hv
    have ho := ((outside_put v (0x050300 + e) 6 (wrap 16 temp)).mono (by decide : [Part.cat] ⊆ [.cat, .mgmt])).trans
      (outside_raise _ 0x222 e (be 1 cause ++ be 2 (wrap 16 temp)))
    refine ⟨_, he, ?_, ?_, ?_, (v1.mono (by decide)).andThen ho (by decide), ?_⟩
    · rw [num_raise (by decide) _ _ (by decide) (.inl (by omega)), num_put_self]
    · exact (v4.then_put (by decide) (by omega)).raised (by decide) (by decide) (by decide)
    · rw [ho .lan (by decide), v2]
    · exact ((v5.mono (by simp)).then_put (by decide)).then_raise (by decide)
  case failure =>
    intro s l n cause hx hcause hu hok hst hlane
    have hc := laneCode_of_exists hx
    have hn := unitOfLane_lt hc hu
    have hlow : subIdx n < 0x0E1000 := by simp only [subIdx]; omega
    obtain ⟨w, hw⟩ : ∃ w, w = if isOptical l then s.raise 0x221 l (be 1 cause) else s := ⟨_, rfl⟩
    obtain ⟨x, hx'⟩ : ∃ x, x = if cause.val = 3 then w.count (subIdx n) 0x0C 64 8 else w := ⟨_, rfl⟩
    obtain ⟨y, hy⟩ : ∃ y, y = (loseLock x l).setLane l fun x => { x with failed := true } := ⟨_, rfl⟩
    obtain ⟨z, hz⟩ : ∃ z, z = if (y.sub n).restoring then endRestore y n (some stBusy) else y := ⟨_, rfl⟩
    have hre : s.subState n ≠ spReforming := by rcases hst with h | h <;> rw [h] <;> decide
    have he : exec (.laneFailure l cause) s = .next (subFails z n) := by
      refine congrArg Host.Outcome.next ((if_pos hx).trans ?_)
      rw [hz, hy, hx', hw]
      unfold failLane
      rw [if_neg ?_, hu]
      · dsimp only
        rw [if_neg (by simp [hok]; tauto), if_neg (by omega), if_neg hre]
      · rintro ⟨h1, h2⟩
        rcases hcause with h | rfl | rfl <;> simp_all
    have hwo : Outside [.cat, .mgmt] s w := by
      rw [hw]
      exact .ite (outside_raise s _ _ _) (.refl _ _)
    have hwn : ∀ i a, a < 5 → i < 0x0E0000 → w.num i a = s.num i a := fun i a ha hi => by
      rw [hw]
      split
      · exact num_raise (by decide) i a (by omega) (.inl hi)
      · rfl
    have hwe : EventsBut [0x221] s w := by
      rw [hw]
      split
      · exact .of_raise s (by decide)
      · exact .refl _ _
    have hwr : isOptical l = true → Raised s w 0x221 := fun h => by
      rw [hw, if_pos h]
      exact (EventsBut.refl [] s).raised (by decide) (by decide) (by decide)
    have hxo : Outside [.cat] w x := by
      rw [hx']
      exact .ite (outside_count w _ _ _ _) (.refl _ _)
    have hxn : ∀ i a, a < 5 → x.num i a = w.num i a := fun i a ha => by
      rw [hx']
      split
      · exact num_count_of_apart (by decide) (by omega) (.inr (by omega)) (.inr (.inr (.inl (by decide))))
      · rfl
    have hxe : EventsBut [] w x := by
      rw [hx']
      split
      · exact (EventsBut.refl [] w).then_count (by decide) hlow
      · exact .refl _ _
    obtain ⟨q1, q2, q3, q4⟩ := loseLock_keeps x hc
    have hyo : Outside [.lan] (loseLock x l) y := hy ▸ outside_setLane _ _ _
    have hyn : ∀ i a, y.num i a = (loseLock x l).num i a := fun i a => by rw [hy, num_setLane]
    have hyf : ∀ d, (y.lane d).failed = ((s.setLane l fun x => { x with failed := true }).lane d).failed := fun d => by
      have h1 := q2 d
      have h2 : (x.lane d).failed = (s.lane d).failed := by
        rw [State.lane, hxo .lan (by decide), hwo .lan (by decide), ← State.lane]
      rw [hy]
      by_cases hd : l = d
      · rw [← hd, lane_setLane_self, lane_setLane_self]
      · rw [lane_setLane_ne _ _ _ _ hd, lane_setLane_ne _ _ _ _ hd, h1, h2]
    have hzs : PortStep y z := by
      rw [hz]
      split
      · exact endRestore_step _ _ _
      · exact .refl _
    have hzn : ∀ i a, a < 5 → i < 0x074000 → z.num i a = y.num i a := fun i a ha hi => by
      rw [hz]
      split
      · exact (endRestore_keeps y n _).1 i a (by omega) hi
      · rfl
    have hzl : ∀ d, z.lane d = y.lane d := fun d => by
      rw [hz]
      split
      · rw [State.lane, (endRestore_keeps y n _).2.1, ← State.lane]
      · rfl
    have hze : EventsBut [0x010, 0x482] y z := by
      rw [hz]
      split
      · exact (endRestore_keeps y n _).2.2.1
      · exact .refl _ _
    have hopt : (isOptical l = true → Raised s z 0x221) := fun h =>
      ((((hwr h).then_events hxe (by decide) (by decide) (by decide)).then_events q3 (by decide) (by decide)
        (by decide)).then_events (EventsBut.of_cat (ms := []) (hyo .cat (by decide))) (by decide) (by decide)
        (by decide)).then_events hzs.events (by decide) (by decide) (by decide)
    have hout : Outside [.cat, .mgmt, .lan] s z :=
      ((((hwo.mono (by decide)).andThen hxo (by decide)).andThen q4 (by decide)).andThen hyo (by decide)).trans hzs.outside
    have hnum : ∀ i a, a < 5 → i < 0x074000 → z.num i a = s.num i a := fun i a ha hi => by
      rw [hzn i a ha hi, hyn, q1 i a ha (by omega), hxn i a ha, hwn i a ha (by omega)]
    have hmay : mayReform z n = mayReform (s.setLane l fun x => { x with failed := true }) n :=
      mayReform_congr (fun i a ha hi => by rw [num_setLane, hnum i a ha (by omega)]) (fun d => by rw [hzl, hyf]) hn
    have hzf : (z.lane l).failed = true := by rw [hzl, hyf, lane_setLane_self]
    have hnow : z.now = s.now := hout .now (by decide)
    have hev0 : EventsBut (0x221 :: 0x200 :: []) s y := by
      refine ((hwe.mono (by decide)).trans ((hxe.mono (by decide)).trans (q3.mono (by decide)))).trans (.of_cat (hyo .cat (by decide)))
    have hidx : subIdx n < 0x074000 := by simp only [subIdx]; omega
    have hev : EventsBut [0x221, 0x200, 0x010, 0x482] s z := (hev0.mono (by decide)).trans (hze.mono (by decide))
    clear hw hx' hy hz
    rw [← hmay]
    have hu' := subFails_step z hn
    have hsub : z.subState n = s.subState n := hnum _ _ (by decide) hidx
    refine ⟨_, he, fun h => ?_, fun h => ?_, fun h => ?_, hout.trans hu'.outside⟩
    · rw [subFails, if_pos h]
      have hb : (beginReform z n none).sub n =
          { z.sub n with since := z.now, oldSet := z.subLanes n, agreed := none, restoring := false } :=
        sub_setSub_self z n fun x => { x with since := z.now, oldSet := z.subLanes n, agreed := none, restoring := false }
      rw [hb]
      exact ⟨num_put_self .., hzf, hnow, hnum (subIdx n) 3 (by decide) hidx⟩
    · rw [subFails, if_neg (by simp [h])]
      obtain ⟨r1, r2, -⟩ := goDown_restarts z hn 0 (by rw [hsub]; rcases hst with h | h <;> rw [h] <;> decide)
      exact ⟨r1, Raised.after_events hev r2 (by decide) (by decide) (by decide)⟩
    · exact (hopt h).then_events hu'.events (by decide) (by decide) (by decide)
  case group =>
    intro s i hrun hnot
    obtain ⟨w, hw⟩ : ∃ w, w = s.waitUntil (s.lan.groupsAt + i * 1000000) := ⟨_, rfl⟩
    obtain ⟨v, hv⟩ : ∃ v, v = { w with lan := { w.lan with groupsDone := w.lan.groupsDone ++ [i.val] } } := ⟨_, rfl⟩
    have he : exec (.laneGroupStart i) s = .next (if rawMode i (v.portMode i) then v else startPort v i) := by
      rw [hv, hw]
      exact congrArg Host.Outcome.next (if_pos ⟨hrun, by simp [hnot]⟩)
    have hwo : Outside [.now, .tim] s w := hw ▸ outside_waitUntil s _
    have hnow : w.now = max s.now (s.lan.groupsAt + i * 1000000) := by rw [hw, now_waitUntil_max]
    have hvo : Outside [.lan] w v := by
      rw [hv]
      exact fun p hp => by cases p <;> simp at hp ⊢
    have hvg : v.lan.groupsDone = w.lan.groupsDone ++ [i.val] := by rw [hv]
    clear hv hw
    have hp : PortStep v (if rawMode i (v.portMode i) then v else startPort v i) := by
      split
      · exact .refl v
      · exact startPort_step v i.isLt
    refine ⟨_, he, ?_, ?_, ?_⟩
    · rw [hp.outside .now (by decide), hvo .now (by decide), hnow]
    · rw [hp.groups, hvg, hwo .lan (by decide)]
    · exact ((hwo.mono (by decide)).andThen hvo (by decide)).andThen
        (.ite (.refl _ _) (outside_startPort v i)) (by decide)
  case slow =>
    intro s m speed h
    refine congrArg Host.Outcome.next (if_pos ?_)
    simp [h]
  case mgt =>
    intro s m up speed hup
    obtain ⟨w, hw⟩ : ∃ w,
      w = if up = false ∧ s.num (0x050600 + m) 3 = 1 then s.count (subIdx (176 + m)) 0x0D 32 1 else s := ⟨_, rfl⟩
    obtain ⟨x, hx⟩ : ∃ x, x = (w.put (0x050600 + m) 3 (if up then 1 else 0)).put (0x050600 + m) 4 speed := ⟨_, rfl⟩
    obtain ⟨y, hy⟩ : ∃ y, y = (x.put (subIdx (176 + m)) 1 (if up then spUp else spDown)).put (subIdx (176 + m)) 2
      (if up then speed else 0) := ⟨_, rfl⟩
    have he : exec (.mgtLinkChange m up speed) s = .next (y.raise 0x230 m (be 1 (if up then 1 else 0) ++ be 2 speed)) := by
      refine congrArg Host.Outcome.next ((if_neg ?_).trans ?_)
      · cases up <;> simp_all
      · rw [hy, hx, hw]
        cases up <;> simp
    have hn : 176 + m.val < 178 := by omega
    have hlow : subIdx (176 + m) < 0x0E1000 := by simp only [subIdx]; omega
    have hwo : Outside [.cat] s w := by
      rw [hw]
      exact .ite (outside_count s _ _ _ _) (.refl _ _)
    have hwe : EventsBut [] s w := by
      rw [hw]
      split
      · exact (EventsBut.refl _ s).then_count (by decide) hlow
      · exact .refl _ _
    have hxo : Outside [.cat] w x := hx ▸ (outside_put w _ _ _).trans (outside_put _ _ _ _)
    have hxe : EventsBut [] s x := hx ▸ (hwe.then_put (by decide) (by omega)).then_put (by decide) (by omega)
    have hx3 : x.num (0x050600 + m) 3 = if up then 1 else 0 := by
      rw [hx]
      exact (num_put_of_apart (by decide) (by decide) (.inr (by decide)) (.inr (.inr (.inr (by omega))))).trans (num_put_self ..)
    have hx4 : x.num (0x050600 + m) 4 = speed := by rw [hx, num_put_self]
    clear hw hx
    have hyo : Outside [.cat] x y := hy ▸ (outside_put x _ _ _).trans (outside_put _ _ _ _)
    have hye : EventsBut [] s y := hy ▸ (hxe.then_put (by decide) hlow).then_put (by decide) hlow
    have hyn : ∀ a, a < 256 → y.num (0x050600 + m) a = x.num (0x050600 + m) a := fun a ha => by
      have hne : subIdx (176 + m) ≠ 0x050600 + m := by simp only [subIdx]; omega
      rw [hy, num_subPut _ hn ha (by decide) (.inl hne), num_subPut _ hn ha (by decide) (.inl hne)]
    have hy1 : y.subState (176 + m) = if up then spUp else spDown := by
      rw [hy, State.subState, num_subPut _ hn (by decide) (by decide) (.inr (by decide)), num_put_self]
    clear hy
    refine ⟨_, he, ?_, ?_, ?_, hye.raised (by decide) (by decide) (by decide), ?_⟩
    · rw [num_raise (by decide) _ _ (by decide) (.inl (by omega)), hyn _ (by decide), hx3]
    · rw [num_raise (by decide) _ _ (by decide) (.inl (by omega)), hyn _ (by decide), hx4]
    · rw [State.subState, num_raise (by decide) _ _ (by decide) (.inl (by simp only [subIdx]; omega))]
      exact hy1
    · exact (((hwo.trans hxo).trans hyo).mono (by decide)).andThen (outside_raise y _ _ _) (by decide)
  case retry =>
    intro s sp hst hany
    obtain ⟨w, hw⟩ : ∃ w, w = s.waitUntil ((s.sub sp).retryAt + second) := ⟨_, rfl⟩
    have he : exec (.bringupRetry sp) s = .next (startSub w sp) := by
      rw [hw]
      exact congrArg Host.Outcome.next (if_pos ⟨hst, hany⟩)
    have hwo : Outside [.now, .tim] s w := hw ▸ outside_waitUntil s _
    have hnow : w.now = max s.now ((s.sub sp).retryAt + second) := by rw [hw, now_waitUntil_max]
    have hwn : ∀ i a, w.num i a = s.num i a := fun i a => by rw [hw, num_waitUntil]
    clear hw
    have hmask : w.fullMask sp = s.fullMask sp := by simp only [State.fullMask, State.subWidth, State.portMode, hwn]
    have hrun : ∀ c, w.laneMayRun c = s.laneMayRun c := fun c => laneMayRun_congr (hwo .pwr (by decide)) (hwo .unit (by decide))
      (by rw [hwo .lan (by decide)])
    have hp := startSub_step w sp.isLt
    obtain ⟨-, q2, q3⟩ := startSub_spec w sp.isLt
    have hws : w.subState sp = spBringup := (hwn _ _).trans hst
    refine ⟨_, he, (hp.outside .now (by decide)).trans hnow, ?_, fun c hc => ?_, ?_⟩
    · rw [hws] at q2
      exact q2.elim id id
    · rw [q3 c (by rw [hmask]; exact hc), hrun]
    · exact (hwo.mono (by decide)).andThen (outside_startSub w sp) (by decide)

end Sys2Proof.Machine
end

section
/-! Re-forming, shadow lanes and restoring (R289 to R293; obligation O40). -/

namespace Sys2Proof.Machine

variable {s t u : State} {i a c k n : Nat}

/-- What a write without a time of execution answers, whatever status its rule gives: the rule's own state, with the answer. -/
theorem submit_atOnce_spec {r : Req} {key : Nat} {v : Val} {rule : Rule} {d : Done} (hw : AtOnce s r key v rule)
    (h : rule.apply s false (carried r) v = d) :
    (submit s r key v rule).cap.answer = { status := d.status, detail := d.detail } ∧
      (∀ i a, a < 256 → (submit s r key v rule).num i a = d.s.num i a) ∧ Outside [.cap, .upd] d.s (submit s r key v rule) := by
  subst h
  have ho := ((applyWrite_outside (s := s) (r := carried r) (key := key) (v := v) (rule := rule) false).mono
    (by decide : [Part.upd] ⊆ [.cap, .upd])).andThen (reply_outside _ (applyWrite s false (carried r) key v rule).status
      (applyWrite s false (carried r) key v rule).detail) (by decide)
  rw [submit_atOnce hw]
  refine ⟨?_, fun i a ha => num_congr_of_cat (ho .cat (by decide)) (ho .unit (by decide)) (ho .pwr (by decide))
    (ho .cfg (by decide)) i a ha, ho⟩
  rw [applyWrite_status, applyWrite_detail]
  rfl

theorem rateOn_congr (hn : ∀ k, k < 31 → t.portMode k = s.portMode k) (h : n < 178) (m : Nat) :
    t.rateOn n m = s.rateOn n m := by
  rw [State.rateOn, State.rateOn, hn _ (portOfUnit_lt h)]

theorem fullMask_congr (hn : ∀ k, k < 31 → t.portMode k = s.portMode k) (h : n < 178) : t.fullMask n = s.fullMask n := by
  simp only [State.fullMask, State.subWidth, hn _ (portOfUnit_lt h)]

theorem portIdx_low (hk : k < 31) : portIdx k < 0x050800 := by
  unfold portIdx
  split <;> omega

theorem Raised.after_cat (h : Raised t u n) (hc : t.cat = s.cat) (hn : n < 4096) : Raised s u n := by
  rw [Raised, h, num_event_of_cat hn hc]

theorem outside_draw (s : State) : Outside [.fresh] s s.draw := fun p hp => by
  cases p <;> simp at hp ⊢

theorem laneBringupKind_of_num (hn : ∀ i a, t.num i a = s.num i a) (hu : t.unit = s.unit) :
    laneBringupKind t c = laneBringupKind s c := by
  have hs : supports t c = supports s c := funext fun r => by
    simp only [supports, State.laneRaw, State.portMode, hn, hu]
  have hr : t.laneRaw c = s.laneRaw c := by rw [State.laneRaw, State.laneRaw, State.portMode, State.portMode, hn]
  have ht : targetRung t c = targetRung s c := by
    unfold targetRung
    rw [hr, hs, hn, State.portMode, State.portMode, hn]
  rw [laneBringupKind, laneBringupKind, hr, ht, State.bringup, State.bringup, hn]

theorem startRung_ne (c : Nat) : startRung c ≠ 255 := by
  unfold startRung
  split
  · decide
  · split <;> decide

/-- The entries of a sub-port once a lane is ready in shadow (R293). -/
def State.readyShown (s : State) (c n : Nat) : State :=
  if (s.num (portIdx (portOf c).1) 6 ||| s.subLanes n) &&& s.fullMask n = s.fullMask n ∧ !s.flag (subIdx n) 5 then
    (s.put (subIdx n) 5 1).raise 0x213 n
      (be 1 (s.num (portIdx (portOf c).1) 6 &&& s.fullMask n))
  else s

theorem shadowReady_eq (hu : s.unitOfLane c = some n) (hst : s.subState n = spNarrow)
    (hmask : s.subLanes n / 2 ^ (portOf c).2 % 2 = 0) (hsh : (s.lane c).shadow = true) (hl : (s.lane c).state = laneLocked) :
    shadowReady s c = (((s.waitUntil ((s.lane c).shadowAt + second)).setLane c fun x =>
      { x with failed := false, shadow := false }).setBits (portIdx (portOf c).1) 6 (2 ^ (portOf c).2)).readyShown c n := by
  unfold shadowReady
  rw [hu]
  dsimp only
  rw [if_neg (by simp [hst, hmask, hsh, hl])]
  rfl

/-- A sub-port on fewer lanes (R290). -/
theorem goNarrow_spec (s : State) (hn : n < 178) (old set dur : Nat) :
    (goNarrow s n old set dur).subState n = spNarrow ∧ (goNarrow s n old set dur).subLanes n = set ∧
      (goNarrow s n old set dur).num (subIdx n) 2 = s.rateOn n set ∧ ((goNarrow s n old set dur).sub n).agreed = none ∧
      Raised s (goNarrow s n old set dur) 0x212 := by
  have hlow : subIdx n < 0x0E0000 := by simp only [subIdx]; omega
  obtain ⟨v, hv⟩ : ∃ v, v = ((s.put (subIdx n) 1 spNarrow).put (subIdx n) 2 (s.rateOn n set)).put (subIdx n) 3 set := ⟨_, rfl⟩
  obtain ⟨w, hw⟩ : ∃ w, w = (v.count (subIdx n) 0x0E 32 1).setSub n fun x => { x with agreed := none } := ⟨_, rfl⟩
  have he : goNarrow s n old set dur = w.raise 0x212 n (be 1 old ++ be 1 set ++ be 4 dur) := by
    rw [hw, hv]
    rfl
  have hve : EventsBut [] s v := by
    rw [hv]
    exact (((EventsBut.refl _ s).then_put (by decide) (by omega)).then_put (by decide) (by omega)).then_put (by decide) (by omega)
  have hv1 : v.num (subIdx n) 1 = spNarrow := by
    rw [hv, num_subPut _ hn (by decide) (by decide) (.inr (by decide)),
      num_subPut _ hn (by decide) (by decide) (.inr (by decide)),
      num_put_self]
  have hv2 : v.num (subIdx n) 2 = s.rateOn n set := by
    rw [hv, num_subPut _ hn (by decide) (by decide) (.inr (by decide)), num_put_self]
  have hv3 : v.num (subIdx n) 3 = set := by rw [hv, num_put_self]
  clear hv
  have hwn : ∀ a, a < 5 → w.num (subIdx n) a = v.num (subIdx n) a := fun a ha => by
    rw [hw, num_setSub, State.count, num_subPut _ hn (by omega) (by decide) (.inr (by omega))]
  have hwa : (w.sub n).agreed = none := by rw [hw, sub_setSub_self]
  have hwe : EventsBut [] v w := hw ▸ ((EventsBut.refl _ v).then_count (by decide) (by omega)).then_setSub
  clear hw
  have hraise : ∀ a, a < 256 → (w.raise 0x212 n (be 1 old ++ be 1 set ++ be 4 dur)).num (subIdx n) a = w.num (subIdx n) a :=
    fun a ha => num_raise (by decide) _ _ ha (.inl hlow)
  rw [he]
  refine ⟨?_, ?_, ?_, ?_, (hve.trans hwe).raised (by decide) (by decide) (by decide)⟩
  · exact (hraise 1 (by decide)).trans ((hwn 1 (by decide)).trans hv1)
  · exact (hraise 3 (by decide)).trans ((hwn 3 (by decide)).trans hv3)
  · exact (hraise 2 (by decide)).trans ((hwn 2 (by decide)).trans hv2)
  · rw [State.sub, (outside_raise w _ _ _) .lan (by decide), ← State.sub]
    exact hwa

/-- Settles O40: each end of a re-form or restore runs through `goNarrow_spec`, `goDown_restarts` and `endRestore_keeps`, and a
retry in shadow through `startLane_state`. -/
theorem subPortsReformAndRestore : Obligations.SubPortsReformAndRestore := by
  unfold Obligations.SubPortsReformAndRestore
  refine ⟨?reform, ?partner, ?retry, ?ready, ?restore, ?complete, ?timeout⟩
  case reform =>
    intro s sp dur m hagreed hst hdur
    have hlow : subIdx sp < 0x0E0000 := by simp only [subIdx]; omega
    obtain ⟨w, hw⟩ : ∃ w, w = s.waitUntil ((s.sub sp).since + dur) := ⟨_, rfl⟩
    have hwo : Outside [.now, .tim] s w := hw ▸ outside_waitUntil s _
    have hnow : w.now = max s.now ((s.sub sp).since + dur) := by rw [hw, now_waitUntil_max]
    have hwn : ∀ i a, w.num i a = s.num i a := fun i a => by rw [hw, num_waitUntil]
    have hset : newSet w sp m = newSet s sp m := by
      have hwidth : w.subWidth sp = s.subWidth sp := by rw [State.subWidth, State.subWidth, State.portMode, State.portMode, hwn]
      rw [newSet, newSet, hwidth]
    have hrate : ∀ x, w.rateOn sp x = s.rateOn sp x := fun x => rateOn_congr (fun k _ => hwn _ _) sp.isLt x
    have he : exec (.reformComplete sp dur) s = .next (match newSet s sp m with
        | none => startSub (goDown w sp 0) sp
        | some set =>
          let v := (w.count (subIdx sp) 8 64 (w.freeValue 16)).draw
          let x := goNarrow v sp (v.sub sp).oldSet set dur
          if (maskLanes sp set).any fun c => (x.lane c).failed then subFails x sp else x) := by
      refine congrArg Host.Outcome.next ?_
      unfold completeReform
      rw [hagreed]
      dsimp only
      rw [if_neg (by simp [hst]; omega), ← hw, hset] <;>
        (cases newSet s sp m <;> rfl)
    have hws : w.subState sp = spReforming := (hwn _ _).trans hst
    clear hw
    cases hns : newSet s sp m with
    | none =>
      rw [hns] at he
      obtain ⟨r1, r2, -⟩ := goDown_restarts w sp.isLt 0 (by rw [hws]; decide)
      have ho := (goDown_step w sp.isLt 0).outside.trans (startSub_step (goDown w sp 0) sp.isLt).outside
      refine ⟨_, he, (ho .now (by decide)).trans hnow, fun _ => ⟨r1, r2.after_cat (hwo .cat (by decide)) (by decide)⟩, nofun,
        ?_⟩
      exact (hwo.mono (by decide)).andThen ho (by decide)
    | some set =>
      rw [hns] at he
      dsimp only at he
      obtain ⟨v, hv⟩ : ∃ v, v = (w.count (subIdx sp) 8 64 (w.freeValue 16)).draw := ⟨_, rfl⟩
      rw [← hv] at he
      have hvo : Outside [.fresh, .cat] w v := by
        rw [hv]
        exact ((outside_count w _ _ _ _).mono (by decide)).andThen (outside_draw (w.count (subIdx sp) 8 64 (w.freeValue 16))) (by decide)
      have hvn : ∀ i a, a < 256 → i < 0x050800 → v.num i a = w.num i a := fun i a ha hi => by
        rw [hv]
        exact num_subPut w sp.isLt ha (by decide) (.inl (by simp only [subIdx]; omega))
      have hve : EventsBut [] w v := by
        rw [hv]
        exact ((EventsBut.refl _ w).then_count (by decide) (by omega)).trans (.of_cat rfl)
      clear hv
      obtain ⟨p1, p2⟩ := goNarrow_quiet (c := 0) v sp.isLt (v.sub sp).oldSet set dur
      obtain ⟨q1, q2, q3, q4, q5⟩ := goNarrow_spec v sp.isLt (v.sub sp).oldSet set dur
      generalize goNarrow v sp (v.sub sp).oldSet set dur = x at *
      have hxo : Outside [.now, .fresh, .cat, .mgmt, .tim, .lan] s x :=
        ((hwo.mono (by decide)).andThen hvo (by decide)).andThen p1.outside (by decide)
      have hlane : ∀ c, x.lane c = s.lane c := fun c => by
        rw [State.lane, p2, hvo .lan (by decide), hwo .lan (by decide), ← State.lane]
      have hxnow : x.now = max s.now ((s.sub sp).since + dur) := by rw [p1.outside .now (by decide), hvo .now (by decide), hnow]
      have hs := subFails_step x sp.isLt
      refine ⟨_, he, ?_, nofun, fun y hy hall => ?_, ?_⟩
      · split
        · rw [hs.outside .now (by decide), hxnow]
        · exact hxnow
      · obtain rfl := Option.some.inj hy
        rw [if_neg ?_]
        · refine ⟨q1, q2, ?_, q4, Raised.after_cat (Raised.after_events hve q5 (by decide) (by decide) (by decide))
            (hwo .cat (by decide)) (by decide)⟩
          rw [q3, ← hrate]
          exact rateOn_congr (fun k hk => hvn _ _ (by decide) (portIdx_low hk)) sp.isLt _
        · simp only [hlane, List.any_eq_true, not_exists, not_and, Bool.not_eq_true]
          exact hall
      · split
        · exact hxo.andThen hs.outside (by decide)
        · exact hxo
  case partner =>
    intro s sp hst hnone
    obtain ⟨w, hw⟩ : ∃ w, w = s.waitUntil ((s.sub sp).since + 10000) := ⟨_, rfl⟩
    have he : exec (.reformPartnerTimeout sp) s = .next (startSub (goDown w sp 1) sp) := by
      rw [hw]
      exact congrArg Host.Outcome.next (if_pos ⟨hst, hnone⟩)
    have hwo : Outside [.now, .tim] s w := hw ▸ outside_waitUntil s _
    have hnow : w.now = max s.now ((s.sub sp).since + 10000) := by rw [hw, now_waitUntil_max]
    have hwn : ∀ i a, w.num i a = s.num i a := fun i a => by rw [hw, num_waitUntil]
    clear hw
    have hws : w.subState sp = spReforming := (hwn _ _).trans hst
    obtain ⟨r1, r2, r3⟩ := goDown_restarts w sp.isLt 1 (by rw [hws]; decide)
    have ho := (goDown_step w sp.isLt 1).outside.trans (startSub_step (goDown w sp 1) sp.isLt).outside
    rw [hwn] at r3
    exact ⟨_, he, (ho .now (by decide)).trans hnow, r1, r2.after_cat (hwo .cat (by decide)) (by decide), r3,
      (hwo.mono (by decide)).andThen ho (by decide)⟩
  case retry =>
    intro s l n hx hu hst hmask hready
    obtain ⟨w, hw⟩ : ∃ w, w = if (s.lane l).shadow then s.waitUntil ((s.lane l).stepAt + second) else s := ⟨_, rfl⟩
    obtain ⟨v, hv⟩ : ∃ v, v = startLane w l := ⟨_, rfl⟩
    have he : exec (.shadowLaneRetry l) s = .next (v.setLane l fun y =>
        { y with
          shadow := true
          failed := (s.lane l).failed
          stepAt := v.now
          rung := if (s.lane l).rung = 255 ∨ y.rung = 255 then y.rung else (s.lane l).rung }) := by
      rw [hv, hw]
      refine congrArg Host.Outcome.next ((if_pos hx).trans ?_)
      unfold shadowRetry
      rw [hu]
      exact if_neg (by simp [hst, hmask, hready])
    have hwo : Outside [.now, .tim] s w := by
      rw [hw]
      exact .ite (outside_waitUntil s _) (.refl _ _)
    have hwn : ∀ i a, w.num i a = s.num i a := fun i a => by
      rw [hw]
      split
      · rw [num_waitUntil]
      · rfl
    clear hw
    have hrun : w.laneMayRun l = s.laneMayRun l := laneMayRun_congr (hwo .pwr (by decide)) (hwo .unit (by decide))
      (by rw [hwo .lan (by decide)])
    obtain ⟨q1, q2⟩ := startLane_state w l
    rw [hrun] at q1
    have hr : s.laneMayRun l = true → laneBringupKind s l = 0 → (v.lane l).rung ≠ 255 := fun h hk => by
      have hkind := laneBringupKind_of_num (c := l) hwn (hwo .unit (by decide))
      rw [hv, startLane, if_neg (by simp [hrun, h]), lane_setLane_self]
      simp only [hkind, hk]
      exact startRung_ne l
    rw [← hv] at q1 q2
    clear hv
    refine ⟨_, he, ?_, ?_, ?_, fun h hk h255 => ?_, ?_⟩
    · rw [lane_setLane_self]
    · rw [lane_setLane_self]
    · rw [lane_setLane_self]
      exact q1
    · rw [lane_setLane_self]
      exact if_neg (not_or.mpr ⟨h255, hr h hk⟩)
    · exact ((hwo.mono (by decide)).andThen q2 (by decide)).andThen (outside_setLane _ _ _) (by decide)
  case ready =>
    intro s l n hx hu hst hmask hsh hlocked
    have hc := laneCode_of_exists hx
    have hn := unitOfLane_lt hc hu
    have hplain := plain_portIdx hc hu
    obtain ⟨w, hw⟩ : ∃ w, w = s.waitUntil ((s.lane l).shadowAt + second) := ⟨_, rfl⟩
    obtain ⟨v, hv⟩ : ∃ v, v = w.setLane l fun x => { x with failed := false, shadow := false } := ⟨_, rfl⟩
    obtain ⟨x, hx'⟩ : ∃ x, x = v.setBits (portIdx (portOf l).1) 6 (2 ^ (portOf l).2) := ⟨_, rfl⟩
    have he : exec (.laneShadowReady l) s = .next (x.readyShown l n) := by
      rw [hx', hv, hw]
      exact congrArg Host.Outcome.next ((if_pos hx).trans (shadowReady_eq hu hst hmask hsh hlocked))
    have hwo : Outside [.now, .tim] s w := hw ▸ outside_waitUntil s _
    have hnow : w.now = max s.now ((s.lane l).shadowAt + second) := by rw [hw, now_waitUntil_max]
    have hwn : ∀ i a, w.num i a = s.num i a := fun i a => by rw [hw, num_waitUntil]
    clear hw
    have hvo : Outside [.lan] w v := hv ▸ outside_setLane w l _
    have hvl : v.lane l = { s.lane l with failed := false, shadow := false } := by
      rw [hv, lane_setLane_self, State.lane, hwo .lan (by decide), ← State.lane]
    have hvn : ∀ i a, v.num i a = w.num i a := fun i a => by rw [hv, num_setLane]
    clear hv
    have hxo : Outside [.cat] v x := hx' ▸ outside_put v _ _ _
    have hx6 : x.num (portIdx (portOf l).1) 6 = s.num (portIdx (portOf l).1) 6 ||| 2 ^ (portOf l).2 := by
      rw [hx', State.setBits, num_put_self, hvn, hwn]
    clear hx'
    have hso : Outside [.cat, .mgmt] x (x.readyShown l n) := by
      unfold State.readyShown
      exact .ite (((outside_put x _ _ _).mono (by decide)).trans (outside_raise _ _ _ _)) (.refl _ _)
    have hs6 : (x.readyShown l n).num (portIdx (portOf l).1) 6 = x.num (portIdx (portOf l).1) 6 := by
      have hlow : portIdx (portOf l).1 < 0x0E0000 := by
        have hm : ¬(l = 0x300 ∨ l = 0x301) := fun hm => by simp [State.unitOfLane, hm] at hu
        have := portOf_lt hc hm
        unfold portIdx
        split <;> omega
      unfold State.readyShown
      split
      · rw [num_raise (by decide) _ _ (by decide) (.inl hlow), num_subPut x hn (by decide) (by decide) (.inr (by decide))]
      · rfl
    refine ⟨_, he, ?_, ?_, hs6.trans hx6, ?_⟩
    · rw [hso .now (by decide), hxo .now (by decide), hvo .now (by decide), hnow]
    · rw [State.lane, hso .lan (by decide), hxo .lan (by decide), ← State.lane, hvl]
    · exact (((hwo.mono (by decide)).andThen hvo (by decide)).andThen hxo (by decide)).andThen hso (by decide)
  case restore =>
    intro s r sp v hw
    have hex : exec (.restore r sp v) s = .next (submit s r (ent (subIdx sp) 4) (.num v) (restoreRule sp)) := rfl
    by_cases h0 : v = 0
    · have ha : (restoreRule sp).apply s false (carried r) (.num v) = { s := s } := if_pos h0
      obtain ⟨q1, -, q3⟩ := submit_atOnce_spec hw ha
      exact ⟨_, hex, fun _ => ⟨q1, q3 .lan (by decide)⟩, fun h => absurd h0 h, q3.mono (by decide)⟩
    · by_cases hb : !s.flag (subIdx sp) 5 ∨ s.subState sp ≠ spNarrow ∨ (s.sub sp).restoring
      · have ha : (restoreRule sp).apply s false (carried r) (.num v) = { s := s, status := stBusy } :=
          (if_neg h0).trans (if_pos hb)
        obtain ⟨-, -, q3⟩ := submit_atOnce_spec hw ha
        refine ⟨_, hex, fun h => absurd h h0, fun _ h1 h2 h3 => ?_, q3.mono (by decide)⟩
        simp [h1, h2, h3] at hb
      · have ha : (restoreRule sp).apply s false (carried r) (.num v) = { s := s.setSub sp fun x =>
            { x with restoring := true, since := s.now, agreed := none, cmd := none } } := (if_neg h0).trans (if_neg hb)
        obtain ⟨q1, -, q3⟩ := submit_atOnce_spec hw ha
        refine ⟨_, hex, fun h => absurd h h0, fun _ _ _ _ => ⟨q1, ?_⟩, ?_⟩
        · rw [State.sub, q3 .lan (by decide), ← State.sub, sub_setSub_self]
          exact ⟨rfl, rfl, rfl⟩
        · exact ((outside_setSub s sp _).mono (by decide)).andThen q3 (by decide)
  case complete =>
    intro s sp hres hagreed
    have hlow : subIdx sp < 0x074000 := by simp only [subIdx]; omega
    obtain ⟨w, hw⟩ : ∃ w, w = clearShadow s sp := ⟨_, rfl⟩
    obtain ⟨v, hv⟩ : ∃ v, v = (maskLanes sp (s.fullMask sp)).foldl
      (fun s c => s.setLane c fun x => { x with shadow := false, failed := false }) w := ⟨_, rfl⟩
    obtain ⟨y, hy⟩ : ∃ y, y = ((v.put (subIdx sp) 1 spUp).put (subIdx sp) 2
      (v.rateOn sp (s.fullMask sp))).put (subIdx sp) 3 (s.fullMask sp) := ⟨_, rfl⟩
    obtain ⟨z, hz⟩ : ∃ z, z = y.raise 0x214 sp (be 1 (s.fullMask sp) ++ be 8 y.rulingPick) := ⟨_, rfl⟩
    have he : exec (.restoreComplete sp) s = .next (endRestore z sp (some stOk)) := by
      rw [hz, hy, hv, hw]
      exact congrArg Host.Outcome.next (if_neg (by simp [hres, hagreed]))
    have hws : PortStep s w := hw ▸ clearShadow_step s sp.isLt
    have hwe : EventsBut [] s w := hw ▸ clearShadow_events s sp.isLt
    have hvs : PortStep w v := by
      rw [hv]
      exact .foldl (fun t c _ => .of_setLane t c _) w
    have hvo : Outside [.lan] w v := by
      rw [hv]
      exact .foldl _ _ _ fun t c => outside_setLane t c _
    have hvf : ∀ c ∈ maskLanes sp (s.fullMask sp), (v.lane c).failed = false := by
      rw [hv]
      refine foldl_establishes (P := fun c t => (t.lane c).failed = false) (fun t c _ => ?_) (fun t x _ d _ hx => ?_) w
      · rw [lane_setLane_self]
      · by_cases h : d = x
        · rw [h, lane_setLane_self]
        · rw [lane_setLane_ne _ _ _ _ h, hx]
    have hrate : v.rateOn sp (s.fullMask sp) = s.rateOn sp (s.fullMask sp) :=
      rateOn_congr (fun k hk => (hws.trans hvs).entries _ _ (by decide) (portIdx_low hk) (by decide)) sp.isLt _
    rw [hrate] at hy
    clear hw hv
    have hyo : Outside [.cat] v y := hy ▸ ((outside_put v _ _ _).trans (outside_put _ _ _ _)).trans (outside_put _ _ _ _)
    have hye : EventsBut [] v y := hy ▸ (((EventsBut.refl _ v).then_put (by decide) (by omega)).then_put (by decide)
      (by omega)).then_put (by decide) (by omega)
    have hy1 : y.num (subIdx sp) 1 = spUp := by
      rw [hy, num_subPut _ sp.isLt (by decide) (by decide) (.inr (by decide)),
        num_subPut _ sp.isLt (by decide) (by decide) (.inr (by decide)), num_put_self]
    have hy2 : y.num (subIdx sp) 2 = s.rateOn sp (s.fullMask sp) := by
      rw [hy, num_subPut _ sp.isLt (by decide) (by decide) (.inr (by decide)), num_put_self]
    have hy3 : y.num (subIdx sp) 3 = s.fullMask sp := by rw [hy, num_put_self]
    clear hy
    have hzo : Outside [.cat, .mgmt] y z := hz ▸ outside_raise y _ _ _
    have hzn : ∀ a, a < 256 → z.num (subIdx sp) a = y.num (subIdx sp) a := fun a ha => by
      rw [hz, num_raise (by decide) _ _ ha (.inl (by omega))]
    have hzr : Raised s z 0x214 := by
      rw [hz]
      exact ((hwe.trans (.of_cat (hvo .cat (by decide)))).trans hye).raised (by decide) (by decide) (by decide)
    clear hz
    obtain ⟨q1, q2, q3, q4⟩ := endRestore_keeps z sp (some stOk)
    have ho := (endRestore_step z sp (some stOk)).outside
    refine ⟨_, he, ?_, ?_, ?_, by rw [q4], fun c hc => ?_, hzr.then_events q3 (by decide) (by decide) (by decide), ?_⟩
    · exact (q1 _ _ (by decide) hlow).trans ((hzn 1 (by decide)).trans hy1)
    · exact (q1 _ _ (by decide) hlow).trans ((hzn 3 (by decide)).trans hy3)
    · exact (q1 _ _ (by decide) hlow).trans ((hzn 2 (by decide)).trans hy2)
    · rw [State.lane, q2, hzo .lan (by decide), hyo .lan (by decide), ← State.lane]
      exact hvf c hc
    · exact ((((hws.trans hvs).outside).andThen hyo (by decide)).andThen hzo (by decide)).trans ho
  case timeout =>
    intro s sp hres hnone
    obtain ⟨w, hw⟩ : ∃ w, w = s.waitUntil ((s.sub sp).since + 10000) := ⟨_, rfl⟩
    have he : exec (.restorePartnerTimeout sp) s = .next (endRestore w sp (some stBusy)) := by
      rw [hw]
      exact congrArg Host.Outcome.next (if_pos ⟨hres, hnone⟩)
    have hwo : Outside [.now, .tim] s w := hw ▸ outside_waitUntil s _
    have hnow : w.now = max s.now ((s.sub sp).since + 10000) := by rw [hw, now_waitUntil_max]
    have hwn : ∀ i a, w.num i a = s.num i a := fun i a => by rw [hw, num_waitUntil]
    clear hw
    obtain ⟨q1, -, -, q4⟩ := endRestore_keeps w sp (some stBusy)
    have ho := (endRestore_step w sp (some stBusy)).outside
    refine ⟨_, he, (ho .now (by decide)).trans hnow, by rw [q4], ?_, (hwo.mono (by decide)).andThen ho (by decide)⟩
    exact (q1 _ _ (by decide) (by simp only [subIdx]; omega)).trans (hwn _ _)

end Sys2Proof.Machine
end

section
/-! From frame to flow (R313 to R334; obligation O41). -/

namespace Sys2Proof.Machine

variable {s t u : State} {i a k n e : Nat}

/-! ### Entries that judging a frame keeps -/

/-- The entries before those of flows, and the frame counts of the engines. -/
def Kept (i a : Nat) : Prop := a < 256 ∧ (i < 0x060000 ∨ 0x070100 ≤ i ∧ i ≤ 0x070107 ∧ a = 6)

theorem num_put_kept {j b x : Nat} (s : State) (hk : Kept i a) (hb : b < 256) (hj : 0x060000 ≤ j)
    (h : j < 0x070100 ∨ 0x070107 < j ∨ b ≠ 6) : (s.put j b x).num i a = s.num i a := by
  obtain ⟨ha, hi⟩ := hk
  refine num_put_of_apart hb ha (by omega) ?_
  by_cases hij : j = i
  · exact .inr (.inr (.inr (by omega)))
  · exact .inl hij

theorem num_count_kept {j b w x : Nat} (s : State) (hk : Kept i a) (hb : b < 256) (hj : 0x060000 ≤ j)
    (h : j < 0x070100 ∨ 0x070107 < j ∨ b ≠ 6) : (s.count j b w x).num i a = s.num i a := num_put_kept s hk hb hj h

theorem Kept.lt (hk : Kept i a) : a < 256 := hk.1

theorem Kept.low (hk : Kept i a) : i < 0x0E0000 := by
  have := hk.2
  omega

theorem num_raise_kept {m unit : Nat} {b : List Byte} (s : State) (hk : Kept i a) (hm : m < 4096) :
    (s.raise m unit b).num i a = s.num i a := num_raise hm i a hk.lt (.inl hk.low)

theorem num_raiseAtMost_kept {m unit c : Nat} {f : Nat → List Byte} (s : State) (hk : Kept i a) (hm : m < 4096) :
    (s.raiseAtMost c m unit f).num i a = s.num i a := num_raiseAtMost hm i a hk.lt (.inl hk.low)

theorem num_of_outside (h : Outside [.noc, .mem, .rx, .tx, .tim, .mgmt, .lan] s t) (ha : a < 256) : t.num i a = s.num i a :=
  num_congr_of_cat (h .cat (by decide)) (h .unit (by decide)) (h .pwr (by decide)) (h .cfg (by decide)) i a ha

section
variable (hk : Kept i a)
include hk

theorem num_quietTx_kept (s : State) (n : Nat) : (quietTx s n).num i a = s.num i a := by
  unfold quietTx putTxState
  extract_lets x
  split
  · exact num_put_kept s hk (by decide) (by simp only [txIdx]; omega) (.inr (.inr (by decide)))
  · rfl

theorem num_rxChanged_kept (s : State) (n : Nat) : (rxChanged s n).num i a = s.num i a :=
  foldl_keeps (·.num i a) (fun s x _ => by split; exacts [num_quietTx_kept hk .., rfl]) s

theorem num_putRxState_kept (s : State) (n st : Nat) : (putRxState s n st).num i a = s.num i a := by
  unfold putRxState
  rw [num_rxChanged_kept hk]
  exact num_put_kept s hk (by decide) (by simp only [rxIdx]; omega) (.inr (.inr (by decide)))

theorem num_sendEnd_kept (s : State) (n c : Nat) : (sendEnd s n c).num i a = s.num i a := by
  unfold sendEnd
  dsimp only
  split
  · unfold sendWords
    dsimp only
    split
    · rfl
    · rw [num_raiseAtMost_kept _ hk (by decide)]
      exact num_count_kept s hk (by decide) (by simp only [essIdx]; omega) (.inr (.inr (by decide)))
  · rfl

theorem num_dropBuffer_kept (s : State) (n : Nat) : (dropBuffer s n).num i a = s.num i a := by
  unfold dropBuffer
  extract_lets e ahead w
  refine (num_setRx ..).trans ?_
  simp only [w]
  split
  · rfl
  · exact num_put_kept _ hk (by decide) (by simp only [engIdx]; omega) (.inr (.inr (by decide)))

theorem num_noteSkew_kept (s : State) (n : Nat) (b : Bool) (q : Nat) : (noteSkew s n b q).num i a = s.num i a := by
  unfold noteSkew
  dsimp only
  split
  · exact num_setRx ..
  · exact (num_put_kept _ hk (by decide) (by simp only [rxIdx]; omega) (.inr (.inr (by decide)))).trans (num_setRx ..)

theorem num_bufferPacket_kept (s : State) (n : Nat) (p : RxPkt) : (bufferPacket s n p).num i a = s.num i a := by
  have hj : 0x060000 ≤ rxIdx n := by simp only [rxIdx]; omega
  unfold bufferPacket
  dsimp only
  refine (num_put_kept _ hk (by decide) hj (.inr (.inr (by decide)))).trans ((num_setRx ..).trans ?_)
  split
  · exact (num_count_kept _ hk (by decide) hj (.inr (.inr (by decide)))).trans
      (num_count_kept s hk (by decide) hj (.inr (.inr (by decide))))
  · exact num_count_kept s hk (by decide) hj (.inr (.inr (by decide)))

theorem num_anchor_kept (s : State) (n : Nat) (p : RxPkt) : (anchor s n p).num i a = s.num i a := by
  unfold anchor
  dsimp only
  rw [num_putRxState_kept hk, num_bufferPacket_kept hk]
  exact (num_put_kept _ hk (by decide) (by simp only [rxIdx]; omega) (.inr (.inr (by decide)))).trans (num_setRx ..)

theorem num_refuseOutside_kept (s : State) (n : Nat) (p : RxPkt) (q : Nat) : (refuseOutside s n p q).num i a = s.num i a := by
  have hj : 0x060000 ≤ rxIdx n := by simp only [rxIdx]; omega
  unfold refuseOutside
  dsimp only
  split
  · exact (num_setRx ..).trans (num_count_kept s hk (by decide) hj (.inr (.inr (by decide))))
  · rw [num_raise_kept _ hk (by decide)]
    refine (num_count_kept _ hk (by decide) hj (.inr (.inr (by decide)))).trans ?_
    rw [num_anchor_kept hk, num_sendEnd_kept hk, num_dropBuffer_kept hk]
    exact num_count_kept s hk (by decide) hj (.inr (.inr (by decide)))

theorem num_mergePacket_kept (s : State) (n : Nat) (p : RxPkt) (q : Nat) : (mergePacket s n p q).num i a = s.num i a := by
  have hj : 0x060000 ≤ rxIdx n := by simp only [rxIdx]; omega
  have hcount : ∀ (b : Nat) (f : RxFlow → RxFlow),
    b < 256 → b ≠ 6 → ((s.setRx n f).count (rxIdx n) b 64 1).num i a = s.num i a :=
    fun b f hb h6 => (num_count_kept _ hk hb hj (.inr (.inr h6))).trans (num_setRx ..)
  unfold mergePacket
  dsimp only
  split
  · exact hcount _ _ (by decide) (by decide)
  · split
    · exact hcount _ _ (by decide) (by decide)
    · split
      · exact num_refuseOutside_kept hk ..
      · split
        · exact hcount _ _ (by decide) (by decide)
        · split
          · rw [num_raiseAtMost_kept _ hk (by decide)]
            exact (num_count_kept _ hk (by decide) (by simp only [engIdx]; omega) (.inr (.inr (by decide)))).trans (num_setRx ..)
          · exact num_bufferPacket_kept hk ..

theorem num_acceptPacket_kept (s : State) (n : Nat) (b : Bool) (r : Rtp) : (acceptPacket s n b r).num i a = s.num i a := by
  have hj : 0x060000 ≤ rxIdx n := by simp only [rxIdx]; omega
  unfold acceptPacket
  extract_lets idx tb tm s1 s2 x video start fresh seq p s3
  have h3 : s3.num i a = s.num i a := by
    have h1 : s1.num i a = s.num i a := num_count_kept s hk (by split <;> decide) hj (.inr (.inr (by split <;> decide)))
    have h2 : s2.num i a = s.num i a := (num_setRx ..).trans h1
    simp only [s3]
    split
    · exact (num_noteSkew_kept hk ..).trans h2
    · exact h2
  split
  · exact num_count_kept s hk (by decide) hj (.inr (.inr (by decide)))
  · split
    · exact (num_anchor_kept hk ..).trans h3
    · exact (num_mergePacket_kept hk ..).trans h3

theorem num_engineWrite_kept (s : State) (e x : Nat) (b : List Byte) (last : Bool) :
    (engineWrite s e x b last).num i a = s.num i a := by
  unfold engineWrite
  dsimp only
  split
  · refine foldl_keeps (·.num i a) (fun s p _ => ?_) s
    have hc : (s.count (0x0A0200 + e / 2) (4 + 0) 64 1).num i a = s.num i a :=
      num_count_kept s hk (by decide) (by omega) (.inr (.inr (by decide)))
    unfold archiveWrite
    dsimp only
    split
    · exact hc
    · split
      · rfl
      · exact hc
  · refine foldl_keeps (·.num i a) (fun s p _ => num_of_outside (fun p hp => ?_) hk.lt) s
    cases p <;> simp at hp ⊢

theorem num_takeException_kept (s : State) (e v : Nat) (b : List Byte) : (takeException s e v b).num i a = s.num i a := by
  have hj : 0x060000 ≤ engIdx e := by simp only [engIdx]; omega
  have h1 : (s.count (engIdx e) 8 64 1).num i a = s.num i a := num_count_kept s hk (by decide) hj (.inr (.inr (by decide)))
  unfold takeException
  dsimp only
  split
  · exact h1
  · refine (num_count_kept _ hk (by decide) hj (.inr (.inr (by decide)))).trans ?_
    rw [num_engineWrite_kept hk]
    exact h1

theorem num_classify_kept (s : State) (e v : Nat) (frame : List Byte) (vlan : Nat) (dst : List Byte) (port : Nat)
    (body : List Byte) : (classify s e v frame vlan dst port body).num i a = s.num i a := by
  have hcount : ∀ l : List (Nat × RxFlow), (l.foldl (fun s x => s.count (rxIdx x.1) 0x2F 64 1) s).num i a = s.num i a :=
    fun l => foldl_keeps (·.num i a) (fun s x _ => num_count_kept s hk (by decide) (by simp only [rxIdx]; omega)
      (.inr (.inr (by decide)))) s
  unfold classify
  dsimp only
  split
  · exact num_takeException_kept hk ..
  · split
    · exact hcount _
    · split
      · exact hcount _
      · exact num_acceptPacket_kept hk ..

theorem num_judgePanic_kept (s : State) (e : Nat) : (judgePanic s e).num i a = s.num i a := by
  have hj : 0x060000 ≤ engIdx e := by simp only [engIdx]; omega
  unfold judgePanic
  dsimp only
  split
  · rw [num_raise_kept _ hk (by decide)]
    exact (num_count_kept _ hk (by decide) hj (.inr (.inr (by decide)))).trans
      (num_put_kept s hk (by decide) hj (.inr (.inr (by decide))))
  · split
    · rw [num_raise_kept _ hk (by decide)]
      exact num_put_kept s hk (by decide) hj (.inr (.inr (by decide)))
    · rfl

end

/-! ### Timestamps (R263) -/

theorem tsPort_lt (n : Fin 178) : (tsPort n).1 < 32 := by
  simp only [tsPort, portOfUnit]
  split <;> [split; skip] <;> dsimp only <;> omega

theorem num_of_outside_tim (h : Outside [.tim] s t) (ha : a < 256) : t.num i a = s.num i a :=
  num_of_outside (h.mono (by decide)) ha

/-- An event raised at most so often, where a condition holds, leaves all but the events. -/
theorem raiseAtMost_if {c : Prop} [Decidable c] {n m unit : Nat} {f : Nat → List Byte} (hm : m < 4096)
    (hu : u = if c then s.raiseAtMost n m unit f else s) :
    (∀ i a, a < 256 → i < 0x0E0000 → u.num i a = s.num i a) ∧ Outside [.cat, .mgmt] s u ∧ EntriesOutside eventRanges s u := by
  subst hu
  split
  · exact ⟨fun i a ha hi => num_raiseAtMost hm i a ha (.inl hi), outside_raiseAtMost _ _ _ _ _,
      entriesOutside_raiseAtMost _ _ _ _ _ hm⟩
  · exact ⟨fun _ _ _ _ => rfl, .refl _ _, .refl _ _⟩

/-- The time subsystem with a record taken into the ring of a port. -/
def State.stampTimes (s : State) (k : Nat) (r : List Byte) : Times :=
  { s.tim with
    rings := tput s.tim.rings k
      { recs := tput (s.ring k).recs ((s.ring k).count % 2 ^ 16 % 256) r
        count := (s.ring k).count + 1 } }

/-- What taking a record into the ring of a port changes. -/
theorem storeStamp_spec (s : State) {k : Nat} (hk : k < 32) (r : List Byte) :
    (storeStamp s k r).num (tsIdx k) 0x1C = (s.ring k).count % 2 ^ 16 ∧ (storeStamp s k r).tim = s.stampTimes k r ∧
      (256 ≤ (s.ring k).count → (storeStamp s k r).num (tsIdx k) 0x1D = (s.num (tsIdx k) 0x1D + 1) % 2 ^ 32) ∧
      Outside [.cat, .mgmt, .tim] s (storeStamp s k r) ∧
      EntriesOutside ((tsIdx k, tsIdx k) :: eventRanges) s (storeStamp s k r) := by
  have hlow : tsIdx k < 0x0E0000 := by simp only [tsIdx]; omega
  obtain ⟨w, hw⟩ : ∃ w, w = { s with tim := s.stampTimes k r } := ⟨_, rfl⟩
  have hwt : w.tim = s.stampTimes k r := by rw [hw]
  have hwo : Outside [.tim] s w := by
    rw [hw]
    exact fun p hp => by cases p <;> simp at hp ⊢
  have hwn : w.num (tsIdx k) 0x1D = s.num (tsIdx k) 0x1D := num_of_outside_tim hwo (by decide)
  obtain ⟨x, hx⟩ : ∃ x, x = w.put (tsIdx k) 0x1C ((s.ring k).count % 2 ^ 16) := ⟨_, rfl⟩
  obtain ⟨y, hy⟩ : ∃ y, y = if 256 ≤ (s.ring k).count then x.count (tsIdx k) 0x1D 32 1 else x := ⟨_, rfl⟩
  have hu : storeStamp s k r = if 256 ≤ (s.ring k).count then y.raiseAtMost 1 0x106 k (fun n => be 4 n) else y := by
    rw [hy, hx, hw]
    unfold storeStamp
    dsimp only
    split
    · rfl
    · rfl
  clear hw
  have hx1 : x.num (tsIdx k) 0x1C = (s.ring k).count % 2 ^ 16 := by rw [hx, num_put_self]
  have hx2 : x.num (tsIdx k) 0x1D = w.num (tsIdx k) 0x1D := by
    rw [hx]
    exact num_put_of_apart (by decide) (by decide) (.inr (by decide)) (.inr (.inr (.inl (by decide))))
  have hxo : Outside [.cat] w x := hx ▸ outside_put w _ _ _
  have hxe : EntriesOutside ((tsIdx k, tsIdx k) :: eventRanges) s x := by
    rw [hx]
    exact (EntriesOutside.of_cat (hwo .cat (by decide))).then_put (by decide)
  clear hx
  have hy1 : y.num (tsIdx k) 0x1C = x.num (tsIdx k) 0x1C := by
    rw [hy]
    split
    · exact num_put_of_apart (by decide) (by decide) (.inr (by decide)) (.inr (.inr (.inl (by decide))))
    · rfl
  have hyo : Outside [.cat] x y := by
    rw [hy]
    exact .ite (outside_count _ _ _ _ _) (.refl _ _)
  have hye : EntriesOutside ((tsIdx k, tsIdx k) :: eventRanges) s y := by
    rw [hy]
    split
    · exact hxe.then_count (by decide)
    · exact hxe
  obtain ⟨q1, q2, q3⟩ := raiseAtMost_if (by decide) hu
  refine ⟨?_, ?_, fun h => ?_, ((hwo.mono (by decide)).andThen (hxo.trans hyo) (by decide)).andThen q2 (by decide),
    hye.trans (q3.mono (List.subset_cons_self ..))⟩
  · rw [q1 _ _ (by decide) hlow, hy1, hx1]
  · rw [q2 .tim (by decide), hyo .tim (by decide), hxo .tim (by decide), hwt]
  · rw [q1 _ _ (by decide) hlow, hy, if_pos h, State.count, num_put_self, hx2, hwn]

/-- A frame stamped and counted at its sub-port (R263, R313). -/
def State.counted (s : State) (n : Nat) (b : List Byte) : State :=
  ((stampFrame s n false b).count (subIdx n) 6 64 1).count (subIdx n) 7 64 (b.length + 4)

/-- The records that stamping and counting a frame may write. -/
def countedRanges (n : Nat) : List (Nat × Nat) := (subIdx n, subIdx n) :: (0x030300, 0x03031F) :: eventRanges

theorem EntriesOutside.head_widen {rs : List (Nat × Nat)} {j l h : Nat} (he : EntriesOutside ((j, j) :: rs) s t)
    (hj : l ≤ j ∧ j ≤ h) : EntriesOutside ((l, h) :: rs) s t := fun key hk => he key fun r hr => by
  rcases List.mem_cons.mp hr with rfl | hr
  · have := hk (l, h) (.head _)
    dsimp only at this ⊢
    omega
  · exact hk r (.tail _ hr)

theorem stampFrame_spec (s : State) (n : Fin 178) (b : List Byte) :
    Outside [.cat, .mgmt, .tim] s (stampFrame s n false b) ∧
      EntriesOutside ((0x030300, 0x03031F) :: eventRanges) s (stampFrame s n false b) ∧
      (ptpEvent b = none → (stampFrame s n false b).tim = s.tim) ∧ (stampFrame s n false b).tim.tb = s.tim.tb := by
  unfold stampFrame
  split
  · next p cls hp hc =>
    dsimp only
    obtain ⟨-, q2, -, q4, q5⟩ := storeStamp_spec s (tsPort_lt n)
      (timestampRecord s n ((s.ring (tsPort n).1).count % 2 ^ 16) false b p cls)
    refine ⟨q4, q5.head_widen ⟨?_, ?_⟩, fun h => absurd (h.symm.trans hp) nofun, (congrArg Times.tb q2).trans rfl⟩
    · simp only [tsIdx]; omega
    · have := tsPort_lt n
      simp only [tsIdx]
      omega
  · exact ⟨.refl _ _, .refl _ _, fun _ => rfl, rfl⟩

/-- What stamping and counting a frame changes. -/
theorem counted_spec (s : State) (n : Fin 178) (b : List Byte) :
    Outside [.cat, .mgmt, .tim] s (s.counted n b) ∧ EntriesOutside (countedRanges n) s (s.counted n b) ∧
      (ptpEvent b = none → (s.counted n b).tim = s.tim) ∧ (s.counted n b).tim.tb = s.tim.tb ∧
      (s.counted n b).num (subIdx n) 6 = (s.num (subIdx n) 6 + 1) % 2 ^ 64 ∧
      (s.counted n b).num (subIdx n) 7 = (s.num (subIdx n) 7 + (b.length + 4)) % 2 ^ 64 := by
  obtain ⟨q1, q2, q3, q4⟩ := stampFrame_spec s n b
  have hn : ∀ a, a < 256 → (stampFrame s n false b).num (subIdx n) a = s.num (subIdx n) a := fun a ha =>
    num_outside q2 (q1 .unit (by decide)) (q1 .pwr (by decide)) (q1 .cfg (by decide)) _ _ ha (by
      simp only [subIdx, eventRanges, List.forall_mem_cons, List.not_mem_nil, false_imp_iff, implies_true, and_true]
      omega)
  unfold State.counted
  generalize stampFrame s n false b = v at *
  refine ⟨q1.andThen ((outside_count v _ _ _ _).trans (outside_count _ _ _ _ _)) (by decide), ?_, q3, q4, ?_, ?_⟩
  · refine EntriesOutside.then_count (EntriesOutside.then_count ?_ (by decide)) (by decide)
    exact q2.mono (List.subset_cons_self ..)
  · rw [State.count, num_subPut _ n.isLt (by decide) (by decide) (.inr (by decide)), State.count, num_put_self,
    hn _ (by decide)]
  · rw [State.count, num_put_self, State.count, num_subPut _ n.isLt (by decide) (by decide) (.inr (by decide)),
    hn _ (by decide)]

/-! ### Management ports (R346) -/

/-- The entries that an answer on a management port is made of. -/
theorem mgtAnswer_congr
    (h : ∀ i a, a < 256 → (i = 0x010002 ∨ i = 0x010003 ∨ 0x050600 ≤ i ∧ i ≤ 0x050601) → t.oct i a = s.oct i a)
    {m : Nat} (hm : m < 2) (b : List Byte) : mgtAnswer t m b = mgtAnswer s m b := by
  have h1 : mgtMac t m = mgtMac s m := h _ _ (by decide) (by omega)
  have h2 : mgtIp4 t m = mgtIp4 s m := h _ _ (by omega) (by omega)
  have h3 : linkLocal t m = linkLocal s m := by simp only [linkLocal, h1]
  have h4 : mgtIp6 t m = mgtIp6 s m := by rw [mgtIp6, mgtIp6, h3, h _ _ (by omega) (by omega)]
  have h5 : ∀ g, g < 16 → groupAddress t g = groupAddress s g := fun g hg => by
    rw [groupAddress, groupAddress, h _ _ (by omega) (by omega)]
  have h6 : ∀ d, mgtAccepts t m d = mgtAccepts s m d := fun d => by
    have hg : ((List.range 16).any fun g => (groupAddress t g).any fun a => groupMac a == d) =
        (List.range 16).any fun g => (groupAddress s g).any fun a => groupMac a == d := by
      rw [Bool.eq_iff_iff, List.any_eq_true, List.any_eq_true]
      exact exists_congr fun g => and_congr_right fun hg => by rw [h5 g (List.mem_range.mp hg)]
    rw [mgtAccepts, mgtAccepts, h1, h4, hg]
  have h7 : arpAnswer t m b = arpAnswer s m b := by simp only [arpAnswer, h1, h2]
  have h8 : echo4Answer t m b = echo4Answer s m b := by simp only [echo4Answer, h1, h2]
  have h9 : icmp6Answer t m b = icmp6Answer s m b := by simp only [icmp6Answer, frame6, h1, h4]
  rw [mgtAnswer, mgtAnswer, h6, h7, h8, h9]

/-! ### Classification (R316 to R321) -/

theorem rxKeys_congr (hn : ∀ a, a < 256 → t.num (rxIdx n) a = s.num (rxIdx n) a)
    (ho : ∀ a, a < 256 → t.oct (rxIdx n) a = s.oct (rxIdx n) a) : rxKeys t n = rxKeys s n := by
  have hk : legKey t n = legKey s n := funext fun b => by
    cases b <;> simp [legKey, hn, ho]
  rw [rxKeys, rxKeys, rxLegs, rxLegs, hn 5 (by decide), hk]

theorem rxIdx_ne_txIdx (m n : Nat) : txIdx m ≠ rxIdx n := by
  simp only [txIdx, rxIdx]
  omega

theorem plain_rxIdx (hn : n < 32768) : PlainIndex (rxIdx n) := by
  unfold PlainIndex rxIdx
  omega

theorem num_rxChanged_rx (s : State) (m : Nat) (ha : a < 256) : (rxChanged s m).num (rxIdx n) a = s.num (rxIdx n) a := by
  refine foldl_keeps (·.num (rxIdx n) a) (fun s x _ => ?_) s
  split
  · unfold quietTx putTxState
    extract_lets y
    split
    · exact num_put_of_apart (by decide) ha (.inl (rxIdx_ne_txIdx _ _)) (.inl (rxIdx_ne_txIdx _ _))
    · rfl
  · rfl

theorem num_putRxState (s : State) (hn : n < 32768) (st : Nat) (ha : a < 256) (h2 : a ≠ 2) :
    (putRxState s n st).num (rxIdx n) a = s.num (rxIdx n) a := by
  unfold putRxState
  rw [num_rxChanged_rx _ _ ha]
  exact num_put_of_apart (by decide) ha (.inr (Ne.symm h2)) (.inr (.inr (.inr (plain_rxIdx hn))))

theorem rxState_putRxState (s : State) (n st : Nat) : rxState (putRxState s n st) n = st := by
  unfold putRxState rxState
  rw [num_rxChanged_rx _ _ (by decide), num_put_self]

theorem num_rxPut (s : State) {x b : Nat} (hn : n < 32768) (ha : a < 256) (hb : b < 256) (h : b ≠ a) :
    (s.put (rxIdx n) b x).num (rxIdx n) a = s.num (rxIdx n) a :=
  num_put_of_apart hb ha (.inr h) (.inr (.inr (.inr (plain_rxIdx hn))))

/-- The first packet of a stream anchors it: the flow fills, and the packet is counted as taken (R321). -/
theorem anchor_spec (s : State) (hn : n < 32768) (p : RxPkt) : rxState (anchor s n p) n = rxFilling ∧
    (anchor s n p).num (rxIdx n) 0x29 = (s.num (rxIdx n) 0x29 + 1) % 2 ^ 64 := by
  refine ⟨rxState_putRxState .., ?_⟩
  unfold anchor
  rw [num_putRxState _ hn _ (by decide) (by decide)]
  unfold bufferPacket
  dsimp only
  rw [num_rxPut _ hn (by decide) (by decide) (by decide), num_setRx]
  have h1 : ∀ w : State, (w.count (rxIdx n) 0x29 64 1).num (rxIdx n) 0x29 = (w.num (rxIdx n) 0x29 + 1) % 2 ^ 64 := fun w =>
    num_put_self ..
  have h2 : ((s.setRx n fun x => { x with next := p.seq, relLow := p.seq, missed := [], refusedRun := 0 }).put
      (rxIdx n) 0x33 p.seq).num (rxIdx n) 0x29 = s.num (rxIdx n) 0x29 := by
    rw [num_rxPut _ hn (by decide) (by decide) (by decide), num_setRx]
  split
  · rw [State.count, num_rxPut _ hn (by decide) (by decide) (by decide), h1, h2]
  · rw [h1, h2]

theorem num_noteSkew_rx (s : State) (hn : n < 32768) (b : Bool) (q : Nat) (ha : a < 256) (h : a ≠ 0x24) :
    (noteSkew s n b q).num (rxIdx n) a = s.num (rxIdx n) a := by
  unfold noteSkew
  dsimp only
  split
  · exact num_setRx ..
  · rw [num_rxPut _ hn ha (by decide) (Ne.symm h), num_setRx]

/-- A packet of an armed flow that waits for its first one (R321). -/
theorem acceptPacket_first (s : State) (hn : n < 32768) (b : Bool) (r : Rtp) (harm : (rxTb s n).armed = true)
    (hst : rxState s n = rxWaiting ∨ rxState s n = rxStarved) : rxState (acceptPacket s n b r) n = rxFilling ∧
    (acceptPacket s n b r).num (rxIdx n) 0x29 = (s.num (rxIdx n) 0x29 + 1) % 2 ^ 64 := by
  unfold acceptPacket
  extract_lets idx tb tm s1 s2 x video start fresh seq p s3
  have hside : ∀ a, a < 256 → a ≠ 0x24 → a ≠ 0x27 → a ≠ 0x28 → s3.num (rxIdx n) a = s.num (rxIdx n) a := fun a ha h1 h2 h3 => by
    have e1 : s1.num (rxIdx n) a = s.num (rxIdx n) a :=
      num_rxPut s hn ha (by split <;> decide) (by split <;> omega)
    have e2 : s2.num (rxIdx n) a = s.num (rxIdx n) a := (num_setRx ..).trans e1
    simp only [s3]
    split
    · exact (num_noteSkew_rx _ hn _ _ ha h1).trans e2
    · exact e2
  have hfresh : fresh := by
    have e1 : s2.num (rxIdx n) 2 = s.num (rxIdx n) 2 :=
      (num_setRx ..).trans (num_rxPut s hn (by decide) (by split <;> decide) (by split <;> decide))
    simp only [fresh, rxState, e1]
    exact hst
  rw [if_neg (by simp only [tb, harm]; decide), if_pos hfresh]
  obtain ⟨q1, q2⟩ := anchor_spec s3 hn p
  exact ⟨q1, by rw [q2, hside _ (by decide) (by decide) (by decide) (by decide)]⟩

theorem num_judgePanic_other (s : State) (he : e < 8) (ha : a < 256) (hi : i < 0x0E0000)
    (h : engIdx e ≠ i ∨ a ≠ 0x0E ∧ a ≠ 0x0F) :
    (judgePanic s e).num i a = s.num i a := by
  have hp : PlainIndex (engIdx e) := by
    unfold PlainIndex engIdx
    omega
  have hput : ∀ (w : State) (b x : Nat), b = 0x0E ∨ b = 0x0F → (w.put (engIdx e) b x).num i a = w.num i a := fun w b x hb =>
    num_put_of_apart (by omega) ha (by omega) (.inr (.inr (.inr hp)))
  unfold judgePanic
  dsimp only
  split
  · rw [num_raise (by decide) i a ha (.inl hi)]
    exact (hput _ _ _ (.inr rfl)).trans (hput _ _ _ (.inl rfl))
  · split
    · rw [num_raise (by decide) i a ha (.inl hi)]
      exact hput _ _ _ (.inl rfl)
    · rfl

/-- What a frame of a serving engine comes to, before the engine's panic is judged (R317). -/
def State.judged (s : State) (e n : Nat) (b : List Byte) : State :=
  match judgeFrame b with
  | .exception => takeException s e n b
  | .headerError => s.count (engIdx e) 7 64 1
  | .udp vlan dst port body => classify s e n b vlan dst port body

/-- A frame that passed its FCS, once it is counted. -/
def State.placed (s : State) (n : Nat) (b : List Byte) : State :=
  if 176 ≤ n then mgtFrame s (n - 176) b
  else if 7 < s.boundTo n ∨ !s.serving (s.boundTo n) then s.count (bindIdx n) 2 64 1
  else judgePanic ((s.count (engIdx (s.boundTo n)) 6 64 1).judged (s.boundTo n) n b) (s.boundTo n)

theorem takeFrame_placed (hp : subPasses s n = true) (hr : s.lanesRun = true ∨ 176 ≤ n) (b : List Byte) :
    takeFrame s n b = (s.counted n b).placed n b := by
  unfold takeFrame State.placed State.judged State.counted
  rw [if_neg (by rcases hr with h | h <;> simp [hp, h])] <;> rfl

theorem outside_judged (s : State) (e n : Nat) (b : List Byte) : Outside [.cat, .mgmt, .rx, .noc, .mem] s (s.judged e n b) := by
  unfold State.judged
  split
  · exact fun p hp => by cases p <;> simp at hp ⊢
  · exact (outside_count _ _ _ _ _).mono (by decide)
  · exact fun p hp => by cases p <;> simp at hp ⊢

theorem num_judged_kept (s : State) (hk : Kept i a) (e n : Nat) (b : List Byte) : (s.judged e n b).num i a = s.num i a := by
  unfold State.judged
  split
  · exact num_takeException_kept hk ..
  · exact num_count_kept s hk (by decide) (by simp only [engIdx]; omega) (.inr (.inr (by decide)))
  · exact num_classify_kept hk ..

theorem outside_judgePanic (s : State) (e : Nat) : Outside [.cat, .mgmt] s (judgePanic s e) := fun p hp => by
  cases p <;> simp at hp ⊢

theorem outside_mgtFrame (s : State) (m : Nat) (b : List Byte) : Outside [.cat, .tx] s (mgtFrame s m b) := fun p hp => by
  cases p <;> simp at hp ⊢

/-- What a management port does with a frame (R346). -/
theorem mgtFrame_spec (s : State) {m : Nat} (hm : m < 2) (b : List Byte) :
    (mgtFrame s m b).tx = (match mgtAnswer s m b with
      | some f => { s.tx with sent := s.tx.sent ++ [{ unit := 176 + m, bytes := f }] }
      | none => s.tx) ∧
    ∀ a, a < 9 → (mgtFrame s m b).num (subIdx (176 + m)) a = s.num (subIdx (176 + m)) a := by
  unfold mgtFrame
  cases h : mgtAnswer s m b with
  | none => exact ⟨rfl, fun _ _ => rfl⟩
  | some f =>
    refine ⟨rfl, fun a ha => ?_⟩
    have hn : 176 + m < 178 := by omega
    refine (num_subPut _ hn (by omega) (by decide) (.inr (by omega))).trans
      ((num_subPut _ hn (by omega) (by decide) (.inr (by omega))).trans ?_)
    exact num_of_outside (fun p hp => by cases p <;> simp at hp ⊢) (by omega)

/-- The entries read by what judges a frame stand outside the records that counting it writes. -/
theorem counted_reads (s : State) (n : Fin 178) (b : List Byte) (ha : a < 256)
    (hi : i < 0x030300 ∨ 0x03031F < i ∧ i < 0x050800 ∨ 0x0508FF < i ∧ i < 0x0E0000) :
    (s.counted n b).num i a = s.num i a ∧ (s.counted n b).oct i a = s.oct i a := by
  obtain ⟨q1, q2, -⟩ := counted_spec s n b
  have hr : ∀ r ∈ countedRanges n, ¬(r.1 ≤ i ∧ i ≤ r.2) := by
    simp only [countedRanges, subIdx, eventRanges, List.forall_mem_cons, List.not_mem_nil, false_imp_iff, implies_true,
      and_true]
    omega
  exact ⟨num_outside q2 (q1 .unit (by decide)) (q1 .pwr (by decide)) (q1 .cfg (by decide)) _ _ ha hr,
    oct_outside q2 (q1 .unit (by decide)) (q1 .pwr (by decide)) (q1 .cfg (by decide)) _ _ ha hr⟩

theorem find?_congr' {α : Type} {l : List α} {p q : α → Bool} (h : ∀ x ∈ l, p x = q x) : l.find? p = l.find? q := by
  induction l with
  | nil => rfl
  | cons x xs ih =>
    rw [List.find?_cons, List.find?_cons, h x (.head _), ih fun y hy => h y (.tail _ hy)]

/-! ### Flows enabled and disabled (R314) -/

theorem flowRule_enable {idx : Nat} {ok : Nat → Val → Bool} {ch : State → Option Nat} {en dis : State → State} {r : Req}
    (h : s.flag idx 1 = false) :
    (flowRule idx 1 ok ch en dis).apply s false r (.num 1) = { s := en (s.write (ent idx 1) (.num 1)) } := by
  simp [flowRule, flowChanges, writeFields, valNum, h]

theorem flowRule_disable {idx : Nat} {ok : Nat → Val → Bool} {ch : State → Option Nat} {en dis : State → State} {r : Req}
    (h : s.flag idx 1 = true) : (flowRule idx 1 ok ch en dis).apply s false r (.num 0) = { s := dis s } := by
  simp [flowRule, flowChanges, writeFields, valNum, h]

/-- The receive state of a flow that starts at cycle `n`. -/
def startedFlow (n : Nat) : RxFlow := { legA := { gapAt := n }, legB := { gapAt := n } }

theorem tget_tdel_self {α : Type} (l : Tbl α) (k : Nat) : tget (tdel l k) k = none :=
  tget_eq_none fun _ hx => by simpa using (List.mem_filter.mp hx).2

/-- What a flow that starts shows: WAITING, and its counters from zero (R314). -/
theorem enableRx_spec (s : State) (hn : n < 32768) : (enableRx n s).num (rxIdx n) 1 = s.num (rxIdx n) 1 ∧
    rxState (enableRx n s) n = rxWaiting ∧ (tget (enableRx n s).rx.flows n).isSome = true ∧
    (∀ i, 0x27 ≤ i → i ≤ 0x33 → (enableRx n s).num (rxIdx n) i = 0) ∧ Outside [.cat, .rx] s (enableRx n s) := by
  obtain ⟨v, hv⟩ : ∃ v, v = (List.range 18).foldl (fun s i =>
    s.put (rxIdx n) (0x22 + i) (if i = 3 ∨ i = 4 then 0x7FFFFFFF else 0)) s := ⟨_, rfl⟩
  obtain ⟨w, hw⟩ : ∃ w : State, w = { v with rx := { v.rx with flows := tput v.rx.flows n (startedFlow v.now) } } := ⟨_, rfl⟩
  have he : enableRx n s = putRxState w n rxWaiting := by
    rw [hw, hv]
    rfl
  have hv1 : v.num (rxIdx n) 1 = s.num (rxIdx n) 1 := by
    rw [hv]
    exact foldl_keeps (·.num (rxIdx n) 1) (fun t i hi => num_rxPut t hn (by decide)
      (by have := List.mem_range.mp hi; omega) (by omega)) s
  have hvz : ∀ i ∈ List.range 18, v.num (rxIdx n) (0x22 + i) = if i = 3 ∨ i = 4 then 0x7FFFFFFF else 0 := by
    rw [hv]
    refine foldl_establishes (P := fun i t => t.num (rxIdx n) (0x22 + i) = if i = 3 ∨ i = 4 then 0x7FFFFFFF else 0)
      (fun t i _ => num_put_self ..) (fun t i hi j hj h => ?_) s
    have := List.mem_range.mp hi
    have := List.mem_range.mp hj
    by_cases hij : j = i
    · rw [hij, num_put_self]
    · rw [num_rxPut t hn (by omega) (by omega) (by omega), h]
  have hwn : ∀ i a, a < 256 → w.num i a = v.num i a := fun i a ha => by
    rw [hw]
    exact num_of_outside (fun p hp => by cases p <;> simp at hp ⊢) ha
  have hwf : (tget w.rx.flows n).isSome = true := by
    rw [hw]
    simp
  clear hv hw
  rw [he]
  have hrx : (putRxState w n rxWaiting).rx = w.rx := by simp
  refine ⟨?_, rxState_putRxState .., by rw [hrx]; exact hwf, fun i h1 h2 => ?_, he ▸ fun p hp => ?_⟩
  · rw [num_putRxState _ hn _ (by decide) (by decide), hwn _ _ (by decide), hv1]
  · rw [num_putRxState _ hn _ (by omega) (by omega), hwn _ _ (by omega)]
    have := hvz (i - 0x22) (List.mem_range.mpr (by omega))
    rw [if_neg (by omega)] at this
    rw [← this]
    congr 1
    omega
  · cases p <;> simp at hp ⊢

/-- What a flow that stops shows (R314). -/
theorem stopRx_spec (s : State) (hn : n < 32768) : (stopRx s n).num (rxIdx n) 1 = 0 ∧ rxState (stopRx s n) n = rxDisabled ∧
    (tget (stopRx s n).rx.flows n).isSome = false := by
  obtain ⟨v, hv⟩ : ∃ v, v = dropBuffer (sendEnd s n 0) n := ⟨_, rfl⟩
  obtain ⟨w, hw⟩ : ∃ w, w = ({ v with rx := { v.rx with flows := tdel v.rx.flows n } } : State).write (ent (rxIdx n) 1) (.num 0) :=
    ⟨_, rfl⟩
  have he : stopRx s n = putRxState w n rxDisabled := by
    rw [hw, hv]
    rfl
  have hwn : w.num (rxIdx n) 1 = 0 := by rw [hw, num_write_self]
  have hwr : w.rx = { v.rx with flows := tdel v.rx.flows n } := by rw [hw, (outside_write _ _ _) .rx (by decide)]
  have hrx : (putRxState w n rxDisabled).rx = w.rx := by simp
  rw [he]
  refine ⟨?_, rxState_putRxState .., ?_⟩
  · rw [num_putRxState _ hn _ (by decide) (by decide), hwn]
  · rw [hrx, hwr]
    exact congrArg Option.isSome (tget_tdel_self v.rx.flows n)

/-- Settles O41: a frame that passed its FCS is stamped and counted (`State.counted`), which no entry that judges it reads, and
then placed (`State.placed`), which keeps the counts just made (`Kept`). -/
theorem framesReachTheirFlows : Obligations.FramesReachTheirFlows := by
  unfold Obligations.FramesReachTheirFlows
  refine ⟨?binding, ?closed, ?bad, ?good, ?enable, ?disable⟩
  case binding =>
    intro s r sp v hw
    refine does_write rfl hw rfl fun u hu => ⟨hu.ok, ?_, ?_⟩
    · exact (hu.num ..).trans (num_write_self ..)
    · exact ((outside_write s _ _).mono (by decide)).andThen hu.outside (by decide)
  case closed =>
    intro s sp ok b h
    have hc : (!subPasses s sp) = true ∨ (!(s.lanesRun || decide (176 ≤ sp.val))) = true := by
      rcases h with h | ⟨h1, h2⟩
      · exact .inl (by simp [h])
      · exact .inr (by simp [h1]; omega)
    refine congrArg Host.Outcome.next ?_
    cases ok
    · exact if_pos hc
    · exact if_pos hc
  case bad =>
    intro s sp b hp hr
    have he : exec (.rxFrame sp false b) s = .next (s.count (subIdx sp) 8 64 1) :=
      congrArg Host.Outcome.next ((if_neg nofun).trans (if_neg (by rcases hr with h | h <;> simp [hp, h])))
    exact ⟨_, he, num_put_self .., outside_count _ _ _ _ _, (EntriesOutside.refl _ s).then_count (by decide)⟩
  case good =>
    intro s sp b hp hr
    have he : exec (.rxFrame sp true b) s = .next ((s.counted sp b).placed sp b) :=
      congrArg Host.Outcome.next ((if_pos rfl).trans (takeFrame_placed hp hr b))
    obtain ⟨c1, c2, c3, c4, c5, c6⟩ := counted_spec s sp b
    have hread := fun (i a : Nat) (ha : a < 256)
      (hi : i < 0x030300 ∨ 0x03031F < i ∧ i < 0x050800 ∨ 0x0508FF < i ∧ i < 0x0E0000) => counted_reads s sp b ha hi
    generalize s.counted sp b = c at *
    have hbound : c.boundTo sp = s.boundTo sp := (hread _ _ (by decide) (by simp only [bindIdx]; omega)).1
    have hkept6 : Kept (subIdx sp) 6 := ⟨by decide, .inl (by simp only [subIdx]; omega)⟩
    have hkept7 : Kept (subIdx sp) 7 := ⟨by decide, .inl (by simp only [subIdx]; omega)⟩
    refine ⟨_, he, ?_⟩
    by_cases hm : 176 ≤ sp.val
    · have hpl : c.placed sp b = mgtFrame c (sp - 176) b := if_pos hm
      have hidx : 176 + (sp.val - 176) = sp := by omega
      obtain ⟨m1, m2⟩ := mgtFrame_spec c (m := sp - 176) (by omega) b
      have ho := outside_mgtFrame c (sp - 176) b
      rw [hidx] at m1 m2
      rw [hpl]
      refine ⟨(c1.mono (by decide)).andThen ho (by decide), fun h => (ho .tim (by decide)).trans (c3 h), fun _ => ⟨?_, ?_⟩, ?_,
        ?_,
        fun h => absurd h (by omega), fun h => absurd h (by omega)⟩
      · rw [ho .rx (by decide), c1 .rx (by decide)]
      · rw [m1, c1 .tx (by decide), mgtAnswer_congr (fun i a ha hi => (hread i a ha (by omega)).2) (by omega)] <;> rfl
      · rw [m2 6 (by decide), c5]
      · rw [m2 7 (by decide), c6]
    · have hserv : s.boundTo sp ≤ 7 → c.serving (s.boundTo sp) = s.serving (s.boundTo sp) := fun h => by
        have h1 : c.num (svcIdx (s.boundTo sp)) 1 = s.num (svcIdx (s.boundTo sp)) 1 :=
          (hread _ _ (by decide) (by simp only [svcIdx]; omega)).1
        rw [State.serving, State.serving, State.service, State.service, h1, c1 .tx (by decide), c1 .pwr (by decide)]
      by_cases hs : 7 < s.boundTo sp ∨ s.serving (s.boundTo sp) = false
      · have hpl : c.placed sp b = c.count (bindIdx sp) 2 64 1 := by
          unfold State.placed
          rw [if_neg hm, hbound]
          refine if_pos ?_
          by_cases h7 : 7 < s.boundTo sp
          · exact .inl h7
          · refine .inr ?_
            rw [hserv (by omega), hs.resolve_left h7]
            rfl
        have hne : ∀ a, a < 256 → (c.count (bindIdx sp) 2 64 1).num (subIdx sp) a = c.num (subIdx sp) a := fun a ha =>
          num_put_of_apart (by decide) ha (.inl (by simp only [bindIdx, subIdx]; omega)) (.inr (.inl (by decide)))
        rw [hpl]
        refine ⟨(c1.mono (by decide)).andThen (outside_count c _ _ _ _) (by decide), fun h => c3 h, fun h => absurd h hm, ?_,
          ?_,
          fun _ _ => ⟨?_, c1 .rx (by decide)⟩, fun _ h7 hsv => absurd hs (by simp [hsv]; omega)⟩
        · rw [hne _ (by decide), c5]
        · rw [hne _ (by decide), c6]
        · rw [State.count, num_put_self, (hread _ _ (by decide) (by simp only [bindIdx]; omega)).1]
      · obtain ⟨h7, hsv⟩ : s.boundTo sp ≤ 7 ∧ s.serving (s.boundTo sp) = true := by
          rw [not_or] at hs
          exact ⟨by omega, by simpa using hs.2⟩
        obtain ⟨e, hedef⟩ : ∃ e, e = s.boundTo sp := ⟨_, rfl⟩
        rw [← hedef] at h7 hsv hserv hbound ⊢
        obtain ⟨d, hd⟩ : ∃ d, d = c.count (engIdx e) 6 64 1 := ⟨_, rfl⟩
        have hpl : c.placed sp b = judgePanic (d.judged e sp b) e := by
          unfold State.placed
          rw [if_neg hm, hbound, if_neg (not_or.mpr ⟨by omega, by rw [hserv h7, hsv]; decide⟩), hd]
        have hdo : Outside [.cat] c d := hd ▸ outside_count c _ _ _ _
        have hplain : PlainIndex (engIdx e) := by
          unfold PlainIndex engIdx
          omega
        have hdn : ∀ i a, a < 256 → engIdx e ≠ i ∨ a ≠ 6 → d.num i a = c.num i a := fun i a ha h => by
          rw [hd]
          exact num_put_of_apart (by decide) ha (h.imp_right Ne.symm) (.inr (.inr (.inr hplain)))
        have hdoct : ∀ i a, a < 256 → engIdx e ≠ i → d.oct i a = c.oct i a := fun i a ha h => by
          rw [hd]
          exact oct_put_of_apart (by decide) ha (.inl h) (.inl h)
        have hd6 : d.num (engIdx e) 6 = (s.num (engIdx e) 6 + 1) % 2 ^ 64 := by
          rw [hd, State.count, num_put_self, (hread _ _ (by decide) (by simp only [engIdx]; omega)).1]
        clear hd
        have hjo := outside_judged d e sp b
        have hpo := outside_judgePanic (d.judged e sp b) e
        have hpn := fun (i a : Nat) (ha : a < 256) (hi : i < 0x0E0000) (h : engIdx e ≠ i ∨ a ≠ 0x0E ∧ a ≠ 0x0F) =>
          num_judgePanic_other (d.judged e sp b) (by omega : e < 8) ha hi h
        have hkept : ∀ i a,
          Kept i a → i ≠ engIdx e → (judgePanic (d.judged e sp b) e).num i a = c.num i a := fun i a hk hi => by
          rw [num_judgePanic_kept hk, num_judged_kept d hk, hdn _ _ hk.lt (.inl (Ne.symm hi))]
        have hrx : d.rx = s.rx := (hdo .rx (by decide)).trans (c1 .rx (by decide))
        have heng : ∀ a, a < 256 → a ≠ 6 → d.num (engIdx e) a = s.num (engIdx e) a := fun a ha h => by
          rw [hdn _ _ ha (.inr h), (hread _ _ ha (by simp only [engIdx]; omega)).1]
        have hflow : ∀ n, n < 32768 → (∀ a, a < 256 → d.num (rxIdx n) a = s.num (rxIdx n) a) ∧
            ∀ a, a < 256 → d.oct (rxIdx n) a = s.oct (rxIdx n) a := fun n hn => by
          have hne : engIdx e ≠ rxIdx n := by simp only [engIdx, rxIdx]; omega
          have hr : 0x0508FF < rxIdx n ∧ rxIdx n < 0x0E0000 := by simp only [rxIdx]; omega
          exact ⟨fun a ha => (hdn _ _ ha (.inl hne)).trans (hread _ _ ha (.inr (.inr hr))).1,
            fun a ha => (hdoct _ _ ha hne).trans (hread _ _ ha (.inr (.inr hr))).2⟩
        rw [hpl]
        refine ⟨(((c1.mono (by decide)).andThen hdo (by decide)).andThen hjo (by decide)).andThen hpo (by decide), fun h => ?_,
          fun h => absurd h hm, ?_, ?_, fun _ h => absurd (h.resolve_left (by omega)) (by rw [hsv]; decide),
          fun _ _ _ => ⟨?_, fun hj => ?_, fun hj h9 => ?_, ?_⟩⟩
        · rw [hpo .tim (by decide), hjo .tim (by decide), hdo .tim (by decide), c3 h]
        · rw [hkept _ _ hkept6 (by simp only [subIdx, engIdx]; omega), c5]
        · rw [hkept _ _ hkept7 (by simp only [subIdx, engIdx]; omega), c6]
        · have hk : Kept (engIdx e) 6 :=
            ⟨by decide, .inr ⟨by simp only [engIdx]; omega, by simp only [engIdx]; omega, rfl⟩⟩
          rw [num_judgePanic_kept hk, num_judged_kept d hk, hd6]
        · have hjd : d.judged e sp b = d.count (engIdx e) 7 64 1 := by rw [State.judged, hj]
          refine ⟨?_, ?_⟩
          · rw [hpn _ _ (by decide) (by simp only [engIdx]; omega) (.inr (by decide)), hjd, State.count, num_put_self,
              heng _ (by decide) (by decide)]
          · rw [hpo .rx (by decide), hjd, ← hrx]
            rfl
        · have hjd : d.judged e sp b = d.count (engIdx e) 8 64 1 := by
            rw [State.judged, hj]
            refine if_pos (.inl ?_)
            rw [State.count, num_put_of_apart (by decide) (by decide) (.inr (by decide)) (.inr (.inr (.inr hplain))),
              heng _ (by decide) (by decide)]
            exact h9
          refine ⟨?_, ?_⟩
          · rw [hpn _ _ (by decide) (by simp only [engIdx]; omega) (.inr (by decide)), hjd, State.count, num_put_self,
              heng _ (by decide) (by decide)]
          · rw [hpo .rx (by decide), hjd, ← hrx]
            rfl
        · intro vlan dst port body pkt x hj hpkt hx
          have hxe : x.1 / 4096 = e := by
            have := (List.mem_filter.mp (List.mem_of_find?_eq_some hx)).2
            rw [Bool.and_eq_true, beq_iff_eq] at this
            exact this.1
          have hx8 : x.1 < 32768 := by omega
          have hhits : (d.rx.flows.filter fun x => x.1 / 4096 == e && (rxKeys d x.1).contains (sp.val, vlan, dst, port)) =
              s.rx.flows.filter fun x => x.1 / 4096 == e && (rxKeys s x.1).contains (sp.val, vlan, dst, port) := by
            rw [hrx]
            refine List.filter_congr fun y _ => ?_
            by_cases hy : y.1 / 4096 = e
            · obtain ⟨f1, f2⟩ := hflow y.1 (by omega)
              rw [rxKeys_congr f1 f2]
            · have hf : (y.1 / 4096 == e) = false := beq_eq_false_iff_ne.mpr hy
              rw [hf, Bool.false_and, Bool.false_and]
          have hfind : (s.rx.flows.filter fun x => x.1 / 4096 == e && (rxKeys s x.1).contains (sp.val, vlan, dst, port)).find?
              (fun x => rtpMatches d x.1 pkt) = some x := by
            rw [← hx]
            refine find?_congr' fun y hy => ?_
            have hye := (List.mem_filter.mp hy).2
            rw [Bool.and_eq_true, beq_iff_eq] at hye
            obtain ⟨f1, -⟩ := hflow y.1 (by omega)
            simp only [rtpMatches, f1 _ (by decide : 0x0F < 256), f1 _ (by decide : 0x0E < 256), f1 _ (by decide : 0x10 < 256)]
          have hne : (s.rx.flows.filter fun x => x.1 / 4096 == e &&
              (rxKeys s x.1).contains (sp.val, vlan, dst, port)).isEmpty = false := by
            rw [List.isEmpty_eq_false_iff]
            intro h
            rw [h] at hx
            exact absurd hx nofun
          have hjd : d.judged e sp b = acceptPacket d x.1 (legKey d x.1 false != (sp.val, vlan, dst, port)) pkt := by
            rw [State.judged, hj]
            dsimp only
            unfold classify
            dsimp only
            rw [hhits, hne, if_neg nofun, hpkt]
            dsimp only
            rw [hfind]
          generalize (legKey d x.1 false != (sp.val, vlan, dst, port)) = leg at hjd
          obtain ⟨f1, -⟩ := hflow x.1 hx8
          have htb : rxTb d x.1 = rxTb s x.1 := by
            rw [rxTb, rxTb, f1 _ (by decide), State.tb, State.tb, hdo .tim (by decide), c4]
          have hlow : rxIdx x.1 < 0x0E0000 ∧ engIdx e ≠ rxIdx x.1 := by simp only [rxIdx, engIdx]; omega
          rw [hjd] at hpn hpo ⊢
          refine ⟨fun harm => ⟨?_, ?_⟩, fun harm hst => ?_⟩
          · rw [hpn _ _ (by decide) hlow.1 (.inl hlow.2), acceptPacket, if_pos (by rw [htb, harm]; rfl), State.count,
              num_put_self, f1 _ (by decide)]
          · rw [hpo .rx (by decide), acceptPacket, if_pos (by rw [htb, harm]; rfl), ← hrx]
            rfl
          · have hst' : rxState d x.1 = rxWaiting ∨ rxState d x.1 = rxStarved := by
              rw [rxState, f1 _ (by decide)]
              exact hst
            obtain ⟨r1, r2⟩ := acceptPacket_first d hx8 leg pkt (by rw [htb]; exact harm) hst'
            refine ⟨(hpn _ _ (by decide) hlow.1 (.inl hlow.2)).trans r1, ?_⟩
            rw [hpn _ _ (by decide) hlow.1 (.inl hlow.2), r2, f1 _ (by decide)]
  case enable =>
    intro s r e f hw hoff
    obtain ⟨n, hn⟩ : ∃ n, n = e.val * 4096 + f.val := ⟨_, rfl⟩
    rw [← hn] at hw hoff ⊢
    obtain ⟨x, hx⟩ : ∃ x, x = s.write (ent (rxIdx n) 1) (.num 1) := ⟨_, rfl⟩
    have ha : (rxFlowRule n 1).apply s false (carried r) (.num 1) = { s := enableRx n x } := by
      rw [hx]
      exact flowRule_enable hoff
    have hxo : Outside [.cat, .gen] s x := hx ▸ outside_write s _ _
    have hx1 : x.num (rxIdx n) 1 = 1 := by rw [hx, num_write_self]
    clear hx
    have hc : writeOf (.rxFlowEnable r e f) = some (r, ent (rxIdx n) 1, .num 1, rxFlowRule n 1) := by rw [hn]; rfl
    obtain ⟨q1, q2, q3, q4, q5⟩ := enableRx_spec x (by omega : n < 32768)
    refine does_write hc hw ha fun u hu => ⟨hu.ok, ?_, (hu.num ..).trans q2, ?_, fun i h1 h2 => (hu.num ..).trans (q4 i h1 h2),
      ?_⟩
    · rw [hu.num, q1, hx1]
    · rw [rxOn, hu.outside .rx (by decide)]
      exact q3
    · exact ((hxo.mono (by decide)).andThen q5 (by decide)).andThen hu.outside (by decide)
  case disable =>
    intro s r e f hw hon
    obtain ⟨n, hn⟩ : ∃ n, n = e.val * 4096 + f.val := ⟨_, rfl⟩
    rw [← hn] at hw hon ⊢
    have ha : (rxFlowRule n 1).apply s false (carried r) (.num 0) = { s := stopRx s n } := flowRule_disable hon
    have hc : writeOf (.rxFlowDisable r e f) = some (r, ent (rxIdx n) 1, .num 0, rxFlowRule n 1) := by rw [hn]; rfl
    obtain ⟨q1, q2, q3⟩ := stopRx_spec s (by omega : n < 32768)
    have q4 : Outside [.cat, .gen, .mgmt, .rx] s (stopRx s n) := fun p hp => by cases p <;> simp at hp ⊢
    refine does_write hc hw ha fun u hu => ⟨hu.ok, (hu.num ..).trans q1, (hu.num ..).trans q2, ?_, ?_⟩
    · rw [rxOn, hu.outside .rx (by decide)]
      exact q3
    · exact (q4.mono (by decide)).andThen hu.outside (by decide)

end Sys2Proof.Machine
end

section
/-! Receive flows: release, silence, read-ahead (R317 to R334; obligation O42). -/

namespace Sys2Proof.Machine

variable {s t u : State} {i a k n m e : Nat}

/-! ### Receive flows -/

theorem rxFlow_setRx {f : RxFlow → RxFlow} (h : rxOn s n = true) : (s.setRx n f).rxFlow n = f (s.rxFlow n) := by
  obtain ⟨x, hx⟩ := Option.isSome_iff_exists.mp h
  unfold State.setRx State.rxFlow tgetD
  rw [hx]
  simp

theorem rxOn_setRx (f : RxFlow → RxFlow) : rxOn (s.setRx n f) n = rxOn s n := by
  unfold State.setRx rxOn
  split
  · next x hx => simp [hx]
  · rfl

theorem rxOn_of_buf {p : RxPkt} {l : List RxPkt} (h : (s.rxFlow n).buf = p :: l) : rxOn s n = true := by
  unfold rxOn
  unfold State.rxFlow tgetD at h
  cases hx : tget s.rx.flows n with
  | none =>
    rw [hx] at h
    exact absurd h nofun
  | some x => rfl

theorem rxFlow_congr (h : t.rx = s.rx) : t.rxFlow n = s.rxFlow n := by rw [State.rxFlow, State.rxFlow, h]

theorem outside_setRx (s : State) (n : Nat) (f : RxFlow → RxFlow) : Outside [.rx] s (s.setRx n f) := fun p hp => by
  cases p <;> simp at hp ⊢

/-! ### What delivering a packet may touch -/

/-- The events that delivering a packet may count. -/
def deliverEvents : List Nat := [0x420, 0x422, 0x430, 0x443]

/-- A change that keeps the state of receive flow `n`, its NEXT_SEQ, its buffer, and all events but those of delivery. -/
structure DeliverStep (n : Nat) (s t : State) : Prop where
  outside : Outside [.cat, .mgmt, .rx, .tx, .noc, .mem] s t
  nums : ∀ a, a = 2 ∨ a = 0x33 → t.num (rxIdx n) a = s.num (rxIdx n) a
  events : EventsBut deliverEvents s t
  buf : (t.rxFlow n).buf = (s.rxFlow n).buf
  next : (t.rxFlow n).next = (s.rxFlow n).next

theorem DeliverStep.refl (s : State) : DeliverStep n s s := ⟨.refl _ _, fun _ _ => rfl, .refl _ _, rfl, rfl⟩

theorem DeliverStep.trans (h : DeliverStep n s t) (h' : DeliverStep n t u) : DeliverStep n s u :=
  ⟨h.outside.trans h'.outside, fun a ha => (h'.nums a ha).trans (h.nums a ha), h.events.trans h'.events, h'.buf.trans h.buf,
    h'.next.trans h.next⟩

theorem DeliverStep.foldl {α : Type} {f : State → α → State} {l : List α} (h : ∀ s, ∀ x ∈ l, DeliverStep n s (f s x))
    (s : State) :
    DeliverStep n s (l.foldl f s) :=
  List.foldlRecOn l f (motive := DeliverStep n s) (.refl s) fun t ht x hx => ht.trans (h t x hx)

theorem num_event_put (s : State) {j b x : Nat} (hb : b < 256) (h7 : b ≠ 7) (hm : m < 4096) :
    (s.put j b x).num (0x0E1000 + m) 7 = s.num (0x0E1000 + m) 7 := by
  refine num_put_of_apart hb (by decide) (.inr h7) ?_
  by_cases hj : j = 0x0E1000 + m
  · exact .inr (.inr (.inr (by omega)))
  · exact .inl hj

theorem EventsBut.put_other {ms : List Nat} (s : State) {j b x : Nat} (hb : b < 256) (h7 : b ≠ 7) : EventsBut ms s
    (s.put j b x) :=
  fun _ hm _ _ => num_event_put s hb h7 hm

theorem DeliverStep.of_put (s : State) {j b x : Nat} (hn : n < 32768) (hb : b < 256) (h7 : b ≠ 7)
    (h : j ≠ rxIdx n ∨ b ≠ 2 ∧ b ≠ 0x33) : DeliverStep n s (s.put j b x) := by
  refine ⟨(outside_put s _ _ _).mono (by decide), fun a ha => ?_, .put_other s hb h7, rfl, rfl⟩
  have hp := plain_rxIdx hn
  refine num_put_of_apart hb (by omega) (by omega) ?_
  by_cases hj : j = rxIdx n
  · exact .inr (.inr (.inr (hj ▸ hp)))
  · exact .inl hj

theorem DeliverStep.of_count (s : State) {j b w x : Nat} (hn : n < 32768) (hb : b < 256) (h7 : b ≠ 7)
    (h : j ≠ rxIdx n ∨ b ≠ 2 ∧ b ≠ 0x33) : DeliverStep n s (s.count j b w x) := .of_put s hn hb h7 h

theorem rxIdx_low (hn : n < 32768) : rxIdx n < 0x0E0000 := by
  simp only [rxIdx]
  omega

theorem DeliverStep.of_raiseAtMost (s : State) {c v : Nat} {f : Nat → List Byte} (hn : n < 32768) (hm : m < 4096)
    (h : m ∈ deliverEvents) : DeliverStep n s (s.raiseAtMost c m v f) := by
  have ho := outside_raiseAtMost s c m v f
  exact ⟨ho.mono (by decide), fun a ha => num_raiseAtMost hm _ a (by omega) (.inl (rxIdx_low hn)), .of_raiseAtMost s h,
    by rw [rxFlow_congr (ho .rx (by decide))], by rw [rxFlow_congr (ho .rx (by decide))]⟩

theorem DeliverStep.of_raise (s : State) {v : Nat} {b : List Byte} (hn : n < 32768) (hm : m < 4096) (h : m ∈ deliverEvents) :
    DeliverStep n s (s.raise m v b) := by
  have ho := outside_raise s m v b
  exact ⟨ho.mono (by decide), fun a ha => num_raise hm _ a (by omega) (.inl (rxIdx_low hn)), .of_raise s h,
    by rw [rxFlow_congr (ho .rx (by decide))], by rw [rxFlow_congr (ho .rx (by decide))]⟩

/-- Changes beside the entries that leave the receive flows. -/
theorem DeliverStep.of_parts (h : Outside [.rx, .tx, .noc, .mem] s t) (hf : t.rx.flows = s.rx.flows) : DeliverStep n s t := by
  have hx : t.rxFlow n = s.rxFlow n := by rw [State.rxFlow, State.rxFlow, hf]
  exact ⟨h.mono (by decide), fun a ha => num_of_outside (h.mono (by decide)) (by omega), .of_cat (h .cat (by decide)),
    by rw [hx], by rw [hx]⟩

theorem DeliverStep.of_setRx (s : State) {f : RxFlow → RxFlow} (h : ∀ x : RxFlow, (f x).buf = x.buf ∧ (f x).next = x.next) :
    DeliverStep n s (s.setRx n f) := by
  have hx : ((s.setRx n f).rxFlow n).buf = (s.rxFlow n).buf ∧ ((s.setRx n f).rxFlow n).next = (s.rxFlow n).next := by
    cases ho : rxOn s n with
    | true =>
      rw [rxFlow_setRx ho]
      exact h _
    | false =>
      have hs : s.setRx n f = s := by
        unfold State.setRx
        rw [Option.isSome_eq_false_iff.mp ho |> Option.isNone_iff_eq_none.mp]
      rw [hs]
      exact ⟨rfl, rfl⟩
  exact ⟨(outside_setRx s n f).mono (by decide), fun _ _ => num_setRx .., .of_cat ((outside_setRx s n f) .cat (by decide)),
    hx.1, hx.2⟩

section
variable (hn : n < 32768)
include hn

theorem sendWords_step (s : State) (p : Nat) (ws : List EssWord) : DeliverStep n s (sendWords s p ws).1 := by
  unfold sendWords
  dsimp only
  split
  · exact .of_parts (fun p hp => by cases p <;> simp at hp ⊢) rfl
  · exact (DeliverStep.of_count s hn (by decide) (by decide) (.inr (by decide))).trans (.of_raiseAtMost _ hn (by decide) (by decide))

theorem sendFrame_step (s : State) (p : RxPkt) : DeliverStep n s (sendFrame s n p) := by
  unfold sendFrame
  dsimp only
  split
  · exact (sendWords_step hn s _ _).trans (.of_setRx _ fun _ => ⟨rfl, rfl⟩)
  · exact sendWords_step hn s _ _

theorem toEssence_step (s : State) (p : RxPkt) : DeliverStep n s (toEssence s n p) := by
  unfold toEssence
  extract_lets f x s1 r
  have h1 : DeliverStep n s s1 := by
    simp only [s1]
    split
    · exact sendFrame_step hn s p
    · exact .refl s
  have h2 : DeliverStep n s r.1 := h1.trans (sendWords_step hn s1 _ _)
  split
  · exact h2.trans (.of_setRx _ fun _ => ⟨rfl, rfl⟩)
  · exact (h2.trans (.of_count _ hn (by decide) (by decide) (.inr (by decide)))).trans (.of_setRx _ fun _ => ⟨rfl, rfl⟩)

theorem engineWrite_step (s : State) (e x : Nat) (b : List Byte) (last : Bool) : DeliverStep n s
    (engineWrite s e x b last) := by
  unfold engineWrite
  dsimp only
  split
  · refine .foldl (fun s p _ => ?_) s
    have hc : DeliverStep n s (s.count (0x0A0200 + e / 2) (4 + 0) 64 1) := .of_count s hn (by decide) (by decide) (.inr (by decide))
    unfold archiveWrite
    dsimp only
    split
    · exact hc.trans (.of_parts (fun p hp => by cases p <;> simp at hp ⊢) rfl)
    · split
      · exact .refl s
      · exact hc.trans (.of_parts (fun p hp => by cases p <;> simp at hp ⊢) rfl)
  · refine .foldl (fun s p _ => .of_parts (fun p hp => ?_) (by simp)) s
    cases p <;> simp at hp ⊢

theorem storeLanes_step (f : Fmt) (e line : Nat) (fin : Bool) (fuel : Nat) : ∀ (i : Nat) (xs : List Nat) (s : State),
    DeliverStep n s (storeLanes f e line fin fuel i xs s) := by
  induction fuel with
  | zero => exact fun _ _ s => .refl s
  | succ fuel ih =>
    intro i xs s
    unfold storeLanes
    split
    · exact .refl s
    · exact (engineWrite_step hn s _ _ _ _).trans (ih _ _ _)

theorem toStore_step (s : State) (p : RxPkt) : DeliverStep n s (toStore s n p) := by
  unfold toStore
  extract_lets ess x s1 last before
  have h1 : DeliverStep n s s1 := by
    simp only [s1]
    split
    · unfold storeVideo
      dsimp only
      refine .foldl (fun s p _ => ?_) s
      split
      · exact .refl s
      · exact storeLanes_step hn ..
    · unfold storeRecord
      dsimp only
      exact (DeliverStep.foldl (fun s c _ => engineWrite_step hn s _ _ _ _) s).trans (.of_setRx _ fun _ => ⟨rfl, rfl⟩)
  exact h1.trans (.of_setRx _ fun _ => ⟨rfl, rfl⟩)

theorem queuePacket_step (s : State) (k : Nat) (p : TxPkt) : DeliverStep n s (queuePacket s k p) := by
  have hd : ∀ (s : State) (b : Bool), DeliverStep n s (discardAt s k (legSub s k b)) := fun s b =>
    ((DeliverStep.of_count s hn (by decide) (by decide) (.inl (rxIdx_ne_txIdx k n))).trans
      (.of_count _ hn (by decide) (by decide) (.inr (by decide)))).trans (.of_raiseAtMost _ hn (by decide) (by decide))
  unfold queuePacket
  split
  · exact .refl s
  · split
    · exact .refl s
    · extract_lets len narrow full s1 s2
      have h1 : DeliverStep n s s1 := .foldl (fun s b _ => hd s b) s
      have h12 : DeliverStep n s1 s2 := by
        refine DeliverStep.foldl (f := fun s b => { s with tx := { s.tx with
          class1 := tput s.tx.class1 (legSub s k b) (tgetD s.tx.class1 (legSub s k b) 0 + len) } })
          (fun s b _ => .of_parts (fun p hp => ?_) rfl) s1
        cases p <;> simp at hp ⊢
      have h2 := h1.trans h12
      split
      · exact h2
      · exact h2.trans (.of_parts (fun p hp => by cases p <;> simp at hp ⊢) (by simp))

theorem toHairpin_step (s : State) (p : RxPkt) : DeliverStep n s (toHairpin s n p) := by
  unfold toHairpin
  dsimp only
  split
  · exact queuePacket_step hn ..
  · exact .of_count s hn (by decide) (by decide) (.inr (by decide))

theorem toTakers_step (s : State) (p : RxPkt) : DeliverStep n s (toTakers s n p) := by
  unfold toTakers
  refine .foldl (fun s x _ => ?_) s
  dsimp only
  split
  · exact queuePacket_step hn ..
  · exact .refl s

theorem deliver_step (s : State) (p : RxPkt) : DeliverStep n s (deliver s n p) := by
  unfold deliver
  extract_lets dest s1 s2 s3
  have h1 : DeliverStep n s s1 := by
    simp only [s1]
    split
    · exact toEssence_step hn s p
    · exact .refl s
  have h2 : DeliverStep n s1 s2 := by
    simp only [s2]
    split
    · exact toStore_step hn s1 p
    · exact .refl s1
  have h3 : DeliverStep n s2 s3 := by
    simp only [s3]
    split
    · exact toHairpin_step hn s2 p
    · exact .refl s2
  exact (((h1.trans h2).trans h3).trans (toTakers_step hn s3 p)).trans (.of_setRx _ fun _ => ⟨rfl, rfl⟩)

theorem judgePanic_step (s : State) (e : Nat) : DeliverStep n s (judgePanic s e) := by
  unfold judgePanic
  dsimp only
  split
  · exact ((DeliverStep.of_put s hn (by decide) (by decide) (.inr (by decide))).trans
      (.of_count _ hn (by decide) (by decide) (.inr (by decide)))).trans (.of_raise _ hn (by decide) (by decide))
  · split
    · exact (DeliverStep.of_put s hn (by decide) (by decide) (.inr (by decide))).trans (.of_raise _ hn (by decide) (by decide))
    · exact .refl s

theorem setStaging_step (s : State) (e v : Nat) : DeliverStep n s (setStaging s e v) := by
  have h : DeliverStep n s { s with rx := { s.rx with staging := s.rx.staging.set e v } } :=
    .of_parts (fun p hp => by cases p <;> simp at hp ⊢) rfl
  unfold setStaging
  exact h.trans (.of_put _ hn (by decide) (by decide) (.inr (by decide)))

end

theorem putRxState_events {ms : List Nat} (s : State) (n st : Nat) : EventsBut ms s (putRxState s n st) := by
  unfold putRxState rxChanged
  refine (EventsBut.put_other s (by decide) (by decide)).trans (.foldl _ _ _ fun t x _ => ?_)
  split
  · unfold quietTx putTxState
    extract_lets y
    split
    · exact .put_other t (by decide) (by decide)
    · exact .refl _ _
  · exact .refl _ _

/-- A flow that plays from its first packet on (R321). -/
theorem beginPlaying_spec (s : State) (hn : n < 32768) (q : Nat) : Outside [.cat, .mgmt] s (beginPlaying s n q) ∧
    (beginPlaying s n q).num (rxIdx n) 0x33 = s.num (rxIdx n) 0x33 ∧
    (rxState s n = rxFilling → rxState (beginPlaying s n q) n = rxPlays ∧ Raised s (beginPlaying s n q) 0x400) := by
  have ho : Outside [.cat, .mgmt] s (beginPlaying s n q) := fun p hp => by cases p <;> simp at hp ⊢
  refine ⟨ho, ?_, fun h => ?_⟩
  · unfold beginPlaying
    split
    · rw [num_raise (by decide) _ _ (by decide) (.inl (rxIdx_low hn)), num_putRxState s hn _ (by decide) (by decide)]
    · rfl
  · unfold beginPlaying
    rw [if_pos h]
    refine ⟨?_, EventsBut.raised (ms := []) (putRxState_events s n _) (by decide) (by decide) (by decide)⟩
    rw [rxState, num_raise (by decide) _ _ (by decide) (.inl (rxIdx_low hn))]
    exact rxState_putRxState ..

theorem declareLost_spec (s : State) (hn : n < 32768) (q : Nat) : Outside [.cat, .rx] s (declareLost s n q) ∧
    (declareLost s n q).num (rxIdx n) 2 = s.num (rxIdx n) 2 ∧ EventsBut [] s (declareLost s n q) ∧
    rxOn (declareLost s n q) n = rxOn s n := by
  refine ⟨fun p hp => by cases p <;> simp at hp ⊢, ?_⟩
  unfold declareLost
  dsimp only
  split
  · exact ⟨rfl, .refl _ _, rfl⟩
  · refine ⟨(num_setRx ..).trans (num_rxPut s hn (by decide) (by decide) (by decide)), ?_, rxOn_setRx _⟩
    exact (EventsBut.put_other s (by decide) (by decide)).trans (.of_cat ((outside_setRx _ n _) .cat (by decide)))

theorem sendEnd_events (s : State) (n c : Nat) : EventsBut [0x430] s (sendEnd s n c) := by
  unfold sendEnd
  dsimp only
  split
  · unfold sendWords
    dsimp only
    split
    · exact .of_cat rfl
    · exact (EventsBut.put_other s (by decide) (by decide)).trans (.of_raiseAtMost _ (by decide))
  · exact .refl _ _

theorem dropBuffer_events {ms : List Nat} (s : State) (n : Nat) : EventsBut ms s (dropBuffer s n) := by
  unfold dropBuffer
  extract_lets e ahead w
  have hw : EventsBut ms s w := by
    simp only [w]
    split
    · exact .refl _ _
    · unfold setStaging
      exact EventsBut.trans (.of_cat rfl) (.put_other _ (by decide) (by decide))
  exact hw.trans (.of_cat ((outside_setRx w n _) .cat (by decide)))

theorem dropBuffer_buf (s : State) (n : Nat) : ((dropBuffer s n).rxFlow n).buf = [] := by
  unfold dropBuffer
  extract_lets e ahead w
  cases h : rxOn w n with
  | true => rw [rxFlow_setRx h]
  | false =>
    have hx : tget w.rx.flows n = none := by
      unfold rxOn at h
      simpa using h
    unfold State.setRx State.rxFlow tgetD
    simp [hx]

theorem putLeg_spec (s : State) (hn : n < 32768) (b : Bool) (st : Nat) : legState (putLeg s n b st) n b = st ∧
    Outside [.cat, .mgmt] s (putLeg s n b st) := by
  refine ⟨?_, ?_⟩
  · unfold legState putLeg
    rw [num_raiseAtMost (by decide) _ _ (by split <;> decide) (.inl (rxIdx_low hn)), num_put_self]
  · exact ((outside_put s _ _ _).mono (by decide)).trans (outside_raiseAtMost _ _ _ _ _)

/-- Where an address leads does not depend on the time. -/
theorem targetOf_pass (s : State) (m i a : Nat) : targetOf (s.pass m) i a = targetOf s i a := by
  unfold targetOf
  rfl

/-- What becomes of a packet whose bytes staging has not back at its release (R322). -/
def missed (s : State) (n e : Nat) : State :=
  (((s.count (rxIdx n) 0x2B 64 1).setRx n fun x => { x with gapFlag := true, lostSince := x.lostSince + 1 }).count
    (engIdx e) 0x11 64 1).raiseAtMost 1 0x422 e fun c => be 4 c

theorem missed_step (s : State) (hn : n < 32768) (e : Nat) : DeliverStep n s (missed s n e) := by
  have h1 : DeliverStep n s (s.count (rxIdx n) 0x2B 64 1) := .of_count s hn (by decide) (by decide) (.inr (by decide))
  have h2 := h1.trans (.of_setRx (f := fun x => { x with gapFlag := true, lostSince := x.lostSince + 1 }) _ fun _ => ⟨rfl, rfl⟩)
  have h3 := h2.trans (.of_count (j := engIdx e) (b := 0x11) (w := 64) (x := 1) _ hn (by decide) (by decide) (.inr (by decide)))
  exact h3.trans (.of_raiseAtMost _ hn (by decide) (by decide))

/-- What the end of a margin second leaves of the leg it reads (R315). -/
theorem endSecond_spec (s : State) (hn : n < 32768) (hon : rxOn s n = true) (b : Bool) :
    Outside [.cat, .mgmt, .rx] s (endSecond s n b) ∧ rxOn (endSecond s n b) n = true ∧
    (∃ f : Leg → Leg, (endSecond s n b).rxFlow n = (s.rxFlow n).setLeg b f ∧ ∀ g, (f g).least = none ∧ (f g).gapAt = s.now) ∧
    (((s.rxFlow n).leg b).least = none → (endSecond s n b).num (rxIdx n) (if b then 0x26 else 0x25) = 0x7FFFFFFF) ∧
    (b = true → (endSecond s n b).num (rxIdx n) 0x25 = s.num (rxIdx n) 0x25) := by
  refine ⟨fun p hp => by cases p <;> simp at hp ⊢, ?_⟩
  unfold endSecond
  extract_lets g us us' v long w
  have hb : (if b then 0x26 else 0x25) < 256 := by split <;> decide
  have hvo : Outside [.cat] s v := outside_put s _ _ _
  have hvon : rxOn v n = true := by
    rw [rxOn, hvo .rx (by decide)]
    exact hon
  obtain ⟨f, hf, hfl⟩ : ∃ f, w = v.setRx n (fun x => x.setLeg b f) ∧ ∀ g, (f g).least = none ∧ (f g).gapAt = v.now :=
    ⟨_, rfl, fun _ => ⟨rfl, rfl⟩⟩
  obtain ⟨x, hx⟩ : ∃ x, x = if us' < 0 then w.raise 0x411 n (be 1 (if b then 1 else 0) ++ be 4 (wrap 32 us')) else w := ⟨_, rfl⟩
  have hxo : Outside [.cat, .mgmt] w x := hx ▸ .ite (outside_raise w _ _ _) (.refl _ _)
  have hxn : ∀ a, x.num (rxIdx n) a = v.num (rxIdx n) a ∨ 256 ≤ a := fun a => by
    by_cases ha : a < 256
    · refine .inl ?_
      have hw : w.num (rxIdx n) a = v.num (rxIdx n) a := num_setRx ..
      rw [hx, ← hw]
      split
      · rw [num_raise (by decide) _ _ ha (.inl (rxIdx_low hn))]
      · rfl
    · exact .inr (by omega)
  rw [← hx]
  refine ⟨?_, ⟨f, ?_, hfl⟩, fun hl => ?_, fun hbt => ?_⟩
  · rw [rxOn, hxo .rx (by decide), hf]
    exact (rxOn_setRx _).trans hvon
  · rw [rxFlow_congr (hxo .rx (by decide)), hf, rxFlow_setRx hvon, rxFlow_congr (hvo .rx (by decide))]
  · rcases hxn (if b then 0x26 else 0x25) with h | h
    · rw [h]
      simp only [v, us', us, g, hl, num_put_self]
      decide
    · omega
  · rcases hxn 0x25 with h | h
    · rw [h]
      exact num_rxPut s hn (by decide) hb (by rw [hbt]; decide)
    · omega

/-- The notes that a store leaves at the shuttles of its cluster (R323). -/
def storeNotes (v : Nat) : List (Nat × Nat) := (List.range 8).map fun k => (8 * (v / 256 % 64) + k, v % 4)

/-- A store's notes on their way to the shuttles. -/
def noted (s : State) (v : Nat) : State := { s with mgmt := { s.mgmt with toShuttles := s.mgmt.toShuttles ++ storeNotes v } }

/-- Settles O42: each row is the function it runs, its guards met, followed by what each stage of it changes; the end of a
margin second goes leg by leg. -/
theorem receiveFlowsReleaseAndWatch : Obligations.ReceiveFlowsReleaseAndWatch := by
  unfold Obligations.ReceiveFlowsReleaseAndWatch
  refine ⟨?release, ?starve, ?silence, ?up, ?margin, ?ahead, ?store, ?word⟩
  case release =>
    intro s e f n p rest hnf hbuf harm hserv
    have hn : n < 32768 := by omega
    have hne : n / 4096 = e := by omega
    obtain ⟨w, hw⟩ : ∃ w, w = s.waitTb (s.num (rxIdx n) 4) p.rel := ⟨_, rfl⟩
    obtain ⟨v, hv⟩ : ∃ v, v = declareLost w n p.seq := ⟨_, rfl⟩
    obtain ⟨x, hx⟩ : ∃ x, x = v.setRx n fun x =>
      { x with buf := rest, used := x.used - bufferedBytes p, next := (p.seq + 1) % 2 ^ 32 } := ⟨_, rfl⟩
    obtain ⟨y, hy⟩ : ∃ y, y = x.put (rxIdx n) 0x33 ((p.seq + 1) % 2 ^ 32) := ⟨_, rfl⟩
    obtain ⟨z, hz⟩ : ∃ z,
      z = if rxDram y n ∧ p.back then setStaging y e (y.rx.staging.getD e 0 - bufferedBytes p) else y := ⟨_, rfl⟩
    obtain ⟨b, hb⟩ : ∃ b, b = beginPlaying z n p.seq := ⟨_, rfl⟩
    obtain ⟨d, hd⟩ : ∃ d, d = if p.back then deliver b n p
      else missed b n e := ⟨_, rfl⟩
    have he : exec (.packetRelease e f) s = .next (judgePanic d e) := by
      have h1 : releasePacket s n = judgePanic d e := by
        unfold releasePacket
        rw [hbuf, hne]
        dsimp only
        rw [if_neg (by simp [harm, hserv]), hd, hb, hz, hy, hx, hv, hw] <;> rfl
      rw [← h1, hnf]
      rfl
    have hwo : Outside [.now, .tim] s w := hw ▸ outside_pass s _
    have hnow : w.now = s.now + (rxTb s n).cyclesTo p.rel := by rw [hw]; rfl
    have hwn : ∀ i a, w.num i a = s.num i a := fun i a => by rw [hw]; rfl
    have hwon : rxOn w n = true := by
      rw [rxOn, hwo .rx (by decide)]
      exact rxOn_of_buf hbuf
    clear hw
    obtain ⟨v1, v2, v3, v4⟩ := declareLost_spec w hn p.seq
    rw [← hv] at v1 v2 v3 v4
    clear hv
    have hxo : Outside [.rx] v x := hx ▸ outside_setRx v n _
    have hxf : (x.rxFlow n).buf = rest ∧ (x.rxFlow n).next = (p.seq + 1) % 2 ^ 32 := by
      rw [hx, rxFlow_setRx (v4.trans hwon)]
      exact ⟨rfl, rfl⟩
    have hxn : x.num (rxIdx n) 2 = v.num (rxIdx n) 2 := by rw [hx, num_setRx]
    clear hx
    have hyo : Outside [.cat] x y := hy ▸ outside_put x _ _ _
    have hy2 : y.num (rxIdx n) 2 = x.num (rxIdx n) 2 := hy ▸ num_rxPut x hn (by decide) (by decide) (by decide)
    have hy33 : y.num (rxIdx n) 0x33 = (p.seq + 1) % 2 ^ 32 := by rw [hy, num_put_self]
    have hye : EventsBut deliverEvents s y := by
      have h1 : EventsBut deliverEvents s v := (EventsBut.of_cat (hwo .cat (by decide))).trans (v3.mono (List.nil_subset _))
      rw [hy]
      exact (h1.trans (.of_cat (hxo .cat (by decide)))).trans (.put_other x (by decide) (by decide))
    clear hy
    have hzs : DeliverStep n y z := by
      rw [hz]
      split
      · exact setStaging_step hn y _ _
      · exact .refl y
    clear hz
    obtain ⟨b1, b2, b3⟩ := beginPlaying_spec z hn p.seq
    rw [← hb] at b1 b2 b3
    clear hb
    have hds : DeliverStep n b d := by
      rw [hd]
      split
      · exact deliver_step hn b p
      · exact missed_step b hn e
    have hu := hds.trans (judgePanic_step hn d e)
    clear hd
    have hrx : y.rxFlow n = x.rxFlow n := rxFlow_congr (hyo .rx (by decide))
    have hbx : b.rxFlow n = z.rxFlow n := rxFlow_congr (b1 .rx (by decide))
    have hsy : Outside [.now, .cat, .mgmt, .tim, .rx, .tx, .noc, .mem] s y :=
      (((hwo.mono (by decide)).andThen v1 (by decide)).andThen hxo (by decide)).andThen hyo (by decide)
    refine ⟨_, he, ?_, ?_, ?_, ?_, fun hfill => ⟨?_, ?_⟩, ?_⟩
    · rw [hu.outside .now (by decide), b1 .now (by decide), hzs.outside .now (by decide), hyo .now (by decide),
        hxo .now (by decide), v1 .now (by decide), hnow]
    · rw [hu.buf, hbx, hzs.buf, hrx, hxf.1]
    · rw [hu.next, hbx, hzs.next, hrx, hxf.2]
    · rw [hu.nums _ (.inr rfl), b2, hzs.nums _ (.inr rfl), hy33]
    · have hzf : rxState z n = rxFilling := by
        rw [rxState, hzs.nums _ (.inl rfl), hy2, hxn, v2, hwn]
        exact hfill
      exact (hu.nums _ (.inl rfl)).trans (b3 hzf).1
    · have hzf : rxState z n = rxFilling := by
        rw [rxState, hzs.nums _ (.inl rfl), hy2, hxn, v2, hwn]
        exact hfill
      exact ((b3 hzf).2.then_events hu.events (by decide) (by decide) (by decide)).after_events (hye.trans hzs.events) (by decide)
        (by decide) (by decide)
    · exact ((hsy.andThen hzs.outside (by decide)).andThen b1 (by decide)).andThen hu.outside (by decide)
  case starve =>
    intro s e f n hnf hst
    have hn : n < 32768 := by omega
    obtain ⟨w, hw⟩ : ∃ w, w = s.waitUntil ((s.rxFlow n).lastAt + s.num (rxIdx n) 0x15 * 1000) := ⟨_, rfl⟩
    obtain ⟨v, hv⟩ : ∃ v, v = dropBuffer (sendEnd w n 1) n := ⟨_, rfl⟩
    have he : exec (.flowStarve e f) s = .next ((putRxState v n rxStarved).raise 0x401 n (be 4 (lastSeq w n))) := by
      have h1 : starve s n = (putRxState v n rxStarved).raise 0x401 n (be 4 (lastSeq w n)) := by
        rw [hv, hw]
        exact if_neg (not_not.mpr hst)
      rw [← h1, hnf]
      rfl
    have hwo : Outside [.now, .tim] s w := hw ▸ outside_waitUntil s _
    have hnow : w.now = max s.now ((s.rxFlow n).lastAt + s.num (rxIdx n) 0x15 * 1000) := by rw [hw, now_waitUntil_max]
    have hvo : Outside [.cat, .mgmt, .rx] w v := hv ▸ fun p hp => by cases p <;> simp at hp ⊢
    have hve : EventsBut [0x430] w v := hv ▸ (sendEnd_events w n 1).trans (dropBuffer_events _ n)
    have hvb : (v.rxFlow n).buf = [] := hv ▸ dropBuffer_buf _ n
    clear hw hv
    have hpo : Outside [.cat] v (putRxState v n rxStarved) := fun p hp => by cases p <;> simp at hp ⊢
    have hps := rxState_putRxState v n rxStarved
    have hpe : EventsBut [0x430] s (putRxState v n rxStarved) :=
      ((EventsBut.of_cat (hwo .cat (by decide))).trans hve).trans (putRxState_events v n rxStarved)
    generalize putRxState v n rxStarved = x at *
    have hro := outside_raise x 0x401 n (be 4 (lastSeq w n))
    refine ⟨_, he, ?_, ?_, ?_, hpe.raised (by decide) (by decide) (by decide), ?_⟩
    · rw [hro .now (by decide), hpo .now (by decide), hvo .now (by decide), hnow]
    · rw [rxState, num_raise (by decide) _ _ (by decide) (.inl (rxIdx_low hn))]
      exact hps
    · rw [rxFlow_congr (hro .rx (by decide)), rxFlow_congr (hpo .rx (by decide)), hvb]
    · exact (((hwo.mono (by decide)).andThen hvo (by decide)).andThen hpo (by decide)).andThen hro (by decide)
  case silence =>
    intro s e f legB n hnf hon hheard hst hleg
    have hn : n < 32768 := by omega
    obtain ⟨w, hw⟩ : ∃ w, w = s.waitUntil (((s.rxFlow n).leg legB).lastAt + ((s.rxFlow n).leg legB).gap) := ⟨_, rfl⟩
    have he : exec (.legSilence e f legB) s = .next (putLeg w n legB 2) := by
      have h1 : legSilent s n legB = putLeg w n legB 2 := by
        rw [hw]
        exact if_neg (by simpa [hon, hheard, hst] using hleg)
      rw [← h1, hnf]
      rfl
    have hwo : Outside [.now, .tim] s w := hw ▸ outside_waitUntil s _
    have hnow : w.now = max s.now (((s.rxFlow n).leg legB).lastAt + ((s.rxFlow n).leg legB).gap) := by rw [hw,
      now_waitUntil_max]
    clear hw
    obtain ⟨q1, q2⟩ := putLeg_spec w hn legB 2
    exact ⟨_, he, (q2 .now (by decide)).trans hnow, q1, (hwo.mono (by decide)).andThen q2 (by decide)⟩
  case up =>
    intro s e f legB n hnf hon hheard hst hleg hgap
    have hn : n < 32768 := by omega
    obtain ⟨w, hw⟩ : ∃ w, w = s.waitUntil (((s.rxFlow n).leg legB).upSince + tenMs) := ⟨_, rfl⟩
    have hwo : Outside [.now, .tim] s w := hw ▸ outside_waitUntil s _
    have hnow : w.now = max s.now (((s.rxFlow n).leg legB).upSince + tenMs) := by rw [hw, now_waitUntil_max]
    have he : exec (.legUp e f legB) s = .next (putLeg w n legB 1) := by
      have h1 : legComesUp s n legB = putLeg w n legB 1 := by
        unfold legComesUp
        dsimp only
        rw [if_neg (by simpa [hon, hheard, hst] using hleg), ← hw, if_neg (by omega)]
      rw [← h1, hnf]
      rfl
    clear hw
    obtain ⟨q1, q2⟩ := putLeg_spec w hn legB 1
    exact ⟨_, he, (q2 .now (by decide)).trans hnow, q1, (hwo.mono (by decide)).andThen q2 (by decide)⟩
  case margin =>
    intro s e f n hnf hon
    have hn : n < 32768 := by omega
    obtain ⟨w, hw⟩ : ∃ w, w = s.waitUntil ((s.rxFlow n).legA.gapAt + second) := ⟨_, rfl⟩
    have he : exec (.marginSecondEnd e f) s = .next ((rxLegs s n).foldl (fun s b => endSecond s n b) w) := by
      have h1 : marginSecond s n = (rxLegs s n).foldl (fun s b => endSecond s n b) w := by
        rw [hw]
        exact if_neg (by simp [hon])
      rw [← h1, hnf]
      rfl
    have hwo : Outside [.now, .tim] s w := hw ▸ outside_waitUntil s _
    have hnow : w.now = max s.now ((s.rxFlow n).legA.gapAt + second) := by rw [hw, now_waitUntil_max]
    clear hw
    have hwon : rxOn w n = true := by
      rw [rxOn, hwo .rx (by decide)]
      exact hon
    have hwf : w.rxFlow n = s.rxFlow n := rxFlow_congr (hwo .rx (by decide))
    obtain ⟨a1, hon1, ⟨f, a2, a3⟩, a4, -⟩ := endSecond_spec w hn hwon false
    rw [hwf] at a2 a4
    have hlegs : rxLegs s n = [false] ∨ rxLegs s n = [false, true] := by
      unfold rxLegs
      split
      · exact .inr rfl
      · exact .inl rfl
    rcases hlegs with h | h
    · rw [h] at he
      refine ⟨_, he, (a1 .now (by decide)).trans hnow, ?_, ?_, fun hl => a4 hl, ?_,
        (hwo.mono (by decide)).andThen a1 (by decide)⟩
      · exact (congrArg (·.legA.least) a2).trans (a3 _).1
      · exact ((congrArg (·.legA.gapAt) a2).trans (a3 _).2).trans (a1 .now (by decide)).symm
      · exact congrArg (·.buf) a2
    · rw [h] at he
      obtain ⟨b1, -, ⟨f', b2, -⟩, -, b4⟩ := endSecond_spec (endSecond w n false) hn hon1 true
      have hnw : (endSecond (endSecond w n false) n true).now = w.now := (b1 .now (by decide)).trans (a1 .now (by decide))
      refine ⟨_, he, hnw.trans hnow, ?_, ?_, fun hl => (b4 rfl).trans (a4 hl), ?_,
        ((hwo.mono (by decide)).andThen a1 (by decide)).andThen b1 (by decide)⟩
      · exact (congrArg (·.legA.least) (b2.trans (congrArg (·.setLeg true f') a2))).trans (a3 _).1
      · exact ((congrArg (·.legA.gapAt) (b2.trans (congrArg (·.setLeg true f') a2))).trans (a3 _).2).trans hnw.symm
      · exact congrArg (·.buf) (b2.trans (congrArg (·.setLeg true f') a2))
  case ahead =>
    intro s e f n p hnf hfind harm hserv
    have hn : n < 32768 := by omega
    have hne : n / 4096 = e := by omega
    have hon : rxOn s n = true := by
      cases hb : (s.rxFlow n).buf with
      | nil =>
        rw [hb] at hfind
        exact absurd hfind nofun
      | cons q rest => exact rxOn_of_buf hb
    obtain ⟨w, hw⟩ : ∃ w, w = s.waitTb (s.num (rxIdx n) 4) (p.rel - 400000 * nsUnit) := ⟨_, rfl⟩
    obtain ⟨v, hv⟩ : ∃ v, v = setStaging w e (w.rx.staging.getD e 0 + bufferedBytes p) := ⟨_, rfl⟩
    obtain ⟨x, hx⟩ : ∃ x, x = v.setRx n fun x =>
      { x with buf := x.buf.map fun q => if q.seq = p.seq then { q with back := true } else q } := ⟨_, rfl⟩
    have he : exec (.readAheadStart e f) s = .next (judgePanic
        (if ((targetOf w (engInit e) (w.num (rxIdx n) 0x13)).any fun t => w.ni t == niOnline) &&
          decide (w.rx.staging.getD e 0 + bufferedBytes p ≤ dramStaging) then x else w) e) := by
      have h1 : readAhead s n = judgePanic
          (if ((targetOf w (engInit e) (w.num (rxIdx n) 0x13)).any fun t => w.ni t == niOnline) &&
            decide (w.rx.staging.getD e 0 + bufferedBytes p ≤ dramStaging) then x else w) e := by
        unfold readAhead
        rw [hfind, hne]
        dsimp only
        rw [if_neg (by simp [harm, hserv]), hx, hv, hw]
      rw [← h1, hnf]
      rfl
    have hwo : Outside [.now, .tim] s w := hw ▸ outside_pass s _
    have hnow : w.now = s.now + (rxTb s n).cyclesTo (p.rel - 400000 * nsUnit) := by rw [hw]; rfl
    have hwt : ((targetOf w (engInit e) (w.num (rxIdx n) 0x13)).any fun t => w.ni t == niOnline) =
        (targetOf s (engInit e) (s.num (rxIdx n) 0x13)).any fun t => s.ni t == niOnline := by
      have hwn : ∀ i a, w.num i a = s.num i a := fun i a => hw ▸ num_pass s _ i a
      have hwt : ∀ i a, targetOf w i a = targetOf s i a := fun i a => hw ▸ targetOf_pass s _ i a
      rw [hwn, hwt]
      exact congrArg (fun g => Option.any g _) (funext fun t => congrArg (· == niOnline) (hwn _ _))
    have hwr : w.rx = s.rx := hwo .rx (by decide)
    have hwon : rxOn w n = true := by
      rw [rxOn, hwr]
      exact hon
    have hwf : w.rxFlow n = s.rxFlow n := rxFlow_congr hwr
    rw [hwt, hwr] at he
    rw [hwr] at hv
    clear hw
    have hvo : Outside [.cat, .rx] w v := hv ▸ fun p hp => by cases p <;> simp at hp ⊢
    have hvs : v.rx.staging = s.rx.staging.set e (s.rx.staging.getD e 0 + bufferedBytes p) := by
      rw [hv, ← hwr]
      rfl
    have hvf : v.rx.flows = s.rx.flows := by
      rw [hv, ← hwr]
      rfl
    clear hv
    have hxo : Outside [.cat, .rx] w x := hx ▸ (hvo.mono (by decide)).andThen (outside_setRx v n _) (by decide)
    have hxs : x.rx.staging = v.rx.staging := by
      rw [hx]
      unfold State.setRx
      split <;> rfl
    have hxf : (x.rxFlow n).buf = (s.rxFlow n).buf.map fun q => if q.seq = p.seq then { q with back := true } else q := by
      rw [hx, rxFlow_setRx (by rw [rxOn, hvf]; exact hon)]
      have : v.rxFlow n = s.rxFlow n := by
        unfold State.rxFlow
        rw [hvf]
      rw [this]
    clear hx
    obtain ⟨y, hy⟩ : ∃ y, y = if ((targetOf s (engInit e) (s.num (rxIdx n) 0x13)).any fun t => s.ni t == niOnline) &&
          decide (s.rx.staging.getD e 0 + bufferedBytes p ≤ dramStaging) then x else w := ⟨_, rfl⟩
    rw [← hy] at he
    have hyo : Outside [.cat, .rx] w y := hy ▸ .ite hxo (.refl _ _)
    have hjo := outside_judgePanic y e
    refine ⟨_, he, ?_, fun ht hr => ?_, ((hwo.mono (by decide)).andThen hyo (by decide)).andThen hjo (by decide)⟩
    · rw [hjo .now (by decide), hyo .now (by decide), hnow]
    · have hyx : y = x := by
        rw [hy, if_pos]
        simpa using ⟨by simpa using ht, hr⟩
      have hjr : (judgePanic y e).rx = x.rx := (hjo .rx (by decide)).trans (congrArg (·.rx) hyx)
      exact ⟨(congrArg (·.staging) hjr).trans (hxs.trans hvs), (congrArg (·.buf) (rxFlow_congr hjr)).trans hxf⟩
  case store =>
    intro s e f n hnf hdue
    have hon : rxOn s n = true := by
      unfold rxOn
      unfold State.rxFlow tgetD at hdue
      cases hx : tget s.rx.flows n with
      | none =>
        rw [hx] at hdue
        exact absurd hdue nofun
      | some x => rfl
    obtain ⟨v, hv⟩ : ∃ v, v = s.setRx n fun x => { x with noteDue := false } := ⟨_, rfl⟩
    have hvo : Outside [.rx] s v := hv ▸ outside_setRx s n _
    have hvf : (v.rxFlow n).noteDue = false := by rw [hv, rxFlow_setRx hon]
    have he : exec (.storeFrameWritten e f) s = .next (if s.num (rxIdx n) 0x1A = 0xFFFF then v
        else noted v (s.num (rxIdx n) 0x1A)) := by
      have h1 : notifyStore s n = if s.num (rxIdx n) 0x1A = 0xFFFF then v else noted v (s.num (rxIdx n) 0x1A) := by
        rw [hv]
        exact if_neg (by simp [hdue])
      rw [← h1, hnf]
      rfl
    clear hv
    have hvm : v.mgmt = s.mgmt := hvo .mgmt (by decide)
    refine ⟨_, he, ?_, ?_, fun h => ?_, fun h => ?_⟩
    · refine .ite (hvo.mono (by decide)) ((hvo.mono (by decide)).trans fun p hp => ?_)
      cases p <;> simp [noted] at hp ⊢
    · split
      · exact hvf
      · exact hvf
    · rw [if_pos h, hvm]
    · rw [if_neg h, ← hvm]
      rfl
  case word =>
    intro s e i n hn hruns hout
    obtain ⟨v, hv⟩ : ∃ v : State, v = { s with rx := { s.rx with
      ports := tput s.rx.ports n { s.essPort n with out := (s.essPort n).out.drop 1 } } } := ⟨_, rfl⟩
    have he : exec (.essenceWordTaken e i) s = .next (v.count (essIdx n) 3 64 1) := by
      have h1 : takeEssence s n = v.count (essIdx n) 3 64 1 := by
        rw [hv]
        exact if_neg (by simp [hruns, hout])
      rw [← h1, hn]
      rfl
    have hvo : Outside [.rx] s v := hv ▸ fun p hp => by cases p <;> simp at hp ⊢
    have hvp : (v.essPort n).out = (s.essPort n).out.drop 1 := by
      rw [hv]
      simp [State.essPort]
    have hvn : v.num (essIdx n) 3 = s.num (essIdx n) 3 := num_of_outside (hvo.mono (by decide)) (by decide)
    clear hv
    refine ⟨_, he, ?_, ?_, (hvo.mono (by decide)).andThen (outside_count v _ _ _ _) (by decide)⟩
    · exact hvp
    · rw [State.count, num_put_self, hvn]

end Sys2Proof.Machine
end

section
/-! A FRAME word that is counted where START_TRIG looks for its offset (R334, R342; obligation O43). -/

namespace Sys2Proof.Machine

/-- An enabled video flow on essence port 127 whose START_TRIG entry holds 4007Fh, a number no write can store: what reads as
"the offset of trigger unit 4007Fh" is field 6 of essence port 127, its count of words taken, which stands at 7FFF_FFFFh. The
flow's time base is 1.2 s past pick 0. -/
def offsetIsAWordCount : State :=
  [(3, 0), (0x1A, 20), (0x1B, 0x4007F), (0x1C, 1000), (0x1E, 16), (0x1F, 16), (0x21, 8)].foldl
    (fun s p => s.put (txIdx 32767) p.1 p.2)
    ((Tests.txEnabled.setTb 7 fun b => { b with time := 5 * 10 ^ 18 }).put (essIdx 127) 6 0x7FFFFFFF)

/-- The tag of a FRAME word for flow 32767; its data, 0, says that it opens pick 0. -/
def frameTag : BitVec 64 := 0x10FFF00000000000#64

/-- The word that the flow would hold. -/
def frameWord : EssWord := { tag := frameTag.toNat, data := (0#512).toNat }

theorem frameTag_flow : 32767 = ((7 : Fin 8) : Nat) * 4096 + bits frameTag.toNat 55 44 := by
  decide +kernel

theorem frameWord_kind : frameWord.kind = 0x10 := by
  decide +kernel

theorem offsetIsAWordCount_runs : essRuns offsetIsAWordCount 127 = true ∧ offsetIsAWordCount.serving 7 = true ∧
    heldWords offsetIsAWordCount 127 < 4096 := by
  decide +kernel

theorem offsetIsAWordCount_flow : txOn offsetIsAWordCount 32767 = true ∧ (txFmt offsetIsAWordCount 32767).ess = 0 ∧
    (offsetIsAWordCount.txFlow 32767).low.isSome = true := by
  decide +kernel

theorem offsetIsAWordCount_source :
    (awaitedSource offsetIsAWordCount 32767
      (((txFmt offsetIsAWordCount 32767).picks offsetIsAWordCount).start (framePick frameWord))) = { kind := 1, port := 15 } := by
  decide +kernel

/-- Before the word is counted, the first departure of pick 0 is still to come. -/
theorem offsetIsAWordCount_inTime : (offsetIsAWordCount.tb (txFmt offsetIsAWordCount 32767).tb).time ≤
    firstDeparture offsetIsAWordCount 32767 (framePick frameWord) := by
  decide +kernel

/-- Counting the word makes the offset -2^31 ns, and the word comes late: the flow holds none. -/
theorem offsetIsAWordCount_words :
    ((takeWord (passedPicks offsetIsAWordCount (((7 : Fin 8) : Nat) * 4096 + bits frameTag.toNat 55 44)) (7 : Fin 8) (15 : Fin 16)
      frameTag.toNat (0#512).toNat).txFlow 32767).words = [] := by
  decide +kernel

/-- Refutes O43: where START_TRIG holds 4007Fh, the offset that the first departure is reckoned with is the port's own count of
words taken. A FRAME word that is in time before it is counted is late once it is counted (7FFF_FFFFh becomes 8000_0000h,
  read as
-2^31 ns), so it is dropped, where the statement asks that the flow hold it. -/
theorem not_transmitFlowsSendAndTake : ¬ Obligations.TransmitFlowsSendAndTake := by
  unfold Obligations.TransmitFlowsSendAndTake
  rintro ⟨-, -, hword, -⟩
  obtain ⟨u, hu, -, -, htaken⟩ := hword offsetIsAWordCount 7 15 frameTag 0#512 127 32767 frameWord
    rfl frameTag_flow rfl
  obtain ⟨hruns, hserves, hroom⟩ := offsetIsAWordCount_runs
  obtain ⟨hon, hvideo, hlow⟩ := offsetIsAWordCount_flow
  obtain ⟨-, -, hheld⟩ := htaken hruns hserves hroom
  obtain ⟨-, hwords, -⟩ := hheld hon hvideo frameWord_kind hlow (congrArg Source.kind offsetIsAWordCount_source)
    (congrArg Source.port offsetIsAWordCount_source) offsetIsAWordCount_inTime
  rw [← Host.Outcome.next.inj hu] at hwords
  have hnone := offsetIsAWordCount_words.symm.trans hwords
  exact absurd hnone (by simp)

end Sys2Proof.Machine
end

section
/-! Engines leave service and return (R355 to R359; obligation O44). -/

namespace Sys2Proof.Machine

variable {s t u : State} {e n : Nat}

/-- The raisings that disabling flows may make (R330, R321, R352). -/
def stopEvents : List Nat := [0x010, 0x430, 0x482]

/-- What disabling flows leaves of an engine's service record and of the other events. -/
structure StopStep (e : Nat) (s t : State) : Prop where
  outside : Outside [.cat, .gen, .ruling, .mgmt, .rx, .tx] s t
  events : EventsBut stopEvents s t
  errors : t.num (svcIdx e) 5 = s.num (svcIdx e) 5

theorem StopStep.refl (s : State) : StopStep e s s := ⟨.refl _ _, .refl _ _, rfl⟩

theorem StopStep.trans (h : StopStep e s t) (h' : StopStep e t u) : StopStep e s u :=
  ⟨h.outside.andThen h'.outside (by decide), h.events.trans h'.events, h'.errors.trans h.errors⟩

theorem StopStep.foldl {α : Type} (f : State → α → State) (l : List α) (s : State) (h : ∀ s, ∀ x ∈ l, StopStep e s (f s x)) :
    StopStep e s (l.foldl f s) := by
  induction l generalizing s with
  | nil => exact .refl s
  | cons x l ih => exact (h s x (.head _)).trans (ih _ fun s y hy => h s y (.tail _ hy))

/-- A change of the engines' flow tables alone. -/
theorem StopStep.of_parts (h : Outside [.ruling, .rx, .tx] s t) : StopStep e s t :=
  ⟨h.mono (by decide), .of_cat (h .cat (by decide)),
    num_congr_of_cat (h .cat (by decide)) (h .unit (by decide)) (h .pwr (by decide)) (h .cfg (by decide)) _ _ (by decide)⟩

theorem StopStep.of_put (s : State) {j b x : Nat} (hb : b < 256) (h7 : b ≠ 7) (hj : j ≠ svcIdx e) : StopStep e s
    (s.put j b x) :=
  ⟨(outside_put s _ _ _).mono (by decide), .put_other s hb h7, num_put_of_apart hb (by decide) (.inl hj) (.inl hj)⟩

theorem svcIdx_low (he : e < 8) : svcIdx e < 0x074000 := by
  simp only [svcIdx]
  omega

theorem StopStep.of_raiseAtMost (s : State) {c m v : Nat} {f : Nat → List Byte} (he : e < 8) (hm : m < 4096)
    (h : m ∈ stopEvents) : StopStep e s (s.raiseAtMost c m v f) :=
  ⟨(outside_raiseAtMost _ _ _ _ _).mono (by decide), .of_raiseAtMost s h,
    num_raiseAtMost hm _ _ (by decide) (.inl ((svcIdx_low he).trans (by decide)))⟩

/-- ENABLE of a flow record reads 0. -/
theorem StopStep.of_write (s : State) {j : Nat} (v : Val) : StopStep e s (s.write (ent j 1) v) := by
  refine ⟨(outside_write s _ _).mono (by decide), fun m _ _ _ => ?_, ?_⟩
  · exact num_write_of_apart (by decide) (by decide) ⟨.inr (by decide), .inr (.inl (by decide))⟩
  · exact num_write_of_apart (by decide) (by decide) ⟨.inr (by decide), .inr (.inl (by decide))⟩

theorem StopStep.of_finishCmd (s : State) (c : TimedCmd) (st : Nat) (he : e < 8) : StopStep e s (finishCmd s c st) := by
  have hl := svcIdx_low he
  refine ⟨fun p hp => by cases p <;> simp at hp ⊢, .of_finishCmd _ _ _ (by decide) (by decide), ?_⟩
  exact num_finishCmd c st _ _ (by decide) (.inl (by omega)) (.inl hl)

theorem txIdx_ne_svcIdx (he : e < 8) (m : Nat) : txIdx m ≠ svcIdx e := by
  simp only [txIdx, svcIdx]
  omega

theorem rxIdx_ne_svcIdx (hn : n < 32768) : rxIdx n ≠ svcIdx e := by
  simp only [rxIdx, svcIdx]
  omega

theorem quietTx_stop (s : State) (m : Nat) (he : e < 8) : StopStep e s (quietTx s m) := by
  unfold quietTx putTxState
  extract_lets x
  split
  · exact .of_put s (by decide) (by decide) (txIdx_ne_svcIdx he m)
  · exact .refl s

theorem sendEnd_stop (s : State) (m c : Nat) (he : e < 8) : StopStep e s (sendEnd s m c) := by
  unfold sendEnd sendWords
  dsimp only
  split
  · split
    · exact .of_parts fun p hp => by cases p <;> simp at hp ⊢
    · refine (StopStep.of_put s (by decide) (by decide) ?_).trans (.of_raiseAtMost _ he (by decide) (by decide))
      simp only [essIdx, svcIdx]
      omega
  · exact .refl s

theorem dropBuffer_stop (s : State) (m : Nat) (he : e < 8) : StopStep e s (dropBuffer s m) := by
  unfold dropBuffer
  extract_lets j ahead w
  have hw : StopStep e s w := by
    simp only [w]
    split
    · exact .refl s
    · have h1 : StopStep e s { s with rx := { s.rx with staging := s.rx.staging.set j (s.rx.staging.getD j 0 - ahead) } } :=
        .of_parts fun p hp => by cases p <;> simp at hp ⊢
      refine h1.trans (.of_put _ (by decide) (by decide) ?_)
      simp only [engIdx, svcIdx]
      omega
  exact hw.trans (.of_parts ((outside_setRx w m _).mono (by decide)))

theorem stopRx_stop (s : State) (he : e < 8) (hn : n < 32768) : StopStep e s (stopRx s n) := by
  have h1 := (sendEnd_stop s n 0 he).trans (dropBuffer_stop _ n he)
  unfold stopRx
  extract_lets v w x
  have h2 : StopStep e v x := .of_parts fun p hp => by cases p <;> simp [x] at hp ⊢
  have h3 := (h1.trans h2).trans (.of_write (j := rxIdx n) x (.num 0))
  unfold putRxState rxChanged
  have h4 := h3.trans (.of_put (b := 2) (x := rxDisabled) _ (by decide) (by decide) (rxIdx_ne_svcIdx hn))
  refine h4.trans (.foldl _ _ _ fun s x _ => ?_)
  split
  · exact quietTx_stop s x.1 he
  · exact .refl s

theorem stopTx_stop (s : State) (st : Nat) (he : e < 8) : StopStep e s (stopTx s n st) := by
  unfold stopTx cancelTimed
  extract_lets gone z v w y x
  have h1 : StopStep e s v := .of_parts fun p hp => by cases p <;> simp [v] at hp ⊢
  have h2 : StopStep e v w := .foldl _ _ _ fun s c _ => .of_finishCmd s c st he
  have h3 : StopStep e w x := .of_parts fun p hp => by cases p <;> simp [x] at hp ⊢
  have h4 := ((h1.trans h2).trans h3).trans (.of_write (j := txIdx n) x (.num 0))
  exact h4.trans (.of_put _ (by decide) (by decide) (txIdx_ne_svcIdx he n))

/-! ### The flows of an engine that are left -/

theorem mem_tput {α : Type} {l : Tbl α} {k : Nat} {v : α} {x : Nat × α} (h : x ∈ tput l k v) : x.1 = k ∨ x ∈ l := by
  induction l with
  | nil => exact .inl (congrArg Prod.fst (List.mem_singleton.mp h))
  | cons p r ih =>
    unfold tput at h
    split at h
    · exact (List.mem_cons.mp h).imp (congrArg Prod.fst) (List.mem_cons_of_mem _)
    · split at h
      · exact (List.mem_cons.mp h).imp (congrArg Prod.fst) id
      · rcases List.mem_cons.mp h with h | h
        · exact .inr (h ▸ .head _)
        · exact (ih h).imp id (List.mem_cons_of_mem _)

theorem setRx_keys (s : State) (f : RxFlow → RxFlow) : ∀ x ∈ (s.setRx n f).rx.flows, x.1 = n ∨ x ∈ s.rx.flows := by
  intro x hx
  unfold State.setRx at hx
  split at hx
  · exact mem_tput hx
  · exact .inr hx

theorem sendEnd_flows (s : State) (n c : Nat) : (sendEnd s n c).rx.flows = s.rx.flows := by
  unfold sendEnd sendWords
  dsimp only
  split
  · split
    · rfl
    · exact congrArg (·.flows) ((((outside_put s _ _ _).mono (by decide : _ ⊆ [.cat, .mgmt])).andThen
        (outside_raiseAtMost _ _ _ _ _) (by decide)) .rx (by decide))
  · rfl

theorem dropBuffer_keys (s : State) : ∀ x ∈ (dropBuffer s n).rx.flows, x.1 = n ∨ x ∈ s.rx.flows := by
  unfold dropBuffer
  extract_lets e ahead w
  have hw : w.rx.flows = s.rx.flows := by
    simp only [w]
    split <;> rfl
  rw [← hw]
  exact setRx_keys w _

theorem stopRx_keys (s : State) : ∀ x ∈ (stopRx s n).rx.flows, x.1 ≠ n ∧ ∃ y ∈ s.rx.flows, y.1 = x.1 := by
  intro x hx
  have hr : (stopRx s n).rx.flows = tdel (dropBuffer (sendEnd s n 0) n).rx.flows n := by
    unfold stopRx
    simp
  rw [hr] at hx
  obtain ⟨hx, hne⟩ := List.mem_filter.mp hx
  have hne' : x.1 ≠ n := by simpa using hne
  have hd := (dropBuffer_keys _ x hx).resolve_left hne'
  rw [sendEnd_flows] at hd
  exact ⟨hne', x, hd, rfl⟩

/-- Flows that are stopped one after another are gone. -/
theorem foldl_stops {β : Type} {flows : State → List (Nat × β)} {stop : State → Nat → State}
    (h : ∀ s n, ∀ x ∈ flows (stop s n), x.1 ≠ n ∧ ∃ y ∈ flows s, y.1 = x.1) (l : List Nat) (s : State) :
    ∀ x ∈ flows (l.foldl stop s), x.1 ∉ l ∧ ∃ y ∈ flows s, y.1 = x.1 := by
  induction l generalizing s with
  | nil => exact fun x hx => ⟨List.not_mem_nil, x, hx, rfl⟩
  | cons n l ih =>
    intro x hx
    obtain ⟨hl, y, hy, hyx⟩ := ih (stop s n) x hx
    obtain ⟨hn, z, hz, hzy⟩ := h s n y hy
    exact ⟨fun h => (List.mem_cons.mp h).elim (fun h => hn (hyx.trans h)) hl, z, hz, hzy.trans hyx⟩

theorem foldl_stops_all {β : Type} {flows : State → List (Nat × β)} {stop : State → Nat → State}
    (h : ∀ s n, ∀ x ∈ flows (stop s n), x.1 ≠ n ∧ ∃ y ∈ flows s, y.1 = x.1) (e : Nat) (s : State) :
    ∀ x ∈ flows ((((flows s).filter fun x => x.1 / 4096 = e).map (·.1)).foldl stop s), x.1 / 4096 ≠ e := by
  intro x hx he
  obtain ⟨hn, y, hy, hyx⟩ := foldl_stops h _ s x hx
  exact hn (List.mem_map.mpr ⟨y, List.mem_filter.mpr ⟨hy, by simpa [hyx] using he⟩, hyx⟩)

theorem stopTx_keys (st : Nat) (s : State) : ∀ x ∈ (stopTx s n st).tx.flows, x.1 ≠ n ∧ ∃ y ∈ s.tx.flows, y.1 = x.1 := by
  intro x hx
  have hr : (stopTx s n st).tx.flows = tdel s.tx.flows n := by
    unfold stopTx
    simp
  rw [hr] at hx
  obtain ⟨hx, hne⟩ := List.mem_filter.mp hx
  exact ⟨by simpa using hne, x, hx, rfl⟩

/-- Every flow of an engine is stopped (R356). -/
theorem stopFlows_spec (s : State) (st : Nat) (he : e < 8) : StopStep e s (stopFlows s e st) ∧
    (∀ x ∈ (stopFlows s e st).rx.flows, x.1 / 4096 ≠ e) ∧ ∀ x ∈ (stopFlows s e st).tx.flows, x.1 / 4096 ≠ e := by
  unfold stopFlows
  extract_lets v
  have hv : StopStep e s v := .foldl _ _ _ fun s n hn => by
    obtain ⟨y, hy, rfl⟩ := List.mem_map.mp hn
    have : y.1 / 4096 = e := by simpa using (List.mem_filter.mp hy).2
    exact stopRx_stop s he (by omega)
  have hrx : (((v.tx.flows.filter fun x => x.1 / 4096 = e).map (·.1)).foldl (fun s n => stopTx s n st) v).rx = v.rx :=
    foldl_keeps (·.rx) (fun s n _ => by simp) v
  refine ⟨hv.trans (.foldl _ _ _ fun s n _ => stopTx_stop s st he), ?_, ?_⟩
  · rw [hrx]
    exact foldl_stops_all (flows := (·.rx.flows)) (stop := stopRx) (fun s n => stopRx_keys s) e s
  · exact foldl_stops_all (flows := (·.tx.flows)) (stop := fun s n => stopTx s n st) (fun s n => stopTx_keys st s) e v

/-- An engine's change of service state (R355, R360). -/
theorem putService_spec (s : State) (st : Nat) (he : e < 8) : (putService s e st).service e = st ∧
    (putService s e st).num (svcIdx e) 5 = s.num (svcIdx e) 5 ∧ Raised s (putService s e st) 0x4C0 ∧
    EventsBut [0x4C0] s (putService s e st) ∧ Outside [.cat, .mgmt] s (putService s e st) := by
  have hl : svcIdx e < 0x0E0000 := (svcIdx_low he).trans (by decide)
  have hp : PlainIndex (svcIdx e) := by
    simp only [PlainIndex, svcIdx]
    omega
  have hev : EventsBut [] s ((s.put (svcIdx e) 1 st).put (svcIdx e) 6 s.rulingPick) :=
    (EventsBut.put_other s (by decide) (by decide)).trans (.put_other _ (by decide) (by decide))
  refine ⟨?_, ?_, hev.raised (by decide) (by decide) (by decide), (hev.mono (by decide)).trans (.of_raise _ (by decide)),
    fun p hp => by cases p <;> simp at hp ⊢⟩
  · unfold putService State.service
    rw [num_raise (by decide) _ _ (by decide) (.inl hl), num_put_of_apart (by decide) (by decide) (.inr (by decide))
      (.inr (.inr (.inr hp))), num_put_self]
  · unfold putService
    rw [num_raise (by decide) _ _ (by decide) (.inl hl), num_put_of_apart (by decide) (by decide) (.inr (by decide))
      (.inr (.inr (.inr hp))), num_put_of_apart (by decide) (by decide) (.inr (by decide)) (.inr (.inl (by decide)))]

/-- The NI of an engine's packet staging begins to drain (R432). -/
theorem drainNi_staging (s : State) (he : e < 8) : EventsBut [0xA0B] s (drainNi s (0x30 + e)) ∧
    (∀ a, a < 256 → (drainNi s (0x30 + e)).num (svcIdx e) a = s.num (svcIdx e) a) ∧
    Outside [.cat, .mgmt] s (drainNi s (0x30 + e)) := by
  refine ⟨?_, fun a ha => ?_, fun p hp => by cases p <;> simp at hp ⊢⟩
  · unfold drainNi putNi
    split
    · split
      · exact .refl _ _
      · exact (EventsBut.put_other s (by decide) (by decide)).trans (.of_raise _ (by decide))
    · exact .refl _ _
  · have hi : 0x090800 + (0x30 + e) ≠ svcIdx e := by
      simp only [svcIdx]
      omega
    unfold drainNi putNi
    split
    · split
      · rfl
      · rw [num_raise (by decide) _ _ ha (.inl ((svcIdx_low he).trans (by decide))),
          num_put_of_apart (by decide) ha (.inl hi) (.inl hi)]
    · rfl

/-- An engine that served has left service (R356). -/
theorem leaveService_spec (s : State) (st : Nat) (he : e < 8) : (leaveService s e st).service e = st ∧
    (leaveService s e st).num (svcIdx e) 5 = s.num (svcIdx e) 5 ∧ Raised s (leaveService s e st) 0x4C0 ∧
    EventsBut [0x010, 0x430, 0x482, 0x4C0, 0xA0B] s (leaveService s e st) ∧ (∀ x ∈ (leaveService s e st).rx.flows,
      x.1 / 4096 ≠ e) ∧ (∀ x ∈ (leaveService s e st).tx.flows, x.1 / 4096 ≠ e) ∧
    Outside [.cat, .gen, .ruling, .mgmt, .rx, .tx] s (leaveService s e st) := by
  unfold leaveService
  obtain ⟨h1, h2, h3⟩ := stopFlows_spec s stEngineOut he
  obtain ⟨p1, p2, p3, p5, p4⟩ := putService_spec (stopFlows s e stEngineOut) st he
  obtain ⟨d1, d2, d3⟩ := drainNi_staging (putService (stopFlows s e stEngineOut) e st) he
  generalize stopFlows s e stEngineOut = v at *
  generalize putService v e st = w at *
  have hwv := p4.andThen d3 (by decide)
  refine ⟨(d2 1 (by decide)).trans p1, ((d2 5 (by decide)).trans p2).trans h1.errors, ?_, ?_, ?_, ?_,
    h1.outside.andThen hwv (by decide)⟩
  · exact (p3.then_events d1 (by decide) (by decide) (by decide)).after_events h1.events (by decide) (by decide) (by decide)
  · exact ((h1.events.mono (by decide)).trans (p5.mono (by decide))).trans (d1.mono (by decide))
  · rw [hwv .rx (by decide)]
    exact h2
  · rw [hwv .tx (by decide)]
    exact h3

/-- REMOVE does one of four things (R355, R356). -/
theorem removeRule_apply (s : State) (b : Bool) (r : Req) (v : Nat) :
    ((v ≠ 1 ∨ s.service e = svOut ∨ s.service e = svFailed) → (removeRule e).apply s b r (.num v) = { s := s }) ∧
    (v = 1 → s.service e = svIn → (s.tx.svc.getD e {}).pattern = true →
      (removeRule e).apply s b r (.num v) = { s := s, status := stBusy }) ∧
    (v = 1 → s.service e = svIn → (s.tx.svc.getD e {}).pattern = false →
      (removeRule e).apply s b r (.num v) = { s := leaveService s e svOut }) ∧
    (v = 1 → s.service e ≠ svOut → s.service e ≠ svFailed → s.service e ≠ svIn →
      (removeRule e).apply s b r (.num v) = { s := putService s e svOut }) := by
  refine ⟨fun h => if_pos h, fun hv hs hp => ?_, fun hv hs hp => ?_, fun hv ho hf hi => ?_⟩
  · exact (if_neg (by simp [valNum, hv, hs]; decide)).trans ((if_pos hs).trans (if_pos hp))
  · exact (if_neg (by simp [valNum, hv, hs]; decide)).trans ((if_pos hs).trans (if_neg (by simp only [hp]; decide)))
  · exact (if_neg (by simp [valNum, hv, ho, hf])).trans (if_neg hi)

/-- What REMOVE changes, whichever it does. -/
theorem removeRule_outside (s : State) (b : Bool) (r : Req) (v : Nat) (he : e < 8) :
    Outside [.cat, .gen, .ruling, .mgmt, .rx, .tx] s ((removeRule e).apply s b r (.num v)).s := by
  obtain ⟨h1, h2, h3, h4⟩ := removeRule_apply (e := e) s b r v
  obtain ⟨-, -, -, -, -, -, hl⟩ := leaveService_spec s svOut he
  obtain ⟨-, -, -, -, hp4⟩ := putService_spec s svOut he
  generalize leaveService s e svOut = w, putService s e svOut = x at *
  by_cases hq : v ≠ 1 ∨ s.service e = svOut ∨ s.service e = svFailed
  · rw [h1 hq]
    exact .refl _ _
  · obtain ⟨hv, ho, hf⟩ : v = 1 ∧ s.service e ≠ svOut ∧ s.service e ≠ svFailed := by simpa using hq
    by_cases hs : s.service e = svIn
    · cases hp : (s.tx.svc.getD e {}).pattern with
      | true =>
        rw [h2 hv hs hp]
        exact .refl _ _
      | false =>
        rw [h3 hv hs hp]
        exact hl
    · rw [h4 hv ho hf hs]
      exact hp4.mono (by decide)

/-- REMOVE (R355, R356). -/
theorem does_remove {r : Req} {e : Fin 8} {v : Nat} (hw : AtOnce s r (ent (svcIdx e) 2) (.num v) (removeRule e)) :
    Does (.remove r e v) s fun u => Outside [.cat, .gen, .ruling, .cap, .mgmt, .rx, .tx, .upd] s u ∧
      (v = 1 → s.service e = svIn → (s.tx.svc.getD e {}).pattern = false → Ok u ∧ u.service e = svOut ∧ Raised s u 0x4C0 ∧
        (∀ x ∈ u.rx.flows, x.1 / 4096 ≠ e) ∧ (∀ x ∈ u.tx.flows, x.1 / 4096 ≠ e)) ∧
      (v = 1 → s.service e = svIn → (s.tx.svc.getD e {}).pattern = true → u.cap.answer = { status := stBusy } ∧
        u.rx = s.rx ∧ u.tx = s.tx ∧ u.cat = s.cat) ∧
      (v = 1 → (s.service e = svShadow ∨ s.service e = svReady) → Ok u ∧ u.service e = svOut ∧ Raised s u 0x4C0 ∧
        u.rx = s.rx ∧ u.tx = s.tx) ∧
      ((v ≠ 1 ∨ s.service e = svOut ∨ s.service e = svFailed) → Ok u ∧ u.rx = s.rx ∧ u.tx = s.tx ∧ u.cat = s.cat) := by
  obtain ⟨h1, h2, h3, h4⟩ := removeRule_apply (e := e) s false (carried r) v
  have ho := removeRule_outside (e := e) s false (carried r) v e.isLt
  obtain ⟨l1, -, l3, -, l4, l5, -⟩ := leaveService_spec s svOut e.isLt
  obtain ⟨p1, -, p3, -, p4⟩ := putService_spec s svOut e.isLt
  generalize leaveService s e svOut = w, putService s e svOut = x at *
  obtain ⟨d, hd⟩ : ∃ d, d = (removeRule e).apply s false (carried r) (.num v) := ⟨_, rfl⟩
  obtain ⟨a1, a2, a3⟩ := submit_atOnce_spec hw hd.symm
  rw [← hd] at h1 h2 h3 h4 ho
  clear hd
  refine ⟨_, rfl, (ho.mono (by decide)).andThen a3 (by decide), fun hv hs hp => ?_, fun hv hs hp => ?_, fun hv hs => ?_,
    fun hq => ?_⟩
  all_goals generalize submit s r (ent (svcIdx e) 2) (.num v) (removeRule e) = u at *
  · rw [h3 hv hs hp] at a1 a2 a3
    exact ⟨a1, (a2 _ _ (by decide)).trans l1, l3.congr (a2 _ _ (by decide)), a3 .rx (by decide) ▸ l4, a3 .tx (by decide) ▸ l5⟩
  · rw [h2 hv hs hp] at a1 a3
    exact ⟨a1, a3 .rx (by decide), a3 .tx (by decide), a3 .cat (by decide)⟩
  · rw [h4 hv (by rcases hs with h | h <;> rw [h] <;> decide) (by rcases hs with h | h <;> rw [h] <;> decide)
      (by rcases hs with h | h <;> rw [h] <;> decide)] at a1 a2 a3
    exact ⟨a1, (a2 _ _ (by decide)).trans p1, p3.congr (a2 _ _ (by decide)), (a3 .rx (by decide)).trans (p4 .rx (by decide)),
      (a3 .tx (by decide)).trans (p4 .tx (by decide))⟩
  · rw [h1 hq] at a1 a3
    exact ⟨a1, a3 .rx (by decide), a3 .tx (by decide), a3 .cat (by decide)⟩

/-- A fault that the service state does not mask takes the engine out of service (R355). -/
theorem does_fault {e : Fin 8} {fault : Fin 4} (hout : s.service e ≠ svOut) (hfailed : s.service e ≠ svFailed)
    (h3 : fault = 3 → s.service e ≠ svIn) (hhalt : s.pwr.halted = false) (hon : s.pwr.mgcOn = true) :
    Does (.engineInternalFault e fault) s fun u => u.service e = svFailed ∧ Raised s u 0x4C0 ∧ Raised s u 0x4C1 ∧
      (fault ≠ 3 → u.num (svcIdx e) 5 = (s.num (svcIdx e) 5 + 1) % 2 ^ 32) ∧
      (s.service e = svIn → (∀ x ∈ u.rx.flows, x.1 / 4096 ≠ e) ∧ (∀ x ∈ u.tx.flows, x.1 / 4096 ≠ e)) ∧
      Outside [.cat, .gen, .ruling, .mgmt, .rx, .tx] s u := by
  obtain ⟨v, hv⟩ : ∃ v, v = if fault.val < 3 then s.count (svcIdx e) 5 32 1 else s := ⟨_, rfl⟩
  obtain ⟨w, hw⟩ : ∃ w, w = if s.service e = svIn then leaveService v e svFailed else putService v e svFailed := ⟨_, rfl⟩
  have he : exec (.engineInternalFault e fault) s = .next (w.raise 0x4C1 e (be 1 fault)) := by
    rw [hw, hv]
    refine congrArg Host.Outcome.next (if_neg ?_)
    rintro (h | h | ⟨h, h'⟩ | h | h)
    · exact hout h
    · exact hfailed h
    · exact h3 (Fin.ext h) h'
    · exact absurd (hhalt.symm.trans h) (by decide)
    · simp [hon] at h
  have hvo : Outside [.cat] s v := hv ▸ .ite (outside_count s _ _ _ _) (.refl _ _)
  have hve : EventsBut [] s v := by
    rw [hv]
    split
    · exact .put_other s (by decide) (by decide)
    · exact .refl _ _
  have hv5 : fault ≠ 3 → v.num (svcIdx e) 5 = (s.num (svcIdx e) 5 + 1) % 2 ^ 32 := fun h => by
    rw [hv, if_pos (by omega), State.count, num_put_self]
  clear hv
  obtain ⟨l1, l2, l3, le, l4, l5, l6⟩ := leaveService_spec v svFailed e.isLt
  obtain ⟨p1, p2, p3, pe, p4⟩ := putService_spec v svFailed e.isLt
  have hwk : w.service e = svFailed ∧ w.num (svcIdx e) 5 = v.num (svcIdx e) 5 ∧ Raised v w 0x4C0 ∧
      Outside [.cat, .gen, .ruling, .mgmt, .rx, .tx] v w := by
    rw [hw]
    split
    · exact ⟨l1, l2, l3, l6⟩
    · exact ⟨p1, p2, p3, p4.mono (by decide)⟩
  have hwf : s.service e = svIn → (∀ x ∈ w.rx.flows, x.1 / 4096 ≠ e) ∧ ∀ x ∈ w.tx.flows, x.1 / 4096 ≠ e := fun h => by
    rw [hw, if_pos h]
    exact ⟨l4, l5⟩
  have hwe : w.num (0x0E1000 + 0x4C1) 7 = v.num (0x0E1000 + 0x4C1) 7 := by
    rw [hw]
    split
    · exact le 0x4C1 (by decide) (by decide) (by decide)
    · exact pe 0x4C1 (by decide) (by decide) (by decide)
  clear hw l1 l2 l3 le l4 l5 l6 p1 p2 p3 pe p4
  obtain ⟨w1, w2, w3, w4⟩ := hwk
  have hl : svcIdx e < 0x0E0000 := (svcIdx_low e.isLt).trans (by decide)
  have hro := outside_raise w 0x4C1 e (be 1 fault)
  refine ⟨_, he, ?_, ?_, ?_, fun h => ?_, fun h => ?_, ?_⟩
  · rw [State.service, num_raise (by decide) _ _ (by decide) (.inl hl)]
    exact w1
  · exact (w3.then_events (.of_raise (ms := [0x4C1]) w (by decide)) (by decide) (by decide) (by decide)).after_events hve
      (by decide) (by decide) (by decide)
  · exact raised_after (by decide) (hwe.trans (hve _ (by decide) (by decide) (by decide)))
  · rw [num_raise (by decide) _ _ (by decide) (.inl hl), w2, hv5 h]
  · rw [hro .rx (by decide), hro .tx (by decide)]
    exact hwf h
  · exact ((hvo.mono (by decide)).andThen w4 (by decide)).andThen hro (by decide)

/-- Settles O44: every flow table that is folded over loses the keys of the engine (`foldl_stops`), and what disabling flows may
raise or write (`StopStep`) is apart from the engine's service record. -/
theorem enginesLeaveServiceAndReturn : Obligations.EnginesLeaveServiceAndReturn := by
  unfold Obligations.EnginesLeaveServiceAndReturn
  refine ⟨?remove, ?fault, ?quiet, ?shadow, ?ready, ?reinstate, ?pattern⟩
  case remove =>
    intro s r e v hw
    exact does_remove hw
  case fault =>
    intro s e fault hout hfailed h3 hhalt hon
    exact does_fault hout hfailed h3 hhalt hon
  case quiet =>
    intro s e fault h
    refine congrArg Host.Outcome.next (if_pos ?_)
    rcases h with h | h | ⟨h, h'⟩
    · exact .inl h
    · exact .inr (.inl h)
    · exact .inr (.inr (.inl ⟨congrArg Fin.val h, h'⟩))
  case shadow =>
    intro s r e v hw
    by_cases hv : v = 1
    · obtain ⟨w, hw'⟩ : ∃ w : State, w =
        { s with tx := { s.tx with svc := lmod s.tx.svc e fun x => { x with shadowAt := s.now } } } := ⟨_, rfl⟩
      have ha : (shadowRule e).apply s false (carried r) (.num v) = { s := putService w e svShadow } := by
        rw [hw']
        exact if_neg (by simp [valNum, hv])
      have hwo : Outside [.tx] s w := hw' ▸ fun p hp => by cases p <;> simp at hp ⊢
      have hwf : w.tx.flows = s.tx.flows := by rw [hw']
      have hws : e.val < s.tx.svc.length → (w.tx.svc.getD e {}).shadowAt = s.now := fun h => by
        rw [hw']
        exact congrArg EngSvc.shadowAt (getD_lmod_self s.tx.svc _ _ _ h)
      clear hw'
      obtain ⟨p1, -, p3, -, p4⟩ := putService_spec w svShadow e.isLt
      refine does_write rfl hw ha fun u hu => ⟨hu.ok, fun _ => ⟨(hu.num _ _).trans p1, ?_, ?_, fun h => ?_⟩,
        fun h => absurd hv h, ?_⟩
      · exact (p3.congr (hu.num _ _)).after_events (ms := []) (.of_cat (hwo .cat (by decide))) (by decide) (by decide)
          (by decide)
      · rw [hu.outside .tx (by decide), p4 .tx (by decide), hwf]
      · rw [hu.outside .tx (by decide), p4 .tx (by decide), hws h]
      · exact ((hwo.mono (by decide)).andThen p4 (by decide)).andThen hu.outside (by decide)
    · have ha : (shadowRule e).apply s false (carried r) (.num v) = { s := s } := if_pos (by simp [valNum, hv])
      exact does_write rfl hw ha fun u hu => ⟨hu.ok, fun h => absurd h hv, fun _ => ⟨hu.outside .tx (by decide), hu.cat⟩,
        hu.outside.mono (by decide)⟩
  case ready =>
    intro s e hs
    obtain ⟨w, hw⟩ : ∃ w, w = s.waitUntil ((s.tx.svc.getD e {}).shadowAt + 100000000) := ⟨_, rfl⟩
    have he : exec (.engineShadowReady e) s = .next (putService w e svReady) := by
      rw [hw]
      exact congrArg Host.Outcome.next (if_pos hs)
    have hwo : Outside [.now, .tim] s w := hw ▸ outside_waitUntil s _
    have hnow : w.now = max s.now ((s.tx.svc.getD e {}).shadowAt + 100000000) := by rw [hw, now_waitUntil_max]
    clear hw
    obtain ⟨p1, -, p3, -, p4⟩ := putService_spec w svReady e.isLt
    exact ⟨_, he, (p4 .now (by decide)).trans hnow, p1, p3.after_events (ms := []) (.of_cat (hwo .cat (by decide))) (by decide)
      (by decide) (by decide), (hwo.mono (by decide)).andThen p4 (by decide)⟩
  case reinstate =>
    intro s r e v hw hcap
    by_cases hv : v = 1
    · obtain ⟨x, hx, hreq⟩ := requestTask_fits (o := e) hcap
      have ha : (engineReinstateRule e).apply s false (carried r) (.num v) = { s := { s with ruling := x } } := by
        simp [engineReinstateRule, valNum, hv, requestDone, hreq]
      refine does_write rfl hw ha fun u hu => ⟨hu.ok, ?_, ?_⟩
      · rw [if_pos hv, hu.ruling, ← hx]
      · exact ((outside_withRuling s x).mono (by decide)).andThen hu.outside (by decide)
    · have ha : (engineReinstateRule e).apply s false (carried r) (.num v) = { s := s } := by
        simp [engineReinstateRule, valNum, hv]
      refine does_write rfl hw ha fun u hu => ⟨hu.ok, ?_, hu.outside.mono (by decide)⟩
      rw [if_neg hv, List.append_nil, hu.ruling]
  case pattern =>
    intro s e hon
    exact ⟨_, congrArg Host.Outcome.next (if_pos hon), fun p hp => by cases p <;> simp at hp ⊢, rfl⟩

end Sys2Proof.Machine
end

section
/-! How a shuttle issues an instruction (R371 to R373, R376; obligation O45). -/

namespace Sys2Proof.Machine

variable {s t u : State} {h : Nat} {x y z : Shuttle} {i : ShInstr}

/-! ### What leaves the sequencing of a shuttle alone -/

/-- Registers, memories, queues and writes on their way may differ, and nothing that sequences instructions does. -/
def DataStep (x y : Shuttle) : Prop :=
  y = { x with dm := y.dm, w := y.w, a := y.a, aPrev := y.aPrev, p := y.p, m := y.m, l := y.l, cnt := y.cnt, scl := y.scl,
               st := y.st, rc := y.rc, st1 := y.st1, st2 := y.st2, wD1 := y.wD1, wD2 := y.wD2, delayed := y.delayed,
               si := y.si, so := y.so, ci := y.ci, ciDelayed := y.ciDelayed, fq := y.fq, descs := y.descs, fd := y.fd }

theorem DataStep.refl (x : Shuttle) : DataStep x x := rfl

theorem DataStep.trans (h : DataStep x y) (h' : DataStep y z) : DataStep x z := by
  unfold DataStep at h h' ⊢
  rw [h'] 
  rw [h]

theorem DataStep.foldl {α : Type} {f : Shuttle → α → Shuttle} (h : ∀ x a, DataStep x (f x a)) (l : List α) (x : Shuttle) :
    DataStep x (l.foldl f x) := by
  induction l generalizing x with
  | nil => exact .refl x
  | cons a l ih => exact (h x a).trans (ih _)

theorem DataStep.pc (h : DataStep x y) : y.pc = x.pc := by
  unfold DataStep at h
  rw [h]
theorem DataStep.slots (h : DataStep x y) : y.slots = x.slots := by
  unfold DataStep at h
  rw [h]
theorem DataStep.rpt (h : DataStep x y) : y.rpt = x.rpt := by
  unfold DataStep at h
  rw [h]
theorem DataStep.cycles (h : DataStep x y) : y.cycles = x.cycles := by
  unfold DataStep at h
  rw [h]
theorem DataStep.savedPc (h : DataStep x y) : y.savedPc = x.savedPc := by
  unfold DataStep at h
  rw [h]
theorem DataStep.waiting (h : DataStep x y) : y.waiting = x.waiting := by
  unfold DataStep at h
  rw [h]
theorem DataStep.image (h : DataStep x y) : y.image = x.image := by
  unfold DataStep at h
  rw [h]

theorem DataStep.dmPut (x : Shuttle) (a v : Nat) : DataStep x (x.dmPut a v) := rfl

theorem DataStep.ite {p : Prop} [Decidable p] (h : DataStep x y) (h' : DataStep x z) : DataStep x (if p then y else z) := by
  split
  · exact h
  · exact h'

theorem DataStep.land (x : Shuttle) (c v : Nat) : DataStep x (x.land c v) :=
  .ite rfl (.ite rfl (.ite rfl (.ite rfl (.ite rfl (.ite rfl (.ite rfl (.ite (.dmPut ..) (.ite rfl rfl))))))))

theorem DataStep.later (x : Shuttle) (c v : Nat) : DataStep x (x.later c v) := rfl
theorem DataStep.setW (x : Shuttle) (r v : Nat) : DataStep x (x.setW r v) := rfl
theorem DataStep.updSt (x : Shuttle) (f : Nat → Nat) : DataStep x (x.updSt f) := rfl
theorem DataStep.moveSt (x : Shuttle) (v : Nat) : DataStep x (x.moveSt v) := rfl

/-! ### Pointer updates and memory accesses -/

/-- Pointers, their hidden counts and the writes on their way may differ. -/
def PtrStep (x y : Shuttle) : Prop := y = { x with p := y.p, cnt := y.cnt, delayed := y.delayed }

theorem PtrStep.trans (h : PtrStep x y) (h' : PtrStep y z) : PtrStep x z := by
  unfold PtrStep at h h' ⊢
  rw [h']
  rw [h]

theorem PtrStep.data (h : PtrStep x y) : DataStep x y := by
  unfold PtrStep at h
  unfold DataStep
  rw [h]

theorem PtrStep.advance (x : Shuttle) (k j mode : Nat) : PtrStep x (x.advance k j mode) := by
  obtain ⟨y, hy⟩ : ∃ y, y = x.advance k j mode := ⟨_, rfl⟩
  rw [← hy]
  unfold Shuttle.advance at hy
  extract_lets p m l q base r at hy
  split at hy
  · split_ifs at hy <;> subst hy <;> rfl
  · split_ifs at hy <;> subst hy <;> rfl
  · split_ifs at hy <;> subst hy <;> rfl
  · subst hy
    rfl

theorem PtrStep.load (x : Shuttle) (r k j mode : Nat) (dst : Option Nat) : PtrStep x (x.load r k j mode dst) := by
  unfold Shuttle.load
  extract_lets v y
  have hy : PtrStep x y := by
    simp only [y]
    split_ifs <;> rfl
  exact hy.trans (.advance y k j mode)

theorem PtrStep.store (x : Shuttle) (v k j mode : Nat) : PtrStep x (x.store v k j mode) :=
  PtrStep.trans (y := x.later (codeMem + x.p.getD k 0) v) rfl (.advance _ k j mode)

theorem PtrStep.access (x : Shuttle) (a : MemAccess) (port : Nat) (dst sent : Option Nat) :
    PtrStep x (x.access a port dst sent) := by
  unfold Shuttle.access
  split_ifs
  · rfl
  · exact .store ..
  · exact .load ..

theorem PtrStep.accesses (x : Shuttle) (mx my : MemAccess) (dst sent : Option Nat) : PtrStep x (x.accesses mx my dst sent) :=
  (PtrStep.access x mx 0 dst sent).trans (.access _ my 1 dst none)

theorem PtrStep.qload (x : Shuttle) (l : QLoad) (port : Nat) : PtrStep x (x.qload l port) := by
  unfold Shuttle.qload
  split_ifs
  · rfl
  · exact .load ..

/-! ### Issue points -/

theorem DataStep.take (x : Shuttle) (v : Nat) (f : Nat → Nat) : DataStep x ({ x with ci := v }.updSt f) := rfl

theorem DataStep.arrive (x : Shuttle) : DataStep x x.arrive := by
  unfold Shuttle.arrive
  extract_lets due y
  exact DataStep.trans (y := y) rfl (.foldl (fun x c => .take x c.2 _) due y)

theorem DataStep.landAll (l : List Delayed) (x : Shuttle) : DataStep x (l.foldl (fun x d => x.land d.reg d.val) x) :=
  .foldl (fun x d => .land x d.reg d.val) l x

theorem DataStep.tick (x : Shuttle) : DataStep x x.tick := by
  unfold Shuttle.tick
  extract_lets due y
  exact DataStep.trans (y := y) rfl (.landAll due y)

theorem DataStep.flush (x : Shuttle) : DataStep x x.flush := by
  unfold Shuttle.flush
  extract_lets y
  exact (DataStep.trans (y := { x with delayed := [] }) rfl (.landAll x.delayed _)).trans rfl

theorem DataStep.front (s : State) (h : Nat) : DataStep (s.sh h) ((s.front h).sh h) := by
  unfold State.front
  rw [sh_setSh_self]
  exact (DataStep.arrive _).trans (.tick _)

theorem othersKept_setSh (s : State) (h : Nat) (f : Shuttle → Shuttle) : OthersKept s (s.setSh h f) h :=
  fun k hk => sh_setSh_ne s h k f (Ne.symm hk)

theorem OthersKept.trans (h1 : OthersKept s t h) (h2 : OthersKept t u h) : OthersKept s u h := fun k hk => (h2 k hk).trans
    (h1 k hk)

theorem othersKept_of_shu (h' : t.shu = s.shu) : OthersKept s t h := fun k _ => sh_congr h' k

theorem outside_setSh (s : State) (h : Nat) (f : Shuttle → Shuttle) : Outside [.shu] s (s.setSh h f) := fun p hp => by
  cases p <;> simp at hp ⊢

/-- The state in which an instruction that stands at shuttle `h` has its effect. -/
def State.sequenced (s : State) (h : Nat) : State := (s.front h).setSh h Shuttle.sequence

theorem sequenced_sh (s : State) (h : Nat) : (s.sequenced h).sh h = ((s.front h).sh h).sequence := sh_setSh_self ..

theorem sequenced_outside (s : State) (h : Nat) : Outside [.shu] s (s.sequenced h) :=
  (outside_setSh s h _).trans (outside_setSh _ h _)

theorem sequenced_others (s : State) (h : Nat) : OthersKept s (s.sequenced h) h :=
  (othersKept_setSh s h _).trans (othersKept_setSh _ h _)

/-- What comes after the effect: the end of an RTI's delay slots (R376). -/
def resumed (h : Nat) (x : Shuttle) (u : State) : State := if x.slots = 1 ∧ x.retSlots then u.setSh h Shuttle.resume else u

theorem issueOne_stands {f : Shuttle → State → ShInstr → Option State} (hs : Stands s h i x)
    (hf : f x (s.sequenced h) i = some u) :
    issueOne h f s = resumed h x u := by
  obtain ⟨hm, hi, hx, hb⟩ := hs
  subst hx
  unfold issueOne
  rw [if_pos hm, hi]
  dsimp only
  rw [if_neg (by simp [hb])]
  unfold State.sequenced at hf
  rw [hf]
  rfl

theorem issueOne_other {f : Shuttle → State → ShInstr → Option State} (hi : s.fetched h = some i) (hf : ∀ x t, f x t i = none) :
    issueOne h f s = s := by
  unfold issueOne
  split
  · rw [hi]
    dsimp only
    split
    · rfl
    · rw [hf]
  · rfl

/-! ### Port operands -/

theorem streamFault_spec (s : State) (h port : Nat) : Outside [.cat, .mgmt] s (streamFault s h port) := fun p hp => by
  cases p <;> simp at hp ⊢

/-- What a change of shuttle `h` that sequences nothing does to the state. -/
structure OperandStep (h : Nat) (s t : State) : Prop where
  outside : Outside [.fresh, .cat, .mgmt, .shu] s t
  others : OthersKept s t h
  data : DataStep (s.sh h) (t.sh h)

theorem OperandStep.trans (h1 : OperandStep h s t) (h2 : OperandStep h t u) : OperandStep h s u :=
  ⟨h1.outside.andThen h2.outside (by decide), h1.others.trans h2.others, h1.data.trans h2.data⟩

theorem OperandStep.of_shu (ho : Outside [.fresh, .cat, .mgmt] s t) : OperandStep h s t :=
  ⟨ho.mono (by decide), othersKept_of_shu (ho .shu (by decide)), by rw [sh_congr (ho .shu (by decide))]; exact .refl _⟩

theorem OperandStep.setSh (s : State) (h : Nat) {f : Shuttle → Shuttle} (hf : DataStep (s.sh h) (f (s.sh h))) :
    OperandStep h s (s.setSh h f) :=
  ⟨(outside_setSh s h f).mono (by decide), othersKept_setSh s h f, by rw [sh_setSh_self]; exact hf⟩

theorem OperandStep.takeStream (s : State) (h i : Nat) : OperandStep h s (takeStream s h i).1 := by
  unfold Sys2Proof.Machine.takeStream
  split
  · dsimp only
    exact .setSh s h rfl
  · exact (OperandStep.setSh s h (.updSt _ _)).trans (.of_shu ((streamFault_spec _ h i).mono (by decide)))

theorem OperandStep.putStream (s : State) (h i v : Nat) : OperandStep h s (putStream s h i v) := by
  unfold Sys2Proof.Machine.putStream
  dsimp only
  split
  · exact .setSh s h rfl
  · exact (OperandStep.setSh s h (.updSt _ _)).trans (.of_shu ((streamFault_spec _ h _).mono (by decide)))

theorem OperandStep.putFq (s : State) (h v : Nat) : OperandStep h s (putFq s h v) := by
  unfold Sys2Proof.Machine.putFq
  refine .setSh s h ?_
  split
  · split
    · rfl
    · exact DataStep.trans (y := { s.sh h with fq := [] }) rfl (.updSt _ _)
  · rfl

theorem OperandStep.takeFd (s : State) (h : Nat) : OperandStep h s (takeFd s h).1 := by
  unfold Sys2Proof.Machine.takeFd
  split
  · dsimp only
    exact .setSh s h rfl
  · exact .of_shu ((outside_draw s).mono (by decide))

theorem OperandStep.refl (s : State) : OperandStep h s s := .of_shu (.refl _ _)

theorem OperandStep.readSource (s : State) (h c : Nat) : OperandStep h s (readSource s h c).1 := by
  unfold Sys2Proof.Machine.readSource
  split
  · exact .refl s
  · exact .takeStream s h 0
  · exact .takeStream s h 1
  · exact .refl s
  · exact .takeFd s h
  · exact .refl s
  · exact .refl s

theorem OperandStep.writeDest (s : State) (h c v : Nat) : OperandStep h s (writeDest s h c v) := by
  unfold Sys2Proof.Machine.writeDest
  split
  · exact .setSh s h (.moveSt _ _)
  · exact .putStream s h 0 v
  · exact .putStream s h 1 v
  · exact .putFq s h v
  · exact .setSh s h (.ite (.setW ..) (.later ..))

/-! ### Effects -/

theorem DataStep.macUnits (x : Shuttle) (lm sg : Nat) (slots : List MacSlot) (y : Shuttle) :
    DataStep y (macUnits x lm sg slots y) := by
  unfold Sys2Proof.Machine.macUnits
  refine .foldl (fun z k => ?_) _ y
  extract_lets mine sums r z'
  split
  · rfl
  · split
    · exact DataStep.trans (y := z') rfl (.updSt z' _)
    · rfl

theorem putCo_spec (s : State) (h v : Nat) : Outside [.shu] s (putCo s h v) ∧ DataStep (s.sh h) ((putCo s h v).sh h) := by
  unfold putCo
  extract_lets n
  split
  · exact ⟨.refl _ _, .refl _⟩
  · next k _ =>
    refine ⟨outside_setSh s k _, ?_⟩
    by_cases hk : k = h
    · subst hk
      rw [sh_setSh_self]
      exact .ite rfl (DataStep.trans (y := { s.sh k with ciDelayed := [(0, v)] }) rfl (.arrive _))
    · rw [sh_setSh_ne s k h _ hk]
      exact .refl _

/-- What the effect of an instruction leaves of the state `t` it begins from. -/
structure Effect (h : Fin 512) (c : Instr) (i : ShInstr) (t u : State) : Prop where
  outside : Outside [.fresh, .cat, .mgmt, .shu] t u
  cycles : (u.sh h).cycles = (t.sh h).cycles
  others : c ≠ .mvco h → OthersKept t u h
  data : i.redirects = false → DataStep (t.sh h) (u.sh h)

theorem Effect.of_step {h : Fin 512} {c : Instr} (hs : OperandStep h t u) : Effect h c i t u :=
  ⟨hs.outside, hs.data.cycles, fun _ => hs.others, fun _ => hs.data⟩

theorem Effect.of_setSh {h : Fin 512} {c : Instr} (t : State) {f : Shuttle → Shuttle} (hf : DataStep (t.sh h) (f (t.sh h))) :
    Effect h c i t (t.setSh h f) := .of_step (.setSh t h hf)

/-- An instruction that redirects may move the program counter. -/
theorem Effect.of_control {h : Fin 512} {c : Instr} (t : State) {f : Shuttle → Shuttle} (hi : i.redirects = true)
    (hf : (f (t.sh h)).cycles = (t.sh h).cycles) : Effect h c i t (t.setSh h f) :=
  ⟨(outside_setSh t h f).mono (by decide), by rw [sh_setSh_self, hf], fun _ => othersKept_setSh t h f,
    fun h' => absurd (hi.symm.trans h') (by decide)⟩

/-- The row of the command table that runs an instruction: `f` gives its effect, and no effect for the instructions of other
rows. -/
structure Row (h : Fin 512) (c : Instr) (i : ShInstr) (f : Shuttle → State → ShInstr → Option State) : Prop where
  runs : ∀ s, exec c s = .next (issueOne h f s)
  effect : ∀ x t, ∃ u, f x t i = some u ∧ Effect h c i t u
  quiet : ∀ j, commandOf h j ≠ some c → ∀ x t, f x t j = none

theorem row_alu {h : Fin 512} {c : Instr} {op rd rs1 rs2 imm n : Nat} {mx my : MemAccess}
    (hc : commandOf h (.alu op rd rs1 rs2 n imm mx my) = some c) :
    Row h c (.alu op rd rs1 rs2 n imm mx my) (aluEffect op h) := by
  refine ⟨fun s => ?_, fun x t => ?_, fun j hj x t => ?_⟩
  · have ho : op < 23 := (List.getElem?_eq_some_iff.mp hc).1
    interval_cases op <;> cases hc <;> rfl
  · unfold aluEffect
    dsimp only
    rw [if_pos rfl]
    refine ⟨_, rfl, .of_setSh t ?_⟩
    have h1 := (PtrStep.accesses (t.sh h) mx my (if (aluOp op (x.w.getD rs1 0) (if n = 1 then wrap 48 (signed 15 imm) else x.w.getD rs2 0)).rd = true then some rd else none) none).data
    exact .ite ((h1.trans (.updSt _ _)).trans (.setW ..)) (h1.trans (.updSt _ _))
  · unfold aluEffect
    split
    · next o _ _ _ _ _ _ _ =>
      rw [if_neg]
      rintro rfl
      exact hj hc
    · rfl

theorem row_acc {h : Fin 512} {c : Instr} {op arr k width rd dm : Nat} {mx my : MemAccess}
    {F : Shuttle → State → Nat → Nat → Nat → Nat → Nat → MemAccess → MemAccess → State}
    (hc : commandOf h (.acc op arr k width rd dm mx my) = some c)
    (hr : ∀ s, exec c s = .next (issueOne h (fun x t i => accEffect op (F x t) i) s))
    (he : ∀ x t, Effect h c (.acc op arr k width rd dm mx my) t (F x t arr k width rd dm mx my)) :
    ∃ f, Row h c (.acc op arr k width rd dm mx my) f := by
  refine ⟨_, hr, fun x t => ⟨_, if_pos rfl, he x t⟩, fun j hj x t => ?_⟩
  unfold accEffect
  split
  · rw [if_neg]
    rintro rfl
    exact hj hc
  · rfl

theorem row_ctl {h : Fin 512} {c : Instr} {op cond opd : Nat} {F : Shuttle → State → Nat → Nat → State}
    (hc : commandOf h (.ctl op cond opd) = some c)
    (hr : ∀ s, exec c s = .next (issueOne h (fun x t i => ctlEffect op (F x t) i) s))
    (he : ∀ x t, Effect h c (.ctl op cond opd) t (F x t cond opd)) : ∃ f, Row h c (.ctl op cond opd) f := by
  refine ⟨_, hr, fun x t => ⟨_, if_pos rfl, he x t⟩, fun j hj x t => ?_⟩
  unfold ctlEffect
  split
  · rw [if_neg]
    rintro rfl
    exact hj hc
  · rfl

theorem mvaEffect_step (h : Nat) (x : Shuttle) (t : State) (arr k width rd dm : Nat) (mx my : MemAccess) :
    OperandStep h t (mvaEffect h x t arr k width rd dm mx my) := by
  unfold mvaEffect
  extract_lets r
  refine .setSh t h ?_
  have h1 := (PtrStep.accesses (t.sh h) mx my none (some (scaledMove arr k width x.scl x.aPrev).1)).data
  have h2 := (PtrStep.accesses (t.sh h) mx my (some rd) none).data
  extract_lets y
  have hy : DataStep (t.sh h) y := .ite h1 (h2.trans (.setW ..))
  exact .ite (hy.trans (.updSt _ _)) hy

/-- An M instruction that changes accumulators beside its accesses. -/
theorem DataStep.accesses_then {a : List Nat} (x : Shuttle) (mx my : MemAccess) (dst sent : Option Nat) :
    DataStep x { x.accesses mx my dst sent with a := a } := (PtrStep.accesses x mx my dst sent).data.trans rfl

theorem row_of_acc {h : Fin 512} {c : Instr} {op arr k width rd dm : Nat} {mx my : MemAccess}
    (hc : commandOf h (.acc op arr k width rd dm mx my) = some c) : ∃ f, Row h c (.acc op arr k width rd dm mx my) f := by
  have ho : op < 6 := (List.getElem?_eq_some_iff.mp hc).1
  have hcs := hc
  interval_cases op <;> cases hc
  · exact row_acc hcs (fun s => rfl) fun x t => .of_step (mvaEffect_step ..)
  · exact row_acc hcs (fun s => rfl) fun x t => .of_setSh t (.accesses_then ..)
  · exact row_acc hcs (fun s => rfl) fun x t => .of_setSh t (.accesses_then ..)
  · refine row_acc hcs (fun s => rfl) fun x t => ?_
    obtain ⟨ho, hd⟩ := putCo_spec (t.setSh h fun y => y.accesses mx my none none) h (x.aPrev.getD k 0)
    have hd' : DataStep (t.sh h) ((putCo (t.setSh h fun y => y.accesses mx my none none) h (x.aPrev.getD k 0)).sh h) := by
      rw [sh_setSh_self] at hd
      exact (PtrStep.accesses (t.sh h) mx my none none).data.trans hd
    exact ⟨((outside_setSh t h _).trans ho).mono (by decide), hd'.cycles, fun h => absurd rfl h, fun _ => hd'⟩
  · exact row_acc hcs (fun s => rfl) fun x t => .of_setSh t (.accesses_then ..)
  · exact row_acc hcs (fun s => rfl) fun x t => .of_setSh t (.ite ((DataStep.accesses_then ..).trans (.updSt _ _)) (.accesses_then ..))

theorem repeatRc_effect {h : Fin 512} {c : Instr} (x : Shuttle) (t : State) (cond opd : Nat) :
    Effect h c (.ctl 4 cond opd) t (repeatRc h x t) := by
  unfold repeatRc
  extract_lets skip
  have hs : Effect h c (.ctl 4 cond opd) t skip := .of_control t rfl rfl
  split
  · exact hs
  · split
    · have ho := outside_raiseAtMost (skip.setSh h fun y => y.updSt fun st => putBit st stRPTX true) 1 0x814 h
        (fun _ => be 2 x.pc ++ be 4 x.rc)
      have h2 := outside_setSh skip h fun y => y.updSt fun st => putBit st stRPTX true
      refine ⟨(hs.outside.andThen h2 (by decide)).andThen ho (by decide), ?_, fun hc => ?_, fun h' => Bool.noConfusion h'⟩
      · rw [sh_congr (ho .shu (by decide)), sh_setSh_self]
        exact hs.cycles
      · exact ((hs.others hc).trans (othersKept_setSh skip h _)).trans (othersKept_of_shu (ho .shu (by decide)))
    · exact .of_control t rfl rfl

theorem row_of_ctl {h : Fin 512} {c : Instr} {op cond opd : Nat} (hc : commandOf h (.ctl op cond opd) = some c) :
    ∃ f, Row h c (.ctl op cond opd) f := by
  have ho : op < 8 := (List.getElem?_eq_some_iff.mp hc).1
  have hcs := hc
  interval_cases op <;> cases hc
  · exact row_ctl hcs (fun s => rfl) fun x t => .of_step (.refl t)
  · exact row_ctl hcs (fun s => rfl) fun x t => .of_control t rfl rfl
  · exact row_ctl hcs (fun s => rfl) fun x t => .of_control t rfl rfl
  · exact row_ctl hcs (fun s => rfl) fun x t => .of_control t rfl rfl
  · exact row_ctl hcs (fun s => rfl) fun x t => repeatRc_effect x t cond opd
  · refine row_ctl hcs (fun s => rfl) fun x t => .of_control t rfl ?_
    split
    · rfl
    · exact (DataStep.landAll _ _).cycles
  · exact row_ctl hcs (fun s => rfl) fun x t => .of_control t rfl (DataStep.flush (t.sh h)).cycles
  · exact row_ctl hcs (fun s => rfl) fun x t => .of_control t rfl rfl

/-- Every instruction has a row. -/
theorem exists_row {h : Fin 512} {c : Instr} (hc : commandOf h i = some c) : ∃ f, Row h c i f := by
  cases i with
  | q lm sg m0 m1 m2 m3 lx ly =>
    cases hc
    refine ⟨qEffect h, fun s => rfl, fun x t => ⟨_, rfl, .of_setSh t ?_⟩, fun j hj x t => ?_⟩
    · exact (((PtrStep.qload (t.sh h) lx 0).trans (.qload _ ly 1)).data).trans (.macUnits x lm sg _ _)
    · cases j with
      | q => exact absurd rfl hj
      | _ => rfl
  | alu => exact ⟨_, row_alu hc⟩
  | acc => exact row_of_acc hc
  | ctl => exact row_of_ctl hc
  | ldi dst imm =>
    cases hc
    refine ⟨_, fun s => rfl, fun x t => ⟨_, rfl, .of_step (.writeDest t h dst imm)⟩, fun j hj x t => ?_⟩
    cases j with
    | ldi => exact absurd rfl hj
    | _ => rfl
  | movr dst src =>
    cases hc
    refine ⟨_, fun s => rfl, fun x t => ⟨_, rfl, .of_step ((OperandStep.readSource t h src).trans (.writeDest _ h dst _))⟩,
      fun j hj x t => ?_⟩
    cases j with
    | movr => exact absurd rfl hj
    | _ => rfl
  | ldm dst port addr =>
    cases hc
    refine ⟨_, fun s => rfl, fun x t => ⟨_, rfl, .of_setSh t (.ite (.moveSt ..) (.later ..))⟩, fun j hj x t => ?_⟩
    cases j with
    | ldm => exact absurd rfl hj
    | _ => rfl
  | stm dst port addr =>
    cases hc
    refine ⟨_, fun s => rfl, fun x t => ⟨_, rfl, .of_setSh t (.later ..)⟩, fun j hj x t => ?_⟩
    cases j with
    | stm => exact absurd rfl hj
    | _ => rfl

/-! ### Sequencing -/

theorem sequence_cycles (x : Shuttle) : x.sequence.cycles = x.cycles + 1 := by
  unfold Shuttle.sequence
  extract_lets y
  split_ifs <;> rfl

theorem sequence_savedPc (x : Shuttle) : x.sequence.savedPc = x.savedPc := by
  unfold Shuttle.sequence
  extract_lets y
  split_ifs <;> rfl

theorem sequence_repeats (hr : x.rpt ≠ 0) :
    x.sequence.rpt = x.rpt - 1 ∧ x.sequence.pc = if x.rpt = 1 then nextPc x.pc else x.pc := by
  unfold Shuttle.sequence
  extract_lets y
  rw [if_pos hr]
  exact ⟨rfl, rfl⟩

theorem sequence_lastSlot (hr : x.rpt = 0) (hs : x.slots = 1) :
    x.sequence.slots = 0 ∧ x.sequence.pc = if x.taken then x.target else nextPc x.pc := by
  unfold Shuttle.sequence
  extract_lets y
  rw [if_neg (not_not.mpr hr), if_pos hs]
  exact ⟨rfl, rfl⟩

theorem sequence_advances (hr : x.rpt = 0) (hs : x.slots ≠ 1) :
    x.sequence.slots = x.slots - 1 ∧ x.sequence.pc = nextPc x.pc ∧ x.sequence.rpt = 0 := by
  unfold Shuttle.sequence
  extract_lets y
  rw [if_neg (not_not.mpr hr), if_neg hs]
  exact ⟨rfl, rfl, hr⟩

/-- RTI clears IN_IRQ (R376): no part of the status it brings back holds bit 14. -/
theorem rtiSt_inIrq (a b : Nat) : bitOf (rtiSt a b) stInIrq = false := by
  have h1 : (a &&& 0x8007) % 2 ^ 15 ≤ 7 := by
    rw [Nat.and_mod_two_pow]
    exact Nat.and_le_right
  have h2 : (a ||| b) &&& 0x2BF8 ≤ 0x2BF8 := Nat.and_le_right
  have h3 : b &&& 0x400 ≤ 0x400 := Nat.and_le_right
  have h4 : rtiSt a b / 2 ^ 14 % 2 = 0 := by
    unfold rtiSt
    omega
  unfold bitOf stInIrq
  rw [h4]
  rfl

theorem resumed_of_not (hx : ¬(x.slots = 1 ∧ x.retSlots = true)) : resumed h x u = u := if_neg hx

theorem resumed_sh (hx : x.slots = 1 ∧ x.retSlots = true) : (resumed h x u).sh h = (u.sh h).resume := by
  unfold resumed
  rw [if_pos hx, sh_setSh_self]

theorem resumed_outside (h : Nat) (x : Shuttle) (u : State) : Outside [.shu] u (resumed h x u) := .ite (outside_setSh _ _ _)
    (.refl _ _)

theorem resumed_others (h : Nat) (x : Shuttle) (u : State) : OthersKept u (resumed h x u) h := by
  unfold resumed
  split
  · exact othersKept_setSh _ _ _
  · exact fun _ _ => rfl

theorem resumed_cycles (h : Nat) (x : Shuttle) (u : State) : ((resumed h x u).sh h).cycles = (u.sh h).cycles := by
  unfold resumed
  split
  · rw [sh_setSh_self]
    rfl
  · rfl

/-- Settles O45: an instruction's row is the one whose effect is not none (`exists_row`), its effect leaves the sequencing alone
(`DataStep`), and what `Shuttle.sequence` and `Shuttle.resume` do is read off their branches. -/
theorem instructionsIssueInTheirPlace : Obligations.InstructionsIssueInTheirPlace := by
  unfold Obligations.InstructionsIssueInTheirPlace
  refine ⟨?_, ?_⟩
  · intro s h i x c hs hc
    obtain ⟨f, hf⟩ := exists_row hc
    obtain ⟨u, hu, he⟩ := hf.effect x (s.sequenced h)
    have hx : (s.sequenced h).sh h = x.sequence := by
      rw [sequenced_sh, ← hs.2.2.1]
    have hout : Outside [.fresh, .cat, .mgmt, .shu] s (resumed h x u) :=
      (((sequenced_outside s h).mono (by decide)).andThen he.outside (by decide)).andThen (resumed_outside h x u) (by decide)
    refine ⟨resumed h x u, (hf.runs s).trans (congrArg Host.Outcome.next (issueOne_stands hs hu)), hout, ?_, fun hm => ?_,
      fun hi => ?_⟩
    · rw [resumed_cycles, he.cycles, hx, sequence_cycles]
    · exact ((sequenced_others s h).trans (he.others hm)).trans (resumed_others h x u)
    · have hd : DataStep x.sequence (u.sh h) := hx ▸ he.data hi
      refine ⟨fun hr hsl => ?_, fun hr hsl => ?_, fun hr hsl hret => ?_, fun hr hsl hret => ?_, fun hr hsl => ?_,
        fun hr hsl => ?_⟩
      · rw [resumed_of_not (by omega)]
        obtain ⟨h1, h2, -⟩ := sequence_advances hr (by omega)
        exact ⟨hd.pc.trans h2, hd.slots.trans (h1.trans (by omega))⟩
      · rw [resumed_of_not (by omega)]
        obtain ⟨h1, h2, -⟩ := sequence_advances hr (by omega)
        exact ⟨hd.pc.trans h2, hd.slots.trans (h1.trans (by omega))⟩
      · rw [resumed_of_not (by simp [hret])]
        obtain ⟨h1, h2⟩ := sequence_lastSlot hr hsl
        exact ⟨hd.pc.trans h2, hd.slots.trans h1⟩
      · rw [resumed_sh ⟨hsl, hret⟩]
        obtain ⟨h1, -⟩ := sequence_lastSlot hr hsl
        exact ⟨hd.savedPc.trans (sequence_savedPc x), hd.slots.trans h1, rfl, rtiSt_inIrq ..⟩
      · rw [resumed_of_not (by omega)]
        obtain ⟨h1, h2⟩ := sequence_repeats (x := x) (by omega)
        exact ⟨hd.pc.trans (h2.trans (if_neg (by omega))), hd.rpt.trans h1⟩
      · rw [resumed_of_not (by omega)]
        obtain ⟨h1, h2⟩ := sequence_repeats (x := x) (by omega)
        exact ⟨hd.pc.trans (h2.trans (if_pos hr)), hd.rpt.trans (h1.trans (by omega))⟩
  · intro s h i j c d hi hc hd hne
    obtain ⟨f, hf⟩ := exists_row hd
    refine (hf.runs s).trans (congrArg Host.Outcome.next (issueOne_other hi fun x t => hf.quiet i ?_ x t))
    rw [hc]
    exact fun h => hne (Option.some.inj h).symm

end Sys2Proof.Machine
end

section
/-! What the Q and A formats compute (R366, R367, R400, R404; obligation O46). -/

namespace Sys2Proof.Machine

variable {s t u : State} {h : Nat} {x y z : Shuttle} {i : ShInstr}

/-! ### Bits of a word -/

theorem bitOf_eq_testBit (n j : Nat) : bitOf n j = n.testBit j := by
  rw [Nat.testBit_eq_decide_div_mod_eq]
  exact beq_eq_decide ..

/-- A word with one bit set keeps what lies above and below it. -/
theorem putBit_parts (n j : Nat) (b : Bool) : putBit n j b % 2 ^ j = n % 2 ^ j ∧ putBit n j b / 2 ^ j % 2 = b.toNat ∧
    putBit n j b / 2 ^ (j + 1) = n / 2 ^ (j + 1) := by
  have hp : 0 < 2 ^ j := Nat.two_pow_pos j
  have hn : n = 2 ^ j * (2 * (n / 2 ^ (j + 1)) + n / 2 ^ j % 2) + n % 2 ^ j := by
    have h2 : n / 2 ^ (j + 1) = n / 2 ^ j / 2 := by rw [pow_succ, Nat.div_div_eq_div_mul]
    have h3 : 2 * (n / 2 ^ (j + 1)) + n / 2 ^ j % 2 = n / 2 ^ j := by omega
    rw [h3]
    exact (Nat.div_add_mod n (2 ^ j)).symm
  have hb : putBit n j b = 2 ^ j * (2 * (n / 2 ^ (j + 1)) + b.toNat) + n % 2 ^ j := by
    have hle : n / 2 ^ j % 2 * 2 ^ j ≤ n := (Nat.mul_le_mul_right _ (Nat.mod_le _ _)).trans (Nat.div_mul_le_self n (2 ^ j))
    have hi : (if b = true then 2 ^ j else 0) = 2 ^ j * b.toNat := by cases b <;> simp
    unfold putBit
    rw [hi]
    generalize n / 2 ^ (j + 1) = q at *
    generalize n / 2 ^ j % 2 = c at *
    generalize n % 2 ^ j = r at *
    generalize 2 ^ j = P at *
    subst hn
    rw [Nat.mul_add, Nat.mul_add, Nat.mul_comm c P]
    omega
  have hr : n % 2 ^ j < 2 ^ j := Nat.mod_lt _ hp
  have hq : putBit n j b / 2 ^ j = 2 * (n / 2 ^ (j + 1)) + b.toNat := by
    rw [hb, Nat.mul_add_div hp, Nat.div_eq_of_lt hr, Nat.add_zero]
  have hlt : b.toNat < 2 := by cases b <;> decide
  refine ⟨?_, ?_, ?_⟩
  · rw [hb, Nat.mul_add_mod, Nat.mod_mod]
  · rw [hq]
    omega
  · rw [pow_succ, ← Nat.div_div_eq_div_mul, hq, ← pow_succ]
    omega

theorem bitOf_putBit_self (n j : Nat) (b : Bool) : bitOf (putBit n j b) j = b := by
  obtain ⟨-, h, -⟩ := putBit_parts n j b
  unfold bitOf
  rw [h]
  cases b <;> rfl

theorem bitOf_putBit_ne {k : Nat} (n j : Nat) (b : Bool) (hk : k ≠ j) : bitOf (putBit n j b) k = bitOf n k := by
  obtain ⟨hlow, -, hhigh⟩ := putBit_parts n j b
  rw [bitOf_eq_testBit, bitOf_eq_testBit]
  rcases Nat.lt_or_gt_of_ne hk with hlt | hgt
  · have h1 := congrArg (fun m => m.testBit k) hlow
    simpa [Nat.testBit_mod_two_pow, hlt] using h1
  · have h1 := congrArg (fun m => m.testBit (k - (j + 1))) hhigh
    simpa [Nat.testBit_div_two_pow, Nat.sub_add_cancel (show j + 1 ≤ k from hgt)] using h1

theorem bitOf_setSticky_self {j : Nat} (n : Nat) (hj : j ≠ pendBit 13) : bitOf (setSticky n j) j = true := by
  unfold setSticky
  extract_lets r w
  split
  · rw [bitOf_putBit_ne _ _ _ hj, bitOf_putBit_self]
  · rw [bitOf_putBit_self]

theorem bitOf_setSticky_ne {j k : Nat} (n : Nat) (hk : k ≠ j) (h13 : k ≠ pendBit 13) : bitOf (setSticky n j) k = bitOf n k := by
  unfold setSticky
  extract_lets r w
  split
  · rw [bitOf_putBit_ne _ _ _ h13, bitOf_putBit_ne _ _ _ hk]
  · rw [bitOf_putBit_ne _ _ _ hk]

/-! ### What accesses and sequencing leave alone -/

theorem PtrStep.keeps (h : PtrStep x y) : y.w = x.w ∧ y.a = x.a ∧ y.m = x.m ∧ y.l = x.l ∧ y.scl = x.scl ∧ y.st = x.st ∧
    y.rc = x.rc ∧ y.dm = x.dm := by
  unfold PtrStep at h
  rw [h]
  exact ⟨rfl, rfl, rfl, rfl, rfl, rfl, rfl, rfl⟩

@[simp] theorem sequence_keeps (x : Shuttle) :
    x.sequence.w = x.w ∧ x.sequence.a = x.a ∧ x.sequence.p = x.p ∧ x.sequence.m = x.m ∧
    x.sequence.l = x.l ∧ x.sequence.cnt = x.cnt ∧ x.sequence.scl = x.scl ∧ x.sequence.st = x.st ∧ x.sequence.rc = x.rc ∧
    x.sequence.dm = x.dm ∧ x.sequence.delayed = x.delayed ∧ x.sequence.si = x.si ∧ x.sequence.so = x.so ∧
    x.sequence.fq = x.fq ∧ x.sequence.fd = x.fd ∧ x.sequence.descs = x.descs ∧ x.sequence.waiting = x.waiting ∧
    x.sequence.ciDelayed = x.ciDelayed := by
  unfold Shuttle.sequence
  extract_lets y
  split_ifs <;> simp [y]

/-- Two shuttles whose pointers, modifiers, lengths and hidden counts agree. -/
structure SamePtrs (x y : Shuttle) : Prop where
  p : y.p = x.p
  m : y.m = x.m
  l : y.l = x.l
  cnt : y.cnt = x.cnt

theorem SamePtrs.advance (h : SamePtrs x y) (k j mode : Nat) : SamePtrs (x.advance k j mode) (y.advance k j mode) := by
  obtain ⟨hp, hm, hl, hc⟩ := h
  unfold Shuttle.advance
  rw [hp, hm, hl, hc]
  extract_lets p m l q base r
  split
  · split_ifs <;> exact ⟨rfl, rfl, rfl, rfl⟩
  · split_ifs <;> exact ⟨rfl, rfl, rfl, rfl⟩
  · split_ifs <;> exact ⟨rfl, rfl, rfl, rfl⟩
  · exact ⟨rfl, rfl, rfl, rfl⟩

theorem SamePtrs.load (h : SamePtrs x y) (r k j mode : Nat) (dst dst' : Option Nat) :
    SamePtrs (x.load r k j mode dst) (y.load r k j mode dst') := by
  unfold Shuttle.load
  refine SamePtrs.advance ?_ k j mode
  split_ifs <;> exact ⟨h.p, h.m, h.l, h.cnt⟩

theorem SamePtrs.store (h : SamePtrs x y) (v v' k j mode : Nat) : SamePtrs (x.store v k j mode) (y.store v' k j mode) :=
  SamePtrs.advance (x := x.later _ v) (y := y.later _ v') ⟨h.p, h.m, h.l, h.cnt⟩ k j mode

theorem SamePtrs.access (h : SamePtrs x y) (a : MemAccess) (port : Nat) (dst dst' sent sent' : Option Nat) :
    SamePtrs (x.access a port dst sent) (y.access a port dst' sent') := by
  unfold Shuttle.access
  split_ifs
  · exact h
  · exact h.store ..
  · exact h.load ..

theorem SamePtrs.accesses (h : SamePtrs x y) (mx my : MemAccess) (dst dst' sent sent' : Option Nat) :
    SamePtrs (x.accesses mx my dst sent) (y.accesses mx my dst' sent') := (h.access mx 0 dst dst' sent sent').access ..

theorem SamePtrs.qload (h : SamePtrs x y) (l : QLoad) (port : Nat) : SamePtrs (x.qload l port) (y.qload l port) := by
  unfold Shuttle.qload
  split_ifs
  · exact h
  · exact h.load ..

theorem samePtrs_sequence (x : Shuttle) : SamePtrs x x.sequence := ⟨by simp, by simp, by simp, by simp⟩

/-! ### The MAC units -/

/-- The sums of one accumulator. -/
def unitSums (x : Shuttle) (lm sg : Nat) (mine : List MacSlot) : List Int :=
  (List.range (laneCount lm)).map fun i => (mine.map fun m =>
    let p := laneProduct lm sg (x.w.getD m.ra 0) (x.w.getD (8 + m.rb) 0) i
    if m.op = 3 then -p else p).sum

/-- The slots that name an accumulator. -/
def unitSlots (slots : List MacSlot) (k : Nat) : List MacSlot := slots.filter fun m => m.acc = k ∧ m.op ≠ 0

/-- One MAC unit (R367, R400). -/
def macUnit (x : Shuttle) (lm sg : Nat) (slots : List MacSlot) (y : Shuttle) (k : Nat) : Shuttle :=
  let mine := unitSlots slots k
  if mine.isEmpty then y
  else
    let r := addLanes lm (x.a.getD k 0) (mine.any fun m => m.op == 1) (unitSums x lm sg mine)
    let y := { y with a := lset y.a k r.1 }
    if r.2 then y.updSt fun st => setSticky st (stAV + k) else y

theorem macUnits_eq (x : Shuttle) (lm sg : Nat) (slots : List MacSlot) (y : Shuttle) :
    macUnits x lm sg slots y = [0, 1, 2, 3].foldl (macUnit x lm sg slots) y := rfl

theorem macUnit_keeps (x : Shuttle) (lm sg : Nat) (slots : List MacSlot) (y : Shuttle) (k : Nat) :
    (macUnit x lm sg slots y k).w = y.w ∧ (macUnit x lm sg slots y k).dm = y.dm ∧ (macUnit x lm sg slots y k).p = y.p ∧
    (macUnit x lm sg slots y k).a.length = y.a.length := by
  unfold macUnit
  extract_lets mine r z
  split_ifs
  · exact ⟨rfl, rfl, rfl, rfl⟩
  · exact ⟨rfl, rfl, rfl, List.length_set ..⟩
  · exact ⟨rfl, rfl, rfl, List.length_set ..⟩

theorem macUnit_other {j k : Nat} (x : Shuttle) (lm sg : Nat) (slots : List MacSlot) (y : Shuttle) (hk : k ≠ j) :
    (macUnit x lm sg slots y k).a.getD j 0 = y.a.getD j 0 := by
  unfold macUnit
  extract_lets mine r z
  have hz : z.a.getD j 0 = y.a.getD j 0 := by simp [z, lset, List.getD_eq_getElem?_getD, List.getElem?_set_ne hk]
  split_ifs
  · rfl
  · exact hz
  · exact hz

theorem macUnit_self {k : Nat} (x : Shuttle) (lm sg : Nat) (slots : List MacSlot) (y : Shuttle) (hk : k < y.a.length) :
    (unitSlots slots k = [] → (macUnit x lm sg slots y k).a.getD k 0 = y.a.getD k 0) ∧
    (unitSlots slots k ≠ [] → (macUnit x lm sg slots y k).a.getD k 0 = (addLanes lm (x.a.getD k 0)
      ((unitSlots slots k).any fun m => m.op == 1) (unitSums x lm sg (unitSlots slots k))).1) := by
  unfold macUnit
  extract_lets mine r z
  have hz : z.a.getD k 0 = r.1 := by simp [z, lset, List.getD_eq_getElem?_getD, hk]
  refine ⟨fun h => ?_, fun h => ?_⟩
  · rw [if_pos (by simp [mine, h])]
  · rw [if_neg (by simpa [mine] using h)]
    split_ifs
    · exact hz
    · exact hz

theorem macUnits_keep (x : Shuttle) (lm sg : Nat) (slots : List MacSlot) (l : List Nat) (y : Shuttle) :
    (l.foldl (macUnit x lm sg slots) y).w = y.w ∧ (l.foldl (macUnit x lm sg slots) y).dm = y.dm ∧
    (l.foldl (macUnit x lm sg slots) y).p = y.p ∧ (l.foldl (macUnit x lm sg slots) y).a.length = y.a.length := by
  induction l generalizing y with
  | nil => exact ⟨rfl, rfl, rfl, rfl⟩
  | cons k l ih =>
    obtain ⟨h1, h2, h3, h4⟩ := ih (macUnit x lm sg slots y k)
    obtain ⟨w, d, p, a⟩ := macUnit_keeps x lm sg slots y k
    exact ⟨h1.trans w, h2.trans d, h3.trans p, h4.trans a⟩

theorem macUnits_other {k : Nat} (x : Shuttle) (lm sg : Nat) (slots : List MacSlot) (l : List Nat) (hk : k ∉ l) (y : Shuttle) :
    (l.foldl (macUnit x lm sg slots) y).a.getD k 0 = y.a.getD k 0 := by
  induction l generalizing y with
  | nil => rfl
  | cons j l ih =>
    exact (ih (fun h => hk (.tail _ h)) _).trans (macUnit_other x lm sg slots y fun h => hk (h ▸ .head _))

/-- Of units that each have their own accumulator, one gives its own. -/
theorem macUnits_self {k : Nat} (x : Shuttle) (lm sg : Nat) (slots : List MacSlot) {l : List Nat} (hl : l.Nodup) (hm : k ∈ l)
    (y : Shuttle) (hk : k < y.a.length) :
    (unitSlots slots k = [] → (l.foldl (macUnit x lm sg slots) y).a.getD k 0 = y.a.getD k 0) ∧
    (unitSlots slots k ≠ [] → (l.foldl (macUnit x lm sg slots) y).a.getD k 0 = (addLanes lm (x.a.getD k 0)
      ((unitSlots slots k).any fun m => m.op == 1) (unitSums x lm sg (unitSlots slots k))).1) := by
  induction l generalizing y with
  | nil => exact absurd hm List.not_mem_nil
  | cons j l ih =>
    obtain ⟨hj, hl⟩ := List.nodup_cons.mp hl
    rw [List.foldl_cons]
    by_cases hkj : k = j
    · subst hkj
      rw [macUnits_other x lm sg slots l hj]
      exact macUnit_self x lm sg slots y hk
    · have hn := (macUnit_keeps x lm sg slots y j).2.2.2
      obtain ⟨h1, h2⟩ := ih hl ((List.mem_cons.mp hm).resolve_left hkj) (macUnit x lm sg slots y j) (hn.symm ▸ hk)
      exact ⟨fun h => (h1 h).trans (macUnit_other x lm sg slots y fun h => hkj h.symm), h2⟩

/-! ### The table of the ALU -/

/-- What a row of the ALU's table says: the result, the carry, and which of them write RD and can clamp. -/
structure AluRow (h : Fin 512) (r : Instr × Nat × (Nat → Nat → Nat) × (Nat → Nat → Bool)) : Prop where
  runs : ∀ s, exec r.1 s = .next (issueOne h (aluEffect r.2.1 h) s)
  res : ∀ a b, (aluOp r.2.1 a b).res = r.2.2.1 a b
  carry : ∀ a b, (aluOp r.2.1 a b).c = some (r.2.2.2 a b)
  nz : ∀ a b, (aluOp r.2.1 a b).nz = true
  rd : ∀ a b, (aluOp r.2.1 a b).rd = !(r.2.1 == 0x10 || r.2.1 == 0x11)
  sv : ∀ a b, (aluOp r.2.1 a b).sv = true → r.2.1 = 0x03 ∨ r.2.1 = 0x04 ∨ r.2.1 = 0x0E ∨ r.2.1 = 0x0F

/-- N, Z and C of an operation that writes them (R366, R404). -/
theorem aluFlags_spec {st : Nat} {o : AluOut} {c : Bool} (hnz : o.nz = true) (hc : o.c = some c) :
    bitOf (aluFlags st o) stN = bitOf o.res 47 ∧ bitOf (aluFlags st o) stZ = (o.res == 0) ∧ bitOf (aluFlags st o) stC = c ∧
    (o.sv = false → bitOf (aluFlags st o) stSV = bitOf st stSV) := by
  obtain ⟨w, hw⟩ : ∃ w, w = putBit (putBit (putBit st stN (bitOf o.res 47)) stZ (o.res == 0)) stC c := ⟨_, rfl⟩
  have hf : aluFlags st o = if o.sv then setSticky w stSV else w := by
    unfold aluFlags
    rw [if_pos hnz, hc, hw]
  have hn : bitOf w stN = bitOf o.res 47 := by
    rw [hw, bitOf_putBit_ne _ _ _ (by decide), bitOf_putBit_ne _ _ _ (by decide), bitOf_putBit_self]
  have hz : bitOf w stZ = (o.res == 0) := by rw [hw, bitOf_putBit_ne _ _ _ (by decide), bitOf_putBit_self]
  have hcw : bitOf w stC = c := by rw [hw, bitOf_putBit_self]
  have hv : bitOf w stSV = bitOf st stSV := by
    rw [hw, bitOf_putBit_ne _ _ _ (by decide), bitOf_putBit_ne _ _ _ (by decide), bitOf_putBit_ne _ _ _ (by decide)]
  clear hw
  have hk : ∀ k, k ≠ stSV → k ≠ pendBit 13 → bitOf (aluFlags st o) k = bitOf w k := fun k h1 h2 => by
    rw [hf]
    split
    · exact bitOf_setSticky_ne w h1 h2
    · rfl
  refine ⟨(hk _ (by decide) (by decide)).trans hn, (hk _ (by decide) (by decide)).trans hz,
    (hk _ (by decide) (by decide)).trans hcw,
    fun hsv => ?_⟩
  rw [hf, if_neg (by simp [hsv])]
  exact hv

/-- An instruction that issues outside the last slot of an RTI. -/
theorem issueOne_issues {f : Shuttle → State → ShInstr → Option State} (hs : Issues s h i x)
    (hf : f x (s.sequenced h) i = some u) :
    issueOne h f s = u := (issueOne_stands hs.1 hf).trans (resumed_of_not hs.2)

/-- What an instruction that changes shuttle `h` alone leaves of the others. -/
theorem issued_alone (s : State) (h : Nat) (f : Shuttle → Shuttle) : Outside [.shu] s ((s.sequenced h).setSh h f) ∧
    OthersKept s ((s.sequenced h).setSh h f) h :=
  ⟨(sequenced_outside s h).trans (outside_setSh _ h f), (sequenced_others s h).trans (othersKept_setSh _ h f)⟩

/-- The result of an A instruction. -/
def aluResult (y : Shuttle) (mx my : MemAccess) (rd : Nat) (o : AluOut) : Shuttle :=
  let y := (y.accesses mx my (if o.rd then some rd else none) none).updSt fun st => aluFlags st o
  if o.rd then y.setW rd o.res else y

theorem aluResult_keeps (y : Shuttle) (mx my : MemAccess) (rd : Nat) (o : AluOut) :
    (aluResult y mx my rd o).w = (if o.rd then lset y.w rd o.res else y.w) ∧ (aluResult y mx my rd o).st = aluFlags y.st o ∧
    (aluResult y mx my rd o).a = y.a ∧ (aluResult y mx my rd o).m = y.m ∧ (aluResult y mx my rd o).l = y.l ∧
    (aluResult y mx my rd o).scl = y.scl ∧ (aluResult y mx my rd o).rc = y.rc ∧ (aluResult y mx my rd o).dm = y.dm ∧
    (aluResult y mx my rd o).p = (y.accesses mx my none none).p := by
  obtain ⟨hw, ha, hm, hl, hscl, hst, hrc, hdm⟩ := (PtrStep.accesses y mx my (if o.rd then some rd else none) none).keeps
  have hp := (SamePtrs.accesses (x := y) (y := y) ⟨rfl, rfl, rfl, rfl⟩ mx my none (if o.rd then some rd else none) none none).p
  unfold aluResult
  extract_lets z
  split_ifs
  · exact ⟨congrArg (lset · rd o.res) hw, congrArg (aluFlags · o) hst, ha, hm, hl, hscl, hrc, hdm, hp⟩
  · exact ⟨hw, congrArg (aluFlags · o) hst, ha, hm, hl, hscl, hrc, hdm, hp⟩

/-- How an A instruction issues. -/
theorem issues_alu {op rd rs1 rs2 n imm a b : Nat} {mx my : MemAccess} (hs : Issues s h (.alu op rd rs1 rs2 n imm mx my) x)
    (ha : a = x.w.getD rs1 0) (hb : b = if n = 1 then wrap 48 (signed 15 imm) else x.w.getD rs2 0) :
    issueOne h (aluEffect op h) s = (s.sequenced h).setSh h fun y => aluResult y mx my rd (aluOp op a b) := by
  subst ha hb
  exact issueOne_issues hs (if_pos rfl)

theorem issued_sh {f : Shuttle → Shuttle} (hs : Issues s h i x) : ((s.sequenced h).setSh h f).sh h = f x.sequence := by
  obtain ⟨⟨-, -, hx, -⟩, -⟩ := hs
  rw [sh_setSh_self, sequenced_sh, hx]

/-- Settles O46: the MAC units go accumulator by accumulator (`macUnits_self`), and each row of the ALU's table is the row of
`aluOp` (`AluRow`). -/
theorem qAndAluInstructionsCompute : Obligations.QAndAluInstructionsCompute := by
  unfold Obligations.QAndAluInstructionsCompute
  refine ⟨?q, ?alu, ?lanes⟩
  case q =>
    intro s h lm sg m0 m1 m2 m3 lx ly x hs
    obtain ⟨f, hf⟩ : ∃ f : Shuttle → Shuttle, f = fun y => macUnits x lm sg [m0, m1, m2, m3] ((y.qload lx 0).qload ly 1) := ⟨_,
      rfl⟩
    have he : exec (.qMac h) s = .next ((s.sequenced h).setSh h f) := by
      rw [hf]
      exact congrArg Host.Outcome.next (issueOne_issues hs rfl)
    obtain ⟨h1, h2⟩ := issued_alone s h f
    have hu : ((s.sequenced h).setSh h f).sh h = f x.sequence := issued_sh hs
    have hptr := (PtrStep.qload x.sequence lx 0).trans (.qload _ ly 1)
    have hp := (((samePtrs_sequence x).qload lx 0).qload ly 1).p
    obtain ⟨y, hy⟩ : ∃ y, y = (x.sequence.qload lx 0).qload ly 1 := ⟨_, rfl⟩
    rw [← hy] at hptr hp
    obtain ⟨kw, ka, -, -, -, -, -, kdm⟩ := hptr.keeps
    obtain ⟨w, d, p, a⟩ := macUnits_keep x lm sg [m0, m1, m2, m3] [0, 1, 2, 3] y
    have hfx : f x.sequence = [0, 1, 2, 3].foldl (macUnit x lm sg [m0, m1, m2, m3]) y := by
      rw [hf, hy]
      exact macUnits_eq ..
    have kax : y.a = x.a := ka.trans (by simp)
    refine ⟨_, he, h1, h2, ?_, ?_, ?_, ?_, fun k hk hl mine hmine => ?_⟩
    · rw [hu, hfx, w, kw]
      simp
    · rw [hu, hfx, d, kdm]
      simp
    · rw [hu, hfx, p, hp]
    · rw [hu, hfx, a, kax]
    · rw [hu, hfx]
      subst hmine
      have hself := macUnits_self x lm sg [m0, m1, m2, m3] (l := [0, 1, 2, 3]) (by decide) (by simp; omega) y (kax.symm ▸ hl)
      rw [kax] at hself
      exact hself
  case alu =>
    intro s h c op rd rs1 rs2 n imm a b mx my x f g hs ha hb hrow
    have hr : AluRow h (c, op, f, g) := by
      revert hrow
      generalize (c, op, f, g) = r
      revert r
      simp only [List.forall_mem_cons, List.not_mem_nil, false_imp_iff, implies_true, and_true]
      refine ⟨?_, ?_, ?_, ?_, ?_, ?_, ?_, ?_, ?_, ?_, ?_, ?_, ?_, ?_, ?_, ?_, ?_, ?_⟩ <;>
        exact ⟨fun _ => rfl, fun _ _ => rfl, fun _ _ => rfl, fun _ _ => rfl, fun _ _ => rfl, by simp [aluOp]⟩
    obtain ⟨hruns, hres, hcarry, hnz, hrd, hsv⟩ := hr
    dsimp only at hruns hres hcarry hnz hrd hsv
    obtain ⟨o, ho⟩ : ∃ o, o = aluOp op a b := ⟨_, rfl⟩
    have he : exec c s = .next ((s.sequenced h).setSh h fun y => aluResult y mx my rd o) := by
      rw [hruns, issues_alu hs ha hb, ho]
    obtain ⟨h1, h2⟩ := issued_alone s h fun y => aluResult y mx my rd o
    have hu := issued_sh (f := fun y => aluResult y mx my rd o) hs
    have hp := ((samePtrs_sequence x).accesses mx my none none none none).p
    obtain ⟨kw, kst, ka, km, kl, kscl, krc, kdm, kp⟩ := aluResult_keeps x.sequence mx my rd o
    obtain ⟨fn, fz, fc, fv⟩ := aluFlags_spec (st := x.sequence.st) (o := o) (ho ▸ hnz a b) (ho ▸ hcarry a b)
    have hor : o.res = f a b := ho ▸ hres a b
    have hod : o.rd = !(op == 0x10 || op == 0x11) := ho ▸ hrd a b
    rw [← hu] at kw kst ka km kl kscl krc kdm kp
    rw [← kst] at fn fz fc fv
    refine ⟨_, he, h1, h2, ?_, hor ▸ fn, hor ▸ fz, fc, fun h3 h4 hE hF => ?_, ka.trans (by simp), km.trans (by simp),
      kl.trans (by simp), kscl.trans (by simp), krc.trans (by simp), kdm.trans (by simp), kp.trans hp⟩
    · rw [kw, hod, hor]
      by_cases hop : op = 0x10 ∨ op = 0x11
      · rw [if_pos hop, if_neg (by rcases hop with h | h <;> simp [h])]
        simp
      · rw [if_neg hop, if_pos (by simpa using hop)]
        simp
    · have hos : o.sv = false := by
        rw [← Bool.not_eq_true, ho]
        exact fun h => by simpa [h3, h4, hE, hF] using hsv a b h
      rw [fv hos]
      simp
  case lanes =>
    intro s h c op rd rs1 rs2 n imm a b mx my x f hs ha hb hrow
    obtain ⟨hruns, hres, hflags⟩ : (∀ s, exec c s = .next (issueOne h (aluEffect op h) s)) ∧
        ((aluOp op a b).rd = !(op == 0) ∧ (op ≠ 0 → (aluOp op a b).res = f a b)) ∧ ∀ st, aluFlags st (aluOp op a b) = st := by
      simp only [List.mem_cons, Prod.mk.injEq, List.not_mem_nil, or_false] at hrow
      obtain ⟨rfl, rfl, rfl⟩ | ⟨rfl, rfl, rfl⟩ | ⟨rfl, rfl, rfl⟩ | ⟨rfl, rfl, rfl⟩ | ⟨rfl, rfl, rfl⟩ := hrow <;>
        exact ⟨fun _ => rfl, ⟨rfl, fun _ => rfl⟩, fun _ => rfl⟩
    obtain ⟨o, ho⟩ : ∃ o, o = aluOp op a b := ⟨_, rfl⟩
    have he : exec c s = .next ((s.sequenced h).setSh h fun y => aluResult y mx my rd o) := by
      rw [hruns, issues_alu hs ha hb, ho]
    obtain ⟨h1, h2⟩ := issued_alone s h fun y => aluResult y mx my rd o
    have hu := issued_sh (f := fun y => aluResult y mx my rd o) hs
    have hp := ((samePtrs_sequence x).accesses mx my none none none none).p
    obtain ⟨kw, kst, ka, km, kl, kscl, krc, kdm, kp⟩ := aluResult_keeps x.sequence mx my rd o
    rw [← hu] at kw kst ka km kl kscl krc kdm kp
    rw [← ho] at hres hflags
    obtain ⟨hrd, hres⟩ := hres
    refine ⟨_, he, h1, h2, ?_, (kst.trans (hflags _)).trans (by simp), ka.trans (by simp), km.trans (by simp),
      kl.trans (by simp), kscl.trans (by simp), krc.trans (by simp), kdm.trans (by simp), kp.trans hp⟩
    · rw [kw, hrd]
      by_cases hop : op = 0
      · rw [if_pos hop, if_neg (by simpa using hop)]
        simp
      · rw [if_neg hop, if_pos (by simpa using hop), hres hop]
        simp

end Sys2Proof.Machine
end

section
/-! What the M and L formats move (R369, R371, R385 to R390, R405 to R408; obligation O47). -/

namespace Sys2Proof.Machine

variable {s t u : State} {h k : Nat} {x y z : Shuttle} {i : ShInstr}

/-! ### The cascade -/

theorem arrive_keeps (x : Shuttle) : x.arrive.a = x.a ∧ x.arrive.w = x.w := by
  have hf : ∀ (l : List (Nat × Nat)) (y : Shuttle),
      (l.foldl (fun x c => { x with ci := c.2 }.updSt fun st => putBit st (pendBit 10) true) y).a = y.a ∧
      (l.foldl (fun x c => { x with ci := c.2 }.updSt fun st => putBit st (pendBit 10) true) y).w = y.w := fun l => by
    induction l with
    | nil => exact fun y => ⟨rfl, rfl⟩
    | cons c l ih => exact fun y => ih _
  exact hf _ _

/-- A word for a shuttle that does not run is there at once (R387). -/
theorem arrive_single (y : Shuttle) (v : Nat) : ({ y with ciDelayed := [(0, v)] }.arrive).ci = v ∧
    bitOf ({ y with ciDelayed := [(0, v)] }.arrive).st (pendBit 10) = true := by
  have ha : { y with ciDelayed := [(0, v)] }.arrive =
      { y with ciDelayed := [], ci := v }.updSt fun st => putBit st (pendBit 10) true := rfl
  rw [ha]
  exact ⟨rfl, bitOf_putBit_self ..⟩

/-- What the successor `y` of a shuttle holds after a word of the cascade, in cycle `n` of the sender. -/
def cascaded (runs : Bool) (n v : Nat) (y : Shuttle) : Shuttle :=
  if runs then { y with ciDelayed := y.ciDelayed ++ [(if y.cycles = n then n + 1 else y.cycles + 2, v)] }
  else { y with ciDelayed := [(0, v)] }.arrive

theorem putCo_none (hs : successor s h = none) (v : Nat) : putCo s h v = s := by
  unfold putCo
  rw [hs]

theorem putCo_some (hs : successor s h = some k) (v : Nat) :
    putCo s h v = s.setSh k (cascaded (s.shState k == shRunning) (s.sh h).cycles v) := by
  unfold putCo
  rw [hs]
  dsimp only
  congr 1
  funext y
  simp only [cascaded, beq_iff_eq]

theorem cascaded_keeps (b : Bool) (n v : Nat) (y : Shuttle) : (cascaded b n v y).a = y.a ∧ (cascaded b n v y).w = y.w := by
  unfold cascaded
  split
  · exact ⟨rfl, rfl⟩
  · exact arrive_keeps _

theorem putCo_keeps (s : State) (h v : Nat) : ((putCo s h v).sh h).a = (s.sh h).a ∧ ((putCo s h v).sh h).w = (s.sh h).w := by
  cases hs : successor s h with
  | none =>
    rw [putCo_none hs]
    exact ⟨rfl, rfl⟩
  | some k =>
    rw [putCo_some hs]
    by_cases hk : k = h
    · subst hk
      rw [sh_setSh_self]
      exact cascaded_keeps ..
    · rw [sh_setSh_ne s k h _ hk]
      exact ⟨rfl, rfl⟩

/-! ### Sources and destinations -/

theorem writeDest_register {c : Nat} (hc : c ≤ 0x2A) (h29 : c ≠ 0x29) (t : State) (h v : Nat) :
    writeDest t h c v = t.setSh h fun x => if c < 0x10 then x.setW c v else x.later c v := by
  unfold writeDest
  split
  · exact absurd rfl h29
  · omega
  · omega
  · omega
  · rfl

theorem readSource_register {c : Nat} (hc : c ≤ 0x2A) (h29 : c ≠ 0x29) (t : State) (h : Nat) :
    readSource t h c = (t, (t.sh h).reg c) := by
  unfold readSource
  split
  · exact absurd rfl h29
  · omega
  · omega
  · omega
  · omega
  · omega
  · rfl

theorem reg_sequence (x : Shuttle) (c : Nat) : x.sequence.reg c = x.reg c := by
  unfold Shuttle.reg
  simp

theorem writeDest_outside (t : State) (h c v : Nat) : Outside [.cat, .mgmt, .shu] t (writeDest t h c v) := fun p hp => by
  cases p <;> simp at hp ⊢

/-- A word waits in a stream input. -/
theorem takeStream_word {n v : Nat} {rest : List Nat} (hi : (s.sh h).si.getD n [] = v :: rest) :
    takeStream s h n = (s.setSh h fun x => { x with si := x.si.set n rest }, v) := by
  unfold takeStream
  rw [hi]

theorem takeStream_empty {n : Nat} (hi : (s.sh h).si.getD n [] = []) :
    takeStream s h n = (streamFault (s.setSh h fun x => x.updSt fun st => putBit st stSE true) h n, 0) := by
  unfold takeStream
  rw [hi]

theorem takeFd_word {v : Nat} {rest : List Nat} (hf : (s.sh h).fd = v :: rest) :
    takeFd s h = (s.setSh h fun x => { x with fd := rest }, v) := by
  unfold takeFd
  rw [hf]

/-- A MOVR to a W register: the value read there, in the shuttle as reading left it. -/
theorem moved_sh {dst : Nat} (hd : dst < 0x10) (r : State × Nat) : (writeDest r.1 h dst r.2).sh h =
    (r.1.sh h).setW dst r.2 := by
  rw [writeDest_register (by omega) (by omega), sh_setSh_self, if_pos hd]

theorem putStream_room {n : Nat} (v : Nat) (hl : ((s.sh h).so.getD n []).length < 32) :
    ((putStream s h n v).sh h).so = (s.sh h).so.set n ((s.sh h).so.getD n [] ++ [v]) := by
  unfold putStream
  dsimp only
  rw [if_pos hl, sh_setSh_self]

theorem putFq_room (v : Nat) (hl : (s.sh h).fq.length < 3) : ((putFq s h v).sh h).fq = (s.sh h).fq ++ [v] := by
  unfold putFq
  rw [sh_setSh_self]
  split
  · next a b c hq => simp [hq] at hl
  · rfl

@[simp] theorem accEffect_self (op : Nat) (F : Nat → Nat → Nat → Nat → Nat → MemAccess → MemAccess → State)
    (arr k width rd dm : Nat) (mx my : MemAccess) :
    accEffect op F (.acc op arr k width rd dm mx my) = some (F arr k width rd dm mx my) :=
  if_pos rfl

/-- Settles O47: each row is its effect on the shuttle as sequencing left it, which holds every register, queue and memory word
that the instruction found. -/
theorem mAndLInstructionsMoveValues : Obligations.MAndLInstructionsMoveValues := by
  unfold Obligations.MAndLInstructionsMoveValues
  refine ⟨?mva, ?acc, ?clra, ?mvco, ?ldi, ?movrW, ?movr, ?ldm, ?stm⟩
  case mva =>
    intro s h arr k width rd dm mx my x hs
    obtain ⟨r, hr⟩ : ∃ r, r = scaledMove arr k width x.scl x.aPrev := ⟨_, rfl⟩
    obtain ⟨g, hg⟩ : ∃ g : Shuttle → Shuttle, g = fun y => if dm = 1 then y.accesses mx my none (some r.1)
      else (y.accesses mx my (some rd) none).setW rd r.1 := ⟨_, rfl⟩
    have he : exec (.mva h) s = .next ((s.sequenced h).setSh h fun y =>
        if r.2 then (g y).updSt fun st => setSticky st stSV else g y) := by
      have h1 : exec (.mva h) s = .next (mvaEffect h x (s.sequenced h) arr k width rd dm mx my) :=
        congrArg Host.Outcome.next (issueOne_issues hs (accEffect_self ..))
      rw [h1, hg, hr]
      rfl
    obtain ⟨h1, h2⟩ := issued_alone s h fun y => if r.2 then (g y).updSt fun st => setSticky st stSV else g y
    have hu := issued_sh (f := fun y => if r.2 then (g y).updSt fun st => setSticky st stSV else g y) hs
    have hga : (g x.sequence).a = x.a ∧ (g x.sequence).st = x.st ∧
        (g x.sequence).w = if dm = 1 then x.w else lset x.w rd r.1 := by
      rw [hg]
      dsimp only
      split
      · obtain ⟨kw, ka, -, -, -, kst, -, -⟩ := (PtrStep.accesses x.sequence mx my none (some r.1)).keeps
        exact ⟨ka.trans (by simp), kst.trans (by simp), kw.trans (by simp)⟩
      · obtain ⟨kw, ka, -, -, -, kst, -, -⟩ := (PtrStep.accesses x.sequence mx my (some rd) none).keeps
        exact ⟨ka.trans (by simp), kst.trans (by simp), congrArg (lset · rd r.1) (kw.trans (by simp))⟩
    clear hg
    obtain ⟨ga, gst, gw⟩ := hga
    rw [← hr]
    refine ⟨_, he, h1, h2, ?_, ?_, fun hc => ?_, fun hc => ?_⟩
    · rw [hu, ← ga]
      split <;> rfl
    · rw [hu, ← gw]
      split <;> rfl
    · rw [hu, if_pos hc]
      exact bitOf_setSticky_self _ (by decide)
    · rw [hu, if_neg (by simp [hc])]
      exact gst
  case acc =>
    intro s h op arr k width rd dm v mx my x c hs hrow
    obtain ⟨f, hf, hfa⟩ : ∃ f : Shuttle → Shuttle, exec c s = .next ((s.sequenced h).setSh h f) ∧
        (f x.sequence).a = lset x.a k v ∧ (f x.sequence).w = x.w ∧ (f x.sequence).dm = x.dm ∧
        (op ≠ 5 → (f x.sequence).st = x.st) := by
      obtain ⟨kw, ka, -, -, -, kst, -, kdm⟩ := (PtrStep.accesses x.sequence mx my none none).keeps
      have ka' : lset (x.sequence.accesses mx my none none).a k v = lset x.a k v := congrArg (lset · k v) (ka.trans (by simp))
      simp only [List.mem_cons, Prod.mk.injEq, List.not_mem_nil, or_false] at hrow
      obtain ⟨rfl, rfl, rfl⟩ | ⟨rfl, rfl, rfl⟩ | ⟨rfl, rfl, rfl⟩ := hrow
      · exact ⟨_, congrArg Host.Outcome.next (issueOne_issues hs (accEffect_self ..)), ka', kw.trans (by simp),
        kdm.trans (by simp),
          fun _ => kst.trans (by simp)⟩
      · exact ⟨_, congrArg Host.Outcome.next (issueOne_issues hs (accEffect_self ..)), ka', kw.trans (by simp),
        kdm.trans (by simp),
          fun _ => kst.trans (by simp)⟩
      · refine ⟨_, congrArg Host.Outcome.next (issueOne_issues hs (accEffect_self ..)), ?_, ?_, ?_, fun h => absurd rfl h⟩
        · rw [← ka']
          dsimp only
          split <;> rfl
        · refine Eq.trans ?_ (kw.trans (by simp))
          dsimp only
          split <;> rfl
        · refine Eq.trans ?_ (kdm.trans (by simp))
          dsimp only
          split <;> rfl
    obtain ⟨h1, h2⟩ := issued_alone s h f
    refine ⟨_, hf, h1, h2, ?_⟩
    rw [issued_sh hs]
    exact hfa
  case clra =>
    intro s h arr k width rd dm mx my x hs
    obtain ⟨kw, ka, -, -, -, kst, -, -⟩ := (PtrStep.accesses x.sequence mx my none none).keeps
    refine ⟨_, congrArg Host.Outcome.next (issueOne_issues hs (accEffect_self ..)), (issued_alone s h _).1,
      (issued_alone s h _).2, ?_⟩
    rw [issued_sh hs]
    refine ⟨kw.trans (by simp), kst.trans (by simp), ?_⟩
    have hl : lset (x.sequence.accesses mx my none none).a k 0 = lset x.a k 0 := congrArg (lset · k 0) (ka.trans (by simp))
    rw [← hl]
  case mvco =>
    intro s h arr k width rd dm mx my x hs
    obtain ⟨v, hv⟩ : ∃ v, v = x.aPrev.getD k 0 := ⟨_, rfl⟩
    obtain ⟨t, ht⟩ : ∃ t, t = (s.sequenced h).setSh h fun y => y.accesses mx my none none := ⟨_, rfl⟩
    have he : exec (.mvco h) s = .next (putCo t h v) := by
      rw [ht, hv]
      exact congrArg Host.Outcome.next (issueOne_issues hs (accEffect_self ..))
    obtain ⟨h1, h2⟩ := issued_alone s h fun y => y.accesses mx my none none
    have htx : t.sh h = x.sequence.accesses mx my none none := by
      rw [ht]
      exact issued_sh hs
    have hsucc : successor t h = successor s h := by
      rw [ht]
      rfl
    have hstate : ∀ k, t.shState k = s.shState k := fun k => by
      rw [ht]
      rfl
    rw [← ht] at h1 h2
    clear ht
    obtain ⟨kw, ka, -, -, -, -, -, -⟩ := (PtrStep.accesses x.sequence mx my none none).keeps
    have hcyc : (t.sh h).cycles = x.cycles + 1 := by
      rw [htx, (PtrStep.accesses x.sequence mx my none none).data.cycles, sequence_cycles]
    obtain ⟨pa, pw⟩ := putCo_keeps t h v
    rw [htx] at pa pw
    refine ⟨_, he, h1.trans (putCo_spec t h v).1, pa.trans (ka.trans (by simp)), pw.trans (kw.trans (by simp)), fun hn => ?_,
      fun n hn hnh => ?_⟩
    · rw [putCo_none (hsucc.trans hn)]
      exact h2
    · rw [putCo_some (hsucc.trans hn), hstate, hcyc, ← hv]
      refine ⟨fun j hj hjn => ?_, fun hr => ?_, fun hr => ?_⟩
      · rw [sh_setSh_ne t n j _ (Ne.symm hjn), h2 j fun hc => hj (Fin.ext hc)]
      · rw [sh_setSh_self]
        unfold cascaded
        rw [if_neg (by simpa using hr)]
        exact arrive_single _ v
      · rw [sh_setSh_self, h2 n hnh]
        unfold cascaded
        rw [if_pos (by simpa using hr)]
  case ldi =>
    intro s h dst imm x hs
    have hx : (s.sequenced h).sh h = x.sequence := by
      rw [sequenced_sh, ← hs.1.2.2.1]
    obtain ⟨t, ht⟩ : ∃ t, t = s.sequenced h := ⟨_, rfl⟩
    have he : exec (.ldi h) s = .next (writeDest t h dst imm) := by
      rw [ht]
      exact congrArg Host.Outcome.next (issueOne_issues hs rfl)
    have ho := sequenced_outside s h
    have hk := sequenced_others s h
    rw [← ht] at hx ho hk
    clear ht
    refine ⟨_, he, (ho.mono (by decide)).andThen (writeDest_outside t h dst imm) (by decide),
      hk.trans (OperandStep.writeDest t h dst imm).others, fun hd => ?_, fun h1 h2 h29 => ?_, fun hd hl => ?_, fun hd hl => ?_,
      fun hd hl => ?_⟩
    · rw [writeDest_register (by omega) (by omega), sh_setSh_self, if_pos hd, hx]
      exact congrArg (lset · dst imm) (by simp)
    · rw [writeDest_register h2 h29, sh_setSh_self, if_neg (by omega), hx]
      exact ⟨congrArg (· ++ _) (by simp), by simp [Shuttle.later]⟩
    · subst hd
      have hroom := putStream_room (s := t) (h := h) (n := 0) imm (by rw [hx]; simpa using hl)
      rw [hx] at hroom
      exact hroom.trans (by simp)
    · subst hd
      have hroom := putStream_room (s := t) (h := h) (n := 1) imm (by rw [hx]; simpa using hl)
      rw [hx] at hroom
      exact hroom.trans (by simp)
    · subst hd
      have hroom := putFq_room (s := t) (h := h) imm (by rw [hx]; simpa using hl)
      rw [hx] at hroom
      exact hroom.trans (by simp)
  case movrW =>
    intro s h dst src x hs hd
    have hx : (s.sequenced h).sh h = x.sequence := by
      rw [sequenced_sh, ← hs.1.2.2.1]
    have hnum : (s.sequenced h).num (shIdx h) 0x0F = s.num (shIdx h) 0x0F := rfl
    obtain ⟨t, ht⟩ : ∃ t, t = s.sequenced h := ⟨_, rfl⟩
    obtain ⟨r, hr⟩ : ∃ r, r = readSource t h src := ⟨_, rfl⟩
    have he : exec (.movr h) s = .next (writeDest r.1 h dst r.2) := by
      rw [hr, ht]
      exact congrArg Host.Outcome.next (issueOne_issues hs rfl)
    have ho := sequenced_outside s h
    have hk := sequenced_others s h
    have hstep : OperandStep h t r.1 := hr ▸ .readSource t h src
    rw [← ht] at hx ho hk hnum
    clear ht
    have hu := moved_sh (h := h) hd r
    refine ⟨_, he, (ho.mono (by decide)).andThen (hstep.trans (.writeDest r.1 h dst r.2)).outside (by decide),
      hk.trans (hstep.trans (.writeDest r.1 h dst r.2)).others, ?_⟩
    rw [hu]
    have hw : ∀ q : State × Nat,
      r = q → (q.1.sh h).w = x.w → ((r.1.sh h).setW dst r.2).w = lset x.w dst q.2 := fun q hq hqw => by
      rw [hq, ← hqw]
      rfl
    have htw : (t.sh h).w = x.w := by
      rw [hx]
      simp
    refine ⟨fun h1 h29 => ?_, fun v rest h1 hsi => ?_, fun v rest h1 hsi => ?_, fun h1 hsi => ?_, fun h1 => ?_,
      fun v rest h1 hfd => ?_, fun h1 => ?_⟩
    · rw [readSource_register h1 h29, hx, reg_sequence] at hr
      exact hw _ hr htw
    · subst h1
      have hq := takeStream_word (s := t) (h := h) (n := 0) (v := v) (rest := rest) (by rw [hx]; simpa using hsi)
      have hrq := hr.trans hq
      refine ⟨hw _ hrq (by rw [sh_setSh_self]; exact htw), ?_⟩
      rw [hrq, sh_setSh_self, hx]
      simp [Shuttle.setW]
    · subst h1
      have hq := takeStream_word (s := t) (h := h) (n := 1) (v := v) (rest := rest) (by rw [hx]; simpa using hsi)
      have hrq := hr.trans hq
      refine ⟨hw _ hrq (by rw [sh_setSh_self]; exact htw), ?_⟩
      rw [hrq, sh_setSh_self, hx]
      simp [Shuttle.setW]
    · subst h1
      have hq := takeStream_empty (s := t) (h := h) (n := 0) (by rw [hx]; simpa using hsi)
      have hrq := hr.trans hq
      have hsh := sh_congr ((streamFault_spec (t.setSh h fun x => x.updSt fun st => putBit st stSE true) h 0) .shu (by decide)) h
      refine ⟨hw _ hrq (by rw [hsh, sh_setSh_self]; exact htw), ?_⟩
      rw [hrq, hsh, sh_setSh_self]
      exact bitOf_putBit_self ..
    · subst h1
      have hrq : r = (t, x.sq) := by
        rw [hr]
        refine congrArg (Prod.mk t) ?_
        rw [hx]
        simp [Shuttle.sq]
      exact hw _ hrq htw
    · subst h1
      have hq := takeFd_word (s := t) (h := h) (v := v) (rest := rest) (by rw [hx]; simpa using hfd)
      have hrq := hr.trans hq
      refine ⟨hw _ hrq (by rw [sh_setSh_self]; exact htw), ?_⟩
      rw [hrq, sh_setSh_self]
      rfl
    · subst h1
      exact hnum ▸ hw _ hr htw
  case movr =>
    intro s h dst src x hs hd hd' hd29 hsrc hs29
    have hx : (s.sequenced h).sh h = x.sequence := by
      rw [sequenced_sh, ← hs.1.2.2.1]
    have he : exec (.movr h) s = .next ((s.sequenced h).setSh h fun y => if dst < 0x10 then y.setW dst (x.reg src)
        else y.later dst (x.reg src)) := by
      refine congrArg Host.Outcome.next (issueOne_issues hs ?_)
      dsimp only
      rw [readSource_register hsrc hs29, writeDest_register hd' hd29, hx, reg_sequence]
    refine ⟨_, he, ?_, ?_, (issued_alone s h _).1, (issued_alone s h _).2⟩
    · rw [issued_sh hs, if_neg (by omega)]
      exact congrArg (· ++ _) (by simp)
    · rw [issued_sh hs, if_neg (by omega)]
      simp [Shuttle.later]
  case ldm =>
    intro s h dst port addr x hs h29
    have he : exec (.ldm h) s = .next (writeLoaded (s.sequenced h) h dst (x.dmAt addr)) :=
      congrArg Host.Outcome.next (issueOne_issues hs rfl)
    refine ⟨_, he, (issued_alone s h _).1, (issued_alone s h _).2, ?_⟩
    unfold writeLoaded
    rw [issued_sh hs, if_neg h29]
    exact ⟨by simp [Shuttle.later], congrArg (· ++ _) (by simp)⟩
  case stm =>
    intro s h dst port addr x hs h29
    have he : exec (.stm h) s = .next ((s.sequenced h).setSh h fun y => y.later (codeMem + addr) (x.reg dst)) :=
      congrArg Host.Outcome.next (issueOne_issues hs (by dsimp only; rw [if_neg h29]))
    refine ⟨_, he, (issued_alone s h _).1, (issued_alone s h _).2, ?_⟩
    rw [issued_sh hs]
    exact ⟨by simp [Shuttle.later], by simp [Shuttle.later], congrArg (· ++ _) (by simp)⟩

end Sys2Proof.Machine
end

section
/-! What C instructions, WAIT limits, interrupts and the ends of runs do (R364, R371 to R381, R409; obligation O48). -/

namespace Sys2Proof.Machine

variable {s t u : State} {h op cond opd : Nat} {x y : Shuttle}

/-! ### Instructions that redirect stand alone -/

/-- An instruction that redirects stands in no delay slot and is not repeated (R372). -/
theorem Stands.alone (hs : Stands s h (.ctl op cond opd) x) (hop : op ≠ 0) : x.slots = 0 ∧ x.rpt = 0 := by
  obtain ⟨-, -, -, hb⟩ := hs
  have hr : (ShInstr.ctl op cond opd).redirects = true := by simpa [ShInstr.redirects] using hop
  simpa [Shuttle.forbids, hr] using hb

theorem Stands.issues (hs : Stands s h (.ctl op cond opd) x) (hop : op ≠ 0) : Issues s h (.ctl op cond opd) x :=
  ⟨hs, fun hx => by
    obtain ⟨h0, -⟩ := hs.alone hop
    omega⟩

theorem Stands.sequence_pc (hs : Stands s h (.ctl op cond opd) x) (hop : op ≠ 0) :
    x.sequence.pc = nextPc x.pc ∧ x.sequence.rpt = 0 := by
  obtain ⟨h0, hr⟩ := hs.alone hop
  obtain ⟨-, hp, hr'⟩ := sequence_advances hr (by omega)
  exact ⟨hp, hr'⟩

@[simp] theorem ctlEffect_self (op : Nat) (F : Nat → Nat → State) (cond opd : Nat) :
    ctlEffect op F (.ctl op cond opd) = some (F cond opd) := if_pos rfl

/-- A C instruction whose effect is one on its own shuttle. -/
theorem does_control {h : Fin 512} {f : Shuttle → Shuttle} {c : Instr} {F : Shuttle → State → Nat → Nat → State}
    {P : State → Prop} (hs : Stands s h (.ctl op cond opd) x) (hop : op ≠ 0)
    (hc : exec c s = .next (issueOne h (fun x t i => ctlEffect op (F x t) i) s))
    (hF : F x (s.sequenced h) cond opd = (s.sequenced h).setSh h f)
    (hP : P ((s.sequenced h).setSh h f)) :
    Does c s fun u => Outside [.shu] s u ∧ OthersKept s u h ∧ P u := by
  obtain ⟨ho, hk⟩ := issued_alone s h f
  refine ⟨_, hc.trans (congrArg Host.Outcome.next (issueOne_issues (hs.issues hop) ?_)), ho, hk, hP⟩
  rw [ctlEffect_self, hF]

/-! ### Drains -/

theorem land_delayed (x : Shuttle) (c v : Nat) : (x.land c v).delayed = x.delayed := by
  unfold Shuttle.land
  split_ifs <;> rfl

theorem flush_delayed (x : Shuttle) : x.flush.delayed = [] := by
  have hf : ∀ (l : List Delayed) (y : Shuttle), (l.foldl (fun x d => x.land d.reg d.val) y).delayed = y.delayed := fun l => by
    induction l with
    | nil => exact fun y => rfl
    | cons d l ih => exact fun y => (ih _).trans (land_delayed ..)
  exact hf _ _

theorem DataStep.waitLeft (h : DataStep x y) : y.waitLeft = x.waitLeft := by
  unfold DataStep at h
  rw [h]

theorem DataStep.ended (h : DataStep x y) : y.ended = x.ended := by
  unfold DataStep at h
  rw [h]

/-! ### The end of a run -/

theorem shIdx_plain (hh : h < 512) : PlainIndex (shIdx h) := by
  unfold PlainIndex shIdx
  omega

/-- What leaves the entries of shuttle `h`, but for those of `subs`, and events other than `ms` as they were. -/
structure RunStep (ms subs : List Nat) (h : Nat) (s t : State) : Prop where
  outside : Outside [.cat, .mgmt, .clk, .shu] s t
  others : OthersKept s t h
  events : EventsBut ms s t
  subs : ∀ a, a < 256 → a ∉ subs → t.num (shIdx h) a = s.num (shIdx h) a

theorem RunStep.trans {ms subs ns tubs : List Nat} (h1 : RunStep ms subs h s t) (h2 : RunStep ns tubs h t u) :
    RunStep (ms ++ ns) (subs ++ tubs) h s u where
  outside := h1.outside.andThen h2.outside (by decide)
  others := h1.others.trans h2.others
  events := (h1.events.mono (by simp)).trans (h2.events.mono (by simp))
  subs := fun a ha hn => by
    rw [List.mem_append, not_or] at hn
    rw [h2.subs a ha hn.2, h1.subs a ha hn.1]

theorem RunStep.refl (s : State) (ms subs : List Nat) : RunStep ms subs h s s :=
  ⟨.refl _ _, fun _ _ => rfl, .refl _ _, fun _ _ _ => rfl⟩

theorem RunStep.mono {ms subs ns tubs : List Nat} (h1 : RunStep ms subs h s t) (hm : ms ⊆ ns) (hs : subs ⊆ tubs) :
    RunStep ns tubs h s t :=
  ⟨h1.outside, h1.others, h1.events.mono hm, fun a ha hn => h1.subs a ha fun hc => hn (hs hc)⟩

theorem RunStep.put (hh : h < 512) (s : State) {a : Nat} (ha : a < 256) (v : Nat) : RunStep [] [a] h s
    (s.put (shIdx h) a v) where
  outside := (outside_put s _ _ _).mono (by decide)
  others := othersKept_of_shu rfl
  events := .of_put s ha (.inl (by unfold shIdx; omega))
  subs := fun b hb hn => num_put_of_apart ha hb (.inr fun hc => hn (by simp [hc])) (.inr (.inr (.inr (shIdx_plain hh))))

theorem RunStep.count (hh : h < 512) (s : State) {a : Nat} (ha : a < 256) (w n : Nat) :
    RunStep [] [a] h s (s.count (shIdx h) a w n) := .put hh s ha _

theorem RunStep.setSh (s : State) (h : Nat) (f : Shuttle → Shuttle) : RunStep [] [] h s (s.setSh h f) :=
  ⟨(outside_setSh s h f).mono (by decide), othersKept_setSh s h f, .of_cat rfl, fun _ _ _ => rfl⟩

theorem RunStep.raise (hh : h < 512) (s : State) {n : Nat} (hn : n < 4096) (unit : Nat) (b : List Byte) :
    RunStep [n] [] h s (s.raise n unit b) where
  outside := (outside_raise s _ _ _).mono (by decide)
  others := othersKept_of_shu ((outside_raise s n unit b) .shu (by decide))
  events := .of_raise s (by simp)
  subs := fun a ha _ => num_raise hn _ a ha (.inl (by unfold shIdx; omega))

theorem RunStep.raiseAtMost (hh : h < 512) (s : State) {m : Nat} (hm : m < 4096) (n unit : Nat) (f : Nat → List Byte) :
    RunStep [m] [] h s (s.raiseAtMost n m unit f) where
  outside := (outside_raiseAtMost s _ _ _ _).mono (by decide)
  others := othersKept_of_shu ((outside_raiseAtMost s n m unit f) .shu (by decide))
  events := .of_raiseAtMost s (by simp)
  subs := fun a ha _ => num_raiseAtMost hm _ a ha (.inl (by unfold shIdx; omega))

theorem runStep_discardPartial (hh : h < 512) (s : State) : RunStep [] [0x17] h s (discardPartial s h) := by
  unfold discardPartial
  split
  · exact .refl ..
  · exact (RunStep.count hh s (by decide) 32 1).trans (.setSh _ h _)

theorem runStep_noteOver (hh : h < 512) (s : State) (n : Nat) : RunStep [0x812] [0x0C] h s (noteOver s h n) := by
  unfold noteOver
  extract_lets e d
  split
  · exact (RunStep.count hh s (by decide) 32 1).trans (.raise hh _ (by decide) _ _)
  · exact .refl ..

/-- A run that exceeds its declaration is counted and reported (R381). -/
theorem noteOver_counts (hh : h < 512) (s : State) {n : Nat} (hd : (s.sh h).declared (s.num (shIdx h) 5) < n) :
    (noteOver s h n).num (shIdx h) 0x0C = (s.num (shIdx h) 0x0C + 1) % 2 ^ 32 ∧ Raised s (noteOver s h n) 0x812 := by
  unfold noteOver
  dsimp only
  rw [if_pos hd]
  refine ⟨?_, EventsBut.raised (ms := []) (RunStep.count hh s (by decide) 32 1).events (by decide) (by decide) (by simp)⟩
  rw [(RunStep.raise hh _ (by decide) _ _).subs _ (by decide) (by simp)]
  exact num_put_self ..

theorem runStep_putSh (hh : h < 512) (s : State) (n : Nat) : RunStep [] [1] h s (putSh s h n) := by
  unfold putSh
  extract_lets c t
  have ht : RunStep [] [] h s t := by
    simp only [t]
    split
    · exact ⟨fun p hp => by cases p <;> simp at hp ⊢, othersKept_of_shu rfl, .of_cat rfl, fun _ _ _ => rfl⟩
    · exact .refl ..
  exact ht.trans (.put hh t (by decide) n)

/-- The shuttle takes a state as its run ends (R381). -/
theorem leaveRun_spec (hh : h < 512) (s : State) (n : Nat) : RunStep [] [0x17, 1] h s (leaveRun s h n) ∧
    (leaveRun s h n).num (shIdx h) 1 = n ∧ ((leaveRun s h n).sh h).ended = false ∧ ((leaveRun s h n).sh h).waiting = false := by
  unfold leaveRun
  extract_lets t
  have ht : RunStep [] [0x17] h s t := (runStep_discardPartial hh s).trans (.setSh _ h _)
  have hp := runStep_putSh hh t n
  have hsh : (putSh t h n).sh h = t.sh h := sh_congr (by unfold putSh; split <;> rfl) h
  refine ⟨ht.trans hp, ?_, ?_, ?_⟩
  · exact num_put_self ..
  · rw [hsh]
    simp only [t, sh_setSh_self]
    exact (DataStep.arrive _).ended
  · rw [hsh]
    simp only [t, sh_setSh_self]
    exact (DataStep.arrive _).waiting

theorem shState_of_running (hr : s.shState h = shRunning) (hu : t.unit = s.unit) : t.shState h = t.num (shIdx h) 1 := by
  unfold State.shState at hr ⊢
  rw [hu]
  split at hr
  · exact absurd hr (by decide)
  · next hm => exact if_neg hm

theorem runStep_noteDeferred (hh : h < 512) (s : State) : RunStep [0x816] [0x0D] h s (noteDeferred s h) := by
  unfold noteDeferred
  extract_lets l
  split
  · exact .refl ..
  · exact (RunStep.count hh s (by decide) 32 _).trans (.raiseAtMost hh _ (by decide) _ _ _)

theorem noteDeferred_sh (s : State) : (noteDeferred s h).sh h = s.sh h := by
  have ho : Outside [.cat, .mgmt] s (noteDeferred s h) := fun p hp => by cases p <;> simp at hp ⊢
  exact sh_congr (ho .shu (by decide)) h

theorem state_running {h : Nat} (hr : s.runs h = true) : s.shState h = shRunning := by
  unfold State.runs at hr
  rw [Bool.and_eq_true, Bool.and_eq_true] at hr
  exact eq_of_beq hr.1.1

/-- An uncorrectable image word ends the run at once (R364, R384). -/
theorem fetchDbe_spec {h : Fin 512} (hr : s.runs h = true) :
    Does (.instructionFetchDbe h) s fun u => Outside [.cat, .mgmt, .clk, .shu] s u ∧ OthersKept s u h ∧
      u.shState h = shFailed ∧ (u.sh h).waiting = false ∧
      u.num (shIdx h) 0x15 = (s.num (shIdx h) 0x15 + 1) % 2 ^ 32 ∧ Raised s u 0x830 := by
  have hN := runStep_noteOver h.2 s (s.sh h).cycles
  obtain ⟨hL, h1, -, hw⟩ := leaveRun_spec h.2 (noteOver s h (s.sh h).cycles) shFailed
  obtain ⟨t, ht⟩ : ∃ t, t = leaveRun (noteOver s h (s.sh h).cycles) h shFailed := ⟨_, rfl⟩
  have he : exec (.instructionFetchDbe h) s = .next ((t.count (shIdx h) 0x15 32 1).raise 0x830 h (be 1 0)) := by
    rw [ht]
    exact congrArg Host.Outcome.next (if_pos hr)
  rw [← ht] at hL h1 hw
  clear ht
  have hC := RunStep.count h.2 t (a := 0x15) (by decide) 32 1
  have hR := RunStep.raise h.2 (t.count (shIdx h) 0x15 32 1) (n := 0x830) (by decide) h (be 1 0)
  have hA := (hN.trans hL).trans hC
  have hB := hA.trans hR
  refine ⟨_, he, hB.outside, hB.others, ?_, ?_, ?_, hA.events.raised (by decide) (by decide) (by decide)⟩
  · rw [shState_of_running (state_running hr) (hB.outside .unit (by decide)), hR.subs 1 (by decide) (by decide),
      hC.subs 1 (by decide) (by decide), h1]
  · rw [sh_congr ((outside_raise _ _ _ _) .shu (by decide)), sh_congr ((outside_count _ _ _ _ _) .shu (by decide))]
    exact hw
  · rw [hR.subs 0x15 (by decide) (by decide)]
    have h15 : t.num (shIdx h) 0x15 = s.num (shIdx h) 0x15 := (hN.trans hL).subs _ (by decide) (by decide)
    rw [← h15]
    exact num_put_self ..

/-- A run completes (R381). -/
theorem runComplete_spec {h : Fin 512} {e n : Nat} (hs : s.shState h = shRunning) (hend : (s.sh h).ended = true)
    (hh : s.pwr.halted = false) (he : e = s.num (shIdx h) 5) (hn : n = (s.sh h).cycles + 6) :
    Does (.runComplete h) s fun u => Outside [.cat, .mgmt, .clk, .shu] s u ∧ OthersKept s u h ∧ u.shState h = shIdle ∧
      (u.sh h).ended = false ∧ u.num (shIdx h) 7 = n % 2 ^ 32 ∧
      ((s.sh h).declared e < n → u.num (shIdx h) 0x0C = (s.num (shIdx h) 0x0C + 1) % 2 ^ 32 ∧ Raised s u 0x812) := by
  have hD := runStep_noteDeferred h.2 s
  have hDsh := noteDeferred_sh (h := h) s
  obtain ⟨d, hd⟩ : ∃ d, d = noteDeferred s h := ⟨_, rfl⟩
  rw [← hd] at hD hDsh
  have h7 := RunStep.put h.2 d (a := 7) (by decide) (n % 2 ^ 32)
  obtain ⟨p, hp⟩ : ∃ p, p = d.put (shIdx h) 7 (n % 2 ^ 32) := ⟨_, rfl⟩
  have hp7 : p.num (shIdx h) 7 = n % 2 ^ 32 := hp ▸ num_put_self ..
  have hpsh : p.sh h = s.sh h := (hp ▸ rfl : p.sh h = d.sh h).trans hDsh
  rw [← hp] at h7
  have h8 := RunStep.put h.2 p (a := 8) (by decide) (Nat.max (p.num (shIdx h) 8) (n % 2 ^ 32))
  obtain ⟨q, hq⟩ : ∃ q, q = p.put (shIdx h) 8 (Nat.max (p.num (shIdx h) 8) (n % 2 ^ 32)) := ⟨_, rfl⟩
  have hqsh : q.sh h = s.sh h := (hq ▸ rfl : q.sh h = p.sh h).trans hpsh
  rw [← hq] at h8
  have hO := runStep_noteOver h.2 q n
  obtain ⟨hL, h1, hended, -⟩ := leaveRun_spec h.2 (noteOver q h n) shIdle
  have hx : exec (.runComplete h) s = .next (leaveRun (noteOver q h n) h shIdle) := by
    rw [hq, hp, hd, hn]
    exact congrArg Host.Outcome.next (if_pos ⟨hs, hend, by rw [hh]; rfl⟩)
  clear hq hp hd
  have hA := (hD.trans h7).trans h8
  have hB := (hA.trans hO).trans hL
  refine ⟨_, hx, hB.outside, hB.others, ?_, hended, ?_, fun hlt => ?_⟩
  · rw [shState_of_running hs (hB.outside .unit (by decide)), h1]
  · rw [hL.subs 7 (by decide) (by decide), hO.subs 7 (by decide) (by decide), h8.subs 7 (by decide) (by decide), hp7]
  · have h5 : q.num (shIdx h) 5 = e := (hA.subs 5 (by decide) (by decide)).trans he.symm
    have hC : q.num (shIdx h) 0x0C = s.num (shIdx h) 0x0C := hA.subs _ (by decide) (by decide)
    obtain ⟨hcount, hraised⟩ := noteOver_counts h.2 q (n := n) (by rw [hqsh, h5]; exact hlt)
    rw [hC] at hcount
    refine ⟨(hL.subs _ (by decide) (by decide)).trans hcount, ?_⟩
    exact (Raised.after_events hA.events hraised (by decide) (by decide) (by decide)).then_events hL.events (by decide)
      (by decide) (by decide)

/-- An interrupt is taken at an issue point (R376). -/
theorem takeInterrupt_spec (s : State) (h i : Nat) (hx : x = (s.front h).sh h) :
    Outside [.fresh, .shu] s (takeInterrupt s h i) ∧ OthersKept s (takeInterrupt s h i) h ∧
      ((takeInterrupt s h i).sh h).savedPc = x.pc ∧ ((takeInterrupt s h i).sh h).savedSt = x.flush.st ∧
      ((takeInterrupt s h i).sh h).pc = x.vector i % 4096 ∧ bitOf ((takeInterrupt s h i).sh h).st stInIrq = true ∧
      ((i < 6 ∨ 10 ≤ i) → bitOf ((takeInterrupt s h i).sh h).st (pendBit i) = false) ∧
      ((takeInterrupt s h i).sh h).waiting = false ∧
      (x.waiting = false → ((takeInterrupt s h i).sh h).cycles = x.cycles + 3) := by
  have hF := outside_setSh s h fun x => x.arrive.tick
  have hK := othersKept_setSh s h fun x => x.arrive.tick
  unfold takeInterrupt
  extract_lets t w v
  have hv : Outside [.fresh] t v := .ite (outside_draw t) (.refl _ _)
  have hvx : v.sh h = x := (sh_congr (hv .shu (by decide)) h).trans hx.symm
  have hw : x.waiting = false → w = 0 := fun hxw => by
    simp only [w, t]
    rw [← hx, hxw]
    rfl
  have hfl := DataStep.flush x
  have himg : x.flush.vector i = x.vector i := by
    unfold Shuttle.vector
    rw [hfl.image]
  have hpend : pendBit i ≠ stInIrq := by
    unfold pendBit stInIrq
    omega
  have hsv : Outside [.fresh, .shu] s v := (hF.mono (by decide)).andThen hv (by decide)
  refine ⟨hsv.andThen (outside_setSh v h _) (by decide),
    (hK.trans (othersKept_of_shu (hv .shu (by decide)))).trans (othersKept_setSh v h _), ?_⟩
  clear_value v w
  rw [sh_setSh_self, hvx]
  dsimp only
  refine ⟨hfl.pc, rfl, congrArg (· % 4096) himg, bitOf_putBit_self .., fun hi => ?_, rfl, fun hxw => ?_⟩
  · rw [bitOf_putBit_ne _ _ _ hpend, if_neg (by omega), bitOf_putBit_self]
  · rw [hfl.cycles, hw hxw]

/-- An image word that is no instruction ends the run (R372). -/
theorem invalidInstruction_spec {h : Fin 512} (hm : s.mayIssue h = true) (hf : s.fetched h = none) :
    Does (.invalidInstruction h) s fun u => Outside [.cat, .mgmt, .shu] s u ∧ OthersKept s u h ∧ (u.sh h).ended = true ∧
      (u.sh h).cycles = (s.sh h).cycles + 1 ∧ Raised s u 0x831 := by
  obtain ⟨v, hv⟩ : ∃ v, v = ((s.front h).setSh h fun x => { x with cycles := x.cycles + 1 }).setSh h fun x =>
      { x.flush with ended := true } := ⟨_, rfl⟩
  have he : exec (.invalidInstruction h) s = .next (v.raise 0x831 h (be 2 (s.sh h).pc)) := by
    have h1 : exec (.invalidInstruction h) s = execInvalidInstruction h s := rfl
    rw [h1, hv]
    unfold execInvalidInstruction
    rw [hf, hm]
    rfl
  have ho : Outside [.shu] s v := hv ▸ (((outside_setSh s h _).trans (outside_setSh _ h _)).trans (outside_setSh _ h _))
  have hk : OthersKept s v h := hv ▸ (((othersKept_setSh s h _).trans (othersKept_setSh _ h _)).trans (othersKept_setSh _ h _))
  have hx : (v.sh h).ended = true ∧ (v.sh h).cycles = (s.sh h).cycles + 1 := by
    rw [hv, sh_setSh_self, sh_setSh_self]
    exact ⟨rfl, (DataStep.flush _).cycles.trans (congrArg (· + 1) (DataStep.front s h).cycles)⟩
  have hsh : (v.raise 0x831 h (be 2 (s.sh h).pc)).sh h = v.sh h := sh_congr ((outside_raise _ _ _ _) .shu (by decide)) h
  have hev : EventsBut [] s v := .of_cat (ho .cat (by decide))
  refine ⟨_, he, (ho.mono (by decide)).andThen (outside_raise _ _ _ _) (by decide),
    hk.trans (othersKept_of_shu ((outside_raise _ _ _ _) .shu (by decide))), ?_⟩
  rw [hsh]
  exact ⟨hx.1, hx.2, hev.raised (by decide) (by decide) (by simp)⟩

/-- The shuttle after WAIT (R378). -/
def Shuttle.waits (y : Shuttle) (n : Nat) : Shuttle :=
  if y.descs.isEmpty then y.updSt fun st => putBit st stWTO false
  else
    (y.delayed.filter fun d => d.wait = 0).foldl (fun z d => z.land d.reg d.val)
      { y with waiting := true, waitLeft := n, delayed := y.delayed.filter fun d => d.wait ≠ 0 }

theorem waitEffect_eq (h n : Nat) (t : State) : waitEffect h n t = t.setSh h fun y => y.waits n := rfl

theorem waits_done (hd : y.descs = []) (hw : y.waiting = false) (n : Nat) :
    (y.waits n).waiting = false ∧ bitOf (y.waits n).st stWTO = false := by
  unfold Shuttle.waits
  rw [if_pos (by rw [hd]; rfl)]
  exact ⟨hw, bitOf_putBit_self ..⟩

theorem waits_holds (hd : y.descs ≠ []) (n : Nat) : (y.waits n).waiting = true ∧ (y.waits n).waitLeft = n := by
  unfold Shuttle.waits
  rw [if_neg (by simpa using hd)]
  exact ⟨(DataStep.landAll _ _).waiting, (DataStep.landAll _ _).waitLeft⟩

theorem Stands.waiting {i : ShInstr} (hs : Stands s h i x) : x.waiting = false := by
  obtain ⟨hm, -, rfl, -⟩ := hs
  rw [(DataStep.front s h).waiting]
  unfold State.mayIssue at hm
  simp only [Bool.and_eq_true, Bool.not_eq_true'] at hm
  exact hm.1.2

/-- RPT RC repeats nothing, with or without a report, or repeats what follows (R373, R374). -/
theorem rptr_spec {h : Fin 512} (hs : Stands s h (.ctl 4 cond opd) x) :
    Does (.rptr h) s fun u => Outside [.cat, .mgmt, .shu] s u ∧ OthersKept s u h ∧ (u.sh h).w = x.w ∧
      ((x.rc = 0 ∨ s.num (shIdx h) 2 < x.rc) → (u.sh h).rpt = 0 ∧ (u.sh h).pc = nextPc (nextPc x.pc)) ∧
      (s.num (shIdx h) 2 < x.rc → bitOf (u.sh h).st stRPTX = true) ∧
      (x.rc ≠ 0 → x.rc ≤ s.num (shIdx h) 2 → (u.sh h).rpt = x.rc ∧ (u.sh h).pc = nextPc x.pc) := by
  obtain ⟨hpc, hrpt⟩ := hs.sequence_pc (by decide)
  have hw : x.sequence.w = x.w := by simp
  have hnum : (s.sequenced h).num (shIdx h) 2 = s.num (shIdx h) 2 := rfl
  have he : exec (.rptr h) s = .next (repeatRc h x (s.sequenced h)) :=
    congrArg Host.Outcome.next (issueOne_issues (hs.issues (by decide)) (ctlEffect_self ..))
  have ho := (sequenced_outside s h).mono (qs := [.cat, .mgmt, .shu]) (by decide)
  have hk := sequenced_others s h
  have hsq : (s.sequenced h).sh h = x.sequence := by
    rw [sequenced_sh, ← hs.2.2.1]
  obtain ⟨t, ht⟩ : ∃ t, t = s.sequenced h := ⟨_, rfl⟩
  rw [← ht] at he hnum ho hk hsq
  clear ht
  refine ⟨_, he, ?_⟩
  unfold repeatRc repeatRc.s_ceiling
  extract_lets skip
  have hskip : skip.sh h = { x.sequence with pc := nextPc (nextPc x.pc) } := by
    simp only [skip]
    rw [sh_setSh_self, hsq, hpc]
  rw [hnum]
  by_cases h0 : x.rc = 0
  · rw [if_pos h0]
    refine ⟨ho.andThen (outside_setSh t h _) (by decide), hk.trans (othersKept_setSh t h _), ?_⟩
    rw [hskip]
    exact ⟨hw, fun _ => ⟨hrpt, rfl⟩, fun hc => absurd hc (by omega), fun hc => absurd h0 hc⟩
  · rw [if_neg h0]
    by_cases hc : s.num (shIdx h) 2 < x.rc
    · rw [if_pos hc]
      have hr := outside_raiseAtMost (skip.setSh h fun y => y.updSt fun st => putBit st stRPTX true) 1 0x814 h
        (fun _ => be 2 x.pc ++ be 4 x.rc)
      have hs2 : Outside [.shu] t (skip.setSh h fun y => y.updSt fun st => putBit st stRPTX true) :=
        (outside_setSh t h _).trans (outside_setSh skip h _)
      refine ⟨(ho.andThen hs2 (by decide)).andThen hr (by decide),
        ((hk.trans (othersKept_setSh t h _)).trans (othersKept_setSh skip h _)).trans
          (othersKept_of_shu (hr .shu (by decide))), ?_⟩
      rw [sh_congr (hr .shu (by decide)), sh_setSh_self, hskip]
      exact ⟨hw, fun _ => ⟨hrpt, rfl⟩, fun _ => bitOf_putBit_self .., fun _ hle => absurd hc (by omega)⟩
    · rw [if_neg hc]
      refine ⟨ho.andThen (outside_setSh t h _) (by decide), hk.trans (othersKept_setSh t h _), ?_⟩
      rw [sh_setSh_self, hsq]
      exact ⟨hw, fun hor => absurd hor (by omega), fun h' => absurd h' hc, fun _ _ => ⟨rfl, hpc⟩⟩

/-- Settles O48: an instruction that redirects stands in no delay slot,
  so its row is its own effect after sequencing has gone to
the next word; the ends of runs are their steps on the entries of the shuttle (`RunStep`). -/
theorem controlInstructionsAndRuns : Obligations.ControlInstructionsAndRuns := by
  unfold Obligations.ControlInstructionsAndRuns
  refine ⟨?ctrlNop, ?br, ?dbnz, ?rpt, fun s h cond opd x hs => rptr_spec hs, ?wait, ?waitLimit, ?endRun, ?rti,
    fun s h hm hf => invalidInstruction_spec hm hf, fun s h hr => fetchDbe_spec hr, ?interruptTake,
    fun s h e n hs hend hh he hn => runComplete_spec hs hend hh he hn, ?eventInput⟩
  case ctrlNop =>
    intro s h x hs
    have hx : (s.sequenced h).sh h = x.sequence := by
      rw [sequenced_sh, ← hs.1.2.2.1]
    refine ⟨s.sequenced h, congrArg Host.Outcome.next (issueOne_issues hs (ctlEffect_self ..)), sequenced_outside s h,
      sequenced_others s h, ?_⟩
    rw [hx]
    simp
  case br =>
    intro s h cond opd x hs
    refine does_control hs (by decide) rfl rfl ?_
    rw [issued_sh (hs.issues (by decide))]
    exact ⟨rfl, rfl, rfl, rfl, (hs.sequence_pc (by decide)).1, by simp [Shuttle.redirect]⟩
  case dbnz =>
    intro s h r opd v x hs hv
    refine does_control (f := fun y => (y.decrement r v).redirect (v != 0) opd) hs (by decide) rfl (by rw [hv]) ?_
    clear hv
    rw [issued_sh (hs.issues (by decide))]
    exact ⟨rfl, by simp [Shuttle.redirect, Shuttle.decrement], rfl, rfl, (hs.sequence_pc (by decide)).1,
      by simp [Shuttle.redirect, Shuttle.decrement]⟩
  case rpt =>
    intro s h cond opd x hs
    refine does_control hs (by decide) rfl rfl ?_
    rw [issued_sh (hs.issues (by decide))]
    exact ⟨rfl, (hs.sequence_pc (by decide)).1, by simp⟩
  case wait =>
    intro s h cond opd x hs
    refine does_control hs (by decide) rfl (waitEffect_eq h opd _) ?_
    rw [issued_sh (hs.issues (by decide))]
    have hd : x.sequence.descs = x.descs := by simp
    exact ⟨fun h0 => waits_done (hd.trans h0) ((by simp : x.sequence.waiting = x.waiting).trans hs.waiting) opd,
      fun h0 => waits_holds (by rwa [hd]) opd⟩
  case waitLimit =>
    intro s h hr hw
    refine ⟨_, congrArg Host.Outcome.next (if_pos (by rw [hr, hw]; rfl)), outside_setSh s h _, othersKept_setSh s h _, ?_⟩
    rw [sh_setSh_self]
    exact ⟨rfl, bitOf_putBit_self .., rfl⟩
  case endRun =>
    intro s h cond opd x hs
    refine does_control hs (by decide) rfl rfl ?_
    rw [issued_sh (hs.issues (by decide))]
    exact ⟨rfl, flush_delayed _⟩
  case rti =>
    intro s h cond opd x hs
    refine does_control hs (by decide) rfl rfl ?_
    rw [issued_sh (hs.issues (by decide))]
    exact ⟨rfl, rfl, (hs.sequence_pc (by decide)).1, sequence_savedPc x, by simp [Shuttle.redirect]⟩
  case interruptTake =>
    intro s h i x hr hq hx
    have he : exec (.interruptTake h) s = .next (takeInterrupt s h i) := by
      refine congrArg Host.Outcome.next ((if_pos hr).trans ?_)
      rw [hq]
    exact ⟨_, he, takeInterrupt_spec s h i hx⟩
  case eventInput =>
    intro s h i hc
    refine ⟨_, congrArg Host.Outcome.next (if_pos hc), ?_, ?_, rfl, ?_⟩
    · exact fun p hp => by cases p <;> simp at hp ⊢
    · exact OthersKept.trans (othersKept_of_shu rfl) (othersKept_setSh _ h _)
    · unfold pend
      rw [sh_setSh_self]
      exact bitOf_putBit_self ..

end Sys2Proof.Machine
end

section
/-! A counter that reads what the bitstream compiles for it once it is cleared (R46, R435; obligation O51). -/

namespace Sys2Proof.Machine

/-- A device that answers, whose running bitstream compiles 7 as the value of initiator 0's count of transactions. -/
def compiledCount : State :=
  { Tests.rdy with cfg := { Tests.rdy.cfg with compiled := { Tests.rdy.cfg.compiled with entries := [(ent (initIdx 0) 3, .num 7)] } } }

/-- STATS_CLEAR takes the stored count away, and the entry reads its compiled value. -/
theorem statsClear_compiledCount :
    ((submit compiledCount Tests.wr (ent 0x090000 7) (.num 1) statsClearRule).num (initIdx 0) 3) = 7 := by
  decide +kernel

theorem compiledCount_recent : compiledCount.noc.recent = [] := rfl

/-- Refutes O51: where the running bitstream compiles a value for an initiator's count of transactions, STATS_CLEAR leaves the
count at that value (7 in `compiledCount`), where the statement asks for the number of transactions of its cycle, 0. -/
theorem not_linksNarrowAndTablesSwap : ¬ Obligations.LinksNarrowAndTablesSwap := by
  unfold Obligations.LinksNarrowAndTablesSwap
  rintro ⟨-, -, -, -, -, -, -, -, -, -, -, -, -, -, -, hclear⟩
  obtain ⟨u, hu, -, -, -, hcounts, -⟩ := hclear compiledCount Tests.wr 1 (by unfold AtOnce Passes; decide +kernel)
  have h7 : u.num (initIdx 0) 3 = 7 := by
    rw [← Host.Outcome.next.inj hu]
    exact statsClear_compiledCount
  have h0 := hcounts (by decide) 0 (by decide)
  rw [h7, compiledCount_recent] at h0
  exact absurd h0 (by decide)

end Sys2Proof.Machine
end

section
/-! Packets on their way, at targets and at initiators (R415 to R433, R449, R463; obligation O50). -/

namespace Sys2Proof.Machine

variable {s t u m : State} {p q r : NocPkt} {c k i a : Nat}

/-! ### The way of a packet -/

/-- The indices whose counts a packet and its wrong words move: the network's and the links'. -/
def wayRanges : List (Nat × Nat) := [(0x090000, 0x090000), (0x090200, 0x09029F)]

/-- What a packet's way leaves as it was: all but the links' counts and what routers and links keep to themselves. -/
structure Crossed (s t : State) : Prop where
  outside : Outside [.cat, .noc] s t
  entries : EntriesOutside [(0x090200, 0x09029F)] s t
  noc : ∃ o l, t.noc = { s.noc with outs := o, links := l }

theorem Crossed.refl (s : State) : Crossed s s := ⟨.refl _ _, fun _ _ => rfl, _, _, rfl⟩

theorem Crossed.trans (h1 : Crossed s t) (h2 : Crossed t u) : Crossed s u := by
  obtain ⟨o, l, h⟩ := h1.noc
  obtain ⟨o', l', h'⟩ := h2.noc
  exact ⟨h1.outside.trans h2.outside, h1.entries.trans h2.entries, o', l', by rw [h', h]⟩

theorem Crossed.of_noc (s : State) (o : Tbl OutPort) (l : Tbl LinkHid) :
    Crossed s { s with noc := { s.noc with outs := o, links := l } } :=
  ⟨fun p hp => by cases p <;> simp at hp ⊢, fun _ _ => rfl, o, l, rfl⟩

theorem Crossed.setLink (s : State) (l : Nat) (f : LinkHid → LinkHid) : Crossed s (s.setLink l f) :=
  .of_noc s s.noc.outs _

theorem Crossed.crossLink {l : Nat} (hl : l < 160) (s : State) (back : Bool) (p : NocPkt) : Crossed s
    (crossLink s l back p) := by
  unfold Sys2Proof.Machine.crossLink
  extract_lets narrow ts
  refine Crossed.trans (t := s.count (linkIdx l) 7 64 ts.length) ?_ (.setLink ..)
  exact ⟨(outside_count s _ _ _ _).mono (by decide), entriesOutside_count s _ _ _ _ (by decide) ⟨_, .head _,
    by unfold linkIdx; omega, by unfold linkIdx; omega⟩, _, _,
    rfl⟩

theorem linkAt_lt {l port : Nat} {back : Bool} (h : linkAt s port = some (l, back)) : l < 160 := by
  obtain ⟨j, hj, hf⟩ := List.exists_of_findSome?_eq_some h
  have hjl : j = l := by
    split_ifs at hf
    · exact congrArg Prod.fst (Option.some.inj hf)
    · exact congrArg Prod.fst (Option.some.inj hf)
  exact hjl ▸ List.mem_range.mp hj

/-- Where a packet's way ends, links have counted it and nothing else has changed. -/
def Travel.Crosses (s : State) : Travel → Prop
  | .held => True
  | .stopped t => Crossed s t
  | .through t => Crossed s t

theorem Travel.Crosses.after {w : Travel} (h : Crossed s t) (hw : w.Crosses t) : w.Crosses s := by
  cases w with
  | held => trivial
  | stopped u => exact h.trans hw
  | through u => exact h.trans hw

theorem travel_crosses (s : State) (p : NocPkt) (at_ : Option Nat) (way : List Hop) : (travel s p at_ way).Crosses s := by
  induction way generalizing s at_ with
  | nil => trivial
  | cons x rest ih =>
    rw [travel]
    extract_lets n t
    split
    · trivial
    split
    · trivial
    split
    · trivial
    have ht : Crossed s t := .of_noc s _ s.noc.links
    split
    · split
      · exact ht
      · trivial
    · next l back hl =>
      split
      · exact ht.trans (.setLink ..)
      split
      · trivial
      · exact (ih _ _).after (ht.trans (.crossLink (linkAt_lt hl) t back p))

theorem crossed_of_through {at_ : Option Nat} {way : List Hop} (h : travel s p at_ way = .through m) : Crossed s m := by
  have hw := travel_crosses s p at_ way
  rwa [h] at hw

theorem crossed_of_stopped {at_ : Option Nat} {way : List Hop} (h : travel s p at_ way = .stopped m) : Crossed s m := by
  have hw := travel_crosses s p at_ way
  rwa [h] at hw

/-! ### Wrong words -/

/-- A packet off the network whose words are all right or corrected: links and wrong words are counted. -/
theorem noteWrong_corrected (s : State) (p : NocPkt) {bad : Nat × Nat} (dir : Nat) (h : bad.2 = 0) :
    noteWrong s p bad dir = if bad.1 = 0 then s else s.count 0x090000 9 64 bad.1 := by
  unfold noteWrong
  exact if_pos h

/-- What noting the wrong words of a packet does (R427). -/
structure Noted (bad : Nat × Nat) (s t : State) : Prop where
  outside : Outside [.cat, .mgmt] s t
  events : EventsBut [0xA08] s t
  raised : bad.2 ≠ 0 → Raised s t 0xA08
  corrected : bad.1 = 0 ∨ t.num 0x090000 9 = (s.num 0x090000 9 + bad.1) % 2 ^ 64
  wrong : bad.2 ≠ 0 → t.num 0x090000 0x0A = (s.num 0x090000 0x0A + bad.2) % 2 ^ 64
  nums : ∀ i a, a < 256 → (i ≠ 0x090000 ∨ (a ≠ 9 ∧ a ≠ 0x0A)) → (i < 0x0E0000 ∨ 0x0E1FFF < i) → t.num i a = s.num i a
  clean : bad.2 = 0 → t.mgmt = s.mgmt ∧ EntriesOutside wayRanges s t

theorem noteWrong_noted (s : State) (p : NocPkt) (bad : Nat × Nat) (dir : Nat) : Noted bad s (noteWrong s p bad dir) := by
  unfold noteWrong
  extract_lets t
  have hto : Outside [.cat] s t := .ite (.refl _ _) (outside_count s _ _ _ _)
  have hte : EntriesOutside [(0x090000, 0x090000)] s t := by
    simp only [t]
    split
    · exact fun _ _ => rfl
    · exact entriesOutside_count s _ _ _ _ (by decide) ⟨_, .head _, by decide, by decide⟩
  have ht9 : bad.1 = 0 ∨ t.num 0x090000 9 = (s.num 0x090000 9 + bad.1) % 2 ^ 64 := by
    by_cases h0 : bad.1 = 0
    · exact .inl h0
    · refine .inr ?_
      simp only [t]
      rw [if_neg h0]
      exact num_put_self ..
  have htn : ∀ i a, a < 256 → (i ≠ 0x090000 ∨ a ≠ 9) → t.num i a = s.num i a := fun i a ha hia => by
    simp only [t]
    split
    · rfl
    · exact num_count_of_apart (by decide) ha (by omega) (.inr (.inr (.inl (by decide))))
  have hev : EventsBut [] s t := .of_entries hte (by decide) (hto .unit (by decide)) (hto .pwr (by decide)) (hto .cfg (by decide))
  clear_value t
  split
  · next h0 =>
    exact ⟨hto.mono (by decide), hev.mono (by simp), fun h => absurd h0 h, ht9, fun h => absurd h0 h,
      fun i a ha hia _ => htn i a ha (by omega), fun _ => ⟨hto .mgmt (by decide), hte.mono (by decide)⟩⟩
  · next h0 =>
    have hc : EventsBut [] t (t.count 0x090000 0x0A 64 bad.2) := .of_put t (by decide) (.inl (by decide))
    have hcn : ∀ i a, a < 256 → (i ≠ 0x090000 ∨ a ≠ 0x0A) → (t.count 0x090000 0x0A 64 bad.2).num i a = t.num i a :=
      fun i a ha hia => num_count_of_apart (by decide) ha (by omega) (.inr (.inr (.inl (by decide))))
    have hcA : (t.count 0x090000 0x0A 64 bad.2).num 0x090000 0x0A = (s.num 0x090000 0x0A + bad.2) % 2 ^ 64 := by
      rw [← htn 0x090000 0x0A (by decide) (by decide)]
      exact num_put_self ..
    have hr : ∀ i a, a < 256 → (i < 0x0E0000 ∨ 0x0E1FFF < i) → ∀ b,
      ((t.count 0x090000 0x0A 64 bad.2).raise 0xA08 p.init b).num i a =
        (t.count 0x090000 0x0A 64 bad.2).num i a := fun i a ha hi b => num_raise (by decide) i a ha hi
    refine ⟨((hto.mono (by decide)).andThen (outside_count t _ _ _ _) (by decide)).andThen (outside_raise _ _ _ _) (by decide),
      ((hev.trans hc).mono (by simp)).trans (.of_raise _ (by simp)),
        fun _ => (hev.trans hc).raised (by decide) (by decide) (by simp), ?_,
      fun _ => (hr _ _ (by decide) (by decide) _).trans hcA,
      fun i a ha hia hi => (hr i a ha hi _).trans ((hcn i a ha (by omega)).trans (htn i a ha (by omega))), fun h => absurd h h0⟩
    rw [hr _ _ (by decide) (by decide), hcn _ _ (by decide) (by decide)]
    exact ht9

/-! ### What a target reads of the state -/

theorem niServes_congr {n : Nat} (h : t.num (0x090800 + n) 1 = s.num (0x090800 + n) 1)
    (hg : t.num (gateIdx (64 + (n - 0x30))) 2 = s.num (gateIdx (64 + (n - 0x30))) 2) : niServes t n = niServes s n := by
  unfold niServes State.ni
  rw [h, hg]

theorem hasRoom_congr (hm : t.mem = s.mem) (hf : t.noc.fabOut = s.noc.fabOut) (n : Nat) : hasRoom t n = hasRoom s n := by
  unfold hasRoom State.mch
  rw [hm, hf]

theorem accessOf_congr (h : ∀ k a, a < 256 → t.num (slIdx k) a = s.num (slIdx k) a) (i k loc : Nat) :
    accessOf t i k loc = accessOf s i k loc := by
  have h1 : ∀ k, t.slState k = s.slState k := fun k => h k 1 (by decide)
  have hd : ∀ k, inData t k loc = inData s k loc := fun k => by
    unfold inData State.dataBase State.dataSize
    rw [h k 4 (by decide), h k 5 (by decide)]
  have hm : ∀ k, inMeta t k loc = inMeta s k loc := fun k => by
    unfold inMeta State.metaBase metaSize State.slInteg State.dataSize State.flag
    rw [h k 6 (by decide), h k 5 (by decide), h k 3 (by decide)]
  have hs : slotAt t loc = slotAt s loc := by
    unfold slotAt inForce
    simp only [h1, hd, hm]
  unfold accessOf
  rw [hs, hd, h1]

theorem packetAccess_congr (h : ∀ k a, a < 256 → t.num (slIdx k) a = s.num (slIdx k) a) (p : NocPkt) :
    packetAccess t p = packetAccess s p := by
  unfold packetAccess
  simp only [accessOf_congr h]

/-! ### Requests at targets -/

/-- The request as its target NI reads it: aligned to granules, of 1 to 16 of them. -/
def atTarget (r : NocPkt) : NocPkt :=
  { r with addr := r.addr / 64 * 64, granules := if r.kind = kPartial then 1 else max 1 (min 16 r.granules) }

/-- The state in which the NI judges the request `r`: off the network, its wrong words noted. -/
def judged (m : State) (r : NocPkt) (bad : Nat × Nat) : State := noteWrong (landed m (atTarget r)) (atTarget r) bad 0

/-- A request that a target with room takes. -/
def taken (h : State) (q : NocPkt) : State :=
  if q.target < 0x20 then atChannel h q else if q.target < 0x30 then atArchive h q else if q.target < 0x40 then atStaging h q
  else atFabric h q

theorem requestArrives_eq (hc : r.cls ≤ 2) (hk : knownTarget r.target = true) (m : State) (bad : Nat × Nat) :
    requestArrives m r bad =
      if bad.2 ≠ 0 then some (inject (judged m r bad) (responseTo (atTarget r) kErrorResp stTargetUnavailable []))
      else if !niServes m r.target then some (refuseReq (judged m r bad) (atTarget r))
      else if !hasRoom m r.target then none else some (taken (judged m r bad) (atTarget r)) := by
  have hn : ¬(2 < (atTarget r).cls ∨ (!knownTarget (atTarget r).target) = true) := by
    show ¬(2 < r.cls ∨ (!knownTarget r.target) = true)
    rw [hk]
    simpa using hc
  have hT : ∀ h : State, (if (atTarget r).target < 0x20 then some (atChannel h (atTarget r))
      else if (atTarget r).target < 0x30 then some (atArchive h (atTarget r))
      else if (atTarget r).target < 0x40 then some (atStaging h (atTarget r)) else some (atFabric h (atTarget r))) =
      some (taken h (atTarget r)) := fun h => by
    unfold taken
    split_ifs <;> rfl
  rw [← hT]
  unfold requestArrives
  exact if_neg hn

/-- What the NI judges the request in, beside the state `s` that it was sent in. -/
structure AtNi (bad : Nat × Nat) (q : NocPkt) (s t : State) : Prop where
  outside : Outside [.cat, .mgmt, .noc] s t
  noc : ∃ o l, t.noc = { s.noc with outs := o, links := l, flight := dropReq s.noc.flight q }
  raised : bad.2 ≠ 0 → Raised s t 0xA08
  corrected : bad.1 = 0 ∨ t.num 0x090000 9 = (s.num 0x090000 9 + bad.1) % 2 ^ 64
  wrong : bad.2 ≠ 0 → t.num 0x090000 0x0A = (s.num 0x090000 0x0A + bad.2) % 2 ^ 64
  events : EventsBut [0xA08] s t
  nums : ∀ i a, a < 256 → (i ≠ 0x090000 ∨ (a ≠ 9 ∧ a ≠ 0x0A)) → (i < 0x090200 ∨ 0x09029F < i) → (i < 0x0E0000 ∨ 0x0E1FFF < i) →
    t.num i a = s.num i a
  clean : bad.2 = 0 → ∀ i a, a < 256 → (i < 0x090200 ∨ 0x09029F < i) → i ≠ 0x090000 → t.num i a = s.num i a

theorem Crossed.atNi (h : Crossed s m) (q : NocPkt) (bad : Nat × Nat) (dir : Nat) :
    AtNi bad q s (noteWrong (landed m q) q bad dir) := by
  obtain ⟨o, l, hn⟩ := h.noc
  obtain ⟨ho, hev, hr, hc, hw, hnum, hcl⟩ := noteWrong_noted (landed m q) q bad dir
  have hm : ∀ i a, a < 256 → (i < 0x090200 ∨ 0x09029F < i) → (landed m q).num i a = s.num i a := fun i a ha hi =>
    num_outside h.entries (h.outside .unit (by decide)) (h.outside .pwr (by decide)) (h.outside .cfg (by decide)) i a ha (by
      simp only [List.mem_singleton, forall_eq]
      omega)
  have hme : EventsBut [] s (landed m q) := fun n hn _ _ => hm _ _ (by decide) (by omega)
  refine ⟨?_, ⟨o, l, ?_⟩, fun h0 => .after_events hme (hr h0) (by decide) (by decide) (by simp), ?_, fun h0 => ?_,
    (hme.mono (by simp)).trans hev, fun i a ha h1 h2 h3 =>
    (hnum i a ha h1 h3).trans (hm i a ha h2), fun h0 i a ha h1 h2 => ?_⟩
  · have hl : Outside [.noc] m (landed m q) := fun p hp => by cases p <;> simp at hp ⊢
    exact ((h.outside.mono (by decide)).andThen hl (by decide)).andThen ho (by decide)
  · rw [ho .noc (by decide)]
    unfold landed
    rw [hn]
  · rw [← hm 0x090000 9 (by decide) (by decide)]
    exact hc
  · rw [← hm 0x090000 0x0A (by decide) (by decide)]
    exact hw h0
  · refine Eq.trans (num_outside (hcl h0).2 (ho .unit (by decide)) (ho .pwr (by decide)) (ho .cfg (by decide)) i a ha ?_)
      (hm i a ha h1)
    simp only [wayRanges, List.mem_cons, List.not_mem_nil, or_false, forall_eq_or_imp, forall_eq]
    omega

/-! ### What a target does with a request -/

/-- A change of channel `c` that leaves its queue, and memory beside the channels, as they were. -/
structure ChanStep (c : Nat) (s t : State) : Prop where
  mem : ∃ l, t.mem = { s.mem with chans := l } ∧ l.length = s.mem.chans.length
  queue : (t.mch c).queue = (s.mch c).queue

theorem ChanStep.refl (c : Nat) (s : State) : ChanStep c s s := ⟨⟨_, rfl, rfl⟩, rfl⟩

theorem ChanStep.trans (h1 : ChanStep c s t) (h2 : ChanStep c t u) : ChanStep c s u := by
  obtain ⟨⟨l, hl, hn⟩, hq⟩ := h1
  obtain ⟨⟨l', hl', hn'⟩, hq'⟩ := h2
  exact ⟨⟨l', by rw [hl', hl], by rw [hn', hl, hn]⟩, hq'.trans hq⟩

theorem ChanStep.setMch (s : State) (c : Nat) {f : Chan → Chan} (hf : ∀ x, (f x).queue = x.queue) : ChanStep c s
    (s.setMch c f) := by
  refine ⟨⟨_, rfl, List.length_modify ..⟩, ?_⟩
  by_cases hc : c < s.mem.chans.length
  · rw [mch_setMch_self s c f hc, hf]
  · have hl : ¬c < (s.setMch c f).mem.chans.length := by
      unfold State.setMch lmod
      simpa using hc
    unfold State.mch
    rw [List.getD_eq_default _ _ (by omega), List.getD_eq_default _ _ (by omega)]

/-- A request joins a channel's queue (R449). -/
theorem enqueue_spec (s : State) (c : Nat) (p : NocPkt) : (enqueue s c p).mem.bytes = s.mem.bytes ∧
    (c < s.mem.chans.length → ((enqueue s c p).mch c).queue = (s.mch c).queue ++ [{ p with panic := p.panic && p.cls == 2 }]) := by
  unfold enqueue
  extract_lets p' t v loc rank
  have ht : ChanStep c s t := by
    simp only [t]
    split
    · exact .refl c s
    · exact .setMch s c fun _ => rfl
  have hv : ChanStep c s v := by
    simp only [v]
    split
    · exact (ht.trans (u := stopCatchUp t c) (.setMch t c fun _ => rfl)).trans (.setMch (stopCatchUp t c) c fun _ => rfl)
    · exact .refl c s
  clear_value v
  obtain ⟨⟨l, hl, hn⟩, hq⟩ := hv
  have hb : v.mem.bytes = s.mem.bytes := by rw [hl]
  refine ⟨hb, fun hc => ?_⟩
  rw [mch_setMch_self v c _ (by rw [hl, hn]; exact hc), ← hq]

theorem accept_noc (s : State) (p : NocPkt) : (accept s p).noc = { s.noc with accepted := s.noc.accepted ++ [p] } := rfl

/-- The bytes of memory and the count of corrected words are those of the state in which the request is taken. -/
def SameStore (s t : State) : Prop := t.mem.bytes = s.mem.bytes ∧ t.num 0x090000 9 = s.num 0x090000 9

theorem SameStore.of_cat (hc : t.cat = s.cat) (hb : t.mem.bytes = s.mem.bytes) (hu : t.unit = s.unit) (hp : t.pwr = s.pwr)
    (hg : t.cfg = s.cfg) : SameStore s t := ⟨hb, num_congr_of_cat hc hu hp hg _ _ (by decide)⟩

theorem sameStore_refuseReq (s : State) (q : NocPkt) : SameStore s (refuseReq s q) := by
  refine ⟨rfl, ?_⟩
  unfold refuseReq inject
  exact num_count_of_apart (by decide) (by decide) (.inl (by omega)) (.inl (by omega))

section
variable (ha : a < 256) (h1 : a ≠ 1) (h3 : a ≠ 3) (h7 : a ≠ 7) (h8 : a ≠ 8)

section
include ha h1

theorem num_driveRoutes_sub (s : State) (n : Nat) : (driveRoutes s n).num i a = s.num i a := by
  unfold driveRoutes
  extract_lets idx line t cl inputs
  have ht : t.num i a = s.num i a := by
    simp only [t]
    split
    · refine foldl_keeps (·.num i a) (fun u b _ => ?_) s
      split
      · exact num_put_of_apart (by decide) ha (.inr h1.symm) (.inr (.inl (by decide)))
      · rfl
    · rfl
  split
  · exact ht
  · exact ht

end

section
include ha h3

theorem num_noteLoss_sub (s : State) : (noteLoss s).num i a = s.num i a :=
  num_put_of_apart (by decide) ha (.inr h3.symm) (.inr (.inl (by decide)))

theorem num_enqueueRecord_sub (s : State) (r : EvRec) (x : Reach) (d : Bool) : (enqueueRecord s r x d).num i a = s.num i a := by
  unfold enqueueRecord
  split
  · rfl
  split
  · rfl
  split
  · exact num_noteLoss_sub ha h3 s
  · exact num_noteLoss_sub ha h3 s

end

include ha h1 h3 h7 h8

theorem num_raiseRecord_sub (s : State) (r : EvRec) (x : Reach) : (raiseRecord s r x).num i a = s.num i a := by
  have hc : (countRaise s r.num).num i a = s.num i a := by
    unfold countRaise
    rw [num_put_of_apart (by decide) ha (.inr h8.symm) (.inr (.inr (.inl (by decide)))),
      num_count_of_apart (by decide) ha (.inr h7.symm) (.inr (.inr (.inl (by decide))))]
  unfold raiseRecord
  extract_lets t on u
  have hu : u.num i a = t.num i a := by
    simp only [u]
    split
    · exact num_enqueueRecord_sub ha h3 ..
    · rfl
  split
  · exact (num_driveRoutes_sub ha h1 ..).trans (hu.trans hc)
  · exact hu.trans hc

/-- Raising an event moves its count, its pick, the count of losses and the lines' pending bits alone. -/
theorem num_raise_sub (s : State) {n unit : Nat} {b : List Byte} : (s.raise n unit b).num i a = s.num i a := by
  unfold State.raise raiseWith
  extract_lets t k f u
  have ht : t.num i a = s.num i a := num_raiseRecord_sub ha h1 h3 h7 h8 ..
  split
  · exact (num_raiseRecord_sub ha h1 h3 h7 h8 u _ _).trans ht
  · exact ht

theorem num_raiseAtMost_sub (s : State) {n m unit : Nat} {f : Nat → List Byte} :
    (s.raiseAtMost n m unit f).num i a = s.num i a := by
  unfold State.raiseAtMost
  extract_lets x ok t
  split
  · exact num_raise_sub ha h1 h3 h7 h8 t
  · rfl

end

theorem noteBarred_spec (s : State) (q : NocPkt) (k : Nat) :
    (noteBarred s q k).num (slIdx k) 0x0C = (s.num (slIdx k) 0x0C + 1) % 2 ^ 64 ∧ SameStore s (noteBarred s q k) ∧
    (noteBarred s q k).noc = s.noc := by
  refine ⟨?_, ⟨by simp, ?_⟩, by simp⟩
  · unfold noteBarred
    rw [num_raiseAtMost_sub (by decide) (by decide) (by decide) (by decide) (by decide)]
    exact num_put_self ..
  · unfold noteBarred
    rw [num_raiseAtMost (by decide) _ _ (by decide) (.inl (by decide)),
      num_count_of_apart (by decide) (by decide) (.inr (by decide)) (.inr (.inr (.inl (by decide))))]
    rfl

theorem sameStore_atChannel (s : State) (q : NocPkt) : SameStore s (atChannel s q) := by
  unfold atChannel
  split
  · next k _ => exact (noteBarred_spec s q k).2.1
  · exact .of_cat (by simp [accept]) (enqueue_spec (accept s q) q.target q).1 (by simp [accept]) (by simp [accept]) (by simp [accept])

theorem sameStore_taken (s : State) (q : NocPkt) : SameStore s (taken s q) := by
  unfold taken
  split
  · exact sameStore_atChannel s q
  split
  · exact ⟨rfl, rfl⟩
  split
  · unfold atStaging
    split
    · exact ⟨rfl, rfl⟩
    · exact sameStore_refuseReq s q
  · exact ⟨rfl, rfl⟩

theorem outside_taken (s : State) (q : NocPkt) : Outside [.cat, .mgmt, .noc, .mem, .itg] s (taken s q) := by
  unfold taken
  split
  · exact fun p hp => by cases p <;> simp at hp ⊢
  split
  · exact fun p hp => by cases p <;> simp at hp ⊢
  split
  · exact fun p hp => by cases p <;> simp at hp ⊢
  · exact fun p hp => by cases p <;> simp at hp ⊢

/-- A request at a channel that its key slot admits (R449, R463). -/
theorem atChannel_admitted (h : ∀ k, packetAccess s q ≠ .barred k) : atChannel s q = enqueue (accept s q) q.target q := by
  unfold atChannel
  split
  · next k hk => exact absurd hk (h k)
  · rfl

theorem atChannel_barred (h : packetAccess s q = .barred k) : atChannel s q = barAccess s q k := by
  unfold atChannel
  rw [h]

theorem taken_channel (h : q.target < 0x20) : taken s q = atChannel s q := if_pos h

theorem taken_archive (h : ¬q.target < 0x20) (h' : q.target < 0x30) : taken s q = atArchive s q := (if_neg h).trans (if_pos h')

theorem taken_staging (h : 0x30 ≤ q.target) (h' : q.target < 0x40) : taken s q = atStaging s q :=
  (if_neg (by omega)).trans ((if_neg (by omega)).trans (if_pos h'))

theorem taken_fabric (h : 0x40 ≤ q.target) : taken s q = atFabric s q :=
  (if_neg (by omega)).trans ((if_neg (by omega)).trans (if_neg (by omega)))

/-- The state after a request has arrived where its target has room. -/
def reqArrived (m : State) (r : NocPkt) (bad : Nat × Nat) : State :=
  if bad.2 ≠ 0 then inject (judged m r bad) (responseTo (atTarget r) kErrorResp stTargetUnavailable [])
  else if !niServes m r.target then refuseReq (judged m r bad) (atTarget r) else taken (judged m r bad) (atTarget r)

theorem requestArrives_room {bad : Nat × Nat} (hc : r.cls ≤ 2) (hk : knownTarget r.target = true)
    (hroom : bad.2 = 0 → niServes m r.target = true → hasRoom m r.target = true) :
    requestArrives m r bad = some (reqArrived m r bad) := by
  rw [requestArrives_eq hc hk]
  unfold reqArrived
  by_cases hb : bad.2 = 0
  · by_cases hs : niServes m r.target = true
    · simp [hb, hs, hroom hb hs]
    · simp [hb, hs]
  · simp [hb]

theorem sameStore_arrived (m : State) (r : NocPkt) (bad : Nat × Nat) : SameStore (judged m r bad) (reqArrived m r bad) := by
  unfold reqArrived
  split
  · exact ⟨rfl, rfl⟩
  split
  · exact sameStore_refuseReq ..
  · exact sameStore_taken ..

theorem outside_arrived (m : State) (r : NocPkt) (bad : Nat × Nat) :
    Outside [.cat, .mgmt, .noc, .mem, .itg] (judged m r bad) (reqArrived m r bad) := by
  unfold reqArrived
  split
  · exact fun p hp => by cases p <;> simp at hp ⊢
  split
  · exact fun p hp => by cases p <;> simp at hp ⊢
  · exact outside_taken (judged m r bad) (atTarget r)

theorem arrived_wrong {bad : Nat × Nat} (h : bad.2 ≠ 0) (m : State) (r : NocPkt) :
    reqArrived m r bad = inject (judged m r bad) (responseTo (atTarget r) kErrorResp stTargetUnavailable []) := if_pos h

theorem arrived_refused {bad : Nat × Nat} (h : bad.2 = 0) (hs : niServes m r.target = false) :
    reqArrived m r bad = refuseReq (judged m r bad) (atTarget r) := by
  unfold reqArrived
  rw [if_neg (not_not.mpr h), if_pos (by simp [hs])]

theorem arrived_taken {bad : Nat × Nat} (h : bad.2 = 0) (hs : niServes m r.target = true) :
    reqArrived m r bad = taken (judged m r bad) (atTarget r) := by
  unfold reqArrived
  rw [if_neg (not_not.mpr h), if_neg (by simp [hs])]

theorem Crossed.num (h : Crossed s m) (ha : a < 256) (hi : i < 0x090200 ∨ 0x09029F < i) : m.num i a = s.num i a :=
  num_outside h.entries (h.outside .unit (by decide)) (h.outside .pwr (by decide)) (h.outside .cfg (by decide)) i a ha (by
    simp only [List.mem_singleton, forall_eq]
    omega)

theorem knownTarget_lt {n : Nat} (h : knownTarget n = true) : n < 0x60 := by
  unfold knownTarget at h
  simp only [Bool.or_eq_true, Bool.and_eq_true, decide_eq_true_eq] at h
  omega

theorem Crossed.niServes {n : Nat} (h : Crossed s m) (hn : n < 0x60) : niServes m n = niServes s n :=
  niServes_congr (h.num (by decide) (by omega)) (h.num (by decide) (by unfold gateIdx; omega))

theorem Crossed.hasRoom (h : Crossed s m) (n : Nat) : hasRoom m n = hasRoom s n := by
  obtain ⟨o, l, hn⟩ := h.noc
  exact hasRoom_congr (h.outside .mem (by decide)) (by rw [hn]) n

theorem flight_inject (s : State) (p : NocPkt) : (inject s p).noc.flight = s.noc.flight ++ [p] := rfl

/-- A request at its target NI (R418, R427, R430, R432, R449). -/
theorem requestAtTarget_spec {way : List Hop} {flips : List (Nat × Nat)} {bad : Nat × Nat} (hr : r = inFlight s p)
    (hk : r.kind ≤ kPartial) (hc : r.cls ≤ 2) (ht : knownTarget r.target = true) (hm : mayArrive s r = true)
    (hw : travel s r none way = .through m) (hq : q = atTarget r) (hbad : bad = wrongWords r flips)
    (hroom : bad.2 = 0 → niServes s r.target = true → hasRoom s r.target = true) :
    Does (.nocRequestAtTarget p way flips) s fun u => Outside [.cat, .mgmt, .noc, .mem, .itg] s u ∧ u.mem.bytes = s.mem.bytes ∧
      (bad.2 ≠ 0 → Raised s u 0xA08 ∧ u.num 0x090000 0x0A = (s.num 0x090000 0x0A + bad.2) % 2 ^ 64 ∧
        u.noc.flight = dropReq s.noc.flight q ++ [responseTo q kErrorResp stTargetUnavailable []]) ∧
      (u.num 0x090000 9 = (s.num 0x090000 9 + bad.1) % 2 ^ 64 ∨ bad.1 = 0) ∧
      (bad.2 = 0 → niServes s r.target = false →
        u.num (0x090800 + r.target) 3 = (s.num (0x090800 + r.target) 3 + 1) % 2 ^ 64 ∧
        u.noc.flight = dropReq s.noc.flight q ++ [responseTo q kErrorResp stTargetUnavailable []]) ∧
      (bad.2 = 0 → niServes s r.target = true → r.target < 0x30 → (r.target < 0x20 → ∀ k, packetAccess s q ≠ .barred k) →
        u.noc.flight = dropReq s.noc.flight q ∧ u.noc.accepted = s.noc.accepted ++ [q] ∧
        (0x20 ≤ r.target → u.mem.archQ = s.mem.archQ ++ [q]) ∧
        (r.target < 0x20 → r.target < s.mem.chans.length →
          (u.mch r.target).queue = (s.mch r.target).queue ++ [{ q with panic := q.panic && q.cls == 2 }])) ∧
      (bad.2 = 0 → niServes s r.target = true → r.target < 0x20 → ∀ k, packetAccess s q = .barred k →
        u.num (slIdx k) 0x0C = (s.num (slIdx k) 0x0C + 1) % 2 ^ 64 ∧
        u.noc.flight = dropReq s.noc.flight q ++ [responseTo q kErrorResp stTargetUnavailable []]) ∧
      (bad.2 = 0 → niServes s r.target = true → 0x30 ≤ r.target → r.target < 0x40 → r.kind = kRead →
        u.noc.flight = dropReq s.noc.flight q ++ [responseTo q kReadResp stOk (s.bytes q.addr (64 * q.granules))]) ∧
      (bad.2 = 0 → niServes s r.target = true → 0x40 ≤ r.target →
        u.noc.fabOut = s.noc.fabOut ++ [(r.target - 0x40, q)]) := by
  have hx := crossed_of_through hw
  have hlt := knownTarget_lt ht
  have hserve := hx.niServes hlt
  have hJ : AtNi bad q s (judged m r bad) := by
    rw [hq]
    exact hx.atNi (atTarget r) bad 0
  have he : exec (.nocRequestAtTarget p way flips) s = .next (reqArrived m r bad) := by
    refine congrArg Host.Outcome.next ((if_pos (by rw [← hr]; exact ⟨by simpa [isRequest] using hk, hm⟩)).trans ?_)
    rw [← hr, hw]
    dsimp only
    rw [← hbad, requestArrives_room hc ht (by rw [hserve, hx.hasRoom]; exact hroom)]
    rfl
  have hO := outside_arrived m r bad
  obtain ⟨hSb, hS9⟩ := sameStore_arrived m r bad
  obtain ⟨o, l, hnoc⟩ := hJ.noc
  have hfl : (judged m r bad).noc.flight = dropReq s.noc.flight q := by rw [hnoc]
  have hmem : (judged m r bad).mem = s.mem := hJ.outside .mem (by decide)
  have htq : q.target = r.target := by rw [hq]; rfl
  have hkq : q.kind = r.kind := by rw [hq]; rfl
  have hA : bad.2 = 0 → packetAccess (judged m r bad) q = packetAccess s q := fun h0 => packetAccess_congr (fun k a ha =>
    hJ.clean h0 _ a ha (by unfold slIdx; omega) (by unfold slIdx; omega)) q
  have hwrong : bad.2 ≠ 0 → reqArrived m r bad = inject (judged m r bad) (responseTo q kErrorResp stTargetUnavailable []) :=
    fun h => by rw [arrived_wrong h, hq]
  have hrefused : bad.2 = 0 → niServes s r.target = false → reqArrived m r bad = refuseReq (judged m r bad) q :=
    fun h hs => by rw [arrived_refused h (hserve.trans hs), hq]
  have htaken : bad.2 = 0 → niServes s r.target = true → reqArrived m r bad = taken (judged m r bad) q :=
    fun h hs => by rw [arrived_taken h (hserve.trans hs), hq]
  generalize judged m r bad = j at *
  generalize reqArrived m r bad = u at *
  refine ⟨u, he, (hJ.outside.mono (by decide)).andThen hO (by decide), hSb.trans (congrArg Mem.bytes hmem), fun h => ?_, ?_,
    fun h hs => ?_, fun h hs h30 hadm => ?_, fun h hs h20 k hb => ?_, fun h hs h30 h40 hread => ?_, fun h hs h40 => ?_⟩
  · rw [hwrong h]
    exact ⟨hJ.raised h, hJ.wrong h, congrArg (· ++ _) hfl⟩
  · rw [hS9]
    exact hJ.corrected.symm
  · rw [hrefused h hs, ← htq]
    have hn : j.num (0x090800 + q.target) 3 = s.num (0x090800 + q.target) 3 := hJ.clean h _ _ (by decide) (by omega) (by omega)
    rw [← hn]
    exact ⟨num_put_self .., congrArg (· ++ _) hfl⟩
  · rw [htaken h hs]
    by_cases h20 : r.target < 0x20
    · rw [taken_channel (by omega), atChannel_admitted fun k => (hA h).symm ▸ hadm h20 k]
      obtain ⟨-, hqueue⟩ := enqueue_spec (accept j q) q.target q
      have hn : (enqueue (accept j q) q.target q).noc = (accept j q).noc := by simp
      rw [htq] at hqueue hn ⊢
      refine ⟨(congrArg Noc.flight hn).trans hfl, ?_, fun h => absurd h (by omega), fun _ hl => ?_⟩
      · rw [hn, accept_noc, hnoc]
      · have hj : (accept j q).mem = s.mem := hmem
        have hq' := hqueue (by rw [hj]; exact hl)
        unfold State.mch at hq' ⊢
        rw [hj] at hq'
        exact hq'
    · rw [taken_archive (by omega) (by omega)]
      refine ⟨hfl, ?_, fun _ => congrArg (fun x : Mem => x.archQ ++ [q]) hmem, fun h => absurd h h20⟩
      have hac : (atArchive j q).noc.accepted = j.noc.accepted ++ [q] := rfl
      rw [hac, hnoc]
  · rw [htaken h hs, taken_channel (by omega), atChannel_barred ((hA h).trans hb)]
    obtain ⟨hcount, -, hnb⟩ := noteBarred_spec j q k
    have hk : j.num (slIdx k) 0x0C = s.num (slIdx k) 0x0C := hJ.clean h _ _ (by decide) (by unfold slIdx; omega)
      (by unfold slIdx; omega)
    rw [hk] at hcount
    refine ⟨hcount, ?_⟩
    unfold barAccess
    rw [flight_inject, hnb, hfl]
  · rw [htaken h hs, taken_staging (by omega) (by omega)]
    have hst : atStaging j q = answerReq (accept j q) q kReadResp stOk ((accept j q).bytes q.addr (64 * q.granules)) :=
      if_pos (hkq.trans hread)
    have hby : (accept j q).bytes q.addr (64 * q.granules) = s.bytes q.addr (64 * q.granules) :=
      congrArg (fun x : Mem => memReads x.bytes q.addr (64 * q.granules)) hmem
    rw [hst, hby]
    exact congrArg (· ++ _) hfl
  · rw [htaken h hs, taken_fabric (by omega), ← htq]
    have hfab : (atFabric j q).noc.fabOut = j.noc.fabOut ++ [(q.target - 0x40, q)] := rfl
    rw [hfab, hnoc]

end Sys2Proof.Machine
end

section
/-! Responses, timeouts and fabric ports (R415, R418, R427, R428, R433, R435; obligation O50). -/

namespace Sys2Proof.Machine

variable {s t u m : State} {p q r : NocPkt} {i a n : Nat}

/-! ### Statistics -/

/-- What completing a transaction of initiator `i` does: its statistics (R435). -/
structure Counted (i : Nat) (s t : State) : Prop where
  outside : Outside [.cat, .noc] s t
  noc : ∃ l b r, t.noc = { s.noc with latSum := l, pickBytes := b, recent := r }
  count : t.num (initIdx i) 3 = (s.num (initIdx i) 3 + 1) % 2 ^ 64
  entries : EntriesOutside [(initIdx i, initIdx i)] s t

theorem num_put_init (hi : i < 1024) (s : State) {a b : Nat} (ha : a < 256) (hb : b < 256) (h : a ≠ b) (x : Nat) :
    (s.put (initIdx i) a x).num (initIdx i) b = s.num (initIdx i) b :=
  num_put_of_apart ha hb (.inr h) (.inr (.inr (.inr (by unfold initIdx; omega))))

/-- A write of the record of initiator `i`. -/
structure StatStep (i : Nat) (s t : State) : Prop where
  outside : Outside [.cat] s t
  entries : EntriesOutside [(initIdx i, initIdx i)] s t

theorem StatStep.trans (h : StatStep i s t) (h' : StatStep i t u) : StatStep i s u :=
  ⟨h.outside.trans h'.outside, h.entries.trans h'.entries⟩

theorem StatStep.put (s : State) (i : Nat) (ha : a < 256) (x : Nat) : StatStep i s (s.put (initIdx i) a x) :=
  ⟨outside_put s _ _ _, entriesOutside_put s _ _ _ ha ⟨_, .head _, le_refl _, le_refl _⟩⟩

theorem addTransaction_counted (hi : i < 1024) (s : State) (bytes lat : Nat) : Counted i s (addTransaction s i bytes lat) := by
  unfold addTransaction
  extract_lets k sum s2 s3 s4 s5 x
  have h2 : StatStep i s s2 := (StatStep.put s i (by decide) _).trans (.put _ i (by decide) _)
  have h3 : StatStep i s s3 := h2.trans (.put s2 i (by decide) _)
  have h4 : StatStep i s s4 := (h3.trans (.put s3 i (by decide) _)).trans (.put _ i (by decide) _)
  have h5 : StatStep i s s5 := h4.trans ⟨outside_putOct s4 _ _ _,
    entriesOutside_putOct s4 _ _ _ (by decide) ⟨_, .head _, le_refl _, le_refl _⟩⟩
  have hc : s5.num (initIdx i) 3 = (s.num (initIdx i) 3 + 1) % 2 ^ 64 := by
    have n2 : s2.num (initIdx i) 3 = (s.num (initIdx i) 3 + 1) % 2 ^ 64 := by
      simp only [s2]
      rw [← num_put_init hi s (by decide) (by decide) (by decide) (a := 2) (b := 3)]
      exact num_put_self ..
    have n3 : s3.num (initIdx i) 3 = s2.num (initIdx i) 3 := num_put_init hi s2 (by decide) (by decide) (by decide) _
    have n4 : s4.num (initIdx i) 3 = s3.num (initIdx i) 3 :=
      (num_put_init hi _ (by decide) (by decide) (by decide) _).trans (num_put_init hi s3 (by decide) (by decide) (by decide) _)
    have n5 : s5.num (initIdx i) 3 = s4.num (initIdx i) 3 := num_putOct_of_apart (by decide) (by decide) (.inr (by decide))
      (.inr (.inr (.inl (by decide))))
    rw [n5, n4, n3, n2]
  clear_value s5
  exact ⟨(h5.outside.mono (by decide)).trans fun p hp => by cases p <;> simp at hp ⊢, ⟨_, _, _,
    congrArg (fun x : Noc => { x with
    latSum := tput s5.noc.latSum i sum,
      pickBytes := tput s5.noc.pickBytes i (tgetD s5.noc.pickBytes i 0 + bytes) }) (h5.outside .noc (by decide))⟩, hc,
        h5.entries⟩

theorem completeTransaction_counted (hi : i < 1024) (s : State) (bytes lat : Nat) :
    Counted i s (completeTransaction s i bytes lat) := by
  obtain ⟨ho, ⟨l, b, r, hn⟩, hc, he⟩ := addTransaction_counted hi s bytes lat
  unfold completeTransaction
  generalize addTransaction s i bytes lat = t at *
  exact ⟨ho.trans fun p hp => by cases p <;> simp at hp ⊢, ⟨l, b, _, congrArg (fun x : Noc => { x with
    recent := (t.noc.recent.filter fun r : Moved => decide (r.at_ = t.now)) ++ [({ at_ := t.now, init := i, bytes := bytes, lat := lat } : Moved)] }) hn⟩, hc, he⟩

/-! ### Responses -/

theorem outstandingReq_init {x : Trans} (h : outstandingReq s i n = some x) : x.pkt.init = i := by
  have hp := List.find?_some h
  simp only [decide_eq_true_eq] at hp
  exact hp.1

theorem outside_toDesign (s : State) (p : NocPkt) : Outside [.noc] s (toDesign s p) := by
  unfold toDesign
  exact .ite (fun p hp => by cases p <;> simp at hp ⊢) (.refl _ _)

theorem toDesign_noc (s : State) (p : NocPkt) : ∃ l, (toDesign s p).noc = { s.noc with fabRsp := l } ∧
    (0x200 ≤ p.init → l = s.noc.fabRsp ++ [((p.init - 0x200) / 16, p)]) := by
  unfold toDesign
  split
  · exact ⟨_, rfl, fun _ => rfl⟩
  · next h => exact ⟨_, rfl, fun h' => absurd h' h⟩

theorem num_toDesign (s : State) (p : NocPkt) (i a : Nat) : (toDesign s p).num i a = s.num i a := by
  unfold toDesign
  split <;> rfl

/-- The response as the design reads it: in error where a word of it is wrong (R427). -/
def shownResponse (p : NocPkt) (bad : Nat × Nat) : NocPkt :=
  if bad.2 ≠ 0 then { p with kind := kErrorResp, status := stTargetUnavailable, data := [], granules := 1 } else p

theorem responseArrives_some {bad : Nat × Nat} {x : Trans}
    (h : outstandingReq (noteWrong (landed s p) p bad 1) p.init p.tag = some x) :
    responseArrives s p bad = toDesign (completeTransaction (retire (noteWrong (landed s p) p bad 1) p.init p.tag) x.pkt.init
      (64 * x.pkt.granules) ((noteWrong (landed s p) p bad 1).now - x.since)) (shownResponse p bad) := by
  unfold responseArrives shownResponse
  dsimp only
  rw [h]
  dsimp only
  split <;> rfl

theorem responseArrives_none {bad : Nat × Nat} (h : outstandingReq (noteWrong (landed s p) p bad 1) p.init p.tag = none) :
    responseArrives s p bad = ((noteWrong (landed s p) p bad 1).count 0x090000 8 64 1).raise 0xA0A p.init
      (be 1 p.target ++ be 2 p.tag) := by
  unfold responseArrives
  dsimp only
  rw [h]

/-- A response at its initiator (R427, R428). -/
theorem responseAtInitiator_spec {way : List Hop} {flips : List (Nat × Nat)} {bad : Nat × Nat} (hr : r = inFlight s p)
    (hk : kReadResp ≤ r.kind) (hk' : r.kind ≤ kErrorResp) (hi : r.init < 1024) (hm : mayArrive s r = true)
    (hw : travel s r none way = .through m) (hbad : bad = wrongWords r flips) :
    Does (.nocResponseAtInitiator p way flips) s fun u => Outside [.cat, .mgmt, .noc] s u ∧
      u.noc.flight = dropReq s.noc.flight r ∧
      (outstandingReq s r.init r.tag = none → Raised s u 0xA0A ∧ u.num 0x090000 8 = (s.num 0x090000 8 + 1) % 2 ^ 64 ∧
        u.noc.outstanding = s.noc.outstanding) ∧
      (bad.2 ≠ 0 → Raised s u 0xA08) ∧
      (∀ t, outstandingReq s r.init r.tag = some t →
        u.noc.outstanding = s.noc.outstanding.eraseP (fun t => decide (t.pkt.init = r.init ∧ t.pkt.tag = r.tag)) ∧
        u.num (initIdx t.pkt.init) 3 = (s.num (initIdx t.pkt.init) 3 + 1) % 2 ^ 64 ∧
        (0x200 ≤ r.init → bad.2 = 0 → u.noc.fabRsp = s.noc.fabRsp ++ [((r.init - 0x200) / 16, r)])) := by
  have hJ := (crossed_of_through hw).atNi r bad 1
  have he : exec (.nocResponseAtInitiator p way flips) s = .next (responseArrives m r bad) := by
    refine congrArg Host.Outcome.next ((if_pos ?_).trans ?_)
    · rw [← hr]
      refine ⟨?_, hk', hm⟩
      unfold kReadResp at hk
      unfold isRequest
      rw [decide_eq_false (by unfold kPartial; omega)]
      rfl
    · rw [← hr, hw]
      dsimp only
      rw [← hbad]
  obtain ⟨o, l, hnoc⟩ := hJ.noc
  have hout : outstandingReq (noteWrong (landed m r) r bad 1) r.init r.tag = outstandingReq s r.init r.tag := by
    unfold outstandingReq
    rw [hnoc]
  have h8 : (noteWrong (landed m r) r bad 1).num 0x090000 8 = s.num 0x090000 8 :=
    hJ.nums _ _ (by decide) (by decide) (by decide) (by decide)
  cases hx : outstandingReq s r.init r.tag with
  | none =>
    rw [responseArrives_none (hout.trans hx)] at he
    generalize noteWrong (landed m r) r bad 1 = j at *
    have hc : EventsBut [] j (j.count 0x090000 8 64 1) := .of_put j (by decide) (.inl (by decide))
    have hev := hJ.events.trans (hc.mono (ns := [0xA08]) (by simp))
    have hnoc' : ((j.count 0x090000 8 64 1).raise 0xA0A r.init (be 1 r.target ++ be 2 r.tag)).noc = j.noc :=
      (outside_raise _ _ _ _) .noc (by decide)
    refine ⟨_, he, (hJ.outside.andThen (outside_count j _ _ _ _) (by decide)).andThen (outside_raise _ _ _ _) (by decide), ?_,
      fun _ => ⟨hev.raised (by decide) (by decide) (by decide), ?_, ?_⟩, fun hb => ?_, fun t ht => absurd ht (by simp)⟩
    · rw [hnoc', hnoc]
    · rw [num_raise (by decide) _ _ (by decide) (by decide), ← h8]
      exact num_put_self ..
    · rw [hnoc', hnoc]
    · exact ((hJ.raised hb).then_events (hc.trans (.refl _ _)) (by decide) (by decide) (by simp)).then_events
        (.of_raise (ms := [0xA0A]) _ (by simp)) (by decide) (by decide) (by decide)
  | some x =>
    have hxi := outstandingReq_init hx
    rw [responseArrives_some (hout.trans hx), hxi] at he
    generalize noteWrong (landed m r) r bad 1 = j at *
    have hret : Outside [.noc] j (retire j r.init r.tag) := fun p hp => by cases p <;> simp at hp ⊢
    have hC := completeTransaction_counted hi (retire j r.init r.tag) (64 * x.pkt.granules) (j.now - x.since)
    generalize completeTransaction (retire j r.init r.tag) r.init (64 * x.pkt.granules) (j.now - x.since) = v at *
    have hvo : Outside [.cat, .mgmt, .noc] s v := (hJ.outside.andThen hret (by decide)).andThen hC.outside (by decide)
    obtain ⟨lat, by_, rec, hvn⟩ := hC.noc
    obtain ⟨f, hf, hfi⟩ := toDesign_noc v (shownResponse r bad)
    have hcat : (toDesign v (shownResponse r bad)).cat = v.cat := outside_toDesign _ _ .cat (by decide)
    have hinit : j.num (initIdx r.init) 3 = s.num (initIdx r.init) 3 :=
      hJ.nums _ _ (by decide) (by unfold initIdx; omega) (by unfold initIdx; omega) (by unfold initIdx; omega)
    have hnum : v.num (initIdx r.init) 3 = (j.num (initIdx r.init) 3 + 1) % 2 ^ 64 := hC.count
    have hev : EventsBut [] (retire j r.init r.tag) v := .of_entries hC.entries (by
      simp only [List.mem_singleton, forall_eq]
      unfold initIdx
      omega) (hC.outside .unit (by decide)) (hC.outside .pwr (by decide)) (hC.outside .cfg (by decide))
    refine ⟨_, he, hvo.andThen (outside_toDesign _ _) (by decide), ?_, fun h => absurd h (by simp), fun hb => ?_,
      fun t ht => ?_⟩
    · rw [hf, hvn]
      unfold retire
      rw [hnoc]
    · exact ((hJ.raised hb).then_events ((EventsBut.of_cat rfl).trans hev) (by decide) (by decide) (by simp)).then_events
        (.of_cat (ms := []) hcat) (by decide) (by decide) (by simp)
    · obtain rfl := Option.some.inj ht
      rw [hxi]
      refine ⟨?_, ?_, fun h200 hb => ?_⟩
      · rw [hf, hvn]
        unfold retire
        rw [hnoc]
      · rw [num_toDesign, hnum, hinit]
      · have hs : shownResponse r bad = r := if_neg (not_not.mpr hb)
        rw [hs] at hf hfi
        have hvf : v.noc.fabRsp = s.noc.fabRsp := by
          rw [hvn]
          unfold retire
          rw [hnoc]
        rw [hs, hf, hfi h200, hvf]

/-! ### Timeouts and fabric ports -/

/-- NOC_TIMEOUT of an outstanding request (R428). -/
theorem nocTimeout_spec {i : Fin 1024} {tag : Fin 4096} {x : Trans} (h : outstandingReq s i tag = some x) :
    Does (.nocTimeout i tag) s fun u => u.now = max s.now (x.since + s.num 0x090000 5 * 1000) + 1 ∧
      u.noc.outstanding = s.noc.outstanding.eraseP (fun t => decide (t.pkt.init = i.val ∧ t.pkt.tag = tag.val)) ∧
      u.num (initIdx i) 0x0A = (s.num (initIdx i) 0x0A + 1) % 2 ^ 32 ∧ Outside [.now, .cat, .mgmt, .tim, .noc] s u := by
  have hW := outside_waitUntil s (x.since + s.num 0x090000 5 * 1000)
  have hnow := now_waitUntil_max s (x.since + s.num 0x090000 5 * 1000)
  have hnum : (s.waitUntil (x.since + s.num 0x090000 5 * 1000)).num (initIdx i) 0x0A = s.num (initIdx i) 0x0A := num_waitUntil ..
  obtain ⟨w, hw⟩ : ∃ w, w = s.waitUntil (x.since + s.num 0x090000 5 * 1000) := ⟨_, rfl⟩
  rw [← hw] at hW hnow hnum
  have he : exec (.nocTimeout i tag) s = .next ((toDesign (((retire w i tag).count (initIdx i) 0x0A 32 1).raiseAtMost 1 0xA09 i
      (fun n => be 1 x.pkt.target ++ be 4 n)) (responseTo x.pkt kErrorResp stTargetUnavailable [])).pass 1) := by
    rw [hw]
    refine congrArg Host.Outcome.next ?_
    unfold timeOut
    rw [h]
  clear hw
  have hR : Outside [.noc] w (retire w i tag) := fun p hp => by cases p <;> simp at hp ⊢
  have hC := outside_count (retire w i tag) (initIdx i) 0x0A 32 1
  have hM := outside_raiseAtMost ((retire w i tag).count (initIdx i) 0x0A 32 1) 1 0xA09 i (fun n => be 1 x.pkt.target ++ be 4 n)
  have hcount : (((retire w i tag).count (initIdx i) 0x0A 32 1).raiseAtMost 1 0xA09 i
      (fun n => be 1 x.pkt.target ++ be 4 n)).num (initIdx i) 0x0A = (w.num (initIdx i) 0x0A + 1) % 2 ^ 32 := by
    have hi := i.2
    rw [num_raiseAtMost (by decide) _ _ (by decide) (by unfold initIdx; omega)]
    exact num_put_self ..
  have hRn : (retire w i tag).noc = { w.noc with outstanding := w.noc.outstanding.eraseP (fun t =>
      decide (t.pkt.init = i.val ∧ t.pkt.tag = tag.val)) } := rfl
  obtain ⟨v, hv⟩ : ∃ v, v = ((retire w i tag).count (initIdx i) 0x0A 32 1).raiseAtMost 1 0xA09 i
      (fun n => be 1 x.pkt.target ++ be 4 n) := ⟨_, rfl⟩
  rw [← hv] at he hM hcount
  clear hv
  have hvn : v.noc = (retire w i tag).noc := (hM .noc (by decide)).trans (hC .noc (by decide))
  obtain ⟨f, hf, -⟩ := toDesign_noc v (responseTo x.pkt kErrorResp stTargetUnavailable [])
  have hD := outside_toDesign v (responseTo x.pkt kErrorResp stTargetUnavailable [])
  have hDn := num_toDesign v (responseTo x.pkt kErrorResp stTargetUnavailable []) (initIdx i) 0x0A
  generalize toDesign v (responseTo x.pkt kErrorResp stTargetUnavailable []) = d at *
  have hall : Outside [.now, .cat, .mgmt, .tim, .noc] s d :=
    ((((hW.mono (by decide)).andThen hR (by decide)).andThen hC (by decide)).andThen hM (by decide)).andThen hD (by decide)
  have hdn : d.now = w.now := (hD .now (by decide)).trans ((hM .now (by decide)).trans ((hC .now (by decide)).trans (hR .now (by decide))))
  refine ⟨_, he, ?_, ?_, ?_, hall.andThen (outside_pass d 1) (by decide)⟩
  · rw [← hnow, ← hdn]
    rfl
  · have hpass : (d.pass 1).noc = d.noc := (outside_pass d 1) .noc (by decide)
    rw [hpass, hf, hvn, hRn, hW .noc (by decide)]
  · rw [num_pass, hDn, hcount, hnum]

/-- The request of a design as its port sends it: aligned to granules, of 1 to 16 of them. -/
def atPort (p : NocPkt) : NocPkt :=
  { p with addr := p.addr / 64 * 64 % 2 ^ 48, granules := if p.kind = kPartial then 1 else max 1 (min 16 p.granules) }

/-- The requests outstanding of the 16 initiators of a port from `first` on. -/
def outstandingFrom (s : State) (first : Nat) : Nat :=
  (s.noc.outstanding.filter fun t => decide (first ≤ t.pkt.init ∧ t.pkt.init < first + 16)).length

/-- The packet of a design's request (R415, R421, R424). -/
def sentPacket (s : State) (q : NocPkt) (t : Nat) : NocPkt :=
  { q with target := t, epoch := injectEpoch s, cls := min (min q.cls 2) (s.num (initIdx q.init) 1), status := 0 }

section
variable {b j : Nat} (hc : s.clocksRun = true)
include hc

theorem designRequest_bad (h : p.init < 0x200 + 128 * b + 16 * j ∨ 0x200 + 128 * b + 16 * j + 16 ≤ p.init ∨ 2 < p.kind) :
    designRequest s b j p =
      answerDesign { s with noc := { s.noc with fabRefused := lmod s.noc.fabRefused (8 * b + j) (· + 1) } } (8 * b + j) (atPort p) :=
  (if_neg (by simp [hc])).trans (if_pos h)

variable (h1 : 0x200 + 128 * b + 16 * j ≤ p.init) (h2 : p.init < 0x200 + 128 * b + 16 * j + 16) (h3 : p.kind ≤ 2)
include h1 h2 h3

theorem designRequest_full (h : 64 ≤ outstandingFrom s (0x200 + 128 * b + 16 * j)) : designRequest s b j p = s := by
  have hn : ¬(p.init < 0x200 + 128 * b + 16 * j ∨ 0x200 + 128 * b + 16 * j + 16 ≤ p.init ∨ 2 < p.kind) := by omega
  exact (if_neg (by simp [hc])).trans ((if_neg hn).trans (if_pos h))

theorem designRequest_nowhere (h : outstandingFrom s (0x200 + 128 * b + 16 * j) < 64)
    (ht : targetOf s (atPort p).init (atPort p).addr = none) : designRequest s b j p = answerDesign s (8 * b + j) (atPort p) := by
  have hn : ¬(p.init < 0x200 + 128 * b + 16 * j ∨ 0x200 + 128 * b + 16 * j + 16 ≤ p.init ∨ 2 < p.kind) := by omega
  refine (if_neg (by simp [hc])).trans ((if_neg hn).trans ((if_neg (not_le.mpr h)).trans ?_))
  unfold atPort at ht
  dsimp only at ht ⊢
  rw [ht]
  rfl

theorem designRequest_sent {t : Nat} (h : outstandingFrom s (0x200 + 128 * b + 16 * j) < 64)
    (ht : targetOf s (atPort p).init (atPort p).addr = some t) :
    designRequest s b j p = inject { s with noc := { s.noc with
      outstanding := s.noc.outstanding ++ [{ pkt := sentPacket s (atPort p) t, since := s.now }] } } (sentPacket s (atPort p) t) := by
  have hn : ¬(p.init < 0x200 + 128 * b + 16 * j ∨ 0x200 + 128 * b + 16 * j + 16 ≤ p.init ∨ 2 < p.kind) := by omega
  refine (if_neg (by simp [hc])).trans ((if_neg hn).trans ((if_neg (not_le.mpr h)).trans ?_))
  unfold atPort at ht
  dsimp only at ht ⊢
  rw [ht]
  rfl

end

theorem outside_noc (s : State) (x : Noc) : Outside [.noc] s { s with noc := x } := fun p hp => by cases p <;> simp at hp ⊢

/-- Settles O50: links count a packet on its way and change nothing else (`Crossed`), the NI notes its wrong words (`AtNi`), and
what its target or initiator does with it is read off the branches. -/
theorem packetsReachTargetsAndInitiators : Obligations.PacketsReachTargetsAndInitiators := by
  unfold Obligations.PacketsReachTargetsAndInitiators
  refine ⟨fun s m p r q way flips bad hr hk hc ht hm hw hq hbad hroom =>
      requestAtTarget_spec hr hk hc ht hm hw hq hbad hroom, ?way,
    fun s m p r way flips bad hr hk hk' hi hm hw hbad => responseAtInitiator_spec hr hk hk' hi hm hw hbad,
    fun s i tag t h => nocTimeout_spec h, ?port, ?answer⟩
  case way =>
    intro s m p r way flips hr hk hm
    have hcond : isRequest (inFlight s p) = true ∧ mayArrive s (inFlight s p) = true := by
      rw [← hr]
      exact ⟨by simpa [isRequest] using hk, hm⟩
    refine ⟨fun hw => ?_, fun hw => ?_, fun hw hbad hs hroom => ?_⟩
    · refine congrArg Host.Outcome.next ((if_pos hcond).trans ?_)
      rw [← hr, hw]
    · have he : exec (.nocRequestAtTarget p way flips) s =
          .next (inject (landed m r) (responseTo r kErrorResp stTargetUnavailable [])) := by
        refine congrArg Host.Outcome.next ((if_pos hcond).trans ?_)
        rw [← hr, hw]
      have hx := crossed_of_stopped hw
      obtain ⟨o, l, hn⟩ := hx.noc
      refine ⟨_, he, (hx.outside.mono (by decide)).trans ((outside_noc _ _).mono (by decide)), ?_⟩
      rw [flight_inject]
      unfold landed
      rw [hn]
    · refine congrArg Host.Outcome.next ((if_pos hcond).trans ?_)
      rw [← hr, hw]
      dsimp only
      have hx := crossed_of_through hw
      by_cases hc : r.cls ≤ 2 ∧ knownTarget r.target = true
      · rw [requestArrives_eq hc.1 hc.2, if_neg (by simp [hbad]), hx.niServes (knownTarget_lt hc.2), hs, if_neg (by simp),
          hx.hasRoom, hroom]
        rfl
      · have hn : 2 < r.cls ∨ (!knownTarget r.target) = true := by
          rw [not_and_or, not_le] at hc
          simpa using hc
        have hnone : requestArrives m r (wrongWords r flips) = none := if_pos hn
        rw [hnone]
        rfl
  case port =>
    intro s b j p q first hf hc hq
    subst hf
    have hq' : q = atPort p := hq
    subst hq'
    refine ⟨fun h => ?_, fun h1 h2 h3 hl => ⟨fun ht => ?_, fun t m ht hm => ?_⟩, fun h1 h2 h3 hl => ?_⟩
    · exact ⟨_, congrArg Host.Outcome.next (designRequest_bad hc h), outside_noc _ _, rfl⟩
    · exact ⟨_, congrArg Host.Outcome.next (designRequest_nowhere hc h1 h2 h3 hl ht), outside_noc _ _, rfl⟩
    · subst hm
      exact ⟨_, congrArg Host.Outcome.next (designRequest_sent hc h1 h2 h3 hl ht), outside_noc _ _, rfl⟩
    · exact congrArg Host.Outcome.next (designRequest_full hc h1 h2 h3 hl)
  case answer =>
    intro s b j p q hc hk hk' hf
    have he : exec (.fabricTargetResponse b j p) s = .next (answerReq { s with noc := { s.noc with
        fabOut := s.noc.fabOut.eraseP fun r => decide (r.1 = 8 * b.val + j.val ∧ r.2.init = p.init ∧ r.2.tag = p.tag) } }
        q.2 p.kind p.status p.data) := by
      refine congrArg Host.Outcome.next ?_
      unfold designResponse
      dsimp only
      rw [hf]
      exact if_neg (by simp [hc]; omega)
    exact ⟨_, he, outside_noc _ _, rfl, rfl⟩

end Sys2Proof.Machine
end

section
/-! A read that stays queued behind one whose tags are being checked (R449, R464; obligation O52). -/

namespace Sys2Proof.Machine

/-- A read of slot 15's data, protected with tags. -/
def protectedRead : NocPkt :=
  { kind := kRead, init := 5, tag := 9, target := 0, addr := 15 * 2 ^ 44 + 64, granules := 1,
    data := List.replicate 64 7, mask := 3 }

/-- Channel 0 with that read queued, while an earlier read of the same granule waits for its tags. -/
def granuleUnderCheck : State :=
  let s := Tests.online 0 [protectedRead] (Tests.slotted slActive)
  { s with itg := { s.itg with waiting := [protectedRead] } }

theorem granuleUnderCheck_ready : granuleUnderCheck.pwr.halted = false ∧ granuleUnderCheck.mcState 0 = mcOnline ∧
    nextIssue granuleUnderCheck 0 = some 0 ∧ (granuleUnderCheck.mch 0).queue.getD 0 {} = protectedRead := by
  decide +kernel

theorem granuleUnderCheck_guarded :
    packetAccess granuleUnderCheck protectedRead = .guarded (protectedRead.addr / 2 ^ 44) ∧
    overflowBlocks granuleUnderCheck (protectedRead.addr / 2 ^ 44) protectedRead = false ∧
    granuleUnderCheck.slInteg (protectedRead.addr / 2 ^ 44) = true := by
  decide +kernel

/-- The queued read is held back: only the read that waited before it waits after the command. -/
theorem granuleUnderCheck_waits : (channelComplete granuleUnderCheck 0 0).itg.waiting = [protectedRead] := by
  decide +kernel

/-- Refutes O52: a protected read of a granule that an earlier read waits to have checked stays in its channel's queue
(`granuleUnderCheck`), where the statement asks that it join the reads that wait. -/
theorem not_channelsRefreshTrackAndServe : ¬ Obligations.ChannelsRefreshTrackAndServe := by
  unfold Obligations.ChannelsRefreshTrackAndServe
  rintro ⟨-, -, -, -, -, hserve, -⟩
  obtain ⟨hhalt, honline, hnext, hqueue⟩ := granuleUnderCheck_ready
  obtain ⟨haccess, hblocks, hinteg⟩ := granuleUnderCheck_guarded
  obtain ⟨-, hguarded⟩ := hserve granuleUnderCheck 0 0 [] protectedRead (by decide) hhalt honline hnext hqueue.symm
  obtain ⟨u, hu, hwaiting, -⟩ := hguarded haccess hblocks hinteg rfl
  rw [← Host.Outcome.next.inj hu] at hwaiting
  have hone := granuleUnderCheck_waits.symm.trans hwaiting
  exact absurd (congrArg List.length hone) (by decide)

end Sys2Proof.Machine
end

section
/-! A write held for a disabled slot, answered as the slot is enabled (R463, R464; obligation O53). -/

namespace Sys2Proof.Machine

/-- A write to slot 15's range. -/
def heldWrite : NocPkt :=
  { kind := kWrite, init := 5, tag := 9, target := 0, addr := 15 * 2 ^ 44 + 64, granules := 1, data := List.replicate 64 7 }

/-- Slot 15 DISABLED while the integrity engine holds that write. -/
def disabledWithHeldWrite : State :=
  { Tests.slotted slDisabled with itg := { (Tests.slotted slDisabled).itg with waiting := [heldWrite] } }

theorem disabledWithHeldWrite_enables : AtOnce disabledWithHeldWrite Tests.wr (ent (slIdx 15) 2) (.num 1)
    (slotEnableRule 15) := by
  unfold AtOnce Passes
  decide +kernel

/-- Enabling the slot refuses the held write: its response is in flight. -/
theorem disabledWithHeldWrite_answers :
    (submit disabledWithHeldWrite Tests.wr (ent (slIdx 15) 2) (.num 1) (slotEnableRule 15)).noc.flight.length = 1 ∧
    disabledWithHeldWrite.noc.flight.length = 0 := by
  decide +kernel

/-- Refutes O53: SLOT_ENABLE of a DISABLED slot refuses the writes that the integrity engine holds for it, and so puts their
responses on the network (`disabledWithHeldWrite`), where the statement asks that the network be as it was. -/
theorem not_keySlotsProtectAndHalt : ¬ Obligations.KeySlotsProtectAndHalt := by
  unfold Obligations.KeySlotsProtectAndHalt
  rintro ⟨henable, -⟩
  obtain ⟨u, hu, -, -, hout, -⟩ := henable disabledWithHeldWrite Tests.wr 15 disabledWithHeldWrite_enables
  have hnoc : u.noc = disabledWithHeldWrite.noc := hout .noc (by decide)
  rw [← Host.Outcome.next.inj hu] at hnoc
  obtain ⟨hone, hzero⟩ := disabledWithHeldWrite_answers
  have hlen := hone.symm.trans ((congrArg (fun x : Noc => x.flight.length) hnoc).trans hzero)
  exact absurd hlen (by decide)

end Sys2Proof.Machine
end

section
/-! The service port: a read over it, step by step (R100, R491; obligation O54). -/

namespace Sys2Proof.Machine

variable {s t u : State} {f : TxFrame} {key : Nat}

/-- Check 3 admits a read over the service port, which no rate limits. -/
theorem check3_svc (hp : t.cap.phase = .unsealed ∨ t.cap.phase = .served) (ho : holdsOp f.bytes opOpen = false)
    (hf : f.port = .svc) : check3 t f = (refill t, none) := by
  have hready : (t.cap.phase == .unsealed || t.cap.phase == .served || identityFrame f.bytes) = true := by
    rcases hp with h | h <;> simp [h]
  unfold check3
  simp only [hready, Bool.not_true, Bool.false_eq_true, if_false, hf, admitOpen, ho, Bool.not_false, if_true]

theorem startFrame_svc (hf : f.port = .svc) (hwf : wellFormedFrame f.bytes = true) (hm : fMcast f.bytes = false)
    (hcr : fCrit f.bytes = false) (hs : fSession f.bytes = 0) (ha : fAtomic f.bytes = false) (hrun : t.num 0x100000 0x0D = 0)
    (hc : cachedFor t f = none) (hn : ∀ n, n < 8 → t.sesState n = 0) (hst : t.cap.staged = [])
    (ho : holdsOp f.bytes opOpen = false) (hp : t.cap.phase = .unsealed ∨ t.cap.phase = .served) :
    startFrame t f = (refill t).setCap fun c => { c with work := some { frame := f } } := by
  unfold startFrame
  rw [lapse_eq_self hn hst]
  simp only [hwf, hm, hrun, hc, check3_svc hp ho hf, check45_read hm hs hcr, beginWork_read hm ha, hf]
  simp

/-- The response to a frame over the service port is ready to be read. -/
theorem finishFrame_svc {w : FrameWork} (hp : w.frame.port = .svc) (hm : fMcast w.frame.bytes = false)
    (hcr : fCrit w.frame.bytes = false) (hwho : w.who = .service) :
    (finishFrame s w).upd = { s.upd with svcReq := false, svcRsp := some (replied s w).bytes } ∧
    (finishFrame s w).cap.sent = s.cap.sent ∧
    (finishFrame s w).num 0x010004 5 = (s.num 0x010004 5 + 1) % 2 ^ 64 ∧
    (finishFrame s w).num 0x010004 1 = s.num 0x010004 1 ∧
    (finishFrame s w).cap.work = none ∧ (finishFrame s w).cap.inbox = s.cap.inbox ∧
    (finishFrame s w).cap.clientWait = s.cap.clientWait := by
  obtain ⟨z, hz, hzu, hzs, hzw, hzi, hzc, hzn⟩ : ∃ z, cacheResp (s.setCap fun c => { c with work := none }) w (replied s w).bytes = z ∧
      z.upd = s.upd ∧ z.cap.sent = s.cap.sent ∧ z.cap.work = none ∧ z.cap.inbox = s.cap.inbox ∧
      z.cap.clientWait = s.cap.clientWait ∧ ∀ i a, z.num i a = s.num i a := by
    refine ⟨_, rfl, ?_⟩
    unfold cacheResp
    extract_lets f x
    rw [hwho]
    split
    · exact ⟨rfl, rfl, rfl, rfl, rfl, fun _ _ => rfl⟩
    · exact ⟨rfl, rfl, rfl, rfl, rfl, fun _ _ => rfl⟩
  have hr : respond z w.frame (replied s w).bytes =
      { z.count 0x010004 5 64 1 with upd := { z.upd with svcReq := false, svcRsp := some (replied s w).bytes } } := by
    unfold respond emit
    simp only [hm, hp, Bool.not_false, if_true]
    rfl
  have he : finishFrame s w = (respond z w.frame (replied s w).bytes).setCap fun c =>
      { c with listen := (respond z w.frame (replied s w).bytes).num 0x010001 1 } := by
    have hb : respHead (s.setCap fun c => { c with work := none }) w.frame 0 (36 + w.out.length) ++ w.out = (replied s w).bytes := rfl
    simp only [finishFrame, hcr, Bool.false_eq_true, if_false, Nat.add_zero, FrameWork.slot, hwho, hb, hz]
  rw [he, hr]
  refine ⟨?_, hzs, ?_, ?_, hzw, hzi, hzc⟩
  · rw [← hzu]
    rfl
  · exact (num_count_self z 0x010004 5 64 1).trans (by rw [hzn])
  · have hc : (z.count 0x010004 5 64 1).num 0x010004 1 = z.num 0x010004 1 :=
      num_count_of_apart (by decide) (by decide) (by decide) (by decide)
    exact hc.trans (hzn ..)

/-- The state in which the service port has handed over a request. -/
def requested (s : State) : State := { s with upd := { s.upd with svcReq := true } }

theorem readsAlike_requested (s : State) : ReadsAlike s (requested s) :=
  ⟨fun p hp => by cases p <;> simp [requested] at hp ⊢, .of_cat rfl, rfl, rfl⟩

/-- A read over the service port leaves its response ready (R491). -/
theorem svcSend_read {b : List Byte} {x : Seen} (hf : f = { port := .svc, ip := List.replicate 16 0, udp := 0, bytes := b })
    (hi : MgcIdle s) (hp : s.cap.phase = .unsealed ∨ s.cap.phase = .served) (hreq : s.upd.svcReq = false)
    (hrsp : s.upd.svcRsp = none) (hwf : wellFormedFrame b = true) (hm : fMcast b = false) (hs : fSession b = 0)
    (hc : fCrit b = false) (hat : fAtomic b = false) (htoe : fToe b = .none) (hrun : s.num 0x100000 0x0D = 0)
    (hcached : cachedFor s f = none) (hn : ∀ n, n < 8 → s.sesState n = 0) (hstg : s.cap.staged = [])
    (hrecs : fRecs b = some [{ op := 1, rflags := 0, key := key, value := [] }]) (hk : key / 256 ≤ 0x00FFFF)
    (hx : seen s key = some x) (hacc : x.field.acc ≠ .wo) (hpriv : x.priv = false) (hty : x.field.ty ≠ .octets)
    (hl : 50 + (readBytes s key).length ≤ 8192) :
    Does (.svcSend b) s fun u => u.upd.svcReq = false ∧ u.cap.sent = s.cap.sent ∧ MgcIdle u ∧
      u.upd.svcRsp = some (respHead s f 0 (50 + (readBytes s key).length) ++ respRecord 1 0 key stOk 0 (readBytes s key)) ∧
      u.num 0x010004 1 = (s.num 0x010004 1 + 1) % 2 ^ 64 ∧ u.num 0x010004 5 = (s.num 0x010004 5 + 1) % 2 ^ 64 := by
  have hfb : f.bytes = b := by rw [hf]
  have hfp : f.port = .svc := by rw [hf]
  have hcap : capAnswers s = true := by rcases hp with h | h <;> simp [capAnswers, h]
  have hop : holdsOp f.bytes opOpen = false := by simp [holdsOp, hfb, hrecs, opOpen]
  obtain ⟨hcl, hwk, hin⟩ := hi
  have he : exec (.svcSend b) s = .next (queueFrame (requested s) f) := by
    rw [hf]
    exact congrArg Host.Outcome.next ((if_neg (by simp [hcap])).trans (if_neg (by simp [hreq, hrsp])))
  have harr : ReadsAlike (requested s) (arrived (requested s)) :=
    (ReadsAlike.count (requested s) (a := 1) (w := 64) (n := 1) (by decide)).trans
      (.setCap _ (f := fun c => { c with inbox := [] }) rfl rfl)
  have hbegin : startFrame (arrived (requested s)) f =
      (refill (arrived (requested s))).setCap fun c => { c with work := some { frame := f } } := by
    rw [← hfb] at hwf hm hs hc hat
    refine startFrame_svc hfp hwf hm hc hs hat ?_ ?_ ?_ hstg hop hp
    · exact (harr.num (by decide) (by decide)).trans hrun
    · exact (cachedFor_congr hs rfl rfl).trans hcached
    · exact fun n h => (harr.num (by decide) (by simp only [sesIdx]; omega)).trans (hn n h)
  have htok : Unsent (arrived (requested s)) (refill (arrived (requested s))) := unsent_refill _
  have h1 : (arrived (requested s)).num 0x010004 1 = (s.num 0x010004 1 + 1) % 2 ^ 64 := num_count_self (requested s) 0x010004 1 64 1
  have h5 : (arrived (requested s)).num 0x010004 5 = s.num 0x010004 5 :=
    num_count_of_apart (s := requested s) (i := 0x010004) (a := 1) (w := 64) (n := 1) (by decide) (by decide) (by decide) (by decide)
  have hsent : (arrived (requested s)).cap.sent = s.cap.sent := rfl
  have hcla : (arrived (requested s)).cap.clientWait = [] := hcl
  have hina : (arrived (requested s)).cap.inbox = [] := rfl
  have hq := readsAlike_requested s
  rw [queueFrame_idle (s := requested s) ⟨hcl, hwk, hin⟩, hbegin] at he
  generalize refill (arrived (requested s)) = z at htok he
  generalize arrived (requested s) = y at *
  generalize requested s = q at *
  obtain ⟨hreads, hs2, hi2, hc2, hn2⟩ := htok
  have hsz : ReadsAlike s z := hq.trans (harr.trans hreads)
  obtain ⟨v, hv⟩ : ∃ v, v = readBytes s key := ⟨_, rfl⟩
  rw [← hv] at hl ⊢
  rw [mgcRun_read (w := { frame := f }) (by rw [hfb]; exact hc) rfl rfl rfl (by rw [hfb]; exact hrecs) rfl
    (by rw [hfb]; exact htoe) rfl hk ((hsz.seen hk).trans hx) hacc hpriv hty ((hsz.readBytes hk).trans hv.symm) hl
    (hc2.trans hcla)] at he
  obtain ⟨w, hw⟩ : ∃ w, w = answered { frame := f } (respRecord 1 0 key stOk 0 v) := ⟨_, rfl⟩
  rw [← hw] at he
  obtain ⟨hu, hus, h5', h1', hwk', hin', hcw'⟩ := finishFrame_svc (s := readDone z { frame := f } (respRecord 1 0 key stOk 0 v)) (w := w)
    (by rw [hw]; exact hfp) (by rw [hw]; show fMcast f.bytes = false; rw [hfb]; exact hm)
    (by rw [hw]; show fCrit f.bytes = false; rw [hfb]; exact hc) (by rw [hw]; rfl)
  have hidle : MgcIdle (finishFrame (readDone z { frame := f } (respRecord 1 0 key stOk 0 v)) w) :=
    ⟨hcw'.trans (hc2.trans hcla), hwk', hin'.trans (hi2.trans hina)⟩
  rw [hidle.mgcRun_eq_self] at he
  refine ⟨_, he, ?_, hus.trans (hs2.trans hsent), hidle, ?_, ?_, ?_⟩
  · rw [hu]
  · rw [hu, hw]
    simp only [replied, answered, respHead, frameHead, length_respRecord, show ∀ n, 50 + n = 36 + (14 + n) from fun n => by omega]
    have hzn : ∀ a, a < 256 → (readDone z { frame := f } (respRecord 1 0 key stOk 0 v)).num 0x010001 a = s.num 0x010001 a :=
      fun a ha => hsz.num ha (by decide)
    rw [hzn 2 (by decide), hzn 3 (by decide)]
  · rw [h1', ← h1, ← hn2]
    rfl
  · rw [h5', ← h5, ← hn2]
    rfl

end Sys2Proof.Machine
end

section
/-! Staging, verification, expiry, activation and confirmation of firmware (chapter 18; obligation O54). -/

namespace Sys2Proof.Machine

variable {s t u : State} {i a n k : Nat}

/-! ### The staging record -/

theorem num_put_staging (s : State) {a b : Nat} (x : Nat) (ha : a < 256) (hb : b < 256) (h : a ≠ b) :
    (s.put 0x100100 a x).num 0x100100 b = s.num 0x100100 b :=
  num_put_of_apart ha hb (.inr h) (.inr (.inr (.inr (by decide))))

theorem num_putOct_staging (s : State) {a b : Nat} (x : List Byte) (ha : a < 256) (hb : b < 256) (h : a ≠ b) :
    (s.putOct 0x100100 a x).num 0x100100 b = s.num 0x100100 b :=
  num_putOct_of_apart ha hb (.inr h) (.inr (.inr (.inr (by decide))))

theorem num_setUpd (s : State) (f : Update → Update) (i a : Nat) : (s.setUpd f).num i a = s.num i a := rfl

theorem num_raise_staging (s : State) {n unit : Nat} {b : List Byte} (hn : n < 4096) (ha : a < 256) :
    (s.raise n unit b).num 0x100100 a = s.num 0x100100 a := num_raise hn _ _ ha (.inr (by decide))

theorem outside_setUpd (s : State) (f : Update → Update) : Outside [.upd] s (s.setUpd f) := fun p hp => by
  cases p <;> simp at hp ⊢

/-- A change of the staging and of what waits with it, which counts no event but those listed. -/
structure StagingStep (ms : List Nat) (s t : State) : Prop where
  outside : Outside [.cat, .cap, .mgmt, .upd] s t
  events : EventsBut ms s t

theorem StagingStep.refl (ms : List Nat) (s : State) : StagingStep ms s s := ⟨.refl _ _, .refl _ _⟩

theorem StagingStep.trans {ms ns : List Nat} (h1 : StagingStep ms s t) (h2 : StagingStep ns t u) : StagingStep (ms ++ ns) s u :=
  ⟨h1.outside.trans h2.outside, (h1.events.mono (by simp)).trans (h2.events.mono (by simp))⟩

theorem StagingStep.put (s : State) (ha : a < 256) (x : Nat) : StagingStep [] s (s.put 0x100100 a x) :=
  ⟨(outside_put s _ _ _).mono (by decide), .of_put s ha (.inr (by decide))⟩

theorem StagingStep.putSg (s : State) (x : Nat) : StagingStep [] s (putSg s x) := .put s (by decide) x

theorem StagingStep.putOct (s : State) (ha : a < 256) (x : List Byte) : StagingStep [] s (s.putOct 0x100100 a x) :=
  ⟨(outside_putOct s _ _ _).mono (by decide), .of_entries (rs := [(0x100100, 0x100100)])
    (entriesOutside_putOct s _ _ _ ha ⟨_, .head _, le_refl _, le_refl _⟩) (by decide) rfl rfl rfl⟩

theorem StagingStep.setUpd (s : State) (f : Update → Update) : StagingStep [] s (s.setUpd f) :=
  ⟨(outside_setUpd s f).mono (by decide), .of_cat rfl⟩

theorem StagingStep.raise (s : State) (n unit : Nat) (b : List Byte) : StagingStep [n] s (s.raise n unit b) :=
  ⟨(outside_raise s n unit b).mono (by decide), .of_raise s (by simp)⟩

theorem StagingStep.raised {ms : List Nat} {unit : Nat} {b : List Byte} (h : StagingStep ms s t) (hn : n < 4096)
    (h40 : n ≠ 0x040) (hm : n ∉ ms) : Raised s (t.raise n unit b) n := h.events.raised hn h40 hm

/-! ### Opening -/

theorem clearStaging_step (s : State) (n : Nat) : StagingStep [] s (clearStaging s n) := by
  unfold clearStaging
  extract_lets v w x
  have hv : StagingStep [] s v := ((StagingStep.put s (by decide) _).trans (.put _ (by decide) _)).trans (.putOct _ (by decide) _)
  have hw : StagingStep [] v w := (((StagingStep.put v (by decide) _).trans (.put _ (by decide) _)).trans
    (.put _ (by decide) _)).trans (.put _ (by decide) _)
  have hx : StagingStep [] w x := (StagingStep.put w (by decide) _).trans (.put _ (by decide) _)
  exact ((hv.trans hw).trans hx).trans (.setUpd x _)

theorem clearStaging_spec (s : State) (n : Nat) : (clearStaging s n).upd.chunks = [] ∧
    (clearStaging s n).num 0x100100 3 = n ∧ (clearStaging s n).num 0x100100 4 = 0 := by
  refine ⟨rfl, ?_, ?_⟩
  · unfold clearStaging
    simp (disch := decide) only [num_setUpd, num_put_staging, num_putOct_staging, num_put_self]
  · unfold clearStaging
    simp (disch := decide) only [num_setUpd, num_put_staging, num_putOct_staging, num_put_self]

theorem discardStaging_step (s : State) (c : Nat) : StagingStep [0x062] s (discardStaging s c) := by
  unfold discardStaging
  split
  · exact .refl ..
  · exact .raise ..

/-- OPEN discards what is staged and begins to receive, or empties the staging (R492). -/
theorem openStaging_spec (s : State) (n r : Nat) : Outside [.cat, .cap, .mgmt, .upd] s (openStaging s n r) ∧
    (openStaging s n r).upd.chunks = [] ∧ (openStaging s n r).num 0x100100 3 = n ∧ (openStaging s n r).num 0x100100 4 = 0 ∧
    (s.sgState ≠ sgEmpty → Raised s (openStaging s n r) 0x062) ∧
    (n = 0 → (openStaging s n r).sgState = sgEmpty) ∧
    (n ≠ 0 → (openStaging s n r).sgState = sgReceiving ∧ Raised s (openStaging s n r) 0x060) := by
  have hD := discardStaging_step s 0
  have hC := clearStaging_step (discardStaging s 0) n
  obtain ⟨c1, c3, c4⟩ := clearStaging_spec (discardStaging s 0) n
  have hr : s.sgState ≠ sgEmpty → Raised s (discardStaging s 0) 0x062 := fun h => by
    unfold discardStaging
    rw [if_neg h]
    exact raised_raise s 0 _ (by decide)
  unfold openStaging
  generalize discardStaging s 0 = d at *
  generalize clearStaging d n = c at *
  have hdc := hD.trans hC
  by_cases hn : n = 0
  · rw [if_pos hn]
    have hp : StagingStep [] c (putSg c sgEmpty) := .putSg c _
    refine ⟨(hdc.trans hp).outside, c1, ?_, ?_,
      fun h => (hr h).then_events (hC.trans hp).events (by decide) (by decide) (by simp),
      fun _ => num_put_self .., fun h => absurd hn h⟩
    · exact (num_put_staging c _ (by decide) (by decide) (by decide)).trans c3
    · exact (num_put_staging c _ (by decide) (by decide) (by decide)).trans c4
  · rw [if_neg hn]
    extract_lets v
    have hv : StagingStep [] c v := (StagingStep.setUpd c fun y => { y with openRoute := r }).trans (.putSg _ sgReceiving)
    have hu := StagingStep.raise v 0x060 0 (be 4 n ++ be 1 r)
    have hvn : ∀ a, a < 256 → a ≠ 1 → (v.raise 0x060 0 (be 4 n ++ be 1 r)).num 0x100100 a = c.num 0x100100 a := fun a ha h1 =>
      (num_raise_staging v (by decide) ha).trans (num_put_staging _ _ (by decide) ha h1.symm)
    refine ⟨((hdc.trans hv).trans hu).outside, ?_, (hvn 3 (by decide) (by decide)).trans c3,
      (hvn 4 (by decide) (by decide)).trans c4,
      fun h => (hr h).then_events ((hC.trans hv).trans hu).events (by decide) (by decide) (by decide), fun h => absurd h hn,
      fun _ => ⟨(num_raise_staging v (by decide) (by decide)).trans (num_put_self ..),
        (hdc.trans hv).raised (by decide) (by decide) (by decide)⟩⟩
    rw [(outside_raise v 0x060 0 _) .upd (by decide)]
    exact c1

/-! ### Receiving -/

theorem trickleOp_lt (h : trickleOp s = some k) : k < 64 := by
  unfold trickleOp findOp at h
  exact List.mem_range.mp (List.mem_of_find?_eq_some h)

theorem trickleProgress_keeps (s : State) : Outside [.cat] s (trickleProgress s) ∧
    ∀ a, a < 256 → (trickleProgress s).num 0x100100 a = s.num 0x100100 a := by
  unfold trickleProgress
  split
  · next k hk =>
    have hlt := trickleOp_lt hk
    exact ⟨outside_put s _ _ _,
      fun a ha => num_put_of_apart (by decide) ha (.inl (by unfold opIdx; omega)) (.inl (by unfold opIdx; omega))⟩
  · exact ⟨.refl _ _, fun _ _ => rfl⟩

/-- A chunk is held, counted where it is new, and the last one starts verification (R490, R492). -/
theorem storeChunk_spec (s : State) (i : Nat) (d : List Byte) (hr : s.sgState = sgReceiving) :
    Outside [.cat, .upd] s (storeChunk s i d) ∧ tget (storeChunk s i d).upd.chunks i = some d ∧
    (chunkHeld s i = true → (storeChunk s i d).num 0x100100 4 = s.num 0x100100 4) ∧
    (chunkHeld s i = false → (storeChunk s i d).num 0x100100 4 = s.num 0x100100 4 + 1) ∧
    ((storeChunk s i d).num 0x100100 4 = s.num 0x100100 3 → (storeChunk s i d).sgState = sgVerifying) ∧
    ((storeChunk s i d).num 0x100100 4 ≠ s.num 0x100100 3 → (storeChunk s i d).sgState = sgReceiving) := by
  unfold storeChunk
  extract_lets new t v w
  have ht : Outside [.upd] s t := outside_setUpd s _
  have hv : Outside [.cat, .upd] s v := (ht.mono (by decide)).andThen (outside_putOct t _ _ _) (by decide)
  have hvn : ∀ a, a < 256 → a ≠ 5 → v.num 0x100100 a = s.num 0x100100 a := fun a ha h5 =>
    num_putOct_staging t _ (by decide) ha h5.symm
  have hvc : tget v.upd.chunks i = some d := tget_tput_self ..
  obtain ⟨hp, hpn⟩ := trickleProgress_keeps (if new = true then v.put 0x100100 4 (v.num 0x100100 4 + 1) else v)
  have hb : Outside [.cat] v (if new = true then v.put 0x100100 4 (v.num 0x100100 4 + 1) else v) :=
    .ite (outside_put v _ _ _) (.refl _ _)
  have hbn : ∀ a, a < 256 → a ≠ 4 → (if new = true then v.put 0x100100 4 (v.num 0x100100 4 + 1) else v).num 0x100100 a =
      v.num 0x100100 a := fun a ha h4 => by
    split
    · exact num_put_staging v _ (by decide) ha h4.symm
    · rfl
  have hb4 : (if new = true then v.put 0x100100 4 (v.num 0x100100 4 + 1) else v).num 0x100100 4 =
      if chunkHeld s i = true then s.num 0x100100 4 else s.num 0x100100 4 + 1 := by
    rw [← hvn 4 (by decide) (by decide)]
    by_cases hc : chunkHeld s i = true
    · simp [new, hc]
    · simp only [new, hc, Bool.not_false, if_true]
      exact num_put_self ..
  have hw : Outside [.cat, .upd] s w := (hv.andThen hb (by decide)).andThen hp (by decide)
  have hwc : w.upd = v.upd := (hp .upd (by decide)).trans (hb .upd (by decide))
  have hw4 : w.num 0x100100 4 = if chunkHeld s i = true then s.num 0x100100 4 else s.num 0x100100 4 + 1 :=
    (hpn 4 (by decide)).trans hb4
  have hwn : ∀ a, a < 256 → a ≠ 4 → a ≠ 5 → w.num 0x100100 a = s.num 0x100100 a := fun a ha h4 h5 =>
    (hpn a ha).trans ((hbn a ha h4).trans (hvn a ha h5))
  clear_value w
  have h3 := hwn 3 (by decide) (by decide) (by decide)
  have hst := hwn 1 (by decide) (by decide) (by decide)
  rw [h3]
  have key : ∀ x : State, Outside [.cat, .upd] s x → x.upd = w.upd → x.num 0x100100 4 = w.num 0x100100 4 →
      (x.num 0x100100 4 = s.num 0x100100 3 → x.sgState = sgVerifying) →
      (x.num 0x100100 4 ≠ s.num 0x100100 3 → x.sgState = sgReceiving) →
      Outside [.cat, .upd] s x ∧ tget x.upd.chunks i = some d ∧
      (chunkHeld s i = true → x.num 0x100100 4 = s.num 0x100100 4) ∧
      (chunkHeld s i = false → x.num 0x100100 4 = s.num 0x100100 4 + 1) ∧
      (x.num 0x100100 4 = s.num 0x100100 3 → x.sgState = sgVerifying) ∧
      (x.num 0x100100 4 ≠ s.num 0x100100 3 → x.sgState = sgReceiving) := fun x hx hxu hx4 hv hr =>
    ⟨hx, by rw [hxu, hwc]; exact hvc, fun hc => by rw [hx4, hw4, if_pos hc], fun hc => by rw [hx4, hw4, if_neg (by simp [hc])],
      hv, hr⟩
  by_cases hall : w.num 0x100100 4 = s.num 0x100100 3
  · rw [if_pos hall]
    have h4 := num_put_staging w sgVerifying (a := 1) (b := 4) (by decide) (by decide) (by decide)
    exact key _ (hw.andThen (outside_put w _ _ _) (by decide)) rfl h4 (fun _ => num_put_self ..)
      fun h => absurd (h4.trans hall) h
  · rw [if_neg hall]
    exact key w hw rfl rfl (fun h => absurd h hall) fun _ => hst.trans hr

end Sys2Proof.Machine
end

section
/-! Verification, expiry, activation and confirmation of firmware (chapter 18; obligation O54). -/

namespace Sys2Proof.Machine

variable {s t u : State} {i a n k : Nat}

/-! ### The end of a trickle reception -/

theorem staging_ne_op (hk : k < 64) : ∀ r ∈ (opIdx k, opIdx k) :: eventRanges, ¬(r.1 ≤ 0x100100 ∧ 0x100100 ≤ r.2) := by
  simp [opIdx, eventRanges]
  omega

theorem finishOp_staging (hk : k < 64) (s : State) : StagingStep [0x030] s (finishOp s k) ∧
    ∀ a, a < 256 → (finishOp s k).num 0x100100 a = s.num 0x100100 a :=
  ⟨⟨fun p hp => by cases p <;> simp at hp ⊢, fun e he h40 hm => num_finishOp_event h40 (by simpa using hm) he _⟩,
    fun a ha => num_outside (entriesOutside_finishOp s k) (by simp) (by simp) (by simp) _ a ha (staging_ne_op hk)⟩

theorem failOp_staging (hk : k < 64) (s : State) (st d : Nat) : StagingStep [0x030] s (failOp s k st d) ∧
    ∀ a, a < 256 → (failOp s k st d).num 0x100100 a = s.num 0x100100 a :=
  ⟨⟨fun p hp => by cases p <;> simp at hp ⊢, fun e he h40 hm => num_failOp_event h40 (by simpa using hm) he _ _ _⟩,
    fun a ha => num_outside (failOp_spec s k st d).2.2.2.2 (by simp) (by simp) (by simp) _ a ha (staging_ne_op hk)⟩

theorem failTrickle_spec (s : State) (st d : Nat) : Outside [.cat, .mgmt] s (failTrickle s st d) ∧
    StagingStep [0x030] s (failTrickle s st d) ∧ ∀ a, a < 256 → (failTrickle s st d).num 0x100100 a = s.num 0x100100 a := by
  unfold failTrickle
  split
  · next k hk =>
    have hlt := trickleOp_lt hk
    obtain ⟨-, -, -, ho, -⟩ := failOp_spec s k st d
    exact ⟨ho, failOp_staging hlt s st d⟩
  · exact ⟨.refl _ s, .refl _ s, fun _ _ => rfl⟩

/-! ### Verification and expiry -/

/-- Verification shows its verdict and ends a trickle reception (R490, R493). -/
theorem verifyPackage_spec (h : s.sgState = sgVerifying) : Raised s (verifyPackage s) 0x061 ∧
    Outside [.cat, .cap, .mgmt, .upd] s (verifyPackage s) ∧
    (verifyPackage s).sgState = (if (packageFault s).isNone then sgVerified else sgFailed) ∧
    (verifyPackage s).num 0x100100 6 = ((packageFault s).getD (1, 0xFF)).1 ∧
    (verifyPackage s).num 0x100100 7 = ((packageFault s).getD (1, 0xFF)).2 := by
  unfold verifyPackage
  rw [if_neg (by simp [h])]
  extract_lets m f res v w x y
  have hx : StagingStep [] s x := ((((((StagingStep.put s (by decide) _).trans (.put _ (by decide) _)).trans
    (.put _ (by decide) _)).trans (.put _ (by decide) _)).trans
    (.setUpd _ fun u => { u with newVersions := packageVersions m })).trans
    (.putSg w (if f.isNone = true then sgVerified else sgFailed)))
  have x1 : x.num 0x100100 1 = if f.isNone = true then sgVerified else sgFailed := num_put_self ..
  have x6 : x.num 0x100100 6 = res.1 := by
    simp (disch := decide) only [x, w, v, putSg, num_setUpd, num_put_staging, num_put_self]
  have x7 : x.num 0x100100 7 = res.2 := by
    simp (disch := decide) only [x, w, v, putSg, num_setUpd, num_put_staging, num_put_self]
  clear_value x
  change _ ∧ _ ∧ _ = (if f.isNone = true then sgVerified else sgFailed) ∧ _ = res.1 ∧ _ = res.2
  generalize (if f.isNone = true then sgVerified else sgFailed) = st at x1 ⊢
  have hr : Raised s y 0x061 := hx.raised (by decide) (by decide) (by simp)
  have hy : StagingStep [0x061] s y := hx.trans (.raise x _ _ _)
  have hn : ∀ a, a < 256 → y.num 0x100100 a = x.num 0x100100 a := fun a ha => num_raise_staging x (by decide) ha
  clear_value y
  have fin : ∀ z, StagingStep [0x030] y z → (∀ a, a < 256 → z.num 0x100100 a = y.num 0x100100 a) →
      Raised s z 0x061 ∧ Outside [.cat, .cap, .mgmt, .upd] s z ∧ z.sgState = st ∧
      z.num 0x100100 6 = res.1 ∧ z.num 0x100100 7 = res.2 := fun z hz hzn =>
    ⟨hr.then_events hz.events (by decide) (by decide) (by decide), (hy.trans hz).outside,
      ((hzn 1 (by decide)).trans (hn 1 (by decide))).trans x1, ((hzn 6 (by decide)).trans (hn 6 (by decide))).trans x6,
      ((hzn 7 (by decide)).trans (hn 7 (by decide))).trans x7⟩
  split
  · next k hk =>
    have hlt := trickleOp_lt hk
    split
    · exact fin _ (finishOp_staging hlt y).1 (finishOp_staging hlt y).2
    · exact fin _ (failOp_staging hlt y _ _).1 (failOp_staging hlt y _ _).2
  · exact fin y ((StagingStep.refl [0x030] y)) fun _ _ => rfl

theorem expireStaging_spec (h : s.sgState = sgReceiving ∨ s.sgState = sgVerifying) :
    (expireStaging s).now = s.now + expiryIn s ∧ (expireStaging s).sgState = sgFailed ∧
    (expireStaging s).num 0x100100 6 = 9 ∧ (expireStaging s).upd.chunks = [] ∧ Raised s (expireStaging s) 0x062 ∧
    Outside [.now, .cat, .mgmt, .tim, .upd] s (expireStaging s) := by
  unfold expireStaging
  rw [if_pos h]
  extract_lets v w x
  have hv : Outside [.now, .tim] s v := outside_pass s _
  have hve : EventsBut [] s v := .of_cat rfl
  have hx : StagingStep [] v x := ((StagingStep.putSg v _).trans (.put _ (by decide) _)).trans
    (.setUpd w fun u => { u with chunks := [] })
  have hxo : Outside [.cat, .upd] v x := ((outside_put v 0x100100 1 sgFailed).mono (by decide)).andThen
    ((outside_put (putSg v sgFailed) 0x100100 6 9).mono (qs := [.cat, .upd]) (by decide)) (by decide)
      |>.andThen (outside_setUpd w _) (by decide)
  have x1 : x.num 0x100100 1 = sgFailed := (num_put_staging _ 9 (by decide) (by decide) (by decide)).trans (num_put_self ..)
  have x6 : x.num 0x100100 6 = 9 := num_put_self ..
  have xc : x.upd.chunks = [] := rfl
  have xnow : x.now = s.now + expiryIn s := rfl
  clear_value x
  obtain ⟨ho, hz, hzn⟩ := failTrickle_spec (x.raise 0x062 0 (be 1 2)) stTooLate 0
  have hr : Raised s (x.raise 0x062 0 (be 1 2)) 0x062 := (hve.trans hx.events).raised (by decide) (by decide) (by simp)
  have hy := outside_raise x 0x062 0 (be 1 2)
  have hn : ∀ a, a < 256 → (x.raise 0x062 0 (be 1 2)).num 0x100100 a = x.num 0x100100 a := fun a ha =>
    num_raise_staging x (by decide) ha
  generalize x.raise 0x062 0 (be 1 2) = y at *
  have hall : Outside [.cat, .mgmt] x (failTrickle y stTooLate 0) := hy.andThen ho (by decide)
  refine ⟨(hall .now (by decide)).trans xnow, ((hzn 1 (by decide)).trans (hn 1 (by decide))).trans x1,
    ((hzn 6 (by decide)).trans (hn 6 (by decide))).trans x6, ?_, hr.then_events hz.events (by decide) (by decide) (by decide),
      ?_⟩
  · rw [hall .upd (by decide)]
    exact xc
  · exact ((hv.mono (by decide)).andThen hxo (by decide)).andThen hall (by decide)

/-! ### Activation -/

/-- An accepted ACTIVATE arms the staging (R495). -/
theorem armActivation_spec (c : TimedCmd) (s : State) (hc : s.ruling.timed.getLast? = some c) :
    (armActivation s (.num 1)).sgState = sgArmed ∧ (armActivation s (.num 1)).upd.armedFrom = s.sgState ∧
    (armActivation s (.num 1)).upd.armedWho = some c ∧ (armActivation s (.num 1)).upd.prepared = false ∧
    Raised s (armActivation s (.num 1)) 0x063 ∧ Outside [.cat, .mgmt, .upd] s (armActivation s (.num 1)) := by
  unfold armActivation
  simp -zeta only [hc]
  rw [if_neg (by decide)]
  extract_lets v
  have hv : StagingStep [] s (putSg v sgArmed) := (StagingStep.setUpd s fun u =>
    { u with armedFrom := s.sgState, armedAt := s.now, armedWho := some c, prepared := false }).trans (.putSg v _)
  have ho := outside_raise (putSg v sgArmed) 0x063 0 (be 8 c.pick ++ be 4 (v.num 0x100100 8))
  have hvo : Outside [.upd] s v := outside_setUpd s _
  refine ⟨(num_raise_staging _ (by decide) (by decide)).trans (num_put_self ..), ?_, ?_, ?_,
    hv.raised (by decide) (by decide) (by simp), ?_⟩
  · rw [ho .upd (by decide)]
    rfl
  · rw [ho .upd (by decide)]
    rfl
  · rw [ho .upd (by decide)]
    rfl
  · exact ((hvo.mono (by decide)).andThen (outside_put v _ _ _) (by decide)).andThen ho (by decide)

theorem timedCmd_carried (s : State) (r : Req) (pos b n key : Nat) (v : Val) :
    timedCmd s (carried r) pos b n key v = timedCmd s r pos b n key v := by
  unfold carried
  split <;> rfl

/-- An untimed ACTIVATE of 1 is accepted for the first pick that meets the lead time (R495). -/
theorem activate_spec {c : TimedCmd} {r : Req} (hp : Passes s r (ent 0x100100 0x0A) (.num 1) activateRule)
    (ht : (carried r).toe = .none) (hn : n = activationPick s)
    (hc : c = timedCmd s r 0 s.rulingNext n (ent 0x100100 0x0A) (.num 1)) (ha : admits s c = true) :
    Does (.activate r 1) s fun u => u.cap.answer = { status := stAccepted, detail := n % 2 ^ 32 } ∧
      u.ruling.timed = s.ruling.timed ++ [c] ∧ u.sgState = sgArmed ∧ u.upd.armedFrom = s.sgState ∧ u.upd.armedWho = some c ∧
      u.upd.prepared = false ∧ Raised s u 0x063 ∧ Outside [.cat, .ruling, .cap, .mgmt, .upd] s u := by
  obtain ⟨hm, hck, hj⟩ := hp
  subst hn
  have hcc : timedCmd s (carried r) 0 (activateRule.base s) (activationPick s) (ent 0x100100 0x0A) (.num 1) = c :=
    (timedCmd_carried ..).trans hc.symm
  have he := executeWrite_picked (pos := 0) (key := ent 0x100100 0x0A) (checkTiming_none ht) hj (show activateRule.pick s (.num 1) = some (activationPick s) from rfl)
  rw [hcc, if_pos ha] at he
  have hx : exec (.activate r 1) s = .next (submit s r (ent 0x100100 0x0A) (.num 1) activateRule) := rfl
  refine ⟨_, hx, ?_⟩
  rw [submit_executes hm hck, he]
  have ht : Outside [.ruling] s (acceptTimed s c) := fun p hp => by cases p <;> simp at hp ⊢
  have hl : (acceptTimed s c).ruling.timed.getLast? = some c := by simp [acceptTimed]
  obtain ⟨h1, h2, h3, h4, h5, h6⟩ := armActivation_spec c (acceptTimed s c) hl
  have hat : (acceptAt s (carried r) 0 (ent 0x100100 0x0A) (.num 1) activateRule (activationPick s)).s =
      armActivation (acceptTimed s c) (.num 1) := congrArg (fun d => armActivation (acceptTimed s d) (.num 1)) hcc
  rw [hat]
  refine ⟨rfl, ?_, h1, h2, h3, h4, h5, ((ht.mono (by decide)).andThen h6 (by decide)).andThen (reply_outside _ _ _) (by decide)⟩
  exact congrArg Ruling.timed (h6 .ruling (by decide))

/-- A timed command that goes reports itself in event 010h, or 482h for a take. -/
theorem cancelTimed_events (s : State) (p : TimedCmd → Bool) (st : Nat) : EventsBut [0x010, 0x482] s (cancelTimed s p st) := by
  unfold cancelTimed
  extract_lets gone r v
  exact (EventsBut.of_cat (t := v) rfl).trans
    (.foldl (ms := [0x010, 0x482]) _ _ v fun s c _ => .of_finishCmd s c st (by decide) (by decide))

/-- The timed commands a cancellation leaves. -/
theorem timed_cancelTimed (s : State) (p : TimedCmd → Bool) (st : Nat) :
    (cancelTimed s p st).ruling.timed = s.ruling.timed.filter fun c => !p c := by
  unfold cancelTimed
  extract_lets gone r v
  have h : ∀ (l : List TimedCmd) (s : State), (l.foldl (fun s c => finishCmd s c st) s).ruling = s.ruling := by
    intro l
    induction l with
    | nil => intro s; rfl
    | cons c l ih => intro s; exact (ih _).trans (by simp)
  rw [h]

theorem cancelTimed_outside (s : State) (p : TimedCmd → Bool) (st : Nat) :
    Outside [.cat, .ruling, .mgmt] s (cancelTimed s p st) := fun q hq => by cases q <;> simp at hq ⊢

/-- A failed preparation cancels the activation and fails the staging (R495). -/
theorem prepareActivation_spec (h : s.sgState = sgArmed) (hp : s.upd.prepared = false) (failed : Option (Fin 6)) :
    Outside [.cat, .ruling, .mgmt, .upd] s (prepareActivation s failed) ∧
    (failed = none → (prepareActivation s failed).upd = { s.upd with prepared := true } ∧
      (prepareActivation s failed).sgState = sgArmed ∧ (prepareActivation s failed).ruling = s.ruling) ∧
    (∀ p, failed = some p → (prepareActivation s failed).sgState = sgFailed ∧ (prepareActivation s failed).num 0x100100 6 = 7 ∧
      (prepareActivation s failed).num 0x100100 7 = p ∧ Raised s (prepareActivation s failed) 0x065 ∧
      (prepareActivation s failed).ruling.timed = s.ruling.timed.filter (fun c => !isActivate c)) := by
  unfold prepareActivation
  rw [if_neg (by simp [h, hp])]
  cases failed with
  | none => exact ⟨(outside_setUpd s _).mono (by decide), fun _ => ⟨rfl, h, rfl⟩, fun p hp => nomatch hp⟩
  | some p =>
    simp only
    have hc := cancelTimed_outside s isActivate stBusy
    have hce := cancelTimed_events s isActivate stBusy
    have hct := timed_cancelTimed s isActivate stBusy
    generalize cancelTimed s isActivate stBusy = c at *
    obtain ⟨x, hx⟩ : ∃ x, x = ((((putSg c sgFailed).put 0x100100 6 7).put 0x100100 7 p.val).setUpd fun u =>
      { u with armedWho := none }) := ⟨_, rfl⟩
    have hs : StagingStep [] c x := hx ▸ (((StagingStep.putSg c _).trans (.put _ (by decide) _)).trans
      (.put _ (by decide) _)).trans (.setUpd _ _)
    have hxo : Outside [.cat, .upd] c x := hx ▸ ((((outside_put c _ _ _).mono (by decide)).andThen
      (outside_put (putSg c sgFailed) _ _ _) (by decide)).andThen (outside_put _ _ _ _) (by decide)).andThen
      (outside_setUpd _ _) (by decide)
    have x1 : x.num 0x100100 1 = sgFailed := by
      simp (disch := decide) only [hx, putSg, num_setUpd, num_put_staging, num_put_self]
    have x6 : x.num 0x100100 6 = 7 := by
      simp (disch := decide) only [hx, putSg, num_setUpd, num_put_staging, num_put_self]
    have x7 : x.num 0x100100 7 = p.val := by
      simp (disch := decide) only [hx, putSg, num_setUpd, num_put_self]
    rw [← hx]
    clear hx
    have hn : ∀ a, a < 256 → (x.raise 0x065 0 (be 1 0 ++ be 1 7)).num 0x100100 a = x.num 0x100100 a := fun a ha =>
      num_raise_staging x (by decide) ha
    have hro := outside_raise x 0x065 0 (be 1 0 ++ be 1 7)
    have hr : Raised s (x.raise 0x065 0 (be 1 0 ++ be 1 7)) 0x065 :=
      (hce.trans (hs.events.mono (by simp))).raised (by decide) (by decide) (by decide)
    refine ⟨((hc.mono (by decide)).andThen hxo (by decide)).andThen hro (by decide), fun h => absurd h (by simp),
      fun q hq => ?_⟩
    obtain rfl : p = q := Option.some.inj hq
    refine ⟨(hn 1 (by decide)).trans x1, (hn 6 (by decide)).trans x6, (hn 7 (by decide)).trans x7, hr, ?_⟩
    exact (congrArg Ruling.timed ((hro .ruling (by decide)).trans (hxo .ruling (by decide)))).trans hct

end Sys2Proof.Machine
end

section
/-! Confirmation and revert of firmware, the service port, and the settlement of O54 (chapter 18). -/

namespace Sys2Proof.Machine

variable {s t u : State} {i a n k : Nat}

/-! ### The running package -/

theorem StagingStep.putRunning (s : State) (ha : a < 256) (x : Nat) : StagingStep [] s (s.put 0x100000 a x) :=
  ⟨(outside_put s _ _ _).mono (by decide), .of_put s ha (.inr (by decide))⟩

theorem num_putRunning_staging (s : State) {a b : Nat} (x : Nat) (ha : a < 256) (hb : b < 256) :
    (s.put 0x100000 a x).num 0x100100 b = s.num 0x100100 b :=
  num_put_of_apart ha hb (.inl (by decide)) (.inl (by decide))

theorem num_putStaging_running (s : State) {a b : Nat} (x : Nat) (ha : a < 256) (hb : b < 256) :
    (s.put 0x100100 a x).num 0x100000 b = s.num 0x100000 b :=
  num_put_of_apart ha hb (.inl (by decide)) (.inl (by decide))

theorem flipBanks_step (s : State) (l : List Nat) : StagingStep [] s (flipBanks s l) := by
  unfold flipBanks
  extract_lets n u v w x y
  exact (((((((StagingStep.putRunning s (by decide) _).trans (.put v (by decide) _)).trans (.put _ (by decide) _)).trans
    (.putOct w (by decide) _)).trans (.put x (by decide) _)).trans (.put _ (by decide) _)).trans (.setUpd y _))

/-- The MGC's own outcome of the ACTIVATE is its event 010h. -/
theorem completeCmd_staging (s : State) (c : Option TimedCmd) (st : Nat) : StagingStep [0x010, 0x482] s (completeCmd s c st) :=
  ⟨fun p hp => by cases p <;> simp at hp ⊢, by
    cases c with
    | none => exact .refl _ s
    | some c => exact .of_finishCmd s c st (by decide) (by decide)⟩

theorem putPrevious_step (s : State) :
    StagingStep [] s ((List.range 8).foldl (fun s i => s.put 0x100000 (i + 1) (s.upd.prevVersions.getD i 0)) s) := by
  have h : ∀ (l : List Nat) (s : State), (∀ i ∈ l, i < 8) →
      StagingStep [] s (l.foldl (fun s i => s.put 0x100000 (i + 1) (s.upd.prevVersions.getD i 0)) s) := by
    intro l
    induction l with
    | nil => intro s _; exact .refl _ s
    | cons i l ih =>
      intro s hl
      have hi := hl i (List.mem_cons_self ..)
      exact (StagingStep.putRunning s (by omega) _).trans (ih _ fun j hj => hl j (List.mem_cons_of_mem _ hj))
  exact h _ s fun i hi => List.mem_range.mp hi

/-! ### Confirmation and revert -/

/-- Restarted firmware confirms: event 064h (R497). -/
theorem confirmFirmware_spec (h : s.num 0x100000 0x0D ≠ 0) (hr : s.upd.revert = false)
    (hw : s.now ≤ s.upd.switchAt + second) : (confirmFirmware s).num 0x100000 0x0D = 0 ∧
    Raised s (confirmFirmware s) 0x064 ∧ (confirmFirmware s).upd.armedWho = none ∧ (confirmFirmware s).now = s.now ∧
    (MgcIdle s → MgcIdle (confirmFirmware s)) := by
  unfold confirmFirmware
  rw [if_neg (by simp [h, hr, hw])]
  extract_lets cmd old reset v w x
  have hv : EventsBut [] s v ∧ v.now = s.now ∧ (MgcIdle s → MgcIdle v) := by
    simp only [v]
    split
    · exact ⟨.of_cat rfl, rfl, id⟩
    · exact ⟨.refl _ s, rfl, id⟩
  obtain ⟨hve, hvn, hvi⟩ := hv
  clear_value v
  have hw' : StagingStep [] v w := .putRunning v (by decide) _
  have w13 : w.num 0x100000 0x0D = 0 := num_put_self ..
  have hxc : x.cap = v.cap := by simp [x, w]
  have hxn : x.now = v.now := by simp [x, w]
  clear_value w
  have hx : Raised s x 0x064 := (hve.trans hw'.events).raised (by decide) (by decide) (by simp)
  have x13 : x.num 0x100000 0x0D = 0 := (num_raise (by decide) _ _ (by decide) (.inr (by decide))).trans w13
  clear_value x
  have hz := completeCmd_staging x cmd stOk
  refine ⟨(num_completeCmd cmd _ _ _ (by decide) (by decide) (by decide)).trans x13,
    hx.then_events (hz.trans (.setUpd _ _)).events (by decide) (by decide) (by decide), rfl, ?_, fun hi => ?_⟩
  · exact ((completeCmd_frame x cmd stOk).2.1.trans hxn).trans hvn
  · have hc : (completeCmd x cmd stOk).cap = v.cap := (by simp : (completeCmd x cmd stOk).cap = x.cap).trans hxc
    have h := hvi hi
    unfold MgcIdle at h ⊢
    rw [← hc] at h
    exact h

/-- An unconfirmed bank that was booted at power-up gives way at once: events 065h and 066h (R497, R498). -/
theorem revertFirmware_spec (s : State) : (revertFirmware s).now = s.now ∧ (revertFirmware s).num 0x100000 0x0D = 0 ∧
    (revertFirmware s).sgState = sgFailed ∧ (revertFirmware s).num 0x100100 6 = 8 ∧ Raised s (revertFirmware s) 0x065 ∧
    EventsBut [0x065, 0x010, 0x482] s (revertFirmware s) ∧ (revertFirmware s).upd.rebooted = false ∧
    (revertFirmware s).cap = s.cap := by
  unfold revertFirmware
  extract_lets cmd failed v w x
  have hv : StagingStep [] s v := (putPrevious_step s).trans (flipBanks_step _ _)
  have hvn : v.now = s.now := hv.outside .now (by decide)
  have hvc : v.cap = s.cap := by
    have hf := Outside.foldl (ps := [.cat]) (fun s i => s.put 0x100000 (i + 1) (s.upd.prevVersions.getD i 0)) (List.range 8) s
      fun s i => outside_put s _ _ _
    exact (flipBanks_frame _ _).2.2.2.2.2.1.trans (hf .cap (by decide))
  clear_value v
  have hw : StagingStep [] v w := ((StagingStep.putSg v _).trans (.put _ (by decide) _)).trans (.putRunning _ (by decide) _)
  have w13 : w.num 0x100000 0x0D = 0 := num_put_self ..
  have w1 : w.num 0x100100 1 = sgFailed := by
    simp (disch := decide) only [w, putSg, num_putRunning_staging, num_put_staging, num_put_self]
  have w6 : w.num 0x100100 6 = 8 := by
    simp (disch := decide) only [w, putSg, num_putRunning_staging, num_put_self]
  have hwc : w.cap = v.cap := by simp [w]
  clear_value w
  have hx : Raised s x 0x065 := (hv.trans hw).raised (by decide) (by decide) (by simp)
  have hxs : StagingStep [0x065] s x := (hv.trans hw).trans (.raise w _ _ _)
  have hxn : ∀ i a, a < 256 → i < 0x0E0000 ∨ 0x0E1FFF < i → x.num i a = w.num i a := fun i a ha hi =>
    num_raise (by decide) i a ha hi
  have hxc : x.cap = w.cap := by simp [x]
  clear_value x
  have hz : StagingStep [0x010, 0x482] x ((completeCmd x cmd stTargetUnavailable).setUpd fun u =>
    { u with revert := false, armedWho := none, rebooted := false }) := (completeCmd_staging x cmd _).trans (.setUpd _ _)
  have hzn : ∀ i a, a < 256 → 0x0E1FFF < i → (completeCmd x cmd stTargetUnavailable).num i a = w.num i a := fun i a ha hi =>
    (num_completeCmd cmd _ i a ha (.inr hi) (.inr (lt_trans (by decide) hi))).trans (hxn i a ha (.inr hi))
  refine ⟨(hxs.trans hz).outside .now (by decide), (hzn _ _ (by decide) (by decide)).trans w13,
    (hzn _ _ (by decide) (by decide)).trans w1, (hzn _ _ (by decide) (by decide)).trans w6,
    hx.then_events hz.events (by decide) (by decide) (by decide), (hxs.trans hz).events, rfl, ?_⟩
  have hc : (completeCmd x cmd stTargetUnavailable).cap = x.cap := by simp
  exact ((hc.trans hxc).trans hwc).trans hvc

theorem confirmTimeout_spec (h : s.num 0x100000 0x0D ≠ 0) (hr : s.upd.revert = false) :
    (confirmTimeout s).now = max s.now (s.upd.switchAt + second) ∧
    (s.upd.rebooted = false → (confirmTimeout s).upd = { s.upd with revert := true } ∧ (confirmTimeout s).cat = s.cat) ∧
    (s.upd.rebooted = true → (confirmTimeout s).num 0x100000 0x0D = 0 ∧ (confirmTimeout s).sgState = sgFailed ∧
      (confirmTimeout s).num 0x100100 6 = 8 ∧ Raised s (confirmTimeout s) 0x065 ∧ Raised s (confirmTimeout s) 0x066 ∧
      (confirmTimeout s).upd.rebooted = false) ∧ (confirmTimeout s).cap = s.cap := by
  unfold confirmTimeout
  rw [if_neg (by simp [h, hr])]
  have hvn := now_waitUntil_max s (s.upd.switchAt + second)
  have hvo := outside_waitUntil s (s.upd.switchAt + second)
  generalize s.waitUntil (s.upd.switchAt + second) = v at *
  have hvu : v.upd = s.upd := hvo .upd (by decide)
  have hvc : v.cap = s.cap := hvo .cap (by decide)
  have hvt : v.cat = s.cat := hvo .cat (by decide)
  have hve : EventsBut [] s v := .of_cat hvt
  simp only [hvu]
  by_cases hb : s.upd.rebooted = true
  · rw [if_pos hb]
    obtain ⟨rn, r13, r1, r6, r65, re, ru, rc⟩ := revertFirmware_spec v
    have ho := outside_raise (revertFirmware v) 0x066 0 (be 1 1)
    have hn : ∀ i a, a < 256 → i < 0x0E0000 ∨ 0x0E1FFF < i →
        ((revertFirmware v).raise 0x066 0 (be 1 1)).num i a = (revertFirmware v).num i a := fun i a ha hi =>
      num_raise (by decide) i a ha hi
    refine ⟨((ho .now (by decide)).trans rn).trans hvn, fun h => by simp [hb] at h, fun _ => ⟨?_, ?_, ?_, ?_, ?_, ?_⟩,
      ((ho .cap (by decide)).trans rc).trans hvc⟩
    · exact (hn _ _ (by decide) (by decide)).trans r13
    · exact (hn _ _ (by decide) (by decide)).trans r1
    · exact (hn _ _ (by decide) (by decide)).trans r6
    · exact (Raised.after_events (ms := []) hve r65 (by decide) (by decide) (by simp)).then_events (ms := [0x066])
        (.of_raise _ (by simp)) (by decide) (by decide) (by decide)
    · exact ((hve.mono (by simp)).trans re).raised (by decide) (by decide) (by decide)
    · rw [ho .upd (by decide)]
      exact ru
  · rw [if_neg hb]
    have hso := outside_setUpd v fun y => { y with revert := true }
    refine ⟨(hso .now (by decide)).trans hvn, fun _ => ⟨?_, (hso .cat (by decide)).trans hvt⟩, fun h => absurd h hb,
      (hso .cap (by decide)).trans hvc⟩
    simp only [State.setUpd, hvu]

theorem MgcIdle.of_cap (h : MgcIdle s) (hc : t.cap = s.cap) : MgcIdle t := by
  unfold MgcIdle at h ⊢
  rw [hc]
  exact h

/-! ### The rows -/

theorem receiving_of_judge {r : Req} {v : Val} (h : chunkRule.judge s r v = none) : s.sgState = sgReceiving := by
  by_contra hne
  simp [chunkRule, hne, refuse] at h

/-- Settles O54: each row of chapter 18 through the lemma of its function; the requests that waited for the MGC are none
where the MGC is idle. -/
theorem updatesStageActivateAndConfirm : Obligations.UpdatesStageActivateAndConfirm := by
  unfold Obligations.UpdatesStageActivateAndConfirm
  refine ⟨?off, ?busy, ?read, ?receive, ?poll, ?opens, ?chunk, ?verify, ?unverified, ?expiry, ?activate, ?activate0,
    ?prepared, ?confirm, ?unconfirmed, ?timeout⟩
  case off =>
    intro s b hp
    have hc : capAnswers s = false := by rcases hp with h | h <;> simp [capAnswers, h]
    exact congrArg Host.Outcome.next (by simp [serviceSend, hc])
  case busy =>
    intro s b h1 h2 hb
    have hc : capAnswers s = true := by simp [capAnswers, h1, h2]
    have he : serviceSend s b = s.count 0x100000 0x0E 32 1 := by simp [serviceSend, hc, hb]
    exact ⟨_, congrArg Host.Outcome.next he, outside_put s _ _ _, num_count_self ..⟩
  case read => exact fun s b f key x => svcSend_read
  case receive =>
    intro s hm
    cases hs : s.upd.svcRsp with
    | some b =>
      refine ⟨{ s with upd := { s.upd with svcOut := be 2 b.length ++ b, svcRsp := none } },
        congrArg Host.Outcome.next ((if_neg (by simp [hm])).trans ?_), fun p hp => by cases p <;> simp at hp ⊢,
        fun c hc => by rw [← Option.some.inj hc], fun h => absurd h (by simp)⟩
      rw [hs]
    | none =>
      refine ⟨{ s with upd := { s.upd with svcOut := be 2 0 } },
        congrArg Host.Outcome.next ((if_neg (by simp [hm])).trans ?_), fun p hp => by cases p <;> simp at hp ⊢,
        fun c hc => absurd hc (by simp), fun _ => rfl⟩
      rw [hs]
  case poll =>
    intro s hm
    exact ⟨_, congrArg Host.Outcome.next (if_neg (by simp [hm])), fun p hp => by cases p <;> simp at hp ⊢, rfl⟩
  case opens =>
    intro s r n hw
    refine does_write rfl hw rfl fun u hu => ?_
    obtain ⟨ho, hc, h3, h4, hr, h0, h1⟩ := openStaging_spec s n 0
    obtain ⟨l, hl⟩ := hu.upd
    refine ⟨hu.ok, ho.andThen hu.outside (by decide), by rw [hl]; exact hc, (hu.num _ _).trans h3, (hu.num _ _).trans h4,
      fun h => (hr h).congr (hu.num _ _), fun h => (hu.num _ _).trans (h0 h), fun h => ?_⟩
    obtain ⟨hs, h60⟩ := h1 h
    exact ⟨(hu.num _ _).trans hs, h60.congr (hu.num _ _)⟩
  case chunk =>
    rintro s r idx crc i data b rfl rfl hw
    obtain ⟨⟨-, -, hj⟩, -, -⟩ := id hw
    refine does_write rfl hw rfl fun u hu => ?_
    obtain ⟨ho, hc, hs, hn, hv, hr⟩ := storeChunk_spec s (fieldBE (be 4 idx ++ be 2 data.length ++ data ++ be 4 crc) 0 4)
      (slice (be 4 idx ++ be 2 data.length ++ data ++ be 4 crc) 6 1024) (receiving_of_judge hj)
    obtain ⟨l, hl⟩ := hu.upd
    refine ⟨hu.ok, (ho.mono (by decide)).andThen hu.outside (by decide), by rw [hl]; exact hc, ?_, ?_, ?_, ?_⟩
    · exact fun h => (hu.num _ _).trans (hs h)
    · exact fun h => (hu.num _ _).trans (hn h)
    · exact fun h => (hu.num _ _).trans (hv ((hu.num _ _).symm.trans h))
    · exact fun h => (hu.num _ _).trans (hr fun e => h ((hu.num _ _).trans e))
  case verify =>
    intro s h
    obtain ⟨hr, ho, hs, h6, h7⟩ := verifyPackage_spec h
    exact ⟨_, rfl, hr, ho, fun hf => by simp [hs, h6, h7, hf], fun c p hf => by simp [hs, h6, h7, hf]⟩
  case unverified =>
    intro s h
    exact congrArg Host.Outcome.next (if_pos h)
  case expiry =>
    intro s h
    exact ⟨_, rfl, expireStaging_spec h⟩
  case activate => exact fun s r n c hp ht hn hc ha => activate_spec hp ht hn hc ha
  case activate0 =>
    intro s r hw
    exact does_write rfl hw rfl fun u hu => ⟨hu.ok, hu.outside, hu.num _ _⟩
  case prepared =>
    intro s failed h hp
    exact ⟨_, rfl, prepareActivation_spec h hp failed⟩
  case confirm =>
    intro s h hr hw hi
    obtain ⟨h13, h64, ha, hn, hm⟩ := confirmFirmware_spec h hr hw
    exact ⟨_, congrArg Host.Outcome.next (hm hi).pump_eq_self, h13, h64, ha, hn⟩
  case unconfirmed =>
    intro s h hi
    have he : confirmFirmware s = s := if_pos h
    exact congrArg Host.Outcome.next ((congrArg pump he).trans hi.pump_eq_self)
  case timeout =>
    intro s h hr hi
    obtain ⟨hn, h0, h1, hc⟩ := confirmTimeout_spec h hr
    exact ⟨_, congrArg Host.Outcome.next (hi.of_cap hc).pump_eq_self, hn, h0, h1⟩

end Sys2Proof.Machine
end
